-- ==== Sys2Proof/Word.lean ====
section
/-! DEFINITION. The word types.  Raw object values are natural numbers below 2 to the power of eight times the
object's size (R413); the free values are 64-bit words. -/

namespace Sys2Proof

/-- A 64-bit word, the widest word a port carries (R413). -/
abbrev Word64 := BitVec 64

/-- Time in units of 1/16 ns (R11). -/
abbrev Ticks := Nat

end Sys2Proof
end

