-- ==== Sys2Proof/Syntax.lean ====
section
/-! DEFINITION. The commands of the block, one constructor per row of spec/opcode_table.json, and the operands
they carry.  A command is a write or a read of one of the block's registers, an operation of one of its ports, an
event on a pin or at a clock, or the end of a wait that the spec states.  What a physical quantity is (a sensor
reading, a phase difference, a frame from a partner) travels with the command as an operand. -/

set_option Elab.async false

namespace Sys2Proof

/-- Where an access comes from (R416): the host register port, the field bus with its FDP source address, the
budget-frame port with the frame's SRC, or the engine port with its requester. -/
inductive Src where
  | host
  | fbus (addr : Nat)
  | net (src : Nat)
  | eng (id : Nat)
  deriving DecidableEq, Repr, Inhabited

/-- A write of an object: its source, the element, the number of bytes written and their value (R414). -/
structure Wr where
  src : Src := .host
  el : Nat := 0
  len : Nat := 0
  val : Nat := 0
  deriving DecidableEq, Repr, Inhabited

/-- A request on the engine port: EP_REQ_ID, EP_REQ_ARG and EP_REQ_DATA (R42, R44). -/
structure EpReq where
  id : Nat := 0
  arg : Nat := 0
  data : Nat := 0
  deriving DecidableEq, Repr, Inhabited

/-- A field-bus frame: its 29-bit identifier, whether it is an extended frame, and its payload bytes as a
little-endian value with its length (R458, R462). -/
structure FdpFrame where
  ident : Nat := 0
  ext : Bool := true
  len : Nat := 0
  data : Nat := 0
  deriving DecidableEq, Repr, Inhabited

/-- What discovery finds on one serial port of Fondant (R472, R473): the sectors of the device, 0 when it fails discovery,
and whether the device that was there has been replaced: `some false` by an erased one, `some true` by one that
carries another part's store. -/
structure FlashDev where
  sectors : Nat := 0
  swapped : Option Bool := none
  deriving DecidableEq, Repr, Inhabited

/-- A word on an outbound lane with its valid bit at 1 (XC_*W_VLD and XC_*W_DATA, R149): edge, cell of the edge, bulk or
priority, the word. -/
structure XWord where
  edge : Nat := 0
  cell : Nat := 0
  prio : Bool := false
  data : Nat := 0
  deriving DecidableEq, Repr, Inhabited

/-- An inbound lane that the receiver takes from (XC_*R_RDY at 1, R149): edge, cell of the edge, bulk or priority. -/
structure XTake where
  edge : Nat := 0
  cell : Nat := 0
  prio : Bool := false
  deriving DecidableEq, Repr, Inhabited

/-- What a region cycle brings from outside: per edge, whether the synchroniser of the monitor pointer resolved to
the later value (R125), the measured duration of the cycle that ended, in parts of 160 of a net period (R214), the words that the region
offers on its outbound lanes in this cycle, and the inbound lanes it takes from (R149). -/
structure CycleIn where
  late : Nat := 0
  dur : Nat := 0
  words : List XWord := []
  takes : List XTake := []
  deriving DecidableEq, Repr, Inhabited

/-- One instant of a region's Droop Sensors (R102): the reading of each sensor as (sensor, taps), and whether the
decision arrives while a half-cycle of the present period is still propagating (R104). -/
structure DsSample where
  readings : List (Nat × Nat) := []
  early : Bool := false
  deriving DecidableEq, Repr, Inhabited

/-- A message on a hop of the spine: its sequence number on the hop, its 64 bits, and which of those and of the parity bit
above them were turned over on the way (R20). -/
structure HopMsg where
  seq : Nat := 0
  msg : Nat := 0
  flips : Nat := 0
  deriving DecidableEq, Repr, Inhabited

/-- What a hop of the spine finds: whether the message is missing from the sequence; and of its retransmission, whether it
is lost and which bits are turned over (R20). -/
structure HopTry where
  gap : Bool := false
  lost : Bool := false
  flips : Nat := 0
  deriving DecidableEq, Repr, Inhabited

/-- A sequencer: its code, and its element among those of the code (R39). -/
structure SeqId where
  code : Nat := 0
  elem : Nat := 0
  deriving DecidableEq, Repr, Inhabited

/-- A correction on its way: the region that receives it and the sequence number of the mark it corrects (R213, R214). -/
structure CorrIn where
  region : Nat := 0
  seq : Nat := 0
  deriving DecidableEq, Repr, Inhabited

/-- One thermal-sensor conversion: the reading in 0.25 °C, or none when it did not finish in its slot (R530). -/
structure TsReading where
  value : Option Int := none
  deriving DecidableEq, Repr, Inhabited

/-- What the cold calibration measures in one region (R503): what each thermal sensor reads over its 2.5 s (0.25 °C), F[0] to F[64]
at each of the four voltage codes, and the trims found by the binary search; `temp` is the temperature the curve is measured at. -/
structure CalMeas where
  region : Nat := 0
  sensors : List Int := []
  freqs : List (List Nat) := []
  temp : Int := 0
  trims : Nat := 0
  deriving DecidableEq, Repr, Inhabited

/-- The commands. -/
inductive Instr where
  /-- COLD_RESET: POR_N goes low and every unit, AON included, resets asynchronously with outputs at their reset values. (R495) -/
  | coldReset
  /-- WARM_RESET: SYS_RST_N goes low and every unit except the digest latch, ALERT_STATUS, RESET_CAUSE and the reset counters resets. (R495) -/
  | warmReset
  /-- POWER_UP: Release of POR_N or SYS_RST_N starts AON on the internal oscillator, begins the SRAM wipe and starts reference qualification. (R499) -/
  | powerUp
  /-- REF_SELECT: Once a reference is valid, start-up selects REFA_CK or REFB_CK and starts and locks the CTL PLL. (R202) -/
  | refSelect
  /-- FONDANT_MOUNT: Once CTL runs, the flash devices are discovered and mounted, the head is found, records are restored as class P writes and the sync port opens. (R478) -/
  | fondantMount (a : FlashDev) (b : FlashDev)
  /-- EXCLUDED_MAP_APPLY: After the mount, the newest EXCLUDED_MAP record is read and applied, and then the START stage loads. (R501) -/
  | excludedMapApply
  /-- RAIL_ENUMERATION: At 1.0 ms RZ_CLK starts on every link and each rail controller is identified, rated, read and its telemetry enabled. (R377) -/
  | railEnumeration
  /-- COLD_CALIBRATION: In BLANK, the block formats flash, offsets the thermal sensors, measures provisional curves and trims the droop sensors over 3.0 s. (R503) -/
  | coldCalibration (meas : List CalMeas)
  /-- OSC_START: Start-up step 6 seeds every present, non-excluded region at N = 160, drives RGN_CK and launches REF_MARK. (R93) -/
  | oscStart
  /-- COUNT_RELEASE: An agent whose count is held releases it at the first region cycle after REF_MARK passes its synchroniser. (R93) -/
  | countRelease (n : Nat)
  /-- ISO_RELEASE: Once trim has ended in every group, start-up sets ISO_EN_RTR and ISO_EN_CORE to 0 and sets ALIGNED. (R57) -/
  | isoRelease
  /-- MAILBOX_OPEN: When STATE_LOADED sets, the Mailbox Unit opens and the field-bus controller joins the bus. (R499) -/
  | mailboxOpen
  /-- START_RAMP: Each group steps from N = 160 toward its target in chained steps, with e_pow set to OP_FIRST. (R499) -/
  | startRamp
  /-- BLOCK_READY: Once the ramp has ended, and not before 25 ms, UNIT_READY.READY sets. (R499) -/
  | blockReady
  /-- DICT_OPEN: When CAL_LOADED sets, the last class P write is applied, the restore audit record is written and DICT sets. (R420) -/
  | dictOpen
  /-- BUDGET_OPEN: When DICT is set, the life-cycle state is DEPLOYED and a group has a field, budget exchange opens. (R499) -/
  | budgetOpen
  /-- ESTIMATOR_READY: ESTIMATOR sets once every present, non-excluded region reports validity 1. (R499) -/
  | estimatorReady
  /-- PRALINE_OPEN: Once the Praline chain is loaded, Praline opens and PRALINE sets. (R315) -/
  | pralineOpen
  /-- STARTUP_WATCHDOG: When a start-up step has not ended within 5 s, START_STATE reads FAILED and ALERT_N is asserted. (R500) -/
  | startupWatchdog
  /-- SELF_RESET_REQ: A write of 1 starts a commit and hands Fondant the audit summary ahead of a self-reset. (R497) -/
  | selfResetReq (w : Wr)
  /-- SELF_RESET_APPLY: When the commit is complete, or after 2 s, the block applies a warm reset to itself for 1 µs. (R497) -/
  | selfResetApply
  /-- JOB_RESET_HALT: JOB_RST_N seen low halts every group: it freezes steps, clears throttle, ends runs and parks, stops clocks and resets mailboxes and locks. (R509) -/
  | jobResetHalt
  /-- WARM_REARM: JOB_RST_N seen high after the halt sets modes, restarts and aligns the regions, ramps the groups and sets READY. (R510) -/
  | warmRearm
  /-- FAULT_LINE: The first fault line seen on CTL freezes every group's operating point. (R24) -/
  | faultLine
  /-- FAULT_REPORT: A fault report arrives at the fault unit, which latches it as the digest or logs it as a later fault. (R523) -/
  | faultReport (k : Nat)
  /-- LINE_ONLY: When no report follows a fault line within 0.9 µs, the unit latches class LINE_ONLY. (R523) -/
  | lineOnly
  /-- SPINE_RETRANSMIT: A hop finds a parity error or a sequence gap and requests retransmission from the previous hop. (R20) -/
  | spineRetransmit (src dst : Nat × Nat) (m : HopMsg) (x : HopTry)
  /-- SEQ_PARITY: A parity error or an illegal state in a sequencer counts as a failure of that sequencer. (R39) -/
  | seqParity (code : Nat) (elem : Nat)
  /-- WATCHDOG: A sequencer stays out of idle beyond its limit, and a job fault or a function reset follows. (R39) -/
  | watchdog (q : SeqId) (us : Nat)
  /-- WEIGHT_RELOAD: An uncorrectable weight entry is reloaded from its factory weight in Fondant within 10 ms. (R41) -/
  | weightReload (n : Nat)
  /-- ALERT_ACK: A write clears the written ALERT_STATUS bits, except FAULT while JOB_RST_REQ is 1. (R527) -/
  | alertAck (w : Wr)
  /-- ALERT_HOLD_EXPIRY: The 100 µs minimum low time of ALERT_N ends, and the pin follows ALERT_STATUS AND ALERT_MASK. (R526) -/
  | alertHoldExpiry
  /-- INJ_DS_READING: Injection point 1 forces a Droop Sensor reading for a number of periods. (R536) -/
  | injDsReading (w : Wr)
  /-- INJ_TS_READING: Injection point 2 forces a thermal sensor reading for a number of reads. (R536) -/
  | injTsReading (w : Wr)
  /-- INJ_REF_A_LOSS: Injection point 3 makes monitor A see no edge for a set duration. (R536) -/
  | injRefALoss (w : Wr)
  /-- INJ_REF_B_LOSS: Injection point 4 makes monitor B see no edge for a set duration. (R536) -/
  | injRefBLoss (w : Wr)
  /-- INJ_SLIP: Injection point 5 adds an offset to one measured slip on an edge. (R536) -/
  | injSlip (w : Wr)
  /-- INJ_RZ_CRC: Injection point 6 makes the next frames received on a rail's link fail their CRC. (R536) -/
  | injRzCrc (w : Wr)
  /-- INJ_FN_RECORD: Injection point 7 makes the next record programmed on a device fail verification. (R536) -/
  | injFnRecord (w : Wr)
  /-- INJ_SRAM_BIT: Injection point 8 flips one or two bits of a named SRAM word. (R545) -/
  | injSramBit (w : Wr)
  /-- INJ_SPINE_PARITY: Injection point 9 sends the next messages leaving a hop on its upward link with bad parity. (R536) -/
  | injSpineParity (w : Wr)
  /-- INJ_EST_OVERFLOW: Injection point 10 makes the region's next window accumulator overflow. (R536) -/
  | injEstOverflow (w : Wr)
  /-- INJ_FDP_FRAMING: Injection point 11 makes the next FDP requests addressed to the block parse as malformed. (R536) -/
  | injFdpFraming (w : Wr)
  /-- INJ_EXPIRED: An injection whose effect finds nothing to act on within 1 s ends with result EXPIRED. (R535) -/
  | injExpired
  /-- FIELD_TEST_EXPIRY: FIELD_TEST_PERMIT clears when FIELD_TEST_TIME has passed since it was last written 1. (R538) -/
  | fieldTestExpiry
  /-- DOMAIN_TARGET: A write submits a domain power target to the power-switch sequencer and answers OK on acceptance. (R62) -/
  | domainTarget (w : Wr)
  /-- POWER_STEP_WAIT_END: A fixed wait or the 2 µs stagger of a power transition ends, and the sequencer issues the next step. (R52) -/
  | powerStepWaitEnd (d : Nat)
  /-- PD_ACK_CHANGE: PD_ACK reaches the awaited value, and the power transition proceeds to its next step. (R52) -/
  | pdAckChange (d : Nat) (rtr : Bool) (level : Bool)
  /-- PD_TIMEOUT: PD_ACK has not changed within 50 µs, and the sequencer raises a job fault and stalls the transition. (R53) -/
  | pdTimeout (d : Nat)
  /-- REF_MISSING_EDGE: A monitor sees no rising edge for 40 ns and declares its reference lost. (R199) -/
  | refMissingEdge (b : Bool)
  /-- REF_FREQ_WINDOW: A 10 µs frequency window ends, and a reference whose error exceeds the limit is declared lost. (R199) -/
  | refFreqWindow (b : Bool) (err : Int) (raw : Int)
  /-- HOLDOVER_RELOCK: 10 µs after holdover is declared, CTL makes a short stop and relocks to the internal oscillator. (R208) -/
  | holdoverRelock
  /-- CTL_SHORT_STOP_END: A CTL short stop ends, held requests are served and paused timers resume. (R190) -/
  | ctlShortStopEnd (us : Nat)
  /-- REF_QUALIFIED: A lost reference has passed both tests for REF_QUALIFY and becomes valid. (R201) -/
  | refQualified (b : Bool)
  /-- HOLDOVER_CEILING_REMOVE: When HOLD has cleared in every region of a group, its holdover ceiling is removed. (R210) -/
  | holdoverCeilingRemove (g : Nat)
  /-- REF_PREFER: A write naming a valid, unselected reference switches to it. (R207) -/
  | refPrefer (w : Wr)
  /-- INTOSC_MEASURE: Every 1 ms, the internal oscillator is measured against the selected reference, and INTOSC_ERR is stored. (R203) -/
  | intoscMeasure (err : Int)
  /-- TIME_MARK: T crosses a 1 µs multiple, so TIME_MARK is launched and correction messages are sent. (R213) -/
  | timeMark
  /-- TIME_CORRECTION: An agent receives a mark's correction and applies e to its time without moving it backward. (R214) -/
  | timeCorrection (x : CorrIn)
  /-- TIME_SET: A write requests that T step to a value at the next mark, refused BUSY during parks, floor throttle or a broadcast step. (R220) -/
  | timeSet (w : Wr)
  /-- TIME_OFFSET_ADJ: A write adds to the pending offset, which the time master absorbs by slewing. (R219) -/
  | timeOffsetAdj (w : Wr)
  /-- PPS_CAPTURE: A rising PPS edge stores T less 80 ns in PPS_TIME and increments PPS_COUNT. (R218) -/
  | ppsCapture (dt : Nat)
  /-- TS_CAPTURE: A rising TS_CAPTURE edge stores T less 80 ns in TS_TIME and increments TS_COUNT. (R218) -/
  | tsCapture (dt : Nat)
  /-- FLL_GATE_END: At the end of each 640 ns gate, the FLL updates its accumulator and the LOCKED, CEILING and FLOOR states. (R74) -/
  | fllGateEnd (n : Nat)
  /-- SIGMA_DELTA_SLOT: In each 16-cycle slot, the modulator applies the integer code or the code plus 1. (R75) -/
  | sigmaDeltaSlot (n : Nat)
  /-- OSC_UNLOCK: A running region that stays out of LOCKED for 100 µs increments OSC_UNLOCKS. (R77) -/
  | oscUnlock (n : Nat)
  /-- OSC_CEILING: CEILING stays set for 10 ms, and the event is logged with ALERT_N. (R77) -/
  | oscCeiling (n : Nat)
  /-- CAL_OFFSET_UPDATE: Every 1 ms, a LOCKED region moves CAL_OFFSET toward the observed offset. (R84) -/
  | calOffsetUpdate (n : Nat)
  /-- HEADROOM_REPORT: Every 1 ms, each agent reports its headroom against the guard band. (R87) -/
  | headroomReport (n : Nat)
  /-- AGE_DUE: Powered hours since the last sample reach AGE_INTERVAL × 24, and AGE_DUE sets. (R88) -/
  | ageDue (n : Nat)
  /-- AGE_SAMPLE_REQ: A write of 1 samples every AGE_DUE region whose group runs no job. (R90) -/
  | ageSampleReq (w : Wr)
  /-- AGE_SAMPLE_DONE: A 64-gate aging sample ends, and the degradation values and AGE_GUARD are updated and persisted. (R91) -/
  | ageSampleDone (n : Nat) (ratio : Nat)
  /-- START_FAIL: A region not LOCKED within 200 µs of start sets START_FAIL and reports a permanent fault. (R95) -/
  | startFail (n : Nat)
  /-- DROOP_TRIP: A sample trips a threshold with DEPTH not 0, and a droop run begins or deepens. (R102) -/
  | droopTrip (n : Nat) (readings : List (Nat × Nat)) (early : Bool)
  /-- DROOP_RUN_END: A droop run of DS_RUN_LEN periods ends, and the agent re-evaluates whether to start another. (R102) -/
  | droopRunEnd (n : Nat)
  /-- DS_STUCK: A sensor that trips on every sample for 10 µs is quarantined, given a fixed stretch and logged. (R110) -/
  | dsStuck (n : Nat) (sensor : Nat)
  /-- DS_QUARANTINE_CLEAR: A write of 0 to a sensor's quarantine bit returns it to service. (R112) -/
  | dsQuarantineClear (w : Wr)
  /-- DS_ENABLE: A write removing a sensor ends its quarantine, its fixed stretch and its guard step. (R112) -/
  | dsEnable (w : Wr)
  /-- PARK: A region's count reaches its park count, and the Stretch Engine holds the edge. (R109) -/
  | park (n : Nat)
  /-- PARK_RELEASE: Region time reaches the release time, and a parked region resumes. (R109) -/
  | parkRelease (n : Nat)
  /-- SLIP_FAULT: The measured slip on a tethered edge reaches ±5, and the agent raises a fault. (R132) -/
  | slipFault (n : Nat) (edge : Nat)
  /-- CAUSE_TAG_EXPIRY: After 64 periods with no stretch, the cause tag returns to the own region with class none. (R135) -/
  | causeTagExpiry (n : Nat)
  /-- CHANGE_BROADCAST: An agent receives a change broadcast naming count C and the new ratio. (R25) -/
  | changeBroadcast (n : Nat)
  /-- CHANGE_AT_C: A region's count reaches C, and the new code governs the period that begins there. (R70) -/
  | changeAtC (n : Nat)
  /-- ISLAND_RECOMPUTE: After a crossing leaves TETHERED between arms, the Conductor recomputes islands, anchors and diameters. (R143) -/
  | islandRecompute (g : Nat)
  /-- PTR_CHECK: Every 1024 cycles, the agent checks slot pointers of tethered cell halves against the expected value. (R154) -/
  | ptrCheck (n : Nat) (upset : List (Nat × Bool × Nat))
  /-- POINTER_LOAD: At count 16 after release, the agent sends pointer loads to every cell half. (R161) -/
  | pointerLoad (n : Nat)
  /-- RESYNC_INITIATE: At count 24, each read half initiates a resync to the mode that R140 gives. (R161) -/
  | resyncInitiate (n : Nat)
  /-- RESYNC_REQ_SEEN: The responding half sees REQ at 1, stops, sets its pointers, clears slots and raises ACK. (R155) -/
  | resyncReqSeen (n : Nat) (e : Nat) (wr : Bool)
  /-- RESYNC_ACK_SEEN: The initiating half sees ACK at 1, sets its pointers and lowers REQ. (R155) -/
  | resyncAckSeen (n : Nat) (e : Nat) (wr : Bool)
  /-- RESYNC_REQ_LOW_SEEN: The responding half sees REQ at 0, counts discards, enters the target mode and lowers ACK. (R155)
  The last operand says nothing: what is discarded follows from the counts of both halves. -/
  | resyncReqLowSeen (n : Nat) (e : Nat) (wr : Bool) (_ : Unit)
  /-- RESYNC_ACK_LOW_SEEN: The initiating half sees ACK at 0 and enters the target mode. (R155) -/
  | resyncAckLowSeen (n : Nat) (e : Nat) (wr : Bool)
  /-- XING_FENCE: A write fences or unfences both directions of a region's edges. (R159) -/
  | xingFence (w : Wr)
  /-- TRIM_END: When TRIM_TIME has passed, every region is LOCKED and slip stays within 1, the group leaves trim mode. (R162) -/
  | trimEnd (g : Nat)
  /-- ALIGN_FAIL: Trim has not ended 1 ms after release, and a job fault is raised naming the region with the largest SLIP_PEAK. (R162) -/
  | alignFail (g : Nat)
  /-- GROUP_TARGET: A new group target arrives and starts a step or becomes the pending target. (R29) -/
  | groupTarget (g : Nat) (target : Nat)
  /-- GROUP_STEP_START: The group change sequencer clips the target, queries v_need, and raises voltages or chooses and broadcasts C. (R183) -/
  | groupStepStart (g : Nat)
  /-- VOLT_CONFIRM: Rail telemetry confirms every raised field, and the sequencer chooses C and broadcasts. (R185) -/
  | voltConfirm (g : Nat)
  /-- VOLT_TIMEOUT: A raise is not confirmed within VOLT_SETTLE_LIMIT, and the step ends with no broadcast. (R185) -/
  | voltTimeout (g : Nat)
  /-- GROUP_STEP_END: Window reports show every island anchor past C plus margin, so GROUP_N updates and falling voltages are requested. (R186) -/
  | groupStepEnd (g : Nat)
  /-- REGION_TARGET_N: A write requests a region-stop change of an untethered or detached region. (R175) -/
  | regionTargetN (w : Wr)
  /-- REGION_STOP_START: A region stop reaches its turn: it raises voltage if rising, then sends the quiesce with a new epoch. (R187) -/
  | regionStopStart
  /-- QUIESCE_ACK: SY_QACK with the step's epoch arrives, and the stop command is sent to the agent. (R188) -/
  | quiesceAck (epoch : Nat)
  /-- QUIESCE_TIMEOUT: No matching acknowledgement arrives within 100 µs, so the step aborts and the release is sent. (R188) -/
  | quiesceTimeout
  /-- STOP_COMMAND: The agent receives the stop command and raises REQ on every decoupled cell half. (R187) -/
  | stopCommand (n : Nat)
  /-- STOP_ACK: Every ACK of the participating cells is seen, so RGN_CK is held low and the new seed is loaded. (R187) -/
  | stopAck (n : Nat)
  /-- REGION_RESTART: The 2 µs stop ends: the clock restarts at the new code and REQ is lowered. (R189) -/
  | regionRestart (n : Nat)
  /-- RESTART_REPORT: The restart report reaches the Conductor, which sends the release and lowers voltage for a falling step. (R187) -/
  | restartReport (n : Nat)
  /-- SWEEP_START: A lane sweep begins on the first region cycle of a window with no sweep in progress. (R47) -/
  | sweepStart (n : Nat)
  /-- LANE_RESPONSE: ACT_VLD returns a lane value, or is missing or stray, and the lane delta is computed. (R48) -/
  | laneResponse (n : Nat) (vld : Bool) (data : Nat)
  /-- WINDOW_CLOSE: Region time crosses a window boundary, and the agent computes the estimate and sends its window report. (R224) -/
  | windowClose (n : Nat)
  /-- WINDOW_REPORT: The Field Station sums or substitutes its regions' estimates, and throttle time, loss and energy are charged. (R235) -/
  | windowReport (f : Nat)
  /-- FAST_CAP_UPDATE: Once a field estimate is complete, the Field Station updates the stretch duty u and sends it to its agents. (R270) -/
  | fastCapUpdate (f : Nat)
  /-- EPISODE_CLOSE: After EPISODE_GAP windows with no dominant reason, the open episode closes and is logged. (R348) -/
  | episodeClose (g : Nat)
  /-- THERMAL_READ: Every 100 µs, the agent reads its thermal sensors and updates the region temperature. (R233) -/
  | thermalRead (n : Nat) (readings : List TsReading)
  /-- CAL_DECISION: A calibration interval's telemetry arrives or its wait ends, and the gates decide to skip or to send a sign. (R244) -/
  | calDecision (d : Nat)
  /-- CAL_SIGN: An agent receives an error sign and steps the active lanes' live weights within their band. (R245) -/
  | calSign (n : Nat)
  /-- WEIGHT_WINDOW_WRITE: A host write to the weight window travels to the agent and sets four live weights. (R240) -/
  | weightWindowWrite (off : Nat) (be : Nat) (val : Nat)
  /-- CAL_RESET_REQ: A write of 1 returns every live weight to factory and clears idle counters. (R250) -/
  | calResetReq (w : Wr)
  /-- EST_WEIGHT_FACTORY: A write replaces factory weights, resets the live weights to them and clears the masks. (R250) -/
  | estWeightFactory (w : Wr)
  /-- EST_SHIFT: A write changes the weight unit at the next window and returns the live weights to factory. (R250) -/
  | estShift (w : Wr)
  /-- SLOW_LOOP_TICK: Every 1 ms, the slow loop updates K_f, thermal limits, caps, e_pow, floor throttle and voltage trims. (R273) -/
  | slowLoopTick
  /-- FLOOR_RATE_UPDATE: 2 µs into each park, r is updated and the next park count is broadcast. (R277) -/
  | floorRateUpdate (g : Nat)
  /-- LIMIT_RECOMPUTE: An engine-level limit changes, and within 1 µs the limits are recomputed and cap directives are sent. (R262) -/
  | limitRecompute
  /-- HOT_N_ASSERT: HOT_N low for 10 µs sets every group's ceiling to HOT_ENTRY, and the event is logged. (R264) -/
  | hotNAssert
  /-- HOT_N_RELEASE: HOT_N high for 10 µs removes the HOT_N ceiling. (R264) -/
  | hotNRelease
  /-- CAP_N_WINDOW: At each 1 µs window end, CAP_N sampling puts EXT_CAP into force, or releases it after 100 µs. (R263) -/
  | capNWindow (low : Bool)
  /-- OP_TABLE: A write replaces all 32 operating points and clears Praline GCONF for the group. (R267) -/
  | opTable (w : Wr)
  /-- FIXED_RATE_ENABLE: A write enters or leaves Fixed-Rate mode at once, changing the group's preference. (R285) -/
  | fixedRateEnable (w : Wr)
  /-- FIXED_RATE_N: A write sets the fleet ratio, checked against GUARANTEED_N and the table. (R285) -/
  | fixedRateN (w : Wr)
  /-- GROUP_SHARE: A write sets a group's share of the compute limit, checked so that explicit shares sum to at most 256. (R258) -/
  | groupShare (w : Wr)
  /-- PHASE_NEXT: An engine mark announces a phase, and Praline chooses a point, submits a rising preference and schedules pre-positioning. (R307) -/
  | phaseNext (q : EpReq)
  /-- PHASE_BEGIN: An engine mark begins a phase, ending and learning from the previous occurrence. (R297) -/
  | phaseBegin (q : EpReq)
  /-- PREFERRED_POINT: An engine mark sets or clears a tag's software-preferred entry. (R302) -/
  | preferredPoint (q : EpReq)
  /-- OCCURRENCE_TIMEOUT: An occurrence not ended within PR_MAX_OCC is discarded without learning. (R297) -/
  | occurrenceTimeout (g : Nat)
  /-- PREPOS_OFFSET_SET: At the pre-position time, Praline sets each field's voltage offset within its limit. (R312) -/
  | preposOffsetSet (g : Nat)
  /-- PREPOS_OFFSET_REMOVE: PR_PREPOS_HOLD after the begin, the pre-position offset is removed. (R312) -/
  | preposOffsetRemove (g : Nat)
  /-- PR_CLEAR: A write of 1 clears both Praline tables and ends every occurrence without learning. (R314) -/
  | prClear (w : Wr)
  /-- PR_REARM: A write of 1 clears FALLBACK so that groups use PR_POLICY again. (R316) -/
  | prRearm (w : Wr)
  /-- PR_POLICY: A write sets a group's policy from its next mark and clears FALLBACK. (R316) -/
  | prPolicy (w : Wr)
  /-- PHASE_TABLE_WRITE: A host write of a whole entry in the phase-table window replaces it. (R301) -/
  | phaseTableWrite (off : Nat) (be : Nat) (val : Nat)
  /-- BX_ROUND_BOUNDARY: At each 500 µs boundary, the unit applies credits, installs an epoch, computes slack, debits a transfer and queues ROUND frames. (R328) -/
  | bxRoundBoundary (stalled : Nat)
  /-- BX_EPOCH_LOAD: A write stages an epoch and grant for installation at the next round boundary. (R321) -/
  | bxEpochLoad (w : Wr)
  /-- BX_EPOCH_EXPIRED: BX_EPOCH_TIMEOUT passes without an install, so the grant is reduced and rounds stop. (R323) -/
  | bxEpochExpired
  /-- EPOCH_LATE: 1.5 × BX_EPOCH_PERIOD passes without an install, and EPOCH_LATE sets. (R324) -/
  | epochLate
  /-- ROUND: A received ROUND frame is checked and, if accepted, updates the slot record and accumulates its credit. (R334) -/
  | round (peer : Nat) (frame : Nat)
  /-- DIRECTIVE_READ: A DIRECTIVE read from a coordinator slot is checked with class N rights and answered. (R336) -/
  | directiveRead (peer : Nat) (frame : Nat)
  /-- DIRECTIVE_WRITE: A DIRECTIVE write from a coordinator slot is checked, audited and answered. (R336) -/
  | directiveWrite (peer : Nat) (frame : Nat)
  /-- SLACK_REPORT: A slack report on the sync port is summed into the current round's slack. (R404) -/
  | slackReport (ns : Nat)
  /-- REGION_PARTITION: A write assigns a region to a partition from the next tick boundary. (R340) -/
  | regionPartition (w : Wr)
  /-- REPORT_SNAP_REQ: A write of 1 requests a snapshot of the energy counters at the next tick boundary. (R345) -/
  | reportSnapReq (w : Wr)
  /-- RUN_START: RUN_CTL = 1 starts a run on the group at the next window boundary. (R351) -/
  | runStart (w : Wr)
  /-- RUN_STOP: RUN_CTL = 2 ends the run at the next window boundary and evaluates the bound conditions. (R351) -/
  | runStop (w : Wr)
  /-- MARK: Every 10 µs, a MARK carrying the ended interval is queued on every link ahead of commands. (R370) -/
  | mark
  /-- TLM: A TLM frame arrives and delivers a rail's interval voltage and current with validity, or raises OCP, fault or loss handling. (R372) -/
  | tlm (k : Nat) (ch : Nat) (tag : Nat) (data : Nat)
  /-- IDENTIFY: An IDENTIFY transaction reads controller identity and version at enumeration. (R377) -/
  | identify (k : Nat) (phases : Nat) (tag : Nat) (data : Nat)
  /-- READ_RATING: A READ_RATING transaction returns a channel's current rating and voltage range. (R366) -/
  | readRating (k : Nat) (tag : Nat) (status : Nat) (data : Nat)
  /-- SET_VOLTAGE: A SET_VOLTAGE transaction sets one code on the masked rails, and RAIL_TARGET follows on OK. (R374) -/
  | setVoltage (k : Nat) (tag : Nat) (status : Nat)
  /-- READ_VOLTAGE: A READ_VOLTAGE transaction returns a channel's target code in force. (R364) -/
  | readVoltage (k : Nat) (tag : Nat) (status : Nat) (data : Nat)
  /-- TLM_ENABLE: A TLM_ENABLE transaction enables telemetry on the masked channels. (R364) -/
  | tlmEnable (k : Nat) (tag : Nat) (status : Nat)
  /-- READ_STATUS: A READ_STATUS transaction returns a channel's fault bits. (R364) -/
  | readStatus (k : Nat) (tag : Nat) (status : Nat) (data : Nat)
  /-- CLEAR_FAULT: A CLEAR_FAULT transaction clears a channel's fault during recovery. (R379) -/
  | clearFault (k : Nat) (tag : Nat) (status : Nat)
  /-- RESP_TIMEOUT: No RESP begins within 2 µs of a command, and the block retries it or, after the third retry, degrades the rails. (R368) -/
  | respTimeout (k : Nat) (tag : Nat)
  /-- LINK_SILENT: A link still silent at 1.9 ms becomes SILENT and its mapped rails ABSENT. (R377) -/
  | linkSilent (k : Nat)
  /-- RAIL_RECOVER: A write of 1 starts recovery of a DEGRADED rail with CLEAR_FAULT, READ_STATUS and READ_VOLTAGE. (R379) -/
  | railRecover (w : Wr)
  /-- MB_POST: An engine request posts a 64-bit message to a mailbox and returns its SEQ and the sender's notice word. (R389) -/
  | mbPost (q : EpReq)
  /-- MB_TAKE: MB_READ mode 0b00 takes and removes the head message. (R387) -/
  | mbTake (q : EpReq)
  /-- MB_PEEK: MB_READ mode 0b01 returns the head message's header without removing it. (R389) -/
  | mbPeek (q : EpReq)
  /-- DOORBELL_READ: MB_READ mode 0b10 reads and clears the mailbox number's doorbell. (R396) -/
  | doorbellRead (q : EpReq)
  /-- NOTICE_READ: MB_READ mode 0b11 reads and clears the requester's notice word. (R391) -/
  | noticeRead (q : EpReq)
  /-- MB_REMOTE_COMPLETE: A mailbox access to remote storage completes over the spine and is answered. (R385) -/
  | mbRemoteComplete (i : Nat)
  /-- DOORBELL_RING: An engine request rings a doorbell and, if needed, submits a wake target for its domain. (R397) -/
  | doorbellRing (q : EpReq)
  /-- LOCK_ACQUIRE: An engine request acquires a lock or learns its holder. (R399) -/
  | lockAcquire (q : EpReq)
  /-- LOCK_RELEASE: An engine request by the owner frees a lock. (R399) -/
  | lockRelease (q : EpReq)
  /-- LOCK_READ: An engine request returns a lock word without acquiring. (R398) -/
  | lockRead (q : EpReq)
  /-- EP_RESERVED_OP: An engine request with a reserved operation code is answered MALFORMED. (R44) -/
  | epReservedOp (op : Nat) (q : EpReq)
  /-- REQUESTER_RESET: EP_RESET_VLD increments the requester's epoch, clears its notices, discards its mailboxes and frees its locks. (R390) -/
  | requesterReset (id : Nat)
  /-- MB_TIMED_OUT: In W4-S and W4-M, a message unread for MB_TIMEOUT is marked, and its sender is noticed. (R393) -/
  | mbTimedOut (m : Nat)
  /-- LOCK_FORCE: An HX write of 1 frees a lock with OWNER_LOST. (R400) -/
  | lockForce (i : Nat) (w : Wr)
  /-- LOCK_HOST_ACQUIRE: A host read of LOCK_HOST_n acquires the lock for the host. (R454) -/
  | lockHostAcquire (i : Nat)
  /-- LOCK_HOST_RELEASE: A host write of LOCK_HOST_n releases the host's lock. (R454) -/
  | lockHostRelease (i : Nat) (val : Nat)
  /-- HOST_DB_RING: A host write rings the named doorbell. (R453) -/
  | hostDbRing (val : Nat)
  /-- SEMAPHORE_POST: With room for a post, the port sends a pending semaphore post for a bound mailbox. (R405) -/
  | semaphorePost
  /-- POST_STATUS: A post status arrives and is stored in MB_SEM_STATUS, or counted stale. (R405) -/
  | postStatus (tag : Nat) (status : Nat)
  /-- SY_POST_TIMEOUT: No status arrives within 100 µs of a post, and its tag is retired. (R406) -/
  | syPostTimeout (tag : Nat)
  /-- DICT_READ: An engine request reads an object or an 8-byte chunk of one. (R427) -/
  | dictRead (q : EpReq)
  /-- DICT_WRITE: An engine request writes an object of up to 32 bits. (R427) -/
  | dictWrite (q : EpReq)
  /-- OBJECT_WRITE: A write to an object with no row of its own is checked, decided, audited and marked dirty if Persistent. (R423) -/
  | objectWrite (index : Nat) (sub : Nat) (w : Wr)
  /-- REMOTE_ACCESS_COMPLETE: A REMOTE object access returns over the spine and is answered. (R426) -/
  | remoteAccessComplete (i : Nat)
  /-- EXPERT_UNLOCK: A write sets or clears the expert unlock and starts its timer. (R421) -/
  | expertUnlock (w : Wr)
  /-- EXPERT_UNLOCK_EXPIRY: The unlock timer reaches 0, and the unlock clears. (R421) -/
  | expertUnlockExpiry
  /-- PERSIST_FLUSH: A write of 1 begins a commit of dirty objects at once. (R428) -/
  | persistFlush (w : Wr)
  /-- PERSIST_COMMIT: 1 s after the first dirty object, a commit of every dirty object begins. (R428) -/
  | persistCommit
  /-- AUDIT_SUMMARY: Every AUDIT_SUMMARY_PERIOD, the audit and event summaries are handed to Fondant. (R441) -/
  | auditSummary
  /-- AUDIT_MERGE: At each 1 ms with nonzero merged refusal counts, one merged audit record is written per count. (R438) -/
  | auditMerge
  /-- IDX_READ: An IDX_CTL write with WRITE 0 starts an indirect read of the object named by IDX_ADDR. (R456) -/
  | idxRead (addr : Nat) (ctl : Nat)
  /-- IDX_WRITE: An IDX_CTL write with WRITE 1 starts an indirect write of LENGTH bytes from IDX_BUF. (R456) -/
  | idxWrite (addr : Nat) (buf : Nat) (ctl : Nat)
  /-- IDX_DONE: The indirect decision ends, BUSY clears, DONE sets and CODE holds the result. (R456) -/
  | idxDone
  /-- FDP_READ: An FDP READ request is answered with a chunk from a snapshot of the object. (R465) -/
  | fdpRead (q : FdpFrame)
  /-- FDP_WRITE: An FDP WRITE request writes a whole value or a segment of a session. (R464) -/
  | fdpWrite (q : FdpFrame)
  /-- FDP_SESSION_TIMEOUT: A write session with no segment for 100 ms is abandoned. (R464) -/
  | fdpSessionTimeout
  /-- FDP_RESPONSE_DROP: A response not transmitted within 100 ms of queuing is dropped. (R467) -/
  | fdpResponseDrop
  /-- FB_CLASSIC: A classic CAN frame is acknowledged, counted and not passed to FDP. (R458) -/
  | fbClassic
  /-- FB_BUS_OFF: The controller goes bus-off, logs and alerts, and begins recovery. (R461) -/
  | fbBusOff
  /-- FB_BUS_OFF_RECOVERY: After 128 occurrences of 11 recessive bits, the controller rejoins and sends queued responses. (R461) -/
  | fbBusOffRecovery
  /-- FONDANT_COMMIT: A commit begins writing its records to device A and then device B. (R477) -/
  | fondantCommit
  /-- FONDANT_RECORD_DONE: One record's erase, program and verify on a device ends, with a retry or a failure count. (R477) -/
  | fondantRecordDone (ok : Bool)
  /-- FONDANT_REPAIR: After the mount, every invalid copy whose twin is valid is rewritten. (R479) -/
  | fondantRepair
  /-- FONDANT_RELOCATE: A live record near the head or over a year old is copied forward as a class 0 commit. (R480) -/
  | fondantRelocate
  /-- FONDANT_CREDIT: Every 337.5 s of powered time, the write credit rises by 1 up to 2048, releasing waiting commits. (R483) -/
  | fondantCredit
  /-- PRALINE_SNAPSHOT: When FN_SNAP_INTERVAL has passed, a base or delta snapshot of the Praline tables is committed. (R485) -/
  | pralineSnapshot
  /-- FN_SNAP_REQ: A write of 1 requests a Praline snapshot now. (R485) -/
  | fnSnapReq (w : Wr)
  /-- DAILY_COMMIT: Every 24 powered hours, STRESS_BINS, CAL_OFFSET and hour counters are committed. (R486) -/
  | dailyCommit
  /-- LC_ARM: An HX write of 1 arms life-cycle requests for 10 s. (R488) -/
  | lcArm (w : Wr)
  /-- LC_ARM_EXPIRY: 10 s after arming, LC_ARM disarms. (R488) -/
  | lcArmExpiry
  /-- LC_REQUEST: An armed HX write requests a life-cycle transition and starts its commit. (R488) -/
  | lcRequest (w : Wr)
  /-- LC_TRANSITION: The transition's commit completes, LC_STATE changes and wiped data is cleared logically. (R487) -/
  | lcTransition
  /-- FONDANT_WIPE: FILL records overwrite every ring sector of a wiped type, and WIPE_PENDING clears at the end. (R489) -/
  | fondantWipe
  /-- FN_FORMAT_REQ: A write of 1 erases a foreign store and formats both devices. (R490) -/
  | fnFormatReq (w : Wr)
  /-- REGION_CYCLE: At the start of each region cycle, the agent measures slip and sets its tether level, runs the fast-cap modulator, and the Stretch Engine applies the deepest permitted request and charges the period. (R126) -/
  | regionCycle (n : Nat) (io : CycleIn)
  /-- DAMAGED_FRAME: An upstream Renzil frame arrives damaged, with an unknown OP or with a TAG that matches no outstanding command; it is counted, and a damaged RESP counts as a failed attempt and brings a retry. (R368) -/
  | damagedFrame (k : Nat) (frame : Nat)
  /-- BUDGET_FRAME_DROP: A received budget frame that is neither a usable ROUND nor a DIRECTIVE frame, such as a short or damaged frame or an ANSWER, is checked and dropped with its counter. (R333) -/
  | budgetFrameDrop (peer : Nat) (beats : Nat) (err : Bool) (frame : Nat)
  /-- FDP_MALFORMED: A field-bus frame addressed to the block that is no valid READ or WRITE request is answered MALFORMED or ignored and counted, which covers an unknown OP, a bad length, reserved bits, a base identifier, or a bad KIND or SRC. (R463) -/
  | fdpMalformed (q : FdpFrame)
  deriving DecidableEq, Repr, Inhabited

end Sys2Proof
end

