-- ==== Sys2Proof/Machine/Bits.lean ====
section
/-! DEFINITION. Bit fields, signed readings, bytes and saturation over raw values (R8 to R13, R413). -/

set_option Elab.async false

namespace Sys2Proof.Machine

/-- Field of `w` bits of `n` from bit `lo` up. -/
def bits (n lo w : Nat) : Nat := (n / 2 ^ lo) % 2 ^ w

/-- Bit `i` of `n`. -/
def bit (n i : Nat) : Bool := bits n i 1 == 1

/-- `n` with its field of `w` bits from bit `lo` up replaced by `v`. -/
def setBits (n lo w v : Nat) : Nat :=
  n % 2 ^ lo + (v % 2 ^ w) * 2 ^ lo + (n / 2 ^ (lo + w)) * 2 ^ (lo + w)

/-- `n` with bit `i` set to `b`. -/
def setBit (n i : Nat) (b : Bool) : Nat := setBits n i 1 b.toNat

/-- The two's complement reading of the low `w` bits of `n` (R413). -/
def toInt (w n : Nat) : Int :=
  let m := n % 2 ^ w
  if m < 2 ^ (w - 1) then (m : Int) else (m : Int) - (2 ^ w : Nat)

/-- The low `w` bits of an integer in two's complement (R413). -/
def ofInt (w : Nat) (z : Int) : Nat := (z % ((2 ^ w : Nat) : Int)).toNat

/-- `z` held between `lo` and `hi`. -/
def clampInt (lo hi z : Int) : Int := if z < lo then lo else if hi < z then hi else z

/-- `n` held between `lo` and `hi`. -/
def clampNat (lo hi n : Nat) : Nat := if n < lo then lo else if hi < n then hi else n

/-- `a + n`, held at the largest value of `w` bits. -/
def satAdd (w a n : Nat) : Nat := if a + n < 2 ^ w then a + n else 2 ^ w - 1

/-- Bytes `off` to `off + len - 1` of a little-endian value (R413). -/
def bytesAt (v off len : Nat) : Nat := bits v (8 * off) (8 * len)

/-- A little-endian value with bytes `off` to `off + len - 1` replaced. -/
def setBytes (v off len x : Nat) : Nat := setBits v (8 * off) (8 * len) x

/-- Number of set bits among the low `w` bits. -/
def popCount (n w : Nat) : Nat := ((List.range w).filter (bit n)).length

/-- Bitwise AND with the complement over 64 bits. -/
def andNot (a b : Nat) : Nat := Nat.land a (Nat.xor (Nat.land b (2 ^ 64 - 1)) (2 ^ 64 - 1))

/-- Round to nearest, halves upward, of `a / b`. -/
def divNearest (a b : Nat) : Nat := if b = 0 then 0 else (2 * a + b) / (2 * b)

/-- `a / b` rounded up. -/
def divUp (a b : Nat) : Nat := if b = 0 then 0 else (a + b - 1) / b

/-- Floor division of an integer by a positive natural number. -/
def fdiv (z : Int) (b : Nat) : Int := if b = 0 then 0 else Int.fdiv z b

/-- The greatest of a list, 0 of an empty one. -/
def maxOf (l : List Nat) : Nat := l.foldl max 0

/-- The sum of a list. -/
def sumOf (l : List Nat) : Nat := l.foldl (· + ·) 0

/-- The sum of a list of integers. -/
def sumInt (l : List Int) : Int := l.foldl (· + ·) 0

/-- One step of the reflected CRC-32 of IEEE 802.3 over a bit. -/
def crc32Bit (c : Nat) : Nat := if c % 2 = 1 then Nat.xor (c / 2) 0xEDB88320 else c / 2

/-- One byte into the reflected CRC-32. -/
def crc32Byte (c b : Nat) : Nat := (List.range 8).foldl (fun a _ => crc32Bit a) (Nat.xor c (b % 256))

/-- CRC-32 of IEEE 802.3 of `len` little-endian bytes (R61, R434). -/
def crc32 (v len : Nat) : Nat :=
  Nat.xor ((List.range len).foldl (fun c i => crc32Byte c (bytesAt v i 1)) 0xFFFFFFFF) 0xFFFFFFFF

/-- CRC-32 continued over a further value: `c` is the running register. -/
def crc32More (c v len : Nat) : Nat := (List.range len).foldl (fun c i => crc32Byte c (bytesAt v i 1)) c

end Sys2Proof.Machine
end

