-- ==== Sys2Proof/Machine/ObjName.lean ====
section
/-! DEFINITION. The names of the dictionary objects, one constructor for each object row of the spec's
object tables (R5, R36, R61, R96, R97, R115, R116, R145 to R147, R172, R173, R193 to R195, R222, R223,
R251 to R253, R289 to R292, R318, R319, R338, R339, R356 to R358, R383, R384, R408 to R410, R443 to R445,
R469, R470, R493, R494, R518, R519, R540 to R543), in ascending order of index and subindex.
A row that spans several subindices is one constructor, used with an offset from the first subindex. -/

set_option Elab.async false

namespace Sys2Proof

/-- An object of the dictionary, under the name the manual gives it. -/
inductive Obj where
  | VENDOR_CODE | PRODUCT_CODE | BLOCK_VERSION | CONFIG_CLASS | NUM_REGIONS | NUM_FIELDS
  | NUM_DOMAINS | NUM_RAILS | NUM_GROUPS | NUM_MAILBOXES | NUM_PARTITIONS | UNIT_READY
  | CLOCK_SOURCE | REGION_PRESENT | REGION_DOMAIN | REGION_LANES | ACT_LATENCY | DS_COUNT
  | DS_ROUTER_MASK | TS_COUNT | ACT_PROTO_ERR | NEIGHBOUR | LINKS | FIELD_REGION_MASK
  | FIELD_JUNCTION | DOMAIN_RAIL | DOMAIN_FIRST_REGION | DOMAIN_REGION_COUNT | DOMAIN_TARGET | DOMAIN_STATE
  | DOMAIN_RETAIN | RAIL_CONTROLLER | RAIL_CHANNEL | RAIL_DOMAIN | CONDUCTOR_FIELD | PRIUND_BUILD
  | MAP_CRC | OSC_CODE | OSC_TARGET_N | OSC_STATUS | OSC_FREQ_NAT | OSC_LOOP_ERR
  | OSC_HEADROOM | OSC_PERMIT_MAX | OSC_UNLOCKS | OSC_CEILING_TIME | CAL_CURVE | CAL_OFFSET
  | AGE_RATIO_FACTORY | AGE_RATIO_LAST | AGE_DEGRADE_LAST | AGE_DEGRADE_PREV | AGE_GUARD | AGE_POWERED_H
  | AGE_SAMPLE_H | FLL_GAIN | LOCK_TOL | UNLOCK_TOL | GUARD_BASE | AGING_GAIN
  | AGING_GUARD_MAX | AGE_INTERVAL | AGE_SAMPLE_REQ | CAL_OFFSET_LEARN | GUARANTEED_N | DS_STATUS
  | DS_ENABLE | DS_QUARANTINE | DS_MIN_READING | DS_TRIPS | DS_COUNT_ONLY_TRIPS | DS_THRESH
  | DS_LINE_TRIM | STRETCH_P8 | STRETCH_P4 | STRETCH_P2 | STRETCH_HOLDS | STRETCH_E_DROOP
  | STRETCH_E_TETHER | STRETCH_E_CAP | STRETCH_E_FLOOR | STRETCH_REFUSED | DS_RUN_LEN | STRETCH_WINDOW_DROOP
  | STRETCH_WINDOW_OTHER | DS_STUCK_TIME | DS_GUARD_CODES | DS_STUCK_EVENTS | REGION_COUNT | TETHER_STATUS
  | SLIP | SLIP_PEAK | TETHER_ENGAGES | TETHER_CAUSE | CAUSED_DROOP | CAUSED_CAP
  | CAUSED_FLOOR | TETHER_UNATTRIB | TETHER_GROUP | TETHER_GROUP_ACTIVE | FIELD_HOLD_FRAC | FIELD_CAUSED_DROOP
  | GROUP_ANCHOR | GROUP_COUNT | GROUP_FIELDS | GROUP_SLIP_PEAK | TETHER_BANK | TETHER_ESC_DWELL
  | SLIP_ENGAGE | SLIP_FAULT_LEVEL | TRIM_MODE | SLIP_FAULTS | XING_MODE | XING_FENCE
  | XING_DISCARD | XING_REFUSED | XING_PTR_ERRS | XING_RESYNCS | REGION_DETACHED | TRIM_TIME
  | ALIGN_LIMIT | PTR_CHECK_PERIOD | ALIGN_FAILS | ICROSS_DISCARD | ICROSS_RESYNCS | GROUP_N
  | GROUP_TARGET_N | GROUP_CHG_STATE | GROUP_CHG_C | GROUP_CHG_RESULT | GROUP_CHG_STEPS | GROUP_CHG_ABORTS
  | GROUP_DIAMETER | REGION_TARGET_N | REGION_STOP_STATE | REGION_STOP_RESULT | REGION_STOPS | REGION_STOP_ABORTS
  | FIELD_VOLT | FIELD_VNEED | FIELD_VTRIM | FIELD_VSET_UPS | FIELD_VSET_DOWNS | FIELD_VOLT_AT_CEIL
  | CHANGE_LEAD | CHANGE_RATE_MARGIN | STEP_LIMIT | QUIESCE_LIMIT | STOP_TIME | VOLT_SETTLE_LIMIT
  | VOLT_CONFIRM_TOL | VSET_HOLD_HI | VSET_HOLD_LO | VSET_HEAD_HI | VSET_DWELL | QUIESCE_STALE_ACKS
  | REF_STATUS | REF_PREFER | REF_QUALIFY | REF_A_ERR | REF_B_ERR | INTOSC_ERR
  | REF_A_LOSSES | REF_B_LOSSES | REF_SWITCHES | HOLDOVER_ENTRIES | HOLDOVER_TIME | FB_ABANDONED
  | GLOBAL_TIME | TIME_STATUS | TIME_RATE_ADJ | TIME_OFFSET_ADJ | TIME_SLEW_LIMIT | TIME_SET
  | TIME_SETS | PPS_TIME | PPS_COUNT | TS_TIME | TS_CAPTURE_COUNT | REGION_TIME
  | REGION_TIME_ERR | REGION_TIME_ERR_PEAK | MARK_DELAY | EST_POWER | EST_DYN | EST_LEAK
  | EST_STATUS | EST_SWEEP_M | LANE_INVALIDS | EST_OVERFLOWS | EST_WEIGHT_DEV | EST_WEIGHTS_AT_CLAMP
  | CAL_LATE | EST_SHIFT | LEAK_SHARE | REGION_PMAX | EST_WEIGHT | EST_WEIGHT_FACTORY
  | LEAK_TABLE | FIELD_EST | FIELD_EST_SUBST | DOMAIN_EST | DOMAIN_MEAS | CAL_ERR
  | CAL_ERR_MEAN | CAL_UPDATES | CAL_DEADBAND_HITS | CAL_SKIPS | CAL_SKIP_LAST | GROUP_EST
  | GROUP_EST_SUBST | ENGINE_EST | ENGINE_EST_SUBST | VSCALE | EST_VREF_CODE | INVALID_LANE_LIMIT
  | EST_HOLD_WINDOWS | CAL_ENABLE | CAL_MU_SHIFT | CAL_RATE | CAL_DEADBAND | CAL_MIN_DYN
  | CAL_STEADY | CAL_IDLE_TICKS | CAL_BAND | CAL_TLM_WAIT | CAL_RESET_REQ | CAL_SATURATED_EVENTS
  | HOST_CAP | BOARD_CAP | EXT_CAP | ENGINE_OTHER | COMPUTE_LIMIT | COMPUTE_LIMIT_REASON
  | CAP_STATUS | ENGINE_MEAS | CAP_N_EVENTS | HOT_N_EVENTS | OP_TABLE | OP_MAX
  | OP_FIRST | GROUP_SHARE | GROUP_LIMIT | OP_POWER_ENTRY | OP_CEIL_ENTRY | GROUP_CEIL_REASON
  | GROUP_LOSS | FLOOR_STATE | FLOOR_RATE | CAP_EXCESS | CAP_UNATT_EVENTS | OP_DOWN_STEPS
  | OP_UP_STEPS | FIXED_RATE_ENABLE | FIXED_RATE_N | FIELD_LIMIT | FIELD_LIMIT_REASON | FIELD_CAP
  | FIELD_EST_CORR | FAST_DUTY | FIELD_EXCESS | FIELD_TEMP_MAX | FIELD_THERM_LIMIT | RAIL_IMAX
  | RAIL_LIMIT | RAIL_OVER_EVENTS | FAST_GAIN | OP_DOWN_LOSS | OP_UP_LOSS | OP_UP_MARGIN
  | OP_UP_DWELL | OP_BOUNCE_TICKS | FLOOR_PERIOD | FLOOR_ENGAGE_DUTY | FLOOR_MIN_RATE | RAIL_MARGIN
  | THERM_THROTTLE | THERM_HYST | THERM_TRIP | THERM_STEP | HOT_ENTRY | CAP_N_MIN_TIME
  | THERM_TRIPS | PR_STATUS | PR_FREEZE | PR_CLEAR | PR_REARM | PR_SLACK
  | PR_W_ENERGY | PR_W_TIME | PR_EXPLORE_N | PR_HYST | PR_MIN_CONF | PR_MEMORY
  | PR_SURPRISE | PR_SEED | PR_VOFF_MAX | PR_VOFF_RAISE | PR_ONSET | PR_PREPOS_LEAD
  | PR_PREPOS_HOLD | PR_MAX_OCC | PR_MIN_OCC | PR_DEDUP | PR_IMPORT_COLLIDE | PR_POLICY
  | PR_CUR_TAG | PR_NEXT_TAG | PR_CHOICE | PR_OCCURRENCES | PR_UNCLEAN | PR_EXPLORES
  | PR_MOVES | PR_REJECTS | PR_SURPRISES | PR_LATE_NEXT | PR_UNANNOUNCED | PR_DUP_MARKS
  | PR_DISCARDED | PR_LFSR | PR_GROUP_TABLE | PR_OFFSET | BX_ENABLE | BX_STATUS
  | BX_POOL_ID | BX_ENGINE_ID | BX_EPOCH | BX_EPOCH_LOAD | BX_GRANT | BX_GRANT_MIN
  | BX_GRANT_MAX | BX_N_GRANT_MIN | BX_N_GRANT_MAX | BX_STEP | BX_SLACK_HYST | BX_SLACK_FULL
  | BX_EPOCH_TIMEOUT | BX_SLACK | BX_ROUND | BX_EPOCH_PERIOD | BX_PEER | BX_PEER_SLACK
  | BX_TX_FRAMES | BX_RX_ACCEPTED | BX_RX_DROP_LAST | BX_RX | BX_CREDIT_OUT | BX_CREDIT_IN
  | BX_LOST_TX | BX_LOST_CLAMP | BX_LOST_PASSIVE | BX_EPOCH_LOADS | BX_EPOCH_EXPIRIES | BX_DIRECTIVES
  | REGION_PARTITION | PART_ENERGY | PART_REGIONS | PART_SUBST_WINDOWS | UNASSIGNED_ENERGY | ENGINE_COMPUTE_ENERGY
  | ENGINE_DOMAIN_RAIL_ENERGY | ENGINE_NONCOMPUTE_ENERGY | RAIL_FILLED_INTERVALS | REPORT_EPOCH | REPORT_SNAP_REQ | SNAP_TIME
  | SNAP_PART_ENERGY | SNAP | THR_TIME | THR_LOST | THR_REASON_NOW | EPISODE
  | EPISODE_NEXT | EPISODE_SEQ | EPISODE_OVERWRITTEN | EPISODE_SHORT | EPISODE_MIN | EPISODE_GAP
  | EPISODE_OPEN_REASON | RUN_CTL | RUN_STATUS | RUN_START_TIME | RUN_TIME | RUN_CYCLES
  | RUN_IDEAL | RUN_LOST | RUN_LOSS_PPM | RUN_LOST_E | RUN_BOUND_PPM | RAIL_STATE
  | RAIL_STATUS | RAIL_TARGET | RAIL_VMEAS | RAIL_IMEAS | RAIL_IRATING | RAIL_VMIN
  | RAIL_VMAX | RAIL_RECOVER | RAIL_CRC_ERRS | RAIL_TIMEOUTS | RAIL_RETRIES | RAIL_TLM_MISSES
  | RAIL_DEGRADE_EVENTS | RAIL_OCP_EVENTS | LINK_STATE | LINK_IDENT | LINK_RX_PHASE | LINK_MALFORMED
  | MB_OWNER | MB_DOMAIN | MB_WAKE | MB_SEM | MB_COUNT | MB_POSTS
  | MB_DISCARDS | MB_TIMEOUTS | MB_WAKES | MB_SEM_STATUS | LOCK | LOCK_FORCE
  | LOCK_PRIO | LOCK_CONTESTS | MB_TIMEOUT | MB_DEPTH | SY_QUIESCES | SY_QACKS
  | SY_SLACK_REPORTS | SY_SLACK_DROPS | SY_POSTS | SY_POST_NONZERO | SY_POST_OVERFLOW | SY_POST_TIMEOUTS
  | SY_PST_STALE | OBJ_COUNT | CATALOGUE_CRC | OBJ_DESC | OBJ_NAME | OBJ_MIN
  | OBJ_MAX | OBJ_DEFAULT | OBJ_SIZE | EXPERT_UNLOCK | EXPERT_UNLOCK_TIME | EXPERT_REMAINING
  | EXPERT_UNLOCKS | PERSIST_FLUSH | PERSIST_PENDING | PERSIST_COMMITS | PERSIST_DEFERRED | AUDIT_NEXT
  | AUDIT_SEQ | AUDIT_OVERWRITTEN | AUDIT_MERGED | AUDIT_SUMMARY_PERIOD | AUDIT_SUMMARIES | AUDIT_OK
  | AUDIT_REFUSED | HP_LAST_STATUS | HP_REQUESTS | HP_ERRORS | HP_NOTREADY | HP_DENIED
  | FB_NODE_ADDR | FB_NOM_RATE | FB_DATA_RATE | FB_BRS_ENABLE | FB_STATE | FB_TEC
  | FB_REC | FB_RX_FRAMES | FB_TX_FRAMES | FB_CLASSIC | FB_IGNORED | FB_MALFORMED
  | FB_BUSY_ANSWERS | FB_RX_DROPPED | FB_TX_DROPPED | FB_DUPLICATES | FB_SESSIONS_ABANDONED | FB_BUS_OFFS
  | FB_HELD_RX | LC_STATE | LC_ARM | LC_REQUEST | LC_STATUS | LC_HISTORY
  | FN_STATUS | FN_RING | FN_HEAD_SEQ | FN_CREDIT | FN_WEAR | FN_BAD_COPIES
  | FN_REPAIRS | FN_ROLLBACKS | FN_LOST_PARTS | FN_THINNED | FN_FORMAT_REQ | FN_DEV_A_SECTORS
  | FN_DEV_B_SECTORS | FN_LIFE_S | FN_BUCKET_MAX | FN_SNAP_REQ | FN_SNAP_INTERVAL | FN_SNAP_LAST
  | FN_SNAP_RECORDS | FN_SNAP_DEFERRALS | STRESS_BINS | START_STATE | RESET_CAUSE | ARM_SEQ
  | ARM_REPEATS | ARM_REPEAT_LIMIT | LAST_ARM_TIME | READY_TIME | COLD_CAL_TIME | JOB_FAULTS
  | JOB_RESETS | WARM_RESETS | COLD_RESETS | SELF_RESET_REQ | EXCLUDED_MAP | ARM_NEW_EXCLUDED
  | EXCLUDE_STRIKES | REGION_EXCLUDED | REGION_EXCLUDED_ACTIVE | REGION_STRIKES | REGION_EXCLUDE_CAUSE | FAULT_DIGEST
  | FAULT_TIME | FAULT_LATER_COUNT | FAULT_HISTORY | INJ_JOB_FAULTS | ALERT_STATUS | ALERT_ACK
  | ALERT_MASK | SRAM_CE | SRAM_UE | SPINE_RETRANSMITS | SPINE_LINK_FAILS | SEQ_PARITY_ERRS
  | WATCHDOG_EXPIRIES | FUNCTION_RESETS | EVENT_PAGE | EVENT_NEXT | EVENT_SEQ | EVENT_OVERWRITTEN
  | INJ_POINT | INJ_ELEMENT | INJ_ARG | INJ_ARM | INJ_RESULT | INJ_COUNT
  | FIELD_TEST_PERMIT | FIELD_TEST_TIME | FIELD_TEST_REMAINING
  deriving DecidableEq, Repr

end Sys2Proof
end

