-- ==== Sys2Proof/Machine/Catalogue.lean ====
section
/-! DEFINITION. The catalogue of R432: for every object its index, subindices, type, size, element kind,
default, rights, marks, unit and range, as the object tables of the spec give them.  The rights are the ten
bits of R432 (pairs of read and write bits for H, HX, F, N and E, H highest). -/

set_option Elab.async false

namespace Sys2Proof.Machine
open Sys2Proof

/-- The types of R413.  `q` and `sq` are the fixed-point types, whose sizes stand in `Info.size`. -/
inductive Ty where
  | u8 | u16 | u32 | u64 | s16 | s32 | q | sq | bool | enum8 | bits32 | str | blob
  deriving DecidableEq, Repr

/-- The element kinds of R411. -/
inductive ElemKind where
  | none | region | field | domain | rail | group | partition | mailbox | entry
  deriving DecidableEq, Repr

/-- Where an object's default comes from: a stated value, a value the block maintains (with the raw value it
reads at reset), a value fixed by Priund, or one from the factory calibration flow (R432, R434). -/
inductive Dflt where
  | const (n : Nat) | live (n : Nat) | perBuild | factory
  deriving DecidableEq, Repr

/-- The stated range of an object (R414, R434): none, an interval of the type's integers, a list of
enumerated values, or a mask of defined bits. -/
inductive Valid where
  | any | range (lo hi : Int) | oneOf (vs : List Nat) | mask (m : Nat)
  deriving DecidableEq, Repr

/-- One catalogue row. -/
structure Info where
  index : Nat
  sub : Nat
  span : Nat
  ty : Ty
  size : Nat
  elem : ElemKind
  dflt : Dflt
  rights : Nat
  unit : Nat
  expert : Bool := false
  persistent : Bool := false
  lcRestricted : Bool := false
  valid : Valid := .any
  frac : Nat := 0
  deriving DecidableEq, Repr

/-- A row with no marks. -/
def row (index sub span : Nat) (ty : Ty) (size : Nat) (elem : ElemKind) (d : Dflt) (rights unit : Nat) : Info :=
  { index := index, sub := sub, span := span, ty := ty, size := size, elem := elem, dflt := d,
    rights := rights, unit := unit }
/-- Marks the row Expert (R418). -/
def Info.exp (r : Info) : Info := { r with expert := true }
/-- Marks the row Persistent (R428). -/
def Info.per (r : Info) : Info := { r with persistent := true }
/-- Marks the row writable only in BLANK and CALIBRATED (R431). -/
def Info.lcr (r : Info) : Info := { r with lcRestricted := true }
/-- Gives the row a range. -/
def Info.range (r : Info) (lo hi : Int) : Info := { r with valid := .range lo hi }
/-- Gives the row its list of values. -/
def Info.oneOf (r : Info) (vs : List Nat) : Info := { r with valid := .oneOf vs }
/-- Gives the row its mask of defined bits. -/
def Info.mask (r : Info) (m : Nat) : Info := { r with valid := .mask m }
/-- Gives the row its number of fraction bits (FRAC of R432). -/
def Info.frc (r : Info) (n : Nat) : Info := { r with frac := n }

/-- The catalogue row of each object.  TETHER_GROUP_ACTIVE, live, reads 0xFF before the first arm gives a field its group (DESIGN
CHOICE, log 94). -/
def info (o : Obj) : Info :=
  match o with
  | .VENDOR_CODE => row 0x1000 0x00 1 .u16 2 .none (.const 0x5157) 0x2A2 0x00
  | .PRODUCT_CODE => row 0x1000 0x01 1 .u16 2 .none (.const 0x0004) 0x2A2 0x00
  | .BLOCK_VERSION => row 0x1000 0x02 1 .u16 2 .none (.const 0x0402) 0x2A2 0x00
  | .CONFIG_CLASS => (row 0x1001 0x00 1 .enum8 1 .none .perBuild 0x2A2 0x00).oneOf [0, 1, 2, 3]
  | .NUM_REGIONS => row 0x1001 0x01 1 .u16 2 .none .perBuild 0x2A2 0x00
  | .NUM_FIELDS => row 0x1001 0x02 1 .u8 1 .none .perBuild 0x2A2 0x00
  | .NUM_DOMAINS => row 0x1001 0x03 1 .u16 2 .none .perBuild 0x2A2 0x00
  | .NUM_RAILS => row 0x1001 0x04 1 .u16 2 .none .perBuild 0x2A2 0x00
  | .NUM_GROUPS => row 0x1001 0x05 1 .u8 1 .none .perBuild 0x2A2 0x00
  | .NUM_MAILBOXES => row 0x1001 0x06 1 .u8 1 .none .perBuild 0x2A2 0x00
  | .NUM_PARTITIONS => row 0x1001 0x07 1 .u8 1 .none .perBuild 0x2A2 0x00
  | .UNIT_READY => (row 0x1002 0x00 1 .bits32 4 .none (.live 0x20001) 0x2A2 0x00).mask 0x3FFFF
  | .CLOCK_SOURCE => (row 0x1002 0x01 1 .enum8 1 .none (.live 0x0) 0x2A2 0x00).oneOf [0, 1, 2]
  | .REGION_PRESENT => row 0x1100 0x00 1 .bool 1 .region .perBuild 0x2A2 0x00
  | .REGION_DOMAIN => row 0x1100 0x01 1 .u16 2 .region .perBuild 0x2A2 0x00
  | .REGION_LANES => row 0x1100 0x02 1 .u16 2 .region .perBuild 0x2A2 0x1C
  | .ACT_LATENCY => row 0x1100 0x03 1 .u8 1 .region .perBuild 0x2A2 0x01
  | .DS_COUNT => row 0x1100 0x04 1 .u8 1 .region .perBuild 0x2A2 0x00
  | .DS_ROUTER_MASK => (row 0x1100 0x05 1 .bits32 4 .region .perBuild 0x2A2 0x00).mask 0xFFFF
  | .TS_COUNT => row 0x1100 0x06 1 .u8 1 .region .perBuild 0x2A2 0x00
  | .ACT_PROTO_ERR => row 0x1100 0x07 1 .u32 4 .region (.const 0) 0x2A2 0x05
  | .NEIGHBOUR => row 0x1100 0x08 4 .u16 2 .region .perBuild 0x2A2 0x00
  | .LINKS => row 0x1100 0x0C 4 .u16 2 .region .perBuild 0x2A2 0x00
  | .FIELD_REGION_MASK => (row 0x1101 0x00 1 .bits32 4 .field .perBuild 0x2A2 0x00).mask 0xFF
  | .FIELD_JUNCTION => row 0x1101 0x01 1 .u8 1 .field .perBuild 0x2A2 0x00
  | .DOMAIN_RAIL => row 0x1102 0x00 1 .u16 2 .domain .perBuild 0x2A2 0x00
  | .DOMAIN_FIRST_REGION => row 0x1102 0x01 1 .u16 2 .domain .perBuild 0x2A2 0x00
  | .DOMAIN_REGION_COUNT => row 0x1102 0x02 1 .u8 1 .domain .perBuild 0x2A2 0x00
  | .DOMAIN_TARGET => (row 0x1102 0x03 1 .enum8 1 .domain (.const 0) 0x3F0 0x00).oneOf [0, 1, 2]
  | .DOMAIN_STATE => (row 0x1102 0x04 1 .enum8 1 .domain (.live 0x0) 0x2A2 0x00).oneOf [0, 1, 2, 3]
  | .DOMAIN_RETAIN => row 0x1102 0x05 1 .bool 1 .domain (.const 1) 0x3F0 0x00
  | .RAIL_CONTROLLER => row 0x1103 0x00 1 .u8 1 .rail .perBuild 0x2A2 0x00
  | .RAIL_CHANNEL => row 0x1103 0x01 1 .u8 1 .rail .perBuild 0x2A2 0x00
  | .RAIL_DOMAIN => row 0x1103 0x02 1 .u16 2 .rail .perBuild 0x2A2 0x00
  | .CONDUCTOR_FIELD => row 0x1104 0x00 1 .u8 1 .none .perBuild 0x2A2 0x00
  | .PRIUND_BUILD => row 0x1104 0x01 1 .u32 4 .none .perBuild 0x2A2 0x00
  | .MAP_CRC => row 0x1104 0x02 1 .u32 4 .none .perBuild 0x2A2 0x00
  | .OSC_CODE => row 0x2000 0x00 1 .u16 2 .region (.live 0x0) 0x2A2 0x00
  | .OSC_TARGET_N => row 0x2000 0x01 1 .u16 2 .region (.live 0x0) 0x2A2 0x00
  | .OSC_STATUS => (row 0x2000 0x02 1 .bits32 4 .region (.live 0x0) 0x2A2 0x00).mask 0x1FF
  | .OSC_FREQ_NAT => row 0x2000 0x03 1 .u32 4 .region (.live 0x0) 0x2A2 0x12
  | .OSC_LOOP_ERR => row 0x2000 0x04 1 .s16 2 .region (.live 0x0) 0x2A2 0x0C
  | .OSC_HEADROOM => row 0x2000 0x05 1 .s16 2 .region (.live 0x0) 0x2A2 0x0E
  | .OSC_PERMIT_MAX => row 0x2000 0x06 1 .u16 2 .region (.live 0x0) 0x2A2 0x00
  | .OSC_UNLOCKS => row 0x2000 0x07 1 .u32 4 .region (.const 0) 0x2A2 0x05
  | .OSC_CEILING_TIME => row 0x2000 0x08 1 .u32 4 .region (.const 0) 0x2A2 0x08
  | .CAL_CURVE => (row 0x2001 0x00 1 .blob 1096 .region .factory 0x2C0 0x00).exp.per.lcr
  | .CAL_OFFSET => (row 0x2001 0x01 1 .s16 2 .region (.const 0) 0x2E0 0x1A).exp.per.range (-256) 256
  | .AGE_RATIO_FACTORY => (row 0x2002 0x00 1 .q 2 .region .factory 0x2E0 0x00).exp.per.lcr.frc 15
  | .AGE_RATIO_LAST => (row 0x2002 0x01 1 .q 2 .region (.live 0x0) 0x2A2 0x00).per.frc 15
  | .AGE_DEGRADE_LAST => (row 0x2002 0x02 1 .u32 4 .region (.const 0) 0x2A2 0x0C).per
  | .AGE_DEGRADE_PREV => (row 0x2002 0x03 1 .u32 4 .region (.const 0) 0x2A2 0x0C).per
  | .AGE_GUARD => (row 0x2002 0x04 1 .u16 2 .region (.const 0) 0x2A2 0x0E).per
  | .AGE_POWERED_H => (row 0x2002 0x05 1 .u32 4 .region (.const 0) 0x2A2 0x0A).per
  | .AGE_SAMPLE_H => (row 0x2002 0x06 1 .u32 4 .region (.const 0) 0x2A2 0x0A).per
  | .FLL_GAIN => ((row 0x2003 0x00 1 .q 1 .none (.const 51) 0x3E0 0x00).exp.per.range 13 128).frc 8
  | .LOCK_TOL => (row 0x2003 0x01 1 .u16 2 .none (.const 500) 0x3E0 0x0C).exp.per.range 100 5000
  | .UNLOCK_TOL => (row 0x2003 0x02 1 .u16 2 .none (.const 10000) 0x3E0 0x0C).exp.per.range 1000 30000
  | .GUARD_BASE => (row 0x2003 0x03 1 .u16 2 .none (.const 200) 0x3E0 0x0E).exp.per.range 100 1000
  | .AGING_GAIN => ((row 0x2003 0x04 1 .q 1 .none (.const 24) 0x3E0 0x00).exp.per.range 16 64).frc 4
  | .AGING_GUARD_MAX => (row 0x2003 0x05 1 .u16 2 .none (.const 500) 0x3E0 0x0E).exp.per.range 0 1000
  | .AGE_INTERVAL => (row 0x2003 0x06 1 .u16 2 .none (.const 30) 0x3E0 0x0B).exp.per.range 7 90
  | .AGE_SAMPLE_REQ => row 0x2003 0x07 1 .bool 1 .none (.const 0) 0x3C0 0x00
  | .CAL_OFFSET_LEARN => (row 0x2003 0x08 1 .bool 1 .none (.const 1) 0x3E0 0x00).exp.per
  | .GUARANTEED_N => (row 0x2003 0x09 1 .u16 2 .none .factory 0x2E2 0x00).exp.per.lcr.range 160 1536
  | .DS_STATUS => (row 0x2100 0x00 1 .bits32 4 .region (.live 0x0) 0x2A2 0x00).mask 0xF1F
  | .DS_ENABLE => (row 0x2100 0x01 1 .bits32 4 .region .perBuild 0x2E0 0x00).exp.per.mask 0xFFFF
  | .DS_QUARANTINE => (row 0x2100 0x02 1 .bits32 4 .region (.const 0) 0x2E2 0x00).exp.per.mask 0xFFFF
  | .DS_MIN_READING => row 0x2100 0x03 1 .u8 1 .region (.live 0x0) 0x2A2 0x1B
  | .DS_TRIPS => row 0x2100 0x04 1 .u32 4 .region (.const 0) 0x2A2 0x05
  | .DS_COUNT_ONLY_TRIPS => row 0x2100 0x05 1 .u32 4 .region (.const 0) 0x2A2 0x05
  | .DS_THRESH => (row 0x2101 0x00 8 .u16 2 .region .factory 0x2E0 0x00).exp.per.mask 0x33F
  | .DS_LINE_TRIM => (row 0x2102 0x00 1 .blob 64 .region .factory 0x2C0 0x00).exp.per.lcr
  | .STRETCH_P8 => row 0x2103 0x00 1 .u64 8 .region (.const 0) 0x2A2 0x02
  | .STRETCH_P4 => row 0x2103 0x01 1 .u64 8 .region (.const 0) 0x2A2 0x02
  | .STRETCH_P2 => row 0x2103 0x02 1 .u64 8 .region (.const 0) 0x2A2 0x02
  | .STRETCH_HOLDS => row 0x2103 0x03 1 .u64 8 .region (.const 0) 0x2A2 0x02
  | .STRETCH_E_DROOP => row 0x2103 0x04 1 .u64 8 .region (.const 0) 0x2A2 0x03
  | .STRETCH_E_TETHER => row 0x2103 0x05 1 .u64 8 .region (.const 0) 0x2A2 0x03
  | .STRETCH_E_CAP => row 0x2103 0x06 1 .u64 8 .region (.const 0) 0x2A2 0x03
  | .STRETCH_E_FLOOR => row 0x2103 0x07 1 .u64 8 .region (.const 0) 0x2A2 0x03
  | .STRETCH_REFUSED => row 0x2103 0x08 1 .u64 8 .region (.const 0) 0x2A2 0x03
  | .DS_RUN_LEN => (row 0x2104 0x00 1 .u8 1 .none (.const 8) 0x3E0 0x02).exp.per.range 1 8
  | .STRETCH_WINDOW_DROOP => row 0x2104 0x01 1 .u8 1 .none (.const 24) 0x2A2 0x03
  | .STRETCH_WINDOW_OTHER => row 0x2104 0x02 1 .u8 1 .none (.const 20) 0x2A2 0x03
  | .DS_STUCK_TIME => row 0x2104 0x03 1 .u16 2 .none (.const 10) 0x2A2 0x08
  | .DS_GUARD_CODES => row 0x2104 0x04 1 .u8 1 .none (.const 1) 0x2A2 0x15
  | .DS_STUCK_EVENTS => (row 0x2104 0x05 1 .u32 4 .none (.const 0) 0x2A2 0x05).per
  | .REGION_COUNT => row 0x2200 0x00 1 .u64 8 .region (.live 0x0) 0x2A2 0x01
  | .TETHER_STATUS => (row 0x2200 0x01 1 .bits32 4 .region (.live 0x0) 0x2A2 0x00).mask 0xF3F
  | .SLIP => row 0x2200 0x02 4 .s16 2 .region (.live 0x0) 0x2A2 0x01
  | .SLIP_PEAK => row 0x2200 0x06 1 .u16 2 .region (.live 0x0) 0x2A2 0x01
  | .TETHER_ENGAGES => row 0x2200 0x07 1 .u32 4 .region (.const 0) 0x2A2 0x05
  | .TETHER_CAUSE => row 0x2200 0x08 1 .u16 2 .region (.live 0x0) 0x2A2 0x00
  | .CAUSED_DROOP => row 0x2201 0x00 1 .u64 8 .region (.const 0) 0x2A2 0x03
  | .CAUSED_CAP => row 0x2201 0x01 1 .u64 8 .region (.const 0) 0x2A2 0x03
  | .CAUSED_FLOOR => row 0x2201 0x02 1 .u64 8 .region (.const 0) 0x2A2 0x03
  | .TETHER_UNATTRIB => row 0x2201 0x03 1 .u64 8 .region (.const 0) 0x2A2 0x03
  | .TETHER_GROUP => row 0x2202 0x00 1 .u8 1 .field (.const 0) 0x3E0 0x00
  | .TETHER_GROUP_ACTIVE => row 0x2202 0x01 1 .u8 1 .field (.live 0xFF) 0x2A2 0x00
  | .FIELD_HOLD_FRAC => row 0x2202 0x02 1 .u32 4 .field (.live 0x0) 0x2A2 0x0C
  | .FIELD_CAUSED_DROOP => row 0x2202 0x03 1 .u64 8 .field (.const 0) 0x2A2 0x03
  | .GROUP_ANCHOR => row 0x2203 0x00 1 .u16 2 .group (.live 0x0) 0x2A2 0x00
  | .GROUP_COUNT => row 0x2203 0x01 1 .u64 8 .group (.live 0x0) 0x2A2 0x01
  | .GROUP_FIELDS => row 0x2203 0x02 1 .u8 1 .group (.live 0x0) 0x2A2 0x28
  | .GROUP_SLIP_PEAK => row 0x2203 0x03 1 .u16 2 .group (.live 0x0) 0x2A2 0x01
  | .TETHER_BANK => (row 0x2204 0x00 1 .u8 1 .none (.const 3) 0x3E0 0x01).exp.per.range 2 3
  | .TETHER_ESC_DWELL => (row 0x2204 0x01 1 .u8 1 .none (.const 4) 0x3E0 0x01).exp.per.range 1 8
  | .SLIP_ENGAGE => row 0x2204 0x02 1 .u8 1 .none (.const 2) 0x2A2 0x01
  | .SLIP_FAULT_LEVEL => row 0x2204 0x03 1 .u8 1 .none (.const 5) 0x2A2 0x01
  | .TRIM_MODE => row 0x2204 0x04 1 .bool 1 .none (.live 0x0) 0x2A2 0x00
  | .SLIP_FAULTS => (row 0x2204 0x05 1 .u32 4 .none (.const 0) 0x2A2 0x05).per
  | .XING_MODE => (row 0x2300 0x00 4 .enum8 1 .region (.live 0x0) 0x2A2 0x00).oneOf [0, 1, 2, 3, 255]
  | .XING_FENCE => (row 0x2300 0x04 1 .bits32 4 .region (.const 0) 0x3E0 0x00).mask 0xF
  | .XING_DISCARD => row 0x2300 0x05 1 .u64 8 .region (.const 0) 0x2A2 0x20
  | .XING_REFUSED => row 0x2300 0x06 1 .u64 8 .region (.const 0) 0x2A2 0x21
  | .XING_PTR_ERRS => row 0x2300 0x07 1 .u32 4 .region (.const 0) 0x2A2 0x05
  | .XING_RESYNCS => row 0x2300 0x08 1 .u32 4 .region (.const 0) 0x2A2 0x05
  | .REGION_DETACHED => row 0x2300 0x09 1 .bool 1 .region (.live 0x0) 0x2A2 0x00
  | .TRIM_TIME => (row 0x2301 0x00 1 .u16 2 .none (.const 100) 0x3E0 0x08).exp.per.range 20 900
  | .ALIGN_LIMIT => row 0x2301 0x01 1 .u16 2 .none (.const 1000) 0x2A2 0x08
  | .PTR_CHECK_PERIOD => row 0x2301 0x02 1 .u16 2 .none (.const 1024) 0x2A2 0x01
  | .ALIGN_FAILS => (row 0x2301 0x03 1 .u32 4 .none (.const 0) 0x2A2 0x05).per
  | .ICROSS_DISCARD => row 0x2302 0x00 1 .u32 4 .none (.const 0) 0x2A2 0x20
  | .ICROSS_RESYNCS => row 0x2302 0x01 1 .u32 4 .none (.const 0) 0x2A2 0x05
  | .GROUP_N => row 0x2400 0x00 1 .u16 2 .group (.live 0x0) 0x2A2 0x00
  | .GROUP_TARGET_N => row 0x2400 0x01 1 .u16 2 .group (.live 0x0) 0x2A2 0x00
  | .GROUP_CHG_STATE => (row 0x2400 0x02 1 .enum8 1 .group (.live 0x0) 0x2A2 0x00).oneOf [0, 1, 2, 3, 4]
  | .GROUP_CHG_C => row 0x2400 0x03 1 .u64 8 .group (.live 0x0) 0x2A2 0x01
  | .GROUP_CHG_RESULT => (row 0x2400 0x04 1 .enum8 1 .group (.const 0) 0x2A2 0x00).oneOf [0, 1, 2, 3, 4, 5, 6, 7]
  | .GROUP_CHG_STEPS => row 0x2400 0x05 1 .u32 4 .group (.const 0) 0x2A2 0x05
  | .GROUP_CHG_ABORTS => row 0x2400 0x06 1 .u32 4 .group (.const 0) 0x2A2 0x05
  | .GROUP_DIAMETER => row 0x2400 0x07 1 .u16 2 .group (.live 0x0) 0x2A2 0x29
  | .REGION_TARGET_N => (row 0x2401 0x00 1 .u16 2 .region (.const 160) 0x3F0 0x00).range 160 1536
  | .REGION_STOP_STATE => (row 0x2401 0x01 1 .enum8 1 .region (.live 0x0) 0x2A2 0x00).oneOf [0, 1, 2, 3, 4, 5]
  | .REGION_STOP_RESULT => (row 0x2401 0x02 1 .enum8 1 .region (.const 0) 0x2A2 0x00).oneOf [0, 1, 2, 3, 4, 5, 6, 7]
  | .REGION_STOPS => row 0x2401 0x03 1 .u32 4 .region (.const 0) 0x2A2 0x05
  | .REGION_STOP_ABORTS => row 0x2401 0x04 1 .u32 4 .region (.const 0) 0x2A2 0x05
  | .FIELD_VOLT => row 0x2402 0x00 1 .u16 2 .field (.live 0x0) 0x2A2 0x15
  | .FIELD_VNEED => row 0x2402 0x01 1 .u16 2 .field (.live 0x0) 0x2A2 0x15
  | .FIELD_VTRIM => (row 0x2402 0x02 1 .s16 2 .field (.const 0) 0x2E0 0x15).exp.per.range (-40) 40
  | .FIELD_VSET_UPS => row 0x2402 0x03 1 .u32 4 .field (.const 0) 0x2A2 0x05
  | .FIELD_VSET_DOWNS => row 0x2402 0x04 1 .u32 4 .field (.const 0) 0x2A2 0x05
  | .FIELD_VOLT_AT_CEIL => row 0x2402 0x05 1 .u32 4 .field (.const 0) 0x2A2 0x05
  | .CHANGE_LEAD => (row 0x2403 0x00 1 .u16 2 .none (.const 4) 0x3E0 0x08).exp.per.range 4 50
  | .CHANGE_RATE_MARGIN => row 0x2403 0x01 1 .u8 1 .none (.const 3) 0x2A2 0x0F
  | .STEP_LIMIT => row 0x2403 0x02 1 .u8 1 .none (.const 25) 0x2A2 0x0F
  | .QUIESCE_LIMIT => row 0x2403 0x03 1 .u16 2 .none (.const 100) 0x2A2 0x08
  | .STOP_TIME => row 0x2403 0x04 1 .u16 2 .none (.const 2000) 0x2A2 0x06
  | .VOLT_SETTLE_LIMIT => (row 0x2403 0x05 1 .u16 2 .none (.const 80) 0x3E0 0x08).exp.per.range 20 90
  | .VOLT_CONFIRM_TOL => (row 0x2403 0x06 1 .u8 1 .none (.const 2) 0x3E0 0x15).exp.per.range 1 8
  | .VSET_HOLD_HI => (row 0x2403 0x07 1 .u32 4 .none (.const 40) 0x3E0 0x0C).exp.per.range 5 1000
  | .VSET_HOLD_LO => (row 0x2403 0x08 1 .u32 4 .none (.const 10) 0x3E0 0x0C).exp.per.range 0 500
  | .VSET_HEAD_HI => (row 0x2403 0x09 1 .s16 2 .none (.const 100) 0x3E0 0x0E).exp.per.range 20 500
  | .VSET_DWELL => (row 0x2403 0x0A 1 .u8 1 .none (.const 8) 0x3E0 0x1F).exp.per.range 1 64
  | .QUIESCE_STALE_ACKS => row 0x2403 0x0B 1 .u32 4 .none (.const 0) 0x2A2 0x05
  | .REF_STATUS => (row 0x2500 0x00 1 .bits32 4 .none (.live 0x0) 0x2A2 0x00).mask 0x3FF
  | .REF_PREFER => (row 0x2500 0x01 1 .enum8 1 .none (.const 0) 0x3F0 0x00).per.oneOf [0, 1, 2]
  | .REF_QUALIFY => (row 0x2500 0x02 1 .u16 2 .none (.const 10) 0x3E0 0x09).exp.per.range 1 1000
  | .REF_A_ERR => row 0x2500 0x03 1 .s32 4 .none (.live 0x7FFFFFFF) 0x2A2 0x0D
  | .REF_B_ERR => row 0x2500 0x04 1 .s32 4 .none (.live 0x7FFFFFFF) 0x2A2 0x0D
  | .INTOSC_ERR => row 0x2500 0x05 1 .s32 4 .none (.live 0x7FFFFFFF) 0x2A2 0x0D
  | .REF_A_LOSSES => (row 0x2500 0x06 1 .u32 4 .none (.const 0) 0x2A2 0x05).per
  | .REF_B_LOSSES => (row 0x2500 0x07 1 .u32 4 .none (.const 0) 0x2A2 0x05).per
  | .REF_SWITCHES => row 0x2500 0x08 1 .u32 4 .none (.const 0) 0x2A2 0x05
  | .HOLDOVER_ENTRIES => (row 0x2500 0x09 1 .u32 4 .none (.const 0) 0x2A2 0x05).per
  | .HOLDOVER_TIME => (row 0x2500 0x0A 1 .u32 4 .none (.const 0) 0x2A2 0x09).per
  | .FB_ABANDONED => row 0x2500 0x0B 1 .u32 4 .none (.const 0) 0x2A2 0x22
  | .GLOBAL_TIME => row 0x2510 0x00 1 .u64 8 .none (.live 0x0) 0x2A2 0x07
  | .TIME_STATUS => (row 0x2510 0x01 1 .bits32 4 .none (.live 0x0) 0x2A2 0x00).mask 0x3F
  | .TIME_RATE_ADJ => (row 0x2510 0x02 1 .s32 4 .none (.const 0) 0x3E0 0x0D).range (-100000) 100000
  | .TIME_OFFSET_ADJ => row 0x2510 0x03 1 .s32 4 .none (.const 0) 0x3E0 0x07
  | .TIME_SLEW_LIMIT => (row 0x2510 0x04 1 .u32 4 .none (.const 100000) 0x3E0 0x0D).range 1000 100000
  | .TIME_SET => row 0x2510 0x05 1 .u64 8 .none (.const 0) 0x3C0 0x07
  | .TIME_SETS => row 0x2510 0x06 1 .u32 4 .none (.const 0) 0x2A2 0x05
  | .PPS_TIME => row 0x2510 0x07 1 .u64 8 .none (.const 0) 0x2A2 0x07
  | .PPS_COUNT => row 0x2510 0x08 1 .u32 4 .none (.const 0) 0x2A2 0x05
  | .TS_TIME => row 0x2510 0x09 1 .u64 8 .none (.const 0) 0x2A2 0x07
  | .TS_CAPTURE_COUNT => row 0x2510 0x0A 1 .u32 4 .none (.const 0) 0x2A2 0x05
  | .REGION_TIME => row 0x2511 0x00 1 .u64 8 .region (.live 0x0) 0x2A2 0x07
  | .REGION_TIME_ERR => row 0x2511 0x01 1 .s16 2 .region (.live 0x0) 0x2A2 0x07
  | .REGION_TIME_ERR_PEAK => row 0x2511 0x02 1 .u16 2 .region (.live 0x0) 0x2A2 0x07
  | .MARK_DELAY => row 0x2511 0x03 1 .u16 2 .region .perBuild 0x2A2 0x07
  | .EST_POWER => row 0x3000 0x00 1 .u32 4 .region (.live 0x0) 0x2A2 0x13
  | .EST_DYN => row 0x3000 0x01 1 .u32 4 .region (.live 0x0) 0x2A2 0x13
  | .EST_LEAK => row 0x3000 0x02 1 .u32 4 .region (.live 0x0) 0x2A2 0x13
  | .EST_STATUS => (row 0x3000 0x03 1 .bits32 4 .region (.live 0x84) 0x2A2 0x00).mask 0x7FF
  | .EST_SWEEP_M => row 0x3000 0x04 1 .u8 1 .region (.live 0x0) 0x2A2 0x1D
  | .LANE_INVALIDS => row 0x3000 0x05 1 .u32 4 .region (.const 0) 0x2A2 0x05
  | .EST_OVERFLOWS => row 0x3000 0x06 1 .u32 4 .region (.const 0) 0x2A2 0x05
  | .EST_WEIGHT_DEV => row 0x3000 0x07 1 .s16 2 .region (.live 0x0) 0x2A2 0x0E
  | .EST_WEIGHTS_AT_CLAMP => row 0x3000 0x08 1 .u16 2 .region (.live 0x0) 0x2A2 0x1C
  | .CAL_LATE => row 0x3000 0x09 1 .u32 4 .region (.const 0) 0x2A2 0x05
  | .EST_SHIFT => (row 0x3001 0x00 1 .u8 1 .region .factory 0x2E2 0x00).exp.per.lcr.range 0 15
  | .LEAK_SHARE => (row 0x3001 0x01 1 .q 1 .region .factory 0x2E2 0x00).exp.per.lcr.frc 7
  | .REGION_PMAX => row 0x3001 0x02 1 .u32 4 .region .perBuild 0x2A2 0x13
  | .EST_WEIGHT => (row 0x3001 0x03 1 .blob 1024 .region .factory 0x2C0 0x00).exp
  | .EST_WEIGHT_FACTORY => (row 0x3001 0x04 1 .blob 1024 .region .factory 0x2C0 0x00).exp.per.lcr
  | .LEAK_TABLE => (row 0x3002 0x00 1 .blob 512 .field .factory 0x2C0 0x00).exp.per.lcr
  | .FIELD_EST => row 0x3002 0x01 1 .u32 4 .field (.live 0x0) 0x2A2 0x13
  | .FIELD_EST_SUBST => row 0x3002 0x02 1 .u8 1 .field (.live 0x0) 0x2A2 0x27
  | .DOMAIN_EST => row 0x3003 0x00 1 .u32 4 .domain (.live 0x0) 0x2A2 0x13
  | .DOMAIN_MEAS => row 0x3003 0x01 1 .u32 4 .domain (.live 0x0) 0x2A2 0x13
  | .CAL_ERR => row 0x3003 0x02 1 .s32 4 .domain (.live 0x0) 0x2A2 0x13
  | .CAL_ERR_MEAN => row 0x3003 0x03 1 .s16 2 .domain (.live 0x0) 0x2A2 0x0E
  | .CAL_UPDATES => row 0x3003 0x04 1 .u32 4 .domain (.const 0) 0x2A2 0x05
  | .CAL_DEADBAND_HITS => row 0x3003 0x05 1 .u32 4 .domain (.const 0) 0x2A2 0x05
  | .CAL_SKIPS => row 0x3003 0x06 1 .u32 4 .domain (.const 0) 0x2A2 0x05
  | .CAL_SKIP_LAST => (row 0x3003 0x07 1 .enum8 1 .domain (.const 0) 0x2A2 0x00).oneOf [0, 1, 2, 3, 4, 5, 6, 7, 8, 9, 10]
  | .GROUP_EST => row 0x3004 0x00 1 .u32 4 .group (.live 0x0) 0x2A2 0x13
  | .GROUP_EST_SUBST => row 0x3004 0x01 1 .u16 2 .group (.live 0x0) 0x2A2 0x27
  | .ENGINE_EST => row 0x3005 0x00 1 .u32 4 .none (.live 0x0) 0x2A2 0x13
  | .ENGINE_EST_SUBST => row 0x3005 0x01 1 .u16 2 .none (.live 0x0) 0x2A2 0x27
  | .VSCALE => (row 0x3005 0x02 1 .blob 32 .none .factory 0x2C0 0x00).exp.per.lcr
  | .EST_VREF_CODE => (row 0x3005 0x03 1 .u16 2 .none .factory 0x2E2 0x15).exp.per.lcr
  | .INVALID_LANE_LIMIT => (row 0x3005 0x04 1 .u8 1 .none (.const 8) 0x3E0 0x1C).exp.per.range 0 64
  | .EST_HOLD_WINDOWS => (row 0x3005 0x05 1 .u8 1 .none (.const 10) 0x3E0 0x1D).exp.per.range 1 100
  | .CAL_ENABLE => (row 0x3006 0x00 1 .bool 1 .none (.const 1) 0x3E0 0x00).per
  | .CAL_MU_SHIFT => (row 0x3006 0x01 1 .u8 1 .none (.const 10) 0x3E0 0x00).exp.per.range 6 14
  | .CAL_RATE => (row 0x3006 0x02 1 .u8 1 .none (.const 1) 0x3E0 0x1E).exp.per.range 1 100
  | .CAL_DEADBAND => (row 0x3006 0x03 1 .u8 1 .none (.const 4) 0x3E0 0x10).exp.per.range 1 32
  | .CAL_MIN_DYN => (row 0x3006 0x04 1 .u8 1 .none (.const 50) 0x3E0 0x0F).exp.per.range 10 90
  | .CAL_STEADY => (row 0x3006 0x05 1 .u8 1 .none (.const 32) 0x3E0 0x10).exp.per.range 4 128
  | .CAL_IDLE_TICKS => (row 0x3006 0x06 1 .u16 2 .none (.const 1000) 0x3E0 0x1F).exp.per.range 100 60000
  | .CAL_BAND => row 0x3006 0x07 1 .u16 2 .none (.const 1250) 0x2A2 0x0E
  | .CAL_TLM_WAIT => row 0x3006 0x08 1 .u8 1 .none (.const 8) 0x2A2 0x08
  | .CAL_RESET_REQ => (row 0x3006 0x09 1 .bool 1 .none (.const 0) 0x3C0 0x00).exp
  | .CAL_SATURATED_EVENTS => (row 0x3006 0x0A 1 .u32 4 .none (.const 0) 0x2A2 0x05).per
  | .HOST_CAP => (row 0x3100 0x00 1 .u32 4 .none (.const 0xFFFFFFFF) 0x3E2 0x13).per
  | .BOARD_CAP => row 0x3100 0x01 1 .u32 4 .none (.const 0xFFFFFFFF) 0x2F2 0x13
  | .EXT_CAP => (row 0x3100 0x02 1 .u32 4 .none .perBuild 0x2F2 0x13).per
  | .ENGINE_OTHER => (row 0x3100 0x03 1 .u32 4 .none (.const 0) 0x3E0 0x13).per
  | .COMPUTE_LIMIT => row 0x3100 0x04 1 .u32 4 .none (.live 0xFFFFFFFF) 0x2A2 0x13
  | .COMPUTE_LIMIT_REASON => (row 0x3100 0x05 1 .enum8 1 .none (.live 0xFF) 0x2A2 0x00).oneOf [0, 1, 2, 3, 4, 5, 6, 7, 8, 9, 10, 11, 255]
  | .CAP_STATUS => (row 0x3100 0x06 1 .bits32 4 .none (.live 0x0) 0x2A2 0x00).mask 0xFF
  | .ENGINE_MEAS => row 0x3100 0x07 1 .u32 4 .none (.live 0x0) 0x2A2 0x13
  | .CAP_N_EVENTS => row 0x3100 0x08 1 .u32 4 .none (.const 0) 0x2A2 0x05
  | .HOT_N_EVENTS => row 0x3100 0x09 1 .u32 4 .none (.const 0) 0x2A2 0x05
  | .OP_TABLE => (row 0x3101 0x00 1 .blob 128 .group .perBuild 0x3E2 0x00).per
  | .OP_MAX => (row 0x3101 0x01 1 .u8 1 .group (.const 31) 0x3E2 0x2A).range 0 31
  | .OP_FIRST => (row 0x3101 0x02 1 .u8 1 .group (.const 0) 0x3E2 0x2A).per
  | .GROUP_SHARE => (row 0x3101 0x03 1 .u8 1 .group (.const 0) 0x3E0 0x10).per
  | .GROUP_LIMIT => row 0x3101 0x04 1 .u32 4 .group (.live 0xFFFFFFFF) 0x2A2 0x13
  | .OP_POWER_ENTRY => row 0x3101 0x05 1 .u8 1 .group (.live 0x0) 0x2A2 0x2A
  | .OP_CEIL_ENTRY => row 0x3101 0x06 1 .u8 1 .group (.live 0x0) 0x2A2 0x2A
  | .GROUP_CEIL_REASON => (row 0x3101 0x07 1 .enum8 1 .group (.live 0xFF) 0x2A2 0x00).oneOf [0, 1, 2, 3, 4, 5, 6, 7, 8, 9, 10, 11, 255]
  | .GROUP_LOSS => row 0x3101 0x08 1 .u16 2 .group (.live 0x0) 0x2A2 0x0E
  | .FLOOR_STATE => (row 0x3101 0x09 1 .enum8 1 .group (.live 0x0) 0x2A2 0x00).oneOf [0, 1, 2]
  | .FLOOR_RATE => row 0x3101 0x0A 1 .u16 2 .group (.live 0x400) 0x2A2 0x11
  | .CAP_EXCESS => row 0x3101 0x0B 1 .u32 4 .group (.const 0) 0x2A2 0x13
  | .CAP_UNATT_EVENTS => row 0x3101 0x0C 1 .u32 4 .group (.const 0) 0x2A2 0x05
  | .OP_DOWN_STEPS => row 0x3101 0x0D 1 .u32 4 .group (.const 0) 0x2A2 0x05
  | .OP_UP_STEPS => row 0x3101 0x0E 1 .u32 4 .group (.const 0) 0x2A2 0x05
  | .FIXED_RATE_ENABLE => row 0x3101 0x0F 1 .bool 1 .group (.const 0) 0x3E2 0x00
  | .FIXED_RATE_N => (row 0x3101 0x10 1 .u16 2 .group (.const 160) 0x3E2 0x00).range 160 1536
  | .FIELD_LIMIT => row 0x3102 0x00 1 .u32 4 .field (.live 0xFFFFFFFF) 0x2A2 0x13
  | .FIELD_LIMIT_REASON => (row 0x3102 0x01 1 .enum8 1 .field (.live 0xFF) 0x2A2 0x00).oneOf [0, 1, 2, 3, 4, 5, 6, 7, 8, 9, 10, 11, 255]
  | .FIELD_CAP => (row 0x3102 0x02 1 .u32 4 .field (.const 0xFFFFFFFF) 0x3E0 0x13).per
  | .FIELD_EST_CORR => (row 0x3102 0x03 1 .u16 2 .field (.const 16384) 0x2A2 0x00).frc 14
  | .FAST_DUTY => row 0x3102 0x04 1 .u16 2 .field (.live 0x0) 0x2A2 0x04
  | .FIELD_EXCESS => row 0x3102 0x05 1 .s16 2 .field (.live 0x0) 0x2A2 0x11
  | .FIELD_TEMP_MAX => row 0x3102 0x06 1 .s16 2 .field (.live 0x0) 0x2A2 0x19
  | .FIELD_THERM_LIMIT => row 0x3102 0x07 1 .u32 4 .field (.const 0xFFFFFFFF) 0x2A2 0x13
  | .RAIL_IMAX => (row 0x3103 0x00 1 .u16 2 .rail (.live 0) 0x3F0 0x17).per
  | .RAIL_LIMIT => row 0x3103 0x01 1 .u32 4 .rail (.live 0xFFFFFFFF) 0x2A2 0x13
  | .RAIL_OVER_EVENTS => row 0x3103 0x02 1 .u32 4 .rail (.const 0) 0x2A2 0x05
  | .FAST_GAIN => (row 0x3104 0x00 1 .u8 1 .none (.const 16) 0x3E0 0x00).exp.per.range 4 32
  | .OP_DOWN_LOSS => (row 0x3104 0x01 1 .u16 2 .none (.const 300) 0x3E0 0x0E).exp.per.range 50 2000
  | .OP_UP_LOSS => (row 0x3104 0x02 1 .u16 2 .none (.const 20) 0x3E0 0x0E).exp.per.range 0 200
  | .OP_UP_MARGIN => (row 0x3104 0x03 1 .u8 1 .none (.const 8) 0x3E0 0x10).exp.per.range 2 64
  | .OP_UP_DWELL => (row 0x3104 0x04 1 .u8 1 .none (.const 4) 0x3E0 0x1F).exp.per.range 1 64
  | .OP_BOUNCE_TICKS => (row 0x3104 0x05 1 .u16 2 .none (.const 1000) 0x3E0 0x1F).exp.per.range 0 60000
  | .FLOOR_PERIOD => (row 0x3104 0x06 1 .u16 2 .none (.const 16) 0x3E0 0x08).exp.per.range 16 1000
  | .FLOOR_ENGAGE_DUTY => (row 0x3104 0x07 1 .u16 2 .none (.const 256) 0x3E0 0x04).exp.per.range 128 320
  | .FLOOR_MIN_RATE => row 0x3104 0x08 1 .u16 2 .none (.const 128) 0x2A2 0x11
  | .RAIL_MARGIN => (row 0x3104 0x09 1 .u8 1 .none (.const 8) 0x3E0 0x10).exp.per.range 0 64
  | .THERM_THROTTLE => (row 0x3104 0x0A 1 .s16 2 .none (.const 392) 0x3F0 0x19).per.range 280 420
  | .THERM_HYST => (row 0x3104 0x0B 1 .u8 1 .none (.const 12) 0x3E0 0x19).exp.per.range 4 40
  | .THERM_TRIP => (row 0x3104 0x0C 1 .s16 2 .none (.const 432) 0x3F0 0x19).per.range 360 440
  | .THERM_STEP => (row 0x3104 0x0D 1 .u8 1 .none (.const 8) 0x3E0 0x10).exp.per.range 2 32
  | .HOT_ENTRY => (row 0x3104 0x0E 1 .u8 1 .none (.const 0) 0x3F0 0x2A).per.range 0 31
  | .CAP_N_MIN_TIME => row 0x3104 0x0F 1 .u16 2 .none (.const 100) 0x2A2 0x08
  | .THERM_TRIPS => (row 0x3104 0x10 1 .u32 4 .none (.const 0) 0x2A2 0x05).per
  | .PR_STATUS => (row 0x3200 0x00 1 .bits32 4 .none (.live 0x0) 0x2A2 0x00).mask 0x7
  | .PR_FREEZE => row 0x3200 0x01 1 .bool 1 .none (.const 0) 0x3E0 0x00
  | .PR_CLEAR => row 0x3200 0x02 1 .bool 1 .none (.const 0) 0x3C0 0x00
  | .PR_REARM => row 0x3200 0x03 1 .bool 1 .none (.const 0) 0x3C0 0x00
  | .PR_SLACK => (row 0x3200 0x04 1 .u8 1 .none (.const 5) 0x3E0 0x10).per.range 0 64
  | .PR_W_ENERGY => ((row 0x3200 0x05 1 .q 1 .none (.const 16) 0x3E0 0x00).exp.per.range 0 255).frc 4
  | .PR_W_TIME => ((row 0x3200 0x06 1 .q 1 .none (.const 0) 0x3E0 0x00).exp.per.range 0 255).frc 4
  | .PR_EXPLORE_N => (row 0x3200 0x07 1 .u16 2 .none (.const 16) 0x3E0 0x26).exp.per.range 0 1024
  | .PR_HYST => (row 0x3200 0x08 1 .u8 1 .none (.const 5) 0x3E0 0x10).exp.per.range 0 64
  | .PR_MIN_CONF => (row 0x3200 0x09 1 .u8 1 .none (.const 4) 0x3E0 0x26).exp.per.range 1 15
  | .PR_MEMORY => (row 0x3200 0x0A 1 .u8 1 .none (.const 16) 0x3E0 0x26).exp.per.range 1 63
  | .PR_SURPRISE => (row 0x3200 0x0B 1 .u8 1 .none (.const 128) 0x3E0 0x10).exp.per.range 16 255
  | .PR_SEED => (row 0x3200 0x0C 1 .u16 2 .none (.const 0x0001) 0x3E0 0x00).exp.per.range 1 65535
  | .PR_VOFF_MAX => (row 0x3200 0x0D 1 .u8 1 .none (.const 4) 0x3E0 0x15).exp.per.range 0 16
  | .PR_VOFF_RAISE => (row 0x3200 0x0E 1 .u8 1 .none (.const 4) 0x3E0 0x2B).exp.per.range 1 15
  | .PR_ONSET => (row 0x3200 0x0F 1 .u16 2 .none (.const 20) 0x3E0 0x08).exp.per.range 5 200
  | .PR_PREPOS_LEAD => (row 0x3200 0x10 1 .u16 2 .none (.const 20) 0x3E0 0x08).exp.per.range 5 200
  | .PR_PREPOS_HOLD => (row 0x3200 0x11 1 .u16 2 .none (.const 50) 0x3E0 0x08).exp.per.range 10 1000
  | .PR_MAX_OCC => (row 0x3200 0x12 1 .u16 2 .none (.const 1000) 0x3E0 0x09).exp.per.range 1 60000
  | .PR_MIN_OCC => row 0x3200 0x13 1 .u8 1 .none (.const 10) 0x2A2 0x08
  | .PR_DEDUP => row 0x3200 0x14 1 .u8 1 .none (.const 2) 0x2A2 0x08
  | .PR_IMPORT_COLLIDE => row 0x3200 0x15 1 .u32 4 .none (.const 0) 0x2A2 0x05
  | .PR_POLICY => (row 0x3201 0x00 1 .enum8 1 .group (.const 1) 0x3E2 0x00).per.oneOf [0, 1, 2, 3]
  | .PR_CUR_TAG => row 0x3201 0x01 1 .u16 2 .group (.live 0xFFFF) 0x2A2 0x00
  | .PR_NEXT_TAG => row 0x3201 0x02 1 .u16 2 .group (.live 0xFFFF) 0x2A2 0x00
  | .PR_CHOICE => row 0x3201 0x03 1 .u8 1 .group (.live 0x0) 0x2A2 0x2A
  | .PR_OCCURRENCES => row 0x3201 0x04 1 .u32 4 .group (.const 0) 0x2A2 0x05
  | .PR_UNCLEAN => row 0x3201 0x05 1 .u32 4 .group (.const 0) 0x2A2 0x05
  | .PR_EXPLORES => row 0x3201 0x06 1 .u32 4 .group (.const 0) 0x2A2 0x05
  | .PR_MOVES => row 0x3201 0x07 1 .u32 4 .group (.const 0) 0x2A2 0x05
  | .PR_REJECTS => row 0x3201 0x08 1 .u32 4 .group (.const 0) 0x2A2 0x05
  | .PR_SURPRISES => row 0x3201 0x09 1 .u32 4 .group (.const 0) 0x2A2 0x05
  | .PR_LATE_NEXT => row 0x3201 0x0A 1 .u32 4 .group (.const 0) 0x2A2 0x05
  | .PR_UNANNOUNCED => row 0x3201 0x0B 1 .u32 4 .group (.const 0) 0x2A2 0x05
  | .PR_DUP_MARKS => row 0x3201 0x0C 1 .u32 4 .group (.const 0) 0x2A2 0x05
  | .PR_DISCARDED => row 0x3201 0x0D 1 .u32 4 .group (.const 0) 0x2A2 0x05
  | .PR_LFSR => row 0x3201 0x0E 1 .u16 2 .group (.live 0x0) 0x2A2 0x00
  | .PR_GROUP_TABLE => row 0x3201 0x0F 1 .blob 16384 .group (.const 0) 0x2E0 0x00
  | .PR_OFFSET => row 0x3202 0x00 1 .u8 1 .field (.live 0x0) 0x2A2 0x15
  | .BX_ENABLE => (row 0x3300 0x00 1 .bool 1 .none (.const 0) 0x3E8 0x00).per
  | .BX_STATUS => (row 0x3300 0x01 1 .bits32 4 .none (.live 0x0) 0x2AA 0x00).mask 0x1FF
  | .BX_POOL_ID => row 0x3300 0x02 1 .u32 4 .none (.const 0) 0x3E8 0x00
  | .BX_ENGINE_ID => (row 0x3300 0x03 1 .u16 2 .none (.const 0) 0x3E8 0x00).range 0 4095
  | .BX_EPOCH => row 0x3300 0x04 1 .u16 2 .none (.live 0x0) 0x2AA 0x00
  | .BX_EPOCH_LOAD => row 0x3300 0x05 1 .u64 8 .none (.const 0) 0x3EC 0x00
  | .BX_GRANT => row 0x3300 0x06 1 .u32 4 .none (.live 0x0) 0x2AA 0x13
  | .BX_GRANT_MIN => row 0x3300 0x07 1 .u32 4 .none (.const 0) 0x3E8 0x13
  | .BX_GRANT_MAX => row 0x3300 0x08 1 .u32 4 .none (.const 0xFFFFFFFE) 0x3E8 0x13
  | .BX_N_GRANT_MIN => row 0x3300 0x09 1 .u32 4 .none (.const 0xFFFFFFFE) 0x3E8 0x13
  | .BX_N_GRANT_MAX => row 0x3300 0x0A 1 .u32 4 .none (.const 0) 0x3E8 0x13
  | .BX_STEP => (row 0x3300 0x0B 1 .u16 2 .none (.const 200) 0x3E8 0x0E).exp.range 0 200
  | .BX_SLACK_HYST => (row 0x3300 0x0C 1 .u32 4 .none (.const 10000) 0x3E8 0x0C).exp.range 0 500000
  | .BX_SLACK_FULL => (row 0x3300 0x0D 1 .u32 4 .none (.const 100000) 0x3E8 0x0C).exp.range 1000 1000000
  | .BX_EPOCH_TIMEOUT => (row 0x3300 0x0E 1 .u16 2 .none (.const 3000) 0x3E8 0x09).range 100 60000
  | .BX_SLACK => row 0x3300 0x0F 1 .u32 4 .none (.live 0x0) 0x2AA 0x0C
  | .BX_ROUND => row 0x3300 0x10 1 .u32 4 .none (.live 0x0) 0x2AA 0x00
  | .BX_EPOCH_PERIOD => (row 0x3300 0x11 1 .u16 2 .none (.const 1000) 0x3E8 0x09).range 100 30000
  | .BX_PEER => (row 0x3301 0x00 8 .bits32 4 .none (.const 0) 0x3E8 0x00).mask 0xC0000FFF
  | .BX_PEER_SLACK => row 0x3302 0x00 8 .u32 4 .none (.live 0x0) 0x2AA 0x0C
  | .BX_TX_FRAMES => row 0x3303 0x00 1 .u32 4 .none (.const 0) 0x2AA 0x22
  | .BX_RX_ACCEPTED => row 0x3303 0x01 1 .u32 4 .none (.const 0) 0x2AA 0x22
  | .BX_RX_DROP_LAST => (row 0x3303 0x02 1 .enum8 1 .none (.const 0) 0x2AA 0x00).oneOf [0, 1, 2, 3, 4, 5, 6, 7, 8]
  | .BX_RX => row 0x3303 0x03 8 .u32 4 .none (.const 0) 0x2AA 0x22
  | .BX_CREDIT_OUT => row 0x3303 0x0B 1 .u64 8 .none (.const 0) 0x2AA 0x13
  | .BX_CREDIT_IN => row 0x3303 0x0C 1 .u64 8 .none (.const 0) 0x2AA 0x13
  | .BX_LOST_TX => row 0x3303 0x0D 1 .u64 8 .none (.const 0) 0x2AA 0x13
  | .BX_LOST_CLAMP => row 0x3303 0x0E 1 .u64 8 .none (.const 0) 0x2AA 0x13
  | .BX_LOST_PASSIVE => row 0x3303 0x0F 1 .u64 8 .none (.const 0) 0x2AA 0x13
  | .BX_EPOCH_LOADS => row 0x3303 0x10 1 .u32 4 .none (.const 0) 0x2AA 0x05
  | .BX_EPOCH_EXPIRIES => row 0x3303 0x11 1 .u32 4 .none (.const 0) 0x2AA 0x05
  | .BX_DIRECTIVES => row 0x3303 0x12 1 .u32 4 .none (.const 0) 0x2AA 0x22
  | .REGION_PARTITION => (row 0x3400 0x00 1 .u8 1 .region (.const 0xFF) 0x3E2 0x00).per
  | .PART_ENERGY => row 0x3401 0x00 1 .u64 8 .partition (.const 0) 0x2A2 0x14
  | .PART_REGIONS => row 0x3401 0x01 1 .u16 2 .partition (.live 0x0) 0x2A2 0x27
  | .PART_SUBST_WINDOWS => row 0x3401 0x02 1 .u64 8 .partition (.const 0) 0x2A2 0x1D
  | .UNASSIGNED_ENERGY => row 0x3402 0x00 1 .u64 8 .none (.const 0) 0x2A2 0x14
  | .ENGINE_COMPUTE_ENERGY => row 0x3402 0x01 1 .u64 8 .none (.const 0) 0x2A2 0x14
  | .ENGINE_DOMAIN_RAIL_ENERGY => row 0x3402 0x02 1 .u64 8 .none (.const 0) 0x2A2 0x14
  | .ENGINE_NONCOMPUTE_ENERGY => row 0x3402 0x03 1 .u64 8 .none (.const 0) 0x2A2 0x14
  | .RAIL_FILLED_INTERVALS => row 0x3402 0x04 1 .u64 8 .none (.const 0) 0x2A2 0x1E
  | .REPORT_EPOCH => (row 0x3402 0x05 1 .u32 4 .none (.const 0) 0x2A2 0x05).per
  | .REPORT_SNAP_REQ => row 0x3403 0x00 1 .bool 1 .none (.const 0) 0x3F0 0x00
  | .SNAP_TIME => row 0x3403 0x01 1 .u64 8 .none (.const 0) 0x2A2 0x07
  | .SNAP_PART_ENERGY => row 0x3403 0x02 1 .u64 8 .partition (.const 0) 0x2A2 0x14
  | .SNAP => row 0x3403 0x03 4 .u64 8 .none (.const 0) 0x2A2 0x14
  | .THR_TIME => row 0x3410 0x00 12 .u64 8 .field (.const 0) 0x2A2 0x08
  | .THR_LOST => row 0x3411 0x00 12 .u64 8 .field (.const 0) 0x2A2 0x03
  | .THR_REASON_NOW => (row 0x3412 0x00 1 .enum8 1 .field (.live 0xFF) 0x2A2 0x00).oneOf [0, 1, 2, 3, 4, 5, 6, 7, 8, 9, 10, 11, 255]
  | .EPISODE => row 0x3420 0x00 256 .blob 32 .none (.const 0) 0x2A2 0x00
  | .EPISODE_NEXT => row 0x3421 0x00 1 .u8 1 .none (.const 0) 0x2A2 0x00
  | .EPISODE_SEQ => row 0x3421 0x01 1 .u32 4 .none (.const 0) 0x2A2 0x00
  | .EPISODE_OVERWRITTEN => row 0x3421 0x02 1 .u32 4 .none (.const 0) 0x2A2 0x24
  | .EPISODE_SHORT => row 0x3421 0x03 1 .u32 4 .none (.const 0) 0x2A2 0x25
  | .EPISODE_MIN => (row 0x3421 0x04 1 .u16 2 .none (.const 10) 0x3E0 0x08).per.range 1 1000
  | .EPISODE_GAP => (row 0x3421 0x05 1 .u8 1 .none (.const 5) 0x3E0 0x1D).per.range 1 100
  | .EPISODE_OPEN_REASON => (row 0x3422 0x00 1 .enum8 1 .group (.live 0xFF) 0x2A2 0x00).oneOf [0, 1, 2, 3, 4, 5, 6, 7, 8, 9, 10, 11, 255]
  | .RUN_CTL => (row 0x3430 0x00 1 .enum8 1 .group (.const 0) 0x3E3 0x00).oneOf [1, 2]
  | .RUN_STATUS => (row 0x3430 0x01 1 .bits32 4 .group (.const 0) 0x2A2 0x00).mask 0xFFF
  | .RUN_START_TIME => row 0x3430 0x02 1 .u64 8 .group (.const 0) 0x2A2 0x07
  | .RUN_TIME => row 0x3430 0x03 1 .u64 8 .group (.const 0) 0x2A2 0x07
  | .RUN_CYCLES => row 0x3430 0x04 1 .u64 8 .group (.const 0) 0x2A2 0x01
  | .RUN_IDEAL => row 0x3430 0x05 1 .u64 8 .group (.const 0) 0x2A2 0x01
  | .RUN_LOST => row 0x3430 0x06 1 .u64 8 .group (.const 0) 0x2A2 0x01
  | .RUN_LOSS_PPM => row 0x3430 0x07 1 .u32 4 .group (.const 0) 0x2A2 0x0C
  | .RUN_LOST_E => row 0x3431 0x00 12 .u64 8 .group (.const 0) 0x2A2 0x03
  | .RUN_BOUND_PPM => row 0x3432 0x00 1 .u16 2 .none (.const 9900) 0x2A2 0x0C
  | .RAIL_STATE => (row 0x3500 0x00 1 .enum8 1 .rail (.live 0x0) 0x2A2 0x00).oneOf [0, 1, 2, 3]
  | .RAIL_STATUS => (row 0x3500 0x01 1 .bits32 4 .rail (.live 0x0) 0x2A2 0x00).mask 0x7F
  | .RAIL_TARGET => row 0x3500 0x02 1 .u16 2 .rail (.live 0x0) 0x2A2 0x15
  | .RAIL_VMEAS => row 0x3500 0x03 1 .u16 2 .rail (.live 0x0) 0x2A2 0x16
  | .RAIL_IMEAS => row 0x3500 0x04 1 .u16 2 .rail (.live 0x0) 0x2A2 0x18
  | .RAIL_IRATING => row 0x3500 0x05 1 .u16 2 .rail (.live 0) 0x2A2 0x17
  | .RAIL_VMIN => (row 0x3500 0x06 1 .u16 2 .rail (.live 0) 0x3F0 0x15).per
  | .RAIL_VMAX => (row 0x3500 0x07 1 .u16 2 .rail (.live 0) 0x3F0 0x15).per
  | .RAIL_RECOVER => row 0x3500 0x08 1 .bool 1 .rail (.const 0) 0x3F0 0x00
  | .RAIL_CRC_ERRS => row 0x3500 0x09 1 .u32 4 .rail (.const 0) 0x2A2 0x05
  | .RAIL_TIMEOUTS => row 0x3500 0x0A 1 .u32 4 .rail (.const 0) 0x2A2 0x05
  | .RAIL_RETRIES => row 0x3500 0x0B 1 .u32 4 .rail (.const 0) 0x2A2 0x05
  | .RAIL_TLM_MISSES => row 0x3500 0x0C 1 .u32 4 .rail (.const 0) 0x2A2 0x1E
  | .RAIL_DEGRADE_EVENTS => (row 0x3500 0x0D 1 .u32 4 .rail (.const 0) 0x2A2 0x05).per
  | .RAIL_OCP_EVENTS => row 0x3500 0x0E 1 .u32 4 .rail (.const 0) 0x2A2 0x05
  | .LINK_STATE => (row 0x3510 0x00 32 .enum8 1 .none (.live 0x0) 0x2A2 0x00).oneOf [0, 1, 2, 3, 4]
  | .LINK_IDENT => row 0x3511 0x00 32 .u32 4 .none (.live 0x0) 0x2A2 0x00
  | .LINK_RX_PHASE => row 0x3512 0x00 32 .u8 1 .none (.live 0x0) 0x2A2 0x00
  | .LINK_MALFORMED => row 0x3513 0x00 32 .u32 4 .none (.const 0) 0x2A2 0x22
  | .MB_OWNER => (row 0x4000 0x00 1 .u16 2 .mailbox (.const 0) 0x3E2 0x00).per.range 0 4095
  | .MB_DOMAIN => (row 0x4000 0x01 1 .u16 2 .mailbox .perBuild 0x3E2 0x00).per
  | .MB_WAKE => (row 0x4000 0x02 1 .bool 1 .mailbox (.const 1) 0x3E0 0x00).per
  | .MB_SEM => (row 0x4000 0x03 1 .bits32 4 .mailbox (.const 0) 0x3E2 0x00).per.mask 0x8FFFFFFF
  | .MB_COUNT => row 0x4000 0x04 1 .u8 1 .mailbox (.live 0x0) 0x2A2 0x23
  | .MB_POSTS => row 0x4000 0x05 1 .u32 4 .mailbox (.const 0) 0x2A2 0x05
  | .MB_DISCARDS => row 0x4000 0x06 1 .u32 4 .mailbox (.const 0) 0x2A2 0x23
  | .MB_TIMEOUTS => row 0x4000 0x07 1 .u32 4 .mailbox (.const 0) 0x2A2 0x23
  | .MB_WAKES => row 0x4000 0x08 1 .u32 4 .mailbox (.const 0) 0x2A2 0x05
  | .MB_SEM_STATUS => row 0x4000 0x09 1 .u8 1 .mailbox (.const 0) 0x2A2 0x00
  | .LOCK => row 0x4010 0x00 64 .u32 4 .none (.live 0x0) 0x2A2 0x00
  | .LOCK_FORCE => (row 0x4011 0x00 64 .bool 1 .none (.const 0) 0x0C0 0x00).exp
  | .LOCK_PRIO => (row 0x4012 0x00 1 .enum8 1 .none (.const 0) 0x2A2 0x00).oneOf [0, 1, 2]
  | .LOCK_CONTESTS => row 0x4012 0x01 1 .u32 4 .none (.const 0) 0x2A2 0x05
  | .MB_TIMEOUT => (row 0x4012 0x02 1 .u16 2 .none (.const 1000) 0x3E0 0x08).per.range 10 60000
  | .MB_DEPTH => row 0x4012 0x03 1 .u8 1 .none (.const 16) 0x2A2 0x23
  | .SY_QUIESCES => row 0x4020 0x00 1 .u32 4 .none (.const 0) 0x2A2 0x05
  | .SY_QACKS => row 0x4020 0x01 1 .u32 4 .none (.const 0) 0x2A2 0x05
  | .SY_SLACK_REPORTS => row 0x4020 0x02 1 .u32 4 .none (.const 0) 0x2A2 0x05
  | .SY_SLACK_DROPS => row 0x4020 0x03 1 .u32 4 .none (.const 0) 0x2A2 0x05
  | .SY_POSTS => row 0x4020 0x04 1 .u32 4 .none (.const 0) 0x2A2 0x05
  | .SY_POST_NONZERO => row 0x4020 0x05 1 .u32 4 .none (.const 0) 0x2A2 0x05
  | .SY_POST_OVERFLOW => row 0x4020 0x06 1 .u32 4 .none (.const 0) 0x2A2 0x05
  | .SY_POST_TIMEOUTS => row 0x4020 0x07 1 .u32 4 .none (.const 0) 0x2A2 0x05
  | .SY_PST_STALE => row 0x4020 0x08 1 .u32 4 .none (.const 0) 0x2A2 0x05
  | .OBJ_COUNT => row 0x5000 0x00 1 .u16 2 .none .perBuild 0x2A2 0x2F
  | .CATALOGUE_CRC => row 0x5000 0x01 1 .u32 4 .none .perBuild 0x2A2 0x00
  | .OBJ_DESC => row 0x5001 0x00 1 .u64 8 .entry .perBuild 0x2A2 0x00
  | .OBJ_NAME => row 0x5001 0x01 1 .str 32 .entry .perBuild 0x2A2 0x00
  | .OBJ_MIN => row 0x5001 0x02 1 .u64 8 .entry .perBuild 0x2A2 0x00
  | .OBJ_MAX => row 0x5001 0x03 1 .u64 8 .entry .perBuild 0x2A2 0x00
  | .OBJ_DEFAULT => row 0x5001 0x04 1 .u64 8 .entry .perBuild 0x2A2 0x00
  | .OBJ_SIZE => row 0x5001 0x05 1 .u32 4 .entry .perBuild 0x2A2 0x2E
  | .EXPERT_UNLOCK => row 0x5010 0x00 1 .bool 1 .none (.const 0) 0x3C0 0x00
  | .EXPERT_UNLOCK_TIME => (row 0x5010 0x01 1 .u16 2 .none (.const 600) 0x2E0 0x2C).exp.per.range 0 43200
  | .EXPERT_REMAINING => row 0x5010 0x02 1 .u16 2 .none (.live 0x0) 0x2A0 0x2C
  | .EXPERT_UNLOCKS => (row 0x5010 0x03 1 .u32 4 .none (.const 0) 0x2A0 0x05).per
  | .PERSIST_FLUSH => row 0x5020 0x00 1 .bool 1 .none (.const 0) 0x3F0 0x00
  | .PERSIST_PENDING => row 0x5020 0x01 1 .u16 2 .none (.live 0x0) 0x2A2 0x2F
  | .PERSIST_COMMITS => row 0x5020 0x02 1 .u32 4 .none (.const 0) 0x2A2 0x05
  | .PERSIST_DEFERRED => row 0x5020 0x03 1 .u32 4 .none (.const 0) 0x2A2 0x05
  | .AUDIT_NEXT => row 0x5030 0x00 1 .u16 2 .none (.const 0) 0x2A0 0x00
  | .AUDIT_SEQ => row 0x5030 0x01 1 .u32 4 .none (.const 0) 0x2A0 0x00
  | .AUDIT_OVERWRITTEN => row 0x5030 0x02 1 .u32 4 .none (.const 0) 0x2A0 0x24
  | .AUDIT_MERGED => row 0x5030 0x03 1 .u32 4 .none (.const 0) 0x2A0 0x05
  | .AUDIT_SUMMARY_PERIOD => (row 0x5030 0x04 1 .u16 2 .none (.const 60) 0x3E0 0x2D).per.range 10 1440
  | .AUDIT_SUMMARIES => (row 0x5030 0x05 1 .u32 4 .none (.const 0) 0x2A0 0x05).per
  | .AUDIT_OK => row 0x5031 0x00 6 .u32 4 .none (.const 0) 0x2A0 0x05
  | .AUDIT_REFUSED => row 0x5032 0x00 6 .u32 4 .none (.const 0) 0x2A0 0x05
  | .HP_LAST_STATUS => row 0x5100 0x00 1 .u64 8 .none (.const 0) 0x2A0 0x00
  | .HP_REQUESTS => row 0x5100 0x01 1 .u32 4 .none (.const 0) 0x2A0 0x05
  | .HP_ERRORS => row 0x5100 0x02 1 .u32 4 .none (.const 0) 0x2A0 0x05
  | .HP_NOTREADY => row 0x5100 0x03 1 .u32 4 .none (.const 0) 0x2A0 0x05
  | .HP_DENIED => row 0x5100 0x04 1 .u32 4 .none (.const 0) 0x2A0 0x05
  | .FB_NODE_ADDR => (row 0x5110 0x00 1 .u8 1 .none (.const 0x01) 0x3E0 0x00).per.range 1 254
  | .FB_NOM_RATE => (row 0x5110 0x01 1 .enum8 1 .none (.const 3) 0x3E0 0x00).per.oneOf [0, 1, 2, 3]
  | .FB_DATA_RATE => (row 0x5110 0x02 1 .enum8 1 .none (.const 3) 0x3E0 0x00).per.oneOf [0, 1, 2, 3]
  | .FB_BRS_ENABLE => (row 0x5110 0x03 1 .bool 1 .none (.const 1) 0x3E0 0x00).per
  | .FB_STATE => (row 0x5110 0x04 1 .enum8 1 .none (.live 0x0) 0x2A0 0x00).oneOf [0, 1, 2, 3]
  | .FB_TEC => row 0x5110 0x05 1 .u8 1 .none (.live 0x0) 0x2A0 0x05
  | .FB_REC => row 0x5110 0x06 1 .u8 1 .none (.live 0x0) 0x2A0 0x05
  | .FB_RX_FRAMES => row 0x5111 0x00 1 .u32 4 .none (.const 0) 0x2A0 0x22
  | .FB_TX_FRAMES => row 0x5111 0x01 1 .u32 4 .none (.const 0) 0x2A0 0x22
  | .FB_CLASSIC => row 0x5111 0x02 1 .u32 4 .none (.const 0) 0x2A0 0x22
  | .FB_IGNORED => row 0x5111 0x03 1 .u32 4 .none (.const 0) 0x2A0 0x22
  | .FB_MALFORMED => row 0x5111 0x04 1 .u32 4 .none (.const 0) 0x2A0 0x22
  | .FB_BUSY_ANSWERS => row 0x5111 0x05 1 .u32 4 .none (.const 0) 0x2A0 0x22
  | .FB_RX_DROPPED => row 0x5111 0x06 1 .u32 4 .none (.const 0) 0x2A0 0x22
  | .FB_TX_DROPPED => row 0x5111 0x07 1 .u32 4 .none (.const 0) 0x2A0 0x22
  | .FB_DUPLICATES => row 0x5111 0x08 1 .u32 4 .none (.const 0) 0x2A0 0x22
  | .FB_SESSIONS_ABANDONED => row 0x5111 0x09 1 .u32 4 .none (.const 0) 0x2A0 0x05
  | .FB_BUS_OFFS => (row 0x5111 0x0A 1 .u32 4 .none (.const 0) 0x2A0 0x05).per
  | .FB_HELD_RX => row 0x5111 0x0B 1 .u32 4 .none (.const 0) 0x2A0 0x22
  | .LC_STATE => (row 0x6000 0x00 1 .enum8 1 .none (.live 0x0) 0x2A2 0x00).oneOf [0, 1, 2, 3]
  | .LC_ARM => (row 0x6000 0x01 1 .bool 1 .none (.const 0) 0x0C0 0x00).exp
  | .LC_REQUEST => (row 0x6000 0x02 1 .enum8 1 .none (.const 0xFF) 0x0C0 0x00).exp.oneOf [0, 1, 2, 3]
  | .LC_STATUS => (row 0x6000 0x03 1 .bits32 4 .none (.live 0x0) 0x2A2 0x00).mask 0xF
  | .LC_HISTORY => (row 0x6000 0x04 1 .blob 512 .none (.live 0x0) 0x2A2 0x00).per
  | .FN_STATUS => (row 0x6001 0x00 1 .bits32 4 .none (.live 0x0) 0x2A2 0x00).mask 0xFFF
  | .FN_RING => row 0x6001 0x01 1 .u32 4 .none (.live 0x0) 0x2A2 0x00
  | .FN_HEAD_SEQ => row 0x6001 0x02 1 .u32 4 .none (.live 0x0) 0x2A2 0x00
  | .FN_CREDIT => row 0x6001 0x03 1 .s16 2 .none (.live 0x0) 0x2A2 0x24
  | .FN_WEAR => row 0x6001 0x04 1 .u32 4 .none (.live 0x0) 0x2A2 0x00
  | .FN_BAD_COPIES => (row 0x6001 0x05 1 .u32 4 .none (.const 0) 0x2A2 0x24).per
  | .FN_REPAIRS => (row 0x6001 0x06 1 .u32 4 .none (.const 0) 0x2A2 0x24).per
  | .FN_ROLLBACKS => (row 0x6001 0x07 1 .u32 4 .none (.const 0) 0x2A2 0x05).per
  | .FN_LOST_PARTS => (row 0x6001 0x08 1 .u32 4 .none (.const 0) 0x2A2 0x24).per
  | .FN_THINNED => row 0x6001 0x09 1 .u32 4 .none (.const 0) 0x2A2 0x05
  | .FN_FORMAT_REQ => (row 0x6001 0x0A 1 .bool 1 .none (.const 0) 0x0C0 0x00).exp
  | .FN_DEV_A_SECTORS => row 0x6001 0x0B 1 .u32 4 .none (.live 0x0) 0x2A2 0x00
  | .FN_DEV_B_SECTORS => row 0x6001 0x0C 1 .u32 4 .none (.live 0x0) 0x2A2 0x00
  | .FN_LIFE_S => row 0x6001 0x0D 1 .u32 4 .none (.live 0x0) 0x2A2 0x2C
  | .FN_BUCKET_MAX => row 0x6001 0x0E 1 .u16 2 .none (.const 2048) 0x2A2 0x24
  | .FN_SNAP_REQ => row 0x6002 0x00 1 .bool 1 .none (.const 0) 0x3C0 0x00
  | .FN_SNAP_INTERVAL => (row 0x6002 0x01 1 .u16 2 .none (.const 168) 0x3E0 0x0A).per.range 24 2160
  | .FN_SNAP_LAST => row 0x6002 0x02 1 .u32 4 .none (.live 0x0) 0x2A2 0x2C
  | .FN_SNAP_RECORDS => row 0x6002 0x03 1 .u16 2 .none (.live 0x0) 0x2A2 0x24
  | .FN_SNAP_DEFERRALS => row 0x6002 0x04 1 .u32 4 .none (.const 0) 0x2A2 0x05
  | .STRESS_BINS => (row 0x6003 0x00 1 .blob 256 .field (.const 0) 0x2A2 0x00).per
  | .START_STATE => (row 0x6100 0x00 1 .enum8 1 .none (.live 0x0) 0x2A2 0x00).oneOf [0, 1, 2, 3, 4, 5, 6, 7]
  | .RESET_CAUSE => (row 0x6100 0x01 1 .enum8 1 .none (.live 0x0) 0x2A2 0x00).oneOf [0, 1, 2]
  | .ARM_SEQ => row 0x6100 0x02 1 .u32 4 .none (.const 0) 0x2A2 0x05
  | .ARM_REPEATS => row 0x6100 0x03 1 .u32 4 .none (.const 0) 0x2A2 0x05
  | .ARM_REPEAT_LIMIT => row 0x6100 0x04 1 .u8 1 .none (.const 3) 0x2A2 0x05
  | .LAST_ARM_TIME => row 0x6100 0x05 1 .u32 4 .none (.const 0) 0x2A2 0x08
  | .READY_TIME => row 0x6100 0x06 1 .u32 4 .none (.live 0x0) 0x2A2 0x08
  | .COLD_CAL_TIME => row 0x6100 0x07 1 .u16 2 .none (.const 3000) 0x2A2 0x09
  | .JOB_FAULTS => (row 0x6100 0x08 1 .u32 4 .none (.const 0) 0x2A2 0x05).per
  | .JOB_RESETS => row 0x6100 0x09 1 .u32 4 .none (.const 0) 0x2A2 0x05
  | .WARM_RESETS => (row 0x6100 0x0A 1 .u32 4 .none (.const 0) 0x2A2 0x05).per
  | .COLD_RESETS => (row 0x6100 0x0B 1 .u32 4 .none (.const 0) 0x2A2 0x05).per
  | .SELF_RESET_REQ => (row 0x6100 0x0C 1 .bool 1 .none (.const 0) 0x0C0 0x00).exp
  | .EXCLUDED_MAP => (row 0x6101 0x00 1 .blob 128 .none (.const 0) 0x2A2 0x00).per
  | .ARM_NEW_EXCLUDED => row 0x6101 0x01 1 .u16 2 .none (.const 0) 0x2A2 0x27
  | .EXCLUDE_STRIKES => (row 0x6101 0x02 1 .u8 1 .none (.const 3) 0x3E0 0x05).exp.per.range 1 15
  | .REGION_EXCLUDED => (row 0x6102 0x00 1 .bool 1 .region (.live 0x0) 0x2E2 0x00).exp
  | .REGION_EXCLUDED_ACTIVE => row 0x6102 0x01 1 .bool 1 .region (.live 0x0) 0x2A2 0x00
  | .REGION_STRIKES => row 0x6102 0x02 1 .u8 1 .region (.const 0) 0x3E2 0x05
  | .REGION_EXCLUDE_CAUSE => (row 0x6102 0x03 1 .enum8 1 .region (.const 0) 0x2A2 0x00).oneOf [0, 1, 2, 3, 4]
  | .FAULT_DIGEST => row 0x7000 0x00 1 .u64 8 .none (.const 0) 0x2A2 0x00
  | .FAULT_TIME => row 0x7000 0x01 1 .u64 8 .none (.const 0) 0x2A2 0x07
  | .FAULT_LATER_COUNT => row 0x7000 0x02 1 .u32 4 .none (.const 0) 0x2A2 0x05
  | .FAULT_HISTORY => (row 0x7000 0x03 1 .blob 128 .none (.const 0) 0x2A2 0x00).per
  | .INJ_JOB_FAULTS => row 0x7000 0x04 1 .u32 4 .none (.const 0) 0x2A2 0x05
  | .ALERT_STATUS => (row 0x7001 0x00 1 .bits32 4 .none (.const 0) 0x2A2 0x00).mask 0xFF
  | .ALERT_ACK => (row 0x7001 0x01 1 .bits32 4 .none (.const 0) 0x3F0 0x00).mask 0xFF
  | .ALERT_MASK => (row 0x7001 0x02 1 .bits32 4 .none (.const 0x000000FF) 0x3F0 0x00).per.mask 0xFF
  | .SRAM_CE => row 0x7010 0x00 11 .u32 4 .none (.const 0) 0x2A2 0x05
  | .SRAM_UE => row 0x7011 0x00 11 .u32 4 .none (.const 0) 0x2A2 0x05
  | .SPINE_RETRANSMITS => row 0x7012 0x00 1 .u32 4 .none (.const 0) 0x2A2 0x05
  | .SPINE_LINK_FAILS => (row 0x7012 0x01 1 .u32 4 .none (.const 0) 0x2A2 0x05).per
  | .SEQ_PARITY_ERRS => row 0x7013 0x00 12 .u32 4 .none (.const 0) 0x2A2 0x05
  | .WATCHDOG_EXPIRIES => row 0x7014 0x00 12 .u32 4 .none (.const 0) 0x2A2 0x05
  | .FUNCTION_RESETS => row 0x7015 0x00 1 .u32 4 .none (.const 0) 0x2A2 0x05
  | .EVENT_PAGE => row 0x7020 0x00 4 .blob 4096 .none (.const 0) 0x2A0 0x00
  | .EVENT_NEXT => row 0x7021 0x00 1 .u16 2 .none (.const 0) 0x2A0 0x00
  | .EVENT_SEQ => row 0x7021 0x01 1 .u32 4 .none (.const 0) 0x2A0 0x00
  | .EVENT_OVERWRITTEN => row 0x7021 0x02 1 .u32 4 .none (.const 0) 0x2A0 0x24
  | .INJ_POINT => (row 0x7030 0x00 1 .enum8 1 .none (.const 0) 0x0C0 0x00).exp.oneOf [0, 1, 2, 3, 4, 5, 6, 7, 8, 9, 10, 11]
  | .INJ_ELEMENT => (row 0x7030 0x01 1 .u16 2 .none (.const 0) 0x0C0 0x00).exp
  | .INJ_ARG => (row 0x7030 0x02 1 .u32 4 .none (.const 0) 0x0C0 0x00).exp
  | .INJ_ARM => (row 0x7030 0x03 1 .bool 1 .none (.const 0) 0x0C0 0x00).exp
  | .INJ_RESULT => (row 0x7030 0x04 1 .enum8 1 .none (.const 0) 0x080 0x00).exp.oneOf [0, 1, 2, 3]
  | .INJ_COUNT => (row 0x7030 0x05 1 .u32 4 .none (.const 0) 0x2A0 0x05).per
  | .FIELD_TEST_PERMIT => (row 0x7031 0x00 1 .bool 1 .none (.const 0) 0x0C0 0x00).exp
  | .FIELD_TEST_TIME => (row 0x7031 0x01 1 .u16 2 .none (.const 3600) 0x0C0 0x2C).exp.per.range 60 43200
  | .FIELD_TEST_REMAINING => row 0x7031 0x02 1 .u16 2 .none (.live 0x0) 0x2A0 0x2C

/-- The manual's name of each subindex of an object (OBJ_NAME, R443); `i` is the offset from its first subindex. -/
def Obj.name (o : Obj) (i : Nat) : String :=
  match o with
  | .VENDOR_CODE => "VENDOR_CODE"
  | .PRODUCT_CODE => "PRODUCT_CODE"
  | .BLOCK_VERSION => "BLOCK_VERSION"
  | .CONFIG_CLASS => "CONFIG_CLASS"
  | .NUM_REGIONS => "NUM_REGIONS"
  | .NUM_FIELDS => "NUM_FIELDS"
  | .NUM_DOMAINS => "NUM_DOMAINS"
  | .NUM_RAILS => "NUM_RAILS"
  | .NUM_GROUPS => "NUM_GROUPS"
  | .NUM_MAILBOXES => "NUM_MAILBOXES"
  | .NUM_PARTITIONS => "NUM_PARTITIONS"
  | .UNIT_READY => "UNIT_READY"
  | .CLOCK_SOURCE => "CLOCK_SOURCE"
  | .REGION_PRESENT => "REGION_PRESENT"
  | .REGION_DOMAIN => "REGION_DOMAIN"
  | .REGION_LANES => "REGION_LANES"
  | .ACT_LATENCY => "ACT_LATENCY"
  | .DS_COUNT => "DS_COUNT"
  | .DS_ROUTER_MASK => "DS_ROUTER_MASK"
  | .TS_COUNT => "TS_COUNT"
  | .ACT_PROTO_ERR => "ACT_PROTO_ERR"
  | .NEIGHBOUR => "NEIGHBOUR" ++ (["_N", "_E", "_S", "_W"].getD i "")
  | .LINKS => "LINKS" ++ (["_N", "_E", "_S", "_W"].getD i "")
  | .FIELD_REGION_MASK => "FIELD_REGION_MASK"
  | .FIELD_JUNCTION => "FIELD_JUNCTION"
  | .DOMAIN_RAIL => "DOMAIN_RAIL"
  | .DOMAIN_FIRST_REGION => "DOMAIN_FIRST_REGION"
  | .DOMAIN_REGION_COUNT => "DOMAIN_REGION_COUNT"
  | .DOMAIN_TARGET => "DOMAIN_TARGET"
  | .DOMAIN_STATE => "DOMAIN_STATE"
  | .DOMAIN_RETAIN => "DOMAIN_RETAIN"
  | .RAIL_CONTROLLER => "RAIL_CONTROLLER"
  | .RAIL_CHANNEL => "RAIL_CHANNEL"
  | .RAIL_DOMAIN => "RAIL_DOMAIN"
  | .CONDUCTOR_FIELD => "CONDUCTOR_FIELD"
  | .PRIUND_BUILD => "PRIUND_BUILD"
  | .MAP_CRC => "MAP_CRC"
  | .OSC_CODE => "OSC_CODE"
  | .OSC_TARGET_N => "OSC_TARGET_N"
  | .OSC_STATUS => "OSC_STATUS"
  | .OSC_FREQ_NAT => "OSC_FREQ_NAT"
  | .OSC_LOOP_ERR => "OSC_LOOP_ERR"
  | .OSC_HEADROOM => "OSC_HEADROOM"
  | .OSC_PERMIT_MAX => "OSC_PERMIT_MAX"
  | .OSC_UNLOCKS => "OSC_UNLOCKS"
  | .OSC_CEILING_TIME => "OSC_CEILING_TIME"
  | .CAL_CURVE => "CAL_CURVE"
  | .CAL_OFFSET => "CAL_OFFSET"
  | .AGE_RATIO_FACTORY => "AGE_RATIO_FACTORY"
  | .AGE_RATIO_LAST => "AGE_RATIO_LAST"
  | .AGE_DEGRADE_LAST => "AGE_DEGRADE_LAST"
  | .AGE_DEGRADE_PREV => "AGE_DEGRADE_PREV"
  | .AGE_GUARD => "AGE_GUARD"
  | .AGE_POWERED_H => "AGE_POWERED_H"
  | .AGE_SAMPLE_H => "AGE_SAMPLE_H"
  | .FLL_GAIN => "FLL_GAIN"
  | .LOCK_TOL => "LOCK_TOL"
  | .UNLOCK_TOL => "UNLOCK_TOL"
  | .GUARD_BASE => "GUARD_BASE"
  | .AGING_GAIN => "AGING_GAIN"
  | .AGING_GUARD_MAX => "AGING_GUARD_MAX"
  | .AGE_INTERVAL => "AGE_INTERVAL"
  | .AGE_SAMPLE_REQ => "AGE_SAMPLE_REQ"
  | .CAL_OFFSET_LEARN => "CAL_OFFSET_LEARN"
  | .GUARANTEED_N => "GUARANTEED_N"
  | .DS_STATUS => "DS_STATUS"
  | .DS_ENABLE => "DS_ENABLE"
  | .DS_QUARANTINE => "DS_QUARANTINE"
  | .DS_MIN_READING => "DS_MIN_READING"
  | .DS_TRIPS => "DS_TRIPS"
  | .DS_COUNT_ONLY_TRIPS => "DS_COUNT_ONLY_TRIPS"
  | .DS_THRESH => "DS_THRESH" ++ toString i
  | .DS_LINE_TRIM => "DS_LINE_TRIM"
  | .STRETCH_P8 => "STRETCH_P8"
  | .STRETCH_P4 => "STRETCH_P4"
  | .STRETCH_P2 => "STRETCH_P2"
  | .STRETCH_HOLDS => "STRETCH_HOLDS"
  | .STRETCH_E_DROOP => "STRETCH_E_DROOP"
  | .STRETCH_E_TETHER => "STRETCH_E_TETHER"
  | .STRETCH_E_CAP => "STRETCH_E_CAP"
  | .STRETCH_E_FLOOR => "STRETCH_E_FLOOR"
  | .STRETCH_REFUSED => "STRETCH_REFUSED"
  | .DS_RUN_LEN => "DS_RUN_LEN"
  | .STRETCH_WINDOW_DROOP => "STRETCH_WINDOW_DROOP"
  | .STRETCH_WINDOW_OTHER => "STRETCH_WINDOW_OTHER"
  | .DS_STUCK_TIME => "DS_STUCK_TIME"
  | .DS_GUARD_CODES => "DS_GUARD_CODES"
  | .DS_STUCK_EVENTS => "DS_STUCK_EVENTS"
  | .REGION_COUNT => "REGION_COUNT"
  | .TETHER_STATUS => "TETHER_STATUS"
  | .SLIP => "SLIP" ++ (["_N", "_E", "_S", "_W"].getD i "")
  | .SLIP_PEAK => "SLIP_PEAK"
  | .TETHER_ENGAGES => "TETHER_ENGAGES"
  | .TETHER_CAUSE => "TETHER_CAUSE"
  | .CAUSED_DROOP => "CAUSED_DROOP"
  | .CAUSED_CAP => "CAUSED_CAP"
  | .CAUSED_FLOOR => "CAUSED_FLOOR"
  | .TETHER_UNATTRIB => "TETHER_UNATTRIB"
  | .TETHER_GROUP => "TETHER_GROUP"
  | .TETHER_GROUP_ACTIVE => "TETHER_GROUP_ACTIVE"
  | .FIELD_HOLD_FRAC => "FIELD_HOLD_FRAC"
  | .FIELD_CAUSED_DROOP => "FIELD_CAUSED_DROOP"
  | .GROUP_ANCHOR => "GROUP_ANCHOR"
  | .GROUP_COUNT => "GROUP_COUNT"
  | .GROUP_FIELDS => "GROUP_FIELDS"
  | .GROUP_SLIP_PEAK => "GROUP_SLIP_PEAK"
  | .TETHER_BANK => "TETHER_BANK"
  | .TETHER_ESC_DWELL => "TETHER_ESC_DWELL"
  | .SLIP_ENGAGE => "SLIP_ENGAGE"
  | .SLIP_FAULT_LEVEL => "SLIP_FAULT_LEVEL"
  | .TRIM_MODE => "TRIM_MODE"
  | .SLIP_FAULTS => "SLIP_FAULTS"
  | .XING_MODE => "XING_MODE" ++ (["_N", "_E", "_S", "_W"].getD i "")
  | .XING_FENCE => "XING_FENCE"
  | .XING_DISCARD => "XING_DISCARD"
  | .XING_REFUSED => "XING_REFUSED"
  | .XING_PTR_ERRS => "XING_PTR_ERRS"
  | .XING_RESYNCS => "XING_RESYNCS"
  | .REGION_DETACHED => "REGION_DETACHED"
  | .TRIM_TIME => "TRIM_TIME"
  | .ALIGN_LIMIT => "ALIGN_LIMIT"
  | .PTR_CHECK_PERIOD => "PTR_CHECK_PERIOD"
  | .ALIGN_FAILS => "ALIGN_FAILS"
  | .ICROSS_DISCARD => "ICROSS_DISCARD"
  | .ICROSS_RESYNCS => "ICROSS_RESYNCS"
  | .GROUP_N => "GROUP_N"
  | .GROUP_TARGET_N => "GROUP_TARGET_N"
  | .GROUP_CHG_STATE => "GROUP_CHG_STATE"
  | .GROUP_CHG_C => "GROUP_CHG_C"
  | .GROUP_CHG_RESULT => "GROUP_CHG_RESULT"
  | .GROUP_CHG_STEPS => "GROUP_CHG_STEPS"
  | .GROUP_CHG_ABORTS => "GROUP_CHG_ABORTS"
  | .GROUP_DIAMETER => "GROUP_DIAMETER"
  | .REGION_TARGET_N => "REGION_TARGET_N"
  | .REGION_STOP_STATE => "REGION_STOP_STATE"
  | .REGION_STOP_RESULT => "REGION_STOP_RESULT"
  | .REGION_STOPS => "REGION_STOPS"
  | .REGION_STOP_ABORTS => "REGION_STOP_ABORTS"
  | .FIELD_VOLT => "FIELD_VOLT"
  | .FIELD_VNEED => "FIELD_VNEED"
  | .FIELD_VTRIM => "FIELD_VTRIM"
  | .FIELD_VSET_UPS => "FIELD_VSET_UPS"
  | .FIELD_VSET_DOWNS => "FIELD_VSET_DOWNS"
  | .FIELD_VOLT_AT_CEIL => "FIELD_VOLT_AT_CEIL"
  | .CHANGE_LEAD => "CHANGE_LEAD"
  | .CHANGE_RATE_MARGIN => "CHANGE_RATE_MARGIN"
  | .STEP_LIMIT => "STEP_LIMIT"
  | .QUIESCE_LIMIT => "QUIESCE_LIMIT"
  | .STOP_TIME => "STOP_TIME"
  | .VOLT_SETTLE_LIMIT => "VOLT_SETTLE_LIMIT"
  | .VOLT_CONFIRM_TOL => "VOLT_CONFIRM_TOL"
  | .VSET_HOLD_HI => "VSET_HOLD_HI"
  | .VSET_HOLD_LO => "VSET_HOLD_LO"
  | .VSET_HEAD_HI => "VSET_HEAD_HI"
  | .VSET_DWELL => "VSET_DWELL"
  | .QUIESCE_STALE_ACKS => "QUIESCE_STALE_ACKS"
  | .REF_STATUS => "REF_STATUS"
  | .REF_PREFER => "REF_PREFER"
  | .REF_QUALIFY => "REF_QUALIFY"
  | .REF_A_ERR => "REF_A_ERR"
  | .REF_B_ERR => "REF_B_ERR"
  | .INTOSC_ERR => "INTOSC_ERR"
  | .REF_A_LOSSES => "REF_A_LOSSES"
  | .REF_B_LOSSES => "REF_B_LOSSES"
  | .REF_SWITCHES => "REF_SWITCHES"
  | .HOLDOVER_ENTRIES => "HOLDOVER_ENTRIES"
  | .HOLDOVER_TIME => "HOLDOVER_TIME"
  | .FB_ABANDONED => "FB_ABANDONED"
  | .GLOBAL_TIME => "GLOBAL_TIME"
  | .TIME_STATUS => "TIME_STATUS"
  | .TIME_RATE_ADJ => "TIME_RATE_ADJ"
  | .TIME_OFFSET_ADJ => "TIME_OFFSET_ADJ"
  | .TIME_SLEW_LIMIT => "TIME_SLEW_LIMIT"
  | .TIME_SET => "TIME_SET"
  | .TIME_SETS => "TIME_SETS"
  | .PPS_TIME => "PPS_TIME"
  | .PPS_COUNT => "PPS_COUNT"
  | .TS_TIME => "TS_TIME"
  | .TS_CAPTURE_COUNT => "TS_COUNT"
  | .REGION_TIME => "REGION_TIME"
  | .REGION_TIME_ERR => "REGION_TIME_ERR"
  | .REGION_TIME_ERR_PEAK => "REGION_TIME_ERR_PEAK"
  | .MARK_DELAY => "MARK_DELAY"
  | .EST_POWER => "EST_POWER"
  | .EST_DYN => "EST_DYN"
  | .EST_LEAK => "EST_LEAK"
  | .EST_STATUS => "EST_STATUS"
  | .EST_SWEEP_M => "EST_SWEEP_M"
  | .LANE_INVALIDS => "LANE_INVALIDS"
  | .EST_OVERFLOWS => "EST_OVERFLOWS"
  | .EST_WEIGHT_DEV => "EST_WEIGHT_DEV"
  | .EST_WEIGHTS_AT_CLAMP => "EST_WEIGHTS_AT_CLAMP"
  | .CAL_LATE => "CAL_LATE"
  | .EST_SHIFT => "EST_SHIFT"
  | .LEAK_SHARE => "LEAK_SHARE"
  | .REGION_PMAX => "REGION_PMAX"
  | .EST_WEIGHT => "EST_WEIGHT"
  | .EST_WEIGHT_FACTORY => "EST_WEIGHT_FACTORY"
  | .LEAK_TABLE => "LEAK_TABLE"
  | .FIELD_EST => "FIELD_EST"
  | .FIELD_EST_SUBST => "FIELD_EST_SUBST"
  | .DOMAIN_EST => "DOMAIN_EST"
  | .DOMAIN_MEAS => "DOMAIN_MEAS"
  | .CAL_ERR => "CAL_ERR"
  | .CAL_ERR_MEAN => "CAL_ERR_MEAN"
  | .CAL_UPDATES => "CAL_UPDATES"
  | .CAL_DEADBAND_HITS => "CAL_DEADBAND_HITS"
  | .CAL_SKIPS => "CAL_SKIPS"
  | .CAL_SKIP_LAST => "CAL_SKIP_LAST"
  | .GROUP_EST => "GROUP_EST"
  | .GROUP_EST_SUBST => "GROUP_EST_SUBST"
  | .ENGINE_EST => "ENGINE_EST"
  | .ENGINE_EST_SUBST => "ENGINE_EST_SUBST"
  | .VSCALE => "VSCALE"
  | .EST_VREF_CODE => "EST_VREF_CODE"
  | .INVALID_LANE_LIMIT => "INVALID_LANE_LIMIT"
  | .EST_HOLD_WINDOWS => "EST_HOLD_WINDOWS"
  | .CAL_ENABLE => "CAL_ENABLE"
  | .CAL_MU_SHIFT => "CAL_MU_SHIFT"
  | .CAL_RATE => "CAL_RATE"
  | .CAL_DEADBAND => "CAL_DEADBAND"
  | .CAL_MIN_DYN => "CAL_MIN_DYN"
  | .CAL_STEADY => "CAL_STEADY"
  | .CAL_IDLE_TICKS => "CAL_IDLE_TICKS"
  | .CAL_BAND => "CAL_BAND"
  | .CAL_TLM_WAIT => "CAL_TLM_WAIT"
  | .CAL_RESET_REQ => "CAL_RESET_REQ"
  | .CAL_SATURATED_EVENTS => "CAL_SATURATED_EVENTS"
  | .HOST_CAP => "HOST_CAP"
  | .BOARD_CAP => "BOARD_CAP"
  | .EXT_CAP => "EXT_CAP"
  | .ENGINE_OTHER => "ENGINE_OTHER"
  | .COMPUTE_LIMIT => "COMPUTE_LIMIT"
  | .COMPUTE_LIMIT_REASON => "COMPUTE_LIMIT_REASON"
  | .CAP_STATUS => "CAP_STATUS"
  | .ENGINE_MEAS => "ENGINE_MEAS"
  | .CAP_N_EVENTS => "CAP_N_EVENTS"
  | .HOT_N_EVENTS => "HOT_N_EVENTS"
  | .OP_TABLE => "OP_TABLE"
  | .OP_MAX => "OP_MAX"
  | .OP_FIRST => "OP_FIRST"
  | .GROUP_SHARE => "GROUP_SHARE"
  | .GROUP_LIMIT => "GROUP_LIMIT"
  | .OP_POWER_ENTRY => "OP_POWER_ENTRY"
  | .OP_CEIL_ENTRY => "OP_CEIL_ENTRY"
  | .GROUP_CEIL_REASON => "GROUP_CEIL_REASON"
  | .GROUP_LOSS => "GROUP_LOSS"
  | .FLOOR_STATE => "FLOOR_STATE"
  | .FLOOR_RATE => "FLOOR_RATE"
  | .CAP_EXCESS => "CAP_EXCESS"
  | .CAP_UNATT_EVENTS => "CAP_UNATT_EVENTS"
  | .OP_DOWN_STEPS => "OP_DOWN_STEPS"
  | .OP_UP_STEPS => "OP_UP_STEPS"
  | .FIXED_RATE_ENABLE => "FIXED_RATE_ENABLE"
  | .FIXED_RATE_N => "FIXED_RATE_N"
  | .FIELD_LIMIT => "FIELD_LIMIT"
  | .FIELD_LIMIT_REASON => "FIELD_LIMIT_REASON"
  | .FIELD_CAP => "FIELD_CAP"
  | .FIELD_EST_CORR => "FIELD_EST_CORR"
  | .FAST_DUTY => "FAST_DUTY"
  | .FIELD_EXCESS => "FIELD_EXCESS"
  | .FIELD_TEMP_MAX => "FIELD_TEMP_MAX"
  | .FIELD_THERM_LIMIT => "FIELD_THERM_LIMIT"
  | .RAIL_IMAX => "RAIL_IMAX"
  | .RAIL_LIMIT => "RAIL_LIMIT"
  | .RAIL_OVER_EVENTS => "RAIL_OVER_EVENTS"
  | .FAST_GAIN => "FAST_GAIN"
  | .OP_DOWN_LOSS => "OP_DOWN_LOSS"
  | .OP_UP_LOSS => "OP_UP_LOSS"
  | .OP_UP_MARGIN => "OP_UP_MARGIN"
  | .OP_UP_DWELL => "OP_UP_DWELL"
  | .OP_BOUNCE_TICKS => "OP_BOUNCE_TICKS"
  | .FLOOR_PERIOD => "FLOOR_PERIOD"
  | .FLOOR_ENGAGE_DUTY => "FLOOR_ENGAGE_DUTY"
  | .FLOOR_MIN_RATE => "FLOOR_MIN_RATE"
  | .RAIL_MARGIN => "RAIL_MARGIN"
  | .THERM_THROTTLE => "THERM_THROTTLE"
  | .THERM_HYST => "THERM_HYST"
  | .THERM_TRIP => "THERM_TRIP"
  | .THERM_STEP => "THERM_STEP"
  | .HOT_ENTRY => "HOT_ENTRY"
  | .CAP_N_MIN_TIME => "CAP_N_MIN_TIME"
  | .THERM_TRIPS => "THERM_TRIPS"
  | .PR_STATUS => "PR_STATUS"
  | .PR_FREEZE => "PR_FREEZE"
  | .PR_CLEAR => "PR_CLEAR"
  | .PR_REARM => "PR_REARM"
  | .PR_SLACK => "PR_SLACK"
  | .PR_W_ENERGY => "PR_W_ENERGY"
  | .PR_W_TIME => "PR_W_TIME"
  | .PR_EXPLORE_N => "PR_EXPLORE_N"
  | .PR_HYST => "PR_HYST"
  | .PR_MIN_CONF => "PR_MIN_CONF"
  | .PR_MEMORY => "PR_MEMORY"
  | .PR_SURPRISE => "PR_SURPRISE"
  | .PR_SEED => "PR_SEED"
  | .PR_VOFF_MAX => "PR_VOFF_MAX"
  | .PR_VOFF_RAISE => "PR_VOFF_RAISE"
  | .PR_ONSET => "PR_ONSET"
  | .PR_PREPOS_LEAD => "PR_PREPOS_LEAD"
  | .PR_PREPOS_HOLD => "PR_PREPOS_HOLD"
  | .PR_MAX_OCC => "PR_MAX_OCC"
  | .PR_MIN_OCC => "PR_MIN_OCC"
  | .PR_DEDUP => "PR_DEDUP"
  | .PR_IMPORT_COLLIDE => "PR_IMPORT_COLLIDE"
  | .PR_POLICY => "PR_POLICY"
  | .PR_CUR_TAG => "PR_CUR_TAG"
  | .PR_NEXT_TAG => "PR_NEXT_TAG"
  | .PR_CHOICE => "PR_CHOICE"
  | .PR_OCCURRENCES => "PR_OCCURRENCES"
  | .PR_UNCLEAN => "PR_UNCLEAN"
  | .PR_EXPLORES => "PR_EXPLORES"
  | .PR_MOVES => "PR_MOVES"
  | .PR_REJECTS => "PR_REJECTS"
  | .PR_SURPRISES => "PR_SURPRISES"
  | .PR_LATE_NEXT => "PR_LATE_NEXT"
  | .PR_UNANNOUNCED => "PR_UNANNOUNCED"
  | .PR_DUP_MARKS => "PR_DUP_MARKS"
  | .PR_DISCARDED => "PR_DISCARDED"
  | .PR_LFSR => "PR_LFSR"
  | .PR_GROUP_TABLE => "PR_GROUP_TABLE"
  | .PR_OFFSET => "PR_OFFSET"
  | .BX_ENABLE => "BX_ENABLE"
  | .BX_STATUS => "BX_STATUS"
  | .BX_POOL_ID => "BX_POOL_ID"
  | .BX_ENGINE_ID => "BX_ENGINE_ID"
  | .BX_EPOCH => "BX_EPOCH"
  | .BX_EPOCH_LOAD => "BX_EPOCH_LOAD"
  | .BX_GRANT => "BX_GRANT"
  | .BX_GRANT_MIN => "BX_GRANT_MIN"
  | .BX_GRANT_MAX => "BX_GRANT_MAX"
  | .BX_N_GRANT_MIN => "BX_N_GRANT_MIN"
  | .BX_N_GRANT_MAX => "BX_N_GRANT_MAX"
  | .BX_STEP => "BX_STEP"
  | .BX_SLACK_HYST => "BX_SLACK_HYST"
  | .BX_SLACK_FULL => "BX_SLACK_FULL"
  | .BX_EPOCH_TIMEOUT => "BX_EPOCH_TIMEOUT"
  | .BX_SLACK => "BX_SLACK"
  | .BX_ROUND => "BX_ROUND"
  | .BX_EPOCH_PERIOD => "BX_EPOCH_PERIOD"
  | .BX_PEER => "BX_PEER" ++ toString i
  | .BX_PEER_SLACK => "BX_PEER_SLACK" ++ toString i
  | .BX_TX_FRAMES => "BX_TX_FRAMES"
  | .BX_RX_ACCEPTED => "BX_RX_ACCEPTED"
  | .BX_RX_DROP_LAST => "BX_RX_DROP_LAST"
  | .BX_RX => "BX_RX" ++ (["_NOTREADY", "_MALFORMED", "_DISABLED", "_POOL", "_PEER", "_EPOCH", "_STALE", "_BOUND"].getD i "")
  | .BX_CREDIT_OUT => "BX_CREDIT_OUT"
  | .BX_CREDIT_IN => "BX_CREDIT_IN"
  | .BX_LOST_TX => "BX_LOST_TX"
  | .BX_LOST_CLAMP => "BX_LOST_CLAMP"
  | .BX_LOST_PASSIVE => "BX_LOST_PASSIVE"
  | .BX_EPOCH_LOADS => "BX_EPOCH_LOADS"
  | .BX_EPOCH_EXPIRIES => "BX_EPOCH_EXPIRIES"
  | .BX_DIRECTIVES => "BX_DIRECTIVES"
  | .REGION_PARTITION => "REGION_PARTITION"
  | .PART_ENERGY => "PART_ENERGY"
  | .PART_REGIONS => "PART_REGIONS"
  | .PART_SUBST_WINDOWS => "PART_SUBST_WINDOWS"
  | .UNASSIGNED_ENERGY => "UNASSIGNED_ENERGY"
  | .ENGINE_COMPUTE_ENERGY => "ENGINE_COMPUTE_ENERGY"
  | .ENGINE_DOMAIN_RAIL_ENERGY => "ENGINE_DOMAIN_RAIL_ENERGY"
  | .ENGINE_NONCOMPUTE_ENERGY => "ENGINE_NONCOMPUTE_ENERGY"
  | .RAIL_FILLED_INTERVALS => "RAIL_FILLED_INTERVALS"
  | .REPORT_EPOCH => "REPORT_EPOCH"
  | .REPORT_SNAP_REQ => "REPORT_SNAP_REQ"
  | .SNAP_TIME => "SNAP_TIME"
  | .SNAP_PART_ENERGY => "SNAP_PART_ENERGY"
  | .SNAP => "SNAP" ++ (["_UNASSIGNED", "_COMPUTE", "_DOMAIN_RAIL", "_NONCOMPUTE"].getD i "")
  | .THR_TIME => "THR_TIME_" ++ toString i
  | .THR_LOST => "THR_LOST_" ++ toString i
  | .THR_REASON_NOW => "THR_REASON_NOW"
  | .EPISODE => "EPISODE_" ++ toString i
  | .EPISODE_NEXT => "EPISODE_NEXT"
  | .EPISODE_SEQ => "EPISODE_SEQ"
  | .EPISODE_OVERWRITTEN => "EPISODE_OVERWRITTEN"
  | .EPISODE_SHORT => "EPISODE_SHORT"
  | .EPISODE_MIN => "EPISODE_MIN"
  | .EPISODE_GAP => "EPISODE_GAP"
  | .EPISODE_OPEN_REASON => "EPISODE_OPEN_REASON"
  | .RUN_CTL => "RUN_CTL"
  | .RUN_STATUS => "RUN_STATUS"
  | .RUN_START_TIME => "RUN_START_TIME"
  | .RUN_TIME => "RUN_TIME"
  | .RUN_CYCLES => "RUN_CYCLES"
  | .RUN_IDEAL => "RUN_IDEAL"
  | .RUN_LOST => "RUN_LOST"
  | .RUN_LOSS_PPM => "RUN_LOSS_PPM"
  | .RUN_LOST_E => "RUN_LOST_E_" ++ toString i
  | .RUN_BOUND_PPM => "RUN_BOUND_PPM"
  | .RAIL_STATE => "RAIL_STATE"
  | .RAIL_STATUS => "RAIL_STATUS"
  | .RAIL_TARGET => "RAIL_TARGET"
  | .RAIL_VMEAS => "RAIL_VMEAS"
  | .RAIL_IMEAS => "RAIL_IMEAS"
  | .RAIL_IRATING => "RAIL_IRATING"
  | .RAIL_VMIN => "RAIL_VMIN"
  | .RAIL_VMAX => "RAIL_VMAX"
  | .RAIL_RECOVER => "RAIL_RECOVER"
  | .RAIL_CRC_ERRS => "RAIL_CRC_ERRS"
  | .RAIL_TIMEOUTS => "RAIL_TIMEOUTS"
  | .RAIL_RETRIES => "RAIL_RETRIES"
  | .RAIL_TLM_MISSES => "RAIL_TLM_MISSES"
  | .RAIL_DEGRADE_EVENTS => "RAIL_DEGRADE_EVENTS"
  | .RAIL_OCP_EVENTS => "RAIL_OCP_EVENTS"
  | .LINK_STATE => "LINK_STATE_" ++ toString i
  | .LINK_IDENT => "LINK_IDENT_" ++ toString i
  | .LINK_RX_PHASE => "LINK_RX_PHASE_" ++ toString i
  | .LINK_MALFORMED => "LINK_MALFORMED_" ++ toString i
  | .MB_OWNER => "MB_OWNER"
  | .MB_DOMAIN => "MB_DOMAIN"
  | .MB_WAKE => "MB_WAKE"
  | .MB_SEM => "MB_SEM"
  | .MB_COUNT => "MB_COUNT"
  | .MB_POSTS => "MB_POSTS"
  | .MB_DISCARDS => "MB_DISCARDS"
  | .MB_TIMEOUTS => "MB_TIMEOUTS"
  | .MB_WAKES => "MB_WAKES"
  | .MB_SEM_STATUS => "MB_SEM_STATUS"
  | .LOCK => "LOCK_" ++ toString i
  | .LOCK_FORCE => "LOCK_FORCE_" ++ toString i
  | .LOCK_PRIO => "LOCK_PRIO"
  | .LOCK_CONTESTS => "LOCK_CONTESTS"
  | .MB_TIMEOUT => "MB_TIMEOUT"
  | .MB_DEPTH => "MB_DEPTH"
  | .SY_QUIESCES => "SY_QUIESCES"
  | .SY_QACKS => "SY_QACKS"
  | .SY_SLACK_REPORTS => "SY_SLACK_REPORTS"
  | .SY_SLACK_DROPS => "SY_SLACK_DROPS"
  | .SY_POSTS => "SY_POSTS"
  | .SY_POST_NONZERO => "SY_POST_NONZERO"
  | .SY_POST_OVERFLOW => "SY_POST_OVERFLOW"
  | .SY_POST_TIMEOUTS => "SY_POST_TIMEOUTS"
  | .SY_PST_STALE => "SY_PST_STALE"
  | .OBJ_COUNT => "OBJ_COUNT"
  | .CATALOGUE_CRC => "CATALOGUE_CRC"
  | .OBJ_DESC => "OBJ_DESC"
  | .OBJ_NAME => "OBJ_NAME"
  | .OBJ_MIN => "OBJ_MIN"
  | .OBJ_MAX => "OBJ_MAX"
  | .OBJ_DEFAULT => "OBJ_DEFAULT"
  | .OBJ_SIZE => "OBJ_SIZE"
  | .EXPERT_UNLOCK => "EXPERT_UNLOCK"
  | .EXPERT_UNLOCK_TIME => "EXPERT_UNLOCK_TIME"
  | .EXPERT_REMAINING => "EXPERT_REMAINING"
  | .EXPERT_UNLOCKS => "EXPERT_UNLOCKS"
  | .PERSIST_FLUSH => "PERSIST_FLUSH"
  | .PERSIST_PENDING => "PERSIST_PENDING"
  | .PERSIST_COMMITS => "PERSIST_COMMITS"
  | .PERSIST_DEFERRED => "PERSIST_DEFERRED"
  | .AUDIT_NEXT => "AUDIT_NEXT"
  | .AUDIT_SEQ => "AUDIT_SEQ"
  | .AUDIT_OVERWRITTEN => "AUDIT_OVERWRITTEN"
  | .AUDIT_MERGED => "AUDIT_MERGED"
  | .AUDIT_SUMMARY_PERIOD => "AUDIT_SUMMARY_PERIOD"
  | .AUDIT_SUMMARIES => "AUDIT_SUMMARIES"
  | .AUDIT_OK => "AUDIT_OK" ++ (["_H", "_HX", "_F", "_N", "_E", "_P"].getD i "")
  | .AUDIT_REFUSED => "AUDIT_REFUSED" ++ (["_H", "_HX", "_F", "_N", "_E", "_P"].getD i "")
  | .HP_LAST_STATUS => "HP_LAST_STATUS"
  | .HP_REQUESTS => "HP_REQUESTS"
  | .HP_ERRORS => "HP_ERRORS"
  | .HP_NOTREADY => "HP_NOTREADY"
  | .HP_DENIED => "HP_DENIED"
  | .FB_NODE_ADDR => "FB_NODE_ADDR"
  | .FB_NOM_RATE => "FB_NOM_RATE"
  | .FB_DATA_RATE => "FB_DATA_RATE"
  | .FB_BRS_ENABLE => "FB_BRS_ENABLE"
  | .FB_STATE => "FB_STATE"
  | .FB_TEC => "FB_TEC"
  | .FB_REC => "FB_REC"
  | .FB_RX_FRAMES => "FB_RX_FRAMES"
  | .FB_TX_FRAMES => "FB_TX_FRAMES"
  | .FB_CLASSIC => "FB_CLASSIC"
  | .FB_IGNORED => "FB_IGNORED"
  | .FB_MALFORMED => "FB_MALFORMED"
  | .FB_BUSY_ANSWERS => "FB_BUSY_ANSWERS"
  | .FB_RX_DROPPED => "FB_RX_DROPPED"
  | .FB_TX_DROPPED => "FB_TX_DROPPED"
  | .FB_DUPLICATES => "FB_DUPLICATES"
  | .FB_SESSIONS_ABANDONED => "FB_SESSIONS_ABANDONED"
  | .FB_BUS_OFFS => "FB_BUS_OFFS"
  | .FB_HELD_RX => "FB_HELD_RX"
  | .LC_STATE => "LC_STATE"
  | .LC_ARM => "LC_ARM"
  | .LC_REQUEST => "LC_REQUEST"
  | .LC_STATUS => "LC_STATUS"
  | .LC_HISTORY => "LC_HISTORY"
  | .FN_STATUS => "FN_STATUS"
  | .FN_RING => "FN_RING"
  | .FN_HEAD_SEQ => "FN_HEAD_SEQ"
  | .FN_CREDIT => "FN_CREDIT"
  | .FN_WEAR => "FN_WEAR"
  | .FN_BAD_COPIES => "FN_BAD_COPIES"
  | .FN_REPAIRS => "FN_REPAIRS"
  | .FN_ROLLBACKS => "FN_ROLLBACKS"
  | .FN_LOST_PARTS => "FN_LOST_PARTS"
  | .FN_THINNED => "FN_THINNED"
  | .FN_FORMAT_REQ => "FN_FORMAT_REQ"
  | .FN_DEV_A_SECTORS => "FN_DEV_A_SECTORS"
  | .FN_DEV_B_SECTORS => "FN_DEV_B_SECTORS"
  | .FN_LIFE_S => "FN_LIFE_S"
  | .FN_BUCKET_MAX => "FN_BUCKET_MAX"
  | .FN_SNAP_REQ => "FN_SNAP_REQ"
  | .FN_SNAP_INTERVAL => "FN_SNAP_INTERVAL"
  | .FN_SNAP_LAST => "FN_SNAP_LAST"
  | .FN_SNAP_RECORDS => "FN_SNAP_RECORDS"
  | .FN_SNAP_DEFERRALS => "FN_SNAP_DEFERRALS"
  | .STRESS_BINS => "STRESS_BINS"
  | .START_STATE => "START_STATE"
  | .RESET_CAUSE => "RESET_CAUSE"
  | .ARM_SEQ => "ARM_SEQ"
  | .ARM_REPEATS => "ARM_REPEATS"
  | .ARM_REPEAT_LIMIT => "ARM_REPEAT_LIMIT"
  | .LAST_ARM_TIME => "LAST_ARM_TIME"
  | .READY_TIME => "READY_TIME"
  | .COLD_CAL_TIME => "COLD_CAL_TIME"
  | .JOB_FAULTS => "JOB_FAULTS"
  | .JOB_RESETS => "JOB_RESETS"
  | .WARM_RESETS => "WARM_RESETS"
  | .COLD_RESETS => "COLD_RESETS"
  | .SELF_RESET_REQ => "SELF_RESET_REQ"
  | .EXCLUDED_MAP => "EXCLUDED_MAP"
  | .ARM_NEW_EXCLUDED => "ARM_NEW_EXCLUDED"
  | .EXCLUDE_STRIKES => "EXCLUDE_STRIKES"
  | .REGION_EXCLUDED => "REGION_EXCLUDED"
  | .REGION_EXCLUDED_ACTIVE => "REGION_EXCLUDED_ACTIVE"
  | .REGION_STRIKES => "REGION_STRIKES"
  | .REGION_EXCLUDE_CAUSE => "REGION_EXCLUDE_CAUSE"
  | .FAULT_DIGEST => "FAULT_DIGEST"
  | .FAULT_TIME => "FAULT_TIME"
  | .FAULT_LATER_COUNT => "FAULT_LATER_COUNT"
  | .FAULT_HISTORY => "FAULT_HISTORY"
  | .INJ_JOB_FAULTS => "INJ_JOB_FAULTS"
  | .ALERT_STATUS => "ALERT_STATUS"
  | .ALERT_ACK => "ALERT_ACK"
  | .ALERT_MASK => "ALERT_MASK"
  | .SRAM_CE => "SRAM_CE_" ++ toString i
  | .SRAM_UE => "SRAM_UE_" ++ toString i
  | .SPINE_RETRANSMITS => "SPINE_RETRANSMITS"
  | .SPINE_LINK_FAILS => "SPINE_LINK_FAILS"
  | .SEQ_PARITY_ERRS => "SEQ_PARITY_ERRS_" ++ toString i
  | .WATCHDOG_EXPIRIES => "WATCHDOG_EXPIRIES_" ++ toString i
  | .FUNCTION_RESETS => "FUNCTION_RESETS"
  | .EVENT_PAGE => "EVENT_PAGE_" ++ toString i
  | .EVENT_NEXT => "EVENT_NEXT"
  | .EVENT_SEQ => "EVENT_SEQ"
  | .EVENT_OVERWRITTEN => "EVENT_OVERWRITTEN"
  | .INJ_POINT => "INJ_POINT"
  | .INJ_ELEMENT => "INJ_ELEMENT"
  | .INJ_ARG => "INJ_ARG"
  | .INJ_ARM => "INJ_ARM"
  | .INJ_RESULT => "INJ_RESULT"
  | .INJ_COUNT => "INJ_COUNT"
  | .FIELD_TEST_PERMIT => "FIELD_TEST_PERMIT"
  | .FIELD_TEST_TIME => "FIELD_TEST_TIME"
  | .FIELD_TEST_REMAINING => "FIELD_TEST_REMAINING"

/-- Part 0 of the list of objects. -/
def objPart0 : List Obj :=
  [.VENDOR_CODE, .PRODUCT_CODE, .BLOCK_VERSION, .CONFIG_CLASS, .NUM_REGIONS, .NUM_FIELDS, .NUM_DOMAINS, .NUM_RAILS, .NUM_GROUPS, .NUM_MAILBOXES, .NUM_PARTITIONS, .UNIT_READY, .CLOCK_SOURCE, .REGION_PRESENT, .REGION_DOMAIN, .REGION_LANES, .ACT_LATENCY, .DS_COUNT, .DS_ROUTER_MASK, .TS_COUNT, .ACT_PROTO_ERR, .NEIGHBOUR, .LINKS, .FIELD_REGION_MASK, .FIELD_JUNCTION, .DOMAIN_RAIL, .DOMAIN_FIRST_REGION, .DOMAIN_REGION_COUNT, .DOMAIN_TARGET, .DOMAIN_STATE, .DOMAIN_RETAIN, .RAIL_CONTROLLER, .RAIL_CHANNEL, .RAIL_DOMAIN, .CONDUCTOR_FIELD, .PRIUND_BUILD, .MAP_CRC, .OSC_CODE, .OSC_TARGET_N, .OSC_STATUS]

/-- Part 1 of the list of objects. -/
def objPart1 : List Obj :=
  [.OSC_FREQ_NAT, .OSC_LOOP_ERR, .OSC_HEADROOM, .OSC_PERMIT_MAX, .OSC_UNLOCKS, .OSC_CEILING_TIME, .CAL_CURVE, .CAL_OFFSET, .AGE_RATIO_FACTORY, .AGE_RATIO_LAST, .AGE_DEGRADE_LAST, .AGE_DEGRADE_PREV, .AGE_GUARD, .AGE_POWERED_H, .AGE_SAMPLE_H, .FLL_GAIN, .LOCK_TOL, .UNLOCK_TOL, .GUARD_BASE, .AGING_GAIN, .AGING_GUARD_MAX, .AGE_INTERVAL, .AGE_SAMPLE_REQ, .CAL_OFFSET_LEARN, .GUARANTEED_N, .DS_STATUS, .DS_ENABLE, .DS_QUARANTINE, .DS_MIN_READING, .DS_TRIPS, .DS_COUNT_ONLY_TRIPS, .DS_THRESH, .DS_LINE_TRIM, .STRETCH_P8, .STRETCH_P4, .STRETCH_P2, .STRETCH_HOLDS, .STRETCH_E_DROOP, .STRETCH_E_TETHER, .STRETCH_E_CAP]

/-- Part 2 of the list of objects. -/
def objPart2 : List Obj :=
  [.STRETCH_E_FLOOR, .STRETCH_REFUSED, .DS_RUN_LEN, .STRETCH_WINDOW_DROOP, .STRETCH_WINDOW_OTHER, .DS_STUCK_TIME, .DS_GUARD_CODES, .DS_STUCK_EVENTS, .REGION_COUNT, .TETHER_STATUS, .SLIP, .SLIP_PEAK, .TETHER_ENGAGES, .TETHER_CAUSE, .CAUSED_DROOP, .CAUSED_CAP, .CAUSED_FLOOR, .TETHER_UNATTRIB, .TETHER_GROUP, .TETHER_GROUP_ACTIVE, .FIELD_HOLD_FRAC, .FIELD_CAUSED_DROOP, .GROUP_ANCHOR, .GROUP_COUNT, .GROUP_FIELDS, .GROUP_SLIP_PEAK, .TETHER_BANK, .TETHER_ESC_DWELL, .SLIP_ENGAGE, .SLIP_FAULT_LEVEL, .TRIM_MODE, .SLIP_FAULTS, .XING_MODE, .XING_FENCE, .XING_DISCARD, .XING_REFUSED, .XING_PTR_ERRS, .XING_RESYNCS, .REGION_DETACHED, .TRIM_TIME]

/-- Part 3 of the list of objects. -/
def objPart3 : List Obj :=
  [.ALIGN_LIMIT, .PTR_CHECK_PERIOD, .ALIGN_FAILS, .ICROSS_DISCARD, .ICROSS_RESYNCS, .GROUP_N, .GROUP_TARGET_N, .GROUP_CHG_STATE, .GROUP_CHG_C, .GROUP_CHG_RESULT, .GROUP_CHG_STEPS, .GROUP_CHG_ABORTS, .GROUP_DIAMETER, .REGION_TARGET_N, .REGION_STOP_STATE, .REGION_STOP_RESULT, .REGION_STOPS, .REGION_STOP_ABORTS, .FIELD_VOLT, .FIELD_VNEED, .FIELD_VTRIM, .FIELD_VSET_UPS, .FIELD_VSET_DOWNS, .FIELD_VOLT_AT_CEIL, .CHANGE_LEAD, .CHANGE_RATE_MARGIN, .STEP_LIMIT, .QUIESCE_LIMIT, .STOP_TIME, .VOLT_SETTLE_LIMIT, .VOLT_CONFIRM_TOL, .VSET_HOLD_HI, .VSET_HOLD_LO, .VSET_HEAD_HI, .VSET_DWELL, .QUIESCE_STALE_ACKS, .REF_STATUS, .REF_PREFER, .REF_QUALIFY, .REF_A_ERR]

/-- Part 4 of the list of objects. -/
def objPart4 : List Obj :=
  [.REF_B_ERR, .INTOSC_ERR, .REF_A_LOSSES, .REF_B_LOSSES, .REF_SWITCHES, .HOLDOVER_ENTRIES, .HOLDOVER_TIME, .FB_ABANDONED, .GLOBAL_TIME, .TIME_STATUS, .TIME_RATE_ADJ, .TIME_OFFSET_ADJ, .TIME_SLEW_LIMIT, .TIME_SET, .TIME_SETS, .PPS_TIME, .PPS_COUNT, .TS_TIME, .TS_CAPTURE_COUNT, .REGION_TIME, .REGION_TIME_ERR, .REGION_TIME_ERR_PEAK, .MARK_DELAY, .EST_POWER, .EST_DYN, .EST_LEAK, .EST_STATUS, .EST_SWEEP_M, .LANE_INVALIDS, .EST_OVERFLOWS, .EST_WEIGHT_DEV, .EST_WEIGHTS_AT_CLAMP, .CAL_LATE, .EST_SHIFT, .LEAK_SHARE, .REGION_PMAX, .EST_WEIGHT, .EST_WEIGHT_FACTORY, .LEAK_TABLE, .FIELD_EST]

/-- Part 5 of the list of objects. -/
def objPart5 : List Obj :=
  [.FIELD_EST_SUBST, .DOMAIN_EST, .DOMAIN_MEAS, .CAL_ERR, .CAL_ERR_MEAN, .CAL_UPDATES, .CAL_DEADBAND_HITS, .CAL_SKIPS, .CAL_SKIP_LAST, .GROUP_EST, .GROUP_EST_SUBST, .ENGINE_EST, .ENGINE_EST_SUBST, .VSCALE, .EST_VREF_CODE, .INVALID_LANE_LIMIT, .EST_HOLD_WINDOWS, .CAL_ENABLE, .CAL_MU_SHIFT, .CAL_RATE, .CAL_DEADBAND, .CAL_MIN_DYN, .CAL_STEADY, .CAL_IDLE_TICKS, .CAL_BAND, .CAL_TLM_WAIT, .CAL_RESET_REQ, .CAL_SATURATED_EVENTS, .HOST_CAP, .BOARD_CAP, .EXT_CAP, .ENGINE_OTHER, .COMPUTE_LIMIT, .COMPUTE_LIMIT_REASON, .CAP_STATUS, .ENGINE_MEAS, .CAP_N_EVENTS, .HOT_N_EVENTS, .OP_TABLE, .OP_MAX]

/-- Part 6 of the list of objects. -/
def objPart6 : List Obj :=
  [.OP_FIRST, .GROUP_SHARE, .GROUP_LIMIT, .OP_POWER_ENTRY, .OP_CEIL_ENTRY, .GROUP_CEIL_REASON, .GROUP_LOSS, .FLOOR_STATE, .FLOOR_RATE, .CAP_EXCESS, .CAP_UNATT_EVENTS, .OP_DOWN_STEPS, .OP_UP_STEPS, .FIXED_RATE_ENABLE, .FIXED_RATE_N, .FIELD_LIMIT, .FIELD_LIMIT_REASON, .FIELD_CAP, .FIELD_EST_CORR, .FAST_DUTY, .FIELD_EXCESS, .FIELD_TEMP_MAX, .FIELD_THERM_LIMIT, .RAIL_IMAX, .RAIL_LIMIT, .RAIL_OVER_EVENTS, .FAST_GAIN, .OP_DOWN_LOSS, .OP_UP_LOSS, .OP_UP_MARGIN, .OP_UP_DWELL, .OP_BOUNCE_TICKS, .FLOOR_PERIOD, .FLOOR_ENGAGE_DUTY, .FLOOR_MIN_RATE, .RAIL_MARGIN, .THERM_THROTTLE, .THERM_HYST, .THERM_TRIP, .THERM_STEP]

/-- Part 7 of the list of objects. -/
def objPart7 : List Obj :=
  [.HOT_ENTRY, .CAP_N_MIN_TIME, .THERM_TRIPS, .PR_STATUS, .PR_FREEZE, .PR_CLEAR, .PR_REARM, .PR_SLACK, .PR_W_ENERGY, .PR_W_TIME, .PR_EXPLORE_N, .PR_HYST, .PR_MIN_CONF, .PR_MEMORY, .PR_SURPRISE, .PR_SEED, .PR_VOFF_MAX, .PR_VOFF_RAISE, .PR_ONSET, .PR_PREPOS_LEAD, .PR_PREPOS_HOLD, .PR_MAX_OCC, .PR_MIN_OCC, .PR_DEDUP, .PR_IMPORT_COLLIDE, .PR_POLICY, .PR_CUR_TAG, .PR_NEXT_TAG, .PR_CHOICE, .PR_OCCURRENCES, .PR_UNCLEAN, .PR_EXPLORES, .PR_MOVES, .PR_REJECTS, .PR_SURPRISES, .PR_LATE_NEXT, .PR_UNANNOUNCED, .PR_DUP_MARKS, .PR_DISCARDED, .PR_LFSR]

/-- Part 8 of the list of objects. -/
def objPart8 : List Obj :=
  [.PR_GROUP_TABLE, .PR_OFFSET, .BX_ENABLE, .BX_STATUS, .BX_POOL_ID, .BX_ENGINE_ID, .BX_EPOCH, .BX_EPOCH_LOAD, .BX_GRANT, .BX_GRANT_MIN, .BX_GRANT_MAX, .BX_N_GRANT_MIN, .BX_N_GRANT_MAX, .BX_STEP, .BX_SLACK_HYST, .BX_SLACK_FULL, .BX_EPOCH_TIMEOUT, .BX_SLACK, .BX_ROUND, .BX_EPOCH_PERIOD, .BX_PEER, .BX_PEER_SLACK, .BX_TX_FRAMES, .BX_RX_ACCEPTED, .BX_RX_DROP_LAST, .BX_RX, .BX_CREDIT_OUT, .BX_CREDIT_IN, .BX_LOST_TX, .BX_LOST_CLAMP, .BX_LOST_PASSIVE, .BX_EPOCH_LOADS, .BX_EPOCH_EXPIRIES, .BX_DIRECTIVES, .REGION_PARTITION, .PART_ENERGY, .PART_REGIONS, .PART_SUBST_WINDOWS, .UNASSIGNED_ENERGY, .ENGINE_COMPUTE_ENERGY]

/-- Part 9 of the list of objects. -/
def objPart9 : List Obj :=
  [.ENGINE_DOMAIN_RAIL_ENERGY, .ENGINE_NONCOMPUTE_ENERGY, .RAIL_FILLED_INTERVALS, .REPORT_EPOCH, .REPORT_SNAP_REQ, .SNAP_TIME, .SNAP_PART_ENERGY, .SNAP, .THR_TIME, .THR_LOST, .THR_REASON_NOW, .EPISODE, .EPISODE_NEXT, .EPISODE_SEQ, .EPISODE_OVERWRITTEN, .EPISODE_SHORT, .EPISODE_MIN, .EPISODE_GAP, .EPISODE_OPEN_REASON, .RUN_CTL, .RUN_STATUS, .RUN_START_TIME, .RUN_TIME, .RUN_CYCLES, .RUN_IDEAL, .RUN_LOST, .RUN_LOSS_PPM, .RUN_LOST_E, .RUN_BOUND_PPM, .RAIL_STATE, .RAIL_STATUS, .RAIL_TARGET, .RAIL_VMEAS, .RAIL_IMEAS, .RAIL_IRATING, .RAIL_VMIN, .RAIL_VMAX, .RAIL_RECOVER, .RAIL_CRC_ERRS, .RAIL_TIMEOUTS]

/-- Part 10 of the list of objects. -/
def objPart10 : List Obj :=
  [.RAIL_RETRIES, .RAIL_TLM_MISSES, .RAIL_DEGRADE_EVENTS, .RAIL_OCP_EVENTS, .LINK_STATE, .LINK_IDENT, .LINK_RX_PHASE, .LINK_MALFORMED, .MB_OWNER, .MB_DOMAIN, .MB_WAKE, .MB_SEM, .MB_COUNT, .MB_POSTS, .MB_DISCARDS, .MB_TIMEOUTS, .MB_WAKES, .MB_SEM_STATUS, .LOCK, .LOCK_FORCE, .LOCK_PRIO, .LOCK_CONTESTS, .MB_TIMEOUT, .MB_DEPTH, .SY_QUIESCES, .SY_QACKS, .SY_SLACK_REPORTS, .SY_SLACK_DROPS, .SY_POSTS, .SY_POST_NONZERO, .SY_POST_OVERFLOW, .SY_POST_TIMEOUTS, .SY_PST_STALE, .OBJ_COUNT, .CATALOGUE_CRC, .OBJ_DESC, .OBJ_NAME, .OBJ_MIN, .OBJ_MAX, .OBJ_DEFAULT]

/-- Part 11 of the list of objects. -/
def objPart11 : List Obj :=
  [.OBJ_SIZE, .EXPERT_UNLOCK, .EXPERT_UNLOCK_TIME, .EXPERT_REMAINING, .EXPERT_UNLOCKS, .PERSIST_FLUSH, .PERSIST_PENDING, .PERSIST_COMMITS, .PERSIST_DEFERRED, .AUDIT_NEXT, .AUDIT_SEQ, .AUDIT_OVERWRITTEN, .AUDIT_MERGED, .AUDIT_SUMMARY_PERIOD, .AUDIT_SUMMARIES, .AUDIT_OK, .AUDIT_REFUSED, .HP_LAST_STATUS, .HP_REQUESTS, .HP_ERRORS, .HP_NOTREADY, .HP_DENIED, .FB_NODE_ADDR, .FB_NOM_RATE, .FB_DATA_RATE, .FB_BRS_ENABLE, .FB_STATE, .FB_TEC, .FB_REC, .FB_RX_FRAMES, .FB_TX_FRAMES, .FB_CLASSIC, .FB_IGNORED, .FB_MALFORMED, .FB_BUSY_ANSWERS, .FB_RX_DROPPED, .FB_TX_DROPPED, .FB_DUPLICATES, .FB_SESSIONS_ABANDONED, .FB_BUS_OFFS]

/-- Part 12 of the list of objects. -/
def objPart12 : List Obj :=
  [.FB_HELD_RX, .LC_STATE, .LC_ARM, .LC_REQUEST, .LC_STATUS, .LC_HISTORY, .FN_STATUS, .FN_RING, .FN_HEAD_SEQ, .FN_CREDIT, .FN_WEAR, .FN_BAD_COPIES, .FN_REPAIRS, .FN_ROLLBACKS, .FN_LOST_PARTS, .FN_THINNED, .FN_FORMAT_REQ, .FN_DEV_A_SECTORS, .FN_DEV_B_SECTORS, .FN_LIFE_S, .FN_BUCKET_MAX, .FN_SNAP_REQ, .FN_SNAP_INTERVAL, .FN_SNAP_LAST, .FN_SNAP_RECORDS, .FN_SNAP_DEFERRALS, .STRESS_BINS, .START_STATE, .RESET_CAUSE, .ARM_SEQ, .ARM_REPEATS, .ARM_REPEAT_LIMIT, .LAST_ARM_TIME, .READY_TIME, .COLD_CAL_TIME, .JOB_FAULTS, .JOB_RESETS, .WARM_RESETS, .COLD_RESETS, .SELF_RESET_REQ]

/-- Part 13 of the list of objects. -/
def objPart13 : List Obj :=
  [.EXCLUDED_MAP, .ARM_NEW_EXCLUDED, .EXCLUDE_STRIKES, .REGION_EXCLUDED, .REGION_EXCLUDED_ACTIVE, .REGION_STRIKES, .REGION_EXCLUDE_CAUSE, .FAULT_DIGEST, .FAULT_TIME, .FAULT_LATER_COUNT, .FAULT_HISTORY, .INJ_JOB_FAULTS, .ALERT_STATUS, .ALERT_ACK, .ALERT_MASK, .SRAM_CE, .SRAM_UE, .SPINE_RETRANSMITS, .SPINE_LINK_FAILS, .SEQ_PARITY_ERRS, .WATCHDOG_EXPIRIES, .FUNCTION_RESETS, .EVENT_PAGE, .EVENT_NEXT, .EVENT_SEQ, .EVENT_OVERWRITTEN, .INJ_POINT, .INJ_ELEMENT, .INJ_ARG, .INJ_ARM, .INJ_RESULT, .INJ_COUNT, .FIELD_TEST_PERMIT, .FIELD_TEST_TIME, .FIELD_TEST_REMAINING]

/-- Every object, in ascending order of index and subindex. -/
def allObjs : List Obj :=
  objPart0 ++ objPart1 ++ objPart2 ++ objPart3 ++ objPart4 ++ objPart5 ++ objPart6 ++ objPart7 ++ objPart8 ++ objPart9 ++ objPart10 ++ objPart11 ++ objPart12 ++ objPart13

/-- The object at a dictionary address, with the offset of the subindex within its row (R411, R412). -/
def objAt (index sub : Nat) : Option (Obj × Nat) :=
  (allObjs.find? fun o => (info o).index == index && (info o).sub ≤ sub && sub < (info o).sub + (info o).span).map
    fun o => (o, sub - (info o).sub)

end Sys2Proof.Machine
end

