-- ==== Sys2Proof/Config.lean ====
section
/-! DEFINITION. What a build fixes, and the free values.  Nothing opaque here has a body: no proof sees a value. -/

namespace Sys2Proof

/-- What Priund and the factory calibration flow fix for one part (R5, R61, R432): the values of the per-build
and factory objects, keyed as the object store keys them, and the facts of the placement no object reports. -/
structure Build where
  /-- per-build and factory values, keyed by `objKey` -/
  vals : List (Nat × Nat) := []
  /-- objects, by constructor number, whose descriptor has REMOTE set (R426, R432) -/
  remote : List Nat := []
  /-- parent of each Spine Junction, keyed by junction number; unlisted junctions hang from the Conductor (R16, R536) -/
  junctionUp : List (Nat × Nat) := []
  /-- next Region Agent on the ring of each region's field; unlisted agents are followed by their Field Station (R19, R536) -/
  ringUp : List (Nat × Nat) := []
  /-- width of each crossing lane in 16-bit units, keyed by 512 × (4 × receiving region + edge) + lane (R148) -/
  laneWidth : List (Nat × Nat) := []
  /-- depth P of the pointer path of each cell half, keyed by 2 × (4 × receiving region + edge), plus 1 for the write
  half (R153) -/
  ptrPath : List (Nat × Nat) := []
  deriving DecidableEq, Repr, Inhabited

/-- The build of the part: fixed when Priund configures the block, and never changed (R5). -/
opaque Config.build : Build

/-- The free values: what the spec leaves open, by site and by draw.  It has no chosen value. -/
opaque Config.freeValue : Nat → Nat → Word64

/-- The quotient where the spec gives a division no result, by site and dividend. -/
opaque Config.divByZero : Nat → Int → Int

/-- Whether an inexact quotient whose rounding the spec does not state is rounded up, by site, dividend and divisor. -/
opaque Config.roundUp : Nat → Int → Int → Bool

/-- The delay of the reference net from the time master to the agent of a region, in 1/16 ns: MARK_DELAY is what Priund
measured of it (R214, R216). -/
opaque Config.netDelay : Nat → Nat

end Sys2Proof
end

