-- ==== Sys2Proof/Machine/Tab.lean ====
section
/-! DEFINITION. Sparse tables: a list of key and value pairs with strictly rising keys and no entry equal to the
table's default, so that equal tables are equal data. -/

set_option Elab.async false

namespace Sys2Proof.Machine

/-- A sparse table. -/
abbrev Tab (α : Type) := List (Nat × α)

/-- The entry at `k`, or `d` where none is listed. -/
def Tab.get {α : Type} (t : Tab α) (k : Nat) (d : α) : α :=
  match t with
  | [] => d
  | (k', v) :: r => if k' = k then v else Tab.get r k d

/-- The table with the entry at `k` removed. -/
def Tab.del {α : Type} (t : Tab α) (k : Nat) : Tab α :=
  match t with
  | [] => []
  | (k', v) :: r => if k' = k then Tab.del r k else (k', v) :: Tab.del r k

/-- The table with `v` listed at `k`, the keys kept rising. -/
def Tab.put {α : Type} (t : Tab α) (k : Nat) (v : α) : Tab α :=
  match t with
  | [] => [(k, v)]
  | (k', v') :: r => if k < k' then (k, v) :: (k', v') :: r
    else if k' = k then (k, v) :: r else (k', v') :: Tab.put r k v

/-- The table reading `v` at `k`: the default is never listed. -/
def Tab.set {α : Type} [DecidableEq α] (t : Tab α) (k : Nat) (v d : α) : Tab α :=
  if v = d then t.del k else t.put k v

/-- The listed keys. -/
def Tab.keys {α : Type} (t : Tab α) : List Nat := t.map (·.1)

/-- The keys rise strictly. -/
def Tab.rising {α : Type} (t : Tab α) : Bool :=
  match t with
  | [] => true
  | (k, _) :: r => (match r with | [] => true | (k', _) :: _ => decide (k < k')) && Tab.rising r

/-- No listed entry equals the default. -/
def Tab.sparse {α : Type} [DecidableEq α] (t : Tab α) (d : α) : Bool := t.all fun x => decide (x.2 ≠ d)

/-- The canonical form of a table: rising keys and no default listed. -/
def Tab.canon {α : Type} [DecidableEq α] (t : Tab α) (d : α) : Bool := t.rising && t.sparse d

end Sys2Proof.Machine
end

