-- ==== Sys2Proof/Machine/State.lean ====
section
/-! DEFINITION. The state of the block: every register, buffer, counter, mode and pin the spec gives it, as plain
data.  Registers that the dictionary reports are the objects (`objs`, under their names); the records below hold
what no object reports. -/

set_option Elab.async false

namespace Sys2Proof.Machine
open Sys2Proof

/-- Why the machine would stop.  No command of the block stops it: the block answers, counts or ignores (R534).
The one constructor is raised by nothing and keeps the type inhabited. -/
inductive Fault where
  /-- Raised by no command.  Safe: it can only stop a run. -/
  | unreachable
  deriving DecidableEq, Repr

/-- Why the model would refuse a command. -/
inductive Refusal where
  /-- The command has no meaning yet.  Raised by `exec` only.  Safe: it stops the run. -/
  | notModelled (mnemonic : String)
  deriving DecidableEq, Repr

/-- The modes of a crossing cell (R150). -/
inductive XMode where
  | fenced | decoupled | tethered
  deriving DecidableEq, Repr, Inhabited

/-- One half of a crossing cell: the mode it is in, its request and acknowledgement of the four-phase resync
(R155), whether it still has to enter the target mode, its 4-bit slot pointer, a pointer load on the registered path
to it as the cycles still to go and the value (R153), its check error (R154), and whether its supply is off behind
isolation, or has returned and its crossing still has to resync (R157, R160). -/
structure Half where
  mode : XMode := .fenced
  req : Bool := false
  ack : Bool := false
  busy : Bool := false
  ptr : Nat := 0
  load : Option (Nat × Nat) := none
  ptrErr : Bool := false
  dark : Bool := false
  deriving DecidableEq, Repr, Inhabited

/-- One lane of one crossing cell (R117, R148 to R151, R156): its 16 slots as valid bit and word; for DECOUPLED the words
written and consumed since the pointers were set to 0, and each half's samples of the other's count, newest first; the
words written and presented valid since the last resync; the outputs XC_*W_RDY, XC_*R_VLD and XC_*R_DATA. -/
structure XLane where
  slots : Tab (Bool × Nat) := []
  wq : Nat := 0
  rq : Nat := 0
  wseen : List Nat := []
  rseen : List Nat := []
  written : Nat := 0
  presented : Nat := 0
  rdy : Bool := false
  vld : Bool := false
  data : Nat := 0
  deriving DecidableEq, Repr, Inhabited

/-- The inbound crossing cells of a region's edge (all cells of an edge take one mode, R148): the read half, in this
region, the write half, in the neighbour, the target of the resync in progress, the newest target waiting behind
it (R157), the mode the last arm gives it (R140), whether a withdrawn fence waits for both regions' clocks (R159), and
the lanes of the edge's cells, bulk and priority, by `laneKey`. -/
structure Cell where
  rd : Half := {}
  wr : Half := {}
  target : XMode := .fenced
  waiting : Option XMode := none
  armMode : XMode := .fenced
  reopen : Bool := false
  lanes : Tab XLane := []
  deriving DecidableEq, Repr, Inhabited

/-- A parked hold in force at an agent: park count and release time (R109). -/
structure Park where
  count : Nat := 0
  release : Nat := 0
  parked : Bool := false
  since : Nat := 0
  thermal : Bool := false
  /-- the eighths of the hold that windows have been charged with (R347) -/
  charged : Nat := 0
  deriving DecidableEq, Repr, Inhabited

/-- A cause tag: class, and the region charged (none: the region's own) (R134). -/
structure Tag where
  cls : Nat := 0
  region : Option Nat := none
  deriving DecidableEq, Repr, Inhabited

/-- What a Region Agent holds beside its objects. -/
structure Rgn where
  /-- FLL accumulator: integer code and six fraction bits (R74) -/
  acc : Nat := 0
  /-- region cycles counted in the gate in progress (R72) -/
  gateCycles : Nat := 0
  /-- eighths of stretch reported in the gate in progress (R73) -/
  gateEighths : Nat := 0
  /-- the gate in progress is discarded (R78, R81) -/
  gateDiscard : Bool := false
  /-- |8N - m| of the last gates since the last seed, newest first, at most 8 (R76) -/
  gateErrs : List Nat := []
  /-- gates ended since the last seed, held at 8 (R76) -/
  gatesSince : Nat := 0
  /-- sums of 8N - m over the tick, by N (OSC_LOOP_ERR) -/
  epsByN : List (Nat × Int) := []
  /-- sum of m and number of gates over the tick (OSC_FREQ_NAT) -/
  mSum : Nat := 0
  gateCount : Nat := 0
  /-- sum, in Hz, and number of the ceiling frequencies over the tick (R87) -/
  ceilSum : Nat := 0
  ceilCount : Nat := 0
  /-- sigma-delta residue, 0 to 63 (R75) -/
  sdAcc : Nat := 0
  /-- since when, in µs, the region has been out of LOCKED, and whether the episode is counted (R77) -/
  unlockAt : Option Nat := none
  unlockCounted : Bool := false
  /-- since when, in µs, CEILING has been set, and whether it is logged (R77) -/
  ceilAt : Option Nat := none
  ceilLogged : Bool := false
  /-- ns of CEILING time not yet in OSC_CEILING_TIME -/
  ceilNs : Nat := 0
  /-- complete gates still to end before HOLD clears; 0 when HOLD waits for a reference (R78) -/
  holdGates : Nat := 0
  /-- µs since the start at which START_FAIL would be declared; none when locked or stopped (R95) -/
  startAt : Option Nat := none
  /-- when HOLD was set, for the timers that HOLD pauses (R512) -/
  holdAt : Option Nat := none
  /-- powered µs not yet counted as an hour, and up to when, in µs, they have been counted (R88) -/
  poweredUs : Nat := 0
  countedAt : Nat := 0
  /-- the curve that seeds follow until the next gate ends, where a newer one has been written (R86) -/
  curveOld : Option Nat := none
  /-- an aging sample is running (R89) -/
  ageSampling : Bool := false
  /-- REF_MARK has been launched and the held count has not yet released (R93) -/
  markSeen : Bool := false
  /-- the change broadcast held, count C and ratio, and the last one received (R25, R70) -/
  change : Option (Nat × Nat) := none
  heard : Option (Nat × Nat) := none
  /-- droop run: depth in eighths (0 none), periods left, deepest depth tripped in the present period (R102) -/
  runDepth : Nat := 0
  runLeft : Nat := 0
  tripDepth : Nat := 0
  /-- thresholds, enables and run length in force during a run (R116) -/
  runThresh : List Nat := []
  runEnable : Nat := 0
  /-- depths applied in the last three periods (S3 of R106) -/
  last1 : Nat := 0
  last2 : Nat := 0
  last3 : Nat := 0
  /-- the depth before those three, and the deepest request of the present period (R104, R106) -/
  last4 : Nat := 0
  asked : Nat := 0
  /-- sensors that tripped in the present period, and the unbroken trip time of each in region time, in 1/16 ns over
  160 × 2^32 (R110, R214) -/
  tripMask : Nat := 0
  stuckTime : Tab Nat := []
  /-- lowest reading of the tick in progress, 64 none (DS_MIN_READING) -/
  minReading : Nat := 64
  /-- index of the S class of R99 whose line trims are loaded: 0 for S = 2 to 3 for S = 16 -/
  sClass : Nat := 3
  /-- the parked hold in force (R109) -/
  park : Option Park := none
  /-- the next park, broadcast while this one lasts (R277) -/
  nextPark : Option Park := none
  /-- a thermal trip stops this detached region's clock once every crossing has acknowledged (R176) -/
  tripStop : Bool := false
  /-- the leads of the last four cycles, newest first (R126) -/
  leadHist : List Int := []
  /-- tether level 0 to 4 and its dwell (R126) -/
  level : Nat := 0
  dwell : Nat := 0
  /-- injected readings are part of the trips of these sensors, injected offsets part of the slips of these edges in the
  present cycle, sensors whose quarantine an injection made (R537) -/
  injTrips : Nat := 0
  injSlips : Nat := 0
  injQuar : Nat := 0
  /-- largest |m| of the tick in progress (SLIP_PEAK) -/
  slipPeak : Nat := 0
  /-- TETHER_BANK and TETHER_ESC_DWELL in force (R147) -/
  bank : Nat := 3
  escDwell : Nat := 4
  /-- own slip samples of the last two cycle starts per edge, newest first (R124, R125) -/
  slip1 : Tab Int := []
  slip2 : Tab Int := []
  /-- cycles, held at 64, for which every measured slip has stayed within 1 (R162) -/
  calm : Nat := 0
  /-- periods without stretch, held at 64, and the cause tag (R135) -/
  quiet : Nat := 0
  tag : Tag := {}
  /-- the copies of the neighbours' tags, by edge (R135) -/
  nbTags : Tab Tag := []
  /-- tags charged in the window with their eighths, at most 4 (R136) -/
  charges : List (Tag × Nat) := []
  /-- SLIP_FAULT is raised on the edges of this mask, and their m has not fallen below 5 since (R132) -/
  slipFaulted : Nat := 0
  /-- times captured at TIME_MARKs whose corrections have not arrived: sequence number and time (R214) -/
  captures : List (Nat × Int) := []
  /-- the INC of the last correction, in units of 2^-32, and the part of a unit of time that durations have left (R214):
  numerator over 160 × 2^32 -/
  incUnits : Nat := 687194767360
  timeRem : Nat := 0
  /-- part of a negative correction not yet used up (R215) -/
  timeDebt : Nat := 0
  /-- the region's time is valid (R215) -/
  timeValid : Bool := false
  /-- largest |e| of the tick in progress (REGION_TIME_ERR_PEAK) -/
  errPeak : Nat := 0
  /-- droop eighths and cycles of the tick in progress (R138) -/
  tickDroop : Nat := 0
  tickCaused : Nat := 0
  tickCycles : Nat := 0
  /-- fast-cap duty in force at the agent, and the modulator's residue (R270) -/
  duty : Nat := 0
  dutyAcc : Nat := 0
  /-- region temperature, 0.25 °C, and whether any sensor was valid (R233) -/
  temp : Option Int := none
  tempFallback : Bool := true
  deriving DecidableEq, Repr, Inhabited

/-- The estimate of one closed window on its way to the Field Station (R230, R235, R136). -/
structure WinRep where
  win : Nat := 0
  est : Nat := 0
  dyn : Nat := 0
  leak : Nat := 0
  valid : Bool := false
  spread : Bool := false
  tempFallback : Bool := false
  charges : List (Tag × Nat) := []
  unattributed : Nat := 0
  eDroop : Nat := 0
  eTether : Nat := 0
  eCap : Nat := 0
  eFloor : Nat := 0
  eTherm : Nat := 0
  cycles : Nat := 0
  count : Nat := 0
  time : Nat := 0
  dur : Nat := 16000
  parked : Bool := false
  thermalPark : Bool := false
  deriving DecidableEq, Repr, Inhabited

/-- What a Region Agent's estimator holds beside its objects (R224 to R250). -/
structure Est where
  /-- a sweep may begin in this window, one is in progress, its next lane to answer, and the windows closed since it
  began (R47, R225) -/
  mayBegin : Bool := false
  sweeping : Bool := false
  lane : Nat := 0
  sweepWin : Nat := 0
  /-- region cycles since the sweep began, and the outputs ACT_REQ and ACT_ADDR (R42, R47) -/
  sweepCyc : Nat := 0
  actReq : Bool := false
  actAddr : Nat := 0
  /-- sum of weight times delta of the sweep in progress, invalid lanes, lanes without baseline, lanes with delta above 0 -/
  acc : Nat := 0
  invalid : Nat := 0
  unbased : Nat := 0
  mask : Nat := 0
  /-- the same of the latest ended sweep, with whether one has ended since the baselines were lost -/
  ended : Bool := false
  endAcc : Nat := 0
  endInvalid : Nat := 0
  endUnbased : Nat := 0
  endMask : Nat := 0
  endM : Nat := 1
  /-- number of the window in progress, none until the region's time is valid (R224) -/
  win : Option Nat := none
  /-- eighths by cause, cycles and tags of the window in progress (R136, R235) -/
  eDroop : Nat := 0
  eTether : Nat := 0
  eCap : Nat := 0
  eFloor : Nat := 0
  eTherm : Nat := 0
  cycles : Nat := 0
  unattributed : Nat := 0
  /-- the latest closed window, and the one before it (R34, R235) -/
  report : Option WinRep := none
  before : Option WinRep := none
  /-- last valid estimate and the windows substituted since (R236) -/
  lastValid : Option Nat := none
  substituted : Nat := 0
  /-- activity masks of the last four intervals: tag and mask by slot (R245) -/
  masks : Tab (Nat × Nat) := []
  /-- calibration signs on the spine: interval and sign (R244) -/
  signs : List (Nat × Int) := []
  /-- signs for intervals up to this one are discarded (R250) -/
  signFloor : Nat := 0
  /-- consecutive ticks at which a quarter of the weights sat at a limit (R248) -/
  clampTicks : Nat := 0
  /-- the uncorrectable weight words awaiting their reload (R41) -/
  weightLost : List Nat := []
  /-- sum and number of dynamic estimates of the tick (R275) -/
  dynSum : Nat := 0
  dynCount : Nat := 0
  /-- EST_SHIFT in force (R250) -/
  shift : Option Nat := none
  deriving DecidableEq, Repr, Inhabited

/-- One activity lane (R226, R227, R246). -/
structure Lane where
  prev : Nat := 0
  based : Bool := false
  delta : Nat := 0
  idle : Nat := 0
  deriving DecidableEq, Repr, Inhabited

/-- One thermal sensor: its latest valid reading, consecutive invalid readings, consecutive disagreeing reads,
failure (R530), trip reads (R282), and the offset that the cold calibration gave it (R503). -/
structure Ts where
  value : Option Int := none
  invalidRun : Nat := 0
  differRun : Nat := 0
  failed : Bool := false
  tripRun : Nat := 0
  byInj : Bool := false
  offset : Int := 0
  deriving DecidableEq, Repr, Inhabited

/-- What an occurrence gathers in one field (R304, R311): energy in nJ, droop eighths, cycles, caused droop eighths, the
same of the onset, and the P95 tracker. -/
structure FOcc where
  energy : Nat := 0
  droop : Nat := 0
  cycles : Nat := 0
  caused : Nat := 0
  onDroop : Nat := 0
  onCycles : Nat := 0
  p95 : Nat := 0
  fresh : Bool := true
  deriving DecidableEq, Repr, Inhabited

/-- An occurrence in progress on a group (R297, R304, R305): tag, begin, anchor count at the begin, entry chosen, whether
it explores, whether it is still observed and clean, eighths and cycles of its loss. -/
structure Occ where
  tag : Nat := 0
  begun : Nat := 0
  count0 : Nat := 0
  entry : Option Nat := none
  explored : Bool := false
  observed : Bool := true
  clean : Bool := true
  lost : Nat := 0
  cycles : Nat := 0
  deriving DecidableEq, Repr, Inhabited

/-- An announced phase (R307, R312): tag, choice, whether it explores. -/
structure PNext where
  tag : Nat := 0
  choice : Option Nat := none
  explored : Bool := false
  deriving DecidableEq, Repr, Inhabited

/-- A pre-position (R312): tag, expected begin, time at which to set the offsets (none: set), actual begin. -/
structure Prep where
  tag : Nat := 0
  begin0 : Nat := 0
  setAt : Option Nat := none
  begun : Option Nat := none
  deriving DecidableEq, Repr, Inhabited

/-- What a Field Station and the Conductor hold for a field. -/
structure Fld where
  /-- window of FIELD_EST, and whether the fast cap loop still has to act on it -/
  win : Nat := 0
  ready : Bool := false
  /-- the windows that a TIME_SET left to be reported, and whether the one that it shortens has not been closed yet (R250, R355) -/
  late : List Nat := []
  stepDue : Bool := false
  /-- sums over the tick: corrected power, windows, duty, and whether u stood at 320 with x above 0 in every window -/
  powSum : Nat := 0
  windows : Nat := 0
  dutySum : Nat := 0
  allAtMax : Bool := true
  anyAtMax : Bool := false
  /-- excess of the latest windows, newest first, with their window numbers (R277) -/
  excess : List (Nat × Int) := []
  /-- share S_f as numerator and denominator; none before the first tick (R259) -/
  share : Option (Nat × Nat) := none
  /-- sums of DOMAIN_MEAS and DOMAIN_EST over valid intervals of the tick, and their number (R260) -/
  measSum : Nat := 0
  estSum : Nat := 0
  intervals : Nat := 0
  /-- highest T_f of the tick in progress (R281) -/
  tempMax : Option Int := none
  /-- tick-mean corrected estimate of the last tick (R281, R284) -/
  lastMean : Nat := 0
  /-- degraded-rail safe limit (R284) -/
  safeLimit : Option Nat := none
  /-- quiet ticks before a fall of the trim (R181) -/
  downRun : Nat := 0
  /-- interval in which FIELD_VOLT last changed (R244) -/
  voltChanged : Option Nat := none
  voltBefore : Option Nat := none
  /-- the latest interval whose telemetry entered the sums of K_f (R260) -/
  kfLast : Option Nat := none
  /-- the cap directive last sent: limit, reason and share S_f (R259, R262) -/
  sentLimit : Nat := 0xFFFFFFFF
  sentReason : Nat := 0xFF
  sentShare : Option (Nat × Nat) := none
  /-- a rail limit bound at the latest update of the duty (R254, R270) -/
  railBinds : Bool := false
  /-- a thermal trip of the field since the last arm (R282) -/
  tripped : Bool := false
  /-- a lowering of the field's voltage waits (R183) -/
  guardStep : Bool := false
  /-- eighths charged to the fast cap loop over the tick, by reason code (R268) -/
  capByReason : Tab Nat := []
  /-- the latest window charged: the reason of a limit (R287), the eighths by reason (R347) -/
  thrReason : Nat := 255
  thrLost : Tab Nat := []
  /-- a voltage request of Praline waits for the end of a step or a region stop (R182) -/
  reqWaits : Bool := false
  /-- the lowering at the end of a step is on its way: of the region stop of this region, or of the group's step for
  0xFFFF (R193) -/
  lowering : Option Nat := none
  /-- ms of the stress bins not yet in STRESS_BINS (R486) -/
  binMs : Tab Nat := []
  /-- what the group's occurrence gathers here (R304) -/
  occ : FOcc := {}
  deriving DecidableEq, Repr, Inhabited

/-- A group step in flight (R183): target ratios, new voltages of its fields, fields whose raise is still
unconfirmed with the deadline in µs, and, once broadcast, count C; CHANGE_LEAD and VOLT_CONFIRM_TOL as the step found them
(R195), and its start on the clock of the watchdogs (R39). -/
structure GStep where
  nOld : Nat := 0
  nNew : Nat := 0
  vNew : Tab Nat := []
  raising : List Nat := []
  deadline : Nat := 0
  c : Option Nat := none
  lead : Nat := 0
  tol : Nat := 0
  began : Nat := 0
  deriving DecidableEq, Repr, Inhabited

/-- Floor throttle of a group (R276 to R279): start t_0 of period 0, number of the period in progress, its park count, whether its
park was issued, ticks with r at 768 and x_max below 0, whether that holds since the last update, r at 128 with x_max above 0, and
x_max at 0 or below, and whether each has held all tick. -/
structure Floor where
  t0 : Nat := 0
  period : Nat := 0
  parkCount : Nat := 0
  parked : Bool := true
  highTicks : Nat := 0
  high : Bool := false
  low : Bool := false
  eased : Bool := false
  highAll : Bool := false
  lowAll : Bool := false
  easedAll : Bool := false
  deriving DecidableEq, Repr, Inhabited

/-- An open episode (R348, R349): reason, start and end in global time, eighths lost, most fields charged in one
window, windows since the last charged one, and whether CAP_UNATTAINABLE was raised. -/
structure Ep where
  reason : Nat := 0
  start : Nat := 0
  last : Nat := 0
  lost : Nat := 0
  fields : Nat := 0
  gap : Nat := 0
  unatt : Bool := false
  deriving DecidableEq, Repr, Inhabited

/-- A run (R351 to R353): the RUN_CTL value that waits for a window boundary, the anchor and its count at the start,
the sums in progress, the fixed ratio at the start, and whether the bound conditions still hold. -/
structure RunAcc where
  ctl : Option Nat := none
  running : Bool := false
  anchor : Nat := 0
  count0 : Nat := 0
  time : Nat := 0
  ideal16 : Nat := 0
  fixedN : Nat := 0
  cond : Bool := true
  faultAt : Bool := false
  deriving DecidableEq, Repr, Inhabited

/-- What the Conductor holds for a tether group; the record of number 0xFF serves the set of fields with no group. -/
structure Grp where
  step : Option GStep := none
  pending : Option Nat := none
  /-- the last change broadcast: count C and ratio (R25) -/
  cast : Option (Nat × Nat) := none
  /-- no rising step (R185), or no step at all (R191), before the next tick -/
  noRise : Bool := false
  noStep : Bool := false
  /-- islands: anchor and diameter of each (R143) -/
  islands : List (Nat × Nat) := []
  /-- a recomputation of the islands is due (R143) -/
  islandsDue : Bool := false
  /-- trim mode, when the counts were released, µs, and for how many µs HOLD has paused the limit of R162 since (R129, R512) -/
  trim : Bool := false
  releasedAt : Option Nat := none
  trimHeld : Nat := 0
  alignFailed : Bool := false
  /-- operating-point table in force (R267) -/
  table : Option Nat := none
  /-- quiet ticks before an up step; bounce marks and tick of the last up step, by entry (R274) -/
  upRun : Nat := 0
  bounce : Tab Nat := []
  upTick : Tab Nat := []
  /-- reason e_pow carries (R268) -/
  powReason : Nat := 255
  /-- holdover ceiling (R208), degraded-rail ceiling (R284), ceiling 0 after a thermal trip (R283) -/
  holdCeil : Option Nat := none
  degCeil : Option Nat := none
  tripCeil : Bool := false
  tripped : Bool := false
  floor : Option Floor := none
  /-- Praline's choice offered as preference (R268) -/
  choice : Option Nat := none
  /-- Praline: occurrence in progress, announced phase, pre-position, and the last mark of each operation as tag, time
  and answer (R296) -/
  occ : Option Occ := none
  next : Option PNext := none
  prep : Option Prep := none
  marks : Tab (Nat × Nat × Nat) := []
  /-- sums over the tick: eighths of cap and floor, own and caused, and cycles (R274) -/
  lostSum : Nat := 0
  cycleSum : Nat := 0
  /-- open episode, and the run -/
  ep : Option Ep := none
  run : RunAcc := {}
  /-- tick sum and number of corrected group estimates (R274, R279) -/
  powSum : Nat := 0
  windows : Nat := 0
  deriving DecidableEq, Repr, Inhabited

/-- The waits of a power transition (R52): each names the step just issued, or the PD_EN change that waits for the
2 µs stagger. -/
inductive PdPhase where
  | save | isoCore | coreOffStagger | coreOffAck
  | fence | isoRtr | rtrOffStagger | rtrOffAck
  | rtrOnStagger | rtrOnAck | oscStart | isoRtrClear
  | coreOnStagger | coreOnAck | restore | isoCoreClear
  deriving DecidableEq, Repr, Inhabited

/-- A switched domain: its output pins (R42), the acknowledgement levels seen (both 1 until the first PD_ACK_CHANGE:
DESIGN CHOICE, R42 gives inputs no reset value, log 64), whether retention was saved, the transition in progress with its
deadline in µs, whether PD_TIMEOUT has been raised, when the transition left its stable state on the clock of the watchdogs
(R39), and the calibration engine's sums for the interval in progress. -/
structure Dom where
  enCore : Bool := true
  enRtr : Bool := true
  isoCore : Bool := true
  isoRtr : Bool := true
  retSave : Bool := false
  retRestore : Bool := false
  ackCore : Bool := true
  ackRtr : Bool := true
  saved : Bool := false
  phase : Option PdPhase := none
  deadline : Nat := 0
  timedOut : Bool := false
  began : Nat := 0
  /-- latest window estimate of the domain and its dynamic part -/
  winEst : Nat := 0
  /-- P_est sums over the interval: estimate, dynamic, windows, an invalid window, domain not ON at some time -/
  estSum : Nat := 0
  dynSum : Nat := 0
  windows : Nat := 0
  invalid : Bool := false
  notOn : Bool := false
  timeStep : Bool := false
  /-- the ended interval that awaits its decision: P_est, dynamic part, flags -/
  ready : Option (Nat × Nat × Nat) := none
  flags : Nat := 0
  prevEst : Option Nat := none
  sinceUpdate : Nat := 0
  /-- sums of e and P_meas over the tick's intervals that passed gates 1 to 8 -/
  errs : List (Int × Nat) := []
  deriving DecidableEq, Repr, Inhabited

/-- A command on a Renzil link: operation, channel, data, tag, failed attempts, whether it waits to be sent again (R362,
R368), whether the recovery that sent it has ended, and when it was sent on the clock of the watchdogs (R39). -/
structure LCmd where
  op : Nat := 0
  ch : Nat := 0
  data : Nat := 0
  tag : Nat := 0
  tries : Nat := 0
  /-- the rail whose recovery sent it (R379) -/
  recover : Option Nat := none
  again : Bool := false
  void : Bool := false
  at0 : Nat := 0
  deriving DecidableEq, Repr, Inhabited

/-- A Renzil link: its clock, waiting and outstanding commands, next tag, a MARK that waits to be sent, the
interval of the last MARK, commands sent since it and TLM frames it still awaits (R367, R370, R371), channels the
controller reported, the time of the latest IDENTIFY, and the latest frame sent (R362). -/
structure Link where
  clock : Bool := false
  queue : List LCmd := []
  out : List LCmd := []
  nextTag : Nat := 0
  markDue : Bool := false
  mark : Option Nat := none
  sinceMark : Nat := 0
  tlmLeft : Nat := 0
  channels : Nat := 0
  enumAt : Nat := 0
  tx : Option Nat := none
  deriving DecidableEq, Repr, Inhabited

/-- A rail beside its objects: pending target (R374), telemetry enabled, the interval delivered (voltage in
0.5 mV, current in 10 mA, validity), invalid intervals in a row, tick sums, recovery progress (R379), and the
FIELD_VOLT entry it serves. -/
structure Rail where
  pending : Option Nat := none
  tlmOn : Bool := false
  /-- interval delivered last, and whether it was valid -/
  gotK : Option Nat := none
  gotValid : Bool := false
  invalidRun : Nat := 0
  vSum : Nat := 0
  vCount : Nat := 0
  pSum : Nat := 0
  pCount : Nat := 0
  anyInvalid : Bool := false
  /-- recovery: 0 none, 1 commands running, 2 all answered and the next TLM awaited, 3 waiting for the group's step; which
  of CLEAR_FAULT, READ_STATUS and READ_VOLTAGE have succeeded, as bits 0 to 2 -/
  recover : Nat := 0
  recoverCode : Nat := 0
  recoverGot : Nat := 0
  /-- enumeration: rating read, voltage read -/
  rated : Bool := false
  readBack : Bool := false
  /-- values restored from Fondant before the rating is known (R377) -/
  stored : Tab Nat := []
  /-- RAIL_LIMIT as the cap directive last sent gave it (R262) -/
  sent : Nat := 0xFFFFFFFF
  /-- voltage range of the reported rating -/
  rateLo : Nat := 0
  rateHi : Nat := 0
  /-- last valid mean voltage and current, for a fill (R343) -/
  lastPow : Option Nat := none
  deriving DecidableEq, Repr, Inhabited

/-- A region stop in flight (R187): region, ratio of this step, final target, epoch, phase as REGION_STOP_STATE
has it with `sent` once the stop command has gone, deadline in µs, voltage raised. -/
structure RStop where
  region : Nat := 0
  nOld : Nat := 0
  nNew : Nat := 0
  target : Nat := 0
  epoch : Nat := 0
  /-- order of R187 in progress: 1 voltage, 2 quiesce, 3 stop command, 4 REQ raised, 5 stopped, 6 restarted -/
  order : Nat := 0
  vNew : Nat := 0
  deadline : Nat := 0
  /-- VOLT_CONFIRM_TOL as the step found it (R195); the start of the step on the clock of the watchdogs (R39) -/
  tol : Nat := 0
  began : Nat := 0
  deriving DecidableEq, Repr, Inhabited

/-- The region-stop sequencer (R29, R187): the step in flight, the request that waits, the last epoch, quiesces
outstanding as epochs that were acknowledged, aborted or released (R533). -/
structure RegionStop where
  cur : Option RStop := none
  waiting : Option (Nat × Nat) := none
  epoch : Nat := 0
  /-- outputs SY_QREQ of the latest quiesce or release: operation, region, epoch (R42, R402) -/
  qreqOp : Bool := false
  qreqRegion : Nat := 0
  qreqEpoch : Nat := 0
  deriving DecidableEq, Repr, Inhabited

/-- What field `field` summed for window `win`: the estimate, the regions substituted, the reason charged and the eighths by reason. -/
structure HeldWin where
  field : Nat := 0
  win : Nat := 0
  est : Nat := 0
  subst : Nat := 0
  reason : Nat := 255
  lost : Tab Nat := []
  deriving DecidableEq, Repr, Inhabited

/-- The reference monitors and the controller clocks (R199 to R210): since when each reference passes its tests
(µs), holdover entry, the relock due, the short stop in progress, and the suppression of marks after a SWITCH. -/
structure Refs where
  /-- the field sums whose place in the Conductor's sums waits for the end of a short stop of CTL (R34) -/
  heldWins : List HeldWin := []
  qualA : Option Nat := none
  qualB : Option Nat := none
  holdSince : Option Nat := none
  relockAt : Option Nat := none
  shortStop : Bool := false
  /-- µs of all short stops that have ended: the watchdogs of CTL stood in them (R190) -/
  stopped : Nat := 0
  /-- the reference to leave holdover for once the entry's short stop has ended (R221) -/
  exitTo : Option Bool := none
  suppressUntil : Nat := 0
  everSelected : Bool := false
  /-- REF_MARK has been launched for the regions whose counts are held -/
  switches : Nat := 0
  /-- µs of holdovers past that HOLDOVER_TIME, in ms, does not show (R222) -/
  holdRem : Nat := 0
  /-- an injected loss of each reference: until when, µs (R536), and the span of R537 -/
  injA : Option Nat := none
  injB : Option Nat := none
  injSpan : Bool := false
  deriving DecidableEq, Repr, Inhabited

/-- The corrections of one mark on the spine (R213): sequence number, T_k, the INC in force in units of 2^-32, and whether the
mark applied a TIME_SET (R220). -/
structure MarkMsg where
  seq : Nat := 0
  tk : Nat := 0
  inc : Nat := 0
  stepped : Bool := false
  deriving DecidableEq, Repr, Inhabited

/-- The time master (R211 to R220): global time T with its 32 fraction bits, µs since the release of reset, the remainder of
the slew, the step that waits, marks launched with the messages still on the spine, and the INC in force in units of
2^-32. -/
structure Clock where
  T : Nat := 0
  frac : Nat := 0
  incUnits : Nat := 687194767360
  /-- the corrections of the last three marks, oldest first: each reaches every agent within 2 µs -/
  sent : List MarkMsg := []
  up : Nat := 0
  markSeq : Nat := 0
  /-- T_k of the last mark -/
  markT : Nat := 0
  /-- remainder of the slew below 1/16 ns, in 1e-9 units -/
  slewRem : Int := 0
  setTo : Option Nat := none
  /-- the last mark applied a TIME_SET (agents take it as a full correction) -/
  stepped : Bool := false
  deriving DecidableEq, Repr, Inhabited

/-- A fault report on its way to the fault unit (R24, R521). -/
structure FReport where
  cls : Nat := 0
  unit : Nat := 0
  element : Nat := 0
  detail : Nat := 0
  injected : Bool := false
  time : Nat := 0
  deriving DecidableEq, Repr, Inhabited

/-- The fault unit (R523 to R531): reports on the spine, a fault line not yet seen on CTL, the arrival time of a
line no report has followed, the freeze of the operating points, ALERT_N and the end of its minimum low time in µs,
the digest's report flags and the sums of the event summary. -/
structure FaultUnit where
  reports : List FReport := []
  line : Bool := false
  lineAt : Option Nat := none
  frozen : Bool := false
  /-- ALERT_N: true is released -/
  alertN : Bool := true
  alertHold : Option Nat := none
  sumFrom : Nat := 0
  sumFirst : Nat := 0
  sumCats : Tab Nat := []
  sumDigest : Nat := 0
  sumFaults : Nat := 0
  sumResets : Nat := 0
  sumInjections : Nat := 0
  sumOver : Nat := 0
  deriving DecidableEq, Repr, Inhabited

/-- The injection in progress (R535): point, element, argument, deadline in µs, uses left. -/
structure Inj where
  point : Nat := 0
  element : Nat := 0
  arg : Nat := 0
  deadline : Nat := 0
  left : Nat := 0
  deriving DecidableEq, Repr, Inhabited

/-- An SRAM word with flipped bits (R545): code, element, word, one bit or two, and whether the injection that
flipped it still waits for the read. -/
structure Flip where
  code : Nat := 0
  element : Nat := 0
  word : Nat := 0
  two : Bool := false
  deriving DecidableEq, Repr, Inhabited

/-- Injection and test permit (R535 to R538). -/
structure Injection where
  cur : Option Inj := none
  flips : List Flip := []
  /-- sensors quarantined by an injection: region and sensor (R537) -/
  quarantines : List (Nat × Nat) := []
  /-- deadline of FIELD_TEST_PERMIT, s of µs -/
  permitUntil : Nat := 0
  deriving DecidableEq, Repr, Inhabited

/-- The start-up sequencer and the arm (R499 to R512). -/
structure StartUp where
  /-- AON runs: POWER_UP has begun the sequence -/
  released : Bool := false
  warm : Bool := false
  excludedApplied : Bool := false
  railsStarted : Bool := false
  coldCalDone : Bool := false
  /-- an arm is in progress, whether it is a re-arm, its start in µs, the repeats used -/
  arming : Bool := false
  rearm : Bool := false
  armAt : Nat := 0
  repeats : Nat := 0
  /-- the arm waits to be repeated after its halt (R512) -/
  repeatDue : Bool := false
  halted : Bool := false
  /-- READY has set since the last cold or warm reset -/
  everReady : Bool := false
  ramping : Bool := false
  /-- pins: JOB_RST_N as seen, JOB_RST_REQ -/
  jobRstN : Bool := true
  jobRstReq : Bool := false
  /-- deadline, in µs, of the self-reset of R497 -/
  selfReset : Option Nat := none
  /-- TRIM_TIME in force since the arm (R173) -/
  trimTime : Nat := 100
  /-- REF_MARK was launched for the arm in progress -/
  markLaunched : Bool := false
  failed : Bool := false
  deriving DecidableEq, Repr, Inhabited

/-- One audit record (R436). -/
structure AuditRec where
  time : Nat := 0
  seq : Nat := 0
  index : Nat := 0xFFFF
  sub : Nat := 0xFF
  cls : Nat := 0
  element : Nat := 0xFFFF
  requester : Nat := 0
  old : Nat := 0
  new : Nat := 0
  result : Nat := 0
  flags : Nat := 0
  deriving DecidableEq, Repr, Inhabited

/-- How an access came, and where its answer goes (R416): a row of its own, the indirect registers, a field-bus frame,
an engine request, or a DIRECTIVE frame of a peer slot. -/
inductive Via where
  | direct | idx | fdp (q : FdpFrame) | eng (q : EpReq) | net (peer frame : Nat)
  deriving DecidableEq, Repr, Inhabited

/-- An access to the dictionary: the address it names, the byte offset of the chunk asked for, the value of a write with its
length, its source, and where its answer goes. -/
structure Access where
  write : Bool := false
  index : Nat := 0
  sub : Nat := 0
  el : Nat := 0
  off : Nat := 0
  src : Src := .host
  len : Nat := 0
  val : Nat := 0
  via : Via := .direct
  deriving DecidableEq, Repr, Inhabited

/-- A request that the host port has accepted and holds, to the end of a CTL short stop (R34) or behind a REMOTE access of its own
(R447): an access to an object, a read of the window, a write of the window with its offset, byte enables and data, a lock
acquired or released, a ring, a start of an indirect operation. -/
inductive HeldReq where
  | access (a : Access)
  | read (addr : Nat)
  | weight (off be val : Nat)
  | phase (off be val : Nat)
  | lockAcquire (i : Nat)
  | lockRelease (i : Nat)
  | ring (val : Nat)
  | idxRead (addr ctl : Nat)
  | idxWrite (addr buf ctl : Nat)
  deriving DecidableEq, Repr, Inhabited

/-- A REMOTE access (R426): the object with its subindex offset and element, the value of a write with its length, the byte offset
of a read, its source, and where its answer goes; whether it has been decided and is on the spine, and then its class, its time,
and the value in force at the decision (R416, R423, R436). -/
structure RemoteAcc where
  flying : Bool := false
  cls : Nat := 0
  time : Nat := 0
  /-- the value in force when it was decided: what a read answers, and OLD of a write -/
  old : Nat := 0
  /-- a word of the value that a read asks for was lost -/
  lost : Bool := false
  write : Bool := false
  obj : Obj := .VENDOR_CODE
  sub : Nat := 0
  el : Nat := 0
  off : Nat := 0
  src : Src := .host
  len : Nat := 0
  val : Nat := 0
  via : Via := .direct
  /-- when it left, on the clock of the watchdogs (R39) -/
  at0 : Nat := 0
  deriving DecidableEq, Repr, Inhabited

/-- An answer a port has given: status code of R13, data, and the retry hint in ms (R450). -/
structure Answer where
  status : Nat := 0
  data : Nat := 0
  retry : Nat := 0
  deriving DecidableEq, Repr, Inhabited

/-- The Dictionary Engine (R411 to R445): dirty objects as keys with the deadline of their commit in µs, the expert
timer, REMOTE accesses in flight, the audit ring and its latch, refusals to merge by class and code, and the sums
of the audit summary. -/
structure Dict where
  dirty : List Nat := []
  commitAt : Option Nat := none
  /-- a dirty object is of class 0: an aging sample, a quarantine or an exclusion (R471) -/
  urgent : Bool := false
  unlockUntil : Option Nat := none
  remote : List RemoteAcc := []
  ring : Tab AuditRec := []
  latch : AuditRec := { index := 0, sub := 0, element := 0 }
  merged : Tab Nat := []
  /-- records up to this SEQ have been summarised; records written since the reset -/
  summarised : Nat := 0
  written : Nat := 0
  sumFrom : Nat := 0
  sumFirst : Nat := 0
  sumOk : Tab Nat := []
  sumRefused : Tab Nat := []
  sumUnlocks : Nat := 0
  sumOver : Nat := 0
  /-- AUDIT_SUMMARY_PERIOD in force and when it ends, µs (R445) -/
  period : Nat := 60
  periodEnd : Nat := 3600000000
  restored : Nat := 0
  restoreFailed : Nat := 0
  /-- the answer of the latest decided access -/
  answer : Answer := {}
  deriving DecidableEq, Repr, Inhabited

/-- Engine-level caps (R257, R263, R264, R273). -/
structure Caps where
  /-- µs at which EXT_CAP came into force -/
  extSince : Option Nat := none
  /-- slow-loop ticks since reset -/
  tick : Nat := 0
  /-- phase marks taken: a write of a control of Praline takes effect at the next (R318) -/
  marks : Nat := 0
  /-- CAP_UNATTAINABLE of the set of fields with no group (R280) -/
  setUnatt : Bool := false
  /-- an engine-level limit has changed and the limits await their recomputation (R262) -/
  due : Bool := false
  /-- tick-mean measured power of the rails that feed no domain -/
  otherMeas : Nat := 0
  /-- the budget grant in force (R257) -/
  grant : Option Nat := none
  /-- directives sent since reset -/
  directives : Nat := 0
  /-- fields whose trip issues its parks once the TIME_SET that pends has applied (R220, R288) -/
  tripDue : List Nat := []
  deriving DecidableEq, Repr, Inhabited

/-- A message in a mailbox (R389): sequence number, sender and its epoch, payload, the µs of its post, and whether
its read timeout has expired. -/
structure Msg where
  seq : Nat := 0
  sender : Nat := 0
  epoch : Nat := 0
  payload : Nat := 0
  at0 : Nat := 0
  timedOut : Bool := false
  deriving DecidableEq, Repr, Inhabited

/-- A mailbox with its doorbell and semaphore binding (R385, R389, R396, R397, R405): messages from the head, next
SEQ, sticky bit and merge counter, rings that await a wake, pending posts. -/
structure Box where
  msgs : List Msg := []
  nextSeq : Nat := 0
  rung : Bool := false
  merged : Nat := 0
  waiting : Nat := 0
  posts : Nat := 0
  deriving DecidableEq, Repr, Inhabited

/-- An access to remote mailbox storage in flight (R385): the mailbox, and the answer that its requester gets when it returns.  What it
does to the mailbox it has done as it entered the unit (log 106). -/
structure RemoteMb where
  box : Nat := 0
  id : Nat := 0
  status : Nat := 0
  data : Nat := 0
  /-- when it left, on the clock of the watchdogs (R39) -/
  at0 : Nat := 0
  deriving DecidableEq, Repr, Inhabited

/-- A word of the engine port's request queue: a request with its EP_REQ_OP, or with code 16 a requester reset (R45, R169). -/
structure EpHeld where
  op : Nat := 0
  q : EpReq := {}
  deriving DecidableEq, Repr, Inhabited

/-- An input of the sync port that its queue holds (R402, R407): a quiesce acknowledgement, the status of a post, or a slack
report. -/
inductive SyIn where
  | ack (epoch : Nat)
  | status (tag status : Nat)
  | slack (ns : Nat)
  deriving DecidableEq, Repr, Inhabited

/-- The latest operation on a lock: the lock, its source as LOCK_PRIO numbers them, and its time (R401). -/
structure LockUse where
  lock : Nat := 0
  src : Nat := 0
  time : Nat := 0
  deriving DecidableEq, Repr, Inhabited

/-- A semaphore post outstanding on the sync port: tag, mailbox and the µs of its acceptance (R405, R406). -/
structure SemPost where
  tag : Nat := 0
  box : Nat := 0
  at0 : Nat := 0
  deriving DecidableEq, Repr, Inhabited

/-- The host port, the engine port and the sync port (R34, R42, R45, R390, R391, R402 to R406): requests held in a short
stop, epochs and notice words by requester, accesses to remote storage, the response outputs, the post outputs, posts
outstanding and the next tag, and the slack that waits for a round. -/
structure Ports where
  /-- requests the host port holds, oldest first (R34, R447) -/
  hostHeld : List HeldReq := []
  /-- the latest response of the host port (R42, R447) -/
  host : Answer := {}
  /-- resets by requester, and job resets: an epoch is their sum (R390) -/
  epochs : Tab Nat := []
  jobEpochs : Nat := 0
  notices : Tab Nat := []
  remote : List RemoteMb := []
  /-- EP_RSP_VLD: the latest request has its answer (R42) -/
  rspVld : Bool := false
  rspId : Nat := 0
  rspStatus : Nat := 0
  rspData : Nat := 0
  rspCount : Nat := 0
  /-- requests and requester resets that wait in the engine port's queue, oldest first (R45, R169) -/
  epq : List EpHeld := []
  /-- inputs of the sync port that wait for the end of a short stop (R407) -/
  syHeld : List SyIn := []
  lockUse : Option LockUse := none
  postCtx : Nat := 0
  postSem : Nat := 0
  postTag : Nat := 0
  outstanding : List SemPost := []
  nextTag : Nat := 0
  deriving DecidableEq, Repr, Inhabited

/-- The energy counters' own state (R340 to R345): partition in force by region, the one before it and the first window of the one in
force, charges of the tick by partition in units of nJ / 16384
(0xFF none, 0x100 the engine), remainders below 1 µJ by the same keys and in the same units, remainders of the two measured counters in units of
1/20 nJ, and whether a snapshot has been asked for. -/
structure Energy where
  parts : Tab Nat := []
  partsOld : Tab Nat := []
  partsFrom : Nat := 0
  tick : Tab Nat := []
  rest : Tab Nat := []
  railRest : Nat := 0
  otherRest : Nat := 0
  snap : Bool := false
  deriving DecidableEq, Repr, Inhabited

/-- A peer slot of the budget exchange (R333, R334, R338): the BX_PEER word in force, the record of its frames (none of a
round accepted: `slack` is none), the round of the latest, the last SEQ accepted, the SEQ of the next frame to it. -/
structure BSlot where
  peer : Nat := 0
  slack : Option Nat := none
  headroom : Nat := 0
  flags : Nat := 0
  round : Nat := 0
  lastSeq : Option Nat := none
  outSeq : Nat := 0
  deriving DecidableEq, Repr, Inhabited

/-- A frame queued toward the network interface: peer slot, 512 bits, whether it is a ROUND frame, and its credit. -/
structure BFrame where
  slot : Nat := 0
  frame : Nat := 0
  isRound : Bool := false
  credit : Nat := 0
  deriving DecidableEq, Repr, Inhabited

/-- A frame received at the budget-frame port (R46): peer slot, beats, NB_RX_ERR on the last one, 512 bits. -/
structure NbFrame where
  peer : Nat := 0
  beats : Nat := 8
  err : Bool := false
  frame : Nat := 0
  deriving DecidableEq, Repr, Inhabited

/-- The budget exchange unit beside its objects (R320 to R336): round last begun, a boundary that waits for the end of a
short stop, the slack reports of the round, the epoch's install with its grant and time in µs, loads staged and
waiting as epoch and grant, credit of the round, slots, pool and engine in force, frames queued. -/
structure Bx where
  round : Nat := 0
  due : Bool := false
  skip : Bool := false
  /-- the slots whose frames the network interface had not taken at the boundary that waits (R331) -/
  stalled : Nat := 0
  sum : Nat := 0
  any : Bool := false
  /-- the round of the latest slack report that came while the unit was not ready (R329) -/
  sumRound : Nat := 0
  installed : Bool := false
  lastLoad : Option Nat := none
  grant0 : Nat := 0
  installAt : Nat := 0
  staged : Option (Nat × Nat) := none
  waiting : Option (Nat × Nat) := none
  expired : Bool := false
  late : Bool := false
  noSlack : Bool := false
  credit : Nat := 0
  slots : Tab BSlot := []
  pool : Nat := 0
  engine : Nat := 0
  /-- the slots rewritten since the last boundary (R337) -/
  rewritten : List Nat := []
  /-- the receive queue, two frames deep, while CTL is stopped (R166, R337) -/
  rx : List NbFrame := []
  tx : List BFrame := []
  deriving DecidableEq, Repr, Inhabited

/-- An indirect operation in progress (R456): write, length, and its start on the clock of the watchdogs (R39); and the
registers IDX_ADDR, IDX_STATUS and IDX_BUF. -/
structure Idx where
  addr : Nat := 0
  op : Option (Bool × Nat) := none
  at0 : Nat := 0
  status : Nat := 0
  buf : Nat := 0
  deriving DecidableEq, Repr, Inhabited

/-- An FDP response (R462, R463): identifier, payload bytes and value, and the µs at which it was queued. -/
structure FdpRsp where
  ident : Nat := 0
  len : Nat := 0
  data : Nat := 0
  at0 : Nat := 0
  /-- BRS of the frame once it is sent (R458) -/
  brs : Bool := false
  deriving DecidableEq, Repr, Inhabited

/-- An open write session (R464): source, address (index, subindex, element), bytes received, and the µs of its last
segment. -/
structure Sess where
  src : Nat := 0
  key : Nat := 0
  got : Nat := 0
  buf : Nat := 0
  at0 : Nat := 0
  deriving DecidableEq, Repr, Inhabited

/-- The previous request of a source (R466): its identifier and payload, the µs of its arrival, and the response given. -/
structure FdpLast where
  tid : Nat := 0
  len : Nat := 0
  data : Nat := 0
  at0 : Nat := 0
  rsp : Option FdpRsp := none
  deriving DecidableEq, Repr, Inhabited

/-- The value that an object had before a write which is not in force yet (R253, R292): its key, the window, interval or
tick of the write, and the value. -/
structure Held where
  key : Nat := 0
  at0 : Nat := 0
  old : Nat := 0
  deriving DecidableEq, Repr, Inhabited

/-- The snapshot of R465: source, address, value and size. -/
structure Snap where
  src : Nat := 0
  key : Nat := 0
  val : Nat := 0
  size : Nat := 0
  deriving DecidableEq, Repr, Inhabited

/-- The field-bus controller and FDP (R458 to R467): FB_STBY, the address and rates in force, bus-off, responses queued,
the latest response sent, the session, the snapshot, previous requests by source. -/
structure Fdp where
  standby : Bool := true
  addr : Nat := 1
  nomRate : Nat := 3
  dataRate : Nat := 3
  busOff : Bool := false
  out : List FdpRsp := []
  sent : FdpRsp := {}
  sess : Option Sess := none
  snap : Option Snap := none
  last : Tab FdpLast := []
  deriving DecidableEq, Repr, Inhabited

/-- One item of a record's payload (R476): kind 0 an object by its key, 1 an extract entry of a region, 2 a phase entry,
3 a group entry, 4 a summary, 5 a SEQ of a directory or note; no value stands for DEFAULT. -/
structure Item where
  kind : Nat := 0
  key : Nat := 0
  val : Option Nat := none
  /-- LENGTH, where it is not the size of the item's object: a store that another version of the block has written (R442, R476) -/
  len : Option Nat := none
  deriving DecidableEq, Repr, Inhabited

/-- A record of the journal (R475) with whether its copy on each device is valid; `base` marks a Praline base (R485). -/
structure JRec where
  type : Nat := 0
  seq : Nat := 0
  time : Nat := 0
  life : Nat := 0
  part : Nat := 0
  parts : Nat := 1
  flags : Nat := 0
  lc : Nat := 0
  credit : Int := 0
  base : Bool := false
  items : List Item := []
  goodA : Bool := false
  goodB : Bool := false
  deriving DecidableEq, Repr, Inhabited

/-- What a commit is made for. -/
inductive Why where
  | objects | daily | snapshot | summaries | transition | directory | note | relocate (seq : Nat)
  deriving DecidableEq, Repr, Inhabited

/-- A commit in flight (R477): its records, purpose, device (0 A, 1 B), record in progress, whether that is the retry,
whether an injection damages the record, whether a flush asked for it, and the start of the record's commit on the clock of the
watchdogs (R39). -/
structure Commit where
  recs : List JRec := []
  why : Why := .objects
  cls : Nat := 1
  dev : Nat := 0
  pos : Nat := 0
  retry : Bool := false
  injected : Bool := false
  flush : Bool := false
  at0 : Nat := 0
  deriving DecidableEq, Repr, Inhabited

/-- The flash devices: sectors, 0 erased, 1 this part's SUPER, 2 another's; the journal, oldest record first; the wipe
that R489 leaves in force, as types with the SEQ up to which they are wiped, and whether its FILL work is pending. -/
structure Flash where
  sectorsA : Nat := 0
  sectorsB : Nat := 0
  superA : Nat := 0
  superB : Nat := 0
  ring : Nat := 0
  journal : List JRec := []
  wiped : List (Nat × Nat) := []
  wipePending : Bool := false
  deriving DecidableEq, Repr, Inhabited

/-- A summary waiting for credit (R484): audit or event, with its 64 bytes. -/
structure Summ where
  event : Bool := false
  data : Nat := 0
  deriving DecidableEq, Repr, Inhabited

/-- The Fondant controller (R471 to R494): commits asked for (with whether their wait was counted), the commit in flight,
failures in a row by device, credit and the µs at which it next rises, LIFE_S at the mount, commits since the last
directory, summaries pending, SEQ values for the next NOTE, Praline tables at the last snapshot, records of the
chain's base and deltas, whether the next snapshot is a base, and whether it replaces a chain that R480 would relocate, the
day of the last daily commit, the life-cycle arm and
transition, keys of factory objects written since the reset, whether a flush waits, the START extract by region, whether
agents have full curves (restored or provisional), whether the mount has ended, whether the transition's commit is
complete, and the SEQ values whose one copy the mount found invalid (R479). -/
structure Fon where
  due : List (Why × Bool) := []
  cur : Option Commit := none
  badA : Nat := 0
  badB : Nat := 0
  credit : Int := 0
  creditAt : Nat := 337500000
  life0 : Nat := 0
  sinceDir : Nat := 0
  summaries : List Summ := []
  notes : List Nat := []
  snapPhase : Tab Nat := []
  snapGroups : Tab Nat := []
  chainBase : Nat := 0
  chainDelta : Nat := 0
  forceBase : Bool := true
  rebase : Bool := false
  day : Nat := 0
  armUntil : Option Nat := none
  target : Option Nat := none
  written : List Nat := []
  flush : Bool := false
  extract : Tab Nat := []
  curves : Bool := false
  mountEnded : Bool := false
  /-- µs by which the mount ended late, for a busy device (R473, R502) -/
  mountLate : Nat := 0
  transDone : Bool := false
  repair : List Nat := []
  deriving DecidableEq, Repr, Inhabited

/-- A spine hop (R20): of the last 8 messages that the sending node keeps, those that the receiving node has asked for, as
sequence number and 64 bits, oldest first, and the failed retransmissions of a message, by sequence number. -/
structure Hop where
  kept : List (Nat × Nat) := []
  failed : Tab Nat := []
  deriving DecidableEq, Repr, Inhabited

/-- The whole state of the block. -/
structure State where
  build : Build
  /-- the values of the dictionary objects that differ from their defaults, by `objKey` -/
  objs : Tab Nat
  /-- values in force in place of values just written, oldest first -/
  held : List Held
  clock : Clock
  refs : Refs
  su : StartUp
  flt : FaultUnit
  inj : Injection
  rgn : Tab Rgn
  est : Tab Est
  lane : Tab Lane
  ts : Tab Ts
  cell : Tab Cell
  fld : Tab Fld
  grp : Tab Grp
  dom : Tab Dom
  /-- domain commands and wakes waiting for one of the 8 places, in order (R54, R56) -/
  pdWakes : List Nat
  pdCmds : List Nat
  /-- µs at which the last PD_EN change was issued (R54) -/
  pdLast : Option Nat
  link : Tab Link
  rail : Tab Rail
  stop : RegionStop
  caps : Caps
  dict : Dict
  /-- spine hops, by `hopKey` of the sending and the receiving node (R20) -/
  hop : Tab Hop
  /-- draws of free values taken so far (the model's own field) -/
  freeN : Nat
  /-- mailboxes with their doorbells -/
  box : Tab Box
  ports : Ports
  energy : Energy
  /-- the phase table, by 128 × tag + field (R298) -/
  phase : Tab Nat
  budget : Bx
  idx : Idx
  fdp : Fdp
  /-- what the flash devices hold: no reset touches it (R498) -/
  flash : Flash
  fon : Fon
  /-- the commands that wait, first in, first out -/
  pending : List Instr
  deriving DecidableEq, Repr

/-- The state with every field at its start: the block in cold reset. -/
def State.zero (b : Build) : State where
  build := b
  objs := []
  held := []
  clock := {}
  refs := {}
  su := {}
  flt := {}
  inj := {}
  rgn := []
  est := []
  lane := []
  ts := []
  cell := []
  fld := []
  grp := []
  dom := []
  pdWakes := []
  pdCmds := []
  pdLast := none
  link := []
  rail := []
  stop := {}
  caps := {}
  dict := {}
  hop := []
  freeN := 0
  box := []
  ports := {}
  energy := {}
  phase := []
  budget := {}
  idx := {}
  fdp := {}
  flash := {}
  fon := {}
  pending := []

/-- The machine right after reset (R42, R495). -/
def State.reset : State := State.zero Config.build

end Sys2Proof.Machine
end

