-- ==== Sys2Proof/Machine/Ops.lean ====
section
/-! DEFINITION. The named operations over the state: reading and writing objects, counters, flag fields, the
records of the agents and units, the build's maps, and the open values. -/

set_option Elab.async false

namespace Sys2Proof.Machine
open Sys2Proof

/-! ### Objects -/

/-- The key of an object's value: object, offset of the subindex, element (R411). -/
def objKey (o : Obj) (e i : Nat) : Nat := Nat.pair o.ctorIdx (Nat.pair i e)

/-- An object's width in bits (R413). -/
def objBits (o : Obj) : Nat := 8 * (info o).size

/-- What the build fixes for an object (R5, R61, R432). -/
def State.raw (s : State) (o : Obj) (e i : Nat) : Nat := Tab.get s.build.vals (objKey o e i) 0 % 2 ^ objBits o

/-- The configuration: 0 W4-S, 1 W4-M, 2 W4-L, 3 W4-X (R5). -/
def State.config (s : State) : Nat := s.raw .CONFIG_CLASS 0 0 % 4

/-- The column of R3's table that object `o` is bounded by or takes its value from, for configurations S, M, L and X. -/
def sizeRow (o : Obj) : List Nat :=
  match o with
  | .NUM_REGIONS => [16, 64, 256, 1024]
  | .NUM_FIELDS => [2, 8, 32, 128]
  | .NUM_DOMAINS | .NUM_RAILS => [16, 64, 128, 512]
  | .NUM_GROUPS => [2, 4, 8, 8]
  | .NUM_MAILBOXES => [16, 16, 64, 64]
  | .NUM_PARTITIONS => [8, 16, 32, 64]
  | _ => []

/-- What the configuration of a build lets a per-build object hold: the tether groups, mailboxes and partitions are those of
R3's table; regions, fields, domains and rails are at most the table's (R3, R5); only W4-L and W4-X fix MB_DOMAIN (R408). -/
def State.perBuild (s : State) (o : Obj) (e i : Nat) : Nat :=
  let size := (sizeRow o).getD s.config 0
  match o with
  | .CONFIG_CLASS => s.config
  | .NUM_GROUPS | .NUM_MAILBOXES | .NUM_PARTITIONS => size
  | .NUM_REGIONS | .NUM_FIELDS | .NUM_DOMAINS | .NUM_RAILS => min size (s.raw o e i)
  | .MB_DOMAIN => if 2 ≤ s.config then s.raw o e i else 0xFFFF
  | _ => s.raw o e i

/-- The default of an object: stated, live at reset, or fixed by the build (R432, R434). -/
def State.dflt (s : State) (o : Obj) (e i : Nat) : Nat :=
  match (info o).dflt with
  | .const n => n
  | .live n => n
  | .perBuild => s.perBuild o e i
  | .factory => s.raw o e i

/-- The raw value of an object: element `e`, subindex offset `i`. -/
def State.rd (s : State) (o : Obj) (e : Nat := 0) (i : Nat := 0) : Nat :=
  Tab.get s.objs (objKey o e i) (s.dflt o e i)

/-- The state with an object's raw value replaced, cut to the object's width. -/
def State.wr (s : State) (o : Obj) (v : Nat) (e : Nat := 0) (i : Nat := 0) : State :=
  { s with objs := Tab.set s.objs (objKey o e i) (v % 2 ^ objBits o) (s.dflt o e i) }

/-- The value of a signed object. -/
def State.rdInt (s : State) (o : Obj) (e : Nat := 0) (i : Nat := 0) : Int := toInt (objBits o) (s.rd o e i)

/-- A signed object written. -/
def State.wrInt (s : State) (o : Obj) (z : Int) (e : Nat := 0) (i : Nat := 0) : State :=
  s.wr o (ofInt (objBits o) z) e i

/-- A signed object written, held at the ends of its type. -/
def State.wrSat (s : State) (o : Obj) (z : Int) (e : Nat := 0) (i : Nat := 0) : State :=
  s.wrInt o (clampInt (-(2 ^ (objBits o - 1) : Nat)) ((2 ^ (objBits o - 1) : Nat) - 1) z) e i

/-- A counter that saturates, advanced by `n`. -/
def State.add (s : State) (o : Obj) (n : Nat) (e : Nat := 0) (i : Nat := 0) : State :=
  s.wr o (satAdd (objBits o) (s.rd o e i) n) e i

/-- A counter that wraps, advanced by `n`. -/
def State.addWrap (s : State) (o : Obj) (n : Nat) (e : Nat := 0) (i : Nat := 0) : State :=
  s.wr o (s.rd o e i + n) e i

/-- A counter that saturates, advanced by 1. -/
def State.inc (s : State) (o : Obj) (e : Nat := 0) (i : Nat := 0) : State := s.add o 1 e i

/-- Bit `b` of an object. -/
def State.flag (s : State) (o : Obj) (b : Nat) (e : Nat := 0) : Bool := bit (s.rd o e) b

/-- The state with bit `b` of an object set to `v`. -/
def State.setFlag (s : State) (o : Obj) (b : Nat) (v : Bool) (e : Nat := 0) : State :=
  s.wr o (setBit (s.rd o e) b v) e

/-- Bytes `off` to `off + len - 1` of an object's value. -/
def State.rdBytes (s : State) (o : Obj) (e off len : Nat) : Nat := bytesAt (s.rd o e) off len

/-- An object with bytes `off` to `off + len - 1` replaced. -/
def State.wrBytes (s : State) (o : Obj) (e off len x : Nat) : State := s.wr o (setBytes (s.rd o e) off len x) e

/-- Whether a BOOL object is 1. -/
def State.on (s : State) (o : Obj) (e : Nat := 0) : Bool := s.rd o e == 1

/-- The value of an object that is in force in window, interval or tick `k`: the one before the first write in that span
or later, for a write takes effect at the next (R253, R292). -/
def State.was (s : State) (o : Obj) (k : Nat) (e : Nat := 0) (i : Nat := 0) : Nat :=
  match s.held.find? fun h => h.key == objKey o e i && decide (k ≤ h.at0) with
  | some h => h.old
  | none => s.rd o e i

/-- A write of an object in span `k`: its value stays in force to the span's end.  Values of spans long over go. -/
def State.holdOld (s : State) (o : Obj) (k : Nat) (e : Nat := 0) (i : Nat := 0) : State :=
  let key := objKey o e i
  let l := s.held.filter fun h => h.key != key || decide (k ≤ h.at0 + 2)
  { s with held := if l.any (fun h => h.key == key && h.at0 == k) then l else l ++ [{ key := key, at0 := k, old := s.rd o e i }] }

/-- The objects whose writes take effect at the next window (R253, R357). -/
def windowObjs : List Obj := [.VSCALE, .EST_VREF_CODE, .INVALID_LANE_LIMIT, .EST_HOLD_WINDOWS, .EPISODE_MIN, .EPISODE_GAP]
/-- The objects whose writes take effect at the next interval (R253). -/
def intervalObjs : List Obj :=
  [.CAL_ENABLE, .CAL_MU_SHIFT, .CAL_RATE, .CAL_DEADBAND, .CAL_MIN_DYN, .CAL_STEADY, .CAL_IDLE_TICKS]
/-- The objects whose writes take effect at the next tick (R292). -/
def tickObjs : List Obj :=
  [.FAST_GAIN, .OP_DOWN_LOSS, .OP_UP_LOSS, .OP_UP_MARGIN, .OP_UP_DWELL, .OP_BOUNCE_TICKS, .FLOOR_PERIOD, .FLOOR_ENGAGE_DUTY,
    .RAIL_MARGIN, .THERM_THROTTLE, .THERM_HYST, .THERM_TRIP, .THERM_STEP, .HOT_ENTRY]
/-- The controls of Praline that act between marks: a write takes effect at the next mark (R318). -/
def markObjs : List Obj := [.PR_ONSET, .PR_MAX_OCC, .PR_PREPOS_HOLD]
/-- The window, interval or tick in progress, for an object whose writes take effect at the next. -/
def State.spanOf (s : State) (o : Obj) : Option Nat :=
  if windowObjs.contains o then some (s.clock.T / 16000)
  else if intervalObjs.contains o then some (s.clock.T / 160000)
  else if tickObjs.contains o then some s.caps.tick
  else if markObjs.contains o then some s.caps.marks
  else none
/-- A write of a block-wide object: what it had stays in force to the end of its window, interval or tick (R253, R292). -/
def State.wrHeld (s : State) (o : Obj) (v : Nat) (e : Nat := 0) (i : Nat := 0) : State :=
  match s.spanOf o with
  | some k => (s.holdOld o k e i).wr o v e i
  | none => s.wr o v e i
/-- T steps, and with it a new window and a new interval begin: what was written is in force in them (R253); what waits for a tick
still waits. -/
def State.newSpans (s : State) : State :=
  { s with held := s.held.filter fun h => (tickObjs ++ markObjs).any fun o => h.key == objKey o 0 0 }

/-- The value of a block-wide control that is in force: a write takes effect at the next tick (R292). -/
def State.tickVal (s : State) (o : Obj) : Nat := s.was o s.caps.tick
/-- The same of a signed control. -/
def State.tickInt (s : State) (o : Obj) : Int := toInt (objBits o) (s.tickVal o)
/-- The value of a control of Praline that is in force between marks (R318). -/
def State.markVal (s : State) (o : Obj) : Nat := s.was o s.caps.marks

/-! ### Records -/

/-- The agent record of region `n`. -/
def State.r (s : State) (n : Nat) : Rgn := Tab.get s.rgn n {}
/-- The agent record of region `n` changed by `f`. -/
def State.modR (s : State) (n : Nat) (f : Rgn → Rgn) : State := { s with rgn := Tab.set s.rgn n (f (s.r n)) {} }
/-- The estimator record of region `n`. -/
def State.ee (s : State) (n : Nat) : Est := Tab.get s.est n {}
/-- The estimator record of region `n` changed. -/
def State.modE (s : State) (n : Nat) (f : Est → Est) : State := { s with est := Tab.set s.est n (f (s.ee n)) {} }
/-- Lane `i` of region `n`. -/
def State.ln (s : State) (n i : Nat) : Lane := Tab.get s.lane (512 * n + i) {}
/-- Lane `i` of region `n` changed. -/
def State.modLn (s : State) (n i : Nat) (f : Lane → Lane) : State :=
  { s with lane := Tab.set s.lane (512 * n + i) (f (s.ln n i)) {} }
/-- Thermal sensor `i` of region `n`. -/
def State.tsOf (s : State) (n i : Nat) : Ts := Tab.get s.ts (8 * n + i) {}
/-- Thermal sensor `i` of region `n` changed. -/
def State.modTs (s : State) (n i : Nat) (f : Ts → Ts) : State :=
  { s with ts := Tab.set s.ts (8 * n + i) (f (s.tsOf n i)) {} }
/-- The inbound crossing cell of region `n` on edge `e`. -/
def State.c (s : State) (n e : Nat) : Cell := Tab.get s.cell (4 * n + e) {}
/-- The inbound crossing cell of region `n` on edge `e` changed. -/
def State.modC (s : State) (n e : Nat) (f : Cell → Cell) : State :=
  { s with cell := Tab.set s.cell (4 * n + e) (f (s.c n e)) {} }
/-- The record of field `f`. -/
def State.f (s : State) (i : Nat) : Fld := Tab.get s.fld i {}
/-- The record of field `i` changed. -/
def State.modF (s : State) (i : Nat) (g : Fld → Fld) : State := { s with fld := Tab.set s.fld i (g (s.f i)) {} }
/-- The record of group `g`. -/
def State.g (s : State) (i : Nat) : Grp := Tab.get s.grp i {}
/-- The record of group `i` changed. -/
def State.modG (s : State) (i : Nat) (h : Grp → Grp) : State := { s with grp := Tab.set s.grp i (h (s.g i)) {} }
/-- The record of domain `d`. -/
def State.d (s : State) (i : Nat) : Dom := Tab.get s.dom i {}
/-- The record of domain `i` changed. -/
def State.modD (s : State) (i : Nat) (h : Dom → Dom) : State := { s with dom := Tab.set s.dom i (h (s.d i)) {} }
/-- The record of link `k`. -/
def State.l (s : State) (k : Nat) : Link := Tab.get s.link k {}
/-- The record of link `k` changed. -/
def State.modL (s : State) (k : Nat) (h : Link → Link) : State := { s with link := Tab.set s.link k (h (s.l k)) {} }
/-- The record of rail `r`. -/
def State.ra (s : State) (r : Nat) : Rail := Tab.get s.rail r {}
/-- The record of rail `r` changed. -/
def State.modRa (s : State) (r : Nat) (h : Rail → Rail) : State := { s with rail := Tab.set s.rail r (h (s.ra r)) {} }

/-- Mailbox `m`. -/
def State.bx (s : State) (m : Nat) : Box := Tab.get s.box m {}
/-- Mailbox `m` changed. -/
def State.modBx (s : State) (m : Nat) (h : Box → Box) : State := { s with box := Tab.set s.box m (h (s.bx m)) {} }

/-! ### The build's maps (R3, R5, R7, R61) -/

/-- Region numbers implemented. -/
def State.numRegions (s : State) : Nat := s.rd .NUM_REGIONS
/-- Region `n` is populated. -/
def State.present (s : State) (n : Nat) : Bool := decide (n < s.numRegions) && s.on .REGION_PRESENT n
/-- Region `n` is present and not excluded from the arm in force (R514). -/
def State.live (s : State) (n : Nat) : Bool := s.present n && !s.on .REGION_EXCLUDED_ACTIVE n
/-- The regions present. -/
def State.regions (s : State) : List Nat := (List.range s.numRegions).filter s.present
/-- The regions present and not excluded. -/
def State.liveRegions (s : State) : List Nat := (List.range s.numRegions).filter s.live
/-- The field of region `n` (R7). -/
def fieldOf (n : Nat) : Nat := n / 8
/-- The fields implemented. -/
def State.fields (s : State) : List Nat := List.range (s.rd .NUM_FIELDS)
/-- The groups implemented. -/
def State.groups (s : State) : List Nat := List.range (s.rd .NUM_GROUPS)
/-- The domains implemented. -/
def State.domains (s : State) : List Nat := List.range (s.rd .NUM_DOMAINS)
/-- The rails implemented. -/
def State.rails (s : State) : List Nat := List.range (s.rd .NUM_RAILS)
/-- The regions of field `f` present. -/
def State.fieldRegions (s : State) (f : Nat) : List Nat := ((List.range 8).map (8 * f + ·)).filter s.present
/-- The group of field `f` in force (R141). -/
def State.groupOf (s : State) (f : Nat) : Nat := s.rd .TETHER_GROUP_ACTIVE f
/-- The fields of group `g` in force. -/
def State.groupFields (s : State) (g : Nat) : List Nat := s.fields.filter fun f => s.groupOf f == g
/-- The regions of group `g` present and not excluded. -/
def State.groupRegions (s : State) (g : Nat) : List Nat :=
  s.liveRegions.filter fun n => s.groupOf (fieldOf n) == g
/-- The domain of region `n`. -/
def State.domainOf (s : State) (n : Nat) : Nat := s.rd .REGION_DOMAIN n
/-- The regions of domain `d` present. -/
def State.domainRegions (s : State) (d : Nat) : List Nat :=
  ((List.range (s.rd .DOMAIN_REGION_COUNT d)).map (s.rd .DOMAIN_FIRST_REGION d + ·)).filter s.present
/-- The rails of field `f`: those feeding the domains of its regions (R61). -/
def State.fieldRails (s : State) (f : Nat) : List Nat :=
  s.rails.filter fun r => s.rd .RAIL_DOMAIN r != 0xFFFF &&
    (s.domainRegions (s.rd .RAIL_DOMAIN r)).any fun n => fieldOf n == f
/-- The field that rail `r` feeds, if it feeds a domain. -/
def State.railField (s : State) (r : Nat) : Option Nat :=
  if s.rd .RAIL_DOMAIN r = 0xFFFF then none
  else some (fieldOf (s.rd .DOMAIN_FIRST_REGION (s.rd .RAIL_DOMAIN r)))
/-- The rail on channel `ch` of link `k`. -/
def State.railAt (s : State) (k ch : Nat) : Option Nat :=
  s.rails.find? fun r => s.rd .RAIL_CONTROLLER r == k && s.rd .RAIL_CHANNEL r == ch
/-- The rails of link `k`. -/
def State.linkRails (s : State) (k : Nat) : List Nat := s.rails.filter fun r => s.rd .RAIL_CONTROLLER r == k
/-- The region next to region `n` on edge `e` (0 N, 1 E, 2 S, 3 W) that crossing cells join to it. -/
def State.neighbour (s : State) (n e : Nat) : Option Nat :=
  let m := s.rd .NEIGHBOUR n e
  if m = 0xFFFF ∨ s.rd .LINKS n e = 0 then none else some m
/-- The opposite edge. -/
def opposite (e : Nat) : Nat := (e + 2) % 4
/-- The four edges. -/
def edges : List Nat := [0, 1, 2, 3]
/-- Router sub-domain of region `n` powered: its domain is not OFF and its router switches are closed (R50). -/
def State.routerOn (s : State) (n : Nat) : Bool := (s.d (s.domainOf n)).enRtr && (s.d (s.domainOf n)).ackRtr
/-- Core sub-domain of region `n` powered. -/
def State.coreOn (s : State) (n : Nat) : Bool := (s.d (s.domainOf n)).enCore && (s.d (s.domainOf n)).ackCore

/-! ### Time -/

/-- Global time T, 1/16 ns (R11). -/
def State.T (s : State) : Nat := s.clock.T
/-- µs since the release of reset, by the time marks launched. -/
def State.up (s : State) : Nat := s.clock.up
/-- µs that CTL has run: the clock of the watchdogs, which a short stop holds (R39, R190). -/
def State.ctlUs (s : State) : Nat := s.up - s.refs.stopped
/-- The nominal INC of a net period: 160 units, with its 32 fraction bits (R211). -/
def incNominal : Nat := 160 * 2 ^ 32
/-- A count `a` has passed a count `b` (R119). -/
def passed (a b : Nat) : Bool := decide ((a + 2 ^ 48 - b % 2 ^ 48) % 2 ^ 48 < 2 ^ 47)

/-! ### Open values -/

/-- Floor division, free where the divisor is 0. -/
def divAt (site : Nat) (a b : Int) : Int := if b = 0 then Config.divByZero site a else Int.fdiv a b
/-- Quotient whose rounding the spec does not state: exact where it is exact, one of the two neighbours elsewhere. -/
def divOpen (site : Nat) (a b : Int) : Int :=
  if b = 0 then Config.divByZero site a
  else if Int.fmod a b = 0 then Int.fdiv a b
  else Int.fdiv a b + (if Config.roundUp site a b then 1 else 0)
/-- Nearest integer; a tie goes to either side. -/
def nearestOpen (site : Nat) (a b : Int) : Int :=
  if b = 0 then Config.divByZero site a
  else if Int.fmod (2 * a + b) (2 * b) = 0 then Int.fdiv (2 * a + b) (2 * b) - (if Config.roundUp site a b then 0 else 1)
  else Int.fdiv (2 * a + b) (2 * b)
/-- The sum of some fractions, as one fraction. -/
def ratSum (l : List (Int × Int)) : Int × Int := l.foldl (fun a x => (a.1 * x.2 + x.1 * a.2, a.2 * x.2)) (0, 1)
/-- A free value of `w` bits, and the state with the draw counted. -/
def State.free (s : State) (site w : Nat) : Nat × State :=
  ((Config.freeValue site s.freeN).toNat % 2 ^ w, { s with freeN := s.freeN + 1 })

/-- Fold a state operation over a list. -/
def State.each {α : Type} (s : State) (l : List α) (f : State → α → State) : State := l.foldl f s

/-- Apply an operation only where a condition holds. -/
def State.when (s : State) (b : Bool) (f : State → State) : State := if b then f s else s

end Sys2Proof.Machine
end

