-- ==== Sys2Proof/Machine/Flags.lean ====
section
/-! DEFINITION. The readiness bits (R36), the alert register and pin (R526, R527), the event log (R528, R529), the
raising of faults (R24, R521), the digest (R522), and the SRAM protection counters (R41, R525). -/

set_option Elab.async false

namespace Sys2Proof.Machine
open Sys2Proof

/-! ### UNIT_READY (R36) -/

/-- The bits of UNIT_READY. -/
inductive Rdy where
  | aon | ctl | refA | refB | fondant | rails | osc | aligned | ready | dict | mailbox | sync | estimator
  | praline | budget | fbOn | holdover | aonInternal
  deriving DecidableEq, Repr

/-- The position of a bit of UNIT_READY. -/
def Rdy.pos (r : Rdy) : Nat := r.ctorIdx

/-- Whether a bit of UNIT_READY is 1. -/
def State.isReady (s : State) (r : Rdy) : Bool := s.flag .UNIT_READY r.pos
/-- A bit of UNIT_READY set to `v`. -/
def State.setReady (s : State) (r : Rdy) (v : Bool) : State := s.setFlag .UNIT_READY r.pos v

/-- The values of START_STATE (R518). -/
inductive Start where
  | powerUp | coldCal | arming | ramping | ready | faultWait | halted | failed
  deriving DecidableEq, Repr

/-- The code of a start-up state. -/
def Start.code (x : Start) : Nat := x.ctorIdx
/-- START_STATE reads `x`. -/
def State.startIs (s : State) (x : Start) : Bool := s.rd .START_STATE == x.code
/-- START_STATE set to `x`. -/
def State.setStart (s : State) (x : Start) : State := s.wr .START_STATE x.code

/-- The start-up sequencer still runs: a start-up that did not complete stays in the state it has reached (R500). -/
def State.seqRuns (s : State) : Bool := s.su.released && !s.su.failed

/-! ### Alerts (R526) -/

/-- Drives ALERT_N after a change of ALERT_STATUS or ALERT_MASK: low while their AND is not 0; once driven low, low
for at least 100 µs. -/
def State.driveAlert (s : State) : State :=
  if Nat.land (s.rd .ALERT_STATUS) (s.rd .ALERT_MASK) ≠ 0 then
    if s.flt.alertN then { s with flt := { s.flt with alertN := false, alertHold := some (s.up + 100) } } else s
  else if s.flt.alertHold.isSome then s
  else { s with flt := { s.flt with alertN := true } }

/-- An event of category `cat` asserts ALERT_N. -/
def State.alert (s : State) (cat : Nat) : State := (s.setFlag .ALERT_STATUS cat true).driveAlert

/-! ### Events (R528, R529) -/

/-- The category bit of ALERT_STATUS that an event code sets; none for an event marked "–" (R529). -/
def evCategory (code : Nat) : Option Nat :=
  if code = 0x04 then some 7
  else if code ≤ 0x03 then some 0
  else if code = 0x13 ∨ code = 0x20 ∨ code = 0x26 ∨ code = 0x70 then none
  else if code < 0x20 then some 1
  else if code < 0x30 then some 2
  else if code < 0x40 then some 3
  else if code < 0x50 then some 4
  else if code < 0x60 then some 5
  else some 6

/-- The 16 bytes of an event record. -/
def evRecord (time code flags elem data : Nat) : Nat :=
  time % 2 ^ 64 + code % 256 * 2 ^ 64 + flags % 256 * 2 ^ 72 + elem % 2 ^ 16 * 2 ^ 80 + data % 2 ^ 32 * 2 ^ 96

/-- Logs an event: its record goes to slot EVENT_NEXT, the alert of its category is asserted, and the sums of the
event summary count it (R528, R531). -/
def State.event (s : State) (code elem data : Nat) (injected : Bool := false) : State :=
  let slot := s.rd .EVENT_NEXT
  let cat := evCategory code
  let flags := injected.toNat + (if cat.isSome then 2 else 0)
  let page := slot / 256
  let off := 128 * (slot % 256)
  let old := bits (s.rd .EVENT_PAGE 0 page) off 128
  let s1 := s.wr .EVENT_PAGE (setBits (s.rd .EVENT_PAGE 0 page) off 128
    (evRecord s.T code flags elem data)) 0 page
  let s2 := s1.when (old != 0) fun t =>
    let u := t.inc .EVENT_OVERWRITTEN
    { u with flt := { u.flt with sumOver := u.flt.sumOver + 1 } }
  let s3 := (s2.wr .EVENT_NEXT ((slot + 1) % 1024)).addWrap .EVENT_SEQ 1
  match cat with
  | some k => ({ s3 with flt := { s3.flt with
      sumCats := Tab.set s3.flt.sumCats k (Tab.get s3.flt.sumCats k 0 + 1) 0 } }).alert k
  | none => s3

/-- The announcement of group `g` is withdrawn (R319). -/
def State.dropNext (s : State) (g : Nat) : State := (s.modG g fun x => { x with next := none }).wr .PR_NEXT_TAG 0xFFFF g

/-! ### Runs (R353) -/

/-- A run in progress on one of some groups sees what R353 bars: bit `b` of its RUN_STATUS is set. -/
def State.markRuns (s : State) (gs : List Nat) (b : Nat) : State :=
  s.each (gs.filter fun g => (s.g g).run.running) fun t g => t.setFlag .RUN_STATUS b true g

/-- A job fault's digest has been latched: it ends every run in progress (R351). -/
def State.faultRuns (s : State) : State :=
  s.each s.groups fun t g => t.modG g fun x => { x with run := { x.run with faultAt := x.run.faultAt || x.run.running } }

/-- Fixed-Rate mode of group `g` changes: a run in progress no longer meets the bound conditions (R353). -/
def State.noteFixed (s : State) (g : Nat) : State :=
  s.modG g fun x => { x with run := { x.run with cond := x.run.cond && !x.run.running } }

/-! ### Persistence (R428) -/

/-- Marks a Persistent object dirty: a commit follows 1 s after the first dirty object. -/
def State.dirty (s : State) (o : Obj) (e : Nat := 0) (i : Nat := 0) : State :=
  if (info o).persistent = false ∨ objKey o e i ∈ s.dict.dirty then s
  else { s with dict := { s.dict with
    dirty := s.dict.dirty ++ [objKey o e i], commitAt := some (s.dict.commitAt.getD (s.up + 1000000)) } }

/-- Marks a value of class 0 dirty: an aging sample, a quarantine or an exclusion is committed at once (R471, R483). -/
def State.dirtyNow (s : State) (o : Obj) (e : Nat := 0) : State :=
  let t := s.dirty o e
  { t with dict := { t.dict with urgent := true, commitAt := some t.up } }

/-! ### The sync port's queue (R402, R407) -/

/-- An input of the sync port waits in its queue (R402, R407). -/
def State.syHold (s : State) (x : SyIn) : State := { s with ports := { s.ports with syHeld := s.ports.syHeld ++ [x] } }

/-! ### Faults (R24, R521 to R524) -/

/-- The fault classes of R521. -/
inductive FaultClass where
  | slipFault | crossPtr | alignFail | startFail | lateChange | spineLink | sramUe | seqParity | watchdog
  | thermalTrip | pdTimeout | lineOnly
  deriving DecidableEq, Repr

/-- The code of a fault class. -/
def FaultClass.code (k : FaultClass) : Nat := if k = .lineOnly then 0x7F else k.ctorIdx + 1

/-- A detector drives its fault line and sends its report (R24). -/
def State.raiseFault (s : State) (cls : FaultClass) (unit elem detail : Nat) (injected : Bool := false) : State :=
  let rep : FReport :=
    { cls := cls.code, unit := unit, element := elem, detail := detail, injected := injected, time := s.T }
  { s with flt := { s.flt with
      line := true, lineAt := some (s.flt.lineAt.getD s.T), reports := s.flt.reports ++ [rep] } }

/-- The digest of a report (R522). -/
def FReport.digest (r : FReport) : Nat :=
  bits r.time 10 32 + r.element % 2 ^ 16 * 2 ^ 32 + r.detail % 16 * 2 ^ 48 + r.unit % 16 * 2 ^ 52
    + r.cls % 128 * 2 ^ 56 + r.injected.toNat * 2 ^ 63

/-- A digest is latched (R522: CLASS is 0 when none is). -/
def State.digestLatched (s : State) : Bool := bits (s.rd .FAULT_DIGEST) 56 7 != 0

/-- A job fault has occurred and its re-arm has not ended (R24, R332): its line is on its way, or has been seen. -/
def State.frozen (s : State) : Bool := s.flt.frozen || s.flt.line

/-- Operating points do not move: frozen, and no re-arm is ramping (R24, R191, R510). -/
def State.opFrozen (s : State) : Bool := s.flt.frozen && !s.su.ramping

/-! ### What happens to occurrences (R297, R304, R305) -/

/-- The occurrence of group `g`, if any, is no longer clean (R305). -/
def State.spoil (s : State) (g : Nat) : State := s.modG g fun x => { x with occ := x.occ.map fun o => { o with clean := false } }
/-- The occurrence of group `g`, if any, is no longer observed (R304). -/
def State.unobserve (s : State) (g : Nat) : State := s.modG g fun x => { x with occ := x.occ.map fun o => { o with observed := false } }
/-- The occurrence of group `g`, if any, is discarded without learning (R297). -/
def State.discardOcc (s : State) (g : Nat) : State :=
  if (s.g g).occ.isNone then s
  else ((s.modG g fun x => { x with occ := none }).inc .PR_DISCARDED g).wr .PR_CUR_TAG 0xFFFF g

/-! ### SRAM (R41, R525, R545) -/

/-- The SRAM codes of R525. -/
inductive Sram where
  | opTables | curves | thresholds | vscaleLeak | weights | praline | mailbox | audit | queues | fondant | events
  deriving DecidableEq, Repr

/-- The code of an SRAM. -/
def Sram.code (k : Sram) : Nat := k.ctorIdx

/-- A flipped word of SRAM `k`, element `el`, word `w`. -/
def State.flipAt (s : State) (k : Sram) (el w : Nat) : Option Flip :=
  s.inj.flips.find? fun x => x.code == k.code && x.element == el && x.word == w

/-- Ends the injection in progress with a result (R535): 1 APPLIED, 2 EXPIRED, 3 CANCELLED. -/
def State.endInjection (s : State) (result : Nat) : State :=
  let t := ({ s with inj := { s.inj with cur := none } }).wr .INJ_RESULT result |>.wr .INJ_ARM 0
  t.when (result == 1) fun u =>
    ({ u with flt := { u.flt with sumInjections := u.flt.sumInjections + 1 } }).inc .INJ_COUNT

/-- The injection in progress is at point `p`. -/
def State.injAt (s : State) (p : Nat) : Option Inj := s.inj.cur.filter fun x => x.point == p

/-- Reads word `w` of an SRAM: a flipped word is counted, a single bit is corrected and written back, and the
answer says whether the word was uncorrectable.  The injection that flipped it has then been applied. -/
def State.sramRead (s : State) (k : Sram) (el w : Nat) : Bool × State :=
  match s.flipAt k el w with
  | none => (false, s)
  | some x =>
    let s1 := { s with inj := { s.inj with flips := s.inj.flips.erase x } }
    let s2 := if x.two then s1.inc .SRAM_UE 0 k.code else s1.inc .SRAM_CE 0 k.code
    let s3 := if (s2.injAt 8).isSome then s2.endInjection 1 else s2
    (x.two, s3)

/-- The outcome of an uncorrectable word: a job fault in SRAMs 0 to 3, an event in SRAMs 4 to 10 (R525). -/
def State.sramLost (s : State) (k : Sram) (unit elem : Nat) : State :=
  if k.code ≤ 3 then s.raiseFault .sramUe unit elem k.code true
  else s.event 0x33 elem k.code true

/-- The SRAM of a code. -/
def Sram.ofCode (c : Nat) : Sram :=
  [Sram.opTables, .curves, .thresholds, .vscaleLeak, .weights, .praline, .mailbox, .audit, .queues, .fondant, .events].getD c
    .opTables

/-- Reads the flipped words that `sel` picks: whether one was uncorrectable, and the state after the outcomes of those that
were. -/
def State.readFlips (s : State) (sel : Flip → Bool) (lost : State → Flip → State) : Bool × State :=
  let l := s.inj.flips.filter sel
  (l.any (·.two), s.each l fun t x =>
    let p := t.sramRead (Sram.ofCode x.code) x.element x.word
    p.2.when p.1 fun u => lost u x)

/-- Flipped word `x` is one of `n` words from `w` on of element `el` of SRAM `k`. -/
def Flip.isIn (x : Flip) (k : Sram) (el w n : Nat) : Bool :=
  x.code == k.code && x.element == el && decide (w ≤ x.word ∧ x.word < w + n)

/-- The storage word `base` of SRAM `k` has been consumed: the flipped words of the 15 places behind it stand one place nearer the
head (R545). -/
def State.shiftWords (s : State) (k : Sram) (base : Nat) : State :=
  { s with inj := { s.inj with flips := s.inj.flips.map fun x =>
    if x.code == k.code && decide (base < x.word ∧ x.word < base + 16) then { x with word := x.word - 1 } else x } }

/-- The request at the head of port queue `q` is read: 0 the host port, 1 the field bus's admitted requests, 2 its BUSY answers,
3 the engine port.  An uncorrectable word is logged, and its request is to be answered INTERNAL (R41, R545). -/
def State.queueRead (s : State) (q : Nat) : Bool × State :=
  let p := s.sramRead .queues 0 (16 * q)
  (p.1, (p.2.shiftWords .queues (16 * q)).when p.1 fun t => t.sramLost .queues 3 0)

end Sys2Proof.Machine
end

