-- ==== Sys2Proof/Machine/Lanes.lean ====
section
/-! DEFINITION. The lanes of the boundary crossing cells: slots, valid bits, queue pointers and link outputs, and what one
cycle of the sending and of the receiving region does to them (R117, R148 to R151, R153, R156). -/

set_option Elab.async false

namespace Sys2Proof.Machine
open Sys2Proof

/-! ### Lanes of a cell -/

/-- The number of a lane of an edge: two for each of its cells, bulk and priority. -/
def laneKey (cell : Nat) (prio : Bool) : Nat := 2 * cell + prio.toNat

/-- Lane `i` of an edge. -/
def Cell.lane (k : Cell) (i : Nat) : XLane := Tab.get k.lanes i {}

/-- Lane `i` of an edge changed. -/
def Cell.modLane (k : Cell) (i : Nat) (f : XLane → XLane) : Cell := { k with lanes := Tab.set k.lanes i (f (k.lane i)) {} }

/-- Every lane of an edge changed; a lane that stands at its default is one that `f` leaves. -/
def Cell.eachLane (k : Cell) (f : XLane → XLane) : Cell := k.lanes.foldl (fun c x => c.modLane x.1 f) k

/-- The width in bits of lane `i` of the cells from region `n`'s edge `e` inward: WB or WP (R148). -/
def State.laneBits (s : State) (n e i : Nat) : Nat :=
  16 * clampNat 1 (if i % 2 = 1 then 8 else 32) (Tab.get s.build.laneWidth (512 * (4 * n + e) + i) 1)

/-- The write half stops: ready 0 (R155). -/
def XLane.stopWrite (x : XLane) : XLane := { x with rdy := false }
/-- The read half stops: valid 0 (R155). -/
def XLane.stopRead (x : XLane) : XLane := { x with vld := false }
/-- The read half clears every slot's valid bit (R155); the word of an invalid slot is never presented. -/
def XLane.clear (x : XLane) : XLane := { x with slots := [] }
/-- The write half's queue pointer set to 0 (R155). -/
def XLane.zeroWrite (x : XLane) : XLane := { x with wq := 0, wseen := [] }
/-- The read half's queue pointer set to 0 (R155). -/
def XLane.zeroRead (x : XLane) : XLane := { x with rq := 0, rseen := [] }
/-- The words written and never presented valid since the previous resync (R156). -/
def XLane.lost (x : XLane) : Nat := x.written - x.presented
/-- The counts of R156 start anew. -/
def XLane.recount (x : XLane) : XLane := { x with written := 0, presented := 0 }

/-- The words that a resync of the edge's cells loses (R156). -/
def Cell.lost (k : Cell) : Nat := sumOf (k.lanes.map fun x => x.2.lost)

/-- A count as a half sees the other's through its synchroniser: its value two samples before the newest, so that a change
is seen 2 to 3 of its cycles later (R150, R155, R165; DESIGN CHOICE, log 85). -/
def syncView (seen : List Nat) : Nat := seen.getD 2 0

/-- One sender cycle of a lane (R117, R150): `offer` is the word at the write half, if its valid bit is 1.  TETHERED writes
the slot of the pointer with the valid bit; DECOUPLED takes the word while the write half's view of the occupancy is below
16. -/
def XLane.send (mode : XMode) (ptr : Nat) (offer : Option Nat) (x : XLane) : XLane :=
  match mode with
  | .fenced => { x with rdy := false }
  | .tethered =>
    { x with
      rdy := true
      slots := Tab.set x.slots (ptr % 16) (offer.isSome, offer.getD 0) (false, 0)
      written := x.written + offer.isSome.toNat }
  | .decoupled =>
    let seen := (x.rq :: x.wseen).take 3
    let ready := decide (x.wq - syncView seen < 16)
    match offer, ready with
    | some w, true =>
      { x with
        rdy := true
        wseen := seen
        slots := Tab.set x.slots (x.wq % 16) (true, w) (false, 0)
        wq := x.wq + 1
        written := x.written + 1 }
    | _, _ => { x with rdy := ready, wseen := seen }

/-- One receiver cycle of a lane (R117, R150): TETHERED presents the slot of the pointer; DECOUPLED presents the head, which
is consumed where the receiver takes it.  While valid is 0 the data output keeps the last word presented (DESIGN CHOICE: R150 says
nothing of it, log 98). -/
def XLane.recv (mode : XMode) (ptr : Nat) (take : Bool) (x : XLane) : XLane :=
  match mode with
  | .fenced => { x with vld := false }
  | .tethered =>
    let w := Tab.get x.slots (ptr % 16) (false, 0)
    { x with
      vld := w.1
      data := if w.1 then w.2 else x.data
      presented := x.presented + w.1.toNat }
  | .decoupled =>
    let seen := (x.wq :: x.rseen).take 3
    if x.rq < syncView seen then
      { x with
        rseen := seen
        vld := true
        data := (Tab.get x.slots (x.rq % 16) (false, 0)).2
        presented := max x.presented (x.rq + 1)
        rq := if take then x.rq + 1 else x.rq }
    else { x with rseen := seen, vld := false }

/-- The slot pointer of a half over one cycle of its region (R117, R153): it advances by 1, or takes the load that has come
down its path. -/
def Half.advance (h : Half) : Half :=
  match h.load with
  | some (k, v) => if k ≤ 1 then { h with ptr := v, load := none } else { h with ptr := (h.ptr + 1) % 16, load := some (k - 1, v) }
  | none => { h with ptr := (h.ptr + 1) % 16 }

/-- The mode in which a half moves words: none during a resync (R155). -/
def Half.flow (h : Half) : XMode := if h.busy || h.req then .fenced else h.mode

/-! ### One cycle of a region -/

/-- The word that region `n` offers on lane `i` of edge `e`. -/
def offerOn (l : List XWord) (e i : Nat) : Option Nat := (l.find? fun w => w.edge == e && laneKey w.cell w.prio == i).map (·.data)

/-- The receiver takes from lane `i` of edge `e`. -/
def takesFrom (l : List XTake) (e i : Nat) : Bool := l.any fun w => w.edge == e && laneKey w.cell w.prio == i

/-- The lanes of the cells on edge `e` of region `n`. -/
def State.lanesOf (s : State) (n e : Nat) : List Nat := List.range (2 * s.rd .LINKS n e)

/-- The read halves of region `n` on edge `e` over one of its cycles. -/
def State.recvEdge (s : State) (n e : Nat) (takes : List XTake) : State :=
  s.modC n e fun k =>
    let h := k.rd.advance
    (s.lanesOf n e).foldl (fun k i => k.modLane i fun x => x.recv h.flow h.ptr (takesFrom takes e i)) { k with rd := h }

/-- The write halves of a region on its edge `e`, toward region `m`, over one cycle of the region. -/
def State.sendEdge (s : State) (e m : Nat) (words : List XWord) : State :=
  s.modC m ((e + 2) % 4) fun k =>
    let h := k.wr.advance
    (s.lanesOf m ((e + 2) % 4)).foldl (fun k i =>
      k.modLane i fun x => x.send h.flow h.ptr ((offerOn words e i).map (· % 2 ^ s.laneBits m ((e + 2) % 4) i)))
      { k with wr := h }

/-- The crossing cells of region `n` over one of its cycles: what its read halves present, then what its write halves take. -/
def State.moveWords (s : State) (n : Nat) (words : List XWord) (takes : List XTake) : State :=
  s.each edges fun t e => match t.neighbour n e with
    | some m => (t.recvEdge n e takes).sendEdge e m words
    | none => t

end Sys2Proof.Machine
end

