-- ==== Sys2Proof/Machine/Osc.lean ====
section
/-! DEFINITION. The Adaptive Oscillator of a region: calibration curve, seed and permitted maximum (R79 to R81,
R86), the FLL (R74 to R78), headroom (R87), v_need (R179), aging (R88 to R92), and starting a region (R93).
Frequencies of the curve are exact: in units of 0.1 MHz times the denominators of R80. -/

set_option Elab.async false

namespace Sys2Proof.Machine
open Sys2Proof

/-! ### Bits of OSC_STATUS (R96) -/

/-- The bits of OSC_STATUS. -/
inductive OscBit where
  | running | counting | locked | seed | ceiling | floor | hold | ageDue | startFail
  deriving DecidableEq, Repr

/-- Bit of OSC_STATUS of region `n`. -/
def State.osc (s : State) (n : Nat) (b : OscBit) : Bool := s.flag .OSC_STATUS b.ctorIdx n
/-- Bit of OSC_STATUS of region `n` set. -/
def State.setOsc (s : State) (n : Nat) (b : OscBit) (v : Bool) : State := s.setFlag .OSC_STATUS b.ctorIdx v n
/-- RGN_CK[n] is driven. -/
def State.clocked (s : State) (n : Nat) : Bool := s.osc n .running

/-! ### Temperature (R233) -/

/-- The valid thermal readings of a list of regions. -/
def State.tempsOf (s : State) (ns : List Nat) : List Int :=
  ns.flatMap fun n => ((List.range (s.rd .TS_COUNT n)).filterMap fun i =>
    if (s.tsOf n i).failed || !s.routerOn n then none else (s.tsOf n i).value)

/-- The region temperature in 0.25 °C, and whether it is the fallback: the mean of the region's valid sensors, else
of its field's, else 110 °C. -/
def State.temp (s : State) (n : Nat) : Int × Bool :=
  let own := s.tempsOf [n]
  if own ≠ [] then (divOpen 1 (sumInt own) own.length, false)
  else
    let others := s.tempsOf ((s.fieldRegions (fieldOf n)).filter (· != n))
    if others ≠ [] then (divOpen 1 (sumInt others) others.length, true) else (440, true)

/-! ### Calibration curve (R79, R80) -/

/-- A 16-bit field of a curve. -/
def curve16 (cv off : Nat) : Nat := bytesAt cv off 2
/-- VCODE of point `p` of a curve. -/
def vcode (cv p : Nat) : Nat := curve16 cv (8 + 136 * p)
/-- The lower of the two points of a curve used at voltage `v`: those that bracket it, or the nearest two. -/
def curvePoint (cv v : Nat) : Nat :=
  let pts := clampNat 2 8 (bytesAt cv 1 1)
  maxOf ((List.range (pts - 1)).filter fun p => vcode cv p ≤ v)

/-- A segment of a curve at one voltage and temperature: the curve, denominator of the voltage weight, its numerator,
the temperature factor over 4,000,000, and the byte offsets of the two points. -/
structure Seg where
  curve : Nat
  den : Int
  num : Int
  k : Int
  p0 : Nat
  p1 : Nat
  deriving DecidableEq, Repr

/-- The segment of a curve at voltage `v` and temperature `t`. -/
def segOf (cv v : Nat) (t : Int) : Seg :=
  let p := curvePoint cv v
  let v0 := vcode cv p
  let v1 := vcode cv (p + 1)
  { curve := cv, den := (v1 : Int) - v0, num := (v : Int) - v0,
    k := 4000000 + toInt 16 (curve16 cv 4) * (t - toInt 16 (curve16 cv 2)),
    p0 := 8 + 136 * p, p1 := 8 + 136 * (p + 1) }

/-- The segment of region `n` at voltage `v` and temperature `t`, by the curve as written. -/
def State.seg (s : State) (n v : Nat) (t : Int) : Seg := segOf (s.rd .CAL_CURVE n) v t

/-- The unit of `freqAt`: 0.1 MHz divided by this. -/
def Seg.unit (g : Seg) : Int := g.den * 4000000

/-- F[c] of R80, times `Seg.unit`. -/
def Seg.freqAt (g : Seg) (c : Nat) : Int :=
  let f0 : Int := curve16 g.curve (g.p0 + 4 + 2 * c)
  let f1 : Int := curve16 g.curve (g.p1 + 4 + 2 * c)
  g.k * (f0 * g.den + g.num * (f1 - f0))

/-- 16 F(x) of R80 for a code `x`, times `Seg.unit`. -/
def Seg.freq16 (g : Seg) (x : Nat) : Int :=
  let a := g.freqAt (x / 16)
  let b := g.freqAt (x / 16 + 1)
  16 * a + (x % 16 : Nat) * (b - a)

/-- `ceil` of R80, held inside the code range. -/
def Seg.ceilCode (g : Seg) : Nat :=
  let c0 : Int := curve16 g.curve (g.p0 + 2)
  let c1 : Int := curve16 g.curve (g.p1 + 2)
  (clampInt 0 1023 (divAt 2 (c0 * g.den + g.num * (c1 - c0)) g.den)).toNat

/-- The guard band g of R80, over 10,000, plus 10,000. -/
def State.guard (s : State) (n : Nat) : Int := (10000 + s.rd .GUARD_BASE + s.rd .AGE_GUARD n : Nat)

/-- permit_max of R80: the largest code whose frequency keeps the guard band, 0 when none does. -/
def State.permitMax (s : State) (n : Nat) (g : Seg) : Nat :=
  let lim := g.freq16 g.ceilCode * 10000
  let k := s.guard n
  let fits (a b : Int) (j : Nat) : Bool := decide ((16 * a + (j : Int) * (b - a)) * k ≤ lim)
  let row (c : Nat) : Option Nat :=
    let a := g.freqAt c
    let b := g.freqAt (c + 1)
    ((List.range 16).reverse.find? (fits a b)).map (16 * c + ·)
  ((List.range 64).reverse.findSome? row).getD 0

/-- The seed of R80 without CAL_OFFSET, before the clamp: 16c + fine. -/
def Seg.seedBase (g : Seg) (ratio : Nat) : Int :=
  let ft : Int := ratio * 125 * g.unit
  let c := maxOf ((List.range 64).filter fun c => decide (8 * g.freqAt c ≤ ft))
  let a := g.freqAt c
  let b := g.freqAt (c + 1)
  16 * c + min 15 (divAt 3 (2 * (ft - 8 * a)) (b - a))

/-- CAL_OFFSET / 16 rounded, halves away from zero. -/
def roundOffset (z : Int) : Int := if z < 0 then -(Int.fdiv (-z + 8) 16) else Int.fdiv (z + 8) 16

/-- The segment at the voltage and temperature in force. -/
def State.segNow (s : State) (n : Nat) : Seg := s.seg n (s.rd .FIELD_VOLT (fieldOf n)) (s.temp n).1

/-- The segment of a seed: the curve that the agent has taken, for a curve written governs the seeds only from the end
of the next gate (R86). -/
def State.segSeed (s : State) (n : Nat) : Seg :=
  segOf ((s.r n).curveOld.getD (s.rd .CAL_CURVE n)) (s.rd .FIELD_VOLT (fieldOf n)) (s.temp n).1

/-- The seed of R80 for a ratio, within the permitted maximum in force (R86). -/
def State.seedFor (s : State) (n ratio : Nat) : Nat :=
  (clampInt 0 (s.rd .OSC_PERMIT_MAX n) ((s.segSeed n).seedBase ratio + roundOffset (s.rdInt .CAL_OFFSET n))).toNat

/-- A new curve of region `n` has been accepted: until a gate ends, seeds follow the one before it, and the mean of the next
headroom report begins anew with it (R86). -/
def State.holdCurve (s : State) (n old : Nat) : State :=
  s.modR n fun r => { r with curveOld := some (r.curveOld.getD old), ceilSum := 0, ceilCount := 0 }

/-- The index of the S class of R99 for a ratio: 0 for S = 2 up to 3 for S = 16. -/
def sClassOf (ratio : Nat) : Nat := if ratio ≥ 1280 then 0 else if ratio ≥ 640 then 1 else if ratio ≥ 320 then 2 else 3

/-- Loads the seed for a ratio (R81): accumulator with fraction 0, SEED set, LOCKED left, gate discarded; the agent
changes S with it (R99).  CEILING and FLOOR change at the ends of gates only (R74), so the load leaves them.  The
residue of the sigma-delta modulator starts anew (DESIGN CHOICE: R75 says nothing of it, log 63). -/
def State.loadSeed (s : State) (n ratio : Nat) : State :=
  let code := s.seedFor n ratio
  let s1 := s.modR n fun r => { r with
    acc := 64 * code, gateDiscard := true, gateErrs := [], gatesSince := 0,
    sdAcc := 0, sClass := sClassOf ratio,
    unlockAt := if s.osc n .locked then some s.up else r.unlockAt,
    unlockCounted := if s.osc n .locked then false else r.unlockCounted }
  let s2 := (s1.setOsc n .seed true).setOsc n .locked false
  (s2.wr .OSC_TARGET_N ratio n).wr .OSC_CODE code n

/-! ### Starting and stopping the clock (R93, R95) -/

/-- TETHER_STATUS of a region whose level is 0 and whose lead history is clear: LEAD_EDGE and FAULT stay (R128, R145). -/
def State.showNoTether (s : State) (n : Nat) : State := s.wr .TETHER_STATUS (bits (s.rd .TETHER_STATUS n) 0 3) n
/-- The tether objects of a region whose clock is held low. -/
def State.clearTether (s : State) (n : Nat) : State := (s.showNoTether n).each edges fun u e => u.wr .SLIP 0 n e

/-- The CTL runs from the internal oscillator and no reference is valid: holdover. -/
def State.inHoldover (s : State) : Bool := s.refs.holdSince.isSome && bits (s.rd .REF_STATUS) 4 2 == 0

/-- HOLD at a start of the clock (R78): set throughout holdover, kept where gates are still to be discarded. -/
def State.startHold (s : State) (n : Nat) : State :=
  let keep := s.inHoldover || (s.osc n .hold && (s.r n).holdGates != 0)
  (s.setOsc n .hold keep).modR n fun r => { r with
    holdGates := if s.inHoldover then 0 else r.holdGates, holdAt := if keep then some s.up else none }

/-- Drives RGN_CK[n] at the seed for a ratio with the count held at 0 (R93).  The permitted maximum of the first gate is
that of R80 at this moment, and the objects of the tether start clear. -/
def State.startRegion (s : State) (n ratio : Nat) : State :=
  let s0 := ((s.wr .OSC_PERMIT_MAX (s.permitMax n (s.segNow n)) n).modR n fun r => { r with curveOld := none }).startHold n
  let s1 := ((s0.clearTether n).loadSeed n ratio).setOsc n .running true
  let s2 := ((s1.setOsc n .counting false).setOsc n .startFail false).wr .REGION_COUNT 0 n
  s2.modR n fun r => { r with
    startAt := some s.up, markSeen := false, gateCycles := 0, gateEighths := 0,
    last1 := 0, last2 := 0, last3 := 0, last4 := 0, asked := 0, runDepth := 0, runLeft := 0, tripDepth := 0, tripMask := 0,
    stuckTime := [],
    leadHist := [], level := 0, dwell := 0, calm := 0, slip1 := [], slip2 := [], quiet := 0, tag := {}, nbTags := [],
    slipFaulted := 0, injTrips := 0, injSlips := 0, change := none, park := none, nextPark := none, tripStop := false, timeValid := false, captures := [], timeRem := 0, timeDebt := 0,
    bank := s.rd .TETHER_BANK, escDwell := s.rd .TETHER_ESC_DWELL, unlockAt := some s.up, unlockCounted := false }

/-- Holds RGN_CK[n] low.  No gate ends while it is low, so CEILING, FLOOR and SEED end with it, and the 10 ms of R77 with
CEILING (DESIGN CHOICE: the spec does not say how they read then, log 63). -/
def State.stopClock (s : State) (n : Nat) : State :=
  let t := ((((s.setOsc n .running false).setOsc n .locked false).setOsc n .ceiling false).setOsc n .floor false).setOsc n .seed false
  ((t.setFlag .DS_STATUS 1 false n).clearTether n).modR n fun r => { r with
    startAt := none, unlockAt := none, ceilAt := none, ceilLogged := false,
    leadHist := [], level := 0, dwell := 0, gateDiscard := true, runDepth := 0, runLeft := 0, tripDepth := 0, tripMask := 0 }

/-- Releases a held count at REF_MARK (R93). -/
def State.releaseCount (s : State) (n : Nat) : State :=
  ((s.setOsc n .counting true).wr .REGION_COUNT 0 n).modR n fun r => { r with markSeen := false }

/-! ### The FLL (R74 to R78) -/

/-- HOLD set in region `n` (R78, R205): the gate in progress is discarded, timers that HOLD pauses stop. -/
def State.holdFll (s : State) (n gates : Nat) : State :=
  let was := s.osc n .hold
  (s.setOsc n .hold true).modR n fun r => { r with
    gateDiscard := true, holdGates := gates,
    holdAt := if was then r.holdAt else some s.up }

/-- HOLD cleared: the paused timers resume (R512). -/
def State.unholdFll (s : State) (n : Nat) : State :=
  (s.setOsc n .hold false).modR n fun r =>
    let d := s.up - r.holdAt.getD s.up
    { r with holdGates := 0, holdAt := none, startAt := r.startAt.map (· + d) }

/-- LOCKED left or entered, with the unlock episode of R77. -/
def State.setLocked (s : State) (n : Nat) (v : Bool) : State :=
  if v then (s.setOsc n .locked true).modR n fun r => { r with startAt := none, unlockAt := none, unlockCounted := false }
  else if s.osc n .locked then (s.setOsc n .locked false).modR n fun r => { r with unlockAt := some s.up, unlockCounted := false }
  else s

/-- The 640 ns of a gate enter OSC_CEILING_TIME (R96). -/
def State.ceilingTime (s : State) (n : Nat) : State :=
  let ns := (s.r n).ceilNs + 640
  (s.modR n fun r => { r with ceilNs := ns % 1000 }).add .OSC_CEILING_TIME (ns / 1000) n

/-- The end of a gate in region `n` (R74, R76, R78, R81, R86).  CEILING stands through a discarded gate, whose time counts. -/
def State.gateEnd (s : State) (n : Nat) : State :=
  let r := s.r n
  let pmax := s.permitMax n (s.segNow n)
  let g := s.segNow n
  let s0 := (s.wr .OSC_PERMIT_MAX pmax n).modR n fun r => { r with
    gateCycles := 0, gateEighths := 0, curveOld := none,
    gateDiscard := false, acc := min r.acc (64 * pmax) }
  if r.gateDiscard then s0.when (s.osc n .ceiling) fun t => t.ceilingTime n
  else
    let tgt := s.rd .OSC_TARGET_N n
    let m := 8 * r.gateCycles + r.gateEighths
    let e : Int := (8 * tgt : Nat) - (m : Int)
    let acc0 := min r.acc (64 * pmax)
    let hold := s.osc n .hold
    let code := acc0 / 64
    let dF := g.freqAt (code / 16 + 1) - g.freqAt (code / 16)
    let step := divOpen 4 (s.rd .FLL_GAIN * e * g.freq16 code) (32 * tgt * dF)
    let acc1 := if hold then acc0 else (clampInt 0 (64 * pmax : Nat) (acc0 + step)).toNat
    let ceiling := acc1 == 64 * pmax && decide (e > 0)
    let floor := acc1 == 0 && decide (e < 0)
    let errs := (e.natAbs :: r.gateErrs).take 8
    let since := min 8 (r.gatesSince + 1)
    let sum := sumOf errs
    let lock := since == 8 && decide (sum * 1000000 ≤ s.rd .LOCK_TOL * 64 * tgt) && !ceiling && !floor
    let unlock := decide (s.rd .UNLOCK_TOL * 64 * tgt < sum * 1000000 ∧ since = 8) || ceiling || floor
    let locked := if s.osc n .locked then !unlock else lock
    let fc := divOpen 5 (g.freq16 g.ceilCode * 100000) (16 * g.unit)
    let s1 := s0.modR n fun r => { r with
      acc := acc1, gateErrs := errs, gatesSince := since,
      epsByN := (tgt, e) :: r.epsByN, mSum := r.mSum + m, gateCount := r.gateCount + 1,
      ceilSum := r.ceilSum + fc.toNat, ceilCount := r.ceilCount + 1,
      ceilAt := if ceiling then some (r.ceilAt.getD s.up) else none,
      ceilLogged := ceiling && r.ceilLogged }
    let s2 := (((s1.setOsc n .ceiling ceiling).setOsc n .floor floor).setOsc n .seed false).when ceiling fun t => t.ceilingTime n
    let s3 := s2.setLocked n locked
    if hold && r.holdGates == 1 then s3.unholdFll n
    else if hold then s3.modR n fun r => { r with holdGates := r.holdGates - 1 }
    else s3

/-- A sigma-delta slot (R75): the integer code, or the code plus 1 unless the code is the permitted maximum. -/
def State.sigmaDelta (s : State) (n : Nat) : State :=
  let r := s.r n
  let code := r.acc / 64
  let a := r.sdAcc + r.acc % 64
  let up := decide (64 ≤ a) && code != s.rd .OSC_PERMIT_MAX n
  (s.wr .OSC_CODE (if up then code + 1 else code) n).modR n fun r => { r with sdAcc := a % 64 }

/-- The update of CAL_OFFSET of R84, against the seed that the agent would load now (R86). -/
def State.learnOffset (s : State) (n : Nat) : State :=
  let base := clampInt 0 (s.rd .OSC_PERMIT_MAX n) ((s.segSeed n).seedBase (s.rd .OSC_TARGET_N n))
  let a : Int := (s.r n).acc - 64 * base
  s.wrInt .CAL_OFFSET (clampInt (-256) 256 (nearestOpen 6 (60 * s.rdInt .CAL_OFFSET n + a) 64)) n

/-- Headroom of R87 in 0.01%, for a mean ceiling frequency of `sum / cnt` Hz. -/
def State.headroom (s : State) (n : Nat) (sum cnt : Nat) : Int :=
  let den : Int := cnt * (s.rd .OSC_TARGET_N n * 1562500) * s.guard n
  divOpen 7 (10000 * ((sum * 10000 : Nat) - den)) den

/-- The headroom report of R87, with the means of the last 1 ms (R96).  A headroom outside OSC_HEADROOM's type is held at its ends
(DESIGN CHOICE: R96 states saturation of OSC_LOOP_ERR only, log 91). -/
def State.headroomReport (s : State) (n : Nat) : State :=
  let r := s.r n
  let g := s.segNow n
  let fc := divOpen 5 (g.freq16 g.ceilCode * 100000) (16 * g.unit)
  let h := if r.ceilCount = 0 then s.headroom n fc.toNat 1 else s.headroom n r.ceilSum r.ceilCount
  let eps := ratSum (r.epsByN.map fun x => (x.2, ((8 * x.1 : Nat) : Int)))
  let s1 := s.wrSat .OSC_HEADROOM h n
  let s2 := s1.when (r.gateCount != 0) fun t =>
    (t.wr .OSC_FREQ_NAT (divOpen 8 (r.mSum * 1000000 : Nat) (5120 * r.gateCount : Nat)).toNat n).wrInt .OSC_LOOP_ERR
      (clampInt (-32767) 32767 (divOpen 9 (1000000 * eps.1) (eps.2 * r.gateCount))) n
  s2.modR n fun r => { r with epsByN := [], mSum := 0, gateCount := 0, ceilSum := 0, ceilCount := 0 }

/-! ### v_need (R179) -/

/-- F(ceil)/(1 + g) reaches the ratio at voltage code `v`. -/
def State.reaches (s : State) (n v ratio : Nat) : Bool :=
  let g := s.seg n v (s.temp n).1
  decide ((ratio : Int) * 125 * 2 * g.unit * s.guard n ≤ g.freq16 g.ceilCode * 10000)

/-- v_need of region `n` for a ratio: the lowest code that reaches it, 511 when none does. -/
def State.vNeed (s : State) (n ratio : Nat) : Nat := ((List.range 512).find? fun v => s.reaches n v ratio).getD 511

/-! ### Aging (R88 to R92) -/

/-- Brings AGE_POWERED_H of region `n` up to the present (R88): the µs since it was last brought up to date count where the
router sub-domain has been on, so each of its switchings is preceded by this count. -/
def State.countHours (s : State) (n : Nat) : State :=
  let r := s.r n
  let us := r.poweredUs + (if s.routerOn n then s.up - r.countedAt else 0)
  (s.add .AGE_POWERED_H (us / 3600000000) n).modR n fun r => { r with
    poweredUs := us % 3600000000,
    countedAt := s.up }

/-- AGE_GUARD of R91 from the two last degradations. -/
def State.ageGuard (s : State) (dLast dPrev : Nat) : Nat :=
  min (s.rd .AGING_GUARD_MAX) (divUp (s.rd .AGING_GAIN * (dLast + (dLast - dPrev))) 1600)

/-- The end of an aging sample that measured a ratio, Q1.15 (R89, R91). -/
def State.ageSampled (s : State) (n ratio : Nat) : State :=
  let s0 := s.countHours n
  let fac : Int := s.rd .AGE_RATIO_FACTORY n
  let d := (divOpen 10 (1000000 * (fac - ratio)) fac).toNat
  let prev := s.rd .AGE_DEGRADE_LAST n
  let s1 := ((s0.wr .AGE_DEGRADE_PREV prev n).wr .AGE_DEGRADE_LAST d n).wr .AGE_RATIO_LAST ratio n
  let s2 := (s1.wr .AGE_GUARD (s.ageGuard (d % 2 ^ 32) prev) n).wr .AGE_SAMPLE_H (s1.rd .AGE_POWERED_H n) n
  (s2.setOsc n .ageDue false).modR n fun r => { r with ageSampling := false }

end Sys2Proof.Machine
end

