-- ==== Sys2Proof/Machine/Stretch.lean ====
section
/-! DEFINITION. Droop sensing, the Stretch Engine, slip measurement, the tether and cause tags: what a Region Agent
does in each region cycle (R98 to R138), and parked holds (R109). -/

set_option Elab.async false

namespace Sys2Proof.Machine
open Sys2Proof

/-! ### Status words -/

/-- Bit `b` of DS_STATUS of region `n` set. -/
def State.setDs (s : State) (n b : Nat) (v : Bool) : State := s.setFlag .DS_STATUS b v n

/-! ### Droop sensors (R101, R102, R110 to R113) -/

/-- Sensor `i` of region `n` reads: present, enabled, and not behind the isolation of a core sub-domain that is off (R60).
The enables in force are those at the start of the run while one is in progress (R116). -/
def State.sensorOn (s : State) (n i : Nat) : Bool :=
  let en := if (s.r n).runDepth = 0 then s.rd .DS_ENABLE n else (s.r n).runEnable
  decide (i < s.rd .DS_COUNT n) && bit en i && (bit (s.rd .DS_ROUTER_MASK n) i || s.coreOn n)

/-- Sensor `i` of region `n` takes part in R102: it reads and is not quarantined. -/
def State.sensorActive (s : State) (n i : Nat) : Bool := s.sensorOn n i && !bit (s.rd .DS_QUARANTINE n) i

/-- The thresholds in force in region `n`: those at the start of the run while one is in progress (R116). -/
def State.thresholds (s : State) (n : Nat) : List Nat :=
  if (s.r n).runDepth = 0 then (List.range 8).map fun i => s.rd .DS_THRESH n i else (s.r n).runThresh

/-- The depth in eighths of a DEPTH field (R101). -/
def depthOf (d : Nat) : Nat := if d = 0 then 0 else if d = 1 then 1 else if d = 2 then 2 else 4

/-- The thresholds that a reading trips. -/
def trippedBy (ths : List Nat) (reading : Nat) : List Nat := ths.filter fun t => decide (reading < bits t 0 6)

/-- The deepest depth that a reading trips. -/
def tripDepthOf (ths : List Nat) (reading : Nat) : Nat :=
  maxOf ((trippedBy ths reading).map fun t => depthOf (bits t 8 2))

/-- A droop run begins at depth `d` (R102), with the thresholds, enables and run length of that moment (R116). -/
def State.beginRun (s : State) (n d : Nat) : State :=
  let ths := (List.range 8).map fun i => s.rd .DS_THRESH n i
  ((s.setDs n 1 true).inc .DS_TRIPS n).modR n fun r =>
    { r with runDepth := d, runLeft := s.rd .DS_RUN_LEN, runThresh := ths, runEnable := s.rd .DS_ENABLE n }

/-- The droop run of region `n` ends with no other begun. -/
def State.stopRun (s : State) (n : Nat) : State :=
  (s.setDs n 1 false).modR n fun r => { r with runDepth := 0, runLeft := 0 }

/-- The re-evaluation at the end of a run (R102). -/
def State.endRun (s : State) (n : Nat) : State :=
  if (s.r n).tripDepth = 0 then s.stopRun n else s.beginRun n (s.r n).tripDepth

/-- The reading that sensor `i` presents, and whether an injection forces it (R536). -/
def State.forcedReading (s : State) (n i reading : Nat) : Nat × Bool :=
  match s.injAt 1 with
  | some x => if x.element = n ∧ bits x.arg 0 4 = i then (bits x.arg 8 6, true) else (reading, false)
  | none => (reading, false)

/-- Quarantines sensor `i` of region `n` (R110, R537). -/
def State.quarantine (s : State) (n i : Nat) : State :=
  let injected := bit (s.r n).injTrips i
  let s1 := (s.setFlag .DS_QUARANTINE i true n).setDs n 3 true
  let s2 := (s1.when (!injected) fun t => t.inc .DS_STUCK_EVENTS).modR n fun r =>
    { r with stuckTime := r.stuckTime.del i, injQuar := setBit r.injQuar i injected }
  ((s2.when (!injected) fun t => t.dirtyNow .DS_QUARANTINE n).event 0x30 n i injected).markRuns [s.groupOf (fieldOf n)] 10

/-- Ends the quarantine of the sensors of `mask` in region `n` (R112): with the last one, STUCK and the share of the guard
step end. -/
def State.unquarantine (s : State) (n mask : Nat) : State :=
  let q := andNot (s.rd .DS_QUARANTINE n) mask
  (((s.wr .DS_QUARANTINE q n).setDs n 3 (q != 0)).when (q == 0) fun t => t.setDs n 4 false).modR n fun r =>
    { r with stuckTime := r.stuckTime.filter fun e => !bit mask e.1, injQuar := andNot r.injQuar mask }

/-- A write of DS_ENABLE of region `n` that removes the sensors of `mask` (R112, R116): their quarantine ends at once, and
what was quarantined does not return for the rest of a run. -/
def State.removeSensors (s : State) (n mask : Nat) : State :=
  let q := Nat.land (s.rd .DS_QUARANTINE n) mask
  (s.unquarantine n mask).modR n fun r => { r with runEnable := andNot r.runEnable q }

/-! ### Slip and the tether (R123 to R129) -/

/-- `z` reduced modulo 16 into −8 to 7. -/
def wrap16 (z : Int) : Int := (z + 8) % 16 - 8

/-- The count of region `n` minus its neighbour's on edge `e`, as the pointers show it (R124). -/
def State.slipSample (s : State) (n e : Nat) : Int :=
  match s.neighbour n e with
  | some m => wrap16 ((s.rd .REGION_COUNT n : Int) - (s.rd .REGION_COUNT m : Int))
  | none => 0

/-- Region `n` measures slip on edge `e`: its inbound cell is TETHERED (R123). -/
def State.measured (s : State) (n e : Nat) : Bool :=
  (s.neighbour n e).isSome && (s.c n e).rd.mode == .tethered

/-- The offset that an injection adds to m on edge `e` of region `n` (R536), none when it does not apply. -/
def State.slipOffset (s : State) (n e : Nat) : Option Int :=
  match s.injAt 5 with
  | some x => if x.element = n ∧ bits x.arg 0 2 = e ∧ s.measured n e then some (toInt 4 (bits x.arg 4 4)) else none
  | none => none

/-- The measured slip of R124 and R125 on edge `e`. -/
def State.slipM (s : State) (n e : Nat) (late : Bool) : Int :=
  let r := s.r n
  (if late then Tab.get r.slip1 e 0 else Tab.get r.slip2 e 0) + (s.slipOffset n e).getD 0

/-- The lead and the lead edge: the largest m, the first of N, E, S and W on a tie. -/
def leadOf (ms : List (Nat × Int)) : Option (Nat × Int) :=
  ms.foldl (fun best x => match best with
    | none => some x
    | some b => if b.2 < x.2 then some x else some b) none

/-- What the tether decides in one cycle: level, dwell, whether the lead rises. -/
structure Tether where
  level : Nat
  dwell : Nat
  rising : Bool
  deriving DecidableEq, Repr

/-- The tether level of R126.  `level++` at level 4 leaves 4, the last rung (DESIGN CHOICE: R126 names no depth for a level
5, log 67). -/
def tetherLevel (trim : Bool) (bankIn engageIn esc level dwell : Nat) (lead old : Int) : Tether :=
  let rising := decide (old < lead)
  let bank : Int := if trim then 0 else bankIn
  let engage : Int := if trim then 1 else engageIn
  if lead < engage then { level := 0, dwell := dwell, rising := rising }
  else if 4 ≤ lead then { level := 4, dwell := dwell, rising := rising }
  else if 0 < level ∧ rising = false ∧ lead ≤ bank then { level := 0, dwell := dwell, rising := rising }
  else if level = 0 ∧ rising = false then { level := 0, dwell := dwell, rising := rising }
  else
    let a : Nat × Nat :=
      if level = 0 then (1, 0)
      else if rising then (if esc ≤ dwell + 1 then (min 4 (level + 1), 0) else (level, dwell + 1))
      else (level, dwell)
    let b := if lead = 3 ∧ trim = false then max a.1 3 else a.1
    let c := if trim then min b 1 else b
    { level := c, dwell := a.2, rising := rising }

/-- The eighths of a tether level (R126). -/
def levelDepth (l : Nat) : Nat := if l = 0 then 0 else if l = 1 then 1 else if l = 2 then 2 else if l = 3 then 4 else 8

/-- The group of region `n` is in trim mode (R129). -/
def State.trimming (s : State) (n : Nat) : Bool := (s.g (s.groupOf (fieldOf n))).trim

/-- The slip and tether part of a region cycle: the new m of every measured edge, the samples shifted by one cycle,
the level, and the tether objects (R124 to R129, R145).  An edge whose m has fallen below 5 again may reach it anew (R132).
A region with no measured edge has lead 0 (DESIGN CHOICE: R126 gives the largest of none no value, log 93). -/
def State.tetherCycle (s : State) (n late : Nat) : State :=
  let r := s.r n
  let meas := edges.filter (s.measured n)
  let ms := meas.map fun e => (e, s.slipM n e (bit late e))
  let best := leadOf ms
  let lead := (best.map (·.2)).getD 0
  let edge := (best.map (·.1)).getD 0
  let bank := if r.level = 0 then s.rd .TETHER_BANK else r.bank
  let esc := if r.level = 0 then s.rd .TETHER_ESC_DWELL else r.escDwell
  let trim := s.trimming n
  let t := tetherLevel trim bank (s.rd .SLIP_ENGAGE) esc r.level r.dwell lead (r.leadHist.getD 3 0)
  let peak := maxOf (ms.map fun x => x.2.natAbs)
  let injected := (meas.filter fun e => (s.slipOffset n e).isSome)
  let s1 := s.each edges fun u e => u.wrInt .SLIP (if meas.contains e then s.slipM n e (bit late e) else 0) n e
  let s2 := s1.modR n fun r =>
    { r with
      level := t.level
      dwell := t.dwell
      bank := bank
      escDwell := esc
      leadHist := (lead :: r.leadHist).take 4
      slip2 := r.slip1
      slip1 := edges.foldl (fun a e => Tab.set a e (s.slipSample n e) 0) []
      slipPeak := max r.slipPeak peak
      injSlips := injected.foldl (fun a e => setBit a e true) 0
      slipFaulted := (ms.filter fun x => bit r.slipFaulted x.1 && decide (5 ≤ x.2.natAbs)).foldl (fun a x => setBit a x.1 true) 0
      calm := if peak ≤ 1 then min 64 (r.calm + 1) else 0 }
  let s3 := s2.when (t.level == 4 && r.level != 4) fun u => u.inc .TETHER_ENGAGES n
  let st := edge + (bits (s.rd .TETHER_STATUS n) 2 1) * 4 + (decide (t.level ≠ 0)).toNat * 8
    + t.rising.toNat * 16 + trim.toNat * 32 + levelDepth t.level * 256
  (s3.wr .TETHER_STATUS st n).when (injected != []) fun u => u.endInjection 1

/-! ### The Stretch Engine (R27, R28, R106) -/

/-- The largest permitted depth no greater than `x`. -/
def permitted (x : Nat) : Nat := ([8, 4, 2, 1].find? fun d => decide (d ≤ x)).getD 0

/-- The modulator of R271: the request and the accumulator left. -/
def capModulator (acc duty : Nat) : Nat × Nat :=
  let a := min 512 (acc + duty)
  let d := permitted (a / 64)
  (d, a - 64 * d)

/-- Who is charged with a stretched period (R28). -/
inductive Charge where
  | none | droop | tether | cap | floor
  deriving DecidableEq, Repr

/-- The decision of the Stretch Engine for one period: depth applied, requester charged, eighths refused (R27, R28,
R106), from the sum of the last three periods and the requests of droop, tether and fast cap loop. -/
def decideStretch (s3 droop tether cap : Nat) : Nat × Charge × Nat :=
  let d := permitted (min droop (24 - s3))
  let t := permitted (min tether (20 - s3))
  let c := permitted (min cap (20 - s3))
  let a := max d (max t c)
  let who : Charge := if a = 0 then .none else if d = a then .droop else if t = a then .tether else .cap
  (a, who, max droop (max tether cap) - a)

/-- The cause tag with its region named (R134). -/
def Tag.of (t : Tag) (own : Nat) : Tag := { t with region := some (t.region.getD own) }

/-- Adds eighths under a tag to a list of at most four; none when a fifth tag would be needed (R136). -/
def chargeTag (l : List (Tag × Nat)) (t : Tag) (d : Nat) : Option (List (Tag × Nat)) :=
  if l.any (fun x => x.1 == t) then some (l.map fun x => if x.1 == t then (x.1, x.2 + d) else x)
  else if l.length < 4 then some (l ++ [(t, d)]) else none

/-- The counters of one stretched period (R115). -/
def State.countStretch (s : State) (n d : Nat) (who : Charge) : State :=
  let s1 := if d = 0 then s else if d = 1 then s.addWrap .STRETCH_P8 1 n else if d = 2 then s.addWrap .STRETCH_P4 1 n
    else if d = 4 then s.addWrap .STRETCH_P2 1 n else s.addWrap .STRETCH_HOLDS 1 n
  match who with
  | .none => s1
  | .droop => s1.addWrap .STRETCH_E_DROOP d n
  | .tether => s1.addWrap .STRETCH_E_TETHER d n
  | .cap => s1.addWrap .STRETCH_E_CAP d n
  | .floor => s1.addWrap .STRETCH_E_FLOOR d n

/-- The window sums of one period (R136, R235). -/
def State.countWindow (s : State) (n d : Nat) (who : Charge) : State :=
  s.modE n fun x =>
    { x with
      eDroop := x.eDroop + (if who = .droop then d else 0)
      eTether := x.eTether + (if who = .tether then d else 0)
      eCap := x.eCap + (if who = .cap then d else 0)
      eFloor := x.eFloor + (if who = .floor then d else 0) }

/-- Eighths of a parked hold, charged to the window in progress: to a trip, or to floor throttle (R347). -/
def State.countHold (s : State) (n d : Nat) (thermal : Bool) : State :=
  s.modE n fun x => { x with eFloor := x.eFloor + (if thermal then 0 else d), eTherm := x.eTherm + (if thermal then d else 0) }

/-- Charges tether eighths to the tag in force on the lead edge (R136). -/
def State.chargeTether (s : State) (n d : Nat) (t : Tag) : State :=
  match chargeTag (s.r n).charges t d with
  | some l => s.modR n fun r => { r with charges := l }
  | none => (s.addWrap .TETHER_UNATTRIB d n).modE n fun x => { x with unattributed := x.unattributed + d }

/-- The tag after one period (R135). -/
def nextTag (own : Nat) (who : Charge) (lead old : Tag) : Tag :=
  match who with
  | .none => old
  | .droop => { cls := 1, region := some own }
  | .cap => { cls := 2, region := some own }
  | .floor => { cls := 3, region := some own }
  | .tether => lead

/-- The Stretch Engine's decision of depth `d`, charged to `who`, for the present period of region `n`: counters, window
sums, cause tag and the eighths of the FLL gate (R28, R73, R115, R135). -/
def State.chargePeriod (s : State) (n d : Nat) (who : Charge) : State :=
  let edge := bits (s.rd .TETHER_STATUS n) 0 2
  let lead := Tab.get (s.r n).nbTags edge { cls := 0, region := s.neighbour n edge }
  let s1 := (s.countStretch n d who).countWindow n d who
  let s2 := if who = .tether then s1.chargeTether n d lead else s1
  let s3 := s2.modR n fun r =>
    { r with
      quiet := if d = 0 then min 64 (r.quiet + 1) else 0
      tag := nextTag n who lead r.tag
      gateEighths := r.gateEighths + d
      tickDroop := r.tickDroop + (if who = .droop then d else 0) }
  s3.wr .DS_STATUS (setBits (s3.rd .DS_STATUS n) 8 4 d) n

/-- The stretch part of a region cycle: requests, decision, charge, tags and counters. -/
def State.stretchCycle (s : State) (n : Nat) : State :=
  let r := s.r n
  let q := s.rd .DS_QUARANTINE n
  let cap := capModulator r.dutyAcc r.duty
  let droop := max r.runDepth (if q = 0 then 0 else 1)
  let dec := decideStretch (r.last1 + r.last2 + r.last3) droop (levelDepth r.level) cap.1
  let d := dec.1
  ((s.addWrap .STRETCH_REFUSED dec.2.2 n).chargePeriod n d dec.2.1).modR n fun r =>
    { r with
      last1 := d
      last2 := r.last1
      last3 := r.last2
      last4 := r.last3
      asked := max droop (max (levelDepth r.level) cap.1)
      dutyAcc := cap.2
      runLeft := r.runLeft - 1
      tickCycles := r.tickCycles + 1 }

/-- A droop request of depth `x` that is decided while a half-cycle of the present, unstretched period still propagates
stretches that period (R103, R104): the depth that R106 permits, with the refused eighths of the period counted anew. -/
def State.stretchNow (s : State) (n x : Nat) : State :=
  let r := s.r n
  let d := permitted (min x (24 - (r.last2 + r.last3 + r.last4)))
  let s1 := s.wr .STRETCH_REFUSED (s.rd .STRETCH_REFUSED n + 2 ^ 64 + max x r.asked - (r.asked + d)) n
  (s1.when (d != 0) fun t => t.chargePeriod n d .droop).modR n fun r =>
    { r with last1 := d, asked := max x r.asked, runLeft := r.runLeft - 1 }

/-- One sample of the sensors of region `n` (R102, R115): the deepest depth that an active sensor trips begins or deepens a
run; the run's first period is the present one where the decision comes in time (DEDUCED from R103 and R104, log 73). -/
def State.sample (s : State) (n : Nat) (x : DsSample) : State :=
  let ths := s.thresholds n
  let seen := (x.readings.filter fun y => s.sensorOn n y.1).map fun y => (y.1, s.forcedReading n y.1 y.2)
  let act := seen.filter fun y => s.sensorActive n y.1
  let depth (y : Nat × Nat × Bool) : Nat := tripDepthOf ths y.2.1
  let d := maxOf (act.map depth)
  let any := act.any fun y => trippedBy ths y.2.1 != []
  let s1 := ((s.setDs n 0 (d != 0)).when (any && d == 0) fun t => t.inc .DS_COUNT_ONLY_TRIPS n).modR n fun r =>
    { r with
      minReading := seen.foldl (fun a y => min a y.2.1) r.minReading
      tripDepth := max r.tripDepth d
      tripMask := act.foldl (fun a y => setBit a y.1 (depth y != 0)) r.tripMask
      stuckTime := r.stuckTime.filter fun z => !(act.any fun y => y.1 == z.1 && depth y == 0)
      injTrips := act.foldl (fun a y => setBit a y.1 (depth y != 0 && (bit a y.1 || y.2.2))) r.injTrips }
  let r := s.r n
  if r.runDepth < d then (s1.beginRun n d).when (x.early && r.runDepth == 0 && r.last1 == 0) fun t => t.stretchNow n d
  else s1

/-! ### The rest of a region cycle -/

/-- The copies of the neighbours' tags (R135), refreshed in each cycle (DESIGN CHOICE: R135 asks for at most eight
cycles of age, log 12). -/
def State.copyTags (s : State) (n : Nat) : State :=
  let get (a : Tab Tag) (e : Nat) : Tab Tag := match s.neighbour n e with
    | some m => a.put e ((s.r m).tag.of m)
    | none => a
  s.modR n fun r => { r with nbTags := edges.foldl get [] }

/-- The advance of the region's time over a cycle of `dur` parts of 160 of a net period, expressed in units of the INC that the
agent was last told (R214); a negative correction is used up, with at least one unit left to the cycle (R215). -/
def State.advanceTime (s : State) (n dur : Nat) : State :=
  let r := s.r n
  let q := r.timeRem + dur * r.incUnits
  let u := q / incNominal
  let pay := min r.timeDebt (u - 1)
  (s.addWrap .REGION_TIME (u - pay) n).modR n fun r =>
    { r with timeRem := q % incNominal, timeDebt := r.timeDebt - pay }

/-- The trips of the period that ended: stuck timers of the sensors that tripped run by the region time of the period, the others
restart (R110, R113, R214).  A timer whose sensor takes no sample in a period starts anew with it (DESIGN CHOICE: R113 says only
that it does not run, log 92). -/
def State.endPeriod (s : State) (n dur : Nat) : State :=
  let s1 := s.modR n fun r =>
    { r with
      stuckTime := ((List.range 16).filter (bit r.tripMask)).foldl
        (fun a i => Tab.set a i (Tab.get r.stuckTime i 0 + dur * r.incUnits) 0) []
      tripMask := 0 }
  match s1.injAt 1 with
  | some x =>
    if x.element = n then
      if x.left ≤ 1 then s1.endInjection 1
      else { s1 with inj := { s1.inj with cur := some { x with left := x.left - 1 } } }
    else s1
  | none => s1

/-- The offers that the outbound cells of region `n` refuse in one cycle (R156): in FENCED mode, and from phase 1 of a resync
until the write half enters the target mode. -/
def State.refuseOffers (s : State) (n : Nat) (words : List XWord) : State :=
  let shut (e : Nat) : Bool := match s.neighbour n e with
    | none => false
    | some m =>
      let k := s.c m (opposite e)
      k.wr.mode == .fenced || k.wr.busy || k.rd.req
  s.addWrap .XING_REFUSED (words.filter fun w => shut w.edge).length n

/-- One cycle of a sweep that began at cycle t: lane a is asked for at cycle t + a, each lane once (R47). -/
def State.askLane (s : State) (n : Nat) : State :=
  s.when (s.ee n).sweeping fun t => t.modE n fun x =>
    let a := x.sweepCyc + 1
    let more := decide (a < s.rd .REGION_LANES n)
    { x with sweepCyc := a, actReq := more, actAddr := if more then a else 0 }

/-- The start of a region cycle (R119, R126, R128, R271): the period that ended is accounted for, the count
advances, slip is measured, the tether, the droop run and the modulator request, the Stretch Engine decides,
the crossing cells move the words of the cycle, and a sweep asks for its next lane.  A parked or stopped region has no cycle. -/
def State.cycle (s : State) (n : Nat) (io : CycleIn) : State :=
  let s1 := (s.endPeriod n io.dur).when (decide ((s.r n).runDepth ≠ 0 ∧ (s.r n).runLeft = 0)) fun t => t.endRun n
  let s2 := (s1.modR n fun r => { r with tripDepth := 0, gateCycles := r.gateCycles + 1 }).modE n fun x =>
    { x with cycles := x.cycles + 1 }
  let s3 := s2.when (s.osc n .counting) fun t => t.wr .REGION_COUNT ((s.rd .REGION_COUNT n + 1) % 2 ^ 48) n
  let s4 := s3.when (s.osc n .counting) fun t => t.advanceTime n io.dur
  (((((s4.copyTags n).tetherCycle n io.late).stretchCycle n).refuseOffers n io.words).moveWords n io.words io.takes).askLane n

/-! ### Parked holds (R109, R113, R128) -/

/-- A parked hold is given to region `n`: the next one while it is parked, else the one in place of any that waits; a park
count already passed is a late change (R25, R109, R277, R288). -/
def State.givePark (s : State) (n count release : Nat) (thermal : Bool) : State :=
  let p : Park := { count := count, release := release, thermal := thermal }
  if s.osc n .counting && passed (s.rd .REGION_COUNT n) count then
    s.raiseFault .lateChange 0 n 1
  else s.modR n fun r => if (r.park.map (·.parked)).getD false then { r with nextPark := some p } else { r with park := some p }

/-- The held edge: sampling stops, a droop run ends, the tether level and its history clear; an occurrence on the field's group is
no longer observed (R304). -/
def State.parkHold (s : State) (n : Nat) : State :=
  ((((s.unobserve (s.groupOf (fieldOf n))).setDs n 2 true).stopRun n).showNoTether n).modR n fun r =>
    { r with
      park := r.park.map fun p => { p with parked := true, since := s.rd .REGION_TIME n }
      level := 0
      dwell := 0
      leadHist := []
      tripDepth := 0
      tripMask := 0 }

/-- The eighths that a parked period of `dur` units is reported with: 8 for each whole target period (R109). -/
def parkEighths (dur ratio : Nat) : Nat := 8 * (dur * ratio / 10240)

/-- The end of a parked hold: the period is one held cycle, charged to floor throttle. -/
def State.parkEnd (s : State) (n : Nat) (p : Park) : State :=
  let dur := p.release - p.since
  let d := parkEighths dur (s.rd .OSC_TARGET_N n)
  let s1 := ((((s.setDs n 2 false).addWrap .STRETCH_HOLDS 1 n).addWrap .STRETCH_E_FLOOR d n).addWrap .REGION_TIME dur n)
  let s2 := (s1.countHold n (d - p.charged) p.thermal).modR n fun r =>
    { r with
      park := r.nextPark
      nextPark := none
      gateEighths := r.gateEighths + d
      quiet := 0
      tag := nextTag n .floor {} r.tag }
  s2.wr .DS_STATUS (setBits (s2.rd .DS_STATUS n) 8 4 8) n

/-- A park command or hold of region `n` ends as its clock stops: a hold in progress is counted as it stands, one by a trip among
them (R109, R282). -/
def State.unpark (s : State) (n : Nat) : State :=
  let t := match (s.r n).park.filter (·.parked) with
    | some p => s.parkEnd n { p with release := max p.since s.T }
    | none => s
  (t.setDs n 2 false).modR n fun r => { r with park := none, nextPark := none }

end Sys2Proof.Machine
end

