-- ==== Sys2Proof/Machine/Cross.lean ====
section
/-! DEFINITION. Boundary crossing cells: the four-phase resync, pointer loads and checks, fences, islands and the end
of trim (R140 to R162). -/

set_option Elab.async false

namespace Sys2Proof.Machine
open Sys2Proof

/-! ### The four-phase resync (R155 to R158) -/

/-- The half of a cell that `wr` names: the write half, in the neighbour, or the read half. -/
def Cell.half (k : Cell) (wr : Bool) : Half := if wr then k.wr else k.rd
/-- A half of a cell changed. -/
def Cell.withHalf (k : Cell) (wr : Bool) (h : Half) : Cell := if wr then { k with wr := h } else { k with rd := h }
/-- Neither half is in a resync. -/
def Cell.idle (k : Cell) : Bool := !k.rd.busy && !k.wr.busy && !k.rd.req && !k.wr.req

/-- A half stops writing or presenting: ready 0 or valid 0 on its lanes (R155). -/
def Cell.quiet (k : Cell) (wr : Bool) : Cell := k.eachLane (if wr then XLane.stopWrite else XLane.stopRead)

/-- A half sets its pointers for the target mode: 0 for DECOUPLED, kept for TETHERED and FENCED (R155).  The read half
clears its slots with them: R155 says so of the responder, and the words are those that R156 discards (DEDUCED, log 65). -/
def Cell.settle (k : Cell) (wr : Bool) : Cell :=
  let k1 := if wr then k else k.eachLane XLane.clear
  if k.target = .decoupled then k1.eachLane (if wr then XLane.zeroWrite else XLane.zeroRead) else k1

/-- Phase 1 by the read half: a resync to `m`, or `m` waits behind the one in progress (R157). -/
def Cell.begin (k : Cell) (m : XMode) : Cell :=
  if k.idle then { (k.quiet false) with target := m, rd := { k.rd with req := true, busy := true } }
  else { k with waiting := some m }

/-- The read half takes its cell to mode `m`, unless the cell is there or on its way there. -/
def Cell.aim (k : Cell) (m : XMode) : Cell :=
  if k.idle then (if k.rd.mode = m ∧ k.wr.mode = m then k else k.begin m)
  else if k.waiting.getD k.target = m then k else k.begin m

/-- Phase 1 for a reset or clock stop of the half that `wr` names: the target is the mode in force, or the target of
the resync in progress (R155, R157). -/
def Cell.stopHalf (k : Cell) (wr : Bool) : Cell :=
  let k1 := if k.idle then { k with target := k.rd.mode } else k
  (k1.quiet wr).withHalf wr { (k1.half wr) with req := true, busy := true }

/-- Phase 2 at the half that `wr` names. -/
def Cell.reqSeen (k : Cell) (wr : Bool) : Cell :=
  let h := k.half wr
  if (k.half (!wr)).req && !h.ack then ((k.quiet wr).settle wr).withHalf wr { h with busy := true, ack := true } else k

/-- Phase 3 at the half that `wr` names. -/
def Cell.ackSeen (k : Cell) (wr : Bool) : Cell :=
  let h := k.half wr
  if h.req && (k.half (!wr)).ack then (k.settle wr).withHalf wr { h with req := false } else k

/-- The half enters the target mode, when its own and its partner's signals are all 0 (R157). -/
def Cell.enter (k : Cell) (wr : Bool) : Cell :=
  let h := k.half wr
  let p := k.half (!wr)
  if h.busy && !h.req && !h.ack && !p.req && !p.ack then k.withHalf wr { h with busy := false, mode := k.target } else k

/-- Phase 4 at the half that `wr` names: the responder lowers ACK and enters the target mode; the counts of words start
anew (R156). -/
def Cell.reqLowSeen (k : Cell) (wr : Bool) : Cell :=
  let h := k.half wr
  if h.ack && !(k.half (!wr)).req then ((k.eachLane XLane.recount).withHalf wr { h with ack := false }).enter wr else k

/-- The end at the half that `wr` names. -/
def Cell.ackLowSeen (k : Cell) (wr : Bool) : Cell := if (k.half (!wr)).ack then k else k.enter wr

/-- A resync has just ended: both halves are at rest; a waiting target begins the next (R157). -/
def Cell.next (k : Cell) : Cell :=
  match k.waiting with
  | some m => if k.idle then ({ k with waiting := none }).begin m else k
  | none => k

/-- Both halves put in a mode with no handshake: where the clock of one is held low until an arm, it can take no part in one
(DEDUCED from R51, R140 and R514, log 96). -/
def Cell.force (k : Cell) (m : XMode) : Cell :=
  { ((k.quiet true).quiet false) with
    rd := { mode := m, ptr := k.rd.ptr }, wr := { mode := m, ptr := k.wr.ptr }, target := m, waiting := none }

/-- The supply of the half that `wr` names goes off: isolation presents its REQ as 1 and its ACK as 0, and what it held is
lost; the slots are in the read half (R148, R157). -/
def Cell.isolate (k : Cell) (wr : Bool) : Cell :=
  { ((if wr then k.quiet true else { k with lanes := [] } : Cell).withHalf wr { req := true, busy := true, dark := true }) with
    target := .fenced, waiting := none }

/-- A half whose supply has returned resyncs with its partner (R157, R160): the resync that isolation held in phase 2 goes on to
the target `m`. -/
def Cell.rejoin (k : Cell) (m : XMode) : Cell :=
  let k1 := { k with target := m, waiting := none, rd := { k.rd with dark := false }, wr := { k.wr with dark := false } }
  (k1.settle true).settle false

/-- The cell goes to mode `m` between arms (R158 to R160). -/
def Cell.turn (k : Cell) (m : XMode) : Cell :=
  let k1 := { k with reopen := false }
  if k.rd.dark || k.wr.dark then k1.rejoin m else k1.aim m

/-- The supply of the half that `wr` names has returned, and its partner has none, or no clock: it stands FENCED, and a partner
that already answers its REQ completes that resync (R160). -/
def Cell.relit (k : Cell) (wr partnerOn : Bool) : Cell :=
  if (k.half wr).dark = false then k
  else if !partnerOn then k.withHalf wr { mode := .fenced, ptr := (k.half wr).ptr }
  else if (k.half (!wr)).busy then k.rejoin .fenced
  else k.force .fenced

/-- Both supplies of a cell are on at an arm, and a half still stands as isolation left it: the cell is as the halt leaves the
others, both halves with REQ and ACK (R157, R158). -/
def Cell.relitBoth (k : Cell) : Cell :=
  let h (x : Half) : Half := { x with mode := .fenced, req := true, ack := true, busy := true, dark := false }
  { k with rd := h k.rd, wr := h k.wr, target := .fenced, waiting := none }

/-- The cells of the edge of region `n`, inbound and outbound, as keys (region of the read half, its edge). -/
def State.edgeCells (s : State) (n e : Nat) : List (Nat × Nat) :=
  match s.neighbour n e with
  | some m => [(n, e), (m, opposite e)]
  | none => []

/-- Every cell of region `n`, inbound and outbound. -/
def State.cellsAt (s : State) (n : Nat) : List (Nat × Nat) := edges.flatMap (s.edgeCells n)

/-- Both regions of a cell are clocked. -/
def State.cellClocked (s : State) (n e : Nat) : Bool :=
  s.clocked n && (match s.neighbour n e with | some m => s.clocked m | none => false)

/-- The region whose clock the half that `wr` names runs on. -/
def State.halfRegion (s : State) (n e : Nat) (wr : Bool) : Nat := if wr then (s.neighbour n e).getD n else n

/-- One event of a resync of the inbound cell of region `n` on edge `e`, and the count of a completed resync. -/
def State.resync (s : State) (n e : Nat) (f : Cell → Cell) : State :=
  let k := f (s.c n e)
  let done := !(s.c n e).idle && k.idle
  (s.modC n e fun _ => if done then k.next else k).when done fun t => t.inc .XING_RESYNCS n

/-- The crossings of region `n` go to FENCED by a resync, or by the one that follows the one in progress (R51, R157, R158); a
crossing whose partner half has no supply is FENCED. -/
def State.fenceAll (s : State) (n : Nat) : State :=
  s.each (s.cellsAt n) fun t x => t.modC x.1 x.2 fun k => if k.rd.dark || k.wr.dark then k else k.aim .fenced

/-- Every crossing of region `n` that can resync is FENCED. -/
def State.allFenced (s : State) (n : Nat) : Bool :=
  (s.cellsAt n).all fun x => !s.cellClocked x.1 x.2 || ((s.c x.1 x.2).idle && (s.c x.1 x.2).rd.mode == .fenced)

/-- The halves of region `n` lose their supply behind isolation (R157). -/
def State.isolateCells (s : State) (n : Nat) : State :=
  s.each edges fun t e => match t.neighbour n e with
    | some m => (t.modC n e fun k => k.isolate false).modC m (opposite e) fun k => k.isolate true
    | none => t

/-! ### Fences (R159) -/

/-- Edge `e` of region `n` is fenced by either side's command. -/
def State.fenced (s : State) (n e : Nat) : Bool :=
  bit (s.rd .XING_FENCE n) e || (match s.neighbour n e with
    | some m => bit (s.rd .XING_FENCE m) (opposite e)
    | none => false)

/-- The crossings of region `n` whose fence was withdrawn while a clock stood resync into DECOUPLED where both regions are clocked
again, unless a fence command holds the edge (R158, R159). -/
def State.reopenCells (s : State) (n : Nat) : State :=
  s.each ((s.cellsAt n).filter fun x => s.cellClocked x.1 x.2 && !s.fenced x.1 x.2 && (s.c x.1 x.2).reopen) fun t x =>
    t.modC x.1 x.2 fun k => k.turn .decoupled

/-- The region that the half `wr` of a cell belongs to has its supply: its router sub-domain is powered. -/
def State.supplied (s : State) (n e : Nat) (wr : Bool) : Bool := s.routerOn (if wr then (s.neighbour n e).getD n else n)

/-- The crossings of region `n` after its return from OFF (R158, R160): DECOUPLED where the neighbour is clocked, FENCED where a
fence command holds the edge or the neighbour is not clocked. -/
def State.joinCells (s : State) (n : Nat) : State :=
  s.each (s.cellsAt n) fun t x => t.modC x.1 x.2 fun k =>
    if t.cellClocked x.1 x.2 then k.turn (if t.fenced x.1 x.2 then .fenced else .decoupled)
    else
      let wr := x.1 != n
      k.relit wr (t.supplied x.1 x.2 (!wr))

/-- Applies a change of XING_FENCE of region `n` from `old` to `new`.  An edge that the other side still fences stays FENCED
(DESIGN CHOICE: R159 does not say, log 66); a withdrawn fence waits for the clocks of both regions. -/
def State.applyFence (s : State) (n old new : Nat) : State :=
  (s.wr .XING_FENCE new n).each edges fun t e =>
    if bit old e == bit new e then t
    else t.each (t.edgeCells n e) fun u x =>
      if t.fenced n e then u.modC x.1 x.2 fun k =>
        if k.rd.dark || k.wr.dark then { k with reopen := false } else { k with reopen := false }.aim .fenced
      else u.modC x.1 x.2 fun k => if t.cellClocked n e then k.turn .decoupled else { k with reopen := true }

/-! ### Islands (R142, R143) -/

/-- Region `n` is joined to its neighbour on edge `e` by TETHERED crossings. -/
def State.joined (s : State) (n e : Nat) : Bool := (s.neighbour n e).isSome && (s.c n e).rd.mode == .tethered

/-- The neighbours joined to region `n` among `nodes`. -/
def State.joinedTo (s : State) (nodes : List Nat) (n : Nat) : List Nat :=
  (edges.filter (s.joined n)).filterMap fun e => (s.neighbour n e).filter nodes.contains

/-- Breadth-first levels from a frontier: the regions reached and the number of levels. -/
def State.reach (s : State) (nodes : List Nat) : Nat → List Nat → List Nat → Nat → List Nat × Nat
  | 0, seen, _, d => (seen, d)
  | fuel + 1, seen, front, d =>
    let next := ((front.flatMap (s.joinedTo nodes)).filter fun x => !seen.contains x).dedup
    if next = [] then (seen, d) else State.reach s nodes fuel (seen ++ next) next (d + 1)

/-- The islands of a set of regions in ascending order: anchor and diameter of each. -/
def State.islandsOf (s : State) (nodes : List Nat) : Nat → List Nat → List (Nat × Nat)
  | 0, _ => []
  | _ + 1, [] => []
  | fuel + 1, n :: rest =>
    let p := s.reach nodes nodes.length [n] [n] 0
    (n, p.2) :: State.islandsOf s nodes fuel (rest.filter fun x => !p.1.contains x)

/-- The clocked regions of group `g` (R143): present, not excluded, clocked and not detached. -/
def State.clockedRegions (s : State) (g : Nat) : List Nat :=
  (s.groupRegions g).filter fun n => s.clocked n && !s.on .REGION_DETACHED n

/-- The Conductor computes the islands of group `g` and their objects (R143). -/
def State.setIslands (s : State) (g : Nat) : State :=
  let nodes := s.clockedRegions g
  let l := s.islandsOf nodes nodes.length nodes
  ((s.modG g fun x => { x with islands := l, islandsDue := false }).wr .GROUP_ANCHOR (nodes.headD 0xFFFF) g).wr
    .GROUP_DIAMETER (maxOf (l.map (·.2))) g

/-- A crossing of region `n` has left TETHERED between arms: the islands of its group are due (R143). -/
def State.islandsDueAt (s : State) (n : Nat) : State :=
  let g := s.groupOf (fieldOf n)
  s.when (g != 0xFF) fun t => t.modG g fun x => { x with islandsDue := true }

/-! ### Commands -/

/-- The cell exists, and the half that `wr` names has a clock and takes part in resyncs. -/
def State.halfLive (s : State) (n e : Nat) (wr : Bool) : Bool :=
  decide (e < 4) && (s.neighbour n e).isSome && s.clocked (s.halfRegion n e wr) && !((s.c n e).half wr).dark

/-- The half that `wr` names has raised REQ for a clock stop that has not ended (R155, R176, R187). -/
def State.halfStopping (s : State) (n e : Nat) (wr : Bool) : Bool :=
  let m := s.halfRegion n e wr
  (s.r m).tripStop || match s.stop.cur with
    | some x => x.region == m && decide (x.order = 4 ∨ x.order = 5)
    | none => false

/-- The halves of region `n` whose partner half has its supply, as (region, edge, write half). -/
def State.ownHalves (s : State) (n : Nat) : List (Nat × Nat × Bool) :=
  (edges.flatMap fun e => match s.neighbour n e with
    | some m => [(n, e, false), (m, opposite e, true)]
    | none => []).filter fun x => !(s.c x.1 x.2.1).rd.dark && !(s.c x.1 x.2.1).wr.dark

/-- The halves of region `n` that take part in a stop of its clock: those of DECOUPLED cells (R187). -/
def State.stopHalves (s : State) (n : Nat) : List (Nat × Nat × Bool) :=
  (s.ownHalves n).filter fun x => (s.c x.1 x.2.1).rd.mode == .decoupled

/-- Every half of region `n` that takes part has its ACK. -/
def State.stopAcked (s : State) (n : Nat) : Bool := (s.stopHalves n).all fun h => ((s.c h.1 h.2.1).half (!h.2.2)).ack

/-- The agent raises REQ on every half that takes part. -/
def State.raiseReq (s : State) (n : Nat) : State :=
  s.each (s.stopHalves n) fun t x => t.modC x.1 x.2.1 fun k => k.stopHalf x.2.2

/-- The clock of a detached region that a thermal trip stops goes low with the last ACK (R176). -/
def State.endTripStop (s : State) (n : Nat) : State :=
  s.when ((s.r n).tripStop && s.clocked n && s.stopAcked n) fun t => t.stopClock n

/-- A thermal trip on the field of detached region `n` stops its clock through the resync of R155 (R176). -/
def State.tripStop (s : State) (n : Nat) : State :=
  (((s.modR n fun r => { r with tripStop := true }).raiseReq n).endTripStop n)

/-- RESYNC_REQ_SEEN (R155): phase 2 at a half whose clock runs. -/
def execResyncReqSeen (n e : Nat) (wr : Bool) (s : State) : Host.Outcome State Fault Refusal :=
  .next (s.when (s.halfLive n e wr) fun t => t.resync n e fun k => k.reqSeen wr)

/-- RESYNC_ACK_SEEN (R155): phase 3 at a half whose reset or clock stop has ended. -/
def execResyncAckSeen (n e : Nat) (wr : Bool) (s : State) : Host.Outcome State Fault Refusal :=
  .next (s.when (s.halfLive n e wr) fun t =>
    if t.halfStopping n e wr then t.endTripStop (t.halfRegion n e wr) else t.resync n e fun k => k.ackSeen wr)

/-- The responding half has seen REQ at 0. -/
def State.phase4 (s : State) (n e : Nat) (wr : Bool) : Bool := ((s.c n e).half wr).ack && !((s.c n e).half (!wr)).req

/-- RESYNC_REQ_LOW_SEEN (R155, R156): phase 4; the words lost since the last resync are counted. -/
def execResyncReqLowSeen (n e : Nat) (wr : Bool) (_u : Unit) (s : State) : Host.Outcome State Fault Refusal :=
  .next (s.when (s.halfLive n e wr && s.phase4 n e wr) fun t =>
    (t.addWrap .XING_DISCARD (t.c n e).lost n).resync n e fun k => k.reqLowSeen wr)

/-- RESYNC_ACK_LOW_SEEN (R155): the initiating half sees ACK at 0 and enters the target mode.  Where the crossing has left
TETHERED outside an alignment, the islands of its group are due (R143). -/
def execResyncAckLowSeen (n e : Nat) (wr : Bool) (s : State) : Host.Outcome State Fault Refusal :=
  .next (s.when (s.halfLive n e wr) fun t =>
    let was := t.joined n e
    let u := t.resync n e fun k => k.ackLowSeen wr
    u.when (was && !u.joined n e && !(u.g (u.groupOf (fieldOf n))).trim) fun v => v.islandsDueAt n)

/-- The depth P of the pointer path of a half, 1 to 4 (R153). -/
def State.pathDepth (s : State) (n e : Nat) (wr : Bool) : Nat :=
  clampNat 1 4 (Tab.get s.build.ptrPath (2 * (4 * n + e) + wr.toNat) 1)

/-- A pointer load leaves for a half: the count at its arrival, less 8 for a read half (R153). -/
def State.sendLoad (s : State) (n e : Nat) (wr : Bool) (count : Nat) : State :=
  let p := s.pathDepth n e wr
  s.modC n e fun k => k.withHalf wr { (k.half wr) with load := some (p, (count + p + if wr then 0 else 8) % 16) }

/-- POINTER_LOAD (R153, R161): at count 16 the agent loads the pointer of every cell half of its region. -/
def execPointerLoad (n : Nat) (s : State) : Host.Outcome State Fault Refusal :=
  .next (s.when (s.clocked n && s.osc n .counting && s.rd .REGION_COUNT n == 16) fun t => t.each edges fun u e =>
    match u.neighbour n e with
    | some m => (u.sendLoad n e false 16).sendLoad m (opposite e) true 16
    | none => u)

/-- RESYNC_INITIATE (R140, R161): at count 24, each read half initiates a resync to the mode its arm gave; toward a region whose
clock is held low the crossing is FENCED already, and nothing could answer. -/
def execResyncInitiate (n : Nat) (s : State) : Host.Outcome State Fault Refusal :=
  .next (s.when (s.clocked n && s.osc n .counting && s.rd .REGION_COUNT n == 24 && !s.on .REGION_DETACHED n) fun t =>
    t.each (edges.filter fun e => (t.neighbour n e).isSome && !(t.c n e).rd.dark && !(t.c n e).wr.dark
      && !((t.c n e).armMode == .fenced && !t.cellClocked n e)) fun u e =>
      u.modC n e fun k => k.begin k.armMode)

/-- The TETHERED halves of region `n`, as (region and edge of the cell, write half, own edge). -/
def State.tetheredHalves (s : State) (n : Nat) : List (Nat × Nat × Bool × Nat) :=
  (edges.flatMap fun e => match s.neighbour n e with
    | some m => [(n, e, false, e), (m, opposite e, true, e)]
    | none => []).filter fun x => ((s.c x.1 x.2.1).half x.2.2.1).mode == .tethered

/-- The pointer that R153 gives a half of region `n`. -/
def State.expectedPtr (s : State) (n : Nat) (wr : Bool) : Nat := (s.rd .REGION_COUNT n + if wr then 0 else 8) % 16

/-- The pointers that have been upset, as (edge, write half, value), stand as they are (R154). -/
def State.upsetPtrs (s : State) (n : Nat) (l : List (Nat × Bool × Nat)) : State :=
  s.each l fun t x => match t.neighbour n x.1 with
    | some m => t.modC (if x.2.1 then m else n) (if x.2.1 then opposite x.1 else x.1) fun k =>
        k.withHalf x.2.1 { (k.half x.2.1) with ptr := x.2.2 % 16 }
    | none => t

/-- PTR_CHECK (R154): every TETHERED half of the region is compared with its expected pointer; `upset` lists the pointers that
a physical upset has changed since the last check. -/
def execPtrCheck (n : Nat) (upset : List (Nat × Bool × Nat)) (s : State) : Host.Outcome State Fault Refusal :=
  let u0 := s.upsetPtrs n upset
  .next (s.when (s.clocked n && s.osc n .counting && s.rd .REGION_COUNT n % s.rd .PTR_CHECK_PERIOD == 0) fun _ =>
    u0.each ((u0.tetheredHalves n).filter fun x => ((u0.c x.1 x.2.1).half x.2.2.1).ptr != u0.expectedPtr n x.2.2.1) fun u x =>
      ((u.inc .XING_PTR_ERRS n).modC x.1 x.2.1 fun k =>
        k.withHalf x.2.2.1 { (k.half x.2.2.1) with ptrErr := true }).raiseFault .crossPtr 0 n x.2.2.2)

/-- ISLAND_RECOMPUTE (R143): the islands of group `g` are due. -/
def execIslandRecompute (g : Nat) (s : State) : Host.Outcome State Fault Refusal :=
  .next (s.when ((s.g g).islandsDue) fun t => t.setIslands g)

/-- TRIM_MODE brought up to date (R147). -/
def State.showTrim (s : State) : State := s.wr .TRIM_MODE ((s.groups.any fun g => (s.g g).trim).toNat)

/-- The three conditions of R162. -/
def State.trimDone (s : State) (g : Nat) : Bool :=
  match (s.g g).releasedAt with
  | some at0 => (s.g g).trim && decide (at0 + s.su.trimTime ≤ s.up)
      && (s.clockedRegions g).all fun n => s.osc n .locked && decide (64 ≤ (s.r n).calm)
  | none => false

/-- TRIM_END (R162): the group leaves trim mode, and its islands are those of the settled crossings. -/
def execTrimEnd (g : Nat) (s : State) : Host.Outcome State Fault Refusal :=
  .next (s.when (s.trimDone g) fun t => ((t.modG g fun x => { x with trim := false }).setIslands g).showTrim)

/-- The region of group `g` with the largest SLIP_PEAK, the lowest number on a tie. -/
def State.worstSlip (s : State) (g : Nat) : Nat :=
  ((s.clockedRegions g).foldl (fun (b : Option Nat) n => match b with
    | some m => if s.rd .SLIP_PEAK m < s.rd .SLIP_PEAK n then some n else some m
    | none => some n) none).getD 0

/-- ALIGN_FAIL (R162, R512): trim has not ended 1 ms after the release; time under HOLD does not count. -/
def execAlignFail (g : Nat) (s : State) : Host.Outcome State Fault Refusal :=
  match (s.g g).releasedAt with
  | some at0 =>
    .next (s.when ((s.g g).trim && !(s.g g).alignFailed && decide (at0 + s.rd .ALIGN_LIMIT + (s.g g).trimHeld ≤ s.up)) fun t =>
      ((t.modG g fun x => { x with alignFailed := true }).inc .ALIGN_FAILS).raiseFault .alignFail 3 (t.worstSlip g) 0)
  | none => .next s

/-! ### Modes at an arm (R140) -/

/-- The mode that R140 gives the inbound cell of region `n` on edge `e`. -/
def State.armModeOf (s : State) (n e : Nat) : XMode :=
  match s.neighbour n e with
  | none => .fenced
  | some m =>
    let g := s.groupOf (fieldOf n)
    if !(s.live n && s.live m && s.routerOn n && s.routerOn m) then .fenced
    else if g = s.groupOf (fieldOf m) ∧ g ≠ 0xFF then .tethered
    else .decoupled

/-- The arm's modes are given to every inbound cell; fence commands are cleared first (R159).  A half's check error clears with
them (DESIGN CHOICE: R154 does not say when it clears, log 97). -/
def State.armCells (s : State) : State :=
  s.each s.regions fun t n => (t.wr .XING_FENCE 0 n).each edges fun u e =>
    u.when ((u.neighbour n e).isSome) fun v => v.modC n e fun k =>
      { k with
        armMode := s.armModeOf n e
        reopen := false
        rd := { k.rd with ptrErr := false, load := none }
        wr := { k.wr with ptrErr := false, load := none } }

end Sys2Proof.Machine
end

