-- ==== Sys2Proof/Machine/Limits.lean ====
section
/-! DEFINITION. Caps and limits from the engine to each field and rail, operating points and ceiling entries (R253 to
R268), and the target each group is sent toward. -/

set_option Elab.async false

namespace Sys2Proof.Machine
open Sys2Proof

/-- The value that means no limit. -/
def noLimit : Nat := 0xFFFFFFFF

/-! ### Operating points (R266, R267) -/

/-- The operating-point table of group `g` in force: a table written since the last tick waits (R267). -/
def State.opTableNow (s : State) (g : Nat) : Nat := (s.g g).table.getD (s.rd .OP_TABLE g)
/-- Entry `i` of a table. -/
def opWord (t i : Nat) : Nat := bits t (32 * i) 32
/-- Entry `i` is in use. -/
def opValid (t i : Nat) : Bool := bit (opWord t i) 31
/-- N of entry `i`. -/
def opN (t i : Nat) : Nat := bits (opWord t i) 0 11
/-- V_FLOOR of entry `i`. -/
def opFloor (t i : Nat) : Nat := bits (opWord t i) 11 9
/-- V_CEIL of entry `i`. -/
def opCeil (t i : Nat) : Nat := bits (opWord t i) 20 9
/-- The valid entries. -/
def opEntries (t : Nat) : List Nat := (List.range 32).filter (opValid t)
/-- The highest valid entry. -/
def opHighest (t : Nat) : Nat := maxOf (opEntries t)
/-- The valid entry with the lowest N at or above `n`, else the highest (R267). -/
def opEntryFor (t n : Nat) : Nat := ((opEntries t).find? fun i => decide (n ≤ opN t i)).getD (opHighest t)

/-- The conditions under which a table answers OK (R267): order binds the valid entries, format and bounds every entry. -/
def opTableOk (t : Nat) : Bool :=
  let v := opEntries t
  opValid t 0 && v == List.range v.length
    && (v.all fun i => decide (i + 1 ∉ v) || decide (opN t i < opN t (i + 1)))
    && ((List.range 32).all fun i => bits (opWord t i) 29 2 == 0)
    && ((List.range 32).all fun i => decide (opFloor t i ≤ opCeil t i ∧ 160 ≤ opN t i ∧ opN t i ≤ 1536))

/-! ### Ceilings (R268) -/

/-- A term of a minimum: its value, its place in the table of R254, its reason. -/
structure Term where
  value : Nat
  rank : Nat
  reason : Nat
  deriving DecidableEq, Repr

/-- The least term; on a tie the one nearer the top of R254 (R255). -/
def leastTerm (l : List Term) (d : Term) : Term :=
  l.foldl (fun b x => if x.value < b.value ∨ (x.value = b.value ∧ x.rank < b.rank) then x else b) d

/-- The place in R254 of a reason that a power limit carries. -/
def reasonRank (r : Nat) : Nat :=
  if r = 0 then 0 else if r = 3 then 2 else if r = 11 then 4 else if r = 4 then 5 else if r = 5 then 6
  else if r = 1 then 7 else if r = 2 then 8 else if r = 6 then 10 else 20

/-- The ceiling entry of group `g` without e_pow (R268, R274, R283). -/
def State.ceilBase (s : State) (g : Nat) : Term :=
  let t := s.opTableNow g
  let x := s.g g
  leastTerm
    ([{ value := s.rd .OP_MAX g, rank := 9, reason := 1 : Term }]
      ++ (if s.flag .CAP_STATUS 3 then [{ value := s.tickVal .HOT_ENTRY, rank := 3, reason := 3 }] else [])
      ++ (match x.holdCeil with | some e => [{ value := e, rank := 4, reason := 11 }] | none => [])
      ++ (match x.degCeil with | some e => [{ value := e, rank := 0, reason := 0 }] | none => [])
      ++ (if x.tripCeil then [{ value := 0, rank := 2, reason := 3 }] else []))
    { value := opHighest t, rank := 99, reason := 0xFF }

/-- The ceiling entry of group `g` and its reason (R268): none where it is the highest valid entry (R290). -/
def State.ceilTerm (s : State) (g : Nat) : Term :=
  let r := (s.g g).powReason
  let t := leastTerm [{ value := s.rd .OP_POWER_ENTRY g, rank := reasonRank r, reason := r }] (s.ceilBase g)
  if opHighest (s.opTableNow g) ≤ t.value then { t with reason := 0xFF } else t

/-- The preference of group `g` as a ratio (R268, R285). -/
def State.prefN (s : State) (g : Nat) : Nat :=
  if s.on .FIXED_RATE_ENABLE g then s.rd .FIXED_RATE_N g
  else match (s.g g).choice with
    | some e => opN (s.opTableNow g) (min e (opHighest (s.opTableNow g)))
    | none => opN (s.opTableNow g) (opHighest (s.opTableNow g))

/-- The frequency ceiling of group `g`: N of its ceiling entry, and no more than 160 in BLANK (R505). -/
def State.ceilN (s : State) (g : Nat) : Nat :=
  let n := opN (s.opTableNow g) (s.ceilTerm g).value
  if s.rd .LC_STATE = 0 then min 160 n else n

/-- The target of group `g`: its preference clipped to its ceiling (R268). -/
def State.targetN (s : State) (g : Nat) : Nat := min (s.prefN g) (s.ceilN g)

/-- The ceiling objects of group `g` brought up to date: an occurrence below whose choice the ceiling falls is no longer clean
(R317). -/
def State.showCeiling (s : State) (g : Nat) : State :=
  let c := s.ceilTerm g
  let below := match (s.g g).occ with
    | some o => decide (c.value < s.rd .OP_CEIL_ENTRY g ∧ c.value < o.entry.getD 0)
    | none => false
  ((s.when below fun t => t.spoil g).wr .OP_CEIL_ENTRY c.value g).wr .GROUP_CEIL_REASON c.reason g

/-! ### Limits (R257 to R262) -/

/-- The engine-level terms of R257, step 1. -/
def State.engineTerms (s : State) : List Term :=
  [{ value := s.rd .HOST_CAP, rank := 7, reason := 1 }, { value := s.rd .BOARD_CAP, rank := 6, reason := 5 }]
    ++ (if s.caps.extSince.isSome then [{ value := s.rd .EXT_CAP, rank := 5, reason := 4 }] else [])
    ++ (match s.caps.grant with | some p => [{ value := p, rank := 10, reason := 6 }] | none => [])

/-- L_c and its reason (R257); none when no engine-level limit applies. -/
def State.computeLimit (s : State) : Nat × Nat :=
  let t := leastTerm s.engineTerms { value := noLimit, rank := 99, reason := 0xFF }
  if t.value = noLimit then (noLimit, 0xFF)
  else (t.value - s.rd .ENGINE_OTHER - s.caps.otherMeas, t.reason)

/-- The holder of field `f`: its group, or 0xFF for the set with no group. -/
def State.holderFields (s : State) (h : Nat) : List Nat := s.fields.filter fun f => s.groupOf f == h

/-- The share of holder `h` as a fraction over 256: numerator and denominator (R258). -/
def State.shareOf (s : State) (h : Nat) : Nat × Nat :=
  let expl := if h = 0xFF then 0 else s.rd .GROUP_SHARE h
  if expl ≠ 0 then (expl, 1)
  else
    let autos := (s.groups.filter fun g => s.rd .GROUP_SHARE g == 0) ++ [0xFF]
    let rest := 256 - sumOf (s.groups.map fun g => s.rd .GROUP_SHARE g)
    let total := sumOf (autos.map fun a => (s.holderFields a).length)
    if total = 0 then (0, 1) else (rest * (s.holderFields h).length, total)

/-- The limit of holder `h` (R258), rounded down so that the shares never sum above L_c (DEDUCED, log 20). -/
def State.holderLimit (s : State) (h : Nat) : Nat :=
  let lc := s.computeLimit
  if lc.1 = noLimit then noLimit
  else
    let p := s.shareOf h
    lc.1 * p.1 / (256 * p.2)

/-- The share limit of field `f` (R259). -/
def State.shareLimit (s : State) (f : Nat) : Nat :=
  let l := s.holderLimit (s.groupOf f)
  if l = noLimit then noLimit
  else
    let p := (s.f f).share.getD (1, max 1 (s.holderFields (s.groupOf f)).length)
    if p.2 = 0 then 0 else l * p.1 / p.2

/-- FIELD_LIMIT of field `f` and its reason (R255, R262). -/
def State.fieldLimit (s : State) (f : Nat) : Term :=
  let lc := s.computeLimit
  let t := leastTerm
    ([{ value := s.shareLimit f, rank := reasonRank lc.2, reason := lc.2 },
      { value := s.rd .FIELD_CAP f, rank := 8, reason := 2 },
      { value := s.rd .FIELD_THERM_LIMIT f, rank := 2, reason := 3 }]
      ++ (match (s.f f).safeLimit with | some p => [{ value := p, rank := 0, reason := 0 : Term }] | none => []))
    { value := noLimit, rank := 99, reason := 0xFF }
  if t.value = noLimit then { value := noLimit, rank := 99, reason := 0xFF } else t

/-- The voltage of a rail that R261 takes, in 0.5 mV over a denominator: its tick mean, or the code in force. -/
def State.railVolt (s : State) (r : Nat) : Nat × Nat :=
  let x := s.ra r
  if x.vCount ≠ 0 ∧ x.anyInvalid = false then (x.vSum, x.vCount)
  else match s.railField r with
    | some f => (800 + 5 * s.rd .FIELD_VOLT f, 1)
    | none => (800 + 5 * s.rd .RAIL_TARGET r, 1)

/-- RAIL_LIMIT of R261 in mW; none for an ABSENT rail (R544). -/
def State.railLimitOf (s : State) (r : Nat) : Nat :=
  if s.rd .RAIL_STATE r = 0 then noLimit
  else
    let v := s.railVolt r
    min (noLimit - 1) (s.rd .RAIL_IMAX r * v.1 * (256 - s.tickVal .RAIL_MARGIN) / (5120 * v.2))

/-- A limit differs by more than 1/256 from the one last sent, taken of the latter (R262; the base is DEDUCED, log 74). -/
def limitMoved (old new : Nat) : Bool :=
  old != new && (old == noLimit || new == noLimit || decide (old < 256 * ((new : Int) - old).natAbs))

/-- The Conductor sends the cap directive of field `f`: its limit, reason and share and the limits of its rails. -/
def State.sendDirective (s : State) (f : Nat) : State :=
  let t := (s.each (s.fieldRails f) fun t r => t.modRa r fun x => { x with sent := s.rd .RAIL_LIMIT r }).modF f fun x =>
    { x with sentLimit := s.rd .FIELD_LIMIT f, sentReason := s.rd .FIELD_LIMIT_REASON f, sentShare := x.share }
  { t with caps := { t.caps with directives := t.caps.directives + 1 } }

/-- A directive is due for field `f`: its limit or a rail's has moved, its reason or its share has changed (R259, R262). -/
def State.directiveDue (s : State) (f : Nat) : Bool :=
  let x := s.f f
  limitMoved x.sentLimit (s.rd .FIELD_LIMIT f) || x.sentReason != s.rd .FIELD_LIMIT_REASON f || x.sentShare != x.share
    || (s.fieldRails f).any fun r => limitMoved (s.ra r).sent (s.rd .RAIL_LIMIT r)

/-- The limits of R262 recomputed, compute, group and field limits with their reasons, and the directives that are due. -/
def State.recompute (s : State) : State :=
  let lc := s.computeLimit
  let s1 := (s.wr .COMPUTE_LIMIT lc.1).wr .COMPUTE_LIMIT_REASON lc.2
  let s2 := s1.each s.groups fun t g => t.wr .GROUP_LIMIT (s.holderLimit g) g
  let s3 := s2.each s.fields fun t f =>
    let x := s.fieldLimit f
    (t.wr .FIELD_LIMIT x.value f).wr .FIELD_LIMIT_REASON x.reason f
  let s4 := s3.each s3.fields fun t f => t.when (t.directiveDue f) fun u => u.sendDirective f
  { s4 with caps := { s4.caps with due := false } }

/-- The rail limits recomputed (order 3 of R273). -/
def State.recomputeRails (s : State) : State := s.each s.rails fun t r => t.wr .RAIL_LIMIT (s.railLimitOf r) r

/-- An engine-level limit has changed: LIMIT_RECOMPUTE follows within 1 µs (R262). -/
def State.limitsDue (s : State) : State := { s with caps := { s.caps with due := true } }

/-! ### Power quantities -/

/-- An estimate multiplied by K_f (R260, R270). -/
def State.corrected (s : State) (f p : Nat) : Nat := p * s.rd .FIELD_EST_CORR f / 16384

/-- Power of a rail in mW from 0.5 mV and 10 mA units. -/
def railPower (v i : Nat) : Nat := v * i / 200

/-- Engine flags of CAP_STATUS recomputed from the groups (R289). -/
def State.showCapFlags (s : State) : State :=
  let any (p : Nat → Bool) := s.groups.any p
  ((s.setFlag .CAP_STATUS 5 (any fun g => s.rd .FLOOR_STATE g != 0)).setFlag .CAP_STATUS 6
    (s.caps.setUnatt || any fun g => s.rd .FLOOR_STATE g == 2)).setFlag .CAP_STATUS 7 (any fun g => s.on .FIXED_RATE_ENABLE g)

end Sys2Proof.Machine
end

