-- ==== Sys2Proof/Machine/RailBase.lean ====
section
/-! DEFINITION. The rail link controller's own operations: commands and tags on a Renzil link, voltage requests and
their clamps (R180, R367, R374 to R376). -/

set_option Elab.async false

namespace Sys2Proof.Machine
open Sys2Proof

/-- The operations of R364. -/
inductive ROp where
  | reserved | identify | readRating | setVoltage | readVoltage | tlmEnable | mark | readStatus | clearFault | resp | tlm
  deriving DecidableEq, Repr
/-- The code of an operation. -/
def ROp.code (o : ROp) : Nat := o.ctorIdx

/-- The calibration interval in progress (R241): global time over 10 µs. -/
def State.interval (s : State) : Nat := s.T / 160000

/-- A link is enumerated and takes commands. -/
def State.linkUp (s : State) (k : Nat) : Bool := s.rd .LINK_STATE 0 k == 2

/-- Rail states (R383). -/
def State.railOk (s : State) (r : Nat) : Bool := s.rd .RAIL_STATE r == 2
/-- Some rail of field `f` is DEGRADED. -/
def State.fieldDegraded (s : State) (f : Nat) : Bool := (s.fieldRails f).any fun r => s.rd .RAIL_STATE r == 3
/-- The rails of field `f` that are not ABSENT. -/
def State.fieldPresentRails (s : State) (f : Nat) : List Nat := (s.fieldRails f).filter fun r => s.rd .RAIL_STATE r != 0
/-- rail_min of R375. -/
def State.railMin (s : State) (f : Nat) : Nat := maxOf ((s.fieldPresentRails f).map fun r => s.rd .RAIL_VMIN r)
/-- rail_max of R375. -/
def State.railMax (s : State) (f : Nat) : Nat :=
  ((s.fieldPresentRails f).map fun r => s.rd .RAIL_VMAX r).foldl min 511

/-- The rails that a command addresses (R364). -/
def State.cmdRails (s : State) (k : Nat) (c : LCmd) : List Nat :=
  if c.op = ROp.setVoltage.code ∨ c.op = ROp.tlmEnable.code then
    (s.linkRails k).filter fun r => bit (bits c.data 16 16) (s.rd .RAIL_CHANNEL r)
  else if c.op = ROp.identify.code then s.linkRails k
  else (s.linkRails k).filter fun r => s.rd .RAIL_CHANNEL r == c.ch

/-- A code held within the bounds of rail `r`: the block never sends one below RAIL_VMIN or above RAIL_VMAX (R375). -/
def State.railClamp (s : State) (r v : Nat) : Nat := min (max v (s.rd .RAIL_VMIN r)) (s.rd .RAIL_VMAX r)

/-- The next voltage command of a link (R374): the rails with the lowest pending code, each within its bounds at this moment
(R375), in one SET_VOLTAGE. -/
def State.nextSet (s : State) (k : Nat) : Option (LCmd × List Nat) :=
  let ps := (s.linkRails k).filterMap fun r => (s.ra r).pending.map fun v => (s.railClamp r v, r)
  match (ps.map (·.1)).foldl (fun (m : Option Nat) v => some (min v (m.getD v))) none with
  | none => none
  | some v =>
    let rs := (ps.filter fun p => p.1 == v).map (·.2)
    let mask := rs.foldl (fun m r => setBit m (s.rd .RAIL_CHANNEL r) true) 0
    some ({ op := ROp.setVoltage.code, data := mask * 2 ^ 16 + v }, rs)

/-! ### Frames (R362, R363) -/

/-- One bit into the CRC-8 of R363. -/
def crc8Bit (c b : Nat) : Nat := if (c / 128 + b) % 2 = 1 then Nat.xor (2 * c % 256) 7 else 2 * c % 256
/-- The CRC-8 of bits 63:8 of a frame, bit 63 first. -/
def crc8 (frame : Nat) : Nat := (List.range 56).foldl (fun c i => crc8Bit c (bits frame (63 - i) 1)) 0
/-- A frame is undamaged: preamble and CRC match (R363). -/
def frameOk (frame : Nat) : Bool := bits frame 56 8 == 0x5A && bits frame 0 8 == crc8 frame
/-- The frame that the block sends of an operation, a channel, a tag and data: STATUS is 0 in every frame but a RESP (R362). -/
def downFrame (op ch tag data : Nat) : Nat :=
  let body := 0x5A * 2 ^ 56 + op % 16 * 2 ^ 52 + ch % 16 * 2 ^ 48 + tag % 16 * 2 ^ 44 + data % 2 ^ 32 * 2 ^ 8
  body + crc8 body
/-- The frame of a command: a retry sends the same one (R368). -/
def LCmd.frame (c : LCmd) : Nat := downFrame c.op c.ch c.tag c.data
/-- The frame of the MARK of interval `k`: channel 0, its tag the interval modulo 16 (R362, R364, R370). -/
def markFrame (k : Nat) : Nat := downFrame ROp.mark.code 0 k k

/-! ### What leaves on a link (R367, R368, R371) -/

/-- A TAG not in use on the link, from the next one up. -/
def freeTag (l : Link) : Nat :=
  (((List.range 16).map fun i => (l.nextTag + i) % 16).find? fun t => !(l.out.any fun c => c.tag == t)).getD l.nextTag

/-- A frame of a command may leave now: at most two between a MARK and its last TLM (R371). -/
def linkFree (l : Link) : Bool := l.tlmLeft == 0 || decide (l.sinceMark < 2)

/-- A command leaves on link `k`. -/
def State.sendCmd (s : State) (k : Nat) (c : LCmd) : State :=
  s.modL k fun l =>
    let d : LCmd := { c with tag := freeTag l, at0 := s.ctlUs }
    { l with
      out := l.out ++ [d]
      nextTag := (freeTag l + 1) % 16
      sinceMark := l.sinceMark + 1
      tx := some d.frame }

/-- A SET_VOLTAGE that failed and waits to be sent again addresses a rail of a field with a DEGRADED rail: nothing is sent to a
rail of that field (R376). -/
def State.withdrawn (s : State) (k : Nat) (c : LCmd) : Bool :=
  c.op == ROp.setVoltage.code && (s.cmdRails k c).any fun r => ((s.railField r).map s.fieldDegraded).getD (s.rd .RAIL_STATE r == 3)

/-- A withdrawn SET_VOLTAGE is not sent again: its rails of other fields get their target from a new command, unless a newer
request has replaced it; what a DEGRADED rail took of it is not known (DEDUCED from R376, log 86). -/
def State.withdraw (s : State) (k : Nat) (c : LCmd) : State :=
  let v := bits c.data 0 9
  let t := s.modL k fun l => { l with out := l.out.erase c }
  t.each (s.cmdRails k c) fun u r =>
    if ((s.railField r).map s.fieldDegraded).getD (s.rd .RAIL_STATE r == 3) then
      u.when (s.rd .RAIL_STATE r == 3) fun w => w.wr .RAIL_STATUS (setBit (w.rd .RAIL_STATUS r) 2 true) r
    else u.modRa r fun x => { x with pending := some (x.pending.getD v) }

/-- A failed command goes again: the same frame with the same TAG (R368). -/
def State.resend (s : State) (k : Nat) (c : LCmd) : State :=
  if s.withdrawn k c then s.withdraw k c
  else
    (s.each (s.cmdRails k c) fun t r => t.inc .RAIL_RETRIES r).modL k fun l =>
      { l with
        out := l.out.map fun x => if x == c then { x with again := false, tries := x.tries + 1 } else x
        sinceMark := l.sinceMark + 1
        tx := some c.frame }

/-- Sends one frame of link `k`, if one may leave: first a command whose attempt failed, in the first free slot, then, with
fewer than two outstanding, a waiting command, then a voltage command (R367, R368, R371, R374). -/
def State.pumpOne (s : State) (k : Nat) : State :=
  let l := s.l k
  if linkFree l = false then s
  else match l.out.find? fun c => c.again with
    | some c => s.resend k c
    | none =>
      if 2 ≤ l.out.length then s
      else match l.queue with
        | c :: rest => (s.modL k fun l => { l with queue := rest }).sendCmd k c
        | [] =>
          if s.linkUp k = false then s
          else match s.nextSet k with
            | some (c, rs) => (s.each rs fun t r => t.modRa r fun x => { x with pending := none }).sendCmd k c
            | none => s

/-- Sends what may leave on link `k`: at most two commands are outstanding, so that four frames are more than ever wait; a
link whose clock stands in a CTL short stop sends nothing (R190, R382). -/
def State.pump (s : State) (k : Nat) : State :=
  if s.refs.shortStop then s else (((s.pumpOne k).pumpOne k).pumpOne k).pumpOne k

/-- Queues a command on link `k`. -/
def State.queueCmd (s : State) (k : Nat) (c : LCmd) : State :=
  (s.modL k fun l => { l with queue := l.queue ++ [c] }).pump k

/-- A recovery begins (R379): three commands to the rail; it waits while a step of the rail's group is in flight. -/
def State.recoverRail (s : State) (r : Nat) : State :=
  let k := s.rd .RAIL_CONTROLLER r
  let ch := s.rd .RAIL_CHANNEL r
  let cmd (op : ROp) : LCmd := { op := op.code, ch := ch, recover := some r }
  (((s.modRa r fun x => { x with recover := 1, recoverGot := 0 }).queueCmd k (cmd .clearFault)).queueCmd k
    (cmd .readStatus)).queueCmd k (cmd .readVoltage)

/-- The voltage of field `f` asked for: clamped to the rails, the pending target of each rail; nothing moves while a
rail of the field is DEGRADED (R182, R374 to R376). -/
def State.requestVolt (s : State) (f v : Nat) : State :=
  if s.fieldDegraded f then s
  else
    let w := max (s.railMin f) (min v (s.railMax f))
    let s1 := (s.wr .FIELD_VOLT w f).when (s.rd .FIELD_VOLT f != w) fun t =>
      t.modF f fun x =>
        { x with
          voltChanged := some s.interval
          voltBefore := if x.voltChanged = some s.interval then x.voltBefore else x.voltChanged }
    let rs := s.fieldPresentRails f
    let s2 := (s1.each rs fun t r => t.modRa r fun x => { x with pending := some w }).modF f fun x => { x with lowering := none }
    s2.each ((rs.map fun r => s.rd .RAIL_CONTROLLER r).dedup) fun t k => t.pump k

/-- Field `f` is held by a group step or a region stop in flight: nobody else's request goes out (R182). -/
def State.voltBusy (s : State) (f : Nat) : Bool :=
  (s.groupOf f != 0xFF && (s.g (s.groupOf f)).step.isSome)
    || ((s.stop.cur.map fun x => x.order != 0 && fieldOf x.region == f).getD false)
/-- The voltage code of a measured voltage in 0.5 mV (R366). -/
def codeOfVmean (v : Nat) : Int := Int.fdiv ((v : Int) - 800) 5

/-- The raise of field `f` to code `v` is confirmed by telemetry, within a tolerance (R185). -/
def State.voltConfirmed (s : State) (tol f v : Nat) : Bool :=
  (s.fieldPresentRails f).all fun r => decide ((v : Int) - tol ≤ codeOfVmean (s.rd .RAIL_VMEAS r))

/-! ### The voltage a field needs (R111, R179, R180) -/

/-- The target of region `n` when its group runs at `ratio` (R176, R179). -/
def State.regionTarget (s : State) (n ratio : Nat) : Nat :=
  if s.on .REGION_DETACHED n || s.groupOf (fieldOf n) == 0xFF then s.rd .OSC_TARGET_N n else ratio

/-- FIELD_VNEED of field `f` with the group at `ratio`, and region `n` (if any) at its own new ratio. -/
def State.fieldNeed (s : State) (f ratio : Nat) (own : Option (Nat × Nat)) : Nat :=
  maxOf (((s.fieldRegions f).filter s.live).map fun n =>
    let t := match own with
      | some (m, r) => if m = n then r else s.regionTarget n ratio
      | none => s.regionTarget n ratio
    s.vNeed n t)

/-- The guard step of field `f`: 1 code while a region of it holds a quarantined sensor (R111). -/
def State.guardCodes (s : State) (f : Nat) : Nat := if (s.f f).guardStep then s.rd .DS_GUARD_CODES else 0

/-- The floor and ceiling of R180 for field `f`. -/
def State.voltBounds (s : State) (f : Nat) : Nat × Nat :=
  let g := s.groupOf f
  if g = 0xFF then (s.railMin f, s.railMax f)
  else
    let t := s.opTableNow g
    let e := opEntryFor t (s.rd .GROUP_TARGET_N g)
    (opFloor t e, min (opCeil t e) (s.railMax f))

/-- The request of R180 from a need: value, and whether it was clipped at the ceiling. -/
def State.voltRequest (s : State) (f need : Nat) : Nat × Bool :=
  let v : Int := (need : Int) + s.rdInt .FIELD_VTRIM f + s.guardCodes f + s.rd .PR_OFFSET f
  let b := s.voltBounds f
  ((max (min v b.2) (b.1 : Int)).toNat, decide ((b.2 : Int) < v))

/-- The request of R180 for field `f`, with FIELD_VNEED refreshed and a clip counted. -/
def State.predictVolt (s : State) (f ratio : Nat) (own : Option (Nat × Nat)) : Nat × State :=
  let need := s.fieldNeed f ratio own
  let q := s.voltRequest f need
  (q.1, (s.wr .FIELD_VNEED need f).when q.2 fun t => t.inc .FIELD_VOLT_AT_CEIL f)

/-! ### Requests that wait (R182, R191, R379) -/

/-- The request of R180 for field `f` at the targets in force (R182): the group's GROUP_N, each region's own target where there is
no group.  With `keep` it lowers nothing: raised voltages stay until the next tick (R191). -/
def State.requestNow (s : State) (f : Nat) (keep : Bool) : State :=
  let q := s.predictVolt f (s.rd .GROUP_N (s.groupOf f)) none
  q.2.requestVolt f (if keep then max q.1 (q.2.rd .FIELD_VOLT f) else q.1)

/-- A request of Praline for field `f`: it waits while the field is held (R182, R312). -/
def State.askVolt (s : State) (f : Nat) : State :=
  if s.voltBusy f then s.modF f fun x => { x with reqWaits := true } else s.requestNow f false

/-- The request of field `f` that waited goes out, at the targets now in force; none after a job fault, when voltages stay
(R182, R191). -/
def State.freeVolt (s : State) (f : Nat) (keep : Bool) : State :=
  if !(s.f f).reqWaits || s.voltBusy f then s
  else
    let t := s.modF f fun x => { x with reqWaits := false }
    if t.opFrozen then t else t.requestNow f keep

/-- What waited for the end of the step of group `g` goes on: recoveries and voltage requests (R182, R379). -/
def State.startRecoveries (s : State) (g : Nat) (keep : Bool) : State :=
  (s.each (s.rails.filter fun r => (s.ra r).recover == 3 && (match s.railField r with
    | some f => s.groupOf f == g
    | none => false)) fun t r => t.recoverRail r).each (s.groupFields g) fun t f => t.freeVolt f keep

end Sys2Proof.Machine
end

