-- ==== Sys2Proof/Machine/Change.lean ====
section
/-! DEFINITION. The change sequencers: the synchronised-count change of a group and the region-stop change (R174 to
R192). -/

set_option Elab.async false

namespace Sys2Proof.Machine
open Sys2Proof

/-! ### Steps (R177, R183, R191, R192) -/

/-- The ratio after one step from `old` toward `tgt` (R177). -/
def stepToward (old tgt : Nat) : Nat :=
  if old < tgt then min tgt (old + old / 4) else max 160 (max tgt (old - old / 4))

/-- GROUP_CHG_STATE of R193. -/
inductive Chg where
  | idle | voltUp | broadcast | voltDown | frozen
  deriving DecidableEq, Repr

/-- GROUP_CHG_STATE set; it stays FROZEN until the re-arm. -/
def State.setChg (s : State) (g : Nat) (c : Chg) : State :=
  if s.opFrozen then s.wr .GROUP_CHG_STATE Chg.frozen.ctorIdx g else s.wr .GROUP_CHG_STATE c.ctorIdx g

/-- The step in flight of group `g` ends with a result that is not OK (R192); raised voltages stay until the next tick (R191). -/
def State.abortStep (s : State) (g result : Nat) : State :=
  ((((s.modG g fun x => { x with step := none }).wr .GROUP_CHG_RESULT result g).when (result != 7) fun t =>
    t.inc .GROUP_CHG_ABORTS g).setChg g .idle).startRecoveries g true

/-- A step is in flight and not broadcast. -/
def State.stepPrepared (s : State) (g : Nat) : Option GStep := (s.g g).step.filter fun x => x.c.isNone

/-- A target reaches the group change sequencer (R29, R191): the newest one waits; a step not yet broadcast that it
turns back is superseded. -/
def State.newTarget (s : State) (g tgt : Nat) : State :=
  let clip := min tgt (s.ceilN g)
  let s1 := (s.modG g fun x => { x with pending := some tgt }).wr .GROUP_TARGET_N clip g
  match s1.stepPrepared g with
  | some st =>
    if (st.nOld < st.nNew ∧ st.nOld < clip) ∨ (st.nNew < st.nOld ∧ clip < st.nOld) then s1 else s1.abortStep g 7
  | none => s1

/-- The cap arbiter brings the ceiling of group `g` up to date and sends the group toward its target, when that
differs from the one it works toward (R268); not before the ramp of the arm. -/
def State.retarget (s : State) (g : Nat) : State :=
  let s1 := s.showCeiling g
  let t := s1.targetN g
  if !(s1.isReady .ready || s1.su.ramping) || s1.holderFields g == [] then s1
  else if (s1.g g).pending = some t ∨ ((s1.g g).pending = none ∧ s1.rd .GROUP_N g = t) then s1
  else s1.newTarget g t

/-- Every group is retargeted. -/
def State.retargetAll (s : State) : State := s.each s.groups fun t g => t.retarget g

/-- Count C of R184 for an island: its anchor and diameter, at the ratio in force, for a target instant in eighths of a unit of
global time.
Before the anchor's first report, its count and global time stand for X and t_x (DESIGN CHOICE: R184 names only a report,
log 68). -/
def State.chooseFor (s : State) (ratio anchor diam target : Nat) : Nat :=
  let x : Nat × Nat := match (s.ee anchor).report with
    | some w => (w.count, w.time)
    | none => (s.rd .REGION_COUNT anchor, s.T)
  x.1 + divUp (ratio * (100 + s.rd .CHANGE_RATE_MARGIN) * 15625 * (target - 8 * x.2)) 128000000000 + 4 * diam

/-- The furthest of some counts: one that has passed every other (R119). -/
def furthest (l : List Nat) : Nat :=
  (l.foldl (fun (b : Option Nat) c => match b with
    | some m => if passed c m then some (c % 2 ^ 48) else some m
    | none => some (c % 2 ^ 48)) none).getD 0

/-- C of R184: the largest over the islands of group `g` (R143), as counts compare (R119). -/
def State.chooseC (s : State) (g ratio target : Nat) : Nat :=
  furthest ((s.g g).islands.map fun i => s.chooseFor ratio i.1 i.2 target)

/-- Requests the voltages of a list of fields. -/
def State.requestAll (s : State) (l : List (Nat × Nat)) : State := s.each l fun t x => t.requestVolt x.1 x.2

/-- Requests the lowering at the end of a step of group `g`, which is on its way until its rails have been sent it (R193). -/
def State.lowerAll (s : State) (l : List (Nat × Nat)) : State :=
  (s.requestAll l).each l fun t x => t.modF x.1 fun y => { y with lowering := some 0xFFFF }

/-- The end of a step (R186, R191): GROUP_N, result, and the lowering of a falling step; then what waited for the end goes on
(R182). -/
def State.endStep (s : State) (g : Nat) (st : GStep) : State :=
  let s1 := (s.modG g fun x =>
    { x with step := none, pending := if x.pending = some st.nNew then none else x.pending }).wr .GROUP_N st.nNew g
  if s.opFrozen then
    ((s1.wr .GROUP_CHG_RESULT 5 g |>.inc .GROUP_CHG_ABORTS g).setChg g .frozen).startRecoveries g true
  else
    let s2 := (s1.wr .GROUP_CHG_RESULT 1 g).inc .GROUP_CHG_STEPS g
    let low := st.vNew.filter fun x => decide (x.2 < s2.rd .FIELD_VOLT x.1)
    (if st.nNew < st.nOld ∧ low ≠ [] then (s2.lowerAll low).setChg g .voltDown else s2.setChg g .idle).startRecoveries g false

/-- The step's voltages are in place: C is chosen and broadcast, or the step of a group with no clocked region ends
(R183, R186). -/
def State.broadcastStep (s : State) (g : Nat) (st : GStep) : State :=
  if (s.g g).islands = [] then s.endStep g st
  else
    let c := s.chooseC g st.nOld (8 * (s.T + 16000 * st.lead))
    ((s.modG g fun x => { x with step := some { st with c := some c, raising := [] }, cast := some (c, st.nNew) }).wr
      .GROUP_CHG_C c g).setChg g .broadcast

/-- The voltages predicted for `l` at the multiplier `nw`, one after the other. -/
def State.predictAll (s : State) (nw : Nat) (l : List Nat) : Tab Nat × State :=
  l.foldl (fun (a : Tab Nat × State) f => (a.1 ++ [(f, (a.2.predictVolt f nw none).1)], (a.2.predictVolt f nw none).2)) ([], s)

/-- The start of one step of group `g` (R183). -/
def State.startStep (s : State) (g : Nat) : State :=
  match (s.g g).pending with
  | none => s
  | some p =>
    let old := s.rd .GROUP_N g
    let tgt := max 160 (min p (s.ceilN g))
    let s0 := s.wr .GROUP_TARGET_N tgt g
    if tgt = old then s0.modG g fun x => { x with pending := if p = old then none else x.pending }
    else
      let nw := stepToward old tgt
      let q := s0.predictAll nw (s0.groupFields g)
      let rise := q.1.filter fun x => decide (q.2.rd .FIELD_VOLT x.1 < x.2)
      let st : GStep :=
        { nOld := old, nNew := nw, vNew := q.1, lead := s.rd .CHANGE_LEAD, tol := s.rd .VOLT_CONFIRM_TOL, began := s.ctlUs }
      if old < nw then
        if (s.g g).noRise then s0
        else if rise = [] then (q.2.setChg g .voltUp).broadcastStep g st
        else
          let st1 : GStep := { st with raising := rise.map (·.1), deadline := s.up + s.rd .VOLT_SETTLE_LIMIT }
          ((q.2.requestAll rise).modG g fun x => { x with step := some st1 }).setChg g .voltUp
      else (q.2.setChg g .broadcast).broadcastStep g st

/-! ### Commands of the group change sequencer -/

/-- GROUP_TARGET (R29): a new target; below N = 160 and above 1536 none is accepted (R71). -/
def execGroupTarget (g target : Nat) (s : State) : Host.Outcome State Fault Refusal :=
  .next (s.when (s.groups.contains g && decide (160 ≤ target ∧ target ≤ 1536)) fun t => t.newTarget g target)

/-- A region stop holds the voltage of a field of group `g` for itself (R182). -/
def State.stopHolds (s : State) (g : Nat) : Bool :=
  match s.stop.cur with
  | some x => x.order != 0 && s.groupOf (fieldOf x.region) == g && g != 0xFF
  | none => false

/-- GROUP_STEP_START (R183): no step in flight, a target waits, operating points are not frozen and CTL does not stand still
(R24), and no region stop holds the voltage of one of the group's fields (R182). -/
def execGroupStepStart (g : Nat) (s : State) : Host.Outcome State Fault Refusal :=
  .next (s.when (s.groups.contains g && (s.g g).step.isNone && !(s.g g).noStep && !s.opFrozen && !s.refs.shortStop
    && !s.stopHolds g && (s.isReady .ready || s.su.ramping)) fun t => t.startStep g)

/-- The release or quiesce transaction on the sync port (R42, R187, R402), which the engine takes as it comes (log 109). -/
def State.syncQreq (s : State) (quiesce : Bool) (n epoch : Nat) : State :=
  { s.when quiesce (fun t => t.inc .SY_QUIESCES) with
    stop := { s.stop with qreqOp := quiesce, qreqRegion := n, qreqEpoch := epoch } }

/-! ### The region-stop sequencer (R187 to R189) -/

/-- REGION_STOP_STATE of R193. -/
inductive StopSt where
  | idle | waiting | voltUp | quiesce | stopped | voltDown
  deriving DecidableEq, Repr

/-- REGION_STOP_STATE of region `n` set. -/
def State.setStop (s : State) (n : Nat) (c : StopSt) : State := s.wr .REGION_STOP_STATE c.ctorIdx n

/-- The request in flight has ended: the one that waits takes its turn. -/
def State.nextStop (s : State) (keep : Bool) : State :=
  let t := match s.stop.waiting with
    | some (n, t) => { s with stop := { s.stop with waiting := none, cur := some { region := n, target := t } } }
    | none => { s with stop := { s.stop with cur := none } }
  match s.stop.cur with
  | some x => t.freeVolt (fieldOf x.region) keep
  | none => t

/-- The step in flight ends with a result other than OK. -/
def State.abortStop (s : State) (x : RStop) (result : Nat) : State :=
  (((s.wr .REGION_STOP_RESULT result x.region).inc .REGION_STOP_ABORTS x.region).setStop x.region .idle).nextStop true

/-- A region-stop request is accepted (R29): it takes its turn or waits behind the one in flight. -/
def State.acceptStop (s : State) (n t : Nat) : State :=
  (match s.stop.cur with
  | none => { s with stop := { s.stop with cur := some { region := n, target := t } } }
  | some _ => { s with stop := { s.stop with waiting := some (n, t) } }).setStop n .waiting

/-- The quiesce request of order 2 leaves (R187). -/
def State.sendQuiesce (s : State) (x : RStop) : State :=
  let s1 := (s.syncQreq true x.region x.epoch).setStop x.region .quiesce
  { s1 with stop := { s1.stop with cur := some { x with order := 2, deadline := s.up + s.rd .QUIESCE_LIMIT } } }

/-- A step of the group of field `f` is in flight: the field's voltage is the group's (R182). -/
def State.stepHolds (s : State) (f : Nat) : Bool := s.groupOf f != 0xFF && (s.g (s.groupOf f)).step.isSome

/-- A stop reaches its turn (R187, R191); it waits for the end of a step that holds the field's voltage (R182), and for READY, before
which no quiesce is sent (R506).  A target equal to the
ratio in force is carried out as any other (DESIGN CHOICE: R187 names no exception, log 87). -/
def State.startStop (s : State) (x : RStop) : State :=
  let n := x.region
  let d := s.domainOf n
  if !s.su.everReady || (s.d d).phase.isSome || s.stepHolds (fieldOf n) then s
  else if !s.routerOn n then s.abortStop x 6
  else
    let old := s.rd .OSC_TARGET_N n
    let nw := stepToward old x.target
    let ep := (s.stop.epoch + 1) % 256
    let x1 : RStop := { x with nOld := old, nNew := nw, epoch := ep, tol := s.rd .VOLT_CONFIRM_TOL, began := s.ctlUs }
    let s1 := { s with stop := { s.stop with epoch := ep } }
    if old < nw then
      let f := fieldOf n
      let q := s1.predictVolt f (s1.rd .GROUP_N (s1.groupOf f)) (some (n, nw))
      if s1.rd .FIELD_VOLT f < q.1 then
        let s2 := (q.2.requestVolt f q.1).setStop n .voltUp
        { s2 with stop := { s2.stop with
          cur := some { x1 with order := 1, vNew := q.1, deadline := s.up + s.rd .VOLT_SETTLE_LIMIT } } }
      else q.2.sendQuiesce x1
    else s1.sendQuiesce x1

/-- REGION_STOP_START (R187): the request at its turn starts its next step. -/
def execRegionStopStart (s : State) : Host.Outcome State Fault Refusal :=
  match s.stop.cur with
  | some x => .next (s.when (x.order == 0 && !s.refs.shortStop) fun t => t.startStop x)
  | none => .next s

/-- A quiesce acknowledgement reaches CTL (R188, R533): the step's epoch lets the stop command go; any other epoch is stale. -/
def State.quiesceAck (s : State) (epoch : Nat) : State :=
  match s.stop.cur.filter fun x => x.order == 2 && x.epoch == epoch with
  | some x =>
    let t := s.inc .SY_QACKS
    { t with stop := { t.stop with cur := some { x with order := 3 } } }
  | none => s.inc .QUIESCE_STALE_ACKS

/-- QUIESCE_ACK (R188, R533): held in the port's queue during a CTL short stop (R407). -/
def execQuiesceAck (epoch : Nat) (s : State) : Host.Outcome State Fault Refusal :=
  .next (if s.refs.shortStop then s.syHold (.ack epoch) else s.quiesceAck epoch)

/-- No resync of a crossing of region `n` is in progress. -/
def State.crossingsIdle (s : State) (n : Nat) : Bool := (s.ownHalves n).all fun h => (s.c h.1 h.2.1).idle

/-- The agent lowers REQ on the halves that raised it, with the pointers of the target mode (R155). -/
def State.lowerReq (s : State) (n : Nat) : State :=
  s.each (s.stopHalves n) fun t x => t.modC x.1 x.2.1 fun k =>
    let h := k.half x.2.2
    if h.req then (k.settle x.2.2).withHalf x.2.2 { h with req := false } else k

/-- STOP_COMMAND (R187): the agent raises REQ on every decoupled cell half, once resyncs in progress have ended. -/
def execStopCommand (n : Nat) (s : State) : Host.Outcome State Fault Refusal :=
  match s.stop.cur with
  | some x =>
    .next (s.when (x.order == 3 && x.region == n && s.crossingsIdle n) fun t =>
      let u := t.raiseReq n
      { u with stop := { u.stop with cur := some { x with order := 4 } } })
  | none => .next s

/-- STOP_ACK (R187, R189): every ACK is seen; the clock is held low and the seed is loaded.  An occurrence on the field's group is
no longer observed (R304). -/
def execStopAck (n : Nat) (s : State) : Host.Outcome State Fault Refusal :=
  match s.stop.cur with
  | some x =>
    .next (s.when (x.order == 4 && x.region == n && s.stopAcked n) fun t =>
      let u := ((((t.stopClock n).loadSeed n x.nNew).setStop n .stopped).inc .REGION_STOPS n).unobserve (t.groupOf (fieldOf n))
      { u with stop := { u.stop with cur := some { x with order := 5, deadline := s.up + s.rd .STOP_TIME / 1000 } } })
  | none => .next s

/-- The restart after a stop: the clock runs at the new code, no run is in progress and S3 is 0 (R113, R128, R187). -/
def State.restartClock (s : State) (n : Nat) : State :=
  (((s.setOsc n .running true).setDs n 1 false).startHold n).modR n fun r =>
    { r with
      last4 := 0
      asked := 0
      last1 := 0
      last2 := 0
      last3 := 0
      runDepth := 0
      runLeft := 0
      tripDepth := 0
      tripMask := 0
      leadHist := []
      level := 0
      startAt := none
      unlockAt := some s.up
      unlockCounted := false
      gateDiscard := true }

/-! ### Confirmation and timeout of a raise (R185) -/

/-- The raise of the region stop in flight is confirmed. -/
def State.confirmStop (s : State) : State :=
  match s.stop.cur with
  | some x => s.when (x.order == 1 && !s.refs.shortStop && s.voltConfirmed x.tol (fieldOf x.region) x.vNew) fun t => t.sendQuiesce x
  | none => s

/-- The raise of the step of group `g` is confirmed in every raised field. -/
def State.confirmStep (s : State) (g : Nat) : State :=
  match s.stepPrepared g with
  | some st => s.when (!s.refs.shortStop && st.raising != []
      && st.raising.all fun f => s.voltConfirmed st.tol f (Tab.get st.vNew f 0)) fun t => t.broadcastStep g st
  | none => s

/-- VOLT_CONFIRM (R185): group `g`, or the region stop for 0xFF. -/
def execVoltConfirm (g : Nat) (s : State) : Host.Outcome State Fault Refusal :=
  .next (if g = 0xFF then s.confirmStop else s.confirmStep g)

/-- The region stop's raise was not confirmed in time: result VOLT_TIMEOUT and the event (R185, R187). -/
def State.timeoutStop (s : State) : State :=
  match s.stop.cur with
  | some x => s.when (x.order == 1 && decide (x.deadline ≤ s.up) && !s.refs.shortStop
      && !s.voltConfirmed x.tol (fieldOf x.region) x.vNew) fun t =>
      (t.event 0x27 (t.groupOf (fieldOf x.region)) (fieldOf x.region)).abortStop x 3
  | none => s

/-- The group step's raise was not confirmed in time (R185): no rising step before the next tick. -/
def State.timeoutStep (s : State) (g : Nat) : State :=
  match s.stepPrepared g with
  | some st =>
    match st.raising.find? fun f => !s.voltConfirmed st.tol f (Tab.get st.vNew f 0) with
    | some f => s.when (decide (st.deadline ≤ s.up) && !s.refs.shortStop) fun t =>
        ((t.event 0x27 g f).modG g fun x => { x with noRise := true }).abortStep g 3
    | none => s
  | none => s

/-! ### Agents and the end of a step (R25, R70, R186) -/

/-- CHANGE_BROADCAST (R25): the last broadcast of its group reaches the agent of a clocked region, once; the agent holds C and
the new ratio, and a count that has already passed C is a late change; a detached region ignores it (R176). -/
def execChangeBroadcast (n : Nat) (s : State) : Host.Outcome State Fault Refusal :=
  let g := s.groupOf (fieldOf n)
  match (s.g g).cast with
  | some x =>
    .next (s.when (s.live n && s.clocked n && !s.on .REGION_DETACHED n && g != 0xFF && (s.r n).heard != some x) fun t =>
      let u := t.modR n fun r => { r with heard := some x }
      if passed (t.rd .REGION_COUNT n) x.1 then u.raiseFault .lateChange 0 n 0
      else u.modR n fun r => { r with change := some x })
  | none => .next s

/-- CHANGE_AT_C (R70, R81, R99, R114): the count has become C; the seed of the new ratio is loaded, a droop run goes
on. -/
def execChangeAtC (n : Nat) (s : State) : Host.Outcome State Fault Refusal :=
  match (s.r n).change with
  | some (c, ratio) =>
    .next (s.when (s.clocked n && passed (s.rd .REGION_COUNT n) c) fun t =>
      (t.loadSeed n ratio).modR n fun r => { r with change := none })
  | none => .next s

/-- The reported count of a region: its newest window report (R186). -/
def State.reportedPast (s : State) (n c : Nat) : Bool :=
  match (s.ee n).report with
  | some w => passed w.count c
  | none => false

/-- GROUP_STEP_END (R143, R186): reports show every island anchor past C + 4 × its island's diameter. -/
def execGroupStepEnd (g : Nat) (s : State) : Host.Outcome State Fault Refusal :=
  match (s.g g).step with
  | some st => match st.c with
    | some c => .next (s.when (!s.refs.shortStop && (s.g g).islands.all fun i => s.reportedPast i.1 (c + 4 * i.2)) fun t => t.endStep g st)
    | none => .next s
  | none => .next s

/-- Every group is frozen at a job fault (R24, R191): steps not broadcast end FROZEN, and an arm's ramp moves nothing more. -/
def State.freezeAll (s : State) : State :=
  let s1 := { s with flt := { s.flt with frozen := true }, su := { s.su with ramping := false } }
  s1.each s1.groups fun t g =>
    if (t.stepPrepared g).isSome then t.abortStep g 5 else t.setChg g .frozen

end Sys2Proof.Machine
end

