-- ==== Sys2Proof/Machine/Estimate.lean ====
section
/-! DEFINITION. Power estimation: lane sweeps, windows, field, group and engine sums, calibration (R224 to R250), and
what each window charges: causes, energy, throttle time and loss, episodes and runs (R137, R287, R341, R346 to R353). -/

set_option Elab.async false

namespace Sys2Proof.Machine
open Sys2Proof

/-- An unsigned sum written to an object: free where it does not fit the object's format. -/
def State.wrFit (s : State) (o : Obj) (v : Nat) (e site : Nat) : State :=
  if v < 2 ^ objBits o then s.wr o v e
  else
    let q := s.free site (objBits o)
    q.2.wr o q.1 e

/-! ### Tables (R231, R232) -/

/-- Entry `j` of VSCALE as window `w` takes it. -/
def State.vs (s : State) (w j : Nat) : Int := bits (s.was .VSCALE w) (16 * j) 16

/-- The window of global time in progress. -/
def State.window (s : State) : Nat := s.T / 16000

/-- The voltage factor of R231 in window `w`, Q3.13.  An extrapolated factor below 0 is taken as 0, and one above the format is not
limited (DESIGN CHOICE: R231 says neither, log 70). -/
def State.vscale (s : State) (w v : Nat) : Nat :=
  let j := if v < 480 then v / 32 else 14
  let x : Int := if v < 480 then v % 32 else v - 448
  (s.vs w j + Int.tdiv ((s.vs w (j + 1) - s.vs w j) * x) 32).toNat

/-- Entry (kv, kt) of the field's LEAK_TABLE. -/
def State.leakEntry (s : State) (f kv kt : Nat) : Nat := bits (s.rd .LEAK_TABLE f) (16 * (16 * kv + kt)) 16

/-- Leakage of R232 in mW at voltage code `v` and a temperature in 0.25 °C. -/
def State.leakage (s : State) (f v : Nat) (t : Int) : Nat :=
  let u := min v 480
  let p := (clampInt 0 480 (t + 40)).toNat
  let kv := u / 32
  let fv := u % 32
  let kt := p / 32
  let ft := p % 32
  (s.leakEntry f kv kt * ((32 - fv) * (32 - ft)) + s.leakEntry f (kv + 1) kt * (fv * (32 - ft))
    + s.leakEntry f kv (kt + 1) * ((32 - fv) * ft) + s.leakEntry f (kv + 1) (kt + 1) * (fv * ft)) / 1024

/-- Leakage of region `n` with its share (R230). -/
def State.leakOf (s : State) (n v : Nat) : Nat := s.leakage (fieldOf n) v (s.temp n).1 * s.rd .LEAK_SHARE n / 128

/-! ### Weights (R238 to R242) -/

/-- The live weight of a lane. -/
def State.weight (s : State) (n i : Nat) : Nat := bits (s.rd .EST_WEIGHT n) (16 * i) 16
/-- The factory weight of a lane. -/
def State.facWeight (s : State) (n i : Nat) : Nat := bits (s.rd .EST_WEIGHT_FACTORY n) (16 * i) 16
/-- The live weight of a lane set. -/
def State.setWeight (s : State) (n i v : Nat) : State := s.wr .EST_WEIGHT (setBits (s.rd .EST_WEIGHT n) (16 * i) 16 v) n
/-- A live weight lies in the band of R242 about the factory weight. -/
def inBand (f w : Nat) : Bool := decide (f - f / 8 ≤ w ∧ w ≤ f + f / 8)
/-- The lanes of region `n`. -/
def State.lanes (s : State) (n : Nat) : List Nat := List.range (s.rd .REGION_LANES n)
/-- Every live weight of region `n` takes its factory weight (R238, R250). -/
def State.factoryWeights (s : State) (n : Nat) : State :=
  (s.wr .EST_WEIGHT (s.rd .EST_WEIGHT_FACTORY n) n).modE n fun x => { x with weightLost := [] }
/-- Idle counters of region `n` clear (R250). -/
def State.clearIdle (s : State) (n : Nat) : State :=
  s.each (s.lanes n) fun t i => t.modLn n i fun l => { l with idle := 0 }
/-- A step of R245 in interval `k`: at least 1. -/
def State.weightStep (s : State) (k f : Nat) : Nat := max 1 (f / 2 ^ s.was .CAL_MU_SHIFT k)

/-- Bit `b` of EST_STATUS of region `n`. -/
def State.setEst (s : State) (n b : Nat) (v : Bool) : State := s.setFlag .EST_STATUS b v n

/-! ### Sweeps (R47, R48, R225 to R228) -/

/-- The baselines of region `n` are lost (R227): an arm, or a sub-domain's return to power. -/
def State.loseBaselines (s : State) (n : Nat) : State :=
  ((s.each (s.lanes n) fun t i => t.modLn n i fun l => { l with based := false }).modE n fun x =>
    { x with
      ended := false
      sweeping := false
      mayBegin := false
      actReq := false
      actAddr := 0
      sweepWin := 0
      endAcc := 0
      endM := 1
      endMask := 0 }).setEst n 2 true

/-- The baselines of region `n` are lost while its clock runs (R227): the core has returned to power.  A sweep in progress goes on,
and is none at whose start every lane had its baseline. -/
def State.loseCoreBaselines (s : State) (n : Nat) : State :=
  ((s.each (s.lanes n) fun t i => t.modLn n i fun l => { l with based := false }).modE n fun x =>
    { x with ended := false, unbased := x.unbased + x.sweeping.toNat }).setEst n 2 true

/-- The windows from the start of the latest sweep to the next sweep's, held at 255 in EST_SWEEP_M, which is a U8, while the
estimate divides by all of them (DESIGN CHOICE: R225 bounds M nowhere, log 71). -/
def State.showM (s : State) (n m : Nat) : State := s.wr .EST_SWEEP_M (min 255 m) n

/-- A sweep ends with its last response (R225); M counts to the next window, at whose start the next sweep may begin. -/
def State.endSweep (s : State) (n : Nat) : State :=
  let m := (s.ee n).sweepWin + 1
  (s.showM n m).modE n fun x =>
    { x with
      sweeping := false
      actReq := false
      actAddr := 0
      ended := true
      endAcc := x.acc
      endInvalid := x.invalid
      endUnbased := x.unbased
      endMask := x.mask
      endM := m }

/-- A sweep begins: the first of its lanes is asked for (R47). -/
def State.beginSweep (s : State) (n : Nat) : State :=
  s.modE n fun x =>
    { x with
      sweeping := true
      mayBegin := false
      lane := 0
      sweepCyc := 0
      actReq := true
      actAddr := 0
      sweepWin := 0
      acc := 0
      invalid := 0
      unbased := 0
      mask := 0 }

/-- SWEEP_START (R47): the first cycle of a window in which no sweep is in progress.  The sweep of a region with no lanes ends
as it begins (DESIGN CHOICE: R48 and R49 count from a last request, and there is none, log 72). -/
def execSweepStart (n : Nat) (s : State) : Host.Outcome State Fault Refusal :=
  .next (s.when (s.present n && s.clocked n && (s.ee n).mayBegin && !(s.ee n).sweeping) fun t =>
    (t.beginSweep n).when (t.rd .REGION_LANES n == 0) fun u => u.endSweep n)

/-- The response of lane `i` of region `n`: the events it contributes, and the lane after it (R226 to R228). -/
def Lane.read (l : Lane) (coreOn vld : Bool) (data : Nat) : Nat × Lane :=
  if vld then
    let d := if l.based then (data + 65536 - l.prev) % 65536 else 0
    (d, { l with prev := data % 65536, based := true, delta := d })
  else (if coreOn then l.delta else 0, { l with based := false })

/-- One due response (R226 to R228, R230): a lane read invalid while the core is off counts nowhere, its missing
baseline included (DEDUCED from R228, log 41). -/
def State.laneDue (s : State) (n : Nat) (vld : Bool) (data : Nat) : State :=
  let i := (s.ee n).lane
  let l := s.ln n i
  let core := s.coreOn n
  let q := l.read core vld data
  let bad := !vld && core
  let s1 := (s.modLn n i fun _ => q.2).modE n fun x =>
    { x with
      lane := i + 1
      acc := x.acc + s.weight n i * q.1
      invalid := x.invalid + bad.toNat
      unbased := x.unbased + (!l.based && (vld || core)).toNat
      mask := setBit x.mask i (q.1 != 0) }
  (s1.when bad fun t => t.inc .LANE_INVALIDS n).when (decide (s.rd .REGION_LANES n ≤ i + 1)) fun t => t.endSweep n

/-- A response is due: ACT_LATENCY cycles have passed since the lane was asked for (R48). -/
def State.responseDue (s : State) (n : Nat) : Bool :=
  (s.ee n).sweeping && decide ((s.ee n).lane + s.rd .ACT_LATENCY n ≤ (s.ee n).sweepCyc)

/-- LANE_RESPONSE (R48): the response due, or a stray one. -/
def execLaneResponse (n : Nat) (vld : Bool) (data : Nat) (s : State) : Host.Outcome State Fault Refusal :=
  .next (if s.responseDue n then s.laneDue n vld data else s.when (vld && s.present n) fun t => t.inc .ACT_PROTO_ERR n)

/-! ### Windows (R224, R230, R245) -/

/-- The region's time as a window sees it: global time during a parked hold, whose windows stay valid (R250). -/
def State.windowTime (s : State) (n : Nat) : Nat :=
  if ((s.r n).park.map (·.parked)).getD false then s.T else s.rd .REGION_TIME n

/-- M of the latest ended sweep as a window closes (R225): while no sweep is in progress the next one may begin in the window
that the region's time has reached, `gap` windows on. -/
def State.sweepM (s : State) (n gap : Nat) : Nat :=
  let x := s.ee n
  if x.sweeping || !x.ended then x.endM else x.sweepWin + gap

/-- The eighths that a parked hold of region `n` has lasted by region time `t` (R109): a window that closes meanwhile is charged
with what has come since the one before (DEDUCED: R347 charges parked holds in the window they fall in, log 102). -/
def State.heldEighths (s : State) (n t : Nat) : Nat :=
  match (s.r n).park.filter (·.parked) with
  | some p => parkEighths (t - p.since) (s.rd .OSC_TARGET_N n)
  | none => 0

/-- The eighths of its parked hold that the window closing at region time `t` is charged with. -/
def State.chargeHold (s : State) (n t : Nat) : State :=
  match (s.r n).park.filter (·.parked) with
  | some p =>
    let d := s.heldEighths n t
    (s.countHold n (d - p.charged) p.thermal).modR n fun r => { r with park := r.park.map fun p => { p with charged := max p.charged d } }
  | none => s

/-- The estimate of R230 for window `w`: dynamic part, leakage, whether the accumulator overflowed. -/
def State.estimate (s : State) (n w : Nat) (forced : Bool) : Nat × Nat × Bool :=
  let x := s.ee n
  let raw := x.endAcc * 2 ^ (x.shift.getD (s.rd .EST_SHIFT n) % 16)
  let ovf := forced || decide (2 ^ 48 ≤ raw)
  let acc := if ovf then 2 ^ 48 - 1 else raw
  let v := s.rd .FIELD_VOLT (fieldOf n)
  (acc * s.vscale w v / (16 * 8192 * 1000000 * max 1 x.endM), s.leakOf n v, ovf)

/-- The activity masks with that of the ended sweep joined to interval `k` (R245). -/
def joinMask (ms : Tab (Nat × Nat)) (k mask : Nat) : Tab (Nat × Nat) :=
  match Tab.get ms (k % 4) (k + 1, 0) with
  | (tag, m) => if tag = k then ms.put (k % 4) (k, Nat.lor m mask) else ms.put (k % 4) (k, mask)

/-- Weight word `w` of region `n` is uncorrectable: it awaits its reload (R41). -/
def State.loseWeight (s : State) (n w : Nat) : State :=
  (s.sramLost .weights 0 n).modE n fun e =>
    { e with weightLost := if e.weightLost.contains w then e.weightLost else e.weightLost ++ [w] }

/-- Reads the weight words of region `n` that injections flipped (R41, R545). -/
def State.readWeights (s : State) (n : Nat) : State :=
  (s.readFlips (fun x => x.isIn .weights n 0 128) fun t x => t.loseWeight n x.word).2

/-- Closes the window in progress of region `n`, number `w`, at region time `t` after `dur` units, and sends its report; the next
sweep may begin `gap` windows on (R224, R230, R235, R136). -/
def State.closeWindow (s0 : State) (n w t dur gap : Nat) : State :=
  let forced := match s0.injAt 10 with
    | some i => i.element == n
    | none => false
  let s2 := ((s0.when forced fun t => t.endInjection 1).readWeights n).chargeHold n t
  let m := s2.sweepM n gap
  let s := (s2.when (s2.ee n).ended fun t => t.showM n m).modE n fun x => { x with endM := m }
  let x := s.ee n
  let r := s.r n
  let q := s.estimate n w forced
  let tf := (s.temp n).2
  let ovf := decide (s.was .INVALID_LANE_LIMIT w < x.endInvalid)
  let bases := x.ended && x.endUnbased == 0
  let valid := bases && !ovf && !q.2.2 && x.weightLost == []
  let spread := decide (1 < x.endM)
  let rep : WinRep :=
    { win := w, est := min (q.1 + q.2.1) 0xFFFFFF, dyn := q.1, leak := q.2.1, valid := valid, spread := spread,
      tempFallback := tf, charges := r.charges, unattributed := x.unattributed, eDroop := x.eDroop, eTether := x.eTether,
      eCap := x.eCap, eFloor := x.eFloor, eTherm := x.eTherm, cycles := x.cycles, count := s.rd .REGION_COUNT n,
      time := s.rd .REGION_TIME n, dur := dur, parked := (r.park.map (·.parked)).getD false,
      thermalPark := (r.park.map fun p => p.parked && p.thermal).getD false }
  let s1 := (s.modR n fun r => { r with charges := [] }).modE n fun x =>
    { x with
      win := some (w + 1)
      before := x.report
      report := some rep
      eDroop := 0
      eTether := 0
      eCap := 0
      eFloor := 0
      eTherm := 0
      cycles := 0
      unattributed := 0
      masks := joinMask x.masks (w / 10) (if x.ended then x.endMask else 0)
      mayBegin := !x.sweeping
      sweepWin := x.sweepWin + 1
      dynSum := x.dynSum + q.1
      dynCount := x.dynCount + 1
      shift := none }
  let st := valid.toNat + spread.toNat * 2 + (!bases).toNat * 4 + q.2.2.toNat * 8 + ovf.toNat * 16
    + (x.weightLost != []).toNat * 32 + tf.toNat * 64 + (!s.coreOn n).toNat * 512 + bits (s.rd .EST_STATUS n) 10 1 * 1024
  let s2 := ((s1.wr .EST_POWER rep.est n).wr .EST_DYN q.1 n).wr .EST_LEAK q.2.1 n
  (s2.wr .EST_STATUS st n).when q.2.2 fun t => t.inc .EST_OVERFLOWS n

/-- WINDOW_CLOSE (R224): the region's time has reached the end of its window; a park that spans windows closes them one
after the other. -/
def execWindowClose (n : Nat) (s : State) : Host.Outcome State Fault Refusal :=
  match (s.ee n).win with
  | some w =>
    .next (s.when (s.present n && s.clocked n && (s.r n).timeValid && decide ((w + 1) * 16000 ≤ s.windowTime n)) fun t =>
      t.closeWindow n w ((w + 1) * 16000) 16000 (t.windowTime n / 16000 - w))
  | none => .next s

/-- WEIGHT_RELOAD (R41): the first lost word takes its factory weights. -/
def execWeightReload (n : Nat) (s : State) : Host.Outcome State Fault Refusal :=
  match (s.ee n).weightLost with
  | w :: rest =>
    .next (((s.each ((List.range 4).map (4 * w + ·)) fun t i => t.setWeight n i (t.facWeight n i)).modE n fun x =>
      { x with weightLost := rest }).setEst n 5 (rest != []))
  | [] => .next s

/-! ### What a window charges (R137, R287, R341, R346, R347) -/

/-- The windows of global time that have ended. -/
def State.winsEnded (s : State) : Nat := s.T / 16000

/-- The entry of region `n` in window `w` of its field (R234, R236). -/
structure Entry where
  est : Nat := 0
  dyn : Nat := 0
  subst : Bool := false
  clean : Bool := true
  rep : Option WinRep := none
  deriving DecidableEq, Repr

/-- The report of region `n` for window `w`. -/
def State.reportFor (s : State) (n w : Nat) : Option WinRep :=
  ((s.ee n).report.toList ++ (s.ee n).before.toList).find? fun x => x.win == w

/-- The estimate that the Field Station enters for region `n` in window `w`. -/
def State.entry (s : State) (n w : Nat) : Entry :=
  if s.routerOn n = false then {}
  else
    let x := s.ee n
    match (s.reportFor n w).filter (·.valid) with
    | some p => { est := p.est, dyn := p.dyn, clean := !p.spread && !p.tempFallback, rep := some p }
    | none =>
      let p := match x.lastValid with
        | some p => if x.substituted < s.was .EST_HOLD_WINDOWS w then p else s.rd .REGION_PMAX n
        | none => s.rd .REGION_PMAX n
      { est := p, dyn := 0, subst := true, clean := false, rep := s.reportFor n w }

/-- The count of substituted windows of region `n` stands still: from the halt of R509 to the count release of the re-arm
(R236). -/
def State.substHeld (s : State) (n : Nat) : Bool := s.su.halted && !s.osc n .counting

/-- What the entry leaves behind: the last valid estimate, or one more substituted window (R236), and the status of a region
without router power, whose CAL_SATURATED stays (R248). -/
def State.keepEntry (s : State) (n : Nat) (x : Entry) : State :=
  if s.routerOn n = false then
    ((s.wr .EST_STATUS (0x301 + bits (s.rd .EST_STATUS n) 10 1 * 1024) n).wr .EST_POWER 0 n).wr .EST_DYN 0 n |>.wr .EST_LEAK 0 n
  else if x.subst then s.modE n fun y => { y with substituted := y.substituted + (!s.substHeld n).toNat }
  else s.modE n fun y => { y with lastValid := some x.est, substituted := 0 }

/-- The partition of region `n` in force. -/
def State.partOf (s : State) (n : Nat) : Nat := Tab.get s.energy.parts n 0xFF

/-- The partition of region `n` that was in force in window `w` (R340). -/
def State.partAt (s : State) (n w : Nat) : Nat :=
  if w < s.energy.partsFrom then Tab.get s.energy.partsOld n 0xFF else s.partOf n

/-- Energy of window `w` of region `n` (R341): est × K_f nJ, by the K_f and the partition in force in that window, kept in units of
nJ / 16384 until the tick. -/
def State.chargeEnergy (s : State) (n w : Nat) (x : Entry) : State :=
  let q := x.est * s.was .FIELD_EST_CORR w (fieldOf n)
  let p := s.partAt n w
  let t1 := Tab.set s.energy.tick p (Tab.get s.energy.tick p 0 + q) 0
  let t2 := Tab.set t1 0x100 (Tab.get t1 0x100 0 + q) 0
  ({ s with energy := { s.energy with tick := t2 } }).when (x.subst && p != 0xFF) fun t =>
    t.addWrap .PART_SUBST_WINDOWS 1 p

/-- Adds eighths of cap and floor stretch, own or caused, and cycles to the sums of a region's holder: of the tick
and of the occurrence (R274, R305). -/
def State.addLoss (s : State) (n eighths cycles : Nat) : State :=
  s.modG (s.groupOf (fieldOf n)) fun x =>
    { x with
      lostSum := x.lostSum + eighths
      cycleSum := x.cycleSum + cycles
      occ := x.occ.map fun o => { o with lost := o.lost + eighths, cycles := o.cycles + cycles } }

/-- The Conductor attributes one tag's eighths (R137). -/
def State.attribute (s : State) (n : Nat) (t : Tag × Nat) : State :=
  let m := t.1.region.getD n
  if t.1.cls = 1 then
    ((s.addWrap .CAUSED_DROOP t.2 m).modR m fun r => { r with tickCaused := r.tickCaused + t.2 }).modF (fieldOf m) fun x =>
      { x with occ := { x.occ with caused := x.occ.caused + t.2 } }
  else if t.1.cls = 2 then (s.addWrap .CAUSED_CAP t.2 m).addLoss m t.2 0
  else if t.1.cls = 3 then (s.addWrap .CAUSED_FLOOR t.2 m).addLoss m t.2 0
  else s.addWrap .TETHER_UNATTRIB t.2 m

/-- What one region's report of a window charges beside its estimate. -/
def State.chargeReport (s : State) (n : Nat) (x : Entry) : State :=
  match x.rep with
  | some p => (s.each p.charges fun t c => t.attribute n c).addLoss n (p.eCap + p.eFloor + p.eTherm) p.cycles
  | none => s

/-- The sums of stretch over some reports: droop, tether, cap, floor throttle, trip parks, cycles, and whether a region was parked
by floor throttle or by a trip. -/
structure Loss where
  droop : Nat := 0
  tether : Nat := 0
  cap : Nat := 0
  floor : Nat := 0
  therm : Nat := 0
  cycles : Nat := 0
  parked : Bool := false
  tripped : Bool := false
  deriving DecidableEq, Repr

/-- The sums with one report added. -/
def Loss.add (a : Loss) (p : WinRep) : Loss :=
  { droop := a.droop + p.eDroop, tether := a.tether + p.eTether, cap := a.cap + p.eCap, floor := a.floor + p.eFloor,
    therm := a.therm + p.eTherm, cycles := a.cycles + p.cycles, parked := a.parked || (p.parked && !p.thermalPark),
    tripped := a.tripped || p.thermalPark }

/-- The reason of a window in which regions of the field were parked, as their reports give it: a trip's park, or floor throttle's
(R287). -/
def Loss.parkReason (l : Loss) : Option Nat :=
  if l.tripped || l.therm != 0 then some 3 else if l.parked || l.floor != 0 then some 7 else none

/-- The ceiling holds the target of group `g` below its preference. -/
def State.ceilHolds (s : State) (g : Nat) : Bool := s.groups.contains g && decide (s.ceilN g < s.prefN g)

/-- Fixed-Rate mode holds group `g` below its ceiling entry. -/
def State.fixedHolds (s : State) (g : Nat) : Bool :=
  s.groups.contains g && s.on .FIXED_RATE_ENABLE g && decide (s.targetN g < s.ceilN g)

/-- The reason that stretch of the fast cap loop is charged to: RAIL_CURRENT while a rail limit gave the duty (R254, R256),
else FIELD_LIMIT_REASON (R287; DEDUCED, log 75). -/
def State.capReason (s : State) (f : Nat) : Nat := if (s.f f).railBinds then 0 else s.rd .FIELD_LIMIT_REASON f

/-- The reason charged to field `f` for a window (R287); 0xFF none. -/
def State.windowReason (s : State) (f : Nat) (l : Loss) : Nat :=
  let g := s.groupOf f
  match l.parkReason with
  | some r => r
  | none =>
    if l.cap ≠ 0 then s.capReason f
    else if s.ceilHolds g then s.rd .GROUP_CEIL_REASON g
    else if s.fixedHolds g then 8 else 0xFF

/-- The losses of R347 by reason. -/
def State.lossList (s : State) (f : Nat) (l : Loss) : List (Nat × Nat) :=
  let g := s.groupOf f
  let n : Int := s.targetN g
  let part (site hi : Nat) : Nat := (divOpen site (8 * l.cycles * ((hi : Int) - n)) n).toNat
  [(10, l.droop), (9, l.tether), (s.capReason f, l.cap), (3, l.therm), (7, l.floor)]
    ++ (if s.ceilHolds g then [(s.rd .GROUP_CEIL_REASON g, part 11 (s.prefN g))] else [])
    ++ (if s.fixedHolds g then [(8, part 12 (s.ceilN g))] else [])

/-- Throttle time and loss of field `f` for a window (R346, R347). -/
def State.chargeThrottle (s : State) (f : Nat) (l : Loss) : State :=
  let r := s.windowReason f l
  let ls := s.lossList f l
  let s1 := ((s.when (decide (r < 12)) fun t => t.addWrap .THR_TIME 1 f r).when (l.droop != 0) fun t =>
    t.addWrap .THR_TIME 1 f 10).when (l.tether != 0) fun t => t.addWrap .THR_TIME 1 f 9
  let s2 := s1.each (ls.filter fun x => decide (x.1 < 12)) fun t x => t.addWrap .THR_LOST x.2 f x.1
  let cap := s.capReason f
  (s2.wr .THR_REASON_NOW r f).modF f fun x =>
    { x with
      thrReason := r
      thrLost := ls.foldl (fun a y => Tab.set a y.1 (Tab.get a y.1 0 + y.2) 0) []
      capByReason := Tab.set x.capByReason cap (Tab.get x.capByReason cap 0 + l.cap) 0 }

/-! ### Domain means (R243) -/

/-- The domains of field `f`. -/
def State.fieldDomains (s : State) (f : Nat) : List Nat := ((s.fieldRegions f).map s.domainOf).dedup

/-- The part of a window of domain `d`: its regions' entries. -/
def State.domainWindow (s : State) (d w : Nat) (es : List (Nat × Entry)) : State :=
  let mine := es.filter fun x => s.domainOf x.1 == d
  let est := sumOf (mine.map (·.2.est))
  let s1 := s.modD d fun x =>
    { x with
      winEst := est
      estSum := x.estSum + est
      dynSum := x.dynSum + sumOf (mine.map (·.2.dyn))
      windows := x.windows + 1
      invalid := x.invalid || mine.any fun y => !y.2.clean
      notOn := x.notOn || s.rd .DOMAIN_STATE d != 0 }
  s1.when (w % 10 == 9) fun t => t.modD d fun x =>
    { x with
      ready := some ((divOpen 13 x.estSum x.windows).toNat, (divOpen 14 x.dynSum x.windows).toNat, w / 10)
      flags := x.invalid.toNat + x.notOn.toNat * 2 + x.timeStep.toNat * 4
      estSum := 0
      dynSum := 0
      windows := 0
      invalid := false
      notOn := false
      timeStep := false }

/-! ### Episodes (R348 to R350) -/

/-- The open episode of holder `g` closes in window `w` (R348, R349). -/
def State.closeEpisode (s : State) (g w : Nat) (truncated : Bool) : State :=
  match (s.g g).ep with
  | none => s
  | some e =>
    let s1 := (s.modG g fun x => { x with ep := none }).when (g != 0xFF) fun t => t.wr .EPISODE_OPEN_REASON 0xFF g
    if e.last - e.start < 16000 * s.was .EPISODE_MIN w then s1.inc .EPISODE_SHORT
    else
      let slot := s.rd .EPISODE_NEXT
      let rec0 := e.start % 2 ^ 64 + e.last % 2 ^ 64 * 2 ^ 64 + e.lost % 2 ^ 64 * 2 ^ 128 + e.reason % 256 * 2 ^ 192
        + g % 256 * 2 ^ 200 + min 255 e.fields * 2 ^ 208 + (truncated.toNat + e.unatt.toNat * 2) * 2 ^ 216
        + s.rd .EPISODE_SEQ * 2 ^ 224
      ((((s1.when (s.rd .EPISODE 0 slot != 0) fun t => t.inc .EPISODE_OVERWRITTEN).wr .EPISODE rec0 0 slot).addWrap
        .EPISODE_NEXT 1).addWrap .EPISODE_SEQ 1)

/-- The dominant reason of a window of a holder: the reason charged to most fields, the lowest code on a tie, with the
number of fields (R348). -/
def dominant (rs : List Nat) : Option (Nat × Nat) :=
  (List.range 12).foldl (fun b r =>
    let c := rs.count r
    match b with
    | some (r0, c0) => if c0 < c then some (r, c) else some (r0, c0)
    | none => if c = 0 then none else some (r, c)) none

/-- A new episode of holder `g` at window `w`. -/
def State.openEpisode (s : State) (g w r fields lost : Nat) : State :=
  (s.modG g fun x =>
    { x with ep := some { reason := r, start := 16000 * w, last := 16000 * (w + 1), lost := lost, fields := fields } }).when
    (g != 0xFF) fun t => t.wr .EPISODE_OPEN_REASON r g

/-- One window of the episode of holder `g` (R348). -/
def State.episodeWindow (s : State) (g w : Nat) : State :=
  let fs := s.holderFields g
  let lost (r : Nat) : Nat := sumOf (fs.map fun f => Tab.get (s.f f).thrLost r 0)
  match dominant (fs.map fun f => (s.f f).thrReason), (s.g g).ep with
  | none, none => s
  | none, some e => s.modG g fun x => { x with ep := some { e with gap := e.gap + 1 } }
  | some (r, c), none => s.openEpisode g w r c (lost r)
  | some (r, c), some e =>
    if e.reason = r ∧ e.gap < s.was .EPISODE_GAP w then
      s.modG g fun x => { x with ep := some { e with last := 16000 * (w + 1), lost := e.lost + lost r, fields := max e.fields c, gap := 0 } }
    else (s.closeEpisode g w false).openEpisode g w r c (lost r)

/-- The number of the latest window that holder `g` has been charged with. -/
def State.holderWin (s : State) (g : Nat) : Nat := (s.f ((s.holderFields g).headD 0)).win - 1

/-- EPISODE_CLOSE (R348): EPISODE_GAP windows with no dominant reason. -/
def execEpisodeClose (g : Nat) (s : State) : Host.Outcome State Fault Refusal :=
  match (s.g g).ep with
  | some e =>
    .next (s.when (decide (s.was .EPISODE_GAP (s.holderWin g) ≤ e.gap)) fun t => t.closeEpisode g (t.holderWin g) false)
  | none => .next s

/-! ### Runs (R351 to R353) -/

/-- The anchor of group `g` stored last (R143).  GROUP_COUNT of a group with no clocked region reads its count (DESIGN CHOICE: R146
gives the count no value there, log 95). -/
def State.anchorOf (s : State) (g : Nat) : Nat := s.rd .GROUP_ANCHOR g

/-- The count of a region as its newest report gives it. -/
def State.reportedCount (s : State) (n : Nat) : Nat := ((s.ee n).report.map (·.count)).getD (s.rd .REGION_COUNT n)

/-- A run of group `g` starts at the boundary at global time `t0`. -/
def State.startRun (s : State) (g t0 : Nat) : State :=
  let a := s.anchorOf g
  let s1 := s.each [Obj.RUN_TIME, .RUN_CYCLES, .RUN_IDEAL, .RUN_LOST, .RUN_LOSS_PPM] fun t o => t.wr o 0 g
  let s2 := s1.each (List.range 12) fun t r => t.wr .RUN_LOST_E 0 g r
  ((s2.wr .RUN_STATUS 1 g).wr .RUN_START_TIME t0 g).modG g fun x =>
    { x with run := { running := true, anchor := a, count0 := s.reportedCount a, fixedN := s.rd .FIXED_RATE_N g } }

/-- The conditions of R353 that a window finds broken, as bits of RUN_STATUS 7 to 10; what breaks one as it happens sets its bit
then (`State.markRuns`). -/
def State.runFlags (s : State) (g : Nat) : Nat :=
  let other := (s.groupFields g).any fun f => (s.f f).thrReason != 8 && (s.f f).thrReason != 0xFF
  let quar := (s.groupRegions g).any fun n => s.rd .DS_QUARANTINE n != 0
  (s.isReady .holdover).toNat * 128 + (s.flag .CAP_STATUS 3).toNat * 256 + other.toNat * 512 + quar.toNat * 1024

/-- One window of a run in progress (R352). -/
def State.runWindow (s : State) (g w : Nat) : State :=
  let x := (s.g g).run
  let a := x.anchor
  let f := fieldOf a
  let rep := s.reportFor a w
  let ideal := x.ideal16 + 25 * s.prefN g
  let cycles := (s.reportedCount a + 2 ^ 48 - x.count0) % 2 ^ 48
  let s1 := ((s.addWrap .RUN_TIME ((rep.map (·.dur)).getD 16000) g).wr .RUN_CYCLES cycles g).wr .RUN_IDEAL (ideal / 16) g
  let lost := ideal / 16 - cycles
  let s2 := (s1.wr .RUN_LOST lost g).wr .RUN_LOSS_PPM (divAt 15 (lost * 1000000 : Nat) (ideal / 16 : Nat)).toNat g
  let s3 := match rep with
    | some p => s2.each ((s.lossList f (({} : Loss).add p)).filter fun (y : Nat × Nat) => decide (y.1 < 12)) fun t y =>
        t.addWrap .RUN_LOST_E (y : Nat × Nat).2 g y.1
    | none => s2
  let keep := s.on .FIXED_RATE_ENABLE g && s.rd .FIXED_RATE_N g == x.fixedN
  (s3.wr .RUN_STATUS (Nat.lor (s3.rd .RUN_STATUS g) (s.runFlags g)) g).modG g fun y =>
    { y with run := { y.run with ideal16 := ideal, cond := y.run.cond && keep } }

/-- The end of a run: the bound conditions (R353). -/
def State.endRunReport (s : State) (g : Nat) (faulted : Bool) : State :=
  let short := decide (s.rd .RUN_TIME g < 1600000000)
  let st := setBit (setBit (Nat.lor (s.rd .RUN_STATUS g) 2) 0 false) 11 short
  let st1 := setBit st 5 faulted
  let ok := (s.g g).run.cond && !faulted && !short && bits st1 5 6 == 0
  let inBound := decide (s.rd .RUN_LOSS_PPM g ≤ s.rd .RUN_BOUND_PPM)
  let st2 := st1 + (if ok then (if inBound then 4 + 8 else 4 + 16) else 0)
  ((s.wr .RUN_STATUS st2 g).modG g fun x => { x with run := {} }).when (ok && !inBound) fun t =>
    t.event 0x28 g (t.rd .RUN_LOSS_PPM g)

/-- The window boundary of group `g` for its run (R351). -/
def State.runBoundary (s : State) (g w : Nat) : State :=
  let s1 := s.when (s.g g).run.running fun t => t.runWindow g w
  let x := (s1.g g).run
  let s2 := if x.running && x.faultAt then s1.endRunReport g true
    else if x.running && x.ctl == some 2 then s1.endRunReport g false
    else s1
  let s3 := s2.when (x.ctl == some 1 && !x.running) fun t => t.startRun g (16000 * (w + 1))
  s3.modG g fun y => { y with run := { y.run with ctl := none } }

/-! ### Occurrences (R304, R305, R311) -/

/-- The tracker of R304 after a window of `p` mW: a rise of 19 steps or a fall of one. -/
def trackP95 (q p : Nat) : Nat :=
  let st := max 1 (q / 256)
  min 2047 (if 250 * q < p then q + 19 * st else q - st)

/-- A window of field `f` in the occurrence of its group: `p` mW corrected, and its stretch. -/
def State.occField (s : State) (f p : Nat) (l : Loss) : State :=
  match (s.g (s.groupOf f)).occ with
  | some o =>
    let onset := decide (s.T ≤ o.begun + 16000 * s.markVal .PR_ONSET)
    s.modF f fun x =>
      let c := x.occ
      let q := if c.fresh then min 2047 (p / 250) else trackP95 c.p95 p
      { x with occ :=
          { energy := c.energy + p, droop := c.droop + l.droop, cycles := c.cycles + l.cycles, caused := c.caused,
            onDroop := c.onDroop + (if onset then l.droop else 0), onCycles := c.onCycles + (if onset then l.cycles else 0),
            p95 := q, fresh := false } }
  | none => s

/-- The occurrence of group `g` leaves the entry chosen after its first 100 µs, or sees holdover or HOT_N (R305). -/
def State.occGroup (s : State) (g : Nat) : State :=
  match (s.g g).occ with
  | some o =>
    let off := match o.entry with
      | some e => decide (o.begun + 1600000 ≤ s.T) && s.rd .GROUP_N g != opN (s.opTableNow g) e
      | none => true
    s.when off fun t => t.spoil g
  | none => s

/-! ### Window reports (R235 to R237) -/

/-- The group's sums of window `w`, once every field of holder `g` has reported (R235, R348, R351). -/
def State.holderWindow (s : State) (g w : Nat) : State :=
  let fs := s.holderFields g
  if fs.any fun f => (s.f f).win != w + 1 then s
  else
    let s1 := if g = 0xFF then s
      else
        let a := s.wrFit .GROUP_EST (sumOf (fs.map fun f => s.rd .FIELD_EST f)) g 16
        a.wrFit .GROUP_EST_SUBST (sumOf (fs.map fun f => s.rd .FIELD_EST_SUBST f)) g 17
    let s2 := s1.modG g fun x =>
      { x with
        powSum := x.powSum + sumOf (fs.map fun f => s.corrected f (s.rd .FIELD_EST f))
        windows := x.windows + 1 }
    let s3 := s2.episodeWindow g w
    if g = 0xFF then s3 else (s3.runBoundary g w).occGroup g

/-- The engine's sums of window `w`, once every field has reported. -/
def State.engineWindow (s : State) (w : Nat) : State :=
  if s.fields.any fun f => (s.f f).win != w + 1 then s
  else (s.wrFit .ENGINE_EST (sumOf (s.fields.map fun f => s.rd .FIELD_EST f)) 0 18).wrFit .ENGINE_EST_SUBST
    (sumOf (s.fields.map fun f => s.rd .FIELD_EST_SUBST f)) 0 19

/-- The Conductor's sums of window `w` of field `f`. -/
def State.conductorWindow (s : State) (f w : Nat) : State := (s.holderWindow (s.groupOf f) w).engineWindow w

/-- Window `w` of field `f` on its way to the Conductor: in a short stop of CTL the spine holds it (R34). -/
def State.sendWindow (s : State) (f w : Nat) : State :=
  if s.refs.shortStop then
    let x : HeldWin := { field := f, win := w, est := s.rd .FIELD_EST f, subst := s.rd .FIELD_EST_SUBST f,
                         reason := (s.f f).thrReason, lost := (s.f f).thrLost }
    { s with refs := { s.refs with heldWins := s.refs.heldWins ++ [x] } }
  else s.conductorWindow f w

/-- A field sum that the spine held reaches the Conductor. -/
def State.takeWindow (s : State) (x : HeldWin) : State :=
  (((s.wr .FIELD_EST x.est x.field).wr .FIELD_EST_SUBST x.subst x.field).modF x.field fun y =>
    { y with win := x.win + 1, thrReason := x.reason, thrLost := x.lost }).conductorWindow x.field x.win

/-- The short stop has ended: what the spine held arrives, oldest first. -/
def State.takeWindows (s : State) : State :=
  ({ s with refs := { s.refs with heldWins := [] } } : State).each s.refs.heldWins State.takeWindow

/-- The Field Station of field `f` sums window `w`. -/
def State.reportWindow (s : State) (f w : Nat) : State :=
  let es := ((s.fieldRegions f).filter s.live).map fun n => (n, s.entry n w)
  let reps := es.filterMap fun x => x.2.rep
  let loss := reps.foldl Loss.add {}
  let s1 := s.each es fun t x => ((t.keepEntry x.1 x.2).chargeEnergy x.1 w x.2).chargeReport x.1 x.2
  let s2 := s1.wrFit .FIELD_EST (sumOf (es.map (·.2.est))) f 20
  let s3 := (s2.wr .FIELD_EST_SUBST (es.filter (·.2.subst)).length f).chargeThrottle f loss
  let s4 := s3.each (s3.fieldDomains f) fun t d => t.domainWindow d w es
  let s5 := s4.modF f fun x =>
    { x with
      win := w + 1
      ready := true
      powSum := x.powSum + s4.corrected f (s4.rd .FIELD_EST f)
      windows := x.windows + 1 }
  (s5.occField f (s5.corrected f (s5.rd .FIELD_EST f)) loss).sendWindow f w

/-- The window that field `f` is to report: one that a TIME_SET left, else that of global time which ended last, once (R235, R250). -/
def State.reportDue (s : State) (f : Nat) : Option Nat :=
  match (s.f f).late with
  | w :: _ => some w
  | [] => if (s.f f).win < s.winsEnded ∨ s.winsEnded + 2 < (s.f f).win then some (s.winsEnded - 1) else none

/-- WINDOW_REPORT (R235): field `f` reports the window that is due. -/
def execWindowReport (f : Nat) (s : State) : Host.Outcome State Fault Refusal :=
  match (s.reportDue f).filter fun _ => s.fields.contains f with
  | some w => .next ((s.modF f fun x => { x with late := x.late.drop 1 }).reportWindow f w)
  | none => .next s

/-- ESTIMATOR_READY (R238, R499): the factory weights are loaded, which the opening of the dictionary does, and every region
present and not excluded reports validity 1. -/
def execEstimatorReady (s : State) : Host.Outcome State Fault Refusal :=
  .next (s.when (s.seqRuns && s.isReady .dict && s.liveRegions.all fun n => !s.routerOn n || (((s.ee n).report.map (·.valid)).getD false)) fun t =>
    t.setReady .estimator true)

/-! ### Calibration (R243 to R248, R250) -/

/-- A skipped interval of domain `d` with its code (R244). -/
def State.calSkip (s : State) (d code : Nat) : State :=
  (s.wr .CAL_SKIP_LAST code d).inc (if code = 9 then .CAL_DEADBAND_HITS else .CAL_SKIPS) d

/-- FIELD_VOLT of field `f` changed in interval `k` or the one before, or a step is in flight (gate 4). -/
def State.voltMoving (s : State) (f k : Nat) : Bool :=
  let hit (o : Option Nat) : Bool := match o with
    | some j => j == k || j + 1 == k
    | none => false
  hit (s.f f).voltChanged || hit (s.f f).voltBefore || (s.g (s.groupOf f)).step.isSome

/-- What the gates compare: interval, estimate and its dynamic part, flags, the power measured (none: no telemetry) and
the estimate of the interval before. -/
structure CalIn where
  k : Nat
  est : Nat
  dyn : Nat
  flags : Nat
  meas : Option Nat
  prev : Nat
  field : Nat
  deriving DecidableEq, Repr

/-- The first gate of 1 to 9 of R244 that holds, 0 for none. -/
def State.calGate (s : State) (x : CalIn) : Nat :=
  let on := s.was .CAL_ENABLE x.k == 1 && !s.frozen
  match x.meas with
  | none => if on then 2 else 1
  | some m =>
    if !on then 1
    else if bit x.flags 0 then 3
    else if s.voltMoving x.field x.k then 4
    else if bit x.flags 1 then 5
    else if bit x.flags 2 then 6
    else if x.dyn * 100 < x.est * s.was .CAL_MIN_DYN x.k then 7
    else if x.prev * s.was .CAL_STEADY x.k < ((x.est : Int) - x.prev).natAbs * 256 then 8
    else if ((m : Int) - x.est).natAbs * 256 ≤ m * s.was .CAL_DEADBAND x.k then 9
    else 0

/-- The decision of domain `d` (R244): the ended interval is skipped, or its sign is sent to the domain's agents. -/
def State.calDecide (s : State) (d : Nat) (x : CalIn) : State :=
  let e : Int := ((x.meas.getD 0 : Nat) : Int) - x.est
  let s0 := (s.wr .DOMAIN_EST x.est d).wr .DOMAIN_MEAS (x.meas.getD 0xFFFFFFFF) d
  let s1 := match x.meas with
    | some m => (s0.wrSat .CAL_ERR e d).modF x.field fun y =>
        { y with
          measSum := y.measSum + m
          estSum := y.estSum + x.est
          intervals := if y.kfLast = some x.k then y.intervals else y.intervals + 1
          kfLast := some x.k }
    | none => s0
  let s2 := s1.modD d fun y => { y with ready := none, prevEst := some x.est }
  let gate := s.calGate x
  if gate ≠ 0 ∧ gate < 9 then s2.calSkip d gate
  else
    let s3 := s2.modD d fun y => { y with errs := y.errs ++ [(e, x.meas.getD 0)] }
    if gate = 9 then s3.calSkip d 9
    else
      let n := (s.d d).sinceUpdate + 1
      if n < s.was .CAL_RATE x.k then (s3.calSkip d 10).modD d fun y => { y with sinceUpdate := n }
      else
        let sg : Int := if 0 < e then 1 else -1
        ((s3.wr .CAL_SKIP_LAST 0 d).inc .CAL_UPDATES d).modD d (fun y => { y with sinceUpdate := 0 }) |>.each
          (s3.domainRegions d) fun t n => t.modE n fun y => { y with signs := y.signs ++ [(x.k, sg)] }

/-- CAL_DECISION (R243, R244): the ended interval of domain `d`, once its telemetry is there or CAL_TLM_WAIT is over. -/
def execCalDecision (d : Nat) (s : State) : Host.Outcome State Fault Refusal :=
  match (s.d d).ready, s.rails.find? (fun r => s.rd .RAIL_DOMAIN r == d) with
  | some (est, dyn, k), some r =>
    let here := (s.ra r).gotK == some k
    let ovf := decide ((k + 1) * 160000 + 16000 * s.rd .CAL_TLM_WAIT ≤ s.T)
    let meas := if here && (s.ra r).gotValid && s.railOk r then some (railPower (s.rd .RAIL_VMEAS r) (s.rd .RAIL_IMEAS r)) else none
    .next (s.when (here || ovf) fun t => t.calDecide d
      { k := k, est := est, dyn := dyn, flags := (t.d d).flags, meas := meas, prev := (t.d d).prevEst.getD 0,
        field := fieldOf (t.rd .DOMAIN_FIRST_REGION d) })
  | _, _ => .next s

/-- One lane of a sign for interval `k` (R245). -/
def State.signLane (s : State) (n k i : Nat) (sg : Int) : State :=
  let f := s.facWeight n i
  if f = 0 then s
  else
    let w := (clampInt (f - f / 8 : Nat) (f + f / 8 : Nat) (s.weight n i + sg * s.weightStep k f)).toNat
    (s.setWeight n i w).modLn n i fun l => { l with idle := 0 }

/-- CAL_SIGN (R245, R250): the oldest sign on its way to region `n` arrives. -/
def execCalSign (n : Nat) (s : State) : Host.Outcome State Fault Refusal :=
  match (s.ee n).signs with
  | [] => .next s
  | (k, sg) :: rest =>
    let s1 := s.modE n fun x => { x with signs := rest }
    let m := Tab.get (s.ee n).masks (k % 4) (k + 1, 0)
    if k < (s.ee n).signFloor ∨ m.1 ≠ k then .next (s1.inc .CAL_LATE n)
    else .next (s1.each ((s.lanes n).filter fun i => bit m.2 i) fun t i => t.signLane n k i sg)

/-- The weights of region `n` at a tick (R246, R248): idle lanes decay, lanes at a limit are counted. -/
def State.decayLane (s : State) (n i : Nat) : State :=
  let f := s.facWeight n i
  let w := s.weight n i
  let ticks := s.was .CAL_IDLE_TICKS (s.T / 160000)
  let step := s.weightStep (s.T / 160000) f
  let idle := min ticks ((s.ln n i).idle + 1)
  let s1 := s.modLn n i fun l => { l with idle := idle }
  if ticks ≤ idle ∧ w ≠ f then s1.setWeight n i (if f < w then max f (w - step) else min f (w + step))
  else s1

/-- CAL_SATURATED of region `n` at a tick (R248). -/
def State.saturation (s : State) (n : Nat) : State :=
  let used := (s.lanes n).filter fun i => s.facWeight n i != 0
  let atEnd := used.filter fun i =>
    let f := s.facWeight n i
    s.weight n i == f - f / 8 || s.weight n i == f + f / 8
  let dev := ratSum (used.map fun i => ((s.weight n i : Int) - s.facWeight n i, (s.facWeight n i : Int)))
  let s1 := (s.wr .EST_WEIGHTS_AT_CLAMP atEnd.length n).when (used != []) fun t =>
    t.wrSat .EST_WEIGHT_DEV (divOpen 22 (10000 * dev.1) (dev.2 * used.length)) n
  if used ≠ [] ∧ used.length ≤ 4 * atEnd.length then
    let k := (s.ee n).clampTicks + 1
    let s2 := s1.modE n fun x => { x with clampTicks := k }
    if k = 1000 then ((s2.setEst n 10 true).inc .CAL_SATURATED_EVENTS).event 0x32 n atEnd.length else s2
  else (s1.modE n fun x => { x with clampTicks := 0 }).setEst n 10 false

/-- The estimator's part of a tick: weights of every powered region, the means of CAL_ERR_MEAN. -/
def State.estimatorTick (s : State) : State :=
  let s1 := s.each (s.liveRegions.filter s.routerOn) fun t n =>
    ((t.each (t.lanes n) fun u i => u.decayLane n i).saturation n)
  s1.each s1.domains fun t d =>
    let es := (t.d d).errs
    let sum := ratSum (es.map fun x => (x.1, (x.2 : Int)))
    (t.when (es != []) fun u => u.wrSat .CAL_ERR_MEAN
      (divOpen 23 (10000 * sum.1) (sum.2 * es.length)) d).modD d fun x => { x with errs := [] }

end Sys2Proof.Machine
end

