-- ==== Sys2Proof/Machine/MailBase.lean ====
section
/-! DEFINITION. Storage of the Mailbox Unit: notices, epochs, discards, doorbell delivery and locks (R385 to R400). -/

set_option Elab.async false

namespace Sys2Proof.Machine
open Sys2Proof

/-- W4-L or W4-X: mailbox storage is remote (R385). -/
def State.remoteMail (s : State) : Bool := decide (2 ≤ s.rd .CONFIG_CLASS)

/-- A status of R13. -/
inductive Code where
  | ok | notReady | busy | denied | noObject | badType | range | readOnly | lifecycle | expertRequired | malformed
  | timeout | poweredDown | internal
  deriving DecidableEq, Repr
/-- The code of a status. -/
def Code.num (c : Code) : Nat := c.ctorIdx

/-- The response outputs of the engine port (R42, R45): a response stays presented until the next one. -/
def State.respondNum (s : State) (id status data : Nat) : State :=
  { s with ports := { s.ports with
    rspVld := true
    rspId := id
    rspStatus := status
    rspData := data % 2 ^ 64
    rspCount := s.ports.rspCount + 1 } }

/-- A response with a status code of R13. -/
def State.respond (s : State) (id : Nat) (c : Code) (data : Nat) : State := s.respondNum id c.num data

/-- EP_REQ_RDY: 1 once CTL runs, except during a CTL short stop (R42). -/
def State.epReady (s : State) : Bool := s.isReady .ctl && !s.refs.shortStop

/-- A request of the engine port asked for this access. -/
def Via.engine (v : Via) : Bool :=
  match v with
  | .eng _ => true
  | _ => false

/-- The requests that wait in the engine port's queue: those behind the 16 accesses in flight of the Mailbox Unit (R385), and those
that wait for the Dictionary Engine's 8 REMOTE places or for a write of their object (R426). -/
def State.epWaiting (s : State) : Nat :=
  (s.ports.epq.filter fun x => x.op != 16).length + (s.dict.remote.filter fun x => !x.flying && x.via.engine).length

/-- The word at the head of the queue stays there: an access to remote mailbox storage while 16 are in flight (R385). -/
def State.boxesFull (s : State) (op : Nat) (q : EpReq) : Bool :=
  s.remoteMail && decide (16 ≤ s.ports.remote.length) && (op == 4 || (op == 5 && decide (bits q.arg 16 2 < 2)))

/-- A word joins the engine port's queue. -/
def State.epQueue (s : State) (op : Nat) (q : EpReq) : State :=
  { s with ports := { s.ports with epq := s.ports.epq ++ [{ op := op, q := q }] } }

/-- A request offered on the engine port with EP_REQ_OP `op` (R14, R41, R44, R45): not accepted while EP_REQ_RDY is 0; BUSY when 16
wait; waiting behind what stands in the queue; INTERNAL when its word there is lost; `turn` does what else turning it away
does; else `f` serves it. -/
def State.epTake (s : State) (op : Nat) (q : EpReq) (turn : Code → State → State) (f : State → State) : State :=
  if s.epReady = false then s
  else if 16 ≤ s.epWaiting then (turn .busy s).respond (q.id % 4096) .busy 0
  else if s.ports.epq ≠ [] ∨ s.boxesFull op q then s.epQueue op q
  else if (s.queueRead 3).1 then (turn .internal (s.queueRead 3).2).respond (q.id % 4096) .internal 0
  else f (s.queueRead 3).2

/-- The epoch of a requester (R390). -/
def State.epochOf (s : State) (id : Nat) : Nat := (Tab.get s.ports.epochs id 0 + s.ports.jobEpochs) % 256
/-- The notice word of a requester (R391). -/
def State.noticeOf (s : State) (id : Nat) : Nat := Tab.get s.ports.notices id 0
/-- A notice word replaced. -/
def State.setNotice (s : State) (id w : Nat) : State :=
  { s with ports := { s.ports with notices := Tab.set s.ports.notices id w 0 } }

/-- One message of a requester is discarded: DISCARD_COUNT, saturating, and DISCARDED (R391, R392). -/
def State.noticeDiscard (s : State) (id : Nat) : State :=
  let w := s.noticeOf id
  s.setNotice id (setBit (setBits w 24 8 (min 255 (bits w 24 8 + 1))) 1 true)
/-- One message of a requester timed out. -/
def State.noticeTimeout (s : State) (id : Nat) : State :=
  let w := s.noticeOf id
  s.setNotice id (setBit (setBits w 16 8 (min 255 (bits w 16 8 + 1))) 0 true)

/-- MB_COUNT of mailbox `m` brought up to date. -/
def State.showCount (s : State) (m : Nat) : State := s.wr .MB_COUNT (s.bx m).msgs.length m

/-- Every unread message of mailbox `m` is discarded with notices and counts (R392). -/
def State.discardBox (s : State) (m : Nat) : State :=
  let msgs := (s.bx m).msgs
  let s1 := s.each msgs fun t x => t.noticeDiscard x.sender
  ((s1.add .MB_DISCARDS msgs.length m).modBx m fun b => { b with msgs := [] }).showCount m

/-- Doorbell `m` cleared. -/
def State.clearBell (s : State) (m : Nat) : State :=
  s.modBx m fun b => { b with rung := false, merged := 0, waiting := 0 }

/-- One more semaphore post is pending for mailbox `m`, when its binding is enabled (R405). -/
def State.semEvent (s : State) (m : Nat) : State :=
  if bit (s.rd .MB_SEM m) 31 = false then s
  else if (s.bx m).posts ≥ 65535 then s.inc .SY_POST_OVERFLOW
  else s.modBx m fun b => { b with posts := b.posts + 1 }

/-- `k` rings of doorbell `m` are delivered: sticky bit and merge counter (R166, R396). -/
def State.deliver (s : State) (m k : Nat) : State :=
  let s1 := s.modBx m fun b => { b with rung := true, merged := min 255 (b.merged + k) }
  s1.each (List.range k) fun t _ => t.semEvent m

/-- The mailboxes implemented. -/
def State.boxes (s : State) : List Nat := List.range (s.rd .NUM_MAILBOXES)

/-- The rings that wait for domain `d` are delivered (R397). -/
def State.deliverDomain (s : State) (d : Nat) : State :=
  s.each (s.boxes.filter fun m => s.rd .MB_DOMAIN m == d && (s.bx m).waiting != 0) fun t m =>
    (t.deliver m (t.bx m).waiting).modBx m fun b => { b with waiting := 0 }

/-- The discard of R394 before FENCED → OFF of domain `d`. -/
def State.discardDomain (s : State) (d : Nat) : State :=
  s.when s.remoteMail fun t => t.each (t.boxes.filter fun m => t.rd .MB_DOMAIN m == d) fun u m => u.discardBox m

/-! ### Locks (R398 to R400) -/

/-- The lock word of lock `i`: bits 17 OWNER_LOST, 16 held, 12 HOST, 11:0 OWNER. -/
def State.lockWord (s : State) (i : Nat) : Nat := s.rd .LOCK 0 i
/-- A lock word stored. -/
def State.setLock (s : State) (i : Nat) (lost held host : Bool) (owner : Nat) : State :=
  s.wr .LOCK (owner % 4096 + host.toNat * 4096 + held.toNat * 65536 + lost.toNat * 131072) 0 i
/-- Lock `i` is held. -/
def lockHeld (w : Nat) : Bool := bit w 16
/-- The holder of a lock word: none, the host (0), or a requester. -/
def lockOwner (w : Nat) : Option Nat := if bit w 16 then (if bit w 12 then some 0 else some (bits w 0 12)) else none

/-- An acquire of lock `i` by `who` (0 the host): the lock word answered, and the state (R399, R400). -/
def State.lockAcquire (s : State) (i who : Nat) : Nat × State :=
  let w := s.lockWord i
  match lockOwner w with
  | none =>
    let t := s.setLock i (bit w 17) true (who == 0) who
    (t.lockWord i, t)
  | some o => if o = who then (w, s) else (setBit w 16 false, s)

/-- An operation of source `src` (0 the engine port, 1 the host port, 2 the Dictionary Engine) on lock `i` (R401).  Operations of two
sources with no time between them meet in one CTL cycle: the one that LOCK_PRIO comes to first has been decided first, wins, and
the pointer moves past it (DESIGN CHOICE, log 7). -/
def State.noteLock (s : State) (i src : Nat) : State :=
  let won := (s.ports.lockUse.filter fun x => x.lock == i && x.time == s.T && x.src != src
    && decide ((x.src + 3 - s.rd .LOCK_PRIO) % 3 < (src + 3 - s.rd .LOCK_PRIO) % 3)).map (·.src)
  let t : State := { s with ports := { s.ports with lockUse := some { lock := i, src := src, time := s.T } } }
  match won with
  | some p => (t.inc .LOCK_CONTESTS).wr .LOCK_PRIO ((p + 1) % 3)
  | none => t

/-- Lock `i` freed by its owner's reset or by force: OWNER_LOST for the next holder (R400). -/
def State.lockLose (s : State) (i : Nat) : State := s.setLock i true false false 0

/-- Every lock that requester `id` holds is freed with OWNER_LOST. -/
def State.loseLocks (s : State) (p : Nat → Bool) : State :=
  s.each ((List.range 64).filter fun i => match lockOwner (s.lockWord i) with
    | some o => p o
    | none => false) fun t i => t.lockLose i

end Sys2Proof.Machine
end

