-- ==== Sys2Proof/Machine/Power.lean ====
section
/-! DEFINITION. The power-switch sequencer: transitions of a domain, places, stagger and wakes (R50 to R57, R160). -/

set_option Elab.async false

namespace Sys2Proof.Machine
open Sys2Proof

/-- The stable state of domain `d` by its enables: 0 ON, 1 FENCED, 2 OFF (R50). -/
def State.domainStable (s : State) (d : Nat) : Nat := if (s.d d).enCore then 0 else if (s.d d).enRtr then 1 else 2

/-- DOMAIN_STATE brought up to date: 3 while a transition is in progress. -/
def State.showDomain (s : State) (d : Nat) : State :=
  s.wr .DOMAIN_STATE (if (s.d d).phase.isSome then 3 else s.domainStable d) d

/-- The doorbell wakes a domain: a ring is in force for it, whatever began its transition (R54 to R56). -/
def State.waking (s : State) (d : Nat) : Bool := s.pdWakes.contains d

/-- Domains in transition, and those of them that serve commands (R54). -/
def State.inTransition (s : State) : List Nat := s.domains.filter fun d => (s.d d).phase.isSome
def State.commandTransitions (s : State) : List Nat := s.inTransition.filter fun d => !s.waking d

/-- Domain `d` enters phase `p`. -/
def State.setPhase (s : State) (d : Nat) (p : PdPhase) : State :=
  (s.modD d fun x => { x with phase := some p, timedOut := false }).showDomain d

/-- The powered hours of the regions of domain `d` are brought up to date before a router switch changes (R88). -/
def State.countDomain (s : State) (d : Nat) : State := s.each (s.domainRegions d) State.countHours

/-- A PD_EN signal changes now: its acknowledgement is awaited for at most 50 µs (R53, R54). -/
def State.switchPd (s : State) (d : Nat) (p : PdPhase) (f : Dom → Dom) : State :=
  { ((s.countDomain d).modD d fun x => { f x with phase := some p, deadline := s.up + 50, timedOut := false }) with
    pdLast := some s.up }

/-- The transition of domain `d` ends: a stable state; rings that wait for ON are delivered (R397). -/
def State.endTransition (s : State) (d : Nat) : State :=
  let s1 := ({ (s.modD d fun x => { x with phase := none }) with
    pdWakes := s.pdWakes.filter (· != d) }).showDomain d
  s1.when (s1.domainStable d == 0) fun t => t.deliverDomain d

/-- Step 1 of FENCED → OFF begins: mailboxes of the domain are discarded (R394), and the crossings of its regions go to
FENCED while their clocks still run (R51). -/
def State.fenceDomain (s : State) (d : Nat) : State :=
  let s1 := s.discardDomain d
  (s1.each (s1.domainRegions d) State.fenceAll).setPhase d .fence

/-- The crossings of domain `d` are FENCED: step 1 of FENCED → OFF may end (R51). -/
def State.domainFenced (s : State) (d : Nat) : Bool := (s.domainRegions d).all s.allFenced

/-- Region `n` once its crossings are FENCED: RGN_CK is held low, its time is no longer valid, and its park, change and sweep
end (R51, R215, R224). -/
def State.darken (s : State) (n : Nat) : State :=
  let t := ((((s.unpark n).stopClock n).setOsc n .counting false).islandsDueAt n)
  (t.modR n fun r => { r with change := none, heard := none, timeValid := false, captures := [], timeRem := 0, timeDebt := 0 }).modE n
    fun x => { x with mayBegin := false, sweeping := false, ended := false, win := none, report := none, masks := [] }

/-- Step 1 of FENCED → OFF ends: the clocks of the domain's regions are low. -/
def State.darkenDomain (s : State) (d : Nat) : State := s.each (s.domainRegions d) State.darken

/-- Step 2 of FENCED → OFF: isolation of the router sub-domain, and of the crossing halves in it (R157). -/
def State.isolateRouter (s : State) (d : Nat) : State :=
  ((s.each (s.domainRegions d) State.isolateCells).modD d fun x => { x with isoRtr := true }).setPhase d .isoRtr

/-- The dual-clock queues and Gray counts that touch the agent of region `n` (R169): reference period count, spine queue out
and in, and a write-pointer count each way across each edge. -/
def State.agentPairs (s : State) (n : Nat) : Nat := 3 + 2 * (edges.filter fun e => (s.neighbour n e).isSome).length

/-- The router sub-domain of domain `d` has returned to power: its lanes have no baseline (R227), and every queue and Gray
count that touches its agents resynchronises; accesses on the spine have completed, so none holds a word (R170, R442). -/
def State.routerBack (s : State) (d : Nat) : State :=
  s.each (s.domainRegions d) fun t n => (t.loseBaselines n).add .ICROSS_RESYNCS (t.agentPairs n)

/-- The core sub-domain of domain `d` has returned to power: its lanes have no baseline (R227); a sweep in progress goes on to its
last lane (R47, R48). -/
def State.coreBack (s : State) (d : Nat) : State := s.each (s.domainRegions d) State.loseCoreBaselines

/-- OFF → FENCED, step 2: each region starts at N = 160, detached, with its count held for the mark; the step lasts at most
3 µs (R52, R160). -/
def State.detachDomain (s : State) (d : Nat) : State :=
  ((s.each ((s.domainRegions d).filter s.live) fun t n =>
    ((t.startRegion n 160).wr .REGION_DETACHED 1 n).modR n fun r => { r with markSeen := true }).modD d fun x =>
      { x with deadline := s.up + 3 }).setPhase d .oscStart

/-- Region `n` has released its count, and its crossings have resynced as R160 states. -/
def State.realigned (s : State) (n : Nat) : Bool :=
  !s.live n || (s.osc n .counting && (s.cellsAt n).all fun x =>
    !s.cellClocked x.1 x.2 || s.fenced x.1 x.2 || ((s.c x.1 x.2).idle && (s.c x.1 x.2).rd.mode == .decoupled))

/-- Step 2 of OFF → FENCED of domain `d` has ended: every region is realigned, or its 3 µs are over. -/
def State.oscDone (s : State) (d : Nat) : Bool := (s.domainRegions d).all s.realigned || decide ((s.d d).deadline ≤ s.up)

/-- ISO_EN_CORE goes to 0: the rings that waited for the domain are delivered (R52, R397). -/
def State.openCore (s : State) (d : Nat) : State :=
  ((s.modD d fun x => { x with isoCore := false, saved := false }).deliverDomain d).setPhase d .isoCoreClear

/-- The RET_RESTORE pulse, where retention was saved, or the end of the isolation of the core (R52).  A transition turned back
before the core went off restores what it has saved (DESIGN CHOICE: R55 names no steps of a transition turned back, log 90). -/
def State.restoreCore (s : State) (d : Nat) : State :=
  if (s.d d).saved then (s.modD d fun x => { x with retRestore := true }).setPhase d .restore else s.openCore d

/-- The first step of the transition from the stable state toward the target in force, or its end (R52, R55). -/
def State.advance (s0 : State) (d : Nat) : State :=
  let s := s0.modD d fun x => if x.phase.isNone then { x with began := s0.ctlUs } else x
  let tgt := s.rd .DOMAIN_TARGET d
  let st := s.domainStable d
  if tgt = st then s.endTransition d
  else if st = 0 then
    if s.on .DOMAIN_RETAIN d then (s.modD d fun x => { x with saved := true, retSave := true }).setPhase d .save
    else ((s.modD d fun x => { x with saved := false, isoCore := true }).setPhase d .isoCore)
  else if st = 1 then if tgt = 2 then s.fenceDomain d else s.setPhase d .coreOnStagger
  else s.setPhase d .rtrOnStagger

/-- The step after phase `p` of domain `d`, whose wait has ended (R52); a newer target turns the transition back
at the end of a step (R55). -/
def State.nextPhase (s : State) (d : Nat) (p : PdPhase) : State :=
  let tgt := s.rd .DOMAIN_TARGET d
  match p with
  | .save =>
    let t := s.modD d fun x => { x with retSave := false }
    if tgt = 0 then t.restoreCore d else (t.modD d fun x => { x with isoCore := true }).setPhase d .isoCore
  | .isoCore => if tgt = 0 then s.restoreCore d else s.setPhase d .coreOffStagger
  | .coreOffStagger =>
    if tgt = 0 then s.restoreCore d else s.switchPd d .coreOffAck fun x => { x with enCore := false }
  | .coreOffAck => s.advance d
  | .fence =>
    let t := s.darkenDomain d
    if tgt = 2 then t.isolateRouter d else t.detachDomain d
  | .isoRtr => if tgt = 2 then s.setPhase d .rtrOffStagger else s.detachDomain d
  | .rtrOffStagger => if tgt = 2 then s.switchPd d .rtrOffAck fun x => { x with enRtr := false } else s.detachDomain d
  | .rtrOffAck => s.advance d
  | .rtrOnStagger => if tgt = 2 then s.endTransition d else s.switchPd d .rtrOnAck fun x => { x with enRtr := true }
  | .rtrOnAck =>
    let t := s.routerBack d
    if tgt = 2 then t.fenceDomain d else t.detachDomain d
  | .oscStart =>
    if tgt = 2 then s.fenceDomain d else (s.modD d fun x => { x with isoRtr := false }).setPhase d .isoRtrClear
  | .isoRtrClear => s.advance d
  | .coreOnStagger => if tgt = 0 then s.switchPd d .coreOnAck fun x => { x with enCore := true } else s.advance d
  | .coreOnAck =>
    let t := s.coreBack d
    if tgt = 0 then t.restoreCore d else t.setPhase d .coreOffStagger
  | .restore =>
    let t := s.modD d fun x => { x with retRestore := false }
    if tgt = 0 then t.openCore d else t.setPhase d .coreOffStagger
  | .isoCoreClear => s.advance d

/-- A transition of domain `d` may begin: no stop of one of its regions is in progress (R191). -/
def State.mayBegin (s : State) (d : Nat) : Bool :=
  match s.stop.cur with
  | some x => !(s.domainOf x.region == d && decide (1 ≤ x.order ∧ x.order ≤ 5))
  | none => true

/-- Domain `d` waits to begin: no transition, and not at its target. -/
def State.wantsPlace (s : State) (d : Nat) : Bool :=
  (s.d d).phase.isNone && s.domainStable d != s.rd .DOMAIN_TARGET d && s.mayBegin d

/-- A halt or an arm is in progress: transitions asked for wait until READY (R517). -/
def State.armHolds (s : State) : Bool := !s.startIs .ready && !s.startIs .faultWait

/-- Gives free places: wakes first, in the order of their rings, then commands, at most seven (R54, R56); none during a
halt or an arm (R517).  A wake that a command retargets keeps the place it has (DEDUCED from R55, log 69). -/
def State.fillPlaces (s : State) : State :=
  if s.armHolds then s else
  let s1 := s.each (s.pdWakes.filter s.wantsPlace) fun t d =>
    t.when (decide (t.inTransition.length < 8)) fun u => u.advance d
  let cmds := s1.pdCmds.filter fun d => s1.wantsPlace d && !s1.pdWakes.contains d
  let s2 := s1.each cmds fun t d =>
    t.when (decide (t.inTransition.length < 8 ∧ t.commandTransitions.length < 7)) fun u => u.advance d
  { s2 with pdCmds := s2.pdCmds.filter fun d => (s2.d d).phase.isNone && s2.domainStable d != s2.rd .DOMAIN_TARGET d }

/-- A wake that a command retargets stays among the wakes: it keeps the reserved place while it runs and no other is free (R54). -/
def State.keepsWake (s : State) (d tgt : Nat) : Bool :=
  tgt == 0 || ((s.d d).phase.isSome && decide (7 ≤ s.commandTransitions.length))

/-- A domain's target from a command (R55, R62). -/
def State.submitTarget (s : State) (d tgt : Nat) : State :=
  let s1 := { s.wr .DOMAIN_TARGET tgt d with pdCmds := if s.pdCmds.contains d then s.pdCmds else s.pdCmds ++ [d] }
  { s1 with pdWakes := if s1.keepsWake d tgt then s1.pdWakes else s1.pdWakes.filter (· != d) }.fillPlaces

/-- A doorbell's wake target ON (R55, R56, R397). -/
def State.submitWake (s : State) (d : Nat) : State :=
  { s.wr .DOMAIN_TARGET 0 d with pdWakes := if s.pdWakes.contains d then s.pdWakes else s.pdWakes ++ [d] }.fillPlaces

/-- A phase that waits for the 2 µs stagger. -/
def PdPhase.stagger (p : PdPhase) : Bool :=
  p == .coreOffStagger || p == .rtrOffStagger || p == .rtrOnStagger || p == .coreOnStagger
/-- A phase that waits for PD_ACK. -/
def PdPhase.awaitsAck (p : PdPhase) : Bool := p == .coreOffAck || p == .rtrOffAck || p == .rtrOnAck || p == .coreOnAck
/-- A phase that waits for the router's acknowledgement. -/
def PdPhase.awaitsRtr (p : PdPhase) : Bool := p == .rtrOffAck || p == .rtrOnAck
/-- The level awaited. -/
def PdPhase.awaits (p : PdPhase) : Bool := p == .rtrOnAck || p == .coreOnAck

/-- A domain of a list waits for the stagger. -/
def State.anyStagger (s : State) (l : List Nat) : Bool :=
  l.any fun d => match (s.d d).phase with
    | some p => p.stagger
    | none => false

/-- The stagger of domain `d` has ended: 2 µs since the last PD_EN change, and no wake ahead of it waits (R54, R56). -/
def State.staggerOver (s : State) (d : Nat) : Bool :=
  (match s.pdLast with | some t => decide (t + 2 ≤ s.up) | none => true)
    && (if s.waking d then !s.anyStagger (s.pdWakes.takeWhile (· != d)) else !s.anyStagger s.pdWakes)

/-- The acknowledgement that domain `d` awaits stands at its level. -/
def State.acked (s : State) (d : Nat) (p : PdPhase) : Bool :=
  p.awaitsAck && (if p.awaitsRtr then (s.d d).ackRtr == p.awaits else (s.d d).ackCore == p.awaits)

/-- The wait of phase `p` of domain `d` may end (R52, R54). -/
def State.waitOver (s : State) (d : Nat) (p : PdPhase) : Bool :=
  if p.awaitsAck then s.acked d p
  else if p.stagger then s.staggerOver d
  else if p = .fence then s.domainFenced d
  else if p = .oscStart then s.oscDone d
  else true

/-- POWER_STEP_WAIT_END (R52): the wait of the step of domain `d` ends; a step whose PD_ACK already stands at the awaited
level does not wait for a change. -/
def execPowerStepWaitEnd (d : Nat) (s : State) : Host.Outcome State Fault Refusal :=
  match (s.d d).phase with
  | some p => .next (s.when (s.waitOver d p && !s.refs.shortStop) fun t => (t.nextPhase d p).fillPlaces)
  | none => .next s

/-- PD_ACK_CHANGE (R52): an acknowledgement changes; the transition that awaited it goes on. -/
def execPdAckChange (d : Nat) (rtr level : Bool) (s : State) : Host.Outcome State Fault Refusal :=
  let s1 := (s.countDomain d).modD d fun x => if rtr then { x with ackRtr := level } else { x with ackCore := level }
  match (s.d d).phase with
  | some p => .next (s1.when (s1.acked d p) fun t => (t.nextPhase d p).fillPlaces)
  | none => .next s1

/-- PD_TIMEOUT (R53, R190): PD_ACK has not changed within 50 µs; the transition stalls and keeps its place. -/
def execPdTimeout (d : Nat) (s : State) : Host.Outcome State Fault Refusal :=
  match (s.d d).phase with
  | some p =>
    .next (s.when (p.awaitsAck && !s.acked d p && !(s.d d).timedOut && !s.refs.shortStop && decide ((s.d d).deadline ≤ s.up)) fun t =>
      (t.modD d fun x => { x with timedOut := true }).raiseFault .pdTimeout 3 d p.awaitsRtr.toNat)
  | none => .next s

/-! ### Ends of a region stop that let a waiting transition begin (R187 to R191) -/

/-- QUIESCE_TIMEOUT (R188): no matching acknowledgement within 100 µs; the release goes with the same epoch. -/
def execQuiesceTimeout (s : State) : Host.Outcome State Fault Refusal :=
  match s.stop.cur with
  | some x =>
    .next (s.when (x.order == 2 && decide (x.deadline ≤ s.up) && !s.refs.shortStop) fun t =>
      ((t.syncQreq false x.region x.epoch).abortStop x 2).fillPlaces)
  | none => .next s

/-- REGION_RESTART (R189): 2 µs after the clock was held low it runs again; a domain transition that waited may begin
(R191). -/
def execRegionRestart (n : Nat) (s : State) : Host.Outcome State Fault Refusal :=
  match s.stop.cur with
  | some x =>
    .next (s.when (x.order == 5 && x.region == n && decide (x.deadline ≤ s.up)) fun t =>
      let u := (((t.restartClock n).lowerReq n).reopenCells n).unobserve (t.groupOf (fieldOf n))
      ({ u with stop := { u.stop with cur := some { x with order := 6 } } } : State).fillPlaces)
  | none => .next s

/-- RESTART_REPORT (R187): once the crossings that took part are DECOUPLED: release, lowering of a
falling step, result OK, and the next step or request. -/
def execRestartReport (n : Nat) (s : State) : Host.Outcome State Fault Refusal :=
  match s.stop.cur with
  | some x =>
    .next (s.when (x.order == 6 && x.region == n && s.crossingsIdle n && !s.refs.shortStop) fun t =>
      let u := (t.syncQreq false n x.epoch).wr .REGION_STOP_RESULT 1 n
      let f := fieldOf n
      let q := u.predictVolt f (u.rd .GROUP_N (u.groupOf f)) none
      let low := decide (x.nNew < x.nOld ∧ q.1 < q.2.rd .FIELD_VOLT f) && !(u.opFrozen && u.groupOf f != 0xFF)
      let v := if low then (q.2.requestVolt f q.1).modF f fun y => { y with lowering := some n }
        else if x.nNew < x.nOld then q.2 else u
      if x.nNew = x.target then ((v.setStop n (if low then .voltDown else .idle)).nextStop false).fillPlaces
      else { v.setStop n .waiting with stop := { v.stop with cur := some { region := n, target := x.target } } })
  | none => .next s

/-- VOLT_TIMEOUT (R185): group `g`, or the region stop for 0xFF. -/
def execVoltTimeout (g : Nat) (s : State) : Host.Outcome State Fault Refusal :=
  .next (if g = 0xFF then s.timeoutStop.fillPlaces else s.timeoutStep g)


end Sys2Proof.Machine
end

