-- ==== Sys2Proof/Machine/Mailbox.lean ====
section
/-! DEFINITION. The commands of the engine port's mailbox, doorbell and lock operations, requester resets, and the
sync port's posts (R385 to R407). -/

set_option Elab.async false

namespace Sys2Proof.Machine
open Sys2Proof

/-! ### Checks on the engine port (R14, R44, R45, R386 to R388) -/

/-- Checks 1 and 2 of an engine request: parse and start-up of the Mailbox Unit. -/
def State.mailParse (s : State) (q : EpReq) (argOk dataOk : Bool) : Option Code :=
  if q.id % 4096 = 0 ∨ argOk = false ∨ dataOk = false then some .malformed
  else if s.isReady .mailbox = false then some .notReady
  else none

/-- Only the bits of `mask` may be set in EP_REQ_ARG. -/
def onlyBits (arg mask : Nat) : Bool := andNot arg mask == 0

/-- Storage of mailbox `m` is reachable (R388). -/
def State.boxPowered (s : State) (m : Nat) : Bool :=
  !s.remoteMail || (let d := s.rd .MB_DOMAIN m
    decide (d < s.rd .NUM_DOMAINS) && (s.d d).enRtr && (s.d d).ackRtr && !(s.d d).isoRtr)

/-- The checks of a post, a take or a peek after parsing: existence, rights, power. -/
def State.boxCheck (s : State) (owner : Bool) (q : EpReq) : Option Code :=
  let m := bits q.arg 0 6
  if s.rd .NUM_MAILBOXES ≤ m then some .noObject
  else if owner = false ∧ s.rd .MB_OWNER m = 0 then some .noObject
  else if owner ∧ s.rd .MB_OWNER m ≠ q.id % 4096 then some .denied
  else if s.boxPowered m = false then some .poweredDown
  else none

/-! ### Posts, takes and peeks (R387 to R391) -/

/-- A post is accepted (R389, R391): the message joins the mailbox, the sender's notice word is the answer and clears. -/
def State.acceptPost (s : State) (q : EpReq) : Code × Nat × State :=
  let m := bits q.arg 0 6
  let id := q.id % 4096
  let b := s.bx m
  let msg : Msg := { seq := b.nextSeq, sender := id, epoch := s.epochOf id, payload := q.data % 2 ^ 64, at0 := s.up }
  let s1 := ((s.modBx m fun b => { b with msgs := b.msgs ++ [msg], nextSeq := (b.nextSeq + 1) % 65536 }).inc .MB_POSTS m).showCount m
  (.ok, s.noticeOf id * 2 ^ 32 + b.nextSeq, (s1.semEvent m).setNotice id 0)

/-- The header of the head message (R389). -/
def State.header (s : State) (m : Nat) (x : Msg) : Nat :=
  x.seq % 65536 * 2 ^ 48 + x.epoch % 256 * 2 ^ 40 + (s.bx m).msgs.length % 32 * 2 ^ 16
    + x.timedOut.toNat * 2 ^ 13 + (decide (s.epochOf x.sender ≠ x.epoch)).toNat * 2 ^ 12 + x.sender % 4096

/-- A take: the head message leaves, its payload is the answer; an uncorrectable word answers INTERNAL (R389). -/
def State.take (s : State) (q : EpReq) : Code × Nat × State :=
  let m := bits q.arg 0 6
  match (s.bx m).msgs with
  | [] => (.noObject, 0, s)
  | x :: rest =>
    let p := s.sramRead .mailbox 0 (16 * m)
    let s1 := ((p.2.modBx m fun b => { b with msgs := rest }).showCount m).shiftWords .mailbox (16 * m)
    if p.1 then (.internal, 0, s1.sramLost .mailbox 3 0) else (.ok, x.payload, s1)

/-- A peek: the head message's header; an uncorrectable word answers INTERNAL and stays (R389). -/
def State.peek (s : State) (q : EpReq) : Code × Nat × State :=
  let m := bits q.arg 0 6
  match (s.bx m).msgs with
  | [] => (.noObject, 0, s)
  | x :: _ =>
    let p := s.sramRead .mailbox 0 (16 * m)
    if p.1 then
      let back := match s.flipAt .mailbox 0 (16 * m) with
        | some f => { p.2 with inj := { p.2.inj with flips := p.2.inj.flips ++ [f] } }
        | none => p.2
      (.internal, 0, back.sramLost .mailbox 3 0)
    else (.ok, s.header m x, p.2)

/-- The operation as it enters the unit: 4 post, 5 take, 6 peek; its answer, and the state. -/
def State.mailDo (s : State) (op : Nat) (q : EpReq) : Code × Nat × State :=
  if op = 4 then s.acceptPost q else if op = 5 then s.take q else s.peek q

/-- The answer comes at once, or when the access to remote storage returns (R385). -/
def State.mailSend (s : State) (op : Nat) (q : EpReq) : State :=
  let x := s.mailDo op q
  let t := x.2.2
  if s.remoteMail = false then t.respond (q.id % 4096) x.1 x.2.1
  else
    let y : RemoteMb := { box := bits q.arg 0 6, id := q.id % 4096, status := x.1.num, data := x.2.1, at0 := s.ctlUs }
    { t with ports := { t.ports with remote := t.ports.remote ++ [y] } }

/-- A post (R386 to R391): a full mailbox refuses it BUSY. -/
def State.mailPost (s : State) (q : EpReq) : State :=
  let m := bits q.arg 0 6
  if m < s.rd .NUM_MAILBOXES ∧ 16 ≤ (s.bx m).msgs.length then s.respond (q.id % 4096) .busy 0
  else match s.mailParse q (onlyBits q.arg 0x3F) true with
    | some c => s.respond (q.id % 4096) c 0
    | none => match s.boxCheck false q with
      | some c => s.respond (q.id % 4096) c 0
      | none => s.mailSend 4 q

/-- MB_POST (R386 to R391). -/
def execMbPost (q : EpReq) (s : State) : Host.Outcome State Fault Refusal := .next (s.epTake 4 q (fun _ => id) fun t => t.mailPost q)

/-- A take or peek of `q`: check 4 asks for a head message before check 6 asks for the owner (R14, R386, R388). -/
def State.mailRead (s : State) (op mode : Nat) (q : EpReq) : State :=
  let m := bits q.arg 0 6
  match s.mailParse q (onlyBits q.arg 0x3003F && bits q.arg 16 2 == mode) (q.data == 0) with
  | some c => s.respond (q.id % 4096) c 0
  | none =>
    if s.rd .NUM_MAILBOXES ≤ m ∨ (s.bx m).msgs = [] then s.respond (q.id % 4096) .noObject 0
    else match s.boxCheck true q with
      | some c => s.respond (q.id % 4096) c 0
      | none => s.mailSend op q

/-- MB_TAKE (R387): MB_READ with mode 0b00. -/
def execMbTake (q : EpReq) (s : State) : Host.Outcome State Fault Refusal := .next (s.epTake 5 q (fun _ => id) fun t => t.mailRead 5 0 q)

/-- MB_PEEK (R389): MB_READ with mode 0b01. -/
def execMbPeek (q : EpReq) (s : State) : Host.Outcome State Fault Refusal := .next (s.epTake 5 q (fun _ => id) fun t => t.mailRead 6 1 q)

/-! ### Doorbells and notices (R391, R396, R397) -/

/-- MB_READ with mode 0b10, by the owner: the sticky bit and merge counter, cleared (R396). -/
def State.bellRead (s : State) (q : EpReq) : State :=
  let m := bits q.arg 0 6
  match s.mailParse q (onlyBits q.arg 0x3003F && bits q.arg 16 2 == 2) (q.data == 0) with
  | some c => s.respond (q.id % 4096) c 0
  | none =>
    if s.rd .NUM_MAILBOXES ≤ m then s.respond (q.id % 4096) .noObject 0
    else if s.rd .MB_OWNER m ≠ q.id % 4096 then s.respond (q.id % 4096) .denied 0
    else
      let w := (s.bx m).rung.toNat * 256 + (s.bx m).merged
      (s.modBx m fun b => { b with rung := false, merged := 0 }).respond (q.id % 4096) .ok w

/-- DOORBELL_READ (R396). -/
def execDoorbellRead (q : EpReq) (s : State) : Host.Outcome State Fault Refusal := .next (s.epTake 5 q (fun _ => id) fun t => t.bellRead q)

/-- MB_READ with mode 0b11 and mailbox 0: the notice word, cleared (R391). -/
def State.noticeRead (s : State) (q : EpReq) : State :=
  match s.mailParse q (onlyBits q.arg 0x30000 && bits q.arg 16 2 == 3) (q.data == 0) with
  | some c => s.respond (q.id % 4096) c 0
  | none => (s.respond (q.id % 4096) .ok (s.noticeOf (q.id % 4096))).setNotice (q.id % 4096) 0

/-- NOTICE_READ (R391). -/
def execNoticeRead (q : EpReq) (s : State) : Host.Outcome State Fault Refusal := .next (s.epTake 5 q (fun _ => id) fun t => t.noticeRead q)

/-- A ring of doorbell `m` (R396, R397): the answer word and the state. -/
def State.ring (s : State) (m : Nat) : Nat × State :=
  let d := s.rd .MB_DOMAIN m
  if s.on .MB_WAKE m && decide (d < s.rd .NUM_DOMAINS) && s.rd .DOMAIN_STATE d != 0 then
    let s1 := s.modBx m fun b => { b with waiting := b.waiting + 1 }
    if s.pdWakes.contains d then (2, s1) else (3, (s1.inc .MB_WAKES m).submitWake d)
  else (0, s.deliver m 1)

/-- A ring asked for on the engine port (R397). -/
def State.bellRing (s : State) (q : EpReq) : State :=
  let m := bits q.arg 0 6
  match s.mailParse q (onlyBits q.arg 0x3F) (q.data == 0) with
  | some c => s.respond (q.id % 4096) c 0
  | none =>
    if s.rd .NUM_MAILBOXES ≤ m then s.respond (q.id % 4096) .noObject 0
    else
      let p := s.ring m
      p.2.respond (q.id % 4096) .ok p.1

/-- DOORBELL_RING (R397). -/
def execDoorbellRing (q : EpReq) (s : State) : Host.Outcome State Fault Refusal := .next (s.epTake 6 q (fun _ => id) fun t => t.bellRing q)

/-! ### Locks (R398, R399) -/

/-- A lock acquire on the engine port (R399). -/
def State.epAcquire (s : State) (q : EpReq) : State :=
  match s.mailParse q (onlyBits q.arg 0x3F) (q.data == 0) with
  | some c => s.respond (q.id % 4096) c 0
  | none =>
    let p := (s.noteLock (bits q.arg 0 6) 0).lockAcquire (bits q.arg 0 6) (q.id % 4096)
    p.2.respond (q.id % 4096) .ok p.1

/-- LOCK_ACQUIRE (R399). -/
def execLockAcquire (q : EpReq) (s : State) : Host.Outcome State Fault Refusal := .next (s.epTake 7 q (fun _ => id) fun t => t.epAcquire q)

/-- A lock release on the engine port (R399): by the owner; anyone else is DENIED. -/
def State.epRelease (s : State) (q : EpReq) : State :=
  let i := bits q.arg 0 6
  match s.mailParse q (onlyBits q.arg 0x3F) (q.data == 0) with
  | some c => s.respond (q.id % 4096) c 0
  | none =>
    let t := s.noteLock i 0
    if lockOwner (t.lockWord i) = some (q.id % 4096) then (t.setLock i false false false 0).respond (q.id % 4096) .ok 0
    else t.respond (q.id % 4096) .denied 0

/-- LOCK_RELEASE (R399). -/
def execLockRelease (q : EpReq) (s : State) : Host.Outcome State Fault Refusal := .next (s.epTake 8 q (fun _ => id) fun t => t.epRelease q)

/-- A lock read on the engine port (R398). -/
def State.epLockRead (s : State) (q : EpReq) : State :=
  match s.mailParse q (onlyBits q.arg 0x3F) (q.data == 0) with
  | some c => s.respond (q.id % 4096) c 0
  | none => (s.noteLock (bits q.arg 0 6) 0).respond (q.id % 4096) .ok (s.lockWord (bits q.arg 0 6))

/-- LOCK_READ (R398). -/
def execLockRead (q : EpReq) (s : State) : Host.Outcome State Fault Refusal := .next (s.epTake 9 q (fun _ => id) fun t => t.epLockRead q)

/-! ### Requester resets and timeouts (R390 to R393, R400) -/

/-- A requester's reset reaches the Mailbox Unit (R390 to R392, R400): the epoch advances, the requester's mailboxes are discarded
and their doorbells cleared, its own notices clear, its locks are freed with OWNER_LOST. -/
def State.requesterReset (s : State) (id : Nat) : State :=
  let t1 := { s with ports := { s.ports with epochs := Tab.set s.ports.epochs id ((Tab.get s.ports.epochs id 0 + 1) % 256) 0 } }
  let t2 := t1.each (t1.boxes.filter fun m => t1.rd .MB_OWNER m == id) fun u m => (u.discardBox m).clearBell m
  (t2.setNotice id 0).loseLocks (· == id)

/-- REQUESTER_RESET (R169, R390): EP_RESET_VLD enters the engine port's queue in arrival order. -/
def execRequesterReset (id : Nat) (s : State) : Host.Outcome State Fault Refusal :=
  .next (s.when (decide (1 ≤ id ∧ id ≤ 4095)) fun t =>
    if t.ports.epq ≠ [] ∨ t.refs.shortStop then t.epQueue 16 { id := id } else t.requesterReset id)

/-- MB_TIMED_OUT (R393): the oldest unread message of mailbox `m` past MB_TIMEOUT, once each, in W4-S and W4-M. -/
def execMbTimedOut (m : Nat) (s : State) : Host.Outcome State Fault Refusal :=
  let due (x : Msg) : Bool := !x.timedOut && decide (x.at0 + s.rd .MB_TIMEOUT ≤ s.up)
  match (s.bx m).msgs.findIdx? due, (s.bx m).msgs.find? due with
  | some i, some x =>
    .next (s.when (!s.remoteMail) fun t =>
      ((t.modBx m fun b => { b with msgs := b.msgs.set i { x with timedOut := true } }).inc .MB_TIMEOUTS m).noticeTimeout
        x.sender)
  | _, _ => .next s

/-- The job reset in the Mailbox Unit (R395, R400): everything empties, every epoch advances, locks of engine
requesters are freed with OWNER_LOST; the host keeps its locks. -/
def State.jobResetMail (s : State) : State :=
  let s1 := s.each s.boxes fun t m =>
    (t.modBx m fun b => { b with msgs := [], rung := false, merged := 0, waiting := 0 }).showCount m
  let s2 := { s1 with ports := { s1.ports with notices := [], jobEpochs := (s1.ports.jobEpochs + 1) % 256 } }
  s2.loseLocks (· != 0)

/-! ### The sync port's posts (R405, R406) -/

/-- The lowest-numbered mailbox with an enabled binding and a pending post. -/
def State.nextPost (s : State) : Option Nat := s.boxes.find? fun m => bit (s.rd .MB_SEM m) 31 && (s.bx m).posts != 0

/-- The port may present a post: SYNC is ready and READY has set, CTL does not stand still, fewer than 16 are outstanding (R34, R405,
R406, R506). -/
def State.mayPost (s : State) : Bool :=
  s.isReady .sync && s.su.everReady && !s.refs.shortStop && decide (s.ports.outstanding.length < 16)

/-- SEMAPHORE_POST (R405): a pending post goes out and is accepted; at most 16 outstanding, tags in order.  Which
mailbox goes first the spec leaves open (DESIGN CHOICE: the lowest number, log 31). -/
def execSemaphorePost (s : State) : Host.Outcome State Fault Refusal :=
  match s.nextPost with
  | some m =>
    .next (s.when s.mayPost fun t =>
      let w := t.rd .MB_SEM m
      let tag := t.ports.nextTag
      let u := (t.modBx m fun b => { b with posts := b.posts - 1 }).inc .SY_POSTS
      { u with ports := { u.ports with
        postCtx := bits w 16 12
        postSem := bits w 0 16
        postTag := tag
        outstanding := t.ports.outstanding ++ [{ tag := tag, box := m, at0 := t.up }]
        nextTag := (tag + 1) % 256 } })
  | none => .next s

/-- The post outstanding with a tag. -/
def State.postOf (s : State) (tag : Nat) : Option SemPost := s.ports.outstanding.find? fun x => x.tag == tag
/-- A tag is retired. -/
def State.retirePost (s : State) (tag : Nat) : State :=
  { s with ports := { s.ports with outstanding := s.ports.outstanding.filter fun x => x.tag != tag } }

/-- A post's status reaches CTL (R405, R406): it is stored, or counted stale. -/
def State.postStatus (s : State) (tag status : Nat) : State :=
  match s.postOf tag with
  | some x =>
    ((s.retirePost tag).wr .MB_SEM_STATUS (status % 16) x.box).when (status % 16 != 0) fun t => t.inc .SY_POST_NONZERO
  | none => s.inc .SY_PST_STALE

/-- POST_STATUS (R405, R406): held in the port's queue during a CTL short stop (R407). -/
def execPostStatus (tag status : Nat) (s : State) : Host.Outcome State Fault Refusal :=
  .next (if s.refs.shortStop then s.syHold (.status tag status) else s.postStatus tag status)

/-- SY_POST_TIMEOUT (R406): no status within 100 µs. -/
def execSyPostTimeout (tag : Nat) (s : State) : Host.Outcome State Fault Refusal :=
  match s.postOf tag with
  | some x => .next (s.when (decide (x.at0 + 100 ≤ s.up)) fun t => (t.retirePost tag).inc .SY_POST_TIMEOUTS)
  | none => .next s

end Sys2Proof.Machine
end

