-- ==== Sys2Proof/Machine/Caps.lean ====
section
/-! DEFINITION. The fast cap loop, floor throttle, thermal reads and the trip, CAP_N and HOT_N (R263, R264, R270, R276 to
R283, R530). -/

set_option Elab.async false

namespace Sys2Proof.Machine
open Sys2Proof

/-! ### The fast cap loop (R270) -/

/-- The excess of `p` over a limit, in 1/1024, as the pseudocode's C computes it; none when no limit applies. -/
def excessOf (p limit : Nat) : Option Int :=
  if limit = noLimit then none
  else if limit = 0 then some 1024
  else some (Int.tdiv (((p : Int) - limit) * 1024) limit)

/-- The greatest of some excesses, none where there is none. -/
def worst (l : List Int) : Option Int :=
  match l with
  | [] => none
  | a :: r => some (r.foldl max a)

/-- The excess of field `f` over its own limit, and the greatest over a rail's, by the directive last sent (R262, R270). -/
def State.excesses (s : State) (f : Nat) : Option Int × Option Int :=
  (excessOf (s.corrected f (s.rd .FIELD_EST f)) (s.f f).sentLimit,
    worst ((s.fieldRails f).filterMap fun r => excessOf (s.corrected f (s.d (s.rd .RAIL_DOMAIN r)).winEst) (s.ra r).sent))

/-- x of R270 for field `f`. -/
def State.fieldExcess (s : State) (f : Nat) : Int :=
  let q := s.excesses f
  ((worst ([q.1, q.2].filterMap id)).map (clampInt (-1024) 1024)).getD (-1024)

/-- A rail limit gives x: its row stands above the others of R254 (R255). -/
def State.railBinds (s : State) (f : Nat) : Bool :=
  match s.excesses f with
  | (_, none) => false
  | (none, some _) => true
  | (some a, some b) => decide (a ≤ b)

/-- Floor throttle owns group `g`: from the start of floor period 0 until FLOOR_STATE is OFF (R270). -/
def State.floorBegun (s : State) (g : Nat) : Bool :=
  match (s.g g).floor with
  | some fl => decide (fl.t0 ≤ s.T)
  | none => false

/-- The duty that the agent of region `n` applies: 320 in a detached region whose group is under floor throttle (R176). -/
def State.dutyAt (s : State) (n u : Nat) : Nat :=
  let g := s.groupOf (fieldOf n)
  if s.on .REGION_DETACHED n && g != 0xFF && s.rd .FLOOR_STATE g != 0 then 320 else u

/-- The duty of field `f` set, at the Field Station and at its agents. -/
def State.setDuty (s : State) (f u : Nat) : State :=
  (s.wr .FAST_DUTY u f).each (s.fieldRegions f) fun t n => t.modR n fun r => { r with duty := s.dutyAt n u }

/-- The duties of group `g` sent anew as FLOOR_STATE changes (R176). -/
def State.resendDuty (s : State) (g : Nat) : State := s.each (s.groupFields g) fun t f => t.setDuty f (t.rd .FAST_DUTY f)

/-- The update of the duty at the end of a window (R270). -/
def State.fastCap (s : State) (f : Nat) : State :=
  let x := s.fieldExcess f
  let u := if s.floorBegun (s.groupOf f) then 0
    else (clampInt 0 320 ((s.rd .FAST_DUTY f : Int) + Int.fdiv (x * s.tickVal .FAST_GAIN) 256)).toNat
  let top := u == 320 && decide (0 < x)
  ((s.setDuty f u).wrInt .FIELD_EXCESS x f).modF f fun y =>
    { y with
      ready := false
      railBinds := s.railBinds f
      dutySum := y.dutySum + u
      allAtMax := y.allAtMax && top
      anyAtMax := y.anyAtMax || top
      excess := ((y.win, x) :: y.excess).take 1000 }

/-- FAST_CAP_UPDATE (R270): the field estimate of a window is complete. -/
def execFastCapUpdate (f : Nat) (s : State) : Host.Outcome State Fault Refusal :=
  .next (s.when (s.f f).ready fun t => t.fastCap f)

/-! ### Parks of a group (R109, R277, R282) -/

/-- The regions of group `g` that take part in its counts. -/
def State.countedRegions (s : State) (g : Nat) : List Nat := (s.clockedRegions g).filter fun n => !s.on .REGION_DETACHED n

/-- A park is broadcast to the counted regions of group `g`. -/
def State.parkGroup (s : State) (g count release : Nat) : State :=
  s.each (s.countedRegions g) fun t n => t.givePark n count release false

/-- FLOOR_PERIOD in units of global time. -/
def State.floorPeriod (s : State) : Nat := 16000 * s.tickVal .FLOOR_PERIOD

/-- The run of a floor period for a rate, in eighths of a unit of global time (R277). -/
def State.floorRun (s : State) (r : Nat) : Nat := 125 * r * s.tickVal .FLOOR_PERIOD

/-- The cycles at a ratio in some eighths of a unit of global time, rounded down (R277). -/
def runCycles (ratio run : Nat) : Nat := ratio * run / 81920

/-- The rate at engagement (R276). -/
def engageRate (u : Nat) : Nat := clampNat 128 768 (524288 / (512 + u))

/-- The largest tick-mean duty among the fields of group `g`, rounded down. -/
def State.meanDuty (s : State) (g : Nat) : Nat :=
  maxOf ((s.groupFields g).map fun f => if (s.f f).windows = 0 then 0 else (s.f f).dutySum / (s.f f).windows)

/-- Floor throttle engages on group `g` (R276, R277): t_0 is the earliest µs whose run ends no sooner than CHANGE_LEAD after
the broadcast, which may lie before the broadcast itself. -/
def State.engageFloor (s : State) (g : Nat) : State :=
  let r := engageRate (s.meanDuty g)
  let run := s.floorRun r
  let t0 := 16000 * divUp (8 * (s.T + 16000 * s.rd .CHANGE_LEAD) - run) 128000
  let c := s.chooseC g (s.rd .GROUP_N g) (8 * t0 + run)
  let s1 := (s.wr .FLOOR_STATE 1 g).wr .FLOOR_RATE r g
  let s2 := s1.modG g fun x => { x with floor := some { t0 := t0, period := 0, parkCount := c } }
  ((s2.parkGroup g c (t0 + s.floorPeriod)).resendDuty g).showCapFlags

/-- The duties of the fields of group `g` at the start of floor period 0 (R276, step 3). -/
def State.floorStart (s : State) (g : Nat) : State :=
  s.when (s.floorBegun g) fun t => t.each (t.groupFields g) fun u f => u.when (u.rd .FAST_DUTY f != 0) fun v => v.setDuty f 0

/-- Floor throttle leaves group `g`. -/
def State.stopFloor (s : State) (g : Nat) : State :=
  ((((s.wr .FLOOR_STATE 0 g).wr .FLOOR_RATE 1024 g).modG g fun x => { x with floor := none }).resendDuty g).showCapFlags

/-- The mean FIELD_EXCESS of field `f` as sum and number, over the windows that ended in a span of global time. -/
def State.excessIn (s : State) (f lo hi : Nat) : Int × Nat :=
  let l := (s.f f).excess.filter fun x => decide (lo < 16000 * x.1 ∧ 16000 * x.1 ≤ hi)
  (sumInt (l.map (·.2)), l.length)

/-- x_max of R277 as a fraction: the largest mean among the fields of group `g`. -/
def State.xMax (s : State) (g lo hi : Nat) : Int × Nat :=
  let l := ((s.groupFields g).map fun f => s.excessIn f lo hi).filter fun x => x.2 != 0
  match l with
  | [] => (0, 1)
  | a :: r => r.foldl (fun b x => if b.1 * x.2 < x.1 * b.2 then x else b) a

/-- The rate after an update with x_max as a fraction (R277). -/
def nextRate (r : Nat) (x : Int × Nat) : Nat := (clampInt 128 768 ((r : Int) - Int.tdiv ((r : Int) * x.1) (4096 * x.2))).toNat

/-- The instant at which the run of the floor period in progress ends, in eighths of a unit of global time. -/
def State.runEnd (s : State) (g : Nat) (fl : Floor) : Nat :=
  8 * (fl.t0 + fl.period * s.floorPeriod) + s.floorRun (s.rd .FLOOR_RATE g)

/-- What an update found, beside what has held all tick (R278, R279). -/
def Floor.note (fl : Floor) (r : Nat) (x : Int) : Floor :=
  let high := r == 768 && decide (x < 0)
  let low := r == 128 && decide (0 < x)
  let eased := decide (x ≤ 0)
  { fl with
    high := high
    low := low
    eased := eased
    highAll := fl.highAll && high
    lowAll := fl.lowAll && low
    easedAll := fl.easedAll && eased }

/-- The update of R277 in the park of group `g`: rate, tick conditions, and the next park.  A period whose park was held has none
in which r could be updated; the next park is issued where that park would have been (DESIGN CHOICE, log 104). -/
def State.floorUpdate (s : State) (g : Nat) (fl : Floor) : State :=
  let p := s.floorPeriod
  let at0 := s.runEnd g fl / 8
  let x := s.xMax g (at0 - p) at0
  let r := if !fl.parked then s.rd .FLOOR_RATE g else if s.rd .FLOOR_STATE g = 2 then 128 else nextRate (s.rd .FLOOR_RATE g) x
  let hold := s.clock.setTo.isSome
  let c := (fl.parkCount + runCycles (s.rd .GROUP_N g) (if hold then 8 * p else s.floorRun r)) % 2 ^ 48
  let fl1 : Floor := { (if fl.parked then fl.note r x.1 else fl) with period := fl.period + 1, parkCount := c, parked := !hold }
  let s1 := (s.wr .FLOOR_RATE r g).modG g fun y => { y with floor := some fl1 }
  if hold then s1 else s1.parkGroup g c (fl.t0 + (fl.period + 2) * p)

/-- FLOOR_RATE_UPDATE (R277): 2 µs into the park of group `g`. -/
def execFloorRateUpdate (g : Nat) (s : State) : Host.Outcome State Fault Refusal :=
  match (s.g g).floor with
  | some fl => .next (s.when (decide (s.runEnd g fl + 256000 ≤ 8 * s.T)) fun t => t.floorUpdate g fl)
  | none => .next s

/-! ### Thermal sensors and the trip (R233, R281, R282, R530) -/

/-- A release time that is never reached: the park of a trip (R282). -/
def never : Nat := 2 ^ 80

/-- Region `m` is under the park of a trip already. -/
def State.tripParked (s : State) (m : Nat) : Bool :=
  let hot (p : Option Park) : Bool := (p.map (·.thermal)).getD false
  hot (s.r m).park || hot (s.r m).nextPark

/-- The parks of a trip of field `f` (R282), and the stop of its detached regions (R176). -/
def State.tripParks (s : State) (f : Nat) : State :=
  let g := s.groupOf f
  let at0 := s.T + 16000 * s.rd .CHANGE_LEAD
  let rs := if g = 0xFF then (s.fieldRegions f).filter fun m => s.live m && s.clocked m else s.clockedRegions g
  let count (t : State) (m : Nat) : Nat :=
    if g = 0xFF then t.chooseFor (t.rd .OSC_TARGET_N m) m 0 (8 * at0) % 2 ^ 48 else s.chooseC g (s.rd .GROUP_N g) (8 * at0)
  let s1 := s.each (rs.filter fun m => !s.tripParked m) fun t m => t.givePark m (count t m) never true
  if g = 0xFF then s1
  else s1.each ((s.fieldRegions f).filter fun m => s.live m && s.clocked m && s.on .REGION_DETACHED m) State.tripStop

/-- The trip of field `f` by a sensor of region `n` that read `v` (R282).  No park is issued while a TIME_SET pends: the parks
follow it (R220, R288). -/
def State.thermalTrip (s : State) (f n : Nat) (v : Int) (injected : Bool) : State :=
  let g := s.groupOf f
  let s0 : State := if s.clock.setTo.isSome then { s with caps := { s.caps with tripDue := s.caps.tripDue ++ [f] } } else s.tripParks f
  let s1 := (s0.modF f fun x => { x with tripped := true }).when (g != 0xFF) fun t =>
    ((t.when (t.g g).floor.isSome fun u => u.stopFloor g).unobserve g).modG g fun x => { x with tripped := true }
  let s2 := (((s1.setFlag .CAP_STATUS 4 true).event 0x21 f (ofInt 32 v) injected).when (!injected) fun t =>
    t.inc .THERM_TRIPS).markRuns s1.groups 8
  s2.raiseFault .thermalTrip 1 f (n % 8) injected

/-- The TIME_SET has applied: the parks that waited for it are issued. -/
def State.tripParksDue (s : State) : State :=
  ({ s with caps := { s.caps with tripDue := [] } } : State).each s.caps.tripDue State.tripParks

/-- A reading after the injection of point 2, and whether it was forced (R536). -/
def State.forcedTemp (s : State) (n i : Nat) (v : Option Int) : Option Int × Bool :=
  match s.injAt 2 with
  | some x => if x.element = n ∧ bits x.arg 0 3 = i then (some (toInt 11 (bits x.arg 16 11)), true) else (v, false)
  | none => (v, false)

/-- One forced read is used up (R536). -/
def State.useTempInj (s : State) : State :=
  match s.inj.cur with
  | some x => if x.left ≤ 1 then s.endInjection 1 else { s with inj := { s.inj with cur := some { x with left := x.left - 1 } } }
  | none => s

/-- A reading is valid: it is there, and lies in −40 °C to 150 °C (R530). -/
def validTemp (v : Option Int) : Option Int := v.filter fun t => decide (-160 ≤ t ∧ t ≤ 600)

/-- The reading of sensor `i` differs by more than 30 °C from the mean of the region's other valid sensors. -/
def State.differs (s : State) (n i : Nat) (v : Int) : Bool :=
  let others := ((List.range (s.rd .TS_COUNT n)).filter (· != i)).filterMap fun j =>
    if (s.tsOf n j).failed then none else (s.tsOf n j).value
  others != [] && decide (120 * others.length < (v * others.length - sumInt others).natAbs)

/-- One conversion of sensor `i` of region `n` (R530). -/
def State.readTemp (s : State) (n i : Nat) (raw : Option Int) : State :=
  let p := s.forcedTemp n i raw
  let t := s.tsOf n i
  let s0 := s.when p.2 fun u => u.useTempInj
  if t.failed then s0
  else
    let v := validTemp p.1
    let bad := v.isNone
    let diff := match v with
      | some x => s.differs n i x
      | none => false
    let hot := match v with
      | some x => decide (s.tickInt .THERM_TRIP ≤ x)
      | none => false
    let inv := if bad then t.invalidRun + 1 else 0
    let dif := if diff then t.differRun + 1 else 0
    let fail := decide (10 ≤ inv ∨ 100 ≤ dif)
    let t1 : Ts :=
      { value := if fail then none else v, invalidRun := inv, differRun := dif, failed := fail,
        tripRun := if hot then t.tripRun + 1 else 0, byInj := p.2 || (hot && t.byInj), offset := t.offset }
    let s1 := (s0.modTs n i fun _ => t1).when fail fun u => u.event 0x31 n i p.2
    match v with
    | some x =>
      let f := fieldOf n
      let s2 := s1.modF f fun y => { y with tempMax := some (max x (y.tempMax.getD x)) }
      s2.when (decide (2 ≤ t1.tripRun) && !(s2.f f).tripped) fun u => u.thermalTrip f n x t1.byInj
    | none => s1

/-- The ceiling of a tripped group ends once every region of it is cool (R283). -/
def State.tripRelease (s : State) (g : Nat) : State :=
  let lim := s.tickInt .THERM_THROTTLE - s.tickVal .THERM_HYST
  s.when ((s.g g).tripCeil && (s.groupRegions g).all fun n => decide ((s.temp n).1 < lim)) fun t =>
    (t.modG g fun x => { x with tripCeil := false }).retarget g

/-- THERMAL_READ (R233, R281, R530): the agent of a region present, excluded or not, reads its sensors while its router has power. -/
def execThermalRead (n : Nat) (readings : List TsReading) (s : State) : Host.Outcome State Fault Refusal :=
  .next (s.when (s.present n && s.routerOn n) fun t =>
    let u := t.each (List.range (t.rd .TS_COUNT n)) fun v i => v.readTemp n i ((readings.getD i {}).value.map (· + (v.tsOf n i).offset))
    u.when (u.groupOf (fieldOf n) != 0xFF) fun v => v.tripRelease (v.groupOf (fieldOf n)))

/-! ### Engine-level inputs (R262 to R264) -/

/-- LIMIT_RECOMPUTE (R262): within 1 µs of a change of an engine-level limit. -/
def execLimitRecompute (s : State) : Host.Outcome State Fault Refusal := .next (s.when s.caps.due fun t => t.recompute)

/-- CAP_N_WINDOW (R263): a 1 µs window of CAP_N ends, asserted when any sample in it was low. -/
def execCapNWindow (low : Bool) (s : State) : Host.Outcome State Fault Refusal :=
  let s1 := s.setFlag .CAP_STATUS 1 low
  match s.caps.extSince with
  | none => .next (s1.when low fun t =>
      let u := (t.setFlag .CAP_STATUS 2 true).inc .CAP_N_EVENTS
      { u with caps := { u.caps with extSince := some u.up, due := true } })
  | some t0 => .next (s1.when (!low && decide (t0 + s.rd .CAP_N_MIN_TIME ≤ s.up)) fun t =>
      let u := t.setFlag .CAP_STATUS 2 false
      { u with caps := { u.caps with extSince := none, due := true } })

/-- HOT_N_ASSERT (R264): HOT_N has been low for 10 µs. -/
def execHotNAssert (s : State) : Host.Outcome State Fault Refusal :=
  .next (s.when (!s.flag .CAP_STATUS 3) fun t =>
    let u := (((t.setFlag .CAP_STATUS 3 true).inc .HOT_N_EVENTS).event 0x20 0xFFFF 0)
    ((u.each u.groups fun v g => v.spoil g).markRuns u.groups 8).retargetAll)

/-- HOT_N_RELEASE (R264): HOT_N has been high for 10 µs. -/
def execHotNRelease (s : State) : Host.Outcome State Fault Refusal :=
  .next (s.when (s.flag .CAP_STATUS 3) fun t => (t.setFlag .CAP_STATUS 3 false).retargetAll)

end Sys2Proof.Machine
end

