-- ==== Sys2Proof/Machine/SlowLoop.lean ====
section
/-! DEFINITION. The slow loop: corrections, thermal limits, limits, power entries, floor throttle, voltage trims and the
tick's reports (R138, R181, R260, R273 to R281, R284, R342, R345, R486). -/

set_option Elab.async false

namespace Sys2Proof.Machine
open Sys2Proof

/-! ### Order 1: K_f and shares (R259, R260) -/

/-- The first window after the boundary of the tick in progress. -/
def State.tickWindow (s : State) : Nat := 10 * s.interval

/-- K_f, the tick-mean corrected estimate and the share of field `f`; windows that ended before the tick keep the K_f they had
(R341). -/
def State.tickField (s : State) (f : Nat) : State :=
  let x := s.f f
  let total := sumOf ((s.holderFields (s.groupOf f)).map fun h => (s.f h).powSum)
  let s1 := s.when (decide (50 ≤ x.intervals ∧ 0 < x.estSum)) fun t =>
    (t.holdOld .FIELD_EST_CORR (t.tickWindow - 1) f).wrInt .FIELD_EST_CORR
      (clampInt 14336 20480 (divOpen 30 (x.measSum * 16384 : Nat) x.estSum)) f
  s1.modF f fun y =>
    { y with
      lastMean := if x.windows = 0 then y.lastMean else (divOpen 31 x.powSum x.windows).toNat
      share := if total = 0 then none else some (x.powSum, total) }

/-! ### Order 2: thermal limits (R281) and the end of a trip's ceiling (R283) -/

/-- T_f of the tick in 0.25 °C: 110 °C where no sensor is valid. -/
def State.tickTemp (s : State) (f : Nat) : Int :=
  match (s.f f).tempMax with
  | some t => t
  | none => match s.tempsOf (s.fieldRegions f) with
    | [] => 440
    | a :: l => l.foldl max a

/-- The thermal limit after a tick (R281). -/
def nextTherm (lth mean pmax step : Nat) (t throttle hyst : Int) : Nat :=
  if throttle < t then
    let base := if lth = noLimit then mean else lth
    base - base * step / 256
  else if lth ≠ noLimit ∧ t < throttle - hyst then
    let up := lth + lth * step / 256
    if pmax ≤ up then noLimit else up
  else lth

/-- The thermal limit of field `f` at a tick. -/
def State.tickTherm (s : State) (f : Nat) : State :=
  let t := s.tickTemp f
  let pmax := sumOf ((s.fieldRegions f).map fun n => s.rd .REGION_PMAX n)
  let l := nextTherm (s.rd .FIELD_THERM_LIMIT f) (s.f f).lastMean pmax (s.rd .THERM_STEP) t (s.rdInt .THERM_THROTTLE) (s.rd .THERM_HYST)
  (s.wrInt .FIELD_TEMP_MAX t f).wrFit .FIELD_THERM_LIMIT l f 32

/-! ### Order 3: limits (R257 to R262, R284) -/

/-- The degraded-rail limit of field `f` ends once no rail of its holder is DEGRADED (R284). -/
def State.tickSafe (s : State) (f : Nat) : State :=
  let g := s.groupOf f
  let fs := if g = 0xFF then [f] else s.groupFields g
  if fs.any s.fieldDegraded then s
  else (s.modF f fun x => { x with safeLimit := none }).when (g != 0xFF) fun t => t.modG g fun x => { x with degCeil := none }

/-- Tick-mean measured power of rail `r`: its last valid interval where the tick has none. -/
def State.railMean (s : State) (r : Nat) : Nat :=
  let x := s.ra r
  if x.pCount = 0 then x.lastPow.getD 0 / 200 else (divOpen 33 x.pSum (200 * x.pCount : Nat)).toNat

/-- ENGINE_MEAS and the power that no region draws (R257, R289). -/
def State.tickRails (s : State) : State :=
  let other := sumOf ((s.rails.filter fun r => s.rd .RAIL_DOMAIN r == 0xFFFF).map s.railMean)
  let all := sumOf (s.rails.map s.railMean)
  let bad := s.rails.any fun r => (s.ra r).anyInvalid || (s.ra r).pCount == 0
  let s1 := if bad then s.wr .ENGINE_MEAS 0xFFFFFFFF else s.wrFit .ENGINE_MEAS all 0 34
  ({ s1 with caps := { s1.caps with otherMeas := other } }).recomputeRails

/-- The rail sums of a new tick. -/
def State.clearRails (s : State) : State :=
  s.each s.rails fun t r => t.modRa r fun x => { x with vSum := 0, vCount := 0, pSum := 0, pCount := 0, anyInvalid := false }

/-! ### Order 4: power entries (R268, R274, R275) -/

/-- The prediction of R275 for region `n` at a ratio and voltage, in mW. -/
def State.predRegion (s : State) (n ratio v : Nat) : Nat :=
  let x := s.ee n
  let dyn : Int := if x.dynCount = 0 then s.rd .EST_DYN n else divOpen 35 x.dynSum x.dynCount
  let v0 := s.rd .FIELD_VOLT (fieldOf n)
  s.leakOf n v + (divOpen 36 (dyn * ratio * s.vscale s.window v) ((s.rd .OSC_TARGET_N n : Int) * s.vscale s.window v0)).toNat

/-- The prediction of R275 for field `f` at a ratio and voltage. -/
def State.predField (s : State) (f ratio v : Nat) : Nat :=
  s.corrected f (sumOf (((s.fieldRegions f).filter s.live).map fun n => s.predRegion n ratio v))

/-- pred(g, N') of R275. -/
def State.predGroup (s : State) (g ratio : Nat) : Nat :=
  let u := s.wr .GROUP_TARGET_N ratio g
  sumOf ((s.groupFields g).map fun f => s.predField f ratio (u.predictVolt f ratio none).1)

/-- The reason of a down step of group `g` (R268). -/
def State.downReason (s : State) (g p : Nat) : Nat :=
  if s.rd .GROUP_LIMIT g < p then s.rd .COMPUTE_LIMIT_REASON
  else
    let sum (r : Nat) : Nat := sumOf ((s.groupFields g).map fun f => Tab.get (s.f f).capByReason r 0)
    ((List.range 12).foldl (fun b r => if b.2 < sum r then (r, sum r) else b) (0xFF, 0)).1

/-- The quantities of R274: eighths lost, natural eighths, power and limit. -/
structure Pow where
  lost : Nat
  natural : Nat
  p : Nat
  l : Nat
  deriving DecidableEq, Repr

/-- The quantities of R274 for group `g` at a tick. -/
def State.powIn (s : State) (g : Nat) : Pow :=
  let x := s.g g
  { lost := x.lostSum, natural := 8 * x.cycleSum + x.lostSum, p := sumOf ((s.groupFields g).map fun f => (s.f f).lastMean),
    l := s.rd .GROUP_LIMIT g }

/-- loss against a threshold in 0.01%: the sign of loss − threshold; an empty tick leaves loss open. -/
def Pow.lossCmp (q : Pow) (d : Nat) : Int :=
  if q.natural = 0 then Config.divByZero 37 (10000 * q.lost : Nat) - d else (10000 * q.lost : Nat) - (d * q.natural : Nat)

/-- e_pow of group `g` set. -/
def State.setPow (s : State) (g e : Nat) : State := s.wr .OP_POWER_ENTRY e g

/-- A down step of e_pow (R274). -/
def State.downStep (s : State) (g e p : Nat) : State :=
  let x := s.g g
  let b := match x.upTick.find? fun y => y.1 == e with
    | some y => if s.caps.tick < y.2 + 16 then Tab.set x.bounce e (s.rd .OP_BOUNCE_TICKS) 0 else x.bounce
    | none => x.bounce
  ((s.setPow g (e - 1)).inc .OP_DOWN_STEPS g).modG g fun x => { x with upRun := 0, bounce := b, powReason := s.downReason g p }

/-- The up branch of R274. -/
def State.upStep (s : State) (g e : Nat) : State :=
  let k := (s.g g).upRun + 1
  if s.rd .OP_UP_DWELL ≤ k then
    ((s.setPow g (e + 1)).inc .OP_UP_STEPS g).modG g fun x => { x with upRun := 0, upTick := x.upTick.put (e + 1) s.caps.tick }
  else s.modG g fun x => { x with upRun := k }

/-- Every other condition for an up step holds (R274, R275). -/
def State.upAllowed (s : State) (g e ce : Nat) (q : Pow) : Bool :=
  decide (q.lossCmp (s.rd .OP_UP_LOSS) ≤ 0 ∧ e < ce) && Tab.get (s.g g).bounce (e + 1) 0 == 0
    && decide (s.predGroup g (opN (s.opTableNow g) (e + 1)) ≤ q.l - q.l * s.rd .OP_UP_MARGIN / 256)

/-- e_pow of group `g` at a tick (R274). -/
def State.tickPow (s : State) (g : Nat) : State :=
  let q := s.powIn g
  let e := s.rd .OP_POWER_ENTRY g
  let ce := (s.ceilBase g).value
  let s1 := s.wr .GROUP_LOSS (divOpen 37 (10000 * q.lost : Nat) q.natural).toNat g
  let s2 :=
    if s.rd .FLOOR_STATE g ≠ 0 then s1.setPow g 0
    else if ce < e then (s1.setPow g ce).modG g fun x => { x with upRun := 0 }
    else if (0 ≤ q.lossCmp (s.rd .OP_DOWN_LOSS) ∨ q.l < q.p) ∧ 0 < e then s1.downStep g e q.p
    else if s.upAllowed g e ce q then s1.upStep g e
    else s1.modG g fun x => { x with upRun := 0 }
  (s2.modG g fun x => { x with bounce := (x.bounce.map fun y => (y.1, y.2 - 1)).filter fun y => y.2 != 0 }).showCeiling g

/-! ### Order 5: floor throttle (R276, R278 to R280) -/

/-- The corrected estimate of group `g` less its limit (R279). -/
def State.showExcess (s : State) (g : Nat) : State :=
  let p := (divOpen 38 (s.g g).powSum (s.g g).windows).toNat
  let l := s.rd .GROUP_LIMIT g
  if l ≤ p then s.wr .CAP_EXCESS (p - l) g
  else
    let q := s.free 39 32
    q.2.wr .CAP_EXCESS q.1 g

/-- Floor throttle of group `g` at a tick. -/
def State.tickFloor (s : State) (g : Nat) : State :=
  match (s.g g).floor with
  | none =>
    let hot := (s.groupFields g).any fun f => decide ((s.f f).windows ≠ 0 ∧ s.rd .FLOOR_ENGAGE_DUTY * (s.f f).windows ≤ (s.f f).dutySum)
    s.when ((s.ceilTerm g).value == 0 && s.rd .OP_POWER_ENTRY g == 0 && hot && s.clock.setTo.isNone && !(s.g g).tripped) fun t =>
      t.engageFloor g
  | some fl =>
    let k := if fl.highAll then fl.highTicks + 1 else 0
    let keep (t : State) : State := t.modG g fun x =>
      { x with floor := x.floor.map fun y => { y with highTicks := k, highAll := y.high, lowAll := y.low, easedAll := y.eased } }
    if s.rd .OP_UP_DWELL ≤ k ∧ fl.highAll then (s.each (s.groupFields g) fun t f => t.setDuty f 171).stopFloor g
    else if s.rd .FLOOR_STATE g = 2 then
      if fl.easedAll then ((keep s).wr .FLOOR_STATE 1 g).showCapFlags else (keep s).showExcess g
    else if fl.lowAll then
      let t := ((((keep s).wr .FLOOR_STATE 2 g).showExcess g).inc .CAP_UNATT_EVENTS g)
      ((t.event 0x22 g (t.rd .CAP_EXCESS g)).modG g fun x => { x with ep := x.ep.map fun e => { e with unatt := true } }).showCapFlags
    else keep s

/-- CAP_UNATTAINABLE for the fields with no group (R280). -/
def State.tickNoGroup (s : State) : State :=
  let fs := s.holderFields 0xFF
  let hit := fs.any fun f => (s.f f).allAtMax && (s.f f).windows != 0
  let any := fs.any fun f => (s.f f).anyAtMax
  let x := s.g 0xFF
  if s.caps.setUnatt then
    if any then s else ({ s with caps := { s.caps with setUnatt := false } }).showCapFlags
  else if hit then
    let e : Int := divOpen 40 x.powSum x.windows - s.holderLimit 0xFF
    let t := s.event 0x22 0xFF (ofInt 32 e)
    let u : State := { t with caps := { t.caps with setUnatt := true } }
    (u.modG 0xFF fun y => { y with ep := y.ep.map fun e => { e with unatt := true } }).showCapFlags
  else s

/-! ### Order 6: voltage trims (R111, R138, R181) -/

/-- FIELD_HOLD_FRAC of field `f` in ppm, to the nearest (DEDUCED from the example of R138, log 46). -/
def State.tickHold (s : State) (f : Nat) : State :=
  let rs := s.fieldRegions f
  let num := sumOf (rs.map fun n => (s.r n).tickDroop + (s.r n).tickCaused)
  let den := 8 * sumOf (rs.map fun n => (s.r n).tickCycles)
  s.wr .FIELD_HOLD_FRAC (nearestOpen 41 (1000000 * num : Nat) den).toNat f

/-- The trim of field `f` after a tick: value and quiet ticks (R181).  A field of a running group with no clocked region has
no least headroom: the trim may fall (DESIGN CHOICE: R181 takes a minimum over regions, log 76). -/
def State.nextTrim (s : State) (f : Nat) (rs : List Nat) : Int × Nat :=
  let trim := s.rdInt .FIELD_VTRIM f
  let hold := s.rd .FIELD_HOLD_FRAC f
  let heads := rs.map fun n => s.rdInt .OSC_HEADROOM n
  let down := (s.f f).downRun
  if s.rd .VSET_HOLD_HI < hold || heads.any (fun h => decide (h < 0)) || rs.any (fun n => s.osc n .ceiling) then (trim + 1, 0)
  else if hold < s.rd .VSET_HOLD_LO && heads.all fun h => decide (s.rdInt .VSET_HEAD_HI < h) then
    if s.rd .VSET_DWELL ≤ down + 1 then (trim - 1, 0) else (trim, down + 1)
  else (trim, 0)

/-- The guard step of a field holding a quarantined sensor (R111), and DS_STATUS.GUARD_STEP of the regions that hold one
(R115). -/
def State.tickGuard (s : State) (f : Nat) : State :=
  (s.each (s.fieldRegions f) fun t n => t.setDs n 4 (s.rd .DS_QUARANTINE n != 0)).modF f fun x =>
    { x with guardStep := (s.fieldRegions f).any fun n => s.rd .DS_QUARANTINE n != 0 }

/-- FIELD_VTRIM of field `f` takes a new value, counted as a raise or a fall (R181, R194). -/
def State.moveTrim (s : State) (f : Nat) (q : Int × Nat) : State :=
  let old := s.rdInt .FIELD_VTRIM f
  let t := clampInt (-40) 40 q.1
  let s1 := ((s.wrInt .FIELD_VTRIM t f).modF f fun x => { x with downRun := q.2 }).when (decide (old < t)) fun u => u.inc .FIELD_VSET_UPS f
  (s1.when (decide (t < old)) fun u => u.inc .FIELD_VSET_DOWNS f).wr .FIELD_VNEED (s.fieldNeed f (s.rd .GROUP_N (s.groupOf f)) none) f

/-- The voltage of field `f` at a tick: the need refreshed, the trim settled, the request sent (R179, R181, R182).  No request
is made while a step or a stop holds the field's voltage, nor while operating points are frozen (R24, R191). -/
def State.tickTrim (s : State) (f : Nat) : State :=
  let g := s.groupOf f
  let rs := (s.fieldRegions f).filter fun n => s.live n && s.clocked n
  let runs := if g = 0xFF then rs != [] else s.isReady .ready
  if runs = false then s.wr .FIELD_VNEED (s.fieldNeed f (s.rd .GROUP_N g) none) f
  else if s.voltBusy f || (s.opFrozen && g != 0xFF) then s.moveTrim f (s.nextTrim f rs)
  else
    let t := s.moveTrim f (s.nextTrim f rs)
    let p := t.predictVolt f (t.rd .GROUP_N g) none
    p.2.requestVolt f (max p.1 (p.2.rd .FIELD_VOLT f - 1))


/-! ### Reports of the tick -/

/-- The peaks of a region over the tick (R115, R145, R222). -/
def State.tickPeaks (s : State) (n : Nat) : State :=
  let r := s.r n
  ((((s.wr .DS_MIN_READING r.minReading n).wr .SLIP_PEAK r.slipPeak n).wr .REGION_TIME_ERR_PEAK (min 65535 r.errPeak) n).modR n fun r =>
    { r with minReading := 64, slipPeak := 0, errPeak := 0, tickDroop := 0, tickCaused := 0, tickCycles := 0 }).modE n fun x =>
      { x with dynSum := 0, dynCount := 0 }

/-- GROUP_SLIP_PEAK (R146). -/
def State.tickGroupPeak (s : State) (g : Nat) : State :=
  s.wr .GROUP_SLIP_PEAK (maxOf ((s.groupRegions g).map fun n => s.rd .SLIP_PEAK n)) g

/-- The bin of a value among ascending edges (R486). -/
def binOf (edges : List Int) (x : Int) : Nat := (edges.filter fun e => decide (e ≤ x)).length

/-- STRESS_BINS of field `f` (R486). -/
def State.tickStress (s : State) (f : Nat) : State :=
  if !(s.fieldRegions f).any s.clocked then s
  else
    let b := 8 * binOf [120, 140, 160, 180, 200, 220, 240] (s.rd .FIELD_VOLT f)
      + binOf [100, 180, 240, 300, 340, 380, 420] (s.rdInt .FIELD_TEMP_MAX f)
    let ms := Tab.get (s.f f).binMs b 0 + 1
    (s.when (ms == 1000) fun t => t.wrBytes .STRESS_BINS f (4 * b) 4 (satAdd 32 (t.rdBytes .STRESS_BINS f (4 * b) 4) 1)).modF f fun x =>
      { x with binMs := Tab.set x.binMs b (ms % 1000) 0 }

/-- One µJ in the units of `Energy.tick`. -/
def microJoule : Nat := 16384000

/-- Adds the tick's charge of one key to its counter, with the remainder kept (R342). -/
def State.addEnergy (s : State) (x : Nat × Nat) : State :=
  let t := Tab.get s.energy.rest x.1 0 + x.2
  let s1 := { s with energy := { s.energy with rest := Tab.set s.energy.rest x.1 (t % microJoule) 0 } }
  if x.1 = 0x100 then s1.addWrap .ENGINE_COMPUTE_ENERGY (t / microJoule)
  else if x.1 = 0xFF then s1.addWrap .UNASSIGNED_ENERGY (t / microJoule)
  else s1.addWrap .PART_ENERGY (t / microJoule) x.1

/-- The snapshot of R345. -/
def State.takeSnapshot (s : State) : State :=
  let s1 := s.each (List.range (s.rd .NUM_PARTITIONS)) fun t p => t.wr .SNAP_PART_ENERGY (t.rd .PART_ENERGY p) p
  let s2 := (((s1.wr .SNAP (s1.rd .UNASSIGNED_ENERGY) 0 0).wr .SNAP (s1.rd .ENGINE_COMPUTE_ENERGY) 0 1).wr .SNAP
    (s1.rd .ENGINE_DOMAIN_RAIL_ENERGY) 0 2).wr .SNAP (s1.rd .ENGINE_NONCOMPUTE_ENERGY) 0 3
  let s3 := (s2.wr .SNAP_TIME s2.T).wr .REPORT_SNAP_REQ 0
  { s3 with energy := { s3.energy with snap := false } }

/-- PART_REGIONS: regions assigned in force. -/
def State.showParts (s : State) : State :=
  s.each (List.range (s.rd .NUM_PARTITIONS)) fun t p => t.wr .PART_REGIONS (t.regions.filter fun n => t.partOf n == p).length p

/-- The energy counters at a tick boundary (R340, R342, R345). -/
def State.tickEnergy (s : State) : State :=
  let s1 := s.each s.energy.tick fun t x => t.addEnergy x
  let s2 := { s1 with energy := { s1.energy with tick := [] } }
  let s3 := s2.when s2.energy.snap State.takeSnapshot
  let parts := s3.regions.foldl (fun a n => Tab.set a n (s3.rd .REGION_PARTITION n) 0xFF) []
  ({ s3 with energy := { s3.energy with parts := parts, partsOld := s3.energy.parts, partsFrom := s3.tickWindow } }).showParts

/-- The sums of fields and groups of a new tick; new tables are in force, steps may rise again (R185, R191, R267). -/
def State.newTick (s : State) : State :=
  let s1 := s.each s.fields fun t f => t.modF f fun x =>
    { x with
      powSum := 0
      windows := 0
      dutySum := 0
      allAtMax := true
      anyAtMax := false
      measSum := 0
      estSum := 0
      intervals := 0
      tempMax := none
      capByReason := [] }
  s1.each (s1.groups ++ [0xFF]) fun t g => t.modG g fun x => { x with powSum := 0, windows := 0, lostSum := 0, cycleSum := 0 }

/-- A table written since the last tick is in force; rising steps are free again. -/
def State.openTick (s : State) : State :=
  let s1 := s.each s.groups fun t g => t.modG g fun x => { x with table := none, noRise := false, noStep := false }
  { s1 with caps := { s1.caps with tick := s1.caps.tick + 1 } }

/-- A flipped word of SRAMs 0 to 3 whose region or group runs: the functions that read these SRAMs continually have found it by
the next tick (R545). -/
def State.flipUsed (s : State) (x : Flip) : Bool :=
  if x.code = Sram.code .opTables then (s.groupRegions (x.word / 32)).any s.clocked
  else decide (x.code ≤ 3) && s.clocked x.element

/-- The continual reads of SRAMs 0 to 3 (R41, R545): an uncorrectable word raises SRAM_UE. -/
def State.scanSrams (s : State) : State :=
  (s.readFlips s.flipUsed fun t x =>
    if x.code = Sram.code .opTables then t.sramLost .opTables 3 0 else t.sramLost (Sram.ofCode x.code) 0 x.element).2

/-- The groups that have a field (R273). -/
def State.heldGroups (s : State) : List Nat := s.groups.filter fun g => s.groupFields g != []

/-- SLOW_LOOP_TICK (R273): the six orders, then the reports of the tick. -/
def State.slowTick (s : State) : State :=
  let s0 := s.scanSrams.openTick
  let s1 := s0.each s0.fields State.tickField
  let s2 := (s1.each s1.fields State.tickTherm).each s1.groups State.tripRelease
  let s3 := ((s2.each s2.fields State.tickSafe).tickRails.recompute).clearRails
  let s4 := (s3.each s3.heldGroups State.tickPow).retargetAll
  let s5 := (s4.each s4.heldGroups State.tickFloor).tickNoGroup
  let s6 := ((s5.each s5.fields State.tickHold).each s5.fields State.tickGuard).each s5.fields State.tickTrim
  let s7 := ((s6.estimatorTick).each s6.regions State.tickPeaks).each s6.groups State.tickGroupPeak
  ((s7.each s7.fields State.tickStress).tickEnergy).newTick

/-- SLOW_LOOP_TICK (R273), once CTL runs; the slow loop stands in a short stop of CTL, and the tick follows it (R34). -/
def execSlowLoopTick (s : State) : Host.Outcome State Fault Refusal :=
  .next (s.when (s.isReady .ctl && !s.refs.shortStop) State.slowTick)

end Sys2Proof.Machine
end

