-- ==== Sys2Proof/Machine/Praline.lean ====
section
/-! DEFINITION. Praline: phase marks, the phase and group tables, learning, choices and pre-positioning (R293 to R319). -/

set_option Elab.async false

namespace Sys2Proof.Machine
open Sys2Proof

/-! ### Encodings (R299, R300) -/

/-- The value of a pseudo-floating code with `m` mantissa bits. -/
def pfDec (m c : Nat) : Nat := (2 ^ m + c % 2 ^ m) * 2 ^ (c / 2 ^ m)
/-- The largest code whose value does not exceed `x`. -/
def pfEnc (m x : Nat) : Nat :=
  if x < 2 ^ m then 0
  else
    let e := x.log2 - m
    if 31 < e then 2 ^ (m + 5) - 1 else 2 ^ m * e + x / 2 ^ e - 2 ^ m
/-- The class of R300 of a fraction; no cycles leave it open. -/
def classOf (num den : Nat) : Nat :=
  if den = 0 then (Config.divByZero 53 num).toNat % 16
  else if num * 100000 < den then 0
  else min 15 (1 + (num * 100000 / den).log2)

/-! ### The tables (R298, R302) -/

/-- An entry of the phase table, taken apart (R298). -/
structure PEntry where
  conf : Nat := 0
  voff : Nat := 0
  hold : Nat := 0
  stretch : Nat := 0
  energy : Nat := 0
  dur : Nat := 0
  p95 : Nat := 0
  mean : Nat := 0
  deriving DecidableEq, Repr

/-- The 64-bit word of an entry. -/
def PEntry.word (x : PEntry) : Nat :=
  x.conf % 64 * 2 ^ 58 + x.voff % 32 * 2 ^ 53 + x.hold % 16 * 2 ^ 49 + x.stretch % 16 * 2 ^ 45 + x.energy % 2048 * 2 ^ 34
    + x.dur % 4096 * 2 ^ 22 + x.p95 % 2048 * 2 ^ 11 + x.mean % 2048
/-- The entry that a word spells. -/
def PEntry.of (w : Nat) : PEntry :=
  { conf := bits w 58 6, voff := bits w 53 5, hold := bits w 49 4, stretch := bits w 45 4, energy := bits w 34 11,
    dur := bits w 22 12, p95 := bits w 11 11, mean := bits w 0 11 }

/-- The entry of tag `t` and field `f`. -/
def State.pe (s : State) (t f : Nat) : PEntry := PEntry.of (Tab.get s.phase (128 * t + f) 0)
/-- The entry of tag `t` and field `f` replaced. -/
def State.setPe (s : State) (t f : Nat) (x : PEntry) : State := { s with phase := Tab.set s.phase (128 * t + f) x.word 0 }

/-- An entry of a group table, taken apart (R302). -/
structure GEntry where
  entry : Nat := 0
  base : Nat := 0
  pref : Nat := 0
  prefValid : Bool := false
  gconf : Nat := 0
  baseT : Nat := 0
  deriving DecidableEq, Repr

/-- The 32-bit word of an entry. -/
def GEntry.word (x : GEntry) : Nat :=
  x.entry % 32 * 2 ^ 27 + x.base % 32 * 2 ^ 22 + x.pref % 32 * 2 ^ 17 + x.prefValid.toNat * 2 ^ 16 + x.gconf % 16 * 2 ^ 12
    + x.baseT % 4096
/-- The entry that a word spells. -/
def GEntry.of (w : Nat) : GEntry :=
  { entry := bits w 27 5, base := bits w 22 5, pref := bits w 17 5, prefValid := bit w 16, gconf := bits w 12 4,
    baseT := bits w 0 12 }

/-- The entry of tag `t` in the table of group `g`. -/
def State.ge (s : State) (g t : Nat) : GEntry := GEntry.of (s.rdBytes .PR_GROUP_TABLE g (4 * t) 4)
/-- The entry of tag `t` in the table of group `g` replaced. -/
def State.setGe (s : State) (g t : Nat) (x : GEntry) : State := s.wrBytes .PR_GROUP_TABLE g (4 * t) 4 x.word
/-- GCONF of every entry of group `g` cleared (R303). -/
def State.clearGconf (s : State) (g : Nat) : State :=
  s.wr .PR_GROUP_TABLE (Nat.land (s.rd .PR_GROUP_TABLE g) (0xFFFF0FFF * ((2 ^ 131072 - 1) / (2 ^ 32 - 1)))) g

/-- Word `w` of the Praline tables is uncorrectable: its entry is cleared (R41, R315, R545). -/
def State.loseTag (s : State) (w : Nat) : State :=
  if w < 524288 then s.setPe (w / 128) (w % 128) {} else s.setGe ((w - 524288) / 4096) ((w - 524288) % 4096) {}

/-- Reads words of the Praline tables: an uncorrectable one is cleared (R41, R315, R545). -/
def State.readWords (s : State) (p : Flip → Bool) : State :=
  (s.readFlips p fun u x => (u.loseTag x.word).sramLost .praline 3 0).2
/-- Reads the word of tag `t` in the table of group `g`. -/
def State.readGroupWord (s : State) (g t : Nat) : State := s.readWords fun x => x.isIn .praline 0 (524288 + 4096 * g + t) 1
/-- Reads the words of tag `t` in the phase table for the fields of group `g`. -/
def State.readFieldWords (s : State) (g t : Nat) : State :=
  s.readWords fun x => (s.groupFields g).any fun f => x.isIn .praline 0 (128 * t + f) 1
/-- Reads the words of tag `t` that serve group `g`. -/
def State.readTag (s : State) (g t : Nat) : State := (s.readGroupWord g t).readFieldWords g t

/-! ### Policy and choice (R307, R309, R313, R316) -/

/-- The policies. -/
inductive Policy where
  | off | follow | learn | race
  deriving DecidableEq, Repr

/-- The policy of group `g` in force: FOLLOW in FALLBACK. -/
def State.policy (s : State) (g : Nat) : Policy :=
  if bit (s.rd .PR_STATUS) 0 then .follow
  else match s.rd .PR_POLICY g with
    | 0 => .off
    | 1 => .follow
    | 2 => .learn
    | _ => .race

/-- Praline neither chooses, learns nor pre-positions for group `g` (R313, R317). -/
def State.pralineIdle (s : State) (g : Nat) : Bool :=
  s.policy g == .off || s.on .FIXED_RATE_ENABLE g || s.rd .FLOOR_STATE g != 0 || s.frozen

/-- One step of the LFSR with taps 16, 14, 13 and 11 (R309; the form of the register is PRESUMED, log 33). -/
def lfsrNext (x : Nat) : Nat :=
  x / 2 + (bits x 0 1 + bits x 2 1 + bits x 3 1 + bits x 5 1) % 2 * 32768
/-- The LFSR of group `g` advances. -/
def State.stepLfsr (s : State) (g : Nat) : State := s.wr .PR_LFSR (lfsrNext (s.rd .PR_LFSR g)) g
/-- The LFSR of group `g` is loaded at an arm. -/
def State.loadLfsr (s : State) (g : Nat) : State :=
  let x := Nat.xor (s.rd .PR_SEED) g
  s.wr .PR_LFSR (if x = 0 then 0xFFFF else x) g

/-- The neighbour that an exploration of entry `e` tries under ceiling `ce`, for bit 15 of the LFSR: none where it does not
exist (R309). -/
def exploreEntry (table e ce : Nat) (up : Bool) : Option Nat :=
  let goUp := up || e == 0
  let goUp := goUp && decide (e + 1 ≤ ce)
  let nb := if goUp then e + 1 else e - 1
  if (goUp = false ∧ e = 0) ∨ opValid table nb = false then none else some nb

/-- The choice of group `g` for tag `t`, and whether it explores; `next` at a PHASE_NEXT (R307, R309). -/
def State.choose (s : State) (g t : Nat) (next : Bool) : Option Nat × Bool :=
  let x := s.ge g t
  let ce := (s.ceilTerm g).value
  if s.pralineIdle g then (none, false)
  else match s.policy g with
    | .off => (none, false)
    | .follow => (if x.prefValid then some x.pref else none, false)
    | .race => (some ce, false)
    | .learn =>
      if x.gconf = 0 then (some ce, false)
      else
        let l := s.rd .PR_LFSR g
        let due := next && s.rd .PR_FREEZE == 0 && s.rd .PR_EXPLORE_N != 0 && l % s.rd .PR_EXPLORE_N == 0
          && decide (s.rd .PR_MIN_CONF ≤ x.gconf)
        match if due then exploreEntry (s.opTableNow g) x.entry ce (bit l 15) else none with
        | some e => (some e, true)
        | none => (some x.entry, false)

/-- EP_RSP_DATA of an OK answer (R294). -/
def choiceData (c : Option Nat × Bool) : Nat :=
  match c.1 with
  | some e => e % 32 + c.2.toNat * 32
  | none => 64

/-- A preference is submitted (R268, R310). -/
def State.submit (s : State) (g : Nat) (c : Option Nat) : State :=
  if s.frozen then s else (s.modG g fun x => { x with choice := c }).retarget g

/-- The ratio that a choice prefers. -/
def State.choiceN (s : State) (g : Nat) (c : Option Nat) : Nat :=
  let t := s.opTableNow g
  match c with
  | some e => opN t (min e (opHighest t))
  | none => opN t (opHighest t)

/-! ### Pre-positioning (R312) -/

/-- The request of field `f` with its present offset goes out; none after a job fault, when voltages stay (R24, R191). -/
def State.sendOffset (s : State) (f : Nat) : State := if s.opFrozen then s else s.askVolt f

/-- The offsets of group `g` are removed. -/
def State.dropOffsets (s : State) (g : Nat) : State :=
  (s.each ((s.groupFields g).filter fun f => s.rd .PR_OFFSET f != 0) fun t f => (t.wr .PR_OFFSET 0 f).sendOffset f).modG g
    fun x => { x with prep := none }

/-- A PHASE_NEXT for tag `t` with LEAD schedules the offsets, in place of those of an earlier one (R295, R312). -/
def State.planOffsets (s : State) (g t lead : Nat) : State :=
  let s1 := if (s.g g).prep.isSome then s.dropOffsets g else s
  let tb := s.T + 16000 * lead
  s1.when (!s1.pralineIdle g && decide (20 ≤ lead) && (s1.groupFields g).any fun f => (s1.pe t f).voff != 0) fun u =>
    let p : Prep := { tag := t, begin0 := tb, setAt := some (max s.T (tb - 16000 * s.rd .PR_PREPOS_LEAD)), begun := none }
    u.modG g fun x => { x with prep := some p }

/-- The offset of field `f` for tag `t`: VOFF, lowered until the prediction fits FIELD_LIMIT. -/
def State.offsetFor (s : State) (t f : Nat) : Nat :=
  let n := s.rd .GROUP_N (s.groupOf f)
  let v := s.rd .FIELD_VOLT f
  ((List.range ((s.pe t f).voff + 1)).reverse.find? fun k =>
    decide (s.predField f n (v + k) ≤ s.rd .FIELD_LIMIT f)).getD 0

/-- PREPOS_OFFSET_SET (R312): the time to set the offsets of group `g` has come; Praline stands in a short stop of CTL (R34). -/
def execPreposOffsetSet (g : Nat) (s : State) : Host.Outcome State Fault Refusal :=
  match (s.g g).prep with
  | some p => match p.setAt with
    | some at0 =>
      .next (s.when (decide (at0 ≤ s.T) && !s.pralineIdle g && !s.refs.shortStop) fun t0 =>
        let t := t0.readFieldWords g p.tag
        let fs := (t.groupFields g).filter fun f => (t.pe p.tag f).voff != 0
        (t.modG g fun x => { x with prep := some { p with setAt := none } }).each fs fun u f =>
          (u.wr .PR_OFFSET (u.offsetFor p.tag f) f).sendOffset f)
    | none => .next s
  | none => .next s

/-- PREPOS_OFFSET_REMOVE (R312): PR_PREPOS_HOLD after the begin, or after the expected one. -/
def execPreposOffsetRemove (g : Nat) (s : State) : Host.Outcome State Fault Refusal :=
  match (s.g g).prep with
  | some p =>
    let at0 := p.begun.getD p.begin0 + 16000 * s.markVal .PR_PREPOS_HOLD
    .next (s.when (decide (at0 ≤ s.T) && !s.refs.shortStop) fun t => t.dropOffsets g)
  | none => .next s

/-! ### The end of an occurrence (R297, R304 to R308, R311) -/

/-- What an ended occurrence showed: tag, entry run, explored, clean, duration in units, cycles of the anchor. -/
structure Seen where
  tag : Nat
  run : Option Nat
  explored : Bool
  clean : Bool
  dt : Nat
  cycles : Nat
  deriving DecidableEq, Repr

/-- The entry of field `f` after an occurrence with `n` as the forgetting horizon and `conf` as confidence (R304): the mean's
rounding is open. -/
def State.learned (s : State) (f : Nat) (x : PEntry) (o : Seen) (n conf : Nat) : PEntry :=
  let c := (s.f f).occ
  { x with
    conf := conf
    energy := pfEnc 6 ((125 * pfDec 6 x.energy * (n - 1) + c.energy) / (125 * n))
    dur := pfEnc 7 ((pfDec 7 x.dur * (n - 1) + o.cycles) / n)
    mean := min 2047 (divOpen 52 ((x.mean * (n - 1) * o.dt + 64 * c.energy : Nat) : Int) (n * o.dt : Nat)).toNat
    p95 := c.p95
    stretch := classOf c.droop (8 * c.cycles)
    hold := classOf c.caused (8 * c.cycles) }

/-- Every field entry of the tag takes the occurrence, blended (R304). -/
def State.blend (s : State) (g : Nat) (o : Seen) : State :=
  s.each (s.groupFields g) fun t f =>
    let x := t.pe o.tag f
    let k := min 63 (x.conf + 1)
    t.setPe o.tag f (t.learned f x o (min k (t.rd .PR_MEMORY)) k)

/-- Every field entry of the tag takes the occurrence's own values with CONF 1 (R306, R308). -/
def State.replace (s : State) (g : Nat) (o : Seen) : State :=
  s.each (s.groupFields g) fun t f => t.setPe o.tag f (t.learned f (t.pe o.tag f) o 1 1)

/-- E_cur and E_obs of R306, in eighths of a µJ. -/
def State.eCur (s : State) (g t : Nat) : Nat := sumOf ((s.groupFields g).map fun f => pfDec 6 (s.pe t f).energy)
def State.eObs (s : State) (g : Nat) : Nat := sumOf ((s.groupFields g).map fun f => pfDec 6 (pfEnc 6 ((s.f f).occ.energy / 125)))

/-- The occurrence surprises (R306): a tag not seen before has E_cur 0. -/
def State.surprises (s : State) (g : Nat) (o : Seen) : Bool :=
  let cur := s.eCur g o.tag
  o.clean && !o.explored && decide (cur * s.rd .PR_SURPRISE < ((s.eObs g : Int) - cur).natAbs * 256)

/-- T_obs is at or below T_lim of R308. -/
def State.withinSlack (s : State) (x : GEntry) (dt : Nat) : Bool :=
  decide (dt * 256 ≤ 16 * pfDec 7 x.baseT * (256 + s.rd .PR_SLACK))

/-- J of R308 lies below its bound, for energies `cur` and `obs`: T_cur takes DUR of the group's first field (DEDUCED, log 34). -/
def State.gains (s : State) (g : Nat) (x : GEntry) (o : Seen) (cur obs : Nat) : Bool :=
  let we := s.rd .PR_W_ENERGY
  let wt := s.rd .PR_W_TIME
  let tc := pfDec 7 (s.pe o.tag ((s.groupFields g).headD 0)).dur * 10240
  let n := opN (s.opTableNow g) x.entry
  decide ((we * obs * tc + wt * o.dt * n * cur) * 256 < (we + wt) * (256 - s.rd .PR_HYST) * cur * tc)

/-- An exploration is accepted as a move (R308). -/
def State.accepts (s : State) (g : Nat) (o : Seen) (cur : Nat) : Bool :=
  let x := s.ge g o.tag
  o.explored && o.clean && s.policy g == Policy.learn && x.gconf != 0 && o.run.isSome
    && s.withinSlack x o.dt && s.gains g x o cur (s.eObs g)

/-- The update of R308 at the end of a clean occurrence under LEARN, with E_cur taken before the update. -/
def State.learnPoint (s : State) (g : Nat) (o : Seen) (e cur : Nat) : State :=
  let x := s.ge g o.tag
  if x.gconf = 0 then
    s.setGe g o.tag { x with entry := e, base := e, baseT := pfEnc 7 (o.dt / 16), gconf := 1 }
  else if o.explored then
    if s.accepts g o cur then
      ((s.setGe g o.tag { x with entry := e, gconf := 1 }).replace g o).inc .PR_MOVES g
    else s.inc .PR_REJECTS g
  else if !s.withinSlack x o.dt && decide (x.entry < (s.ceilTerm g).value) then
    (s.setGe g o.tag { x with entry := x.entry + 1, gconf := 1 }).inc .PR_MOVES g
  else s.setGe g o.tag { x with gconf := min 15 (x.gconf + 1) }

/-- VOFF of field `f` after an observed occurrence (R311). -/
def State.learnOffsetOf (s : State) (g t f : Nat) : State :=
  let x := s.pe t f
  let c := (s.f f).occ
  let k := classOf c.onDroop (8 * c.onCycles)
  if s.rd .PR_VOFF_RAISE ≤ k then s.setPe t f { x with voff := min (x.voff + 1) (s.rd .PR_VOFF_MAX) }
  else if k = 0 ∧ s.rd .PR_LFSR g % 16 = 0 then s.setPe t f { x with voff := x.voff - 1 }
  else s

/-- The tables learn from an observed occurrence (R304 to R308, R311).  A tag that was unbaselined is baselined; a baselined one that
surprises is left unbaselined (that R308 does not baseline it at once is DEDUCED from R306's next occurrence at the baseline,
log 32).  An exploration that is not accepted leaves every field entry unchanged. -/
def State.learn (s : State) (g : Nat) (o : Seen) : State :=
  let cur := s.eCur g o.tag
  let hit := s.surprises g o
  let s1 := if o.explored then s else if hit then s.replace g o else s.blend g o
  let s2 := s1.when hit fun t => (t.setGe g o.tag { t.ge g o.tag with gconf := 0 }).inc .PR_SURPRISES g
  let s3 := match o.run with
    | some e =>
      if !o.clean then s2
      else if s.policy g == Policy.learn then
        s2.when (!hit || (s.ge g o.tag).gconf == 0) fun t => t.learnPoint g o e cur
      else if s.policy g == Policy.race then
        s2.setGe g o.tag { s2.ge g o.tag with entry := e, base := e, baseT := pfEnc 7 (o.dt / 16) }
      else s2
    | none => s2
  s3.when (!o.explored || s.accepts g o cur) fun t =>
    t.each (t.groupFields g) fun u f => u.learnOffsetOf g o.tag f

/-- The occurrence of group `g` ends at a PHASE_BEGIN (R297, R304, R305): it is discarded, not observed, or learned from. -/
def State.endOcc (s : State) (g : Nat) : State :=
  match (s.g g).occ with
  | none => s
  | some o =>
    let dt := s.T - o.begun
    if dt < 16000 * s.rd .PR_MIN_OCC ∨ 16000000 * s.rd .PR_MAX_OCC < dt ∨ s.frozen then s.discardOcc g
    else
      let s0 := ((s.readTag g o.tag).modG g fun x => { x with occ := none }).wr .PR_CUR_TAG 0xFFFF g
      if o.observed = false then s0
      else
        let nat := 8 * o.cycles + o.lost
        let free := if nat = 0 then decide (Config.divByZero 54 o.lost ≤ s.tickVal .OP_UP_LOSS)
          else decide (10000 * o.lost ≤ s.tickVal .OP_UP_LOSS * nat)
        let seen : Seen :=
          { tag := o.tag, run := o.entry, explored := o.explored, clean := o.clean && free, dt := dt,
            cycles := (s.rd .REGION_COUNT (s.rd .GROUP_ANCHOR g) + 2 ^ 48 - o.count0) % 2 ^ 48 }
        let s1 := ((s0.inc .PR_OCCURRENCES g).when (!seen.clean) fun t => t.inc .PR_UNCLEAN g).stepLfsr g
        s1.when (!s1.pralineIdle g && s1.rd .PR_FREEZE == 0) fun t => t.learn g seen

/-- OCCURRENCE_TIMEOUT (R297): no PHASE_BEGIN within PR_MAX_OCC. -/
def execOccurrenceTimeout (g : Nat) (s : State) : Host.Outcome State Fault Refusal :=
  match (s.g g).occ with
  | some o => .next (s.when (decide (o.begun + 16000000 * s.markVal .PR_MAX_OCC ≤ s.T)) fun t => t.discardOcc g)
  | none => .next s

/-! ### Marks (R293 to R297, R307, R310) -/

/-- The checks of a mark (R14, R293, R294): the bits of `mask` may be set. -/
def State.markCheck (s : State) (q : EpReq) (mask : Nat) : Option Code :=
  let g := bits q.arg 12 3
  if q.id % 4096 = 0 ∨ onlyBits q.arg mask = false ∨ q.data ≠ 0 then some .malformed
  else if s.isReady .praline = false then some .notReady
  else if s.rd .NUM_GROUPS ≤ g ∨ s.groupFields g = [] then some .range
  else none

/-- The data of the mark that operation `op` with tag `t` on group `g` repeats (R296). -/
def State.duplicate (s : State) (g op t : Nat) : Option Nat :=
  let m := Tab.get (s.g g).marks op (0, 0, 0)
  if ((s.g g).marks.any fun x => x.1 == op) && m.1 == t && decide (m.2.1 ≤ s.T ∧ s.T ≤ m.2.1 + 16000 * s.rd .PR_DEDUP) then
    some m.2.2
  else none

/-- A mark of operation `op` is answered OK and remembered. -/
def State.markDone (s : State) (q : EpReq) (op data : Nat) : State :=
  (s.modG (bits q.arg 12 3) fun x => { x with marks := x.marks.put op (bits q.arg 0 12, s.T, data) }).respond (q.id % 4096) .ok data

/-- A mark of operation `op`: checked, answered as a duplicate, or done by `f`, which gives the answer's data; what was written of
Praline's controls since the last one is in force (R318). -/
def State.mark (s : State) (q : EpReq) (op mask : Nat) (f : State → Nat × State) : State :=
  let g := bits q.arg 12 3
  match s.markCheck q mask with
  | some c => s.respond (q.id % 4096) c 0
  | none => match s.duplicate g op (bits q.arg 0 12) with
    | some d => (s.inc .PR_DUP_MARKS g).respond (q.id % 4096) .ok d
    | none =>
      let r := f { s with caps := { s.caps with marks := s.caps.marks + 1 } }
      r.2.markDone q op r.1

/-- PHASE_NEXT of tag `t` on group `g` with LEAD (R295, R307, R309, R310, R312). -/
def State.phaseNext (s : State) (g t lead : Nat) : Nat × State :=
  let s1 := (s.readTag g t).when (decide (lead < 20)) fun u => u.inc .PR_LATE_NEXT g
  let s2 := s1.when (s1.policy g == .learn && !s1.pralineIdle g) fun u => u.stepLfsr g
  let c := s2.choose g t true
  let s3 := (s2.modG g fun x => { x with next := some { tag := t, choice := c.1, explored := c.2 } }).wr .PR_NEXT_TAG t g
  let s4 := (s3.when c.2 fun u => u.inc .PR_EXPLORES g).planOffsets g t lead
  (choiceData c, s4.when (decide (s4.prefN g < s4.choiceN g c.1)) fun u => u.submit g c.1)

/-- A PHASE_NEXT request (R293, R307): bit 15 must be 0. -/
def State.markNext (s : State) (q : EpReq) : State :=
  s.mark q 1 0xFFFF7FFF fun t => t.phaseNext (bits q.arg 12 3) (bits q.arg 0 12) (bits q.arg 16 16)

/-- PHASE_NEXT (R293, R307). -/
def execPhaseNext (q : EpReq) (s : State) : Host.Outcome State Fault Refusal := .next (s.epTake 1 q (fun _ => id) fun t => t.markNext q)

/-- S_f of the fields of group `g` from the learned mean powers of tag `t`, when every field has confidence (R259). -/
def State.shareFrom (s : State) (g t : Nat) : State :=
  let fs := s.groupFields g
  let total := sumOf (fs.map fun f => (s.pe t f).mean)
  s.when ((fs.all fun f => (s.pe t f).conf != 0) && total != 0) fun u =>
    (u.each fs fun v f => v.modF f fun x => { x with share := some ((s.pe t f).mean, total) }).recompute

/-- A region of group `g` is parked, or stands in a region stop (R304). -/
def State.groupHeld (s : State) (g : Nat) : Bool :=
  (s.groupRegions g).any fun n => ((s.r n).park.map (·.parked)).getD false
    || (s.stop.cur.map fun x => x.region == n && decide (3 ≤ x.order)).getD false

/-- The occurrence of tag `t` begins on group `g` (R297, R304): the trackers start from the stored P95.  One that begins in a park
or a region stop has it during it, and is not observed. -/
def State.startOcc (s : State) (g t : Nat) (c : Option Nat × Bool) : State :=
  let o : Occ :=
    { tag := t, begun := s.T, count0 := s.rd .REGION_COUNT (s.rd .GROUP_ANCHOR g), entry := c.1, explored := c.2,
      observed := !s.groupHeld g }
  let s1 := (s.modG g fun x => { x with occ := some o }).wr .PR_CUR_TAG t g
  s1.each (s1.groupFields g) fun u f => u.modF f fun x =>
    { x with occ := { p95 := (s.pe t f).p95, fresh := (s.pe t f).conf == 0 } }

/-- PHASE_BEGIN of tag `t` on group `g` (R297, R307, R310, R312, R317): the choice announced stands, unless Praline chooses nothing
now. -/
def State.phaseBegin (s : State) (g t : Nat) : Nat × State :=
  let s1 := (s.endOcc g).readTag g t
  let ann := (s1.g g).next
  let same := (ann.map fun n => n.tag == t).getD false
  let c := match ann with
    | some n => if n.tag = t ∧ s1.pralineIdle g = false then (n.choice, n.explored) else s1.choose g t false
    | none => s1.choose g t false
  let s2 := s1.when (ann.isSome && !same) fun u => u.inc .PR_UNANNOUNCED g
  let s3 := s2.when same fun u => u.dropNext g
  let s4 := s3.modG g fun x => { x with prep := x.prep.map fun p =>
    if p.tag = t then { p with begun := some (p.begun.getD s.T) } else p }
  let s5 := s4.submit g c.1
  (choiceData c, if s5.frozen then s5 else (s5.startOcc g t c).shareFrom g t)

/-- A PHASE_BEGIN request (R293, R297). -/
def State.markBegin (s : State) (q : EpReq) : State :=
  s.mark q 2 0x7FFF fun t => t.phaseBegin (bits q.arg 12 3) (bits q.arg 0 12)

/-- PHASE_BEGIN (R293, R297). -/
def execPhaseBegin (q : EpReq) (s : State) : Host.Outcome State Fault Refusal := .next (s.epTake 2 q (fun _ => id) fun t => t.markBegin q)

/-- A PREFERRED_POINT request (R293, R302). -/
def State.markPref (s : State) (q : EpReq) : State :=
  s.mark q 3 0x3F7FFF fun t0 =>
    let g := bits q.arg 12 3
    let t := t0.readGroupWord g (bits q.arg 0 12)
    let x := t.ge g (bits q.arg 0 12)
    (0, t.setGe g (bits q.arg 0 12)
      (if bit q.arg 21 then { x with prefValid := false } else { x with pref := bits q.arg 16 5, prefValid := true }))

/-- PREFERRED_POINT (R293, R302). -/
def execPreferredPoint (q : EpReq) (s : State) : Host.Outcome State Fault Refusal := .next (s.epTake 3 q (fun _ => id) fun t => t.markPref q)

/-! ### Clearing, policy and start (R314 to R316) -/

/-- PR_CLEAR accepted (R314): both tables are 0, occurrences end without learning. -/
def State.clearPraline (s : State) : State :=
  let t : State := { s with phase := [] }
  t.each t.groups fun u g =>
    ((u.wr .PR_GROUP_TABLE 0 g).modG g fun x => { x with occ := none }).wr .PR_CUR_TAG 0xFFFF g

/-- The occurrences of the groups whose policy differs from what it was in `s` are no longer clean (R305). -/
def State.policyFrom (t s : State) : State := t.each (t.groups.filter fun g => t.policy g != s.policy g) State.spoil
/-- FALLBACK set or cleared: every group uses FOLLOW, or its PR_POLICY again (R316). -/
def State.setFallback (s : State) (v : Bool) : State := (s.setFlag .PR_STATUS 0 v).policyFrom s
/-- FALLBACK cleared (R316). -/
def State.rearmPraline (s : State) : State := s.setFallback false
/-- PR_POLICY of group `g` written, which clears FALLBACK (R305, R316). -/
def State.writePolicy (s : State) (g v : Nat) : State := ((s.wr .PR_POLICY v g).setFlag .PR_STATUS 0 false).policyFrom s

end Sys2Proof.Machine
end

