-- ==== Sys2Proof/Machine/Rails.lean ====
section
/-! DEFINITION. The Renzil rail links: enumeration, transactions and their retries, telemetry, DEGRADED rails and
recovery (R361 to R384, R544). -/

set_option Elab.async false

namespace Sys2Proof.Machine
open Sys2Proof

/-! ### DEGRADED (R284, R376, R378) -/

/-- A field of RAIL_STATUS. -/
def State.setRailStatus (s : State) (r lo w v : Nat) : State := s.wr .RAIL_STATUS (setBits (s.rd .RAIL_STATUS r) lo w v) r

/-- Steps that a rail of field `f` ends when it becomes DEGRADED; a domain transition that waited for a stop may begin
(R191). -/
def State.degradeSteps (s : State) (f : Nat) : State :=
  let g := s.groupOf f
  let s1 := match s.stepPrepared g with
    | some st => s.when (st.raising.contains f) fun t => (t.modG g fun x => { x with noStep := true }).abortStep g 4
    | none => s
  match s1.stop.cur with
  | some x => s1.when (x.order == 1 && fieldOf x.region == f) fun t => (t.abortStop x 4).fillPlaces
  | none => s1

/-- The field and group of a rail that becomes DEGRADED: queued targets are discarded, the safe limit and ceiling
apply, steps end (R284, R376, R382).  Of two rails of a group the lower entry in force binds. -/
def State.degradeField (s : State) (f : Nat) : State :=
  let g := s.groupOf f
  let safe := 3 * (s.f f).lastMean / 4
  let s1 := s.each (s.fieldRails f) fun t r => t.modRa r fun x => { x with pending := none }
  let s2 := s1.modF f fun x => { x with safeLimit := some (match x.safeLimit with | some p => min p safe | none => safe) }
  let s3 := s2.when (g != 0xFF) fun t => t.modG g fun x =>
    let e := opEntryFor (t.opTableNow g) (t.rd .GROUP_N g)
    { x with degCeil := some (min e (x.degCeil.getD e)) }
  ((s3.degradeSteps f).recompute).when (g != 0xFF) fun t => t.retarget g

/-- A rail becomes DEGRADED with a cause: 1 retries, 2 RESP status, 3 TLM FAULT, 4 telemetry lost (R378, R383). -/
def State.degradeRail (s : State) (cause r : Nat) : State :=
  if s.rd .RAIL_STATE r = 0 ∨ s.rd .RAIL_STATE r = 3 then s
  else
    let s1 := (((s.wr .RAIL_STATE 3 r).setRailStatus r 4 3 cause).inc .RAIL_DEGRADE_EVENTS r).event 0x23 r cause
    match s1.railField r with
    | some f => s1.degradeField f
    | none => s1.modRa r fun x => { x with pending := none }

/-- A recovery of rail `r` has failed (R379): what it still has waiting is not sent, and answers to what it has sent no longer
count. -/
def State.recoverFailed (s : State) (r : Nat) : State :=
  (((s.setRailStatus r 3 1 1).wr .RAIL_RECOVER 0 r).modRa r fun x => { x with recover := 0 }).modL (s.rd .RAIL_CONTROLLER r)
    fun l =>
      { l with
        queue := l.queue.filter fun c => c.recover != some r
        out := l.out.map fun c => if c.recover = some r then { c with void := true } else c }

/-- RAILS sets once no mapped rail is still ENUMERATING (R377). -/
def State.railsSettled (s : State) : State :=
  s.when (s.su.railsStarted && s.rails.all fun r => s.rd .RAIL_STATE r != 1) fun t => t.setReady .rails true

/-- Every rail of an enumerating link that is not ABSENT has its rating and its target, or is DEGRADED: telemetry is enabled
(R377). -/
def State.linkRead (s : State) (k : Nat) : State :=
  let rs := (s.linkRails k).filter fun x => s.rd .RAIL_STATE x != 0
  let all := rs.all fun x => ((s.ra x).rated && (s.ra x).readBack) || s.rd .RAIL_STATE x == 3
  let sent := (s.l k).queue.any (fun c => c.op == ROp.tlmEnable.code) || (s.l k).out.any fun c => c.op == ROp.tlmEnable.code
  let mask := rs.foldl (fun m x => setBit m (s.rd .RAIL_CHANNEL x) true) 0
  (s.when (all && !sent && s.rd .LINK_STATE 0 k == 1) fun t =>
    t.queueCmd k { op := ROp.tlmEnable.code, data := mask * 2 ^ 16 }).railsSettled

/-- The rails of a command become DEGRADED; a failed SET_VOLTAGE leaves their target unknown; a recovery fails. -/
def State.failCmd (s : State) (k cause : Nat) (c : LCmd) : State :=
  let rs := s.cmdRails k c
  let s1 := s.each rs fun t r => (t.when (c.op == ROp.setVoltage.code) fun u => u.setRailStatus r 2 1 1).degradeRail cause r
  let s2 := match c.recover with
    | some r => s1.when (!c.void) fun t => t.recoverFailed r
    | none => s1
  s2.when (s2.rd .LINK_STATE 0 k == 1) fun t => t.linkRead k

/-! ### Transactions (R365, R367, R368) -/

/-- The command outstanding with a tag. -/
def State.cmdOf (s : State) (k tag : Nat) : Option LCmd := (s.l k).out.find? fun c => c.tag == tag % 16
/-- A command leaves the list of outstanding ones. -/
def State.dropCmd (s : State) (k : Nat) (c : LCmd) : State := s.modL k fun l => { l with out := l.out.erase c }

/-- A failed attempt (R368): the same frame again with the same TAG in the first free slot, or DEGRADED after the third retry,
before anything else goes out (R376). IDENTIFY is repeated by enumeration. -/
def State.failAttempt (s : State) (k : Nat) (c : LCmd) : State :=
  if c.op = ROp.identify.code then s
  else if c.tries < 3 then
    (s.modL k fun l => { l with out := l.out.map fun x => if x == c then { x with again := true } else x }).pump k
  else ((s.dropCmd k c).failCmd k 1 c).pump k

/-- A damaged RESP of a command: counted for the rails it addressed, and a failed attempt. -/
def State.damagedResp (s : State) (k : Nat) (c : LCmd) : State :=
  (s.each (s.cmdRails k c) fun t r => t.inc .RAIL_CRC_ERRS r).failAttempt k c

/-- An injection damages the next frame on link `k` (R536): the state with one frame used up. -/
def State.injCrc (s : State) (k : Nat) : Option State :=
  match s.injAt 6 with
  | some x =>
    if s.rd .RAIL_CONTROLLER x.element = k then
      some (if x.left ≤ 1 then s.endInjection 1
        else { s with inj := { s.inj with cur := some { x with left := x.left - 1 } } })
    else none
  | none => none

/-- A RESP on link `k` with a tag and a status to an outstanding command of operation `op`: `done` on OK. -/
def State.resp (s : State) (k : Nat) (op : ROp) (tag status : Nat) (done : State → LCmd → State) : State :=
  match s.injCrc k with
  | some s1 => match s1.cmdOf k tag with
    | some c => s1.damagedResp k c
    | none => s1.inc .LINK_MALFORMED 0 k
  | none => match s.cmdOf k tag with
    | none => s.inc .LINK_MALFORMED 0 k
    | some c =>
      if c.op ≠ op.code then s.inc .LINK_MALFORMED 0 k
      else if status % 16 = 0 then (done (s.dropCmd k c) c).pump k
      else if status % 16 = 3 then s.failAttempt k c
      else if status % 16 = 1 ∨ status % 16 = 2 ∨ status % 16 = 4 then ((s.dropCmd k c).failCmd k 2 c).pump k
      else s.damagedResp k c

/-! ### Enumeration (R361, R377, R544) -/

/-- The links that some rail is mapped to. -/
def State.usedLinks (s : State) : List Nat := (s.rails.map fun r => s.rd .RAIL_CONTROLLER r).dedup

/-- RZ_CLK starts on every used link and IDENTIFY is sent (R377, steps 1 and 2). -/
def State.startEnumeration (s : State) : State :=
  let s1 := { s with su := { s.su with railsStarted := true } }
  ((s1.each s1.rails fun t r => t.wr .RAIL_STATE 1 r).each s1.usedLinks fun t k =>
    ((t.wr .LINK_STATE 1 0 k).modL k fun l => { l with clock := true, enumAt := s.up }).queueCmd k
      { op := ROp.identify.code }).railsSettled

/-- A rail becomes ABSENT: its RAIL_LIMIT reads no limit (R544). -/
def State.absentRail (s : State) (r : Nat) : State := (s.wr .RAIL_STATE 0 r).wr .RAIL_LIMIT noLimit r

/-- The rails of link `k` become ABSENT, and the link takes state `st`. -/
def State.dropLink (s : State) (k st : Nat) (clock : Bool) : State :=
  (((s.wr .LINK_STATE st 0 k).modL k fun l => { l with clock := clock, queue := [], out := [] }).each (s.linkRails k)
    State.absentRail).railsSettled

/-- A link whose IDENTIFY has not been answered. -/
def State.linkMute (s : State) (k : Nat) : Bool := s.rd .LINK_STATE 0 k == 1 && (s.l k).channels == 0

/-- The bound of step 6 of R377, 1.0 ms after enumeration began: a link that has not answered is SILENT, a rail still ENUMERATING
is DEGRADED as one whose command failed its retries (DESIGN CHOICE: no cause of R383 names the bound, log 88). -/
def State.closeEnumeration (s : State) : State :=
  let late := s.usedLinks.filter fun k => s.rd .LINK_STATE 0 k == 1 && decide ((s.l k).enumAt + 1000 ≤ s.up)
  s.when (!s.isReady .rails) fun t =>
    let u := t.each (late.filter t.linkMute) fun v k => v.dropLink k 3 false
    u.each (late.filter fun k => !t.linkMute k) fun v k =>
      (v.each ((v.linkRails k).filter fun r => v.rd .RAIL_STATE r == 1) fun w r => w.degradeRail 1 r).linkRead k

/-- The runs of passing phases in the cyclic order 0, 1, 2, 3 (R361): start and length. -/
def phaseRuns (ok : Nat) : List (Nat × Nat) :=
  ((List.range 4).filter fun p => bit ok p && !bit ok ((p + 3) % 4)).map fun p =>
    (p, ((List.range 4).takeWhile fun i => bit ok ((p + i) % 4)).length)

/-- The sample phase chosen (R361). -/
def choosePhase (ok : Nat) : Nat :=
  if ok % 16 = 15 then 1
  else
    let best := (phaseRuns ok).foldl (fun b x => if b.2 < x.2 then x else b) (0, 0)
    (best.1 + (best.2 - 1) / 2) % 4

/-- Step 3 and 4 of R377: the answer of IDENTIFY. -/
def State.identified (s : State) (k phases data : Nat) : State :=
  let s1 := (s.wr .LINK_IDENT data 0 k).wr .LINK_RX_PHASE (choosePhase phases) 0 k
  if bits data 8 8 ≠ 1 then s1.dropLink k 4 true
  else
    let ch := bits data 4 4 + 1
    let s2 := s1.modL k fun l => { l with channels := ch }
    (s2.each (s2.linkRails k) fun t r =>
      if ch ≤ t.rd .RAIL_CHANNEL r then t.absentRail r
      else (t.queueCmd k { op := ROp.readRating.code, ch := t.rd .RAIL_CHANNEL r }).queueCmd k
        { op := ROp.readVoltage.code, ch := t.rd .RAIL_CHANNEL r }).linkRead k

/-- A value of Fondant clamped into the rating, with the log of a clamp (R377): object, rail, bounds. -/
def State.clampRating (s : State) (o : Obj) (r v lo hi : Nat) : State :=
  let w := clampNat lo hi v
  (s.wr o w r).when (w != v) fun t => t.event 0x26 r v

/-- The rating of rail `r` in force, and the values of Fondant clamped into it (R377, R544). -/
def State.applyRating (s : State) (r data : Nat) : State :=
  let i := bits data 18 14
  let vmax := bits data 9 9
  let vmin := bits data 0 9
  let s1 := ((((s.wr .RAIL_IRATING i r).wr .RAIL_IMAX i r).wr .RAIL_VMIN vmin r).wr .RAIL_VMAX vmax r).modRa r fun x =>
    { x with rateLo := vmin, rateHi := vmax }
  let st := (s.ra r).stored
  let get (t : State) (key : Nat) (o : Obj) (lo hi : Nat) : State := match st.find? fun p => p.1 == key with
    | some p => t.clampRating o r p.2 lo hi
    | none => t
  get (get (get s1 0 .RAIL_IMAX 0 i) 1 .RAIL_VMIN vmin vmax) 2 .RAIL_VMAX vmin vmax

/-- Rail `r` has its rating and its target: it is OK (R377). -/
def State.railRead (s : State) (k r : Nat) : State :=
  (s.when ((s.ra r).rated && (s.ra r).readBack && s.rd .RAIL_STATE r == 1) fun t => t.wr .RAIL_STATE 2 r).linkRead k

/-- RAIL_ENUMERATION (R377): at 1.0 ms, once. -/
def execRailEnumeration (s : State) : Host.Outcome State Fault Refusal :=
  .next (s.when (s.seqRuns && s.isReady .ctl && !s.su.railsStarted && decide (1000 ≤ s.up)) fun t => t.startEnumeration)

/-- IDENTIFY (R361, R377): an answer decoded at the phases of the mask; what decodes at no phase is no answer. -/
def execIdentify (k phases tag data : Nat) (s : State) : Host.Outcome State Fault Refusal :=
  .next (s.when (phases % 16 != 0) fun u => u.resp k .identify tag 0 fun t _ => t.identified k phases data)

/-- READ_RATING (R366, R544). -/
def execReadRating (k tag status data : Nat) (s : State) : Host.Outcome State Fault Refusal :=
  .next (s.resp k .readRating tag status fun t c => match t.railAt k c.ch with
    | some r => ((t.applyRating r data).modRa r fun x => { x with rated := true }).railRead k r
    | none => t)

/-- A command of a recovery has been answered OK (R379): `i` is its place among the three, `ok` that its answer is as the rule
asks.  Once all three have succeeded the next TLM is awaited. -/
def State.recoverStep (s : State) (c : LCmd) (i : Nat) (ok : Bool) : State :=
  match c.recover with
  | none => s
  | some r =>
    if c.void || (s.ra r).recover != 1 then s
    else if ok = false then s.recoverFailed r
    else s.modRa r fun x =>
      let got := setBit x.recoverGot i true
      { x with recoverGot := got, recover := if got = 7 then 2 else 1 }

/-- READ_VOLTAGE (R364, R377, R379): the target in force, at enumeration or in a recovery. -/
def execReadVoltage (k tag status data : Nat) (s : State) : Host.Outcome State Fault Refusal :=
  .next (s.resp k .readVoltage tag status fun t c => match t.railAt k c.ch with
    | some r =>
      if c.recover.isSome then
        (t.when (!c.void) fun u => u.modRa r fun x => { x with recoverCode := bits data 0 9 }).recoverStep c 2 true
      else
        let u := (t.wr .RAIL_TARGET (bits data 0 9) r).modRa r fun x => { x with readBack := true }
        (match u.railField r with
          | some f => u.wr .FIELD_VOLT (bits data 0 9) f
          | none => u).railRead k r
    | none => t)

/-- SET_VOLTAGE (R374, R376): RAIL_TARGET follows on OK. -/
def execSetVoltage (k tag status : Nat) (s : State) : Host.Outcome State Fault Refusal :=
  .next (s.resp k .setVoltage tag status fun t c => t.each (t.cmdRails k c) fun u r => u.wr .RAIL_TARGET (bits c.data 0 9) r)

/-- TLM_ENABLE (R364, R377): telemetry is enabled, the link is up and MARKs begin. -/
def execTlmEnable (k tag status : Nat) (s : State) : Host.Outcome State Fault Refusal :=
  .next (s.resp k .tlmEnable tag status fun t c =>
    (t.each (t.cmdRails k c) fun u r => u.modRa r fun x => { x with tlmOn := true }).wr .LINK_STATE 2 0 k)

/-- READ_STATUS (R364, R379): in a recovery every bit must be 0. -/
def execReadStatus (k tag status data : Nat) (s : State) : Host.Outcome State Fault Refusal :=
  .next (s.resp k .readStatus tag status fun t c => t.recoverStep c 1 (bits data 0 4 == 0))

/-- CLEAR_FAULT (R364, R379): a step of a recovery. -/
def execClearFault (k tag status : Nat) (s : State) : Host.Outcome State Fault Refusal :=
  .next (s.resp k .clearFault tag status fun t c => t.recoverStep c 0 true)

/-- RESP_TIMEOUT (R368): no RESP has begun 2 µs after the last bit; the timer stands during a short stop (R190). -/
def execRespTimeout (k tag : Nat) (s : State) : Host.Outcome State Fault Refusal :=
  match s.cmdOf k tag with
  | some c => .next (s.when (!s.refs.shortStop && !c.again) fun t => (t.each (t.cmdRails k c) fun u r =>
      u.when (c.op != ROp.identify.code) fun v => v.inc .RAIL_TIMEOUTS r).failAttempt k c)
  | none => .next s

/-- LINK_SILENT (R377): a link still silent at 1.9 ms; the block stops its clock. -/
def execLinkSilent (k : Nat) (s : State) : Host.Outcome State Fault Refusal :=
  .next (s.when (s.usedLinks.contains k && s.linkMute k && decide (1900 ≤ s.up))
    fun t => t.dropLink k 3 false)

/-! ### Damaged and unknown frames (R362 to R364, R368) -/

/-- A TLM of the interval marked last has come in, whole or damaged: one less is awaited before more commands may leave (R371). -/
def State.tlmIn (s : State) (k : Nat) : State := (s.modL k fun l => { l with tlmLeft := l.tlmLeft - 1 }).pump k

/-- DAMAGED_FRAME (R363, R364, R368): an upstream frame that completes nothing. -/
def execDamagedFrame (k frame : Nat) (s : State) : Host.Outcome State Fault Refusal :=
  let op := bits frame 52 4
  let bad := !frameOk frame || (op == ROp.resp.code && decide (5 ≤ bits frame 40 4))
  if op = ROp.resp.code then
    match s.cmdOf k (bits frame 44 4) with
    | some c => .next (s.when bad fun t => t.damagedResp k c)
    | none => .next (s.inc .LINK_MALFORMED 0 k)
  else if op = ROp.tlm.code then
    match s.railAt k (bits frame 48 4) with
    | some r => .next (s.when bad fun t => (t.inc .RAIL_CRC_ERRS r).tlmIn k)
    | none => .next s
  else .next (s.inc .LINK_MALFORMED 0 k)

/-! ### Telemetry (R261, R343, R370 to R373) -/

/-- Energy of one interval of rail `r` whose voltage and current multiply to `p`: 50 pJ a unit (R343). -/
def State.railEnergy (s : State) (r p : Nat) : State :=
  if s.rd .RAIL_DOMAIN r = 0xFFFF then
    let t := s.energy.otherRest + p
    { s.addWrap .ENGINE_NONCOMPUTE_ENERGY (t / 20000) with energy := { s.energy with otherRest := t % 20000 } }
  else
    let t := s.energy.railRest + p
    { s.addWrap .ENGINE_DOMAIN_RAIL_ENERGY (t / 20000) with energy := { s.energy with railRest := t % 20000 } }

/-- Interval `k` of rail `r` is delivered with validity 0: counted, filled, and the rail DEGRADED after the eighth in a
row (R343, R372, R373). -/
def State.missInterval (s : State) (r k : Nat) : State :=
  let x := s.ra r
  let s1 := ((s.inc .RAIL_TLM_MISSES r).setRailStatus r 0 1 0).modRa r fun x =>
    { x with gotK := some k, gotValid := false, invalidRun := x.invalidRun + 1, anyInvalid := true }
  let s2 := (s1.railEnergy r (x.lastPow.getD 0)).addWrap .RAIL_FILLED_INTERVALS 1
  s2.when (decide (8 ≤ x.invalidRun + 1)) fun t => t.degradeRail 4 r

/-- Interval `k` of rail `r` is delivered with validity 1. -/
def State.haveInterval (s : State) (r k v i : Nat) (settled : Bool) : State :=
  let s1 := ((s.setRailStatus r 0 1 1).setRailStatus r 1 1 settled.toNat).modRa r fun x =>
    { x with
      gotK := some k
      gotValid := true
      invalidRun := 0
      vSum := x.vSum + v
      vCount := x.vCount + 1
      pSum := x.pSum + v * i
      pCount := x.pCount + 1
      lastPow := some (v * i) }
  s1.railEnergy r (v * i)

/-- The over-current backstop of R261 on one sample: the limit falls, and the directive goes at once. -/
def State.overCurrent (s : State) (r i : Nat) : State :=
  let imax := 10 * s.rd .RAIL_IMAX r
  if i ≤ imax then s
  else
    let t := (s.wr .RAIL_LIMIT (s.rd .RAIL_LIMIT r * imax / i) r).inc .RAIL_OVER_EVENTS r
    match t.railField r with
    | some f => t.sendDirective f
    | none => t

/-- A recovery whose commands were answered ends with the next TLM of the rail (R379). -/
def State.recoverTlm (s : State) (r : Nat) (good : Bool) : State :=
  if (s.ra r).recover ≠ 2 then s
  else if good = false then s.recoverFailed r
  else
    let s1 := ((s.wr .RAIL_STATE 2 r).wr .RAIL_TARGET (s.ra r).recoverCode r).wr .RAIL_RECOVER 0 r
    ((s1.setRailStatus r 2 2 0).modRa r fun x => { x with recover := 0, invalidRun := 0 })

/-- TLM (R366, R372, R373): a telemetry frame of channel `ch`. -/
def State.telemetry (s : State) (k r tag data : Nat) : State :=
  let i := bits data 18 14
  let v := bits data 6 12
  let valid := bit data 5
  let fault := bit data 2
  let s1 := (s.wr .RAIL_VMEAS v r).wr .RAIL_IMEAS i r
  let s2 := s1.when (bit data 4) fun t => (t.inc .RAIL_OCP_EVENTS r).event 0x24 r i
  let s3 := s2.when (bit data 3) fun t => (t.inc .RAIL_OCP_EVENTS r).event 0x25 r 0
  let s4 := s3.when fault fun t => t.degradeRail 3 r
  let s5 := match (s4.l k).mark with
    | some m =>
      if tag % 16 = m % 16 ∧ (s4.ra r).gotK ≠ some m then
        if valid && !fault && s4.railOk r then (s4.haveInterval r m v i (bit data 1)).overCurrent r i
        else s4.missInterval r m
      else s4
    | none => s4
  (s5.recoverTlm r (valid && !fault)).when ((s.l k).mark.any fun m => tag % 16 == m % 16) fun t => t.tlmIn k

/-- TLM: damaged by an injection, it is counted and its interval will be missing. -/
def execTlm (k ch tag data : Nat) (s : State) : Host.Outcome State Fault Refusal :=
  match s.railAt k ch with
  | none => .next s
  | some r => match s.injCrc k with
    | some s1 => .next ((s1.inc .RAIL_CRC_ERRS r).tlmIn k)
    | none => .next (s.when ((s.ra r).tlmOn) fun t => t.telemetry k r tag data)

/-- The rails of link `k` with telemetry enabled. -/
def State.tlmRails (s : State) (k : Nat) : List Nat := (s.linkRails k).filter fun r => (s.ra r).tlmOn

/-- A MARK with interval `k` leaves on link `j`: intervals not delivered since the last MARK are missing (R371, R372). -/
def State.markLink (s : State) (j k : Nat) : State :=
  let s1 := match (s.l j).mark with
    | some m => s.each ((s.tlmRails j).filter fun r => (s.ra r).gotK != some m) fun t r => t.missInterval r m
    | none => s
  (s1.modL j fun l =>
    { l with mark := some k, markDue := false, sinceMark := 0, tlmLeft := (s.tlmRails j).length, tx := some (markFrame k) }).pump j

/-- MARK (R370, R382): at each 10 µs the ended interval is marked on every enumerated link; during a controller short
stop the MARK waits for its end. -/
def execMark (s : State) : Host.Outcome State Fault Refusal :=
  let k := s.interval - 1
  .next (s.when (decide (1 ≤ s.interval)) fun t =>
    t.each ((t.usedLinks.filter t.linkUp).filter fun j => (t.l j).mark != some k) fun u j =>
      if s.refs.shortStop then u.modL j fun l => { l with markDue := true } else u.markLink j k)

/-- The MARKs that waited for the end of a short stop are sent, ahead of the commands that waited for it (R370, R382). -/
def State.sendDueMarks (s : State) : State :=
  (s.each (s.usedLinks.filter fun j => (s.l j).markDue) fun t j => t.markLink j (s.interval - 1)).each s.usedLinks State.pump

/-- RAIL_RECOVER accepted: the recovery begins, or waits for the group's step; one in progress goes on (DESIGN CHOICE, log 89). -/
def State.acceptRecover (s : State) (r : Nat) : State :=
  if (s.ra r).recover ≠ 0 then s else
  let s1 := s.wr .RAIL_RECOVER 1 r
  match s.railField r with
  | some f =>
    if (s.g (s.groupOf f)).step.isSome then s1.modRa r fun x => { x with recover := 3 } else s1.recoverRail r
  | none => s1.recoverRail r

end Sys2Proof.Machine
end

