-- ==== Sys2Proof/Machine/RefTime.lean ====
section
/-! DEFINITION. The reference monitors, switchover, holdover and controller short stops (R196 to R210), and global time:
marks, corrections, captures and steering (R211 to R222). -/

set_option Elab.async false

namespace Sys2Proof.Machine
open Sys2Proof

/-! ### REF_STATUS (R222) -/

/-- Reference `b` (false A, true B) is valid. -/
def State.refValid (s : State) (b : Bool) : Bool := s.flag .REF_STATUS b.toNat
/-- The reference selected: 0 the internal oscillator, 1 A, 2 B. -/
def State.selected (s : State) : Nat := bits (s.rd .REF_STATUS) 4 2
/-- The code of a reference in SELECTED and REF_PREFER. -/
def refCode (b : Bool) : Nat := 1 + b.toNat
/-- The readiness bit of a reference. -/
def refRdy (b : Bool) : Rdy := if b then .refB else .refA
/-- SELECTED and CLOCK_SOURCE set. -/
def State.select (s : State) (v : Nat) : State :=
  (s.wr .REF_STATUS (setBits (s.rd .REF_STATUS) 4 2 v)).wr .CLOCK_SOURCE v
/-- Since when reference `b` has passed its tests, µs. -/
def State.qualOf (s : State) (b : Bool) : Option Nat := if b then s.refs.qualB else s.refs.qualA
/-- The qualification of reference `b` begun or broken off. -/
def State.setQual (s : State) (b : Bool) (q : Option Nat) : State :=
  ({ s with refs := if b then { s.refs with qualB := q } else { s.refs with qualA := q } }).setFlag
    .REF_STATUS (2 + b.toNat) q.isSome
/-- The end of an injected loss of reference `b`. -/
def State.injLoss (s : State) (b : Bool) : Option Nat := if b then s.refs.injB else s.refs.injA
/-- The injected loss of reference `b` recorded. -/
def State.setInjLoss (s : State) (b : Bool) (q : Option Nat) : State :=
  { s with refs := if b then { s.refs with injB := q } else { s.refs with injA := q } }

/-! ### Switchover and holdover (R204 to R212) -/

/-- The net changes source: SELECTED and CLOCK_SOURCE follow, and T takes the phase difference between the old and the new
source, measured to 1/32 of a period (R212).  No operand brings that measurement: it is a free value (log 83). -/
def State.changeSource (s : State) (v : Nat) : State :=
  let q := (s.select v).free 55 5
  { q.2 with clock := { q.2.clock with T := (q.2.clock.T + 5 * q.1) % 2 ^ 64 } }

/-- SWITCH is launched: every agent sets HOLD until `gates` complete gates have ended, one whose region's clock is low as well,
and no mark follows for 2 µs (R78, R205). -/
def State.launchSwitch (s : State) (gates : Nat) : State :=
  let t : State := { s with refs := { s.refs with suppressUntil := s.up + 2 } }
  t.each (t.regions.filter t.routerOn) fun u n => u.holdFll n gates

/-- The net changes to reference `b` (R204). -/
def State.switchTo (s : State) (b : Bool) : State :=
  (((s.changeSource (refCode b)).inc .REF_SWITCHES).event 0x11 0xFFFF (refCode b) s.refs.injSpan).launchSwitch 2

/-- REF_PREFER names a valid reference that is not selected while another one is (R207). -/
def State.prefer (s : State) : State :=
  let v := s.rd .REF_PREFER
  let b := v == 2
  s.when (v != 0 && s.refValid b && s.selected != 0 && s.selected != refCode b) fun t => t.switchTo b

/-- The holdover ceiling of group `g`: one entry below the entry in force (R208).  A step in flight completes, and the target
that follows from the ceiling waits (R191). -/
def State.holdCeiling (s : State) (g : Nat) : State :=
  let e := opEntryFor (s.opTableNow g) (s.rd .GROUP_N g)
  let t := (s.modG g fun x => { x with holdCeil := some (e - 1) }).spoil g
  if (t.g g).step.isSome then
    let u := t.showCeiling g
    (u.modG g fun x => { x with pending := some (u.targetN g) }).wr .GROUP_TARGET_N (u.targetN g) g
  else t.retarget g

/-- The REMOTE accesses that came by the field bus and still wait for their answer. -/
def State.busAccesses (s : State) : List RemoteAcc :=
  s.dict.remote.filter fun x => match x.via with
    | .fdp _ => true
    | _ => false

/-- FB_STBY goes to 1 (R460): queued requests and unsent responses are discarded and counted.  An access already on the spine
completes (R442), and its response is discarded then. -/
def State.leaveBus (s : State) : State :=
  let gone := s.busAccesses.filter fun x => !x.flying
  let t : State := { s with
    fdp := { s.fdp with standby := true, out := [] }
    dict := { s.dict with remote := s.dict.remote.filter fun x => !gone.contains x } }
  t.add .FB_TX_DROPPED (s.fdp.out.length + gone.length)

/-- FB_STBY goes to 0 (R460): the controller takes part again. -/
def State.joinBus (s : State) : State :=
  s.when (s.isReady .mailbox) fun t => ({ t with fdp := { t.fdp with standby := false } } : State).setReady .fbOn true

/-- Holdover is entered (R208): whether a frame was being sent or received is open, so FB_ABANDONED counts a free bit. -/
def State.enterHoldover (s : State) : State :=
  let inj := s.refs.injSpan
  let s1 := ((s.changeSource 0).launchSwitch 0).when (s.isReady .fbOn) fun t =>
    let q := t.free 51 1
    (((q.2.add .FB_ABANDONED q.1).setReady .fbOn false).leaveBus)
  let s2 := ((s1.setReady .holdover true).setReady .aonInternal true).when (!inj) fun t => t.inc .HOLDOVER_ENTRIES
  let s3 := s2.event 0x12 0xFFFF (s2.rd .INTOSC_ERR) inj
  let s4 : State := { s3 with refs := { s3.refs with
    holdSince := some (s3.refs.holdSince.getD s.up)
    relockAt := some (s.up + 10)
    exitTo := none } }
  (s4.each s4.groups fun t g => t.holdCeiling g).markRuns s4.groups 7

/-- Reference `b` is declared lost, by its frequency or by a missing edge (R199, R204, R206, R208). -/
def State.loseRef (s : State) (b freq inj : Bool) : State :=
  let s0 : State := { s with refs := { s.refs with injSpan := s.refs.injSpan || inj } }
  let s1 := (((s0.setQual b none).setFlag .REF_STATUS b.toNat false).setFlag .REF_STATUS (6 + 2 * b.toNat) (!freq)).setFlag
    .REF_STATUS (7 + 2 * b.toNat) freq
  let s2 := (s1.setReady (refRdy b) false).when (!s1.refs.injSpan) fun t =>
    t.inc (if b then .REF_B_LOSSES else .REF_A_LOSSES)
  if s2.selected = refCode b then
    if s2.refValid (!b) then s2.switchTo (!b) else s2.enterHoldover
  else s2.event 0x10 0xFFFF (b.toNat + 2 * freq.toNat) s2.refs.injSpan

/-- The injection of a loss of reference `b` (points 3 and 4) takes effect: the loss lasts as long as it was asked for. -/
def State.useRefInj (s : State) (b : Bool) : State :=
  match s.injAt (3 + b.toNat) with
  | some x => (s.setInjLoss b (some (s.up + bits x.arg 0 16))).endInjection 1
  | none => s

/-- REF_A_ERR or REF_B_ERR. -/
def refErr (b : Bool) : Obj := if b then .REF_B_ERR else .REF_A_ERR

/-- REF_MISSING_EDGE (R199): no edge of reference `b` for 40 ns; an unqualified one starts anew, and its error is not measured
(R222). -/
def execRefMissingEdge (b : Bool) (s : State) : Host.Outcome State Fault Refusal :=
  .next (s.when s.su.released fun t =>
    let u := t.wr (refErr b) 0x7FFFFFFF
    if u.refValid b then (u.useRefInj b).loseRef b false (u.injAt (3 + b.toNat)).isSome
    else u.setQual b none)

/-! ### The frequency test (R199, R200) -/

/-- A billion: errors are in ppb. -/
def ppb : Int := 1000000000
/-- The ratio `num / den` of two frequencies lies more than `ppm` from 1. -/
def offBy (num den : Int) (ppm : Nat) : Bool := decide (den.natAbs * ppm < (num - den).natAbs * 1000000)
/-- INTOSC_ERR has been measured. -/
def State.intoscKnown (s : State) : Bool := s.rd .INTOSC_ERR != 0x7FFFFFFF
/-- 1 + INTOSC_ERR in ppb; 1 until measured. -/
def State.intosc (s : State) : Int := if s.intoscKnown then ppb + s.rdInt .INTOSC_ERR else ppb
/-- A limit of R200 against the internal oscillator. -/
def State.intLimit (s : State) (ppm : Nat) : Nat := if s.intoscKnown then ppm else 60000

/-- The reference declared lost when both are valid and lie more than 1000 ppm apart: `err` is that of `b` against the
other, `raw` that of `b` against the internal oscillator (R200). -/
def State.worseRef (s : State) (b : Bool) (err raw : Int) : Bool :=
  let mine := (ppb + raw) * s.intosc
  let badMine := offBy mine (ppb * ppb) (s.intLimit 500)
  let badOther := offBy (mine * ppb) (ppb * ppb * (ppb + err)) (s.intLimit 500)
  if badMine && !badOther then b
  else if badOther && !badMine then !b
  else if s.selected = 0 then true
  else s.selected == 1

/-- Reference `b` passes the test of a window (R199, R200): against the other where it is valid, else against the
corrected internal oscillator. -/
def State.freqFails (s : State) (b : Bool) (err raw : Int) : Bool :=
  if s.refValid (!b) then offBy (ppb + err) ppb 1000 else offBy ((ppb + raw) * s.intosc) (ppb * ppb) (s.intLimit 1000)

/-- REF_A_ERR or REF_B_ERR after a window; the rounding of the product is open. -/
def State.showRefErr (s : State) (b : Bool) (err raw : Int) : State :=
  let e := if s.refValid (!b) then err else divOpen 50 ((ppb + raw) * s.intosc) ppb - ppb
  s.wrSat (refErr b) e

/-- A window of reference `b` that is not valid: the first one passed begins its qualification (R201). -/
def State.qualWindow (s : State) (b fails : Bool) : State :=
  let held := match s.injLoss b with
    | some t => decide (s.up < t)
    | none => false
  if fails || held then s.setQual b none
  else if (s.qualOf b).isSome then s
  else s.setQual b (some (s.up - 10))

/-- REF_FREQ_WINDOW (R199, R200): a 10 µs window of reference `b` ends with its error against the other reference and
against the internal oscillator, in ppb. -/
def execRefFreqWindow (b : Bool) (err raw : Int) (s : State) : Host.Outcome State Fault Refusal :=
  .next (s.when s.su.released fun t =>
    let u := t.showRefErr b err raw
    let fails := u.freqFails b err raw
    if !u.refValid b then u.qualWindow b fails
    else if !fails then u
    else if u.refValid (!b) then u.loseRef (u.worseRef b err raw) true false
    else u.loseRef b true false)

/-! ### Leaving holdover, short stops (R190, R201, R208, R210) -/

/-- A controller short stop begins. -/
def State.beginStop (s : State) : State := { s with refs := { s.refs with shortStop := true } }

/-- Order 1 of R210: CTL stops shortly, AON and the net change to reference `b`. -/
def State.leaveHoldover (s : State) (b : Bool) : State :=
  let t := ((s.changeSource (refCode b)).launchSwitch 2).beginStop
  { t with refs := { t.refs with exitTo := none } }

/-- The injected losses have passed: their span ends (R537). -/
def State.spanCheck (s : State) : State :=
  s.when (s.refs.injA.isNone && s.refs.injB.isNone && s.refs.holdSince.isNone) fun t =>
    { t with refs := { t.refs with injSpan := false } }

/-- The µs of the holdover in progress. -/
def State.holdUs (s : State) : Nat := s.up - s.refs.holdSince.getD s.up

/-- Order 2 of R210, at the end of the stop: the bits clear, the field bus rejoins, the length is counted; HOLDOVER_TIME shows
whole ms of all holdovers together (DESIGN CHOICE: R222 says nothing of rounding, log 78). -/
def State.endHoldover (s : State) : State :=
  let us := s.holdUs
  let inj := s.refs.injSpan
  let s1 := (((s.setReady .aonInternal false).setReady .holdover false).joinBus).when (!inj) fun t =>
    let u := t.add .HOLDOVER_TIME ((us + t.refs.holdRem) / 1000)
    { u with refs := { u.refs with holdRem := (us + t.refs.holdRem) % 1000 } }
  let s2 := s1.event 0x13 0xFFFF (us / 1000) inj
  State.prefer (State.spanCheck { s2 with refs := { s2.refs with holdSince := none } })

/-- HOLDOVER_TIME as it reads: with the holdover in progress (R222). -/
def State.holdoverTime (s : State) : Nat :=
  satAdd 32 (s.rd .HOLDOVER_TIME)
    (if s.refs.holdSince.isSome && !s.refs.injSpan then (s.holdUs + s.refs.holdRem) / 1000 else 0)

/-- HOLDOVER_RELOCK (R208): 10 µs after the declaration CTL stops shortly to relock. -/
def execHoldoverRelock (s : State) : Host.Outcome State Fault Refusal :=
  match s.refs.relockAt with
  | some t0 => .next (s.when (decide (t0 ≤ s.up)) fun t =>
      ({ t with refs := { t.refs with relockAt := none } } : State).beginStop)
  | none => .next s

/-- The deadlines that a short stop pauses move by its length: those of the voltage settling limit and the quiesce, not the
stop time that the agent counts (R189, R190). -/
def State.shiftTimers (s : State) (us : Nat) : State :=
  let t : State := { s with stop := { s.stop with cur := s.stop.cur.map fun x =>
    if x.order ≤ 2 then { x with deadline := x.deadline + us } else x } }
  t.each t.groups fun u g => u.modG g fun x =>
    { x with step := x.step.map fun y => { y with deadline := y.deadline + us } }

/-- A short stop has ended (R190, R210, R221): timers and MARKs resume; holdover ends where a reference has been
selected, and one that became valid during the entry is taken now. -/
def State.stopEnded (s : State) (us : Nat) : State :=
  let u : State := { s with refs := { s.refs with shortStop := false, stopped := s.refs.stopped + min us 2 } }
  let v := (u.shiftTimers (min us 2)).takeWindows.sendDueMarks
  if v.refs.holdSince.isSome && v.selected != 0 then v.endHoldover
  else match v.refs.exitTo with
    | some b => if v.refValid b then v.leaveHoldover b else v
    | none => v

/-- The qualifying time in µs (R201): 100 µs during start-up. -/
def State.qualTime (s : State) : Nat := if s.su.everReady then 1000 * s.rd .REF_QUALIFY else 100

/-- REF_QUALIFIED (R201, R207, R210): reference `b` has passed its tests long enough and is valid. -/
def execRefQualified (b : Bool) (s : State) : Host.Outcome State Fault Refusal :=
  match s.qualOf b with
  | some t0 => .next (s.when (decide (t0 + s.qualTime ≤ s.up) && !s.refValid b) fun t =>
      let u := (((t.setQual b none).setFlag .REF_STATUS b.toNat true).setReady (refRdy b) true).setInjLoss b none
      if u.refs.holdSince.isSome && u.selected == 0 then
        if u.refs.relockAt.isNone && !u.refs.shortStop then u.leaveHoldover b
        else { u with refs := { u.refs with exitTo := some (u.refs.exitTo.getD b) } }
      else u.spanCheck.prefer)
  | none => .next s

/-- HOLDOVER_CEILING_REMOVE (R210): HOLD has cleared in every region of group `g`. -/
def execHoldoverCeilingRemove (g : Nat) (s : State) : Host.Outcome State Fault Refusal :=
  .next (s.when ((s.g g).holdCeil.isSome && s.refs.holdSince.isNone
      && (s.groupRegions g).all fun n => !s.clocked n || !s.osc n .hold) fun t =>
    (t.modG g fun x => { x with holdCeil := none }).retarget g)

/-- INTOSC_MEASURE (R203): the error over 1 ms against the selected reference, in ppb. -/
def execIntoscMeasure (err : Int) (s : State) : Host.Outcome State Fault Refusal :=
  .next (s.when (s.selected != 0) fun t => t.wrSat .INTOSC_ERR err)

/-! ### Marks (R211 to R213, R219, R220) -/

/-- TIME_STATUS (R223), as it reads. -/
def State.timeStatus (s : State) : Nat :=
  let lim : Int := s.rd .TIME_SLEW_LIMIT
  let adj := s.rdInt .TIME_RATE_ADJ
  let cl := s.regions.filter s.clocked
  (cl != [] && cl.all fun n => (s.r n).timeValid).toNat
    + (s.selected != 0).toNat * 2
    + (s.refs.holdSince.isSome && s.selected == 0).toNat * 4
    + (s.rd .TIME_OFFSET_ADJ != 0).toNat * 8
    + s.clock.setTo.isSome.toNat * 16
    + (decide (lim < adj ∨ adj < -lim)).toNat * 32

/-- The rate correction applied, ppb (R219). -/
def State.rateNow (s : State) : Int :=
  clampInt (-(s.rd .TIME_SLEW_LIMIT : Int)) (s.rd .TIME_SLEW_LIMIT) (s.rdInt .TIME_RATE_ADJ)

/-- The slew applied, ppb: what the limit leaves beside the rate correction, with the sign of the offset (R219). -/
def State.slewNow (s : State) : Int :=
  let p := s.rdInt .TIME_OFFSET_ADJ
  let lim : Int := s.rd .TIME_SLEW_LIMIT
  let adj := s.rdInt .TIME_RATE_ADJ
  if p = 0 ∨ adj < -lim ∨ lim < adj then 0
  else if 0 < p then lim - adj
  else -lim - adj

/-- INC of R211 and R217 in units of 2^-32 under a slew in ppb: 160 units scaled by the rate, and in holdover by the last
INTOSC_ERR; the rounding to 32 fraction bits is open. -/
def State.incFor (s : State) (slew : Int) : Nat :=
  let a : Int := 160 * 2 ^ 32 * (ppb + s.rateNow + slew)
  max 1 (divOpen 42 a (if s.inHoldover then s.intosc else ppb)).toNat

/-- The net periods of slewing that the pending offset still takes (R219). -/
def State.slewPeriods (s : State) : Nat :=
  let w := 160 * s.slewNow.natAbs
  if w = 0 then 0 else divUp ((s.rdInt .TIME_OFFSET_ADJ).natAbs * 1000000000 - s.clock.slewRem.natAbs) w

/-- The multiple of 1 µs that T crosses next (R213), in units of 2^-32. -/
def State.nextMark (s : State) : Nat := (s.T / 16000 + 1) * 16000 * 2 ^ 32

/-- The net periods up to the one in which T crosses the next multiple of 1 µs: those that slew, and those after them (R211,
R213, R219). -/
def State.markPeriods (s : State) : Nat × Nat :=
  let need := s.nextMark - (s.T * 2 ^ 32 + s.clock.frac)
  let i := s.incFor s.slewNow
  if need ≤ s.slewPeriods * i then (divUp need i, 0)
  else (s.slewPeriods, divUp (need - s.slewPeriods * i) (s.incFor 0))

/-- T and its fraction after the net periods of `markPeriods`, each of which adds INC.  T wraps at 2^64, the mark before the wrap is
that of the multiple of 1 µs at or above 2^64, and a correction e is the plain difference (DESIGN CHOICE: R11 states a wrap of the
region count only, log 101). -/
def State.crossMark (s : State) : State :=
  let k := s.markPeriods
  let i := s.incFor s.slewNow
  let x := s.T * 2 ^ 32 + s.clock.frac + k.1 * i + k.2 * s.incFor 0
  { s with clock := { s.clock with
    T := x / 2 ^ 32 % 2 ^ 64
    frac := x % 2 ^ 32
    up := s.clock.up + 1
    incUnits := if k.2 = 0 then i else s.incFor 0 } }

/-- What `k` net periods of slewing absorb of the pending offset. -/
def State.slewMark (s : State) (slew : Int) (k : Nat) : State :=
  let p := s.rdInt .TIME_OFFSET_ADJ
  let q := s.clock.slewRem + slew * 160 * k
  let w := Int.tdiv q ppb
  if w.natAbs < p.natAbs then
    ({ s with clock := { s.clock with slewRem := q - w * ppb } } : State).wrInt .TIME_OFFSET_ADJ (p - w)
  else ({ s with clock := { s.clock with slewRem := 0 } } : State).wrInt .TIME_OFFSET_ADJ 0

/-- The marks of group `g` keep their age when T steps by `d`: whether a later one is a duplicate is a matter of elapsed time
(R296). -/
def State.moveMarks (s : State) (d : Int) (g : Nat) : State :=
  s.modG g fun x => { x with marks := x.marks.map fun m => (m.1, m.2.1, ((m.2.2.1 : Int) + d).toNat, m.2.2.2) }

/-- The signs that wait for region `n` when T steps: one for an interval that ended before a reset of the calibration stays late,
and no interval of the new time ended before it (R250). -/
def State.moveSigns (s : State) (n : Nat) : State :=
  s.modE n fun x =>
    { x with
      signs := x.signs.map fun q => if q.1 < x.signFloor then (2 ^ 64, q.2) else q
      signFloor := min x.signFloor s.interval }

/-- T has stepped from `old`: what was written is in force, the intervals of calibration in progress see the step (R250), runs see it
(R353), and each field still reports a window that had ended before, and the one that the step shortens (R355). -/
def State.stepSpans (s : State) (old : Nat) : State :=
  let s1 := (s.newSpans.each s.regions State.moveSigns).each s.domains fun t d => t.modD d fun x => { x with timeStep := true }
  let s2 := s1.each s1.fields fun t f => t.modF f fun x =>
    { x with
      late := x.late ++ (if x.win < old / 16000 then [old / 16000 - 1] else [])
      stepDue := true
      win := s.window }
  ({ s2 with energy := { s2.energy with partsFrom := 0 } } : State).markRuns s2.groups 6

/-- A TIME_SET that waits takes effect (R220): T steps, the pending offset is cleared, occurrences are unobserved, and the parks
of a trip that waited for it are issued (R288). -/
def State.applySet (s : State) : State :=
  match s.clock.setTo with
  | none => { s with clock := { s.clock with stepped := false } }
  | some v =>
    let t : State := { s with clock := { s.clock with T := v, frac := 0, setTo := none, stepped := true, slewRem := 0 } }
    (((t.stepSpans s.clock.T).wr .TIME_OFFSET_ADJ 0).each t.groups fun u g => (u.unobserve g).moveMarks ((v : Int) - s.clock.T) g).tripParksDue

/-- Agent `n` captures its time less MARK_DELAY at mark `seq` (R214): the mark reaches it over the net after the net's delay; a
parked agent's time is global time. -/
def State.capture (s : State) (n seq : Nat) (T : Nat) : State :=
  let held := ((s.r n).park.map (·.parked)).getD false
  let t : Int := (if held then T else s.rd .REGION_TIME n) + Config.netDelay n - s.rd .MARK_DELAY n
  s.modR n fun r => { r with captures := (r.captures ++ [(seq, t)]).drop (r.captures.length - 2) }

/-- TIME_MARK is launched, with the two correction messages of its number: T_k and the INC in force (R213). -/
def State.launchMark (s : State) : State :=
  let T := s.T
  let t := s.applySet
  let seq := (t.clock.markSeq + 1) % 2 ^ 32
  let m : MarkMsg := { seq := seq, tk := t.clock.T, inc := t.clock.incUnits, stepped := t.clock.stepped }
  let u : State := { t with clock := { t.clock with
    markSeq := seq
    markT := t.clock.T
    sent := (t.clock.sent ++ [m]).drop (t.clock.sent.length - 2) } }
  u.each (u.regions.filter fun n => u.osc n .counting && u.clocked n) fun v n => v.capture n seq T

/-- A microsecond of HOLD in some region of group `g` does not count toward the limit of R162 (R512). -/
def State.holdTrim (s : State) (g : Nat) : State :=
  s.when ((s.g g).trim && (s.groupRegions g).any fun n => s.clocked n && s.osc n .hold) fun t =>
    t.modG g fun x => { x with trimHeld := x.trimHeld + 1 }

/-- TIME_MARK (R211, R213, R219): T crosses the next multiple of 1 µs; the mark is launched unless a SWITCH came less than
2 µs before (R205). -/
def execTimeMark (s : State) : Host.Outcome State Fault Refusal :=
  .next (s.when s.su.released fun t =>
    let u := t.crossMark.slewMark t.slewNow t.markPeriods.1
    let v := u.when (decide (u.refs.suppressUntil < u.up)) fun w => w.launchMark
    (v.each v.groups fun w g => (w.floorStart g).holdTrim g).closeEnumeration)

/-! ### Corrections at the agents (R214, R215) -/

/-- The window in progress of region `n` closes at a step of time, and windows go on from the new time (R250).  Its number is that
before the first new one (DESIGN CHOICE, log 103). -/
def State.stepWindow (s : State) (n new : Nat) : State :=
  match (s.ee n).win with
  | some w =>
    let k := new / 16000 - 1
    let t := (s.closeWindow n k (s.rd .REGION_TIME n) (s.rd .REGION_TIME n - 16000 * w) 1).modE n fun x => { x with win := some (new / 16000) }
    t.when (t.f (fieldOf n)).stepDue fun u => u.modF (fieldOf n) fun x => { x with late := x.late ++ [k], stepDue := false }
  | none => s

/-- The first correction after a release (R215, R224): the time is valid and windows begin. -/
def State.firstTime (s : State) (n : Nat) : State :=
  (s.modR n fun r => { r with timeValid := true }).modE n fun x =>
    { x with win := some (s.rd .REGION_TIME n / 16000), mayBegin := true }

/-- The time of region `n` takes a correction e (R215): at once, or, so that it never moves backward, a negative one cycle by
cycle.  What was left of an earlier one gives way to the new e, which was measured with it (DESIGN CHOICE: R215 does not say,
log 77). -/
def State.shiftTime (s : State) (n : Nat) (e : Int) (step : Bool) : State :=
  let now := e < 0 && !step
  (s.when (!now) fun t => t.wr .REGION_TIME (((s.rd .REGION_TIME n : Int) + e).toNat % 2 ^ 64) n).modR n fun r =>
    { r with timeDebt := if now then e.natAbs else 0 }

/-- A correction e at region `n` (R214, R215, R220): the first one makes the time valid, that of a TIME_SET is full. -/
def State.correct (s : State) (n : Nat) (e : Int) (step : Bool) : State :=
  let s1 := (s.wrSat .REGION_TIME_ERR e n).modR n fun r => { r with errPeak := max r.errPeak e.natAbs }
  let new := ((s.rd .REGION_TIME n : Int) + e).toNat % 2 ^ 64
  if !(s.r n).timeValid then (s1.shiftTime n e step).firstTime n
  else (s1.when step fun t => t.stepWindow n new).shiftTime n e step

/-- TIME_CORRECTION (R213, R214): the corrections of mark `seq` arrive at region `n`, which captured its time at that mark:
e = T_k − capture is applied, and durations follow the INC of the second message. -/
def execTimeCorrection (x : CorrIn) (s : State) : Host.Outcome State Fault Refusal :=
  match (s.r x.region).captures.find? fun c => c.1 == x.seq, s.clock.sent.find? fun m => m.seq == x.seq with
  | some c, some m =>
    .next ((s.modR x.region fun r => { r with captures := r.captures.filter fun c => c.1 != x.seq, incUnits := m.inc }).correct x.region
      ((m.tk : Int) - c.2) m.stepped)
  | _, _ => .next s

/-! ### Captures and steering (R218 to R220) -/

/-- The stamp of an edge: T at the AON edge, `dt` units after the last mark, less 80 ns (R218). -/
def State.stamp (s : State) (dt : Nat) : Nat := ofInt 64 ((s.T : Int) + dt - 1280)

/-- PPS_CAPTURE (R218). -/
def execPpsCapture (dt : Nat) (s : State) : Host.Outcome State Fault Refusal :=
  .next ((s.wr .PPS_TIME (s.stamp dt)).addWrap .PPS_COUNT 1)

/-- TS_CAPTURE (R218). -/
def execTsCapture (dt : Nat) (s : State) : Host.Outcome State Fault Refusal :=
  .next ((s.wr .TS_TIME (s.stamp dt)).addWrap .TS_CAPTURE_COUNT 1)

/-- TIME_SET is refused BUSY (R220): a parked hold is pending, a group is under floor throttle, a broadcast step has not
ended. -/
def State.timeSetBusy (s : State) : Bool :=
  (s.regions.any fun n => (s.r n).park.isSome) || (s.groups.any fun g => s.rd .FLOOR_STATE g != 0)
    || s.groups.any fun g => ((s.g g).step.map fun x => x.c.isSome).getD false

/-- A TIME_SET accepted (R220). -/
def State.acceptTimeSet (s : State) (v : Nat) : State :=
  let t := (s.wr .TIME_SET v).inc .TIME_SETS
  { t with clock := { t.clock with setTo := some (v % 2 ^ 64) } }

/-- A write of TIME_OFFSET_ADJ would make the pending offset exceed its type (R219). -/
def State.offsetFits (s : State) (v : Int) : Bool :=
  let p := s.rdInt .TIME_OFFSET_ADJ + v
  decide (-2147483648 ≤ p ∧ p ≤ 2147483647)

end Sys2Proof.Machine
end

