-- ==== Sys2Proof/Machine/Region.lean ====
section
/-! DEFINITION. The commands of a Region Agent's oscillator, droop and stretch functions. -/

set_option Elab.async false

namespace Sys2Proof.Machine
open Sys2Proof

/-- Region `n` is clocked and not held by a park. -/
def State.cycling (s : State) (n : Nat) : Bool :=
  s.present n && s.clocked n && !(((s.r n).park.map (·.parked)).getD false)

/-- REGION_CYCLE (R126): the start of a cycle of a clocked region that is not parked. -/
def execRegionCycle (n : Nat) (io : CycleIn) (s : State) : Host.Outcome State Fault Refusal :=
  .next (s.when (s.cycling n) fun t => t.cycle n io)

/-- FLL_GATE_END (R72, R74): a gate ends in a clocked region. -/
def execFllGateEnd (n : Nat) (s : State) : Host.Outcome State Fault Refusal :=
  .next (s.when (s.present n && s.clocked n) fun t => t.gateEnd n)

/-- SIGMA_DELTA_SLOT (R75): a slot ends in a clocked region. -/
def execSigmaDeltaSlot (n : Nat) (s : State) : Host.Outcome State Fault Refusal :=
  .next (s.when (s.present n && s.clocked n) fun t => t.sigmaDelta n)

/-- Region `n` runs in a group whose arm has ended (R77). -/
def State.inRunningGroup (s : State) (n : Nat) : Bool :=
  s.clocked n && s.isReady .ready && !s.on .REGION_DETACHED n && s.groupOf (fieldOf n) != 0xFF

/-- OSC_UNLOCK (R77): out of LOCKED for 100 µs, counted once an episode. -/
def execOscUnlock (n : Nat) (s : State) : Host.Outcome State Fault Refusal :=
  match (s.r n).unlockAt with
  | some at0 =>
    .next (s.when (s.inRunningGroup n && !(s.r n).unlockCounted && decide (at0 + 100 ≤ s.up)) fun t =>
      (t.inc .OSC_UNLOCKS n).modR n fun r => { r with unlockCounted := true })
  | none => .next s

/-- OSC_CEILING (R77): CEILING set for 10 ms, logged once an episode. -/
def execOscCeiling (n : Nat) (s : State) : Host.Outcome State Fault Refusal :=
  match (s.r n).ceilAt with
  | some at0 =>
    .next (s.when (s.osc n .ceiling && !(s.r n).ceilLogged && decide (at0 + 10000 ≤ s.up)) fun t =>
      (t.event 0x14 n (ofInt 32 (t.rdInt .OSC_HEADROOM n))).modR n fun r => { r with ceilLogged := true })
  | none => .next s

/-- CAL_OFFSET_UPDATE (R84): a LOCKED region learns its offset, unless learning is off. -/
def execCalOffsetUpdate (n : Nat) (s : State) : Host.Outcome State Fault Refusal :=
  .next (s.when (s.present n && s.osc n .locked && s.on .CAL_OFFSET_LEARN) fun t => t.learnOffset n)

/-- HEADROOM_REPORT (R87): each agent of a clocked region reports its headroom; the spine holds a report in a CTL short stop
(R34). -/
def execHeadroomReport (n : Nat) (s : State) : Host.Outcome State Fault Refusal :=
  .next (s.when (s.present n && s.clocked n && !s.refs.shortStop) fun t => t.headroomReport n)

/-- AGE_DUE (R88): the powered hours since the last sample reach AGE_INTERVAL days. -/
def execAgeDue (n : Nat) (s : State) : Host.Outcome State Fault Refusal :=
  let t := s.countHours n
  .next (s.when (s.present n) fun _ =>
    t.when (decide (t.rd .AGE_SAMPLE_H n + 24 * t.rd .AGE_INTERVAL ≤ t.rd .AGE_POWERED_H n)) fun u => u.setOsc n .ageDue true)

/-- AGE_SAMPLE_DONE (R89, R91): the 64-gate sample of region `n` ends. -/
def execAgeSampleDone (n ratio : Nat) (s : State) : Host.Outcome State Fault Refusal :=
  .next (s.when ((s.r n).ageSampling) fun t =>
    let v := (t.ageSampled n ratio).each [Obj.AGE_RATIO_LAST, .AGE_DEGRADE_LAST, .AGE_DEGRADE_PREV, .AGE_GUARD, .AGE_SAMPLE_H]
      fun u o => u.dirtyNow o n
    v.when (v.regions.all fun m => !(v.r m).ageSampling) fun u => u.wr .AGE_SAMPLE_REQ 0)

/-- START_FAIL (R95): a region not LOCKED within 200 µs of its start. -/
def execStartFail (n : Nat) (s : State) : Host.Outcome State Fault Refusal :=
  match (s.r n).startAt with
  | some at0 =>
    .next (s.when (s.present n && s.clocked n && !s.osc n .locked && !s.osc n .hold && !s.osc n .startFail
        && decide (at0 + 200 ≤ s.up)) fun t => (t.setOsc n .startFail true).raiseFault .startFail 0 n 0)
  | none => .next s

/-- COUNT_RELEASE (R93): a held count releases at the mark that was launched: that of a region back in power joins its crossings, and
that of an arm restarts the count of substituted windows (R236). -/
def execCountRelease (n : Nat) (s : State) : Host.Outcome State Fault Refusal :=
  .next (s.when (s.clocked n && !s.osc n .counting && (s.r n).markSeen) fun t =>
    let v := t.releaseCount n
    let u := if t.on .REGION_DETACHED n then v.joinCells n else v.modE n fun x => { x with substituted := 0 }
    u.when (u.su.markLaunched && u.liveRegions.all fun m => !u.clocked m || u.osc m .counting) fun v => v.setReady .osc true)

/-- DROOP_TRIP (R102): a sample of the region's sensors. -/
def execDroopTrip (n : Nat) (readings : List (Nat × Nat)) (early : Bool) (s : State) : Host.Outcome State Fault Refusal :=
  .next (s.when (s.cycling n) fun t => t.sample n { readings := readings, early := early })

/-- DROOP_RUN_END (R102): the last period of a run has ended. -/
def execDroopRunEnd (n : Nat) (s : State) : Host.Outcome State Fault Refusal :=
  .next (s.when (decide ((s.r n).runDepth ≠ 0 ∧ (s.r n).runLeft = 0)) fun t => t.endRun n)

/-- DS_STUCK (R110): a sensor has tripped on every sample for 10 µs of region time. -/
def execDsStuck (n sensor : Nat) (s : State) : Host.Outcome State Fault Refusal :=
  .next (s.when (s.sensorActive n sensor
      && decide (16000 * s.rd .DS_STUCK_TIME * incNominal ≤ Tab.get (s.r n).stuckTime sensor 0)) fun t => t.quarantine n sensor)

/-- PARK (R109): the count reaches the park count. -/
def execPark (n : Nat) (s : State) : Host.Outcome State Fault Refusal :=
  match (s.r n).park with
  | some p =>
    .next (s.when (s.osc n .counting && !p.parked && passed (s.rd .REGION_COUNT n) p.count) fun t => t.parkHold n)
  | none => .next s

/-- PARK_RELEASE (R109): global time reaches the release time (T moves in steps of 1 µs in this model). -/
def execParkRelease (n : Nat) (s : State) : Host.Outcome State Fault Refusal :=
  match (s.r n).park with
  | some p => .next (s.when (p.parked && decide (p.release < s.T + 16000)) fun t => t.parkEnd n p)
  | none => .next s

/-- SLIP_FAULT (R132): |m| on a tethered edge has reached 5. -/
def execSlipFault (n edge : Nat) (s : State) : Host.Outcome State Fault Refusal :=
  .next (s.when (decide (edge < 4) && s.measured n edge && decide (5 ≤ (s.rdInt .SLIP n edge).natAbs)
      && !bit (s.r n).slipFaulted edge) fun t =>
    (((t.setFlag .TETHER_STATUS 2 true n).when (!bit (t.r n).injSlips edge) fun u => u.inc .SLIP_FAULTS).modR n fun r =>
      { r with slipFaulted := setBit r.slipFaulted edge true }).raiseFault .slipFault 0 n edge (bit (s.r n).injSlips edge))

/-- CAUSE_TAG_EXPIRY (R135): 64 periods without stretch. -/
def execCauseTagExpiry (n : Nat) (s : State) : Host.Outcome State Fault Refusal :=
  .next (s.when (decide (64 ≤ (s.r n).quiet)) fun t => t.modR n fun r => { r with tag := {} })

end Sys2Proof.Machine
end

