-- ==== Sys2Proof/Machine/Dict.lean ====
section
/-! DEFINITION. The Dictionary Engine: rights and port classes (R416 to R419), what a value may be (R413, R414), what an
object reads (R434), and the audit ring (R435 to R441). -/

set_option Elab.async false

namespace Sys2Proof.Machine
open Sys2Proof

/-! ### Port classes and rights (R416 to R419) -/

/-- The class code of an access (R416): H 0, HX 1, F 2, N 3, E 4. -/
def State.classOf (s : State) (src : Src) : Nat :=
  match src with
  | .host => if s.on .EXPERT_UNLOCK then 1 else 0
  | .fbus _ => 2
  | .net _ => 3
  | .eng _ => 4

/-- The requester recorded (R416). -/
def Src.requester (src : Src) : Nat :=
  match src with
  | .host => 0
  | .fbus a => a % 4096
  | .net n => n % 4096
  | .eng i => i % 4096

/-- The rights of an object in this configuration: MB_DOMAIN is fixed by Priund in W4-L and W4-X (R408). -/
def State.rightsOf (s : State) (o : Obj) : Nat :=
  if o = .MB_DOMAIN ∧ s.remoteMail = true then 0x2A2 else (info o).rights

/-- The object is Persistent in this configuration: MB_DOMAIN is in W4-S and W4-M alone (R408). -/
def State.persists (s : State) (o : Obj) : Bool := (info o).persistent && !(o == .MB_DOMAIN && s.remoteMail)

/-- Class `c` may read. -/
def mayRead (rights c : Nat) : Bool := bit rights (9 - 2 * c)
/-- Class `c` may write. -/
def mayWrite (rights c : Nat) : Bool := bit rights (8 - 2 * c)
/-- Some class may write. -/
def writable (rights : Nat) : Bool := [0, 1, 2, 3, 4].any (mayWrite rights)

/-- Check 6 of R14 (R417, R418). -/
def State.hasRight (s : State) (o : Obj) (src : Src) (write : Bool) : Bool :=
  let r := s.rightsOf o
  let may := if write then mayWrite r else mayRead r
  if src = .host then may 0 || may 1 else may (s.classOf src)

/-- Check 7 of R14 fails: the host needs the expert unlock (R418). -/
def State.needsUnlock (s : State) (o : Obj) (src : Src) (write : Bool) : Bool :=
  src == .host && !s.on .EXPERT_UNLOCK &&
    ((write && (info o).expert) || !(if write then mayWrite (s.rightsOf o) 0 else mayRead (s.rightsOf o) 0))

/-! ### Elements (R6, R411) -/

/-- The objects of the build with their subindices, in catalogue order (R432). -/
def catalogue : List (Obj × Nat) := allObjs.flatMap fun o => (List.range (info o).span).map fun i => (o, i)

/-- The number of elements of a kind (R411). -/
def State.elemCount (s : State) (k : ElemKind) : Nat :=
  match k with
  | .none => 1
  | .region => s.rd .NUM_REGIONS
  | .field => s.rd .NUM_FIELDS
  | .domain => s.rd .NUM_DOMAINS
  | .rail => s.rd .NUM_RAILS
  | .group => s.rd .NUM_GROUPS
  | .partition => s.rd .NUM_PARTITIONS
  | .mailbox => s.rd .NUM_MAILBOXES
  | .entry => catalogue.length

/-- Element `e` of object `o` exists; EST_WEIGHT has none for a region that the build leaves out (R240, R251). -/
def State.elemExists (s : State) (o : Obj) (e : Nat) : Bool :=
  decide (e < s.elemCount (info o).elem) && (o != .EST_WEIGHT || s.present e)

/-! ### Readiness (R37, R502) -/

/-- The objects that CTL alone serves: identity, UNIT_READY, CLOCK_SOURCE and those that R502's direct registers mirror. -/
def servedEarly (o : Obj) : Bool :=
  (decide (0x1000 ≤ (info o).index ∧ (info o).index ≤ 0x1001)) || o == .UNIT_READY || o == .CLOCK_SOURCE
    || o == .FAULT_DIGEST || o == .GLOBAL_TIME || o == .PPS_TIME || o == .TS_TIME

/-- Check 3 of R14 for an object, none where the address names no object. -/
def State.objReady (s : State) (o : Option Obj) : Bool :=
  s.isReady .dict || (s.isReady .ctl && match o with
    | some x => servedEarly x
    | none => false)

/-! ### Types and ranges (R413, R414) -/

/-- A type read as an integer with sign. -/
def Ty.signed (t : Ty) : Bool := t == .s16 || t == .s32 || t == .sq
/-- STR and BLOB. -/
def Ty.long (t : Ty) : Bool := t == .str || t == .blob

/-- A raw value as the integer of its type. -/
def asInt (o : Obj) (v : Nat) : Int := if (info o).ty.signed then toInt (objBits o) v else (v % 2 ^ objBits o : Nat)

/-- The type and range of the object's own table row admit a value (R414). -/
def typeOk (o : Obj) (v : Nat) : Bool :=
  ((info o).ty != .bool || decide (v ≤ 1)) && match (info o).valid with
    | .any => true
    | .range lo hi => decide (lo ≤ asInt o v ∧ asInt o v ≤ hi)
    | .oneOf vs => vs.contains v
    | .mask m => andNot v m == 0

/-- A calibration curve is as R79 lays it out: format, number of points, reserved bytes, ascending voltage codes of 9 bits
(R10). -/
def curveOk (v : Nat) : Bool :=
  let pts := bytesAt v 1 1
  let vc (p : Nat) : Nat := bytesAt v (8 + 136 * p) 2
  bytesAt v 0 1 == 1 && decide (2 ≤ pts ∧ pts ≤ 8) && bytesAt v 6 2 == 0
    && (List.range 8).all (fun p => bytesAt v (142 + 136 * p) 2 == 0)
    && (List.range pts).all (fun p => decide (vc p ≤ 511))
    && (List.range (pts - 1)).all fun p => decide (vc p < vc (p + 1))

/-- Every live weight of a word of lanes lies in its band (R242). -/
def State.weightsOk (s : State) (n v : Nat) : Bool :=
  (List.range 512).all fun i => inBand (s.facWeight n i) (bits v (16 * i) 16)

/-- The explicit shares with that of group `g` at `v` sum to at most 256 (R258). -/
def State.sharesOk (s : State) (g v : Nat) : Bool :=
  decide (v + sumOf ((s.groups.filter (· != g)).map fun h => s.rd .GROUP_SHARE h) ≤ 256)

/-- A load of the budget exchange is as R321 and R322 ask. -/
def State.loadOk (s : State) (v : Nat) (net : Bool) : Bool :=
  let ep := bits v 0 16
  let gr := bits v 32 32
  let ahead := match s.budget.lastLoad with
    | none => true
    | some l => decide (1 ≤ (ep + 65536 - l) % 65536 ∧ (ep + 65536 - l) % 65536 ≤ 32767)
  bits v 16 16 == 0 && ahead && decide (s.rd .BX_GRANT_MIN ≤ gr ∧ gr ≤ s.rd .BX_GRANT_MAX)
    && (!net || decide (s.rd .BX_N_GRANT_MIN ≤ gr ∧ gr ≤ s.rd .BX_N_GRANT_MAX))

/-- A voltage code lies in the rating of rail `r` (R375, R544). -/
def State.inRating (s : State) (r v : Nat) : Bool := decide ((s.ra r).rateLo ≤ v ∧ v ≤ (s.ra r).rateHi)

/-- Some crossing of region `n` is TETHERED. -/
def State.tethered (s : State) (n : Nat) : Bool :=
  edges.any fun e => match s.neighbour n e with
    | some m => (s.c n e).rd.mode == .tethered || (s.c m (opposite e)).wr.mode == .tethered
    | none => false

/-- The bounds of R175 and R176 on a region's target; a region of a tether group that is not detached changes by no region
stop at all, with or without a TETHERED crossing (R174; that its write answers RANGE is DEDUCED, log 79). -/
def State.targetOk (s : State) (n v : Nat) : Bool :=
  !s.tethered n && !s.on .REGION_EXCLUDED_ACTIVE n
    && (s.on .REGION_DETACHED n || s.groupOf (fieldOf n) == 0xFF)
    && !(s.on .REGION_DETACHED n && s.groups.contains (s.groupOf (fieldOf n)) && decide (s.rd .GROUP_N (s.groupOf (fieldOf n)) < v))

/-- The enabled sensors left by a write of DS_ENABLE are enough (R112). -/
def State.sensorsOk (s : State) (n v : Nat) : Bool :=
  let m := v % 2 ^ s.rd .DS_COUNT n
  decide (4 ≤ popCount m 16 ∧ 2 ≤ popCount (Nat.land m (s.rd .DS_ROUTER_MASK n)) 16)

/-- The element suits the injection point (R536, R545): regions, rails and hops that exist. -/
def State.injElementOk (s : State) (p el arg : Nat) : Bool :=
  match p with
  | 1 | 2 | 5 | 10 => s.present el
  | 6 => decide (el < s.rd .NUM_RAILS)
  | 8 =>
    let k := bits arg 0 4
    if k = 1 ∨ k = 2 ∨ k = 3 ∨ k = 4 then s.present el else el == 0
  | 9 =>
    match bits arg 4 2 with
    | 0 => s.present el
    | 1 => decide (el < s.rd .NUM_FIELDS)
    | 2 => decide (el < 42)
    | _ => false
  | _ => true

/-- The word of point 8 lies in its range (R545). -/
def State.injWordOk (k w : Nat) : Bool :=
  match k with
  | 0 => decide (w ≤ 255)
  | 1 => decide (w ≤ 136)
  | 2 => decide (w ≤ 7)
  | 3 => decide (w ≤ 67)
  | 4 => decide (w ≤ 127)
  | 5 => decide (w < 524288 + 4096 * 8)
  | 6 => decide (w < 1024)
  | 7 => decide (w < 32768)
  | 8 => decide (w < 64)
  | 9 => decide (w ≤ 511)
  | 10 => decide (w < 2048)
  | _ => false

/-- The argument suits the injection point (R536, R545). -/
def State.injArgOk (s : State) (p el arg : Nat) : Bool :=
  match p with
  | 1 => decide (bits arg 0 4 < s.rd .DS_COUNT el ∧ 1 ≤ bits arg 16 16) && bits arg 4 4 == 0 && bits arg 14 2 == 0
  | 2 => decide (bits arg 0 3 < s.rd .TS_COUNT el ∧ 1 ≤ bits arg 27 5) && bits arg 3 13 == 0
  | 3 | 4 => decide (1 ≤ arg ∧ arg < 65536)
  | 5 => (s.neighbour el (bits arg 0 2)).isSome && bits arg 2 2 == 0 && decide (arg < 256)
  | 6 | 11 => decide (1 ≤ arg ∧ arg < 16)
  | 7 => decide (arg < 4)
  | 8 => State.injWordOk (bits arg 0 4) (bits arg 4 20) && decide (arg < 2 ^ 25)
  | 9 => decide (1 ≤ bits arg 0 3 ∧ bits arg 0 3 ≤ 4 ∧ bits arg 4 2 < 3) && bits arg 3 1 == 0 && decide (arg < 64)
  | 10 => arg == 0
  | _ => false

/-- The injection that INJ_POINT, INJ_ELEMENT and INJ_ARG name is possible. -/
def State.injOk (s : State) : Bool :=
  let p := s.rd .INJ_POINT
  s.injElementOk p (s.rd .INJ_ELEMENT) (s.rd .INJ_ARG) && s.injArgOk p (s.rd .INJ_ELEMENT) (s.rd .INJ_ARG)

/-- A fixed rate `v` lies between entry 0's N and the highest valid entry's of table `t`, and is not above GUARANTEED_N `gn`
(R285). -/
def fixedOk (gn t v : Nat) : Bool := decide (v ≤ gn ∧ v ≤ opN t (opHighest t) ∧ opN t 0 ≤ v)

/-- The conditions that an object's chapter sets beside its type and range, each binding a write of every object it
names (R414). -/
def State.boundsOk (s : State) (o : Obj) (e i v : Nat) (net : Bool) : Bool :=
  match o with
  | .LOCK_TOL => decide (v < s.rd .UNLOCK_TOL)
  | .UNLOCK_TOL => decide (s.rd .LOCK_TOL < v)
  | .CAL_CURVE => curveOk v
  | .EST_VREF_CODE => decide (v ≤ 511)
  | .DS_LINE_TRIM => (List.range 64).all fun k => bits v (8 * k + 6) 2 == 0
  | .DS_ENABLE => s.sensorsOk e v
  | .DS_QUARANTINE => andNot v (s.rd .DS_QUARANTINE e) == 0
  | .TETHER_GROUP => decide (v < s.rd .NUM_GROUPS ∨ v = 0xFF)
  | .DOMAIN_TARGET => v == 2 || !(s.domainRegions e).any fun n => s.on .REGION_EXCLUDED_ACTIVE n
  | .REGION_TARGET_N => s.targetOk e v
  | .VSET_HOLD_LO => decide (v < s.rd .VSET_HOLD_HI)
  | .VSET_HOLD_HI => decide (s.rd .VSET_HOLD_LO < v)
  | .TIME_OFFSET_ADJ => s.offsetFits (asInt o v)
  | .EST_WEIGHT => s.weightsOk e v
  | .OP_TABLE => opTableOk v && fixedOk (s.rd .GUARANTEED_N) v (s.rd .FIXED_RATE_N e)
  | .GUARANTEED_N => s.groups.all fun g => fixedOk v (s.rd .OP_TABLE g) (s.rd .FIXED_RATE_N g)
  | .GROUP_SHARE => s.sharesOk e v
  | .FIXED_RATE_N => fixedOk (s.rd .GUARANTEED_N) (s.rd .OP_TABLE e) v
  | .OP_UP_LOSS => decide (v < s.rd .OP_DOWN_LOSS)
  | .OP_DOWN_LOSS => decide (s.rd .OP_UP_LOSS < v)
  | .THERM_TRIP => decide (s.rdInt .THERM_THROTTLE + 20 ≤ asInt o v)
  | .THERM_THROTTLE => decide (asInt o v + 20 ≤ s.rdInt .THERM_TRIP)
  | .PR_W_ENERGY => !(v == 0 && s.rd .PR_W_TIME == 0)
  | .PR_W_TIME => !(v == 0 && s.rd .PR_W_ENERGY == 0)
  | .PR_EXPLORE_N => v != 1
  | .BX_EPOCH_LOAD => s.loadOk v net
  | .BX_SLACK_HYST => decide (v < s.rd .BX_SLACK_FULL)
  | .BX_SLACK_FULL => decide (s.rd .BX_SLACK_HYST < v)
  | .BX_GRANT_MIN => decide (v ≤ s.rd .BX_GRANT_MAX)
  | .BX_GRANT_MAX => decide (s.rd .BX_GRANT_MIN ≤ v)
  | .BX_EPOCH_TIMEOUT => decide (2 * s.rd .BX_EPOCH_PERIOD ≤ v)
  | .BX_EPOCH_PERIOD => decide (2 * v ≤ s.rd .BX_EPOCH_TIMEOUT)
  | .BX_PEER => !(bit v 31 && bits v 0 12 == 0)
  | .REGION_PARTITION => decide (v < s.rd .NUM_PARTITIONS ∨ v = 0xFF)
  | .RUN_CTL => v == 2 || decide (s.groupFields e ≠ [])
  | .RAIL_IMAX => s.rd .RAIL_STATE e != 0 && decide (v ≤ s.rd .RAIL_IRATING e)
  | .RAIL_VMIN => s.rd .RAIL_STATE e != 0 && s.inRating e v && decide (v ≤ s.rd .RAIL_VMAX e)
  | .RAIL_VMAX => s.rd .RAIL_STATE e != 0 && s.inRating e v && decide (s.rd .RAIL_VMIN e ≤ v)
  | .RAIL_RECOVER => s.rd .RAIL_STATE e == 3
  | .MB_DOMAIN => decide (v < s.rd .NUM_DOMAINS ∨ v = 0xFFFF)
  | .EXPERT_UNLOCK_TIME => decide (v = 0 ∨ 10 ≤ v)
  | .REGION_STRIKES => v == 0
  | .ALERT_MASK => bit v 0
  | .INJ_ARM => v == 0 || s.injOk
  | .PR_GROUP_TABLE | .DS_THRESH => decide (i < (info o).span)
  | _ => true

/-- Check 10 of R14 on a write from a port. -/
def State.rangeOk (s : State) (o : Obj) (e i v : Nat) (net : Bool) : Bool := typeOk o v && s.boundsOk o e i v net

/-! ### What an object reads (R434) -/

/-- One entry of the catalogue, none past its end. -/
def entryAt (k : Nat) : Option (Obj × Nat) := catalogue[k]?

/-- A type's code (R413). -/
def Ty.code (t : Ty) : Nat := t.ctorIdx

/-- OBJ_DESC of an entry (R432). -/
def State.objDesc (s : State) (o : Obj) (i : Nat) : Nat :=
  let r := info o
  let live := match r.dflt with
    | .live _ => true
    | _ => false
  (r.index) * 2 ^ 48 + (r.sub + i) * 2 ^ 40 + r.ty.code * 2 ^ 36 + r.frac % 16 * 2 ^ 32 + r.elem.ctorIdx * 2 ^ 28
    + s.rightsOf o * 2 ^ 18 + r.expert.toNat * 2 ^ 17 + (s.persists o).toNat * 2 ^ 16 + r.lcRestricted.toNat * 2 ^ 15
    + live.toNat * 2 ^ 14 + (decide (r.dflt = .perBuild)).toNat * 2 ^ 13 + (decide (r.dflt = .factory)).toNat * 2 ^ 12
    + (s.build.remote.contains o.ctorIdx).toNat * 2 ^ 11 + r.unit

/-- The least value of an object, as 64 raw bits (R434). -/
def objMin (o : Obj) : Nat :=
  let r := info o
  if r.ty.long then 0
  else match r.valid with
    | .range lo _ => ofInt 64 lo
    | .oneOf vs => if r.ty = .enum8 then vs.foldl min 255 else 0
    | _ => if r.ty.signed then ofInt 64 (-(2 ^ (objBits o - 1) : Nat)) else 0

/-- The greatest value of an object, as 64 raw bits (R434). -/
def objMax (o : Obj) : Nat :=
  let r := info o
  if r.ty.long then 0
  else match r.valid with
    | .range _ hi => ofInt 64 hi
    | .oneOf vs => maxOf vs
    | .mask m => if r.ty = .bits32 then m else 2 ^ objBits o - 1
    | .any => if r.ty = .bool then 1 else if r.ty.signed then 2 ^ (objBits o - 1) - 1 else 2 ^ objBits o - 1

/-- The per-build objects of the maps, in catalogue order, with their subindices: those that MAP_CRC covers (R61). -/
def mapEntries : List (Obj × Nat) :=
  catalogue.filter fun x => decide (0x1100 ≤ (info x.1).index ∧ (info x.1).index ≤ 0x1104 ∧ (info x.1).dflt = .perBuild)
    && x.1 != .MAP_CRC

/-- MAP_CRC (R61): the CRC-32 over every element of every per-build map object, each at its type's size. -/
def State.mapCrc (s : State) : Nat :=
  Nat.xor (mapEntries.foldl (fun c x =>
    (List.range (s.elemCount (info x.1).elem)).foldl (fun c e => crc32More c (s.rd x.1 e x.2) (info x.1).size) c)
    0xFFFFFFFF) 0xFFFFFFFF

/-- The default of an object that the catalogue does not describe itself with, as OBJ_DEFAULT shows it (R434); an array's default is
that of its element 0. -/
def State.plainDefault (s : State) (o : Obj) (i : Nat) : Nat :=
  match (info o).dflt with
  | .live _ => 0
  | _ =>
    let v := if o = .MAP_CRC then s.mapCrc else s.dflt o 0 i
    if (info o).ty.long then crc32 v (info o).size
    else if (info o).ty.signed then ofInt 64 (asInt o v) else v

/-- The CRC of the catalogue (R434). -/
def State.catalogueCrc (s : State) : Nat :=
  Nat.xor (catalogue.foldl (fun c x =>
    crc32More (crc32More (crc32More (crc32More c (s.objDesc x.1 x.2) 8) (objMin x.1) 8) (objMax x.1) 8) (info x.1).size 4)
    0xFFFFFFFF) 0xFFFFFFFF

/-- The bytes of a text, first byte lowest. -/
def strBytes (t : String) : Nat := (t.toList.map Char.toNat).reverse.foldl (fun a b => 256 * a + b) 0

/-- What `f` says of entry `k` of the catalogue, 0 past its end. -/
def ofEntry (f : Obj × Nat → Nat) (k : Nat) : Nat := ((entryAt k).map f).getD 0

/-- OBJ_DEFAULT of an entry (R434): a per-build object reads the value that the build supplied, so one of self-description reads what
its element 0 reads. -/
def State.objDefault (s : State) (o : Obj) (i : Nat) : Nat :=
  match o with
  | .OBJ_COUNT => catalogue.length
  | .CATALOGUE_CRC => s.catalogueCrc
  | .OBJ_DESC => ofEntry (fun x => s.objDesc x.1 x.2) 0
  | .OBJ_NAME => crc32 (ofEntry (fun x => strBytes (Obj.name x.1 x.2)) 0) (info .OBJ_NAME).size
  | .OBJ_MIN => ofEntry (fun x => objMin x.1) 0
  | .OBJ_MAX => ofEntry (fun x => objMax x.1) 0
  | .OBJ_DEFAULT => ofEntry (fun x => s.plainDefault x.1 x.2) 0
  | .OBJ_SIZE => ofEntry (fun x => (info x.1).size) 0
  | _ => s.plainDefault o i

/-- The passive conditions of R332. -/
def State.fixedRate (s : State) : Bool := s.groups.any fun g => s.on .FIXED_RATE_ENABLE g
/-- The engine is passive (R332). -/
def State.passive (s : State) : Bool := s.fixedRate || s.frozen || s.budget.noSlack || s.budget.expired

/-- BX_STATUS (R338). -/
def State.bxStatus (s : State) : Nat :=
  let b := s.budget
  let inForce := s.on .BX_ENABLE && b.installed
  (b.installed && !b.expired && !s.passive).toNat + inForce.toNat * 2 + s.fixedRate.toNat * 4 + s.frozen.toNat * 8
    + b.noSlack.toNat * 16 + b.expired.toNat * 32 + b.staged.isSome.toNat * 64 + b.waiting.isSome.toNat * 128
    + b.late.toNat * 256

/-- µs left until a deadline, in units of `u` µs; the rounding is open. -/
def State.leftOf (s : State) (deadline : Nat) (u : Nat) : Nat :=
  (divOpen 60 ((deadline - s.up : Nat) : Int) (u : Int)).toNat

/-- The cause tag of region `n` as TETHER_CAUSE lays it out (R134). -/
def State.tagWord (s : State) (n : Nat) : Nat :=
  let t := (s.r n).tag
  t.cls % 4 * 2 ^ 14 + (t.region.getD n) % 1024

/-- XING_MODE of edge `e` of region `n`.  A crossing whose partner half has no supply, whose live half stays in phase 2 of a
resync, reads FENCED (DEDUCED: R51 and R187 call it FENCED, R157 says that it stays in phase 2, log 99). -/
def State.xingMode (s : State) (n e : Nat) : Nat :=
  if (s.neighbour n e).isNone then 0xFF
  else
    let c := s.c n e
    if c.rd.dark || c.wr.dark then 0
    else if c.rd.busy || c.wr.busy || c.rd.req || c.wr.req || c.rd.ack || c.wr.ack then 3 else c.rd.mode.ctorIdx

/-- TETHER_STATUS of region `n`: TRIM follows the group's trim mode (R129, R145). -/
def State.tetherStatus (s : State) (n : Nat) : Nat := setBit (s.rd .TETHER_STATUS n) 5 (s.trimming n)

/-- EST_STATUS of region `n`: TIME_INVALID, OFF and CORE_OFF follow the region's time and power (R251). -/
def State.estStatus (s : State) (n : Nat) : Nat :=
  setBit (setBit (setBit (s.rd .EST_STATUS n) 7 (!(s.r n).timeValid)) 8 (!s.routerOn n)) 9 (!s.coreOn n)

/-- The lowering that a step asked for field `f` is still on its way to a rail: that of the stop of region `n`, or of the
group's step for 0xFFFF (R193). -/
def State.lowering (s : State) (n f : Nat) : Bool :=
  (s.f f).lowering == some n && (s.fieldRails f).any fun r => (s.ra r).pending.isSome

/-- GROUP_CHG_STATE: VOLT_DOWN while the lowering requests are sent (R193). -/
def State.chgState (s : State) (g : Nat) : Nat :=
  if s.rd .GROUP_CHG_STATE g = 3 ∧ (s.groupFields g).any (s.lowering 0xFFFF) = false then 0 else s.rd .GROUP_CHG_STATE g

/-- REGION_STOP_STATE: VOLT_DOWN while the lowering request is sent (R193). -/
def State.stopStateOf (s : State) (n : Nat) : Nat :=
  if s.rd .REGION_STOP_STATE n = 5 ∧ s.lowering n (fieldOf n) = false then 0 else s.rd .REGION_STOP_STATE n

/-- The cold calibration of a BLANK part is in progress (R503). -/
def State.coldCalibrating (s : State) : Bool :=
  s.rd .LC_STATE == 0 && s.isReady .rails && s.su.excludedApplied && !s.su.coldCalDone && s.rd .START_STATE == 0

/-- The value of an object as a read returns it: live values come from the state that they report. -/
def State.readVal (s : State) (o : Obj) (e i : Nat) : Nat :=
  match o with
  | .GLOBAL_TIME => s.T % 2 ^ 64
  | .TIME_STATUS => s.timeStatus
  | .AGE_POWERED_H => (s.countHours e).rd .AGE_POWERED_H e
  | .TETHER_CAUSE => s.tagWord e
  | .TETHER_STATUS => s.tetherStatus e
  | .SLIP => if s.measured e i then s.rd .SLIP e i else 0
  | .GROUP_ANCHOR => if s.clockedRegions e = [] then 0xFFFF else s.rd .GROUP_ANCHOR e
  | .GROUP_CHG_STATE => s.chgState e
  | .REGION_STOP_STATE => s.stopStateOf e
  | .MAP_CRC => s.mapCrc
  | .HOLDOVER_TIME => s.holdoverTime
  | .EST_STATUS => s.estStatus e
  | .CAP_STATUS => setBit (s.rd .CAP_STATUS) 0 s.caps.grant.isSome
  | .PR_STATUS => setBit (s.rd .PR_STATUS) 1 (s.on .PR_FREEZE)
  | .XING_MODE => s.xingMode e i
  | .FIELD_CAUSED_DROOP => sumOf ((s.fieldRegions e).map fun n => s.rd .CAUSED_DROOP n) % 2 ^ 64
  | .GROUP_COUNT => s.rd .REGION_COUNT (s.anchorOf e)
  | .GROUP_FIELDS => (s.groupFields e).length
  | .PR_CHOICE => (s.g e).choice.getD 0xFF
  | .BX_STATUS => s.bxStatus
  | .BX_ROUND => s.T / 8000000 % 2 ^ 32
  | .BX_PEER_SLACK => (Tab.get s.budget.slots i {}).slack.getD 0xFFFFFFFF
  | .OBJ_COUNT => catalogue.length
  | .CATALOGUE_CRC => s.catalogueCrc
  | .OBJ_DESC => ofEntry (fun x => s.objDesc x.1 x.2) e
  | .OBJ_NAME => ofEntry (fun x => strBytes (Obj.name x.1 x.2)) e
  | .OBJ_MIN => ofEntry (fun x => objMin x.1) e
  | .OBJ_MAX => ofEntry (fun x => objMax x.1) e
  | .OBJ_DEFAULT => ofEntry (fun x => s.objDefault x.1 x.2) e
  | .OBJ_SIZE => ofEntry (fun x => (info x.1).size) e
  | .EXPERT_REMAINING =>
    if s.on .EXPERT_UNLOCK then (s.dict.unlockUntil.map fun d => s.leftOf d 1000000).getD 0xFFFF else 0
  | .PERSIST_PENDING => min 65535 s.dict.dirty.length
  | .ALERT_ACK => 0
  | .FIELD_TEST_REMAINING => if s.on .FIELD_TEST_PERMIT then s.leftOf s.inj.permitUntil 1000000 else 0
  | .REGION_EXCLUDED => bits (s.rd .EXCLUDED_MAP) e 1
  | .START_STATE =>
    if s.coldCalibrating then 1 else s.rd .START_STATE
  | .FB_STATE => if s.fdp.standby then 0 else if s.fdp.busOff then 3 else 1
  | .FN_CREDIT => ofInt 16 s.fon.credit
  | .FN_LIFE_S => (s.fon.life0 + s.up / 1000000) % 2 ^ 32
  | .FN_WEAR => (divAt 61 (s.rd .FN_HEAD_SEQ + 1) (s.rd .FN_RING)).toNat % 2 ^ 32
  | .FN_SNAP_RECORDS => min 65535 (s.fon.chainBase + s.fon.chainDelta)
  | .LC_STATUS => setBit (setBit (s.rd .LC_STATUS) 1 s.fon.armUntil.isSome) 3 s.flash.wipePending
  | _ => s.rd o e i

/-! ### Audit (R435 to R441) -/

/-- The 32 bytes of an audit record (R436). -/
def AuditRec.bytes (r : AuditRec) : Nat :=
  r.time % 2 ^ 64 + r.seq % 2 ^ 32 * 2 ^ 64 + r.index % 2 ^ 16 * 2 ^ 96 + r.sub % 256 * 2 ^ 112 + r.cls % 8 * 2 ^ 120
    + r.element % 2 ^ 16 * 2 ^ 128 + r.requester % 2 ^ 12 * 2 ^ 144 + r.old % 2 ^ 32 * 2 ^ 160 + r.new % 2 ^ 32 * 2 ^ 192
    + r.result % 256 * 2 ^ 224 + r.flags % 256 * 2 ^ 232

/-- A record of time `at0` joins the ring (R439): slot AUDIT_NEXT, then both advance; one that replaces a record not yet summarised
is counted. -/
def State.auditAt (s : State) (at0 : Nat) (r : AuditRec) : State :=
  let slot := s.rd .AUDIT_NEXT
  let seq := s.rd .AUDIT_SEQ
  let lost := decide (s.dict.summarised + 8192 ≤ s.dict.written)
  let s1 : State := { s with dict := { s.dict with
    ring := Tab.put s.dict.ring slot { r with time := at0, seq := seq },
    written := s.dict.written + 1,
    summarised := if lost then s.dict.written + 1 - 8192 else s.dict.summarised,
    sumOver := s.dict.sumOver + lost.toNat } }
  ((s1.when lost fun t => t.inc .AUDIT_OVERWRITTEN).wr .AUDIT_NEXT ((slot + 1) % 8192)).addWrap .AUDIT_SEQ 1

/-- A record of this moment joins the ring. -/
def State.auditPut (s : State) (r : AuditRec) : State := s.auditAt s.T r

/-- The counters of an answer to a write by class (R441, R445). -/
def State.auditCount (s : State) (cls : Nat) (ok : Bool) : State :=
  let k := s.dict
  let d := if ok then { k with sumOk := Tab.set k.sumOk cls (Tab.get k.sumOk cls 0 + 1) 0 }
    else { k with sumRefused := Tab.set k.sumRefused cls (Tab.get k.sumRefused cls 0 + 1) 0 }
  let s1 := { s with dict := d }
  if ok then s1.inc .AUDIT_OK 0 cls else s1.inc .AUDIT_REFUSED 0 cls

/-- The OLD or NEW field for a value: its low 32 bits, or the CRC-32 of STR and BLOB contents (R436). -/
def auditVal (o : Option Obj) (v len : Nat) : Nat :=
  match o with
  | some x => if (info x).ty.long then crc32 v len else v % 2 ^ 32
  | none => v % 2 ^ 32

/-- The FLAGS of a record for a write of object `o`, without MERGED (R436). -/
def auditFlags (o : Option Obj) (old new : Nat) (dirty : Bool) : Nat :=
  match o with
  | some x =>
    let wide := decide (4 < (info x).size)
    let dig := (info x).ty.long
    wide.toNat + (wide && !dig && decide (old / 2 ^ 32 % 2 ^ 32 ≠ new / 2 ^ 32 % 2 ^ 32)).toNat * 2 + dig.toNat * 4
      + dirty.toNat * 16
  | none => dirty.toNat * 16

/-- A write attempt that names an address. -/
structure Attempt where
  cls : Nat := 0
  requester : Nat := 0
  index : Nat := 0xFFFF
  sub : Nat := 0xFF
  el : Nat := 0xFFFF
  obj : Option Obj := none
  len : Nat := 0
  old : Nat := 0
  new : Nat := 0
  /-- the global time of the decision, where it lies before the answer (R436) -/
  time : Option Nat := none
  deriving DecidableEq, Repr

/-- The record of a decided write attempt (R435, R436). -/
def State.auditWrite (s : State) (a : Attempt) (code : Code) (dirty : Bool) : State :=
  (s.auditCount a.cls (code == .ok)).auditAt (a.time.getD s.T)
    { index := a.index, sub := a.sub, element := a.el, cls := a.cls, requester := a.requester,
      old := auditVal a.obj a.old ((a.obj.map fun o => (info o).size).getD 0), new := auditVal a.obj a.new a.len,
      result := code.num, flags := auditFlags a.obj a.old a.new dirty }

/-- A write whose word in a queue is lost is recorded and counted as any attempt is (R435), its address not parsed (log 108);
it is answered INTERNAL (R41). -/
def State.auditLost (s : State) (src : Src) : State :=
  s.auditWrite { cls := s.classOf src, requester := Src.requester src } .internal false

/-- A refusal at check 1 or 2 of R14, counted for the merged record of its class and code (R438). -/
def State.auditRefuse (s : State) (cls : Nat) (code : Code) : State :=
  let k := 16 * cls + code.num
  let s1 := (s.auditCount cls false).inc .AUDIT_MERGED
  { s1 with dict := { s1.dict with merged := Tab.set s1.dict.merged k (Tab.get s1.dict.merged k 0 + 1) 0 } }

/-- AUDIT_MERGE (R438): one record for each class and code with refusals in the ended 1 ms. -/
def execAuditMerge (s : State) : Host.Outcome State Fault Refusal :=
  let t := s.each s.dict.merged fun (t : State) (x : Nat × Nat) => t.auditPut
    { cls := x.1 / 16, new := x.2, result := x.1 % 16, flags := 8 }
  .next { t with dict := { t.dict with merged := [] } }

/-- The 64 bytes of the audit summary (R441). -/
def State.auditSum (s : State) : Nat :=
  let d := s.dict
  let okv := (List.range 6).foldl (fun a c => a + min (2 ^ 32 - 1) (Tab.get d.sumOk c 0) * 2 ^ (32 * c)) 0
  let ref := (List.range 6).foldl (fun a c => a + min 65535 (Tab.get d.sumRefused c 0) * 2 ^ (16 * c)) 0
  d.sumFrom % 2 ^ 64 + s.T % 2 ^ 64 * 2 ^ 64 + d.sumFirst % 2 ^ 32 * 2 ^ 128
    + (s.rd .AUDIT_SEQ + 2 ^ 32 - 1) % 2 ^ 32 * 2 ^ 160 + okv * 2 ^ 192 + ref * 2 ^ 384
    + min 65535 d.sumUnlocks * 2 ^ 480 + min 65535 d.sumOver * 2 ^ 496

/-- The 64 bytes of the event summary (R531). -/
def State.eventSum (s : State) : Nat :=
  let f := s.flt
  let cats := (List.range 8).foldl (fun a c => a + min 65535 (Tab.get f.sumCats c 0) * 2 ^ (16 * c)) 0
  f.sumFrom % 2 ^ 64 + s.T % 2 ^ 64 * 2 ^ 64 + f.sumFirst % 2 ^ 32 * 2 ^ 128
    + (s.rd .EVENT_SEQ + 2 ^ 32 - 1) % 2 ^ 32 * 2 ^ 160 + cats * 2 ^ 192 + f.sumDigest % 2 ^ 64 * 2 ^ 320
    + min 65535 f.sumFaults * 2 ^ 384 + min 65535 f.sumResets * 2 ^ 400 + min 65535 f.sumInjections * 2 ^ 416
    + min 65535 f.sumOver * 2 ^ 432

/-- A new summary period begins: what has been written is summarised. -/
def State.newPeriod (s : State) : State :=
  { s with
    dict := { s.dict with
      summarised := s.dict.written, sumFrom := s.T, sumFirst := s.rd .AUDIT_SEQ, sumOk := [], sumRefused := [],
      sumUnlocks := 0, sumOver := 0, period := s.rd .AUDIT_SUMMARY_PERIOD,
      periodEnd := s.up + 60000000 * s.rd .AUDIT_SUMMARY_PERIOD },
    flt := { s.flt with
      sumFrom := s.T, sumFirst := s.rd .EVENT_SEQ, sumCats := [], sumDigest := 0, sumFaults := 0, sumResets := 0,
      sumInjections := 0, sumOver := 0 } }

end Sys2Proof.Machine
end

