-- ==== Sys2Proof/Machine/Budget.lean ====
section
/-! DEFINITION. The budget exchange unit: epochs (R321 to R325), frames (R326, R327), rounds (R328 to R332) and reception
(R333, R334). -/

set_option Elab.async false

namespace Sys2Proof.Machine
open Sys2Proof

/-- Peer slot `p` in force. -/
def State.slot (s : State) (p : Nat) : BSlot := Tab.get s.budget.slots p {}
/-- Peer slot `p` changed. -/
def State.modSlot (s : State) (p : Nat) (f : BSlot → BSlot) : State :=
  { s with budget := { s.budget with slots := Tab.set s.budget.slots p (f (s.slot p)) {} } }
/-- The slot takes part. -/
def BSlot.enabled (x : BSlot) : Bool := bit x.peer 31
/-- The slot may send directives. -/
def BSlot.coord (x : BSlot) : Bool := bit x.peer 30
/-- The peer's BX_ENGINE_ID. -/
def BSlot.engine (x : BSlot) : Nat := bits x.peer 0 12
/-- The peer slots. -/
def slots : List Nat := [0, 1, 2, 3, 4, 5, 6, 7]

/-- The grant in force for R257 follows BX_GRANT while the exchange is enabled and an epoch is installed (R325). -/
def State.syncGrant (s : State) : State :=
  let g := if s.on .BX_ENABLE && s.budget.installed then some (s.rd .BX_GRANT) else none
  if g = s.caps.grant then s else ({ s with caps := { s.caps with grant := g } }).limitsDue

/-! ### Frames (R326) -/

/-- A frame with its CRC: 60 bytes of content. -/
def sealFrame (x : Nat) : Nat := x % 2 ^ 480 + crc32 x 60 * 2 ^ 480

/-- Bytes 0 to 23 of a frame toward slot `p`. -/
def State.frameHead (s : State) (p type flags : Nat) : Nat :=
  0xB7 + 1 * 2 ^ 8 + type * 2 ^ 16 + flags * 2 ^ 24 + s.budget.pool % 2 ^ 32 * 2 ^ 32 + s.rd .BX_EPOCH % 2 ^ 16 * 2 ^ 64
    + s.budget.engine % 2 ^ 12 * 2 ^ 80 + (s.slot p).engine * 2 ^ 96 + (s.slot p).outSeq % 2 ^ 32 * 2 ^ 128
    + s.budget.round % 2 ^ 32 * 2 ^ 160

/-- The flags of R332: FROZEN, PASSIVE, NO_SLACK. -/
def State.bxFlags (s : State) : Nat := s.frozen.toNat + 2 * s.fixedRate.toNat + 4 * s.budget.noSlack.toNat

/-- A frame is queued toward slot `p`; SEQ advances for it (R327).  With no BX_ENGINE_ID no frame is sent (R338). -/
def State.queueFrame (s : State) (p content : Nat) (isRound : Bool) (credit : Nat) : State :=
  s.when (s.budget.engine != 0) fun s =>
    let x : BFrame := { slot := p, frame := sealFrame content, isRound := isRound, credit := credit }
    let t := s.modSlot p fun y => { y with outSeq := (y.outSeq + 1) % 2 ^ 32 }
    { t with budget := { t.budget with tx := t.budget.tx ++ [x] } }

/-- The ROUND frame toward slot `p` with a credit. -/
def State.sendRound (s : State) (p slack credit : Nat) : State :=
  let fl := s.bxFlags
  let g := s.rd .BX_GRANT
  let head := if fl = 0 then s.rd .BX_GRANT_MAX - g else 0
  s.queueFrame p (s.frameHead p 1 fl + slack * 2 ^ 192 + g * 2 ^ 224 + head * 2 ^ 256 + credit * 2 ^ 288) true credit

/-! ### Rounds (R328 to R332) -/

/-- The frames queued at the last boundary: those the network interface did not take are discarded with their credit
(R331), the others have been sent. `stalled` has the bit of each slot whose frames were not taken. -/
def State.drainFrames (s : State) (stalled : Nat) : State :=
  let kept := s.budget.tx.filter fun x => bit stalled x.slot && !x.isRound
  let t := s.each s.budget.tx fun u x =>
    if bit stalled x.slot then u.when x.isRound fun w => w.addWrap .BX_LOST_TX x.credit else u.inc .BX_TX_FRAMES
  { t with budget := { t.budget with tx := kept } }

/-- Order 1: the credits of the ended round, clamped to BX_GRANT_MAX (R334). -/
def State.applyCredits (s : State) : State :=
  let g := s.rd .BX_GRANT
  let g1 := min (g + s.budget.credit) (s.rd .BX_GRANT_MAX)
  let t := ((s.wr .BX_GRANT g1).addWrap .BX_CREDIT_IN (g1 - g)).addWrap .BX_LOST_CLAMP (g + s.budget.credit - g1)
  { t with budget := { t.budget with credit := 0 } }

/-- The pool, the engine number and the peer slots written since the last boundary take effect (R338): a slot that was
rewritten has its record cleared. -/
def State.adoptPeers (s : State) : State :=
  let t : State := { s with budget := { s.budget with pool := s.rd .BX_POOL_ID, engine := s.rd .BX_ENGINE_ID, rewritten := [] } }
  t.each (slots.filter fun p => s.budget.rewritten.contains p || (s.slot p).peer != s.rd .BX_PEER 0 p) fun u p =>
    u.modSlot p fun y => { peer := u.rd .BX_PEER 0 p, outSeq := y.outSeq }

/-- Order 2: a staged epoch is installed (R321, R324). -/
def State.installEpoch (s : State) : State :=
  match s.budget.staged with
  | none => s
  | some (ep, gr) =>
    let t := ((s.wr .BX_EPOCH ep).wr .BX_GRANT gr).inc .BX_EPOCH_LOADS
    let b : Bx := { t.budget with
      staged := t.budget.waiting, waiting := none, installed := true, grant0 := gr, installAt := t.up,
      expired := false, late := false }
    ({ t with budget := b }).each slots fun u p => u.modSlot p fun y => { peer := y.peer }

/-- Order 3: the slack of the ended round, none where it brought no report (R329). -/
def State.roundSlack (s : State) : State :=
  let has := s.budget.any && s.isReady .sync
  let t := s.when has fun u => u.wr .BX_SLACK (min 1000000 (2 * u.budget.sum))
  { t with budget := { t.budget with sum := 0, any := false, noSlack := !has } }

/-- The peer that waited least, of those whose latest frame may be used (R330): ties go to the lower slot. -/
def State.bestPeer (s : State) : Option (Nat × Nat) :=
  let ps := slots.filterMap fun p =>
    let x := s.slot p
    if x.enabled && x.flags == 0 && decide (s.budget.round ≤ x.round + 2) then x.slack.map fun v => (p, v) else none
  ps.foldl (fun (b : Option (Nat × Nat)) x => match b with
    | none => some x
    | some y => if x.2 < y.2 then some x else some y) none

/-- The transfer of R330: how much, and toward which slot. -/
def State.transfer (s : State) : Nat × Option Nat :=
  if s.passive || !s.on .BX_ENABLE || !s.budget.installed then (0, none)
  else match s.bestPeer with
    | none => (0, none)
    | some (p, v) =>
      let d : Int := (s.rd .BX_SLACK : Int) - v
      let full := s.rd .BX_SLACK_FULL
      let g := s.rd .BX_GRANT
      if d ≤ s.rd .BX_SLACK_HYST then (0, some p)
      else
        let t := (divAt 62 ((g : Int) * s.rd .BX_STEP * min d full) (10000 * full)).toNat
        (min (min t (g - s.rd .BX_GRANT_MIN)) (s.slot p).headroom, some p)

/-- Order 5: one ROUND frame for each enabled slot, while the exchange runs. -/
def State.sendRounds (s : State) (credit : Nat) (best : Option Nat) : State :=
  if s.on .BX_ENABLE && s.budget.installed && !s.budget.expired && s.budget.engine != 0 then
    let slack := if s.budget.noSlack then 0 else s.rd .BX_SLACK
    s.each (slots.filter fun p => (s.slot p).enabled) fun t p => t.sendRound p slack (if best = some p then credit else 0)
  else s

/-- A round boundary (R328): the work of R328 in its order; a round whose unit was reset is skipped (R337), and its slack reports
with it (R329). -/
def State.roundBoundary (s : State) (stalled : Nat) : State :=
  let r := s.T / 8000000
  let s0 := s.drainFrames stalled
  let s1 : State := { s0 with budget := { s0.budget with round := r, due := false } }
  if s1.budget.skip then { s1 with budget := { s1.budget with skip := false, sum := 0, any := false } }
  else
    let s2 := s1.applyCredits.adoptPeers.installEpoch.roundSlack
    let x := s2.transfer
    let s3 := (s2.wr .BX_GRANT (s2.rd .BX_GRANT - x.1)).addWrap .BX_CREDIT_OUT x.1
    (s3.sendRounds x.1 x.2).syncGrant

/-- BX_ROUND_BOUNDARY (R328): global time has entered a new round; during a controller short stop the boundary waits. -/
def execBxRoundBoundary (stalled : Nat) (s : State) : Host.Outcome State Fault Refusal :=
  .next (s.when (s.isReady .budget && s.T / 8000000 != s.budget.round) fun t =>
    if t.refs.shortStop then { t with budget := { t.budget with due := true, stalled := stalled } } else t.roundBoundary stalled)

/-- A round boundary that fell into a controller short stop is processed at its end (R328), with the frames that had not been taken
when it fell (R331). -/
def State.dueRound (s : State) : State := s.when s.budget.due fun t => t.roundBoundary t.budget.stalled

/-! ### Epochs (R321 to R324) -/

/-- A load accepted (R321): staged, or waiting behind the staged one. -/
def State.stageLoad (s : State) (v : Nat) : State :=
  let x := (bits v 0 16, bits v 32 32)
  let b : Bx := { s.budget with lastLoad := some x.1 }
  let t := s.wr .BX_EPOCH_LOAD v
  if b.staged.isSome then { t with budget := { b with waiting := some x } }
  else { t with budget := { b with staged := some x } }

/-- A third load is refused (R321). -/
def State.loadBusy (s : State) : Bool := s.budget.staged.isSome && s.budget.waiting.isSome

/-- BX_EPOCH_EXPIRED (R323): BX_EPOCH_TIMEOUT without an install. -/
def execBxEpochExpired (s : State) : Host.Outcome State Fault Refusal :=
  .next (s.when (s.budget.installed && !s.budget.expired
      && decide (s.budget.installAt + 1000 * s.rd .BX_EPOCH_TIMEOUT ≤ s.up)) fun t =>
    let u : State := { t with budget := { t.budget with expired := true } }
    (((u.wr .BX_GRANT (min (u.rd .BX_GRANT) u.budget.grant0)).inc .BX_EPOCH_EXPIRIES).event 0x51 0xFFFF (t.rd .BX_EPOCH)).syncGrant)

/-- EPOCH_LATE (R324): 1.5 × BX_EPOCH_PERIOD without an install. -/
def execEpochLate (s : State) : Host.Outcome State Fault Refusal :=
  .next (s.when (s.budget.installed && decide (s.budget.installAt + 1500 * s.rd .BX_EPOCH_PERIOD ≤ s.up)) fun t =>
    { t with budget := { t.budget with late := true } })

/-! ### Reception (R333, R334) -/

/-- A field of a frame. -/
def frameAt (x off len : Nat) : Nat := bytesAt x off len

/-- The reserved bytes and bits of a frame are 0, by its type (R326). -/
def frameReserved (x : Nat) : Bool :=
  let t := frameAt x 2 1
  bits x 27 5 == 0 && bits x 92 4 == 0 && bits x 108 4 == 0 && frameAt x 14 2 == 0
    && (if t = 1 then frameAt x 40 20 == 0 else frameAt x 30 2 == 0 && frameAt x 44 16 == 0)

/-- Check 2 of R333. -/
def frameOk2 (x : Nat) : Bool :=
  let t := frameAt x 2 1
  frameAt x 0 1 == 0xB7 && frameAt x 1 1 == 1 && (t == 1 || t == 2 || t == 3)
    && frameAt x 60 4 == crc32 (x % 2 ^ 480) 60 && frameReserved x

/-- A SEQ is new for a slot (check 7 of R333). -/
def seqNew (last : Option Nat) (seq : Nat) : Bool :=
  match last with
  | none => true
  | some l => decide (1 ≤ (seq + 2 ^ 32 - l) % 2 ^ 32 ∧ (seq + 2 ^ 32 - l) % 2 ^ 32 < 2 ^ 31)

/-- The first check of R333 that a frame from slot `p` fails, 0 when it passes all. -/
def State.frameCheck (s : State) (p beats : Nat) (err : Bool) (x : Nat) : Nat :=
  let t := frameAt x 2 1
  let k := s.slot p
  if beats ≠ 8 ∨ err = true ∨ s.isReady .budget = false then 1
  else if !frameOk2 x then 2
  else if !s.on .BX_ENABLE then 3
  else if frameAt x 4 4 ≠ s.budget.pool then 4
  else if !k.enabled ∨ bits x 80 12 ≠ k.engine ∨ bits x 96 12 ≠ s.budget.engine then 5
  else if t = 1 ∧ (frameAt x 8 2 ≠ s.rd .BX_EPOCH ∨ s.budget.expired ∨ !s.budget.installed) then 6
  else if !seqNew k.lastSeq (frameAt x 16 4) then 7
  else if t = 1 ∧ frameAt x 28 4 + frameAt x 36 4 < 50 * frameAt x 36 4 then 8
  else 0

/-- A received frame is checked: dropped and counted, or accepted; whether it was accepted (R333). -/
def State.receive (s : State) (p beats : Nat) (err : Bool) (x : Nat) : Bool × State :=
  let k := s.frameCheck p beats err x
  if k = 0 then (true, (s.inc .BX_RX_ACCEPTED).modSlot p fun y => { y with lastSeq := some (frameAt x 16 4) })
  else (false, (s.wr .BX_RX_DROP_LAST k).inc .BX_RX 0 (k - 1))

/-- An accepted ROUND frame of slot `p` (R332, R334): its record, and its credit, lost in a passive round. -/
def State.takeRound (s : State) (p x : Nat) : State :=
  let t := s.modSlot p fun y => { y with
    slack := some (frameAt x 24 4), headroom := frameAt x 32 4, flags := frameAt x 3 1, round := s.budget.round }
  let c := frameAt x 36 4
  if t.passive then t.addWrap .BX_LOST_PASSIVE c else { t with budget := { t.budget with credit := t.budget.credit + c } }

/-- A slack report of `ns` is summed: while the unit is not ready, into the round of global time in progress (R329). -/
def Bx.slackIn (b : Bx) (ready : Bool) (r ns : Nat) : Bx :=
  if !ready && b.sumRound != r then { b with sum := ns % 2 ^ 32, any := true, sumRound := r }
  else { b with sum := b.sum + ns % 2 ^ 32, any := true }

/-- A slack report of `ns` reaches CTL (R404): summed into the round, or dropped before the port is ready. -/
def State.slackReport (s : State) (ns : Nat) : State :=
  if s.isReady .sync then
    let t := s.inc .SY_SLACK_REPORTS
    { t with budget := t.budget.slackIn (t.isReady .budget) (t.T / 8000000) ns }
  else s.inc .SY_SLACK_DROPS

/-- SLACK_REPORT (R404), which a short stop of CTL holds (R407). -/
def execSlackReport (ns : Nat) (s : State) : Host.Outcome State Fault Refusal :=
  .next (if s.refs.shortStop then s.syHold (.slack ns) else s.slackReport ns)

/-- BUDGET_OPEN (R499): step 12.  Of the slack reports those of the round in progress count (R329). -/
def execBudgetOpen (s : State) : Host.Outcome State Fault Refusal :=
  .next (s.when (s.seqRuns && s.isReady .dict && s.rd .LC_STATE == 2 && s.groups.any fun g => s.groupFields g != []) fun t =>
    let r := t.T / 8000000
    let b := t.budget
    (({ t with budget := if b.sumRound = r then { b with round := r } else { b with round := r, sum := 0, any := false } }).setReady
      .budget true))

end Sys2Proof.Machine
end

