-- ==== Sys2Proof/Machine/Fondant.lean ====
section
/-! DEFINITION. Fondant: records and their sizes (R471, R476), commits (R477), mount and restore (R478, R481, R420),
repair, relocation and wipe (R479, R480, R489), the write budget (R483, R484), snapshots (R485) and the life cycle (R487,
R488, R490). -/

set_option Elab.async false

namespace Sys2Proof.Machine
open Sys2Proof

/-! ### Objects and records -/

/-- The object, element and subindex offset of a key. -/
def objOfKey (k : Nat) : Option (Obj × Nat × Nat) :=
  let p := Nat.unpair k
  let q := Nat.unpair p.2
  (allObjs.find? fun o => o.ctorIdx == p.1).map fun o => (o, q.2, q.1)

/-- The record type that carries an object (R471). -/
def recType (o : Obj) : Nat :=
  if o = .LC_STATE ∨ o = .LC_HISTORY then 1
  else if o = .CAL_CURVE ∨ o = .EST_WEIGHT_FACTORY ∨ o = .LEAK_TABLE ∨ o = .VSCALE ∨ o = .EST_VREF_CODE ∨ o = .EST_SHIFT
    ∨ o = .LEAK_SHARE ∨ o = .AGE_RATIO_FACTORY ∨ o = .GUARANTEED_N then 2
  else if o = .DS_LINE_TRIM ∨ o = .DS_THRESH then 3
  else 4

/-- The record type of an item. -/
def Item.type (x : Item) : Nat :=
  match x.kind with
  | 0 => ((objOfKey x.key).map fun o => recType o.1).getD 4
  | 1 => 3
  | 2 | 3 => 5
  | 4 => 6
  | _ => 7

/-- The payload bytes of an item (R476). -/
def Item.size (x : Item) : Nat :=
  match x.kind with
  | 0 => 8 + (if x.val.isNone then 0 else x.len.getD (((objOfKey x.key).map fun o => (info o.1).size).getD 0))
  | 1 => 4 + 6 * (x.val.getD 0 % 256)
  | 2 => 12
  | 3 => 8
  | 4 => 64
  | _ => 4

/-- Bytes of a payload before its items, and the most items a record holds. -/
def payloadRoom (type : Nat) : Nat := if type = 5 then 4056 else if type = 7 ∨ type = 8 then 4056 else 4060

/-- Items packed into payloads in order: an item never spans two records (R476). -/
def packItems (room : Nat) : List Item → Nat → List Item → List (List Item)
  | [], _, acc => if acc = [] then [] else [acc.reverse]
  | x :: xs, used, acc =>
    if acc ≠ [] ∧ room < used + x.size then acc.reverse :: packItems room xs x.size [x]
    else packItems room xs (used + x.size) (x :: acc)

/-- The records of some items of one type. -/
def recsOf (type : Nat) (items : List Item) : List JRec :=
  (packItems (payloadRoom type) items 0 []).map fun l => { type := type, items := l }

/-- The item of an object's key: its value, or DEFAULT. -/
def State.itemOf (s : State) (k : Nat) : Item :=
  match objOfKey k with
  | some (o, e, i) =>
    let v := s.readVal o e i
    { key := k, val := if v = s.dflt o e i then none else some v }
  | none => { key := k }

/-- The extract entry of region `n` (R482): points, and for each point its voltage, seed and permitted code at N = 160. -/
def State.extractOf (s : State) (n : Nat) : Nat :=
  let pts := clampNat 2 8 (s.rdBytes .CAL_CURVE n 1 1)
  let cv := s.rd .CAL_CURVE n
  let tc := toInt 16 (curve16 cv 2)
  let g0 := s.wr .GUARD_BASE 200
  (List.range pts).foldl (fun a p =>
    let g := s.seg n (vcode cv p) tc
    let pm := g0.permitMax n g
    let c := (clampInt 0 pm (g.seedBase 160 + roundOffset (s.rdInt .CAL_OFFSET n))).toNat
    a + (vcode cv p + c * 2 ^ 16 + pm * 2 ^ 32) * 2 ^ (8 + 48 * p)) pts

/-- The curve of region `n` is one of the cold calibration, which is never committed (R504). -/
def State.isProvisional (s : State) (n : Nat) : Bool := s.su.coldCalDone && !s.fon.written.contains (objKey .CAL_CURVE n 0)

/-- The items of a set of keys, with the extract of each region whose curve or guard is among them. -/
def State.itemsOf (s : State) (ks : List Nat) : List Item :=
  let ext := (s.regions.filter fun n => (ks.contains (objKey .CAL_CURVE n 0) || ks.contains (objKey .AGE_GUARD n 0))
    && !s.isProvisional n).map fun n => ({ kind := 1, key := n, val := some (s.extractOf n) } : Item)
  ks.map s.itemOf ++ ext

/-- The key is of a CAL_OFFSET. -/
def offsetKey (k : Nat) : Bool := (Nat.unpair k).1 == Obj.CAL_OFFSET.ctorIdx

/-- The CAL_OFFSETs of a commit in one record (R85), however many regions there are: with R476's 8-byte heads those of more than
406 regions would not fit, and R85's 1600 bytes for 800 regions leave no room for heads (log 82). -/
def State.offsetRec (s : State) (ks : List Nat) : List JRec :=
  if ks.any offsetKey then [{ type := 4, items := (ks.filter offsetKey).map s.itemOf }] else []

/-- The records of a commit of objects: EXCLUDED_MAP alone in the first (R501), then CAL, START and STATE, the CAL_OFFSETs in a
record of their own (R85). -/
def State.objRecs (s : State) (ks : List Nat) : List JRec :=
  let ex := objKey .EXCLUDED_MAP 0 0
  let its := s.itemsOf (ks.filter fun k => k != ex && !offsetKey k)
  (if ks.contains ex then recsOf 4 [s.itemOf ex] else [])
    ++ s.offsetRec ks
    ++ recsOf 2 (its.filter fun x => x.type == 2) ++ recsOf 3 (its.filter fun x => x.type == 3)
    ++ recsOf 4 (its.filter fun x => x.type == 4)

/-! ### The store -/

/-- Device `d` (0 A, 1 B) is in service. -/
def State.devOk (s : State) (d : Nat) : Bool := !s.flag .FN_STATUS (5 + d)
/-- The store takes commits: mounted, not foreign, a device in service. -/
def State.storeUp (s : State) : Bool :=
  s.flag .FN_STATUS 0 && !s.flag .FN_STATUS 8 && !s.flag .FN_STATUS 9 && (s.devOk 0 || s.devOk 1)

/-- A record can be read from some device in service. -/
def State.readable (s : State) (r : JRec) : Bool := (r.goodA && s.devOk 0) || (r.goodB && s.devOk 1)

/-- A record is wiped: its type was, up to a SEQ no older (R489). -/
def State.wipedRec (s : State) (r : JRec) : Bool := r.type == 9 || s.flash.wiped.any fun w => w.1 == r.type && decide (r.seq ≤ w.2)

/-- The records that restore reads, oldest first. -/
def State.usable (s : State) : List JRec := s.flash.journal.filter fun r => s.readable r && !s.wipedRec r

/-- The newest items of the store by kind and key, with the SEQ of their record. -/
def State.newest (s : State) : Tab (Nat × Option Nat) :=
  s.usable.foldl (fun t r => r.items.foldl (fun u x => Tab.put u (Nat.pair x.kind x.key) (r.seq, x.val)) t) []

/-- The value that the store holds for an object's key, as its newest item. -/
def State.stored (s : State) (k : Nat) : Option (Nat × Option Nat) :=
  (s.newest.find? fun x => x.1 == Nat.pair 0 k).map (·.2)

/-- The Praline chain: the newest base and the deltas after it. -/
def State.chain (s : State) : List JRec :=
  let l := s.usable.filter fun r => r.type == 5
  match (l.filter fun r => r.base && r.part == 0).getLast? with
  | some b => l.filter fun r => decide (b.seq ≤ r.seq)
  | none => []

/-- The first SEQ of the newest commit that holds a record of a type. -/
def State.newestOf (s : State) (type : Nat) : Option Nat := ((s.usable.filter fun r => r.type == type).getLast?).map fun r => r.seq - r.part

/-- The live records (R480). -/
def State.liveRecs (s : State) : List JRec :=
  let nw := s.newest
  let ch := s.chain.map (·.seq)
  s.usable.filter fun r =>
    if r.type = 1 ∨ r.type = 7 then some (r.seq - r.part) == s.newestOf r.type
    else if r.type = 5 then ch.contains r.seq
    else if r.type = 2 ∨ r.type = 3 ∨ r.type = 4 then
      r.items.any fun x => (nw.find? fun y => y.1 == Nat.pair x.kind x.key).any fun y => y.2.1 == r.seq
    else false

/-- Persistent values that the block has changed since they were stored (R429). -/
def State.changedKeys (s : State) : List Nat :=
  let nw := s.newest
  let ks := (s.objs.map (·.1)) ++ (nw.filterMap fun y => if (Nat.unpair y.1).1 = 0 then some (Nat.unpair y.1).2 else none)
  (ks.filter fun k => match objOfKey k with
    | some (o, e, i) => s.persists o && recType o != 1 && recType o != 2 && recType o != 3
        && (((nw.find? fun y => y.1 == Nat.pair 0 k).map (·.2.2)).getD none).getD (s.dflt o e i) != s.readVal o e i
    | none => false).dedup

/-! ### Asking for commits (R428, R471, R483) -/

/-- A commit is asked for; one of the same purpose that waits already covers it. -/
def State.ask (s : State) (w : Why) : State :=
  if s.fon.due.any fun x => x.1 == w then s else { s with fon := { s.fon with due := s.fon.due ++ [(w, false)] } }

/-- The keys of a daily commit (R486): stress bins, learned offsets and hour counters. -/
def State.dailyKeys (s : State) : List Nat :=
  (s.fields.map fun f => objKey .STRESS_BINS f 0) ++ (s.regions.map fun n => objKey .CAL_OFFSET n 0)
    ++ s.regions.map fun n => objKey .AGE_POWERED_H n 0

/-- The entries of the Praline tables that a snapshot carries: all nonzero ones, or those changed since the last. -/
def tabDiff (now old : Tab Nat) : List (Nat × Nat) :=
  (now.filter fun x => Tab.get old x.1 0 != x.2) ++ ((old.filter fun x => Tab.get now x.1 0 == 0).map fun x => (x.1, 0))

/-- The group tables as one table by 4096 × group + tag. -/
def State.groupWords (s : State) : Tab Nat :=
  s.groups.flatMap fun g => (List.range 4096).filterMap fun t =>
    let w := s.rdBytes .PR_GROUP_TABLE g (4 * t) 4
    if w = 0 then none else some (4096 * g + t, w)

/-- The records of a Praline snapshot, base or delta (R485, R476). -/
def State.snapRecs (s : State) (base : Bool) : List JRec :=
  let ph := tabDiff s.phase (if base then [] else s.fon.snapPhase)
  let gr := tabDiff s.groupWords (if base then [] else s.fon.snapGroups)
  let mk (k : Nat) (l : List (Nat × Nat)) : List Item := l.map fun x => { kind := k, key := x.1, val := some x.2 }
  let rs := (recsOf 5 (mk 2 ph) ++ recsOf 5 (mk 3 gr)).map fun r => { r with base := base }
  if rs = [] then [{ type := 5, base := base }] else rs

/-- The form of the next snapshot: a base, or a delta (R485). -/
def State.snapBase (s : State) : Bool :=
  s.fon.forceBase || s.fon.chainBase == 0 || decide (s.fon.chainBase < 2 * (s.fon.chainDelta + (s.snapRecs false).length))

/-- The SEQ of the next record: records are numbered from 1 (DESIGN CHOICE, log 27). -/
def State.nextSeq (s : State) : Nat := s.rd .FN_HEAD_SEQ + 1

/-- LC_HISTORY with a transition to `t` put in front (R493). -/
def State.historyWith (s : State) (t : Nat) : Nat :=
  let e := (s.fon.life0 + s.up / 1000000) % 2 ^ 32 + s.nextSeq % 2 ^ 32 * 2 ^ 32 + s.rd .LC_STATE * 2 ^ 64 + t * 2 ^ 72
  e + s.rd .LC_HISTORY * 2 ^ 128 % 2 ^ 4096

/-- Tenant objects that entering RETURNED returns to their defaults (R339, R344, R487). -/
def tenantObjs : List Obj := [.REGION_PARTITION, .MB_OWNER, .MB_SEM]

/-- The keys of the tenant objects. -/
def State.tenantKeys (s : State) : List Nat :=
  (s.regions.map fun n => objKey .REGION_PARTITION n 0) ++ (List.range (s.rd .NUM_MAILBOXES)).flatMap fun m => [objKey .MB_OWNER m 0, objKey .MB_SEM m 0]

/-- The objects that a commit of one purpose carries: every dirty one, the objects of the day with a daily commit, and with a flush
every value that the block has changed (R428, R429, R486). -/
def State.commitKeys (s : State) (w : Why) : List Nat :=
  match w with
  | .daily => (s.dict.dirty ++ s.dailyKeys).dedup
  | .objects => (s.dict.dirty ++ if s.fon.flush then s.changedKeys else []).dedup
  | _ => s.dict.dirty

/-- The records that a commit of one purpose carries of its own. -/
def State.ownRecs (s : State) (w : Why) : List JRec :=
  match w with
  | .objects | .daily => []
  | .snapshot => s.snapRecs s.snapBase
  | .summaries => recsOf 6 (s.fon.summaries.map fun x => { kind := 4, key := x.event.toNat, val := some x.data })
  | .transition =>
    match s.fon.target with
    | some t =>
      { type := 1, items := [{ key := objKey .LC_STATE 0 0, val := some t }, { key := objKey .LC_HISTORY 0 0, val := some (s.historyWith t) }] }
        :: (if t = 3 then recsOf 4 (s.tenantKeys.map fun k => { key := k }) else [])
    | none => []
  | .directory => recsOf 7 (s.liveRecs.map fun r => { kind := 5, key := r.seq, val := some r.seq })
  | .note => (recsOf 7 (s.fon.notes.map fun q => { kind := 5, key := q, val := some q })).map fun r => { r with type := 8 }
  | .relocate q =>
    match s.liveRecs.find? fun r => r.seq == q with
    | some r =>
      let nw := s.newest
      [{ type := r.type, flags := 4, items := r.items.filter fun x =>
          (nw.find? fun y => y.1 == Nat.pair x.kind x.key).any fun y => y.2.1 == q }]
    | none => []

/-- The class of a commit (R471): 0 where a record of class 0 is among them, and for a Praline base that replaces a chain which R480
would relocate. -/
def State.classOfCommit (s : State) (w : Why) : Nat :=
  match w with
  | .objects | .daily => if s.dict.urgent || (s.dict.dirty.any fun k => match objOfKey k with
      | some (o, _, _) => recType o == 2 || recType o == 3
      | none => false) then 0 else 1
  | .snapshot => if s.fon.rebase then 0 else 2
  | .summaries => 3
  | _ => 0

/-- A commit carries every dirty object: one of objects, of the day or of class 0 (R428, R483). -/
def State.takesDirty (s : State) (w : Why) : Bool := decide (s.classOfCommit w < 2)

/-- The records of a commit: its own, and every dirty object with one that carries them. -/
def State.commitRecs (s : State) (w : Why) : List JRec :=
  let own := s.ownRecs w
  if s.takesDirty w then own ++ s.objRecs (s.commitKeys w) else own

/-- The least credit left by a commit of a class, none for class 0 (R483). -/
def creditFloor (c : Nat) : Option Int := if c = 0 then none else if c = 1 then some 0 else if c = 2 then some 256 else some 512

/-- A commit of `n` records in class `c` may be written. -/
def State.affords (s : State) (c n : Nat) : Bool :=
  match creditFloor c with
  | none => true
  | some f => decide (f ≤ s.fon.credit - n)

/-- The objects of a commit that waits for credit stay dirty, and merge into the commit of objects that is written in the end
(R428, R430, R484). -/
def State.mergeWait (s : State) (w : Why) : State :=
  let ks := s.commitKeys w
  let due := s.fon.due.filter fun x => x.1 != w && x.1 != .objects
  { s with dict := { s.dict with dirty := ks }, fon := { s.fon with due := due ++ [(.objects, true)] } }

/-- A commit that waits for credit is counted once (R484). -/
def State.countWait (s : State) (w : Why) : State :=
  match w with
  | .objects | .daily => ((s.mergeWait w).inc .PERSIST_DEFERRED).setFlag .FN_STATUS 10 true
  | .snapshot => s.inc .FN_SNAP_DEFERRALS
  | .summaries => s.setFlag .FN_STATUS 11 true
  | _ => s

/-- LIFE_S of the last of some records. -/
def lifeOf (rs : List JRec) : Nat := ((rs.getLast?).map (·.life)).getD 0

/-- The records numbered and headed as one commit (R475). -/
def State.headRecs (s : State) (rs : List JRec) : List JRec :=
  let q := s.nextSeq
  let fl := (!s.devOk 0).toNat + 2 * (!s.devOk 1).toNat
  (List.range rs.length).filterMap fun i => rs[i]?.map fun r => { r with
    seq := q + i, time := s.T, life := s.fon.life0 + s.up / 1000000, part := i, parts := rs.length,
    flags := r.flags + fl, lc := s.rd .LC_STATE, credit := s.fon.credit - rs.length }

/-- The injection of point 7 that damages the next record on device `d`: whether the retry too (R536). -/
def State.injRecord (s : State) (d : Nat) : Option Bool :=
  (s.injAt 7).bind fun x => if bits x.arg 0 1 = d then some (bit x.arg 1) else none

/-- A commit has nothing to write: it is complete at once. -/
def State.emptyCommit (s : State) (w : Why) : State :=
  let s1 : State := { s with fon := { s.fon with due := s.fon.due.filter fun x => x.1 != w } }
  if w = .objects then
    (({ s1 with
      dict := { s1.dict with dirty := [], commitAt := none, urgent := false }
      fon := { s1.fon with flush := false } }).wr .PERSIST_FLUSH 0)
  else s1

/-- A commit begins with its records (R428, R477): the objects it carries are no longer dirty. -/
def State.beginCommit (s : State) (w : Why) (rs : List JRec) : State :=
  let takes := s.takesDirty w
  let c : Commit :=
    { recs := s.headRecs rs, why := w, cls := s.classOfCommit w, dev := if s.devOk 0 then 0 else 1,
      flush := s.fon.flush && w == .objects, at0 := s.ctlUs }
  let s1 : State := { s with fon := { s.fon with
    due := s.fon.due.filter fun x => x.1 != w, cur := some c, flush := s.fon.flush && w != .objects,
    notes := if w == .note then [] else s.fon.notes,
    summaries := if w == .summaries then [] else s.fon.summaries } }
  let s2 := if takes then { s1 with dict := { s1.dict with dirty := [], commitAt := none, urgent := false } } else s1
  let s3 := if w == .snapshot then { s2 with fon := { s2.fon with snapPhase := s2.phase, snapGroups := s2.groupWords } } else s2
  ((s3.when takes fun t => t.setFlag .FN_STATUS 10 false).when (w == .summaries) fun t => t.setFlag .FN_STATUS 11 false)

/-- The commit of purpose `w` begins, is complete with nothing to write, or waits for credit. -/
def State.tryCommit (s : State) (w : Why) : State :=
  let rs := s.commitRecs w
  if rs = [] then s.emptyCommit w
  else if s.affords (s.classOfCommit w) rs.length then s.beginCommit w rs
  else if s.fon.due.any fun x => x.1 == w && !x.2 then
    ({ s with fon := { s.fon with due := s.fon.due.map fun (x : Why × Bool) => if x.1 == w then (w, true) else x } }).countWait w
  else s

/-- The record to relocate next (R480): live, and near the head or over a year old; a Praline chain once it is loaded. -/
def State.relocatable (s : State) : Option JRec :=
  s.liveRecs.find? fun r =>
    decide (s.flash.ring ≤ s.rd .FN_HEAD_SEQ - r.seq + 2048 ∨ r.life + 31536000 < s.fon.life0 + s.up / 1000000)
      && (r.type != 5 || s.flag .FN_STATUS 4)

/-- The commit that copies a live record forward (R480): of the record itself, a new base for a Praline chain, a new directory for a
directory. -/
def JRec.relocation (r : JRec) : Why := if r.type = 5 then .snapshot else if r.type = 7 then .directory else .relocate r.seq

/-- The commit that relocates the next such record is asked for. -/
def State.askRelocate (s : State) : State :=
  match s.relocatable with
  | some r =>
    let f : Fon := { s.fon with rebase := s.fon.rebase || r.type == 5, forceBase := s.fon.forceBase || r.type == 5 }
    ({ s with fon := f }).ask r.relocation
  | none => s

/-- The order in which the commits asked for are tried: a NOTE follows at once (R477), a relocation comes before the next commit
(R480), then class 0, then the others (R492); no snapshot of tables that are not loaded (R481). -/
def State.dueOrder (s : State) : List Why :=
  let ws := (s.fon.due.map (·.1)).filter fun w => w != Why.snapshot || s.flag .FN_STATUS 4
  let rel := (s.relocatable.map JRec.relocation).toList
  (.note :: rel).filter (ws.contains ·) ++ (ws.filter fun w => s.classOfCommit w == 0) ++ ws.filter fun w => s.classOfCommit w != 0

/-- The next commit begins, when none is in flight and no transition of the life cycle waits for its effect (R477, R480, R487,
R492). -/
def State.startDue (s : State) : State :=
  if !s.storeUp || s.fon.transDone || s.fon.due == [] then s
  else s.askRelocate.each s.askRelocate.dueOrder fun t w =>
    if t.fon.cur.isSome || !(t.fon.due.any fun x => x.1 == w) then t else t.tryCommit w

/-- A commit is asked for, and begins at once where Fondant is free. -/
def State.askNow (s : State) (w : Why) : State := (s.ask w).startDue

/-! ### Devices (R473, R477) -/

/-- Device `d` is out of service. -/
def State.failDevice (s : State) (d : Nat) (injected : Bool) : State :=
  (((s.setFlag .FN_STATUS (5 + d) true).wr (if d = 0 then .FN_DEV_A_SECTORS else .FN_DEV_B_SECTORS) 0).setFlag .FN_STATUS 7 false).event
    0x40 0xFFFF d injected

/-- A copy has failed verification twice (R477, R537). -/
def State.badCopy (s : State) (d seq : Nat) (injected : Bool) : State :=
  let s1 := s.when (d == 1) fun t => { t with fon := { t.fon with notes := t.fon.notes ++ [seq] } }
  if injected then s1
  else
    let s2 := s1.inc .FN_BAD_COPIES
    let k := (if d = 0 then s2.fon.badA else s2.fon.badB) + 1
    let s3 : State := if d = 0 then { s2 with fon := { s2.fon with badA := k } } else { s2 with fon := { s2.fon with badB := k } }
    s3.when (k == 8) fun t => t.failDevice d false

/-- Device `d` has verified a copy: its run of failures is over. -/
def State.goodCopy (s : State) (d : Nat) : State :=
  if d = 0 then { s with fon := { s.fon with badA := 0 } } else { s with fon := { s.fon with badB := 0 } }

/-- The record in progress marked with its copy on device `d`. -/
def Commit.mark (c : Commit) (d : Nat) (ok : Bool) : Commit :=
  { c with recs := c.recs.map fun r =>
    if r.part = c.pos then (if d = 0 then { r with goodA := ok } else { r with goodB := ok }) else r }

/-- Entering a life-cycle state wipes types of records (R487). -/
def wipesOf (t : Nat) : List Nat := if t = 2 ∨ t = 3 then [5, 6] else []

/-- Records are written at their positions of the ring, over those that lay there (R474). -/
def Flash.put (x : Flash) (rs : List JRec) : Flash :=
  { x with journal := (x.journal.filter fun r => !rs.any fun y => y.seq % x.ring == r.seq % x.ring) ++ rs }

/-- The records of a wiped kind that are no newer than the transition's count for no restore any more, and their physical removal is
pending (R489). -/
def Flash.wipe (x : Flash) (t head : Nat) : Flash :=
  { x with wiped := x.wiped ++ (wipesOf t).map (fun k => (k, head)), wipePending := x.wipePending || wipesOf t != [] }

/-- The counts of a commit that is complete: head, credit, directory (R471, R475, R483); a flush asked for while it was written starts
the next at once (R442). -/
def State.commitDone (s : State) (c : Commit) : State :=
  let n := c.recs.length
  let s1 : State := { s with
    flash := s.flash.put c.recs
    fon := { s.fon with
      cur := none, credit := s.fon.credit - n, sinceDir := if c.why = .directory then 0 else s.fon.sinceDir + 1 } }
  let s2 := (s1.wr .FN_HEAD_SEQ (s.rd .FN_HEAD_SEQ + n)).inc .PERSIST_COMMITS
  let s3 := s2.when (s2.fon.notes != []) fun t => t.ask .note
  let s4 := s3.when (decide (64 ≤ s3.fon.sinceDir)) fun t => t.ask .directory
  match c.why with
  | .objects => if c.flush && s4.fon.flush then s4.startDue else s4.when c.flush fun t => t.wr .PERSIST_FLUSH 0
  | .snapshot =>
    let base := c.recs.any (·.base)
    let f : Fon := { s4.fon with
      chainBase := if base then n else s4.fon.chainBase
      chainDelta := if base then 0 else s4.fon.chainDelta + n
      forceBase := if base then false else s4.fon.forceBase
      rebase := if base then false else s4.fon.rebase }
    (({ s4 with fon := f }).wr .FN_SNAP_REQ 0).wr .FN_SNAP_LAST (lifeOf c.recs)
  | .transition =>
    let u : State := { s4 with
      flash := s4.flash.wipe (s4.fon.target.getD 0) (s4.rd .FN_HEAD_SEQ)
      fon := { s4.fon with transDone := true } }
    u.ask .directory
  | .relocate _ => s4.ask .directory
  | _ => s4

/-- A device that failed during a commit is recorded in FLAGS of every record that is written later (R477). -/
def State.noteFailed (s : State) (c : Commit) : Commit :=
  { c with recs := c.recs.map fun r =>
    if r.goodA then r else { r with flags := setBit (setBit r.flags 0 (!s.devOk 0)) 1 (!s.devOk 1) } }

/-- Device `d`'s part goes on: the next record, the other device, or the end (R477). -/
def State.nextRecord (s : State) (c : Commit) : State :=
  let put (c : Commit) : State := { s with fon := { s.fon with cur := some { c with at0 := s.ctlUs } } }
  if c.pos + 1 < c.recs.length ∧ s.devOk c.dev = true then put { c with pos := c.pos + 1, retry := false }
  else if c.dev = 0 ∧ s.devOk 1 = true then put { c with dev := 1, pos := 0, retry := false }
  else if s.devOk 0 = true ∨ s.devOk 1 = true then s.commitDone c
  else { s with fon := { s.fon with cur := none } }

/-- The commit in progress is abandoned, and it is due again (R40, R492). -/
def State.resetFondant (s : State) : State :=
  match s.fon.cur with
  | none => s
  | some c =>
    let its := c.recs.flatMap (·.items)
    let keys := (its.filterMap fun x => if x.kind = 0 then some x.key else none).filter fun k => !s.dict.dirty.contains k
    let seqs := its.filterMap fun x => if x.kind = 5 ∧ c.why = .note then some x.key else none
    let sums : List Summ := its.filterMap fun x => if x.kind = 4 then some { event := x.key == 1, data := x.val.getD 0 } else none
    let f : Fon := { s.fon with
      cur := none
      flush := s.fon.flush || c.flush
      notes := s.fon.notes ++ seqs
      summaries := sums ++ s.fon.summaries
      forceBase := s.fon.forceBase || c.why == .snapshot }
    let d : Dict := { s.dict with
      dirty := s.dict.dirty ++ keys
      commitAt := if keys = [] then s.dict.commitAt else some (s.dict.commitAt.getD s.up)
      urgent := s.dict.urgent || (c.cls == 0 && c.why == .objects) }
    ({ s with fon := f, dict := d }).ask c.why

/-- One record's erase, program and verify has ended (R477). -/
def State.recordDone (s : State) (c : Commit) (ok : Bool) : State :=
  let d := c.dev
  let inj := s.injRecord d
  let hurt := inj.isSome && (!c.retry || inj == some true)
  let good := ok && !hurt
  let seq := ((c.recs.find? fun r => r.part == c.pos).map (·.seq)).getD 0
  if good then
    let s1 := s.when (inj.isSome && c.retry) fun t => t.endInjection 1
    (s1.goodCopy d).nextRecord (c.mark d true)
  else if !c.retry then { s with fon := { s.fon with cur := some { c with retry := true, injected := hurt, at0 := s.ctlUs } } }
  else
    let s1 := s.when inj.isSome fun t => t.endInjection 1
    let s2 := s1.badCopy d seq (hurt && c.injected)
    s2.nextRecord (s2.noteFailed (c.mark d false))

/-- FONDANT_RECORD_DONE (R477): the record leaves through Fondant's buffer, and an uncorrectable word there abandons the commit,
which is rebuilt (R492, R545). -/
def execFondantRecordDone (ok : Bool) (s : State) : Host.Outcome State Fault Refusal :=
  match s.fon.cur with
  | some c =>
    let p := s.readFlips (fun x => x.isIn .fondant 0 0 512) fun t _ => t.sramLost .fondant 3 0
    .next (if p.1 then p.2.resetFondant else p.2.recordDone c ok)
  | none => .next s

/-- FONDANT_COMMIT (R477): a commit that was asked for begins. -/
def execFondantCommit (s : State) : Host.Outcome State Fault Refusal := .next (s.when s.fon.cur.isNone State.startDue)

/-- PERSIST_COMMIT (R428): 1 s after the first object became dirty. -/
def execPersistCommit (s : State) : Host.Outcome State Fault Refusal :=
  .next (s.when (s.dict.dirty != [] && decide (s.dict.commitAt.getD 0 ≤ s.up)) fun t => t.askNow .objects)

/-- DAILY_COMMIT (R486): every 24 powered hours. -/
def execDailyCommit (s : State) : Host.Outcome State Fault Refusal :=
  let day := (s.fon.life0 + s.up / 1000000) / 86400
  .next (s.when (s.storeUp && day != s.fon.day) fun t => ({ t with fon := { t.fon with day := day } }).askNow .daily)

/-- FONDANT_CREDIT (R483): 337.5 s of powered time have passed. -/
def execFondantCredit (s : State) : Host.Outcome State Fault Refusal :=
  .next (s.when (s.storeUp && decide (s.fon.creditAt ≤ s.up)) fun t =>
    let f : Fon := { t.fon with credit := min 2048 (t.fon.credit + 1), creditAt := t.fon.creditAt + 337500000 }
    ({ t with fon := f }).startDue)

/-- PRALINE_SNAPSHOT (R485): FN_SNAP_INTERVAL of powered time since the last. -/
def execPralineSnapshot (s : State) : Host.Outcome State Fault Refusal :=
  .next (s.when (s.storeUp && s.flag .FN_STATUS 4
      && decide (s.rd .FN_SNAP_LAST + 3600 * s.rd .FN_SNAP_INTERVAL ≤ s.fon.life0 + s.up / 1000000)) fun t => t.askNow .snapshot)

/-- FONDANT_RELOCATE (R480): the oldest such record is copied forward; a Praline chain gets a new base, a directory a new
directory. -/
def execFondantRelocate (s : State) : Host.Outcome State Fault Refusal := .next (s.when s.storeUp fun t => t.askRelocate.startDue)

/-! ### Summaries (R441, R484, R531) -/

/-- Two summaries of one kind merged (R484): fields from the older one, fields of the newer one, sums that saturate. -/
def mergeSumm (a b : Summ) : Summ :=
  let sat (w lo : Nat) : Nat := satAdd w (bits a.data lo w) (bits b.data lo w) * 2 ^ lo
  let frame := bits a.data 0 64 + bits b.data 64 64 * 2 ^ 64 + bits a.data 128 32 * 2 ^ 128 + bits b.data 160 32 * 2 ^ 160
  let body :=
    if a.event then
      sumOf ((List.range 8).map fun i => sat 16 (192 + 16 * i))
        + (if bits a.data 320 64 = 0 then bits b.data 320 64 else bits a.data 320 64) * 2 ^ 320
        + sumOf ((List.range 4).map fun i => sat 16 (384 + 16 * i))
    else
      sumOf ((List.range 6).map fun i => sat 32 (192 + 32 * i)) + sumOf ((List.range 6).map fun i => sat 16 (384 + 16 * i))
        + sat 16 480 + sat 16 496
  { a with data := frame + body }

/-- A summary is handed to Fondant: it joins those that wait, merged with one of its kind that waits for credit. -/
def State.handSummary (s : State) (x : Summ) : State :=
  let waits := s.fon.due.any fun y => y.1 == Why.summaries && y.2
  match s.fon.summaries.find? fun y => y.event == x.event && waits with
  | some y =>
    (({ s with fon := { s.fon with summaries := s.fon.summaries.map fun z => if z = y then mergeSumm y x else z } }).inc
      .FN_THINNED).setFlag .FN_STATUS 11 true
  | none => { s with fon := { s.fon with summaries := s.fon.summaries ++ [x] } }

/-- The audit and event summaries of the period are handed over, and a new period begins (R441, R531); the block's own
changes of persistent values go with them, but for those whose chapters state when (R85, R429, R486). -/
def State.summarise (s : State) : State :=
  let s1 := (s.handSummary { data := s.auditSum }).handSummary { event := true, data := s.eventSum }
  let s2 := (s1.inc .AUDIT_SUMMARIES).newPeriod
  let ks := s2.changedKeys.filter fun k => !s2.dict.dirty.contains k && !s2.dailyKeys.contains k
  let s3 : State := { s2 with dict := { s2.dict with dirty := s2.dict.dirty ++ ks } }
  (s3.ask .summaries).when (s3.dict.dirty != []) fun t => t.ask .objects

/-- AUDIT_SUMMARY (R441): AUDIT_SUMMARY_PERIOD has ended. -/
def execAuditSummary (s : State) : Host.Outcome State Fault Refusal :=
  .next (s.when (s.isReady .dict && decide (s.dict.periodEnd ≤ s.up)) fun t => t.summarise.startDue)

/-! ### Mount and restore (R478, R481, R490) -/

/-- What discovery found on device `d` (R473, R490). -/
def State.discover (s : State) (d : Nat) (x : FlashDev) : State :=
  let fl := s.flash
  let lose (a : Bool) (r : JRec) : JRec := if a then { r with goodA := false } else { r with goodB := false }
  let sup (old : Nat) : Nat := match x.swapped with
    | none => old
    | some false => 0
    | some true => 2
  let j := if x.swapped.isSome then fl.journal.map (lose (d == 0)) else fl.journal
  let f1 : Flash := if d = 0 then { fl with sectorsA := x.sectors, superA := sup fl.superA, journal := j }
    else { fl with sectorsB := x.sectors, superB := sup fl.superB, journal := j }
  let s1 := ({ s with flash := f1 }).wr (if d = 0 then .FN_DEV_A_SECTORS else .FN_DEV_B_SECTORS) x.sectors
  s1.when (decide (x.sectors < 32768)) fun t => t.failDevice d false

/-- Both devices formatted (R490): an empty ring, credit 2048. -/
def State.formatBoth (s : State) : State :=
  let m := if !s.devOk 0 then s.flash.sectorsB else if !s.devOk 1 then s.flash.sectorsA else min s.flash.sectorsA s.flash.sectorsB
  let f : Flash := { s.flash with
    superA := if s.devOk 0 then 1 else s.flash.superA, superB := if s.devOk 1 then 1 else s.flash.superB,
    ring := m - 16, journal := [], wiped := [], wipePending := false }
  ({ s with flash := f, fon := { s.fon with credit := 2048, life0 := 0 } }).wr .FN_HEAD_SEQ 0

/-- The SUPER records compared with the block (R490). -/
def State.compareSuper (s : State) : State :=
  let a := if s.devOk 0 then some s.flash.superA else none
  let b := if s.devOk 1 then some s.flash.superB else none
  let l := [a, b].filterMap id
  if l.all (· == 0) then s.formatBoth
  else if l.contains 1 then
    if l.all (· == 1) then s
    else
      let f : Flash := { s.flash with superA := if a.isSome then 1 else s.flash.superA, superB := if b.isSome then 1 else s.flash.superB }
      ({ s with flash := f }).setFlag .FN_STATUS 7 true
  else ((s.setFlag .FN_STATUS 8 true).setFlag .FN_STATUS 9 true).event 0x41 0xFFFF 0

/-- A commit is complete: its last record is valid on B, or valid on A in a record whose B_FAILED is set (R478). -/
def State.complete (s : State) (j : List JRec) (r : JRec) : Bool :=
  j.any fun x => x.seq - x.part == r.seq - r.part && x.part + 1 == x.parts
    && ((x.goodB && s.devOk 1) || (x.goodA && s.devOk 0 && bit x.flags 1))

/-- The newest commit is dropped until one is complete: journal left and rollbacks (R478); `fuel` bounds the number of
commits. -/
def State.findHead (s : State) : Nat → List JRec → Nat → List JRec × Nat
  | 0, j, k => (j, k)
  | fuel + 1, j, k =>
    match j.getLast? with
    | none => (j, k)
    | some r => if s.complete j r then (j, k) else s.findHead fuel (j.filter fun x => decide (x.seq < r.seq - r.part)) (k + 1)

/-- The values that the store gives for a choice of objects: key and newest item. -/
def State.restorable (s : State) (sel : Obj → Bool) : List (Nat × Option Nat) :=
  s.newest.filterMap fun y =>
    let p := Nat.unpair y.1
    if p.1 = 0 ∧ ((objOfKey p.2).map fun o => sel o.1).getD false = true then some (p.2, y.2.2) else none

/-- A counter that only the block writes: what it has counted since the reset is kept at its restore (R498). -/
def addsOnRestore (o : Obj) : Bool :=
  (info o).dflt == .const 0 && !(info o).ty.long && !(info o).ty.signed && !writable (info o).rights && (info o).ty != .bool
    && (info o).ty != .enum8

/-- The length that the store gives the newest item of an object's key, where it is not the object's size. -/
def State.storedLen (s : State) (k : Nat) : Option Nat :=
  (((s.usable.flatMap (·.items)).filter fun x => x.kind == 0 && x.key == k).getLast?).bind (·.len)

/-- Every value of the store in force: what the conditions between objects are held to at a restore, whatever the order of its
items (log 105). -/
def State.restoredView (s : State) : State :=
  s.each (s.restorable fun _ => true) fun t x => match objOfKey x.1 with
    | some (o, e, i) => t.wr o (x.2.getD (s.dflt o e i)) e i
    | none => t

/-- An item of the restore that fails check `c`: it is audited, and counted for the restore record (R420, R437). -/
def State.restoreFail (s : State) (a : Option Obj) (e i v : Nat) (c : Code) : State :=
  let x : Attempt :=
    { cls := 5, index := (a.map fun y => (info y).index).getD 0xFFFF, sub := (a.map fun y => (info y).sub + i).getD 0xFF, el := e,
      obj := a, len := (a.map fun y => (info y).size).getD 0, old := (a.map fun y => s.readVal y e i).getD 0, new := v }
  let u := s.auditWrite x c false
  { u with dict := { u.dict with restoreFailed := u.dict.restoreFailed + 1 } }

/-- An item of the restore has been applied (R437, R445). -/
def State.restoreOne (s : State) : State :=
  let u := s.auditCount 5 true
  { u with dict := { u.dict with restored := u.dict.restored + 1 } }

/-- The first check of R420 that a restored value of `len` bytes fails, but for check 10. -/
def State.restoreCheck (s : State) (o : Obj) (e : Nat) (len : Option Nat) : Option Code :=
  if !s.elemExists o e then some .noObject
  else if !s.persists o then some .denied
  else if len.getD (info o).size ≠ (info o).size then some .badType
  else none

/-- The value of an object that a restore leaves: a counter goes on from what it has counted since the reset (R498); REPORT_EPOCH
wraps (R344). -/
def State.restoredVal (s : State) (o : Obj) (e i v : Nat) : Nat :=
  if o = .REPORT_EPOCH then s.rd o e i + v else if addsOnRestore o then satAdd (objBits o) (s.rd o e i) v else v

/-- One item restored as a class P write (R420): applied, or audited with the check that failed.  `view` holds the values that the
restore gives all objects. -/
def State.restoreItem (s view : State) (k : Nat) (v : Option Nat) : State :=
  match objOfKey k with
  | none => s.restoreFail none 0 0 (v.getD 0) .noObject
  | some (o, e, i) =>
    let x := v.getD (s.dflt o e i)
    match s.restoreCheck o e (if v.isNone then none else view.storedLen k) with
    | some c => s.restoreFail (some o) e i x c
    | none =>
      if !view.rangeOk o e i x false then s.restoreFail (some o) e i x .range
      else ((s.wr o (s.restoredVal o e i x) e i).when (o == .DS_QUARANTINE && x != 0) fun t => t.setDs e 3 true).restoreOne

/-- A stage of the restore: every stored object of the stage (R481). -/
def State.restoreStage (s : State) (sel : Obj → Bool) : State :=
  let view := s.restoredView
  s.each (s.restorable sel) fun t x => t.restoreItem view x.1 x.2

/-- The values that the head record gives: head, credit, LIFE_S; and the chain of snapshots (R478, R483). -/
def State.adoptHead (s : State) : State :=
  match s.flash.journal.getLast? with
  | none => s
  | some r =>
    let f : Fon := { s.fon with credit := min 2048 r.credit, life0 := r.life, day := r.life / 86400 }
    ({ s with fon := f }).wr .FN_HEAD_SEQ r.seq

/-- The life-cycle state and its history as the newest LIFECYCLE record has them: LC_STATE is no Persistent object, and the record
is no item of the restore (R420, R487, R493). -/
def State.readLifecycle (s : State) : State :=
  let val (o : Obj) : Nat := ((s.stored (objKey o 0 0)).bind (·.2)).getD (s.rd o)
  (s.wr .LC_STATE (val .LC_STATE)).wr .LC_HISTORY (val .LC_HISTORY)

/-- The records that the mount and the load read (R478): those that the newest directory names, and every one after it. -/
def State.readRecs (s : State) : List JRec :=
  match s.newestOf 7 with
  | none => s.flash.journal
  | some q =>
    let names := ((s.usable.filter fun r => r.type == 7 && r.seq - r.part == q).flatMap (·.items)).map (·.key)
    s.flash.journal.filter fun r => names.contains r.seq || decide (q ≤ r.seq)

/-- The head is found, lost parts are counted, the copies to rewrite are noted, the life-cycle state is read (R478, R479).  A
replacement device gets its copies from the resilver alone (R490). -/
def State.mountStore (s : State) : State :=
  let h := s.findHead s.flash.journal.length s.flash.journal 0
  let s1 := ({ s with flash := { s.flash with journal := h.1 } }).add .FN_ROLLBACKS h.2
  let rs := s1.readRecs
  let lost := (rs.filter fun r => !s1.readable r).length
  let bad := if s1.flag .FN_STATUS 7 then [] else (rs.filter fun r => r.goodA != r.goodB).map (·.seq)
  let s2 : State := { s1 with fon := { s1.fon with repair := bad } }
  ((s2.add .FN_LOST_PARTS lost).adoptHead).readLifecycle

/-- FONDANT_MOUNT (R473, R478, R490, R499): once CTL runs; the sync port opens. -/
def execFondantMount (a b : FlashDev) (s : State) : Host.Outcome State Fault Refusal :=
  .next (s.when (s.seqRuns && s.isReady .ctl && !s.fon.mountEnded) fun t =>
    let t1 := (t.discover 0 a).discover 1 b
    let t2 := if t1.devOk 0 || t1.devOk 1 then t1.compareSuper else t1
    let up := (t2.devOk 0 || t2.devOk 1) && !t2.flag .FN_STATUS 8
    let t3 := if up then t2.mountStore.setFlag .FN_STATUS 0 true else t2
    let t4 := (t3.wr .FN_RING t3.flash.ring)
    ((({ t4 with fon := { t4.fon with mountEnded := true, mountLate := t.up - 1000 } }).setReady .fondant up).setReady .sync true))

/-- The records of some SEQ values that have one valid copy have both: the other is erased and programmed again (R479, R490). -/
def Flash.rewrite (x : Flash) (qs : List Nat) : Flash :=
  { x with journal := x.journal.map fun (r : JRec) =>
      if (qs.contains r.seq && (r.goodA || r.goodB)) = true then { r with goodA := true, goodB := true } else r }

/-- FONDANT_REPAIR (R479, R490): every copy that the mount found invalid while the other was valid is rewritten; a replacement device
gets a copy of every live record, and its resilver ends. -/
def execFondantRepair (s : State) : Host.Outcome State Fault Refusal :=
  .next (s.when (s.storeUp && s.devOk 0 && s.devOk 1) fun t =>
    if t.flag .FN_STATUS 7 then ({ t with flash := t.flash.rewrite ((State.liveRecs t).map JRec.seq) }).setFlag .FN_STATUS 7 false
    else
      let bad := (t.flash.journal.filter fun r => t.fon.repair.contains r.seq && r.goodA != r.goodB).length
      ({ t with flash := t.flash.rewrite t.fon.repair, fon := { t.fon with repair := [] } }).add .FN_REPAIRS bad)

/-- A format asked for on a foreign store (R490). -/
def State.acceptFormat (s : State) : State :=
  s.when (s.flag .FN_STATUS 8) fun t =>
    ((((t.formatBoth.setFlag .FN_STATUS 8 false).setFlag .FN_STATUS 9 false).setFlag .FN_STATUS 0 true).wr .FN_RING
      t.formatBoth.flash.ring).setReady .fondant true

/-! ### The stages of the load (R481, R501) -/

/-- The START stage: trims, thresholds and the extract; the curves follow it (R482). -/
def State.loadStart (s : State) : State :=
  let s1 := s.restoreStage fun o => recType o == 3
  let ext := s1.newest.filterMap fun y => let p := Nat.unpair y.1; if p.1 = 1 then y.2.2.map fun v => (p.2, v) else none
  let s2 := (s1.restoreStage fun o => o == .CAL_CURVE).setFlag .FN_STATUS 1 true
  { s2 with fon := { s2.fon with extract := ext } }

/-- EXCLUDED_MAP_APPLY (R501): the newest EXCLUDED_MAP is applied, and the START stage loads. -/
def execExcludedMapApply (s : State) : Host.Outcome State Fault Refusal :=
  .next (s.when (s.seqRuns && s.fon.mountEnded && !s.su.excludedApplied) fun t =>
    let u := t.restoreStage fun o => o == .EXCLUDED_MAP
    let v := u.each (u.regions.filter fun n => bit (u.rd .EXCLUDED_MAP) n) fun w n =>
      (w.wr .REGION_EXCLUDE_CAUSE 4 n).wr .REGION_EXCLUDED_ACTIVE 1 n
    ({ v with su := { v.su with excludedApplied := true } }).loadStart)

/-- The rail limits of the store are in order: RAIL_VMIN is not above RAIL_VMAX where it holds both (R383, R414). -/
def State.railPairOk (s : State) (r : Nat) : Bool :=
  match (s.stored (objKey .RAIL_VMIN r 0)).bind (·.2), (s.stored (objKey .RAIL_VMAX r 0)).bind (·.2) with
  | some lo, some hi => decide (lo ≤ hi)
  | _, _ => true

/-- A rail limit of the store that passes its checks, before or after the rail was rated: clamped into the rating (R377, R517,
R544). -/
def State.restoreLimit (s : State) (o : Obj) (r v : Nat) : State :=
  if (s.ra r).rated then
    if o = .RAIL_IMAX then s.clampRating o r v 0 (s.rd .RAIL_IRATING r)
    else s.clampRating o r v (s.ra r).rateLo (s.ra r).rateHi
  else s.modRa r fun y => { y with stored := Tab.put y.stored (if o = .RAIL_IMAX then 0 else if o = .RAIL_VMIN then 1 else 2) v }

/-- The rail limits restored (R420): one of an ABSENT rail answers RANGE, for no rating exists to hold it (R544). -/
def State.restoreRails (s : State) : State :=
  let vals := s.restorable fun o => o == .RAIL_IMAX || o == .RAIL_VMIN || o == .RAIL_VMAX
  s.each vals fun t x => match objOfKey x.1, x.2 with
    | some (o, r, i), some v =>
      match t.restoreCheck o r (s.storedLen x.1) with
      | some c => t.restoreFail (some o) r i v c
      | none =>
        let absent := t.isReady .rails && t.rd .RAIL_STATE r == 0
        if absent || !typeOk o v || (o != .RAIL_IMAX && !s.railPairOk r) then t.restoreFail (some o) r i v .range
        else (t.restoreLimit o r v).restoreOne
    | some _, none => t.restoreOne
    | none, _ => t

/-- The reset counters are kept through a warm reset and not restored (R498). -/
def keptWarm (o : Obj) : Bool := o == .WARM_RESETS || o == .COLD_RESETS

/-- The STATE stage; a preferred reference that is valid is selected with it (R207). -/
def State.loadState (s : State) : State :=
  let rail (o : Obj) : Bool := o == .RAIL_IMAX || o == .RAIL_VMIN || o == .RAIL_VMAX
  let s1 := s.restoreStage fun o => recType o == 4 && o != .EXCLUDED_MAP && !rail o && !(s.su.warm && keptWarm o)
  let s2 := s1.restoreRails
  let s3 : State := { s2 with dict := { s2.dict with
    period := s2.rd .AUDIT_SUMMARY_PERIOD, periodEnd := 60000000 * s2.rd .AUDIT_SUMMARY_PERIOD } }
  s3.prefer.limitsDue.setFlag .FN_STATUS 2 true

/-- MAILBOX_OPEN (R499): step 8, when the STATE stage ends: the Mailbox Unit opens and the field bus is joined where CTL runs
from a reference (R460). -/
def execMailboxOpen (s : State) : Host.Outcome State Fault Refusal :=
  .next (s.when (s.seqRuns && s.su.excludedApplied && !s.isReady .mailbox) fun t =>
    let u := t.loadState.setReady .mailbox true
    let v : State := { u with fdp := { u.fdp with
      addr := u.rd .FB_NODE_ADDR, nomRate := u.rd .FB_NOM_RATE, dataRate := u.rd .FB_DATA_RATE } }
    if v.refs.holdSince.isNone && v.selected != 0 then
      ({ v with fdp := { v.fdp with standby := false } }).setReady .fbOn true
    else v)

/-- DICT_OPEN (R420, R437, R499): the estimator's objects are loaded, the restore record is written, and DICT sets. -/
def execDictOpen (s : State) : Host.Outcome State Fault Refusal :=
  .next (s.when (s.seqRuns && s.isReady .rails && s.flag .FN_STATUS 2 && !s.isReady .dict) fun t =>
    let u := t.restoreStage fun o => recType o == 2 && o != .CAL_CURVE
    let v := u.each u.regions fun w n => (w.factoryWeights n).modE n fun x => { x with shift := none }
    let r : AuditRec := { cls := 5, new := v.dict.restored, old := v.dict.restoreFailed }
    ((v.auditPut r).setFlag .FN_STATUS 3 true).setReady .dict true)

/-- One item of a Praline record loaded: an entry of the phase table or of a group table (R315, R485). -/
def State.loadEntry (s : State) (x : Item) : State :=
  let v := x.val.getD 0
  if x.kind = 2 then { s with phase := Tab.set s.phase x.key v 0 }
  else if x.kind = 3 then s.wrBytes .PR_GROUP_TABLE (x.key / 4096) (4 * (x.key % 4096)) 4 v
  else s

/-- The chain is loaded: its base and then its deltas; the counts of its records follow, and when its last snapshot was taken
(R485, R494). -/
def State.loadChain (s : State) : State :=
  let ch := s.chain
  let t := s.each ch fun u r => u.each r.items State.loadEntry
  let f : Fon := { t.fon with
    snapPhase := t.phase
    snapGroups := t.groupWords
    chainBase := (ch.filter (·.base)).length
    chainDelta := (ch.filter fun r => !r.base).length
    forceBase := ch == [] }
  (({ t with fon := f }).wr .FN_SNAP_LAST (lifeOf ch)).setFlag .FN_STATUS 4 true

/-- PRALINE_OPEN (R315, R499): step 14, after CAL_LOADED: the chain is loaded, and Praline opens. -/
def execPralineOpen (s : State) : Host.Outcome State Fault Refusal :=
  .next (s.when (s.seqRuns && s.flag .FN_STATUS 3 && !s.isReady .praline) fun t => t.loadChain.setReady .praline true)

/-! ### Life cycle (R487 to R489) -/

/-- The factory objects that BLANK → CALIBRATED asks for. -/
def State.factoryKeys (s : State) : List Nat :=
  s.regions.flatMap (fun n => [objKey .CAL_CURVE n 0, objKey .EST_WEIGHT_FACTORY n 0, objKey .EST_SHIFT n 0, objKey .LEAK_SHARE n 0,
    objKey .AGE_RATIO_FACTORY n 0, objKey .DS_LINE_TRIM n 0] ++ (List.range 8).map fun i => objKey .DS_THRESH n i)
    ++ (s.fields.map fun f => objKey .LEAK_TABLE f 0) ++ [objKey .VSCALE 0 0, objKey .EST_VREF_CODE 0 0, objKey .GUARANTEED_N 0 0]

/-- Every factory object has been written since BLANK. -/
def State.calibrated (s : State) : Bool :=
  let nw := s.newest
  s.factoryKeys.all fun k => s.fon.written.contains k || nw.any fun y => y.1 == Nat.pair 0 k

/-- The transitions of R487. -/
def lcReachable (a b : Nat) : Bool := (a == 0 && b == 1) || (a == 1 && b == 2) || (a == 2 && b == 3) || (a == 3 && b == 1)

/-- A transition accepted (R488). -/
def State.acceptTransition (s : State) (t : Nat) : State :=
  let s1 := ((s.wr .LC_REQUEST t).setFlag .LC_STATUS 2 true).wr .LC_ARM 0
  ({ s1 with fon := { s1.fon with target := some t, armUntil := none } }).askNow .transition

/-- LC_ARM accepted (R488). -/
def State.acceptArm (s : State) : State :=
  ({ s with fon := { s.fon with armUntil := some (s.up + 10000000) } }).wr .LC_ARM 1

/-- LC_ARM_EXPIRY (R488): 10 s after arming. -/
def execLcArmExpiry (s : State) : Host.Outcome State Fault Refusal :=
  match s.fon.armUntil with
  | some d => .next (s.when (decide (d ≤ s.up)) fun t => ({ t with fon := { t.fon with armUntil := none } }).wr .LC_ARM 0)
  | none => .next s

/-- The audit ring and every summary clear (R440, R487). -/
def State.clearAudit (s : State) : State :=
  let s1 : State := { s with
    dict := { s.dict with
      ring := [], merged := [], sumOk := [], sumRefused := [], sumUnlocks := 0, sumOver := 0,
      summarised := 0, written := 0 }
    fon := { s.fon with summaries := [] } }
  s1

/-- Every value of an object returns to its default. -/
def State.resetObj (s : State) (o : Obj) : State :=
  { s with objs := s.objs.filter fun x => (Nat.unpair x.1).1 != o.ctorIdx }

/-- The objects of the reporting chapter that entering RETURNED clears (R344): counters, snapshot and episodes. -/
def reportObjs : List Obj :=
  allObjs.filter fun o => decide (0x3400 ≤ (info o).index ∧ (info o).index ≤ 0x34FF) && o != .REPORT_EPOCH && o != .EPISODE_MIN
    && o != .EPISODE_GAP

/-- The objects of the budget chapter that entering RETURNED clears (R339): pool, peer slots and counters. -/
def budgetObjs : List Obj := .BX_POOL_ID :: .BX_PEER :: allObjs.filter fun o => (info o).index == 0x3303

/-- Tenant data is cleared (R339, R344, R487): the pool and the peers in force, charges, runs and open episodes with the objects. -/
def State.clearTenant (s : State) : State :=
  let s1 := s.each (reportObjs ++ budgetObjs ++ [.MB_OWNER, .MB_SEM]) fun t o => t.resetObj o
  let s2 := s1.each (s1.groups ++ [0xFF]) fun t g => t.modG g fun x => { x with ep := none, run := {} }
  { s2 with
    energy := {}
    budget := { s2.budget with pool := 0, slots := [], rewritten := [] } }

/-- LC_TRANSITION (R487 to R489): the transition's commit is complete: the state changes, and the live copies are cleared. -/
def execLcTransition (s : State) : Host.Outcome State Fault Refusal :=
  match s.fon.target with
  | some t => .next (s.when s.fon.transDone fun u =>
      let hist := ((u.stored (objKey .LC_HISTORY 0 0)).bind (·.2)).getD (u.rd .LC_HISTORY)
      let v := ((u.wr .LC_STATE t).wr .LC_HISTORY hist).setFlag .LC_STATUS 2 false
      let f : Fon := { v.fon with target := none, transDone := false }
      let w : State := { v with fon := f }
      let x := if t = 2 ∨ t = 3 then
          let y := w.clearAudit.clearPraline
          { y with
            fon := { y.fon with
              forceBase := true, chainBase := 0, chainDelta := 0, snapPhase := [], snapGroups := [],
              due := y.fon.due.filter fun z => z.1 != Why.snapshot && z.1 != Why.summaries } }
        else w
      ((x.when (t == 3) State.clearTenant).when (t != 2) fun y => y.setReady .budget false).startDue)
  | none => .next s

/-- FONDANT_WIPE (R489): FILL records replace every record of a wiped type, each keeping its SEQ. -/
def execFondantWipe (s : State) : Host.Outcome State Fault Refusal :=
  .next (s.when (s.storeUp && s.flash.wipePending) fun t =>
    let fill (r : JRec) : JRec := if t.wipedRec r then { r with type := 9, items := [], goodA := true, goodB := true } else r
    { t with flash := { t.flash with journal := t.flash.journal.map fill, wipePending := false } })

end Sys2Proof.Machine
end

