-- ==== Sys2Proof/Machine/ArmBase.lean ====
section
/-! DEFINITION. The halt of every group, the first steps of an arm, strikes and exclusions, and the moment the block becomes
ready (R499, R509 to R514, R523, R524). -/

set_option Elab.async false

namespace Sys2Proof.Machine
open Sys2Proof

/-! ### Strikes and exclusions (R513) -/

/-- Region `n` is marked for exclusion with a cause; the commit of class 0 is due at once (R471, R513). -/
def State.markExcluded (s : State) (n cause : Nat) : State :=
  s.when (s.present n && !bit (s.rd .EXCLUDED_MAP) n) fun t =>
    ((t.setFlag .EXCLUDED_MAP n true).wr .REGION_EXCLUDE_CAUSE cause n).dirtyNow .EXCLUDED_MAP

/-- A START_FAIL marks its region (R513). -/
def State.markStart (s : State) (r : FReport) : State :=
  s.when (r.cls == FaultClass.startFail.code && !r.injected) fun t => t.markExcluded r.element 1

/-- The strike of a digest or a repeat (R513, R537). -/
def State.strike (s : State) (r : FReport) : State :=
  let hit := [FaultClass.slipFault, .crossPtr, .alignFail].any fun k => k.code == r.cls
  s.when (hit && !r.injected && s.present r.element) fun t =>
    let u := t.inc .REGION_STRIKES r.element
    u.when (decide (u.rd .EXCLUDE_STRIKES ≤ u.rd .REGION_STRIKES r.element)) fun v => v.markExcluded r.element 2

/-- A report that is not latched (R524). -/
def State.laterFault (s : State) (r : FReport) : State :=
  ((s.inc .FAULT_LATER_COUNT).event 0x02 r.element (bits r.digest 48 16) r.injected).markStart r

/-- Every report on its way is a later fault: the latch is kept or the moment has passed. -/
def State.drainReports (s : State) : State :=
  let rs := s.flt.reports
  ({ s with flt := { s.flt with reports := [], line := false, lineAt := none } } : State).each rs State.laterFault

/-! ### The halt (R158, R288, R509) -/

/-- A cell between two clocked regions at the halt: a resync in progress has ended at its target, its lost words counted, and
both halves hold REQ and have seen ACK (R155 to R158). -/
def Cell.halt (k : Cell) : Cell :=
  let m := if k.idle then k.rd.mode else k.target
  let h (x : Half) : Half := { x with mode := m, req := true, ack := true, busy := true }
  let k1 := ((if k.idle then k else k.eachLane XLane.recount).quiet true).quiet false
  { k1 with rd := h k.rd, wr := h k.wr, target := m, waiting := none }

/-- The inbound cells of the regions present, as (region, edge). -/
def State.cells (s : State) : List (Nat × Nat) :=
  s.regions.flatMap fun n => (edges.filter fun e => (s.neighbour n e).isSome).map fun e => (n, e)

/-- Every cell between clocked regions halts. -/
def State.haltCells (s : State) : State :=
  s.each (s.cells.filter fun x => s.cellClocked x.1 x.2) fun t x =>
    ((t.when (!(t.c x.1 x.2).idle) fun u =>
      (u.inc .XING_RESYNCS x.1).addWrap .XING_DISCARD (u.c x.1 x.2).lost x.1).modC x.1 x.2) Cell.halt

/-- A half lowers REQ at the restart of its region, with the pointers of the target mode (R155). -/
def Cell.lower (k : Cell) (wr : Bool) : Cell :=
  let h := k.half wr
  if h.req && !h.dark && !(k.half (!wr)).dark then (k.settle wr).withHalf wr { h with req := false } else k

/-- REQ is lowered at the restart by the halves of the regions that restart (R155). -/
def State.lowerCells (s : State) : State :=
  s.each s.cells fun t x => t.each [false, true] fun u w =>
    u.when (u.routerOn (u.halfRegion x.1 x.2 w)) fun v => v.modC x.1 x.2 fun k => k.lower w

/-- A region stop in flight ends FROZEN, its release is sent where a quiesce was, and the request that waits is dropped
(R191). -/
def State.haltStop (s : State) : State :=
  match s.stop.cur with
  | none => s
  | some x =>
    let t : State := { s with stop := { s.stop with waiting := none } }
    let u := t.when (decide (2 ≤ x.order)) fun v => v.syncQreq false x.region x.epoch
    let w := match s.stop.waiting with
      | some (n, _) => u.setStop n .idle
      | none => u
    w.abortStop x 5

/-- Group `g` at the halt: its step ends FROZEN, floor throttle clears, its run and its episode end, its occurrence is
discarded. -/
def State.haltGroup (s : State) (g : Nat) : State :=
  let s1 := if (s.g g).step.isSome then s.abortStep g 5 else s
  let s2 := (s1.modG g fun x => { x with pending := none, trim := false, releasedAt := none }).stopFloor g
  let s3 := if (s2.g g).run.running then s2.endRunReport g (s2.g g).run.faultAt else s2
  (((s3.modG g fun x => { x with run := { x.run with ctl := none } }).dropNext g).closeEpisode g s3.window true).discardOcc g

/-- Region `n` at the halt: its park ends, its clock is low, the seed for N = 160 is loaded and its count is 0. -/
def State.haltRegion (s : State) (n : Nat) : State :=
  let t := ((((s.unpark n).stopClock n).setOsc n .counting false).loadSeed n 160).wr .REGION_COUNT 0 n
  (t.modR n fun r => { r with change := none, timeValid := false, captures := [], timeRem := 0, timeDebt := 0, duty := 0 }).modE n fun x =>
    { x with win := none, sweeping := false, mayBegin := false }

/-- A real fault ends an injection that awaits its target (R539). -/
def State.cancelInjection (s : State) : State :=
  s.when (s.inj.cur.isSome && s.digestLatched && !bit (s.rd .FAULT_DIGEST) 63) fun t => t.endInjection 3

/-- Steps 1 to 3 of R509, without the count of job resets. -/
def State.haltAll (s : State) : State :=
  let s1 := (((s.setReady .ready false).setReady .aligned false).setReady .osc false)
  let s2 : State := { s1 with
    su := { s1.su with jobRstReq := false, ramping := false, arming := false, repeatDue := false, markLaunched := false }
    caps := { s1.caps with tripDue := [] } }
  let s3 := (s2.each s2.groups State.haltGroup).haltStop
  let s4 := ((s3.each s3.fields fun t f => t.setDuty f 0).stopFloor 0xFF).closeEpisode 0xFF s3.window true
  let s5 := s4.haltCells
  let s6 := s5.each (s5.regions.filter fun n => s5.clocked n || s5.osc n .counting) State.haltRegion
  (s6.drainReports.cancelInjection).showTrim

/-! ### The first steps of an arm (R93, R140, R161, R269, R303, R499, R510) -/

/-- The groups take effect (R141): Praline's confidence is cleared where a group's fields change (R303). -/
def State.adoptGroups (s : State) : State :=
  let moved := s.fields.filter fun f => s.rd .TETHER_GROUP f != s.rd .TETHER_GROUP_ACTIVE f
  let gs := (moved.flatMap fun f => [s.rd .TETHER_GROUP f, s.rd .TETHER_GROUP_ACTIVE f]).dedup
  (s.each moved fun t f => t.wr .TETHER_GROUP_ACTIVE (t.rd .TETHER_GROUP f) f).each (gs.filter s.groups.contains) fun t g =>
    t.clearGconf g

/-- The exclusions take effect (R513, R514, R516). -/
def State.adoptExcluded (s : State) : State :=
  let fresh := s.regions.filter fun n => bit (s.rd .EXCLUDED_MAP) n && !s.on .REGION_EXCLUDED_ACTIVE n
  (s.each s.regions fun t n => (t.wr .REGION_EXCLUDED_ACTIVE (bits (t.rd .EXCLUDED_MAP) n 1) n).wr .REGION_DETACHED 0 n).add
    .ARM_NEW_EXCLUDED fresh.length

/-- Crossings that the arm fences are fenced at once: the clock of a region of the pair is held low until the next arm, so that no
handshake can end (R51, R140, R158, R514; DEDUCED, log 96).  A half behind isolation keeps what isolation presents (R157). -/
def State.fenceArmed (s : State) : State :=
  s.each s.cells fun t x => t.modC x.1 x.2 fun k =>
    if k.armMode == .fenced && !k.rd.dark && !k.wr.dark then k.force .fenced else k

/-- A half whose region has its supply again no longer stands behind isolation (R157, R158): with a partner that has none it is
FENCED, with one that has its supply the cell restarts as the halt leaves the others. -/
def State.relightCells (s : State) : State :=
  s.each s.cells fun t x => t.modC x.1 x.2 fun k =>
    let r := t.supplied x.1 x.2 false
    let w := t.supplied x.1 x.2 true
    if r && w then (if k.rd.dark || k.wr.dark then k.relitBoth else k)
    else if r then k.relit false false
    else if w then k.relit true false
    else k

/-- The state in which the islands of the arm are computed: every crossing in its mode of R140. -/
def State.armedView (s : State) : State :=
  s.each s.cells fun t x => t.modC x.1 x.2 fun k => { k with rd := { k.rd with mode := k.armMode } }

/-- The anchor and the diameter of group `g` for the arm. -/
def State.armIslands (s : State) (view : State) (g : Nat) : State :=
  let nodes := view.clockedRegions g
  let l := view.islandsOf nodes nodes.length nodes
  ((s.modG g fun x => { x with islands := l, islandsDue := false }).wr .GROUP_ANCHOR (nodes.headD 0xFFFF) g).wr .GROUP_DIAMETER
    (maxOf (l.map (·.2))) g

/-- Some crossing of group `g` is tethered by the arm: the group has something to align. -/
def State.armTethers (s : State) (g : Nat) : Bool :=
  s.cells.any fun x => (s.c x.1 x.2).armMode == .tethered && s.groupOf (fieldOf x.1) == g

/-- Group `g` at the start of an arm: N = 160, no step, e_pow at OP_FIRST, trim mode where it has tethered crossings, ceiling 0
after a thermal trip. -/
def State.armGroup (s : State) (g : Nat) : State :=
  let trim := s.armTethers g
  let t := s.modG g fun x =>
    { x with
      step := none
      pending := none
      noRise := false
      noStep := false
      trim := trim
      releasedAt := some s.up
      trimHeld := 0
      alignFailed := false
      upRun := 0
      bounce := []
      powReason := 255
      tripCeil := x.tripped || x.tripCeil
      tripped := false
      cast := none }
  ((((((t.wr .GROUP_N 160 g).wr .GROUP_TARGET_N 160 g).wr .GROUP_CHG_STATE 0 g).wr .GROUP_CHG_RESULT 0 g).wr .OP_POWER_ENTRY
    (t.rd .OP_FIRST g) g).loadLfsr g).showCeiling g

/-- The seed of the START extract (R482): the two values interpolated at the field's voltage; how TEMPCO is applied to a seed
the spec does not state, so away from T_CAL the seed is a free value within the permit. -/
def State.extractSeed (s : State) (n : Nat) : State :=
  match s.fon.extract.find? fun x => x.1 == n with
  | none => s
  | some (_, w) =>
    let pts := bits w 0 8
    let fld (p i : Nat) : Int := bits w (8 + 48 * p + 16 * i) 16
    let v : Int := s.rd .FIELD_VOLT (fieldOf n)
    let p := maxOf ((List.range (pts - 1)).filter fun p => decide (fld p 0 ≤ v))
    let mid (site i : Nat) : Int := fld p i + divOpen site ((v - fld p 0) * (fld (p + 1) i - fld p i)) (fld (p + 1) 0 - fld p 0)
    let pm := clampInt 0 1023 (mid 66 2)
    let cv := s.rd .CAL_CURVE n
    let exact := curve16 cv 4 == 0 || (s.temp n).1 == toInt 16 (curve16 cv 2)
    let q := s.free 67 10
    let code := clampInt 0 pm (if exact then mid 65 1 else (q.1 : Int))
    let t := if exact then s else q.2
    ((t.wr .OSC_CODE code.toNat n).wr .OSC_PERMIT_MAX pm.toNat n).modR n fun r => { r with acc := 64 * code.toNat }

/-- Region `n` restarts at N = 160 with its count held, and REF_MARK has been launched for it (R93); an aging sample that is
due runs (R90). -/
def State.armRegion (s : State) (n : Nat) : State :=
  let t := (s.startRegion n 160).modR n fun r => { r with markSeen := true, ageSampling := r.ageSampling || s.osc n .ageDue }
  t.when (!s.su.rearm && !s.su.coldCalDone) fun u => u.extractSeed n

/-- What an arm clears in region `n`: baselines, the last report's count, the slip fault of the tether, the broadcast heard, the
result of its last stop, and quarantines that injections made (R145, R192, R227, R537). -/
def State.armClear (s : State) (n : Nat) : State :=
  let t := (s.loseBaselines n).modE n fun x => { x with report := none, masks := [] }
  let u := ((t.setFlag .TETHER_STATUS 2 false n).wr .REGION_STOP_RESULT 0 n).modR n fun r => { r with heard := none }
  (u.when ((u.r n).injQuar != 0) fun v => v.unquarantine n (v.r n).injQuar)

/-- What an arm clears in field `f`: its duty and the trip of its sensors, which may trip anew (R282). -/
def State.armField (s : State) (f : Nat) : State := (s.setDuty f 0).modF f fun x => { x with tripped := false }

/-- The first steps of an arm or of a repeat: modes, exclusions, groups, restart and REF_MARK. -/
def State.beginArm (s : State) : State :=
  let s1 := (s.adoptGroups.adoptExcluded.armCells).relightCells.fenceArmed
  let s2 := (s1.each s1.regions State.armClear).lowerCells
  let s3 := s2.each ((s2.liveRegions).filter s2.routerOn) State.armRegion
  let s4 := s3.each s3.groups State.armGroup
  let s5 := s4.each s4.groups fun t g => t.armIslands s4.armedView g
  let s6 := ((s5.each s5.fields State.armField).setFlag .CAP_STATUS 4 false).showTrim
  (({ s6 with su := { s6.su with
    arming := true, repeatDue := false, ramping := false, markLaunched := true, trimTime := s6.rd .TRIM_TIME } } : State).setReady
      .osc (s6.regions.all fun n => !s6.clocked n)).setStart .arming

/-! ### Ready (R499, R507, R510, R524) -/

/-- The latched digest joins the history, and the latch clears (R507, R524). -/
def State.clearLatch (s : State) : State :=
  s.when s.digestLatched fun t =>
    let d := t.rd .FAULT_DIGEST
    let u := (t.wr .FAULT_HISTORY (d + t.rd .FAULT_HISTORY * 2 ^ 64)).inc (if bit d 63 then .INJ_JOB_FAULTS else .JOB_FAULTS)
    (u.wr .FAULT_DIGEST 0).wr .FAULT_TIME 0

/-- READY sets: the end of an arm. -/
def State.becomeReady (s : State) : State :=
  let s1 := (s.drainReports.clearLatch.setReady .ready true).setStart .ready
  let s2 := (s1.addWrap .ARM_SEQ 1).wr .LAST_ARM_TIME (s1.up - s1.su.armAt)
  let s3 := s2.when (!s2.su.everReady) fun t => t.wr .READY_TIME t.up
  let s4 : State := { s3 with
    su := { s3.su with arming := false, rearm := false, ramping := false, everReady := true, halted := false }
    flt := { s3.flt with frozen := false } }
  s4.fillPlaces

end Sys2Proof.Machine
end

