-- ==== Sys2Proof/Machine/Answer.lean ====
section
/-! DEFINITION. Accesses to the dictionary on their way to a decision, the retry hints of R450, and the answers at each port
(R336, R427, R455, R463, R465). -/

set_option Elab.async false

namespace Sys2Proof.Machine
open Sys2Proof

/-- The object that an access names, with its subindex offset. -/
def Access.obj (a : Access) : Option (Obj × Nat) := objAt a.index a.sub

/-! ### Retry hints (R450, R467, R502) -/

/-- How long in µs the mount has waited for a busy device: it ends by 1.0 ms where it waits for none (R473, R499, R502). -/
def State.mountWait (s : State) : Nat := if s.fon.mountEnded then s.fon.mountLate else s.up - 1000

/-- The scheduled time of a ready step in µs, none where it has none in the present life-cycle state (R502): its "Ends by", later by
the mount's wait. -/
def State.schedule (s : State) (r : Rdy) : Option Nat :=
  let blank := s.rd .LC_STATE == 0
  let cold := if blank then 3000000 else 0
  let ends : Option Nat := match r with
    | .ctl => some 250
    | .fondant | .sync => some 1000
    | .rails => some 2000
    | .osc => some (5200 + cold)
    | .aligned => some (10000 + cold)
    | .mailbox | .fbOn => some 17000
    | .ready => some (25000 + cold)
    | .dict => some 29000
    | .budget => if blank then none else some 29000
    | .estimator => if blank then none else some 30000
    | .praline => some 130000
    | _ => none
  ends.map (· + s.mountWait)

/-- The ms left to a scheduled step, rounded up, at least 1; 255 where it has no time. -/
def State.msLeft (s : State) (r : Rdy) : Nat :=
  match s.schedule r with
  | some t => max 1 (divUp (t - s.up) 1000)
  | none => 255

/-- HP_RETRY of a NOT_READY answer (R450). -/
def State.hint (s : State) (r : Rdy) : Nat := min 255 (s.msLeft r)

/-- HP_RETRY of a NOT_READY answer: 1 until CTL runs (R450). -/
def State.retryOf (s : State) (r : Rdy) : Nat := if s.isReady .ctl then s.hint r else 1

/-! ### FDP responses (R462, R463, R465) -/

/-- The payload bytes of the smallest data length code that holds `n` bytes, from 16 up. -/
def fdpRoom (n : Nat) : Nat :=
  if n ≤ 16 then 16 else if n ≤ 20 then 20 else if n ≤ 24 then 24 else if n ≤ 32 then 32 else if n ≤ 48 then 48 else 64

/-- A field of a request's payload: bytes that did not come read 0. -/
def fdpAt (q : FdpFrame) (off len : Nat) : Nat := bytesAt (q.data % 2 ^ (8 * q.len)) off len

/-- The response to a request: status, flags, value bytes and AUX (R462, R463). -/
def State.fdpReply (s : State) (q : FdpFrame) (c : Code) (fresh : Bool) (len aux v : Nat) : FdpRsp :=
  { ident := bits q.ident 26 3 * 2 ^ 26 + 2 ^ 24 + bits q.ident 8 8 * 2 ^ 16 + s.fdp.addr * 2 ^ 8 + bits q.ident 0 8
    len := fdpRoom (16 + len)
    data := fdpAt q 0 1 + c.num * 2 ^ 8 + fdpAt q 2 3 * 2 ^ 16 + fresh.toNat * 2 ^ 40 + fdpAt q 6 4 * 2 ^ 48 + len * 2 ^ 80
      + aux % 2 ^ 32 * 2 ^ 96 + v % 2 ^ (8 * len) * 2 ^ 128
    at0 := s.up }

/-- A response is sent, with BRS as FB_BRS_ENABLE sets it (R458), or waits while the controller is bus-off (R461); one that comes while
the controller takes no part is discarded and counted (R460). -/
def State.transmit (s : State) (r : FdpRsp) : State :=
  if s.fdp.standby then s.inc .FB_TX_DROPPED
  else if s.fdp.busOff then { s with fdp := { s.fdp with out := s.fdp.out ++ [r] } }
  else ({ s with fdp := { s.fdp with sent := { r with brs := s.on .FB_BRS_ENABLE } } } : State).inc .FB_TX_FRAMES

/-- The response to a request is counted by its status, kept for a duplicate of the request, and sent (R466, R470). -/
def State.sendRsp (s : State) (q : FdpFrame) (r : FdpRsp) : State :=
  let src := bits q.ident 8 8
  let st := bits r.data 8 8
  let f1 : Fdp := { s.fdp with last := (match s.fdp.last.find? fun x => x.1 == src with
    | some x => Tab.put s.fdp.last src { x.2 with rsp := some r }
    | none => s.fdp.last) }
  let t : State := { s with fdp := f1 }
  ((t.when (st == Code.malformed.num) fun u => u.inc .FB_MALFORMED).when (st == Code.busy.num) fun u =>
    u.inc .FB_BUSY_ANSWERS).transmit r

/-- The snapshot key of a request's address. -/
def fdpKey (q : FdpFrame) : Nat := fdpAt q 2 3 + fdpAt q 6 2 * 2 ^ 24

/-- A READ decided OK (R465): the chunk from the snapshot it continues, or from a new one. -/
def State.fdpRead (s : State) (q : FdpFrame) (o : Obj) (v : Nat) : State :=
  let off := fdpAt q 8 2
  let size := (info o).size
  let src := bits q.ident 8 8
  let old := s.fdp.snap.filter fun x => off != 0 && x.src == src && x.key == fdpKey q
  let p : Snap := old.getD { src := src, key := fdpKey q, val := v, size := size }
  let want := fdpAt q 10 2
  let len := min (if want = 0 then 48 else want) (size - off)
  let t : State := { s with fdp := { s.fdp with snap := some p } }
  t.sendRsp q (t.fdpReply q .ok (off != 0 && old.isNone) len size (bytesAt p.val off len))

/-- An FDP answer: the chunk of a READ, or a status with the hint of R463. -/
def State.answerFdp (s : State) (q : FdpFrame) (write : Bool) (c : Code) (o : Option Obj) (v : Nat) : State :=
  match o with
  | some x =>
    if c = .ok ∧ write = false then s.fdpRead q x v
    else s.sendRsp q (s.fdpReply q c false 0 (if c = .notReady then s.msLeft .dict else 0) 0)
  | none => s.sendRsp q (s.fdpReply q c false 0 (if c = .notReady then s.msLeft .dict else 0) 0)

/-! ### The other ports -/

/-- IDX_STATUS and IDX_BUF after a decision (R455, R456): a scalar fills the first 8 bytes. -/
def State.answerIdx (s : State) (write : Bool) (c : Code) (o : Option Obj) (v : Nat) : State :=
  let size := (o.map fun x => (info x).size).getD 0
  let long := (o.map fun x => (info x).ty.long).getD false
  let n := match s.idx.op with
    | some (true, k) => k
    | _ => if c = .ok then size else 0
  let x : Idx := { s.idx with
    op := none
    status := n * 2 ^ 32 + c.num * 2 ^ 8 + 2
    buf := if write = false ∧ c = .ok then setBytes s.idx.buf 0 (if long then size else 8) v else s.idx.buf }
  { s with idx := x }

/-- An ANSWER frame (R326, R336). -/
def State.answerNet (s : State) (p frame : Nat) (c : Code) (v : Nat) : State :=
  let content := s.frameHead p 3 s.bxFlags + frameAt frame 24 3 * 2 ^ 192 + c.num * 2 ^ 216 + frameAt frame 28 2 * 2 ^ 224
    + v % 2 ^ 64 * 2 ^ 256 + frameAt frame 40 4 * 2 ^ 320
  (s.queueFrame p content false 0).inc .BX_DIRECTIVES

/-- The direct register that mirrors an object (R453); 0x10008, IDX_CTL, where none does (log 108). -/
def hostAddr (o : Option Obj) (e : Nat) : Nat :=
  match o with
  | some .HP_LAST_STATUS => 0x10
  | some .FAULT_DIGEST => 0x18
  | some .GLOBAL_TIME => 0x20
  | some .PPS_TIME => 0x28
  | some .TS_TIME => 0x30
  | some .HOST_CAP => 0x40
  | some .COMPUTE_LIMIT => 0x48
  | some .ENGINE_EST => 0x50
  | some .CAP_STATUS => 0x58
  | some .EXPERT_UNLOCK => 0x60
  | some .FIELD_CAP => 0x1000 + 8 * e
  | some .FIELD_EST => 0x1400 + 8 * e
  | _ => 0x10008

/-- The response class of a code: 0 OKAY, 1 ERROR, 2 NOTREADY, 3 DENIED (R449). -/
def hpRsp (c : Code) : Nat :=
  if c = .ok then 0
  else if c = .notReady ∨ c = .busy then 2
  else if c = .denied ∨ c = .expertRequired ∨ c = .lifecycle then 3
  else 1

/-- The host port answers a request at offset `addr` of its window: the response, and HP_LAST_STATUS where the code is not OK (R447,
R449, R453).  The request counted when it was accepted. -/
def State.hostAnswer (s : State) (addr : Nat) (write : Bool) (c : Code) (data retry : Nat) : State :=
  let x : Answer := { status := c.num, data := data, retry := retry }
  let t : State := { s with dict := { s.dict with answer := x }, ports := { s.ports with host := x } }
  if c = .ok then t
  else
    let v := t.wr .HP_LAST_STATUS (addr % 2 ^ 24 * 2 ^ 16 + write.toNat * 2 ^ 8 + c.num)
    v.inc (if hpRsp c = 2 then .HP_NOTREADY else if hpRsp c = 3 then .HP_DENIED else .HP_ERRORS)

/-- The answer to a decided access goes where the access came from. `known` is the object where its element exists, and `v` its
value. -/
def State.replyVal (s : State) (a : Access) (c : Code) (known : Option (Obj × Nat)) (v : Nat) : State :=
  let o := known.map (·.1)
  let long := (o.map fun x => (info x).ty.long).getD false
  let shown := if a.write ∨ c = .ok then (if long && a.write then 0 else v) else 0
  match a.via with
  | .direct =>
    let retry := if c = .notReady then s.retryOf .dict else 0
    if a.src = .host then s.hostAnswer (hostAddr (a.obj.map (·.1)) a.el) a.write c shown retry
    else { s with dict := { s.dict with answer := { status := c.num, data := shown, retry := retry } } }
  | .idx => s.answerIdx a.write c o v
  | .fdp q => s.answerFdp q a.write c o v
  | .eng q => s.respond (q.id % 4096) c (if long then bytesAt shown a.off 8 else shown)
  | .net p frame => s.answerNet p frame c shown

/-- The answer to an access decided now: with the object's value as it stands. -/
def State.reply (s : State) (a : Access) (c : Code) (known : Option (Obj × Nat)) : State :=
  s.replyVal a c known (match known with
    | some (x, i) => s.readVal x a.el i
    | none => 0)

end Sys2Proof.Machine
end

