-- ==== Sys2Proof/Machine/Writes.lean ====
section
/-! DEFINITION. Accesses decided by the Dictionary Engine: the checks of R14 in their order, the effect of a write on each
object, dirtiness, audit, and REMOTE accesses (R411 to R431). -/

set_option Elab.async false

namespace Sys2Proof.Machine
open Sys2Proof

/-! ### Checks (R14, R414 to R418, R426, R431, R488, R505, R535, R543) -/

/-- A transition of the life cycle awaits its commit, or a wipe is pending (R488). -/
def State.lcBusy (s : State) : Bool := s.flag .LC_STATUS 2 || s.flash.wipePending

/-- Check 1: the object refuses new work for the moment. -/
def State.busyOf (s : State) (o : Obj) (e v : Nat) : Bool :=
  match o with
  | .TIME_SET => s.timeSetBusy
  | .INJ_ARM => v == 1 && (s.inj.cur.isSome || !s.startIs .ready)
  | .INJ_POINT | .INJ_ELEMENT | .INJ_ARG => s.on .INJ_ARM
  | .BX_EPOCH_LOAD => s.loadBusy
  | .LC_REQUEST => s.lcBusy
  | .RUN_CTL => v == 1 && (s.g e).run.running
  | .REGION_TARGET_N => s.stop.cur.isSome && s.stop.waiting.isSome
  | _ => false

/-- Check 8 of a write. -/
def State.lifecycleOk (s : State) (o : Obj) (v : Nat) : Bool :=
  let lc := s.rd .LC_STATE
  !((info o).lcRestricted && decide (2 ≤ lc)) && match o with
    | .REGION_TARGET_N => !(lc == 0 && decide (160 < v))
    | .INJ_ARM => !(v == 1 && lc == 2 && !s.on .FIELD_TEST_PERMIT)
    | .LC_REQUEST => s.fon.armUntil.isSome && lcReachable lc v
    | _ => true

/-- The object of a write lacks its factory objects (R487). -/
def State.missing (s : State) (o : Obj) (v : Nat) : Bool := o == .LC_REQUEST && v == 1 && s.rd .LC_STATE == 0 && !s.calibrated

/-- Check 11: the object lies behind a router sub-domain that is off (R426). -/
def State.poweredOk (s : State) (o : Obj) (e : Nat) : Bool :=
  let behind := s.build.remote.contains o.ctorIdx || o == .REGION_TARGET_N || o == .EST_WEIGHT
  !behind || (info o).elem != .region || s.routerOn e

/-- INTERNAL: a life-cycle request finds no device in service, or a foreign store (R488). -/
def State.internalErr (s : State) (o : Obj) : Bool := o == .LC_REQUEST && (!(s.devOk 0 || s.devOk 1) || s.flag .FN_STATUS 8)

/-- The network's band binds loads from class N (R322). -/
def Access.net (a : Access) : Bool :=
  match a.src with
  | .net _ => true
  | _ => false

/-- Checks 3 and 4. -/
def State.checkObject (s : State) (a : Access) : Option Code :=
  if s.objReady (a.obj.map (·.1)) = false then some .notReady
  else match a.obj with
    | none => some .noObject
    | some (o, _) => if s.elemExists o a.el then none else some .noObject

/-- The first check of R14 that a write of object `o` fails, from check 3 on; none when it passes all. -/
def State.checkWrite (s : State) (a : Access) (o : Obj) (i : Nat) : Option Code :=
  if s.objReady (some o) = false then some .notReady
  else if s.elemExists o a.el = false then some .noObject
  else if writable (s.rightsOf o) = false then some .readOnly
  else if s.hasRight o a.src true = false then some .denied
  else if s.needsUnlock o a.src true then some .expertRequired
  else if s.lifecycleOk o a.val = false then some .lifecycle
  else if a.len ≠ (info o).size then some .badType
  else if s.rangeOk o a.el i (a.val % 2 ^ objBits o) a.net = false ∨ s.missing o a.val then some .range
  else if s.poweredOk o a.el = false then some .poweredDown
  else if s.internalErr o then some .internal
  else none

/-- The access came on the engine port. -/
def Access.engine (a : Access) : Bool :=
  match a.src with
  | .eng _ => true
  | _ => false

/-- The first check that a read of object `o` fails, from check 3 on: only the engine port asks for chunks of STR and BLOB
alone (R427, R463). -/
def State.checkRead (s : State) (a : Access) (o : Obj) : Option Code :=
  if s.objReady (some o) = false then some .notReady
  else if s.elemExists o a.el = false then some .noObject
  else if s.hasRight o a.src false = false then some .denied
  else if s.needsUnlock o a.src false then some .expertRequired
  else if a.off ≠ 0 ∧ a.engine = true ∧ (info o).ty.long = false then some .badType
  else if a.off ≠ 0 ∧ (info o).size ≤ a.off then some .range
  else if s.poweredOk o a.el = false then some .poweredDown
  else none

/-! ### SRAM words behind objects (R41, R528, R545) -/

/-- The SRAM words that hold an object's value: SRAM, element, first word and number of words (R545). -/
def objWords (o : Obj) (e i : Nat) : Option (Sram × Nat × Nat × Nat) :=
  match o with
  | .OP_TABLE => some (.opTables, 0, 32 * e, 32)
  | .CAL_CURVE => some (.curves, e, 0, 137)
  | .DS_THRESH => some (.thresholds, e, i, 1)
  | .EST_WEIGHT => some (.weights, e, 0, 128)
  | .PR_GROUP_TABLE => some (.praline, 0, 524288 + 4096 * e, 4096)
  | .EVENT_PAGE => some (.events, 0, 512 * i, 512)
  | _ => none

/-- The event record that word `w` of the log holds is lost: it counts as overwritten (R528), and reads as an unwritten one
(DEDUCED, log 80). -/
def State.loseEvent (s : State) (w : Nat) : State :=
  (s.wr .EVENT_PAGE (setBits (s.rd .EVENT_PAGE 0 (w / 512)) (128 * (w / 2 % 256)) 128 0) 0 (w / 512)).inc .EVENT_OVERWRITTEN

/-- The outcome of an uncorrectable word that a port or a function has read (R41, R525). -/
def State.wordLost (s : State) (x : Flip) : State :=
  match Sram.ofCode x.code with
  | .opTables => s.sramLost .opTables 3 0
  | .curves => s.sramLost .curves 0 x.element
  | .thresholds => s.sramLost .thresholds 0 x.element
  | .vscaleLeak => s.sramLost .vscaleLeak 0 x.element
  | .weights => s.loseWeight x.element x.word
  | .praline => (s.loseTag x.word).sramLost .praline 3 0
  | .audit => s.sramLost .audit 3 0
  | .events => (s.loseEvent x.word).sramLost .events 3 0
  | k => s.sramLost k 3 0

/-- An access to object `o` reads its words: whether one was uncorrectable, which stops a read of any SRAM but the event log
(R13, R41; log 80), and the state. -/
def State.touch (s : State) (o : Obj) (e i : Nat) : Bool × State :=
  match objWords o e i with
  | some (k, el, w, n) =>
    let p := s.readFlips (fun x => x.isIn k el w n) State.wordLost
    (p.1 && decide (k ≠ .events), p.2)
  | none => (false, s)

/-! ### The effects of writes -/

/-- The regions that an aging request samples: due, clocked, and in no group that runs (R90; what running a job means is
DEDUCED, log 40). -/
def State.ageable (s : State) : List Nat :=
  s.regions.filter fun n => s.osc n .ageDue && s.clocked n && !s.inRunningGroup n

/-- AGE_SAMPLE_REQ accepted (R90). -/
def State.askAging (s : State) : State :=
  s.when (s.ageable != []) fun t =>
    (t.each s.ageable fun u n => u.modR n fun r => { r with ageSampling := true }).wr .AGE_SAMPLE_REQ 1

/-- The masks of region `n` clear, and its live weights return to factory (R250). -/
def State.newWeights (s : State) (n : Nat) : State := (s.factoryWeights n).modE n fun x => { x with masks := [] }

/-- CAL_RESET_REQ accepted (R250): done at once. -/
def State.resetCal (s : State) : State :=
  s.each s.regions fun t n => ((t.factoryWeights n).clearIdle n).modE n fun x => { x with signFloor := s.interval }

/-- EXPERT_UNLOCK written (R421). -/
def State.writeUnlock (s : State) (v : Nat) : State :=
  if v = 0 then ({ s with dict := { s.dict with unlockUntil := none } } : State).wr .EXPERT_UNLOCK 0
  else
    let secs := s.rd .EXPERT_UNLOCK_TIME
    let t := s.when (!s.on .EXPERT_UNLOCK) fun u =>
      ({ u with dict := { u.dict with sumUnlocks := u.dict.sumUnlocks + 1 } } : State).inc .EXPERT_UNLOCKS
    ({ t with dict := { t.dict with unlockUntil := if secs = 0 then none else some (s.up + 1000000 * secs) } } : State).wr
      .EXPERT_UNLOCK 1

/-- A flush is asked for (R428, R442). -/
def State.flushNow (s : State) : State :=
  let t : State := { s with fon := { s.fon with flush := true } }
  t.askNow .objects

/-- SELF_RESET_REQ accepted (R497): a commit, the audit summary, and the 2 s limit. -/
def State.askReset (s : State) : State :=
  let t := (s.wr .SELF_RESET_REQ 1).wr .PERSIST_FLUSH 1
  let u := t.flushNow.summarise.startDue
  { u with su := { u.su with selfReset := some (s.up + 2000000) } }

/-- The alert bits of `mask` are acknowledged; FAULT stays while JOB_RST_REQ is 1 (R527). -/
def State.ackAlerts (s : State) (mask : Nat) : State :=
  let m := if s.su.jobRstReq then setBit mask 0 false else mask
  (s.wr .ALERT_STATUS (andNot (s.rd .ALERT_STATUS) m)).driveAlert

/-- The uses of an injection before it has been applied (R536). -/
def injUses (p arg : Nat) : Nat :=
  match p with
  | 1 => bits arg 16 16
  | 2 => bits arg 27 5
  | 6 | 11 => bits arg 0 4
  | 9 => bits arg 0 3
  | _ => 1

/-- INJ_ARM accepted (R535, R545): the injection is in progress, INJECT is logged, point 8 flips its word. -/
def State.arm (s : State) : State :=
  let p := s.rd .INJ_POINT
  let el := s.rd .INJ_ELEMENT
  let arg := s.rd .INJ_ARG
  let x : Inj := { point := p, element := el, arg := arg, deadline := s.up + 1000000, left := injUses p arg }
  let fl : Flip := { code := bits arg 0 4, element := el, word := bits arg 4 20, two := bit arg 24 }
  let t : State := { s with inj := { s.inj with
    cur := some x
    flips := if p = 8 then s.inj.flips ++ [fl] else s.inj.flips } }
  ((t.wr .INJ_ARM 1).wr .INJ_RESULT 0).event 0x70 el p

/-- FIELD_TEST_PERMIT written (R538). -/
def State.writePermit (s : State) (v : Nat) : State :=
  ({ s with inj := { s.inj with permitUntil := s.up + 1000000 * s.rd .FIELD_TEST_TIME } } : State).wr .FIELD_TEST_PERMIT v

/-- REGION_EXCLUDED written (R515): the bit of EXCLUDED_MAP, in force at the next arm. -/
def State.writeExcluded (s : State) (n v : Nat) : State :=
  let t := s.setFlag .EXCLUDED_MAP n (v == 1)
  (t.wr .REGION_EXCLUDE_CAUSE (if v = 1 then 3 else 0) n).when (t.rd .EXCLUDED_MAP != s.rd .EXCLUDED_MAP) fun u =>
    u.dirty .EXCLUDED_MAP

/-- OP_TABLE written (R267, R303): the table in force stays until the next tick. -/
def State.writeTable (s : State) (g v : Nat) : State :=
  let old := s.opTableNow g
  ((s.modG g fun x => { x with table := some old }).wr .OP_TABLE v g).clearGconf g

/-- FIXED_RATE_ENABLE written (R285, R317): the preference changes at once. -/
def State.writeFixed (s : State) (g v : Nat) : State :=
  ((((s.noteFixed g).wr .FIXED_RATE_ENABLE v g).when (v == 1) fun t => t.discardOcc g).retarget g).showCapFlags

/-- RUN_CTL written (R351): a stop without a run changes nothing. -/
def State.writeRun (s : State) (g v : Nat) : State :=
  s.when (v == 1 || (s.g g).run.running) fun t =>
    (t.wr .RUN_CTL v g).modG g fun x => { x with run := { x.run with ctl := some v } }

/-- A 1 written to PERSIST_FLUSH while a flush is under way merges; where its commit is being written, what has become dirty since
starts the next commit at once after it (R425, R442). -/
def State.flushAgain (s : State) : State := s.when (s.fon.cur.any fun c => c.flush) State.flushNow

/-- A write of 1 to a command object that reads 0 (R425). -/
def State.command (s : State) (o : Obj) (e i : Nat) : State :=
  match o with
  | .AGE_SAMPLE_REQ => s.askAging
  | .CAL_RESET_REQ => s.resetCal
  | .PR_CLEAR => ({ s.clearPraline with fon := { s.clearPraline.fon with forceBase := true } } : State)
  | .PR_REARM => s.rearmPraline
  | .REPORT_SNAP_REQ => ({ s with energy := { s.energy with snap := true } } : State).wr .REPORT_SNAP_REQ 1
  | .RAIL_RECOVER => s.acceptRecover e
  | .PERSIST_FLUSH => (s.wr .PERSIST_FLUSH 1).flushNow
  | .FN_SNAP_REQ => (s.wr .FN_SNAP_REQ 1).askNow .snapshot
  | .FN_FORMAT_REQ => s.acceptFormat
  | .SELF_RESET_REQ => s.askReset
  | .INJ_ARM => s.arm
  | .LC_ARM => s.acceptArm
  | .LOCK_FORCE => s.when (lockHeld (s.lockWord i)) fun t => (t.noteLock i 2).lockLose i
  | _ => s

/-- The command objects: BOOL objects written 1 to do something. -/
def isCommand (o : Obj) : Bool :=
  [Obj.AGE_SAMPLE_REQ, .CAL_RESET_REQ, .PR_CLEAR, .PR_REARM, .REPORT_SNAP_REQ, .RAIL_RECOVER, .PERSIST_FLUSH, .FN_SNAP_REQ,
    .FN_FORMAT_REQ, .SELF_RESET_REQ, .INJ_ARM, .LC_ARM, .LOCK_FORCE].contains o

/-- The effect of an accepted write of an object that is no command object. -/
def State.store (s : State) (o : Obj) (e i v : Nat) : State :=
  match o with
  | .DOMAIN_TARGET => s.submitTarget e v
  | .REGION_TARGET_N => (s.wr .REGION_TARGET_N v e).acceptStop e v
  | .XING_FENCE => s.applyFence e (s.rd .XING_FENCE e) v
  | .DS_ENABLE => (s.removeSensors e (andNot (s.rd .DS_ENABLE e) v)).wr .DS_ENABLE (v % 2 ^ s.rd .DS_COUNT e) e
  | .CAL_CURVE => (s.when (s.clocked e) fun t => t.holdCurve e (s.rd .CAL_CURVE e)).wr .CAL_CURVE v e
  | .DS_QUARANTINE => s.unquarantine e (andNot (s.rd .DS_QUARANTINE e) v)
  | .OP_TABLE => s.writeTable e v
  | .FIXED_RATE_ENABLE => s.writeFixed e v
  | .FIXED_RATE_N => ((s.when (v != s.rd .FIXED_RATE_N e) fun t => t.noteFixed e).wr .FIXED_RATE_N v e).retarget e
  | .OP_MAX => (s.wr .OP_MAX v e).retarget e
  | .HOST_CAP | .BOARD_CAP | .EXT_CAP | .ENGINE_OTHER => (s.wr o v e i).limitsDue
  | .RUN_CTL => s.writeRun e v
  | .EST_WEIGHT_FACTORY => (s.wr .EST_WEIGHT_FACTORY v e).newWeights e
  | .EST_SHIFT =>
    let old := (s.ee e).shift.getD (s.rd .EST_SHIFT e)
    ((s.wr .EST_SHIFT v e).newWeights e).modE e fun x => { x with shift := some old }
  | .PR_POLICY => s.writePolicy e v
  | .REF_PREFER => (s.wr .REF_PREFER v).prefer
  | .TIME_SET => s.acceptTimeSet v
  | .TIME_OFFSET_ADJ => s.wrInt .TIME_OFFSET_ADJ (s.rdInt .TIME_OFFSET_ADJ + toInt 32 v)
  | .BX_EPOCH_LOAD => s.stageLoad v
  | .BX_ENABLE => (s.wr .BX_ENABLE v).syncGrant
  | .BX_PEER => ({ s with budget := { s.budget with rewritten := s.budget.rewritten ++ [i] } } : State).wr .BX_PEER v e i
  | .EXPERT_UNLOCK => s.writeUnlock v
  | .LC_REQUEST => (s.acceptTransition v).setFlag .LC_STATUS 0 false
  | .ALERT_ACK => s.ackAlerts v
  | .ALERT_MASK => (s.wr .ALERT_MASK v).driveAlert
  | .FIELD_TEST_PERMIT => s.writePermit v
  | .REGION_EXCLUDED => s.writeExcluded e v
  | _ => s.wrHeld o v e i

/-- The effect of an accepted write (R425): a command object takes a 1 while it reads 0. -/
def State.effect (s : State) (o : Obj) (e i v : Nat) : State :=
  if isCommand o then
    if v = 1 ∧ (o = .LC_ARM ∨ s.rd o e i = 0) then s.command o e i
    else s.when (v == 1 && o == .PERSIST_FLUSH) State.flushAgain
  else s.store o e i v

/-- A factory object has been written (R487). -/
def State.noteWritten (s : State) (o : Obj) (e i : Nat) : State :=
  s.when (recType o == 2 || recType o == 3) fun t =>
    if t.fon.written.contains (objKey o e i) then t
    else { t with fon := { t.fon with written := t.fon.written ++ [objKey o e i] } }

/-! ### Deciding (R423 to R426, R428, R435) -/

/-- The audit's view of a write decided now. -/
def State.attempt (s : State) (a : Access) (known : Option (Obj × Nat)) : Attempt :=
  { cls := s.classOf a.src
    requester := Src.requester a.src
    index := a.index
    sub := a.sub
    el := a.el
    obj := known.map (·.1)
    len := a.len
    old := (match known with
      | some (o, i) => s.readVal o a.el i
      | none => 0)
    new := a.val % 2 ^ (8 * a.len) }

/-- A refused write: audited with its code, and answered; a refusal at check 1 is merged (R435, R438). -/
def State.refuse (s : State) (a : Access) (c : Code) (known : Option (Obj × Nat)) : State :=
  let t := if c = .busy ∨ c = .malformed then s.auditRefuse (s.classOf a.src) c else s.auditWrite (s.attempt a known) c false
  (t.when (match known with | some (o, _) => s.missing o a.val && c == .range | none => false) fun u =>
    u.setFlag .LC_STATUS 0 true).reply a c known

/-- An accepted write, decided as `p` says, takes effect: dirtiness where the value changes, audit and answer (R424, R428). -/
def State.finishWrite (s : State) (a : Access) (o : Obj) (i : Nat) (p : Attempt) : State :=
  let v := a.val % 2 ^ objBits o
  let changed := s.persists o && p.old != v
  let t := (s.effect o a.el i v).noteWritten o a.el i
  ((t.when changed fun u => u.dirty o a.el i).auditWrite p .ok changed).reply a .ok (some (o, i))

/-- An accepted write is carried out.  The words that hold the object are read first (R545). -/
def State.carryOut (s0 : State) (a : Access) (o : Obj) (i : Nat) : State :=
  let s := (s0.touch o a.el i).2
  s.finishWrite a o i (s.attempt a (some (o, i)))

/-- An accepted read is answered with the value as it stands, or INTERNAL where a word of it is lost (R13, R41, R423). -/
def State.giveRead (s : State) (a : Access) (o : Obj) (i : Nat) : State :=
  let p := s.touch o a.el i
  p.2.reply a (if p.1 then .internal else .ok) (some (o, i))

/-! ### REMOTE accesses (R416, R423, R426, R436) -/

/-- The object is REMOTE in this build (R432). -/
def State.isRemote (s : State) (o : Obj) : Bool := s.build.remote.contains o.ctorIdx

/-- An access as the Dictionary Engine keeps it while it waits. -/
def Access.remote (a : Access) (o : Obj) (i : Nat) : RemoteAcc :=
  { write := a.write, obj := o, sub := i, el := a.el, off := a.off, src := a.src, len := a.len, val := a.val, via := a.via }

/-- The access that a REMOTE access was. -/
def RemoteAcc.access (x : RemoteAcc) : Access :=
  { write := x.write, index := (info x.obj).index, sub := (info x.obj).sub + x.sub, el := x.el, off := x.off, src := x.src,
    len := x.len, val := x.val, via := x.via }

/-- The REMOTE accesses in flight. -/
def State.flying (s : State) : List RemoteAcc := s.dict.remote.filter (·.flying)

/-- An access of a REMOTE object is not yet decided: 8 are in flight, or it is a write behind another of the same object (R423,
R426; log 107). -/
def State.mustWait (s : State) (a : Access) (o : Obj) (i : Nat) : Bool :=
  s.isRemote o && (decide (8 ≤ s.flying.length)
    || (a.write && s.dict.remote.any fun x => x.write && x.obj == o && x.sub == i && x.el == a.el))

/-- An access waits for its decision. -/
def State.queueRemote (s : State) (a : Access) (o : Obj) (i : Nat) : State :=
  { s with dict := { s.dict with remote := s.dict.remote ++ [a.remote o i] } }

/-- A decided access leaves for its agent (R426), with the class, the time and the value of its decision (R416, R423, R436). -/
def State.sendRemote (s : State) (a : Access) (o : Obj) (i : Nat) : State :=
  let p := if a.write then (false, s) else s.touch o a.el i
  let t := p.2
  let x : RemoteAcc := { a.remote o i with
    flying := true, cls := t.classOf a.src, time := t.T, old := t.readVal o a.el i, lost := p.1, at0 := t.ctlUs }
  { t with dict := { t.dict with remote := t.dict.remote ++ [x] } }

/-! ### Deciding (R423) -/

/-- A write whose turn it is, is decided. -/
def State.settleWrite (s : State) (a : Access) (o : Obj) (i : Nat) : State :=
  let known := if s.elemExists o a.el then some (o, i) else none
  if s.busyOf o a.el a.val then s.refuse a .busy known
  else match s.checkWrite a o i with
    | some c => s.refuse a c known
    | none => if s.isRemote o then s.sendRemote a o i else s.carryOut a o i

/-- A read whose turn it is, is decided: the value as it stands. -/
def State.settleRead (s : State) (a : Access) (o : Obj) (i : Nat) : State :=
  match s.checkRead a o with
  | some c => s.reply a c (if s.elemExists o a.el then some (o, i) else none)
  | none => if s.isRemote o then s.sendRemote a o i else s.giveRead a o i

/-- A write reaches the Dictionary Engine (R423). -/
def State.decideWrite (s : State) (a : Access) : State :=
  match a.obj with
  | none => s.refuse a (if s.objReady none then .noObject else .notReady) none
  | some (o, i) => if s.mustWait a o i then s.queueRemote a o i else s.settleWrite a o i

/-- A read reaches the Dictionary Engine (R423). -/
def State.decideRead (s : State) (a : Access) : State :=
  match a.obj with
  | none => s.reply a (if s.objReady none then .noObject else .notReady) none
  | some (o, i) => if s.mustWait a o i then s.queueRemote a o i else s.settleRead a o i

/-- An access is decided. -/
def State.decideAcc (s : State) (a : Access) : State := if a.write then s.decideWrite a else s.decideRead a

/-- The accesses that wait are decided in their order, as far as they can go. -/
def State.nextRemote (s : State) : State :=
  ({ s with dict := { s.dict with remote := s.flying } } : State).each (s.dict.remote.filter fun x => !x.flying) fun t x =>
    t.decideAcc x.access

/-- A REMOTE access has returned: a write takes effect, audited as it was decided; a read answers what its decision found. -/
def State.endRemote (s : State) (x : RemoteAcc) : State :=
  let a := x.access
  if x.write then
    let t := (s.touch x.obj x.el x.sub).2
    t.finishWrite a x.obj x.sub { t.attempt a (some (x.obj, x.sub)) with cls := x.cls, old := x.old, time := some x.time }
  else s.replyVal a (if x.lost then .internal else .ok) (some (x.obj, x.sub)) x.old

/-- REMOTE access `i` of those in flight returns, and those that waited go on. -/
def State.remoteDone (s : State) (i : Nat) : State :=
  match s.flying[i]? with
  | some x =>
    let l := s.flying.eraseIdx i ++ s.dict.remote.filter fun y => !y.flying
    (({ s with dict := { s.dict with remote := l } } : State).endRemote x).nextRemote
  | none => s

/-- A write that a command carries, to subindex offset `i` of an object. -/
def writeOf (o : Obj) (i : Nat) (w : Wr) : Access :=
  { write := true, index := (info o).index, sub := (info o).sub + i, el := w.el, src := w.src, len := w.len, val := w.val }


end Sys2Proof.Machine
end

