-- ==== Sys2Proof/Machine/Window.lean ====
section
/-! DEFINITION. Reads of the host window (R240, R301, R439, R446 to R457), and the writes that reach nothing (R439, R451).  No row of
the opcode table is a read, a lock acquire apart: what one answers, and what it leaves behind, is `State.windowRead` (log 42). -/

set_option Elab.async false

namespace Sys2Proof.Machine
open Sys2Proof

/-- A request at offset `addr` of the host window is answered (R447, R449, R453). -/
def State.hostReply (s : State) (addr : Nat) (write : Bool) (c : Code) (data : Nat) (r : Rdy) : State :=
  s.hostAnswer addr write c data (if c = .notReady then s.retryOf r else 0)

/-- The host request cannot be served: the port's clock domain or the function does not run (R37, R450). -/
def State.hostDown (s : State) (r : Rdy) : Bool := !s.isReady .ctl || !s.isReady r

/-- The object that a direct register mirrors, with its element (R453). -/
def mirror (addr : Nat) : Option (Obj × Nat) :=
  if addr = 0x10 then some (.HP_LAST_STATUS, 0)
  else if addr = 0x18 then some (.FAULT_DIGEST, 0)
  else if addr = 0x20 then some (.GLOBAL_TIME, 0)
  else if addr = 0x28 then some (.PPS_TIME, 0)
  else if addr = 0x30 then some (.TS_TIME, 0)
  else if addr = 0x40 then some (.HOST_CAP, 0)
  else if addr = 0x48 then some (.COMPUTE_LIMIT, 0)
  else if addr = 0x50 then some (.ENGINE_EST, 0)
  else if addr = 0x58 then some (.CAP_STATUS, 0)
  else if addr = 0x60 then some (.EXPERT_UNLOCK, 0)
  else if 0x1000 ≤ addr ∧ addr < 0x1400 then some (.FIELD_CAP, (addr - 0x1000) / 8)
  else if 0x1400 ≤ addr ∧ addr < 0x1800 then some (.FIELD_EST, (addr - 0x1400) / 8)
  else none

/-- The offset lies in the weight window. -/
def inWeights (off : Nat) : Bool := decide (0x200000 ≤ off ∧ off < 0x300000)

/-- The offset lies in a region of the host window (R452). -/
def inWindow (off : Nat) : Bool :=
  decide (off < 0x20000 ∨ (0x180000 ≤ off ∧ off < 0x1C0000) ∨ (0x200000 ≤ off ∧ off < 0x300000)
    ∨ (0x400000 ≤ off ∧ off < 0x800000))

/-- A register of the host window that is read alone and mirrors no object (R453, R455). -/
def readAlone (off : Nat) : Bool := off == 0 || off == 8 || off == 0x10010

/-- A direct or indirect register, or the indirect buffer, lies at this offset (R453 to R455). -/
def isRegister (off : Nat) : Bool :=
  readAlone off || (mirror off).isSome || off == 0x68 || decide (0x800 ≤ off ∧ off < 0xA00) || off == 0x10000 || off == 0x10008
    || decide (0x14000 ≤ off ∧ off < 0x18000)

/-- The answer to a write at an offset that takes none: one that is no multiple of 8, outside every region or at no register, in the
audit ring, or at a register that is read alone (R439, R450, R451, R453, R457); none where a write there is another matter. -/
def State.otherCheck (s : State) (off be : Nat) : Option Code :=
  let ring := decide (0x180000 ≤ off ∧ off < 0x1C0000)
  let low := decide (off < 0x20000)
  let nothing := !inWindow off || (low && !isRegister off)
  if nothing || ring || (low && (off % 8 != 0 || readAlone off)) then
    some (if !s.isReady .ctl then .notReady
      else if off % 8 ≠ 0 then .malformed
      else if nothing then .noObject
      else if ring then (if s.hostDown .dict then .notReady else .readOnly)
      else if be % 256 ≠ 255 then .badType else .readOnly)
  else none

/-- A slot of the audit ring that nothing has written reads 0 (R439). -/
def blankRec : AuditRec := { index := 0, sub := 0, element := 0 }

/-- BLOCK_ID (R453). -/
def State.blockId (s : State) : Nat :=
  s.rd .VENDOR_CODE * 2 ^ 48 + s.rd .PRODUCT_CODE * 2 ^ 32 + s.rd .BLOCK_VERSION * 2 ^ 16

/-- A read of a direct register (R453): code, data, and the state it leaves. -/
def State.readDirect (s : State) (addr : Nat) : Code × Nat × State :=
  match mirror addr with
  | some (o, e) =>
    match s.checkRead { index := (info o).index, sub := (info o).sub, el := e } o with
    | some c => (c, 0, s)
    | none => (.ok, s.readVal o e 0, s)
  | none =>
    if addr = 0 then (.ok, s.blockId, s)
    else if addr = 8 then (.ok, s.rd .CLOCK_SOURCE * 2 ^ 32 + s.rd .UNIT_READY, s)
    else if addr = 0x68 then (.ok, 0, s)
    else if 0x800 ≤ addr ∧ addr < 0xA00 then
      if s.hostDown .mailbox then (.notReady, 0, s)
      else
        let p := (s.noteLock ((addr - 0x800) / 8) 1).lockAcquire ((addr - 0x800) / 8) 0
        (.ok, p.1, p.2)
    else (.noObject, 0, s)

/-- A read of the indirect registers and their buffer, always answered (R455, R457). -/
def State.readIndirect (s : State) (addr : Nat) : Code × Nat × State :=
  if addr = 0x10000 then (.ok, s.idx.addr % 2 ^ 64, s)
  else if addr = 0x10008 then (.ok, 0, s)
  else if addr = 0x10010 then (.ok, s.idx.status % 2 ^ 64, s)
  else if 0x14000 ≤ addr ∧ addr < 0x18000 then (.ok, bytesAt s.idx.buf (addr - 0x14000) 8, s)
  else (.noObject, 0, s)

/-- A read of the audit ring (R439): bytes 0 to 7 of a slot latch the slot, the other words come from the latch; a slot with an
uncorrectable word is skipped, and counts as overwritten (R41). -/
def State.readAudit (s : State) (addr : Nat) : Code × Nat × State :=
  let slot := (addr - 0x180000) / 32
  let word := (addr - 0x180000) % 32 / 8
  if s.hostDown .dict then (.notReady, 0, s)
  else if word = 0 then
    let p := s.readFlips (fun x => x.isIn .audit 0 (4 * slot) 4) State.wordLost
    let q := p.2.when p.1 fun t => t.inc .AUDIT_OVERWRITTEN
    let r := if p.1 then blankRec else ((s.dict.ring.find? fun x => x.1 == slot).map (·.2)).getD blankRec
    (.ok, bytesAt r.bytes 0 8, { q with dict := { q.dict with
      ring := if p.1 then q.dict.ring.filter fun x => x.1 != slot else q.dict.ring
      latch := r } })
  else (.ok, bytesAt s.dict.latch.bytes (8 * word) 8, s)

/-- A read of four live weights (R239, R240). -/
def State.readWeightWord (s : State) (addr : Nat) : Code × Nat × State :=
  let n := (addr - 0x200000) / 0x400
  let i := (addr - 0x200000) % 0x400 / 2
  if s.hostDown .estimator then (.notReady, 0, s)
  else if s.present n = false ∨ s.rd .REGION_LANES n < i + 4 then (.noObject, 0, s)
  else if s.routerOn n = false then (.poweredDown, 0, s)
  else
    let p := s.readFlips (fun x => x.isIn .weights n (i / 4) 1) State.wordLost
    if p.1 then (.internal, 0, p.2) else (.ok, bits (s.rd .EST_WEIGHT n) (16 * i) 64, p.2)

/-- A read of the phase table (R301). -/
def State.readPhaseWord (s : State) (addr : Nat) : Code × Nat × State :=
  let k := (addr - 0x400000) / 8
  if s.hostDown .praline then (.notReady, 0, s)
  else if s.rd .NUM_FIELDS ≤ k % 128 then (.noObject, 0, s)
  else
    let p := s.readFlips (fun x => x.isIn .praline 0 k 1) State.wordLost
    if p.1 then (.internal, 0, p.2) else (.ok, Tab.get s.phase k 0 % 2 ^ 64, p.2)

/-- What a read of the host window at `addr` finds (R451, R452): the regions of the window, and nothing else. -/
def State.readWindow (s : State) (addr : Nat) : Code × Nat × State :=
  if s.isReady .ctl = false then (.notReady, 0, s)
  else if addr % 8 ≠ 0 then (.malformed, 0, s)
  else if addr < 0x10000 then s.readDirect addr
  else if addr < 0x20000 then s.readIndirect addr
  else if 0x180000 ≤ addr ∧ addr < 0x1C0000 then s.readAudit addr
  else if 0x200000 ≤ addr ∧ addr < 0x300000 then s.readWeightWord addr
  else if 0x400000 ≤ addr ∧ addr < 0x800000 then s.readPhaseWord addr
  else (.noObject, 0, s)

/-- A read of the host window at `addr` is answered (R447, R449); the data of an answer other than OK is 0. -/
def State.windowRead (s : State) (addr : Nat) : State :=
  let x := s.readWindow (addr % 2 ^ 24)
  x.2.2.hostReply addr false x.1 x.2.1
    (if 0x400000 ≤ addr then .praline else if 0x200000 ≤ addr then .estimator else if 0x180000 ≤ addr then .dict
      else if 0x800 ≤ addr ∧ addr < 0xA00 then .mailbox else .dict)

end Sys2Proof.Machine
end

