-- ==== Sys2Proof/Machine/Ports.lean ====
section
/-! DEFINITION. The commands of the ports that reach the dictionary and the host window: the engine port's dictionary
operations and its operation codes (R44, R427), the host port with the requests it holds in a CTL short stop (R34, R240,
R301, R446 to R457), and directives of the budget port (R336). -/

set_option Elab.async false

namespace Sys2Proof.Machine
open Sys2Proof

/-! ### Engine port (R44, R427) -/

/-- The access that a request of the engine port asks for. -/
def engAccess (q : EpReq) (write : Bool) : Access :=
  let ix := bits q.arg 16 16
  let sb := bits q.arg 8 8
  let size := ((objAt ix sb).map fun x => (info x.1).size).getD 4
  { write := write, index := ix, sub := sb, el := bits q.data 48 16, off := if write then 0 else bits q.data 32 16,
    src := .eng (q.id % 4096), len := min 4 size, val := bits q.data 0 32, via := .eng q }

/-- The bits of a write's value above the object's size are 0 (R427). -/
def engHighOk (q : EpReq) : Bool :=
  let size := ((objAt (bits q.arg 16 16) (bits q.arg 8 8)).map fun x => (info x.1).size).getD 4
  decide (4 ≤ size) || bits q.data (8 * size) (32 - 8 * size) == 0

/-- A DICT_READ request (R427). -/
def State.epDictRead (s : State) (q : EpReq) : State :=
  if q.id % 4096 = 0 ∨ bits q.arg 0 8 ≠ 0 ∨ bits q.data 0 32 ≠ 0 ∨ bits q.data 32 16 % 8 ≠ 0 then
    s.respond (q.id % 4096) .malformed 0
  else s.decideRead (engAccess q false)

/-- DICT_READ (R427). -/
def execDictRead (q : EpReq) (s : State) : Host.Outcome State Fault Refusal := .next (s.epTake 10 q (fun _ => id) fun t => t.epDictRead q)

/-- A DICT_WRITE request (R427): a refusal at check 2 is merged in the audit (R438).  A request that is MALFORMED is answered so even
where its object is BUSY, for what is not parsed names no object (DESIGN CHOICE, log 110). -/
def State.epDictWrite (s : State) (q : EpReq) : State :=
  if q.id % 4096 = 0 ∨ bits q.arg 0 8 ≠ 0 ∨ bits q.data 32 16 ≠ 0 ∨ engHighOk q = false then
    (s.auditRefuse 4 .malformed).respond (q.id % 4096) .malformed 0
  else s.decideWrite (engAccess q true)

/-- What the audit keeps of a DICT_WRITE that is turned away: one BUSY is merged (R438), one whose word is lost is recorded
(R435). -/
def dictTurn (q : EpReq) (c : Code) (s : State) : State :=
  if c = .busy then s.auditRefuse 4 .busy else s.auditLost (.eng (q.id % 4096))

/-- DICT_WRITE (R427). -/
def execDictWrite (q : EpReq) (s : State) : Host.Outcome State Fault Refusal :=
  .next (s.epTake 11 q (dictTurn q) fun t => t.epDictWrite q)

/-- The operations of EP_REQ_OP (R44). -/
inductive EpOp where
  | phaseNext | phaseBegin | preferredPoint | mbPost | mbRead | doorbellRing | lockAcquire | lockRelease | lockRead
  | dictRead | dictWrite
  deriving DecidableEq, Repr

/-- The code table of R44: 0x1 to 0xB; 0x0 and 0xC to 0xF are reserved. -/
def EpOp.ofCode (c : Nat) : Option EpOp :=
  [none, some EpOp.phaseNext, some .phaseBegin, some .preferredPoint, some .mbPost, some .mbRead, some .doorbellRing,
    some .lockAcquire, some .lockRelease, some .lockRead, some .dictRead, some .dictWrite][c % 16]?.join

/-- MB_READ with the mode that bits 17:16 of its argument spell (R387, R389, R391, R396). -/
def State.mbRead (s : State) (q : EpReq) : State :=
  match bits q.arg 16 2 with
  | 0 => s.mailRead 5 0 q
  | 1 => s.mailRead 6 1 q
  | 2 => s.bellRead q
  | _ => s.noticeRead q

/-- A request of code `op` is served: a reserved code is answered MALFORMED (R44). -/
def State.epServe (s : State) (op : Nat) (q : EpReq) : State :=
  match EpOp.ofCode op with
  | none => s.respond (q.id % 4096) .malformed 0
  | some .phaseNext => s.markNext q
  | some .phaseBegin => s.markBegin q
  | some .preferredPoint => s.markPref q
  | some .mbPost => s.mailPost q
  | some .mbRead => s.mbRead q
  | some .doorbellRing => s.bellRing q
  | some .lockAcquire => s.epAcquire q
  | some .lockRelease => s.epRelease q
  | some .lockRead => s.epLockRead q
  | some .dictRead => s.epDictRead q
  | some .dictWrite => s.epDictWrite q

/-- EP_RESERVED_OP (R44): a request with EP_REQ_OP `op`; a reserved code is answered MALFORMED, any other is the operation it
names. -/
def execEpReservedOp (op : Nat) (q : EpReq) (s : State) : Host.Outcome State Fault Refusal :=
  .next (s.epTake (op % 16) q (fun c t => t.when (EpOp.ofCode op == some .dictWrite) fun u => dictTurn q c u) fun t =>
    t.epServe op q)

/-- A word of the engine port's queue is taken: a requester reset, or a request, which answers INTERNAL where the word is lost
(R41, R169). -/
def State.epRun (s : State) (x : EpHeld) : State :=
  if x.op = 16 then s.requesterReset x.q.id
  else if (s.queueRead 3).1 then
    ((s.queueRead 3).2.when (EpOp.ofCode x.op == some .dictWrite) fun t => dictTurn x.q .internal t).respond (x.q.id % 4096)
      .internal 0
  else (s.queueRead 3).2.epServe x.op x.q

/-- The engine port's queue moves on, in its order, as far as the Mailbox Unit takes it (R45, R385). -/
def State.epOut (s : State) : State :=
  ({ s with ports := { s.ports with epq := [] } } : State).each s.ports.epq fun t x =>
    if t.ports.epq ≠ [] ∨ t.boxesFull x.op x.q then t.epQueue x.op x.q else t.epRun x

/-- MB_REMOTE_COMPLETE (R385, R389): the `i`-th access in flight returns with its answer, those to one mailbox in their order, and the
engine port's queue moves on.  In a CTL short stop the spine holds it (R34). -/
def execMbRemoteComplete (i : Nat) (s : State) : Host.Outcome State Fault Refusal :=
  match if s.refs.shortStop then none else s.ports.remote[i]? with
  | some x =>
    let t := { s with ports := { s.ports with remote := s.ports.remote.eraseIdx i } }
    .next (s.when (!(s.ports.remote.take i).any fun y => y.box == x.box) fun _ => (t.respondNum x.id x.status x.data).epOut)
  | none => .next s

/-! ### Writes of the host window (R446 to R454) -/

/-- The answer to a write of four live weights of region `n` from lane `i` on (R240). -/
def State.weightCheck (s : State) (n i be val : Nat) : Code :=
  let part (j : Nat) : Nat := bits be (2 * j) 2
  if s.hostDown .estimator then .notReady
  else if s.present n = false ∨ s.rd .REGION_LANES n < i + 4 then .noObject
  else if s.on .EXPERT_UNLOCK = false then .expertRequired
  else if (List.range 4).any fun j => part j == 1 || part j == 2 then .badType
  else if (List.range 4).any fun j => part j == 3 && !inBand (s.facWeight n (i + j)) (bits val (16 * j) 16) then .range
  else if s.routerOn n = false then .poweredDown
  else .ok

/-- A write of the weight window (R239, R240) at `off`, an offset of 0x200000 to 0x2FFFFF of the host window; it is not audited
(R435).  The word is read as it is accessed (R545). -/
def State.weightWrite (s : State) (off be val : Nat) : State :=
  let n := (off - 0x200000) / 0x400
  let i := (off - 0x200000) % 0x400 / 2
  let c := if !s.isReady .ctl then .notReady else if off % 8 ≠ 0 then .malformed else s.weightCheck n i be val
  (if c = .ok then
      let t := (s.readFlips (fun x => x.isIn .weights n (i / 4) 1) State.wordLost).2
      t.each ((List.range 4).filter fun j => bits be (2 * j) 2 == 3) fun u j => u.setWeight n (i + j) (bits val (16 * j) 16)
    else s).hostReply off true c 0 .estimator

/-- A write of the window that is no write of an object, of the phase table or of a lock: the weight window, or an offset that takes
none (R439, R451). -/
def State.windowWrite (s : State) (off be val : Nat) : State :=
  match s.otherCheck off be with
  | some c => s.hostReply off true c 0 (if 0x180000 ≤ off then .dict else .ctl)
  | none => s.when (inWeights off) fun t => t.weightWrite off be val

/-- The answer to a write of the phase-table entry of tag `t` and field `f` (R301). -/
def State.phaseCheck (s : State) (f be val : Nat) : Code :=
  if s.hostDown .praline then .notReady
  else if s.rd .NUM_FIELDS ≤ f then .noObject
  else if be % 256 ≠ 255 then .badType
  else if s.rd .PR_VOFF_MAX < (PEntry.of val).voff then .range
  else .ok

/-- A write of the phase table (R301) at `off`, an offset of 0x400000 to 0x7FFFFF of the host window. -/
def State.phaseWrite (s : State) (off be val : Nat) : State :=
  let k := (off - 0x400000) / 8
  let c := if !s.isReady .ctl then .notReady else if off % 8 ≠ 0 then .malformed else s.phaseCheck (k % 128) be val
  (if c = .ok then
      let t := (s.readFlips (fun x => x.isIn .praline 0 k 1) State.wordLost).2
      ({ t with phase := Tab.set t.phase k (val % 2 ^ 64) 0 } : State)
    else s).hostReply off true c 0 .praline

/-- A read of LOCK_HOST_`i`: an acquire by the host (R399, R454). -/
def State.hostAcquire (s : State) (i : Nat) : State :=
  if s.hostDown .mailbox then s.hostReply (0x800 + 8 * i) false .notReady 0 .mailbox
  else
    let p := (s.noteLock i 1).lockAcquire i 0
    p.2.hostReply (0x800 + 8 * i) false .ok p.1 .mailbox

/-- A write of LOCK_HOST_`i`: a release by the host; the data is ignored (R399, R454). -/
def State.hostRelease (s : State) (i : Nat) : State :=
  if s.hostDown .mailbox then s.hostReply (0x800 + 8 * i) true .notReady 0 .mailbox
  else
    let t := s.noteLock i 1
    if lockOwner (t.lockWord i) = some 0 then (t.setLock i false false false 0).hostReply (0x800 + 8 * i) true .ok 0 .mailbox
    else t.hostReply (0x800 + 8 * i) true .denied 0 .mailbox

/-- A write of HOST_DB_RING (R14, R396, R397, R453): a doorbell that does not exist is found before bits 63:6 that are not 0. -/
def State.hostRing (s : State) (val : Nat) : State :=
  if s.hostDown .mailbox then s.hostReply 0x68 true .notReady 0 .mailbox
  else if s.rd .NUM_MAILBOXES ≤ bits val 0 6 then s.hostReply 0x68 true .noObject 0 .mailbox
  else if bits val 6 58 ≠ 0 then s.hostReply 0x68 true .range 0 .mailbox
  else (s.ring (bits val 0 6)).2.hostReply 0x68 true .ok 0 .mailbox

/-! ### Indirect access (R455 to R457) -/

/-- The access that IDX_ADDR and IDX_BUF ask for. -/
def State.idxAccess (s : State) (write : Bool) (len : Nat) : Access :=
  { write := write, index := bits s.idx.addr 32 16, sub := bits s.idx.addr 24 8, el := bits s.idx.addr 0 16,
    len := len, val := bytesAt s.idx.buf 0 len, via := .idx }

/-- IDX_ADDR has no reserved bit set. -/
def idxAddrOk (addr : Nat) : Bool := bits addr 48 16 == 0 && bits addr 16 8 == 0

/-- The answer to a write of IDX_CTL with the contents of IDX_ADDR (R457). -/
def State.idxCheck (s : State) (addr ctl : Nat) : Code :=
  let len := bits ctl 16 15
  if s.isReady .ctl = false then .notReady
  else if s.idx.op.isSome then .busy
  else if idxAddrOk addr = false ∨ bits ctl 31 33 ≠ 0 ∨ bits ctl 1 15 ≠ 0 ∨ (bit ctl 0 = (len == 0)) then .malformed
  else .ok

/-- IDX_ADDR and IDX_BUF as the host has filled them before its write of IDX_CTL, where their writes are taken (R455, R457; log 42). -/
def State.idxFill (s : State) (addr buf : Nat) : State :=
  s.when (s.isReady .ctl && s.idx.op.isNone) fun t =>
    { t with idx := { t.idx with addr := if idxAddrOk addr then addr else t.idx.addr, buf := buf } }

/-- An accepted write of IDX_CTL begins its operation: it writes or reads, with LENGTH (R456). -/
def State.idxBegin (s : State) (write : Bool) (len : Nat) : State :=
  { s with idx := { s.idx with op := some (write, len), status := 1, at0 := s.ctlUs } }

/-- A write of IDX_CTL that asks for a read (R456). -/
def State.idxRead (s : State) (addr ctl : Nat) : State :=
  let c := s.idxCheck addr ctl
  ((s.idxFill addr s.idx.buf).when (c == .ok) fun t => t.idxBegin false 0).hostReply 0x10008 true c 0 .ctl

/-- A write of IDX_CTL that asks for a write (R456): LENGTH bytes of IDX_BUF. -/
def State.idxWrite (s : State) (addr buf ctl : Nat) : State :=
  let c := s.idxCheck addr ctl
  ((s.idxFill addr (buf % 2 ^ 131072)).when (c == .ok) fun t => t.idxBegin true (bits ctl 16 15)).hostReply 0x10008 true c 0 .ctl

/-! ### The host port (R34, R446, R447, R450) -/

/-- The REMOTE accesses of the host's own that await their return. -/
def State.hostRemote (s : State) : List RemoteAcc := s.dict.remote.filter fun x => x.src == .host && x.via == .direct

/-- The accepted requests that await their responses: those held, and those that wait for their agent. -/
def State.hostWaiting (s : State) : Nat := s.ports.hostHeld.length + s.hostRemote.length

/-- HP_RDY: 0 until POR_N is released and HP_CLK has run its 4 cycles, and while 4 accepted requests await their responses (R446,
R450; log 108). -/
def State.hpReady (s : State) : Bool := s.su.released && decide (0 < s.up ∧ s.hostWaiting < 4)

/-- An access of the host to an object: until CTL runs it is answered NOT_READY whatever it asks (R450). -/
def State.hostAccess (s : State) (a : Access) : State :=
  if s.isReady .ctl then s.decideAcc a
  else if a.write then s.refuse a .notReady (a.obj.filter fun x => s.elemExists x.1 a.el)
  else s.reply a .notReady none

/-- A request of the host is served. -/
def State.hostServe (s : State) (r : HeldReq) : State :=
  match r with
  | .access a => s.hostAccess a
  | .read addr => s.windowRead addr
  | .weight off be val => s.windowWrite off be val
  | .phase off be val => s.phaseWrite off be val
  | .lockAcquire i => s.hostAcquire i
  | .lockRelease i => s.hostRelease i
  | .ring val => s.hostRing val
  | .idxRead addr ctl => s.idxRead addr ctl
  | .idxWrite addr buf ctl => s.idxWrite addr buf ctl

/-- An access whose word in a queue is lost is answered INTERNAL (R41); a write is recorded and counted as every attempt is (R435). -/
def State.accessLost (s : State) (a : Access) : State :=
  (s.when a.write fun t => t.auditLost a.src).reply a .internal none

/-- A request whose word in the host port's queue is uncorrectable is answered INTERNAL (R41). -/
def State.hostLost (s : State) (r : HeldReq) : State :=
  match r with
  | .access a => s.accessLost a
  | .read addr => s.hostReply addr false .internal 0 .dict
  | .weight off _ _ => s.hostReply off true .internal 0 .estimator
  | .phase off _ _ => s.hostReply off true .internal 0 .praline
  | .lockAcquire i => s.hostReply (0x800 + 8 * i) false .internal 0 .mailbox
  | .lockRelease i => s.hostReply (0x800 + 8 * i) true .internal 0 .mailbox
  | .ring _ => s.hostReply 0x68 true .internal 0 .mailbox
  | .idxRead _ _ | .idxWrite _ _ _ => s.hostReply 0x10008 true .internal 0 .ctl

/-- The request at the head of the host port's queue is read and served. -/
def State.hostTake (s : State) (r : HeldReq) : State :=
  if (s.queueRead 0).1 then (s.queueRead 0).2.hostLost r else (s.queueRead 0).2.hostServe r

/-- The port serves no request now: a CTL short stop (R34), or a REMOTE access of the host whose response comes first (R447;
log 107). -/
def State.hostBlocked (s : State) : Bool := s.refs.shortStop || s.hostRemote != [] || s.ports.hostHeld != []

/-- A request joins those held. -/
def State.hostHold (s : State) (r : HeldReq) : State := { s with ports := { s.ports with hostHeld := s.ports.hostHeld ++ [r] } }

/-- A request that the host offers (R34, R446): not accepted while HP_RDY is 0, held while those before it await their responses,
else served. -/
def State.hostIn (s : State) (r : HeldReq) : State :=
  if s.hpReady = false then s
  else if s.hostBlocked then (s.inc .HP_REQUESTS).hostHold r
  else (s.inc .HP_REQUESTS).hostTake r

/-- The requests held are answered in the order of their acceptance, as far as they can be (R34, R447; log 84). -/
def State.hostHeldOut (s : State) : State :=
  s.when (!s.refs.shortStop) fun t =>
    ({ t with ports := { t.ports with hostHeld := [] } } : State).each t.ports.hostHeld fun u r =>
      if u.hostBlocked then u.hostHold r else u.hostTake r

/-- A read of the host window at `addr` is offered (R446, R447): no row of the opcode table is one, a lock acquired apart (log
42). -/
def State.hostRead (s : State) (addr : Nat) : State := s.hostIn (.read addr)

/-- REMOTE_ACCESS_COMPLETE (R426): access `i` of those in flight returns; what waited for it goes on, and the host's requests behind
it are served.  In a CTL short stop the spine holds it (R34). -/
def execRemoteAccessComplete (i : Nat) (s : State) : Host.Outcome State Fault Refusal :=
  .next (s.when (!s.refs.shortStop) fun t => (t.remoteDone i).hostHeldOut)

/-- A write that a port asks for: one of the host passes through the host port. -/
def State.submitWrite (s : State) (a : Access) : State := if a.src = .host then s.hostIn (.access a) else s.decideWrite a

/-- A write command of an object's own row. -/
def State.submit1 (s : State) (o : Obj) (w : Wr) : State := s.submitWrite (writeOf o 0 w)

/-- OBJECT_WRITE (R414, R423). -/
def execObjectWrite (index sub : Nat) (w : Wr) (s : State) : Host.Outcome State Fault Refusal :=
  .next (s.submitWrite { write := true, index := index, sub := sub, el := w.el, src := w.src, len := w.len, val := w.val })

/-- WEIGHT_WINDOW_WRITE (R239, R240): `off` is an offset of 0x200000 to 0x2FFFFF of the host window, or one that no write reaches,
where the request is answered as R439 and R451 say. -/
def execWeightWindowWrite (off be val : Nat) (s : State) : Host.Outcome State Fault Refusal :=
  .next (s.when (inWeights off || (s.otherCheck off be).isSome) fun t => t.hostIn (.weight off be val))

/-- PHASE_TABLE_WRITE (R301): `off` is an offset of 0x400000 to 0x7FFFFF of the host window. -/
def execPhaseTableWrite (off be val : Nat) (s : State) : Host.Outcome State Fault Refusal :=
  .next (s.when (decide (0x400000 ≤ off ∧ off < 0x800000)) fun t => t.hostIn (.phase off be val))

/-- LOCK_HOST_ACQUIRE (R399, R454). -/
def execLockHostAcquire (i : Nat) (s : State) : Host.Outcome State Fault Refusal :=
  .next (s.when (decide (i < 64)) fun t => t.hostIn (.lockAcquire i))

/-- LOCK_HOST_RELEASE (R399, R454). -/
def execLockHostRelease (i _val : Nat) (s : State) : Host.Outcome State Fault Refusal :=
  .next (s.when (decide (i < 64)) fun t => t.hostIn (.lockRelease i))

/-- HOST_DB_RING (R396, R397, R453). -/
def execHostDbRing (val : Nat) (s : State) : Host.Outcome State Fault Refusal := .next (s.hostIn (.ring val))

/-- IDX_READ (R456): a write of IDX_CTL with WRITE 0. -/
def execIdxRead (addr ctl : Nat) (s : State) : Host.Outcome State Fault Refusal :=
  .next (s.when (!bit ctl 0) fun t => t.hostIn (.idxRead addr ctl))

/-- IDX_WRITE (R456): a write of IDX_CTL with WRITE 1. -/
def execIdxWrite (addr buf ctl : Nat) (s : State) : Host.Outcome State Fault Refusal :=
  .next (s.when (bit ctl 0) fun t => t.hostIn (.idxWrite addr buf ctl))

/-- IDX_DONE (R456): the access is decided; a REMOTE one ends when it returns.  A CTL short stop delays it (R34). -/
def execIdxDone (s : State) : Host.Outcome State Fault Refusal :=
  let sent := s.dict.remote.any fun x => x.via == .idx
  match s.idx.op with
  | some (w, len) => .next (s.when (!sent && !s.refs.shortStop) fun t => t.decideAcc (t.idxAccess w len))
  | none => .next s

/-- EXPERT_UNLOCK_EXPIRY (R421): the timer reaches 0. -/
def execExpertUnlockExpiry (s : State) : Host.Outcome State Fault Refusal :=
  match s.dict.unlockUntil with
  | some d => .next (s.when (decide (d ≤ s.up)) fun t => t.writeUnlock 0)
  | none => .next s

/-! ### Directives (R326, R336) -/

/-- The access that a DIRECTIVE frame of slot `p` asks for. -/
def State.directive (p frame : Nat) (write : Bool) : Access :=
  let ix := frameAt frame 24 2
  let sb := frameAt frame 26 1
  let size := ((objAt ix sb).map fun x => (info x.1).size).getD 8
  { write := write, index := ix, sub := sb, el := frameAt frame 28 2, src := .net (bits frame 80 12), len := min 8 size,
    val := frameAt frame 32 8, via := .net p frame }

/-- The first check of R14 that a DIRECTIVE fails, one that is DENIED for its slot or its object left aside. -/
def State.netCheck (s : State) (a : Access) : Option Code :=
  match a.obj with
  | none => some (if s.objReady none then .noObject else .notReady)
  | some (o, i) =>
    if a.write then (if s.busyOf o a.el a.val then some .busy else s.checkWrite a o i) else s.checkRead a o

/-- The codes of checks 1 to 5, which come before DENIED (R14). -/
def Code.early (c : Code) : Bool := c == .busy || c == .malformed || c == .notReady || c == .noObject || c == .readOnly

/-- An accepted DIRECTIVE (R14, R336): DENIED, at check 6, from a slot that is no coordinator and for objects outside the
chapter. -/
def State.takeDirective (s : State) (p frame : Nat) (write : Bool) : State :=
  let a := State.directive p frame write
  if (s.slot p).coord = false ∨ a.index / 256 ≠ 0x33 then
    let c := ((s.netCheck a).filter Code.early).getD .denied
    if write then s.refuse a c (a.obj.filter fun x => s.elemExists x.1 a.el) else s.reply a c none
  else s.decideAcc a

/-- A received frame (R333): dropped, a ROUND frame, an ANSWER, of which the block sends no directive, or a DIRECTIVE; one whose OP
is neither read nor write is malformed (R14, R336). -/
def State.frameIn (s : State) (x : NbFrame) : State :=
  let q := s.receive x.peer x.beats x.err x.frame
  let op := frameAt x.frame 27 1
  if q.1 = false then q.2
  else if frameAt x.frame 2 1 = 1 then q.2.takeRound x.peer x.frame
  else if frameAt x.frame 2 1 ≠ 2 then q.2
  else if 1 < op then q.2.reply (State.directive x.peer x.frame false) .malformed none
  else q.2.takeDirective x.peer x.frame (op == 1)

/-- A frame arrives at the budget-frame port: while CTL is stopped it waits in the queue, which holds two; a third is dropped (R46,
R166, R337). -/
def State.frameArrives (s : State) (x : NbFrame) : State :=
  s.when (decide (x.peer < 8)) fun t =>
    if t.refs.shortStop = false then t.frameIn x
    else if t.budget.rx.length < 2 then { t with budget := { t.budget with rx := t.budget.rx ++ [x] } }
    else (t.wr .BX_RX_DROP_LAST 1).inc .BX_RX 0 0

/-- The frames that waited for the end of a short stop. -/
def State.framesOut (s : State) : State :=
  ({ s with budget := { s.budget with rx := [] } } : State).each s.budget.rx State.frameIn

/-- An input of the sync port that waited is taken. -/
def State.syTake (s : State) (x : SyIn) : State :=
  match x with
  | .ack epoch => s.quiesceAck epoch
  | .status tag status => s.postStatus tag status
  | .slack ns => s.slackReport ns

/-- The inputs of the sync port that waited for the end of a short stop (R407). -/
def State.syOut (s : State) : State := ({ s with ports := { s.ports with syHeld := [] } } : State).each s.ports.syHeld State.syTake

/-- CTL_SHORT_STOP_END (R34, R190, R328): the stop ends; a round boundary that fell into it is processed, then the budget frames that
waited, the sync port's inputs and the engine port's queue, and the host's requests are answered. -/
def execCtlShortStopEnd (us : Nat) (s : State) : Host.Outcome State Fault Refusal :=
  .next (s.when s.refs.shortStop fun t =>
    let u := (t.stopEnded us).dueRound.framesOut
    u.when (!u.refs.shortStop) fun v => v.syOut.epOut.hostHeldOut)

/-- ROUND (R333, R334): a received ROUND frame. -/
def execRound (peer frame : Nat) (s : State) : Host.Outcome State Fault Refusal :=
  .next (s.when (frameAt frame 2 1 == 1) fun t => t.frameArrives { peer := peer, frame := frame % 2 ^ 512 })

/-- BUDGET_FRAME_DROP (R333): a frame that is short, damaged, or of no type the block acts on. -/
def execBudgetFrameDrop (peer beats : Nat) (err : Bool) (frame : Nat) (s : State) : Host.Outcome State Fault Refusal :=
  let x := frame % 2 ^ 512
  let used := frameAt x 2 1 == 1 || (frameAt x 2 1 == 2 && decide (frameAt x 27 1 ≤ 1))
  .next (s.when (!(s.frameCheck peer beats err x == 0 && used)) fun t =>
    t.frameArrives { peer := peer, beats := beats, err := err, frame := x })

/-- A DIRECTIVE frame of operation `op` arrives. -/
def State.directiveIn (s : State) (p frame op : Nat) : State :=
  let x := frame % 2 ^ 512
  s.when (frameAt x 2 1 == 2 && frameAt x 27 1 == op) fun t => t.frameArrives { peer := p, frame := x }

/-- DIRECTIVE_READ (R336). -/
def execDirectiveRead (peer frame : Nat) (s : State) : Host.Outcome State Fault Refusal := .next (s.directiveIn peer frame 0)

/-- DIRECTIVE_WRITE (R336). -/
def execDirectiveWrite (peer frame : Nat) (s : State) : Host.Outcome State Fault Refusal := .next (s.directiveIn peer frame 1)

end Sys2Proof.Machine
end

