-- ==== Sys2Proof/Machine/Faults.lean ====
section
/-! DEFINITION. The fault unit: lines, reports and digest (R24, R507, R512, R521 to R524), the repeats of an arm, spine
links (R20, R536), sequencer failures and function resets (R39, R40), and the end of the alert hold (R526). -/

set_option Elab.async false

namespace Sys2Proof.Machine
open Sys2Proof

/-! ### The latch (R507, R522, R523) -/

/-- A report wins a tie: the lowest class, a real fault before an injected one, the lowest element (R523). -/
def FReport.beats (a b : FReport) : Bool :=
  if a.cls ≠ b.cls then decide (a.cls < b.cls)
  else if a.injected ≠ b.injected then b.injected
  else decide (a.element < b.element)

/-- The report of a batch that wins. -/
def winner (l : List FReport) : Option FReport :=
  match l with
  | [] => none
  | r :: rs => some (rs.foldl (fun b x => if x.beats b then x else b) r)

/-- A report is latched: digest, detection time, the sums of the event summary; learning stops, and runs end (R297, R351, R522,
R531). -/
def State.latch (s : State) (r : FReport) : State :=
  let s1 := (s.wr .FAULT_DIGEST r.digest).wr .FAULT_TIME r.time
  let f : FaultUnit := { s1.flt with
    sumDigest := if s1.flt.sumDigest = 0 then r.digest else s1.flt.sumDigest
    sumFaults := s1.flt.sumFaults + 1 }
  let s2 := (({ s1 with flt := f }).each s1.groups State.discardOcc).faultRuns
  s2.when (!s2.refs.shortStop) State.freezeAll

/-- The event JOB_FAULT of a digest (R529). -/
def State.jobFaultEvent (s : State) (r : FReport) : State := s.event 0x01 r.element (bits r.digest 48 16) r.injected

/-! ### The arm and its repeats (R507, R512) -/

/-- The classes that repeat an arm (R512). -/
def armClass (c : Nat) : Bool :=
  [FaultClass.startFail, .alignFail, .slipFault, .crossPtr].any fun k => k.code == c

/-- The highest step of R499 that has ended, the DATA of START_FAILED (R529). -/
def State.lastStep (s : State) : Nat :=
  let ended : List (Nat × Bool) :=
    [(1, s.su.released), (2, s.isReady .ctl), (3, s.fon.mountEnded), (4, s.su.excludedApplied), (5, s.isReady .rails),
      (6, s.isReady .osc), (7, s.isReady .aligned), (8, s.isReady .mailbox), (10, s.isReady .ready), (11, s.isReady .dict),
      (12, s.isReady .budget), (13, s.isReady .estimator), (14, s.isReady .praline)]
  maxOf (ended.filterMap fun x => if x.2 then some x.1 else none)

/-- The highest step of R510 that has ended. -/
def State.lastRearmStep (s : State) : Nat :=
  if s.isReady .aligned then 4 else if s.isReady .osc then 3 else if s.su.markLaunched then 2 else 0

/-- Start-up or an arm did not complete: START_STATE reads FAILED (R500, R512, R529). -/
def State.startFailed (s : State) : State :=
  (s.setStart .failed).event 0x04 0xFFFF (if s.su.rearm then s.lastRearmStep else s.lastStep)

/-- The arm stops; a re-arm asks for a job reset (R512). -/
def State.armFails (s : State) : State :=
  let t : State := { s with su := { s.su with
    arming := false, ramping := false, repeatDue := false, jobRstReq := s.su.jobRstReq || s.su.rearm } }
  t.startFailed

/-- The halt of R512, and the repeat that is due. -/
def State.armRepeat (s : State) (r : FReport) : State :=
  let t := (s.inc .ARM_REPEATS).event 0x03 r.element r.cls r.injected
  let u := t.haltAll
  { u with su := { u.su with arming := true, repeatDue := true, repeats := u.su.repeats + 1 } }

/-- The report `r` acts on an arm in progress; `other` tells that another class was raised with it; `first` that it is latched.  A
region has a strike from a digest or a repeat that names it, and no other (R512, R513). -/
def State.faultInArm (s : State) (r : FReport) (other first : Bool) : State :=
  if armClass r.cls && !other && decide (s.su.repeats < s.rd .ARM_REPEAT_LIMIT) then
    ((s.strike r).markStart r).armRepeat r
  else
    let t := (s.when first fun u => (u.jobFaultEvent r).strike r).markStart r
    t.armFails

/-- What a digest causes outside an arm: FAULT_WAIT once the block is ready, FAILED before the first arm, an alert while the
block is halted (R507, R512, R513). -/
def State.faultOutside (s : State) (r : FReport) : State :=
  let t := ((s.jobFaultEvent r).strike r).markStart r
  if t.startIs .ready then
    ({ t with su := { t.su with jobRstReq := true } }).setStart .faultWait
  else if t.su.everReady then t
  else t.startFailed

/-- The reports of one CTL cycle are decided (R523, R524). -/
def State.decideReports (s : State) (l : List FReport) : State :=
  match winner l with
  | none => s
  | some r =>
    let first := !s.digestLatched
    let s1 := if first then s.latch r else s.laterFault r
    let s2 := s1.each (l.erase r) State.laterFault
    let s3 : State := { s2 with flt := { s2.flt with lineAt := none } }
    if s3.su.arming && !s3.su.repeatDue then s3.faultInArm r (l.any fun x => !armClass x.cls) first
    else if first then s3.faultOutside r
    else s3

/-- FAULT_REPORT (R22, R523): the first `k` reports on their way arrive in one CTL cycle; the spine holds them in a CTL short
stop (R34). -/
def execFaultReport (k : Nat) (s : State) : Host.Outcome State Fault Refusal :=
  .next (s.when (!s.refs.shortStop) fun t =>
    ({ t with flt := { t.flt with reports := t.flt.reports.drop k } } : State).decideReports (t.flt.reports.take k))

/-- FAULT_LINE (R24, R507): the line is seen on CTL, and operating points freeze; in a CTL short stop they freeze after it. -/
def execFaultLine (s : State) : Host.Outcome State Fault Refusal :=
  .next (s.when (s.flt.line && !s.refs.shortStop) fun t => ({ t with flt := { t.flt with line := false } }).freezeAll)

/-- LINE_ONLY (R523): no report has followed the line within 0.9 µs of CTL, which a short stop does not count (R34); the digest holds
the arrival of the line, and a report still on its way is a later fault. -/
def execLineOnly (s : State) : Host.Outcome State Fault Refusal :=
  match s.flt.lineAt with
  | some at0 =>
    .next (s.when (!s.digestLatched && !s.refs.shortStop) fun t =>
      t.decideReports [{ cls := 0x7F, unit := 0xF, element := 0xFFFF, detail := 0xF, time := at0 }])
  | none => .next s

/-! ### Spine links (R20, R536) -/

/-- The number of nodes of a kind: agents, Field Stations, junctions (up to 42), the Conductor. -/
def State.hopCount (s : State) (kind : Nat) : Nat :=
  match kind with
  | 0 => s.numRegions
  | 1 => s.rd .NUM_FIELDS
  | 2 => 42
  | 3 => 1
  | _ => 0

/-- The node that receives on the upward link of a node (R536). -/
def State.hopUp (s : State) (kind elem : Nat) : Nat × Nat :=
  match kind with
  | 0 => match s.build.ringUp.find? fun x => x.1 == elem with
    | some x => (0, x.2)
    | none => (1, fieldOf elem)
  | 1 => (2, s.rd .FIELD_JUNCTION elem)
  | 2 => match s.build.junctionUp.find? fun x => x.1 == elem with
    | some x => (2, x.2)
    | none => (3, 0)
  | _ => (4, 0)

/-- A spine link joins the sending node `a` to the receiving node `b`: it leads up from `a`, or down to `b` (R16, R536). -/
def State.linked (s : State) (a b : Nat × Nat) : Bool :=
  decide (a.2 < s.hopCount a.1) && decide (b.2 < s.hopCount b.1) && (s.hopUp a.1 a.2 == b || s.hopUp b.1 b.2 == a)

/-- The key of the hop from node `a` to node `b`, each as kind and number. -/
def hopKey (a b : Nat × Nat) : Nat := Nat.pair (65536 * a.1 + a.2) (65536 * b.1 + b.2)

/-- The injection of point 9 on the upward link from `a` to `b`. -/
def State.injSpine (s : State) (a b : Nat × Nat) : Option Inj :=
  (s.injAt 9).filter fun x => (bits x.arg 4 2, x.element) == a && s.hopUp a.1 a.2 == b

/-- One message of the injection has been sent. -/
def State.useSpineInj (s : State) : State :=
  match s.inj.cur with
  | some x => if x.left ≤ 1 then s.endInjection 1 else { s with inj := { s.inj with cur := some { x with left := x.left - 1 } } }
  | none => s

/-- The sending hop still keeps message `seq`: fewer than 8 later ones are known to have been sent (R20). -/
def Hop.holds (h : Hop) (seq : Nat) : Bool := h.kept.all fun x => decide (x.1 < seq + 8)

/-- Message `seq` is among the last 8 that the sending hop keeps; those that have left the last 8 go (R20). -/
def Hop.keep (h : Hop) (seq msg : Nat) : Hop :=
  let l := if h.kept.any fun x => x.1 == seq then h.kept else h.kept ++ [(seq, msg % 2 ^ 64)]
  { h with kept := l.filter fun x => l.all fun y => decide (y.1 < x.1 + 8) }

/-- The 64 bits that the sending hop keeps of message `m`. -/
def Hop.word (h : Hop) (m : HopMsg) : Nat := ((h.kept.find? fun x => x.1 == m.seq).map (·.2)).getD (m.msg % 2 ^ 64)

/-- A hop finds a parity error: of the 64 bits of `msg` and their parity bit those of `flips` are turned over (R20; the sense of
the parity has no effect, log 43). -/
def parityError (msg flips : Nat) : Bool :=
  popCount (Nat.xor (msg % 2 ^ 64 + 2 ^ 64 * (popCount msg 64 % 2)) (flips % 2 ^ 65)) 65 % 2 == 1

/-- The attempt of a hop to send message `m` again, the `tries` before it having failed; `hurt` tells that an injection damages it.
The third failure for one message fails the link, which the receiving hop reports (R20, R525). -/
def State.sendAgain (s : State) (src dst : Nat × Nat) (m : HopMsg) (x : HopTry) : State :=
  let key := hopKey src dst
  let h0 := Tab.get s.hop key {}
  let h := h0.keep m.seq m.msg
  let tries := Tab.get h.failed m.seq 0
  let t1 := s.inc .SPINE_RETRANSMITS
  let t2 := t1.when (tries == 0 && !x.gap && (t1.injSpine src dst).isSome) State.useSpineInj
  let hurt := !x.gap && (t2.injSpine src dst).isSome
  let t3 := t2.when hurt State.useSpineInj
  let bad := x.lost || hurt || parityError (h.word m) x.flips || !h0.holds m.seq
  let left := if bad && decide (tries + 1 < 3) then tries + 1 else 0
  let u : State := { t3 with hop := Tab.set t3.hop key { h with failed := Tab.set h.failed m.seq left 0 } {} }
  u.when (bad && decide (3 ≤ tries + 1)) fun v =>
    (v.when (!hurt) fun w => w.inc .SPINE_LINK_FAILS).raiseFault .spineLink dst.1 dst.2 x.gap.toNat hurt

/-- SPINE_RETRANSMIT (R20, R525): on the hop from node `src` to node `dst` message `m` arrives with a parity error, or is missing
from the sequence, and is sent again; where the hop finds neither, nothing is asked for. -/
def execSpineRetransmit (src dst : Nat × Nat) (m : HopMsg) (x : HopTry) (s : State) : Host.Outcome State Fault Refusal :=
  let h := Tab.get s.hop (hopKey src dst) {}
  let found := x.gap || parityError m.msg m.flips || (s.injSpine src dst).isSome || Tab.get h.failed m.seq 0 != 0
  .next (s.when (s.linked src dst && found) fun t => t.sendAgain src dst m x)

/-! ### Sequencers (R39, R40, R525) -/

/-- The sequencers of R525. -/
inductive Seqr where
  | start | change | stop | slow | fastCap | power | link | mailbox | dictionary | fondant | praline | budget
  deriving DecidableEq, Repr

/-- The sequencer of a code. -/
def Seqr.ofCode (c : Nat) : Option Seqr :=
  [Seqr.start, .change, .stop, .slow, .fastCap, .power, .link, .mailbox, .dictionary, .fondant, .praline, .budget][c]?

/-- A REMOTE access in flight is answered INTERNAL (R40); a write is audited as it was decided (R416, R436). -/
def State.giveUp (s : State) (x : RemoteAcc) : State :=
  let known := some (x.obj, x.sub)
  let p : Attempt := { s.attempt x.access known with cls := x.cls, old := x.old, time := some x.time }
  (s.when x.write fun t => t.auditWrite p .internal false).reply x.access .internal known

/-- An indirect operation in progress is answered INTERNAL (R40). -/
def State.giveUpIdx (s : State) (w : Bool) (len : Nat) : State :=
  let a := s.idxAccess w len
  let known := a.obj.filter fun x => s.elemExists x.1 a.el
  if w then s.refuse a .internal known else s.reply a .internal known

/-- The Dictionary Engine's accesses in progress are answered INTERNAL (R40): the REMOTE ones in flight, and an indirect
operation; what waited goes on. -/
def State.resetDictionary (s : State) : State :=
  let l := s.flying
  let t := ({ s with dict := { s.dict with remote := s.dict.remote.filter fun x => !x.flying } } : State).each l State.giveUp
  let v := match t.idx.op with
    | some (w, len) => t.when (!t.dict.remote.any fun x => x.via == Via.idx) fun u => u.giveUpIdx w len
    | none => t
  v.nextRemote.hostHeldOut

/-- A function reset: the sequencer returns to idle, the event is counted, and ALERT_N is asserted (R40, R525, R531). -/
def State.functionReset (s : State) (q : Seqr) : State :=
  let s1 := match q with
    | .dictionary => s.resetDictionary
    | .fondant => s.resetFondant
    | .praline => s.setFallback true
    | .budget => { s with budget := { s.budget with skip := true } }
    | _ => s
  let s2 : State := { s1 with flt := { s1.flt with sumResets := s1.flt.sumResets + 1 } }
  (s2.inc .FUNCTION_RESETS).event 0x60 0xFFFF q.ctorIdx

/-- The start-up sequencer fails: a block not ready stays so; ALERT_N is asserted (R39). -/
def State.startSeqFails (s : State) : State :=
  if s.su.arming then s.armFails
  else if s.su.everReady then s.event 0x04 0xFFFF s.lastStep
  else ({ s with su := { s.su with failed := true } }).startFailed

/-- What a failure or an expiry of a sequencer causes (R39). -/
def State.seqFails (s : State) (q : Seqr) (cls : FaultClass) (elem : Nat) : State :=
  match q with
  | .start => s.startSeqFails
  | .fastCap => s.raiseFault cls 1 elem q.ctorIdx
  | .change | .stop | .slow | .power | .link | .mailbox => s.raiseFault cls 3 0 q.ctorIdx
  | .dictionary | .fondant | .praline | .budget => s.functionReset q

/-- The sequencer of code `code` exists, at field `elem` where it is a Field Station's. -/
def State.seqAt (s : State) (code elem : Nat) : Option Seqr :=
  (Seqr.ofCode code).filter fun q => decide (q ≠ .fastCap) || s.fields.contains elem

/-- SEQ_PARITY (R39): a parity error or an illegal state. -/
def execSeqParity (code elem : Nat) (s : State) : Host.Outcome State Fault Refusal :=
  match s.seqAt code elem with
  | some q => .next ((s.inc .SEQ_PARITY_ERRS 0 code).seqFails q .seqParity elem)
  | none => .next s

/-- The watchdog limit of a sequencer in µs (R39). -/
def Seqr.limit (q : Seqr) : Nat :=
  match q with
  | .start => 5000000
  | .change | .stop => 200
  | .slow => 2000
  | .fastCap => 2
  | .power | .mailbox => 100
  | .link | .praline => 20
  | .dictionary | .budget => 1000
  | .fondant => 3000000

/-- A sequencer is out of its idle state, where State shows it; what an operation of one command does inside a sequencer State
does not show (log 81). -/
def State.seqBusy (s : State) (q : Seqr) : Bool :=
  match q with
  | .start => s.su.released && (s.su.arming || !(s.su.everReady && s.isReady .dict && s.isReady .mailbox))
  | .change => s.groups.any fun g => (s.g g).step.isSome
  | .stop => s.stop.cur.any fun x => x.order != 0
  | .power => s.domains.any fun d => (s.d d).phase.isSome
  | .link => (List.range 32).any fun k => (s.l k).out != []
  | .fondant => s.fon.cur.isSome
  | .mailbox => s.ports.remote != []
  | .dictionary => s.flying != [] || s.idx.op.isSome
  | .slow | .fastCap | .praline | .budget => true

/-- The longest of some spans that began at these times of the watchdogs' clock. -/
def State.longest (s : State) (l : List Nat) : Nat := maxOf (l.map fun t => s.ctlUs - t)

/-- For how many µs a sequencer has been out of its idle state, on the clock that its watchdog counts (R39, R190); what an
operation of one command does State does not show, and the operand `us` says it (log 81). -/
def State.seqUs (s : State) (q : Seqr) (us : Nat) : Nat :=
  match q with
  | .start => s.up - (if s.su.arming then s.su.armAt else 0)
  | .change => s.longest (s.groups.filterMap fun g => (s.g g).step.map (·.began))
  | .stop => s.longest ((s.stop.cur.filter fun x => x.order != 0).map (·.began)).toList
  | .power => s.longest ((s.domains.filter fun d => (s.d d).phase.isSome).map fun d => (s.d d).began)
  | .link => s.longest ((List.range 32).flatMap fun k => (s.l k).out.map (·.at0))
  | .mailbox => s.longest (s.ports.remote.map (·.at0))
  | .dictionary => s.longest (s.flying.map (·.at0) ++ (s.idx.op.map fun _ => s.idx.at0).toList)
  | .fondant => s.longest (s.fon.cur.map (·.at0)).toList
  | .slow | .fastCap | .praline | .budget => us

/-- A short stop of CTL holds a sequencer and its watchdog: all but the start-up sequencer's, on AON, and the fast cap loops', in
the Field Stations (R39, R190). -/
def State.seqHeld (s : State) (q : Seqr) : Bool := s.refs.shortStop && q != .start && q != .fastCap

/-- WATCHDOG (R39): the sequencer has been out of idle beyond its limit. -/
def execWatchdog (x : SeqId) (us : Nat) (s : State) : Host.Outcome State Fault Refusal :=
  match s.seqAt x.code x.elem with
  | some q => .next (s.when (s.seqBusy q && !s.seqHeld q && decide (q.limit < s.seqUs q us)) fun t =>
      (t.inc .WATCHDOG_EXPIRIES 0 x.code).seqFails q .watchdog x.elem)
  | none => .next s

/-! ### ALERT_N (R526) -/

/-- ALERT_HOLD_EXPIRY (R526): ALERT_N has been low for 100 µs, and the pin follows the status again. -/
def execAlertHoldExpiry (s : State) : Host.Outcome State Fault Refusal :=
  match s.flt.alertHold with
  | some at0 =>
    .next (s.when (decide (at0 ≤ s.up)) fun t => ({ t with flt := { t.flt with alertHold := none } } : State).driveAlert)
  | none => .next s

end Sys2Proof.Machine
end

