-- ==== Sys2Proof/Machine/FieldBus.lean ====
section
/-! DEFINITION. The field-bus controller and FDP (R458 to R468). -/

set_option Elab.async false

namespace Sys2Proof.Machine
open Sys2Proof

/-- A request's source address. -/
def fdpSrc (q : FdpFrame) : Nat := bits q.ident 8 8

/-- The payload is a valid READ or WRITE request (R463); a READ too must have room for its LENGTH, as R463 says of every
request (DEDUCED, log 35). -/
def fdpGood (q : FdpFrame) : Bool :=
  let op := fdpAt q 0 1
  let len := fdpAt q 10 2
  let carried := if op = 2 then len else 0
  q.ext && decide (16 ≤ q.len ∧ q.len ≤ 64) && (op == 1 || op == 2) && bits (fdpAt q 1 1) 2 6 == 0 && fdpAt q 5 1 == 0
    && decide (fdpAt q 8 2 ≤ 16383 ∧ len ≤ 48 ∧ 16 + len ≤ q.len) && fdpAt q 12 4 == 0
    && fdpAt q (16 + carried) (q.len - 16 - carried) == 0

/-- Frames that never become requests (R458, R460, R462): the state where the frame ends there. -/
def State.fdpFilter (s : State) (q : FdpFrame) : Option State :=
  let src := fdpSrc q
  if s.fdp.standby then some (s.inc .FB_HELD_RX)
  else if s.fdp.busOff then some s
  else if q.ext = false then some (s.inc .FB_IGNORED)
  else if bits q.ident 16 8 ≠ s.fdp.addr then some s
  else if bits q.ident 24 2 ≠ 0 ∨ src = 0 ∨ src = 0xFF ∨ src = s.fdp.addr then some (s.inc .FB_IGNORED)
  else none

/-- A request is answered with a status alone; a refused WRITE at check 1 or 2 joins the merged audit (R438). -/
def State.fdpStatus (s : State) (q : FdpFrame) (c : Code) (aux : Nat) : State :=
  let t := s.when (fdpAt q 0 1 == 2 && (c == .busy || c == .malformed)) fun u => u.auditRefuse 2 c
  t.sendRsp q (t.fdpReply q c false 0 aux 0)

/-- The access that a request asks for: `len` bytes with value `val`. -/
def fdpAccess (q : FdpFrame) (write : Bool) (len val : Nat) : Access :=
  { write := write, index := fdpAt q 2 2, sub := fdpAt q 4 1, el := fdpAt q 6 2, off := if write then 0 else fdpAt q 8 2,
    src := .fbus (fdpSrc q), len := len, val := val, via := .fdp q }

/-- The session ends. -/
def State.dropSession (s : State) : State := { s with fdp := { s.fdp with sess := none } }

/-- The first segment of a session (R464). -/
def State.openSession (s : State) (q : FdpFrame) : State :=
  let len := fdpAt q 10 2
  match s.fdp.sess.filter fun x => x.src != fdpSrc q with
  | some x => s.fdpStatus q .busy (divUp (x.at0 + 100000 - s.up) 1000)
  | none =>
    if fdpAt q 8 2 ≠ 0 then s.dropSession.fdpStatus q .malformed 0
    else
      let x : Sess := { src := fdpSrc q, key := fdpKey q, got := len, buf := fdpAt q 16 len, at0 := s.up }
      ({ s with fdp := { s.fdp with sess := some x } } : State).fdpStatus q .ok 0

/-- A later segment of a session (R464): stored, or with LAST the whole value is decided; one that does not continue the
session ends it, when it comes from the session's source (DEDUCED, log 36). -/
def State.nextSegment (s : State) (q : FdpFrame) : State :=
  let len := fdpAt q 10 2
  match s.fdp.sess.filter fun x => x.src == fdpSrc q with
  | none => s.fdpStatus q .malformed 0
  | some x =>
    if x.key ≠ fdpKey q ∨ x.got ≠ fdpAt q 8 2 ∨ 16384 < x.got + len then s.dropSession.fdpStatus q .malformed 0
    else
      let y : Sess := { x with got := x.got + len, buf := setBytes x.buf x.got len (fdpAt q 16 len), at0 := s.up }
      if bit (fdpAt q 1 1) 1 then s.dropSession.decideWrite (fdpAccess q true y.got y.buf)
      else ({ s with fdp := { s.fdp with sess := some y } } : State).fdpStatus q .ok 0

/-- A WRITE (R464): FIRST and LAST both 1 carry a whole value. -/
def State.fdpWriteReq (s : State) (q : FdpFrame) : State :=
  let fl := fdpAt q 1 1
  let len := fdpAt q 10 2
  if bit fl 0 && bit fl 1 then
    if fdpAt q 8 2 ≠ 0 then s.fdpStatus q .malformed 0 else s.decideWrite (fdpAccess q true len (fdpAt q 16 len))
  else if bit fl 0 then s.openSession q
  else s.nextSegment q

/-- An injection of point 11 makes the request parse as malformed (R536). -/
def State.useFraming (s : State) : Option State :=
  (s.injAt 11).map fun x =>
    if x.left ≤ 1 then s.endInjection 1
    else { s with inj := { s.inj with cur := some { x with left := x.left - 1 } } }

/-- An admitted request that is no duplicate: MALFORMED comes before the BUSY of its object or of a session (DESIGN CHOICE, log 110). -/
def State.fdpDo (s : State) (q : FdpFrame) : State :=
  match s.useFraming with
  | some t => t.fdpStatus q .malformed 0
  | none =>
    if !fdpGood q then s.fdpStatus q .malformed 0
    else if fdpAt q 0 1 = 2 then s.fdpWriteReq q
    else s.decideRead (fdpAccess q false 0 0)

/-- The request repeats the last of its source within 1 s (R466). -/
def State.fdpRepeat (s : State) (q : FdpFrame) : Option FdpLast :=
  (s.fdp.last.find? fun x => x.1 == fdpSrc q && x.2.tid == bits q.ident 0 8 && x.2.len == q.len && x.2.data == q.data
    && decide (s.up ≤ x.2.at0 + 1000000)).map (·.2)

/-- A request is turned away BUSY: its answer passes through the queue of BUSY answers, where a lost word makes it INTERNAL
(R41). -/
def State.fdpBusy (s : State) (q : FdpFrame) (aux : Nat) : State :=
  if (s.queueRead 2).1 then (s.queueRead 2).2.fdpStatus q .internal 0 else (s.queueRead 2).2.fdpStatus q .busy aux

/-- An admitted request: a duplicate gets the response given before, and is itself the previous request of the next one (R466). -/
def State.fdpAdmit (s : State) (q : FdpFrame) : State :=
  match s.fdpRepeat q with
  | some x =>
    let u := ({ s with fdp := { s.fdp with last := Tab.put s.fdp.last (fdpSrc q) { x with at0 := s.up } } } : State).inc
      .FB_DUPLICATES
    match x.rsp with
    | some r => u.transmit { r with at0 := u.up }
    | none => u
  | none =>
    let y : FdpLast := { tid := bits q.ident 0 8, len := q.len, data := q.data, at0 := s.up }
    let u : State := { s with fdp := { s.fdp with last := Tab.put s.fdp.last (fdpSrc q) y } }
    u.fdpDo q

/-- A request whose word in the queue is lost is answered INTERNAL (R41); a WRITE is recorded and counted as every attempt is
(R435). -/
def State.fdpLost (s : State) (q : FdpFrame) : State :=
  (s.when (fdpGood q && fdpAt q 0 1 == 2) fun t => t.auditLost (.fbus (fdpSrc q))).fdpStatus q .internal 0

/-- A frame arrives (R458 to R467). -/
def State.fdpArrive (s : State) (q : FdpFrame) : State :=
  match s.fdpFilter q with
  | some t => t
  | none =>
    let t := s.inc .FB_RX_FRAMES
    if t.isReady .ready = false ∧ t.su.everReady = false then t.fdpBusy q (t.msLeft .ready)
    else if 8 ≤ t.busAccesses.length then t.fdpBusy q 0
    else if (t.queueRead 1).1 then (t.queueRead 1).2.fdpLost q
    else (t.queueRead 1).2.fdpAdmit q

/-- FDP_READ (R465): a valid READ request. -/
def execFdpRead (q : FdpFrame) (s : State) : Host.Outcome State Fault Refusal :=
  .next (s.when (fdpGood q && fdpAt q 0 1 == 1) fun t => t.fdpArrive q)

/-- FDP_WRITE (R464): a valid WRITE request. -/
def execFdpWrite (q : FdpFrame) (s : State) : Host.Outcome State Fault Refusal :=
  .next (s.when (fdpGood q && fdpAt q 0 1 == 2) fun t => t.fdpArrive q)

/-- FDP_MALFORMED (R458, R462, R463): a frame that is no valid request. -/
def execFdpMalformed (q : FdpFrame) (s : State) : Host.Outcome State Fault Refusal :=
  .next (s.when (!fdpGood q) fun t => t.fdpArrive q)

/-- FDP_SESSION_TIMEOUT (R464): 100 ms without a segment. -/
def execFdpSessionTimeout (s : State) : Host.Outcome State Fault Refusal :=
  match s.fdp.sess with
  | some x => .next (s.when (decide (x.at0 + 100000 ≤ s.up)) fun t => t.dropSession.inc .FB_SESSIONS_ABANDONED)
  | none => .next s

/-- A response has waited 100 ms. -/
def State.stale (s : State) (r : FdpRsp) : Bool := decide (r.at0 + 100000 ≤ s.up)

/-- FDP_RESPONSE_DROP (R467). -/
def execFdpResponseDrop (s : State) : Host.Outcome State Fault Refusal :=
  let n := (s.fdp.out.filter s.stale).length
  .next (({ s with fdp := { s.fdp with out := s.fdp.out.filter fun r => !s.stale r } } : State).add .FB_TX_DROPPED n)

/-- FB_CLASSIC (R458): counted, and never passed to FDP; held while the controller takes no part (R460). -/
def execFbClassic (s : State) : Host.Outcome State Fault Refusal :=
  .next (if s.fdp.standby then s.inc .FB_HELD_RX else s.inc .FB_CLASSIC)

/-- FB_BUS_OFF (R461). -/
def execFbBusOff (s : State) : Host.Outcome State Fault Refusal :=
  .next (s.when (!s.fdp.standby && !s.fdp.busOff) fun t =>
    let u := ({ t with fdp := { t.fdp with busOff := true } } : State).inc .FB_BUS_OFFS
    u.event 0x50 0xFFFF (u.rd .FB_BUS_OFFS))

/-- FB_BUS_OFF_RECOVERY (R461): the responses that wait are sent. -/
def execFbBusOffRecovery (s : State) : Host.Outcome State Fault Refusal :=
  .next (s.when s.fdp.busOff fun t =>
    let q := t.fdp.out
    ({ t with fdp := { t.fdp with busOff := false, out := [] } } : State).each q fun u r => u.transmit r)

end Sys2Proof.Machine
end

