-- ==== Sys2Proof/Machine/OwnRows.lean ====
section
/-! DEFINITION. The commands that write an object with a row of its own, injections among them (R535, R536). -/

set_option Elab.async false

namespace Sys2Proof.Machine
open Sys2Proof

/-- SELF_RESET_REQ (R497). -/
def execSelfResetReq (w : Wr) (s : State) : Host.Outcome State Fault Refusal := .next (s.submit1 .SELF_RESET_REQ w)

/-- ALERT_ACK (R527). -/
def execAlertAck (w : Wr) (s : State) : Host.Outcome State Fault Refusal := .next (s.submit1 .ALERT_ACK w)

/-- DOMAIN_TARGET (R55, R62). -/
def execDomainTarget (w : Wr) (s : State) : Host.Outcome State Fault Refusal := .next (s.submit1 .DOMAIN_TARGET w)

/-- REF_PREFER (R207). -/
def execRefPrefer (w : Wr) (s : State) : Host.Outcome State Fault Refusal := .next (s.submit1 .REF_PREFER w)

/-- TIME_SET (R220). -/
def execTimeSet (w : Wr) (s : State) : Host.Outcome State Fault Refusal := .next (s.submit1 .TIME_SET w)

/-- TIME_OFFSET_ADJ (R219). -/
def execTimeOffsetAdj (w : Wr) (s : State) : Host.Outcome State Fault Refusal := .next (s.submit1 .TIME_OFFSET_ADJ w)

/-- AGE_SAMPLE_REQ (R90). -/
def execAgeSampleReq (w : Wr) (s : State) : Host.Outcome State Fault Refusal := .next (s.submit1 .AGE_SAMPLE_REQ w)

/-- DS_QUARANTINE_CLEAR (R112): a write of DS_QUARANTINE. -/
def execDsQuarantineClear (w : Wr) (s : State) : Host.Outcome State Fault Refusal := .next (s.submit1 .DS_QUARANTINE w)

/-- DS_ENABLE (R112). -/
def execDsEnable (w : Wr) (s : State) : Host.Outcome State Fault Refusal := .next (s.submit1 .DS_ENABLE w)

/-- XING_FENCE (R159). -/
def execXingFence (w : Wr) (s : State) : Host.Outcome State Fault Refusal := .next (s.submit1 .XING_FENCE w)

/-- REGION_TARGET_N (R29, R174 to R176). -/
def execRegionTargetN (w : Wr) (s : State) : Host.Outcome State Fault Refusal := .next (s.submit1 .REGION_TARGET_N w)

/-- CAL_RESET_REQ (R250). -/
def execCalResetReq (w : Wr) (s : State) : Host.Outcome State Fault Refusal := .next (s.submit1 .CAL_RESET_REQ w)

/-- EST_WEIGHT_FACTORY (R250). -/
def execEstWeightFactory (w : Wr) (s : State) : Host.Outcome State Fault Refusal := .next (s.submit1 .EST_WEIGHT_FACTORY w)

/-- EST_SHIFT (R250). -/
def execEstShift (w : Wr) (s : State) : Host.Outcome State Fault Refusal := .next (s.submit1 .EST_SHIFT w)

/-- OP_TABLE (R267). -/
def execOpTable (w : Wr) (s : State) : Host.Outcome State Fault Refusal := .next (s.submit1 .OP_TABLE w)

/-- FIXED_RATE_ENABLE (R285). -/
def execFixedRateEnable (w : Wr) (s : State) : Host.Outcome State Fault Refusal := .next (s.submit1 .FIXED_RATE_ENABLE w)

/-- FIXED_RATE_N (R285). -/
def execFixedRateN (w : Wr) (s : State) : Host.Outcome State Fault Refusal := .next (s.submit1 .FIXED_RATE_N w)

/-- GROUP_SHARE (R258). -/
def execGroupShare (w : Wr) (s : State) : Host.Outcome State Fault Refusal := .next (s.submit1 .GROUP_SHARE w)

/-- PR_CLEAR (R314). -/
def execPrClear (w : Wr) (s : State) : Host.Outcome State Fault Refusal := .next (s.submit1 .PR_CLEAR w)

/-- PR_REARM (R316). -/
def execPrRearm (w : Wr) (s : State) : Host.Outcome State Fault Refusal := .next (s.submit1 .PR_REARM w)

/-- PR_POLICY (R316). -/
def execPrPolicy (w : Wr) (s : State) : Host.Outcome State Fault Refusal := .next (s.submit1 .PR_POLICY w)

/-- BX_EPOCH_LOAD (R321, R322). -/
def execBxEpochLoad (w : Wr) (s : State) : Host.Outcome State Fault Refusal := .next (s.submit1 .BX_EPOCH_LOAD w)

/-- REGION_PARTITION (R340). -/
def execRegionPartition (w : Wr) (s : State) : Host.Outcome State Fault Refusal := .next (s.submit1 .REGION_PARTITION w)

/-- REPORT_SNAP_REQ (R345). -/
def execReportSnapReq (w : Wr) (s : State) : Host.Outcome State Fault Refusal := .next (s.submit1 .REPORT_SNAP_REQ w)

/-- RAIL_RECOVER (R379). -/
def execRailRecover (w : Wr) (s : State) : Host.Outcome State Fault Refusal := .next (s.submit1 .RAIL_RECOVER w)

/-- EXPERT_UNLOCK (R421). -/
def execExpertUnlock (w : Wr) (s : State) : Host.Outcome State Fault Refusal := .next (s.submit1 .EXPERT_UNLOCK w)

/-- PERSIST_FLUSH (R428). -/
def execPersistFlush (w : Wr) (s : State) : Host.Outcome State Fault Refusal := .next (s.submit1 .PERSIST_FLUSH w)

/-- FN_SNAP_REQ (R485). -/
def execFnSnapReq (w : Wr) (s : State) : Host.Outcome State Fault Refusal := .next (s.submit1 .FN_SNAP_REQ w)

/-- LC_ARM (R488). -/
def execLcArm (w : Wr) (s : State) : Host.Outcome State Fault Refusal := .next (s.submit1 .LC_ARM w)

/-- LC_REQUEST (R487, R488). -/
def execLcRequest (w : Wr) (s : State) : Host.Outcome State Fault Refusal := .next (s.submit1 .LC_REQUEST w)

/-- FN_FORMAT_REQ (R490). -/
def execFnFormatReq (w : Wr) (s : State) : Host.Outcome State Fault Refusal := .next (s.submit1 .FN_FORMAT_REQ w)

/-- RUN_START (R351): a write of 1 to RUN_CTL. -/
def execRunStart (w : Wr) (s : State) : Host.Outcome State Fault Refusal := .next (s.when (w.val == 1) fun t => t.submit1 .RUN_CTL w)

/-- RUN_STOP (R351): a write of 2 to RUN_CTL. -/
def execRunStop (w : Wr) (s : State) : Host.Outcome State Fault Refusal := .next (s.when (w.val == 2) fun t => t.submit1 .RUN_CTL w)

/-- LOCK_FORCE (R400): a write of LOCK_FORCE of lock `i`. -/
def execLockForce (i : Nat) (w : Wr) (s : State) : Host.Outcome State Fault Refusal :=
  .next (s.when (decide (i < 64)) fun t => t.submitWrite (writeOf .LOCK_FORCE i w))

/-! ### Injections (R535, R536, R545) -/

/-- A write of INJ_ARM while INJ_POINT names point `p`. -/
def State.inject (s : State) (p : Nat) (w : Wr) : State := s.when (s.rd .INJ_POINT == p) fun t => t.submit1 .INJ_ARM w

/-- INJ_DS_READING (R535, R536): point 1. -/
def execInjDsReading (w : Wr) (s : State) : Host.Outcome State Fault Refusal := .next (s.inject 1 w)

/-- INJ_TS_READING (R535, R536): point 2. -/
def execInjTsReading (w : Wr) (s : State) : Host.Outcome State Fault Refusal := .next (s.inject 2 w)

/-- INJ_REF_A_LOSS (R535, R536): point 3. -/
def execInjRefALoss (w : Wr) (s : State) : Host.Outcome State Fault Refusal := .next (s.inject 3 w)

/-- INJ_REF_B_LOSS (R535, R536): point 4. -/
def execInjRefBLoss (w : Wr) (s : State) : Host.Outcome State Fault Refusal := .next (s.inject 4 w)

/-- INJ_SLIP (R535, R536): point 5. -/
def execInjSlip (w : Wr) (s : State) : Host.Outcome State Fault Refusal := .next (s.inject 5 w)

/-- INJ_RZ_CRC (R535, R536): point 6. -/
def execInjRzCrc (w : Wr) (s : State) : Host.Outcome State Fault Refusal := .next (s.inject 6 w)

/-- INJ_FN_RECORD (R535, R536): point 7. -/
def execInjFnRecord (w : Wr) (s : State) : Host.Outcome State Fault Refusal := .next (s.inject 7 w)

/-- INJ_SRAM_BIT (R535, R536): point 8. -/
def execInjSramBit (w : Wr) (s : State) : Host.Outcome State Fault Refusal := .next (s.inject 8 w)

/-- INJ_SPINE_PARITY (R535, R536): point 9. -/
def execInjSpineParity (w : Wr) (s : State) : Host.Outcome State Fault Refusal := .next (s.inject 9 w)

/-- INJ_EST_OVERFLOW (R535, R536): point 10. -/
def execInjEstOverflow (w : Wr) (s : State) : Host.Outcome State Fault Refusal := .next (s.inject 10 w)

/-- INJ_FDP_FRAMING (R535, R536): point 11. -/
def execInjFdpFraming (w : Wr) (s : State) : Host.Outcome State Fault Refusal := .next (s.inject 11 w)

/-- INJ_EXPIRED (R535): 1 s without anything to act on. -/
def execInjExpired (s : State) : Host.Outcome State Fault Refusal :=
  match s.inj.cur with
  | some x => .next (s.when (decide (x.deadline ≤ s.up)) fun t => t.endInjection 2)
  | none => .next s

/-- FIELD_TEST_EXPIRY (R538). -/
def execFieldTestExpiry (s : State) : Host.Outcome State Fault Refusal :=
  .next (s.when (s.on .FIELD_TEST_PERMIT && decide (s.inj.permitUntil ≤ s.up)) fun t => t.wr .FIELD_TEST_PERMIT 0)

end Sys2Proof.Machine
end

