-- ==== Sys2Proof/Machine/StartUp.lean ====
section
/-! DEFINITION. The reset classes (R495 to R498), the start-up sequence (R499 to R506), the job halt and the warm re-arm
(R509 to R511, R517). -/

set_option Elab.async false

namespace Sys2Proof.Machine
open Sys2Proof

/-! ### Cold and warm reset (R491, R492, R495 to R498) -/

/-- A commit in flight is cut off: the records begun stay in the flash; whether the copy in progress has its header, and whether it is
whole, are open (R492). -/
def State.cutCommit (s : State) : State :=
  match s.fon.cur with
  | none => s
  | some c =>
    let q := s.free 63 2
    let recs := (c.mark c.dev (q.1 == 3)).recs
    let begun := if c.dev = 0 then recs.filter fun r => decide (r.part < c.pos) || (r.part == c.pos && bit q.1 0) else recs
    { q.2 with flash := q.2.flash.put begun }

/-- The words that the queues between the block's clocks hold (R169): requests of the host and of engines, inputs of the sync port,
beats of budget frames, and the messages of accesses that are on the spine. -/
def State.queueWords (s : State) : Nat :=
  s.ports.hostHeld.length + s.ports.epq.length + s.ports.syHeld.length + sumOf (s.budget.rx.map (·.beats)) + s.flying.length
    + s.ports.remote.length

/-- Every queue and Gray count inside the block resynchronises after a reset (R170): those of the agents, and the Conductor's and the
spine's own, whose number the spec does not give, a free value above 0 (log 100). -/
def State.resyncAll (s : State) : State :=
  let q := s.free 72 8
  q.2.add .ICROSS_RESYNCS (q.1 + 1 + sumOf (s.regions.map s.agentPairs))

/-- Every unit resets: what stays is the build, the flash, the levels of the input pins, and what is the model's own. An
injection in progress ends CANCELLED (R495, R496, R535).  The words that a warm reset finds in the queues are discarded and counted
(R170; log 100). -/
def State.wipe (s : State) (warm : Bool) : State :=
  let k := s.cutCommit
  let t : State := { State.zero s.build with
    flash := k.flash
    freeN := k.freeN
    pending := k.pending
    su := { released := false, warm := warm, jobRstN := k.su.jobRstN } }
  let u := t.each t.domains fun v d => v.modD d fun x => { x with ackCore := (k.d d).ackCore, ackRtr := (k.d d).ackRtr }
  let v := u.when k.inj.cur.isSome fun v => v.wr .INJ_RESULT 3
  v.when warm fun x => x.wr .ICROSS_DISCARD (min (2 ^ 32 - 1) k.queueWords)

/-- The objects that a warm reset keeps (R498). -/
def warmKept : List Obj := [.FAULT_DIGEST, .FAULT_TIME, .ALERT_STATUS, .WARM_RESETS, .COLD_RESETS]

/-- A warm reset with its cause (R495, R497, R498). -/
def State.warm (s : State) (cause : Nat) : State :=
  (((s.wipe true).each warmKept fun t o => t.wr o (s.rd o)).wr .RESET_CAUSE cause).inc .WARM_RESETS

/-- COLD_RESET (R495): POR_N is low. -/
def execColdReset (s : State) : Host.Outcome State Fault Refusal := .next (s.wipe false)

/-- WARM_RESET (R495): SYS_RST_N is low. -/
def execWarmReset (s : State) : Host.Outcome State Fault Refusal := .next (s.warm 1)

/-- SELF_RESET_APPLY (R497): the commit is complete, or 2 s have passed. -/
def execSelfResetApply (s : State) : Host.Outcome State Fault Refusal :=
  match s.su.selfReset with
  | some at0 => .next (s.when (!s.on .PERSIST_FLUSH || decide (at0 ≤ s.up)) fun t => t.warm 2)
  | none => .next s

/-! ### Steps 1, 2 and the cold calibration (R499, R202, R503, R504) -/

/-- POWER_UP (R170, R344, R498, R499): the release of POR_N or SYS_RST_N; ALERT_N follows what a warm reset kept. -/
def execPowerUp (s : State) : Host.Outcome State Fault Refusal :=
  .next (s.when (!s.su.released) fun t =>
    let u : State := { t with su := { t.su with released := true } }
    ((((u.when (!u.su.warm) fun v => v.inc .COLD_RESETS).addWrap .REPORT_EPOCH 1).setReady .aon true).driveAlert).resyncAll)

/-- REF_SELECT (R202, R207, R212, R499): step 2, not before 0.2 ms; the preferred reference is taken where both are valid. -/
def execRefSelect (s : State) : Host.Outcome State Fault Refusal :=
  .next (s.when (s.seqRuns && !s.isReady .ctl && decide (200 ≤ s.up) && (s.refValid false || s.refValid true)) fun t =>
    (((t.changeSource (if t.refValid false then 1 else 2)).setReady .ctl true).setReady .aonInternal false).prefer)

/-- The four voltage codes of field `f`: spread evenly over the ratings its rails share. How a code between two integers
rounds is open (R503). -/
def State.calCode (s : State) (f i : Nat) : Nat :=
  let rs := s.fieldRails f
  let lo := maxOf (rs.map fun r => (s.ra r).rateLo)
  let hi := match rs.map fun r => (s.ra r).rateHi with
    | [] => lo
    | x :: xs => xs.foldl min x
  (divOpen 68 (3 * lo + i * (hi - lo : Int)) 3).toNat

/-- The code whose measured frequency lies nearest to 312.5 MHz, the lowest on a tie (R504). -/
def nearestCeil (fs : List Nat) : Nat :=
  let far (c : Nat) : Nat := ((fs.getD c 0 % 65536 : Nat) - 3125 : Int).natAbs
  min 1023 (16 * (List.range 65).foldl (fun b c => if far c < far b then c else b) 0)

/-- The bytes of one point of a curve (R79). -/
def pointBytes (v : Nat) (fs : List Nat) : Nat :=
  v % 65536 + nearestCeil fs * 2 ^ 16 + (List.range 65).foldl (fun a c => a + fs.getD c 0 % 65536 * 2 ^ (32 + 16 * c)) 0

/-- The provisional curve of a region; what TEMPCO it gets the spec does not state (R503, R504). -/
def State.provisional (s : State) (m : CalMeas) (tempco : Nat) : Nat :=
  1 + 4 * 2 ^ 8 + ofInt 16 m.temp * 2 ^ 16 + tempco * 2 ^ 32
    + (List.range 4).foldl (fun a i =>
        a + pointBytes (s.calCode (fieldOf m.region) i) (m.freqs.getD i []) * 2 ^ (64 + 1088 * i)) 0

/-- The mean of field `f`'s thermal sensors; how it rounds is open (R503). -/
def State.calMean (s : State) (meas : List CalMeas) (f : Nat) : Int :=
  let l := (meas.filter fun m => fieldOf m.region == f).flatMap fun m => m.sensors.take (s.rd .TS_COUNT m.region)
  divOpen 69 (sumInt l) l.length

/-- What the cold calibration leaves in one region: for each sensor the offset that brings it to its field's mean, the provisional
curve, the line trims (R503). -/
def State.calRegion (s : State) (meas : List CalMeas) (m : CalMeas) : State :=
  let q := s.free 64 16
  let t := (q.2.wr .CAL_CURVE (s.provisional m q.1) m.region).wr .DS_LINE_TRIM m.trims m.region
  t.each (List.range (min m.sensors.length (t.rd .TS_COUNT m.region))) fun u i =>
    u.modTs m.region i fun x => { x with offset := s.calMean meas (fieldOf m.region) - m.sensors.getD i 0 }

/-- COLD_CALIBRATION (R503, R504): its 3.0 s as one command; a field's rails end at the last of its four codes. -/
def execColdCalibration (meas : List CalMeas) (s : State) : Host.Outcome State Fault Refusal :=
  .next (s.when (s.seqRuns && s.coldCalibrating) fun t =>
    let ms := meas.filter fun m => t.live m.region
    let u := (t.each ms fun v m => v.calRegion ms m).each t.fields fun v f => v.requestVolt f (v.calCode f 3)
    { u with su := { u.su with coldCalDone := true }, fon := { u.fon with curves := true } })

/-! ### The start-up arm: steps 6, 7, 9 and 10 (R499, R512) -/

/-- CTL runs from a reference: an arm may begin or repeat (R500). -/
def State.mayArm (s : State) : Bool := s.refs.holdSince.isNone && s.selected != 0

/-- The first attempt of an arm. -/
def State.firstArm (s : State) (re : Bool) : State :=
  let t : State := { s with su := { s.su with rearm := re, armAt := s.up, repeats := 0 } }
  (t.wr .ARM_NEW_EXCLUDED 0).beginArm

/-- Step 6 is due for the first time. -/
def State.oscDue (s : State) : Bool :=
  !s.su.arming && !s.su.everReady && s.startIs .powerUp && s.su.excludedApplied && s.isReady .rails
    && (s.rd .LC_STATE != 0 || s.su.coldCalDone) && decide (5000 ≤ s.up)

/-- OSC_START (R93, R499): step 6, or its repeat (R512). -/
def execOscStart (s : State) : Host.Outcome State Fault Refusal :=
  .next (s.when (s.seqRuns && s.mayArm) fun t =>
    if t.su.arming && t.su.repeatDue && !t.su.rearm then t.beginArm
    else t.when t.oscDue fun u => u.firstArm false)

/-- Trim has ended in every group after the counts were released (R162). -/
def State.trimmed (s : State) : Bool :=
  s.su.arming && !s.su.repeatDue && s.isReady .osc && s.groups.all fun g => !(s.g g).trim

/-- ISO_RELEASE (R57, R499): step 7, not before 10 ms. -/
def execIsoRelease (s : State) : Host.Outcome State Fault Refusal :=
  .next (s.when (s.trimmed && !s.su.rearm && !s.isReady .aligned && decide (10000 ≤ s.up)) fun t =>
    (t.each t.domains fun u d => u.modD d fun x => { x with isoCore := false, isoRtr := false }).setReady .aligned true)

/-- The groups set out toward their targets. -/
def State.startRamp (s : State) : State :=
  ((({ s with su := { s.su with ramping := true } } : State).setStart .ramping)).retargetAll

/-- No fault line has been seen whose report is still awaited: a ramp does not begin on one (R24). -/
def State.calm (s : State) : Bool := s.flt.lineAt.isNone

/-- START_RAMP (R499): step 9, after steps 7 and 8. -/
def execStartRamp (s : State) : Host.Outcome State Fault Refusal :=
  .next (s.when (s.su.arming && !s.su.repeatDue && !s.su.rearm && !s.su.ramping && s.isReady .aligned && s.isReady .mailbox
    && s.calm) State.startRamp)

/-- The ramp has ended: no group has a step in flight or a target ahead, and no fault awaits its report. -/
def State.rampEnded (s : State) : Bool :=
  s.su.arming && s.su.ramping && (s.heldGroups.all fun g => (s.g g).step.isNone && (s.g g).pending.isNone)
    && (s.flt.reports.isEmpty || s.digestLatched)

/-- Steps 1 to 4 of R509. -/
def State.jobHalt (s : State) : State :=
  let t := (s.haltAll.inc .JOB_RESETS).jobResetMail
  ({ t with su := { t.su with halted := true, rearm := false, repeats := 0 } }).setStart .halted

/-- READY sets; a job reset that stands halts the block at once (R517). -/
def State.enterReady (s : State) : State :=
  let t := s.becomeReady
  t.when (!t.su.jobRstN) State.jobHalt

/-- BLOCK_READY (R499): step 10, not before 25 ms. -/
def execBlockReady (s : State) : Host.Outcome State Fault Refusal :=
  .next (s.when (s.rampEnded && !s.su.rearm && decide (25000 ≤ s.up)) State.enterReady)

/-- STARTUP_WATCHDOG (R39, R500): 5 s after the release, a step has not ended. -/
def execStartupWatchdog (s : State) : Host.Outcome State Fault Refusal :=
  .next (s.when (s.seqRuns && decide (5000000 ≤ s.up) && !s.startIs .failed
      && !(s.su.everReady && s.isReady .dict && s.isReady .mailbox)) fun t =>
    (({ t with su := { t.su with failed := true, arming := false, ramping := false } }).inc .WATCHDOG_EXPIRIES 0 0).startFailed)

/-! ### Job reset (R509 to R512, R517) -/

/-- JOB_RESET_HALT (R509, R511, R517): JOB_RST_N is seen low; before READY first sets it is ignored until then. -/
def execJobResetHalt (s : State) : Host.Outcome State Fault Refusal :=
  .next (s.when s.su.jobRstN fun t =>
    let u : State := { t with su := { t.su with jobRstN := false } }
    u.when u.su.everReady State.jobHalt)

/-- The step of R510 that is due. -/
def State.rearmStep (s : State) : State :=
  if s.startIs .halted && !s.su.arming then s.when s.mayArm fun t => t.firstArm true
  else if !(s.su.arming && s.su.rearm) then s
  else if s.su.repeatDue then s.when s.mayArm State.beginArm
  else if s.su.ramping then s.when s.rampEnded State.enterReady
  else s.when (s.trimmed && s.calm) fun t => (t.setReady .aligned true).startRamp

/-- WARM_REARM (R510, R512): JOB_RST_N is seen high, and the step that is due runs. -/
def execWarmRearm (s : State) : Host.Outcome State Fault Refusal :=
  .next (({ s with su := { s.su with jobRstN := true } } : State).rearmStep)

end Sys2Proof.Machine
end

