-- ==== Sys2Proof/Machine/Dispatch.lean ====
section
/-! DEFINITION. What each command does: one arm per constructor. -/

namespace Sys2Proof.Machine
open Sys2Proof

/-- The effect of a command on everything but the queue. -/
def exec (i : Instr) (s : State) : Host.Outcome State Fault Refusal :=
  match i with
  | .coldReset => Sys2Proof.Machine.execColdReset s
  | .warmReset => Sys2Proof.Machine.execWarmReset s
  | .powerUp => Sys2Proof.Machine.execPowerUp s
  | .refSelect => Sys2Proof.Machine.execRefSelect s
  | .fondantMount a b => Sys2Proof.Machine.execFondantMount a b s
  | .excludedMapApply => Sys2Proof.Machine.execExcludedMapApply s
  | .railEnumeration => Sys2Proof.Machine.execRailEnumeration s
  | .coldCalibration meas => Sys2Proof.Machine.execColdCalibration meas s
  | .oscStart => Sys2Proof.Machine.execOscStart s
  | .countRelease n => Sys2Proof.Machine.execCountRelease n s
  | .isoRelease => Sys2Proof.Machine.execIsoRelease s
  | .mailboxOpen => Sys2Proof.Machine.execMailboxOpen s
  | .startRamp => Sys2Proof.Machine.execStartRamp s
  | .blockReady => Sys2Proof.Machine.execBlockReady s
  | .dictOpen => Sys2Proof.Machine.execDictOpen s
  | .budgetOpen => Sys2Proof.Machine.execBudgetOpen s
  | .estimatorReady => Sys2Proof.Machine.execEstimatorReady s
  | .pralineOpen => Sys2Proof.Machine.execPralineOpen s
  | .startupWatchdog => Sys2Proof.Machine.execStartupWatchdog s
  | .selfResetReq w => Sys2Proof.Machine.execSelfResetReq w s
  | .selfResetApply => Sys2Proof.Machine.execSelfResetApply s
  | .jobResetHalt => Sys2Proof.Machine.execJobResetHalt s
  | .warmRearm => Sys2Proof.Machine.execWarmRearm s
  | .faultLine => Sys2Proof.Machine.execFaultLine s
  | .faultReport k => Sys2Proof.Machine.execFaultReport k s
  | .lineOnly => Sys2Proof.Machine.execLineOnly s
  | .spineRetransmit src dst m x => Sys2Proof.Machine.execSpineRetransmit src dst m x s
  | .seqParity code elem => Sys2Proof.Machine.execSeqParity code elem s
  | .watchdog q us => Sys2Proof.Machine.execWatchdog q us s
  | .weightReload n => Sys2Proof.Machine.execWeightReload n s
  | .alertAck w => Sys2Proof.Machine.execAlertAck w s
  | .alertHoldExpiry => Sys2Proof.Machine.execAlertHoldExpiry s
  | .injDsReading w => Sys2Proof.Machine.execInjDsReading w s
  | .injTsReading w => Sys2Proof.Machine.execInjTsReading w s
  | .injRefALoss w => Sys2Proof.Machine.execInjRefALoss w s
  | .injRefBLoss w => Sys2Proof.Machine.execInjRefBLoss w s
  | .injSlip w => Sys2Proof.Machine.execInjSlip w s
  | .injRzCrc w => Sys2Proof.Machine.execInjRzCrc w s
  | .injFnRecord w => Sys2Proof.Machine.execInjFnRecord w s
  | .injSramBit w => Sys2Proof.Machine.execInjSramBit w s
  | .injSpineParity w => Sys2Proof.Machine.execInjSpineParity w s
  | .injEstOverflow w => Sys2Proof.Machine.execInjEstOverflow w s
  | .injFdpFraming w => Sys2Proof.Machine.execInjFdpFraming w s
  | .injExpired => Sys2Proof.Machine.execInjExpired s
  | .fieldTestExpiry => Sys2Proof.Machine.execFieldTestExpiry s
  | .domainTarget w => Sys2Proof.Machine.execDomainTarget w s
  | .powerStepWaitEnd d => Sys2Proof.Machine.execPowerStepWaitEnd d s
  | .pdAckChange d rtr level => Sys2Proof.Machine.execPdAckChange d rtr level s
  | .pdTimeout d => Sys2Proof.Machine.execPdTimeout d s
  | .refMissingEdge b => Sys2Proof.Machine.execRefMissingEdge b s
  | .refFreqWindow b err raw => Sys2Proof.Machine.execRefFreqWindow b err raw s
  | .holdoverRelock => Sys2Proof.Machine.execHoldoverRelock s
  | .ctlShortStopEnd us => Sys2Proof.Machine.execCtlShortStopEnd us s
  | .refQualified b => Sys2Proof.Machine.execRefQualified b s
  | .holdoverCeilingRemove g => Sys2Proof.Machine.execHoldoverCeilingRemove g s
  | .refPrefer w => Sys2Proof.Machine.execRefPrefer w s
  | .intoscMeasure err => Sys2Proof.Machine.execIntoscMeasure err s
  | .timeMark => Sys2Proof.Machine.execTimeMark s
  | .timeCorrection x => Sys2Proof.Machine.execTimeCorrection x s
  | .timeSet w => Sys2Proof.Machine.execTimeSet w s
  | .timeOffsetAdj w => Sys2Proof.Machine.execTimeOffsetAdj w s
  | .ppsCapture dt => Sys2Proof.Machine.execPpsCapture dt s
  | .tsCapture dt => Sys2Proof.Machine.execTsCapture dt s
  | .fllGateEnd n => Sys2Proof.Machine.execFllGateEnd n s
  | .sigmaDeltaSlot n => Sys2Proof.Machine.execSigmaDeltaSlot n s
  | .oscUnlock n => Sys2Proof.Machine.execOscUnlock n s
  | .oscCeiling n => Sys2Proof.Machine.execOscCeiling n s
  | .calOffsetUpdate n => Sys2Proof.Machine.execCalOffsetUpdate n s
  | .headroomReport n => Sys2Proof.Machine.execHeadroomReport n s
  | .ageDue n => Sys2Proof.Machine.execAgeDue n s
  | .ageSampleReq w => Sys2Proof.Machine.execAgeSampleReq w s
  | .ageSampleDone n ratio => Sys2Proof.Machine.execAgeSampleDone n ratio s
  | .startFail n => Sys2Proof.Machine.execStartFail n s
  | .droopTrip n readings early => Sys2Proof.Machine.execDroopTrip n readings early s
  | .droopRunEnd n => Sys2Proof.Machine.execDroopRunEnd n s
  | .dsStuck n sensor => Sys2Proof.Machine.execDsStuck n sensor s
  | .dsQuarantineClear w => Sys2Proof.Machine.execDsQuarantineClear w s
  | .dsEnable w => Sys2Proof.Machine.execDsEnable w s
  | .park n => Sys2Proof.Machine.execPark n s
  | .parkRelease n => Sys2Proof.Machine.execParkRelease n s
  | .slipFault n edge => Sys2Proof.Machine.execSlipFault n edge s
  | .causeTagExpiry n => Sys2Proof.Machine.execCauseTagExpiry n s
  | .changeBroadcast n => Sys2Proof.Machine.execChangeBroadcast n s
  | .changeAtC n => Sys2Proof.Machine.execChangeAtC n s
  | .islandRecompute g => Sys2Proof.Machine.execIslandRecompute g s
  | .ptrCheck n upset => Sys2Proof.Machine.execPtrCheck n upset s
  | .pointerLoad n => Sys2Proof.Machine.execPointerLoad n s
  | .resyncInitiate n => Sys2Proof.Machine.execResyncInitiate n s
  | .resyncReqSeen n e wr => Sys2Proof.Machine.execResyncReqSeen n e wr s
  | .resyncAckSeen n e wr => Sys2Proof.Machine.execResyncAckSeen n e wr s
  | .resyncReqLowSeen n e wr u => Sys2Proof.Machine.execResyncReqLowSeen n e wr u s
  | .resyncAckLowSeen n e wr => Sys2Proof.Machine.execResyncAckLowSeen n e wr s
  | .xingFence w => Sys2Proof.Machine.execXingFence w s
  | .trimEnd g => Sys2Proof.Machine.execTrimEnd g s
  | .alignFail g => Sys2Proof.Machine.execAlignFail g s
  | .groupTarget g target => Sys2Proof.Machine.execGroupTarget g target s
  | .groupStepStart g => Sys2Proof.Machine.execGroupStepStart g s
  | .voltConfirm g => Sys2Proof.Machine.execVoltConfirm g s
  | .voltTimeout g => Sys2Proof.Machine.execVoltTimeout g s
  | .groupStepEnd g => Sys2Proof.Machine.execGroupStepEnd g s
  | .regionTargetN w => Sys2Proof.Machine.execRegionTargetN w s
  | .regionStopStart => Sys2Proof.Machine.execRegionStopStart s
  | .quiesceAck epoch => Sys2Proof.Machine.execQuiesceAck epoch s
  | .quiesceTimeout => Sys2Proof.Machine.execQuiesceTimeout s
  | .stopCommand n => Sys2Proof.Machine.execStopCommand n s
  | .stopAck n => Sys2Proof.Machine.execStopAck n s
  | .regionRestart n => Sys2Proof.Machine.execRegionRestart n s
  | .restartReport n => Sys2Proof.Machine.execRestartReport n s
  | .sweepStart n => Sys2Proof.Machine.execSweepStart n s
  | .laneResponse n vld data => Sys2Proof.Machine.execLaneResponse n vld data s
  | .windowClose n => Sys2Proof.Machine.execWindowClose n s
  | .windowReport f => Sys2Proof.Machine.execWindowReport f s
  | .fastCapUpdate f => Sys2Proof.Machine.execFastCapUpdate f s
  | .episodeClose g => Sys2Proof.Machine.execEpisodeClose g s
  | .thermalRead n readings => Sys2Proof.Machine.execThermalRead n readings s
  | .calDecision d => Sys2Proof.Machine.execCalDecision d s
  | .calSign n => Sys2Proof.Machine.execCalSign n s
  | .weightWindowWrite off be val => Sys2Proof.Machine.execWeightWindowWrite off be val s
  | .calResetReq w => Sys2Proof.Machine.execCalResetReq w s
  | .estWeightFactory w => Sys2Proof.Machine.execEstWeightFactory w s
  | .estShift w => Sys2Proof.Machine.execEstShift w s
  | .slowLoopTick => Sys2Proof.Machine.execSlowLoopTick s
  | .floorRateUpdate g => Sys2Proof.Machine.execFloorRateUpdate g s
  | .limitRecompute => Sys2Proof.Machine.execLimitRecompute s
  | .hotNAssert => Sys2Proof.Machine.execHotNAssert s
  | .hotNRelease => Sys2Proof.Machine.execHotNRelease s
  | .capNWindow low => Sys2Proof.Machine.execCapNWindow low s
  | .opTable w => Sys2Proof.Machine.execOpTable w s
  | .fixedRateEnable w => Sys2Proof.Machine.execFixedRateEnable w s
  | .fixedRateN w => Sys2Proof.Machine.execFixedRateN w s
  | .groupShare w => Sys2Proof.Machine.execGroupShare w s
  | .phaseNext q => Sys2Proof.Machine.execPhaseNext q s
  | .phaseBegin q => Sys2Proof.Machine.execPhaseBegin q s
  | .preferredPoint q => Sys2Proof.Machine.execPreferredPoint q s
  | .occurrenceTimeout g => Sys2Proof.Machine.execOccurrenceTimeout g s
  | .preposOffsetSet g => Sys2Proof.Machine.execPreposOffsetSet g s
  | .preposOffsetRemove g => Sys2Proof.Machine.execPreposOffsetRemove g s
  | .prClear w => Sys2Proof.Machine.execPrClear w s
  | .prRearm w => Sys2Proof.Machine.execPrRearm w s
  | .prPolicy w => Sys2Proof.Machine.execPrPolicy w s
  | .phaseTableWrite off be val => Sys2Proof.Machine.execPhaseTableWrite off be val s
  | .bxRoundBoundary stalled => Sys2Proof.Machine.execBxRoundBoundary stalled s
  | .bxEpochLoad w => Sys2Proof.Machine.execBxEpochLoad w s
  | .bxEpochExpired => Sys2Proof.Machine.execBxEpochExpired s
  | .epochLate => Sys2Proof.Machine.execEpochLate s
  | .round peer frame => Sys2Proof.Machine.execRound peer frame s
  | .directiveRead peer frame => Sys2Proof.Machine.execDirectiveRead peer frame s
  | .directiveWrite peer frame => Sys2Proof.Machine.execDirectiveWrite peer frame s
  | .slackReport ns => Sys2Proof.Machine.execSlackReport ns s
  | .regionPartition w => Sys2Proof.Machine.execRegionPartition w s
  | .reportSnapReq w => Sys2Proof.Machine.execReportSnapReq w s
  | .runStart w => Sys2Proof.Machine.execRunStart w s
  | .runStop w => Sys2Proof.Machine.execRunStop w s
  | .mark => Sys2Proof.Machine.execMark s
  | .tlm k ch tag data => Sys2Proof.Machine.execTlm k ch tag data s
  | .identify k phases tag data => Sys2Proof.Machine.execIdentify k phases tag data s
  | .readRating k tag status data => Sys2Proof.Machine.execReadRating k tag status data s
  | .setVoltage k tag status => Sys2Proof.Machine.execSetVoltage k tag status s
  | .readVoltage k tag status data => Sys2Proof.Machine.execReadVoltage k tag status data s
  | .tlmEnable k tag status => Sys2Proof.Machine.execTlmEnable k tag status s
  | .readStatus k tag status data => Sys2Proof.Machine.execReadStatus k tag status data s
  | .clearFault k tag status => Sys2Proof.Machine.execClearFault k tag status s
  | .respTimeout k tag => Sys2Proof.Machine.execRespTimeout k tag s
  | .linkSilent k => Sys2Proof.Machine.execLinkSilent k s
  | .railRecover w => Sys2Proof.Machine.execRailRecover w s
  | .mbPost q => Sys2Proof.Machine.execMbPost q s
  | .mbTake q => Sys2Proof.Machine.execMbTake q s
  | .mbPeek q => Sys2Proof.Machine.execMbPeek q s
  | .doorbellRead q => Sys2Proof.Machine.execDoorbellRead q s
  | .noticeRead q => Sys2Proof.Machine.execNoticeRead q s
  | .mbRemoteComplete ix => Sys2Proof.Machine.execMbRemoteComplete ix s
  | .doorbellRing q => Sys2Proof.Machine.execDoorbellRing q s
  | .lockAcquire q => Sys2Proof.Machine.execLockAcquire q s
  | .lockRelease q => Sys2Proof.Machine.execLockRelease q s
  | .lockRead q => Sys2Proof.Machine.execLockRead q s
  | .epReservedOp op q => Sys2Proof.Machine.execEpReservedOp op q s
  | .requesterReset id => Sys2Proof.Machine.execRequesterReset id s
  | .mbTimedOut m => Sys2Proof.Machine.execMbTimedOut m s
  | .lockForce ix w => Sys2Proof.Machine.execLockForce ix w s
  | .lockHostAcquire ix => Sys2Proof.Machine.execLockHostAcquire ix s
  | .lockHostRelease ix val => Sys2Proof.Machine.execLockHostRelease ix val s
  | .hostDbRing val => Sys2Proof.Machine.execHostDbRing val s
  | .semaphorePost => Sys2Proof.Machine.execSemaphorePost s
  | .postStatus tag status => Sys2Proof.Machine.execPostStatus tag status s
  | .syPostTimeout tag => Sys2Proof.Machine.execSyPostTimeout tag s
  | .dictRead q => Sys2Proof.Machine.execDictRead q s
  | .dictWrite q => Sys2Proof.Machine.execDictWrite q s
  | .objectWrite index sub w => Sys2Proof.Machine.execObjectWrite index sub w s
  | .remoteAccessComplete ix => Sys2Proof.Machine.execRemoteAccessComplete ix s
  | .expertUnlock w => Sys2Proof.Machine.execExpertUnlock w s
  | .expertUnlockExpiry => Sys2Proof.Machine.execExpertUnlockExpiry s
  | .persistFlush w => Sys2Proof.Machine.execPersistFlush w s
  | .persistCommit => Sys2Proof.Machine.execPersistCommit s
  | .auditSummary => Sys2Proof.Machine.execAuditSummary s
  | .auditMerge => Sys2Proof.Machine.execAuditMerge s
  | .idxRead addr ctl => Sys2Proof.Machine.execIdxRead addr ctl s
  | .idxWrite addr buf ctl => Sys2Proof.Machine.execIdxWrite addr buf ctl s
  | .idxDone => Sys2Proof.Machine.execIdxDone s
  | .fdpRead q => Sys2Proof.Machine.execFdpRead q s
  | .fdpWrite q => Sys2Proof.Machine.execFdpWrite q s
  | .fdpSessionTimeout => Sys2Proof.Machine.execFdpSessionTimeout s
  | .fdpResponseDrop => Sys2Proof.Machine.execFdpResponseDrop s
  | .fbClassic => Sys2Proof.Machine.execFbClassic s
  | .fbBusOff => Sys2Proof.Machine.execFbBusOff s
  | .fbBusOffRecovery => Sys2Proof.Machine.execFbBusOffRecovery s
  | .fondantCommit => Sys2Proof.Machine.execFondantCommit s
  | .fondantRecordDone ok => Sys2Proof.Machine.execFondantRecordDone ok s
  | .fondantRepair => Sys2Proof.Machine.execFondantRepair s
  | .fondantRelocate => Sys2Proof.Machine.execFondantRelocate s
  | .fondantCredit => Sys2Proof.Machine.execFondantCredit s
  | .pralineSnapshot => Sys2Proof.Machine.execPralineSnapshot s
  | .fnSnapReq w => Sys2Proof.Machine.execFnSnapReq w s
  | .dailyCommit => Sys2Proof.Machine.execDailyCommit s
  | .lcArm w => Sys2Proof.Machine.execLcArm w s
  | .lcArmExpiry => Sys2Proof.Machine.execLcArmExpiry s
  | .lcRequest w => Sys2Proof.Machine.execLcRequest w s
  | .lcTransition => Sys2Proof.Machine.execLcTransition s
  | .fondantWipe => Sys2Proof.Machine.execFondantWipe s
  | .fnFormatReq w => Sys2Proof.Machine.execFnFormatReq w s
  | .regionCycle n io => Sys2Proof.Machine.execRegionCycle n io s
  | .damagedFrame k frame => Sys2Proof.Machine.execDamagedFrame k frame s
  | .budgetFrameDrop peer beats err frame => Sys2Proof.Machine.execBudgetFrameDrop peer beats err frame s
  | .fdpMalformed q => Sys2Proof.Machine.execFdpMalformed q s

end Sys2Proof.Machine
end

