-- ==== Sys2Proof/Machine/Pins.lean ====
section
/-! DEFINITION. The output signals of the block between commands (R42), read off the state: each holds its reset value until the
step of start-up that first drives it.  What a signal does within a transfer (beats, bits, serial data) no command shows
(log 60). -/

set_option Elab.async false

namespace Sys2Proof.Machine
open Sys2Proof

/-- RGN_CK[n]: whether the oscillator drives the root of region `n`; low otherwise. -/
def State.pinRgnCk (s : State) (n : Nat) : Bool := s.clocked n
/-- ACT_REQ and ACT_ADDR of region `n`. -/
def State.pinAct (s : State) (n : Nat) : Bool × Nat := ((s.ee n).actReq, (s.ee n).actAddr % 512)

/-- The power-switch outputs of a domain: PD_EN_CORE, PD_EN_RTR, ISO_EN_CORE, ISO_EN_RTR, RET_SAVE, RET_RESTORE. -/
structure PdPins where
  enCore : Bool := true
  enRtr : Bool := true
  isoCore : Bool := true
  isoRtr : Bool := true
  retSave : Bool := false
  retRestore : Bool := false
  deriving DecidableEq, Repr

/-- The power-switch outputs of domain `d`. -/
def State.pinPd (s : State) (d : Nat) : PdPins where
  enCore := (s.d d).enCore
  enRtr := (s.d d).enRtr
  isoCore := (s.d d).isoCore
  isoRtr := (s.d d).isoRtr
  retSave := (s.d d).retSave
  retRestore := (s.d d).retRestore

/-- RZ_CLK[k] runs from the enumeration of link `k` on; RZ_TX[k] is 1 between frames. -/
def State.pinRz (s : State) (k : Nat) : Bool × Bool := ((s.l k).clock, true)

/-- The outputs of the host port: HP_RDY, and HP_RSP, HP_RDATA and HP_RETRY of the latest response.  HP_RSP_VLD is 1 for the one
HP_CLK cycle that presents it (R447), and 0 between commands. -/
structure HpPins where
  rdy : Bool := false
  rspVld : Bool := false
  rsp : Nat := 0
  rdata : Nat := 0
  retry : Nat := 0
  deriving DecidableEq, Repr

/-- The response class of a status number (R449). -/
def rspOf (status : Nat) : Nat :=
  if status = 0 then 0 else if status = 1 ∨ status = 2 then 2 else if status = 3 ∨ status = 8 ∨ status = 9 then 3 else 1

/-- The outputs of the host port. -/
def State.pinHp (s : State) : HpPins :=
  if s.su.released then
    { rdy := s.hpReady
      rsp := rspOf s.ports.host.status
      rdata := s.ports.host.data % 2 ^ 64
      retry := s.ports.host.retry }
  else {}

/-- FB_TXD, recessive between frames, and FB_STBY. -/
def State.pinFb (s : State) : Bool × Bool := (true, s.fdp.standby)

/-- The outputs of the budget-frame port: NB_TX_VLD with NB_TX_PEER and the first beat of the frame at the head of the queue,
NB_TX_LAST, and NB_RX_RDY, 1 once CTL runs. -/
structure NbPins where
  txVld : Bool := false
  txPeer : Nat := 0
  txData : Nat := 0
  txLast : Bool := false
  rxRdy : Bool := false
  deriving DecidableEq, Repr

/-- The outputs of the budget-frame port. -/
def State.pinNb (s : State) : NbPins :=
  match s.budget.tx with
  | x :: _ => { txVld := true, txPeer := x.slot % 8, txData := bytesAt x.frame 0 8, rxRdy := s.isReady .ctl }
  | [] => { rxRdy := s.isReady .ctl }

/-- The outputs of the engine port: EP_REQ_RDY, EP_RSP_VLD, EP_RSP_ID, EP_RSP_STATUS, EP_RSP_DATA. -/
structure EpPins where
  reqRdy : Bool := false
  rspVld : Bool := false
  rspId : Nat := 0
  rspStatus : Nat := 0
  rspData : Nat := 0
  deriving DecidableEq, Repr

/-- The outputs of the engine port. -/
def State.pinEp (s : State) : EpPins where
  reqRdy := s.epReady
  rspVld := s.ports.rspVld
  rspId := s.ports.rspId
  rspStatus := s.ports.rspStatus
  rspData := s.ports.rspData

/-- The outputs of the sync port: the quiesce request and the semaphore post. -/
structure SyPins where
  qreqVld : Bool := false
  qreqOp : Bool := false
  qreqRegion : Nat := 0
  qreqEpoch : Nat := 0
  postVld : Bool := false
  postCtx : Nat := 0
  postSem : Nat := 0
  postTag : Nat := 0
  deriving DecidableEq, Repr

/-- The mailbox whose post the port presents until SY_POST_RDY takes it (R402, R405). -/
def State.postDue (s : State) : Option Nat := if s.mayPost then s.nextPost else none

/-- The outputs of the sync port: a post is held until it is accepted; a quiesce or release is accepted as it is raised, and its VLD is
back at 0 between commands (log 109). -/
def State.pinSy (s : State) : SyPins where
  qreqOp := s.stop.qreqOp
  qreqRegion := s.stop.qreqRegion
  qreqEpoch := s.stop.qreqEpoch
  postVld := s.postDue.isSome
  postCtx := (s.postDue.map fun m => bits (s.rd .MB_SEM m) 16 12).getD s.ports.postCtx
  postSem := (s.postDue.map fun m => bits (s.rd .MB_SEM m) 0 16).getD s.ports.postSem
  postTag := if s.postDue.isSome then s.ports.nextTag else s.ports.postTag

/-- JOB_RST_REQ, and ALERT_N (true is released). -/
def State.pinBoard (s : State) : Bool × Bool := (s.su.jobRstReq, s.flt.alertN)

/-- The outputs of the serial port of device `d` (0 A, 1 B): SPA_CS_N or SPB_CS_N, low while a commit writes the device; SCK, low,
and IO, driven by none (0), between the transfers in which they move. -/
structure SpPins where
  csN : Bool := true
  sck : Bool := false
  io : Nat := 0
  deriving DecidableEq, Repr

/-- The outputs of the serial port of device `d`. -/
def State.pinSp (s : State) (d : Nat) : SpPins where
  csN := (s.fon.cur.map fun c => c.dev != d).getD true

/-- Every output holds the reset value of R42, as far as it holds one between commands: those of region, domain and link `k`, of
the ports and of the board. -/
def State.pinsReset (s : State) (k : Nat) : Bool :=
  !s.pinRgnCk k && s.pinAct k == (false, 0) && s.pinPd k == {} && s.pinRz k == (false, true) && s.pinHp == {}
    && s.pinFb == (true, true) && s.pinNb == {} && s.pinEp == {} && s.pinSy == {} && s.pinBoard == (false, true)
    && s.pinSp 0 == {} && s.pinSp 1 == {}

end Sys2Proof.Machine
end

