-- ==== Sys2Proof/Safety.lean ====
section
/-! DEFINITION. The terms that claims use: the canonical form of the state, and what a command leaves unchanged. -/

set_option Elab.async false

namespace Sys2Proof.Machine
open Sys2Proof

/-- An entry of the object store belongs to an object, fits its width (R413) and differs from its default. -/
def State.objFits (s : State) (x : Nat × Nat) : Bool :=
  let k := Nat.unpair x.1
  let q := Nat.unpair k.2
  let o := Obj.ofNat k.1
  o.ctorIdx == k.1 && decide (x.2 < 2 ^ objBits o) && x.2 != s.dflt o q.2 q.1

/-- The canonical form: equal contents of the block are equal data. The object store lists each value once, in the order
of its keys, within its object's width and never at its default; every record table does so for its records. -/
def State.canon (s : State) : Bool :=
  s.objs.rising && s.objs.all s.objFits && s.rgn.canon {} && s.est.canon {} && s.lane.canon {} && s.ts.canon {}
    && s.cell.canon {} && s.fld.canon {} && s.grp.canon {} && s.dom.canon {} && s.link.canon {} && s.rail.canon {}
    && s.box.canon {} && s.hop.canon {} && s.phase.canon 0

/-- The parts of the state beside the objects, the build and the queue. -/
inductive Part where
  | held | clock | refs | su | flt | inj | rgn | est | lane | ts | cell | fld | grp | dom | pdWakes | pdCmds | pdLast |
  link | rail | stop | caps | dict | hop | freeN | box | ports | energy | phase | budget | idx | fdp | flash |
  fon
  deriving DecidableEq, Repr

/-- A part is the same in two states. -/
def Part.same (p : Part) (s t : State) : Prop :=
  match p with
  | .held => t.held = s.held
  | .clock => t.clock = s.clock
  | .refs => t.refs = s.refs
  | .su => t.su = s.su
  | .flt => t.flt = s.flt
  | .inj => t.inj = s.inj
  | .rgn => t.rgn = s.rgn
  | .est => t.est = s.est
  | .lane => t.lane = s.lane
  | .ts => t.ts = s.ts
  | .cell => t.cell = s.cell
  | .fld => t.fld = s.fld
  | .grp => t.grp = s.grp
  | .dom => t.dom = s.dom
  | .pdWakes => t.pdWakes = s.pdWakes
  | .pdCmds => t.pdCmds = s.pdCmds
  | .pdLast => t.pdLast = s.pdLast
  | .link => t.link = s.link
  | .rail => t.rail = s.rail
  | .stop => t.stop = s.stop
  | .caps => t.caps = s.caps
  | .dict => t.dict = s.dict
  | .hop => t.hop = s.hop
  | .freeN => t.freeN = s.freeN
  | .box => t.box = s.box
  | .ports => t.ports = s.ports
  | .energy => t.energy = s.energy
  | .phase => t.phase = s.phase
  | .budget => t.budget = s.budget
  | .idx => t.idx = s.idx
  | .fdp => t.fdp = s.fdp
  | .flash => t.flash = s.flash
  | .fon => t.fon = s.fon

/-- `t` holds what logging one event in `s` leaves: the record in its slot, the counters, the alert (R526, R528). -/
def State.Logged (s t : State) (code elem data : Nat) (injected : Bool) : Prop :=
  bits (t.rd .EVENT_PAGE 0 (s.rd .EVENT_NEXT / 256)) (128 * (s.rd .EVENT_NEXT % 256)) 128
      = evRecord s.T code (injected.toNat + if (evCategory code).isSome then 2 else 0) elem data
    ∧ t.rd .EVENT_NEXT = (s.rd .EVENT_NEXT + 1) % 1024
    ∧ t.rd .EVENT_SEQ = (s.rd .EVENT_SEQ + 1) % 2 ^ 32
    ∧ ∀ k, evCategory code = some k → t.flag .ALERT_STATUS k = true

/-- `t` holds what one fault raised in `s` leaves: its line driven and its report the last on the way (R24). -/
def State.Faulted (s t : State) (cls : FaultClass) (unit elem detail : Nat) (injected : Bool) : Prop :=
  t.flt.line = true ∧ t.flt.reports = s.flt.reports ++ [{
    cls := cls.code, unit := unit, element := elem, detail := detail, injected := injected, time := s.T }]

/-- `t` holds what one answer on the engine port leaves in `s`: requester, status, data, one response more (R45). -/
def State.Answered (s t : State) (id : Nat) (c : Code) (data : Nat) : Prop :=
  t.ports.rspVld = true ∧ t.ports.rspId = id ∧ t.ports.rspStatus = c.num ∧ t.ports.rspData = data % 2 ^ 64
    ∧ t.ports.rspCount = s.ports.rspCount + 1

/-- A request offered on the engine port is accepted, read and served now: EP_REQ_RDY is 1, fewer than 16 wait, none of them in
the queue before it, and its word there is whole (R41, R42, R45). -/
abbrev State.EpTakes (s : State) : Prop :=
  s.epReady = true ∧ s.epWaiting < 16 ∧ s.ports.epq = [] ∧ s.flipAt .queues 0 48 = none

/-- A request offered on the host port is accepted, read and served now: HP_RDY is 1, CTL does not stand still, no request
before it waits, and its word in the queue is whole (R34, R41, R446, R447). -/
abbrev State.HpTakes (s : State) : Prop :=
  s.hpReady = true ∧ s.hostBlocked = false ∧ s.flipAt .queues 0 0 = none

/-- The deepest depth among the thresholds that sample `x` trips in a sensor of region `n` that is enabled and not
quarantined (R102). -/
def State.sampleDepth (s : State) (n : Nat) (x : DsSample) : Nat :=
  maxOf ((x.readings.filter fun y => s.sensorActive n y.1).map fun y => tripDepthOf (s.thresholds n) y.2)

/-- `t` holds what one count of a saturating counter of `s` leaves. -/
def State.Counted (s t : State) (o : Obj) (e : Nat := 0) : Prop := t.rd o e = satAdd (objBits o) (s.rd o e) 1

/-- An access that writes offset `i` of object `o` passes every check of R14 and is carried out at once: the object is not busy,
no check fails, no word of the RAM is flipped by an injection, and the object is not REMOTE in this build. -/
abbrev State.Passes (s : State) (a : Access) (o : Obj) (i : Nat) : Prop :=
  a.obj = some (o, i) ∧ s.busyOf o a.el a.val = false ∧ s.checkWrite a o i = none ∧ s.isRemote o = false ∧ s.inj.flips = []

/-- The host port, where the write comes from the host, takes it now, CTL running. -/
abbrev State.Admits (s : State) (src : Src) : Prop := src = .host → s.HpTakes ∧ s.isReady .ctl = true

/-- A write that its port takes, passes every check of R14 and is carried out at once. -/
abbrev State.Carries (s : State) (a : Access) (o : Obj) (i : Nat) : Prop := s.Admits a.src ∧ s.Passes a o i

/-- A write command `w` of object `o`'s own row is carried out. -/
abbrev State.Accepts (s : State) (o : Obj) (i : Nat) (w : Wr) : Prop := s.Carries (writeOf o i w) o i

/-- A write of this object stores the value given as it is, and no other command changes what it holds but a restore. -/
def plainWrite (o : Obj) : Bool :=
  !isCommand o && !([Obj.DOMAIN_TARGET, .REGION_TARGET_N, .XING_FENCE, .DS_ENABLE, .DS_QUARANTINE, .OP_TABLE,
    .FIXED_RATE_ENABLE, .FIXED_RATE_N, .OP_MAX, .HOT_ENTRY, .RUN_CTL, .EST_WEIGHT_FACTORY, .EST_SHIFT, .PR_POLICY, .REF_PREFER,
    .TIME_SET, .TIME_OFFSET_ADJ, .BX_EPOCH_LOAD, .BX_ENABLE, .EXPERT_UNLOCK, .LC_REQUEST, .ALERT_ACK, .ALERT_MASK,
    .FIELD_TEST_PERMIT, .REGION_EXCLUDED].contains o)

/-- A commit of purpose `w` has been asked for: it waits, or it is in flight (R471). -/
def State.Asked (t : State) (w : Why) : Prop := (∃ b, (w, b) ∈ t.fon.due) ∨ ∃ c, t.fon.cur = some c ∧ c.why = w

/-- `t` holds what a carried-out write leaves in `s` beside its effect: the answer OK and the count of its class (R441). -/
def State.WroteOk (s t : State) (w : Wr) : Prop :=
  t.dict.answer.status = Code.ok.num
    ∧ t.rd .AUDIT_OK 0 (s.classOf w.src) = satAdd (objBits .AUDIT_OK) (s.rd .AUDIT_OK 0 (s.classOf w.src)) 1

end Sys2Proof.Machine
end

