-- ==== Sys2Proof/Machine/Reach.lean ====
section
/-! DEFINITION. The frame of each command: the objects and the parts of the state that it may change. Nothing else
changes, whatever the operands and the state. -/

set_option Elab.async false

namespace Sys2Proof.Machine
open Sys2Proof

/-- What a command may change: objects (any object, where a command writes or restores whichever object its operands or
the flash name) and parts. -/
structure Reach where
  any : Bool := false
  objs : List Obj := []
  parts : List Part := []
  deriving DecidableEq, Repr

/-- `t` differs from `s` within a reach alone; the build never changes. -/
def Within (r : Reach) (s t : State) : Prop :=
  (∀ o e i, r.any = false → o ∉ r.objs → t.rd o e i = s.rd o e i) ∧ t.build = s.build ∧ ∀ p, p ∉ r.parts → p.same s t

/-- The objects of a voltage request (R182, R374). -/
def voltObjs : List Obj :=
  [.FIELD_VNEED, .FIELD_VOLT, .FIELD_VOLT_AT_CEIL, .PR_OFFSET, .RAIL_RETRIES, .RAIL_STATUS]

/-- The objects of a commit asked for (R428, R471, R485). -/
def commitObjs : List Obj :=
  [.FN_SNAP_DEFERRALS, .FN_STATUS, .PERSIST_DEFERRED, .PERSIST_FLUSH]

/-- The objects of the event log and of ALERT_N (R526, R528). -/
def eventObjs : List Obj :=
  [.ALERT_STATUS, .EVENT_NEXT, .EVENT_OVERWRITTEN, .EVENT_PAGE, .EVENT_SEQ]

/-- The objects of the audit log (R435 to R438). -/
def auditObjs : List Obj :=
  [.AUDIT_MERGED, .AUDIT_NEXT, .AUDIT_OK, .AUDIT_OVERWRITTEN, .AUDIT_REFUSED, .AUDIT_SEQ]

/-- The objects that the failure of a rail reaches (R284, R368, R380). -/
def railObjs : List Obj :=
  eventObjs ++
  [.COMPUTE_LIMIT, .COMPUTE_LIMIT_REASON, .DOMAIN_STATE, .FIELD_LIMIT, .FIELD_LIMIT_REASON, .FIELD_VNEED,
   .FIELD_VOLT, .FIELD_VOLT_AT_CEIL, .GROUP_CEIL_REASON, .GROUP_CHG_ABORTS, .GROUP_CHG_RESULT, .GROUP_CHG_STATE,
   .GROUP_LIMIT, .GROUP_TARGET_N, .MB_COUNT, .MB_DISCARDS, .OP_CEIL_ENTRY, .RAIL_DEGRADE_EVENTS, .RAIL_RECOVER,
   .RAIL_RETRIES, .RAIL_STATE, .RAIL_STATUS, .RAIL_TIMEOUTS, .REGION_STOP_ABORTS, .REGION_STOP_RESULT,
   .REGION_STOP_STATE, .SY_POST_OVERFLOW, .UNIT_READY]

/-- The objects of a halt of the groups (R509). -/
def haltObjs : List Obj :=
  eventObjs ++
  [.CAP_STATUS, .DS_STATUS, .EPISODE, .EPISODE_NEXT, .EPISODE_OPEN_REASON, .EPISODE_OVERWRITTEN, .EPISODE_SEQ,
   .EPISODE_SHORT, .EXCLUDED_MAP, .FAST_DUTY, .FAULT_LATER_COUNT, .FIELD_VNEED, .FIELD_VOLT, .FIELD_VOLT_AT_CEIL,
   .FLOOR_RATE, .FLOOR_STATE, .GROUP_CHG_ABORTS, .GROUP_CHG_RESULT, .GROUP_CHG_STATE, .INJ_ARM, .INJ_COUNT,
   .INJ_RESULT, .JOB_RESETS, .LOCK, .MB_COUNT, .OSC_CODE, .OSC_STATUS, .OSC_TARGET_N, .PR_CUR_TAG, .PR_DISCARDED,
   .PR_NEXT_TAG, .RAIL_RETRIES, .RAIL_STATUS, .REGION_COUNT, .REGION_EXCLUDE_CAUSE, .REGION_STOP_ABORTS,
   .REGION_STOP_RESULT, .REGION_STOP_STATE, .REGION_TIME, .RUN_STATUS, .SLIP, .START_STATE, .STRETCH_E_FLOOR,
   .STRETCH_HOLDS, .SY_QUIESCES, .TETHER_STATUS, .TRIM_MODE, .UNIT_READY, .XING_DISCARD, .XING_RESYNCS]

/-- Every part. -/
def allParts : List Part :=
  [.held, .clock, .refs, .su, .flt, .inj, .rgn, .est, .lane, .ts, .cell, .fld, .grp, .dom, .pdWakes, .pdCmds,
   .pdLast, .link, .rail, .stop, .caps, .dict, .hop, .freeN, .box, .ports, .energy, .phase, .budget, .idx, .fdp,
   .flash, .fon]

/-- The parts that a write of some object reaches. -/
def writeParts : List Part :=
  [.held, .clock, .refs, .su, .flt, .inj, .rgn, .est, .lane, .cell, .fld, .grp, .dom, .pdWakes, .pdCmds, .link,
   .rail, .stop, .caps, .dict, .freeN, .box, .ports, .energy, .phase, .budget, .idx, .fdp, .flash, .fon]

/-- What each command may change. -/
def reach (i : Instr) : Reach :=
  match i with
  | .coldReset => { any := true, parts := allParts }
  | .warmReset => { any := true, parts := allParts }
  | .powerUp => { objs := [.COLD_RESETS, .ICROSS_RESYNCS, .REPORT_EPOCH, .UNIT_READY], parts := [.su, .flt, .freeN] }
  | .refSelect => {
      objs := eventObjs ++ [.CLOCK_SOURCE, .OSC_STATUS, .REF_STATUS, .REF_SWITCHES, .UNIT_READY]
      parts := [.clock, .refs, .flt, .rgn, .freeN] }
  | .fondantMount _ _ => {
      objs := eventObjs ++ [.FN_DEV_A_SECTORS, .FN_DEV_B_SECTORS, .FN_HEAD_SEQ, .FN_LOST_PARTS, .FN_RING,
        .FN_ROLLBACKS, .FN_STATUS, .LC_HISTORY, .LC_STATE, .UNIT_READY]
      parts := [.flt, .flash, .fon] }
  | .excludedMapApply => { any := true, parts := [.su, .dict, .fon] }
  | .railEnumeration => {
      objs := [.LINK_STATE, .RAIL_RETRIES, .RAIL_STATE, .RAIL_STATUS, .UNIT_READY]
      parts := [.su, .link, .rail] }
  | .coldCalibration _ => {
      objs := [.CAL_CURVE, .DS_LINE_TRIM, .FIELD_VOLT, .RAIL_RETRIES, .RAIL_STATUS]
      parts := [.su, .ts, .fld, .link, .rail, .freeN, .fon] }
  | .oscStart => {
      objs := [.ARM_NEW_EXCLUDED, .CAP_STATUS, .DS_QUARANTINE, .DS_STATUS, .EST_STATUS, .FAST_DUTY, .GROUP_ANCHOR,
        .GROUP_CEIL_REASON, .GROUP_CHG_RESULT, .GROUP_CHG_STATE, .GROUP_DIAMETER, .GROUP_N, .GROUP_TARGET_N,
        .OP_CEIL_ENTRY, .OP_POWER_ENTRY, .OSC_CODE, .OSC_PERMIT_MAX, .OSC_STATUS, .OSC_TARGET_N, .PR_GROUP_TABLE,
        .PR_LFSR, .REGION_COUNT, .REGION_DETACHED, .REGION_EXCLUDED_ACTIVE, .REGION_STOP_RESULT, .SLIP,
        .START_STATE, .TETHER_GROUP_ACTIVE, .TETHER_STATUS, .TRIM_MODE, .UNIT_READY, .XING_FENCE]
      parts := [.su, .rgn, .est, .lane, .cell, .fld, .grp, .freeN] }
  | .countRelease _ => { objs := [.OSC_STATUS, .REGION_COUNT, .UNIT_READY], parts := [.rgn, .est, .cell] }
  | .isoRelease => { objs := [.UNIT_READY], parts := [.dom] }
  | .mailboxOpen => { any := true, parts := [.clock, .refs, .flt, .rgn, .rail, .caps, .dict, .freeN, .fdp] }
  | .startRamp => {
      objs := [.FIELD_VNEED, .FIELD_VOLT, .FIELD_VOLT_AT_CEIL, .GROUP_CEIL_REASON, .GROUP_CHG_ABORTS,
        .GROUP_CHG_RESULT, .GROUP_CHG_STATE, .GROUP_TARGET_N, .OP_CEIL_ENTRY, .RAIL_RETRIES, .RAIL_STATUS,
        .START_STATE]
      parts := [.su, .fld, .grp, .link, .rail] }
  | .blockReady => {
      objs := haltObjs ++ [.ARM_SEQ, .DOMAIN_STATE, .FAULT_DIGEST, .FAULT_HISTORY, .FAULT_TIME, .INJ_JOB_FAULTS,
        .JOB_FAULTS, .LAST_ARM_TIME, .MB_DISCARDS, .READY_TIME, .SY_POST_OVERFLOW]
      parts := [.su, .flt, .inj, .rgn, .est, .cell, .fld, .grp, .dom, .pdWakes, .pdCmds, .link, .rail, .stop, .caps, .dict, .box, .ports] }
  | .dictOpen => { any := true, parts := [.est, .dict] }
  | .budgetOpen => { objs := [.UNIT_READY], parts := [.budget] }
  | .estimatorReady => { objs := [.UNIT_READY], parts := [] }
  | .pralineOpen => { objs := [.FN_SNAP_LAST, .FN_STATUS, .PR_GROUP_TABLE, .UNIT_READY], parts := [.phase, .fon] }
  | .startupWatchdog => { objs := eventObjs ++ [.START_STATE, .WATCHDOG_EXPIRIES], parts := [.su, .flt] }
  | .selfResetReq _ => {
      objs := auditObjs ++ eventObjs ++ commitObjs ++ [.AUDIT_SUMMARIES, .FN_THINNED, .HP_DENIED, .HP_ERRORS,
        .HP_LAST_STATUS, .HP_NOTREADY, .HP_REQUESTS, .INJ_ARM, .INJ_COUNT, .INJ_RESULT, .SELF_RESET_REQ, .SRAM_CE,
        .SRAM_UE]
      parts := [.su, .flt, .inj, .dict, .ports, .fon] }
  | .selfResetApply => { any := true, parts := allParts }
  | .jobResetHalt => {
      objs := haltObjs
      parts := [.su, .flt, .inj, .rgn, .est, .cell, .fld, .grp, .link, .rail, .stop, .caps, .dict, .box, .ports] }
  | .warmRearm => {
      objs := haltObjs ++ [.ARM_NEW_EXCLUDED, .ARM_SEQ, .DOMAIN_STATE, .DS_QUARANTINE, .EST_STATUS, .FAULT_DIGEST,
        .FAULT_HISTORY, .FAULT_TIME, .GROUP_ANCHOR, .GROUP_CEIL_REASON, .GROUP_DIAMETER, .GROUP_N, .GROUP_TARGET_N,
        .INJ_JOB_FAULTS, .JOB_FAULTS, .LAST_ARM_TIME, .MB_DISCARDS, .OP_CEIL_ENTRY, .OP_POWER_ENTRY,
        .OSC_PERMIT_MAX, .PR_GROUP_TABLE, .PR_LFSR, .READY_TIME, .REGION_DETACHED, .REGION_EXCLUDED_ACTIVE,
        .SY_POST_OVERFLOW, .TETHER_GROUP_ACTIVE, .XING_FENCE]
      parts := [.su, .flt, .inj, .rgn, .est, .lane, .cell, .fld, .grp, .dom, .pdWakes, .pdCmds, .link, .rail, .stop, .caps, .dict, .freeN, .box, .ports] }
  | .faultLine => {
      objs := [.FIELD_VNEED, .FIELD_VOLT, .FIELD_VOLT_AT_CEIL, .GROUP_CHG_ABORTS, .GROUP_CHG_RESULT,
        .GROUP_CHG_STATE, .RAIL_RETRIES, .RAIL_STATUS]
      parts := [.su, .flt, .fld, .grp, .link, .rail] }
  | .faultReport _ => {
      objs := eventObjs ++ [.ARM_REPEATS, .CAP_STATUS, .DS_STATUS, .EPISODE, .EPISODE_NEXT, .EPISODE_OPEN_REASON,
        .EPISODE_OVERWRITTEN, .EPISODE_SEQ, .EPISODE_SHORT, .EXCLUDED_MAP, .FAST_DUTY, .FAULT_DIGEST,
        .FAULT_LATER_COUNT, .FAULT_TIME, .FIELD_VNEED, .FIELD_VOLT, .FIELD_VOLT_AT_CEIL, .FLOOR_RATE, .FLOOR_STATE,
        .GROUP_CHG_ABORTS, .GROUP_CHG_RESULT, .GROUP_CHG_STATE, .INJ_ARM, .INJ_COUNT, .INJ_RESULT, .OSC_CODE,
        .OSC_STATUS, .OSC_TARGET_N, .PR_CUR_TAG, .PR_DISCARDED, .PR_NEXT_TAG, .RAIL_RETRIES, .RAIL_STATUS,
        .REGION_COUNT, .REGION_EXCLUDE_CAUSE, .REGION_STOP_ABORTS, .REGION_STOP_RESULT, .REGION_STOP_STATE,
        .REGION_STRIKES, .REGION_TIME, .RUN_STATUS, .SLIP, .START_STATE, .STRETCH_E_FLOOR, .STRETCH_HOLDS,
        .SY_QUIESCES, .TETHER_STATUS, .TRIM_MODE, .UNIT_READY, .XING_DISCARD, .XING_RESYNCS]
      parts := [.su, .flt, .inj, .rgn, .est, .cell, .fld, .grp, .link, .rail, .stop, .caps, .dict] }
  | .lineOnly => {
      objs := eventObjs ++ [.ARM_REPEATS, .CAP_STATUS, .DS_STATUS, .EPISODE, .EPISODE_NEXT, .EPISODE_OPEN_REASON,
        .EPISODE_OVERWRITTEN, .EPISODE_SEQ, .EPISODE_SHORT, .EXCLUDED_MAP, .FAST_DUTY, .FAULT_DIGEST,
        .FAULT_LATER_COUNT, .FAULT_TIME, .FIELD_VNEED, .FIELD_VOLT, .FIELD_VOLT_AT_CEIL, .FLOOR_RATE, .FLOOR_STATE,
        .GROUP_CHG_ABORTS, .GROUP_CHG_RESULT, .GROUP_CHG_STATE, .INJ_ARM, .INJ_COUNT, .INJ_RESULT, .OSC_CODE,
        .OSC_STATUS, .OSC_TARGET_N, .PR_CUR_TAG, .PR_DISCARDED, .PR_NEXT_TAG, .RAIL_RETRIES, .RAIL_STATUS,
        .REGION_COUNT, .REGION_EXCLUDE_CAUSE, .REGION_STOP_ABORTS, .REGION_STOP_RESULT, .REGION_STOP_STATE,
        .REGION_STRIKES, .REGION_TIME, .RUN_STATUS, .SLIP, .START_STATE, .STRETCH_E_FLOOR, .STRETCH_HOLDS,
        .SY_QUIESCES, .TETHER_STATUS, .TRIM_MODE, .UNIT_READY, .XING_DISCARD, .XING_RESYNCS]
      parts := [.su, .flt, .inj, .rgn, .est, .cell, .fld, .grp, .link, .rail, .stop, .caps, .dict] }
  | .spineRetransmit _ _ _ _ => {
      objs := [.INJ_ARM, .INJ_COUNT, .INJ_RESULT, .SPINE_LINK_FAILS, .SPINE_RETRANSMITS]
      parts := [.flt, .inj, .hop] }
  | .seqParity _ _ => { any := true, parts := writeParts }
  | .watchdog _ _ => { any := true, parts := writeParts }
  | .weightReload _ => { objs := [.EST_STATUS, .EST_WEIGHT], parts := [.est] }
  | .alertAck _ => {
      objs := auditObjs ++ eventObjs ++ [.HP_DENIED, .HP_ERRORS, .HP_LAST_STATUS, .HP_NOTREADY, .HP_REQUESTS,
        .INJ_ARM, .INJ_COUNT, .INJ_RESULT, .SRAM_CE, .SRAM_UE]
      parts := [.flt, .inj, .dict, .ports] }
  | .alertHoldExpiry => { objs := [], parts := [.flt] }
  | .injDsReading _ => {
      objs := auditObjs ++ eventObjs ++ [.HP_DENIED, .HP_ERRORS, .HP_LAST_STATUS, .HP_NOTREADY, .HP_REQUESTS,
        .INJ_ARM, .INJ_COUNT, .INJ_RESULT, .SRAM_CE, .SRAM_UE]
      parts := [.flt, .inj, .dict, .ports] }
  | .injTsReading _ => {
      objs := auditObjs ++ eventObjs ++ [.HP_DENIED, .HP_ERRORS, .HP_LAST_STATUS, .HP_NOTREADY, .HP_REQUESTS,
        .INJ_ARM, .INJ_COUNT, .INJ_RESULT, .SRAM_CE, .SRAM_UE]
      parts := [.flt, .inj, .dict, .ports] }
  | .injRefALoss _ => {
      objs := auditObjs ++ eventObjs ++ [.HP_DENIED, .HP_ERRORS, .HP_LAST_STATUS, .HP_NOTREADY, .HP_REQUESTS,
        .INJ_ARM, .INJ_COUNT, .INJ_RESULT, .SRAM_CE, .SRAM_UE]
      parts := [.flt, .inj, .dict, .ports] }
  | .injRefBLoss _ => {
      objs := auditObjs ++ eventObjs ++ [.HP_DENIED, .HP_ERRORS, .HP_LAST_STATUS, .HP_NOTREADY, .HP_REQUESTS,
        .INJ_ARM, .INJ_COUNT, .INJ_RESULT, .SRAM_CE, .SRAM_UE]
      parts := [.flt, .inj, .dict, .ports] }
  | .injSlip _ => {
      objs := auditObjs ++ eventObjs ++ [.HP_DENIED, .HP_ERRORS, .HP_LAST_STATUS, .HP_NOTREADY, .HP_REQUESTS,
        .INJ_ARM, .INJ_COUNT, .INJ_RESULT, .SRAM_CE, .SRAM_UE]
      parts := [.flt, .inj, .dict, .ports] }
  | .injRzCrc _ => {
      objs := auditObjs ++ eventObjs ++ [.HP_DENIED, .HP_ERRORS, .HP_LAST_STATUS, .HP_NOTREADY, .HP_REQUESTS,
        .INJ_ARM, .INJ_COUNT, .INJ_RESULT, .SRAM_CE, .SRAM_UE]
      parts := [.flt, .inj, .dict, .ports] }
  | .injFnRecord _ => {
      objs := auditObjs ++ eventObjs ++ [.HP_DENIED, .HP_ERRORS, .HP_LAST_STATUS, .HP_NOTREADY, .HP_REQUESTS,
        .INJ_ARM, .INJ_COUNT, .INJ_RESULT, .SRAM_CE, .SRAM_UE]
      parts := [.flt, .inj, .dict, .ports] }
  | .injSramBit _ => {
      objs := auditObjs ++ eventObjs ++ [.HP_DENIED, .HP_ERRORS, .HP_LAST_STATUS, .HP_NOTREADY, .HP_REQUESTS,
        .INJ_ARM, .INJ_COUNT, .INJ_RESULT, .SRAM_CE, .SRAM_UE]
      parts := [.flt, .inj, .dict, .ports] }
  | .injSpineParity _ => {
      objs := auditObjs ++ eventObjs ++ [.HP_DENIED, .HP_ERRORS, .HP_LAST_STATUS, .HP_NOTREADY, .HP_REQUESTS,
        .INJ_ARM, .INJ_COUNT, .INJ_RESULT, .SRAM_CE, .SRAM_UE]
      parts := [.flt, .inj, .dict, .ports] }
  | .injEstOverflow _ => {
      objs := auditObjs ++ eventObjs ++ [.HP_DENIED, .HP_ERRORS, .HP_LAST_STATUS, .HP_NOTREADY, .HP_REQUESTS,
        .INJ_ARM, .INJ_COUNT, .INJ_RESULT, .SRAM_CE, .SRAM_UE]
      parts := [.flt, .inj, .dict, .ports] }
  | .injFdpFraming _ => {
      objs := auditObjs ++ eventObjs ++ [.HP_DENIED, .HP_ERRORS, .HP_LAST_STATUS, .HP_NOTREADY, .HP_REQUESTS,
        .INJ_ARM, .INJ_COUNT, .INJ_RESULT, .SRAM_CE, .SRAM_UE]
      parts := [.flt, .inj, .dict, .ports] }
  | .injExpired => { objs := [.INJ_ARM, .INJ_COUNT, .INJ_RESULT], parts := [.flt, .inj] }
  | .fieldTestExpiry => { objs := [.FIELD_TEST_PERMIT], parts := [] }
  | .domainTarget _ => {
      objs := auditObjs ++ eventObjs ++ [.DOMAIN_STATE, .DOMAIN_TARGET, .HP_DENIED, .HP_ERRORS, .HP_LAST_STATUS,
        .HP_NOTREADY, .HP_REQUESTS, .INJ_ARM, .INJ_COUNT, .INJ_RESULT, .MB_COUNT, .MB_DISCARDS, .SRAM_CE, .SRAM_UE,
        .SY_POST_OVERFLOW]
      parts := [.flt, .inj, .cell, .dom, .pdWakes, .pdCmds, .dict, .box, .ports] }
  | .powerStepWaitEnd _ => {
      objs := [.AGE_POWERED_H, .DOMAIN_STATE, .DS_STATUS, .EST_STATUS, .ICROSS_RESYNCS, .MB_COUNT, .MB_DISCARDS,
        .OSC_CODE, .OSC_PERMIT_MAX, .OSC_STATUS, .OSC_TARGET_N, .REGION_COUNT, .REGION_DETACHED, .REGION_TIME,
        .SLIP, .STRETCH_E_FLOOR, .STRETCH_HOLDS, .SY_POST_OVERFLOW, .TETHER_STATUS]
      parts := [.rgn, .est, .lane, .cell, .grp, .dom, .pdWakes, .pdCmds, .pdLast, .box, .ports] }
  | .pdAckChange _ _ _ => {
      objs := [.AGE_POWERED_H, .DOMAIN_STATE, .DS_STATUS, .EST_STATUS, .ICROSS_RESYNCS, .MB_COUNT, .MB_DISCARDS,
        .OSC_CODE, .OSC_PERMIT_MAX, .OSC_STATUS, .OSC_TARGET_N, .REGION_COUNT, .REGION_DETACHED, .REGION_TIME,
        .SLIP, .STRETCH_E_FLOOR, .STRETCH_HOLDS, .SY_POST_OVERFLOW, .TETHER_STATUS]
      parts := [.rgn, .est, .lane, .cell, .grp, .dom, .pdWakes, .pdCmds, .pdLast, .box, .ports] }
  | .pdTimeout _ => { objs := [], parts := [.flt, .dom] }
  | .refMissingEdge _ => {
      objs := eventObjs ++ [.CLOCK_SOURCE, .FB_ABANDONED, .FB_TX_DROPPED, .FIELD_VNEED, .FIELD_VOLT,
        .FIELD_VOLT_AT_CEIL, .GROUP_CEIL_REASON, .GROUP_CHG_ABORTS, .GROUP_CHG_RESULT, .GROUP_CHG_STATE,
        .GROUP_TARGET_N, .HOLDOVER_ENTRIES, .INJ_ARM, .INJ_COUNT, .INJ_RESULT, .OP_CEIL_ENTRY, .OSC_STATUS,
        .RAIL_RETRIES, .RAIL_STATUS, .REF_A_ERR, .REF_A_LOSSES, .REF_B_ERR, .REF_B_LOSSES, .REF_STATUS,
        .REF_SWITCHES, .RUN_STATUS, .UNIT_READY]
      parts := [.clock, .refs, .flt, .inj, .rgn, .fld, .grp, .link, .rail, .dict, .freeN, .fdp] }
  | .refFreqWindow _ _ _ => {
      objs := eventObjs ++ [.CLOCK_SOURCE, .FB_ABANDONED, .FB_TX_DROPPED, .FIELD_VNEED, .FIELD_VOLT,
        .FIELD_VOLT_AT_CEIL, .GROUP_CEIL_REASON, .GROUP_CHG_ABORTS, .GROUP_CHG_RESULT, .GROUP_CHG_STATE,
        .GROUP_TARGET_N, .HOLDOVER_ENTRIES, .OP_CEIL_ENTRY, .OSC_STATUS, .RAIL_RETRIES, .RAIL_STATUS, .REF_A_ERR,
        .REF_A_LOSSES, .REF_B_ERR, .REF_B_LOSSES, .REF_STATUS, .REF_SWITCHES, .RUN_STATUS, .UNIT_READY]
      parts := [.clock, .refs, .flt, .rgn, .fld, .grp, .link, .rail, .dict, .freeN, .fdp] }
  | .holdoverRelock => { objs := [], parts := [.refs] }
  | .ctlShortStopEnd _ => { any := true, parts := writeParts }
  | .refQualified _ => {
      objs := eventObjs ++ [.CLOCK_SOURCE, .OSC_STATUS, .REF_STATUS, .REF_SWITCHES, .UNIT_READY]
      parts := [.clock, .refs, .flt, .rgn, .freeN] }
  | .holdoverCeilingRemove _ => {
      objs := [.FIELD_VNEED, .FIELD_VOLT, .FIELD_VOLT_AT_CEIL, .GROUP_CEIL_REASON, .GROUP_CHG_ABORTS,
        .GROUP_CHG_RESULT, .GROUP_CHG_STATE, .GROUP_TARGET_N, .OP_CEIL_ENTRY, .RAIL_RETRIES, .RAIL_STATUS]
      parts := [.fld, .grp, .link, .rail] }
  | .refPrefer _ => {
      objs := auditObjs ++ eventObjs ++ [.CLOCK_SOURCE, .HP_DENIED, .HP_ERRORS, .HP_LAST_STATUS, .HP_NOTREADY,
        .HP_REQUESTS, .INJ_ARM, .INJ_COUNT, .INJ_RESULT, .OSC_STATUS, .REF_PREFER, .REF_STATUS, .REF_SWITCHES,
        .SRAM_CE, .SRAM_UE]
      parts := [.clock, .refs, .flt, .inj, .rgn, .dict, .freeN, .ports] }
  | .intoscMeasure _ => { objs := [.INTOSC_ERR], parts := [] }
  | .timeMark => {
      objs := eventObjs ++ [.COMPUTE_LIMIT, .COMPUTE_LIMIT_REASON, .DOMAIN_STATE, .DS_STATUS, .FAST_DUTY,
        .FIELD_LIMIT, .FIELD_LIMIT_REASON, .FIELD_VNEED, .FIELD_VOLT, .FIELD_VOLT_AT_CEIL, .GROUP_CEIL_REASON,
        .GROUP_CHG_ABORTS, .GROUP_CHG_RESULT, .GROUP_CHG_STATE, .GROUP_LIMIT, .GROUP_TARGET_N, .LINK_STATE,
        .MB_COUNT, .MB_DISCARDS, .OP_CEIL_ENTRY, .OSC_STATUS, .RAIL_DEGRADE_EVENTS, .RAIL_LIMIT, .RAIL_RETRIES,
        .RAIL_STATE, .RAIL_STATUS, .REGION_STOP_ABORTS, .REGION_STOP_RESULT, .REGION_STOP_STATE, .RUN_STATUS,
        .SLIP, .SY_POST_OVERFLOW, .TETHER_STATUS, .TIME_OFFSET_ADJ, .UNIT_READY]
      parts := [.held, .clock, .flt, .rgn, .est, .cell, .fld, .grp, .dom, .pdWakes, .pdCmds, .link, .rail, .stop, .caps, .box, .ports, .energy] }
  | .timeCorrection _ => {
      objs := eventObjs ++ [.EST_DYN, .EST_LEAK, .EST_OVERFLOWS, .EST_POWER, .EST_STATUS, .EST_SWEEP_M, .INJ_ARM,
        .INJ_COUNT, .INJ_RESULT, .REGION_TIME, .REGION_TIME_ERR, .SRAM_CE, .SRAM_UE]
      parts := [.flt, .inj, .rgn, .est, .fld] }
  | .timeSet _ => {
      objs := auditObjs ++ eventObjs ++ [.HP_DENIED, .HP_ERRORS, .HP_LAST_STATUS, .HP_NOTREADY, .HP_REQUESTS,
        .INJ_ARM, .INJ_COUNT, .INJ_RESULT, .SRAM_CE, .SRAM_UE, .TIME_SET, .TIME_SETS]
      parts := [.clock, .flt, .inj, .dict, .ports] }
  | .timeOffsetAdj _ => {
      objs := auditObjs ++ eventObjs ++ [.HP_DENIED, .HP_ERRORS, .HP_LAST_STATUS, .HP_NOTREADY, .HP_REQUESTS,
        .INJ_ARM, .INJ_COUNT, .INJ_RESULT, .SRAM_CE, .SRAM_UE, .TIME_OFFSET_ADJ]
      parts := [.flt, .inj, .dict, .ports] }
  | .ppsCapture _ => { objs := [.PPS_COUNT, .PPS_TIME], parts := [] }
  | .tsCapture _ => { objs := [.TS_CAPTURE_COUNT, .TS_TIME], parts := [] }
  | .fllGateEnd _ => { objs := [.OSC_CEILING_TIME, .OSC_PERMIT_MAX, .OSC_STATUS], parts := [.rgn] }
  | .sigmaDeltaSlot _ => { objs := [.OSC_CODE], parts := [.rgn] }
  | .oscUnlock _ => { objs := [.OSC_UNLOCKS], parts := [.rgn] }
  | .oscCeiling _ => { objs := eventObjs, parts := [.flt, .rgn] }
  | .calOffsetUpdate _ => { objs := [.CAL_OFFSET], parts := [] }
  | .headroomReport _ => { objs := [.OSC_FREQ_NAT, .OSC_HEADROOM, .OSC_LOOP_ERR], parts := [.rgn] }
  | .ageDue _ => { objs := [.AGE_POWERED_H, .OSC_STATUS], parts := [.rgn] }
  | .ageSampleReq _ => {
      objs := auditObjs ++ eventObjs ++ [.AGE_SAMPLE_REQ, .HP_DENIED, .HP_ERRORS, .HP_LAST_STATUS, .HP_NOTREADY,
        .HP_REQUESTS, .INJ_ARM, .INJ_COUNT, .INJ_RESULT, .SRAM_CE, .SRAM_UE]
      parts := [.flt, .inj, .rgn, .dict, .ports] }
  | .ageSampleDone _ _ => {
      objs := [.AGE_DEGRADE_LAST, .AGE_DEGRADE_PREV, .AGE_GUARD, .AGE_POWERED_H, .AGE_RATIO_LAST, .AGE_SAMPLE_H,
        .AGE_SAMPLE_REQ, .OSC_STATUS]
      parts := [.rgn, .dict] }
  | .startFail _ => { objs := [.OSC_STATUS], parts := [.flt] }
  | .droopTrip _ _ _ => {
      objs := [.DS_COUNT_ONLY_TRIPS, .DS_STATUS, .DS_TRIPS, .STRETCH_E_CAP, .STRETCH_E_DROOP, .STRETCH_E_FLOOR,
        .STRETCH_E_TETHER, .STRETCH_HOLDS, .STRETCH_P2, .STRETCH_P4, .STRETCH_P8, .STRETCH_REFUSED,
        .TETHER_UNATTRIB]
      parts := [.rgn, .est] }
  | .droopRunEnd _ => { objs := [.DS_STATUS, .DS_TRIPS], parts := [.rgn] }
  | .dsStuck _ _ => {
      objs := eventObjs ++ [.DS_QUARANTINE, .DS_STATUS, .DS_STUCK_EVENTS, .RUN_STATUS]
      parts := [.flt, .rgn, .dict] }
  | .dsQuarantineClear _ => {
      objs := auditObjs ++ eventObjs ++ [.DS_QUARANTINE, .DS_STATUS, .HP_DENIED, .HP_ERRORS, .HP_LAST_STATUS,
        .HP_NOTREADY, .HP_REQUESTS, .INJ_ARM, .INJ_COUNT, .INJ_RESULT, .SRAM_CE, .SRAM_UE]
      parts := [.flt, .inj, .rgn, .dict, .ports] }
  | .dsEnable _ => {
      objs := auditObjs ++ eventObjs ++ [.DS_ENABLE, .DS_QUARANTINE, .DS_STATUS, .HP_DENIED, .HP_ERRORS,
        .HP_LAST_STATUS, .HP_NOTREADY, .HP_REQUESTS, .INJ_ARM, .INJ_COUNT, .INJ_RESULT, .SRAM_CE, .SRAM_UE]
      parts := [.flt, .inj, .rgn, .dict, .ports] }
  | .park _ => { objs := [.DS_STATUS, .TETHER_STATUS], parts := [.rgn, .grp] }
  | .parkRelease _ => { objs := [.DS_STATUS, .REGION_TIME, .STRETCH_E_FLOOR, .STRETCH_HOLDS], parts := [.rgn, .est] }
  | .slipFault _ _ => { objs := [.SLIP_FAULTS, .TETHER_STATUS], parts := [.flt, .rgn] }
  | .causeTagExpiry _ => { objs := [], parts := [.rgn] }
  | .changeBroadcast _ => { objs := [], parts := [.flt, .rgn] }
  | .changeAtC _ => { objs := [.OSC_CODE, .OSC_STATUS, .OSC_TARGET_N], parts := [.rgn] }
  | .islandRecompute _ => { objs := [.GROUP_ANCHOR, .GROUP_DIAMETER], parts := [.grp] }
  | .ptrCheck _ _ => { objs := [.XING_PTR_ERRS], parts := [.flt, .cell] }
  | .pointerLoad _ => { objs := [], parts := [.cell] }
  | .resyncInitiate _ => { objs := [], parts := [.cell] }
  | .resyncReqSeen _ _ _ => { objs := [.XING_RESYNCS], parts := [.cell] }
  | .resyncAckSeen _ _ _ => {
      objs := [.DS_STATUS, .OSC_STATUS, .SLIP, .TETHER_STATUS, .XING_RESYNCS]
      parts := [.rgn, .cell] }
  | .resyncReqLowSeen _ _ _ _ => { objs := [.XING_DISCARD, .XING_RESYNCS], parts := [.cell] }
  | .resyncAckLowSeen _ _ _ => { objs := [.XING_RESYNCS], parts := [.cell, .grp] }
  | .xingFence _ => {
      objs := auditObjs ++ eventObjs ++ [.HP_DENIED, .HP_ERRORS, .HP_LAST_STATUS, .HP_NOTREADY, .HP_REQUESTS,
        .INJ_ARM, .INJ_COUNT, .INJ_RESULT, .SRAM_CE, .SRAM_UE, .XING_FENCE]
      parts := [.flt, .inj, .cell, .dict, .ports] }
  | .trimEnd _ => { objs := [.GROUP_ANCHOR, .GROUP_DIAMETER, .TRIM_MODE], parts := [.grp] }
  | .alignFail _ => { objs := [.ALIGN_FAILS], parts := [.flt, .grp] }
  | .groupTarget _ _ => {
      objs := [.FIELD_VNEED, .FIELD_VOLT, .FIELD_VOLT_AT_CEIL, .GROUP_CHG_ABORTS, .GROUP_CHG_RESULT,
        .GROUP_CHG_STATE, .GROUP_TARGET_N, .RAIL_RETRIES, .RAIL_STATUS]
      parts := [.fld, .grp, .link, .rail] }
  | .groupStepStart _ => {
      objs := [.FIELD_VNEED, .FIELD_VOLT, .FIELD_VOLT_AT_CEIL, .GROUP_CHG_ABORTS, .GROUP_CHG_C, .GROUP_CHG_RESULT,
        .GROUP_CHG_STATE, .GROUP_CHG_STEPS, .GROUP_N, .GROUP_TARGET_N, .RAIL_RETRIES, .RAIL_STATUS]
      parts := [.fld, .grp, .link, .rail] }
  | .voltConfirm _ => {
      objs := [.FIELD_VNEED, .FIELD_VOLT, .FIELD_VOLT_AT_CEIL, .GROUP_CHG_ABORTS, .GROUP_CHG_C, .GROUP_CHG_RESULT,
        .GROUP_CHG_STATE, .GROUP_CHG_STEPS, .GROUP_N, .RAIL_RETRIES, .RAIL_STATUS, .REGION_STOP_STATE, .SY_QUIESCES]
      parts := [.fld, .grp, .link, .rail, .stop] }
  | .voltTimeout _ => {
      objs := eventObjs ++ [.DOMAIN_STATE, .FIELD_VNEED, .FIELD_VOLT, .FIELD_VOLT_AT_CEIL, .GROUP_CHG_ABORTS,
        .GROUP_CHG_RESULT, .GROUP_CHG_STATE, .MB_COUNT, .MB_DISCARDS, .RAIL_RETRIES, .RAIL_STATUS,
        .REGION_STOP_ABORTS, .REGION_STOP_RESULT, .REGION_STOP_STATE, .SY_POST_OVERFLOW]
      parts := [.flt, .cell, .fld, .grp, .dom, .pdWakes, .pdCmds, .link, .rail, .stop, .box, .ports] }
  | .groupStepEnd _ => {
      objs := [.FIELD_VNEED, .FIELD_VOLT, .FIELD_VOLT_AT_CEIL, .GROUP_CHG_ABORTS, .GROUP_CHG_RESULT,
        .GROUP_CHG_STATE, .GROUP_CHG_STEPS, .GROUP_N, .RAIL_RETRIES, .RAIL_STATUS]
      parts := [.fld, .grp, .link, .rail] }
  | .regionTargetN _ => {
      objs := auditObjs ++ eventObjs ++ [.HP_DENIED, .HP_ERRORS, .HP_LAST_STATUS, .HP_NOTREADY, .HP_REQUESTS,
        .INJ_ARM, .INJ_COUNT, .INJ_RESULT, .REGION_STOP_STATE, .REGION_TARGET_N, .SRAM_CE, .SRAM_UE]
      parts := [.flt, .inj, .stop, .dict, .ports] }
  | .regionStopStart => {
      objs := [.FIELD_VNEED, .FIELD_VOLT, .FIELD_VOLT_AT_CEIL, .RAIL_RETRIES, .RAIL_STATUS, .REGION_STOP_ABORTS,
        .REGION_STOP_RESULT, .REGION_STOP_STATE, .SY_QUIESCES]
      parts := [.fld, .link, .rail, .stop] }
  | .quiesceAck _ => { objs := [.QUIESCE_STALE_ACKS, .SY_QACKS], parts := [.stop, .ports] }
  | .quiesceTimeout => {
      objs := [.DOMAIN_STATE, .FIELD_VNEED, .FIELD_VOLT, .FIELD_VOLT_AT_CEIL, .MB_COUNT, .MB_DISCARDS,
        .RAIL_RETRIES, .RAIL_STATUS, .REGION_STOP_ABORTS, .REGION_STOP_RESULT, .REGION_STOP_STATE,
        .SY_POST_OVERFLOW, .SY_QUIESCES]
      parts := [.cell, .fld, .dom, .pdWakes, .pdCmds, .link, .rail, .stop, .box, .ports] }
  | .stopCommand _ => { objs := [], parts := [.cell, .stop] }
  | .stopAck _ => {
      objs := [.DS_STATUS, .OSC_CODE, .OSC_STATUS, .OSC_TARGET_N, .REGION_STOPS, .REGION_STOP_STATE, .SLIP,
        .TETHER_STATUS]
      parts := [.rgn, .grp, .stop] }
  | .regionRestart _ => {
      objs := [.DOMAIN_STATE, .DS_STATUS, .MB_COUNT, .MB_DISCARDS, .OSC_STATUS, .SY_POST_OVERFLOW]
      parts := [.rgn, .cell, .grp, .dom, .pdWakes, .pdCmds, .stop, .box, .ports] }
  | .restartReport _ => {
      objs := [.DOMAIN_STATE, .FIELD_VNEED, .FIELD_VOLT, .FIELD_VOLT_AT_CEIL, .MB_COUNT, .MB_DISCARDS,
        .RAIL_RETRIES, .RAIL_STATUS, .REGION_STOP_RESULT, .REGION_STOP_STATE, .SY_POST_OVERFLOW, .SY_QUIESCES]
      parts := [.cell, .fld, .dom, .pdWakes, .pdCmds, .link, .rail, .stop, .box, .ports] }
  | .sweepStart _ => { objs := [.EST_SWEEP_M], parts := [.est] }
  | .laneResponse _ _ _ => { objs := [.ACT_PROTO_ERR, .EST_SWEEP_M, .LANE_INVALIDS], parts := [.est, .lane] }
  | .windowClose _ => {
      objs := eventObjs ++ [.EST_DYN, .EST_LEAK, .EST_OVERFLOWS, .EST_POWER, .EST_STATUS, .EST_SWEEP_M, .INJ_ARM,
        .INJ_COUNT, .INJ_RESULT, .SRAM_CE, .SRAM_UE]
      parts := [.flt, .inj, .rgn, .est] }
  | .windowReport _ => {
      objs := eventObjs ++ [.CAUSED_CAP, .CAUSED_DROOP, .CAUSED_FLOOR, .ENGINE_EST, .ENGINE_EST_SUBST, .EPISODE,
        .EPISODE_NEXT, .EPISODE_OPEN_REASON, .EPISODE_OVERWRITTEN, .EPISODE_SEQ, .EPISODE_SHORT, .EST_DYN,
        .EST_LEAK, .EST_POWER, .EST_STATUS, .FIELD_EST, .FIELD_EST_SUBST, .GROUP_EST, .GROUP_EST_SUBST,
        .PART_SUBST_WINDOWS, .RUN_CYCLES, .RUN_IDEAL, .RUN_LOSS_PPM, .RUN_LOST, .RUN_LOST_E, .RUN_START_TIME,
        .RUN_STATUS, .RUN_TIME, .TETHER_UNATTRIB, .THR_LOST, .THR_REASON_NOW, .THR_TIME]
      parts := [.refs, .flt, .rgn, .est, .fld, .grp, .dom, .freeN, .energy] }
  | .fastCapUpdate _ => { objs := [.FAST_DUTY, .FIELD_EXCESS], parts := [.rgn, .fld] }
  | .episodeClose _ => {
      objs := [.EPISODE, .EPISODE_NEXT, .EPISODE_OPEN_REASON, .EPISODE_OVERWRITTEN, .EPISODE_SEQ, .EPISODE_SHORT]
      parts := [.grp] }
  | .thermalRead _ _ => {
      objs := eventObjs ++ [.CAP_STATUS, .DS_STATUS, .FAST_DUTY, .FIELD_VNEED, .FIELD_VOLT, .FIELD_VOLT_AT_CEIL,
        .FLOOR_RATE, .FLOOR_STATE, .GROUP_CEIL_REASON, .GROUP_CHG_ABORTS, .GROUP_CHG_RESULT, .GROUP_CHG_STATE,
        .GROUP_TARGET_N, .INJ_ARM, .INJ_COUNT, .INJ_RESULT, .OP_CEIL_ENTRY, .OSC_STATUS, .RAIL_RETRIES,
        .RAIL_STATUS, .RUN_STATUS, .SLIP, .TETHER_STATUS, .THERM_TRIPS]
      parts := [.flt, .inj, .rgn, .ts, .cell, .fld, .grp, .link, .rail, .caps] }
  | .calDecision _ => {
      objs := [.CAL_DEADBAND_HITS, .CAL_ERR, .CAL_SKIPS, .CAL_SKIP_LAST, .CAL_UPDATES, .DOMAIN_EST, .DOMAIN_MEAS]
      parts := [.est, .fld, .dom] }
  | .calSign _ => { objs := [.CAL_LATE, .EST_WEIGHT], parts := [.est, .lane] }
  | .weightWindowWrite _ _ _ => {
      objs := eventObjs ++ [.EST_WEIGHT, .HP_DENIED, .HP_ERRORS, .HP_LAST_STATUS, .HP_NOTREADY, .HP_REQUESTS,
        .INJ_ARM, .INJ_COUNT, .INJ_RESULT, .PR_GROUP_TABLE, .SRAM_CE, .SRAM_UE]
      parts := [.flt, .inj, .est, .dict, .ports, .phase] }
  | .calResetReq _ => {
      objs := auditObjs ++ eventObjs ++ [.EST_WEIGHT, .HP_DENIED, .HP_ERRORS, .HP_LAST_STATUS, .HP_NOTREADY,
        .HP_REQUESTS, .INJ_ARM, .INJ_COUNT, .INJ_RESULT, .SRAM_CE, .SRAM_UE]
      parts := [.flt, .inj, .est, .lane, .dict, .ports] }
  | .estWeightFactory _ => {
      objs := auditObjs ++ eventObjs ++ [.EST_WEIGHT, .EST_WEIGHT_FACTORY, .HP_DENIED, .HP_ERRORS, .HP_LAST_STATUS,
        .HP_NOTREADY, .HP_REQUESTS, .INJ_ARM, .INJ_COUNT, .INJ_RESULT, .SRAM_CE, .SRAM_UE]
      parts := [.flt, .inj, .est, .dict, .ports, .fon] }
  | .estShift _ => {
      objs := auditObjs ++ eventObjs ++ [.EST_SHIFT, .EST_WEIGHT, .HP_DENIED, .HP_ERRORS, .HP_LAST_STATUS,
        .HP_NOTREADY, .HP_REQUESTS, .INJ_ARM, .INJ_COUNT, .INJ_RESULT, .SRAM_CE, .SRAM_UE]
      parts := [.flt, .inj, .est, .dict, .ports, .fon] }
  | .slowLoopTick => {
      objs := eventObjs ++ [.CAL_ERR_MEAN, .CAL_SATURATED_EVENTS, .CAP_EXCESS, .CAP_STATUS, .CAP_UNATT_EVENTS,
        .COMPUTE_LIMIT, .COMPUTE_LIMIT_REASON, .DS_MIN_READING, .DS_STATUS, .ENGINE_COMPUTE_ENERGY, .ENGINE_MEAS,
        .EST_STATUS, .EST_WEIGHT, .EST_WEIGHTS_AT_CLAMP, .EST_WEIGHT_DEV, .FAST_DUTY, .FIELD_EST_CORR,
        .FIELD_HOLD_FRAC, .FIELD_LIMIT, .FIELD_LIMIT_REASON, .FIELD_TEMP_MAX, .FIELD_THERM_LIMIT, .FIELD_VNEED,
        .FIELD_VOLT, .FIELD_VOLT_AT_CEIL, .FIELD_VSET_DOWNS, .FIELD_VSET_UPS, .FIELD_VTRIM, .FLOOR_RATE,
        .FLOOR_STATE, .GROUP_CEIL_REASON, .GROUP_CHG_ABORTS, .GROUP_CHG_RESULT, .GROUP_CHG_STATE, .GROUP_LIMIT,
        .GROUP_LOSS, .GROUP_SLIP_PEAK, .GROUP_TARGET_N, .INJ_ARM, .INJ_COUNT, .INJ_RESULT, .OP_CEIL_ENTRY,
        .OP_DOWN_STEPS, .OP_POWER_ENTRY, .OP_UP_STEPS, .PART_ENERGY, .PART_REGIONS, .RAIL_LIMIT, .RAIL_RETRIES,
        .RAIL_STATUS, .REGION_TIME_ERR_PEAK, .REPORT_SNAP_REQ, .SLIP_PEAK, .SNAP, .SNAP_PART_ENERGY, .SNAP_TIME,
        .SRAM_CE, .SRAM_UE, .STRESS_BINS, .UNASSIGNED_ENERGY]
      parts := [.held, .flt, .inj, .rgn, .est, .lane, .fld, .grp, .dom, .link, .rail, .caps, .freeN, .energy] }
  | .floorRateUpdate _ => { objs := [.FLOOR_RATE], parts := [.flt, .rgn, .grp] }
  | .limitRecompute => {
      objs := [.COMPUTE_LIMIT, .COMPUTE_LIMIT_REASON, .FIELD_LIMIT, .FIELD_LIMIT_REASON, .GROUP_LIMIT]
      parts := [.fld, .rail, .caps] }
  | .hotNAssert => {
      objs := eventObjs ++ [.CAP_STATUS, .FIELD_VNEED, .FIELD_VOLT, .FIELD_VOLT_AT_CEIL, .GROUP_CEIL_REASON,
        .GROUP_CHG_ABORTS, .GROUP_CHG_RESULT, .GROUP_CHG_STATE, .GROUP_TARGET_N, .HOT_N_EVENTS, .OP_CEIL_ENTRY,
        .RAIL_RETRIES, .RAIL_STATUS, .RUN_STATUS]
      parts := [.flt, .fld, .grp, .link, .rail] }
  | .hotNRelease => {
      objs := [.CAP_STATUS, .FIELD_VNEED, .FIELD_VOLT, .FIELD_VOLT_AT_CEIL, .GROUP_CEIL_REASON, .GROUP_CHG_ABORTS,
        .GROUP_CHG_RESULT, .GROUP_CHG_STATE, .GROUP_TARGET_N, .OP_CEIL_ENTRY, .RAIL_RETRIES, .RAIL_STATUS]
      parts := [.fld, .grp, .link, .rail] }
  | .capNWindow _ => { objs := [.CAP_N_EVENTS, .CAP_STATUS], parts := [.caps] }
  | .opTable _ => {
      objs := auditObjs ++ eventObjs ++ [.HP_DENIED, .HP_ERRORS, .HP_LAST_STATUS, .HP_NOTREADY, .HP_REQUESTS,
        .INJ_ARM, .INJ_COUNT, .INJ_RESULT, .OP_TABLE, .PR_GROUP_TABLE, .SRAM_CE, .SRAM_UE]
      parts := [.flt, .inj, .grp, .dict, .ports] }
  | .fixedRateEnable _ => {
      objs := auditObjs ++ eventObjs ++ [.CAP_STATUS, .FIELD_VNEED, .FIELD_VOLT, .FIELD_VOLT_AT_CEIL,
        .FIXED_RATE_ENABLE, .GROUP_CEIL_REASON, .GROUP_CHG_ABORTS, .GROUP_CHG_RESULT, .GROUP_CHG_STATE,
        .GROUP_TARGET_N, .HP_DENIED, .HP_ERRORS, .HP_LAST_STATUS, .HP_NOTREADY, .HP_REQUESTS, .INJ_ARM, .INJ_COUNT,
        .INJ_RESULT, .OP_CEIL_ENTRY, .PR_CUR_TAG, .PR_DISCARDED, .RAIL_RETRIES, .RAIL_STATUS, .SRAM_CE, .SRAM_UE]
      parts := [.flt, .inj, .fld, .grp, .link, .rail, .dict, .ports] }
  | .fixedRateN _ => {
      objs := auditObjs ++ eventObjs ++ [.FIELD_VNEED, .FIELD_VOLT, .FIELD_VOLT_AT_CEIL, .FIXED_RATE_N,
        .GROUP_CEIL_REASON, .GROUP_CHG_ABORTS, .GROUP_CHG_RESULT, .GROUP_CHG_STATE, .GROUP_TARGET_N, .HP_DENIED,
        .HP_ERRORS, .HP_LAST_STATUS, .HP_NOTREADY, .HP_REQUESTS, .INJ_ARM, .INJ_COUNT, .INJ_RESULT, .OP_CEIL_ENTRY,
        .RAIL_RETRIES, .RAIL_STATUS, .SRAM_CE, .SRAM_UE]
      parts := [.flt, .inj, .fld, .grp, .link, .rail, .dict, .ports] }
  | .groupShare _ => {
      objs := auditObjs ++ eventObjs ++ [.GROUP_SHARE, .HP_DENIED, .HP_ERRORS, .HP_LAST_STATUS, .HP_NOTREADY,
        .HP_REQUESTS, .INJ_ARM, .INJ_COUNT, .INJ_RESULT, .SRAM_CE, .SRAM_UE]
      parts := [.flt, .inj, .dict, .ports] }
  | .phaseNext _ => {
      objs := eventObjs ++ voltObjs ++ [.GROUP_CEIL_REASON, .GROUP_CHG_ABORTS, .GROUP_CHG_RESULT, .GROUP_CHG_STATE,
        .GROUP_TARGET_N, .INJ_ARM, .INJ_COUNT, .INJ_RESULT, .OP_CEIL_ENTRY, .PR_DUP_MARKS, .PR_EXPLORES,
        .PR_GROUP_TABLE, .PR_LATE_NEXT, .PR_LFSR, .PR_NEXT_TAG, .SRAM_CE, .SRAM_UE]
      parts := [.flt, .inj, .fld, .grp, .link, .rail, .caps, .ports, .phase] }
  | .phaseBegin _ => {
      objs := eventObjs ++ [.COMPUTE_LIMIT, .COMPUTE_LIMIT_REASON, .FIELD_LIMIT, .FIELD_LIMIT_REASON, .FIELD_VNEED,
        .FIELD_VOLT, .FIELD_VOLT_AT_CEIL, .GROUP_CEIL_REASON, .GROUP_CHG_ABORTS, .GROUP_CHG_RESULT,
        .GROUP_CHG_STATE, .GROUP_LIMIT, .GROUP_TARGET_N, .INJ_ARM, .INJ_COUNT, .INJ_RESULT, .OP_CEIL_ENTRY,
        .PR_CUR_TAG, .PR_DISCARDED, .PR_DUP_MARKS, .PR_GROUP_TABLE, .PR_LFSR, .PR_MOVES, .PR_NEXT_TAG,
        .PR_OCCURRENCES, .PR_REJECTS, .PR_SURPRISES, .PR_UNANNOUNCED, .PR_UNCLEAN, .RAIL_RETRIES, .RAIL_STATUS,
        .SRAM_CE, .SRAM_UE]
      parts := [.flt, .inj, .fld, .grp, .link, .rail, .caps, .ports, .phase] }
  | .preferredPoint _ => {
      objs := eventObjs ++ [.INJ_ARM, .INJ_COUNT, .INJ_RESULT, .PR_DUP_MARKS, .PR_GROUP_TABLE, .SRAM_CE, .SRAM_UE]
      parts := [.flt, .inj, .grp, .caps, .ports, .phase] }
  | .occurrenceTimeout _ => { objs := [.PR_CUR_TAG, .PR_DISCARDED], parts := [.grp] }
  | .preposOffsetSet _ => {
      objs := eventObjs ++ voltObjs ++ [.INJ_ARM, .INJ_COUNT, .INJ_RESULT, .PR_GROUP_TABLE, .SRAM_CE, .SRAM_UE]
      parts := [.flt, .inj, .fld, .grp, .link, .rail, .phase] }
  | .preposOffsetRemove _ => { objs := voltObjs, parts := [.fld, .grp, .link, .rail] }
  | .prClear _ => {
      objs := auditObjs ++ eventObjs ++ [.HP_DENIED, .HP_ERRORS, .HP_LAST_STATUS, .HP_NOTREADY, .HP_REQUESTS,
        .INJ_ARM, .INJ_COUNT, .INJ_RESULT, .PR_CUR_TAG, .PR_GROUP_TABLE, .SRAM_CE, .SRAM_UE]
      parts := [.flt, .inj, .grp, .dict, .ports, .phase, .fon] }
  | .prRearm _ => {
      objs := auditObjs ++ eventObjs ++ [.HP_DENIED, .HP_ERRORS, .HP_LAST_STATUS, .HP_NOTREADY, .HP_REQUESTS,
        .INJ_ARM, .INJ_COUNT, .INJ_RESULT, .PR_STATUS, .SRAM_CE, .SRAM_UE]
      parts := [.flt, .inj, .grp, .dict, .ports] }
  | .prPolicy _ => {
      objs := auditObjs ++ eventObjs ++ [.HP_DENIED, .HP_ERRORS, .HP_LAST_STATUS, .HP_NOTREADY, .HP_REQUESTS,
        .INJ_ARM, .INJ_COUNT, .INJ_RESULT, .PR_POLICY, .PR_STATUS, .SRAM_CE, .SRAM_UE]
      parts := [.flt, .inj, .grp, .dict, .ports] }
  | .phaseTableWrite _ _ _ => {
      objs := eventObjs ++ [.HP_DENIED, .HP_ERRORS, .HP_LAST_STATUS, .HP_NOTREADY, .HP_REQUESTS, .INJ_ARM,
        .INJ_COUNT, .INJ_RESULT, .PR_GROUP_TABLE, .SRAM_CE, .SRAM_UE]
      parts := [.flt, .inj, .est, .dict, .ports, .phase] }
  | .bxRoundBoundary _ => {
      objs := [.BX_CREDIT_IN, .BX_CREDIT_OUT, .BX_EPOCH, .BX_EPOCH_LOADS, .BX_GRANT, .BX_LOST_CLAMP, .BX_LOST_TX,
        .BX_SLACK, .BX_TX_FRAMES]
      parts := [.caps, .budget] }
  | .bxEpochLoad _ => {
      objs := auditObjs ++ eventObjs ++ [.BX_EPOCH_LOAD, .HP_DENIED, .HP_ERRORS, .HP_LAST_STATUS, .HP_NOTREADY,
        .HP_REQUESTS, .INJ_ARM, .INJ_COUNT, .INJ_RESULT, .SRAM_CE, .SRAM_UE]
      parts := [.flt, .inj, .dict, .ports, .budget] }
  | .bxEpochExpired => { objs := eventObjs ++ [.BX_EPOCH_EXPIRIES, .BX_GRANT], parts := [.flt, .caps, .budget] }
  | .epochLate => { objs := [], parts := [.budget] }
  | .round _ _ => { any := true, parts := writeParts }
  | .directiveRead _ _ => { any := true, parts := writeParts }
  | .directiveWrite _ _ => { any := true, parts := writeParts }
  | .slackReport _ => { objs := [.SY_SLACK_DROPS, .SY_SLACK_REPORTS], parts := [.ports, .budget] }
  | .regionPartition _ => {
      objs := auditObjs ++ eventObjs ++ [.HP_DENIED, .HP_ERRORS, .HP_LAST_STATUS, .HP_NOTREADY, .HP_REQUESTS,
        .INJ_ARM, .INJ_COUNT, .INJ_RESULT, .REGION_PARTITION, .SRAM_CE, .SRAM_UE]
      parts := [.flt, .inj, .dict, .ports] }
  | .reportSnapReq _ => {
      objs := auditObjs ++ eventObjs ++ [.HP_DENIED, .HP_ERRORS, .HP_LAST_STATUS, .HP_NOTREADY, .HP_REQUESTS,
        .INJ_ARM, .INJ_COUNT, .INJ_RESULT, .REPORT_SNAP_REQ, .SRAM_CE, .SRAM_UE]
      parts := [.flt, .inj, .dict, .ports, .energy] }
  | .runStart _ => {
      objs := auditObjs ++ eventObjs ++ [.HP_DENIED, .HP_ERRORS, .HP_LAST_STATUS, .HP_NOTREADY, .HP_REQUESTS,
        .INJ_ARM, .INJ_COUNT, .INJ_RESULT, .RUN_CTL, .SRAM_CE, .SRAM_UE]
      parts := [.flt, .inj, .grp, .dict, .ports] }
  | .runStop _ => {
      objs := auditObjs ++ eventObjs ++ [.HP_DENIED, .HP_ERRORS, .HP_LAST_STATUS, .HP_NOTREADY, .HP_REQUESTS,
        .INJ_ARM, .INJ_COUNT, .INJ_RESULT, .RUN_CTL, .SRAM_CE, .SRAM_UE]
      parts := [.flt, .inj, .grp, .dict, .ports] }
  | .mark => {
      objs := eventObjs ++ [.COMPUTE_LIMIT, .COMPUTE_LIMIT_REASON, .DOMAIN_STATE, .ENGINE_DOMAIN_RAIL_ENERGY,
        .ENGINE_NONCOMPUTE_ENERGY, .FIELD_LIMIT, .FIELD_LIMIT_REASON, .FIELD_VNEED, .FIELD_VOLT,
        .FIELD_VOLT_AT_CEIL, .GROUP_CEIL_REASON, .GROUP_CHG_ABORTS, .GROUP_CHG_RESULT, .GROUP_CHG_STATE,
        .GROUP_LIMIT, .GROUP_TARGET_N, .MB_COUNT, .MB_DISCARDS, .OP_CEIL_ENTRY, .RAIL_DEGRADE_EVENTS,
        .RAIL_FILLED_INTERVALS, .RAIL_RETRIES, .RAIL_STATE, .RAIL_STATUS, .RAIL_TLM_MISSES, .REGION_STOP_ABORTS,
        .REGION_STOP_RESULT, .REGION_STOP_STATE, .SY_POST_OVERFLOW]
      parts := [.flt, .cell, .fld, .grp, .dom, .pdWakes, .pdCmds, .link, .rail, .stop, .caps, .box, .ports, .energy] }
  | .tlm _ _ _ _ => {
      objs := eventObjs ++ [.COMPUTE_LIMIT, .COMPUTE_LIMIT_REASON, .DOMAIN_STATE, .ENGINE_DOMAIN_RAIL_ENERGY,
        .ENGINE_NONCOMPUTE_ENERGY, .FIELD_LIMIT, .FIELD_LIMIT_REASON, .FIELD_VNEED, .FIELD_VOLT,
        .FIELD_VOLT_AT_CEIL, .GROUP_CEIL_REASON, .GROUP_CHG_ABORTS, .GROUP_CHG_RESULT, .GROUP_CHG_STATE,
        .GROUP_LIMIT, .GROUP_TARGET_N, .INJ_ARM, .INJ_COUNT, .INJ_RESULT, .MB_COUNT, .MB_DISCARDS, .OP_CEIL_ENTRY,
        .RAIL_CRC_ERRS, .RAIL_DEGRADE_EVENTS, .RAIL_FILLED_INTERVALS, .RAIL_IMEAS, .RAIL_LIMIT, .RAIL_OCP_EVENTS,
        .RAIL_OVER_EVENTS, .RAIL_RECOVER, .RAIL_RETRIES, .RAIL_STATE, .RAIL_STATUS, .RAIL_TARGET, .RAIL_TLM_MISSES,
        .RAIL_VMEAS, .REGION_STOP_ABORTS, .REGION_STOP_RESULT, .REGION_STOP_STATE, .SY_POST_OVERFLOW]
      parts := [.flt, .inj, .cell, .fld, .grp, .dom, .pdWakes, .pdCmds, .link, .rail, .stop, .caps, .box, .ports, .energy] }
  | .identify _ _ _ _ => {
      objs := eventObjs ++ [.COMPUTE_LIMIT, .COMPUTE_LIMIT_REASON, .DOMAIN_STATE, .FIELD_LIMIT,
        .FIELD_LIMIT_REASON, .FIELD_VNEED, .FIELD_VOLT, .FIELD_VOLT_AT_CEIL, .GROUP_CEIL_REASON, .GROUP_CHG_ABORTS,
        .GROUP_CHG_RESULT, .GROUP_CHG_STATE, .GROUP_LIMIT, .GROUP_TARGET_N, .INJ_ARM, .INJ_COUNT, .INJ_RESULT,
        .LINK_IDENT, .LINK_MALFORMED, .LINK_RX_PHASE, .LINK_STATE, .MB_COUNT, .MB_DISCARDS, .OP_CEIL_ENTRY,
        .RAIL_CRC_ERRS, .RAIL_DEGRADE_EVENTS, .RAIL_LIMIT, .RAIL_RECOVER, .RAIL_RETRIES, .RAIL_STATE, .RAIL_STATUS,
        .REGION_STOP_ABORTS, .REGION_STOP_RESULT, .REGION_STOP_STATE, .SY_POST_OVERFLOW, .UNIT_READY]
      parts := [.flt, .inj, .cell, .fld, .grp, .dom, .pdWakes, .pdCmds, .link, .rail, .stop, .caps, .box, .ports] }
  | .readRating _ _ _ _ => {
      objs := eventObjs ++ [.COMPUTE_LIMIT, .COMPUTE_LIMIT_REASON, .DOMAIN_STATE, .FIELD_LIMIT,
        .FIELD_LIMIT_REASON, .FIELD_VNEED, .FIELD_VOLT, .FIELD_VOLT_AT_CEIL, .GROUP_CEIL_REASON, .GROUP_CHG_ABORTS,
        .GROUP_CHG_RESULT, .GROUP_CHG_STATE, .GROUP_LIMIT, .GROUP_TARGET_N, .INJ_ARM, .INJ_COUNT, .INJ_RESULT,
        .LINK_MALFORMED, .MB_COUNT, .MB_DISCARDS, .OP_CEIL_ENTRY, .RAIL_CRC_ERRS, .RAIL_DEGRADE_EVENTS, .RAIL_IMAX,
        .RAIL_IRATING, .RAIL_RECOVER, .RAIL_RETRIES, .RAIL_STATE, .RAIL_STATUS, .RAIL_VMAX, .RAIL_VMIN,
        .REGION_STOP_ABORTS, .REGION_STOP_RESULT, .REGION_STOP_STATE, .SY_POST_OVERFLOW, .UNIT_READY]
      parts := [.flt, .inj, .cell, .fld, .grp, .dom, .pdWakes, .pdCmds, .link, .rail, .stop, .caps, .box, .ports] }
  | .setVoltage _ _ _ => {
      objs := eventObjs ++ [.COMPUTE_LIMIT, .COMPUTE_LIMIT_REASON, .DOMAIN_STATE, .FIELD_LIMIT,
        .FIELD_LIMIT_REASON, .FIELD_VNEED, .FIELD_VOLT, .FIELD_VOLT_AT_CEIL, .GROUP_CEIL_REASON, .GROUP_CHG_ABORTS,
        .GROUP_CHG_RESULT, .GROUP_CHG_STATE, .GROUP_LIMIT, .GROUP_TARGET_N, .INJ_ARM, .INJ_COUNT, .INJ_RESULT,
        .LINK_MALFORMED, .MB_COUNT, .MB_DISCARDS, .OP_CEIL_ENTRY, .RAIL_CRC_ERRS, .RAIL_DEGRADE_EVENTS,
        .RAIL_RECOVER, .RAIL_RETRIES, .RAIL_STATE, .RAIL_STATUS, .RAIL_TARGET, .REGION_STOP_ABORTS,
        .REGION_STOP_RESULT, .REGION_STOP_STATE, .SY_POST_OVERFLOW, .UNIT_READY]
      parts := [.flt, .inj, .cell, .fld, .grp, .dom, .pdWakes, .pdCmds, .link, .rail, .stop, .caps, .box, .ports] }
  | .readVoltage _ _ _ _ => {
      objs := eventObjs ++ [.COMPUTE_LIMIT, .COMPUTE_LIMIT_REASON, .DOMAIN_STATE, .FIELD_LIMIT,
        .FIELD_LIMIT_REASON, .FIELD_VNEED, .FIELD_VOLT, .FIELD_VOLT_AT_CEIL, .GROUP_CEIL_REASON, .GROUP_CHG_ABORTS,
        .GROUP_CHG_RESULT, .GROUP_CHG_STATE, .GROUP_LIMIT, .GROUP_TARGET_N, .INJ_ARM, .INJ_COUNT, .INJ_RESULT,
        .LINK_MALFORMED, .MB_COUNT, .MB_DISCARDS, .OP_CEIL_ENTRY, .RAIL_CRC_ERRS, .RAIL_DEGRADE_EVENTS,
        .RAIL_RECOVER, .RAIL_RETRIES, .RAIL_STATE, .RAIL_STATUS, .RAIL_TARGET, .REGION_STOP_ABORTS,
        .REGION_STOP_RESULT, .REGION_STOP_STATE, .SY_POST_OVERFLOW, .UNIT_READY]
      parts := [.flt, .inj, .cell, .fld, .grp, .dom, .pdWakes, .pdCmds, .link, .rail, .stop, .caps, .box, .ports] }
  | .tlmEnable _ _ _ => {
      objs := eventObjs ++ [.COMPUTE_LIMIT, .COMPUTE_LIMIT_REASON, .DOMAIN_STATE, .FIELD_LIMIT,
        .FIELD_LIMIT_REASON, .FIELD_VNEED, .FIELD_VOLT, .FIELD_VOLT_AT_CEIL, .GROUP_CEIL_REASON, .GROUP_CHG_ABORTS,
        .GROUP_CHG_RESULT, .GROUP_CHG_STATE, .GROUP_LIMIT, .GROUP_TARGET_N, .INJ_ARM, .INJ_COUNT, .INJ_RESULT,
        .LINK_MALFORMED, .LINK_STATE, .MB_COUNT, .MB_DISCARDS, .OP_CEIL_ENTRY, .RAIL_CRC_ERRS,
        .RAIL_DEGRADE_EVENTS, .RAIL_RECOVER, .RAIL_RETRIES, .RAIL_STATE, .RAIL_STATUS, .REGION_STOP_ABORTS,
        .REGION_STOP_RESULT, .REGION_STOP_STATE, .SY_POST_OVERFLOW, .UNIT_READY]
      parts := [.flt, .inj, .cell, .fld, .grp, .dom, .pdWakes, .pdCmds, .link, .rail, .stop, .caps, .box, .ports] }
  | .readStatus _ _ _ _ => {
      objs := eventObjs ++ [.COMPUTE_LIMIT, .COMPUTE_LIMIT_REASON, .DOMAIN_STATE, .FIELD_LIMIT,
        .FIELD_LIMIT_REASON, .FIELD_VNEED, .FIELD_VOLT, .FIELD_VOLT_AT_CEIL, .GROUP_CEIL_REASON, .GROUP_CHG_ABORTS,
        .GROUP_CHG_RESULT, .GROUP_CHG_STATE, .GROUP_LIMIT, .GROUP_TARGET_N, .INJ_ARM, .INJ_COUNT, .INJ_RESULT,
        .LINK_MALFORMED, .MB_COUNT, .MB_DISCARDS, .OP_CEIL_ENTRY, .RAIL_CRC_ERRS, .RAIL_DEGRADE_EVENTS,
        .RAIL_RECOVER, .RAIL_RETRIES, .RAIL_STATE, .RAIL_STATUS, .REGION_STOP_ABORTS, .REGION_STOP_RESULT,
        .REGION_STOP_STATE, .SY_POST_OVERFLOW, .UNIT_READY]
      parts := [.flt, .inj, .cell, .fld, .grp, .dom, .pdWakes, .pdCmds, .link, .rail, .stop, .caps, .box, .ports] }
  | .clearFault _ _ _ => {
      objs := eventObjs ++ [.COMPUTE_LIMIT, .COMPUTE_LIMIT_REASON, .DOMAIN_STATE, .FIELD_LIMIT,
        .FIELD_LIMIT_REASON, .FIELD_VNEED, .FIELD_VOLT, .FIELD_VOLT_AT_CEIL, .GROUP_CEIL_REASON, .GROUP_CHG_ABORTS,
        .GROUP_CHG_RESULT, .GROUP_CHG_STATE, .GROUP_LIMIT, .GROUP_TARGET_N, .INJ_ARM, .INJ_COUNT, .INJ_RESULT,
        .LINK_MALFORMED, .MB_COUNT, .MB_DISCARDS, .OP_CEIL_ENTRY, .RAIL_CRC_ERRS, .RAIL_DEGRADE_EVENTS,
        .RAIL_RECOVER, .RAIL_RETRIES, .RAIL_STATE, .RAIL_STATUS, .REGION_STOP_ABORTS, .REGION_STOP_RESULT,
        .REGION_STOP_STATE, .SY_POST_OVERFLOW, .UNIT_READY]
      parts := [.flt, .inj, .cell, .fld, .grp, .dom, .pdWakes, .pdCmds, .link, .rail, .stop, .caps, .box, .ports] }
  | .respTimeout _ _ => {
      objs := railObjs
      parts := [.flt, .cell, .fld, .grp, .dom, .pdWakes, .pdCmds, .link, .rail, .stop, .caps, .box, .ports] }
  | .linkSilent _ => { objs := [.LINK_STATE, .RAIL_LIMIT, .RAIL_STATE, .UNIT_READY], parts := [.link] }
  | .railRecover _ => {
      objs := auditObjs ++ eventObjs ++ [.HP_DENIED, .HP_ERRORS, .HP_LAST_STATUS, .HP_NOTREADY, .HP_REQUESTS,
        .INJ_ARM, .INJ_COUNT, .INJ_RESULT, .RAIL_RECOVER, .RAIL_RETRIES, .RAIL_STATUS, .SRAM_CE, .SRAM_UE]
      parts := [.flt, .inj, .link, .rail, .dict, .ports] }
  | .mbPost _ => {
      objs := eventObjs ++ [.INJ_ARM, .INJ_COUNT, .INJ_RESULT, .MB_COUNT, .MB_POSTS, .SRAM_CE, .SRAM_UE,
        .SY_POST_OVERFLOW]
      parts := [.flt, .inj, .box, .ports] }
  | .mbTake _ => {
      objs := eventObjs ++ [.INJ_ARM, .INJ_COUNT, .INJ_RESULT, .MB_COUNT, .MB_POSTS, .SRAM_CE, .SRAM_UE,
        .SY_POST_OVERFLOW]
      parts := [.flt, .inj, .box, .ports] }
  | .mbPeek _ => {
      objs := eventObjs ++ [.INJ_ARM, .INJ_COUNT, .INJ_RESULT, .MB_COUNT, .MB_POSTS, .SRAM_CE, .SRAM_UE,
        .SY_POST_OVERFLOW]
      parts := [.flt, .inj, .box, .ports] }
  | .doorbellRead _ => {
      objs := eventObjs ++ [.INJ_ARM, .INJ_COUNT, .INJ_RESULT, .SRAM_CE, .SRAM_UE]
      parts := [.flt, .inj, .box, .ports] }
  | .noticeRead _ => {
      objs := eventObjs ++ [.INJ_ARM, .INJ_COUNT, .INJ_RESULT, .SRAM_CE, .SRAM_UE]
      parts := [.flt, .inj, .ports] }
  | .mbRemoteComplete _ => { any := true, parts := writeParts }
  | .doorbellRing _ => {
      objs := eventObjs ++ [.DOMAIN_STATE, .DOMAIN_TARGET, .INJ_ARM, .INJ_COUNT, .INJ_RESULT, .MB_COUNT,
        .MB_DISCARDS, .MB_WAKES, .SRAM_CE, .SRAM_UE, .SY_POST_OVERFLOW]
      parts := [.flt, .inj, .cell, .dom, .pdWakes, .pdCmds, .box, .ports] }
  | .lockAcquire _ => {
      objs := eventObjs ++ [.INJ_ARM, .INJ_COUNT, .INJ_RESULT, .LOCK, .LOCK_CONTESTS, .LOCK_PRIO, .SRAM_CE,
        .SRAM_UE]
      parts := [.flt, .inj, .ports] }
  | .lockRelease _ => {
      objs := eventObjs ++ [.INJ_ARM, .INJ_COUNT, .INJ_RESULT, .LOCK, .LOCK_CONTESTS, .LOCK_PRIO, .SRAM_CE,
        .SRAM_UE]
      parts := [.flt, .inj, .ports] }
  | .lockRead _ => {
      objs := eventObjs ++ [.INJ_ARM, .INJ_COUNT, .INJ_RESULT, .LOCK_CONTESTS, .LOCK_PRIO, .SRAM_CE, .SRAM_UE]
      parts := [.flt, .inj, .ports] }
  | .epReservedOp _ _ => { any := true, parts := writeParts }
  | .requesterReset _ => { objs := [.LOCK, .MB_COUNT, .MB_DISCARDS], parts := [.box, .ports] }
  | .mbTimedOut _ => { objs := [.MB_TIMEOUTS], parts := [.box, .ports] }
  | .lockForce _ _ => {
      objs := auditObjs ++ eventObjs ++ [.HP_DENIED, .HP_ERRORS, .HP_LAST_STATUS, .HP_NOTREADY, .HP_REQUESTS,
        .INJ_ARM, .INJ_COUNT, .INJ_RESULT, .LOCK, .LOCK_CONTESTS, .LOCK_PRIO, .SRAM_CE, .SRAM_UE]
      parts := [.flt, .inj, .dict, .ports] }
  | .lockHostAcquire _ => {
      objs := eventObjs ++ [.HP_DENIED, .HP_ERRORS, .HP_LAST_STATUS, .HP_NOTREADY, .HP_REQUESTS, .INJ_ARM,
        .INJ_COUNT, .INJ_RESULT, .LOCK, .LOCK_CONTESTS, .LOCK_PRIO, .SRAM_CE, .SRAM_UE]
      parts := [.flt, .inj, .dict, .ports] }
  | .lockHostRelease _ _ => {
      objs := eventObjs ++ [.HP_DENIED, .HP_ERRORS, .HP_LAST_STATUS, .HP_NOTREADY, .HP_REQUESTS, .INJ_ARM,
        .INJ_COUNT, .INJ_RESULT, .LOCK, .LOCK_CONTESTS, .LOCK_PRIO, .SRAM_CE, .SRAM_UE]
      parts := [.flt, .inj, .dict, .ports] }
  | .hostDbRing _ => {
      objs := eventObjs ++ [.DOMAIN_STATE, .DOMAIN_TARGET, .HP_DENIED, .HP_ERRORS, .HP_LAST_STATUS, .HP_NOTREADY,
        .HP_REQUESTS, .INJ_ARM, .INJ_COUNT, .INJ_RESULT, .MB_COUNT, .MB_DISCARDS, .MB_WAKES, .SRAM_CE, .SRAM_UE,
        .SY_POST_OVERFLOW]
      parts := [.flt, .inj, .cell, .dom, .pdWakes, .pdCmds, .dict, .box, .ports] }
  | .semaphorePost => { objs := [.SY_POSTS], parts := [.box, .ports] }
  | .postStatus _ _ => { objs := [.MB_SEM_STATUS, .SY_POST_NONZERO, .SY_PST_STALE], parts := [.ports] }
  | .syPostTimeout _ => { objs := [.SY_POST_TIMEOUTS], parts := [.ports] }
  | .dictRead _ => {
      objs := eventObjs ++ [.BX_DIRECTIVES, .FB_BUSY_ANSWERS, .FB_MALFORMED, .FB_TX_DROPPED, .FB_TX_FRAMES,
        .HP_DENIED, .HP_ERRORS, .HP_LAST_STATUS, .HP_NOTREADY, .INJ_ARM, .INJ_COUNT, .INJ_RESULT, .PR_GROUP_TABLE,
        .SRAM_CE, .SRAM_UE]
      parts := [.flt, .inj, .est, .dict, .ports, .phase, .budget, .idx, .fdp] }
  | .dictWrite _ => { any := true, parts := writeParts }
  | .objectWrite _ _ _ => { any := true, parts := writeParts }
  | .remoteAccessComplete _ => { any := true, parts := writeParts }
  | .expertUnlock _ => {
      objs := auditObjs ++ eventObjs ++ [.EXPERT_UNLOCK, .EXPERT_UNLOCKS, .HP_DENIED, .HP_ERRORS, .HP_LAST_STATUS,
        .HP_NOTREADY, .HP_REQUESTS, .INJ_ARM, .INJ_COUNT, .INJ_RESULT, .SRAM_CE, .SRAM_UE]
      parts := [.flt, .inj, .dict, .ports] }
  | .expertUnlockExpiry => { objs := [.EXPERT_UNLOCK, .EXPERT_UNLOCKS], parts := [.dict] }
  | .persistFlush _ => {
      objs := auditObjs ++ eventObjs ++ commitObjs ++ [.HP_DENIED, .HP_ERRORS, .HP_LAST_STATUS, .HP_NOTREADY,
        .HP_REQUESTS, .INJ_ARM, .INJ_COUNT, .INJ_RESULT, .SRAM_CE, .SRAM_UE]
      parts := [.flt, .inj, .dict, .ports, .fon] }
  | .persistCommit => { objs := commitObjs, parts := [.dict, .fon] }
  | .auditSummary => { objs := commitObjs ++ [.AUDIT_SUMMARIES, .FN_THINNED], parts := [.flt, .dict, .fon] }
  | .auditMerge => { objs := [.AUDIT_NEXT, .AUDIT_OVERWRITTEN, .AUDIT_SEQ], parts := [.dict] }
  | .idxRead _ _ => {
      objs := eventObjs ++ [.HP_DENIED, .HP_ERRORS, .HP_LAST_STATUS, .HP_NOTREADY, .HP_REQUESTS, .INJ_ARM,
        .INJ_COUNT, .INJ_RESULT, .SRAM_CE, .SRAM_UE]
      parts := [.flt, .inj, .dict, .ports, .idx] }
  | .idxWrite _ _ _ => {
      objs := eventObjs ++ [.HP_DENIED, .HP_ERRORS, .HP_LAST_STATUS, .HP_NOTREADY, .HP_REQUESTS, .INJ_ARM,
        .INJ_COUNT, .INJ_RESULT, .SRAM_CE, .SRAM_UE]
      parts := [.flt, .inj, .dict, .ports, .idx] }
  | .idxDone => { any := true, parts := writeParts }
  | .fdpRead _ => { any := true, parts := writeParts }
  | .fdpWrite _ => { any := true, parts := writeParts }
  | .fdpSessionTimeout => { objs := [.FB_SESSIONS_ABANDONED], parts := [.fdp] }
  | .fdpResponseDrop => { objs := [.FB_TX_DROPPED], parts := [.fdp] }
  | .fbClassic => { objs := [.FB_CLASSIC, .FB_HELD_RX], parts := [] }
  | .fbBusOff => { objs := eventObjs ++ [.FB_BUS_OFFS], parts := [.flt, .fdp] }
  | .fbBusOffRecovery => { objs := [.FB_TX_DROPPED, .FB_TX_FRAMES], parts := [.fdp] }
  | .fondantCommit => { objs := commitObjs, parts := [.dict, .fon] }
  | .fondantRecordDone _ => {
      objs := eventObjs ++ commitObjs ++ [.FN_BAD_COPIES, .FN_DEV_A_SECTORS, .FN_DEV_B_SECTORS, .FN_HEAD_SEQ,
        .FN_SNAP_LAST, .FN_SNAP_REQ, .INJ_ARM, .INJ_COUNT, .INJ_RESULT, .PERSIST_COMMITS, .SRAM_CE, .SRAM_UE]
      parts := [.flt, .inj, .dict, .flash, .fon] }
  | .fondantRepair => { objs := [.FN_REPAIRS, .FN_STATUS], parts := [.flash, .fon] }
  | .fondantRelocate => { objs := commitObjs, parts := [.dict, .fon] }
  | .fondantCredit => { objs := commitObjs, parts := [.dict, .fon] }
  | .pralineSnapshot => { objs := commitObjs, parts := [.dict, .fon] }
  | .fnSnapReq _ => {
      objs := auditObjs ++ eventObjs ++ commitObjs ++ [.FN_SNAP_REQ, .HP_DENIED, .HP_ERRORS, .HP_LAST_STATUS,
        .HP_NOTREADY, .HP_REQUESTS, .INJ_ARM, .INJ_COUNT, .INJ_RESULT, .SRAM_CE, .SRAM_UE]
      parts := [.flt, .inj, .dict, .ports, .fon] }
  | .dailyCommit => { objs := commitObjs, parts := [.dict, .fon] }
  | .lcArm _ => {
      objs := auditObjs ++ eventObjs ++ [.HP_DENIED, .HP_ERRORS, .HP_LAST_STATUS, .HP_NOTREADY, .HP_REQUESTS,
        .INJ_ARM, .INJ_COUNT, .INJ_RESULT, .LC_ARM, .SRAM_CE, .SRAM_UE]
      parts := [.flt, .inj, .dict, .ports, .fon] }
  | .lcArmExpiry => { objs := [.LC_ARM], parts := [.fon] }
  | .lcRequest _ => {
      objs := auditObjs ++ eventObjs ++ commitObjs ++ [.HP_DENIED, .HP_ERRORS, .HP_LAST_STATUS, .HP_NOTREADY,
        .HP_REQUESTS, .INJ_ARM, .INJ_COUNT, .INJ_RESULT, .LC_ARM, .LC_REQUEST, .LC_STATUS, .SRAM_CE, .SRAM_UE]
      parts := [.flt, .inj, .dict, .ports, .fon] }
  | .lcTransition => { any := true, parts := [.grp, .dict, .energy, .phase, .budget, .fon] }
  | .fondantWipe => { objs := [], parts := [.flash] }
  | .fnFormatReq _ => {
      objs := auditObjs ++ eventObjs ++ [.FN_HEAD_SEQ, .FN_RING, .FN_STATUS, .HP_DENIED, .HP_ERRORS,
        .HP_LAST_STATUS, .HP_NOTREADY, .HP_REQUESTS, .INJ_ARM, .INJ_COUNT, .INJ_RESULT, .SRAM_CE, .SRAM_UE,
        .UNIT_READY]
      parts := [.flt, .inj, .dict, .ports, .flash, .fon] }
  | .regionCycle _ _ => {
      objs := [.DS_STATUS, .DS_TRIPS, .INJ_ARM, .INJ_COUNT, .INJ_RESULT, .REGION_COUNT, .REGION_TIME, .SLIP,
        .STRETCH_E_CAP, .STRETCH_E_DROOP, .STRETCH_E_FLOOR, .STRETCH_E_TETHER, .STRETCH_HOLDS, .STRETCH_P2,
        .STRETCH_P4, .STRETCH_P8, .STRETCH_REFUSED, .TETHER_ENGAGES, .TETHER_STATUS, .TETHER_UNATTRIB,
        .XING_REFUSED]
      parts := [.flt, .inj, .rgn, .est, .cell] }
  | .damagedFrame _ _ => {
      objs := eventObjs ++ [.COMPUTE_LIMIT, .COMPUTE_LIMIT_REASON, .DOMAIN_STATE, .FIELD_LIMIT,
        .FIELD_LIMIT_REASON, .FIELD_VNEED, .FIELD_VOLT, .FIELD_VOLT_AT_CEIL, .GROUP_CEIL_REASON, .GROUP_CHG_ABORTS,
        .GROUP_CHG_RESULT, .GROUP_CHG_STATE, .GROUP_LIMIT, .GROUP_TARGET_N, .LINK_MALFORMED, .MB_COUNT,
        .MB_DISCARDS, .OP_CEIL_ENTRY, .RAIL_CRC_ERRS, .RAIL_DEGRADE_EVENTS, .RAIL_RECOVER, .RAIL_RETRIES,
        .RAIL_STATE, .RAIL_STATUS, .REGION_STOP_ABORTS, .REGION_STOP_RESULT, .REGION_STOP_STATE, .SY_POST_OVERFLOW,
        .UNIT_READY]
      parts := [.flt, .cell, .fld, .grp, .dom, .pdWakes, .pdCmds, .link, .rail, .stop, .caps, .box, .ports] }
  | .budgetFrameDrop _ _ _ _ => { any := true, parts := writeParts }
  | .fdpMalformed _ => { any := true, parts := writeParts }

end Sys2Proof.Machine
end

