-- ==== Sys2Proof/Certificates/Slice0/Obligations.lean ====
section
/-! DEFINITION. The statements for the provers. -/

set_option Elab.async false

open Sys2Proof Sys2Proof.Machine

/-- For every command c, queue rest and state s: step of s with c at the front of its queue is exec of c on s with the
queue's rest. On an empty queue step answers s itself (idling is the model's choice, log 3). -/
def Obligations.StepRunsFrontCommand : Prop :=
  (∀ (c : Instr) (rest : List Instr) (s : State),
    Sys2Proof.Machine.step { s with pending := c :: rest } = Sys2Proof.Machine.exec c { s with pending := rest })
  ∧ ∀ s : State, s.pending = [] → Sys2Proof.Machine.step s = .next s

/-- For every command c and state s there is a t with exec c s = next t, and t has the build and the queue of s. That
a command whose condition is not met changes nothing instead of stopping is the model's choice (log 2). -/
def Obligations.EveryCommandAnswers : Prop :=
  ∀ (c : Instr) (s : State), ∃ t, Sys2Proof.Machine.exec c s = .next t ∧ t.build = s.build ∧ t.pending = s.pending

/-- For every state s in canonical form: if step answers next t, then t is in canonical form. The canonical form says
that the object store lists each (object, subindex, element) once in rising order, each value below 2 to the object's
width and none equal to its default, and that every record table lists its records once in rising order with none
equal to the empty record; so equal contents of the block are equal data. -/
def Obligations.StepKeepsCanonicalForm : Prop :=
  ∀ s t : State, s.canon = true → Sys2Proof.Machine.step s = .next t → t.canon = true

/-- State.reset meets the canonical form that every step keeps. -/
def Obligations.ResetIsCanonical : Prop :=
  State.reset.canon = true

/-- For every command c and all states s and t with exec c s = next t: every object outside the objects that
Machine/Reach.lean names for c reads in t, at every element and subindex, what it reads in s; the build is unchanged;
and every part of the state (clock, references, start-up, fault unit, injections, the tables of regions, estimators,
lanes, sensors, cells, fields, groups, domains, links, rails, mailboxes, the flash, and so on) that Reach does not
name for c is unchanged. Commands that write or restore whichever object their operands or the flash name (dictionary
writes, resets, restoring) may change any object. -/
def Obligations.CommandsStayWithinReach : Prop :=
  ∀ (c : Instr) (s t : State), Sys2Proof.Machine.exec c s = .next t → Within (reach c) s t

/-- For every region n that is clocked and not parked: REGION_CYCLE answers a next state in which REGION_COUNT is one
higher modulo 2^48 (unchanged while the count is held), the gate and the estimation window have counted one cycle, the
depth applied is 0, 1, 2, 4 or 8 eighths, stands in DS_STATUS bits 11:8 and is added to the eighths of the FLL gate,
the last three depths have shifted by one period, and where the three periods before held at most 24 eighths the four
periods hold at most 24. Each write half of the region that is TETHERED and in no resync advances its pointer and
writes, in every lane, the slot there with the valid bit and the offered word cut to the lane's width; each such read
half (of a region that is not its own neighbour across) advances its pointer and presents, in every lane, the slot
there. On a lane a TETHERED word is presented when the read pointer meets its slot, a write elsewhere leaves it, and a
DECOUPLED write half takes a word into the slot of its queue pointer exactly while the occupancy it sees is below 16.
-/
def Obligations.RegionCycleAdvances : Prop :=
  (∀ (n : Nat) (io : CycleIn) (s : State), s.cycling n = true →
    ∃ t, Sys2Proof.Machine.exec (.regionCycle n io) s = .next t
      ∧ t.rd .REGION_COUNT n = (if s.osc n .counting then (s.rd .REGION_COUNT n + 1) % 2 ^ 48 else s.rd .REGION_COUNT n)
      ∧ (t.r n).gateCycles = (s.r n).gateCycles + 1
      ∧ (t.ee n).cycles = (s.ee n).cycles + 1
      ∧ (t.r n).last2 = (s.r n).last1 ∧ (t.r n).last3 = (s.r n).last2
      ∧ (t.r n).last1 ∈ [0, 1, 2, 4, 8]
      ∧ ((s.r n).last1 + (s.r n).last2 + (s.r n).last3 ≤ 24 →
          (t.r n).last1 + (t.r n).last2 + (t.r n).last3 + (s.r n).last3 ≤ 24)
      ∧ (t.r n).gateEighths = (s.r n).gateEighths + (t.r n).last1
      ∧ bits (t.rd .DS_STATUS n) 8 4 = (t.r n).last1)
  ∧ (∀ (n e m i : Nat) (io : CycleIn) (s : State), s.cycling n = true → e < 4 → s.neighbour n e = some m →
      (s.c m (opposite e)).wr.flow = .tethered → i < 2 * s.rd .LINKS m (opposite e) →
    ∃ t, Sys2Proof.Machine.exec (.regionCycle n io) s = .next t
      ∧ (t.c m (opposite e)).wr = (s.c m (opposite e)).wr.advance ∧ ((t.c m (opposite e)).lane i).rdy = true
      ∧ Tab.get ((t.c m (opposite e)).lane i).slots ((s.c m (opposite e)).wr.advance.ptr % 16) (false, 0)
          = ((offerOn io.words e i).isSome, (offerOn io.words e i).getD 0 % 2 ^ s.laneBits m (opposite e) i))
  ∧ (∀ (n e m i : Nat) (io : CycleIn) (s : State), s.cycling n = true → e < 4 → s.neighbour n e = some m →
      s.neighbour n (opposite e) ≠ some n → (s.c n e).rd.flow = .tethered → i < 2 * s.rd .LINKS n e →
    ∃ t, Sys2Proof.Machine.exec (.regionCycle n io) s = .next t
      ∧ (t.c n e).rd = (s.c n e).rd.advance
      ∧ ((t.c n e).lane i).vld = (Tab.get ((s.c n e).lane i).slots ((s.c n e).rd.advance.ptr % 16) (false, 0)).1
      ∧ (((t.c n e).lane i).vld = true →
          ((t.c n e).lane i).data = (Tab.get ((s.c n e).lane i).slots ((s.c n e).rd.advance.ptr % 16) (false, 0)).2))
  ∧ (∀ (x : XLane) (p q w : Nat) (offer : Option Nat) (take : Bool),
      (((x.send .tethered p (some w)).recv .tethered p take).vld = true
          ∧ ((x.send .tethered p (some w)).recv .tethered p take).data = w)
        ∧ (p % 16 ≠ q % 16 →
            Tab.get (x.send .tethered q offer).slots (p % 16) (false, 0) = Tab.get x.slots (p % 16) (false, 0)))
  ∧ ∀ (x : XLane) (p w occ : Nat), occ = x.wq - syncView ((x.rq :: x.wseen).take 3) →
      (occ < 16 → (x.send .decoupled p (some w)).wq = x.wq + 1
        ∧ Tab.get (x.send .decoupled p (some w)).slots (x.wq % 16) (false, 0) = (true, w))
      ∧ (16 ≤ occ → (x.send .decoupled p (some w)).wq = x.wq ∧ (x.send .decoupled p (some w)).slots = x.slots
        ∧ (x.send .decoupled p (some w)).rdy = false)

/-- For every region n that is clocked and not parked: after REGION_CYCLE, SLIP of each edge holds the measured slip
of R124 and R125 where the inbound cell is TETHERED and 0 elsewhere; and the level and dwell of the region are those
of R126 for the largest measured slip, the lead four cycles ago, TETHER_BANK and TETHER_ESC_DWELL in force, and trim
mode. A lead of 4 or more gives level 4, a lead below the engage level gives level 0, and a group in trim mode below a
lead of 4 never exceeds level 1. -/
def Obligations.RegionCycleMeasuresSlip : Prop :=
  (∀ (n : Nat) (io : CycleIn) (s : State), s.cycling n = true →
    let lead := ((leadOf ((edges.filter (s.measured n)).map fun e => (e, s.slipM n e (bit io.late e)))).map (·.2)).getD 0
    let bank := if (s.r n).level = 0 then s.rd .TETHER_BANK else (s.r n).bank
    let esc := if (s.r n).level = 0 then s.rd .TETHER_ESC_DWELL else (s.r n).escDwell
    let w := tetherLevel (s.trimming n) bank (s.rd .SLIP_ENGAGE) esc (s.r n).level (s.r n).dwell lead
      ((s.r n).leadHist.getD 3 0)
    ∃ t, Sys2Proof.Machine.exec (.regionCycle n io) s = .next t
      ∧ (∀ e, e < 4 → t.rd .SLIP n e = ofInt (objBits .SLIP) (if s.measured n e then s.slipM n e (bit io.late e) else 0))
      ∧ (t.r n).level = w.level ∧ (t.r n).dwell = w.dwell
      ∧ (t.r n).leadHist = lead :: (s.r n).leadHist.take 3)
  ∧ ∀ (trim : Bool) (bank engage esc level dwell : Nat) (lead old : Int), 0 < engage → level ≤ 4 →
      let t := tetherLevel trim bank engage esc level dwell lead old
      t.level ≤ 4
        ∧ (4 ≤ lead → (if trim then 1 else (engage : Int)) ≤ lead → t.level = 4)
        ∧ (lead < (if trim then 1 else (engage : Int)) → t.level = 0)
        ∧ (trim = true → lead < 4 → t.level ≤ 1)
        ∧ (trim = false → lead = 3 → (engage : Int) ≤ 3 → old < 3 → 3 ≤ t.level)
        ∧ (trim = false → lead < 3 → t.level ≤ level + 1)

/-- For every sum of the last three depths and every droop, tether and fast-cap request: the depth applied is 0, 1, 2,
4 or 8 and is the deepest such depth that is no greater than the droop request and 24 - S3, or no greater than the
tether or cap request and 20 - S3. With a depth above 0 the charge is droop where the droop request so reduced has
that depth, else tether where the reduced tether request has it, else cap; with depth 0 nobody is charged. What the
deepest request exceeds the depth applied by is the refused amount. -/
def Obligations.StretchedPeriodIsCharged : Prop :=
  ∀ s3 droop tether cap : Nat,
    let q := decideStretch s3 droop tether cap
    let ok (d : Nat) := d ∈ [0, 1, 2, 4, 8]
    let D (d : Nat) := d ≤ droop ∧ d ≤ 24 - s3
    let T (d : Nat) := d ≤ tether ∧ d ≤ 20 - s3
    let C (d : Nat) := d ≤ cap ∧ d ≤ 20 - s3
    ok q.1 ∧ (D q.1 ∨ T q.1 ∨ C q.1)
      ∧ (∀ d, ok d → D d ∨ T d ∨ C d → d ≤ q.1)
      ∧ (q.2.1 = .none ↔ q.1 = 0)
      ∧ (0 < q.1 → D q.1 → q.2.1 = .droop)
      ∧ (0 < q.1 → ¬ D q.1 → T q.1 → q.2.1 = .tether)
      ∧ (0 < q.1 → ¬ D q.1 → ¬ T q.1 → q.2.1 = .cap)
      ∧ q.2.2 = max droop (max tether cap) - q.1

/-- For all counts a and b: the model's comparison holds exactly when (a - b) mod 2^48 is less than 2^47, for counts
of any size. The park test uses it: a parked hold given to a counting region whose count has passed the park count
raises a late change and parks nothing, and any other is held with its count and release time, after the hold that has
the region parked where there is one. -/
def Obligations.CountsPassModulo : Prop :=
  (∀ a b : Nat, passed a b = true ↔ ((a : Int) - (b : Int)) % 2 ^ 48 < 2 ^ 47)
  ∧ ∀ (s : State) (n count release : Nat) (thermal : Bool),
      (s.osc n .counting = true → ((s.rd .REGION_COUNT n : Int) - (count : Int)) % 2 ^ 48 < 2 ^ 47 →
        State.Faulted s (s.givePark n count release thermal) .lateChange 0 n 1 false
          ∧ (s.givePark n count release thermal).rgn = s.rgn)
      ∧ (s.osc n .counting = false ∨ ¬ ((s.rd .REGION_COUNT n : Int) - (count : Int)) % 2 ^ 48 < 2 ^ 47 →
        (if (s.r n).park.any (·.parked) then
            ((s.givePark n count release thermal).r n).nextPark
                = some { count := count, release := release, thermal := thermal }
              ∧ ((s.givePark n count release thermal).r n).park = (s.r n).park
          else ((s.givePark n count release thermal).r n).park
              = some { count := count, release := release, thermal := thermal })
          ∧ (s.givePark n count release thermal).flt = s.flt)

/-- For a present, clocked region n: FLL_GATE_END starts a fresh gate (no cycles, no eighths, not discarded), sets
OSC_PERMIT_MAX, and leaves the accumulator at or below the permitted maximum; a discarded gate leaves it otherwise
unchanged and so does HOLD. SIGMA_DELTA_SLOT applies the integer code or the code plus 1, never the code plus 1 at the
permitted maximum, and below that maximum the 64ths carried balance exactly. CAL_OFFSET_UPDATE of a LOCKED region with
learning on leaves CAL_OFFSET within plus or minus 256. HEADROOM_REPORT clears the sums of the tick and puts the
headroom of R87, held to its type, into OSC_HEADROOM. -/
def Obligations.OscillatorGatesAndCodes : Prop :=
  (∀ (n : Nat) (s : State), s.present n = true → s.clocked n = true →
    ∃ t, Sys2Proof.Machine.exec (.fllGateEnd n) s = .next t
      ∧ (t.r n).gateCycles = 0 ∧ (t.r n).gateEighths = 0 ∧ (t.r n).gateDiscard = false
      ∧ t.rd .OSC_PERMIT_MAX n = s.permitMax n (s.segNow n) % 2 ^ 16
      ∧ (t.r n).acc ≤ 64 * s.permitMax n (s.segNow n)
      ∧ ((s.r n).gateDiscard = true ∨ s.osc n .hold = true →
          (t.r n).acc = min (s.r n).acc (64 * s.permitMax n (s.segNow n))))
  ∧ (∀ (n : Nat) (s : State), s.present n = true → s.clocked n = true → (s.r n).acc < 64 * 1023 →
    ∃ t, Sys2Proof.Machine.exec (.sigmaDeltaSlot n) s = .next t
      ∧ (t.r n).sdAcc < 64 ∧ (t.r n).acc = (s.r n).acc
      ∧ (t.rd .OSC_CODE n = (s.r n).acc / 64 ∨ t.rd .OSC_CODE n = (s.r n).acc / 64 + 1)
      ∧ ((s.r n).acc / 64 = s.rd .OSC_PERMIT_MAX n → t.rd .OSC_CODE n = (s.r n).acc / 64)
      ∧ ((s.r n).acc / 64 ≠ s.rd .OSC_PERMIT_MAX n → (s.r n).sdAcc < 64 →
          64 * t.rd .OSC_CODE n + (t.r n).sdAcc = (s.r n).acc + (s.r n).sdAcc))
  ∧ (∀ (n : Nat) (s : State), s.present n = true → s.osc n .locked = true → s.on .CAL_OFFSET_LEARN = true →
    ∃ t, Sys2Proof.Machine.exec (.calOffsetUpdate n) s = .next t
      ∧ -256 ≤ t.rdInt .CAL_OFFSET n ∧ t.rdInt .CAL_OFFSET n ≤ 256)
  ∧ (∀ (n : Nat) (s : State), s.present n = true → s.clocked n = true →
    ∃ t, Sys2Proof.Machine.exec (.headroomReport n) s = .next t
      ∧ (t.r n).ceilCount = 0 ∧ (t.r n).ceilSum = 0 ∧ (t.r n).gateCount = 0 ∧ (t.r n).mSum = 0 ∧ (t.r n).epsByN = []
      ∧ (0 < (s.r n).ceilCount → t.rdInt .OSC_HEADROOM n
          = clampInt (-(2 ^ (objBits .OSC_HEADROOM - 1))) (2 ^ (objBits .OSC_HEADROOM - 1) - 1)
              (s.headroom n (s.r n).ceilSum (s.r n).ceilCount)))

/-- OSC_UNLOCK of a region of a running group that has been out of LOCKED for 100 us in an uncounted episode counts it
once in OSC_UNLOCKS and marks it; on a counted episode it changes nothing. OSC_CEILING after 10 ms of CEILING logs
event 0x14 and marks the episode. AGE_DUE with the hours reached sets AGE_DUE in OSC_STATUS. AGE_SAMPLE_DONE of a
sampling region moves AGE_DEGRADE_LAST to AGE_DEGRADE_PREV, ends the sample, clears AGE_DUE and keeps AGE_RATIO_LAST.
START_FAIL, 200 us after the start of a region that is not LOCKED, sets START_FAIL and reports class startFail for the
region. COUNT_RELEASE of a held count whose mark was seen starts the count at 0. -/
def Obligations.OscillatorEpisodes : Prop :=
  (∀ (n at0 : Nat) (s : State), (s.r n).unlockAt = some at0 → s.inRunningGroup n = true → at0 + 100 ≤ s.up →
    ∃ t, Sys2Proof.Machine.exec (.oscUnlock n) s = .next t
      ∧ ((s.r n).unlockCounted = false →
          t.rd .OSC_UNLOCKS n = satAdd 32 (s.rd .OSC_UNLOCKS n) 1 ∧ (t.r n).unlockCounted = true)
      ∧ ((s.r n).unlockCounted = true → t = s))
  ∧ (∀ (n at0 : Nat) (s : State), (s.r n).ceilAt = some at0 → s.osc n .ceiling = true → (s.r n).ceilLogged = false →
      at0 + 10000 ≤ s.up →
    ∃ t, Sys2Proof.Machine.exec (.oscCeiling n) s = .next t
      ∧ State.Logged s t 0x14 n (ofInt 32 (s.rdInt .OSC_HEADROOM n)) false ∧ (t.r n).ceilLogged = true)
  ∧ (∀ (n : Nat) (s : State), s.present n = true →
      s.rd .AGE_SAMPLE_H n + 24 * s.rd .AGE_INTERVAL ≤ s.rd .AGE_POWERED_H n → s.rd .AGE_POWERED_H n < 2 ^ 32 →
    ∃ t, Sys2Proof.Machine.exec (.ageDue n) s = .next t ∧ t.osc n .ageDue = true)
  ∧ (∀ (n ratio : Nat) (s : State), (s.r n).ageSampling = true →
    ∃ t, Sys2Proof.Machine.exec (.ageSampleDone n ratio) s = .next t
      ∧ (t.r n).ageSampling = false ∧ t.osc n .ageDue = false
      ∧ t.rd .AGE_DEGRADE_PREV n = s.rd .AGE_DEGRADE_LAST n % 2 ^ 32
      ∧ t.rd .AGE_RATIO_LAST n = ratio % 2 ^ objBits .AGE_RATIO_LAST)
  ∧ (∀ (n at0 : Nat) (s : State), (s.r n).startAt = some at0 → s.present n = true → s.clocked n = true →
      s.osc n .locked = false → s.osc n .hold = false → s.osc n .startFail = false → at0 + 200 ≤ s.up →
    ∃ t, Sys2Proof.Machine.exec (.startFail n) s = .next t
      ∧ t.osc n .startFail = true ∧ State.Faulted s t .startFail 0 n 0 false)
  ∧ (∀ (n : Nat) (s : State), s.clocked n = true → s.osc n .counting = false → (s.r n).markSeen = true →
    ∃ t, Sys2Proof.Machine.exec (.countRelease n) s = .next t
      ∧ t.osc n .counting = true ∧ t.rd .REGION_COUNT n = 0 ∧ (t.r n).markSeen = false)

/-- DROOP_TRIP, one sample of a cycling region with no injection in progress, takes the deepest depth d among the
thresholds tripped by any enabled sensor that is not quarantined and shows in DS_STATUS.TRIPPED whether d is above 0.
Where d is deeper than the run in progress (depth 0 with none), and the sample does not reach the present period any
more, a run of DS_RUN_LEN periods begins at depth d, DS_STATUS.RUN is set and DS_TRIPS counts it; where the decision
reaches the present period before its half-cycle is over, with no run and no stretch in it, that period is the run's
first and takes the deepest permitted depth. Where d is no deeper the run goes on unchanged. DROOP_RUN_END after the
last period of a run begins a new run of DS_RUN_LEN periods at the deepest depth tripped in that period, which
DS_TRIPS counts, or ends droop stretch where none tripped. DS_STUCK of an active sensor that has tripped for
DS_STUCK_TIME sets its bit in DS_QUARANTINE and DS_STATUS.STUCK, takes it out of the active sensors, counts it and
logs event 0x30 naming the sensor. -/
def Obligations.DroopRunsBeginAndEnd : Prop :=
  (∀ (n : Nat) (x : DsSample) (s : State), s.cycling n = true → s.inj.cur = none → x.early = false →
      (s.r n).runDepth < s.sampleDepth n x →
    ∃ t, Sys2Proof.Machine.exec (.droopTrip n x.readings x.early) s = .next t
      ∧ (t.r n).runDepth = s.sampleDepth n x ∧ (t.r n).runLeft = s.rd .DS_RUN_LEN
      ∧ t.rd .DS_TRIPS n = satAdd 32 (s.rd .DS_TRIPS n) 1
      ∧ t.flag .DS_STATUS 0 n = true ∧ t.flag .DS_STATUS 1 n = true
      ∧ (t.r n).last1 = (s.r n).last1)
  ∧ (∀ (n : Nat) (x : DsSample) (s : State), s.cycling n = true → s.inj.cur = none → x.early = true →
      (s.r n).runDepth = 0 → (s.r n).last1 = 0 → 0 < s.sampleDepth n x →
    ∃ t, Sys2Proof.Machine.exec (.droopTrip n x.readings x.early) s = .next t
      ∧ (t.r n).runDepth = s.sampleDepth n x ∧ (t.r n).runLeft = s.rd .DS_RUN_LEN - 1
      ∧ t.rd .DS_TRIPS n = satAdd 32 (s.rd .DS_TRIPS n) 1
      ∧ (t.r n).last1 = permitted (min (s.sampleDepth n x) (24 - ((s.r n).last2 + (s.r n).last3 + (s.r n).last4)))
      ∧ bits (t.rd .DS_STATUS n) 8 4 = (t.r n).last1)
  ∧ (∀ (n : Nat) (x : DsSample) (s : State), s.cycling n = true → s.inj.cur = none →
      s.sampleDepth n x ≤ (s.r n).runDepth →
    ∃ t, Sys2Proof.Machine.exec (.droopTrip n x.readings x.early) s = .next t
      ∧ (t.r n).runDepth = (s.r n).runDepth ∧ (t.r n).runLeft = (s.r n).runLeft
      ∧ (t.r n).last1 = (s.r n).last1 ∧ t.rd .DS_TRIPS n = s.rd .DS_TRIPS n
      ∧ t.flag .DS_STATUS 0 n = decide (s.sampleDepth n x ≠ 0))
  ∧ (∀ (n : Nat) (s : State), (s.r n).runDepth ≠ 0 → (s.r n).runLeft = 0 → (s.r n).tripDepth ≠ 0 →
    ∃ t, Sys2Proof.Machine.exec (.droopRunEnd n) s = .next t
      ∧ (t.r n).runDepth = (s.r n).tripDepth ∧ (t.r n).runLeft = s.rd .DS_RUN_LEN
      ∧ t.rd .DS_TRIPS n = satAdd 32 (s.rd .DS_TRIPS n) 1 ∧ t.flag .DS_STATUS 1 n = true)
  ∧ (∀ (n : Nat) (s : State), (s.r n).runDepth ≠ 0 → (s.r n).runLeft = 0 → (s.r n).tripDepth = 0 →
    ∃ t, Sys2Proof.Machine.exec (.droopRunEnd n) s = .next t
      ∧ (t.r n).runDepth = 0 ∧ t.rd .DS_TRIPS n = s.rd .DS_TRIPS n ∧ t.flag .DS_STATUS 1 n = false)
  ∧ (∀ (n i : Nat) (s : State), s.sensorActive n i = true →
      16000 * s.rd .DS_STUCK_TIME * incNominal ≤ Tab.get (s.r n).stuckTime i 0 → i < 16 →
    ∃ t, Sys2Proof.Machine.exec (.dsStuck n i) s = .next t
      ∧ t.flag .DS_QUARANTINE i n = true ∧ t.flag .DS_STATUS 3 n = true ∧ t.sensorActive n i = false
      ∧ t.rd .DS_STUCK_EVENTS = (if bit (s.r n).injTrips i then s.rd .DS_STUCK_EVENTS
          else satAdd 32 (s.rd .DS_STUCK_EVENTS) 1)
      ∧ State.Logged s t 0x30 n i (bit (s.r n).injTrips i))

/-- PARK, when a counting region's count equals its park count, holds the edge: the hold is in progress, a droop run
ends, the tether level and its history clear, and REGION_CYCLE no longer runs. PARK_RELEASE of a held region whose
release time has come clears the hold, counts one held cycle and charges 8 eighths for each whole target period to
floor throttle. SLIP_FAULT on a TETHERED edge whose slip has reached 5 and has not been reported reports class
slipFault with the region and the edge. CAUSE_TAG_EXPIRY after 64 periods without stretch returns the tag to class
none and the own region. -/
def Obligations.ParksSlipFaultsAndTags : Prop :=
  (∀ (n : Nat) (p : Park) (s : State), (s.r n).park = some p → p.parked = false → s.osc n .counting = true →
      s.rd .REGION_COUNT n = p.count % 2 ^ 48 →
    ∃ t, Sys2Proof.Machine.exec (.park n) s = .next t
      ∧ ((t.r n).park.map (·.parked)) = some true ∧ t.cycling n = false
      ∧ (t.r n).runDepth = 0 ∧ (t.r n).level = 0 ∧ (t.r n).leadHist = [] ∧ t.flag .DS_STATUS 2 n = true)
  ∧ (∀ (n : Nat) (p : Park) (s : State), (s.r n).park = some p → p.parked = true → p.release < s.T + 16000 →
    ∃ t, Sys2Proof.Machine.exec (.parkRelease n) s = .next t
      ∧ (t.r n).park = none ∧ t.flag .DS_STATUS 2 n = false
      ∧ t.rd .STRETCH_HOLDS n = (s.rd .STRETCH_HOLDS n + 1) % 2 ^ 64
      ∧ t.rd .STRETCH_E_FLOOR n =
          (s.rd .STRETCH_E_FLOOR n + 8 * ((p.release - p.since) * s.rd .OSC_TARGET_N n / 10240)) % 2 ^ 64
      ∧ (t.r n).last1 = (s.r n).last1 ∧ (t.r n).last2 = (s.r n).last2 ∧ (t.r n).last3 = (s.r n).last3)
  ∧ (∀ (n e : Nat) (s : State), e < 4 → s.measured n e = true → 5 ≤ (s.rdInt .SLIP n e).natAbs →
      bit (s.r n).slipFaulted e = false →
    ∃ t, Sys2Proof.Machine.exec (.slipFault n e) s = .next t
      ∧ State.Faulted s t .slipFault 0 n e (bit (s.r n).injSlips e) ∧ bit (t.r n).slipFaulted e = true)
  ∧ (∀ (n : Nat) (s : State), 64 ≤ (s.r n).quiet →
    ∃ t, Sys2Proof.Machine.exec (.causeTagExpiry n) s = .next t ∧ (t.r n).tag = {})

/-- For a cell half whose clock and supply are there (n, e, the half named by wr): seeing the partner's REQ it raises
ACK, stops its lanes (write half: ready 0; read half: valid 0 and every slot cleared) and sets its queue pointers to 0
where the target is DECOUPLED; seeing the partner's ACK while its own REQ is up, its own reset or clock stop being
over, it sets its pointers in the same way and lowers REQ; seeing REQ low again it lowers ACK, enters the target mode,
and the words written and never presented since the previous resync are added to XING_DISCARD and counted anew; seeing
ACK low with every signal at 0 the initiating half enters the target mode and, the partner being at rest and no target
waiting, both halves are at rest and XING_RESYNCS counts one resync. -/
def Obligations.ResyncHandshake : Prop :=
  (∀ (n e : Nat) (wr : Bool) (s : State), s.halfLive n e wr = true →
      ((s.c n e).half (!wr)).req = true → ((s.c n e).half wr).ack = false →
    ∃ t, Sys2Proof.Machine.exec (.resyncReqSeen n e wr) s = .next t
      ∧ ((t.c n e).half wr).ack = true ∧ ((t.c n e).half wr).busy = true
      ∧ (∀ i, (wr = true → ((t.c n e).lane i).rdy = false) ∧ (wr = false → ((t.c n e).lane i).vld = false
          ∧ ((t.c n e).lane i).slots = []))
      ∧ ((s.c n e).target = .decoupled →
          ∀ i, (wr = true → ((t.c n e).lane i).wq = 0) ∧ (wr = false → ((t.c n e).lane i).rq = 0))
      ∧ (t.c n e).half (!wr) = (s.c n e).half (!wr))
  ∧ (∀ (n e : Nat) (wr : Bool) (s : State), s.halfLive n e wr = true →
      ((s.c n e).half wr).req = true → ((s.c n e).half wr).busy = true → ((s.c n e).half (!wr)).ack = true →
      s.halfStopping n e wr = false →
    ∃ t, Sys2Proof.Machine.exec (.resyncAckSeen n e wr) s = .next t
      ∧ ((t.c n e).half wr).req = false ∧ (t.c n e).half (!wr) = (s.c n e).half (!wr)
      ∧ ((s.c n e).target = .decoupled →
          ∀ i, (wr = true → ((t.c n e).lane i).wq = 0) ∧ (wr = false → ((t.c n e).lane i).rq = 0)))
  ∧ (∀ (n e : Nat) (wr : Bool) (s : State), s.halfLive n e wr = true →
      ((s.c n e).half wr).ack = true → ((s.c n e).half wr).busy = true → ((s.c n e).half wr).req = false →
      ((s.c n e).half (!wr)).req = false → ((s.c n e).half (!wr)).ack = false →
      ((s.c n e).half (!wr)).busy = true →
    ∃ t, Sys2Proof.Machine.exec (.resyncReqLowSeen n e wr ()) s = .next t
      ∧ ((t.c n e).half wr).ack = false ∧ ((t.c n e).half wr).busy = false
      ∧ ((t.c n e).half wr).mode = (s.c n e).target
      ∧ t.rd .XING_DISCARD n = (s.rd .XING_DISCARD n + (s.c n e).lost) % 2 ^ objBits .XING_DISCARD
      ∧ (t.c n e).lost = 0)
  ∧ (∀ (n e : Nat) (wr : Bool) (s : State), s.halfLive n e wr = true →
      ((s.c n e).half wr).busy = true → ((s.c n e).half wr).req = false → ((s.c n e).half wr).ack = false →
      ((s.c n e).half (!wr)).req = false → ((s.c n e).half (!wr)).ack = false →
      ((s.c n e).half (!wr)).busy = false → (s.c n e).waiting = none →
    ∃ t, Sys2Proof.Machine.exec (.resyncAckLowSeen n e wr) s = .next t
      ∧ ((t.c n e).half wr).mode = (s.c n e).target ∧ (t.c n e).idle = true
      ∧ t.rd .XING_RESYNCS n = satAdd (objBits .XING_RESYNCS) (s.rd .XING_RESYNCS n) 1)

/-- At count 16 POINTER_LOAD sends every cell half of the region a load with the value of its arrival after the depth
P of its path: the count then, modulo 16, for a write half and the count minus 8 for a read half; a half with a load
of depth k takes the value on its k-th advance. At count 24 RESYNC_INITIATE raises REQ with the mode the arm gave on
every inbound cell at rest that has a neighbour and both supplies; a crossing to be FENCED whose other clock is held
low stays as it is (the model's choice, log 96). PTR_CHECK compares every TETHERED half of the region with its
expected pointer: each wrong half is marked and counted in XING_PTR_ERRS, and class crossPtr is reported for each with
the region and its edge. ISLAND_RECOMPUTE of a due group puts the lowest clocked region into GROUP_ANCHOR (0xFFFF
where none is clocked). TRIM_END, when the three conditions of R162 hold, ends trim mode. ALIGN_FAIL, with trim not
ended by the limit, counts and reports class alignFail once, naming the region with the largest slip peak. -/
def Obligations.PointersAndAlignment : Prop :=
  (∀ (n : Nat) (s : State), s.clocked n = true → s.osc n .counting = true → s.rd .REGION_COUNT n = 16 →
    ∃ t, Sys2Proof.Machine.exec (.pointerLoad n) s = .next t
      ∧ ∀ e m, e < 4 → s.neighbour n e = some m →
          (t.c n e).rd.load = some (s.pathDepth n e false, (16 + s.pathDepth n e false + 8) % 16)
            ∧ (t.c m (opposite e)).wr.load
              = some (s.pathDepth m (opposite e) true, (16 + s.pathDepth m (opposite e) true) % 16))
  ∧ (∀ (h : Half) (k v : Nat), h.load = some (k + 1, v) →
      (Half.advance^[k + 1] h).ptr = v ∧ (Half.advance^[k + 1] h).load = none)
  ∧ (∀ (n : Nat) (s : State), s.clocked n = true → s.osc n .counting = true → s.rd .REGION_COUNT n = 24 →
      s.on .REGION_DETACHED n = false →
    ∃ t, Sys2Proof.Machine.exec (.resyncInitiate n) s = .next t
      ∧ ∀ e, e < 4 → (s.neighbour n e).isSome = true → (s.c n e).idle = true →
          (s.c n e).rd.dark = false → (s.c n e).wr.dark = false →
          if (s.c n e).armMode = .fenced ∧ s.cellClocked n e = false then t.c n e = s.c n e
          else (t.c n e).rd.req = true ∧ (t.c n e).rd.busy = true ∧ (t.c n e).target = (s.c n e).armMode)
  ∧ (∀ (n : Nat) (upset : List (Nat × Bool × Nat)) (s : State), s.clocked n = true → s.osc n .counting = true →
      s.rd .REGION_COUNT n % s.rd .PTR_CHECK_PERIOD = 0 →
    let v := s.upsetPtrs n upset
    let wrong := (v.tetheredHalves n).filter fun x =>
      ((v.c x.1 x.2.1).half x.2.2.1).ptr != (s.rd .REGION_COUNT n + if x.2.2.1 then 0 else 8) % 16
    ∃ t, Sys2Proof.Machine.exec (.ptrCheck n upset) s = .next t
      ∧ (∀ x ∈ wrong, ((t.c x.1 x.2.1).half x.2.2.1).ptrErr = true)
      ∧ t.rd .XING_PTR_ERRS n = wrong.foldl (fun a _ => satAdd (objBits .XING_PTR_ERRS) a 1) (s.rd .XING_PTR_ERRS n)
      ∧ t.flt.reports = s.flt.reports ++ wrong.map fun x =>
          { cls := FaultClass.crossPtr.code, unit := 0, element := n, detail := x.2.2.2, injected := false, time := s.T })
  ∧ (∀ (g : Nat) (s : State), (s.g g).islandsDue = true →
    ∃ t, Sys2Proof.Machine.exec (.islandRecompute g) s = .next t
      ∧ (t.g g).islandsDue = false
      ∧ t.rd .GROUP_ANCHOR g = (s.clockedRegions g).headD 0xFFFF % 2 ^ 16
      ∧ t.rd .GROUP_DIAMETER g = maxOf ((t.g g).islands.map (·.2)) % 2 ^ 16)
  ∧ (∀ (g : Nat) (s : State), s.trimDone g = true →
    ∃ t, Sys2Proof.Machine.exec (.trimEnd g) s = .next t
      ∧ (t.g g).trim = false ∧ (t.rd .TRIM_MODE = 1 ↔ ∃ h ∈ t.groups, (t.g h).trim = true))
  ∧ (∀ (g at0 : Nat) (s : State), (s.g g).releasedAt = some at0 → (s.g g).trim = true → (s.g g).alignFailed = false →
      at0 + s.rd .ALIGN_LIMIT + (s.g g).trimHeld ≤ s.up →
    ∃ t, Sys2Proof.Machine.exec (.alignFail g) s = .next t
      ∧ (t.g g).alignFailed = true ∧ t.rd .ALIGN_FAILS = satAdd (objBits .ALIGN_FAILS) (s.rd .ALIGN_FAILS) 1
      ∧ State.Faulted s t .alignFail 3 (s.worstSlip g) 0 false)

/-- For every N_old and target of at least 160: a step toward a higher target rises by at most floor(N_old / 4), past
N_old, and not past the target; a step toward a lower target falls by at most floor(N_old / 4), below N_old, and not
past the target; no step takes the target below 160; and a step toward N_old itself moves nothing. The step that a
group's sequencer starts is this one, from GROUP_N toward a target of at least 160. -/
def Obligations.StepsMoveByAQuarter : Prop :=
  (∀ old tgt : Nat, 160 ≤ old → 160 ≤ tgt →
    (old < tgt → old < stepToward old tgt ∧ stepToward old tgt ≤ tgt ∧ stepToward old tgt - old ≤ old / 4)
      ∧ (tgt < old → stepToward old tgt < old ∧ tgt ≤ stepToward old tgt ∧ old - stepToward old tgt ≤ old / 4)
      ∧ (tgt = old → stepToward old tgt = old))
  ∧ (∀ old tgt : Nat, 160 ≤ old → 160 ≤ stepToward old tgt)
  ∧ ∀ (g : Nat) (st : GStep) (s : State), (s.g g).step = none →
      ((s.startStep g).g g).step = some st →
        st.nOld = s.rd .GROUP_N g ∧ ∃ tgt, 160 ≤ tgt ∧ st.nNew = stepToward st.nOld tgt

/-- GROUP_TARGET of an implemented group with 160 to 1536 becomes the pending target and GROUP_TARGET_N shows it
clipped to the ceiling; outside that range nothing changes. GROUP_STEP_START with a pending target below GROUP_N after
the clip, a clocked island, no freeze, no short stop of CTL and no region stop on its fields broadcasts at once: the
step in flight goes from GROUP_N to one step toward the target with a count C that GROUP_CHG_C shows, and
GROUP_CHG_STATE reads BROADCAST. VOLT_CONFIRM with every raised field confirmed broadcasts the step. VOLT_TIMEOUT of
an unconfirmed field after the deadline logs event 0x27 with the group and the field, ends the step VOLT_TIMEOUT and
bars rising steps until the next tick. GROUP_STEP_END, once reports show every island anchor past C plus four
diameters, sets GROUP_N to the new ratio, result OK. -/
def Obligations.GroupTargetsAndSteps : Prop :=
  (∀ (g target : Nat) (s : State), g < s.rd .NUM_GROUPS → 160 ≤ target → target ≤ 1536 →
    ∃ t, Sys2Proof.Machine.exec (.groupTarget g target) s = .next t
      ∧ (t.g g).pending = some target ∧ t.rd .GROUP_TARGET_N g = min target (s.ceilN g))
  ∧ (∀ (g target : Nat) (s : State), target < 160 ∨ 1536 < target →
      Sys2Proof.Machine.exec (.groupTarget g target) s = .next s)
  ∧ (∀ (g p : Nat) (s : State), g < s.rd .NUM_GROUPS → (s.g g).step = none → (s.g g).noStep = false →
      s.opFrozen = false → s.refs.shortStop = false → s.stopHolds g = false →
      (s.isReady .ready = true ∨ s.su.ramping = true) → (s.g g).pending = some p →
      max 160 (min p (s.ceilN g)) < s.rd .GROUP_N g → (s.g g).islands ≠ [] →
    ∃ t st c, Sys2Proof.Machine.exec (.groupStepStart g) s = .next t
      ∧ (t.g g).step = some st ∧ st.nOld = s.rd .GROUP_N g
      ∧ st.nNew = stepToward (s.rd .GROUP_N g) (max 160 (min p (s.ceilN g)))
      ∧ st.c = some c ∧ c < 2 ^ 48 ∧ t.rd .GROUP_CHG_C g = c ∧ t.rd .GROUP_CHG_STATE g = Chg.broadcast.ctorIdx)
  ∧ (∀ (g : Nat) (st : GStep) (s : State), g ≠ 0xFF → s.refs.shortStop = false →
      (s.g g).step = some st → st.c = none → st.raising ≠ [] →
      (∀ f ∈ st.raising, s.voltConfirmed st.tol f (Tab.get st.vNew f 0) = true) → (s.g g).islands ≠ [] →
    ∃ t u c, Sys2Proof.Machine.exec (.voltConfirm g) s = .next t
      ∧ (t.g g).step = some u ∧ u.nNew = st.nNew ∧ u.c = some c ∧ t.rd .GROUP_CHG_C g = c)
  ∧ (∀ (g f : Nat) (st : GStep) (s : State), g ≠ 0xFF → s.refs.shortStop = false →
      (s.g g).step = some st → st.c = none →
      (st.raising.find? fun f => !s.voltConfirmed st.tol f (Tab.get st.vNew f 0)) = some f → st.deadline ≤ s.up →
    ∃ t, Sys2Proof.Machine.exec (.voltTimeout g) s = .next t
      ∧ State.Logged s t 0x27 g f false ∧ (t.g g).step = none ∧ (t.g g).noRise = true
      ∧ t.rd .GROUP_CHG_RESULT g = 3
      ∧ t.rd .GROUP_CHG_ABORTS g = satAdd 32 (s.rd .GROUP_CHG_ABORTS g) 1)
  ∧ (∀ (g c : Nat) (st : GStep) (s : State), s.refs.shortStop = false →
      (s.g g).step = some st → st.c = some c → s.opFrozen = false →
      (∀ i ∈ (s.g g).islands, s.reportedPast i.1 (c + 4 * i.2) = true) →
    ∃ t, Sys2Proof.Machine.exec (.groupStepEnd g) s = .next t
      ∧ t.rd .GROUP_N g = st.nNew % 2 ^ 16 ∧ (t.g g).step = none ∧ t.rd .GROUP_CHG_RESULT g = 1
      ∧ t.rd .GROUP_CHG_STEPS g = satAdd 32 (s.rd .GROUP_CHG_STEPS g) 1)

/-- CHANGE_BROADCAST of a group's last broadcast, (C, ratio), to the agent of a live, clocked, attached region that
has not heard it: with C ahead the agent holds C and the new ratio and switches nothing; with C already passed it
holds nothing new and reports class lateChange. CHANGE_AT_C, once the count has become C, sets OSC_TARGET_N to the new
ratio, sets SEED, leaves LOCKED, discards the gate, chooses the S class of the new ratio and clears the held change; a
droop run goes on. -/
def Obligations.AgentsSwitchAtC : Prop :=
  (∀ (n c ratio : Nat) (s : State), (s.g (s.groupOf (fieldOf n))).cast = some (c, ratio) →
      s.live n = true → s.clocked n = true → s.on .REGION_DETACHED n = false → s.groupOf (fieldOf n) ≠ 0xFF →
      (s.r n).heard ≠ some (c, ratio) → passed (s.rd .REGION_COUNT n) c = false →
    ∃ t, Sys2Proof.Machine.exec (.changeBroadcast n) s = .next t
      ∧ (t.r n).change = some (c, ratio) ∧ t.flt = s.flt ∧ t.rd .OSC_TARGET_N n = s.rd .OSC_TARGET_N n)
  ∧ (∀ (n c ratio : Nat) (s : State), (s.g (s.groupOf (fieldOf n))).cast = some (c, ratio) →
      s.live n = true → s.clocked n = true → s.on .REGION_DETACHED n = false → s.groupOf (fieldOf n) ≠ 0xFF →
      (s.r n).heard ≠ some (c, ratio) → passed (s.rd .REGION_COUNT n) c = true →
    ∃ t, Sys2Proof.Machine.exec (.changeBroadcast n) s = .next t
      ∧ (t.r n).change = (s.r n).change ∧ State.Faulted s t .lateChange 0 n 0 false
      ∧ t.rd .OSC_TARGET_N n = s.rd .OSC_TARGET_N n)
  ∧ ∀ (n c ratio : Nat) (s : State), (s.r n).change = some (c, ratio) → s.clocked n = true →
      passed (s.rd .REGION_COUNT n) c = true →
    ∃ t, Sys2Proof.Machine.exec (.changeAtC n) s = .next t
      ∧ t.rd .OSC_TARGET_N n = ratio % 2 ^ 16 ∧ t.osc n .seed = true ∧ t.osc n .locked = false
      ∧ (t.r n).gateDiscard = true ∧ (t.r n).sClass = sClassOf ratio ∧ (t.r n).change = none
      ∧ (t.r n).runDepth = (s.r n).runDepth ∧ (t.r n).runLeft = (s.r n).runLeft
      ∧ t.rd .REGION_COUNT n = s.rd .REGION_COUNT n

/-- A request at its turn, after the first READY, whose domain rests, whose field no group step holds and whose router
sub-domain is on, for a lower target, sends the quiesce request with the next stop epoch; with the router off it ends
POWERED_DOWN and no quiesce goes. A confirmed raise sends the quiesce; an unconfirmed one past its deadline ends
VOLT_TIMEOUT. Outside a short stop of CTL the matching acknowledgement lets the stop command go and any other is
counted stale and changes nothing else; in one the synchroniser holds it. No acknowledgement in time ends the step
QUIESCE_TIMEOUT and sends the release with the same epoch. STOP_COMMAND with no resync of the region in progress
raises REQ on every half of a DECOUPLED cell; STOP_ACK with every ACK holds the clock low with the seed of the new
ratio loaded and counts the stop; REGION_RESTART after the stop time runs the clock with S3 at 0 and no run;
RESTART_REPORT with the resyncs over releases with the epoch and reports OK. CTL does not stand still where its own
steps run. -/
def Obligations.RegionStopsInOrder : Prop :=
  (∀ (x : RStop) (s : State), s.stop.cur = some x → x.order = 0 → s.refs.shortStop = false →
      (s.d (s.domainOf x.region)).phase = none → s.stepHolds (fieldOf x.region) = false →
      s.su.everReady = true → s.routerOn x.region = true → 160 ≤ x.target → x.target ≤ s.rd .OSC_TARGET_N x.region →
    ∃ t y, Sys2Proof.Machine.exec .regionStopStart s = .next t
      ∧ t.stop.cur = some y ∧ y.region = x.region ∧ y.order = 2 ∧ y.target = x.target
      ∧ y.nNew = stepToward (s.rd .OSC_TARGET_N x.region) x.target ∧ y.epoch = (s.stop.epoch + 1) % 256
      ∧ t.stop.qreqOp = true ∧ t.stop.qreqRegion = x.region ∧ t.stop.qreqEpoch = y.epoch
      ∧ y.deadline = s.up + s.rd .QUIESCE_LIMIT)
  ∧ (∀ (x : RStop) (s : State), s.stop.cur = some x → x.order = 0 → s.refs.shortStop = false →
      (s.d (s.domainOf x.region)).phase = none → s.stepHolds (fieldOf x.region) = false →
      s.su.everReady = true → s.routerOn x.region = false →
    ∃ t, Sys2Proof.Machine.exec .regionStopStart s = .next t
      ∧ t.rd .REGION_STOP_RESULT x.region = 6 ∧ t.stop.qreqEpoch = s.stop.qreqEpoch ∧ t.stop.epoch = s.stop.epoch)
  ∧ (∀ (x : RStop) (s : State), s.stop.cur = some x → x.order = 1 → s.refs.shortStop = false →
      s.voltConfirmed x.tol (fieldOf x.region) x.vNew = true →
    ∃ t, Sys2Proof.Machine.exec (.voltConfirm 0xFF) s = .next t
      ∧ (t.stop.cur.map (·.order)) = some 2 ∧ t.stop.qreqOp = true ∧ t.stop.qreqEpoch = x.epoch)
  ∧ (∀ (x : RStop) (s : State), s.stop.cur = some x → x.order = 1 → s.refs.shortStop = false →
      s.voltConfirmed x.tol (fieldOf x.region) x.vNew = false → x.deadline ≤ s.up →
    ∃ t, Sys2Proof.Machine.exec (.voltTimeout 0xFF) s = .next t
      ∧ State.Logged s t 0x27 (s.groupOf (fieldOf x.region)) (fieldOf x.region) false
      ∧ t.rd .REGION_STOP_RESULT x.region = 3)
  ∧ (∀ (x : RStop) (s : State), s.stop.cur = some x → x.order = 2 → s.refs.shortStop = false →
    ∃ t, Sys2Proof.Machine.exec (.quiesceAck x.epoch) s = .next t
      ∧ (t.stop.cur.map (·.order)) = some 3 ∧ t.rd .SY_QACKS = satAdd (objBits .SY_QACKS) (s.rd .SY_QACKS) 1)
  ∧ (∀ (x : RStop) (epoch : Nat) (s : State), s.stop.cur = some x → epoch ≠ x.epoch → s.refs.shortStop = false →
    ∃ t, Sys2Proof.Machine.exec (.quiesceAck epoch) s = .next t
      ∧ t.stop = s.stop
      ∧ t.rd .QUIESCE_STALE_ACKS = satAdd (objBits .QUIESCE_STALE_ACKS) (s.rd .QUIESCE_STALE_ACKS) 1)
  ∧ (∀ (epoch : Nat) (s : State), s.refs.shortStop = true →
    Sys2Proof.Machine.exec (.quiesceAck epoch) s
      = .next { s with ports := { s.ports with syHeld := s.ports.syHeld ++ [.ack epoch] } })
  ∧ (∀ (x : RStop) (s : State), s.stop.cur = some x → x.order = 2 → s.refs.shortStop = false →
      x.deadline ≤ s.up →
    ∃ t, Sys2Proof.Machine.exec .quiesceTimeout s = .next t
      ∧ t.rd .REGION_STOP_RESULT x.region = 2 ∧ t.stop.qreqOp = false ∧ t.stop.qreqEpoch = x.epoch
      ∧ t.rd .REGION_STOP_ABORTS x.region = satAdd 32 (s.rd .REGION_STOP_ABORTS x.region) 1)
  ∧ (∀ (x : RStop) (s : State), s.stop.cur = some x → x.order = 3 →
      (∀ h ∈ s.ownHalves x.region, (s.c h.1 h.2.1).idle = true) →
    ∃ t, Sys2Proof.Machine.exec (.stopCommand x.region) s = .next t ∧ t.stop.cur = some { x with order := 4 }
      ∧ t.clocked x.region = s.clocked x.region
      ∧ ∀ h ∈ s.stopHalves x.region, ((t.c h.1 h.2.1).half h.2.2).req = true ∧ (t.c h.1 h.2.1).target = .decoupled)
  ∧ (∀ (x : RStop) (s : State), s.stop.cur = some x → x.order = 4 →
      (∀ h ∈ s.stopHalves x.region, ((s.c h.1 h.2.1).half (!h.2.2)).ack = true) →
    ∃ t, Sys2Proof.Machine.exec (.stopAck x.region) s = .next t
      ∧ t.stop.cur = some { x with order := 5, deadline := s.up + s.rd .STOP_TIME / 1000 }
      ∧ t.clocked x.region = false ∧ t.rd .OSC_TARGET_N x.region = x.nNew % 2 ^ 16
      ∧ t.rd .REGION_COUNT x.region = s.rd .REGION_COUNT x.region
      ∧ t.rd .REGION_STOPS x.region = satAdd 32 (s.rd .REGION_STOPS x.region) 1)
  ∧ (∀ (x : RStop) (s : State), s.stop.cur = some x → x.order = 5 → x.deadline ≤ s.up →
    ∃ t, Sys2Proof.Machine.exec (.regionRestart x.region) s = .next t ∧ t.stop.cur = some { x with order := 6 }
      ∧ t.clocked x.region = true ∧ (t.r x.region).runDepth = 0
      ∧ (t.r x.region).last1 + (t.r x.region).last2 + (t.r x.region).last3 = 0)
  ∧ ∀ (x : RStop) (s : State), s.stop.cur = some x → x.order = 6 → s.refs.shortStop = false →
      s.crossingsIdle x.region = true →
    ∃ t, Sys2Proof.Machine.exec (.restartReport x.region) s = .next t
      ∧ t.rd .REGION_STOP_RESULT x.region = 1
      ∧ t.stop.qreqOp = false ∧ t.stop.qreqRegion = x.region ∧ t.stop.qreqEpoch = x.epoch
      ∧ (x.nNew ≠ x.target → t.stop.cur = some { region := x.region, target := x.target })

/-- POWER_STEP_WAIT_END answers a next state in which any domain's PD_EN signal differs only if the last PD_EN change
was at least 2 us ago, and this change is then the last; a domain that waits to open its core switches with the
stagger over, its target not ON and CTL running, opens them and awaits PD_ACK_CORE for at most 50 us. PD_ACK_CHANGE
records the level, and the acknowledgement that completes ON to FENCED at target FENCED ends the transition with
DOMAIN_STATE 1. PD_TIMEOUT of an awaited acknowledgement past its deadline reports class pdTimeout with the domain and
the sub-domain once, and the transition keeps its phase. -/
def Obligations.PowerTransitionSteps : Prop :=
  (∀ (d : Nat) (s : State), ∃ t, Sys2Proof.Machine.exec (.powerStepWaitEnd d) s = .next t
      ∧ ∀ x, ((t.d x).enCore ≠ (s.d x).enCore ∨ (t.d x).enRtr ≠ (s.d x).enRtr) →
          t.pdLast = some s.up ∧ ∀ at0, s.pdLast = some at0 → at0 + 2 ≤ s.up)
  ∧ (∀ (d : Nat) (s : State), (s.d d).phase = some .coreOffStagger → s.rd .DOMAIN_TARGET d ≠ 0 → s.staggerOver d = true →
      s.refs.shortStop = false →
    ∃ t, Sys2Proof.Machine.exec (.powerStepWaitEnd d) s = .next t
      ∧ (t.d d).enCore = false ∧ (t.d d).phase = some .coreOffAck ∧ (t.d d).deadline = s.up + 50 ∧ t.pdLast = some s.up)
  ∧ (∀ (d : Nat) (rtr level : Bool) (s : State),
    ∃ t, Sys2Proof.Machine.exec (.pdAckChange d rtr level) s = .next t
      ∧ (if rtr then (t.d d).ackRtr else (t.d d).ackCore) = level
      ∧ (rtr = false → level = false → (s.d d).phase = some .coreOffAck → (s.d d).enCore = false → (s.d d).enRtr = true →
          s.rd .DOMAIN_TARGET d = 1 → (t.d d).phase = none ∧ t.rd .DOMAIN_STATE d = 1))
  ∧ ∀ (d : Nat) (p : PdPhase) (s : State), (s.d d).phase = some p → p.awaitsAck = true → s.acked d p = false →
      (s.d d).timedOut = false → s.refs.shortStop = false → (s.d d).deadline ≤ s.up →
    ∃ t, Sys2Proof.Machine.exec (.pdTimeout d) s = .next t
      ∧ State.Faulted s t .pdTimeout 3 d p.awaitsRtr.toNat false
      ∧ (t.d d).timedOut = true ∧ (t.d d).phase = some p

/-- RAIL_ENUMERATION from 1.0 ms starts the clock of every used link and makes every rail ENUMERATING. An answer to
IDENTIFY that some phase received shows in LINK_IDENT with the phase chosen; a protocol version other than 1 makes the
link INCOMPATIBLE and its rails ABSENT. A rating answered OK shows in RAIL_IRATING and, with no value of Fondant, in
RAIL_IMAX, RAIL_VMIN and RAIL_VMAX. READ_VOLTAGE outside a recovery puts the code into RAIL_TARGET. TLM_ENABLE
answered OK enables telemetry on the channels of its mask and brings the link up. A used link that no IDENTIFY has
answered by 1.9 ms becomes SILENT, its clock stops and its rails are ABSENT. (No injection is in progress.) -/
def Obligations.RailsAreEnumerated : Prop :=
  (∀ s : State, s.seqRuns = true → s.isReady .ctl = true → s.su.railsStarted = false → 1000 ≤ s.up →
    ∃ t, Sys2Proof.Machine.exec .railEnumeration s = .next t
      ∧ (∀ r, r < s.rd .NUM_RAILS → t.rd .RAIL_STATE r = 1)
      ∧ (∀ k ∈ s.usedLinks, (t.l k).clock = true ∧ t.rd .LINK_STATE 0 k = 1))
  ∧ (∀ (k phases tag data : Nat) (c : LCmd) (s : State), s.inj.cur = none → phases % 16 ≠ 0 →
      s.cmdOf k tag = some c → c.op = ROp.identify.code →
    ∃ t, Sys2Proof.Machine.exec (.identify k phases tag data) s = .next t
      ∧ t.rd .LINK_IDENT 0 k = data % 2 ^ 32 ∧ t.rd .LINK_RX_PHASE 0 k = choosePhase phases
      ∧ (bits data 8 8 ≠ 1 → t.rd .LINK_STATE 0 k = 4 ∧ ∀ r ∈ s.linkRails k, t.rd .RAIL_STATE r = 0))
  ∧ (∀ (k tag data r : Nat) (c : LCmd) (s : State), s.inj.cur = none → s.cmdOf k tag = some c → c.op = ROp.readRating.code →
      s.railAt k c.ch = some r → (s.ra r).stored = [] →
    ∃ t, Sys2Proof.Machine.exec (.readRating k tag 0 data) s = .next t
      ∧ t.rd .RAIL_IRATING r = bits data 18 14 ∧ t.rd .RAIL_IMAX r = bits data 18 14
      ∧ t.rd .RAIL_VMIN r = bits data 0 9 ∧ t.rd .RAIL_VMAX r = bits data 9 9 ∧ (t.ra r).rated = true)
  ∧ (∀ (k tag data r : Nat) (c : LCmd) (s : State), s.inj.cur = none → s.cmdOf k tag = some c → c.op = ROp.readVoltage.code →
      s.railAt k c.ch = some r → c.recover = none →
    ∃ t, Sys2Proof.Machine.exec (.readVoltage k tag 0 data) s = .next t
      ∧ t.rd .RAIL_TARGET r = bits data 0 9 ∧ (t.ra r).readBack = true)
  ∧ (∀ (k tag : Nat) (c : LCmd) (s : State), s.inj.cur = none → s.cmdOf k tag = some c → c.op = ROp.tlmEnable.code →
    ∃ t, Sys2Proof.Machine.exec (.tlmEnable k tag 0) s = .next t
      ∧ t.rd .LINK_STATE 0 k = 2 ∧ ∀ r ∈ s.cmdRails k c, (t.ra r).tlmOn = true)
  ∧ ∀ (k : Nat) (s : State), k ∈ s.usedLinks → s.rd .LINK_STATE 0 k = 1 → (s.l k).channels = 0 → 1900 ≤ s.up →
    ∃ t, Sys2Proof.Machine.exec (.linkSilent k) s = .next t
      ∧ t.rd .LINK_STATE 0 k = 3 ∧ (t.l k).clock = false ∧ (t.l k).out = []
      ∧ ∀ r ∈ s.linkRails k, t.rd .RAIL_STATE r = 0

/-- SET_VOLTAGE answered OK puts its code into RAIL_TARGET of the rails of its mask. READ_STATUS of a recovery in
progress that reports any bit ends the recovery as failed (RECOVER_FAIL set); with no bit, and CLEAR_FAULT answered
OK, the answer is noted and the recovery awaits the next TLM once all three are there. CLEAR_FAULT of no recovery
leaves the link and changes no rail (nothing waiting on the link). RESP_TIMEOUT of a command other than IDENTIFY
counts a timeout for each addressed rail and, while fewer than three retries have failed, repeats the same frame with
the same TAG, counting a retry, at once where the link may send and no command to be repeated stands before it (a
SET_VOLTAGE not to a field with a DEGRADED rail); after the third, every addressed rail that is not ABSENT becomes
DEGRADED. A damaged RESP of an outstanding command counts a CRC error for each addressed rail; an upstream frame of
another OP than RESP and TLM counts in LINK_MALFORMED and does nothing else. (No injection is in progress.) -/
def Obligations.RailCommandsAnswered : Prop :=
  (∀ (k tag : Nat) (c : LCmd) (s : State), s.inj.cur = none → s.cmdOf k tag = some c → c.op = ROp.setVoltage.code →
    ∃ t, Sys2Proof.Machine.exec (.setVoltage k tag 0) s = .next t
      ∧ ∀ r ∈ s.cmdRails k c, t.rd .RAIL_TARGET r = bits c.data 0 9)
  ∧ (∀ (k tag data r : Nat) (c : LCmd) (s : State), s.inj.cur = none → s.cmdOf k tag = some c → c.op = ROp.readStatus.code →
      c.recover = some r → c.void = false → (s.ra r).recover = 1 →
    ∃ t, Sys2Proof.Machine.exec (.readStatus k tag 0 data) s = .next t
      ∧ (bits data 0 4 ≠ 0 → t.flag .RAIL_STATUS 3 r = true ∧ t.rd .RAIL_RECOVER r = 0 ∧ (t.ra r).recover = 0)
      ∧ (bits data 0 4 = 0 → (t.ra r).recoverGot = setBit (s.ra r).recoverGot 1 true
          ∧ (t.ra r).recover = (if (t.ra r).recoverGot = 7 then 2 else 1) ∧ t.rd .RAIL_RECOVER r = s.rd .RAIL_RECOVER r))
  ∧ (∀ (k tag r : Nat) (c : LCmd) (s : State), s.inj.cur = none → s.cmdOf k tag = some c → c.op = ROp.clearFault.code →
      c.recover = some r → c.void = false → (s.ra r).recover = 1 →
    ∃ t, Sys2Proof.Machine.exec (.clearFault k tag 0) s = .next t
      ∧ (t.ra r).recoverGot = setBit (s.ra r).recoverGot 0 true
      ∧ (t.ra r).recover = (if (t.ra r).recoverGot = 7 then 2 else 1) ∧ t.rd .RAIL_RECOVER r = s.rd .RAIL_RECOVER r)
  ∧ (∀ (k tag : Nat) (c : LCmd) (s : State), s.inj.cur = none → s.cmdOf k tag = some c → c.op = ROp.clearFault.code →
      c.recover = none → (s.l k).queue = [] → s.nextSet k = none → (∀ x ∈ (s.l k).out, x.again = false) →
    ∃ t, Sys2Proof.Machine.exec (.clearFault k tag 0) s = .next t
      ∧ (t.l k).out = (s.l k).out.erase c ∧ t.rail = s.rail)
  ∧ (∀ (k tag : Nat) (c : LCmd) (s : State), s.refs.shortStop = false →
      s.cmdOf k tag = some c → c.op ≠ ROp.identify.code → c.tries < 3 → (∀ x ∈ (s.l k).out, x.again = false) →
      linkFree (s.l k) = true → s.withdrawn k c = false →
    ∃ t, Sys2Proof.Machine.exec (.respTimeout k tag) s = .next t
      ∧ t.cmdOf k tag = some { c with tries := c.tries + 1 }
      ∧ ∀ r ∈ s.cmdRails k c, t.rd .RAIL_TIMEOUTS r = satAdd 32 (s.rd .RAIL_TIMEOUTS r) 1
          ∧ t.rd .RAIL_RETRIES r = satAdd 32 (s.rd .RAIL_RETRIES r) 1)
  ∧ (∀ (k tag : Nat) (c : LCmd) (s : State), s.refs.shortStop = false →
      s.cmdOf k tag = some c → c.op ≠ ROp.identify.code → 3 ≤ c.tries → c.again = false →
    ∃ t, Sys2Proof.Machine.exec (.respTimeout k tag) s = .next t
      ∧ ∀ r ∈ s.cmdRails k c, s.rd .RAIL_STATE r ≠ 0 → t.rd .RAIL_STATE r = 3)
  ∧ (∀ (k frame : Nat) (c : LCmd) (s : State), bits frame 52 4 = ROp.resp.code → frameOk frame = false →
      s.cmdOf k (bits frame 44 4) = some c →
    ∃ t, Sys2Proof.Machine.exec (.damagedFrame k frame) s = .next t
      ∧ ∀ r ∈ s.cmdRails k c, t.rd .RAIL_CRC_ERRS r = satAdd 32 (s.rd .RAIL_CRC_ERRS r) 1)
  ∧ ∀ (k frame : Nat) (s : State), bits frame 52 4 ≠ ROp.resp.code → bits frame 52 4 ≠ ROp.tlm.code →
    ∃ t, Sys2Proof.Machine.exec (.damagedFrame k frame) s = .next t
      ∧ t.rd .LINK_MALFORMED 0 k = satAdd (objBits .LINK_MALFORMED) (s.rd .LINK_MALFORMED 0 k) 1
      ∧ t.link = s.link ∧ t.rail = s.rail

/-- MARK with an ended interval k = (T / 160000) - 1 marks k on every used, enumerated link that does not carry it
yet, or leaves the MARK waiting during a controller short stop. TLM on an enabled channel, with no injection in
progress, shows VMEAN and IMEAN in RAIL_VMEAS and RAIL_IMEAS; for the marked interval, of an OK rail, with VALID and
no FAULT it delivers the interval with validity 1 and ends the run of invalid intervals; with FAULT a rail that is
neither ABSENT nor DEGRADED becomes DEGRADED. -/
def Obligations.MarksAndTelemetry : Prop :=
  (∀ (j : Nat) (s : State), 1 ≤ s.interval → j ∈ s.usedLinks → s.linkUp j = true → (s.l j).mark ≠ some (s.interval - 1) →
    ∃ t, Sys2Proof.Machine.exec .mark s = .next t
      ∧ (s.refs.shortStop = false → (t.l j).mark = some (s.interval - 1) ∧ (t.l j).markDue = false)
      ∧ (s.refs.shortStop = true → (t.l j).mark = (s.l j).mark ∧ (t.l j).markDue = true))
  ∧ ∀ (k ch tag data r : Nat) (s : State), s.railAt k ch = some r → s.inj.cur = none → (s.ra r).tlmOn = true →
    ∃ t, Sys2Proof.Machine.exec (.tlm k ch tag data) s = .next t
      ∧ t.rd .RAIL_VMEAS r = bits data 6 12 ∧ t.rd .RAIL_IMEAS r = bits data 18 14
      ∧ (∀ m, (s.l k).mark = some m → tag % 16 = m % 16 → (s.ra r).gotK ≠ some m → bit data 5 = true → bit data 2 = false →
          s.railOk r = true → (t.ra r).gotK = some m ∧ (t.ra r).gotValid = true ∧ (t.ra r).invalidRun = 0)
      ∧ (bit data 2 = true → s.rd .RAIL_STATE r ≠ 0 → t.rd .RAIL_STATE r = 3)

/-- SWEEP_START of a present, clocked region that may begin and has no sweep in progress starts one at lane 0 with
empty sums and asks for lane 0 (ACT_REQ 1, ACT_ADDR 0); with no lanes the sweep ends as it begins (log 72). A response
ACT_LATENCY cycles or more after its request belongs to the next lane: a valid read of a lane with a baseline
contributes its weight times the difference modulo 65536 and becomes the baseline, without a baseline it contributes
0; an invalid one contributes the last difference while the core is powered, 0 otherwise, takes the baseline away, and
counts in LANE_INVALIDS while the core is powered. The response of the last lane ends the sweep, whose sum is then
that of the ended sweep. A valid response of a present region that is not due, before ACT_LATENCY or outside a sweep,
is ignored and counts in ACT_PROTO_ERR. -/
def Obligations.SweepsReadEveryLane : Prop :=
  (∀ (n : Nat) (s : State), s.present n = true → s.clocked n = true → (s.ee n).mayBegin = true → (s.ee n).sweeping = false →
    ∃ t, Sys2Proof.Machine.exec (.sweepStart n) s = .next t
      ∧ (t.ee n).mayBegin = false ∧ (t.ee n).lane = 0 ∧ (t.ee n).acc = 0 ∧ (t.ee n).mask = 0
      ∧ (if s.rd .REGION_LANES n = 0 then (t.ee n).sweeping = false ∧ (t.ee n).ended = true
          else (t.ee n).sweeping = true ∧ (t.ee n).actReq = true ∧ (t.ee n).actAddr = 0))
  ∧ (∀ (n data x : Nat) (vld : Bool) (s : State), s.responseDue n = true →
      x = (if vld then (if (s.ln n (s.ee n).lane).based then (data + 65536 - (s.ln n (s.ee n).lane).prev) % 65536 else 0)
        else if s.coreOn n then (s.ln n (s.ee n).lane).delta else 0) →
    ∃ t, Sys2Proof.Machine.exec (.laneResponse n vld data) s = .next t
      ∧ (t.ee n).lane = (s.ee n).lane + 1
      ∧ (t.ln n (s.ee n).lane).based = vld
      ∧ (vld = true → (t.ln n (s.ee n).lane).prev = data % 65536 ∧ (t.ln n (s.ee n).lane).delta = x)
      ∧ (vld = false → s.coreOn n = true → t.rd .LANE_INVALIDS n = satAdd (objBits .LANE_INVALIDS) (s.rd .LANE_INVALIDS n) 1)
      ∧ (vld = true ∨ s.coreOn n = false → t.rd .LANE_INVALIDS n = s.rd .LANE_INVALIDS n)
      ∧ (if (s.ee n).lane + 1 < s.rd .REGION_LANES n
          then (t.ee n).sweeping = true ∧ (t.ee n).acc = (s.ee n).acc + s.weight n (s.ee n).lane * x
          else (t.ee n).sweeping = false ∧ (t.ee n).ended = true
            ∧ (t.ee n).endAcc = (s.ee n).acc + s.weight n (s.ee n).lane * x))
  ∧ ∀ (n data : Nat) (s : State), s.responseDue n = false → s.present n = true →
    ∃ t, Sys2Proof.Machine.exec (.laneResponse n true data) s = .next t
      ∧ t.est = s.est ∧ t.lane = s.lane
      ∧ t.rd .ACT_PROTO_ERR n = satAdd (objBits .ACT_PROTO_ERR) (s.rd .ACT_PROTO_ERR n) 1

/-- WINDOW_CLOSE of a present, clocked region with valid time at or above the end of its window w makes w + 1 the
window in progress and leaves the report of w: the estimate is the dynamic part plus the leakage, at most 0xFFFFFF,
and both stand in EST_DYN and EST_POWER. WINDOW_REPORT of an implemented field that owes the report of a window does
so: FIELD_EST is the sum of the entries of its regions present and not excluded where the sum fits the object, and
FIELD_EST_SUBST the number of substituted ones. WEIGHT_RELOAD gives the four lanes of the first lost word their
factory weights; bit 5 of EST_STATUS stays while another word is lost. ESTIMATOR_READY sets UNIT_READY.ESTIMATOR in a
start-up whose dictionary, and with it the factory weights, is loaded and in which every region with router power that
is present and not excluded has reported a valid window. -/
def Obligations.WindowsAreClosedAndSummed : Prop :=
  (∀ (n w : Nat) (s : State), (s.ee n).win = some w → s.present n = true → s.clocked n = true → (s.r n).timeValid = true →
      (w + 1) * 16000 ≤ s.windowTime n →
    ∃ t, Sys2Proof.Machine.exec (.windowClose n) s = .next t
      ∧ (t.ee n).win = some (w + 1)
      ∧ ∃ p, (t.ee n).report = some p ∧ p.win = w ∧ p.est = min (p.dyn + p.leak) 0xFFFFFF
        ∧ t.rd .EST_POWER n = p.est % 2 ^ objBits .EST_POWER ∧ t.rd .EST_DYN n = p.dyn % 2 ^ objBits .EST_DYN
        ∧ p.time = s.rd .REGION_TIME n)
  ∧ (∀ (f w : Nat) (s : State), s.fields.contains f = true → s.reportDue f = some w →
    ∃ t, Sys2Proof.Machine.exec (.windowReport f) s = .next t
      ∧ (t.f f).win = w + 1
      ∧ (sumOf (((s.fieldRegions f).filter s.live).map fun n => (s.entry n w).est) < 2 ^ objBits .FIELD_EST →
          t.rd .FIELD_EST f = sumOf (((s.fieldRegions f).filter s.live).map fun n => (s.entry n w).est))
      ∧ t.rd .FIELD_EST_SUBST f = (((s.fieldRegions f).filter s.live).filter fun n => (s.entry n w).subst).length)
  ∧ (∀ (f : Nat) (s : State), (s.f f).late = [] → 1 ≤ s.winsEnded → (s.f f).win < s.winsEnded →
      s.reportDue f = some (s.winsEnded - 1))
  ∧ (∀ (n w : Nat) (rest : List Nat) (s : State), (s.ee n).weightLost = w :: rest → w < 128 →
    ∃ t, Sys2Proof.Machine.exec (.weightReload n) s = .next t
      ∧ (∀ i, i < 4 → t.weight n (4 * w + i) = s.facWeight n (4 * w + i))
      ∧ (t.ee n).weightLost = rest ∧ t.flag .EST_STATUS 5 n = decide (rest ≠ []))
  ∧ ∀ s : State, s.seqRuns = true → s.isReady .dict = true →
      (∀ n ∈ s.liveRegions, s.routerOn n = true → ∃ p, (s.ee n).report = some p ∧ p.valid = true) →
    ∃ t, Sys2Proof.Machine.exec .estimatorReady s = .next t ∧ t.isReady .estimator = true

/-- CAL_DECISION of a domain whose ended interval waits, with its telemetry there or CAL_TLM_WAIT over, ends the wait
and stores the interval's estimate; with CAL_ENABLE not 1 as that interval took it, it is skipped with code 1,
counted, and no agent hears of it. CAL_SIGN takes the oldest sign: too late for the mask it counts in CAL_LATE and
moves nothing; otherwise every lane of the mask with a factory weight moves by one step, clamped into the band of an
eighth about that weight, and every other lane keeps its weight. EPISODE_CLOSE of an open episode after EPISODE_GAP
idle windows closes it: a short one counts in EPISODE_SHORT, another takes the record at EPISODE_NEXT. -/
def Obligations.CalibrationDecidesOnce : Prop :=
  (∀ (d est dyn k r : Nat) (s : State), (s.d d).ready = some (est, dyn, k) →
      s.rails.find? (fun x => s.rd .RAIL_DOMAIN x == d) = some r →
      (s.ra r).gotK = some k ∨ (k + 1) * 160000 + 16000 * s.rd .CAL_TLM_WAIT ≤ s.T →
    ∃ t, Sys2Proof.Machine.exec (.calDecision d) s = .next t
      ∧ (t.d d).ready = none ∧ (t.d d).prevEst = some est ∧ t.rd .DOMAIN_EST d = est % 2 ^ objBits .DOMAIN_EST
      ∧ (s.was .CAL_ENABLE k ≠ 1 → t.rd .CAL_SKIP_LAST d = 1
          ∧ t.rd .CAL_SKIPS d = satAdd (objBits .CAL_SKIPS) (s.rd .CAL_SKIPS d) 1 ∧ ∀ n, t.ee n = s.ee n))
  ∧ (∀ (n k : Nat) (sg : Int) (rest : List (Nat × Int)) (s : State), (s.ee n).signs = (k, sg) :: rest →
      s.rd .REGION_LANES n ≤ 512 →
    ∃ t, Sys2Proof.Machine.exec (.calSign n) s = .next t
      ∧ (t.ee n).signs = rest
      ∧ (if k < (s.ee n).signFloor ∨ (Tab.get (s.ee n).masks (k % 4) (k + 1, 0)).1 ≠ k
          then t.rd .CAL_LATE n = satAdd (objBits .CAL_LATE) (s.rd .CAL_LATE n) 1 ∧ t.rd .EST_WEIGHT n = s.rd .EST_WEIGHT n
          else ∀ i, i < 512 →
            (if i < s.rd .REGION_LANES n ∧ bit (Tab.get (s.ee n).masks (k % 4) (k + 1, 0)).2 i = true ∧ s.facWeight n i ≠ 0
              then s.facWeight n i + s.facWeight n i / 8 < 65536 →
                t.weight n i = (clampInt (s.facWeight n i - s.facWeight n i / 8 : Nat) (s.facWeight n i + s.facWeight n i / 8 : Nat)
                    (s.weight n i + sg * (max 1 (s.facWeight n i / 2 ^ s.was .CAL_MU_SHIFT k) : Nat))).toNat
                  ∧ inBand (s.facWeight n i) (t.weight n i) = true
              else t.weight n i = s.weight n i)))
  ∧ ∀ (g : Nat) (e : Ep) (s : State), (s.g g).ep = some e → s.was .EPISODE_GAP (s.holderWin g) ≤ e.gap →
    ∃ t, Sys2Proof.Machine.exec (.episodeClose g) s = .next t
      ∧ (t.g g).ep = none
      ∧ (if e.last - e.start < 16000 * s.was .EPISODE_MIN (s.holderWin g)
          then t.rd .EPISODE_SHORT = satAdd (objBits .EPISODE_SHORT) (s.rd .EPISODE_SHORT) 1
          else bits (t.rd .EPISODE 0 (s.rd .EPISODE_NEXT)) 0 64 = e.start % 2 ^ 64
            ∧ bits (t.rd .EPISODE 0 (s.rd .EPISODE_NEXT)) 64 64 = e.last % 2 ^ 64
            ∧ t.rd .EPISODE_SEQ = (s.rd .EPISODE_SEQ + 1) % 2 ^ objBits .EPISODE_SEQ)

/-- For a request that the engine port accepts and serves now, with the Mailbox Unit ready and local storage: a post
of a requester to an implemented, owned mailbox with room adds its message at the end, counts in MB_COUNT and
MB_POSTS, and returns the sender's notice word with the sequence number, the notice word then 0; a take by the owner
returns the head's payload and removes it; a peek returns its header and leaves it (the head's word not flipped by an
injection). A mailbox with 16 messages answers BUSY (a place for the access in the unit). With remote storage and such
a place, a post has the same effect as it enters the unit, its access is in flight and it is not answered yet (the
model's choice, log 106). An access in flight that is the first of its mailbox returns, CTL not standing still and no
request waiting behind: its answer is given. -/
def Obligations.MailIsPostedTakenAndPeeked : Prop :=
  (∀ (q : EpReq) (m : Nat) (s : State), m = bits q.arg 0 6 → s.EpTakes → q.id % 4096 ≠ 0 → onlyBits q.arg 0x3F = true →
      s.isReady .mailbox = true → m < s.rd .NUM_MAILBOXES → s.rd .MB_OWNER m ≠ 0 → s.remoteMail = false →
      (s.bx m).msgs.length < 16 →
    ∃ t, Sys2Proof.Machine.exec (.mbPost q) s = .next t
      ∧ (t.bx m).msgs = (s.bx m).msgs ++ [
          { seq := (s.bx m).nextSeq, sender := q.id % 4096, epoch := s.epochOf (q.id % 4096), payload := q.data % 2 ^ 64,
            at0 := s.up }]
      ∧ t.rd .MB_COUNT m = (s.bx m).msgs.length + 1 ∧ s.Counted t .MB_POSTS m
      ∧ s.Answered t (q.id % 4096) .ok (s.noticeOf (q.id % 4096) * 2 ^ 32 + (s.bx m).nextSeq)
      ∧ t.noticeOf (q.id % 4096) = 0)
  ∧ (∀ (q : EpReq) (m : Nat) (s : State), m = bits q.arg 0 6 → s.EpTakes → s.boxesFull 4 q = false →
      m < s.rd .NUM_MAILBOXES → 16 ≤ (s.bx m).msgs.length →
    ∃ t, Sys2Proof.Machine.exec (.mbPost q) s = .next t
      ∧ t.bx m = s.bx m ∧ s.Answered t (q.id % 4096) .busy 0)
  ∧ (∀ (q : EpReq) (m : Nat) (x : Msg) (rest : List Msg) (s : State), m = bits q.arg 0 6 → s.EpTakes → q.id % 4096 ≠ 0 →
      onlyBits q.arg 0x3F = true → q.data = 0 → s.isReady .mailbox = true → m < s.rd .NUM_MAILBOXES →
      s.rd .MB_OWNER m = q.id % 4096 → s.remoteMail = false → (s.bx m).msgs = x :: rest →
      s.flipAt .mailbox 0 (16 * m) = none →
    ∃ t, Sys2Proof.Machine.exec (.mbTake q) s = .next t
      ∧ (t.bx m).msgs = rest ∧ t.rd .MB_COUNT m = rest.length % 256 ∧ s.Answered t (q.id % 4096) .ok x.payload)
  ∧ (∀ (q : EpReq) (m : Nat) (x : Msg) (rest : List Msg) (s : State), m = bits q.arg 0 6 → s.EpTakes → q.id % 4096 ≠ 0 →
      onlyBits q.arg 0x3003F = true → bits q.arg 16 2 = 1 → q.data = 0 → s.isReady .mailbox = true →
      m < s.rd .NUM_MAILBOXES → s.rd .MB_OWNER m = q.id % 4096 → s.remoteMail = false → (s.bx m).msgs = x :: rest →
      s.flipAt .mailbox 0 (16 * m) = none →
    ∃ t, Sys2Proof.Machine.exec (.mbPeek q) s = .next t
      ∧ t.bx m = s.bx m
      ∧ s.Answered t (q.id % 4096) .ok (x.seq % 65536 * 2 ^ 48 + x.epoch % 256 * 2 ^ 40
          + (rest.length + 1) % 32 * 2 ^ 16 + x.timedOut.toNat * 2 ^ 13
          + (decide (s.epochOf x.sender ≠ x.epoch)).toNat * 2 ^ 12 + x.sender % 4096))
  ∧ (∀ (q : EpReq) (m : Nat) (s : State), m = bits q.arg 0 6 → s.EpTakes → q.id % 4096 ≠ 0 → onlyBits q.arg 0x3F = true →
      s.isReady .mailbox = true → m < s.rd .NUM_MAILBOXES → s.rd .MB_OWNER m ≠ 0 → s.remoteMail = true →
      s.boxPowered m = true → s.boxesFull 4 q = false → (s.bx m).msgs.length < 16 →
    ∃ t, Sys2Proof.Machine.exec (.mbPost q) s = .next t
      ∧ t.ports.remote = s.ports.remote ++ [
          { box := m, id := q.id % 4096, status := Code.ok.num, at0 := s.ctlUs,
            data := s.noticeOf (q.id % 4096) * 2 ^ 32 + (s.bx m).nextSeq }]
      ∧ t.ports.rspCount = s.ports.rspCount ∧ t.noticeOf (q.id % 4096) = 0 ∧ s.Counted t .MB_POSTS m
      ∧ (t.bx m).msgs = (s.bx m).msgs ++ [
          { seq := (s.bx m).nextSeq, sender := q.id % 4096, epoch := s.epochOf (q.id % 4096), payload := q.data % 2 ^ 64,
            at0 := s.up }])
  ∧ ∀ (ix : Nat) (x : RemoteMb) (s : State), s.refs.shortStop = false → s.ports.epq = [] → s.ports.remote[ix]? = some x →
      (∀ y ∈ s.ports.remote.take ix, y.box ≠ x.box) →
    ∃ t, Sys2Proof.Machine.exec (.mbRemoteComplete ix) s = .next t
      ∧ t.ports.remote = s.ports.remote.eraseIdx ix ∧ t.objs = s.objs ∧ t.box = s.box
      ∧ t.ports.rspVld = true ∧ t.ports.rspId = x.id ∧ t.ports.rspStatus = x.status ∧ t.ports.rspData = x.data % 2 ^ 64
      ∧ t.ports.rspCount = s.ports.rspCount + 1

/-- With the Mailbox Unit ready: a ring of an implemented doorbell whose domain need not wake sets it and adds to its
merge counter, at most 255, and answers 0; one whose wake is enabled and whose implemented domain is not ON waits, and
answers 2 when a wake of the domain waits already, otherwise 3 with MB_WAKES counted. The owner's read returns the
bell and its count and clears both; a read by another requester is DENIED and clears nothing. NOTICE_READ returns the
requester's notice word and clears it. A reserved operation (0x0, 0xC to 0xF) answers MALFORMED. Each request is one
that the port accepts and serves now: CTL runs, no short stop, fewer than 16 waiting, none in the queue before it. -/
def Obligations.BellsNoticesAndReservedOperations : Prop :=
  (∀ (q : EpReq) (m : Nat) (s : State), m = bits q.arg 0 6 → s.EpTakes → q.id % 4096 ≠ 0 → onlyBits q.arg 0x3F = true → q.data = 0 →
      s.isReady .mailbox = true → m < s.rd .NUM_MAILBOXES →
    ∃ t, Sys2Proof.Machine.exec (.doorbellRing q) s = .next t
      ∧ (if s.on .MB_WAKE m = true ∧ s.rd .MB_DOMAIN m < s.rd .NUM_DOMAINS ∧ s.rd .DOMAIN_STATE (s.rd .MB_DOMAIN m) ≠ 0
          then (t.bx m).waiting = (s.bx m).waiting + 1 ∧ (t.bx m).rung = (s.bx m).rung
            ∧ (if s.rd .MB_DOMAIN m ∈ s.pdWakes then s.Answered t (q.id % 4096) .ok 2
                else s.Answered t (q.id % 4096) .ok 3 ∧ s.Counted t .MB_WAKES m)
          else (t.bx m).rung = true ∧ (t.bx m).merged = min 255 ((s.bx m).merged + 1)
            ∧ s.Answered t (q.id % 4096) .ok 0))
  ∧ (∀ (q : EpReq) (m : Nat) (s : State), m = bits q.arg 0 6 → s.EpTakes → q.id % 4096 ≠ 0 → onlyBits q.arg 0x3003F = true →
      bits q.arg 16 2 = 2 → q.data = 0 → s.isReady .mailbox = true → m < s.rd .NUM_MAILBOXES →
    ∃ t, Sys2Proof.Machine.exec (.doorbellRead q) s = .next t
      ∧ (if s.rd .MB_OWNER m = q.id % 4096
          then (t.bx m).rung = false ∧ (t.bx m).merged = 0
            ∧ s.Answered t (q.id % 4096) .ok ((s.bx m).rung.toNat * 256 + (s.bx m).merged)
          else t.bx m = s.bx m ∧ s.Answered t (q.id % 4096) .denied 0))
  ∧ (∀ (q : EpReq) (s : State), s.EpTakes → q.id % 4096 ≠ 0 → onlyBits q.arg 0x30000 = true → bits q.arg 16 2 = 3 → q.data = 0 →
      s.isReady .mailbox = true →
    ∃ t, Sys2Proof.Machine.exec (.noticeRead q) s = .next t
      ∧ t.noticeOf (q.id % 4096) = 0 ∧ s.Answered t (q.id % 4096) .ok (s.noticeOf (q.id % 4096)))
  ∧ ∀ (op : Nat) (q : EpReq) (s : State), s.EpTakes → EpOp.ofCode op = none → ∃ t, Sys2Proof.Machine.exec (.epReservedOp op q) s = .next t
      ∧ s.Answered t (q.id % 4096) .malformed 0 ∧ t.objs = s.objs ∧ t.box = s.box

/-- For a request that the engine port accepts and serves now, with the Mailbox Unit ready: an acquire of a free lock
makes the requester its owner and answers the lock word with HELD set and OWNER_LOST as it stood; an acquire of a lock
held by another answers its word with HELD 0 and leaves the lock; one held by the requester answers its word and
leaves it. A release by the owner leaves the word 0; by anyone else it is DENIED and the lock stays. A read answers
the word and leaves every lock. An acquire that meets an operation of another source on the lock in the same cycle,
before which LOCK_PRIO ranks that source, counts in LOCK_CONTESTS and moves LOCK_PRIO to the source after that one;
without such a contest both stay (that two operations with no time between them meet in one cycle is the model's
choice, log 7). -/
def Obligations.LocksHaveOneOwner : Prop :=
  (∀ (q : EpReq) (i : Nat) (s : State), i = bits q.arg 0 6 → s.EpTakes → q.id % 4096 ≠ 0 → onlyBits q.arg 0x3F = true → q.data = 0 →
      s.isReady .mailbox = true →
    ∃ t, Sys2Proof.Machine.exec (.lockAcquire q) s = .next t
      ∧ (lockOwner (s.lockWord i) = none → lockOwner (t.lockWord i) = some (q.id % 4096)
          ∧ bit (t.lockWord i) 17 = bit (s.lockWord i) 17 ∧ s.Answered t (q.id % 4096) .ok (t.lockWord i))
      ∧ (lockOwner (s.lockWord i) = some (q.id % 4096) → t.lockWord i = s.lockWord i
          ∧ s.Answered t (q.id % 4096) .ok (s.lockWord i))
      ∧ (∀ o, lockOwner (s.lockWord i) = some o → o ≠ q.id % 4096 → t.lockWord i = s.lockWord i
          ∧ s.Answered t (q.id % 4096) .ok (setBit (s.lockWord i) 16 false))
      ∧ t.ports.lockUse = some { lock := i, src := 0, time := s.T }
      ∧ (∀ p ∈ [1, 2], s.ports.lockUse = some { lock := i, src := p, time := s.T } → s.rd .LOCK_PRIO = p →
          s.Counted t .LOCK_CONTESTS ∧ t.rd .LOCK_PRIO = (p + 1) % 3)
      ∧ (s.ports.lockUse = none → t.rd .LOCK_CONTESTS = s.rd .LOCK_CONTESTS ∧ t.rd .LOCK_PRIO = s.rd .LOCK_PRIO)
      ∧ ∀ j, j ≠ i → t.lockWord j = s.lockWord j)
  ∧ (∀ (q : EpReq) (i : Nat) (s : State), i = bits q.arg 0 6 → s.EpTakes → q.id % 4096 ≠ 0 → onlyBits q.arg 0x3F = true → q.data = 0 →
      s.isReady .mailbox = true →
    ∃ t, Sys2Proof.Machine.exec (.lockRelease q) s = .next t
      ∧ (if lockOwner (s.lockWord i) = some (q.id % 4096) then t.lockWord i = 0 ∧ s.Answered t (q.id % 4096) .ok 0
          else t.lockWord i = s.lockWord i ∧ s.Answered t (q.id % 4096) .denied 0)
      ∧ ∀ j, j ≠ i → t.lockWord j = s.lockWord j)
  ∧ ∀ (q : EpReq) (s : State), s.EpTakes → q.id % 4096 ≠ 0 → onlyBits q.arg 0x3F = true → q.data = 0 → s.isReady .mailbox = true →
    ∃ t, Sys2Proof.Machine.exec (.lockRead q) s = .next t
      ∧ (∀ j, t.lockWord j = s.lockWord j) ∧ s.Answered t (q.id % 4096) .ok (s.lockWord (bits q.arg 0 6))

/-- REQUESTER_RESET of a requester 1 to 4095, with no request in the engine port's queue and CTL running, advances its
epoch by 1 modulo 256 and clears its notice word, and otherwise joins that queue; every implemented mailbox it owns is
then empty with its doorbell clear, and every lock it held is free with OWNER_LOST set; every lock it did not hold
stays as it was. MB_TIMED_OUT in local storage marks the first unread message past MB_TIMEOUT that is not marked yet,
counts in MB_TIMEOUTS and in the sender's notice word, and the message stays in its place. -/
def Obligations.RequesterResetsAndLateMail : Prop :=
  (∀ (id : Nat) (s : State), 1 ≤ id → id ≤ 4095 → s.ports.epq = [] → s.refs.shortStop = false →
    ∃ t, Sys2Proof.Machine.exec (.requesterReset id) s = .next t
      ∧ t.noticeOf id = 0
      ∧ t.epochOf id = (s.epochOf id + 1) % 256
      ∧ (∀ m, m < s.rd .NUM_MAILBOXES → s.rd .MB_OWNER m = id →
          (t.bx m).msgs = [] ∧ (t.bx m).rung = false ∧ (t.bx m).merged = 0)
      ∧ ∀ i, i < 64 → t.lockWord i = if lockOwner (s.lockWord i) = some id then 0x20000 else s.lockWord i)
  ∧ (∀ (id : Nat) (s : State), 1 ≤ id → id ≤ 4095 → s.ports.epq ≠ [] ∨ s.refs.shortStop = true →
    Sys2Proof.Machine.exec (.requesterReset id) s
      = .next { s with ports := { s.ports with epq := s.ports.epq ++ [{ op := 16, q := { id := id } }] } })
  ∧ ∀ (m : Nat) (x : Msg) (before after : List Msg) (s : State), (s.bx m).msgs = before ++ x :: after →
      s.remoteMail = false → x.timedOut = false → x.at0 + s.rd .MB_TIMEOUT ≤ s.up →
      (∀ y ∈ before, y.timedOut = true ∨ s.up < y.at0 + s.rd .MB_TIMEOUT) →
    ∃ t, Sys2Proof.Machine.exec (.mbTimedOut m) s = .next t
      ∧ (t.bx m).msgs = before ++ { x with timedOut := true } :: after ∧ s.Counted t .MB_TIMEOUTS m
      ∧ bit (t.noticeOf x.sender) 0 = true
      ∧ bits (t.noticeOf x.sender) 16 8 = min 255 (bits (s.noticeOf x.sender) 16 8 + 1)

/-- SEMAPHORE_POST with a bound mailbox that has a post pending, the sync unit ready, READY first set, CTL not in a
short stop and fewer than 16 outstanding drives the mailbox's context and semaphore with the next tag, which is then
outstanding, takes one from the pending posts and counts in SY_POSTS. POST_STATUS of an outstanding tag stores the
status at its mailbox and retires the tag, a status other than 0 counting in SY_POST_NONZERO; of another tag it counts
in SY_PST_STALE; in a short stop the synchroniser holds it. SY_POST_TIMEOUT of a tag outstanding for 100 us retires it
and counts. (Which mailbox goes first is the model's choice, log 31.) -/
def Obligations.PostsGoOutOnceAndAreAnswered : Prop :=
  (∀ (m : Nat) (s : State), s.nextPost = some m → s.isReady .sync = true → s.su.everReady = true → s.refs.shortStop = false →
      s.ports.outstanding.length < 16 →
    ∃ t, Sys2Proof.Machine.exec .semaphorePost s = .next t
      ∧ t.ports.postCtx = bits (s.rd .MB_SEM m) 16 12 ∧ t.ports.postSem = bits (s.rd .MB_SEM m) 0 16
      ∧ t.ports.postTag = s.ports.nextTag ∧ t.ports.nextTag = (s.ports.nextTag + 1) % 256
      ∧ t.ports.outstanding = s.ports.outstanding ++ [{ tag := s.ports.nextTag, box := m, at0 := s.up }]
      ∧ (t.bx m).posts + 1 = (s.bx m).posts ∧ s.Counted t .SY_POSTS)
  ∧ (∀ (tag status : Nat) (s : State), s.refs.shortStop = true →
    Sys2Proof.Machine.exec (.postStatus tag status) s
      = .next { s with ports := { s.ports with syHeld := s.ports.syHeld ++ [.status tag status] } })
  ∧ (∀ (tag status : Nat) (s : State), s.refs.shortStop = false →
    ∃ t, Sys2Proof.Machine.exec (.postStatus tag status) s = .next t
      ∧ (∀ x, s.postOf tag = some x → t.rd .MB_SEM_STATUS x.box = status % 16 ∧ t.postOf tag = none
          ∧ (status % 16 ≠ 0 → s.Counted t .SY_POST_NONZERO))
      ∧ (s.postOf tag = none → s.Counted t .SY_PST_STALE ∧ t.ports = s.ports))
  ∧ ∀ (tag : Nat) (x : SemPost) (s : State), s.postOf tag = some x → x.at0 + 100 ≤ s.up →
    ∃ t, Sys2Proof.Machine.exec (.syPostTimeout tag) s = .next t
      ∧ t.postOf tag = none ∧ s.Counted t .SY_POST_TIMEOUTS

/-- FAST_CAP_UPDATE of a field with a complete window completes, stores its excess in FIELD_EXCESS and sets its duty,
in FAST_DUTY and at its regions, to the old duty plus the excess times FAST_GAIN / 256 rounded down (FAST_GAIN as of
the last tick), clamped to 0 to 320, or to 0 once floor throttle has begun; a detached region of a group under floor
throttle has 320; every object but FAST_DUTY and FIELD_EXCESS of that field stays. FLOOR_RATE_UPDATE of a group under
floor throttle, 2 us after the run of its period (compared in eighths of a tick), completes and sets the rate r: it
stays in a period that ran unparked; it is 128 while FLOOR_STATE is 2; else it is r less r x / 4096, rounded toward
zero, clamped to 128 to 768, x being the largest mean excess of the group's fields over the windows that ended in the
FLOOR_PERIOD before the park. The period is counted, the next park count is the last one plus the cycles of the run at
the new rate modulo 2^48, and with no TIME_SET waiting that park is broadcast to every counted region that has not
passed the count: it waits behind a park in force. With a TIME_SET waiting no park is issued. -/
def Obligations.FastLoopAndFloorUpdates : Prop :=
  (∀ (f : Nat) (s : State), (s.f f).ready = true →
    ∃ t, Sys2Proof.Machine.exec (.fastCapUpdate f) s = .next t
      ∧ (∀ (o : Obj) (e i : Nat), (o ≠ .FAST_DUTY ∧ o ≠ .FIELD_EXCESS) ∨ e ≠ f → t.rd o e i = s.rd o e i)
      ∧ (t.f f).ready = false ∧ t.rdInt .FIELD_EXCESS f = s.fieldExcess f
      ∧ t.rd .FAST_DUTY f = (if s.floorBegun (s.groupOf f) then 0
          else (clampInt 0 320 ((s.rd .FAST_DUTY f : Int) + Int.fdiv (s.fieldExcess f * s.tickVal .FAST_GAIN) 256)).toNat)
      ∧ t.rd .FAST_DUTY f ≤ 320
      ∧ ∀ n ∈ s.fieldRegions f, (t.r n).duty =
          if s.on .REGION_DETACHED n = true ∧ s.groupOf (fieldOf n) ≠ 0xFF ∧ s.rd .FLOOR_STATE (s.groupOf (fieldOf n)) ≠ 0
          then 320 else t.rd .FAST_DUTY f)
  ∧ (∀ (r : Nat) (x : Int × Nat),
      128 ≤ nextRate r x ∧ nextRate r x ≤ 768
        ∧ (128 ≤ (r : Int) - Int.tdiv ((r : Int) * x.1) (4096 * x.2) → (r : Int) - Int.tdiv ((r : Int) * x.1) (4096 * x.2) ≤ 768 →
            (nextRate r x : Int) = (r : Int) - Int.tdiv ((r : Int) * x.1) (4096 * x.2)))
  ∧ ∀ (g at0 : Nat) (fl : Floor) (s : State), (s.g g).floor = some fl → at0 = s.runEnd g fl / 8 →
      s.runEnd g fl + 8 * 32000 ≤ 8 * s.T → s.rd .FLOOR_RATE g < 2 ^ objBits .FLOOR_RATE →
    ∃ t, Sys2Proof.Machine.exec (.floorRateUpdate g) s = .next t
      ∧ t.rd .FLOOR_RATE g = (if fl.parked = false then s.rd .FLOOR_RATE g
          else if s.rd .FLOOR_STATE g = 2 then 128
          else nextRate (s.rd .FLOOR_RATE g) (s.xMax g (at0 - s.floorPeriod) at0))
      ∧ (s.clock.setTo.isSome = true → t.rgn = s.rgn)
      ∧ ∃ fl2, (t.g g).floor = some fl2 ∧ fl2.period = fl.period + 1 ∧ fl2.t0 = fl.t0
        ∧ fl2.parked = s.clock.setTo.isNone
        ∧ (s.clock.setTo = none →
            fl2.parkCount = (fl.parkCount + runCycles (s.rd .GROUP_N g) (s.floorRun (t.rd .FLOOR_RATE g))) % 2 ^ 48
            ∧ ∀ n ∈ s.countedRegions g,
              (s.osc n .counting && passed (s.rd .REGION_COUNT n) fl2.parkCount) = false →
              (if ((s.r n).park.map (·.parked)).getD false then (t.r n).nextPark else (t.r n).park)
                = some { count := fl2.parkCount, release := fl.t0 + (fl.period + 2) * s.floorPeriod })

/-- LIMIT_RECOMPUTE when due stores the compute limit with its reason, every implemented group's limit and every
implemented field's limit with its reason, and is no longer due. A window of CAP_N shows in bit 1 of CAP_STATUS; the
first low one asserts the external cap, counts it and makes limits due, and a high one after CAP_N_MIN_TIME releases
it. HOT_N_ASSERT sets bit 3 of CAP_STATUS once and counts it, HOT_N_RELEASE clears the bit. -/
def Obligations.LimitsAndPinsReachTheCaps : Prop :=
  (∀ s : State, s.caps.due = true →
    ∃ t, Sys2Proof.Machine.exec .limitRecompute s = .next t
      ∧ t.caps.due = false
      ∧ t.rd .COMPUTE_LIMIT = s.computeLimit.1 % 2 ^ 32 ∧ t.rd .COMPUTE_LIMIT_REASON = s.computeLimit.2 % 256
      ∧ (∀ g, g < s.rd .NUM_GROUPS → t.rd .GROUP_LIMIT g = s.holderLimit g % 2 ^ 32)
      ∧ ∀ f, f < s.rd .NUM_FIELDS → t.rd .FIELD_LIMIT f = (s.fieldLimit f).value % 2 ^ 32
          ∧ t.rd .FIELD_LIMIT_REASON f = (s.fieldLimit f).reason % 256)
  ∧ (∀ (low : Bool) (s : State), ∃ t, Sys2Proof.Machine.exec (.capNWindow low) s = .next t
      ∧ t.flag .CAP_STATUS 1 = low
      ∧ (s.caps.extSince = none → low = true → t.flag .CAP_STATUS 2 = true ∧ t.caps.extSince = some s.up
          ∧ t.caps.due = true ∧ s.Counted t .CAP_N_EVENTS)
      ∧ (∀ t0, s.caps.extSince = some t0 → low = false → t0 + s.rd .CAP_N_MIN_TIME ≤ s.up →
          t.flag .CAP_STATUS 2 = false ∧ t.caps.extSince = none ∧ t.caps.due = true)
      ∧ (∀ t0, s.caps.extSince = some t0 → (low = true ∨ s.up < t0 + s.rd .CAP_N_MIN_TIME) →
          t.caps.extSince = some t0 ∧ t.flag .CAP_STATUS 2 = s.flag .CAP_STATUS 2))
  ∧ (∀ s : State, s.flag .CAP_STATUS 3 = false →
    ∃ t, Sys2Proof.Machine.exec .hotNAssert s = .next t
      ∧ t.flag .CAP_STATUS 3 = true ∧ s.Counted t .HOT_N_EVENTS)
  ∧ ∀ s : State, s.flag .CAP_STATUS 3 = true →
    ∃ t, Sys2Proof.Machine.exec .hotNRelease s = .next t ∧ t.flag .CAP_STATUS 3 = false

/-- THERMAL_READ of a present region with a powered router, with one sensor that has not failed and no injection: a
reading inside -40 to 150 C is the sensor's value, one outside makes it invalid, and the tenth invalid one in a row
fails the sensor. SLOW_LOOP_TICK with CTL ready and in no short stop counts the tick, raises no power entry by more
than 1, leaves the thermal limit of an implemented field between THERM_THROTTLE less THERM_HYST and THERM_THROTTLE as
it stood, shows and clears each present region's slip peak, puts the region partitions into force, takes the snapshot
that waits, and begins new sums. -/
def Obligations.ThermalReadingsAndTicks : Prop :=
  (∀ (n : Nat) (rd : TsReading) (s : State), s.present n = true → s.routerOn n = true → s.rd .TS_COUNT n = 1 → s.inj.cur = none →
      (s.tsOf n 0).failed = false →
    ∃ t, Sys2Proof.Machine.exec (.thermalRead n [rd]) s = .next t
      ∧ (∀ x, rd.value = some x → -160 ≤ x + (s.tsOf n 0).offset → x + (s.tsOf n 0).offset ≤ 600 →
          (t.tsOf n 0).value = some (x + (s.tsOf n 0).offset) ∧ (t.tsOf n 0).invalidRun = 0)
      ∧ ((rd.value = none ∨ ∃ x, rd.value = some x ∧ (x + (s.tsOf n 0).offset < -160 ∨ 600 < x + (s.tsOf n 0).offset)) →
          (t.tsOf n 0).value = none ∧ (t.tsOf n 0).invalidRun = (s.tsOf n 0).invalidRun + 1
            ∧ ((t.tsOf n 0).failed = true ↔ 9 ≤ (s.tsOf n 0).invalidRun)))
  ∧ ∀ s : State, s.isReady .ctl = true → s.refs.shortStop = false →
    ∃ t, Sys2Proof.Machine.exec .slowLoopTick s = .next t
      ∧ t.caps.tick = s.caps.tick + 1
      ∧ (∀ g, t.rd .OP_POWER_ENTRY g ≤ s.rd .OP_POWER_ENTRY g + 1)
      ∧ (∀ f, f < s.rd .NUM_FIELDS → s.rdInt .THERM_THROTTLE - s.rd .THERM_HYST ≤ s.tickTemp f →
          s.tickTemp f ≤ s.rdInt .THERM_THROTTLE → s.rd .FIELD_THERM_LIMIT f < 2 ^ 32 →
          t.rd .FIELD_THERM_LIMIT f = s.rd .FIELD_THERM_LIMIT f)
      ∧ (∀ n ∈ s.regions, t.rd .SLIP_PEAK n = (s.r n).slipPeak % 2 ^ objBits .SLIP_PEAK ∧ (t.r n).slipPeak = 0
          ∧ t.partOf n = s.rd .REGION_PARTITION n)
      ∧ t.energy.tick = [] ∧ (s.energy.snap = true → t.energy.snap = false ∧ t.rd .SNAP_TIME = s.T % 2 ^ 64)
      ∧ ∀ f, f < s.rd .NUM_FIELDS → (t.f f).powSum = 0 ∧ (t.f f).windows = 0

/-- After the release, a missing edge leaves the reference's error unmeasured (0x7FFFFFFF) and makes a valid one (no
injection of its loss) invalid with its missing-edge bit set; if it was selected, the net changes to the other where
that is valid, with marks suppressed for 2 us, and otherwise enters holdover, or goes on with one not over yet, with
the relock due after 10 us. A missing edge of an unqualified one breaks off its qualification. A window that a
reference not valid passes, with no injected loss of it, begins the qualification that has not begun; a failed one
breaks it off; one that a valid reference fails while the other is not valid makes it invalid with its frequency bit
set. A reference qualified long enough becomes valid. INTOSC_MEASURE with a reference selected stores the error, held
at the ends of its type. -/
def Obligations.ReferencesAreTestedAndLost : Prop :=
  (∀ (b : Bool) (s : State), s.su.released = true → s.injAt (3 + b.toNat) = none →
    ∃ t, Sys2Proof.Machine.exec (.refMissingEdge b) s = .next t
      ∧ t.rd (if b then .REF_B_ERR else .REF_A_ERR) = 0x7FFFFFFF
      ∧ (s.refValid b = false → t.qualOf b = none)
      ∧ (s.refValid b = true → t.refValid b = false ∧ t.flag .REF_STATUS (6 + 2 * b.toNat) = true)
      ∧ (s.refValid b = true → s.selected = refCode b → s.refValid (!b) = true →
          t.selected = refCode (!b) ∧ s.Counted t .REF_SWITCHES ∧ t.refs.suppressUntil = s.up + 2)
      ∧ (s.refValid b = true → s.selected = refCode b → s.refValid (!b) = false →
          t.selected = 0 ∧ t.isReady .holdover = true ∧ t.refs.holdSince = some (s.refs.holdSince.getD s.up)
            ∧ t.refs.relockAt = some (s.up + 10))
      ∧ (s.refValid b = true → s.selected ≠ refCode b → t.selected = s.selected))
  ∧ (∀ (b : Bool) (err raw : Int) (s : State), s.su.released = true →
    ∃ t, Sys2Proof.Machine.exec (.refFreqWindow b err raw) s = .next t
      ∧ (s.refValid b = false → s.freqFails b err raw = false → s.injLoss b = none → s.qualOf b = none →
          t.qualOf b = some (s.up - 10))
      ∧ (s.refValid b = false → s.freqFails b err raw = true → t.qualOf b = none)
      ∧ (s.refValid b = true → s.freqFails b err raw = false → t.refValid b = true)
      ∧ (s.refValid b = true → s.refValid (!b) = false → s.freqFails b err raw = true →
          t.refValid b = false ∧ t.flag .REF_STATUS (7 + 2 * b.toNat) = true)
      ∧ (s.refValid b = true → s.refValid (!b) = true → s.freqFails b err raw = true →
          t.refValid (s.worseRef b err raw) = false))
  ∧ (∀ (b : Bool) (t0 : Nat) (s : State), s.qualOf b = some t0 → t0 + s.qualTime ≤ s.up → s.refValid b = false →
    ∃ t, Sys2Proof.Machine.exec (.refQualified b) s = .next t
      ∧ t.refValid b = true ∧ t.isReady (refRdy b) = true ∧ t.qualOf b = none)
  ∧ ∀ (err : Int) (s : State), s.selected ≠ 0 →
    ∃ t, Sys2Proof.Machine.exec (.intoscMeasure err) s = .next t
      ∧ t.rdInt .INTOSC_ERR = clampInt (-2147483648) 2147483647 err

/-- HOLDOVER_RELOCK once due begins a short stop of CTL. A reference that qualifies in holdover, with the relock past
and no stop in progress, is selected and another short stop begins. The end of a short stop in holdover with a
reference selected ends holdover: its bits are 0 and it has no begin any more; the stop is over.
HOLDOVER_CEILING_REMOVE after holdover removes the ceiling of a group none of whose clocked regions holds. (No
deferred round boundary, and no frame, request or input of a port held by the stop.) -/
def Obligations.HoldoverEndsInOrder : Prop :=
  (∀ (t0 : Nat) (s : State), s.refs.relockAt = some t0 → t0 ≤ s.up →
    ∃ t, Sys2Proof.Machine.exec .holdoverRelock s = .next t ∧ t.refs.relockAt = none ∧ t.refs.shortStop = true)
  ∧ (∀ (b : Bool) (t0 : Nat) (s : State), s.qualOf b = some t0 → t0 + s.qualTime ≤ s.up → s.refValid b = false →
      s.refs.holdSince.isSome = true → s.selected = 0 → s.refs.relockAt = none → s.refs.shortStop = false →
    ∃ t, Sys2Proof.Machine.exec (.refQualified b) s = .next t
      ∧ t.selected = refCode b ∧ t.refs.shortStop = true ∧ t.refs.suppressUntil = s.up + 2)
  ∧ (∀ (us : Nat) (s : State), s.refs.shortStop = true → s.budget.due = false → s.budget.rx = [] →
      s.ports.hostHeld = [] → s.ports.epq = [] → s.ports.syHeld = [] → s.refs.holdSince.isSome = true → s.selected ≠ 0 →
    ∃ t, Sys2Proof.Machine.exec (.ctlShortStopEnd us) s = .next t
      ∧ t.refs.shortStop = false ∧ t.refs.holdSince = none ∧ t.isReady .holdover = false ∧ t.isReady .aonInternal = false)
  ∧ ∀ (g : Nat) (s : State), (s.g g).holdCeil.isSome = true → s.refs.holdSince = none →
      (∀ n ∈ s.groupRegions g, s.clocked n = true → s.osc n .hold = false) →
    ∃ t, Sys2Proof.Machine.exec (.holdoverCeilingRemove g) s = .next t ∧ (t.g g).holdCeil = none

/-- TIME_MARK after the release adds INC to T for each net period (those that slew at the slewing INC) up to the first
at or past the next multiple of 1 us, and 1 us to the time since the release. While a SWITCH suppresses marks none is
launched; else it is launched with the next sequence number and its correction messages, T at the crossing and INC, a
TIME_SET that waits takes effect with it, and every present region that counts with a clock captures its time less
MARK_DELAY (no trip waiting for the TIME_SET). TIME_CORRECTION of a mark that the region captured and whose message
was sent uses up the capture, takes INC from the message and stores e = T_k less the capture, held to its type, in
REGION_TIME_ERR; the first one makes the time valid. An e that is not negative, or that follows a TIME_SET, is added
to REGION_TIME modulo 2^64 at once; any other leaves REGION_TIME and becomes the debt that the next cycles pay.
PPS_CAPTURE and TS_CAPTURE store T plus the offset less 80 ns and count. -/
def Obligations.TimeMarksCorrectTheRegions : Prop :=
  (∀ (x : Nat) (s : State), s.su.released = true →
      x = s.T * 2 ^ 32 + s.clock.frac + s.markPeriods.1 * s.incFor s.slewNow + s.markPeriods.2 * s.incFor 0 →
      ∃ t, Sys2Proof.Machine.exec .timeMark s = .next t
        ∧ s.nextMark ≤ x ∧ (s.clock.frac < 2 ^ 32 → x < s.nextMark + max (s.incFor s.slewNow) (s.incFor 0))
        ∧ t.up = s.up + 1 ∧ t.clock.frac < 2 ^ 32
        ∧ (s.up < s.refs.suppressUntil → t.T = x / 2 ^ 32 % 2 ^ 64 ∧ t.clock.markSeq = s.clock.markSeq)
        ∧ (s.refs.suppressUntil ≤ s.up →
            t.T = s.clock.setTo.getD (x / 2 ^ 32 % 2 ^ 64) ∧ t.clock.setTo = none
            ∧ t.clock.markSeq = (s.clock.markSeq + 1) % 2 ^ 32
            ∧ { seq := t.clock.markSeq, tk := t.T, inc := t.clock.incUnits, stepped := s.clock.setTo.isSome : MarkMsg }
                ∈ t.clock.sent
            ∧ (s.caps.tripDue = [] → ∀ n ∈ s.regions, s.osc n .counting = true → s.clocked n = true →
                (s.r n).park = none →
                (t.clock.markSeq, (s.rd .REGION_TIME n : Int) + Config.netDelay n - s.rd .MARK_DELAY n)
                  ∈ (t.r n).captures)))
  ∧ (∀ (n seq : Nat) (c : Nat × Int) (m : MarkMsg) (e : Int) (s : State),
      (s.r n).captures.find? (fun x => x.1 == seq) = some c → s.clock.sent.find? (fun x => x.seq == seq) = some m →
      e = (m.tk : Int) - c.2 → 0 ≤ e ∨ m.stepped = true →
    ∃ t, Sys2Proof.Machine.exec (.timeCorrection ⟨n, seq⟩) s = .next t
      ∧ (∀ x ∈ (t.r n).captures, x.1 ≠ seq) ∧ (t.r n).incUnits = m.inc ∧ (t.r n).timeValid = true
      ∧ t.rdInt .REGION_TIME_ERR n = clampInt (-(2 ^ (objBits .REGION_TIME_ERR - 1))) (2 ^ (objBits .REGION_TIME_ERR - 1) - 1) e
      ∧ e.natAbs ≤ (t.r n).errPeak
      ∧ t.rd .REGION_TIME n = ((s.rd .REGION_TIME n : Int) + e).toNat % 2 ^ 64 ∧ (t.r n).timeDebt = 0)
  ∧ (∀ (n seq : Nat) (c : Nat × Int) (m : MarkMsg) (e : Int) (s : State),
      (s.r n).captures.find? (fun x => x.1 == seq) = some c → s.clock.sent.find? (fun x => x.seq == seq) = some m →
      e = (m.tk : Int) - c.2 → e < 0 → m.stepped = false →
    ∃ t, Sys2Proof.Machine.exec (.timeCorrection ⟨n, seq⟩) s = .next t
      ∧ (∀ x ∈ (t.r n).captures, x.1 ≠ seq) ∧ (t.r n).incUnits = m.inc ∧ (t.r n).timeValid = true
      ∧ t.rdInt .REGION_TIME_ERR n = clampInt (-(2 ^ (objBits .REGION_TIME_ERR - 1))) (2 ^ (objBits .REGION_TIME_ERR - 1) - 1) e
      ∧ e.natAbs ≤ (t.r n).errPeak
      ∧ t.rd .REGION_TIME n = s.rd .REGION_TIME n ∧ (t.r n).timeDebt = e.natAbs)
  ∧ (∀ (dt : Nat) (s : State), ∃ t, Sys2Proof.Machine.exec (.ppsCapture dt) s = .next t
      ∧ t.rd .PPS_TIME = ofInt 64 ((s.T : Int) + dt - 1280) ∧ t.rd .PPS_COUNT = (s.rd .PPS_COUNT + 1) % 2 ^ objBits .PPS_COUNT)
  ∧ ∀ (dt : Nat) (s : State), ∃ t, Sys2Proof.Machine.exec (.tsCapture dt) s = .next t
      ∧ t.rd .TS_TIME = ofInt 64 ((s.T : Int) + dt - 1280)
      ∧ t.rd .TS_CAPTURE_COUNT = (s.rd .TS_CAPTURE_COUNT + 1) % 2 ^ objBits .TS_CAPTURE_COUNT

/-- An accepted write is answered OK and counted, and: GROUP_SHARE stores the share and leaves what is due of the
limits, which change between ticks for the engine's limits alone; OP_TABLE stores the table while the one in force
stays in force until the tick; FIXED_RATE_ENABLE stores its value and a 1 discards the group's occurrence;
FIXED_RATE_N stores its value; REGION_TARGET_N becomes the region stop, or the one that waits behind the stop in
progress; RUN_START asks for a start at the next boundary; RUN_STOP asks for the stop of a run in progress and
otherwise changes no run; REGION_PARTITION stores its value, in force at the next tick; DOMAIN_TARGET stores the
target. -/
def Obligations.GroupWritesTakeEffect : Prop :=
  (∀ (w : Wr) (s : State), s.Accepts .GROUP_SHARE 0 w →
    ∃ t, Sys2Proof.Machine.exec (.groupShare w) s = .next t ∧ s.WroteOk t w
      ∧ t.rd .GROUP_SHARE w.el = w.val % 2 ^ objBits .GROUP_SHARE ∧ t.caps = s.caps)
  ∧ (∀ (w : Wr) (s : State), s.Accepts .OP_TABLE 0 w →
    ∃ t, Sys2Proof.Machine.exec (.opTable w) s = .next t ∧ s.WroteOk t w
      ∧ t.rd .OP_TABLE w.el = w.val % 2 ^ objBits .OP_TABLE ∧ t.opTableNow w.el = s.opTableNow w.el)
  ∧ (∀ (w : Wr) (s : State), s.Accepts .FIXED_RATE_ENABLE 0 w →
    ∃ t, Sys2Proof.Machine.exec (.fixedRateEnable w) s = .next t ∧ s.WroteOk t w
      ∧ t.rd .FIXED_RATE_ENABLE w.el = w.val % 2 ^ objBits .FIXED_RATE_ENABLE
      ∧ (w.val % 2 ^ objBits .FIXED_RATE_ENABLE = 1 → (t.g w.el).occ = none ∧ t.flag .CAP_STATUS 7 = true))
  ∧ (∀ (w : Wr) (s : State), s.Accepts .FIXED_RATE_N 0 w →
    ∃ t, Sys2Proof.Machine.exec (.fixedRateN w) s = .next t ∧ s.WroteOk t w
      ∧ t.rd .FIXED_RATE_N w.el = w.val % 2 ^ objBits .FIXED_RATE_N)
  ∧ (∀ (w : Wr) (s : State), s.Accepts .REGION_TARGET_N 0 w →
    ∃ t, Sys2Proof.Machine.exec (.regionTargetN w) s = .next t ∧ s.WroteOk t w
      ∧ t.rd .REGION_TARGET_N w.el = w.val % 2 ^ objBits .REGION_TARGET_N
      ∧ (s.stop.cur = none → t.stop.cur = some { region := w.el, target := w.val % 2 ^ objBits .REGION_TARGET_N })
      ∧ (∀ x, s.stop.cur = some x → t.stop.cur = some x
          ∧ t.stop.waiting = some (w.el, w.val % 2 ^ objBits .REGION_TARGET_N)))
  ∧ (∀ (w : Wr) (s : State), s.Accepts .RUN_CTL 0 w → w.val = 1 →
    ∃ t, Sys2Proof.Machine.exec (.runStart w) s = .next t ∧ s.WroteOk t w
      ∧ (t.g w.el).run.ctl = some 1 ∧ t.rd .RUN_CTL w.el = 1)
  ∧ (∀ (w : Wr) (s : State), s.Accepts .RUN_CTL 0 w → w.val = 2 →
    ∃ t, Sys2Proof.Machine.exec (.runStop w) s = .next t ∧ s.WroteOk t w
      ∧ (if (s.g w.el).run.running then (t.g w.el).run.ctl = some 2 ∧ t.rd .RUN_CTL w.el = 2 else t.g w.el = s.g w.el))
  ∧ (∀ (w : Wr) (s : State), s.Accepts .REGION_PARTITION 0 w →
    ∃ t, Sys2Proof.Machine.exec (.regionPartition w) s = .next t ∧ s.WroteOk t w
      ∧ t.rd .REGION_PARTITION w.el = w.val % 2 ^ objBits .REGION_PARTITION ∧ t.partOf w.el = s.partOf w.el)
  ∧ ∀ (w : Wr) (s : State), s.Accepts .DOMAIN_TARGET 0 w →
    ∃ t, Sys2Proof.Machine.exec (.domainTarget w) s = .next t ∧ s.WroteOk t w
      ∧ t.rd .DOMAIN_TARGET w.el = w.val % 2 ^ objBits .DOMAIN_TARGET

/-- An accepted write (one that its port takes and that passes every check) is answered OK and counted, and: a write
of DS_QUARANTINE releases the sensors it clears and no other; DS_ENABLE stores the mask of implemented sensors;
XING_FENCE stores its value; AGE_SAMPLE_REQ with 1 samples the regions that are due at once, and with none stays 0;
CAL_RESET_REQ with 1 returns every present region's live weights to factory and clears the idle counts;
EST_WEIGHT_FACTORY stores the weights, which are then live too; EST_SHIFT stores the shift and returns the live
weights to factory. A write of four live weights in the host window by the expert host stores each lane whose bytes
are enabled and inside its band, and leaves the other lanes of the word. -/
def Obligations.RegionWritesTakeEffect : Prop :=
  (∀ (w : Wr) (s : State), s.Accepts .DS_QUARANTINE 0 w →
    ∃ t, Sys2Proof.Machine.exec (.dsQuarantineClear w) s = .next t ∧ s.WroteOk t w
      ∧ ∀ i, i < 16 → t.flag .DS_QUARANTINE i w.el = (s.flag .DS_QUARANTINE i w.el && bit w.val i))
  ∧ (∀ (w : Wr) (s : State), s.Accepts .DS_ENABLE 0 w →
    ∃ t, Sys2Proof.Machine.exec (.dsEnable w) s = .next t ∧ s.WroteOk t w
      ∧ t.rd .DS_ENABLE w.el = w.val % 2 ^ objBits .DS_ENABLE % 2 ^ s.rd .DS_COUNT w.el)
  ∧ (∀ (w : Wr) (s : State), s.Accepts .XING_FENCE 0 w →
    ∃ t, Sys2Proof.Machine.exec (.xingFence w) s = .next t ∧ s.WroteOk t w
      ∧ t.rd .XING_FENCE w.el = w.val % 2 ^ objBits .XING_FENCE)
  ∧ (∀ (w : Wr) (s : State), s.Accepts .AGE_SAMPLE_REQ 0 w → w.val = 1 → s.rd .AGE_SAMPLE_REQ w.el = 0 →
    ∃ t, Sys2Proof.Machine.exec (.ageSampleReq w) s = .next t ∧ s.WroteOk t w
      ∧ (s.ageable = [] → t.rd .AGE_SAMPLE_REQ = 0)
      ∧ (s.ageable ≠ [] → t.rd .AGE_SAMPLE_REQ = 1 ∧ ∀ n ∈ s.ageable, (t.r n).ageSampling = true))
  ∧ (∀ (w : Wr) (s : State), s.Accepts .CAL_RESET_REQ 0 w → w.val = 1 → s.rd .CAL_RESET_REQ w.el = 0 →
    ∃ t, Sys2Proof.Machine.exec (.calResetReq w) s = .next t ∧ s.WroteOk t w
      ∧ ∀ n ∈ s.regions, t.rd .EST_WEIGHT n = s.rd .EST_WEIGHT_FACTORY n % 2 ^ objBits .EST_WEIGHT
          ∧ ∀ i ∈ s.lanes n, i < 512 → (t.ln n i).idle = 0)
  ∧ (∀ (w : Wr) (s : State), s.Accepts .EST_WEIGHT_FACTORY 0 w →
    ∃ t, Sys2Proof.Machine.exec (.estWeightFactory w) s = .next t ∧ s.WroteOk t w
      ∧ t.rd .EST_WEIGHT_FACTORY w.el = w.val % 2 ^ objBits .EST_WEIGHT_FACTORY
      ∧ t.rd .EST_WEIGHT w.el = w.val % 2 ^ objBits .EST_WEIGHT_FACTORY)
  ∧ (∀ (w : Wr) (s : State), s.Accepts .EST_SHIFT 0 w →
    ∃ t, Sys2Proof.Machine.exec (.estShift w) s = .next t ∧ s.WroteOk t w
      ∧ t.rd .EST_SHIFT w.el = w.val % 2 ^ objBits .EST_SHIFT
      ∧ t.rd .EST_WEIGHT w.el = s.rd .EST_WEIGHT_FACTORY w.el % 2 ^ objBits .EST_WEIGHT)
  ∧ ∀ (n i be val : Nat) (s : State), n < 1024 → i < 512 → i % 4 = 0 → s.HpTakes → s.inj.flips = [] →
      s.weightCheck n i be val = .ok →
    ∃ t, Sys2Proof.Machine.exec (.weightWindowWrite (0x200000 + 0x400 * n + 2 * i) be val) s = .next t
      ∧ t.ports.host.status = Code.ok.num ∧ s.Counted t .HP_REQUESTS
      ∧ ∀ j, j < 4 → t.weight n (i + j) = if bits be (2 * j) 2 = 3 then bits val (16 * j) 16 else s.weight n (i + j)

/-- An accepted write is answered OK and counted, and: REF_PREFER is stored and selects the reference it names where
that is valid and another one is selected; TIME_SET waits for the next mark and counts; TIME_OFFSET_ADJ adds to the
pending offset; PR_CLEAR with 1 empties the phase table and every group's table and ends occurrences; PR_REARM with 1
and PR_POLICY leave FALLBACK; BX_EPOCH_LOAD is staged, or waits behind the staged one; REPORT_SNAP_REQ with 1 asks for
the snapshot of the next tick; RAIL_RECOVER with 1 begins the recovery, or lets it wait while a step of the rail's
group is in flight; one in progress goes on (the model's choice, log 89). -/
def Obligations.TimeAndBudgetWritesTakeEffect : Prop :=
  (∀ (w : Wr) (s : State), s.Accepts .REF_PREFER 0 w →
    ∃ t, Sys2Proof.Machine.exec (.refPrefer w) s = .next t ∧ s.WroteOk t w
      ∧ t.rd .REF_PREFER = w.val % 2 ^ objBits .REF_PREFER
      ∧ t.selected = (if w.val % 2 ^ objBits .REF_PREFER ≠ 0 ∧ s.refValid (w.val % 2 ^ objBits .REF_PREFER == 2) = true
          ∧ s.selected ≠ 0 then refCode (w.val % 2 ^ objBits .REF_PREFER == 2) else s.selected))
  ∧ (∀ (w : Wr) (s : State), s.Accepts .TIME_SET 0 w →
    ∃ t, Sys2Proof.Machine.exec (.timeSet w) s = .next t ∧ s.WroteOk t w
      ∧ t.clock.setTo = some (w.val % 2 ^ 64) ∧ t.T = s.T ∧ s.Counted t .TIME_SETS)
  ∧ (∀ (w : Wr) (s : State), s.Accepts .TIME_OFFSET_ADJ 0 w →
    ∃ t, Sys2Proof.Machine.exec (.timeOffsetAdj w) s = .next t ∧ s.WroteOk t w
      ∧ t.rdInt .TIME_OFFSET_ADJ = s.rdInt .TIME_OFFSET_ADJ + toInt 32 (w.val % 2 ^ 32))
  ∧ (∀ (w : Wr) (s : State), s.Accepts .PR_CLEAR 0 w → w.val = 1 → s.rd .PR_CLEAR w.el = 0 →
    ∃ t, Sys2Proof.Machine.exec (.prClear w) s = .next t ∧ s.WroteOk t w
      ∧ t.phase = [] ∧ t.fon.forceBase = true
      ∧ ∀ g, g < s.rd .NUM_GROUPS → t.rd .PR_GROUP_TABLE g = 0 ∧ (t.g g).occ = none)
  ∧ (∀ (w : Wr) (s : State), s.Accepts .PR_REARM 0 w → w.val = 1 → s.rd .PR_REARM w.el = 0 →
    ∃ t, Sys2Proof.Machine.exec (.prRearm w) s = .next t ∧ s.WroteOk t w ∧ t.flag .PR_STATUS 0 = false)
  ∧ (∀ (w : Wr) (s : State), s.Accepts .PR_POLICY 0 w →
    ∃ t, Sys2Proof.Machine.exec (.prPolicy w) s = .next t ∧ s.WroteOk t w
      ∧ t.rd .PR_POLICY w.el = w.val % 2 ^ objBits .PR_POLICY ∧ t.flag .PR_STATUS 0 = false)
  ∧ (∀ (w : Wr) (s : State), s.Accepts .BX_EPOCH_LOAD 0 w →
    ∃ t, Sys2Proof.Machine.exec (.bxEpochLoad w) s = .next t ∧ s.WroteOk t w
      ∧ t.budget.lastLoad = some (bits w.val 0 16)
      ∧ (s.budget.staged = none → t.budget.staged = some (bits w.val 0 16, bits w.val 32 32))
      ∧ (∀ x, s.budget.staged = some x → t.budget.staged = some x
          ∧ t.budget.waiting = some (bits w.val 0 16, bits w.val 32 32)))
  ∧ (∀ (w : Wr) (s : State), s.Accepts .REPORT_SNAP_REQ 0 w → w.val = 1 → s.rd .REPORT_SNAP_REQ w.el = 0 →
    ∃ t, Sys2Proof.Machine.exec (.reportSnapReq w) s = .next t ∧ s.WroteOk t w
      ∧ t.energy.snap = true ∧ t.rd .REPORT_SNAP_REQ = 1)
  ∧ ∀ (w : Wr) (s : State), s.Accepts .RAIL_RECOVER 0 w → w.val = 1 → s.rd .RAIL_RECOVER w.el = 0 →
    ∃ t, Sys2Proof.Machine.exec (.railRecover w) s = .next t ∧ s.WroteOk t w
      ∧ ((s.ra w.el).recover = 0 → t.rd .RAIL_RECOVER w.el = 1 ∧ (t.ra w.el).recover = (match s.railField w.el with
          | some f => if (s.g (s.groupOf f)).step.isSome then 3 else 1
          | none => 1))
      ∧ ((s.ra w.el).recover ≠ 0 → (t.ra w.el).recover = (s.ra w.el).recover)

/-- An accepted write is answered OK and counted, and: ALERT_ACK clears the status bits it names, FAULT not while a
job reset is requested; EXPERT_UNLOCK stands for EXPERT_UNLOCK_TIME, or ends with 0; PERSIST_FLUSH with 1 asks for a
commit of objects, or reads 0 again with nothing to commit; FN_SNAP_REQ with 1 asks for a snapshot; LC_ARM with 1 arms
for 10 s; LC_REQUEST uses up the arming and asks for the transition; FN_FORMAT_REQ with 1 formats a foreign store;
SELF_RESET_REQ with 1 hands over a summary and resets within 2 s; LOCK_FORCE with 1 frees a held lock with OWNER_LOST
and no other lock. -/
def Obligations.AdministrativeWritesTakeEffect : Prop :=
  (∀ (w : Wr) (s : State), s.Accepts .ALERT_ACK 0 w →
    ∃ t, Sys2Proof.Machine.exec (.alertAck w) s = .next t ∧ s.WroteOk t w
      ∧ ∀ k, k < 8 → t.flag .ALERT_STATUS k = (s.flag .ALERT_STATUS k && !(bit w.val k && !(k == 0 && s.su.jobRstReq))))
  ∧ (∀ (w : Wr) (s : State), s.Accepts .EXPERT_UNLOCK 0 w →
    ∃ t, Sys2Proof.Machine.exec (.expertUnlock w) s = .next t ∧ s.WroteOk t w
      ∧ (w.val % 256 = 0 → t.rd .EXPERT_UNLOCK = 0 ∧ t.dict.unlockUntil = none)
      ∧ (w.val % 256 ≠ 0 → t.rd .EXPERT_UNLOCK = 1 ∧ t.dict.unlockUntil
          = if s.rd .EXPERT_UNLOCK_TIME = 0 then none else some (s.up + 1000000 * s.rd .EXPERT_UNLOCK_TIME)))
  ∧ (∀ (w : Wr) (s : State), s.Accepts .PERSIST_FLUSH 0 w → w.val = 1 → s.rd .PERSIST_FLUSH w.el = 0 →
    ∃ t, Sys2Proof.Machine.exec (.persistFlush w) s = .next t ∧ s.WroteOk t w
      ∧ ((t.rd .PERSIST_FLUSH = 1 ∧ t.Asked .objects) ∨ (t.rd .PERSIST_FLUSH = 0 ∧ t.dict.dirty = [])))
  ∧ (∀ (w : Wr) (s : State), s.Accepts .FN_SNAP_REQ 0 w → w.val = 1 → s.rd .FN_SNAP_REQ w.el = 0 →
    ∃ t, Sys2Proof.Machine.exec (.fnSnapReq w) s = .next t ∧ s.WroteOk t w
      ∧ t.rd .FN_SNAP_REQ = 1 ∧ t.Asked .snapshot)
  ∧ (∀ (w : Wr) (s : State), s.Accepts .LC_ARM 0 w → w.val = 1 →
    ∃ t, Sys2Proof.Machine.exec (.lcArm w) s = .next t ∧ s.WroteOk t w
      ∧ t.rd .LC_ARM = 1 ∧ t.fon.armUntil = some (s.up + 10000000))
  ∧ (∀ (w : Wr) (s : State), s.Accepts .LC_REQUEST 0 w →
    ∃ t, Sys2Proof.Machine.exec (.lcRequest w) s = .next t ∧ s.WroteOk t w
      ∧ t.fon.target = some (w.val % 2 ^ objBits .LC_REQUEST) ∧ t.fon.armUntil = none ∧ t.rd .LC_ARM = 0
      ∧ t.flag .LC_STATUS 2 = true ∧ t.flag .LC_STATUS 0 = false ∧ t.Asked .transition)
  ∧ (∀ (w : Wr) (s : State), s.Accepts .FN_FORMAT_REQ 0 w → w.val = 1 → s.rd .FN_FORMAT_REQ w.el = 0 →
      s.flag .FN_STATUS 8 = true →
    ∃ t, Sys2Proof.Machine.exec (.fnFormatReq w) s = .next t ∧ s.WroteOk t w
      ∧ t.flag .FN_STATUS 8 = false ∧ t.flag .FN_STATUS 9 = false ∧ t.flag .FN_STATUS 0 = true
      ∧ t.flash.journal = [] ∧ t.fon.credit = 2048 ∧ t.rd .FN_HEAD_SEQ = 0 ∧ t.isReady .fondant = true)
  ∧ (∀ (w : Wr) (s : State), s.Accepts .SELF_RESET_REQ 0 w → w.val = 1 → s.rd .SELF_RESET_REQ w.el = 0 →
    ∃ t, Sys2Proof.Machine.exec (.selfResetReq w) s = .next t ∧ s.WroteOk t w
      ∧ t.rd .SELF_RESET_REQ = 1 ∧ t.su.selfReset = some (s.up + 2000000) ∧ s.Counted t .AUDIT_SUMMARIES
      ∧ t.Asked .summaries)
  ∧ ∀ (i : Nat) (w : Wr) (s : State), i < 64 → s.Accepts .LOCK_FORCE i w → w.val = 1 → s.rd .LOCK_FORCE w.el i = 0 →
    ∃ t, Sys2Proof.Machine.exec (.lockForce i w) s = .next t ∧ s.WroteOk t w
      ∧ t.lockWord i = (if lockHeld (s.lockWord i) then 0x20000 else s.lockWord i)
      ∧ ∀ j, j ≠ i → t.lockWord j = s.lockWord j

/-- An accepted write of 1 to INJ_ARM while INJ_POINT names the command's point puts that injection in progress with
the element and argument written, for 1 s, logs INJECT with the element and the point, and leaves INJ_ARM at 1 and
INJ_RESULT at 0; point 8 also flips the word it names. INJ_EXPIRED of an injection past its time ends it with EXPIRED
and INJ_ARM 0. FIELD_TEST_EXPIRY past its time ends the permit. -/
def Obligations.InjectionsAreArmedAndEnd : Prop :=
  (∀ (w : Wr) (s : State) (x : Nat × Instr),
      x ∈ [(1, Instr.injDsReading w), (2, .injTsReading w), (3, .injRefALoss w), (4, .injRefBLoss w), (5, .injSlip w),
        (6, .injRzCrc w), (7, .injFnRecord w), (8, .injSramBit w), (9, .injSpineParity w), (10, .injEstOverflow w),
        (11, .injFdpFraming w)] →
      s.rd .INJ_POINT = x.1 → s.Accepts .INJ_ARM 0 w → w.val = 1 → s.rd .INJ_ARM w.el = 0 →
    ∃ t, Sys2Proof.Machine.exec x.2 s = .next t ∧ s.WroteOk t w
      ∧ (∃ y, t.inj.cur = some y ∧ y.point = x.1 ∧ y.element = s.rd .INJ_ELEMENT ∧ y.arg = s.rd .INJ_ARG
          ∧ y.deadline = s.up + 1000000)
      ∧ t.rd .INJ_ARM = 1 ∧ t.rd .INJ_RESULT = 0 ∧ s.Logged t 0x70 (s.rd .INJ_ELEMENT) x.1 false
      ∧ (x.1 = 8 → ∃ f, t.inj.flips = s.inj.flips ++ [f] ∧ f.element = s.rd .INJ_ELEMENT
          ∧ f.code = bits (s.rd .INJ_ARG) 0 4 ∧ f.word = bits (s.rd .INJ_ARG) 4 20)
      ∧ (x.1 ≠ 8 → t.inj.flips = s.inj.flips))
  ∧ (∀ (y : Inj) (s : State), s.inj.cur = some y → y.deadline ≤ s.up →
    ∃ t, Sys2Proof.Machine.exec .injExpired s = .next t
      ∧ t.inj.cur = none ∧ t.rd .INJ_RESULT = 2 ∧ t.rd .INJ_ARM = 0 ∧ t.rd .INJ_COUNT = s.rd .INJ_COUNT)
  ∧ ∀ s : State, s.on .FIELD_TEST_PERMIT = true → s.inj.permitUntil ≤ s.up →
    ∃ t, Sys2Proof.Machine.exec .fieldTestExpiry s = .next t ∧ t.on .FIELD_TEST_PERMIT = false

/-- A write that passes every check of an object whose write only stores leaves its value there, answers OK, counts
for its class and takes the next audit record. A write that fails a check after check 2 answers that check's code,
counts as refused for its class, takes an audit record, and leaves every value that only a write stores. A write that
passes to a REMOTE object joins the accesses in flight unanswered, with the class, time and value of its decision;
with 8 in flight, or an earlier write of the value not yet carried out, it waits undecided (log 107). An access in
flight returns, CTL not standing still and nothing waiting behind it: a write stores, a direct read answers the value
it found as it was decided. (The refused write waits behind none.) -/
def Obligations.ObjectWritesAreCheckedAndAudited : Prop :=
  (∀ (index sub o i : Nat) (w : Wr) (x : Obj) (s : State), o = objBits x → plainWrite x = true →
      s.Carries { write := true, index := index, sub := sub, el := w.el, src := w.src, len := w.len, val := w.val } x i →
    ∃ t, Sys2Proof.Machine.exec (.objectWrite index sub w) s = .next t ∧ s.WroteOk t w
      ∧ t.rd x w.el i = w.val % 2 ^ o ∧ t.rd .AUDIT_NEXT = (s.rd .AUDIT_NEXT + 1) % 8192)
  ∧ (∀ (index sub i : Nat) (w : Wr) (x : Obj) (c : Code) (a : Access) (s : State),
      a = { write := true, index := index, sub := sub, el := w.el, src := w.src, len := w.len, val := w.val } →
      a.obj = some (x, i) → s.Admits w.src → s.mustWait a x i = false → s.busyOf x w.el w.val = false →
      s.checkWrite a x i = some c →
    ∃ t, Sys2Proof.Machine.exec (.objectWrite index sub w) s = .next t
      ∧ t.dict.answer.status = c.num
      ∧ t.rd .AUDIT_REFUSED 0 (s.classOf w.src)
          = satAdd (objBits .AUDIT_REFUSED) (s.rd .AUDIT_REFUSED 0 (s.classOf w.src)) 1
      ∧ t.rd .AUDIT_NEXT = (s.rd .AUDIT_NEXT + 1) % 8192
      ∧ ∀ (y : Obj) (e j : Nat), plainWrite y = true → writable (s.rightsOf y) = true → t.rd y e j = s.rd y e j)
  ∧ (∀ (index sub i : Nat) (w : Wr) (x : Obj) (a : Access) (s : State),
      a = { write := true, index := index, sub := sub, el := w.el, src := w.src, len := w.len, val := w.val } →
      a.obj = some (x, i) → s.Admits w.src → s.isRemote x = true →
      s.mustWait a x i = true ∨ (s.busyOf x w.el w.val = false ∧ s.checkWrite a x i = none) →
    ∃ t, Sys2Proof.Machine.exec (.objectWrite index sub w) s = .next t
      ∧ (∀ (o : Obj) (e k : Nat), o ≠ .HP_REQUESTS → t.rd o e k = s.rd o e k) ∧ t.dict.answer = s.dict.answer
      ∧ ∃ r, t.dict.remote = s.dict.remote ++ [r] ∧ r.write = true ∧ r.obj = x ∧ r.sub = i ∧ r.el = w.el ∧ r.val = w.val
        ∧ r.src = w.src ∧ r.flying = !s.mustWait a x i
        ∧ (r.flying = true → r.cls = s.classOf w.src ∧ r.time = s.T ∧ r.old = s.readVal x w.el i))
  ∧ (∀ (a : Access) (x : Obj) (i : Nat) (s : State), s.mustWait a x i = true ↔ s.isRemote x = true ∧
      (8 ≤ (s.dict.remote.filter fun y => y.flying).length ∨ (a.write = true
        ∧ ∃ y ∈ s.dict.remote, y.write = true ∧ y.obj = x ∧ y.sub = i ∧ y.el = a.el)))
  ∧ ∀ (ix : Nat) (x : RemoteAcc) (s : State), s.refs.shortStop = false → s.ports.hostHeld = [] →
    s.inj.flips = [] → (∀ y ∈ s.dict.remote, y.flying = true) → s.dict.remote[ix]? = some x → x.via = .direct →
    (x.write = true → plainWrite x.obj = true → writable (s.rightsOf x.obj) = true →
      ∃ t, Sys2Proof.Machine.exec (.remoteAccessComplete ix) s = .next t
        ∧ t.dict.remote = s.dict.remote.eraseIdx ix ∧ t.rd x.obj x.el x.sub = x.val % 2 ^ objBits x.obj
        ∧ t.dict.answer.status = Code.ok.num)
    ∧ (x.write = false → x.lost = false →
      ∃ t, Sys2Proof.Machine.exec (.remoteAccessComplete ix) s = .next t
        ∧ t.dict.remote = s.dict.remote.eraseIdx ix
        ∧ (∀ (y : Obj) (e j : Nat), plainWrite y = true → writable (s.rightsOf y) = true → t.rd y e j = s.rd y e j)
        ∧ t.dict.answer.status = Code.ok.num ∧ t.dict.answer.data = x.old)

/-- For requests that their port accepts: a well-formed read on the engine port that passes the checks of an object
that is not REMOTE answers its value, or the 8 bytes at the offset of a long one; a write of RUN_CTL, the object that
engines may write, that passes the checks asks for the start (1) or, in a run, the stop (2) and answers OK. IDX_READ
and IDX_WRITE with a valid IDX_CTL begin the operation, and IDX_DONE decides it: a read leaves the value in the first
bytes of the buffer, a write stores it, and the status names the length and OK. A write of IDX_CTL that fails its
checks begins nothing; while an operation is in progress or before CTL runs it leaves the window as it was. (No RAM
word flipped by an injection; IDX_DONE not in a short stop of CTL.) -/
def Obligations.EngineAndIndirectAccess : Prop :=
  (∀ (q : EpReq) (o : Obj) (i : Nat) (s : State), s.EpTakes → q.id % 4096 ≠ 0 → bits q.arg 0 8 = 0 →
      bits q.data 0 32 = 0 → bits q.data 32 16 % 8 = 0 → (engAccess q false).obj = some (o, i) →
      s.checkRead (engAccess q false) o = none → s.isRemote o = false → s.inj.flips = [] →
    ∃ t, Sys2Proof.Machine.exec (.dictRead q) s = .next t ∧ t.objs = s.objs
      ∧ s.Answered t (q.id % 4096) .ok (if (info o).ty.long then
          bytesAt (s.readVal o (bits q.data 48 16) i) (bits q.data 32 16) 8 else s.readVal o (bits q.data 48 16) i))
  ∧ (∀ (q : EpReq) (s : State), s.EpTakes → q.id % 4096 ≠ 0 → bits q.arg 0 8 = 0 →
      bits q.data 32 16 = 0 → engHighOk q = true → s.Passes (engAccess q true) .RUN_CTL 0 →
    ∃ t, Sys2Proof.Machine.exec (.dictWrite q) s = .next t
      ∧ (bits q.data 0 32 = 1 → (t.g (bits q.data 48 16)).run.ctl = some 1 ∧ t.rd .RUN_CTL (bits q.data 48 16) = 1)
      ∧ (bits q.data 0 32 = 2 → (s.g (bits q.data 48 16)).run.running = true →
          (t.g (bits q.data 48 16)).run.ctl = some 2 ∧ t.rd .RUN_CTL (bits q.data 48 16) = 2)
      ∧ t.ports.rspId = q.id % 4096 ∧ t.ports.rspStatus = Code.ok.num ∧ t.ports.rspCount = s.ports.rspCount + 1)
  ∧ (∀ (addr ctl : Nat) (s : State), bit ctl 0 = false → s.HpTakes →
    ∃ t, Sys2Proof.Machine.exec (.idxRead addr ctl) s = .next t ∧ s.Counted t .HP_REQUESTS
      ∧ t.ports.host.status = (s.idxCheck addr ctl).num
      ∧ (s.idxCheck addr ctl = .ok → t.idx.op = some (false, 0) ∧ t.idx.addr = addr ∧ t.idx.status = 1)
      ∧ (s.idxCheck addr ctl ≠ .ok → t.idx.op = s.idx.op ∧ t.idx.status = s.idx.status ∧ t.idx.buf = s.idx.buf)
      ∧ (s.isReady .ctl = false ∨ s.idx.op.isSome = true → t.idx = s.idx))
  ∧ (∀ (addr buf ctl : Nat) (s : State), bit ctl 0 = true → s.HpTakes →
    ∃ t, Sys2Proof.Machine.exec (.idxWrite addr buf ctl) s = .next t ∧ s.Counted t .HP_REQUESTS
      ∧ t.ports.host.status = (s.idxCheck addr ctl).num
      ∧ (s.idxCheck addr ctl = .ok → t.idx.op = some (true, bits ctl 16 15) ∧ t.idx.addr = addr
          ∧ t.idx.buf = buf % 2 ^ 131072)
      ∧ (s.idxCheck addr ctl ≠ .ok → t.idx.op = s.idx.op ∧ t.idx.status = s.idx.status)
      ∧ (s.isReady .ctl = false ∨ s.idx.op.isSome = true → t.idx = s.idx))
  ∧ (∀ (o : Obj) (i : Nat) (s : State), s.idx.op = some (false, 0) → (∀ x ∈ s.dict.remote, x.via ≠ .idx) →
      (s.idxAccess false 0).obj = some (o, i) → s.checkRead (s.idxAccess false 0) o = none →
      s.isRemote o = false → s.inj.flips = [] → s.refs.shortStop = false →
    ∃ t, Sys2Proof.Machine.exec .idxDone s = .next t
      ∧ t.idx.op = none ∧ t.idx.status = (info o).size * 2 ^ 32 + 2
      ∧ bytesAt t.idx.buf 0 (info o).size = s.readVal o (bits s.idx.addr 0 16) i % 2 ^ objBits o)
  ∧ ∀ (o : Obj) (i len : Nat) (s : State), s.idx.op = some (true, len) → (∀ x ∈ s.dict.remote, x.via ≠ .idx) →
      s.Passes (s.idxAccess true len) o i → plainWrite o = true → s.refs.shortStop = false →
    ∃ t, Sys2Proof.Machine.exec .idxDone s = .next t
      ∧ t.idx.op = none ∧ t.idx.status = len * 2 ^ 32 + 2
      ∧ t.rd o (bits s.idx.addr 0 16) i = bytesAt s.idx.buf 0 len % 2 ^ objBits o

/-- Every request counts in HP_REQUESTS and shows its code. A valid whole write of the phase table stores the entry of
its tag and field and no other. The host acquires a free lock and keeps one it holds, and an acquire of a lock held by
a requester leaves it; it releases only its own lock. A ring of an implemented doorbell that needs no wake sets it.
(CTL and the unit asked are ready, and the port takes the request.) While CTL stands still, or a request before it
waits, an accepted request is held; while HP_RDY is 0, until 1 us after the release or with four requests waiting,
none is accepted and nothing changes. -/
def Obligations.HostWindowCommands : Prop :=
  (∀ (tag f be val : Nat) (s : State), tag < 4096 → f < 128 → s.HpTakes → s.inj.flips = [] →
      s.phaseCheck f be val = .ok →
    ∃ t, Sys2Proof.Machine.exec (.phaseTableWrite (0x400000 + 8 * (128 * tag + f)) be val) s = .next t
      ∧ s.Counted t .HP_REQUESTS ∧ t.ports.host.status = Code.ok.num
      ∧ Tab.get t.phase (128 * tag + f) 0 = val % 2 ^ 64
      ∧ ∀ k, k ≠ 128 * tag + f → Tab.get t.phase k 0 = Tab.get s.phase k 0)
  ∧ (∀ (i : Nat) (s : State), i < 64 → s.HpTakes → s.isReady .ctl = true → s.isReady .mailbox = true →
    ∃ t, Sys2Proof.Machine.exec (.lockHostAcquire i) s = .next t
      ∧ s.Counted t .HP_REQUESTS ∧ t.ports.host.status = Code.ok.num
      ∧ (lockOwner (s.lockWord i) = none → lockOwner (t.lockWord i) = some 0 ∧ t.ports.host.data = t.lockWord i)
      ∧ (lockOwner (s.lockWord i) = some 0 → t.lockWord i = s.lockWord i ∧ t.ports.host.data = s.lockWord i)
      ∧ (∀ o, lockOwner (s.lockWord i) = some o → o ≠ 0 → t.lockWord i = s.lockWord i
          ∧ t.ports.host.data = setBit (s.lockWord i) 16 false))
  ∧ (∀ (i val : Nat) (s : State), i < 64 → s.HpTakes → s.isReady .ctl = true → s.isReady .mailbox = true →
    ∃ t, Sys2Proof.Machine.exec (.lockHostRelease i val) s = .next t ∧ s.Counted t .HP_REQUESTS
      ∧ (if lockOwner (s.lockWord i) = some 0 then t.lockWord i = 0 ∧ t.ports.host.status = Code.ok.num
          else t.lockWord i = s.lockWord i ∧ t.ports.host.status = Code.denied.num ∧ s.Counted t .HP_DENIED))
  ∧ (∀ (r : HeldReq) (c : Instr) (i val : Nat) (s : State), i < 64 →
      (r, c) ∈ [(HeldReq.lockAcquire i, Instr.lockHostAcquire i), (.lockRelease i, .lockHostRelease i val),
        (.ring val, .hostDbRing val)] → s.hpReady = true →
      s.refs.shortStop = true ∨ s.hostRemote ≠ [] ∨ s.ports.hostHeld ≠ [] →
    ∃ t, Sys2Proof.Machine.exec c s = .next t
      ∧ t.ports = { s.ports with hostHeld := s.ports.hostHeld ++ [r] } ∧ s.Counted t .HP_REQUESTS
      ∧ ∀ (o : Obj) (e k : Nat), o ≠ .HP_REQUESTS → t.rd o e k = s.rd o e k)
  ∧ (∀ (i val : Nat) (s : State), s.hpReady = false →
    Sys2Proof.Machine.exec (.lockHostAcquire i) s = .next s ∧ Sys2Proof.Machine.exec (.lockHostRelease i val) s = .next s
      ∧ Sys2Proof.Machine.exec (.hostDbRing val) s = .next s)
  ∧ ∀ (m : Nat) (s : State), m < 64 → m < s.rd .NUM_MAILBOXES → s.HpTakes → s.isReady .ctl = true → s.isReady .mailbox = true →
      s.on .MB_WAKE m = false →
    ∃ t, Sys2Proof.Machine.exec (.hostDbRing m) s = .next t
      ∧ s.Counted t .HP_REQUESTS ∧ t.ports.host.status = Code.ok.num
      ∧ (t.bx m).rung = true ∧ (t.bx m).merged = min 255 ((s.bx m).merged + 1)

/-- A valid mark, accepted by the engine port, of a requester on an implemented group with fields, Praline ready, that
repeats no mark: PHASE_NEXT announces the tag with Praline's choice and answers it, counting one with less than 20 us
of LEAD; PHASE_BEGIN while operating points are not frozen begins an occurrence of the tag at this time, which ends
the announcement of the same tag, with the choice announced while Praline is not idle for the group (no occurrence
ended before it); PREFERRED_POINT sets or clears the preferred point of the tag and leaves every other tag's entry. A
mark that repeats one within PR_DEDUP answers the same data, counts in PR_DUP_MARKS and changes nothing of the group.
(For PHASE_NEXT: no word flipped by an injection.) -/
def Obligations.PhaseMarksAnnounceAndBegin : Prop :=
  (∀ (q : EpReq) (g tag : Nat) (c : Option Nat × Bool) (s : State), g = bits q.arg 12 3 → tag = bits q.arg 0 12 →
      s.EpTakes → q.id % 4096 ≠ 0 → onlyBits q.arg 0xFFFF7FFF = true → q.data = 0 → s.isReady .praline = true → g < s.rd .NUM_GROUPS →
      s.groupFields g ≠ [] → s.duplicate g 1 tag = none → s.inj.flips = [] →
      c = (if s.policy g = .learn ∧ s.pralineIdle g = false then s.stepLfsr g else s).choose g tag true →
    ∃ t, Sys2Proof.Machine.exec (.phaseNext q) s = .next t
      ∧ (t.g g).next = some { tag := tag, choice := c.1, explored := c.2 } ∧ t.rd .PR_NEXT_TAG g = tag
      ∧ (bits q.arg 16 16 < 20 → s.Counted t .PR_LATE_NEXT g)
      ∧ s.Answered t (q.id % 4096) .ok (choiceData c))
  ∧ (∀ (q : EpReq) (g tag : Nat) (s : State), g = bits q.arg 12 3 → tag = bits q.arg 0 12 → s.EpTakes → q.id % 4096 ≠ 0 →
      onlyBits q.arg 0x7FFF = true → q.data = 0 → s.isReady .praline = true → g < s.rd .NUM_GROUPS →
      s.groupFields g ≠ [] → s.duplicate g 2 tag = none → s.frozen = false →
    ∃ t, Sys2Proof.Machine.exec (.phaseBegin q) s = .next t
      ∧ t.rd .PR_CUR_TAG g = tag
      ∧ t.ports.rspId = q.id % 4096 ∧ t.ports.rspStatus = Code.ok.num
      ∧ ∃ o, (t.g g).occ = some o ∧ o.tag = tag ∧ o.begun = s.T
        ∧ ∀ n, (s.g g).next = some n → n.tag = tag → (t.g g).next = none
            ∧ ((s.g g).occ = none → s.pralineIdle g = false → o.entry = n.choice ∧ o.explored = n.explored))
  ∧ (∀ (q : EpReq) (g tag : Nat) (s : State), g = bits q.arg 12 3 → tag = bits q.arg 0 12 → s.EpTakes → q.id % 4096 ≠ 0 →
      onlyBits q.arg 0x3F7FFF = true → q.data = 0 → s.isReady .praline = true → g < s.rd .NUM_GROUPS →
      s.groupFields g ≠ [] → s.duplicate g 3 tag = none →
    ∃ t, Sys2Proof.Machine.exec (.preferredPoint q) s = .next t
      ∧ (t.ge g tag).prefValid = !(bit q.arg 21)
      ∧ (bit q.arg 21 = false → (t.ge g tag).pref = bits q.arg 16 5)
      ∧ (∀ u, u < 4096 → u ≠ tag → t.ge g u = s.ge g u)
      ∧ s.Answered t (q.id % 4096) .ok 0)
  ∧ ∀ (q : EpReq) (g op d : Nat) (c : Instr) (s : State), g = bits q.arg 12 3 →
      (op, c) ∈ [(1, Instr.phaseNext q), (2, .phaseBegin q), (3, .preferredPoint q)] → s.EpTakes → q.id % 4096 ≠ 0 →
      onlyBits q.arg 0x7FFF = true → q.data = 0 → s.isReady .praline = true → g < s.rd .NUM_GROUPS →
      s.groupFields g ≠ [] → s.duplicate g op (bits q.arg 0 12) = some d →
    ∃ t, Sys2Proof.Machine.exec c s = .next t
      ∧ t.g g = s.g g ∧ s.Counted t .PR_DUP_MARKS g ∧ s.Answered t (q.id % 4096) .ok d

/-- A boundary with the exchange ready and a new round: in a short stop of CTL it waits, and the end of the stop
(nothing held at a port) processes it; a round to skip changes no grant; otherwise the credits of the ended round are
used up, its slack sum begins anew, a staged epoch is installed and the waiting load staged behind it, and with none
staged and the exchange disabled the grant is the old one with the credits, at most BX_GRANT_MAX. BX_EPOCH_EXPIRED
past its time expires the epoch once, holds the grant at its install value and is logged. EPOCH_LATE past its time
sets LATE. A slack report with the sync port ready joins the sum of the round, which is a new one where the exchange
is not ready and the sum is of an earlier round; otherwise it is dropped and counted; a short stop of CTL holds it. -/
def Obligations.BudgetRoundsAndEpochs : Prop :=
  (∀ (stalled : Nat) (s : State), s.isReady .budget = true → s.T / 8000000 ≠ s.budget.round →
    ∃ t, Sys2Proof.Machine.exec (.bxRoundBoundary stalled) s = .next t
      ∧ (s.refs.shortStop = true → t.budget.due = true ∧ t.budget.round = s.budget.round)
      ∧ (s.refs.shortStop = false → t.budget.round = s.T / 8000000 ∧ t.budget.due = false ∧ t.budget.skip = false)
      ∧ (s.refs.shortStop = false → s.budget.skip = true → t.rd .BX_GRANT = s.rd .BX_GRANT)
      ∧ (s.refs.shortStop = false → s.budget.skip = false →
          t.budget.credit = 0 ∧ t.budget.sum = 0 ∧ t.budget.any = false
          ∧ (t.budget.noSlack = true ↔ s.budget.any = false ∨ s.isReady .sync = false)
          ∧ (∀ ep gr, s.budget.staged = some (ep, gr) → t.budget.installed = true ∧ t.rd .BX_EPOCH = ep % 2 ^ objBits .BX_EPOCH
              ∧ t.budget.staged = s.budget.waiting ∧ t.budget.waiting = none ∧ t.budget.expired = false
              ∧ s.Counted t .BX_EPOCH_LOADS)
          ∧ (s.budget.staged = none → s.on .BX_ENABLE = false → s.rd .BX_GRANT_MAX < 2 ^ 32 →
              t.rd .BX_GRANT = min (s.rd .BX_GRANT + s.budget.credit) (s.rd .BX_GRANT_MAX))))
  ∧ (∀ (us : Nat) (s : State), s.refs.shortStop = true → s.budget.due = true → s.budget.rx = [] →
      s.ports.hostHeld = [] → s.ports.epq = [] → s.ports.syHeld = [] →
    ∃ t, Sys2Proof.Machine.exec (.ctlShortStopEnd us) s = .next t
      ∧ t.budget.due = false ∧ t.budget.round = t.T / 8000000)
  ∧ (∀ s : State, s.budget.installed = true → s.budget.expired = false →
      s.budget.installAt + 1000 * s.rd .BX_EPOCH_TIMEOUT ≤ s.up → s.rd .BX_GRANT < 2 ^ 32 →
    ∃ t, Sys2Proof.Machine.exec .bxEpochExpired s = .next t
      ∧ t.budget.expired = true ∧ s.Counted t .BX_EPOCH_EXPIRIES ∧ t.rd .BX_GRANT = min (s.rd .BX_GRANT) s.budget.grant0
      ∧ s.Logged t 0x51 0xFFFF (s.rd .BX_EPOCH) false)
  ∧ (∀ s : State, s.budget.installed = true → s.budget.installAt + 1500 * s.rd .BX_EPOCH_PERIOD ≤ s.up →
    ∃ t, Sys2Proof.Machine.exec .epochLate s = .next t ∧ t.budget.late = true)
  ∧ (∀ (ns : Nat) (s : State), s.refs.shortStop = true → Sys2Proof.Machine.exec (.slackReport ns) s
      = .next { s with ports := { s.ports with syHeld := s.ports.syHeld ++ [.slack ns] } })
  ∧ ∀ (ns : Nat) (s : State), s.refs.shortStop = false → ∃ t, Sys2Proof.Machine.exec (.slackReport ns) s = .next t
      ∧ (s.isReady .sync = true → t.budget.any = true ∧ s.Counted t .SY_SLACK_REPORTS
          ∧ t.budget.sum = (if s.isReady .budget = false ∧ s.budget.sumRound ≠ s.T / 8000000 then 0 else s.budget.sum)
              + ns % 2 ^ 32)
      ∧ (s.isReady .sync = false → t.budget = s.budget ∧ s.Counted t .SY_SLACK_DROPS)

/-- Outside a short stop of CTL (in one, two frames wait and a third is dropped under code 1): a ROUND frame that
passes every check counts as accepted, its sequence number, slack and headroom are the slot's, and its credit joins
the round, or is lost in a passive one. A frame that fails check k shows k, counts there, and leaves every slot and
the credit. An accepted DIRECTIVE of either operation, where the object it names is not REMOTE and the block has an
engine number, queues one frame more toward its slot and counts; a write of BX_EPOCH_LOAD, the object that peers may
write, that a coordinator sends and that passes the checks stages the epoch and the grant, or lets them wait behind
the staged one. -/
def Obligations.BudgetFramesAreCheckedFirst : Prop :=
  (∀ (p x : Nat) (s : State), p < 8 → s.refs.shortStop = false → frameAt (x % 2 ^ 512) 2 1 = 1 →
    ∃ t, Sys2Proof.Machine.exec (.round p x) s = .next t
      ∧ (s.frameCheck p 8 false (x % 2 ^ 512) = 0 → s.Counted t .BX_RX_ACCEPTED
          ∧ (t.slot p).lastSeq = some (frameAt (x % 2 ^ 512) 16 4) ∧ (t.slot p).slack = some (frameAt (x % 2 ^ 512) 24 4)
          ∧ (t.slot p).headroom = frameAt (x % 2 ^ 512) 32 4
          ∧ t.budget.credit = (if s.passive then s.budget.credit else s.budget.credit + frameAt (x % 2 ^ 512) 36 4))
      ∧ (∀ k, s.frameCheck p 8 false (x % 2 ^ 512) = k → k ≠ 0 → t.budget = s.budget ∧ t.rd .BX_RX_DROP_LAST = k))
  ∧ (∀ (p x : Nat) (s : State), p < 8 → s.refs.shortStop = true → frameAt (x % 2 ^ 512) 2 1 = 1 →
    ∃ t, Sys2Proof.Machine.exec (.round p x) s = .next t
      ∧ (s.budget.rx.length < 2 → t.objs = s.objs
          ∧ ∃ y : NbFrame, t.budget.rx = s.budget.rx ++ [y] ∧ y.peer = p ∧ y.frame = x % 2 ^ 512)
      ∧ (2 ≤ s.budget.rx.length → t.budget = s.budget ∧ t.rd .BX_RX_DROP_LAST = 1
          ∧ t.rd .BX_RX = satAdd (objBits .BX_RX) (s.rd .BX_RX) 1))
  ∧ (∀ (p beats x k : Nat) (err : Bool) (s : State), p < 8 → s.refs.shortStop = false →
      s.frameCheck p beats err (x % 2 ^ 512) = k → k ≠ 0 →
    ∃ t, Sys2Proof.Machine.exec (.budgetFrameDrop p beats err x) s = .next t
      ∧ t.budget = s.budget ∧ t.rd .BX_RX_DROP_LAST = k
      ∧ t.rd .BX_RX 0 (k - 1) = satAdd (objBits .BX_RX) (s.rd .BX_RX 0 (k - 1)) 1)
  ∧ (∀ (p x op : Nat) (c : Instr) (s : State), (op, c) ∈ [(0, Instr.directiveRead p x), (1, .directiveWrite p x)] → p < 8 →
      s.refs.shortStop = false → s.budget.engine ≠ 0 →
      frameAt (x % 2 ^ 512) 2 1 = 2 → frameAt (x % 2 ^ 512) 27 1 = op → s.frameCheck p 8 false (x % 2 ^ 512) = 0 →
      ((State.directive p (x % 2 ^ 512) (op == 1)).obj.all fun y => !s.isRemote y.1 && y.1 != Obj.BX_DIRECTIVES) = true →
    ∃ t, Sys2Proof.Machine.exec c s = .next t
      ∧ s.Counted t .BX_DIRECTIVES ∧ s.Counted t .BX_RX_ACCEPTED
      ∧ ∃ y : BFrame, t.budget.tx = s.budget.tx ++ [y] ∧ y.slot = p ∧ y.isRound = false)
  ∧ ∀ (p x : Nat) (s : State), p < 8 → s.refs.shortStop = false →
      frameAt (x % 2 ^ 512) 2 1 = 2 → frameAt (x % 2 ^ 512) 27 1 = 1 →
      s.frameCheck p 8 false (x % 2 ^ 512) = 0 → (s.slot p).coord = true →
      s.Passes (State.directive p (x % 2 ^ 512) true) .BX_EPOCH_LOAD 0 →
    ∃ t, Sys2Proof.Machine.exec (.directiveWrite p x) s = .next t
      ∧ t.budget.lastLoad = some (frameAt (x % 2 ^ 512) 32 2)
      ∧ (s.budget.staged = none →
          t.budget.staged = some (frameAt (x % 2 ^ 512) 32 2, frameAt (x % 2 ^ 512) 36 4))
      ∧ (∀ y, s.budget.staged = some y → t.budget.staged = some y
          ∧ t.budget.waiting = some (frameAt (x % 2 ^ 512) 32 2, frameAt (x % 2 ^ 512) 36 4))

/-- A frame addressed to the block (it takes part and is not bus-off, the source is another node), after the first
READY, with fewer than 8 accesses waiting, not repeating the last request of its source, no framing injection and no
flipped word of the RAMs: a valid READ that passes the checks of an object that is not REMOTE sends its first bytes
from a snapshot with status OK; a valid WRITE of a whole value that passes the checks of an object that only stores
leaves the value and sends OK; a first segment at offset 0 opens a session of its source; a frame that is no valid
request sends MALFORMED. Each counts as received and sent. A repeat within 1 s counts as a duplicate and sends the
kept answer. A frame in standby is only counted as held. -/
def Obligations.FieldBusRequestsAreAnswered : Prop :=
  (∀ (q : FdpFrame) (o : Obj) (i : Nat) (s : State), fdpGood q = true → fdpAt q 0 1 = 1 → s.fdpFilter q = none →
      s.su.everReady = true → s.busAccesses.length < 8 → s.fdpRepeat q = none → s.injAt 11 = none →
      fdpAt q 8 2 = 0 → (fdpAccess q false 0 0).obj = some (o, i) → s.checkRead (fdpAccess q false 0 0) o = none →
      s.isRemote o = false → s.inj.flips = [] →
    ∃ t p, Sys2Proof.Machine.exec (.fdpRead q) s = .next t
      ∧ s.Counted t .FB_RX_FRAMES ∧ t.fdp.snap = some p ∧ p.size = (info o).size
      ∧ bits t.fdp.sent.data 8 8 = Code.ok.num
      ∧ bits t.fdp.sent.data 128 (8 * min (if fdpAt q 10 2 = 0 then 48 else fdpAt q 10 2) (info o).size)
          = p.val % 2 ^ (8 * min (if fdpAt q 10 2 = 0 then 48 else fdpAt q 10 2) (info o).size))
  ∧ (∀ (q : FdpFrame) (o : Obj) (i : Nat) (s : State), fdpGood q = true → fdpAt q 0 1 = 2 → s.fdpFilter q = none →
      s.su.everReady = true → s.busAccesses.length < 8 → s.fdpRepeat q = none → s.injAt 11 = none →
      bit (fdpAt q 1 1) 0 = true → bit (fdpAt q 1 1) 1 = true → fdpAt q 8 2 = 0 →
      s.Passes (fdpAccess q true (fdpAt q 10 2) (fdpAt q 16 (fdpAt q 10 2))) o i → plainWrite o = true →
    ∃ t, Sys2Proof.Machine.exec (.fdpWrite q) s = .next t
      ∧ t.rd o (fdpAt q 6 2) i = fdpAt q 16 (fdpAt q 10 2) % 2 ^ objBits o
      ∧ bits t.fdp.sent.data 8 8 = Code.ok.num ∧ s.Counted t .FB_RX_FRAMES ∧ s.Counted t .FB_TX_FRAMES)
  ∧ (∀ (q : FdpFrame) (s : State), fdpGood q = true → fdpAt q 0 1 = 2 → s.fdpFilter q = none →
      s.su.everReady = true → s.busAccesses.length < 8 → s.fdpRepeat q = none → s.injAt 11 = none →
      bit (fdpAt q 1 1) 0 = true → bit (fdpAt q 1 1) 1 = false → fdpAt q 8 2 = 0 → s.fdp.sess = none → s.inj.flips = [] →
    ∃ t, Sys2Proof.Machine.exec (.fdpWrite q) s = .next t
      ∧ (∃ x, t.fdp.sess = some x ∧ x.src = fdpSrc q ∧ x.key = fdpKey q ∧ x.got = fdpAt q 10 2 ∧ x.at0 = s.up)
      ∧ bits t.fdp.sent.data 8 8 = Code.ok.num)
  ∧ (∀ (q : FdpFrame) (s : State), fdpGood q = false → s.fdpFilter q = none → s.su.everReady = true →
      s.busAccesses.length < 8 → s.fdpRepeat q = none → s.injAt 11 = none → s.inj.flips = [] →
    ∃ t, Sys2Proof.Machine.exec (.fdpMalformed q) s = .next t
      ∧ bits t.fdp.sent.data 8 8 = Code.malformed.num ∧ s.Counted t .FB_MALFORMED ∧ s.Counted t .FB_RX_FRAMES
      ∧ s.Counted t .FB_TX_FRAMES)
  ∧ (∀ (q : FdpFrame) (x : FdpLast) (r : FdpRsp) (s : State), fdpGood q = true → fdpAt q 0 1 = 1 → s.fdpFilter q = none →
      s.su.everReady = true → s.busAccesses.length < 8 → s.fdpRepeat q = some x → x.rsp = some r → s.inj.flips = [] →
    ∃ t, Sys2Proof.Machine.exec (.fdpRead q) s = .next t
      ∧ t.fdp.sent = { r with at0 := s.up, brs := s.on .FB_BRS_ENABLE } ∧ s.Counted t .FB_DUPLICATES)
  ∧ ∀ (q : FdpFrame) (s : State), fdpGood q = false → s.fdp.standby = true →
    ∃ t, Sys2Proof.Machine.exec (.fdpMalformed q) s = .next t ∧ s.Counted t .FB_HELD_RX ∧ t.fdp = s.fdp

/-- A session without a segment for 100 ms is abandoned and counted. FDP_RESPONSE_DROP discards the responses that
have waited 100 ms, counts them, and keeps the others. A classic frame is counted, as held in standby. FB_BUS_OFF
while the controller takes part is counted, logged, and holds responses. FB_BUS_OFF_RECOVERY sends the responses that
waited, so that none waits and the last one sent is the last that waited, with the bit rate switched as FB_BRS_ENABLE
says. -/
def Obligations.FieldBusSessionsAndBusOff : Prop :=
  (∀ (x : Sess) (s : State), s.fdp.sess = some x → x.at0 + 100000 ≤ s.up →
    ∃ t, Sys2Proof.Machine.exec .fdpSessionTimeout s = .next t
      ∧ t.fdp.sess = none ∧ s.Counted t .FB_SESSIONS_ABANDONED)
  ∧ (∀ s : State, ∃ t, Sys2Proof.Machine.exec .fdpResponseDrop s = .next t
      ∧ (∀ r, r ∈ t.fdp.out ↔ r ∈ s.fdp.out ∧ s.up < r.at0 + 100000)
      ∧ t.rd .FB_TX_DROPPED = satAdd (objBits .FB_TX_DROPPED) (s.rd .FB_TX_DROPPED) (s.fdp.out.length - t.fdp.out.length))
  ∧ (∀ s : State, ∃ t, Sys2Proof.Machine.exec .fbClassic s = .next t ∧ t.fdp = s.fdp
      ∧ (if s.fdp.standby then s.Counted t .FB_HELD_RX else s.Counted t .FB_CLASSIC))
  ∧ (∀ s : State, s.fdp.standby = false → s.fdp.busOff = false →
    ∃ t, Sys2Proof.Machine.exec .fbBusOff s = .next t
      ∧ t.fdp.busOff = true ∧ s.Counted t .FB_BUS_OFFS ∧ s.Logged t 0x50 0xFFFF (t.rd .FB_BUS_OFFS) false)
  ∧ ∀ s : State, s.fdp.busOff = true →
    ∃ t, Sys2Proof.Machine.exec .fbBusOffRecovery s = .next t
      ∧ t.fdp.busOff = false ∧ t.fdp.out = []
      ∧ ∀ r, s.fdp.out.getLast? = some r → t.fdp.sent = { r with brs := s.on .FB_BRS_ENABLE }

/-- With the store up, no commit in flight, no transition that waits for its effect, no record to relocate first, and
one commit asked for whose records the credit allows (a snapshot once the Praline tables are loaded), FONDANT_COMMIT
begins it: its records are numbered from FN_HEAD_SEQ + 1 and nothing waits any more. FONDANT_RECORD_DONE (no injected
damage, no word of Fondant's RAM flipped): a first failure of a copy is tried again; a good copy that is not the
device's last goes on to the next record; the good copy of the last record on device B completes the commit: its
records join the journal in order, over those at their positions of the ring, FN_HEAD_SEQ and the credit move by their
number, it is counted, and none is in flight (unless it was a flush and another was asked for in it); a transition
into DEPLOYED or RETURNED wipes the Praline and summary records up to it, their removal pending. PERSIST_COMMIT of
dirty objects that are due asks for a commit of objects, or leaves nothing dirty. -/
def Obligations.CommitsAreWrittenRecordByRecord : Prop :=
  (∀ (w : Why) (b : Bool) (s : State), s.fon.cur = none → s.storeUp = true → s.fon.transDone = false → s.relocatable = none →
      s.fon.due = [(w, b)] → (w = .snapshot → s.flag .FN_STATUS 4 = true) → s.commitRecs w ≠ [] →
      s.affords (s.classOfCommit w) (s.commitRecs w).length = true →
    ∃ t c, Sys2Proof.Machine.exec .fondantCommit s = .next t
      ∧ t.fon.cur = some c ∧ t.fon.due = [] ∧ c.why = w ∧ c.recs.length = (s.commitRecs w).length
      ∧ ∀ i r, c.recs[i]? = some r → r.seq = s.rd .FN_HEAD_SEQ + 1 + i ∧ r.part = i ∧ r.parts = c.recs.length)
  ∧ (∀ (c : Commit) (s : State), s.fon.cur = some c → s.injAt 7 = none → s.inj.flips = [] → c.retry = false →
    ∃ t, Sys2Proof.Machine.exec (.fondantRecordDone false) s = .next t
      ∧ t.fon.cur = some { c with retry := true, injected := false, at0 := s.ctlUs } ∧ t.flash = s.flash)
  ∧ (∀ (c : Commit) (s : State), s.fon.cur = some c → s.injAt 7 = none → s.inj.flips = [] →
      c.pos + 1 < c.recs.length → s.devOk c.dev = true →
    ∃ t d, Sys2Proof.Machine.exec (.fondantRecordDone true) s = .next t
      ∧ t.fon.cur = some d ∧ d.pos = c.pos + 1 ∧ d.dev = c.dev ∧ d.why = c.why ∧ d.retry = false ∧ t.flash = s.flash)
  ∧ (∀ (c : Commit) (s : State), s.fon.cur = some c → s.injAt 7 = none → s.inj.flips = [] →
      c.recs.length ≤ c.pos + 1 → c.dev = 1 → s.devOk 1 = true →
    ∃ t, Sys2Proof.Machine.exec (.fondantRecordDone true) s = .next t
      ∧ (c.flush = false ∨ s.fon.flush = false → t.fon.cur = none) ∧ t.flash.journal = (s.flash.put (c.mark 1 true).recs).journal
      ∧ t.rd .FN_HEAD_SEQ = (s.rd .FN_HEAD_SEQ + c.recs.length) % 2 ^ objBits .FN_HEAD_SEQ
      ∧ t.fon.credit = s.fon.credit - c.recs.length ∧ s.Counted t .PERSIST_COMMITS
      ∧ (c.why = .transition → t.fon.transDone = true
          ∧ (s.fon.target = some 2 ∨ s.fon.target = some 3 → t.flash.wipePending = true
              ∧ (5, t.rd .FN_HEAD_SEQ) ∈ t.flash.wiped ∧ (6, t.rd .FN_HEAD_SEQ) ∈ t.flash.wiped)))
  ∧ ∀ (at0 : Nat) (s : State), s.dict.dirty ≠ [] → s.dict.commitAt = some at0 → at0 ≤ s.up →
    ∃ t, Sys2Proof.Machine.exec .persistCommit s = .next t ∧ (t.Asked .objects ∨ t.dict.dirty = [])

/-- With the store up, each of the six completes: FONDANT_REPAIR with both devices in service and no resilver leaves
both copies of every record that the mount found to repair and that has one, and every other record as it was, and
adds the number it repaired to FN_REPAIRS; with a resilver it gives both copies to every live record and ends it.
FONDANT_RELOCATE of a record to be relocated asks for a snapshot that is a new base, at once (class 0), where the
record is of type 5 (Praline), for a new directory where it is of type 7, else for the relocation of that record.
FONDANT_CREDIT when due adds one record of credit, at most 2048, and is next due 337.5 s later. PRALINE_SNAPSHOT when
due asks for a snapshot. DAILY_COMMIT on a new day of a block with fields asks for the daily commit, which waits
behind a commit in flight, or begins with nothing before it and the credit there, or else may have merged into the
commit of objects that waits for credit. FONDANT_WIPE of a pending wipe ends it, turns every wiped record into FILL
and keeps every SEQ; it changes no object, and FONDANT_REPAIR none but FN_REPAIRS and FN_STATUS. -/
def Obligations.FondantKeepsItsStore : Prop :=
  (∀ s : State, s.storeUp = true → s.devOk 0 = true → s.devOk 1 = true →
    ∃ t, Sys2Proof.Machine.exec .fondantRepair s = .next t
      ∧ (∀ (o : Obj) (e i : Nat), o ≠ .FN_REPAIRS → o ≠ .FN_STATUS → t.rd o e i = s.rd o e i)
      ∧ t.flag .FN_STATUS 7 = false ∧ t.flash.journal.map (·.seq) = s.flash.journal.map (·.seq)
      ∧ (s.flag .FN_STATUS 7 = false → t.fon.repair = []
          ∧ (∀ r ∈ s.flash.journal, r.seq ∈ s.fon.repair → (r.goodA = true ∨ r.goodB = true) →
              { r with goodA := true, goodB := true } ∈ t.flash.journal)
          ∧ (∀ r ∈ s.flash.journal, r.seq ∉ s.fon.repair → r ∈ t.flash.journal)
          ∧ t.rd .FN_REPAIRS = satAdd (objBits .FN_REPAIRS) (s.rd .FN_REPAIRS)
              (s.flash.journal.filter fun r => s.fon.repair.contains r.seq && r.goodA != r.goodB).length)
      ∧ (s.flag .FN_STATUS 7 = true → ∀ r ∈ s.liveRecs, { r with goodA := true, goodB := true } ∈ t.flash.journal))
  ∧ (∀ (r : JRec) (s : State), s.relocatable = some r → s.storeUp = true →
    ∃ t, Sys2Proof.Machine.exec .fondantRelocate s = .next t
      ∧ (if r.type = 5 then t.Asked .snapshot ∧ t.fon.forceBase = true ∧ t.fon.rebase = true
          else if r.type = 7 then t.Asked .directory else t.Asked (.relocate r.seq)))
  ∧ (∀ s : State, s.storeUp = true → s.fon.creditAt ≤ s.up →
    ∃ t, Sys2Proof.Machine.exec .fondantCredit s = .next t
      ∧ t.fon.credit = min 2048 (s.fon.credit + 1) ∧ t.fon.creditAt = s.fon.creditAt + 337500000)
  ∧ (∀ s : State, s.storeUp = true → s.flag .FN_STATUS 4 = true →
      s.rd .FN_SNAP_LAST + 3600 * s.rd .FN_SNAP_INTERVAL ≤ s.fon.life0 + s.up / 1000000 →
    ∃ t, Sys2Proof.Machine.exec .pralineSnapshot s = .next t ∧ t.Asked .snapshot)
  ∧ (∀ s : State, s.storeUp = true → (s.fon.life0 + s.up / 1000000) / 86400 ≠ s.fon.day → 0 < s.rd .NUM_FIELDS →
    ∃ t, Sys2Proof.Machine.exec .dailyCommit s = .next t
      ∧ t.fon.day = (s.fon.life0 + s.up / 1000000) / 86400 ∧ (t.Asked .daily ∨ t.Asked .objects)
      ∧ (s.fon.cur.isSome = true ∨ s.fon.due = [] ∧ s.affords 1 (s.commitRecs .daily).length = true → t.Asked .daily))
  ∧ ∀ s : State, s.storeUp = true → s.flash.wipePending = true →
    ∃ t, Sys2Proof.Machine.exec .fondantWipe s = .next t
      ∧ t.objs = s.objs ∧ t.flash.wipePending = false ∧ t.flash.journal.map (·.seq) = s.flash.journal.map (·.seq)
      ∧ ∀ r ∈ t.flash.journal, s.wipedRec r = true → r.type = 9 ∧ r.items = []

/-- A cold reset leaves the build, the queue and the levels of the inputs, with no commit in flight the flash as it
was, and everything else at its reset value (INJ_RESULT CANCELLED after an injection in progress), every output signal
too. A warm reset does the same and also keeps the fault digest with its time, ALERT_STATUS and the reset counters,
counts, and shows its cause; a self reset whose commit is complete or whose 2 s are over is a warm reset with cause 2.
-/
def Obligations.ResetsWipeAndKeep : Prop :=
  (∀ s : State, ∃ t, Sys2Proof.Machine.exec .coldReset s = .next t
      ∧ t.build = s.build ∧ t.pending = s.pending ∧ t.su = { released := false, warm := false, jobRstN := s.su.jobRstN }
      ∧ (s.fon.cur = none → t.flash = s.flash) ∧ (s.inj.cur = none → t.objs = [])
      ∧ t.flt = {} ∧ t.dict = {} ∧ t.fon = {} ∧ t.clock = {} ∧ t.rgn = [] ∧ t.grp = [] ∧ t.box = [] ∧ t.phase = []
      ∧ (∀ d, d < (State.zero s.build).rd .NUM_DOMAINS → (t.d d).ackCore = (s.d d).ackCore ∧ (t.d d).ackRtr = (s.d d).ackRtr)
      ∧ ∀ k, t.pinsReset k = true)
  ∧ (∀ s : State, ∃ t, Sys2Proof.Machine.exec .warmReset s = .next t
      ∧ t.su.released = false ∧ t.su.warm = true ∧ t.rd .RESET_CAUSE = 1 ∧ t.pending = s.pending
      ∧ (s.fon.cur = none → t.flash = s.flash)
      ∧ t.rd .FAULT_DIGEST = s.rd .FAULT_DIGEST % 2 ^ 64 ∧ t.rd .FAULT_TIME = s.rd .FAULT_TIME % 2 ^ 64
      ∧ t.rd .ALERT_STATUS = s.rd .ALERT_STATUS % 2 ^ 32
      ∧ t.rd .WARM_RESETS = satAdd (objBits .WARM_RESETS) (s.rd .WARM_RESETS % 2 ^ objBits .WARM_RESETS) 1
      ∧ t.rd .EVENT_SEQ = 0 ∧ t.flt = {} ∧ t.rgn = [] ∧ t.box = [] ∧ ∀ k, t.pinsReset k = true)
  ∧ ∀ (at0 : Nat) (s : State), s.su.selfReset = some at0 → (s.on .PERSIST_FLUSH = false ∨ at0 ≤ s.up) →
    ∃ t, Sys2Proof.Machine.exec .selfResetApply s = .next t
      ∧ t.su.released = false ∧ t.su.warm = true ∧ t.rd .RESET_CAUSE = 2 ∧ t.su.selfReset = none
      ∧ t.rd .FAULT_DIGEST = s.rd .FAULT_DIGEST % 2 ^ 64

/-- POWER_UP after a reset releases the block, sets AON and counts the reporting epoch, and a cold reset when it was
one. REF_SELECT from 0.2 ms with a valid reference selects A where A is valid and not B preferred and valid, B
otherwise, and CTL runs from it. FONDANT_MOUNT ends the mount and opens the sync port; two erased devices of at least
32768 sectors are formatted, and FONDANT sets; with both devices failed it does not. EXCLUDED_MAP_APPLY ends with
every present region of the map excluded from the arm and the START stage loaded. COLD_CALIBRATION of a BLANK block
leaves for a measured region a curve of format 1 with 4 points, its line trims, and for each of its sensors the offset
that brings the sensor's reading to the mean of its field (its rounding is free). -/
def Obligations.StartUpBeginsWithPowerAndStore : Prop :=
  (∀ s : State, s.su.released = false →
    ∃ t, Sys2Proof.Machine.exec .powerUp s = .next t
      ∧ t.su.released = true ∧ t.isReady .aon = true
      ∧ t.rd .REPORT_EPOCH = (s.rd .REPORT_EPOCH + 1) % 2 ^ objBits .REPORT_EPOCH
      ∧ (if s.su.warm then t.rd .COLD_RESETS = s.rd .COLD_RESETS else s.Counted t .COLD_RESETS))
  ∧ (∀ s : State, s.seqRuns = true → s.isReady .ctl = false → 200 ≤ s.up → (s.refValid false = true ∨ s.refValid true = true) →
    ∃ t, Sys2Proof.Machine.exec .refSelect s = .next t
      ∧ t.isReady .ctl = true ∧ t.isReady .aonInternal = false
      ∧ t.selected = (if s.refValid false = true ∧ ¬(s.rd .REF_PREFER = 2 ∧ s.refValid true = true) then 1 else 2)
      ∧ t.rd .CLOCK_SOURCE = t.selected)
  ∧ (∀ (a b : FlashDev) (s : State), s.seqRuns = true → s.isReady .ctl = true → s.fon.mountEnded = false →
    ∃ t, Sys2Proof.Machine.exec (.fondantMount a b) s = .next t
      ∧ t.fon.mountEnded = true ∧ t.isReady .sync = true
      ∧ (32768 ≤ a.sectors → 32768 ≤ b.sectors → a.swapped = none → b.swapped = none → s.flash.superA = 0 →
          s.flash.superB = 0 → s.devOk 0 = true → s.devOk 1 = true → s.flag .FN_STATUS 8 = false →
          t.isReady .fondant = true ∧ t.flag .FN_STATUS 0 = true ∧ t.flash.ring = min a.sectors b.sectors - 16
            ∧ t.flash.journal = [] ∧ t.fon.credit = 2048)
      ∧ (a.sectors < 32768 → b.sectors < 32768 → t.isReady .fondant = false))
  ∧ (∀ s : State, s.seqRuns = true → s.fon.mountEnded = true → s.su.excludedApplied = false →
    ∃ t, Sys2Proof.Machine.exec .excludedMapApply s = .next t
      ∧ t.su.excludedApplied = true ∧ t.flag .FN_STATUS 1 = true
      ∧ ∀ n ∈ s.regions, bit (t.rd .EXCLUDED_MAP) n = true →
          t.rd .REGION_EXCLUDED_ACTIVE n = 1 ∧ t.rd .REGION_EXCLUDE_CAUSE n = 4)
  ∧ ∀ (m : CalMeas) (s : State), s.seqRuns = true → s.coldCalibrating = true → s.live m.region = true →
    ∃ t, Sys2Proof.Machine.exec (.coldCalibration [m]) s = .next t
      ∧ t.su.coldCalDone = true ∧ t.fon.curves = true
      ∧ t.rd .DS_LINE_TRIM m.region = m.trims % 2 ^ objBits .DS_LINE_TRIM
      ∧ t.rdBytes .CAL_CURVE m.region 0 1 = 1 ∧ t.rdBytes .CAL_CURVE m.region 1 1 = 4
      ∧ ∀ i x, i < s.rd .TS_COUNT m.region → m.sensors[i]? = some x →
          (t.tsOf m.region i).offset + x = s.calMean [m] (fieldOf m.region)

/-- In a running start-up: MAILBOX_OPEN after the exclusions loads the STATE stage, makes limits due and sets MAILBOX.
DICT_OPEN after it, with RAILS set, makes every present region's factory weights live and sets DICT. BUDGET_OPEN in
DEPLOYED with a group that has fields begins with the round of this time and sets BUDGET. PRALINE_OPEN after
CAL_LOADED sets PRALINE. STARTUP_WATCHDOG 5 s after the release with a step not ended fails the start-up, which is
logged. -/
def Obligations.StartUpOpensTheUnits : Prop :=
  (∀ s : State, s.seqRuns = true → s.su.excludedApplied = true → s.isReady .mailbox = false →
    ∃ t, Sys2Proof.Machine.exec .mailboxOpen s = .next t
      ∧ t.isReady .mailbox = true ∧ t.flag .FN_STATUS 2 = true ∧ t.caps.due = true
      ∧ (s.refs.holdSince = none → s.selected ≠ 0 → t.isReady .fbOn = true ∧ t.fdp.standby = false))
  ∧ (∀ s : State, s.seqRuns = true → s.isReady .rails = true → s.flag .FN_STATUS 2 = true → s.isReady .dict = false →
    ∃ t, Sys2Proof.Machine.exec .dictOpen s = .next t
      ∧ t.isReady .dict = true ∧ t.flag .FN_STATUS 3 = true
      ∧ ∀ n ∈ s.regions, t.rd .EST_WEIGHT n = t.rd .EST_WEIGHT_FACTORY n % 2 ^ objBits .EST_WEIGHT)
  ∧ (∀ (g : Nat) (s : State), s.seqRuns = true → s.isReady .dict = true → s.rd .LC_STATE = 2 → g < s.rd .NUM_GROUPS →
      s.groupFields g ≠ [] →
    ∃ t, Sys2Proof.Machine.exec .budgetOpen s = .next t
      ∧ t.isReady .budget = true ∧ t.budget.round = s.T / 8000000)
  ∧ (∀ s : State, s.seqRuns = true → s.flag .FN_STATUS 3 = true → s.isReady .praline = false →
    ∃ t, Sys2Proof.Machine.exec .pralineOpen s = .next t
      ∧ t.isReady .praline = true ∧ t.flag .FN_STATUS 4 = true)
  ∧ ∀ s : State, s.seqRuns = true → 5000000 ≤ s.up → s.startIs .failed = false →
      (s.su.everReady = false ∨ s.isReady .dict = false ∨ s.isReady .mailbox = false) →
    ∃ t, Sys2Proof.Machine.exec .startupWatchdog s = .next t
      ∧ t.su.failed = true ∧ t.su.arming = false ∧ t.startIs .failed = true ∧ t.seqRuns = false
      ∧ ∃ data, s.Logged t 0x04 0xFFFF data false

/-- OSC_START when it is due begins the arm with every group at N = 160. ISO_RELEASE once trim has ended, from 10 ms,
releases the isolation of every domain and sets ALIGNED. START_RAMP begins the ramp where no fault line awaits its
report. BLOCK_READY once the ramp has ended, from 25 ms, sets READY, counts the arm, ends the freeze and clears the
latch, or halts at once where JOB_RST_N is low. JOB_RESET_HALT after the first READY halts: READY clears, the job
reset is counted, and every mailbox is empty. WARM_REARM of a halted block with a reference begins the re-arm, ends
the alignment, or makes the block ready, whichever step is due. -/
def Obligations.ArmsRunFromStartToReady : Prop :=
  (∀ s : State, s.seqRuns = true → s.mayArm = true → s.su.arming = false → s.oscDue = true →
    ∃ t, Sys2Proof.Machine.exec .oscStart s = .next t
      ∧ t.su.arming = true ∧ t.startIs .arming = true ∧ t.su.markLaunched = true ∧ t.su.rearm = false
      ∧ ∀ g, g < s.rd .NUM_GROUPS → t.rd .GROUP_N g = 160 ∧ t.rd .GROUP_TARGET_N g = 160)
  ∧ (∀ s : State, s.trimmed = true → s.su.rearm = false → s.isReady .aligned = false → 10000 ≤ s.up →
    ∃ t, Sys2Proof.Machine.exec .isoRelease s = .next t
      ∧ t.isReady .aligned = true ∧ ∀ d, d < s.rd .NUM_DOMAINS → (t.d d).isoCore = false ∧ (t.d d).isoRtr = false)
  ∧ (∀ s : State, s.su.arming = true → s.su.repeatDue = false → s.su.rearm = false → s.su.ramping = false →
      s.isReady .aligned = true → s.isReady .mailbox = true → s.flt.lineAt = none →
    ∃ t, Sys2Proof.Machine.exec .startRamp s = .next t ∧ t.su.ramping = true ∧ t.startIs .ramping = true)
  ∧ (∀ s : State, s.rampEnded = true → s.su.rearm = false → 25000 ≤ s.up →
    ∃ t, Sys2Proof.Machine.exec .blockReady s = .next t
      ∧ t.su.everReady = true ∧ t.frozen = false ∧ t.rd .ARM_SEQ = (s.rd .ARM_SEQ + 1) % 2 ^ objBits .ARM_SEQ
      ∧ (s.su.jobRstN = true → t.isReady .ready = true ∧ t.startIs .ready = true ∧ t.digestLatched = false)
      ∧ (s.su.jobRstN = false → t.isReady .ready = false ∧ t.startIs .halted = true ∧ s.Counted t .JOB_RESETS))
  ∧ (∀ s : State, s.su.jobRstN = true →
    ∃ t, Sys2Proof.Machine.exec .jobResetHalt s = .next t ∧ t.su.jobRstN = false
      ∧ (s.su.everReady = true → t.isReady .ready = false ∧ t.startIs .halted = true ∧ t.su.halted = true
          ∧ s.Counted t .JOB_RESETS ∧ ∀ m, m < s.rd .NUM_MAILBOXES → (t.bx m).msgs = [] ∧ (t.bx m).rung = false)
      ∧ (s.su.everReady = false → t = { s with su := { s.su with jobRstN := false } }))
  ∧ (∀ s : State, s.startIs .halted = true → s.su.arming = false → s.mayArm = true →
    ∃ t, Sys2Proof.Machine.exec .warmRearm s = .next t
      ∧ t.su.jobRstN = true ∧ t.su.arming = true ∧ t.su.rearm = true ∧ t.startIs .arming = true
      ∧ ∀ g, g < s.rd .NUM_GROUPS → t.rd .GROUP_N g = 160)
  ∧ (∀ s : State, s.su.arming = true → s.su.rearm = true → s.su.ramping = false → s.trimmed = true → s.flt.lineAt = none →
    ∃ t, Sys2Proof.Machine.exec .warmRearm s = .next t
      ∧ t.isReady .aligned = true ∧ t.su.ramping = true ∧ t.startIs .ramping = true)
  ∧ ∀ s : State, s.su.rearm = true → s.su.repeatDue = false → s.rampEnded = true →
    ∃ t, Sys2Proof.Machine.exec .warmRearm s = .next t
      ∧ t.isReady .ready = true ∧ t.startIs .ready = true ∧ t.frozen = false ∧ t.su.jobRstN = true

/-- Outside a short stop of CTL the reports that arrive leave the way; in one, the spine holds them and nothing
changes. With no digest latched, the latch takes the digest of one of them that no other beats (lowest class, real
before injected, lowest element). With a digest latched and no arm in progress, the digest stays and a single report
counts as a later fault and is logged. A latched fault of a ready block asks for a job reset and waits. FAULT_LINE
freezes operating points outside a short stop. LINE_ONLY with nothing latched, outside a short stop, latches class
0x7F with the time the line arrived. -/
def Obligations.FirstFaultIsLatched : Prop :=
  (∀ (k : Nat) (s : State), s.refs.shortStop = false → s.digestLatched = false → s.flt.reports.take k ≠ [] →
    ∃ t, Sys2Proof.Machine.exec (.faultReport k) s = .next t
      ∧ ∃ r ∈ s.flt.reports.take k, t.rd .FAULT_DIGEST = r.digest ∧ ∀ x ∈ s.flt.reports.take k, x.beats r = false)
  ∧ (∀ (k : Nat) (s : State), s.refs.shortStop = true → Sys2Proof.Machine.exec (.faultReport k) s = .next s)
  ∧ (∀ (k : Nat) (r : FReport) (s : State), s.refs.shortStop = false → s.digestLatched = false →
      s.flt.reports.take k = [r] → s.su.arming = false → s.startIs .ready = true →
    ∃ t, Sys2Proof.Machine.exec (.faultReport k) s = .next t
      ∧ t.startIs .faultWait = true ∧ t.su.jobRstReq = true ∧ t.flt.reports = s.flt.reports.drop k
      ∧ t.rd .FAULT_TIME = r.time % 2 ^ 64 ∧ t.frozen = true)
  ∧ (∀ (k : Nat) (r : FReport) (s : State), s.refs.shortStop = false → s.digestLatched = true →
      s.flt.reports.take k = [r] → s.su.arming = false →
    ∃ t, Sys2Proof.Machine.exec (.faultReport k) s = .next t
      ∧ t.rd .FAULT_DIGEST = s.rd .FAULT_DIGEST ∧ s.Counted t .FAULT_LATER_COUNT
      ∧ s.Logged t 0x02 r.element (bits r.digest 48 16) r.injected ∧ t.flt.reports = s.flt.reports.drop k)
  ∧ (∀ s : State, s.flt.line = true → s.refs.shortStop = false →
    ∃ t, Sys2Proof.Machine.exec .faultLine s = .next t ∧ t.flt.line = false ∧ t.frozen = true)
  ∧ ∀ (at0 : Nat) (s : State), s.flt.lineAt = some at0 → s.digestLatched = false → s.refs.shortStop = false →
    ∃ t, Sys2Proof.Machine.exec .lineOnly s = .next t
      ∧ bits (t.rd .FAULT_DIGEST) 56 7 = 0x7F ∧ bits (t.rd .FAULT_DIGEST) 0 32 = bits at0 10 32
      ∧ t.rd .FAULT_TIME = at0 % 2 ^ 64 ∧ t.digestLatched = true

/-- (No injection in progress.) Where the receiving hop finds a sequence gap or a parity error in a message, or a
retransmission of it has failed before, a retransmission counts in SPINE_RETRANSMITS; without one of these nothing
changes. The sending hop keeps messages whose sequence numbers lie within its last 8, the one asked for among them. A
retransmission that arrives whole ends the message's tries; one that is lost, arrives with a parity error or is of a
message no longer kept counts a try, and the third reports class spineLink for the receiving hop, counts the failure
and ends the tries. One flipped bit of the 65 is a parity error, none is not. A parity error of a sequencer, or an
expiry of one that is out of idle beyond its limit and not held by a short stop, counts at its code: codes 1 to 3 and
5 to 7 report their class from the Conductor, code 4 from an implemented field's station, and codes 8 to 11 cause a
function reset, which is counted (code 8 with nothing waiting behind the accesses in flight); code 0 of a ready block
outside an arm is logged. ALERT_HOLD_EXPIRY past its time lets the pin follow the masked status. -/
def Obligations.LinksSequencersAndAlerts : Prop :=
  (∀ (a b : Nat × Nat) (m : HopMsg) (x : HopTry) (bad : Bool) (h k : Hop) (s : State), s.linked a b = true →
      s.inj.cur = none → h = Tab.get s.hop (hopKey a b) {} →
      x.gap = true ∨ parityError m.msg m.flips = true ∨ Tab.get h.failed m.seq 0 ≠ 0 →
      bad = (x.lost || parityError ((h.keep m.seq m.msg).word m) x.flips || !h.holds m.seq) →
    ∃ t, Sys2Proof.Machine.exec (.spineRetransmit a b m x) s = .next t
      ∧ s.Counted t .SPINE_RETRANSMITS
      ∧ (k = Tab.get t.hop (hopKey a b) {} →
          (∀ y ∈ k.kept, ∀ z ∈ k.kept, z.1 < y.1 + 8)
          ∧ (h.holds m.seq = true → (∀ y ∈ h.kept, y.1 ≠ m.seq) → (m.seq, m.msg % 2 ^ 64) ∈ k.kept)
          ∧ (bad = false → Tab.get k.failed m.seq 0 = 0 ∧ t.flt = s.flt)
          ∧ (bad = true → Tab.get h.failed m.seq 0 < 2 →
              Tab.get k.failed m.seq 0 = Tab.get h.failed m.seq 0 + 1 ∧ t.flt = s.flt)
          ∧ (bad = true → 2 ≤ Tab.get h.failed m.seq 0 →
              Tab.get k.failed m.seq 0 = 0 ∧ s.Counted t .SPINE_LINK_FAILS
                ∧ State.Faulted s t .spineLink b.1 b.2 x.gap.toNat false)))
  ∧ (∀ (a b : Nat × Nat) (m : HopMsg) (x : HopTry) (s : State), s.inj.cur = none → x.gap = false →
      parityError m.msg m.flips = false → Tab.get (Tab.get s.hop (hopKey a b) {}).failed m.seq 0 = 0 →
    Sys2Proof.Machine.exec (.spineRetransmit a b m x) s = .next s)
  ∧ (∀ msg : Nat, parityError msg 0 = false)
  ∧ (∀ msg i : Nat, i < 65 → parityError msg (2 ^ i) = true)
  ∧ (∀ (code elem us : Nat) (q : Seqr) (x : Obj × FaultClass × Instr) (s : State), s.seqAt code elem = some q →
      x ∈ [(Obj.SEQ_PARITY_ERRS, FaultClass.seqParity, Instr.seqParity code elem),
        (.WATCHDOG_EXPIRIES, .watchdog, .watchdog ⟨code, elem⟩ us)] →
      (x.1 = .WATCHDOG_EXPIRIES → s.seqBusy q = true ∧ s.seqHeld q = false ∧ q.limit < s.seqUs q us) →
      (code = 8 → s.ports.hostHeld = [] ∧ ∀ y ∈ s.dict.remote, y.flying = true) →
    ∃ t, Sys2Proof.Machine.exec x.2.2 s = .next t
      ∧ t.rd x.1 0 code = satAdd (objBits x.1) (s.rd x.1 0 code) 1
      ∧ (code ∈ [1, 2, 3, 5, 6, 7] → State.Faulted s t x.2.1 3 0 code false)
      ∧ (code = 4 → State.Faulted s t x.2.1 1 elem 4 false)
      ∧ (8 ≤ code → s.Counted t .FUNCTION_RESETS)
      ∧ (code = 0 → s.su.arming = false → s.su.everReady = true → s.Logged t 0x04 0xFFFF s.lastStep false))
  ∧ ∀ (at0 : Nat) (s : State), s.flt.alertHold = some at0 → at0 ≤ s.up →
    ∃ t, Sys2Proof.Machine.exec .alertHoldExpiry s = .next t
      ∧ (t.flt.alertN = true ↔ Nat.land (s.rd .ALERT_STATUS) (s.rd .ALERT_MASK) = 0)
      ∧ (s.flt.alertN = false → t.flt.alertHold = none)

/-- (No short stop of CTL for the PREPOS_OFFSET commands, and no RAM word flipped by an injection; PR_MAX_OCC and
PR_PREPOS_HOLD as of the last mark.) OCCURRENCE_TIMEOUT past PR_MAX_OCC discards the group's occurrence and counts it.
PREPOS_OFFSET_SET at its time, with Praline not idle for the group, sets each of its fields' offset for the tag, never
above the learned one. PREPOS_OFFSET_REMOVE at its time ends the pre-positioning, and every field's offset is 0.
EXPERT_UNLOCK_EXPIRY past its time clears EXPERT_UNLOCK. AUDIT_MERGE writes one audit record for each class and code
with refusals and begins a new 1 ms. AUDIT_SUMMARY at the end of a period with the dictionary ready counts, hands the
summaries to Fondant, and begins a new period in which nothing is counted yet. LC_TRANSITION of a target whose commit
is complete makes it the life-cycle state and ends the wait; into DEPLOYED or RETURNED the phase table is empty, and
into any state but DEPLOYED the budget exchange is not ready. LC_ARM_EXPIRY past its time disarms. -/
def Obligations.DeadlinesEndWhatTheyBound : Prop :=
  ((∀ (g : Nat) (o : Occ) (s : State), (s.g g).occ = some o → o.begun + 16000000 * s.markVal .PR_MAX_OCC ≤ s.T →
    ∃ t, Sys2Proof.Machine.exec (.occurrenceTimeout g) s = .next t
      ∧ (t.g g).occ = none ∧ s.Counted t .PR_DISCARDED g ∧ t.rd .PR_CUR_TAG g = 0xFFFF)
  ∧ (∀ (g at0 : Nat) (p : Prep) (s : State), (s.g g).prep = some p → p.setAt = some at0 → at0 ≤ s.T →
      s.pralineIdle g = false → s.refs.shortStop = false → s.inj.flips = [] →
    ∃ t, Sys2Proof.Machine.exec (.preposOffsetSet g) s = .next t
      ∧ (t.g g).prep = some { p with setAt := none }
      ∧ ∀ f ∈ s.groupFields g, (s.pe p.tag f).voff ≠ 0 → t.rd .PR_OFFSET f ≤ (s.pe p.tag f).voff)
  ∧ ∀ (g : Nat) (p : Prep) (s : State), (s.g g).prep = some p → s.refs.shortStop = false →
      p.begun.getD p.begin0 + 16000 * s.markVal .PR_PREPOS_HOLD ≤ s.T →
    ∃ t, Sys2Proof.Machine.exec (.preposOffsetRemove g) s = .next t
      ∧ (t.g g).prep = none ∧ ∀ f ∈ s.groupFields g, t.rd .PR_OFFSET f = 0)
  ∧ ((∀ (d : Nat) (s : State), s.dict.unlockUntil = some d → d ≤ s.up →
    ∃ t, Sys2Proof.Machine.exec .expertUnlockExpiry s = .next t
      ∧ t.rd .EXPERT_UNLOCK = 0 ∧ t.dict.unlockUntil = none)
  ∧ (∀ s : State, ∃ t, Sys2Proof.Machine.exec .auditMerge s = .next t
      ∧ t.dict.merged = [] ∧ t.dict.written = s.dict.written + s.dict.merged.length
      ∧ (s.dict.merged ≠ [] → t.rd .AUDIT_SEQ = (s.rd .AUDIT_SEQ + s.dict.merged.length) % 2 ^ objBits .AUDIT_SEQ))
  ∧ ∀ s : State, s.isReady .dict = true → s.dict.periodEnd ≤ s.up →
    ∃ t, Sys2Proof.Machine.exec .auditSummary s = .next t
      ∧ s.Counted t .AUDIT_SUMMARIES ∧ t.Asked .summaries
      ∧ t.dict.sumOk = [] ∧ t.dict.sumRefused = [] ∧ t.flt.sumCats = [] ∧ t.flt.sumFaults = 0
      ∧ t.dict.summarised = t.dict.written)
  ∧ ((∀ (x : Nat) (s : State), s.fon.target = some x → s.fon.transDone = true →
    ∃ t, Sys2Proof.Machine.exec .lcTransition s = .next t
      ∧ t.rd .LC_STATE = x % 2 ^ objBits .LC_STATE ∧ t.flag .LC_STATUS 2 = false
      ∧ t.fon.target = none ∧ t.fon.transDone = false
      ∧ (x = 2 ∨ x = 3 → t.phase = [])
      ∧ (x ≠ 2 → t.isReady .budget = false))
  ∧ ∀ (d : Nat) (s : State), s.fon.armUntil = some d → d ≤ s.up →
    ∃ t, Sys2Proof.Machine.exec .lcArmExpiry s = .next t ∧ t.fon.armUntil = none ∧ t.rd .LC_ARM = 0)

/-- In State.reset every object has its default (of the spec, or of the build); UNIT_READY shows AON and AON_INTERNAL
alone and CLOCK_SOURCE the internal oscillator; the block is not released and not warm; no digest is latched; the
queue and every record table are empty, the flash is blank, and every output signal of the block has its reset value.
(The blank flash is the model's choice, DESIGN CHOICE log 11.) -/
def Obligations.ResetState : Prop :=
  (∀ (o : Obj) (e i : Nat), State.reset.rd o e i = State.reset.dflt o e i)
  ∧ State.reset.rd .UNIT_READY = 0x20001 ∧ State.reset.rd .CLOCK_SOURCE = 0 ∧ State.reset.rd .START_STATE = 0
  ∧ State.reset.su.released = false ∧ State.reset.su.warm = false ∧ State.reset.digestLatched = false
  ∧ State.reset.pending = [] ∧ State.reset.T = 0 ∧ State.reset.up = 0 ∧ State.reset.flt.reports = []
  ∧ State.reset.rgn = [] ∧ State.reset.fld = [] ∧ State.reset.grp = [] ∧ State.reset.dom = [] ∧ State.reset.link = []
  ∧ State.reset.rail = [] ∧ State.reset.box = [] ∧ State.reset.phase = [] ∧ State.reset.flash.journal = []
  ∧ ∀ k, State.reset.pinsReset k = true
end

