-- ==== Sys2Proof/Laws/Addr.lean ====
section
/-! SUPPORT. The address of each object that has a row of its own, and where the effect of its write is found. -/

set_option Elab.async false

namespace Sys2Proof.Machine
open Sys2Proof

theorem addr_AGE_SAMPLE_REQ : objAt (info .AGE_SAMPLE_REQ).index ((info .AGE_SAMPLE_REQ).sub + 0) = some (.AGE_SAMPLE_REQ, 0) := by decide +kernel
theorem addr_ALERT_ACK : objAt (info .ALERT_ACK).index ((info .ALERT_ACK).sub + 0) = some (.ALERT_ACK, 0) := by decide +kernel
theorem addr_BX_EPOCH_LOAD : objAt (info .BX_EPOCH_LOAD).index ((info .BX_EPOCH_LOAD).sub + 0) = some (.BX_EPOCH_LOAD, 0) := by decide +kernel
theorem addr_CAL_RESET_REQ : objAt (info .CAL_RESET_REQ).index ((info .CAL_RESET_REQ).sub + 0) = some (.CAL_RESET_REQ, 0) := by decide +kernel
theorem addr_DOMAIN_TARGET : objAt (info .DOMAIN_TARGET).index ((info .DOMAIN_TARGET).sub + 0) = some (.DOMAIN_TARGET, 0) := by decide +kernel
theorem addr_DS_ENABLE : objAt (info .DS_ENABLE).index ((info .DS_ENABLE).sub + 0) = some (.DS_ENABLE, 0) := by decide +kernel
theorem addr_DS_QUARANTINE : objAt (info .DS_QUARANTINE).index ((info .DS_QUARANTINE).sub + 0) = some (.DS_QUARANTINE, 0) := by decide +kernel
theorem addr_EST_SHIFT : objAt (info .EST_SHIFT).index ((info .EST_SHIFT).sub + 0) = some (.EST_SHIFT, 0) := by decide +kernel
theorem addr_EST_WEIGHT_FACTORY : objAt (info .EST_WEIGHT_FACTORY).index ((info .EST_WEIGHT_FACTORY).sub + 0) = some (.EST_WEIGHT_FACTORY, 0) := by decide +kernel
theorem addr_EXPERT_UNLOCK : objAt (info .EXPERT_UNLOCK).index ((info .EXPERT_UNLOCK).sub + 0) = some (.EXPERT_UNLOCK, 0) := by decide +kernel
theorem addr_FIXED_RATE_ENABLE : objAt (info .FIXED_RATE_ENABLE).index ((info .FIXED_RATE_ENABLE).sub + 0) = some (.FIXED_RATE_ENABLE, 0) := by decide +kernel
theorem addr_FIXED_RATE_N : objAt (info .FIXED_RATE_N).index ((info .FIXED_RATE_N).sub + 0) = some (.FIXED_RATE_N, 0) := by decide +kernel
theorem addr_FN_FORMAT_REQ : objAt (info .FN_FORMAT_REQ).index ((info .FN_FORMAT_REQ).sub + 0) = some (.FN_FORMAT_REQ, 0) := by decide +kernel
theorem addr_FN_SNAP_REQ : objAt (info .FN_SNAP_REQ).index ((info .FN_SNAP_REQ).sub + 0) = some (.FN_SNAP_REQ, 0) := by decide +kernel
theorem addr_GROUP_SHARE : objAt (info .GROUP_SHARE).index ((info .GROUP_SHARE).sub + 0) = some (.GROUP_SHARE, 0) := by decide +kernel
theorem addr_INJ_ARM : objAt (info .INJ_ARM).index ((info .INJ_ARM).sub + 0) = some (.INJ_ARM, 0) := by decide +kernel
theorem addr_LC_ARM : objAt (info .LC_ARM).index ((info .LC_ARM).sub + 0) = some (.LC_ARM, 0) := by decide +kernel
theorem addr_LC_REQUEST : objAt (info .LC_REQUEST).index ((info .LC_REQUEST).sub + 0) = some (.LC_REQUEST, 0) := by decide +kernel
theorem addr_LOCK_FORCE : ∀ i, i < 64 →
    objAt (info .LOCK_FORCE).index ((info .LOCK_FORCE).sub + i) = some (.LOCK_FORCE, i) := by decide +kernel
theorem addr_OP_TABLE : objAt (info .OP_TABLE).index ((info .OP_TABLE).sub + 0) = some (.OP_TABLE, 0) := by decide +kernel
theorem addr_PERSIST_FLUSH : objAt (info .PERSIST_FLUSH).index ((info .PERSIST_FLUSH).sub + 0) = some (.PERSIST_FLUSH, 0) := by decide +kernel
theorem addr_PR_CLEAR : objAt (info .PR_CLEAR).index ((info .PR_CLEAR).sub + 0) = some (.PR_CLEAR, 0) := by decide +kernel
theorem addr_PR_POLICY : objAt (info .PR_POLICY).index ((info .PR_POLICY).sub + 0) = some (.PR_POLICY, 0) := by decide +kernel
theorem addr_PR_REARM : objAt (info .PR_REARM).index ((info .PR_REARM).sub + 0) = some (.PR_REARM, 0) := by decide +kernel
theorem addr_RAIL_RECOVER : objAt (info .RAIL_RECOVER).index ((info .RAIL_RECOVER).sub + 0) = some (.RAIL_RECOVER, 0) := by decide +kernel
theorem addr_REF_PREFER : objAt (info .REF_PREFER).index ((info .REF_PREFER).sub + 0) = some (.REF_PREFER, 0) := by decide +kernel
theorem addr_REGION_PARTITION : objAt (info .REGION_PARTITION).index ((info .REGION_PARTITION).sub + 0) = some (.REGION_PARTITION, 0) := by decide +kernel
theorem addr_REGION_TARGET_N : objAt (info .REGION_TARGET_N).index ((info .REGION_TARGET_N).sub + 0) = some (.REGION_TARGET_N, 0) := by decide +kernel
theorem addr_REPORT_SNAP_REQ : objAt (info .REPORT_SNAP_REQ).index ((info .REPORT_SNAP_REQ).sub + 0) = some (.REPORT_SNAP_REQ, 0) := by decide +kernel
theorem addr_RUN_CTL : objAt (info .RUN_CTL).index ((info .RUN_CTL).sub + 0) = some (.RUN_CTL, 0) := by decide +kernel
theorem addr_SELF_RESET_REQ : objAt (info .SELF_RESET_REQ).index ((info .SELF_RESET_REQ).sub + 0) = some (.SELF_RESET_REQ, 0) := by decide +kernel
theorem addr_TIME_OFFSET_ADJ : objAt (info .TIME_OFFSET_ADJ).index ((info .TIME_OFFSET_ADJ).sub + 0) = some (.TIME_OFFSET_ADJ, 0) := by decide +kernel
theorem addr_TIME_SET : objAt (info .TIME_SET).index ((info .TIME_SET).sub + 0) = some (.TIME_SET, 0) := by decide +kernel
theorem addr_XING_FENCE : objAt (info .XING_FENCE).index ((info .XING_FENCE).sub + 0) = some (.XING_FENCE, 0) := by decide +kernel

theorem State.effect_store {s : State} {o : Obj} {e i v : Nat} (h : isCommand o = false) : s.effect o e i v = s.store o e i v := by
  unfold State.effect
  rw [h]
  rfl

theorem State.effect_command {s : State} {o : Obj} {e i v : Nat} (h : isCommand o = true) (hf : (o == .PERSIST_FLUSH) = false) :
    s.effect o e i v = s.when (decide (v = 1 ∧ (o = .LC_ARM ∨ s.rd o e i = 0))) fun t => t.command o e i := by
  unfold State.effect
  rw [h, if_pos rfl, hf]
  by_cases hv : v = 1 ∧ (o = .LC_ARM ∨ s.rd o e i = 0)
  · rw [if_pos hv, decide_eq_true hv]
    rfl
  · rw [if_neg hv, decide_eq_false hv, Bool.and_false]
    rfl

theorem State.effect_flush {s : State} {e i v : Nat} :
    s.effect .PERSIST_FLUSH e i v =
      if v = 1 ∧ (Obj.PERSIST_FLUSH = .LC_ARM ∨ s.rd .PERSIST_FLUSH e i = 0) then s.command .PERSIST_FLUSH e i
      else s.when (v == 1 && Obj.PERSIST_FLUSH == .PERSIST_FLUSH) State.flushAgain := by
  unfold State.effect
  rfl

end Sys2Proof.Machine
end

