-- ==== Sys2Proof/Laws/KeepsBase.lean ====
section
/-! SUPPORT. What every operation keeps, one lemma for each operation over the state: a property that every write of an object or of
a table keeps, and that only the objects, the build, the tables and the queue decide. -/

set_option Elab.async false

namespace Sys2Proof.Machine

variable {P : State → Prop}

/-- A property that every write of an object or of a table keeps, and that only the objects, the build, the tables and
the queue decide. -/
structure Closed (P : State → Prop) : Prop where
  wr : ∀ {s : State} {o : Obj} {v e i : Nat}, P s → P (s.wr o v e i)
  drop : ∀ {s : State} {o : Obj}, P s → P { s with objs := s.objs.filter fun x => (Nat.unpair x.1).1 != o.ctorIdx }
  zero : ∀ {s : State}, P s → P { State.zero s.build with pending := s.pending }
  modR : ∀ {s : State} {n : Nat} {f : Rgn → Rgn}, P s → P (s.modR n f)
  modE : ∀ {s : State} {n : Nat} {f : Est → Est}, P s → P (s.modE n f)
  modLn : ∀ {s : State} {n i : Nat} {f : Lane → Lane}, P s → P (s.modLn n i f)
  modTs : ∀ {s : State} {n i : Nat} {f : Ts → Ts}, P s → P (s.modTs n i f)
  modC : ∀ {s : State} {n i : Nat} {f : Cell → Cell}, P s → P (s.modC n i f)
  modF : ∀ {s : State} {n : Nat} {f : Fld → Fld}, P s → P (s.modF n f)
  modG : ∀ {s : State} {n : Nat} {f : Grp → Grp}, P s → P (s.modG n f)
  modD : ∀ {s : State} {n : Nat} {f : Dom → Dom}, P s → P (s.modD n f)
  modL : ∀ {s : State} {n : Nat} {f : Link → Link}, P s → P (s.modL n f)
  modRa : ∀ {s : State} {n : Nat} {f : Rail → Rail}, P s → P (s.modRa n f)
  modBx : ∀ {s : State} {n : Nat} {f : Box → Box}, P s → P (s.modBx n f)
  hop : ∀ {s : State} {k : Nat} {v : Hop}, P s → P { s with hop := Tab.set s.hop k v {} }
  phase : ∀ {s : State} {k v : Nat}, P s → P { s with phase := Tab.set s.phase k v 0 }
  noPhase : ∀ {s : State}, P s → P { s with phase := [] }
  rest : ∀ {s t : State}, t.objs = s.objs → t.build = s.build → t.rgn = s.rgn → t.est = s.est → t.lane = s.lane →
    t.ts = s.ts → t.cell = s.cell → t.fld = s.fld → t.grp = s.grp → t.dom = s.dom → t.link = s.link →
    t.rail = s.rail → t.box = s.box → t.hop = s.hop → t.phase = s.phase → t.pending = s.pending → P s → P t

/-- A record update of other fields. -/
theorem Closed.lit (hc : Closed P) {s : State}
    {x0 : List Held} {x1 : Clock} {x2 : Refs} {x3 : StartUp} {x4 : FaultUnit} {x5 : Injection} {x6 : List Nat} {x7 :
    List Nat} {x8 : Option Nat} {x9 : RegionStop} {x10 : Caps} {x11 : Dict} {x12 : Nat} {x13 : Ports} {x14 : Energy}
    {x15 : Bx} {x16 : Idx} {x17 : Fdp} {x18 : Flash} {x19 : Fon} (h : P s) :
    P (State.mk s.build s.objs x0 x1 x2 x3 x4 x5 s.rgn s.est s.lane s.ts s.cell s.fld s.grp s.dom x6 x7 x8 s.link s.rail x9
      x10 x11 s.hop x12 s.box x13 x14 s.phase x15 x16 x17 x18 x19 s.pending) :=
  hc.rest (s := s) rfl rfl rfl rfl rfl rfl rfl rfl rfl rfl rfl rfl rfl rfl rfl rfl h

theorem some_kept {s : State} (h : P s) : ∀ t, some s = some t → P t :=
  fun _ ht => Option.some.inj ht ▸ h

theorem none_kept : ∀ t, (none : Option State) = some t → P t :=
  fun _ ht => (Option.some_ne_none _ ht.symm).elim

theorem next_kept {s : State} (h : P s) :
    ∀ t, (.next s : Host.Outcome State Fault Refusal) = .next t → P t :=
  fun _ ht => Host.Outcome.next.inj ht ▸ h

theorem kept_ite {c : Prop} [Decidable c] {a b : Host.Outcome State Fault Refusal} (ha : ∀ t, a = .next t → P t)
    (hb : ∀ t, b = .next t → P t) : ∀ t, (if c then a else b) = .next t → P t := by
  split
  · exact ha
  · exact hb

theorem State.each_kept {α : Type} {s : State} {l : List α} {f : State → α → State} (h : P s)
    (hf : ∀ t x, P t → P (f t x)) : P (s.each l f) := by
  induction l generalizing s with
  | nil => exact h
  | cons x r ih => exact ih (hf _ _ h)

theorem State.each_mem_kept {α : Type} {s : State} {l : List α} {f : State → α → State} (h : P s)
    (hf : ∀ t x, x ∈ l → P t → P (f t x)) : P (s.each l f) := by
  induction l generalizing s with
  | nil => exact h
  | cons x r ih => exact ih (hf _ _ List.mem_cons_self h) fun t y hy => hf t y (List.mem_cons_of_mem _ hy)

theorem State.when_kept {s : State} {b : Bool} {f : State → State} (h : P s) (hf : ∀ t, P t → P (f t)) :
    P (s.when b f) := by
  cases b
  · exact h
  · exact hf _ h

theorem State.wrInt_keeps (hc : Closed P) {s : State} {o : Obj} {z : Int} {e i : Nat} (h : P s) :
    P (s.wrInt o z e i) := hc.wr h
theorem State.wrSat_keeps (hc : Closed P) {s : State} {o : Obj} {z : Int} {e i : Nat} (h : P s) :
    P (s.wrSat o z e i) := hc.wr h
theorem State.add_keeps (hc : Closed P) {s : State} {o : Obj} {n e i : Nat} (h : P s) :
    P (s.add o n e i) := hc.wr h
theorem State.addWrap_keeps (hc : Closed P) {s : State} {o : Obj} {n e i : Nat} (h : P s) :
    P (s.addWrap o n e i) := hc.wr h
theorem State.inc_keeps (hc : Closed P) {s : State} {o : Obj} {e i : Nat} (h : P s) :
    P (s.inc o e i) := hc.wr h
theorem State.setFlag_keeps (hc : Closed P) {s : State} {o : Obj} {b : Nat} {v : Bool} {e : Nat} (h : P s) :
    P (s.setFlag o b v e) := hc.wr h
theorem State.wrBytes_keeps (hc : Closed P) {s : State} {o : Obj} {e off len x : Nat} (h : P s) :
    P (s.wrBytes o e off len x) := hc.wr h
theorem State.modR_keeps (hc : Closed P) {s : State} {n : Nat} {f : Rgn → Rgn} (h : P s) :
    P (s.modR n f) := hc.modR h
theorem State.modE_keeps (hc : Closed P) {s : State} {n : Nat} {f : Est → Est} (h : P s) :
    P (s.modE n f) := hc.modE h
theorem State.modLn_keeps (hc : Closed P) {s : State} {n i : Nat} {f : Lane → Lane} (h : P s) :
    P (s.modLn n i f) := hc.modLn h
theorem State.modTs_keeps (hc : Closed P) {s : State} {n i : Nat} {f : Ts → Ts} (h : P s) :
    P (s.modTs n i f) := hc.modTs h
theorem State.modC_keeps (hc : Closed P) {s : State} {n i : Nat} {f : Cell → Cell} (h : P s) :
    P (s.modC n i f) := hc.modC h
theorem State.modF_keeps (hc : Closed P) {s : State} {n : Nat} {f : Fld → Fld} (h : P s) :
    P (s.modF n f) := hc.modF h
theorem State.modG_keeps (hc : Closed P) {s : State} {n : Nat} {f : Grp → Grp} (h : P s) :
    P (s.modG n f) := hc.modG h
theorem State.modD_keeps (hc : Closed P) {s : State} {n : Nat} {f : Dom → Dom} (h : P s) :
    P (s.modD n f) := hc.modD h
theorem State.modL_keeps (hc : Closed P) {s : State} {n : Nat} {f : Link → Link} (h : P s) :
    P (s.modL n f) := hc.modL h
theorem State.modRa_keeps (hc : Closed P) {s : State} {n : Nat} {f : Rail → Rail} (h : P s) :
    P (s.modRa n f) := hc.modRa h
theorem State.modBx_keeps (hc : Closed P) {s : State} {n : Nat} {f : Box → Box} (h : P s) :
    P (s.modBx n f) := hc.modBx h
theorem State.free_keeps (hc : Closed P) {s : State} {a b : Nat} (h : P s) : P (s.free a b).2 := hc.lit h
theorem State.holdOld_keeps (hc : Closed P) {s : State} {o : Obj} {k e i : Nat} (h : P s) : P (s.holdOld o k e i) := hc.lit h
theorem State.newSpans_keeps (hc : Closed P) {s : State} (h : P s) : P s.newSpans := hc.lit h
theorem State.wrHeld_keeps (hc : Closed P) {s : State} {o : Obj} {v e i : Nat} (h : P s) : P (s.wrHeld o v e i) := by
  unfold State.wrHeld
  split
  · exact hc.wr (State.holdOld_keeps hc h)
  · exact hc.wr h


end Sys2Proof.Machine
end

