-- ==== Sys2Proof/Laws/Tab.lean ====
section
/-! SUPPORT. Sparse tables: what a read gives after a write, and that the canonical form is kept. -/

set_option Elab.async false

namespace Sys2Proof.Machine

variable {α : Type}

theorem Tab.get_del_self (t : Tab α) (k : Nat) (d : α) : Tab.get (Tab.del t k) k d = d := by
  induction t with
  | nil => rfl
  | cons x r ih =>
    obtain ⟨k', v⟩ := x
    by_cases h : k' = k <;> simp [Tab.del, Tab.get, h, ih]

theorem Tab.get_del_other (t : Tab α) {k j : Nat} (d : α) (h : j ≠ k) : Tab.get (Tab.del t k) j d = Tab.get t j d := by
  induction t with
  | nil => rfl
  | cons x r ih =>
    obtain ⟨k', v⟩ := x
    by_cases h1 : k' = k
    · subst h1
      simp [Tab.del, Tab.get, ih, Ne.symm h]
    · simp [Tab.del, Tab.get, h1, ih]

theorem Tab.get_put_self (t : Tab α) (k : Nat) (v d : α) : Tab.get (Tab.put t k v) k d = v := by
  induction t with
  | nil => simp [Tab.put, Tab.get]
  | cons x r ih =>
    obtain ⟨k', v'⟩ := x
    unfold Tab.put
    split
    · simp [Tab.get]
    · split
      · simp [Tab.get]
      · rename_i h; simp [Tab.get, h, ih]

theorem Tab.get_put_other (t : Tab α) {k j : Nat} (v d : α) (h : j ≠ k) : Tab.get (Tab.put t k v) j d = Tab.get t j d := by
  induction t with
  | nil => simp [Tab.put, Tab.get, Ne.symm h]
  | cons x r ih =>
    obtain ⟨k', v'⟩ := x
    unfold Tab.put
    split
    · simp [Tab.get, Ne.symm h]
    · split
      · rename_i h1; subst h1; simp [Tab.get, Ne.symm h]
      · simp [Tab.get, ih]

/-- A read of a table after a write. -/
theorem Tab.get_set [DecidableEq α] (t : Tab α) (k j : Nat) (v d : α) :
    Tab.get (Tab.set t k v d) j d = if j = k then v else Tab.get t j d := by
  unfold Tab.set
  split
  · split
    · subst_vars; exact Tab.get_del_self _ _ _
    · exact Tab.get_del_other _ _ ‹_›
  · split
    · subst_vars; exact Tab.get_put_self _ _ _ _
    · exact Tab.get_put_other _ _ _ ‹_›

@[simp] theorem Tab.get_set_self [DecidableEq α] (t : Tab α) (k : Nat) (v d : α) : Tab.get (Tab.set t k v d) k d = v := by
  simp [Tab.get_set]

/-- A write leaves every other key alone, whatever the default it is read with. -/
theorem Tab.get_set_other [DecidableEq α] (t : Tab α) {k j : Nat} (v d d' : α) (h : j ≠ k) :
    Tab.get (Tab.set t k v d) j d' = Tab.get t j d' := by
  unfold Tab.set
  split
  · exact Tab.get_del_other _ _ h
  · exact Tab.get_put_other _ _ _ h

@[simp] theorem Tab.get_nil (k : Nat) (d : α) : Tab.get ([] : Tab α) k d = d := rfl

/-! ### The canonical form -/

/-- The keys of a table rise strictly. -/
theorem Tab.rising_iff (t : Tab α) : Tab.rising t = true ↔ (t.map (·.1)).Pairwise (· < ·) := by
  induction t with
  | nil => simp [Tab.rising]
  | cons x r ih =>
    cases r with
    | nil => simp [Tab.rising]
    | cons y r' =>
      simp only [Tab.rising, Bool.and_eq_true, decide_eq_true_eq] at ih ⊢
      rw [ih]
      constructor
      · rintro ⟨h1, h2⟩
        refine List.pairwise_cons.2 ⟨?_, h2⟩
        intro a ha
        rcases List.mem_cons.1 ha with rfl | ha
        · exact h1
        · exact lt_trans h1 ((List.pairwise_cons.1 h2).1 a ha)
      · intro h
        have h' := List.pairwise_cons.1 h
        exact ⟨h'.1 _ (by simp), h'.2⟩

theorem Tab.mem_keys_del {t : Tab α} {k a : Nat} (h : a ∈ (Tab.del t k).map (·.1)) : a ∈ t.map (·.1) := by
  induction t with
  | nil => exact h
  | cons x r ih =>
    obtain ⟨k', v⟩ := x
    unfold Tab.del at h
    split at h
    · exact List.mem_cons_of_mem _ (ih h)
    · rcases List.mem_cons.1 h with h | h
      · simp [h]
      · exact List.mem_cons_of_mem _ (ih h)

theorem Tab.mem_keys_put {t : Tab α} {k a : Nat} {v : α} (h : a ∈ (Tab.put t k v).map (·.1)) :
    a = k ∨ a ∈ t.map (·.1) := by
  induction t with
  | nil => simpa [Tab.put] using h
  | cons x r ih =>
    obtain ⟨k', v'⟩ := x
    unfold Tab.put at h
    split at h
    · simpa using h
    · split at h
      · subst_vars; simpa using h
      · rcases List.mem_cons.1 h with h | h
        · right; simp [h]
        · rcases ih h with h | h
          · exact .inl h
          · right; exact List.mem_cons_of_mem _ h

theorem Tab.rising_del {t : Tab α} (k : Nat) (h : Tab.rising t = true) : Tab.rising (Tab.del t k) = true := by
  rw [Tab.rising_iff] at h ⊢
  induction t with
  | nil => exact h
  | cons x r ih =>
    obtain ⟨k', v⟩ := x
    rw [List.map_cons, List.pairwise_cons] at h
    unfold Tab.del
    split
    · exact ih h.2
    · rw [List.map_cons, List.pairwise_cons]
      exact ⟨fun a ha => h.1 a (Tab.mem_keys_del ha), ih h.2⟩

theorem Tab.rising_put {t : Tab α} (k : Nat) (v : α) (h : Tab.rising t = true) : Tab.rising (Tab.put t k v) = true := by
  rw [Tab.rising_iff] at h ⊢
  induction t with
  | nil => simp [Tab.put]
  | cons x r ih =>
    obtain ⟨k', v'⟩ := x
    have h0 := h
    rw [List.map_cons, List.pairwise_cons] at h
    unfold Tab.put
    split
    · rename_i hk
      rw [List.map_cons, List.pairwise_cons]
      refine ⟨?_, h0⟩
      intro a ha
      rcases List.mem_cons.1 ha with rfl | ha
      · exact hk
      · exact lt_trans hk (h.1 a ha)
    · split
      · subst_vars; exact h0
      · rename_i h1 h2
        rw [List.map_cons, List.pairwise_cons]
        refine ⟨?_, ih h.2⟩
        intro a ha
        rcases Tab.mem_keys_put ha with rfl | ha
        · simp only; omega
        · exact h.1 a ha

/-- A write keeps the keys rising. -/
theorem Tab.rising_set [DecidableEq α] {t : Tab α} (k : Nat) (v d : α) (h : Tab.rising t = true) :
    Tab.rising (Tab.set t k v d) = true := by
  unfold Tab.set
  split
  · exact Tab.rising_del k h
  · exact Tab.rising_put k v h

theorem Tab.sparse_del [DecidableEq α] {t : Tab α} (k : Nat) (d : α) (h : Tab.sparse t d = true) :
    Tab.sparse (Tab.del t k) d = true := by
  induction t with
  | nil => exact h
  | cons x r ih =>
    obtain ⟨k', v⟩ := x
    simp only [Tab.sparse, List.all_cons, Bool.and_eq_true] at h ih ⊢
    unfold Tab.del
    split
    · exact ih h.2
    · simp only [List.all_cons, Bool.and_eq_true]; exact ⟨h.1, ih h.2⟩

theorem Tab.sparse_put [DecidableEq α] {t : Tab α} (k : Nat) (v d : α) (hv : v ≠ d) (h : Tab.sparse t d = true) :
    Tab.sparse (Tab.put t k v) d = true := by
  induction t with
  | nil => simpa [Tab.put, Tab.sparse] using hv
  | cons x r ih =>
    obtain ⟨k', v'⟩ := x
    have h0 := h
    simp only [Tab.sparse, List.all_cons, Bool.and_eq_true] at h ih
    unfold Tab.put
    split
    · simp only [Tab.sparse, List.all_cons, Bool.and_eq_true]; exact ⟨by simpa using hv, h⟩
    · split
      · simp only [Tab.sparse, List.all_cons, Bool.and_eq_true]; exact ⟨by simpa using hv, h.2⟩
      · simp only [Tab.sparse, List.all_cons, Bool.and_eq_true]; exact ⟨h.1, ih h.2⟩

/-- A write lists no default. -/
theorem Tab.sparse_set [DecidableEq α] {t : Tab α} (k : Nat) (v d : α) (h : Tab.sparse t d = true) :
    Tab.sparse (Tab.set t k v d) d = true := by
  unfold Tab.set
  split
  · exact Tab.sparse_del k d h
  · exact Tab.sparse_put k v d ‹_› h

/-- A write keeps the canonical form. -/
theorem Tab.canon_set [DecidableEq α] {t : Tab α} (k : Nat) (v d : α) (h : Tab.canon t d = true) :
    Tab.canon (Tab.set t k v d) d = true := by
  simp only [Tab.canon, Bool.and_eq_true] at h ⊢
  exact ⟨Tab.rising_set k v d h.1, Tab.sparse_set k v d h.2⟩

@[simp] theorem Tab.canon_nil [DecidableEq α] (d : α) : Tab.canon ([] : Tab α) d = true := rfl

/-- What a write lists was listed before, or is what was written, which is not the default. -/
theorem Tab.mem_set [DecidableEq α] {t : Tab α} {k : Nat} {v d : α} {x : Nat × α} (h : x ∈ Tab.set t k v d) :
    x = (k, v) ∧ v ≠ d ∨ x ∈ t := by
  have del : ∀ t : Tab α, x ∈ Tab.del t k → x ∈ t := by
    intro t h
    induction t with
    | nil => exact h
    | cons y r ih =>
      unfold Tab.del at h
      split at h
      · exact List.mem_cons_of_mem _ (ih h)
      · rcases List.mem_cons.1 h with h | h
        · simp [h]
        · exact List.mem_cons_of_mem _ (ih h)
  have put : ∀ t : Tab α, x ∈ Tab.put t k v → x = (k, v) ∨ x ∈ t := by
    intro t h
    induction t with
    | nil => simpa [Tab.put] using h
    | cons y r ih =>
      unfold Tab.put at h
      split at h
      · simpa using h
      · split at h <;> rcases List.mem_cons.1 h with h | h
        · exact .inl h
        · exact .inr (List.mem_cons_of_mem _ h)
        · exact .inr (by simp [h])
        · exact (ih h).imp_right (List.mem_cons_of_mem _)
  unfold Tab.set at h
  split at h
  · exact .inr (del t h)
  · exact (put t h).imp_left fun e => ⟨e, ‹_›⟩

/-- Removing entries keeps the canonical form. -/
theorem Tab.canon_filter [DecidableEq α] {t : Tab α} {d : α} (q : Nat × α → Bool) (h : Tab.canon t d = true) :
    Tab.canon (List.filter q t) d = true := by
  simp only [Tab.canon, Bool.and_eq_true, Tab.rising_iff, Tab.sparse, List.all_eq_true] at h ⊢
  exact ⟨h.1.sublist (List.filter_sublist.map _), fun x hx => h.2 x (List.mem_of_mem_filter hx)⟩

end Sys2Proof.Machine
end

