-- ==== Sys2Proof/Laws/State.lean ====
section
/-! SUPPORT. What each named update leaves alone: one lemma per field per update, so that no proof unfolds a record update. -/

set_option Elab.async false

namespace Sys2Proof.Machine
open Sys2Proof

variable (s : State)

/-! ### modR -/

@[simp] theorem State.modR_build (n : Nat) (f : Rgn → Rgn) : (s.modR n f).build = s.build := rfl
@[simp] theorem State.modR_objs (n : Nat) (f : Rgn → Rgn) : (s.modR n f).objs = s.objs := rfl
@[simp] theorem State.modR_held (n : Nat) (f : Rgn → Rgn) : (s.modR n f).held = s.held := rfl
@[simp] theorem State.modR_clock (n : Nat) (f : Rgn → Rgn) : (s.modR n f).clock = s.clock := rfl
@[simp] theorem State.modR_refs (n : Nat) (f : Rgn → Rgn) : (s.modR n f).refs = s.refs := rfl
@[simp] theorem State.modR_su (n : Nat) (f : Rgn → Rgn) : (s.modR n f).su = s.su := rfl
@[simp] theorem State.modR_flt (n : Nat) (f : Rgn → Rgn) : (s.modR n f).flt = s.flt := rfl
@[simp] theorem State.modR_inj (n : Nat) (f : Rgn → Rgn) : (s.modR n f).inj = s.inj := rfl
@[simp] theorem State.modR_est (n : Nat) (f : Rgn → Rgn) : (s.modR n f).est = s.est := rfl
@[simp] theorem State.modR_lane (n : Nat) (f : Rgn → Rgn) : (s.modR n f).lane = s.lane := rfl
@[simp] theorem State.modR_ts (n : Nat) (f : Rgn → Rgn) : (s.modR n f).ts = s.ts := rfl
@[simp] theorem State.modR_cell (n : Nat) (f : Rgn → Rgn) : (s.modR n f).cell = s.cell := rfl
@[simp] theorem State.modR_fld (n : Nat) (f : Rgn → Rgn) : (s.modR n f).fld = s.fld := rfl
@[simp] theorem State.modR_grp (n : Nat) (f : Rgn → Rgn) : (s.modR n f).grp = s.grp := rfl
@[simp] theorem State.modR_dom (n : Nat) (f : Rgn → Rgn) : (s.modR n f).dom = s.dom := rfl
@[simp] theorem State.modR_pdWakes (n : Nat) (f : Rgn → Rgn) : (s.modR n f).pdWakes = s.pdWakes := rfl
@[simp] theorem State.modR_pdCmds (n : Nat) (f : Rgn → Rgn) : (s.modR n f).pdCmds = s.pdCmds := rfl
@[simp] theorem State.modR_pdLast (n : Nat) (f : Rgn → Rgn) : (s.modR n f).pdLast = s.pdLast := rfl
@[simp] theorem State.modR_link (n : Nat) (f : Rgn → Rgn) : (s.modR n f).link = s.link := rfl
@[simp] theorem State.modR_rail (n : Nat) (f : Rgn → Rgn) : (s.modR n f).rail = s.rail := rfl
@[simp] theorem State.modR_stop (n : Nat) (f : Rgn → Rgn) : (s.modR n f).stop = s.stop := rfl
@[simp] theorem State.modR_caps (n : Nat) (f : Rgn → Rgn) : (s.modR n f).caps = s.caps := rfl
@[simp] theorem State.modR_dict (n : Nat) (f : Rgn → Rgn) : (s.modR n f).dict = s.dict := rfl
@[simp] theorem State.modR_hop (n : Nat) (f : Rgn → Rgn) : (s.modR n f).hop = s.hop := rfl
@[simp] theorem State.modR_freeN (n : Nat) (f : Rgn → Rgn) : (s.modR n f).freeN = s.freeN := rfl
@[simp] theorem State.modR_box (n : Nat) (f : Rgn → Rgn) : (s.modR n f).box = s.box := rfl
@[simp] theorem State.modR_ports (n : Nat) (f : Rgn → Rgn) : (s.modR n f).ports = s.ports := rfl
@[simp] theorem State.modR_energy (n : Nat) (f : Rgn → Rgn) : (s.modR n f).energy = s.energy := rfl
@[simp] theorem State.modR_phase (n : Nat) (f : Rgn → Rgn) : (s.modR n f).phase = s.phase := rfl
@[simp] theorem State.modR_budget (n : Nat) (f : Rgn → Rgn) : (s.modR n f).budget = s.budget := rfl
@[simp] theorem State.modR_idx (n : Nat) (f : Rgn → Rgn) : (s.modR n f).idx = s.idx := rfl
@[simp] theorem State.modR_fdp (n : Nat) (f : Rgn → Rgn) : (s.modR n f).fdp = s.fdp := rfl
@[simp] theorem State.modR_flash (n : Nat) (f : Rgn → Rgn) : (s.modR n f).flash = s.flash := rfl
@[simp] theorem State.modR_fon (n : Nat) (f : Rgn → Rgn) : (s.modR n f).fon = s.fon := rfl
@[simp] theorem State.modR_pending (n : Nat) (f : Rgn → Rgn) : (s.modR n f).pending = s.pending := rfl

/-! ### modE -/

@[simp] theorem State.modE_build (n : Nat) (f : Est → Est) : (s.modE n f).build = s.build := rfl
@[simp] theorem State.modE_objs (n : Nat) (f : Est → Est) : (s.modE n f).objs = s.objs := rfl
@[simp] theorem State.modE_held (n : Nat) (f : Est → Est) : (s.modE n f).held = s.held := rfl
@[simp] theorem State.modE_clock (n : Nat) (f : Est → Est) : (s.modE n f).clock = s.clock := rfl
@[simp] theorem State.modE_refs (n : Nat) (f : Est → Est) : (s.modE n f).refs = s.refs := rfl
@[simp] theorem State.modE_su (n : Nat) (f : Est → Est) : (s.modE n f).su = s.su := rfl
@[simp] theorem State.modE_flt (n : Nat) (f : Est → Est) : (s.modE n f).flt = s.flt := rfl
@[simp] theorem State.modE_inj (n : Nat) (f : Est → Est) : (s.modE n f).inj = s.inj := rfl
@[simp] theorem State.modE_rgn (n : Nat) (f : Est → Est) : (s.modE n f).rgn = s.rgn := rfl
@[simp] theorem State.modE_lane (n : Nat) (f : Est → Est) : (s.modE n f).lane = s.lane := rfl
@[simp] theorem State.modE_ts (n : Nat) (f : Est → Est) : (s.modE n f).ts = s.ts := rfl
@[simp] theorem State.modE_cell (n : Nat) (f : Est → Est) : (s.modE n f).cell = s.cell := rfl
@[simp] theorem State.modE_fld (n : Nat) (f : Est → Est) : (s.modE n f).fld = s.fld := rfl
@[simp] theorem State.modE_grp (n : Nat) (f : Est → Est) : (s.modE n f).grp = s.grp := rfl
@[simp] theorem State.modE_dom (n : Nat) (f : Est → Est) : (s.modE n f).dom = s.dom := rfl
@[simp] theorem State.modE_pdWakes (n : Nat) (f : Est → Est) : (s.modE n f).pdWakes = s.pdWakes := rfl
@[simp] theorem State.modE_pdCmds (n : Nat) (f : Est → Est) : (s.modE n f).pdCmds = s.pdCmds := rfl
@[simp] theorem State.modE_pdLast (n : Nat) (f : Est → Est) : (s.modE n f).pdLast = s.pdLast := rfl
@[simp] theorem State.modE_link (n : Nat) (f : Est → Est) : (s.modE n f).link = s.link := rfl
@[simp] theorem State.modE_rail (n : Nat) (f : Est → Est) : (s.modE n f).rail = s.rail := rfl
@[simp] theorem State.modE_stop (n : Nat) (f : Est → Est) : (s.modE n f).stop = s.stop := rfl
@[simp] theorem State.modE_caps (n : Nat) (f : Est → Est) : (s.modE n f).caps = s.caps := rfl
@[simp] theorem State.modE_dict (n : Nat) (f : Est → Est) : (s.modE n f).dict = s.dict := rfl
@[simp] theorem State.modE_hop (n : Nat) (f : Est → Est) : (s.modE n f).hop = s.hop := rfl
@[simp] theorem State.modE_freeN (n : Nat) (f : Est → Est) : (s.modE n f).freeN = s.freeN := rfl
@[simp] theorem State.modE_box (n : Nat) (f : Est → Est) : (s.modE n f).box = s.box := rfl
@[simp] theorem State.modE_ports (n : Nat) (f : Est → Est) : (s.modE n f).ports = s.ports := rfl
@[simp] theorem State.modE_energy (n : Nat) (f : Est → Est) : (s.modE n f).energy = s.energy := rfl
@[simp] theorem State.modE_phase (n : Nat) (f : Est → Est) : (s.modE n f).phase = s.phase := rfl
@[simp] theorem State.modE_budget (n : Nat) (f : Est → Est) : (s.modE n f).budget = s.budget := rfl
@[simp] theorem State.modE_idx (n : Nat) (f : Est → Est) : (s.modE n f).idx = s.idx := rfl
@[simp] theorem State.modE_fdp (n : Nat) (f : Est → Est) : (s.modE n f).fdp = s.fdp := rfl
@[simp] theorem State.modE_flash (n : Nat) (f : Est → Est) : (s.modE n f).flash = s.flash := rfl
@[simp] theorem State.modE_fon (n : Nat) (f : Est → Est) : (s.modE n f).fon = s.fon := rfl
@[simp] theorem State.modE_pending (n : Nat) (f : Est → Est) : (s.modE n f).pending = s.pending := rfl

/-! ### modLn -/

@[simp] theorem State.modLn_build (n i : Nat) (f : Lane → Lane) : (s.modLn n i f).build = s.build := rfl
@[simp] theorem State.modLn_objs (n i : Nat) (f : Lane → Lane) : (s.modLn n i f).objs = s.objs := rfl
@[simp] theorem State.modLn_held (n i : Nat) (f : Lane → Lane) : (s.modLn n i f).held = s.held := rfl
@[simp] theorem State.modLn_clock (n i : Nat) (f : Lane → Lane) : (s.modLn n i f).clock = s.clock := rfl
@[simp] theorem State.modLn_refs (n i : Nat) (f : Lane → Lane) : (s.modLn n i f).refs = s.refs := rfl
@[simp] theorem State.modLn_su (n i : Nat) (f : Lane → Lane) : (s.modLn n i f).su = s.su := rfl
@[simp] theorem State.modLn_flt (n i : Nat) (f : Lane → Lane) : (s.modLn n i f).flt = s.flt := rfl
@[simp] theorem State.modLn_inj (n i : Nat) (f : Lane → Lane) : (s.modLn n i f).inj = s.inj := rfl
@[simp] theorem State.modLn_rgn (n i : Nat) (f : Lane → Lane) : (s.modLn n i f).rgn = s.rgn := rfl
@[simp] theorem State.modLn_est (n i : Nat) (f : Lane → Lane) : (s.modLn n i f).est = s.est := rfl
@[simp] theorem State.modLn_ts (n i : Nat) (f : Lane → Lane) : (s.modLn n i f).ts = s.ts := rfl
@[simp] theorem State.modLn_cell (n i : Nat) (f : Lane → Lane) : (s.modLn n i f).cell = s.cell := rfl
@[simp] theorem State.modLn_fld (n i : Nat) (f : Lane → Lane) : (s.modLn n i f).fld = s.fld := rfl
@[simp] theorem State.modLn_grp (n i : Nat) (f : Lane → Lane) : (s.modLn n i f).grp = s.grp := rfl
@[simp] theorem State.modLn_dom (n i : Nat) (f : Lane → Lane) : (s.modLn n i f).dom = s.dom := rfl
@[simp] theorem State.modLn_pdWakes (n i : Nat) (f : Lane → Lane) : (s.modLn n i f).pdWakes = s.pdWakes := rfl
@[simp] theorem State.modLn_pdCmds (n i : Nat) (f : Lane → Lane) : (s.modLn n i f).pdCmds = s.pdCmds := rfl
@[simp] theorem State.modLn_pdLast (n i : Nat) (f : Lane → Lane) : (s.modLn n i f).pdLast = s.pdLast := rfl
@[simp] theorem State.modLn_link (n i : Nat) (f : Lane → Lane) : (s.modLn n i f).link = s.link := rfl
@[simp] theorem State.modLn_rail (n i : Nat) (f : Lane → Lane) : (s.modLn n i f).rail = s.rail := rfl
@[simp] theorem State.modLn_stop (n i : Nat) (f : Lane → Lane) : (s.modLn n i f).stop = s.stop := rfl
@[simp] theorem State.modLn_caps (n i : Nat) (f : Lane → Lane) : (s.modLn n i f).caps = s.caps := rfl
@[simp] theorem State.modLn_dict (n i : Nat) (f : Lane → Lane) : (s.modLn n i f).dict = s.dict := rfl
@[simp] theorem State.modLn_hop (n i : Nat) (f : Lane → Lane) : (s.modLn n i f).hop = s.hop := rfl
@[simp] theorem State.modLn_freeN (n i : Nat) (f : Lane → Lane) : (s.modLn n i f).freeN = s.freeN := rfl
@[simp] theorem State.modLn_box (n i : Nat) (f : Lane → Lane) : (s.modLn n i f).box = s.box := rfl
@[simp] theorem State.modLn_ports (n i : Nat) (f : Lane → Lane) : (s.modLn n i f).ports = s.ports := rfl
@[simp] theorem State.modLn_energy (n i : Nat) (f : Lane → Lane) : (s.modLn n i f).energy = s.energy := rfl
@[simp] theorem State.modLn_phase (n i : Nat) (f : Lane → Lane) : (s.modLn n i f).phase = s.phase := rfl
@[simp] theorem State.modLn_budget (n i : Nat) (f : Lane → Lane) : (s.modLn n i f).budget = s.budget := rfl
@[simp] theorem State.modLn_idx (n i : Nat) (f : Lane → Lane) : (s.modLn n i f).idx = s.idx := rfl
@[simp] theorem State.modLn_fdp (n i : Nat) (f : Lane → Lane) : (s.modLn n i f).fdp = s.fdp := rfl
@[simp] theorem State.modLn_flash (n i : Nat) (f : Lane → Lane) : (s.modLn n i f).flash = s.flash := rfl
@[simp] theorem State.modLn_fon (n i : Nat) (f : Lane → Lane) : (s.modLn n i f).fon = s.fon := rfl
@[simp] theorem State.modLn_pending (n i : Nat) (f : Lane → Lane) : (s.modLn n i f).pending = s.pending := rfl

/-! ### modTs -/

@[simp] theorem State.modTs_build (n i : Nat) (f : Ts → Ts) : (s.modTs n i f).build = s.build := rfl
@[simp] theorem State.modTs_objs (n i : Nat) (f : Ts → Ts) : (s.modTs n i f).objs = s.objs := rfl
@[simp] theorem State.modTs_held (n i : Nat) (f : Ts → Ts) : (s.modTs n i f).held = s.held := rfl
@[simp] theorem State.modTs_clock (n i : Nat) (f : Ts → Ts) : (s.modTs n i f).clock = s.clock := rfl
@[simp] theorem State.modTs_refs (n i : Nat) (f : Ts → Ts) : (s.modTs n i f).refs = s.refs := rfl
@[simp] theorem State.modTs_su (n i : Nat) (f : Ts → Ts) : (s.modTs n i f).su = s.su := rfl
@[simp] theorem State.modTs_flt (n i : Nat) (f : Ts → Ts) : (s.modTs n i f).flt = s.flt := rfl
@[simp] theorem State.modTs_inj (n i : Nat) (f : Ts → Ts) : (s.modTs n i f).inj = s.inj := rfl
@[simp] theorem State.modTs_rgn (n i : Nat) (f : Ts → Ts) : (s.modTs n i f).rgn = s.rgn := rfl
@[simp] theorem State.modTs_est (n i : Nat) (f : Ts → Ts) : (s.modTs n i f).est = s.est := rfl
@[simp] theorem State.modTs_lane (n i : Nat) (f : Ts → Ts) : (s.modTs n i f).lane = s.lane := rfl
@[simp] theorem State.modTs_cell (n i : Nat) (f : Ts → Ts) : (s.modTs n i f).cell = s.cell := rfl
@[simp] theorem State.modTs_fld (n i : Nat) (f : Ts → Ts) : (s.modTs n i f).fld = s.fld := rfl
@[simp] theorem State.modTs_grp (n i : Nat) (f : Ts → Ts) : (s.modTs n i f).grp = s.grp := rfl
@[simp] theorem State.modTs_dom (n i : Nat) (f : Ts → Ts) : (s.modTs n i f).dom = s.dom := rfl
@[simp] theorem State.modTs_pdWakes (n i : Nat) (f : Ts → Ts) : (s.modTs n i f).pdWakes = s.pdWakes := rfl
@[simp] theorem State.modTs_pdCmds (n i : Nat) (f : Ts → Ts) : (s.modTs n i f).pdCmds = s.pdCmds := rfl
@[simp] theorem State.modTs_pdLast (n i : Nat) (f : Ts → Ts) : (s.modTs n i f).pdLast = s.pdLast := rfl
@[simp] theorem State.modTs_link (n i : Nat) (f : Ts → Ts) : (s.modTs n i f).link = s.link := rfl
@[simp] theorem State.modTs_rail (n i : Nat) (f : Ts → Ts) : (s.modTs n i f).rail = s.rail := rfl
@[simp] theorem State.modTs_stop (n i : Nat) (f : Ts → Ts) : (s.modTs n i f).stop = s.stop := rfl
@[simp] theorem State.modTs_caps (n i : Nat) (f : Ts → Ts) : (s.modTs n i f).caps = s.caps := rfl
@[simp] theorem State.modTs_dict (n i : Nat) (f : Ts → Ts) : (s.modTs n i f).dict = s.dict := rfl
@[simp] theorem State.modTs_hop (n i : Nat) (f : Ts → Ts) : (s.modTs n i f).hop = s.hop := rfl
@[simp] theorem State.modTs_freeN (n i : Nat) (f : Ts → Ts) : (s.modTs n i f).freeN = s.freeN := rfl
@[simp] theorem State.modTs_box (n i : Nat) (f : Ts → Ts) : (s.modTs n i f).box = s.box := rfl
@[simp] theorem State.modTs_ports (n i : Nat) (f : Ts → Ts) : (s.modTs n i f).ports = s.ports := rfl
@[simp] theorem State.modTs_energy (n i : Nat) (f : Ts → Ts) : (s.modTs n i f).energy = s.energy := rfl
@[simp] theorem State.modTs_phase (n i : Nat) (f : Ts → Ts) : (s.modTs n i f).phase = s.phase := rfl
@[simp] theorem State.modTs_budget (n i : Nat) (f : Ts → Ts) : (s.modTs n i f).budget = s.budget := rfl
@[simp] theorem State.modTs_idx (n i : Nat) (f : Ts → Ts) : (s.modTs n i f).idx = s.idx := rfl
@[simp] theorem State.modTs_fdp (n i : Nat) (f : Ts → Ts) : (s.modTs n i f).fdp = s.fdp := rfl
@[simp] theorem State.modTs_flash (n i : Nat) (f : Ts → Ts) : (s.modTs n i f).flash = s.flash := rfl
@[simp] theorem State.modTs_fon (n i : Nat) (f : Ts → Ts) : (s.modTs n i f).fon = s.fon := rfl
@[simp] theorem State.modTs_pending (n i : Nat) (f : Ts → Ts) : (s.modTs n i f).pending = s.pending := rfl

/-! ### modC -/

@[simp] theorem State.modC_build (n e : Nat) (f : Cell → Cell) : (s.modC n e f).build = s.build := rfl
@[simp] theorem State.modC_objs (n e : Nat) (f : Cell → Cell) : (s.modC n e f).objs = s.objs := rfl
@[simp] theorem State.modC_held (n e : Nat) (f : Cell → Cell) : (s.modC n e f).held = s.held := rfl
@[simp] theorem State.modC_clock (n e : Nat) (f : Cell → Cell) : (s.modC n e f).clock = s.clock := rfl
@[simp] theorem State.modC_refs (n e : Nat) (f : Cell → Cell) : (s.modC n e f).refs = s.refs := rfl
@[simp] theorem State.modC_su (n e : Nat) (f : Cell → Cell) : (s.modC n e f).su = s.su := rfl
@[simp] theorem State.modC_flt (n e : Nat) (f : Cell → Cell) : (s.modC n e f).flt = s.flt := rfl
@[simp] theorem State.modC_inj (n e : Nat) (f : Cell → Cell) : (s.modC n e f).inj = s.inj := rfl
@[simp] theorem State.modC_rgn (n e : Nat) (f : Cell → Cell) : (s.modC n e f).rgn = s.rgn := rfl
@[simp] theorem State.modC_est (n e : Nat) (f : Cell → Cell) : (s.modC n e f).est = s.est := rfl
@[simp] theorem State.modC_lane (n e : Nat) (f : Cell → Cell) : (s.modC n e f).lane = s.lane := rfl
@[simp] theorem State.modC_ts (n e : Nat) (f : Cell → Cell) : (s.modC n e f).ts = s.ts := rfl
@[simp] theorem State.modC_fld (n e : Nat) (f : Cell → Cell) : (s.modC n e f).fld = s.fld := rfl
@[simp] theorem State.modC_grp (n e : Nat) (f : Cell → Cell) : (s.modC n e f).grp = s.grp := rfl
@[simp] theorem State.modC_dom (n e : Nat) (f : Cell → Cell) : (s.modC n e f).dom = s.dom := rfl
@[simp] theorem State.modC_pdWakes (n e : Nat) (f : Cell → Cell) : (s.modC n e f).pdWakes = s.pdWakes := rfl
@[simp] theorem State.modC_pdCmds (n e : Nat) (f : Cell → Cell) : (s.modC n e f).pdCmds = s.pdCmds := rfl
@[simp] theorem State.modC_pdLast (n e : Nat) (f : Cell → Cell) : (s.modC n e f).pdLast = s.pdLast := rfl
@[simp] theorem State.modC_link (n e : Nat) (f : Cell → Cell) : (s.modC n e f).link = s.link := rfl
@[simp] theorem State.modC_rail (n e : Nat) (f : Cell → Cell) : (s.modC n e f).rail = s.rail := rfl
@[simp] theorem State.modC_stop (n e : Nat) (f : Cell → Cell) : (s.modC n e f).stop = s.stop := rfl
@[simp] theorem State.modC_caps (n e : Nat) (f : Cell → Cell) : (s.modC n e f).caps = s.caps := rfl
@[simp] theorem State.modC_dict (n e : Nat) (f : Cell → Cell) : (s.modC n e f).dict = s.dict := rfl
@[simp] theorem State.modC_hop (n e : Nat) (f : Cell → Cell) : (s.modC n e f).hop = s.hop := rfl
@[simp] theorem State.modC_freeN (n e : Nat) (f : Cell → Cell) : (s.modC n e f).freeN = s.freeN := rfl
@[simp] theorem State.modC_box (n e : Nat) (f : Cell → Cell) : (s.modC n e f).box = s.box := rfl
@[simp] theorem State.modC_ports (n e : Nat) (f : Cell → Cell) : (s.modC n e f).ports = s.ports := rfl
@[simp] theorem State.modC_energy (n e : Nat) (f : Cell → Cell) : (s.modC n e f).energy = s.energy := rfl
@[simp] theorem State.modC_phase (n e : Nat) (f : Cell → Cell) : (s.modC n e f).phase = s.phase := rfl
@[simp] theorem State.modC_budget (n e : Nat) (f : Cell → Cell) : (s.modC n e f).budget = s.budget := rfl
@[simp] theorem State.modC_idx (n e : Nat) (f : Cell → Cell) : (s.modC n e f).idx = s.idx := rfl
@[simp] theorem State.modC_fdp (n e : Nat) (f : Cell → Cell) : (s.modC n e f).fdp = s.fdp := rfl
@[simp] theorem State.modC_flash (n e : Nat) (f : Cell → Cell) : (s.modC n e f).flash = s.flash := rfl
@[simp] theorem State.modC_fon (n e : Nat) (f : Cell → Cell) : (s.modC n e f).fon = s.fon := rfl
@[simp] theorem State.modC_pending (n e : Nat) (f : Cell → Cell) : (s.modC n e f).pending = s.pending := rfl

/-! ### modF -/

@[simp] theorem State.modF_build (i : Nat) (f : Fld → Fld) : (s.modF i f).build = s.build := rfl
@[simp] theorem State.modF_objs (i : Nat) (f : Fld → Fld) : (s.modF i f).objs = s.objs := rfl
@[simp] theorem State.modF_held (i : Nat) (f : Fld → Fld) : (s.modF i f).held = s.held := rfl
@[simp] theorem State.modF_clock (i : Nat) (f : Fld → Fld) : (s.modF i f).clock = s.clock := rfl
@[simp] theorem State.modF_refs (i : Nat) (f : Fld → Fld) : (s.modF i f).refs = s.refs := rfl
@[simp] theorem State.modF_su (i : Nat) (f : Fld → Fld) : (s.modF i f).su = s.su := rfl
@[simp] theorem State.modF_flt (i : Nat) (f : Fld → Fld) : (s.modF i f).flt = s.flt := rfl
@[simp] theorem State.modF_inj (i : Nat) (f : Fld → Fld) : (s.modF i f).inj = s.inj := rfl
@[simp] theorem State.modF_rgn (i : Nat) (f : Fld → Fld) : (s.modF i f).rgn = s.rgn := rfl
@[simp] theorem State.modF_est (i : Nat) (f : Fld → Fld) : (s.modF i f).est = s.est := rfl
@[simp] theorem State.modF_lane (i : Nat) (f : Fld → Fld) : (s.modF i f).lane = s.lane := rfl
@[simp] theorem State.modF_ts (i : Nat) (f : Fld → Fld) : (s.modF i f).ts = s.ts := rfl
@[simp] theorem State.modF_cell (i : Nat) (f : Fld → Fld) : (s.modF i f).cell = s.cell := rfl
@[simp] theorem State.modF_grp (i : Nat) (f : Fld → Fld) : (s.modF i f).grp = s.grp := rfl
@[simp] theorem State.modF_dom (i : Nat) (f : Fld → Fld) : (s.modF i f).dom = s.dom := rfl
@[simp] theorem State.modF_pdWakes (i : Nat) (f : Fld → Fld) : (s.modF i f).pdWakes = s.pdWakes := rfl
@[simp] theorem State.modF_pdCmds (i : Nat) (f : Fld → Fld) : (s.modF i f).pdCmds = s.pdCmds := rfl
@[simp] theorem State.modF_pdLast (i : Nat) (f : Fld → Fld) : (s.modF i f).pdLast = s.pdLast := rfl
@[simp] theorem State.modF_link (i : Nat) (f : Fld → Fld) : (s.modF i f).link = s.link := rfl
@[simp] theorem State.modF_rail (i : Nat) (f : Fld → Fld) : (s.modF i f).rail = s.rail := rfl
@[simp] theorem State.modF_stop (i : Nat) (f : Fld → Fld) : (s.modF i f).stop = s.stop := rfl
@[simp] theorem State.modF_caps (i : Nat) (f : Fld → Fld) : (s.modF i f).caps = s.caps := rfl
@[simp] theorem State.modF_dict (i : Nat) (f : Fld → Fld) : (s.modF i f).dict = s.dict := rfl
@[simp] theorem State.modF_hop (i : Nat) (f : Fld → Fld) : (s.modF i f).hop = s.hop := rfl
@[simp] theorem State.modF_freeN (i : Nat) (f : Fld → Fld) : (s.modF i f).freeN = s.freeN := rfl
@[simp] theorem State.modF_box (i : Nat) (f : Fld → Fld) : (s.modF i f).box = s.box := rfl
@[simp] theorem State.modF_ports (i : Nat) (f : Fld → Fld) : (s.modF i f).ports = s.ports := rfl
@[simp] theorem State.modF_energy (i : Nat) (f : Fld → Fld) : (s.modF i f).energy = s.energy := rfl
@[simp] theorem State.modF_phase (i : Nat) (f : Fld → Fld) : (s.modF i f).phase = s.phase := rfl
@[simp] theorem State.modF_budget (i : Nat) (f : Fld → Fld) : (s.modF i f).budget = s.budget := rfl
@[simp] theorem State.modF_idx (i : Nat) (f : Fld → Fld) : (s.modF i f).idx = s.idx := rfl
@[simp] theorem State.modF_fdp (i : Nat) (f : Fld → Fld) : (s.modF i f).fdp = s.fdp := rfl
@[simp] theorem State.modF_flash (i : Nat) (f : Fld → Fld) : (s.modF i f).flash = s.flash := rfl
@[simp] theorem State.modF_fon (i : Nat) (f : Fld → Fld) : (s.modF i f).fon = s.fon := rfl
@[simp] theorem State.modF_pending (i : Nat) (f : Fld → Fld) : (s.modF i f).pending = s.pending := rfl

/-! ### modG -/

@[simp] theorem State.modG_build (i : Nat) (f : Grp → Grp) : (s.modG i f).build = s.build := rfl
@[simp] theorem State.modG_objs (i : Nat) (f : Grp → Grp) : (s.modG i f).objs = s.objs := rfl
@[simp] theorem State.modG_held (i : Nat) (f : Grp → Grp) : (s.modG i f).held = s.held := rfl
@[simp] theorem State.modG_clock (i : Nat) (f : Grp → Grp) : (s.modG i f).clock = s.clock := rfl
@[simp] theorem State.modG_refs (i : Nat) (f : Grp → Grp) : (s.modG i f).refs = s.refs := rfl
@[simp] theorem State.modG_su (i : Nat) (f : Grp → Grp) : (s.modG i f).su = s.su := rfl
@[simp] theorem State.modG_flt (i : Nat) (f : Grp → Grp) : (s.modG i f).flt = s.flt := rfl
@[simp] theorem State.modG_inj (i : Nat) (f : Grp → Grp) : (s.modG i f).inj = s.inj := rfl
@[simp] theorem State.modG_rgn (i : Nat) (f : Grp → Grp) : (s.modG i f).rgn = s.rgn := rfl
@[simp] theorem State.modG_est (i : Nat) (f : Grp → Grp) : (s.modG i f).est = s.est := rfl
@[simp] theorem State.modG_lane (i : Nat) (f : Grp → Grp) : (s.modG i f).lane = s.lane := rfl
@[simp] theorem State.modG_ts (i : Nat) (f : Grp → Grp) : (s.modG i f).ts = s.ts := rfl
@[simp] theorem State.modG_cell (i : Nat) (f : Grp → Grp) : (s.modG i f).cell = s.cell := rfl
@[simp] theorem State.modG_fld (i : Nat) (f : Grp → Grp) : (s.modG i f).fld = s.fld := rfl
@[simp] theorem State.modG_dom (i : Nat) (f : Grp → Grp) : (s.modG i f).dom = s.dom := rfl
@[simp] theorem State.modG_pdWakes (i : Nat) (f : Grp → Grp) : (s.modG i f).pdWakes = s.pdWakes := rfl
@[simp] theorem State.modG_pdCmds (i : Nat) (f : Grp → Grp) : (s.modG i f).pdCmds = s.pdCmds := rfl
@[simp] theorem State.modG_pdLast (i : Nat) (f : Grp → Grp) : (s.modG i f).pdLast = s.pdLast := rfl
@[simp] theorem State.modG_link (i : Nat) (f : Grp → Grp) : (s.modG i f).link = s.link := rfl
@[simp] theorem State.modG_rail (i : Nat) (f : Grp → Grp) : (s.modG i f).rail = s.rail := rfl
@[simp] theorem State.modG_stop (i : Nat) (f : Grp → Grp) : (s.modG i f).stop = s.stop := rfl
@[simp] theorem State.modG_caps (i : Nat) (f : Grp → Grp) : (s.modG i f).caps = s.caps := rfl
@[simp] theorem State.modG_dict (i : Nat) (f : Grp → Grp) : (s.modG i f).dict = s.dict := rfl
@[simp] theorem State.modG_hop (i : Nat) (f : Grp → Grp) : (s.modG i f).hop = s.hop := rfl
@[simp] theorem State.modG_freeN (i : Nat) (f : Grp → Grp) : (s.modG i f).freeN = s.freeN := rfl
@[simp] theorem State.modG_box (i : Nat) (f : Grp → Grp) : (s.modG i f).box = s.box := rfl
@[simp] theorem State.modG_ports (i : Nat) (f : Grp → Grp) : (s.modG i f).ports = s.ports := rfl
@[simp] theorem State.modG_energy (i : Nat) (f : Grp → Grp) : (s.modG i f).energy = s.energy := rfl
@[simp] theorem State.modG_phase (i : Nat) (f : Grp → Grp) : (s.modG i f).phase = s.phase := rfl
@[simp] theorem State.modG_budget (i : Nat) (f : Grp → Grp) : (s.modG i f).budget = s.budget := rfl
@[simp] theorem State.modG_idx (i : Nat) (f : Grp → Grp) : (s.modG i f).idx = s.idx := rfl
@[simp] theorem State.modG_fdp (i : Nat) (f : Grp → Grp) : (s.modG i f).fdp = s.fdp := rfl
@[simp] theorem State.modG_flash (i : Nat) (f : Grp → Grp) : (s.modG i f).flash = s.flash := rfl
@[simp] theorem State.modG_fon (i : Nat) (f : Grp → Grp) : (s.modG i f).fon = s.fon := rfl
@[simp] theorem State.modG_pending (i : Nat) (f : Grp → Grp) : (s.modG i f).pending = s.pending := rfl

/-! ### modD -/

@[simp] theorem State.modD_build (i : Nat) (f : Dom → Dom) : (s.modD i f).build = s.build := rfl
@[simp] theorem State.modD_objs (i : Nat) (f : Dom → Dom) : (s.modD i f).objs = s.objs := rfl
@[simp] theorem State.modD_held (i : Nat) (f : Dom → Dom) : (s.modD i f).held = s.held := rfl
@[simp] theorem State.modD_clock (i : Nat) (f : Dom → Dom) : (s.modD i f).clock = s.clock := rfl
@[simp] theorem State.modD_refs (i : Nat) (f : Dom → Dom) : (s.modD i f).refs = s.refs := rfl
@[simp] theorem State.modD_su (i : Nat) (f : Dom → Dom) : (s.modD i f).su = s.su := rfl
@[simp] theorem State.modD_flt (i : Nat) (f : Dom → Dom) : (s.modD i f).flt = s.flt := rfl
@[simp] theorem State.modD_inj (i : Nat) (f : Dom → Dom) : (s.modD i f).inj = s.inj := rfl
@[simp] theorem State.modD_rgn (i : Nat) (f : Dom → Dom) : (s.modD i f).rgn = s.rgn := rfl
@[simp] theorem State.modD_est (i : Nat) (f : Dom → Dom) : (s.modD i f).est = s.est := rfl
@[simp] theorem State.modD_lane (i : Nat) (f : Dom → Dom) : (s.modD i f).lane = s.lane := rfl
@[simp] theorem State.modD_ts (i : Nat) (f : Dom → Dom) : (s.modD i f).ts = s.ts := rfl
@[simp] theorem State.modD_cell (i : Nat) (f : Dom → Dom) : (s.modD i f).cell = s.cell := rfl
@[simp] theorem State.modD_fld (i : Nat) (f : Dom → Dom) : (s.modD i f).fld = s.fld := rfl
@[simp] theorem State.modD_grp (i : Nat) (f : Dom → Dom) : (s.modD i f).grp = s.grp := rfl
@[simp] theorem State.modD_pdWakes (i : Nat) (f : Dom → Dom) : (s.modD i f).pdWakes = s.pdWakes := rfl
@[simp] theorem State.modD_pdCmds (i : Nat) (f : Dom → Dom) : (s.modD i f).pdCmds = s.pdCmds := rfl
@[simp] theorem State.modD_pdLast (i : Nat) (f : Dom → Dom) : (s.modD i f).pdLast = s.pdLast := rfl
@[simp] theorem State.modD_link (i : Nat) (f : Dom → Dom) : (s.modD i f).link = s.link := rfl
@[simp] theorem State.modD_rail (i : Nat) (f : Dom → Dom) : (s.modD i f).rail = s.rail := rfl
@[simp] theorem State.modD_stop (i : Nat) (f : Dom → Dom) : (s.modD i f).stop = s.stop := rfl
@[simp] theorem State.modD_caps (i : Nat) (f : Dom → Dom) : (s.modD i f).caps = s.caps := rfl
@[simp] theorem State.modD_dict (i : Nat) (f : Dom → Dom) : (s.modD i f).dict = s.dict := rfl
@[simp] theorem State.modD_hop (i : Nat) (f : Dom → Dom) : (s.modD i f).hop = s.hop := rfl
@[simp] theorem State.modD_freeN (i : Nat) (f : Dom → Dom) : (s.modD i f).freeN = s.freeN := rfl
@[simp] theorem State.modD_box (i : Nat) (f : Dom → Dom) : (s.modD i f).box = s.box := rfl
@[simp] theorem State.modD_ports (i : Nat) (f : Dom → Dom) : (s.modD i f).ports = s.ports := rfl
@[simp] theorem State.modD_energy (i : Nat) (f : Dom → Dom) : (s.modD i f).energy = s.energy := rfl
@[simp] theorem State.modD_phase (i : Nat) (f : Dom → Dom) : (s.modD i f).phase = s.phase := rfl
@[simp] theorem State.modD_budget (i : Nat) (f : Dom → Dom) : (s.modD i f).budget = s.budget := rfl
@[simp] theorem State.modD_idx (i : Nat) (f : Dom → Dom) : (s.modD i f).idx = s.idx := rfl
@[simp] theorem State.modD_fdp (i : Nat) (f : Dom → Dom) : (s.modD i f).fdp = s.fdp := rfl
@[simp] theorem State.modD_flash (i : Nat) (f : Dom → Dom) : (s.modD i f).flash = s.flash := rfl
@[simp] theorem State.modD_fon (i : Nat) (f : Dom → Dom) : (s.modD i f).fon = s.fon := rfl
@[simp] theorem State.modD_pending (i : Nat) (f : Dom → Dom) : (s.modD i f).pending = s.pending := rfl

/-! ### modL -/

@[simp] theorem State.modL_build (k : Nat) (f : Link → Link) : (s.modL k f).build = s.build := rfl
@[simp] theorem State.modL_objs (k : Nat) (f : Link → Link) : (s.modL k f).objs = s.objs := rfl
@[simp] theorem State.modL_held (k : Nat) (f : Link → Link) : (s.modL k f).held = s.held := rfl
@[simp] theorem State.modL_clock (k : Nat) (f : Link → Link) : (s.modL k f).clock = s.clock := rfl
@[simp] theorem State.modL_refs (k : Nat) (f : Link → Link) : (s.modL k f).refs = s.refs := rfl
@[simp] theorem State.modL_su (k : Nat) (f : Link → Link) : (s.modL k f).su = s.su := rfl
@[simp] theorem State.modL_flt (k : Nat) (f : Link → Link) : (s.modL k f).flt = s.flt := rfl
@[simp] theorem State.modL_inj (k : Nat) (f : Link → Link) : (s.modL k f).inj = s.inj := rfl
@[simp] theorem State.modL_rgn (k : Nat) (f : Link → Link) : (s.modL k f).rgn = s.rgn := rfl
@[simp] theorem State.modL_est (k : Nat) (f : Link → Link) : (s.modL k f).est = s.est := rfl
@[simp] theorem State.modL_lane (k : Nat) (f : Link → Link) : (s.modL k f).lane = s.lane := rfl
@[simp] theorem State.modL_ts (k : Nat) (f : Link → Link) : (s.modL k f).ts = s.ts := rfl
@[simp] theorem State.modL_cell (k : Nat) (f : Link → Link) : (s.modL k f).cell = s.cell := rfl
@[simp] theorem State.modL_fld (k : Nat) (f : Link → Link) : (s.modL k f).fld = s.fld := rfl
@[simp] theorem State.modL_grp (k : Nat) (f : Link → Link) : (s.modL k f).grp = s.grp := rfl
@[simp] theorem State.modL_dom (k : Nat) (f : Link → Link) : (s.modL k f).dom = s.dom := rfl
@[simp] theorem State.modL_pdWakes (k : Nat) (f : Link → Link) : (s.modL k f).pdWakes = s.pdWakes := rfl
@[simp] theorem State.modL_pdCmds (k : Nat) (f : Link → Link) : (s.modL k f).pdCmds = s.pdCmds := rfl
@[simp] theorem State.modL_pdLast (k : Nat) (f : Link → Link) : (s.modL k f).pdLast = s.pdLast := rfl
@[simp] theorem State.modL_rail (k : Nat) (f : Link → Link) : (s.modL k f).rail = s.rail := rfl
@[simp] theorem State.modL_stop (k : Nat) (f : Link → Link) : (s.modL k f).stop = s.stop := rfl
@[simp] theorem State.modL_caps (k : Nat) (f : Link → Link) : (s.modL k f).caps = s.caps := rfl
@[simp] theorem State.modL_dict (k : Nat) (f : Link → Link) : (s.modL k f).dict = s.dict := rfl
@[simp] theorem State.modL_hop (k : Nat) (f : Link → Link) : (s.modL k f).hop = s.hop := rfl
@[simp] theorem State.modL_freeN (k : Nat) (f : Link → Link) : (s.modL k f).freeN = s.freeN := rfl
@[simp] theorem State.modL_box (k : Nat) (f : Link → Link) : (s.modL k f).box = s.box := rfl
@[simp] theorem State.modL_ports (k : Nat) (f : Link → Link) : (s.modL k f).ports = s.ports := rfl
@[simp] theorem State.modL_energy (k : Nat) (f : Link → Link) : (s.modL k f).energy = s.energy := rfl
@[simp] theorem State.modL_phase (k : Nat) (f : Link → Link) : (s.modL k f).phase = s.phase := rfl
@[simp] theorem State.modL_budget (k : Nat) (f : Link → Link) : (s.modL k f).budget = s.budget := rfl
@[simp] theorem State.modL_idx (k : Nat) (f : Link → Link) : (s.modL k f).idx = s.idx := rfl
@[simp] theorem State.modL_fdp (k : Nat) (f : Link → Link) : (s.modL k f).fdp = s.fdp := rfl
@[simp] theorem State.modL_flash (k : Nat) (f : Link → Link) : (s.modL k f).flash = s.flash := rfl
@[simp] theorem State.modL_fon (k : Nat) (f : Link → Link) : (s.modL k f).fon = s.fon := rfl
@[simp] theorem State.modL_pending (k : Nat) (f : Link → Link) : (s.modL k f).pending = s.pending := rfl

/-! ### modRa -/

@[simp] theorem State.modRa_build (r : Nat) (f : Rail → Rail) : (s.modRa r f).build = s.build := rfl
@[simp] theorem State.modRa_objs (r : Nat) (f : Rail → Rail) : (s.modRa r f).objs = s.objs := rfl
@[simp] theorem State.modRa_held (r : Nat) (f : Rail → Rail) : (s.modRa r f).held = s.held := rfl
@[simp] theorem State.modRa_clock (r : Nat) (f : Rail → Rail) : (s.modRa r f).clock = s.clock := rfl
@[simp] theorem State.modRa_refs (r : Nat) (f : Rail → Rail) : (s.modRa r f).refs = s.refs := rfl
@[simp] theorem State.modRa_su (r : Nat) (f : Rail → Rail) : (s.modRa r f).su = s.su := rfl
@[simp] theorem State.modRa_flt (r : Nat) (f : Rail → Rail) : (s.modRa r f).flt = s.flt := rfl
@[simp] theorem State.modRa_inj (r : Nat) (f : Rail → Rail) : (s.modRa r f).inj = s.inj := rfl
@[simp] theorem State.modRa_rgn (r : Nat) (f : Rail → Rail) : (s.modRa r f).rgn = s.rgn := rfl
@[simp] theorem State.modRa_est (r : Nat) (f : Rail → Rail) : (s.modRa r f).est = s.est := rfl
@[simp] theorem State.modRa_lane (r : Nat) (f : Rail → Rail) : (s.modRa r f).lane = s.lane := rfl
@[simp] theorem State.modRa_ts (r : Nat) (f : Rail → Rail) : (s.modRa r f).ts = s.ts := rfl
@[simp] theorem State.modRa_cell (r : Nat) (f : Rail → Rail) : (s.modRa r f).cell = s.cell := rfl
@[simp] theorem State.modRa_fld (r : Nat) (f : Rail → Rail) : (s.modRa r f).fld = s.fld := rfl
@[simp] theorem State.modRa_grp (r : Nat) (f : Rail → Rail) : (s.modRa r f).grp = s.grp := rfl
@[simp] theorem State.modRa_dom (r : Nat) (f : Rail → Rail) : (s.modRa r f).dom = s.dom := rfl
@[simp] theorem State.modRa_pdWakes (r : Nat) (f : Rail → Rail) : (s.modRa r f).pdWakes = s.pdWakes := rfl
@[simp] theorem State.modRa_pdCmds (r : Nat) (f : Rail → Rail) : (s.modRa r f).pdCmds = s.pdCmds := rfl
@[simp] theorem State.modRa_pdLast (r : Nat) (f : Rail → Rail) : (s.modRa r f).pdLast = s.pdLast := rfl
@[simp] theorem State.modRa_link (r : Nat) (f : Rail → Rail) : (s.modRa r f).link = s.link := rfl
@[simp] theorem State.modRa_stop (r : Nat) (f : Rail → Rail) : (s.modRa r f).stop = s.stop := rfl
@[simp] theorem State.modRa_caps (r : Nat) (f : Rail → Rail) : (s.modRa r f).caps = s.caps := rfl
@[simp] theorem State.modRa_dict (r : Nat) (f : Rail → Rail) : (s.modRa r f).dict = s.dict := rfl
@[simp] theorem State.modRa_hop (r : Nat) (f : Rail → Rail) : (s.modRa r f).hop = s.hop := rfl
@[simp] theorem State.modRa_freeN (r : Nat) (f : Rail → Rail) : (s.modRa r f).freeN = s.freeN := rfl
@[simp] theorem State.modRa_box (r : Nat) (f : Rail → Rail) : (s.modRa r f).box = s.box := rfl
@[simp] theorem State.modRa_ports (r : Nat) (f : Rail → Rail) : (s.modRa r f).ports = s.ports := rfl
@[simp] theorem State.modRa_energy (r : Nat) (f : Rail → Rail) : (s.modRa r f).energy = s.energy := rfl
@[simp] theorem State.modRa_phase (r : Nat) (f : Rail → Rail) : (s.modRa r f).phase = s.phase := rfl
@[simp] theorem State.modRa_budget (r : Nat) (f : Rail → Rail) : (s.modRa r f).budget = s.budget := rfl
@[simp] theorem State.modRa_idx (r : Nat) (f : Rail → Rail) : (s.modRa r f).idx = s.idx := rfl
@[simp] theorem State.modRa_fdp (r : Nat) (f : Rail → Rail) : (s.modRa r f).fdp = s.fdp := rfl
@[simp] theorem State.modRa_flash (r : Nat) (f : Rail → Rail) : (s.modRa r f).flash = s.flash := rfl
@[simp] theorem State.modRa_fon (r : Nat) (f : Rail → Rail) : (s.modRa r f).fon = s.fon := rfl
@[simp] theorem State.modRa_pending (r : Nat) (f : Rail → Rail) : (s.modRa r f).pending = s.pending := rfl

/-! ### modBx -/

@[simp] theorem State.modBx_build (m : Nat) (f : Box → Box) : (s.modBx m f).build = s.build := rfl
@[simp] theorem State.modBx_objs (m : Nat) (f : Box → Box) : (s.modBx m f).objs = s.objs := rfl
@[simp] theorem State.modBx_held (m : Nat) (f : Box → Box) : (s.modBx m f).held = s.held := rfl
@[simp] theorem State.modBx_clock (m : Nat) (f : Box → Box) : (s.modBx m f).clock = s.clock := rfl
@[simp] theorem State.modBx_refs (m : Nat) (f : Box → Box) : (s.modBx m f).refs = s.refs := rfl
@[simp] theorem State.modBx_su (m : Nat) (f : Box → Box) : (s.modBx m f).su = s.su := rfl
@[simp] theorem State.modBx_flt (m : Nat) (f : Box → Box) : (s.modBx m f).flt = s.flt := rfl
@[simp] theorem State.modBx_inj (m : Nat) (f : Box → Box) : (s.modBx m f).inj = s.inj := rfl
@[simp] theorem State.modBx_rgn (m : Nat) (f : Box → Box) : (s.modBx m f).rgn = s.rgn := rfl
@[simp] theorem State.modBx_est (m : Nat) (f : Box → Box) : (s.modBx m f).est = s.est := rfl
@[simp] theorem State.modBx_lane (m : Nat) (f : Box → Box) : (s.modBx m f).lane = s.lane := rfl
@[simp] theorem State.modBx_ts (m : Nat) (f : Box → Box) : (s.modBx m f).ts = s.ts := rfl
@[simp] theorem State.modBx_cell (m : Nat) (f : Box → Box) : (s.modBx m f).cell = s.cell := rfl
@[simp] theorem State.modBx_fld (m : Nat) (f : Box → Box) : (s.modBx m f).fld = s.fld := rfl
@[simp] theorem State.modBx_grp (m : Nat) (f : Box → Box) : (s.modBx m f).grp = s.grp := rfl
@[simp] theorem State.modBx_dom (m : Nat) (f : Box → Box) : (s.modBx m f).dom = s.dom := rfl
@[simp] theorem State.modBx_pdWakes (m : Nat) (f : Box → Box) : (s.modBx m f).pdWakes = s.pdWakes := rfl
@[simp] theorem State.modBx_pdCmds (m : Nat) (f : Box → Box) : (s.modBx m f).pdCmds = s.pdCmds := rfl
@[simp] theorem State.modBx_pdLast (m : Nat) (f : Box → Box) : (s.modBx m f).pdLast = s.pdLast := rfl
@[simp] theorem State.modBx_link (m : Nat) (f : Box → Box) : (s.modBx m f).link = s.link := rfl
@[simp] theorem State.modBx_rail (m : Nat) (f : Box → Box) : (s.modBx m f).rail = s.rail := rfl
@[simp] theorem State.modBx_stop (m : Nat) (f : Box → Box) : (s.modBx m f).stop = s.stop := rfl
@[simp] theorem State.modBx_caps (m : Nat) (f : Box → Box) : (s.modBx m f).caps = s.caps := rfl
@[simp] theorem State.modBx_dict (m : Nat) (f : Box → Box) : (s.modBx m f).dict = s.dict := rfl
@[simp] theorem State.modBx_hop (m : Nat) (f : Box → Box) : (s.modBx m f).hop = s.hop := rfl
@[simp] theorem State.modBx_freeN (m : Nat) (f : Box → Box) : (s.modBx m f).freeN = s.freeN := rfl
@[simp] theorem State.modBx_ports (m : Nat) (f : Box → Box) : (s.modBx m f).ports = s.ports := rfl
@[simp] theorem State.modBx_energy (m : Nat) (f : Box → Box) : (s.modBx m f).energy = s.energy := rfl
@[simp] theorem State.modBx_phase (m : Nat) (f : Box → Box) : (s.modBx m f).phase = s.phase := rfl
@[simp] theorem State.modBx_budget (m : Nat) (f : Box → Box) : (s.modBx m f).budget = s.budget := rfl
@[simp] theorem State.modBx_idx (m : Nat) (f : Box → Box) : (s.modBx m f).idx = s.idx := rfl
@[simp] theorem State.modBx_fdp (m : Nat) (f : Box → Box) : (s.modBx m f).fdp = s.fdp := rfl
@[simp] theorem State.modBx_flash (m : Nat) (f : Box → Box) : (s.modBx m f).flash = s.flash := rfl
@[simp] theorem State.modBx_fon (m : Nat) (f : Box → Box) : (s.modBx m f).fon = s.fon := rfl
@[simp] theorem State.modBx_pending (m : Nat) (f : Box → Box) : (s.modBx m f).pending = s.pending := rfl

/-! ### wr -/

@[simp] theorem State.wr_build (o : Obj) (v e i : Nat) : (s.wr o v e i).build = s.build := rfl
@[simp] theorem State.wr_held (o : Obj) (v e i : Nat) : (s.wr o v e i).held = s.held := rfl
@[simp] theorem State.wr_clock (o : Obj) (v e i : Nat) : (s.wr o v e i).clock = s.clock := rfl
@[simp] theorem State.wr_refs (o : Obj) (v e i : Nat) : (s.wr o v e i).refs = s.refs := rfl
@[simp] theorem State.wr_su (o : Obj) (v e i : Nat) : (s.wr o v e i).su = s.su := rfl
@[simp] theorem State.wr_flt (o : Obj) (v e i : Nat) : (s.wr o v e i).flt = s.flt := rfl
@[simp] theorem State.wr_inj (o : Obj) (v e i : Nat) : (s.wr o v e i).inj = s.inj := rfl
@[simp] theorem State.wr_rgn (o : Obj) (v e i : Nat) : (s.wr o v e i).rgn = s.rgn := rfl
@[simp] theorem State.wr_est (o : Obj) (v e i : Nat) : (s.wr o v e i).est = s.est := rfl
@[simp] theorem State.wr_lane (o : Obj) (v e i : Nat) : (s.wr o v e i).lane = s.lane := rfl
@[simp] theorem State.wr_ts (o : Obj) (v e i : Nat) : (s.wr o v e i).ts = s.ts := rfl
@[simp] theorem State.wr_cell (o : Obj) (v e i : Nat) : (s.wr o v e i).cell = s.cell := rfl
@[simp] theorem State.wr_fld (o : Obj) (v e i : Nat) : (s.wr o v e i).fld = s.fld := rfl
@[simp] theorem State.wr_grp (o : Obj) (v e i : Nat) : (s.wr o v e i).grp = s.grp := rfl
@[simp] theorem State.wr_dom (o : Obj) (v e i : Nat) : (s.wr o v e i).dom = s.dom := rfl
@[simp] theorem State.wr_pdWakes (o : Obj) (v e i : Nat) : (s.wr o v e i).pdWakes = s.pdWakes := rfl
@[simp] theorem State.wr_pdCmds (o : Obj) (v e i : Nat) : (s.wr o v e i).pdCmds = s.pdCmds := rfl
@[simp] theorem State.wr_pdLast (o : Obj) (v e i : Nat) : (s.wr o v e i).pdLast = s.pdLast := rfl
@[simp] theorem State.wr_link (o : Obj) (v e i : Nat) : (s.wr o v e i).link = s.link := rfl
@[simp] theorem State.wr_rail (o : Obj) (v e i : Nat) : (s.wr o v e i).rail = s.rail := rfl
@[simp] theorem State.wr_stop (o : Obj) (v e i : Nat) : (s.wr o v e i).stop = s.stop := rfl
@[simp] theorem State.wr_caps (o : Obj) (v e i : Nat) : (s.wr o v e i).caps = s.caps := rfl
@[simp] theorem State.wr_dict (o : Obj) (v e i : Nat) : (s.wr o v e i).dict = s.dict := rfl
@[simp] theorem State.wr_hop (o : Obj) (v e i : Nat) : (s.wr o v e i).hop = s.hop := rfl
@[simp] theorem State.wr_freeN (o : Obj) (v e i : Nat) : (s.wr o v e i).freeN = s.freeN := rfl
@[simp] theorem State.wr_box (o : Obj) (v e i : Nat) : (s.wr o v e i).box = s.box := rfl
@[simp] theorem State.wr_ports (o : Obj) (v e i : Nat) : (s.wr o v e i).ports = s.ports := rfl
@[simp] theorem State.wr_energy (o : Obj) (v e i : Nat) : (s.wr o v e i).energy = s.energy := rfl
@[simp] theorem State.wr_phase (o : Obj) (v e i : Nat) : (s.wr o v e i).phase = s.phase := rfl
@[simp] theorem State.wr_budget (o : Obj) (v e i : Nat) : (s.wr o v e i).budget = s.budget := rfl
@[simp] theorem State.wr_idx (o : Obj) (v e i : Nat) : (s.wr o v e i).idx = s.idx := rfl
@[simp] theorem State.wr_fdp (o : Obj) (v e i : Nat) : (s.wr o v e i).fdp = s.fdp := rfl
@[simp] theorem State.wr_flash (o : Obj) (v e i : Nat) : (s.wr o v e i).flash = s.flash := rfl
@[simp] theorem State.wr_fon (o : Obj) (v e i : Nat) : (s.wr o v e i).fon = s.fon := rfl
@[simp] theorem State.wr_pending (o : Obj) (v e i : Nat) : (s.wr o v e i).pending = s.pending := rfl

/-! ### wrInt -/

@[simp] theorem State.wrInt_build (o : Obj) (z : Int) (e i : Nat) : (s.wrInt o z e i).build = s.build := rfl
@[simp] theorem State.wrInt_held (o : Obj) (z : Int) (e i : Nat) : (s.wrInt o z e i).held = s.held := rfl
@[simp] theorem State.wrInt_clock (o : Obj) (z : Int) (e i : Nat) : (s.wrInt o z e i).clock = s.clock := rfl
@[simp] theorem State.wrInt_refs (o : Obj) (z : Int) (e i : Nat) : (s.wrInt o z e i).refs = s.refs := rfl
@[simp] theorem State.wrInt_su (o : Obj) (z : Int) (e i : Nat) : (s.wrInt o z e i).su = s.su := rfl
@[simp] theorem State.wrInt_flt (o : Obj) (z : Int) (e i : Nat) : (s.wrInt o z e i).flt = s.flt := rfl
@[simp] theorem State.wrInt_inj (o : Obj) (z : Int) (e i : Nat) : (s.wrInt o z e i).inj = s.inj := rfl
@[simp] theorem State.wrInt_rgn (o : Obj) (z : Int) (e i : Nat) : (s.wrInt o z e i).rgn = s.rgn := rfl
@[simp] theorem State.wrInt_est (o : Obj) (z : Int) (e i : Nat) : (s.wrInt o z e i).est = s.est := rfl
@[simp] theorem State.wrInt_lane (o : Obj) (z : Int) (e i : Nat) : (s.wrInt o z e i).lane = s.lane := rfl
@[simp] theorem State.wrInt_ts (o : Obj) (z : Int) (e i : Nat) : (s.wrInt o z e i).ts = s.ts := rfl
@[simp] theorem State.wrInt_cell (o : Obj) (z : Int) (e i : Nat) : (s.wrInt o z e i).cell = s.cell := rfl
@[simp] theorem State.wrInt_fld (o : Obj) (z : Int) (e i : Nat) : (s.wrInt o z e i).fld = s.fld := rfl
@[simp] theorem State.wrInt_grp (o : Obj) (z : Int) (e i : Nat) : (s.wrInt o z e i).grp = s.grp := rfl
@[simp] theorem State.wrInt_dom (o : Obj) (z : Int) (e i : Nat) : (s.wrInt o z e i).dom = s.dom := rfl
@[simp] theorem State.wrInt_pdWakes (o : Obj) (z : Int) (e i : Nat) : (s.wrInt o z e i).pdWakes = s.pdWakes := rfl
@[simp] theorem State.wrInt_pdCmds (o : Obj) (z : Int) (e i : Nat) : (s.wrInt o z e i).pdCmds = s.pdCmds := rfl
@[simp] theorem State.wrInt_pdLast (o : Obj) (z : Int) (e i : Nat) : (s.wrInt o z e i).pdLast = s.pdLast := rfl
@[simp] theorem State.wrInt_link (o : Obj) (z : Int) (e i : Nat) : (s.wrInt o z e i).link = s.link := rfl
@[simp] theorem State.wrInt_rail (o : Obj) (z : Int) (e i : Nat) : (s.wrInt o z e i).rail = s.rail := rfl
@[simp] theorem State.wrInt_stop (o : Obj) (z : Int) (e i : Nat) : (s.wrInt o z e i).stop = s.stop := rfl
@[simp] theorem State.wrInt_caps (o : Obj) (z : Int) (e i : Nat) : (s.wrInt o z e i).caps = s.caps := rfl
@[simp] theorem State.wrInt_dict (o : Obj) (z : Int) (e i : Nat) : (s.wrInt o z e i).dict = s.dict := rfl
@[simp] theorem State.wrInt_hop (o : Obj) (z : Int) (e i : Nat) : (s.wrInt o z e i).hop = s.hop := rfl
@[simp] theorem State.wrInt_freeN (o : Obj) (z : Int) (e i : Nat) : (s.wrInt o z e i).freeN = s.freeN := rfl
@[simp] theorem State.wrInt_box (o : Obj) (z : Int) (e i : Nat) : (s.wrInt o z e i).box = s.box := rfl
@[simp] theorem State.wrInt_ports (o : Obj) (z : Int) (e i : Nat) : (s.wrInt o z e i).ports = s.ports := rfl
@[simp] theorem State.wrInt_energy (o : Obj) (z : Int) (e i : Nat) : (s.wrInt o z e i).energy = s.energy := rfl
@[simp] theorem State.wrInt_phase (o : Obj) (z : Int) (e i : Nat) : (s.wrInt o z e i).phase = s.phase := rfl
@[simp] theorem State.wrInt_budget (o : Obj) (z : Int) (e i : Nat) : (s.wrInt o z e i).budget = s.budget := rfl
@[simp] theorem State.wrInt_idx (o : Obj) (z : Int) (e i : Nat) : (s.wrInt o z e i).idx = s.idx := rfl
@[simp] theorem State.wrInt_fdp (o : Obj) (z : Int) (e i : Nat) : (s.wrInt o z e i).fdp = s.fdp := rfl
@[simp] theorem State.wrInt_flash (o : Obj) (z : Int) (e i : Nat) : (s.wrInt o z e i).flash = s.flash := rfl
@[simp] theorem State.wrInt_fon (o : Obj) (z : Int) (e i : Nat) : (s.wrInt o z e i).fon = s.fon := rfl
@[simp] theorem State.wrInt_pending (o : Obj) (z : Int) (e i : Nat) : (s.wrInt o z e i).pending = s.pending := rfl

/-! ### wrSat -/

@[simp] theorem State.wrSat_build (o : Obj) (z : Int) (e i : Nat) : (s.wrSat o z e i).build = s.build := rfl
@[simp] theorem State.wrSat_held (o : Obj) (z : Int) (e i : Nat) : (s.wrSat o z e i).held = s.held := rfl
@[simp] theorem State.wrSat_clock (o : Obj) (z : Int) (e i : Nat) : (s.wrSat o z e i).clock = s.clock := rfl
@[simp] theorem State.wrSat_refs (o : Obj) (z : Int) (e i : Nat) : (s.wrSat o z e i).refs = s.refs := rfl
@[simp] theorem State.wrSat_su (o : Obj) (z : Int) (e i : Nat) : (s.wrSat o z e i).su = s.su := rfl
@[simp] theorem State.wrSat_flt (o : Obj) (z : Int) (e i : Nat) : (s.wrSat o z e i).flt = s.flt := rfl
@[simp] theorem State.wrSat_inj (o : Obj) (z : Int) (e i : Nat) : (s.wrSat o z e i).inj = s.inj := rfl
@[simp] theorem State.wrSat_rgn (o : Obj) (z : Int) (e i : Nat) : (s.wrSat o z e i).rgn = s.rgn := rfl
@[simp] theorem State.wrSat_est (o : Obj) (z : Int) (e i : Nat) : (s.wrSat o z e i).est = s.est := rfl
@[simp] theorem State.wrSat_lane (o : Obj) (z : Int) (e i : Nat) : (s.wrSat o z e i).lane = s.lane := rfl
@[simp] theorem State.wrSat_ts (o : Obj) (z : Int) (e i : Nat) : (s.wrSat o z e i).ts = s.ts := rfl
@[simp] theorem State.wrSat_cell (o : Obj) (z : Int) (e i : Nat) : (s.wrSat o z e i).cell = s.cell := rfl
@[simp] theorem State.wrSat_fld (o : Obj) (z : Int) (e i : Nat) : (s.wrSat o z e i).fld = s.fld := rfl
@[simp] theorem State.wrSat_grp (o : Obj) (z : Int) (e i : Nat) : (s.wrSat o z e i).grp = s.grp := rfl
@[simp] theorem State.wrSat_dom (o : Obj) (z : Int) (e i : Nat) : (s.wrSat o z e i).dom = s.dom := rfl
@[simp] theorem State.wrSat_pdWakes (o : Obj) (z : Int) (e i : Nat) : (s.wrSat o z e i).pdWakes = s.pdWakes := rfl
@[simp] theorem State.wrSat_pdCmds (o : Obj) (z : Int) (e i : Nat) : (s.wrSat o z e i).pdCmds = s.pdCmds := rfl
@[simp] theorem State.wrSat_pdLast (o : Obj) (z : Int) (e i : Nat) : (s.wrSat o z e i).pdLast = s.pdLast := rfl
@[simp] theorem State.wrSat_link (o : Obj) (z : Int) (e i : Nat) : (s.wrSat o z e i).link = s.link := rfl
@[simp] theorem State.wrSat_rail (o : Obj) (z : Int) (e i : Nat) : (s.wrSat o z e i).rail = s.rail := rfl
@[simp] theorem State.wrSat_stop (o : Obj) (z : Int) (e i : Nat) : (s.wrSat o z e i).stop = s.stop := rfl
@[simp] theorem State.wrSat_caps (o : Obj) (z : Int) (e i : Nat) : (s.wrSat o z e i).caps = s.caps := rfl
@[simp] theorem State.wrSat_dict (o : Obj) (z : Int) (e i : Nat) : (s.wrSat o z e i).dict = s.dict := rfl
@[simp] theorem State.wrSat_hop (o : Obj) (z : Int) (e i : Nat) : (s.wrSat o z e i).hop = s.hop := rfl
@[simp] theorem State.wrSat_freeN (o : Obj) (z : Int) (e i : Nat) : (s.wrSat o z e i).freeN = s.freeN := rfl
@[simp] theorem State.wrSat_box (o : Obj) (z : Int) (e i : Nat) : (s.wrSat o z e i).box = s.box := rfl
@[simp] theorem State.wrSat_ports (o : Obj) (z : Int) (e i : Nat) : (s.wrSat o z e i).ports = s.ports := rfl
@[simp] theorem State.wrSat_energy (o : Obj) (z : Int) (e i : Nat) : (s.wrSat o z e i).energy = s.energy := rfl
@[simp] theorem State.wrSat_phase (o : Obj) (z : Int) (e i : Nat) : (s.wrSat o z e i).phase = s.phase := rfl
@[simp] theorem State.wrSat_budget (o : Obj) (z : Int) (e i : Nat) : (s.wrSat o z e i).budget = s.budget := rfl
@[simp] theorem State.wrSat_idx (o : Obj) (z : Int) (e i : Nat) : (s.wrSat o z e i).idx = s.idx := rfl
@[simp] theorem State.wrSat_fdp (o : Obj) (z : Int) (e i : Nat) : (s.wrSat o z e i).fdp = s.fdp := rfl
@[simp] theorem State.wrSat_flash (o : Obj) (z : Int) (e i : Nat) : (s.wrSat o z e i).flash = s.flash := rfl
@[simp] theorem State.wrSat_fon (o : Obj) (z : Int) (e i : Nat) : (s.wrSat o z e i).fon = s.fon := rfl
@[simp] theorem State.wrSat_pending (o : Obj) (z : Int) (e i : Nat) : (s.wrSat o z e i).pending = s.pending := rfl

/-! ### add -/

@[simp] theorem State.add_build (o : Obj) (n e i : Nat) : (s.add o n e i).build = s.build := rfl
@[simp] theorem State.add_held (o : Obj) (n e i : Nat) : (s.add o n e i).held = s.held := rfl
@[simp] theorem State.add_clock (o : Obj) (n e i : Nat) : (s.add o n e i).clock = s.clock := rfl
@[simp] theorem State.add_refs (o : Obj) (n e i : Nat) : (s.add o n e i).refs = s.refs := rfl
@[simp] theorem State.add_su (o : Obj) (n e i : Nat) : (s.add o n e i).su = s.su := rfl
@[simp] theorem State.add_flt (o : Obj) (n e i : Nat) : (s.add o n e i).flt = s.flt := rfl
@[simp] theorem State.add_inj (o : Obj) (n e i : Nat) : (s.add o n e i).inj = s.inj := rfl
@[simp] theorem State.add_rgn (o : Obj) (n e i : Nat) : (s.add o n e i).rgn = s.rgn := rfl
@[simp] theorem State.add_est (o : Obj) (n e i : Nat) : (s.add o n e i).est = s.est := rfl
@[simp] theorem State.add_lane (o : Obj) (n e i : Nat) : (s.add o n e i).lane = s.lane := rfl
@[simp] theorem State.add_ts (o : Obj) (n e i : Nat) : (s.add o n e i).ts = s.ts := rfl
@[simp] theorem State.add_cell (o : Obj) (n e i : Nat) : (s.add o n e i).cell = s.cell := rfl
@[simp] theorem State.add_fld (o : Obj) (n e i : Nat) : (s.add o n e i).fld = s.fld := rfl
@[simp] theorem State.add_grp (o : Obj) (n e i : Nat) : (s.add o n e i).grp = s.grp := rfl
@[simp] theorem State.add_dom (o : Obj) (n e i : Nat) : (s.add o n e i).dom = s.dom := rfl
@[simp] theorem State.add_pdWakes (o : Obj) (n e i : Nat) : (s.add o n e i).pdWakes = s.pdWakes := rfl
@[simp] theorem State.add_pdCmds (o : Obj) (n e i : Nat) : (s.add o n e i).pdCmds = s.pdCmds := rfl
@[simp] theorem State.add_pdLast (o : Obj) (n e i : Nat) : (s.add o n e i).pdLast = s.pdLast := rfl
@[simp] theorem State.add_link (o : Obj) (n e i : Nat) : (s.add o n e i).link = s.link := rfl
@[simp] theorem State.add_rail (o : Obj) (n e i : Nat) : (s.add o n e i).rail = s.rail := rfl
@[simp] theorem State.add_stop (o : Obj) (n e i : Nat) : (s.add o n e i).stop = s.stop := rfl
@[simp] theorem State.add_caps (o : Obj) (n e i : Nat) : (s.add o n e i).caps = s.caps := rfl
@[simp] theorem State.add_dict (o : Obj) (n e i : Nat) : (s.add o n e i).dict = s.dict := rfl
@[simp] theorem State.add_hop (o : Obj) (n e i : Nat) : (s.add o n e i).hop = s.hop := rfl
@[simp] theorem State.add_freeN (o : Obj) (n e i : Nat) : (s.add o n e i).freeN = s.freeN := rfl
@[simp] theorem State.add_box (o : Obj) (n e i : Nat) : (s.add o n e i).box = s.box := rfl
@[simp] theorem State.add_ports (o : Obj) (n e i : Nat) : (s.add o n e i).ports = s.ports := rfl
@[simp] theorem State.add_energy (o : Obj) (n e i : Nat) : (s.add o n e i).energy = s.energy := rfl
@[simp] theorem State.add_phase (o : Obj) (n e i : Nat) : (s.add o n e i).phase = s.phase := rfl
@[simp] theorem State.add_budget (o : Obj) (n e i : Nat) : (s.add o n e i).budget = s.budget := rfl
@[simp] theorem State.add_idx (o : Obj) (n e i : Nat) : (s.add o n e i).idx = s.idx := rfl
@[simp] theorem State.add_fdp (o : Obj) (n e i : Nat) : (s.add o n e i).fdp = s.fdp := rfl
@[simp] theorem State.add_flash (o : Obj) (n e i : Nat) : (s.add o n e i).flash = s.flash := rfl
@[simp] theorem State.add_fon (o : Obj) (n e i : Nat) : (s.add o n e i).fon = s.fon := rfl
@[simp] theorem State.add_pending (o : Obj) (n e i : Nat) : (s.add o n e i).pending = s.pending := rfl

/-! ### addWrap -/

@[simp] theorem State.addWrap_build (o : Obj) (n e i : Nat) : (s.addWrap o n e i).build = s.build := rfl
@[simp] theorem State.addWrap_held (o : Obj) (n e i : Nat) : (s.addWrap o n e i).held = s.held := rfl
@[simp] theorem State.addWrap_clock (o : Obj) (n e i : Nat) : (s.addWrap o n e i).clock = s.clock := rfl
@[simp] theorem State.addWrap_refs (o : Obj) (n e i : Nat) : (s.addWrap o n e i).refs = s.refs := rfl
@[simp] theorem State.addWrap_su (o : Obj) (n e i : Nat) : (s.addWrap o n e i).su = s.su := rfl
@[simp] theorem State.addWrap_flt (o : Obj) (n e i : Nat) : (s.addWrap o n e i).flt = s.flt := rfl
@[simp] theorem State.addWrap_inj (o : Obj) (n e i : Nat) : (s.addWrap o n e i).inj = s.inj := rfl
@[simp] theorem State.addWrap_rgn (o : Obj) (n e i : Nat) : (s.addWrap o n e i).rgn = s.rgn := rfl
@[simp] theorem State.addWrap_est (o : Obj) (n e i : Nat) : (s.addWrap o n e i).est = s.est := rfl
@[simp] theorem State.addWrap_lane (o : Obj) (n e i : Nat) : (s.addWrap o n e i).lane = s.lane := rfl
@[simp] theorem State.addWrap_ts (o : Obj) (n e i : Nat) : (s.addWrap o n e i).ts = s.ts := rfl
@[simp] theorem State.addWrap_cell (o : Obj) (n e i : Nat) : (s.addWrap o n e i).cell = s.cell := rfl
@[simp] theorem State.addWrap_fld (o : Obj) (n e i : Nat) : (s.addWrap o n e i).fld = s.fld := rfl
@[simp] theorem State.addWrap_grp (o : Obj) (n e i : Nat) : (s.addWrap o n e i).grp = s.grp := rfl
@[simp] theorem State.addWrap_dom (o : Obj) (n e i : Nat) : (s.addWrap o n e i).dom = s.dom := rfl
@[simp] theorem State.addWrap_pdWakes (o : Obj) (n e i : Nat) : (s.addWrap o n e i).pdWakes = s.pdWakes := rfl
@[simp] theorem State.addWrap_pdCmds (o : Obj) (n e i : Nat) : (s.addWrap o n e i).pdCmds = s.pdCmds := rfl
@[simp] theorem State.addWrap_pdLast (o : Obj) (n e i : Nat) : (s.addWrap o n e i).pdLast = s.pdLast := rfl
@[simp] theorem State.addWrap_link (o : Obj) (n e i : Nat) : (s.addWrap o n e i).link = s.link := rfl
@[simp] theorem State.addWrap_rail (o : Obj) (n e i : Nat) : (s.addWrap o n e i).rail = s.rail := rfl
@[simp] theorem State.addWrap_stop (o : Obj) (n e i : Nat) : (s.addWrap o n e i).stop = s.stop := rfl
@[simp] theorem State.addWrap_caps (o : Obj) (n e i : Nat) : (s.addWrap o n e i).caps = s.caps := rfl
@[simp] theorem State.addWrap_dict (o : Obj) (n e i : Nat) : (s.addWrap o n e i).dict = s.dict := rfl
@[simp] theorem State.addWrap_hop (o : Obj) (n e i : Nat) : (s.addWrap o n e i).hop = s.hop := rfl
@[simp] theorem State.addWrap_freeN (o : Obj) (n e i : Nat) : (s.addWrap o n e i).freeN = s.freeN := rfl
@[simp] theorem State.addWrap_box (o : Obj) (n e i : Nat) : (s.addWrap o n e i).box = s.box := rfl
@[simp] theorem State.addWrap_ports (o : Obj) (n e i : Nat) : (s.addWrap o n e i).ports = s.ports := rfl
@[simp] theorem State.addWrap_energy (o : Obj) (n e i : Nat) : (s.addWrap o n e i).energy = s.energy := rfl
@[simp] theorem State.addWrap_phase (o : Obj) (n e i : Nat) : (s.addWrap o n e i).phase = s.phase := rfl
@[simp] theorem State.addWrap_budget (o : Obj) (n e i : Nat) : (s.addWrap o n e i).budget = s.budget := rfl
@[simp] theorem State.addWrap_idx (o : Obj) (n e i : Nat) : (s.addWrap o n e i).idx = s.idx := rfl
@[simp] theorem State.addWrap_fdp (o : Obj) (n e i : Nat) : (s.addWrap o n e i).fdp = s.fdp := rfl
@[simp] theorem State.addWrap_flash (o : Obj) (n e i : Nat) : (s.addWrap o n e i).flash = s.flash := rfl
@[simp] theorem State.addWrap_fon (o : Obj) (n e i : Nat) : (s.addWrap o n e i).fon = s.fon := rfl
@[simp] theorem State.addWrap_pending (o : Obj) (n e i : Nat) : (s.addWrap o n e i).pending = s.pending := rfl

/-! ### inc -/

@[simp] theorem State.inc_build (o : Obj) (e i : Nat) : (s.inc o e i).build = s.build := rfl
@[simp] theorem State.inc_held (o : Obj) (e i : Nat) : (s.inc o e i).held = s.held := rfl
@[simp] theorem State.inc_clock (o : Obj) (e i : Nat) : (s.inc o e i).clock = s.clock := rfl
@[simp] theorem State.inc_refs (o : Obj) (e i : Nat) : (s.inc o e i).refs = s.refs := rfl
@[simp] theorem State.inc_su (o : Obj) (e i : Nat) : (s.inc o e i).su = s.su := rfl
@[simp] theorem State.inc_flt (o : Obj) (e i : Nat) : (s.inc o e i).flt = s.flt := rfl
@[simp] theorem State.inc_inj (o : Obj) (e i : Nat) : (s.inc o e i).inj = s.inj := rfl
@[simp] theorem State.inc_rgn (o : Obj) (e i : Nat) : (s.inc o e i).rgn = s.rgn := rfl
@[simp] theorem State.inc_est (o : Obj) (e i : Nat) : (s.inc o e i).est = s.est := rfl
@[simp] theorem State.inc_lane (o : Obj) (e i : Nat) : (s.inc o e i).lane = s.lane := rfl
@[simp] theorem State.inc_ts (o : Obj) (e i : Nat) : (s.inc o e i).ts = s.ts := rfl
@[simp] theorem State.inc_cell (o : Obj) (e i : Nat) : (s.inc o e i).cell = s.cell := rfl
@[simp] theorem State.inc_fld (o : Obj) (e i : Nat) : (s.inc o e i).fld = s.fld := rfl
@[simp] theorem State.inc_grp (o : Obj) (e i : Nat) : (s.inc o e i).grp = s.grp := rfl
@[simp] theorem State.inc_dom (o : Obj) (e i : Nat) : (s.inc o e i).dom = s.dom := rfl
@[simp] theorem State.inc_pdWakes (o : Obj) (e i : Nat) : (s.inc o e i).pdWakes = s.pdWakes := rfl
@[simp] theorem State.inc_pdCmds (o : Obj) (e i : Nat) : (s.inc o e i).pdCmds = s.pdCmds := rfl
@[simp] theorem State.inc_pdLast (o : Obj) (e i : Nat) : (s.inc o e i).pdLast = s.pdLast := rfl
@[simp] theorem State.inc_link (o : Obj) (e i : Nat) : (s.inc o e i).link = s.link := rfl
@[simp] theorem State.inc_rail (o : Obj) (e i : Nat) : (s.inc o e i).rail = s.rail := rfl
@[simp] theorem State.inc_stop (o : Obj) (e i : Nat) : (s.inc o e i).stop = s.stop := rfl
@[simp] theorem State.inc_caps (o : Obj) (e i : Nat) : (s.inc o e i).caps = s.caps := rfl
@[simp] theorem State.inc_dict (o : Obj) (e i : Nat) : (s.inc o e i).dict = s.dict := rfl
@[simp] theorem State.inc_hop (o : Obj) (e i : Nat) : (s.inc o e i).hop = s.hop := rfl
@[simp] theorem State.inc_freeN (o : Obj) (e i : Nat) : (s.inc o e i).freeN = s.freeN := rfl
@[simp] theorem State.inc_box (o : Obj) (e i : Nat) : (s.inc o e i).box = s.box := rfl
@[simp] theorem State.inc_ports (o : Obj) (e i : Nat) : (s.inc o e i).ports = s.ports := rfl
@[simp] theorem State.inc_energy (o : Obj) (e i : Nat) : (s.inc o e i).energy = s.energy := rfl
@[simp] theorem State.inc_phase (o : Obj) (e i : Nat) : (s.inc o e i).phase = s.phase := rfl
@[simp] theorem State.inc_budget (o : Obj) (e i : Nat) : (s.inc o e i).budget = s.budget := rfl
@[simp] theorem State.inc_idx (o : Obj) (e i : Nat) : (s.inc o e i).idx = s.idx := rfl
@[simp] theorem State.inc_fdp (o : Obj) (e i : Nat) : (s.inc o e i).fdp = s.fdp := rfl
@[simp] theorem State.inc_flash (o : Obj) (e i : Nat) : (s.inc o e i).flash = s.flash := rfl
@[simp] theorem State.inc_fon (o : Obj) (e i : Nat) : (s.inc o e i).fon = s.fon := rfl
@[simp] theorem State.inc_pending (o : Obj) (e i : Nat) : (s.inc o e i).pending = s.pending := rfl

/-! ### setFlag -/

@[simp] theorem State.setFlag_build (o : Obj) (b : Nat) (v : Bool) (e : Nat) : (s.setFlag o b v e).build = s.build := rfl
@[simp] theorem State.setFlag_held (o : Obj) (b : Nat) (v : Bool) (e : Nat) : (s.setFlag o b v e).held = s.held := rfl
@[simp] theorem State.setFlag_clock (o : Obj) (b : Nat) (v : Bool) (e : Nat) : (s.setFlag o b v e).clock = s.clock := rfl
@[simp] theorem State.setFlag_refs (o : Obj) (b : Nat) (v : Bool) (e : Nat) : (s.setFlag o b v e).refs = s.refs := rfl
@[simp] theorem State.setFlag_su (o : Obj) (b : Nat) (v : Bool) (e : Nat) : (s.setFlag o b v e).su = s.su := rfl
@[simp] theorem State.setFlag_flt (o : Obj) (b : Nat) (v : Bool) (e : Nat) : (s.setFlag o b v e).flt = s.flt := rfl
@[simp] theorem State.setFlag_inj (o : Obj) (b : Nat) (v : Bool) (e : Nat) : (s.setFlag o b v e).inj = s.inj := rfl
@[simp] theorem State.setFlag_rgn (o : Obj) (b : Nat) (v : Bool) (e : Nat) : (s.setFlag o b v e).rgn = s.rgn := rfl
@[simp] theorem State.setFlag_est (o : Obj) (b : Nat) (v : Bool) (e : Nat) : (s.setFlag o b v e).est = s.est := rfl
@[simp] theorem State.setFlag_lane (o : Obj) (b : Nat) (v : Bool) (e : Nat) : (s.setFlag o b v e).lane = s.lane := rfl
@[simp] theorem State.setFlag_ts (o : Obj) (b : Nat) (v : Bool) (e : Nat) : (s.setFlag o b v e).ts = s.ts := rfl
@[simp] theorem State.setFlag_cell (o : Obj) (b : Nat) (v : Bool) (e : Nat) : (s.setFlag o b v e).cell = s.cell := rfl
@[simp] theorem State.setFlag_fld (o : Obj) (b : Nat) (v : Bool) (e : Nat) : (s.setFlag o b v e).fld = s.fld := rfl
@[simp] theorem State.setFlag_grp (o : Obj) (b : Nat) (v : Bool) (e : Nat) : (s.setFlag o b v e).grp = s.grp := rfl
@[simp] theorem State.setFlag_dom (o : Obj) (b : Nat) (v : Bool) (e : Nat) : (s.setFlag o b v e).dom = s.dom := rfl
@[simp] theorem State.setFlag_pdWakes (o : Obj) (b : Nat) (v : Bool) (e : Nat) : (s.setFlag o b v e).pdWakes = s.pdWakes := rfl
@[simp] theorem State.setFlag_pdCmds (o : Obj) (b : Nat) (v : Bool) (e : Nat) : (s.setFlag o b v e).pdCmds = s.pdCmds := rfl
@[simp] theorem State.setFlag_pdLast (o : Obj) (b : Nat) (v : Bool) (e : Nat) : (s.setFlag o b v e).pdLast = s.pdLast := rfl
@[simp] theorem State.setFlag_link (o : Obj) (b : Nat) (v : Bool) (e : Nat) : (s.setFlag o b v e).link = s.link := rfl
@[simp] theorem State.setFlag_rail (o : Obj) (b : Nat) (v : Bool) (e : Nat) : (s.setFlag o b v e).rail = s.rail := rfl
@[simp] theorem State.setFlag_stop (o : Obj) (b : Nat) (v : Bool) (e : Nat) : (s.setFlag o b v e).stop = s.stop := rfl
@[simp] theorem State.setFlag_caps (o : Obj) (b : Nat) (v : Bool) (e : Nat) : (s.setFlag o b v e).caps = s.caps := rfl
@[simp] theorem State.setFlag_dict (o : Obj) (b : Nat) (v : Bool) (e : Nat) : (s.setFlag o b v e).dict = s.dict := rfl
@[simp] theorem State.setFlag_hop (o : Obj) (b : Nat) (v : Bool) (e : Nat) : (s.setFlag o b v e).hop = s.hop := rfl
@[simp] theorem State.setFlag_freeN (o : Obj) (b : Nat) (v : Bool) (e : Nat) : (s.setFlag o b v e).freeN = s.freeN := rfl
@[simp] theorem State.setFlag_box (o : Obj) (b : Nat) (v : Bool) (e : Nat) : (s.setFlag o b v e).box = s.box := rfl
@[simp] theorem State.setFlag_ports (o : Obj) (b : Nat) (v : Bool) (e : Nat) : (s.setFlag o b v e).ports = s.ports := rfl
@[simp] theorem State.setFlag_energy (o : Obj) (b : Nat) (v : Bool) (e : Nat) : (s.setFlag o b v e).energy = s.energy := rfl
@[simp] theorem State.setFlag_phase (o : Obj) (b : Nat) (v : Bool) (e : Nat) : (s.setFlag o b v e).phase = s.phase := rfl
@[simp] theorem State.setFlag_budget (o : Obj) (b : Nat) (v : Bool) (e : Nat) : (s.setFlag o b v e).budget = s.budget := rfl
@[simp] theorem State.setFlag_idx (o : Obj) (b : Nat) (v : Bool) (e : Nat) : (s.setFlag o b v e).idx = s.idx := rfl
@[simp] theorem State.setFlag_fdp (o : Obj) (b : Nat) (v : Bool) (e : Nat) : (s.setFlag o b v e).fdp = s.fdp := rfl
@[simp] theorem State.setFlag_flash (o : Obj) (b : Nat) (v : Bool) (e : Nat) : (s.setFlag o b v e).flash = s.flash := rfl
@[simp] theorem State.setFlag_fon (o : Obj) (b : Nat) (v : Bool) (e : Nat) : (s.setFlag o b v e).fon = s.fon := rfl
@[simp] theorem State.setFlag_pending (o : Obj) (b : Nat) (v : Bool) (e : Nat) : (s.setFlag o b v e).pending = s.pending := rfl

/-! ### wrBytes -/

@[simp] theorem State.wrBytes_build (o : Obj) (e off len x : Nat) : (s.wrBytes o e off len x).build = s.build := rfl
@[simp] theorem State.wrBytes_held (o : Obj) (e off len x : Nat) : (s.wrBytes o e off len x).held = s.held := rfl
@[simp] theorem State.wrBytes_clock (o : Obj) (e off len x : Nat) : (s.wrBytes o e off len x).clock = s.clock := rfl
@[simp] theorem State.wrBytes_refs (o : Obj) (e off len x : Nat) : (s.wrBytes o e off len x).refs = s.refs := rfl
@[simp] theorem State.wrBytes_su (o : Obj) (e off len x : Nat) : (s.wrBytes o e off len x).su = s.su := rfl
@[simp] theorem State.wrBytes_flt (o : Obj) (e off len x : Nat) : (s.wrBytes o e off len x).flt = s.flt := rfl
@[simp] theorem State.wrBytes_inj (o : Obj) (e off len x : Nat) : (s.wrBytes o e off len x).inj = s.inj := rfl
@[simp] theorem State.wrBytes_rgn (o : Obj) (e off len x : Nat) : (s.wrBytes o e off len x).rgn = s.rgn := rfl
@[simp] theorem State.wrBytes_est (o : Obj) (e off len x : Nat) : (s.wrBytes o e off len x).est = s.est := rfl
@[simp] theorem State.wrBytes_lane (o : Obj) (e off len x : Nat) : (s.wrBytes o e off len x).lane = s.lane := rfl
@[simp] theorem State.wrBytes_ts (o : Obj) (e off len x : Nat) : (s.wrBytes o e off len x).ts = s.ts := rfl
@[simp] theorem State.wrBytes_cell (o : Obj) (e off len x : Nat) : (s.wrBytes o e off len x).cell = s.cell := rfl
@[simp] theorem State.wrBytes_fld (o : Obj) (e off len x : Nat) : (s.wrBytes o e off len x).fld = s.fld := rfl
@[simp] theorem State.wrBytes_grp (o : Obj) (e off len x : Nat) : (s.wrBytes o e off len x).grp = s.grp := rfl
@[simp] theorem State.wrBytes_dom (o : Obj) (e off len x : Nat) : (s.wrBytes o e off len x).dom = s.dom := rfl
@[simp] theorem State.wrBytes_pdWakes (o : Obj) (e off len x : Nat) : (s.wrBytes o e off len x).pdWakes = s.pdWakes := rfl
@[simp] theorem State.wrBytes_pdCmds (o : Obj) (e off len x : Nat) : (s.wrBytes o e off len x).pdCmds = s.pdCmds := rfl
@[simp] theorem State.wrBytes_pdLast (o : Obj) (e off len x : Nat) : (s.wrBytes o e off len x).pdLast = s.pdLast := rfl
@[simp] theorem State.wrBytes_link (o : Obj) (e off len x : Nat) : (s.wrBytes o e off len x).link = s.link := rfl
@[simp] theorem State.wrBytes_rail (o : Obj) (e off len x : Nat) : (s.wrBytes o e off len x).rail = s.rail := rfl
@[simp] theorem State.wrBytes_stop (o : Obj) (e off len x : Nat) : (s.wrBytes o e off len x).stop = s.stop := rfl
@[simp] theorem State.wrBytes_caps (o : Obj) (e off len x : Nat) : (s.wrBytes o e off len x).caps = s.caps := rfl
@[simp] theorem State.wrBytes_dict (o : Obj) (e off len x : Nat) : (s.wrBytes o e off len x).dict = s.dict := rfl
@[simp] theorem State.wrBytes_hop (o : Obj) (e off len x : Nat) : (s.wrBytes o e off len x).hop = s.hop := rfl
@[simp] theorem State.wrBytes_freeN (o : Obj) (e off len x : Nat) : (s.wrBytes o e off len x).freeN = s.freeN := rfl
@[simp] theorem State.wrBytes_box (o : Obj) (e off len x : Nat) : (s.wrBytes o e off len x).box = s.box := rfl
@[simp] theorem State.wrBytes_ports (o : Obj) (e off len x : Nat) : (s.wrBytes o e off len x).ports = s.ports := rfl
@[simp] theorem State.wrBytes_energy (o : Obj) (e off len x : Nat) : (s.wrBytes o e off len x).energy = s.energy := rfl
@[simp] theorem State.wrBytes_phase (o : Obj) (e off len x : Nat) : (s.wrBytes o e off len x).phase = s.phase := rfl
@[simp] theorem State.wrBytes_budget (o : Obj) (e off len x : Nat) : (s.wrBytes o e off len x).budget = s.budget := rfl
@[simp] theorem State.wrBytes_idx (o : Obj) (e off len x : Nat) : (s.wrBytes o e off len x).idx = s.idx := rfl
@[simp] theorem State.wrBytes_fdp (o : Obj) (e off len x : Nat) : (s.wrBytes o e off len x).fdp = s.fdp := rfl
@[simp] theorem State.wrBytes_flash (o : Obj) (e off len x : Nat) : (s.wrBytes o e off len x).flash = s.flash := rfl
@[simp] theorem State.wrBytes_fon (o : Obj) (e off len x : Nat) : (s.wrBytes o e off len x).fon = s.fon := rfl
@[simp] theorem State.wrBytes_pending (o : Obj) (e off len x : Nat) : (s.wrBytes o e off len x).pending = s.pending := rfl

/-! ### setReady -/

@[simp] theorem State.setReady_build (r : Rdy) (v : Bool) : (s.setReady r v).build = s.build := rfl
@[simp] theorem State.setReady_held (r : Rdy) (v : Bool) : (s.setReady r v).held = s.held := rfl
@[simp] theorem State.setReady_clock (r : Rdy) (v : Bool) : (s.setReady r v).clock = s.clock := rfl
@[simp] theorem State.setReady_refs (r : Rdy) (v : Bool) : (s.setReady r v).refs = s.refs := rfl
@[simp] theorem State.setReady_su (r : Rdy) (v : Bool) : (s.setReady r v).su = s.su := rfl
@[simp] theorem State.setReady_flt (r : Rdy) (v : Bool) : (s.setReady r v).flt = s.flt := rfl
@[simp] theorem State.setReady_inj (r : Rdy) (v : Bool) : (s.setReady r v).inj = s.inj := rfl
@[simp] theorem State.setReady_rgn (r : Rdy) (v : Bool) : (s.setReady r v).rgn = s.rgn := rfl
@[simp] theorem State.setReady_est (r : Rdy) (v : Bool) : (s.setReady r v).est = s.est := rfl
@[simp] theorem State.setReady_lane (r : Rdy) (v : Bool) : (s.setReady r v).lane = s.lane := rfl
@[simp] theorem State.setReady_ts (r : Rdy) (v : Bool) : (s.setReady r v).ts = s.ts := rfl
@[simp] theorem State.setReady_cell (r : Rdy) (v : Bool) : (s.setReady r v).cell = s.cell := rfl
@[simp] theorem State.setReady_fld (r : Rdy) (v : Bool) : (s.setReady r v).fld = s.fld := rfl
@[simp] theorem State.setReady_grp (r : Rdy) (v : Bool) : (s.setReady r v).grp = s.grp := rfl
@[simp] theorem State.setReady_dom (r : Rdy) (v : Bool) : (s.setReady r v).dom = s.dom := rfl
@[simp] theorem State.setReady_pdWakes (r : Rdy) (v : Bool) : (s.setReady r v).pdWakes = s.pdWakes := rfl
@[simp] theorem State.setReady_pdCmds (r : Rdy) (v : Bool) : (s.setReady r v).pdCmds = s.pdCmds := rfl
@[simp] theorem State.setReady_pdLast (r : Rdy) (v : Bool) : (s.setReady r v).pdLast = s.pdLast := rfl
@[simp] theorem State.setReady_link (r : Rdy) (v : Bool) : (s.setReady r v).link = s.link := rfl
@[simp] theorem State.setReady_rail (r : Rdy) (v : Bool) : (s.setReady r v).rail = s.rail := rfl
@[simp] theorem State.setReady_stop (r : Rdy) (v : Bool) : (s.setReady r v).stop = s.stop := rfl
@[simp] theorem State.setReady_caps (r : Rdy) (v : Bool) : (s.setReady r v).caps = s.caps := rfl
@[simp] theorem State.setReady_dict (r : Rdy) (v : Bool) : (s.setReady r v).dict = s.dict := rfl
@[simp] theorem State.setReady_hop (r : Rdy) (v : Bool) : (s.setReady r v).hop = s.hop := rfl
@[simp] theorem State.setReady_freeN (r : Rdy) (v : Bool) : (s.setReady r v).freeN = s.freeN := rfl
@[simp] theorem State.setReady_box (r : Rdy) (v : Bool) : (s.setReady r v).box = s.box := rfl
@[simp] theorem State.setReady_ports (r : Rdy) (v : Bool) : (s.setReady r v).ports = s.ports := rfl
@[simp] theorem State.setReady_energy (r : Rdy) (v : Bool) : (s.setReady r v).energy = s.energy := rfl
@[simp] theorem State.setReady_phase (r : Rdy) (v : Bool) : (s.setReady r v).phase = s.phase := rfl
@[simp] theorem State.setReady_budget (r : Rdy) (v : Bool) : (s.setReady r v).budget = s.budget := rfl
@[simp] theorem State.setReady_idx (r : Rdy) (v : Bool) : (s.setReady r v).idx = s.idx := rfl
@[simp] theorem State.setReady_fdp (r : Rdy) (v : Bool) : (s.setReady r v).fdp = s.fdp := rfl
@[simp] theorem State.setReady_flash (r : Rdy) (v : Bool) : (s.setReady r v).flash = s.flash := rfl
@[simp] theorem State.setReady_fon (r : Rdy) (v : Bool) : (s.setReady r v).fon = s.fon := rfl
@[simp] theorem State.setReady_pending (r : Rdy) (v : Bool) : (s.setReady r v).pending = s.pending := rfl

/-! ### setStart -/

@[simp] theorem State.setStart_build (x : Start) : (s.setStart x).build = s.build := rfl
@[simp] theorem State.setStart_held (x : Start) : (s.setStart x).held = s.held := rfl
@[simp] theorem State.setStart_clock (x : Start) : (s.setStart x).clock = s.clock := rfl
@[simp] theorem State.setStart_refs (x : Start) : (s.setStart x).refs = s.refs := rfl
@[simp] theorem State.setStart_su (x : Start) : (s.setStart x).su = s.su := rfl
@[simp] theorem State.setStart_flt (x : Start) : (s.setStart x).flt = s.flt := rfl
@[simp] theorem State.setStart_inj (x : Start) : (s.setStart x).inj = s.inj := rfl
@[simp] theorem State.setStart_rgn (x : Start) : (s.setStart x).rgn = s.rgn := rfl
@[simp] theorem State.setStart_est (x : Start) : (s.setStart x).est = s.est := rfl
@[simp] theorem State.setStart_lane (x : Start) : (s.setStart x).lane = s.lane := rfl
@[simp] theorem State.setStart_ts (x : Start) : (s.setStart x).ts = s.ts := rfl
@[simp] theorem State.setStart_cell (x : Start) : (s.setStart x).cell = s.cell := rfl
@[simp] theorem State.setStart_fld (x : Start) : (s.setStart x).fld = s.fld := rfl
@[simp] theorem State.setStart_grp (x : Start) : (s.setStart x).grp = s.grp := rfl
@[simp] theorem State.setStart_dom (x : Start) : (s.setStart x).dom = s.dom := rfl
@[simp] theorem State.setStart_pdWakes (x : Start) : (s.setStart x).pdWakes = s.pdWakes := rfl
@[simp] theorem State.setStart_pdCmds (x : Start) : (s.setStart x).pdCmds = s.pdCmds := rfl
@[simp] theorem State.setStart_pdLast (x : Start) : (s.setStart x).pdLast = s.pdLast := rfl
@[simp] theorem State.setStart_link (x : Start) : (s.setStart x).link = s.link := rfl
@[simp] theorem State.setStart_rail (x : Start) : (s.setStart x).rail = s.rail := rfl
@[simp] theorem State.setStart_stop (x : Start) : (s.setStart x).stop = s.stop := rfl
@[simp] theorem State.setStart_caps (x : Start) : (s.setStart x).caps = s.caps := rfl
@[simp] theorem State.setStart_dict (x : Start) : (s.setStart x).dict = s.dict := rfl
@[simp] theorem State.setStart_hop (x : Start) : (s.setStart x).hop = s.hop := rfl
@[simp] theorem State.setStart_freeN (x : Start) : (s.setStart x).freeN = s.freeN := rfl
@[simp] theorem State.setStart_box (x : Start) : (s.setStart x).box = s.box := rfl
@[simp] theorem State.setStart_ports (x : Start) : (s.setStart x).ports = s.ports := rfl
@[simp] theorem State.setStart_energy (x : Start) : (s.setStart x).energy = s.energy := rfl
@[simp] theorem State.setStart_phase (x : Start) : (s.setStart x).phase = s.phase := rfl
@[simp] theorem State.setStart_budget (x : Start) : (s.setStart x).budget = s.budget := rfl
@[simp] theorem State.setStart_idx (x : Start) : (s.setStart x).idx = s.idx := rfl
@[simp] theorem State.setStart_fdp (x : Start) : (s.setStart x).fdp = s.fdp := rfl
@[simp] theorem State.setStart_flash (x : Start) : (s.setStart x).flash = s.flash := rfl
@[simp] theorem State.setStart_fon (x : Start) : (s.setStart x).fon = s.fon := rfl
@[simp] theorem State.setStart_pending (x : Start) : (s.setStart x).pending = s.pending := rfl

/-! ### free -/

@[simp] theorem State.free_build (site w : Nat) : (s.free site w).2.build = s.build := rfl
@[simp] theorem State.free_objs (site w : Nat) : (s.free site w).2.objs = s.objs := rfl
@[simp] theorem State.free_held (site w : Nat) : (s.free site w).2.held = s.held := rfl
@[simp] theorem State.free_clock (site w : Nat) : (s.free site w).2.clock = s.clock := rfl
@[simp] theorem State.free_refs (site w : Nat) : (s.free site w).2.refs = s.refs := rfl
@[simp] theorem State.free_su (site w : Nat) : (s.free site w).2.su = s.su := rfl
@[simp] theorem State.free_flt (site w : Nat) : (s.free site w).2.flt = s.flt := rfl
@[simp] theorem State.free_inj (site w : Nat) : (s.free site w).2.inj = s.inj := rfl
@[simp] theorem State.free_rgn (site w : Nat) : (s.free site w).2.rgn = s.rgn := rfl
@[simp] theorem State.free_est (site w : Nat) : (s.free site w).2.est = s.est := rfl
@[simp] theorem State.free_lane (site w : Nat) : (s.free site w).2.lane = s.lane := rfl
@[simp] theorem State.free_ts (site w : Nat) : (s.free site w).2.ts = s.ts := rfl
@[simp] theorem State.free_cell (site w : Nat) : (s.free site w).2.cell = s.cell := rfl
@[simp] theorem State.free_fld (site w : Nat) : (s.free site w).2.fld = s.fld := rfl
@[simp] theorem State.free_grp (site w : Nat) : (s.free site w).2.grp = s.grp := rfl
@[simp] theorem State.free_dom (site w : Nat) : (s.free site w).2.dom = s.dom := rfl
@[simp] theorem State.free_pdWakes (site w : Nat) : (s.free site w).2.pdWakes = s.pdWakes := rfl
@[simp] theorem State.free_pdCmds (site w : Nat) : (s.free site w).2.pdCmds = s.pdCmds := rfl
@[simp] theorem State.free_pdLast (site w : Nat) : (s.free site w).2.pdLast = s.pdLast := rfl
@[simp] theorem State.free_link (site w : Nat) : (s.free site w).2.link = s.link := rfl
@[simp] theorem State.free_rail (site w : Nat) : (s.free site w).2.rail = s.rail := rfl
@[simp] theorem State.free_stop (site w : Nat) : (s.free site w).2.stop = s.stop := rfl
@[simp] theorem State.free_caps (site w : Nat) : (s.free site w).2.caps = s.caps := rfl
@[simp] theorem State.free_dict (site w : Nat) : (s.free site w).2.dict = s.dict := rfl
@[simp] theorem State.free_hop (site w : Nat) : (s.free site w).2.hop = s.hop := rfl
@[simp] theorem State.free_box (site w : Nat) : (s.free site w).2.box = s.box := rfl
@[simp] theorem State.free_ports (site w : Nat) : (s.free site w).2.ports = s.ports := rfl
@[simp] theorem State.free_energy (site w : Nat) : (s.free site w).2.energy = s.energy := rfl
@[simp] theorem State.free_phase (site w : Nat) : (s.free site w).2.phase = s.phase := rfl
@[simp] theorem State.free_budget (site w : Nat) : (s.free site w).2.budget = s.budget := rfl
@[simp] theorem State.free_idx (site w : Nat) : (s.free site w).2.idx = s.idx := rfl
@[simp] theorem State.free_fdp (site w : Nat) : (s.free site w).2.fdp = s.fdp := rfl
@[simp] theorem State.free_flash (site w : Nat) : (s.free site w).2.flash = s.flash := rfl
@[simp] theorem State.free_fon (site w : Nat) : (s.free site w).2.fon = s.fon := rfl
@[simp] theorem State.free_pending (site w : Nat) : (s.free site w).2.pending = s.pending := rfl

/-! ### holdOld -/

@[simp] theorem State.holdOld_build (o : Obj) (k e i : Nat) : (s.holdOld o k e i).build = s.build := rfl
@[simp] theorem State.holdOld_objs (o : Obj) (k e i : Nat) : (s.holdOld o k e i).objs = s.objs := rfl
@[simp] theorem State.holdOld_clock (o : Obj) (k e i : Nat) : (s.holdOld o k e i).clock = s.clock := rfl
@[simp] theorem State.holdOld_refs (o : Obj) (k e i : Nat) : (s.holdOld o k e i).refs = s.refs := rfl
@[simp] theorem State.holdOld_su (o : Obj) (k e i : Nat) : (s.holdOld o k e i).su = s.su := rfl
@[simp] theorem State.holdOld_flt (o : Obj) (k e i : Nat) : (s.holdOld o k e i).flt = s.flt := rfl
@[simp] theorem State.holdOld_inj (o : Obj) (k e i : Nat) : (s.holdOld o k e i).inj = s.inj := rfl
@[simp] theorem State.holdOld_rgn (o : Obj) (k e i : Nat) : (s.holdOld o k e i).rgn = s.rgn := rfl
@[simp] theorem State.holdOld_est (o : Obj) (k e i : Nat) : (s.holdOld o k e i).est = s.est := rfl
@[simp] theorem State.holdOld_lane (o : Obj) (k e i : Nat) : (s.holdOld o k e i).lane = s.lane := rfl
@[simp] theorem State.holdOld_ts (o : Obj) (k e i : Nat) : (s.holdOld o k e i).ts = s.ts := rfl
@[simp] theorem State.holdOld_cell (o : Obj) (k e i : Nat) : (s.holdOld o k e i).cell = s.cell := rfl
@[simp] theorem State.holdOld_fld (o : Obj) (k e i : Nat) : (s.holdOld o k e i).fld = s.fld := rfl
@[simp] theorem State.holdOld_grp (o : Obj) (k e i : Nat) : (s.holdOld o k e i).grp = s.grp := rfl
@[simp] theorem State.holdOld_dom (o : Obj) (k e i : Nat) : (s.holdOld o k e i).dom = s.dom := rfl
@[simp] theorem State.holdOld_pdWakes (o : Obj) (k e i : Nat) : (s.holdOld o k e i).pdWakes = s.pdWakes := rfl
@[simp] theorem State.holdOld_pdCmds (o : Obj) (k e i : Nat) : (s.holdOld o k e i).pdCmds = s.pdCmds := rfl
@[simp] theorem State.holdOld_pdLast (o : Obj) (k e i : Nat) : (s.holdOld o k e i).pdLast = s.pdLast := rfl
@[simp] theorem State.holdOld_link (o : Obj) (k e i : Nat) : (s.holdOld o k e i).link = s.link := rfl
@[simp] theorem State.holdOld_rail (o : Obj) (k e i : Nat) : (s.holdOld o k e i).rail = s.rail := rfl
@[simp] theorem State.holdOld_stop (o : Obj) (k e i : Nat) : (s.holdOld o k e i).stop = s.stop := rfl
@[simp] theorem State.holdOld_caps (o : Obj) (k e i : Nat) : (s.holdOld o k e i).caps = s.caps := rfl
@[simp] theorem State.holdOld_dict (o : Obj) (k e i : Nat) : (s.holdOld o k e i).dict = s.dict := rfl
@[simp] theorem State.holdOld_hop (o : Obj) (k e i : Nat) : (s.holdOld o k e i).hop = s.hop := rfl
@[simp] theorem State.holdOld_freeN (o : Obj) (k e i : Nat) : (s.holdOld o k e i).freeN = s.freeN := rfl
@[simp] theorem State.holdOld_box (o : Obj) (k e i : Nat) : (s.holdOld o k e i).box = s.box := rfl
@[simp] theorem State.holdOld_ports (o : Obj) (k e i : Nat) : (s.holdOld o k e i).ports = s.ports := rfl
@[simp] theorem State.holdOld_energy (o : Obj) (k e i : Nat) : (s.holdOld o k e i).energy = s.energy := rfl
@[simp] theorem State.holdOld_phase (o : Obj) (k e i : Nat) : (s.holdOld o k e i).phase = s.phase := rfl
@[simp] theorem State.holdOld_budget (o : Obj) (k e i : Nat) : (s.holdOld o k e i).budget = s.budget := rfl
@[simp] theorem State.holdOld_idx (o : Obj) (k e i : Nat) : (s.holdOld o k e i).idx = s.idx := rfl
@[simp] theorem State.holdOld_fdp (o : Obj) (k e i : Nat) : (s.holdOld o k e i).fdp = s.fdp := rfl
@[simp] theorem State.holdOld_flash (o : Obj) (k e i : Nat) : (s.holdOld o k e i).flash = s.flash := rfl
@[simp] theorem State.holdOld_fon (o : Obj) (k e i : Nat) : (s.holdOld o k e i).fon = s.fon := rfl
@[simp] theorem State.holdOld_pending (o : Obj) (k e i : Nat) : (s.holdOld o k e i).pending = s.pending := rfl

/-! ### newSpans -/

@[simp] theorem State.newSpans_build : (s.newSpans).build = s.build := rfl
@[simp] theorem State.newSpans_objs : (s.newSpans).objs = s.objs := rfl
@[simp] theorem State.newSpans_clock : (s.newSpans).clock = s.clock := rfl
@[simp] theorem State.newSpans_refs : (s.newSpans).refs = s.refs := rfl
@[simp] theorem State.newSpans_su : (s.newSpans).su = s.su := rfl
@[simp] theorem State.newSpans_flt : (s.newSpans).flt = s.flt := rfl
@[simp] theorem State.newSpans_inj : (s.newSpans).inj = s.inj := rfl
@[simp] theorem State.newSpans_rgn : (s.newSpans).rgn = s.rgn := rfl
@[simp] theorem State.newSpans_est : (s.newSpans).est = s.est := rfl
@[simp] theorem State.newSpans_lane : (s.newSpans).lane = s.lane := rfl
@[simp] theorem State.newSpans_ts : (s.newSpans).ts = s.ts := rfl
@[simp] theorem State.newSpans_cell : (s.newSpans).cell = s.cell := rfl
@[simp] theorem State.newSpans_fld : (s.newSpans).fld = s.fld := rfl
@[simp] theorem State.newSpans_grp : (s.newSpans).grp = s.grp := rfl
@[simp] theorem State.newSpans_dom : (s.newSpans).dom = s.dom := rfl
@[simp] theorem State.newSpans_pdWakes : (s.newSpans).pdWakes = s.pdWakes := rfl
@[simp] theorem State.newSpans_pdCmds : (s.newSpans).pdCmds = s.pdCmds := rfl
@[simp] theorem State.newSpans_pdLast : (s.newSpans).pdLast = s.pdLast := rfl
@[simp] theorem State.newSpans_link : (s.newSpans).link = s.link := rfl
@[simp] theorem State.newSpans_rail : (s.newSpans).rail = s.rail := rfl
@[simp] theorem State.newSpans_stop : (s.newSpans).stop = s.stop := rfl
@[simp] theorem State.newSpans_caps : (s.newSpans).caps = s.caps := rfl
@[simp] theorem State.newSpans_dict : (s.newSpans).dict = s.dict := rfl
@[simp] theorem State.newSpans_hop : (s.newSpans).hop = s.hop := rfl
@[simp] theorem State.newSpans_freeN : (s.newSpans).freeN = s.freeN := rfl
@[simp] theorem State.newSpans_box : (s.newSpans).box = s.box := rfl
@[simp] theorem State.newSpans_ports : (s.newSpans).ports = s.ports := rfl
@[simp] theorem State.newSpans_energy : (s.newSpans).energy = s.energy := rfl
@[simp] theorem State.newSpans_phase : (s.newSpans).phase = s.phase := rfl
@[simp] theorem State.newSpans_budget : (s.newSpans).budget = s.budget := rfl
@[simp] theorem State.newSpans_idx : (s.newSpans).idx = s.idx := rfl
@[simp] theorem State.newSpans_fdp : (s.newSpans).fdp = s.fdp := rfl
@[simp] theorem State.newSpans_flash : (s.newSpans).flash = s.flash := rfl
@[simp] theorem State.newSpans_fon : (s.newSpans).fon = s.fon := rfl
@[simp] theorem State.newSpans_pending : (s.newSpans).pending = s.pending := rfl

/-! ### wrHeld -/

@[simp] theorem State.wrHeld_build (o : Obj) (v e i : Nat) : (s.wrHeld o v e i).build = s.build := by
  unfold State.wrHeld; split <;> rfl
@[simp] theorem State.wrHeld_clock (o : Obj) (v e i : Nat) : (s.wrHeld o v e i).clock = s.clock := by
  unfold State.wrHeld; split <;> rfl
@[simp] theorem State.wrHeld_refs (o : Obj) (v e i : Nat) : (s.wrHeld o v e i).refs = s.refs := by
  unfold State.wrHeld; split <;> rfl
@[simp] theorem State.wrHeld_su (o : Obj) (v e i : Nat) : (s.wrHeld o v e i).su = s.su := by
  unfold State.wrHeld; split <;> rfl
@[simp] theorem State.wrHeld_flt (o : Obj) (v e i : Nat) : (s.wrHeld o v e i).flt = s.flt := by
  unfold State.wrHeld; split <;> rfl
@[simp] theorem State.wrHeld_inj (o : Obj) (v e i : Nat) : (s.wrHeld o v e i).inj = s.inj := by
  unfold State.wrHeld; split <;> rfl
@[simp] theorem State.wrHeld_rgn (o : Obj) (v e i : Nat) : (s.wrHeld o v e i).rgn = s.rgn := by
  unfold State.wrHeld; split <;> rfl
@[simp] theorem State.wrHeld_est (o : Obj) (v e i : Nat) : (s.wrHeld o v e i).est = s.est := by
  unfold State.wrHeld; split <;> rfl
@[simp] theorem State.wrHeld_lane (o : Obj) (v e i : Nat) : (s.wrHeld o v e i).lane = s.lane := by
  unfold State.wrHeld; split <;> rfl
@[simp] theorem State.wrHeld_ts (o : Obj) (v e i : Nat) : (s.wrHeld o v e i).ts = s.ts := by
  unfold State.wrHeld; split <;> rfl
@[simp] theorem State.wrHeld_cell (o : Obj) (v e i : Nat) : (s.wrHeld o v e i).cell = s.cell := by
  unfold State.wrHeld; split <;> rfl
@[simp] theorem State.wrHeld_fld (o : Obj) (v e i : Nat) : (s.wrHeld o v e i).fld = s.fld := by
  unfold State.wrHeld; split <;> rfl
@[simp] theorem State.wrHeld_grp (o : Obj) (v e i : Nat) : (s.wrHeld o v e i).grp = s.grp := by
  unfold State.wrHeld; split <;> rfl
@[simp] theorem State.wrHeld_dom (o : Obj) (v e i : Nat) : (s.wrHeld o v e i).dom = s.dom := by
  unfold State.wrHeld; split <;> rfl
@[simp] theorem State.wrHeld_pdWakes (o : Obj) (v e i : Nat) : (s.wrHeld o v e i).pdWakes = s.pdWakes := by
  unfold State.wrHeld; split <;> rfl
@[simp] theorem State.wrHeld_pdCmds (o : Obj) (v e i : Nat) : (s.wrHeld o v e i).pdCmds = s.pdCmds := by
  unfold State.wrHeld; split <;> rfl
@[simp] theorem State.wrHeld_pdLast (o : Obj) (v e i : Nat) : (s.wrHeld o v e i).pdLast = s.pdLast := by
  unfold State.wrHeld; split <;> rfl
@[simp] theorem State.wrHeld_link (o : Obj) (v e i : Nat) : (s.wrHeld o v e i).link = s.link := by
  unfold State.wrHeld; split <;> rfl
@[simp] theorem State.wrHeld_rail (o : Obj) (v e i : Nat) : (s.wrHeld o v e i).rail = s.rail := by
  unfold State.wrHeld; split <;> rfl
@[simp] theorem State.wrHeld_stop (o : Obj) (v e i : Nat) : (s.wrHeld o v e i).stop = s.stop := by
  unfold State.wrHeld; split <;> rfl
@[simp] theorem State.wrHeld_caps (o : Obj) (v e i : Nat) : (s.wrHeld o v e i).caps = s.caps := by
  unfold State.wrHeld; split <;> rfl
@[simp] theorem State.wrHeld_dict (o : Obj) (v e i : Nat) : (s.wrHeld o v e i).dict = s.dict := by
  unfold State.wrHeld; split <;> rfl
@[simp] theorem State.wrHeld_hop (o : Obj) (v e i : Nat) : (s.wrHeld o v e i).hop = s.hop := by
  unfold State.wrHeld; split <;> rfl
@[simp] theorem State.wrHeld_freeN (o : Obj) (v e i : Nat) : (s.wrHeld o v e i).freeN = s.freeN := by
  unfold State.wrHeld; split <;> rfl
@[simp] theorem State.wrHeld_box (o : Obj) (v e i : Nat) : (s.wrHeld o v e i).box = s.box := by
  unfold State.wrHeld; split <;> rfl
@[simp] theorem State.wrHeld_ports (o : Obj) (v e i : Nat) : (s.wrHeld o v e i).ports = s.ports := by
  unfold State.wrHeld; split <;> rfl
@[simp] theorem State.wrHeld_energy (o : Obj) (v e i : Nat) : (s.wrHeld o v e i).energy = s.energy := by
  unfold State.wrHeld; split <;> rfl
@[simp] theorem State.wrHeld_phase (o : Obj) (v e i : Nat) : (s.wrHeld o v e i).phase = s.phase := by
  unfold State.wrHeld; split <;> rfl
@[simp] theorem State.wrHeld_budget (o : Obj) (v e i : Nat) : (s.wrHeld o v e i).budget = s.budget := by
  unfold State.wrHeld; split <;> rfl
@[simp] theorem State.wrHeld_idx (o : Obj) (v e i : Nat) : (s.wrHeld o v e i).idx = s.idx := by
  unfold State.wrHeld; split <;> rfl
@[simp] theorem State.wrHeld_fdp (o : Obj) (v e i : Nat) : (s.wrHeld o v e i).fdp = s.fdp := by
  unfold State.wrHeld; split <;> rfl
@[simp] theorem State.wrHeld_flash (o : Obj) (v e i : Nat) : (s.wrHeld o v e i).flash = s.flash := by
  unfold State.wrHeld; split <;> rfl
@[simp] theorem State.wrHeld_fon (o : Obj) (v e i : Nat) : (s.wrHeld o v e i).fon = s.fon := by
  unfold State.wrHeld; split <;> rfl
@[simp] theorem State.wrHeld_pending (o : Obj) (v e i : Nat) : (s.wrHeld o v e i).pending = s.pending := by
  unfold State.wrHeld; split <;> rfl

end Sys2Proof.Machine
end

