-- ==== Sys2Proof/Laws/Ops.lean ====
section
/-! SUPPORT. What a read gives after each named operation on objects and records, and what a fold of operations leaves alone. -/

set_option Elab.async false

namespace Sys2Proof.Machine
open Sys2Proof

/-! ### Keys -/

theorem Obj.ctorIdx_inj {o o' : Obj} (h : o.ctorIdx = o'.ctorIdx) : o = o' := by
  have h1 := Obj.ofNat_ctorIdx o
  have h2 := Obj.ofNat_ctorIdx o'
  rw [h] at h1
  exact h1.symm.trans h2

/-- Two keys are equal only for the same object, element and subindex. -/
theorem objKey_eq {o o' : Obj} {e e' i i' : Nat} : objKey o e i = objKey o' e' i' ↔ o = o' ∧ e = e' ∧ i = i' := by
  unfold objKey
  rw [Nat.pair_eq_pair, Nat.pair_eq_pair]
  constructor
  · rintro ⟨h, h1, h2⟩; exact ⟨Obj.ctorIdx_inj h, h2, h1⟩
  · rintro ⟨rfl, rfl, rfl⟩; exact ⟨rfl, rfl, rfl⟩

/-! ### Objects -/

/-- An object's default depends on the build alone. -/
theorem State.dflt_congr {s t : State} (hb : t.build = s.build) (o : Obj) (e i : Nat) : t.dflt o e i = s.dflt o e i := by
  have hr : ∀ o e i, t.raw o e i = s.raw o e i := fun o e i => by unfold State.raw; rw [hb]
  unfold State.dflt State.perBuild State.config
  simp only [hr]

/-- A read depends on the objects and the build alone. -/
theorem State.rd_congr {s t : State} (ho : t.objs = s.objs) (hb : t.build = s.build) (o : Obj) (e i : Nat) :
    t.rd o e i = s.rd o e i := by
  unfold State.rd
  rw [ho, State.dflt_congr hb]

theorem State.dflt_wr (s : State) (o o' : Obj) (v e i e' i' : Nat) : (s.wr o v e i).dflt o' e' i' = s.dflt o' e' i' := rfl

/-- A read after a write. -/
theorem State.rd_wr (s : State) (o o' : Obj) (v e i e' i' : Nat) :
    (s.wr o v e i).rd o' e' i' = if o' = o ∧ e' = e ∧ i' = i then v % 2 ^ objBits o else s.rd o' e' i' := by
  unfold State.rd
  rw [State.dflt_wr]
  by_cases h : o' = o ∧ e' = e ∧ i' = i
  · obtain ⟨rfl, rfl, rfl⟩ := h
    rw [if_pos ⟨rfl, rfl, rfl⟩]
    exact Tab.get_set_self (α := Nat) s.objs _ _ _
  · rw [if_neg h]
    exact Tab.get_set_other (α := Nat) s.objs _ _ _ (fun hk => h (objKey_eq.1 hk))

@[simp] theorem State.rd_wr_self (s : State) (o : Obj) (v e i : Nat) : (s.wr o v e i).rd o e i = v % 2 ^ objBits o := by
  simp [State.rd_wr]

/-- A write of one object leaves every other object alone. -/
theorem State.rd_wr_other (s : State) {o o' : Obj} (h : o' ≠ o) (v e i e' i' : Nat) :
    (s.wr o v e i).rd o' e' i' = s.rd o' e' i' := by
  simp [State.rd_wr, h]

/-- A write at one element leaves every other element alone. -/
theorem State.rd_wr_elem (s : State) {o o' : Obj} {e e' : Nat} (h : e' ≠ e) (v i i' : Nat) :
    (s.wr o v e i).rd o' e' i' = s.rd o' e' i' := by
  simp [State.rd_wr, h]

/-! ### Records leave objects alone -/

@[simp] theorem State.rd_modR (s : State) (n : Nat) (f : Rgn → Rgn) (o : Obj) (e i : Nat) : (s.modR n f).rd o e i = s.rd o e i := rfl
@[simp] theorem State.rd_modE (s : State) (n : Nat) (f : Est → Est) (o : Obj) (e i : Nat) : (s.modE n f).rd o e i = s.rd o e i := rfl
@[simp] theorem State.rd_modLn (s : State) (n k : Nat) (f : Lane → Lane) (o : Obj) (e i : Nat) :
    (s.modLn n k f).rd o e i = s.rd o e i := rfl
@[simp] theorem State.rd_modTs (s : State) (n k : Nat) (f : Ts → Ts) (o : Obj) (e i : Nat) :
    (s.modTs n k f).rd o e i = s.rd o e i := rfl
@[simp] theorem State.rd_modC (s : State) (n k : Nat) (f : Cell → Cell) (o : Obj) (e i : Nat) :
    (s.modC n k f).rd o e i = s.rd o e i := rfl
@[simp] theorem State.rd_modF (s : State) (n : Nat) (f : Fld → Fld) (o : Obj) (e i : Nat) : (s.modF n f).rd o e i = s.rd o e i := rfl
@[simp] theorem State.rd_modG (s : State) (n : Nat) (f : Grp → Grp) (o : Obj) (e i : Nat) : (s.modG n f).rd o e i = s.rd o e i := rfl
@[simp] theorem State.rd_modD (s : State) (n : Nat) (f : Dom → Dom) (o : Obj) (e i : Nat) : (s.modD n f).rd o e i = s.rd o e i := rfl
@[simp] theorem State.rd_modL (s : State) (n : Nat) (f : Link → Link) (o : Obj) (e i : Nat) : (s.modL n f).rd o e i = s.rd o e i := rfl
@[simp] theorem State.rd_modRa (s : State) (n : Nat) (f : Rail → Rail) (o : Obj) (e i : Nat) : (s.modRa n f).rd o e i = s.rd o e i := rfl
@[simp] theorem State.rd_modBx (s : State) (n : Nat) (f : Box → Box) (o : Obj) (e i : Nat) : (s.modBx n f).rd o e i = s.rd o e i := rfl
@[simp] theorem State.rd_free (s : State) (site w : Nat) (o : Obj) (e i : Nat) : (s.free site w).2.rd o e i = s.rd o e i := rfl

/-! ### Values held to the end of a span (R253, R292) -/

@[simp] theorem State.rd_holdOld (s : State) (o : Obj) (k e i : Nat) (o' : Obj) (e' i' : Nat) :
    (s.holdOld o k e i).rd o' e' i' = s.rd o' e' i' := rfl
@[simp] theorem State.rd_newSpans (s : State) (o : Obj) (e i : Nat) : s.newSpans.rd o e i = s.rd o e i := rfl

/-- A held write is read back at once, and leaves every other value alone. -/
theorem State.rd_wrHeld (s : State) (o o' : Obj) (v e i e' i' : Nat) :
    (s.wrHeld o v e i).rd o' e' i' = if o' = o ∧ e' = e ∧ i' = i then v % 2 ^ objBits o else s.rd o' e' i' := by
  unfold State.wrHeld
  split
  · rw [State.rd_wr, State.rd_holdOld]
  · rw [State.rd_wr]

/-- With nothing held for it, the value in force is the value read. -/
theorem State.was_eq (s : State) (o : Obj) (k e i : Nat) (h : ∀ x ∈ s.held, x.key = objKey o e i → x.at0 < k) :
    s.was o k e i = s.rd o e i := by
  unfold State.was
  have hn : s.held.find? (fun h => h.key == objKey o e i && decide (k ≤ h.at0)) = none := by
    rw [List.find?_eq_none]
    intro x hx
    simp only [Bool.and_eq_true, beq_iff_eq, decide_eq_true_eq, not_and, not_le]
    exact h x hx
  rw [hn]

/-- A write with no span of its own in `held` keeps the old value in force to the end of its span. -/
theorem State.was_wrHeld (s : State) (o : Obj) (v k e i : Nat) (hs : s.spanOf o = some k)
    (h : ∀ x ∈ s.held, x.key ≠ objKey o e i) : (s.wrHeld o v e i).was o k e i = s.rd o e i := by
  have hf : s.held.filter (fun h => h.key != objKey o e i || decide (k ≤ h.at0 + 2)) = s.held :=
    List.filter_eq_self.2 fun x hx => by simp [h x hx]
  have ha : (s.held.any fun h => h.key == objKey o e i && h.at0 == k) = false := by
    rw [List.any_eq_false]
    intro x hx
    simp [h x hx]
  have hn : s.held.find? (fun h => h.key == objKey o e i && decide (k ≤ h.at0)) = none := by
    rw [List.find?_eq_none]
    intro x hx
    simp [h x hx]
  unfold State.wrHeld State.was State.holdOld
  rw [hs]
  simp only [State.wr, hf, ha]
  simp [hn]

/-! ### Records -/

theorem State.r_modR (s : State) (n m : Nat) (f : Rgn → Rgn) : (s.modR n f).r m = if m = n then f (s.r n) else s.r m := Tab.get_set _ _ _ _ _
theorem State.ee_modE (s : State) (n m : Nat) (f : Est → Est) : (s.modE n f).ee m = if m = n then f (s.ee n) else s.ee m := Tab.get_set _ _ _ _ _
theorem State.f_modF (s : State) (n m : Nat) (f : Fld → Fld) : (s.modF n f).f m = if m = n then f (s.f n) else s.f m := Tab.get_set _ _ _ _ _
theorem State.g_modG (s : State) (n m : Nat) (f : Grp → Grp) : (s.modG n f).g m = if m = n then f (s.g n) else s.g m := Tab.get_set _ _ _ _ _
theorem State.d_modD (s : State) (n m : Nat) (f : Dom → Dom) : (s.modD n f).d m = if m = n then f (s.d n) else s.d m := Tab.get_set _ _ _ _ _
theorem State.l_modL (s : State) (n m : Nat) (f : Link → Link) : (s.modL n f).l m = if m = n then f (s.l n) else s.l m := Tab.get_set _ _ _ _ _
theorem State.ra_modRa (s : State) (n m : Nat) (f : Rail → Rail) : (s.modRa n f).ra m = if m = n then f (s.ra n) else s.ra m := Tab.get_set _ _ _ _ _
theorem State.bx_modBx (s : State) (n m : Nat) (f : Box → Box) : (s.modBx n f).bx m = if m = n then f (s.bx n) else s.bx m := Tab.get_set _ _ _ _ _

@[simp] theorem State.r_modR_self (s : State) (n : Nat) (f : Rgn → Rgn) : (s.modR n f).r n = f (s.r n) := by simp [State.r_modR]
@[simp] theorem State.ee_modE_self (s : State) (n : Nat) (f : Est → Est) : (s.modE n f).ee n = f (s.ee n) := by simp [State.ee_modE]
@[simp] theorem State.f_modF_self (s : State) (n : Nat) (f : Fld → Fld) : (s.modF n f).f n = f (s.f n) := by simp [State.f_modF]
@[simp] theorem State.g_modG_self (s : State) (n : Nat) (f : Grp → Grp) : (s.modG n f).g n = f (s.g n) := by simp [State.g_modG]
@[simp] theorem State.d_modD_self (s : State) (n : Nat) (f : Dom → Dom) : (s.modD n f).d n = f (s.d n) := by simp [State.d_modD]
@[simp] theorem State.l_modL_self (s : State) (n : Nat) (f : Link → Link) : (s.modL n f).l n = f (s.l n) := by simp [State.l_modL]
@[simp] theorem State.ra_modRa_self (s : State) (n : Nat) (f : Rail → Rail) : (s.modRa n f).ra n = f (s.ra n) := by simp [State.ra_modRa]
@[simp] theorem State.bx_modBx_self (s : State) (n : Nat) (f : Box → Box) : (s.modBx n f).bx n = f (s.bx n) := by simp [State.bx_modBx]

/-! ### Folds and conditions -/

@[simp] theorem State.each_nil {α : Type} (s : State) (f : State → α → State) : s.each [] f = s := rfl
@[simp] theorem State.each_cons {α : Type} (s : State) (x : α) (l : List α) (f : State → α → State) :
    s.each (x :: l) f = (f s x).each l f := rfl

/-- What every step of a fold leaves alone, the fold leaves alone. -/
theorem State.each_same {α β : Type} (p : State → β) (f : State → α → State) (h : ∀ t x, p (f t x) = p t) (l : List α)
    (s : State) : p (s.each l f) = p s := by
  induction l generalizing s with
  | nil => rfl
  | cons x r ih => rw [State.each_cons, ih, h]

/-- What every step of a fold keeps true, the fold keeps true. -/
theorem State.each_keeps {α : Type} (p : State → Prop) (f : State → α → State) (h : ∀ t x, p t → p (f t x)) (l : List α)
    (s : State) (hs : p s) : p (s.each l f) := by
  induction l generalizing s with
  | nil => exact hs
  | cons x r ih => rw [State.each_cons]; exact ih _ (h _ _ hs)

@[simp] theorem State.when_true (s : State) (f : State → State) : s.when true f = f s := rfl
@[simp] theorem State.when_false (s : State) (f : State → State) : s.when false f = s := rfl

/-- What an operation leaves alone, its conditional form leaves alone. -/
theorem State.when_same {β : Type} (p : State → β) (f : State → State) (h : ∀ t, p (f t) = p t) (b : Bool) (s : State) :
    p (s.when b f) = p s := by
  cases b
  · rfl
  · exact h s

end Sys2Proof.Machine
end

