-- ==== Sys2Proof/Laws/Canon.lean ====
section
/-! SUPPORT. The canonical form is a closed property, and so is having a given build and queue. -/

set_option Elab.async false

namespace Sys2Proof.Machine
open Sys2Proof

/-- The parts of the canonical form. -/
theorem State.canon_iff (s : State) : s.canon = true ↔ s.objs.rising = true ∧ (∀ x ∈ s.objs, s.objFits x = true)
    ∧ s.rgn.canon {} = true ∧ s.est.canon {} = true ∧ s.lane.canon {} = true ∧ s.ts.canon {} = true
    ∧ s.cell.canon {} = true ∧ s.fld.canon {} = true ∧ s.grp.canon {} = true ∧ s.dom.canon {} = true
    ∧ s.link.canon {} = true ∧ s.rail.canon {} = true ∧ s.box.canon {} = true ∧ s.hop.canon {} = true
    ∧ s.phase.canon 0 = true := by
  simp only [State.canon, Bool.and_eq_true, List.all_eq_true, and_assoc]

/-- An entry that a write of an object lists. -/
theorem State.objFits_wr (s : State) (o : Obj) (v e i : Nat) (h : v % 2 ^ objBits o ≠ s.dflt o e i) :
    s.objFits (objKey o e i, v % 2 ^ objBits o) = true := by
  have hv : v % 2 ^ objBits o < 2 ^ objBits o := Nat.mod_lt _ (Nat.two_pow_pos _)
  simp only [State.objFits, objKey, Nat.unpair_pair]
  rw [Obj.ofNat_ctorIdx]
  simp [hv, h]

theorem State.canon_closed : Closed (fun s => s.canon = true) where
  wr := by
    intro s o v e i h
    rw [State.canon_iff] at h ⊢
    refine ⟨Tab.rising_set _ _ _ h.1, fun x hx => ?_, h.2.2⟩
    rcases Tab.mem_set hx with ⟨rfl, hv⟩ | hx
    · exact s.objFits_wr o v e i hv
    · exact h.2.1 x hx
  drop := by
    intro s o h
    rw [State.canon_iff] at h ⊢
    refine ⟨?_, fun x hx => h.2.1 x (List.mem_of_mem_filter hx), h.2.2⟩
    rw [Tab.rising_iff] at h ⊢
    exact h.1.sublist (List.filter_sublist.map _)
  zero := fun _ => rfl
  modR := by intro s n f h; rw [State.canon_iff] at h ⊢; exact ⟨h.1, h.2.1, Tab.canon_set _ _ _ h.2.2.1, h.2.2.2⟩
  modE := by
    intro s n f h; rw [State.canon_iff] at h ⊢
    obtain ⟨a, b, c, d, r⟩ := h; exact ⟨a, b, c, Tab.canon_set _ _ _ d, r⟩
  modLn := by
    intro s n i f h; rw [State.canon_iff] at h ⊢
    obtain ⟨a, b, c, d, x, r⟩ := h; exact ⟨a, b, c, d, Tab.canon_set _ _ _ x, r⟩
  modTs := by
    intro s n i f h; rw [State.canon_iff] at h ⊢
    obtain ⟨a, b, c, d, e, x, r⟩ := h; exact ⟨a, b, c, d, e, Tab.canon_set _ _ _ x, r⟩
  modC := by
    intro s n i f h; rw [State.canon_iff] at h ⊢
    obtain ⟨a, b, c, d, e, g, x, r⟩ := h; exact ⟨a, b, c, d, e, g, Tab.canon_set _ _ _ x, r⟩
  modF := by
    intro s n f h; rw [State.canon_iff] at h ⊢
    obtain ⟨a, b, c, d, e, g, i, x, r⟩ := h; exact ⟨a, b, c, d, e, g, i, Tab.canon_set _ _ _ x, r⟩
  modG := by
    intro s n f h; rw [State.canon_iff] at h ⊢
    obtain ⟨a, b, c, d, e, g, i, j, x, r⟩ := h; exact ⟨a, b, c, d, e, g, i, j, Tab.canon_set _ _ _ x, r⟩
  modD := by
    intro s n f h; rw [State.canon_iff] at h ⊢
    obtain ⟨a, b, c, d, e, g, i, j, k, x, r⟩ := h; exact ⟨a, b, c, d, e, g, i, j, k, Tab.canon_set _ _ _ x, r⟩
  modL := by
    intro s n f h; rw [State.canon_iff] at h ⊢
    obtain ⟨a, b, c, d, e, g, i, j, k, l, x, r⟩ := h; exact ⟨a, b, c, d, e, g, i, j, k, l, Tab.canon_set _ _ _ x, r⟩
  modRa := by
    intro s n f h; rw [State.canon_iff] at h ⊢
    obtain ⟨a, b, c, d, e, g, i, j, k, l, m, x, r⟩ := h
    exact ⟨a, b, c, d, e, g, i, j, k, l, m, Tab.canon_set _ _ _ x, r⟩
  modBx := by
    intro s n f h; rw [State.canon_iff] at h ⊢
    obtain ⟨a, b, c, d, e, g, i, j, k, l, m, o, x, r⟩ := h
    exact ⟨a, b, c, d, e, g, i, j, k, l, m, o, Tab.canon_set _ _ _ x, r⟩
  hop := by
    intro s k v h; rw [State.canon_iff] at h ⊢
    obtain ⟨a, b, c, d, e, g, i, j, k, l, m, o, p, x, r⟩ := h
    exact ⟨a, b, c, d, e, g, i, j, k, l, m, o, p, Tab.canon_set _ _ _ x, r⟩
  phase := by
    intro s k v h; rw [State.canon_iff] at h ⊢
    obtain ⟨a, b, c, d, e, g, i, j, k, l, m, o, p, q, r⟩ := h
    exact ⟨a, b, c, d, e, g, i, j, k, l, m, o, p, q, Tab.canon_set _ _ _ r⟩
  noPhase := by
    intro s h; rw [State.canon_iff] at h ⊢
    obtain ⟨a, b, c, d, e, g, i, j, k, l, m, o, p, q, _⟩ := h
    exact ⟨a, b, c, d, e, g, i, j, k, l, m, o, p, q, rfl⟩
  rest := by
    intro s t e1 e2 e3 e4 e5 e6 e7 e8 e9 e10 e11 e12 e13 e14 e15 _ h
    have hf : t.objFits = s.objFits := by
      funext x
      unfold State.objFits
      simp only [State.dflt_congr e2]
    rw [State.canon_iff] at h ⊢
    rw [e1, hf, e3, e4, e5, e6, e7, e8, e9, e10, e11, e12, e13, e14, e15]
    exact h

/-- No operation changes the build or the queue. -/
theorem State.fixed_closed (b : Build) (q : List Instr) : Closed (fun s => s.build = b ∧ s.pending = q) where
  wr h := h
  drop h := h
  zero h := h
  modR h := h
  modE h := h
  modLn h := h
  modTs h := h
  modC h := h
  modF h := h
  modG h := h
  modD h := h
  modL h := h
  modRa h := h
  modBx h := h
  hop h := h
  phase h := h
  noPhase h := h
  rest := by
    intro s t _ e2 _ _ _ _ _ _ _ _ _ _ _ _ _ e16 h
    exact ⟨e2.trans h.1, e16.trans h.2⟩

end Sys2Proof.Machine
end

