-- ==== Sys2Proof/Laws/KeepsA.lean ====
section
/-! SUPPORT. Operations of flags, oscillators, lanes, limits, crossings, regions and changes keep a closed property. -/

set_option Elab.async false

namespace Sys2Proof.Machine

variable {P : State → Prop}

/-! ### Flags -/

theorem State.setReady_keeps {s : State} {r : Rdy} {v : Bool} (hc : Closed P) (h : P s) :
    P (State.setReady s r v) := by
  unfold State.setReady
  repeat' first
    | with_reducible assumption | with_reducible refine State.setFlag_keeps hc ?_

theorem State.setStart_keeps {s : State} {x : Start} (hc : Closed P) (h : P s) :
    P (State.setStart s x) := by
  unfold State.setStart
  repeat' first
    | with_reducible assumption | with_reducible refine hc.wr ?_

theorem State.driveAlert_keeps {s : State} (hc : Closed P) (h : P s) :
    P (State.driveAlert s) := by
  unfold State.driveAlert
  repeat' first
    | with_reducible assumption | split | dsimp only | intro _ | with_reducible refine Closed.lit hc ?_

theorem State.alert_keeps {s : State} {cat : Nat} (hc : Closed P) (h : P s) :
    P (State.alert s cat) := by
  unfold State.alert
  repeat' first
    | with_reducible assumption | with_reducible refine State.setFlag_keeps hc ?_
    | with_reducible refine State.driveAlert_keeps hc ?_

theorem State.event_keeps {s : State} {code : Nat} {elem : Nat} {data : Nat} {injected : Bool}
    (hc : Closed P) (h : P s) :
    P (State.event s code elem data injected) := by
  unfold State.event
  repeat' first
    | with_reducible assumption | with_reducible refine State.when_kept ?_ ?_ | with_reducible refine hc.wr ?_
    | with_reducible refine State.inc_keeps hc ?_ | with_reducible refine State.addWrap_keeps hc ?_
    | with_reducible refine State.alert_keeps hc ?_ | split | dsimp only | intro _
    | with_reducible refine Closed.lit hc ?_

theorem State.dropNext_keeps {s : State} {g : Nat} (hc : Closed P) (h : P s) :
    P (State.dropNext s g) := by
  unfold State.dropNext
  repeat' first
    | with_reducible assumption | with_reducible refine hc.wr ?_ | with_reducible refine State.modG_keeps hc ?_

theorem State.markRuns_keeps {s : State} {gs : List Nat} {b : Nat} (hc : Closed P) (h : P s) :
    P (State.markRuns s gs b) := by
  unfold State.markRuns
  repeat' first
    | with_reducible assumption | with_reducible refine State.each_kept ?_ ?_
    | with_reducible refine State.setFlag_keeps hc ?_ | split | dsimp only | intro _

theorem State.faultRuns_keeps {s : State} (hc : Closed P) (h : P s) :
    P (State.faultRuns s) := by
  unfold State.faultRuns
  repeat' first
    | with_reducible assumption | with_reducible refine State.each_kept ?_ ?_
    | with_reducible refine State.modG_keeps hc ?_ | split | dsimp only | intro _

theorem State.noteFixed_keeps {s : State} {g : Nat} (hc : Closed P) (h : P s) :
    P (State.noteFixed s g) := by
  unfold State.noteFixed
  repeat' first
    | with_reducible assumption | with_reducible refine State.modG_keeps hc ?_

theorem State.dirty_keeps {s : State} {o : Obj} {e : Nat} {i : Nat} (hc : Closed P) (h : P s) :
    P (State.dirty s o e i) := by
  unfold State.dirty
  repeat' first
    | with_reducible assumption | split | dsimp only | intro _ | with_reducible refine Closed.lit hc ?_

theorem State.dirtyNow_keeps {s : State} {o : Obj} {e : Nat} (hc : Closed P) (h : P s) :
    P (State.dirtyNow s o e) := by
  unfold State.dirtyNow
  repeat' first
    | with_reducible assumption | with_reducible refine State.dirty_keeps hc ?_ | split | dsimp only | intro _
    | with_reducible refine Closed.lit hc ?_

theorem State.syHold_keeps {s : State} {x : SyIn} (hc : Closed P) (h : P s) :
    P (State.syHold s x) := by
  unfold State.syHold
  repeat' first
    | with_reducible assumption | split | dsimp only | intro _ | with_reducible refine Closed.lit hc ?_

theorem State.raiseFault_keeps {s : State} {cls : FaultClass} {unit : Nat} {elem : Nat} {detail : Nat} {injected : Bool}
    (hc : Closed P) (h : P s) :
    P (State.raiseFault s cls unit elem detail injected) := by
  unfold State.raiseFault
  repeat' first
    | with_reducible assumption | split | dsimp only | intro _ | with_reducible refine Closed.lit hc ?_

theorem State.spoil_keeps {s : State} {g : Nat} (hc : Closed P) (h : P s) :
    P (State.spoil s g) := by
  unfold State.spoil
  repeat' first
    | with_reducible assumption | with_reducible refine State.modG_keeps hc ?_

theorem State.unobserve_keeps {s : State} {g : Nat} (hc : Closed P) (h : P s) :
    P (State.unobserve s g) := by
  unfold State.unobserve
  repeat' first
    | with_reducible assumption | with_reducible refine State.modG_keeps hc ?_

theorem State.discardOcc_keeps {s : State} {g : Nat} (hc : Closed P) (h : P s) :
    P (State.discardOcc s g) := by
  unfold State.discardOcc
  repeat' first
    | with_reducible assumption | with_reducible refine hc.wr ?_ | with_reducible refine State.modG_keeps hc ?_
    | with_reducible refine State.inc_keeps hc ?_ | split

theorem State.endInjection_keeps {s : State} {result : Nat} (hc : Closed P) (h : P s) :
    P (State.endInjection s result) := by
  unfold State.endInjection
  repeat' first
    | with_reducible assumption | with_reducible refine State.when_kept ?_ ?_ | with_reducible refine hc.wr ?_
    | with_reducible refine State.inc_keeps hc ?_ | split | dsimp only | intro _
    | with_reducible refine Closed.lit hc ?_

theorem State.sramRead_keeps {s : State} {k : Sram} {el : Nat} {w : Nat} (hc : Closed P) (h : P s) :
    P (State.sramRead s k el w).2 := by
  unfold State.sramRead
  repeat' first
    | with_reducible assumption | with_reducible refine State.inc_keeps hc ?_
    | with_reducible refine State.endInjection_keeps hc ?_ | split | dsimp only | intro _
    | with_reducible refine Closed.lit hc ?_

theorem State.sramLost_keeps {s : State} {k : Sram} {unit : Nat} {elem : Nat} (hc : Closed P) (h : P s) :
    P (State.sramLost s k unit elem) := by
  unfold State.sramLost
  repeat' first
    | with_reducible assumption | with_reducible refine State.raiseFault_keeps hc ?_
    | with_reducible refine State.event_keeps hc ?_ | split

theorem State.readFlips_keeps {s : State} {sel : Flip → Bool} {lost : State → Flip → State}
    (hc : Closed P) (h : P s) (h_lost : ∀ t y, P t → P (lost t y)) :
    P (State.readFlips s sel lost).2 := by
  unfold State.readFlips
  repeat' first
    | with_reducible assumption | with_reducible apply h_lost | with_reducible refine State.each_kept ?_ ?_
    | with_reducible refine State.when_kept ?_ ?_ | with_reducible refine State.sramRead_keeps hc ?_ | split
    | dsimp only | intro _

theorem State.shiftWords_keeps {s : State} {k : Sram} {base : Nat} (hc : Closed P) (h : P s) :
    P (State.shiftWords s k base) := by
  unfold State.shiftWords
  repeat' first
    | with_reducible assumption | split | dsimp only | intro _ | with_reducible refine Closed.lit hc ?_

theorem State.queueRead_keeps {s : State} {q : Nat} (hc : Closed P) (h : P s) :
    P (State.queueRead s q).2 := by
  unfold State.queueRead
  repeat' first
    | with_reducible assumption | with_reducible refine State.when_kept ?_ ?_
    | with_reducible refine State.sramRead_keeps hc ?_ | with_reducible refine State.shiftWords_keeps hc ?_
    | with_reducible refine State.sramLost_keeps hc ?_ | split | dsimp only | intro _

/-! ### Osc -/

theorem State.setOsc_keeps {s : State} {n : Nat} {b : OscBit} {v : Bool} (hc : Closed P) (h : P s) :
    P (State.setOsc s n b v) := by
  unfold State.setOsc
  repeat' first
    | with_reducible assumption | with_reducible refine State.setFlag_keeps hc ?_

theorem State.holdCurve_keeps {s : State} {n : Nat} {old : Nat} (hc : Closed P) (h : P s) :
    P (State.holdCurve s n old) := by
  unfold State.holdCurve
  repeat' first
    | with_reducible assumption | with_reducible refine State.modR_keeps hc ?_

theorem State.loadSeed_keeps {s : State} {n : Nat} {ratio : Nat} (hc : Closed P) (h : P s) :
    P (State.loadSeed s n ratio) := by
  unfold State.loadSeed
  repeat' first
    | with_reducible assumption | with_reducible refine hc.wr ?_ | with_reducible refine State.modR_keeps hc ?_
    | with_reducible refine State.setOsc_keeps hc ?_

theorem State.showNoTether_keeps {s : State} {n : Nat} (hc : Closed P) (h : P s) :
    P (State.showNoTether s n) := by
  unfold State.showNoTether
  repeat' first
    | with_reducible assumption | with_reducible refine hc.wr ?_

theorem State.clearTether_keeps {s : State} {n : Nat} (hc : Closed P) (h : P s) :
    P (State.clearTether s n) := by
  unfold State.clearTether
  repeat' first
    | with_reducible assumption | with_reducible refine State.each_kept ?_ ?_ | with_reducible refine hc.wr ?_
    | with_reducible refine State.showNoTether_keeps hc ?_ | split | dsimp only | intro _

theorem State.startHold_keeps {s : State} {n : Nat} (hc : Closed P) (h : P s) :
    P (State.startHold s n) := by
  unfold State.startHold
  repeat' first
    | with_reducible assumption | with_reducible refine State.setOsc_keeps hc ?_
    | with_reducible refine State.modR_keeps hc ?_

theorem State.startRegion_keeps {s : State} {n : Nat} {ratio : Nat} (hc : Closed P) (h : P s) :
    P (State.startRegion s n ratio) := by
  unfold State.startRegion
  repeat' first
    | with_reducible assumption | with_reducible refine hc.wr ?_ | with_reducible refine State.modR_keeps hc ?_
    | with_reducible refine State.startHold_keeps hc ?_ | with_reducible refine State.clearTether_keeps hc ?_
    | with_reducible refine State.loadSeed_keeps hc ?_ | with_reducible refine State.setOsc_keeps hc ?_

theorem State.stopClock_keeps {s : State} {n : Nat} (hc : Closed P) (h : P s) :
    P (State.stopClock s n) := by
  unfold State.stopClock
  repeat' first
    | with_reducible assumption | with_reducible refine State.setOsc_keeps hc ?_
    | with_reducible refine State.setFlag_keeps hc ?_ | with_reducible refine State.clearTether_keeps hc ?_
    | with_reducible refine State.modR_keeps hc ?_

theorem State.releaseCount_keeps {s : State} {n : Nat} (hc : Closed P) (h : P s) :
    P (State.releaseCount s n) := by
  unfold State.releaseCount
  repeat' first
    | with_reducible assumption | with_reducible refine hc.wr ?_ | with_reducible refine State.setOsc_keeps hc ?_
    | with_reducible refine State.modR_keeps hc ?_

theorem State.holdFll_keeps {s : State} {n : Nat} {gates : Nat} (hc : Closed P) (h : P s) :
    P (State.holdFll s n gates) := by
  unfold State.holdFll
  repeat' first
    | with_reducible assumption | with_reducible refine State.setOsc_keeps hc ?_
    | with_reducible refine State.modR_keeps hc ?_

theorem State.unholdFll_keeps {s : State} {n : Nat} (hc : Closed P) (h : P s) :
    P (State.unholdFll s n) := by
  unfold State.unholdFll
  repeat' first
    | with_reducible assumption | with_reducible refine State.setOsc_keeps hc ?_
    | with_reducible refine State.modR_keeps hc ?_

theorem State.setLocked_keeps {s : State} {n : Nat} {v : Bool} (hc : Closed P) (h : P s) :
    P (State.setLocked s n v) := by
  unfold State.setLocked
  repeat' first
    | with_reducible assumption | with_reducible refine State.setOsc_keeps hc ?_
    | with_reducible refine State.modR_keeps hc ?_ | split

theorem State.ceilingTime_keeps {s : State} {n : Nat} (hc : Closed P) (h : P s) :
    P (State.ceilingTime s n) := by
  unfold State.ceilingTime
  repeat' first
    | with_reducible assumption | with_reducible refine State.modR_keeps hc ?_
    | with_reducible refine State.add_keeps hc ?_

theorem State.gateEnd_keeps {s : State} {n : Nat} (hc : Closed P) (h : P s) :
    P (State.gateEnd s n) := by
  unfold State.gateEnd
  repeat' first
    | with_reducible assumption | with_reducible refine State.when_kept ?_ ?_ | with_reducible refine hc.wr ?_
    | with_reducible refine State.modR_keeps hc ?_ | with_reducible refine State.ceilingTime_keeps hc ?_
    | with_reducible refine State.take_keeps hc ?_ | with_reducible refine State.setOsc_keeps hc ?_
    | with_reducible refine State.setLocked_keeps hc ?_ | with_reducible refine State.unholdFll_keeps hc ?_ | split
    | dsimp only | intro _

theorem State.sigmaDelta_keeps {s : State} {n : Nat} (hc : Closed P) (h : P s) :
    P (State.sigmaDelta s n) := by
  unfold State.sigmaDelta
  repeat' first
    | with_reducible assumption | with_reducible refine hc.wr ?_ | with_reducible refine State.modR_keeps hc ?_

theorem State.learnOffset_keeps {s : State} {n : Nat} (hc : Closed P) (h : P s) :
    P (State.learnOffset s n) := by
  unfold State.learnOffset
  repeat' first
    | with_reducible assumption | with_reducible refine State.wrInt_keeps hc ?_

theorem State.headroomReport_keeps {s : State} {n : Nat} (hc : Closed P) (h : P s) :
    P (State.headroomReport s n) := by
  unfold State.headroomReport
  repeat' first
    | with_reducible assumption | with_reducible refine State.when_kept ?_ ?_ | with_reducible refine hc.wr ?_
    | with_reducible refine State.wrSat_keeps hc ?_ | with_reducible refine State.wrInt_keeps hc ?_
    | with_reducible refine State.modR_keeps hc ?_ | split | dsimp only | intro _

theorem State.countHours_keeps {s : State} {n : Nat} (hc : Closed P) (h : P s) :
    P (State.countHours s n) := by
  unfold State.countHours
  repeat' first
    | with_reducible assumption | with_reducible refine State.add_keeps hc ?_
    | with_reducible refine State.modR_keeps hc ?_

theorem State.ageSampled_keeps {s : State} {n : Nat} {ratio : Nat} (hc : Closed P) (h : P s) :
    P (State.ageSampled s n ratio) := by
  unfold State.ageSampled
  repeat' first
    | with_reducible assumption | with_reducible refine hc.wr ?_ | with_reducible refine State.countHours_keeps hc ?_
    | with_reducible refine State.setOsc_keeps hc ?_ | with_reducible refine State.modR_keeps hc ?_

/-! ### Lanes -/

theorem State.recvEdge_keeps {s : State} {n : Nat} {e : Nat} {takes : List XTake} (hc : Closed P) (h : P s) :
    P (State.recvEdge s n e takes) := by
  unfold State.recvEdge
  repeat' first
    | with_reducible assumption | with_reducible refine State.modC_keeps hc ?_

theorem State.sendEdge_keeps {s : State} {e : Nat} {m : Nat} {words : List XWord} (hc : Closed P) (h : P s) :
    P (State.sendEdge s e m words) := by
  unfold State.sendEdge
  repeat' first
    | with_reducible assumption | with_reducible refine hc.wr ?_ | with_reducible refine State.modC_keeps hc ?_

theorem State.moveWords_keeps {s : State} {n : Nat} {words : List XWord} {takes : List XTake}
    (hc : Closed P) (h : P s) :
    P (State.moveWords s n words takes) := by
  unfold State.moveWords
  repeat' first
    | with_reducible assumption | with_reducible refine State.each_kept ?_ ?_
    | with_reducible refine State.recvEdge_keeps hc ?_ | with_reducible refine State.sendEdge_keeps hc ?_ | split
    | dsimp only | intro _

/-! ### Stretch -/

theorem State.setDs_keeps {s : State} {n : Nat} {b : Nat} {v : Bool} (hc : Closed P) (h : P s) :
    P (State.setDs s n b v) := by
  unfold State.setDs
  repeat' first
    | with_reducible assumption | with_reducible refine State.setFlag_keeps hc ?_

theorem State.beginRun_keeps {s : State} {n : Nat} {d : Nat} (hc : Closed P) (h : P s) :
    P (State.beginRun s n d) := by
  unfold State.beginRun
  repeat' first
    | with_reducible assumption | with_reducible refine State.setDs_keeps hc ?_
    | with_reducible refine State.inc_keeps hc ?_ | with_reducible refine State.modR_keeps hc ?_

theorem State.stopRun_keeps {s : State} {n : Nat} (hc : Closed P) (h : P s) :
    P (State.stopRun s n) := by
  unfold State.stopRun
  repeat' first
    | with_reducible assumption | with_reducible refine State.setDs_keeps hc ?_
    | with_reducible refine State.modR_keeps hc ?_

theorem State.endRun_keeps {s : State} {n : Nat} (hc : Closed P) (h : P s) :
    P (State.endRun s n) := by
  unfold State.endRun
  repeat' first
    | with_reducible assumption | with_reducible refine State.stopRun_keeps hc ?_
    | with_reducible refine State.beginRun_keeps hc ?_ | split

theorem State.quarantine_keeps {s : State} {n : Nat} {i : Nat} (hc : Closed P) (h : P s) :
    P (State.quarantine s n i) := by
  unfold State.quarantine
  repeat' first
    | with_reducible assumption | with_reducible refine State.when_kept ?_ ?_
    | with_reducible refine State.setFlag_keeps hc ?_ | with_reducible refine State.setDs_keeps hc ?_
    | with_reducible refine State.inc_keeps hc ?_ | with_reducible refine State.modR_keeps hc ?_
    | with_reducible refine State.dirtyNow_keeps hc ?_ | with_reducible refine State.event_keeps hc ?_
    | with_reducible refine State.markRuns_keeps hc ?_ | split | dsimp only | intro _

theorem State.unquarantine_keeps {s : State} {n : Nat} {mask : Nat} (hc : Closed P) (h : P s) :
    P (State.unquarantine s n mask) := by
  unfold State.unquarantine
  repeat' first
    | with_reducible assumption | with_reducible refine State.when_kept ?_ ?_ | with_reducible refine hc.wr ?_
    | with_reducible refine State.setDs_keeps hc ?_ | with_reducible refine State.modR_keeps hc ?_ | split
    | dsimp only | intro _

theorem State.removeSensors_keeps {s : State} {n : Nat} {mask : Nat} (hc : Closed P) (h : P s) :
    P (State.removeSensors s n mask) := by
  unfold State.removeSensors
  repeat' first
    | with_reducible assumption | with_reducible refine State.unquarantine_keeps hc ?_
    | with_reducible refine State.modR_keeps hc ?_

theorem State.tetherCycle_keeps {s : State} {n : Nat} {late : Nat} (hc : Closed P) (h : P s) :
    P (State.tetherCycle s n late) := by
  unfold State.tetherCycle
  repeat' first
    | with_reducible assumption | with_reducible refine State.each_kept ?_ ?_
    | with_reducible refine State.when_kept ?_ ?_ | with_reducible refine hc.wr ?_
    | with_reducible refine State.wrInt_keeps hc ?_ | with_reducible refine State.modR_keeps hc ?_
    | with_reducible refine State.take_keeps hc ?_ | with_reducible refine State.inc_keeps hc ?_
    | with_reducible refine State.endInjection_keeps hc ?_ | split | dsimp only | intro _

theorem State.countStretch_keeps {s : State} {n : Nat} {d : Nat} {who : Charge} (hc : Closed P) (h : P s) :
    P (State.countStretch s n d who) := by
  unfold State.countStretch
  repeat' first
    | with_reducible assumption | with_reducible refine State.addWrap_keeps hc ?_ | split

theorem State.countWindow_keeps {s : State} {n : Nat} {d : Nat} {who : Charge} (hc : Closed P) (h : P s) :
    P (State.countWindow s n d who) := by
  unfold State.countWindow
  repeat' first
    | with_reducible assumption | with_reducible refine State.modE_keeps hc ?_

theorem State.countHold_keeps {s : State} {n : Nat} {d : Nat} {thermal : Bool} (hc : Closed P) (h : P s) :
    P (State.countHold s n d thermal) := by
  unfold State.countHold
  repeat' first
    | with_reducible assumption | with_reducible refine State.modE_keeps hc ?_

theorem State.chargeTether_keeps {s : State} {n : Nat} {d : Nat} {t : Tag} (hc : Closed P) (h : P s) :
    P (State.chargeTether s n d t) := by
  unfold State.chargeTether
  repeat' first
    | with_reducible assumption | with_reducible refine State.modR_keeps hc ?_
    | with_reducible refine State.addWrap_keeps hc ?_ | with_reducible refine State.modE_keeps hc ?_ | split

theorem State.chargePeriod_keeps {s : State} {n : Nat} {d : Nat} {who : Charge} (hc : Closed P) (h : P s) :
    P (State.chargePeriod s n d who) := by
  unfold State.chargePeriod
  repeat' first
    | with_reducible assumption | with_reducible refine hc.wr ?_
    | with_reducible refine State.countStretch_keeps hc ?_ | with_reducible refine State.countWindow_keeps hc ?_
    | with_reducible refine State.chargeTether_keeps hc ?_ | with_reducible refine State.modR_keeps hc ?_ | split

theorem State.stretchCycle_keeps {s : State} {n : Nat} (hc : Closed P) (h : P s) :
    P (State.stretchCycle s n) := by
  unfold State.stretchCycle
  repeat' first
    | with_reducible assumption | with_reducible refine State.addWrap_keeps hc ?_
    | with_reducible refine State.chargePeriod_keeps hc ?_ | with_reducible refine State.modR_keeps hc ?_

theorem State.stretchNow_keeps {s : State} {n : Nat} {x : Nat} (hc : Closed P) (h : P s) :
    P (State.stretchNow s n x) := by
  unfold State.stretchNow
  repeat' first
    | with_reducible assumption | with_reducible refine State.when_kept ?_ ?_ | with_reducible refine hc.wr ?_
    | with_reducible refine State.chargePeriod_keeps hc ?_ | with_reducible refine State.modR_keeps hc ?_ | split
    | dsimp only | intro _

theorem State.sample_keeps {s : State} {n : Nat} {x : DsSample} (hc : Closed P) (h : P s) :
    P (State.sample s n x) := by
  unfold State.sample
  repeat' first
    | with_reducible assumption | with_reducible refine State.when_kept ?_ ?_
    | with_reducible refine State.setDs_keeps hc ?_ | with_reducible refine State.inc_keeps hc ?_
    | with_reducible refine State.modR_keeps hc ?_ | with_reducible refine State.beginRun_keeps hc ?_
    | with_reducible refine State.stretchNow_keeps hc ?_ | split | dsimp only | intro _

theorem State.copyTags_keeps {s : State} {n : Nat} (hc : Closed P) (h : P s) :
    P (State.copyTags s n) := by
  unfold State.copyTags
  repeat' first
    | with_reducible assumption | with_reducible refine State.modR_keeps hc ?_

theorem State.advanceTime_keeps {s : State} {n : Nat} {dur : Nat} (hc : Closed P) (h : P s) :
    P (State.advanceTime s n dur) := by
  unfold State.advanceTime
  repeat' first
    | with_reducible assumption | with_reducible refine State.addWrap_keeps hc ?_
    | with_reducible refine State.modR_keeps hc ?_

theorem State.endPeriod_keeps {s : State} {n : Nat} {dur : Nat} (hc : Closed P) (h : P s) :
    P (State.endPeriod s n dur) := by
  unfold State.endPeriod
  repeat' first
    | with_reducible assumption | with_reducible refine State.modR_keeps hc ?_
    | with_reducible refine State.endInjection_keeps hc ?_ | split | dsimp only | intro _
    | with_reducible refine Closed.lit hc ?_

theorem State.refuseOffers_keeps {s : State} {n : Nat} {words : List XWord} (hc : Closed P) (h : P s) :
    P (State.refuseOffers s n words) := by
  unfold State.refuseOffers
  repeat' first
    | with_reducible assumption | with_reducible refine hc.wr ?_ | with_reducible refine State.addWrap_keeps hc ?_

theorem State.askLane_keeps {s : State} {n : Nat} (hc : Closed P) (h : P s) :
    P (State.askLane s n) := by
  unfold State.askLane
  repeat' first
    | with_reducible assumption | with_reducible refine State.when_kept ?_ ?_
    | with_reducible refine State.modE_keeps hc ?_ | split | dsimp only | intro _

theorem State.cycle_keeps {s : State} {n : Nat} {io : CycleIn} (hc : Closed P) (h : P s) :
    P (State.cycle s n io) := by
  unfold State.cycle
  repeat' first
    | with_reducible assumption | with_reducible refine State.when_kept ?_ ?_ | with_reducible refine hc.wr ?_
    | with_reducible refine State.endPeriod_keeps hc ?_ | with_reducible refine State.endRun_keeps hc ?_
    | with_reducible refine State.modR_keeps hc ?_ | with_reducible refine State.modE_keeps hc ?_
    | with_reducible refine State.advanceTime_keeps hc ?_ | with_reducible refine State.copyTags_keeps hc ?_
    | with_reducible refine State.tetherCycle_keeps hc ?_ | with_reducible refine State.stretchCycle_keeps hc ?_
    | with_reducible refine State.refuseOffers_keeps hc ?_ | with_reducible refine State.moveWords_keeps hc ?_
    | with_reducible refine State.askLane_keeps hc ?_ | split | dsimp only | intro _

theorem State.givePark_keeps {s : State} {n : Nat} {count : Nat} {release : Nat} {thermal : Bool}
    (hc : Closed P) (h : P s) :
    P (State.givePark s n count release thermal) := by
  unfold State.givePark
  repeat' first
    | with_reducible assumption | with_reducible refine State.raiseFault_keeps hc ?_
    | with_reducible refine State.modR_keeps hc ?_ | split

theorem State.parkHold_keeps {s : State} {n : Nat} (hc : Closed P) (h : P s) :
    P (State.parkHold s n) := by
  unfold State.parkHold
  repeat' first
    | with_reducible assumption | with_reducible refine State.unobserve_keeps hc ?_
    | with_reducible refine State.setDs_keeps hc ?_ | with_reducible refine State.stopRun_keeps hc ?_
    | with_reducible refine State.showNoTether_keeps hc ?_ | with_reducible refine State.modR_keeps hc ?_

theorem State.parkEnd_keeps {s : State} {n : Nat} {p : Park} (hc : Closed P) (h : P s) :
    P (State.parkEnd s n p) := by
  unfold State.parkEnd
  repeat' first
    | with_reducible assumption | with_reducible refine hc.wr ?_ | with_reducible refine State.setDs_keeps hc ?_
    | with_reducible refine State.addWrap_keeps hc ?_ | with_reducible refine State.countHold_keeps hc ?_
    | with_reducible refine State.modR_keeps hc ?_

theorem State.unpark_keeps {s : State} {n : Nat} (hc : Closed P) (h : P s) :
    P (State.unpark s n) := by
  unfold State.unpark
  repeat' first
    | with_reducible assumption | with_reducible refine State.parkEnd_keeps hc ?_
    | with_reducible refine State.setDs_keeps hc ?_ | with_reducible refine State.modR_keeps hc ?_ | split

/-! ### Limits -/

theorem State.showCeiling_keeps {s : State} {g : Nat} (hc : Closed P) (h : P s) :
    P (State.showCeiling s g) := by
  unfold State.showCeiling
  repeat' first
    | with_reducible assumption | with_reducible refine State.when_kept ?_ ?_ | with_reducible refine hc.wr ?_
    | with_reducible refine State.spoil_keeps hc ?_ | split | dsimp only | intro _

theorem State.sendDirective_keeps {s : State} {f : Nat} (hc : Closed P) (h : P s) :
    P (State.sendDirective s f) := by
  unfold State.sendDirective
  repeat' first
    | with_reducible assumption | with_reducible refine State.each_kept ?_ ?_
    | with_reducible refine State.modRa_keeps hc ?_ | with_reducible refine State.modF_keeps hc ?_ | split
    | dsimp only | intro _ | with_reducible refine Closed.lit hc ?_

theorem State.recompute_keeps {s : State} (hc : Closed P) (h : P s) :
    P (State.recompute s) := by
  unfold State.recompute
  repeat' first
    | with_reducible assumption | with_reducible refine State.each_kept ?_ ?_
    | with_reducible refine State.when_kept ?_ ?_ | with_reducible refine hc.wr ?_
    | with_reducible refine State.sendDirective_keeps hc ?_ | split | dsimp only | intro _
    | with_reducible refine Closed.lit hc ?_

theorem State.recomputeRails_keeps {s : State} (hc : Closed P) (h : P s) :
    P (State.recomputeRails s) := by
  unfold State.recomputeRails
  repeat' first
    | with_reducible assumption | with_reducible refine State.each_kept ?_ ?_ | with_reducible refine hc.wr ?_ | split
    | dsimp only | intro _

theorem State.limitsDue_keeps {s : State} (hc : Closed P) (h : P s) :
    P (State.limitsDue s) := by
  unfold State.limitsDue
  repeat' first
    | with_reducible assumption | split | dsimp only | intro _ | with_reducible refine Closed.lit hc ?_

theorem State.showCapFlags_keeps {s : State} (hc : Closed P) (h : P s) :
    P (State.showCapFlags s) := by
  unfold State.showCapFlags
  repeat' first
    | with_reducible assumption | with_reducible refine State.setFlag_keeps hc ?_

/-! ### RailBase -/

theorem State.sendCmd_keeps {s : State} {k : Nat} {c : LCmd} (hc : Closed P) (h : P s) :
    P (State.sendCmd s k c) := by
  unfold State.sendCmd
  repeat' first
    | with_reducible assumption | with_reducible refine State.modL_keeps hc ?_

theorem State.withdraw_keeps {s : State} {k : Nat} {c : LCmd} (hc : Closed P) (h : P s) :
    P (State.withdraw s k c) := by
  unfold State.withdraw
  repeat' first
    | with_reducible assumption | with_reducible refine State.each_kept ?_ ?_
    | with_reducible refine State.when_kept ?_ ?_ | with_reducible refine hc.wr ?_
    | with_reducible refine State.modL_keeps hc ?_ | with_reducible refine State.modRa_keeps hc ?_ | split
    | dsimp only | intro _

theorem State.resend_keeps {s : State} {k : Nat} {c : LCmd} (hc : Closed P) (h : P s) :
    P (State.resend s k c) := by
  unfold State.resend
  repeat' first
    | with_reducible assumption | with_reducible refine State.each_kept ?_ ?_
    | with_reducible refine State.withdraw_keeps hc ?_ | with_reducible refine State.inc_keeps hc ?_
    | with_reducible refine State.modL_keeps hc ?_ | split | dsimp only | intro _

theorem State.pumpOne_keeps {s : State} {k : Nat} (hc : Closed P) (h : P s) :
    P (State.pumpOne s k) := by
  unfold State.pumpOne
  repeat' first
    | with_reducible assumption | with_reducible refine State.each_kept ?_ ?_
    | with_reducible refine State.resend_keeps hc ?_ | with_reducible refine State.modL_keeps hc ?_
    | with_reducible refine State.sendCmd_keeps hc ?_ | with_reducible refine State.modRa_keeps hc ?_ | split
    | dsimp only | intro _

theorem State.pump_keeps {s : State} {k : Nat} (hc : Closed P) (h : P s) :
    P (State.pump s k) := by
  unfold State.pump
  repeat' first
    | with_reducible assumption | with_reducible refine State.pumpOne_keeps hc ?_ | split

theorem State.queueCmd_keeps {s : State} {k : Nat} {c : LCmd} (hc : Closed P) (h : P s) :
    P (State.queueCmd s k c) := by
  unfold State.queueCmd
  repeat' first
    | with_reducible assumption | with_reducible refine State.modL_keeps hc ?_
    | with_reducible refine State.pump_keeps hc ?_

theorem State.recoverRail_keeps {s : State} {r : Nat} (hc : Closed P) (h : P s) :
    P (State.recoverRail s r) := by
  unfold State.recoverRail
  repeat' first
    | with_reducible assumption | with_reducible refine State.modRa_keeps hc ?_
    | with_reducible refine State.queueCmd_keeps hc ?_

theorem State.requestVolt_keeps {s : State} {f : Nat} {v : Nat} (hc : Closed P) (h : P s) :
    P (State.requestVolt s f v) := by
  unfold State.requestVolt
  repeat' first
    | with_reducible assumption | with_reducible refine State.each_kept ?_ ?_
    | with_reducible refine State.when_kept ?_ ?_ | with_reducible refine hc.wr ?_
    | with_reducible refine State.modF_keeps hc ?_ | with_reducible refine State.modRa_keeps hc ?_
    | with_reducible refine State.pump_keeps hc ?_ | split | dsimp only | intro _

theorem State.predictVolt_keeps {s : State} {f : Nat} {ratio : Nat} {own : Option (Nat × Nat)}
    (hc : Closed P) (h : P s) :
    P (State.predictVolt s f ratio own).2 := by
  unfold State.predictVolt
  repeat' first
    | with_reducible assumption | with_reducible refine State.when_kept ?_ ?_ | with_reducible refine hc.wr ?_
    | with_reducible refine State.inc_keeps hc ?_ | split | dsimp only | intro _

theorem State.requestNow_keeps {s : State} {f : Nat} {keep : Bool} (hc : Closed P) (h : P s) :
    P (State.requestNow s f keep) := by
  unfold State.requestNow
  repeat' first
    | with_reducible assumption | with_reducible refine State.predictVolt_keeps hc ?_
    | with_reducible refine State.requestVolt_keeps hc ?_

theorem State.askVolt_keeps {s : State} {f : Nat} (hc : Closed P) (h : P s) :
    P (State.askVolt s f) := by
  unfold State.askVolt
  repeat' first
    | with_reducible assumption | with_reducible refine State.modF_keeps hc ?_
    | with_reducible refine State.requestNow_keeps hc ?_ | split

theorem State.freeVolt_keeps {s : State} {f : Nat} {keep : Bool} (hc : Closed P) (h : P s) :
    P (State.freeVolt s f keep) := by
  unfold State.freeVolt
  repeat' first
    | with_reducible assumption | with_reducible refine State.modF_keeps hc ?_
    | with_reducible refine State.requestNow_keeps hc ?_ | split | dsimp only

theorem State.startRecoveries_keeps {s : State} {g : Nat} {keep : Bool} (hc : Closed P) (h : P s) :
    P (State.startRecoveries s g keep) := by
  unfold State.startRecoveries
  repeat' first
    | with_reducible assumption | with_reducible refine State.each_kept ?_ ?_
    | with_reducible refine State.recoverRail_keeps hc ?_ | with_reducible refine State.freeVolt_keeps hc ?_ | split
    | dsimp only | intro _

/-! ### Cross -/

theorem State.resync_keeps {s : State} {n : Nat} {e : Nat} {f : Cell → Cell} (hc : Closed P) (h : P s) :
    P (State.resync s n e f) := by
  unfold State.resync
  repeat' first
    | with_reducible assumption | with_reducible refine State.when_kept ?_ ?_
    | with_reducible refine State.modC_keeps hc ?_ | with_reducible refine State.inc_keeps hc ?_ | split | dsimp only
    | intro _

theorem State.fenceAll_keeps {s : State} {n : Nat} (hc : Closed P) (h : P s) :
    P (State.fenceAll s n) := by
  unfold State.fenceAll
  repeat' first
    | with_reducible assumption | with_reducible refine State.each_kept ?_ ?_ | with_reducible refine hc.wr ?_
    | with_reducible refine State.modC_keeps hc ?_ | split | dsimp only | intro _

theorem State.isolateCells_keeps {s : State} {n : Nat} (hc : Closed P) (h : P s) :
    P (State.isolateCells s n) := by
  unfold State.isolateCells
  repeat' first
    | with_reducible assumption | with_reducible refine State.each_kept ?_ ?_
    | with_reducible refine State.modC_keeps hc ?_ | split | dsimp only | intro _

theorem State.reopenCells_keeps {s : State} {n : Nat} (hc : Closed P) (h : P s) :
    P (State.reopenCells s n) := by
  unfold State.reopenCells
  repeat' first
    | with_reducible assumption | with_reducible refine State.each_kept ?_ ?_
    | with_reducible refine State.modC_keeps hc ?_ | split | dsimp only | intro _

theorem State.joinCells_keeps {s : State} {n : Nat} (hc : Closed P) (h : P s) :
    P (State.joinCells s n) := by
  unfold State.joinCells
  repeat' first
    | with_reducible assumption | with_reducible refine State.each_kept ?_ ?_ | with_reducible refine hc.wr ?_
    | with_reducible refine State.modC_keeps hc ?_ | split | dsimp only | intro _

theorem State.applyFence_keeps {s : State} {n : Nat} {old : Nat} {new : Nat} (hc : Closed P) (h : P s) :
    P (State.applyFence s n old new) := by
  unfold State.applyFence
  repeat' first
    | with_reducible assumption | with_reducible refine State.each_kept ?_ ?_ | with_reducible refine hc.wr ?_
    | with_reducible refine State.modC_keeps hc ?_ | split | dsimp only | intro _

theorem State.setIslands_keeps {s : State} {g : Nat} (hc : Closed P) (h : P s) :
    P (State.setIslands s g) := by
  unfold State.setIslands
  repeat' first
    | with_reducible assumption | with_reducible refine hc.wr ?_ | with_reducible refine State.modG_keeps hc ?_

theorem State.islandsDueAt_keeps {s : State} {n : Nat} (hc : Closed P) (h : P s) :
    P (State.islandsDueAt s n) := by
  unfold State.islandsDueAt
  repeat' first
    | with_reducible assumption | with_reducible refine State.when_kept ?_ ?_
    | with_reducible refine State.modG_keeps hc ?_ | split | dsimp only | intro _

theorem State.raiseReq_keeps {s : State} {n : Nat} (hc : Closed P) (h : P s) :
    P (State.raiseReq s n) := by
  unfold State.raiseReq
  repeat' first
    | with_reducible assumption | with_reducible refine State.each_kept ?_ ?_
    | with_reducible refine State.modC_keeps hc ?_ | split | dsimp only | intro _

theorem State.endTripStop_keeps {s : State} {n : Nat} (hc : Closed P) (h : P s) :
    P (State.endTripStop s n) := by
  unfold State.endTripStop
  repeat' first
    | with_reducible assumption | with_reducible refine State.when_kept ?_ ?_
    | with_reducible refine State.tripStop_keeps hc ?_ | with_reducible refine State.stopClock_keeps hc ?_ | split
    | dsimp only | intro _

theorem State.tripStop_keeps {s : State} {n : Nat} (hc : Closed P) (h : P s) :
    P (State.tripStop s n) := by
  unfold State.tripStop
  repeat' first
    | with_reducible assumption | with_reducible refine State.modR_keeps hc ?_
    | with_reducible refine State.raiseReq_keeps hc ?_ | with_reducible refine State.endTripStop_keeps hc ?_

theorem execResyncReqSeen_keeps {n : Nat} {e : Nat} {wr : Bool} {s : State} (hc : Closed P) (h : P s) :
    ∀ t, execResyncReqSeen n e wr s = .next t → P t := by
  unfold execResyncReqSeen
  repeat' first
    | with_reducible refine next_kept ?_ | with_reducible assumption | with_reducible refine State.when_kept ?_ ?_
    | with_reducible refine hc.wr ?_ | with_reducible refine State.resync_keeps hc ?_ | split | dsimp only | intro _

theorem execResyncAckSeen_keeps {n : Nat} {e : Nat} {wr : Bool} {s : State} (hc : Closed P) (h : P s) :
    ∀ t, execResyncAckSeen n e wr s = .next t → P t := by
  unfold execResyncAckSeen
  repeat' first
    | with_reducible refine next_kept ?_ | with_reducible assumption | with_reducible refine State.when_kept ?_ ?_
    | with_reducible refine hc.wr ?_ | with_reducible refine State.endTripStop_keeps hc ?_
    | with_reducible refine State.resync_keeps hc ?_ | split | dsimp only | intro _

theorem execResyncReqLowSeen_keeps {n : Nat} {e : Nat} {wr : Bool} (_u : Unit) {s : State} (hc : Closed P) (h : P s) :
    ∀ t, execResyncReqLowSeen n e wr _u s = .next t → P t := by
  unfold execResyncReqLowSeen
  repeat' first
    | with_reducible refine next_kept ?_ | with_reducible assumption | with_reducible refine State.when_kept ?_ ?_
    | with_reducible refine hc.wr ?_ | with_reducible refine State.addWrap_keeps hc ?_
    | with_reducible refine State.resync_keeps hc ?_ | split | dsimp only | intro _

theorem execResyncAckLowSeen_keeps {n : Nat} {e : Nat} {wr : Bool} {s : State} (hc : Closed P) (h : P s) :
    ∀ t, execResyncAckLowSeen n e wr s = .next t → P t := by
  unfold execResyncAckLowSeen
  repeat' first
    | with_reducible refine next_kept ?_ | with_reducible assumption | with_reducible refine State.when_kept ?_ ?_
    | with_reducible refine hc.wr ?_ | with_reducible refine State.resync_keeps hc ?_
    | with_reducible refine State.islandsDueAt_keeps hc ?_ | split | dsimp only | intro _

theorem State.sendLoad_keeps {s : State} {n : Nat} {e : Nat} {wr : Bool} {count : Nat} (hc : Closed P) (h : P s) :
    P (State.sendLoad s n e wr count) := by
  unfold State.sendLoad
  repeat' first
    | with_reducible assumption | with_reducible refine hc.wr ?_ | with_reducible refine State.modC_keeps hc ?_

theorem execPointerLoad_keeps {n : Nat} {s : State} (hc : Closed P) (h : P s) :
    ∀ t, execPointerLoad n s = .next t → P t := by
  unfold execPointerLoad
  repeat' first
    | with_reducible refine next_kept ?_ | with_reducible assumption | with_reducible refine State.each_kept ?_ ?_
    | with_reducible refine State.when_kept ?_ ?_ | with_reducible refine State.sendLoad_keeps hc ?_ | split
    | dsimp only | intro _

theorem execResyncInitiate_keeps {n : Nat} {s : State} (hc : Closed P) (h : P s) :
    ∀ t, execResyncInitiate n s = .next t → P t := by
  unfold execResyncInitiate
  repeat' first
    | with_reducible refine next_kept ?_ | with_reducible assumption | with_reducible refine State.each_kept ?_ ?_
    | with_reducible refine State.when_kept ?_ ?_ | with_reducible refine hc.wr ?_
    | with_reducible refine State.modC_keeps hc ?_ | split | dsimp only | intro _

theorem State.upsetPtrs_keeps {s : State} {n : Nat} {l : List (Nat × Bool × Nat)} (hc : Closed P) (h : P s) :
    P (State.upsetPtrs s n l) := by
  unfold State.upsetPtrs
  repeat' first
    | with_reducible assumption | with_reducible refine State.each_kept ?_ ?_
    | with_reducible refine State.modC_keeps hc ?_ | split | dsimp only | intro _

theorem execPtrCheck_keeps {n : Nat} {upset : List (Nat × Bool × Nat)} {s : State} (hc : Closed P) (h : P s) :
    ∀ t, execPtrCheck n upset s = .next t → P t := by
  unfold execPtrCheck
  repeat' first
    | with_reducible refine next_kept ?_ | with_reducible assumption | with_reducible refine State.each_kept ?_ ?_
    | with_reducible refine State.when_kept ?_ ?_ | with_reducible refine State.upsetPtrs_keeps hc ?_
    | with_reducible refine State.inc_keeps hc ?_ | with_reducible refine State.modC_keeps hc ?_
    | with_reducible refine State.raiseFault_keeps hc ?_ | split | dsimp only | intro _

theorem execIslandRecompute_keeps {g : Nat} {s : State} (hc : Closed P) (h : P s) :
    ∀ t, execIslandRecompute g s = .next t → P t := by
  unfold execIslandRecompute
  repeat' first
    | with_reducible refine next_kept ?_ | with_reducible assumption | with_reducible refine State.when_kept ?_ ?_
    | with_reducible refine State.setIslands_keeps hc ?_ | split | dsimp only | intro _

theorem State.showTrim_keeps {s : State} (hc : Closed P) (h : P s) :
    P (State.showTrim s) := by
  unfold State.showTrim
  repeat' first
    | with_reducible assumption | with_reducible refine hc.wr ?_

theorem execTrimEnd_keeps {g : Nat} {s : State} (hc : Closed P) (h : P s) :
    ∀ t, execTrimEnd g s = .next t → P t := by
  unfold execTrimEnd
  repeat' first
    | with_reducible refine next_kept ?_ | with_reducible assumption | with_reducible refine State.when_kept ?_ ?_
    | with_reducible refine State.modG_keeps hc ?_ | with_reducible refine State.setIslands_keeps hc ?_
    | with_reducible refine State.showTrim_keeps hc ?_ | split | dsimp only | intro _

theorem execAlignFail_keeps {g : Nat} {s : State} (hc : Closed P) (h : P s) :
    ∀ t, execAlignFail g s = .next t → P t := by
  unfold execAlignFail
  repeat' first
    | with_reducible refine next_kept ?_ | with_reducible assumption | with_reducible refine State.when_kept ?_ ?_
    | with_reducible refine State.modG_keeps hc ?_ | with_reducible refine State.inc_keeps hc ?_
    | with_reducible refine State.raiseFault_keeps hc ?_ | split | dsimp only | intro _

theorem State.armCells_keeps {s : State} (hc : Closed P) (h : P s) :
    P (State.armCells s) := by
  unfold State.armCells
  repeat' first
    | with_reducible assumption | with_reducible refine State.each_kept ?_ ?_
    | with_reducible refine State.when_kept ?_ ?_ | with_reducible refine hc.wr ?_
    | with_reducible refine State.modC_keeps hc ?_ | split | dsimp only | intro _

/-! ### Region -/

theorem execRegionCycle_keeps {n : Nat} {io : CycleIn} {s : State} (hc : Closed P) (h : P s) :
    ∀ t, execRegionCycle n io s = .next t → P t := by
  unfold execRegionCycle
  repeat' first
    | with_reducible refine next_kept ?_ | with_reducible assumption | with_reducible refine State.when_kept ?_ ?_
    | with_reducible refine State.cycle_keeps hc ?_ | split | dsimp only | intro _

theorem execFllGateEnd_keeps {n : Nat} {s : State} (hc : Closed P) (h : P s) :
    ∀ t, execFllGateEnd n s = .next t → P t := by
  unfold execFllGateEnd
  repeat' first
    | with_reducible refine next_kept ?_ | with_reducible assumption | with_reducible refine State.when_kept ?_ ?_
    | with_reducible refine State.gateEnd_keeps hc ?_ | split | dsimp only | intro _

theorem execSigmaDeltaSlot_keeps {n : Nat} {s : State} (hc : Closed P) (h : P s) :
    ∀ t, execSigmaDeltaSlot n s = .next t → P t := by
  unfold execSigmaDeltaSlot
  repeat' first
    | with_reducible refine next_kept ?_ | with_reducible assumption | with_reducible refine State.when_kept ?_ ?_
    | with_reducible refine State.sigmaDelta_keeps hc ?_ | split | dsimp only | intro _

theorem execOscUnlock_keeps {n : Nat} {s : State} (hc : Closed P) (h : P s) :
    ∀ t, execOscUnlock n s = .next t → P t := by
  unfold execOscUnlock
  repeat' first
    | with_reducible refine next_kept ?_ | with_reducible assumption | with_reducible refine State.when_kept ?_ ?_
    | with_reducible refine State.inc_keeps hc ?_ | with_reducible refine State.modR_keeps hc ?_ | split | dsimp only
    | intro _

theorem execOscCeiling_keeps {n : Nat} {s : State} (hc : Closed P) (h : P s) :
    ∀ t, execOscCeiling n s = .next t → P t := by
  unfold execOscCeiling
  repeat' first
    | with_reducible refine next_kept ?_ | with_reducible assumption | with_reducible refine State.when_kept ?_ ?_
    | with_reducible refine State.event_keeps hc ?_ | with_reducible refine State.modR_keeps hc ?_ | split
    | dsimp only | intro _

theorem execCalOffsetUpdate_keeps {n : Nat} {s : State} (hc : Closed P) (h : P s) :
    ∀ t, execCalOffsetUpdate n s = .next t → P t := by
  unfold execCalOffsetUpdate
  repeat' first
    | with_reducible refine next_kept ?_ | with_reducible assumption | with_reducible refine State.when_kept ?_ ?_
    | with_reducible refine State.learnOffset_keeps hc ?_ | split | dsimp only | intro _

theorem execHeadroomReport_keeps {n : Nat} {s : State} (hc : Closed P) (h : P s) :
    ∀ t, execHeadroomReport n s = .next t → P t := by
  unfold execHeadroomReport
  repeat' first
    | with_reducible refine next_kept ?_ | with_reducible assumption | with_reducible refine State.when_kept ?_ ?_
    | with_reducible refine State.headroomReport_keeps hc ?_ | split | dsimp only | intro _

theorem execAgeDue_keeps {n : Nat} {s : State} (hc : Closed P) (h : P s) :
    ∀ t, execAgeDue n s = .next t → P t := by
  unfold execAgeDue
  repeat' first
    | with_reducible refine next_kept ?_ | with_reducible assumption | with_reducible refine State.when_kept ?_ ?_
    | with_reducible refine State.countHours_keeps hc ?_ | with_reducible refine State.setOsc_keeps hc ?_ | split
    | dsimp only | intro _

theorem execAgeSampleDone_keeps {n : Nat} {ratio : Nat} {s : State} (hc : Closed P) (h : P s) :
    ∀ t, execAgeSampleDone n ratio s = .next t → P t := by
  unfold execAgeSampleDone
  repeat' first
    | with_reducible refine next_kept ?_ | with_reducible assumption | with_reducible refine State.each_kept ?_ ?_
    | with_reducible refine State.when_kept ?_ ?_ | with_reducible refine hc.wr ?_
    | with_reducible refine State.ageSampled_keeps hc ?_ | with_reducible refine State.dirtyNow_keeps hc ?_ | split
    | dsimp only | intro _

theorem execStartFail_keeps {n : Nat} {s : State} (hc : Closed P) (h : P s) :
    ∀ t, execStartFail n s = .next t → P t := by
  unfold execStartFail
  repeat' first
    | with_reducible refine next_kept ?_ | with_reducible assumption | with_reducible refine State.when_kept ?_ ?_
    | with_reducible refine State.setOsc_keeps hc ?_ | with_reducible refine State.raiseFault_keeps hc ?_ | split
    | dsimp only | intro _

theorem execCountRelease_keeps {n : Nat} {s : State} (hc : Closed P) (h : P s) :
    ∀ t, execCountRelease n s = .next t → P t := by
  unfold execCountRelease
  repeat' first
    | with_reducible refine next_kept ?_ | with_reducible assumption | with_reducible refine State.when_kept ?_ ?_
    | with_reducible refine State.releaseCount_keeps hc ?_ | with_reducible refine State.joinCells_keeps hc ?_
    | with_reducible refine State.modE_keeps hc ?_ | with_reducible refine State.setReady_keeps hc ?_ | split
    | dsimp only | intro _

theorem execDroopTrip_keeps {n : Nat} {readings : List (Nat × Nat)} {early : Bool} {s : State}
    (hc : Closed P) (h : P s) :
    ∀ t, execDroopTrip n readings early s = .next t → P t := by
  unfold execDroopTrip
  repeat' first
    | with_reducible refine next_kept ?_ | with_reducible assumption | with_reducible refine State.when_kept ?_ ?_
    | with_reducible refine State.sample_keeps hc ?_ | split | dsimp only | intro _

theorem execDroopRunEnd_keeps {n : Nat} {s : State} (hc : Closed P) (h : P s) :
    ∀ t, execDroopRunEnd n s = .next t → P t := by
  unfold execDroopRunEnd
  repeat' first
    | with_reducible refine next_kept ?_ | with_reducible assumption | with_reducible refine State.when_kept ?_ ?_
    | with_reducible refine State.endRun_keeps hc ?_ | split | dsimp only | intro _

theorem execDsStuck_keeps {n : Nat} {sensor : Nat} {s : State} (hc : Closed P) (h : P s) :
    ∀ t, execDsStuck n sensor s = .next t → P t := by
  unfold execDsStuck
  repeat' first
    | with_reducible refine next_kept ?_ | with_reducible assumption | with_reducible refine State.when_kept ?_ ?_
    | with_reducible refine State.quarantine_keeps hc ?_ | split | dsimp only | intro _

theorem execPark_keeps {n : Nat} {s : State} (hc : Closed P) (h : P s) :
    ∀ t, execPark n s = .next t → P t := by
  unfold execPark
  repeat' first
    | with_reducible refine next_kept ?_ | with_reducible assumption | with_reducible refine State.when_kept ?_ ?_
    | with_reducible refine State.parkHold_keeps hc ?_ | split | dsimp only | intro _

theorem execParkRelease_keeps {n : Nat} {s : State} (hc : Closed P) (h : P s) :
    ∀ t, execParkRelease n s = .next t → P t := by
  unfold execParkRelease
  repeat' first
    | with_reducible refine next_kept ?_ | with_reducible assumption | with_reducible refine State.when_kept ?_ ?_
    | with_reducible refine State.parkEnd_keeps hc ?_ | split | dsimp only | intro _

theorem execSlipFault_keeps {n : Nat} {edge : Nat} {s : State} (hc : Closed P) (h : P s) :
    ∀ t, execSlipFault n edge s = .next t → P t := by
  unfold execSlipFault
  repeat' first
    | with_reducible refine next_kept ?_ | with_reducible assumption | with_reducible refine State.when_kept ?_ ?_
    | with_reducible refine State.setFlag_keeps hc ?_ | with_reducible refine State.inc_keeps hc ?_
    | with_reducible refine State.modR_keeps hc ?_ | with_reducible refine State.raiseFault_keeps hc ?_ | split
    | dsimp only | intro _

theorem execCauseTagExpiry_keeps {n : Nat} {s : State} (hc : Closed P) (h : P s) :
    ∀ t, execCauseTagExpiry n s = .next t → P t := by
  unfold execCauseTagExpiry
  repeat' first
    | with_reducible refine next_kept ?_ | with_reducible assumption | with_reducible refine State.when_kept ?_ ?_
    | with_reducible refine State.modR_keeps hc ?_ | split | dsimp only | intro _

/-! ### Change -/

theorem State.setChg_keeps {s : State} {g : Nat} {c : Chg} (hc : Closed P) (h : P s) :
    P (State.setChg s g c) := by
  unfold State.setChg
  repeat' first
    | with_reducible assumption | with_reducible refine hc.wr ?_ | split

theorem State.abortStep_keeps {s : State} {g : Nat} {result : Nat} (hc : Closed P) (h : P s) :
    P (State.abortStep s g result) := by
  unfold State.abortStep
  repeat' first
    | with_reducible assumption | with_reducible refine State.when_kept ?_ ?_ | with_reducible refine hc.wr ?_
    | with_reducible refine State.modG_keeps hc ?_ | with_reducible refine State.inc_keeps hc ?_
    | with_reducible refine State.setChg_keeps hc ?_ | with_reducible refine State.startRecoveries_keeps hc ?_ | split
    | dsimp only | intro _

theorem State.newTarget_keeps {s : State} {g : Nat} {tgt : Nat} (hc : Closed P) (h : P s) :
    P (State.newTarget s g tgt) := by
  unfold State.newTarget
  repeat' first
    | with_reducible assumption | with_reducible refine hc.wr ?_ | with_reducible refine State.modG_keeps hc ?_
    | with_reducible refine State.abortStep_keeps hc ?_ | split | dsimp only

theorem State.retarget_keeps {s : State} {g : Nat} (hc : Closed P) (h : P s) :
    P (State.retarget s g) := by
  unfold State.retarget
  repeat' first
    | with_reducible assumption | with_reducible refine State.showCeiling_keeps hc ?_
    | with_reducible refine State.newTarget_keeps hc ?_ | split | dsimp only

theorem State.retargetAll_keeps {s : State} (hc : Closed P) (h : P s) :
    P (State.retargetAll s) := by
  unfold State.retargetAll
  repeat' first
    | with_reducible assumption | with_reducible refine State.each_kept ?_ ?_
    | with_reducible refine State.retarget_keeps hc ?_ | split | dsimp only | intro _

theorem State.requestAll_keeps {s : State} {l : List (Nat × Nat)} (hc : Closed P) (h : P s) :
    P (State.requestAll s l) := by
  unfold State.requestAll
  repeat' first
    | with_reducible assumption | with_reducible refine State.each_kept ?_ ?_
    | with_reducible refine State.requestVolt_keeps hc ?_ | split | dsimp only | intro _

theorem State.lowerAll_keeps {s : State} {l : List (Nat × Nat)} (hc : Closed P) (h : P s) :
    P (State.lowerAll s l) := by
  unfold State.lowerAll
  repeat' first
    | with_reducible assumption | with_reducible refine State.each_kept ?_ ?_
    | with_reducible refine State.requestAll_keeps hc ?_ | with_reducible refine State.modF_keeps hc ?_ | split
    | dsimp only | intro _

theorem State.endStep_keeps {s : State} {g : Nat} {st : GStep} (hc : Closed P) (h : P s) :
    P (State.endStep s g st) := by
  unfold State.endStep
  repeat' first
    | with_reducible assumption | with_reducible refine hc.wr ?_ | with_reducible refine State.modG_keeps hc ?_
    | with_reducible refine State.inc_keeps hc ?_ | with_reducible refine State.setChg_keeps hc ?_
    | with_reducible refine State.startRecoveries_keeps hc ?_ | with_reducible refine State.lowerAll_keeps hc ?_
    | split

theorem State.broadcastStep_keeps {s : State} {g : Nat} {st : GStep} (hc : Closed P) (h : P s) :
    P (State.broadcastStep s g st) := by
  unfold State.broadcastStep
  repeat' first
    | with_reducible assumption | with_reducible refine hc.wr ?_ | with_reducible refine State.endStep_keeps hc ?_
    | with_reducible refine State.modG_keeps hc ?_ | with_reducible refine State.setChg_keeps hc ?_ | split

theorem State.predictAll_keeps {s : State} {nw : Nat} {l : List Nat} (hc : Closed P) (h : P s) :
    P (State.predictAll s nw l).2 := by
  have fold : ∀ (l : List Nat) (a : Tab Nat × State), P a.2 →
      P (l.foldl (fun (a : Tab Nat × State) f =>
        (a.1 ++ [(f, (a.2.predictVolt f nw none).1)], (a.2.predictVolt f nw none).2)) a).2 := by
    intro l
    induction l with
    | nil => exact fun a ha => ha
    | cons x r ih => exact fun a ha => ih _ (State.predictVolt_keeps hc ha)
  exact fold l _ h

theorem State.startStep_keeps {s : State} {g : Nat} (hc : Closed P) (h : P s) :
    P (State.startStep s g) := by
  unfold State.startStep
  repeat' first
    | with_reducible assumption | with_reducible refine hc.wr ?_ | with_reducible refine State.modG_keeps hc ?_
    | with_reducible refine State.predictAll_keeps hc ?_ | with_reducible refine State.setChg_keeps hc ?_
    | with_reducible refine State.broadcastStep_keeps hc ?_ | with_reducible refine State.requestAll_keeps hc ?_
    | split | dsimp only

theorem execGroupTarget_keeps {g : Nat} {target : Nat} {s : State} (hc : Closed P) (h : P s) :
    ∀ t, execGroupTarget g target s = .next t → P t := by
  unfold execGroupTarget
  repeat' first
    | with_reducible refine next_kept ?_ | with_reducible assumption | with_reducible refine State.when_kept ?_ ?_
    | with_reducible refine State.newTarget_keeps hc ?_ | split | dsimp only | intro _

theorem execGroupStepStart_keeps {g : Nat} {s : State} (hc : Closed P) (h : P s) :
    ∀ t, execGroupStepStart g s = .next t → P t := by
  unfold execGroupStepStart
  repeat' first
    | with_reducible refine next_kept ?_ | with_reducible assumption | with_reducible refine State.when_kept ?_ ?_
    | with_reducible refine State.startStep_keeps hc ?_ | split | dsimp only | intro _

theorem State.syncQreq_keeps {s : State} {quiesce : Bool} {n : Nat} {epoch : Nat} (hc : Closed P) (h : P s) :
    P (State.syncQreq s quiesce n epoch) := by
  unfold State.syncQreq
  repeat' first
    | with_reducible assumption | with_reducible refine State.when_kept ?_ ?_
    | with_reducible refine State.inc_keeps hc ?_ | split | dsimp only | intro _
    | with_reducible refine Closed.lit hc ?_

theorem State.setStop_keeps {s : State} {n : Nat} {c : StopSt} (hc : Closed P) (h : P s) :
    P (State.setStop s n c) := by
  unfold State.setStop
  repeat' first
    | with_reducible assumption | with_reducible refine hc.wr ?_

theorem State.nextStop_keeps {s : State} {keep : Bool} (hc : Closed P) (h : P s) :
    P (State.nextStop s keep) := by
  unfold State.nextStop
  repeat' first
    | with_reducible assumption | with_reducible refine State.freeVolt_keeps hc ?_ | split | dsimp only | intro _
    | with_reducible refine Closed.lit hc ?_

theorem State.abortStop_keeps {s : State} {x : RStop} {result : Nat} (hc : Closed P) (h : P s) :
    P (State.abortStop s x result) := by
  unfold State.abortStop
  repeat' first
    | with_reducible assumption | with_reducible refine hc.wr ?_ | with_reducible refine State.inc_keeps hc ?_
    | with_reducible refine State.setStop_keeps hc ?_ | with_reducible refine State.nextStop_keeps hc ?_

theorem State.acceptStop_keeps {s : State} {n : Nat} {t : Nat} (hc : Closed P) (h : P s) :
    P (State.acceptStop s n t) := by
  unfold State.acceptStop
  repeat' first
    | with_reducible assumption | with_reducible refine State.setStop_keeps hc ?_ | split | dsimp only | intro _
    | with_reducible refine Closed.lit hc ?_

theorem State.sendQuiesce_keeps {s : State} {x : RStop} (hc : Closed P) (h : P s) :
    P (State.sendQuiesce s x) := by
  unfold State.sendQuiesce
  repeat' first
    | with_reducible assumption | with_reducible refine State.syncQreq_keeps hc ?_
    | with_reducible refine State.setStop_keeps hc ?_ | split | dsimp only | intro _
    | with_reducible refine Closed.lit hc ?_

theorem State.startStop_keeps {s : State} {x : RStop} (hc : Closed P) (h : P s) :
    P (State.startStop s x) := by
  unfold State.startStop
  repeat' first
    | with_reducible assumption | with_reducible refine State.abortStop_keeps hc ?_
    | with_reducible refine State.predictVolt_keeps hc ?_ | with_reducible refine State.requestVolt_keeps hc ?_
    | with_reducible refine State.setStop_keeps hc ?_ | with_reducible refine State.sendQuiesce_keeps hc ?_ | split
    | dsimp only | intro _ | with_reducible refine Closed.lit hc ?_

theorem execRegionStopStart_keeps {s : State} (hc : Closed P) (h : P s) :
    ∀ t, execRegionStopStart s = .next t → P t := by
  unfold execRegionStopStart
  repeat' first
    | with_reducible refine next_kept ?_ | with_reducible assumption | with_reducible refine State.when_kept ?_ ?_
    | with_reducible refine State.startStop_keeps hc ?_ | split | dsimp only | intro _

theorem State.quiesceAck_keeps {s : State} {epoch : Nat} (hc : Closed P) (h : P s) :
    P (State.quiesceAck s epoch) := by
  unfold State.quiesceAck
  repeat' first
    | with_reducible assumption | with_reducible refine State.inc_keeps hc ?_ | split | dsimp only | intro _
    | with_reducible refine Closed.lit hc ?_

theorem execQuiesceAck_keeps {epoch : Nat} {s : State} (hc : Closed P) (h : P s) :
    ∀ t, execQuiesceAck epoch s = .next t → P t := by
  unfold execQuiesceAck
  repeat' first
    | with_reducible refine next_kept ?_ | with_reducible assumption | with_reducible refine State.syHold_keeps hc ?_
    | with_reducible refine State.quiesceAck_keeps hc ?_ | split

theorem State.lowerReq_keeps {s : State} {n : Nat} (hc : Closed P) (h : P s) :
    P (State.lowerReq s n) := by
  unfold State.lowerReq
  repeat' first
    | with_reducible assumption | with_reducible refine State.each_kept ?_ ?_
    | with_reducible refine State.modC_keeps hc ?_ | split | dsimp only | intro _

theorem execStopCommand_keeps {n : Nat} {s : State} (hc : Closed P) (h : P s) :
    ∀ t, execStopCommand n s = .next t → P t := by
  unfold execStopCommand
  repeat' first
    | with_reducible refine next_kept ?_ | with_reducible assumption | with_reducible refine State.when_kept ?_ ?_
    | with_reducible refine State.raiseReq_keeps hc ?_ | split | dsimp only | intro _
    | with_reducible refine Closed.lit hc ?_

theorem execStopAck_keeps {n : Nat} {s : State} (hc : Closed P) (h : P s) :
    ∀ t, execStopAck n s = .next t → P t := by
  unfold execStopAck
  repeat' first
    | with_reducible refine next_kept ?_ | with_reducible assumption | with_reducible refine State.when_kept ?_ ?_
    | with_reducible refine State.stopClock_keeps hc ?_ | with_reducible refine State.loadSeed_keeps hc ?_
    | with_reducible refine State.setStop_keeps hc ?_ | with_reducible refine State.inc_keeps hc ?_
    | with_reducible refine State.unobserve_keeps hc ?_ | split | dsimp only | intro _
    | with_reducible refine Closed.lit hc ?_

theorem State.restartClock_keeps {s : State} {n : Nat} (hc : Closed P) (h : P s) :
    P (State.restartClock s n) := by
  unfold State.restartClock
  repeat' first
    | with_reducible assumption | with_reducible refine State.setOsc_keeps hc ?_
    | with_reducible refine State.setDs_keeps hc ?_ | with_reducible refine State.startHold_keeps hc ?_
    | with_reducible refine State.modR_keeps hc ?_

theorem State.confirmStop_keeps {s : State} (hc : Closed P) (h : P s) :
    P (State.confirmStop s) := by
  unfold State.confirmStop
  repeat' first
    | with_reducible assumption | with_reducible refine State.when_kept ?_ ?_
    | with_reducible refine State.sendQuiesce_keeps hc ?_ | split | dsimp only | intro _

theorem State.confirmStep_keeps {s : State} {g : Nat} (hc : Closed P) (h : P s) :
    P (State.confirmStep s g) := by
  unfold State.confirmStep
  repeat' first
    | with_reducible assumption | with_reducible refine State.when_kept ?_ ?_
    | with_reducible refine State.broadcastStep_keeps hc ?_ | split | dsimp only | intro _

theorem execVoltConfirm_keeps {g : Nat} {s : State} (hc : Closed P) (h : P s) :
    ∀ t, execVoltConfirm g s = .next t → P t := by
  unfold execVoltConfirm
  repeat' first
    | with_reducible refine next_kept ?_ | with_reducible assumption
    | with_reducible refine State.confirmStop_keeps hc ?_ | with_reducible refine State.confirmStep_keeps hc ?_
    | split

theorem State.timeoutStop_keeps {s : State} (hc : Closed P) (h : P s) :
    P (State.timeoutStop s) := by
  unfold State.timeoutStop
  repeat' first
    | with_reducible assumption | with_reducible refine State.when_kept ?_ ?_
    | with_reducible refine State.event_keeps hc ?_ | with_reducible refine State.abortStop_keeps hc ?_ | split
    | dsimp only | intro _

theorem State.timeoutStep_keeps {s : State} {g : Nat} (hc : Closed P) (h : P s) :
    P (State.timeoutStep s g) := by
  unfold State.timeoutStep
  repeat' first
    | with_reducible assumption | with_reducible refine State.when_kept ?_ ?_
    | with_reducible refine State.event_keeps hc ?_ | with_reducible refine State.modG_keeps hc ?_
    | with_reducible refine State.abortStep_keeps hc ?_ | split | dsimp only | intro _

theorem execChangeBroadcast_keeps {n : Nat} {s : State} (hc : Closed P) (h : P s) :
    ∀ t, execChangeBroadcast n s = .next t → P t := by
  unfold execChangeBroadcast
  repeat' first
    | with_reducible refine next_kept ?_ | with_reducible assumption | with_reducible refine State.when_kept ?_ ?_
    | with_reducible refine State.modR_keeps hc ?_ | with_reducible refine State.raiseFault_keeps hc ?_ | split
    | dsimp only | intro _

theorem execChangeAtC_keeps {n : Nat} {s : State} (hc : Closed P) (h : P s) :
    ∀ t, execChangeAtC n s = .next t → P t := by
  unfold execChangeAtC
  repeat' first
    | with_reducible refine next_kept ?_ | with_reducible assumption | with_reducible refine State.when_kept ?_ ?_
    | with_reducible refine State.loadSeed_keeps hc ?_ | with_reducible refine State.modR_keeps hc ?_ | split
    | dsimp only | intro _

theorem execGroupStepEnd_keeps {g : Nat} {s : State} (hc : Closed P) (h : P s) :
    ∀ t, execGroupStepEnd g s = .next t → P t := by
  unfold execGroupStepEnd
  repeat' first
    | with_reducible refine next_kept ?_ | with_reducible assumption | with_reducible refine State.when_kept ?_ ?_
    | with_reducible refine State.endStep_keeps hc ?_ | split | dsimp only | intro _

theorem State.freezeAll_keeps {s : State} (hc : Closed P) (h : P s) :
    P (State.freezeAll s) := by
  unfold State.freezeAll
  repeat' first
    | with_reducible assumption | with_reducible refine State.each_kept ?_ ?_
    | with_reducible refine State.abortStep_keeps hc ?_ | with_reducible refine State.setChg_keeps hc ?_ | split
    | dsimp only | intro _ | with_reducible refine Closed.lit hc ?_

end Sys2Proof.Machine
end

