-- ==== Sys2Proof/Laws/KeepsB.lean ====
section
/-! SUPPORT. Mailboxes, estimation, power, rails, caps, the slow loop, references and time keep a closed property. -/

set_option Elab.async false

namespace Sys2Proof.Machine

variable {P : State → Prop}

/-! ### MailBase -/

theorem State.respondNum_keeps {s : State} {id : Nat} {status : Nat} {data : Nat} (hc : Closed P) (h : P s) :
    P (State.respondNum s id status data) := by
  unfold State.respondNum
  repeat' first
    | with_reducible assumption | split | dsimp only | intro _ | with_reducible refine Closed.lit hc ?_

theorem State.respond_keeps {s : State} {id : Nat} {c : Code} {data : Nat} (hc : Closed P) (h : P s) :
    P (State.respond s id c data) := by
  unfold State.respond
  repeat' first
    | with_reducible assumption | with_reducible refine State.respondNum_keeps hc ?_

theorem State.epQueue_keeps {s : State} {op : Nat} {q : EpReq} (hc : Closed P) (h : P s) :
    P (State.epQueue s op q) := by
  unfold State.epQueue
  repeat' first
    | with_reducible assumption | split | dsimp only | intro _ | with_reducible refine Closed.lit hc ?_

theorem State.epTake_keeps {s : State} {op : Nat} {q : EpReq} {turn : Code → State → State} {f : State → State}
    (hc : Closed P) (h : P s) (h_turn : ∀ y t, P t → P (turn y t)) (h_f : ∀ t, P t → P (f t)) :
    P (State.epTake s op q turn f) := by
  unfold State.epTake
  repeat' first
    | with_reducible assumption | with_reducible apply h_turn | with_reducible apply h_f
    | with_reducible refine State.respond_keeps hc ?_ | with_reducible refine State.epQueue_keeps hc ?_
    | with_reducible refine State.queueRead_keeps hc ?_ | split

theorem State.setNotice_keeps {s : State} {id : Nat} {w : Nat} (hc : Closed P) (h : P s) :
    P (State.setNotice s id w) := by
  unfold State.setNotice
  repeat' first
    | with_reducible assumption | split | dsimp only | intro _ | with_reducible refine Closed.lit hc ?_

theorem State.noticeDiscard_keeps {s : State} {id : Nat} (hc : Closed P) (h : P s) :
    P (State.noticeDiscard s id) := by
  unfold State.noticeDiscard
  repeat' first
    | with_reducible assumption | with_reducible refine State.setNotice_keeps hc ?_

theorem State.noticeTimeout_keeps {s : State} {id : Nat} (hc : Closed P) (h : P s) :
    P (State.noticeTimeout s id) := by
  unfold State.noticeTimeout
  repeat' first
    | with_reducible assumption | with_reducible refine State.setNotice_keeps hc ?_

theorem State.showCount_keeps {s : State} {m : Nat} (hc : Closed P) (h : P s) :
    P (State.showCount s m) := by
  unfold State.showCount
  repeat' first
    | with_reducible assumption | with_reducible refine hc.wr ?_

theorem State.discardBox_keeps {s : State} {m : Nat} (hc : Closed P) (h : P s) :
    P (State.discardBox s m) := by
  unfold State.discardBox
  repeat' first
    | with_reducible assumption | with_reducible refine State.each_kept ?_ ?_
    | with_reducible refine State.noticeDiscard_keeps hc ?_ | with_reducible refine State.add_keeps hc ?_
    | with_reducible refine State.modBx_keeps hc ?_ | with_reducible refine State.showCount_keeps hc ?_ | split
    | dsimp only | intro _

theorem State.clearBell_keeps {s : State} {m : Nat} (hc : Closed P) (h : P s) :
    P (State.clearBell s m) := by
  unfold State.clearBell
  repeat' first
    | with_reducible assumption | with_reducible refine State.modBx_keeps hc ?_

theorem State.semEvent_keeps {s : State} {m : Nat} (hc : Closed P) (h : P s) :
    P (State.semEvent s m) := by
  unfold State.semEvent
  repeat' first
    | with_reducible assumption | with_reducible refine State.inc_keeps hc ?_
    | with_reducible refine State.modBx_keeps hc ?_ | split

theorem State.deliver_keeps {s : State} {m : Nat} {k : Nat} (hc : Closed P) (h : P s) :
    P (State.deliver s m k) := by
  unfold State.deliver
  repeat' first
    | with_reducible assumption | with_reducible refine State.each_kept ?_ ?_
    | with_reducible refine State.modBx_keeps hc ?_ | with_reducible refine State.semEvent_keeps hc ?_ | split
    | dsimp only | intro _

theorem State.deliverDomain_keeps {s : State} {d : Nat} (hc : Closed P) (h : P s) :
    P (State.deliverDomain s d) := by
  unfold State.deliverDomain
  repeat' first
    | with_reducible assumption | with_reducible refine State.each_kept ?_ ?_
    | with_reducible refine State.deliver_keeps hc ?_ | with_reducible refine State.modBx_keeps hc ?_ | split
    | dsimp only | intro _

theorem State.discardDomain_keeps {s : State} {d : Nat} (hc : Closed P) (h : P s) :
    P (State.discardDomain s d) := by
  unfold State.discardDomain
  repeat' first
    | with_reducible assumption | with_reducible refine State.each_kept ?_ ?_
    | with_reducible refine State.when_kept ?_ ?_ | with_reducible refine State.discardBox_keeps hc ?_ | split
    | dsimp only | intro _

theorem State.setLock_keeps {s : State} {i : Nat} {lost : Bool} {held : Bool} {host : Bool} {owner : Nat}
    (hc : Closed P) (h : P s) :
    P (State.setLock s i lost held host owner) := by
  unfold State.setLock
  repeat' first
    | with_reducible assumption | with_reducible refine hc.wr ?_

theorem State.lockAcquire_keeps {s : State} {i : Nat} {who : Nat} (hc : Closed P) (h : P s) :
    P (State.lockAcquire s i who).2 := by
  unfold State.lockAcquire
  repeat' first
    | with_reducible assumption | with_reducible refine State.setLock_keeps hc ?_ | split | dsimp only

theorem State.noteLock_keeps {s : State} {i : Nat} {src : Nat} (hc : Closed P) (h : P s) :
    P (State.noteLock s i src) := by
  unfold State.noteLock
  repeat' first
    | with_reducible assumption | with_reducible refine hc.wr ?_ | with_reducible refine State.inc_keeps hc ?_ | split
    | dsimp only | intro _ | with_reducible refine Closed.lit hc ?_

theorem State.lockLose_keeps {s : State} {i : Nat} (hc : Closed P) (h : P s) :
    P (State.lockLose s i) := by
  unfold State.lockLose
  repeat' first
    | with_reducible assumption | with_reducible refine State.setLock_keeps hc ?_

theorem State.loseLocks_keeps {s : State} {p : Nat → Bool} (hc : Closed P) (h : P s) :
    P (State.loseLocks s p) := by
  unfold State.loseLocks
  repeat' first
    | with_reducible assumption | with_reducible refine State.each_kept ?_ ?_
    | with_reducible refine State.lockLose_keeps hc ?_ | split | dsimp only | intro _

/-! ### Estimate -/

theorem State.wrFit_keeps {s : State} {o : Obj} {v : Nat} {e : Nat} {site : Nat} (hc : Closed P) (h : P s) :
    P (State.wrFit s o v e site) := by
  unfold State.wrFit
  repeat' first
    | with_reducible assumption | with_reducible refine hc.wr ?_ | with_reducible refine State.free_keeps hc ?_
    | split

theorem State.setWeight_keeps {s : State} {n : Nat} {i : Nat} {v : Nat} (hc : Closed P) (h : P s) :
    P (State.setWeight s n i v) := by
  unfold State.setWeight
  repeat' first
    | with_reducible assumption | with_reducible refine hc.wr ?_

theorem State.factoryWeights_keeps {s : State} {n : Nat} (hc : Closed P) (h : P s) :
    P (State.factoryWeights s n) := by
  unfold State.factoryWeights
  repeat' first
    | with_reducible assumption | with_reducible refine hc.wr ?_ | with_reducible refine State.modE_keeps hc ?_

theorem State.clearIdle_keeps {s : State} {n : Nat} (hc : Closed P) (h : P s) :
    P (State.clearIdle s n) := by
  unfold State.clearIdle
  repeat' first
    | with_reducible assumption | with_reducible refine State.each_kept ?_ ?_
    | with_reducible refine State.modLn_keeps hc ?_ | split | dsimp only | intro _

theorem State.setEst_keeps {s : State} {n : Nat} {b : Nat} {v : Bool} (hc : Closed P) (h : P s) :
    P (State.setEst s n b v) := by
  unfold State.setEst
  repeat' first
    | with_reducible assumption | with_reducible refine State.setFlag_keeps hc ?_

theorem State.loseBaselines_keeps {s : State} {n : Nat} (hc : Closed P) (h : P s) :
    P (State.loseBaselines s n) := by
  unfold State.loseBaselines
  repeat' first
    | with_reducible assumption | with_reducible refine State.each_kept ?_ ?_
    | with_reducible refine State.modLn_keeps hc ?_ | with_reducible refine State.modE_keeps hc ?_
    | with_reducible refine State.setEst_keeps hc ?_ | split | dsimp only | intro _

theorem State.loseCoreBaselines_keeps {s : State} {n : Nat} (hc : Closed P) (h : P s) :
    P (State.loseCoreBaselines s n) := by
  unfold State.loseCoreBaselines
  repeat' first
    | with_reducible assumption | with_reducible refine State.each_kept ?_ ?_
    | with_reducible refine State.modLn_keeps hc ?_ | with_reducible refine State.modE_keeps hc ?_
    | with_reducible refine State.setEst_keeps hc ?_ | split | dsimp only | intro _

theorem State.showM_keeps {s : State} {n : Nat} {m : Nat} (hc : Closed P) (h : P s) :
    P (State.showM s n m) := by
  unfold State.showM
  repeat' first
    | with_reducible assumption | with_reducible refine hc.wr ?_

theorem State.endSweep_keeps {s : State} {n : Nat} (hc : Closed P) (h : P s) :
    P (State.endSweep s n) := by
  unfold State.endSweep
  repeat' first
    | with_reducible assumption | with_reducible refine State.showM_keeps hc ?_
    | with_reducible refine State.modE_keeps hc ?_

theorem State.beginSweep_keeps {s : State} {n : Nat} (hc : Closed P) (h : P s) :
    P (State.beginSweep s n) := by
  unfold State.beginSweep
  repeat' first
    | with_reducible assumption | with_reducible refine State.modE_keeps hc ?_

theorem execSweepStart_keeps {n : Nat} {s : State} (hc : Closed P) (h : P s) :
    ∀ t, execSweepStart n s = .next t → P t := by
  unfold execSweepStart
  repeat' first
    | with_reducible refine next_kept ?_ | with_reducible assumption | with_reducible refine State.when_kept ?_ ?_
    | with_reducible refine State.beginSweep_keeps hc ?_ | with_reducible refine State.endSweep_keeps hc ?_ | split
    | dsimp only | intro _

theorem State.laneDue_keeps {s : State} {n : Nat} {vld : Bool} {data : Nat} (hc : Closed P) (h : P s) :
    P (State.laneDue s n vld data) := by
  unfold State.laneDue
  repeat' first
    | with_reducible assumption | with_reducible refine State.when_kept ?_ ?_
    | with_reducible refine State.modLn_keeps hc ?_ | with_reducible refine State.modE_keeps hc ?_
    | with_reducible refine State.inc_keeps hc ?_ | with_reducible refine State.endSweep_keeps hc ?_ | split
    | dsimp only | intro _

theorem execLaneResponse_keeps {n : Nat} {vld : Bool} {data : Nat} {s : State} (hc : Closed P) (h : P s) :
    ∀ t, execLaneResponse n vld data s = .next t → P t := by
  unfold execLaneResponse
  repeat' first
    | with_reducible refine next_kept ?_ | with_reducible assumption | with_reducible refine State.when_kept ?_ ?_
    | with_reducible refine State.laneDue_keeps hc ?_ | with_reducible refine State.inc_keeps hc ?_ | split
    | dsimp only | intro _

theorem State.chargeHold_keeps {s : State} {n : Nat} {t : Nat} (hc : Closed P) (h : P s) :
    P (State.chargeHold s n t) := by
  unfold State.chargeHold
  repeat' first
    | with_reducible assumption | with_reducible refine State.countHold_keeps hc ?_
    | with_reducible refine State.modR_keeps hc ?_ | split

theorem State.loseWeight_keeps {s : State} {n : Nat} {w : Nat} (hc : Closed P) (h : P s) :
    P (State.loseWeight s n w) := by
  unfold State.loseWeight
  repeat' first
    | with_reducible assumption | with_reducible refine State.sramLost_keeps hc ?_
    | with_reducible refine State.modE_keeps hc ?_

theorem State.readWeights_keeps {s : State} {n : Nat} (hc : Closed P) (h : P s) :
    P (State.readWeights s n) := by
  unfold State.readWeights
  repeat' first
    | with_reducible assumption | with_reducible refine State.readFlips_keeps hc ?_ ?_
    | with_reducible refine State.loseWeight_keeps hc ?_ | split | dsimp only | intro _

theorem State.closeWindow_keeps {s0 : State} {n : Nat} {w : Nat} {t : Nat} {dur : Nat} {gap : Nat}
    (hc : Closed P) (h : P s0) :
    P (State.closeWindow s0 n w t dur gap) := by
  unfold State.closeWindow
  repeat' first
    | with_reducible assumption | with_reducible refine State.when_kept ?_ ?_ | with_reducible refine hc.wr ?_
    | with_reducible refine State.endInjection_keeps hc ?_ | with_reducible refine State.readWeights_keeps hc ?_
    | with_reducible refine State.chargeHold_keeps hc ?_ | with_reducible refine State.showM_keeps hc ?_
    | with_reducible refine State.modE_keeps hc ?_ | with_reducible refine State.modR_keeps hc ?_
    | with_reducible refine State.inc_keeps hc ?_ | split | dsimp only | intro _

theorem execWindowClose_keeps {n : Nat} {s : State} (hc : Closed P) (h : P s) :
    ∀ t, execWindowClose n s = .next t → P t := by
  unfold execWindowClose
  repeat' first
    | with_reducible refine next_kept ?_ | with_reducible assumption | with_reducible refine State.when_kept ?_ ?_
    | with_reducible refine State.closeWindow_keeps hc ?_ | split | dsimp only | intro _

theorem execWeightReload_keeps {n : Nat} {s : State} (hc : Closed P) (h : P s) :
    ∀ t, execWeightReload n s = .next t → P t := by
  unfold execWeightReload
  repeat' first
    | with_reducible refine next_kept ?_ | with_reducible assumption | with_reducible refine State.each_kept ?_ ?_
    | with_reducible refine State.setWeight_keeps hc ?_ | with_reducible refine State.modE_keeps hc ?_
    | with_reducible refine State.setEst_keeps hc ?_ | split | dsimp only | intro _

theorem State.keepEntry_keeps {s : State} {n : Nat} {x : Entry} (hc : Closed P) (h : P s) :
    P (State.keepEntry s n x) := by
  unfold State.keepEntry
  repeat' first
    | with_reducible assumption | with_reducible refine hc.wr ?_ | with_reducible refine State.modE_keeps hc ?_
    | split

theorem State.chargeEnergy_keeps {s : State} {n : Nat} {w : Nat} {x : Entry} (hc : Closed P) (h : P s) :
    P (State.chargeEnergy s n w x) := by
  unfold State.chargeEnergy
  repeat' first
    | with_reducible assumption | with_reducible refine State.when_kept ?_ ?_
    | with_reducible refine State.addWrap_keeps hc ?_ | split | dsimp only | intro _
    | with_reducible refine Closed.lit hc ?_

theorem State.addLoss_keeps {s : State} {n : Nat} {eighths : Nat} {cycles : Nat} (hc : Closed P) (h : P s) :
    P (State.addLoss s n eighths cycles) := by
  unfold State.addLoss
  repeat' first
    | with_reducible assumption | with_reducible refine State.modG_keeps hc ?_

theorem State.attribute_keeps {s : State} {n : Nat} {t : Tag × Nat} (hc : Closed P) (h : P s) :
    P (State.attribute s n t) := by
  unfold State.attribute
  repeat' first
    | with_reducible assumption | with_reducible refine State.addWrap_keeps hc ?_
    | with_reducible refine State.modR_keeps hc ?_ | with_reducible refine State.modF_keeps hc ?_
    | with_reducible refine State.addLoss_keeps hc ?_ | split

theorem State.chargeReport_keeps {s : State} {n : Nat} {x : Entry} (hc : Closed P) (h : P s) :
    P (State.chargeReport s n x) := by
  unfold State.chargeReport
  repeat' first
    | with_reducible assumption | with_reducible refine State.each_kept ?_ ?_
    | with_reducible refine State.attribute_keeps hc ?_ | with_reducible refine State.addLoss_keeps hc ?_ | split
    | dsimp only | intro _

theorem State.chargeThrottle_keeps {s : State} {f : Nat} {l : Loss} (hc : Closed P) (h : P s) :
    P (State.chargeThrottle s f l) := by
  unfold State.chargeThrottle
  repeat' first
    | with_reducible assumption | with_reducible refine State.each_kept ?_ ?_
    | with_reducible refine State.when_kept ?_ ?_ | with_reducible refine hc.wr ?_
    | with_reducible refine State.addWrap_keeps hc ?_ | with_reducible refine State.modF_keeps hc ?_ | split
    | dsimp only | intro _

theorem State.domainWindow_keeps {s : State} {d : Nat} {w : Nat} {es : List (Nat × Entry)} (hc : Closed P) (h : P s) :
    P (State.domainWindow s d w es) := by
  unfold State.domainWindow
  repeat' first
    | with_reducible assumption | with_reducible refine State.when_kept ?_ ?_
    | with_reducible refine State.modD_keeps hc ?_ | split | dsimp only | intro _

theorem State.closeEpisode_keeps {s : State} {g : Nat} {w : Nat} {truncated : Bool} (hc : Closed P) (h : P s) :
    P (State.closeEpisode s g w truncated) := by
  unfold State.closeEpisode
  repeat' first
    | with_reducible assumption | with_reducible refine State.when_kept ?_ ?_ | with_reducible refine hc.wr ?_
    | with_reducible refine State.modG_keeps hc ?_ | with_reducible refine State.inc_keeps hc ?_
    | with_reducible refine State.addWrap_keeps hc ?_ | split | dsimp only | intro _

theorem State.openEpisode_keeps {s : State} {g : Nat} {w : Nat} {r : Nat} {fields : Nat} {lost : Nat}
    (hc : Closed P) (h : P s) :
    P (State.openEpisode s g w r fields lost) := by
  unfold State.openEpisode
  repeat' first
    | with_reducible assumption | with_reducible refine State.when_kept ?_ ?_ | with_reducible refine hc.wr ?_
    | with_reducible refine State.modG_keeps hc ?_ | split | dsimp only | intro _

theorem State.episodeWindow_keeps {s : State} {g : Nat} {w : Nat} (hc : Closed P) (h : P s) :
    P (State.episodeWindow s g w) := by
  unfold State.episodeWindow
  repeat' first
    | with_reducible assumption | with_reducible refine State.modG_keeps hc ?_
    | with_reducible refine State.openEpisode_keeps hc ?_ | with_reducible refine State.closeEpisode_keeps hc ?_
    | split | dsimp only

theorem execEpisodeClose_keeps {g : Nat} {s : State} (hc : Closed P) (h : P s) :
    ∀ t, execEpisodeClose g s = .next t → P t := by
  unfold execEpisodeClose
  repeat' first
    | with_reducible refine next_kept ?_ | with_reducible assumption | with_reducible refine State.when_kept ?_ ?_
    | with_reducible refine State.closeEpisode_keeps hc ?_ | split | dsimp only | intro _

theorem State.startRun_keeps {s : State} {g : Nat} {t0 : Nat} (hc : Closed P) (h : P s) :
    P (State.startRun s g t0) := by
  unfold State.startRun
  repeat' first
    | with_reducible assumption | with_reducible refine State.each_kept ?_ ?_ | with_reducible refine hc.wr ?_
    | with_reducible refine State.modG_keeps hc ?_ | split | dsimp only | intro _

theorem State.runWindow_keeps {s : State} {g : Nat} {w : Nat} (hc : Closed P) (h : P s) :
    P (State.runWindow s g w) := by
  unfold State.runWindow
  repeat' first
    | with_reducible assumption | with_reducible refine State.each_kept ?_ ?_ | with_reducible refine hc.wr ?_
    | with_reducible refine State.addWrap_keeps hc ?_ | with_reducible refine State.add_keeps hc ?_
    | with_reducible refine State.modG_keeps hc ?_ | split | dsimp only | intro _

theorem State.endRunReport_keeps {s : State} {g : Nat} {faulted : Bool} (hc : Closed P) (h : P s) :
    P (State.endRunReport s g faulted) := by
  unfold State.endRunReport
  repeat' first
    | with_reducible assumption | with_reducible refine State.when_kept ?_ ?_ | with_reducible refine hc.wr ?_
    | with_reducible refine State.modG_keeps hc ?_ | with_reducible refine State.event_keeps hc ?_ | split
    | dsimp only | intro _

theorem State.runBoundary_keeps {s : State} {g : Nat} {w : Nat} (hc : Closed P) (h : P s) :
    P (State.runBoundary s g w) := by
  unfold State.runBoundary
  repeat' first
    | with_reducible assumption | with_reducible refine State.when_kept ?_ ?_
    | with_reducible refine State.runWindow_keeps hc ?_ | with_reducible refine State.endRunReport_keeps hc ?_
    | with_reducible refine State.startRun_keeps hc ?_ | with_reducible refine State.modG_keeps hc ?_ | split
    | dsimp only | intro _

theorem State.occField_keeps {s : State} {f : Nat} {p : Nat} {l : Loss} (hc : Closed P) (h : P s) :
    P (State.occField s f p l) := by
  unfold State.occField
  repeat' first
    | with_reducible assumption | with_reducible refine State.modF_keeps hc ?_ | split

theorem State.occGroup_keeps {s : State} {g : Nat} (hc : Closed P) (h : P s) :
    P (State.occGroup s g) := by
  unfold State.occGroup
  repeat' first
    | with_reducible assumption | with_reducible refine State.when_kept ?_ ?_
    | with_reducible refine State.spoil_keeps hc ?_ | split | dsimp only | intro _

theorem State.holderWindow_keeps {s : State} {g : Nat} {w : Nat} (hc : Closed P) (h : P s) :
    P (State.holderWindow s g w) := by
  unfold State.holderWindow
  repeat' first
    | with_reducible assumption | with_reducible refine State.wrFit_keeps hc ?_
    | with_reducible refine State.modG_keeps hc ?_ | with_reducible refine State.episodeWindow_keeps hc ?_
    | with_reducible refine State.runBoundary_keeps hc ?_ | with_reducible refine State.occGroup_keeps hc ?_ | split
    | dsimp only

theorem State.engineWindow_keeps {s : State} {w : Nat} (hc : Closed P) (h : P s) :
    P (State.engineWindow s w) := by
  unfold State.engineWindow
  repeat' first
    | with_reducible assumption | with_reducible refine State.wrFit_keeps hc ?_ | split

theorem State.conductorWindow_keeps {s : State} {f : Nat} {w : Nat} (hc : Closed P) (h : P s) :
    P (State.conductorWindow s f w) := by
  unfold State.conductorWindow
  repeat' first
    | with_reducible assumption | with_reducible refine State.holderWindow_keeps hc ?_
    | with_reducible refine State.engineWindow_keeps hc ?_

theorem State.sendWindow_keeps {s : State} {f : Nat} {w : Nat} (hc : Closed P) (h : P s) :
    P (State.sendWindow s f w) := by
  unfold State.sendWindow
  repeat' first
    | with_reducible assumption | with_reducible refine State.conductorWindow_keeps hc ?_ | split | dsimp only
    | intro _ | with_reducible refine Closed.lit hc ?_

theorem State.takeWindow_keeps {s : State} {x : HeldWin} (hc : Closed P) (h : P s) :
    P (State.takeWindow s x) := by
  unfold State.takeWindow
  repeat' first
    | with_reducible assumption | with_reducible refine hc.wr ?_ | with_reducible refine State.modF_keeps hc ?_
    | with_reducible refine State.conductorWindow_keeps hc ?_

theorem State.takeWindows_keeps {s : State} (hc : Closed P) (h : P s) :
    P (State.takeWindows s) := by
  unfold State.takeWindows
  repeat' first
    | with_reducible assumption | with_reducible refine State.each_kept ?_ ?_
    | with_reducible refine State.takeWindow_keeps hc ?_ | split | dsimp only | intro _
    | with_reducible refine Closed.lit hc ?_

theorem State.reportWindow_keeps {s : State} {f : Nat} {w : Nat} (hc : Closed P) (h : P s) :
    P (State.reportWindow s f w) := by
  unfold State.reportWindow
  repeat' first
    | with_reducible assumption | with_reducible refine State.each_kept ?_ ?_ | with_reducible refine hc.wr ?_
    | with_reducible refine State.add_keeps hc ?_ | with_reducible refine State.keepEntry_keeps hc ?_
    | with_reducible refine State.chargeEnergy_keeps hc ?_ | with_reducible refine State.chargeReport_keeps hc ?_
    | with_reducible refine State.wrFit_keeps hc ?_ | with_reducible refine State.chargeThrottle_keeps hc ?_
    | with_reducible refine State.domainWindow_keeps hc ?_ | with_reducible refine State.modF_keeps hc ?_
    | with_reducible refine State.occField_keeps hc ?_ | with_reducible refine State.sendWindow_keeps hc ?_ | split
    | dsimp only | intro _

theorem execWindowReport_keeps {f : Nat} {s : State} (hc : Closed P) (h : P s) :
    ∀ t, execWindowReport f s = .next t → P t := by
  unfold execWindowReport
  repeat' first
    | with_reducible refine next_kept ?_ | with_reducible assumption | with_reducible refine State.modF_keeps hc ?_
    | with_reducible refine State.reportWindow_keeps hc ?_ | split

theorem execEstimatorReady_keeps {s : State} (hc : Closed P) (h : P s) :
    ∀ t, execEstimatorReady s = .next t → P t := by
  unfold execEstimatorReady
  repeat' first
    | with_reducible refine next_kept ?_ | with_reducible assumption | with_reducible refine State.when_kept ?_ ?_
    | with_reducible refine State.setReady_keeps hc ?_ | split | dsimp only | intro _

theorem State.calSkip_keeps {s : State} {d : Nat} {code : Nat} (hc : Closed P) (h : P s) :
    P (State.calSkip s d code) := by
  unfold State.calSkip
  repeat' first
    | with_reducible assumption | with_reducible refine hc.wr ?_ | with_reducible refine State.inc_keeps hc ?_

theorem State.calDecide_keeps {s : State} {d : Nat} {x : CalIn} (hc : Closed P) (h : P s) :
    P (State.calDecide s d x) := by
  unfold State.calDecide
  repeat' first
    | with_reducible assumption | with_reducible refine State.each_kept ?_ ?_ | with_reducible refine hc.wr ?_
    | with_reducible refine State.wrSat_keeps hc ?_ | with_reducible refine State.modF_keeps hc ?_
    | with_reducible refine State.modD_keeps hc ?_ | with_reducible refine State.calSkip_keeps hc ?_
    | with_reducible refine State.inc_keeps hc ?_ | with_reducible refine State.modE_keeps hc ?_ | split | dsimp only
    | intro _

theorem execCalDecision_keeps {d : Nat} {s : State} (hc : Closed P) (h : P s) :
    ∀ t, execCalDecision d s = .next t → P t := by
  unfold execCalDecision
  repeat' first
    | with_reducible refine next_kept ?_ | with_reducible assumption | with_reducible refine State.when_kept ?_ ?_
    | with_reducible refine State.calDecide_keeps hc ?_ | split | dsimp only | intro _

theorem State.signLane_keeps {s : State} {n : Nat} {k : Nat} {i : Nat} {sg : Int} (hc : Closed P) (h : P s) :
    P (State.signLane s n k i sg) := by
  unfold State.signLane
  repeat' first
    | with_reducible assumption | with_reducible refine State.setWeight_keeps hc ?_
    | with_reducible refine State.modLn_keeps hc ?_ | split | dsimp only

theorem execCalSign_keeps {n : Nat} {s : State} (hc : Closed P) (h : P s) :
    ∀ t, execCalSign n s = .next t → P t := by
  unfold execCalSign
  repeat' first
    | with_reducible refine next_kept ?_ | with_reducible assumption | with_reducible refine State.each_kept ?_ ?_
    | with_reducible refine State.modE_keeps hc ?_ | with_reducible refine State.inc_keeps hc ?_
    | with_reducible refine State.signLane_keeps hc ?_ | split | dsimp only | intro _

theorem State.decayLane_keeps {s : State} {n : Nat} {i : Nat} (hc : Closed P) (h : P s) :
    P (State.decayLane s n i) := by
  unfold State.decayLane
  repeat' first
    | with_reducible assumption | with_reducible refine State.modLn_keeps hc ?_
    | with_reducible refine State.setWeight_keeps hc ?_ | split | dsimp only

theorem State.saturation_keeps {s : State} {n : Nat} (hc : Closed P) (h : P s) :
    P (State.saturation s n) := by
  unfold State.saturation
  repeat' first
    | with_reducible assumption | with_reducible refine State.when_kept ?_ ?_ | with_reducible refine hc.wr ?_
    | with_reducible refine State.wrSat_keeps hc ?_ | with_reducible refine State.modE_keeps hc ?_
    | with_reducible refine State.setEst_keeps hc ?_ | with_reducible refine State.inc_keeps hc ?_
    | with_reducible refine State.event_keeps hc ?_ | split | dsimp only | intro _

theorem State.estimatorTick_keeps {s : State} (hc : Closed P) (h : P s) :
    P (State.estimatorTick s) := by
  unfold State.estimatorTick
  repeat' first
    | with_reducible assumption | with_reducible refine State.each_kept ?_ ?_
    | with_reducible refine State.when_kept ?_ ?_ | with_reducible refine State.decayLane_keeps hc ?_
    | with_reducible refine State.saturation_keeps hc ?_ | with_reducible refine State.wrSat_keeps hc ?_
    | with_reducible refine State.modD_keeps hc ?_ | split | dsimp only | intro _

/-! ### Power -/

theorem State.showDomain_keeps {s : State} {d : Nat} (hc : Closed P) (h : P s) :
    P (State.showDomain s d) := by
  unfold State.showDomain
  repeat' first
    | with_reducible assumption | with_reducible refine hc.wr ?_

theorem State.setPhase_keeps {s : State} {d : Nat} {p : PdPhase} (hc : Closed P) (h : P s) :
    P (State.setPhase s d p) := by
  unfold State.setPhase
  repeat' first
    | with_reducible assumption | with_reducible refine State.modD_keeps hc ?_
    | with_reducible refine State.showDomain_keeps hc ?_

theorem State.countDomain_keeps {s : State} {d : Nat} (hc : Closed P) (h : P s) :
    P (State.countDomain s d) := by
  unfold State.countDomain
  repeat' first
    | with_reducible assumption | with_reducible refine State.each_kept ?_ ?_
    | with_reducible refine State.countHours_keeps hc ?_ | split | dsimp only | intro _

theorem State.switchPd_keeps {s : State} {d : Nat} {p : PdPhase} {f : Dom → Dom} (hc : Closed P) (h : P s) :
    P (State.switchPd s d p f) := by
  unfold State.switchPd
  repeat' first
    | with_reducible assumption | with_reducible refine State.countDomain_keeps hc ?_
    | with_reducible refine State.modD_keeps hc ?_ | split | dsimp only | intro _
    | with_reducible refine Closed.lit hc ?_

theorem State.endTransition_keeps {s : State} {d : Nat} (hc : Closed P) (h : P s) :
    P (State.endTransition s d) := by
  unfold State.endTransition
  repeat' first
    | with_reducible assumption | with_reducible refine State.when_kept ?_ ?_
    | with_reducible refine State.modD_keeps hc ?_ | with_reducible refine State.showDomain_keeps hc ?_
    | with_reducible refine State.deliverDomain_keeps hc ?_ | split | dsimp only | intro _
    | with_reducible refine Closed.lit hc ?_

theorem State.fenceDomain_keeps {s : State} {d : Nat} (hc : Closed P) (h : P s) :
    P (State.fenceDomain s d) := by
  unfold State.fenceDomain
  repeat' first
    | with_reducible assumption | with_reducible refine State.each_kept ?_ ?_
    | with_reducible refine State.discardDomain_keeps hc ?_ | with_reducible refine State.fenceAll_keeps hc ?_
    | with_reducible refine State.setPhase_keeps hc ?_ | split | dsimp only | intro _

theorem State.darken_keeps {s : State} {n : Nat} (hc : Closed P) (h : P s) :
    P (State.darken s n) := by
  unfold State.darken
  repeat' first
    | with_reducible assumption | with_reducible refine State.unpark_keeps hc ?_
    | with_reducible refine State.stopClock_keeps hc ?_ | with_reducible refine State.setOsc_keeps hc ?_
    | with_reducible refine State.islandsDueAt_keeps hc ?_ | with_reducible refine State.modR_keeps hc ?_
    | with_reducible refine State.modE_keeps hc ?_

theorem State.darkenDomain_keeps {s : State} {d : Nat} (hc : Closed P) (h : P s) :
    P (State.darkenDomain s d) := by
  unfold State.darkenDomain
  repeat' first
    | with_reducible assumption | with_reducible refine State.each_kept ?_ ?_
    | with_reducible refine State.darken_keeps hc ?_ | split | dsimp only | intro _

theorem State.isolateRouter_keeps {s : State} {d : Nat} (hc : Closed P) (h : P s) :
    P (State.isolateRouter s d) := by
  unfold State.isolateRouter
  repeat' first
    | with_reducible assumption | with_reducible refine State.each_kept ?_ ?_
    | with_reducible refine State.isolateCells_keeps hc ?_ | with_reducible refine State.modD_keeps hc ?_
    | with_reducible refine State.setPhase_keeps hc ?_ | split | dsimp only | intro _

theorem State.routerBack_keeps {s : State} {d : Nat} (hc : Closed P) (h : P s) :
    P (State.routerBack s d) := by
  unfold State.routerBack
  repeat' first
    | with_reducible assumption | with_reducible refine State.each_kept ?_ ?_
    | with_reducible refine State.loseBaselines_keeps hc ?_ | with_reducible refine State.add_keeps hc ?_ | split
    | dsimp only | intro _

theorem State.coreBack_keeps {s : State} {d : Nat} (hc : Closed P) (h : P s) :
    P (State.coreBack s d) := by
  unfold State.coreBack
  repeat' first
    | with_reducible assumption | with_reducible refine State.each_kept ?_ ?_
    | with_reducible refine State.loseCoreBaselines_keeps hc ?_ | split | dsimp only | intro _

theorem State.detachDomain_keeps {s : State} {d : Nat} (hc : Closed P) (h : P s) :
    P (State.detachDomain s d) := by
  unfold State.detachDomain
  repeat' first
    | with_reducible assumption | with_reducible refine State.each_kept ?_ ?_ | with_reducible refine hc.wr ?_
    | with_reducible refine State.startRegion_keeps hc ?_ | with_reducible refine State.modR_keeps hc ?_
    | with_reducible refine State.modD_keeps hc ?_ | with_reducible refine State.setPhase_keeps hc ?_ | split
    | dsimp only | intro _

theorem State.openCore_keeps {s : State} {d : Nat} (hc : Closed P) (h : P s) :
    P (State.openCore s d) := by
  unfold State.openCore
  repeat' first
    | with_reducible assumption | with_reducible refine State.modD_keeps hc ?_
    | with_reducible refine State.deliverDomain_keeps hc ?_ | with_reducible refine State.setPhase_keeps hc ?_

theorem State.restoreCore_keeps {s : State} {d : Nat} (hc : Closed P) (h : P s) :
    P (State.restoreCore s d) := by
  unfold State.restoreCore
  repeat' first
    | with_reducible assumption | with_reducible refine State.modD_keeps hc ?_
    | with_reducible refine State.setPhase_keeps hc ?_ | with_reducible refine State.openCore_keeps hc ?_ | split

theorem State.advance_keeps {s0 : State} {d : Nat} (hc : Closed P) (h : P s0) :
    P (State.advance s0 d) := by
  unfold State.advance
  repeat' first
    | with_reducible assumption | with_reducible refine State.modD_keeps hc ?_
    | with_reducible refine State.endTransition_keeps hc ?_ | with_reducible refine State.setPhase_keeps hc ?_
    | with_reducible refine State.fenceDomain_keeps hc ?_ | split | dsimp only

theorem State.nextPhase_keeps {s : State} {d : Nat} {p : PdPhase} (hc : Closed P) (h : P s) :
    P (State.nextPhase s d p) := by
  unfold State.nextPhase
  repeat' first
    | with_reducible assumption | with_reducible refine State.modD_keeps hc ?_
    | with_reducible refine State.restoreCore_keeps hc ?_ | with_reducible refine State.setPhase_keeps hc ?_
    | with_reducible refine State.switchPd_keeps hc ?_ | with_reducible refine State.advance_keeps hc ?_
    | with_reducible refine State.darkenDomain_keeps hc ?_ | with_reducible refine State.isolateRouter_keeps hc ?_
    | with_reducible refine State.detachDomain_keeps hc ?_ | with_reducible refine State.endTransition_keeps hc ?_
    | with_reducible refine State.routerBack_keeps hc ?_ | with_reducible refine State.fenceDomain_keeps hc ?_
    | with_reducible refine State.coreBack_keeps hc ?_ | with_reducible refine State.openCore_keeps hc ?_ | split
    | dsimp only

theorem State.fillPlaces_keeps {s : State} (hc : Closed P) (h : P s) :
    P (State.fillPlaces s) := by
  unfold State.fillPlaces
  repeat' first
    | with_reducible assumption | with_reducible refine State.each_kept ?_ ?_
    | with_reducible refine State.when_kept ?_ ?_ | with_reducible refine State.advance_keeps hc ?_ | split
    | dsimp only | intro _ | with_reducible refine Closed.lit hc ?_

theorem State.submitTarget_keeps {s : State} {d : Nat} {tgt : Nat} (hc : Closed P) (h : P s) :
    P (State.submitTarget s d tgt) := by
  unfold State.submitTarget
  repeat' first
    | with_reducible assumption | with_reducible refine hc.wr ?_ | with_reducible refine State.fillPlaces_keeps hc ?_
    | split | dsimp only | intro _ | with_reducible refine Closed.lit hc ?_

theorem State.submitWake_keeps {s : State} {d : Nat} (hc : Closed P) (h : P s) :
    P (State.submitWake s d) := by
  unfold State.submitWake
  repeat' first
    | with_reducible assumption | with_reducible refine hc.wr ?_ | with_reducible refine State.fillPlaces_keeps hc ?_
    | split | dsimp only | intro _ | with_reducible refine Closed.lit hc ?_

theorem execPowerStepWaitEnd_keeps {d : Nat} {s : State} (hc : Closed P) (h : P s) :
    ∀ t, execPowerStepWaitEnd d s = .next t → P t := by
  unfold execPowerStepWaitEnd
  repeat' first
    | with_reducible refine next_kept ?_ | with_reducible assumption | with_reducible refine State.when_kept ?_ ?_
    | with_reducible refine State.nextPhase_keeps hc ?_ | with_reducible refine State.fillPlaces_keeps hc ?_ | split
    | dsimp only | intro _

theorem execPdAckChange_keeps {d : Nat} {rtr : Bool} {level : Bool} {s : State} (hc : Closed P) (h : P s) :
    ∀ t, execPdAckChange d rtr level s = .next t → P t := by
  unfold execPdAckChange
  repeat' first
    | with_reducible refine next_kept ?_ | with_reducible assumption | with_reducible refine State.when_kept ?_ ?_
    | with_reducible refine State.countDomain_keeps hc ?_ | with_reducible refine State.modD_keeps hc ?_
    | with_reducible refine State.nextPhase_keeps hc ?_ | with_reducible refine State.fillPlaces_keeps hc ?_ | split
    | dsimp only | intro _

theorem execPdTimeout_keeps {d : Nat} {s : State} (hc : Closed P) (h : P s) :
    ∀ t, execPdTimeout d s = .next t → P t := by
  unfold execPdTimeout
  repeat' first
    | with_reducible refine next_kept ?_ | with_reducible assumption | with_reducible refine State.when_kept ?_ ?_
    | with_reducible refine State.modD_keeps hc ?_ | with_reducible refine State.raiseFault_keeps hc ?_ | split
    | dsimp only | intro _

theorem execQuiesceTimeout_keeps {s : State} (hc : Closed P) (h : P s) :
    ∀ t, execQuiesceTimeout s = .next t → P t := by
  unfold execQuiesceTimeout
  repeat' first
    | with_reducible refine next_kept ?_ | with_reducible assumption | with_reducible refine State.when_kept ?_ ?_
    | with_reducible refine State.syncQreq_keeps hc ?_ | with_reducible refine State.abortStop_keeps hc ?_
    | with_reducible refine State.fillPlaces_keeps hc ?_ | split | dsimp only | intro _

theorem execRegionRestart_keeps {n : Nat} {s : State} (hc : Closed P) (h : P s) :
    ∀ t, execRegionRestart n s = .next t → P t := by
  unfold execRegionRestart
  repeat' first
    | with_reducible refine next_kept ?_ | with_reducible assumption | with_reducible refine State.when_kept ?_ ?_
    | with_reducible refine State.restartClock_keeps hc ?_ | with_reducible refine State.lowerReq_keeps hc ?_
    | with_reducible refine State.reopenCells_keeps hc ?_ | with_reducible refine State.unobserve_keeps hc ?_
    | with_reducible refine State.fillPlaces_keeps hc ?_ | split | dsimp only | intro _
    | with_reducible refine Closed.lit hc ?_

theorem execRestartReport_keeps {n : Nat} {s : State} (hc : Closed P) (h : P s) :
    ∀ t, execRestartReport n s = .next t → P t := by
  unfold execRestartReport
  repeat' first
    | with_reducible refine next_kept ?_ | with_reducible assumption | with_reducible refine State.when_kept ?_ ?_
    | with_reducible refine hc.wr ?_ | with_reducible refine State.syncQreq_keeps hc ?_
    | with_reducible refine State.predictVolt_keeps hc ?_ | with_reducible refine State.requestVolt_keeps hc ?_
    | with_reducible refine State.modF_keeps hc ?_ | with_reducible refine State.setStop_keeps hc ?_
    | with_reducible refine State.nextStop_keeps hc ?_ | with_reducible refine State.fillPlaces_keeps hc ?_ | split
    | dsimp only | intro _ | with_reducible refine Closed.lit hc ?_

theorem execVoltTimeout_keeps {g : Nat} {s : State} (hc : Closed P) (h : P s) :
    ∀ t, execVoltTimeout g s = .next t → P t := by
  unfold execVoltTimeout
  repeat' first
    | with_reducible refine next_kept ?_ | with_reducible assumption
    | with_reducible refine State.timeoutStop_keeps hc ?_ | with_reducible refine State.fillPlaces_keeps hc ?_
    | with_reducible refine State.timeoutStep_keeps hc ?_ | split

/-! ### Mailbox -/

theorem State.acceptPost_keeps {s : State} {q : EpReq} (hc : Closed P) (h : P s) :
    P (State.acceptPost s q).2.2 := by
  unfold State.acceptPost
  repeat' first
    | with_reducible assumption | with_reducible refine State.modBx_keeps hc ?_
    | with_reducible refine State.inc_keeps hc ?_ | with_reducible refine State.showCount_keeps hc ?_
    | with_reducible refine State.semEvent_keeps hc ?_ | with_reducible refine State.setNotice_keeps hc ?_

theorem State.take_keeps {s : State} {q : EpReq} (hc : Closed P) (h : P s) :
    P (State.take s q).2.2 := by
  unfold State.take
  repeat' first
    | with_reducible assumption | with_reducible refine State.sramRead_keeps hc ?_
    | with_reducible refine State.modBx_keeps hc ?_ | with_reducible refine State.showCount_keeps hc ?_
    | with_reducible refine State.shiftWords_keeps hc ?_ | with_reducible refine State.sramLost_keeps hc ?_ | split
    | dsimp only

theorem State.peek_keeps {s : State} {q : EpReq} (hc : Closed P) (h : P s) :
    P (State.peek s q).2.2 := by
  unfold State.peek
  repeat' first
    | with_reducible assumption | with_reducible refine State.sramRead_keeps hc ?_
    | with_reducible refine State.sramLost_keeps hc ?_ | split | dsimp only | intro _
    | with_reducible refine Closed.lit hc ?_

theorem State.mailDo_keeps {s : State} {op : Nat} {q : EpReq} (hc : Closed P) (h : P s) :
    P (State.mailDo s op q).2.2 := by
  unfold State.mailDo
  repeat' first
    | with_reducible assumption | with_reducible refine State.acceptPost_keeps hc ?_
    | with_reducible refine State.take_keeps hc ?_ | with_reducible refine State.peek_keeps hc ?_ | split

theorem State.mailSend_keeps {s : State} {op : Nat} {q : EpReq} (hc : Closed P) (h : P s) :
    P (State.mailSend s op q) := by
  unfold State.mailSend
  repeat' first
    | with_reducible assumption | with_reducible refine State.mailDo_keeps hc ?_
    | with_reducible refine State.respond_keeps hc ?_ | split | dsimp only | intro _
    | with_reducible refine Closed.lit hc ?_

theorem State.mailPost_keeps {s : State} {q : EpReq} (hc : Closed P) (h : P s) :
    P (State.mailPost s q) := by
  unfold State.mailPost
  repeat' first
    | with_reducible assumption | with_reducible refine State.respond_keeps hc ?_
    | with_reducible refine State.mailSend_keeps hc ?_ | split | dsimp only

theorem execMbPost_keeps {q : EpReq} {s : State} (hc : Closed P) (h : P s) :
    ∀ t, execMbPost q s = .next t → P t := by
  exact next_kept (State.epTake_keeps hc h (fun _ _ ht => ht) fun _ ht => State.mailPost_keeps hc ht)

theorem State.mailRead_keeps {s : State} {op : Nat} {mode : Nat} {q : EpReq} (hc : Closed P) (h : P s) :
    P (State.mailRead s op mode q) := by
  unfold State.mailRead
  repeat' first
    | with_reducible assumption | with_reducible refine State.respond_keeps hc ?_
    | with_reducible refine State.mailSend_keeps hc ?_ | split | dsimp only

theorem execMbTake_keeps {q : EpReq} {s : State} (hc : Closed P) (h : P s) :
    ∀ t, execMbTake q s = .next t → P t := by
  exact next_kept (State.epTake_keeps hc h (fun _ _ ht => ht) fun _ ht => State.mailRead_keeps hc ht)

theorem execMbPeek_keeps {q : EpReq} {s : State} (hc : Closed P) (h : P s) :
    ∀ t, execMbPeek q s = .next t → P t := by
  exact next_kept (State.epTake_keeps hc h (fun _ _ ht => ht) fun _ ht => State.mailRead_keeps hc ht)

theorem State.bellRead_keeps {s : State} {q : EpReq} (hc : Closed P) (h : P s) :
    P (State.bellRead s q) := by
  unfold State.bellRead
  repeat' first
    | with_reducible assumption | with_reducible refine State.respond_keeps hc ?_
    | with_reducible refine State.modBx_keeps hc ?_ | split | dsimp only

theorem execDoorbellRead_keeps {q : EpReq} {s : State} (hc : Closed P) (h : P s) :
    ∀ t, execDoorbellRead q s = .next t → P t := by
  exact next_kept (State.epTake_keeps hc h (fun _ _ ht => ht) fun _ ht => State.bellRead_keeps hc ht)

theorem State.noticeRead_keeps {s : State} {q : EpReq} (hc : Closed P) (h : P s) :
    P (State.noticeRead s q) := by
  unfold State.noticeRead
  repeat' first
    | with_reducible assumption | with_reducible refine State.respond_keeps hc ?_
    | with_reducible refine State.setNotice_keeps hc ?_ | split

theorem execNoticeRead_keeps {q : EpReq} {s : State} (hc : Closed P) (h : P s) :
    ∀ t, execNoticeRead q s = .next t → P t := by
  exact next_kept (State.epTake_keeps hc h (fun _ _ ht => ht) fun _ ht => State.noticeRead_keeps hc ht)

theorem State.ring_keeps {s : State} {m : Nat} (hc : Closed P) (h : P s) :
    P (State.ring s m).2 := by
  unfold State.ring
  repeat' first
    | with_reducible assumption | with_reducible refine State.modBx_keeps hc ?_
    | with_reducible refine State.inc_keeps hc ?_ | with_reducible refine State.submitWake_keeps hc ?_
    | with_reducible refine State.deliver_keeps hc ?_ | split | dsimp only

theorem State.bellRing_keeps {s : State} {q : EpReq} (hc : Closed P) (h : P s) :
    P (State.bellRing s q) := by
  unfold State.bellRing
  repeat' first
    | with_reducible assumption | with_reducible refine State.respond_keeps hc ?_
    | with_reducible refine State.ring_keeps hc ?_ | split | dsimp only

theorem execDoorbellRing_keeps {q : EpReq} {s : State} (hc : Closed P) (h : P s) :
    ∀ t, execDoorbellRing q s = .next t → P t := by
  exact next_kept (State.epTake_keeps hc h (fun _ _ ht => ht) fun _ ht => State.bellRing_keeps hc ht)

theorem State.epAcquire_keeps {s : State} {q : EpReq} (hc : Closed P) (h : P s) :
    P (State.epAcquire s q) := by
  unfold State.epAcquire
  repeat' first
    | with_reducible assumption | with_reducible refine State.respond_keeps hc ?_
    | with_reducible refine State.noteLock_keeps hc ?_ | with_reducible refine State.lockAcquire_keeps hc ?_ | split

theorem execLockAcquire_keeps {q : EpReq} {s : State} (hc : Closed P) (h : P s) :
    ∀ t, execLockAcquire q s = .next t → P t := by
  exact next_kept (State.epTake_keeps hc h (fun _ _ ht => ht) fun _ ht => State.epAcquire_keeps hc ht)

theorem State.epRelease_keeps {s : State} {q : EpReq} (hc : Closed P) (h : P s) :
    P (State.epRelease s q) := by
  unfold State.epRelease
  repeat' first
    | with_reducible assumption | with_reducible refine State.respond_keeps hc ?_
    | with_reducible refine State.noteLock_keeps hc ?_ | with_reducible refine State.setLock_keeps hc ?_ | split
    | dsimp only

theorem execLockRelease_keeps {q : EpReq} {s : State} (hc : Closed P) (h : P s) :
    ∀ t, execLockRelease q s = .next t → P t := by
  exact next_kept (State.epTake_keeps hc h (fun _ _ ht => ht) fun _ ht => State.epRelease_keeps hc ht)

theorem State.epLockRead_keeps {s : State} {q : EpReq} (hc : Closed P) (h : P s) :
    P (State.epLockRead s q) := by
  unfold State.epLockRead
  repeat' first
    | with_reducible assumption | with_reducible refine State.respond_keeps hc ?_
    | with_reducible refine State.noteLock_keeps hc ?_ | split

theorem execLockRead_keeps {q : EpReq} {s : State} (hc : Closed P) (h : P s) :
    ∀ t, execLockRead q s = .next t → P t := by
  exact next_kept (State.epTake_keeps hc h (fun _ _ ht => ht) fun _ ht => State.epLockRead_keeps hc ht)

theorem State.requesterReset_keeps {s : State} {id : Nat} (hc : Closed P) (h : P s) :
    P (State.requesterReset s id) := by
  unfold State.requesterReset
  repeat' first
    | with_reducible assumption | with_reducible refine State.each_kept ?_ ?_
    | with_reducible refine State.discardBox_keeps hc ?_ | with_reducible refine State.clearBell_keeps hc ?_
    | with_reducible refine State.setNotice_keeps hc ?_ | with_reducible refine State.loseLocks_keeps hc ?_ | split
    | dsimp only | intro _ | with_reducible refine Closed.lit hc ?_

theorem execRequesterReset_keeps {id : Nat} {s : State} (hc : Closed P) (h : P s) :
    ∀ t, execRequesterReset id s = .next t → P t := by
  unfold execRequesterReset
  repeat' first
    | with_reducible refine next_kept ?_ | with_reducible assumption | with_reducible refine State.when_kept ?_ ?_
    | with_reducible refine State.epQueue_keeps hc ?_ | with_reducible refine State.requesterReset_keeps hc ?_ | split
    | dsimp only | intro _

theorem execMbTimedOut_keeps {m : Nat} {s : State} (hc : Closed P) (h : P s) :
    ∀ t, execMbTimedOut m s = .next t → P t := by
  unfold execMbTimedOut
  repeat' first
    | with_reducible refine next_kept ?_ | with_reducible assumption | with_reducible refine State.when_kept ?_ ?_
    | with_reducible refine State.modBx_keeps hc ?_ | with_reducible refine State.inc_keeps hc ?_
    | with_reducible refine State.noticeTimeout_keeps hc ?_ | split | dsimp only | intro _

theorem State.jobResetMail_keeps {s : State} (hc : Closed P) (h : P s) :
    P (State.jobResetMail s) := by
  unfold State.jobResetMail
  repeat' first
    | with_reducible assumption | with_reducible refine State.each_kept ?_ ?_
    | with_reducible refine State.modBx_keeps hc ?_ | with_reducible refine State.showCount_keeps hc ?_
    | with_reducible refine State.loseLocks_keeps hc ?_ | split | dsimp only | intro _
    | with_reducible refine Closed.lit hc ?_

theorem execSemaphorePost_keeps {s : State} (hc : Closed P) (h : P s) :
    ∀ t, execSemaphorePost s = .next t → P t := by
  unfold execSemaphorePost
  repeat' first
    | with_reducible refine next_kept ?_ | with_reducible assumption | with_reducible refine State.when_kept ?_ ?_
    | with_reducible refine State.modBx_keeps hc ?_ | with_reducible refine State.inc_keeps hc ?_ | split | dsimp only
    | intro _ | with_reducible refine Closed.lit hc ?_

theorem State.retirePost_keeps {s : State} {tag : Nat} (hc : Closed P) (h : P s) :
    P (State.retirePost s tag) := by
  unfold State.retirePost
  repeat' first
    | with_reducible assumption | split | dsimp only | intro _ | with_reducible refine Closed.lit hc ?_

theorem State.postStatus_keeps {s : State} {tag : Nat} {status : Nat} (hc : Closed P) (h : P s) :
    P (State.postStatus s tag status) := by
  unfold State.postStatus
  repeat' first
    | with_reducible assumption | with_reducible refine State.when_kept ?_ ?_ | with_reducible refine hc.wr ?_
    | with_reducible refine State.retirePost_keeps hc ?_ | with_reducible refine State.inc_keeps hc ?_ | split
    | dsimp only | intro _

theorem execPostStatus_keeps {tag : Nat} {status : Nat} {s : State} (hc : Closed P) (h : P s) :
    ∀ t, execPostStatus tag status s = .next t → P t := by
  unfold execPostStatus
  repeat' first
    | with_reducible refine next_kept ?_ | with_reducible assumption | with_reducible refine State.syHold_keeps hc ?_
    | with_reducible refine State.postStatus_keeps hc ?_ | split

theorem execSyPostTimeout_keeps {tag : Nat} {s : State} (hc : Closed P) (h : P s) :
    ∀ t, execSyPostTimeout tag s = .next t → P t := by
  unfold execSyPostTimeout
  repeat' first
    | with_reducible refine next_kept ?_ | with_reducible assumption | with_reducible refine State.when_kept ?_ ?_
    | with_reducible refine State.retirePost_keeps hc ?_ | with_reducible refine State.inc_keeps hc ?_ | split
    | dsimp only | intro _

/-! ### Rails -/

theorem State.setRailStatus_keeps {s : State} {r : Nat} {lo : Nat} {w : Nat} {v : Nat} (hc : Closed P) (h : P s) :
    P (State.setRailStatus s r lo w v) := by
  unfold State.setRailStatus
  repeat' first
    | with_reducible assumption | with_reducible refine hc.wr ?_

theorem State.degradeSteps_keeps {s : State} {f : Nat} (hc : Closed P) (h : P s) :
    P (State.degradeSteps s f) := by
  unfold State.degradeSteps
  repeat' first
    | with_reducible assumption | with_reducible refine State.when_kept ?_ ?_
    | with_reducible refine State.modG_keeps hc ?_ | with_reducible refine State.abortStep_keeps hc ?_
    | with_reducible refine State.abortStop_keeps hc ?_ | with_reducible refine State.fillPlaces_keeps hc ?_ | split
    | dsimp only | intro _

theorem State.degradeField_keeps {s : State} {f : Nat} (hc : Closed P) (h : P s) :
    P (State.degradeField s f) := by
  unfold State.degradeField
  repeat' first
    | with_reducible assumption | with_reducible refine State.each_kept ?_ ?_
    | with_reducible refine State.when_kept ?_ ?_ | with_reducible refine State.modRa_keeps hc ?_
    | with_reducible refine State.modF_keeps hc ?_ | with_reducible refine State.modG_keeps hc ?_
    | with_reducible refine State.degradeSteps_keeps hc ?_ | with_reducible refine State.recompute_keeps hc ?_
    | with_reducible refine State.retarget_keeps hc ?_ | split | dsimp only | intro _

theorem State.degradeRail_keeps {s : State} {cause : Nat} {r : Nat} (hc : Closed P) (h : P s) :
    P (State.degradeRail s cause r) := by
  unfold State.degradeRail
  repeat' first
    | with_reducible assumption | with_reducible refine hc.wr ?_
    | with_reducible refine State.setRailStatus_keeps hc ?_ | with_reducible refine State.inc_keeps hc ?_
    | with_reducible refine State.event_keeps hc ?_ | with_reducible refine State.degradeField_keeps hc ?_
    | with_reducible refine State.modRa_keeps hc ?_ | split | dsimp only

theorem State.recoverFailed_keeps {s : State} {r : Nat} (hc : Closed P) (h : P s) :
    P (State.recoverFailed s r) := by
  unfold State.recoverFailed
  repeat' first
    | with_reducible assumption | with_reducible refine hc.wr ?_
    | with_reducible refine State.setRailStatus_keeps hc ?_ | with_reducible refine State.modRa_keeps hc ?_
    | with_reducible refine State.modL_keeps hc ?_

theorem State.railsSettled_keeps {s : State} (hc : Closed P) (h : P s) :
    P (State.railsSettled s) := by
  unfold State.railsSettled
  repeat' first
    | with_reducible assumption | with_reducible refine State.when_kept ?_ ?_
    | with_reducible refine State.setReady_keeps hc ?_ | split | dsimp only | intro _

theorem State.linkRead_keeps {s : State} {k : Nat} (hc : Closed P) (h : P s) :
    P (State.linkRead s k) := by
  unfold State.linkRead
  repeat' first
    | with_reducible assumption | with_reducible refine State.when_kept ?_ ?_
    | with_reducible refine State.queueCmd_keeps hc ?_ | with_reducible refine State.railsSettled_keeps hc ?_ | split
    | dsimp only | intro _

theorem State.failCmd_keeps {s : State} {k : Nat} {cause : Nat} {c : LCmd} (hc : Closed P) (h : P s) :
    P (State.failCmd s k cause c) := by
  unfold State.failCmd
  repeat' first
    | with_reducible assumption | with_reducible refine State.each_kept ?_ ?_
    | with_reducible refine State.when_kept ?_ ?_ | with_reducible refine State.setRailStatus_keeps hc ?_
    | with_reducible refine State.degradeRail_keeps hc ?_ | with_reducible refine State.recoverFailed_keeps hc ?_
    | with_reducible refine State.linkRead_keeps hc ?_ | split | dsimp only | intro _

theorem State.dropCmd_keeps {s : State} {k : Nat} {c : LCmd} (hc : Closed P) (h : P s) :
    P (State.dropCmd s k c) := by
  unfold State.dropCmd
  repeat' first
    | with_reducible assumption | with_reducible refine State.modL_keeps hc ?_

theorem State.failAttempt_keeps {s : State} {k : Nat} {c : LCmd} (hc : Closed P) (h : P s) :
    P (State.failAttempt s k c) := by
  unfold State.failAttempt
  repeat' first
    | with_reducible assumption | with_reducible refine State.modL_keeps hc ?_
    | with_reducible refine State.pump_keeps hc ?_ | with_reducible refine State.dropCmd_keeps hc ?_
    | with_reducible refine State.failCmd_keeps hc ?_ | split

theorem State.damagedResp_keeps {s : State} {k : Nat} {c : LCmd} (hc : Closed P) (h : P s) :
    P (State.damagedResp s k c) := by
  unfold State.damagedResp
  repeat' first
    | with_reducible assumption | with_reducible refine State.each_kept ?_ ?_
    | with_reducible refine State.inc_keeps hc ?_ | with_reducible refine State.failAttempt_keeps hc ?_ | split
    | dsimp only | intro _

theorem State.injCrc_keeps {s : State} {k : Nat} (hc : Closed P) (h : P s) :
    ∀ t, State.injCrc s k = some t → P t := by
  unfold State.injCrc
  repeat' first
    | with_reducible refine some_kept ?_ | with_reducible exact none_kept | with_reducible assumption
    | with_reducible refine State.endInjection_keeps hc ?_ | split | dsimp only | intro _
    | with_reducible refine Closed.lit hc ?_

theorem State.resp_keeps {s : State} {k : Nat} {op : ROp} {tag : Nat} {status : Nat} {done : State → LCmd → State}
    (hc : Closed P) (h : P s) (h_done : ∀ t y, P t → P (done t y)) :
    P (State.resp s k op tag status done) := by
  unfold State.resp
  repeat' first
    | with_reducible assumption | with_reducible apply h_done
    | with_reducible exact State.injCrc_keeps hc (by assumption) _ (by assumption)
    | with_reducible refine State.damagedResp_keeps hc ?_ | with_reducible refine State.inc_keeps hc ?_
    | with_reducible refine State.dropCmd_keeps hc ?_ | with_reducible refine State.pump_keeps hc ?_
    | with_reducible refine State.failAttempt_keeps hc ?_ | with_reducible refine State.failCmd_keeps hc ?_ | split

theorem State.startEnumeration_keeps {s : State} (hc : Closed P) (h : P s) :
    P (State.startEnumeration s) := by
  unfold State.startEnumeration
  repeat' first
    | with_reducible assumption | with_reducible refine State.each_kept ?_ ?_ | with_reducible refine hc.wr ?_
    | with_reducible refine State.modL_keeps hc ?_ | with_reducible refine State.queueCmd_keeps hc ?_
    | with_reducible refine State.railsSettled_keeps hc ?_ | split | dsimp only | intro _
    | with_reducible refine Closed.lit hc ?_

theorem State.absentRail_keeps {s : State} {r : Nat} (hc : Closed P) (h : P s) :
    P (State.absentRail s r) := by
  unfold State.absentRail
  repeat' first
    | with_reducible assumption | with_reducible refine hc.wr ?_

theorem State.dropLink_keeps {s : State} {k : Nat} {st : Nat} {clock : Bool} (hc : Closed P) (h : P s) :
    P (State.dropLink s k st clock) := by
  unfold State.dropLink
  repeat' first
    | with_reducible assumption | with_reducible refine State.each_kept ?_ ?_ | with_reducible refine hc.wr ?_
    | with_reducible refine State.modL_keeps hc ?_ | with_reducible refine State.absentRail_keeps hc ?_
    | with_reducible refine State.railsSettled_keeps hc ?_ | split | dsimp only | intro _

theorem State.closeEnumeration_keeps {s : State} (hc : Closed P) (h : P s) :
    P (State.closeEnumeration s) := by
  unfold State.closeEnumeration
  repeat' first
    | with_reducible assumption | with_reducible refine State.each_kept ?_ ?_
    | with_reducible refine State.when_kept ?_ ?_ | with_reducible refine State.dropLink_keeps hc ?_
    | with_reducible refine State.degradeRail_keeps hc ?_ | with_reducible refine State.linkRead_keeps hc ?_ | split
    | dsimp only | intro _

theorem State.identified_keeps {s : State} {k : Nat} {phases : Nat} {data : Nat} (hc : Closed P) (h : P s) :
    P (State.identified s k phases data) := by
  unfold State.identified
  repeat' first
    | with_reducible assumption | with_reducible refine State.each_kept ?_ ?_ | with_reducible refine hc.wr ?_
    | with_reducible refine State.dropLink_keeps hc ?_ | with_reducible refine State.modL_keeps hc ?_
    | with_reducible refine State.absentRail_keeps hc ?_ | with_reducible refine State.queueCmd_keeps hc ?_
    | with_reducible refine State.linkRead_keeps hc ?_ | split | dsimp only | intro _

theorem State.clampRating_keeps {s : State} {o : Obj} {r : Nat} {v : Nat} {lo : Nat} {hi : Nat}
    (hc : Closed P) (h : P s) :
    P (State.clampRating s o r v lo hi) := by
  unfold State.clampRating
  repeat' first
    | with_reducible assumption | with_reducible refine State.when_kept ?_ ?_ | with_reducible refine hc.wr ?_
    | with_reducible refine State.event_keeps hc ?_ | split | dsimp only | intro _

theorem State.applyRating_keeps {s : State} {r : Nat} {data : Nat} (hc : Closed P) (h : P s) :
    P (State.applyRating s r data) := by
  unfold State.applyRating
  repeat' first
    | with_reducible assumption | with_reducible refine hc.wr ?_ | with_reducible refine State.modRa_keeps hc ?_
    | with_reducible refine State.clampRating_keeps hc ?_ | split | dsimp only

theorem State.railRead_keeps {s : State} {k : Nat} {r : Nat} (hc : Closed P) (h : P s) :
    P (State.railRead s k r) := by
  unfold State.railRead
  repeat' first
    | with_reducible assumption | with_reducible refine State.when_kept ?_ ?_ | with_reducible refine hc.wr ?_
    | with_reducible refine State.linkRead_keeps hc ?_ | split | dsimp only | intro _

theorem execRailEnumeration_keeps {s : State} (hc : Closed P) (h : P s) :
    ∀ t, execRailEnumeration s = .next t → P t := by
  unfold execRailEnumeration
  repeat' first
    | with_reducible refine next_kept ?_ | with_reducible assumption | with_reducible refine State.when_kept ?_ ?_
    | with_reducible refine State.startEnumeration_keeps hc ?_ | split | dsimp only | intro _

theorem execIdentify_keeps {k : Nat} {phases : Nat} {tag : Nat} {data : Nat} {s : State} (hc : Closed P) (h : P s) :
    ∀ t, execIdentify k phases tag data s = .next t → P t := by
  unfold execIdentify
  repeat' first
    | with_reducible refine next_kept ?_ | with_reducible assumption | with_reducible refine State.when_kept ?_ ?_
    | with_reducible refine State.resp_keeps hc ?_ ?_ | with_reducible refine State.identified_keeps hc ?_ | split
    | dsimp only | intro _

theorem execReadRating_keeps {k : Nat} {tag : Nat} {status : Nat} {data : Nat} {s : State} (hc : Closed P) (h : P s) :
    ∀ t, execReadRating k tag status data s = .next t → P t := by
  unfold execReadRating
  repeat' first
    | with_reducible refine next_kept ?_ | with_reducible assumption | with_reducible refine State.resp_keeps hc ?_ ?_
    | with_reducible refine State.applyRating_keeps hc ?_ | with_reducible refine State.modRa_keeps hc ?_
    | with_reducible refine State.railRead_keeps hc ?_ | split | dsimp only | intro _

theorem State.recoverStep_keeps {s : State} {c : LCmd} {i : Nat} {ok : Bool} (hc : Closed P) (h : P s) :
    P (State.recoverStep s c i ok) := by
  unfold State.recoverStep
  repeat' first
    | with_reducible assumption | with_reducible refine State.recoverFailed_keeps hc ?_
    | with_reducible refine State.modRa_keeps hc ?_ | split

theorem execReadVoltage_keeps {k : Nat} {tag : Nat} {status : Nat} {data : Nat} {s : State} (hc : Closed P) (h : P s) :
    ∀ t, execReadVoltage k tag status data s = .next t → P t := by
  unfold execReadVoltage
  repeat' first
    | with_reducible refine next_kept ?_ | with_reducible assumption | with_reducible refine State.when_kept ?_ ?_
    | with_reducible refine hc.wr ?_ | with_reducible refine State.resp_keeps hc ?_ ?_
    | with_reducible refine State.modRa_keeps hc ?_ | with_reducible refine State.recoverStep_keeps hc ?_
    | with_reducible refine State.railRead_keeps hc ?_ | split | dsimp only | intro _

theorem execSetVoltage_keeps {k : Nat} {tag : Nat} {status : Nat} {s : State} (hc : Closed P) (h : P s) :
    ∀ t, execSetVoltage k tag status s = .next t → P t := by
  unfold execSetVoltage
  repeat' first
    | with_reducible refine next_kept ?_ | with_reducible assumption | with_reducible refine State.each_kept ?_ ?_
    | with_reducible refine hc.wr ?_ | with_reducible refine State.resp_keeps hc ?_ ?_ | split | dsimp only | intro _

theorem execTlmEnable_keeps {k : Nat} {tag : Nat} {status : Nat} {s : State} (hc : Closed P) (h : P s) :
    ∀ t, execTlmEnable k tag status s = .next t → P t := by
  unfold execTlmEnable
  repeat' first
    | with_reducible refine next_kept ?_ | with_reducible assumption | with_reducible refine State.each_kept ?_ ?_
    | with_reducible refine hc.wr ?_ | with_reducible refine State.resp_keeps hc ?_ ?_
    | with_reducible refine State.modRa_keeps hc ?_ | split | dsimp only | intro _

theorem execReadStatus_keeps {k : Nat} {tag : Nat} {status : Nat} {data : Nat} {s : State} (hc : Closed P) (h : P s) :
    ∀ t, execReadStatus k tag status data s = .next t → P t := by
  unfold execReadStatus
  repeat' first
    | with_reducible refine next_kept ?_ | with_reducible assumption | with_reducible refine State.resp_keeps hc ?_ ?_
    | with_reducible refine State.recoverStep_keeps hc ?_ | split | dsimp only | intro _

theorem execClearFault_keeps {k : Nat} {tag : Nat} {status : Nat} {s : State} (hc : Closed P) (h : P s) :
    ∀ t, execClearFault k tag status s = .next t → P t := by
  unfold execClearFault
  repeat' first
    | with_reducible refine next_kept ?_ | with_reducible assumption | with_reducible refine State.resp_keeps hc ?_ ?_
    | with_reducible refine State.recoverStep_keeps hc ?_ | split | dsimp only | intro _

theorem execRespTimeout_keeps {k : Nat} {tag : Nat} {s : State} (hc : Closed P) (h : P s) :
    ∀ t, execRespTimeout k tag s = .next t → P t := by
  unfold execRespTimeout
  repeat' first
    | with_reducible refine next_kept ?_ | with_reducible assumption | with_reducible refine State.each_kept ?_ ?_
    | with_reducible refine State.when_kept ?_ ?_ | with_reducible refine State.inc_keeps hc ?_
    | with_reducible refine State.failAttempt_keeps hc ?_ | split | dsimp only | intro _

theorem execLinkSilent_keeps {k : Nat} {s : State} (hc : Closed P) (h : P s) :
    ∀ t, execLinkSilent k s = .next t → P t := by
  unfold execLinkSilent
  repeat' first
    | with_reducible refine next_kept ?_ | with_reducible assumption | with_reducible refine State.when_kept ?_ ?_
    | with_reducible refine State.dropLink_keeps hc ?_ | split | dsimp only | intro _

theorem State.tlmIn_keeps {s : State} {k : Nat} (hc : Closed P) (h : P s) :
    P (State.tlmIn s k) := by
  unfold State.tlmIn
  repeat' first
    | with_reducible assumption | with_reducible refine State.modL_keeps hc ?_
    | with_reducible refine State.pump_keeps hc ?_

theorem execDamagedFrame_keeps {k : Nat} {frame : Nat} {s : State} (hc : Closed P) (h : P s) :
    ∀ t, execDamagedFrame k frame s = .next t → P t := by
  unfold execDamagedFrame
  repeat' first
    | with_reducible refine next_kept ?_ | with_reducible assumption | with_reducible refine State.when_kept ?_ ?_
    | with_reducible refine State.resp_keeps hc ?_ ?_ | with_reducible refine State.damagedResp_keeps hc ?_
    | with_reducible refine State.inc_keeps hc ?_ | with_reducible refine State.tlmIn_keeps hc ?_ | split | dsimp only
    | intro _

theorem State.railEnergy_keeps {s : State} {r : Nat} {p : Nat} (hc : Closed P) (h : P s) :
    P (State.railEnergy s r p) := by
  unfold State.railEnergy
  repeat' first
    | with_reducible assumption | with_reducible refine State.addWrap_keeps hc ?_ | split | dsimp only | intro _
    | with_reducible refine Closed.lit hc ?_

theorem State.missInterval_keeps {s : State} {r : Nat} {k : Nat} (hc : Closed P) (h : P s) :
    P (State.missInterval s r k) := by
  unfold State.missInterval
  repeat' first
    | with_reducible assumption | with_reducible refine State.when_kept ?_ ?_
    | with_reducible refine State.inc_keeps hc ?_ | with_reducible refine State.setRailStatus_keeps hc ?_
    | with_reducible refine State.modRa_keeps hc ?_ | with_reducible refine State.railEnergy_keeps hc ?_
    | with_reducible refine State.addWrap_keeps hc ?_ | with_reducible refine State.degradeRail_keeps hc ?_ | split
    | dsimp only | intro _

theorem State.haveInterval_keeps {s : State} {r : Nat} {k : Nat} {v : Nat} {i : Nat} {settled : Bool}
    (hc : Closed P) (h : P s) :
    P (State.haveInterval s r k v i settled) := by
  unfold State.haveInterval
  repeat' first
    | with_reducible assumption | with_reducible refine State.setRailStatus_keeps hc ?_
    | with_reducible refine State.modRa_keeps hc ?_ | with_reducible refine State.railEnergy_keeps hc ?_

theorem State.overCurrent_keeps {s : State} {r : Nat} {i : Nat} (hc : Closed P) (h : P s) :
    P (State.overCurrent s r i) := by
  unfold State.overCurrent
  repeat' first
    | with_reducible assumption | with_reducible refine hc.wr ?_ | with_reducible refine State.inc_keeps hc ?_
    | with_reducible refine State.sendDirective_keeps hc ?_ | split | dsimp only

theorem State.recoverTlm_keeps {s : State} {r : Nat} {good : Bool} (hc : Closed P) (h : P s) :
    P (State.recoverTlm s r good) := by
  unfold State.recoverTlm
  repeat' first
    | with_reducible assumption | with_reducible refine hc.wr ?_
    | with_reducible refine State.recoverFailed_keeps hc ?_ | with_reducible refine State.setRailStatus_keeps hc ?_
    | with_reducible refine State.modRa_keeps hc ?_ | split

theorem State.telemetry_keeps {s : State} {k : Nat} {r : Nat} {tag : Nat} {data : Nat} (hc : Closed P) (h : P s) :
    P (State.telemetry s k r tag data) := by
  unfold State.telemetry
  repeat' first
    | with_reducible assumption | with_reducible refine State.when_kept ?_ ?_ | with_reducible refine hc.wr ?_
    | with_reducible refine State.inc_keeps hc ?_ | with_reducible refine State.event_keeps hc ?_
    | with_reducible refine State.degradeRail_keeps hc ?_ | with_reducible refine State.mark_keeps hc ?_ ?_
    | with_reducible refine State.haveInterval_keeps hc ?_ | with_reducible refine State.overCurrent_keeps hc ?_
    | with_reducible refine State.missInterval_keeps hc ?_ | with_reducible refine State.recoverTlm_keeps hc ?_
    | with_reducible refine State.tlmIn_keeps hc ?_ | split | dsimp only | intro _

theorem execTlm_keeps {k : Nat} {ch : Nat} {tag : Nat} {data : Nat} {s : State} (hc : Closed P) (h : P s) :
    ∀ t, execTlm k ch tag data s = .next t → P t := by
  unfold execTlm
  repeat' first
    | with_reducible refine next_kept ?_ | with_reducible assumption | with_reducible refine State.when_kept ?_ ?_
    | with_reducible exact State.injCrc_keeps hc (by assumption) _ (by assumption)
    | with_reducible refine State.inc_keeps hc ?_ | with_reducible refine State.tlmIn_keeps hc ?_
    | with_reducible refine State.telemetry_keeps hc ?_ | split | dsimp only | intro _

theorem State.markLink_keeps {s : State} {j : Nat} {k : Nat} (hc : Closed P) (h : P s) :
    P (State.markLink s j k) := by
  unfold State.markLink
  repeat' first
    | with_reducible assumption | with_reducible refine State.each_kept ?_ ?_
    | with_reducible refine State.mark_keeps hc ?_ ?_ | with_reducible refine State.missInterval_keeps hc ?_
    | with_reducible refine State.modL_keeps hc ?_ | with_reducible refine State.pump_keeps hc ?_ | split | dsimp only
    | intro _

theorem execMark_keeps {s : State} (hc : Closed P) (h : P s) :
    ∀ t, execMark s = .next t → P t := by
  unfold execMark
  repeat' first
    | with_reducible refine next_kept ?_ | with_reducible assumption | with_reducible refine State.each_kept ?_ ?_
    | with_reducible refine State.when_kept ?_ ?_ | with_reducible refine State.mark_keeps hc ?_ ?_
    | with_reducible refine State.modL_keeps hc ?_ | with_reducible refine State.markLink_keeps hc ?_ | split
    | dsimp only | intro _

theorem State.sendDueMarks_keeps {s : State} (hc : Closed P) (h : P s) :
    P (State.sendDueMarks s) := by
  unfold State.sendDueMarks
  repeat' first
    | with_reducible assumption | with_reducible refine State.each_kept ?_ ?_
    | with_reducible refine State.markLink_keeps hc ?_ | with_reducible refine State.pump_keeps hc ?_ | split
    | dsimp only | intro _

theorem State.acceptRecover_keeps {s : State} {r : Nat} (hc : Closed P) (h : P s) :
    P (State.acceptRecover s r) := by
  unfold State.acceptRecover
  repeat' first
    | with_reducible assumption | with_reducible refine hc.wr ?_ | with_reducible refine State.modRa_keeps hc ?_
    | with_reducible refine State.recoverRail_keeps hc ?_ | split

/-! ### Caps -/

theorem State.setDuty_keeps {s : State} {f : Nat} {u : Nat} (hc : Closed P) (h : P s) :
    P (State.setDuty s f u) := by
  unfold State.setDuty
  repeat' first
    | with_reducible assumption | with_reducible refine State.each_kept ?_ ?_ | with_reducible refine hc.wr ?_
    | with_reducible refine State.modR_keeps hc ?_ | split | dsimp only | intro _

theorem State.resendDuty_keeps {s : State} {g : Nat} (hc : Closed P) (h : P s) :
    P (State.resendDuty s g) := by
  unfold State.resendDuty
  repeat' first
    | with_reducible assumption | with_reducible refine State.each_kept ?_ ?_
    | with_reducible refine State.setDuty_keeps hc ?_ | split | dsimp only | intro _

theorem State.fastCap_keeps {s : State} {f : Nat} (hc : Closed P) (h : P s) :
    P (State.fastCap s f) := by
  unfold State.fastCap
  repeat' first
    | with_reducible assumption | with_reducible refine State.setDuty_keeps hc ?_
    | with_reducible refine State.wrInt_keeps hc ?_ | with_reducible refine State.modF_keeps hc ?_

theorem execFastCapUpdate_keeps {f : Nat} {s : State} (hc : Closed P) (h : P s) :
    ∀ t, execFastCapUpdate f s = .next t → P t := by
  unfold execFastCapUpdate
  repeat' first
    | with_reducible refine next_kept ?_ | with_reducible assumption | with_reducible refine State.when_kept ?_ ?_
    | with_reducible refine State.fastCap_keeps hc ?_ | split | dsimp only | intro _

theorem State.parkGroup_keeps {s : State} {g : Nat} {count : Nat} {release : Nat} (hc : Closed P) (h : P s) :
    P (State.parkGroup s g count release) := by
  unfold State.parkGroup
  repeat' first
    | with_reducible assumption | with_reducible refine State.each_kept ?_ ?_
    | with_reducible refine State.givePark_keeps hc ?_ | split | dsimp only | intro _

theorem State.engageFloor_keeps {s : State} {g : Nat} (hc : Closed P) (h : P s) :
    P (State.engageFloor s g) := by
  unfold State.engageFloor
  repeat' first
    | with_reducible assumption | with_reducible refine hc.wr ?_ | with_reducible refine State.modG_keeps hc ?_
    | with_reducible refine State.parkGroup_keeps hc ?_ | with_reducible refine State.resendDuty_keeps hc ?_
    | with_reducible refine State.showCapFlags_keeps hc ?_

theorem State.floorStart_keeps {s : State} {g : Nat} (hc : Closed P) (h : P s) :
    P (State.floorStart s g) := by
  unfold State.floorStart
  repeat' first
    | with_reducible assumption | with_reducible refine State.each_kept ?_ ?_
    | with_reducible refine State.when_kept ?_ ?_ | with_reducible refine State.setDuty_keeps hc ?_ | split
    | dsimp only | intro _

theorem State.stopFloor_keeps {s : State} {g : Nat} (hc : Closed P) (h : P s) :
    P (State.stopFloor s g) := by
  unfold State.stopFloor
  repeat' first
    | with_reducible assumption | with_reducible refine hc.wr ?_ | with_reducible refine State.modG_keeps hc ?_
    | with_reducible refine State.resendDuty_keeps hc ?_ | with_reducible refine State.showCapFlags_keeps hc ?_

theorem State.floorUpdate_keeps {s : State} {g : Nat} {fl : Floor} (hc : Closed P) (h : P s) :
    P (State.floorUpdate s g fl) := by
  unfold State.floorUpdate
  repeat' first
    | with_reducible assumption | with_reducible refine hc.wr ?_ | with_reducible refine State.modG_keeps hc ?_
    | with_reducible refine State.parkGroup_keeps hc ?_ | split | dsimp only

theorem execFloorRateUpdate_keeps {g : Nat} {s : State} (hc : Closed P) (h : P s) :
    ∀ t, execFloorRateUpdate g s = .next t → P t := by
  unfold execFloorRateUpdate
  repeat' first
    | with_reducible refine next_kept ?_ | with_reducible assumption | with_reducible refine State.when_kept ?_ ?_
    | with_reducible refine State.floorUpdate_keeps hc ?_ | split | dsimp only | intro _

theorem State.tripParks_keeps {s : State} {f : Nat} (hc : Closed P) (h : P s) :
    P (State.tripParks s f) := by
  unfold State.tripParks
  repeat' first
    | with_reducible assumption | with_reducible refine State.each_kept ?_ ?_
    | with_reducible refine State.givePark_keeps hc ?_ | with_reducible refine State.tripStop_keeps hc ?_ | split
    | dsimp only | intro _

theorem State.thermalTrip_keeps {s : State} {f : Nat} {n : Nat} {v : Int} {injected : Bool} (hc : Closed P) (h : P s) :
    P (State.thermalTrip s f n v injected) := by
  unfold State.thermalTrip
  repeat' first
    | with_reducible assumption | with_reducible refine State.when_kept ?_ ?_
    | with_reducible refine State.tripParks_keeps hc ?_ | with_reducible refine State.modF_keeps hc ?_
    | with_reducible refine State.stopFloor_keeps hc ?_ | with_reducible refine State.unobserve_keeps hc ?_
    | with_reducible refine State.modG_keeps hc ?_ | with_reducible refine State.setFlag_keeps hc ?_
    | with_reducible refine State.event_keeps hc ?_ | with_reducible refine State.inc_keeps hc ?_
    | with_reducible refine State.markRuns_keeps hc ?_ | with_reducible refine State.raiseFault_keeps hc ?_ | split
    | dsimp only | intro _ | with_reducible refine Closed.lit hc ?_

theorem State.tripParksDue_keeps {s : State} (hc : Closed P) (h : P s) :
    P (State.tripParksDue s) := by
  unfold State.tripParksDue
  repeat' first
    | with_reducible assumption | with_reducible refine State.each_kept ?_ ?_
    | with_reducible refine State.tripParks_keeps hc ?_ | split | dsimp only | intro _
    | with_reducible refine Closed.lit hc ?_

theorem State.useTempInj_keeps {s : State} (hc : Closed P) (h : P s) :
    P (State.useTempInj s) := by
  unfold State.useTempInj
  repeat' first
    | with_reducible assumption | with_reducible refine State.endInjection_keeps hc ?_ | split | dsimp only | intro _
    | with_reducible refine Closed.lit hc ?_

theorem State.readTemp_keeps {s : State} {n : Nat} {i : Nat} {raw : Option Int} (hc : Closed P) (h : P s) :
    P (State.readTemp s n i raw) := by
  unfold State.readTemp
  repeat' first
    | with_reducible assumption | with_reducible refine State.when_kept ?_ ?_
    | with_reducible refine State.useTempInj_keeps hc ?_ | with_reducible refine State.modTs_keeps hc ?_
    | with_reducible refine State.event_keeps hc ?_ | with_reducible refine State.modF_keeps hc ?_
    | with_reducible refine State.thermalTrip_keeps hc ?_ | split | dsimp only | intro _

theorem State.tripRelease_keeps {s : State} {g : Nat} (hc : Closed P) (h : P s) :
    P (State.tripRelease s g) := by
  unfold State.tripRelease
  repeat' first
    | with_reducible assumption | with_reducible refine State.when_kept ?_ ?_
    | with_reducible refine State.modG_keeps hc ?_ | with_reducible refine State.retarget_keeps hc ?_ | split
    | dsimp only | intro _

theorem execThermalRead_keeps {n : Nat} {readings : List TsReading} {s : State} (hc : Closed P) (h : P s) :
    ∀ t, execThermalRead n readings s = .next t → P t := by
  unfold execThermalRead
  repeat' first
    | with_reducible refine next_kept ?_ | with_reducible assumption | with_reducible refine State.each_kept ?_ ?_
    | with_reducible refine State.when_kept ?_ ?_ | with_reducible refine State.readTemp_keeps hc ?_
    | with_reducible refine State.tripRelease_keeps hc ?_ | split | dsimp only | intro _

theorem execLimitRecompute_keeps {s : State} (hc : Closed P) (h : P s) :
    ∀ t, execLimitRecompute s = .next t → P t := by
  unfold execLimitRecompute
  repeat' first
    | with_reducible refine next_kept ?_ | with_reducible assumption | with_reducible refine State.when_kept ?_ ?_
    | with_reducible refine State.recompute_keeps hc ?_ | split | dsimp only | intro _

theorem execCapNWindow_keeps {low : Bool} {s : State} (hc : Closed P) (h : P s) :
    ∀ t, execCapNWindow low s = .next t → P t := by
  unfold execCapNWindow
  repeat' first
    | with_reducible refine next_kept ?_ | with_reducible assumption | with_reducible refine State.when_kept ?_ ?_
    | with_reducible refine State.setFlag_keeps hc ?_ | with_reducible refine State.inc_keeps hc ?_ | split
    | dsimp only | intro _ | with_reducible refine Closed.lit hc ?_

theorem execHotNAssert_keeps {s : State} (hc : Closed P) (h : P s) :
    ∀ t, execHotNAssert s = .next t → P t := by
  unfold execHotNAssert
  repeat' first
    | with_reducible refine next_kept ?_ | with_reducible assumption | with_reducible refine State.each_kept ?_ ?_
    | with_reducible refine State.when_kept ?_ ?_ | with_reducible refine State.setFlag_keeps hc ?_
    | with_reducible refine State.inc_keeps hc ?_ | with_reducible refine State.event_keeps hc ?_
    | with_reducible refine State.spoil_keeps hc ?_ | with_reducible refine State.markRuns_keeps hc ?_
    | with_reducible refine State.retargetAll_keeps hc ?_ | split | dsimp only | intro _

theorem execHotNRelease_keeps {s : State} (hc : Closed P) (h : P s) :
    ∀ t, execHotNRelease s = .next t → P t := by
  unfold execHotNRelease
  repeat' first
    | with_reducible refine next_kept ?_ | with_reducible assumption | with_reducible refine State.when_kept ?_ ?_
    | with_reducible refine State.setFlag_keeps hc ?_ | with_reducible refine State.retargetAll_keeps hc ?_ | split
    | dsimp only | intro _

/-! ### SlowLoop -/

theorem State.tickField_keeps {s : State} {f : Nat} (hc : Closed P) (h : P s) :
    P (State.tickField s f) := by
  unfold State.tickField
  repeat' first
    | with_reducible assumption | with_reducible refine State.when_kept ?_ ?_
    | with_reducible refine State.holdOld_keeps hc ?_ | with_reducible refine State.wrInt_keeps hc ?_
    | with_reducible refine State.modF_keeps hc ?_ | split | dsimp only | intro _

theorem State.tickTherm_keeps {s : State} {f : Nat} (hc : Closed P) (h : P s) :
    P (State.tickTherm s f) := by
  unfold State.tickTherm
  repeat' first
    | with_reducible assumption | with_reducible refine State.wrInt_keeps hc ?_
    | with_reducible refine State.wrFit_keeps hc ?_

theorem State.tickSafe_keeps {s : State} {f : Nat} (hc : Closed P) (h : P s) :
    P (State.tickSafe s f) := by
  unfold State.tickSafe
  repeat' first
    | with_reducible assumption | with_reducible refine State.when_kept ?_ ?_
    | with_reducible refine State.modF_keeps hc ?_ | with_reducible refine State.modG_keeps hc ?_ | split | dsimp only
    | intro _

theorem State.tickRails_keeps {s : State} (hc : Closed P) (h : P s) :
    P (State.tickRails s) := by
  unfold State.tickRails
  repeat' first
    | with_reducible assumption | with_reducible refine hc.wr ?_ | with_reducible refine State.wrFit_keeps hc ?_
    | with_reducible refine State.recomputeRails_keeps hc ?_ | split | dsimp only | intro _
    | with_reducible refine Closed.lit hc ?_

theorem State.clearRails_keeps {s : State} (hc : Closed P) (h : P s) :
    P (State.clearRails s) := by
  unfold State.clearRails
  repeat' first
    | with_reducible assumption | with_reducible refine State.each_kept ?_ ?_
    | with_reducible refine State.modRa_keeps hc ?_ | split | dsimp only | intro _

theorem State.setPow_keeps {s : State} {g : Nat} {e : Nat} (hc : Closed P) (h : P s) :
    P (State.setPow s g e) := by
  unfold State.setPow
  repeat' first
    | with_reducible assumption | with_reducible refine hc.wr ?_

theorem State.downStep_keeps {s : State} {g : Nat} {e : Nat} {p : Nat} (hc : Closed P) (h : P s) :
    P (State.downStep s g e p) := by
  unfold State.downStep
  repeat' first
    | with_reducible assumption | with_reducible refine State.setPow_keeps hc ?_
    | with_reducible refine State.inc_keeps hc ?_ | with_reducible refine State.modG_keeps hc ?_

theorem State.upStep_keeps {s : State} {g : Nat} {e : Nat} (hc : Closed P) (h : P s) :
    P (State.upStep s g e) := by
  unfold State.upStep
  repeat' first
    | with_reducible assumption | with_reducible refine State.setPow_keeps hc ?_
    | with_reducible refine State.inc_keeps hc ?_ | with_reducible refine State.modG_keeps hc ?_ | split | dsimp only

theorem State.tickPow_keeps {s : State} {g : Nat} (hc : Closed P) (h : P s) :
    P (State.tickPow s g) := by
  unfold State.tickPow
  repeat' first
    | with_reducible assumption | with_reducible refine hc.wr ?_ | with_reducible refine State.setPow_keeps hc ?_
    | with_reducible refine State.modG_keeps hc ?_ | with_reducible refine State.downStep_keeps hc ?_
    | with_reducible refine State.upStep_keeps hc ?_ | with_reducible refine State.showCeiling_keeps hc ?_ | split

theorem State.showExcess_keeps {s : State} {g : Nat} (hc : Closed P) (h : P s) :
    P (State.showExcess s g) := by
  unfold State.showExcess
  repeat' first
    | with_reducible assumption | with_reducible refine hc.wr ?_ | with_reducible refine State.free_keeps hc ?_
    | split | dsimp only

theorem State.tickFloor_keeps {s : State} {g : Nat} (hc : Closed P) (h : P s) :
    P (State.tickFloor s g) := by
  unfold State.tickFloor
  repeat' first
    | with_reducible assumption | with_reducible refine State.each_kept ?_ ?_
    | with_reducible refine State.when_kept ?_ ?_ | with_reducible refine hc.wr ?_
    | with_reducible refine State.engageFloor_keeps hc ?_ | with_reducible refine State.modG_keeps hc ?_
    | with_reducible refine State.setDuty_keeps hc ?_ | with_reducible refine State.stopFloor_keeps hc ?_
    | with_reducible refine State.showCapFlags_keeps hc ?_ | with_reducible refine State.showExcess_keeps hc ?_
    | with_reducible refine State.inc_keeps hc ?_ | with_reducible refine State.event_keeps hc ?_ | split | dsimp only
    | intro _

theorem State.tickNoGroup_keeps {s : State} (hc : Closed P) (h : P s) :
    P (State.tickNoGroup s) := by
  unfold State.tickNoGroup
  repeat' first
    | with_reducible assumption | with_reducible refine State.showCapFlags_keeps hc ?_
    | with_reducible refine State.event_keeps hc ?_ | with_reducible refine State.modG_keeps hc ?_ | split
    | dsimp only | intro _ | with_reducible refine Closed.lit hc ?_

theorem State.tickHold_keeps {s : State} {f : Nat} (hc : Closed P) (h : P s) :
    P (State.tickHold s f) := by
  unfold State.tickHold
  repeat' first
    | with_reducible assumption | with_reducible refine hc.wr ?_

theorem State.tickGuard_keeps {s : State} {f : Nat} (hc : Closed P) (h : P s) :
    P (State.tickGuard s f) := by
  unfold State.tickGuard
  repeat' first
    | with_reducible assumption | with_reducible refine State.each_kept ?_ ?_
    | with_reducible refine State.setDs_keeps hc ?_ | with_reducible refine State.modF_keeps hc ?_ | split
    | dsimp only | intro _

theorem State.moveTrim_keeps {s : State} {f : Nat} {q : Int × Nat} (hc : Closed P) (h : P s) :
    P (State.moveTrim s f q) := by
  unfold State.moveTrim
  repeat' first
    | with_reducible assumption | with_reducible refine State.when_kept ?_ ?_ | with_reducible refine hc.wr ?_
    | with_reducible refine State.wrInt_keeps hc ?_ | with_reducible refine State.modF_keeps hc ?_
    | with_reducible refine State.inc_keeps hc ?_ | split | dsimp only | intro _

theorem State.tickTrim_keeps {s : State} {f : Nat} (hc : Closed P) (h : P s) :
    P (State.tickTrim s f) := by
  unfold State.tickTrim
  repeat' first
    | with_reducible assumption | with_reducible refine hc.wr ?_ | with_reducible refine State.moveTrim_keeps hc ?_
    | with_reducible refine State.predictVolt_keeps hc ?_ | with_reducible refine State.requestVolt_keeps hc ?_
    | split | dsimp only

theorem State.tickPeaks_keeps {s : State} {n : Nat} (hc : Closed P) (h : P s) :
    P (State.tickPeaks s n) := by
  unfold State.tickPeaks
  repeat' first
    | with_reducible assumption | with_reducible refine hc.wr ?_ | with_reducible refine State.modR_keeps hc ?_
    | with_reducible refine State.modE_keeps hc ?_

theorem State.tickGroupPeak_keeps {s : State} {g : Nat} (hc : Closed P) (h : P s) :
    P (State.tickGroupPeak s g) := by
  unfold State.tickGroupPeak
  repeat' first
    | with_reducible assumption | with_reducible refine hc.wr ?_

theorem State.tickStress_keeps {s : State} {f : Nat} (hc : Closed P) (h : P s) :
    P (State.tickStress s f) := by
  unfold State.tickStress
  repeat' first
    | with_reducible assumption | with_reducible refine State.when_kept ?_ ?_
    | with_reducible refine State.wrBytes_keeps hc ?_ | with_reducible refine State.modF_keeps hc ?_ | split
    | dsimp only | intro _

theorem State.addEnergy_keeps {s : State} {x : Nat × Nat} (hc : Closed P) (h : P s) :
    P (State.addEnergy s x) := by
  unfold State.addEnergy
  repeat' first
    | with_reducible assumption | with_reducible refine State.addWrap_keeps hc ?_ | split | dsimp only | intro _
    | with_reducible refine Closed.lit hc ?_

theorem State.takeSnapshot_keeps {s : State} (hc : Closed P) (h : P s) :
    P (State.takeSnapshot s) := by
  unfold State.takeSnapshot
  repeat' first
    | with_reducible assumption | with_reducible refine State.each_kept ?_ ?_ | with_reducible refine hc.wr ?_ | split
    | dsimp only | intro _ | with_reducible refine Closed.lit hc ?_

theorem State.showParts_keeps {s : State} (hc : Closed P) (h : P s) :
    P (State.showParts s) := by
  unfold State.showParts
  repeat' first
    | with_reducible assumption | with_reducible refine State.each_kept ?_ ?_ | with_reducible refine hc.wr ?_ | split
    | dsimp only | intro _

theorem State.tickEnergy_keeps {s : State} (hc : Closed P) (h : P s) :
    P (State.tickEnergy s) := by
  unfold State.tickEnergy
  repeat' first
    | with_reducible assumption | with_reducible refine State.each_kept ?_ ?_
    | with_reducible refine State.when_kept ?_ ?_ | with_reducible refine State.addEnergy_keeps hc ?_
    | with_reducible refine State.takeSnapshot_keeps hc ?_ | with_reducible refine State.showParts_keeps hc ?_ | split
    | dsimp only | intro _ | with_reducible refine Closed.lit hc ?_

theorem State.newTick_keeps {s : State} (hc : Closed P) (h : P s) :
    P (State.newTick s) := by
  unfold State.newTick
  repeat' first
    | with_reducible assumption | with_reducible refine State.each_kept ?_ ?_
    | with_reducible refine State.modF_keeps hc ?_ | with_reducible refine State.modG_keeps hc ?_ | split | dsimp only
    | intro _

theorem State.openTick_keeps {s : State} (hc : Closed P) (h : P s) :
    P (State.openTick s) := by
  unfold State.openTick
  repeat' first
    | with_reducible assumption | with_reducible refine State.each_kept ?_ ?_
    | with_reducible refine State.modG_keeps hc ?_ | split | dsimp only | intro _
    | with_reducible refine Closed.lit hc ?_

theorem State.scanSrams_keeps {s : State} (hc : Closed P) (h : P s) :
    P (State.scanSrams s) := by
  unfold State.scanSrams
  repeat' first
    | with_reducible assumption | with_reducible refine State.readFlips_keeps hc ?_ ?_
    | with_reducible refine State.sramLost_keeps hc ?_ | split | dsimp only | intro _

theorem State.slowTick_keeps {s : State} (hc : Closed P) (h : P s) :
    P (State.slowTick s) := by
  unfold State.slowTick
  repeat' first
    | with_reducible assumption | with_reducible refine State.each_kept ?_ ?_
    | with_reducible refine State.scanSrams_keeps hc ?_ | with_reducible refine State.openTick_keeps hc ?_
    | with_reducible refine State.tickField_keeps hc ?_ | with_reducible refine State.tickTherm_keeps hc ?_
    | with_reducible refine State.tripRelease_keeps hc ?_ | with_reducible refine State.tickSafe_keeps hc ?_
    | with_reducible refine State.tickRails_keeps hc ?_ | with_reducible refine State.recompute_keeps hc ?_
    | with_reducible refine State.clearRails_keeps hc ?_ | with_reducible refine State.tickPow_keeps hc ?_
    | with_reducible refine State.retargetAll_keeps hc ?_ | with_reducible refine State.tickFloor_keeps hc ?_
    | with_reducible refine State.tickNoGroup_keeps hc ?_ | with_reducible refine State.tickHold_keeps hc ?_
    | with_reducible refine State.tickGuard_keeps hc ?_ | with_reducible refine State.tickTrim_keeps hc ?_
    | with_reducible refine State.estimatorTick_keeps hc ?_ | with_reducible refine State.tickPeaks_keeps hc ?_
    | with_reducible refine State.tickGroupPeak_keeps hc ?_ | with_reducible refine State.tickStress_keeps hc ?_
    | with_reducible refine State.tickEnergy_keeps hc ?_ | with_reducible refine State.newTick_keeps hc ?_ | split
    | dsimp only | intro _

theorem execSlowLoopTick_keeps {s : State} (hc : Closed P) (h : P s) :
    ∀ t, execSlowLoopTick s = .next t → P t := by
  unfold execSlowLoopTick
  repeat' first
    | with_reducible refine next_kept ?_ | with_reducible assumption | with_reducible refine State.when_kept ?_ ?_
    | with_reducible refine State.slowTick_keeps hc ?_ | split | dsimp only | intro _

/-! ### RefTime -/

theorem State.select_keeps {s : State} {v : Nat} (hc : Closed P) (h : P s) :
    P (State.select s v) := by
  unfold State.select
  repeat' first
    | with_reducible assumption | with_reducible refine hc.wr ?_

theorem State.setQual_keeps {s : State} {b : Bool} {q : Option Nat} (hc : Closed P) (h : P s) :
    P (State.setQual s b q) := by
  unfold State.setQual
  repeat' first
    | with_reducible assumption | with_reducible refine State.setFlag_keeps hc ?_ | split | dsimp only | intro _
    | with_reducible refine Closed.lit hc ?_

theorem State.setInjLoss_keeps {s : State} {b : Bool} {q : Option Nat} (hc : Closed P) (h : P s) :
    P (State.setInjLoss s b q) := by
  unfold State.setInjLoss
  repeat' first
    | with_reducible assumption | split | dsimp only | intro _ | with_reducible refine Closed.lit hc ?_

theorem State.changeSource_keeps {s : State} {v : Nat} (hc : Closed P) (h : P s) :
    P (State.changeSource s v) := by
  unfold State.changeSource
  repeat' first
    | with_reducible assumption | with_reducible refine State.select_keeps hc ?_
    | with_reducible refine State.free_keeps hc ?_ | split | dsimp only | intro _
    | with_reducible refine Closed.lit hc ?_

theorem State.launchSwitch_keeps {s : State} {gates : Nat} (hc : Closed P) (h : P s) :
    P (State.launchSwitch s gates) := by
  unfold State.launchSwitch
  repeat' first
    | with_reducible assumption | with_reducible refine State.each_kept ?_ ?_
    | with_reducible refine State.holdFll_keeps hc ?_ | split | dsimp only | intro _
    | with_reducible refine Closed.lit hc ?_

theorem State.switchTo_keeps {s : State} {b : Bool} (hc : Closed P) (h : P s) :
    P (State.switchTo s b) := by
  unfold State.switchTo
  repeat' first
    | with_reducible assumption | with_reducible refine State.changeSource_keeps hc ?_
    | with_reducible refine State.inc_keeps hc ?_ | with_reducible refine State.event_keeps hc ?_
    | with_reducible refine State.launchSwitch_keeps hc ?_

theorem State.prefer_keeps {s : State} (hc : Closed P) (h : P s) :
    P (State.prefer s) := by
  unfold State.prefer
  repeat' first
    | with_reducible assumption | with_reducible refine State.when_kept ?_ ?_
    | with_reducible refine State.switchTo_keeps hc ?_ | split | dsimp only | intro _

theorem State.holdCeiling_keeps {s : State} {g : Nat} (hc : Closed P) (h : P s) :
    P (State.holdCeiling s g) := by
  unfold State.holdCeiling
  repeat' first
    | with_reducible assumption | with_reducible refine hc.wr ?_ | with_reducible refine State.modG_keeps hc ?_
    | with_reducible refine State.spoil_keeps hc ?_ | with_reducible refine State.showCeiling_keeps hc ?_
    | with_reducible refine State.retarget_keeps hc ?_ | split | dsimp only

theorem State.leaveBus_keeps {s : State} (hc : Closed P) (h : P s) :
    P (State.leaveBus s) := by
  unfold State.leaveBus
  repeat' first
    | with_reducible assumption | with_reducible refine State.add_keeps hc ?_ | split | dsimp only | intro _
    | with_reducible refine Closed.lit hc ?_

theorem State.joinBus_keeps {s : State} (hc : Closed P) (h : P s) :
    P (State.joinBus s) := by
  unfold State.joinBus
  repeat' first
    | with_reducible assumption | with_reducible refine State.when_kept ?_ ?_
    | with_reducible refine State.setReady_keeps hc ?_ | split | dsimp only | intro _
    | with_reducible refine Closed.lit hc ?_

theorem State.enterHoldover_keeps {s : State} (hc : Closed P) (h : P s) :
    P (State.enterHoldover s) := by
  unfold State.enterHoldover
  repeat' first
    | with_reducible assumption | with_reducible refine State.each_kept ?_ ?_
    | with_reducible refine State.when_kept ?_ ?_ | with_reducible refine State.changeSource_keeps hc ?_
    | with_reducible refine State.launchSwitch_keeps hc ?_ | with_reducible refine State.free_keeps hc ?_
    | with_reducible refine State.add_keeps hc ?_ | with_reducible refine State.setReady_keeps hc ?_
    | with_reducible refine State.leaveBus_keeps hc ?_ | with_reducible refine State.inc_keeps hc ?_
    | with_reducible refine State.event_keeps hc ?_ | with_reducible refine State.holdCeiling_keeps hc ?_
    | with_reducible refine State.markRuns_keeps hc ?_ | split | dsimp only | intro _
    | with_reducible refine Closed.lit hc ?_

theorem State.loseRef_keeps {s : State} {b : Bool} {freq : Bool} {inj : Bool} (hc : Closed P) (h : P s) :
    P (State.loseRef s b freq inj) := by
  unfold State.loseRef
  repeat' first
    | with_reducible assumption | with_reducible refine State.when_kept ?_ ?_
    | with_reducible refine State.setQual_keeps hc ?_ | with_reducible refine State.setFlag_keeps hc ?_
    | with_reducible refine State.setReady_keeps hc ?_ | with_reducible refine State.inc_keeps hc ?_
    | with_reducible refine State.switchTo_keeps hc ?_ | with_reducible refine State.enterHoldover_keeps hc ?_
    | with_reducible refine State.event_keeps hc ?_ | split | dsimp only | intro _
    | with_reducible refine Closed.lit hc ?_

theorem State.useRefInj_keeps {s : State} {b : Bool} (hc : Closed P) (h : P s) :
    P (State.useRefInj s b) := by
  unfold State.useRefInj
  repeat' first
    | with_reducible assumption | with_reducible refine State.setInjLoss_keeps hc ?_
    | with_reducible refine State.endInjection_keeps hc ?_ | split

theorem execRefMissingEdge_keeps {b : Bool} {s : State} (hc : Closed P) (h : P s) :
    ∀ t, execRefMissingEdge b s = .next t → P t := by
  unfold execRefMissingEdge
  repeat' first
    | with_reducible refine next_kept ?_ | with_reducible assumption | with_reducible refine State.when_kept ?_ ?_
    | with_reducible refine hc.wr ?_ | with_reducible refine State.useRefInj_keeps hc ?_
    | with_reducible refine State.loseRef_keeps hc ?_ | with_reducible refine State.setQual_keeps hc ?_ | split
    | dsimp only | intro _

theorem State.showRefErr_keeps {s : State} {b : Bool} {err : Int} {raw : Int} (hc : Closed P) (h : P s) :
    P (State.showRefErr s b err raw) := by
  unfold State.showRefErr
  repeat' first
    | with_reducible assumption | with_reducible refine State.wrSat_keeps hc ?_

theorem State.qualWindow_keeps {s : State} {b : Bool} {fails : Bool} (hc : Closed P) (h : P s) :
    P (State.qualWindow s b fails) := by
  unfold State.qualWindow
  repeat' first
    | with_reducible assumption | with_reducible refine State.setQual_keeps hc ?_ | split | dsimp only

theorem execRefFreqWindow_keeps {b : Bool} {err : Int} {raw : Int} {s : State} (hc : Closed P) (h : P s) :
    ∀ t, execRefFreqWindow b err raw s = .next t → P t := by
  unfold execRefFreqWindow
  repeat' first
    | with_reducible refine next_kept ?_ | with_reducible assumption | with_reducible refine State.when_kept ?_ ?_
    | with_reducible refine State.showRefErr_keeps hc ?_ | with_reducible refine State.qualWindow_keeps hc ?_
    | with_reducible refine State.loseRef_keeps hc ?_ | split | dsimp only | intro _

theorem State.beginStop_keeps {s : State} (hc : Closed P) (h : P s) :
    P (State.beginStop s) := by
  unfold State.beginStop
  repeat' first
    | with_reducible assumption | split | dsimp only | intro _ | with_reducible refine Closed.lit hc ?_

theorem State.leaveHoldover_keeps {s : State} {b : Bool} (hc : Closed P) (h : P s) :
    P (State.leaveHoldover s b) := by
  unfold State.leaveHoldover
  repeat' first
    | with_reducible assumption | with_reducible refine State.changeSource_keeps hc ?_
    | with_reducible refine State.launchSwitch_keeps hc ?_ | with_reducible refine State.beginStop_keeps hc ?_ | split
    | dsimp only | intro _ | with_reducible refine Closed.lit hc ?_

theorem State.spanCheck_keeps {s : State} (hc : Closed P) (h : P s) :
    P (State.spanCheck s) := by
  unfold State.spanCheck
  repeat' first
    | with_reducible assumption | with_reducible refine State.when_kept ?_ ?_ | split | dsimp only | intro _
    | with_reducible refine Closed.lit hc ?_

theorem State.endHoldover_keeps {s : State} (hc : Closed P) (h : P s) :
    P (State.endHoldover s) := by
  unfold State.endHoldover
  repeat' first
    | with_reducible assumption | with_reducible refine State.when_kept ?_ ?_
    | with_reducible refine State.setReady_keeps hc ?_ | with_reducible refine State.joinBus_keeps hc ?_
    | with_reducible refine State.add_keeps hc ?_ | with_reducible refine State.event_keeps hc ?_
    | with_reducible refine State.prefer_keeps hc ?_ | with_reducible refine State.spanCheck_keeps hc ?_ | split
    | dsimp only | intro _ | with_reducible refine Closed.lit hc ?_

theorem execHoldoverRelock_keeps {s : State} (hc : Closed P) (h : P s) :
    ∀ t, execHoldoverRelock s = .next t → P t := by
  unfold execHoldoverRelock
  repeat' first
    | with_reducible refine next_kept ?_ | with_reducible assumption | with_reducible refine State.when_kept ?_ ?_
    | with_reducible refine State.beginStop_keeps hc ?_ | split | dsimp only | intro _
    | with_reducible refine Closed.lit hc ?_

theorem State.shiftTimers_keeps {s : State} {us : Nat} (hc : Closed P) (h : P s) :
    P (State.shiftTimers s us) := by
  unfold State.shiftTimers
  repeat' first
    | with_reducible assumption | with_reducible refine State.each_kept ?_ ?_
    | with_reducible refine State.modG_keeps hc ?_ | split | dsimp only | intro _
    | with_reducible refine Closed.lit hc ?_

theorem State.stopEnded_keeps {s : State} {us : Nat} (hc : Closed P) (h : P s) :
    P (State.stopEnded s us) := by
  unfold State.stopEnded
  repeat' first
    | with_reducible assumption | with_reducible refine State.shiftTimers_keeps hc ?_
    | with_reducible refine State.takeWindows_keeps hc ?_ | with_reducible refine State.sendDueMarks_keeps hc ?_
    | with_reducible refine State.endHoldover_keeps hc ?_ | with_reducible refine State.leaveHoldover_keeps hc ?_
    | split | dsimp only | intro _ | with_reducible refine Closed.lit hc ?_

theorem execRefQualified_keeps {b : Bool} {s : State} (hc : Closed P) (h : P s) :
    ∀ t, execRefQualified b s = .next t → P t := by
  unfold execRefQualified
  repeat' first
    | with_reducible refine next_kept ?_ | with_reducible assumption | with_reducible refine State.when_kept ?_ ?_
    | with_reducible refine State.setQual_keeps hc ?_ | with_reducible refine State.setFlag_keeps hc ?_
    | with_reducible refine State.setReady_keeps hc ?_ | with_reducible refine State.setInjLoss_keeps hc ?_
    | with_reducible refine State.leaveHoldover_keeps hc ?_ | with_reducible refine State.spanCheck_keeps hc ?_
    | with_reducible refine State.prefer_keeps hc ?_ | split | dsimp only | intro _
    | with_reducible refine Closed.lit hc ?_

theorem execHoldoverCeilingRemove_keeps {g : Nat} {s : State} (hc : Closed P) (h : P s) :
    ∀ t, execHoldoverCeilingRemove g s = .next t → P t := by
  unfold execHoldoverCeilingRemove
  repeat' first
    | with_reducible refine next_kept ?_ | with_reducible assumption | with_reducible refine State.when_kept ?_ ?_
    | with_reducible refine State.modG_keeps hc ?_ | with_reducible refine State.retarget_keeps hc ?_ | split
    | dsimp only | intro _

theorem execIntoscMeasure_keeps {err : Int} {s : State} (hc : Closed P) (h : P s) :
    ∀ t, execIntoscMeasure err s = .next t → P t := by
  unfold execIntoscMeasure
  repeat' first
    | with_reducible refine next_kept ?_ | with_reducible assumption | with_reducible refine State.when_kept ?_ ?_
    | with_reducible refine State.wrSat_keeps hc ?_ | split | dsimp only | intro _

theorem State.crossMark_keeps {s : State} (hc : Closed P) (h : P s) :
    P (State.crossMark s) := by
  unfold State.crossMark
  repeat' first
    | with_reducible assumption | split | dsimp only | intro _ | with_reducible refine Closed.lit hc ?_

theorem State.slewMark_keeps {s : State} {slew : Int} {k : Nat} (hc : Closed P) (h : P s) :
    P (State.slewMark s slew k) := by
  unfold State.slewMark
  repeat' first
    | with_reducible assumption | with_reducible refine State.wrInt_keeps hc ?_ | split | dsimp only | intro _
    | with_reducible refine Closed.lit hc ?_

theorem State.moveMarks_keeps {s : State} {d : Int} {g : Nat} (hc : Closed P) (h : P s) :
    P (State.moveMarks s d g) := by
  unfold State.moveMarks
  repeat' first
    | with_reducible assumption | with_reducible refine State.modG_keeps hc ?_

theorem State.moveSigns_keeps {s : State} {n : Nat} (hc : Closed P) (h : P s) :
    P (State.moveSigns s n) := by
  unfold State.moveSigns
  repeat' first
    | with_reducible assumption | with_reducible refine State.modE_keeps hc ?_

theorem State.stepSpans_keeps {s : State} {old : Nat} (hc : Closed P) (h : P s) :
    P (State.stepSpans s old) := by
  unfold State.stepSpans
  repeat' first
    | with_reducible assumption | with_reducible refine State.each_kept ?_ ?_
    | with_reducible refine State.newSpans_keeps hc ?_ | with_reducible refine State.moveSigns_keeps hc ?_
    | with_reducible refine State.modD_keeps hc ?_ | with_reducible refine State.modF_keeps hc ?_
    | with_reducible refine State.markRuns_keeps hc ?_ | split | dsimp only | intro _
    | with_reducible refine Closed.lit hc ?_

theorem State.applySet_keeps {s : State} (hc : Closed P) (h : P s) :
    P (State.applySet s) := by
  unfold State.applySet
  split
  · exact hc.lit h
  · exact State.tripParksDue_keeps hc (State.each_kept (hc.wr (State.stepSpans_keeps hc (hc.lit h)))
      fun _ _ hu => State.moveMarks_keeps hc (State.unobserve_keeps hc hu))

theorem State.capture_keeps {s : State} {n : Nat} {seq : Nat} {T : Nat} (hc : Closed P) (h : P s) :
    P (State.capture s n seq T) := by
  unfold State.capture
  repeat' first
    | with_reducible assumption | with_reducible refine State.modR_keeps hc ?_

theorem State.launchMark_keeps {s : State} (hc : Closed P) (h : P s) :
    P (State.launchMark s) := by
  unfold State.launchMark
  repeat' first
    | with_reducible assumption | with_reducible refine State.each_kept ?_ ?_
    | with_reducible refine State.applySet_keeps hc ?_ | with_reducible refine State.inc_keeps hc ?_
    | with_reducible refine State.capture_keeps hc ?_ | split | dsimp only | intro _
    | with_reducible refine Closed.lit hc ?_

theorem State.holdTrim_keeps {s : State} {g : Nat} (hc : Closed P) (h : P s) :
    P (State.holdTrim s g) := by
  unfold State.holdTrim
  repeat' first
    | with_reducible assumption | with_reducible refine State.when_kept ?_ ?_
    | with_reducible refine State.modG_keeps hc ?_ | split | dsimp only | intro _

theorem execTimeMark_keeps {s : State} (hc : Closed P) (h : P s) :
    ∀ t, execTimeMark s = .next t → P t := by
  unfold execTimeMark
  repeat' first
    | with_reducible refine next_kept ?_ | with_reducible assumption | with_reducible refine State.each_kept ?_ ?_
    | with_reducible refine State.when_kept ?_ ?_ | with_reducible refine State.crossMark_keeps hc ?_
    | with_reducible refine State.slewMark_keeps hc ?_ | with_reducible refine State.launchMark_keeps hc ?_
    | with_reducible refine State.floorStart_keeps hc ?_ | with_reducible refine State.holdTrim_keeps hc ?_
    | with_reducible refine State.closeEnumeration_keeps hc ?_ | split | dsimp only | intro _

theorem State.stepWindow_keeps {s : State} {n : Nat} {new : Nat} (hc : Closed P) (h : P s) :
    P (State.stepWindow s n new) := by
  unfold State.stepWindow
  repeat' first
    | with_reducible assumption | with_reducible refine State.when_kept ?_ ?_
    | with_reducible refine State.closeWindow_keeps hc ?_ | with_reducible refine State.modE_keeps hc ?_
    | with_reducible refine State.modF_keeps hc ?_ | split | dsimp only | intro _

theorem State.firstTime_keeps {s : State} {n : Nat} (hc : Closed P) (h : P s) :
    P (State.firstTime s n) := by
  unfold State.firstTime
  repeat' first
    | with_reducible assumption | with_reducible refine State.modR_keeps hc ?_
    | with_reducible refine State.modE_keeps hc ?_

theorem State.shiftTime_keeps {s : State} {n : Nat} {e : Int} {step : Bool} (hc : Closed P) (h : P s) :
    P (State.shiftTime s n e step) := by
  unfold State.shiftTime
  repeat' first
    | with_reducible assumption | with_reducible refine State.when_kept ?_ ?_ | with_reducible refine hc.wr ?_
    | with_reducible refine State.modR_keeps hc ?_ | split | dsimp only | intro _

theorem State.correct_keeps {s : State} {n : Nat} {e : Int} {step : Bool} (hc : Closed P) (h : P s) :
    P (State.correct s n e step) := by
  unfold State.correct
  repeat' first
    | with_reducible assumption | with_reducible refine State.when_kept ?_ ?_
    | with_reducible refine State.wrSat_keeps hc ?_ | with_reducible refine State.modR_keeps hc ?_
    | with_reducible refine State.shiftTime_keeps hc ?_ | with_reducible refine State.firstTime_keeps hc ?_
    | with_reducible refine State.stepWindow_keeps hc ?_ | split | dsimp only | intro _

theorem execTimeCorrection_keeps {x : CorrIn} {s : State} (hc : Closed P) (h : P s) :
    ∀ t, execTimeCorrection x s = .next t → P t := by
  unfold execTimeCorrection
  repeat' first
    | with_reducible refine next_kept ?_ | with_reducible assumption | with_reducible refine State.modR_keeps hc ?_
    | with_reducible refine State.inc_keeps hc ?_ | with_reducible refine State.correct_keeps hc ?_ | split

theorem execPpsCapture_keeps {dt : Nat} {s : State} (hc : Closed P) (h : P s) :
    ∀ t, execPpsCapture dt s = .next t → P t := by
  unfold execPpsCapture
  repeat' first
    | with_reducible refine next_kept ?_ | with_reducible assumption | with_reducible refine hc.wr ?_
    | with_reducible refine State.addWrap_keeps hc ?_

theorem execTsCapture_keeps {dt : Nat} {s : State} (hc : Closed P) (h : P s) :
    ∀ t, execTsCapture dt s = .next t → P t := by
  unfold execTsCapture
  repeat' first
    | with_reducible refine next_kept ?_ | with_reducible assumption | with_reducible refine hc.wr ?_
    | with_reducible refine State.addWrap_keeps hc ?_

theorem State.acceptTimeSet_keeps {s : State} {v : Nat} (hc : Closed P) (h : P s) :
    P (State.acceptTimeSet s v) := by
  unfold State.acceptTimeSet
  repeat' first
    | with_reducible assumption | with_reducible refine hc.wr ?_ | with_reducible refine State.inc_keeps hc ?_ | split
    | dsimp only | intro _ | with_reducible refine Closed.lit hc ?_

end Sys2Proof.Machine
end

