-- ==== Sys2Proof/Laws/KeepsC.lean ====
section
/-! SUPPORT. Operations of Praline, the dictionary, the budget and Fondant keep a closed property. -/

set_option Elab.async false

namespace Sys2Proof.Machine

variable {P : State → Prop}

/-! ### Praline -/

theorem State.setPe_keeps {s : State} {t : Nat} {f : Nat} {x : PEntry} (hc : Closed P) (h : P s) :
    P (State.setPe s t f x) := by
  unfold State.setPe
  repeat' first
    | with_reducible assumption | with_reducible refine hc.phase ?_

theorem State.setGe_keeps {s : State} {g : Nat} {t : Nat} {x : GEntry} (hc : Closed P) (h : P s) :
    P (State.setGe s g t x) := by
  unfold State.setGe
  repeat' first
    | with_reducible assumption | with_reducible refine State.wrBytes_keeps hc ?_

theorem State.clearGconf_keeps {s : State} {g : Nat} (hc : Closed P) (h : P s) :
    P (State.clearGconf s g) := by
  unfold State.clearGconf
  repeat' first
    | with_reducible assumption | with_reducible refine hc.wr ?_

theorem State.loseTag_keeps {s : State} {w : Nat} (hc : Closed P) (h : P s) :
    P (State.loseTag s w) := by
  unfold State.loseTag
  repeat' first
    | with_reducible assumption | with_reducible refine State.setPe_keeps hc ?_
    | with_reducible refine State.setGe_keeps hc ?_ | split

theorem State.readWords_keeps {s : State} {p : Flip → Bool} (hc : Closed P) (h : P s) :
    P (State.readWords s p) := by
  unfold State.readWords
  repeat' first
    | with_reducible assumption | with_reducible refine State.readFlips_keeps hc ?_ ?_
    | with_reducible refine State.loseTag_keeps hc ?_ | with_reducible refine State.sramLost_keeps hc ?_ | split
    | dsimp only | intro _

theorem State.readGroupWord_keeps {s : State} {g : Nat} {t : Nat} (hc : Closed P) (h : P s) :
    P (State.readGroupWord s g t) := by
  unfold State.readGroupWord
  repeat' first
    | with_reducible assumption | with_reducible refine State.readWords_keeps hc ?_

theorem State.readFieldWords_keeps {s : State} {g : Nat} {t : Nat} (hc : Closed P) (h : P s) :
    P (State.readFieldWords s g t) := by
  unfold State.readFieldWords
  repeat' first
    | with_reducible assumption | with_reducible refine State.readWords_keeps hc ?_

theorem State.readTag_keeps {s : State} {g : Nat} {t : Nat} (hc : Closed P) (h : P s) :
    P (State.readTag s g t) := by
  unfold State.readTag
  repeat' first
    | with_reducible assumption | with_reducible refine State.readGroupWord_keeps hc ?_
    | with_reducible refine State.readFieldWords_keeps hc ?_

theorem State.stepLfsr_keeps {s : State} {g : Nat} (hc : Closed P) (h : P s) :
    P (State.stepLfsr s g) := by
  unfold State.stepLfsr
  repeat' first
    | with_reducible assumption | with_reducible refine hc.wr ?_

theorem State.loadLfsr_keeps {s : State} {g : Nat} (hc : Closed P) (h : P s) :
    P (State.loadLfsr s g) := by
  unfold State.loadLfsr
  repeat' first
    | with_reducible assumption | with_reducible refine hc.wr ?_

theorem State.submit_keeps {s : State} {g : Nat} {c : Option Nat} (hc : Closed P) (h : P s) :
    P (State.submit s g c) := by
  unfold State.submit
  repeat' first
    | with_reducible assumption | with_reducible refine State.modG_keeps hc ?_
    | with_reducible refine State.retarget_keeps hc ?_ | split

theorem State.sendOffset_keeps {s : State} {f : Nat} (hc : Closed P) (h : P s) :
    P (State.sendOffset s f) := by
  unfold State.sendOffset
  repeat' first
    | with_reducible assumption | with_reducible refine State.askVolt_keeps hc ?_ | split

theorem State.dropOffsets_keeps {s : State} {g : Nat} (hc : Closed P) (h : P s) :
    P (State.dropOffsets s g) := by
  unfold State.dropOffsets
  repeat' first
    | with_reducible assumption | with_reducible refine State.each_kept ?_ ?_ | with_reducible refine hc.wr ?_
    | with_reducible refine State.sendOffset_keeps hc ?_ | with_reducible refine State.modG_keeps hc ?_ | split
    | dsimp only | intro _

theorem State.planOffsets_keeps {s : State} {g : Nat} {t : Nat} {lead : Nat} (hc : Closed P) (h : P s) :
    P (State.planOffsets s g t lead) := by
  unfold State.planOffsets
  repeat' first
    | with_reducible assumption | with_reducible refine State.when_kept ?_ ?_
    | with_reducible refine State.dropOffsets_keeps hc ?_ | with_reducible refine State.modG_keeps hc ?_ | split
    | dsimp only | intro _

theorem execPreposOffsetSet_keeps {g : Nat} {s : State} (hc : Closed P) (h : P s) :
    ∀ t, execPreposOffsetSet g s = .next t → P t := by
  unfold execPreposOffsetSet
  repeat' first
    | with_reducible refine next_kept ?_ | with_reducible assumption | with_reducible refine State.each_kept ?_ ?_
    | with_reducible refine State.when_kept ?_ ?_ | with_reducible refine hc.wr ?_
    | with_reducible refine State.readFieldWords_keeps hc ?_ | with_reducible refine State.modG_keeps hc ?_
    | with_reducible refine State.sendOffset_keeps hc ?_ | split | dsimp only | intro _

theorem execPreposOffsetRemove_keeps {g : Nat} {s : State} (hc : Closed P) (h : P s) :
    ∀ t, execPreposOffsetRemove g s = .next t → P t := by
  unfold execPreposOffsetRemove
  repeat' first
    | with_reducible refine next_kept ?_ | with_reducible assumption | with_reducible refine State.when_kept ?_ ?_
    | with_reducible refine State.dropOffsets_keeps hc ?_ | split | dsimp only | intro _

theorem State.blend_keeps {s : State} {g : Nat} {o : Seen} (hc : Closed P) (h : P s) :
    P (State.blend s g o) := by
  unfold State.blend
  repeat' first
    | with_reducible assumption | with_reducible refine State.each_kept ?_ ?_
    | with_reducible refine State.setPe_keeps hc ?_ | split | dsimp only | intro _

theorem State.replace_keeps {s : State} {g : Nat} {o : Seen} (hc : Closed P) (h : P s) :
    P (State.replace s g o) := by
  unfold State.replace
  repeat' first
    | with_reducible assumption | with_reducible refine State.each_kept ?_ ?_
    | with_reducible refine State.setPe_keeps hc ?_ | split | dsimp only | intro _

theorem State.learnPoint_keeps {s : State} {g : Nat} {o : Seen} {e : Nat} {cur : Nat} (hc : Closed P) (h : P s) :
    P (State.learnPoint s g o e cur) := by
  unfold State.learnPoint
  repeat' first
    | with_reducible assumption | with_reducible refine State.setGe_keeps hc ?_
    | with_reducible refine State.replace_keeps hc ?_ | with_reducible refine State.inc_keeps hc ?_ | split
    | dsimp only

theorem State.learnOffsetOf_keeps {s : State} {g : Nat} {t : Nat} {f : Nat} (hc : Closed P) (h : P s) :
    P (State.learnOffsetOf s g t f) := by
  unfold State.learnOffsetOf
  repeat' first
    | with_reducible assumption | with_reducible refine State.setPe_keeps hc ?_ | split | dsimp only

theorem State.learn_keeps {s : State} {g : Nat} {o : Seen} (hc : Closed P) (h : P s) :
    P (State.learn s g o) := by
  unfold State.learn
  repeat' first
    | with_reducible assumption | with_reducible refine State.each_kept ?_ ?_
    | with_reducible refine State.when_kept ?_ ?_ | with_reducible refine State.replace_keeps hc ?_
    | with_reducible refine State.blend_keeps hc ?_ | with_reducible refine State.setGe_keeps hc ?_
    | with_reducible refine State.inc_keeps hc ?_ | with_reducible refine State.learnPoint_keeps hc ?_
    | with_reducible refine State.learnOffsetOf_keeps hc ?_ | split | dsimp only | intro _

theorem State.endOcc_keeps {s : State} {g : Nat} (hc : Closed P) (h : P s) :
    P (State.endOcc s g) := by
  unfold State.endOcc
  repeat' first
    | with_reducible assumption | with_reducible refine State.when_kept ?_ ?_ | with_reducible refine hc.wr ?_
    | with_reducible refine State.discardOcc_keeps hc ?_ | with_reducible refine State.readTag_keeps hc ?_
    | with_reducible refine State.modG_keeps hc ?_ | with_reducible refine State.free_keeps hc ?_
    | with_reducible refine State.inc_keeps hc ?_ | with_reducible refine State.stepLfsr_keeps hc ?_
    | with_reducible refine State.learn_keeps hc ?_ | split | dsimp only | intro _

theorem execOccurrenceTimeout_keeps {g : Nat} {s : State} (hc : Closed P) (h : P s) :
    ∀ t, execOccurrenceTimeout g s = .next t → P t := by
  unfold execOccurrenceTimeout
  repeat' first
    | with_reducible refine next_kept ?_ | with_reducible assumption | with_reducible refine State.when_kept ?_ ?_
    | with_reducible refine State.discardOcc_keeps hc ?_ | split | dsimp only | intro _

theorem State.markDone_keeps {s : State} {q : EpReq} {op : Nat} {data : Nat} (hc : Closed P) (h : P s) :
    P (State.markDone s q op data) := by
  unfold State.markDone
  repeat' first
    | with_reducible assumption | with_reducible refine State.modG_keeps hc ?_
    | with_reducible refine State.respond_keeps hc ?_

theorem State.mark_keeps {s : State} {q : EpReq} {op : Nat} {mask : Nat} {f : State → Nat × State}
    (hc : Closed P) (h : P s) (h_f : ∀ t, P t → P (f t).2) :
    P (State.mark s q op mask f) := by
  unfold State.mark
  repeat' first
    | with_reducible assumption | with_reducible apply h_f | with_reducible refine State.respond_keeps hc ?_
    | with_reducible refine State.inc_keeps hc ?_ | with_reducible refine State.markDone_keeps hc ?_ | split
    | dsimp only | intro _ | with_reducible refine Closed.lit hc ?_

theorem State.phaseNext_keeps {s : State} {g : Nat} {t : Nat} {lead : Nat} (hc : Closed P) (h : P s) :
    P (State.phaseNext s g t lead).2 := by
  unfold State.phaseNext
  repeat' first
    | with_reducible assumption | with_reducible refine State.when_kept ?_ ?_ | with_reducible refine hc.wr ?_
    | with_reducible refine State.readTag_keeps hc ?_ | with_reducible refine State.inc_keeps hc ?_
    | with_reducible refine State.learn_keeps hc ?_ | with_reducible refine State.stepLfsr_keeps hc ?_
    | with_reducible refine State.modG_keeps hc ?_ | with_reducible refine State.planOffsets_keeps hc ?_
    | with_reducible refine State.submit_keeps hc ?_ | split | dsimp only | intro _

theorem State.markNext_keeps {s : State} {q : EpReq} (hc : Closed P) (h : P s) :
    P (State.markNext s q) := by
  exact State.mark_keeps hc h fun _ ht => State.phaseNext_keeps hc ht

theorem execPhaseNext_keeps {q : EpReq} {s : State} (hc : Closed P) (h : P s) :
    ∀ t, execPhaseNext q s = .next t → P t := by
  exact next_kept (State.epTake_keeps hc h (fun _ _ ht => ht) fun _ ht => State.markNext_keeps hc ht)

theorem State.shareFrom_keeps {s : State} {g : Nat} {t : Nat} (hc : Closed P) (h : P s) :
    P (State.shareFrom s g t) := by
  unfold State.shareFrom
  repeat' first
    | with_reducible assumption | with_reducible refine State.each_kept ?_ ?_
    | with_reducible refine State.when_kept ?_ ?_ | with_reducible refine State.modF_keeps hc ?_
    | with_reducible refine State.recompute_keeps hc ?_ | split | dsimp only | intro _

theorem State.startOcc_keeps {s : State} {g : Nat} {t : Nat} {c : Option Nat × Bool} (hc : Closed P) (h : P s) :
    P (State.startOcc s g t c) := by
  unfold State.startOcc
  repeat' first
    | with_reducible assumption | with_reducible refine State.each_kept ?_ ?_ | with_reducible refine hc.wr ?_
    | with_reducible refine State.modG_keeps hc ?_ | with_reducible refine State.modF_keeps hc ?_ | split | dsimp only
    | intro _

theorem State.phaseBegin_keeps {s : State} {g : Nat} {t : Nat} (hc : Closed P) (h : P s) :
    P (State.phaseBegin s g t).2 := by
  unfold State.phaseBegin
  repeat' first
    | with_reducible assumption | with_reducible refine State.when_kept ?_ ?_
    | with_reducible refine State.endOcc_keeps hc ?_ | with_reducible refine State.readTag_keeps hc ?_
    | with_reducible refine State.inc_keeps hc ?_ | with_reducible refine State.dropNext_keeps hc ?_
    | with_reducible refine State.modG_keeps hc ?_ | with_reducible refine State.submit_keeps hc ?_
    | with_reducible refine State.startOcc_keeps hc ?_ | with_reducible refine State.shareFrom_keeps hc ?_ | split
    | dsimp only | intro _

theorem State.markBegin_keeps {s : State} {q : EpReq} (hc : Closed P) (h : P s) :
    P (State.markBegin s q) := by
  exact State.mark_keeps hc h fun _ ht => State.phaseBegin_keeps hc ht

theorem execPhaseBegin_keeps {q : EpReq} {s : State} (hc : Closed P) (h : P s) :
    ∀ t, execPhaseBegin q s = .next t → P t := by
  exact next_kept (State.epTake_keeps hc h (fun _ _ ht => ht) fun _ ht => State.markBegin_keeps hc ht)

theorem State.markPref_keeps {s : State} {q : EpReq} (hc : Closed P) (h : P s) :
    P (State.markPref s q) := by
  exact State.mark_keeps hc h fun _ ht => State.setGe_keeps hc (State.readGroupWord_keeps hc ht)

theorem execPreferredPoint_keeps {q : EpReq} {s : State} (hc : Closed P) (h : P s) :
    ∀ t, execPreferredPoint q s = .next t → P t := by
  exact next_kept (State.epTake_keeps hc h (fun _ _ ht => ht) fun _ ht => State.markPref_keeps hc ht)

theorem State.clearPraline_keeps {s : State} (hc : Closed P) (h : P s) :
    P (State.clearPraline s) := by
  unfold State.clearPraline
  repeat' first
    | with_reducible assumption | with_reducible refine State.each_kept ?_ ?_ | with_reducible refine hc.wr ?_
    | with_reducible refine hc.noPhase ?_ | with_reducible refine State.modG_keeps hc ?_ | split | dsimp only
    | intro _

theorem State.policyFrom_keeps {t : State} {s : State} (hc : Closed P) (h : P t) :
    P (State.policyFrom t s) := by
  unfold State.policyFrom
  repeat' first
    | with_reducible assumption | with_reducible refine State.each_kept ?_ ?_
    | with_reducible refine State.spoil_keeps hc ?_ | split | dsimp only | intro _

theorem State.setFallback_keeps {s : State} {v : Bool} (hc : Closed P) (h : P s) :
    P (State.setFallback s v) := by
  unfold State.setFallback
  repeat' first
    | with_reducible assumption | with_reducible refine State.setFlag_keeps hc ?_
    | with_reducible refine State.policyFrom_keeps hc ?_

theorem State.rearmPraline_keeps {s : State} (hc : Closed P) (h : P s) :
    P (State.rearmPraline s) := by
  unfold State.rearmPraline
  repeat' first
    | with_reducible assumption | with_reducible refine State.setFallback_keeps hc ?_

theorem State.writePolicy_keeps {s : State} {g : Nat} {v : Nat} (hc : Closed P) (h : P s) :
    P (State.writePolicy s g v) := by
  unfold State.writePolicy
  repeat' first
    | with_reducible assumption | with_reducible refine hc.wr ?_ | with_reducible refine State.setFlag_keeps hc ?_
    | with_reducible refine State.policyFrom_keeps hc ?_

/-! ### Dict -/

theorem State.auditAt_keeps {s : State} {at0 : Nat} {r : AuditRec} (hc : Closed P) (h : P s) :
    P (State.auditAt s at0 r) := by
  unfold State.auditAt
  repeat' first
    | with_reducible assumption | with_reducible refine State.when_kept ?_ ?_ | with_reducible refine hc.wr ?_
    | with_reducible refine State.ring_keeps hc ?_ | with_reducible refine State.inc_keeps hc ?_
    | with_reducible refine State.addWrap_keeps hc ?_ | split | dsimp only | intro _
    | with_reducible refine Closed.lit hc ?_

theorem State.auditPut_keeps {s : State} {r : AuditRec} (hc : Closed P) (h : P s) :
    P (State.auditPut s r) := by
  unfold State.auditPut
  repeat' first
    | with_reducible assumption | with_reducible refine State.auditAt_keeps hc ?_

theorem State.auditCount_keeps {s : State} {cls : Nat} {ok : Bool} (hc : Closed P) (h : P s) :
    P (State.auditCount s cls ok) := by
  unfold State.auditCount
  repeat' first
    | with_reducible assumption | with_reducible refine State.inc_keeps hc ?_ | split | dsimp only | intro _
    | with_reducible refine Closed.lit hc ?_

theorem State.auditWrite_keeps {s : State} {a : Attempt} {code : Code} {dirty : Bool} (hc : Closed P) (h : P s) :
    P (State.auditWrite s a code dirty) := by
  unfold State.auditWrite
  repeat' first
    | with_reducible assumption | with_reducible refine State.auditCount_keeps hc ?_
    | with_reducible refine State.auditAt_keeps hc ?_

theorem State.auditLost_keeps {s : State} {src : Src} (hc : Closed P) (h : P s) :
    P (State.auditLost s src) := by
  unfold State.auditLost
  repeat' first
    | with_reducible assumption | with_reducible refine State.auditWrite_keeps hc ?_

theorem State.auditRefuse_keeps {s : State} {cls : Nat} {code : Code} (hc : Closed P) (h : P s) :
    P (State.auditRefuse s cls code) := by
  unfold State.auditRefuse
  repeat' first
    | with_reducible assumption | with_reducible refine State.auditCount_keeps hc ?_
    | with_reducible refine State.inc_keeps hc ?_ | split | dsimp only | intro _
    | with_reducible refine Closed.lit hc ?_

theorem execAuditMerge_keeps {s : State} (hc : Closed P) (h : P s) :
    ∀ t, execAuditMerge s = .next t → P t := by
  unfold execAuditMerge
  repeat' first
    | with_reducible refine next_kept ?_ | with_reducible assumption | with_reducible refine State.each_kept ?_ ?_
    | with_reducible refine State.auditPut_keeps hc ?_ | split | dsimp only | intro _
    | with_reducible refine Closed.lit hc ?_

theorem State.newPeriod_keeps {s : State} (hc : Closed P) (h : P s) :
    P (State.newPeriod s) := by
  unfold State.newPeriod
  repeat' first
    | with_reducible assumption | split | dsimp only | intro _ | with_reducible refine Closed.lit hc ?_

/-! ### Budget -/

theorem State.modSlot_keeps {s : State} {p : Nat} {f : BSlot → BSlot} (hc : Closed P) (h : P s) :
    P (State.modSlot s p f) := by
  unfold State.modSlot
  repeat' first
    | with_reducible assumption | split | dsimp only | intro _ | with_reducible refine Closed.lit hc ?_

theorem State.syncGrant_keeps {s : State} (hc : Closed P) (h : P s) :
    P (State.syncGrant s) := by
  unfold State.syncGrant
  repeat' first
    | with_reducible assumption | with_reducible refine State.limitsDue_keeps hc ?_ | split | dsimp only | intro _
    | with_reducible refine Closed.lit hc ?_

theorem State.queueFrame_keeps {s : State} {p : Nat} {content : Nat} {isRound : Bool} {credit : Nat}
    (hc : Closed P) (h : P s) :
    P (State.queueFrame s p content isRound credit) := by
  unfold State.queueFrame
  repeat' first
    | with_reducible assumption | with_reducible refine State.when_kept ?_ ?_
    | with_reducible refine State.modSlot_keeps hc ?_ | split | dsimp only | intro _
    | with_reducible refine Closed.lit hc ?_

theorem State.sendRound_keeps {s : State} {p : Nat} {slack : Nat} {credit : Nat} (hc : Closed P) (h : P s) :
    P (State.sendRound s p slack credit) := by
  unfold State.sendRound
  repeat' first
    | with_reducible assumption | with_reducible refine State.queueFrame_keeps hc ?_

theorem State.drainFrames_keeps {s : State} {stalled : Nat} (hc : Closed P) (h : P s) :
    P (State.drainFrames s stalled) := by
  unfold State.drainFrames
  repeat' first
    | with_reducible assumption | with_reducible refine State.each_kept ?_ ?_
    | with_reducible refine State.when_kept ?_ ?_ | with_reducible refine State.addWrap_keeps hc ?_
    | with_reducible refine State.inc_keeps hc ?_ | split | dsimp only | intro _
    | with_reducible refine Closed.lit hc ?_

theorem State.applyCredits_keeps {s : State} (hc : Closed P) (h : P s) :
    P (State.applyCredits s) := by
  unfold State.applyCredits
  repeat' first
    | with_reducible assumption | with_reducible refine hc.wr ?_ | with_reducible refine State.addWrap_keeps hc ?_
    | split | dsimp only | intro _ | with_reducible refine Closed.lit hc ?_

theorem State.adoptPeers_keeps {s : State} (hc : Closed P) (h : P s) :
    P (State.adoptPeers s) := by
  unfold State.adoptPeers
  repeat' first
    | with_reducible assumption | with_reducible refine State.each_kept ?_ ?_
    | with_reducible refine State.modSlot_keeps hc ?_ | split | dsimp only | intro _
    | with_reducible refine Closed.lit hc ?_

theorem State.installEpoch_keeps {s : State} (hc : Closed P) (h : P s) :
    P (State.installEpoch s) := by
  unfold State.installEpoch
  repeat' first
    | with_reducible assumption | with_reducible refine State.each_kept ?_ ?_ | with_reducible refine hc.wr ?_
    | with_reducible refine State.inc_keeps hc ?_ | with_reducible refine State.modSlot_keeps hc ?_ | split
    | dsimp only | intro _ | with_reducible refine Closed.lit hc ?_

theorem State.roundSlack_keeps {s : State} (hc : Closed P) (h : P s) :
    P (State.roundSlack s) := by
  unfold State.roundSlack
  repeat' first
    | with_reducible assumption | with_reducible refine State.when_kept ?_ ?_ | with_reducible refine hc.wr ?_ | split
    | dsimp only | intro _ | with_reducible refine Closed.lit hc ?_

theorem State.sendRounds_keeps {s : State} {credit : Nat} {best : Option Nat} (hc : Closed P) (h : P s) :
    P (State.sendRounds s credit best) := by
  unfold State.sendRounds
  repeat' first
    | with_reducible assumption | with_reducible refine State.each_kept ?_ ?_
    | with_reducible refine State.sendRound_keeps hc ?_ | split | dsimp only | intro _

theorem State.roundBoundary_keeps {s : State} {stalled : Nat} (hc : Closed P) (h : P s) :
    P (State.roundBoundary s stalled) := by
  unfold State.roundBoundary
  repeat' first
    | with_reducible assumption | with_reducible refine hc.wr ?_ | with_reducible refine State.drainFrames_keeps hc ?_
    | with_reducible refine State.applyCredits_keeps hc ?_ | with_reducible refine State.adoptPeers_keeps hc ?_
    | with_reducible refine State.installEpoch_keeps hc ?_ | with_reducible refine State.roundSlack_keeps hc ?_
    | with_reducible refine State.addWrap_keeps hc ?_ | with_reducible refine State.sendRounds_keeps hc ?_
    | with_reducible refine State.syncGrant_keeps hc ?_ | split | dsimp only | intro _
    | with_reducible refine Closed.lit hc ?_

theorem execBxRoundBoundary_keeps {stalled : Nat} {s : State} (hc : Closed P) (h : P s) :
    ∀ t, execBxRoundBoundary stalled s = .next t → P t := by
  unfold execBxRoundBoundary
  repeat' first
    | with_reducible refine next_kept ?_ | with_reducible assumption | with_reducible refine State.when_kept ?_ ?_
    | with_reducible refine State.roundBoundary_keeps hc ?_ | split | dsimp only | intro _
    | with_reducible refine Closed.lit hc ?_

theorem State.dueRound_keeps {s : State} (hc : Closed P) (h : P s) :
    P (State.dueRound s) := by
  unfold State.dueRound
  repeat' first
    | with_reducible assumption | with_reducible refine State.when_kept ?_ ?_
    | with_reducible refine State.roundBoundary_keeps hc ?_ | split | dsimp only | intro _

theorem State.stageLoad_keeps {s : State} {v : Nat} (hc : Closed P) (h : P s) :
    P (State.stageLoad s v) := by
  unfold State.stageLoad
  repeat' first
    | with_reducible assumption | with_reducible refine hc.wr ?_ | split | dsimp only | intro _
    | with_reducible refine Closed.lit hc ?_

theorem execBxEpochExpired_keeps {s : State} (hc : Closed P) (h : P s) :
    ∀ t, execBxEpochExpired s = .next t → P t := by
  unfold execBxEpochExpired
  repeat' first
    | with_reducible refine next_kept ?_ | with_reducible assumption | with_reducible refine State.when_kept ?_ ?_
    | with_reducible refine hc.wr ?_ | with_reducible refine State.inc_keeps hc ?_
    | with_reducible refine State.event_keeps hc ?_ | with_reducible refine State.syncGrant_keeps hc ?_ | split
    | dsimp only | intro _ | with_reducible refine Closed.lit hc ?_

theorem execEpochLate_keeps {s : State} (hc : Closed P) (h : P s) :
    ∀ t, execEpochLate s = .next t → P t := by
  unfold execEpochLate
  repeat' first
    | with_reducible refine next_kept ?_ | with_reducible assumption | with_reducible refine State.when_kept ?_ ?_
    | split | dsimp only | intro _ | with_reducible refine Closed.lit hc ?_

theorem State.receive_keeps {s : State} {p : Nat} {beats : Nat} {err : Bool} {x : Nat} (hc : Closed P) (h : P s) :
    P (State.receive s p beats err x).2 := by
  unfold State.receive
  repeat' first
    | with_reducible assumption | with_reducible refine hc.wr ?_ | with_reducible refine State.inc_keeps hc ?_
    | with_reducible refine State.modSlot_keeps hc ?_ | split | dsimp only

theorem State.takeRound_keeps {s : State} {p : Nat} {x : Nat} (hc : Closed P) (h : P s) :
    P (State.takeRound s p x) := by
  unfold State.takeRound
  repeat' first
    | with_reducible assumption | with_reducible refine State.modSlot_keeps hc ?_
    | with_reducible refine State.addWrap_keeps hc ?_ | split | dsimp only | intro _
    | with_reducible refine Closed.lit hc ?_

theorem State.slackReport_keeps {s : State} {ns : Nat} (hc : Closed P) (h : P s) :
    P (State.slackReport s ns) := by
  unfold State.slackReport
  repeat' first
    | with_reducible assumption | with_reducible refine State.inc_keeps hc ?_ | split | dsimp only | intro _
    | with_reducible refine Closed.lit hc ?_

theorem execSlackReport_keeps {ns : Nat} {s : State} (hc : Closed P) (h : P s) :
    ∀ t, execSlackReport ns s = .next t → P t := by
  unfold execSlackReport
  repeat' first
    | with_reducible refine next_kept ?_ | with_reducible assumption | with_reducible refine State.syHold_keeps hc ?_
    | with_reducible refine State.slackReport_keeps hc ?_ | split

theorem execBudgetOpen_keeps {s : State} (hc : Closed P) (h : P s) :
    ∀ t, execBudgetOpen s = .next t → P t := by
  unfold execBudgetOpen
  repeat' first
    | with_reducible refine next_kept ?_ | with_reducible assumption | with_reducible refine State.when_kept ?_ ?_
    | with_reducible refine State.setReady_keeps hc ?_ | split | dsimp only | intro _
    | with_reducible refine Closed.lit hc ?_

/-! ### Fondant -/

theorem State.ask_keeps {s : State} {w : Why} (hc : Closed P) (h : P s) :
    P (State.ask s w) := by
  unfold State.ask
  repeat' first
    | with_reducible assumption | split | dsimp only | intro _ | with_reducible refine Closed.lit hc ?_

theorem State.mergeWait_keeps {s : State} {w : Why} (hc : Closed P) (h : P s) :
    P (State.mergeWait s w) := by
  unfold State.mergeWait
  repeat' first
    | with_reducible assumption | with_reducible refine State.dirty_keeps hc ?_ | split | dsimp only | intro _
    | with_reducible refine Closed.lit hc ?_

theorem State.countWait_keeps {s : State} {w : Why} (hc : Closed P) (h : P s) :
    P (State.countWait s w) := by
  unfold State.countWait
  repeat' first
    | with_reducible assumption | with_reducible refine State.mergeWait_keeps hc ?_
    | with_reducible refine State.inc_keeps hc ?_ | with_reducible refine State.setFlag_keeps hc ?_ | split

theorem State.emptyCommit_keeps {s : State} {w : Why} (hc : Closed P) (h : P s) :
    P (State.emptyCommit s w) := by
  unfold State.emptyCommit
  repeat' first
    | with_reducible assumption | with_reducible refine hc.wr ?_ | with_reducible refine State.dirty_keeps hc ?_
    | split | dsimp only | intro _ | with_reducible refine Closed.lit hc ?_

theorem State.beginCommit_keeps {s : State} {w : Why} {rs : List JRec} (hc : Closed P) (h : P s) :
    P (State.beginCommit s w rs) := by
  unfold State.beginCommit
  repeat' first
    | with_reducible assumption | with_reducible refine State.when_kept ?_ ?_
    | with_reducible refine State.dirty_keeps hc ?_ | with_reducible refine State.setFlag_keeps hc ?_ | split
    | dsimp only | intro _ | with_reducible refine Closed.lit hc ?_

theorem State.tryCommit_keeps {s : State} {w : Why} (hc : Closed P) (h : P s) :
    P (State.tryCommit s w) := by
  unfold State.tryCommit
  repeat' first
    | with_reducible assumption | with_reducible refine State.emptyCommit_keeps hc ?_
    | with_reducible refine State.beginCommit_keeps hc ?_ | with_reducible refine State.countWait_keeps hc ?_ | split
    | dsimp only | intro _ | with_reducible refine Closed.lit hc ?_

theorem State.askRelocate_keeps {s : State} (hc : Closed P) (h : P s) :
    P (State.askRelocate s) := by
  unfold State.askRelocate
  repeat' first
    | with_reducible assumption | with_reducible refine State.ask_keeps hc ?_ | split | dsimp only | intro _
    | with_reducible refine Closed.lit hc ?_

theorem State.startDue_keeps {s : State} (hc : Closed P) (h : P s) :
    P (State.startDue s) := by
  unfold State.startDue
  repeat' first
    | with_reducible assumption | with_reducible refine State.each_kept ?_ ?_
    | with_reducible refine State.askRelocate_keeps hc ?_ | with_reducible refine State.tryCommit_keeps hc ?_ | split
    | dsimp only | intro _

theorem State.askNow_keeps {s : State} {w : Why} (hc : Closed P) (h : P s) :
    P (State.askNow s w) := by
  unfold State.askNow
  repeat' first
    | with_reducible assumption | with_reducible refine State.ask_keeps hc ?_
    | with_reducible refine State.startDue_keeps hc ?_

theorem State.failDevice_keeps {s : State} {d : Nat} {injected : Bool} (hc : Closed P) (h : P s) :
    P (State.failDevice s d injected) := by
  unfold State.failDevice
  repeat' first
    | with_reducible assumption | with_reducible refine hc.wr ?_ | with_reducible refine State.setFlag_keeps hc ?_
    | with_reducible refine State.event_keeps hc ?_

theorem State.badCopy_keeps {s : State} {d : Nat} {seq : Nat} {injected : Bool} (hc : Closed P) (h : P s) :
    P (State.badCopy s d seq injected) := by
  unfold State.badCopy
  repeat' first
    | with_reducible assumption | with_reducible refine State.when_kept ?_ ?_
    | with_reducible refine State.inc_keeps hc ?_ | with_reducible refine State.failDevice_keeps hc ?_ | split
    | dsimp only | intro _ | with_reducible refine Closed.lit hc ?_

theorem State.goodCopy_keeps {s : State} {d : Nat} (hc : Closed P) (h : P s) :
    P (State.goodCopy s d) := by
  unfold State.goodCopy
  repeat' first
    | with_reducible assumption | split | dsimp only | intro _ | with_reducible refine Closed.lit hc ?_

theorem State.commitDone_keeps {s : State} {c : Commit} (hc : Closed P) (h : P s) :
    P (State.commitDone s c) := by
  unfold State.commitDone
  repeat' first
    | with_reducible assumption | with_reducible refine State.when_kept ?_ ?_ | with_reducible refine hc.wr ?_
    | with_reducible refine State.inc_keeps hc ?_ | with_reducible refine State.ask_keeps hc ?_
    | with_reducible refine State.startDue_keeps hc ?_ | with_reducible refine State.wipe_keeps hc ?_ | split
    | dsimp only | intro _ | with_reducible refine Closed.lit hc ?_

theorem State.nextRecord_keeps {s : State} {c : Commit} (hc : Closed P) (h : P s) :
    P (State.nextRecord s c) := by
  unfold State.nextRecord
  repeat' first
    | with_reducible assumption | with_reducible refine State.commitDone_keeps hc ?_ | split | dsimp only | intro _
    | with_reducible refine Closed.lit hc ?_

theorem State.resetFondant_keeps {s : State} (hc : Closed P) (h : P s) :
    P (State.resetFondant s) := by
  unfold State.resetFondant
  repeat' first
    | with_reducible assumption | with_reducible refine State.dirty_keeps hc ?_
    | with_reducible refine State.event_keeps hc ?_ | with_reducible refine State.ask_keeps hc ?_ | split | dsimp only
    | intro _ | with_reducible refine Closed.lit hc ?_

theorem State.recordDone_keeps {s : State} {c : Commit} {ok : Bool} (hc : Closed P) (h : P s) :
    P (State.recordDone s c ok) := by
  unfold State.recordDone
  repeat' first
    | with_reducible assumption | with_reducible refine State.when_kept ?_ ?_
    | with_reducible refine State.endInjection_keeps hc ?_ | with_reducible refine State.goodCopy_keeps hc ?_
    | with_reducible refine State.nextRecord_keeps hc ?_ | with_reducible refine State.mark_keeps hc ?_ ?_
    | with_reducible refine State.badCopy_keeps hc ?_ | split | dsimp only | intro _
    | with_reducible refine Closed.lit hc ?_

theorem execFondantRecordDone_keeps {ok : Bool} {s : State} (hc : Closed P) (h : P s) :
    ∀ t, execFondantRecordDone ok s = .next t → P t := by
  unfold execFondantRecordDone
  repeat' first
    | with_reducible refine next_kept ?_ | with_reducible assumption
    | with_reducible refine State.readFlips_keeps hc ?_ ?_ | with_reducible refine State.sramLost_keeps hc ?_
    | with_reducible refine State.resetFondant_keeps hc ?_ | with_reducible refine State.recordDone_keeps hc ?_
    | split | dsimp only | intro _

theorem execFondantCommit_keeps {s : State} (hc : Closed P) (h : P s) :
    ∀ t, execFondantCommit s = .next t → P t := by
  unfold execFondantCommit
  repeat' first
    | with_reducible refine next_kept ?_ | with_reducible assumption | with_reducible refine State.when_kept ?_ ?_
    | with_reducible refine State.startDue_keeps hc ?_ | split | dsimp only | intro _

theorem execPersistCommit_keeps {s : State} (hc : Closed P) (h : P s) :
    ∀ t, execPersistCommit s = .next t → P t := by
  unfold execPersistCommit
  repeat' first
    | with_reducible refine next_kept ?_ | with_reducible assumption | with_reducible refine State.when_kept ?_ ?_
    | with_reducible refine State.dirty_keeps hc ?_ | with_reducible refine State.askNow_keeps hc ?_ | split
    | dsimp only | intro _

theorem execDailyCommit_keeps {s : State} (hc : Closed P) (h : P s) :
    ∀ t, execDailyCommit s = .next t → P t := by
  unfold execDailyCommit
  repeat' first
    | with_reducible refine next_kept ?_ | with_reducible assumption | with_reducible refine State.when_kept ?_ ?_
    | with_reducible refine State.askNow_keeps hc ?_ | split | dsimp only | intro _
    | with_reducible refine Closed.lit hc ?_

theorem execFondantCredit_keeps {s : State} (hc : Closed P) (h : P s) :
    ∀ t, execFondantCredit s = .next t → P t := by
  unfold execFondantCredit
  repeat' first
    | with_reducible refine next_kept ?_ | with_reducible assumption | with_reducible refine State.when_kept ?_ ?_
    | with_reducible refine State.startDue_keeps hc ?_ | split | dsimp only | intro _
    | with_reducible refine Closed.lit hc ?_

theorem execPralineSnapshot_keeps {s : State} (hc : Closed P) (h : P s) :
    ∀ t, execPralineSnapshot s = .next t → P t := by
  unfold execPralineSnapshot
  repeat' first
    | with_reducible refine next_kept ?_ | with_reducible assumption | with_reducible refine State.when_kept ?_ ?_
    | with_reducible refine State.askNow_keeps hc ?_ | split | dsimp only | intro _

theorem execFondantRelocate_keeps {s : State} (hc : Closed P) (h : P s) :
    ∀ t, execFondantRelocate s = .next t → P t := by
  unfold execFondantRelocate
  repeat' first
    | with_reducible refine next_kept ?_ | with_reducible assumption | with_reducible refine State.when_kept ?_ ?_
    | with_reducible refine State.askRelocate_keeps hc ?_ | with_reducible refine State.startDue_keeps hc ?_ | split
    | dsimp only | intro _

theorem State.handSummary_keeps {s : State} {x : Summ} (hc : Closed P) (h : P s) :
    P (State.handSummary s x) := by
  unfold State.handSummary
  repeat' first
    | with_reducible assumption | with_reducible refine State.event_keeps hc ?_
    | with_reducible refine State.inc_keeps hc ?_ | with_reducible refine State.setFlag_keeps hc ?_ | split
    | dsimp only | intro _ | with_reducible refine Closed.lit hc ?_

theorem State.summarise_keeps {s : State} (hc : Closed P) (h : P s) :
    P (State.summarise s) := by
  unfold State.summarise
  repeat' first
    | with_reducible assumption | with_reducible refine State.when_kept ?_ ?_
    | with_reducible refine State.handSummary_keeps hc ?_ | with_reducible refine State.event_keeps hc ?_
    | with_reducible refine State.inc_keeps hc ?_ | with_reducible refine State.newPeriod_keeps hc ?_
    | with_reducible refine State.dirty_keeps hc ?_ | with_reducible refine State.ask_keeps hc ?_ | split | dsimp only
    | intro _ | with_reducible refine Closed.lit hc ?_

theorem execAuditSummary_keeps {s : State} (hc : Closed P) (h : P s) :
    ∀ t, execAuditSummary s = .next t → P t := by
  unfold execAuditSummary
  repeat' first
    | with_reducible refine next_kept ?_ | with_reducible assumption | with_reducible refine State.when_kept ?_ ?_
    | with_reducible refine State.summarise_keeps hc ?_ | with_reducible refine State.startDue_keeps hc ?_ | split
    | dsimp only | intro _

theorem State.discover_keeps {s : State} {d : Nat} {x : FlashDev} (hc : Closed P) (h : P s) :
    P (State.discover s d x) := by
  unfold State.discover
  repeat' first
    | with_reducible assumption | with_reducible refine State.when_kept ?_ ?_ | with_reducible refine hc.wr ?_
    | with_reducible refine State.failDevice_keeps hc ?_ | split | dsimp only | intro _
    | with_reducible refine Closed.lit hc ?_

theorem State.formatBoth_keeps {s : State} (hc : Closed P) (h : P s) :
    P (State.formatBoth s) := by
  unfold State.formatBoth
  repeat' first
    | with_reducible assumption | with_reducible refine hc.wr ?_ | with_reducible refine State.ring_keeps hc ?_
    | split | dsimp only | intro _ | with_reducible refine Closed.lit hc ?_

theorem State.compareSuper_keeps {s : State} (hc : Closed P) (h : P s) :
    P (State.compareSuper s) := by
  unfold State.compareSuper
  repeat' first
    | with_reducible assumption | with_reducible refine State.formatBoth_keeps hc ?_
    | with_reducible refine State.setFlag_keeps hc ?_ | with_reducible refine State.event_keeps hc ?_ | split
    | dsimp only | intro _ | with_reducible refine Closed.lit hc ?_

theorem State.restoredView_keeps {s : State} (hc : Closed P) (h : P s) :
    P (State.restoredView s) := by
  unfold State.restoredView
  repeat' first
    | with_reducible assumption | with_reducible refine State.each_kept ?_ ?_ | with_reducible refine hc.wr ?_ | split
    | dsimp only | intro _

theorem State.restoreFail_keeps {s : State} {a : Option Obj} {e : Nat} {i : Nat} {v : Nat} {c : Code}
    (hc : Closed P) (h : P s) :
    P (State.restoreFail s a e i v c) := by
  unfold State.restoreFail
  repeat' first
    | with_reducible assumption | with_reducible refine State.auditWrite_keeps hc ?_ | split | dsimp only | intro _
    | with_reducible refine Closed.lit hc ?_

theorem State.restoreOne_keeps {s : State} (hc : Closed P) (h : P s) :
    P (State.restoreOne s) := by
  unfold State.restoreOne
  repeat' first
    | with_reducible assumption | with_reducible refine State.auditCount_keeps hc ?_ | split | dsimp only | intro _
    | with_reducible refine Closed.lit hc ?_

theorem State.restoreItem_keeps {s : State} {view : State} {k : Nat} {v : Option Nat} (hc : Closed P) (h : P s) :
    P (State.restoreItem s view k v) := by
  unfold State.restoreItem
  repeat' first
    | with_reducible assumption | with_reducible refine State.when_kept ?_ ?_ | with_reducible refine hc.wr ?_
    | with_reducible refine State.restoreFail_keeps hc ?_ | with_reducible refine State.setDs_keeps hc ?_
    | with_reducible refine State.restoreOne_keeps hc ?_ | split | dsimp only | intro _

theorem State.restoreStage_keeps {s : State} {sel : Obj → Bool} (hc : Closed P) (h : P s) :
    P (State.restoreStage s sel) := by
  unfold State.restoreStage
  repeat' first
    | with_reducible assumption | with_reducible refine State.each_kept ?_ ?_
    | with_reducible refine State.restoredView_keeps hc ?_ | with_reducible refine State.restoreItem_keeps hc ?_
    | split | dsimp only | intro _

theorem State.adoptHead_keeps {s : State} (hc : Closed P) (h : P s) :
    P (State.adoptHead s) := by
  unfold State.adoptHead
  repeat' first
    | with_reducible assumption | with_reducible refine hc.wr ?_ | split | dsimp only | intro _
    | with_reducible refine Closed.lit hc ?_

theorem State.readLifecycle_keeps {s : State} (hc : Closed P) (h : P s) :
    P (State.readLifecycle s) := by
  unfold State.readLifecycle
  repeat' first
    | with_reducible assumption | with_reducible refine hc.wr ?_

theorem State.mountStore_keeps {s : State} (hc : Closed P) (h : P s) :
    P (State.mountStore s) := by
  unfold State.mountStore
  repeat' first
    | with_reducible assumption | with_reducible refine State.add_keeps hc ?_
    | with_reducible refine State.adoptHead_keeps hc ?_ | with_reducible refine State.readLifecycle_keeps hc ?_
    | split | dsimp only | intro _ | with_reducible refine Closed.lit hc ?_

theorem execFondantMount_keeps {a : FlashDev} {b : FlashDev} {s : State} (hc : Closed P) (h : P s) :
    ∀ t, execFondantMount a b s = .next t → P t := by
  unfold execFondantMount
  repeat' first
    | with_reducible refine next_kept ?_ | with_reducible assumption | with_reducible refine State.when_kept ?_ ?_
    | with_reducible refine hc.wr ?_ | with_reducible refine State.discover_keeps hc ?_
    | with_reducible refine State.compareSuper_keeps hc ?_ | with_reducible refine State.mountStore_keeps hc ?_
    | with_reducible refine State.setFlag_keeps hc ?_ | with_reducible refine State.ring_keeps hc ?_
    | with_reducible refine State.setReady_keeps hc ?_ | split | dsimp only | intro _
    | with_reducible refine Closed.lit hc ?_

theorem execFondantRepair_keeps {s : State} (hc : Closed P) (h : P s) :
    ∀ t, execFondantRepair s = .next t → P t := by
  unfold execFondantRepair
  repeat' first
    | with_reducible refine next_kept ?_ | with_reducible assumption | with_reducible refine State.when_kept ?_ ?_
    | with_reducible refine State.setFlag_keeps hc ?_ | with_reducible refine State.add_keeps hc ?_ | split
    | dsimp only | intro _ | with_reducible refine Closed.lit hc ?_

theorem State.acceptFormat_keeps {s : State} (hc : Closed P) (h : P s) :
    P (State.acceptFormat s) := by
  unfold State.acceptFormat
  repeat' first
    | with_reducible assumption | with_reducible refine State.when_kept ?_ ?_ | with_reducible refine hc.wr ?_
    | with_reducible refine State.formatBoth_keeps hc ?_ | with_reducible refine State.setFlag_keeps hc ?_
    | with_reducible refine State.ring_keeps hc ?_ | with_reducible refine State.setReady_keeps hc ?_ | split
    | dsimp only | intro _

theorem State.loadStart_keeps {s : State} (hc : Closed P) (h : P s) :
    P (State.loadStart s) := by
  unfold State.loadStart
  repeat' first
    | with_reducible assumption | with_reducible refine State.restoreStage_keeps hc ?_
    | with_reducible refine State.setFlag_keeps hc ?_ | split | dsimp only | intro _
    | with_reducible refine Closed.lit hc ?_

theorem execExcludedMapApply_keeps {s : State} (hc : Closed P) (h : P s) :
    ∀ t, execExcludedMapApply s = .next t → P t := by
  unfold execExcludedMapApply
  repeat' first
    | with_reducible refine next_kept ?_ | with_reducible assumption | with_reducible refine State.each_kept ?_ ?_
    | with_reducible refine State.when_kept ?_ ?_ | with_reducible refine hc.wr ?_
    | with_reducible refine State.restoreStage_keeps hc ?_ | with_reducible refine State.loadStart_keeps hc ?_ | split
    | dsimp only | intro _ | with_reducible refine Closed.lit hc ?_

theorem State.restoreLimit_keeps {s : State} {o : Obj} {r : Nat} {v : Nat} (hc : Closed P) (h : P s) :
    P (State.restoreLimit s o r v) := by
  unfold State.restoreLimit
  repeat' first
    | with_reducible assumption | with_reducible refine State.clampRating_keeps hc ?_
    | with_reducible refine State.modRa_keeps hc ?_ | split

theorem State.restoreRails_keeps {s : State} (hc : Closed P) (h : P s) :
    P (State.restoreRails s) := by
  unfold State.restoreRails
  repeat' first
    | with_reducible assumption | with_reducible refine State.each_kept ?_ ?_
    | with_reducible refine State.restoreFail_keeps hc ?_ | with_reducible refine State.restoreLimit_keeps hc ?_
    | with_reducible refine State.restoreOne_keeps hc ?_ | split | dsimp only | intro _

theorem State.loadState_keeps {s : State} (hc : Closed P) (h : P s) :
    P (State.loadState s) := by
  unfold State.loadState
  repeat' first
    | with_reducible assumption | with_reducible refine State.restoreStage_keeps hc ?_
    | with_reducible refine State.warm_keeps hc ?_ | with_reducible refine State.restoreRails_keeps hc ?_
    | with_reducible refine State.prefer_keeps hc ?_ | with_reducible refine State.limitsDue_keeps hc ?_
    | with_reducible refine State.setFlag_keeps hc ?_ | split | dsimp only | intro _
    | with_reducible refine Closed.lit hc ?_

theorem execMailboxOpen_keeps {s : State} (hc : Closed P) (h : P s) :
    ∀ t, execMailboxOpen s = .next t → P t := by
  unfold execMailboxOpen
  repeat' first
    | with_reducible refine next_kept ?_ | with_reducible assumption | with_reducible refine State.when_kept ?_ ?_
    | with_reducible refine State.loadState_keeps hc ?_ | with_reducible refine State.setReady_keeps hc ?_ | split
    | dsimp only | intro _ | with_reducible refine Closed.lit hc ?_

theorem execDictOpen_keeps {s : State} (hc : Closed P) (h : P s) :
    ∀ t, execDictOpen s = .next t → P t := by
  unfold execDictOpen
  repeat' first
    | with_reducible refine next_kept ?_ | with_reducible assumption | with_reducible refine State.each_kept ?_ ?_
    | with_reducible refine State.when_kept ?_ ?_ | with_reducible refine State.restoreStage_keeps hc ?_
    | with_reducible refine State.factoryWeights_keeps hc ?_ | with_reducible refine State.modE_keeps hc ?_
    | with_reducible refine State.auditPut_keeps hc ?_ | with_reducible refine State.setFlag_keeps hc ?_
    | with_reducible refine State.setReady_keeps hc ?_ | split | dsimp only | intro _

theorem State.loadEntry_keeps {s : State} {x : Item} (hc : Closed P) (h : P s) :
    P (State.loadEntry s x) := by
  unfold State.loadEntry
  repeat' first
    | with_reducible assumption | with_reducible refine hc.phase ?_ | with_reducible refine State.wrBytes_keeps hc ?_
    | split

theorem State.loadChain_keeps {s : State} (hc : Closed P) (h : P s) :
    P (State.loadChain s) := by
  unfold State.loadChain
  repeat' first
    | with_reducible assumption | with_reducible refine State.each_kept ?_ ?_ | with_reducible refine hc.wr ?_
    | with_reducible refine State.loadEntry_keeps hc ?_ | with_reducible refine State.setFlag_keeps hc ?_ | split
    | dsimp only | intro _ | with_reducible refine Closed.lit hc ?_

theorem execPralineOpen_keeps {s : State} (hc : Closed P) (h : P s) :
    ∀ t, execPralineOpen s = .next t → P t := by
  unfold execPralineOpen
  repeat' first
    | with_reducible refine next_kept ?_ | with_reducible assumption | with_reducible refine State.when_kept ?_ ?_
    | with_reducible refine State.loadChain_keeps hc ?_ | with_reducible refine State.setReady_keeps hc ?_ | split
    | dsimp only | intro _

theorem State.acceptTransition_keeps {s : State} {t : Nat} (hc : Closed P) (h : P s) :
    P (State.acceptTransition s t) := by
  unfold State.acceptTransition
  repeat' first
    | with_reducible assumption | with_reducible refine hc.wr ?_ | with_reducible refine State.setFlag_keeps hc ?_
    | with_reducible refine State.askNow_keeps hc ?_ | split | dsimp only | intro _
    | with_reducible refine Closed.lit hc ?_

theorem State.acceptArm_keeps {s : State} (hc : Closed P) (h : P s) :
    P (State.acceptArm s) := by
  unfold State.acceptArm
  repeat' first
    | with_reducible assumption | with_reducible refine hc.wr ?_ | split | dsimp only | intro _
    | with_reducible refine Closed.lit hc ?_

theorem execLcArmExpiry_keeps {s : State} (hc : Closed P) (h : P s) :
    ∀ t, execLcArmExpiry s = .next t → P t := by
  unfold execLcArmExpiry
  repeat' first
    | with_reducible refine next_kept ?_ | with_reducible assumption | with_reducible refine State.when_kept ?_ ?_
    | with_reducible refine hc.wr ?_ | split | dsimp only | intro _ | with_reducible refine Closed.lit hc ?_

theorem State.clearAudit_keeps {s : State} (hc : Closed P) (h : P s) :
    P (State.clearAudit s) := by
  unfold State.clearAudit
  repeat' first
    | with_reducible assumption | with_reducible refine State.ring_keeps hc ?_ | split | dsimp only | intro _
    | with_reducible refine Closed.lit hc ?_

theorem State.resetObj_keeps {s : State} {o : Obj} (hc : Closed P) (h : P s) :
    P (State.resetObj s o) := by
  exact hc.drop h

theorem State.clearTenant_keeps {s : State} (hc : Closed P) (h : P s) :
    P (State.clearTenant s) := by
  unfold State.clearTenant
  repeat' first
    | with_reducible assumption | with_reducible refine State.each_kept ?_ ?_
    | with_reducible refine State.resetObj_keeps hc ?_ | with_reducible refine State.modG_keeps hc ?_ | split
    | dsimp only | intro _ | with_reducible refine Closed.lit hc ?_

theorem execLcTransition_keeps {s : State} (hc : Closed P) (h : P s) :
    ∀ t, execLcTransition s = .next t → P t := by
  unfold execLcTransition
  repeat' first
    | with_reducible refine next_kept ?_ | with_reducible assumption | with_reducible refine State.when_kept ?_ ?_
    | with_reducible refine hc.wr ?_ | with_reducible refine State.setFlag_keeps hc ?_
    | with_reducible refine State.clearAudit_keeps hc ?_ | with_reducible refine State.clearPraline_keeps hc ?_
    | with_reducible refine State.clearTenant_keeps hc ?_ | with_reducible refine State.setReady_keeps hc ?_
    | with_reducible refine State.startDue_keeps hc ?_ | split | dsimp only | intro _
    | with_reducible refine Closed.lit hc ?_

theorem execFondantWipe_keeps {s : State} (hc : Closed P) (h : P s) :
    ∀ t, execFondantWipe s = .next t → P t := by
  unfold execFondantWipe
  repeat' first
    | with_reducible refine next_kept ?_ | with_reducible assumption | with_reducible refine State.when_kept ?_ ?_
    | split | dsimp only | intro _ | with_reducible refine Closed.lit hc ?_

end Sys2Proof.Machine
end

