-- ==== Sys2Proof/Laws/KeepsD.lean ====
section
/-! SUPPORT. Operations of the ports, writes, the field bus, faults and start-up keep a closed property. -/

set_option Elab.async false

namespace Sys2Proof.Machine

variable {P : State → Prop}

/-! ### Answer -/

theorem State.transmit_keeps {s : State} {r : FdpRsp} (hc : Closed P) (h : P s) :
    P (State.transmit s r) := by
  unfold State.transmit
  repeat' first
    | with_reducible assumption | with_reducible refine State.inc_keeps hc ?_ | split | dsimp only | intro _
    | with_reducible refine Closed.lit hc ?_

theorem State.sendRsp_keeps {s : State} {q : FdpFrame} {r : FdpRsp} (hc : Closed P) (h : P s) :
    P (State.sendRsp s q r) := by
  unfold State.sendRsp
  repeat' first
    | with_reducible assumption | with_reducible refine State.when_kept ?_ ?_
    | with_reducible refine State.inc_keeps hc ?_ | with_reducible refine State.transmit_keeps hc ?_ | split
    | dsimp only | intro _ | with_reducible refine Closed.lit hc ?_

theorem State.fdpRead_keeps {s : State} {q : FdpFrame} {o : Obj} {v : Nat} (hc : Closed P) (h : P s) :
    P (State.fdpRead s q o v) := by
  unfold State.fdpRead
  repeat' first
    | with_reducible assumption | with_reducible refine State.sendRsp_keeps hc ?_ | split | dsimp only | intro _
    | with_reducible refine Closed.lit hc ?_

theorem State.answerFdp_keeps {s : State} {q : FdpFrame} {write : Bool} {c : Code} {o : Option Obj} {v : Nat}
    (hc : Closed P) (h : P s) :
    P (State.answerFdp s q write c o v) := by
  unfold State.answerFdp
  repeat' first
    | with_reducible assumption | with_reducible refine State.fdpRead_keeps hc ?_
    | with_reducible refine State.sendRsp_keeps hc ?_ | split

theorem State.answerIdx_keeps {s : State} {write : Bool} {c : Code} {o : Option Obj} {v : Nat}
    (hc : Closed P) (h : P s) :
    P (State.answerIdx s write c o v) := by
  unfold State.answerIdx
  repeat' first
    | with_reducible assumption | split | dsimp only | intro _ | with_reducible refine Closed.lit hc ?_

theorem State.answerNet_keeps {s : State} {p : Nat} {frame : Nat} {c : Code} {v : Nat} (hc : Closed P) (h : P s) :
    P (State.answerNet s p frame c v) := by
  unfold State.answerNet
  repeat' first
    | with_reducible assumption | with_reducible refine State.queueFrame_keeps hc ?_
    | with_reducible refine State.inc_keeps hc ?_

theorem State.hostAnswer_keeps {s : State} {addr : Nat} {write : Bool} {c : Code} {data : Nat} {retry : Nat}
    (hc : Closed P) (h : P s) :
    P (State.hostAnswer s addr write c data retry) := by
  unfold State.hostAnswer
  repeat' first
    | with_reducible assumption | with_reducible refine hc.wr ?_ | with_reducible refine State.inc_keeps hc ?_ | split
    | dsimp only | intro _ | with_reducible refine Closed.lit hc ?_

theorem State.replyVal_keeps {s : State} {a : Access} {c : Code} {known : Option (Obj × Nat)} {v : Nat}
    (hc : Closed P) (h : P s) :
    P (State.replyVal s a c known v) := by
  unfold State.replyVal
  repeat' first
    | with_reducible assumption | with_reducible refine State.hostAnswer_keeps hc ?_
    | with_reducible refine State.answerIdx_keeps hc ?_ | with_reducible refine State.answerFdp_keeps hc ?_
    | with_reducible refine State.respond_keeps hc ?_ | with_reducible refine State.answerNet_keeps hc ?_ | split
    | dsimp only | intro _ | with_reducible refine Closed.lit hc ?_

theorem State.reply_keeps {s : State} {a : Access} {c : Code} {known : Option (Obj × Nat)} (hc : Closed P) (h : P s) :
    P (State.reply s a c known) := by
  unfold State.reply
  repeat' first
    | with_reducible assumption | with_reducible refine State.replyVal_keeps hc ?_

/-! ### Writes -/

theorem State.loseEvent_keeps {s : State} {w : Nat} (hc : Closed P) (h : P s) :
    P (State.loseEvent s w) := by
  unfold State.loseEvent
  repeat' first
    | with_reducible assumption | with_reducible refine hc.wr ?_ | with_reducible refine State.inc_keeps hc ?_

theorem State.wordLost_keeps {s : State} {x : Flip} (hc : Closed P) (h : P s) :
    P (State.wordLost s x) := by
  unfold State.wordLost
  repeat' first
    | with_reducible assumption | with_reducible refine State.sramLost_keeps hc ?_
    | with_reducible refine State.loseWeight_keeps hc ?_ | with_reducible refine State.loseTag_keeps hc ?_
    | with_reducible refine State.loseEvent_keeps hc ?_ | split

theorem State.touch_keeps {s : State} {o : Obj} {e : Nat} {i : Nat} (hc : Closed P) (h : P s) :
    P (State.touch s o e i).2 := by
  unfold State.touch
  repeat' first
    | with_reducible assumption | with_reducible refine State.readFlips_keeps hc ?_ ?_
    | with_reducible refine State.wordLost_keeps hc ?_ | split | dsimp only | intro _

theorem State.askAging_keeps {s : State} (hc : Closed P) (h : P s) :
    P (State.askAging s) := by
  unfold State.askAging
  repeat' first
    | with_reducible assumption | with_reducible refine State.each_kept ?_ ?_
    | with_reducible refine State.when_kept ?_ ?_ | with_reducible refine hc.wr ?_
    | with_reducible refine State.modR_keeps hc ?_ | split | dsimp only | intro _

theorem State.newWeights_keeps {s : State} {n : Nat} (hc : Closed P) (h : P s) :
    P (State.newWeights s n) := by
  unfold State.newWeights
  repeat' first
    | with_reducible assumption | with_reducible refine State.factoryWeights_keeps hc ?_
    | with_reducible refine State.modE_keeps hc ?_

theorem State.resetCal_keeps {s : State} (hc : Closed P) (h : P s) :
    P (State.resetCal s) := by
  unfold State.resetCal
  repeat' first
    | with_reducible assumption | with_reducible refine State.each_kept ?_ ?_
    | with_reducible refine State.factoryWeights_keeps hc ?_ | with_reducible refine State.clearIdle_keeps hc ?_
    | with_reducible refine State.modE_keeps hc ?_ | split | dsimp only | intro _

theorem State.writeUnlock_keeps {s : State} {v : Nat} (hc : Closed P) (h : P s) :
    P (State.writeUnlock s v) := by
  unfold State.writeUnlock
  repeat' first
    | with_reducible assumption | with_reducible refine State.when_kept ?_ ?_ | with_reducible refine hc.wr ?_
    | with_reducible refine State.inc_keeps hc ?_ | split | dsimp only | intro _
    | with_reducible refine Closed.lit hc ?_

theorem State.flushNow_keeps {s : State} (hc : Closed P) (h : P s) :
    P (State.flushNow s) := by
  unfold State.flushNow
  repeat' first
    | with_reducible assumption | with_reducible refine State.askNow_keeps hc ?_ | split | dsimp only | intro _
    | with_reducible refine Closed.lit hc ?_

theorem State.askReset_keeps {s : State} (hc : Closed P) (h : P s) :
    P (State.askReset s) := by
  unfold State.askReset
  repeat' first
    | with_reducible assumption | with_reducible refine hc.wr ?_ | with_reducible refine State.flushNow_keeps hc ?_
    | with_reducible refine State.summarise_keeps hc ?_ | with_reducible refine State.startDue_keeps hc ?_ | split
    | dsimp only | intro _ | with_reducible refine Closed.lit hc ?_

theorem State.ackAlerts_keeps {s : State} {mask : Nat} (hc : Closed P) (h : P s) :
    P (State.ackAlerts s mask) := by
  unfold State.ackAlerts
  repeat' first
    | with_reducible assumption | with_reducible refine hc.wr ?_ | with_reducible refine State.driveAlert_keeps hc ?_

theorem State.arm_keeps {s : State} (hc : Closed P) (h : P s) :
    P (State.arm s) := by
  unfold State.arm
  repeat' first
    | with_reducible assumption | with_reducible refine hc.wr ?_ | with_reducible refine State.event_keeps hc ?_
    | split | dsimp only | intro _ | with_reducible refine Closed.lit hc ?_

theorem State.writePermit_keeps {s : State} {v : Nat} (hc : Closed P) (h : P s) :
    P (State.writePermit s v) := by
  unfold State.writePermit
  repeat' first
    | with_reducible assumption | with_reducible refine hc.wr ?_ | split | dsimp only | intro _
    | with_reducible refine Closed.lit hc ?_

theorem State.writeExcluded_keeps {s : State} {n : Nat} {v : Nat} (hc : Closed P) (h : P s) :
    P (State.writeExcluded s n v) := by
  unfold State.writeExcluded
  repeat' first
    | with_reducible assumption | with_reducible refine State.when_kept ?_ ?_ | with_reducible refine hc.wr ?_
    | with_reducible refine State.setFlag_keeps hc ?_ | with_reducible refine State.dirty_keeps hc ?_ | split
    | dsimp only | intro _

theorem State.writeTable_keeps {s : State} {g : Nat} {v : Nat} (hc : Closed P) (h : P s) :
    P (State.writeTable s g v) := by
  unfold State.writeTable
  repeat' first
    | with_reducible assumption | with_reducible refine hc.wr ?_ | with_reducible refine State.modG_keeps hc ?_
    | with_reducible refine State.clearGconf_keeps hc ?_

theorem State.writeFixed_keeps {s : State} {g : Nat} {v : Nat} (hc : Closed P) (h : P s) :
    P (State.writeFixed s g v) := by
  unfold State.writeFixed
  repeat' first
    | with_reducible assumption | with_reducible refine State.when_kept ?_ ?_ | with_reducible refine hc.wr ?_
    | with_reducible refine State.noteFixed_keeps hc ?_ | with_reducible refine State.discardOcc_keeps hc ?_
    | with_reducible refine State.retarget_keeps hc ?_ | with_reducible refine State.showCapFlags_keeps hc ?_ | split
    | dsimp only | intro _

theorem State.writeRun_keeps {s : State} {g : Nat} {v : Nat} (hc : Closed P) (h : P s) :
    P (State.writeRun s g v) := by
  unfold State.writeRun
  repeat' first
    | with_reducible assumption | with_reducible refine State.when_kept ?_ ?_ | with_reducible refine hc.wr ?_
    | with_reducible refine State.modG_keeps hc ?_ | split | dsimp only | intro _

theorem State.flushAgain_keeps {s : State} (hc : Closed P) (h : P s) :
    P (State.flushAgain s) := by
  unfold State.flushAgain
  repeat' first
    | with_reducible assumption | with_reducible refine State.when_kept ?_ ?_
    | with_reducible refine State.flushNow_keeps hc ?_ | split | dsimp only | intro _

theorem State.command_keeps {s : State} {o : Obj} {e : Nat} {i : Nat} (hc : Closed P) (h : P s) :
    P (State.command s o e i) := by
  unfold State.command
  repeat' first
    | with_reducible assumption | with_reducible refine State.when_kept ?_ ?_ | with_reducible refine hc.wr ?_
    | with_reducible refine State.askAging_keeps hc ?_ | with_reducible refine State.resetCal_keeps hc ?_
    | with_reducible refine State.clearPraline_keeps hc ?_ | with_reducible refine State.rearmPraline_keeps hc ?_
    | with_reducible refine State.acceptRecover_keeps hc ?_ | with_reducible refine State.flushNow_keeps hc ?_
    | with_reducible refine State.askNow_keeps hc ?_ | with_reducible refine State.acceptFormat_keeps hc ?_
    | with_reducible refine State.askReset_keeps hc ?_ | with_reducible refine State.arm_keeps hc ?_
    | with_reducible refine State.acceptArm_keeps hc ?_ | with_reducible refine State.noteLock_keeps hc ?_
    | with_reducible refine State.lockLose_keeps hc ?_ | split | dsimp only | intro _
    | with_reducible refine Closed.lit hc ?_

theorem State.store_keeps {s : State} {o : Obj} {e : Nat} {i : Nat} {v : Nat} (hc : Closed P) (h : P s) :
    P (State.store s o e i v) := by
  fun_cases State.store s o e i v
  all_goals
    repeat' first
      | with_reducible assumption | with_reducible refine State.when_kept ?_ ?_ | with_reducible refine hc.wr ?_
      | with_reducible refine State.submitTarget_keeps hc ?_ | with_reducible refine State.acceptStop_keeps hc ?_
      | with_reducible refine State.applyFence_keeps hc ?_ | with_reducible refine State.removeSensors_keeps hc ?_
      | with_reducible refine State.holdCurve_keeps hc ?_ | with_reducible refine State.unquarantine_keeps hc ?_
      | with_reducible refine State.writeTable_keeps hc ?_ | with_reducible refine State.writeFixed_keeps hc ?_
      | with_reducible refine State.noteFixed_keeps hc ?_ | with_reducible refine State.retarget_keeps hc ?_
      | with_reducible refine State.limitsDue_keeps hc ?_ | with_reducible refine State.writeRun_keeps hc ?_
      | with_reducible refine State.newWeights_keeps hc ?_ | with_reducible refine State.modE_keeps hc ?_
      | with_reducible refine State.writePolicy_keeps hc ?_ | with_reducible refine State.prefer_keeps hc ?_
      | with_reducible refine State.acceptTimeSet_keeps hc ?_ | with_reducible refine State.wrInt_keeps hc ?_
      | with_reducible refine State.stageLoad_keeps hc ?_ | with_reducible refine State.syncGrant_keeps hc ?_
      | with_reducible refine State.writeUnlock_keeps hc ?_ | with_reducible refine State.acceptTransition_keeps hc ?_
      | with_reducible refine State.setFlag_keeps hc ?_ | with_reducible refine State.ackAlerts_keeps hc ?_
      | with_reducible refine State.driveAlert_keeps hc ?_ | with_reducible refine State.writePermit_keeps hc ?_
      | with_reducible refine State.writeExcluded_keeps hc ?_ | with_reducible refine State.wrHeld_keeps hc ?_ | split
      | dsimp only | intro _ | with_reducible refine Closed.lit hc ?_

theorem State.effect_keeps {s : State} {o : Obj} {e : Nat} {i : Nat} {v : Nat} (hc : Closed P) (h : P s) :
    P (State.effect s o e i v) := by
  unfold State.effect
  repeat' first
    | with_reducible assumption | with_reducible refine State.when_kept ?_ ?_
    | with_reducible refine State.command_keeps hc ?_ | with_reducible refine State.flushAgain_keeps hc ?_
    | with_reducible refine State.store_keeps hc ?_ | split | dsimp only | intro _

theorem State.noteWritten_keeps {s : State} {o : Obj} {e : Nat} {i : Nat} (hc : Closed P) (h : P s) :
    P (State.noteWritten s o e i) := by
  unfold State.noteWritten
  repeat' first
    | with_reducible assumption | with_reducible refine State.when_kept ?_ ?_ | split | dsimp only | intro _
    | with_reducible refine Closed.lit hc ?_

theorem State.refuse_keeps {s : State} {a : Access} {c : Code} {known : Option (Obj × Nat)} (hc : Closed P) (h : P s) :
    P (State.refuse s a c known) := by
  unfold State.refuse
  repeat' first
    | with_reducible assumption | with_reducible refine State.when_kept ?_ ?_
    | with_reducible refine State.auditRefuse_keeps hc ?_ | with_reducible refine State.auditWrite_keeps hc ?_
    | with_reducible refine State.setFlag_keeps hc ?_ | with_reducible refine State.reply_keeps hc ?_ | split
    | dsimp only | intro _

theorem State.finishWrite_keeps {s : State} {a : Access} {o : Obj} {i : Nat} {p : Attempt} (hc : Closed P) (h : P s) :
    P (State.finishWrite s a o i p) := by
  unfold State.finishWrite
  repeat' first
    | with_reducible assumption | with_reducible refine State.when_kept ?_ ?_
    | with_reducible refine State.effect_keeps hc ?_ | with_reducible refine State.noteWritten_keeps hc ?_
    | with_reducible refine State.dirty_keeps hc ?_ | with_reducible refine State.auditWrite_keeps hc ?_
    | with_reducible refine State.reply_keeps hc ?_ | split | dsimp only | intro _

theorem State.carryOut_keeps {s0 : State} {a : Access} {o : Obj} {i : Nat} (hc : Closed P) (h : P s0) :
    P (State.carryOut s0 a o i) := by
  unfold State.carryOut
  repeat' first
    | with_reducible assumption | with_reducible refine State.touch_keeps hc ?_
    | with_reducible refine State.finishWrite_keeps hc ?_

theorem State.giveRead_keeps {s : State} {a : Access} {o : Obj} {i : Nat} (hc : Closed P) (h : P s) :
    P (State.giveRead s a o i) := by
  unfold State.giveRead
  repeat' first
    | with_reducible assumption | with_reducible refine State.touch_keeps hc ?_
    | with_reducible refine State.reply_keeps hc ?_

theorem State.queueRemote_keeps {s : State} {a : Access} {o : Obj} {i : Nat} (hc : Closed P) (h : P s) :
    P (State.queueRemote s a o i) := by
  unfold State.queueRemote
  repeat' first
    | with_reducible assumption | split | dsimp only | intro _ | with_reducible refine Closed.lit hc ?_

theorem State.sendRemote_keeps {s : State} {a : Access} {o : Obj} {i : Nat} (hc : Closed P) (h : P s) :
    P (State.sendRemote s a o i) := by
  unfold State.sendRemote
  repeat' first
    | with_reducible assumption | with_reducible refine State.touch_keeps hc ?_ | split | dsimp only | intro _
    | with_reducible refine Closed.lit hc ?_

theorem State.settleWrite_keeps {s : State} {a : Access} {o : Obj} {i : Nat} (hc : Closed P) (h : P s) :
    P (State.settleWrite s a o i) := by
  unfold State.settleWrite
  repeat' first
    | with_reducible assumption | with_reducible refine State.refuse_keeps hc ?_
    | with_reducible refine State.sendRemote_keeps hc ?_ | with_reducible refine State.carryOut_keeps hc ?_ | split

theorem State.settleRead_keeps {s : State} {a : Access} {o : Obj} {i : Nat} (hc : Closed P) (h : P s) :
    P (State.settleRead s a o i) := by
  unfold State.settleRead
  repeat' first
    | with_reducible assumption | with_reducible refine State.reply_keeps hc ?_
    | with_reducible refine State.sendRemote_keeps hc ?_ | with_reducible refine State.giveRead_keeps hc ?_ | split

theorem State.decideWrite_keeps {s : State} {a : Access} (hc : Closed P) (h : P s) :
    P (State.decideWrite s a) := by
  unfold State.decideWrite
  repeat' first
    | with_reducible assumption | with_reducible refine State.refuse_keeps hc ?_
    | with_reducible refine State.queueRemote_keeps hc ?_ | with_reducible refine State.settleWrite_keeps hc ?_
    | split

theorem State.decideRead_keeps {s : State} {a : Access} (hc : Closed P) (h : P s) :
    P (State.decideRead s a) := by
  unfold State.decideRead
  repeat' first
    | with_reducible assumption | with_reducible refine State.reply_keeps hc ?_
    | with_reducible refine State.queueRemote_keeps hc ?_ | with_reducible refine State.settleRead_keeps hc ?_ | split

theorem State.decideAcc_keeps {s : State} {a : Access} (hc : Closed P) (h : P s) :
    P (State.decideAcc s a) := by
  unfold State.decideAcc
  repeat' first
    | with_reducible assumption | with_reducible refine State.decideWrite_keeps hc ?_
    | with_reducible refine State.decideRead_keeps hc ?_ | split

theorem State.nextRemote_keeps {s : State} (hc : Closed P) (h : P s) :
    P (State.nextRemote s) := by
  unfold State.nextRemote
  repeat' first
    | with_reducible assumption | with_reducible refine State.each_kept ?_ ?_
    | with_reducible refine State.decideAcc_keeps hc ?_ | split | dsimp only | intro _
    | with_reducible refine Closed.lit hc ?_

theorem State.endRemote_keeps {s : State} {x : RemoteAcc} (hc : Closed P) (h : P s) :
    P (State.endRemote s x) := by
  unfold State.endRemote
  repeat' first
    | with_reducible assumption | with_reducible refine State.touch_keeps hc ?_
    | with_reducible refine State.finishWrite_keeps hc ?_ | with_reducible refine State.replyVal_keeps hc ?_ | split

theorem State.remoteDone_keeps {s : State} {i : Nat} (hc : Closed P) (h : P s) :
    P (State.remoteDone s i) := by
  unfold State.remoteDone
  repeat' first
    | with_reducible assumption | with_reducible refine State.endRemote_keeps hc ?_
    | with_reducible refine State.nextRemote_keeps hc ?_ | split | dsimp only | intro _
    | with_reducible refine Closed.lit hc ?_

/-! ### Window -/

theorem State.hostReply_keeps {s : State} {addr : Nat} {write : Bool} {c : Code} {data : Nat} {r : Rdy}
    (hc : Closed P) (h : P s) :
    P (State.hostReply s addr write c data r) := by
  unfold State.hostReply
  repeat' first
    | with_reducible assumption | with_reducible refine State.hostAnswer_keeps hc ?_

theorem State.readDirect_keeps {s : State} {addr : Nat} (hc : Closed P) (h : P s) :
    P (State.readDirect s addr).2.2 := by
  unfold State.readDirect
  repeat' first
    | with_reducible assumption | with_reducible refine State.noteLock_keeps hc ?_
    | with_reducible refine State.lockAcquire_keeps hc ?_ | split

theorem State.readIndirect_keeps {s : State} {addr : Nat} (hc : Closed P) (h : P s) :
    P (State.readIndirect s addr).2.2 := by
  unfold State.readIndirect
  repeat' first
    | with_reducible assumption | split

theorem State.readAudit_keeps {s : State} {addr : Nat} (hc : Closed P) (h : P s) :
    P (State.readAudit s addr).2.2 := by
  unfold State.readAudit
  generalize (addr - 0x180000) / 32 = slot
  generalize (addr - 0x180000) % 32 / 8 = word
  dsimp only
  split
  · exact h
  · split
    · exact Closed.lit hc (State.when_kept (State.readFlips_keeps hc h fun _ _ ht => State.wordLost_keeps hc ht) fun _ ht =>
        State.inc_keeps hc ht)
    · exact hc.lit h

theorem State.readWeightWord_keeps {s : State} {addr : Nat} (hc : Closed P) (h : P s) :
    P (State.readWeightWord s addr).2.2 := by
  unfold State.readWeightWord
  generalize (addr - 0x200000) / 0x400 = n
  generalize (addr - 0x200000) % 0x400 / 2 = i
  dsimp only
  repeat' first
    | exact h | exact State.readFlips_keeps hc h fun _ _ ht => State.wordLost_keeps hc ht | split

theorem State.readPhaseWord_keeps {s : State} {addr : Nat} (hc : Closed P) (h : P s) :
    P (State.readPhaseWord s addr).2.2 := by
  unfold State.readPhaseWord
  repeat' first
    | with_reducible assumption | with_reducible refine State.readFlips_keeps hc ?_ ?_
    | with_reducible refine State.wordLost_keeps hc ?_ | split | dsimp only | intro _

theorem State.readWindow_keeps {s : State} {addr : Nat} (hc : Closed P) (h : P s) :
    P (State.readWindow s addr).2.2 := by
  unfold State.readWindow
  repeat' first
    | with_reducible assumption | with_reducible refine State.readDirect_keeps hc ?_
    | with_reducible refine State.readIndirect_keeps hc ?_ | with_reducible refine State.readAudit_keeps hc ?_
    | with_reducible refine State.readWeightWord_keeps hc ?_ | with_reducible refine State.readPhaseWord_keeps hc ?_
    | split

theorem State.windowRead_keeps {s : State} {addr : Nat} (hc : Closed P) (h : P s) :
    P (State.windowRead s addr) := by
  unfold State.windowRead
  repeat' first
    | with_reducible assumption | with_reducible refine State.readWindow_keeps hc ?_
    | with_reducible refine State.hostReply_keeps hc ?_

/-! ### Ports -/

theorem State.epDictRead_keeps {s : State} {q : EpReq} (hc : Closed P) (h : P s) :
    P (State.epDictRead s q) := by
  unfold State.epDictRead
  repeat' first
    | with_reducible assumption | with_reducible refine State.respond_keeps hc ?_
    | with_reducible refine State.decideRead_keeps hc ?_ | split

theorem execDictRead_keeps {q : EpReq} {s : State} (hc : Closed P) (h : P s) :
    ∀ t, execDictRead q s = .next t → P t := by
  exact next_kept (State.epTake_keeps hc h (fun _ _ ht => ht) fun _ ht => State.epDictRead_keeps hc ht)

theorem State.epDictWrite_keeps {s : State} {q : EpReq} (hc : Closed P) (h : P s) :
    P (State.epDictWrite s q) := by
  unfold State.epDictWrite
  repeat' first
    | with_reducible assumption | with_reducible refine State.auditRefuse_keeps hc ?_
    | with_reducible refine State.respond_keeps hc ?_ | with_reducible refine State.decideWrite_keeps hc ?_ | split

theorem dictTurn_keeps {q : EpReq} {c : Code} {s : State} (hc : Closed P) (h : P s) :
    P (dictTurn q c s) := by
  unfold dictTurn
  repeat' first
    | with_reducible assumption | with_reducible refine State.auditRefuse_keeps hc ?_
    | with_reducible refine State.auditLost_keeps hc ?_ | split

theorem execDictWrite_keeps {q : EpReq} {s : State} (hc : Closed P) (h : P s) :
    ∀ t, execDictWrite q s = .next t → P t := by
  exact next_kept (State.epTake_keeps hc h (fun _ _ ht => dictTurn_keeps hc ht) fun _ ht => State.epDictWrite_keeps hc ht)

theorem State.mbRead_keeps {s : State} {q : EpReq} (hc : Closed P) (h : P s) :
    P (State.mbRead s q) := by
  unfold State.mbRead
  repeat' first
    | with_reducible assumption | with_reducible refine State.mailRead_keeps hc ?_
    | with_reducible refine State.bellRead_keeps hc ?_ | with_reducible refine State.noticeRead_keeps hc ?_ | split

theorem State.epServe_keeps {s : State} {op : Nat} {q : EpReq} (hc : Closed P) (h : P s) :
    P (State.epServe s op q) := by
  unfold State.epServe
  repeat' first
    | with_reducible assumption | with_reducible refine State.respond_keeps hc ?_
    | with_reducible refine State.phaseNext_keeps hc ?_ | with_reducible refine State.markNext_keeps hc ?_
    | with_reducible refine State.phaseBegin_keeps hc ?_ | with_reducible refine State.markBegin_keeps hc ?_
    | with_reducible refine State.markPref_keeps hc ?_ | with_reducible refine State.mailPost_keeps hc ?_
    | with_reducible refine State.mbRead_keeps hc ?_ | with_reducible refine State.bellRing_keeps hc ?_
    | with_reducible refine State.lockAcquire_keeps hc ?_ | with_reducible refine State.epAcquire_keeps hc ?_
    | with_reducible refine State.epRelease_keeps hc ?_ | with_reducible refine State.epLockRead_keeps hc ?_
    | with_reducible refine State.epDictRead_keeps hc ?_ | with_reducible refine State.epDictWrite_keeps hc ?_ | split

theorem execEpReservedOp_keeps {op : Nat} {q : EpReq} {s : State} (hc : Closed P) (h : P s) :
    ∀ t, execEpReservedOp op q s = .next t → P t := by
  unfold execEpReservedOp
  repeat' first
    | with_reducible refine next_kept ?_ | with_reducible assumption | with_reducible refine State.when_kept ?_ ?_
    | with_reducible refine State.epTake_keeps hc ?_ ?_ ?_ | with_reducible refine dictTurn_keeps hc ?_
    | with_reducible refine State.epServe_keeps hc ?_ | split | dsimp only | intro _

theorem State.epRun_keeps {s : State} {x : EpHeld} (hc : Closed P) (h : P s) :
    P (State.epRun s x) := by
  unfold State.epRun
  repeat' first
    | with_reducible assumption | with_reducible refine State.when_kept ?_ ?_
    | with_reducible refine State.requesterReset_keeps hc ?_ | with_reducible refine State.queueRead_keeps hc ?_
    | with_reducible refine dictTurn_keeps hc ?_ | with_reducible refine State.respond_keeps hc ?_
    | with_reducible refine State.epServe_keeps hc ?_ | split | dsimp only | intro _

theorem State.epOut_keeps {s : State} (hc : Closed P) (h : P s) :
    P (State.epOut s) := by
  unfold State.epOut
  repeat' first
    | with_reducible assumption | with_reducible refine State.each_kept ?_ ?_
    | with_reducible refine State.epQueue_keeps hc ?_ | with_reducible refine State.epRun_keeps hc ?_ | split
    | dsimp only | intro _ | with_reducible refine Closed.lit hc ?_

theorem execMbRemoteComplete_keeps {i : Nat} {s : State} (hc : Closed P) (h : P s) :
    ∀ t, execMbRemoteComplete i s = .next t → P t := by
  unfold execMbRemoteComplete
  repeat' first
    | with_reducible refine next_kept ?_ | with_reducible assumption | with_reducible refine State.when_kept ?_ ?_
    | with_reducible refine State.take_keeps hc ?_ | with_reducible refine State.respondNum_keeps hc ?_
    | with_reducible refine State.epOut_keeps hc ?_ | split | dsimp only | intro _
    | with_reducible refine Closed.lit hc ?_

theorem State.weightWrite_keeps {s : State} {off : Nat} {be : Nat} {val : Nat} (hc : Closed P) (h : P s) :
    P (State.weightWrite s off be val) := by
  unfold State.weightWrite
  repeat' first
    | with_reducible assumption | with_reducible refine State.each_kept ?_ ?_
    | with_reducible refine State.readFlips_keeps hc ?_ ?_ | with_reducible refine State.wordLost_keeps hc ?_
    | with_reducible refine State.setWeight_keeps hc ?_ | with_reducible refine State.hostReply_keeps hc ?_ | split
    | dsimp only | intro _

theorem State.windowWrite_keeps {s : State} {off : Nat} {be : Nat} {val : Nat} (hc : Closed P) (h : P s) :
    P (State.windowWrite s off be val) := by
  unfold State.windowWrite
  repeat' first
    | with_reducible assumption | with_reducible refine State.when_kept ?_ ?_
    | with_reducible refine State.hostReply_keeps hc ?_ | with_reducible refine State.weightWrite_keeps hc ?_ | split
    | dsimp only | intro _

theorem State.phaseWrite_keeps {s : State} {off : Nat} {be : Nat} {val : Nat} (hc : Closed P) (h : P s) :
    P (State.phaseWrite s off be val) := by
  unfold State.phaseWrite
  repeat' first
    | with_reducible assumption | with_reducible refine hc.phase ?_
    | with_reducible refine State.readFlips_keeps hc ?_ ?_ | with_reducible refine State.wordLost_keeps hc ?_
    | with_reducible refine State.hostReply_keeps hc ?_ | split | dsimp only | intro _

theorem State.hostAcquire_keeps {s : State} {i : Nat} (hc : Closed P) (h : P s) :
    P (State.hostAcquire s i) := by
  unfold State.hostAcquire
  repeat' first
    | with_reducible assumption | with_reducible refine State.hostReply_keeps hc ?_
    | with_reducible refine State.noteLock_keeps hc ?_ | with_reducible refine State.lockAcquire_keeps hc ?_ | split

theorem State.hostRelease_keeps {s : State} {i : Nat} (hc : Closed P) (h : P s) :
    P (State.hostRelease s i) := by
  unfold State.hostRelease
  repeat' first
    | with_reducible assumption | with_reducible refine State.hostReply_keeps hc ?_
    | with_reducible refine State.noteLock_keeps hc ?_ | with_reducible refine State.setLock_keeps hc ?_ | split
    | dsimp only

theorem State.hostRing_keeps {s : State} {val : Nat} (hc : Closed P) (h : P s) :
    P (State.hostRing s val) := by
  unfold State.hostRing
  repeat' first
    | with_reducible assumption | with_reducible refine State.hostReply_keeps hc ?_
    | with_reducible refine State.ring_keeps hc ?_ | split

theorem State.idxFill_keeps {s : State} {addr : Nat} {buf : Nat} (hc : Closed P) (h : P s) :
    P (State.idxFill s addr buf) := by
  unfold State.idxFill
  repeat' first
    | with_reducible assumption | with_reducible refine State.when_kept ?_ ?_ | split | dsimp only | intro _
    | with_reducible refine Closed.lit hc ?_

theorem State.idxBegin_keeps {s : State} {write : Bool} {len : Nat} (hc : Closed P) (h : P s) :
    P (State.idxBegin s write len) := by
  unfold State.idxBegin
  repeat' first
    | with_reducible assumption | split | dsimp only | intro _ | with_reducible refine Closed.lit hc ?_

theorem State.idxRead_keeps {s : State} {addr : Nat} {ctl : Nat} (hc : Closed P) (h : P s) :
    P (State.idxRead s addr ctl) := by
  unfold State.idxRead
  repeat' first
    | with_reducible assumption | with_reducible refine State.when_kept ?_ ?_
    | with_reducible refine State.idxFill_keeps hc ?_ | with_reducible refine State.idxBegin_keeps hc ?_
    | with_reducible refine State.hostReply_keeps hc ?_ | split | dsimp only | intro _

theorem State.idxWrite_keeps {s : State} {addr : Nat} {buf : Nat} {ctl : Nat} (hc : Closed P) (h : P s) :
    P (State.idxWrite s addr buf ctl) := by
  unfold State.idxWrite
  repeat' first
    | with_reducible assumption | with_reducible refine State.when_kept ?_ ?_
    | with_reducible refine State.idxFill_keeps hc ?_ | with_reducible refine State.idxBegin_keeps hc ?_
    | with_reducible refine State.hostReply_keeps hc ?_ | split | dsimp only | intro _

theorem State.hostAccess_keeps {s : State} {a : Access} (hc : Closed P) (h : P s) :
    P (State.hostAccess s a) := by
  unfold State.hostAccess
  repeat' first
    | with_reducible assumption | with_reducible refine State.decideAcc_keeps hc ?_
    | with_reducible refine State.refuse_keeps hc ?_ | with_reducible refine State.reply_keeps hc ?_ | split

theorem State.hostServe_keeps {s : State} {r : HeldReq} (hc : Closed P) (h : P s) :
    P (State.hostServe s r) := by
  unfold State.hostServe
  repeat' first
    | with_reducible assumption | with_reducible refine State.hostAccess_keeps hc ?_
    | with_reducible refine State.windowRead_keeps hc ?_ | with_reducible refine State.windowWrite_keeps hc ?_
    | with_reducible refine State.phaseWrite_keeps hc ?_ | with_reducible refine State.lockAcquire_keeps hc ?_
    | with_reducible refine State.hostAcquire_keeps hc ?_ | with_reducible refine State.hostRelease_keeps hc ?_
    | with_reducible refine State.ring_keeps hc ?_ | with_reducible refine State.hostRing_keeps hc ?_
    | with_reducible refine State.idxRead_keeps hc ?_ | with_reducible refine State.idxWrite_keeps hc ?_ | split

theorem State.accessLost_keeps {s : State} {a : Access} (hc : Closed P) (h : P s) :
    P (State.accessLost s a) := by
  unfold State.accessLost
  repeat' first
    | with_reducible assumption | with_reducible refine State.when_kept ?_ ?_
    | with_reducible refine State.auditLost_keeps hc ?_ | with_reducible refine State.reply_keeps hc ?_ | split
    | dsimp only | intro _

theorem State.hostLost_keeps {s : State} {r : HeldReq} (hc : Closed P) (h : P s) :
    P (State.hostLost s r) := by
  unfold State.hostLost
  repeat' first
    | with_reducible assumption | with_reducible refine State.accessLost_keeps hc ?_
    | with_reducible refine State.hostReply_keeps hc ?_ | with_reducible refine State.lockAcquire_keeps hc ?_
    | with_reducible refine State.ring_keeps hc ?_ | with_reducible refine State.idxRead_keeps hc ?_
    | with_reducible refine State.idxWrite_keeps hc ?_ | split

theorem State.hostTake_keeps {s : State} {r : HeldReq} (hc : Closed P) (h : P s) :
    P (State.hostTake s r) := by
  unfold State.hostTake
  repeat' first
    | with_reducible assumption | with_reducible refine State.queueRead_keeps hc ?_
    | with_reducible refine State.hostLost_keeps hc ?_ | with_reducible refine State.hostServe_keeps hc ?_ | split

theorem State.hostHold_keeps {s : State} {r : HeldReq} (hc : Closed P) (h : P s) :
    P (State.hostHold s r) := by
  unfold State.hostHold
  repeat' first
    | with_reducible assumption | split | dsimp only | intro _ | with_reducible refine Closed.lit hc ?_

theorem State.hostIn_keeps {s : State} {r : HeldReq} (hc : Closed P) (h : P s) :
    P (State.hostIn s r) := by
  unfold State.hostIn
  repeat' first
    | with_reducible assumption | with_reducible refine State.inc_keeps hc ?_
    | with_reducible refine State.hostHold_keeps hc ?_ | with_reducible refine State.hostTake_keeps hc ?_ | split

theorem State.hostHeldOut_keeps {s : State} (hc : Closed P) (h : P s) :
    P (State.hostHeldOut s) := by
  unfold State.hostHeldOut
  repeat' first
    | with_reducible assumption | with_reducible refine State.each_kept ?_ ?_
    | with_reducible refine State.when_kept ?_ ?_ | with_reducible refine State.hostHold_keeps hc ?_
    | with_reducible refine State.hostTake_keeps hc ?_ | split | dsimp only | intro _
    | with_reducible refine Closed.lit hc ?_

theorem State.hostRead_keeps {s : State} {addr : Nat} (hc : Closed P) (h : P s) :
    P (State.hostRead s addr) := by
  unfold State.hostRead
  repeat' first
    | with_reducible assumption | with_reducible refine State.hostIn_keeps hc ?_

theorem execRemoteAccessComplete_keeps {i : Nat} {s : State} (hc : Closed P) (h : P s) :
    ∀ t, execRemoteAccessComplete i s = .next t → P t := by
  unfold execRemoteAccessComplete
  repeat' first
    | with_reducible refine next_kept ?_ | with_reducible assumption | with_reducible refine State.when_kept ?_ ?_
    | with_reducible refine State.remoteDone_keeps hc ?_ | with_reducible refine State.hostHeldOut_keeps hc ?_ | split
    | dsimp only | intro _

theorem State.submitWrite_keeps {s : State} {a : Access} (hc : Closed P) (h : P s) :
    P (State.submitWrite s a) := by
  unfold State.submitWrite
  repeat' first
    | with_reducible assumption | with_reducible refine State.hostIn_keeps hc ?_
    | with_reducible refine State.decideWrite_keeps hc ?_ | split

theorem State.submit1_keeps {s : State} {o : Obj} {w : Wr} (hc : Closed P) (h : P s) :
    P (State.submit1 s o w) := by
  unfold State.submit1
  repeat' first
    | with_reducible assumption | with_reducible refine State.submitWrite_keeps hc ?_

theorem execObjectWrite_keeps {index : Nat} {sub : Nat} {w : Wr} {s : State} (hc : Closed P) (h : P s) :
    ∀ t, execObjectWrite index sub w s = .next t → P t := by
  unfold execObjectWrite
  repeat' first
    | with_reducible refine next_kept ?_ | with_reducible assumption
    | with_reducible refine State.submitWrite_keeps hc ?_

theorem execWeightWindowWrite_keeps {off : Nat} {be : Nat} {val : Nat} {s : State} (hc : Closed P) (h : P s) :
    ∀ t, execWeightWindowWrite off be val s = .next t → P t := by
  unfold execWeightWindowWrite
  repeat' first
    | with_reducible refine next_kept ?_ | with_reducible assumption | with_reducible refine State.when_kept ?_ ?_
    | with_reducible refine State.hostIn_keeps hc ?_ | split | dsimp only | intro _

theorem execPhaseTableWrite_keeps {off : Nat} {be : Nat} {val : Nat} {s : State} (hc : Closed P) (h : P s) :
    ∀ t, execPhaseTableWrite off be val s = .next t → P t := by
  unfold execPhaseTableWrite
  repeat' first
    | with_reducible refine next_kept ?_ | with_reducible assumption | with_reducible refine State.when_kept ?_ ?_
    | with_reducible refine State.hostIn_keeps hc ?_ | split | dsimp only | intro _

theorem execLockHostAcquire_keeps {i : Nat} {s : State} (hc : Closed P) (h : P s) :
    ∀ t, execLockHostAcquire i s = .next t → P t := by
  unfold execLockHostAcquire
  repeat' first
    | with_reducible refine next_kept ?_ | with_reducible assumption | with_reducible refine State.when_kept ?_ ?_
    | with_reducible refine State.hostIn_keeps hc ?_ | with_reducible refine State.lockAcquire_keeps hc ?_ | split
    | dsimp only | intro _

theorem execLockHostRelease_keeps {i : Nat} (_val : Nat) {s : State} (hc : Closed P) (h : P s) :
    ∀ t, execLockHostRelease i _val s = .next t → P t := by
  unfold execLockHostRelease
  repeat' first
    | with_reducible refine next_kept ?_ | with_reducible assumption | with_reducible refine State.when_kept ?_ ?_
    | with_reducible refine State.hostIn_keeps hc ?_ | split | dsimp only | intro _

theorem execHostDbRing_keeps {val : Nat} {s : State} (hc : Closed P) (h : P s) :
    ∀ t, execHostDbRing val s = .next t → P t := by
  unfold execHostDbRing
  repeat' first
    | with_reducible refine next_kept ?_ | with_reducible assumption | with_reducible refine State.hostIn_keeps hc ?_

theorem execIdxRead_keeps {addr : Nat} {ctl : Nat} {s : State} (hc : Closed P) (h : P s) :
    ∀ t, execIdxRead addr ctl s = .next t → P t := by
  unfold execIdxRead
  repeat' first
    | with_reducible refine next_kept ?_ | with_reducible assumption | with_reducible refine State.when_kept ?_ ?_
    | with_reducible refine State.hostIn_keeps hc ?_ | with_reducible refine State.idxRead_keeps hc ?_ | split
    | dsimp only | intro _

theorem execIdxWrite_keeps {addr : Nat} {buf : Nat} {ctl : Nat} {s : State} (hc : Closed P) (h : P s) :
    ∀ t, execIdxWrite addr buf ctl s = .next t → P t := by
  unfold execIdxWrite
  repeat' first
    | with_reducible refine next_kept ?_ | with_reducible assumption | with_reducible refine State.when_kept ?_ ?_
    | with_reducible refine State.hostIn_keeps hc ?_ | with_reducible refine State.idxWrite_keeps hc ?_ | split
    | dsimp only | intro _

theorem execIdxDone_keeps {s : State} (hc : Closed P) (h : P s) :
    ∀ t, execIdxDone s = .next t → P t := by
  unfold execIdxDone
  repeat' first
    | with_reducible refine next_kept ?_ | with_reducible assumption | with_reducible refine State.when_kept ?_ ?_
    | with_reducible refine State.decideAcc_keeps hc ?_ | split | dsimp only | intro _

theorem execExpertUnlockExpiry_keeps {s : State} (hc : Closed P) (h : P s) :
    ∀ t, execExpertUnlockExpiry s = .next t → P t := by
  unfold execExpertUnlockExpiry
  repeat' first
    | with_reducible refine next_kept ?_ | with_reducible assumption | with_reducible refine State.when_kept ?_ ?_
    | with_reducible refine State.writeUnlock_keeps hc ?_ | split | dsimp only | intro _

theorem State.takeDirective_keeps {s : State} {p : Nat} {frame : Nat} {write : Bool} (hc : Closed P) (h : P s) :
    P (State.takeDirective s p frame write) := by
  unfold State.takeDirective
  repeat' first
    | with_reducible assumption | with_reducible refine State.refuse_keeps hc ?_
    | with_reducible refine State.reply_keeps hc ?_ | with_reducible refine State.decideAcc_keeps hc ?_ | split
    | dsimp only

theorem State.frameIn_keeps {s : State} {x : NbFrame} (hc : Closed P) (h : P s) :
    P (State.frameIn s x) := by
  unfold State.frameIn
  repeat' first
    | with_reducible assumption | with_reducible refine State.receive_keeps hc ?_
    | with_reducible refine State.takeRound_keeps hc ?_ | with_reducible refine State.reply_keeps hc ?_
    | with_reducible refine State.takeDirective_keeps hc ?_ | split | dsimp only

theorem State.frameArrives_keeps {s : State} {x : NbFrame} (hc : Closed P) (h : P s) :
    P (State.frameArrives s x) := by
  unfold State.frameArrives
  repeat' first
    | with_reducible assumption | with_reducible refine State.when_kept ?_ ?_ | with_reducible refine hc.wr ?_
    | with_reducible refine State.frameIn_keeps hc ?_ | with_reducible refine State.inc_keeps hc ?_ | split
    | dsimp only | intro _ | with_reducible refine Closed.lit hc ?_

theorem State.framesOut_keeps {s : State} (hc : Closed P) (h : P s) :
    P (State.framesOut s) := by
  unfold State.framesOut
  repeat' first
    | with_reducible assumption | with_reducible refine State.each_kept ?_ ?_
    | with_reducible refine State.frameIn_keeps hc ?_ | split | dsimp only | intro _
    | with_reducible refine Closed.lit hc ?_

theorem State.syTake_keeps {s : State} {x : SyIn} (hc : Closed P) (h : P s) :
    P (State.syTake s x) := by
  unfold State.syTake
  repeat' first
    | with_reducible assumption | with_reducible refine State.quiesceAck_keeps hc ?_
    | with_reducible refine State.postStatus_keeps hc ?_ | with_reducible refine State.slackReport_keeps hc ?_ | split

theorem State.syOut_keeps {s : State} (hc : Closed P) (h : P s) :
    P (State.syOut s) := by
  unfold State.syOut
  repeat' first
    | with_reducible assumption | with_reducible refine State.each_kept ?_ ?_
    | with_reducible refine State.syTake_keeps hc ?_ | split | dsimp only | intro _
    | with_reducible refine Closed.lit hc ?_

theorem execCtlShortStopEnd_keeps {us : Nat} {s : State} (hc : Closed P) (h : P s) :
    ∀ t, execCtlShortStopEnd us s = .next t → P t := by
  unfold execCtlShortStopEnd
  repeat' first
    | with_reducible refine next_kept ?_ | with_reducible assumption | with_reducible refine State.when_kept ?_ ?_
    | with_reducible refine State.stopEnded_keeps hc ?_ | with_reducible refine State.dueRound_keeps hc ?_
    | with_reducible refine State.framesOut_keeps hc ?_ | with_reducible refine State.syOut_keeps hc ?_
    | with_reducible refine State.epOut_keeps hc ?_ | with_reducible refine State.hostHeldOut_keeps hc ?_ | split
    | dsimp only | intro _

theorem execRound_keeps {peer : Nat} {frame : Nat} {s : State} (hc : Closed P) (h : P s) :
    ∀ t, execRound peer frame s = .next t → P t := by
  unfold execRound
  repeat' first
    | with_reducible refine next_kept ?_ | with_reducible assumption | with_reducible refine State.when_kept ?_ ?_
    | with_reducible refine State.frameArrives_keeps hc ?_ | split | dsimp only | intro _

theorem execBudgetFrameDrop_keeps {peer : Nat} {beats : Nat} {err : Bool} {frame : Nat} {s : State}
    (hc : Closed P) (h : P s) :
    ∀ t, execBudgetFrameDrop peer beats err frame s = .next t → P t := by
  unfold execBudgetFrameDrop
  repeat' first
    | with_reducible refine next_kept ?_ | with_reducible assumption | with_reducible refine State.when_kept ?_ ?_
    | with_reducible refine State.frameArrives_keeps hc ?_ | split | dsimp only | intro _

theorem State.directiveIn_keeps {s : State} {p : Nat} {frame : Nat} {op : Nat} (hc : Closed P) (h : P s) :
    P (State.directiveIn s p frame op) := by
  unfold State.directiveIn
  repeat' first
    | with_reducible assumption | with_reducible refine State.when_kept ?_ ?_
    | with_reducible refine State.frameArrives_keeps hc ?_ | split | dsimp only | intro _

theorem execDirectiveRead_keeps {peer : Nat} {frame : Nat} {s : State} (hc : Closed P) (h : P s) :
    ∀ t, execDirectiveRead peer frame s = .next t → P t := by
  unfold execDirectiveRead
  repeat' first
    | with_reducible refine next_kept ?_ | with_reducible assumption
    | with_reducible refine State.directiveIn_keeps hc ?_

theorem execDirectiveWrite_keeps {peer : Nat} {frame : Nat} {s : State} (hc : Closed P) (h : P s) :
    ∀ t, execDirectiveWrite peer frame s = .next t → P t := by
  unfold execDirectiveWrite
  repeat' first
    | with_reducible refine next_kept ?_ | with_reducible assumption
    | with_reducible refine State.directiveIn_keeps hc ?_

/-! ### FieldBus -/

theorem State.fdpFilter_keeps {s : State} {q : FdpFrame} (hc : Closed P) (h : P s) :
    ∀ t, State.fdpFilter s q = some t → P t := by
  unfold State.fdpFilter
  repeat' first
    | with_reducible refine some_kept ?_ | with_reducible exact none_kept | with_reducible assumption
    | with_reducible refine State.inc_keeps hc ?_ | split | dsimp only

theorem State.fdpStatus_keeps {s : State} {q : FdpFrame} {c : Code} {aux : Nat} (hc : Closed P) (h : P s) :
    P (State.fdpStatus s q c aux) := by
  unfold State.fdpStatus
  repeat' first
    | with_reducible assumption | with_reducible refine State.when_kept ?_ ?_
    | with_reducible refine State.auditRefuse_keeps hc ?_ | with_reducible refine State.sendRsp_keeps hc ?_ | split
    | dsimp only | intro _

theorem State.dropSession_keeps {s : State} (hc : Closed P) (h : P s) :
    P (State.dropSession s) := by
  unfold State.dropSession
  repeat' first
    | with_reducible assumption | split | dsimp only | intro _ | with_reducible refine Closed.lit hc ?_

theorem State.openSession_keeps {s : State} {q : FdpFrame} (hc : Closed P) (h : P s) :
    P (State.openSession s q) := by
  unfold State.openSession
  repeat' first
    | with_reducible assumption | with_reducible refine State.fdpStatus_keeps hc ?_
    | with_reducible refine State.dropSession_keeps hc ?_ | split | dsimp only | intro _
    | with_reducible refine Closed.lit hc ?_

theorem State.nextSegment_keeps {s : State} {q : FdpFrame} (hc : Closed P) (h : P s) :
    P (State.nextSegment s q) := by
  unfold State.nextSegment
  repeat' first
    | with_reducible assumption | with_reducible refine State.fdpStatus_keeps hc ?_
    | with_reducible refine State.dropSession_keeps hc ?_ | with_reducible refine State.decideWrite_keeps hc ?_
    | split | dsimp only | intro _ | with_reducible refine Closed.lit hc ?_

theorem State.fdpWriteReq_keeps {s : State} {q : FdpFrame} (hc : Closed P) (h : P s) :
    P (State.fdpWriteReq s q) := by
  unfold State.fdpWriteReq
  repeat' first
    | with_reducible assumption | with_reducible refine State.fdpStatus_keeps hc ?_
    | with_reducible refine State.decideWrite_keeps hc ?_ | with_reducible refine State.openSession_keeps hc ?_
    | with_reducible refine State.nextSegment_keeps hc ?_ | split | dsimp only

theorem State.useFraming_keeps {s : State} (hc : Closed P) (h : P s) :
    ∀ t, State.useFraming s = some t → P t := by
  intro t ht
  unfold State.useFraming at ht
  obtain ⟨x, -, rfl⟩ := Option.map_eq_some_iff.mp ht
  split
  · exact State.endInjection_keeps hc h
  · exact Closed.lit hc h

theorem State.fdpDo_keeps {s : State} {q : FdpFrame} (hc : Closed P) (h : P s) :
    P (State.fdpDo s q) := by
  unfold State.fdpDo
  repeat' first
    | with_reducible assumption | with_reducible exact State.useFraming_keeps hc (by assumption) _ (by assumption)
    | with_reducible refine State.fdpStatus_keeps hc ?_ | with_reducible refine State.fdpWriteReq_keeps hc ?_
    | with_reducible refine State.decideRead_keeps hc ?_ | split

theorem State.fdpBusy_keeps {s : State} {q : FdpFrame} {aux : Nat} (hc : Closed P) (h : P s) :
    P (State.fdpBusy s q aux) := by
  unfold State.fdpBusy
  repeat' first
    | with_reducible assumption | with_reducible refine State.queueRead_keeps hc ?_
    | with_reducible refine State.fdpStatus_keeps hc ?_ | split

theorem State.fdpAdmit_keeps {s : State} {q : FdpFrame} (hc : Closed P) (h : P s) :
    P (State.fdpAdmit s q) := by
  unfold State.fdpAdmit
  repeat' first
    | with_reducible assumption | with_reducible refine State.inc_keeps hc ?_
    | with_reducible refine State.transmit_keeps hc ?_ | with_reducible refine State.fdpDo_keeps hc ?_ | split
    | dsimp only | intro _ | with_reducible refine Closed.lit hc ?_

theorem State.fdpLost_keeps {s : State} {q : FdpFrame} (hc : Closed P) (h : P s) :
    P (State.fdpLost s q) := by
  unfold State.fdpLost
  repeat' first
    | with_reducible assumption | with_reducible refine State.when_kept ?_ ?_
    | with_reducible refine State.auditLost_keeps hc ?_ | with_reducible refine State.fdpStatus_keeps hc ?_ | split
    | dsimp only | intro _

theorem State.fdpArrive_keeps {s : State} {q : FdpFrame} (hc : Closed P) (h : P s) :
    P (State.fdpArrive s q) := by
  unfold State.fdpArrive
  repeat' first
    | with_reducible assumption | with_reducible exact State.fdpFilter_keeps hc (by assumption) _ (by assumption)
    | with_reducible refine State.inc_keeps hc ?_ | with_reducible refine State.fdpBusy_keeps hc ?_
    | with_reducible refine State.queueRead_keeps hc ?_ | with_reducible refine State.fdpLost_keeps hc ?_
    | with_reducible refine State.fdpAdmit_keeps hc ?_ | split | dsimp only

theorem execFdpRead_keeps {q : FdpFrame} {s : State} (hc : Closed P) (h : P s) :
    ∀ t, execFdpRead q s = .next t → P t := by
  unfold execFdpRead
  repeat' first
    | with_reducible refine next_kept ?_ | with_reducible assumption | with_reducible refine State.when_kept ?_ ?_
    | with_reducible refine State.fdpArrive_keeps hc ?_ | split | dsimp only | intro _

theorem execFdpWrite_keeps {q : FdpFrame} {s : State} (hc : Closed P) (h : P s) :
    ∀ t, execFdpWrite q s = .next t → P t := by
  unfold execFdpWrite
  repeat' first
    | with_reducible refine next_kept ?_ | with_reducible assumption | with_reducible refine State.when_kept ?_ ?_
    | with_reducible refine State.fdpArrive_keeps hc ?_ | split | dsimp only | intro _

theorem execFdpMalformed_keeps {q : FdpFrame} {s : State} (hc : Closed P) (h : P s) :
    ∀ t, execFdpMalformed q s = .next t → P t := by
  unfold execFdpMalformed
  repeat' first
    | with_reducible refine next_kept ?_ | with_reducible assumption | with_reducible refine State.when_kept ?_ ?_
    | with_reducible refine State.fdpArrive_keeps hc ?_ | split | dsimp only | intro _

theorem execFdpSessionTimeout_keeps {s : State} (hc : Closed P) (h : P s) :
    ∀ t, execFdpSessionTimeout s = .next t → P t := by
  unfold execFdpSessionTimeout
  repeat' first
    | with_reducible refine next_kept ?_ | with_reducible assumption | with_reducible refine State.when_kept ?_ ?_
    | with_reducible refine State.dropSession_keeps hc ?_ | with_reducible refine State.inc_keeps hc ?_ | split
    | dsimp only | intro _

theorem execFdpResponseDrop_keeps {s : State} (hc : Closed P) (h : P s) :
    ∀ t, execFdpResponseDrop s = .next t → P t := by
  unfold execFdpResponseDrop
  repeat' first
    | with_reducible refine next_kept ?_ | with_reducible assumption | with_reducible refine State.add_keeps hc ?_
    | split | dsimp only | intro _ | with_reducible refine Closed.lit hc ?_

theorem execFbClassic_keeps {s : State} (hc : Closed P) (h : P s) :
    ∀ t, execFbClassic s = .next t → P t := by
  unfold execFbClassic
  repeat' first
    | with_reducible refine next_kept ?_ | with_reducible assumption | with_reducible refine State.inc_keeps hc ?_
    | split

theorem execFbBusOff_keeps {s : State} (hc : Closed P) (h : P s) :
    ∀ t, execFbBusOff s = .next t → P t := by
  unfold execFbBusOff
  repeat' first
    | with_reducible refine next_kept ?_ | with_reducible assumption | with_reducible refine State.when_kept ?_ ?_
    | with_reducible refine State.inc_keeps hc ?_ | with_reducible refine State.event_keeps hc ?_ | split | dsimp only
    | intro _ | with_reducible refine Closed.lit hc ?_

theorem execFbBusOffRecovery_keeps {s : State} (hc : Closed P) (h : P s) :
    ∀ t, execFbBusOffRecovery s = .next t → P t := by
  unfold execFbBusOffRecovery
  repeat' first
    | with_reducible refine next_kept ?_ | with_reducible assumption | with_reducible refine State.each_kept ?_ ?_
    | with_reducible refine State.when_kept ?_ ?_ | with_reducible refine State.transmit_keeps hc ?_ | split
    | dsimp only | intro _ | with_reducible refine Closed.lit hc ?_

/-! ### OwnRows -/

theorem execSelfResetReq_keeps {w : Wr} {s : State} (hc : Closed P) (h : P s) :
    ∀ t, execSelfResetReq w s = .next t → P t := by
  unfold execSelfResetReq
  repeat' first
    | with_reducible refine next_kept ?_ | with_reducible assumption | with_reducible refine State.submit1_keeps hc ?_

theorem execAlertAck_keeps {w : Wr} {s : State} (hc : Closed P) (h : P s) :
    ∀ t, execAlertAck w s = .next t → P t := by
  unfold execAlertAck
  repeat' first
    | with_reducible refine next_kept ?_ | with_reducible assumption | with_reducible refine State.submit1_keeps hc ?_

theorem execDomainTarget_keeps {w : Wr} {s : State} (hc : Closed P) (h : P s) :
    ∀ t, execDomainTarget w s = .next t → P t := by
  unfold execDomainTarget
  repeat' first
    | with_reducible refine next_kept ?_ | with_reducible assumption | with_reducible refine State.submit1_keeps hc ?_

theorem execRefPrefer_keeps {w : Wr} {s : State} (hc : Closed P) (h : P s) :
    ∀ t, execRefPrefer w s = .next t → P t := by
  unfold execRefPrefer
  repeat' first
    | with_reducible refine next_kept ?_ | with_reducible assumption | with_reducible refine State.submit1_keeps hc ?_

theorem execTimeSet_keeps {w : Wr} {s : State} (hc : Closed P) (h : P s) :
    ∀ t, execTimeSet w s = .next t → P t := by
  unfold execTimeSet
  repeat' first
    | with_reducible refine next_kept ?_ | with_reducible assumption | with_reducible refine State.submit1_keeps hc ?_

theorem execTimeOffsetAdj_keeps {w : Wr} {s : State} (hc : Closed P) (h : P s) :
    ∀ t, execTimeOffsetAdj w s = .next t → P t := by
  unfold execTimeOffsetAdj
  repeat' first
    | with_reducible refine next_kept ?_ | with_reducible assumption | with_reducible refine State.submit1_keeps hc ?_

theorem execAgeSampleReq_keeps {w : Wr} {s : State} (hc : Closed P) (h : P s) :
    ∀ t, execAgeSampleReq w s = .next t → P t := by
  unfold execAgeSampleReq
  repeat' first
    | with_reducible refine next_kept ?_ | with_reducible assumption | with_reducible refine State.submit1_keeps hc ?_

theorem execDsQuarantineClear_keeps {w : Wr} {s : State} (hc : Closed P) (h : P s) :
    ∀ t, execDsQuarantineClear w s = .next t → P t := by
  unfold execDsQuarantineClear
  repeat' first
    | with_reducible refine next_kept ?_ | with_reducible assumption | with_reducible refine State.submit1_keeps hc ?_

theorem execDsEnable_keeps {w : Wr} {s : State} (hc : Closed P) (h : P s) :
    ∀ t, execDsEnable w s = .next t → P t := by
  unfold execDsEnable
  repeat' first
    | with_reducible refine next_kept ?_ | with_reducible assumption | with_reducible refine State.submit1_keeps hc ?_

theorem execXingFence_keeps {w : Wr} {s : State} (hc : Closed P) (h : P s) :
    ∀ t, execXingFence w s = .next t → P t := by
  unfold execXingFence
  repeat' first
    | with_reducible refine next_kept ?_ | with_reducible assumption | with_reducible refine State.submit1_keeps hc ?_

theorem execRegionTargetN_keeps {w : Wr} {s : State} (hc : Closed P) (h : P s) :
    ∀ t, execRegionTargetN w s = .next t → P t := by
  unfold execRegionTargetN
  repeat' first
    | with_reducible refine next_kept ?_ | with_reducible assumption | with_reducible refine State.submit1_keeps hc ?_

theorem execCalResetReq_keeps {w : Wr} {s : State} (hc : Closed P) (h : P s) :
    ∀ t, execCalResetReq w s = .next t → P t := by
  unfold execCalResetReq
  repeat' first
    | with_reducible refine next_kept ?_ | with_reducible assumption | with_reducible refine State.submit1_keeps hc ?_

theorem execEstWeightFactory_keeps {w : Wr} {s : State} (hc : Closed P) (h : P s) :
    ∀ t, execEstWeightFactory w s = .next t → P t := by
  unfold execEstWeightFactory
  repeat' first
    | with_reducible refine next_kept ?_ | with_reducible assumption | with_reducible refine State.submit1_keeps hc ?_

theorem execEstShift_keeps {w : Wr} {s : State} (hc : Closed P) (h : P s) :
    ∀ t, execEstShift w s = .next t → P t := by
  unfold execEstShift
  repeat' first
    | with_reducible refine next_kept ?_ | with_reducible assumption | with_reducible refine State.submit1_keeps hc ?_

theorem execOpTable_keeps {w : Wr} {s : State} (hc : Closed P) (h : P s) :
    ∀ t, execOpTable w s = .next t → P t := by
  unfold execOpTable
  repeat' first
    | with_reducible refine next_kept ?_ | with_reducible assumption | with_reducible refine State.submit1_keeps hc ?_

theorem execFixedRateEnable_keeps {w : Wr} {s : State} (hc : Closed P) (h : P s) :
    ∀ t, execFixedRateEnable w s = .next t → P t := by
  unfold execFixedRateEnable
  repeat' first
    | with_reducible refine next_kept ?_ | with_reducible assumption | with_reducible refine State.submit1_keeps hc ?_

theorem execFixedRateN_keeps {w : Wr} {s : State} (hc : Closed P) (h : P s) :
    ∀ t, execFixedRateN w s = .next t → P t := by
  unfold execFixedRateN
  repeat' first
    | with_reducible refine next_kept ?_ | with_reducible assumption | with_reducible refine State.submit1_keeps hc ?_

theorem execGroupShare_keeps {w : Wr} {s : State} (hc : Closed P) (h : P s) :
    ∀ t, execGroupShare w s = .next t → P t := by
  unfold execGroupShare
  repeat' first
    | with_reducible refine next_kept ?_ | with_reducible assumption | with_reducible refine State.submit1_keeps hc ?_

theorem execPrClear_keeps {w : Wr} {s : State} (hc : Closed P) (h : P s) :
    ∀ t, execPrClear w s = .next t → P t := by
  unfold execPrClear
  repeat' first
    | with_reducible refine next_kept ?_ | with_reducible assumption | with_reducible refine State.submit1_keeps hc ?_

theorem execPrRearm_keeps {w : Wr} {s : State} (hc : Closed P) (h : P s) :
    ∀ t, execPrRearm w s = .next t → P t := by
  unfold execPrRearm
  repeat' first
    | with_reducible refine next_kept ?_ | with_reducible assumption | with_reducible refine State.submit1_keeps hc ?_

theorem execPrPolicy_keeps {w : Wr} {s : State} (hc : Closed P) (h : P s) :
    ∀ t, execPrPolicy w s = .next t → P t := by
  unfold execPrPolicy
  repeat' first
    | with_reducible refine next_kept ?_ | with_reducible assumption | with_reducible refine State.submit1_keeps hc ?_

theorem execBxEpochLoad_keeps {w : Wr} {s : State} (hc : Closed P) (h : P s) :
    ∀ t, execBxEpochLoad w s = .next t → P t := by
  unfold execBxEpochLoad
  repeat' first
    | with_reducible refine next_kept ?_ | with_reducible assumption | with_reducible refine State.submit1_keeps hc ?_

theorem execRegionPartition_keeps {w : Wr} {s : State} (hc : Closed P) (h : P s) :
    ∀ t, execRegionPartition w s = .next t → P t := by
  unfold execRegionPartition
  repeat' first
    | with_reducible refine next_kept ?_ | with_reducible assumption | with_reducible refine State.submit1_keeps hc ?_

theorem execReportSnapReq_keeps {w : Wr} {s : State} (hc : Closed P) (h : P s) :
    ∀ t, execReportSnapReq w s = .next t → P t := by
  unfold execReportSnapReq
  repeat' first
    | with_reducible refine next_kept ?_ | with_reducible assumption | with_reducible refine State.submit1_keeps hc ?_

theorem execRailRecover_keeps {w : Wr} {s : State} (hc : Closed P) (h : P s) :
    ∀ t, execRailRecover w s = .next t → P t := by
  unfold execRailRecover
  repeat' first
    | with_reducible refine next_kept ?_ | with_reducible assumption | with_reducible refine State.submit1_keeps hc ?_

theorem execExpertUnlock_keeps {w : Wr} {s : State} (hc : Closed P) (h : P s) :
    ∀ t, execExpertUnlock w s = .next t → P t := by
  unfold execExpertUnlock
  repeat' first
    | with_reducible refine next_kept ?_ | with_reducible assumption | with_reducible refine State.submit1_keeps hc ?_

theorem execPersistFlush_keeps {w : Wr} {s : State} (hc : Closed P) (h : P s) :
    ∀ t, execPersistFlush w s = .next t → P t := by
  unfold execPersistFlush
  repeat' first
    | with_reducible refine next_kept ?_ | with_reducible assumption | with_reducible refine State.submit1_keeps hc ?_

theorem execFnSnapReq_keeps {w : Wr} {s : State} (hc : Closed P) (h : P s) :
    ∀ t, execFnSnapReq w s = .next t → P t := by
  unfold execFnSnapReq
  repeat' first
    | with_reducible refine next_kept ?_ | with_reducible assumption | with_reducible refine State.submit1_keeps hc ?_

theorem execLcArm_keeps {w : Wr} {s : State} (hc : Closed P) (h : P s) :
    ∀ t, execLcArm w s = .next t → P t := by
  unfold execLcArm
  repeat' first
    | with_reducible refine next_kept ?_ | with_reducible assumption | with_reducible refine State.submit1_keeps hc ?_

theorem execLcRequest_keeps {w : Wr} {s : State} (hc : Closed P) (h : P s) :
    ∀ t, execLcRequest w s = .next t → P t := by
  unfold execLcRequest
  repeat' first
    | with_reducible refine next_kept ?_ | with_reducible assumption | with_reducible refine State.submit1_keeps hc ?_

theorem execFnFormatReq_keeps {w : Wr} {s : State} (hc : Closed P) (h : P s) :
    ∀ t, execFnFormatReq w s = .next t → P t := by
  unfold execFnFormatReq
  repeat' first
    | with_reducible refine next_kept ?_ | with_reducible assumption | with_reducible refine State.submit1_keeps hc ?_

theorem execRunStart_keeps {w : Wr} {s : State} (hc : Closed P) (h : P s) :
    ∀ t, execRunStart w s = .next t → P t := by
  unfold execRunStart
  repeat' first
    | with_reducible refine next_kept ?_ | with_reducible assumption | with_reducible refine State.when_kept ?_ ?_
    | with_reducible refine State.submit1_keeps hc ?_ | split | dsimp only | intro _

theorem execRunStop_keeps {w : Wr} {s : State} (hc : Closed P) (h : P s) :
    ∀ t, execRunStop w s = .next t → P t := by
  unfold execRunStop
  repeat' first
    | with_reducible refine next_kept ?_ | with_reducible assumption | with_reducible refine State.when_kept ?_ ?_
    | with_reducible refine State.submit1_keeps hc ?_ | split | dsimp only | intro _

theorem execLockForce_keeps {i : Nat} {w : Wr} {s : State} (hc : Closed P) (h : P s) :
    ∀ t, execLockForce i w s = .next t → P t := by
  unfold execLockForce
  repeat' first
    | with_reducible refine next_kept ?_ | with_reducible assumption | with_reducible refine State.when_kept ?_ ?_
    | with_reducible refine State.submitWrite_keeps hc ?_ | split | dsimp only | intro _

theorem State.inject_keeps {s : State} {p : Nat} {w : Wr} (hc : Closed P) (h : P s) :
    P (State.inject s p w) := by
  unfold State.inject
  repeat' first
    | with_reducible assumption | with_reducible refine State.when_kept ?_ ?_
    | with_reducible refine State.submit1_keeps hc ?_ | split | dsimp only | intro _

theorem execInjDsReading_keeps {w : Wr} {s : State} (hc : Closed P) (h : P s) :
    ∀ t, execInjDsReading w s = .next t → P t := by
  unfold execInjDsReading
  repeat' first
    | with_reducible refine next_kept ?_ | with_reducible assumption | with_reducible refine State.inject_keeps hc ?_

theorem execInjTsReading_keeps {w : Wr} {s : State} (hc : Closed P) (h : P s) :
    ∀ t, execInjTsReading w s = .next t → P t := by
  unfold execInjTsReading
  repeat' first
    | with_reducible refine next_kept ?_ | with_reducible assumption | with_reducible refine State.inject_keeps hc ?_

theorem execInjRefALoss_keeps {w : Wr} {s : State} (hc : Closed P) (h : P s) :
    ∀ t, execInjRefALoss w s = .next t → P t := by
  unfold execInjRefALoss
  repeat' first
    | with_reducible refine next_kept ?_ | with_reducible assumption | with_reducible refine State.inject_keeps hc ?_

theorem execInjRefBLoss_keeps {w : Wr} {s : State} (hc : Closed P) (h : P s) :
    ∀ t, execInjRefBLoss w s = .next t → P t := by
  unfold execInjRefBLoss
  repeat' first
    | with_reducible refine next_kept ?_ | with_reducible assumption | with_reducible refine State.inject_keeps hc ?_

theorem execInjSlip_keeps {w : Wr} {s : State} (hc : Closed P) (h : P s) :
    ∀ t, execInjSlip w s = .next t → P t := by
  unfold execInjSlip
  repeat' first
    | with_reducible refine next_kept ?_ | with_reducible assumption | with_reducible refine State.inject_keeps hc ?_

theorem execInjRzCrc_keeps {w : Wr} {s : State} (hc : Closed P) (h : P s) :
    ∀ t, execInjRzCrc w s = .next t → P t := by
  unfold execInjRzCrc
  repeat' first
    | with_reducible refine next_kept ?_ | with_reducible assumption | with_reducible refine State.inject_keeps hc ?_

theorem execInjFnRecord_keeps {w : Wr} {s : State} (hc : Closed P) (h : P s) :
    ∀ t, execInjFnRecord w s = .next t → P t := by
  unfold execInjFnRecord
  repeat' first
    | with_reducible refine next_kept ?_ | with_reducible assumption | with_reducible refine State.inject_keeps hc ?_

theorem execInjSramBit_keeps {w : Wr} {s : State} (hc : Closed P) (h : P s) :
    ∀ t, execInjSramBit w s = .next t → P t := by
  unfold execInjSramBit
  repeat' first
    | with_reducible refine next_kept ?_ | with_reducible assumption | with_reducible refine State.inject_keeps hc ?_

theorem execInjSpineParity_keeps {w : Wr} {s : State} (hc : Closed P) (h : P s) :
    ∀ t, execInjSpineParity w s = .next t → P t := by
  unfold execInjSpineParity
  repeat' first
    | with_reducible refine next_kept ?_ | with_reducible assumption | with_reducible refine State.inject_keeps hc ?_

theorem execInjEstOverflow_keeps {w : Wr} {s : State} (hc : Closed P) (h : P s) :
    ∀ t, execInjEstOverflow w s = .next t → P t := by
  unfold execInjEstOverflow
  repeat' first
    | with_reducible refine next_kept ?_ | with_reducible assumption | with_reducible refine State.inject_keeps hc ?_

theorem execInjFdpFraming_keeps {w : Wr} {s : State} (hc : Closed P) (h : P s) :
    ∀ t, execInjFdpFraming w s = .next t → P t := by
  unfold execInjFdpFraming
  repeat' first
    | with_reducible refine next_kept ?_ | with_reducible assumption | with_reducible refine State.inject_keeps hc ?_

theorem execInjExpired_keeps {s : State} (hc : Closed P) (h : P s) :
    ∀ t, execInjExpired s = .next t → P t := by
  unfold execInjExpired
  repeat' first
    | with_reducible refine next_kept ?_ | with_reducible assumption | with_reducible refine State.when_kept ?_ ?_
    | with_reducible refine State.endInjection_keeps hc ?_ | split | dsimp only | intro _

theorem execFieldTestExpiry_keeps {s : State} (hc : Closed P) (h : P s) :
    ∀ t, execFieldTestExpiry s = .next t → P t := by
  unfold execFieldTestExpiry
  repeat' first
    | with_reducible refine next_kept ?_ | with_reducible assumption | with_reducible refine State.when_kept ?_ ?_
    | with_reducible refine hc.wr ?_ | split | dsimp only | intro _

/-! ### ArmBase -/

theorem State.markExcluded_keeps {s : State} {n : Nat} {cause : Nat} (hc : Closed P) (h : P s) :
    P (State.markExcluded s n cause) := by
  unfold State.markExcluded
  repeat' first
    | with_reducible assumption | with_reducible refine State.when_kept ?_ ?_ | with_reducible refine hc.wr ?_
    | with_reducible refine State.setFlag_keeps hc ?_ | with_reducible refine State.dirtyNow_keeps hc ?_ | split
    | dsimp only | intro _

theorem State.markStart_keeps {s : State} {r : FReport} (hc : Closed P) (h : P s) :
    P (State.markStart s r) := by
  unfold State.markStart
  repeat' first
    | with_reducible assumption | with_reducible refine State.when_kept ?_ ?_
    | with_reducible refine State.markExcluded_keeps hc ?_ | split | dsimp only | intro _

theorem State.strike_keeps {s : State} {r : FReport} (hc : Closed P) (h : P s) :
    P (State.strike s r) := by
  unfold State.strike
  repeat' first
    | with_reducible assumption | with_reducible refine State.when_kept ?_ ?_
    | with_reducible refine State.inc_keeps hc ?_ | with_reducible refine State.markExcluded_keeps hc ?_ | split
    | dsimp only | intro _

theorem State.laterFault_keeps {s : State} {r : FReport} (hc : Closed P) (h : P s) :
    P (State.laterFault s r) := by
  unfold State.laterFault
  repeat' first
    | with_reducible assumption | with_reducible refine State.inc_keeps hc ?_
    | with_reducible refine State.event_keeps hc ?_ | with_reducible refine State.markStart_keeps hc ?_

theorem State.drainReports_keeps {s : State} (hc : Closed P) (h : P s) :
    P (State.drainReports s) := by
  unfold State.drainReports
  repeat' first
    | with_reducible assumption | with_reducible refine State.each_kept ?_ ?_
    | with_reducible refine State.laterFault_keeps hc ?_ | split | dsimp only | intro _
    | with_reducible refine Closed.lit hc ?_

theorem State.haltCells_keeps {s : State} (hc : Closed P) (h : P s) :
    P (State.haltCells s) := by
  unfold State.haltCells
  refine State.each_kept h fun _ _ ht => hc.modC ?_
  exact State.when_kept ht fun _ hu => State.addWrap_keeps hc (State.inc_keeps hc hu)

theorem State.lowerCells_keeps {s : State} (hc : Closed P) (h : P s) :
    P (State.lowerCells s) := by
  unfold State.lowerCells
  repeat' first
    | with_reducible assumption | with_reducible refine State.each_kept ?_ ?_
    | with_reducible refine State.when_kept ?_ ?_ | with_reducible refine State.modC_keeps hc ?_ | split | dsimp only
    | intro _

theorem State.haltStop_keeps {s : State} (hc : Closed P) (h : P s) :
    P (State.haltStop s) := by
  unfold State.haltStop
  repeat' first
    | with_reducible assumption | with_reducible refine State.when_kept ?_ ?_
    | with_reducible refine State.syncQreq_keeps hc ?_ | with_reducible refine State.setStop_keeps hc ?_
    | with_reducible refine State.abortStop_keeps hc ?_ | split | dsimp only | intro _
    | with_reducible refine Closed.lit hc ?_

theorem State.haltGroup_keeps {s : State} {g : Nat} (hc : Closed P) (h : P s) :
    P (State.haltGroup s g) := by
  unfold State.haltGroup
  repeat' first
    | with_reducible assumption | with_reducible refine State.abortStep_keeps hc ?_
    | with_reducible refine State.modG_keeps hc ?_ | with_reducible refine State.stopFloor_keeps hc ?_
    | with_reducible refine State.endRunReport_keeps hc ?_ | with_reducible refine State.dropNext_keeps hc ?_
    | with_reducible refine State.closeEpisode_keeps hc ?_ | with_reducible refine State.discardOcc_keeps hc ?_
    | split

theorem State.haltRegion_keeps {s : State} {n : Nat} (hc : Closed P) (h : P s) :
    P (State.haltRegion s n) := by
  unfold State.haltRegion
  repeat' first
    | with_reducible assumption | with_reducible refine hc.wr ?_ | with_reducible refine State.unpark_keeps hc ?_
    | with_reducible refine State.stopClock_keeps hc ?_ | with_reducible refine State.setOsc_keeps hc ?_
    | with_reducible refine State.loadSeed_keeps hc ?_ | with_reducible refine State.modR_keeps hc ?_
    | with_reducible refine State.modE_keeps hc ?_

theorem State.cancelInjection_keeps {s : State} (hc : Closed P) (h : P s) :
    P (State.cancelInjection s) := by
  unfold State.cancelInjection
  repeat' first
    | with_reducible assumption | with_reducible refine State.when_kept ?_ ?_
    | with_reducible refine State.endInjection_keeps hc ?_ | split | dsimp only | intro _

theorem State.haltAll_keeps {s : State} (hc : Closed P) (h : P s) :
    P (State.haltAll s) := by
  unfold State.haltAll
  repeat' first
    | with_reducible assumption | with_reducible refine State.each_kept ?_ ?_
    | with_reducible refine State.setReady_keeps hc ?_ | with_reducible refine State.haltGroup_keeps hc ?_
    | with_reducible refine State.haltStop_keeps hc ?_ | with_reducible refine State.setDuty_keeps hc ?_
    | with_reducible refine State.stopFloor_keeps hc ?_ | with_reducible refine State.closeEpisode_keeps hc ?_
    | with_reducible refine State.haltCells_keeps hc ?_ | with_reducible refine State.haltRegion_keeps hc ?_
    | with_reducible refine State.drainReports_keeps hc ?_ | with_reducible refine State.cancelInjection_keeps hc ?_
    | with_reducible refine State.showTrim_keeps hc ?_ | split | dsimp only | intro _
    | with_reducible refine Closed.lit hc ?_

theorem State.adoptGroups_keeps {s : State} (hc : Closed P) (h : P s) :
    P (State.adoptGroups s) := by
  unfold State.adoptGroups
  repeat' first
    | with_reducible assumption | with_reducible refine State.each_kept ?_ ?_ | with_reducible refine hc.wr ?_
    | with_reducible refine State.clearGconf_keeps hc ?_ | split | dsimp only | intro _

theorem State.adoptExcluded_keeps {s : State} (hc : Closed P) (h : P s) :
    P (State.adoptExcluded s) := by
  unfold State.adoptExcluded
  repeat' first
    | with_reducible assumption | with_reducible refine State.each_kept ?_ ?_ | with_reducible refine hc.wr ?_
    | with_reducible refine State.add_keeps hc ?_ | split | dsimp only | intro _

theorem State.fenceArmed_keeps {s : State} (hc : Closed P) (h : P s) :
    P (State.fenceArmed s) := by
  unfold State.fenceArmed
  repeat' first
    | with_reducible assumption | with_reducible refine State.each_kept ?_ ?_ | with_reducible refine hc.wr ?_
    | with_reducible refine State.modC_keeps hc ?_ | split | dsimp only | intro _

theorem State.relightCells_keeps {s : State} (hc : Closed P) (h : P s) :
    P (State.relightCells s) := by
  unfold State.relightCells
  repeat' first
    | with_reducible assumption | with_reducible refine State.each_kept ?_ ?_ | with_reducible refine hc.wr ?_
    | with_reducible refine State.modC_keeps hc ?_ | split | dsimp only | intro _

theorem State.armedView_keeps {s : State} (hc : Closed P) (h : P s) :
    P (State.armedView s) := by
  unfold State.armedView
  repeat' first
    | with_reducible assumption | with_reducible refine State.each_kept ?_ ?_
    | with_reducible refine State.modC_keeps hc ?_ | split | dsimp only | intro _

theorem State.armIslands_keeps {s : State} {view : State} {g : Nat} (hc : Closed P) (h : P s) :
    P (State.armIslands s view g) := by
  unfold State.armIslands
  repeat' first
    | with_reducible assumption | with_reducible refine hc.wr ?_ | with_reducible refine State.modG_keeps hc ?_

theorem State.armGroup_keeps {s : State} {g : Nat} (hc : Closed P) (h : P s) :
    P (State.armGroup s g) := by
  unfold State.armGroup
  repeat' first
    | with_reducible assumption | with_reducible refine hc.wr ?_ | with_reducible refine State.modG_keeps hc ?_
    | with_reducible refine State.loadLfsr_keeps hc ?_ | with_reducible refine State.showCeiling_keeps hc ?_

theorem State.extractSeed_keeps {s : State} {n : Nat} (hc : Closed P) (h : P s) :
    P (State.extractSeed s n) := by
  unfold State.extractSeed
  repeat' first
    | with_reducible assumption | with_reducible refine hc.wr ?_ | with_reducible refine State.free_keeps hc ?_
    | with_reducible refine State.modR_keeps hc ?_ | split

theorem State.armRegion_keeps {s : State} {n : Nat} (hc : Closed P) (h : P s) :
    P (State.armRegion s n) := by
  unfold State.armRegion
  repeat' first
    | with_reducible assumption | with_reducible refine State.when_kept ?_ ?_
    | with_reducible refine State.startRegion_keeps hc ?_ | with_reducible refine State.modR_keeps hc ?_
    | with_reducible refine State.extractSeed_keeps hc ?_ | split | dsimp only | intro _

theorem State.armClear_keeps {s : State} {n : Nat} (hc : Closed P) (h : P s) :
    P (State.armClear s n) := by
  unfold State.armClear
  repeat' first
    | with_reducible assumption | with_reducible refine State.when_kept ?_ ?_ | with_reducible refine hc.wr ?_
    | with_reducible refine State.loseBaselines_keeps hc ?_ | with_reducible refine State.modE_keeps hc ?_
    | with_reducible refine State.setFlag_keeps hc ?_ | with_reducible refine State.modR_keeps hc ?_
    | with_reducible refine State.unquarantine_keeps hc ?_ | split | dsimp only | intro _

theorem State.armField_keeps {s : State} {f : Nat} (hc : Closed P) (h : P s) :
    P (State.armField s f) := by
  unfold State.armField
  repeat' first
    | with_reducible assumption | with_reducible refine State.setDuty_keeps hc ?_
    | with_reducible refine State.modF_keeps hc ?_

theorem State.beginArm_keeps {s : State} (hc : Closed P) (h : P s) :
    P (State.beginArm s) := by
  unfold State.beginArm
  repeat' first
    | with_reducible assumption | with_reducible refine State.each_kept ?_ ?_
    | with_reducible refine State.adoptGroups_keeps hc ?_ | with_reducible refine State.adoptExcluded_keeps hc ?_
    | with_reducible refine State.armCells_keeps hc ?_ | with_reducible refine State.relightCells_keeps hc ?_
    | with_reducible refine State.fenceArmed_keeps hc ?_ | with_reducible refine State.armClear_keeps hc ?_
    | with_reducible refine State.lowerCells_keeps hc ?_ | with_reducible refine State.armRegion_keeps hc ?_
    | with_reducible refine State.armGroup_keeps hc ?_ | with_reducible refine State.armIslands_keeps hc ?_
    | with_reducible refine State.armedView_keeps hc ?_ | with_reducible refine State.armField_keeps hc ?_
    | with_reducible refine State.setFlag_keeps hc ?_ | with_reducible refine State.showTrim_keeps hc ?_
    | with_reducible refine State.setReady_keeps hc ?_ | with_reducible refine State.setStart_keeps hc ?_ | split
    | dsimp only | intro _ | with_reducible refine Closed.lit hc ?_

theorem State.clearLatch_keeps {s : State} (hc : Closed P) (h : P s) :
    P (State.clearLatch s) := by
  unfold State.clearLatch
  repeat' first
    | with_reducible assumption | with_reducible refine State.when_kept ?_ ?_ | with_reducible refine hc.wr ?_
    | with_reducible refine State.inc_keeps hc ?_ | split | dsimp only | intro _

theorem State.becomeReady_keeps {s : State} (hc : Closed P) (h : P s) :
    P (State.becomeReady s) := by
  unfold State.becomeReady
  repeat' first
    | with_reducible assumption | with_reducible refine State.when_kept ?_ ?_ | with_reducible refine hc.wr ?_
    | with_reducible refine State.drainReports_keeps hc ?_ | with_reducible refine State.clearLatch_keeps hc ?_
    | with_reducible refine State.setReady_keeps hc ?_ | with_reducible refine State.setStart_keeps hc ?_
    | with_reducible refine State.addWrap_keeps hc ?_ | with_reducible refine State.fillPlaces_keeps hc ?_ | split
    | dsimp only | intro _ | with_reducible refine Closed.lit hc ?_

/-! ### Faults -/

theorem State.latch_keeps {s : State} {r : FReport} (hc : Closed P) (h : P s) :
    P (State.latch s r) := by
  unfold State.latch
  repeat' first
    | with_reducible assumption | with_reducible refine State.each_kept ?_ ?_
    | with_reducible refine State.when_kept ?_ ?_ | with_reducible refine hc.wr ?_
    | with_reducible refine State.discardOcc_keeps hc ?_ | with_reducible refine State.faultRuns_keeps hc ?_
    | with_reducible refine State.freezeAll_keeps hc ?_ | split | dsimp only | intro _
    | with_reducible refine Closed.lit hc ?_

theorem State.jobFaultEvent_keeps {s : State} {r : FReport} (hc : Closed P) (h : P s) :
    P (State.jobFaultEvent s r) := by
  unfold State.jobFaultEvent
  repeat' first
    | with_reducible assumption | with_reducible refine State.event_keeps hc ?_

theorem State.startFailed_keeps {s : State} (hc : Closed P) (h : P s) :
    P (State.startFailed s) := by
  unfold State.startFailed
  repeat' first
    | with_reducible assumption | with_reducible refine State.setStart_keeps hc ?_
    | with_reducible refine State.event_keeps hc ?_

theorem State.armFails_keeps {s : State} (hc : Closed P) (h : P s) :
    P (State.armFails s) := by
  unfold State.armFails
  repeat' first
    | with_reducible assumption | with_reducible refine State.startFailed_keeps hc ?_ | split | dsimp only | intro _
    | with_reducible refine Closed.lit hc ?_

theorem State.armRepeat_keeps {s : State} {r : FReport} (hc : Closed P) (h : P s) :
    P (State.armRepeat s r) := by
  unfold State.armRepeat
  repeat' first
    | with_reducible assumption | with_reducible refine State.inc_keeps hc ?_
    | with_reducible refine State.event_keeps hc ?_ | with_reducible refine State.haltAll_keeps hc ?_ | split
    | dsimp only | intro _ | with_reducible refine Closed.lit hc ?_

theorem State.faultInArm_keeps {s : State} {r : FReport} {other : Bool} {first : Bool} (hc : Closed P) (h : P s) :
    P (State.faultInArm s r other first) := by
  unfold State.faultInArm
  repeat' first
    | with_reducible assumption | with_reducible refine State.when_kept ?_ ?_
    | with_reducible refine State.strike_keeps hc ?_ | with_reducible refine State.markStart_keeps hc ?_
    | with_reducible refine State.armRepeat_keeps hc ?_ | with_reducible refine State.jobFaultEvent_keeps hc ?_
    | with_reducible refine State.armFails_keeps hc ?_ | split | dsimp only | intro _

theorem State.faultOutside_keeps {s : State} {r : FReport} (hc : Closed P) (h : P s) :
    P (State.faultOutside s r) := by
  unfold State.faultOutside
  repeat' first
    | with_reducible assumption | with_reducible refine State.jobFaultEvent_keeps hc ?_
    | with_reducible refine State.strike_keeps hc ?_ | with_reducible refine State.markStart_keeps hc ?_
    | with_reducible refine State.setStart_keeps hc ?_ | with_reducible refine State.startFailed_keeps hc ?_ | split
    | dsimp only | intro _ | with_reducible refine Closed.lit hc ?_

theorem State.decideReports_keeps {s : State} {l : List FReport} (hc : Closed P) (h : P s) :
    P (State.decideReports s l) := by
  unfold State.decideReports
  repeat' first
    | with_reducible assumption | with_reducible refine State.each_kept ?_ ?_
    | with_reducible refine State.latch_keeps hc ?_ | with_reducible refine State.laterFault_keeps hc ?_
    | with_reducible refine State.faultInArm_keeps hc ?_ | with_reducible refine State.faultOutside_keeps hc ?_
    | split | dsimp only | intro _ | with_reducible refine Closed.lit hc ?_

theorem execFaultReport_keeps {k : Nat} {s : State} (hc : Closed P) (h : P s) :
    ∀ t, execFaultReport k s = .next t → P t := by
  unfold execFaultReport
  repeat' first
    | with_reducible refine next_kept ?_ | with_reducible assumption | with_reducible refine State.when_kept ?_ ?_
    | with_reducible refine State.decideReports_keeps hc ?_ | with_reducible refine State.take_keeps hc ?_ | split
    | dsimp only | intro _ | with_reducible refine Closed.lit hc ?_

theorem execFaultLine_keeps {s : State} (hc : Closed P) (h : P s) :
    ∀ t, execFaultLine s = .next t → P t := by
  unfold execFaultLine
  repeat' first
    | with_reducible refine next_kept ?_ | with_reducible assumption | with_reducible refine State.when_kept ?_ ?_
    | with_reducible refine State.freezeAll_keeps hc ?_ | split | dsimp only | intro _
    | with_reducible refine Closed.lit hc ?_

theorem execLineOnly_keeps {s : State} (hc : Closed P) (h : P s) :
    ∀ t, execLineOnly s = .next t → P t := by
  unfold execLineOnly
  repeat' first
    | with_reducible refine next_kept ?_ | with_reducible assumption | with_reducible refine State.when_kept ?_ ?_
    | with_reducible refine State.decideReports_keeps hc ?_ | split | dsimp only | intro _

theorem State.useSpineInj_keeps {s : State} (hc : Closed P) (h : P s) :
    P (State.useSpineInj s) := by
  unfold State.useSpineInj
  repeat' first
    | with_reducible assumption | with_reducible refine State.endInjection_keeps hc ?_ | split | dsimp only | intro _
    | with_reducible refine Closed.lit hc ?_

theorem State.sendAgain_keeps {s : State} {src : Nat × Nat} {dst : Nat × Nat} {m : HopMsg} {x : HopTry}
    (hc : Closed P) (h : P s) :
    P (State.sendAgain s src dst m x) := by
  unfold State.sendAgain
  repeat' first
    | with_reducible assumption | with_reducible refine State.when_kept ?_ ?_ | with_reducible refine hc.hop ?_
    | with_reducible refine State.inc_keeps hc ?_ | with_reducible refine State.useSpineInj_keeps hc ?_
    | with_reducible refine State.raiseFault_keeps hc ?_ | split | dsimp only | intro _

theorem execSpineRetransmit_keeps {src : Nat × Nat} {dst : Nat × Nat} {m : HopMsg} {x : HopTry} {s : State}
    (hc : Closed P) (h : P s) :
    ∀ t, execSpineRetransmit src dst m x s = .next t → P t := by
  unfold execSpineRetransmit
  repeat' first
    | with_reducible refine next_kept ?_ | with_reducible assumption | with_reducible refine State.when_kept ?_ ?_
    | with_reducible refine State.sendAgain_keeps hc ?_ | split | dsimp only | intro _

theorem State.giveUp_keeps {s : State} {x : RemoteAcc} (hc : Closed P) (h : P s) :
    P (State.giveUp s x) := by
  unfold State.giveUp
  repeat' first
    | with_reducible assumption | with_reducible refine State.when_kept ?_ ?_
    | with_reducible refine State.auditWrite_keeps hc ?_ | with_reducible refine State.reply_keeps hc ?_ | split
    | dsimp only | intro _

theorem State.giveUpIdx_keeps {s : State} {w : Bool} {len : Nat} (hc : Closed P) (h : P s) :
    P (State.giveUpIdx s w len) := by
  unfold State.giveUpIdx
  repeat' first
    | with_reducible assumption | with_reducible refine State.refuse_keeps hc ?_
    | with_reducible refine State.reply_keeps hc ?_ | split

theorem State.resetDictionary_keeps {s : State} (hc : Closed P) (h : P s) :
    P (State.resetDictionary s) := by
  unfold State.resetDictionary
  repeat' first
    | with_reducible assumption | with_reducible refine State.each_kept ?_ ?_
    | with_reducible refine State.when_kept ?_ ?_ | with_reducible refine State.giveUp_keeps hc ?_
    | with_reducible refine State.giveUpIdx_keeps hc ?_ | with_reducible refine State.nextRemote_keeps hc ?_
    | with_reducible refine State.hostHeldOut_keeps hc ?_ | split | dsimp only | intro _
    | with_reducible refine Closed.lit hc ?_

theorem State.functionReset_keeps {s : State} {q : Seqr} (hc : Closed P) (h : P s) :
    P (State.functionReset s q) := by
  unfold State.functionReset
  repeat' first
    | with_reducible assumption | with_reducible refine State.resetDictionary_keeps hc ?_
    | with_reducible refine State.resetFondant_keeps hc ?_ | with_reducible refine State.setFallback_keeps hc ?_
    | with_reducible refine State.inc_keeps hc ?_ | with_reducible refine State.event_keeps hc ?_ | split | dsimp only
    | intro _ | with_reducible refine Closed.lit hc ?_

theorem State.startSeqFails_keeps {s : State} (hc : Closed P) (h : P s) :
    P (State.startSeqFails s) := by
  unfold State.startSeqFails
  repeat' first
    | with_reducible assumption | with_reducible refine State.armFails_keeps hc ?_
    | with_reducible refine State.event_keeps hc ?_ | with_reducible refine State.startFailed_keeps hc ?_ | split
    | dsimp only | intro _ | with_reducible refine Closed.lit hc ?_

theorem State.seqFails_keeps {s : State} {q : Seqr} {cls : FaultClass} {elem : Nat} (hc : Closed P) (h : P s) :
    P (State.seqFails s q cls elem) := by
  unfold State.seqFails
  repeat' first
    | with_reducible assumption | with_reducible refine State.startSeqFails_keeps hc ?_
    | with_reducible refine State.fastCap_keeps hc ?_ | with_reducible refine State.raiseFault_keeps hc ?_
    | with_reducible refine State.functionReset_keeps hc ?_ | split

theorem execSeqParity_keeps {code : Nat} {elem : Nat} {s : State} (hc : Closed P) (h : P s) :
    ∀ t, execSeqParity code elem s = .next t → P t := by
  unfold execSeqParity
  repeat' first
    | with_reducible refine next_kept ?_ | with_reducible assumption | with_reducible refine State.inc_keeps hc ?_
    | with_reducible refine State.seqFails_keeps hc ?_ | split

theorem execWatchdog_keeps {x : SeqId} {us : Nat} {s : State} (hc : Closed P) (h : P s) :
    ∀ t, execWatchdog x us s = .next t → P t := by
  unfold execWatchdog
  repeat' first
    | with_reducible refine next_kept ?_ | with_reducible assumption | with_reducible refine State.when_kept ?_ ?_
    | with_reducible refine State.inc_keeps hc ?_ | with_reducible refine State.seqFails_keeps hc ?_ | split
    | dsimp only | intro _

theorem execAlertHoldExpiry_keeps {s : State} (hc : Closed P) (h : P s) :
    ∀ t, execAlertHoldExpiry s = .next t → P t := by
  unfold execAlertHoldExpiry
  repeat' first
    | with_reducible refine next_kept ?_ | with_reducible assumption | with_reducible refine State.when_kept ?_ ?_
    | with_reducible refine State.driveAlert_keeps hc ?_ | split | dsimp only | intro _
    | with_reducible refine Closed.lit hc ?_

/-! ### StartUp -/

theorem State.cutCommit_keeps {s : State} (hc : Closed P) (h : P s) :
    P (State.cutCommit s) := by
  unfold State.cutCommit
  repeat' first
    | with_reducible assumption | with_reducible refine State.free_keeps hc ?_
    | with_reducible refine State.mark_keeps hc ?_ ?_ | split | dsimp only | intro _
    | with_reducible refine Closed.lit hc ?_

theorem State.resyncAll_keeps {s : State} (hc : Closed P) (h : P s) :
    P (State.resyncAll s) := by
  unfold State.resyncAll
  repeat' first
    | with_reducible assumption | with_reducible refine State.free_keeps hc ?_
    | with_reducible refine State.add_keeps hc ?_

theorem State.wipe_keeps {s : State} {warm : Bool} (hc : Closed P) (h : P s) :
    P (State.wipe s warm) := by
  unfold State.wipe
  dsimp only
  have hk : s.cutCommit.pending = s.pending := by
    unfold State.cutCommit
    repeat' split
    all_goals rfl
  refine State.when_kept (State.when_kept (State.each_kept ?_ fun t x ht => State.modD_keeps hc ht) fun t ht => hc.wr ht)
    fun t ht => hc.wr ht
  rw [hk]
  exact hc.lit (s := { State.zero s.build with pending := s.pending }) (hc.zero h)

theorem State.warm_keeps {s : State} {cause : Nat} (hc : Closed P) (h : P s) :
    P (State.warm s cause) := by
  unfold State.warm
  repeat' first
    | with_reducible assumption | with_reducible refine State.each_kept ?_ ?_ | with_reducible refine hc.wr ?_
    | with_reducible refine State.wipe_keeps hc ?_ | with_reducible refine State.inc_keeps hc ?_ | split | dsimp only
    | intro _

theorem execColdReset_keeps {s : State} (hc : Closed P) (h : P s) :
    ∀ t, execColdReset s = .next t → P t := by
  unfold execColdReset
  repeat' first
    | with_reducible refine next_kept ?_ | with_reducible assumption | with_reducible refine State.wipe_keeps hc ?_

theorem execWarmReset_keeps {s : State} (hc : Closed P) (h : P s) :
    ∀ t, execWarmReset s = .next t → P t := by
  unfold execWarmReset
  repeat' first
    | with_reducible refine next_kept ?_ | with_reducible assumption | with_reducible refine State.warm_keeps hc ?_

theorem execSelfResetApply_keeps {s : State} (hc : Closed P) (h : P s) :
    ∀ t, execSelfResetApply s = .next t → P t := by
  unfold execSelfResetApply
  repeat' first
    | with_reducible refine next_kept ?_ | with_reducible assumption | with_reducible refine State.when_kept ?_ ?_
    | with_reducible refine State.warm_keeps hc ?_ | split | dsimp only | intro _

theorem execPowerUp_keeps {s : State} (hc : Closed P) (h : P s) :
    ∀ t, execPowerUp s = .next t → P t := by
  unfold execPowerUp
  repeat' first
    | with_reducible refine next_kept ?_ | with_reducible assumption | with_reducible refine State.when_kept ?_ ?_
    | with_reducible refine State.warm_keeps hc ?_ | with_reducible refine State.inc_keeps hc ?_
    | with_reducible refine State.addWrap_keeps hc ?_ | with_reducible refine State.setReady_keeps hc ?_
    | with_reducible refine State.driveAlert_keeps hc ?_ | with_reducible refine State.resyncAll_keeps hc ?_ | split
    | dsimp only | intro _ | with_reducible refine Closed.lit hc ?_

theorem execRefSelect_keeps {s : State} (hc : Closed P) (h : P s) :
    ∀ t, execRefSelect s = .next t → P t := by
  unfold execRefSelect
  repeat' first
    | with_reducible refine next_kept ?_ | with_reducible assumption | with_reducible refine State.when_kept ?_ ?_
    | with_reducible refine State.changeSource_keeps hc ?_ | with_reducible refine State.setReady_keeps hc ?_
    | with_reducible refine State.prefer_keeps hc ?_ | split | dsimp only | intro _

theorem State.calRegion_keeps {s : State} {meas : List CalMeas} {m : CalMeas} (hc : Closed P) (h : P s) :
    P (State.calRegion s meas m) := by
  unfold State.calRegion
  repeat' first
    | with_reducible assumption | with_reducible refine State.each_kept ?_ ?_ | with_reducible refine hc.wr ?_
    | with_reducible refine State.free_keeps hc ?_ | with_reducible refine State.modTs_keeps hc ?_ | split
    | dsimp only | intro _

theorem execColdCalibration_keeps {meas : List CalMeas} {s : State} (hc : Closed P) (h : P s) :
    ∀ t, execColdCalibration meas s = .next t → P t := by
  unfold execColdCalibration
  repeat' first
    | with_reducible refine next_kept ?_ | with_reducible assumption | with_reducible refine State.each_kept ?_ ?_
    | with_reducible refine State.when_kept ?_ ?_ | with_reducible refine State.calRegion_keeps hc ?_
    | with_reducible refine State.requestVolt_keeps hc ?_ | split | dsimp only | intro _
    | with_reducible refine Closed.lit hc ?_

theorem State.firstArm_keeps {s : State} {re : Bool} (hc : Closed P) (h : P s) :
    P (State.firstArm s re) := by
  unfold State.firstArm
  repeat' first
    | with_reducible assumption | with_reducible refine hc.wr ?_ | with_reducible refine State.beginArm_keeps hc ?_
    | split | dsimp only | intro _ | with_reducible refine Closed.lit hc ?_

theorem execOscStart_keeps {s : State} (hc : Closed P) (h : P s) :
    ∀ t, execOscStart s = .next t → P t := by
  unfold execOscStart
  repeat' first
    | with_reducible refine next_kept ?_ | with_reducible assumption | with_reducible refine State.when_kept ?_ ?_
    | with_reducible refine State.beginArm_keeps hc ?_ | with_reducible refine State.firstArm_keeps hc ?_ | split
    | dsimp only | intro _

theorem execIsoRelease_keeps {s : State} (hc : Closed P) (h : P s) :
    ∀ t, execIsoRelease s = .next t → P t := by
  unfold execIsoRelease
  repeat' first
    | with_reducible refine next_kept ?_ | with_reducible assumption | with_reducible refine State.each_kept ?_ ?_
    | with_reducible refine State.when_kept ?_ ?_ | with_reducible refine State.modD_keeps hc ?_
    | with_reducible refine State.setReady_keeps hc ?_ | split | dsimp only | intro _

theorem State.startRamp_keeps {s : State} (hc : Closed P) (h : P s) :
    P (State.startRamp s) := by
  unfold State.startRamp
  repeat' first
    | with_reducible assumption | with_reducible refine State.setStart_keeps hc ?_
    | with_reducible refine State.retargetAll_keeps hc ?_ | split | dsimp only | intro _
    | with_reducible refine Closed.lit hc ?_

theorem execStartRamp_keeps {s : State} (hc : Closed P) (h : P s) :
    ∀ t, execStartRamp s = .next t → P t := by
  unfold execStartRamp
  repeat' first
    | with_reducible refine next_kept ?_ | with_reducible assumption | with_reducible refine State.when_kept ?_ ?_
    | with_reducible refine State.startRamp_keeps hc ?_ | split | dsimp only | intro _

theorem State.jobHalt_keeps {s : State} (hc : Closed P) (h : P s) :
    P (State.jobHalt s) := by
  unfold State.jobHalt
  repeat' first
    | with_reducible assumption | with_reducible refine State.haltAll_keeps hc ?_
    | with_reducible refine State.inc_keeps hc ?_ | with_reducible refine State.jobResetMail_keeps hc ?_
    | with_reducible refine State.setStart_keeps hc ?_ | split | dsimp only | intro _
    | with_reducible refine Closed.lit hc ?_

theorem State.enterReady_keeps {s : State} (hc : Closed P) (h : P s) :
    P (State.enterReady s) := by
  unfold State.enterReady
  repeat' first
    | with_reducible assumption | with_reducible refine State.when_kept ?_ ?_
    | with_reducible refine State.becomeReady_keeps hc ?_ | with_reducible refine State.jobHalt_keeps hc ?_ | split
    | dsimp only | intro _

theorem execBlockReady_keeps {s : State} (hc : Closed P) (h : P s) :
    ∀ t, execBlockReady s = .next t → P t := by
  unfold execBlockReady
  repeat' first
    | with_reducible refine next_kept ?_ | with_reducible assumption | with_reducible refine State.when_kept ?_ ?_
    | with_reducible refine State.enterReady_keeps hc ?_ | split | dsimp only | intro _

theorem execStartupWatchdog_keeps {s : State} (hc : Closed P) (h : P s) :
    ∀ t, execStartupWatchdog s = .next t → P t := by
  unfold execStartupWatchdog
  repeat' first
    | with_reducible refine next_kept ?_ | with_reducible assumption | with_reducible refine State.when_kept ?_ ?_
    | with_reducible refine State.inc_keeps hc ?_ | with_reducible refine State.startFailed_keeps hc ?_ | split
    | dsimp only | intro _ | with_reducible refine Closed.lit hc ?_

theorem execJobResetHalt_keeps {s : State} (hc : Closed P) (h : P s) :
    ∀ t, execJobResetHalt s = .next t → P t := by
  unfold execJobResetHalt
  repeat' first
    | with_reducible refine next_kept ?_ | with_reducible assumption | with_reducible refine State.when_kept ?_ ?_
    | with_reducible refine State.jobHalt_keeps hc ?_ | split | dsimp only | intro _
    | with_reducible refine Closed.lit hc ?_

theorem State.rearmStep_keeps {s : State} (hc : Closed P) (h : P s) :
    P (State.rearmStep s) := by
  unfold State.rearmStep
  repeat' first
    | with_reducible assumption | with_reducible refine State.when_kept ?_ ?_
    | with_reducible refine State.firstArm_keeps hc ?_ | with_reducible refine State.beginArm_keeps hc ?_
    | with_reducible refine State.enterReady_keeps hc ?_ | with_reducible refine State.setReady_keeps hc ?_
    | with_reducible refine State.startRamp_keeps hc ?_ | split | dsimp only | intro _

theorem execWarmRearm_keeps {s : State} (hc : Closed P) (h : P s) :
    ∀ t, execWarmRearm s = .next t → P t := by
  unfold execWarmRearm
  repeat' first
    | with_reducible refine next_kept ?_ | with_reducible assumption
    | with_reducible refine State.rearmStep_keeps hc ?_ | split | dsimp only | intro _
    | with_reducible refine Closed.lit hc ?_

end Sys2Proof.Machine
end

