-- ==== Sys2Proof/Laws/FrameBase.lean ====
section
/-! SUPPORT. What a state may differ in from another: the objects of a set and the parts of a set. -/

set_option Elab.async false

namespace Sys2Proof.Machine
open Sys2Proof

variable {W : Obj → Prop} {Q : Part → Prop} {z : State}

/-- `t` differs from `s` within the objects `W` and the parts `Q` alone. -/
structure Fr (W : Obj → Prop) (Q : Part → Prop) (s t : State) : Prop where
  obj : ∀ o e i, ¬ W o → t.rd o e i = s.rd o e i
  build : t.build = s.build
  part : ∀ p, ¬ Q p → p.same s t

theorem Fr.refl (s : State) : Fr W Q s s := ⟨fun _ _ _ _ => rfl, rfl, fun p _ => by cases p <;> rfl⟩

theorem Part.same_trans {p : Part} {s t u : State} (h : p.same s t) (k : p.same t u) : p.same s u := by
  cases p <;> exact Eq.trans k h

/-- A record update of some parts. -/
theorem Fr.lit {t : State}
    {x0 : List Held} {x1 : Clock} {x2 : Refs} {x3 : StartUp} {x4 : FaultUnit} {x5 : Injection} {x6 : Tab Rgn}
    {x7 : Tab Est} {x8 : Tab Lane} {x9 : Tab Ts} {x10 : Tab Cell} {x11 : Tab Fld} {x12 : Tab Grp} {x13 : Tab Dom}
    {x14 : List Nat} {x15 : List Nat} {x16 : Option Nat} {x17 : Tab Link} {x18 : Tab Rail} {x19 : RegionStop}
    {x20 : Caps} {x21 : Dict} {x22 : Tab Hop} {x23 : Nat} {x24 : Tab Box} {x25 : Ports} {x26 : Energy}
    {x27 : Tab Nat} {x28 : Bx} {x29 : Idx} {x30 : Fdp} {x31 : Flash} {x32 : Fon} (h : Fr W Q z t)
    (h0 : Q .held ∨ x0 = t.held) (h1 : Q .clock ∨ x1 = t.clock) (h2 : Q .refs ∨ x2 = t.refs)
    (h3 : Q .su ∨ x3 = t.su) (h4 : Q .flt ∨ x4 = t.flt) (h5 : Q .inj ∨ x5 = t.inj) (h6 : Q .rgn ∨ x6 = t.rgn)
    (h7 : Q .est ∨ x7 = t.est) (h8 : Q .lane ∨ x8 = t.lane) (h9 : Q .ts ∨ x9 = t.ts) (h10 : Q .cell ∨ x10 = t.cell)
    (h11 : Q .fld ∨ x11 = t.fld) (h12 : Q .grp ∨ x12 = t.grp) (h13 : Q .dom ∨ x13 = t.dom)
    (h14 : Q .pdWakes ∨ x14 = t.pdWakes) (h15 : Q .pdCmds ∨ x15 = t.pdCmds) (h16 : Q .pdLast ∨ x16 = t.pdLast)
    (h17 : Q .link ∨ x17 = t.link) (h18 : Q .rail ∨ x18 = t.rail) (h19 : Q .stop ∨ x19 = t.stop)
    (h20 : Q .caps ∨ x20 = t.caps) (h21 : Q .dict ∨ x21 = t.dict) (h22 : Q .hop ∨ x22 = t.hop)
    (h23 : Q .freeN ∨ x23 = t.freeN) (h24 : Q .box ∨ x24 = t.box) (h25 : Q .ports ∨ x25 = t.ports)
    (h26 : Q .energy ∨ x26 = t.energy) (h27 : Q .phase ∨ x27 = t.phase) (h28 : Q .budget ∨ x28 = t.budget)
    (h29 : Q .idx ∨ x29 = t.idx) (h30 : Q .fdp ∨ x30 = t.fdp) (h31 : Q .flash ∨ x31 = t.flash)
    (h32 : Q .fon ∨ x32 = t.fon) :
    Fr W Q z (State.mk t.build t.objs x0 x1 x2 x3 x4 x5 x6 x7 x8 x9 x10 x11 x12 x13 x14 x15 x16 x17 x18 x19 x20 x21 x22 x23 x24
      x25 x26 x27 x28 x29 x30 x31 x32 t.pending) where
  obj o e i hw := h.obj o e i hw
  build := h.build
  part p hp := Part.same_trans (h.part p hp) (by
    cases p
    · exact h0.resolve_left hp
    · exact h1.resolve_left hp
    · exact h2.resolve_left hp
    · exact h3.resolve_left hp
    · exact h4.resolve_left hp
    · exact h5.resolve_left hp
    · exact h6.resolve_left hp
    · exact h7.resolve_left hp
    · exact h8.resolve_left hp
    · exact h9.resolve_left hp
    · exact h10.resolve_left hp
    · exact h11.resolve_left hp
    · exact h12.resolve_left hp
    · exact h13.resolve_left hp
    · exact h14.resolve_left hp
    · exact h15.resolve_left hp
    · exact h16.resolve_left hp
    · exact h17.resolve_left hp
    · exact h18.resolve_left hp
    · exact h19.resolve_left hp
    · exact h20.resolve_left hp
    · exact h21.resolve_left hp
    · exact h22.resolve_left hp
    · exact h23.resolve_left hp
    · exact h24.resolve_left hp
    · exact h25.resolve_left hp
    · exact h26.resolve_left hp
    · exact h27.resolve_left hp
    · exact h28.resolve_left hp
    · exact h29.resolve_left hp
    · exact h30.resolve_left hp
    · exact h31.resolve_left hp
    · exact h32.resolve_left hp)

theorem State.wr_frame {s : State} {o : Obj} {v e i : Nat} (hw : W o) (h : Fr W Q z s) : Fr W Q z (s.wr o v e i) where
  obj o' e' i' ho := (State.rd_wr_other s (fun hh => ho (by rw [hh]; exact hw)) v e i e' i').trans (h.obj o' e' i' ho)
  build := h.build
  part p hp := Part.same_trans (h.part p hp) (by cases p <;> rfl)

theorem State.wrInt_frame {s : State} {o : Obj} {x : Int} {e i : Nat} (hw : W o) (h : Fr W Q z s) :
    Fr W Q z (s.wrInt o x e i) := State.wr_frame hw h
theorem State.wrSat_frame {s : State} {o : Obj} {x : Int} {e i : Nat} (hw : W o) (h : Fr W Q z s) :
    Fr W Q z (s.wrSat o x e i) := State.wr_frame hw h
theorem State.add_frame {s : State} {o : Obj} {n e i : Nat} (hw : W o) (h : Fr W Q z s) :
    Fr W Q z (s.add o n e i) := State.wr_frame hw h
theorem State.addWrap_frame {s : State} {o : Obj} {n e i : Nat} (hw : W o) (h : Fr W Q z s) :
    Fr W Q z (s.addWrap o n e i) := State.wr_frame hw h
theorem State.inc_frame {s : State} {o : Obj} {e i : Nat} (hw : W o) (h : Fr W Q z s) :
    Fr W Q z (s.inc o e i) := State.wr_frame hw h
theorem State.setFlag_frame {s : State} {o : Obj} {b : Nat} {v : Bool} {e : Nat} (hw : W o) (h : Fr W Q z s) :
    Fr W Q z (s.setFlag o b v e) := State.wr_frame hw h
theorem State.wrBytes_frame {s : State} {o : Obj} {e off len x : Nat} (hw : W o) (h : Fr W Q z s) :
    Fr W Q z (s.wrBytes o e off len x) := State.wr_frame hw h

theorem State.modR_frame {s : State} {n : Nat} {f : Rgn → Rgn} (hq : Q .rgn) (h : Fr W Q z s) :
    Fr W Q z (s.modR n f) :=
  Fr.lit h (.inr rfl) (.inr rfl) (.inr rfl) (.inr rfl) (.inr rfl) (.inr rfl) (.inl hq) (.inr rfl) (.inr rfl) (.inr rfl) (.inr rfl) (.inr rfl) (.inr rfl) (.inr rfl) (.inr rfl) (.inr rfl) (.inr rfl) (.inr rfl) (.inr rfl) (.inr rfl) (.inr rfl) (.inr rfl) (.inr rfl) (.inr rfl) (.inr rfl) (.inr rfl) (.inr rfl) (.inr rfl) (.inr rfl) (.inr rfl) (.inr rfl) (.inr rfl) (.inr rfl)
theorem State.modE_frame {s : State} {n : Nat} {f : Est → Est} (hq : Q .est) (h : Fr W Q z s) :
    Fr W Q z (s.modE n f) :=
  Fr.lit h (.inr rfl) (.inr rfl) (.inr rfl) (.inr rfl) (.inr rfl) (.inr rfl) (.inr rfl) (.inl hq) (.inr rfl) (.inr rfl) (.inr rfl) (.inr rfl) (.inr rfl) (.inr rfl) (.inr rfl) (.inr rfl) (.inr rfl) (.inr rfl) (.inr rfl) (.inr rfl) (.inr rfl) (.inr rfl) (.inr rfl) (.inr rfl) (.inr rfl) (.inr rfl) (.inr rfl) (.inr rfl) (.inr rfl) (.inr rfl) (.inr rfl) (.inr rfl) (.inr rfl)
theorem State.modLn_frame {s : State} {n i : Nat} {f : Lane → Lane} (hq : Q .lane) (h : Fr W Q z s) :
    Fr W Q z (s.modLn n i f) :=
  Fr.lit h (.inr rfl) (.inr rfl) (.inr rfl) (.inr rfl) (.inr rfl) (.inr rfl) (.inr rfl) (.inr rfl) (.inl hq) (.inr rfl) (.inr rfl) (.inr rfl) (.inr rfl) (.inr rfl) (.inr rfl) (.inr rfl) (.inr rfl) (.inr rfl) (.inr rfl) (.inr rfl) (.inr rfl) (.inr rfl) (.inr rfl) (.inr rfl) (.inr rfl) (.inr rfl) (.inr rfl) (.inr rfl) (.inr rfl) (.inr rfl) (.inr rfl) (.inr rfl) (.inr rfl)
theorem State.modTs_frame {s : State} {n i : Nat} {f : Ts → Ts} (hq : Q .ts) (h : Fr W Q z s) :
    Fr W Q z (s.modTs n i f) :=
  Fr.lit h (.inr rfl) (.inr rfl) (.inr rfl) (.inr rfl) (.inr rfl) (.inr rfl) (.inr rfl) (.inr rfl) (.inr rfl) (.inl hq) (.inr rfl) (.inr rfl) (.inr rfl) (.inr rfl) (.inr rfl) (.inr rfl) (.inr rfl) (.inr rfl) (.inr rfl) (.inr rfl) (.inr rfl) (.inr rfl) (.inr rfl) (.inr rfl) (.inr rfl) (.inr rfl) (.inr rfl) (.inr rfl) (.inr rfl) (.inr rfl) (.inr rfl) (.inr rfl) (.inr rfl)
theorem State.modC_frame {s : State} {n i : Nat} {f : Cell → Cell} (hq : Q .cell) (h : Fr W Q z s) :
    Fr W Q z (s.modC n i f) :=
  Fr.lit h (.inr rfl) (.inr rfl) (.inr rfl) (.inr rfl) (.inr rfl) (.inr rfl) (.inr rfl) (.inr rfl) (.inr rfl) (.inr rfl) (.inl hq) (.inr rfl) (.inr rfl) (.inr rfl) (.inr rfl) (.inr rfl) (.inr rfl) (.inr rfl) (.inr rfl) (.inr rfl) (.inr rfl) (.inr rfl) (.inr rfl) (.inr rfl) (.inr rfl) (.inr rfl) (.inr rfl) (.inr rfl) (.inr rfl) (.inr rfl) (.inr rfl) (.inr rfl) (.inr rfl)
theorem State.modF_frame {s : State} {n : Nat} {f : Fld → Fld} (hq : Q .fld) (h : Fr W Q z s) :
    Fr W Q z (s.modF n f) :=
  Fr.lit h (.inr rfl) (.inr rfl) (.inr rfl) (.inr rfl) (.inr rfl) (.inr rfl) (.inr rfl) (.inr rfl) (.inr rfl) (.inr rfl) (.inr rfl) (.inl hq) (.inr rfl) (.inr rfl) (.inr rfl) (.inr rfl) (.inr rfl) (.inr rfl) (.inr rfl) (.inr rfl) (.inr rfl) (.inr rfl) (.inr rfl) (.inr rfl) (.inr rfl) (.inr rfl) (.inr rfl) (.inr rfl) (.inr rfl) (.inr rfl) (.inr rfl) (.inr rfl) (.inr rfl)
theorem State.modG_frame {s : State} {n : Nat} {f : Grp → Grp} (hq : Q .grp) (h : Fr W Q z s) :
    Fr W Q z (s.modG n f) :=
  Fr.lit h (.inr rfl) (.inr rfl) (.inr rfl) (.inr rfl) (.inr rfl) (.inr rfl) (.inr rfl) (.inr rfl) (.inr rfl) (.inr rfl) (.inr rfl) (.inr rfl) (.inl hq) (.inr rfl) (.inr rfl) (.inr rfl) (.inr rfl) (.inr rfl) (.inr rfl) (.inr rfl) (.inr rfl) (.inr rfl) (.inr rfl) (.inr rfl) (.inr rfl) (.inr rfl) (.inr rfl) (.inr rfl) (.inr rfl) (.inr rfl) (.inr rfl) (.inr rfl) (.inr rfl)
theorem State.modD_frame {s : State} {n : Nat} {f : Dom → Dom} (hq : Q .dom) (h : Fr W Q z s) :
    Fr W Q z (s.modD n f) :=
  Fr.lit h (.inr rfl) (.inr rfl) (.inr rfl) (.inr rfl) (.inr rfl) (.inr rfl) (.inr rfl) (.inr rfl) (.inr rfl) (.inr rfl) (.inr rfl) (.inr rfl) (.inr rfl) (.inl hq) (.inr rfl) (.inr rfl) (.inr rfl) (.inr rfl) (.inr rfl) (.inr rfl) (.inr rfl) (.inr rfl) (.inr rfl) (.inr rfl) (.inr rfl) (.inr rfl) (.inr rfl) (.inr rfl) (.inr rfl) (.inr rfl) (.inr rfl) (.inr rfl) (.inr rfl)
theorem State.modL_frame {s : State} {n : Nat} {f : Link → Link} (hq : Q .link) (h : Fr W Q z s) :
    Fr W Q z (s.modL n f) :=
  Fr.lit h (.inr rfl) (.inr rfl) (.inr rfl) (.inr rfl) (.inr rfl) (.inr rfl) (.inr rfl) (.inr rfl) (.inr rfl) (.inr rfl) (.inr rfl) (.inr rfl) (.inr rfl) (.inr rfl) (.inr rfl) (.inr rfl) (.inr rfl) (.inl hq) (.inr rfl) (.inr rfl) (.inr rfl) (.inr rfl) (.inr rfl) (.inr rfl) (.inr rfl) (.inr rfl) (.inr rfl) (.inr rfl) (.inr rfl) (.inr rfl) (.inr rfl) (.inr rfl) (.inr rfl)
theorem State.modRa_frame {s : State} {n : Nat} {f : Rail → Rail} (hq : Q .rail) (h : Fr W Q z s) :
    Fr W Q z (s.modRa n f) :=
  Fr.lit h (.inr rfl) (.inr rfl) (.inr rfl) (.inr rfl) (.inr rfl) (.inr rfl) (.inr rfl) (.inr rfl) (.inr rfl) (.inr rfl) (.inr rfl) (.inr rfl) (.inr rfl) (.inr rfl) (.inr rfl) (.inr rfl) (.inr rfl) (.inr rfl) (.inl hq) (.inr rfl) (.inr rfl) (.inr rfl) (.inr rfl) (.inr rfl) (.inr rfl) (.inr rfl) (.inr rfl) (.inr rfl) (.inr rfl) (.inr rfl) (.inr rfl) (.inr rfl) (.inr rfl)
theorem State.modBx_frame {s : State} {n : Nat} {f : Box → Box} (hq : Q .box) (h : Fr W Q z s) :
    Fr W Q z (s.modBx n f) :=
  Fr.lit h (.inr rfl) (.inr rfl) (.inr rfl) (.inr rfl) (.inr rfl) (.inr rfl) (.inr rfl) (.inr rfl) (.inr rfl) (.inr rfl) (.inr rfl) (.inr rfl) (.inr rfl) (.inr rfl) (.inr rfl) (.inr rfl) (.inr rfl) (.inr rfl) (.inr rfl) (.inr rfl) (.inr rfl) (.inr rfl) (.inr rfl) (.inr rfl) (.inl hq) (.inr rfl) (.inr rfl) (.inr rfl) (.inr rfl) (.inr rfl) (.inr rfl) (.inr rfl) (.inr rfl)
/-- One of the two references' error objects. -/
theorem refErr_in {b : Bool} (ha : W .REF_A_ERR) (hb : W .REF_B_ERR) : W (refErr b) := by
  cases b
  · exact ha
  · exact hb

theorem State.holdOld_frame {s : State} {o : Obj} {k e i : Nat} (hq : Q .held) (h : Fr W Q z s) :
    Fr W Q z (s.holdOld o k e i) :=
  Fr.lit h (.inl hq) (.inr rfl) (.inr rfl) (.inr rfl) (.inr rfl) (.inr rfl) (.inr rfl) (.inr rfl) (.inr rfl) (.inr rfl) (.inr rfl) (.inr rfl) (.inr rfl) (.inr rfl) (.inr rfl) (.inr rfl) (.inr rfl) (.inr rfl) (.inr rfl) (.inr rfl) (.inr rfl) (.inr rfl) (.inr rfl) (.inr rfl) (.inr rfl) (.inr rfl) (.inr rfl) (.inr rfl) (.inr rfl) (.inr rfl) (.inr rfl) (.inr rfl) (.inr rfl)
theorem State.newSpans_frame {s : State} (hq : Q .held) (h : Fr W Q z s) : Fr W Q z s.newSpans :=
  Fr.lit h (.inl hq) (.inr rfl) (.inr rfl) (.inr rfl) (.inr rfl) (.inr rfl) (.inr rfl) (.inr rfl) (.inr rfl) (.inr rfl) (.inr rfl) (.inr rfl) (.inr rfl) (.inr rfl) (.inr rfl) (.inr rfl) (.inr rfl) (.inr rfl) (.inr rfl) (.inr rfl) (.inr rfl) (.inr rfl) (.inr rfl) (.inr rfl) (.inr rfl) (.inr rfl) (.inr rfl) (.inr rfl) (.inr rfl) (.inr rfl) (.inr rfl) (.inr rfl) (.inr rfl)
theorem State.wrHeld_frame {s : State} {o : Obj} {v e i : Nat} (hw : W o) (hq : Q .held) (h : Fr W Q z s) :
    Fr W Q z (s.wrHeld o v e i) := by
  unfold State.wrHeld
  split
  · exact State.wr_frame hw (State.holdOld_frame hq h)
  · exact State.wr_frame hw h

theorem State.free_frame {s : State} {a b : Nat} (hq : Q .freeN) (h : Fr W Q z s) :
    Fr W Q z (s.free a b).2 :=
  Fr.lit h (.inr rfl) (.inr rfl) (.inr rfl) (.inr rfl) (.inr rfl) (.inr rfl) (.inr rfl) (.inr rfl) (.inr rfl) (.inr rfl) (.inr rfl) (.inr rfl) (.inr rfl) (.inr rfl) (.inr rfl) (.inr rfl) (.inr rfl) (.inr rfl) (.inr rfl) (.inr rfl) (.inr rfl) (.inr rfl) (.inr rfl) (.inl hq) (.inr rfl) (.inr rfl) (.inr rfl) (.inr rfl) (.inr rfl) (.inr rfl) (.inr rfl) (.inr rfl) (.inr rfl)


end Sys2Proof.Machine
end

