-- ==== Sys2Proof/Laws/FrameA.lean ====
section
/-! SUPPORT. Flags, oscillators, lanes, limits, crossings, regions and changes: the objects and parts each operation may change. -/

set_option Elab.async false

namespace Sys2Proof.Machine
open Sys2Proof

variable {W : Obj → Prop} {Q : Part → Prop} {z : State}

/-! ### Flags -/

theorem State.setReady_frame {s : State} {r : Rdy} {v : Bool} (wUNIT_READY : W .UNIT_READY) (h : Fr W Q z s) :
    Fr W Q z (State.setReady s r v) := by
  unfold State.setReady
  repeat' first
    | with_reducible assumption | with_reducible apply State.setFlag_frame

theorem State.setStart_frame {s : State} {x : Start} (wSTART_STATE : W .START_STATE) (h : Fr W Q z s) :
    Fr W Q z (State.setStart s x) := by
  unfold State.setStart
  repeat' first
    | with_reducible assumption | with_reducible apply State.wr_frame

theorem State.driveAlert_frame {s : State} (qflt : Q .flt) (h : Fr W Q z s) :
    Fr W Q z (State.driveAlert s) := by
  unfold State.driveAlert
  repeat' first
    | with_reducible assumption | split | dsimp only | intro _ | with_reducible apply Fr.lit
    | with_reducible exact Or.inl (by assumption) | with_reducible exact Or.inr rfl

theorem State.alert_frame {s : State} {cat : Nat} (wALERT_STATUS : W .ALERT_STATUS) (qflt : Q .flt)
    (h : Fr W Q z s) :
    Fr W Q z (State.alert s cat) := by
  unfold State.alert
  repeat' first
    | with_reducible assumption | with_reducible apply State.setFlag_frame
    | with_reducible apply State.driveAlert_frame

theorem State.event_frame {s : State} {code : Nat} {elem : Nat} {data : Nat} {injected : Bool}
    (wALERT_STATUS : W .ALERT_STATUS) (wEVENT_NEXT : W .EVENT_NEXT) (wEVENT_OVERWRITTEN : W .EVENT_OVERWRITTEN)
    (wEVENT_PAGE : W .EVENT_PAGE) (wEVENT_SEQ : W .EVENT_SEQ) (qflt : Q .flt) (h : Fr W Q z s) :
    Fr W Q z (State.event s code elem data injected) := by
  unfold State.event
  repeat' first
    | with_reducible assumption | with_reducible refine State.when_kept ?_ ?_ | with_reducible apply State.wr_frame
    | with_reducible apply State.inc_frame | with_reducible apply State.addWrap_frame
    | with_reducible apply State.alert_frame | split | dsimp only | intro _ | with_reducible apply Fr.lit
    | with_reducible exact Or.inl (by assumption) | with_reducible exact Or.inr rfl

theorem State.dropNext_frame {s : State} {g : Nat} (wPR_NEXT_TAG : W .PR_NEXT_TAG) (qgrp : Q .grp)
    (h : Fr W Q z s) :
    Fr W Q z (State.dropNext s g) := by
  unfold State.dropNext
  repeat' first
    | with_reducible assumption | with_reducible apply State.modG_frame | with_reducible apply State.wr_frame

theorem State.markRuns_frame {s : State} {gs : List Nat} {b : Nat} (wRUN_STATUS : W .RUN_STATUS)
    (h : Fr W Q z s) :
    Fr W Q z (State.markRuns s gs b) := by
  unfold State.markRuns
  repeat' first
    | with_reducible assumption | with_reducible refine State.each_kept ?_ ?_
    | with_reducible apply State.setFlag_frame | split | dsimp only | intro _

theorem State.faultRuns_frame {s : State} (qgrp : Q .grp) (h : Fr W Q z s) :
    Fr W Q z (State.faultRuns s) := by
  unfold State.faultRuns
  repeat' first
    | with_reducible assumption | with_reducible refine State.each_kept ?_ ?_ | with_reducible apply State.modG_frame
    | split | dsimp only | intro _

theorem State.noteFixed_frame {s : State} {g : Nat} (qgrp : Q .grp) (h : Fr W Q z s) :
    Fr W Q z (State.noteFixed s g) := by
  unfold State.noteFixed
  repeat' first
    | with_reducible assumption | with_reducible apply State.modG_frame

theorem State.dirty_frame {s : State} {o : Obj} {e : Nat} {i : Nat} (qdict : Q .dict) (h : Fr W Q z s) :
    Fr W Q z (State.dirty s o e i) := by
  unfold State.dirty
  repeat' first
    | with_reducible assumption | split | dsimp only | intro _ | with_reducible apply Fr.lit
    | with_reducible exact Or.inl (by assumption) | with_reducible exact Or.inr rfl

theorem State.dirtyNow_frame {s : State} {o : Obj} {e : Nat} (qdict : Q .dict) (h : Fr W Q z s) :
    Fr W Q z (State.dirtyNow s o e) := by
  unfold State.dirtyNow
  repeat' first
    | with_reducible assumption | with_reducible apply State.dirty_frame | split | dsimp only | intro _
    | with_reducible apply Fr.lit | with_reducible exact Or.inl (by assumption) | with_reducible exact Or.inr rfl

theorem State.syHold_frame {s : State} {x : SyIn} (qports : Q .ports) (h : Fr W Q z s) :
    Fr W Q z (State.syHold s x) := by
  unfold State.syHold
  repeat' first
    | with_reducible assumption | split | dsimp only | intro _ | with_reducible apply Fr.lit
    | with_reducible exact Or.inl (by assumption) | with_reducible exact Or.inr rfl

theorem State.raiseFault_frame {s : State} {cls : FaultClass} {unit : Nat} {elem : Nat} {detail : Nat}
    {injected : Bool} (qflt : Q .flt) (h : Fr W Q z s) :
    Fr W Q z (State.raiseFault s cls unit elem detail injected) := by
  unfold State.raiseFault
  repeat' first
    | with_reducible assumption | split | dsimp only | intro _ | with_reducible apply Fr.lit
    | with_reducible exact Or.inl (by assumption) | with_reducible exact Or.inr rfl

theorem State.spoil_frame {s : State} {g : Nat} (qgrp : Q .grp) (h : Fr W Q z s) :
    Fr W Q z (State.spoil s g) := by
  unfold State.spoil
  repeat' first
    | with_reducible assumption | with_reducible apply State.modG_frame

theorem State.unobserve_frame {s : State} {g : Nat} (qgrp : Q .grp) (h : Fr W Q z s) :
    Fr W Q z (State.unobserve s g) := by
  unfold State.unobserve
  repeat' first
    | with_reducible assumption | with_reducible apply State.modG_frame

theorem State.discardOcc_frame {s : State} {g : Nat} (wPR_CUR_TAG : W .PR_CUR_TAG)
    (wPR_DISCARDED : W .PR_DISCARDED) (qgrp : Q .grp) (h : Fr W Q z s) :
    Fr W Q z (State.discardOcc s g) := by
  unfold State.discardOcc
  repeat' first
    | with_reducible assumption | with_reducible apply State.modG_frame | with_reducible apply State.inc_frame
    | with_reducible apply State.wr_frame | split

theorem State.endInjection_frame {s : State} {result : Nat} (wINJ_ARM : W .INJ_ARM) (wINJ_COUNT : W .INJ_COUNT)
    (wINJ_RESULT : W .INJ_RESULT) (qflt : Q .flt) (qinj : Q .inj) (h : Fr W Q z s) :
    Fr W Q z (State.endInjection s result) := by
  unfold State.endInjection
  repeat' first
    | with_reducible assumption | with_reducible refine State.when_kept ?_ ?_ | with_reducible apply State.wr_frame
    | with_reducible apply State.inc_frame | split | dsimp only | intro _ | with_reducible apply Fr.lit
    | with_reducible exact Or.inl (by assumption) | with_reducible exact Or.inr rfl

theorem State.sramRead_frame {s : State} {k : Sram} {el : Nat} {w : Nat} (wINJ_ARM : W .INJ_ARM)
    (wINJ_COUNT : W .INJ_COUNT) (wINJ_RESULT : W .INJ_RESULT) (wSRAM_CE : W .SRAM_CE) (wSRAM_UE : W .SRAM_UE)
    (qflt : Q .flt) (qinj : Q .inj) (h : Fr W Q z s) :
    Fr W Q z (State.sramRead s k el w).2 := by
  unfold State.sramRead
  repeat' first
    | with_reducible assumption | with_reducible apply State.inc_frame | with_reducible apply State.endInjection_frame
    | split | dsimp only | intro _ | with_reducible apply Fr.lit | with_reducible exact Or.inl (by assumption)
    | with_reducible exact Or.inr rfl

theorem State.sramLost_frame {s : State} {k : Sram} {unit : Nat} {elem : Nat} (wALERT_STATUS : W .ALERT_STATUS)
    (wEVENT_NEXT : W .EVENT_NEXT) (wEVENT_OVERWRITTEN : W .EVENT_OVERWRITTEN) (wEVENT_PAGE : W .EVENT_PAGE)
    (wEVENT_SEQ : W .EVENT_SEQ) (qflt : Q .flt) (h : Fr W Q z s) :
    Fr W Q z (State.sramLost s k unit elem) := by
  unfold State.sramLost
  repeat' first
    | with_reducible assumption | with_reducible apply State.raiseFault_frame | with_reducible apply State.event_frame
    | split

theorem State.readFlips_frame {s : State} {sel : Flip → Bool} {lost : State → Flip → State}
    (wINJ_ARM : W .INJ_ARM) (wINJ_COUNT : W .INJ_COUNT) (wINJ_RESULT : W .INJ_RESULT) (wSRAM_CE : W .SRAM_CE)
    (wSRAM_UE : W .SRAM_UE) (qflt : Q .flt) (qinj : Q .inj) (h : Fr W Q z s)
    (h_lost : ∀ t y, Fr W Q z t → Fr W Q z (lost t y)) :
    Fr W Q z (State.readFlips s sel lost).2 := by
  unfold State.readFlips
  repeat' first
    | with_reducible assumption | with_reducible apply h_lost | with_reducible refine State.each_kept ?_ ?_
    | with_reducible refine State.when_kept ?_ ?_ | with_reducible apply State.sramRead_frame | split | dsimp only
    | intro _

theorem State.shiftWords_frame {s : State} {k : Sram} {base : Nat} (qinj : Q .inj) (h : Fr W Q z s) :
    Fr W Q z (State.shiftWords s k base) := by
  unfold State.shiftWords
  repeat' first
    | with_reducible assumption | split | dsimp only | intro _ | with_reducible apply Fr.lit
    | with_reducible exact Or.inl (by assumption) | with_reducible exact Or.inr rfl

theorem State.queueRead_frame {s : State} {q : Nat} (wALERT_STATUS : W .ALERT_STATUS)
    (wEVENT_NEXT : W .EVENT_NEXT) (wEVENT_OVERWRITTEN : W .EVENT_OVERWRITTEN) (wEVENT_PAGE : W .EVENT_PAGE)
    (wEVENT_SEQ : W .EVENT_SEQ) (wINJ_ARM : W .INJ_ARM) (wINJ_COUNT : W .INJ_COUNT) (wINJ_RESULT : W .INJ_RESULT)
    (wSRAM_CE : W .SRAM_CE) (wSRAM_UE : W .SRAM_UE) (qflt : Q .flt) (qinj : Q .inj) (h : Fr W Q z s) :
    Fr W Q z (State.queueRead s q).2 := by
  unfold State.queueRead
  repeat' first
    | with_reducible assumption | with_reducible refine State.when_kept ?_ ?_
    | with_reducible apply State.sramRead_frame | with_reducible apply State.shiftWords_frame
    | with_reducible apply State.sramLost_frame | split | dsimp only | intro _

/-! ### Osc -/

theorem State.setOsc_frame {s : State} {n : Nat} {b : OscBit} {v : Bool} (wOSC_STATUS : W .OSC_STATUS)
    (h : Fr W Q z s) :
    Fr W Q z (State.setOsc s n b v) := by
  unfold State.setOsc
  repeat' first
    | with_reducible assumption | with_reducible apply State.setFlag_frame

theorem State.holdCurve_frame {s : State} {n : Nat} {old : Nat} (qrgn : Q .rgn) (h : Fr W Q z s) :
    Fr W Q z (State.holdCurve s n old) := by
  unfold State.holdCurve
  repeat' first
    | with_reducible assumption | with_reducible apply State.modR_frame

theorem State.loadSeed_frame {s : State} {n : Nat} {ratio : Nat} (wOSC_CODE : W .OSC_CODE)
    (wOSC_STATUS : W .OSC_STATUS) (wOSC_TARGET_N : W .OSC_TARGET_N) (qrgn : Q .rgn) (h : Fr W Q z s) :
    Fr W Q z (State.loadSeed s n ratio) := by
  unfold State.loadSeed
  repeat' first
    | with_reducible assumption | with_reducible apply State.modR_frame | with_reducible apply State.setOsc_frame
    | with_reducible apply State.wr_frame

theorem State.showNoTether_frame {s : State} {n : Nat} (wTETHER_STATUS : W .TETHER_STATUS) (h : Fr W Q z s) :
    Fr W Q z (State.showNoTether s n) := by
  unfold State.showNoTether
  repeat' first
    | with_reducible assumption | with_reducible apply State.wr_frame

theorem State.clearTether_frame {s : State} {n : Nat} (wSLIP : W .SLIP) (wTETHER_STATUS : W .TETHER_STATUS)
    (h : Fr W Q z s) :
    Fr W Q z (State.clearTether s n) := by
  unfold State.clearTether
  repeat' first
    | with_reducible assumption | with_reducible refine State.each_kept ?_ ?_
    | with_reducible apply State.showNoTether_frame | with_reducible apply State.wr_frame | split | dsimp only
    | intro _

theorem State.startHold_frame {s : State} {n : Nat} (wOSC_STATUS : W .OSC_STATUS) (qrgn : Q .rgn)
    (h : Fr W Q z s) :
    Fr W Q z (State.startHold s n) := by
  unfold State.startHold
  repeat' first
    | with_reducible assumption | with_reducible apply State.setOsc_frame | with_reducible apply State.modR_frame

theorem State.startRegion_frame {s : State} {n : Nat} {ratio : Nat} (wOSC_CODE : W .OSC_CODE)
    (wOSC_PERMIT_MAX : W .OSC_PERMIT_MAX) (wOSC_STATUS : W .OSC_STATUS) (wOSC_TARGET_N : W .OSC_TARGET_N)
    (wREGION_COUNT : W .REGION_COUNT) (wSLIP : W .SLIP) (wTETHER_STATUS : W .TETHER_STATUS) (qrgn : Q .rgn)
    (h : Fr W Q z s) :
    Fr W Q z (State.startRegion s n ratio) := by
  unfold State.startRegion
  repeat' first
    | with_reducible assumption | with_reducible apply State.wr_frame | with_reducible apply State.modR_frame
    | with_reducible apply State.startHold_frame | with_reducible apply State.clearTether_frame
    | with_reducible apply State.loadSeed_frame | with_reducible apply State.setOsc_frame

theorem State.stopClock_frame {s : State} {n : Nat} (wDS_STATUS : W .DS_STATUS) (wOSC_STATUS : W .OSC_STATUS)
    (wSLIP : W .SLIP) (wTETHER_STATUS : W .TETHER_STATUS) (qrgn : Q .rgn) (h : Fr W Q z s) :
    Fr W Q z (State.stopClock s n) := by
  unfold State.stopClock
  repeat' first
    | with_reducible assumption | with_reducible apply State.setOsc_frame | with_reducible apply State.setFlag_frame
    | with_reducible apply State.clearTether_frame | with_reducible apply State.modR_frame

theorem State.releaseCount_frame {s : State} {n : Nat} (wOSC_STATUS : W .OSC_STATUS)
    (wREGION_COUNT : W .REGION_COUNT) (qrgn : Q .rgn) (h : Fr W Q z s) :
    Fr W Q z (State.releaseCount s n) := by
  unfold State.releaseCount
  repeat' first
    | with_reducible assumption | with_reducible apply State.setOsc_frame | with_reducible apply State.wr_frame
    | with_reducible apply State.modR_frame

theorem State.holdFll_frame {s : State} {n : Nat} {gates : Nat} (wOSC_STATUS : W .OSC_STATUS) (qrgn : Q .rgn)
    (h : Fr W Q z s) :
    Fr W Q z (State.holdFll s n gates) := by
  unfold State.holdFll
  repeat' first
    | with_reducible assumption | with_reducible apply State.setOsc_frame | with_reducible apply State.modR_frame

theorem State.unholdFll_frame {s : State} {n : Nat} (wOSC_STATUS : W .OSC_STATUS) (qrgn : Q .rgn)
    (h : Fr W Q z s) :
    Fr W Q z (State.unholdFll s n) := by
  unfold State.unholdFll
  repeat' first
    | with_reducible assumption | with_reducible apply State.setOsc_frame | with_reducible apply State.modR_frame

theorem State.setLocked_frame {s : State} {n : Nat} {v : Bool} (wOSC_STATUS : W .OSC_STATUS) (qrgn : Q .rgn)
    (h : Fr W Q z s) :
    Fr W Q z (State.setLocked s n v) := by
  unfold State.setLocked
  repeat' first
    | with_reducible assumption | with_reducible apply State.setOsc_frame | with_reducible apply State.modR_frame
    | split

theorem State.ceilingTime_frame {s : State} {n : Nat} (wOSC_CEILING_TIME : W .OSC_CEILING_TIME) (qrgn : Q .rgn)
    (h : Fr W Q z s) :
    Fr W Q z (State.ceilingTime s n) := by
  unfold State.ceilingTime
  repeat' first
    | with_reducible assumption | with_reducible apply State.modR_frame | with_reducible apply State.add_frame

theorem State.gateEnd_frame {s : State} {n : Nat} (wOSC_CEILING_TIME : W .OSC_CEILING_TIME)
    (wOSC_PERMIT_MAX : W .OSC_PERMIT_MAX) (wOSC_STATUS : W .OSC_STATUS) (qrgn : Q .rgn) (h : Fr W Q z s) :
    Fr W Q z (State.gateEnd s n) := by
  unfold State.gateEnd
  repeat' first
    | with_reducible assumption | with_reducible refine State.when_kept ?_ ?_ | with_reducible apply State.wr_frame
    | with_reducible apply State.modR_frame | with_reducible apply State.ceilingTime_frame
    | with_reducible apply State.setOsc_frame | with_reducible apply State.setLocked_frame
    | with_reducible apply State.unholdFll_frame | split | dsimp only | intro _

theorem State.sigmaDelta_frame {s : State} {n : Nat} (wOSC_CODE : W .OSC_CODE) (qrgn : Q .rgn) (h : Fr W Q z s) :
    Fr W Q z (State.sigmaDelta s n) := by
  unfold State.sigmaDelta
  repeat' first
    | with_reducible assumption | with_reducible apply State.wr_frame | with_reducible apply State.modR_frame

theorem State.learnOffset_frame {s : State} {n : Nat} (wCAL_OFFSET : W .CAL_OFFSET) (h : Fr W Q z s) :
    Fr W Q z (State.learnOffset s n) := by
  unfold State.learnOffset
  repeat' first
    | with_reducible assumption | with_reducible apply State.wrInt_frame

theorem State.headroomReport_frame {s : State} {n : Nat} (wOSC_FREQ_NAT : W .OSC_FREQ_NAT)
    (wOSC_HEADROOM : W .OSC_HEADROOM) (wOSC_LOOP_ERR : W .OSC_LOOP_ERR) (qrgn : Q .rgn) (h : Fr W Q z s) :
    Fr W Q z (State.headroomReport s n) := by
  unfold State.headroomReport
  repeat' first
    | with_reducible assumption | with_reducible refine State.when_kept ?_ ?_ | with_reducible apply State.wrSat_frame
    | with_reducible apply State.wr_frame | with_reducible apply State.wrInt_frame
    | with_reducible apply State.modR_frame | split | dsimp only | intro _

theorem State.countHours_frame {s : State} {n : Nat} (wAGE_POWERED_H : W .AGE_POWERED_H) (qrgn : Q .rgn)
    (h : Fr W Q z s) :
    Fr W Q z (State.countHours s n) := by
  unfold State.countHours
  repeat' first
    | with_reducible assumption | with_reducible apply State.add_frame | with_reducible apply State.modR_frame

theorem State.ageSampled_frame {s : State} {n : Nat} {ratio : Nat} (wAGE_DEGRADE_LAST : W .AGE_DEGRADE_LAST)
    (wAGE_DEGRADE_PREV : W .AGE_DEGRADE_PREV) (wAGE_GUARD : W .AGE_GUARD) (wAGE_POWERED_H : W .AGE_POWERED_H)
    (wAGE_RATIO_LAST : W .AGE_RATIO_LAST) (wAGE_SAMPLE_H : W .AGE_SAMPLE_H) (wOSC_STATUS : W .OSC_STATUS)
    (qrgn : Q .rgn) (h : Fr W Q z s) :
    Fr W Q z (State.ageSampled s n ratio) := by
  unfold State.ageSampled
  repeat' first
    | with_reducible assumption | with_reducible apply State.countHours_frame | with_reducible apply State.wr_frame
    | with_reducible apply State.setOsc_frame | with_reducible apply State.modR_frame

/-! ### Lanes -/

theorem State.recvEdge_frame {s : State} {n : Nat} {e : Nat} {takes : List XTake} (qcell : Q .cell)
    (h : Fr W Q z s) :
    Fr W Q z (State.recvEdge s n e takes) := by
  unfold State.recvEdge
  repeat' first
    | with_reducible assumption | with_reducible apply State.modC_frame

theorem State.sendEdge_frame {s : State} {e : Nat} {m : Nat} {words : List XWord} (qcell : Q .cell)
    (h : Fr W Q z s) :
    Fr W Q z (State.sendEdge s e m words) := by
  unfold State.sendEdge
  repeat' first
    | with_reducible assumption | with_reducible apply State.modC_frame

theorem State.moveWords_frame {s : State} {n : Nat} {words : List XWord} {takes : List XTake} (qcell : Q .cell)
    (h : Fr W Q z s) :
    Fr W Q z (State.moveWords s n words takes) := by
  unfold State.moveWords
  repeat' first
    | with_reducible assumption | with_reducible refine State.each_kept ?_ ?_
    | with_reducible apply State.recvEdge_frame | with_reducible apply State.sendEdge_frame | split | dsimp only
    | intro _

/-! ### Stretch -/

theorem State.setDs_frame {s : State} {n : Nat} {b : Nat} {v : Bool} (wDS_STATUS : W .DS_STATUS)
    (h : Fr W Q z s) :
    Fr W Q z (State.setDs s n b v) := by
  unfold State.setDs
  repeat' first
    | with_reducible assumption | with_reducible apply State.setFlag_frame

theorem State.beginRun_frame {s : State} {n : Nat} {d : Nat} (wDS_STATUS : W .DS_STATUS)
    (wDS_TRIPS : W .DS_TRIPS) (qrgn : Q .rgn) (h : Fr W Q z s) :
    Fr W Q z (State.beginRun s n d) := by
  unfold State.beginRun
  repeat' first
    | with_reducible assumption | with_reducible apply State.setDs_frame | with_reducible apply State.inc_frame
    | with_reducible apply State.modR_frame

theorem State.stopRun_frame {s : State} {n : Nat} (wDS_STATUS : W .DS_STATUS) (qrgn : Q .rgn) (h : Fr W Q z s) :
    Fr W Q z (State.stopRun s n) := by
  unfold State.stopRun
  repeat' first
    | with_reducible assumption | with_reducible apply State.setDs_frame | with_reducible apply State.modR_frame

theorem State.endRun_frame {s : State} {n : Nat} (wDS_STATUS : W .DS_STATUS) (wDS_TRIPS : W .DS_TRIPS)
    (qrgn : Q .rgn) (h : Fr W Q z s) :
    Fr W Q z (State.endRun s n) := by
  unfold State.endRun
  repeat' first
    | with_reducible assumption | with_reducible apply State.stopRun_frame | with_reducible apply State.beginRun_frame
    | split

theorem State.quarantine_frame {s : State} {n : Nat} {i : Nat} (wALERT_STATUS : W .ALERT_STATUS)
    (wDS_QUARANTINE : W .DS_QUARANTINE) (wDS_STATUS : W .DS_STATUS) (wDS_STUCK_EVENTS : W .DS_STUCK_EVENTS)
    (wEVENT_NEXT : W .EVENT_NEXT) (wEVENT_OVERWRITTEN : W .EVENT_OVERWRITTEN) (wEVENT_PAGE : W .EVENT_PAGE)
    (wEVENT_SEQ : W .EVENT_SEQ) (wRUN_STATUS : W .RUN_STATUS) (qflt : Q .flt) (qrgn : Q .rgn) (qdict : Q .dict)
    (h : Fr W Q z s) :
    Fr W Q z (State.quarantine s n i) := by
  unfold State.quarantine
  repeat' first
    | with_reducible assumption | with_reducible refine State.when_kept ?_ ?_
    | with_reducible apply State.setFlag_frame | with_reducible apply State.setDs_frame
    | with_reducible apply State.inc_frame | with_reducible apply State.modR_frame
    | with_reducible apply State.dirtyNow_frame | with_reducible apply State.event_frame
    | with_reducible apply State.markRuns_frame | split | dsimp only | intro _

theorem State.unquarantine_frame {s : State} {n : Nat} {mask : Nat} (wDS_QUARANTINE : W .DS_QUARANTINE)
    (wDS_STATUS : W .DS_STATUS) (qrgn : Q .rgn) (h : Fr W Q z s) :
    Fr W Q z (State.unquarantine s n mask) := by
  unfold State.unquarantine
  repeat' first
    | with_reducible assumption | with_reducible refine State.when_kept ?_ ?_ | with_reducible apply State.wr_frame
    | with_reducible apply State.setDs_frame | with_reducible apply State.modR_frame | split | dsimp only | intro _

theorem State.removeSensors_frame {s : State} {n : Nat} {mask : Nat} (wDS_QUARANTINE : W .DS_QUARANTINE)
    (wDS_STATUS : W .DS_STATUS) (qrgn : Q .rgn) (h : Fr W Q z s) :
    Fr W Q z (State.removeSensors s n mask) := by
  unfold State.removeSensors
  repeat' first
    | with_reducible assumption | with_reducible apply State.unquarantine_frame
    | with_reducible apply State.modR_frame

theorem State.tetherCycle_frame {s : State} {n : Nat} {late : Nat} (wINJ_ARM : W .INJ_ARM)
    (wINJ_COUNT : W .INJ_COUNT) (wINJ_RESULT : W .INJ_RESULT) (wSLIP : W .SLIP)
    (wTETHER_ENGAGES : W .TETHER_ENGAGES) (wTETHER_STATUS : W .TETHER_STATUS) (qflt : Q .flt) (qinj : Q .inj)
    (qrgn : Q .rgn) (h : Fr W Q z s) :
    Fr W Q z (State.tetherCycle s n late) := by
  unfold State.tetherCycle
  repeat' first
    | with_reducible assumption | with_reducible refine State.each_kept ?_ ?_
    | with_reducible refine State.when_kept ?_ ?_ | with_reducible apply State.wrInt_frame
    | with_reducible apply State.modR_frame | with_reducible apply State.inc_frame
    | with_reducible apply State.wr_frame | with_reducible apply State.endInjection_frame | split | dsimp only
    | intro _

theorem State.countStretch_frame {s : State} {n : Nat} {d : Nat} {who : Charge}
    (wSTRETCH_E_CAP : W .STRETCH_E_CAP) (wSTRETCH_E_DROOP : W .STRETCH_E_DROOP)
    (wSTRETCH_E_FLOOR : W .STRETCH_E_FLOOR) (wSTRETCH_E_TETHER : W .STRETCH_E_TETHER)
    (wSTRETCH_HOLDS : W .STRETCH_HOLDS) (wSTRETCH_P2 : W .STRETCH_P2) (wSTRETCH_P4 : W .STRETCH_P4)
    (wSTRETCH_P8 : W .STRETCH_P8) (h : Fr W Q z s) :
    Fr W Q z (State.countStretch s n d who) := by
  unfold State.countStretch
  repeat' first
    | with_reducible assumption | with_reducible apply State.addWrap_frame | split

theorem State.countWindow_frame {s : State} {n : Nat} {d : Nat} {who : Charge} (qest : Q .est) (h : Fr W Q z s) :
    Fr W Q z (State.countWindow s n d who) := by
  unfold State.countWindow
  repeat' first
    | with_reducible assumption | with_reducible apply State.modE_frame

theorem State.countHold_frame {s : State} {n : Nat} {d : Nat} {thermal : Bool} (qest : Q .est) (h : Fr W Q z s) :
    Fr W Q z (State.countHold s n d thermal) := by
  unfold State.countHold
  repeat' first
    | with_reducible assumption | with_reducible apply State.modE_frame

theorem State.chargeTether_frame {s : State} {n : Nat} {d : Nat} {t : Tag}
    (wTETHER_UNATTRIB : W .TETHER_UNATTRIB) (qrgn : Q .rgn) (qest : Q .est) (h : Fr W Q z s) :
    Fr W Q z (State.chargeTether s n d t) := by
  unfold State.chargeTether
  repeat' first
    | with_reducible assumption | with_reducible apply State.modR_frame | with_reducible apply State.addWrap_frame
    | with_reducible apply State.modE_frame | split

theorem State.chargePeriod_frame {s : State} {n : Nat} {d : Nat} {who : Charge} (wDS_STATUS : W .DS_STATUS)
    (wSTRETCH_E_CAP : W .STRETCH_E_CAP) (wSTRETCH_E_DROOP : W .STRETCH_E_DROOP)
    (wSTRETCH_E_FLOOR : W .STRETCH_E_FLOOR) (wSTRETCH_E_TETHER : W .STRETCH_E_TETHER)
    (wSTRETCH_HOLDS : W .STRETCH_HOLDS) (wSTRETCH_P2 : W .STRETCH_P2) (wSTRETCH_P4 : W .STRETCH_P4)
    (wSTRETCH_P8 : W .STRETCH_P8) (wTETHER_UNATTRIB : W .TETHER_UNATTRIB) (qrgn : Q .rgn) (qest : Q .est)
    (h : Fr W Q z s) :
    Fr W Q z (State.chargePeriod s n d who) := by
  unfold State.chargePeriod
  repeat' first
    | with_reducible assumption | with_reducible apply State.countStretch_frame
    | with_reducible apply State.countWindow_frame | with_reducible apply State.chargeTether_frame
    | with_reducible apply State.modR_frame | with_reducible apply State.wr_frame | split

theorem State.stretchCycle_frame {s : State} {n : Nat} (wDS_STATUS : W .DS_STATUS)
    (wSTRETCH_E_CAP : W .STRETCH_E_CAP) (wSTRETCH_E_DROOP : W .STRETCH_E_DROOP)
    (wSTRETCH_E_FLOOR : W .STRETCH_E_FLOOR) (wSTRETCH_E_TETHER : W .STRETCH_E_TETHER)
    (wSTRETCH_HOLDS : W .STRETCH_HOLDS) (wSTRETCH_P2 : W .STRETCH_P2) (wSTRETCH_P4 : W .STRETCH_P4)
    (wSTRETCH_P8 : W .STRETCH_P8) (wSTRETCH_REFUSED : W .STRETCH_REFUSED) (wTETHER_UNATTRIB : W .TETHER_UNATTRIB)
    (qrgn : Q .rgn) (qest : Q .est) (h : Fr W Q z s) :
    Fr W Q z (State.stretchCycle s n) := by
  unfold State.stretchCycle
  repeat' first
    | with_reducible assumption | with_reducible apply State.addWrap_frame
    | with_reducible apply State.chargePeriod_frame | with_reducible apply State.modR_frame

theorem State.stretchNow_frame {s : State} {n : Nat} {x : Nat} (wDS_STATUS : W .DS_STATUS)
    (wSTRETCH_E_CAP : W .STRETCH_E_CAP) (wSTRETCH_E_DROOP : W .STRETCH_E_DROOP)
    (wSTRETCH_E_FLOOR : W .STRETCH_E_FLOOR) (wSTRETCH_E_TETHER : W .STRETCH_E_TETHER)
    (wSTRETCH_HOLDS : W .STRETCH_HOLDS) (wSTRETCH_P2 : W .STRETCH_P2) (wSTRETCH_P4 : W .STRETCH_P4)
    (wSTRETCH_P8 : W .STRETCH_P8) (wSTRETCH_REFUSED : W .STRETCH_REFUSED) (wTETHER_UNATTRIB : W .TETHER_UNATTRIB)
    (qrgn : Q .rgn) (qest : Q .est) (h : Fr W Q z s) :
    Fr W Q z (State.stretchNow s n x) := by
  unfold State.stretchNow
  repeat' first
    | with_reducible assumption | with_reducible refine State.when_kept ?_ ?_ | with_reducible apply State.wr_frame
    | with_reducible apply State.chargePeriod_frame | with_reducible apply State.modR_frame | split | dsimp only
    | intro _

theorem State.sample_frame {s : State} {n : Nat} {x : DsSample} (wDS_COUNT_ONLY_TRIPS : W .DS_COUNT_ONLY_TRIPS)
    (wDS_STATUS : W .DS_STATUS) (wDS_TRIPS : W .DS_TRIPS) (wSTRETCH_E_CAP : W .STRETCH_E_CAP)
    (wSTRETCH_E_DROOP : W .STRETCH_E_DROOP) (wSTRETCH_E_FLOOR : W .STRETCH_E_FLOOR)
    (wSTRETCH_E_TETHER : W .STRETCH_E_TETHER) (wSTRETCH_HOLDS : W .STRETCH_HOLDS) (wSTRETCH_P2 : W .STRETCH_P2)
    (wSTRETCH_P4 : W .STRETCH_P4) (wSTRETCH_P8 : W .STRETCH_P8) (wSTRETCH_REFUSED : W .STRETCH_REFUSED)
    (wTETHER_UNATTRIB : W .TETHER_UNATTRIB) (qrgn : Q .rgn) (qest : Q .est) (h : Fr W Q z s) :
    Fr W Q z (State.sample s n x) := by
  unfold State.sample
  repeat' first
    | with_reducible assumption | with_reducible refine State.when_kept ?_ ?_ | with_reducible apply State.setDs_frame
    | with_reducible apply State.inc_frame | with_reducible apply State.modR_frame
    | with_reducible apply State.beginRun_frame | with_reducible apply State.stretchNow_frame | split | dsimp only
    | intro _

theorem State.copyTags_frame {s : State} {n : Nat} (qrgn : Q .rgn) (h : Fr W Q z s) :
    Fr W Q z (State.copyTags s n) := by
  unfold State.copyTags
  repeat' first
    | with_reducible assumption | with_reducible apply State.modR_frame

theorem State.advanceTime_frame {s : State} {n : Nat} {dur : Nat} (wREGION_TIME : W .REGION_TIME)
    (qrgn : Q .rgn) (h : Fr W Q z s) :
    Fr W Q z (State.advanceTime s n dur) := by
  unfold State.advanceTime
  repeat' first
    | with_reducible assumption | with_reducible apply State.addWrap_frame | with_reducible apply State.modR_frame

theorem State.endPeriod_frame {s : State} {n : Nat} {dur : Nat} (wINJ_ARM : W .INJ_ARM)
    (wINJ_COUNT : W .INJ_COUNT) (wINJ_RESULT : W .INJ_RESULT) (qflt : Q .flt) (qinj : Q .inj) (qrgn : Q .rgn)
    (h : Fr W Q z s) :
    Fr W Q z (State.endPeriod s n dur) := by
  unfold State.endPeriod
  repeat' first
    | with_reducible assumption | with_reducible apply State.modR_frame
    | with_reducible apply State.endInjection_frame | split | dsimp only | intro _ | with_reducible apply Fr.lit
    | with_reducible exact Or.inl (by assumption) | with_reducible exact Or.inr rfl

theorem State.refuseOffers_frame {s : State} {n : Nat} {words : List XWord} (wXING_REFUSED : W .XING_REFUSED)
    (h : Fr W Q z s) :
    Fr W Q z (State.refuseOffers s n words) := by
  unfold State.refuseOffers
  repeat' first
    | with_reducible assumption | with_reducible apply State.wr_frame | with_reducible apply State.addWrap_frame

theorem State.askLane_frame {s : State} {n : Nat} (qest : Q .est) (h : Fr W Q z s) :
    Fr W Q z (State.askLane s n) := by
  unfold State.askLane
  repeat' first
    | with_reducible assumption | with_reducible refine State.when_kept ?_ ?_ | with_reducible apply State.modE_frame
    | split | dsimp only | intro _

theorem State.cycle_frame {s : State} {n : Nat} {io : CycleIn} (wDS_STATUS : W .DS_STATUS)
    (wDS_TRIPS : W .DS_TRIPS) (wINJ_ARM : W .INJ_ARM) (wINJ_COUNT : W .INJ_COUNT) (wINJ_RESULT : W .INJ_RESULT)
    (wREGION_COUNT : W .REGION_COUNT) (wREGION_TIME : W .REGION_TIME) (wSLIP : W .SLIP)
    (wSTRETCH_E_CAP : W .STRETCH_E_CAP) (wSTRETCH_E_DROOP : W .STRETCH_E_DROOP)
    (wSTRETCH_E_FLOOR : W .STRETCH_E_FLOOR) (wSTRETCH_E_TETHER : W .STRETCH_E_TETHER)
    (wSTRETCH_HOLDS : W .STRETCH_HOLDS) (wSTRETCH_P2 : W .STRETCH_P2) (wSTRETCH_P4 : W .STRETCH_P4)
    (wSTRETCH_P8 : W .STRETCH_P8) (wSTRETCH_REFUSED : W .STRETCH_REFUSED) (wTETHER_ENGAGES : W .TETHER_ENGAGES)
    (wTETHER_STATUS : W .TETHER_STATUS) (wTETHER_UNATTRIB : W .TETHER_UNATTRIB) (wXING_REFUSED : W .XING_REFUSED)
    (qflt : Q .flt) (qinj : Q .inj) (qrgn : Q .rgn) (qest : Q .est) (qcell : Q .cell) (h : Fr W Q z s) :
    Fr W Q z (State.cycle s n io) := by
  unfold State.cycle
  repeat' first
    | with_reducible assumption | with_reducible refine State.when_kept ?_ ?_
    | with_reducible apply State.endPeriod_frame | with_reducible apply State.endRun_frame
    | with_reducible apply State.modR_frame | with_reducible apply State.modE_frame
    | with_reducible apply State.wr_frame | with_reducible apply State.advanceTime_frame
    | with_reducible apply State.copyTags_frame | with_reducible apply State.tetherCycle_frame
    | with_reducible apply State.stretchCycle_frame | with_reducible apply State.refuseOffers_frame
    | with_reducible apply State.moveWords_frame | with_reducible apply State.askLane_frame | split | dsimp only
    | intro _

theorem State.givePark_frame {s : State} {n : Nat} {count : Nat} {release : Nat} {thermal : Bool}
    (qflt : Q .flt) (qrgn : Q .rgn) (h : Fr W Q z s) :
    Fr W Q z (State.givePark s n count release thermal) := by
  unfold State.givePark
  repeat' first
    | with_reducible assumption | with_reducible apply State.raiseFault_frame | with_reducible apply State.modR_frame
    | split

theorem State.parkHold_frame {s : State} {n : Nat} (wDS_STATUS : W .DS_STATUS)
    (wTETHER_STATUS : W .TETHER_STATUS) (qrgn : Q .rgn) (qgrp : Q .grp) (h : Fr W Q z s) :
    Fr W Q z (State.parkHold s n) := by
  unfold State.parkHold
  repeat' first
    | with_reducible assumption | with_reducible apply State.unobserve_frame | with_reducible apply State.setDs_frame
    | with_reducible apply State.stopRun_frame | with_reducible apply State.showNoTether_frame
    | with_reducible apply State.modR_frame

theorem State.parkEnd_frame {s : State} {n : Nat} {p : Park} (wDS_STATUS : W .DS_STATUS)
    (wREGION_TIME : W .REGION_TIME) (wSTRETCH_E_FLOOR : W .STRETCH_E_FLOOR) (wSTRETCH_HOLDS : W .STRETCH_HOLDS)
    (qrgn : Q .rgn) (qest : Q .est) (h : Fr W Q z s) :
    Fr W Q z (State.parkEnd s n p) := by
  unfold State.parkEnd
  repeat' first
    | with_reducible assumption | with_reducible apply State.setDs_frame | with_reducible apply State.addWrap_frame
    | with_reducible apply State.countHold_frame | with_reducible apply State.modR_frame
    | with_reducible apply State.wr_frame

theorem State.unpark_frame {s : State} {n : Nat} (wDS_STATUS : W .DS_STATUS) (wREGION_TIME : W .REGION_TIME)
    (wSTRETCH_E_FLOOR : W .STRETCH_E_FLOOR) (wSTRETCH_HOLDS : W .STRETCH_HOLDS) (qrgn : Q .rgn) (qest : Q .est)
    (h : Fr W Q z s) :
    Fr W Q z (State.unpark s n) := by
  unfold State.unpark
  repeat' first
    | with_reducible assumption | with_reducible apply State.parkEnd_frame | with_reducible apply State.setDs_frame
    | with_reducible apply State.modR_frame | split

/-! ### Limits -/

theorem State.showCeiling_frame {s : State} {g : Nat} (wGROUP_CEIL_REASON : W .GROUP_CEIL_REASON)
    (wOP_CEIL_ENTRY : W .OP_CEIL_ENTRY) (qgrp : Q .grp) (h : Fr W Q z s) :
    Fr W Q z (State.showCeiling s g) := by
  unfold State.showCeiling
  repeat' first
    | with_reducible assumption | with_reducible refine State.when_kept ?_ ?_ | with_reducible apply State.spoil_frame
    | with_reducible apply State.wr_frame | split | dsimp only | intro _

theorem State.sendDirective_frame {s : State} {f : Nat} (qfld : Q .fld) (qrail : Q .rail) (qcaps : Q .caps)
    (h : Fr W Q z s) :
    Fr W Q z (State.sendDirective s f) := by
  unfold State.sendDirective
  repeat' first
    | with_reducible assumption | with_reducible refine State.each_kept ?_ ?_ | with_reducible apply State.modRa_frame
    | with_reducible apply State.modF_frame | split | dsimp only | intro _ | with_reducible apply Fr.lit
    | with_reducible exact Or.inl (by assumption) | with_reducible exact Or.inr rfl

theorem State.recompute_frame {s : State} (wCOMPUTE_LIMIT : W .COMPUTE_LIMIT)
    (wCOMPUTE_LIMIT_REASON : W .COMPUTE_LIMIT_REASON) (wFIELD_LIMIT : W .FIELD_LIMIT)
    (wFIELD_LIMIT_REASON : W .FIELD_LIMIT_REASON) (wGROUP_LIMIT : W .GROUP_LIMIT) (qfld : Q .fld) (qrail : Q .rail)
    (qcaps : Q .caps) (h : Fr W Q z s) :
    Fr W Q z (State.recompute s) := by
  unfold State.recompute
  repeat' first
    | with_reducible assumption | with_reducible refine State.each_kept ?_ ?_
    | with_reducible refine State.when_kept ?_ ?_ | with_reducible apply State.wr_frame
    | with_reducible apply State.sendDirective_frame | split | dsimp only | intro _ | with_reducible apply Fr.lit
    | with_reducible exact Or.inl (by assumption) | with_reducible exact Or.inr rfl

theorem State.recomputeRails_frame {s : State} (wRAIL_LIMIT : W .RAIL_LIMIT) (h : Fr W Q z s) :
    Fr W Q z (State.recomputeRails s) := by
  unfold State.recomputeRails
  repeat' first
    | with_reducible assumption | with_reducible refine State.each_kept ?_ ?_ | with_reducible apply State.wr_frame
    | split | dsimp only | intro _

theorem State.limitsDue_frame {s : State} (qcaps : Q .caps) (h : Fr W Q z s) :
    Fr W Q z (State.limitsDue s) := by
  unfold State.limitsDue
  repeat' first
    | with_reducible assumption | split | dsimp only | intro _ | with_reducible apply Fr.lit
    | with_reducible exact Or.inl (by assumption) | with_reducible exact Or.inr rfl

theorem State.showCapFlags_frame {s : State} (wCAP_STATUS : W .CAP_STATUS) (h : Fr W Q z s) :
    Fr W Q z (State.showCapFlags s) := by
  unfold State.showCapFlags
  repeat' first
    | with_reducible assumption | with_reducible apply State.setFlag_frame

/-! ### RailBase -/

theorem State.sendCmd_frame {s : State} {k : Nat} {c : LCmd} (qlink : Q .link) (h : Fr W Q z s) :
    Fr W Q z (State.sendCmd s k c) := by
  unfold State.sendCmd
  repeat' first
    | with_reducible assumption | with_reducible apply State.modL_frame

theorem State.withdraw_frame {s : State} {k : Nat} {c : LCmd} (wRAIL_STATUS : W .RAIL_STATUS) (qlink : Q .link)
    (qrail : Q .rail) (h : Fr W Q z s) :
    Fr W Q z (State.withdraw s k c) := by
  unfold State.withdraw
  repeat' first
    | with_reducible assumption | with_reducible refine State.each_kept ?_ ?_
    | with_reducible refine State.when_kept ?_ ?_ | with_reducible apply State.modL_frame
    | with_reducible apply State.wr_frame | with_reducible apply State.modRa_frame | split | dsimp only | intro _

theorem State.resend_frame {s : State} {k : Nat} {c : LCmd} (wRAIL_RETRIES : W .RAIL_RETRIES)
    (wRAIL_STATUS : W .RAIL_STATUS) (qlink : Q .link) (qrail : Q .rail) (h : Fr W Q z s) :
    Fr W Q z (State.resend s k c) := by
  unfold State.resend
  repeat' first
    | with_reducible assumption | with_reducible refine State.each_kept ?_ ?_
    | with_reducible apply State.withdraw_frame | with_reducible apply State.inc_frame
    | with_reducible apply State.modL_frame | split | dsimp only | intro _

theorem State.pumpOne_frame {s : State} {k : Nat} (wRAIL_RETRIES : W .RAIL_RETRIES)
    (wRAIL_STATUS : W .RAIL_STATUS) (qlink : Q .link) (qrail : Q .rail) (h : Fr W Q z s) :
    Fr W Q z (State.pumpOne s k) := by
  unfold State.pumpOne
  repeat' first
    | with_reducible assumption | with_reducible refine State.each_kept ?_ ?_
    | with_reducible apply State.resend_frame | with_reducible apply State.modL_frame
    | with_reducible apply State.sendCmd_frame | with_reducible apply State.modRa_frame | split | dsimp only | intro _

theorem State.pump_frame {s : State} {k : Nat} (wRAIL_RETRIES : W .RAIL_RETRIES) (wRAIL_STATUS : W .RAIL_STATUS)
    (qlink : Q .link) (qrail : Q .rail) (h : Fr W Q z s) :
    Fr W Q z (State.pump s k) := by
  unfold State.pump
  repeat' first
    | with_reducible assumption | with_reducible apply State.pumpOne_frame | split

theorem State.queueCmd_frame {s : State} {k : Nat} {c : LCmd} (wRAIL_RETRIES : W .RAIL_RETRIES)
    (wRAIL_STATUS : W .RAIL_STATUS) (qlink : Q .link) (qrail : Q .rail) (h : Fr W Q z s) :
    Fr W Q z (State.queueCmd s k c) := by
  unfold State.queueCmd
  repeat' first
    | with_reducible assumption | with_reducible apply State.modL_frame | with_reducible apply State.pump_frame

theorem State.recoverRail_frame {s : State} {r : Nat} (wRAIL_RETRIES : W .RAIL_RETRIES)
    (wRAIL_STATUS : W .RAIL_STATUS) (qlink : Q .link) (qrail : Q .rail) (h : Fr W Q z s) :
    Fr W Q z (State.recoverRail s r) := by
  unfold State.recoverRail
  repeat' first
    | with_reducible assumption | with_reducible apply State.modRa_frame | with_reducible apply State.queueCmd_frame

theorem State.requestVolt_frame {s : State} {f : Nat} {v : Nat} (wFIELD_VOLT : W .FIELD_VOLT)
    (wRAIL_RETRIES : W .RAIL_RETRIES) (wRAIL_STATUS : W .RAIL_STATUS) (qfld : Q .fld) (qlink : Q .link)
    (qrail : Q .rail) (h : Fr W Q z s) :
    Fr W Q z (State.requestVolt s f v) := by
  unfold State.requestVolt
  repeat' first
    | with_reducible assumption | with_reducible refine State.each_kept ?_ ?_
    | with_reducible refine State.when_kept ?_ ?_ | with_reducible apply State.wr_frame
    | with_reducible apply State.modF_frame | with_reducible apply State.modRa_frame
    | with_reducible apply State.pump_frame | split | dsimp only | intro _

theorem State.predictVolt_frame {s : State} {f : Nat} {ratio : Nat} {own : Option (Nat × Nat)}
    (wFIELD_VNEED : W .FIELD_VNEED) (wFIELD_VOLT_AT_CEIL : W .FIELD_VOLT_AT_CEIL) (h : Fr W Q z s) :
    Fr W Q z (State.predictVolt s f ratio own).2 := by
  unfold State.predictVolt
  repeat' first
    | with_reducible assumption | with_reducible refine State.when_kept ?_ ?_ | with_reducible apply State.wr_frame
    | with_reducible apply State.inc_frame | split | dsimp only | intro _

theorem State.requestNow_frame {s : State} {f : Nat} {keep : Bool} (wFIELD_VNEED : W .FIELD_VNEED)
    (wFIELD_VOLT : W .FIELD_VOLT) (wFIELD_VOLT_AT_CEIL : W .FIELD_VOLT_AT_CEIL) (wRAIL_RETRIES : W .RAIL_RETRIES)
    (wRAIL_STATUS : W .RAIL_STATUS) (qfld : Q .fld) (qlink : Q .link) (qrail : Q .rail) (h : Fr W Q z s) :
    Fr W Q z (State.requestNow s f keep) := by
  unfold State.requestNow
  repeat' first
    | with_reducible assumption | with_reducible apply State.predictVolt_frame
    | with_reducible apply State.requestVolt_frame

theorem State.askVolt_frame {s : State} {f : Nat} (wFIELD_VNEED : W .FIELD_VNEED) (wFIELD_VOLT : W .FIELD_VOLT)
    (wFIELD_VOLT_AT_CEIL : W .FIELD_VOLT_AT_CEIL) (wRAIL_RETRIES : W .RAIL_RETRIES) (wRAIL_STATUS : W .RAIL_STATUS)
    (qfld : Q .fld) (qlink : Q .link) (qrail : Q .rail) (h : Fr W Q z s) :
    Fr W Q z (State.askVolt s f) := by
  unfold State.askVolt
  repeat' first
    | with_reducible assumption | with_reducible apply State.modF_frame | with_reducible apply State.requestNow_frame
    | split

theorem State.freeVolt_frame {s : State} {f : Nat} {keep : Bool} (wFIELD_VNEED : W .FIELD_VNEED)
    (wFIELD_VOLT : W .FIELD_VOLT) (wFIELD_VOLT_AT_CEIL : W .FIELD_VOLT_AT_CEIL) (wRAIL_RETRIES : W .RAIL_RETRIES)
    (wRAIL_STATUS : W .RAIL_STATUS) (qfld : Q .fld) (qlink : Q .link) (qrail : Q .rail) (h : Fr W Q z s) :
    Fr W Q z (State.freeVolt s f keep) := by
  unfold State.freeVolt
  repeat' first
    | with_reducible assumption | with_reducible apply State.modF_frame | with_reducible apply State.requestNow_frame
    | split | dsimp only

theorem State.startRecoveries_frame {s : State} {g : Nat} {keep : Bool} (wFIELD_VNEED : W .FIELD_VNEED)
    (wFIELD_VOLT : W .FIELD_VOLT) (wFIELD_VOLT_AT_CEIL : W .FIELD_VOLT_AT_CEIL) (wRAIL_RETRIES : W .RAIL_RETRIES)
    (wRAIL_STATUS : W .RAIL_STATUS) (qfld : Q .fld) (qlink : Q .link) (qrail : Q .rail) (h : Fr W Q z s) :
    Fr W Q z (State.startRecoveries s g keep) := by
  unfold State.startRecoveries
  repeat' first
    | with_reducible assumption | with_reducible refine State.each_kept ?_ ?_
    | with_reducible apply State.recoverRail_frame | with_reducible apply State.freeVolt_frame | split | dsimp only
    | intro _

/-! ### Cross -/

theorem State.resync_frame {s : State} {n : Nat} {e : Nat} {f : Cell → Cell} (wXING_RESYNCS : W .XING_RESYNCS)
    (qcell : Q .cell) (h : Fr W Q z s) :
    Fr W Q z (State.resync s n e f) := by
  unfold State.resync
  repeat' first
    | with_reducible assumption | with_reducible refine State.when_kept ?_ ?_ | with_reducible apply State.modC_frame
    | with_reducible apply State.inc_frame | split | dsimp only | intro _

theorem State.fenceAll_frame {s : State} {n : Nat} (qcell : Q .cell) (h : Fr W Q z s) :
    Fr W Q z (State.fenceAll s n) := by
  unfold State.fenceAll
  repeat' first
    | with_reducible assumption | with_reducible refine State.each_kept ?_ ?_ | with_reducible apply State.modC_frame
    | with_reducible apply State.wr_frame | split | dsimp only | intro _

theorem State.isolateCells_frame {s : State} {n : Nat} (qcell : Q .cell) (h : Fr W Q z s) :
    Fr W Q z (State.isolateCells s n) := by
  unfold State.isolateCells
  repeat' first
    | with_reducible assumption | with_reducible refine State.each_kept ?_ ?_ | with_reducible apply State.modC_frame
    | split | dsimp only | intro _

theorem State.reopenCells_frame {s : State} {n : Nat} (qcell : Q .cell) (h : Fr W Q z s) :
    Fr W Q z (State.reopenCells s n) := by
  unfold State.reopenCells
  repeat' first
    | with_reducible assumption | with_reducible refine State.each_kept ?_ ?_ | with_reducible apply State.modC_frame
    | split | dsimp only | intro _

theorem State.joinCells_frame {s : State} {n : Nat} (qcell : Q .cell) (h : Fr W Q z s) :
    Fr W Q z (State.joinCells s n) := by
  unfold State.joinCells
  repeat' first
    | with_reducible assumption | with_reducible refine State.each_kept ?_ ?_ | with_reducible apply State.modC_frame
    | with_reducible apply State.wr_frame | split | dsimp only | intro _

theorem State.applyFence_frame {s : State} {n : Nat} {old : Nat} {new : Nat} (wXING_FENCE : W .XING_FENCE)
    (qcell : Q .cell) (h : Fr W Q z s) :
    Fr W Q z (State.applyFence s n old new) := by
  unfold State.applyFence
  repeat' first
    | with_reducible assumption | with_reducible refine State.each_kept ?_ ?_ | with_reducible apply State.wr_frame
    | with_reducible apply State.modC_frame | split | dsimp only | intro _

theorem State.setIslands_frame {s : State} {g : Nat} (wGROUP_ANCHOR : W .GROUP_ANCHOR)
    (wGROUP_DIAMETER : W .GROUP_DIAMETER) (qgrp : Q .grp) (h : Fr W Q z s) :
    Fr W Q z (State.setIslands s g) := by
  unfold State.setIslands
  repeat' first
    | with_reducible assumption | with_reducible apply State.modG_frame | with_reducible apply State.wr_frame

theorem State.islandsDueAt_frame {s : State} {n : Nat} (qgrp : Q .grp) (h : Fr W Q z s) :
    Fr W Q z (State.islandsDueAt s n) := by
  unfold State.islandsDueAt
  repeat' first
    | with_reducible assumption | with_reducible refine State.when_kept ?_ ?_ | with_reducible apply State.modG_frame
    | split | dsimp only | intro _

theorem State.raiseReq_frame {s : State} {n : Nat} (qcell : Q .cell) (h : Fr W Q z s) :
    Fr W Q z (State.raiseReq s n) := by
  unfold State.raiseReq
  repeat' first
    | with_reducible assumption | with_reducible refine State.each_kept ?_ ?_ | with_reducible apply State.modC_frame
    | split | dsimp only | intro _

theorem State.endTripStop_frame {s : State} {n : Nat} (wDS_STATUS : W .DS_STATUS) (wOSC_STATUS : W .OSC_STATUS)
    (wSLIP : W .SLIP) (wTETHER_STATUS : W .TETHER_STATUS) (qrgn : Q .rgn) (h : Fr W Q z s) :
    Fr W Q z (State.endTripStop s n) := by
  unfold State.endTripStop
  repeat' first
    | with_reducible assumption | with_reducible refine State.when_kept ?_ ?_
    | with_reducible apply State.stopClock_frame | split | dsimp only | intro _

theorem State.tripStop_frame {s : State} {n : Nat} (wDS_STATUS : W .DS_STATUS) (wOSC_STATUS : W .OSC_STATUS)
    (wSLIP : W .SLIP) (wTETHER_STATUS : W .TETHER_STATUS) (qrgn : Q .rgn) (qcell : Q .cell) (h : Fr W Q z s) :
    Fr W Q z (State.tripStop s n) := by
  unfold State.tripStop
  repeat' first
    | with_reducible assumption | with_reducible apply State.modR_frame | with_reducible apply State.raiseReq_frame
    | with_reducible apply State.endTripStop_frame

theorem execResyncReqSeen_frame {n : Nat} {e : Nat} {wr : Bool} {s : State} (wXING_RESYNCS : W .XING_RESYNCS)
    (qcell : Q .cell) (h : Fr W Q z s) :
    ∀ t, execResyncReqSeen n e wr s = .next t → Fr W Q z t := by
  unfold execResyncReqSeen
  repeat' first
    | with_reducible refine next_kept ?_ | with_reducible assumption | with_reducible refine State.when_kept ?_ ?_
    | with_reducible apply State.wr_frame | with_reducible apply State.resync_frame | split | dsimp only | intro _

theorem execResyncAckSeen_frame {n : Nat} {e : Nat} {wr : Bool} {s : State} (wDS_STATUS : W .DS_STATUS)
    (wOSC_STATUS : W .OSC_STATUS) (wSLIP : W .SLIP) (wTETHER_STATUS : W .TETHER_STATUS)
    (wXING_RESYNCS : W .XING_RESYNCS) (qrgn : Q .rgn) (qcell : Q .cell) (h : Fr W Q z s) :
    ∀ t, execResyncAckSeen n e wr s = .next t → Fr W Q z t := by
  unfold execResyncAckSeen
  repeat' first
    | with_reducible refine next_kept ?_ | with_reducible assumption | with_reducible refine State.when_kept ?_ ?_
    | with_reducible apply State.wr_frame | with_reducible apply State.endTripStop_frame
    | with_reducible apply State.resync_frame | split | dsimp only | intro _

theorem execResyncReqLowSeen_frame {n : Nat} {e : Nat} {wr : Bool} (_u : Unit) {s : State}
    (wXING_DISCARD : W .XING_DISCARD) (wXING_RESYNCS : W .XING_RESYNCS) (qcell : Q .cell) (h : Fr W Q z s) :
    ∀ t, execResyncReqLowSeen n e wr _u s = .next t → Fr W Q z t := by
  unfold execResyncReqLowSeen
  repeat' first
    | with_reducible refine next_kept ?_ | with_reducible assumption | with_reducible refine State.when_kept ?_ ?_
    | with_reducible apply State.wr_frame | with_reducible apply State.addWrap_frame
    | with_reducible apply State.resync_frame | split | dsimp only | intro _

theorem execResyncAckLowSeen_frame {n : Nat} {e : Nat} {wr : Bool} {s : State} (wXING_RESYNCS : W .XING_RESYNCS)
    (qcell : Q .cell) (qgrp : Q .grp) (h : Fr W Q z s) :
    ∀ t, execResyncAckLowSeen n e wr s = .next t → Fr W Q z t := by
  unfold execResyncAckLowSeen
  repeat' first
    | with_reducible refine next_kept ?_ | with_reducible assumption | with_reducible refine State.when_kept ?_ ?_
    | with_reducible apply State.wr_frame | with_reducible apply State.resync_frame
    | with_reducible apply State.islandsDueAt_frame | split | dsimp only | intro _

theorem State.sendLoad_frame {s : State} {n : Nat} {e : Nat} {wr : Bool} {count : Nat} (qcell : Q .cell)
    (h : Fr W Q z s) :
    Fr W Q z (State.sendLoad s n e wr count) := by
  unfold State.sendLoad
  repeat' first
    | with_reducible assumption | with_reducible apply State.wr_frame | with_reducible apply State.modC_frame

theorem execPointerLoad_frame {n : Nat} {s : State} (qcell : Q .cell) (h : Fr W Q z s) :
    ∀ t, execPointerLoad n s = .next t → Fr W Q z t := by
  unfold execPointerLoad
  repeat' first
    | with_reducible refine next_kept ?_ | with_reducible assumption | with_reducible refine State.each_kept ?_ ?_
    | with_reducible refine State.when_kept ?_ ?_ | with_reducible apply State.sendLoad_frame | split | dsimp only
    | intro _

theorem execResyncInitiate_frame {n : Nat} {s : State} (qcell : Q .cell) (h : Fr W Q z s) :
    ∀ t, execResyncInitiate n s = .next t → Fr W Q z t := by
  unfold execResyncInitiate
  repeat' first
    | with_reducible refine next_kept ?_ | with_reducible assumption | with_reducible refine State.each_kept ?_ ?_
    | with_reducible refine State.when_kept ?_ ?_ | with_reducible apply State.wr_frame
    | with_reducible apply State.modC_frame | split | dsimp only | intro _

theorem State.upsetPtrs_frame {s : State} {n : Nat} {l : List (Nat × Bool × Nat)} (qcell : Q .cell)
    (h : Fr W Q z s) :
    Fr W Q z (State.upsetPtrs s n l) := by
  unfold State.upsetPtrs
  repeat' first
    | with_reducible assumption | with_reducible refine State.each_kept ?_ ?_ | with_reducible apply State.modC_frame
    | split | dsimp only | intro _

theorem execPtrCheck_frame {n : Nat} {upset : List (Nat × Bool × Nat)} {s : State}
    (wXING_PTR_ERRS : W .XING_PTR_ERRS) (qflt : Q .flt) (qcell : Q .cell) (h : Fr W Q z s) :
    ∀ t, execPtrCheck n upset s = .next t → Fr W Q z t := by
  unfold execPtrCheck
  repeat' first
    | with_reducible refine next_kept ?_ | with_reducible assumption | with_reducible refine State.each_kept ?_ ?_
    | with_reducible refine State.when_kept ?_ ?_ | with_reducible apply State.upsetPtrs_frame
    | with_reducible apply State.inc_frame | with_reducible apply State.modC_frame
    | with_reducible apply State.raiseFault_frame | split | dsimp only | intro _

theorem execIslandRecompute_frame {g : Nat} {s : State} (wGROUP_ANCHOR : W .GROUP_ANCHOR)
    (wGROUP_DIAMETER : W .GROUP_DIAMETER) (qgrp : Q .grp) (h : Fr W Q z s) :
    ∀ t, execIslandRecompute g s = .next t → Fr W Q z t := by
  unfold execIslandRecompute
  repeat' first
    | with_reducible refine next_kept ?_ | with_reducible assumption | with_reducible refine State.when_kept ?_ ?_
    | with_reducible apply State.setIslands_frame | split | dsimp only | intro _

theorem State.showTrim_frame {s : State} (wTRIM_MODE : W .TRIM_MODE) (h : Fr W Q z s) :
    Fr W Q z (State.showTrim s) := by
  unfold State.showTrim
  repeat' first
    | with_reducible assumption | with_reducible apply State.wr_frame

theorem execTrimEnd_frame {g : Nat} {s : State} (wGROUP_ANCHOR : W .GROUP_ANCHOR)
    (wGROUP_DIAMETER : W .GROUP_DIAMETER) (wTRIM_MODE : W .TRIM_MODE) (qgrp : Q .grp) (h : Fr W Q z s) :
    ∀ t, execTrimEnd g s = .next t → Fr W Q z t := by
  unfold execTrimEnd
  repeat' first
    | with_reducible refine next_kept ?_ | with_reducible assumption | with_reducible refine State.when_kept ?_ ?_
    | with_reducible apply State.modG_frame | with_reducible apply State.setIslands_frame
    | with_reducible apply State.showTrim_frame | split | dsimp only | intro _

theorem execAlignFail_frame {g : Nat} {s : State} (wALIGN_FAILS : W .ALIGN_FAILS) (qflt : Q .flt)
    (qgrp : Q .grp) (h : Fr W Q z s) :
    ∀ t, execAlignFail g s = .next t → Fr W Q z t := by
  unfold execAlignFail
  repeat' first
    | with_reducible refine next_kept ?_ | with_reducible assumption | with_reducible refine State.when_kept ?_ ?_
    | with_reducible apply State.modG_frame | with_reducible apply State.inc_frame
    | with_reducible apply State.raiseFault_frame | split | dsimp only | intro _

theorem State.armCells_frame {s : State} (wXING_FENCE : W .XING_FENCE) (qcell : Q .cell) (h : Fr W Q z s) :
    Fr W Q z (State.armCells s) := by
  unfold State.armCells
  repeat' first
    | with_reducible assumption | with_reducible refine State.each_kept ?_ ?_
    | with_reducible refine State.when_kept ?_ ?_ | with_reducible apply State.wr_frame
    | with_reducible apply State.modC_frame | split | dsimp only | intro _

/-! ### Region -/

theorem execRegionCycle_frame {n : Nat} {io : CycleIn} {s : State} (wDS_STATUS : W .DS_STATUS)
    (wDS_TRIPS : W .DS_TRIPS) (wINJ_ARM : W .INJ_ARM) (wINJ_COUNT : W .INJ_COUNT) (wINJ_RESULT : W .INJ_RESULT)
    (wREGION_COUNT : W .REGION_COUNT) (wREGION_TIME : W .REGION_TIME) (wSLIP : W .SLIP)
    (wSTRETCH_E_CAP : W .STRETCH_E_CAP) (wSTRETCH_E_DROOP : W .STRETCH_E_DROOP)
    (wSTRETCH_E_FLOOR : W .STRETCH_E_FLOOR) (wSTRETCH_E_TETHER : W .STRETCH_E_TETHER)
    (wSTRETCH_HOLDS : W .STRETCH_HOLDS) (wSTRETCH_P2 : W .STRETCH_P2) (wSTRETCH_P4 : W .STRETCH_P4)
    (wSTRETCH_P8 : W .STRETCH_P8) (wSTRETCH_REFUSED : W .STRETCH_REFUSED) (wTETHER_ENGAGES : W .TETHER_ENGAGES)
    (wTETHER_STATUS : W .TETHER_STATUS) (wTETHER_UNATTRIB : W .TETHER_UNATTRIB) (wXING_REFUSED : W .XING_REFUSED)
    (qflt : Q .flt) (qinj : Q .inj) (qrgn : Q .rgn) (qest : Q .est) (qcell : Q .cell) (h : Fr W Q z s) :
    ∀ t, execRegionCycle n io s = .next t → Fr W Q z t := by
  unfold execRegionCycle
  repeat' first
    | with_reducible refine next_kept ?_ | with_reducible assumption | with_reducible refine State.when_kept ?_ ?_
    | with_reducible apply State.cycle_frame | split | dsimp only | intro _

theorem execFllGateEnd_frame {n : Nat} {s : State} (wOSC_CEILING_TIME : W .OSC_CEILING_TIME)
    (wOSC_PERMIT_MAX : W .OSC_PERMIT_MAX) (wOSC_STATUS : W .OSC_STATUS) (qrgn : Q .rgn) (h : Fr W Q z s) :
    ∀ t, execFllGateEnd n s = .next t → Fr W Q z t := by
  unfold execFllGateEnd
  repeat' first
    | with_reducible refine next_kept ?_ | with_reducible assumption | with_reducible refine State.when_kept ?_ ?_
    | with_reducible apply State.gateEnd_frame | split | dsimp only | intro _

theorem execSigmaDeltaSlot_frame {n : Nat} {s : State} (wOSC_CODE : W .OSC_CODE) (qrgn : Q .rgn)
    (h : Fr W Q z s) :
    ∀ t, execSigmaDeltaSlot n s = .next t → Fr W Q z t := by
  unfold execSigmaDeltaSlot
  repeat' first
    | with_reducible refine next_kept ?_ | with_reducible assumption | with_reducible refine State.when_kept ?_ ?_
    | with_reducible apply State.sigmaDelta_frame | split | dsimp only | intro _

theorem execOscUnlock_frame {n : Nat} {s : State} (wOSC_UNLOCKS : W .OSC_UNLOCKS) (qrgn : Q .rgn)
    (h : Fr W Q z s) :
    ∀ t, execOscUnlock n s = .next t → Fr W Q z t := by
  unfold execOscUnlock
  repeat' first
    | with_reducible refine next_kept ?_ | with_reducible assumption | with_reducible refine State.when_kept ?_ ?_
    | with_reducible apply State.inc_frame | with_reducible apply State.modR_frame | split | dsimp only | intro _

theorem execOscCeiling_frame {n : Nat} {s : State} (wALERT_STATUS : W .ALERT_STATUS)
    (wEVENT_NEXT : W .EVENT_NEXT) (wEVENT_OVERWRITTEN : W .EVENT_OVERWRITTEN) (wEVENT_PAGE : W .EVENT_PAGE)
    (wEVENT_SEQ : W .EVENT_SEQ) (qflt : Q .flt) (qrgn : Q .rgn) (h : Fr W Q z s) :
    ∀ t, execOscCeiling n s = .next t → Fr W Q z t := by
  unfold execOscCeiling
  repeat' first
    | with_reducible refine next_kept ?_ | with_reducible assumption | with_reducible refine State.when_kept ?_ ?_
    | with_reducible apply State.event_frame | with_reducible apply State.modR_frame | split | dsimp only | intro _

theorem execCalOffsetUpdate_frame {n : Nat} {s : State} (wCAL_OFFSET : W .CAL_OFFSET) (h : Fr W Q z s) :
    ∀ t, execCalOffsetUpdate n s = .next t → Fr W Q z t := by
  unfold execCalOffsetUpdate
  repeat' first
    | with_reducible refine next_kept ?_ | with_reducible assumption | with_reducible refine State.when_kept ?_ ?_
    | with_reducible apply State.learnOffset_frame | split | dsimp only | intro _

theorem execHeadroomReport_frame {n : Nat} {s : State} (wOSC_FREQ_NAT : W .OSC_FREQ_NAT)
    (wOSC_HEADROOM : W .OSC_HEADROOM) (wOSC_LOOP_ERR : W .OSC_LOOP_ERR) (qrgn : Q .rgn) (h : Fr W Q z s) :
    ∀ t, execHeadroomReport n s = .next t → Fr W Q z t := by
  unfold execHeadroomReport
  repeat' first
    | with_reducible refine next_kept ?_ | with_reducible assumption | with_reducible refine State.when_kept ?_ ?_
    | with_reducible apply State.headroomReport_frame | split | dsimp only | intro _

theorem execAgeDue_frame {n : Nat} {s : State} (wAGE_POWERED_H : W .AGE_POWERED_H) (wOSC_STATUS : W .OSC_STATUS)
    (qrgn : Q .rgn) (h : Fr W Q z s) :
    ∀ t, execAgeDue n s = .next t → Fr W Q z t := by
  unfold execAgeDue
  repeat' first
    | with_reducible refine next_kept ?_ | with_reducible assumption | with_reducible refine State.when_kept ?_ ?_
    | with_reducible apply State.countHours_frame | with_reducible apply State.setOsc_frame | split | dsimp only
    | intro _

theorem execAgeSampleDone_frame {n : Nat} {ratio : Nat} {s : State} (wAGE_DEGRADE_LAST : W .AGE_DEGRADE_LAST)
    (wAGE_DEGRADE_PREV : W .AGE_DEGRADE_PREV) (wAGE_GUARD : W .AGE_GUARD) (wAGE_POWERED_H : W .AGE_POWERED_H)
    (wAGE_RATIO_LAST : W .AGE_RATIO_LAST) (wAGE_SAMPLE_H : W .AGE_SAMPLE_H) (wAGE_SAMPLE_REQ : W .AGE_SAMPLE_REQ)
    (wOSC_STATUS : W .OSC_STATUS) (qrgn : Q .rgn) (qdict : Q .dict) (h : Fr W Q z s) :
    ∀ t, execAgeSampleDone n ratio s = .next t → Fr W Q z t := by
  unfold execAgeSampleDone
  repeat' first
    | with_reducible refine next_kept ?_ | with_reducible assumption | with_reducible refine State.each_kept ?_ ?_
    | with_reducible refine State.when_kept ?_ ?_ | with_reducible apply State.ageSampled_frame
    | with_reducible apply State.dirtyNow_frame | with_reducible apply State.wr_frame | split | dsimp only | intro _

theorem execStartFail_frame {n : Nat} {s : State} (wOSC_STATUS : W .OSC_STATUS) (qflt : Q .flt) (h : Fr W Q z s) :
    ∀ t, execStartFail n s = .next t → Fr W Q z t := by
  unfold execStartFail
  repeat' first
    | with_reducible refine next_kept ?_ | with_reducible assumption | with_reducible refine State.when_kept ?_ ?_
    | with_reducible apply State.setOsc_frame | with_reducible apply State.raiseFault_frame | split | dsimp only
    | intro _

theorem execCountRelease_frame {n : Nat} {s : State} (wOSC_STATUS : W .OSC_STATUS)
    (wREGION_COUNT : W .REGION_COUNT) (wUNIT_READY : W .UNIT_READY) (qrgn : Q .rgn) (qest : Q .est)
    (qcell : Q .cell) (h : Fr W Q z s) :
    ∀ t, execCountRelease n s = .next t → Fr W Q z t := by
  unfold execCountRelease
  repeat' first
    | with_reducible refine next_kept ?_ | with_reducible assumption | with_reducible refine State.when_kept ?_ ?_
    | with_reducible apply State.releaseCount_frame | with_reducible apply State.joinCells_frame
    | with_reducible apply State.modE_frame | with_reducible apply State.setReady_frame | split | dsimp only | intro _

theorem execDroopTrip_frame {n : Nat} {readings : List (Nat × Nat)} {early : Bool} {s : State}
    (wDS_COUNT_ONLY_TRIPS : W .DS_COUNT_ONLY_TRIPS) (wDS_STATUS : W .DS_STATUS) (wDS_TRIPS : W .DS_TRIPS)
    (wSTRETCH_E_CAP : W .STRETCH_E_CAP) (wSTRETCH_E_DROOP : W .STRETCH_E_DROOP)
    (wSTRETCH_E_FLOOR : W .STRETCH_E_FLOOR) (wSTRETCH_E_TETHER : W .STRETCH_E_TETHER)
    (wSTRETCH_HOLDS : W .STRETCH_HOLDS) (wSTRETCH_P2 : W .STRETCH_P2) (wSTRETCH_P4 : W .STRETCH_P4)
    (wSTRETCH_P8 : W .STRETCH_P8) (wSTRETCH_REFUSED : W .STRETCH_REFUSED) (wTETHER_UNATTRIB : W .TETHER_UNATTRIB)
    (qrgn : Q .rgn) (qest : Q .est) (h : Fr W Q z s) :
    ∀ t, execDroopTrip n readings early s = .next t → Fr W Q z t := by
  unfold execDroopTrip
  repeat' first
    | with_reducible refine next_kept ?_ | with_reducible assumption | with_reducible refine State.when_kept ?_ ?_
    | with_reducible apply State.sample_frame | split | dsimp only | intro _

theorem execDroopRunEnd_frame {n : Nat} {s : State} (wDS_STATUS : W .DS_STATUS) (wDS_TRIPS : W .DS_TRIPS)
    (qrgn : Q .rgn) (h : Fr W Q z s) :
    ∀ t, execDroopRunEnd n s = .next t → Fr W Q z t := by
  unfold execDroopRunEnd
  repeat' first
    | with_reducible refine next_kept ?_ | with_reducible assumption | with_reducible refine State.when_kept ?_ ?_
    | with_reducible apply State.endRun_frame | split | dsimp only | intro _

theorem execDsStuck_frame {n : Nat} {sensor : Nat} {s : State} (wALERT_STATUS : W .ALERT_STATUS)
    (wDS_QUARANTINE : W .DS_QUARANTINE) (wDS_STATUS : W .DS_STATUS) (wDS_STUCK_EVENTS : W .DS_STUCK_EVENTS)
    (wEVENT_NEXT : W .EVENT_NEXT) (wEVENT_OVERWRITTEN : W .EVENT_OVERWRITTEN) (wEVENT_PAGE : W .EVENT_PAGE)
    (wEVENT_SEQ : W .EVENT_SEQ) (wRUN_STATUS : W .RUN_STATUS) (qflt : Q .flt) (qrgn : Q .rgn) (qdict : Q .dict)
    (h : Fr W Q z s) :
    ∀ t, execDsStuck n sensor s = .next t → Fr W Q z t := by
  unfold execDsStuck
  repeat' first
    | with_reducible refine next_kept ?_ | with_reducible assumption | with_reducible refine State.when_kept ?_ ?_
    | with_reducible apply State.quarantine_frame | split | dsimp only | intro _

theorem execPark_frame {n : Nat} {s : State} (wDS_STATUS : W .DS_STATUS) (wTETHER_STATUS : W .TETHER_STATUS)
    (qrgn : Q .rgn) (qgrp : Q .grp) (h : Fr W Q z s) :
    ∀ t, execPark n s = .next t → Fr W Q z t := by
  unfold execPark
  repeat' first
    | with_reducible refine next_kept ?_ | with_reducible assumption | with_reducible refine State.when_kept ?_ ?_
    | with_reducible apply State.parkHold_frame | split | dsimp only | intro _

theorem execParkRelease_frame {n : Nat} {s : State} (wDS_STATUS : W .DS_STATUS) (wREGION_TIME : W .REGION_TIME)
    (wSTRETCH_E_FLOOR : W .STRETCH_E_FLOOR) (wSTRETCH_HOLDS : W .STRETCH_HOLDS) (qrgn : Q .rgn) (qest : Q .est)
    (h : Fr W Q z s) :
    ∀ t, execParkRelease n s = .next t → Fr W Q z t := by
  unfold execParkRelease
  repeat' first
    | with_reducible refine next_kept ?_ | with_reducible assumption | with_reducible refine State.when_kept ?_ ?_
    | with_reducible apply State.parkEnd_frame | split | dsimp only | intro _

theorem execSlipFault_frame {n : Nat} {edge : Nat} {s : State} (wSLIP_FAULTS : W .SLIP_FAULTS)
    (wTETHER_STATUS : W .TETHER_STATUS) (qflt : Q .flt) (qrgn : Q .rgn) (h : Fr W Q z s) :
    ∀ t, execSlipFault n edge s = .next t → Fr W Q z t := by
  unfold execSlipFault
  repeat' first
    | with_reducible refine next_kept ?_ | with_reducible assumption | with_reducible refine State.when_kept ?_ ?_
    | with_reducible apply State.setFlag_frame | with_reducible apply State.inc_frame
    | with_reducible apply State.modR_frame | with_reducible apply State.raiseFault_frame | split | dsimp only
    | intro _

theorem execCauseTagExpiry_frame {n : Nat} {s : State} (qrgn : Q .rgn) (h : Fr W Q z s) :
    ∀ t, execCauseTagExpiry n s = .next t → Fr W Q z t := by
  unfold execCauseTagExpiry
  repeat' first
    | with_reducible refine next_kept ?_ | with_reducible assumption | with_reducible refine State.when_kept ?_ ?_
    | with_reducible apply State.modR_frame | split | dsimp only | intro _

/-! ### Change -/

theorem State.setChg_frame {s : State} {g : Nat} {c : Chg} (wGROUP_CHG_STATE : W .GROUP_CHG_STATE)
    (h : Fr W Q z s) :
    Fr W Q z (State.setChg s g c) := by
  unfold State.setChg
  repeat' first
    | with_reducible assumption | with_reducible apply State.wr_frame | split

theorem State.abortStep_frame {s : State} {g : Nat} {result : Nat} (wFIELD_VNEED : W .FIELD_VNEED)
    (wFIELD_VOLT : W .FIELD_VOLT) (wFIELD_VOLT_AT_CEIL : W .FIELD_VOLT_AT_CEIL)
    (wGROUP_CHG_ABORTS : W .GROUP_CHG_ABORTS) (wGROUP_CHG_RESULT : W .GROUP_CHG_RESULT)
    (wGROUP_CHG_STATE : W .GROUP_CHG_STATE) (wRAIL_RETRIES : W .RAIL_RETRIES) (wRAIL_STATUS : W .RAIL_STATUS)
    (qfld : Q .fld) (qgrp : Q .grp) (qlink : Q .link) (qrail : Q .rail) (h : Fr W Q z s) :
    Fr W Q z (State.abortStep s g result) := by
  unfold State.abortStep
  repeat' first
    | with_reducible assumption | with_reducible refine State.when_kept ?_ ?_ | with_reducible apply State.modG_frame
    | with_reducible apply State.wr_frame | with_reducible apply State.inc_frame
    | with_reducible apply State.setChg_frame | with_reducible apply State.startRecoveries_frame | split | dsimp only
    | intro _

theorem State.newTarget_frame {s : State} {g : Nat} {tgt : Nat} (wFIELD_VNEED : W .FIELD_VNEED)
    (wFIELD_VOLT : W .FIELD_VOLT) (wFIELD_VOLT_AT_CEIL : W .FIELD_VOLT_AT_CEIL)
    (wGROUP_CHG_ABORTS : W .GROUP_CHG_ABORTS) (wGROUP_CHG_RESULT : W .GROUP_CHG_RESULT)
    (wGROUP_CHG_STATE : W .GROUP_CHG_STATE) (wGROUP_TARGET_N : W .GROUP_TARGET_N) (wRAIL_RETRIES : W .RAIL_RETRIES)
    (wRAIL_STATUS : W .RAIL_STATUS) (qfld : Q .fld) (qgrp : Q .grp) (qlink : Q .link) (qrail : Q .rail)
    (h : Fr W Q z s) :
    Fr W Q z (State.newTarget s g tgt) := by
  unfold State.newTarget
  repeat' first
    | with_reducible assumption | with_reducible apply State.modG_frame | with_reducible apply State.wr_frame
    | with_reducible apply State.abortStep_frame | split | dsimp only

theorem State.retarget_frame {s : State} {g : Nat} (wFIELD_VNEED : W .FIELD_VNEED) (wFIELD_VOLT : W .FIELD_VOLT)
    (wFIELD_VOLT_AT_CEIL : W .FIELD_VOLT_AT_CEIL) (wGROUP_CEIL_REASON : W .GROUP_CEIL_REASON)
    (wGROUP_CHG_ABORTS : W .GROUP_CHG_ABORTS) (wGROUP_CHG_RESULT : W .GROUP_CHG_RESULT)
    (wGROUP_CHG_STATE : W .GROUP_CHG_STATE) (wGROUP_TARGET_N : W .GROUP_TARGET_N)
    (wOP_CEIL_ENTRY : W .OP_CEIL_ENTRY) (wRAIL_RETRIES : W .RAIL_RETRIES) (wRAIL_STATUS : W .RAIL_STATUS)
    (qfld : Q .fld) (qgrp : Q .grp) (qlink : Q .link) (qrail : Q .rail) (h : Fr W Q z s) :
    Fr W Q z (State.retarget s g) := by
  unfold State.retarget
  repeat' first
    | with_reducible assumption | with_reducible apply State.showCeiling_frame
    | with_reducible apply State.newTarget_frame | split | dsimp only

theorem State.retargetAll_frame {s : State} (wFIELD_VNEED : W .FIELD_VNEED) (wFIELD_VOLT : W .FIELD_VOLT)
    (wFIELD_VOLT_AT_CEIL : W .FIELD_VOLT_AT_CEIL) (wGROUP_CEIL_REASON : W .GROUP_CEIL_REASON)
    (wGROUP_CHG_ABORTS : W .GROUP_CHG_ABORTS) (wGROUP_CHG_RESULT : W .GROUP_CHG_RESULT)
    (wGROUP_CHG_STATE : W .GROUP_CHG_STATE) (wGROUP_TARGET_N : W .GROUP_TARGET_N)
    (wOP_CEIL_ENTRY : W .OP_CEIL_ENTRY) (wRAIL_RETRIES : W .RAIL_RETRIES) (wRAIL_STATUS : W .RAIL_STATUS)
    (qfld : Q .fld) (qgrp : Q .grp) (qlink : Q .link) (qrail : Q .rail) (h : Fr W Q z s) :
    Fr W Q z (State.retargetAll s) := by
  unfold State.retargetAll
  repeat' first
    | with_reducible assumption | with_reducible refine State.each_kept ?_ ?_
    | with_reducible apply State.retarget_frame | split | dsimp only | intro _

theorem State.requestAll_frame {s : State} {l : List (Nat × Nat)} (wFIELD_VOLT : W .FIELD_VOLT)
    (wRAIL_RETRIES : W .RAIL_RETRIES) (wRAIL_STATUS : W .RAIL_STATUS) (qfld : Q .fld) (qlink : Q .link)
    (qrail : Q .rail) (h : Fr W Q z s) :
    Fr W Q z (State.requestAll s l) := by
  unfold State.requestAll
  repeat' first
    | with_reducible assumption | with_reducible refine State.each_kept ?_ ?_
    | with_reducible apply State.requestVolt_frame | split | dsimp only | intro _

theorem State.lowerAll_frame {s : State} {l : List (Nat × Nat)} (wFIELD_VOLT : W .FIELD_VOLT)
    (wRAIL_RETRIES : W .RAIL_RETRIES) (wRAIL_STATUS : W .RAIL_STATUS) (qfld : Q .fld) (qlink : Q .link)
    (qrail : Q .rail) (h : Fr W Q z s) :
    Fr W Q z (State.lowerAll s l) := by
  unfold State.lowerAll
  repeat' first
    | with_reducible assumption | with_reducible refine State.each_kept ?_ ?_
    | with_reducible apply State.requestAll_frame | with_reducible apply State.modF_frame | split | dsimp only
    | intro _

theorem State.endStep_frame {s : State} {g : Nat} {st : GStep} (wFIELD_VNEED : W .FIELD_VNEED)
    (wFIELD_VOLT : W .FIELD_VOLT) (wFIELD_VOLT_AT_CEIL : W .FIELD_VOLT_AT_CEIL)
    (wGROUP_CHG_ABORTS : W .GROUP_CHG_ABORTS) (wGROUP_CHG_RESULT : W .GROUP_CHG_RESULT)
    (wGROUP_CHG_STATE : W .GROUP_CHG_STATE) (wGROUP_CHG_STEPS : W .GROUP_CHG_STEPS) (wGROUP_N : W .GROUP_N)
    (wRAIL_RETRIES : W .RAIL_RETRIES) (wRAIL_STATUS : W .RAIL_STATUS) (qfld : Q .fld) (qgrp : Q .grp)
    (qlink : Q .link) (qrail : Q .rail) (h : Fr W Q z s) :
    Fr W Q z (State.endStep s g st) := by
  unfold State.endStep
  repeat' first
    | with_reducible assumption | with_reducible apply State.modG_frame | with_reducible apply State.wr_frame
    | with_reducible apply State.inc_frame | with_reducible apply State.setChg_frame
    | with_reducible apply State.startRecoveries_frame | with_reducible apply State.lowerAll_frame | split

theorem State.broadcastStep_frame {s : State} {g : Nat} {st : GStep} (wFIELD_VNEED : W .FIELD_VNEED)
    (wFIELD_VOLT : W .FIELD_VOLT) (wFIELD_VOLT_AT_CEIL : W .FIELD_VOLT_AT_CEIL)
    (wGROUP_CHG_ABORTS : W .GROUP_CHG_ABORTS) (wGROUP_CHG_C : W .GROUP_CHG_C)
    (wGROUP_CHG_RESULT : W .GROUP_CHG_RESULT) (wGROUP_CHG_STATE : W .GROUP_CHG_STATE)
    (wGROUP_CHG_STEPS : W .GROUP_CHG_STEPS) (wGROUP_N : W .GROUP_N) (wRAIL_RETRIES : W .RAIL_RETRIES)
    (wRAIL_STATUS : W .RAIL_STATUS) (qfld : Q .fld) (qgrp : Q .grp) (qlink : Q .link) (qrail : Q .rail)
    (h : Fr W Q z s) :
    Fr W Q z (State.broadcastStep s g st) := by
  unfold State.broadcastStep
  repeat' first
    | with_reducible assumption | with_reducible apply State.endStep_frame | with_reducible apply State.modG_frame
    | with_reducible apply State.wr_frame | with_reducible apply State.setChg_frame | split

theorem State.predictAll_frame {s : State} {nw : Nat} {l : List Nat} (wFIELD_VNEED : W .FIELD_VNEED)
    (wFIELD_VOLT_AT_CEIL : W .FIELD_VOLT_AT_CEIL) (h : Fr W Q z s) :
    Fr W Q z (State.predictAll s nw l).2 := by
  have fold : ∀ (l : List Nat) (a : Tab Nat × State), Fr W Q z a.2 →
      Fr W Q z (l.foldl (fun (a : Tab Nat × State) f =>
        (a.1 ++ [(f, (a.2.predictVolt f nw none).1)], (a.2.predictVolt f nw none).2)) a).2 := by
    intro l
    induction l with
    | nil => exact fun a ha => ha
    | cons x r ih => exact fun a ha => ih _ (by apply State.predictVolt_frame <;> assumption)
  exact fold l _ h

theorem State.startStep_frame {s : State} {g : Nat} (wFIELD_VNEED : W .FIELD_VNEED)
    (wFIELD_VOLT : W .FIELD_VOLT) (wFIELD_VOLT_AT_CEIL : W .FIELD_VOLT_AT_CEIL)
    (wGROUP_CHG_ABORTS : W .GROUP_CHG_ABORTS) (wGROUP_CHG_C : W .GROUP_CHG_C)
    (wGROUP_CHG_RESULT : W .GROUP_CHG_RESULT) (wGROUP_CHG_STATE : W .GROUP_CHG_STATE)
    (wGROUP_CHG_STEPS : W .GROUP_CHG_STEPS) (wGROUP_N : W .GROUP_N) (wGROUP_TARGET_N : W .GROUP_TARGET_N)
    (wRAIL_RETRIES : W .RAIL_RETRIES) (wRAIL_STATUS : W .RAIL_STATUS) (qfld : Q .fld) (qgrp : Q .grp)
    (qlink : Q .link) (qrail : Q .rail) (h : Fr W Q z s) :
    Fr W Q z (State.startStep s g) := by
  unfold State.startStep
  repeat' first
    | with_reducible assumption | with_reducible apply State.wr_frame | with_reducible apply State.modG_frame
    | with_reducible apply State.predictAll_frame | with_reducible apply State.setChg_frame
    | with_reducible apply State.broadcastStep_frame | with_reducible apply State.requestAll_frame | split
    | dsimp only

theorem execGroupTarget_frame {g : Nat} {target : Nat} {s : State} (wFIELD_VNEED : W .FIELD_VNEED)
    (wFIELD_VOLT : W .FIELD_VOLT) (wFIELD_VOLT_AT_CEIL : W .FIELD_VOLT_AT_CEIL)
    (wGROUP_CHG_ABORTS : W .GROUP_CHG_ABORTS) (wGROUP_CHG_RESULT : W .GROUP_CHG_RESULT)
    (wGROUP_CHG_STATE : W .GROUP_CHG_STATE) (wGROUP_TARGET_N : W .GROUP_TARGET_N) (wRAIL_RETRIES : W .RAIL_RETRIES)
    (wRAIL_STATUS : W .RAIL_STATUS) (qfld : Q .fld) (qgrp : Q .grp) (qlink : Q .link) (qrail : Q .rail)
    (h : Fr W Q z s) :
    ∀ t, execGroupTarget g target s = .next t → Fr W Q z t := by
  unfold execGroupTarget
  repeat' first
    | with_reducible refine next_kept ?_ | with_reducible assumption | with_reducible refine State.when_kept ?_ ?_
    | with_reducible apply State.newTarget_frame | split | dsimp only | intro _

theorem execGroupStepStart_frame {g : Nat} {s : State} (wFIELD_VNEED : W .FIELD_VNEED)
    (wFIELD_VOLT : W .FIELD_VOLT) (wFIELD_VOLT_AT_CEIL : W .FIELD_VOLT_AT_CEIL)
    (wGROUP_CHG_ABORTS : W .GROUP_CHG_ABORTS) (wGROUP_CHG_C : W .GROUP_CHG_C)
    (wGROUP_CHG_RESULT : W .GROUP_CHG_RESULT) (wGROUP_CHG_STATE : W .GROUP_CHG_STATE)
    (wGROUP_CHG_STEPS : W .GROUP_CHG_STEPS) (wGROUP_N : W .GROUP_N) (wGROUP_TARGET_N : W .GROUP_TARGET_N)
    (wRAIL_RETRIES : W .RAIL_RETRIES) (wRAIL_STATUS : W .RAIL_STATUS) (qfld : Q .fld) (qgrp : Q .grp)
    (qlink : Q .link) (qrail : Q .rail) (h : Fr W Q z s) :
    ∀ t, execGroupStepStart g s = .next t → Fr W Q z t := by
  unfold execGroupStepStart
  repeat' first
    | with_reducible refine next_kept ?_ | with_reducible assumption | with_reducible refine State.when_kept ?_ ?_
    | with_reducible apply State.startStep_frame | split | dsimp only | intro _

theorem State.syncQreq_frame {s : State} {quiesce : Bool} {n : Nat} {epoch : Nat}
    (wSY_QUIESCES : W .SY_QUIESCES) (qstop : Q .stop) (h : Fr W Q z s) :
    Fr W Q z (State.syncQreq s quiesce n epoch) := by
  unfold State.syncQreq
  repeat' first
    | with_reducible assumption | with_reducible refine State.when_kept ?_ ?_ | with_reducible apply State.inc_frame
    | split | dsimp only | intro _ | with_reducible apply Fr.lit | with_reducible exact Or.inl (by assumption)
    | with_reducible exact Or.inr rfl

theorem State.setStop_frame {s : State} {n : Nat} {c : StopSt} (wREGION_STOP_STATE : W .REGION_STOP_STATE)
    (h : Fr W Q z s) :
    Fr W Q z (State.setStop s n c) := by
  unfold State.setStop
  repeat' first
    | with_reducible assumption | with_reducible apply State.wr_frame

theorem State.nextStop_frame {s : State} {keep : Bool} (wFIELD_VNEED : W .FIELD_VNEED)
    (wFIELD_VOLT : W .FIELD_VOLT) (wFIELD_VOLT_AT_CEIL : W .FIELD_VOLT_AT_CEIL) (wRAIL_RETRIES : W .RAIL_RETRIES)
    (wRAIL_STATUS : W .RAIL_STATUS) (qfld : Q .fld) (qlink : Q .link) (qrail : Q .rail) (qstop : Q .stop)
    (h : Fr W Q z s) :
    Fr W Q z (State.nextStop s keep) := by
  unfold State.nextStop
  repeat' first
    | with_reducible assumption | with_reducible apply State.freeVolt_frame | split | dsimp only | intro _
    | with_reducible apply Fr.lit | with_reducible exact Or.inl (by assumption) | with_reducible exact Or.inr rfl

theorem State.abortStop_frame {s : State} {x : RStop} {result : Nat} (wFIELD_VNEED : W .FIELD_VNEED)
    (wFIELD_VOLT : W .FIELD_VOLT) (wFIELD_VOLT_AT_CEIL : W .FIELD_VOLT_AT_CEIL) (wRAIL_RETRIES : W .RAIL_RETRIES)
    (wRAIL_STATUS : W .RAIL_STATUS) (wREGION_STOP_ABORTS : W .REGION_STOP_ABORTS)
    (wREGION_STOP_RESULT : W .REGION_STOP_RESULT) (wREGION_STOP_STATE : W .REGION_STOP_STATE) (qfld : Q .fld)
    (qlink : Q .link) (qrail : Q .rail) (qstop : Q .stop) (h : Fr W Q z s) :
    Fr W Q z (State.abortStop s x result) := by
  unfold State.abortStop
  repeat' first
    | with_reducible assumption | with_reducible apply State.wr_frame | with_reducible apply State.inc_frame
    | with_reducible apply State.setStop_frame | with_reducible apply State.nextStop_frame

theorem State.acceptStop_frame {s : State} {n : Nat} {t : Nat} (wREGION_STOP_STATE : W .REGION_STOP_STATE)
    (qstop : Q .stop) (h : Fr W Q z s) :
    Fr W Q z (State.acceptStop s n t) := by
  unfold State.acceptStop
  repeat' first
    | with_reducible assumption | with_reducible apply State.setStop_frame | split | dsimp only | intro _
    | with_reducible apply Fr.lit | with_reducible exact Or.inl (by assumption) | with_reducible exact Or.inr rfl

theorem State.sendQuiesce_frame {s : State} {x : RStop} (wREGION_STOP_STATE : W .REGION_STOP_STATE)
    (wSY_QUIESCES : W .SY_QUIESCES) (qstop : Q .stop) (h : Fr W Q z s) :
    Fr W Q z (State.sendQuiesce s x) := by
  unfold State.sendQuiesce
  repeat' first
    | with_reducible assumption | with_reducible apply State.syncQreq_frame | with_reducible apply State.setStop_frame
    | split | dsimp only | intro _ | with_reducible apply Fr.lit | with_reducible exact Or.inl (by assumption)
    | with_reducible exact Or.inr rfl

theorem State.startStop_frame {s : State} {x : RStop} (wFIELD_VNEED : W .FIELD_VNEED)
    (wFIELD_VOLT : W .FIELD_VOLT) (wFIELD_VOLT_AT_CEIL : W .FIELD_VOLT_AT_CEIL) (wRAIL_RETRIES : W .RAIL_RETRIES)
    (wRAIL_STATUS : W .RAIL_STATUS) (wREGION_STOP_ABORTS : W .REGION_STOP_ABORTS)
    (wREGION_STOP_RESULT : W .REGION_STOP_RESULT) (wREGION_STOP_STATE : W .REGION_STOP_STATE)
    (wSY_QUIESCES : W .SY_QUIESCES) (qfld : Q .fld) (qlink : Q .link) (qrail : Q .rail) (qstop : Q .stop)
    (h : Fr W Q z s) :
    Fr W Q z (State.startStop s x) := by
  unfold State.startStop
  repeat' first
    | with_reducible assumption | with_reducible apply State.abortStop_frame
    | with_reducible apply State.predictVolt_frame | with_reducible apply State.requestVolt_frame
    | with_reducible apply State.setStop_frame | with_reducible apply State.sendQuiesce_frame | split | dsimp only
    | intro _ | with_reducible apply Fr.lit | with_reducible exact Or.inl (by assumption)
    | with_reducible exact Or.inr rfl

theorem execRegionStopStart_frame {s : State} (wFIELD_VNEED : W .FIELD_VNEED) (wFIELD_VOLT : W .FIELD_VOLT)
    (wFIELD_VOLT_AT_CEIL : W .FIELD_VOLT_AT_CEIL) (wRAIL_RETRIES : W .RAIL_RETRIES) (wRAIL_STATUS : W .RAIL_STATUS)
    (wREGION_STOP_ABORTS : W .REGION_STOP_ABORTS) (wREGION_STOP_RESULT : W .REGION_STOP_RESULT)
    (wREGION_STOP_STATE : W .REGION_STOP_STATE) (wSY_QUIESCES : W .SY_QUIESCES) (qfld : Q .fld) (qlink : Q .link)
    (qrail : Q .rail) (qstop : Q .stop) (h : Fr W Q z s) :
    ∀ t, execRegionStopStart s = .next t → Fr W Q z t := by
  unfold execRegionStopStart
  repeat' first
    | with_reducible refine next_kept ?_ | with_reducible assumption | with_reducible refine State.when_kept ?_ ?_
    | with_reducible apply State.startStop_frame | split | dsimp only | intro _

theorem State.quiesceAck_frame {s : State} {epoch : Nat} (wQUIESCE_STALE_ACKS : W .QUIESCE_STALE_ACKS)
    (wSY_QACKS : W .SY_QACKS) (qstop : Q .stop) (h : Fr W Q z s) :
    Fr W Q z (State.quiesceAck s epoch) := by
  unfold State.quiesceAck
  repeat' first
    | with_reducible assumption | with_reducible apply State.inc_frame | split | dsimp only | intro _
    | with_reducible apply Fr.lit | with_reducible exact Or.inl (by assumption) | with_reducible exact Or.inr rfl

theorem execQuiesceAck_frame {epoch : Nat} {s : State} (wQUIESCE_STALE_ACKS : W .QUIESCE_STALE_ACKS)
    (wSY_QACKS : W .SY_QACKS) (qstop : Q .stop) (qports : Q .ports) (h : Fr W Q z s) :
    ∀ t, execQuiesceAck epoch s = .next t → Fr W Q z t := by
  unfold execQuiesceAck
  repeat' first
    | with_reducible refine next_kept ?_ | with_reducible assumption | with_reducible apply State.syHold_frame
    | with_reducible apply State.quiesceAck_frame | split

theorem State.lowerReq_frame {s : State} {n : Nat} (qcell : Q .cell) (h : Fr W Q z s) :
    Fr W Q z (State.lowerReq s n) := by
  unfold State.lowerReq
  repeat' first
    | with_reducible assumption | with_reducible refine State.each_kept ?_ ?_ | with_reducible apply State.modC_frame
    | split | dsimp only | intro _

theorem execStopCommand_frame {n : Nat} {s : State} (qcell : Q .cell) (qstop : Q .stop) (h : Fr W Q z s) :
    ∀ t, execStopCommand n s = .next t → Fr W Q z t := by
  unfold execStopCommand
  repeat' first
    | with_reducible refine next_kept ?_ | with_reducible assumption | with_reducible refine State.when_kept ?_ ?_
    | with_reducible apply State.raiseReq_frame | split | dsimp only | intro _ | with_reducible apply Fr.lit
    | with_reducible exact Or.inl (by assumption) | with_reducible exact Or.inr rfl

theorem execStopAck_frame {n : Nat} {s : State} (wDS_STATUS : W .DS_STATUS) (wOSC_CODE : W .OSC_CODE)
    (wOSC_STATUS : W .OSC_STATUS) (wOSC_TARGET_N : W .OSC_TARGET_N) (wREGION_STOPS : W .REGION_STOPS)
    (wREGION_STOP_STATE : W .REGION_STOP_STATE) (wSLIP : W .SLIP) (wTETHER_STATUS : W .TETHER_STATUS)
    (qrgn : Q .rgn) (qgrp : Q .grp) (qstop : Q .stop) (h : Fr W Q z s) :
    ∀ t, execStopAck n s = .next t → Fr W Q z t := by
  unfold execStopAck
  repeat' first
    | with_reducible refine next_kept ?_ | with_reducible assumption | with_reducible refine State.when_kept ?_ ?_
    | with_reducible apply State.stopClock_frame | with_reducible apply State.loadSeed_frame
    | with_reducible apply State.setStop_frame | with_reducible apply State.inc_frame
    | with_reducible apply State.unobserve_frame | split | dsimp only | intro _ | with_reducible apply Fr.lit
    | with_reducible exact Or.inl (by assumption) | with_reducible exact Or.inr rfl

theorem State.restartClock_frame {s : State} {n : Nat} (wDS_STATUS : W .DS_STATUS) (wOSC_STATUS : W .OSC_STATUS)
    (qrgn : Q .rgn) (h : Fr W Q z s) :
    Fr W Q z (State.restartClock s n) := by
  unfold State.restartClock
  repeat' first
    | with_reducible assumption | with_reducible apply State.setOsc_frame | with_reducible apply State.setDs_frame
    | with_reducible apply State.startHold_frame | with_reducible apply State.modR_frame

theorem State.confirmStop_frame {s : State} (wREGION_STOP_STATE : W .REGION_STOP_STATE)
    (wSY_QUIESCES : W .SY_QUIESCES) (qstop : Q .stop) (h : Fr W Q z s) :
    Fr W Q z (State.confirmStop s) := by
  unfold State.confirmStop
  repeat' first
    | with_reducible assumption | with_reducible refine State.when_kept ?_ ?_
    | with_reducible apply State.sendQuiesce_frame | split | dsimp only | intro _

theorem State.confirmStep_frame {s : State} {g : Nat} (wFIELD_VNEED : W .FIELD_VNEED)
    (wFIELD_VOLT : W .FIELD_VOLT) (wFIELD_VOLT_AT_CEIL : W .FIELD_VOLT_AT_CEIL)
    (wGROUP_CHG_ABORTS : W .GROUP_CHG_ABORTS) (wGROUP_CHG_C : W .GROUP_CHG_C)
    (wGROUP_CHG_RESULT : W .GROUP_CHG_RESULT) (wGROUP_CHG_STATE : W .GROUP_CHG_STATE)
    (wGROUP_CHG_STEPS : W .GROUP_CHG_STEPS) (wGROUP_N : W .GROUP_N) (wRAIL_RETRIES : W .RAIL_RETRIES)
    (wRAIL_STATUS : W .RAIL_STATUS) (qfld : Q .fld) (qgrp : Q .grp) (qlink : Q .link) (qrail : Q .rail)
    (h : Fr W Q z s) :
    Fr W Q z (State.confirmStep s g) := by
  unfold State.confirmStep
  repeat' first
    | with_reducible assumption | with_reducible refine State.when_kept ?_ ?_
    | with_reducible apply State.broadcastStep_frame | split | dsimp only | intro _

theorem execVoltConfirm_frame {g : Nat} {s : State} (wFIELD_VNEED : W .FIELD_VNEED)
    (wFIELD_VOLT : W .FIELD_VOLT) (wFIELD_VOLT_AT_CEIL : W .FIELD_VOLT_AT_CEIL)
    (wGROUP_CHG_ABORTS : W .GROUP_CHG_ABORTS) (wGROUP_CHG_C : W .GROUP_CHG_C)
    (wGROUP_CHG_RESULT : W .GROUP_CHG_RESULT) (wGROUP_CHG_STATE : W .GROUP_CHG_STATE)
    (wGROUP_CHG_STEPS : W .GROUP_CHG_STEPS) (wGROUP_N : W .GROUP_N) (wRAIL_RETRIES : W .RAIL_RETRIES)
    (wRAIL_STATUS : W .RAIL_STATUS) (wREGION_STOP_STATE : W .REGION_STOP_STATE) (wSY_QUIESCES : W .SY_QUIESCES)
    (qfld : Q .fld) (qgrp : Q .grp) (qlink : Q .link) (qrail : Q .rail) (qstop : Q .stop) (h : Fr W Q z s) :
    ∀ t, execVoltConfirm g s = .next t → Fr W Q z t := by
  unfold execVoltConfirm
  repeat' first
    | with_reducible refine next_kept ?_ | with_reducible assumption | with_reducible apply State.confirmStop_frame
    | with_reducible apply State.confirmStep_frame | split

theorem State.timeoutStop_frame {s : State} (wALERT_STATUS : W .ALERT_STATUS) (wEVENT_NEXT : W .EVENT_NEXT)
    (wEVENT_OVERWRITTEN : W .EVENT_OVERWRITTEN) (wEVENT_PAGE : W .EVENT_PAGE) (wEVENT_SEQ : W .EVENT_SEQ)
    (wFIELD_VNEED : W .FIELD_VNEED) (wFIELD_VOLT : W .FIELD_VOLT) (wFIELD_VOLT_AT_CEIL : W .FIELD_VOLT_AT_CEIL)
    (wRAIL_RETRIES : W .RAIL_RETRIES) (wRAIL_STATUS : W .RAIL_STATUS) (wREGION_STOP_ABORTS : W .REGION_STOP_ABORTS)
    (wREGION_STOP_RESULT : W .REGION_STOP_RESULT) (wREGION_STOP_STATE : W .REGION_STOP_STATE) (qflt : Q .flt)
    (qfld : Q .fld) (qlink : Q .link) (qrail : Q .rail) (qstop : Q .stop) (h : Fr W Q z s) :
    Fr W Q z (State.timeoutStop s) := by
  unfold State.timeoutStop
  repeat' first
    | with_reducible assumption | with_reducible refine State.when_kept ?_ ?_ | with_reducible apply State.event_frame
    | with_reducible apply State.abortStop_frame | split | dsimp only | intro _

theorem State.timeoutStep_frame {s : State} {g : Nat} (wALERT_STATUS : W .ALERT_STATUS)
    (wEVENT_NEXT : W .EVENT_NEXT) (wEVENT_OVERWRITTEN : W .EVENT_OVERWRITTEN) (wEVENT_PAGE : W .EVENT_PAGE)
    (wEVENT_SEQ : W .EVENT_SEQ) (wFIELD_VNEED : W .FIELD_VNEED) (wFIELD_VOLT : W .FIELD_VOLT)
    (wFIELD_VOLT_AT_CEIL : W .FIELD_VOLT_AT_CEIL) (wGROUP_CHG_ABORTS : W .GROUP_CHG_ABORTS)
    (wGROUP_CHG_RESULT : W .GROUP_CHG_RESULT) (wGROUP_CHG_STATE : W .GROUP_CHG_STATE)
    (wRAIL_RETRIES : W .RAIL_RETRIES) (wRAIL_STATUS : W .RAIL_STATUS) (qflt : Q .flt) (qfld : Q .fld)
    (qgrp : Q .grp) (qlink : Q .link) (qrail : Q .rail) (h : Fr W Q z s) :
    Fr W Q z (State.timeoutStep s g) := by
  unfold State.timeoutStep
  repeat' first
    | with_reducible assumption | with_reducible refine State.when_kept ?_ ?_ | with_reducible apply State.event_frame
    | with_reducible apply State.modG_frame | with_reducible apply State.abortStep_frame | split | dsimp only
    | intro _

theorem execChangeBroadcast_frame {n : Nat} {s : State} (qflt : Q .flt) (qrgn : Q .rgn) (h : Fr W Q z s) :
    ∀ t, execChangeBroadcast n s = .next t → Fr W Q z t := by
  unfold execChangeBroadcast
  repeat' first
    | with_reducible refine next_kept ?_ | with_reducible assumption | with_reducible refine State.when_kept ?_ ?_
    | with_reducible apply State.modR_frame | with_reducible apply State.raiseFault_frame | split | dsimp only
    | intro _

theorem execChangeAtC_frame {n : Nat} {s : State} (wOSC_CODE : W .OSC_CODE) (wOSC_STATUS : W .OSC_STATUS)
    (wOSC_TARGET_N : W .OSC_TARGET_N) (qrgn : Q .rgn) (h : Fr W Q z s) :
    ∀ t, execChangeAtC n s = .next t → Fr W Q z t := by
  unfold execChangeAtC
  repeat' first
    | with_reducible refine next_kept ?_ | with_reducible assumption | with_reducible refine State.when_kept ?_ ?_
    | with_reducible apply State.loadSeed_frame | with_reducible apply State.modR_frame | split | dsimp only | intro _

theorem execGroupStepEnd_frame {g : Nat} {s : State} (wFIELD_VNEED : W .FIELD_VNEED)
    (wFIELD_VOLT : W .FIELD_VOLT) (wFIELD_VOLT_AT_CEIL : W .FIELD_VOLT_AT_CEIL)
    (wGROUP_CHG_ABORTS : W .GROUP_CHG_ABORTS) (wGROUP_CHG_RESULT : W .GROUP_CHG_RESULT)
    (wGROUP_CHG_STATE : W .GROUP_CHG_STATE) (wGROUP_CHG_STEPS : W .GROUP_CHG_STEPS) (wGROUP_N : W .GROUP_N)
    (wRAIL_RETRIES : W .RAIL_RETRIES) (wRAIL_STATUS : W .RAIL_STATUS) (qfld : Q .fld) (qgrp : Q .grp)
    (qlink : Q .link) (qrail : Q .rail) (h : Fr W Q z s) :
    ∀ t, execGroupStepEnd g s = .next t → Fr W Q z t := by
  unfold execGroupStepEnd
  repeat' first
    | with_reducible refine next_kept ?_ | with_reducible assumption | with_reducible refine State.when_kept ?_ ?_
    | with_reducible apply State.endStep_frame | split | dsimp only | intro _

theorem State.freezeAll_frame {s : State} (wFIELD_VNEED : W .FIELD_VNEED) (wFIELD_VOLT : W .FIELD_VOLT)
    (wFIELD_VOLT_AT_CEIL : W .FIELD_VOLT_AT_CEIL) (wGROUP_CHG_ABORTS : W .GROUP_CHG_ABORTS)
    (wGROUP_CHG_RESULT : W .GROUP_CHG_RESULT) (wGROUP_CHG_STATE : W .GROUP_CHG_STATE)
    (wRAIL_RETRIES : W .RAIL_RETRIES) (wRAIL_STATUS : W .RAIL_STATUS) (qsu : Q .su) (qflt : Q .flt) (qfld : Q .fld)
    (qgrp : Q .grp) (qlink : Q .link) (qrail : Q .rail) (h : Fr W Q z s) :
    Fr W Q z (State.freezeAll s) := by
  unfold State.freezeAll
  repeat' first
    | with_reducible assumption | with_reducible refine State.each_kept ?_ ?_
    | with_reducible apply State.abortStep_frame | with_reducible apply State.setChg_frame | split | dsimp only
    | intro _ | with_reducible apply Fr.lit | with_reducible exact Or.inl (by assumption)
    | with_reducible exact Or.inr rfl

end Sys2Proof.Machine
end

