-- ==== Sys2Proof/Laws/FrameB.lean ====
section
/-! SUPPORT. Mailboxes, estimation, power, rails, caps, the slow loop, references and time: what each operation may change. -/

set_option Elab.async false

namespace Sys2Proof.Machine
open Sys2Proof

variable {W : Obj → Prop} {Q : Part → Prop} {z : State}

/-! ### MailBase -/

theorem State.respondNum_frame {s : State} {id : Nat} {status : Nat} {data : Nat} (qports : Q .ports)
    (h : Fr W Q z s) :
    Fr W Q z (State.respondNum s id status data) := by
  unfold State.respondNum
  repeat' first
    | with_reducible assumption | split | dsimp only | intro _ | with_reducible apply Fr.lit
    | with_reducible exact Or.inl (by assumption) | with_reducible exact Or.inr rfl

theorem State.respond_frame {s : State} {id : Nat} {c : Code} {data : Nat} (qports : Q .ports) (h : Fr W Q z s) :
    Fr W Q z (State.respond s id c data) := by
  unfold State.respond
  repeat' first
    | with_reducible assumption | with_reducible apply State.respondNum_frame

theorem State.epQueue_frame {s : State} {op : Nat} {q : EpReq} (qports : Q .ports) (h : Fr W Q z s) :
    Fr W Q z (State.epQueue s op q) := by
  unfold State.epQueue
  repeat' first
    | with_reducible assumption | split | dsimp only | intro _ | with_reducible apply Fr.lit
    | with_reducible exact Or.inl (by assumption) | with_reducible exact Or.inr rfl

theorem State.epTake_frame {s : State} {op : Nat} {q : EpReq} {turn : Code → State → State} {f : State → State}
    (wALERT_STATUS : W .ALERT_STATUS) (wEVENT_NEXT : W .EVENT_NEXT) (wEVENT_OVERWRITTEN : W .EVENT_OVERWRITTEN)
    (wEVENT_PAGE : W .EVENT_PAGE) (wEVENT_SEQ : W .EVENT_SEQ) (wINJ_ARM : W .INJ_ARM) (wINJ_COUNT : W .INJ_COUNT)
    (wINJ_RESULT : W .INJ_RESULT) (wSRAM_CE : W .SRAM_CE) (wSRAM_UE : W .SRAM_UE) (qflt : Q .flt) (qinj : Q .inj)
    (qports : Q .ports) (h : Fr W Q z s) (h_turn : ∀ y t, Fr W Q z t → Fr W Q z (turn y t))
    (h_f : ∀ t, Fr W Q z t → Fr W Q z (f t)) :
    Fr W Q z (State.epTake s op q turn f) := by
  unfold State.epTake
  repeat' first
    | with_reducible assumption | with_reducible apply h_turn | with_reducible apply h_f
    | with_reducible apply State.respond_frame | with_reducible apply State.epQueue_frame
    | with_reducible apply State.queueRead_frame | split

theorem State.setNotice_frame {s : State} {id : Nat} {w : Nat} (qports : Q .ports) (h : Fr W Q z s) :
    Fr W Q z (State.setNotice s id w) := by
  unfold State.setNotice
  repeat' first
    | with_reducible assumption | split | dsimp only | intro _ | with_reducible apply Fr.lit
    | with_reducible exact Or.inl (by assumption) | with_reducible exact Or.inr rfl

theorem State.noticeDiscard_frame {s : State} {id : Nat} (qports : Q .ports) (h : Fr W Q z s) :
    Fr W Q z (State.noticeDiscard s id) := by
  unfold State.noticeDiscard
  repeat' first
    | with_reducible assumption | with_reducible apply State.setNotice_frame

theorem State.noticeTimeout_frame {s : State} {id : Nat} (qports : Q .ports) (h : Fr W Q z s) :
    Fr W Q z (State.noticeTimeout s id) := by
  unfold State.noticeTimeout
  repeat' first
    | with_reducible assumption | with_reducible apply State.setNotice_frame

theorem State.showCount_frame {s : State} {m : Nat} (wMB_COUNT : W .MB_COUNT) (h : Fr W Q z s) :
    Fr W Q z (State.showCount s m) := by
  unfold State.showCount
  repeat' first
    | with_reducible assumption | with_reducible apply State.wr_frame

theorem State.discardBox_frame {s : State} {m : Nat} (wMB_COUNT : W .MB_COUNT) (wMB_DISCARDS : W .MB_DISCARDS)
    (qbox : Q .box) (qports : Q .ports) (h : Fr W Q z s) :
    Fr W Q z (State.discardBox s m) := by
  unfold State.discardBox
  repeat' first
    | with_reducible assumption | with_reducible refine State.each_kept ?_ ?_
    | with_reducible apply State.noticeDiscard_frame | with_reducible apply State.add_frame
    | with_reducible apply State.modBx_frame | with_reducible apply State.showCount_frame | split | dsimp only
    | intro _

theorem State.clearBell_frame {s : State} {m : Nat} (qbox : Q .box) (h : Fr W Q z s) :
    Fr W Q z (State.clearBell s m) := by
  unfold State.clearBell
  repeat' first
    | with_reducible assumption | with_reducible apply State.modBx_frame

theorem State.semEvent_frame {s : State} {m : Nat} (wSY_POST_OVERFLOW : W .SY_POST_OVERFLOW) (qbox : Q .box)
    (h : Fr W Q z s) :
    Fr W Q z (State.semEvent s m) := by
  unfold State.semEvent
  repeat' first
    | with_reducible assumption | with_reducible apply State.inc_frame | with_reducible apply State.modBx_frame
    | split

theorem State.deliver_frame {s : State} {m : Nat} {k : Nat} (wSY_POST_OVERFLOW : W .SY_POST_OVERFLOW)
    (qbox : Q .box) (h : Fr W Q z s) :
    Fr W Q z (State.deliver s m k) := by
  unfold State.deliver
  repeat' first
    | with_reducible assumption | with_reducible refine State.each_kept ?_ ?_ | with_reducible apply State.modBx_frame
    | with_reducible apply State.semEvent_frame | split | dsimp only | intro _

theorem State.deliverDomain_frame {s : State} {d : Nat} (wSY_POST_OVERFLOW : W .SY_POST_OVERFLOW)
    (qbox : Q .box) (h : Fr W Q z s) :
    Fr W Q z (State.deliverDomain s d) := by
  unfold State.deliverDomain
  repeat' first
    | with_reducible assumption | with_reducible refine State.each_kept ?_ ?_
    | with_reducible apply State.deliver_frame | with_reducible apply State.modBx_frame | split | dsimp only | intro _

theorem State.discardDomain_frame {s : State} {d : Nat} (wMB_COUNT : W .MB_COUNT)
    (wMB_DISCARDS : W .MB_DISCARDS) (qbox : Q .box) (qports : Q .ports) (h : Fr W Q z s) :
    Fr W Q z (State.discardDomain s d) := by
  unfold State.discardDomain
  repeat' first
    | with_reducible assumption | with_reducible refine State.each_kept ?_ ?_
    | with_reducible refine State.when_kept ?_ ?_ | with_reducible apply State.discardBox_frame | split | dsimp only
    | intro _

theorem State.setLock_frame {s : State} {i : Nat} {lost : Bool} {held : Bool} {host : Bool} {owner : Nat}
    (wLOCK : W .LOCK) (h : Fr W Q z s) :
    Fr W Q z (State.setLock s i lost held host owner) := by
  unfold State.setLock
  repeat' first
    | with_reducible assumption | with_reducible apply State.wr_frame

theorem State.lockAcquire_frame {s : State} {i : Nat} {who : Nat} (wLOCK : W .LOCK) (h : Fr W Q z s) :
    Fr W Q z (State.lockAcquire s i who).2 := by
  unfold State.lockAcquire
  repeat' first
    | with_reducible assumption | with_reducible apply State.setLock_frame | split | dsimp only

theorem State.noteLock_frame {s : State} {i : Nat} {src : Nat} (wLOCK_CONTESTS : W .LOCK_CONTESTS)
    (wLOCK_PRIO : W .LOCK_PRIO) (qports : Q .ports) (h : Fr W Q z s) :
    Fr W Q z (State.noteLock s i src) := by
  unfold State.noteLock
  repeat' first
    | with_reducible assumption | with_reducible apply State.inc_frame | with_reducible apply State.wr_frame | split
    | dsimp only | intro _ | with_reducible apply Fr.lit | with_reducible exact Or.inl (by assumption)
    | with_reducible exact Or.inr rfl

theorem State.lockLose_frame {s : State} {i : Nat} (wLOCK : W .LOCK) (h : Fr W Q z s) :
    Fr W Q z (State.lockLose s i) := by
  unfold State.lockLose
  repeat' first
    | with_reducible assumption | with_reducible apply State.setLock_frame

theorem State.loseLocks_frame {s : State} {p : Nat → Bool} (wLOCK : W .LOCK) (h : Fr W Q z s) :
    Fr W Q z (State.loseLocks s p) := by
  unfold State.loseLocks
  repeat' first
    | with_reducible assumption | with_reducible refine State.each_kept ?_ ?_
    | with_reducible apply State.lockLose_frame | split | dsimp only | intro _

/-! ### Estimate -/

theorem State.wrFit_frame {s : State} {o : Obj} {v : Nat} {e : Nat} {site : Nat} (qfreeN : Q .freeN) (wo : W o)
    (h : Fr W Q z s) :
    Fr W Q z (State.wrFit s o v e site) := by
  unfold State.wrFit
  repeat' first
    | with_reducible assumption | with_reducible apply State.wr_frame | with_reducible apply State.free_frame | split

theorem State.setWeight_frame {s : State} {n : Nat} {i : Nat} {v : Nat} (wEST_WEIGHT : W .EST_WEIGHT)
    (h : Fr W Q z s) :
    Fr W Q z (State.setWeight s n i v) := by
  unfold State.setWeight
  repeat' first
    | with_reducible assumption | with_reducible apply State.wr_frame

theorem State.factoryWeights_frame {s : State} {n : Nat} (wEST_WEIGHT : W .EST_WEIGHT) (qest : Q .est)
    (h : Fr W Q z s) :
    Fr W Q z (State.factoryWeights s n) := by
  unfold State.factoryWeights
  repeat' first
    | with_reducible assumption | with_reducible apply State.wr_frame | with_reducible apply State.modE_frame

theorem State.clearIdle_frame {s : State} {n : Nat} (qlane : Q .lane) (h : Fr W Q z s) :
    Fr W Q z (State.clearIdle s n) := by
  unfold State.clearIdle
  repeat' first
    | with_reducible assumption | with_reducible refine State.each_kept ?_ ?_ | with_reducible apply State.modLn_frame
    | split | dsimp only | intro _

theorem State.setEst_frame {s : State} {n : Nat} {b : Nat} {v : Bool} (wEST_STATUS : W .EST_STATUS)
    (h : Fr W Q z s) :
    Fr W Q z (State.setEst s n b v) := by
  unfold State.setEst
  repeat' first
    | with_reducible assumption | with_reducible apply State.setFlag_frame

theorem State.loseBaselines_frame {s : State} {n : Nat} (wEST_STATUS : W .EST_STATUS) (qest : Q .est)
    (qlane : Q .lane) (h : Fr W Q z s) :
    Fr W Q z (State.loseBaselines s n) := by
  unfold State.loseBaselines
  repeat' first
    | with_reducible assumption | with_reducible refine State.each_kept ?_ ?_ | with_reducible apply State.modLn_frame
    | with_reducible apply State.modE_frame | with_reducible apply State.setEst_frame | split | dsimp only | intro _

theorem State.loseCoreBaselines_frame {s : State} {n : Nat} (wEST_STATUS : W .EST_STATUS) (qest : Q .est)
    (qlane : Q .lane) (h : Fr W Q z s) :
    Fr W Q z (State.loseCoreBaselines s n) := by
  unfold State.loseCoreBaselines
  repeat' first
    | with_reducible assumption | with_reducible refine State.each_kept ?_ ?_ | with_reducible apply State.modLn_frame
    | with_reducible apply State.modE_frame | with_reducible apply State.setEst_frame | split | dsimp only | intro _

theorem State.showM_frame {s : State} {n : Nat} {m : Nat} (wEST_SWEEP_M : W .EST_SWEEP_M) (h : Fr W Q z s) :
    Fr W Q z (State.showM s n m) := by
  unfold State.showM
  repeat' first
    | with_reducible assumption | with_reducible apply State.wr_frame

theorem State.endSweep_frame {s : State} {n : Nat} (wEST_SWEEP_M : W .EST_SWEEP_M) (qest : Q .est)
    (h : Fr W Q z s) :
    Fr W Q z (State.endSweep s n) := by
  unfold State.endSweep
  repeat' first
    | with_reducible assumption | with_reducible apply State.showM_frame | with_reducible apply State.modE_frame

theorem State.beginSweep_frame {s : State} {n : Nat} (qest : Q .est) (h : Fr W Q z s) :
    Fr W Q z (State.beginSweep s n) := by
  unfold State.beginSweep
  repeat' first
    | with_reducible assumption | with_reducible apply State.modE_frame

theorem execSweepStart_frame {n : Nat} {s : State} (wEST_SWEEP_M : W .EST_SWEEP_M) (qest : Q .est)
    (h : Fr W Q z s) :
    ∀ t, execSweepStart n s = .next t → Fr W Q z t := by
  unfold execSweepStart
  repeat' first
    | with_reducible refine next_kept ?_ | with_reducible assumption | with_reducible refine State.when_kept ?_ ?_
    | with_reducible apply State.beginSweep_frame | with_reducible apply State.endSweep_frame | split | dsimp only
    | intro _

theorem State.laneDue_frame {s : State} {n : Nat} {vld : Bool} {data : Nat} (wEST_SWEEP_M : W .EST_SWEEP_M)
    (wLANE_INVALIDS : W .LANE_INVALIDS) (qest : Q .est) (qlane : Q .lane) (h : Fr W Q z s) :
    Fr W Q z (State.laneDue s n vld data) := by
  unfold State.laneDue
  repeat' first
    | with_reducible assumption | with_reducible refine State.when_kept ?_ ?_ | with_reducible apply State.modLn_frame
    | with_reducible apply State.modE_frame | with_reducible apply State.inc_frame
    | with_reducible apply State.endSweep_frame | split | dsimp only | intro _

theorem execLaneResponse_frame {n : Nat} {vld : Bool} {data : Nat} {s : State}
    (wACT_PROTO_ERR : W .ACT_PROTO_ERR) (wEST_SWEEP_M : W .EST_SWEEP_M) (wLANE_INVALIDS : W .LANE_INVALIDS)
    (qest : Q .est) (qlane : Q .lane) (h : Fr W Q z s) :
    ∀ t, execLaneResponse n vld data s = .next t → Fr W Q z t := by
  unfold execLaneResponse
  repeat' first
    | with_reducible refine next_kept ?_ | with_reducible assumption | with_reducible refine State.when_kept ?_ ?_
    | with_reducible apply State.laneDue_frame | with_reducible apply State.inc_frame | split | dsimp only | intro _

theorem State.chargeHold_frame {s : State} {n : Nat} {t : Nat} (qrgn : Q .rgn) (qest : Q .est) (h : Fr W Q z s) :
    Fr W Q z (State.chargeHold s n t) := by
  unfold State.chargeHold
  repeat' first
    | with_reducible assumption | with_reducible apply State.countHold_frame | with_reducible apply State.modR_frame
    | split

theorem State.loseWeight_frame {s : State} {n : Nat} {w : Nat} (wALERT_STATUS : W .ALERT_STATUS)
    (wEVENT_NEXT : W .EVENT_NEXT) (wEVENT_OVERWRITTEN : W .EVENT_OVERWRITTEN) (wEVENT_PAGE : W .EVENT_PAGE)
    (wEVENT_SEQ : W .EVENT_SEQ) (qflt : Q .flt) (qest : Q .est) (h : Fr W Q z s) :
    Fr W Q z (State.loseWeight s n w) := by
  unfold State.loseWeight
  repeat' first
    | with_reducible assumption | with_reducible apply State.sramLost_frame | with_reducible apply State.modE_frame

theorem State.readWeights_frame {s : State} {n : Nat} (wALERT_STATUS : W .ALERT_STATUS)
    (wEVENT_NEXT : W .EVENT_NEXT) (wEVENT_OVERWRITTEN : W .EVENT_OVERWRITTEN) (wEVENT_PAGE : W .EVENT_PAGE)
    (wEVENT_SEQ : W .EVENT_SEQ) (wINJ_ARM : W .INJ_ARM) (wINJ_COUNT : W .INJ_COUNT) (wINJ_RESULT : W .INJ_RESULT)
    (wSRAM_CE : W .SRAM_CE) (wSRAM_UE : W .SRAM_UE) (qflt : Q .flt) (qinj : Q .inj) (qest : Q .est) (h : Fr W Q z s) :
    Fr W Q z (State.readWeights s n) := by
  unfold State.readWeights
  repeat' first
    | with_reducible assumption | with_reducible apply State.readFlips_frame
    | with_reducible apply State.loseWeight_frame | split | dsimp only | intro _

theorem State.closeWindow_frame {s0 : State} {n : Nat} {w : Nat} {t : Nat} {dur : Nat} {gap : Nat}
    (wALERT_STATUS : W .ALERT_STATUS) (wEST_DYN : W .EST_DYN) (wEST_LEAK : W .EST_LEAK)
    (wEST_OVERFLOWS : W .EST_OVERFLOWS) (wEST_POWER : W .EST_POWER) (wEST_STATUS : W .EST_STATUS)
    (wEST_SWEEP_M : W .EST_SWEEP_M) (wEVENT_NEXT : W .EVENT_NEXT) (wEVENT_OVERWRITTEN : W .EVENT_OVERWRITTEN)
    (wEVENT_PAGE : W .EVENT_PAGE) (wEVENT_SEQ : W .EVENT_SEQ) (wINJ_ARM : W .INJ_ARM) (wINJ_COUNT : W .INJ_COUNT)
    (wINJ_RESULT : W .INJ_RESULT) (wSRAM_CE : W .SRAM_CE) (wSRAM_UE : W .SRAM_UE) (qflt : Q .flt) (qinj : Q .inj)
    (qrgn : Q .rgn) (qest : Q .est) (h : Fr W Q z s0) :
    Fr W Q z (State.closeWindow s0 n w t dur gap) := by
  unfold State.closeWindow
  repeat' first
    | with_reducible assumption | with_reducible refine State.when_kept ?_ ?_
    | with_reducible apply State.endInjection_frame | with_reducible apply State.readWeights_frame
    | with_reducible apply State.chargeHold_frame | with_reducible apply State.showM_frame
    | with_reducible apply State.modE_frame | with_reducible apply State.modR_frame
    | with_reducible apply State.wr_frame | with_reducible apply State.inc_frame | split | dsimp only | intro _

theorem execWindowClose_frame {n : Nat} {s : State} (wALERT_STATUS : W .ALERT_STATUS) (wEST_DYN : W .EST_DYN)
    (wEST_LEAK : W .EST_LEAK) (wEST_OVERFLOWS : W .EST_OVERFLOWS) (wEST_POWER : W .EST_POWER)
    (wEST_STATUS : W .EST_STATUS) (wEST_SWEEP_M : W .EST_SWEEP_M) (wEVENT_NEXT : W .EVENT_NEXT)
    (wEVENT_OVERWRITTEN : W .EVENT_OVERWRITTEN) (wEVENT_PAGE : W .EVENT_PAGE) (wEVENT_SEQ : W .EVENT_SEQ)
    (wINJ_ARM : W .INJ_ARM) (wINJ_COUNT : W .INJ_COUNT) (wINJ_RESULT : W .INJ_RESULT) (wSRAM_CE : W .SRAM_CE)
    (wSRAM_UE : W .SRAM_UE) (qflt : Q .flt) (qinj : Q .inj) (qrgn : Q .rgn) (qest : Q .est) (h : Fr W Q z s) :
    ∀ t, execWindowClose n s = .next t → Fr W Q z t := by
  unfold execWindowClose
  repeat' first
    | with_reducible refine next_kept ?_ | with_reducible assumption | with_reducible refine State.when_kept ?_ ?_
    | with_reducible apply State.closeWindow_frame | split | dsimp only | intro _

theorem execWeightReload_frame {n : Nat} {s : State} (wEST_STATUS : W .EST_STATUS) (wEST_WEIGHT : W .EST_WEIGHT)
    (qest : Q .est) (h : Fr W Q z s) :
    ∀ t, execWeightReload n s = .next t → Fr W Q z t := by
  unfold execWeightReload
  repeat' first
    | with_reducible refine next_kept ?_ | with_reducible assumption | with_reducible refine State.each_kept ?_ ?_
    | with_reducible apply State.setWeight_frame | with_reducible apply State.modE_frame
    | with_reducible apply State.setEst_frame | split | dsimp only | intro _

theorem State.keepEntry_frame {s : State} {n : Nat} {x : Entry} (wEST_DYN : W .EST_DYN)
    (wEST_LEAK : W .EST_LEAK) (wEST_POWER : W .EST_POWER) (wEST_STATUS : W .EST_STATUS) (qest : Q .est)
    (h : Fr W Q z s) :
    Fr W Q z (State.keepEntry s n x) := by
  unfold State.keepEntry
  repeat' first
    | with_reducible assumption | with_reducible apply State.wr_frame | with_reducible apply State.modE_frame | split

theorem State.chargeEnergy_frame {s : State} {n : Nat} {w : Nat} {x : Entry}
    (wPART_SUBST_WINDOWS : W .PART_SUBST_WINDOWS) (qenergy : Q .energy) (h : Fr W Q z s) :
    Fr W Q z (State.chargeEnergy s n w x) := by
  unfold State.chargeEnergy
  repeat' first
    | with_reducible assumption | with_reducible refine State.when_kept ?_ ?_
    | with_reducible apply State.addWrap_frame | split | dsimp only | intro _ | with_reducible apply Fr.lit
    | with_reducible exact Or.inl (by assumption) | with_reducible exact Or.inr rfl

theorem State.addLoss_frame {s : State} {n : Nat} {eighths : Nat} {cycles : Nat} (qgrp : Q .grp)
    (h : Fr W Q z s) :
    Fr W Q z (State.addLoss s n eighths cycles) := by
  unfold State.addLoss
  repeat' first
    | with_reducible assumption | with_reducible apply State.modG_frame

theorem State.attribute_frame {s : State} {n : Nat} {t : Tag × Nat} (wCAUSED_CAP : W .CAUSED_CAP)
    (wCAUSED_DROOP : W .CAUSED_DROOP) (wCAUSED_FLOOR : W .CAUSED_FLOOR) (wTETHER_UNATTRIB : W .TETHER_UNATTRIB)
    (qrgn : Q .rgn) (qfld : Q .fld) (qgrp : Q .grp) (h : Fr W Q z s) :
    Fr W Q z (State.attribute s n t) := by
  unfold State.attribute
  repeat' first
    | with_reducible assumption | with_reducible apply State.addWrap_frame | with_reducible apply State.modR_frame
    | with_reducible apply State.modF_frame | with_reducible apply State.addLoss_frame | split

theorem State.chargeReport_frame {s : State} {n : Nat} {x : Entry} (wCAUSED_CAP : W .CAUSED_CAP)
    (wCAUSED_DROOP : W .CAUSED_DROOP) (wCAUSED_FLOOR : W .CAUSED_FLOOR) (wTETHER_UNATTRIB : W .TETHER_UNATTRIB)
    (qrgn : Q .rgn) (qfld : Q .fld) (qgrp : Q .grp) (h : Fr W Q z s) :
    Fr W Q z (State.chargeReport s n x) := by
  unfold State.chargeReport
  repeat' first
    | with_reducible assumption | with_reducible refine State.each_kept ?_ ?_
    | with_reducible apply State.attribute_frame | with_reducible apply State.addLoss_frame | split | dsimp only
    | intro _

theorem State.chargeThrottle_frame {s : State} {f : Nat} {l : Loss} (wTHR_LOST : W .THR_LOST)
    (wTHR_REASON_NOW : W .THR_REASON_NOW) (wTHR_TIME : W .THR_TIME) (qfld : Q .fld) (h : Fr W Q z s) :
    Fr W Q z (State.chargeThrottle s f l) := by
  unfold State.chargeThrottle
  repeat' first
    | with_reducible assumption | with_reducible refine State.each_kept ?_ ?_
    | with_reducible refine State.when_kept ?_ ?_ | with_reducible apply State.addWrap_frame
    | with_reducible apply State.wr_frame | with_reducible apply State.modF_frame | split | dsimp only | intro _

theorem State.domainWindow_frame {s : State} {d : Nat} {w : Nat} {es : List (Nat × Entry)} (qdom : Q .dom)
    (h : Fr W Q z s) :
    Fr W Q z (State.domainWindow s d w es) := by
  unfold State.domainWindow
  repeat' first
    | with_reducible assumption | with_reducible refine State.when_kept ?_ ?_ | with_reducible apply State.modD_frame
    | split | dsimp only | intro _

theorem State.closeEpisode_frame {s : State} {g : Nat} {w : Nat} {truncated : Bool} (wEPISODE : W .EPISODE)
    (wEPISODE_NEXT : W .EPISODE_NEXT) (wEPISODE_OPEN_REASON : W .EPISODE_OPEN_REASON)
    (wEPISODE_OVERWRITTEN : W .EPISODE_OVERWRITTEN) (wEPISODE_SEQ : W .EPISODE_SEQ)
    (wEPISODE_SHORT : W .EPISODE_SHORT) (qgrp : Q .grp) (h : Fr W Q z s) :
    Fr W Q z (State.closeEpisode s g w truncated) := by
  unfold State.closeEpisode
  repeat' first
    | with_reducible assumption | with_reducible refine State.when_kept ?_ ?_ | with_reducible apply State.modG_frame
    | with_reducible apply State.wr_frame | with_reducible apply State.inc_frame
    | with_reducible apply State.addWrap_frame | split | dsimp only | intro _

theorem State.openEpisode_frame {s : State} {g : Nat} {w : Nat} {r : Nat} {fields : Nat} {lost : Nat}
    (wEPISODE_OPEN_REASON : W .EPISODE_OPEN_REASON) (qgrp : Q .grp) (h : Fr W Q z s) :
    Fr W Q z (State.openEpisode s g w r fields lost) := by
  unfold State.openEpisode
  repeat' first
    | with_reducible assumption | with_reducible refine State.when_kept ?_ ?_ | with_reducible apply State.modG_frame
    | with_reducible apply State.wr_frame | split | dsimp only | intro _

theorem State.episodeWindow_frame {s : State} {g : Nat} {w : Nat} (wEPISODE : W .EPISODE)
    (wEPISODE_NEXT : W .EPISODE_NEXT) (wEPISODE_OPEN_REASON : W .EPISODE_OPEN_REASON)
    (wEPISODE_OVERWRITTEN : W .EPISODE_OVERWRITTEN) (wEPISODE_SEQ : W .EPISODE_SEQ)
    (wEPISODE_SHORT : W .EPISODE_SHORT) (qgrp : Q .grp) (h : Fr W Q z s) :
    Fr W Q z (State.episodeWindow s g w) := by
  unfold State.episodeWindow
  repeat' first
    | with_reducible assumption | with_reducible apply State.modG_frame | with_reducible apply State.openEpisode_frame
    | with_reducible apply State.closeEpisode_frame | split | dsimp only

theorem execEpisodeClose_frame {g : Nat} {s : State} (wEPISODE : W .EPISODE) (wEPISODE_NEXT : W .EPISODE_NEXT)
    (wEPISODE_OPEN_REASON : W .EPISODE_OPEN_REASON) (wEPISODE_OVERWRITTEN : W .EPISODE_OVERWRITTEN)
    (wEPISODE_SEQ : W .EPISODE_SEQ) (wEPISODE_SHORT : W .EPISODE_SHORT) (qgrp : Q .grp) (h : Fr W Q z s) :
    ∀ t, execEpisodeClose g s = .next t → Fr W Q z t := by
  unfold execEpisodeClose
  repeat' first
    | with_reducible refine next_kept ?_ | with_reducible assumption | with_reducible refine State.when_kept ?_ ?_
    | with_reducible apply State.closeEpisode_frame | split | dsimp only | intro _

theorem State.startRun_frame {s : State} {g : Nat} {t0 : Nat} (wRUN_CYCLES : W .RUN_CYCLES)
    (wRUN_IDEAL : W .RUN_IDEAL) (wRUN_LOSS_PPM : W .RUN_LOSS_PPM) (wRUN_LOST : W .RUN_LOST)
    (wRUN_LOST_E : W .RUN_LOST_E) (wRUN_START_TIME : W .RUN_START_TIME) (wRUN_STATUS : W .RUN_STATUS)
    (wRUN_TIME : W .RUN_TIME) (qgrp : Q .grp) (h : Fr W Q z s) :
    Fr W Q z (State.startRun s g t0) := by
  unfold State.startRun
  apply State.modG_frame qgrp
  apply State.wr_frame wRUN_START_TIME
  apply State.wr_frame wRUN_STATUS
  refine State.each_kept ?_ fun t r ht => State.wr_frame wRUN_LOST_E ht
  simp only [State.each_cons, State.each_nil]
  repeat' first
    | with_reducible assumption | with_reducible apply State.wr_frame

theorem State.runWindow_frame {s : State} {g : Nat} {w : Nat} (wRUN_CYCLES : W .RUN_CYCLES)
    (wRUN_IDEAL : W .RUN_IDEAL) (wRUN_LOSS_PPM : W .RUN_LOSS_PPM) (wRUN_LOST : W .RUN_LOST)
    (wRUN_LOST_E : W .RUN_LOST_E) (wRUN_STATUS : W .RUN_STATUS) (wRUN_TIME : W .RUN_TIME) (qgrp : Q .grp)
    (h : Fr W Q z s) :
    Fr W Q z (State.runWindow s g w) := by
  unfold State.runWindow
  repeat' first
    | with_reducible assumption | with_reducible refine State.each_kept ?_ ?_
    | with_reducible apply State.addWrap_frame | with_reducible apply State.wr_frame
    | with_reducible apply State.add_frame | with_reducible apply State.modG_frame | split | dsimp only | intro _

theorem State.endRunReport_frame {s : State} {g : Nat} {faulted : Bool} (wALERT_STATUS : W .ALERT_STATUS)
    (wEVENT_NEXT : W .EVENT_NEXT) (wEVENT_OVERWRITTEN : W .EVENT_OVERWRITTEN) (wEVENT_PAGE : W .EVENT_PAGE)
    (wEVENT_SEQ : W .EVENT_SEQ) (wRUN_STATUS : W .RUN_STATUS) (qflt : Q .flt) (qgrp : Q .grp) (h : Fr W Q z s) :
    Fr W Q z (State.endRunReport s g faulted) := by
  unfold State.endRunReport
  repeat' first
    | with_reducible assumption | with_reducible refine State.when_kept ?_ ?_ | with_reducible apply State.wr_frame
    | with_reducible apply State.modG_frame | with_reducible apply State.event_frame | split | dsimp only | intro _

theorem State.runBoundary_frame {s : State} {g : Nat} {w : Nat} (wALERT_STATUS : W .ALERT_STATUS)
    (wEVENT_NEXT : W .EVENT_NEXT) (wEVENT_OVERWRITTEN : W .EVENT_OVERWRITTEN) (wEVENT_PAGE : W .EVENT_PAGE)
    (wEVENT_SEQ : W .EVENT_SEQ) (wRUN_CYCLES : W .RUN_CYCLES) (wRUN_IDEAL : W .RUN_IDEAL)
    (wRUN_LOSS_PPM : W .RUN_LOSS_PPM) (wRUN_LOST : W .RUN_LOST) (wRUN_LOST_E : W .RUN_LOST_E)
    (wRUN_START_TIME : W .RUN_START_TIME) (wRUN_STATUS : W .RUN_STATUS) (wRUN_TIME : W .RUN_TIME) (qflt : Q .flt)
    (qgrp : Q .grp) (h : Fr W Q z s) :
    Fr W Q z (State.runBoundary s g w) := by
  unfold State.runBoundary
  repeat' first
    | with_reducible assumption | with_reducible refine State.when_kept ?_ ?_
    | with_reducible apply State.runWindow_frame | with_reducible apply State.endRunReport_frame
    | with_reducible apply State.startRun_frame | with_reducible apply State.modG_frame | split | dsimp only | intro _

theorem State.occField_frame {s : State} {f : Nat} {p : Nat} {l : Loss} (qfld : Q .fld) (h : Fr W Q z s) :
    Fr W Q z (State.occField s f p l) := by
  unfold State.occField
  repeat' first
    | with_reducible assumption | with_reducible apply State.modF_frame | split

theorem State.occGroup_frame {s : State} {g : Nat} (qgrp : Q .grp) (h : Fr W Q z s) :
    Fr W Q z (State.occGroup s g) := by
  unfold State.occGroup
  repeat' first
    | with_reducible assumption | with_reducible refine State.when_kept ?_ ?_ | with_reducible apply State.spoil_frame
    | split | dsimp only | intro _

theorem State.holderWindow_frame {s : State} {g : Nat} {w : Nat} (wALERT_STATUS : W .ALERT_STATUS)
    (wEPISODE : W .EPISODE) (wEPISODE_NEXT : W .EPISODE_NEXT) (wEPISODE_OPEN_REASON : W .EPISODE_OPEN_REASON)
    (wEPISODE_OVERWRITTEN : W .EPISODE_OVERWRITTEN) (wEPISODE_SEQ : W .EPISODE_SEQ)
    (wEPISODE_SHORT : W .EPISODE_SHORT) (wEVENT_NEXT : W .EVENT_NEXT) (wEVENT_OVERWRITTEN : W .EVENT_OVERWRITTEN)
    (wEVENT_PAGE : W .EVENT_PAGE) (wEVENT_SEQ : W .EVENT_SEQ) (wGROUP_EST : W .GROUP_EST)
    (wGROUP_EST_SUBST : W .GROUP_EST_SUBST) (wRUN_CYCLES : W .RUN_CYCLES) (wRUN_IDEAL : W .RUN_IDEAL)
    (wRUN_LOSS_PPM : W .RUN_LOSS_PPM) (wRUN_LOST : W .RUN_LOST) (wRUN_LOST_E : W .RUN_LOST_E)
    (wRUN_START_TIME : W .RUN_START_TIME) (wRUN_STATUS : W .RUN_STATUS) (wRUN_TIME : W .RUN_TIME) (qflt : Q .flt)
    (qgrp : Q .grp) (qfreeN : Q .freeN) (h : Fr W Q z s) :
    Fr W Q z (State.holderWindow s g w) := by
  unfold State.holderWindow
  repeat' first
    | with_reducible assumption | with_reducible apply State.wrFit_frame | with_reducible apply State.modG_frame
    | with_reducible apply State.episodeWindow_frame | with_reducible apply State.runBoundary_frame
    | with_reducible apply State.occGroup_frame | split | dsimp only

theorem State.engineWindow_frame {s : State} {w : Nat} (wENGINE_EST : W .ENGINE_EST)
    (wENGINE_EST_SUBST : W .ENGINE_EST_SUBST) (qfreeN : Q .freeN) (h : Fr W Q z s) :
    Fr W Q z (State.engineWindow s w) := by
  unfold State.engineWindow
  repeat' first
    | with_reducible assumption | with_reducible apply State.wrFit_frame | split

theorem State.conductorWindow_frame {s : State} {f : Nat} {w : Nat} (wALERT_STATUS : W .ALERT_STATUS)
    (wENGINE_EST : W .ENGINE_EST) (wENGINE_EST_SUBST : W .ENGINE_EST_SUBST) (wEPISODE : W .EPISODE)
    (wEPISODE_NEXT : W .EPISODE_NEXT) (wEPISODE_OPEN_REASON : W .EPISODE_OPEN_REASON)
    (wEPISODE_OVERWRITTEN : W .EPISODE_OVERWRITTEN) (wEPISODE_SEQ : W .EPISODE_SEQ)
    (wEPISODE_SHORT : W .EPISODE_SHORT) (wEVENT_NEXT : W .EVENT_NEXT) (wEVENT_OVERWRITTEN : W .EVENT_OVERWRITTEN)
    (wEVENT_PAGE : W .EVENT_PAGE) (wEVENT_SEQ : W .EVENT_SEQ) (wGROUP_EST : W .GROUP_EST)
    (wGROUP_EST_SUBST : W .GROUP_EST_SUBST) (wRUN_CYCLES : W .RUN_CYCLES) (wRUN_IDEAL : W .RUN_IDEAL)
    (wRUN_LOSS_PPM : W .RUN_LOSS_PPM) (wRUN_LOST : W .RUN_LOST) (wRUN_LOST_E : W .RUN_LOST_E)
    (wRUN_START_TIME : W .RUN_START_TIME) (wRUN_STATUS : W .RUN_STATUS) (wRUN_TIME : W .RUN_TIME) (qflt : Q .flt)
    (qgrp : Q .grp) (qfreeN : Q .freeN) (h : Fr W Q z s) :
    Fr W Q z (State.conductorWindow s f w) := by
  unfold State.conductorWindow
  repeat' first
    | with_reducible assumption | with_reducible apply State.holderWindow_frame
    | with_reducible apply State.engineWindow_frame

theorem State.sendWindow_frame {s : State} {f : Nat} {w : Nat} (wALERT_STATUS : W .ALERT_STATUS)
    (wENGINE_EST : W .ENGINE_EST) (wENGINE_EST_SUBST : W .ENGINE_EST_SUBST) (wEPISODE : W .EPISODE)
    (wEPISODE_NEXT : W .EPISODE_NEXT) (wEPISODE_OPEN_REASON : W .EPISODE_OPEN_REASON)
    (wEPISODE_OVERWRITTEN : W .EPISODE_OVERWRITTEN) (wEPISODE_SEQ : W .EPISODE_SEQ)
    (wEPISODE_SHORT : W .EPISODE_SHORT) (wEVENT_NEXT : W .EVENT_NEXT) (wEVENT_OVERWRITTEN : W .EVENT_OVERWRITTEN)
    (wEVENT_PAGE : W .EVENT_PAGE) (wEVENT_SEQ : W .EVENT_SEQ) (wGROUP_EST : W .GROUP_EST)
    (wGROUP_EST_SUBST : W .GROUP_EST_SUBST) (wRUN_CYCLES : W .RUN_CYCLES) (wRUN_IDEAL : W .RUN_IDEAL)
    (wRUN_LOSS_PPM : W .RUN_LOSS_PPM) (wRUN_LOST : W .RUN_LOST) (wRUN_LOST_E : W .RUN_LOST_E)
    (wRUN_START_TIME : W .RUN_START_TIME) (wRUN_STATUS : W .RUN_STATUS) (wRUN_TIME : W .RUN_TIME) (qrefs : Q .refs)
    (qflt : Q .flt) (qgrp : Q .grp) (qfreeN : Q .freeN) (h : Fr W Q z s) :
    Fr W Q z (State.sendWindow s f w) := by
  unfold State.sendWindow
  repeat' first
    | with_reducible assumption | with_reducible apply State.conductorWindow_frame | split | dsimp only | intro _
    | with_reducible apply Fr.lit | with_reducible exact Or.inl (by assumption) | with_reducible exact Or.inr rfl

theorem State.takeWindow_frame {s : State} {x : HeldWin} (wALERT_STATUS : W .ALERT_STATUS)
    (wENGINE_EST : W .ENGINE_EST) (wENGINE_EST_SUBST : W .ENGINE_EST_SUBST) (wEPISODE : W .EPISODE)
    (wEPISODE_NEXT : W .EPISODE_NEXT) (wEPISODE_OPEN_REASON : W .EPISODE_OPEN_REASON)
    (wEPISODE_OVERWRITTEN : W .EPISODE_OVERWRITTEN) (wEPISODE_SEQ : W .EPISODE_SEQ)
    (wEPISODE_SHORT : W .EPISODE_SHORT) (wEVENT_NEXT : W .EVENT_NEXT) (wEVENT_OVERWRITTEN : W .EVENT_OVERWRITTEN)
    (wEVENT_PAGE : W .EVENT_PAGE) (wEVENT_SEQ : W .EVENT_SEQ) (wFIELD_EST : W .FIELD_EST)
    (wFIELD_EST_SUBST : W .FIELD_EST_SUBST) (wGROUP_EST : W .GROUP_EST) (wGROUP_EST_SUBST : W .GROUP_EST_SUBST)
    (wRUN_CYCLES : W .RUN_CYCLES) (wRUN_IDEAL : W .RUN_IDEAL) (wRUN_LOSS_PPM : W .RUN_LOSS_PPM)
    (wRUN_LOST : W .RUN_LOST) (wRUN_LOST_E : W .RUN_LOST_E) (wRUN_START_TIME : W .RUN_START_TIME)
    (wRUN_STATUS : W .RUN_STATUS) (wRUN_TIME : W .RUN_TIME) (qflt : Q .flt) (qfld : Q .fld) (qgrp : Q .grp)
    (qfreeN : Q .freeN) (h : Fr W Q z s) :
    Fr W Q z (State.takeWindow s x) := by
  unfold State.takeWindow
  repeat' first
    | with_reducible assumption | with_reducible apply State.wr_frame | with_reducible apply State.modF_frame
    | with_reducible apply State.conductorWindow_frame

theorem State.takeWindows_frame {s : State} (wALERT_STATUS : W .ALERT_STATUS) (wENGINE_EST : W .ENGINE_EST)
    (wENGINE_EST_SUBST : W .ENGINE_EST_SUBST) (wEPISODE : W .EPISODE) (wEPISODE_NEXT : W .EPISODE_NEXT)
    (wEPISODE_OPEN_REASON : W .EPISODE_OPEN_REASON) (wEPISODE_OVERWRITTEN : W .EPISODE_OVERWRITTEN)
    (wEPISODE_SEQ : W .EPISODE_SEQ) (wEPISODE_SHORT : W .EPISODE_SHORT) (wEVENT_NEXT : W .EVENT_NEXT)
    (wEVENT_OVERWRITTEN : W .EVENT_OVERWRITTEN) (wEVENT_PAGE : W .EVENT_PAGE) (wEVENT_SEQ : W .EVENT_SEQ)
    (wFIELD_EST : W .FIELD_EST) (wFIELD_EST_SUBST : W .FIELD_EST_SUBST) (wGROUP_EST : W .GROUP_EST)
    (wGROUP_EST_SUBST : W .GROUP_EST_SUBST) (wRUN_CYCLES : W .RUN_CYCLES) (wRUN_IDEAL : W .RUN_IDEAL)
    (wRUN_LOSS_PPM : W .RUN_LOSS_PPM) (wRUN_LOST : W .RUN_LOST) (wRUN_LOST_E : W .RUN_LOST_E)
    (wRUN_START_TIME : W .RUN_START_TIME) (wRUN_STATUS : W .RUN_STATUS) (wRUN_TIME : W .RUN_TIME) (qrefs : Q .refs)
    (qflt : Q .flt) (qfld : Q .fld) (qgrp : Q .grp) (qfreeN : Q .freeN) (h : Fr W Q z s) :
    Fr W Q z (State.takeWindows s) := by
  unfold State.takeWindows
  repeat' first
    | with_reducible assumption | with_reducible refine State.each_kept ?_ ?_
    | with_reducible apply State.takeWindow_frame | split | dsimp only | intro _ | with_reducible apply Fr.lit
    | with_reducible exact Or.inl (by assumption) | with_reducible exact Or.inr rfl

theorem State.reportWindow_frame {s : State} {f : Nat} {w : Nat} (wALERT_STATUS : W .ALERT_STATUS)
    (wCAUSED_CAP : W .CAUSED_CAP) (wCAUSED_DROOP : W .CAUSED_DROOP) (wCAUSED_FLOOR : W .CAUSED_FLOOR)
    (wENGINE_EST : W .ENGINE_EST) (wENGINE_EST_SUBST : W .ENGINE_EST_SUBST) (wEPISODE : W .EPISODE)
    (wEPISODE_NEXT : W .EPISODE_NEXT) (wEPISODE_OPEN_REASON : W .EPISODE_OPEN_REASON)
    (wEPISODE_OVERWRITTEN : W .EPISODE_OVERWRITTEN) (wEPISODE_SEQ : W .EPISODE_SEQ)
    (wEPISODE_SHORT : W .EPISODE_SHORT) (wEST_DYN : W .EST_DYN) (wEST_LEAK : W .EST_LEAK)
    (wEST_POWER : W .EST_POWER) (wEST_STATUS : W .EST_STATUS) (wEVENT_NEXT : W .EVENT_NEXT)
    (wEVENT_OVERWRITTEN : W .EVENT_OVERWRITTEN) (wEVENT_PAGE : W .EVENT_PAGE) (wEVENT_SEQ : W .EVENT_SEQ)
    (wFIELD_EST : W .FIELD_EST) (wFIELD_EST_SUBST : W .FIELD_EST_SUBST) (wGROUP_EST : W .GROUP_EST)
    (wGROUP_EST_SUBST : W .GROUP_EST_SUBST) (wPART_SUBST_WINDOWS : W .PART_SUBST_WINDOWS)
    (wRUN_CYCLES : W .RUN_CYCLES) (wRUN_IDEAL : W .RUN_IDEAL) (wRUN_LOSS_PPM : W .RUN_LOSS_PPM)
    (wRUN_LOST : W .RUN_LOST) (wRUN_LOST_E : W .RUN_LOST_E) (wRUN_START_TIME : W .RUN_START_TIME)
    (wRUN_STATUS : W .RUN_STATUS) (wRUN_TIME : W .RUN_TIME) (wTETHER_UNATTRIB : W .TETHER_UNATTRIB)
    (wTHR_LOST : W .THR_LOST) (wTHR_REASON_NOW : W .THR_REASON_NOW) (wTHR_TIME : W .THR_TIME) (qrefs : Q .refs)
    (qflt : Q .flt) (qrgn : Q .rgn) (qest : Q .est) (qfld : Q .fld) (qgrp : Q .grp) (qdom : Q .dom)
    (qfreeN : Q .freeN) (qenergy : Q .energy) (h : Fr W Q z s) :
    Fr W Q z (State.reportWindow s f w) := by
  unfold State.reportWindow
  repeat' first
    | with_reducible assumption | with_reducible refine State.each_kept ?_ ?_ | with_reducible apply State.add_frame
    | with_reducible apply State.keepEntry_frame | with_reducible apply State.chargeEnergy_frame
    | with_reducible apply State.chargeReport_frame | with_reducible apply State.wrFit_frame
    | with_reducible apply State.wr_frame | with_reducible apply State.chargeThrottle_frame
    | with_reducible apply State.domainWindow_frame | with_reducible apply State.modF_frame
    | with_reducible apply State.occField_frame | with_reducible apply State.sendWindow_frame | split | dsimp only
    | intro _

theorem execWindowReport_frame {f : Nat} {s : State} (wALERT_STATUS : W .ALERT_STATUS)
    (wCAUSED_CAP : W .CAUSED_CAP) (wCAUSED_DROOP : W .CAUSED_DROOP) (wCAUSED_FLOOR : W .CAUSED_FLOOR)
    (wENGINE_EST : W .ENGINE_EST) (wENGINE_EST_SUBST : W .ENGINE_EST_SUBST) (wEPISODE : W .EPISODE)
    (wEPISODE_NEXT : W .EPISODE_NEXT) (wEPISODE_OPEN_REASON : W .EPISODE_OPEN_REASON)
    (wEPISODE_OVERWRITTEN : W .EPISODE_OVERWRITTEN) (wEPISODE_SEQ : W .EPISODE_SEQ)
    (wEPISODE_SHORT : W .EPISODE_SHORT) (wEST_DYN : W .EST_DYN) (wEST_LEAK : W .EST_LEAK)
    (wEST_POWER : W .EST_POWER) (wEST_STATUS : W .EST_STATUS) (wEVENT_NEXT : W .EVENT_NEXT)
    (wEVENT_OVERWRITTEN : W .EVENT_OVERWRITTEN) (wEVENT_PAGE : W .EVENT_PAGE) (wEVENT_SEQ : W .EVENT_SEQ)
    (wFIELD_EST : W .FIELD_EST) (wFIELD_EST_SUBST : W .FIELD_EST_SUBST) (wGROUP_EST : W .GROUP_EST)
    (wGROUP_EST_SUBST : W .GROUP_EST_SUBST) (wPART_SUBST_WINDOWS : W .PART_SUBST_WINDOWS)
    (wRUN_CYCLES : W .RUN_CYCLES) (wRUN_IDEAL : W .RUN_IDEAL) (wRUN_LOSS_PPM : W .RUN_LOSS_PPM)
    (wRUN_LOST : W .RUN_LOST) (wRUN_LOST_E : W .RUN_LOST_E) (wRUN_START_TIME : W .RUN_START_TIME)
    (wRUN_STATUS : W .RUN_STATUS) (wRUN_TIME : W .RUN_TIME) (wTETHER_UNATTRIB : W .TETHER_UNATTRIB)
    (wTHR_LOST : W .THR_LOST) (wTHR_REASON_NOW : W .THR_REASON_NOW) (wTHR_TIME : W .THR_TIME) (qrefs : Q .refs)
    (qflt : Q .flt) (qrgn : Q .rgn) (qest : Q .est) (qfld : Q .fld) (qgrp : Q .grp) (qdom : Q .dom)
    (qfreeN : Q .freeN) (qenergy : Q .energy) (h : Fr W Q z s) :
    ∀ t, execWindowReport f s = .next t → Fr W Q z t := by
  unfold execWindowReport
  repeat' first
    | with_reducible refine next_kept ?_ | with_reducible assumption | with_reducible apply State.modF_frame
    | with_reducible apply State.reportWindow_frame | split

theorem execEstimatorReady_frame {s : State} (wUNIT_READY : W .UNIT_READY) (h : Fr W Q z s) :
    ∀ t, execEstimatorReady s = .next t → Fr W Q z t := by
  unfold execEstimatorReady
  repeat' first
    | with_reducible refine next_kept ?_ | with_reducible assumption | with_reducible refine State.when_kept ?_ ?_
    | with_reducible apply State.setReady_frame | split | dsimp only | intro _

theorem State.calSkip_frame {s : State} {d : Nat} {code : Nat} (wCAL_DEADBAND_HITS : W .CAL_DEADBAND_HITS)
    (wCAL_SKIPS : W .CAL_SKIPS) (wCAL_SKIP_LAST : W .CAL_SKIP_LAST) (h : Fr W Q z s) :
    Fr W Q z (State.calSkip s d code) := by
  unfold State.calSkip
  repeat' first
    | with_reducible assumption | with_reducible apply State.wr_frame | with_reducible apply State.inc_frame | split

theorem State.calDecide_frame {s : State} {d : Nat} {x : CalIn} (wCAL_DEADBAND_HITS : W .CAL_DEADBAND_HITS)
    (wCAL_ERR : W .CAL_ERR) (wCAL_SKIPS : W .CAL_SKIPS) (wCAL_SKIP_LAST : W .CAL_SKIP_LAST)
    (wCAL_UPDATES : W .CAL_UPDATES) (wDOMAIN_EST : W .DOMAIN_EST) (wDOMAIN_MEAS : W .DOMAIN_MEAS) (qest : Q .est)
    (qfld : Q .fld) (qdom : Q .dom) (h : Fr W Q z s) :
    Fr W Q z (State.calDecide s d x) := by
  unfold State.calDecide
  repeat' first
    | with_reducible assumption | with_reducible refine State.each_kept ?_ ?_ | with_reducible apply State.wr_frame
    | with_reducible apply State.wrSat_frame | with_reducible apply State.modF_frame
    | with_reducible apply State.modD_frame | with_reducible apply State.calSkip_frame
    | with_reducible apply State.inc_frame | with_reducible apply State.modE_frame | split | dsimp only | intro _

theorem execCalDecision_frame {d : Nat} {s : State} (wCAL_DEADBAND_HITS : W .CAL_DEADBAND_HITS)
    (wCAL_ERR : W .CAL_ERR) (wCAL_SKIPS : W .CAL_SKIPS) (wCAL_SKIP_LAST : W .CAL_SKIP_LAST)
    (wCAL_UPDATES : W .CAL_UPDATES) (wDOMAIN_EST : W .DOMAIN_EST) (wDOMAIN_MEAS : W .DOMAIN_MEAS) (qest : Q .est)
    (qfld : Q .fld) (qdom : Q .dom) (h : Fr W Q z s) :
    ∀ t, execCalDecision d s = .next t → Fr W Q z t := by
  unfold execCalDecision
  repeat' first
    | with_reducible refine next_kept ?_ | with_reducible assumption | with_reducible refine State.when_kept ?_ ?_
    | with_reducible apply State.calDecide_frame | split | dsimp only | intro _

theorem State.signLane_frame {s : State} {n : Nat} {k : Nat} {i : Nat} {sg : Int} (wEST_WEIGHT : W .EST_WEIGHT)
    (qlane : Q .lane) (h : Fr W Q z s) :
    Fr W Q z (State.signLane s n k i sg) := by
  unfold State.signLane
  repeat' first
    | with_reducible assumption | with_reducible apply State.setWeight_frame | with_reducible apply State.modLn_frame
    | split | dsimp only

theorem execCalSign_frame {n : Nat} {s : State} (wCAL_LATE : W .CAL_LATE) (wEST_WEIGHT : W .EST_WEIGHT)
    (qest : Q .est) (qlane : Q .lane) (h : Fr W Q z s) :
    ∀ t, execCalSign n s = .next t → Fr W Q z t := by
  unfold execCalSign
  repeat' first
    | with_reducible refine next_kept ?_ | with_reducible assumption | with_reducible refine State.each_kept ?_ ?_
    | with_reducible apply State.modE_frame | with_reducible apply State.inc_frame
    | with_reducible apply State.signLane_frame | split | dsimp only | intro _

theorem State.decayLane_frame {s : State} {n : Nat} {i : Nat} (wEST_WEIGHT : W .EST_WEIGHT) (qlane : Q .lane)
    (h : Fr W Q z s) :
    Fr W Q z (State.decayLane s n i) := by
  unfold State.decayLane
  repeat' first
    | with_reducible assumption | with_reducible apply State.modLn_frame | with_reducible apply State.setWeight_frame
    | split | dsimp only

theorem State.saturation_frame {s : State} {n : Nat} (wALERT_STATUS : W .ALERT_STATUS)
    (wCAL_SATURATED_EVENTS : W .CAL_SATURATED_EVENTS) (wEST_STATUS : W .EST_STATUS)
    (wEST_WEIGHTS_AT_CLAMP : W .EST_WEIGHTS_AT_CLAMP) (wEST_WEIGHT_DEV : W .EST_WEIGHT_DEV)
    (wEVENT_NEXT : W .EVENT_NEXT) (wEVENT_OVERWRITTEN : W .EVENT_OVERWRITTEN) (wEVENT_PAGE : W .EVENT_PAGE)
    (wEVENT_SEQ : W .EVENT_SEQ) (qflt : Q .flt) (qest : Q .est) (h : Fr W Q z s) :
    Fr W Q z (State.saturation s n) := by
  unfold State.saturation
  repeat' first
    | with_reducible assumption | with_reducible refine State.when_kept ?_ ?_ | with_reducible apply State.wr_frame
    | with_reducible apply State.wrSat_frame | with_reducible apply State.modE_frame
    | with_reducible apply State.setEst_frame | with_reducible apply State.inc_frame
    | with_reducible apply State.event_frame | split | dsimp only | intro _

theorem State.estimatorTick_frame {s : State} (wALERT_STATUS : W .ALERT_STATUS)
    (wCAL_ERR_MEAN : W .CAL_ERR_MEAN) (wCAL_SATURATED_EVENTS : W .CAL_SATURATED_EVENTS)
    (wEST_STATUS : W .EST_STATUS) (wEST_WEIGHT : W .EST_WEIGHT) (wEST_WEIGHTS_AT_CLAMP : W .EST_WEIGHTS_AT_CLAMP)
    (wEST_WEIGHT_DEV : W .EST_WEIGHT_DEV) (wEVENT_NEXT : W .EVENT_NEXT) (wEVENT_OVERWRITTEN : W .EVENT_OVERWRITTEN)
    (wEVENT_PAGE : W .EVENT_PAGE) (wEVENT_SEQ : W .EVENT_SEQ) (qflt : Q .flt) (qest : Q .est) (qlane : Q .lane)
    (qdom : Q .dom) (h : Fr W Q z s) :
    Fr W Q z (State.estimatorTick s) := by
  unfold State.estimatorTick
  repeat' first
    | with_reducible assumption | with_reducible refine State.each_kept ?_ ?_
    | with_reducible refine State.when_kept ?_ ?_ | with_reducible apply State.decayLane_frame
    | with_reducible apply State.saturation_frame | with_reducible apply State.wrSat_frame
    | with_reducible apply State.modD_frame | split | dsimp only | intro _

/-! ### Power -/

theorem State.showDomain_frame {s : State} {d : Nat} (wDOMAIN_STATE : W .DOMAIN_STATE) (h : Fr W Q z s) :
    Fr W Q z (State.showDomain s d) := by
  unfold State.showDomain
  repeat' first
    | with_reducible assumption | with_reducible apply State.wr_frame

theorem State.setPhase_frame {s : State} {d : Nat} {p : PdPhase} (wDOMAIN_STATE : W .DOMAIN_STATE)
    (qdom : Q .dom) (h : Fr W Q z s) :
    Fr W Q z (State.setPhase s d p) := by
  unfold State.setPhase
  repeat' first
    | with_reducible assumption | with_reducible apply State.modD_frame | with_reducible apply State.showDomain_frame

theorem State.countDomain_frame {s : State} {d : Nat} (wAGE_POWERED_H : W .AGE_POWERED_H) (qrgn : Q .rgn)
    (h : Fr W Q z s) :
    Fr W Q z (State.countDomain s d) := by
  unfold State.countDomain
  repeat' first
    | with_reducible assumption | with_reducible refine State.each_kept ?_ ?_
    | with_reducible apply State.countHours_frame | split | dsimp only | intro _

theorem State.switchPd_frame {s : State} {d : Nat} {p : PdPhase} {f : Dom → Dom}
    (wAGE_POWERED_H : W .AGE_POWERED_H) (qrgn : Q .rgn) (qdom : Q .dom) (qpdLast : Q .pdLast) (h : Fr W Q z s) :
    Fr W Q z (State.switchPd s d p f) := by
  unfold State.switchPd
  repeat' first
    | with_reducible assumption | with_reducible apply State.countDomain_frame | with_reducible apply State.modD_frame
    | split | dsimp only | intro _ | with_reducible apply Fr.lit | with_reducible exact Or.inl (by assumption)
    | with_reducible exact Or.inr rfl

theorem State.endTransition_frame {s : State} {d : Nat} (wDOMAIN_STATE : W .DOMAIN_STATE)
    (wSY_POST_OVERFLOW : W .SY_POST_OVERFLOW) (qdom : Q .dom) (qpdWakes : Q .pdWakes) (qbox : Q .box)
    (h : Fr W Q z s) :
    Fr W Q z (State.endTransition s d) := by
  unfold State.endTransition
  repeat' first
    | with_reducible assumption | with_reducible refine State.when_kept ?_ ?_ | with_reducible apply State.modD_frame
    | with_reducible apply State.showDomain_frame | with_reducible apply State.deliverDomain_frame | split
    | dsimp only | intro _ | with_reducible apply Fr.lit | with_reducible exact Or.inl (by assumption)
    | with_reducible exact Or.inr rfl

theorem State.fenceDomain_frame {s : State} {d : Nat} (wDOMAIN_STATE : W .DOMAIN_STATE)
    (wMB_COUNT : W .MB_COUNT) (wMB_DISCARDS : W .MB_DISCARDS) (qcell : Q .cell) (qdom : Q .dom) (qbox : Q .box)
    (qports : Q .ports) (h : Fr W Q z s) :
    Fr W Q z (State.fenceDomain s d) := by
  unfold State.fenceDomain
  repeat' first
    | with_reducible assumption | with_reducible refine State.each_kept ?_ ?_
    | with_reducible apply State.discardDomain_frame | with_reducible apply State.fenceAll_frame
    | with_reducible apply State.setPhase_frame | split | dsimp only | intro _

theorem State.darken_frame {s : State} {n : Nat} (wDS_STATUS : W .DS_STATUS) (wOSC_STATUS : W .OSC_STATUS)
    (wREGION_TIME : W .REGION_TIME) (wSLIP : W .SLIP) (wSTRETCH_E_FLOOR : W .STRETCH_E_FLOOR)
    (wSTRETCH_HOLDS : W .STRETCH_HOLDS) (wTETHER_STATUS : W .TETHER_STATUS) (qrgn : Q .rgn) (qest : Q .est)
    (qgrp : Q .grp) (h : Fr W Q z s) :
    Fr W Q z (State.darken s n) := by
  unfold State.darken
  repeat' first
    | with_reducible assumption | with_reducible apply State.unpark_frame | with_reducible apply State.stopClock_frame
    | with_reducible apply State.setOsc_frame | with_reducible apply State.islandsDueAt_frame
    | with_reducible apply State.modR_frame | with_reducible apply State.modE_frame

theorem State.darkenDomain_frame {s : State} {d : Nat} (wDS_STATUS : W .DS_STATUS) (wOSC_STATUS : W .OSC_STATUS)
    (wREGION_TIME : W .REGION_TIME) (wSLIP : W .SLIP) (wSTRETCH_E_FLOOR : W .STRETCH_E_FLOOR)
    (wSTRETCH_HOLDS : W .STRETCH_HOLDS) (wTETHER_STATUS : W .TETHER_STATUS) (qrgn : Q .rgn) (qest : Q .est)
    (qgrp : Q .grp) (h : Fr W Q z s) :
    Fr W Q z (State.darkenDomain s d) := by
  unfold State.darkenDomain
  repeat' first
    | with_reducible assumption | with_reducible refine State.each_kept ?_ ?_
    | with_reducible apply State.darken_frame | split | dsimp only | intro _

theorem State.isolateRouter_frame {s : State} {d : Nat} (wDOMAIN_STATE : W .DOMAIN_STATE) (qcell : Q .cell)
    (qdom : Q .dom) (h : Fr W Q z s) :
    Fr W Q z (State.isolateRouter s d) := by
  unfold State.isolateRouter
  repeat' first
    | with_reducible assumption | with_reducible refine State.each_kept ?_ ?_
    | with_reducible apply State.isolateCells_frame | with_reducible apply State.modD_frame
    | with_reducible apply State.setPhase_frame | split | dsimp only | intro _

theorem State.routerBack_frame {s : State} {d : Nat} (wEST_STATUS : W .EST_STATUS)
    (wICROSS_RESYNCS : W .ICROSS_RESYNCS) (qest : Q .est) (qlane : Q .lane) (h : Fr W Q z s) :
    Fr W Q z (State.routerBack s d) := by
  unfold State.routerBack
  repeat' first
    | with_reducible assumption | with_reducible refine State.each_kept ?_ ?_
    | with_reducible apply State.loseBaselines_frame | with_reducible apply State.add_frame | split | dsimp only
    | intro _

theorem State.coreBack_frame {s : State} {d : Nat} (wEST_STATUS : W .EST_STATUS) (qest : Q .est)
    (qlane : Q .lane) (h : Fr W Q z s) :
    Fr W Q z (State.coreBack s d) := by
  unfold State.coreBack
  repeat' first
    | with_reducible assumption | with_reducible refine State.each_kept ?_ ?_
    | with_reducible apply State.loseCoreBaselines_frame | split | dsimp only | intro _

theorem State.detachDomain_frame {s : State} {d : Nat} (wDOMAIN_STATE : W .DOMAIN_STATE)
    (wOSC_CODE : W .OSC_CODE) (wOSC_PERMIT_MAX : W .OSC_PERMIT_MAX) (wOSC_STATUS : W .OSC_STATUS)
    (wOSC_TARGET_N : W .OSC_TARGET_N) (wREGION_COUNT : W .REGION_COUNT) (wREGION_DETACHED : W .REGION_DETACHED)
    (wSLIP : W .SLIP) (wTETHER_STATUS : W .TETHER_STATUS) (qrgn : Q .rgn) (qdom : Q .dom) (h : Fr W Q z s) :
    Fr W Q z (State.detachDomain s d) := by
  unfold State.detachDomain
  repeat' first
    | with_reducible assumption | with_reducible refine State.each_kept ?_ ?_
    | with_reducible apply State.startRegion_frame | with_reducible apply State.wr_frame
    | with_reducible apply State.modR_frame | with_reducible apply State.modD_frame
    | with_reducible apply State.setPhase_frame | split | dsimp only | intro _

theorem State.openCore_frame {s : State} {d : Nat} (wDOMAIN_STATE : W .DOMAIN_STATE)
    (wSY_POST_OVERFLOW : W .SY_POST_OVERFLOW) (qdom : Q .dom) (qbox : Q .box) (h : Fr W Q z s) :
    Fr W Q z (State.openCore s d) := by
  unfold State.openCore
  repeat' first
    | with_reducible assumption | with_reducible apply State.modD_frame
    | with_reducible apply State.deliverDomain_frame | with_reducible apply State.setPhase_frame

theorem State.restoreCore_frame {s : State} {d : Nat} (wDOMAIN_STATE : W .DOMAIN_STATE)
    (wSY_POST_OVERFLOW : W .SY_POST_OVERFLOW) (qdom : Q .dom) (qbox : Q .box) (h : Fr W Q z s) :
    Fr W Q z (State.restoreCore s d) := by
  unfold State.restoreCore
  repeat' first
    | with_reducible assumption | with_reducible apply State.modD_frame | with_reducible apply State.setPhase_frame
    | with_reducible apply State.openCore_frame | split

theorem State.advance_frame {s0 : State} {d : Nat} (wDOMAIN_STATE : W .DOMAIN_STATE) (wMB_COUNT : W .MB_COUNT)
    (wMB_DISCARDS : W .MB_DISCARDS) (wSY_POST_OVERFLOW : W .SY_POST_OVERFLOW) (qcell : Q .cell) (qdom : Q .dom)
    (qpdWakes : Q .pdWakes) (qbox : Q .box) (qports : Q .ports) (h : Fr W Q z s0) :
    Fr W Q z (State.advance s0 d) := by
  unfold State.advance
  repeat' first
    | with_reducible assumption | with_reducible apply State.modD_frame
    | with_reducible apply State.endTransition_frame | with_reducible apply State.setPhase_frame
    | with_reducible apply State.fenceDomain_frame | split | dsimp only

theorem State.nextPhase_frame {s : State} {d : Nat} {p : PdPhase} (wAGE_POWERED_H : W .AGE_POWERED_H)
    (wDOMAIN_STATE : W .DOMAIN_STATE) (wDS_STATUS : W .DS_STATUS) (wEST_STATUS : W .EST_STATUS)
    (wICROSS_RESYNCS : W .ICROSS_RESYNCS) (wMB_COUNT : W .MB_COUNT) (wMB_DISCARDS : W .MB_DISCARDS)
    (wOSC_CODE : W .OSC_CODE) (wOSC_PERMIT_MAX : W .OSC_PERMIT_MAX) (wOSC_STATUS : W .OSC_STATUS)
    (wOSC_TARGET_N : W .OSC_TARGET_N) (wREGION_COUNT : W .REGION_COUNT) (wREGION_DETACHED : W .REGION_DETACHED)
    (wREGION_TIME : W .REGION_TIME) (wSLIP : W .SLIP) (wSTRETCH_E_FLOOR : W .STRETCH_E_FLOOR)
    (wSTRETCH_HOLDS : W .STRETCH_HOLDS) (wSY_POST_OVERFLOW : W .SY_POST_OVERFLOW)
    (wTETHER_STATUS : W .TETHER_STATUS) (qrgn : Q .rgn) (qest : Q .est) (qlane : Q .lane) (qcell : Q .cell)
    (qgrp : Q .grp) (qdom : Q .dom) (qpdWakes : Q .pdWakes) (qpdLast : Q .pdLast) (qbox : Q .box)
    (qports : Q .ports) (h : Fr W Q z s) :
    Fr W Q z (State.nextPhase s d p) := by
  unfold State.nextPhase
  repeat' first
    | with_reducible assumption | with_reducible apply State.modD_frame | with_reducible apply State.restoreCore_frame
    | with_reducible apply State.setPhase_frame | with_reducible apply State.switchPd_frame
    | with_reducible apply State.advance_frame | with_reducible apply State.darkenDomain_frame
    | with_reducible apply State.isolateRouter_frame | with_reducible apply State.detachDomain_frame
    | with_reducible apply State.endTransition_frame | with_reducible apply State.routerBack_frame
    | with_reducible apply State.fenceDomain_frame | with_reducible apply State.coreBack_frame
    | with_reducible apply State.openCore_frame | split | dsimp only

theorem State.fillPlaces_frame {s : State} (wDOMAIN_STATE : W .DOMAIN_STATE) (wMB_COUNT : W .MB_COUNT)
    (wMB_DISCARDS : W .MB_DISCARDS) (wSY_POST_OVERFLOW : W .SY_POST_OVERFLOW) (qcell : Q .cell) (qdom : Q .dom)
    (qpdWakes : Q .pdWakes) (qpdCmds : Q .pdCmds) (qbox : Q .box) (qports : Q .ports) (h : Fr W Q z s) :
    Fr W Q z (State.fillPlaces s) := by
  unfold State.fillPlaces
  repeat' first
    | with_reducible assumption | with_reducible refine State.each_kept ?_ ?_
    | with_reducible refine State.when_kept ?_ ?_ | with_reducible apply State.advance_frame | split | dsimp only
    | intro _ | with_reducible apply Fr.lit | with_reducible exact Or.inl (by assumption)
    | with_reducible exact Or.inr rfl

theorem State.submitTarget_frame {s : State} {d : Nat} {tgt : Nat} (wDOMAIN_STATE : W .DOMAIN_STATE)
    (wDOMAIN_TARGET : W .DOMAIN_TARGET) (wMB_COUNT : W .MB_COUNT) (wMB_DISCARDS : W .MB_DISCARDS)
    (wSY_POST_OVERFLOW : W .SY_POST_OVERFLOW) (qcell : Q .cell) (qdom : Q .dom) (qpdWakes : Q .pdWakes)
    (qpdCmds : Q .pdCmds) (qbox : Q .box) (qports : Q .ports) (h : Fr W Q z s) :
    Fr W Q z (State.submitTarget s d tgt) := by
  unfold State.submitTarget
  repeat' first
    | with_reducible assumption | with_reducible apply State.wr_frame | with_reducible apply State.fillPlaces_frame
    | split | dsimp only | intro _ | with_reducible apply Fr.lit | with_reducible exact Or.inl (by assumption)
    | with_reducible exact Or.inr rfl

theorem State.submitWake_frame {s : State} {d : Nat} (wDOMAIN_STATE : W .DOMAIN_STATE)
    (wDOMAIN_TARGET : W .DOMAIN_TARGET) (wMB_COUNT : W .MB_COUNT) (wMB_DISCARDS : W .MB_DISCARDS)
    (wSY_POST_OVERFLOW : W .SY_POST_OVERFLOW) (qcell : Q .cell) (qdom : Q .dom) (qpdWakes : Q .pdWakes)
    (qpdCmds : Q .pdCmds) (qbox : Q .box) (qports : Q .ports) (h : Fr W Q z s) :
    Fr W Q z (State.submitWake s d) := by
  unfold State.submitWake
  repeat' first
    | with_reducible assumption | with_reducible apply State.wr_frame | with_reducible apply State.fillPlaces_frame
    | split | dsimp only | intro _ | with_reducible apply Fr.lit | with_reducible exact Or.inl (by assumption)
    | with_reducible exact Or.inr rfl

theorem execPowerStepWaitEnd_frame {d : Nat} {s : State} (wAGE_POWERED_H : W .AGE_POWERED_H)
    (wDOMAIN_STATE : W .DOMAIN_STATE) (wDS_STATUS : W .DS_STATUS) (wEST_STATUS : W .EST_STATUS)
    (wICROSS_RESYNCS : W .ICROSS_RESYNCS) (wMB_COUNT : W .MB_COUNT) (wMB_DISCARDS : W .MB_DISCARDS)
    (wOSC_CODE : W .OSC_CODE) (wOSC_PERMIT_MAX : W .OSC_PERMIT_MAX) (wOSC_STATUS : W .OSC_STATUS)
    (wOSC_TARGET_N : W .OSC_TARGET_N) (wREGION_COUNT : W .REGION_COUNT) (wREGION_DETACHED : W .REGION_DETACHED)
    (wREGION_TIME : W .REGION_TIME) (wSLIP : W .SLIP) (wSTRETCH_E_FLOOR : W .STRETCH_E_FLOOR)
    (wSTRETCH_HOLDS : W .STRETCH_HOLDS) (wSY_POST_OVERFLOW : W .SY_POST_OVERFLOW)
    (wTETHER_STATUS : W .TETHER_STATUS) (qrgn : Q .rgn) (qest : Q .est) (qlane : Q .lane) (qcell : Q .cell)
    (qgrp : Q .grp) (qdom : Q .dom) (qpdWakes : Q .pdWakes) (qpdCmds : Q .pdCmds) (qpdLast : Q .pdLast)
    (qbox : Q .box) (qports : Q .ports) (h : Fr W Q z s) :
    ∀ t, execPowerStepWaitEnd d s = .next t → Fr W Q z t := by
  unfold execPowerStepWaitEnd
  repeat' first
    | with_reducible refine next_kept ?_ | with_reducible assumption | with_reducible refine State.when_kept ?_ ?_
    | with_reducible apply State.nextPhase_frame | with_reducible apply State.fillPlaces_frame | split | dsimp only
    | intro _

theorem execPdAckChange_frame {d : Nat} {rtr : Bool} {level : Bool} {s : State}
    (wAGE_POWERED_H : W .AGE_POWERED_H) (wDOMAIN_STATE : W .DOMAIN_STATE) (wDS_STATUS : W .DS_STATUS)
    (wEST_STATUS : W .EST_STATUS) (wICROSS_RESYNCS : W .ICROSS_RESYNCS) (wMB_COUNT : W .MB_COUNT)
    (wMB_DISCARDS : W .MB_DISCARDS) (wOSC_CODE : W .OSC_CODE) (wOSC_PERMIT_MAX : W .OSC_PERMIT_MAX)
    (wOSC_STATUS : W .OSC_STATUS) (wOSC_TARGET_N : W .OSC_TARGET_N) (wREGION_COUNT : W .REGION_COUNT)
    (wREGION_DETACHED : W .REGION_DETACHED) (wREGION_TIME : W .REGION_TIME) (wSLIP : W .SLIP)
    (wSTRETCH_E_FLOOR : W .STRETCH_E_FLOOR) (wSTRETCH_HOLDS : W .STRETCH_HOLDS)
    (wSY_POST_OVERFLOW : W .SY_POST_OVERFLOW) (wTETHER_STATUS : W .TETHER_STATUS) (qrgn : Q .rgn) (qest : Q .est)
    (qlane : Q .lane) (qcell : Q .cell) (qgrp : Q .grp) (qdom : Q .dom) (qpdWakes : Q .pdWakes)
    (qpdCmds : Q .pdCmds) (qpdLast : Q .pdLast) (qbox : Q .box) (qports : Q .ports) (h : Fr W Q z s) :
    ∀ t, execPdAckChange d rtr level s = .next t → Fr W Q z t := by
  unfold execPdAckChange
  repeat' first
    | with_reducible refine next_kept ?_ | with_reducible assumption | with_reducible refine State.when_kept ?_ ?_
    | with_reducible apply State.countDomain_frame | with_reducible apply State.modD_frame
    | with_reducible apply State.nextPhase_frame | with_reducible apply State.fillPlaces_frame | split | dsimp only
    | intro _

theorem execPdTimeout_frame {d : Nat} {s : State} (qflt : Q .flt) (qdom : Q .dom) (h : Fr W Q z s) :
    ∀ t, execPdTimeout d s = .next t → Fr W Q z t := by
  unfold execPdTimeout
  repeat' first
    | with_reducible refine next_kept ?_ | with_reducible assumption | with_reducible refine State.when_kept ?_ ?_
    | with_reducible apply State.modD_frame | with_reducible apply State.raiseFault_frame | split | dsimp only
    | intro _

theorem execQuiesceTimeout_frame {s : State} (wDOMAIN_STATE : W .DOMAIN_STATE) (wFIELD_VNEED : W .FIELD_VNEED)
    (wFIELD_VOLT : W .FIELD_VOLT) (wFIELD_VOLT_AT_CEIL : W .FIELD_VOLT_AT_CEIL) (wMB_COUNT : W .MB_COUNT)
    (wMB_DISCARDS : W .MB_DISCARDS) (wRAIL_RETRIES : W .RAIL_RETRIES) (wRAIL_STATUS : W .RAIL_STATUS)
    (wREGION_STOP_ABORTS : W .REGION_STOP_ABORTS) (wREGION_STOP_RESULT : W .REGION_STOP_RESULT)
    (wREGION_STOP_STATE : W .REGION_STOP_STATE) (wSY_POST_OVERFLOW : W .SY_POST_OVERFLOW)
    (wSY_QUIESCES : W .SY_QUIESCES) (qcell : Q .cell) (qfld : Q .fld) (qdom : Q .dom) (qpdWakes : Q .pdWakes)
    (qpdCmds : Q .pdCmds) (qlink : Q .link) (qrail : Q .rail) (qstop : Q .stop) (qbox : Q .box) (qports : Q .ports)
    (h : Fr W Q z s) :
    ∀ t, execQuiesceTimeout s = .next t → Fr W Q z t := by
  unfold execQuiesceTimeout
  repeat' first
    | with_reducible refine next_kept ?_ | with_reducible assumption | with_reducible refine State.when_kept ?_ ?_
    | with_reducible apply State.syncQreq_frame | with_reducible apply State.abortStop_frame
    | with_reducible apply State.fillPlaces_frame | split | dsimp only | intro _

theorem execRegionRestart_frame {n : Nat} {s : State} (wDOMAIN_STATE : W .DOMAIN_STATE)
    (wDS_STATUS : W .DS_STATUS) (wMB_COUNT : W .MB_COUNT) (wMB_DISCARDS : W .MB_DISCARDS)
    (wOSC_STATUS : W .OSC_STATUS) (wSY_POST_OVERFLOW : W .SY_POST_OVERFLOW) (qrgn : Q .rgn) (qcell : Q .cell)
    (qgrp : Q .grp) (qdom : Q .dom) (qpdWakes : Q .pdWakes) (qpdCmds : Q .pdCmds) (qstop : Q .stop) (qbox : Q .box)
    (qports : Q .ports) (h : Fr W Q z s) :
    ∀ t, execRegionRestart n s = .next t → Fr W Q z t := by
  unfold execRegionRestart
  repeat' first
    | with_reducible refine next_kept ?_ | with_reducible assumption | with_reducible refine State.when_kept ?_ ?_
    | with_reducible apply State.restartClock_frame | with_reducible apply State.lowerReq_frame
    | with_reducible apply State.reopenCells_frame | with_reducible apply State.unobserve_frame
    | with_reducible apply State.fillPlaces_frame | split | dsimp only | intro _ | with_reducible apply Fr.lit
    | with_reducible exact Or.inl (by assumption) | with_reducible exact Or.inr rfl

theorem execRestartReport_frame {n : Nat} {s : State} (wDOMAIN_STATE : W .DOMAIN_STATE)
    (wFIELD_VNEED : W .FIELD_VNEED) (wFIELD_VOLT : W .FIELD_VOLT) (wFIELD_VOLT_AT_CEIL : W .FIELD_VOLT_AT_CEIL)
    (wMB_COUNT : W .MB_COUNT) (wMB_DISCARDS : W .MB_DISCARDS) (wRAIL_RETRIES : W .RAIL_RETRIES)
    (wRAIL_STATUS : W .RAIL_STATUS) (wREGION_STOP_RESULT : W .REGION_STOP_RESULT)
    (wREGION_STOP_STATE : W .REGION_STOP_STATE) (wSY_POST_OVERFLOW : W .SY_POST_OVERFLOW)
    (wSY_QUIESCES : W .SY_QUIESCES) (qcell : Q .cell) (qfld : Q .fld) (qdom : Q .dom) (qpdWakes : Q .pdWakes)
    (qpdCmds : Q .pdCmds) (qlink : Q .link) (qrail : Q .rail) (qstop : Q .stop) (qbox : Q .box) (qports : Q .ports)
    (h : Fr W Q z s) :
    ∀ t, execRestartReport n s = .next t → Fr W Q z t := by
  unfold execRestartReport
  repeat' first
    | with_reducible refine next_kept ?_ | with_reducible assumption | with_reducible refine State.when_kept ?_ ?_
    | with_reducible apply State.syncQreq_frame | with_reducible apply State.wr_frame
    | with_reducible apply State.predictVolt_frame | with_reducible apply State.requestVolt_frame
    | with_reducible apply State.modF_frame | with_reducible apply State.setStop_frame
    | with_reducible apply State.nextStop_frame | with_reducible apply State.fillPlaces_frame | split | dsimp only
    | intro _ | with_reducible apply Fr.lit | with_reducible exact Or.inl (by assumption)
    | with_reducible exact Or.inr rfl

theorem execVoltTimeout_frame {g : Nat} {s : State} (wALERT_STATUS : W .ALERT_STATUS)
    (wDOMAIN_STATE : W .DOMAIN_STATE) (wEVENT_NEXT : W .EVENT_NEXT) (wEVENT_OVERWRITTEN : W .EVENT_OVERWRITTEN)
    (wEVENT_PAGE : W .EVENT_PAGE) (wEVENT_SEQ : W .EVENT_SEQ) (wFIELD_VNEED : W .FIELD_VNEED)
    (wFIELD_VOLT : W .FIELD_VOLT) (wFIELD_VOLT_AT_CEIL : W .FIELD_VOLT_AT_CEIL)
    (wGROUP_CHG_ABORTS : W .GROUP_CHG_ABORTS) (wGROUP_CHG_RESULT : W .GROUP_CHG_RESULT)
    (wGROUP_CHG_STATE : W .GROUP_CHG_STATE) (wMB_COUNT : W .MB_COUNT) (wMB_DISCARDS : W .MB_DISCARDS)
    (wRAIL_RETRIES : W .RAIL_RETRIES) (wRAIL_STATUS : W .RAIL_STATUS) (wREGION_STOP_ABORTS : W .REGION_STOP_ABORTS)
    (wREGION_STOP_RESULT : W .REGION_STOP_RESULT) (wREGION_STOP_STATE : W .REGION_STOP_STATE)
    (wSY_POST_OVERFLOW : W .SY_POST_OVERFLOW) (qflt : Q .flt) (qcell : Q .cell) (qfld : Q .fld) (qgrp : Q .grp)
    (qdom : Q .dom) (qpdWakes : Q .pdWakes) (qpdCmds : Q .pdCmds) (qlink : Q .link) (qrail : Q .rail)
    (qstop : Q .stop) (qbox : Q .box) (qports : Q .ports) (h : Fr W Q z s) :
    ∀ t, execVoltTimeout g s = .next t → Fr W Q z t := by
  unfold execVoltTimeout
  repeat' first
    | with_reducible refine next_kept ?_ | with_reducible assumption | with_reducible apply State.timeoutStop_frame
    | with_reducible apply State.fillPlaces_frame | with_reducible apply State.timeoutStep_frame | split

/-! ### Mailbox -/

theorem State.acceptPost_frame {s : State} {q : EpReq} (wMB_COUNT : W .MB_COUNT) (wMB_POSTS : W .MB_POSTS)
    (wSY_POST_OVERFLOW : W .SY_POST_OVERFLOW) (qbox : Q .box) (qports : Q .ports) (h : Fr W Q z s) :
    Fr W Q z (State.acceptPost s q).2.2 := by
  unfold State.acceptPost
  repeat' first
    | with_reducible assumption | with_reducible apply State.modBx_frame | with_reducible apply State.inc_frame
    | with_reducible apply State.showCount_frame | with_reducible apply State.semEvent_frame
    | with_reducible apply State.setNotice_frame

theorem State.take_frame {s : State} {q : EpReq} (wALERT_STATUS : W .ALERT_STATUS) (wEVENT_NEXT : W .EVENT_NEXT)
    (wEVENT_OVERWRITTEN : W .EVENT_OVERWRITTEN) (wEVENT_PAGE : W .EVENT_PAGE) (wEVENT_SEQ : W .EVENT_SEQ)
    (wINJ_ARM : W .INJ_ARM) (wINJ_COUNT : W .INJ_COUNT) (wINJ_RESULT : W .INJ_RESULT) (wMB_COUNT : W .MB_COUNT)
    (wSRAM_CE : W .SRAM_CE) (wSRAM_UE : W .SRAM_UE) (qflt : Q .flt) (qinj : Q .inj) (qbox : Q .box) (h : Fr W Q z s) :
    Fr W Q z (State.take s q).2.2 := by
  unfold State.take
  repeat' first
    | with_reducible assumption | with_reducible apply State.sramRead_frame | with_reducible apply State.modBx_frame
    | with_reducible apply State.showCount_frame | with_reducible apply State.shiftWords_frame
    | with_reducible apply State.sramLost_frame | split | dsimp only

theorem State.peek_frame {s : State} {q : EpReq} (wALERT_STATUS : W .ALERT_STATUS) (wEVENT_NEXT : W .EVENT_NEXT)
    (wEVENT_OVERWRITTEN : W .EVENT_OVERWRITTEN) (wEVENT_PAGE : W .EVENT_PAGE) (wEVENT_SEQ : W .EVENT_SEQ)
    (wINJ_ARM : W .INJ_ARM) (wINJ_COUNT : W .INJ_COUNT) (wINJ_RESULT : W .INJ_RESULT) (wSRAM_CE : W .SRAM_CE)
    (wSRAM_UE : W .SRAM_UE) (qflt : Q .flt) (qinj : Q .inj) (h : Fr W Q z s) :
    Fr W Q z (State.peek s q).2.2 := by
  unfold State.peek
  repeat' first
    | with_reducible assumption | with_reducible apply State.sramRead_frame
    | with_reducible apply State.sramLost_frame | split | dsimp only | intro _ | with_reducible apply Fr.lit
    | with_reducible exact Or.inl (by assumption) | with_reducible exact Or.inr rfl

theorem State.mailDo_frame {s : State} {op : Nat} {q : EpReq} (wALERT_STATUS : W .ALERT_STATUS)
    (wEVENT_NEXT : W .EVENT_NEXT) (wEVENT_OVERWRITTEN : W .EVENT_OVERWRITTEN) (wEVENT_PAGE : W .EVENT_PAGE)
    (wEVENT_SEQ : W .EVENT_SEQ) (wINJ_ARM : W .INJ_ARM) (wINJ_COUNT : W .INJ_COUNT) (wINJ_RESULT : W .INJ_RESULT)
    (wMB_COUNT : W .MB_COUNT) (wMB_POSTS : W .MB_POSTS) (wSRAM_CE : W .SRAM_CE) (wSRAM_UE : W .SRAM_UE)
    (wSY_POST_OVERFLOW : W .SY_POST_OVERFLOW) (qflt : Q .flt) (qinj : Q .inj) (qbox : Q .box) (qports : Q .ports)
    (h : Fr W Q z s) :
    Fr W Q z (State.mailDo s op q).2.2 := by
  unfold State.mailDo
  repeat' first
    | with_reducible assumption | with_reducible apply State.acceptPost_frame | with_reducible apply State.take_frame
    | with_reducible apply State.peek_frame | split

theorem State.mailSend_frame {s : State} {op : Nat} {q : EpReq} (wALERT_STATUS : W .ALERT_STATUS)
    (wEVENT_NEXT : W .EVENT_NEXT) (wEVENT_OVERWRITTEN : W .EVENT_OVERWRITTEN) (wEVENT_PAGE : W .EVENT_PAGE)
    (wEVENT_SEQ : W .EVENT_SEQ) (wINJ_ARM : W .INJ_ARM) (wINJ_COUNT : W .INJ_COUNT) (wINJ_RESULT : W .INJ_RESULT)
    (wMB_COUNT : W .MB_COUNT) (wMB_POSTS : W .MB_POSTS) (wSRAM_CE : W .SRAM_CE) (wSRAM_UE : W .SRAM_UE)
    (wSY_POST_OVERFLOW : W .SY_POST_OVERFLOW) (qflt : Q .flt) (qinj : Q .inj) (qbox : Q .box) (qports : Q .ports)
    (h : Fr W Q z s) :
    Fr W Q z (State.mailSend s op q) := by
  unfold State.mailSend
  repeat' first
    | with_reducible assumption | with_reducible apply State.mailDo_frame | with_reducible apply State.respond_frame
    | split | dsimp only | intro _ | with_reducible apply Fr.lit | with_reducible exact Or.inl (by assumption)
    | with_reducible exact Or.inr rfl

theorem State.mailPost_frame {s : State} {q : EpReq} (wALERT_STATUS : W .ALERT_STATUS)
    (wEVENT_NEXT : W .EVENT_NEXT) (wEVENT_OVERWRITTEN : W .EVENT_OVERWRITTEN) (wEVENT_PAGE : W .EVENT_PAGE)
    (wEVENT_SEQ : W .EVENT_SEQ) (wINJ_ARM : W .INJ_ARM) (wINJ_COUNT : W .INJ_COUNT) (wINJ_RESULT : W .INJ_RESULT)
    (wMB_COUNT : W .MB_COUNT) (wMB_POSTS : W .MB_POSTS) (wSRAM_CE : W .SRAM_CE) (wSRAM_UE : W .SRAM_UE)
    (wSY_POST_OVERFLOW : W .SY_POST_OVERFLOW) (qflt : Q .flt) (qinj : Q .inj) (qbox : Q .box) (qports : Q .ports)
    (h : Fr W Q z s) :
    Fr W Q z (State.mailPost s q) := by
  unfold State.mailPost
  repeat' first
    | with_reducible assumption | with_reducible apply State.respond_frame | with_reducible apply State.mailSend_frame
    | split | dsimp only

theorem execMbPost_frame {q : EpReq} {s : State} (wALERT_STATUS : W .ALERT_STATUS) (wEVENT_NEXT : W .EVENT_NEXT)
    (wEVENT_OVERWRITTEN : W .EVENT_OVERWRITTEN) (wEVENT_PAGE : W .EVENT_PAGE) (wEVENT_SEQ : W .EVENT_SEQ)
    (wINJ_ARM : W .INJ_ARM) (wINJ_COUNT : W .INJ_COUNT) (wINJ_RESULT : W .INJ_RESULT) (wMB_COUNT : W .MB_COUNT)
    (wMB_POSTS : W .MB_POSTS) (wSRAM_CE : W .SRAM_CE) (wSRAM_UE : W .SRAM_UE)
    (wSY_POST_OVERFLOW : W .SY_POST_OVERFLOW) (qflt : Q .flt) (qinj : Q .inj) (qbox : Q .box) (qports : Q .ports)
    (h : Fr W Q z s) :
    ∀ t, execMbPost q s = .next t → Fr W Q z t := by
  refine next_kept ?_
  apply State.epTake_frame <;> first
    | assumption | exact fun _ _ ht => ht | (intro _ ht; apply State.mailPost_frame <;> assumption)

theorem State.mailRead_frame {s : State} {op : Nat} {mode : Nat} {q : EpReq} (wALERT_STATUS : W .ALERT_STATUS)
    (wEVENT_NEXT : W .EVENT_NEXT) (wEVENT_OVERWRITTEN : W .EVENT_OVERWRITTEN) (wEVENT_PAGE : W .EVENT_PAGE)
    (wEVENT_SEQ : W .EVENT_SEQ) (wINJ_ARM : W .INJ_ARM) (wINJ_COUNT : W .INJ_COUNT) (wINJ_RESULT : W .INJ_RESULT)
    (wMB_COUNT : W .MB_COUNT) (wMB_POSTS : W .MB_POSTS) (wSRAM_CE : W .SRAM_CE) (wSRAM_UE : W .SRAM_UE)
    (wSY_POST_OVERFLOW : W .SY_POST_OVERFLOW) (qflt : Q .flt) (qinj : Q .inj) (qbox : Q .box) (qports : Q .ports)
    (h : Fr W Q z s) :
    Fr W Q z (State.mailRead s op mode q) := by
  unfold State.mailRead
  repeat' first
    | with_reducible assumption | with_reducible apply State.respond_frame | with_reducible apply State.mailSend_frame
    | split | dsimp only

theorem execMbTake_frame {q : EpReq} {s : State} (wALERT_STATUS : W .ALERT_STATUS) (wEVENT_NEXT : W .EVENT_NEXT)
    (wEVENT_OVERWRITTEN : W .EVENT_OVERWRITTEN) (wEVENT_PAGE : W .EVENT_PAGE) (wEVENT_SEQ : W .EVENT_SEQ)
    (wINJ_ARM : W .INJ_ARM) (wINJ_COUNT : W .INJ_COUNT) (wINJ_RESULT : W .INJ_RESULT) (wMB_COUNT : W .MB_COUNT)
    (wMB_POSTS : W .MB_POSTS) (wSRAM_CE : W .SRAM_CE) (wSRAM_UE : W .SRAM_UE)
    (wSY_POST_OVERFLOW : W .SY_POST_OVERFLOW) (qflt : Q .flt) (qinj : Q .inj) (qbox : Q .box) (qports : Q .ports)
    (h : Fr W Q z s) :
    ∀ t, execMbTake q s = .next t → Fr W Q z t := by
  refine next_kept ?_
  apply State.epTake_frame <;> first
    | assumption | exact fun _ _ ht => ht | (intro _ ht; apply State.mailRead_frame <;> assumption)

theorem execMbPeek_frame {q : EpReq} {s : State} (wALERT_STATUS : W .ALERT_STATUS) (wEVENT_NEXT : W .EVENT_NEXT)
    (wEVENT_OVERWRITTEN : W .EVENT_OVERWRITTEN) (wEVENT_PAGE : W .EVENT_PAGE) (wEVENT_SEQ : W .EVENT_SEQ)
    (wINJ_ARM : W .INJ_ARM) (wINJ_COUNT : W .INJ_COUNT) (wINJ_RESULT : W .INJ_RESULT) (wMB_COUNT : W .MB_COUNT)
    (wMB_POSTS : W .MB_POSTS) (wSRAM_CE : W .SRAM_CE) (wSRAM_UE : W .SRAM_UE)
    (wSY_POST_OVERFLOW : W .SY_POST_OVERFLOW) (qflt : Q .flt) (qinj : Q .inj) (qbox : Q .box) (qports : Q .ports)
    (h : Fr W Q z s) :
    ∀ t, execMbPeek q s = .next t → Fr W Q z t := by
  refine next_kept ?_
  apply State.epTake_frame <;> first
    | assumption | exact fun _ _ ht => ht | (intro _ ht; apply State.mailRead_frame <;> assumption)

theorem State.bellRead_frame {s : State} {q : EpReq} (qbox : Q .box) (qports : Q .ports) (h : Fr W Q z s) :
    Fr W Q z (State.bellRead s q) := by
  unfold State.bellRead
  repeat' first
    | with_reducible assumption | with_reducible apply State.respond_frame | with_reducible apply State.modBx_frame
    | split | dsimp only

theorem execDoorbellRead_frame {q : EpReq} {s : State} (wALERT_STATUS : W .ALERT_STATUS)
    (wEVENT_NEXT : W .EVENT_NEXT) (wEVENT_OVERWRITTEN : W .EVENT_OVERWRITTEN) (wEVENT_PAGE : W .EVENT_PAGE)
    (wEVENT_SEQ : W .EVENT_SEQ) (wINJ_ARM : W .INJ_ARM) (wINJ_COUNT : W .INJ_COUNT) (wINJ_RESULT : W .INJ_RESULT)
    (wSRAM_CE : W .SRAM_CE) (wSRAM_UE : W .SRAM_UE) (qflt : Q .flt) (qinj : Q .inj) (qbox : Q .box)
    (qports : Q .ports) (h : Fr W Q z s) :
    ∀ t, execDoorbellRead q s = .next t → Fr W Q z t := by
  refine next_kept ?_
  apply State.epTake_frame <;> first
    | assumption | exact fun _ _ ht => ht | (intro _ ht; apply State.bellRead_frame <;> assumption)

theorem State.noticeRead_frame {s : State} {q : EpReq} (qports : Q .ports) (h : Fr W Q z s) :
    Fr W Q z (State.noticeRead s q) := by
  unfold State.noticeRead
  repeat' first
    | with_reducible assumption | with_reducible apply State.respond_frame
    | with_reducible apply State.setNotice_frame | split

theorem execNoticeRead_frame {q : EpReq} {s : State} (wALERT_STATUS : W .ALERT_STATUS)
    (wEVENT_NEXT : W .EVENT_NEXT) (wEVENT_OVERWRITTEN : W .EVENT_OVERWRITTEN) (wEVENT_PAGE : W .EVENT_PAGE)
    (wEVENT_SEQ : W .EVENT_SEQ) (wINJ_ARM : W .INJ_ARM) (wINJ_COUNT : W .INJ_COUNT) (wINJ_RESULT : W .INJ_RESULT)
    (wSRAM_CE : W .SRAM_CE) (wSRAM_UE : W .SRAM_UE) (qflt : Q .flt) (qinj : Q .inj) (qports : Q .ports)
    (h : Fr W Q z s) :
    ∀ t, execNoticeRead q s = .next t → Fr W Q z t := by
  refine next_kept ?_
  apply State.epTake_frame <;> first
    | assumption | exact fun _ _ ht => ht | (intro _ ht; apply State.noticeRead_frame <;> assumption)

theorem State.ring_frame {s : State} {m : Nat} (wDOMAIN_STATE : W .DOMAIN_STATE)
    (wDOMAIN_TARGET : W .DOMAIN_TARGET) (wMB_COUNT : W .MB_COUNT) (wMB_DISCARDS : W .MB_DISCARDS)
    (wMB_WAKES : W .MB_WAKES) (wSY_POST_OVERFLOW : W .SY_POST_OVERFLOW) (qcell : Q .cell) (qdom : Q .dom)
    (qpdWakes : Q .pdWakes) (qpdCmds : Q .pdCmds) (qbox : Q .box) (qports : Q .ports) (h : Fr W Q z s) :
    Fr W Q z (State.ring s m).2 := by
  unfold State.ring
  repeat' first
    | with_reducible assumption | with_reducible apply State.modBx_frame | with_reducible apply State.inc_frame
    | with_reducible apply State.submitWake_frame | with_reducible apply State.deliver_frame | split | dsimp only

theorem State.bellRing_frame {s : State} {q : EpReq} (wDOMAIN_STATE : W .DOMAIN_STATE)
    (wDOMAIN_TARGET : W .DOMAIN_TARGET) (wMB_COUNT : W .MB_COUNT) (wMB_DISCARDS : W .MB_DISCARDS)
    (wMB_WAKES : W .MB_WAKES) (wSY_POST_OVERFLOW : W .SY_POST_OVERFLOW) (qcell : Q .cell) (qdom : Q .dom)
    (qpdWakes : Q .pdWakes) (qpdCmds : Q .pdCmds) (qbox : Q .box) (qports : Q .ports) (h : Fr W Q z s) :
    Fr W Q z (State.bellRing s q) := by
  unfold State.bellRing
  repeat' first
    | with_reducible assumption | with_reducible apply State.respond_frame | with_reducible apply State.ring_frame
    | split | dsimp only

theorem execDoorbellRing_frame {q : EpReq} {s : State} (wALERT_STATUS : W .ALERT_STATUS)
    (wDOMAIN_STATE : W .DOMAIN_STATE) (wDOMAIN_TARGET : W .DOMAIN_TARGET) (wEVENT_NEXT : W .EVENT_NEXT)
    (wEVENT_OVERWRITTEN : W .EVENT_OVERWRITTEN) (wEVENT_PAGE : W .EVENT_PAGE) (wEVENT_SEQ : W .EVENT_SEQ)
    (wINJ_ARM : W .INJ_ARM) (wINJ_COUNT : W .INJ_COUNT) (wINJ_RESULT : W .INJ_RESULT) (wMB_COUNT : W .MB_COUNT)
    (wMB_DISCARDS : W .MB_DISCARDS) (wMB_WAKES : W .MB_WAKES) (wSRAM_CE : W .SRAM_CE) (wSRAM_UE : W .SRAM_UE)
    (wSY_POST_OVERFLOW : W .SY_POST_OVERFLOW) (qflt : Q .flt) (qinj : Q .inj) (qcell : Q .cell) (qdom : Q .dom)
    (qpdWakes : Q .pdWakes) (qpdCmds : Q .pdCmds) (qbox : Q .box) (qports : Q .ports) (h : Fr W Q z s) :
    ∀ t, execDoorbellRing q s = .next t → Fr W Q z t := by
  refine next_kept ?_
  apply State.epTake_frame <;> first
    | assumption | exact fun _ _ ht => ht | (intro _ ht; apply State.bellRing_frame <;> assumption)

theorem State.epAcquire_frame {s : State} {q : EpReq} (wLOCK : W .LOCK) (wLOCK_CONTESTS : W .LOCK_CONTESTS)
    (wLOCK_PRIO : W .LOCK_PRIO) (qports : Q .ports) (h : Fr W Q z s) :
    Fr W Q z (State.epAcquire s q) := by
  unfold State.epAcquire
  repeat' first
    | with_reducible assumption | with_reducible apply State.respond_frame | with_reducible apply State.noteLock_frame
    | with_reducible apply State.lockAcquire_frame | split

theorem execLockAcquire_frame {q : EpReq} {s : State} (wALERT_STATUS : W .ALERT_STATUS)
    (wEVENT_NEXT : W .EVENT_NEXT) (wEVENT_OVERWRITTEN : W .EVENT_OVERWRITTEN) (wEVENT_PAGE : W .EVENT_PAGE)
    (wEVENT_SEQ : W .EVENT_SEQ) (wINJ_ARM : W .INJ_ARM) (wINJ_COUNT : W .INJ_COUNT) (wINJ_RESULT : W .INJ_RESULT)
    (wLOCK : W .LOCK) (wLOCK_CONTESTS : W .LOCK_CONTESTS) (wLOCK_PRIO : W .LOCK_PRIO) (wSRAM_CE : W .SRAM_CE)
    (wSRAM_UE : W .SRAM_UE) (qflt : Q .flt) (qinj : Q .inj) (qports : Q .ports) (h : Fr W Q z s) :
    ∀ t, execLockAcquire q s = .next t → Fr W Q z t := by
  refine next_kept ?_
  apply State.epTake_frame <;> first
    | assumption | exact fun _ _ ht => ht | (intro _ ht; apply State.epAcquire_frame <;> assumption)

theorem State.epRelease_frame {s : State} {q : EpReq} (wLOCK : W .LOCK) (wLOCK_CONTESTS : W .LOCK_CONTESTS)
    (wLOCK_PRIO : W .LOCK_PRIO) (qports : Q .ports) (h : Fr W Q z s) :
    Fr W Q z (State.epRelease s q) := by
  unfold State.epRelease
  repeat' first
    | with_reducible assumption | with_reducible apply State.respond_frame | with_reducible apply State.noteLock_frame
    | with_reducible apply State.setLock_frame | split | dsimp only

theorem execLockRelease_frame {q : EpReq} {s : State} (wALERT_STATUS : W .ALERT_STATUS)
    (wEVENT_NEXT : W .EVENT_NEXT) (wEVENT_OVERWRITTEN : W .EVENT_OVERWRITTEN) (wEVENT_PAGE : W .EVENT_PAGE)
    (wEVENT_SEQ : W .EVENT_SEQ) (wINJ_ARM : W .INJ_ARM) (wINJ_COUNT : W .INJ_COUNT) (wINJ_RESULT : W .INJ_RESULT)
    (wLOCK : W .LOCK) (wLOCK_CONTESTS : W .LOCK_CONTESTS) (wLOCK_PRIO : W .LOCK_PRIO) (wSRAM_CE : W .SRAM_CE)
    (wSRAM_UE : W .SRAM_UE) (qflt : Q .flt) (qinj : Q .inj) (qports : Q .ports) (h : Fr W Q z s) :
    ∀ t, execLockRelease q s = .next t → Fr W Q z t := by
  refine next_kept ?_
  apply State.epTake_frame <;> first
    | assumption | exact fun _ _ ht => ht | (intro _ ht; apply State.epRelease_frame <;> assumption)

theorem State.epLockRead_frame {s : State} {q : EpReq} (wLOCK_CONTESTS : W .LOCK_CONTESTS)
    (wLOCK_PRIO : W .LOCK_PRIO) (qports : Q .ports) (h : Fr W Q z s) :
    Fr W Q z (State.epLockRead s q) := by
  unfold State.epLockRead
  repeat' first
    | with_reducible assumption | with_reducible apply State.respond_frame | with_reducible apply State.noteLock_frame
    | split

theorem execLockRead_frame {q : EpReq} {s : State} (wALERT_STATUS : W .ALERT_STATUS)
    (wEVENT_NEXT : W .EVENT_NEXT) (wEVENT_OVERWRITTEN : W .EVENT_OVERWRITTEN) (wEVENT_PAGE : W .EVENT_PAGE)
    (wEVENT_SEQ : W .EVENT_SEQ) (wINJ_ARM : W .INJ_ARM) (wINJ_COUNT : W .INJ_COUNT) (wINJ_RESULT : W .INJ_RESULT)
    (wLOCK_CONTESTS : W .LOCK_CONTESTS) (wLOCK_PRIO : W .LOCK_PRIO) (wSRAM_CE : W .SRAM_CE) (wSRAM_UE : W .SRAM_UE)
    (qflt : Q .flt) (qinj : Q .inj) (qports : Q .ports) (h : Fr W Q z s) :
    ∀ t, execLockRead q s = .next t → Fr W Q z t := by
  refine next_kept ?_
  apply State.epTake_frame <;> first
    | assumption | exact fun _ _ ht => ht | (intro _ ht; apply State.epLockRead_frame <;> assumption)

theorem State.requesterReset_frame {s : State} {id : Nat} (wLOCK : W .LOCK) (wMB_COUNT : W .MB_COUNT)
    (wMB_DISCARDS : W .MB_DISCARDS) (qbox : Q .box) (qports : Q .ports) (h : Fr W Q z s) :
    Fr W Q z (State.requesterReset s id) := by
  unfold State.requesterReset
  repeat' first
    | with_reducible assumption | with_reducible refine State.each_kept ?_ ?_
    | with_reducible apply State.discardBox_frame | with_reducible apply State.clearBell_frame
    | with_reducible apply State.setNotice_frame | with_reducible apply State.loseLocks_frame | split | dsimp only
    | intro _ | with_reducible apply Fr.lit | with_reducible exact Or.inl (by assumption)
    | with_reducible exact Or.inr rfl

theorem execRequesterReset_frame {id : Nat} {s : State} (wLOCK : W .LOCK) (wMB_COUNT : W .MB_COUNT)
    (wMB_DISCARDS : W .MB_DISCARDS) (qbox : Q .box) (qports : Q .ports) (h : Fr W Q z s) :
    ∀ t, execRequesterReset id s = .next t → Fr W Q z t := by
  unfold execRequesterReset
  repeat' first
    | with_reducible refine next_kept ?_ | with_reducible assumption | with_reducible refine State.when_kept ?_ ?_
    | with_reducible apply State.epQueue_frame | with_reducible apply State.requesterReset_frame | split | dsimp only
    | intro _

theorem execMbTimedOut_frame {m : Nat} {s : State} (wMB_TIMEOUTS : W .MB_TIMEOUTS) (qbox : Q .box)
    (qports : Q .ports) (h : Fr W Q z s) :
    ∀ t, execMbTimedOut m s = .next t → Fr W Q z t := by
  unfold execMbTimedOut
  repeat' first
    | with_reducible refine next_kept ?_ | with_reducible assumption | with_reducible refine State.when_kept ?_ ?_
    | with_reducible apply State.modBx_frame | with_reducible apply State.inc_frame
    | with_reducible apply State.noticeTimeout_frame | split | dsimp only | intro _

theorem State.jobResetMail_frame {s : State} (wLOCK : W .LOCK) (wMB_COUNT : W .MB_COUNT) (qbox : Q .box)
    (qports : Q .ports) (h : Fr W Q z s) :
    Fr W Q z (State.jobResetMail s) := by
  unfold State.jobResetMail
  repeat' first
    | with_reducible assumption | with_reducible refine State.each_kept ?_ ?_ | with_reducible apply State.modBx_frame
    | with_reducible apply State.showCount_frame | with_reducible apply State.loseLocks_frame | split | dsimp only
    | intro _ | with_reducible apply Fr.lit | with_reducible exact Or.inl (by assumption)
    | with_reducible exact Or.inr rfl

theorem execSemaphorePost_frame {s : State} (wSY_POSTS : W .SY_POSTS) (qbox : Q .box) (qports : Q .ports)
    (h : Fr W Q z s) :
    ∀ t, execSemaphorePost s = .next t → Fr W Q z t := by
  unfold execSemaphorePost
  repeat' first
    | with_reducible refine next_kept ?_ | with_reducible assumption | with_reducible refine State.when_kept ?_ ?_
    | with_reducible apply State.modBx_frame | with_reducible apply State.inc_frame | split | dsimp only | intro _
    | with_reducible apply Fr.lit | with_reducible exact Or.inl (by assumption) | with_reducible exact Or.inr rfl

theorem State.retirePost_frame {s : State} {tag : Nat} (qports : Q .ports) (h : Fr W Q z s) :
    Fr W Q z (State.retirePost s tag) := by
  unfold State.retirePost
  repeat' first
    | with_reducible assumption | split | dsimp only | intro _ | with_reducible apply Fr.lit
    | with_reducible exact Or.inl (by assumption) | with_reducible exact Or.inr rfl

theorem State.postStatus_frame {s : State} {tag : Nat} {status : Nat} (wMB_SEM_STATUS : W .MB_SEM_STATUS)
    (wSY_POST_NONZERO : W .SY_POST_NONZERO) (wSY_PST_STALE : W .SY_PST_STALE) (qports : Q .ports) (h : Fr W Q z s) :
    Fr W Q z (State.postStatus s tag status) := by
  unfold State.postStatus
  repeat' first
    | with_reducible assumption | with_reducible refine State.when_kept ?_ ?_
    | with_reducible apply State.retirePost_frame | with_reducible apply State.wr_frame
    | with_reducible apply State.inc_frame | split | dsimp only | intro _

theorem execPostStatus_frame {tag : Nat} {status : Nat} {s : State} (wMB_SEM_STATUS : W .MB_SEM_STATUS)
    (wSY_POST_NONZERO : W .SY_POST_NONZERO) (wSY_PST_STALE : W .SY_PST_STALE) (qports : Q .ports) (h : Fr W Q z s) :
    ∀ t, execPostStatus tag status s = .next t → Fr W Q z t := by
  unfold execPostStatus
  repeat' first
    | with_reducible refine next_kept ?_ | with_reducible assumption | with_reducible apply State.syHold_frame
    | with_reducible apply State.postStatus_frame | split

theorem execSyPostTimeout_frame {tag : Nat} {s : State} (wSY_POST_TIMEOUTS : W .SY_POST_TIMEOUTS)
    (qports : Q .ports) (h : Fr W Q z s) :
    ∀ t, execSyPostTimeout tag s = .next t → Fr W Q z t := by
  unfold execSyPostTimeout
  repeat' first
    | with_reducible refine next_kept ?_ | with_reducible assumption | with_reducible refine State.when_kept ?_ ?_
    | with_reducible apply State.retirePost_frame | with_reducible apply State.inc_frame | split | dsimp only
    | intro _

/-! ### Rails -/

theorem State.setRailStatus_frame {s : State} {r : Nat} {lo : Nat} {w : Nat} {v : Nat}
    (wRAIL_STATUS : W .RAIL_STATUS) (h : Fr W Q z s) :
    Fr W Q z (State.setRailStatus s r lo w v) := by
  unfold State.setRailStatus
  repeat' first
    | with_reducible assumption | with_reducible apply State.wr_frame

theorem State.degradeSteps_frame {s : State} {f : Nat} (wDOMAIN_STATE : W .DOMAIN_STATE)
    (wFIELD_VNEED : W .FIELD_VNEED) (wFIELD_VOLT : W .FIELD_VOLT) (wFIELD_VOLT_AT_CEIL : W .FIELD_VOLT_AT_CEIL)
    (wGROUP_CHG_ABORTS : W .GROUP_CHG_ABORTS) (wGROUP_CHG_RESULT : W .GROUP_CHG_RESULT)
    (wGROUP_CHG_STATE : W .GROUP_CHG_STATE) (wMB_COUNT : W .MB_COUNT) (wMB_DISCARDS : W .MB_DISCARDS)
    (wRAIL_RETRIES : W .RAIL_RETRIES) (wRAIL_STATUS : W .RAIL_STATUS) (wREGION_STOP_ABORTS : W .REGION_STOP_ABORTS)
    (wREGION_STOP_RESULT : W .REGION_STOP_RESULT) (wREGION_STOP_STATE : W .REGION_STOP_STATE)
    (wSY_POST_OVERFLOW : W .SY_POST_OVERFLOW) (qcell : Q .cell) (qfld : Q .fld) (qgrp : Q .grp) (qdom : Q .dom)
    (qpdWakes : Q .pdWakes) (qpdCmds : Q .pdCmds) (qlink : Q .link) (qrail : Q .rail) (qstop : Q .stop)
    (qbox : Q .box) (qports : Q .ports) (h : Fr W Q z s) :
    Fr W Q z (State.degradeSteps s f) := by
  unfold State.degradeSteps
  repeat' first
    | with_reducible assumption | with_reducible refine State.when_kept ?_ ?_ | with_reducible apply State.modG_frame
    | with_reducible apply State.abortStep_frame | with_reducible apply State.abortStop_frame
    | with_reducible apply State.fillPlaces_frame | split | dsimp only | intro _

theorem State.degradeField_frame {s : State} {f : Nat} (wCOMPUTE_LIMIT : W .COMPUTE_LIMIT)
    (wCOMPUTE_LIMIT_REASON : W .COMPUTE_LIMIT_REASON) (wDOMAIN_STATE : W .DOMAIN_STATE)
    (wFIELD_LIMIT : W .FIELD_LIMIT) (wFIELD_LIMIT_REASON : W .FIELD_LIMIT_REASON) (wFIELD_VNEED : W .FIELD_VNEED)
    (wFIELD_VOLT : W .FIELD_VOLT) (wFIELD_VOLT_AT_CEIL : W .FIELD_VOLT_AT_CEIL)
    (wGROUP_CEIL_REASON : W .GROUP_CEIL_REASON) (wGROUP_CHG_ABORTS : W .GROUP_CHG_ABORTS)
    (wGROUP_CHG_RESULT : W .GROUP_CHG_RESULT) (wGROUP_CHG_STATE : W .GROUP_CHG_STATE)
    (wGROUP_LIMIT : W .GROUP_LIMIT) (wGROUP_TARGET_N : W .GROUP_TARGET_N) (wMB_COUNT : W .MB_COUNT)
    (wMB_DISCARDS : W .MB_DISCARDS) (wOP_CEIL_ENTRY : W .OP_CEIL_ENTRY) (wRAIL_RETRIES : W .RAIL_RETRIES)
    (wRAIL_STATUS : W .RAIL_STATUS) (wREGION_STOP_ABORTS : W .REGION_STOP_ABORTS)
    (wREGION_STOP_RESULT : W .REGION_STOP_RESULT) (wREGION_STOP_STATE : W .REGION_STOP_STATE)
    (wSY_POST_OVERFLOW : W .SY_POST_OVERFLOW) (qcell : Q .cell) (qfld : Q .fld) (qgrp : Q .grp) (qdom : Q .dom)
    (qpdWakes : Q .pdWakes) (qpdCmds : Q .pdCmds) (qlink : Q .link) (qrail : Q .rail) (qstop : Q .stop)
    (qcaps : Q .caps) (qbox : Q .box) (qports : Q .ports) (h : Fr W Q z s) :
    Fr W Q z (State.degradeField s f) := by
  unfold State.degradeField
  repeat' first
    | with_reducible assumption | with_reducible refine State.each_kept ?_ ?_
    | with_reducible refine State.when_kept ?_ ?_ | with_reducible apply State.modRa_frame
    | with_reducible apply State.modF_frame | with_reducible apply State.modG_frame
    | with_reducible apply State.degradeSteps_frame | with_reducible apply State.recompute_frame
    | with_reducible apply State.retarget_frame | split | dsimp only | intro _

theorem State.degradeRail_frame {s : State} {cause : Nat} {r : Nat} (wALERT_STATUS : W .ALERT_STATUS)
    (wCOMPUTE_LIMIT : W .COMPUTE_LIMIT) (wCOMPUTE_LIMIT_REASON : W .COMPUTE_LIMIT_REASON)
    (wDOMAIN_STATE : W .DOMAIN_STATE) (wEVENT_NEXT : W .EVENT_NEXT) (wEVENT_OVERWRITTEN : W .EVENT_OVERWRITTEN)
    (wEVENT_PAGE : W .EVENT_PAGE) (wEVENT_SEQ : W .EVENT_SEQ) (wFIELD_LIMIT : W .FIELD_LIMIT)
    (wFIELD_LIMIT_REASON : W .FIELD_LIMIT_REASON) (wFIELD_VNEED : W .FIELD_VNEED) (wFIELD_VOLT : W .FIELD_VOLT)
    (wFIELD_VOLT_AT_CEIL : W .FIELD_VOLT_AT_CEIL) (wGROUP_CEIL_REASON : W .GROUP_CEIL_REASON)
    (wGROUP_CHG_ABORTS : W .GROUP_CHG_ABORTS) (wGROUP_CHG_RESULT : W .GROUP_CHG_RESULT)
    (wGROUP_CHG_STATE : W .GROUP_CHG_STATE) (wGROUP_LIMIT : W .GROUP_LIMIT) (wGROUP_TARGET_N : W .GROUP_TARGET_N)
    (wMB_COUNT : W .MB_COUNT) (wMB_DISCARDS : W .MB_DISCARDS) (wOP_CEIL_ENTRY : W .OP_CEIL_ENTRY)
    (wRAIL_DEGRADE_EVENTS : W .RAIL_DEGRADE_EVENTS) (wRAIL_RETRIES : W .RAIL_RETRIES) (wRAIL_STATE : W .RAIL_STATE)
    (wRAIL_STATUS : W .RAIL_STATUS) (wREGION_STOP_ABORTS : W .REGION_STOP_ABORTS)
    (wREGION_STOP_RESULT : W .REGION_STOP_RESULT) (wREGION_STOP_STATE : W .REGION_STOP_STATE)
    (wSY_POST_OVERFLOW : W .SY_POST_OVERFLOW) (qflt : Q .flt) (qcell : Q .cell) (qfld : Q .fld) (qgrp : Q .grp)
    (qdom : Q .dom) (qpdWakes : Q .pdWakes) (qpdCmds : Q .pdCmds) (qlink : Q .link) (qrail : Q .rail)
    (qstop : Q .stop) (qcaps : Q .caps) (qbox : Q .box) (qports : Q .ports) (h : Fr W Q z s) :
    Fr W Q z (State.degradeRail s cause r) := by
  unfold State.degradeRail
  repeat' first
    | with_reducible assumption | with_reducible apply State.wr_frame | with_reducible apply State.setRailStatus_frame
    | with_reducible apply State.inc_frame | with_reducible apply State.event_frame
    | with_reducible apply State.degradeField_frame | with_reducible apply State.modRa_frame | split | dsimp only

theorem State.recoverFailed_frame {s : State} {r : Nat} (wRAIL_RECOVER : W .RAIL_RECOVER)
    (wRAIL_STATUS : W .RAIL_STATUS) (qlink : Q .link) (qrail : Q .rail) (h : Fr W Q z s) :
    Fr W Q z (State.recoverFailed s r) := by
  unfold State.recoverFailed
  repeat' first
    | with_reducible assumption | with_reducible apply State.setRailStatus_frame | with_reducible apply State.wr_frame
    | with_reducible apply State.modRa_frame | with_reducible apply State.modL_frame

theorem State.railsSettled_frame {s : State} (wUNIT_READY : W .UNIT_READY) (h : Fr W Q z s) :
    Fr W Q z (State.railsSettled s) := by
  unfold State.railsSettled
  repeat' first
    | with_reducible assumption | with_reducible refine State.when_kept ?_ ?_
    | with_reducible apply State.setReady_frame | split | dsimp only | intro _

theorem State.linkRead_frame {s : State} {k : Nat} (wRAIL_RETRIES : W .RAIL_RETRIES)
    (wRAIL_STATUS : W .RAIL_STATUS) (wUNIT_READY : W .UNIT_READY) (qlink : Q .link) (qrail : Q .rail)
    (h : Fr W Q z s) :
    Fr W Q z (State.linkRead s k) := by
  unfold State.linkRead
  repeat' first
    | with_reducible assumption | with_reducible refine State.when_kept ?_ ?_
    | with_reducible apply State.queueCmd_frame | with_reducible apply State.railsSettled_frame | split | dsimp only
    | intro _

theorem State.failCmd_frame {s : State} {k : Nat} {cause : Nat} {c : LCmd} (wALERT_STATUS : W .ALERT_STATUS)
    (wCOMPUTE_LIMIT : W .COMPUTE_LIMIT) (wCOMPUTE_LIMIT_REASON : W .COMPUTE_LIMIT_REASON)
    (wDOMAIN_STATE : W .DOMAIN_STATE) (wEVENT_NEXT : W .EVENT_NEXT) (wEVENT_OVERWRITTEN : W .EVENT_OVERWRITTEN)
    (wEVENT_PAGE : W .EVENT_PAGE) (wEVENT_SEQ : W .EVENT_SEQ) (wFIELD_LIMIT : W .FIELD_LIMIT)
    (wFIELD_LIMIT_REASON : W .FIELD_LIMIT_REASON) (wFIELD_VNEED : W .FIELD_VNEED) (wFIELD_VOLT : W .FIELD_VOLT)
    (wFIELD_VOLT_AT_CEIL : W .FIELD_VOLT_AT_CEIL) (wGROUP_CEIL_REASON : W .GROUP_CEIL_REASON)
    (wGROUP_CHG_ABORTS : W .GROUP_CHG_ABORTS) (wGROUP_CHG_RESULT : W .GROUP_CHG_RESULT)
    (wGROUP_CHG_STATE : W .GROUP_CHG_STATE) (wGROUP_LIMIT : W .GROUP_LIMIT) (wGROUP_TARGET_N : W .GROUP_TARGET_N)
    (wMB_COUNT : W .MB_COUNT) (wMB_DISCARDS : W .MB_DISCARDS) (wOP_CEIL_ENTRY : W .OP_CEIL_ENTRY)
    (wRAIL_DEGRADE_EVENTS : W .RAIL_DEGRADE_EVENTS) (wRAIL_RECOVER : W .RAIL_RECOVER)
    (wRAIL_RETRIES : W .RAIL_RETRIES) (wRAIL_STATE : W .RAIL_STATE) (wRAIL_STATUS : W .RAIL_STATUS)
    (wREGION_STOP_ABORTS : W .REGION_STOP_ABORTS) (wREGION_STOP_RESULT : W .REGION_STOP_RESULT)
    (wREGION_STOP_STATE : W .REGION_STOP_STATE) (wSY_POST_OVERFLOW : W .SY_POST_OVERFLOW)
    (wUNIT_READY : W .UNIT_READY) (qflt : Q .flt) (qcell : Q .cell) (qfld : Q .fld) (qgrp : Q .grp) (qdom : Q .dom)
    (qpdWakes : Q .pdWakes) (qpdCmds : Q .pdCmds) (qlink : Q .link) (qrail : Q .rail) (qstop : Q .stop)
    (qcaps : Q .caps) (qbox : Q .box) (qports : Q .ports) (h : Fr W Q z s) :
    Fr W Q z (State.failCmd s k cause c) := by
  unfold State.failCmd
  repeat' first
    | with_reducible assumption | with_reducible refine State.each_kept ?_ ?_
    | with_reducible refine State.when_kept ?_ ?_ | with_reducible apply State.setRailStatus_frame
    | with_reducible apply State.degradeRail_frame | with_reducible apply State.recoverFailed_frame
    | with_reducible apply State.linkRead_frame | split | dsimp only | intro _

theorem State.dropCmd_frame {s : State} {k : Nat} {c : LCmd} (qlink : Q .link) (h : Fr W Q z s) :
    Fr W Q z (State.dropCmd s k c) := by
  unfold State.dropCmd
  repeat' first
    | with_reducible assumption | with_reducible apply State.modL_frame

theorem State.failAttempt_frame {s : State} {k : Nat} {c : LCmd} (wALERT_STATUS : W .ALERT_STATUS)
    (wCOMPUTE_LIMIT : W .COMPUTE_LIMIT) (wCOMPUTE_LIMIT_REASON : W .COMPUTE_LIMIT_REASON)
    (wDOMAIN_STATE : W .DOMAIN_STATE) (wEVENT_NEXT : W .EVENT_NEXT) (wEVENT_OVERWRITTEN : W .EVENT_OVERWRITTEN)
    (wEVENT_PAGE : W .EVENT_PAGE) (wEVENT_SEQ : W .EVENT_SEQ) (wFIELD_LIMIT : W .FIELD_LIMIT)
    (wFIELD_LIMIT_REASON : W .FIELD_LIMIT_REASON) (wFIELD_VNEED : W .FIELD_VNEED) (wFIELD_VOLT : W .FIELD_VOLT)
    (wFIELD_VOLT_AT_CEIL : W .FIELD_VOLT_AT_CEIL) (wGROUP_CEIL_REASON : W .GROUP_CEIL_REASON)
    (wGROUP_CHG_ABORTS : W .GROUP_CHG_ABORTS) (wGROUP_CHG_RESULT : W .GROUP_CHG_RESULT)
    (wGROUP_CHG_STATE : W .GROUP_CHG_STATE) (wGROUP_LIMIT : W .GROUP_LIMIT) (wGROUP_TARGET_N : W .GROUP_TARGET_N)
    (wMB_COUNT : W .MB_COUNT) (wMB_DISCARDS : W .MB_DISCARDS) (wOP_CEIL_ENTRY : W .OP_CEIL_ENTRY)
    (wRAIL_DEGRADE_EVENTS : W .RAIL_DEGRADE_EVENTS) (wRAIL_RECOVER : W .RAIL_RECOVER)
    (wRAIL_RETRIES : W .RAIL_RETRIES) (wRAIL_STATE : W .RAIL_STATE) (wRAIL_STATUS : W .RAIL_STATUS)
    (wREGION_STOP_ABORTS : W .REGION_STOP_ABORTS) (wREGION_STOP_RESULT : W .REGION_STOP_RESULT)
    (wREGION_STOP_STATE : W .REGION_STOP_STATE) (wSY_POST_OVERFLOW : W .SY_POST_OVERFLOW)
    (wUNIT_READY : W .UNIT_READY) (qflt : Q .flt) (qcell : Q .cell) (qfld : Q .fld) (qgrp : Q .grp) (qdom : Q .dom)
    (qpdWakes : Q .pdWakes) (qpdCmds : Q .pdCmds) (qlink : Q .link) (qrail : Q .rail) (qstop : Q .stop)
    (qcaps : Q .caps) (qbox : Q .box) (qports : Q .ports) (h : Fr W Q z s) :
    Fr W Q z (State.failAttempt s k c) := by
  unfold State.failAttempt
  repeat' first
    | with_reducible assumption | with_reducible apply State.modL_frame | with_reducible apply State.pump_frame
    | with_reducible apply State.dropCmd_frame | with_reducible apply State.failCmd_frame | split

theorem State.damagedResp_frame {s : State} {k : Nat} {c : LCmd} (wALERT_STATUS : W .ALERT_STATUS)
    (wCOMPUTE_LIMIT : W .COMPUTE_LIMIT) (wCOMPUTE_LIMIT_REASON : W .COMPUTE_LIMIT_REASON)
    (wDOMAIN_STATE : W .DOMAIN_STATE) (wEVENT_NEXT : W .EVENT_NEXT) (wEVENT_OVERWRITTEN : W .EVENT_OVERWRITTEN)
    (wEVENT_PAGE : W .EVENT_PAGE) (wEVENT_SEQ : W .EVENT_SEQ) (wFIELD_LIMIT : W .FIELD_LIMIT)
    (wFIELD_LIMIT_REASON : W .FIELD_LIMIT_REASON) (wFIELD_VNEED : W .FIELD_VNEED) (wFIELD_VOLT : W .FIELD_VOLT)
    (wFIELD_VOLT_AT_CEIL : W .FIELD_VOLT_AT_CEIL) (wGROUP_CEIL_REASON : W .GROUP_CEIL_REASON)
    (wGROUP_CHG_ABORTS : W .GROUP_CHG_ABORTS) (wGROUP_CHG_RESULT : W .GROUP_CHG_RESULT)
    (wGROUP_CHG_STATE : W .GROUP_CHG_STATE) (wGROUP_LIMIT : W .GROUP_LIMIT) (wGROUP_TARGET_N : W .GROUP_TARGET_N)
    (wMB_COUNT : W .MB_COUNT) (wMB_DISCARDS : W .MB_DISCARDS) (wOP_CEIL_ENTRY : W .OP_CEIL_ENTRY)
    (wRAIL_CRC_ERRS : W .RAIL_CRC_ERRS) (wRAIL_DEGRADE_EVENTS : W .RAIL_DEGRADE_EVENTS)
    (wRAIL_RECOVER : W .RAIL_RECOVER) (wRAIL_RETRIES : W .RAIL_RETRIES) (wRAIL_STATE : W .RAIL_STATE)
    (wRAIL_STATUS : W .RAIL_STATUS) (wREGION_STOP_ABORTS : W .REGION_STOP_ABORTS)
    (wREGION_STOP_RESULT : W .REGION_STOP_RESULT) (wREGION_STOP_STATE : W .REGION_STOP_STATE)
    (wSY_POST_OVERFLOW : W .SY_POST_OVERFLOW) (wUNIT_READY : W .UNIT_READY) (qflt : Q .flt) (qcell : Q .cell)
    (qfld : Q .fld) (qgrp : Q .grp) (qdom : Q .dom) (qpdWakes : Q .pdWakes) (qpdCmds : Q .pdCmds) (qlink : Q .link)
    (qrail : Q .rail) (qstop : Q .stop) (qcaps : Q .caps) (qbox : Q .box) (qports : Q .ports) (h : Fr W Q z s) :
    Fr W Q z (State.damagedResp s k c) := by
  unfold State.damagedResp
  repeat' first
    | with_reducible assumption | with_reducible refine State.each_kept ?_ ?_ | with_reducible apply State.inc_frame
    | with_reducible apply State.failAttempt_frame | split | dsimp only | intro _

theorem State.injCrc_frame {s : State} {k : Nat} (wINJ_ARM : W .INJ_ARM) (wINJ_COUNT : W .INJ_COUNT)
    (wINJ_RESULT : W .INJ_RESULT) (qflt : Q .flt) (qinj : Q .inj) (h : Fr W Q z s) :
    ∀ t, State.injCrc s k = some t → Fr W Q z t := by
  unfold State.injCrc
  repeat' first
    | with_reducible refine some_kept ?_ | with_reducible exact none_kept | with_reducible assumption
    | with_reducible apply State.endInjection_frame | split | dsimp only | intro _ | with_reducible apply Fr.lit
    | with_reducible exact Or.inl (by assumption) | with_reducible exact Or.inr rfl

theorem State.resp_frame {s : State} {k : Nat} {op : ROp} {tag : Nat} {status : Nat}
    {done : State → LCmd → State} (wALERT_STATUS : W .ALERT_STATUS) (wCOMPUTE_LIMIT : W .COMPUTE_LIMIT)
    (wCOMPUTE_LIMIT_REASON : W .COMPUTE_LIMIT_REASON) (wDOMAIN_STATE : W .DOMAIN_STATE)
    (wEVENT_NEXT : W .EVENT_NEXT) (wEVENT_OVERWRITTEN : W .EVENT_OVERWRITTEN) (wEVENT_PAGE : W .EVENT_PAGE)
    (wEVENT_SEQ : W .EVENT_SEQ) (wFIELD_LIMIT : W .FIELD_LIMIT) (wFIELD_LIMIT_REASON : W .FIELD_LIMIT_REASON)
    (wFIELD_VNEED : W .FIELD_VNEED) (wFIELD_VOLT : W .FIELD_VOLT) (wFIELD_VOLT_AT_CEIL : W .FIELD_VOLT_AT_CEIL)
    (wGROUP_CEIL_REASON : W .GROUP_CEIL_REASON) (wGROUP_CHG_ABORTS : W .GROUP_CHG_ABORTS)
    (wGROUP_CHG_RESULT : W .GROUP_CHG_RESULT) (wGROUP_CHG_STATE : W .GROUP_CHG_STATE)
    (wGROUP_LIMIT : W .GROUP_LIMIT) (wGROUP_TARGET_N : W .GROUP_TARGET_N) (wINJ_ARM : W .INJ_ARM)
    (wINJ_COUNT : W .INJ_COUNT) (wINJ_RESULT : W .INJ_RESULT) (wLINK_MALFORMED : W .LINK_MALFORMED)
    (wMB_COUNT : W .MB_COUNT) (wMB_DISCARDS : W .MB_DISCARDS) (wOP_CEIL_ENTRY : W .OP_CEIL_ENTRY)
    (wRAIL_CRC_ERRS : W .RAIL_CRC_ERRS) (wRAIL_DEGRADE_EVENTS : W .RAIL_DEGRADE_EVENTS)
    (wRAIL_RECOVER : W .RAIL_RECOVER) (wRAIL_RETRIES : W .RAIL_RETRIES) (wRAIL_STATE : W .RAIL_STATE)
    (wRAIL_STATUS : W .RAIL_STATUS) (wREGION_STOP_ABORTS : W .REGION_STOP_ABORTS)
    (wREGION_STOP_RESULT : W .REGION_STOP_RESULT) (wREGION_STOP_STATE : W .REGION_STOP_STATE)
    (wSY_POST_OVERFLOW : W .SY_POST_OVERFLOW) (wUNIT_READY : W .UNIT_READY) (qflt : Q .flt) (qinj : Q .inj)
    (qcell : Q .cell) (qfld : Q .fld) (qgrp : Q .grp) (qdom : Q .dom) (qpdWakes : Q .pdWakes) (qpdCmds : Q .pdCmds)
    (qlink : Q .link) (qrail : Q .rail) (qstop : Q .stop) (qcaps : Q .caps) (qbox : Q .box) (qports : Q .ports)
    (h : Fr W Q z s) (h_done : ∀ t y, Fr W Q z t → Fr W Q z (done t y)) :
    Fr W Q z (State.resp s k op tag status done) := by
  unfold State.resp
  repeat' first
    | with_reducible assumption | with_reducible apply h_done
    | with_reducible refine State.injCrc_frame ?_ ?_ ?_ ?_ ?_ ?_ _ (by assumption)
    | with_reducible apply State.damagedResp_frame | with_reducible apply State.inc_frame
    | with_reducible apply State.dropCmd_frame | with_reducible apply State.pump_frame
    | with_reducible apply State.failAttempt_frame | with_reducible apply State.failCmd_frame | split

theorem State.startEnumeration_frame {s : State} (wLINK_STATE : W .LINK_STATE) (wRAIL_RETRIES : W .RAIL_RETRIES)
    (wRAIL_STATE : W .RAIL_STATE) (wRAIL_STATUS : W .RAIL_STATUS) (wUNIT_READY : W .UNIT_READY) (qsu : Q .su)
    (qlink : Q .link) (qrail : Q .rail) (h : Fr W Q z s) :
    Fr W Q z (State.startEnumeration s) := by
  unfold State.startEnumeration
  repeat' first
    | with_reducible assumption | with_reducible refine State.each_kept ?_ ?_ | with_reducible apply State.wr_frame
    | with_reducible apply State.modL_frame | with_reducible apply State.queueCmd_frame
    | with_reducible apply State.railsSettled_frame | split | dsimp only | intro _ | with_reducible apply Fr.lit
    | with_reducible exact Or.inl (by assumption) | with_reducible exact Or.inr rfl

theorem State.absentRail_frame {s : State} {r : Nat} (wRAIL_LIMIT : W .RAIL_LIMIT) (wRAIL_STATE : W .RAIL_STATE)
    (h : Fr W Q z s) :
    Fr W Q z (State.absentRail s r) := by
  unfold State.absentRail
  repeat' first
    | with_reducible assumption | with_reducible apply State.wr_frame

theorem State.dropLink_frame {s : State} {k : Nat} {st : Nat} {clock : Bool} (wLINK_STATE : W .LINK_STATE)
    (wRAIL_LIMIT : W .RAIL_LIMIT) (wRAIL_STATE : W .RAIL_STATE) (wUNIT_READY : W .UNIT_READY) (qlink : Q .link)
    (h : Fr W Q z s) :
    Fr W Q z (State.dropLink s k st clock) := by
  unfold State.dropLink
  repeat' first
    | with_reducible assumption | with_reducible refine State.each_kept ?_ ?_ | with_reducible apply State.wr_frame
    | with_reducible apply State.modL_frame | with_reducible apply State.absentRail_frame
    | with_reducible apply State.railsSettled_frame | split | dsimp only | intro _

theorem State.closeEnumeration_frame {s : State} (wALERT_STATUS : W .ALERT_STATUS)
    (wCOMPUTE_LIMIT : W .COMPUTE_LIMIT) (wCOMPUTE_LIMIT_REASON : W .COMPUTE_LIMIT_REASON)
    (wDOMAIN_STATE : W .DOMAIN_STATE) (wEVENT_NEXT : W .EVENT_NEXT) (wEVENT_OVERWRITTEN : W .EVENT_OVERWRITTEN)
    (wEVENT_PAGE : W .EVENT_PAGE) (wEVENT_SEQ : W .EVENT_SEQ) (wFIELD_LIMIT : W .FIELD_LIMIT)
    (wFIELD_LIMIT_REASON : W .FIELD_LIMIT_REASON) (wFIELD_VNEED : W .FIELD_VNEED) (wFIELD_VOLT : W .FIELD_VOLT)
    (wFIELD_VOLT_AT_CEIL : W .FIELD_VOLT_AT_CEIL) (wGROUP_CEIL_REASON : W .GROUP_CEIL_REASON)
    (wGROUP_CHG_ABORTS : W .GROUP_CHG_ABORTS) (wGROUP_CHG_RESULT : W .GROUP_CHG_RESULT)
    (wGROUP_CHG_STATE : W .GROUP_CHG_STATE) (wGROUP_LIMIT : W .GROUP_LIMIT) (wGROUP_TARGET_N : W .GROUP_TARGET_N)
    (wLINK_STATE : W .LINK_STATE) (wMB_COUNT : W .MB_COUNT) (wMB_DISCARDS : W .MB_DISCARDS)
    (wOP_CEIL_ENTRY : W .OP_CEIL_ENTRY) (wRAIL_DEGRADE_EVENTS : W .RAIL_DEGRADE_EVENTS)
    (wRAIL_LIMIT : W .RAIL_LIMIT) (wRAIL_RETRIES : W .RAIL_RETRIES) (wRAIL_STATE : W .RAIL_STATE)
    (wRAIL_STATUS : W .RAIL_STATUS) (wREGION_STOP_ABORTS : W .REGION_STOP_ABORTS)
    (wREGION_STOP_RESULT : W .REGION_STOP_RESULT) (wREGION_STOP_STATE : W .REGION_STOP_STATE)
    (wSY_POST_OVERFLOW : W .SY_POST_OVERFLOW) (wUNIT_READY : W .UNIT_READY) (qflt : Q .flt) (qcell : Q .cell)
    (qfld : Q .fld) (qgrp : Q .grp) (qdom : Q .dom) (qpdWakes : Q .pdWakes) (qpdCmds : Q .pdCmds) (qlink : Q .link)
    (qrail : Q .rail) (qstop : Q .stop) (qcaps : Q .caps) (qbox : Q .box) (qports : Q .ports) (h : Fr W Q z s) :
    Fr W Q z (State.closeEnumeration s) := by
  unfold State.closeEnumeration
  repeat' first
    | with_reducible assumption | with_reducible refine State.each_kept ?_ ?_
    | with_reducible refine State.when_kept ?_ ?_ | with_reducible apply State.dropLink_frame
    | with_reducible apply State.degradeRail_frame | with_reducible apply State.linkRead_frame | split | dsimp only
    | intro _

theorem State.identified_frame {s : State} {k : Nat} {phases : Nat} {data : Nat} (wLINK_IDENT : W .LINK_IDENT)
    (wLINK_RX_PHASE : W .LINK_RX_PHASE) (wLINK_STATE : W .LINK_STATE) (wRAIL_LIMIT : W .RAIL_LIMIT)
    (wRAIL_RETRIES : W .RAIL_RETRIES) (wRAIL_STATE : W .RAIL_STATE) (wRAIL_STATUS : W .RAIL_STATUS)
    (wUNIT_READY : W .UNIT_READY) (qlink : Q .link) (qrail : Q .rail) (h : Fr W Q z s) :
    Fr W Q z (State.identified s k phases data) := by
  unfold State.identified
  repeat' first
    | with_reducible assumption | with_reducible refine State.each_kept ?_ ?_ | with_reducible apply State.wr_frame
    | with_reducible apply State.dropLink_frame | with_reducible apply State.modL_frame
    | with_reducible apply State.absentRail_frame | with_reducible apply State.queueCmd_frame
    | with_reducible apply State.linkRead_frame | split | dsimp only | intro _

theorem State.clampRating_frame {s : State} {o : Obj} {r : Nat} {v : Nat} {lo : Nat} {hi : Nat}
    (wALERT_STATUS : W .ALERT_STATUS) (wEVENT_NEXT : W .EVENT_NEXT) (wEVENT_OVERWRITTEN : W .EVENT_OVERWRITTEN)
    (wEVENT_PAGE : W .EVENT_PAGE) (wEVENT_SEQ : W .EVENT_SEQ) (qflt : Q .flt) (wo : W o) (h : Fr W Q z s) :
    Fr W Q z (State.clampRating s o r v lo hi) := by
  unfold State.clampRating
  repeat' first
    | with_reducible assumption | with_reducible refine State.when_kept ?_ ?_ | with_reducible apply State.wr_frame
    | with_reducible apply State.event_frame | split | dsimp only | intro _

theorem State.applyRating_frame {s : State} {r : Nat} {data : Nat} (wALERT_STATUS : W .ALERT_STATUS)
    (wEVENT_NEXT : W .EVENT_NEXT) (wEVENT_OVERWRITTEN : W .EVENT_OVERWRITTEN) (wEVENT_PAGE : W .EVENT_PAGE)
    (wEVENT_SEQ : W .EVENT_SEQ) (wRAIL_IMAX : W .RAIL_IMAX) (wRAIL_IRATING : W .RAIL_IRATING)
    (wRAIL_VMAX : W .RAIL_VMAX) (wRAIL_VMIN : W .RAIL_VMIN) (qflt : Q .flt) (qrail : Q .rail) (h : Fr W Q z s) :
    Fr W Q z (State.applyRating s r data) := by
  unfold State.applyRating
  repeat' first
    | with_reducible assumption | with_reducible apply State.wr_frame | with_reducible apply State.modRa_frame
    | with_reducible apply State.clampRating_frame | split | dsimp only

theorem State.railRead_frame {s : State} {k : Nat} {r : Nat} (wRAIL_RETRIES : W .RAIL_RETRIES)
    (wRAIL_STATE : W .RAIL_STATE) (wRAIL_STATUS : W .RAIL_STATUS) (wUNIT_READY : W .UNIT_READY) (qlink : Q .link)
    (qrail : Q .rail) (h : Fr W Q z s) :
    Fr W Q z (State.railRead s k r) := by
  unfold State.railRead
  repeat' first
    | with_reducible assumption | with_reducible refine State.when_kept ?_ ?_ | with_reducible apply State.wr_frame
    | with_reducible apply State.linkRead_frame | split | dsimp only | intro _

theorem execRailEnumeration_frame {s : State} (wLINK_STATE : W .LINK_STATE) (wRAIL_RETRIES : W .RAIL_RETRIES)
    (wRAIL_STATE : W .RAIL_STATE) (wRAIL_STATUS : W .RAIL_STATUS) (wUNIT_READY : W .UNIT_READY) (qsu : Q .su)
    (qlink : Q .link) (qrail : Q .rail) (h : Fr W Q z s) :
    ∀ t, execRailEnumeration s = .next t → Fr W Q z t := by
  unfold execRailEnumeration
  repeat' first
    | with_reducible refine next_kept ?_ | with_reducible assumption | with_reducible refine State.when_kept ?_ ?_
    | with_reducible apply State.startEnumeration_frame | split | dsimp only | intro _

theorem execIdentify_frame {k : Nat} {phases : Nat} {tag : Nat} {data : Nat} {s : State}
    (wALERT_STATUS : W .ALERT_STATUS) (wCOMPUTE_LIMIT : W .COMPUTE_LIMIT)
    (wCOMPUTE_LIMIT_REASON : W .COMPUTE_LIMIT_REASON) (wDOMAIN_STATE : W .DOMAIN_STATE)
    (wEVENT_NEXT : W .EVENT_NEXT) (wEVENT_OVERWRITTEN : W .EVENT_OVERWRITTEN) (wEVENT_PAGE : W .EVENT_PAGE)
    (wEVENT_SEQ : W .EVENT_SEQ) (wFIELD_LIMIT : W .FIELD_LIMIT) (wFIELD_LIMIT_REASON : W .FIELD_LIMIT_REASON)
    (wFIELD_VNEED : W .FIELD_VNEED) (wFIELD_VOLT : W .FIELD_VOLT) (wFIELD_VOLT_AT_CEIL : W .FIELD_VOLT_AT_CEIL)
    (wGROUP_CEIL_REASON : W .GROUP_CEIL_REASON) (wGROUP_CHG_ABORTS : W .GROUP_CHG_ABORTS)
    (wGROUP_CHG_RESULT : W .GROUP_CHG_RESULT) (wGROUP_CHG_STATE : W .GROUP_CHG_STATE)
    (wGROUP_LIMIT : W .GROUP_LIMIT) (wGROUP_TARGET_N : W .GROUP_TARGET_N) (wINJ_ARM : W .INJ_ARM)
    (wINJ_COUNT : W .INJ_COUNT) (wINJ_RESULT : W .INJ_RESULT) (wLINK_IDENT : W .LINK_IDENT)
    (wLINK_MALFORMED : W .LINK_MALFORMED) (wLINK_RX_PHASE : W .LINK_RX_PHASE) (wLINK_STATE : W .LINK_STATE)
    (wMB_COUNT : W .MB_COUNT) (wMB_DISCARDS : W .MB_DISCARDS) (wOP_CEIL_ENTRY : W .OP_CEIL_ENTRY)
    (wRAIL_CRC_ERRS : W .RAIL_CRC_ERRS) (wRAIL_DEGRADE_EVENTS : W .RAIL_DEGRADE_EVENTS)
    (wRAIL_LIMIT : W .RAIL_LIMIT) (wRAIL_RECOVER : W .RAIL_RECOVER) (wRAIL_RETRIES : W .RAIL_RETRIES)
    (wRAIL_STATE : W .RAIL_STATE) (wRAIL_STATUS : W .RAIL_STATUS) (wREGION_STOP_ABORTS : W .REGION_STOP_ABORTS)
    (wREGION_STOP_RESULT : W .REGION_STOP_RESULT) (wREGION_STOP_STATE : W .REGION_STOP_STATE)
    (wSY_POST_OVERFLOW : W .SY_POST_OVERFLOW) (wUNIT_READY : W .UNIT_READY) (qflt : Q .flt) (qinj : Q .inj)
    (qcell : Q .cell) (qfld : Q .fld) (qgrp : Q .grp) (qdom : Q .dom) (qpdWakes : Q .pdWakes) (qpdCmds : Q .pdCmds)
    (qlink : Q .link) (qrail : Q .rail) (qstop : Q .stop) (qcaps : Q .caps) (qbox : Q .box) (qports : Q .ports)
    (h : Fr W Q z s) :
    ∀ t, execIdentify k phases tag data s = .next t → Fr W Q z t := by
  unfold execIdentify
  repeat' first
    | with_reducible refine next_kept ?_ | with_reducible assumption | with_reducible refine State.when_kept ?_ ?_
    | with_reducible apply State.resp_frame | with_reducible apply State.identified_frame | split | dsimp only
    | intro _

theorem execReadRating_frame {k : Nat} {tag : Nat} {status : Nat} {data : Nat} {s : State}
    (wALERT_STATUS : W .ALERT_STATUS) (wCOMPUTE_LIMIT : W .COMPUTE_LIMIT)
    (wCOMPUTE_LIMIT_REASON : W .COMPUTE_LIMIT_REASON) (wDOMAIN_STATE : W .DOMAIN_STATE)
    (wEVENT_NEXT : W .EVENT_NEXT) (wEVENT_OVERWRITTEN : W .EVENT_OVERWRITTEN) (wEVENT_PAGE : W .EVENT_PAGE)
    (wEVENT_SEQ : W .EVENT_SEQ) (wFIELD_LIMIT : W .FIELD_LIMIT) (wFIELD_LIMIT_REASON : W .FIELD_LIMIT_REASON)
    (wFIELD_VNEED : W .FIELD_VNEED) (wFIELD_VOLT : W .FIELD_VOLT) (wFIELD_VOLT_AT_CEIL : W .FIELD_VOLT_AT_CEIL)
    (wGROUP_CEIL_REASON : W .GROUP_CEIL_REASON) (wGROUP_CHG_ABORTS : W .GROUP_CHG_ABORTS)
    (wGROUP_CHG_RESULT : W .GROUP_CHG_RESULT) (wGROUP_CHG_STATE : W .GROUP_CHG_STATE)
    (wGROUP_LIMIT : W .GROUP_LIMIT) (wGROUP_TARGET_N : W .GROUP_TARGET_N) (wINJ_ARM : W .INJ_ARM)
    (wINJ_COUNT : W .INJ_COUNT) (wINJ_RESULT : W .INJ_RESULT) (wLINK_MALFORMED : W .LINK_MALFORMED)
    (wMB_COUNT : W .MB_COUNT) (wMB_DISCARDS : W .MB_DISCARDS) (wOP_CEIL_ENTRY : W .OP_CEIL_ENTRY)
    (wRAIL_CRC_ERRS : W .RAIL_CRC_ERRS) (wRAIL_DEGRADE_EVENTS : W .RAIL_DEGRADE_EVENTS) (wRAIL_IMAX : W .RAIL_IMAX)
    (wRAIL_IRATING : W .RAIL_IRATING) (wRAIL_RECOVER : W .RAIL_RECOVER) (wRAIL_RETRIES : W .RAIL_RETRIES)
    (wRAIL_STATE : W .RAIL_STATE) (wRAIL_STATUS : W .RAIL_STATUS) (wRAIL_VMAX : W .RAIL_VMAX)
    (wRAIL_VMIN : W .RAIL_VMIN) (wREGION_STOP_ABORTS : W .REGION_STOP_ABORTS)
    (wREGION_STOP_RESULT : W .REGION_STOP_RESULT) (wREGION_STOP_STATE : W .REGION_STOP_STATE)
    (wSY_POST_OVERFLOW : W .SY_POST_OVERFLOW) (wUNIT_READY : W .UNIT_READY) (qflt : Q .flt) (qinj : Q .inj)
    (qcell : Q .cell) (qfld : Q .fld) (qgrp : Q .grp) (qdom : Q .dom) (qpdWakes : Q .pdWakes) (qpdCmds : Q .pdCmds)
    (qlink : Q .link) (qrail : Q .rail) (qstop : Q .stop) (qcaps : Q .caps) (qbox : Q .box) (qports : Q .ports)
    (h : Fr W Q z s) :
    ∀ t, execReadRating k tag status data s = .next t → Fr W Q z t := by
  unfold execReadRating
  repeat' first
    | with_reducible refine next_kept ?_ | with_reducible assumption | with_reducible apply State.resp_frame
    | with_reducible apply State.applyRating_frame | with_reducible apply State.modRa_frame
    | with_reducible apply State.railRead_frame | split | dsimp only | intro _

theorem State.recoverStep_frame {s : State} {c : LCmd} {i : Nat} {ok : Bool} (wRAIL_RECOVER : W .RAIL_RECOVER)
    (wRAIL_STATUS : W .RAIL_STATUS) (qlink : Q .link) (qrail : Q .rail) (h : Fr W Q z s) :
    Fr W Q z (State.recoverStep s c i ok) := by
  unfold State.recoverStep
  repeat' first
    | with_reducible assumption | with_reducible apply State.recoverFailed_frame
    | with_reducible apply State.modRa_frame | split

theorem execReadVoltage_frame {k : Nat} {tag : Nat} {status : Nat} {data : Nat} {s : State}
    (wALERT_STATUS : W .ALERT_STATUS) (wCOMPUTE_LIMIT : W .COMPUTE_LIMIT)
    (wCOMPUTE_LIMIT_REASON : W .COMPUTE_LIMIT_REASON) (wDOMAIN_STATE : W .DOMAIN_STATE)
    (wEVENT_NEXT : W .EVENT_NEXT) (wEVENT_OVERWRITTEN : W .EVENT_OVERWRITTEN) (wEVENT_PAGE : W .EVENT_PAGE)
    (wEVENT_SEQ : W .EVENT_SEQ) (wFIELD_LIMIT : W .FIELD_LIMIT) (wFIELD_LIMIT_REASON : W .FIELD_LIMIT_REASON)
    (wFIELD_VNEED : W .FIELD_VNEED) (wFIELD_VOLT : W .FIELD_VOLT) (wFIELD_VOLT_AT_CEIL : W .FIELD_VOLT_AT_CEIL)
    (wGROUP_CEIL_REASON : W .GROUP_CEIL_REASON) (wGROUP_CHG_ABORTS : W .GROUP_CHG_ABORTS)
    (wGROUP_CHG_RESULT : W .GROUP_CHG_RESULT) (wGROUP_CHG_STATE : W .GROUP_CHG_STATE)
    (wGROUP_LIMIT : W .GROUP_LIMIT) (wGROUP_TARGET_N : W .GROUP_TARGET_N) (wINJ_ARM : W .INJ_ARM)
    (wINJ_COUNT : W .INJ_COUNT) (wINJ_RESULT : W .INJ_RESULT) (wLINK_MALFORMED : W .LINK_MALFORMED)
    (wMB_COUNT : W .MB_COUNT) (wMB_DISCARDS : W .MB_DISCARDS) (wOP_CEIL_ENTRY : W .OP_CEIL_ENTRY)
    (wRAIL_CRC_ERRS : W .RAIL_CRC_ERRS) (wRAIL_DEGRADE_EVENTS : W .RAIL_DEGRADE_EVENTS)
    (wRAIL_RECOVER : W .RAIL_RECOVER) (wRAIL_RETRIES : W .RAIL_RETRIES) (wRAIL_STATE : W .RAIL_STATE)
    (wRAIL_STATUS : W .RAIL_STATUS) (wRAIL_TARGET : W .RAIL_TARGET) (wREGION_STOP_ABORTS : W .REGION_STOP_ABORTS)
    (wREGION_STOP_RESULT : W .REGION_STOP_RESULT) (wREGION_STOP_STATE : W .REGION_STOP_STATE)
    (wSY_POST_OVERFLOW : W .SY_POST_OVERFLOW) (wUNIT_READY : W .UNIT_READY) (qflt : Q .flt) (qinj : Q .inj)
    (qcell : Q .cell) (qfld : Q .fld) (qgrp : Q .grp) (qdom : Q .dom) (qpdWakes : Q .pdWakes) (qpdCmds : Q .pdCmds)
    (qlink : Q .link) (qrail : Q .rail) (qstop : Q .stop) (qcaps : Q .caps) (qbox : Q .box) (qports : Q .ports)
    (h : Fr W Q z s) :
    ∀ t, execReadVoltage k tag status data s = .next t → Fr W Q z t := by
  unfold execReadVoltage
  repeat' first
    | with_reducible refine next_kept ?_ | with_reducible assumption | with_reducible refine State.when_kept ?_ ?_
    | with_reducible apply State.resp_frame | with_reducible apply State.modRa_frame
    | with_reducible apply State.recoverStep_frame | with_reducible apply State.wr_frame
    | with_reducible apply State.railRead_frame | split | dsimp only | intro _

theorem execSetVoltage_frame {k : Nat} {tag : Nat} {status : Nat} {s : State} (wALERT_STATUS : W .ALERT_STATUS)
    (wCOMPUTE_LIMIT : W .COMPUTE_LIMIT) (wCOMPUTE_LIMIT_REASON : W .COMPUTE_LIMIT_REASON)
    (wDOMAIN_STATE : W .DOMAIN_STATE) (wEVENT_NEXT : W .EVENT_NEXT) (wEVENT_OVERWRITTEN : W .EVENT_OVERWRITTEN)
    (wEVENT_PAGE : W .EVENT_PAGE) (wEVENT_SEQ : W .EVENT_SEQ) (wFIELD_LIMIT : W .FIELD_LIMIT)
    (wFIELD_LIMIT_REASON : W .FIELD_LIMIT_REASON) (wFIELD_VNEED : W .FIELD_VNEED) (wFIELD_VOLT : W .FIELD_VOLT)
    (wFIELD_VOLT_AT_CEIL : W .FIELD_VOLT_AT_CEIL) (wGROUP_CEIL_REASON : W .GROUP_CEIL_REASON)
    (wGROUP_CHG_ABORTS : W .GROUP_CHG_ABORTS) (wGROUP_CHG_RESULT : W .GROUP_CHG_RESULT)
    (wGROUP_CHG_STATE : W .GROUP_CHG_STATE) (wGROUP_LIMIT : W .GROUP_LIMIT) (wGROUP_TARGET_N : W .GROUP_TARGET_N)
    (wINJ_ARM : W .INJ_ARM) (wINJ_COUNT : W .INJ_COUNT) (wINJ_RESULT : W .INJ_RESULT)
    (wLINK_MALFORMED : W .LINK_MALFORMED) (wMB_COUNT : W .MB_COUNT) (wMB_DISCARDS : W .MB_DISCARDS)
    (wOP_CEIL_ENTRY : W .OP_CEIL_ENTRY) (wRAIL_CRC_ERRS : W .RAIL_CRC_ERRS)
    (wRAIL_DEGRADE_EVENTS : W .RAIL_DEGRADE_EVENTS) (wRAIL_RECOVER : W .RAIL_RECOVER)
    (wRAIL_RETRIES : W .RAIL_RETRIES) (wRAIL_STATE : W .RAIL_STATE) (wRAIL_STATUS : W .RAIL_STATUS)
    (wRAIL_TARGET : W .RAIL_TARGET) (wREGION_STOP_ABORTS : W .REGION_STOP_ABORTS)
    (wREGION_STOP_RESULT : W .REGION_STOP_RESULT) (wREGION_STOP_STATE : W .REGION_STOP_STATE)
    (wSY_POST_OVERFLOW : W .SY_POST_OVERFLOW) (wUNIT_READY : W .UNIT_READY) (qflt : Q .flt) (qinj : Q .inj)
    (qcell : Q .cell) (qfld : Q .fld) (qgrp : Q .grp) (qdom : Q .dom) (qpdWakes : Q .pdWakes) (qpdCmds : Q .pdCmds)
    (qlink : Q .link) (qrail : Q .rail) (qstop : Q .stop) (qcaps : Q .caps) (qbox : Q .box) (qports : Q .ports)
    (h : Fr W Q z s) :
    ∀ t, execSetVoltage k tag status s = .next t → Fr W Q z t := by
  unfold execSetVoltage
  repeat' first
    | with_reducible refine next_kept ?_ | with_reducible assumption | with_reducible refine State.each_kept ?_ ?_
    | with_reducible apply State.resp_frame | with_reducible apply State.wr_frame | split | dsimp only | intro _

theorem execTlmEnable_frame {k : Nat} {tag : Nat} {status : Nat} {s : State} (wALERT_STATUS : W .ALERT_STATUS)
    (wCOMPUTE_LIMIT : W .COMPUTE_LIMIT) (wCOMPUTE_LIMIT_REASON : W .COMPUTE_LIMIT_REASON)
    (wDOMAIN_STATE : W .DOMAIN_STATE) (wEVENT_NEXT : W .EVENT_NEXT) (wEVENT_OVERWRITTEN : W .EVENT_OVERWRITTEN)
    (wEVENT_PAGE : W .EVENT_PAGE) (wEVENT_SEQ : W .EVENT_SEQ) (wFIELD_LIMIT : W .FIELD_LIMIT)
    (wFIELD_LIMIT_REASON : W .FIELD_LIMIT_REASON) (wFIELD_VNEED : W .FIELD_VNEED) (wFIELD_VOLT : W .FIELD_VOLT)
    (wFIELD_VOLT_AT_CEIL : W .FIELD_VOLT_AT_CEIL) (wGROUP_CEIL_REASON : W .GROUP_CEIL_REASON)
    (wGROUP_CHG_ABORTS : W .GROUP_CHG_ABORTS) (wGROUP_CHG_RESULT : W .GROUP_CHG_RESULT)
    (wGROUP_CHG_STATE : W .GROUP_CHG_STATE) (wGROUP_LIMIT : W .GROUP_LIMIT) (wGROUP_TARGET_N : W .GROUP_TARGET_N)
    (wINJ_ARM : W .INJ_ARM) (wINJ_COUNT : W .INJ_COUNT) (wINJ_RESULT : W .INJ_RESULT)
    (wLINK_MALFORMED : W .LINK_MALFORMED) (wLINK_STATE : W .LINK_STATE) (wMB_COUNT : W .MB_COUNT)
    (wMB_DISCARDS : W .MB_DISCARDS) (wOP_CEIL_ENTRY : W .OP_CEIL_ENTRY) (wRAIL_CRC_ERRS : W .RAIL_CRC_ERRS)
    (wRAIL_DEGRADE_EVENTS : W .RAIL_DEGRADE_EVENTS) (wRAIL_RECOVER : W .RAIL_RECOVER)
    (wRAIL_RETRIES : W .RAIL_RETRIES) (wRAIL_STATE : W .RAIL_STATE) (wRAIL_STATUS : W .RAIL_STATUS)
    (wREGION_STOP_ABORTS : W .REGION_STOP_ABORTS) (wREGION_STOP_RESULT : W .REGION_STOP_RESULT)
    (wREGION_STOP_STATE : W .REGION_STOP_STATE) (wSY_POST_OVERFLOW : W .SY_POST_OVERFLOW)
    (wUNIT_READY : W .UNIT_READY) (qflt : Q .flt) (qinj : Q .inj) (qcell : Q .cell) (qfld : Q .fld) (qgrp : Q .grp)
    (qdom : Q .dom) (qpdWakes : Q .pdWakes) (qpdCmds : Q .pdCmds) (qlink : Q .link) (qrail : Q .rail)
    (qstop : Q .stop) (qcaps : Q .caps) (qbox : Q .box) (qports : Q .ports) (h : Fr W Q z s) :
    ∀ t, execTlmEnable k tag status s = .next t → Fr W Q z t := by
  unfold execTlmEnable
  repeat' first
    | with_reducible refine next_kept ?_ | with_reducible assumption | with_reducible refine State.each_kept ?_ ?_
    | with_reducible apply State.resp_frame | with_reducible apply State.modRa_frame
    | with_reducible apply State.wr_frame | split | dsimp only | intro _

theorem execReadStatus_frame {k : Nat} {tag : Nat} {status : Nat} {data : Nat} {s : State}
    (wALERT_STATUS : W .ALERT_STATUS) (wCOMPUTE_LIMIT : W .COMPUTE_LIMIT)
    (wCOMPUTE_LIMIT_REASON : W .COMPUTE_LIMIT_REASON) (wDOMAIN_STATE : W .DOMAIN_STATE)
    (wEVENT_NEXT : W .EVENT_NEXT) (wEVENT_OVERWRITTEN : W .EVENT_OVERWRITTEN) (wEVENT_PAGE : W .EVENT_PAGE)
    (wEVENT_SEQ : W .EVENT_SEQ) (wFIELD_LIMIT : W .FIELD_LIMIT) (wFIELD_LIMIT_REASON : W .FIELD_LIMIT_REASON)
    (wFIELD_VNEED : W .FIELD_VNEED) (wFIELD_VOLT : W .FIELD_VOLT) (wFIELD_VOLT_AT_CEIL : W .FIELD_VOLT_AT_CEIL)
    (wGROUP_CEIL_REASON : W .GROUP_CEIL_REASON) (wGROUP_CHG_ABORTS : W .GROUP_CHG_ABORTS)
    (wGROUP_CHG_RESULT : W .GROUP_CHG_RESULT) (wGROUP_CHG_STATE : W .GROUP_CHG_STATE)
    (wGROUP_LIMIT : W .GROUP_LIMIT) (wGROUP_TARGET_N : W .GROUP_TARGET_N) (wINJ_ARM : W .INJ_ARM)
    (wINJ_COUNT : W .INJ_COUNT) (wINJ_RESULT : W .INJ_RESULT) (wLINK_MALFORMED : W .LINK_MALFORMED)
    (wMB_COUNT : W .MB_COUNT) (wMB_DISCARDS : W .MB_DISCARDS) (wOP_CEIL_ENTRY : W .OP_CEIL_ENTRY)
    (wRAIL_CRC_ERRS : W .RAIL_CRC_ERRS) (wRAIL_DEGRADE_EVENTS : W .RAIL_DEGRADE_EVENTS)
    (wRAIL_RECOVER : W .RAIL_RECOVER) (wRAIL_RETRIES : W .RAIL_RETRIES) (wRAIL_STATE : W .RAIL_STATE)
    (wRAIL_STATUS : W .RAIL_STATUS) (wREGION_STOP_ABORTS : W .REGION_STOP_ABORTS)
    (wREGION_STOP_RESULT : W .REGION_STOP_RESULT) (wREGION_STOP_STATE : W .REGION_STOP_STATE)
    (wSY_POST_OVERFLOW : W .SY_POST_OVERFLOW) (wUNIT_READY : W .UNIT_READY) (qflt : Q .flt) (qinj : Q .inj)
    (qcell : Q .cell) (qfld : Q .fld) (qgrp : Q .grp) (qdom : Q .dom) (qpdWakes : Q .pdWakes) (qpdCmds : Q .pdCmds)
    (qlink : Q .link) (qrail : Q .rail) (qstop : Q .stop) (qcaps : Q .caps) (qbox : Q .box) (qports : Q .ports)
    (h : Fr W Q z s) :
    ∀ t, execReadStatus k tag status data s = .next t → Fr W Q z t := by
  unfold execReadStatus
  repeat' first
    | with_reducible refine next_kept ?_ | with_reducible assumption | with_reducible apply State.resp_frame
    | with_reducible apply State.recoverStep_frame | split | dsimp only | intro _

theorem execClearFault_frame {k : Nat} {tag : Nat} {status : Nat} {s : State} (wALERT_STATUS : W .ALERT_STATUS)
    (wCOMPUTE_LIMIT : W .COMPUTE_LIMIT) (wCOMPUTE_LIMIT_REASON : W .COMPUTE_LIMIT_REASON)
    (wDOMAIN_STATE : W .DOMAIN_STATE) (wEVENT_NEXT : W .EVENT_NEXT) (wEVENT_OVERWRITTEN : W .EVENT_OVERWRITTEN)
    (wEVENT_PAGE : W .EVENT_PAGE) (wEVENT_SEQ : W .EVENT_SEQ) (wFIELD_LIMIT : W .FIELD_LIMIT)
    (wFIELD_LIMIT_REASON : W .FIELD_LIMIT_REASON) (wFIELD_VNEED : W .FIELD_VNEED) (wFIELD_VOLT : W .FIELD_VOLT)
    (wFIELD_VOLT_AT_CEIL : W .FIELD_VOLT_AT_CEIL) (wGROUP_CEIL_REASON : W .GROUP_CEIL_REASON)
    (wGROUP_CHG_ABORTS : W .GROUP_CHG_ABORTS) (wGROUP_CHG_RESULT : W .GROUP_CHG_RESULT)
    (wGROUP_CHG_STATE : W .GROUP_CHG_STATE) (wGROUP_LIMIT : W .GROUP_LIMIT) (wGROUP_TARGET_N : W .GROUP_TARGET_N)
    (wINJ_ARM : W .INJ_ARM) (wINJ_COUNT : W .INJ_COUNT) (wINJ_RESULT : W .INJ_RESULT)
    (wLINK_MALFORMED : W .LINK_MALFORMED) (wMB_COUNT : W .MB_COUNT) (wMB_DISCARDS : W .MB_DISCARDS)
    (wOP_CEIL_ENTRY : W .OP_CEIL_ENTRY) (wRAIL_CRC_ERRS : W .RAIL_CRC_ERRS)
    (wRAIL_DEGRADE_EVENTS : W .RAIL_DEGRADE_EVENTS) (wRAIL_RECOVER : W .RAIL_RECOVER)
    (wRAIL_RETRIES : W .RAIL_RETRIES) (wRAIL_STATE : W .RAIL_STATE) (wRAIL_STATUS : W .RAIL_STATUS)
    (wREGION_STOP_ABORTS : W .REGION_STOP_ABORTS) (wREGION_STOP_RESULT : W .REGION_STOP_RESULT)
    (wREGION_STOP_STATE : W .REGION_STOP_STATE) (wSY_POST_OVERFLOW : W .SY_POST_OVERFLOW)
    (wUNIT_READY : W .UNIT_READY) (qflt : Q .flt) (qinj : Q .inj) (qcell : Q .cell) (qfld : Q .fld) (qgrp : Q .grp)
    (qdom : Q .dom) (qpdWakes : Q .pdWakes) (qpdCmds : Q .pdCmds) (qlink : Q .link) (qrail : Q .rail)
    (qstop : Q .stop) (qcaps : Q .caps) (qbox : Q .box) (qports : Q .ports) (h : Fr W Q z s) :
    ∀ t, execClearFault k tag status s = .next t → Fr W Q z t := by
  unfold execClearFault
  repeat' first
    | with_reducible refine next_kept ?_ | with_reducible assumption | with_reducible apply State.resp_frame
    | with_reducible apply State.recoverStep_frame | split | dsimp only | intro _

theorem execRespTimeout_frame {k : Nat} {tag : Nat} {s : State} (wALERT_STATUS : W .ALERT_STATUS)
    (wCOMPUTE_LIMIT : W .COMPUTE_LIMIT) (wCOMPUTE_LIMIT_REASON : W .COMPUTE_LIMIT_REASON)
    (wDOMAIN_STATE : W .DOMAIN_STATE) (wEVENT_NEXT : W .EVENT_NEXT) (wEVENT_OVERWRITTEN : W .EVENT_OVERWRITTEN)
    (wEVENT_PAGE : W .EVENT_PAGE) (wEVENT_SEQ : W .EVENT_SEQ) (wFIELD_LIMIT : W .FIELD_LIMIT)
    (wFIELD_LIMIT_REASON : W .FIELD_LIMIT_REASON) (wFIELD_VNEED : W .FIELD_VNEED) (wFIELD_VOLT : W .FIELD_VOLT)
    (wFIELD_VOLT_AT_CEIL : W .FIELD_VOLT_AT_CEIL) (wGROUP_CEIL_REASON : W .GROUP_CEIL_REASON)
    (wGROUP_CHG_ABORTS : W .GROUP_CHG_ABORTS) (wGROUP_CHG_RESULT : W .GROUP_CHG_RESULT)
    (wGROUP_CHG_STATE : W .GROUP_CHG_STATE) (wGROUP_LIMIT : W .GROUP_LIMIT) (wGROUP_TARGET_N : W .GROUP_TARGET_N)
    (wMB_COUNT : W .MB_COUNT) (wMB_DISCARDS : W .MB_DISCARDS) (wOP_CEIL_ENTRY : W .OP_CEIL_ENTRY)
    (wRAIL_DEGRADE_EVENTS : W .RAIL_DEGRADE_EVENTS) (wRAIL_RECOVER : W .RAIL_RECOVER)
    (wRAIL_RETRIES : W .RAIL_RETRIES) (wRAIL_STATE : W .RAIL_STATE) (wRAIL_STATUS : W .RAIL_STATUS)
    (wRAIL_TIMEOUTS : W .RAIL_TIMEOUTS) (wREGION_STOP_ABORTS : W .REGION_STOP_ABORTS)
    (wREGION_STOP_RESULT : W .REGION_STOP_RESULT) (wREGION_STOP_STATE : W .REGION_STOP_STATE)
    (wSY_POST_OVERFLOW : W .SY_POST_OVERFLOW) (wUNIT_READY : W .UNIT_READY) (qflt : Q .flt) (qcell : Q .cell)
    (qfld : Q .fld) (qgrp : Q .grp) (qdom : Q .dom) (qpdWakes : Q .pdWakes) (qpdCmds : Q .pdCmds) (qlink : Q .link)
    (qrail : Q .rail) (qstop : Q .stop) (qcaps : Q .caps) (qbox : Q .box) (qports : Q .ports) (h : Fr W Q z s) :
    ∀ t, execRespTimeout k tag s = .next t → Fr W Q z t := by
  unfold execRespTimeout
  repeat' first
    | with_reducible refine next_kept ?_ | with_reducible assumption | with_reducible refine State.each_kept ?_ ?_
    | with_reducible refine State.when_kept ?_ ?_ | with_reducible apply State.inc_frame
    | with_reducible apply State.failAttempt_frame | split | dsimp only | intro _

theorem execLinkSilent_frame {k : Nat} {s : State} (wLINK_STATE : W .LINK_STATE) (wRAIL_LIMIT : W .RAIL_LIMIT)
    (wRAIL_STATE : W .RAIL_STATE) (wUNIT_READY : W .UNIT_READY) (qlink : Q .link) (h : Fr W Q z s) :
    ∀ t, execLinkSilent k s = .next t → Fr W Q z t := by
  unfold execLinkSilent
  repeat' first
    | with_reducible refine next_kept ?_ | with_reducible assumption | with_reducible refine State.when_kept ?_ ?_
    | with_reducible apply State.dropLink_frame | split | dsimp only | intro _

theorem State.tlmIn_frame {s : State} {k : Nat} (wRAIL_RETRIES : W .RAIL_RETRIES)
    (wRAIL_STATUS : W .RAIL_STATUS) (qlink : Q .link) (qrail : Q .rail) (h : Fr W Q z s) :
    Fr W Q z (State.tlmIn s k) := by
  unfold State.tlmIn
  repeat' first
    | with_reducible assumption | with_reducible apply State.modL_frame | with_reducible apply State.pump_frame

theorem execDamagedFrame_frame {k : Nat} {frame : Nat} {s : State} (wALERT_STATUS : W .ALERT_STATUS)
    (wCOMPUTE_LIMIT : W .COMPUTE_LIMIT) (wCOMPUTE_LIMIT_REASON : W .COMPUTE_LIMIT_REASON)
    (wDOMAIN_STATE : W .DOMAIN_STATE) (wEVENT_NEXT : W .EVENT_NEXT) (wEVENT_OVERWRITTEN : W .EVENT_OVERWRITTEN)
    (wEVENT_PAGE : W .EVENT_PAGE) (wEVENT_SEQ : W .EVENT_SEQ) (wFIELD_LIMIT : W .FIELD_LIMIT)
    (wFIELD_LIMIT_REASON : W .FIELD_LIMIT_REASON) (wFIELD_VNEED : W .FIELD_VNEED) (wFIELD_VOLT : W .FIELD_VOLT)
    (wFIELD_VOLT_AT_CEIL : W .FIELD_VOLT_AT_CEIL) (wGROUP_CEIL_REASON : W .GROUP_CEIL_REASON)
    (wGROUP_CHG_ABORTS : W .GROUP_CHG_ABORTS) (wGROUP_CHG_RESULT : W .GROUP_CHG_RESULT)
    (wGROUP_CHG_STATE : W .GROUP_CHG_STATE) (wGROUP_LIMIT : W .GROUP_LIMIT) (wGROUP_TARGET_N : W .GROUP_TARGET_N)
    (wLINK_MALFORMED : W .LINK_MALFORMED) (wMB_COUNT : W .MB_COUNT) (wMB_DISCARDS : W .MB_DISCARDS)
    (wOP_CEIL_ENTRY : W .OP_CEIL_ENTRY) (wRAIL_CRC_ERRS : W .RAIL_CRC_ERRS)
    (wRAIL_DEGRADE_EVENTS : W .RAIL_DEGRADE_EVENTS) (wRAIL_RECOVER : W .RAIL_RECOVER)
    (wRAIL_RETRIES : W .RAIL_RETRIES) (wRAIL_STATE : W .RAIL_STATE) (wRAIL_STATUS : W .RAIL_STATUS)
    (wREGION_STOP_ABORTS : W .REGION_STOP_ABORTS) (wREGION_STOP_RESULT : W .REGION_STOP_RESULT)
    (wREGION_STOP_STATE : W .REGION_STOP_STATE) (wSY_POST_OVERFLOW : W .SY_POST_OVERFLOW)
    (wUNIT_READY : W .UNIT_READY) (qflt : Q .flt) (qcell : Q .cell) (qfld : Q .fld) (qgrp : Q .grp) (qdom : Q .dom)
    (qpdWakes : Q .pdWakes) (qpdCmds : Q .pdCmds) (qlink : Q .link) (qrail : Q .rail) (qstop : Q .stop)
    (qcaps : Q .caps) (qbox : Q .box) (qports : Q .ports) (h : Fr W Q z s) :
    ∀ t, execDamagedFrame k frame s = .next t → Fr W Q z t := by
  unfold execDamagedFrame
  repeat' first
    | with_reducible refine next_kept ?_ | with_reducible assumption | with_reducible refine State.when_kept ?_ ?_
    | with_reducible apply State.damagedResp_frame | with_reducible apply State.inc_frame
    | with_reducible apply State.tlmIn_frame | split | dsimp only | intro _

theorem State.railEnergy_frame {s : State} {r : Nat} {p : Nat}
    (wENGINE_DOMAIN_RAIL_ENERGY : W .ENGINE_DOMAIN_RAIL_ENERGY)
    (wENGINE_NONCOMPUTE_ENERGY : W .ENGINE_NONCOMPUTE_ENERGY) (qenergy : Q .energy) (h : Fr W Q z s) :
    Fr W Q z (State.railEnergy s r p) := by
  unfold State.railEnergy
  repeat' first
    | with_reducible assumption | with_reducible apply State.addWrap_frame | split | dsimp only | intro _
    | with_reducible apply Fr.lit | with_reducible exact Or.inl (by assumption) | with_reducible exact Or.inr rfl

theorem State.missInterval_frame {s : State} {r : Nat} {k : Nat} (wALERT_STATUS : W .ALERT_STATUS)
    (wCOMPUTE_LIMIT : W .COMPUTE_LIMIT) (wCOMPUTE_LIMIT_REASON : W .COMPUTE_LIMIT_REASON)
    (wDOMAIN_STATE : W .DOMAIN_STATE) (wENGINE_DOMAIN_RAIL_ENERGY : W .ENGINE_DOMAIN_RAIL_ENERGY)
    (wENGINE_NONCOMPUTE_ENERGY : W .ENGINE_NONCOMPUTE_ENERGY) (wEVENT_NEXT : W .EVENT_NEXT)
    (wEVENT_OVERWRITTEN : W .EVENT_OVERWRITTEN) (wEVENT_PAGE : W .EVENT_PAGE) (wEVENT_SEQ : W .EVENT_SEQ)
    (wFIELD_LIMIT : W .FIELD_LIMIT) (wFIELD_LIMIT_REASON : W .FIELD_LIMIT_REASON) (wFIELD_VNEED : W .FIELD_VNEED)
    (wFIELD_VOLT : W .FIELD_VOLT) (wFIELD_VOLT_AT_CEIL : W .FIELD_VOLT_AT_CEIL)
    (wGROUP_CEIL_REASON : W .GROUP_CEIL_REASON) (wGROUP_CHG_ABORTS : W .GROUP_CHG_ABORTS)
    (wGROUP_CHG_RESULT : W .GROUP_CHG_RESULT) (wGROUP_CHG_STATE : W .GROUP_CHG_STATE)
    (wGROUP_LIMIT : W .GROUP_LIMIT) (wGROUP_TARGET_N : W .GROUP_TARGET_N) (wMB_COUNT : W .MB_COUNT)
    (wMB_DISCARDS : W .MB_DISCARDS) (wOP_CEIL_ENTRY : W .OP_CEIL_ENTRY)
    (wRAIL_DEGRADE_EVENTS : W .RAIL_DEGRADE_EVENTS) (wRAIL_FILLED_INTERVALS : W .RAIL_FILLED_INTERVALS)
    (wRAIL_RETRIES : W .RAIL_RETRIES) (wRAIL_STATE : W .RAIL_STATE) (wRAIL_STATUS : W .RAIL_STATUS)
    (wRAIL_TLM_MISSES : W .RAIL_TLM_MISSES) (wREGION_STOP_ABORTS : W .REGION_STOP_ABORTS)
    (wREGION_STOP_RESULT : W .REGION_STOP_RESULT) (wREGION_STOP_STATE : W .REGION_STOP_STATE)
    (wSY_POST_OVERFLOW : W .SY_POST_OVERFLOW) (qflt : Q .flt) (qcell : Q .cell) (qfld : Q .fld) (qgrp : Q .grp)
    (qdom : Q .dom) (qpdWakes : Q .pdWakes) (qpdCmds : Q .pdCmds) (qlink : Q .link) (qrail : Q .rail)
    (qstop : Q .stop) (qcaps : Q .caps) (qbox : Q .box) (qports : Q .ports) (qenergy : Q .energy) (h : Fr W Q z s) :
    Fr W Q z (State.missInterval s r k) := by
  unfold State.missInterval
  repeat' first
    | with_reducible assumption | with_reducible refine State.when_kept ?_ ?_ | with_reducible apply State.inc_frame
    | with_reducible apply State.setRailStatus_frame | with_reducible apply State.modRa_frame
    | with_reducible apply State.railEnergy_frame | with_reducible apply State.addWrap_frame
    | with_reducible apply State.degradeRail_frame | split | dsimp only | intro _

theorem State.haveInterval_frame {s : State} {r : Nat} {k : Nat} {v : Nat} {i : Nat} {settled : Bool}
    (wENGINE_DOMAIN_RAIL_ENERGY : W .ENGINE_DOMAIN_RAIL_ENERGY)
    (wENGINE_NONCOMPUTE_ENERGY : W .ENGINE_NONCOMPUTE_ENERGY) (wRAIL_STATUS : W .RAIL_STATUS) (qrail : Q .rail)
    (qenergy : Q .energy) (h : Fr W Q z s) :
    Fr W Q z (State.haveInterval s r k v i settled) := by
  unfold State.haveInterval
  repeat' first
    | with_reducible assumption | with_reducible apply State.setRailStatus_frame
    | with_reducible apply State.modRa_frame | with_reducible apply State.railEnergy_frame

theorem State.overCurrent_frame {s : State} {r : Nat} {i : Nat} (wRAIL_LIMIT : W .RAIL_LIMIT)
    (wRAIL_OVER_EVENTS : W .RAIL_OVER_EVENTS) (qfld : Q .fld) (qrail : Q .rail) (qcaps : Q .caps) (h : Fr W Q z s) :
    Fr W Q z (State.overCurrent s r i) := by
  unfold State.overCurrent
  repeat' first
    | with_reducible assumption | with_reducible apply State.wr_frame | with_reducible apply State.inc_frame
    | with_reducible apply State.sendDirective_frame | split | dsimp only

theorem State.recoverTlm_frame {s : State} {r : Nat} {good : Bool} (wRAIL_RECOVER : W .RAIL_RECOVER)
    (wRAIL_STATE : W .RAIL_STATE) (wRAIL_STATUS : W .RAIL_STATUS) (wRAIL_TARGET : W .RAIL_TARGET) (qlink : Q .link)
    (qrail : Q .rail) (h : Fr W Q z s) :
    Fr W Q z (State.recoverTlm s r good) := by
  unfold State.recoverTlm
  repeat' first
    | with_reducible assumption | with_reducible apply State.recoverFailed_frame | with_reducible apply State.wr_frame
    | with_reducible apply State.setRailStatus_frame | with_reducible apply State.modRa_frame | split

theorem State.telemetry_frame {s : State} {k : Nat} {r : Nat} {tag : Nat} {data : Nat}
    (wALERT_STATUS : W .ALERT_STATUS) (wCOMPUTE_LIMIT : W .COMPUTE_LIMIT)
    (wCOMPUTE_LIMIT_REASON : W .COMPUTE_LIMIT_REASON) (wDOMAIN_STATE : W .DOMAIN_STATE)
    (wENGINE_DOMAIN_RAIL_ENERGY : W .ENGINE_DOMAIN_RAIL_ENERGY)
    (wENGINE_NONCOMPUTE_ENERGY : W .ENGINE_NONCOMPUTE_ENERGY) (wEVENT_NEXT : W .EVENT_NEXT)
    (wEVENT_OVERWRITTEN : W .EVENT_OVERWRITTEN) (wEVENT_PAGE : W .EVENT_PAGE) (wEVENT_SEQ : W .EVENT_SEQ)
    (wFIELD_LIMIT : W .FIELD_LIMIT) (wFIELD_LIMIT_REASON : W .FIELD_LIMIT_REASON) (wFIELD_VNEED : W .FIELD_VNEED)
    (wFIELD_VOLT : W .FIELD_VOLT) (wFIELD_VOLT_AT_CEIL : W .FIELD_VOLT_AT_CEIL)
    (wGROUP_CEIL_REASON : W .GROUP_CEIL_REASON) (wGROUP_CHG_ABORTS : W .GROUP_CHG_ABORTS)
    (wGROUP_CHG_RESULT : W .GROUP_CHG_RESULT) (wGROUP_CHG_STATE : W .GROUP_CHG_STATE)
    (wGROUP_LIMIT : W .GROUP_LIMIT) (wGROUP_TARGET_N : W .GROUP_TARGET_N) (wMB_COUNT : W .MB_COUNT)
    (wMB_DISCARDS : W .MB_DISCARDS) (wOP_CEIL_ENTRY : W .OP_CEIL_ENTRY)
    (wRAIL_DEGRADE_EVENTS : W .RAIL_DEGRADE_EVENTS) (wRAIL_FILLED_INTERVALS : W .RAIL_FILLED_INTERVALS)
    (wRAIL_IMEAS : W .RAIL_IMEAS) (wRAIL_LIMIT : W .RAIL_LIMIT) (wRAIL_OCP_EVENTS : W .RAIL_OCP_EVENTS)
    (wRAIL_OVER_EVENTS : W .RAIL_OVER_EVENTS) (wRAIL_RECOVER : W .RAIL_RECOVER) (wRAIL_RETRIES : W .RAIL_RETRIES)
    (wRAIL_STATE : W .RAIL_STATE) (wRAIL_STATUS : W .RAIL_STATUS) (wRAIL_TARGET : W .RAIL_TARGET)
    (wRAIL_TLM_MISSES : W .RAIL_TLM_MISSES) (wRAIL_VMEAS : W .RAIL_VMEAS)
    (wREGION_STOP_ABORTS : W .REGION_STOP_ABORTS) (wREGION_STOP_RESULT : W .REGION_STOP_RESULT)
    (wREGION_STOP_STATE : W .REGION_STOP_STATE) (wSY_POST_OVERFLOW : W .SY_POST_OVERFLOW) (qflt : Q .flt)
    (qcell : Q .cell) (qfld : Q .fld) (qgrp : Q .grp) (qdom : Q .dom) (qpdWakes : Q .pdWakes) (qpdCmds : Q .pdCmds)
    (qlink : Q .link) (qrail : Q .rail) (qstop : Q .stop) (qcaps : Q .caps) (qbox : Q .box) (qports : Q .ports)
    (qenergy : Q .energy) (h : Fr W Q z s) :
    Fr W Q z (State.telemetry s k r tag data) := by
  unfold State.telemetry
  repeat' first
    | with_reducible assumption | with_reducible refine State.when_kept ?_ ?_ | with_reducible apply State.wr_frame
    | with_reducible apply State.inc_frame | with_reducible apply State.event_frame
    | with_reducible apply State.degradeRail_frame | with_reducible apply State.haveInterval_frame
    | with_reducible apply State.overCurrent_frame | with_reducible apply State.missInterval_frame
    | with_reducible apply State.recoverTlm_frame | with_reducible apply State.tlmIn_frame | split | dsimp only
    | intro _

theorem execTlm_frame {k : Nat} {ch : Nat} {tag : Nat} {data : Nat} {s : State}
    (wALERT_STATUS : W .ALERT_STATUS) (wCOMPUTE_LIMIT : W .COMPUTE_LIMIT)
    (wCOMPUTE_LIMIT_REASON : W .COMPUTE_LIMIT_REASON) (wDOMAIN_STATE : W .DOMAIN_STATE)
    (wENGINE_DOMAIN_RAIL_ENERGY : W .ENGINE_DOMAIN_RAIL_ENERGY)
    (wENGINE_NONCOMPUTE_ENERGY : W .ENGINE_NONCOMPUTE_ENERGY) (wEVENT_NEXT : W .EVENT_NEXT)
    (wEVENT_OVERWRITTEN : W .EVENT_OVERWRITTEN) (wEVENT_PAGE : W .EVENT_PAGE) (wEVENT_SEQ : W .EVENT_SEQ)
    (wFIELD_LIMIT : W .FIELD_LIMIT) (wFIELD_LIMIT_REASON : W .FIELD_LIMIT_REASON) (wFIELD_VNEED : W .FIELD_VNEED)
    (wFIELD_VOLT : W .FIELD_VOLT) (wFIELD_VOLT_AT_CEIL : W .FIELD_VOLT_AT_CEIL)
    (wGROUP_CEIL_REASON : W .GROUP_CEIL_REASON) (wGROUP_CHG_ABORTS : W .GROUP_CHG_ABORTS)
    (wGROUP_CHG_RESULT : W .GROUP_CHG_RESULT) (wGROUP_CHG_STATE : W .GROUP_CHG_STATE)
    (wGROUP_LIMIT : W .GROUP_LIMIT) (wGROUP_TARGET_N : W .GROUP_TARGET_N) (wINJ_ARM : W .INJ_ARM)
    (wINJ_COUNT : W .INJ_COUNT) (wINJ_RESULT : W .INJ_RESULT) (wMB_COUNT : W .MB_COUNT)
    (wMB_DISCARDS : W .MB_DISCARDS) (wOP_CEIL_ENTRY : W .OP_CEIL_ENTRY) (wRAIL_CRC_ERRS : W .RAIL_CRC_ERRS)
    (wRAIL_DEGRADE_EVENTS : W .RAIL_DEGRADE_EVENTS) (wRAIL_FILLED_INTERVALS : W .RAIL_FILLED_INTERVALS)
    (wRAIL_IMEAS : W .RAIL_IMEAS) (wRAIL_LIMIT : W .RAIL_LIMIT) (wRAIL_OCP_EVENTS : W .RAIL_OCP_EVENTS)
    (wRAIL_OVER_EVENTS : W .RAIL_OVER_EVENTS) (wRAIL_RECOVER : W .RAIL_RECOVER) (wRAIL_RETRIES : W .RAIL_RETRIES)
    (wRAIL_STATE : W .RAIL_STATE) (wRAIL_STATUS : W .RAIL_STATUS) (wRAIL_TARGET : W .RAIL_TARGET)
    (wRAIL_TLM_MISSES : W .RAIL_TLM_MISSES) (wRAIL_VMEAS : W .RAIL_VMEAS)
    (wREGION_STOP_ABORTS : W .REGION_STOP_ABORTS) (wREGION_STOP_RESULT : W .REGION_STOP_RESULT)
    (wREGION_STOP_STATE : W .REGION_STOP_STATE) (wSY_POST_OVERFLOW : W .SY_POST_OVERFLOW) (qflt : Q .flt)
    (qinj : Q .inj) (qcell : Q .cell) (qfld : Q .fld) (qgrp : Q .grp) (qdom : Q .dom) (qpdWakes : Q .pdWakes)
    (qpdCmds : Q .pdCmds) (qlink : Q .link) (qrail : Q .rail) (qstop : Q .stop) (qcaps : Q .caps) (qbox : Q .box)
    (qports : Q .ports) (qenergy : Q .energy) (h : Fr W Q z s) :
    ∀ t, execTlm k ch tag data s = .next t → Fr W Q z t := by
  unfold execTlm
  repeat' first
    | with_reducible refine next_kept ?_ | with_reducible assumption | with_reducible refine State.when_kept ?_ ?_
    | with_reducible refine State.injCrc_frame ?_ ?_ ?_ ?_ ?_ ?_ _ (by assumption)
    | with_reducible apply State.inc_frame | with_reducible apply State.tlmIn_frame
    | with_reducible apply State.telemetry_frame | split | dsimp only | intro _

theorem State.markLink_frame {s : State} {j : Nat} {k : Nat} (wALERT_STATUS : W .ALERT_STATUS)
    (wCOMPUTE_LIMIT : W .COMPUTE_LIMIT) (wCOMPUTE_LIMIT_REASON : W .COMPUTE_LIMIT_REASON)
    (wDOMAIN_STATE : W .DOMAIN_STATE) (wENGINE_DOMAIN_RAIL_ENERGY : W .ENGINE_DOMAIN_RAIL_ENERGY)
    (wENGINE_NONCOMPUTE_ENERGY : W .ENGINE_NONCOMPUTE_ENERGY) (wEVENT_NEXT : W .EVENT_NEXT)
    (wEVENT_OVERWRITTEN : W .EVENT_OVERWRITTEN) (wEVENT_PAGE : W .EVENT_PAGE) (wEVENT_SEQ : W .EVENT_SEQ)
    (wFIELD_LIMIT : W .FIELD_LIMIT) (wFIELD_LIMIT_REASON : W .FIELD_LIMIT_REASON) (wFIELD_VNEED : W .FIELD_VNEED)
    (wFIELD_VOLT : W .FIELD_VOLT) (wFIELD_VOLT_AT_CEIL : W .FIELD_VOLT_AT_CEIL)
    (wGROUP_CEIL_REASON : W .GROUP_CEIL_REASON) (wGROUP_CHG_ABORTS : W .GROUP_CHG_ABORTS)
    (wGROUP_CHG_RESULT : W .GROUP_CHG_RESULT) (wGROUP_CHG_STATE : W .GROUP_CHG_STATE)
    (wGROUP_LIMIT : W .GROUP_LIMIT) (wGROUP_TARGET_N : W .GROUP_TARGET_N) (wMB_COUNT : W .MB_COUNT)
    (wMB_DISCARDS : W .MB_DISCARDS) (wOP_CEIL_ENTRY : W .OP_CEIL_ENTRY)
    (wRAIL_DEGRADE_EVENTS : W .RAIL_DEGRADE_EVENTS) (wRAIL_FILLED_INTERVALS : W .RAIL_FILLED_INTERVALS)
    (wRAIL_RETRIES : W .RAIL_RETRIES) (wRAIL_STATE : W .RAIL_STATE) (wRAIL_STATUS : W .RAIL_STATUS)
    (wRAIL_TLM_MISSES : W .RAIL_TLM_MISSES) (wREGION_STOP_ABORTS : W .REGION_STOP_ABORTS)
    (wREGION_STOP_RESULT : W .REGION_STOP_RESULT) (wREGION_STOP_STATE : W .REGION_STOP_STATE)
    (wSY_POST_OVERFLOW : W .SY_POST_OVERFLOW) (qflt : Q .flt) (qcell : Q .cell) (qfld : Q .fld) (qgrp : Q .grp)
    (qdom : Q .dom) (qpdWakes : Q .pdWakes) (qpdCmds : Q .pdCmds) (qlink : Q .link) (qrail : Q .rail)
    (qstop : Q .stop) (qcaps : Q .caps) (qbox : Q .box) (qports : Q .ports) (qenergy : Q .energy) (h : Fr W Q z s) :
    Fr W Q z (State.markLink s j k) := by
  unfold State.markLink
  repeat' first
    | with_reducible assumption | with_reducible refine State.each_kept ?_ ?_
    | with_reducible apply State.missInterval_frame | with_reducible apply State.modL_frame
    | with_reducible apply State.pump_frame | split | dsimp only | intro _

theorem execMark_frame {s : State} (wALERT_STATUS : W .ALERT_STATUS) (wCOMPUTE_LIMIT : W .COMPUTE_LIMIT)
    (wCOMPUTE_LIMIT_REASON : W .COMPUTE_LIMIT_REASON) (wDOMAIN_STATE : W .DOMAIN_STATE)
    (wENGINE_DOMAIN_RAIL_ENERGY : W .ENGINE_DOMAIN_RAIL_ENERGY)
    (wENGINE_NONCOMPUTE_ENERGY : W .ENGINE_NONCOMPUTE_ENERGY) (wEVENT_NEXT : W .EVENT_NEXT)
    (wEVENT_OVERWRITTEN : W .EVENT_OVERWRITTEN) (wEVENT_PAGE : W .EVENT_PAGE) (wEVENT_SEQ : W .EVENT_SEQ)
    (wFIELD_LIMIT : W .FIELD_LIMIT) (wFIELD_LIMIT_REASON : W .FIELD_LIMIT_REASON) (wFIELD_VNEED : W .FIELD_VNEED)
    (wFIELD_VOLT : W .FIELD_VOLT) (wFIELD_VOLT_AT_CEIL : W .FIELD_VOLT_AT_CEIL)
    (wGROUP_CEIL_REASON : W .GROUP_CEIL_REASON) (wGROUP_CHG_ABORTS : W .GROUP_CHG_ABORTS)
    (wGROUP_CHG_RESULT : W .GROUP_CHG_RESULT) (wGROUP_CHG_STATE : W .GROUP_CHG_STATE)
    (wGROUP_LIMIT : W .GROUP_LIMIT) (wGROUP_TARGET_N : W .GROUP_TARGET_N) (wMB_COUNT : W .MB_COUNT)
    (wMB_DISCARDS : W .MB_DISCARDS) (wOP_CEIL_ENTRY : W .OP_CEIL_ENTRY)
    (wRAIL_DEGRADE_EVENTS : W .RAIL_DEGRADE_EVENTS) (wRAIL_FILLED_INTERVALS : W .RAIL_FILLED_INTERVALS)
    (wRAIL_RETRIES : W .RAIL_RETRIES) (wRAIL_STATE : W .RAIL_STATE) (wRAIL_STATUS : W .RAIL_STATUS)
    (wRAIL_TLM_MISSES : W .RAIL_TLM_MISSES) (wREGION_STOP_ABORTS : W .REGION_STOP_ABORTS)
    (wREGION_STOP_RESULT : W .REGION_STOP_RESULT) (wREGION_STOP_STATE : W .REGION_STOP_STATE)
    (wSY_POST_OVERFLOW : W .SY_POST_OVERFLOW) (qflt : Q .flt) (qcell : Q .cell) (qfld : Q .fld) (qgrp : Q .grp)
    (qdom : Q .dom) (qpdWakes : Q .pdWakes) (qpdCmds : Q .pdCmds) (qlink : Q .link) (qrail : Q .rail)
    (qstop : Q .stop) (qcaps : Q .caps) (qbox : Q .box) (qports : Q .ports) (qenergy : Q .energy) (h : Fr W Q z s) :
    ∀ t, execMark s = .next t → Fr W Q z t := by
  unfold execMark
  repeat' first
    | with_reducible refine next_kept ?_ | with_reducible assumption | with_reducible refine State.each_kept ?_ ?_
    | with_reducible refine State.when_kept ?_ ?_ | with_reducible apply State.modL_frame
    | with_reducible apply State.markLink_frame | split | dsimp only | intro _

theorem State.sendDueMarks_frame {s : State} (wALERT_STATUS : W .ALERT_STATUS)
    (wCOMPUTE_LIMIT : W .COMPUTE_LIMIT) (wCOMPUTE_LIMIT_REASON : W .COMPUTE_LIMIT_REASON)
    (wDOMAIN_STATE : W .DOMAIN_STATE) (wENGINE_DOMAIN_RAIL_ENERGY : W .ENGINE_DOMAIN_RAIL_ENERGY)
    (wENGINE_NONCOMPUTE_ENERGY : W .ENGINE_NONCOMPUTE_ENERGY) (wEVENT_NEXT : W .EVENT_NEXT)
    (wEVENT_OVERWRITTEN : W .EVENT_OVERWRITTEN) (wEVENT_PAGE : W .EVENT_PAGE) (wEVENT_SEQ : W .EVENT_SEQ)
    (wFIELD_LIMIT : W .FIELD_LIMIT) (wFIELD_LIMIT_REASON : W .FIELD_LIMIT_REASON) (wFIELD_VNEED : W .FIELD_VNEED)
    (wFIELD_VOLT : W .FIELD_VOLT) (wFIELD_VOLT_AT_CEIL : W .FIELD_VOLT_AT_CEIL)
    (wGROUP_CEIL_REASON : W .GROUP_CEIL_REASON) (wGROUP_CHG_ABORTS : W .GROUP_CHG_ABORTS)
    (wGROUP_CHG_RESULT : W .GROUP_CHG_RESULT) (wGROUP_CHG_STATE : W .GROUP_CHG_STATE)
    (wGROUP_LIMIT : W .GROUP_LIMIT) (wGROUP_TARGET_N : W .GROUP_TARGET_N) (wMB_COUNT : W .MB_COUNT)
    (wMB_DISCARDS : W .MB_DISCARDS) (wOP_CEIL_ENTRY : W .OP_CEIL_ENTRY)
    (wRAIL_DEGRADE_EVENTS : W .RAIL_DEGRADE_EVENTS) (wRAIL_FILLED_INTERVALS : W .RAIL_FILLED_INTERVALS)
    (wRAIL_RETRIES : W .RAIL_RETRIES) (wRAIL_STATE : W .RAIL_STATE) (wRAIL_STATUS : W .RAIL_STATUS)
    (wRAIL_TLM_MISSES : W .RAIL_TLM_MISSES) (wREGION_STOP_ABORTS : W .REGION_STOP_ABORTS)
    (wREGION_STOP_RESULT : W .REGION_STOP_RESULT) (wREGION_STOP_STATE : W .REGION_STOP_STATE)
    (wSY_POST_OVERFLOW : W .SY_POST_OVERFLOW) (qflt : Q .flt) (qcell : Q .cell) (qfld : Q .fld) (qgrp : Q .grp)
    (qdom : Q .dom) (qpdWakes : Q .pdWakes) (qpdCmds : Q .pdCmds) (qlink : Q .link) (qrail : Q .rail)
    (qstop : Q .stop) (qcaps : Q .caps) (qbox : Q .box) (qports : Q .ports) (qenergy : Q .energy) (h : Fr W Q z s) :
    Fr W Q z (State.sendDueMarks s) := by
  unfold State.sendDueMarks
  repeat' first
    | with_reducible assumption | with_reducible refine State.each_kept ?_ ?_
    | with_reducible apply State.markLink_frame | with_reducible apply State.pump_frame | split | dsimp only | intro _

theorem State.acceptRecover_frame {s : State} {r : Nat} (wRAIL_RECOVER : W .RAIL_RECOVER)
    (wRAIL_RETRIES : W .RAIL_RETRIES) (wRAIL_STATUS : W .RAIL_STATUS) (qlink : Q .link) (qrail : Q .rail)
    (h : Fr W Q z s) :
    Fr W Q z (State.acceptRecover s r) := by
  unfold State.acceptRecover
  repeat' first
    | with_reducible assumption | with_reducible apply State.wr_frame | with_reducible apply State.modRa_frame
    | with_reducible apply State.recoverRail_frame | split

/-! ### Caps -/

theorem State.setDuty_frame {s : State} {f : Nat} {u : Nat} (wFAST_DUTY : W .FAST_DUTY) (qrgn : Q .rgn)
    (h : Fr W Q z s) :
    Fr W Q z (State.setDuty s f u) := by
  unfold State.setDuty
  repeat' first
    | with_reducible assumption | with_reducible refine State.each_kept ?_ ?_ | with_reducible apply State.wr_frame
    | with_reducible apply State.modR_frame | split | dsimp only | intro _

theorem State.resendDuty_frame {s : State} {g : Nat} (wFAST_DUTY : W .FAST_DUTY) (qrgn : Q .rgn)
    (h : Fr W Q z s) :
    Fr W Q z (State.resendDuty s g) := by
  unfold State.resendDuty
  repeat' first
    | with_reducible assumption | with_reducible refine State.each_kept ?_ ?_
    | with_reducible apply State.setDuty_frame | split | dsimp only | intro _

theorem State.fastCap_frame {s : State} {f : Nat} (wFAST_DUTY : W .FAST_DUTY) (wFIELD_EXCESS : W .FIELD_EXCESS)
    (qrgn : Q .rgn) (qfld : Q .fld) (h : Fr W Q z s) :
    Fr W Q z (State.fastCap s f) := by
  unfold State.fastCap
  repeat' first
    | with_reducible assumption | with_reducible apply State.setDuty_frame | with_reducible apply State.wrInt_frame
    | with_reducible apply State.modF_frame

theorem execFastCapUpdate_frame {f : Nat} {s : State} (wFAST_DUTY : W .FAST_DUTY)
    (wFIELD_EXCESS : W .FIELD_EXCESS) (qrgn : Q .rgn) (qfld : Q .fld) (h : Fr W Q z s) :
    ∀ t, execFastCapUpdate f s = .next t → Fr W Q z t := by
  unfold execFastCapUpdate
  repeat' first
    | with_reducible refine next_kept ?_ | with_reducible assumption | with_reducible refine State.when_kept ?_ ?_
    | with_reducible apply State.fastCap_frame | split | dsimp only | intro _

theorem State.parkGroup_frame {s : State} {g : Nat} {count : Nat} {release : Nat} (qflt : Q .flt)
    (qrgn : Q .rgn) (h : Fr W Q z s) :
    Fr W Q z (State.parkGroup s g count release) := by
  unfold State.parkGroup
  repeat' first
    | with_reducible assumption | with_reducible refine State.each_kept ?_ ?_
    | with_reducible apply State.givePark_frame | split | dsimp only | intro _

theorem State.engageFloor_frame {s : State} {g : Nat} (wCAP_STATUS : W .CAP_STATUS) (wFAST_DUTY : W .FAST_DUTY)
    (wFLOOR_RATE : W .FLOOR_RATE) (wFLOOR_STATE : W .FLOOR_STATE) (qflt : Q .flt) (qrgn : Q .rgn) (qgrp : Q .grp)
    (h : Fr W Q z s) :
    Fr W Q z (State.engageFloor s g) := by
  unfold State.engageFloor
  repeat' first
    | with_reducible assumption | with_reducible apply State.wr_frame | with_reducible apply State.modG_frame
    | with_reducible apply State.parkGroup_frame | with_reducible apply State.resendDuty_frame
    | with_reducible apply State.showCapFlags_frame

theorem State.floorStart_frame {s : State} {g : Nat} (wFAST_DUTY : W .FAST_DUTY) (qrgn : Q .rgn)
    (h : Fr W Q z s) :
    Fr W Q z (State.floorStart s g) := by
  unfold State.floorStart
  repeat' first
    | with_reducible assumption | with_reducible refine State.each_kept ?_ ?_
    | with_reducible refine State.when_kept ?_ ?_ | with_reducible apply State.setDuty_frame | split | dsimp only
    | intro _

theorem State.stopFloor_frame {s : State} {g : Nat} (wCAP_STATUS : W .CAP_STATUS) (wFAST_DUTY : W .FAST_DUTY)
    (wFLOOR_RATE : W .FLOOR_RATE) (wFLOOR_STATE : W .FLOOR_STATE) (qrgn : Q .rgn) (qgrp : Q .grp) (h : Fr W Q z s) :
    Fr W Q z (State.stopFloor s g) := by
  unfold State.stopFloor
  repeat' first
    | with_reducible assumption | with_reducible apply State.wr_frame | with_reducible apply State.modG_frame
    | with_reducible apply State.resendDuty_frame | with_reducible apply State.showCapFlags_frame

theorem State.floorUpdate_frame {s : State} {g : Nat} {fl : Floor} (wFLOOR_RATE : W .FLOOR_RATE) (qflt : Q .flt)
    (qrgn : Q .rgn) (qgrp : Q .grp) (h : Fr W Q z s) :
    Fr W Q z (State.floorUpdate s g fl) := by
  unfold State.floorUpdate
  repeat' first
    | with_reducible assumption | with_reducible apply State.wr_frame | with_reducible apply State.modG_frame
    | with_reducible apply State.parkGroup_frame | split | dsimp only

theorem execFloorRateUpdate_frame {g : Nat} {s : State} (wFLOOR_RATE : W .FLOOR_RATE) (qflt : Q .flt)
    (qrgn : Q .rgn) (qgrp : Q .grp) (h : Fr W Q z s) :
    ∀ t, execFloorRateUpdate g s = .next t → Fr W Q z t := by
  unfold execFloorRateUpdate
  repeat' first
    | with_reducible refine next_kept ?_ | with_reducible assumption | with_reducible refine State.when_kept ?_ ?_
    | with_reducible apply State.floorUpdate_frame | split | dsimp only | intro _

theorem State.tripParks_frame {s : State} {f : Nat} (wDS_STATUS : W .DS_STATUS) (wOSC_STATUS : W .OSC_STATUS)
    (wSLIP : W .SLIP) (wTETHER_STATUS : W .TETHER_STATUS) (qflt : Q .flt) (qrgn : Q .rgn) (qcell : Q .cell)
    (h : Fr W Q z s) :
    Fr W Q z (State.tripParks s f) := by
  unfold State.tripParks
  repeat' first
    | with_reducible assumption | with_reducible refine State.each_kept ?_ ?_
    | with_reducible apply State.givePark_frame | with_reducible apply State.tripStop_frame | split | dsimp only
    | intro _

theorem State.thermalTrip_frame {s : State} {f : Nat} {n : Nat} {v : Int} {injected : Bool}
    (wALERT_STATUS : W .ALERT_STATUS) (wCAP_STATUS : W .CAP_STATUS) (wDS_STATUS : W .DS_STATUS)
    (wEVENT_NEXT : W .EVENT_NEXT) (wEVENT_OVERWRITTEN : W .EVENT_OVERWRITTEN) (wEVENT_PAGE : W .EVENT_PAGE)
    (wEVENT_SEQ : W .EVENT_SEQ) (wFAST_DUTY : W .FAST_DUTY) (wFLOOR_RATE : W .FLOOR_RATE)
    (wFLOOR_STATE : W .FLOOR_STATE) (wOSC_STATUS : W .OSC_STATUS) (wRUN_STATUS : W .RUN_STATUS) (wSLIP : W .SLIP)
    (wTETHER_STATUS : W .TETHER_STATUS) (wTHERM_TRIPS : W .THERM_TRIPS) (qflt : Q .flt) (qrgn : Q .rgn)
    (qcell : Q .cell) (qfld : Q .fld) (qgrp : Q .grp) (qcaps : Q .caps) (h : Fr W Q z s) :
    Fr W Q z (State.thermalTrip s f n v injected) := by
  unfold State.thermalTrip
  repeat' first
    | with_reducible assumption | with_reducible refine State.when_kept ?_ ?_
    | with_reducible apply State.tripParks_frame | with_reducible apply State.modF_frame
    | with_reducible apply State.stopFloor_frame | with_reducible apply State.unobserve_frame
    | with_reducible apply State.modG_frame | with_reducible apply State.setFlag_frame
    | with_reducible apply State.event_frame | with_reducible apply State.inc_frame
    | with_reducible apply State.markRuns_frame | with_reducible apply State.raiseFault_frame | split | dsimp only
    | intro _ | with_reducible apply Fr.lit | with_reducible exact Or.inl (by assumption)
    | with_reducible exact Or.inr rfl

theorem State.tripParksDue_frame {s : State} (wDS_STATUS : W .DS_STATUS) (wOSC_STATUS : W .OSC_STATUS)
    (wSLIP : W .SLIP) (wTETHER_STATUS : W .TETHER_STATUS) (qflt : Q .flt) (qrgn : Q .rgn) (qcell : Q .cell)
    (qcaps : Q .caps) (h : Fr W Q z s) :
    Fr W Q z (State.tripParksDue s) := by
  unfold State.tripParksDue
  repeat' first
    | with_reducible assumption | with_reducible refine State.each_kept ?_ ?_
    | with_reducible apply State.tripParks_frame | split | dsimp only | intro _ | with_reducible apply Fr.lit
    | with_reducible exact Or.inl (by assumption) | with_reducible exact Or.inr rfl

theorem State.useTempInj_frame {s : State} (wINJ_ARM : W .INJ_ARM) (wINJ_COUNT : W .INJ_COUNT)
    (wINJ_RESULT : W .INJ_RESULT) (qflt : Q .flt) (qinj : Q .inj) (h : Fr W Q z s) :
    Fr W Q z (State.useTempInj s) := by
  unfold State.useTempInj
  repeat' first
    | with_reducible assumption | with_reducible apply State.endInjection_frame | split | dsimp only | intro _
    | with_reducible apply Fr.lit | with_reducible exact Or.inl (by assumption) | with_reducible exact Or.inr rfl

theorem State.readTemp_frame {s : State} {n : Nat} {i : Nat} {raw : Option Int}
    (wALERT_STATUS : W .ALERT_STATUS) (wCAP_STATUS : W .CAP_STATUS) (wDS_STATUS : W .DS_STATUS)
    (wEVENT_NEXT : W .EVENT_NEXT) (wEVENT_OVERWRITTEN : W .EVENT_OVERWRITTEN) (wEVENT_PAGE : W .EVENT_PAGE)
    (wEVENT_SEQ : W .EVENT_SEQ) (wFAST_DUTY : W .FAST_DUTY) (wFLOOR_RATE : W .FLOOR_RATE)
    (wFLOOR_STATE : W .FLOOR_STATE) (wINJ_ARM : W .INJ_ARM) (wINJ_COUNT : W .INJ_COUNT)
    (wINJ_RESULT : W .INJ_RESULT) (wOSC_STATUS : W .OSC_STATUS) (wRUN_STATUS : W .RUN_STATUS) (wSLIP : W .SLIP)
    (wTETHER_STATUS : W .TETHER_STATUS) (wTHERM_TRIPS : W .THERM_TRIPS) (qflt : Q .flt) (qinj : Q .inj)
    (qrgn : Q .rgn) (qts : Q .ts) (qcell : Q .cell) (qfld : Q .fld) (qgrp : Q .grp) (qcaps : Q .caps)
    (h : Fr W Q z s) :
    Fr W Q z (State.readTemp s n i raw) := by
  unfold State.readTemp
  repeat' first
    | with_reducible assumption | with_reducible refine State.when_kept ?_ ?_
    | with_reducible apply State.useTempInj_frame | with_reducible apply State.modTs_frame
    | with_reducible apply State.event_frame | with_reducible apply State.modF_frame
    | with_reducible apply State.thermalTrip_frame | split | dsimp only | intro _

theorem State.tripRelease_frame {s : State} {g : Nat} (wFIELD_VNEED : W .FIELD_VNEED)
    (wFIELD_VOLT : W .FIELD_VOLT) (wFIELD_VOLT_AT_CEIL : W .FIELD_VOLT_AT_CEIL)
    (wGROUP_CEIL_REASON : W .GROUP_CEIL_REASON) (wGROUP_CHG_ABORTS : W .GROUP_CHG_ABORTS)
    (wGROUP_CHG_RESULT : W .GROUP_CHG_RESULT) (wGROUP_CHG_STATE : W .GROUP_CHG_STATE)
    (wGROUP_TARGET_N : W .GROUP_TARGET_N) (wOP_CEIL_ENTRY : W .OP_CEIL_ENTRY) (wRAIL_RETRIES : W .RAIL_RETRIES)
    (wRAIL_STATUS : W .RAIL_STATUS) (qfld : Q .fld) (qgrp : Q .grp) (qlink : Q .link) (qrail : Q .rail)
    (h : Fr W Q z s) :
    Fr W Q z (State.tripRelease s g) := by
  unfold State.tripRelease
  repeat' first
    | with_reducible assumption | with_reducible refine State.when_kept ?_ ?_ | with_reducible apply State.modG_frame
    | with_reducible apply State.retarget_frame | split | dsimp only | intro _

theorem execThermalRead_frame {n : Nat} {readings : List TsReading} {s : State}
    (wALERT_STATUS : W .ALERT_STATUS) (wCAP_STATUS : W .CAP_STATUS) (wDS_STATUS : W .DS_STATUS)
    (wEVENT_NEXT : W .EVENT_NEXT) (wEVENT_OVERWRITTEN : W .EVENT_OVERWRITTEN) (wEVENT_PAGE : W .EVENT_PAGE)
    (wEVENT_SEQ : W .EVENT_SEQ) (wFAST_DUTY : W .FAST_DUTY) (wFIELD_VNEED : W .FIELD_VNEED)
    (wFIELD_VOLT : W .FIELD_VOLT) (wFIELD_VOLT_AT_CEIL : W .FIELD_VOLT_AT_CEIL) (wFLOOR_RATE : W .FLOOR_RATE)
    (wFLOOR_STATE : W .FLOOR_STATE) (wGROUP_CEIL_REASON : W .GROUP_CEIL_REASON)
    (wGROUP_CHG_ABORTS : W .GROUP_CHG_ABORTS) (wGROUP_CHG_RESULT : W .GROUP_CHG_RESULT)
    (wGROUP_CHG_STATE : W .GROUP_CHG_STATE) (wGROUP_TARGET_N : W .GROUP_TARGET_N) (wINJ_ARM : W .INJ_ARM)
    (wINJ_COUNT : W .INJ_COUNT) (wINJ_RESULT : W .INJ_RESULT) (wOP_CEIL_ENTRY : W .OP_CEIL_ENTRY)
    (wOSC_STATUS : W .OSC_STATUS) (wRAIL_RETRIES : W .RAIL_RETRIES) (wRAIL_STATUS : W .RAIL_STATUS)
    (wRUN_STATUS : W .RUN_STATUS) (wSLIP : W .SLIP) (wTETHER_STATUS : W .TETHER_STATUS)
    (wTHERM_TRIPS : W .THERM_TRIPS) (qflt : Q .flt) (qinj : Q .inj) (qrgn : Q .rgn) (qts : Q .ts) (qcell : Q .cell)
    (qfld : Q .fld) (qgrp : Q .grp) (qlink : Q .link) (qrail : Q .rail) (qcaps : Q .caps) (h : Fr W Q z s) :
    ∀ t, execThermalRead n readings s = .next t → Fr W Q z t := by
  unfold execThermalRead
  repeat' first
    | with_reducible refine next_kept ?_ | with_reducible assumption | with_reducible refine State.each_kept ?_ ?_
    | with_reducible refine State.when_kept ?_ ?_ | with_reducible apply State.readTemp_frame
    | with_reducible apply State.tripRelease_frame | split | dsimp only | intro _

theorem execLimitRecompute_frame {s : State} (wCOMPUTE_LIMIT : W .COMPUTE_LIMIT)
    (wCOMPUTE_LIMIT_REASON : W .COMPUTE_LIMIT_REASON) (wFIELD_LIMIT : W .FIELD_LIMIT)
    (wFIELD_LIMIT_REASON : W .FIELD_LIMIT_REASON) (wGROUP_LIMIT : W .GROUP_LIMIT) (qfld : Q .fld) (qrail : Q .rail)
    (qcaps : Q .caps) (h : Fr W Q z s) :
    ∀ t, execLimitRecompute s = .next t → Fr W Q z t := by
  unfold execLimitRecompute
  repeat' first
    | with_reducible refine next_kept ?_ | with_reducible assumption | with_reducible refine State.when_kept ?_ ?_
    | with_reducible apply State.recompute_frame | split | dsimp only | intro _

theorem execCapNWindow_frame {low : Bool} {s : State} (wCAP_N_EVENTS : W .CAP_N_EVENTS)
    (wCAP_STATUS : W .CAP_STATUS) (qcaps : Q .caps) (h : Fr W Q z s) :
    ∀ t, execCapNWindow low s = .next t → Fr W Q z t := by
  unfold execCapNWindow
  repeat' first
    | with_reducible refine next_kept ?_ | with_reducible assumption | with_reducible refine State.when_kept ?_ ?_
    | with_reducible apply State.setFlag_frame | with_reducible apply State.inc_frame | split | dsimp only | intro _
    | with_reducible apply Fr.lit | with_reducible exact Or.inl (by assumption) | with_reducible exact Or.inr rfl

theorem execHotNAssert_frame {s : State} (wALERT_STATUS : W .ALERT_STATUS) (wCAP_STATUS : W .CAP_STATUS)
    (wEVENT_NEXT : W .EVENT_NEXT) (wEVENT_OVERWRITTEN : W .EVENT_OVERWRITTEN) (wEVENT_PAGE : W .EVENT_PAGE)
    (wEVENT_SEQ : W .EVENT_SEQ) (wFIELD_VNEED : W .FIELD_VNEED) (wFIELD_VOLT : W .FIELD_VOLT)
    (wFIELD_VOLT_AT_CEIL : W .FIELD_VOLT_AT_CEIL) (wGROUP_CEIL_REASON : W .GROUP_CEIL_REASON)
    (wGROUP_CHG_ABORTS : W .GROUP_CHG_ABORTS) (wGROUP_CHG_RESULT : W .GROUP_CHG_RESULT)
    (wGROUP_CHG_STATE : W .GROUP_CHG_STATE) (wGROUP_TARGET_N : W .GROUP_TARGET_N) (wHOT_N_EVENTS : W .HOT_N_EVENTS)
    (wOP_CEIL_ENTRY : W .OP_CEIL_ENTRY) (wRAIL_RETRIES : W .RAIL_RETRIES) (wRAIL_STATUS : W .RAIL_STATUS)
    (wRUN_STATUS : W .RUN_STATUS) (qflt : Q .flt) (qfld : Q .fld) (qgrp : Q .grp) (qlink : Q .link)
    (qrail : Q .rail) (h : Fr W Q z s) :
    ∀ t, execHotNAssert s = .next t → Fr W Q z t := by
  unfold execHotNAssert
  repeat' first
    | with_reducible refine next_kept ?_ | with_reducible assumption | with_reducible refine State.each_kept ?_ ?_
    | with_reducible refine State.when_kept ?_ ?_ | with_reducible apply State.setFlag_frame
    | with_reducible apply State.inc_frame | with_reducible apply State.event_frame
    | with_reducible apply State.spoil_frame | with_reducible apply State.markRuns_frame
    | with_reducible apply State.retargetAll_frame | split | dsimp only | intro _

theorem execHotNRelease_frame {s : State} (wCAP_STATUS : W .CAP_STATUS) (wFIELD_VNEED : W .FIELD_VNEED)
    (wFIELD_VOLT : W .FIELD_VOLT) (wFIELD_VOLT_AT_CEIL : W .FIELD_VOLT_AT_CEIL)
    (wGROUP_CEIL_REASON : W .GROUP_CEIL_REASON) (wGROUP_CHG_ABORTS : W .GROUP_CHG_ABORTS)
    (wGROUP_CHG_RESULT : W .GROUP_CHG_RESULT) (wGROUP_CHG_STATE : W .GROUP_CHG_STATE)
    (wGROUP_TARGET_N : W .GROUP_TARGET_N) (wOP_CEIL_ENTRY : W .OP_CEIL_ENTRY) (wRAIL_RETRIES : W .RAIL_RETRIES)
    (wRAIL_STATUS : W .RAIL_STATUS) (qfld : Q .fld) (qgrp : Q .grp) (qlink : Q .link) (qrail : Q .rail)
    (h : Fr W Q z s) :
    ∀ t, execHotNRelease s = .next t → Fr W Q z t := by
  unfold execHotNRelease
  repeat' first
    | with_reducible refine next_kept ?_ | with_reducible assumption | with_reducible refine State.when_kept ?_ ?_
    | with_reducible apply State.setFlag_frame | with_reducible apply State.retargetAll_frame | split | dsimp only
    | intro _

/-! ### SlowLoop -/

theorem State.tickField_frame {s : State} {f : Nat} (wFIELD_EST_CORR : W .FIELD_EST_CORR) (qheld : Q .held)
    (qfld : Q .fld) (h : Fr W Q z s) :
    Fr W Q z (State.tickField s f) := by
  unfold State.tickField
  repeat' first
    | with_reducible assumption | with_reducible refine State.when_kept ?_ ?_
    | with_reducible apply State.holdOld_frame | with_reducible apply State.wrInt_frame
    | with_reducible apply State.modF_frame | split | dsimp only | intro _

theorem State.tickTherm_frame {s : State} {f : Nat} (wFIELD_TEMP_MAX : W .FIELD_TEMP_MAX)
    (wFIELD_THERM_LIMIT : W .FIELD_THERM_LIMIT) (qfreeN : Q .freeN) (h : Fr W Q z s) :
    Fr W Q z (State.tickTherm s f) := by
  unfold State.tickTherm
  repeat' first
    | with_reducible assumption | with_reducible apply State.wrInt_frame | with_reducible apply State.wrFit_frame

theorem State.tickSafe_frame {s : State} {f : Nat} (qfld : Q .fld) (qgrp : Q .grp) (h : Fr W Q z s) :
    Fr W Q z (State.tickSafe s f) := by
  unfold State.tickSafe
  repeat' first
    | with_reducible assumption | with_reducible refine State.when_kept ?_ ?_ | with_reducible apply State.modF_frame
    | with_reducible apply State.modG_frame | split | dsimp only | intro _

theorem State.tickRails_frame {s : State} (wENGINE_MEAS : W .ENGINE_MEAS) (wRAIL_LIMIT : W .RAIL_LIMIT)
    (qcaps : Q .caps) (qfreeN : Q .freeN) (h : Fr W Q z s) :
    Fr W Q z (State.tickRails s) := by
  unfold State.tickRails
  repeat' first
    | with_reducible assumption | with_reducible apply State.wr_frame | with_reducible apply State.wrFit_frame
    | with_reducible apply State.recomputeRails_frame | split | dsimp only | intro _ | with_reducible apply Fr.lit
    | with_reducible exact Or.inl (by assumption) | with_reducible exact Or.inr rfl

theorem State.clearRails_frame {s : State} (qrail : Q .rail) (h : Fr W Q z s) :
    Fr W Q z (State.clearRails s) := by
  unfold State.clearRails
  repeat' first
    | with_reducible assumption | with_reducible refine State.each_kept ?_ ?_ | with_reducible apply State.modRa_frame
    | split | dsimp only | intro _

theorem State.setPow_frame {s : State} {g : Nat} {e : Nat} (wOP_POWER_ENTRY : W .OP_POWER_ENTRY)
    (h : Fr W Q z s) :
    Fr W Q z (State.setPow s g e) := by
  unfold State.setPow
  repeat' first
    | with_reducible assumption | with_reducible apply State.wr_frame

theorem State.downStep_frame {s : State} {g : Nat} {e : Nat} {p : Nat} (wOP_DOWN_STEPS : W .OP_DOWN_STEPS)
    (wOP_POWER_ENTRY : W .OP_POWER_ENTRY) (qgrp : Q .grp) (h : Fr W Q z s) :
    Fr W Q z (State.downStep s g e p) := by
  unfold State.downStep
  repeat' first
    | with_reducible assumption | with_reducible apply State.setPow_frame | with_reducible apply State.inc_frame
    | with_reducible apply State.modG_frame

theorem State.upStep_frame {s : State} {g : Nat} {e : Nat} (wOP_POWER_ENTRY : W .OP_POWER_ENTRY)
    (wOP_UP_STEPS : W .OP_UP_STEPS) (qgrp : Q .grp) (h : Fr W Q z s) :
    Fr W Q z (State.upStep s g e) := by
  unfold State.upStep
  repeat' first
    | with_reducible assumption | with_reducible apply State.setPow_frame | with_reducible apply State.inc_frame
    | with_reducible apply State.modG_frame | split | dsimp only

theorem State.tickPow_frame {s : State} {g : Nat} (wGROUP_CEIL_REASON : W .GROUP_CEIL_REASON)
    (wGROUP_LOSS : W .GROUP_LOSS) (wOP_CEIL_ENTRY : W .OP_CEIL_ENTRY) (wOP_DOWN_STEPS : W .OP_DOWN_STEPS)
    (wOP_POWER_ENTRY : W .OP_POWER_ENTRY) (wOP_UP_STEPS : W .OP_UP_STEPS) (qgrp : Q .grp) (h : Fr W Q z s) :
    Fr W Q z (State.tickPow s g) := by
  unfold State.tickPow
  repeat' first
    | with_reducible assumption | with_reducible apply State.wr_frame | with_reducible apply State.setPow_frame
    | with_reducible apply State.modG_frame | with_reducible apply State.downStep_frame
    | with_reducible apply State.upStep_frame | with_reducible apply State.showCeiling_frame | split

theorem State.showExcess_frame {s : State} {g : Nat} (wCAP_EXCESS : W .CAP_EXCESS) (qfreeN : Q .freeN)
    (h : Fr W Q z s) :
    Fr W Q z (State.showExcess s g) := by
  unfold State.showExcess
  repeat' first
    | with_reducible assumption | with_reducible apply State.wr_frame | with_reducible apply State.free_frame | split
    | dsimp only

theorem State.tickFloor_frame {s : State} {g : Nat} (wALERT_STATUS : W .ALERT_STATUS)
    (wCAP_EXCESS : W .CAP_EXCESS) (wCAP_STATUS : W .CAP_STATUS) (wCAP_UNATT_EVENTS : W .CAP_UNATT_EVENTS)
    (wEVENT_NEXT : W .EVENT_NEXT) (wEVENT_OVERWRITTEN : W .EVENT_OVERWRITTEN) (wEVENT_PAGE : W .EVENT_PAGE)
    (wEVENT_SEQ : W .EVENT_SEQ) (wFAST_DUTY : W .FAST_DUTY) (wFLOOR_RATE : W .FLOOR_RATE)
    (wFLOOR_STATE : W .FLOOR_STATE) (qflt : Q .flt) (qrgn : Q .rgn) (qgrp : Q .grp) (qfreeN : Q .freeN)
    (h : Fr W Q z s) :
    Fr W Q z (State.tickFloor s g) := by
  unfold State.tickFloor
  repeat' first
    | with_reducible assumption | with_reducible refine State.each_kept ?_ ?_
    | with_reducible refine State.when_kept ?_ ?_ | with_reducible apply State.engageFloor_frame
    | with_reducible apply State.modG_frame | with_reducible apply State.setDuty_frame
    | with_reducible apply State.stopFloor_frame | with_reducible apply State.wr_frame
    | with_reducible apply State.showCapFlags_frame | with_reducible apply State.showExcess_frame
    | with_reducible apply State.inc_frame | with_reducible apply State.event_frame | split | dsimp only | intro _

theorem State.tickNoGroup_frame {s : State} (wALERT_STATUS : W .ALERT_STATUS) (wCAP_STATUS : W .CAP_STATUS)
    (wEVENT_NEXT : W .EVENT_NEXT) (wEVENT_OVERWRITTEN : W .EVENT_OVERWRITTEN) (wEVENT_PAGE : W .EVENT_PAGE)
    (wEVENT_SEQ : W .EVENT_SEQ) (qflt : Q .flt) (qgrp : Q .grp) (qcaps : Q .caps) (h : Fr W Q z s) :
    Fr W Q z (State.tickNoGroup s) := by
  unfold State.tickNoGroup
  repeat' first
    | with_reducible assumption | with_reducible apply State.showCapFlags_frame
    | with_reducible apply State.event_frame | with_reducible apply State.modG_frame | split | dsimp only | intro _
    | with_reducible apply Fr.lit | with_reducible exact Or.inl (by assumption) | with_reducible exact Or.inr rfl

theorem State.tickHold_frame {s : State} {f : Nat} (wFIELD_HOLD_FRAC : W .FIELD_HOLD_FRAC) (h : Fr W Q z s) :
    Fr W Q z (State.tickHold s f) := by
  unfold State.tickHold
  repeat' first
    | with_reducible assumption | with_reducible apply State.wr_frame

theorem State.tickGuard_frame {s : State} {f : Nat} (wDS_STATUS : W .DS_STATUS) (qfld : Q .fld) (h : Fr W Q z s) :
    Fr W Q z (State.tickGuard s f) := by
  unfold State.tickGuard
  repeat' first
    | with_reducible assumption | with_reducible refine State.each_kept ?_ ?_ | with_reducible apply State.setDs_frame
    | with_reducible apply State.modF_frame | split | dsimp only | intro _

theorem State.moveTrim_frame {s : State} {f : Nat} {q : Int × Nat} (wFIELD_VNEED : W .FIELD_VNEED)
    (wFIELD_VSET_DOWNS : W .FIELD_VSET_DOWNS) (wFIELD_VSET_UPS : W .FIELD_VSET_UPS) (wFIELD_VTRIM : W .FIELD_VTRIM)
    (qfld : Q .fld) (h : Fr W Q z s) :
    Fr W Q z (State.moveTrim s f q) := by
  unfold State.moveTrim
  repeat' first
    | with_reducible assumption | with_reducible refine State.when_kept ?_ ?_ | with_reducible apply State.wrInt_frame
    | with_reducible apply State.modF_frame | with_reducible apply State.inc_frame
    | with_reducible apply State.wr_frame | split | dsimp only | intro _

theorem State.tickTrim_frame {s : State} {f : Nat} (wFIELD_VNEED : W .FIELD_VNEED) (wFIELD_VOLT : W .FIELD_VOLT)
    (wFIELD_VOLT_AT_CEIL : W .FIELD_VOLT_AT_CEIL) (wFIELD_VSET_DOWNS : W .FIELD_VSET_DOWNS)
    (wFIELD_VSET_UPS : W .FIELD_VSET_UPS) (wFIELD_VTRIM : W .FIELD_VTRIM) (wRAIL_RETRIES : W .RAIL_RETRIES)
    (wRAIL_STATUS : W .RAIL_STATUS) (qfld : Q .fld) (qlink : Q .link) (qrail : Q .rail) (h : Fr W Q z s) :
    Fr W Q z (State.tickTrim s f) := by
  unfold State.tickTrim
  repeat' first
    | with_reducible assumption | with_reducible apply State.wr_frame | with_reducible apply State.moveTrim_frame
    | with_reducible apply State.predictVolt_frame | with_reducible apply State.requestVolt_frame | split | dsimp only

theorem State.tickPeaks_frame {s : State} {n : Nat} (wDS_MIN_READING : W .DS_MIN_READING)
    (wREGION_TIME_ERR_PEAK : W .REGION_TIME_ERR_PEAK) (wSLIP_PEAK : W .SLIP_PEAK) (qrgn : Q .rgn) (qest : Q .est)
    (h : Fr W Q z s) :
    Fr W Q z (State.tickPeaks s n) := by
  unfold State.tickPeaks
  repeat' first
    | with_reducible assumption | with_reducible apply State.wr_frame | with_reducible apply State.modR_frame
    | with_reducible apply State.modE_frame

theorem State.tickGroupPeak_frame {s : State} {g : Nat} (wGROUP_SLIP_PEAK : W .GROUP_SLIP_PEAK) (h : Fr W Q z s) :
    Fr W Q z (State.tickGroupPeak s g) := by
  unfold State.tickGroupPeak
  repeat' first
    | with_reducible assumption | with_reducible apply State.wr_frame

theorem State.tickStress_frame {s : State} {f : Nat} (wSTRESS_BINS : W .STRESS_BINS) (qfld : Q .fld)
    (h : Fr W Q z s) :
    Fr W Q z (State.tickStress s f) := by
  unfold State.tickStress
  repeat' first
    | with_reducible assumption | with_reducible refine State.when_kept ?_ ?_
    | with_reducible apply State.wrBytes_frame | with_reducible apply State.modF_frame | split | dsimp only | intro _

theorem State.addEnergy_frame {s : State} {x : Nat × Nat} (wENGINE_COMPUTE_ENERGY : W .ENGINE_COMPUTE_ENERGY)
    (wPART_ENERGY : W .PART_ENERGY) (wUNASSIGNED_ENERGY : W .UNASSIGNED_ENERGY) (qenergy : Q .energy)
    (h : Fr W Q z s) :
    Fr W Q z (State.addEnergy s x) := by
  unfold State.addEnergy
  repeat' first
    | with_reducible assumption | with_reducible apply State.addWrap_frame | split | dsimp only | intro _
    | with_reducible apply Fr.lit | with_reducible exact Or.inl (by assumption) | with_reducible exact Or.inr rfl

theorem State.takeSnapshot_frame {s : State} (wREPORT_SNAP_REQ : W .REPORT_SNAP_REQ) (wSNAP : W .SNAP)
    (wSNAP_PART_ENERGY : W .SNAP_PART_ENERGY) (wSNAP_TIME : W .SNAP_TIME) (qenergy : Q .energy) (h : Fr W Q z s) :
    Fr W Q z (State.takeSnapshot s) := by
  unfold State.takeSnapshot
  repeat' first
    | with_reducible assumption | with_reducible refine State.each_kept ?_ ?_ | with_reducible apply State.wr_frame
    | split | dsimp only | intro _ | with_reducible apply Fr.lit | with_reducible exact Or.inl (by assumption)
    | with_reducible exact Or.inr rfl

theorem State.showParts_frame {s : State} (wPART_REGIONS : W .PART_REGIONS) (h : Fr W Q z s) :
    Fr W Q z (State.showParts s) := by
  unfold State.showParts
  repeat' first
    | with_reducible assumption | with_reducible refine State.each_kept ?_ ?_ | with_reducible apply State.wr_frame
    | split | dsimp only | intro _

theorem State.tickEnergy_frame {s : State} (wENGINE_COMPUTE_ENERGY : W .ENGINE_COMPUTE_ENERGY)
    (wPART_ENERGY : W .PART_ENERGY) (wPART_REGIONS : W .PART_REGIONS) (wREPORT_SNAP_REQ : W .REPORT_SNAP_REQ)
    (wSNAP : W .SNAP) (wSNAP_PART_ENERGY : W .SNAP_PART_ENERGY) (wSNAP_TIME : W .SNAP_TIME)
    (wUNASSIGNED_ENERGY : W .UNASSIGNED_ENERGY) (qenergy : Q .energy) (h : Fr W Q z s) :
    Fr W Q z (State.tickEnergy s) := by
  unfold State.tickEnergy
  repeat' first
    | with_reducible assumption | with_reducible refine State.each_kept ?_ ?_
    | with_reducible refine State.when_kept ?_ ?_ | with_reducible apply State.addEnergy_frame
    | with_reducible apply State.takeSnapshot_frame | with_reducible apply State.showParts_frame | split | dsimp only
    | intro _ | with_reducible apply Fr.lit | with_reducible exact Or.inl (by assumption)
    | with_reducible exact Or.inr rfl

theorem State.newTick_frame {s : State} (qfld : Q .fld) (qgrp : Q .grp) (h : Fr W Q z s) :
    Fr W Q z (State.newTick s) := by
  unfold State.newTick
  repeat' first
    | with_reducible assumption | with_reducible refine State.each_kept ?_ ?_ | with_reducible apply State.modF_frame
    | with_reducible apply State.modG_frame | split | dsimp only | intro _

theorem State.openTick_frame {s : State} (qgrp : Q .grp) (qcaps : Q .caps) (h : Fr W Q z s) :
    Fr W Q z (State.openTick s) := by
  unfold State.openTick
  repeat' first
    | with_reducible assumption | with_reducible refine State.each_kept ?_ ?_ | with_reducible apply State.modG_frame
    | split | dsimp only | intro _ | with_reducible apply Fr.lit | with_reducible exact Or.inl (by assumption)
    | with_reducible exact Or.inr rfl

theorem State.scanSrams_frame {s : State} (wALERT_STATUS : W .ALERT_STATUS) (wEVENT_NEXT : W .EVENT_NEXT)
    (wEVENT_OVERWRITTEN : W .EVENT_OVERWRITTEN) (wEVENT_PAGE : W .EVENT_PAGE) (wEVENT_SEQ : W .EVENT_SEQ)
    (wINJ_ARM : W .INJ_ARM) (wINJ_COUNT : W .INJ_COUNT) (wINJ_RESULT : W .INJ_RESULT) (wSRAM_CE : W .SRAM_CE)
    (wSRAM_UE : W .SRAM_UE) (qflt : Q .flt) (qinj : Q .inj) (h : Fr W Q z s) :
    Fr W Q z (State.scanSrams s) := by
  unfold State.scanSrams
  repeat' first
    | with_reducible assumption | with_reducible apply State.readFlips_frame
    | with_reducible apply State.sramLost_frame | split | dsimp only | intro _

theorem State.slowTick_frame {s : State} (wALERT_STATUS : W .ALERT_STATUS) (wCAL_ERR_MEAN : W .CAL_ERR_MEAN)
    (wCAL_SATURATED_EVENTS : W .CAL_SATURATED_EVENTS) (wCAP_EXCESS : W .CAP_EXCESS) (wCAP_STATUS : W .CAP_STATUS)
    (wCAP_UNATT_EVENTS : W .CAP_UNATT_EVENTS) (wCOMPUTE_LIMIT : W .COMPUTE_LIMIT)
    (wCOMPUTE_LIMIT_REASON : W .COMPUTE_LIMIT_REASON) (wDS_MIN_READING : W .DS_MIN_READING)
    (wDS_STATUS : W .DS_STATUS) (wENGINE_COMPUTE_ENERGY : W .ENGINE_COMPUTE_ENERGY) (wENGINE_MEAS : W .ENGINE_MEAS)
    (wEST_STATUS : W .EST_STATUS) (wEST_WEIGHT : W .EST_WEIGHT) (wEST_WEIGHTS_AT_CLAMP : W .EST_WEIGHTS_AT_CLAMP)
    (wEST_WEIGHT_DEV : W .EST_WEIGHT_DEV) (wEVENT_NEXT : W .EVENT_NEXT) (wEVENT_OVERWRITTEN : W .EVENT_OVERWRITTEN)
    (wEVENT_PAGE : W .EVENT_PAGE) (wEVENT_SEQ : W .EVENT_SEQ) (wFAST_DUTY : W .FAST_DUTY)
    (wFIELD_EST_CORR : W .FIELD_EST_CORR) (wFIELD_HOLD_FRAC : W .FIELD_HOLD_FRAC) (wFIELD_LIMIT : W .FIELD_LIMIT)
    (wFIELD_LIMIT_REASON : W .FIELD_LIMIT_REASON) (wFIELD_TEMP_MAX : W .FIELD_TEMP_MAX)
    (wFIELD_THERM_LIMIT : W .FIELD_THERM_LIMIT) (wFIELD_VNEED : W .FIELD_VNEED) (wFIELD_VOLT : W .FIELD_VOLT)
    (wFIELD_VOLT_AT_CEIL : W .FIELD_VOLT_AT_CEIL) (wFIELD_VSET_DOWNS : W .FIELD_VSET_DOWNS)
    (wFIELD_VSET_UPS : W .FIELD_VSET_UPS) (wFIELD_VTRIM : W .FIELD_VTRIM) (wFLOOR_RATE : W .FLOOR_RATE)
    (wFLOOR_STATE : W .FLOOR_STATE) (wGROUP_CEIL_REASON : W .GROUP_CEIL_REASON)
    (wGROUP_CHG_ABORTS : W .GROUP_CHG_ABORTS) (wGROUP_CHG_RESULT : W .GROUP_CHG_RESULT)
    (wGROUP_CHG_STATE : W .GROUP_CHG_STATE) (wGROUP_LIMIT : W .GROUP_LIMIT) (wGROUP_LOSS : W .GROUP_LOSS)
    (wGROUP_SLIP_PEAK : W .GROUP_SLIP_PEAK) (wGROUP_TARGET_N : W .GROUP_TARGET_N) (wINJ_ARM : W .INJ_ARM)
    (wINJ_COUNT : W .INJ_COUNT) (wINJ_RESULT : W .INJ_RESULT) (wOP_CEIL_ENTRY : W .OP_CEIL_ENTRY)
    (wOP_DOWN_STEPS : W .OP_DOWN_STEPS) (wOP_POWER_ENTRY : W .OP_POWER_ENTRY) (wOP_UP_STEPS : W .OP_UP_STEPS)
    (wPART_ENERGY : W .PART_ENERGY) (wPART_REGIONS : W .PART_REGIONS) (wRAIL_LIMIT : W .RAIL_LIMIT)
    (wRAIL_RETRIES : W .RAIL_RETRIES) (wRAIL_STATUS : W .RAIL_STATUS)
    (wREGION_TIME_ERR_PEAK : W .REGION_TIME_ERR_PEAK) (wREPORT_SNAP_REQ : W .REPORT_SNAP_REQ)
    (wSLIP_PEAK : W .SLIP_PEAK) (wSNAP : W .SNAP) (wSNAP_PART_ENERGY : W .SNAP_PART_ENERGY)
    (wSNAP_TIME : W .SNAP_TIME) (wSRAM_CE : W .SRAM_CE) (wSRAM_UE : W .SRAM_UE) (wSTRESS_BINS : W .STRESS_BINS)
    (wUNASSIGNED_ENERGY : W .UNASSIGNED_ENERGY) (qheld : Q .held) (qflt : Q .flt) (qinj : Q .inj) (qrgn : Q .rgn)
    (qest : Q .est) (qlane : Q .lane) (qfld : Q .fld) (qgrp : Q .grp) (qdom : Q .dom) (qlink : Q .link)
    (qrail : Q .rail) (qcaps : Q .caps) (qfreeN : Q .freeN) (qenergy : Q .energy) (h : Fr W Q z s) :
    Fr W Q z (State.slowTick s) := by
  unfold State.slowTick
  repeat' first
    | with_reducible assumption | with_reducible refine State.each_kept ?_ ?_
    | with_reducible apply State.scanSrams_frame | with_reducible apply State.openTick_frame
    | with_reducible apply State.tickField_frame | with_reducible apply State.tickTherm_frame
    | with_reducible apply State.tripRelease_frame | with_reducible apply State.tickSafe_frame
    | with_reducible apply State.tickRails_frame | with_reducible apply State.recompute_frame
    | with_reducible apply State.clearRails_frame | with_reducible apply State.tickPow_frame
    | with_reducible apply State.retargetAll_frame | with_reducible apply State.tickFloor_frame
    | with_reducible apply State.tickNoGroup_frame | with_reducible apply State.tickHold_frame
    | with_reducible apply State.tickGuard_frame | with_reducible apply State.tickTrim_frame
    | with_reducible apply State.estimatorTick_frame | with_reducible apply State.tickPeaks_frame
    | with_reducible apply State.tickGroupPeak_frame | with_reducible apply State.tickStress_frame
    | with_reducible apply State.tickEnergy_frame | with_reducible apply State.newTick_frame | split | dsimp only
    | intro _

theorem execSlowLoopTick_frame {s : State} (wALERT_STATUS : W .ALERT_STATUS) (wCAL_ERR_MEAN : W .CAL_ERR_MEAN)
    (wCAL_SATURATED_EVENTS : W .CAL_SATURATED_EVENTS) (wCAP_EXCESS : W .CAP_EXCESS) (wCAP_STATUS : W .CAP_STATUS)
    (wCAP_UNATT_EVENTS : W .CAP_UNATT_EVENTS) (wCOMPUTE_LIMIT : W .COMPUTE_LIMIT)
    (wCOMPUTE_LIMIT_REASON : W .COMPUTE_LIMIT_REASON) (wDS_MIN_READING : W .DS_MIN_READING)
    (wDS_STATUS : W .DS_STATUS) (wENGINE_COMPUTE_ENERGY : W .ENGINE_COMPUTE_ENERGY) (wENGINE_MEAS : W .ENGINE_MEAS)
    (wEST_STATUS : W .EST_STATUS) (wEST_WEIGHT : W .EST_WEIGHT) (wEST_WEIGHTS_AT_CLAMP : W .EST_WEIGHTS_AT_CLAMP)
    (wEST_WEIGHT_DEV : W .EST_WEIGHT_DEV) (wEVENT_NEXT : W .EVENT_NEXT) (wEVENT_OVERWRITTEN : W .EVENT_OVERWRITTEN)
    (wEVENT_PAGE : W .EVENT_PAGE) (wEVENT_SEQ : W .EVENT_SEQ) (wFAST_DUTY : W .FAST_DUTY)
    (wFIELD_EST_CORR : W .FIELD_EST_CORR) (wFIELD_HOLD_FRAC : W .FIELD_HOLD_FRAC) (wFIELD_LIMIT : W .FIELD_LIMIT)
    (wFIELD_LIMIT_REASON : W .FIELD_LIMIT_REASON) (wFIELD_TEMP_MAX : W .FIELD_TEMP_MAX)
    (wFIELD_THERM_LIMIT : W .FIELD_THERM_LIMIT) (wFIELD_VNEED : W .FIELD_VNEED) (wFIELD_VOLT : W .FIELD_VOLT)
    (wFIELD_VOLT_AT_CEIL : W .FIELD_VOLT_AT_CEIL) (wFIELD_VSET_DOWNS : W .FIELD_VSET_DOWNS)
    (wFIELD_VSET_UPS : W .FIELD_VSET_UPS) (wFIELD_VTRIM : W .FIELD_VTRIM) (wFLOOR_RATE : W .FLOOR_RATE)
    (wFLOOR_STATE : W .FLOOR_STATE) (wGROUP_CEIL_REASON : W .GROUP_CEIL_REASON)
    (wGROUP_CHG_ABORTS : W .GROUP_CHG_ABORTS) (wGROUP_CHG_RESULT : W .GROUP_CHG_RESULT)
    (wGROUP_CHG_STATE : W .GROUP_CHG_STATE) (wGROUP_LIMIT : W .GROUP_LIMIT) (wGROUP_LOSS : W .GROUP_LOSS)
    (wGROUP_SLIP_PEAK : W .GROUP_SLIP_PEAK) (wGROUP_TARGET_N : W .GROUP_TARGET_N) (wINJ_ARM : W .INJ_ARM)
    (wINJ_COUNT : W .INJ_COUNT) (wINJ_RESULT : W .INJ_RESULT) (wOP_CEIL_ENTRY : W .OP_CEIL_ENTRY)
    (wOP_DOWN_STEPS : W .OP_DOWN_STEPS) (wOP_POWER_ENTRY : W .OP_POWER_ENTRY) (wOP_UP_STEPS : W .OP_UP_STEPS)
    (wPART_ENERGY : W .PART_ENERGY) (wPART_REGIONS : W .PART_REGIONS) (wRAIL_LIMIT : W .RAIL_LIMIT)
    (wRAIL_RETRIES : W .RAIL_RETRIES) (wRAIL_STATUS : W .RAIL_STATUS)
    (wREGION_TIME_ERR_PEAK : W .REGION_TIME_ERR_PEAK) (wREPORT_SNAP_REQ : W .REPORT_SNAP_REQ)
    (wSLIP_PEAK : W .SLIP_PEAK) (wSNAP : W .SNAP) (wSNAP_PART_ENERGY : W .SNAP_PART_ENERGY)
    (wSNAP_TIME : W .SNAP_TIME) (wSRAM_CE : W .SRAM_CE) (wSRAM_UE : W .SRAM_UE) (wSTRESS_BINS : W .STRESS_BINS)
    (wUNASSIGNED_ENERGY : W .UNASSIGNED_ENERGY) (qheld : Q .held) (qflt : Q .flt) (qinj : Q .inj) (qrgn : Q .rgn)
    (qest : Q .est) (qlane : Q .lane) (qfld : Q .fld) (qgrp : Q .grp) (qdom : Q .dom) (qlink : Q .link)
    (qrail : Q .rail) (qcaps : Q .caps) (qfreeN : Q .freeN) (qenergy : Q .energy) (h : Fr W Q z s) :
    ∀ t, execSlowLoopTick s = .next t → Fr W Q z t := by
  unfold execSlowLoopTick
  repeat' first
    | with_reducible refine next_kept ?_ | with_reducible assumption | with_reducible refine State.when_kept ?_ ?_
    | with_reducible apply State.slowTick_frame | split | dsimp only | intro _

/-! ### RefTime -/

theorem State.select_frame {s : State} {v : Nat} (wCLOCK_SOURCE : W .CLOCK_SOURCE) (wREF_STATUS : W .REF_STATUS)
    (h : Fr W Q z s) :
    Fr W Q z (State.select s v) := by
  unfold State.select
  repeat' first
    | with_reducible assumption | with_reducible apply State.wr_frame

theorem State.setQual_frame {s : State} {b : Bool} {q : Option Nat} (wREF_STATUS : W .REF_STATUS)
    (qrefs : Q .refs) (h : Fr W Q z s) :
    Fr W Q z (State.setQual s b q) := by
  unfold State.setQual
  repeat' first
    | with_reducible assumption | with_reducible apply State.setFlag_frame | split | dsimp only | intro _
    | with_reducible apply Fr.lit | with_reducible exact Or.inl (by assumption) | with_reducible exact Or.inr rfl

theorem State.setInjLoss_frame {s : State} {b : Bool} {q : Option Nat} (qrefs : Q .refs) (h : Fr W Q z s) :
    Fr W Q z (State.setInjLoss s b q) := by
  unfold State.setInjLoss
  repeat' first
    | with_reducible assumption | split | dsimp only | intro _ | with_reducible apply Fr.lit
    | with_reducible exact Or.inl (by assumption) | with_reducible exact Or.inr rfl

theorem State.changeSource_frame {s : State} {v : Nat} (wCLOCK_SOURCE : W .CLOCK_SOURCE)
    (wREF_STATUS : W .REF_STATUS) (qclock : Q .clock) (qfreeN : Q .freeN) (h : Fr W Q z s) :
    Fr W Q z (State.changeSource s v) := by
  unfold State.changeSource
  repeat' first
    | with_reducible assumption | with_reducible apply State.select_frame | with_reducible apply State.free_frame
    | split | dsimp only | intro _ | with_reducible apply Fr.lit | with_reducible exact Or.inl (by assumption)
    | with_reducible exact Or.inr rfl

theorem State.launchSwitch_frame {s : State} {gates : Nat} (wOSC_STATUS : W .OSC_STATUS) (qrefs : Q .refs)
    (qrgn : Q .rgn) (h : Fr W Q z s) :
    Fr W Q z (State.launchSwitch s gates) := by
  unfold State.launchSwitch
  repeat' first
    | with_reducible assumption | with_reducible refine State.each_kept ?_ ?_
    | with_reducible apply State.holdFll_frame | split | dsimp only | intro _ | with_reducible apply Fr.lit
    | with_reducible exact Or.inl (by assumption) | with_reducible exact Or.inr rfl

theorem State.switchTo_frame {s : State} {b : Bool} (wALERT_STATUS : W .ALERT_STATUS)
    (wCLOCK_SOURCE : W .CLOCK_SOURCE) (wEVENT_NEXT : W .EVENT_NEXT) (wEVENT_OVERWRITTEN : W .EVENT_OVERWRITTEN)
    (wEVENT_PAGE : W .EVENT_PAGE) (wEVENT_SEQ : W .EVENT_SEQ) (wOSC_STATUS : W .OSC_STATUS)
    (wREF_STATUS : W .REF_STATUS) (wREF_SWITCHES : W .REF_SWITCHES) (qclock : Q .clock) (qrefs : Q .refs)
    (qflt : Q .flt) (qrgn : Q .rgn) (qfreeN : Q .freeN) (h : Fr W Q z s) :
    Fr W Q z (State.switchTo s b) := by
  unfold State.switchTo
  repeat' first
    | with_reducible assumption | with_reducible apply State.changeSource_frame | with_reducible apply State.inc_frame
    | with_reducible apply State.event_frame | with_reducible apply State.launchSwitch_frame

theorem State.prefer_frame {s : State} (wALERT_STATUS : W .ALERT_STATUS) (wCLOCK_SOURCE : W .CLOCK_SOURCE)
    (wEVENT_NEXT : W .EVENT_NEXT) (wEVENT_OVERWRITTEN : W .EVENT_OVERWRITTEN) (wEVENT_PAGE : W .EVENT_PAGE)
    (wEVENT_SEQ : W .EVENT_SEQ) (wOSC_STATUS : W .OSC_STATUS) (wREF_STATUS : W .REF_STATUS)
    (wREF_SWITCHES : W .REF_SWITCHES) (qclock : Q .clock) (qrefs : Q .refs) (qflt : Q .flt) (qrgn : Q .rgn)
    (qfreeN : Q .freeN) (h : Fr W Q z s) :
    Fr W Q z (State.prefer s) := by
  unfold State.prefer
  repeat' first
    | with_reducible assumption | with_reducible refine State.when_kept ?_ ?_
    | with_reducible apply State.switchTo_frame | split | dsimp only | intro _

theorem State.holdCeiling_frame {s : State} {g : Nat} (wFIELD_VNEED : W .FIELD_VNEED)
    (wFIELD_VOLT : W .FIELD_VOLT) (wFIELD_VOLT_AT_CEIL : W .FIELD_VOLT_AT_CEIL)
    (wGROUP_CEIL_REASON : W .GROUP_CEIL_REASON) (wGROUP_CHG_ABORTS : W .GROUP_CHG_ABORTS)
    (wGROUP_CHG_RESULT : W .GROUP_CHG_RESULT) (wGROUP_CHG_STATE : W .GROUP_CHG_STATE)
    (wGROUP_TARGET_N : W .GROUP_TARGET_N) (wOP_CEIL_ENTRY : W .OP_CEIL_ENTRY) (wRAIL_RETRIES : W .RAIL_RETRIES)
    (wRAIL_STATUS : W .RAIL_STATUS) (qfld : Q .fld) (qgrp : Q .grp) (qlink : Q .link) (qrail : Q .rail)
    (h : Fr W Q z s) :
    Fr W Q z (State.holdCeiling s g) := by
  unfold State.holdCeiling
  repeat' first
    | with_reducible assumption | with_reducible apply State.modG_frame | with_reducible apply State.spoil_frame
    | with_reducible apply State.showCeiling_frame | with_reducible apply State.wr_frame
    | with_reducible apply State.retarget_frame | split | dsimp only

theorem State.leaveBus_frame {s : State} (wFB_TX_DROPPED : W .FB_TX_DROPPED) (qdict : Q .dict) (qfdp : Q .fdp)
    (h : Fr W Q z s) :
    Fr W Q z (State.leaveBus s) := by
  unfold State.leaveBus
  repeat' first
    | with_reducible assumption | with_reducible apply State.add_frame | split | dsimp only | intro _
    | with_reducible apply Fr.lit | with_reducible exact Or.inl (by assumption) | with_reducible exact Or.inr rfl

theorem State.joinBus_frame {s : State} (wUNIT_READY : W .UNIT_READY) (qfdp : Q .fdp) (h : Fr W Q z s) :
    Fr W Q z (State.joinBus s) := by
  unfold State.joinBus
  repeat' first
    | with_reducible assumption | with_reducible refine State.when_kept ?_ ?_
    | with_reducible apply State.setReady_frame | split | dsimp only | intro _ | with_reducible apply Fr.lit
    | with_reducible exact Or.inl (by assumption) | with_reducible exact Or.inr rfl

theorem State.enterHoldover_frame {s : State} (wALERT_STATUS : W .ALERT_STATUS)
    (wCLOCK_SOURCE : W .CLOCK_SOURCE) (wEVENT_NEXT : W .EVENT_NEXT) (wEVENT_OVERWRITTEN : W .EVENT_OVERWRITTEN)
    (wEVENT_PAGE : W .EVENT_PAGE) (wEVENT_SEQ : W .EVENT_SEQ) (wFB_ABANDONED : W .FB_ABANDONED)
    (wFB_TX_DROPPED : W .FB_TX_DROPPED) (wFIELD_VNEED : W .FIELD_VNEED) (wFIELD_VOLT : W .FIELD_VOLT)
    (wFIELD_VOLT_AT_CEIL : W .FIELD_VOLT_AT_CEIL) (wGROUP_CEIL_REASON : W .GROUP_CEIL_REASON)
    (wGROUP_CHG_ABORTS : W .GROUP_CHG_ABORTS) (wGROUP_CHG_RESULT : W .GROUP_CHG_RESULT)
    (wGROUP_CHG_STATE : W .GROUP_CHG_STATE) (wGROUP_TARGET_N : W .GROUP_TARGET_N)
    (wHOLDOVER_ENTRIES : W .HOLDOVER_ENTRIES) (wOP_CEIL_ENTRY : W .OP_CEIL_ENTRY) (wOSC_STATUS : W .OSC_STATUS)
    (wRAIL_RETRIES : W .RAIL_RETRIES) (wRAIL_STATUS : W .RAIL_STATUS) (wREF_STATUS : W .REF_STATUS)
    (wRUN_STATUS : W .RUN_STATUS) (wUNIT_READY : W .UNIT_READY) (qclock : Q .clock) (qrefs : Q .refs)
    (qflt : Q .flt) (qrgn : Q .rgn) (qfld : Q .fld) (qgrp : Q .grp) (qlink : Q .link) (qrail : Q .rail)
    (qdict : Q .dict) (qfreeN : Q .freeN) (qfdp : Q .fdp) (h : Fr W Q z s) :
    Fr W Q z (State.enterHoldover s) := by
  unfold State.enterHoldover
  repeat' first
    | with_reducible assumption | with_reducible refine State.each_kept ?_ ?_
    | with_reducible refine State.when_kept ?_ ?_ | with_reducible apply State.changeSource_frame
    | with_reducible apply State.launchSwitch_frame | with_reducible apply State.free_frame
    | with_reducible apply State.add_frame | with_reducible apply State.setReady_frame
    | with_reducible apply State.leaveBus_frame | with_reducible apply State.inc_frame
    | with_reducible apply State.event_frame | with_reducible apply State.holdCeiling_frame
    | with_reducible apply State.markRuns_frame | split | dsimp only | intro _ | with_reducible apply Fr.lit
    | with_reducible exact Or.inl (by assumption) | with_reducible exact Or.inr rfl

theorem State.loseRef_frame {s : State} {b : Bool} {freq : Bool} {inj : Bool} (wALERT_STATUS : W .ALERT_STATUS)
    (wCLOCK_SOURCE : W .CLOCK_SOURCE) (wEVENT_NEXT : W .EVENT_NEXT) (wEVENT_OVERWRITTEN : W .EVENT_OVERWRITTEN)
    (wEVENT_PAGE : W .EVENT_PAGE) (wEVENT_SEQ : W .EVENT_SEQ) (wFB_ABANDONED : W .FB_ABANDONED)
    (wFB_TX_DROPPED : W .FB_TX_DROPPED) (wFIELD_VNEED : W .FIELD_VNEED) (wFIELD_VOLT : W .FIELD_VOLT)
    (wFIELD_VOLT_AT_CEIL : W .FIELD_VOLT_AT_CEIL) (wGROUP_CEIL_REASON : W .GROUP_CEIL_REASON)
    (wGROUP_CHG_ABORTS : W .GROUP_CHG_ABORTS) (wGROUP_CHG_RESULT : W .GROUP_CHG_RESULT)
    (wGROUP_CHG_STATE : W .GROUP_CHG_STATE) (wGROUP_TARGET_N : W .GROUP_TARGET_N)
    (wHOLDOVER_ENTRIES : W .HOLDOVER_ENTRIES) (wOP_CEIL_ENTRY : W .OP_CEIL_ENTRY) (wOSC_STATUS : W .OSC_STATUS)
    (wRAIL_RETRIES : W .RAIL_RETRIES) (wRAIL_STATUS : W .RAIL_STATUS) (wREF_A_LOSSES : W .REF_A_LOSSES)
    (wREF_B_LOSSES : W .REF_B_LOSSES) (wREF_STATUS : W .REF_STATUS) (wREF_SWITCHES : W .REF_SWITCHES)
    (wRUN_STATUS : W .RUN_STATUS) (wUNIT_READY : W .UNIT_READY) (qclock : Q .clock) (qrefs : Q .refs)
    (qflt : Q .flt) (qrgn : Q .rgn) (qfld : Q .fld) (qgrp : Q .grp) (qlink : Q .link) (qrail : Q .rail)
    (qdict : Q .dict) (qfreeN : Q .freeN) (qfdp : Q .fdp) (h : Fr W Q z s) :
    Fr W Q z (State.loseRef s b freq inj) := by
  unfold State.loseRef
  repeat' first
    | with_reducible assumption | with_reducible refine State.when_kept ?_ ?_
    | with_reducible apply State.setQual_frame | with_reducible apply State.setFlag_frame
    | with_reducible apply State.setReady_frame | with_reducible apply State.inc_frame
    | with_reducible apply State.switchTo_frame | with_reducible apply State.enterHoldover_frame
    | with_reducible apply State.event_frame | split | dsimp only | intro _ | with_reducible apply Fr.lit
    | with_reducible exact Or.inl (by assumption) | with_reducible exact Or.inr rfl

theorem State.useRefInj_frame {s : State} {b : Bool} (wINJ_ARM : W .INJ_ARM) (wINJ_COUNT : W .INJ_COUNT)
    (wINJ_RESULT : W .INJ_RESULT) (qrefs : Q .refs) (qflt : Q .flt) (qinj : Q .inj) (h : Fr W Q z s) :
    Fr W Q z (State.useRefInj s b) := by
  unfold State.useRefInj
  repeat' first
    | with_reducible assumption | with_reducible apply State.setInjLoss_frame
    | with_reducible apply State.endInjection_frame | split

theorem execRefMissingEdge_frame {b : Bool} {s : State} (wALERT_STATUS : W .ALERT_STATUS)
    (wCLOCK_SOURCE : W .CLOCK_SOURCE) (wEVENT_NEXT : W .EVENT_NEXT) (wEVENT_OVERWRITTEN : W .EVENT_OVERWRITTEN)
    (wEVENT_PAGE : W .EVENT_PAGE) (wEVENT_SEQ : W .EVENT_SEQ) (wFB_ABANDONED : W .FB_ABANDONED)
    (wFB_TX_DROPPED : W .FB_TX_DROPPED) (wFIELD_VNEED : W .FIELD_VNEED) (wFIELD_VOLT : W .FIELD_VOLT)
    (wFIELD_VOLT_AT_CEIL : W .FIELD_VOLT_AT_CEIL) (wGROUP_CEIL_REASON : W .GROUP_CEIL_REASON)
    (wGROUP_CHG_ABORTS : W .GROUP_CHG_ABORTS) (wGROUP_CHG_RESULT : W .GROUP_CHG_RESULT)
    (wGROUP_CHG_STATE : W .GROUP_CHG_STATE) (wGROUP_TARGET_N : W .GROUP_TARGET_N)
    (wHOLDOVER_ENTRIES : W .HOLDOVER_ENTRIES) (wINJ_ARM : W .INJ_ARM) (wINJ_COUNT : W .INJ_COUNT)
    (wINJ_RESULT : W .INJ_RESULT) (wOP_CEIL_ENTRY : W .OP_CEIL_ENTRY) (wOSC_STATUS : W .OSC_STATUS)
    (wRAIL_RETRIES : W .RAIL_RETRIES) (wRAIL_STATUS : W .RAIL_STATUS) (wREF_A_ERR : W .REF_A_ERR)
    (wREF_A_LOSSES : W .REF_A_LOSSES) (wREF_B_ERR : W .REF_B_ERR) (wREF_B_LOSSES : W .REF_B_LOSSES)
    (wREF_STATUS : W .REF_STATUS) (wREF_SWITCHES : W .REF_SWITCHES) (wRUN_STATUS : W .RUN_STATUS)
    (wUNIT_READY : W .UNIT_READY) (qclock : Q .clock) (qrefs : Q .refs) (qflt : Q .flt) (qinj : Q .inj)
    (qrgn : Q .rgn) (qfld : Q .fld) (qgrp : Q .grp) (qlink : Q .link) (qrail : Q .rail) (qdict : Q .dict)
    (qfreeN : Q .freeN) (qfdp : Q .fdp) (h : Fr W Q z s) :
    ∀ t, execRefMissingEdge b s = .next t → Fr W Q z t := by
  unfold execRefMissingEdge
  repeat' first
    | with_reducible refine next_kept ?_ | with_reducible assumption
    | with_reducible exact refErr_in (by assumption) (by assumption) | with_reducible refine State.when_kept ?_ ?_
    | with_reducible apply State.wr_frame | with_reducible apply State.useRefInj_frame
    | with_reducible apply State.loseRef_frame | with_reducible apply State.setQual_frame | split | dsimp only
    | intro _

theorem State.showRefErr_frame {s : State} {b : Bool} {err : Int} {raw : Int} (wREF_A_ERR : W .REF_A_ERR)
    (wREF_B_ERR : W .REF_B_ERR) (h : Fr W Q z s) :
    Fr W Q z (State.showRefErr s b err raw) := by
  unfold State.showRefErr
  repeat' first
    | with_reducible assumption | with_reducible exact refErr_in (by assumption) (by assumption)
    | with_reducible apply State.wrSat_frame

theorem State.qualWindow_frame {s : State} {b : Bool} {fails : Bool} (wREF_STATUS : W .REF_STATUS)
    (qrefs : Q .refs) (h : Fr W Q z s) :
    Fr W Q z (State.qualWindow s b fails) := by
  unfold State.qualWindow
  repeat' first
    | with_reducible assumption | with_reducible apply State.setQual_frame | split | dsimp only

theorem execRefFreqWindow_frame {b : Bool} {err : Int} {raw : Int} {s : State} (wALERT_STATUS : W .ALERT_STATUS)
    (wCLOCK_SOURCE : W .CLOCK_SOURCE) (wEVENT_NEXT : W .EVENT_NEXT) (wEVENT_OVERWRITTEN : W .EVENT_OVERWRITTEN)
    (wEVENT_PAGE : W .EVENT_PAGE) (wEVENT_SEQ : W .EVENT_SEQ) (wFB_ABANDONED : W .FB_ABANDONED)
    (wFB_TX_DROPPED : W .FB_TX_DROPPED) (wFIELD_VNEED : W .FIELD_VNEED) (wFIELD_VOLT : W .FIELD_VOLT)
    (wFIELD_VOLT_AT_CEIL : W .FIELD_VOLT_AT_CEIL) (wGROUP_CEIL_REASON : W .GROUP_CEIL_REASON)
    (wGROUP_CHG_ABORTS : W .GROUP_CHG_ABORTS) (wGROUP_CHG_RESULT : W .GROUP_CHG_RESULT)
    (wGROUP_CHG_STATE : W .GROUP_CHG_STATE) (wGROUP_TARGET_N : W .GROUP_TARGET_N)
    (wHOLDOVER_ENTRIES : W .HOLDOVER_ENTRIES) (wOP_CEIL_ENTRY : W .OP_CEIL_ENTRY) (wOSC_STATUS : W .OSC_STATUS)
    (wRAIL_RETRIES : W .RAIL_RETRIES) (wRAIL_STATUS : W .RAIL_STATUS) (wREF_A_ERR : W .REF_A_ERR)
    (wREF_A_LOSSES : W .REF_A_LOSSES) (wREF_B_ERR : W .REF_B_ERR) (wREF_B_LOSSES : W .REF_B_LOSSES)
    (wREF_STATUS : W .REF_STATUS) (wREF_SWITCHES : W .REF_SWITCHES) (wRUN_STATUS : W .RUN_STATUS)
    (wUNIT_READY : W .UNIT_READY) (qclock : Q .clock) (qrefs : Q .refs) (qflt : Q .flt) (qrgn : Q .rgn)
    (qfld : Q .fld) (qgrp : Q .grp) (qlink : Q .link) (qrail : Q .rail) (qdict : Q .dict) (qfreeN : Q .freeN)
    (qfdp : Q .fdp) (h : Fr W Q z s) :
    ∀ t, execRefFreqWindow b err raw s = .next t → Fr W Q z t := by
  unfold execRefFreqWindow
  repeat' first
    | with_reducible refine next_kept ?_ | with_reducible assumption | with_reducible refine State.when_kept ?_ ?_
    | with_reducible apply State.showRefErr_frame | with_reducible apply State.qualWindow_frame
    | with_reducible apply State.loseRef_frame | split | dsimp only | intro _

theorem State.beginStop_frame {s : State} (qrefs : Q .refs) (h : Fr W Q z s) :
    Fr W Q z (State.beginStop s) := by
  unfold State.beginStop
  repeat' first
    | with_reducible assumption | split | dsimp only | intro _ | with_reducible apply Fr.lit
    | with_reducible exact Or.inl (by assumption) | with_reducible exact Or.inr rfl

theorem State.leaveHoldover_frame {s : State} {b : Bool} (wCLOCK_SOURCE : W .CLOCK_SOURCE)
    (wOSC_STATUS : W .OSC_STATUS) (wREF_STATUS : W .REF_STATUS) (qclock : Q .clock) (qrefs : Q .refs)
    (qrgn : Q .rgn) (qfreeN : Q .freeN) (h : Fr W Q z s) :
    Fr W Q z (State.leaveHoldover s b) := by
  unfold State.leaveHoldover
  repeat' first
    | with_reducible assumption | with_reducible apply State.changeSource_frame
    | with_reducible apply State.launchSwitch_frame | with_reducible apply State.beginStop_frame | split | dsimp only
    | intro _ | with_reducible apply Fr.lit | with_reducible exact Or.inl (by assumption)
    | with_reducible exact Or.inr rfl

theorem State.spanCheck_frame {s : State} (qrefs : Q .refs) (h : Fr W Q z s) :
    Fr W Q z (State.spanCheck s) := by
  unfold State.spanCheck
  repeat' first
    | with_reducible assumption | with_reducible refine State.when_kept ?_ ?_ | split | dsimp only | intro _
    | with_reducible apply Fr.lit | with_reducible exact Or.inl (by assumption) | with_reducible exact Or.inr rfl

theorem State.endHoldover_frame {s : State} (wALERT_STATUS : W .ALERT_STATUS) (wCLOCK_SOURCE : W .CLOCK_SOURCE)
    (wEVENT_NEXT : W .EVENT_NEXT) (wEVENT_OVERWRITTEN : W .EVENT_OVERWRITTEN) (wEVENT_PAGE : W .EVENT_PAGE)
    (wEVENT_SEQ : W .EVENT_SEQ) (wHOLDOVER_TIME : W .HOLDOVER_TIME) (wOSC_STATUS : W .OSC_STATUS)
    (wREF_STATUS : W .REF_STATUS) (wREF_SWITCHES : W .REF_SWITCHES) (wUNIT_READY : W .UNIT_READY)
    (qclock : Q .clock) (qrefs : Q .refs) (qflt : Q .flt) (qrgn : Q .rgn) (qfreeN : Q .freeN) (qfdp : Q .fdp)
    (h : Fr W Q z s) :
    Fr W Q z (State.endHoldover s) := by
  unfold State.endHoldover
  repeat' first
    | with_reducible assumption | with_reducible refine State.when_kept ?_ ?_
    | with_reducible apply State.setReady_frame | with_reducible apply State.joinBus_frame
    | with_reducible apply State.add_frame | with_reducible apply State.event_frame
    | with_reducible apply State.prefer_frame | with_reducible apply State.spanCheck_frame | split | dsimp only
    | intro _ | with_reducible apply Fr.lit | with_reducible exact Or.inl (by assumption)
    | with_reducible exact Or.inr rfl

theorem execHoldoverRelock_frame {s : State} (qrefs : Q .refs) (h : Fr W Q z s) :
    ∀ t, execHoldoverRelock s = .next t → Fr W Q z t := by
  unfold execHoldoverRelock
  repeat' first
    | with_reducible refine next_kept ?_ | with_reducible assumption | with_reducible refine State.when_kept ?_ ?_
    | with_reducible apply State.beginStop_frame | split | dsimp only | intro _ | with_reducible apply Fr.lit
    | with_reducible exact Or.inl (by assumption) | with_reducible exact Or.inr rfl

theorem State.shiftTimers_frame {s : State} {us : Nat} (qgrp : Q .grp) (qstop : Q .stop) (h : Fr W Q z s) :
    Fr W Q z (State.shiftTimers s us) := by
  unfold State.shiftTimers
  repeat' first
    | with_reducible assumption | with_reducible refine State.each_kept ?_ ?_ | with_reducible apply State.modG_frame
    | split | dsimp only | intro _ | with_reducible apply Fr.lit | with_reducible exact Or.inl (by assumption)
    | with_reducible exact Or.inr rfl

theorem State.stopEnded_frame {s : State} {us : Nat} (wALERT_STATUS : W .ALERT_STATUS)
    (wCLOCK_SOURCE : W .CLOCK_SOURCE) (wCOMPUTE_LIMIT : W .COMPUTE_LIMIT)
    (wCOMPUTE_LIMIT_REASON : W .COMPUTE_LIMIT_REASON) (wDOMAIN_STATE : W .DOMAIN_STATE)
    (wENGINE_DOMAIN_RAIL_ENERGY : W .ENGINE_DOMAIN_RAIL_ENERGY) (wENGINE_EST : W .ENGINE_EST)
    (wENGINE_EST_SUBST : W .ENGINE_EST_SUBST) (wENGINE_NONCOMPUTE_ENERGY : W .ENGINE_NONCOMPUTE_ENERGY)
    (wEPISODE : W .EPISODE) (wEPISODE_NEXT : W .EPISODE_NEXT) (wEPISODE_OPEN_REASON : W .EPISODE_OPEN_REASON)
    (wEPISODE_OVERWRITTEN : W .EPISODE_OVERWRITTEN) (wEPISODE_SEQ : W .EPISODE_SEQ)
    (wEPISODE_SHORT : W .EPISODE_SHORT) (wEVENT_NEXT : W .EVENT_NEXT) (wEVENT_OVERWRITTEN : W .EVENT_OVERWRITTEN)
    (wEVENT_PAGE : W .EVENT_PAGE) (wEVENT_SEQ : W .EVENT_SEQ) (wFIELD_EST : W .FIELD_EST)
    (wFIELD_EST_SUBST : W .FIELD_EST_SUBST) (wFIELD_LIMIT : W .FIELD_LIMIT)
    (wFIELD_LIMIT_REASON : W .FIELD_LIMIT_REASON) (wFIELD_VNEED : W .FIELD_VNEED) (wFIELD_VOLT : W .FIELD_VOLT)
    (wFIELD_VOLT_AT_CEIL : W .FIELD_VOLT_AT_CEIL) (wGROUP_CEIL_REASON : W .GROUP_CEIL_REASON)
    (wGROUP_CHG_ABORTS : W .GROUP_CHG_ABORTS) (wGROUP_CHG_RESULT : W .GROUP_CHG_RESULT)
    (wGROUP_CHG_STATE : W .GROUP_CHG_STATE) (wGROUP_EST : W .GROUP_EST) (wGROUP_EST_SUBST : W .GROUP_EST_SUBST)
    (wGROUP_LIMIT : W .GROUP_LIMIT) (wGROUP_TARGET_N : W .GROUP_TARGET_N) (wHOLDOVER_TIME : W .HOLDOVER_TIME)
    (wMB_COUNT : W .MB_COUNT) (wMB_DISCARDS : W .MB_DISCARDS) (wOP_CEIL_ENTRY : W .OP_CEIL_ENTRY)
    (wOSC_STATUS : W .OSC_STATUS) (wRAIL_DEGRADE_EVENTS : W .RAIL_DEGRADE_EVENTS)
    (wRAIL_FILLED_INTERVALS : W .RAIL_FILLED_INTERVALS) (wRAIL_RETRIES : W .RAIL_RETRIES)
    (wRAIL_STATE : W .RAIL_STATE) (wRAIL_STATUS : W .RAIL_STATUS) (wRAIL_TLM_MISSES : W .RAIL_TLM_MISSES)
    (wREF_STATUS : W .REF_STATUS) (wREF_SWITCHES : W .REF_SWITCHES) (wREGION_STOP_ABORTS : W .REGION_STOP_ABORTS)
    (wREGION_STOP_RESULT : W .REGION_STOP_RESULT) (wREGION_STOP_STATE : W .REGION_STOP_STATE)
    (wRUN_CYCLES : W .RUN_CYCLES) (wRUN_IDEAL : W .RUN_IDEAL) (wRUN_LOSS_PPM : W .RUN_LOSS_PPM)
    (wRUN_LOST : W .RUN_LOST) (wRUN_LOST_E : W .RUN_LOST_E) (wRUN_START_TIME : W .RUN_START_TIME)
    (wRUN_STATUS : W .RUN_STATUS) (wRUN_TIME : W .RUN_TIME) (wSY_POST_OVERFLOW : W .SY_POST_OVERFLOW)
    (wUNIT_READY : W .UNIT_READY) (qclock : Q .clock) (qrefs : Q .refs) (qflt : Q .flt) (qrgn : Q .rgn)
    (qcell : Q .cell) (qfld : Q .fld) (qgrp : Q .grp) (qdom : Q .dom) (qpdWakes : Q .pdWakes) (qpdCmds : Q .pdCmds)
    (qlink : Q .link) (qrail : Q .rail) (qstop : Q .stop) (qcaps : Q .caps) (qfreeN : Q .freeN) (qbox : Q .box)
    (qports : Q .ports) (qenergy : Q .energy) (qfdp : Q .fdp) (h : Fr W Q z s) :
    Fr W Q z (State.stopEnded s us) := by
  unfold State.stopEnded
  repeat' first
    | with_reducible assumption | with_reducible apply State.shiftTimers_frame
    | with_reducible apply State.takeWindows_frame | with_reducible apply State.sendDueMarks_frame
    | with_reducible apply State.endHoldover_frame | with_reducible apply State.leaveHoldover_frame | split
    | dsimp only | intro _ | with_reducible apply Fr.lit | with_reducible exact Or.inl (by assumption)
    | with_reducible exact Or.inr rfl

theorem execRefQualified_frame {b : Bool} {s : State} (wALERT_STATUS : W .ALERT_STATUS)
    (wCLOCK_SOURCE : W .CLOCK_SOURCE) (wEVENT_NEXT : W .EVENT_NEXT) (wEVENT_OVERWRITTEN : W .EVENT_OVERWRITTEN)
    (wEVENT_PAGE : W .EVENT_PAGE) (wEVENT_SEQ : W .EVENT_SEQ) (wOSC_STATUS : W .OSC_STATUS)
    (wREF_STATUS : W .REF_STATUS) (wREF_SWITCHES : W .REF_SWITCHES) (wUNIT_READY : W .UNIT_READY)
    (qclock : Q .clock) (qrefs : Q .refs) (qflt : Q .flt) (qrgn : Q .rgn) (qfreeN : Q .freeN) (h : Fr W Q z s) :
    ∀ t, execRefQualified b s = .next t → Fr W Q z t := by
  unfold execRefQualified
  repeat' first
    | with_reducible refine next_kept ?_ | with_reducible assumption | with_reducible refine State.when_kept ?_ ?_
    | with_reducible apply State.setQual_frame | with_reducible apply State.setFlag_frame
    | with_reducible apply State.setReady_frame | with_reducible apply State.setInjLoss_frame
    | with_reducible apply State.leaveHoldover_frame | with_reducible apply State.spanCheck_frame
    | with_reducible apply State.prefer_frame | split | dsimp only | intro _ | with_reducible apply Fr.lit
    | with_reducible exact Or.inl (by assumption) | with_reducible exact Or.inr rfl

theorem execHoldoverCeilingRemove_frame {g : Nat} {s : State} (wFIELD_VNEED : W .FIELD_VNEED)
    (wFIELD_VOLT : W .FIELD_VOLT) (wFIELD_VOLT_AT_CEIL : W .FIELD_VOLT_AT_CEIL)
    (wGROUP_CEIL_REASON : W .GROUP_CEIL_REASON) (wGROUP_CHG_ABORTS : W .GROUP_CHG_ABORTS)
    (wGROUP_CHG_RESULT : W .GROUP_CHG_RESULT) (wGROUP_CHG_STATE : W .GROUP_CHG_STATE)
    (wGROUP_TARGET_N : W .GROUP_TARGET_N) (wOP_CEIL_ENTRY : W .OP_CEIL_ENTRY) (wRAIL_RETRIES : W .RAIL_RETRIES)
    (wRAIL_STATUS : W .RAIL_STATUS) (qfld : Q .fld) (qgrp : Q .grp) (qlink : Q .link) (qrail : Q .rail)
    (h : Fr W Q z s) :
    ∀ t, execHoldoverCeilingRemove g s = .next t → Fr W Q z t := by
  unfold execHoldoverCeilingRemove
  repeat' first
    | with_reducible refine next_kept ?_ | with_reducible assumption | with_reducible refine State.when_kept ?_ ?_
    | with_reducible apply State.modG_frame | with_reducible apply State.retarget_frame | split | dsimp only | intro _

theorem execIntoscMeasure_frame {err : Int} {s : State} (wINTOSC_ERR : W .INTOSC_ERR) (h : Fr W Q z s) :
    ∀ t, execIntoscMeasure err s = .next t → Fr W Q z t := by
  unfold execIntoscMeasure
  repeat' first
    | with_reducible refine next_kept ?_ | with_reducible assumption | with_reducible refine State.when_kept ?_ ?_
    | with_reducible apply State.wrSat_frame | split | dsimp only | intro _

theorem State.crossMark_frame {s : State} (qclock : Q .clock) (h : Fr W Q z s) :
    Fr W Q z (State.crossMark s) := by
  unfold State.crossMark
  repeat' first
    | with_reducible assumption | split | dsimp only | intro _ | with_reducible apply Fr.lit
    | with_reducible exact Or.inl (by assumption) | with_reducible exact Or.inr rfl

theorem State.slewMark_frame {s : State} {slew : Int} {k : Nat} (wTIME_OFFSET_ADJ : W .TIME_OFFSET_ADJ)
    (qclock : Q .clock) (h : Fr W Q z s) :
    Fr W Q z (State.slewMark s slew k) := by
  unfold State.slewMark
  repeat' first
    | with_reducible assumption | with_reducible apply State.wrInt_frame | split | dsimp only | intro _
    | with_reducible apply Fr.lit | with_reducible exact Or.inl (by assumption) | with_reducible exact Or.inr rfl

theorem State.moveMarks_frame {s : State} {d : Int} {g : Nat} (qgrp : Q .grp) (h : Fr W Q z s) :
    Fr W Q z (State.moveMarks s d g) := by
  unfold State.moveMarks
  repeat' first
    | with_reducible assumption | with_reducible apply State.modG_frame

theorem State.moveSigns_frame {s : State} {n : Nat} (qest : Q .est) (h : Fr W Q z s) :
    Fr W Q z (State.moveSigns s n) := by
  unfold State.moveSigns
  repeat' first
    | with_reducible assumption | with_reducible apply State.modE_frame

theorem State.stepSpans_frame {s : State} {old : Nat} (wRUN_STATUS : W .RUN_STATUS) (qheld : Q .held)
    (qest : Q .est) (qfld : Q .fld) (qdom : Q .dom) (qenergy : Q .energy) (h : Fr W Q z s) :
    Fr W Q z (State.stepSpans s old) := by
  unfold State.stepSpans
  repeat' first
    | with_reducible assumption | with_reducible refine State.each_kept ?_ ?_
    | with_reducible apply State.newSpans_frame | with_reducible apply State.moveSigns_frame
    | with_reducible apply State.modD_frame | with_reducible apply State.modF_frame
    | with_reducible apply State.markRuns_frame | split | dsimp only | intro _ | with_reducible apply Fr.lit
    | with_reducible exact Or.inl (by assumption) | with_reducible exact Or.inr rfl

theorem State.applySet_frame {s : State} (wDS_STATUS : W .DS_STATUS) (wOSC_STATUS : W .OSC_STATUS)
    (wRUN_STATUS : W .RUN_STATUS) (wSLIP : W .SLIP) (wTETHER_STATUS : W .TETHER_STATUS)
    (wTIME_OFFSET_ADJ : W .TIME_OFFSET_ADJ) (qheld : Q .held) (qclock : Q .clock) (qflt : Q .flt) (qrgn : Q .rgn)
    (qest : Q .est) (qcell : Q .cell) (qfld : Q .fld) (qgrp : Q .grp) (qdom : Q .dom) (qcaps : Q .caps)
    (qenergy : Q .energy) (h : Fr W Q z s) :
    Fr W Q z (State.applySet s) := by
  unfold State.applySet
  split
  · apply Fr.lit h <;> first | exact Or.inl (by assumption) | exact Or.inr rfl
  · apply State.tripParksDue_frame <;> try assumption
    refine State.each_kept (State.wr_frame wTIME_OFFSET_ADJ ?_) fun _ _ hu => ?_
    · apply State.stepSpans_frame <;> try assumption
      apply Fr.lit h <;> first | exact Or.inl (by assumption) | exact Or.inr rfl
    · apply State.moveMarks_frame <;> try assumption
      apply State.unobserve_frame <;> assumption

theorem State.capture_frame {s : State} {n : Nat} {seq : Nat} {T : Nat} (qrgn : Q .rgn) (h : Fr W Q z s) :
    Fr W Q z (State.capture s n seq T) := by
  unfold State.capture
  repeat' first
    | with_reducible assumption | with_reducible apply State.modR_frame

theorem State.launchMark_frame {s : State} (wDS_STATUS : W .DS_STATUS) (wOSC_STATUS : W .OSC_STATUS)
    (wRUN_STATUS : W .RUN_STATUS) (wSLIP : W .SLIP) (wTETHER_STATUS : W .TETHER_STATUS)
    (wTIME_OFFSET_ADJ : W .TIME_OFFSET_ADJ) (qheld : Q .held) (qclock : Q .clock) (qflt : Q .flt) (qrgn : Q .rgn)
    (qest : Q .est) (qcell : Q .cell) (qfld : Q .fld) (qgrp : Q .grp) (qdom : Q .dom) (qcaps : Q .caps)
    (qenergy : Q .energy) (h : Fr W Q z s) :
    Fr W Q z (State.launchMark s) := by
  unfold State.launchMark
  repeat' first
    | with_reducible assumption | with_reducible refine State.each_kept ?_ ?_
    | with_reducible apply State.applySet_frame | with_reducible apply State.inc_frame
    | with_reducible apply State.capture_frame | split | dsimp only | intro _ | with_reducible apply Fr.lit
    | with_reducible exact Or.inl (by assumption) | with_reducible exact Or.inr rfl

theorem State.holdTrim_frame {s : State} {g : Nat} (qgrp : Q .grp) (h : Fr W Q z s) :
    Fr W Q z (State.holdTrim s g) := by
  unfold State.holdTrim
  repeat' first
    | with_reducible assumption | with_reducible refine State.when_kept ?_ ?_ | with_reducible apply State.modG_frame
    | split | dsimp only | intro _

theorem execTimeMark_frame {s : State} (wALERT_STATUS : W .ALERT_STATUS) (wCOMPUTE_LIMIT : W .COMPUTE_LIMIT)
    (wCOMPUTE_LIMIT_REASON : W .COMPUTE_LIMIT_REASON) (wDOMAIN_STATE : W .DOMAIN_STATE) (wDS_STATUS : W .DS_STATUS)
    (wEVENT_NEXT : W .EVENT_NEXT) (wEVENT_OVERWRITTEN : W .EVENT_OVERWRITTEN) (wEVENT_PAGE : W .EVENT_PAGE)
    (wEVENT_SEQ : W .EVENT_SEQ) (wFAST_DUTY : W .FAST_DUTY) (wFIELD_LIMIT : W .FIELD_LIMIT)
    (wFIELD_LIMIT_REASON : W .FIELD_LIMIT_REASON) (wFIELD_VNEED : W .FIELD_VNEED) (wFIELD_VOLT : W .FIELD_VOLT)
    (wFIELD_VOLT_AT_CEIL : W .FIELD_VOLT_AT_CEIL) (wGROUP_CEIL_REASON : W .GROUP_CEIL_REASON)
    (wGROUP_CHG_ABORTS : W .GROUP_CHG_ABORTS) (wGROUP_CHG_RESULT : W .GROUP_CHG_RESULT)
    (wGROUP_CHG_STATE : W .GROUP_CHG_STATE) (wGROUP_LIMIT : W .GROUP_LIMIT) (wGROUP_TARGET_N : W .GROUP_TARGET_N)
    (wLINK_STATE : W .LINK_STATE) (wMB_COUNT : W .MB_COUNT) (wMB_DISCARDS : W .MB_DISCARDS)
    (wOP_CEIL_ENTRY : W .OP_CEIL_ENTRY) (wOSC_STATUS : W .OSC_STATUS)
    (wRAIL_DEGRADE_EVENTS : W .RAIL_DEGRADE_EVENTS) (wRAIL_LIMIT : W .RAIL_LIMIT) (wRAIL_RETRIES : W .RAIL_RETRIES)
    (wRAIL_STATE : W .RAIL_STATE) (wRAIL_STATUS : W .RAIL_STATUS) (wREGION_STOP_ABORTS : W .REGION_STOP_ABORTS)
    (wREGION_STOP_RESULT : W .REGION_STOP_RESULT) (wREGION_STOP_STATE : W .REGION_STOP_STATE)
    (wRUN_STATUS : W .RUN_STATUS) (wSLIP : W .SLIP) (wSY_POST_OVERFLOW : W .SY_POST_OVERFLOW)
    (wTETHER_STATUS : W .TETHER_STATUS) (wTIME_OFFSET_ADJ : W .TIME_OFFSET_ADJ) (wUNIT_READY : W .UNIT_READY)
    (qheld : Q .held) (qclock : Q .clock) (qflt : Q .flt) (qrgn : Q .rgn) (qest : Q .est) (qcell : Q .cell)
    (qfld : Q .fld) (qgrp : Q .grp) (qdom : Q .dom) (qpdWakes : Q .pdWakes) (qpdCmds : Q .pdCmds) (qlink : Q .link)
    (qrail : Q .rail) (qstop : Q .stop) (qcaps : Q .caps) (qbox : Q .box) (qports : Q .ports) (qenergy : Q .energy)
    (h : Fr W Q z s) :
    ∀ t, execTimeMark s = .next t → Fr W Q z t := by
  unfold execTimeMark
  repeat' first
    | with_reducible refine next_kept ?_ | with_reducible assumption | with_reducible refine State.each_kept ?_ ?_
    | with_reducible refine State.when_kept ?_ ?_ | with_reducible apply State.crossMark_frame
    | with_reducible apply State.slewMark_frame | with_reducible apply State.launchMark_frame
    | with_reducible apply State.floorStart_frame | with_reducible apply State.holdTrim_frame
    | with_reducible apply State.closeEnumeration_frame | split | dsimp only | intro _

theorem State.stepWindow_frame {s : State} {n : Nat} {new : Nat} (wALERT_STATUS : W .ALERT_STATUS)
    (wEST_DYN : W .EST_DYN) (wEST_LEAK : W .EST_LEAK) (wEST_OVERFLOWS : W .EST_OVERFLOWS)
    (wEST_POWER : W .EST_POWER) (wEST_STATUS : W .EST_STATUS) (wEST_SWEEP_M : W .EST_SWEEP_M)
    (wEVENT_NEXT : W .EVENT_NEXT) (wEVENT_OVERWRITTEN : W .EVENT_OVERWRITTEN) (wEVENT_PAGE : W .EVENT_PAGE)
    (wEVENT_SEQ : W .EVENT_SEQ) (wINJ_ARM : W .INJ_ARM) (wINJ_COUNT : W .INJ_COUNT) (wINJ_RESULT : W .INJ_RESULT)
    (wSRAM_CE : W .SRAM_CE) (wSRAM_UE : W .SRAM_UE) (qflt : Q .flt) (qinj : Q .inj) (qrgn : Q .rgn) (qest : Q .est)
    (qfld : Q .fld) (h : Fr W Q z s) :
    Fr W Q z (State.stepWindow s n new) := by
  unfold State.stepWindow
  repeat' first
    | with_reducible assumption | with_reducible refine State.when_kept ?_ ?_
    | with_reducible apply State.closeWindow_frame | with_reducible apply State.modE_frame
    | with_reducible apply State.modF_frame | split | dsimp only | intro _

theorem State.firstTime_frame {s : State} {n : Nat} (qrgn : Q .rgn) (qest : Q .est) (h : Fr W Q z s) :
    Fr W Q z (State.firstTime s n) := by
  unfold State.firstTime
  repeat' first
    | with_reducible assumption | with_reducible apply State.modR_frame | with_reducible apply State.modE_frame

theorem State.shiftTime_frame {s : State} {n : Nat} {e : Int} {step : Bool} (wREGION_TIME : W .REGION_TIME)
    (qrgn : Q .rgn) (h : Fr W Q z s) :
    Fr W Q z (State.shiftTime s n e step) := by
  unfold State.shiftTime
  repeat' first
    | with_reducible assumption | with_reducible refine State.when_kept ?_ ?_ | with_reducible apply State.wr_frame
    | with_reducible apply State.modR_frame | split | dsimp only | intro _

theorem State.correct_frame {s : State} {n : Nat} {e : Int} {step : Bool} (wALERT_STATUS : W .ALERT_STATUS)
    (wEST_DYN : W .EST_DYN) (wEST_LEAK : W .EST_LEAK) (wEST_OVERFLOWS : W .EST_OVERFLOWS)
    (wEST_POWER : W .EST_POWER) (wEST_STATUS : W .EST_STATUS) (wEST_SWEEP_M : W .EST_SWEEP_M)
    (wEVENT_NEXT : W .EVENT_NEXT) (wEVENT_OVERWRITTEN : W .EVENT_OVERWRITTEN) (wEVENT_PAGE : W .EVENT_PAGE)
    (wEVENT_SEQ : W .EVENT_SEQ) (wINJ_ARM : W .INJ_ARM) (wINJ_COUNT : W .INJ_COUNT) (wINJ_RESULT : W .INJ_RESULT)
    (wREGION_TIME : W .REGION_TIME) (wREGION_TIME_ERR : W .REGION_TIME_ERR) (wSRAM_CE : W .SRAM_CE)
    (wSRAM_UE : W .SRAM_UE) (qflt : Q .flt) (qinj : Q .inj) (qrgn : Q .rgn) (qest : Q .est) (qfld : Q .fld)
    (h : Fr W Q z s) :
    Fr W Q z (State.correct s n e step) := by
  unfold State.correct
  repeat' first
    | with_reducible assumption | with_reducible refine State.when_kept ?_ ?_ | with_reducible apply State.wrSat_frame
    | with_reducible apply State.modR_frame | with_reducible apply State.shiftTime_frame
    | with_reducible apply State.firstTime_frame | with_reducible apply State.stepWindow_frame | split | dsimp only
    | intro _

theorem execTimeCorrection_frame {x : CorrIn} {s : State} (wALERT_STATUS : W .ALERT_STATUS)
    (wEST_DYN : W .EST_DYN) (wEST_LEAK : W .EST_LEAK) (wEST_OVERFLOWS : W .EST_OVERFLOWS)
    (wEST_POWER : W .EST_POWER) (wEST_STATUS : W .EST_STATUS) (wEST_SWEEP_M : W .EST_SWEEP_M)
    (wEVENT_NEXT : W .EVENT_NEXT) (wEVENT_OVERWRITTEN : W .EVENT_OVERWRITTEN) (wEVENT_PAGE : W .EVENT_PAGE)
    (wEVENT_SEQ : W .EVENT_SEQ) (wINJ_ARM : W .INJ_ARM) (wINJ_COUNT : W .INJ_COUNT) (wINJ_RESULT : W .INJ_RESULT)
    (wREGION_TIME : W .REGION_TIME) (wREGION_TIME_ERR : W .REGION_TIME_ERR) (wSRAM_CE : W .SRAM_CE)
    (wSRAM_UE : W .SRAM_UE) (qflt : Q .flt) (qinj : Q .inj) (qrgn : Q .rgn) (qest : Q .est) (qfld : Q .fld)
    (h : Fr W Q z s) :
    ∀ t, execTimeCorrection x s = .next t → Fr W Q z t := by
  unfold execTimeCorrection
  repeat' first
    | with_reducible refine next_kept ?_ | with_reducible assumption | with_reducible apply State.modR_frame
    | with_reducible apply State.inc_frame | with_reducible apply State.correct_frame | split

theorem execPpsCapture_frame {dt : Nat} {s : State} (wPPS_COUNT : W .PPS_COUNT) (wPPS_TIME : W .PPS_TIME)
    (h : Fr W Q z s) :
    ∀ t, execPpsCapture dt s = .next t → Fr W Q z t := by
  unfold execPpsCapture
  repeat' first
    | with_reducible refine next_kept ?_ | with_reducible assumption | with_reducible apply State.wr_frame
    | with_reducible apply State.addWrap_frame

theorem execTsCapture_frame {dt : Nat} {s : State} (wTS_CAPTURE_COUNT : W .TS_CAPTURE_COUNT)
    (wTS_TIME : W .TS_TIME) (h : Fr W Q z s) :
    ∀ t, execTsCapture dt s = .next t → Fr W Q z t := by
  unfold execTsCapture
  repeat' first
    | with_reducible refine next_kept ?_ | with_reducible assumption | with_reducible apply State.wr_frame
    | with_reducible apply State.addWrap_frame

theorem State.acceptTimeSet_frame {s : State} {v : Nat} (wTIME_SET : W .TIME_SET) (wTIME_SETS : W .TIME_SETS)
    (qclock : Q .clock) (h : Fr W Q z s) :
    Fr W Q z (State.acceptTimeSet s v) := by
  unfold State.acceptTimeSet
  repeat' first
    | with_reducible assumption | with_reducible apply State.wr_frame | with_reducible apply State.inc_frame | split
    | dsimp only | intro _ | with_reducible apply Fr.lit | with_reducible exact Or.inl (by assumption)
    | with_reducible exact Or.inr rfl

end Sys2Proof.Machine
end

