-- ==== Sys2Proof/Laws/FrameC.lean ====
section
/-! SUPPORT. Praline, the dictionary, the budget and Fondant: the objects and parts each operation may change. -/

set_option Elab.async false

namespace Sys2Proof.Machine
open Sys2Proof

variable {W : Obj → Prop} {Q : Part → Prop} {z : State}

/-! ### Praline -/

theorem State.setPe_frame {s : State} {t : Nat} {f : Nat} {x : PEntry} (qphase : Q .phase) (h : Fr W Q z s) :
    Fr W Q z (State.setPe s t f x) := by
  unfold State.setPe
  repeat' first
    | with_reducible assumption | split | dsimp only | intro _ | with_reducible apply Fr.lit
    | with_reducible exact Or.inl (by assumption) | with_reducible exact Or.inr rfl

theorem State.setGe_frame {s : State} {g : Nat} {t : Nat} {x : GEntry} (wPR_GROUP_TABLE : W .PR_GROUP_TABLE)
    (h : Fr W Q z s) :
    Fr W Q z (State.setGe s g t x) := by
  unfold State.setGe
  repeat' first
    | with_reducible assumption | with_reducible apply State.wrBytes_frame

theorem State.clearGconf_frame {s : State} {g : Nat} (wPR_GROUP_TABLE : W .PR_GROUP_TABLE) (h : Fr W Q z s) :
    Fr W Q z (State.clearGconf s g) := by
  unfold State.clearGconf
  repeat' first
    | with_reducible assumption | with_reducible apply State.wr_frame

theorem State.loseTag_frame {s : State} {w : Nat} (wPR_GROUP_TABLE : W .PR_GROUP_TABLE) (qphase : Q .phase)
    (h : Fr W Q z s) :
    Fr W Q z (State.loseTag s w) := by
  unfold State.loseTag
  repeat' first
    | with_reducible assumption | with_reducible apply State.setPe_frame | with_reducible apply State.setGe_frame
    | split

theorem State.readWords_frame {s : State} {p : Flip → Bool} (wALERT_STATUS : W .ALERT_STATUS)
    (wEVENT_NEXT : W .EVENT_NEXT) (wEVENT_OVERWRITTEN : W .EVENT_OVERWRITTEN) (wEVENT_PAGE : W .EVENT_PAGE)
    (wEVENT_SEQ : W .EVENT_SEQ) (wINJ_ARM : W .INJ_ARM) (wINJ_COUNT : W .INJ_COUNT) (wINJ_RESULT : W .INJ_RESULT)
    (wPR_GROUP_TABLE : W .PR_GROUP_TABLE) (wSRAM_CE : W .SRAM_CE) (wSRAM_UE : W .SRAM_UE) (qflt : Q .flt)
    (qinj : Q .inj) (qphase : Q .phase) (h : Fr W Q z s) :
    Fr W Q z (State.readWords s p) := by
  unfold State.readWords
  repeat' first
    | with_reducible assumption | with_reducible apply State.readFlips_frame
    | with_reducible apply State.loseTag_frame | with_reducible apply State.sramLost_frame | split | dsimp only
    | intro _

theorem State.readGroupWord_frame {s : State} {g : Nat} {t : Nat} (wALERT_STATUS : W .ALERT_STATUS)
    (wEVENT_NEXT : W .EVENT_NEXT) (wEVENT_OVERWRITTEN : W .EVENT_OVERWRITTEN) (wEVENT_PAGE : W .EVENT_PAGE)
    (wEVENT_SEQ : W .EVENT_SEQ) (wINJ_ARM : W .INJ_ARM) (wINJ_COUNT : W .INJ_COUNT) (wINJ_RESULT : W .INJ_RESULT)
    (wPR_GROUP_TABLE : W .PR_GROUP_TABLE) (wSRAM_CE : W .SRAM_CE) (wSRAM_UE : W .SRAM_UE) (qflt : Q .flt)
    (qinj : Q .inj) (qphase : Q .phase) (h : Fr W Q z s) :
    Fr W Q z (State.readGroupWord s g t) := by
  unfold State.readGroupWord
  repeat' first
    | with_reducible assumption | with_reducible apply State.readWords_frame

theorem State.readFieldWords_frame {s : State} {g : Nat} {t : Nat} (wALERT_STATUS : W .ALERT_STATUS)
    (wEVENT_NEXT : W .EVENT_NEXT) (wEVENT_OVERWRITTEN : W .EVENT_OVERWRITTEN) (wEVENT_PAGE : W .EVENT_PAGE)
    (wEVENT_SEQ : W .EVENT_SEQ) (wINJ_ARM : W .INJ_ARM) (wINJ_COUNT : W .INJ_COUNT) (wINJ_RESULT : W .INJ_RESULT)
    (wPR_GROUP_TABLE : W .PR_GROUP_TABLE) (wSRAM_CE : W .SRAM_CE) (wSRAM_UE : W .SRAM_UE) (qflt : Q .flt)
    (qinj : Q .inj) (qphase : Q .phase) (h : Fr W Q z s) :
    Fr W Q z (State.readFieldWords s g t) := by
  unfold State.readFieldWords
  repeat' first
    | with_reducible assumption | with_reducible apply State.readWords_frame

theorem State.readTag_frame {s : State} {g : Nat} {t : Nat} (wALERT_STATUS : W .ALERT_STATUS)
    (wEVENT_NEXT : W .EVENT_NEXT) (wEVENT_OVERWRITTEN : W .EVENT_OVERWRITTEN) (wEVENT_PAGE : W .EVENT_PAGE)
    (wEVENT_SEQ : W .EVENT_SEQ) (wINJ_ARM : W .INJ_ARM) (wINJ_COUNT : W .INJ_COUNT) (wINJ_RESULT : W .INJ_RESULT)
    (wPR_GROUP_TABLE : W .PR_GROUP_TABLE) (wSRAM_CE : W .SRAM_CE) (wSRAM_UE : W .SRAM_UE) (qflt : Q .flt)
    (qinj : Q .inj) (qphase : Q .phase) (h : Fr W Q z s) :
    Fr W Q z (State.readTag s g t) := by
  unfold State.readTag
  repeat' first
    | with_reducible assumption | with_reducible apply State.readGroupWord_frame
    | with_reducible apply State.readFieldWords_frame

theorem State.stepLfsr_frame {s : State} {g : Nat} (wPR_LFSR : W .PR_LFSR) (h : Fr W Q z s) :
    Fr W Q z (State.stepLfsr s g) := by
  unfold State.stepLfsr
  repeat' first
    | with_reducible assumption | with_reducible apply State.wr_frame

theorem State.loadLfsr_frame {s : State} {g : Nat} (wPR_LFSR : W .PR_LFSR) (h : Fr W Q z s) :
    Fr W Q z (State.loadLfsr s g) := by
  unfold State.loadLfsr
  repeat' first
    | with_reducible assumption | with_reducible apply State.wr_frame

theorem State.submit_frame {s : State} {g : Nat} {c : Option Nat} (wFIELD_VNEED : W .FIELD_VNEED)
    (wFIELD_VOLT : W .FIELD_VOLT) (wFIELD_VOLT_AT_CEIL : W .FIELD_VOLT_AT_CEIL)
    (wGROUP_CEIL_REASON : W .GROUP_CEIL_REASON) (wGROUP_CHG_ABORTS : W .GROUP_CHG_ABORTS)
    (wGROUP_CHG_RESULT : W .GROUP_CHG_RESULT) (wGROUP_CHG_STATE : W .GROUP_CHG_STATE)
    (wGROUP_TARGET_N : W .GROUP_TARGET_N) (wOP_CEIL_ENTRY : W .OP_CEIL_ENTRY) (wRAIL_RETRIES : W .RAIL_RETRIES)
    (wRAIL_STATUS : W .RAIL_STATUS) (qfld : Q .fld) (qgrp : Q .grp) (qlink : Q .link) (qrail : Q .rail)
    (h : Fr W Q z s) :
    Fr W Q z (State.submit s g c) := by
  unfold State.submit
  repeat' first
    | with_reducible assumption | with_reducible apply State.modG_frame | with_reducible apply State.retarget_frame
    | split

theorem State.sendOffset_frame {s : State} {f : Nat} (wFIELD_VNEED : W .FIELD_VNEED)
    (wFIELD_VOLT : W .FIELD_VOLT) (wFIELD_VOLT_AT_CEIL : W .FIELD_VOLT_AT_CEIL) (wRAIL_RETRIES : W .RAIL_RETRIES)
    (wRAIL_STATUS : W .RAIL_STATUS) (qfld : Q .fld) (qlink : Q .link) (qrail : Q .rail) (h : Fr W Q z s) :
    Fr W Q z (State.sendOffset s f) := by
  unfold State.sendOffset
  repeat' first
    | with_reducible assumption | with_reducible apply State.askVolt_frame | split

theorem State.dropOffsets_frame {s : State} {g : Nat} (wFIELD_VNEED : W .FIELD_VNEED)
    (wFIELD_VOLT : W .FIELD_VOLT) (wFIELD_VOLT_AT_CEIL : W .FIELD_VOLT_AT_CEIL) (wPR_OFFSET : W .PR_OFFSET)
    (wRAIL_RETRIES : W .RAIL_RETRIES) (wRAIL_STATUS : W .RAIL_STATUS) (qfld : Q .fld) (qgrp : Q .grp)
    (qlink : Q .link) (qrail : Q .rail) (h : Fr W Q z s) :
    Fr W Q z (State.dropOffsets s g) := by
  unfold State.dropOffsets
  repeat' first
    | with_reducible assumption | with_reducible refine State.each_kept ?_ ?_ | with_reducible apply State.wr_frame
    | with_reducible apply State.sendOffset_frame | with_reducible apply State.modG_frame | split | dsimp only
    | intro _

theorem State.planOffsets_frame {s : State} {g : Nat} {t : Nat} {lead : Nat} (wFIELD_VNEED : W .FIELD_VNEED)
    (wFIELD_VOLT : W .FIELD_VOLT) (wFIELD_VOLT_AT_CEIL : W .FIELD_VOLT_AT_CEIL) (wPR_OFFSET : W .PR_OFFSET)
    (wRAIL_RETRIES : W .RAIL_RETRIES) (wRAIL_STATUS : W .RAIL_STATUS) (qfld : Q .fld) (qgrp : Q .grp)
    (qlink : Q .link) (qrail : Q .rail) (h : Fr W Q z s) :
    Fr W Q z (State.planOffsets s g t lead) := by
  unfold State.planOffsets
  repeat' first
    | with_reducible assumption | with_reducible refine State.when_kept ?_ ?_
    | with_reducible apply State.dropOffsets_frame | with_reducible apply State.modG_frame | split | dsimp only
    | intro _

theorem execPreposOffsetSet_frame {g : Nat} {s : State} (wALERT_STATUS : W .ALERT_STATUS)
    (wEVENT_NEXT : W .EVENT_NEXT) (wEVENT_OVERWRITTEN : W .EVENT_OVERWRITTEN) (wEVENT_PAGE : W .EVENT_PAGE)
    (wEVENT_SEQ : W .EVENT_SEQ) (wFIELD_VNEED : W .FIELD_VNEED) (wFIELD_VOLT : W .FIELD_VOLT)
    (wFIELD_VOLT_AT_CEIL : W .FIELD_VOLT_AT_CEIL) (wINJ_ARM : W .INJ_ARM) (wINJ_COUNT : W .INJ_COUNT)
    (wINJ_RESULT : W .INJ_RESULT) (wPR_GROUP_TABLE : W .PR_GROUP_TABLE) (wPR_OFFSET : W .PR_OFFSET)
    (wRAIL_RETRIES : W .RAIL_RETRIES) (wRAIL_STATUS : W .RAIL_STATUS) (wSRAM_CE : W .SRAM_CE)
    (wSRAM_UE : W .SRAM_UE) (qflt : Q .flt) (qinj : Q .inj) (qfld : Q .fld) (qgrp : Q .grp) (qlink : Q .link)
    (qrail : Q .rail) (qphase : Q .phase) (h : Fr W Q z s) :
    ∀ t, execPreposOffsetSet g s = .next t → Fr W Q z t := by
  unfold execPreposOffsetSet
  repeat' first
    | with_reducible refine next_kept ?_ | with_reducible assumption | with_reducible refine State.each_kept ?_ ?_
    | with_reducible refine State.when_kept ?_ ?_ | with_reducible apply State.readFieldWords_frame
    | with_reducible apply State.modG_frame | with_reducible apply State.wr_frame
    | with_reducible apply State.sendOffset_frame | split | dsimp only | intro _

theorem execPreposOffsetRemove_frame {g : Nat} {s : State} (wFIELD_VNEED : W .FIELD_VNEED)
    (wFIELD_VOLT : W .FIELD_VOLT) (wFIELD_VOLT_AT_CEIL : W .FIELD_VOLT_AT_CEIL) (wPR_OFFSET : W .PR_OFFSET)
    (wRAIL_RETRIES : W .RAIL_RETRIES) (wRAIL_STATUS : W .RAIL_STATUS) (qfld : Q .fld) (qgrp : Q .grp)
    (qlink : Q .link) (qrail : Q .rail) (h : Fr W Q z s) :
    ∀ t, execPreposOffsetRemove g s = .next t → Fr W Q z t := by
  unfold execPreposOffsetRemove
  repeat' first
    | with_reducible refine next_kept ?_ | with_reducible assumption | with_reducible refine State.when_kept ?_ ?_
    | with_reducible apply State.dropOffsets_frame | split | dsimp only | intro _

theorem State.blend_frame {s : State} {g : Nat} {o : Seen} (qphase : Q .phase) (h : Fr W Q z s) :
    Fr W Q z (State.blend s g o) := by
  unfold State.blend
  repeat' first
    | with_reducible assumption | with_reducible refine State.each_kept ?_ ?_ | with_reducible apply State.setPe_frame
    | split | dsimp only | intro _

theorem State.replace_frame {s : State} {g : Nat} {o : Seen} (qphase : Q .phase) (h : Fr W Q z s) :
    Fr W Q z (State.replace s g o) := by
  unfold State.replace
  repeat' first
    | with_reducible assumption | with_reducible refine State.each_kept ?_ ?_ | with_reducible apply State.setPe_frame
    | split | dsimp only | intro _

theorem State.learnPoint_frame {s : State} {g : Nat} {o : Seen} {e : Nat} {cur : Nat}
    (wPR_GROUP_TABLE : W .PR_GROUP_TABLE) (wPR_MOVES : W .PR_MOVES) (wPR_REJECTS : W .PR_REJECTS)
    (qphase : Q .phase) (h : Fr W Q z s) :
    Fr W Q z (State.learnPoint s g o e cur) := by
  unfold State.learnPoint
  repeat' first
    | with_reducible assumption | with_reducible apply State.setGe_frame | with_reducible apply State.replace_frame
    | with_reducible apply State.inc_frame | split | dsimp only

theorem State.learnOffsetOf_frame {s : State} {g : Nat} {t : Nat} {f : Nat} (qphase : Q .phase) (h : Fr W Q z s) :
    Fr W Q z (State.learnOffsetOf s g t f) := by
  unfold State.learnOffsetOf
  repeat' first
    | with_reducible assumption | with_reducible apply State.setPe_frame | split | dsimp only

theorem State.learn_frame {s : State} {g : Nat} {o : Seen} (wPR_GROUP_TABLE : W .PR_GROUP_TABLE)
    (wPR_MOVES : W .PR_MOVES) (wPR_REJECTS : W .PR_REJECTS) (wPR_SURPRISES : W .PR_SURPRISES) (qphase : Q .phase)
    (h : Fr W Q z s) :
    Fr W Q z (State.learn s g o) := by
  unfold State.learn
  repeat' first
    | with_reducible assumption | with_reducible refine State.each_kept ?_ ?_
    | with_reducible refine State.when_kept ?_ ?_ | with_reducible apply State.replace_frame
    | with_reducible apply State.blend_frame | with_reducible apply State.setGe_frame
    | with_reducible apply State.inc_frame | with_reducible apply State.learnPoint_frame
    | with_reducible apply State.learnOffsetOf_frame | split | dsimp only | intro _

theorem State.endOcc_frame {s : State} {g : Nat} (wALERT_STATUS : W .ALERT_STATUS) (wEVENT_NEXT : W .EVENT_NEXT)
    (wEVENT_OVERWRITTEN : W .EVENT_OVERWRITTEN) (wEVENT_PAGE : W .EVENT_PAGE) (wEVENT_SEQ : W .EVENT_SEQ)
    (wINJ_ARM : W .INJ_ARM) (wINJ_COUNT : W .INJ_COUNT) (wINJ_RESULT : W .INJ_RESULT) (wPR_CUR_TAG : W .PR_CUR_TAG)
    (wPR_DISCARDED : W .PR_DISCARDED) (wPR_GROUP_TABLE : W .PR_GROUP_TABLE) (wPR_LFSR : W .PR_LFSR)
    (wPR_MOVES : W .PR_MOVES) (wPR_OCCURRENCES : W .PR_OCCURRENCES) (wPR_REJECTS : W .PR_REJECTS)
    (wPR_SURPRISES : W .PR_SURPRISES) (wPR_UNCLEAN : W .PR_UNCLEAN) (wSRAM_CE : W .SRAM_CE) (wSRAM_UE : W .SRAM_UE)
    (qflt : Q .flt) (qinj : Q .inj) (qgrp : Q .grp) (qphase : Q .phase) (h : Fr W Q z s) :
    Fr W Q z (State.endOcc s g) := by
  unfold State.endOcc
  repeat' first
    | with_reducible assumption | with_reducible refine State.when_kept ?_ ?_
    | with_reducible apply State.discardOcc_frame | with_reducible apply State.readTag_frame
    | with_reducible apply State.modG_frame | with_reducible apply State.wr_frame
    | with_reducible apply State.free_frame | with_reducible apply State.inc_frame
    | with_reducible apply State.stepLfsr_frame | with_reducible apply State.learn_frame | split | dsimp only
    | intro _

theorem execOccurrenceTimeout_frame {g : Nat} {s : State} (wPR_CUR_TAG : W .PR_CUR_TAG)
    (wPR_DISCARDED : W .PR_DISCARDED) (qgrp : Q .grp) (h : Fr W Q z s) :
    ∀ t, execOccurrenceTimeout g s = .next t → Fr W Q z t := by
  unfold execOccurrenceTimeout
  repeat' first
    | with_reducible refine next_kept ?_ | with_reducible assumption | with_reducible refine State.when_kept ?_ ?_
    | with_reducible apply State.discardOcc_frame | split | dsimp only | intro _

theorem State.markDone_frame {s : State} {q : EpReq} {op : Nat} {data : Nat} (qgrp : Q .grp) (qports : Q .ports)
    (h : Fr W Q z s) :
    Fr W Q z (State.markDone s q op data) := by
  unfold State.markDone
  repeat' first
    | with_reducible assumption | with_reducible apply State.modG_frame | with_reducible apply State.respond_frame

theorem State.mark_frame {s : State} {q : EpReq} {op : Nat} {mask : Nat} {f : State → Nat × State}
    (wPR_DUP_MARKS : W .PR_DUP_MARKS) (qgrp : Q .grp) (qcaps : Q .caps) (qports : Q .ports) (h : Fr W Q z s)
    (h_f : ∀ t, Fr W Q z t → Fr W Q z (f t).2) :
    Fr W Q z (State.mark s q op mask f) := by
  unfold State.mark
  repeat' first
    | with_reducible assumption | with_reducible apply h_f | with_reducible apply State.respond_frame
    | with_reducible apply State.inc_frame | with_reducible apply State.markDone_frame | split | dsimp only | intro _
    | with_reducible apply Fr.lit | with_reducible exact Or.inl (by assumption) | with_reducible exact Or.inr rfl

theorem State.phaseNext_frame {s : State} {g : Nat} {t : Nat} {lead : Nat} (wALERT_STATUS : W .ALERT_STATUS)
    (wEVENT_NEXT : W .EVENT_NEXT) (wEVENT_OVERWRITTEN : W .EVENT_OVERWRITTEN) (wEVENT_PAGE : W .EVENT_PAGE)
    (wEVENT_SEQ : W .EVENT_SEQ) (wFIELD_VNEED : W .FIELD_VNEED) (wFIELD_VOLT : W .FIELD_VOLT)
    (wFIELD_VOLT_AT_CEIL : W .FIELD_VOLT_AT_CEIL) (wGROUP_CEIL_REASON : W .GROUP_CEIL_REASON)
    (wGROUP_CHG_ABORTS : W .GROUP_CHG_ABORTS) (wGROUP_CHG_RESULT : W .GROUP_CHG_RESULT)
    (wGROUP_CHG_STATE : W .GROUP_CHG_STATE) (wGROUP_TARGET_N : W .GROUP_TARGET_N) (wINJ_ARM : W .INJ_ARM)
    (wINJ_COUNT : W .INJ_COUNT) (wINJ_RESULT : W .INJ_RESULT) (wOP_CEIL_ENTRY : W .OP_CEIL_ENTRY)
    (wPR_EXPLORES : W .PR_EXPLORES) (wPR_GROUP_TABLE : W .PR_GROUP_TABLE) (wPR_LATE_NEXT : W .PR_LATE_NEXT)
    (wPR_LFSR : W .PR_LFSR) (wPR_NEXT_TAG : W .PR_NEXT_TAG) (wPR_OFFSET : W .PR_OFFSET)
    (wRAIL_RETRIES : W .RAIL_RETRIES) (wRAIL_STATUS : W .RAIL_STATUS) (wSRAM_CE : W .SRAM_CE)
    (wSRAM_UE : W .SRAM_UE) (qflt : Q .flt) (qinj : Q .inj) (qfld : Q .fld) (qgrp : Q .grp) (qlink : Q .link)
    (qrail : Q .rail) (qphase : Q .phase) (h : Fr W Q z s) :
    Fr W Q z (State.phaseNext s g t lead).2 := by
  unfold State.phaseNext
  repeat' first
    | with_reducible assumption | with_reducible refine State.when_kept ?_ ?_
    | with_reducible apply State.readTag_frame | with_reducible apply State.inc_frame
    | with_reducible apply State.stepLfsr_frame | with_reducible apply State.modG_frame
    | with_reducible apply State.wr_frame | with_reducible apply State.planOffsets_frame
    | with_reducible apply State.submit_frame | split | dsimp only | intro _

theorem State.markNext_frame {s : State} {q : EpReq} (wALERT_STATUS : W .ALERT_STATUS)
    (wEVENT_NEXT : W .EVENT_NEXT) (wEVENT_OVERWRITTEN : W .EVENT_OVERWRITTEN) (wEVENT_PAGE : W .EVENT_PAGE)
    (wEVENT_SEQ : W .EVENT_SEQ) (wFIELD_VNEED : W .FIELD_VNEED) (wFIELD_VOLT : W .FIELD_VOLT)
    (wFIELD_VOLT_AT_CEIL : W .FIELD_VOLT_AT_CEIL) (wGROUP_CEIL_REASON : W .GROUP_CEIL_REASON)
    (wGROUP_CHG_ABORTS : W .GROUP_CHG_ABORTS) (wGROUP_CHG_RESULT : W .GROUP_CHG_RESULT)
    (wGROUP_CHG_STATE : W .GROUP_CHG_STATE) (wGROUP_TARGET_N : W .GROUP_TARGET_N) (wINJ_ARM : W .INJ_ARM)
    (wINJ_COUNT : W .INJ_COUNT) (wINJ_RESULT : W .INJ_RESULT) (wOP_CEIL_ENTRY : W .OP_CEIL_ENTRY)
    (wPR_DUP_MARKS : W .PR_DUP_MARKS) (wPR_EXPLORES : W .PR_EXPLORES) (wPR_GROUP_TABLE : W .PR_GROUP_TABLE)
    (wPR_LATE_NEXT : W .PR_LATE_NEXT) (wPR_LFSR : W .PR_LFSR) (wPR_NEXT_TAG : W .PR_NEXT_TAG)
    (wPR_OFFSET : W .PR_OFFSET) (wRAIL_RETRIES : W .RAIL_RETRIES) (wRAIL_STATUS : W .RAIL_STATUS)
    (wSRAM_CE : W .SRAM_CE) (wSRAM_UE : W .SRAM_UE) (qflt : Q .flt) (qinj : Q .inj) (qfld : Q .fld) (qgrp : Q .grp)
    (qlink : Q .link) (qrail : Q .rail) (qcaps : Q .caps) (qports : Q .ports) (qphase : Q .phase) (h : Fr W Q z s) :
    Fr W Q z (State.markNext s q) := by
  apply State.mark_frame <;> first
    | assumption | (intro _ ht; apply State.phaseNext_frame <;> assumption)

theorem execPhaseNext_frame {q : EpReq} {s : State} (wALERT_STATUS : W .ALERT_STATUS)
    (wEVENT_NEXT : W .EVENT_NEXT) (wEVENT_OVERWRITTEN : W .EVENT_OVERWRITTEN) (wEVENT_PAGE : W .EVENT_PAGE)
    (wEVENT_SEQ : W .EVENT_SEQ) (wFIELD_VNEED : W .FIELD_VNEED) (wFIELD_VOLT : W .FIELD_VOLT)
    (wFIELD_VOLT_AT_CEIL : W .FIELD_VOLT_AT_CEIL) (wGROUP_CEIL_REASON : W .GROUP_CEIL_REASON)
    (wGROUP_CHG_ABORTS : W .GROUP_CHG_ABORTS) (wGROUP_CHG_RESULT : W .GROUP_CHG_RESULT)
    (wGROUP_CHG_STATE : W .GROUP_CHG_STATE) (wGROUP_TARGET_N : W .GROUP_TARGET_N) (wINJ_ARM : W .INJ_ARM)
    (wINJ_COUNT : W .INJ_COUNT) (wINJ_RESULT : W .INJ_RESULT) (wOP_CEIL_ENTRY : W .OP_CEIL_ENTRY)
    (wPR_DUP_MARKS : W .PR_DUP_MARKS) (wPR_EXPLORES : W .PR_EXPLORES) (wPR_GROUP_TABLE : W .PR_GROUP_TABLE)
    (wPR_LATE_NEXT : W .PR_LATE_NEXT) (wPR_LFSR : W .PR_LFSR) (wPR_NEXT_TAG : W .PR_NEXT_TAG)
    (wPR_OFFSET : W .PR_OFFSET) (wRAIL_RETRIES : W .RAIL_RETRIES) (wRAIL_STATUS : W .RAIL_STATUS)
    (wSRAM_CE : W .SRAM_CE) (wSRAM_UE : W .SRAM_UE) (qflt : Q .flt) (qinj : Q .inj) (qfld : Q .fld) (qgrp : Q .grp)
    (qlink : Q .link) (qrail : Q .rail) (qcaps : Q .caps) (qports : Q .ports) (qphase : Q .phase) (h : Fr W Q z s) :
    ∀ t, execPhaseNext q s = .next t → Fr W Q z t := by
  refine next_kept ?_
  apply State.epTake_frame <;> first
    | assumption | exact fun _ _ ht => ht | (intro _ ht; apply State.markNext_frame <;> assumption)

theorem State.shareFrom_frame {s : State} {g : Nat} {t : Nat} (wCOMPUTE_LIMIT : W .COMPUTE_LIMIT)
    (wCOMPUTE_LIMIT_REASON : W .COMPUTE_LIMIT_REASON) (wFIELD_LIMIT : W .FIELD_LIMIT)
    (wFIELD_LIMIT_REASON : W .FIELD_LIMIT_REASON) (wGROUP_LIMIT : W .GROUP_LIMIT) (qfld : Q .fld) (qrail : Q .rail)
    (qcaps : Q .caps) (h : Fr W Q z s) :
    Fr W Q z (State.shareFrom s g t) := by
  unfold State.shareFrom
  repeat' first
    | with_reducible assumption | with_reducible refine State.each_kept ?_ ?_
    | with_reducible refine State.when_kept ?_ ?_ | with_reducible apply State.modF_frame
    | with_reducible apply State.recompute_frame | split | dsimp only | intro _

theorem State.startOcc_frame {s : State} {g : Nat} {t : Nat} {c : Option Nat × Bool}
    (wPR_CUR_TAG : W .PR_CUR_TAG) (qfld : Q .fld) (qgrp : Q .grp) (h : Fr W Q z s) :
    Fr W Q z (State.startOcc s g t c) := by
  unfold State.startOcc
  repeat' first
    | with_reducible assumption | with_reducible refine State.each_kept ?_ ?_ | with_reducible apply State.modG_frame
    | with_reducible apply State.wr_frame | with_reducible apply State.modF_frame | split | dsimp only | intro _

theorem State.phaseBegin_frame {s : State} {g : Nat} {t : Nat} (wALERT_STATUS : W .ALERT_STATUS)
    (wCOMPUTE_LIMIT : W .COMPUTE_LIMIT) (wCOMPUTE_LIMIT_REASON : W .COMPUTE_LIMIT_REASON)
    (wEVENT_NEXT : W .EVENT_NEXT) (wEVENT_OVERWRITTEN : W .EVENT_OVERWRITTEN) (wEVENT_PAGE : W .EVENT_PAGE)
    (wEVENT_SEQ : W .EVENT_SEQ) (wFIELD_LIMIT : W .FIELD_LIMIT) (wFIELD_LIMIT_REASON : W .FIELD_LIMIT_REASON)
    (wFIELD_VNEED : W .FIELD_VNEED) (wFIELD_VOLT : W .FIELD_VOLT) (wFIELD_VOLT_AT_CEIL : W .FIELD_VOLT_AT_CEIL)
    (wGROUP_CEIL_REASON : W .GROUP_CEIL_REASON) (wGROUP_CHG_ABORTS : W .GROUP_CHG_ABORTS)
    (wGROUP_CHG_RESULT : W .GROUP_CHG_RESULT) (wGROUP_CHG_STATE : W .GROUP_CHG_STATE)
    (wGROUP_LIMIT : W .GROUP_LIMIT) (wGROUP_TARGET_N : W .GROUP_TARGET_N) (wINJ_ARM : W .INJ_ARM)
    (wINJ_COUNT : W .INJ_COUNT) (wINJ_RESULT : W .INJ_RESULT) (wOP_CEIL_ENTRY : W .OP_CEIL_ENTRY)
    (wPR_CUR_TAG : W .PR_CUR_TAG) (wPR_DISCARDED : W .PR_DISCARDED) (wPR_GROUP_TABLE : W .PR_GROUP_TABLE)
    (wPR_LFSR : W .PR_LFSR) (wPR_MOVES : W .PR_MOVES) (wPR_NEXT_TAG : W .PR_NEXT_TAG)
    (wPR_OCCURRENCES : W .PR_OCCURRENCES) (wPR_REJECTS : W .PR_REJECTS) (wPR_SURPRISES : W .PR_SURPRISES)
    (wPR_UNANNOUNCED : W .PR_UNANNOUNCED) (wPR_UNCLEAN : W .PR_UNCLEAN) (wRAIL_RETRIES : W .RAIL_RETRIES)
    (wRAIL_STATUS : W .RAIL_STATUS) (wSRAM_CE : W .SRAM_CE) (wSRAM_UE : W .SRAM_UE) (qflt : Q .flt) (qinj : Q .inj)
    (qfld : Q .fld) (qgrp : Q .grp) (qlink : Q .link) (qrail : Q .rail) (qcaps : Q .caps) (qphase : Q .phase)
    (h : Fr W Q z s) :
    Fr W Q z (State.phaseBegin s g t).2 := by
  unfold State.phaseBegin
  repeat' first
    | with_reducible assumption | with_reducible refine State.when_kept ?_ ?_
    | with_reducible apply State.endOcc_frame | with_reducible apply State.readTag_frame
    | with_reducible apply State.inc_frame | with_reducible apply State.dropNext_frame
    | with_reducible apply State.modG_frame | with_reducible apply State.submit_frame
    | with_reducible apply State.startOcc_frame | with_reducible apply State.shareFrom_frame | split | dsimp only
    | intro _

theorem State.markBegin_frame {s : State} {q : EpReq} (wALERT_STATUS : W .ALERT_STATUS)
    (wCOMPUTE_LIMIT : W .COMPUTE_LIMIT) (wCOMPUTE_LIMIT_REASON : W .COMPUTE_LIMIT_REASON)
    (wEVENT_NEXT : W .EVENT_NEXT) (wEVENT_OVERWRITTEN : W .EVENT_OVERWRITTEN) (wEVENT_PAGE : W .EVENT_PAGE)
    (wEVENT_SEQ : W .EVENT_SEQ) (wFIELD_LIMIT : W .FIELD_LIMIT) (wFIELD_LIMIT_REASON : W .FIELD_LIMIT_REASON)
    (wFIELD_VNEED : W .FIELD_VNEED) (wFIELD_VOLT : W .FIELD_VOLT) (wFIELD_VOLT_AT_CEIL : W .FIELD_VOLT_AT_CEIL)
    (wGROUP_CEIL_REASON : W .GROUP_CEIL_REASON) (wGROUP_CHG_ABORTS : W .GROUP_CHG_ABORTS)
    (wGROUP_CHG_RESULT : W .GROUP_CHG_RESULT) (wGROUP_CHG_STATE : W .GROUP_CHG_STATE)
    (wGROUP_LIMIT : W .GROUP_LIMIT) (wGROUP_TARGET_N : W .GROUP_TARGET_N) (wINJ_ARM : W .INJ_ARM)
    (wINJ_COUNT : W .INJ_COUNT) (wINJ_RESULT : W .INJ_RESULT) (wOP_CEIL_ENTRY : W .OP_CEIL_ENTRY)
    (wPR_CUR_TAG : W .PR_CUR_TAG) (wPR_DISCARDED : W .PR_DISCARDED) (wPR_DUP_MARKS : W .PR_DUP_MARKS)
    (wPR_GROUP_TABLE : W .PR_GROUP_TABLE) (wPR_LFSR : W .PR_LFSR) (wPR_MOVES : W .PR_MOVES)
    (wPR_NEXT_TAG : W .PR_NEXT_TAG) (wPR_OCCURRENCES : W .PR_OCCURRENCES) (wPR_REJECTS : W .PR_REJECTS)
    (wPR_SURPRISES : W .PR_SURPRISES) (wPR_UNANNOUNCED : W .PR_UNANNOUNCED) (wPR_UNCLEAN : W .PR_UNCLEAN)
    (wRAIL_RETRIES : W .RAIL_RETRIES) (wRAIL_STATUS : W .RAIL_STATUS) (wSRAM_CE : W .SRAM_CE)
    (wSRAM_UE : W .SRAM_UE) (qflt : Q .flt) (qinj : Q .inj) (qfld : Q .fld) (qgrp : Q .grp) (qlink : Q .link)
    (qrail : Q .rail) (qcaps : Q .caps) (qports : Q .ports) (qphase : Q .phase) (h : Fr W Q z s) :
    Fr W Q z (State.markBegin s q) := by
  apply State.mark_frame <;> first
    | assumption | (intro _ ht; apply State.phaseBegin_frame <;> assumption)

theorem execPhaseBegin_frame {q : EpReq} {s : State} (wALERT_STATUS : W .ALERT_STATUS)
    (wCOMPUTE_LIMIT : W .COMPUTE_LIMIT) (wCOMPUTE_LIMIT_REASON : W .COMPUTE_LIMIT_REASON)
    (wEVENT_NEXT : W .EVENT_NEXT) (wEVENT_OVERWRITTEN : W .EVENT_OVERWRITTEN) (wEVENT_PAGE : W .EVENT_PAGE)
    (wEVENT_SEQ : W .EVENT_SEQ) (wFIELD_LIMIT : W .FIELD_LIMIT) (wFIELD_LIMIT_REASON : W .FIELD_LIMIT_REASON)
    (wFIELD_VNEED : W .FIELD_VNEED) (wFIELD_VOLT : W .FIELD_VOLT) (wFIELD_VOLT_AT_CEIL : W .FIELD_VOLT_AT_CEIL)
    (wGROUP_CEIL_REASON : W .GROUP_CEIL_REASON) (wGROUP_CHG_ABORTS : W .GROUP_CHG_ABORTS)
    (wGROUP_CHG_RESULT : W .GROUP_CHG_RESULT) (wGROUP_CHG_STATE : W .GROUP_CHG_STATE)
    (wGROUP_LIMIT : W .GROUP_LIMIT) (wGROUP_TARGET_N : W .GROUP_TARGET_N) (wINJ_ARM : W .INJ_ARM)
    (wINJ_COUNT : W .INJ_COUNT) (wINJ_RESULT : W .INJ_RESULT) (wOP_CEIL_ENTRY : W .OP_CEIL_ENTRY)
    (wPR_CUR_TAG : W .PR_CUR_TAG) (wPR_DISCARDED : W .PR_DISCARDED) (wPR_DUP_MARKS : W .PR_DUP_MARKS)
    (wPR_GROUP_TABLE : W .PR_GROUP_TABLE) (wPR_LFSR : W .PR_LFSR) (wPR_MOVES : W .PR_MOVES)
    (wPR_NEXT_TAG : W .PR_NEXT_TAG) (wPR_OCCURRENCES : W .PR_OCCURRENCES) (wPR_REJECTS : W .PR_REJECTS)
    (wPR_SURPRISES : W .PR_SURPRISES) (wPR_UNANNOUNCED : W .PR_UNANNOUNCED) (wPR_UNCLEAN : W .PR_UNCLEAN)
    (wRAIL_RETRIES : W .RAIL_RETRIES) (wRAIL_STATUS : W .RAIL_STATUS) (wSRAM_CE : W .SRAM_CE)
    (wSRAM_UE : W .SRAM_UE) (qflt : Q .flt) (qinj : Q .inj) (qfld : Q .fld) (qgrp : Q .grp) (qlink : Q .link)
    (qrail : Q .rail) (qcaps : Q .caps) (qports : Q .ports) (qphase : Q .phase) (h : Fr W Q z s) :
    ∀ t, execPhaseBegin q s = .next t → Fr W Q z t := by
  refine next_kept ?_
  apply State.epTake_frame <;> first
    | assumption | exact fun _ _ ht => ht | (intro _ ht; apply State.markBegin_frame <;> assumption)

theorem State.markPref_frame {s : State} {q : EpReq} (wALERT_STATUS : W .ALERT_STATUS)
    (wEVENT_NEXT : W .EVENT_NEXT) (wEVENT_OVERWRITTEN : W .EVENT_OVERWRITTEN) (wEVENT_PAGE : W .EVENT_PAGE)
    (wEVENT_SEQ : W .EVENT_SEQ) (wINJ_ARM : W .INJ_ARM) (wINJ_COUNT : W .INJ_COUNT) (wINJ_RESULT : W .INJ_RESULT)
    (wPR_DUP_MARKS : W .PR_DUP_MARKS) (wPR_GROUP_TABLE : W .PR_GROUP_TABLE) (wSRAM_CE : W .SRAM_CE)
    (wSRAM_UE : W .SRAM_UE) (qflt : Q .flt) (qinj : Q .inj) (qgrp : Q .grp) (qcaps : Q .caps) (qports : Q .ports)
    (qphase : Q .phase) (h : Fr W Q z s) :
    Fr W Q z (State.markPref s q) := by
  apply State.mark_frame <;> first
    | assumption
    | (intro _ ht; apply State.setGe_frame <;> first | assumption | (apply State.readGroupWord_frame <;> assumption))

theorem execPreferredPoint_frame {q : EpReq} {s : State} (wALERT_STATUS : W .ALERT_STATUS)
    (wEVENT_NEXT : W .EVENT_NEXT) (wEVENT_OVERWRITTEN : W .EVENT_OVERWRITTEN) (wEVENT_PAGE : W .EVENT_PAGE)
    (wEVENT_SEQ : W .EVENT_SEQ) (wINJ_ARM : W .INJ_ARM) (wINJ_COUNT : W .INJ_COUNT) (wINJ_RESULT : W .INJ_RESULT)
    (wPR_DUP_MARKS : W .PR_DUP_MARKS) (wPR_GROUP_TABLE : W .PR_GROUP_TABLE) (wSRAM_CE : W .SRAM_CE)
    (wSRAM_UE : W .SRAM_UE) (qflt : Q .flt) (qinj : Q .inj) (qgrp : Q .grp) (qcaps : Q .caps) (qports : Q .ports)
    (qphase : Q .phase) (h : Fr W Q z s) :
    ∀ t, execPreferredPoint q s = .next t → Fr W Q z t := by
  refine next_kept ?_
  apply State.epTake_frame <;> first
    | assumption | exact fun _ _ ht => ht | (intro _ ht; apply State.markPref_frame <;> assumption)

theorem State.clearPraline_frame {s : State} (wPR_CUR_TAG : W .PR_CUR_TAG) (wPR_GROUP_TABLE : W .PR_GROUP_TABLE)
    (qgrp : Q .grp) (qphase : Q .phase) (h : Fr W Q z s) :
    Fr W Q z (State.clearPraline s) := by
  unfold State.clearPraline
  repeat' first
    | with_reducible assumption | with_reducible refine State.each_kept ?_ ?_ | with_reducible apply State.wr_frame
    | with_reducible apply State.modG_frame | split | dsimp only | intro _ | with_reducible apply Fr.lit
    | with_reducible exact Or.inl (by assumption) | with_reducible exact Or.inr rfl

theorem State.policyFrom_frame {t : State} {s : State} (qgrp : Q .grp) (h : Fr W Q z t) :
    Fr W Q z (State.policyFrom t s) := by
  unfold State.policyFrom
  repeat' first
    | with_reducible assumption | with_reducible refine State.each_kept ?_ ?_ | with_reducible apply State.spoil_frame
    | split | dsimp only | intro _

theorem State.setFallback_frame {s : State} {v : Bool} (wPR_STATUS : W .PR_STATUS) (qgrp : Q .grp)
    (h : Fr W Q z s) :
    Fr W Q z (State.setFallback s v) := by
  unfold State.setFallback
  repeat' first
    | with_reducible assumption | with_reducible apply State.setFlag_frame
    | with_reducible apply State.policyFrom_frame

theorem State.rearmPraline_frame {s : State} (wPR_STATUS : W .PR_STATUS) (qgrp : Q .grp) (h : Fr W Q z s) :
    Fr W Q z (State.rearmPraline s) := by
  unfold State.rearmPraline
  repeat' first
    | with_reducible assumption | with_reducible apply State.setFallback_frame

theorem State.writePolicy_frame {s : State} {g : Nat} {v : Nat} (wPR_POLICY : W .PR_POLICY)
    (wPR_STATUS : W .PR_STATUS) (qgrp : Q .grp) (h : Fr W Q z s) :
    Fr W Q z (State.writePolicy s g v) := by
  unfold State.writePolicy
  repeat' first
    | with_reducible assumption | with_reducible apply State.wr_frame | with_reducible apply State.setFlag_frame
    | with_reducible apply State.policyFrom_frame

/-! ### Dict -/

theorem State.auditAt_frame {s : State} {at0 : Nat} {r : AuditRec} (wAUDIT_NEXT : W .AUDIT_NEXT)
    (wAUDIT_OVERWRITTEN : W .AUDIT_OVERWRITTEN) (wAUDIT_SEQ : W .AUDIT_SEQ) (qdict : Q .dict) (h : Fr W Q z s) :
    Fr W Q z (State.auditAt s at0 r) := by
  unfold State.auditAt
  repeat' first
    | with_reducible assumption | with_reducible refine State.when_kept ?_ ?_ | with_reducible apply State.inc_frame
    | with_reducible apply State.wr_frame | with_reducible apply State.addWrap_frame | split | dsimp only | intro _
    | with_reducible apply Fr.lit | with_reducible exact Or.inl (by assumption) | with_reducible exact Or.inr rfl

theorem State.auditPut_frame {s : State} {r : AuditRec} (wAUDIT_NEXT : W .AUDIT_NEXT)
    (wAUDIT_OVERWRITTEN : W .AUDIT_OVERWRITTEN) (wAUDIT_SEQ : W .AUDIT_SEQ) (qdict : Q .dict) (h : Fr W Q z s) :
    Fr W Q z (State.auditPut s r) := by
  unfold State.auditPut
  repeat' first
    | with_reducible assumption | with_reducible apply State.auditAt_frame

theorem State.auditCount_frame {s : State} {cls : Nat} {ok : Bool} (wAUDIT_OK : W .AUDIT_OK)
    (wAUDIT_REFUSED : W .AUDIT_REFUSED) (qdict : Q .dict) (h : Fr W Q z s) :
    Fr W Q z (State.auditCount s cls ok) := by
  unfold State.auditCount
  repeat' first
    | with_reducible assumption | with_reducible apply State.inc_frame | split | dsimp only | intro _
    | with_reducible apply Fr.lit | with_reducible exact Or.inl (by assumption) | with_reducible exact Or.inr rfl

theorem State.auditWrite_frame {s : State} {a : Attempt} {code : Code} {dirty : Bool}
    (wAUDIT_NEXT : W .AUDIT_NEXT) (wAUDIT_OK : W .AUDIT_OK) (wAUDIT_OVERWRITTEN : W .AUDIT_OVERWRITTEN)
    (wAUDIT_REFUSED : W .AUDIT_REFUSED) (wAUDIT_SEQ : W .AUDIT_SEQ) (qdict : Q .dict) (h : Fr W Q z s) :
    Fr W Q z (State.auditWrite s a code dirty) := by
  unfold State.auditWrite
  repeat' first
    | with_reducible assumption | with_reducible apply State.auditCount_frame
    | with_reducible apply State.auditAt_frame

theorem State.auditLost_frame {s : State} {src : Src} (wAUDIT_NEXT : W .AUDIT_NEXT) (wAUDIT_OK : W .AUDIT_OK)
    (wAUDIT_OVERWRITTEN : W .AUDIT_OVERWRITTEN) (wAUDIT_REFUSED : W .AUDIT_REFUSED) (wAUDIT_SEQ : W .AUDIT_SEQ)
    (qdict : Q .dict) (h : Fr W Q z s) :
    Fr W Q z (State.auditLost s src) := by
  unfold State.auditLost
  repeat' first
    | with_reducible assumption | with_reducible apply State.auditWrite_frame

theorem State.auditRefuse_frame {s : State} {cls : Nat} {code : Code} (wAUDIT_MERGED : W .AUDIT_MERGED)
    (wAUDIT_OK : W .AUDIT_OK) (wAUDIT_REFUSED : W .AUDIT_REFUSED) (qdict : Q .dict) (h : Fr W Q z s) :
    Fr W Q z (State.auditRefuse s cls code) := by
  unfold State.auditRefuse
  repeat' first
    | with_reducible assumption | with_reducible apply State.auditCount_frame | with_reducible apply State.inc_frame
    | split | dsimp only | intro _ | with_reducible apply Fr.lit | with_reducible exact Or.inl (by assumption)
    | with_reducible exact Or.inr rfl

theorem execAuditMerge_frame {s : State} (wAUDIT_NEXT : W .AUDIT_NEXT)
    (wAUDIT_OVERWRITTEN : W .AUDIT_OVERWRITTEN) (wAUDIT_SEQ : W .AUDIT_SEQ) (qdict : Q .dict) (h : Fr W Q z s) :
    ∀ t, execAuditMerge s = .next t → Fr W Q z t := by
  unfold execAuditMerge
  repeat' first
    | with_reducible refine next_kept ?_ | with_reducible assumption | with_reducible refine State.each_kept ?_ ?_
    | with_reducible apply State.auditPut_frame | split | dsimp only | intro _ | with_reducible apply Fr.lit
    | with_reducible exact Or.inl (by assumption) | with_reducible exact Or.inr rfl

theorem State.newPeriod_frame {s : State} (qflt : Q .flt) (qdict : Q .dict) (h : Fr W Q z s) :
    Fr W Q z (State.newPeriod s) := by
  unfold State.newPeriod
  repeat' first
    | with_reducible assumption | split | dsimp only | intro _ | with_reducible apply Fr.lit
    | with_reducible exact Or.inl (by assumption) | with_reducible exact Or.inr rfl

/-! ### Budget -/

theorem State.modSlot_frame {s : State} {p : Nat} {f : BSlot → BSlot} (qbudget : Q .budget) (h : Fr W Q z s) :
    Fr W Q z (State.modSlot s p f) := by
  unfold State.modSlot
  repeat' first
    | with_reducible assumption | split | dsimp only | intro _ | with_reducible apply Fr.lit
    | with_reducible exact Or.inl (by assumption) | with_reducible exact Or.inr rfl

theorem State.syncGrant_frame {s : State} (qcaps : Q .caps) (h : Fr W Q z s) :
    Fr W Q z (State.syncGrant s) := by
  unfold State.syncGrant
  repeat' first
    | with_reducible assumption | with_reducible apply State.limitsDue_frame | split | dsimp only | intro _
    | with_reducible apply Fr.lit | with_reducible exact Or.inl (by assumption) | with_reducible exact Or.inr rfl

theorem State.queueFrame_frame {s : State} {p : Nat} {content : Nat} {isRound : Bool} {credit : Nat}
    (qbudget : Q .budget) (h : Fr W Q z s) :
    Fr W Q z (State.queueFrame s p content isRound credit) := by
  unfold State.queueFrame
  repeat' first
    | with_reducible assumption | with_reducible refine State.when_kept ?_ ?_
    | with_reducible apply State.modSlot_frame | split | dsimp only | intro _ | with_reducible apply Fr.lit
    | with_reducible exact Or.inl (by assumption) | with_reducible exact Or.inr rfl

theorem State.sendRound_frame {s : State} {p : Nat} {slack : Nat} {credit : Nat} (qbudget : Q .budget)
    (h : Fr W Q z s) :
    Fr W Q z (State.sendRound s p slack credit) := by
  unfold State.sendRound
  repeat' first
    | with_reducible assumption | with_reducible apply State.queueFrame_frame

theorem State.drainFrames_frame {s : State} {stalled : Nat} (wBX_LOST_TX : W .BX_LOST_TX)
    (wBX_TX_FRAMES : W .BX_TX_FRAMES) (qbudget : Q .budget) (h : Fr W Q z s) :
    Fr W Q z (State.drainFrames s stalled) := by
  unfold State.drainFrames
  repeat' first
    | with_reducible assumption | with_reducible refine State.each_kept ?_ ?_
    | with_reducible refine State.when_kept ?_ ?_ | with_reducible apply State.addWrap_frame
    | with_reducible apply State.inc_frame | split | dsimp only | intro _ | with_reducible apply Fr.lit
    | with_reducible exact Or.inl (by assumption) | with_reducible exact Or.inr rfl

theorem State.applyCredits_frame {s : State} (wBX_CREDIT_IN : W .BX_CREDIT_IN) (wBX_GRANT : W .BX_GRANT)
    (wBX_LOST_CLAMP : W .BX_LOST_CLAMP) (qbudget : Q .budget) (h : Fr W Q z s) :
    Fr W Q z (State.applyCredits s) := by
  unfold State.applyCredits
  repeat' first
    | with_reducible assumption | with_reducible apply State.wr_frame | with_reducible apply State.addWrap_frame
    | split | dsimp only | intro _ | with_reducible apply Fr.lit | with_reducible exact Or.inl (by assumption)
    | with_reducible exact Or.inr rfl

theorem State.adoptPeers_frame {s : State} (qbudget : Q .budget) (h : Fr W Q z s) :
    Fr W Q z (State.adoptPeers s) := by
  unfold State.adoptPeers
  repeat' first
    | with_reducible assumption | with_reducible refine State.each_kept ?_ ?_
    | with_reducible apply State.modSlot_frame | split | dsimp only | intro _ | with_reducible apply Fr.lit
    | with_reducible exact Or.inl (by assumption) | with_reducible exact Or.inr rfl

theorem State.installEpoch_frame {s : State} (wBX_EPOCH : W .BX_EPOCH) (wBX_EPOCH_LOADS : W .BX_EPOCH_LOADS)
    (wBX_GRANT : W .BX_GRANT) (qbudget : Q .budget) (h : Fr W Q z s) :
    Fr W Q z (State.installEpoch s) := by
  unfold State.installEpoch
  repeat' first
    | with_reducible assumption | with_reducible refine State.each_kept ?_ ?_ | with_reducible apply State.wr_frame
    | with_reducible apply State.inc_frame | with_reducible apply State.modSlot_frame | split | dsimp only | intro _
    | with_reducible apply Fr.lit | with_reducible exact Or.inl (by assumption) | with_reducible exact Or.inr rfl

theorem State.roundSlack_frame {s : State} (wBX_SLACK : W .BX_SLACK) (qbudget : Q .budget) (h : Fr W Q z s) :
    Fr W Q z (State.roundSlack s) := by
  unfold State.roundSlack
  repeat' first
    | with_reducible assumption | with_reducible refine State.when_kept ?_ ?_ | with_reducible apply State.wr_frame
    | split | dsimp only | intro _ | with_reducible apply Fr.lit | with_reducible exact Or.inl (by assumption)
    | with_reducible exact Or.inr rfl

theorem State.sendRounds_frame {s : State} {credit : Nat} {best : Option Nat} (qbudget : Q .budget)
    (h : Fr W Q z s) :
    Fr W Q z (State.sendRounds s credit best) := by
  unfold State.sendRounds
  repeat' first
    | with_reducible assumption | with_reducible refine State.each_kept ?_ ?_
    | with_reducible apply State.sendRound_frame | split | dsimp only | intro _

theorem State.roundBoundary_frame {s : State} {stalled : Nat} (wBX_CREDIT_IN : W .BX_CREDIT_IN)
    (wBX_CREDIT_OUT : W .BX_CREDIT_OUT) (wBX_EPOCH : W .BX_EPOCH) (wBX_EPOCH_LOADS : W .BX_EPOCH_LOADS)
    (wBX_GRANT : W .BX_GRANT) (wBX_LOST_CLAMP : W .BX_LOST_CLAMP) (wBX_LOST_TX : W .BX_LOST_TX)
    (wBX_SLACK : W .BX_SLACK) (wBX_TX_FRAMES : W .BX_TX_FRAMES) (qcaps : Q .caps) (qbudget : Q .budget)
    (h : Fr W Q z s) :
    Fr W Q z (State.roundBoundary s stalled) := by
  unfold State.roundBoundary
  repeat' first
    | with_reducible assumption | with_reducible apply State.drainFrames_frame
    | with_reducible apply State.applyCredits_frame | with_reducible apply State.adoptPeers_frame
    | with_reducible apply State.installEpoch_frame | with_reducible apply State.roundSlack_frame
    | with_reducible apply State.wr_frame | with_reducible apply State.addWrap_frame
    | with_reducible apply State.sendRounds_frame | with_reducible apply State.syncGrant_frame | split | dsimp only
    | intro _ | with_reducible apply Fr.lit | with_reducible exact Or.inl (by assumption)
    | with_reducible exact Or.inr rfl

theorem execBxRoundBoundary_frame {stalled : Nat} {s : State} (wBX_CREDIT_IN : W .BX_CREDIT_IN)
    (wBX_CREDIT_OUT : W .BX_CREDIT_OUT) (wBX_EPOCH : W .BX_EPOCH) (wBX_EPOCH_LOADS : W .BX_EPOCH_LOADS)
    (wBX_GRANT : W .BX_GRANT) (wBX_LOST_CLAMP : W .BX_LOST_CLAMP) (wBX_LOST_TX : W .BX_LOST_TX)
    (wBX_SLACK : W .BX_SLACK) (wBX_TX_FRAMES : W .BX_TX_FRAMES) (qcaps : Q .caps) (qbudget : Q .budget)
    (h : Fr W Q z s) :
    ∀ t, execBxRoundBoundary stalled s = .next t → Fr W Q z t := by
  unfold execBxRoundBoundary
  repeat' first
    | with_reducible refine next_kept ?_ | with_reducible assumption | with_reducible refine State.when_kept ?_ ?_
    | with_reducible apply State.roundBoundary_frame | split | dsimp only | intro _ | with_reducible apply Fr.lit
    | with_reducible exact Or.inl (by assumption) | with_reducible exact Or.inr rfl

theorem State.dueRound_frame {s : State} (wBX_CREDIT_IN : W .BX_CREDIT_IN) (wBX_CREDIT_OUT : W .BX_CREDIT_OUT)
    (wBX_EPOCH : W .BX_EPOCH) (wBX_EPOCH_LOADS : W .BX_EPOCH_LOADS) (wBX_GRANT : W .BX_GRANT)
    (wBX_LOST_CLAMP : W .BX_LOST_CLAMP) (wBX_LOST_TX : W .BX_LOST_TX) (wBX_SLACK : W .BX_SLACK)
    (wBX_TX_FRAMES : W .BX_TX_FRAMES) (qcaps : Q .caps) (qbudget : Q .budget) (h : Fr W Q z s) :
    Fr W Q z (State.dueRound s) := by
  unfold State.dueRound
  repeat' first
    | with_reducible assumption | with_reducible refine State.when_kept ?_ ?_
    | with_reducible apply State.roundBoundary_frame | split | dsimp only | intro _

theorem State.stageLoad_frame {s : State} {v : Nat} (wBX_EPOCH_LOAD : W .BX_EPOCH_LOAD) (qbudget : Q .budget)
    (h : Fr W Q z s) :
    Fr W Q z (State.stageLoad s v) := by
  unfold State.stageLoad
  repeat' first
    | with_reducible assumption | with_reducible apply State.wr_frame | split | dsimp only | intro _
    | with_reducible apply Fr.lit | with_reducible exact Or.inl (by assumption) | with_reducible exact Or.inr rfl

theorem execBxEpochExpired_frame {s : State} (wALERT_STATUS : W .ALERT_STATUS)
    (wBX_EPOCH_EXPIRIES : W .BX_EPOCH_EXPIRIES) (wBX_GRANT : W .BX_GRANT) (wEVENT_NEXT : W .EVENT_NEXT)
    (wEVENT_OVERWRITTEN : W .EVENT_OVERWRITTEN) (wEVENT_PAGE : W .EVENT_PAGE) (wEVENT_SEQ : W .EVENT_SEQ)
    (qflt : Q .flt) (qcaps : Q .caps) (qbudget : Q .budget) (h : Fr W Q z s) :
    ∀ t, execBxEpochExpired s = .next t → Fr W Q z t := by
  unfold execBxEpochExpired
  repeat' first
    | with_reducible refine next_kept ?_ | with_reducible assumption | with_reducible refine State.when_kept ?_ ?_
    | with_reducible apply State.wr_frame | with_reducible apply State.inc_frame
    | with_reducible apply State.event_frame | with_reducible apply State.syncGrant_frame | split | dsimp only
    | intro _ | with_reducible apply Fr.lit | with_reducible exact Or.inl (by assumption)
    | with_reducible exact Or.inr rfl

theorem execEpochLate_frame {s : State} (qbudget : Q .budget) (h : Fr W Q z s) :
    ∀ t, execEpochLate s = .next t → Fr W Q z t := by
  unfold execEpochLate
  repeat' first
    | with_reducible refine next_kept ?_ | with_reducible assumption | with_reducible refine State.when_kept ?_ ?_
    | split | dsimp only | intro _ | with_reducible apply Fr.lit | with_reducible exact Or.inl (by assumption)
    | with_reducible exact Or.inr rfl

theorem State.receive_frame {s : State} {p : Nat} {beats : Nat} {err : Bool} {x : Nat} (wBX_RX : W .BX_RX)
    (wBX_RX_ACCEPTED : W .BX_RX_ACCEPTED) (wBX_RX_DROP_LAST : W .BX_RX_DROP_LAST) (qbudget : Q .budget)
    (h : Fr W Q z s) :
    Fr W Q z (State.receive s p beats err x).2 := by
  unfold State.receive
  repeat' first
    | with_reducible assumption | with_reducible apply State.inc_frame | with_reducible apply State.modSlot_frame
    | with_reducible apply State.wr_frame | split | dsimp only

theorem State.takeRound_frame {s : State} {p : Nat} {x : Nat} (wBX_LOST_PASSIVE : W .BX_LOST_PASSIVE)
    (qbudget : Q .budget) (h : Fr W Q z s) :
    Fr W Q z (State.takeRound s p x) := by
  unfold State.takeRound
  repeat' first
    | with_reducible assumption | with_reducible apply State.modSlot_frame | with_reducible apply State.addWrap_frame
    | split | dsimp only | intro _ | with_reducible apply Fr.lit | with_reducible exact Or.inl (by assumption)
    | with_reducible exact Or.inr rfl

theorem State.slackReport_frame {s : State} {ns : Nat} (wSY_SLACK_DROPS : W .SY_SLACK_DROPS)
    (wSY_SLACK_REPORTS : W .SY_SLACK_REPORTS) (qbudget : Q .budget) (h : Fr W Q z s) :
    Fr W Q z (State.slackReport s ns) := by
  unfold State.slackReport
  repeat' first
    | with_reducible assumption | with_reducible apply State.inc_frame | split | dsimp only | intro _
    | with_reducible apply Fr.lit | with_reducible exact Or.inl (by assumption) | with_reducible exact Or.inr rfl

theorem execSlackReport_frame {ns : Nat} {s : State} (wSY_SLACK_DROPS : W .SY_SLACK_DROPS)
    (wSY_SLACK_REPORTS : W .SY_SLACK_REPORTS) (qports : Q .ports) (qbudget : Q .budget) (h : Fr W Q z s) :
    ∀ t, execSlackReport ns s = .next t → Fr W Q z t := by
  unfold execSlackReport
  repeat' first
    | with_reducible refine next_kept ?_ | with_reducible assumption | with_reducible apply State.syHold_frame
    | with_reducible apply State.slackReport_frame | split

theorem execBudgetOpen_frame {s : State} (wUNIT_READY : W .UNIT_READY) (qbudget : Q .budget) (h : Fr W Q z s) :
    ∀ t, execBudgetOpen s = .next t → Fr W Q z t := by
  unfold execBudgetOpen
  repeat' first
    | with_reducible refine next_kept ?_ | with_reducible assumption | with_reducible refine State.when_kept ?_ ?_
    | with_reducible apply State.setReady_frame | split | dsimp only | intro _ | with_reducible apply Fr.lit
    | with_reducible exact Or.inl (by assumption) | with_reducible exact Or.inr rfl

/-! ### Fondant -/

theorem State.ask_frame {s : State} {w : Why} (qfon : Q .fon) (h : Fr W Q z s) :
    Fr W Q z (State.ask s w) := by
  unfold State.ask
  repeat' first
    | with_reducible assumption | split | dsimp only | intro _ | with_reducible apply Fr.lit
    | with_reducible exact Or.inl (by assumption) | with_reducible exact Or.inr rfl

theorem State.mergeWait_frame {s : State} {w : Why} (qdict : Q .dict) (qfon : Q .fon) (h : Fr W Q z s) :
    Fr W Q z (State.mergeWait s w) := by
  unfold State.mergeWait
  repeat' first
    | with_reducible assumption | split | dsimp only | intro _ | with_reducible apply Fr.lit
    | with_reducible exact Or.inl (by assumption) | with_reducible exact Or.inr rfl

theorem State.countWait_frame {s : State} {w : Why} (wFN_SNAP_DEFERRALS : W .FN_SNAP_DEFERRALS)
    (wFN_STATUS : W .FN_STATUS) (wPERSIST_DEFERRED : W .PERSIST_DEFERRED) (qdict : Q .dict) (qfon : Q .fon)
    (h : Fr W Q z s) :
    Fr W Q z (State.countWait s w) := by
  unfold State.countWait
  repeat' first
    | with_reducible assumption | with_reducible apply State.mergeWait_frame | with_reducible apply State.inc_frame
    | with_reducible apply State.setFlag_frame | split

theorem State.emptyCommit_frame {s : State} {w : Why} (wPERSIST_FLUSH : W .PERSIST_FLUSH) (qdict : Q .dict)
    (qfon : Q .fon) (h : Fr W Q z s) :
    Fr W Q z (State.emptyCommit s w) := by
  unfold State.emptyCommit
  repeat' first
    | with_reducible assumption | with_reducible apply State.wr_frame | split | dsimp only | intro _
    | with_reducible apply Fr.lit | with_reducible exact Or.inl (by assumption) | with_reducible exact Or.inr rfl

theorem State.beginCommit_frame {s : State} {w : Why} {rs : List JRec} (wFN_STATUS : W .FN_STATUS)
    (qdict : Q .dict) (qfon : Q .fon) (h : Fr W Q z s) :
    Fr W Q z (State.beginCommit s w rs) := by
  unfold State.beginCommit
  repeat' first
    | with_reducible assumption | with_reducible refine State.when_kept ?_ ?_
    | with_reducible apply State.setFlag_frame | split | dsimp only | intro _ | with_reducible apply Fr.lit
    | with_reducible exact Or.inl (by assumption) | with_reducible exact Or.inr rfl

theorem State.tryCommit_frame {s : State} {w : Why} (wFN_SNAP_DEFERRALS : W .FN_SNAP_DEFERRALS)
    (wFN_STATUS : W .FN_STATUS) (wPERSIST_DEFERRED : W .PERSIST_DEFERRED) (wPERSIST_FLUSH : W .PERSIST_FLUSH)
    (qdict : Q .dict) (qfon : Q .fon) (h : Fr W Q z s) :
    Fr W Q z (State.tryCommit s w) := by
  unfold State.tryCommit
  repeat' first
    | with_reducible assumption | with_reducible apply State.emptyCommit_frame
    | with_reducible apply State.beginCommit_frame | with_reducible apply State.countWait_frame | split | dsimp only
    | intro _ | with_reducible apply Fr.lit | with_reducible exact Or.inl (by assumption)
    | with_reducible exact Or.inr rfl

theorem State.askRelocate_frame {s : State} (qfon : Q .fon) (h : Fr W Q z s) :
    Fr W Q z (State.askRelocate s) := by
  unfold State.askRelocate
  repeat' first
    | with_reducible assumption | with_reducible apply State.ask_frame | split | dsimp only | intro _
    | with_reducible apply Fr.lit | with_reducible exact Or.inl (by assumption) | with_reducible exact Or.inr rfl

theorem State.startDue_frame {s : State} (wFN_SNAP_DEFERRALS : W .FN_SNAP_DEFERRALS) (wFN_STATUS : W .FN_STATUS)
    (wPERSIST_DEFERRED : W .PERSIST_DEFERRED) (wPERSIST_FLUSH : W .PERSIST_FLUSH) (qdict : Q .dict) (qfon : Q .fon)
    (h : Fr W Q z s) :
    Fr W Q z (State.startDue s) := by
  unfold State.startDue
  repeat' first
    | with_reducible assumption | with_reducible refine State.each_kept ?_ ?_
    | with_reducible apply State.askRelocate_frame | with_reducible apply State.tryCommit_frame | split | dsimp only
    | intro _

theorem State.askNow_frame {s : State} {w : Why} (wFN_SNAP_DEFERRALS : W .FN_SNAP_DEFERRALS)
    (wFN_STATUS : W .FN_STATUS) (wPERSIST_DEFERRED : W .PERSIST_DEFERRED) (wPERSIST_FLUSH : W .PERSIST_FLUSH)
    (qdict : Q .dict) (qfon : Q .fon) (h : Fr W Q z s) :
    Fr W Q z (State.askNow s w) := by
  unfold State.askNow
  repeat' first
    | with_reducible assumption | with_reducible apply State.ask_frame | with_reducible apply State.startDue_frame

theorem State.failDevice_frame {s : State} {d : Nat} {injected : Bool} (wALERT_STATUS : W .ALERT_STATUS)
    (wEVENT_NEXT : W .EVENT_NEXT) (wEVENT_OVERWRITTEN : W .EVENT_OVERWRITTEN) (wEVENT_PAGE : W .EVENT_PAGE)
    (wEVENT_SEQ : W .EVENT_SEQ) (wFN_DEV_A_SECTORS : W .FN_DEV_A_SECTORS) (wFN_DEV_B_SECTORS : W .FN_DEV_B_SECTORS)
    (wFN_STATUS : W .FN_STATUS) (qflt : Q .flt) (h : Fr W Q z s) :
    Fr W Q z (State.failDevice s d injected) := by
  unfold State.failDevice
  repeat' first
    | with_reducible assumption | with_reducible apply State.setFlag_frame | with_reducible apply State.wr_frame
    | with_reducible apply State.event_frame | split

theorem State.badCopy_frame {s : State} {d : Nat} {seq : Nat} {injected : Bool}
    (wALERT_STATUS : W .ALERT_STATUS) (wEVENT_NEXT : W .EVENT_NEXT) (wEVENT_OVERWRITTEN : W .EVENT_OVERWRITTEN)
    (wEVENT_PAGE : W .EVENT_PAGE) (wEVENT_SEQ : W .EVENT_SEQ) (wFN_BAD_COPIES : W .FN_BAD_COPIES)
    (wFN_DEV_A_SECTORS : W .FN_DEV_A_SECTORS) (wFN_DEV_B_SECTORS : W .FN_DEV_B_SECTORS) (wFN_STATUS : W .FN_STATUS)
    (qflt : Q .flt) (qfon : Q .fon) (h : Fr W Q z s) :
    Fr W Q z (State.badCopy s d seq injected) := by
  unfold State.badCopy
  repeat' first
    | with_reducible assumption | with_reducible refine State.when_kept ?_ ?_ | with_reducible apply State.inc_frame
    | with_reducible apply State.failDevice_frame | split | dsimp only | intro _ | with_reducible apply Fr.lit
    | with_reducible exact Or.inl (by assumption) | with_reducible exact Or.inr rfl

theorem State.goodCopy_frame {s : State} {d : Nat} (qfon : Q .fon) (h : Fr W Q z s) :
    Fr W Q z (State.goodCopy s d) := by
  unfold State.goodCopy
  repeat' first
    | with_reducible assumption | split | dsimp only | intro _ | with_reducible apply Fr.lit
    | with_reducible exact Or.inl (by assumption) | with_reducible exact Or.inr rfl

theorem State.commitDone_frame {s : State} {c : Commit} (wFN_HEAD_SEQ : W .FN_HEAD_SEQ)
    (wFN_SNAP_DEFERRALS : W .FN_SNAP_DEFERRALS) (wFN_SNAP_LAST : W .FN_SNAP_LAST) (wFN_SNAP_REQ : W .FN_SNAP_REQ)
    (wFN_STATUS : W .FN_STATUS) (wPERSIST_COMMITS : W .PERSIST_COMMITS) (wPERSIST_DEFERRED : W .PERSIST_DEFERRED)
    (wPERSIST_FLUSH : W .PERSIST_FLUSH) (qdict : Q .dict) (qflash : Q .flash) (qfon : Q .fon) (h : Fr W Q z s) :
    Fr W Q z (State.commitDone s c) := by
  unfold State.commitDone
  repeat' first
    | with_reducible assumption | with_reducible refine State.when_kept ?_ ?_ | with_reducible apply State.wr_frame
    | with_reducible apply State.inc_frame | with_reducible apply State.ask_frame
    | with_reducible apply State.startDue_frame | split | dsimp only | intro _ | with_reducible apply Fr.lit
    | with_reducible exact Or.inl (by assumption) | with_reducible exact Or.inr rfl

theorem State.nextRecord_frame {s : State} {c : Commit} (wFN_HEAD_SEQ : W .FN_HEAD_SEQ)
    (wFN_SNAP_DEFERRALS : W .FN_SNAP_DEFERRALS) (wFN_SNAP_LAST : W .FN_SNAP_LAST) (wFN_SNAP_REQ : W .FN_SNAP_REQ)
    (wFN_STATUS : W .FN_STATUS) (wPERSIST_COMMITS : W .PERSIST_COMMITS) (wPERSIST_DEFERRED : W .PERSIST_DEFERRED)
    (wPERSIST_FLUSH : W .PERSIST_FLUSH) (qdict : Q .dict) (qflash : Q .flash) (qfon : Q .fon) (h : Fr W Q z s) :
    Fr W Q z (State.nextRecord s c) := by
  unfold State.nextRecord
  repeat' first
    | with_reducible assumption | with_reducible apply State.commitDone_frame | split | dsimp only | intro _
    | with_reducible apply Fr.lit | with_reducible exact Or.inl (by assumption) | with_reducible exact Or.inr rfl

theorem State.resetFondant_frame {s : State} (qdict : Q .dict) (qfon : Q .fon) (h : Fr W Q z s) :
    Fr W Q z (State.resetFondant s) := by
  unfold State.resetFondant
  repeat' first
    | with_reducible assumption | with_reducible apply State.ask_frame | split | dsimp only | intro _
    | with_reducible apply Fr.lit | with_reducible exact Or.inl (by assumption) | with_reducible exact Or.inr rfl

theorem State.recordDone_frame {s : State} {c : Commit} {ok : Bool} (wALERT_STATUS : W .ALERT_STATUS)
    (wEVENT_NEXT : W .EVENT_NEXT) (wEVENT_OVERWRITTEN : W .EVENT_OVERWRITTEN) (wEVENT_PAGE : W .EVENT_PAGE)
    (wEVENT_SEQ : W .EVENT_SEQ) (wFN_BAD_COPIES : W .FN_BAD_COPIES) (wFN_DEV_A_SECTORS : W .FN_DEV_A_SECTORS)
    (wFN_DEV_B_SECTORS : W .FN_DEV_B_SECTORS) (wFN_HEAD_SEQ : W .FN_HEAD_SEQ)
    (wFN_SNAP_DEFERRALS : W .FN_SNAP_DEFERRALS) (wFN_SNAP_LAST : W .FN_SNAP_LAST) (wFN_SNAP_REQ : W .FN_SNAP_REQ)
    (wFN_STATUS : W .FN_STATUS) (wINJ_ARM : W .INJ_ARM) (wINJ_COUNT : W .INJ_COUNT) (wINJ_RESULT : W .INJ_RESULT)
    (wPERSIST_COMMITS : W .PERSIST_COMMITS) (wPERSIST_DEFERRED : W .PERSIST_DEFERRED)
    (wPERSIST_FLUSH : W .PERSIST_FLUSH) (qflt : Q .flt) (qinj : Q .inj) (qdict : Q .dict) (qflash : Q .flash)
    (qfon : Q .fon) (h : Fr W Q z s) :
    Fr W Q z (State.recordDone s c ok) := by
  unfold State.recordDone
  repeat' first
    | with_reducible assumption | with_reducible refine State.when_kept ?_ ?_
    | with_reducible apply State.endInjection_frame | with_reducible apply State.goodCopy_frame
    | with_reducible apply State.nextRecord_frame | with_reducible apply State.badCopy_frame | split | dsimp only
    | intro _ | with_reducible apply Fr.lit | with_reducible exact Or.inl (by assumption)
    | with_reducible exact Or.inr rfl

theorem execFondantRecordDone_frame {ok : Bool} {s : State} (wALERT_STATUS : W .ALERT_STATUS)
    (wEVENT_NEXT : W .EVENT_NEXT) (wEVENT_OVERWRITTEN : W .EVENT_OVERWRITTEN) (wEVENT_PAGE : W .EVENT_PAGE)
    (wEVENT_SEQ : W .EVENT_SEQ) (wFN_BAD_COPIES : W .FN_BAD_COPIES) (wFN_DEV_A_SECTORS : W .FN_DEV_A_SECTORS)
    (wFN_DEV_B_SECTORS : W .FN_DEV_B_SECTORS) (wFN_HEAD_SEQ : W .FN_HEAD_SEQ)
    (wFN_SNAP_DEFERRALS : W .FN_SNAP_DEFERRALS) (wFN_SNAP_LAST : W .FN_SNAP_LAST) (wFN_SNAP_REQ : W .FN_SNAP_REQ)
    (wFN_STATUS : W .FN_STATUS) (wINJ_ARM : W .INJ_ARM) (wINJ_COUNT : W .INJ_COUNT) (wINJ_RESULT : W .INJ_RESULT)
    (wPERSIST_COMMITS : W .PERSIST_COMMITS) (wPERSIST_DEFERRED : W .PERSIST_DEFERRED)
    (wPERSIST_FLUSH : W .PERSIST_FLUSH) (wSRAM_CE : W .SRAM_CE) (wSRAM_UE : W .SRAM_UE) (qflt : Q .flt)
    (qinj : Q .inj) (qdict : Q .dict) (qflash : Q .flash) (qfon : Q .fon) (h : Fr W Q z s) :
    ∀ t, execFondantRecordDone ok s = .next t → Fr W Q z t := by
  unfold execFondantRecordDone
  repeat' first
    | with_reducible refine next_kept ?_ | with_reducible assumption | with_reducible apply State.readFlips_frame
    | with_reducible apply State.sramLost_frame | with_reducible apply State.resetFondant_frame
    | with_reducible apply State.recordDone_frame | split | dsimp only | intro _

theorem execFondantCommit_frame {s : State} (wFN_SNAP_DEFERRALS : W .FN_SNAP_DEFERRALS)
    (wFN_STATUS : W .FN_STATUS) (wPERSIST_DEFERRED : W .PERSIST_DEFERRED) (wPERSIST_FLUSH : W .PERSIST_FLUSH)
    (qdict : Q .dict) (qfon : Q .fon) (h : Fr W Q z s) :
    ∀ t, execFondantCommit s = .next t → Fr W Q z t := by
  unfold execFondantCommit
  repeat' first
    | with_reducible refine next_kept ?_ | with_reducible assumption | with_reducible refine State.when_kept ?_ ?_
    | with_reducible apply State.startDue_frame | split | dsimp only | intro _

theorem execPersistCommit_frame {s : State} (wFN_SNAP_DEFERRALS : W .FN_SNAP_DEFERRALS)
    (wFN_STATUS : W .FN_STATUS) (wPERSIST_DEFERRED : W .PERSIST_DEFERRED) (wPERSIST_FLUSH : W .PERSIST_FLUSH)
    (qdict : Q .dict) (qfon : Q .fon) (h : Fr W Q z s) :
    ∀ t, execPersistCommit s = .next t → Fr W Q z t := by
  unfold execPersistCommit
  repeat' first
    | with_reducible refine next_kept ?_ | with_reducible assumption | with_reducible refine State.when_kept ?_ ?_
    | with_reducible apply State.askNow_frame | split | dsimp only | intro _

theorem execDailyCommit_frame {s : State} (wFN_SNAP_DEFERRALS : W .FN_SNAP_DEFERRALS)
    (wFN_STATUS : W .FN_STATUS) (wPERSIST_DEFERRED : W .PERSIST_DEFERRED) (wPERSIST_FLUSH : W .PERSIST_FLUSH)
    (qdict : Q .dict) (qfon : Q .fon) (h : Fr W Q z s) :
    ∀ t, execDailyCommit s = .next t → Fr W Q z t := by
  unfold execDailyCommit
  repeat' first
    | with_reducible refine next_kept ?_ | with_reducible assumption | with_reducible refine State.when_kept ?_ ?_
    | with_reducible apply State.askNow_frame | split | dsimp only | intro _ | with_reducible apply Fr.lit
    | with_reducible exact Or.inl (by assumption) | with_reducible exact Or.inr rfl

theorem execFondantCredit_frame {s : State} (wFN_SNAP_DEFERRALS : W .FN_SNAP_DEFERRALS)
    (wFN_STATUS : W .FN_STATUS) (wPERSIST_DEFERRED : W .PERSIST_DEFERRED) (wPERSIST_FLUSH : W .PERSIST_FLUSH)
    (qdict : Q .dict) (qfon : Q .fon) (h : Fr W Q z s) :
    ∀ t, execFondantCredit s = .next t → Fr W Q z t := by
  unfold execFondantCredit
  repeat' first
    | with_reducible refine next_kept ?_ | with_reducible assumption | with_reducible refine State.when_kept ?_ ?_
    | with_reducible apply State.startDue_frame | split | dsimp only | intro _ | with_reducible apply Fr.lit
    | with_reducible exact Or.inl (by assumption) | with_reducible exact Or.inr rfl

theorem execPralineSnapshot_frame {s : State} (wFN_SNAP_DEFERRALS : W .FN_SNAP_DEFERRALS)
    (wFN_STATUS : W .FN_STATUS) (wPERSIST_DEFERRED : W .PERSIST_DEFERRED) (wPERSIST_FLUSH : W .PERSIST_FLUSH)
    (qdict : Q .dict) (qfon : Q .fon) (h : Fr W Q z s) :
    ∀ t, execPralineSnapshot s = .next t → Fr W Q z t := by
  unfold execPralineSnapshot
  repeat' first
    | with_reducible refine next_kept ?_ | with_reducible assumption | with_reducible refine State.when_kept ?_ ?_
    | with_reducible apply State.askNow_frame | split | dsimp only | intro _

theorem execFondantRelocate_frame {s : State} (wFN_SNAP_DEFERRALS : W .FN_SNAP_DEFERRALS)
    (wFN_STATUS : W .FN_STATUS) (wPERSIST_DEFERRED : W .PERSIST_DEFERRED) (wPERSIST_FLUSH : W .PERSIST_FLUSH)
    (qdict : Q .dict) (qfon : Q .fon) (h : Fr W Q z s) :
    ∀ t, execFondantRelocate s = .next t → Fr W Q z t := by
  unfold execFondantRelocate
  repeat' first
    | with_reducible refine next_kept ?_ | with_reducible assumption | with_reducible refine State.when_kept ?_ ?_
    | with_reducible apply State.askRelocate_frame | with_reducible apply State.startDue_frame | split | dsimp only
    | intro _

theorem State.handSummary_frame {s : State} {x : Summ} (wFN_STATUS : W .FN_STATUS) (wFN_THINNED : W .FN_THINNED)
    (qfon : Q .fon) (h : Fr W Q z s) :
    Fr W Q z (State.handSummary s x) := by
  unfold State.handSummary
  repeat' first
    | with_reducible assumption | with_reducible apply State.inc_frame | with_reducible apply State.setFlag_frame
    | split | dsimp only | intro _ | with_reducible apply Fr.lit | with_reducible exact Or.inl (by assumption)
    | with_reducible exact Or.inr rfl

theorem State.summarise_frame {s : State} (wAUDIT_SUMMARIES : W .AUDIT_SUMMARIES) (wFN_STATUS : W .FN_STATUS)
    (wFN_THINNED : W .FN_THINNED) (qflt : Q .flt) (qdict : Q .dict) (qfon : Q .fon) (h : Fr W Q z s) :
    Fr W Q z (State.summarise s) := by
  unfold State.summarise
  repeat' first
    | with_reducible assumption | with_reducible refine State.when_kept ?_ ?_
    | with_reducible apply State.handSummary_frame | with_reducible apply State.inc_frame
    | with_reducible apply State.newPeriod_frame | with_reducible apply State.ask_frame | split | dsimp only | intro _
    | with_reducible apply Fr.lit | with_reducible exact Or.inl (by assumption) | with_reducible exact Or.inr rfl

theorem execAuditSummary_frame {s : State} (wAUDIT_SUMMARIES : W .AUDIT_SUMMARIES)
    (wFN_SNAP_DEFERRALS : W .FN_SNAP_DEFERRALS) (wFN_STATUS : W .FN_STATUS) (wFN_THINNED : W .FN_THINNED)
    (wPERSIST_DEFERRED : W .PERSIST_DEFERRED) (wPERSIST_FLUSH : W .PERSIST_FLUSH) (qflt : Q .flt) (qdict : Q .dict)
    (qfon : Q .fon) (h : Fr W Q z s) :
    ∀ t, execAuditSummary s = .next t → Fr W Q z t := by
  unfold execAuditSummary
  repeat' first
    | with_reducible refine next_kept ?_ | with_reducible assumption | with_reducible refine State.when_kept ?_ ?_
    | with_reducible apply State.summarise_frame | with_reducible apply State.startDue_frame | split | dsimp only
    | intro _

theorem State.discover_frame {s : State} {d : Nat} {x : FlashDev} (wALERT_STATUS : W .ALERT_STATUS)
    (wEVENT_NEXT : W .EVENT_NEXT) (wEVENT_OVERWRITTEN : W .EVENT_OVERWRITTEN) (wEVENT_PAGE : W .EVENT_PAGE)
    (wEVENT_SEQ : W .EVENT_SEQ) (wFN_DEV_A_SECTORS : W .FN_DEV_A_SECTORS) (wFN_DEV_B_SECTORS : W .FN_DEV_B_SECTORS)
    (wFN_STATUS : W .FN_STATUS) (qflt : Q .flt) (qflash : Q .flash) (h : Fr W Q z s) :
    Fr W Q z (State.discover s d x) := by
  unfold State.discover
  repeat' first
    | with_reducible assumption | with_reducible refine State.when_kept ?_ ?_ | with_reducible apply State.wr_frame
    | with_reducible apply State.failDevice_frame | split | dsimp only | intro _ | with_reducible apply Fr.lit
    | with_reducible exact Or.inl (by assumption) | with_reducible exact Or.inr rfl

theorem State.formatBoth_frame {s : State} (wFN_HEAD_SEQ : W .FN_HEAD_SEQ) (qflash : Q .flash) (qfon : Q .fon)
    (h : Fr W Q z s) :
    Fr W Q z (State.formatBoth s) := by
  unfold State.formatBoth
  repeat' first
    | with_reducible assumption | with_reducible apply State.wr_frame | split | dsimp only | intro _
    | with_reducible apply Fr.lit | with_reducible exact Or.inl (by assumption) | with_reducible exact Or.inr rfl

theorem State.compareSuper_frame {s : State} (wALERT_STATUS : W .ALERT_STATUS) (wEVENT_NEXT : W .EVENT_NEXT)
    (wEVENT_OVERWRITTEN : W .EVENT_OVERWRITTEN) (wEVENT_PAGE : W .EVENT_PAGE) (wEVENT_SEQ : W .EVENT_SEQ)
    (wFN_HEAD_SEQ : W .FN_HEAD_SEQ) (wFN_STATUS : W .FN_STATUS) (qflt : Q .flt) (qflash : Q .flash) (qfon : Q .fon)
    (h : Fr W Q z s) :
    Fr W Q z (State.compareSuper s) := by
  unfold State.compareSuper
  repeat' first
    | with_reducible assumption | with_reducible apply State.formatBoth_frame
    | with_reducible apply State.setFlag_frame | with_reducible apply State.event_frame | split | dsimp only | intro _
    | with_reducible apply Fr.lit | with_reducible exact Or.inl (by assumption) | with_reducible exact Or.inr rfl

theorem State.restoredView_frame {s : State} (wAll : ∀ o, W o) (h : Fr W Q z s) :
    Fr W Q z (State.restoredView s) := by
  unfold State.restoredView
  repeat' first
    | with_reducible assumption | with_reducible exact wAll _ | with_reducible refine State.each_kept ?_ ?_
    | with_reducible apply State.wr_frame | split | dsimp only | intro _

theorem State.restoreFail_frame {s : State} {a : Option Obj} {e : Nat} {i : Nat} {v : Nat} {c : Code}
    (wAUDIT_NEXT : W .AUDIT_NEXT) (wAUDIT_OK : W .AUDIT_OK) (wAUDIT_OVERWRITTEN : W .AUDIT_OVERWRITTEN)
    (wAUDIT_REFUSED : W .AUDIT_REFUSED) (wAUDIT_SEQ : W .AUDIT_SEQ) (qdict : Q .dict) (h : Fr W Q z s) :
    Fr W Q z (State.restoreFail s a e i v c) := by
  unfold State.restoreFail
  repeat' first
    | with_reducible assumption | with_reducible apply State.auditWrite_frame | split | dsimp only | intro _
    | with_reducible apply Fr.lit | with_reducible exact Or.inl (by assumption) | with_reducible exact Or.inr rfl

theorem State.restoreOne_frame {s : State} (wAUDIT_OK : W .AUDIT_OK) (wAUDIT_REFUSED : W .AUDIT_REFUSED)
    (qdict : Q .dict) (h : Fr W Q z s) :
    Fr W Q z (State.restoreOne s) := by
  unfold State.restoreOne
  repeat' first
    | with_reducible assumption | with_reducible apply State.auditCount_frame | split | dsimp only | intro _
    | with_reducible apply Fr.lit | with_reducible exact Or.inl (by assumption) | with_reducible exact Or.inr rfl

theorem State.restoreItem_frame {s : State} {view : State} {k : Nat} {v : Option Nat} (wAll : ∀ o, W o)
    (qdict : Q .dict) (h : Fr W Q z s) :
    Fr W Q z (State.restoreItem s view k v) := by
  unfold State.restoreItem
  repeat' first
    | with_reducible assumption | with_reducible exact wAll _ | with_reducible refine State.when_kept ?_ ?_
    | with_reducible apply State.restoreFail_frame | with_reducible apply State.wr_frame
    | with_reducible apply State.setDs_frame | with_reducible apply State.restoreOne_frame | split | dsimp only
    | intro _

theorem State.restoreStage_frame {s : State} {sel : Obj → Bool} (wAll : ∀ o, W o) (qdict : Q .dict)
    (h : Fr W Q z s) :
    Fr W Q z (State.restoreStage s sel) := by
  unfold State.restoreStage
  repeat' first
    | with_reducible assumption | with_reducible exact wAll _ | with_reducible refine State.each_kept ?_ ?_
    | with_reducible apply State.restoredView_frame | with_reducible apply State.restoreItem_frame | split
    | dsimp only | intro _

theorem State.adoptHead_frame {s : State} (wFN_HEAD_SEQ : W .FN_HEAD_SEQ) (qfon : Q .fon) (h : Fr W Q z s) :
    Fr W Q z (State.adoptHead s) := by
  unfold State.adoptHead
  repeat' first
    | with_reducible assumption | with_reducible apply State.wr_frame | split | dsimp only | intro _
    | with_reducible apply Fr.lit | with_reducible exact Or.inl (by assumption) | with_reducible exact Or.inr rfl

theorem State.readLifecycle_frame {s : State} (wLC_HISTORY : W .LC_HISTORY) (wLC_STATE : W .LC_STATE)
    (h : Fr W Q z s) :
    Fr W Q z (State.readLifecycle s) := by
  unfold State.readLifecycle
  repeat' first
    | with_reducible assumption | with_reducible apply State.wr_frame

theorem State.mountStore_frame {s : State} (wFN_HEAD_SEQ : W .FN_HEAD_SEQ) (wFN_LOST_PARTS : W .FN_LOST_PARTS)
    (wFN_ROLLBACKS : W .FN_ROLLBACKS) (wLC_HISTORY : W .LC_HISTORY) (wLC_STATE : W .LC_STATE) (qflash : Q .flash)
    (qfon : Q .fon) (h : Fr W Q z s) :
    Fr W Q z (State.mountStore s) := by
  unfold State.mountStore
  repeat' first
    | with_reducible assumption | with_reducible apply State.add_frame | with_reducible apply State.adoptHead_frame
    | with_reducible apply State.readLifecycle_frame | split | dsimp only | intro _ | with_reducible apply Fr.lit
    | with_reducible exact Or.inl (by assumption) | with_reducible exact Or.inr rfl

theorem execFondantMount_frame {a : FlashDev} {b : FlashDev} {s : State} (wALERT_STATUS : W .ALERT_STATUS)
    (wEVENT_NEXT : W .EVENT_NEXT) (wEVENT_OVERWRITTEN : W .EVENT_OVERWRITTEN) (wEVENT_PAGE : W .EVENT_PAGE)
    (wEVENT_SEQ : W .EVENT_SEQ) (wFN_DEV_A_SECTORS : W .FN_DEV_A_SECTORS) (wFN_DEV_B_SECTORS : W .FN_DEV_B_SECTORS)
    (wFN_HEAD_SEQ : W .FN_HEAD_SEQ) (wFN_LOST_PARTS : W .FN_LOST_PARTS) (wFN_RING : W .FN_RING)
    (wFN_ROLLBACKS : W .FN_ROLLBACKS) (wFN_STATUS : W .FN_STATUS) (wLC_HISTORY : W .LC_HISTORY)
    (wLC_STATE : W .LC_STATE) (wUNIT_READY : W .UNIT_READY) (qflt : Q .flt) (qflash : Q .flash) (qfon : Q .fon)
    (h : Fr W Q z s) :
    ∀ t, execFondantMount a b s = .next t → Fr W Q z t := by
  unfold execFondantMount
  repeat' first
    | with_reducible refine next_kept ?_ | with_reducible assumption | with_reducible refine State.when_kept ?_ ?_
    | with_reducible apply State.discover_frame | with_reducible apply State.compareSuper_frame
    | with_reducible apply State.mountStore_frame | with_reducible apply State.setFlag_frame
    | with_reducible apply State.wr_frame | with_reducible apply State.setReady_frame | split | dsimp only | intro _
    | with_reducible apply Fr.lit | with_reducible exact Or.inl (by assumption) | with_reducible exact Or.inr rfl

theorem execFondantRepair_frame {s : State} (wFN_REPAIRS : W .FN_REPAIRS) (wFN_STATUS : W .FN_STATUS)
    (qflash : Q .flash) (qfon : Q .fon) (h : Fr W Q z s) :
    ∀ t, execFondantRepair s = .next t → Fr W Q z t := by
  unfold execFondantRepair
  repeat' first
    | with_reducible refine next_kept ?_ | with_reducible assumption | with_reducible refine State.when_kept ?_ ?_
    | with_reducible apply State.setFlag_frame | with_reducible apply State.add_frame | split | dsimp only | intro _
    | with_reducible apply Fr.lit | with_reducible exact Or.inl (by assumption) | with_reducible exact Or.inr rfl

theorem State.acceptFormat_frame {s : State} (wFN_HEAD_SEQ : W .FN_HEAD_SEQ) (wFN_RING : W .FN_RING)
    (wFN_STATUS : W .FN_STATUS) (wUNIT_READY : W .UNIT_READY) (qflash : Q .flash) (qfon : Q .fon) (h : Fr W Q z s) :
    Fr W Q z (State.acceptFormat s) := by
  unfold State.acceptFormat
  repeat' first
    | with_reducible assumption | with_reducible refine State.when_kept ?_ ?_
    | with_reducible apply State.formatBoth_frame | with_reducible apply State.setFlag_frame
    | with_reducible apply State.wr_frame | with_reducible apply State.setReady_frame | split | dsimp only | intro _

theorem State.loadStart_frame {s : State} (wAll : ∀ o, W o) (qdict : Q .dict) (qfon : Q .fon) (h : Fr W Q z s) :
    Fr W Q z (State.loadStart s) := by
  unfold State.loadStart
  repeat' first
    | with_reducible assumption | with_reducible exact wAll _ | with_reducible apply State.restoreStage_frame
    | with_reducible apply State.setFlag_frame | split | dsimp only | intro _ | with_reducible apply Fr.lit
    | with_reducible exact Or.inl (by assumption) | with_reducible exact Or.inr rfl

theorem execExcludedMapApply_frame {s : State} (wAll : ∀ o, W o) (qsu : Q .su) (qdict : Q .dict) (qfon : Q .fon)
    (h : Fr W Q z s) :
    ∀ t, execExcludedMapApply s = .next t → Fr W Q z t := by
  unfold execExcludedMapApply
  repeat' first
    | with_reducible refine next_kept ?_ | with_reducible assumption | with_reducible exact wAll _
    | with_reducible refine State.each_kept ?_ ?_ | with_reducible refine State.when_kept ?_ ?_
    | with_reducible apply State.restoreStage_frame | with_reducible apply State.wr_frame
    | with_reducible apply State.loadStart_frame | split | dsimp only | intro _ | with_reducible apply Fr.lit
    | with_reducible exact Or.inl (by assumption) | with_reducible exact Or.inr rfl

theorem State.restoreLimit_frame {s : State} {o : Obj} {r : Nat} {v : Nat} (wAll : ∀ o, W o) (qflt : Q .flt)
    (qrail : Q .rail) (h : Fr W Q z s) :
    Fr W Q z (State.restoreLimit s o r v) := by
  unfold State.restoreLimit
  repeat' first
    | with_reducible assumption | with_reducible exact wAll _ | with_reducible apply State.clampRating_frame
    | with_reducible apply State.modRa_frame | split

theorem State.restoreRails_frame {s : State} (wAll : ∀ o, W o) (qflt : Q .flt) (qrail : Q .rail)
    (qdict : Q .dict) (h : Fr W Q z s) :
    Fr W Q z (State.restoreRails s) := by
  unfold State.restoreRails
  repeat' first
    | with_reducible assumption | with_reducible exact wAll _ | with_reducible refine State.each_kept ?_ ?_
    | with_reducible apply State.restoreFail_frame | with_reducible apply State.restoreLimit_frame
    | with_reducible apply State.restoreOne_frame | split | dsimp only | intro _

theorem State.loadState_frame {s : State} (wAll : ∀ o, W o) (qclock : Q .clock) (qrefs : Q .refs)
    (qflt : Q .flt) (qrgn : Q .rgn) (qrail : Q .rail) (qcaps : Q .caps) (qdict : Q .dict) (qfreeN : Q .freeN)
    (h : Fr W Q z s) :
    Fr W Q z (State.loadState s) := by
  unfold State.loadState
  repeat' first
    | with_reducible assumption | with_reducible exact wAll _ | with_reducible apply State.restoreStage_frame
    | with_reducible apply State.restoreRails_frame | with_reducible apply State.prefer_frame
    | with_reducible apply State.limitsDue_frame | with_reducible apply State.setFlag_frame | split | dsimp only
    | intro _ | with_reducible apply Fr.lit | with_reducible exact Or.inl (by assumption)
    | with_reducible exact Or.inr rfl

theorem execMailboxOpen_frame {s : State} (wAll : ∀ o, W o) (qclock : Q .clock) (qrefs : Q .refs)
    (qflt : Q .flt) (qrgn : Q .rgn) (qrail : Q .rail) (qcaps : Q .caps) (qdict : Q .dict) (qfreeN : Q .freeN)
    (qfdp : Q .fdp) (h : Fr W Q z s) :
    ∀ t, execMailboxOpen s = .next t → Fr W Q z t := by
  unfold execMailboxOpen
  repeat' first
    | with_reducible refine next_kept ?_ | with_reducible assumption | with_reducible exact wAll _
    | with_reducible refine State.when_kept ?_ ?_ | with_reducible apply State.loadState_frame
    | with_reducible apply State.setReady_frame | split | dsimp only | intro _ | with_reducible apply Fr.lit
    | with_reducible exact Or.inl (by assumption) | with_reducible exact Or.inr rfl

theorem execDictOpen_frame {s : State} (wAll : ∀ o, W o) (qest : Q .est) (qdict : Q .dict) (h : Fr W Q z s) :
    ∀ t, execDictOpen s = .next t → Fr W Q z t := by
  unfold execDictOpen
  repeat' first
    | with_reducible refine next_kept ?_ | with_reducible assumption | with_reducible exact wAll _
    | with_reducible refine State.each_kept ?_ ?_ | with_reducible refine State.when_kept ?_ ?_
    | with_reducible apply State.restoreStage_frame | with_reducible apply State.factoryWeights_frame
    | with_reducible apply State.modE_frame | with_reducible apply State.auditPut_frame
    | with_reducible apply State.setFlag_frame | with_reducible apply State.setReady_frame | split | dsimp only
    | intro _

theorem State.loadEntry_frame {s : State} {x : Item} (wPR_GROUP_TABLE : W .PR_GROUP_TABLE) (qphase : Q .phase)
    (h : Fr W Q z s) :
    Fr W Q z (State.loadEntry s x) := by
  unfold State.loadEntry
  repeat' first
    | with_reducible assumption | with_reducible apply State.wrBytes_frame | split | dsimp only | intro _
    | with_reducible apply Fr.lit | with_reducible exact Or.inl (by assumption) | with_reducible exact Or.inr rfl

theorem State.loadChain_frame {s : State} (wFN_SNAP_LAST : W .FN_SNAP_LAST) (wFN_STATUS : W .FN_STATUS)
    (wPR_GROUP_TABLE : W .PR_GROUP_TABLE) (qphase : Q .phase) (qfon : Q .fon) (h : Fr W Q z s) :
    Fr W Q z (State.loadChain s) := by
  unfold State.loadChain
  repeat' first
    | with_reducible assumption | with_reducible refine State.each_kept ?_ ?_
    | with_reducible apply State.loadEntry_frame | with_reducible apply State.wr_frame
    | with_reducible apply State.setFlag_frame | split | dsimp only | intro _ | with_reducible apply Fr.lit
    | with_reducible exact Or.inl (by assumption) | with_reducible exact Or.inr rfl

theorem execPralineOpen_frame {s : State} (wFN_SNAP_LAST : W .FN_SNAP_LAST) (wFN_STATUS : W .FN_STATUS)
    (wPR_GROUP_TABLE : W .PR_GROUP_TABLE) (wUNIT_READY : W .UNIT_READY) (qphase : Q .phase) (qfon : Q .fon)
    (h : Fr W Q z s) :
    ∀ t, execPralineOpen s = .next t → Fr W Q z t := by
  unfold execPralineOpen
  repeat' first
    | with_reducible refine next_kept ?_ | with_reducible assumption | with_reducible refine State.when_kept ?_ ?_
    | with_reducible apply State.loadChain_frame | with_reducible apply State.setReady_frame | split | dsimp only
    | intro _

theorem State.acceptTransition_frame {s : State} {t : Nat} (wFN_SNAP_DEFERRALS : W .FN_SNAP_DEFERRALS)
    (wFN_STATUS : W .FN_STATUS) (wLC_ARM : W .LC_ARM) (wLC_REQUEST : W .LC_REQUEST) (wLC_STATUS : W .LC_STATUS)
    (wPERSIST_DEFERRED : W .PERSIST_DEFERRED) (wPERSIST_FLUSH : W .PERSIST_FLUSH) (qdict : Q .dict) (qfon : Q .fon)
    (h : Fr W Q z s) :
    Fr W Q z (State.acceptTransition s t) := by
  unfold State.acceptTransition
  repeat' first
    | with_reducible assumption | with_reducible apply State.wr_frame | with_reducible apply State.setFlag_frame
    | with_reducible apply State.askNow_frame | split | dsimp only | intro _ | with_reducible apply Fr.lit
    | with_reducible exact Or.inl (by assumption) | with_reducible exact Or.inr rfl

theorem State.acceptArm_frame {s : State} (wLC_ARM : W .LC_ARM) (qfon : Q .fon) (h : Fr W Q z s) :
    Fr W Q z (State.acceptArm s) := by
  unfold State.acceptArm
  repeat' first
    | with_reducible assumption | with_reducible apply State.wr_frame | split | dsimp only | intro _
    | with_reducible apply Fr.lit | with_reducible exact Or.inl (by assumption) | with_reducible exact Or.inr rfl

theorem execLcArmExpiry_frame {s : State} (wLC_ARM : W .LC_ARM) (qfon : Q .fon) (h : Fr W Q z s) :
    ∀ t, execLcArmExpiry s = .next t → Fr W Q z t := by
  unfold execLcArmExpiry
  repeat' first
    | with_reducible refine next_kept ?_ | with_reducible assumption | with_reducible refine State.when_kept ?_ ?_
    | with_reducible apply State.wr_frame | split | dsimp only | intro _ | with_reducible apply Fr.lit
    | with_reducible exact Or.inl (by assumption) | with_reducible exact Or.inr rfl

theorem State.clearAudit_frame {s : State} (qdict : Q .dict) (qfon : Q .fon) (h : Fr W Q z s) :
    Fr W Q z (State.clearAudit s) := by
  unfold State.clearAudit
  repeat' first
    | with_reducible assumption | split | dsimp only | intro _ | with_reducible apply Fr.lit
    | with_reducible exact Or.inl (by assumption) | with_reducible exact Or.inr rfl

theorem State.resetObj_frame {s : State} {o : Obj} (wAll : ∀ o, W o) (h : Fr W Q z s) :
    Fr W Q z (State.resetObj s o) := by
  exact ⟨fun o e i hw => absurd (wAll o) hw, h.build, h.part⟩

theorem State.clearTenant_frame {s : State} (wAll : ∀ o, W o) (qgrp : Q .grp) (qenergy : Q .energy)
    (qbudget : Q .budget) (h : Fr W Q z s) :
    Fr W Q z (State.clearTenant s) := by
  unfold State.clearTenant
  repeat' first
    | with_reducible assumption | with_reducible exact wAll _ | with_reducible refine State.each_kept ?_ ?_
    | with_reducible apply State.resetObj_frame | with_reducible apply State.modG_frame | split | dsimp only | intro _
    | with_reducible apply Fr.lit | with_reducible exact Or.inl (by assumption) | with_reducible exact Or.inr rfl

theorem execLcTransition_frame {s : State} (wAll : ∀ o, W o) (qgrp : Q .grp) (qdict : Q .dict)
    (qenergy : Q .energy) (qphase : Q .phase) (qbudget : Q .budget) (qfon : Q .fon) (h : Fr W Q z s) :
    ∀ t, execLcTransition s = .next t → Fr W Q z t := by
  unfold execLcTransition
  repeat' first
    | with_reducible refine next_kept ?_ | with_reducible assumption | with_reducible exact wAll _
    | with_reducible refine State.when_kept ?_ ?_ | with_reducible apply State.wr_frame
    | with_reducible apply State.setFlag_frame | with_reducible apply State.clearAudit_frame
    | with_reducible apply State.clearPraline_frame | with_reducible apply State.clearTenant_frame
    | with_reducible apply State.setReady_frame | with_reducible apply State.startDue_frame | split | dsimp only
    | intro _ | with_reducible apply Fr.lit | with_reducible exact Or.inl (by assumption)
    | with_reducible exact Or.inr rfl

theorem execFondantWipe_frame {s : State} (qflash : Q .flash) (h : Fr W Q z s) :
    ∀ t, execFondantWipe s = .next t → Fr W Q z t := by
  unfold execFondantWipe
  repeat' first
    | with_reducible refine next_kept ?_ | with_reducible assumption | with_reducible refine State.when_kept ?_ ?_
    | split | dsimp only | intro _ | with_reducible apply Fr.lit | with_reducible exact Or.inl (by assumption)
    | with_reducible exact Or.inr rfl

end Sys2Proof.Machine
end

