-- ==== Sys2Proof/Laws/FrameD.lean ====
section
/-! SUPPORT. The ports, writes, the field bus, faults and start-up: the objects and parts each operation may change. -/

set_option Elab.async false

namespace Sys2Proof.Machine
open Sys2Proof

variable {W : Obj → Prop} {Q : Part → Prop} {z : State}

/-! ### Answer -/

theorem State.transmit_frame {s : State} {r : FdpRsp} (wFB_TX_DROPPED : W .FB_TX_DROPPED)
    (wFB_TX_FRAMES : W .FB_TX_FRAMES) (qfdp : Q .fdp) (h : Fr W Q z s) :
    Fr W Q z (State.transmit s r) := by
  unfold State.transmit
  repeat' first
    | with_reducible assumption | with_reducible apply State.inc_frame | split | dsimp only | intro _
    | with_reducible apply Fr.lit | with_reducible exact Or.inl (by assumption) | with_reducible exact Or.inr rfl

theorem State.sendRsp_frame {s : State} {q : FdpFrame} {r : FdpRsp} (wFB_BUSY_ANSWERS : W .FB_BUSY_ANSWERS)
    (wFB_MALFORMED : W .FB_MALFORMED) (wFB_TX_DROPPED : W .FB_TX_DROPPED) (wFB_TX_FRAMES : W .FB_TX_FRAMES)
    (qfdp : Q .fdp) (h : Fr W Q z s) :
    Fr W Q z (State.sendRsp s q r) := by
  unfold State.sendRsp
  repeat' first
    | with_reducible assumption | with_reducible refine State.when_kept ?_ ?_ | with_reducible apply State.inc_frame
    | with_reducible apply State.transmit_frame | split | dsimp only | intro _ | with_reducible apply Fr.lit
    | with_reducible exact Or.inl (by assumption) | with_reducible exact Or.inr rfl

theorem State.fdpRead_frame {s : State} {q : FdpFrame} {o : Obj} {v : Nat}
    (wFB_BUSY_ANSWERS : W .FB_BUSY_ANSWERS) (wFB_MALFORMED : W .FB_MALFORMED) (wFB_TX_DROPPED : W .FB_TX_DROPPED)
    (wFB_TX_FRAMES : W .FB_TX_FRAMES) (qfdp : Q .fdp) (h : Fr W Q z s) :
    Fr W Q z (State.fdpRead s q o v) := by
  unfold State.fdpRead
  repeat' first
    | with_reducible assumption | with_reducible apply State.sendRsp_frame | split | dsimp only | intro _
    | with_reducible apply Fr.lit | with_reducible exact Or.inl (by assumption) | with_reducible exact Or.inr rfl

theorem State.answerFdp_frame {s : State} {q : FdpFrame} {write : Bool} {c : Code} {o : Option Obj} {v : Nat}
    (wFB_BUSY_ANSWERS : W .FB_BUSY_ANSWERS) (wFB_MALFORMED : W .FB_MALFORMED) (wFB_TX_DROPPED : W .FB_TX_DROPPED)
    (wFB_TX_FRAMES : W .FB_TX_FRAMES) (qfdp : Q .fdp) (h : Fr W Q z s) :
    Fr W Q z (State.answerFdp s q write c o v) := by
  unfold State.answerFdp
  repeat' first
    | with_reducible assumption | with_reducible apply State.fdpRead_frame | with_reducible apply State.sendRsp_frame
    | split

theorem State.answerIdx_frame {s : State} {write : Bool} {c : Code} {o : Option Obj} {v : Nat} (qidx : Q .idx)
    (h : Fr W Q z s) :
    Fr W Q z (State.answerIdx s write c o v) := by
  unfold State.answerIdx
  repeat' first
    | with_reducible assumption | split | dsimp only | intro _ | with_reducible apply Fr.lit
    | with_reducible exact Or.inl (by assumption) | with_reducible exact Or.inr rfl

theorem State.answerNet_frame {s : State} {p : Nat} {frame : Nat} {c : Code} {v : Nat}
    (wBX_DIRECTIVES : W .BX_DIRECTIVES) (qbudget : Q .budget) (h : Fr W Q z s) :
    Fr W Q z (State.answerNet s p frame c v) := by
  unfold State.answerNet
  repeat' first
    | with_reducible assumption | with_reducible apply State.queueFrame_frame | with_reducible apply State.inc_frame

theorem State.hostAnswer_frame {s : State} {addr : Nat} {write : Bool} {c : Code} {data : Nat} {retry : Nat}
    (wHP_DENIED : W .HP_DENIED) (wHP_ERRORS : W .HP_ERRORS) (wHP_LAST_STATUS : W .HP_LAST_STATUS)
    (wHP_NOTREADY : W .HP_NOTREADY) (qdict : Q .dict) (qports : Q .ports) (h : Fr W Q z s) :
    Fr W Q z (State.hostAnswer s addr write c data retry) := by
  unfold State.hostAnswer
  repeat' first
    | with_reducible assumption | with_reducible apply State.wr_frame | with_reducible apply State.inc_frame | split
    | dsimp only | intro _ | with_reducible apply Fr.lit | with_reducible exact Or.inl (by assumption)
    | with_reducible exact Or.inr rfl

theorem State.replyVal_frame {s : State} {a : Access} {c : Code} {known : Option (Obj × Nat)} {v : Nat}
    (wBX_DIRECTIVES : W .BX_DIRECTIVES) (wFB_BUSY_ANSWERS : W .FB_BUSY_ANSWERS) (wFB_MALFORMED : W .FB_MALFORMED)
    (wFB_TX_DROPPED : W .FB_TX_DROPPED) (wFB_TX_FRAMES : W .FB_TX_FRAMES) (wHP_DENIED : W .HP_DENIED)
    (wHP_ERRORS : W .HP_ERRORS) (wHP_LAST_STATUS : W .HP_LAST_STATUS) (wHP_NOTREADY : W .HP_NOTREADY)
    (qdict : Q .dict) (qports : Q .ports) (qbudget : Q .budget) (qidx : Q .idx) (qfdp : Q .fdp) (h : Fr W Q z s) :
    Fr W Q z (State.replyVal s a c known v) := by
  unfold State.replyVal
  repeat' first
    | with_reducible assumption | with_reducible apply State.hostAnswer_frame
    | with_reducible apply State.answerIdx_frame | with_reducible apply State.answerFdp_frame
    | with_reducible apply State.respond_frame | with_reducible apply State.answerNet_frame | split | dsimp only
    | intro _ | with_reducible apply Fr.lit | with_reducible exact Or.inl (by assumption)
    | with_reducible exact Or.inr rfl

theorem State.reply_frame {s : State} {a : Access} {c : Code} {known : Option (Obj × Nat)}
    (wBX_DIRECTIVES : W .BX_DIRECTIVES) (wFB_BUSY_ANSWERS : W .FB_BUSY_ANSWERS) (wFB_MALFORMED : W .FB_MALFORMED)
    (wFB_TX_DROPPED : W .FB_TX_DROPPED) (wFB_TX_FRAMES : W .FB_TX_FRAMES) (wHP_DENIED : W .HP_DENIED)
    (wHP_ERRORS : W .HP_ERRORS) (wHP_LAST_STATUS : W .HP_LAST_STATUS) (wHP_NOTREADY : W .HP_NOTREADY)
    (qdict : Q .dict) (qports : Q .ports) (qbudget : Q .budget) (qidx : Q .idx) (qfdp : Q .fdp) (h : Fr W Q z s) :
    Fr W Q z (State.reply s a c known) := by
  unfold State.reply
  repeat' first
    | with_reducible assumption | with_reducible apply State.replyVal_frame

/-! ### Writes -/

theorem State.loseEvent_frame {s : State} {w : Nat} (wEVENT_OVERWRITTEN : W .EVENT_OVERWRITTEN)
    (wEVENT_PAGE : W .EVENT_PAGE) (h : Fr W Q z s) :
    Fr W Q z (State.loseEvent s w) := by
  unfold State.loseEvent
  repeat' first
    | with_reducible assumption | with_reducible apply State.wr_frame | with_reducible apply State.inc_frame

theorem State.wordLost_frame {s : State} {x : Flip} (wALERT_STATUS : W .ALERT_STATUS)
    (wEVENT_NEXT : W .EVENT_NEXT) (wEVENT_OVERWRITTEN : W .EVENT_OVERWRITTEN) (wEVENT_PAGE : W .EVENT_PAGE)
    (wEVENT_SEQ : W .EVENT_SEQ) (wPR_GROUP_TABLE : W .PR_GROUP_TABLE) (qflt : Q .flt) (qest : Q .est)
    (qphase : Q .phase) (h : Fr W Q z s) :
    Fr W Q z (State.wordLost s x) := by
  unfold State.wordLost
  repeat' first
    | with_reducible assumption | with_reducible apply State.sramLost_frame
    | with_reducible apply State.loseWeight_frame | with_reducible apply State.loseTag_frame
    | with_reducible apply State.loseEvent_frame | split

theorem State.touch_frame {s : State} {o : Obj} {e : Nat} {i : Nat} (wALERT_STATUS : W .ALERT_STATUS)
    (wEVENT_NEXT : W .EVENT_NEXT) (wEVENT_OVERWRITTEN : W .EVENT_OVERWRITTEN) (wEVENT_PAGE : W .EVENT_PAGE)
    (wEVENT_SEQ : W .EVENT_SEQ) (wINJ_ARM : W .INJ_ARM) (wINJ_COUNT : W .INJ_COUNT) (wINJ_RESULT : W .INJ_RESULT)
    (wPR_GROUP_TABLE : W .PR_GROUP_TABLE) (wSRAM_CE : W .SRAM_CE) (wSRAM_UE : W .SRAM_UE) (qflt : Q .flt)
    (qinj : Q .inj) (qest : Q .est) (qphase : Q .phase) (h : Fr W Q z s) :
    Fr W Q z (State.touch s o e i).2 := by
  unfold State.touch
  repeat' first
    | with_reducible assumption | with_reducible apply State.readFlips_frame
    | with_reducible apply State.wordLost_frame | split | dsimp only | intro _

theorem State.askAging_frame {s : State} (wAGE_SAMPLE_REQ : W .AGE_SAMPLE_REQ) (qrgn : Q .rgn) (h : Fr W Q z s) :
    Fr W Q z (State.askAging s) := by
  unfold State.askAging
  repeat' first
    | with_reducible assumption | with_reducible refine State.each_kept ?_ ?_
    | with_reducible refine State.when_kept ?_ ?_ | with_reducible apply State.modR_frame
    | with_reducible apply State.wr_frame | split | dsimp only | intro _

theorem State.newWeights_frame {s : State} {n : Nat} (wEST_WEIGHT : W .EST_WEIGHT) (qest : Q .est)
    (h : Fr W Q z s) :
    Fr W Q z (State.newWeights s n) := by
  unfold State.newWeights
  repeat' first
    | with_reducible assumption | with_reducible apply State.factoryWeights_frame
    | with_reducible apply State.modE_frame

theorem State.resetCal_frame {s : State} (wEST_WEIGHT : W .EST_WEIGHT) (qest : Q .est) (qlane : Q .lane)
    (h : Fr W Q z s) :
    Fr W Q z (State.resetCal s) := by
  unfold State.resetCal
  repeat' first
    | with_reducible assumption | with_reducible refine State.each_kept ?_ ?_
    | with_reducible apply State.factoryWeights_frame | with_reducible apply State.clearIdle_frame
    | with_reducible apply State.modE_frame | split | dsimp only | intro _

theorem State.writeUnlock_frame {s : State} {v : Nat} (wEXPERT_UNLOCK : W .EXPERT_UNLOCK)
    (wEXPERT_UNLOCKS : W .EXPERT_UNLOCKS) (qdict : Q .dict) (h : Fr W Q z s) :
    Fr W Q z (State.writeUnlock s v) := by
  unfold State.writeUnlock
  repeat' first
    | with_reducible assumption | with_reducible refine State.when_kept ?_ ?_ | with_reducible apply State.wr_frame
    | with_reducible apply State.inc_frame | split | dsimp only | intro _ | with_reducible apply Fr.lit
    | with_reducible exact Or.inl (by assumption) | with_reducible exact Or.inr rfl

theorem State.flushNow_frame {s : State} (wFN_SNAP_DEFERRALS : W .FN_SNAP_DEFERRALS) (wFN_STATUS : W .FN_STATUS)
    (wPERSIST_DEFERRED : W .PERSIST_DEFERRED) (wPERSIST_FLUSH : W .PERSIST_FLUSH) (qdict : Q .dict) (qfon : Q .fon)
    (h : Fr W Q z s) :
    Fr W Q z (State.flushNow s) := by
  unfold State.flushNow
  repeat' first
    | with_reducible assumption | with_reducible apply State.askNow_frame | split | dsimp only | intro _
    | with_reducible apply Fr.lit | with_reducible exact Or.inl (by assumption) | with_reducible exact Or.inr rfl

theorem State.askReset_frame {s : State} (wAUDIT_SUMMARIES : W .AUDIT_SUMMARIES)
    (wFN_SNAP_DEFERRALS : W .FN_SNAP_DEFERRALS) (wFN_STATUS : W .FN_STATUS) (wFN_THINNED : W .FN_THINNED)
    (wPERSIST_DEFERRED : W .PERSIST_DEFERRED) (wPERSIST_FLUSH : W .PERSIST_FLUSH)
    (wSELF_RESET_REQ : W .SELF_RESET_REQ) (qsu : Q .su) (qflt : Q .flt) (qdict : Q .dict) (qfon : Q .fon)
    (h : Fr W Q z s) :
    Fr W Q z (State.askReset s) := by
  unfold State.askReset
  repeat' first
    | with_reducible assumption | with_reducible apply State.wr_frame | with_reducible apply State.flushNow_frame
    | with_reducible apply State.summarise_frame | with_reducible apply State.startDue_frame | split | dsimp only
    | intro _ | with_reducible apply Fr.lit | with_reducible exact Or.inl (by assumption)
    | with_reducible exact Or.inr rfl

theorem State.ackAlerts_frame {s : State} {mask : Nat} (wALERT_STATUS : W .ALERT_STATUS) (qflt : Q .flt)
    (h : Fr W Q z s) :
    Fr W Q z (State.ackAlerts s mask) := by
  unfold State.ackAlerts
  repeat' first
    | with_reducible assumption | with_reducible apply State.wr_frame | with_reducible apply State.driveAlert_frame

theorem State.arm_frame {s : State} (wALERT_STATUS : W .ALERT_STATUS) (wEVENT_NEXT : W .EVENT_NEXT)
    (wEVENT_OVERWRITTEN : W .EVENT_OVERWRITTEN) (wEVENT_PAGE : W .EVENT_PAGE) (wEVENT_SEQ : W .EVENT_SEQ)
    (wINJ_ARM : W .INJ_ARM) (wINJ_RESULT : W .INJ_RESULT) (qflt : Q .flt) (qinj : Q .inj) (h : Fr W Q z s) :
    Fr W Q z (State.arm s) := by
  unfold State.arm
  repeat' first
    | with_reducible assumption | with_reducible apply State.wr_frame | with_reducible apply State.event_frame | split
    | dsimp only | intro _ | with_reducible apply Fr.lit | with_reducible exact Or.inl (by assumption)
    | with_reducible exact Or.inr rfl

theorem State.writePermit_frame {s : State} {v : Nat} (wFIELD_TEST_PERMIT : W .FIELD_TEST_PERMIT)
    (qinj : Q .inj) (h : Fr W Q z s) :
    Fr W Q z (State.writePermit s v) := by
  unfold State.writePermit
  repeat' first
    | with_reducible assumption | with_reducible apply State.wr_frame | split | dsimp only | intro _
    | with_reducible apply Fr.lit | with_reducible exact Or.inl (by assumption) | with_reducible exact Or.inr rfl

theorem State.writeExcluded_frame {s : State} {n : Nat} {v : Nat} (wEXCLUDED_MAP : W .EXCLUDED_MAP)
    (wREGION_EXCLUDE_CAUSE : W .REGION_EXCLUDE_CAUSE) (qdict : Q .dict) (h : Fr W Q z s) :
    Fr W Q z (State.writeExcluded s n v) := by
  unfold State.writeExcluded
  repeat' first
    | with_reducible assumption | with_reducible refine State.when_kept ?_ ?_
    | with_reducible apply State.setFlag_frame | with_reducible apply State.wr_frame
    | with_reducible apply State.dirty_frame | split | dsimp only | intro _

theorem State.writeTable_frame {s : State} {g : Nat} {v : Nat} (wOP_TABLE : W .OP_TABLE)
    (wPR_GROUP_TABLE : W .PR_GROUP_TABLE) (qgrp : Q .grp) (h : Fr W Q z s) :
    Fr W Q z (State.writeTable s g v) := by
  unfold State.writeTable
  repeat' first
    | with_reducible assumption | with_reducible apply State.modG_frame | with_reducible apply State.wr_frame
    | with_reducible apply State.clearGconf_frame

theorem State.writeFixed_frame {s : State} {g : Nat} {v : Nat} (wCAP_STATUS : W .CAP_STATUS)
    (wFIELD_VNEED : W .FIELD_VNEED) (wFIELD_VOLT : W .FIELD_VOLT) (wFIELD_VOLT_AT_CEIL : W .FIELD_VOLT_AT_CEIL)
    (wFIXED_RATE_ENABLE : W .FIXED_RATE_ENABLE) (wGROUP_CEIL_REASON : W .GROUP_CEIL_REASON)
    (wGROUP_CHG_ABORTS : W .GROUP_CHG_ABORTS) (wGROUP_CHG_RESULT : W .GROUP_CHG_RESULT)
    (wGROUP_CHG_STATE : W .GROUP_CHG_STATE) (wGROUP_TARGET_N : W .GROUP_TARGET_N)
    (wOP_CEIL_ENTRY : W .OP_CEIL_ENTRY) (wPR_CUR_TAG : W .PR_CUR_TAG) (wPR_DISCARDED : W .PR_DISCARDED)
    (wRAIL_RETRIES : W .RAIL_RETRIES) (wRAIL_STATUS : W .RAIL_STATUS) (qfld : Q .fld) (qgrp : Q .grp)
    (qlink : Q .link) (qrail : Q .rail) (h : Fr W Q z s) :
    Fr W Q z (State.writeFixed s g v) := by
  unfold State.writeFixed
  repeat' first
    | with_reducible assumption | with_reducible refine State.when_kept ?_ ?_
    | with_reducible apply State.noteFixed_frame | with_reducible apply State.wr_frame
    | with_reducible apply State.discardOcc_frame | with_reducible apply State.retarget_frame
    | with_reducible apply State.showCapFlags_frame | split | dsimp only | intro _

theorem State.writeRun_frame {s : State} {g : Nat} {v : Nat} (wRUN_CTL : W .RUN_CTL) (qgrp : Q .grp)
    (h : Fr W Q z s) :
    Fr W Q z (State.writeRun s g v) := by
  unfold State.writeRun
  repeat' first
    | with_reducible assumption | with_reducible refine State.when_kept ?_ ?_ | with_reducible apply State.wr_frame
    | with_reducible apply State.modG_frame | split | dsimp only | intro _

theorem State.flushAgain_frame {s : State} (wFN_SNAP_DEFERRALS : W .FN_SNAP_DEFERRALS)
    (wFN_STATUS : W .FN_STATUS) (wPERSIST_DEFERRED : W .PERSIST_DEFERRED) (wPERSIST_FLUSH : W .PERSIST_FLUSH)
    (qdict : Q .dict) (qfon : Q .fon) (h : Fr W Q z s) :
    Fr W Q z (State.flushAgain s) := by
  unfold State.flushAgain
  repeat' first
    | with_reducible assumption | with_reducible refine State.when_kept ?_ ?_
    | with_reducible apply State.flushNow_frame | split | dsimp only | intro _

theorem State.command_frame {s : State} {o : Obj} {e : Nat} {i : Nat} (wAGE_SAMPLE_REQ : W .AGE_SAMPLE_REQ)
    (wALERT_STATUS : W .ALERT_STATUS) (wAUDIT_SUMMARIES : W .AUDIT_SUMMARIES) (wEST_WEIGHT : W .EST_WEIGHT)
    (wEVENT_NEXT : W .EVENT_NEXT) (wEVENT_OVERWRITTEN : W .EVENT_OVERWRITTEN) (wEVENT_PAGE : W .EVENT_PAGE)
    (wEVENT_SEQ : W .EVENT_SEQ) (wFN_HEAD_SEQ : W .FN_HEAD_SEQ) (wFN_RING : W .FN_RING)
    (wFN_SNAP_DEFERRALS : W .FN_SNAP_DEFERRALS) (wFN_SNAP_REQ : W .FN_SNAP_REQ) (wFN_STATUS : W .FN_STATUS)
    (wFN_THINNED : W .FN_THINNED) (wINJ_ARM : W .INJ_ARM) (wINJ_RESULT : W .INJ_RESULT) (wLC_ARM : W .LC_ARM)
    (wLOCK : W .LOCK) (wLOCK_CONTESTS : W .LOCK_CONTESTS) (wLOCK_PRIO : W .LOCK_PRIO)
    (wPERSIST_DEFERRED : W .PERSIST_DEFERRED) (wPERSIST_FLUSH : W .PERSIST_FLUSH) (wPR_CUR_TAG : W .PR_CUR_TAG)
    (wPR_GROUP_TABLE : W .PR_GROUP_TABLE) (wPR_STATUS : W .PR_STATUS) (wRAIL_RECOVER : W .RAIL_RECOVER)
    (wRAIL_RETRIES : W .RAIL_RETRIES) (wRAIL_STATUS : W .RAIL_STATUS) (wREPORT_SNAP_REQ : W .REPORT_SNAP_REQ)
    (wSELF_RESET_REQ : W .SELF_RESET_REQ) (wUNIT_READY : W .UNIT_READY) (qsu : Q .su) (qflt : Q .flt)
    (qinj : Q .inj) (qrgn : Q .rgn) (qest : Q .est) (qlane : Q .lane) (qgrp : Q .grp) (qlink : Q .link)
    (qrail : Q .rail) (qdict : Q .dict) (qports : Q .ports) (qenergy : Q .energy) (qphase : Q .phase)
    (qflash : Q .flash) (qfon : Q .fon) (h : Fr W Q z s) :
    Fr W Q z (State.command s o e i) := by
  unfold State.command
  repeat' first
    | with_reducible assumption | with_reducible refine State.when_kept ?_ ?_
    | with_reducible apply State.askAging_frame | with_reducible apply State.resetCal_frame
    | with_reducible apply State.clearPraline_frame | with_reducible apply State.rearmPraline_frame
    | with_reducible apply State.wr_frame | with_reducible apply State.acceptRecover_frame
    | with_reducible apply State.flushNow_frame | with_reducible apply State.askNow_frame
    | with_reducible apply State.acceptFormat_frame | with_reducible apply State.askReset_frame
    | with_reducible apply State.arm_frame | with_reducible apply State.acceptArm_frame
    | with_reducible apply State.noteLock_frame | with_reducible apply State.lockLose_frame | split | dsimp only
    | intro _ | with_reducible apply Fr.lit | with_reducible exact Or.inl (by assumption)
    | with_reducible exact Or.inr rfl

theorem State.store_frame {s : State} {o : Obj} {e : Nat} {i : Nat} {v : Nat} (wAll : ∀ o, W o)
    (qheld : Q .held) (qclock : Q .clock) (qrefs : Q .refs) (qflt : Q .flt) (qinj : Q .inj) (qrgn : Q .rgn)
    (qest : Q .est) (qcell : Q .cell) (qfld : Q .fld) (qgrp : Q .grp) (qdom : Q .dom) (qpdWakes : Q .pdWakes)
    (qpdCmds : Q .pdCmds) (qlink : Q .link) (qrail : Q .rail) (qstop : Q .stop) (qcaps : Q .caps) (qdict : Q .dict)
    (qfreeN : Q .freeN) (qbox : Q .box) (qports : Q .ports) (qbudget : Q .budget) (qfon : Q .fon) (h : Fr W Q z s) :
    Fr W Q z (State.store s o e i v) := by
  fun_cases State.store s o e i v
  all_goals
    repeat' first
      | with_reducible assumption | with_reducible exact wAll _ | with_reducible refine State.when_kept ?_ ?_
      | with_reducible apply State.submitTarget_frame | with_reducible apply State.wr_frame
      | with_reducible apply State.acceptStop_frame | with_reducible apply State.applyFence_frame
      | with_reducible apply State.removeSensors_frame | with_reducible apply State.holdCurve_frame
      | with_reducible apply State.unquarantine_frame | with_reducible apply State.writeTable_frame
      | with_reducible apply State.writeFixed_frame | with_reducible apply State.noteFixed_frame
      | with_reducible apply State.retarget_frame | with_reducible apply State.limitsDue_frame
      | with_reducible apply State.writeRun_frame | with_reducible apply State.newWeights_frame
      | with_reducible apply State.modE_frame | with_reducible apply State.writePolicy_frame
      | with_reducible apply State.prefer_frame | with_reducible apply State.acceptTimeSet_frame
      | with_reducible apply State.wrInt_frame | with_reducible apply State.stageLoad_frame
      | with_reducible apply State.syncGrant_frame | with_reducible apply State.writeUnlock_frame
      | with_reducible apply State.acceptTransition_frame | with_reducible apply State.setFlag_frame
      | with_reducible apply State.ackAlerts_frame | with_reducible apply State.driveAlert_frame
      | with_reducible apply State.writePermit_frame | with_reducible apply State.writeExcluded_frame
      | with_reducible apply State.wrHeld_frame | split | dsimp only | intro _ | with_reducible apply Fr.lit
      | with_reducible exact Or.inl (by assumption) | with_reducible exact Or.inr rfl

theorem State.effect_frame {s : State} {o : Obj} {e : Nat} {i : Nat} {v : Nat} (wAll : ∀ o, W o)
    (qheld : Q .held) (qclock : Q .clock) (qrefs : Q .refs) (qsu : Q .su) (qflt : Q .flt) (qinj : Q .inj)
    (qrgn : Q .rgn) (qest : Q .est) (qlane : Q .lane) (qcell : Q .cell) (qfld : Q .fld) (qgrp : Q .grp)
    (qdom : Q .dom) (qpdWakes : Q .pdWakes) (qpdCmds : Q .pdCmds) (qlink : Q .link) (qrail : Q .rail)
    (qstop : Q .stop) (qcaps : Q .caps) (qdict : Q .dict) (qfreeN : Q .freeN) (qbox : Q .box) (qports : Q .ports)
    (qenergy : Q .energy) (qphase : Q .phase) (qbudget : Q .budget) (qflash : Q .flash) (qfon : Q .fon)
    (h : Fr W Q z s) :
    Fr W Q z (State.effect s o e i v) := by
  unfold State.effect
  repeat' first
    | with_reducible assumption | with_reducible exact wAll _ | with_reducible refine State.when_kept ?_ ?_
    | with_reducible apply State.command_frame | with_reducible apply State.flushAgain_frame
    | with_reducible apply State.store_frame | split | dsimp only | intro _

theorem State.noteWritten_frame {s : State} {o : Obj} {e : Nat} {i : Nat} (qfon : Q .fon) (h : Fr W Q z s) :
    Fr W Q z (State.noteWritten s o e i) := by
  unfold State.noteWritten
  repeat' first
    | with_reducible assumption | with_reducible refine State.when_kept ?_ ?_ | split | dsimp only | intro _
    | with_reducible apply Fr.lit | with_reducible exact Or.inl (by assumption) | with_reducible exact Or.inr rfl

theorem State.refuse_frame {s : State} {a : Access} {c : Code} {known : Option (Obj × Nat)}
    (wAUDIT_MERGED : W .AUDIT_MERGED) (wAUDIT_NEXT : W .AUDIT_NEXT) (wAUDIT_OK : W .AUDIT_OK)
    (wAUDIT_OVERWRITTEN : W .AUDIT_OVERWRITTEN) (wAUDIT_REFUSED : W .AUDIT_REFUSED) (wAUDIT_SEQ : W .AUDIT_SEQ)
    (wBX_DIRECTIVES : W .BX_DIRECTIVES) (wFB_BUSY_ANSWERS : W .FB_BUSY_ANSWERS) (wFB_MALFORMED : W .FB_MALFORMED)
    (wFB_TX_DROPPED : W .FB_TX_DROPPED) (wFB_TX_FRAMES : W .FB_TX_FRAMES) (wHP_DENIED : W .HP_DENIED)
    (wHP_ERRORS : W .HP_ERRORS) (wHP_LAST_STATUS : W .HP_LAST_STATUS) (wHP_NOTREADY : W .HP_NOTREADY)
    (wLC_STATUS : W .LC_STATUS) (qdict : Q .dict) (qports : Q .ports) (qbudget : Q .budget) (qidx : Q .idx)
    (qfdp : Q .fdp) (h : Fr W Q z s) :
    Fr W Q z (State.refuse s a c known) := by
  unfold State.refuse
  repeat' first
    | with_reducible assumption | with_reducible refine State.when_kept ?_ ?_
    | with_reducible apply State.auditRefuse_frame | with_reducible apply State.auditWrite_frame
    | with_reducible apply State.setFlag_frame | with_reducible apply State.reply_frame | split | dsimp only | intro _

theorem State.finishWrite_frame {s : State} {a : Access} {o : Obj} {i : Nat} {p : Attempt} (wAll : ∀ o, W o)
    (qheld : Q .held) (qclock : Q .clock) (qrefs : Q .refs) (qsu : Q .su) (qflt : Q .flt) (qinj : Q .inj)
    (qrgn : Q .rgn) (qest : Q .est) (qlane : Q .lane) (qcell : Q .cell) (qfld : Q .fld) (qgrp : Q .grp)
    (qdom : Q .dom) (qpdWakes : Q .pdWakes) (qpdCmds : Q .pdCmds) (qlink : Q .link) (qrail : Q .rail)
    (qstop : Q .stop) (qcaps : Q .caps) (qdict : Q .dict) (qfreeN : Q .freeN) (qbox : Q .box) (qports : Q .ports)
    (qenergy : Q .energy) (qphase : Q .phase) (qbudget : Q .budget) (qidx : Q .idx) (qfdp : Q .fdp)
    (qflash : Q .flash) (qfon : Q .fon) (h : Fr W Q z s) :
    Fr W Q z (State.finishWrite s a o i p) := by
  unfold State.finishWrite
  repeat' first
    | with_reducible assumption | with_reducible exact wAll _ | with_reducible refine State.when_kept ?_ ?_
    | with_reducible apply State.effect_frame | with_reducible apply State.noteWritten_frame
    | with_reducible apply State.dirty_frame | with_reducible apply State.auditWrite_frame
    | with_reducible apply State.reply_frame | split | dsimp only | intro _

theorem State.carryOut_frame {s0 : State} {a : Access} {o : Obj} {i : Nat} (wAll : ∀ o, W o) (qheld : Q .held)
    (qclock : Q .clock) (qrefs : Q .refs) (qsu : Q .su) (qflt : Q .flt) (qinj : Q .inj) (qrgn : Q .rgn)
    (qest : Q .est) (qlane : Q .lane) (qcell : Q .cell) (qfld : Q .fld) (qgrp : Q .grp) (qdom : Q .dom)
    (qpdWakes : Q .pdWakes) (qpdCmds : Q .pdCmds) (qlink : Q .link) (qrail : Q .rail) (qstop : Q .stop)
    (qcaps : Q .caps) (qdict : Q .dict) (qfreeN : Q .freeN) (qbox : Q .box) (qports : Q .ports)
    (qenergy : Q .energy) (qphase : Q .phase) (qbudget : Q .budget) (qidx : Q .idx) (qfdp : Q .fdp)
    (qflash : Q .flash) (qfon : Q .fon) (h : Fr W Q z s0) :
    Fr W Q z (State.carryOut s0 a o i) := by
  unfold State.carryOut
  repeat' first
    | with_reducible assumption | with_reducible exact wAll _ | with_reducible apply State.touch_frame
    | with_reducible apply State.finishWrite_frame

theorem State.giveRead_frame {s : State} {a : Access} {o : Obj} {i : Nat} (wALERT_STATUS : W .ALERT_STATUS)
    (wBX_DIRECTIVES : W .BX_DIRECTIVES) (wEVENT_NEXT : W .EVENT_NEXT) (wEVENT_OVERWRITTEN : W .EVENT_OVERWRITTEN)
    (wEVENT_PAGE : W .EVENT_PAGE) (wEVENT_SEQ : W .EVENT_SEQ) (wFB_BUSY_ANSWERS : W .FB_BUSY_ANSWERS)
    (wFB_MALFORMED : W .FB_MALFORMED) (wFB_TX_DROPPED : W .FB_TX_DROPPED) (wFB_TX_FRAMES : W .FB_TX_FRAMES)
    (wHP_DENIED : W .HP_DENIED) (wHP_ERRORS : W .HP_ERRORS) (wHP_LAST_STATUS : W .HP_LAST_STATUS)
    (wHP_NOTREADY : W .HP_NOTREADY) (wINJ_ARM : W .INJ_ARM) (wINJ_COUNT : W .INJ_COUNT)
    (wINJ_RESULT : W .INJ_RESULT) (wPR_GROUP_TABLE : W .PR_GROUP_TABLE) (wSRAM_CE : W .SRAM_CE)
    (wSRAM_UE : W .SRAM_UE) (qflt : Q .flt) (qinj : Q .inj) (qest : Q .est) (qdict : Q .dict) (qports : Q .ports)
    (qphase : Q .phase) (qbudget : Q .budget) (qidx : Q .idx) (qfdp : Q .fdp) (h : Fr W Q z s) :
    Fr W Q z (State.giveRead s a o i) := by
  unfold State.giveRead
  repeat' first
    | with_reducible assumption | with_reducible apply State.touch_frame | with_reducible apply State.reply_frame

theorem State.queueRemote_frame {s : State} {a : Access} {o : Obj} {i : Nat} (qdict : Q .dict) (h : Fr W Q z s) :
    Fr W Q z (State.queueRemote s a o i) := by
  unfold State.queueRemote
  repeat' first
    | with_reducible assumption | split | dsimp only | intro _ | with_reducible apply Fr.lit
    | with_reducible exact Or.inl (by assumption) | with_reducible exact Or.inr rfl

theorem State.sendRemote_frame {s : State} {a : Access} {o : Obj} {i : Nat} (wALERT_STATUS : W .ALERT_STATUS)
    (wEVENT_NEXT : W .EVENT_NEXT) (wEVENT_OVERWRITTEN : W .EVENT_OVERWRITTEN) (wEVENT_PAGE : W .EVENT_PAGE)
    (wEVENT_SEQ : W .EVENT_SEQ) (wINJ_ARM : W .INJ_ARM) (wINJ_COUNT : W .INJ_COUNT) (wINJ_RESULT : W .INJ_RESULT)
    (wPR_GROUP_TABLE : W .PR_GROUP_TABLE) (wSRAM_CE : W .SRAM_CE) (wSRAM_UE : W .SRAM_UE) (qflt : Q .flt)
    (qinj : Q .inj) (qest : Q .est) (qdict : Q .dict) (qphase : Q .phase) (h : Fr W Q z s) :
    Fr W Q z (State.sendRemote s a o i) := by
  unfold State.sendRemote
  repeat' first
    | with_reducible assumption | with_reducible apply State.touch_frame | split | dsimp only | intro _
    | with_reducible apply Fr.lit | with_reducible exact Or.inl (by assumption) | with_reducible exact Or.inr rfl

theorem State.settleWrite_frame {s : State} {a : Access} {o : Obj} {i : Nat} (wAll : ∀ o, W o) (qheld : Q .held)
    (qclock : Q .clock) (qrefs : Q .refs) (qsu : Q .su) (qflt : Q .flt) (qinj : Q .inj) (qrgn : Q .rgn)
    (qest : Q .est) (qlane : Q .lane) (qcell : Q .cell) (qfld : Q .fld) (qgrp : Q .grp) (qdom : Q .dom)
    (qpdWakes : Q .pdWakes) (qpdCmds : Q .pdCmds) (qlink : Q .link) (qrail : Q .rail) (qstop : Q .stop)
    (qcaps : Q .caps) (qdict : Q .dict) (qfreeN : Q .freeN) (qbox : Q .box) (qports : Q .ports)
    (qenergy : Q .energy) (qphase : Q .phase) (qbudget : Q .budget) (qidx : Q .idx) (qfdp : Q .fdp)
    (qflash : Q .flash) (qfon : Q .fon) (h : Fr W Q z s) :
    Fr W Q z (State.settleWrite s a o i) := by
  unfold State.settleWrite
  repeat' first
    | with_reducible assumption | with_reducible exact wAll _ | with_reducible apply State.refuse_frame
    | with_reducible apply State.sendRemote_frame | with_reducible apply State.carryOut_frame | split

theorem State.settleRead_frame {s : State} {a : Access} {o : Obj} {i : Nat} (wALERT_STATUS : W .ALERT_STATUS)
    (wBX_DIRECTIVES : W .BX_DIRECTIVES) (wEVENT_NEXT : W .EVENT_NEXT) (wEVENT_OVERWRITTEN : W .EVENT_OVERWRITTEN)
    (wEVENT_PAGE : W .EVENT_PAGE) (wEVENT_SEQ : W .EVENT_SEQ) (wFB_BUSY_ANSWERS : W .FB_BUSY_ANSWERS)
    (wFB_MALFORMED : W .FB_MALFORMED) (wFB_TX_DROPPED : W .FB_TX_DROPPED) (wFB_TX_FRAMES : W .FB_TX_FRAMES)
    (wHP_DENIED : W .HP_DENIED) (wHP_ERRORS : W .HP_ERRORS) (wHP_LAST_STATUS : W .HP_LAST_STATUS)
    (wHP_NOTREADY : W .HP_NOTREADY) (wINJ_ARM : W .INJ_ARM) (wINJ_COUNT : W .INJ_COUNT)
    (wINJ_RESULT : W .INJ_RESULT) (wPR_GROUP_TABLE : W .PR_GROUP_TABLE) (wSRAM_CE : W .SRAM_CE)
    (wSRAM_UE : W .SRAM_UE) (qflt : Q .flt) (qinj : Q .inj) (qest : Q .est) (qdict : Q .dict) (qports : Q .ports)
    (qphase : Q .phase) (qbudget : Q .budget) (qidx : Q .idx) (qfdp : Q .fdp) (h : Fr W Q z s) :
    Fr W Q z (State.settleRead s a o i) := by
  unfold State.settleRead
  repeat' first
    | with_reducible assumption | with_reducible apply State.reply_frame | with_reducible apply State.sendRemote_frame
    | with_reducible apply State.giveRead_frame | split

theorem State.decideWrite_frame {s : State} {a : Access} (wAll : ∀ o, W o) (qheld : Q .held) (qclock : Q .clock)
    (qrefs : Q .refs) (qsu : Q .su) (qflt : Q .flt) (qinj : Q .inj) (qrgn : Q .rgn) (qest : Q .est)
    (qlane : Q .lane) (qcell : Q .cell) (qfld : Q .fld) (qgrp : Q .grp) (qdom : Q .dom) (qpdWakes : Q .pdWakes)
    (qpdCmds : Q .pdCmds) (qlink : Q .link) (qrail : Q .rail) (qstop : Q .stop) (qcaps : Q .caps) (qdict : Q .dict)
    (qfreeN : Q .freeN) (qbox : Q .box) (qports : Q .ports) (qenergy : Q .energy) (qphase : Q .phase)
    (qbudget : Q .budget) (qidx : Q .idx) (qfdp : Q .fdp) (qflash : Q .flash) (qfon : Q .fon) (h : Fr W Q z s) :
    Fr W Q z (State.decideWrite s a) := by
  unfold State.decideWrite
  repeat' first
    | with_reducible assumption | with_reducible exact wAll _ | with_reducible apply State.refuse_frame
    | with_reducible apply State.queueRemote_frame | with_reducible apply State.settleWrite_frame | split

theorem State.decideRead_frame {s : State} {a : Access} (wALERT_STATUS : W .ALERT_STATUS)
    (wBX_DIRECTIVES : W .BX_DIRECTIVES) (wEVENT_NEXT : W .EVENT_NEXT) (wEVENT_OVERWRITTEN : W .EVENT_OVERWRITTEN)
    (wEVENT_PAGE : W .EVENT_PAGE) (wEVENT_SEQ : W .EVENT_SEQ) (wFB_BUSY_ANSWERS : W .FB_BUSY_ANSWERS)
    (wFB_MALFORMED : W .FB_MALFORMED) (wFB_TX_DROPPED : W .FB_TX_DROPPED) (wFB_TX_FRAMES : W .FB_TX_FRAMES)
    (wHP_DENIED : W .HP_DENIED) (wHP_ERRORS : W .HP_ERRORS) (wHP_LAST_STATUS : W .HP_LAST_STATUS)
    (wHP_NOTREADY : W .HP_NOTREADY) (wINJ_ARM : W .INJ_ARM) (wINJ_COUNT : W .INJ_COUNT)
    (wINJ_RESULT : W .INJ_RESULT) (wPR_GROUP_TABLE : W .PR_GROUP_TABLE) (wSRAM_CE : W .SRAM_CE)
    (wSRAM_UE : W .SRAM_UE) (qflt : Q .flt) (qinj : Q .inj) (qest : Q .est) (qdict : Q .dict) (qports : Q .ports)
    (qphase : Q .phase) (qbudget : Q .budget) (qidx : Q .idx) (qfdp : Q .fdp) (h : Fr W Q z s) :
    Fr W Q z (State.decideRead s a) := by
  unfold State.decideRead
  repeat' first
    | with_reducible assumption | with_reducible apply State.reply_frame
    | with_reducible apply State.queueRemote_frame | with_reducible apply State.settleRead_frame | split

theorem State.decideAcc_frame {s : State} {a : Access} (wAll : ∀ o, W o) (qheld : Q .held) (qclock : Q .clock)
    (qrefs : Q .refs) (qsu : Q .su) (qflt : Q .flt) (qinj : Q .inj) (qrgn : Q .rgn) (qest : Q .est)
    (qlane : Q .lane) (qcell : Q .cell) (qfld : Q .fld) (qgrp : Q .grp) (qdom : Q .dom) (qpdWakes : Q .pdWakes)
    (qpdCmds : Q .pdCmds) (qlink : Q .link) (qrail : Q .rail) (qstop : Q .stop) (qcaps : Q .caps) (qdict : Q .dict)
    (qfreeN : Q .freeN) (qbox : Q .box) (qports : Q .ports) (qenergy : Q .energy) (qphase : Q .phase)
    (qbudget : Q .budget) (qidx : Q .idx) (qfdp : Q .fdp) (qflash : Q .flash) (qfon : Q .fon) (h : Fr W Q z s) :
    Fr W Q z (State.decideAcc s a) := by
  unfold State.decideAcc
  repeat' first
    | with_reducible assumption | with_reducible exact wAll _ | with_reducible apply State.decideWrite_frame
    | with_reducible apply State.decideRead_frame | split

theorem State.nextRemote_frame {s : State} (wAll : ∀ o, W o) (qheld : Q .held) (qclock : Q .clock)
    (qrefs : Q .refs) (qsu : Q .su) (qflt : Q .flt) (qinj : Q .inj) (qrgn : Q .rgn) (qest : Q .est)
    (qlane : Q .lane) (qcell : Q .cell) (qfld : Q .fld) (qgrp : Q .grp) (qdom : Q .dom) (qpdWakes : Q .pdWakes)
    (qpdCmds : Q .pdCmds) (qlink : Q .link) (qrail : Q .rail) (qstop : Q .stop) (qcaps : Q .caps) (qdict : Q .dict)
    (qfreeN : Q .freeN) (qbox : Q .box) (qports : Q .ports) (qenergy : Q .energy) (qphase : Q .phase)
    (qbudget : Q .budget) (qidx : Q .idx) (qfdp : Q .fdp) (qflash : Q .flash) (qfon : Q .fon) (h : Fr W Q z s) :
    Fr W Q z (State.nextRemote s) := by
  unfold State.nextRemote
  repeat' first
    | with_reducible assumption | with_reducible exact wAll _ | with_reducible refine State.each_kept ?_ ?_
    | with_reducible apply State.decideAcc_frame | split | dsimp only | intro _ | with_reducible apply Fr.lit
    | with_reducible exact Or.inl (by assumption) | with_reducible exact Or.inr rfl

theorem State.endRemote_frame {s : State} {x : RemoteAcc} (wAll : ∀ o, W o) (qheld : Q .held)
    (qclock : Q .clock) (qrefs : Q .refs) (qsu : Q .su) (qflt : Q .flt) (qinj : Q .inj) (qrgn : Q .rgn)
    (qest : Q .est) (qlane : Q .lane) (qcell : Q .cell) (qfld : Q .fld) (qgrp : Q .grp) (qdom : Q .dom)
    (qpdWakes : Q .pdWakes) (qpdCmds : Q .pdCmds) (qlink : Q .link) (qrail : Q .rail) (qstop : Q .stop)
    (qcaps : Q .caps) (qdict : Q .dict) (qfreeN : Q .freeN) (qbox : Q .box) (qports : Q .ports)
    (qenergy : Q .energy) (qphase : Q .phase) (qbudget : Q .budget) (qidx : Q .idx) (qfdp : Q .fdp)
    (qflash : Q .flash) (qfon : Q .fon) (h : Fr W Q z s) :
    Fr W Q z (State.endRemote s x) := by
  unfold State.endRemote
  repeat' first
    | with_reducible assumption | with_reducible exact wAll _ | with_reducible apply State.touch_frame
    | with_reducible apply State.finishWrite_frame | with_reducible apply State.replyVal_frame | split

theorem State.remoteDone_frame {s : State} {i : Nat} (wAll : ∀ o, W o) (qheld : Q .held) (qclock : Q .clock)
    (qrefs : Q .refs) (qsu : Q .su) (qflt : Q .flt) (qinj : Q .inj) (qrgn : Q .rgn) (qest : Q .est)
    (qlane : Q .lane) (qcell : Q .cell) (qfld : Q .fld) (qgrp : Q .grp) (qdom : Q .dom) (qpdWakes : Q .pdWakes)
    (qpdCmds : Q .pdCmds) (qlink : Q .link) (qrail : Q .rail) (qstop : Q .stop) (qcaps : Q .caps) (qdict : Q .dict)
    (qfreeN : Q .freeN) (qbox : Q .box) (qports : Q .ports) (qenergy : Q .energy) (qphase : Q .phase)
    (qbudget : Q .budget) (qidx : Q .idx) (qfdp : Q .fdp) (qflash : Q .flash) (qfon : Q .fon) (h : Fr W Q z s) :
    Fr W Q z (State.remoteDone s i) := by
  unfold State.remoteDone
  repeat' first
    | with_reducible assumption | with_reducible exact wAll _ | with_reducible apply State.endRemote_frame
    | with_reducible apply State.nextRemote_frame | split | dsimp only | intro _ | with_reducible apply Fr.lit
    | with_reducible exact Or.inl (by assumption) | with_reducible exact Or.inr rfl

/-! ### Window -/

theorem State.hostReply_frame {s : State} {addr : Nat} {write : Bool} {c : Code} {data : Nat} {r : Rdy}
    (wHP_DENIED : W .HP_DENIED) (wHP_ERRORS : W .HP_ERRORS) (wHP_LAST_STATUS : W .HP_LAST_STATUS)
    (wHP_NOTREADY : W .HP_NOTREADY) (qdict : Q .dict) (qports : Q .ports) (h : Fr W Q z s) :
    Fr W Q z (State.hostReply s addr write c data r) := by
  unfold State.hostReply
  repeat' first
    | with_reducible assumption | with_reducible apply State.hostAnswer_frame

theorem State.readDirect_frame {s : State} {addr : Nat} (wLOCK : W .LOCK) (wLOCK_CONTESTS : W .LOCK_CONTESTS)
    (wLOCK_PRIO : W .LOCK_PRIO) (qports : Q .ports) (h : Fr W Q z s) :
    Fr W Q z (State.readDirect s addr).2.2 := by
  unfold State.readDirect
  repeat' first
    | with_reducible assumption | with_reducible apply State.noteLock_frame
    | with_reducible apply State.lockAcquire_frame | split

theorem State.readIndirect_frame {s : State} {addr : Nat} (h : Fr W Q z s) :
    Fr W Q z (State.readIndirect s addr).2.2 := by
  unfold State.readIndirect
  repeat' first
    | with_reducible assumption | split

theorem State.readAudit_frame {s : State} {addr : Nat} (wALERT_STATUS : W .ALERT_STATUS)
    (wAUDIT_OVERWRITTEN : W .AUDIT_OVERWRITTEN) (wEVENT_NEXT : W .EVENT_NEXT)
    (wEVENT_OVERWRITTEN : W .EVENT_OVERWRITTEN) (wEVENT_PAGE : W .EVENT_PAGE) (wEVENT_SEQ : W .EVENT_SEQ)
    (wINJ_ARM : W .INJ_ARM) (wINJ_COUNT : W .INJ_COUNT) (wINJ_RESULT : W .INJ_RESULT)
    (wPR_GROUP_TABLE : W .PR_GROUP_TABLE) (wSRAM_CE : W .SRAM_CE) (wSRAM_UE : W .SRAM_UE) (qflt : Q .flt)
    (qinj : Q .inj) (qest : Q .est) (qdict : Q .dict) (qphase : Q .phase) (h : Fr W Q z s) :
    Fr W Q z (State.readAudit s addr).2.2 := by
  unfold State.readAudit
  generalize (addr - 0x180000) / 32 = slot
  generalize (addr - 0x180000) % 32 / 8 = word
  dsimp only
  repeat' first
    | with_reducible assumption | with_reducible refine State.when_kept ?_ ?_ | with_reducible apply State.inc_frame
    | with_reducible apply State.readFlips_frame | with_reducible apply State.wordLost_frame | split | intro _
    | with_reducible apply Fr.lit | with_reducible exact Or.inl (by assumption) | with_reducible exact Or.inr rfl

theorem State.readWeightWord_frame {s : State} {addr : Nat} (wALERT_STATUS : W .ALERT_STATUS)
    (wEVENT_NEXT : W .EVENT_NEXT) (wEVENT_OVERWRITTEN : W .EVENT_OVERWRITTEN) (wEVENT_PAGE : W .EVENT_PAGE)
    (wEVENT_SEQ : W .EVENT_SEQ) (wINJ_ARM : W .INJ_ARM) (wINJ_COUNT : W .INJ_COUNT) (wINJ_RESULT : W .INJ_RESULT)
    (wPR_GROUP_TABLE : W .PR_GROUP_TABLE) (wSRAM_CE : W .SRAM_CE) (wSRAM_UE : W .SRAM_UE) (qflt : Q .flt)
    (qinj : Q .inj) (qest : Q .est) (qphase : Q .phase) (h : Fr W Q z s) :
    Fr W Q z (State.readWeightWord s addr).2.2 := by
  unfold State.readWeightWord
  generalize (addr - 0x200000) / 0x400 = n
  generalize (addr - 0x200000) % 0x400 / 2 = i
  dsimp only
  repeat' first
    | with_reducible assumption | with_reducible apply State.readFlips_frame
    | with_reducible apply State.wordLost_frame | split | intro _

theorem State.readPhaseWord_frame {s : State} {addr : Nat} (wALERT_STATUS : W .ALERT_STATUS)
    (wEVENT_NEXT : W .EVENT_NEXT) (wEVENT_OVERWRITTEN : W .EVENT_OVERWRITTEN) (wEVENT_PAGE : W .EVENT_PAGE)
    (wEVENT_SEQ : W .EVENT_SEQ) (wINJ_ARM : W .INJ_ARM) (wINJ_COUNT : W .INJ_COUNT) (wINJ_RESULT : W .INJ_RESULT)
    (wPR_GROUP_TABLE : W .PR_GROUP_TABLE) (wSRAM_CE : W .SRAM_CE) (wSRAM_UE : W .SRAM_UE) (qflt : Q .flt)
    (qinj : Q .inj) (qest : Q .est) (qphase : Q .phase) (h : Fr W Q z s) :
    Fr W Q z (State.readPhaseWord s addr).2.2 := by
  unfold State.readPhaseWord
  repeat' first
    | with_reducible assumption | with_reducible apply State.readFlips_frame
    | with_reducible apply State.wordLost_frame | split | dsimp only | intro _

theorem State.readWindow_frame {s : State} {addr : Nat} (wALERT_STATUS : W .ALERT_STATUS)
    (wAUDIT_OVERWRITTEN : W .AUDIT_OVERWRITTEN) (wEVENT_NEXT : W .EVENT_NEXT)
    (wEVENT_OVERWRITTEN : W .EVENT_OVERWRITTEN) (wEVENT_PAGE : W .EVENT_PAGE) (wEVENT_SEQ : W .EVENT_SEQ)
    (wINJ_ARM : W .INJ_ARM) (wINJ_COUNT : W .INJ_COUNT) (wINJ_RESULT : W .INJ_RESULT) (wLOCK : W .LOCK)
    (wLOCK_CONTESTS : W .LOCK_CONTESTS) (wLOCK_PRIO : W .LOCK_PRIO) (wPR_GROUP_TABLE : W .PR_GROUP_TABLE)
    (wSRAM_CE : W .SRAM_CE) (wSRAM_UE : W .SRAM_UE) (qflt : Q .flt) (qinj : Q .inj) (qest : Q .est)
    (qdict : Q .dict) (qports : Q .ports) (qphase : Q .phase) (h : Fr W Q z s) :
    Fr W Q z (State.readWindow s addr).2.2 := by
  unfold State.readWindow
  repeat' first
    | with_reducible assumption | with_reducible apply State.readDirect_frame
    | with_reducible apply State.readIndirect_frame | with_reducible apply State.readAudit_frame
    | with_reducible apply State.readWeightWord_frame | with_reducible apply State.readPhaseWord_frame | split

theorem State.windowRead_frame {s : State} {addr : Nat} (wALERT_STATUS : W .ALERT_STATUS)
    (wAUDIT_OVERWRITTEN : W .AUDIT_OVERWRITTEN) (wEVENT_NEXT : W .EVENT_NEXT)
    (wEVENT_OVERWRITTEN : W .EVENT_OVERWRITTEN) (wEVENT_PAGE : W .EVENT_PAGE) (wEVENT_SEQ : W .EVENT_SEQ)
    (wHP_DENIED : W .HP_DENIED) (wHP_ERRORS : W .HP_ERRORS) (wHP_LAST_STATUS : W .HP_LAST_STATUS)
    (wHP_NOTREADY : W .HP_NOTREADY) (wINJ_ARM : W .INJ_ARM) (wINJ_COUNT : W .INJ_COUNT)
    (wINJ_RESULT : W .INJ_RESULT) (wLOCK : W .LOCK) (wLOCK_CONTESTS : W .LOCK_CONTESTS) (wLOCK_PRIO : W .LOCK_PRIO)
    (wPR_GROUP_TABLE : W .PR_GROUP_TABLE) (wSRAM_CE : W .SRAM_CE) (wSRAM_UE : W .SRAM_UE) (qflt : Q .flt)
    (qinj : Q .inj) (qest : Q .est) (qdict : Q .dict) (qports : Q .ports) (qphase : Q .phase) (h : Fr W Q z s) :
    Fr W Q z (State.windowRead s addr) := by
  unfold State.windowRead
  repeat' first
    | with_reducible assumption | with_reducible apply State.readWindow_frame
    | with_reducible apply State.hostReply_frame

/-! ### Ports -/

theorem State.epDictRead_frame {s : State} {q : EpReq} (wALERT_STATUS : W .ALERT_STATUS)
    (wBX_DIRECTIVES : W .BX_DIRECTIVES) (wEVENT_NEXT : W .EVENT_NEXT) (wEVENT_OVERWRITTEN : W .EVENT_OVERWRITTEN)
    (wEVENT_PAGE : W .EVENT_PAGE) (wEVENT_SEQ : W .EVENT_SEQ) (wFB_BUSY_ANSWERS : W .FB_BUSY_ANSWERS)
    (wFB_MALFORMED : W .FB_MALFORMED) (wFB_TX_DROPPED : W .FB_TX_DROPPED) (wFB_TX_FRAMES : W .FB_TX_FRAMES)
    (wHP_DENIED : W .HP_DENIED) (wHP_ERRORS : W .HP_ERRORS) (wHP_LAST_STATUS : W .HP_LAST_STATUS)
    (wHP_NOTREADY : W .HP_NOTREADY) (wINJ_ARM : W .INJ_ARM) (wINJ_COUNT : W .INJ_COUNT)
    (wINJ_RESULT : W .INJ_RESULT) (wPR_GROUP_TABLE : W .PR_GROUP_TABLE) (wSRAM_CE : W .SRAM_CE)
    (wSRAM_UE : W .SRAM_UE) (qflt : Q .flt) (qinj : Q .inj) (qest : Q .est) (qdict : Q .dict) (qports : Q .ports)
    (qphase : Q .phase) (qbudget : Q .budget) (qidx : Q .idx) (qfdp : Q .fdp) (h : Fr W Q z s) :
    Fr W Q z (State.epDictRead s q) := by
  unfold State.epDictRead
  repeat' first
    | with_reducible assumption | with_reducible apply State.respond_frame
    | with_reducible apply State.decideRead_frame | split

theorem execDictRead_frame {q : EpReq} {s : State} (wALERT_STATUS : W .ALERT_STATUS)
    (wBX_DIRECTIVES : W .BX_DIRECTIVES) (wEVENT_NEXT : W .EVENT_NEXT) (wEVENT_OVERWRITTEN : W .EVENT_OVERWRITTEN)
    (wEVENT_PAGE : W .EVENT_PAGE) (wEVENT_SEQ : W .EVENT_SEQ) (wFB_BUSY_ANSWERS : W .FB_BUSY_ANSWERS)
    (wFB_MALFORMED : W .FB_MALFORMED) (wFB_TX_DROPPED : W .FB_TX_DROPPED) (wFB_TX_FRAMES : W .FB_TX_FRAMES)
    (wHP_DENIED : W .HP_DENIED) (wHP_ERRORS : W .HP_ERRORS) (wHP_LAST_STATUS : W .HP_LAST_STATUS)
    (wHP_NOTREADY : W .HP_NOTREADY) (wINJ_ARM : W .INJ_ARM) (wINJ_COUNT : W .INJ_COUNT)
    (wINJ_RESULT : W .INJ_RESULT) (wPR_GROUP_TABLE : W .PR_GROUP_TABLE) (wSRAM_CE : W .SRAM_CE)
    (wSRAM_UE : W .SRAM_UE) (qflt : Q .flt) (qinj : Q .inj) (qest : Q .est) (qdict : Q .dict) (qports : Q .ports)
    (qphase : Q .phase) (qbudget : Q .budget) (qidx : Q .idx) (qfdp : Q .fdp) (h : Fr W Q z s) :
    ∀ t, execDictRead q s = .next t → Fr W Q z t := by
  refine next_kept ?_
  apply State.epTake_frame <;> first
    | assumption | exact fun _ _ ht => ht | (intro _ ht; apply State.epDictRead_frame <;> assumption)

theorem State.epDictWrite_frame {s : State} {q : EpReq} (wAll : ∀ o, W o) (qheld : Q .held) (qclock : Q .clock)
    (qrefs : Q .refs) (qsu : Q .su) (qflt : Q .flt) (qinj : Q .inj) (qrgn : Q .rgn) (qest : Q .est)
    (qlane : Q .lane) (qcell : Q .cell) (qfld : Q .fld) (qgrp : Q .grp) (qdom : Q .dom) (qpdWakes : Q .pdWakes)
    (qpdCmds : Q .pdCmds) (qlink : Q .link) (qrail : Q .rail) (qstop : Q .stop) (qcaps : Q .caps) (qdict : Q .dict)
    (qfreeN : Q .freeN) (qbox : Q .box) (qports : Q .ports) (qenergy : Q .energy) (qphase : Q .phase)
    (qbudget : Q .budget) (qidx : Q .idx) (qfdp : Q .fdp) (qflash : Q .flash) (qfon : Q .fon) (h : Fr W Q z s) :
    Fr W Q z (State.epDictWrite s q) := by
  unfold State.epDictWrite
  repeat' first
    | with_reducible assumption | with_reducible exact wAll _ | with_reducible apply State.auditRefuse_frame
    | with_reducible apply State.respond_frame | with_reducible apply State.decideWrite_frame | split

theorem dictTurn_frame {q : EpReq} {c : Code} {s : State} (wAUDIT_MERGED : W .AUDIT_MERGED)
    (wAUDIT_NEXT : W .AUDIT_NEXT) (wAUDIT_OK : W .AUDIT_OK) (wAUDIT_OVERWRITTEN : W .AUDIT_OVERWRITTEN)
    (wAUDIT_REFUSED : W .AUDIT_REFUSED) (wAUDIT_SEQ : W .AUDIT_SEQ) (qdict : Q .dict) (h : Fr W Q z s) :
    Fr W Q z (dictTurn q c s) := by
  unfold dictTurn
  repeat' first
    | with_reducible assumption | with_reducible apply State.auditRefuse_frame
    | with_reducible apply State.auditLost_frame | split

theorem execDictWrite_frame {q : EpReq} {s : State} (wAll : ∀ o, W o) (qheld : Q .held) (qclock : Q .clock)
    (qrefs : Q .refs) (qsu : Q .su) (qflt : Q .flt) (qinj : Q .inj) (qrgn : Q .rgn) (qest : Q .est)
    (qlane : Q .lane) (qcell : Q .cell) (qfld : Q .fld) (qgrp : Q .grp) (qdom : Q .dom) (qpdWakes : Q .pdWakes)
    (qpdCmds : Q .pdCmds) (qlink : Q .link) (qrail : Q .rail) (qstop : Q .stop) (qcaps : Q .caps) (qdict : Q .dict)
    (qfreeN : Q .freeN) (qbox : Q .box) (qports : Q .ports) (qenergy : Q .energy) (qphase : Q .phase)
    (qbudget : Q .budget) (qidx : Q .idx) (qfdp : Q .fdp) (qflash : Q .flash) (qfon : Q .fon) (h : Fr W Q z s) :
    ∀ t, execDictWrite q s = .next t → Fr W Q z t := by
  refine next_kept ?_
  apply State.epTake_frame <;> first
    | assumption | exact wAll _ | (intro _ ht; apply State.epDictWrite_frame <;> assumption)
    | (intro _ _ ht; apply dictTurn_frame <;> first | assumption | exact wAll _)

theorem State.mbRead_frame {s : State} {q : EpReq} (wALERT_STATUS : W .ALERT_STATUS)
    (wEVENT_NEXT : W .EVENT_NEXT) (wEVENT_OVERWRITTEN : W .EVENT_OVERWRITTEN) (wEVENT_PAGE : W .EVENT_PAGE)
    (wEVENT_SEQ : W .EVENT_SEQ) (wINJ_ARM : W .INJ_ARM) (wINJ_COUNT : W .INJ_COUNT) (wINJ_RESULT : W .INJ_RESULT)
    (wMB_COUNT : W .MB_COUNT) (wMB_POSTS : W .MB_POSTS) (wSRAM_CE : W .SRAM_CE) (wSRAM_UE : W .SRAM_UE)
    (wSY_POST_OVERFLOW : W .SY_POST_OVERFLOW) (qflt : Q .flt) (qinj : Q .inj) (qbox : Q .box) (qports : Q .ports)
    (h : Fr W Q z s) :
    Fr W Q z (State.mbRead s q) := by
  unfold State.mbRead
  repeat' first
    | with_reducible assumption | with_reducible apply State.mailRead_frame
    | with_reducible apply State.bellRead_frame | with_reducible apply State.noticeRead_frame | split

theorem State.epServe_frame {s : State} {op : Nat} {q : EpReq} (wAll : ∀ o, W o) (qheld : Q .held)
    (qclock : Q .clock) (qrefs : Q .refs) (qsu : Q .su) (qflt : Q .flt) (qinj : Q .inj) (qrgn : Q .rgn)
    (qest : Q .est) (qlane : Q .lane) (qcell : Q .cell) (qfld : Q .fld) (qgrp : Q .grp) (qdom : Q .dom)
    (qpdWakes : Q .pdWakes) (qpdCmds : Q .pdCmds) (qlink : Q .link) (qrail : Q .rail) (qstop : Q .stop)
    (qcaps : Q .caps) (qdict : Q .dict) (qfreeN : Q .freeN) (qbox : Q .box) (qports : Q .ports)
    (qenergy : Q .energy) (qphase : Q .phase) (qbudget : Q .budget) (qidx : Q .idx) (qfdp : Q .fdp)
    (qflash : Q .flash) (qfon : Q .fon) (h : Fr W Q z s) :
    Fr W Q z (State.epServe s op q) := by
  unfold State.epServe
  repeat' first
    | with_reducible assumption | with_reducible exact wAll _ | with_reducible apply State.respond_frame
    | with_reducible apply State.markNext_frame | with_reducible apply State.markBegin_frame
    | with_reducible apply State.markPref_frame | with_reducible apply State.mailPost_frame
    | with_reducible apply State.mbRead_frame | with_reducible apply State.bellRing_frame
    | with_reducible apply State.epAcquire_frame | with_reducible apply State.epRelease_frame
    | with_reducible apply State.epLockRead_frame | with_reducible apply State.epDictRead_frame
    | with_reducible apply State.epDictWrite_frame | split

theorem execEpReservedOp_frame {op : Nat} {q : EpReq} {s : State} (wAll : ∀ o, W o) (qheld : Q .held)
    (qclock : Q .clock) (qrefs : Q .refs) (qsu : Q .su) (qflt : Q .flt) (qinj : Q .inj) (qrgn : Q .rgn)
    (qest : Q .est) (qlane : Q .lane) (qcell : Q .cell) (qfld : Q .fld) (qgrp : Q .grp) (qdom : Q .dom)
    (qpdWakes : Q .pdWakes) (qpdCmds : Q .pdCmds) (qlink : Q .link) (qrail : Q .rail) (qstop : Q .stop)
    (qcaps : Q .caps) (qdict : Q .dict) (qfreeN : Q .freeN) (qbox : Q .box) (qports : Q .ports)
    (qenergy : Q .energy) (qphase : Q .phase) (qbudget : Q .budget) (qidx : Q .idx) (qfdp : Q .fdp)
    (qflash : Q .flash) (qfon : Q .fon) (h : Fr W Q z s) :
    ∀ t, execEpReservedOp op q s = .next t → Fr W Q z t := by
  unfold execEpReservedOp
  repeat' first
    | with_reducible refine next_kept ?_ | with_reducible assumption | with_reducible exact wAll _
    | with_reducible refine State.when_kept ?_ ?_ | with_reducible apply State.epTake_frame
    | with_reducible apply dictTurn_frame | with_reducible apply State.epServe_frame | split | dsimp only | intro _

theorem State.epRun_frame {s : State} {x : EpHeld} (wAll : ∀ o, W o) (qheld : Q .held) (qclock : Q .clock)
    (qrefs : Q .refs) (qsu : Q .su) (qflt : Q .flt) (qinj : Q .inj) (qrgn : Q .rgn) (qest : Q .est)
    (qlane : Q .lane) (qcell : Q .cell) (qfld : Q .fld) (qgrp : Q .grp) (qdom : Q .dom) (qpdWakes : Q .pdWakes)
    (qpdCmds : Q .pdCmds) (qlink : Q .link) (qrail : Q .rail) (qstop : Q .stop) (qcaps : Q .caps) (qdict : Q .dict)
    (qfreeN : Q .freeN) (qbox : Q .box) (qports : Q .ports) (qenergy : Q .energy) (qphase : Q .phase)
    (qbudget : Q .budget) (qidx : Q .idx) (qfdp : Q .fdp) (qflash : Q .flash) (qfon : Q .fon) (h : Fr W Q z s) :
    Fr W Q z (State.epRun s x) := by
  unfold State.epRun
  repeat' first
    | with_reducible assumption | with_reducible exact wAll _ | with_reducible refine State.when_kept ?_ ?_
    | with_reducible apply State.requesterReset_frame | with_reducible apply State.queueRead_frame
    | with_reducible apply dictTurn_frame | with_reducible apply State.respond_frame
    | with_reducible apply State.epServe_frame | split | dsimp only | intro _

theorem State.epOut_frame {s : State} (wAll : ∀ o, W o) (qheld : Q .held) (qclock : Q .clock) (qrefs : Q .refs)
    (qsu : Q .su) (qflt : Q .flt) (qinj : Q .inj) (qrgn : Q .rgn) (qest : Q .est) (qlane : Q .lane)
    (qcell : Q .cell) (qfld : Q .fld) (qgrp : Q .grp) (qdom : Q .dom) (qpdWakes : Q .pdWakes) (qpdCmds : Q .pdCmds)
    (qlink : Q .link) (qrail : Q .rail) (qstop : Q .stop) (qcaps : Q .caps) (qdict : Q .dict) (qfreeN : Q .freeN)
    (qbox : Q .box) (qports : Q .ports) (qenergy : Q .energy) (qphase : Q .phase) (qbudget : Q .budget)
    (qidx : Q .idx) (qfdp : Q .fdp) (qflash : Q .flash) (qfon : Q .fon) (h : Fr W Q z s) :
    Fr W Q z (State.epOut s) := by
  unfold State.epOut
  repeat' first
    | with_reducible assumption | with_reducible exact wAll _ | with_reducible refine State.each_kept ?_ ?_
    | with_reducible apply State.epQueue_frame | with_reducible apply State.epRun_frame | split | dsimp only | intro _
    | with_reducible apply Fr.lit | with_reducible exact Or.inl (by assumption) | with_reducible exact Or.inr rfl

theorem execMbRemoteComplete_frame {i : Nat} {s : State} (wAll : ∀ o, W o) (qheld : Q .held) (qclock : Q .clock)
    (qrefs : Q .refs) (qsu : Q .su) (qflt : Q .flt) (qinj : Q .inj) (qrgn : Q .rgn) (qest : Q .est)
    (qlane : Q .lane) (qcell : Q .cell) (qfld : Q .fld) (qgrp : Q .grp) (qdom : Q .dom) (qpdWakes : Q .pdWakes)
    (qpdCmds : Q .pdCmds) (qlink : Q .link) (qrail : Q .rail) (qstop : Q .stop) (qcaps : Q .caps) (qdict : Q .dict)
    (qfreeN : Q .freeN) (qbox : Q .box) (qports : Q .ports) (qenergy : Q .energy) (qphase : Q .phase)
    (qbudget : Q .budget) (qidx : Q .idx) (qfdp : Q .fdp) (qflash : Q .flash) (qfon : Q .fon) (h : Fr W Q z s) :
    ∀ t, execMbRemoteComplete i s = .next t → Fr W Q z t := by
  unfold execMbRemoteComplete
  repeat' first
    | with_reducible refine next_kept ?_ | with_reducible assumption | with_reducible exact wAll _
    | with_reducible refine State.when_kept ?_ ?_ | with_reducible apply State.respondNum_frame
    | with_reducible apply State.epOut_frame | split | dsimp only | intro _ | with_reducible apply Fr.lit
    | with_reducible exact Or.inl (by assumption) | with_reducible exact Or.inr rfl

theorem State.weightWrite_frame {s : State} {off : Nat} {be : Nat} {val : Nat} (wALERT_STATUS : W .ALERT_STATUS)
    (wEST_WEIGHT : W .EST_WEIGHT) (wEVENT_NEXT : W .EVENT_NEXT) (wEVENT_OVERWRITTEN : W .EVENT_OVERWRITTEN)
    (wEVENT_PAGE : W .EVENT_PAGE) (wEVENT_SEQ : W .EVENT_SEQ) (wHP_DENIED : W .HP_DENIED)
    (wHP_ERRORS : W .HP_ERRORS) (wHP_LAST_STATUS : W .HP_LAST_STATUS) (wHP_NOTREADY : W .HP_NOTREADY)
    (wINJ_ARM : W .INJ_ARM) (wINJ_COUNT : W .INJ_COUNT) (wINJ_RESULT : W .INJ_RESULT)
    (wPR_GROUP_TABLE : W .PR_GROUP_TABLE) (wSRAM_CE : W .SRAM_CE) (wSRAM_UE : W .SRAM_UE) (qflt : Q .flt)
    (qinj : Q .inj) (qest : Q .est) (qdict : Q .dict) (qports : Q .ports) (qphase : Q .phase) (h : Fr W Q z s) :
    Fr W Q z (State.weightWrite s off be val) := by
  unfold State.weightWrite
  repeat' first
    | with_reducible assumption | with_reducible refine State.each_kept ?_ ?_
    | with_reducible apply State.readFlips_frame | with_reducible apply State.wordLost_frame
    | with_reducible apply State.setWeight_frame | with_reducible apply State.hostReply_frame | split | dsimp only
    | intro _

theorem State.windowWrite_frame {s : State} {off : Nat} {be : Nat} {val : Nat} (wALERT_STATUS : W .ALERT_STATUS)
    (wEST_WEIGHT : W .EST_WEIGHT) (wEVENT_NEXT : W .EVENT_NEXT) (wEVENT_OVERWRITTEN : W .EVENT_OVERWRITTEN)
    (wEVENT_PAGE : W .EVENT_PAGE) (wEVENT_SEQ : W .EVENT_SEQ) (wHP_DENIED : W .HP_DENIED)
    (wHP_ERRORS : W .HP_ERRORS) (wHP_LAST_STATUS : W .HP_LAST_STATUS) (wHP_NOTREADY : W .HP_NOTREADY)
    (wINJ_ARM : W .INJ_ARM) (wINJ_COUNT : W .INJ_COUNT) (wINJ_RESULT : W .INJ_RESULT)
    (wPR_GROUP_TABLE : W .PR_GROUP_TABLE) (wSRAM_CE : W .SRAM_CE) (wSRAM_UE : W .SRAM_UE) (qflt : Q .flt)
    (qinj : Q .inj) (qest : Q .est) (qdict : Q .dict) (qports : Q .ports) (qphase : Q .phase) (h : Fr W Q z s) :
    Fr W Q z (State.windowWrite s off be val) := by
  unfold State.windowWrite
  repeat' first
    | with_reducible assumption | with_reducible refine State.when_kept ?_ ?_
    | with_reducible apply State.hostReply_frame | with_reducible apply State.weightWrite_frame | split | dsimp only
    | intro _

theorem State.phaseWrite_frame {s : State} {off : Nat} {be : Nat} {val : Nat} (wALERT_STATUS : W .ALERT_STATUS)
    (wEVENT_NEXT : W .EVENT_NEXT) (wEVENT_OVERWRITTEN : W .EVENT_OVERWRITTEN) (wEVENT_PAGE : W .EVENT_PAGE)
    (wEVENT_SEQ : W .EVENT_SEQ) (wHP_DENIED : W .HP_DENIED) (wHP_ERRORS : W .HP_ERRORS)
    (wHP_LAST_STATUS : W .HP_LAST_STATUS) (wHP_NOTREADY : W .HP_NOTREADY) (wINJ_ARM : W .INJ_ARM)
    (wINJ_COUNT : W .INJ_COUNT) (wINJ_RESULT : W .INJ_RESULT) (wPR_GROUP_TABLE : W .PR_GROUP_TABLE)
    (wSRAM_CE : W .SRAM_CE) (wSRAM_UE : W .SRAM_UE) (qflt : Q .flt) (qinj : Q .inj) (qest : Q .est)
    (qdict : Q .dict) (qports : Q .ports) (qphase : Q .phase) (h : Fr W Q z s) :
    Fr W Q z (State.phaseWrite s off be val) := by
  unfold State.phaseWrite
  repeat' first
    | with_reducible assumption | with_reducible apply State.readFlips_frame
    | with_reducible apply State.wordLost_frame | with_reducible apply State.hostReply_frame | split | dsimp only
    | intro _ | with_reducible apply Fr.lit | with_reducible exact Or.inl (by assumption)
    | with_reducible exact Or.inr rfl

theorem State.hostAcquire_frame {s : State} {i : Nat} (wHP_DENIED : W .HP_DENIED) (wHP_ERRORS : W .HP_ERRORS)
    (wHP_LAST_STATUS : W .HP_LAST_STATUS) (wHP_NOTREADY : W .HP_NOTREADY) (wLOCK : W .LOCK)
    (wLOCK_CONTESTS : W .LOCK_CONTESTS) (wLOCK_PRIO : W .LOCK_PRIO) (qdict : Q .dict) (qports : Q .ports)
    (h : Fr W Q z s) :
    Fr W Q z (State.hostAcquire s i) := by
  unfold State.hostAcquire
  repeat' first
    | with_reducible assumption | with_reducible apply State.hostReply_frame
    | with_reducible apply State.noteLock_frame | with_reducible apply State.lockAcquire_frame | split

theorem State.hostRelease_frame {s : State} {i : Nat} (wHP_DENIED : W .HP_DENIED) (wHP_ERRORS : W .HP_ERRORS)
    (wHP_LAST_STATUS : W .HP_LAST_STATUS) (wHP_NOTREADY : W .HP_NOTREADY) (wLOCK : W .LOCK)
    (wLOCK_CONTESTS : W .LOCK_CONTESTS) (wLOCK_PRIO : W .LOCK_PRIO) (qdict : Q .dict) (qports : Q .ports)
    (h : Fr W Q z s) :
    Fr W Q z (State.hostRelease s i) := by
  unfold State.hostRelease
  repeat' first
    | with_reducible assumption | with_reducible apply State.hostReply_frame
    | with_reducible apply State.noteLock_frame | with_reducible apply State.setLock_frame | split | dsimp only

theorem State.hostRing_frame {s : State} {val : Nat} (wDOMAIN_STATE : W .DOMAIN_STATE)
    (wDOMAIN_TARGET : W .DOMAIN_TARGET) (wHP_DENIED : W .HP_DENIED) (wHP_ERRORS : W .HP_ERRORS)
    (wHP_LAST_STATUS : W .HP_LAST_STATUS) (wHP_NOTREADY : W .HP_NOTREADY) (wMB_COUNT : W .MB_COUNT)
    (wMB_DISCARDS : W .MB_DISCARDS) (wMB_WAKES : W .MB_WAKES) (wSY_POST_OVERFLOW : W .SY_POST_OVERFLOW)
    (qcell : Q .cell) (qdom : Q .dom) (qpdWakes : Q .pdWakes) (qpdCmds : Q .pdCmds) (qdict : Q .dict)
    (qbox : Q .box) (qports : Q .ports) (h : Fr W Q z s) :
    Fr W Q z (State.hostRing s val) := by
  unfold State.hostRing
  repeat' first
    | with_reducible assumption | with_reducible apply State.hostReply_frame | with_reducible apply State.ring_frame
    | split

theorem State.idxFill_frame {s : State} {addr : Nat} {buf : Nat} (qidx : Q .idx) (h : Fr W Q z s) :
    Fr W Q z (State.idxFill s addr buf) := by
  unfold State.idxFill
  repeat' first
    | with_reducible assumption | with_reducible refine State.when_kept ?_ ?_ | split | dsimp only | intro _
    | with_reducible apply Fr.lit | with_reducible exact Or.inl (by assumption) | with_reducible exact Or.inr rfl

theorem State.idxBegin_frame {s : State} {write : Bool} {len : Nat} (qidx : Q .idx) (h : Fr W Q z s) :
    Fr W Q z (State.idxBegin s write len) := by
  unfold State.idxBegin
  repeat' first
    | with_reducible assumption | split | dsimp only | intro _ | with_reducible apply Fr.lit
    | with_reducible exact Or.inl (by assumption) | with_reducible exact Or.inr rfl

theorem State.idxRead_frame {s : State} {addr : Nat} {ctl : Nat} (wHP_DENIED : W .HP_DENIED)
    (wHP_ERRORS : W .HP_ERRORS) (wHP_LAST_STATUS : W .HP_LAST_STATUS) (wHP_NOTREADY : W .HP_NOTREADY)
    (qdict : Q .dict) (qports : Q .ports) (qidx : Q .idx) (h : Fr W Q z s) :
    Fr W Q z (State.idxRead s addr ctl) := by
  unfold State.idxRead
  repeat' first
    | with_reducible assumption | with_reducible refine State.when_kept ?_ ?_
    | with_reducible apply State.idxFill_frame | with_reducible apply State.idxBegin_frame
    | with_reducible apply State.hostReply_frame | split | dsimp only | intro _

theorem State.idxWrite_frame {s : State} {addr : Nat} {buf : Nat} {ctl : Nat} (wHP_DENIED : W .HP_DENIED)
    (wHP_ERRORS : W .HP_ERRORS) (wHP_LAST_STATUS : W .HP_LAST_STATUS) (wHP_NOTREADY : W .HP_NOTREADY)
    (qdict : Q .dict) (qports : Q .ports) (qidx : Q .idx) (h : Fr W Q z s) :
    Fr W Q z (State.idxWrite s addr buf ctl) := by
  unfold State.idxWrite
  repeat' first
    | with_reducible assumption | with_reducible refine State.when_kept ?_ ?_
    | with_reducible apply State.idxFill_frame | with_reducible apply State.idxBegin_frame
    | with_reducible apply State.hostReply_frame | split | dsimp only | intro _

theorem State.hostAccess_frame {s : State} {a : Access} (wAll : ∀ o, W o) (qheld : Q .held) (qclock : Q .clock)
    (qrefs : Q .refs) (qsu : Q .su) (qflt : Q .flt) (qinj : Q .inj) (qrgn : Q .rgn) (qest : Q .est)
    (qlane : Q .lane) (qcell : Q .cell) (qfld : Q .fld) (qgrp : Q .grp) (qdom : Q .dom) (qpdWakes : Q .pdWakes)
    (qpdCmds : Q .pdCmds) (qlink : Q .link) (qrail : Q .rail) (qstop : Q .stop) (qcaps : Q .caps) (qdict : Q .dict)
    (qfreeN : Q .freeN) (qbox : Q .box) (qports : Q .ports) (qenergy : Q .energy) (qphase : Q .phase)
    (qbudget : Q .budget) (qidx : Q .idx) (qfdp : Q .fdp) (qflash : Q .flash) (qfon : Q .fon) (h : Fr W Q z s) :
    Fr W Q z (State.hostAccess s a) := by
  unfold State.hostAccess
  repeat' first
    | with_reducible assumption | with_reducible exact wAll _ | with_reducible apply State.decideAcc_frame
    | with_reducible apply State.refuse_frame | with_reducible apply State.reply_frame | split

theorem State.hostServe_frame {s : State} {r : HeldReq} (wAll : ∀ o, W o) (qheld : Q .held) (qclock : Q .clock)
    (qrefs : Q .refs) (qsu : Q .su) (qflt : Q .flt) (qinj : Q .inj) (qrgn : Q .rgn) (qest : Q .est)
    (qlane : Q .lane) (qcell : Q .cell) (qfld : Q .fld) (qgrp : Q .grp) (qdom : Q .dom) (qpdWakes : Q .pdWakes)
    (qpdCmds : Q .pdCmds) (qlink : Q .link) (qrail : Q .rail) (qstop : Q .stop) (qcaps : Q .caps) (qdict : Q .dict)
    (qfreeN : Q .freeN) (qbox : Q .box) (qports : Q .ports) (qenergy : Q .energy) (qphase : Q .phase)
    (qbudget : Q .budget) (qidx : Q .idx) (qfdp : Q .fdp) (qflash : Q .flash) (qfon : Q .fon) (h : Fr W Q z s) :
    Fr W Q z (State.hostServe s r) := by
  unfold State.hostServe
  repeat' first
    | with_reducible assumption | with_reducible exact wAll _ | with_reducible apply State.hostAccess_frame
    | with_reducible apply State.windowRead_frame | with_reducible apply State.windowWrite_frame
    | with_reducible apply State.phaseWrite_frame | with_reducible apply State.hostAcquire_frame
    | with_reducible apply State.hostRelease_frame | with_reducible apply State.hostRing_frame
    | with_reducible apply State.idxRead_frame | with_reducible apply State.idxWrite_frame | split

theorem State.accessLost_frame {s : State} {a : Access} (wAUDIT_NEXT : W .AUDIT_NEXT) (wAUDIT_OK : W .AUDIT_OK)
    (wAUDIT_OVERWRITTEN : W .AUDIT_OVERWRITTEN) (wAUDIT_REFUSED : W .AUDIT_REFUSED) (wAUDIT_SEQ : W .AUDIT_SEQ)
    (wBX_DIRECTIVES : W .BX_DIRECTIVES) (wFB_BUSY_ANSWERS : W .FB_BUSY_ANSWERS) (wFB_MALFORMED : W .FB_MALFORMED)
    (wFB_TX_DROPPED : W .FB_TX_DROPPED) (wFB_TX_FRAMES : W .FB_TX_FRAMES) (wHP_DENIED : W .HP_DENIED)
    (wHP_ERRORS : W .HP_ERRORS) (wHP_LAST_STATUS : W .HP_LAST_STATUS) (wHP_NOTREADY : W .HP_NOTREADY)
    (qdict : Q .dict) (qports : Q .ports) (qbudget : Q .budget) (qidx : Q .idx) (qfdp : Q .fdp) (h : Fr W Q z s) :
    Fr W Q z (State.accessLost s a) := by
  unfold State.accessLost
  repeat' first
    | with_reducible assumption | with_reducible refine State.when_kept ?_ ?_
    | with_reducible apply State.auditLost_frame | with_reducible apply State.reply_frame | split | dsimp only
    | intro _

theorem State.hostLost_frame {s : State} {r : HeldReq} (wAUDIT_NEXT : W .AUDIT_NEXT) (wAUDIT_OK : W .AUDIT_OK)
    (wAUDIT_OVERWRITTEN : W .AUDIT_OVERWRITTEN) (wAUDIT_REFUSED : W .AUDIT_REFUSED) (wAUDIT_SEQ : W .AUDIT_SEQ)
    (wBX_DIRECTIVES : W .BX_DIRECTIVES) (wFB_BUSY_ANSWERS : W .FB_BUSY_ANSWERS) (wFB_MALFORMED : W .FB_MALFORMED)
    (wFB_TX_DROPPED : W .FB_TX_DROPPED) (wFB_TX_FRAMES : W .FB_TX_FRAMES) (wHP_DENIED : W .HP_DENIED)
    (wHP_ERRORS : W .HP_ERRORS) (wHP_LAST_STATUS : W .HP_LAST_STATUS) (wHP_NOTREADY : W .HP_NOTREADY)
    (qdict : Q .dict) (qports : Q .ports) (qbudget : Q .budget) (qidx : Q .idx) (qfdp : Q .fdp) (h : Fr W Q z s) :
    Fr W Q z (State.hostLost s r) := by
  unfold State.hostLost
  repeat' first
    | with_reducible assumption | with_reducible apply State.accessLost_frame
    | with_reducible apply State.hostReply_frame | split

theorem State.hostTake_frame {s : State} {r : HeldReq} (wAll : ∀ o, W o) (qheld : Q .held) (qclock : Q .clock)
    (qrefs : Q .refs) (qsu : Q .su) (qflt : Q .flt) (qinj : Q .inj) (qrgn : Q .rgn) (qest : Q .est)
    (qlane : Q .lane) (qcell : Q .cell) (qfld : Q .fld) (qgrp : Q .grp) (qdom : Q .dom) (qpdWakes : Q .pdWakes)
    (qpdCmds : Q .pdCmds) (qlink : Q .link) (qrail : Q .rail) (qstop : Q .stop) (qcaps : Q .caps) (qdict : Q .dict)
    (qfreeN : Q .freeN) (qbox : Q .box) (qports : Q .ports) (qenergy : Q .energy) (qphase : Q .phase)
    (qbudget : Q .budget) (qidx : Q .idx) (qfdp : Q .fdp) (qflash : Q .flash) (qfon : Q .fon) (h : Fr W Q z s) :
    Fr W Q z (State.hostTake s r) := by
  unfold State.hostTake
  repeat' first
    | with_reducible assumption | with_reducible exact wAll _ | with_reducible apply State.queueRead_frame
    | with_reducible apply State.hostLost_frame | with_reducible apply State.hostServe_frame | split

theorem State.hostHold_frame {s : State} {r : HeldReq} (qports : Q .ports) (h : Fr W Q z s) :
    Fr W Q z (State.hostHold s r) := by
  unfold State.hostHold
  repeat' first
    | with_reducible assumption | split | dsimp only | intro _ | with_reducible apply Fr.lit
    | with_reducible exact Or.inl (by assumption) | with_reducible exact Or.inr rfl

theorem State.hostIn_frame {s : State} {r : HeldReq} (wAll : ∀ o, W o) (qheld : Q .held) (qclock : Q .clock)
    (qrefs : Q .refs) (qsu : Q .su) (qflt : Q .flt) (qinj : Q .inj) (qrgn : Q .rgn) (qest : Q .est)
    (qlane : Q .lane) (qcell : Q .cell) (qfld : Q .fld) (qgrp : Q .grp) (qdom : Q .dom) (qpdWakes : Q .pdWakes)
    (qpdCmds : Q .pdCmds) (qlink : Q .link) (qrail : Q .rail) (qstop : Q .stop) (qcaps : Q .caps) (qdict : Q .dict)
    (qfreeN : Q .freeN) (qbox : Q .box) (qports : Q .ports) (qenergy : Q .energy) (qphase : Q .phase)
    (qbudget : Q .budget) (qidx : Q .idx) (qfdp : Q .fdp) (qflash : Q .flash) (qfon : Q .fon) (h : Fr W Q z s) :
    Fr W Q z (State.hostIn s r) := by
  unfold State.hostIn
  repeat' first
    | with_reducible assumption | with_reducible exact wAll _ | with_reducible apply State.inc_frame
    | with_reducible apply State.hostHold_frame | with_reducible apply State.hostTake_frame | split

theorem State.hostHeldOut_frame {s : State} (wAll : ∀ o, W o) (qheld : Q .held) (qclock : Q .clock)
    (qrefs : Q .refs) (qsu : Q .su) (qflt : Q .flt) (qinj : Q .inj) (qrgn : Q .rgn) (qest : Q .est)
    (qlane : Q .lane) (qcell : Q .cell) (qfld : Q .fld) (qgrp : Q .grp) (qdom : Q .dom) (qpdWakes : Q .pdWakes)
    (qpdCmds : Q .pdCmds) (qlink : Q .link) (qrail : Q .rail) (qstop : Q .stop) (qcaps : Q .caps) (qdict : Q .dict)
    (qfreeN : Q .freeN) (qbox : Q .box) (qports : Q .ports) (qenergy : Q .energy) (qphase : Q .phase)
    (qbudget : Q .budget) (qidx : Q .idx) (qfdp : Q .fdp) (qflash : Q .flash) (qfon : Q .fon) (h : Fr W Q z s) :
    Fr W Q z (State.hostHeldOut s) := by
  unfold State.hostHeldOut
  repeat' first
    | with_reducible assumption | with_reducible exact wAll _ | with_reducible refine State.each_kept ?_ ?_
    | with_reducible refine State.when_kept ?_ ?_ | with_reducible apply State.hostHold_frame
    | with_reducible apply State.hostTake_frame | split | dsimp only | intro _ | with_reducible apply Fr.lit
    | with_reducible exact Or.inl (by assumption) | with_reducible exact Or.inr rfl

theorem State.hostRead_frame {s : State} {addr : Nat} (wAll : ∀ o, W o) (qheld : Q .held) (qclock : Q .clock)
    (qrefs : Q .refs) (qsu : Q .su) (qflt : Q .flt) (qinj : Q .inj) (qrgn : Q .rgn) (qest : Q .est)
    (qlane : Q .lane) (qcell : Q .cell) (qfld : Q .fld) (qgrp : Q .grp) (qdom : Q .dom) (qpdWakes : Q .pdWakes)
    (qpdCmds : Q .pdCmds) (qlink : Q .link) (qrail : Q .rail) (qstop : Q .stop) (qcaps : Q .caps) (qdict : Q .dict)
    (qfreeN : Q .freeN) (qbox : Q .box) (qports : Q .ports) (qenergy : Q .energy) (qphase : Q .phase)
    (qbudget : Q .budget) (qidx : Q .idx) (qfdp : Q .fdp) (qflash : Q .flash) (qfon : Q .fon) (h : Fr W Q z s) :
    Fr W Q z (State.hostRead s addr) := by
  unfold State.hostRead
  repeat' first
    | with_reducible assumption | with_reducible exact wAll _ | with_reducible apply State.hostIn_frame

theorem execRemoteAccessComplete_frame {i : Nat} {s : State} (wAll : ∀ o, W o) (qheld : Q .held)
    (qclock : Q .clock) (qrefs : Q .refs) (qsu : Q .su) (qflt : Q .flt) (qinj : Q .inj) (qrgn : Q .rgn)
    (qest : Q .est) (qlane : Q .lane) (qcell : Q .cell) (qfld : Q .fld) (qgrp : Q .grp) (qdom : Q .dom)
    (qpdWakes : Q .pdWakes) (qpdCmds : Q .pdCmds) (qlink : Q .link) (qrail : Q .rail) (qstop : Q .stop)
    (qcaps : Q .caps) (qdict : Q .dict) (qfreeN : Q .freeN) (qbox : Q .box) (qports : Q .ports)
    (qenergy : Q .energy) (qphase : Q .phase) (qbudget : Q .budget) (qidx : Q .idx) (qfdp : Q .fdp)
    (qflash : Q .flash) (qfon : Q .fon) (h : Fr W Q z s) :
    ∀ t, execRemoteAccessComplete i s = .next t → Fr W Q z t := by
  unfold execRemoteAccessComplete
  repeat' first
    | with_reducible refine next_kept ?_ | with_reducible assumption | with_reducible exact wAll _
    | with_reducible refine State.when_kept ?_ ?_ | with_reducible apply State.remoteDone_frame
    | with_reducible apply State.hostHeldOut_frame | split | dsimp only | intro _

theorem State.submitWrite_frame {s : State} {a : Access} (wAll : ∀ o, W o) (qheld : Q .held) (qclock : Q .clock)
    (qrefs : Q .refs) (qsu : Q .su) (qflt : Q .flt) (qinj : Q .inj) (qrgn : Q .rgn) (qest : Q .est)
    (qlane : Q .lane) (qcell : Q .cell) (qfld : Q .fld) (qgrp : Q .grp) (qdom : Q .dom) (qpdWakes : Q .pdWakes)
    (qpdCmds : Q .pdCmds) (qlink : Q .link) (qrail : Q .rail) (qstop : Q .stop) (qcaps : Q .caps) (qdict : Q .dict)
    (qfreeN : Q .freeN) (qbox : Q .box) (qports : Q .ports) (qenergy : Q .energy) (qphase : Q .phase)
    (qbudget : Q .budget) (qidx : Q .idx) (qfdp : Q .fdp) (qflash : Q .flash) (qfon : Q .fon) (h : Fr W Q z s) :
    Fr W Q z (State.submitWrite s a) := by
  unfold State.submitWrite
  repeat' first
    | with_reducible assumption | with_reducible exact wAll _ | with_reducible apply State.hostIn_frame
    | with_reducible apply State.decideWrite_frame | split

theorem State.submit1_frame {s : State} {o : Obj} {w : Wr} (wAll : ∀ o, W o) (qheld : Q .held)
    (qclock : Q .clock) (qrefs : Q .refs) (qsu : Q .su) (qflt : Q .flt) (qinj : Q .inj) (qrgn : Q .rgn)
    (qest : Q .est) (qlane : Q .lane) (qcell : Q .cell) (qfld : Q .fld) (qgrp : Q .grp) (qdom : Q .dom)
    (qpdWakes : Q .pdWakes) (qpdCmds : Q .pdCmds) (qlink : Q .link) (qrail : Q .rail) (qstop : Q .stop)
    (qcaps : Q .caps) (qdict : Q .dict) (qfreeN : Q .freeN) (qbox : Q .box) (qports : Q .ports)
    (qenergy : Q .energy) (qphase : Q .phase) (qbudget : Q .budget) (qidx : Q .idx) (qfdp : Q .fdp)
    (qflash : Q .flash) (qfon : Q .fon) (h : Fr W Q z s) :
    Fr W Q z (State.submit1 s o w) := by
  unfold State.submit1
  repeat' first
    | with_reducible assumption | with_reducible exact wAll _ | with_reducible apply State.submitWrite_frame

theorem execObjectWrite_frame {index : Nat} {sub : Nat} {w : Wr} {s : State} (wAll : ∀ o, W o) (qheld : Q .held)
    (qclock : Q .clock) (qrefs : Q .refs) (qsu : Q .su) (qflt : Q .flt) (qinj : Q .inj) (qrgn : Q .rgn)
    (qest : Q .est) (qlane : Q .lane) (qcell : Q .cell) (qfld : Q .fld) (qgrp : Q .grp) (qdom : Q .dom)
    (qpdWakes : Q .pdWakes) (qpdCmds : Q .pdCmds) (qlink : Q .link) (qrail : Q .rail) (qstop : Q .stop)
    (qcaps : Q .caps) (qdict : Q .dict) (qfreeN : Q .freeN) (qbox : Q .box) (qports : Q .ports)
    (qenergy : Q .energy) (qphase : Q .phase) (qbudget : Q .budget) (qidx : Q .idx) (qfdp : Q .fdp)
    (qflash : Q .flash) (qfon : Q .fon) (h : Fr W Q z s) :
    ∀ t, execObjectWrite index sub w s = .next t → Fr W Q z t := by
  unfold execObjectWrite
  repeat' first
    | with_reducible refine next_kept ?_ | with_reducible assumption | with_reducible exact wAll _
    | with_reducible apply State.submitWrite_frame

theorem execIdxDone_frame {s : State} (wAll : ∀ o, W o) (qheld : Q .held) (qclock : Q .clock) (qrefs : Q .refs)
    (qsu : Q .su) (qflt : Q .flt) (qinj : Q .inj) (qrgn : Q .rgn) (qest : Q .est) (qlane : Q .lane)
    (qcell : Q .cell) (qfld : Q .fld) (qgrp : Q .grp) (qdom : Q .dom) (qpdWakes : Q .pdWakes) (qpdCmds : Q .pdCmds)
    (qlink : Q .link) (qrail : Q .rail) (qstop : Q .stop) (qcaps : Q .caps) (qdict : Q .dict) (qfreeN : Q .freeN)
    (qbox : Q .box) (qports : Q .ports) (qenergy : Q .energy) (qphase : Q .phase) (qbudget : Q .budget)
    (qidx : Q .idx) (qfdp : Q .fdp) (qflash : Q .flash) (qfon : Q .fon) (h : Fr W Q z s) :
    ∀ t, execIdxDone s = .next t → Fr W Q z t := by
  unfold execIdxDone
  repeat' first
    | with_reducible refine next_kept ?_ | with_reducible assumption | with_reducible exact wAll _
    | with_reducible refine State.when_kept ?_ ?_ | with_reducible apply State.decideAcc_frame | split | dsimp only
    | intro _

theorem execExpertUnlockExpiry_frame {s : State} (wEXPERT_UNLOCK : W .EXPERT_UNLOCK)
    (wEXPERT_UNLOCKS : W .EXPERT_UNLOCKS) (qdict : Q .dict) (h : Fr W Q z s) :
    ∀ t, execExpertUnlockExpiry s = .next t → Fr W Q z t := by
  unfold execExpertUnlockExpiry
  repeat' first
    | with_reducible refine next_kept ?_ | with_reducible assumption | with_reducible refine State.when_kept ?_ ?_
    | with_reducible apply State.writeUnlock_frame | split | dsimp only | intro _

theorem State.takeDirective_frame {s : State} {p : Nat} {frame : Nat} {write : Bool} (wAll : ∀ o, W o)
    (qheld : Q .held) (qclock : Q .clock) (qrefs : Q .refs) (qsu : Q .su) (qflt : Q .flt) (qinj : Q .inj)
    (qrgn : Q .rgn) (qest : Q .est) (qlane : Q .lane) (qcell : Q .cell) (qfld : Q .fld) (qgrp : Q .grp)
    (qdom : Q .dom) (qpdWakes : Q .pdWakes) (qpdCmds : Q .pdCmds) (qlink : Q .link) (qrail : Q .rail)
    (qstop : Q .stop) (qcaps : Q .caps) (qdict : Q .dict) (qfreeN : Q .freeN) (qbox : Q .box) (qports : Q .ports)
    (qenergy : Q .energy) (qphase : Q .phase) (qbudget : Q .budget) (qidx : Q .idx) (qfdp : Q .fdp)
    (qflash : Q .flash) (qfon : Q .fon) (h : Fr W Q z s) :
    Fr W Q z (State.takeDirective s p frame write) := by
  unfold State.takeDirective
  repeat' first
    | with_reducible assumption | with_reducible exact wAll _ | with_reducible apply State.refuse_frame
    | with_reducible apply State.reply_frame | with_reducible apply State.decideAcc_frame | split | dsimp only

theorem State.frameIn_frame {s : State} {x : NbFrame} (wAll : ∀ o, W o) (qheld : Q .held) (qclock : Q .clock)
    (qrefs : Q .refs) (qsu : Q .su) (qflt : Q .flt) (qinj : Q .inj) (qrgn : Q .rgn) (qest : Q .est)
    (qlane : Q .lane) (qcell : Q .cell) (qfld : Q .fld) (qgrp : Q .grp) (qdom : Q .dom) (qpdWakes : Q .pdWakes)
    (qpdCmds : Q .pdCmds) (qlink : Q .link) (qrail : Q .rail) (qstop : Q .stop) (qcaps : Q .caps) (qdict : Q .dict)
    (qfreeN : Q .freeN) (qbox : Q .box) (qports : Q .ports) (qenergy : Q .energy) (qphase : Q .phase)
    (qbudget : Q .budget) (qidx : Q .idx) (qfdp : Q .fdp) (qflash : Q .flash) (qfon : Q .fon) (h : Fr W Q z s) :
    Fr W Q z (State.frameIn s x) := by
  unfold State.frameIn
  repeat' first
    | with_reducible assumption | with_reducible exact wAll _ | with_reducible apply State.receive_frame
    | with_reducible apply State.takeRound_frame | with_reducible apply State.reply_frame
    | with_reducible apply State.takeDirective_frame | split | dsimp only

theorem State.frameArrives_frame {s : State} {x : NbFrame} (wAll : ∀ o, W o) (qheld : Q .held)
    (qclock : Q .clock) (qrefs : Q .refs) (qsu : Q .su) (qflt : Q .flt) (qinj : Q .inj) (qrgn : Q .rgn)
    (qest : Q .est) (qlane : Q .lane) (qcell : Q .cell) (qfld : Q .fld) (qgrp : Q .grp) (qdom : Q .dom)
    (qpdWakes : Q .pdWakes) (qpdCmds : Q .pdCmds) (qlink : Q .link) (qrail : Q .rail) (qstop : Q .stop)
    (qcaps : Q .caps) (qdict : Q .dict) (qfreeN : Q .freeN) (qbox : Q .box) (qports : Q .ports)
    (qenergy : Q .energy) (qphase : Q .phase) (qbudget : Q .budget) (qidx : Q .idx) (qfdp : Q .fdp)
    (qflash : Q .flash) (qfon : Q .fon) (h : Fr W Q z s) :
    Fr W Q z (State.frameArrives s x) := by
  unfold State.frameArrives
  repeat' first
    | with_reducible assumption | with_reducible exact wAll _ | with_reducible refine State.when_kept ?_ ?_
    | with_reducible apply State.frameIn_frame | with_reducible apply State.wr_frame
    | with_reducible apply State.inc_frame | split | dsimp only | intro _ | with_reducible apply Fr.lit
    | with_reducible exact Or.inl (by assumption) | with_reducible exact Or.inr rfl

theorem State.framesOut_frame {s : State} (wAll : ∀ o, W o) (qheld : Q .held) (qclock : Q .clock)
    (qrefs : Q .refs) (qsu : Q .su) (qflt : Q .flt) (qinj : Q .inj) (qrgn : Q .rgn) (qest : Q .est)
    (qlane : Q .lane) (qcell : Q .cell) (qfld : Q .fld) (qgrp : Q .grp) (qdom : Q .dom) (qpdWakes : Q .pdWakes)
    (qpdCmds : Q .pdCmds) (qlink : Q .link) (qrail : Q .rail) (qstop : Q .stop) (qcaps : Q .caps) (qdict : Q .dict)
    (qfreeN : Q .freeN) (qbox : Q .box) (qports : Q .ports) (qenergy : Q .energy) (qphase : Q .phase)
    (qbudget : Q .budget) (qidx : Q .idx) (qfdp : Q .fdp) (qflash : Q .flash) (qfon : Q .fon) (h : Fr W Q z s) :
    Fr W Q z (State.framesOut s) := by
  unfold State.framesOut
  repeat' first
    | with_reducible assumption | with_reducible exact wAll _ | with_reducible refine State.each_kept ?_ ?_
    | with_reducible apply State.frameIn_frame | split | dsimp only | intro _ | with_reducible apply Fr.lit
    | with_reducible exact Or.inl (by assumption) | with_reducible exact Or.inr rfl

theorem State.syTake_frame {s : State} {x : SyIn} (wMB_SEM_STATUS : W .MB_SEM_STATUS)
    (wQUIESCE_STALE_ACKS : W .QUIESCE_STALE_ACKS) (wSY_POST_NONZERO : W .SY_POST_NONZERO)
    (wSY_PST_STALE : W .SY_PST_STALE) (wSY_QACKS : W .SY_QACKS) (wSY_SLACK_DROPS : W .SY_SLACK_DROPS)
    (wSY_SLACK_REPORTS : W .SY_SLACK_REPORTS) (qstop : Q .stop) (qports : Q .ports) (qbudget : Q .budget)
    (h : Fr W Q z s) :
    Fr W Q z (State.syTake s x) := by
  unfold State.syTake
  repeat' first
    | with_reducible assumption | with_reducible apply State.quiesceAck_frame
    | with_reducible apply State.postStatus_frame | with_reducible apply State.slackReport_frame | split

theorem State.syOut_frame {s : State} (wMB_SEM_STATUS : W .MB_SEM_STATUS)
    (wQUIESCE_STALE_ACKS : W .QUIESCE_STALE_ACKS) (wSY_POST_NONZERO : W .SY_POST_NONZERO)
    (wSY_PST_STALE : W .SY_PST_STALE) (wSY_QACKS : W .SY_QACKS) (wSY_SLACK_DROPS : W .SY_SLACK_DROPS)
    (wSY_SLACK_REPORTS : W .SY_SLACK_REPORTS) (qstop : Q .stop) (qports : Q .ports) (qbudget : Q .budget)
    (h : Fr W Q z s) :
    Fr W Q z (State.syOut s) := by
  unfold State.syOut
  repeat' first
    | with_reducible assumption | with_reducible refine State.each_kept ?_ ?_
    | with_reducible apply State.syTake_frame | split | dsimp only | intro _ | with_reducible apply Fr.lit
    | with_reducible exact Or.inl (by assumption) | with_reducible exact Or.inr rfl

theorem execCtlShortStopEnd_frame {us : Nat} {s : State} (wAll : ∀ o, W o) (qheld : Q .held) (qclock : Q .clock)
    (qrefs : Q .refs) (qsu : Q .su) (qflt : Q .flt) (qinj : Q .inj) (qrgn : Q .rgn) (qest : Q .est)
    (qlane : Q .lane) (qcell : Q .cell) (qfld : Q .fld) (qgrp : Q .grp) (qdom : Q .dom) (qpdWakes : Q .pdWakes)
    (qpdCmds : Q .pdCmds) (qlink : Q .link) (qrail : Q .rail) (qstop : Q .stop) (qcaps : Q .caps) (qdict : Q .dict)
    (qfreeN : Q .freeN) (qbox : Q .box) (qports : Q .ports) (qenergy : Q .energy) (qphase : Q .phase)
    (qbudget : Q .budget) (qidx : Q .idx) (qfdp : Q .fdp) (qflash : Q .flash) (qfon : Q .fon) (h : Fr W Q z s) :
    ∀ t, execCtlShortStopEnd us s = .next t → Fr W Q z t := by
  unfold execCtlShortStopEnd
  repeat' first
    | with_reducible refine next_kept ?_ | with_reducible assumption | with_reducible exact wAll _
    | with_reducible refine State.when_kept ?_ ?_ | with_reducible apply State.stopEnded_frame
    | with_reducible apply State.dueRound_frame | with_reducible apply State.framesOut_frame
    | with_reducible apply State.syOut_frame | with_reducible apply State.epOut_frame
    | with_reducible apply State.hostHeldOut_frame | split | dsimp only | intro _

theorem execRound_frame {peer : Nat} {frame : Nat} {s : State} (wAll : ∀ o, W o) (qheld : Q .held)
    (qclock : Q .clock) (qrefs : Q .refs) (qsu : Q .su) (qflt : Q .flt) (qinj : Q .inj) (qrgn : Q .rgn)
    (qest : Q .est) (qlane : Q .lane) (qcell : Q .cell) (qfld : Q .fld) (qgrp : Q .grp) (qdom : Q .dom)
    (qpdWakes : Q .pdWakes) (qpdCmds : Q .pdCmds) (qlink : Q .link) (qrail : Q .rail) (qstop : Q .stop)
    (qcaps : Q .caps) (qdict : Q .dict) (qfreeN : Q .freeN) (qbox : Q .box) (qports : Q .ports)
    (qenergy : Q .energy) (qphase : Q .phase) (qbudget : Q .budget) (qidx : Q .idx) (qfdp : Q .fdp)
    (qflash : Q .flash) (qfon : Q .fon) (h : Fr W Q z s) :
    ∀ t, execRound peer frame s = .next t → Fr W Q z t := by
  unfold execRound
  repeat' first
    | with_reducible refine next_kept ?_ | with_reducible assumption | with_reducible exact wAll _
    | with_reducible refine State.when_kept ?_ ?_ | with_reducible apply State.frameArrives_frame | split | dsimp only
    | intro _

theorem execBudgetFrameDrop_frame {peer : Nat} {beats : Nat} {err : Bool} {frame : Nat} {s : State}
    (wAll : ∀ o, W o) (qheld : Q .held) (qclock : Q .clock) (qrefs : Q .refs) (qsu : Q .su) (qflt : Q .flt)
    (qinj : Q .inj) (qrgn : Q .rgn) (qest : Q .est) (qlane : Q .lane) (qcell : Q .cell) (qfld : Q .fld)
    (qgrp : Q .grp) (qdom : Q .dom) (qpdWakes : Q .pdWakes) (qpdCmds : Q .pdCmds) (qlink : Q .link)
    (qrail : Q .rail) (qstop : Q .stop) (qcaps : Q .caps) (qdict : Q .dict) (qfreeN : Q .freeN) (qbox : Q .box)
    (qports : Q .ports) (qenergy : Q .energy) (qphase : Q .phase) (qbudget : Q .budget) (qidx : Q .idx)
    (qfdp : Q .fdp) (qflash : Q .flash) (qfon : Q .fon) (h : Fr W Q z s) :
    ∀ t, execBudgetFrameDrop peer beats err frame s = .next t → Fr W Q z t := by
  unfold execBudgetFrameDrop
  repeat' first
    | with_reducible refine next_kept ?_ | with_reducible assumption | with_reducible exact wAll _
    | with_reducible refine State.when_kept ?_ ?_ | with_reducible apply State.frameArrives_frame | split | dsimp only
    | intro _

theorem State.directiveIn_frame {s : State} {p : Nat} {frame : Nat} {op : Nat} (wAll : ∀ o, W o)
    (qheld : Q .held) (qclock : Q .clock) (qrefs : Q .refs) (qsu : Q .su) (qflt : Q .flt) (qinj : Q .inj)
    (qrgn : Q .rgn) (qest : Q .est) (qlane : Q .lane) (qcell : Q .cell) (qfld : Q .fld) (qgrp : Q .grp)
    (qdom : Q .dom) (qpdWakes : Q .pdWakes) (qpdCmds : Q .pdCmds) (qlink : Q .link) (qrail : Q .rail)
    (qstop : Q .stop) (qcaps : Q .caps) (qdict : Q .dict) (qfreeN : Q .freeN) (qbox : Q .box) (qports : Q .ports)
    (qenergy : Q .energy) (qphase : Q .phase) (qbudget : Q .budget) (qidx : Q .idx) (qfdp : Q .fdp)
    (qflash : Q .flash) (qfon : Q .fon) (h : Fr W Q z s) :
    Fr W Q z (State.directiveIn s p frame op) := by
  unfold State.directiveIn
  repeat' first
    | with_reducible assumption | with_reducible exact wAll _ | with_reducible refine State.when_kept ?_ ?_
    | with_reducible apply State.frameArrives_frame | split | dsimp only | intro _

theorem execDirectiveRead_frame {peer : Nat} {frame : Nat} {s : State} (wAll : ∀ o, W o) (qheld : Q .held)
    (qclock : Q .clock) (qrefs : Q .refs) (qsu : Q .su) (qflt : Q .flt) (qinj : Q .inj) (qrgn : Q .rgn)
    (qest : Q .est) (qlane : Q .lane) (qcell : Q .cell) (qfld : Q .fld) (qgrp : Q .grp) (qdom : Q .dom)
    (qpdWakes : Q .pdWakes) (qpdCmds : Q .pdCmds) (qlink : Q .link) (qrail : Q .rail) (qstop : Q .stop)
    (qcaps : Q .caps) (qdict : Q .dict) (qfreeN : Q .freeN) (qbox : Q .box) (qports : Q .ports)
    (qenergy : Q .energy) (qphase : Q .phase) (qbudget : Q .budget) (qidx : Q .idx) (qfdp : Q .fdp)
    (qflash : Q .flash) (qfon : Q .fon) (h : Fr W Q z s) :
    ∀ t, execDirectiveRead peer frame s = .next t → Fr W Q z t := by
  unfold execDirectiveRead
  repeat' first
    | with_reducible refine next_kept ?_ | with_reducible assumption | with_reducible exact wAll _
    | with_reducible apply State.directiveIn_frame

theorem execDirectiveWrite_frame {peer : Nat} {frame : Nat} {s : State} (wAll : ∀ o, W o) (qheld : Q .held)
    (qclock : Q .clock) (qrefs : Q .refs) (qsu : Q .su) (qflt : Q .flt) (qinj : Q .inj) (qrgn : Q .rgn)
    (qest : Q .est) (qlane : Q .lane) (qcell : Q .cell) (qfld : Q .fld) (qgrp : Q .grp) (qdom : Q .dom)
    (qpdWakes : Q .pdWakes) (qpdCmds : Q .pdCmds) (qlink : Q .link) (qrail : Q .rail) (qstop : Q .stop)
    (qcaps : Q .caps) (qdict : Q .dict) (qfreeN : Q .freeN) (qbox : Q .box) (qports : Q .ports)
    (qenergy : Q .energy) (qphase : Q .phase) (qbudget : Q .budget) (qidx : Q .idx) (qfdp : Q .fdp)
    (qflash : Q .flash) (qfon : Q .fon) (h : Fr W Q z s) :
    ∀ t, execDirectiveWrite peer frame s = .next t → Fr W Q z t := by
  unfold execDirectiveWrite
  repeat' first
    | with_reducible refine next_kept ?_ | with_reducible assumption | with_reducible exact wAll _
    | with_reducible apply State.directiveIn_frame

/-! ### FieldBus -/

theorem State.fdpFilter_frame {s : State} {q : FdpFrame} (wFB_HELD_RX : W .FB_HELD_RX)
    (wFB_IGNORED : W .FB_IGNORED) (h : Fr W Q z s) :
    ∀ t, State.fdpFilter s q = some t → Fr W Q z t := by
  unfold State.fdpFilter
  repeat' first
    | with_reducible refine some_kept ?_ | with_reducible exact none_kept | with_reducible assumption
    | with_reducible apply State.inc_frame | split | dsimp only

theorem State.fdpStatus_frame {s : State} {q : FdpFrame} {c : Code} {aux : Nat}
    (wAUDIT_MERGED : W .AUDIT_MERGED) (wAUDIT_OK : W .AUDIT_OK) (wAUDIT_REFUSED : W .AUDIT_REFUSED)
    (wFB_BUSY_ANSWERS : W .FB_BUSY_ANSWERS) (wFB_MALFORMED : W .FB_MALFORMED) (wFB_TX_DROPPED : W .FB_TX_DROPPED)
    (wFB_TX_FRAMES : W .FB_TX_FRAMES) (qdict : Q .dict) (qfdp : Q .fdp) (h : Fr W Q z s) :
    Fr W Q z (State.fdpStatus s q c aux) := by
  unfold State.fdpStatus
  repeat' first
    | with_reducible assumption | with_reducible refine State.when_kept ?_ ?_
    | with_reducible apply State.auditRefuse_frame | with_reducible apply State.sendRsp_frame | split | dsimp only
    | intro _

theorem State.dropSession_frame {s : State} (qfdp : Q .fdp) (h : Fr W Q z s) :
    Fr W Q z (State.dropSession s) := by
  unfold State.dropSession
  repeat' first
    | with_reducible assumption | split | dsimp only | intro _ | with_reducible apply Fr.lit
    | with_reducible exact Or.inl (by assumption) | with_reducible exact Or.inr rfl

theorem State.openSession_frame {s : State} {q : FdpFrame} (wAUDIT_MERGED : W .AUDIT_MERGED)
    (wAUDIT_OK : W .AUDIT_OK) (wAUDIT_REFUSED : W .AUDIT_REFUSED) (wFB_BUSY_ANSWERS : W .FB_BUSY_ANSWERS)
    (wFB_MALFORMED : W .FB_MALFORMED) (wFB_TX_DROPPED : W .FB_TX_DROPPED) (wFB_TX_FRAMES : W .FB_TX_FRAMES)
    (qdict : Q .dict) (qfdp : Q .fdp) (h : Fr W Q z s) :
    Fr W Q z (State.openSession s q) := by
  unfold State.openSession
  repeat' first
    | with_reducible assumption | with_reducible apply State.fdpStatus_frame
    | with_reducible apply State.dropSession_frame | split | dsimp only | intro _ | with_reducible apply Fr.lit
    | with_reducible exact Or.inl (by assumption) | with_reducible exact Or.inr rfl

theorem State.nextSegment_frame {s : State} {q : FdpFrame} (wAll : ∀ o, W o) (qheld : Q .held)
    (qclock : Q .clock) (qrefs : Q .refs) (qsu : Q .su) (qflt : Q .flt) (qinj : Q .inj) (qrgn : Q .rgn)
    (qest : Q .est) (qlane : Q .lane) (qcell : Q .cell) (qfld : Q .fld) (qgrp : Q .grp) (qdom : Q .dom)
    (qpdWakes : Q .pdWakes) (qpdCmds : Q .pdCmds) (qlink : Q .link) (qrail : Q .rail) (qstop : Q .stop)
    (qcaps : Q .caps) (qdict : Q .dict) (qfreeN : Q .freeN) (qbox : Q .box) (qports : Q .ports)
    (qenergy : Q .energy) (qphase : Q .phase) (qbudget : Q .budget) (qidx : Q .idx) (qfdp : Q .fdp)
    (qflash : Q .flash) (qfon : Q .fon) (h : Fr W Q z s) :
    Fr W Q z (State.nextSegment s q) := by
  unfold State.nextSegment
  repeat' first
    | with_reducible assumption | with_reducible exact wAll _ | with_reducible apply State.fdpStatus_frame
    | with_reducible apply State.dropSession_frame | with_reducible apply State.decideWrite_frame | split | dsimp only
    | intro _ | with_reducible apply Fr.lit | with_reducible exact Or.inl (by assumption)
    | with_reducible exact Or.inr rfl

theorem State.fdpWriteReq_frame {s : State} {q : FdpFrame} (wAll : ∀ o, W o) (qheld : Q .held)
    (qclock : Q .clock) (qrefs : Q .refs) (qsu : Q .su) (qflt : Q .flt) (qinj : Q .inj) (qrgn : Q .rgn)
    (qest : Q .est) (qlane : Q .lane) (qcell : Q .cell) (qfld : Q .fld) (qgrp : Q .grp) (qdom : Q .dom)
    (qpdWakes : Q .pdWakes) (qpdCmds : Q .pdCmds) (qlink : Q .link) (qrail : Q .rail) (qstop : Q .stop)
    (qcaps : Q .caps) (qdict : Q .dict) (qfreeN : Q .freeN) (qbox : Q .box) (qports : Q .ports)
    (qenergy : Q .energy) (qphase : Q .phase) (qbudget : Q .budget) (qidx : Q .idx) (qfdp : Q .fdp)
    (qflash : Q .flash) (qfon : Q .fon) (h : Fr W Q z s) :
    Fr W Q z (State.fdpWriteReq s q) := by
  unfold State.fdpWriteReq
  repeat' first
    | with_reducible assumption | with_reducible exact wAll _ | with_reducible apply State.fdpStatus_frame
    | with_reducible apply State.decideWrite_frame | with_reducible apply State.openSession_frame
    | with_reducible apply State.nextSegment_frame | split | dsimp only

theorem State.useFraming_frame {s : State} (wINJ_ARM : W .INJ_ARM) (wINJ_COUNT : W .INJ_COUNT)
    (wINJ_RESULT : W .INJ_RESULT) (qflt : Q .flt) (qinj : Q .inj) (h : Fr W Q z s) :
    ∀ t, State.useFraming s = some t → Fr W Q z t := by
  intro t ht
  unfold State.useFraming at ht
  obtain ⟨x, -, rfl⟩ := Option.map_eq_some_iff.mp ht
  split
  · apply State.endInjection_frame <;> assumption
  · apply Fr.lit h <;> first | exact Or.inl (by assumption) | exact Or.inr rfl

theorem State.fdpDo_frame {s : State} {q : FdpFrame} (wAll : ∀ o, W o) (qheld : Q .held) (qclock : Q .clock)
    (qrefs : Q .refs) (qsu : Q .su) (qflt : Q .flt) (qinj : Q .inj) (qrgn : Q .rgn) (qest : Q .est)
    (qlane : Q .lane) (qcell : Q .cell) (qfld : Q .fld) (qgrp : Q .grp) (qdom : Q .dom) (qpdWakes : Q .pdWakes)
    (qpdCmds : Q .pdCmds) (qlink : Q .link) (qrail : Q .rail) (qstop : Q .stop) (qcaps : Q .caps) (qdict : Q .dict)
    (qfreeN : Q .freeN) (qbox : Q .box) (qports : Q .ports) (qenergy : Q .energy) (qphase : Q .phase)
    (qbudget : Q .budget) (qidx : Q .idx) (qfdp : Q .fdp) (qflash : Q .flash) (qfon : Q .fon) (h : Fr W Q z s) :
    Fr W Q z (State.fdpDo s q) := by
  unfold State.fdpDo
  repeat' first
    | with_reducible assumption | with_reducible exact wAll _
    | with_reducible refine State.useFraming_frame ?_ ?_ ?_ ?_ ?_ ?_ _ (by assumption)
    | with_reducible apply State.fdpStatus_frame | with_reducible apply State.fdpWriteReq_frame
    | with_reducible apply State.decideRead_frame | split

theorem State.fdpBusy_frame {s : State} {q : FdpFrame} {aux : Nat} (wALERT_STATUS : W .ALERT_STATUS)
    (wAUDIT_MERGED : W .AUDIT_MERGED) (wAUDIT_OK : W .AUDIT_OK) (wAUDIT_REFUSED : W .AUDIT_REFUSED)
    (wEVENT_NEXT : W .EVENT_NEXT) (wEVENT_OVERWRITTEN : W .EVENT_OVERWRITTEN) (wEVENT_PAGE : W .EVENT_PAGE)
    (wEVENT_SEQ : W .EVENT_SEQ) (wFB_BUSY_ANSWERS : W .FB_BUSY_ANSWERS) (wFB_MALFORMED : W .FB_MALFORMED)
    (wFB_TX_DROPPED : W .FB_TX_DROPPED) (wFB_TX_FRAMES : W .FB_TX_FRAMES) (wINJ_ARM : W .INJ_ARM)
    (wINJ_COUNT : W .INJ_COUNT) (wINJ_RESULT : W .INJ_RESULT) (wSRAM_CE : W .SRAM_CE) (wSRAM_UE : W .SRAM_UE)
    (qflt : Q .flt) (qinj : Q .inj) (qdict : Q .dict) (qfdp : Q .fdp) (h : Fr W Q z s) :
    Fr W Q z (State.fdpBusy s q aux) := by
  unfold State.fdpBusy
  repeat' first
    | with_reducible assumption | with_reducible apply State.queueRead_frame
    | with_reducible apply State.fdpStatus_frame | split

theorem State.fdpAdmit_frame {s : State} {q : FdpFrame} (wAll : ∀ o, W o) (qheld : Q .held) (qclock : Q .clock)
    (qrefs : Q .refs) (qsu : Q .su) (qflt : Q .flt) (qinj : Q .inj) (qrgn : Q .rgn) (qest : Q .est)
    (qlane : Q .lane) (qcell : Q .cell) (qfld : Q .fld) (qgrp : Q .grp) (qdom : Q .dom) (qpdWakes : Q .pdWakes)
    (qpdCmds : Q .pdCmds) (qlink : Q .link) (qrail : Q .rail) (qstop : Q .stop) (qcaps : Q .caps) (qdict : Q .dict)
    (qfreeN : Q .freeN) (qbox : Q .box) (qports : Q .ports) (qenergy : Q .energy) (qphase : Q .phase)
    (qbudget : Q .budget) (qidx : Q .idx) (qfdp : Q .fdp) (qflash : Q .flash) (qfon : Q .fon) (h : Fr W Q z s) :
    Fr W Q z (State.fdpAdmit s q) := by
  unfold State.fdpAdmit
  repeat' first
    | with_reducible assumption | with_reducible exact wAll _ | with_reducible apply State.inc_frame
    | with_reducible apply State.transmit_frame | with_reducible apply State.fdpDo_frame | split | dsimp only
    | intro _ | with_reducible apply Fr.lit | with_reducible exact Or.inl (by assumption)
    | with_reducible exact Or.inr rfl

theorem State.fdpLost_frame {s : State} {q : FdpFrame} (wAUDIT_MERGED : W .AUDIT_MERGED)
    (wAUDIT_NEXT : W .AUDIT_NEXT) (wAUDIT_OK : W .AUDIT_OK) (wAUDIT_OVERWRITTEN : W .AUDIT_OVERWRITTEN)
    (wAUDIT_REFUSED : W .AUDIT_REFUSED) (wAUDIT_SEQ : W .AUDIT_SEQ) (wFB_BUSY_ANSWERS : W .FB_BUSY_ANSWERS)
    (wFB_MALFORMED : W .FB_MALFORMED) (wFB_TX_DROPPED : W .FB_TX_DROPPED) (wFB_TX_FRAMES : W .FB_TX_FRAMES)
    (qdict : Q .dict) (qfdp : Q .fdp) (h : Fr W Q z s) :
    Fr W Q z (State.fdpLost s q) := by
  unfold State.fdpLost
  repeat' first
    | with_reducible assumption | with_reducible refine State.when_kept ?_ ?_
    | with_reducible apply State.auditLost_frame | with_reducible apply State.fdpStatus_frame | split | dsimp only
    | intro _

theorem State.fdpArrive_frame {s : State} {q : FdpFrame} (wAll : ∀ o, W o) (qheld : Q .held) (qclock : Q .clock)
    (qrefs : Q .refs) (qsu : Q .su) (qflt : Q .flt) (qinj : Q .inj) (qrgn : Q .rgn) (qest : Q .est)
    (qlane : Q .lane) (qcell : Q .cell) (qfld : Q .fld) (qgrp : Q .grp) (qdom : Q .dom) (qpdWakes : Q .pdWakes)
    (qpdCmds : Q .pdCmds) (qlink : Q .link) (qrail : Q .rail) (qstop : Q .stop) (qcaps : Q .caps) (qdict : Q .dict)
    (qfreeN : Q .freeN) (qbox : Q .box) (qports : Q .ports) (qenergy : Q .energy) (qphase : Q .phase)
    (qbudget : Q .budget) (qidx : Q .idx) (qfdp : Q .fdp) (qflash : Q .flash) (qfon : Q .fon) (h : Fr W Q z s) :
    Fr W Q z (State.fdpArrive s q) := by
  unfold State.fdpArrive
  repeat' first
    | with_reducible assumption | with_reducible exact wAll _
    | with_reducible refine State.fdpFilter_frame ?_ ?_ ?_ _ (by assumption) | with_reducible apply State.inc_frame
    | with_reducible apply State.fdpBusy_frame | with_reducible apply State.queueRead_frame
    | with_reducible apply State.fdpLost_frame | with_reducible apply State.fdpAdmit_frame | split | dsimp only

theorem execFdpRead_frame {q : FdpFrame} {s : State} (wAll : ∀ o, W o) (qheld : Q .held) (qclock : Q .clock)
    (qrefs : Q .refs) (qsu : Q .su) (qflt : Q .flt) (qinj : Q .inj) (qrgn : Q .rgn) (qest : Q .est)
    (qlane : Q .lane) (qcell : Q .cell) (qfld : Q .fld) (qgrp : Q .grp) (qdom : Q .dom) (qpdWakes : Q .pdWakes)
    (qpdCmds : Q .pdCmds) (qlink : Q .link) (qrail : Q .rail) (qstop : Q .stop) (qcaps : Q .caps) (qdict : Q .dict)
    (qfreeN : Q .freeN) (qbox : Q .box) (qports : Q .ports) (qenergy : Q .energy) (qphase : Q .phase)
    (qbudget : Q .budget) (qidx : Q .idx) (qfdp : Q .fdp) (qflash : Q .flash) (qfon : Q .fon) (h : Fr W Q z s) :
    ∀ t, execFdpRead q s = .next t → Fr W Q z t := by
  unfold execFdpRead
  repeat' first
    | with_reducible refine next_kept ?_ | with_reducible assumption | with_reducible exact wAll _
    | with_reducible refine State.when_kept ?_ ?_ | with_reducible apply State.fdpArrive_frame | split | dsimp only
    | intro _

theorem execFdpWrite_frame {q : FdpFrame} {s : State} (wAll : ∀ o, W o) (qheld : Q .held) (qclock : Q .clock)
    (qrefs : Q .refs) (qsu : Q .su) (qflt : Q .flt) (qinj : Q .inj) (qrgn : Q .rgn) (qest : Q .est)
    (qlane : Q .lane) (qcell : Q .cell) (qfld : Q .fld) (qgrp : Q .grp) (qdom : Q .dom) (qpdWakes : Q .pdWakes)
    (qpdCmds : Q .pdCmds) (qlink : Q .link) (qrail : Q .rail) (qstop : Q .stop) (qcaps : Q .caps) (qdict : Q .dict)
    (qfreeN : Q .freeN) (qbox : Q .box) (qports : Q .ports) (qenergy : Q .energy) (qphase : Q .phase)
    (qbudget : Q .budget) (qidx : Q .idx) (qfdp : Q .fdp) (qflash : Q .flash) (qfon : Q .fon) (h : Fr W Q z s) :
    ∀ t, execFdpWrite q s = .next t → Fr W Q z t := by
  unfold execFdpWrite
  repeat' first
    | with_reducible refine next_kept ?_ | with_reducible assumption | with_reducible exact wAll _
    | with_reducible refine State.when_kept ?_ ?_ | with_reducible apply State.fdpArrive_frame | split | dsimp only
    | intro _

theorem execFdpMalformed_frame {q : FdpFrame} {s : State} (wAll : ∀ o, W o) (qheld : Q .held)
    (qclock : Q .clock) (qrefs : Q .refs) (qsu : Q .su) (qflt : Q .flt) (qinj : Q .inj) (qrgn : Q .rgn)
    (qest : Q .est) (qlane : Q .lane) (qcell : Q .cell) (qfld : Q .fld) (qgrp : Q .grp) (qdom : Q .dom)
    (qpdWakes : Q .pdWakes) (qpdCmds : Q .pdCmds) (qlink : Q .link) (qrail : Q .rail) (qstop : Q .stop)
    (qcaps : Q .caps) (qdict : Q .dict) (qfreeN : Q .freeN) (qbox : Q .box) (qports : Q .ports)
    (qenergy : Q .energy) (qphase : Q .phase) (qbudget : Q .budget) (qidx : Q .idx) (qfdp : Q .fdp)
    (qflash : Q .flash) (qfon : Q .fon) (h : Fr W Q z s) :
    ∀ t, execFdpMalformed q s = .next t → Fr W Q z t := by
  unfold execFdpMalformed
  repeat' first
    | with_reducible refine next_kept ?_ | with_reducible assumption | with_reducible exact wAll _
    | with_reducible refine State.when_kept ?_ ?_ | with_reducible apply State.fdpArrive_frame | split | dsimp only
    | intro _

theorem execFdpSessionTimeout_frame {s : State} (wFB_SESSIONS_ABANDONED : W .FB_SESSIONS_ABANDONED)
    (qfdp : Q .fdp) (h : Fr W Q z s) :
    ∀ t, execFdpSessionTimeout s = .next t → Fr W Q z t := by
  unfold execFdpSessionTimeout
  repeat' first
    | with_reducible refine next_kept ?_ | with_reducible assumption | with_reducible refine State.when_kept ?_ ?_
    | with_reducible apply State.dropSession_frame | with_reducible apply State.inc_frame | split | dsimp only
    | intro _

theorem execFdpResponseDrop_frame {s : State} (wFB_TX_DROPPED : W .FB_TX_DROPPED) (qfdp : Q .fdp)
    (h : Fr W Q z s) :
    ∀ t, execFdpResponseDrop s = .next t → Fr W Q z t := by
  unfold execFdpResponseDrop
  repeat' first
    | with_reducible refine next_kept ?_ | with_reducible assumption | with_reducible apply State.add_frame | split
    | dsimp only | intro _ | with_reducible apply Fr.lit | with_reducible exact Or.inl (by assumption)
    | with_reducible exact Or.inr rfl

theorem execFbClassic_frame {s : State} (wFB_CLASSIC : W .FB_CLASSIC) (wFB_HELD_RX : W .FB_HELD_RX)
    (h : Fr W Q z s) :
    ∀ t, execFbClassic s = .next t → Fr W Q z t := by
  unfold execFbClassic
  repeat' first
    | with_reducible refine next_kept ?_ | with_reducible assumption | with_reducible apply State.inc_frame | split

theorem execFbBusOff_frame {s : State} (wALERT_STATUS : W .ALERT_STATUS) (wEVENT_NEXT : W .EVENT_NEXT)
    (wEVENT_OVERWRITTEN : W .EVENT_OVERWRITTEN) (wEVENT_PAGE : W .EVENT_PAGE) (wEVENT_SEQ : W .EVENT_SEQ)
    (wFB_BUS_OFFS : W .FB_BUS_OFFS) (qflt : Q .flt) (qfdp : Q .fdp) (h : Fr W Q z s) :
    ∀ t, execFbBusOff s = .next t → Fr W Q z t := by
  unfold execFbBusOff
  repeat' first
    | with_reducible refine next_kept ?_ | with_reducible assumption | with_reducible refine State.when_kept ?_ ?_
    | with_reducible apply State.inc_frame | with_reducible apply State.event_frame | split | dsimp only | intro _
    | with_reducible apply Fr.lit | with_reducible exact Or.inl (by assumption) | with_reducible exact Or.inr rfl

theorem execFbBusOffRecovery_frame {s : State} (wFB_TX_DROPPED : W .FB_TX_DROPPED)
    (wFB_TX_FRAMES : W .FB_TX_FRAMES) (qfdp : Q .fdp) (h : Fr W Q z s) :
    ∀ t, execFbBusOffRecovery s = .next t → Fr W Q z t := by
  unfold execFbBusOffRecovery
  repeat' first
    | with_reducible refine next_kept ?_ | with_reducible assumption | with_reducible refine State.each_kept ?_ ?_
    | with_reducible refine State.when_kept ?_ ?_ | with_reducible apply State.transmit_frame | split | dsimp only
    | intro _ | with_reducible apply Fr.lit | with_reducible exact Or.inl (by assumption)
    | with_reducible exact Or.inr rfl

/-! ### ArmBase -/

theorem State.markExcluded_frame {s : State} {n : Nat} {cause : Nat} (wEXCLUDED_MAP : W .EXCLUDED_MAP)
    (wREGION_EXCLUDE_CAUSE : W .REGION_EXCLUDE_CAUSE) (qdict : Q .dict) (h : Fr W Q z s) :
    Fr W Q z (State.markExcluded s n cause) := by
  unfold State.markExcluded
  repeat' first
    | with_reducible assumption | with_reducible refine State.when_kept ?_ ?_
    | with_reducible apply State.setFlag_frame | with_reducible apply State.wr_frame
    | with_reducible apply State.dirtyNow_frame | split | dsimp only | intro _

theorem State.markStart_frame {s : State} {r : FReport} (wEXCLUDED_MAP : W .EXCLUDED_MAP)
    (wREGION_EXCLUDE_CAUSE : W .REGION_EXCLUDE_CAUSE) (qdict : Q .dict) (h : Fr W Q z s) :
    Fr W Q z (State.markStart s r) := by
  unfold State.markStart
  repeat' first
    | with_reducible assumption | with_reducible refine State.when_kept ?_ ?_
    | with_reducible apply State.markExcluded_frame | split | dsimp only | intro _

theorem State.strike_frame {s : State} {r : FReport} (wEXCLUDED_MAP : W .EXCLUDED_MAP)
    (wREGION_EXCLUDE_CAUSE : W .REGION_EXCLUDE_CAUSE) (wREGION_STRIKES : W .REGION_STRIKES) (qdict : Q .dict)
    (h : Fr W Q z s) :
    Fr W Q z (State.strike s r) := by
  unfold State.strike
  repeat' first
    | with_reducible assumption | with_reducible refine State.when_kept ?_ ?_ | with_reducible apply State.inc_frame
    | with_reducible apply State.markExcluded_frame | split | dsimp only | intro _

theorem State.laterFault_frame {s : State} {r : FReport} (wALERT_STATUS : W .ALERT_STATUS)
    (wEVENT_NEXT : W .EVENT_NEXT) (wEVENT_OVERWRITTEN : W .EVENT_OVERWRITTEN) (wEVENT_PAGE : W .EVENT_PAGE)
    (wEVENT_SEQ : W .EVENT_SEQ) (wEXCLUDED_MAP : W .EXCLUDED_MAP) (wFAULT_LATER_COUNT : W .FAULT_LATER_COUNT)
    (wREGION_EXCLUDE_CAUSE : W .REGION_EXCLUDE_CAUSE) (qflt : Q .flt) (qdict : Q .dict) (h : Fr W Q z s) :
    Fr W Q z (State.laterFault s r) := by
  unfold State.laterFault
  repeat' first
    | with_reducible assumption | with_reducible apply State.inc_frame | with_reducible apply State.event_frame
    | with_reducible apply State.markStart_frame

theorem State.drainReports_frame {s : State} (wALERT_STATUS : W .ALERT_STATUS) (wEVENT_NEXT : W .EVENT_NEXT)
    (wEVENT_OVERWRITTEN : W .EVENT_OVERWRITTEN) (wEVENT_PAGE : W .EVENT_PAGE) (wEVENT_SEQ : W .EVENT_SEQ)
    (wEXCLUDED_MAP : W .EXCLUDED_MAP) (wFAULT_LATER_COUNT : W .FAULT_LATER_COUNT)
    (wREGION_EXCLUDE_CAUSE : W .REGION_EXCLUDE_CAUSE) (qflt : Q .flt) (qdict : Q .dict) (h : Fr W Q z s) :
    Fr W Q z (State.drainReports s) := by
  unfold State.drainReports
  repeat' first
    | with_reducible assumption | with_reducible refine State.each_kept ?_ ?_
    | with_reducible apply State.laterFault_frame | split | dsimp only | intro _ | with_reducible apply Fr.lit
    | with_reducible exact Or.inl (by assumption) | with_reducible exact Or.inr rfl

theorem State.haltCells_frame {s : State} (wXING_DISCARD : W .XING_DISCARD) (wXING_RESYNCS : W .XING_RESYNCS)
    (qcell : Q .cell) (h : Fr W Q z s) :
    Fr W Q z (State.haltCells s) := by
  unfold State.haltCells
  refine State.each_kept h fun _ _ ht => State.modC_frame qcell ?_
  exact State.when_kept ht fun _ hu => State.addWrap_frame wXING_DISCARD (State.inc_frame wXING_RESYNCS hu)

theorem State.lowerCells_frame {s : State} (qcell : Q .cell) (h : Fr W Q z s) :
    Fr W Q z (State.lowerCells s) := by
  unfold State.lowerCells
  repeat' first
    | with_reducible assumption | with_reducible refine State.each_kept ?_ ?_
    | with_reducible refine State.when_kept ?_ ?_ | with_reducible apply State.modC_frame | split | dsimp only
    | intro _

theorem State.haltStop_frame {s : State} (wFIELD_VNEED : W .FIELD_VNEED) (wFIELD_VOLT : W .FIELD_VOLT)
    (wFIELD_VOLT_AT_CEIL : W .FIELD_VOLT_AT_CEIL) (wRAIL_RETRIES : W .RAIL_RETRIES) (wRAIL_STATUS : W .RAIL_STATUS)
    (wREGION_STOP_ABORTS : W .REGION_STOP_ABORTS) (wREGION_STOP_RESULT : W .REGION_STOP_RESULT)
    (wREGION_STOP_STATE : W .REGION_STOP_STATE) (wSY_QUIESCES : W .SY_QUIESCES) (qfld : Q .fld) (qlink : Q .link)
    (qrail : Q .rail) (qstop : Q .stop) (h : Fr W Q z s) :
    Fr W Q z (State.haltStop s) := by
  unfold State.haltStop
  repeat' first
    | with_reducible assumption | with_reducible refine State.when_kept ?_ ?_
    | with_reducible apply State.syncQreq_frame | with_reducible apply State.setStop_frame
    | with_reducible apply State.abortStop_frame | split | dsimp only | intro _ | with_reducible apply Fr.lit
    | with_reducible exact Or.inl (by assumption) | with_reducible exact Or.inr rfl

theorem State.haltGroup_frame {s : State} {g : Nat} (wALERT_STATUS : W .ALERT_STATUS)
    (wCAP_STATUS : W .CAP_STATUS) (wEPISODE : W .EPISODE) (wEPISODE_NEXT : W .EPISODE_NEXT)
    (wEPISODE_OPEN_REASON : W .EPISODE_OPEN_REASON) (wEPISODE_OVERWRITTEN : W .EPISODE_OVERWRITTEN)
    (wEPISODE_SEQ : W .EPISODE_SEQ) (wEPISODE_SHORT : W .EPISODE_SHORT) (wEVENT_NEXT : W .EVENT_NEXT)
    (wEVENT_OVERWRITTEN : W .EVENT_OVERWRITTEN) (wEVENT_PAGE : W .EVENT_PAGE) (wEVENT_SEQ : W .EVENT_SEQ)
    (wFAST_DUTY : W .FAST_DUTY) (wFIELD_VNEED : W .FIELD_VNEED) (wFIELD_VOLT : W .FIELD_VOLT)
    (wFIELD_VOLT_AT_CEIL : W .FIELD_VOLT_AT_CEIL) (wFLOOR_RATE : W .FLOOR_RATE) (wFLOOR_STATE : W .FLOOR_STATE)
    (wGROUP_CHG_ABORTS : W .GROUP_CHG_ABORTS) (wGROUP_CHG_RESULT : W .GROUP_CHG_RESULT)
    (wGROUP_CHG_STATE : W .GROUP_CHG_STATE) (wPR_CUR_TAG : W .PR_CUR_TAG) (wPR_DISCARDED : W .PR_DISCARDED)
    (wPR_NEXT_TAG : W .PR_NEXT_TAG) (wRAIL_RETRIES : W .RAIL_RETRIES) (wRAIL_STATUS : W .RAIL_STATUS)
    (wRUN_STATUS : W .RUN_STATUS) (qflt : Q .flt) (qrgn : Q .rgn) (qfld : Q .fld) (qgrp : Q .grp) (qlink : Q .link)
    (qrail : Q .rail) (h : Fr W Q z s) :
    Fr W Q z (State.haltGroup s g) := by
  unfold State.haltGroup
  repeat' first
    | with_reducible assumption | with_reducible apply State.abortStep_frame | with_reducible apply State.modG_frame
    | with_reducible apply State.stopFloor_frame | with_reducible apply State.endRunReport_frame
    | with_reducible apply State.dropNext_frame | with_reducible apply State.closeEpisode_frame
    | with_reducible apply State.discardOcc_frame | split

theorem State.haltRegion_frame {s : State} {n : Nat} (wDS_STATUS : W .DS_STATUS) (wOSC_CODE : W .OSC_CODE)
    (wOSC_STATUS : W .OSC_STATUS) (wOSC_TARGET_N : W .OSC_TARGET_N) (wREGION_COUNT : W .REGION_COUNT)
    (wREGION_TIME : W .REGION_TIME) (wSLIP : W .SLIP) (wSTRETCH_E_FLOOR : W .STRETCH_E_FLOOR)
    (wSTRETCH_HOLDS : W .STRETCH_HOLDS) (wTETHER_STATUS : W .TETHER_STATUS) (qrgn : Q .rgn) (qest : Q .est)
    (h : Fr W Q z s) :
    Fr W Q z (State.haltRegion s n) := by
  unfold State.haltRegion
  repeat' first
    | with_reducible assumption | with_reducible apply State.unpark_frame | with_reducible apply State.stopClock_frame
    | with_reducible apply State.setOsc_frame | with_reducible apply State.loadSeed_frame
    | with_reducible apply State.wr_frame | with_reducible apply State.modR_frame
    | with_reducible apply State.modE_frame

theorem State.cancelInjection_frame {s : State} (wINJ_ARM : W .INJ_ARM) (wINJ_COUNT : W .INJ_COUNT)
    (wINJ_RESULT : W .INJ_RESULT) (qflt : Q .flt) (qinj : Q .inj) (h : Fr W Q z s) :
    Fr W Q z (State.cancelInjection s) := by
  unfold State.cancelInjection
  repeat' first
    | with_reducible assumption | with_reducible refine State.when_kept ?_ ?_
    | with_reducible apply State.endInjection_frame | split | dsimp only | intro _

theorem State.haltAll_frame {s : State} (wALERT_STATUS : W .ALERT_STATUS) (wCAP_STATUS : W .CAP_STATUS)
    (wDS_STATUS : W .DS_STATUS) (wEPISODE : W .EPISODE) (wEPISODE_NEXT : W .EPISODE_NEXT)
    (wEPISODE_OPEN_REASON : W .EPISODE_OPEN_REASON) (wEPISODE_OVERWRITTEN : W .EPISODE_OVERWRITTEN)
    (wEPISODE_SEQ : W .EPISODE_SEQ) (wEPISODE_SHORT : W .EPISODE_SHORT) (wEVENT_NEXT : W .EVENT_NEXT)
    (wEVENT_OVERWRITTEN : W .EVENT_OVERWRITTEN) (wEVENT_PAGE : W .EVENT_PAGE) (wEVENT_SEQ : W .EVENT_SEQ)
    (wEXCLUDED_MAP : W .EXCLUDED_MAP) (wFAST_DUTY : W .FAST_DUTY) (wFAULT_LATER_COUNT : W .FAULT_LATER_COUNT)
    (wFIELD_VNEED : W .FIELD_VNEED) (wFIELD_VOLT : W .FIELD_VOLT) (wFIELD_VOLT_AT_CEIL : W .FIELD_VOLT_AT_CEIL)
    (wFLOOR_RATE : W .FLOOR_RATE) (wFLOOR_STATE : W .FLOOR_STATE) (wGROUP_CHG_ABORTS : W .GROUP_CHG_ABORTS)
    (wGROUP_CHG_RESULT : W .GROUP_CHG_RESULT) (wGROUP_CHG_STATE : W .GROUP_CHG_STATE) (wINJ_ARM : W .INJ_ARM)
    (wINJ_COUNT : W .INJ_COUNT) (wINJ_RESULT : W .INJ_RESULT) (wOSC_CODE : W .OSC_CODE)
    (wOSC_STATUS : W .OSC_STATUS) (wOSC_TARGET_N : W .OSC_TARGET_N) (wPR_CUR_TAG : W .PR_CUR_TAG)
    (wPR_DISCARDED : W .PR_DISCARDED) (wPR_NEXT_TAG : W .PR_NEXT_TAG) (wRAIL_RETRIES : W .RAIL_RETRIES)
    (wRAIL_STATUS : W .RAIL_STATUS) (wREGION_COUNT : W .REGION_COUNT)
    (wREGION_EXCLUDE_CAUSE : W .REGION_EXCLUDE_CAUSE) (wREGION_STOP_ABORTS : W .REGION_STOP_ABORTS)
    (wREGION_STOP_RESULT : W .REGION_STOP_RESULT) (wREGION_STOP_STATE : W .REGION_STOP_STATE)
    (wREGION_TIME : W .REGION_TIME) (wRUN_STATUS : W .RUN_STATUS) (wSLIP : W .SLIP)
    (wSTRETCH_E_FLOOR : W .STRETCH_E_FLOOR) (wSTRETCH_HOLDS : W .STRETCH_HOLDS) (wSY_QUIESCES : W .SY_QUIESCES)
    (wTETHER_STATUS : W .TETHER_STATUS) (wTRIM_MODE : W .TRIM_MODE) (wUNIT_READY : W .UNIT_READY)
    (wXING_DISCARD : W .XING_DISCARD) (wXING_RESYNCS : W .XING_RESYNCS) (qsu : Q .su) (qflt : Q .flt)
    (qinj : Q .inj) (qrgn : Q .rgn) (qest : Q .est) (qcell : Q .cell) (qfld : Q .fld) (qgrp : Q .grp)
    (qlink : Q .link) (qrail : Q .rail) (qstop : Q .stop) (qcaps : Q .caps) (qdict : Q .dict) (h : Fr W Q z s) :
    Fr W Q z (State.haltAll s) := by
  unfold State.haltAll
  repeat' first
    | with_reducible assumption | with_reducible refine State.each_kept ?_ ?_
    | with_reducible apply State.setReady_frame | with_reducible apply State.haltGroup_frame
    | with_reducible apply State.haltStop_frame | with_reducible apply State.setDuty_frame
    | with_reducible apply State.stopFloor_frame | with_reducible apply State.closeEpisode_frame
    | with_reducible apply State.haltCells_frame | with_reducible apply State.haltRegion_frame
    | with_reducible apply State.drainReports_frame | with_reducible apply State.cancelInjection_frame
    | with_reducible apply State.showTrim_frame | split | dsimp only | intro _ | with_reducible apply Fr.lit
    | with_reducible exact Or.inl (by assumption) | with_reducible exact Or.inr rfl

theorem State.adoptGroups_frame {s : State} (wPR_GROUP_TABLE : W .PR_GROUP_TABLE)
    (wTETHER_GROUP_ACTIVE : W .TETHER_GROUP_ACTIVE) (h : Fr W Q z s) :
    Fr W Q z (State.adoptGroups s) := by
  unfold State.adoptGroups
  repeat' first
    | with_reducible assumption | with_reducible refine State.each_kept ?_ ?_ | with_reducible apply State.wr_frame
    | with_reducible apply State.clearGconf_frame | split | dsimp only | intro _

theorem State.adoptExcluded_frame {s : State} (wARM_NEW_EXCLUDED : W .ARM_NEW_EXCLUDED)
    (wREGION_DETACHED : W .REGION_DETACHED) (wREGION_EXCLUDED_ACTIVE : W .REGION_EXCLUDED_ACTIVE) (h : Fr W Q z s) :
    Fr W Q z (State.adoptExcluded s) := by
  unfold State.adoptExcluded
  repeat' first
    | with_reducible assumption | with_reducible refine State.each_kept ?_ ?_ | with_reducible apply State.wr_frame
    | with_reducible apply State.add_frame | split | dsimp only | intro _

theorem State.fenceArmed_frame {s : State} (qcell : Q .cell) (h : Fr W Q z s) :
    Fr W Q z (State.fenceArmed s) := by
  unfold State.fenceArmed
  repeat' first
    | with_reducible assumption | with_reducible refine State.each_kept ?_ ?_ | with_reducible apply State.modC_frame
    | with_reducible apply State.wr_frame | split | dsimp only | intro _

theorem State.relightCells_frame {s : State} (qcell : Q .cell) (h : Fr W Q z s) :
    Fr W Q z (State.relightCells s) := by
  unfold State.relightCells
  repeat' first
    | with_reducible assumption | with_reducible refine State.each_kept ?_ ?_ | with_reducible apply State.modC_frame
    | with_reducible apply State.wr_frame | split | dsimp only | intro _

theorem State.armedView_frame {s : State} (qcell : Q .cell) (h : Fr W Q z s) :
    Fr W Q z (State.armedView s) := by
  unfold State.armedView
  repeat' first
    | with_reducible assumption | with_reducible refine State.each_kept ?_ ?_ | with_reducible apply State.modC_frame
    | split | dsimp only | intro _

theorem State.armIslands_frame {s : State} {view : State} {g : Nat} (wGROUP_ANCHOR : W .GROUP_ANCHOR)
    (wGROUP_DIAMETER : W .GROUP_DIAMETER) (qgrp : Q .grp) (h : Fr W Q z s) :
    Fr W Q z (State.armIslands s view g) := by
  unfold State.armIslands
  repeat' first
    | with_reducible assumption | with_reducible apply State.modG_frame | with_reducible apply State.wr_frame

theorem State.armGroup_frame {s : State} {g : Nat} (wGROUP_CEIL_REASON : W .GROUP_CEIL_REASON)
    (wGROUP_CHG_RESULT : W .GROUP_CHG_RESULT) (wGROUP_CHG_STATE : W .GROUP_CHG_STATE) (wGROUP_N : W .GROUP_N)
    (wGROUP_TARGET_N : W .GROUP_TARGET_N) (wOP_CEIL_ENTRY : W .OP_CEIL_ENTRY) (wOP_POWER_ENTRY : W .OP_POWER_ENTRY)
    (wPR_LFSR : W .PR_LFSR) (qgrp : Q .grp) (h : Fr W Q z s) :
    Fr W Q z (State.armGroup s g) := by
  unfold State.armGroup
  repeat' first
    | with_reducible assumption | with_reducible apply State.modG_frame | with_reducible apply State.wr_frame
    | with_reducible apply State.loadLfsr_frame | with_reducible apply State.showCeiling_frame

theorem State.extractSeed_frame {s : State} {n : Nat} (wOSC_CODE : W .OSC_CODE)
    (wOSC_PERMIT_MAX : W .OSC_PERMIT_MAX) (qrgn : Q .rgn) (qfreeN : Q .freeN) (h : Fr W Q z s) :
    Fr W Q z (State.extractSeed s n) := by
  unfold State.extractSeed
  repeat' first
    | with_reducible assumption | with_reducible apply State.free_frame | with_reducible apply State.wr_frame
    | with_reducible apply State.modR_frame | split

theorem State.armRegion_frame {s : State} {n : Nat} (wOSC_CODE : W .OSC_CODE)
    (wOSC_PERMIT_MAX : W .OSC_PERMIT_MAX) (wOSC_STATUS : W .OSC_STATUS) (wOSC_TARGET_N : W .OSC_TARGET_N)
    (wREGION_COUNT : W .REGION_COUNT) (wSLIP : W .SLIP) (wTETHER_STATUS : W .TETHER_STATUS) (qrgn : Q .rgn)
    (qfreeN : Q .freeN) (h : Fr W Q z s) :
    Fr W Q z (State.armRegion s n) := by
  unfold State.armRegion
  repeat' first
    | with_reducible assumption | with_reducible refine State.when_kept ?_ ?_
    | with_reducible apply State.startRegion_frame | with_reducible apply State.modR_frame
    | with_reducible apply State.extractSeed_frame | split | dsimp only | intro _

theorem State.armClear_frame {s : State} {n : Nat} (wDS_QUARANTINE : W .DS_QUARANTINE)
    (wDS_STATUS : W .DS_STATUS) (wEST_STATUS : W .EST_STATUS) (wREGION_STOP_RESULT : W .REGION_STOP_RESULT)
    (wTETHER_STATUS : W .TETHER_STATUS) (qrgn : Q .rgn) (qest : Q .est) (qlane : Q .lane) (h : Fr W Q z s) :
    Fr W Q z (State.armClear s n) := by
  unfold State.armClear
  repeat' first
    | with_reducible assumption | with_reducible refine State.when_kept ?_ ?_
    | with_reducible apply State.loseBaselines_frame | with_reducible apply State.modE_frame
    | with_reducible apply State.setFlag_frame | with_reducible apply State.wr_frame
    | with_reducible apply State.modR_frame | with_reducible apply State.unquarantine_frame | split | dsimp only
    | intro _

theorem State.armField_frame {s : State} {f : Nat} (wFAST_DUTY : W .FAST_DUTY) (qrgn : Q .rgn) (qfld : Q .fld)
    (h : Fr W Q z s) :
    Fr W Q z (State.armField s f) := by
  unfold State.armField
  repeat' first
    | with_reducible assumption | with_reducible apply State.setDuty_frame | with_reducible apply State.modF_frame

theorem State.beginArm_frame {s : State} (wARM_NEW_EXCLUDED : W .ARM_NEW_EXCLUDED) (wCAP_STATUS : W .CAP_STATUS)
    (wDS_QUARANTINE : W .DS_QUARANTINE) (wDS_STATUS : W .DS_STATUS) (wEST_STATUS : W .EST_STATUS)
    (wFAST_DUTY : W .FAST_DUTY) (wGROUP_ANCHOR : W .GROUP_ANCHOR) (wGROUP_CEIL_REASON : W .GROUP_CEIL_REASON)
    (wGROUP_CHG_RESULT : W .GROUP_CHG_RESULT) (wGROUP_CHG_STATE : W .GROUP_CHG_STATE)
    (wGROUP_DIAMETER : W .GROUP_DIAMETER) (wGROUP_N : W .GROUP_N) (wGROUP_TARGET_N : W .GROUP_TARGET_N)
    (wOP_CEIL_ENTRY : W .OP_CEIL_ENTRY) (wOP_POWER_ENTRY : W .OP_POWER_ENTRY) (wOSC_CODE : W .OSC_CODE)
    (wOSC_PERMIT_MAX : W .OSC_PERMIT_MAX) (wOSC_STATUS : W .OSC_STATUS) (wOSC_TARGET_N : W .OSC_TARGET_N)
    (wPR_GROUP_TABLE : W .PR_GROUP_TABLE) (wPR_LFSR : W .PR_LFSR) (wREGION_COUNT : W .REGION_COUNT)
    (wREGION_DETACHED : W .REGION_DETACHED) (wREGION_EXCLUDED_ACTIVE : W .REGION_EXCLUDED_ACTIVE)
    (wREGION_STOP_RESULT : W .REGION_STOP_RESULT) (wSLIP : W .SLIP) (wSTART_STATE : W .START_STATE)
    (wTETHER_GROUP_ACTIVE : W .TETHER_GROUP_ACTIVE) (wTETHER_STATUS : W .TETHER_STATUS) (wTRIM_MODE : W .TRIM_MODE)
    (wUNIT_READY : W .UNIT_READY) (wXING_FENCE : W .XING_FENCE) (qsu : Q .su) (qrgn : Q .rgn) (qest : Q .est)
    (qlane : Q .lane) (qcell : Q .cell) (qfld : Q .fld) (qgrp : Q .grp) (qfreeN : Q .freeN) (h : Fr W Q z s) :
    Fr W Q z (State.beginArm s) := by
  unfold State.beginArm
  repeat' first
    | with_reducible assumption | with_reducible refine State.each_kept ?_ ?_
    | with_reducible apply State.adoptGroups_frame | with_reducible apply State.adoptExcluded_frame
    | with_reducible apply State.armCells_frame | with_reducible apply State.relightCells_frame
    | with_reducible apply State.fenceArmed_frame | with_reducible apply State.armClear_frame
    | with_reducible apply State.lowerCells_frame | with_reducible apply State.armRegion_frame
    | with_reducible apply State.armGroup_frame | with_reducible apply State.armIslands_frame
    | with_reducible apply State.armedView_frame | with_reducible apply State.armField_frame
    | with_reducible apply State.setFlag_frame | with_reducible apply State.showTrim_frame
    | with_reducible apply State.setReady_frame | with_reducible apply State.setStart_frame | split | dsimp only
    | intro _ | with_reducible apply Fr.lit | with_reducible exact Or.inl (by assumption)
    | with_reducible exact Or.inr rfl

theorem State.clearLatch_frame {s : State} (wFAULT_DIGEST : W .FAULT_DIGEST) (wFAULT_HISTORY : W .FAULT_HISTORY)
    (wFAULT_TIME : W .FAULT_TIME) (wINJ_JOB_FAULTS : W .INJ_JOB_FAULTS) (wJOB_FAULTS : W .JOB_FAULTS)
    (h : Fr W Q z s) :
    Fr W Q z (State.clearLatch s) := by
  unfold State.clearLatch
  repeat' first
    | with_reducible assumption | with_reducible refine State.when_kept ?_ ?_ | with_reducible apply State.wr_frame
    | with_reducible apply State.inc_frame | split | dsimp only | intro _

theorem State.becomeReady_frame {s : State} (wALERT_STATUS : W .ALERT_STATUS) (wARM_SEQ : W .ARM_SEQ)
    (wDOMAIN_STATE : W .DOMAIN_STATE) (wEVENT_NEXT : W .EVENT_NEXT) (wEVENT_OVERWRITTEN : W .EVENT_OVERWRITTEN)
    (wEVENT_PAGE : W .EVENT_PAGE) (wEVENT_SEQ : W .EVENT_SEQ) (wEXCLUDED_MAP : W .EXCLUDED_MAP)
    (wFAULT_DIGEST : W .FAULT_DIGEST) (wFAULT_HISTORY : W .FAULT_HISTORY)
    (wFAULT_LATER_COUNT : W .FAULT_LATER_COUNT) (wFAULT_TIME : W .FAULT_TIME) (wINJ_JOB_FAULTS : W .INJ_JOB_FAULTS)
    (wJOB_FAULTS : W .JOB_FAULTS) (wLAST_ARM_TIME : W .LAST_ARM_TIME) (wMB_COUNT : W .MB_COUNT)
    (wMB_DISCARDS : W .MB_DISCARDS) (wREADY_TIME : W .READY_TIME) (wREGION_EXCLUDE_CAUSE : W .REGION_EXCLUDE_CAUSE)
    (wSTART_STATE : W .START_STATE) (wSY_POST_OVERFLOW : W .SY_POST_OVERFLOW) (wUNIT_READY : W .UNIT_READY)
    (qsu : Q .su) (qflt : Q .flt) (qcell : Q .cell) (qdom : Q .dom) (qpdWakes : Q .pdWakes) (qpdCmds : Q .pdCmds)
    (qdict : Q .dict) (qbox : Q .box) (qports : Q .ports) (h : Fr W Q z s) :
    Fr W Q z (State.becomeReady s) := by
  unfold State.becomeReady
  repeat' first
    | with_reducible assumption | with_reducible refine State.when_kept ?_ ?_
    | with_reducible apply State.drainReports_frame | with_reducible apply State.clearLatch_frame
    | with_reducible apply State.setReady_frame | with_reducible apply State.setStart_frame
    | with_reducible apply State.addWrap_frame | with_reducible apply State.wr_frame
    | with_reducible apply State.fillPlaces_frame | split | dsimp only | intro _ | with_reducible apply Fr.lit
    | with_reducible exact Or.inl (by assumption) | with_reducible exact Or.inr rfl

/-! ### Faults -/

theorem State.latch_frame {s : State} {r : FReport} (wFAULT_DIGEST : W .FAULT_DIGEST)
    (wFAULT_TIME : W .FAULT_TIME) (wFIELD_VNEED : W .FIELD_VNEED) (wFIELD_VOLT : W .FIELD_VOLT)
    (wFIELD_VOLT_AT_CEIL : W .FIELD_VOLT_AT_CEIL) (wGROUP_CHG_ABORTS : W .GROUP_CHG_ABORTS)
    (wGROUP_CHG_RESULT : W .GROUP_CHG_RESULT) (wGROUP_CHG_STATE : W .GROUP_CHG_STATE) (wPR_CUR_TAG : W .PR_CUR_TAG)
    (wPR_DISCARDED : W .PR_DISCARDED) (wRAIL_RETRIES : W .RAIL_RETRIES) (wRAIL_STATUS : W .RAIL_STATUS)
    (qsu : Q .su) (qflt : Q .flt) (qfld : Q .fld) (qgrp : Q .grp) (qlink : Q .link) (qrail : Q .rail)
    (h : Fr W Q z s) :
    Fr W Q z (State.latch s r) := by
  unfold State.latch
  repeat' first
    | with_reducible assumption | with_reducible refine State.each_kept ?_ ?_
    | with_reducible refine State.when_kept ?_ ?_ | with_reducible apply State.wr_frame
    | with_reducible apply State.discardOcc_frame | with_reducible apply State.faultRuns_frame
    | with_reducible apply State.freezeAll_frame | split | dsimp only | intro _ | with_reducible apply Fr.lit
    | with_reducible exact Or.inl (by assumption) | with_reducible exact Or.inr rfl

theorem State.jobFaultEvent_frame {s : State} {r : FReport} (wALERT_STATUS : W .ALERT_STATUS)
    (wEVENT_NEXT : W .EVENT_NEXT) (wEVENT_OVERWRITTEN : W .EVENT_OVERWRITTEN) (wEVENT_PAGE : W .EVENT_PAGE)
    (wEVENT_SEQ : W .EVENT_SEQ) (qflt : Q .flt) (h : Fr W Q z s) :
    Fr W Q z (State.jobFaultEvent s r) := by
  unfold State.jobFaultEvent
  repeat' first
    | with_reducible assumption | with_reducible apply State.event_frame

theorem State.startFailed_frame {s : State} (wALERT_STATUS : W .ALERT_STATUS) (wEVENT_NEXT : W .EVENT_NEXT)
    (wEVENT_OVERWRITTEN : W .EVENT_OVERWRITTEN) (wEVENT_PAGE : W .EVENT_PAGE) (wEVENT_SEQ : W .EVENT_SEQ)
    (wSTART_STATE : W .START_STATE) (qflt : Q .flt) (h : Fr W Q z s) :
    Fr W Q z (State.startFailed s) := by
  unfold State.startFailed
  repeat' first
    | with_reducible assumption | with_reducible apply State.setStart_frame | with_reducible apply State.event_frame

theorem State.armFails_frame {s : State} (wALERT_STATUS : W .ALERT_STATUS) (wEVENT_NEXT : W .EVENT_NEXT)
    (wEVENT_OVERWRITTEN : W .EVENT_OVERWRITTEN) (wEVENT_PAGE : W .EVENT_PAGE) (wEVENT_SEQ : W .EVENT_SEQ)
    (wSTART_STATE : W .START_STATE) (qsu : Q .su) (qflt : Q .flt) (h : Fr W Q z s) :
    Fr W Q z (State.armFails s) := by
  unfold State.armFails
  repeat' first
    | with_reducible assumption | with_reducible apply State.startFailed_frame | split | dsimp only | intro _
    | with_reducible apply Fr.lit | with_reducible exact Or.inl (by assumption) | with_reducible exact Or.inr rfl

theorem State.armRepeat_frame {s : State} {r : FReport} (wALERT_STATUS : W .ALERT_STATUS)
    (wARM_REPEATS : W .ARM_REPEATS) (wCAP_STATUS : W .CAP_STATUS) (wDS_STATUS : W .DS_STATUS)
    (wEPISODE : W .EPISODE) (wEPISODE_NEXT : W .EPISODE_NEXT) (wEPISODE_OPEN_REASON : W .EPISODE_OPEN_REASON)
    (wEPISODE_OVERWRITTEN : W .EPISODE_OVERWRITTEN) (wEPISODE_SEQ : W .EPISODE_SEQ)
    (wEPISODE_SHORT : W .EPISODE_SHORT) (wEVENT_NEXT : W .EVENT_NEXT) (wEVENT_OVERWRITTEN : W .EVENT_OVERWRITTEN)
    (wEVENT_PAGE : W .EVENT_PAGE) (wEVENT_SEQ : W .EVENT_SEQ) (wEXCLUDED_MAP : W .EXCLUDED_MAP)
    (wFAST_DUTY : W .FAST_DUTY) (wFAULT_LATER_COUNT : W .FAULT_LATER_COUNT) (wFIELD_VNEED : W .FIELD_VNEED)
    (wFIELD_VOLT : W .FIELD_VOLT) (wFIELD_VOLT_AT_CEIL : W .FIELD_VOLT_AT_CEIL) (wFLOOR_RATE : W .FLOOR_RATE)
    (wFLOOR_STATE : W .FLOOR_STATE) (wGROUP_CHG_ABORTS : W .GROUP_CHG_ABORTS)
    (wGROUP_CHG_RESULT : W .GROUP_CHG_RESULT) (wGROUP_CHG_STATE : W .GROUP_CHG_STATE) (wINJ_ARM : W .INJ_ARM)
    (wINJ_COUNT : W .INJ_COUNT) (wINJ_RESULT : W .INJ_RESULT) (wOSC_CODE : W .OSC_CODE)
    (wOSC_STATUS : W .OSC_STATUS) (wOSC_TARGET_N : W .OSC_TARGET_N) (wPR_CUR_TAG : W .PR_CUR_TAG)
    (wPR_DISCARDED : W .PR_DISCARDED) (wPR_NEXT_TAG : W .PR_NEXT_TAG) (wRAIL_RETRIES : W .RAIL_RETRIES)
    (wRAIL_STATUS : W .RAIL_STATUS) (wREGION_COUNT : W .REGION_COUNT)
    (wREGION_EXCLUDE_CAUSE : W .REGION_EXCLUDE_CAUSE) (wREGION_STOP_ABORTS : W .REGION_STOP_ABORTS)
    (wREGION_STOP_RESULT : W .REGION_STOP_RESULT) (wREGION_STOP_STATE : W .REGION_STOP_STATE)
    (wREGION_TIME : W .REGION_TIME) (wRUN_STATUS : W .RUN_STATUS) (wSLIP : W .SLIP)
    (wSTRETCH_E_FLOOR : W .STRETCH_E_FLOOR) (wSTRETCH_HOLDS : W .STRETCH_HOLDS) (wSY_QUIESCES : W .SY_QUIESCES)
    (wTETHER_STATUS : W .TETHER_STATUS) (wTRIM_MODE : W .TRIM_MODE) (wUNIT_READY : W .UNIT_READY)
    (wXING_DISCARD : W .XING_DISCARD) (wXING_RESYNCS : W .XING_RESYNCS) (qsu : Q .su) (qflt : Q .flt)
    (qinj : Q .inj) (qrgn : Q .rgn) (qest : Q .est) (qcell : Q .cell) (qfld : Q .fld) (qgrp : Q .grp)
    (qlink : Q .link) (qrail : Q .rail) (qstop : Q .stop) (qcaps : Q .caps) (qdict : Q .dict) (h : Fr W Q z s) :
    Fr W Q z (State.armRepeat s r) := by
  unfold State.armRepeat
  repeat' first
    | with_reducible assumption | with_reducible apply State.inc_frame | with_reducible apply State.event_frame
    | with_reducible apply State.haltAll_frame | split | dsimp only | intro _ | with_reducible apply Fr.lit
    | with_reducible exact Or.inl (by assumption) | with_reducible exact Or.inr rfl

theorem State.faultInArm_frame {s : State} {r : FReport} {other : Bool} {first : Bool}
    (wALERT_STATUS : W .ALERT_STATUS) (wARM_REPEATS : W .ARM_REPEATS) (wCAP_STATUS : W .CAP_STATUS)
    (wDS_STATUS : W .DS_STATUS) (wEPISODE : W .EPISODE) (wEPISODE_NEXT : W .EPISODE_NEXT)
    (wEPISODE_OPEN_REASON : W .EPISODE_OPEN_REASON) (wEPISODE_OVERWRITTEN : W .EPISODE_OVERWRITTEN)
    (wEPISODE_SEQ : W .EPISODE_SEQ) (wEPISODE_SHORT : W .EPISODE_SHORT) (wEVENT_NEXT : W .EVENT_NEXT)
    (wEVENT_OVERWRITTEN : W .EVENT_OVERWRITTEN) (wEVENT_PAGE : W .EVENT_PAGE) (wEVENT_SEQ : W .EVENT_SEQ)
    (wEXCLUDED_MAP : W .EXCLUDED_MAP) (wFAST_DUTY : W .FAST_DUTY) (wFAULT_LATER_COUNT : W .FAULT_LATER_COUNT)
    (wFIELD_VNEED : W .FIELD_VNEED) (wFIELD_VOLT : W .FIELD_VOLT) (wFIELD_VOLT_AT_CEIL : W .FIELD_VOLT_AT_CEIL)
    (wFLOOR_RATE : W .FLOOR_RATE) (wFLOOR_STATE : W .FLOOR_STATE) (wGROUP_CHG_ABORTS : W .GROUP_CHG_ABORTS)
    (wGROUP_CHG_RESULT : W .GROUP_CHG_RESULT) (wGROUP_CHG_STATE : W .GROUP_CHG_STATE) (wINJ_ARM : W .INJ_ARM)
    (wINJ_COUNT : W .INJ_COUNT) (wINJ_RESULT : W .INJ_RESULT) (wOSC_CODE : W .OSC_CODE)
    (wOSC_STATUS : W .OSC_STATUS) (wOSC_TARGET_N : W .OSC_TARGET_N) (wPR_CUR_TAG : W .PR_CUR_TAG)
    (wPR_DISCARDED : W .PR_DISCARDED) (wPR_NEXT_TAG : W .PR_NEXT_TAG) (wRAIL_RETRIES : W .RAIL_RETRIES)
    (wRAIL_STATUS : W .RAIL_STATUS) (wREGION_COUNT : W .REGION_COUNT)
    (wREGION_EXCLUDE_CAUSE : W .REGION_EXCLUDE_CAUSE) (wREGION_STOP_ABORTS : W .REGION_STOP_ABORTS)
    (wREGION_STOP_RESULT : W .REGION_STOP_RESULT) (wREGION_STOP_STATE : W .REGION_STOP_STATE)
    (wREGION_STRIKES : W .REGION_STRIKES) (wREGION_TIME : W .REGION_TIME) (wRUN_STATUS : W .RUN_STATUS)
    (wSLIP : W .SLIP) (wSTART_STATE : W .START_STATE) (wSTRETCH_E_FLOOR : W .STRETCH_E_FLOOR)
    (wSTRETCH_HOLDS : W .STRETCH_HOLDS) (wSY_QUIESCES : W .SY_QUIESCES) (wTETHER_STATUS : W .TETHER_STATUS)
    (wTRIM_MODE : W .TRIM_MODE) (wUNIT_READY : W .UNIT_READY) (wXING_DISCARD : W .XING_DISCARD)
    (wXING_RESYNCS : W .XING_RESYNCS) (qsu : Q .su) (qflt : Q .flt) (qinj : Q .inj) (qrgn : Q .rgn) (qest : Q .est)
    (qcell : Q .cell) (qfld : Q .fld) (qgrp : Q .grp) (qlink : Q .link) (qrail : Q .rail) (qstop : Q .stop)
    (qcaps : Q .caps) (qdict : Q .dict) (h : Fr W Q z s) :
    Fr W Q z (State.faultInArm s r other first) := by
  unfold State.faultInArm
  repeat' first
    | with_reducible assumption | with_reducible refine State.when_kept ?_ ?_
    | with_reducible apply State.strike_frame | with_reducible apply State.markStart_frame
    | with_reducible apply State.armRepeat_frame | with_reducible apply State.jobFaultEvent_frame
    | with_reducible apply State.armFails_frame | split | dsimp only | intro _

theorem State.faultOutside_frame {s : State} {r : FReport} (wALERT_STATUS : W .ALERT_STATUS)
    (wEVENT_NEXT : W .EVENT_NEXT) (wEVENT_OVERWRITTEN : W .EVENT_OVERWRITTEN) (wEVENT_PAGE : W .EVENT_PAGE)
    (wEVENT_SEQ : W .EVENT_SEQ) (wEXCLUDED_MAP : W .EXCLUDED_MAP) (wREGION_EXCLUDE_CAUSE : W .REGION_EXCLUDE_CAUSE)
    (wREGION_STRIKES : W .REGION_STRIKES) (wSTART_STATE : W .START_STATE) (qsu : Q .su) (qflt : Q .flt)
    (qdict : Q .dict) (h : Fr W Q z s) :
    Fr W Q z (State.faultOutside s r) := by
  unfold State.faultOutside
  repeat' first
    | with_reducible assumption | with_reducible apply State.jobFaultEvent_frame
    | with_reducible apply State.strike_frame | with_reducible apply State.markStart_frame
    | with_reducible apply State.setStart_frame | with_reducible apply State.startFailed_frame | split | dsimp only
    | intro _ | with_reducible apply Fr.lit | with_reducible exact Or.inl (by assumption)
    | with_reducible exact Or.inr rfl

theorem State.decideReports_frame {s : State} {l : List FReport} (wALERT_STATUS : W .ALERT_STATUS)
    (wARM_REPEATS : W .ARM_REPEATS) (wCAP_STATUS : W .CAP_STATUS) (wDS_STATUS : W .DS_STATUS)
    (wEPISODE : W .EPISODE) (wEPISODE_NEXT : W .EPISODE_NEXT) (wEPISODE_OPEN_REASON : W .EPISODE_OPEN_REASON)
    (wEPISODE_OVERWRITTEN : W .EPISODE_OVERWRITTEN) (wEPISODE_SEQ : W .EPISODE_SEQ)
    (wEPISODE_SHORT : W .EPISODE_SHORT) (wEVENT_NEXT : W .EVENT_NEXT) (wEVENT_OVERWRITTEN : W .EVENT_OVERWRITTEN)
    (wEVENT_PAGE : W .EVENT_PAGE) (wEVENT_SEQ : W .EVENT_SEQ) (wEXCLUDED_MAP : W .EXCLUDED_MAP)
    (wFAST_DUTY : W .FAST_DUTY) (wFAULT_DIGEST : W .FAULT_DIGEST) (wFAULT_LATER_COUNT : W .FAULT_LATER_COUNT)
    (wFAULT_TIME : W .FAULT_TIME) (wFIELD_VNEED : W .FIELD_VNEED) (wFIELD_VOLT : W .FIELD_VOLT)
    (wFIELD_VOLT_AT_CEIL : W .FIELD_VOLT_AT_CEIL) (wFLOOR_RATE : W .FLOOR_RATE) (wFLOOR_STATE : W .FLOOR_STATE)
    (wGROUP_CHG_ABORTS : W .GROUP_CHG_ABORTS) (wGROUP_CHG_RESULT : W .GROUP_CHG_RESULT)
    (wGROUP_CHG_STATE : W .GROUP_CHG_STATE) (wINJ_ARM : W .INJ_ARM) (wINJ_COUNT : W .INJ_COUNT)
    (wINJ_RESULT : W .INJ_RESULT) (wOSC_CODE : W .OSC_CODE) (wOSC_STATUS : W .OSC_STATUS)
    (wOSC_TARGET_N : W .OSC_TARGET_N) (wPR_CUR_TAG : W .PR_CUR_TAG) (wPR_DISCARDED : W .PR_DISCARDED)
    (wPR_NEXT_TAG : W .PR_NEXT_TAG) (wRAIL_RETRIES : W .RAIL_RETRIES) (wRAIL_STATUS : W .RAIL_STATUS)
    (wREGION_COUNT : W .REGION_COUNT) (wREGION_EXCLUDE_CAUSE : W .REGION_EXCLUDE_CAUSE)
    (wREGION_STOP_ABORTS : W .REGION_STOP_ABORTS) (wREGION_STOP_RESULT : W .REGION_STOP_RESULT)
    (wREGION_STOP_STATE : W .REGION_STOP_STATE) (wREGION_STRIKES : W .REGION_STRIKES)
    (wREGION_TIME : W .REGION_TIME) (wRUN_STATUS : W .RUN_STATUS) (wSLIP : W .SLIP) (wSTART_STATE : W .START_STATE)
    (wSTRETCH_E_FLOOR : W .STRETCH_E_FLOOR) (wSTRETCH_HOLDS : W .STRETCH_HOLDS) (wSY_QUIESCES : W .SY_QUIESCES)
    (wTETHER_STATUS : W .TETHER_STATUS) (wTRIM_MODE : W .TRIM_MODE) (wUNIT_READY : W .UNIT_READY)
    (wXING_DISCARD : W .XING_DISCARD) (wXING_RESYNCS : W .XING_RESYNCS) (qsu : Q .su) (qflt : Q .flt)
    (qinj : Q .inj) (qrgn : Q .rgn) (qest : Q .est) (qcell : Q .cell) (qfld : Q .fld) (qgrp : Q .grp)
    (qlink : Q .link) (qrail : Q .rail) (qstop : Q .stop) (qcaps : Q .caps) (qdict : Q .dict) (h : Fr W Q z s) :
    Fr W Q z (State.decideReports s l) := by
  unfold State.decideReports
  repeat' first
    | with_reducible assumption | with_reducible refine State.each_kept ?_ ?_ | with_reducible apply State.latch_frame
    | with_reducible apply State.laterFault_frame | with_reducible apply State.faultInArm_frame
    | with_reducible apply State.faultOutside_frame | split | dsimp only | intro _ | with_reducible apply Fr.lit
    | with_reducible exact Or.inl (by assumption) | with_reducible exact Or.inr rfl

theorem execFaultReport_frame {k : Nat} {s : State} (wALERT_STATUS : W .ALERT_STATUS)
    (wARM_REPEATS : W .ARM_REPEATS) (wCAP_STATUS : W .CAP_STATUS) (wDS_STATUS : W .DS_STATUS)
    (wEPISODE : W .EPISODE) (wEPISODE_NEXT : W .EPISODE_NEXT) (wEPISODE_OPEN_REASON : W .EPISODE_OPEN_REASON)
    (wEPISODE_OVERWRITTEN : W .EPISODE_OVERWRITTEN) (wEPISODE_SEQ : W .EPISODE_SEQ)
    (wEPISODE_SHORT : W .EPISODE_SHORT) (wEVENT_NEXT : W .EVENT_NEXT) (wEVENT_OVERWRITTEN : W .EVENT_OVERWRITTEN)
    (wEVENT_PAGE : W .EVENT_PAGE) (wEVENT_SEQ : W .EVENT_SEQ) (wEXCLUDED_MAP : W .EXCLUDED_MAP)
    (wFAST_DUTY : W .FAST_DUTY) (wFAULT_DIGEST : W .FAULT_DIGEST) (wFAULT_LATER_COUNT : W .FAULT_LATER_COUNT)
    (wFAULT_TIME : W .FAULT_TIME) (wFIELD_VNEED : W .FIELD_VNEED) (wFIELD_VOLT : W .FIELD_VOLT)
    (wFIELD_VOLT_AT_CEIL : W .FIELD_VOLT_AT_CEIL) (wFLOOR_RATE : W .FLOOR_RATE) (wFLOOR_STATE : W .FLOOR_STATE)
    (wGROUP_CHG_ABORTS : W .GROUP_CHG_ABORTS) (wGROUP_CHG_RESULT : W .GROUP_CHG_RESULT)
    (wGROUP_CHG_STATE : W .GROUP_CHG_STATE) (wINJ_ARM : W .INJ_ARM) (wINJ_COUNT : W .INJ_COUNT)
    (wINJ_RESULT : W .INJ_RESULT) (wOSC_CODE : W .OSC_CODE) (wOSC_STATUS : W .OSC_STATUS)
    (wOSC_TARGET_N : W .OSC_TARGET_N) (wPR_CUR_TAG : W .PR_CUR_TAG) (wPR_DISCARDED : W .PR_DISCARDED)
    (wPR_NEXT_TAG : W .PR_NEXT_TAG) (wRAIL_RETRIES : W .RAIL_RETRIES) (wRAIL_STATUS : W .RAIL_STATUS)
    (wREGION_COUNT : W .REGION_COUNT) (wREGION_EXCLUDE_CAUSE : W .REGION_EXCLUDE_CAUSE)
    (wREGION_STOP_ABORTS : W .REGION_STOP_ABORTS) (wREGION_STOP_RESULT : W .REGION_STOP_RESULT)
    (wREGION_STOP_STATE : W .REGION_STOP_STATE) (wREGION_STRIKES : W .REGION_STRIKES)
    (wREGION_TIME : W .REGION_TIME) (wRUN_STATUS : W .RUN_STATUS) (wSLIP : W .SLIP) (wSTART_STATE : W .START_STATE)
    (wSTRETCH_E_FLOOR : W .STRETCH_E_FLOOR) (wSTRETCH_HOLDS : W .STRETCH_HOLDS) (wSY_QUIESCES : W .SY_QUIESCES)
    (wTETHER_STATUS : W .TETHER_STATUS) (wTRIM_MODE : W .TRIM_MODE) (wUNIT_READY : W .UNIT_READY)
    (wXING_DISCARD : W .XING_DISCARD) (wXING_RESYNCS : W .XING_RESYNCS) (qsu : Q .su) (qflt : Q .flt)
    (qinj : Q .inj) (qrgn : Q .rgn) (qest : Q .est) (qcell : Q .cell) (qfld : Q .fld) (qgrp : Q .grp)
    (qlink : Q .link) (qrail : Q .rail) (qstop : Q .stop) (qcaps : Q .caps) (qdict : Q .dict) (h : Fr W Q z s) :
    ∀ t, execFaultReport k s = .next t → Fr W Q z t := by
  unfold execFaultReport
  repeat' first
    | with_reducible refine next_kept ?_ | with_reducible assumption | with_reducible refine State.when_kept ?_ ?_
    | with_reducible apply State.decideReports_frame | split | dsimp only | intro _ | with_reducible apply Fr.lit
    | with_reducible exact Or.inl (by assumption) | with_reducible exact Or.inr rfl

theorem execFaultLine_frame {s : State} (wFIELD_VNEED : W .FIELD_VNEED) (wFIELD_VOLT : W .FIELD_VOLT)
    (wFIELD_VOLT_AT_CEIL : W .FIELD_VOLT_AT_CEIL) (wGROUP_CHG_ABORTS : W .GROUP_CHG_ABORTS)
    (wGROUP_CHG_RESULT : W .GROUP_CHG_RESULT) (wGROUP_CHG_STATE : W .GROUP_CHG_STATE)
    (wRAIL_RETRIES : W .RAIL_RETRIES) (wRAIL_STATUS : W .RAIL_STATUS) (qsu : Q .su) (qflt : Q .flt) (qfld : Q .fld)
    (qgrp : Q .grp) (qlink : Q .link) (qrail : Q .rail) (h : Fr W Q z s) :
    ∀ t, execFaultLine s = .next t → Fr W Q z t := by
  unfold execFaultLine
  repeat' first
    | with_reducible refine next_kept ?_ | with_reducible assumption | with_reducible refine State.when_kept ?_ ?_
    | with_reducible apply State.freezeAll_frame | split | dsimp only | intro _ | with_reducible apply Fr.lit
    | with_reducible exact Or.inl (by assumption) | with_reducible exact Or.inr rfl

theorem execLineOnly_frame {s : State} (wALERT_STATUS : W .ALERT_STATUS) (wARM_REPEATS : W .ARM_REPEATS)
    (wCAP_STATUS : W .CAP_STATUS) (wDS_STATUS : W .DS_STATUS) (wEPISODE : W .EPISODE)
    (wEPISODE_NEXT : W .EPISODE_NEXT) (wEPISODE_OPEN_REASON : W .EPISODE_OPEN_REASON)
    (wEPISODE_OVERWRITTEN : W .EPISODE_OVERWRITTEN) (wEPISODE_SEQ : W .EPISODE_SEQ)
    (wEPISODE_SHORT : W .EPISODE_SHORT) (wEVENT_NEXT : W .EVENT_NEXT) (wEVENT_OVERWRITTEN : W .EVENT_OVERWRITTEN)
    (wEVENT_PAGE : W .EVENT_PAGE) (wEVENT_SEQ : W .EVENT_SEQ) (wEXCLUDED_MAP : W .EXCLUDED_MAP)
    (wFAST_DUTY : W .FAST_DUTY) (wFAULT_DIGEST : W .FAULT_DIGEST) (wFAULT_LATER_COUNT : W .FAULT_LATER_COUNT)
    (wFAULT_TIME : W .FAULT_TIME) (wFIELD_VNEED : W .FIELD_VNEED) (wFIELD_VOLT : W .FIELD_VOLT)
    (wFIELD_VOLT_AT_CEIL : W .FIELD_VOLT_AT_CEIL) (wFLOOR_RATE : W .FLOOR_RATE) (wFLOOR_STATE : W .FLOOR_STATE)
    (wGROUP_CHG_ABORTS : W .GROUP_CHG_ABORTS) (wGROUP_CHG_RESULT : W .GROUP_CHG_RESULT)
    (wGROUP_CHG_STATE : W .GROUP_CHG_STATE) (wINJ_ARM : W .INJ_ARM) (wINJ_COUNT : W .INJ_COUNT)
    (wINJ_RESULT : W .INJ_RESULT) (wOSC_CODE : W .OSC_CODE) (wOSC_STATUS : W .OSC_STATUS)
    (wOSC_TARGET_N : W .OSC_TARGET_N) (wPR_CUR_TAG : W .PR_CUR_TAG) (wPR_DISCARDED : W .PR_DISCARDED)
    (wPR_NEXT_TAG : W .PR_NEXT_TAG) (wRAIL_RETRIES : W .RAIL_RETRIES) (wRAIL_STATUS : W .RAIL_STATUS)
    (wREGION_COUNT : W .REGION_COUNT) (wREGION_EXCLUDE_CAUSE : W .REGION_EXCLUDE_CAUSE)
    (wREGION_STOP_ABORTS : W .REGION_STOP_ABORTS) (wREGION_STOP_RESULT : W .REGION_STOP_RESULT)
    (wREGION_STOP_STATE : W .REGION_STOP_STATE) (wREGION_STRIKES : W .REGION_STRIKES)
    (wREGION_TIME : W .REGION_TIME) (wRUN_STATUS : W .RUN_STATUS) (wSLIP : W .SLIP) (wSTART_STATE : W .START_STATE)
    (wSTRETCH_E_FLOOR : W .STRETCH_E_FLOOR) (wSTRETCH_HOLDS : W .STRETCH_HOLDS) (wSY_QUIESCES : W .SY_QUIESCES)
    (wTETHER_STATUS : W .TETHER_STATUS) (wTRIM_MODE : W .TRIM_MODE) (wUNIT_READY : W .UNIT_READY)
    (wXING_DISCARD : W .XING_DISCARD) (wXING_RESYNCS : W .XING_RESYNCS) (qsu : Q .su) (qflt : Q .flt)
    (qinj : Q .inj) (qrgn : Q .rgn) (qest : Q .est) (qcell : Q .cell) (qfld : Q .fld) (qgrp : Q .grp)
    (qlink : Q .link) (qrail : Q .rail) (qstop : Q .stop) (qcaps : Q .caps) (qdict : Q .dict) (h : Fr W Q z s) :
    ∀ t, execLineOnly s = .next t → Fr W Q z t := by
  unfold execLineOnly
  repeat' first
    | with_reducible refine next_kept ?_ | with_reducible assumption | with_reducible refine State.when_kept ?_ ?_
    | with_reducible apply State.decideReports_frame | split | dsimp only | intro _

theorem State.useSpineInj_frame {s : State} (wINJ_ARM : W .INJ_ARM) (wINJ_COUNT : W .INJ_COUNT)
    (wINJ_RESULT : W .INJ_RESULT) (qflt : Q .flt) (qinj : Q .inj) (h : Fr W Q z s) :
    Fr W Q z (State.useSpineInj s) := by
  unfold State.useSpineInj
  repeat' first
    | with_reducible assumption | with_reducible apply State.endInjection_frame | split | dsimp only | intro _
    | with_reducible apply Fr.lit | with_reducible exact Or.inl (by assumption) | with_reducible exact Or.inr rfl

theorem State.sendAgain_frame {s : State} {src : Nat × Nat} {dst : Nat × Nat} {m : HopMsg} {x : HopTry}
    (wINJ_ARM : W .INJ_ARM) (wINJ_COUNT : W .INJ_COUNT) (wINJ_RESULT : W .INJ_RESULT)
    (wSPINE_LINK_FAILS : W .SPINE_LINK_FAILS) (wSPINE_RETRANSMITS : W .SPINE_RETRANSMITS) (qflt : Q .flt)
    (qinj : Q .inj) (qhop : Q .hop) (h : Fr W Q z s) :
    Fr W Q z (State.sendAgain s src dst m x) := by
  unfold State.sendAgain
  repeat' first
    | with_reducible assumption | with_reducible refine State.when_kept ?_ ?_ | with_reducible apply State.inc_frame
    | with_reducible apply State.useSpineInj_frame | with_reducible apply State.raiseFault_frame | split | dsimp only
    | intro _ | with_reducible apply Fr.lit | with_reducible exact Or.inl (by assumption)
    | with_reducible exact Or.inr rfl

theorem execSpineRetransmit_frame {src : Nat × Nat} {dst : Nat × Nat} {m : HopMsg} {x : HopTry} {s : State}
    (wINJ_ARM : W .INJ_ARM) (wINJ_COUNT : W .INJ_COUNT) (wINJ_RESULT : W .INJ_RESULT)
    (wSPINE_LINK_FAILS : W .SPINE_LINK_FAILS) (wSPINE_RETRANSMITS : W .SPINE_RETRANSMITS) (qflt : Q .flt)
    (qinj : Q .inj) (qhop : Q .hop) (h : Fr W Q z s) :
    ∀ t, execSpineRetransmit src dst m x s = .next t → Fr W Q z t := by
  unfold execSpineRetransmit
  repeat' first
    | with_reducible refine next_kept ?_ | with_reducible assumption | with_reducible refine State.when_kept ?_ ?_
    | with_reducible apply State.sendAgain_frame | split | dsimp only | intro _

theorem State.giveUp_frame {s : State} {x : RemoteAcc} (wAUDIT_NEXT : W .AUDIT_NEXT) (wAUDIT_OK : W .AUDIT_OK)
    (wAUDIT_OVERWRITTEN : W .AUDIT_OVERWRITTEN) (wAUDIT_REFUSED : W .AUDIT_REFUSED) (wAUDIT_SEQ : W .AUDIT_SEQ)
    (wBX_DIRECTIVES : W .BX_DIRECTIVES) (wFB_BUSY_ANSWERS : W .FB_BUSY_ANSWERS) (wFB_MALFORMED : W .FB_MALFORMED)
    (wFB_TX_DROPPED : W .FB_TX_DROPPED) (wFB_TX_FRAMES : W .FB_TX_FRAMES) (wHP_DENIED : W .HP_DENIED)
    (wHP_ERRORS : W .HP_ERRORS) (wHP_LAST_STATUS : W .HP_LAST_STATUS) (wHP_NOTREADY : W .HP_NOTREADY)
    (qdict : Q .dict) (qports : Q .ports) (qbudget : Q .budget) (qidx : Q .idx) (qfdp : Q .fdp) (h : Fr W Q z s) :
    Fr W Q z (State.giveUp s x) := by
  unfold State.giveUp
  repeat' first
    | with_reducible assumption | with_reducible refine State.when_kept ?_ ?_
    | with_reducible apply State.auditWrite_frame | with_reducible apply State.reply_frame | split | dsimp only
    | intro _

theorem State.giveUpIdx_frame {s : State} {w : Bool} {len : Nat} (wAUDIT_MERGED : W .AUDIT_MERGED)
    (wAUDIT_NEXT : W .AUDIT_NEXT) (wAUDIT_OK : W .AUDIT_OK) (wAUDIT_OVERWRITTEN : W .AUDIT_OVERWRITTEN)
    (wAUDIT_REFUSED : W .AUDIT_REFUSED) (wAUDIT_SEQ : W .AUDIT_SEQ) (wBX_DIRECTIVES : W .BX_DIRECTIVES)
    (wFB_BUSY_ANSWERS : W .FB_BUSY_ANSWERS) (wFB_MALFORMED : W .FB_MALFORMED) (wFB_TX_DROPPED : W .FB_TX_DROPPED)
    (wFB_TX_FRAMES : W .FB_TX_FRAMES) (wHP_DENIED : W .HP_DENIED) (wHP_ERRORS : W .HP_ERRORS)
    (wHP_LAST_STATUS : W .HP_LAST_STATUS) (wHP_NOTREADY : W .HP_NOTREADY) (wLC_STATUS : W .LC_STATUS)
    (qdict : Q .dict) (qports : Q .ports) (qbudget : Q .budget) (qidx : Q .idx) (qfdp : Q .fdp) (h : Fr W Q z s) :
    Fr W Q z (State.giveUpIdx s w len) := by
  unfold State.giveUpIdx
  repeat' first
    | with_reducible assumption | with_reducible apply State.refuse_frame | with_reducible apply State.reply_frame
    | split

theorem State.resetDictionary_frame {s : State} (wAll : ∀ o, W o) (qheld : Q .held) (qclock : Q .clock)
    (qrefs : Q .refs) (qsu : Q .su) (qflt : Q .flt) (qinj : Q .inj) (qrgn : Q .rgn) (qest : Q .est)
    (qlane : Q .lane) (qcell : Q .cell) (qfld : Q .fld) (qgrp : Q .grp) (qdom : Q .dom) (qpdWakes : Q .pdWakes)
    (qpdCmds : Q .pdCmds) (qlink : Q .link) (qrail : Q .rail) (qstop : Q .stop) (qcaps : Q .caps) (qdict : Q .dict)
    (qfreeN : Q .freeN) (qbox : Q .box) (qports : Q .ports) (qenergy : Q .energy) (qphase : Q .phase)
    (qbudget : Q .budget) (qidx : Q .idx) (qfdp : Q .fdp) (qflash : Q .flash) (qfon : Q .fon) (h : Fr W Q z s) :
    Fr W Q z (State.resetDictionary s) := by
  unfold State.resetDictionary
  repeat' first
    | with_reducible assumption | with_reducible exact wAll _ | with_reducible refine State.each_kept ?_ ?_
    | with_reducible refine State.when_kept ?_ ?_ | with_reducible apply State.giveUp_frame
    | with_reducible apply State.giveUpIdx_frame | with_reducible apply State.nextRemote_frame
    | with_reducible apply State.hostHeldOut_frame | split | dsimp only | intro _ | with_reducible apply Fr.lit
    | with_reducible exact Or.inl (by assumption) | with_reducible exact Or.inr rfl

theorem State.functionReset_frame {s : State} {q : Seqr} (wAll : ∀ o, W o) (qheld : Q .held) (qclock : Q .clock)
    (qrefs : Q .refs) (qsu : Q .su) (qflt : Q .flt) (qinj : Q .inj) (qrgn : Q .rgn) (qest : Q .est)
    (qlane : Q .lane) (qcell : Q .cell) (qfld : Q .fld) (qgrp : Q .grp) (qdom : Q .dom) (qpdWakes : Q .pdWakes)
    (qpdCmds : Q .pdCmds) (qlink : Q .link) (qrail : Q .rail) (qstop : Q .stop) (qcaps : Q .caps) (qdict : Q .dict)
    (qfreeN : Q .freeN) (qbox : Q .box) (qports : Q .ports) (qenergy : Q .energy) (qphase : Q .phase)
    (qbudget : Q .budget) (qidx : Q .idx) (qfdp : Q .fdp) (qflash : Q .flash) (qfon : Q .fon) (h : Fr W Q z s) :
    Fr W Q z (State.functionReset s q) := by
  unfold State.functionReset
  repeat' first
    | with_reducible assumption | with_reducible exact wAll _ | with_reducible apply State.resetDictionary_frame
    | with_reducible apply State.resetFondant_frame | with_reducible apply State.setFallback_frame
    | with_reducible apply State.inc_frame | with_reducible apply State.event_frame | split | dsimp only | intro _
    | with_reducible apply Fr.lit | with_reducible exact Or.inl (by assumption) | with_reducible exact Or.inr rfl

theorem State.startSeqFails_frame {s : State} (wALERT_STATUS : W .ALERT_STATUS) (wEVENT_NEXT : W .EVENT_NEXT)
    (wEVENT_OVERWRITTEN : W .EVENT_OVERWRITTEN) (wEVENT_PAGE : W .EVENT_PAGE) (wEVENT_SEQ : W .EVENT_SEQ)
    (wSTART_STATE : W .START_STATE) (qsu : Q .su) (qflt : Q .flt) (h : Fr W Q z s) :
    Fr W Q z (State.startSeqFails s) := by
  unfold State.startSeqFails
  repeat' first
    | with_reducible assumption | with_reducible apply State.armFails_frame | with_reducible apply State.event_frame
    | with_reducible apply State.startFailed_frame | split | dsimp only | intro _ | with_reducible apply Fr.lit
    | with_reducible exact Or.inl (by assumption) | with_reducible exact Or.inr rfl

theorem State.seqFails_frame {s : State} {q : Seqr} {cls : FaultClass} {elem : Nat} (wAll : ∀ o, W o)
    (qheld : Q .held) (qclock : Q .clock) (qrefs : Q .refs) (qsu : Q .su) (qflt : Q .flt) (qinj : Q .inj)
    (qrgn : Q .rgn) (qest : Q .est) (qlane : Q .lane) (qcell : Q .cell) (qfld : Q .fld) (qgrp : Q .grp)
    (qdom : Q .dom) (qpdWakes : Q .pdWakes) (qpdCmds : Q .pdCmds) (qlink : Q .link) (qrail : Q .rail)
    (qstop : Q .stop) (qcaps : Q .caps) (qdict : Q .dict) (qfreeN : Q .freeN) (qbox : Q .box) (qports : Q .ports)
    (qenergy : Q .energy) (qphase : Q .phase) (qbudget : Q .budget) (qidx : Q .idx) (qfdp : Q .fdp)
    (qflash : Q .flash) (qfon : Q .fon) (h : Fr W Q z s) :
    Fr W Q z (State.seqFails s q cls elem) := by
  unfold State.seqFails
  repeat' first
    | with_reducible assumption | with_reducible exact wAll _ | with_reducible apply State.startSeqFails_frame
    | with_reducible apply State.raiseFault_frame | with_reducible apply State.functionReset_frame | split

theorem execSeqParity_frame {code : Nat} {elem : Nat} {s : State} (wAll : ∀ o, W o) (qheld : Q .held)
    (qclock : Q .clock) (qrefs : Q .refs) (qsu : Q .su) (qflt : Q .flt) (qinj : Q .inj) (qrgn : Q .rgn)
    (qest : Q .est) (qlane : Q .lane) (qcell : Q .cell) (qfld : Q .fld) (qgrp : Q .grp) (qdom : Q .dom)
    (qpdWakes : Q .pdWakes) (qpdCmds : Q .pdCmds) (qlink : Q .link) (qrail : Q .rail) (qstop : Q .stop)
    (qcaps : Q .caps) (qdict : Q .dict) (qfreeN : Q .freeN) (qbox : Q .box) (qports : Q .ports)
    (qenergy : Q .energy) (qphase : Q .phase) (qbudget : Q .budget) (qidx : Q .idx) (qfdp : Q .fdp)
    (qflash : Q .flash) (qfon : Q .fon) (h : Fr W Q z s) :
    ∀ t, execSeqParity code elem s = .next t → Fr W Q z t := by
  unfold execSeqParity
  repeat' first
    | with_reducible refine next_kept ?_ | with_reducible assumption | with_reducible exact wAll _
    | with_reducible apply State.inc_frame | with_reducible apply State.seqFails_frame | split

theorem execWatchdog_frame {x : SeqId} {us : Nat} {s : State} (wAll : ∀ o, W o) (qheld : Q .held)
    (qclock : Q .clock) (qrefs : Q .refs) (qsu : Q .su) (qflt : Q .flt) (qinj : Q .inj) (qrgn : Q .rgn)
    (qest : Q .est) (qlane : Q .lane) (qcell : Q .cell) (qfld : Q .fld) (qgrp : Q .grp) (qdom : Q .dom)
    (qpdWakes : Q .pdWakes) (qpdCmds : Q .pdCmds) (qlink : Q .link) (qrail : Q .rail) (qstop : Q .stop)
    (qcaps : Q .caps) (qdict : Q .dict) (qfreeN : Q .freeN) (qbox : Q .box) (qports : Q .ports)
    (qenergy : Q .energy) (qphase : Q .phase) (qbudget : Q .budget) (qidx : Q .idx) (qfdp : Q .fdp)
    (qflash : Q .flash) (qfon : Q .fon) (h : Fr W Q z s) :
    ∀ t, execWatchdog x us s = .next t → Fr W Q z t := by
  unfold execWatchdog
  repeat' first
    | with_reducible refine next_kept ?_ | with_reducible assumption | with_reducible exact wAll _
    | with_reducible refine State.when_kept ?_ ?_ | with_reducible apply State.inc_frame
    | with_reducible apply State.seqFails_frame | split | dsimp only | intro _

theorem execAlertHoldExpiry_frame {s : State} (qflt : Q .flt) (h : Fr W Q z s) :
    ∀ t, execAlertHoldExpiry s = .next t → Fr W Q z t := by
  unfold execAlertHoldExpiry
  repeat' first
    | with_reducible refine next_kept ?_ | with_reducible assumption | with_reducible refine State.when_kept ?_ ?_
    | with_reducible apply State.driveAlert_frame | split | dsimp only | intro _ | with_reducible apply Fr.lit
    | with_reducible exact Or.inl (by assumption) | with_reducible exact Or.inr rfl

/-! ### StartUp -/

theorem State.cutCommit_frame {s : State} (qfreeN : Q .freeN) (qflash : Q .flash) (h : Fr W Q z s) :
    Fr W Q z (State.cutCommit s) := by
  unfold State.cutCommit
  repeat' first
    | with_reducible assumption | with_reducible apply State.free_frame | split | dsimp only | intro _
    | with_reducible apply Fr.lit | with_reducible exact Or.inl (by assumption) | with_reducible exact Or.inr rfl

theorem State.resyncAll_frame {s : State} (wICROSS_RESYNCS : W .ICROSS_RESYNCS) (qfreeN : Q .freeN)
    (h : Fr W Q z s) :
    Fr W Q z (State.resyncAll s) := by
  unfold State.resyncAll
  repeat' first
    | with_reducible assumption | with_reducible apply State.free_frame | with_reducible apply State.add_frame

theorem State.wipe_frame {s : State} {warm : Bool} (wAll : ∀ o, W o) (qheld : Q .held) (qclock : Q .clock)
    (qrefs : Q .refs) (qsu : Q .su) (qflt : Q .flt) (qinj : Q .inj) (qrgn : Q .rgn) (qest : Q .est)
    (qlane : Q .lane) (qts : Q .ts) (qcell : Q .cell) (qfld : Q .fld) (qgrp : Q .grp) (qdom : Q .dom)
    (qpdWakes : Q .pdWakes) (qpdCmds : Q .pdCmds) (qpdLast : Q .pdLast) (qlink : Q .link) (qrail : Q .rail)
    (qstop : Q .stop) (qcaps : Q .caps) (qdict : Q .dict) (qhop : Q .hop) (qfreeN : Q .freeN) (qbox : Q .box)
    (qports : Q .ports) (qenergy : Q .energy) (qphase : Q .phase) (qbudget : Q .budget) (qidx : Q .idx)
    (qfdp : Q .fdp) (qflash : Q .flash) (qfon : Q .fon) (h : Fr W Q z s) :
    Fr W Q z (State.wipe s warm) := by
  have hb : (State.wipe s warm).build = s.build :=
    (State.wipe_keeps (State.fixed_closed s.build s.pending) ⟨rfl, rfl⟩).1
  exact ⟨fun o e i hw => absurd (wAll o) hw, hb.trans h.build, fun p hp => by cases p <;> exact absurd (by assumption) hp⟩

theorem State.warm_frame {s : State} {cause : Nat} (wAll : ∀ o, W o) (qheld : Q .held) (qclock : Q .clock)
    (qrefs : Q .refs) (qsu : Q .su) (qflt : Q .flt) (qinj : Q .inj) (qrgn : Q .rgn) (qest : Q .est)
    (qlane : Q .lane) (qts : Q .ts) (qcell : Q .cell) (qfld : Q .fld) (qgrp : Q .grp) (qdom : Q .dom)
    (qpdWakes : Q .pdWakes) (qpdCmds : Q .pdCmds) (qpdLast : Q .pdLast) (qlink : Q .link) (qrail : Q .rail)
    (qstop : Q .stop) (qcaps : Q .caps) (qdict : Q .dict) (qhop : Q .hop) (qfreeN : Q .freeN) (qbox : Q .box)
    (qports : Q .ports) (qenergy : Q .energy) (qphase : Q .phase) (qbudget : Q .budget) (qidx : Q .idx)
    (qfdp : Q .fdp) (qflash : Q .flash) (qfon : Q .fon) (h : Fr W Q z s) :
    Fr W Q z (State.warm s cause) := by
  unfold State.warm
  repeat' first
    | with_reducible assumption | with_reducible exact wAll _ | with_reducible refine State.each_kept ?_ ?_
    | with_reducible apply State.wipe_frame | with_reducible apply State.wr_frame
    | with_reducible apply State.inc_frame | split | dsimp only | intro _

theorem execColdReset_frame {s : State} (wAll : ∀ o, W o) (qheld : Q .held) (qclock : Q .clock)
    (qrefs : Q .refs) (qsu : Q .su) (qflt : Q .flt) (qinj : Q .inj) (qrgn : Q .rgn) (qest : Q .est)
    (qlane : Q .lane) (qts : Q .ts) (qcell : Q .cell) (qfld : Q .fld) (qgrp : Q .grp) (qdom : Q .dom)
    (qpdWakes : Q .pdWakes) (qpdCmds : Q .pdCmds) (qpdLast : Q .pdLast) (qlink : Q .link) (qrail : Q .rail)
    (qstop : Q .stop) (qcaps : Q .caps) (qdict : Q .dict) (qhop : Q .hop) (qfreeN : Q .freeN) (qbox : Q .box)
    (qports : Q .ports) (qenergy : Q .energy) (qphase : Q .phase) (qbudget : Q .budget) (qidx : Q .idx)
    (qfdp : Q .fdp) (qflash : Q .flash) (qfon : Q .fon) (h : Fr W Q z s) :
    ∀ t, execColdReset s = .next t → Fr W Q z t := by
  unfold execColdReset
  repeat' first
    | with_reducible refine next_kept ?_ | with_reducible assumption | with_reducible exact wAll _
    | with_reducible apply State.wipe_frame

theorem execWarmReset_frame {s : State} (wAll : ∀ o, W o) (qheld : Q .held) (qclock : Q .clock)
    (qrefs : Q .refs) (qsu : Q .su) (qflt : Q .flt) (qinj : Q .inj) (qrgn : Q .rgn) (qest : Q .est)
    (qlane : Q .lane) (qts : Q .ts) (qcell : Q .cell) (qfld : Q .fld) (qgrp : Q .grp) (qdom : Q .dom)
    (qpdWakes : Q .pdWakes) (qpdCmds : Q .pdCmds) (qpdLast : Q .pdLast) (qlink : Q .link) (qrail : Q .rail)
    (qstop : Q .stop) (qcaps : Q .caps) (qdict : Q .dict) (qhop : Q .hop) (qfreeN : Q .freeN) (qbox : Q .box)
    (qports : Q .ports) (qenergy : Q .energy) (qphase : Q .phase) (qbudget : Q .budget) (qidx : Q .idx)
    (qfdp : Q .fdp) (qflash : Q .flash) (qfon : Q .fon) (h : Fr W Q z s) :
    ∀ t, execWarmReset s = .next t → Fr W Q z t := by
  unfold execWarmReset
  repeat' first
    | with_reducible refine next_kept ?_ | with_reducible assumption | with_reducible exact wAll _
    | with_reducible apply State.warm_frame

theorem execSelfResetApply_frame {s : State} (wAll : ∀ o, W o) (qheld : Q .held) (qclock : Q .clock)
    (qrefs : Q .refs) (qsu : Q .su) (qflt : Q .flt) (qinj : Q .inj) (qrgn : Q .rgn) (qest : Q .est)
    (qlane : Q .lane) (qts : Q .ts) (qcell : Q .cell) (qfld : Q .fld) (qgrp : Q .grp) (qdom : Q .dom)
    (qpdWakes : Q .pdWakes) (qpdCmds : Q .pdCmds) (qpdLast : Q .pdLast) (qlink : Q .link) (qrail : Q .rail)
    (qstop : Q .stop) (qcaps : Q .caps) (qdict : Q .dict) (qhop : Q .hop) (qfreeN : Q .freeN) (qbox : Q .box)
    (qports : Q .ports) (qenergy : Q .energy) (qphase : Q .phase) (qbudget : Q .budget) (qidx : Q .idx)
    (qfdp : Q .fdp) (qflash : Q .flash) (qfon : Q .fon) (h : Fr W Q z s) :
    ∀ t, execSelfResetApply s = .next t → Fr W Q z t := by
  unfold execSelfResetApply
  repeat' first
    | with_reducible refine next_kept ?_ | with_reducible assumption | with_reducible exact wAll _
    | with_reducible refine State.when_kept ?_ ?_ | with_reducible apply State.warm_frame | split | dsimp only
    | intro _

theorem execPowerUp_frame {s : State} (wCOLD_RESETS : W .COLD_RESETS) (wICROSS_RESYNCS : W .ICROSS_RESYNCS)
    (wREPORT_EPOCH : W .REPORT_EPOCH) (wUNIT_READY : W .UNIT_READY) (qsu : Q .su) (qflt : Q .flt)
    (qfreeN : Q .freeN) (h : Fr W Q z s) :
    ∀ t, execPowerUp s = .next t → Fr W Q z t := by
  unfold execPowerUp
  repeat' first
    | with_reducible refine next_kept ?_ | with_reducible assumption | with_reducible refine State.when_kept ?_ ?_
    | with_reducible apply State.inc_frame | with_reducible apply State.addWrap_frame
    | with_reducible apply State.setReady_frame | with_reducible apply State.driveAlert_frame
    | with_reducible apply State.resyncAll_frame | split | dsimp only | intro _ | with_reducible apply Fr.lit
    | with_reducible exact Or.inl (by assumption) | with_reducible exact Or.inr rfl

theorem execRefSelect_frame {s : State} (wALERT_STATUS : W .ALERT_STATUS) (wCLOCK_SOURCE : W .CLOCK_SOURCE)
    (wEVENT_NEXT : W .EVENT_NEXT) (wEVENT_OVERWRITTEN : W .EVENT_OVERWRITTEN) (wEVENT_PAGE : W .EVENT_PAGE)
    (wEVENT_SEQ : W .EVENT_SEQ) (wOSC_STATUS : W .OSC_STATUS) (wREF_STATUS : W .REF_STATUS)
    (wREF_SWITCHES : W .REF_SWITCHES) (wUNIT_READY : W .UNIT_READY) (qclock : Q .clock) (qrefs : Q .refs)
    (qflt : Q .flt) (qrgn : Q .rgn) (qfreeN : Q .freeN) (h : Fr W Q z s) :
    ∀ t, execRefSelect s = .next t → Fr W Q z t := by
  unfold execRefSelect
  repeat' first
    | with_reducible refine next_kept ?_ | with_reducible assumption | with_reducible refine State.when_kept ?_ ?_
    | with_reducible apply State.changeSource_frame | with_reducible apply State.setReady_frame
    | with_reducible apply State.prefer_frame | split | dsimp only | intro _

theorem State.calRegion_frame {s : State} {meas : List CalMeas} {m : CalMeas} (wCAL_CURVE : W .CAL_CURVE)
    (wDS_LINE_TRIM : W .DS_LINE_TRIM) (qts : Q .ts) (qfreeN : Q .freeN) (h : Fr W Q z s) :
    Fr W Q z (State.calRegion s meas m) := by
  unfold State.calRegion
  repeat' first
    | with_reducible assumption | with_reducible refine State.each_kept ?_ ?_ | with_reducible apply State.free_frame
    | with_reducible apply State.wr_frame | with_reducible apply State.modTs_frame | split | dsimp only | intro _

theorem execColdCalibration_frame {meas : List CalMeas} {s : State} (wCAL_CURVE : W .CAL_CURVE)
    (wDS_LINE_TRIM : W .DS_LINE_TRIM) (wFIELD_VOLT : W .FIELD_VOLT) (wRAIL_RETRIES : W .RAIL_RETRIES)
    (wRAIL_STATUS : W .RAIL_STATUS) (qsu : Q .su) (qts : Q .ts) (qfld : Q .fld) (qlink : Q .link) (qrail : Q .rail)
    (qfreeN : Q .freeN) (qfon : Q .fon) (h : Fr W Q z s) :
    ∀ t, execColdCalibration meas s = .next t → Fr W Q z t := by
  unfold execColdCalibration
  repeat' first
    | with_reducible refine next_kept ?_ | with_reducible assumption | with_reducible refine State.each_kept ?_ ?_
    | with_reducible refine State.when_kept ?_ ?_ | with_reducible apply State.calRegion_frame
    | with_reducible apply State.requestVolt_frame | split | dsimp only | intro _ | with_reducible apply Fr.lit
    | with_reducible exact Or.inl (by assumption) | with_reducible exact Or.inr rfl

theorem State.firstArm_frame {s : State} {re : Bool} (wARM_NEW_EXCLUDED : W .ARM_NEW_EXCLUDED)
    (wCAP_STATUS : W .CAP_STATUS) (wDS_QUARANTINE : W .DS_QUARANTINE) (wDS_STATUS : W .DS_STATUS)
    (wEST_STATUS : W .EST_STATUS) (wFAST_DUTY : W .FAST_DUTY) (wGROUP_ANCHOR : W .GROUP_ANCHOR)
    (wGROUP_CEIL_REASON : W .GROUP_CEIL_REASON) (wGROUP_CHG_RESULT : W .GROUP_CHG_RESULT)
    (wGROUP_CHG_STATE : W .GROUP_CHG_STATE) (wGROUP_DIAMETER : W .GROUP_DIAMETER) (wGROUP_N : W .GROUP_N)
    (wGROUP_TARGET_N : W .GROUP_TARGET_N) (wOP_CEIL_ENTRY : W .OP_CEIL_ENTRY) (wOP_POWER_ENTRY : W .OP_POWER_ENTRY)
    (wOSC_CODE : W .OSC_CODE) (wOSC_PERMIT_MAX : W .OSC_PERMIT_MAX) (wOSC_STATUS : W .OSC_STATUS)
    (wOSC_TARGET_N : W .OSC_TARGET_N) (wPR_GROUP_TABLE : W .PR_GROUP_TABLE) (wPR_LFSR : W .PR_LFSR)
    (wREGION_COUNT : W .REGION_COUNT) (wREGION_DETACHED : W .REGION_DETACHED)
    (wREGION_EXCLUDED_ACTIVE : W .REGION_EXCLUDED_ACTIVE) (wREGION_STOP_RESULT : W .REGION_STOP_RESULT)
    (wSLIP : W .SLIP) (wSTART_STATE : W .START_STATE) (wTETHER_GROUP_ACTIVE : W .TETHER_GROUP_ACTIVE)
    (wTETHER_STATUS : W .TETHER_STATUS) (wTRIM_MODE : W .TRIM_MODE) (wUNIT_READY : W .UNIT_READY)
    (wXING_FENCE : W .XING_FENCE) (qsu : Q .su) (qrgn : Q .rgn) (qest : Q .est) (qlane : Q .lane) (qcell : Q .cell)
    (qfld : Q .fld) (qgrp : Q .grp) (qfreeN : Q .freeN) (h : Fr W Q z s) :
    Fr W Q z (State.firstArm s re) := by
  unfold State.firstArm
  repeat' first
    | with_reducible assumption | with_reducible apply State.wr_frame | with_reducible apply State.beginArm_frame
    | split | dsimp only | intro _ | with_reducible apply Fr.lit | with_reducible exact Or.inl (by assumption)
    | with_reducible exact Or.inr rfl

theorem execOscStart_frame {s : State} (wARM_NEW_EXCLUDED : W .ARM_NEW_EXCLUDED) (wCAP_STATUS : W .CAP_STATUS)
    (wDS_QUARANTINE : W .DS_QUARANTINE) (wDS_STATUS : W .DS_STATUS) (wEST_STATUS : W .EST_STATUS)
    (wFAST_DUTY : W .FAST_DUTY) (wGROUP_ANCHOR : W .GROUP_ANCHOR) (wGROUP_CEIL_REASON : W .GROUP_CEIL_REASON)
    (wGROUP_CHG_RESULT : W .GROUP_CHG_RESULT) (wGROUP_CHG_STATE : W .GROUP_CHG_STATE)
    (wGROUP_DIAMETER : W .GROUP_DIAMETER) (wGROUP_N : W .GROUP_N) (wGROUP_TARGET_N : W .GROUP_TARGET_N)
    (wOP_CEIL_ENTRY : W .OP_CEIL_ENTRY) (wOP_POWER_ENTRY : W .OP_POWER_ENTRY) (wOSC_CODE : W .OSC_CODE)
    (wOSC_PERMIT_MAX : W .OSC_PERMIT_MAX) (wOSC_STATUS : W .OSC_STATUS) (wOSC_TARGET_N : W .OSC_TARGET_N)
    (wPR_GROUP_TABLE : W .PR_GROUP_TABLE) (wPR_LFSR : W .PR_LFSR) (wREGION_COUNT : W .REGION_COUNT)
    (wREGION_DETACHED : W .REGION_DETACHED) (wREGION_EXCLUDED_ACTIVE : W .REGION_EXCLUDED_ACTIVE)
    (wREGION_STOP_RESULT : W .REGION_STOP_RESULT) (wSLIP : W .SLIP) (wSTART_STATE : W .START_STATE)
    (wTETHER_GROUP_ACTIVE : W .TETHER_GROUP_ACTIVE) (wTETHER_STATUS : W .TETHER_STATUS) (wTRIM_MODE : W .TRIM_MODE)
    (wUNIT_READY : W .UNIT_READY) (wXING_FENCE : W .XING_FENCE) (qsu : Q .su) (qrgn : Q .rgn) (qest : Q .est)
    (qlane : Q .lane) (qcell : Q .cell) (qfld : Q .fld) (qgrp : Q .grp) (qfreeN : Q .freeN) (h : Fr W Q z s) :
    ∀ t, execOscStart s = .next t → Fr W Q z t := by
  unfold execOscStart
  repeat' first
    | with_reducible refine next_kept ?_ | with_reducible assumption | with_reducible refine State.when_kept ?_ ?_
    | with_reducible apply State.beginArm_frame | with_reducible apply State.firstArm_frame | split | dsimp only
    | intro _

theorem execIsoRelease_frame {s : State} (wUNIT_READY : W .UNIT_READY) (qdom : Q .dom) (h : Fr W Q z s) :
    ∀ t, execIsoRelease s = .next t → Fr W Q z t := by
  unfold execIsoRelease
  repeat' first
    | with_reducible refine next_kept ?_ | with_reducible assumption | with_reducible refine State.each_kept ?_ ?_
    | with_reducible refine State.when_kept ?_ ?_ | with_reducible apply State.modD_frame
    | with_reducible apply State.setReady_frame | split | dsimp only | intro _

theorem State.startRamp_frame {s : State} (wFIELD_VNEED : W .FIELD_VNEED) (wFIELD_VOLT : W .FIELD_VOLT)
    (wFIELD_VOLT_AT_CEIL : W .FIELD_VOLT_AT_CEIL) (wGROUP_CEIL_REASON : W .GROUP_CEIL_REASON)
    (wGROUP_CHG_ABORTS : W .GROUP_CHG_ABORTS) (wGROUP_CHG_RESULT : W .GROUP_CHG_RESULT)
    (wGROUP_CHG_STATE : W .GROUP_CHG_STATE) (wGROUP_TARGET_N : W .GROUP_TARGET_N)
    (wOP_CEIL_ENTRY : W .OP_CEIL_ENTRY) (wRAIL_RETRIES : W .RAIL_RETRIES) (wRAIL_STATUS : W .RAIL_STATUS)
    (wSTART_STATE : W .START_STATE) (qsu : Q .su) (qfld : Q .fld) (qgrp : Q .grp) (qlink : Q .link)
    (qrail : Q .rail) (h : Fr W Q z s) :
    Fr W Q z (State.startRamp s) := by
  unfold State.startRamp
  repeat' first
    | with_reducible assumption | with_reducible apply State.setStart_frame
    | with_reducible apply State.retargetAll_frame | split | dsimp only | intro _ | with_reducible apply Fr.lit
    | with_reducible exact Or.inl (by assumption) | with_reducible exact Or.inr rfl

theorem execStartRamp_frame {s : State} (wFIELD_VNEED : W .FIELD_VNEED) (wFIELD_VOLT : W .FIELD_VOLT)
    (wFIELD_VOLT_AT_CEIL : W .FIELD_VOLT_AT_CEIL) (wGROUP_CEIL_REASON : W .GROUP_CEIL_REASON)
    (wGROUP_CHG_ABORTS : W .GROUP_CHG_ABORTS) (wGROUP_CHG_RESULT : W .GROUP_CHG_RESULT)
    (wGROUP_CHG_STATE : W .GROUP_CHG_STATE) (wGROUP_TARGET_N : W .GROUP_TARGET_N)
    (wOP_CEIL_ENTRY : W .OP_CEIL_ENTRY) (wRAIL_RETRIES : W .RAIL_RETRIES) (wRAIL_STATUS : W .RAIL_STATUS)
    (wSTART_STATE : W .START_STATE) (qsu : Q .su) (qfld : Q .fld) (qgrp : Q .grp) (qlink : Q .link)
    (qrail : Q .rail) (h : Fr W Q z s) :
    ∀ t, execStartRamp s = .next t → Fr W Q z t := by
  unfold execStartRamp
  repeat' first
    | with_reducible refine next_kept ?_ | with_reducible assumption | with_reducible refine State.when_kept ?_ ?_
    | with_reducible apply State.startRamp_frame | split | dsimp only | intro _

theorem State.jobHalt_frame {s : State} (wALERT_STATUS : W .ALERT_STATUS) (wCAP_STATUS : W .CAP_STATUS)
    (wDS_STATUS : W .DS_STATUS) (wEPISODE : W .EPISODE) (wEPISODE_NEXT : W .EPISODE_NEXT)
    (wEPISODE_OPEN_REASON : W .EPISODE_OPEN_REASON) (wEPISODE_OVERWRITTEN : W .EPISODE_OVERWRITTEN)
    (wEPISODE_SEQ : W .EPISODE_SEQ) (wEPISODE_SHORT : W .EPISODE_SHORT) (wEVENT_NEXT : W .EVENT_NEXT)
    (wEVENT_OVERWRITTEN : W .EVENT_OVERWRITTEN) (wEVENT_PAGE : W .EVENT_PAGE) (wEVENT_SEQ : W .EVENT_SEQ)
    (wEXCLUDED_MAP : W .EXCLUDED_MAP) (wFAST_DUTY : W .FAST_DUTY) (wFAULT_LATER_COUNT : W .FAULT_LATER_COUNT)
    (wFIELD_VNEED : W .FIELD_VNEED) (wFIELD_VOLT : W .FIELD_VOLT) (wFIELD_VOLT_AT_CEIL : W .FIELD_VOLT_AT_CEIL)
    (wFLOOR_RATE : W .FLOOR_RATE) (wFLOOR_STATE : W .FLOOR_STATE) (wGROUP_CHG_ABORTS : W .GROUP_CHG_ABORTS)
    (wGROUP_CHG_RESULT : W .GROUP_CHG_RESULT) (wGROUP_CHG_STATE : W .GROUP_CHG_STATE) (wINJ_ARM : W .INJ_ARM)
    (wINJ_COUNT : W .INJ_COUNT) (wINJ_RESULT : W .INJ_RESULT) (wJOB_RESETS : W .JOB_RESETS) (wLOCK : W .LOCK)
    (wMB_COUNT : W .MB_COUNT) (wOSC_CODE : W .OSC_CODE) (wOSC_STATUS : W .OSC_STATUS)
    (wOSC_TARGET_N : W .OSC_TARGET_N) (wPR_CUR_TAG : W .PR_CUR_TAG) (wPR_DISCARDED : W .PR_DISCARDED)
    (wPR_NEXT_TAG : W .PR_NEXT_TAG) (wRAIL_RETRIES : W .RAIL_RETRIES) (wRAIL_STATUS : W .RAIL_STATUS)
    (wREGION_COUNT : W .REGION_COUNT) (wREGION_EXCLUDE_CAUSE : W .REGION_EXCLUDE_CAUSE)
    (wREGION_STOP_ABORTS : W .REGION_STOP_ABORTS) (wREGION_STOP_RESULT : W .REGION_STOP_RESULT)
    (wREGION_STOP_STATE : W .REGION_STOP_STATE) (wREGION_TIME : W .REGION_TIME) (wRUN_STATUS : W .RUN_STATUS)
    (wSLIP : W .SLIP) (wSTART_STATE : W .START_STATE) (wSTRETCH_E_FLOOR : W .STRETCH_E_FLOOR)
    (wSTRETCH_HOLDS : W .STRETCH_HOLDS) (wSY_QUIESCES : W .SY_QUIESCES) (wTETHER_STATUS : W .TETHER_STATUS)
    (wTRIM_MODE : W .TRIM_MODE) (wUNIT_READY : W .UNIT_READY) (wXING_DISCARD : W .XING_DISCARD)
    (wXING_RESYNCS : W .XING_RESYNCS) (qsu : Q .su) (qflt : Q .flt) (qinj : Q .inj) (qrgn : Q .rgn) (qest : Q .est)
    (qcell : Q .cell) (qfld : Q .fld) (qgrp : Q .grp) (qlink : Q .link) (qrail : Q .rail) (qstop : Q .stop)
    (qcaps : Q .caps) (qdict : Q .dict) (qbox : Q .box) (qports : Q .ports) (h : Fr W Q z s) :
    Fr W Q z (State.jobHalt s) := by
  unfold State.jobHalt
  repeat' first
    | with_reducible assumption | with_reducible apply State.haltAll_frame | with_reducible apply State.inc_frame
    | with_reducible apply State.jobResetMail_frame | with_reducible apply State.setStart_frame | split | dsimp only
    | intro _ | with_reducible apply Fr.lit | with_reducible exact Or.inl (by assumption)
    | with_reducible exact Or.inr rfl

theorem State.enterReady_frame {s : State} (wALERT_STATUS : W .ALERT_STATUS) (wARM_SEQ : W .ARM_SEQ)
    (wCAP_STATUS : W .CAP_STATUS) (wDOMAIN_STATE : W .DOMAIN_STATE) (wDS_STATUS : W .DS_STATUS)
    (wEPISODE : W .EPISODE) (wEPISODE_NEXT : W .EPISODE_NEXT) (wEPISODE_OPEN_REASON : W .EPISODE_OPEN_REASON)
    (wEPISODE_OVERWRITTEN : W .EPISODE_OVERWRITTEN) (wEPISODE_SEQ : W .EPISODE_SEQ)
    (wEPISODE_SHORT : W .EPISODE_SHORT) (wEVENT_NEXT : W .EVENT_NEXT) (wEVENT_OVERWRITTEN : W .EVENT_OVERWRITTEN)
    (wEVENT_PAGE : W .EVENT_PAGE) (wEVENT_SEQ : W .EVENT_SEQ) (wEXCLUDED_MAP : W .EXCLUDED_MAP)
    (wFAST_DUTY : W .FAST_DUTY) (wFAULT_DIGEST : W .FAULT_DIGEST) (wFAULT_HISTORY : W .FAULT_HISTORY)
    (wFAULT_LATER_COUNT : W .FAULT_LATER_COUNT) (wFAULT_TIME : W .FAULT_TIME) (wFIELD_VNEED : W .FIELD_VNEED)
    (wFIELD_VOLT : W .FIELD_VOLT) (wFIELD_VOLT_AT_CEIL : W .FIELD_VOLT_AT_CEIL) (wFLOOR_RATE : W .FLOOR_RATE)
    (wFLOOR_STATE : W .FLOOR_STATE) (wGROUP_CHG_ABORTS : W .GROUP_CHG_ABORTS)
    (wGROUP_CHG_RESULT : W .GROUP_CHG_RESULT) (wGROUP_CHG_STATE : W .GROUP_CHG_STATE) (wINJ_ARM : W .INJ_ARM)
    (wINJ_COUNT : W .INJ_COUNT) (wINJ_JOB_FAULTS : W .INJ_JOB_FAULTS) (wINJ_RESULT : W .INJ_RESULT)
    (wJOB_FAULTS : W .JOB_FAULTS) (wJOB_RESETS : W .JOB_RESETS) (wLAST_ARM_TIME : W .LAST_ARM_TIME)
    (wLOCK : W .LOCK) (wMB_COUNT : W .MB_COUNT) (wMB_DISCARDS : W .MB_DISCARDS) (wOSC_CODE : W .OSC_CODE)
    (wOSC_STATUS : W .OSC_STATUS) (wOSC_TARGET_N : W .OSC_TARGET_N) (wPR_CUR_TAG : W .PR_CUR_TAG)
    (wPR_DISCARDED : W .PR_DISCARDED) (wPR_NEXT_TAG : W .PR_NEXT_TAG) (wRAIL_RETRIES : W .RAIL_RETRIES)
    (wRAIL_STATUS : W .RAIL_STATUS) (wREADY_TIME : W .READY_TIME) (wREGION_COUNT : W .REGION_COUNT)
    (wREGION_EXCLUDE_CAUSE : W .REGION_EXCLUDE_CAUSE) (wREGION_STOP_ABORTS : W .REGION_STOP_ABORTS)
    (wREGION_STOP_RESULT : W .REGION_STOP_RESULT) (wREGION_STOP_STATE : W .REGION_STOP_STATE)
    (wREGION_TIME : W .REGION_TIME) (wRUN_STATUS : W .RUN_STATUS) (wSLIP : W .SLIP) (wSTART_STATE : W .START_STATE)
    (wSTRETCH_E_FLOOR : W .STRETCH_E_FLOOR) (wSTRETCH_HOLDS : W .STRETCH_HOLDS)
    (wSY_POST_OVERFLOW : W .SY_POST_OVERFLOW) (wSY_QUIESCES : W .SY_QUIESCES) (wTETHER_STATUS : W .TETHER_STATUS)
    (wTRIM_MODE : W .TRIM_MODE) (wUNIT_READY : W .UNIT_READY) (wXING_DISCARD : W .XING_DISCARD)
    (wXING_RESYNCS : W .XING_RESYNCS) (qsu : Q .su) (qflt : Q .flt) (qinj : Q .inj) (qrgn : Q .rgn) (qest : Q .est)
    (qcell : Q .cell) (qfld : Q .fld) (qgrp : Q .grp) (qdom : Q .dom) (qpdWakes : Q .pdWakes) (qpdCmds : Q .pdCmds)
    (qlink : Q .link) (qrail : Q .rail) (qstop : Q .stop) (qcaps : Q .caps) (qdict : Q .dict) (qbox : Q .box)
    (qports : Q .ports) (h : Fr W Q z s) :
    Fr W Q z (State.enterReady s) := by
  unfold State.enterReady
  repeat' first
    | with_reducible assumption | with_reducible refine State.when_kept ?_ ?_
    | with_reducible apply State.becomeReady_frame | with_reducible apply State.jobHalt_frame | split | dsimp only
    | intro _

theorem execBlockReady_frame {s : State} (wALERT_STATUS : W .ALERT_STATUS) (wARM_SEQ : W .ARM_SEQ)
    (wCAP_STATUS : W .CAP_STATUS) (wDOMAIN_STATE : W .DOMAIN_STATE) (wDS_STATUS : W .DS_STATUS)
    (wEPISODE : W .EPISODE) (wEPISODE_NEXT : W .EPISODE_NEXT) (wEPISODE_OPEN_REASON : W .EPISODE_OPEN_REASON)
    (wEPISODE_OVERWRITTEN : W .EPISODE_OVERWRITTEN) (wEPISODE_SEQ : W .EPISODE_SEQ)
    (wEPISODE_SHORT : W .EPISODE_SHORT) (wEVENT_NEXT : W .EVENT_NEXT) (wEVENT_OVERWRITTEN : W .EVENT_OVERWRITTEN)
    (wEVENT_PAGE : W .EVENT_PAGE) (wEVENT_SEQ : W .EVENT_SEQ) (wEXCLUDED_MAP : W .EXCLUDED_MAP)
    (wFAST_DUTY : W .FAST_DUTY) (wFAULT_DIGEST : W .FAULT_DIGEST) (wFAULT_HISTORY : W .FAULT_HISTORY)
    (wFAULT_LATER_COUNT : W .FAULT_LATER_COUNT) (wFAULT_TIME : W .FAULT_TIME) (wFIELD_VNEED : W .FIELD_VNEED)
    (wFIELD_VOLT : W .FIELD_VOLT) (wFIELD_VOLT_AT_CEIL : W .FIELD_VOLT_AT_CEIL) (wFLOOR_RATE : W .FLOOR_RATE)
    (wFLOOR_STATE : W .FLOOR_STATE) (wGROUP_CHG_ABORTS : W .GROUP_CHG_ABORTS)
    (wGROUP_CHG_RESULT : W .GROUP_CHG_RESULT) (wGROUP_CHG_STATE : W .GROUP_CHG_STATE) (wINJ_ARM : W .INJ_ARM)
    (wINJ_COUNT : W .INJ_COUNT) (wINJ_JOB_FAULTS : W .INJ_JOB_FAULTS) (wINJ_RESULT : W .INJ_RESULT)
    (wJOB_FAULTS : W .JOB_FAULTS) (wJOB_RESETS : W .JOB_RESETS) (wLAST_ARM_TIME : W .LAST_ARM_TIME)
    (wLOCK : W .LOCK) (wMB_COUNT : W .MB_COUNT) (wMB_DISCARDS : W .MB_DISCARDS) (wOSC_CODE : W .OSC_CODE)
    (wOSC_STATUS : W .OSC_STATUS) (wOSC_TARGET_N : W .OSC_TARGET_N) (wPR_CUR_TAG : W .PR_CUR_TAG)
    (wPR_DISCARDED : W .PR_DISCARDED) (wPR_NEXT_TAG : W .PR_NEXT_TAG) (wRAIL_RETRIES : W .RAIL_RETRIES)
    (wRAIL_STATUS : W .RAIL_STATUS) (wREADY_TIME : W .READY_TIME) (wREGION_COUNT : W .REGION_COUNT)
    (wREGION_EXCLUDE_CAUSE : W .REGION_EXCLUDE_CAUSE) (wREGION_STOP_ABORTS : W .REGION_STOP_ABORTS)
    (wREGION_STOP_RESULT : W .REGION_STOP_RESULT) (wREGION_STOP_STATE : W .REGION_STOP_STATE)
    (wREGION_TIME : W .REGION_TIME) (wRUN_STATUS : W .RUN_STATUS) (wSLIP : W .SLIP) (wSTART_STATE : W .START_STATE)
    (wSTRETCH_E_FLOOR : W .STRETCH_E_FLOOR) (wSTRETCH_HOLDS : W .STRETCH_HOLDS)
    (wSY_POST_OVERFLOW : W .SY_POST_OVERFLOW) (wSY_QUIESCES : W .SY_QUIESCES) (wTETHER_STATUS : W .TETHER_STATUS)
    (wTRIM_MODE : W .TRIM_MODE) (wUNIT_READY : W .UNIT_READY) (wXING_DISCARD : W .XING_DISCARD)
    (wXING_RESYNCS : W .XING_RESYNCS) (qsu : Q .su) (qflt : Q .flt) (qinj : Q .inj) (qrgn : Q .rgn) (qest : Q .est)
    (qcell : Q .cell) (qfld : Q .fld) (qgrp : Q .grp) (qdom : Q .dom) (qpdWakes : Q .pdWakes) (qpdCmds : Q .pdCmds)
    (qlink : Q .link) (qrail : Q .rail) (qstop : Q .stop) (qcaps : Q .caps) (qdict : Q .dict) (qbox : Q .box)
    (qports : Q .ports) (h : Fr W Q z s) :
    ∀ t, execBlockReady s = .next t → Fr W Q z t := by
  unfold execBlockReady
  repeat' first
    | with_reducible refine next_kept ?_ | with_reducible assumption | with_reducible refine State.when_kept ?_ ?_
    | with_reducible apply State.enterReady_frame | split | dsimp only | intro _

theorem execStartupWatchdog_frame {s : State} (wALERT_STATUS : W .ALERT_STATUS) (wEVENT_NEXT : W .EVENT_NEXT)
    (wEVENT_OVERWRITTEN : W .EVENT_OVERWRITTEN) (wEVENT_PAGE : W .EVENT_PAGE) (wEVENT_SEQ : W .EVENT_SEQ)
    (wSTART_STATE : W .START_STATE) (wWATCHDOG_EXPIRIES : W .WATCHDOG_EXPIRIES) (qsu : Q .su) (qflt : Q .flt)
    (h : Fr W Q z s) :
    ∀ t, execStartupWatchdog s = .next t → Fr W Q z t := by
  unfold execStartupWatchdog
  repeat' first
    | with_reducible refine next_kept ?_ | with_reducible assumption | with_reducible refine State.when_kept ?_ ?_
    | with_reducible apply State.inc_frame | with_reducible apply State.startFailed_frame | split | dsimp only
    | intro _ | with_reducible apply Fr.lit | with_reducible exact Or.inl (by assumption)
    | with_reducible exact Or.inr rfl

theorem execJobResetHalt_frame {s : State} (wALERT_STATUS : W .ALERT_STATUS) (wCAP_STATUS : W .CAP_STATUS)
    (wDS_STATUS : W .DS_STATUS) (wEPISODE : W .EPISODE) (wEPISODE_NEXT : W .EPISODE_NEXT)
    (wEPISODE_OPEN_REASON : W .EPISODE_OPEN_REASON) (wEPISODE_OVERWRITTEN : W .EPISODE_OVERWRITTEN)
    (wEPISODE_SEQ : W .EPISODE_SEQ) (wEPISODE_SHORT : W .EPISODE_SHORT) (wEVENT_NEXT : W .EVENT_NEXT)
    (wEVENT_OVERWRITTEN : W .EVENT_OVERWRITTEN) (wEVENT_PAGE : W .EVENT_PAGE) (wEVENT_SEQ : W .EVENT_SEQ)
    (wEXCLUDED_MAP : W .EXCLUDED_MAP) (wFAST_DUTY : W .FAST_DUTY) (wFAULT_LATER_COUNT : W .FAULT_LATER_COUNT)
    (wFIELD_VNEED : W .FIELD_VNEED) (wFIELD_VOLT : W .FIELD_VOLT) (wFIELD_VOLT_AT_CEIL : W .FIELD_VOLT_AT_CEIL)
    (wFLOOR_RATE : W .FLOOR_RATE) (wFLOOR_STATE : W .FLOOR_STATE) (wGROUP_CHG_ABORTS : W .GROUP_CHG_ABORTS)
    (wGROUP_CHG_RESULT : W .GROUP_CHG_RESULT) (wGROUP_CHG_STATE : W .GROUP_CHG_STATE) (wINJ_ARM : W .INJ_ARM)
    (wINJ_COUNT : W .INJ_COUNT) (wINJ_RESULT : W .INJ_RESULT) (wJOB_RESETS : W .JOB_RESETS) (wLOCK : W .LOCK)
    (wMB_COUNT : W .MB_COUNT) (wOSC_CODE : W .OSC_CODE) (wOSC_STATUS : W .OSC_STATUS)
    (wOSC_TARGET_N : W .OSC_TARGET_N) (wPR_CUR_TAG : W .PR_CUR_TAG) (wPR_DISCARDED : W .PR_DISCARDED)
    (wPR_NEXT_TAG : W .PR_NEXT_TAG) (wRAIL_RETRIES : W .RAIL_RETRIES) (wRAIL_STATUS : W .RAIL_STATUS)
    (wREGION_COUNT : W .REGION_COUNT) (wREGION_EXCLUDE_CAUSE : W .REGION_EXCLUDE_CAUSE)
    (wREGION_STOP_ABORTS : W .REGION_STOP_ABORTS) (wREGION_STOP_RESULT : W .REGION_STOP_RESULT)
    (wREGION_STOP_STATE : W .REGION_STOP_STATE) (wREGION_TIME : W .REGION_TIME) (wRUN_STATUS : W .RUN_STATUS)
    (wSLIP : W .SLIP) (wSTART_STATE : W .START_STATE) (wSTRETCH_E_FLOOR : W .STRETCH_E_FLOOR)
    (wSTRETCH_HOLDS : W .STRETCH_HOLDS) (wSY_QUIESCES : W .SY_QUIESCES) (wTETHER_STATUS : W .TETHER_STATUS)
    (wTRIM_MODE : W .TRIM_MODE) (wUNIT_READY : W .UNIT_READY) (wXING_DISCARD : W .XING_DISCARD)
    (wXING_RESYNCS : W .XING_RESYNCS) (qsu : Q .su) (qflt : Q .flt) (qinj : Q .inj) (qrgn : Q .rgn) (qest : Q .est)
    (qcell : Q .cell) (qfld : Q .fld) (qgrp : Q .grp) (qlink : Q .link) (qrail : Q .rail) (qstop : Q .stop)
    (qcaps : Q .caps) (qdict : Q .dict) (qbox : Q .box) (qports : Q .ports) (h : Fr W Q z s) :
    ∀ t, execJobResetHalt s = .next t → Fr W Q z t := by
  unfold execJobResetHalt
  repeat' first
    | with_reducible refine next_kept ?_ | with_reducible assumption | with_reducible refine State.when_kept ?_ ?_
    | with_reducible apply State.jobHalt_frame | split | dsimp only | intro _ | with_reducible apply Fr.lit
    | with_reducible exact Or.inl (by assumption) | with_reducible exact Or.inr rfl

theorem State.rearmStep_frame {s : State} (wALERT_STATUS : W .ALERT_STATUS)
    (wARM_NEW_EXCLUDED : W .ARM_NEW_EXCLUDED) (wARM_SEQ : W .ARM_SEQ) (wCAP_STATUS : W .CAP_STATUS)
    (wDOMAIN_STATE : W .DOMAIN_STATE) (wDS_QUARANTINE : W .DS_QUARANTINE) (wDS_STATUS : W .DS_STATUS)
    (wEPISODE : W .EPISODE) (wEPISODE_NEXT : W .EPISODE_NEXT) (wEPISODE_OPEN_REASON : W .EPISODE_OPEN_REASON)
    (wEPISODE_OVERWRITTEN : W .EPISODE_OVERWRITTEN) (wEPISODE_SEQ : W .EPISODE_SEQ)
    (wEPISODE_SHORT : W .EPISODE_SHORT) (wEST_STATUS : W .EST_STATUS) (wEVENT_NEXT : W .EVENT_NEXT)
    (wEVENT_OVERWRITTEN : W .EVENT_OVERWRITTEN) (wEVENT_PAGE : W .EVENT_PAGE) (wEVENT_SEQ : W .EVENT_SEQ)
    (wEXCLUDED_MAP : W .EXCLUDED_MAP) (wFAST_DUTY : W .FAST_DUTY) (wFAULT_DIGEST : W .FAULT_DIGEST)
    (wFAULT_HISTORY : W .FAULT_HISTORY) (wFAULT_LATER_COUNT : W .FAULT_LATER_COUNT) (wFAULT_TIME : W .FAULT_TIME)
    (wFIELD_VNEED : W .FIELD_VNEED) (wFIELD_VOLT : W .FIELD_VOLT) (wFIELD_VOLT_AT_CEIL : W .FIELD_VOLT_AT_CEIL)
    (wFLOOR_RATE : W .FLOOR_RATE) (wFLOOR_STATE : W .FLOOR_STATE) (wGROUP_ANCHOR : W .GROUP_ANCHOR)
    (wGROUP_CEIL_REASON : W .GROUP_CEIL_REASON) (wGROUP_CHG_ABORTS : W .GROUP_CHG_ABORTS)
    (wGROUP_CHG_RESULT : W .GROUP_CHG_RESULT) (wGROUP_CHG_STATE : W .GROUP_CHG_STATE)
    (wGROUP_DIAMETER : W .GROUP_DIAMETER) (wGROUP_N : W .GROUP_N) (wGROUP_TARGET_N : W .GROUP_TARGET_N)
    (wINJ_ARM : W .INJ_ARM) (wINJ_COUNT : W .INJ_COUNT) (wINJ_JOB_FAULTS : W .INJ_JOB_FAULTS)
    (wINJ_RESULT : W .INJ_RESULT) (wJOB_FAULTS : W .JOB_FAULTS) (wJOB_RESETS : W .JOB_RESETS)
    (wLAST_ARM_TIME : W .LAST_ARM_TIME) (wLOCK : W .LOCK) (wMB_COUNT : W .MB_COUNT) (wMB_DISCARDS : W .MB_DISCARDS)
    (wOP_CEIL_ENTRY : W .OP_CEIL_ENTRY) (wOP_POWER_ENTRY : W .OP_POWER_ENTRY) (wOSC_CODE : W .OSC_CODE)
    (wOSC_PERMIT_MAX : W .OSC_PERMIT_MAX) (wOSC_STATUS : W .OSC_STATUS) (wOSC_TARGET_N : W .OSC_TARGET_N)
    (wPR_CUR_TAG : W .PR_CUR_TAG) (wPR_DISCARDED : W .PR_DISCARDED) (wPR_GROUP_TABLE : W .PR_GROUP_TABLE)
    (wPR_LFSR : W .PR_LFSR) (wPR_NEXT_TAG : W .PR_NEXT_TAG) (wRAIL_RETRIES : W .RAIL_RETRIES)
    (wRAIL_STATUS : W .RAIL_STATUS) (wREADY_TIME : W .READY_TIME) (wREGION_COUNT : W .REGION_COUNT)
    (wREGION_DETACHED : W .REGION_DETACHED) (wREGION_EXCLUDED_ACTIVE : W .REGION_EXCLUDED_ACTIVE)
    (wREGION_EXCLUDE_CAUSE : W .REGION_EXCLUDE_CAUSE) (wREGION_STOP_ABORTS : W .REGION_STOP_ABORTS)
    (wREGION_STOP_RESULT : W .REGION_STOP_RESULT) (wREGION_STOP_STATE : W .REGION_STOP_STATE)
    (wREGION_TIME : W .REGION_TIME) (wRUN_STATUS : W .RUN_STATUS) (wSLIP : W .SLIP) (wSTART_STATE : W .START_STATE)
    (wSTRETCH_E_FLOOR : W .STRETCH_E_FLOOR) (wSTRETCH_HOLDS : W .STRETCH_HOLDS)
    (wSY_POST_OVERFLOW : W .SY_POST_OVERFLOW) (wSY_QUIESCES : W .SY_QUIESCES)
    (wTETHER_GROUP_ACTIVE : W .TETHER_GROUP_ACTIVE) (wTETHER_STATUS : W .TETHER_STATUS) (wTRIM_MODE : W .TRIM_MODE)
    (wUNIT_READY : W .UNIT_READY) (wXING_DISCARD : W .XING_DISCARD) (wXING_FENCE : W .XING_FENCE)
    (wXING_RESYNCS : W .XING_RESYNCS) (qsu : Q .su) (qflt : Q .flt) (qinj : Q .inj) (qrgn : Q .rgn) (qest : Q .est)
    (qlane : Q .lane) (qcell : Q .cell) (qfld : Q .fld) (qgrp : Q .grp) (qdom : Q .dom) (qpdWakes : Q .pdWakes)
    (qpdCmds : Q .pdCmds) (qlink : Q .link) (qrail : Q .rail) (qstop : Q .stop) (qcaps : Q .caps) (qdict : Q .dict)
    (qfreeN : Q .freeN) (qbox : Q .box) (qports : Q .ports) (h : Fr W Q z s) :
    Fr W Q z (State.rearmStep s) := by
  unfold State.rearmStep
  repeat' first
    | with_reducible assumption | with_reducible refine State.when_kept ?_ ?_
    | with_reducible apply State.firstArm_frame | with_reducible apply State.beginArm_frame
    | with_reducible apply State.enterReady_frame | with_reducible apply State.setReady_frame
    | with_reducible apply State.startRamp_frame | split | dsimp only | intro _

theorem execWarmRearm_frame {s : State} (wALERT_STATUS : W .ALERT_STATUS)
    (wARM_NEW_EXCLUDED : W .ARM_NEW_EXCLUDED) (wARM_SEQ : W .ARM_SEQ) (wCAP_STATUS : W .CAP_STATUS)
    (wDOMAIN_STATE : W .DOMAIN_STATE) (wDS_QUARANTINE : W .DS_QUARANTINE) (wDS_STATUS : W .DS_STATUS)
    (wEPISODE : W .EPISODE) (wEPISODE_NEXT : W .EPISODE_NEXT) (wEPISODE_OPEN_REASON : W .EPISODE_OPEN_REASON)
    (wEPISODE_OVERWRITTEN : W .EPISODE_OVERWRITTEN) (wEPISODE_SEQ : W .EPISODE_SEQ)
    (wEPISODE_SHORT : W .EPISODE_SHORT) (wEST_STATUS : W .EST_STATUS) (wEVENT_NEXT : W .EVENT_NEXT)
    (wEVENT_OVERWRITTEN : W .EVENT_OVERWRITTEN) (wEVENT_PAGE : W .EVENT_PAGE) (wEVENT_SEQ : W .EVENT_SEQ)
    (wEXCLUDED_MAP : W .EXCLUDED_MAP) (wFAST_DUTY : W .FAST_DUTY) (wFAULT_DIGEST : W .FAULT_DIGEST)
    (wFAULT_HISTORY : W .FAULT_HISTORY) (wFAULT_LATER_COUNT : W .FAULT_LATER_COUNT) (wFAULT_TIME : W .FAULT_TIME)
    (wFIELD_VNEED : W .FIELD_VNEED) (wFIELD_VOLT : W .FIELD_VOLT) (wFIELD_VOLT_AT_CEIL : W .FIELD_VOLT_AT_CEIL)
    (wFLOOR_RATE : W .FLOOR_RATE) (wFLOOR_STATE : W .FLOOR_STATE) (wGROUP_ANCHOR : W .GROUP_ANCHOR)
    (wGROUP_CEIL_REASON : W .GROUP_CEIL_REASON) (wGROUP_CHG_ABORTS : W .GROUP_CHG_ABORTS)
    (wGROUP_CHG_RESULT : W .GROUP_CHG_RESULT) (wGROUP_CHG_STATE : W .GROUP_CHG_STATE)
    (wGROUP_DIAMETER : W .GROUP_DIAMETER) (wGROUP_N : W .GROUP_N) (wGROUP_TARGET_N : W .GROUP_TARGET_N)
    (wINJ_ARM : W .INJ_ARM) (wINJ_COUNT : W .INJ_COUNT) (wINJ_JOB_FAULTS : W .INJ_JOB_FAULTS)
    (wINJ_RESULT : W .INJ_RESULT) (wJOB_FAULTS : W .JOB_FAULTS) (wJOB_RESETS : W .JOB_RESETS)
    (wLAST_ARM_TIME : W .LAST_ARM_TIME) (wLOCK : W .LOCK) (wMB_COUNT : W .MB_COUNT) (wMB_DISCARDS : W .MB_DISCARDS)
    (wOP_CEIL_ENTRY : W .OP_CEIL_ENTRY) (wOP_POWER_ENTRY : W .OP_POWER_ENTRY) (wOSC_CODE : W .OSC_CODE)
    (wOSC_PERMIT_MAX : W .OSC_PERMIT_MAX) (wOSC_STATUS : W .OSC_STATUS) (wOSC_TARGET_N : W .OSC_TARGET_N)
    (wPR_CUR_TAG : W .PR_CUR_TAG) (wPR_DISCARDED : W .PR_DISCARDED) (wPR_GROUP_TABLE : W .PR_GROUP_TABLE)
    (wPR_LFSR : W .PR_LFSR) (wPR_NEXT_TAG : W .PR_NEXT_TAG) (wRAIL_RETRIES : W .RAIL_RETRIES)
    (wRAIL_STATUS : W .RAIL_STATUS) (wREADY_TIME : W .READY_TIME) (wREGION_COUNT : W .REGION_COUNT)
    (wREGION_DETACHED : W .REGION_DETACHED) (wREGION_EXCLUDED_ACTIVE : W .REGION_EXCLUDED_ACTIVE)
    (wREGION_EXCLUDE_CAUSE : W .REGION_EXCLUDE_CAUSE) (wREGION_STOP_ABORTS : W .REGION_STOP_ABORTS)
    (wREGION_STOP_RESULT : W .REGION_STOP_RESULT) (wREGION_STOP_STATE : W .REGION_STOP_STATE)
    (wREGION_TIME : W .REGION_TIME) (wRUN_STATUS : W .RUN_STATUS) (wSLIP : W .SLIP) (wSTART_STATE : W .START_STATE)
    (wSTRETCH_E_FLOOR : W .STRETCH_E_FLOOR) (wSTRETCH_HOLDS : W .STRETCH_HOLDS)
    (wSY_POST_OVERFLOW : W .SY_POST_OVERFLOW) (wSY_QUIESCES : W .SY_QUIESCES)
    (wTETHER_GROUP_ACTIVE : W .TETHER_GROUP_ACTIVE) (wTETHER_STATUS : W .TETHER_STATUS) (wTRIM_MODE : W .TRIM_MODE)
    (wUNIT_READY : W .UNIT_READY) (wXING_DISCARD : W .XING_DISCARD) (wXING_FENCE : W .XING_FENCE)
    (wXING_RESYNCS : W .XING_RESYNCS) (qsu : Q .su) (qflt : Q .flt) (qinj : Q .inj) (qrgn : Q .rgn) (qest : Q .est)
    (qlane : Q .lane) (qcell : Q .cell) (qfld : Q .fld) (qgrp : Q .grp) (qdom : Q .dom) (qpdWakes : Q .pdWakes)
    (qpdCmds : Q .pdCmds) (qlink : Q .link) (qrail : Q .rail) (qstop : Q .stop) (qcaps : Q .caps) (qdict : Q .dict)
    (qfreeN : Q .freeN) (qbox : Q .box) (qports : Q .ports) (h : Fr W Q z s) :
    ∀ t, execWarmRearm s = .next t → Fr W Q z t := by
  unfold execWarmRearm
  repeat' first
    | with_reducible refine next_kept ?_ | with_reducible assumption | with_reducible apply State.rearmStep_frame
    | split | dsimp only | intro _ | with_reducible apply Fr.lit | with_reducible exact Or.inl (by assumption)
    | with_reducible exact Or.inr rfl

end Sys2Proof.Machine
end

