-- ==== Sys2Proof/Laws/FrameOwn.lean ====
section
/-! SUPPORT. The rows that write one object and the requests of the host: the objects and parts each may change. -/

set_option Elab.async false

namespace Sys2Proof.Machine
open Sys2Proof

variable {W : Obj → Prop} {Q : Part → Prop} {z : State}

/-- A request of the host: what reading its queue word changes, and what serving it or losing it changes. -/
theorem State.hostIn_frame_of {s : State} {r : HeldReq} (hs : ∀ t, Fr W Q z t → Fr W Q z (t.hostServe r))
    (hl : ∀ t, Fr W Q z t → Fr W Q z (t.hostLost r)) (wALERT_STATUS : W .ALERT_STATUS) (wEVENT_NEXT : W .EVENT_NEXT) (wEVENT_OVERWRITTEN : W .EVENT_OVERWRITTEN)
    (wEVENT_PAGE : W .EVENT_PAGE) (wEVENT_SEQ : W .EVENT_SEQ) (wINJ_ARM : W .INJ_ARM) (wINJ_COUNT : W .INJ_COUNT)
    (wINJ_RESULT : W .INJ_RESULT) (wSRAM_CE : W .SRAM_CE) (wSRAM_UE : W .SRAM_UE) (qflt : Q .flt) (qinj : Q .inj) (wHP_REQUESTS : W .HP_REQUESTS) (qports : Q .ports) (h : Fr W Q z s) :
    Fr W Q z (s.hostIn r) := by
  unfold State.hostIn State.hostTake State.hostHold
  have hc : Fr W Q z (s.inc .HP_REQUESTS) := State.inc_frame wHP_REQUESTS h
  split
  · exact h
  · split
    · apply Fr.lit hc <;> first | exact Or.inr rfl | exact Or.inl qports
    · split
      · exact hl _ (by apply State.queueRead_frame <;> assumption)
      · exact hs _ (by apply State.queueRead_frame <;> assumption)

/-- The words of OP_TABLE read: a lost one raises a fault (R41). -/
theorem touch_opTable_frame {t : State} {e j : Nat} (h : Fr W Q z t) (wALERT_STATUS : W .ALERT_STATUS) (wEVENT_NEXT : W .EVENT_NEXT) (wEVENT_OVERWRITTEN : W .EVENT_OVERWRITTEN)
    (wEVENT_PAGE : W .EVENT_PAGE) (wEVENT_SEQ : W .EVENT_SEQ) (wINJ_ARM : W .INJ_ARM) (wINJ_COUNT : W .INJ_COUNT)
    (wINJ_RESULT : W .INJ_RESULT) (wSRAM_CE : W .SRAM_CE) (wSRAM_UE : W .SRAM_UE) (qflt : Q .flt) (qinj : Q .inj) :
    Fr W Q z (t.touch .OP_TABLE e j).2 := by
  unfold State.touch State.readFlips
  dsimp only [objWords]
  refine State.each_mem_kept h fun u x hx hu => ?_
  have hc : Sram.ofCode x.code = .opTables := by
    have hx2 := (List.mem_filter.1 hx).2
    simp only [Flip.isIn, Bool.and_eq_true, beq_iff_eq] at hx2
    rw [hx2.1.1]
    rfl
  refine State.when_kept (by apply State.sramRead_frame <;> assumption) fun v hv => ?_
  unfold State.wordLost
  rw [hc]
  dsimp only
  apply State.sramLost_frame <;> assumption

/-- A write of an object's own row: what its checks, its audit and its answer change, what reading its words changes, and
what the object's effect changes. -/
theorem State.ownWrite_frame {s : State} {a : Access} {o : Obj} {i : Nat} (ho : a.obj = some (o, i)) (hv : a.via = .direct)
    (hw : a.write = true) (hm : (∀ (t : State) (v : Nat), t.missing o v = false) ∨ W .LC_STATUS)
    (hn : (recType o == 2 || recType o == 3) = false ∨ Q .fon)
    (hT : ∀ t e j, Fr W Q z t → Fr W Q z (t.touch o e j).2)
    (hE : ∀ t e j v, Fr W Q z t → Fr W Q z (t.effect o e j v)) (wAUDIT_MERGED : W .AUDIT_MERGED)
    (wAUDIT_NEXT : W .AUDIT_NEXT) (wAUDIT_OK : W .AUDIT_OK) (wAUDIT_OVERWRITTEN : W .AUDIT_OVERWRITTEN)
    (wAUDIT_REFUSED : W .AUDIT_REFUSED) (wAUDIT_SEQ : W .AUDIT_SEQ) (wHP_DENIED : W .HP_DENIED) (wHP_ERRORS : W .HP_ERRORS)
    (wHP_LAST_STATUS : W .HP_LAST_STATUS) (wHP_NOTREADY : W .HP_NOTREADY) (wHP_REQUESTS : W .HP_REQUESTS) (qdict : Q .dict)
    (qports : Q .ports) (h : Fr W Q z s) :
    (∀ c, Fr W Q z (s.refuse a c none)) ∧ (∀ c, Fr W Q z (s.refuse a c (some (o, i))))
      ∧ (∀ c, Fr W Q z ((s.when a.write fun t => t.auditLost a.src).reply a c none)) ∧ Fr W Q z (s.decideWrite a) := by
  have hr : ∀ (t : State) (c : Code) (k : Option (Obj × Nat)), Fr W Q z t → Fr W Q z (t.reply a c k) := by
    intro t c k ht
    unfold State.reply State.replyVal
    rw [hv]
    dsimp only
    repeat' first
      | with_reducible assumption | with_reducible apply State.hostAnswer_frame | split | with_reducible apply Fr.lit
      | with_reducible exact Or.inl (by assumption) | with_reducible exact Or.inr rfl
  have hf : ∀ (c : Code) (k : Option (Obj × Nat)), (k = some (o, i) ∨ k = none) → Fr W Q z (s.refuse a c k) := by
    intro c k hk
    unfold State.refuse
    dsimp only
    refine hr _ _ _ ?_
    have h1 : Fr W Q z (if c = .busy ∨ c = .malformed then s.auditRefuse (s.classOf a.src) c
        else s.auditWrite (s.attempt a k) c false) := by
      repeat' first
        | with_reducible assumption | with_reducible apply State.auditRefuse_frame
        | with_reducible apply State.auditWrite_frame | split
    rcases hk with rfl | rfl
    · rcases hm with hm | hm
      · simp only [hm, Bool.false_and]
        exact h1
      · exact State.when_kept h1 fun t ht => State.setFlag_frame hm ht
    · exact h1
  refine ⟨fun c => hf c _ (.inr rfl), fun c => hf c _ (.inl rfl), fun c => hr _ c none (State.when_kept h fun t ht => by apply State.auditLost_frame <;> assumption), ?_⟩
  unfold State.decideWrite
  rw [ho]
  dsimp only
  split
  · apply State.queueRemote_frame <;> assumption
  unfold State.settleWrite
  dsimp only
  split
  · exact hf _ _ (by split <;> simp)
  · split
    · exact hf _ _ (by split <;> simp)
    · split
      · unfold State.sendRemote
        rw [hw]
        apply Fr.lit h <;> first | exact Or.inl (by assumption) | exact Or.inr rfl
      · unfold State.carryOut State.finishWrite
        dsimp only
        refine hr _ _ _ ?_
        have h2 : Fr W Q z (((s.touch o a.el i).2.effect o a.el i (a.val % 2 ^ objBits o)).noteWritten o a.el i) := by
          unfold State.noteWritten
          have hE2 := hE _ a.el i (a.val % 2 ^ objBits o) (hT s a.el i h)
          rcases hn with hn | hn
          · rw [hn]
            exact hE2
          · refine State.when_kept hE2 ?_
            repeat' first
              | with_reducible assumption | split | intro _ | with_reducible apply Fr.lit
              | with_reducible exact Or.inl (by assumption) | with_reducible exact Or.inr rfl
        apply State.auditWrite_frame <;> try assumption
        refine State.when_kept h2 fun t ht => ?_
        apply State.dirty_frame <;> assumption

/-- The same write asked for by any source: one of the host passes the host port. -/
theorem State.ownSubmit_frame {s : State} {a : Access} {o : Obj} {i : Nat} (ho : a.obj = some (o, i)) (hv : a.via = .direct)
    (hw : a.write = true) (hm : (∀ (t : State) (v : Nat), t.missing o v = false) ∨ W .LC_STATUS)
    (hn : (recType o == 2 || recType o == 3) = false ∨ Q .fon)
    (hT : ∀ t e j, Fr W Q z t → Fr W Q z (t.touch o e j).2)
    (hE : ∀ t e j v, Fr W Q z t → Fr W Q z (t.effect o e j v)) (wAUDIT_MERGED : W .AUDIT_MERGED)
    (wAUDIT_NEXT : W .AUDIT_NEXT) (wAUDIT_OK : W .AUDIT_OK) (wAUDIT_OVERWRITTEN : W .AUDIT_OVERWRITTEN)
    (wAUDIT_REFUSED : W .AUDIT_REFUSED) (wAUDIT_SEQ : W .AUDIT_SEQ) (wHP_DENIED : W .HP_DENIED) (wHP_ERRORS : W .HP_ERRORS)
    (wHP_LAST_STATUS : W .HP_LAST_STATUS) (wHP_NOTREADY : W .HP_NOTREADY) (wHP_REQUESTS : W .HP_REQUESTS) (wALERT_STATUS : W .ALERT_STATUS) (wEVENT_NEXT : W .EVENT_NEXT) (wEVENT_OVERWRITTEN : W .EVENT_OVERWRITTEN)
    (wEVENT_PAGE : W .EVENT_PAGE) (wEVENT_SEQ : W .EVENT_SEQ) (wINJ_ARM : W .INJ_ARM) (wINJ_COUNT : W .INJ_COUNT)
    (wINJ_RESULT : W .INJ_RESULT) (wSRAM_CE : W .SRAM_CE) (wSRAM_UE : W .SRAM_UE) (qflt : Q .flt) (qinj : Q .inj) (qdict : Q .dict) (qports : Q .ports)
    (h : Fr W Q z s) :
    Fr W Q z (s.submitWrite a) := by
  have hO := fun (t : State) (ht : Fr W Q z t) => State.ownWrite_frame ho hv hw hm hn hT hE wAUDIT_MERGED wAUDIT_NEXT wAUDIT_OK
    wAUDIT_OVERWRITTEN wAUDIT_REFUSED wAUDIT_SEQ wHP_DENIED wHP_ERRORS wHP_LAST_STATUS wHP_NOTREADY wHP_REQUESTS qdict qports ht
  unfold State.submitWrite
  split
  · apply State.hostIn_frame_of <;> try assumption
    · intro t ht
      unfold State.hostServe State.hostAccess State.decideAcc
      dsimp only
      rw [hw, ho]
      split
      · exact (hO t ht).2.2.2
      · rw [if_pos rfl]
        by_cases he : t.elemExists o a.el = true
        · simpa [Option.filter, he] using (hO t ht).2.1 .notReady
        · simpa [Option.filter, he] using (hO t ht).1 .notReady
    · exact fun t ht => (hO t ht).2.2.1 _
  · exact (hO s h).2.2.2

theorem own_AGE_SAMPLE_REQ_frame {s : State} {w : Wr} (wAGE_SAMPLE_REQ : W .AGE_SAMPLE_REQ)
    (wALERT_STATUS : W .ALERT_STATUS) (wAUDIT_MERGED : W .AUDIT_MERGED) (wAUDIT_NEXT : W .AUDIT_NEXT)
    (wAUDIT_OK : W .AUDIT_OK) (wAUDIT_OVERWRITTEN : W .AUDIT_OVERWRITTEN) (wAUDIT_REFUSED : W .AUDIT_REFUSED)
    (wAUDIT_SEQ : W .AUDIT_SEQ) (wEVENT_NEXT : W .EVENT_NEXT) (wEVENT_OVERWRITTEN : W .EVENT_OVERWRITTEN)
    (wEVENT_PAGE : W .EVENT_PAGE) (wEVENT_SEQ : W .EVENT_SEQ) (wHP_DENIED : W .HP_DENIED)
    (wHP_ERRORS : W .HP_ERRORS) (wHP_LAST_STATUS : W .HP_LAST_STATUS) (wHP_NOTREADY : W .HP_NOTREADY)
    (wHP_REQUESTS : W .HP_REQUESTS) (wINJ_ARM : W .INJ_ARM) (wINJ_COUNT : W .INJ_COUNT)
    (wINJ_RESULT : W .INJ_RESULT) (wSRAM_CE : W .SRAM_CE) (wSRAM_UE : W .SRAM_UE) (qflt : Q .flt) (qinj : Q .inj)
    (qrgn : Q .rgn) (qdict : Q .dict) (qports : Q .ports) (h : Fr W Q z s) :
    Fr W Q z (s.submitWrite (writeOf .AGE_SAMPLE_REQ 0 w)) := by
  refine State.ownSubmit_frame (o := .AGE_SAMPLE_REQ) (i := 0) addr_AGE_SAMPLE_REQ rfl rfl (.inl fun _ _ => rfl) (.inl rfl) (fun _ _ _ ht => ht) ?_
    wAUDIT_MERGED wAUDIT_NEXT wAUDIT_OK wAUDIT_OVERWRITTEN wAUDIT_REFUSED wAUDIT_SEQ wHP_DENIED wHP_ERRORS
    wHP_LAST_STATUS wHP_NOTREADY wHP_REQUESTS wALERT_STATUS wEVENT_NEXT wEVENT_OVERWRITTEN wEVENT_PAGE wEVENT_SEQ
    wINJ_ARM wINJ_COUNT wINJ_RESULT wSRAM_CE wSRAM_UE qflt qinj qdict qports h
  intro t e j v ht
  rw [State.effect_command rfl rfl]
  unfold State.command
  dsimp only
  repeat' first
    | with_reducible assumption | with_reducible refine State.when_kept ?_ ?_ | with_reducible apply State.wr_frame
    | with_reducible apply State.wrInt_frame | with_reducible apply State.setFlag_frame
    | with_reducible apply State.modG_frame | with_reducible apply State.modE_frame
    | with_reducible apply State.inc_frame | with_reducible apply State.askAging_frame | split | dsimp only | intro _

theorem own_ALERT_ACK_frame {s : State} {w : Wr} (wALERT_STATUS : W .ALERT_STATUS)
    (wAUDIT_MERGED : W .AUDIT_MERGED) (wAUDIT_NEXT : W .AUDIT_NEXT) (wAUDIT_OK : W .AUDIT_OK)
    (wAUDIT_OVERWRITTEN : W .AUDIT_OVERWRITTEN) (wAUDIT_REFUSED : W .AUDIT_REFUSED) (wAUDIT_SEQ : W .AUDIT_SEQ)
    (wEVENT_NEXT : W .EVENT_NEXT) (wEVENT_OVERWRITTEN : W .EVENT_OVERWRITTEN) (wEVENT_PAGE : W .EVENT_PAGE)
    (wEVENT_SEQ : W .EVENT_SEQ) (wHP_DENIED : W .HP_DENIED) (wHP_ERRORS : W .HP_ERRORS)
    (wHP_LAST_STATUS : W .HP_LAST_STATUS) (wHP_NOTREADY : W .HP_NOTREADY) (wHP_REQUESTS : W .HP_REQUESTS)
    (wINJ_ARM : W .INJ_ARM) (wINJ_COUNT : W .INJ_COUNT) (wINJ_RESULT : W .INJ_RESULT) (wSRAM_CE : W .SRAM_CE)
    (wSRAM_UE : W .SRAM_UE) (qflt : Q .flt) (qinj : Q .inj) (qdict : Q .dict) (qports : Q .ports) (h : Fr W Q z s) :
    Fr W Q z (s.submitWrite (writeOf .ALERT_ACK 0 w)) := by
  refine State.ownSubmit_frame (o := .ALERT_ACK) (i := 0) addr_ALERT_ACK rfl rfl (.inl fun _ _ => rfl) (.inl rfl) (fun _ _ _ ht => ht) ?_
    wAUDIT_MERGED wAUDIT_NEXT wAUDIT_OK wAUDIT_OVERWRITTEN wAUDIT_REFUSED wAUDIT_SEQ wHP_DENIED wHP_ERRORS
    wHP_LAST_STATUS wHP_NOTREADY wHP_REQUESTS wALERT_STATUS wEVENT_NEXT wEVENT_OVERWRITTEN wEVENT_PAGE wEVENT_SEQ
    wINJ_ARM wINJ_COUNT wINJ_RESULT wSRAM_CE wSRAM_UE qflt qinj qdict qports h
  intro t e j v ht
  rw [State.effect_store rfl]
  unfold State.store
  try dsimp only
  repeat' first
    | with_reducible assumption | with_reducible apply State.wr_frame | with_reducible apply State.wrInt_frame
    | with_reducible apply State.setFlag_frame | with_reducible apply State.modG_frame
    | with_reducible apply State.modE_frame | with_reducible apply State.inc_frame
    | with_reducible apply State.ackAlerts_frame

theorem own_BX_EPOCH_LOAD_frame {s : State} {w : Wr} (wALERT_STATUS : W .ALERT_STATUS)
    (wAUDIT_MERGED : W .AUDIT_MERGED) (wAUDIT_NEXT : W .AUDIT_NEXT) (wAUDIT_OK : W .AUDIT_OK)
    (wAUDIT_OVERWRITTEN : W .AUDIT_OVERWRITTEN) (wAUDIT_REFUSED : W .AUDIT_REFUSED) (wAUDIT_SEQ : W .AUDIT_SEQ)
    (wBX_EPOCH_LOAD : W .BX_EPOCH_LOAD) (wEVENT_NEXT : W .EVENT_NEXT) (wEVENT_OVERWRITTEN : W .EVENT_OVERWRITTEN)
    (wEVENT_PAGE : W .EVENT_PAGE) (wEVENT_SEQ : W .EVENT_SEQ) (wHP_DENIED : W .HP_DENIED)
    (wHP_ERRORS : W .HP_ERRORS) (wHP_LAST_STATUS : W .HP_LAST_STATUS) (wHP_NOTREADY : W .HP_NOTREADY)
    (wHP_REQUESTS : W .HP_REQUESTS) (wINJ_ARM : W .INJ_ARM) (wINJ_COUNT : W .INJ_COUNT)
    (wINJ_RESULT : W .INJ_RESULT) (wSRAM_CE : W .SRAM_CE) (wSRAM_UE : W .SRAM_UE) (qflt : Q .flt) (qinj : Q .inj)
    (qdict : Q .dict) (qports : Q .ports) (qbudget : Q .budget) (h : Fr W Q z s) :
    Fr W Q z (s.submitWrite (writeOf .BX_EPOCH_LOAD 0 w)) := by
  refine State.ownSubmit_frame (o := .BX_EPOCH_LOAD) (i := 0) addr_BX_EPOCH_LOAD rfl rfl (.inl fun _ _ => rfl) (.inl rfl) (fun _ _ _ ht => ht) ?_
    wAUDIT_MERGED wAUDIT_NEXT wAUDIT_OK wAUDIT_OVERWRITTEN wAUDIT_REFUSED wAUDIT_SEQ wHP_DENIED wHP_ERRORS
    wHP_LAST_STATUS wHP_NOTREADY wHP_REQUESTS wALERT_STATUS wEVENT_NEXT wEVENT_OVERWRITTEN wEVENT_PAGE wEVENT_SEQ
    wINJ_ARM wINJ_COUNT wINJ_RESULT wSRAM_CE wSRAM_UE qflt qinj qdict qports h
  intro t e j v ht
  rw [State.effect_store rfl]
  unfold State.store
  try dsimp only
  repeat' first
    | with_reducible assumption | with_reducible apply State.wr_frame | with_reducible apply State.wrInt_frame
    | with_reducible apply State.setFlag_frame | with_reducible apply State.modG_frame
    | with_reducible apply State.modE_frame | with_reducible apply State.inc_frame
    | with_reducible apply State.stageLoad_frame

theorem own_CAL_RESET_REQ_frame {s : State} {w : Wr} (wALERT_STATUS : W .ALERT_STATUS)
    (wAUDIT_MERGED : W .AUDIT_MERGED) (wAUDIT_NEXT : W .AUDIT_NEXT) (wAUDIT_OK : W .AUDIT_OK)
    (wAUDIT_OVERWRITTEN : W .AUDIT_OVERWRITTEN) (wAUDIT_REFUSED : W .AUDIT_REFUSED) (wAUDIT_SEQ : W .AUDIT_SEQ)
    (wEST_WEIGHT : W .EST_WEIGHT) (wEVENT_NEXT : W .EVENT_NEXT) (wEVENT_OVERWRITTEN : W .EVENT_OVERWRITTEN)
    (wEVENT_PAGE : W .EVENT_PAGE) (wEVENT_SEQ : W .EVENT_SEQ) (wHP_DENIED : W .HP_DENIED)
    (wHP_ERRORS : W .HP_ERRORS) (wHP_LAST_STATUS : W .HP_LAST_STATUS) (wHP_NOTREADY : W .HP_NOTREADY)
    (wHP_REQUESTS : W .HP_REQUESTS) (wINJ_ARM : W .INJ_ARM) (wINJ_COUNT : W .INJ_COUNT)
    (wINJ_RESULT : W .INJ_RESULT) (wSRAM_CE : W .SRAM_CE) (wSRAM_UE : W .SRAM_UE) (qflt : Q .flt) (qinj : Q .inj)
    (qest : Q .est) (qlane : Q .lane) (qdict : Q .dict) (qports : Q .ports) (h : Fr W Q z s) :
    Fr W Q z (s.submitWrite (writeOf .CAL_RESET_REQ 0 w)) := by
  refine State.ownSubmit_frame (o := .CAL_RESET_REQ) (i := 0) addr_CAL_RESET_REQ rfl rfl (.inl fun _ _ => rfl) (.inl rfl) (fun _ _ _ ht => ht) ?_
    wAUDIT_MERGED wAUDIT_NEXT wAUDIT_OK wAUDIT_OVERWRITTEN wAUDIT_REFUSED wAUDIT_SEQ wHP_DENIED wHP_ERRORS
    wHP_LAST_STATUS wHP_NOTREADY wHP_REQUESTS wALERT_STATUS wEVENT_NEXT wEVENT_OVERWRITTEN wEVENT_PAGE wEVENT_SEQ
    wINJ_ARM wINJ_COUNT wINJ_RESULT wSRAM_CE wSRAM_UE qflt qinj qdict qports h
  intro t e j v ht
  rw [State.effect_command rfl rfl]
  unfold State.command
  dsimp only
  repeat' first
    | with_reducible assumption | with_reducible refine State.when_kept ?_ ?_ | with_reducible apply State.wr_frame
    | with_reducible apply State.wrInt_frame | with_reducible apply State.setFlag_frame
    | with_reducible apply State.modG_frame | with_reducible apply State.modE_frame
    | with_reducible apply State.inc_frame | with_reducible apply State.resetCal_frame | split | dsimp only | intro _

theorem own_DOMAIN_TARGET_frame {s : State} {w : Wr} (wALERT_STATUS : W .ALERT_STATUS)
    (wAUDIT_MERGED : W .AUDIT_MERGED) (wAUDIT_NEXT : W .AUDIT_NEXT) (wAUDIT_OK : W .AUDIT_OK)
    (wAUDIT_OVERWRITTEN : W .AUDIT_OVERWRITTEN) (wAUDIT_REFUSED : W .AUDIT_REFUSED) (wAUDIT_SEQ : W .AUDIT_SEQ)
    (wDOMAIN_STATE : W .DOMAIN_STATE) (wDOMAIN_TARGET : W .DOMAIN_TARGET) (wEVENT_NEXT : W .EVENT_NEXT)
    (wEVENT_OVERWRITTEN : W .EVENT_OVERWRITTEN) (wEVENT_PAGE : W .EVENT_PAGE) (wEVENT_SEQ : W .EVENT_SEQ)
    (wHP_DENIED : W .HP_DENIED) (wHP_ERRORS : W .HP_ERRORS) (wHP_LAST_STATUS : W .HP_LAST_STATUS)
    (wHP_NOTREADY : W .HP_NOTREADY) (wHP_REQUESTS : W .HP_REQUESTS) (wINJ_ARM : W .INJ_ARM)
    (wINJ_COUNT : W .INJ_COUNT) (wINJ_RESULT : W .INJ_RESULT) (wMB_COUNT : W .MB_COUNT)
    (wMB_DISCARDS : W .MB_DISCARDS) (wSRAM_CE : W .SRAM_CE) (wSRAM_UE : W .SRAM_UE)
    (wSY_POST_OVERFLOW : W .SY_POST_OVERFLOW) (qflt : Q .flt) (qinj : Q .inj) (qcell : Q .cell) (qdom : Q .dom)
    (qpdWakes : Q .pdWakes) (qpdCmds : Q .pdCmds) (qdict : Q .dict) (qbox : Q .box) (qports : Q .ports)
    (h : Fr W Q z s) :
    Fr W Q z (s.submitWrite (writeOf .DOMAIN_TARGET 0 w)) := by
  refine State.ownSubmit_frame (o := .DOMAIN_TARGET) (i := 0) addr_DOMAIN_TARGET rfl rfl (.inl fun _ _ => rfl) (.inl rfl) (fun _ _ _ ht => ht) ?_
    wAUDIT_MERGED wAUDIT_NEXT wAUDIT_OK wAUDIT_OVERWRITTEN wAUDIT_REFUSED wAUDIT_SEQ wHP_DENIED wHP_ERRORS
    wHP_LAST_STATUS wHP_NOTREADY wHP_REQUESTS wALERT_STATUS wEVENT_NEXT wEVENT_OVERWRITTEN wEVENT_PAGE wEVENT_SEQ
    wINJ_ARM wINJ_COUNT wINJ_RESULT wSRAM_CE wSRAM_UE qflt qinj qdict qports h
  intro t e j v ht
  rw [State.effect_store rfl]
  unfold State.store
  try dsimp only
  repeat' first
    | with_reducible assumption | with_reducible apply State.wr_frame | with_reducible apply State.wrInt_frame
    | with_reducible apply State.setFlag_frame | with_reducible apply State.modG_frame
    | with_reducible apply State.modE_frame | with_reducible apply State.inc_frame
    | with_reducible apply State.submitTarget_frame

theorem own_DS_ENABLE_frame {s : State} {w : Wr} (wALERT_STATUS : W .ALERT_STATUS)
    (wAUDIT_MERGED : W .AUDIT_MERGED) (wAUDIT_NEXT : W .AUDIT_NEXT) (wAUDIT_OK : W .AUDIT_OK)
    (wAUDIT_OVERWRITTEN : W .AUDIT_OVERWRITTEN) (wAUDIT_REFUSED : W .AUDIT_REFUSED) (wAUDIT_SEQ : W .AUDIT_SEQ)
    (wDS_ENABLE : W .DS_ENABLE) (wDS_QUARANTINE : W .DS_QUARANTINE) (wDS_STATUS : W .DS_STATUS)
    (wEVENT_NEXT : W .EVENT_NEXT) (wEVENT_OVERWRITTEN : W .EVENT_OVERWRITTEN) (wEVENT_PAGE : W .EVENT_PAGE)
    (wEVENT_SEQ : W .EVENT_SEQ) (wHP_DENIED : W .HP_DENIED) (wHP_ERRORS : W .HP_ERRORS)
    (wHP_LAST_STATUS : W .HP_LAST_STATUS) (wHP_NOTREADY : W .HP_NOTREADY) (wHP_REQUESTS : W .HP_REQUESTS)
    (wINJ_ARM : W .INJ_ARM) (wINJ_COUNT : W .INJ_COUNT) (wINJ_RESULT : W .INJ_RESULT) (wSRAM_CE : W .SRAM_CE)
    (wSRAM_UE : W .SRAM_UE) (qflt : Q .flt) (qinj : Q .inj) (qrgn : Q .rgn) (qdict : Q .dict) (qports : Q .ports)
    (h : Fr W Q z s) :
    Fr W Q z (s.submitWrite (writeOf .DS_ENABLE 0 w)) := by
  refine State.ownSubmit_frame (o := .DS_ENABLE) (i := 0) addr_DS_ENABLE rfl rfl (.inl fun _ _ => rfl) (.inl rfl) (fun _ _ _ ht => ht) ?_
    wAUDIT_MERGED wAUDIT_NEXT wAUDIT_OK wAUDIT_OVERWRITTEN wAUDIT_REFUSED wAUDIT_SEQ wHP_DENIED wHP_ERRORS
    wHP_LAST_STATUS wHP_NOTREADY wHP_REQUESTS wALERT_STATUS wEVENT_NEXT wEVENT_OVERWRITTEN wEVENT_PAGE wEVENT_SEQ
    wINJ_ARM wINJ_COUNT wINJ_RESULT wSRAM_CE wSRAM_UE qflt qinj qdict qports h
  intro t e j v ht
  rw [State.effect_store rfl]
  unfold State.store
  try dsimp only
  repeat' first
    | with_reducible assumption | with_reducible apply State.wr_frame | with_reducible apply State.wrInt_frame
    | with_reducible apply State.setFlag_frame | with_reducible apply State.modG_frame
    | with_reducible apply State.modE_frame | with_reducible apply State.inc_frame
    | with_reducible apply State.removeSensors_frame

theorem own_DS_QUARANTINE_frame {s : State} {w : Wr} (wALERT_STATUS : W .ALERT_STATUS)
    (wAUDIT_MERGED : W .AUDIT_MERGED) (wAUDIT_NEXT : W .AUDIT_NEXT) (wAUDIT_OK : W .AUDIT_OK)
    (wAUDIT_OVERWRITTEN : W .AUDIT_OVERWRITTEN) (wAUDIT_REFUSED : W .AUDIT_REFUSED) (wAUDIT_SEQ : W .AUDIT_SEQ)
    (wDS_QUARANTINE : W .DS_QUARANTINE) (wDS_STATUS : W .DS_STATUS) (wEVENT_NEXT : W .EVENT_NEXT)
    (wEVENT_OVERWRITTEN : W .EVENT_OVERWRITTEN) (wEVENT_PAGE : W .EVENT_PAGE) (wEVENT_SEQ : W .EVENT_SEQ)
    (wHP_DENIED : W .HP_DENIED) (wHP_ERRORS : W .HP_ERRORS) (wHP_LAST_STATUS : W .HP_LAST_STATUS)
    (wHP_NOTREADY : W .HP_NOTREADY) (wHP_REQUESTS : W .HP_REQUESTS) (wINJ_ARM : W .INJ_ARM)
    (wINJ_COUNT : W .INJ_COUNT) (wINJ_RESULT : W .INJ_RESULT) (wSRAM_CE : W .SRAM_CE) (wSRAM_UE : W .SRAM_UE)
    (qflt : Q .flt) (qinj : Q .inj) (qrgn : Q .rgn) (qdict : Q .dict) (qports : Q .ports) (h : Fr W Q z s) :
    Fr W Q z (s.submitWrite (writeOf .DS_QUARANTINE 0 w)) := by
  refine State.ownSubmit_frame (o := .DS_QUARANTINE) (i := 0) addr_DS_QUARANTINE rfl rfl (.inl fun _ _ => rfl) (.inl rfl) (fun _ _ _ ht => ht) ?_
    wAUDIT_MERGED wAUDIT_NEXT wAUDIT_OK wAUDIT_OVERWRITTEN wAUDIT_REFUSED wAUDIT_SEQ wHP_DENIED wHP_ERRORS
    wHP_LAST_STATUS wHP_NOTREADY wHP_REQUESTS wALERT_STATUS wEVENT_NEXT wEVENT_OVERWRITTEN wEVENT_PAGE wEVENT_SEQ
    wINJ_ARM wINJ_COUNT wINJ_RESULT wSRAM_CE wSRAM_UE qflt qinj qdict qports h
  intro t e j v ht
  rw [State.effect_store rfl]
  unfold State.store
  try dsimp only
  repeat' first
    | with_reducible assumption | with_reducible apply State.wr_frame | with_reducible apply State.wrInt_frame
    | with_reducible apply State.setFlag_frame | with_reducible apply State.modG_frame
    | with_reducible apply State.modE_frame | with_reducible apply State.inc_frame
    | with_reducible apply State.unquarantine_frame

theorem own_EST_SHIFT_frame {s : State} {w : Wr} (wALERT_STATUS : W .ALERT_STATUS)
    (wAUDIT_MERGED : W .AUDIT_MERGED) (wAUDIT_NEXT : W .AUDIT_NEXT) (wAUDIT_OK : W .AUDIT_OK)
    (wAUDIT_OVERWRITTEN : W .AUDIT_OVERWRITTEN) (wAUDIT_REFUSED : W .AUDIT_REFUSED) (wAUDIT_SEQ : W .AUDIT_SEQ)
    (wEST_SHIFT : W .EST_SHIFT) (wEST_WEIGHT : W .EST_WEIGHT) (wEVENT_NEXT : W .EVENT_NEXT)
    (wEVENT_OVERWRITTEN : W .EVENT_OVERWRITTEN) (wEVENT_PAGE : W .EVENT_PAGE) (wEVENT_SEQ : W .EVENT_SEQ)
    (wHP_DENIED : W .HP_DENIED) (wHP_ERRORS : W .HP_ERRORS) (wHP_LAST_STATUS : W .HP_LAST_STATUS)
    (wHP_NOTREADY : W .HP_NOTREADY) (wHP_REQUESTS : W .HP_REQUESTS) (wINJ_ARM : W .INJ_ARM)
    (wINJ_COUNT : W .INJ_COUNT) (wINJ_RESULT : W .INJ_RESULT) (wSRAM_CE : W .SRAM_CE) (wSRAM_UE : W .SRAM_UE)
    (qflt : Q .flt) (qinj : Q .inj) (qest : Q .est) (qdict : Q .dict) (qports : Q .ports) (qfon : Q .fon)
    (h : Fr W Q z s) :
    Fr W Q z (s.submitWrite (writeOf .EST_SHIFT 0 w)) := by
  refine State.ownSubmit_frame (o := .EST_SHIFT) (i := 0) addr_EST_SHIFT rfl rfl (.inl fun _ _ => rfl) (.inr qfon) (fun _ _ _ ht => ht) ?_
    wAUDIT_MERGED wAUDIT_NEXT wAUDIT_OK wAUDIT_OVERWRITTEN wAUDIT_REFUSED wAUDIT_SEQ wHP_DENIED wHP_ERRORS
    wHP_LAST_STATUS wHP_NOTREADY wHP_REQUESTS wALERT_STATUS wEVENT_NEXT wEVENT_OVERWRITTEN wEVENT_PAGE wEVENT_SEQ
    wINJ_ARM wINJ_COUNT wINJ_RESULT wSRAM_CE wSRAM_UE qflt qinj qdict qports h
  intro t e j v ht
  rw [State.effect_store rfl]
  unfold State.store
  try dsimp only
  repeat' first
    | with_reducible assumption | with_reducible apply State.wr_frame | with_reducible apply State.wrInt_frame
    | with_reducible apply State.setFlag_frame | with_reducible apply State.modG_frame
    | with_reducible apply State.modE_frame | with_reducible apply State.inc_frame
    | with_reducible apply State.newWeights_frame

theorem own_EST_WEIGHT_FACTORY_frame {s : State} {w : Wr} (wALERT_STATUS : W .ALERT_STATUS)
    (wAUDIT_MERGED : W .AUDIT_MERGED) (wAUDIT_NEXT : W .AUDIT_NEXT) (wAUDIT_OK : W .AUDIT_OK)
    (wAUDIT_OVERWRITTEN : W .AUDIT_OVERWRITTEN) (wAUDIT_REFUSED : W .AUDIT_REFUSED) (wAUDIT_SEQ : W .AUDIT_SEQ)
    (wEST_WEIGHT : W .EST_WEIGHT) (wEST_WEIGHT_FACTORY : W .EST_WEIGHT_FACTORY) (wEVENT_NEXT : W .EVENT_NEXT)
    (wEVENT_OVERWRITTEN : W .EVENT_OVERWRITTEN) (wEVENT_PAGE : W .EVENT_PAGE) (wEVENT_SEQ : W .EVENT_SEQ)
    (wHP_DENIED : W .HP_DENIED) (wHP_ERRORS : W .HP_ERRORS) (wHP_LAST_STATUS : W .HP_LAST_STATUS)
    (wHP_NOTREADY : W .HP_NOTREADY) (wHP_REQUESTS : W .HP_REQUESTS) (wINJ_ARM : W .INJ_ARM)
    (wINJ_COUNT : W .INJ_COUNT) (wINJ_RESULT : W .INJ_RESULT) (wSRAM_CE : W .SRAM_CE) (wSRAM_UE : W .SRAM_UE)
    (qflt : Q .flt) (qinj : Q .inj) (qest : Q .est) (qdict : Q .dict) (qports : Q .ports) (qfon : Q .fon)
    (h : Fr W Q z s) :
    Fr W Q z (s.submitWrite (writeOf .EST_WEIGHT_FACTORY 0 w)) := by
  refine State.ownSubmit_frame (o := .EST_WEIGHT_FACTORY) (i := 0) addr_EST_WEIGHT_FACTORY rfl rfl (.inl fun _ _ => rfl) (.inr qfon) (fun _ _ _ ht => ht) ?_
    wAUDIT_MERGED wAUDIT_NEXT wAUDIT_OK wAUDIT_OVERWRITTEN wAUDIT_REFUSED wAUDIT_SEQ wHP_DENIED wHP_ERRORS
    wHP_LAST_STATUS wHP_NOTREADY wHP_REQUESTS wALERT_STATUS wEVENT_NEXT wEVENT_OVERWRITTEN wEVENT_PAGE wEVENT_SEQ
    wINJ_ARM wINJ_COUNT wINJ_RESULT wSRAM_CE wSRAM_UE qflt qinj qdict qports h
  intro t e j v ht
  rw [State.effect_store rfl]
  unfold State.store
  try dsimp only
  repeat' first
    | with_reducible assumption | with_reducible apply State.wr_frame | with_reducible apply State.wrInt_frame
    | with_reducible apply State.setFlag_frame | with_reducible apply State.modG_frame
    | with_reducible apply State.modE_frame | with_reducible apply State.inc_frame
    | with_reducible apply State.newWeights_frame

theorem own_EXPERT_UNLOCK_frame {s : State} {w : Wr} (wALERT_STATUS : W .ALERT_STATUS)
    (wAUDIT_MERGED : W .AUDIT_MERGED) (wAUDIT_NEXT : W .AUDIT_NEXT) (wAUDIT_OK : W .AUDIT_OK)
    (wAUDIT_OVERWRITTEN : W .AUDIT_OVERWRITTEN) (wAUDIT_REFUSED : W .AUDIT_REFUSED) (wAUDIT_SEQ : W .AUDIT_SEQ)
    (wEVENT_NEXT : W .EVENT_NEXT) (wEVENT_OVERWRITTEN : W .EVENT_OVERWRITTEN) (wEVENT_PAGE : W .EVENT_PAGE)
    (wEVENT_SEQ : W .EVENT_SEQ) (wEXPERT_UNLOCK : W .EXPERT_UNLOCK) (wEXPERT_UNLOCKS : W .EXPERT_UNLOCKS)
    (wHP_DENIED : W .HP_DENIED) (wHP_ERRORS : W .HP_ERRORS) (wHP_LAST_STATUS : W .HP_LAST_STATUS)
    (wHP_NOTREADY : W .HP_NOTREADY) (wHP_REQUESTS : W .HP_REQUESTS) (wINJ_ARM : W .INJ_ARM)
    (wINJ_COUNT : W .INJ_COUNT) (wINJ_RESULT : W .INJ_RESULT) (wSRAM_CE : W .SRAM_CE) (wSRAM_UE : W .SRAM_UE)
    (qflt : Q .flt) (qinj : Q .inj) (qdict : Q .dict) (qports : Q .ports) (h : Fr W Q z s) :
    Fr W Q z (s.submitWrite (writeOf .EXPERT_UNLOCK 0 w)) := by
  refine State.ownSubmit_frame (o := .EXPERT_UNLOCK) (i := 0) addr_EXPERT_UNLOCK rfl rfl (.inl fun _ _ => rfl) (.inl rfl) (fun _ _ _ ht => ht) ?_
    wAUDIT_MERGED wAUDIT_NEXT wAUDIT_OK wAUDIT_OVERWRITTEN wAUDIT_REFUSED wAUDIT_SEQ wHP_DENIED wHP_ERRORS
    wHP_LAST_STATUS wHP_NOTREADY wHP_REQUESTS wALERT_STATUS wEVENT_NEXT wEVENT_OVERWRITTEN wEVENT_PAGE wEVENT_SEQ
    wINJ_ARM wINJ_COUNT wINJ_RESULT wSRAM_CE wSRAM_UE qflt qinj qdict qports h
  intro t e j v ht
  rw [State.effect_store rfl]
  unfold State.store
  try dsimp only
  repeat' first
    | with_reducible assumption | with_reducible apply State.wr_frame | with_reducible apply State.wrInt_frame
    | with_reducible apply State.setFlag_frame | with_reducible apply State.modG_frame
    | with_reducible apply State.modE_frame | with_reducible apply State.inc_frame
    | with_reducible apply State.writeUnlock_frame

theorem own_FIXED_RATE_ENABLE_frame {s : State} {w : Wr} (wALERT_STATUS : W .ALERT_STATUS)
    (wAUDIT_MERGED : W .AUDIT_MERGED) (wAUDIT_NEXT : W .AUDIT_NEXT) (wAUDIT_OK : W .AUDIT_OK)
    (wAUDIT_OVERWRITTEN : W .AUDIT_OVERWRITTEN) (wAUDIT_REFUSED : W .AUDIT_REFUSED) (wAUDIT_SEQ : W .AUDIT_SEQ)
    (wCAP_STATUS : W .CAP_STATUS) (wEVENT_NEXT : W .EVENT_NEXT) (wEVENT_OVERWRITTEN : W .EVENT_OVERWRITTEN)
    (wEVENT_PAGE : W .EVENT_PAGE) (wEVENT_SEQ : W .EVENT_SEQ) (wFIELD_VNEED : W .FIELD_VNEED)
    (wFIELD_VOLT : W .FIELD_VOLT) (wFIELD_VOLT_AT_CEIL : W .FIELD_VOLT_AT_CEIL)
    (wFIXED_RATE_ENABLE : W .FIXED_RATE_ENABLE) (wGROUP_CEIL_REASON : W .GROUP_CEIL_REASON)
    (wGROUP_CHG_ABORTS : W .GROUP_CHG_ABORTS) (wGROUP_CHG_RESULT : W .GROUP_CHG_RESULT)
    (wGROUP_CHG_STATE : W .GROUP_CHG_STATE) (wGROUP_TARGET_N : W .GROUP_TARGET_N) (wHP_DENIED : W .HP_DENIED)
    (wHP_ERRORS : W .HP_ERRORS) (wHP_LAST_STATUS : W .HP_LAST_STATUS) (wHP_NOTREADY : W .HP_NOTREADY)
    (wHP_REQUESTS : W .HP_REQUESTS) (wINJ_ARM : W .INJ_ARM) (wINJ_COUNT : W .INJ_COUNT)
    (wINJ_RESULT : W .INJ_RESULT) (wOP_CEIL_ENTRY : W .OP_CEIL_ENTRY) (wPR_CUR_TAG : W .PR_CUR_TAG)
    (wPR_DISCARDED : W .PR_DISCARDED) (wRAIL_RETRIES : W .RAIL_RETRIES) (wRAIL_STATUS : W .RAIL_STATUS)
    (wSRAM_CE : W .SRAM_CE) (wSRAM_UE : W .SRAM_UE) (qflt : Q .flt) (qinj : Q .inj) (qfld : Q .fld) (qgrp : Q .grp)
    (qlink : Q .link) (qrail : Q .rail) (qdict : Q .dict) (qports : Q .ports) (h : Fr W Q z s) :
    Fr W Q z (s.submitWrite (writeOf .FIXED_RATE_ENABLE 0 w)) := by
  refine State.ownSubmit_frame (o := .FIXED_RATE_ENABLE) (i := 0) addr_FIXED_RATE_ENABLE rfl rfl (.inl fun _ _ => rfl) (.inl rfl) (fun _ _ _ ht => ht) ?_
    wAUDIT_MERGED wAUDIT_NEXT wAUDIT_OK wAUDIT_OVERWRITTEN wAUDIT_REFUSED wAUDIT_SEQ wHP_DENIED wHP_ERRORS
    wHP_LAST_STATUS wHP_NOTREADY wHP_REQUESTS wALERT_STATUS wEVENT_NEXT wEVENT_OVERWRITTEN wEVENT_PAGE wEVENT_SEQ
    wINJ_ARM wINJ_COUNT wINJ_RESULT wSRAM_CE wSRAM_UE qflt qinj qdict qports h
  intro t e j v ht
  rw [State.effect_store rfl]
  unfold State.store
  try dsimp only
  repeat' first
    | with_reducible assumption | with_reducible apply State.wr_frame | with_reducible apply State.wrInt_frame
    | with_reducible apply State.setFlag_frame | with_reducible apply State.modG_frame
    | with_reducible apply State.modE_frame | with_reducible apply State.inc_frame
    | with_reducible apply State.writeFixed_frame

theorem own_FIXED_RATE_N_frame {s : State} {w : Wr} (wALERT_STATUS : W .ALERT_STATUS)
    (wAUDIT_MERGED : W .AUDIT_MERGED) (wAUDIT_NEXT : W .AUDIT_NEXT) (wAUDIT_OK : W .AUDIT_OK)
    (wAUDIT_OVERWRITTEN : W .AUDIT_OVERWRITTEN) (wAUDIT_REFUSED : W .AUDIT_REFUSED) (wAUDIT_SEQ : W .AUDIT_SEQ)
    (wEVENT_NEXT : W .EVENT_NEXT) (wEVENT_OVERWRITTEN : W .EVENT_OVERWRITTEN) (wEVENT_PAGE : W .EVENT_PAGE)
    (wEVENT_SEQ : W .EVENT_SEQ) (wFIELD_VNEED : W .FIELD_VNEED) (wFIELD_VOLT : W .FIELD_VOLT)
    (wFIELD_VOLT_AT_CEIL : W .FIELD_VOLT_AT_CEIL) (wFIXED_RATE_N : W .FIXED_RATE_N)
    (wGROUP_CEIL_REASON : W .GROUP_CEIL_REASON) (wGROUP_CHG_ABORTS : W .GROUP_CHG_ABORTS)
    (wGROUP_CHG_RESULT : W .GROUP_CHG_RESULT) (wGROUP_CHG_STATE : W .GROUP_CHG_STATE)
    (wGROUP_TARGET_N : W .GROUP_TARGET_N) (wHP_DENIED : W .HP_DENIED) (wHP_ERRORS : W .HP_ERRORS)
    (wHP_LAST_STATUS : W .HP_LAST_STATUS) (wHP_NOTREADY : W .HP_NOTREADY) (wHP_REQUESTS : W .HP_REQUESTS)
    (wINJ_ARM : W .INJ_ARM) (wINJ_COUNT : W .INJ_COUNT) (wINJ_RESULT : W .INJ_RESULT)
    (wOP_CEIL_ENTRY : W .OP_CEIL_ENTRY) (wRAIL_RETRIES : W .RAIL_RETRIES) (wRAIL_STATUS : W .RAIL_STATUS)
    (wSRAM_CE : W .SRAM_CE) (wSRAM_UE : W .SRAM_UE) (qflt : Q .flt) (qinj : Q .inj) (qfld : Q .fld) (qgrp : Q .grp)
    (qlink : Q .link) (qrail : Q .rail) (qdict : Q .dict) (qports : Q .ports) (h : Fr W Q z s) :
    Fr W Q z (s.submitWrite (writeOf .FIXED_RATE_N 0 w)) := by
  refine State.ownSubmit_frame (o := .FIXED_RATE_N) (i := 0) addr_FIXED_RATE_N rfl rfl (.inl fun _ _ => rfl) (.inl rfl) (fun _ _ _ ht => ht) ?_
    wAUDIT_MERGED wAUDIT_NEXT wAUDIT_OK wAUDIT_OVERWRITTEN wAUDIT_REFUSED wAUDIT_SEQ wHP_DENIED wHP_ERRORS
    wHP_LAST_STATUS wHP_NOTREADY wHP_REQUESTS wALERT_STATUS wEVENT_NEXT wEVENT_OVERWRITTEN wEVENT_PAGE wEVENT_SEQ
    wINJ_ARM wINJ_COUNT wINJ_RESULT wSRAM_CE wSRAM_UE qflt qinj qdict qports h
  intro t e j v ht
  rw [State.effect_store rfl]
  unfold State.store
  try dsimp only
  repeat' first
    | with_reducible assumption | with_reducible refine State.when_kept ?_ ?_ | with_reducible apply State.wr_frame
    | with_reducible apply State.wrInt_frame | with_reducible apply State.setFlag_frame
    | with_reducible apply State.modG_frame | with_reducible apply State.modE_frame
    | with_reducible apply State.inc_frame | with_reducible apply State.noteFixed_frame
    | with_reducible apply State.retarget_frame | split | dsimp only | intro _

theorem own_FN_FORMAT_REQ_frame {s : State} {w : Wr} (wALERT_STATUS : W .ALERT_STATUS)
    (wAUDIT_MERGED : W .AUDIT_MERGED) (wAUDIT_NEXT : W .AUDIT_NEXT) (wAUDIT_OK : W .AUDIT_OK)
    (wAUDIT_OVERWRITTEN : W .AUDIT_OVERWRITTEN) (wAUDIT_REFUSED : W .AUDIT_REFUSED) (wAUDIT_SEQ : W .AUDIT_SEQ)
    (wEVENT_NEXT : W .EVENT_NEXT) (wEVENT_OVERWRITTEN : W .EVENT_OVERWRITTEN) (wEVENT_PAGE : W .EVENT_PAGE)
    (wEVENT_SEQ : W .EVENT_SEQ) (wFN_HEAD_SEQ : W .FN_HEAD_SEQ) (wFN_RING : W .FN_RING) (wFN_STATUS : W .FN_STATUS)
    (wHP_DENIED : W .HP_DENIED) (wHP_ERRORS : W .HP_ERRORS) (wHP_LAST_STATUS : W .HP_LAST_STATUS)
    (wHP_NOTREADY : W .HP_NOTREADY) (wHP_REQUESTS : W .HP_REQUESTS) (wINJ_ARM : W .INJ_ARM)
    (wINJ_COUNT : W .INJ_COUNT) (wINJ_RESULT : W .INJ_RESULT) (wSRAM_CE : W .SRAM_CE) (wSRAM_UE : W .SRAM_UE)
    (wUNIT_READY : W .UNIT_READY) (qflt : Q .flt) (qinj : Q .inj) (qdict : Q .dict) (qports : Q .ports)
    (qflash : Q .flash) (qfon : Q .fon) (h : Fr W Q z s) :
    Fr W Q z (s.submitWrite (writeOf .FN_FORMAT_REQ 0 w)) := by
  refine State.ownSubmit_frame (o := .FN_FORMAT_REQ) (i := 0) addr_FN_FORMAT_REQ rfl rfl (.inl fun _ _ => rfl) (.inl rfl) (fun _ _ _ ht => ht) ?_
    wAUDIT_MERGED wAUDIT_NEXT wAUDIT_OK wAUDIT_OVERWRITTEN wAUDIT_REFUSED wAUDIT_SEQ wHP_DENIED wHP_ERRORS
    wHP_LAST_STATUS wHP_NOTREADY wHP_REQUESTS wALERT_STATUS wEVENT_NEXT wEVENT_OVERWRITTEN wEVENT_PAGE wEVENT_SEQ
    wINJ_ARM wINJ_COUNT wINJ_RESULT wSRAM_CE wSRAM_UE qflt qinj qdict qports h
  intro t e j v ht
  rw [State.effect_command rfl rfl]
  unfold State.command
  dsimp only
  repeat' first
    | with_reducible assumption | with_reducible refine State.when_kept ?_ ?_ | with_reducible apply State.wr_frame
    | with_reducible apply State.wrInt_frame | with_reducible apply State.setFlag_frame
    | with_reducible apply State.modG_frame | with_reducible apply State.modE_frame
    | with_reducible apply State.inc_frame | with_reducible apply State.acceptFormat_frame | split | dsimp only
    | intro _

theorem own_FN_SNAP_REQ_frame {s : State} {w : Wr} (wALERT_STATUS : W .ALERT_STATUS)
    (wAUDIT_MERGED : W .AUDIT_MERGED) (wAUDIT_NEXT : W .AUDIT_NEXT) (wAUDIT_OK : W .AUDIT_OK)
    (wAUDIT_OVERWRITTEN : W .AUDIT_OVERWRITTEN) (wAUDIT_REFUSED : W .AUDIT_REFUSED) (wAUDIT_SEQ : W .AUDIT_SEQ)
    (wEVENT_NEXT : W .EVENT_NEXT) (wEVENT_OVERWRITTEN : W .EVENT_OVERWRITTEN) (wEVENT_PAGE : W .EVENT_PAGE)
    (wEVENT_SEQ : W .EVENT_SEQ) (wFN_SNAP_DEFERRALS : W .FN_SNAP_DEFERRALS) (wFN_SNAP_REQ : W .FN_SNAP_REQ)
    (wFN_STATUS : W .FN_STATUS) (wHP_DENIED : W .HP_DENIED) (wHP_ERRORS : W .HP_ERRORS)
    (wHP_LAST_STATUS : W .HP_LAST_STATUS) (wHP_NOTREADY : W .HP_NOTREADY) (wHP_REQUESTS : W .HP_REQUESTS)
    (wINJ_ARM : W .INJ_ARM) (wINJ_COUNT : W .INJ_COUNT) (wINJ_RESULT : W .INJ_RESULT)
    (wPERSIST_DEFERRED : W .PERSIST_DEFERRED) (wPERSIST_FLUSH : W .PERSIST_FLUSH) (wSRAM_CE : W .SRAM_CE)
    (wSRAM_UE : W .SRAM_UE) (qflt : Q .flt) (qinj : Q .inj) (qdict : Q .dict) (qports : Q .ports) (qfon : Q .fon)
    (h : Fr W Q z s) :
    Fr W Q z (s.submitWrite (writeOf .FN_SNAP_REQ 0 w)) := by
  refine State.ownSubmit_frame (o := .FN_SNAP_REQ) (i := 0) addr_FN_SNAP_REQ rfl rfl (.inl fun _ _ => rfl) (.inl rfl) (fun _ _ _ ht => ht) ?_
    wAUDIT_MERGED wAUDIT_NEXT wAUDIT_OK wAUDIT_OVERWRITTEN wAUDIT_REFUSED wAUDIT_SEQ wHP_DENIED wHP_ERRORS
    wHP_LAST_STATUS wHP_NOTREADY wHP_REQUESTS wALERT_STATUS wEVENT_NEXT wEVENT_OVERWRITTEN wEVENT_PAGE wEVENT_SEQ
    wINJ_ARM wINJ_COUNT wINJ_RESULT wSRAM_CE wSRAM_UE qflt qinj qdict qports h
  intro t e j v ht
  rw [State.effect_command rfl rfl]
  unfold State.command
  dsimp only
  repeat' first
    | with_reducible assumption | with_reducible refine State.when_kept ?_ ?_ | with_reducible apply State.wr_frame
    | with_reducible apply State.wrInt_frame | with_reducible apply State.setFlag_frame
    | with_reducible apply State.modG_frame | with_reducible apply State.modE_frame
    | with_reducible apply State.inc_frame | with_reducible apply State.askNow_frame | split | dsimp only | intro _

theorem own_GROUP_SHARE_frame {s : State} {w : Wr} (wALERT_STATUS : W .ALERT_STATUS)
    (wAUDIT_MERGED : W .AUDIT_MERGED) (wAUDIT_NEXT : W .AUDIT_NEXT) (wAUDIT_OK : W .AUDIT_OK)
    (wAUDIT_OVERWRITTEN : W .AUDIT_OVERWRITTEN) (wAUDIT_REFUSED : W .AUDIT_REFUSED) (wAUDIT_SEQ : W .AUDIT_SEQ)
    (wEVENT_NEXT : W .EVENT_NEXT) (wEVENT_OVERWRITTEN : W .EVENT_OVERWRITTEN) (wEVENT_PAGE : W .EVENT_PAGE)
    (wEVENT_SEQ : W .EVENT_SEQ) (wGROUP_SHARE : W .GROUP_SHARE) (wHP_DENIED : W .HP_DENIED)
    (wHP_ERRORS : W .HP_ERRORS) (wHP_LAST_STATUS : W .HP_LAST_STATUS) (wHP_NOTREADY : W .HP_NOTREADY)
    (wHP_REQUESTS : W .HP_REQUESTS) (wINJ_ARM : W .INJ_ARM) (wINJ_COUNT : W .INJ_COUNT)
    (wINJ_RESULT : W .INJ_RESULT) (wSRAM_CE : W .SRAM_CE) (wSRAM_UE : W .SRAM_UE) (qflt : Q .flt) (qinj : Q .inj)
    (qdict : Q .dict) (qports : Q .ports) (h : Fr W Q z s) :
    Fr W Q z (s.submitWrite (writeOf .GROUP_SHARE 0 w)) := by
  refine State.ownSubmit_frame (o := .GROUP_SHARE) (i := 0) addr_GROUP_SHARE rfl rfl (.inl fun _ _ => rfl) (.inl rfl) (fun _ _ _ ht => ht) ?_
    wAUDIT_MERGED wAUDIT_NEXT wAUDIT_OK wAUDIT_OVERWRITTEN wAUDIT_REFUSED wAUDIT_SEQ wHP_DENIED wHP_ERRORS
    wHP_LAST_STATUS wHP_NOTREADY wHP_REQUESTS wALERT_STATUS wEVENT_NEXT wEVENT_OVERWRITTEN wEVENT_PAGE wEVENT_SEQ
    wINJ_ARM wINJ_COUNT wINJ_RESULT wSRAM_CE wSRAM_UE qflt qinj qdict qports h
  intro t e j v ht
  exact State.wr_frame wGROUP_SHARE ht

theorem own_INJ_ARM_frame {s : State} {w : Wr} (wALERT_STATUS : W .ALERT_STATUS)
    (wAUDIT_MERGED : W .AUDIT_MERGED) (wAUDIT_NEXT : W .AUDIT_NEXT) (wAUDIT_OK : W .AUDIT_OK)
    (wAUDIT_OVERWRITTEN : W .AUDIT_OVERWRITTEN) (wAUDIT_REFUSED : W .AUDIT_REFUSED) (wAUDIT_SEQ : W .AUDIT_SEQ)
    (wEVENT_NEXT : W .EVENT_NEXT) (wEVENT_OVERWRITTEN : W .EVENT_OVERWRITTEN) (wEVENT_PAGE : W .EVENT_PAGE)
    (wEVENT_SEQ : W .EVENT_SEQ) (wHP_DENIED : W .HP_DENIED) (wHP_ERRORS : W .HP_ERRORS)
    (wHP_LAST_STATUS : W .HP_LAST_STATUS) (wHP_NOTREADY : W .HP_NOTREADY) (wHP_REQUESTS : W .HP_REQUESTS)
    (wINJ_ARM : W .INJ_ARM) (wINJ_COUNT : W .INJ_COUNT) (wINJ_RESULT : W .INJ_RESULT) (wSRAM_CE : W .SRAM_CE)
    (wSRAM_UE : W .SRAM_UE) (qflt : Q .flt) (qinj : Q .inj) (qdict : Q .dict) (qports : Q .ports) (h : Fr W Q z s) :
    Fr W Q z (s.submitWrite (writeOf .INJ_ARM 0 w)) := by
  refine State.ownSubmit_frame (o := .INJ_ARM) (i := 0) addr_INJ_ARM rfl rfl (.inl fun _ _ => rfl) (.inl rfl) (fun _ _ _ ht => ht) ?_
    wAUDIT_MERGED wAUDIT_NEXT wAUDIT_OK wAUDIT_OVERWRITTEN wAUDIT_REFUSED wAUDIT_SEQ wHP_DENIED wHP_ERRORS
    wHP_LAST_STATUS wHP_NOTREADY wHP_REQUESTS wALERT_STATUS wEVENT_NEXT wEVENT_OVERWRITTEN wEVENT_PAGE wEVENT_SEQ
    wINJ_ARM wINJ_COUNT wINJ_RESULT wSRAM_CE wSRAM_UE qflt qinj qdict qports h
  intro t e j v ht
  rw [State.effect_command rfl rfl]
  unfold State.command
  dsimp only
  repeat' first
    | with_reducible assumption | with_reducible refine State.when_kept ?_ ?_ | with_reducible apply State.wr_frame
    | with_reducible apply State.wrInt_frame | with_reducible apply State.setFlag_frame
    | with_reducible apply State.modG_frame | with_reducible apply State.modE_frame
    | with_reducible apply State.inc_frame | with_reducible apply State.arm_frame | split | dsimp only | intro _

theorem own_LC_ARM_frame {s : State} {w : Wr} (wALERT_STATUS : W .ALERT_STATUS)
    (wAUDIT_MERGED : W .AUDIT_MERGED) (wAUDIT_NEXT : W .AUDIT_NEXT) (wAUDIT_OK : W .AUDIT_OK)
    (wAUDIT_OVERWRITTEN : W .AUDIT_OVERWRITTEN) (wAUDIT_REFUSED : W .AUDIT_REFUSED) (wAUDIT_SEQ : W .AUDIT_SEQ)
    (wEVENT_NEXT : W .EVENT_NEXT) (wEVENT_OVERWRITTEN : W .EVENT_OVERWRITTEN) (wEVENT_PAGE : W .EVENT_PAGE)
    (wEVENT_SEQ : W .EVENT_SEQ) (wHP_DENIED : W .HP_DENIED) (wHP_ERRORS : W .HP_ERRORS)
    (wHP_LAST_STATUS : W .HP_LAST_STATUS) (wHP_NOTREADY : W .HP_NOTREADY) (wHP_REQUESTS : W .HP_REQUESTS)
    (wINJ_ARM : W .INJ_ARM) (wINJ_COUNT : W .INJ_COUNT) (wINJ_RESULT : W .INJ_RESULT) (wLC_ARM : W .LC_ARM)
    (wSRAM_CE : W .SRAM_CE) (wSRAM_UE : W .SRAM_UE) (qflt : Q .flt) (qinj : Q .inj) (qdict : Q .dict)
    (qports : Q .ports) (qfon : Q .fon) (h : Fr W Q z s) :
    Fr W Q z (s.submitWrite (writeOf .LC_ARM 0 w)) := by
  refine State.ownSubmit_frame (o := .LC_ARM) (i := 0) addr_LC_ARM rfl rfl (.inl fun _ _ => rfl) (.inl rfl) (fun _ _ _ ht => ht) ?_
    wAUDIT_MERGED wAUDIT_NEXT wAUDIT_OK wAUDIT_OVERWRITTEN wAUDIT_REFUSED wAUDIT_SEQ wHP_DENIED wHP_ERRORS
    wHP_LAST_STATUS wHP_NOTREADY wHP_REQUESTS wALERT_STATUS wEVENT_NEXT wEVENT_OVERWRITTEN wEVENT_PAGE wEVENT_SEQ
    wINJ_ARM wINJ_COUNT wINJ_RESULT wSRAM_CE wSRAM_UE qflt qinj qdict qports h
  intro t e j v ht
  rw [State.effect_command rfl rfl]
  unfold State.command
  dsimp only
  repeat' first
    | with_reducible assumption | with_reducible refine State.when_kept ?_ ?_ | with_reducible apply State.wr_frame
    | with_reducible apply State.wrInt_frame | with_reducible apply State.setFlag_frame
    | with_reducible apply State.modG_frame | with_reducible apply State.modE_frame
    | with_reducible apply State.inc_frame | with_reducible apply State.acceptArm_frame | split | dsimp only | intro _

theorem own_LC_REQUEST_frame {s : State} {w : Wr} (wALERT_STATUS : W .ALERT_STATUS)
    (wAUDIT_MERGED : W .AUDIT_MERGED) (wAUDIT_NEXT : W .AUDIT_NEXT) (wAUDIT_OK : W .AUDIT_OK)
    (wAUDIT_OVERWRITTEN : W .AUDIT_OVERWRITTEN) (wAUDIT_REFUSED : W .AUDIT_REFUSED) (wAUDIT_SEQ : W .AUDIT_SEQ)
    (wEVENT_NEXT : W .EVENT_NEXT) (wEVENT_OVERWRITTEN : W .EVENT_OVERWRITTEN) (wEVENT_PAGE : W .EVENT_PAGE)
    (wEVENT_SEQ : W .EVENT_SEQ) (wFN_SNAP_DEFERRALS : W .FN_SNAP_DEFERRALS) (wFN_STATUS : W .FN_STATUS)
    (wHP_DENIED : W .HP_DENIED) (wHP_ERRORS : W .HP_ERRORS) (wHP_LAST_STATUS : W .HP_LAST_STATUS)
    (wHP_NOTREADY : W .HP_NOTREADY) (wHP_REQUESTS : W .HP_REQUESTS) (wINJ_ARM : W .INJ_ARM)
    (wINJ_COUNT : W .INJ_COUNT) (wINJ_RESULT : W .INJ_RESULT) (wLC_ARM : W .LC_ARM) (wLC_REQUEST : W .LC_REQUEST)
    (wLC_STATUS : W .LC_STATUS) (wPERSIST_DEFERRED : W .PERSIST_DEFERRED) (wPERSIST_FLUSH : W .PERSIST_FLUSH)
    (wSRAM_CE : W .SRAM_CE) (wSRAM_UE : W .SRAM_UE) (qflt : Q .flt) (qinj : Q .inj) (qdict : Q .dict)
    (qports : Q .ports) (qfon : Q .fon) (h : Fr W Q z s) :
    Fr W Q z (s.submitWrite (writeOf .LC_REQUEST 0 w)) := by
  refine State.ownSubmit_frame (o := .LC_REQUEST) (i := 0) addr_LC_REQUEST rfl rfl (.inr wLC_STATUS) (.inl rfl) (fun _ _ _ ht => ht) ?_
    wAUDIT_MERGED wAUDIT_NEXT wAUDIT_OK wAUDIT_OVERWRITTEN wAUDIT_REFUSED wAUDIT_SEQ wHP_DENIED wHP_ERRORS
    wHP_LAST_STATUS wHP_NOTREADY wHP_REQUESTS wALERT_STATUS wEVENT_NEXT wEVENT_OVERWRITTEN wEVENT_PAGE wEVENT_SEQ
    wINJ_ARM wINJ_COUNT wINJ_RESULT wSRAM_CE wSRAM_UE qflt qinj qdict qports h
  intro t e j v ht
  rw [State.effect_store rfl]
  unfold State.store
  try dsimp only
  repeat' first
    | with_reducible assumption | with_reducible apply State.wr_frame | with_reducible apply State.wrInt_frame
    | with_reducible apply State.setFlag_frame | with_reducible apply State.modG_frame
    | with_reducible apply State.modE_frame | with_reducible apply State.inc_frame
    | with_reducible apply State.acceptTransition_frame

theorem own_LOCK_FORCE_frame {s : State} {w : Wr} {i : Nat} (hi : i < 64) (wALERT_STATUS : W .ALERT_STATUS)
    (wAUDIT_MERGED : W .AUDIT_MERGED) (wAUDIT_NEXT : W .AUDIT_NEXT) (wAUDIT_OK : W .AUDIT_OK)
    (wAUDIT_OVERWRITTEN : W .AUDIT_OVERWRITTEN) (wAUDIT_REFUSED : W .AUDIT_REFUSED) (wAUDIT_SEQ : W .AUDIT_SEQ)
    (wEVENT_NEXT : W .EVENT_NEXT) (wEVENT_OVERWRITTEN : W .EVENT_OVERWRITTEN) (wEVENT_PAGE : W .EVENT_PAGE)
    (wEVENT_SEQ : W .EVENT_SEQ) (wHP_DENIED : W .HP_DENIED) (wHP_ERRORS : W .HP_ERRORS)
    (wHP_LAST_STATUS : W .HP_LAST_STATUS) (wHP_NOTREADY : W .HP_NOTREADY) (wHP_REQUESTS : W .HP_REQUESTS)
    (wINJ_ARM : W .INJ_ARM) (wINJ_COUNT : W .INJ_COUNT) (wINJ_RESULT : W .INJ_RESULT) (wLOCK : W .LOCK)
    (wLOCK_CONTESTS : W .LOCK_CONTESTS) (wLOCK_PRIO : W .LOCK_PRIO) (wSRAM_CE : W .SRAM_CE) (wSRAM_UE : W .SRAM_UE)
    (qflt : Q .flt) (qinj : Q .inj) (qdict : Q .dict) (qports : Q .ports) (h : Fr W Q z s) :
    Fr W Q z (s.submitWrite (writeOf .LOCK_FORCE i w)) := by
  refine State.ownSubmit_frame (o := .LOCK_FORCE) (i := i) (addr_LOCK_FORCE i hi) rfl rfl (.inl fun _ _ => rfl) (.inl rfl) (fun _ _ _ ht => ht) ?_
    wAUDIT_MERGED wAUDIT_NEXT wAUDIT_OK wAUDIT_OVERWRITTEN wAUDIT_REFUSED wAUDIT_SEQ wHP_DENIED wHP_ERRORS
    wHP_LAST_STATUS wHP_NOTREADY wHP_REQUESTS wALERT_STATUS wEVENT_NEXT wEVENT_OVERWRITTEN wEVENT_PAGE wEVENT_SEQ
    wINJ_ARM wINJ_COUNT wINJ_RESULT wSRAM_CE wSRAM_UE qflt qinj qdict qports h
  intro t e j v ht
  rw [State.effect_command rfl rfl]
  unfold State.command
  dsimp only
  repeat' first
    | with_reducible assumption | with_reducible refine State.when_kept ?_ ?_ | with_reducible apply State.wr_frame
    | with_reducible apply State.wrInt_frame | with_reducible apply State.setFlag_frame
    | with_reducible apply State.modG_frame | with_reducible apply State.modE_frame
    | with_reducible apply State.inc_frame | with_reducible apply State.lockLose_frame
    | with_reducible apply State.noteLock_frame | split | dsimp only | intro _

theorem own_OP_TABLE_frame {s : State} {w : Wr} (wALERT_STATUS : W .ALERT_STATUS)
    (wAUDIT_MERGED : W .AUDIT_MERGED) (wAUDIT_NEXT : W .AUDIT_NEXT) (wAUDIT_OK : W .AUDIT_OK)
    (wAUDIT_OVERWRITTEN : W .AUDIT_OVERWRITTEN) (wAUDIT_REFUSED : W .AUDIT_REFUSED) (wAUDIT_SEQ : W .AUDIT_SEQ)
    (wEVENT_NEXT : W .EVENT_NEXT) (wEVENT_OVERWRITTEN : W .EVENT_OVERWRITTEN) (wEVENT_PAGE : W .EVENT_PAGE)
    (wEVENT_SEQ : W .EVENT_SEQ) (wHP_DENIED : W .HP_DENIED) (wHP_ERRORS : W .HP_ERRORS)
    (wHP_LAST_STATUS : W .HP_LAST_STATUS) (wHP_NOTREADY : W .HP_NOTREADY) (wHP_REQUESTS : W .HP_REQUESTS)
    (wINJ_ARM : W .INJ_ARM) (wINJ_COUNT : W .INJ_COUNT) (wINJ_RESULT : W .INJ_RESULT) (wOP_TABLE : W .OP_TABLE)
    (wPR_GROUP_TABLE : W .PR_GROUP_TABLE) (wSRAM_CE : W .SRAM_CE) (wSRAM_UE : W .SRAM_UE) (qflt : Q .flt)
    (qinj : Q .inj) (qgrp : Q .grp) (qdict : Q .dict) (qports : Q .ports) (h : Fr W Q z s) :
    Fr W Q z (s.submitWrite (writeOf .OP_TABLE 0 w)) := by
  refine State.ownSubmit_frame (o := .OP_TABLE) (i := 0) addr_OP_TABLE rfl rfl (.inl fun _ _ => rfl) (.inl rfl) (fun t e j ht => touch_opTable_frame ht wALERT_STATUS wEVENT_NEXT wEVENT_OVERWRITTEN wEVENT_PAGE wEVENT_SEQ wINJ_ARM wINJ_COUNT wINJ_RESULT wSRAM_CE wSRAM_UE qflt qinj) ?_
    wAUDIT_MERGED wAUDIT_NEXT wAUDIT_OK wAUDIT_OVERWRITTEN wAUDIT_REFUSED wAUDIT_SEQ wHP_DENIED wHP_ERRORS
    wHP_LAST_STATUS wHP_NOTREADY wHP_REQUESTS wALERT_STATUS wEVENT_NEXT wEVENT_OVERWRITTEN wEVENT_PAGE wEVENT_SEQ
    wINJ_ARM wINJ_COUNT wINJ_RESULT wSRAM_CE wSRAM_UE qflt qinj qdict qports h
  intro t e j v ht
  rw [State.effect_store rfl]
  unfold State.store
  try dsimp only
  repeat' first
    | with_reducible assumption | with_reducible apply State.wr_frame | with_reducible apply State.wrInt_frame
    | with_reducible apply State.setFlag_frame | with_reducible apply State.modG_frame
    | with_reducible apply State.modE_frame | with_reducible apply State.inc_frame
    | with_reducible apply State.writeTable_frame

theorem own_PERSIST_FLUSH_frame {s : State} {w : Wr} (wALERT_STATUS : W .ALERT_STATUS)
    (wAUDIT_MERGED : W .AUDIT_MERGED) (wAUDIT_NEXT : W .AUDIT_NEXT) (wAUDIT_OK : W .AUDIT_OK)
    (wAUDIT_OVERWRITTEN : W .AUDIT_OVERWRITTEN) (wAUDIT_REFUSED : W .AUDIT_REFUSED) (wAUDIT_SEQ : W .AUDIT_SEQ)
    (wEVENT_NEXT : W .EVENT_NEXT) (wEVENT_OVERWRITTEN : W .EVENT_OVERWRITTEN) (wEVENT_PAGE : W .EVENT_PAGE)
    (wEVENT_SEQ : W .EVENT_SEQ) (wFN_SNAP_DEFERRALS : W .FN_SNAP_DEFERRALS) (wFN_STATUS : W .FN_STATUS)
    (wHP_DENIED : W .HP_DENIED) (wHP_ERRORS : W .HP_ERRORS) (wHP_LAST_STATUS : W .HP_LAST_STATUS)
    (wHP_NOTREADY : W .HP_NOTREADY) (wHP_REQUESTS : W .HP_REQUESTS) (wINJ_ARM : W .INJ_ARM)
    (wINJ_COUNT : W .INJ_COUNT) (wINJ_RESULT : W .INJ_RESULT) (wPERSIST_DEFERRED : W .PERSIST_DEFERRED)
    (wPERSIST_FLUSH : W .PERSIST_FLUSH) (wSRAM_CE : W .SRAM_CE) (wSRAM_UE : W .SRAM_UE) (qflt : Q .flt)
    (qinj : Q .inj) (qdict : Q .dict) (qports : Q .ports) (qfon : Q .fon) (h : Fr W Q z s) :
    Fr W Q z (s.submitWrite (writeOf .PERSIST_FLUSH 0 w)) := by
  refine State.ownSubmit_frame (o := .PERSIST_FLUSH) (i := 0) addr_PERSIST_FLUSH rfl rfl (.inl fun _ _ => rfl) (.inl rfl) (fun _ _ _ ht => ht) ?_
    wAUDIT_MERGED wAUDIT_NEXT wAUDIT_OK wAUDIT_OVERWRITTEN wAUDIT_REFUSED wAUDIT_SEQ wHP_DENIED wHP_ERRORS
    wHP_LAST_STATUS wHP_NOTREADY wHP_REQUESTS wALERT_STATUS wEVENT_NEXT wEVENT_OVERWRITTEN wEVENT_PAGE wEVENT_SEQ
    wINJ_ARM wINJ_COUNT wINJ_RESULT wSRAM_CE wSRAM_UE qflt qinj qdict qports h
  intro t e j v ht
  rw [State.effect_flush]
  unfold State.command State.flushAgain
  dsimp only
  repeat' first
    | with_reducible assumption | with_reducible refine State.when_kept ?_ ?_ | with_reducible apply State.wr_frame
    | with_reducible apply State.wrInt_frame | with_reducible apply State.setFlag_frame
    | with_reducible apply State.modG_frame | with_reducible apply State.modE_frame
    | with_reducible apply State.inc_frame | with_reducible apply State.flushNow_frame | split | dsimp only | intro _

theorem own_PR_CLEAR_frame {s : State} {w : Wr} (wALERT_STATUS : W .ALERT_STATUS)
    (wAUDIT_MERGED : W .AUDIT_MERGED) (wAUDIT_NEXT : W .AUDIT_NEXT) (wAUDIT_OK : W .AUDIT_OK)
    (wAUDIT_OVERWRITTEN : W .AUDIT_OVERWRITTEN) (wAUDIT_REFUSED : W .AUDIT_REFUSED) (wAUDIT_SEQ : W .AUDIT_SEQ)
    (wEVENT_NEXT : W .EVENT_NEXT) (wEVENT_OVERWRITTEN : W .EVENT_OVERWRITTEN) (wEVENT_PAGE : W .EVENT_PAGE)
    (wEVENT_SEQ : W .EVENT_SEQ) (wHP_DENIED : W .HP_DENIED) (wHP_ERRORS : W .HP_ERRORS)
    (wHP_LAST_STATUS : W .HP_LAST_STATUS) (wHP_NOTREADY : W .HP_NOTREADY) (wHP_REQUESTS : W .HP_REQUESTS)
    (wINJ_ARM : W .INJ_ARM) (wINJ_COUNT : W .INJ_COUNT) (wINJ_RESULT : W .INJ_RESULT) (wPR_CUR_TAG : W .PR_CUR_TAG)
    (wPR_GROUP_TABLE : W .PR_GROUP_TABLE) (wSRAM_CE : W .SRAM_CE) (wSRAM_UE : W .SRAM_UE) (qflt : Q .flt)
    (qinj : Q .inj) (qgrp : Q .grp) (qdict : Q .dict) (qports : Q .ports) (qphase : Q .phase) (qfon : Q .fon)
    (h : Fr W Q z s) :
    Fr W Q z (s.submitWrite (writeOf .PR_CLEAR 0 w)) := by
  refine State.ownSubmit_frame (o := .PR_CLEAR) (i := 0) addr_PR_CLEAR rfl rfl (.inl fun _ _ => rfl) (.inl rfl) (fun _ _ _ ht => ht) ?_
    wAUDIT_MERGED wAUDIT_NEXT wAUDIT_OK wAUDIT_OVERWRITTEN wAUDIT_REFUSED wAUDIT_SEQ wHP_DENIED wHP_ERRORS
    wHP_LAST_STATUS wHP_NOTREADY wHP_REQUESTS wALERT_STATUS wEVENT_NEXT wEVENT_OVERWRITTEN wEVENT_PAGE wEVENT_SEQ
    wINJ_ARM wINJ_COUNT wINJ_RESULT wSRAM_CE wSRAM_UE qflt qinj qdict qports h
  intro t e j v ht
  rw [State.effect_command rfl rfl]
  unfold State.command
  dsimp only
  repeat' first
    | with_reducible assumption | with_reducible refine State.when_kept ?_ ?_ | with_reducible apply State.wr_frame
    | with_reducible apply State.wrInt_frame | with_reducible apply State.setFlag_frame
    | with_reducible apply State.modG_frame | with_reducible apply State.modE_frame
    | with_reducible apply State.inc_frame | with_reducible apply State.clearPraline_frame | split | dsimp only
    | intro _ | with_reducible apply Fr.lit | with_reducible exact Or.inl (by assumption)
    | with_reducible exact Or.inr rfl

theorem own_PR_POLICY_frame {s : State} {w : Wr} (wALERT_STATUS : W .ALERT_STATUS)
    (wAUDIT_MERGED : W .AUDIT_MERGED) (wAUDIT_NEXT : W .AUDIT_NEXT) (wAUDIT_OK : W .AUDIT_OK)
    (wAUDIT_OVERWRITTEN : W .AUDIT_OVERWRITTEN) (wAUDIT_REFUSED : W .AUDIT_REFUSED) (wAUDIT_SEQ : W .AUDIT_SEQ)
    (wEVENT_NEXT : W .EVENT_NEXT) (wEVENT_OVERWRITTEN : W .EVENT_OVERWRITTEN) (wEVENT_PAGE : W .EVENT_PAGE)
    (wEVENT_SEQ : W .EVENT_SEQ) (wHP_DENIED : W .HP_DENIED) (wHP_ERRORS : W .HP_ERRORS)
    (wHP_LAST_STATUS : W .HP_LAST_STATUS) (wHP_NOTREADY : W .HP_NOTREADY) (wHP_REQUESTS : W .HP_REQUESTS)
    (wINJ_ARM : W .INJ_ARM) (wINJ_COUNT : W .INJ_COUNT) (wINJ_RESULT : W .INJ_RESULT) (wPR_POLICY : W .PR_POLICY)
    (wPR_STATUS : W .PR_STATUS) (wSRAM_CE : W .SRAM_CE) (wSRAM_UE : W .SRAM_UE) (qflt : Q .flt) (qinj : Q .inj)
    (qgrp : Q .grp) (qdict : Q .dict) (qports : Q .ports) (h : Fr W Q z s) :
    Fr W Q z (s.submitWrite (writeOf .PR_POLICY 0 w)) := by
  refine State.ownSubmit_frame (o := .PR_POLICY) (i := 0) addr_PR_POLICY rfl rfl (.inl fun _ _ => rfl) (.inl rfl) (fun _ _ _ ht => ht) ?_
    wAUDIT_MERGED wAUDIT_NEXT wAUDIT_OK wAUDIT_OVERWRITTEN wAUDIT_REFUSED wAUDIT_SEQ wHP_DENIED wHP_ERRORS
    wHP_LAST_STATUS wHP_NOTREADY wHP_REQUESTS wALERT_STATUS wEVENT_NEXT wEVENT_OVERWRITTEN wEVENT_PAGE wEVENT_SEQ
    wINJ_ARM wINJ_COUNT wINJ_RESULT wSRAM_CE wSRAM_UE qflt qinj qdict qports h
  intro t e j v ht
  rw [State.effect_store rfl]
  unfold State.store
  try dsimp only
  repeat' first
    | with_reducible assumption | with_reducible apply State.wr_frame | with_reducible apply State.wrInt_frame
    | with_reducible apply State.setFlag_frame | with_reducible apply State.modG_frame
    | with_reducible apply State.modE_frame | with_reducible apply State.inc_frame
    | with_reducible apply State.writePolicy_frame

theorem own_PR_REARM_frame {s : State} {w : Wr} (wALERT_STATUS : W .ALERT_STATUS)
    (wAUDIT_MERGED : W .AUDIT_MERGED) (wAUDIT_NEXT : W .AUDIT_NEXT) (wAUDIT_OK : W .AUDIT_OK)
    (wAUDIT_OVERWRITTEN : W .AUDIT_OVERWRITTEN) (wAUDIT_REFUSED : W .AUDIT_REFUSED) (wAUDIT_SEQ : W .AUDIT_SEQ)
    (wEVENT_NEXT : W .EVENT_NEXT) (wEVENT_OVERWRITTEN : W .EVENT_OVERWRITTEN) (wEVENT_PAGE : W .EVENT_PAGE)
    (wEVENT_SEQ : W .EVENT_SEQ) (wHP_DENIED : W .HP_DENIED) (wHP_ERRORS : W .HP_ERRORS)
    (wHP_LAST_STATUS : W .HP_LAST_STATUS) (wHP_NOTREADY : W .HP_NOTREADY) (wHP_REQUESTS : W .HP_REQUESTS)
    (wINJ_ARM : W .INJ_ARM) (wINJ_COUNT : W .INJ_COUNT) (wINJ_RESULT : W .INJ_RESULT) (wPR_STATUS : W .PR_STATUS)
    (wSRAM_CE : W .SRAM_CE) (wSRAM_UE : W .SRAM_UE) (qflt : Q .flt) (qinj : Q .inj) (qgrp : Q .grp)
    (qdict : Q .dict) (qports : Q .ports) (h : Fr W Q z s) :
    Fr W Q z (s.submitWrite (writeOf .PR_REARM 0 w)) := by
  refine State.ownSubmit_frame (o := .PR_REARM) (i := 0) addr_PR_REARM rfl rfl (.inl fun _ _ => rfl) (.inl rfl) (fun _ _ _ ht => ht) ?_
    wAUDIT_MERGED wAUDIT_NEXT wAUDIT_OK wAUDIT_OVERWRITTEN wAUDIT_REFUSED wAUDIT_SEQ wHP_DENIED wHP_ERRORS
    wHP_LAST_STATUS wHP_NOTREADY wHP_REQUESTS wALERT_STATUS wEVENT_NEXT wEVENT_OVERWRITTEN wEVENT_PAGE wEVENT_SEQ
    wINJ_ARM wINJ_COUNT wINJ_RESULT wSRAM_CE wSRAM_UE qflt qinj qdict qports h
  intro t e j v ht
  rw [State.effect_command rfl rfl]
  unfold State.command
  dsimp only
  repeat' first
    | with_reducible assumption | with_reducible refine State.when_kept ?_ ?_ | with_reducible apply State.wr_frame
    | with_reducible apply State.wrInt_frame | with_reducible apply State.setFlag_frame
    | with_reducible apply State.modG_frame | with_reducible apply State.modE_frame
    | with_reducible apply State.inc_frame | with_reducible apply State.rearmPraline_frame | split | dsimp only
    | intro _

theorem own_RAIL_RECOVER_frame {s : State} {w : Wr} (wALERT_STATUS : W .ALERT_STATUS)
    (wAUDIT_MERGED : W .AUDIT_MERGED) (wAUDIT_NEXT : W .AUDIT_NEXT) (wAUDIT_OK : W .AUDIT_OK)
    (wAUDIT_OVERWRITTEN : W .AUDIT_OVERWRITTEN) (wAUDIT_REFUSED : W .AUDIT_REFUSED) (wAUDIT_SEQ : W .AUDIT_SEQ)
    (wEVENT_NEXT : W .EVENT_NEXT) (wEVENT_OVERWRITTEN : W .EVENT_OVERWRITTEN) (wEVENT_PAGE : W .EVENT_PAGE)
    (wEVENT_SEQ : W .EVENT_SEQ) (wHP_DENIED : W .HP_DENIED) (wHP_ERRORS : W .HP_ERRORS)
    (wHP_LAST_STATUS : W .HP_LAST_STATUS) (wHP_NOTREADY : W .HP_NOTREADY) (wHP_REQUESTS : W .HP_REQUESTS)
    (wINJ_ARM : W .INJ_ARM) (wINJ_COUNT : W .INJ_COUNT) (wINJ_RESULT : W .INJ_RESULT)
    (wRAIL_RECOVER : W .RAIL_RECOVER) (wRAIL_RETRIES : W .RAIL_RETRIES) (wRAIL_STATUS : W .RAIL_STATUS)
    (wSRAM_CE : W .SRAM_CE) (wSRAM_UE : W .SRAM_UE) (qflt : Q .flt) (qinj : Q .inj) (qlink : Q .link)
    (qrail : Q .rail) (qdict : Q .dict) (qports : Q .ports) (h : Fr W Q z s) :
    Fr W Q z (s.submitWrite (writeOf .RAIL_RECOVER 0 w)) := by
  refine State.ownSubmit_frame (o := .RAIL_RECOVER) (i := 0) addr_RAIL_RECOVER rfl rfl (.inl fun _ _ => rfl) (.inl rfl) (fun _ _ _ ht => ht) ?_
    wAUDIT_MERGED wAUDIT_NEXT wAUDIT_OK wAUDIT_OVERWRITTEN wAUDIT_REFUSED wAUDIT_SEQ wHP_DENIED wHP_ERRORS
    wHP_LAST_STATUS wHP_NOTREADY wHP_REQUESTS wALERT_STATUS wEVENT_NEXT wEVENT_OVERWRITTEN wEVENT_PAGE wEVENT_SEQ
    wINJ_ARM wINJ_COUNT wINJ_RESULT wSRAM_CE wSRAM_UE qflt qinj qdict qports h
  intro t e j v ht
  rw [State.effect_command rfl rfl]
  unfold State.command
  dsimp only
  repeat' first
    | with_reducible assumption | with_reducible refine State.when_kept ?_ ?_ | with_reducible apply State.wr_frame
    | with_reducible apply State.wrInt_frame | with_reducible apply State.setFlag_frame
    | with_reducible apply State.modG_frame | with_reducible apply State.modE_frame
    | with_reducible apply State.inc_frame | with_reducible apply State.acceptRecover_frame | split | dsimp only
    | intro _

theorem own_REF_PREFER_frame {s : State} {w : Wr} (wALERT_STATUS : W .ALERT_STATUS)
    (wAUDIT_MERGED : W .AUDIT_MERGED) (wAUDIT_NEXT : W .AUDIT_NEXT) (wAUDIT_OK : W .AUDIT_OK)
    (wAUDIT_OVERWRITTEN : W .AUDIT_OVERWRITTEN) (wAUDIT_REFUSED : W .AUDIT_REFUSED) (wAUDIT_SEQ : W .AUDIT_SEQ)
    (wCLOCK_SOURCE : W .CLOCK_SOURCE) (wEVENT_NEXT : W .EVENT_NEXT) (wEVENT_OVERWRITTEN : W .EVENT_OVERWRITTEN)
    (wEVENT_PAGE : W .EVENT_PAGE) (wEVENT_SEQ : W .EVENT_SEQ) (wHP_DENIED : W .HP_DENIED)
    (wHP_ERRORS : W .HP_ERRORS) (wHP_LAST_STATUS : W .HP_LAST_STATUS) (wHP_NOTREADY : W .HP_NOTREADY)
    (wHP_REQUESTS : W .HP_REQUESTS) (wINJ_ARM : W .INJ_ARM) (wINJ_COUNT : W .INJ_COUNT)
    (wINJ_RESULT : W .INJ_RESULT) (wOSC_STATUS : W .OSC_STATUS) (wREF_PREFER : W .REF_PREFER)
    (wREF_STATUS : W .REF_STATUS) (wREF_SWITCHES : W .REF_SWITCHES) (wSRAM_CE : W .SRAM_CE) (wSRAM_UE : W .SRAM_UE)
    (qclock : Q .clock) (qrefs : Q .refs) (qflt : Q .flt) (qinj : Q .inj) (qrgn : Q .rgn) (qdict : Q .dict)
    (qfreeN : Q .freeN) (qports : Q .ports) (h : Fr W Q z s) :
    Fr W Q z (s.submitWrite (writeOf .REF_PREFER 0 w)) := by
  refine State.ownSubmit_frame (o := .REF_PREFER) (i := 0) addr_REF_PREFER rfl rfl (.inl fun _ _ => rfl) (.inl rfl) (fun _ _ _ ht => ht) ?_
    wAUDIT_MERGED wAUDIT_NEXT wAUDIT_OK wAUDIT_OVERWRITTEN wAUDIT_REFUSED wAUDIT_SEQ wHP_DENIED wHP_ERRORS
    wHP_LAST_STATUS wHP_NOTREADY wHP_REQUESTS wALERT_STATUS wEVENT_NEXT wEVENT_OVERWRITTEN wEVENT_PAGE wEVENT_SEQ
    wINJ_ARM wINJ_COUNT wINJ_RESULT wSRAM_CE wSRAM_UE qflt qinj qdict qports h
  intro t e j v ht
  rw [State.effect_store rfl]
  unfold State.store
  try dsimp only
  repeat' first
    | with_reducible assumption | with_reducible apply State.wr_frame | with_reducible apply State.wrInt_frame
    | with_reducible apply State.setFlag_frame | with_reducible apply State.modG_frame
    | with_reducible apply State.modE_frame | with_reducible apply State.inc_frame
    | with_reducible apply State.prefer_frame

theorem own_REGION_PARTITION_frame {s : State} {w : Wr} (wALERT_STATUS : W .ALERT_STATUS)
    (wAUDIT_MERGED : W .AUDIT_MERGED) (wAUDIT_NEXT : W .AUDIT_NEXT) (wAUDIT_OK : W .AUDIT_OK)
    (wAUDIT_OVERWRITTEN : W .AUDIT_OVERWRITTEN) (wAUDIT_REFUSED : W .AUDIT_REFUSED) (wAUDIT_SEQ : W .AUDIT_SEQ)
    (wEVENT_NEXT : W .EVENT_NEXT) (wEVENT_OVERWRITTEN : W .EVENT_OVERWRITTEN) (wEVENT_PAGE : W .EVENT_PAGE)
    (wEVENT_SEQ : W .EVENT_SEQ) (wHP_DENIED : W .HP_DENIED) (wHP_ERRORS : W .HP_ERRORS)
    (wHP_LAST_STATUS : W .HP_LAST_STATUS) (wHP_NOTREADY : W .HP_NOTREADY) (wHP_REQUESTS : W .HP_REQUESTS)
    (wINJ_ARM : W .INJ_ARM) (wINJ_COUNT : W .INJ_COUNT) (wINJ_RESULT : W .INJ_RESULT)
    (wREGION_PARTITION : W .REGION_PARTITION) (wSRAM_CE : W .SRAM_CE) (wSRAM_UE : W .SRAM_UE) (qflt : Q .flt)
    (qinj : Q .inj) (qdict : Q .dict) (qports : Q .ports) (h : Fr W Q z s) :
    Fr W Q z (s.submitWrite (writeOf .REGION_PARTITION 0 w)) := by
  refine State.ownSubmit_frame (o := .REGION_PARTITION) (i := 0) addr_REGION_PARTITION rfl rfl (.inl fun _ _ => rfl) (.inl rfl) (fun _ _ _ ht => ht) ?_
    wAUDIT_MERGED wAUDIT_NEXT wAUDIT_OK wAUDIT_OVERWRITTEN wAUDIT_REFUSED wAUDIT_SEQ wHP_DENIED wHP_ERRORS
    wHP_LAST_STATUS wHP_NOTREADY wHP_REQUESTS wALERT_STATUS wEVENT_NEXT wEVENT_OVERWRITTEN wEVENT_PAGE wEVENT_SEQ
    wINJ_ARM wINJ_COUNT wINJ_RESULT wSRAM_CE wSRAM_UE qflt qinj qdict qports h
  intro t e j v ht
  exact State.wr_frame wREGION_PARTITION ht

theorem own_REGION_TARGET_N_frame {s : State} {w : Wr} (wALERT_STATUS : W .ALERT_STATUS)
    (wAUDIT_MERGED : W .AUDIT_MERGED) (wAUDIT_NEXT : W .AUDIT_NEXT) (wAUDIT_OK : W .AUDIT_OK)
    (wAUDIT_OVERWRITTEN : W .AUDIT_OVERWRITTEN) (wAUDIT_REFUSED : W .AUDIT_REFUSED) (wAUDIT_SEQ : W .AUDIT_SEQ)
    (wEVENT_NEXT : W .EVENT_NEXT) (wEVENT_OVERWRITTEN : W .EVENT_OVERWRITTEN) (wEVENT_PAGE : W .EVENT_PAGE)
    (wEVENT_SEQ : W .EVENT_SEQ) (wHP_DENIED : W .HP_DENIED) (wHP_ERRORS : W .HP_ERRORS)
    (wHP_LAST_STATUS : W .HP_LAST_STATUS) (wHP_NOTREADY : W .HP_NOTREADY) (wHP_REQUESTS : W .HP_REQUESTS)
    (wINJ_ARM : W .INJ_ARM) (wINJ_COUNT : W .INJ_COUNT) (wINJ_RESULT : W .INJ_RESULT)
    (wREGION_STOP_STATE : W .REGION_STOP_STATE) (wREGION_TARGET_N : W .REGION_TARGET_N) (wSRAM_CE : W .SRAM_CE)
    (wSRAM_UE : W .SRAM_UE) (qflt : Q .flt) (qinj : Q .inj) (qstop : Q .stop) (qdict : Q .dict) (qports : Q .ports)
    (h : Fr W Q z s) :
    Fr W Q z (s.submitWrite (writeOf .REGION_TARGET_N 0 w)) := by
  refine State.ownSubmit_frame (o := .REGION_TARGET_N) (i := 0) addr_REGION_TARGET_N rfl rfl (.inl fun _ _ => rfl) (.inl rfl) (fun _ _ _ ht => ht) ?_
    wAUDIT_MERGED wAUDIT_NEXT wAUDIT_OK wAUDIT_OVERWRITTEN wAUDIT_REFUSED wAUDIT_SEQ wHP_DENIED wHP_ERRORS
    wHP_LAST_STATUS wHP_NOTREADY wHP_REQUESTS wALERT_STATUS wEVENT_NEXT wEVENT_OVERWRITTEN wEVENT_PAGE wEVENT_SEQ
    wINJ_ARM wINJ_COUNT wINJ_RESULT wSRAM_CE wSRAM_UE qflt qinj qdict qports h
  intro t e j v ht
  rw [State.effect_store rfl]
  unfold State.store
  try dsimp only
  repeat' first
    | with_reducible assumption | with_reducible apply State.wr_frame | with_reducible apply State.wrInt_frame
    | with_reducible apply State.setFlag_frame | with_reducible apply State.modG_frame
    | with_reducible apply State.modE_frame | with_reducible apply State.inc_frame
    | with_reducible apply State.acceptStop_frame

theorem own_REPORT_SNAP_REQ_frame {s : State} {w : Wr} (wALERT_STATUS : W .ALERT_STATUS)
    (wAUDIT_MERGED : W .AUDIT_MERGED) (wAUDIT_NEXT : W .AUDIT_NEXT) (wAUDIT_OK : W .AUDIT_OK)
    (wAUDIT_OVERWRITTEN : W .AUDIT_OVERWRITTEN) (wAUDIT_REFUSED : W .AUDIT_REFUSED) (wAUDIT_SEQ : W .AUDIT_SEQ)
    (wEVENT_NEXT : W .EVENT_NEXT) (wEVENT_OVERWRITTEN : W .EVENT_OVERWRITTEN) (wEVENT_PAGE : W .EVENT_PAGE)
    (wEVENT_SEQ : W .EVENT_SEQ) (wHP_DENIED : W .HP_DENIED) (wHP_ERRORS : W .HP_ERRORS)
    (wHP_LAST_STATUS : W .HP_LAST_STATUS) (wHP_NOTREADY : W .HP_NOTREADY) (wHP_REQUESTS : W .HP_REQUESTS)
    (wINJ_ARM : W .INJ_ARM) (wINJ_COUNT : W .INJ_COUNT) (wINJ_RESULT : W .INJ_RESULT)
    (wREPORT_SNAP_REQ : W .REPORT_SNAP_REQ) (wSRAM_CE : W .SRAM_CE) (wSRAM_UE : W .SRAM_UE) (qflt : Q .flt)
    (qinj : Q .inj) (qdict : Q .dict) (qports : Q .ports) (qenergy : Q .energy) (h : Fr W Q z s) :
    Fr W Q z (s.submitWrite (writeOf .REPORT_SNAP_REQ 0 w)) := by
  refine State.ownSubmit_frame (o := .REPORT_SNAP_REQ) (i := 0) addr_REPORT_SNAP_REQ rfl rfl (.inl fun _ _ => rfl) (.inl rfl) (fun _ _ _ ht => ht) ?_
    wAUDIT_MERGED wAUDIT_NEXT wAUDIT_OK wAUDIT_OVERWRITTEN wAUDIT_REFUSED wAUDIT_SEQ wHP_DENIED wHP_ERRORS
    wHP_LAST_STATUS wHP_NOTREADY wHP_REQUESTS wALERT_STATUS wEVENT_NEXT wEVENT_OVERWRITTEN wEVENT_PAGE wEVENT_SEQ
    wINJ_ARM wINJ_COUNT wINJ_RESULT wSRAM_CE wSRAM_UE qflt qinj qdict qports h
  intro t e j v ht
  rw [State.effect_command rfl rfl]
  unfold State.command
  dsimp only
  repeat' first
    | with_reducible assumption | with_reducible refine State.when_kept ?_ ?_ | with_reducible apply State.wr_frame
    | with_reducible apply State.wrInt_frame | with_reducible apply State.setFlag_frame
    | with_reducible apply State.modG_frame | with_reducible apply State.modE_frame
    | with_reducible apply State.inc_frame | split | dsimp only | intro _ | with_reducible apply Fr.lit
    | with_reducible exact Or.inl (by assumption) | with_reducible exact Or.inr rfl

theorem own_RUN_CTL_frame {s : State} {w : Wr} (wALERT_STATUS : W .ALERT_STATUS)
    (wAUDIT_MERGED : W .AUDIT_MERGED) (wAUDIT_NEXT : W .AUDIT_NEXT) (wAUDIT_OK : W .AUDIT_OK)
    (wAUDIT_OVERWRITTEN : W .AUDIT_OVERWRITTEN) (wAUDIT_REFUSED : W .AUDIT_REFUSED) (wAUDIT_SEQ : W .AUDIT_SEQ)
    (wEVENT_NEXT : W .EVENT_NEXT) (wEVENT_OVERWRITTEN : W .EVENT_OVERWRITTEN) (wEVENT_PAGE : W .EVENT_PAGE)
    (wEVENT_SEQ : W .EVENT_SEQ) (wHP_DENIED : W .HP_DENIED) (wHP_ERRORS : W .HP_ERRORS)
    (wHP_LAST_STATUS : W .HP_LAST_STATUS) (wHP_NOTREADY : W .HP_NOTREADY) (wHP_REQUESTS : W .HP_REQUESTS)
    (wINJ_ARM : W .INJ_ARM) (wINJ_COUNT : W .INJ_COUNT) (wINJ_RESULT : W .INJ_RESULT) (wRUN_CTL : W .RUN_CTL)
    (wSRAM_CE : W .SRAM_CE) (wSRAM_UE : W .SRAM_UE) (qflt : Q .flt) (qinj : Q .inj) (qgrp : Q .grp)
    (qdict : Q .dict) (qports : Q .ports) (h : Fr W Q z s) :
    Fr W Q z (s.submitWrite (writeOf .RUN_CTL 0 w)) := by
  refine State.ownSubmit_frame (o := .RUN_CTL) (i := 0) addr_RUN_CTL rfl rfl (.inl fun _ _ => rfl) (.inl rfl) (fun _ _ _ ht => ht) ?_
    wAUDIT_MERGED wAUDIT_NEXT wAUDIT_OK wAUDIT_OVERWRITTEN wAUDIT_REFUSED wAUDIT_SEQ wHP_DENIED wHP_ERRORS
    wHP_LAST_STATUS wHP_NOTREADY wHP_REQUESTS wALERT_STATUS wEVENT_NEXT wEVENT_OVERWRITTEN wEVENT_PAGE wEVENT_SEQ
    wINJ_ARM wINJ_COUNT wINJ_RESULT wSRAM_CE wSRAM_UE qflt qinj qdict qports h
  intro t e j v ht
  rw [State.effect_store rfl]
  unfold State.store
  try dsimp only
  repeat' first
    | with_reducible assumption | with_reducible apply State.wr_frame | with_reducible apply State.wrInt_frame
    | with_reducible apply State.setFlag_frame | with_reducible apply State.modG_frame
    | with_reducible apply State.modE_frame | with_reducible apply State.inc_frame
    | with_reducible apply State.writeRun_frame

theorem own_SELF_RESET_REQ_frame {s : State} {w : Wr} (wALERT_STATUS : W .ALERT_STATUS)
    (wAUDIT_MERGED : W .AUDIT_MERGED) (wAUDIT_NEXT : W .AUDIT_NEXT) (wAUDIT_OK : W .AUDIT_OK)
    (wAUDIT_OVERWRITTEN : W .AUDIT_OVERWRITTEN) (wAUDIT_REFUSED : W .AUDIT_REFUSED) (wAUDIT_SEQ : W .AUDIT_SEQ)
    (wAUDIT_SUMMARIES : W .AUDIT_SUMMARIES) (wEVENT_NEXT : W .EVENT_NEXT)
    (wEVENT_OVERWRITTEN : W .EVENT_OVERWRITTEN) (wEVENT_PAGE : W .EVENT_PAGE) (wEVENT_SEQ : W .EVENT_SEQ)
    (wFN_SNAP_DEFERRALS : W .FN_SNAP_DEFERRALS) (wFN_STATUS : W .FN_STATUS) (wFN_THINNED : W .FN_THINNED)
    (wHP_DENIED : W .HP_DENIED) (wHP_ERRORS : W .HP_ERRORS) (wHP_LAST_STATUS : W .HP_LAST_STATUS)
    (wHP_NOTREADY : W .HP_NOTREADY) (wHP_REQUESTS : W .HP_REQUESTS) (wINJ_ARM : W .INJ_ARM)
    (wINJ_COUNT : W .INJ_COUNT) (wINJ_RESULT : W .INJ_RESULT) (wPERSIST_DEFERRED : W .PERSIST_DEFERRED)
    (wPERSIST_FLUSH : W .PERSIST_FLUSH) (wSELF_RESET_REQ : W .SELF_RESET_REQ) (wSRAM_CE : W .SRAM_CE)
    (wSRAM_UE : W .SRAM_UE) (qsu : Q .su) (qflt : Q .flt) (qinj : Q .inj) (qdict : Q .dict) (qports : Q .ports)
    (qfon : Q .fon) (h : Fr W Q z s) :
    Fr W Q z (s.submitWrite (writeOf .SELF_RESET_REQ 0 w)) := by
  refine State.ownSubmit_frame (o := .SELF_RESET_REQ) (i := 0) addr_SELF_RESET_REQ rfl rfl (.inl fun _ _ => rfl) (.inl rfl) (fun _ _ _ ht => ht) ?_
    wAUDIT_MERGED wAUDIT_NEXT wAUDIT_OK wAUDIT_OVERWRITTEN wAUDIT_REFUSED wAUDIT_SEQ wHP_DENIED wHP_ERRORS
    wHP_LAST_STATUS wHP_NOTREADY wHP_REQUESTS wALERT_STATUS wEVENT_NEXT wEVENT_OVERWRITTEN wEVENT_PAGE wEVENT_SEQ
    wINJ_ARM wINJ_COUNT wINJ_RESULT wSRAM_CE wSRAM_UE qflt qinj qdict qports h
  intro t e j v ht
  rw [State.effect_command rfl rfl]
  unfold State.command
  dsimp only
  repeat' first
    | with_reducible assumption | with_reducible refine State.when_kept ?_ ?_ | with_reducible apply State.wr_frame
    | with_reducible apply State.wrInt_frame | with_reducible apply State.setFlag_frame
    | with_reducible apply State.modG_frame | with_reducible apply State.modE_frame
    | with_reducible apply State.inc_frame | with_reducible apply State.askReset_frame | split | dsimp only | intro _

theorem own_TIME_OFFSET_ADJ_frame {s : State} {w : Wr} (wALERT_STATUS : W .ALERT_STATUS)
    (wAUDIT_MERGED : W .AUDIT_MERGED) (wAUDIT_NEXT : W .AUDIT_NEXT) (wAUDIT_OK : W .AUDIT_OK)
    (wAUDIT_OVERWRITTEN : W .AUDIT_OVERWRITTEN) (wAUDIT_REFUSED : W .AUDIT_REFUSED) (wAUDIT_SEQ : W .AUDIT_SEQ)
    (wEVENT_NEXT : W .EVENT_NEXT) (wEVENT_OVERWRITTEN : W .EVENT_OVERWRITTEN) (wEVENT_PAGE : W .EVENT_PAGE)
    (wEVENT_SEQ : W .EVENT_SEQ) (wHP_DENIED : W .HP_DENIED) (wHP_ERRORS : W .HP_ERRORS)
    (wHP_LAST_STATUS : W .HP_LAST_STATUS) (wHP_NOTREADY : W .HP_NOTREADY) (wHP_REQUESTS : W .HP_REQUESTS)
    (wINJ_ARM : W .INJ_ARM) (wINJ_COUNT : W .INJ_COUNT) (wINJ_RESULT : W .INJ_RESULT) (wSRAM_CE : W .SRAM_CE)
    (wSRAM_UE : W .SRAM_UE) (wTIME_OFFSET_ADJ : W .TIME_OFFSET_ADJ) (qflt : Q .flt) (qinj : Q .inj)
    (qdict : Q .dict) (qports : Q .ports) (h : Fr W Q z s) :
    Fr W Q z (s.submitWrite (writeOf .TIME_OFFSET_ADJ 0 w)) := by
  refine State.ownSubmit_frame (o := .TIME_OFFSET_ADJ) (i := 0) addr_TIME_OFFSET_ADJ rfl rfl (.inl fun _ _ => rfl) (.inl rfl) (fun _ _ _ ht => ht) ?_
    wAUDIT_MERGED wAUDIT_NEXT wAUDIT_OK wAUDIT_OVERWRITTEN wAUDIT_REFUSED wAUDIT_SEQ wHP_DENIED wHP_ERRORS
    wHP_LAST_STATUS wHP_NOTREADY wHP_REQUESTS wALERT_STATUS wEVENT_NEXT wEVENT_OVERWRITTEN wEVENT_PAGE wEVENT_SEQ
    wINJ_ARM wINJ_COUNT wINJ_RESULT wSRAM_CE wSRAM_UE qflt qinj qdict qports h
  intro t e j v ht
  rw [State.effect_store rfl]
  unfold State.store
  try dsimp only
  repeat' first
    | with_reducible assumption | with_reducible apply State.wr_frame | with_reducible apply State.wrInt_frame

theorem own_TIME_SET_frame {s : State} {w : Wr} (wALERT_STATUS : W .ALERT_STATUS)
    (wAUDIT_MERGED : W .AUDIT_MERGED) (wAUDIT_NEXT : W .AUDIT_NEXT) (wAUDIT_OK : W .AUDIT_OK)
    (wAUDIT_OVERWRITTEN : W .AUDIT_OVERWRITTEN) (wAUDIT_REFUSED : W .AUDIT_REFUSED) (wAUDIT_SEQ : W .AUDIT_SEQ)
    (wEVENT_NEXT : W .EVENT_NEXT) (wEVENT_OVERWRITTEN : W .EVENT_OVERWRITTEN) (wEVENT_PAGE : W .EVENT_PAGE)
    (wEVENT_SEQ : W .EVENT_SEQ) (wHP_DENIED : W .HP_DENIED) (wHP_ERRORS : W .HP_ERRORS)
    (wHP_LAST_STATUS : W .HP_LAST_STATUS) (wHP_NOTREADY : W .HP_NOTREADY) (wHP_REQUESTS : W .HP_REQUESTS)
    (wINJ_ARM : W .INJ_ARM) (wINJ_COUNT : W .INJ_COUNT) (wINJ_RESULT : W .INJ_RESULT) (wSRAM_CE : W .SRAM_CE)
    (wSRAM_UE : W .SRAM_UE) (wTIME_SET : W .TIME_SET) (wTIME_SETS : W .TIME_SETS) (qclock : Q .clock)
    (qflt : Q .flt) (qinj : Q .inj) (qdict : Q .dict) (qports : Q .ports) (h : Fr W Q z s) :
    Fr W Q z (s.submitWrite (writeOf .TIME_SET 0 w)) := by
  refine State.ownSubmit_frame (o := .TIME_SET) (i := 0) addr_TIME_SET rfl rfl (.inl fun _ _ => rfl) (.inl rfl) (fun _ _ _ ht => ht) ?_
    wAUDIT_MERGED wAUDIT_NEXT wAUDIT_OK wAUDIT_OVERWRITTEN wAUDIT_REFUSED wAUDIT_SEQ wHP_DENIED wHP_ERRORS
    wHP_LAST_STATUS wHP_NOTREADY wHP_REQUESTS wALERT_STATUS wEVENT_NEXT wEVENT_OVERWRITTEN wEVENT_PAGE wEVENT_SEQ
    wINJ_ARM wINJ_COUNT wINJ_RESULT wSRAM_CE wSRAM_UE qflt qinj qdict qports h
  intro t e j v ht
  rw [State.effect_store rfl]
  unfold State.store
  try dsimp only
  repeat' first
    | with_reducible assumption | with_reducible apply State.wr_frame | with_reducible apply State.wrInt_frame
    | with_reducible apply State.setFlag_frame | with_reducible apply State.modG_frame
    | with_reducible apply State.modE_frame | with_reducible apply State.inc_frame
    | with_reducible apply State.acceptTimeSet_frame

theorem own_XING_FENCE_frame {s : State} {w : Wr} (wALERT_STATUS : W .ALERT_STATUS)
    (wAUDIT_MERGED : W .AUDIT_MERGED) (wAUDIT_NEXT : W .AUDIT_NEXT) (wAUDIT_OK : W .AUDIT_OK)
    (wAUDIT_OVERWRITTEN : W .AUDIT_OVERWRITTEN) (wAUDIT_REFUSED : W .AUDIT_REFUSED) (wAUDIT_SEQ : W .AUDIT_SEQ)
    (wEVENT_NEXT : W .EVENT_NEXT) (wEVENT_OVERWRITTEN : W .EVENT_OVERWRITTEN) (wEVENT_PAGE : W .EVENT_PAGE)
    (wEVENT_SEQ : W .EVENT_SEQ) (wHP_DENIED : W .HP_DENIED) (wHP_ERRORS : W .HP_ERRORS)
    (wHP_LAST_STATUS : W .HP_LAST_STATUS) (wHP_NOTREADY : W .HP_NOTREADY) (wHP_REQUESTS : W .HP_REQUESTS)
    (wINJ_ARM : W .INJ_ARM) (wINJ_COUNT : W .INJ_COUNT) (wINJ_RESULT : W .INJ_RESULT) (wSRAM_CE : W .SRAM_CE)
    (wSRAM_UE : W .SRAM_UE) (wXING_FENCE : W .XING_FENCE) (qflt : Q .flt) (qinj : Q .inj) (qcell : Q .cell)
    (qdict : Q .dict) (qports : Q .ports) (h : Fr W Q z s) :
    Fr W Q z (s.submitWrite (writeOf .XING_FENCE 0 w)) := by
  refine State.ownSubmit_frame (o := .XING_FENCE) (i := 0) addr_XING_FENCE rfl rfl (.inl fun _ _ => rfl) (.inl rfl) (fun _ _ _ ht => ht) ?_
    wAUDIT_MERGED wAUDIT_NEXT wAUDIT_OK wAUDIT_OVERWRITTEN wAUDIT_REFUSED wAUDIT_SEQ wHP_DENIED wHP_ERRORS
    wHP_LAST_STATUS wHP_NOTREADY wHP_REQUESTS wALERT_STATUS wEVENT_NEXT wEVENT_OVERWRITTEN wEVENT_PAGE wEVENT_SEQ
    wINJ_ARM wINJ_COUNT wINJ_RESULT wSRAM_CE wSRAM_UE qflt qinj qdict qports h
  intro t e j v ht
  rw [State.effect_store rfl]
  unfold State.store
  try dsimp only
  repeat' first
    | with_reducible assumption | with_reducible apply State.wr_frame | with_reducible apply State.wrInt_frame
    | with_reducible apply State.setFlag_frame | with_reducible apply State.modG_frame
    | with_reducible apply State.modE_frame | with_reducible apply State.inc_frame
    | with_reducible apply State.applyFence_frame

theorem execSelfResetReq_frame {w : Wr} {s : State} (wALERT_STATUS : W .ALERT_STATUS)
    (wAUDIT_MERGED : W .AUDIT_MERGED) (wAUDIT_NEXT : W .AUDIT_NEXT) (wAUDIT_OK : W .AUDIT_OK)
    (wAUDIT_OVERWRITTEN : W .AUDIT_OVERWRITTEN) (wAUDIT_REFUSED : W .AUDIT_REFUSED) (wAUDIT_SEQ : W .AUDIT_SEQ)
    (wAUDIT_SUMMARIES : W .AUDIT_SUMMARIES) (wEVENT_NEXT : W .EVENT_NEXT)
    (wEVENT_OVERWRITTEN : W .EVENT_OVERWRITTEN) (wEVENT_PAGE : W .EVENT_PAGE) (wEVENT_SEQ : W .EVENT_SEQ)
    (wFN_SNAP_DEFERRALS : W .FN_SNAP_DEFERRALS) (wFN_STATUS : W .FN_STATUS) (wFN_THINNED : W .FN_THINNED)
    (wHP_DENIED : W .HP_DENIED) (wHP_ERRORS : W .HP_ERRORS) (wHP_LAST_STATUS : W .HP_LAST_STATUS)
    (wHP_NOTREADY : W .HP_NOTREADY) (wHP_REQUESTS : W .HP_REQUESTS) (wINJ_ARM : W .INJ_ARM)
    (wINJ_COUNT : W .INJ_COUNT) (wINJ_RESULT : W .INJ_RESULT) (wPERSIST_DEFERRED : W .PERSIST_DEFERRED)
    (wPERSIST_FLUSH : W .PERSIST_FLUSH) (wSELF_RESET_REQ : W .SELF_RESET_REQ) (wSRAM_CE : W .SRAM_CE)
    (wSRAM_UE : W .SRAM_UE) (qsu : Q .su) (qflt : Q .flt) (qinj : Q .inj) (qdict : Q .dict) (qports : Q .ports)
    (qfon : Q .fon) (h : Fr W Q z s) :
    ∀ t, execSelfResetReq w s = .next t → Fr W Q z t := by
  exact next_kept (by apply own_SELF_RESET_REQ_frame <;> assumption)

theorem execAlertAck_frame {w : Wr} {s : State} (wALERT_STATUS : W .ALERT_STATUS)
    (wAUDIT_MERGED : W .AUDIT_MERGED) (wAUDIT_NEXT : W .AUDIT_NEXT) (wAUDIT_OK : W .AUDIT_OK)
    (wAUDIT_OVERWRITTEN : W .AUDIT_OVERWRITTEN) (wAUDIT_REFUSED : W .AUDIT_REFUSED) (wAUDIT_SEQ : W .AUDIT_SEQ)
    (wEVENT_NEXT : W .EVENT_NEXT) (wEVENT_OVERWRITTEN : W .EVENT_OVERWRITTEN) (wEVENT_PAGE : W .EVENT_PAGE)
    (wEVENT_SEQ : W .EVENT_SEQ) (wHP_DENIED : W .HP_DENIED) (wHP_ERRORS : W .HP_ERRORS)
    (wHP_LAST_STATUS : W .HP_LAST_STATUS) (wHP_NOTREADY : W .HP_NOTREADY) (wHP_REQUESTS : W .HP_REQUESTS)
    (wINJ_ARM : W .INJ_ARM) (wINJ_COUNT : W .INJ_COUNT) (wINJ_RESULT : W .INJ_RESULT) (wSRAM_CE : W .SRAM_CE)
    (wSRAM_UE : W .SRAM_UE) (qflt : Q .flt) (qinj : Q .inj) (qdict : Q .dict) (qports : Q .ports) (h : Fr W Q z s) :
    ∀ t, execAlertAck w s = .next t → Fr W Q z t := by
  exact next_kept (by apply own_ALERT_ACK_frame <;> assumption)

theorem execDomainTarget_frame {w : Wr} {s : State} (wALERT_STATUS : W .ALERT_STATUS)
    (wAUDIT_MERGED : W .AUDIT_MERGED) (wAUDIT_NEXT : W .AUDIT_NEXT) (wAUDIT_OK : W .AUDIT_OK)
    (wAUDIT_OVERWRITTEN : W .AUDIT_OVERWRITTEN) (wAUDIT_REFUSED : W .AUDIT_REFUSED) (wAUDIT_SEQ : W .AUDIT_SEQ)
    (wDOMAIN_STATE : W .DOMAIN_STATE) (wDOMAIN_TARGET : W .DOMAIN_TARGET) (wEVENT_NEXT : W .EVENT_NEXT)
    (wEVENT_OVERWRITTEN : W .EVENT_OVERWRITTEN) (wEVENT_PAGE : W .EVENT_PAGE) (wEVENT_SEQ : W .EVENT_SEQ)
    (wHP_DENIED : W .HP_DENIED) (wHP_ERRORS : W .HP_ERRORS) (wHP_LAST_STATUS : W .HP_LAST_STATUS)
    (wHP_NOTREADY : W .HP_NOTREADY) (wHP_REQUESTS : W .HP_REQUESTS) (wINJ_ARM : W .INJ_ARM)
    (wINJ_COUNT : W .INJ_COUNT) (wINJ_RESULT : W .INJ_RESULT) (wMB_COUNT : W .MB_COUNT)
    (wMB_DISCARDS : W .MB_DISCARDS) (wSRAM_CE : W .SRAM_CE) (wSRAM_UE : W .SRAM_UE)
    (wSY_POST_OVERFLOW : W .SY_POST_OVERFLOW) (qflt : Q .flt) (qinj : Q .inj) (qcell : Q .cell) (qdom : Q .dom)
    (qpdWakes : Q .pdWakes) (qpdCmds : Q .pdCmds) (qdict : Q .dict) (qbox : Q .box) (qports : Q .ports)
    (h : Fr W Q z s) :
    ∀ t, execDomainTarget w s = .next t → Fr W Q z t := by
  exact next_kept (by apply own_DOMAIN_TARGET_frame <;> assumption)

theorem execRefPrefer_frame {w : Wr} {s : State} (wALERT_STATUS : W .ALERT_STATUS)
    (wAUDIT_MERGED : W .AUDIT_MERGED) (wAUDIT_NEXT : W .AUDIT_NEXT) (wAUDIT_OK : W .AUDIT_OK)
    (wAUDIT_OVERWRITTEN : W .AUDIT_OVERWRITTEN) (wAUDIT_REFUSED : W .AUDIT_REFUSED) (wAUDIT_SEQ : W .AUDIT_SEQ)
    (wCLOCK_SOURCE : W .CLOCK_SOURCE) (wEVENT_NEXT : W .EVENT_NEXT) (wEVENT_OVERWRITTEN : W .EVENT_OVERWRITTEN)
    (wEVENT_PAGE : W .EVENT_PAGE) (wEVENT_SEQ : W .EVENT_SEQ) (wHP_DENIED : W .HP_DENIED)
    (wHP_ERRORS : W .HP_ERRORS) (wHP_LAST_STATUS : W .HP_LAST_STATUS) (wHP_NOTREADY : W .HP_NOTREADY)
    (wHP_REQUESTS : W .HP_REQUESTS) (wINJ_ARM : W .INJ_ARM) (wINJ_COUNT : W .INJ_COUNT)
    (wINJ_RESULT : W .INJ_RESULT) (wOSC_STATUS : W .OSC_STATUS) (wREF_PREFER : W .REF_PREFER)
    (wREF_STATUS : W .REF_STATUS) (wREF_SWITCHES : W .REF_SWITCHES) (wSRAM_CE : W .SRAM_CE) (wSRAM_UE : W .SRAM_UE)
    (qclock : Q .clock) (qrefs : Q .refs) (qflt : Q .flt) (qinj : Q .inj) (qrgn : Q .rgn) (qdict : Q .dict)
    (qfreeN : Q .freeN) (qports : Q .ports) (h : Fr W Q z s) :
    ∀ t, execRefPrefer w s = .next t → Fr W Q z t := by
  exact next_kept (by apply own_REF_PREFER_frame <;> assumption)

theorem execTimeSet_frame {w : Wr} {s : State} (wALERT_STATUS : W .ALERT_STATUS)
    (wAUDIT_MERGED : W .AUDIT_MERGED) (wAUDIT_NEXT : W .AUDIT_NEXT) (wAUDIT_OK : W .AUDIT_OK)
    (wAUDIT_OVERWRITTEN : W .AUDIT_OVERWRITTEN) (wAUDIT_REFUSED : W .AUDIT_REFUSED) (wAUDIT_SEQ : W .AUDIT_SEQ)
    (wEVENT_NEXT : W .EVENT_NEXT) (wEVENT_OVERWRITTEN : W .EVENT_OVERWRITTEN) (wEVENT_PAGE : W .EVENT_PAGE)
    (wEVENT_SEQ : W .EVENT_SEQ) (wHP_DENIED : W .HP_DENIED) (wHP_ERRORS : W .HP_ERRORS)
    (wHP_LAST_STATUS : W .HP_LAST_STATUS) (wHP_NOTREADY : W .HP_NOTREADY) (wHP_REQUESTS : W .HP_REQUESTS)
    (wINJ_ARM : W .INJ_ARM) (wINJ_COUNT : W .INJ_COUNT) (wINJ_RESULT : W .INJ_RESULT) (wSRAM_CE : W .SRAM_CE)
    (wSRAM_UE : W .SRAM_UE) (wTIME_SET : W .TIME_SET) (wTIME_SETS : W .TIME_SETS) (qclock : Q .clock)
    (qflt : Q .flt) (qinj : Q .inj) (qdict : Q .dict) (qports : Q .ports) (h : Fr W Q z s) :
    ∀ t, execTimeSet w s = .next t → Fr W Q z t := by
  exact next_kept (by apply own_TIME_SET_frame <;> assumption)

theorem execTimeOffsetAdj_frame {w : Wr} {s : State} (wALERT_STATUS : W .ALERT_STATUS)
    (wAUDIT_MERGED : W .AUDIT_MERGED) (wAUDIT_NEXT : W .AUDIT_NEXT) (wAUDIT_OK : W .AUDIT_OK)
    (wAUDIT_OVERWRITTEN : W .AUDIT_OVERWRITTEN) (wAUDIT_REFUSED : W .AUDIT_REFUSED) (wAUDIT_SEQ : W .AUDIT_SEQ)
    (wEVENT_NEXT : W .EVENT_NEXT) (wEVENT_OVERWRITTEN : W .EVENT_OVERWRITTEN) (wEVENT_PAGE : W .EVENT_PAGE)
    (wEVENT_SEQ : W .EVENT_SEQ) (wHP_DENIED : W .HP_DENIED) (wHP_ERRORS : W .HP_ERRORS)
    (wHP_LAST_STATUS : W .HP_LAST_STATUS) (wHP_NOTREADY : W .HP_NOTREADY) (wHP_REQUESTS : W .HP_REQUESTS)
    (wINJ_ARM : W .INJ_ARM) (wINJ_COUNT : W .INJ_COUNT) (wINJ_RESULT : W .INJ_RESULT) (wSRAM_CE : W .SRAM_CE)
    (wSRAM_UE : W .SRAM_UE) (wTIME_OFFSET_ADJ : W .TIME_OFFSET_ADJ) (qflt : Q .flt) (qinj : Q .inj)
    (qdict : Q .dict) (qports : Q .ports) (h : Fr W Q z s) :
    ∀ t, execTimeOffsetAdj w s = .next t → Fr W Q z t := by
  exact next_kept (by apply own_TIME_OFFSET_ADJ_frame <;> assumption)

theorem execAgeSampleReq_frame {w : Wr} {s : State} (wAGE_SAMPLE_REQ : W .AGE_SAMPLE_REQ)
    (wALERT_STATUS : W .ALERT_STATUS) (wAUDIT_MERGED : W .AUDIT_MERGED) (wAUDIT_NEXT : W .AUDIT_NEXT)
    (wAUDIT_OK : W .AUDIT_OK) (wAUDIT_OVERWRITTEN : W .AUDIT_OVERWRITTEN) (wAUDIT_REFUSED : W .AUDIT_REFUSED)
    (wAUDIT_SEQ : W .AUDIT_SEQ) (wEVENT_NEXT : W .EVENT_NEXT) (wEVENT_OVERWRITTEN : W .EVENT_OVERWRITTEN)
    (wEVENT_PAGE : W .EVENT_PAGE) (wEVENT_SEQ : W .EVENT_SEQ) (wHP_DENIED : W .HP_DENIED)
    (wHP_ERRORS : W .HP_ERRORS) (wHP_LAST_STATUS : W .HP_LAST_STATUS) (wHP_NOTREADY : W .HP_NOTREADY)
    (wHP_REQUESTS : W .HP_REQUESTS) (wINJ_ARM : W .INJ_ARM) (wINJ_COUNT : W .INJ_COUNT)
    (wINJ_RESULT : W .INJ_RESULT) (wSRAM_CE : W .SRAM_CE) (wSRAM_UE : W .SRAM_UE) (qflt : Q .flt) (qinj : Q .inj)
    (qrgn : Q .rgn) (qdict : Q .dict) (qports : Q .ports) (h : Fr W Q z s) :
    ∀ t, execAgeSampleReq w s = .next t → Fr W Q z t := by
  exact next_kept (by apply own_AGE_SAMPLE_REQ_frame <;> assumption)

theorem execDsQuarantineClear_frame {w : Wr} {s : State} (wALERT_STATUS : W .ALERT_STATUS)
    (wAUDIT_MERGED : W .AUDIT_MERGED) (wAUDIT_NEXT : W .AUDIT_NEXT) (wAUDIT_OK : W .AUDIT_OK)
    (wAUDIT_OVERWRITTEN : W .AUDIT_OVERWRITTEN) (wAUDIT_REFUSED : W .AUDIT_REFUSED) (wAUDIT_SEQ : W .AUDIT_SEQ)
    (wDS_QUARANTINE : W .DS_QUARANTINE) (wDS_STATUS : W .DS_STATUS) (wEVENT_NEXT : W .EVENT_NEXT)
    (wEVENT_OVERWRITTEN : W .EVENT_OVERWRITTEN) (wEVENT_PAGE : W .EVENT_PAGE) (wEVENT_SEQ : W .EVENT_SEQ)
    (wHP_DENIED : W .HP_DENIED) (wHP_ERRORS : W .HP_ERRORS) (wHP_LAST_STATUS : W .HP_LAST_STATUS)
    (wHP_NOTREADY : W .HP_NOTREADY) (wHP_REQUESTS : W .HP_REQUESTS) (wINJ_ARM : W .INJ_ARM)
    (wINJ_COUNT : W .INJ_COUNT) (wINJ_RESULT : W .INJ_RESULT) (wSRAM_CE : W .SRAM_CE) (wSRAM_UE : W .SRAM_UE)
    (qflt : Q .flt) (qinj : Q .inj) (qrgn : Q .rgn) (qdict : Q .dict) (qports : Q .ports) (h : Fr W Q z s) :
    ∀ t, execDsQuarantineClear w s = .next t → Fr W Q z t := by
  exact next_kept (by apply own_DS_QUARANTINE_frame <;> assumption)

theorem execDsEnable_frame {w : Wr} {s : State} (wALERT_STATUS : W .ALERT_STATUS)
    (wAUDIT_MERGED : W .AUDIT_MERGED) (wAUDIT_NEXT : W .AUDIT_NEXT) (wAUDIT_OK : W .AUDIT_OK)
    (wAUDIT_OVERWRITTEN : W .AUDIT_OVERWRITTEN) (wAUDIT_REFUSED : W .AUDIT_REFUSED) (wAUDIT_SEQ : W .AUDIT_SEQ)
    (wDS_ENABLE : W .DS_ENABLE) (wDS_QUARANTINE : W .DS_QUARANTINE) (wDS_STATUS : W .DS_STATUS)
    (wEVENT_NEXT : W .EVENT_NEXT) (wEVENT_OVERWRITTEN : W .EVENT_OVERWRITTEN) (wEVENT_PAGE : W .EVENT_PAGE)
    (wEVENT_SEQ : W .EVENT_SEQ) (wHP_DENIED : W .HP_DENIED) (wHP_ERRORS : W .HP_ERRORS)
    (wHP_LAST_STATUS : W .HP_LAST_STATUS) (wHP_NOTREADY : W .HP_NOTREADY) (wHP_REQUESTS : W .HP_REQUESTS)
    (wINJ_ARM : W .INJ_ARM) (wINJ_COUNT : W .INJ_COUNT) (wINJ_RESULT : W .INJ_RESULT) (wSRAM_CE : W .SRAM_CE)
    (wSRAM_UE : W .SRAM_UE) (qflt : Q .flt) (qinj : Q .inj) (qrgn : Q .rgn) (qdict : Q .dict) (qports : Q .ports)
    (h : Fr W Q z s) :
    ∀ t, execDsEnable w s = .next t → Fr W Q z t := by
  exact next_kept (by apply own_DS_ENABLE_frame <;> assumption)

theorem execXingFence_frame {w : Wr} {s : State} (wALERT_STATUS : W .ALERT_STATUS)
    (wAUDIT_MERGED : W .AUDIT_MERGED) (wAUDIT_NEXT : W .AUDIT_NEXT) (wAUDIT_OK : W .AUDIT_OK)
    (wAUDIT_OVERWRITTEN : W .AUDIT_OVERWRITTEN) (wAUDIT_REFUSED : W .AUDIT_REFUSED) (wAUDIT_SEQ : W .AUDIT_SEQ)
    (wEVENT_NEXT : W .EVENT_NEXT) (wEVENT_OVERWRITTEN : W .EVENT_OVERWRITTEN) (wEVENT_PAGE : W .EVENT_PAGE)
    (wEVENT_SEQ : W .EVENT_SEQ) (wHP_DENIED : W .HP_DENIED) (wHP_ERRORS : W .HP_ERRORS)
    (wHP_LAST_STATUS : W .HP_LAST_STATUS) (wHP_NOTREADY : W .HP_NOTREADY) (wHP_REQUESTS : W .HP_REQUESTS)
    (wINJ_ARM : W .INJ_ARM) (wINJ_COUNT : W .INJ_COUNT) (wINJ_RESULT : W .INJ_RESULT) (wSRAM_CE : W .SRAM_CE)
    (wSRAM_UE : W .SRAM_UE) (wXING_FENCE : W .XING_FENCE) (qflt : Q .flt) (qinj : Q .inj) (qcell : Q .cell)
    (qdict : Q .dict) (qports : Q .ports) (h : Fr W Q z s) :
    ∀ t, execXingFence w s = .next t → Fr W Q z t := by
  exact next_kept (by apply own_XING_FENCE_frame <;> assumption)

theorem execRegionTargetN_frame {w : Wr} {s : State} (wALERT_STATUS : W .ALERT_STATUS)
    (wAUDIT_MERGED : W .AUDIT_MERGED) (wAUDIT_NEXT : W .AUDIT_NEXT) (wAUDIT_OK : W .AUDIT_OK)
    (wAUDIT_OVERWRITTEN : W .AUDIT_OVERWRITTEN) (wAUDIT_REFUSED : W .AUDIT_REFUSED) (wAUDIT_SEQ : W .AUDIT_SEQ)
    (wEVENT_NEXT : W .EVENT_NEXT) (wEVENT_OVERWRITTEN : W .EVENT_OVERWRITTEN) (wEVENT_PAGE : W .EVENT_PAGE)
    (wEVENT_SEQ : W .EVENT_SEQ) (wHP_DENIED : W .HP_DENIED) (wHP_ERRORS : W .HP_ERRORS)
    (wHP_LAST_STATUS : W .HP_LAST_STATUS) (wHP_NOTREADY : W .HP_NOTREADY) (wHP_REQUESTS : W .HP_REQUESTS)
    (wINJ_ARM : W .INJ_ARM) (wINJ_COUNT : W .INJ_COUNT) (wINJ_RESULT : W .INJ_RESULT)
    (wREGION_STOP_STATE : W .REGION_STOP_STATE) (wREGION_TARGET_N : W .REGION_TARGET_N) (wSRAM_CE : W .SRAM_CE)
    (wSRAM_UE : W .SRAM_UE) (qflt : Q .flt) (qinj : Q .inj) (qstop : Q .stop) (qdict : Q .dict) (qports : Q .ports)
    (h : Fr W Q z s) :
    ∀ t, execRegionTargetN w s = .next t → Fr W Q z t := by
  exact next_kept (by apply own_REGION_TARGET_N_frame <;> assumption)

theorem execCalResetReq_frame {w : Wr} {s : State} (wALERT_STATUS : W .ALERT_STATUS)
    (wAUDIT_MERGED : W .AUDIT_MERGED) (wAUDIT_NEXT : W .AUDIT_NEXT) (wAUDIT_OK : W .AUDIT_OK)
    (wAUDIT_OVERWRITTEN : W .AUDIT_OVERWRITTEN) (wAUDIT_REFUSED : W .AUDIT_REFUSED) (wAUDIT_SEQ : W .AUDIT_SEQ)
    (wEST_WEIGHT : W .EST_WEIGHT) (wEVENT_NEXT : W .EVENT_NEXT) (wEVENT_OVERWRITTEN : W .EVENT_OVERWRITTEN)
    (wEVENT_PAGE : W .EVENT_PAGE) (wEVENT_SEQ : W .EVENT_SEQ) (wHP_DENIED : W .HP_DENIED)
    (wHP_ERRORS : W .HP_ERRORS) (wHP_LAST_STATUS : W .HP_LAST_STATUS) (wHP_NOTREADY : W .HP_NOTREADY)
    (wHP_REQUESTS : W .HP_REQUESTS) (wINJ_ARM : W .INJ_ARM) (wINJ_COUNT : W .INJ_COUNT)
    (wINJ_RESULT : W .INJ_RESULT) (wSRAM_CE : W .SRAM_CE) (wSRAM_UE : W .SRAM_UE) (qflt : Q .flt) (qinj : Q .inj)
    (qest : Q .est) (qlane : Q .lane) (qdict : Q .dict) (qports : Q .ports) (h : Fr W Q z s) :
    ∀ t, execCalResetReq w s = .next t → Fr W Q z t := by
  exact next_kept (by apply own_CAL_RESET_REQ_frame <;> assumption)

theorem execEstWeightFactory_frame {w : Wr} {s : State} (wALERT_STATUS : W .ALERT_STATUS)
    (wAUDIT_MERGED : W .AUDIT_MERGED) (wAUDIT_NEXT : W .AUDIT_NEXT) (wAUDIT_OK : W .AUDIT_OK)
    (wAUDIT_OVERWRITTEN : W .AUDIT_OVERWRITTEN) (wAUDIT_REFUSED : W .AUDIT_REFUSED) (wAUDIT_SEQ : W .AUDIT_SEQ)
    (wEST_WEIGHT : W .EST_WEIGHT) (wEST_WEIGHT_FACTORY : W .EST_WEIGHT_FACTORY) (wEVENT_NEXT : W .EVENT_NEXT)
    (wEVENT_OVERWRITTEN : W .EVENT_OVERWRITTEN) (wEVENT_PAGE : W .EVENT_PAGE) (wEVENT_SEQ : W .EVENT_SEQ)
    (wHP_DENIED : W .HP_DENIED) (wHP_ERRORS : W .HP_ERRORS) (wHP_LAST_STATUS : W .HP_LAST_STATUS)
    (wHP_NOTREADY : W .HP_NOTREADY) (wHP_REQUESTS : W .HP_REQUESTS) (wINJ_ARM : W .INJ_ARM)
    (wINJ_COUNT : W .INJ_COUNT) (wINJ_RESULT : W .INJ_RESULT) (wSRAM_CE : W .SRAM_CE) (wSRAM_UE : W .SRAM_UE)
    (qflt : Q .flt) (qinj : Q .inj) (qest : Q .est) (qdict : Q .dict) (qports : Q .ports) (qfon : Q .fon)
    (h : Fr W Q z s) :
    ∀ t, execEstWeightFactory w s = .next t → Fr W Q z t := by
  exact next_kept (by apply own_EST_WEIGHT_FACTORY_frame <;> assumption)

theorem execEstShift_frame {w : Wr} {s : State} (wALERT_STATUS : W .ALERT_STATUS)
    (wAUDIT_MERGED : W .AUDIT_MERGED) (wAUDIT_NEXT : W .AUDIT_NEXT) (wAUDIT_OK : W .AUDIT_OK)
    (wAUDIT_OVERWRITTEN : W .AUDIT_OVERWRITTEN) (wAUDIT_REFUSED : W .AUDIT_REFUSED) (wAUDIT_SEQ : W .AUDIT_SEQ)
    (wEST_SHIFT : W .EST_SHIFT) (wEST_WEIGHT : W .EST_WEIGHT) (wEVENT_NEXT : W .EVENT_NEXT)
    (wEVENT_OVERWRITTEN : W .EVENT_OVERWRITTEN) (wEVENT_PAGE : W .EVENT_PAGE) (wEVENT_SEQ : W .EVENT_SEQ)
    (wHP_DENIED : W .HP_DENIED) (wHP_ERRORS : W .HP_ERRORS) (wHP_LAST_STATUS : W .HP_LAST_STATUS)
    (wHP_NOTREADY : W .HP_NOTREADY) (wHP_REQUESTS : W .HP_REQUESTS) (wINJ_ARM : W .INJ_ARM)
    (wINJ_COUNT : W .INJ_COUNT) (wINJ_RESULT : W .INJ_RESULT) (wSRAM_CE : W .SRAM_CE) (wSRAM_UE : W .SRAM_UE)
    (qflt : Q .flt) (qinj : Q .inj) (qest : Q .est) (qdict : Q .dict) (qports : Q .ports) (qfon : Q .fon)
    (h : Fr W Q z s) :
    ∀ t, execEstShift w s = .next t → Fr W Q z t := by
  exact next_kept (by apply own_EST_SHIFT_frame <;> assumption)

theorem execOpTable_frame {w : Wr} {s : State} (wALERT_STATUS : W .ALERT_STATUS)
    (wAUDIT_MERGED : W .AUDIT_MERGED) (wAUDIT_NEXT : W .AUDIT_NEXT) (wAUDIT_OK : W .AUDIT_OK)
    (wAUDIT_OVERWRITTEN : W .AUDIT_OVERWRITTEN) (wAUDIT_REFUSED : W .AUDIT_REFUSED) (wAUDIT_SEQ : W .AUDIT_SEQ)
    (wEVENT_NEXT : W .EVENT_NEXT) (wEVENT_OVERWRITTEN : W .EVENT_OVERWRITTEN) (wEVENT_PAGE : W .EVENT_PAGE)
    (wEVENT_SEQ : W .EVENT_SEQ) (wHP_DENIED : W .HP_DENIED) (wHP_ERRORS : W .HP_ERRORS)
    (wHP_LAST_STATUS : W .HP_LAST_STATUS) (wHP_NOTREADY : W .HP_NOTREADY) (wHP_REQUESTS : W .HP_REQUESTS)
    (wINJ_ARM : W .INJ_ARM) (wINJ_COUNT : W .INJ_COUNT) (wINJ_RESULT : W .INJ_RESULT) (wOP_TABLE : W .OP_TABLE)
    (wPR_GROUP_TABLE : W .PR_GROUP_TABLE) (wSRAM_CE : W .SRAM_CE) (wSRAM_UE : W .SRAM_UE) (qflt : Q .flt)
    (qinj : Q .inj) (qgrp : Q .grp) (qdict : Q .dict) (qports : Q .ports) (h : Fr W Q z s) :
    ∀ t, execOpTable w s = .next t → Fr W Q z t := by
  exact next_kept (by apply own_OP_TABLE_frame <;> assumption)

theorem execFixedRateEnable_frame {w : Wr} {s : State} (wALERT_STATUS : W .ALERT_STATUS)
    (wAUDIT_MERGED : W .AUDIT_MERGED) (wAUDIT_NEXT : W .AUDIT_NEXT) (wAUDIT_OK : W .AUDIT_OK)
    (wAUDIT_OVERWRITTEN : W .AUDIT_OVERWRITTEN) (wAUDIT_REFUSED : W .AUDIT_REFUSED) (wAUDIT_SEQ : W .AUDIT_SEQ)
    (wCAP_STATUS : W .CAP_STATUS) (wEVENT_NEXT : W .EVENT_NEXT) (wEVENT_OVERWRITTEN : W .EVENT_OVERWRITTEN)
    (wEVENT_PAGE : W .EVENT_PAGE) (wEVENT_SEQ : W .EVENT_SEQ) (wFIELD_VNEED : W .FIELD_VNEED)
    (wFIELD_VOLT : W .FIELD_VOLT) (wFIELD_VOLT_AT_CEIL : W .FIELD_VOLT_AT_CEIL)
    (wFIXED_RATE_ENABLE : W .FIXED_RATE_ENABLE) (wGROUP_CEIL_REASON : W .GROUP_CEIL_REASON)
    (wGROUP_CHG_ABORTS : W .GROUP_CHG_ABORTS) (wGROUP_CHG_RESULT : W .GROUP_CHG_RESULT)
    (wGROUP_CHG_STATE : W .GROUP_CHG_STATE) (wGROUP_TARGET_N : W .GROUP_TARGET_N) (wHP_DENIED : W .HP_DENIED)
    (wHP_ERRORS : W .HP_ERRORS) (wHP_LAST_STATUS : W .HP_LAST_STATUS) (wHP_NOTREADY : W .HP_NOTREADY)
    (wHP_REQUESTS : W .HP_REQUESTS) (wINJ_ARM : W .INJ_ARM) (wINJ_COUNT : W .INJ_COUNT)
    (wINJ_RESULT : W .INJ_RESULT) (wOP_CEIL_ENTRY : W .OP_CEIL_ENTRY) (wPR_CUR_TAG : W .PR_CUR_TAG)
    (wPR_DISCARDED : W .PR_DISCARDED) (wRAIL_RETRIES : W .RAIL_RETRIES) (wRAIL_STATUS : W .RAIL_STATUS)
    (wSRAM_CE : W .SRAM_CE) (wSRAM_UE : W .SRAM_UE) (qflt : Q .flt) (qinj : Q .inj) (qfld : Q .fld) (qgrp : Q .grp)
    (qlink : Q .link) (qrail : Q .rail) (qdict : Q .dict) (qports : Q .ports) (h : Fr W Q z s) :
    ∀ t, execFixedRateEnable w s = .next t → Fr W Q z t := by
  exact next_kept (by apply own_FIXED_RATE_ENABLE_frame <;> assumption)

theorem execFixedRateN_frame {w : Wr} {s : State} (wALERT_STATUS : W .ALERT_STATUS)
    (wAUDIT_MERGED : W .AUDIT_MERGED) (wAUDIT_NEXT : W .AUDIT_NEXT) (wAUDIT_OK : W .AUDIT_OK)
    (wAUDIT_OVERWRITTEN : W .AUDIT_OVERWRITTEN) (wAUDIT_REFUSED : W .AUDIT_REFUSED) (wAUDIT_SEQ : W .AUDIT_SEQ)
    (wEVENT_NEXT : W .EVENT_NEXT) (wEVENT_OVERWRITTEN : W .EVENT_OVERWRITTEN) (wEVENT_PAGE : W .EVENT_PAGE)
    (wEVENT_SEQ : W .EVENT_SEQ) (wFIELD_VNEED : W .FIELD_VNEED) (wFIELD_VOLT : W .FIELD_VOLT)
    (wFIELD_VOLT_AT_CEIL : W .FIELD_VOLT_AT_CEIL) (wFIXED_RATE_N : W .FIXED_RATE_N)
    (wGROUP_CEIL_REASON : W .GROUP_CEIL_REASON) (wGROUP_CHG_ABORTS : W .GROUP_CHG_ABORTS)
    (wGROUP_CHG_RESULT : W .GROUP_CHG_RESULT) (wGROUP_CHG_STATE : W .GROUP_CHG_STATE)
    (wGROUP_TARGET_N : W .GROUP_TARGET_N) (wHP_DENIED : W .HP_DENIED) (wHP_ERRORS : W .HP_ERRORS)
    (wHP_LAST_STATUS : W .HP_LAST_STATUS) (wHP_NOTREADY : W .HP_NOTREADY) (wHP_REQUESTS : W .HP_REQUESTS)
    (wINJ_ARM : W .INJ_ARM) (wINJ_COUNT : W .INJ_COUNT) (wINJ_RESULT : W .INJ_RESULT)
    (wOP_CEIL_ENTRY : W .OP_CEIL_ENTRY) (wRAIL_RETRIES : W .RAIL_RETRIES) (wRAIL_STATUS : W .RAIL_STATUS)
    (wSRAM_CE : W .SRAM_CE) (wSRAM_UE : W .SRAM_UE) (qflt : Q .flt) (qinj : Q .inj) (qfld : Q .fld) (qgrp : Q .grp)
    (qlink : Q .link) (qrail : Q .rail) (qdict : Q .dict) (qports : Q .ports) (h : Fr W Q z s) :
    ∀ t, execFixedRateN w s = .next t → Fr W Q z t := by
  exact next_kept (by apply own_FIXED_RATE_N_frame <;> assumption)

theorem execGroupShare_frame {w : Wr} {s : State} (wALERT_STATUS : W .ALERT_STATUS)
    (wAUDIT_MERGED : W .AUDIT_MERGED) (wAUDIT_NEXT : W .AUDIT_NEXT) (wAUDIT_OK : W .AUDIT_OK)
    (wAUDIT_OVERWRITTEN : W .AUDIT_OVERWRITTEN) (wAUDIT_REFUSED : W .AUDIT_REFUSED) (wAUDIT_SEQ : W .AUDIT_SEQ)
    (wEVENT_NEXT : W .EVENT_NEXT) (wEVENT_OVERWRITTEN : W .EVENT_OVERWRITTEN) (wEVENT_PAGE : W .EVENT_PAGE)
    (wEVENT_SEQ : W .EVENT_SEQ) (wGROUP_SHARE : W .GROUP_SHARE) (wHP_DENIED : W .HP_DENIED)
    (wHP_ERRORS : W .HP_ERRORS) (wHP_LAST_STATUS : W .HP_LAST_STATUS) (wHP_NOTREADY : W .HP_NOTREADY)
    (wHP_REQUESTS : W .HP_REQUESTS) (wINJ_ARM : W .INJ_ARM) (wINJ_COUNT : W .INJ_COUNT)
    (wINJ_RESULT : W .INJ_RESULT) (wSRAM_CE : W .SRAM_CE) (wSRAM_UE : W .SRAM_UE) (qflt : Q .flt) (qinj : Q .inj)
    (qdict : Q .dict) (qports : Q .ports) (h : Fr W Q z s) :
    ∀ t, execGroupShare w s = .next t → Fr W Q z t := by
  exact next_kept (by apply own_GROUP_SHARE_frame <;> assumption)

theorem execPrClear_frame {w : Wr} {s : State} (wALERT_STATUS : W .ALERT_STATUS)
    (wAUDIT_MERGED : W .AUDIT_MERGED) (wAUDIT_NEXT : W .AUDIT_NEXT) (wAUDIT_OK : W .AUDIT_OK)
    (wAUDIT_OVERWRITTEN : W .AUDIT_OVERWRITTEN) (wAUDIT_REFUSED : W .AUDIT_REFUSED) (wAUDIT_SEQ : W .AUDIT_SEQ)
    (wEVENT_NEXT : W .EVENT_NEXT) (wEVENT_OVERWRITTEN : W .EVENT_OVERWRITTEN) (wEVENT_PAGE : W .EVENT_PAGE)
    (wEVENT_SEQ : W .EVENT_SEQ) (wHP_DENIED : W .HP_DENIED) (wHP_ERRORS : W .HP_ERRORS)
    (wHP_LAST_STATUS : W .HP_LAST_STATUS) (wHP_NOTREADY : W .HP_NOTREADY) (wHP_REQUESTS : W .HP_REQUESTS)
    (wINJ_ARM : W .INJ_ARM) (wINJ_COUNT : W .INJ_COUNT) (wINJ_RESULT : W .INJ_RESULT) (wPR_CUR_TAG : W .PR_CUR_TAG)
    (wPR_GROUP_TABLE : W .PR_GROUP_TABLE) (wSRAM_CE : W .SRAM_CE) (wSRAM_UE : W .SRAM_UE) (qflt : Q .flt)
    (qinj : Q .inj) (qgrp : Q .grp) (qdict : Q .dict) (qports : Q .ports) (qphase : Q .phase) (qfon : Q .fon)
    (h : Fr W Q z s) :
    ∀ t, execPrClear w s = .next t → Fr W Q z t := by
  exact next_kept (by apply own_PR_CLEAR_frame <;> assumption)

theorem execPrRearm_frame {w : Wr} {s : State} (wALERT_STATUS : W .ALERT_STATUS)
    (wAUDIT_MERGED : W .AUDIT_MERGED) (wAUDIT_NEXT : W .AUDIT_NEXT) (wAUDIT_OK : W .AUDIT_OK)
    (wAUDIT_OVERWRITTEN : W .AUDIT_OVERWRITTEN) (wAUDIT_REFUSED : W .AUDIT_REFUSED) (wAUDIT_SEQ : W .AUDIT_SEQ)
    (wEVENT_NEXT : W .EVENT_NEXT) (wEVENT_OVERWRITTEN : W .EVENT_OVERWRITTEN) (wEVENT_PAGE : W .EVENT_PAGE)
    (wEVENT_SEQ : W .EVENT_SEQ) (wHP_DENIED : W .HP_DENIED) (wHP_ERRORS : W .HP_ERRORS)
    (wHP_LAST_STATUS : W .HP_LAST_STATUS) (wHP_NOTREADY : W .HP_NOTREADY) (wHP_REQUESTS : W .HP_REQUESTS)
    (wINJ_ARM : W .INJ_ARM) (wINJ_COUNT : W .INJ_COUNT) (wINJ_RESULT : W .INJ_RESULT) (wPR_STATUS : W .PR_STATUS)
    (wSRAM_CE : W .SRAM_CE) (wSRAM_UE : W .SRAM_UE) (qflt : Q .flt) (qinj : Q .inj) (qgrp : Q .grp)
    (qdict : Q .dict) (qports : Q .ports) (h : Fr W Q z s) :
    ∀ t, execPrRearm w s = .next t → Fr W Q z t := by
  exact next_kept (by apply own_PR_REARM_frame <;> assumption)

theorem execPrPolicy_frame {w : Wr} {s : State} (wALERT_STATUS : W .ALERT_STATUS)
    (wAUDIT_MERGED : W .AUDIT_MERGED) (wAUDIT_NEXT : W .AUDIT_NEXT) (wAUDIT_OK : W .AUDIT_OK)
    (wAUDIT_OVERWRITTEN : W .AUDIT_OVERWRITTEN) (wAUDIT_REFUSED : W .AUDIT_REFUSED) (wAUDIT_SEQ : W .AUDIT_SEQ)
    (wEVENT_NEXT : W .EVENT_NEXT) (wEVENT_OVERWRITTEN : W .EVENT_OVERWRITTEN) (wEVENT_PAGE : W .EVENT_PAGE)
    (wEVENT_SEQ : W .EVENT_SEQ) (wHP_DENIED : W .HP_DENIED) (wHP_ERRORS : W .HP_ERRORS)
    (wHP_LAST_STATUS : W .HP_LAST_STATUS) (wHP_NOTREADY : W .HP_NOTREADY) (wHP_REQUESTS : W .HP_REQUESTS)
    (wINJ_ARM : W .INJ_ARM) (wINJ_COUNT : W .INJ_COUNT) (wINJ_RESULT : W .INJ_RESULT) (wPR_POLICY : W .PR_POLICY)
    (wPR_STATUS : W .PR_STATUS) (wSRAM_CE : W .SRAM_CE) (wSRAM_UE : W .SRAM_UE) (qflt : Q .flt) (qinj : Q .inj)
    (qgrp : Q .grp) (qdict : Q .dict) (qports : Q .ports) (h : Fr W Q z s) :
    ∀ t, execPrPolicy w s = .next t → Fr W Q z t := by
  exact next_kept (by apply own_PR_POLICY_frame <;> assumption)

theorem execBxEpochLoad_frame {w : Wr} {s : State} (wALERT_STATUS : W .ALERT_STATUS)
    (wAUDIT_MERGED : W .AUDIT_MERGED) (wAUDIT_NEXT : W .AUDIT_NEXT) (wAUDIT_OK : W .AUDIT_OK)
    (wAUDIT_OVERWRITTEN : W .AUDIT_OVERWRITTEN) (wAUDIT_REFUSED : W .AUDIT_REFUSED) (wAUDIT_SEQ : W .AUDIT_SEQ)
    (wBX_EPOCH_LOAD : W .BX_EPOCH_LOAD) (wEVENT_NEXT : W .EVENT_NEXT) (wEVENT_OVERWRITTEN : W .EVENT_OVERWRITTEN)
    (wEVENT_PAGE : W .EVENT_PAGE) (wEVENT_SEQ : W .EVENT_SEQ) (wHP_DENIED : W .HP_DENIED)
    (wHP_ERRORS : W .HP_ERRORS) (wHP_LAST_STATUS : W .HP_LAST_STATUS) (wHP_NOTREADY : W .HP_NOTREADY)
    (wHP_REQUESTS : W .HP_REQUESTS) (wINJ_ARM : W .INJ_ARM) (wINJ_COUNT : W .INJ_COUNT)
    (wINJ_RESULT : W .INJ_RESULT) (wSRAM_CE : W .SRAM_CE) (wSRAM_UE : W .SRAM_UE) (qflt : Q .flt) (qinj : Q .inj)
    (qdict : Q .dict) (qports : Q .ports) (qbudget : Q .budget) (h : Fr W Q z s) :
    ∀ t, execBxEpochLoad w s = .next t → Fr W Q z t := by
  exact next_kept (by apply own_BX_EPOCH_LOAD_frame <;> assumption)

theorem execRegionPartition_frame {w : Wr} {s : State} (wALERT_STATUS : W .ALERT_STATUS)
    (wAUDIT_MERGED : W .AUDIT_MERGED) (wAUDIT_NEXT : W .AUDIT_NEXT) (wAUDIT_OK : W .AUDIT_OK)
    (wAUDIT_OVERWRITTEN : W .AUDIT_OVERWRITTEN) (wAUDIT_REFUSED : W .AUDIT_REFUSED) (wAUDIT_SEQ : W .AUDIT_SEQ)
    (wEVENT_NEXT : W .EVENT_NEXT) (wEVENT_OVERWRITTEN : W .EVENT_OVERWRITTEN) (wEVENT_PAGE : W .EVENT_PAGE)
    (wEVENT_SEQ : W .EVENT_SEQ) (wHP_DENIED : W .HP_DENIED) (wHP_ERRORS : W .HP_ERRORS)
    (wHP_LAST_STATUS : W .HP_LAST_STATUS) (wHP_NOTREADY : W .HP_NOTREADY) (wHP_REQUESTS : W .HP_REQUESTS)
    (wINJ_ARM : W .INJ_ARM) (wINJ_COUNT : W .INJ_COUNT) (wINJ_RESULT : W .INJ_RESULT)
    (wREGION_PARTITION : W .REGION_PARTITION) (wSRAM_CE : W .SRAM_CE) (wSRAM_UE : W .SRAM_UE) (qflt : Q .flt)
    (qinj : Q .inj) (qdict : Q .dict) (qports : Q .ports) (h : Fr W Q z s) :
    ∀ t, execRegionPartition w s = .next t → Fr W Q z t := by
  exact next_kept (by apply own_REGION_PARTITION_frame <;> assumption)

theorem execReportSnapReq_frame {w : Wr} {s : State} (wALERT_STATUS : W .ALERT_STATUS)
    (wAUDIT_MERGED : W .AUDIT_MERGED) (wAUDIT_NEXT : W .AUDIT_NEXT) (wAUDIT_OK : W .AUDIT_OK)
    (wAUDIT_OVERWRITTEN : W .AUDIT_OVERWRITTEN) (wAUDIT_REFUSED : W .AUDIT_REFUSED) (wAUDIT_SEQ : W .AUDIT_SEQ)
    (wEVENT_NEXT : W .EVENT_NEXT) (wEVENT_OVERWRITTEN : W .EVENT_OVERWRITTEN) (wEVENT_PAGE : W .EVENT_PAGE)
    (wEVENT_SEQ : W .EVENT_SEQ) (wHP_DENIED : W .HP_DENIED) (wHP_ERRORS : W .HP_ERRORS)
    (wHP_LAST_STATUS : W .HP_LAST_STATUS) (wHP_NOTREADY : W .HP_NOTREADY) (wHP_REQUESTS : W .HP_REQUESTS)
    (wINJ_ARM : W .INJ_ARM) (wINJ_COUNT : W .INJ_COUNT) (wINJ_RESULT : W .INJ_RESULT)
    (wREPORT_SNAP_REQ : W .REPORT_SNAP_REQ) (wSRAM_CE : W .SRAM_CE) (wSRAM_UE : W .SRAM_UE) (qflt : Q .flt)
    (qinj : Q .inj) (qdict : Q .dict) (qports : Q .ports) (qenergy : Q .energy) (h : Fr W Q z s) :
    ∀ t, execReportSnapReq w s = .next t → Fr W Q z t := by
  exact next_kept (by apply own_REPORT_SNAP_REQ_frame <;> assumption)

theorem execRailRecover_frame {w : Wr} {s : State} (wALERT_STATUS : W .ALERT_STATUS)
    (wAUDIT_MERGED : W .AUDIT_MERGED) (wAUDIT_NEXT : W .AUDIT_NEXT) (wAUDIT_OK : W .AUDIT_OK)
    (wAUDIT_OVERWRITTEN : W .AUDIT_OVERWRITTEN) (wAUDIT_REFUSED : W .AUDIT_REFUSED) (wAUDIT_SEQ : W .AUDIT_SEQ)
    (wEVENT_NEXT : W .EVENT_NEXT) (wEVENT_OVERWRITTEN : W .EVENT_OVERWRITTEN) (wEVENT_PAGE : W .EVENT_PAGE)
    (wEVENT_SEQ : W .EVENT_SEQ) (wHP_DENIED : W .HP_DENIED) (wHP_ERRORS : W .HP_ERRORS)
    (wHP_LAST_STATUS : W .HP_LAST_STATUS) (wHP_NOTREADY : W .HP_NOTREADY) (wHP_REQUESTS : W .HP_REQUESTS)
    (wINJ_ARM : W .INJ_ARM) (wINJ_COUNT : W .INJ_COUNT) (wINJ_RESULT : W .INJ_RESULT)
    (wRAIL_RECOVER : W .RAIL_RECOVER) (wRAIL_RETRIES : W .RAIL_RETRIES) (wRAIL_STATUS : W .RAIL_STATUS)
    (wSRAM_CE : W .SRAM_CE) (wSRAM_UE : W .SRAM_UE) (qflt : Q .flt) (qinj : Q .inj) (qlink : Q .link)
    (qrail : Q .rail) (qdict : Q .dict) (qports : Q .ports) (h : Fr W Q z s) :
    ∀ t, execRailRecover w s = .next t → Fr W Q z t := by
  exact next_kept (by apply own_RAIL_RECOVER_frame <;> assumption)

theorem execExpertUnlock_frame {w : Wr} {s : State} (wALERT_STATUS : W .ALERT_STATUS)
    (wAUDIT_MERGED : W .AUDIT_MERGED) (wAUDIT_NEXT : W .AUDIT_NEXT) (wAUDIT_OK : W .AUDIT_OK)
    (wAUDIT_OVERWRITTEN : W .AUDIT_OVERWRITTEN) (wAUDIT_REFUSED : W .AUDIT_REFUSED) (wAUDIT_SEQ : W .AUDIT_SEQ)
    (wEVENT_NEXT : W .EVENT_NEXT) (wEVENT_OVERWRITTEN : W .EVENT_OVERWRITTEN) (wEVENT_PAGE : W .EVENT_PAGE)
    (wEVENT_SEQ : W .EVENT_SEQ) (wEXPERT_UNLOCK : W .EXPERT_UNLOCK) (wEXPERT_UNLOCKS : W .EXPERT_UNLOCKS)
    (wHP_DENIED : W .HP_DENIED) (wHP_ERRORS : W .HP_ERRORS) (wHP_LAST_STATUS : W .HP_LAST_STATUS)
    (wHP_NOTREADY : W .HP_NOTREADY) (wHP_REQUESTS : W .HP_REQUESTS) (wINJ_ARM : W .INJ_ARM)
    (wINJ_COUNT : W .INJ_COUNT) (wINJ_RESULT : W .INJ_RESULT) (wSRAM_CE : W .SRAM_CE) (wSRAM_UE : W .SRAM_UE)
    (qflt : Q .flt) (qinj : Q .inj) (qdict : Q .dict) (qports : Q .ports) (h : Fr W Q z s) :
    ∀ t, execExpertUnlock w s = .next t → Fr W Q z t := by
  exact next_kept (by apply own_EXPERT_UNLOCK_frame <;> assumption)

theorem execPersistFlush_frame {w : Wr} {s : State} (wALERT_STATUS : W .ALERT_STATUS)
    (wAUDIT_MERGED : W .AUDIT_MERGED) (wAUDIT_NEXT : W .AUDIT_NEXT) (wAUDIT_OK : W .AUDIT_OK)
    (wAUDIT_OVERWRITTEN : W .AUDIT_OVERWRITTEN) (wAUDIT_REFUSED : W .AUDIT_REFUSED) (wAUDIT_SEQ : W .AUDIT_SEQ)
    (wEVENT_NEXT : W .EVENT_NEXT) (wEVENT_OVERWRITTEN : W .EVENT_OVERWRITTEN) (wEVENT_PAGE : W .EVENT_PAGE)
    (wEVENT_SEQ : W .EVENT_SEQ) (wFN_SNAP_DEFERRALS : W .FN_SNAP_DEFERRALS) (wFN_STATUS : W .FN_STATUS)
    (wHP_DENIED : W .HP_DENIED) (wHP_ERRORS : W .HP_ERRORS) (wHP_LAST_STATUS : W .HP_LAST_STATUS)
    (wHP_NOTREADY : W .HP_NOTREADY) (wHP_REQUESTS : W .HP_REQUESTS) (wINJ_ARM : W .INJ_ARM)
    (wINJ_COUNT : W .INJ_COUNT) (wINJ_RESULT : W .INJ_RESULT) (wPERSIST_DEFERRED : W .PERSIST_DEFERRED)
    (wPERSIST_FLUSH : W .PERSIST_FLUSH) (wSRAM_CE : W .SRAM_CE) (wSRAM_UE : W .SRAM_UE) (qflt : Q .flt)
    (qinj : Q .inj) (qdict : Q .dict) (qports : Q .ports) (qfon : Q .fon) (h : Fr W Q z s) :
    ∀ t, execPersistFlush w s = .next t → Fr W Q z t := by
  exact next_kept (by apply own_PERSIST_FLUSH_frame <;> assumption)

theorem execFnSnapReq_frame {w : Wr} {s : State} (wALERT_STATUS : W .ALERT_STATUS)
    (wAUDIT_MERGED : W .AUDIT_MERGED) (wAUDIT_NEXT : W .AUDIT_NEXT) (wAUDIT_OK : W .AUDIT_OK)
    (wAUDIT_OVERWRITTEN : W .AUDIT_OVERWRITTEN) (wAUDIT_REFUSED : W .AUDIT_REFUSED) (wAUDIT_SEQ : W .AUDIT_SEQ)
    (wEVENT_NEXT : W .EVENT_NEXT) (wEVENT_OVERWRITTEN : W .EVENT_OVERWRITTEN) (wEVENT_PAGE : W .EVENT_PAGE)
    (wEVENT_SEQ : W .EVENT_SEQ) (wFN_SNAP_DEFERRALS : W .FN_SNAP_DEFERRALS) (wFN_SNAP_REQ : W .FN_SNAP_REQ)
    (wFN_STATUS : W .FN_STATUS) (wHP_DENIED : W .HP_DENIED) (wHP_ERRORS : W .HP_ERRORS)
    (wHP_LAST_STATUS : W .HP_LAST_STATUS) (wHP_NOTREADY : W .HP_NOTREADY) (wHP_REQUESTS : W .HP_REQUESTS)
    (wINJ_ARM : W .INJ_ARM) (wINJ_COUNT : W .INJ_COUNT) (wINJ_RESULT : W .INJ_RESULT)
    (wPERSIST_DEFERRED : W .PERSIST_DEFERRED) (wPERSIST_FLUSH : W .PERSIST_FLUSH) (wSRAM_CE : W .SRAM_CE)
    (wSRAM_UE : W .SRAM_UE) (qflt : Q .flt) (qinj : Q .inj) (qdict : Q .dict) (qports : Q .ports) (qfon : Q .fon)
    (h : Fr W Q z s) :
    ∀ t, execFnSnapReq w s = .next t → Fr W Q z t := by
  exact next_kept (by apply own_FN_SNAP_REQ_frame <;> assumption)

theorem execLcArm_frame {w : Wr} {s : State} (wALERT_STATUS : W .ALERT_STATUS) (wAUDIT_MERGED : W .AUDIT_MERGED)
    (wAUDIT_NEXT : W .AUDIT_NEXT) (wAUDIT_OK : W .AUDIT_OK) (wAUDIT_OVERWRITTEN : W .AUDIT_OVERWRITTEN)
    (wAUDIT_REFUSED : W .AUDIT_REFUSED) (wAUDIT_SEQ : W .AUDIT_SEQ) (wEVENT_NEXT : W .EVENT_NEXT)
    (wEVENT_OVERWRITTEN : W .EVENT_OVERWRITTEN) (wEVENT_PAGE : W .EVENT_PAGE) (wEVENT_SEQ : W .EVENT_SEQ)
    (wHP_DENIED : W .HP_DENIED) (wHP_ERRORS : W .HP_ERRORS) (wHP_LAST_STATUS : W .HP_LAST_STATUS)
    (wHP_NOTREADY : W .HP_NOTREADY) (wHP_REQUESTS : W .HP_REQUESTS) (wINJ_ARM : W .INJ_ARM)
    (wINJ_COUNT : W .INJ_COUNT) (wINJ_RESULT : W .INJ_RESULT) (wLC_ARM : W .LC_ARM) (wSRAM_CE : W .SRAM_CE)
    (wSRAM_UE : W .SRAM_UE) (qflt : Q .flt) (qinj : Q .inj) (qdict : Q .dict) (qports : Q .ports) (qfon : Q .fon)
    (h : Fr W Q z s) :
    ∀ t, execLcArm w s = .next t → Fr W Q z t := by
  exact next_kept (by apply own_LC_ARM_frame <;> assumption)

theorem execLcRequest_frame {w : Wr} {s : State} (wALERT_STATUS : W .ALERT_STATUS)
    (wAUDIT_MERGED : W .AUDIT_MERGED) (wAUDIT_NEXT : W .AUDIT_NEXT) (wAUDIT_OK : W .AUDIT_OK)
    (wAUDIT_OVERWRITTEN : W .AUDIT_OVERWRITTEN) (wAUDIT_REFUSED : W .AUDIT_REFUSED) (wAUDIT_SEQ : W .AUDIT_SEQ)
    (wEVENT_NEXT : W .EVENT_NEXT) (wEVENT_OVERWRITTEN : W .EVENT_OVERWRITTEN) (wEVENT_PAGE : W .EVENT_PAGE)
    (wEVENT_SEQ : W .EVENT_SEQ) (wFN_SNAP_DEFERRALS : W .FN_SNAP_DEFERRALS) (wFN_STATUS : W .FN_STATUS)
    (wHP_DENIED : W .HP_DENIED) (wHP_ERRORS : W .HP_ERRORS) (wHP_LAST_STATUS : W .HP_LAST_STATUS)
    (wHP_NOTREADY : W .HP_NOTREADY) (wHP_REQUESTS : W .HP_REQUESTS) (wINJ_ARM : W .INJ_ARM)
    (wINJ_COUNT : W .INJ_COUNT) (wINJ_RESULT : W .INJ_RESULT) (wLC_ARM : W .LC_ARM) (wLC_REQUEST : W .LC_REQUEST)
    (wLC_STATUS : W .LC_STATUS) (wPERSIST_DEFERRED : W .PERSIST_DEFERRED) (wPERSIST_FLUSH : W .PERSIST_FLUSH)
    (wSRAM_CE : W .SRAM_CE) (wSRAM_UE : W .SRAM_UE) (qflt : Q .flt) (qinj : Q .inj) (qdict : Q .dict)
    (qports : Q .ports) (qfon : Q .fon) (h : Fr W Q z s) :
    ∀ t, execLcRequest w s = .next t → Fr W Q z t := by
  exact next_kept (by apply own_LC_REQUEST_frame <;> assumption)

theorem execFnFormatReq_frame {w : Wr} {s : State} (wALERT_STATUS : W .ALERT_STATUS)
    (wAUDIT_MERGED : W .AUDIT_MERGED) (wAUDIT_NEXT : W .AUDIT_NEXT) (wAUDIT_OK : W .AUDIT_OK)
    (wAUDIT_OVERWRITTEN : W .AUDIT_OVERWRITTEN) (wAUDIT_REFUSED : W .AUDIT_REFUSED) (wAUDIT_SEQ : W .AUDIT_SEQ)
    (wEVENT_NEXT : W .EVENT_NEXT) (wEVENT_OVERWRITTEN : W .EVENT_OVERWRITTEN) (wEVENT_PAGE : W .EVENT_PAGE)
    (wEVENT_SEQ : W .EVENT_SEQ) (wFN_HEAD_SEQ : W .FN_HEAD_SEQ) (wFN_RING : W .FN_RING) (wFN_STATUS : W .FN_STATUS)
    (wHP_DENIED : W .HP_DENIED) (wHP_ERRORS : W .HP_ERRORS) (wHP_LAST_STATUS : W .HP_LAST_STATUS)
    (wHP_NOTREADY : W .HP_NOTREADY) (wHP_REQUESTS : W .HP_REQUESTS) (wINJ_ARM : W .INJ_ARM)
    (wINJ_COUNT : W .INJ_COUNT) (wINJ_RESULT : W .INJ_RESULT) (wSRAM_CE : W .SRAM_CE) (wSRAM_UE : W .SRAM_UE)
    (wUNIT_READY : W .UNIT_READY) (qflt : Q .flt) (qinj : Q .inj) (qdict : Q .dict) (qports : Q .ports)
    (qflash : Q .flash) (qfon : Q .fon) (h : Fr W Q z s) :
    ∀ t, execFnFormatReq w s = .next t → Fr W Q z t := by
  exact next_kept (by apply own_FN_FORMAT_REQ_frame <;> assumption)

theorem execRunStart_frame {w : Wr} {s : State} (wALERT_STATUS : W .ALERT_STATUS)
    (wAUDIT_MERGED : W .AUDIT_MERGED) (wAUDIT_NEXT : W .AUDIT_NEXT) (wAUDIT_OK : W .AUDIT_OK)
    (wAUDIT_OVERWRITTEN : W .AUDIT_OVERWRITTEN) (wAUDIT_REFUSED : W .AUDIT_REFUSED) (wAUDIT_SEQ : W .AUDIT_SEQ)
    (wEVENT_NEXT : W .EVENT_NEXT) (wEVENT_OVERWRITTEN : W .EVENT_OVERWRITTEN) (wEVENT_PAGE : W .EVENT_PAGE)
    (wEVENT_SEQ : W .EVENT_SEQ) (wHP_DENIED : W .HP_DENIED) (wHP_ERRORS : W .HP_ERRORS)
    (wHP_LAST_STATUS : W .HP_LAST_STATUS) (wHP_NOTREADY : W .HP_NOTREADY) (wHP_REQUESTS : W .HP_REQUESTS)
    (wINJ_ARM : W .INJ_ARM) (wINJ_COUNT : W .INJ_COUNT) (wINJ_RESULT : W .INJ_RESULT) (wRUN_CTL : W .RUN_CTL)
    (wSRAM_CE : W .SRAM_CE) (wSRAM_UE : W .SRAM_UE) (qflt : Q .flt) (qinj : Q .inj) (qgrp : Q .grp)
    (qdict : Q .dict) (qports : Q .ports) (h : Fr W Q z s) :
    ∀ t, execRunStart w s = .next t → Fr W Q z t := by
  exact next_kept (State.when_kept h fun t ht => by apply own_RUN_CTL_frame <;> assumption)

theorem execRunStop_frame {w : Wr} {s : State} (wALERT_STATUS : W .ALERT_STATUS)
    (wAUDIT_MERGED : W .AUDIT_MERGED) (wAUDIT_NEXT : W .AUDIT_NEXT) (wAUDIT_OK : W .AUDIT_OK)
    (wAUDIT_OVERWRITTEN : W .AUDIT_OVERWRITTEN) (wAUDIT_REFUSED : W .AUDIT_REFUSED) (wAUDIT_SEQ : W .AUDIT_SEQ)
    (wEVENT_NEXT : W .EVENT_NEXT) (wEVENT_OVERWRITTEN : W .EVENT_OVERWRITTEN) (wEVENT_PAGE : W .EVENT_PAGE)
    (wEVENT_SEQ : W .EVENT_SEQ) (wHP_DENIED : W .HP_DENIED) (wHP_ERRORS : W .HP_ERRORS)
    (wHP_LAST_STATUS : W .HP_LAST_STATUS) (wHP_NOTREADY : W .HP_NOTREADY) (wHP_REQUESTS : W .HP_REQUESTS)
    (wINJ_ARM : W .INJ_ARM) (wINJ_COUNT : W .INJ_COUNT) (wINJ_RESULT : W .INJ_RESULT) (wRUN_CTL : W .RUN_CTL)
    (wSRAM_CE : W .SRAM_CE) (wSRAM_UE : W .SRAM_UE) (qflt : Q .flt) (qinj : Q .inj) (qgrp : Q .grp)
    (qdict : Q .dict) (qports : Q .ports) (h : Fr W Q z s) :
    ∀ t, execRunStop w s = .next t → Fr W Q z t := by
  exact next_kept (State.when_kept h fun t ht => by apply own_RUN_CTL_frame <;> assumption)

theorem execLockForce_frame {i : Nat} {w : Wr} {s : State} (wALERT_STATUS : W .ALERT_STATUS)
    (wAUDIT_MERGED : W .AUDIT_MERGED) (wAUDIT_NEXT : W .AUDIT_NEXT) (wAUDIT_OK : W .AUDIT_OK)
    (wAUDIT_OVERWRITTEN : W .AUDIT_OVERWRITTEN) (wAUDIT_REFUSED : W .AUDIT_REFUSED) (wAUDIT_SEQ : W .AUDIT_SEQ)
    (wEVENT_NEXT : W .EVENT_NEXT) (wEVENT_OVERWRITTEN : W .EVENT_OVERWRITTEN) (wEVENT_PAGE : W .EVENT_PAGE)
    (wEVENT_SEQ : W .EVENT_SEQ) (wHP_DENIED : W .HP_DENIED) (wHP_ERRORS : W .HP_ERRORS)
    (wHP_LAST_STATUS : W .HP_LAST_STATUS) (wHP_NOTREADY : W .HP_NOTREADY) (wHP_REQUESTS : W .HP_REQUESTS)
    (wINJ_ARM : W .INJ_ARM) (wINJ_COUNT : W .INJ_COUNT) (wINJ_RESULT : W .INJ_RESULT) (wLOCK : W .LOCK)
    (wLOCK_CONTESTS : W .LOCK_CONTESTS) (wLOCK_PRIO : W .LOCK_PRIO) (wSRAM_CE : W .SRAM_CE) (wSRAM_UE : W .SRAM_UE)
    (qflt : Q .flt) (qinj : Q .inj) (qdict : Q .dict) (qports : Q .ports) (h : Fr W Q z s) :
    ∀ t, execLockForce i w s = .next t → Fr W Q z t := by
  refine next_kept ?_
  unfold State.when
  split
  · have hi : i < 64 := by simpa using ‹decide (i < 64) = true›
    apply own_LOCK_FORCE_frame <;> assumption
  · exact h

theorem execInjDsReading_frame {w : Wr} {s : State} (wALERT_STATUS : W .ALERT_STATUS)
    (wAUDIT_MERGED : W .AUDIT_MERGED) (wAUDIT_NEXT : W .AUDIT_NEXT) (wAUDIT_OK : W .AUDIT_OK)
    (wAUDIT_OVERWRITTEN : W .AUDIT_OVERWRITTEN) (wAUDIT_REFUSED : W .AUDIT_REFUSED) (wAUDIT_SEQ : W .AUDIT_SEQ)
    (wEVENT_NEXT : W .EVENT_NEXT) (wEVENT_OVERWRITTEN : W .EVENT_OVERWRITTEN) (wEVENT_PAGE : W .EVENT_PAGE)
    (wEVENT_SEQ : W .EVENT_SEQ) (wHP_DENIED : W .HP_DENIED) (wHP_ERRORS : W .HP_ERRORS)
    (wHP_LAST_STATUS : W .HP_LAST_STATUS) (wHP_NOTREADY : W .HP_NOTREADY) (wHP_REQUESTS : W .HP_REQUESTS)
    (wINJ_ARM : W .INJ_ARM) (wINJ_COUNT : W .INJ_COUNT) (wINJ_RESULT : W .INJ_RESULT) (wSRAM_CE : W .SRAM_CE)
    (wSRAM_UE : W .SRAM_UE) (qflt : Q .flt) (qinj : Q .inj) (qdict : Q .dict) (qports : Q .ports) (h : Fr W Q z s) :
    ∀ t, execInjDsReading w s = .next t → Fr W Q z t := by
  exact next_kept (State.when_kept h fun t ht => by apply own_INJ_ARM_frame <;> assumption)

theorem execInjTsReading_frame {w : Wr} {s : State} (wALERT_STATUS : W .ALERT_STATUS)
    (wAUDIT_MERGED : W .AUDIT_MERGED) (wAUDIT_NEXT : W .AUDIT_NEXT) (wAUDIT_OK : W .AUDIT_OK)
    (wAUDIT_OVERWRITTEN : W .AUDIT_OVERWRITTEN) (wAUDIT_REFUSED : W .AUDIT_REFUSED) (wAUDIT_SEQ : W .AUDIT_SEQ)
    (wEVENT_NEXT : W .EVENT_NEXT) (wEVENT_OVERWRITTEN : W .EVENT_OVERWRITTEN) (wEVENT_PAGE : W .EVENT_PAGE)
    (wEVENT_SEQ : W .EVENT_SEQ) (wHP_DENIED : W .HP_DENIED) (wHP_ERRORS : W .HP_ERRORS)
    (wHP_LAST_STATUS : W .HP_LAST_STATUS) (wHP_NOTREADY : W .HP_NOTREADY) (wHP_REQUESTS : W .HP_REQUESTS)
    (wINJ_ARM : W .INJ_ARM) (wINJ_COUNT : W .INJ_COUNT) (wINJ_RESULT : W .INJ_RESULT) (wSRAM_CE : W .SRAM_CE)
    (wSRAM_UE : W .SRAM_UE) (qflt : Q .flt) (qinj : Q .inj) (qdict : Q .dict) (qports : Q .ports) (h : Fr W Q z s) :
    ∀ t, execInjTsReading w s = .next t → Fr W Q z t := by
  exact next_kept (State.when_kept h fun t ht => by apply own_INJ_ARM_frame <;> assumption)

theorem execInjRefALoss_frame {w : Wr} {s : State} (wALERT_STATUS : W .ALERT_STATUS)
    (wAUDIT_MERGED : W .AUDIT_MERGED) (wAUDIT_NEXT : W .AUDIT_NEXT) (wAUDIT_OK : W .AUDIT_OK)
    (wAUDIT_OVERWRITTEN : W .AUDIT_OVERWRITTEN) (wAUDIT_REFUSED : W .AUDIT_REFUSED) (wAUDIT_SEQ : W .AUDIT_SEQ)
    (wEVENT_NEXT : W .EVENT_NEXT) (wEVENT_OVERWRITTEN : W .EVENT_OVERWRITTEN) (wEVENT_PAGE : W .EVENT_PAGE)
    (wEVENT_SEQ : W .EVENT_SEQ) (wHP_DENIED : W .HP_DENIED) (wHP_ERRORS : W .HP_ERRORS)
    (wHP_LAST_STATUS : W .HP_LAST_STATUS) (wHP_NOTREADY : W .HP_NOTREADY) (wHP_REQUESTS : W .HP_REQUESTS)
    (wINJ_ARM : W .INJ_ARM) (wINJ_COUNT : W .INJ_COUNT) (wINJ_RESULT : W .INJ_RESULT) (wSRAM_CE : W .SRAM_CE)
    (wSRAM_UE : W .SRAM_UE) (qflt : Q .flt) (qinj : Q .inj) (qdict : Q .dict) (qports : Q .ports) (h : Fr W Q z s) :
    ∀ t, execInjRefALoss w s = .next t → Fr W Q z t := by
  exact next_kept (State.when_kept h fun t ht => by apply own_INJ_ARM_frame <;> assumption)

theorem execInjRefBLoss_frame {w : Wr} {s : State} (wALERT_STATUS : W .ALERT_STATUS)
    (wAUDIT_MERGED : W .AUDIT_MERGED) (wAUDIT_NEXT : W .AUDIT_NEXT) (wAUDIT_OK : W .AUDIT_OK)
    (wAUDIT_OVERWRITTEN : W .AUDIT_OVERWRITTEN) (wAUDIT_REFUSED : W .AUDIT_REFUSED) (wAUDIT_SEQ : W .AUDIT_SEQ)
    (wEVENT_NEXT : W .EVENT_NEXT) (wEVENT_OVERWRITTEN : W .EVENT_OVERWRITTEN) (wEVENT_PAGE : W .EVENT_PAGE)
    (wEVENT_SEQ : W .EVENT_SEQ) (wHP_DENIED : W .HP_DENIED) (wHP_ERRORS : W .HP_ERRORS)
    (wHP_LAST_STATUS : W .HP_LAST_STATUS) (wHP_NOTREADY : W .HP_NOTREADY) (wHP_REQUESTS : W .HP_REQUESTS)
    (wINJ_ARM : W .INJ_ARM) (wINJ_COUNT : W .INJ_COUNT) (wINJ_RESULT : W .INJ_RESULT) (wSRAM_CE : W .SRAM_CE)
    (wSRAM_UE : W .SRAM_UE) (qflt : Q .flt) (qinj : Q .inj) (qdict : Q .dict) (qports : Q .ports) (h : Fr W Q z s) :
    ∀ t, execInjRefBLoss w s = .next t → Fr W Q z t := by
  exact next_kept (State.when_kept h fun t ht => by apply own_INJ_ARM_frame <;> assumption)

theorem execInjSlip_frame {w : Wr} {s : State} (wALERT_STATUS : W .ALERT_STATUS)
    (wAUDIT_MERGED : W .AUDIT_MERGED) (wAUDIT_NEXT : W .AUDIT_NEXT) (wAUDIT_OK : W .AUDIT_OK)
    (wAUDIT_OVERWRITTEN : W .AUDIT_OVERWRITTEN) (wAUDIT_REFUSED : W .AUDIT_REFUSED) (wAUDIT_SEQ : W .AUDIT_SEQ)
    (wEVENT_NEXT : W .EVENT_NEXT) (wEVENT_OVERWRITTEN : W .EVENT_OVERWRITTEN) (wEVENT_PAGE : W .EVENT_PAGE)
    (wEVENT_SEQ : W .EVENT_SEQ) (wHP_DENIED : W .HP_DENIED) (wHP_ERRORS : W .HP_ERRORS)
    (wHP_LAST_STATUS : W .HP_LAST_STATUS) (wHP_NOTREADY : W .HP_NOTREADY) (wHP_REQUESTS : W .HP_REQUESTS)
    (wINJ_ARM : W .INJ_ARM) (wINJ_COUNT : W .INJ_COUNT) (wINJ_RESULT : W .INJ_RESULT) (wSRAM_CE : W .SRAM_CE)
    (wSRAM_UE : W .SRAM_UE) (qflt : Q .flt) (qinj : Q .inj) (qdict : Q .dict) (qports : Q .ports) (h : Fr W Q z s) :
    ∀ t, execInjSlip w s = .next t → Fr W Q z t := by
  exact next_kept (State.when_kept h fun t ht => by apply own_INJ_ARM_frame <;> assumption)

theorem execInjRzCrc_frame {w : Wr} {s : State} (wALERT_STATUS : W .ALERT_STATUS)
    (wAUDIT_MERGED : W .AUDIT_MERGED) (wAUDIT_NEXT : W .AUDIT_NEXT) (wAUDIT_OK : W .AUDIT_OK)
    (wAUDIT_OVERWRITTEN : W .AUDIT_OVERWRITTEN) (wAUDIT_REFUSED : W .AUDIT_REFUSED) (wAUDIT_SEQ : W .AUDIT_SEQ)
    (wEVENT_NEXT : W .EVENT_NEXT) (wEVENT_OVERWRITTEN : W .EVENT_OVERWRITTEN) (wEVENT_PAGE : W .EVENT_PAGE)
    (wEVENT_SEQ : W .EVENT_SEQ) (wHP_DENIED : W .HP_DENIED) (wHP_ERRORS : W .HP_ERRORS)
    (wHP_LAST_STATUS : W .HP_LAST_STATUS) (wHP_NOTREADY : W .HP_NOTREADY) (wHP_REQUESTS : W .HP_REQUESTS)
    (wINJ_ARM : W .INJ_ARM) (wINJ_COUNT : W .INJ_COUNT) (wINJ_RESULT : W .INJ_RESULT) (wSRAM_CE : W .SRAM_CE)
    (wSRAM_UE : W .SRAM_UE) (qflt : Q .flt) (qinj : Q .inj) (qdict : Q .dict) (qports : Q .ports) (h : Fr W Q z s) :
    ∀ t, execInjRzCrc w s = .next t → Fr W Q z t := by
  exact next_kept (State.when_kept h fun t ht => by apply own_INJ_ARM_frame <;> assumption)

theorem execInjFnRecord_frame {w : Wr} {s : State} (wALERT_STATUS : W .ALERT_STATUS)
    (wAUDIT_MERGED : W .AUDIT_MERGED) (wAUDIT_NEXT : W .AUDIT_NEXT) (wAUDIT_OK : W .AUDIT_OK)
    (wAUDIT_OVERWRITTEN : W .AUDIT_OVERWRITTEN) (wAUDIT_REFUSED : W .AUDIT_REFUSED) (wAUDIT_SEQ : W .AUDIT_SEQ)
    (wEVENT_NEXT : W .EVENT_NEXT) (wEVENT_OVERWRITTEN : W .EVENT_OVERWRITTEN) (wEVENT_PAGE : W .EVENT_PAGE)
    (wEVENT_SEQ : W .EVENT_SEQ) (wHP_DENIED : W .HP_DENIED) (wHP_ERRORS : W .HP_ERRORS)
    (wHP_LAST_STATUS : W .HP_LAST_STATUS) (wHP_NOTREADY : W .HP_NOTREADY) (wHP_REQUESTS : W .HP_REQUESTS)
    (wINJ_ARM : W .INJ_ARM) (wINJ_COUNT : W .INJ_COUNT) (wINJ_RESULT : W .INJ_RESULT) (wSRAM_CE : W .SRAM_CE)
    (wSRAM_UE : W .SRAM_UE) (qflt : Q .flt) (qinj : Q .inj) (qdict : Q .dict) (qports : Q .ports) (h : Fr W Q z s) :
    ∀ t, execInjFnRecord w s = .next t → Fr W Q z t := by
  exact next_kept (State.when_kept h fun t ht => by apply own_INJ_ARM_frame <;> assumption)

theorem execInjSramBit_frame {w : Wr} {s : State} (wALERT_STATUS : W .ALERT_STATUS)
    (wAUDIT_MERGED : W .AUDIT_MERGED) (wAUDIT_NEXT : W .AUDIT_NEXT) (wAUDIT_OK : W .AUDIT_OK)
    (wAUDIT_OVERWRITTEN : W .AUDIT_OVERWRITTEN) (wAUDIT_REFUSED : W .AUDIT_REFUSED) (wAUDIT_SEQ : W .AUDIT_SEQ)
    (wEVENT_NEXT : W .EVENT_NEXT) (wEVENT_OVERWRITTEN : W .EVENT_OVERWRITTEN) (wEVENT_PAGE : W .EVENT_PAGE)
    (wEVENT_SEQ : W .EVENT_SEQ) (wHP_DENIED : W .HP_DENIED) (wHP_ERRORS : W .HP_ERRORS)
    (wHP_LAST_STATUS : W .HP_LAST_STATUS) (wHP_NOTREADY : W .HP_NOTREADY) (wHP_REQUESTS : W .HP_REQUESTS)
    (wINJ_ARM : W .INJ_ARM) (wINJ_COUNT : W .INJ_COUNT) (wINJ_RESULT : W .INJ_RESULT) (wSRAM_CE : W .SRAM_CE)
    (wSRAM_UE : W .SRAM_UE) (qflt : Q .flt) (qinj : Q .inj) (qdict : Q .dict) (qports : Q .ports) (h : Fr W Q z s) :
    ∀ t, execInjSramBit w s = .next t → Fr W Q z t := by
  exact next_kept (State.when_kept h fun t ht => by apply own_INJ_ARM_frame <;> assumption)

theorem execInjSpineParity_frame {w : Wr} {s : State} (wALERT_STATUS : W .ALERT_STATUS)
    (wAUDIT_MERGED : W .AUDIT_MERGED) (wAUDIT_NEXT : W .AUDIT_NEXT) (wAUDIT_OK : W .AUDIT_OK)
    (wAUDIT_OVERWRITTEN : W .AUDIT_OVERWRITTEN) (wAUDIT_REFUSED : W .AUDIT_REFUSED) (wAUDIT_SEQ : W .AUDIT_SEQ)
    (wEVENT_NEXT : W .EVENT_NEXT) (wEVENT_OVERWRITTEN : W .EVENT_OVERWRITTEN) (wEVENT_PAGE : W .EVENT_PAGE)
    (wEVENT_SEQ : W .EVENT_SEQ) (wHP_DENIED : W .HP_DENIED) (wHP_ERRORS : W .HP_ERRORS)
    (wHP_LAST_STATUS : W .HP_LAST_STATUS) (wHP_NOTREADY : W .HP_NOTREADY) (wHP_REQUESTS : W .HP_REQUESTS)
    (wINJ_ARM : W .INJ_ARM) (wINJ_COUNT : W .INJ_COUNT) (wINJ_RESULT : W .INJ_RESULT) (wSRAM_CE : W .SRAM_CE)
    (wSRAM_UE : W .SRAM_UE) (qflt : Q .flt) (qinj : Q .inj) (qdict : Q .dict) (qports : Q .ports) (h : Fr W Q z s) :
    ∀ t, execInjSpineParity w s = .next t → Fr W Q z t := by
  exact next_kept (State.when_kept h fun t ht => by apply own_INJ_ARM_frame <;> assumption)

theorem execInjEstOverflow_frame {w : Wr} {s : State} (wALERT_STATUS : W .ALERT_STATUS)
    (wAUDIT_MERGED : W .AUDIT_MERGED) (wAUDIT_NEXT : W .AUDIT_NEXT) (wAUDIT_OK : W .AUDIT_OK)
    (wAUDIT_OVERWRITTEN : W .AUDIT_OVERWRITTEN) (wAUDIT_REFUSED : W .AUDIT_REFUSED) (wAUDIT_SEQ : W .AUDIT_SEQ)
    (wEVENT_NEXT : W .EVENT_NEXT) (wEVENT_OVERWRITTEN : W .EVENT_OVERWRITTEN) (wEVENT_PAGE : W .EVENT_PAGE)
    (wEVENT_SEQ : W .EVENT_SEQ) (wHP_DENIED : W .HP_DENIED) (wHP_ERRORS : W .HP_ERRORS)
    (wHP_LAST_STATUS : W .HP_LAST_STATUS) (wHP_NOTREADY : W .HP_NOTREADY) (wHP_REQUESTS : W .HP_REQUESTS)
    (wINJ_ARM : W .INJ_ARM) (wINJ_COUNT : W .INJ_COUNT) (wINJ_RESULT : W .INJ_RESULT) (wSRAM_CE : W .SRAM_CE)
    (wSRAM_UE : W .SRAM_UE) (qflt : Q .flt) (qinj : Q .inj) (qdict : Q .dict) (qports : Q .ports) (h : Fr W Q z s) :
    ∀ t, execInjEstOverflow w s = .next t → Fr W Q z t := by
  exact next_kept (State.when_kept h fun t ht => by apply own_INJ_ARM_frame <;> assumption)

theorem execInjFdpFraming_frame {w : Wr} {s : State} (wALERT_STATUS : W .ALERT_STATUS)
    (wAUDIT_MERGED : W .AUDIT_MERGED) (wAUDIT_NEXT : W .AUDIT_NEXT) (wAUDIT_OK : W .AUDIT_OK)
    (wAUDIT_OVERWRITTEN : W .AUDIT_OVERWRITTEN) (wAUDIT_REFUSED : W .AUDIT_REFUSED) (wAUDIT_SEQ : W .AUDIT_SEQ)
    (wEVENT_NEXT : W .EVENT_NEXT) (wEVENT_OVERWRITTEN : W .EVENT_OVERWRITTEN) (wEVENT_PAGE : W .EVENT_PAGE)
    (wEVENT_SEQ : W .EVENT_SEQ) (wHP_DENIED : W .HP_DENIED) (wHP_ERRORS : W .HP_ERRORS)
    (wHP_LAST_STATUS : W .HP_LAST_STATUS) (wHP_NOTREADY : W .HP_NOTREADY) (wHP_REQUESTS : W .HP_REQUESTS)
    (wINJ_ARM : W .INJ_ARM) (wINJ_COUNT : W .INJ_COUNT) (wINJ_RESULT : W .INJ_RESULT) (wSRAM_CE : W .SRAM_CE)
    (wSRAM_UE : W .SRAM_UE) (qflt : Q .flt) (qinj : Q .inj) (qdict : Q .dict) (qports : Q .ports) (h : Fr W Q z s) :
    ∀ t, execInjFdpFraming w s = .next t → Fr W Q z t := by
  exact next_kept (State.when_kept h fun t ht => by apply own_INJ_ARM_frame <;> assumption)

theorem execWeightWindowWrite_frame {off : Nat} {be : Nat} {val : Nat} {s : State}
    (wALERT_STATUS : W .ALERT_STATUS) (wEST_WEIGHT : W .EST_WEIGHT) (wEVENT_NEXT : W .EVENT_NEXT)
    (wEVENT_OVERWRITTEN : W .EVENT_OVERWRITTEN) (wEVENT_PAGE : W .EVENT_PAGE) (wEVENT_SEQ : W .EVENT_SEQ)
    (wHP_DENIED : W .HP_DENIED) (wHP_ERRORS : W .HP_ERRORS) (wHP_LAST_STATUS : W .HP_LAST_STATUS)
    (wHP_NOTREADY : W .HP_NOTREADY) (wHP_REQUESTS : W .HP_REQUESTS) (wINJ_ARM : W .INJ_ARM)
    (wINJ_COUNT : W .INJ_COUNT) (wINJ_RESULT : W .INJ_RESULT) (wPR_GROUP_TABLE : W .PR_GROUP_TABLE)
    (wSRAM_CE : W .SRAM_CE) (wSRAM_UE : W .SRAM_UE) (qflt : Q .flt) (qinj : Q .inj) (qest : Q .est)
    (qdict : Q .dict) (qports : Q .ports) (qphase : Q .phase) (h : Fr W Q z s) :
    ∀ t, execWeightWindowWrite off be val s = .next t → Fr W Q z t := by
  exact next_kept (State.when_kept h fun _ ht => State.hostIn_frame_of (fun u hu => by apply State.windowWrite_frame <;> assumption)
    (fun u hu => by unfold State.hostLost; dsimp only; apply State.hostReply_frame <;> assumption) wALERT_STATUS wEVENT_NEXT wEVENT_OVERWRITTEN wEVENT_PAGE wEVENT_SEQ wINJ_ARM wINJ_COUNT wINJ_RESULT wSRAM_CE wSRAM_UE qflt qinj wHP_REQUESTS qports ht)

theorem execPhaseTableWrite_frame {off : Nat} {be : Nat} {val : Nat} {s : State}
    (wALERT_STATUS : W .ALERT_STATUS) (wEVENT_NEXT : W .EVENT_NEXT) (wEVENT_OVERWRITTEN : W .EVENT_OVERWRITTEN)
    (wEVENT_PAGE : W .EVENT_PAGE) (wEVENT_SEQ : W .EVENT_SEQ) (wHP_DENIED : W .HP_DENIED)
    (wHP_ERRORS : W .HP_ERRORS) (wHP_LAST_STATUS : W .HP_LAST_STATUS) (wHP_NOTREADY : W .HP_NOTREADY)
    (wHP_REQUESTS : W .HP_REQUESTS) (wINJ_ARM : W .INJ_ARM) (wINJ_COUNT : W .INJ_COUNT)
    (wINJ_RESULT : W .INJ_RESULT) (wPR_GROUP_TABLE : W .PR_GROUP_TABLE) (wSRAM_CE : W .SRAM_CE)
    (wSRAM_UE : W .SRAM_UE) (qflt : Q .flt) (qinj : Q .inj) (qest : Q .est) (qdict : Q .dict) (qports : Q .ports)
    (qphase : Q .phase) (h : Fr W Q z s) :
    ∀ t, execPhaseTableWrite off be val s = .next t → Fr W Q z t := by
  exact next_kept (State.when_kept h fun _ ht => State.hostIn_frame_of (fun u hu => by apply State.phaseWrite_frame <;> assumption)
    (fun u hu => by unfold State.hostLost; dsimp only; apply State.hostReply_frame <;> assumption) wALERT_STATUS wEVENT_NEXT wEVENT_OVERWRITTEN wEVENT_PAGE wEVENT_SEQ wINJ_ARM wINJ_COUNT wINJ_RESULT wSRAM_CE wSRAM_UE qflt qinj wHP_REQUESTS qports ht)

theorem execLockHostAcquire_frame {i : Nat} {s : State} (wALERT_STATUS : W .ALERT_STATUS)
    (wEVENT_NEXT : W .EVENT_NEXT) (wEVENT_OVERWRITTEN : W .EVENT_OVERWRITTEN) (wEVENT_PAGE : W .EVENT_PAGE)
    (wEVENT_SEQ : W .EVENT_SEQ) (wHP_DENIED : W .HP_DENIED) (wHP_ERRORS : W .HP_ERRORS)
    (wHP_LAST_STATUS : W .HP_LAST_STATUS) (wHP_NOTREADY : W .HP_NOTREADY) (wHP_REQUESTS : W .HP_REQUESTS)
    (wINJ_ARM : W .INJ_ARM) (wINJ_COUNT : W .INJ_COUNT) (wINJ_RESULT : W .INJ_RESULT) (wLOCK : W .LOCK)
    (wLOCK_CONTESTS : W .LOCK_CONTESTS) (wLOCK_PRIO : W .LOCK_PRIO) (wSRAM_CE : W .SRAM_CE) (wSRAM_UE : W .SRAM_UE)
    (qflt : Q .flt) (qinj : Q .inj) (qdict : Q .dict) (qports : Q .ports) (h : Fr W Q z s) :
    ∀ t, execLockHostAcquire i s = .next t → Fr W Q z t := by
  exact next_kept (State.when_kept h fun _ ht => State.hostIn_frame_of (fun u hu => by apply State.hostAcquire_frame <;> assumption)
    (fun u hu => by unfold State.hostLost; dsimp only; apply State.hostReply_frame <;> assumption) wALERT_STATUS wEVENT_NEXT wEVENT_OVERWRITTEN wEVENT_PAGE wEVENT_SEQ wINJ_ARM wINJ_COUNT wINJ_RESULT wSRAM_CE wSRAM_UE qflt qinj wHP_REQUESTS qports ht)

theorem execLockHostRelease_frame {i : Nat} (_val : Nat) {s : State} (wALERT_STATUS : W .ALERT_STATUS)
    (wEVENT_NEXT : W .EVENT_NEXT) (wEVENT_OVERWRITTEN : W .EVENT_OVERWRITTEN) (wEVENT_PAGE : W .EVENT_PAGE)
    (wEVENT_SEQ : W .EVENT_SEQ) (wHP_DENIED : W .HP_DENIED) (wHP_ERRORS : W .HP_ERRORS)
    (wHP_LAST_STATUS : W .HP_LAST_STATUS) (wHP_NOTREADY : W .HP_NOTREADY) (wHP_REQUESTS : W .HP_REQUESTS)
    (wINJ_ARM : W .INJ_ARM) (wINJ_COUNT : W .INJ_COUNT) (wINJ_RESULT : W .INJ_RESULT) (wLOCK : W .LOCK)
    (wLOCK_CONTESTS : W .LOCK_CONTESTS) (wLOCK_PRIO : W .LOCK_PRIO) (wSRAM_CE : W .SRAM_CE) (wSRAM_UE : W .SRAM_UE)
    (qflt : Q .flt) (qinj : Q .inj) (qdict : Q .dict) (qports : Q .ports) (h : Fr W Q z s) :
    ∀ t, execLockHostRelease i _val s = .next t → Fr W Q z t := by
  exact next_kept (State.when_kept h fun _ ht => State.hostIn_frame_of (fun u hu => by apply State.hostRelease_frame <;> assumption)
    (fun u hu => by unfold State.hostLost; dsimp only; apply State.hostReply_frame <;> assumption) wALERT_STATUS wEVENT_NEXT wEVENT_OVERWRITTEN wEVENT_PAGE wEVENT_SEQ wINJ_ARM wINJ_COUNT wINJ_RESULT wSRAM_CE wSRAM_UE qflt qinj wHP_REQUESTS qports ht)

theorem execHostDbRing_frame {val : Nat} {s : State} (wALERT_STATUS : W .ALERT_STATUS)
    (wDOMAIN_STATE : W .DOMAIN_STATE) (wDOMAIN_TARGET : W .DOMAIN_TARGET) (wEVENT_NEXT : W .EVENT_NEXT)
    (wEVENT_OVERWRITTEN : W .EVENT_OVERWRITTEN) (wEVENT_PAGE : W .EVENT_PAGE) (wEVENT_SEQ : W .EVENT_SEQ)
    (wHP_DENIED : W .HP_DENIED) (wHP_ERRORS : W .HP_ERRORS) (wHP_LAST_STATUS : W .HP_LAST_STATUS)
    (wHP_NOTREADY : W .HP_NOTREADY) (wHP_REQUESTS : W .HP_REQUESTS) (wINJ_ARM : W .INJ_ARM)
    (wINJ_COUNT : W .INJ_COUNT) (wINJ_RESULT : W .INJ_RESULT) (wMB_COUNT : W .MB_COUNT)
    (wMB_DISCARDS : W .MB_DISCARDS) (wMB_WAKES : W .MB_WAKES) (wSRAM_CE : W .SRAM_CE) (wSRAM_UE : W .SRAM_UE)
    (wSY_POST_OVERFLOW : W .SY_POST_OVERFLOW) (qflt : Q .flt) (qinj : Q .inj) (qcell : Q .cell) (qdom : Q .dom)
    (qpdWakes : Q .pdWakes) (qpdCmds : Q .pdCmds) (qdict : Q .dict) (qbox : Q .box) (qports : Q .ports)
    (h : Fr W Q z s) :
    ∀ t, execHostDbRing val s = .next t → Fr W Q z t := by
  exact next_kept (State.hostIn_frame_of (fun u hu => by apply State.hostRing_frame <;> assumption)
    (fun u hu => by unfold State.hostLost; dsimp only; apply State.hostReply_frame <;> assumption) wALERT_STATUS wEVENT_NEXT wEVENT_OVERWRITTEN wEVENT_PAGE wEVENT_SEQ wINJ_ARM wINJ_COUNT wINJ_RESULT wSRAM_CE wSRAM_UE qflt qinj wHP_REQUESTS qports h)

theorem execIdxRead_frame {addr : Nat} {ctl : Nat} {s : State} (wALERT_STATUS : W .ALERT_STATUS)
    (wEVENT_NEXT : W .EVENT_NEXT) (wEVENT_OVERWRITTEN : W .EVENT_OVERWRITTEN) (wEVENT_PAGE : W .EVENT_PAGE)
    (wEVENT_SEQ : W .EVENT_SEQ) (wHP_DENIED : W .HP_DENIED) (wHP_ERRORS : W .HP_ERRORS)
    (wHP_LAST_STATUS : W .HP_LAST_STATUS) (wHP_NOTREADY : W .HP_NOTREADY) (wHP_REQUESTS : W .HP_REQUESTS)
    (wINJ_ARM : W .INJ_ARM) (wINJ_COUNT : W .INJ_COUNT) (wINJ_RESULT : W .INJ_RESULT) (wSRAM_CE : W .SRAM_CE)
    (wSRAM_UE : W .SRAM_UE) (qflt : Q .flt) (qinj : Q .inj) (qdict : Q .dict) (qports : Q .ports) (qidx : Q .idx)
    (h : Fr W Q z s) :
    ∀ t, execIdxRead addr ctl s = .next t → Fr W Q z t := by
  exact next_kept (State.when_kept h fun _ ht => State.hostIn_frame_of (fun u hu => by apply State.idxRead_frame <;> assumption)
    (fun u hu => by unfold State.hostLost; dsimp only; apply State.hostReply_frame <;> assumption) wALERT_STATUS wEVENT_NEXT wEVENT_OVERWRITTEN wEVENT_PAGE wEVENT_SEQ wINJ_ARM wINJ_COUNT wINJ_RESULT wSRAM_CE wSRAM_UE qflt qinj wHP_REQUESTS qports ht)

theorem execIdxWrite_frame {addr : Nat} {buf : Nat} {ctl : Nat} {s : State} (wALERT_STATUS : W .ALERT_STATUS)
    (wEVENT_NEXT : W .EVENT_NEXT) (wEVENT_OVERWRITTEN : W .EVENT_OVERWRITTEN) (wEVENT_PAGE : W .EVENT_PAGE)
    (wEVENT_SEQ : W .EVENT_SEQ) (wHP_DENIED : W .HP_DENIED) (wHP_ERRORS : W .HP_ERRORS)
    (wHP_LAST_STATUS : W .HP_LAST_STATUS) (wHP_NOTREADY : W .HP_NOTREADY) (wHP_REQUESTS : W .HP_REQUESTS)
    (wINJ_ARM : W .INJ_ARM) (wINJ_COUNT : W .INJ_COUNT) (wINJ_RESULT : W .INJ_RESULT) (wSRAM_CE : W .SRAM_CE)
    (wSRAM_UE : W .SRAM_UE) (qflt : Q .flt) (qinj : Q .inj) (qdict : Q .dict) (qports : Q .ports) (qidx : Q .idx)
    (h : Fr W Q z s) :
    ∀ t, execIdxWrite addr buf ctl s = .next t → Fr W Q z t := by
  exact next_kept (State.when_kept h fun _ ht => State.hostIn_frame_of (fun u hu => by apply State.idxWrite_frame <;> assumption)
    (fun u hu => by unfold State.hostLost; dsimp only; apply State.hostReply_frame <;> assumption) wALERT_STATUS wEVENT_NEXT wEVENT_OVERWRITTEN wEVENT_PAGE wEVENT_SEQ wINJ_ARM wINJ_COUNT wINJ_RESULT wSRAM_CE wSRAM_UE qflt qinj wHP_REQUESTS qports ht)

theorem execInjExpired_frame {s : State} (wINJ_ARM : W .INJ_ARM) (wINJ_COUNT : W .INJ_COUNT)
    (wINJ_RESULT : W .INJ_RESULT) (qflt : Q .flt) (qinj : Q .inj) (h : Fr W Q z s) :
    ∀ t, execInjExpired s = .next t → Fr W Q z t := by
  unfold execInjExpired
  repeat' first
    | with_reducible refine next_kept ?_ | with_reducible assumption | with_reducible refine State.when_kept ?_ ?_
    | with_reducible apply State.endInjection_frame | split | dsimp only | intro _

theorem execFieldTestExpiry_frame {s : State} (wFIELD_TEST_PERMIT : W .FIELD_TEST_PERMIT) (h : Fr W Q z s) :
    ∀ t, execFieldTestExpiry s = .next t → Fr W Q z t := by
  unfold execFieldTestExpiry
  repeat' first
    | with_reducible refine next_kept ?_ | with_reducible assumption | with_reducible refine State.when_kept ?_ ?_
    | with_reducible apply State.wr_frame | split | dsimp only | intro _

end Sys2Proof.Machine
end

