-- ==== Sys2Proof/WellFormed.lean ====
section
/-! DEFINITION. Which commands are well formed: every operand fits the signal, frame field or element kind that carries it
(R42 to R46, R359 to R364, R411, R447, R458, R462). The block itself answers or ignores any command (DESIGN CHOICE, log 2);
well-formedness says which commands a partner can send. -/

set_option Elab.async false

namespace Sys2Proof

/-- A source that exists: an FDP address of 8 bits (R462), a frame's SRC of 16 bits (R326), a requester of 1 to 4095 (R42). -/
def Src.wf (x : Src) : Bool :=
  match x with
  | .host => true
  | .fbus a => decide (a < 256)
  | .net a => decide (a < 65536)
  | .eng q => decide (0 < q ∧ q < 4096)

/-- A write whose value has the length it states, at an element of 16 bits (R411, R414). -/
def Wr.wf (w : Wr) : Bool := w.src.wf && decide (w.el < 65536) && decide (w.len ≤ 32768) && decide (w.val < 256 ^ w.len)

/-- A request that fits the engine port's signals (R42). -/
def EpReq.wf (q : EpReq) : Bool := decide (q.id < 4096) && decide (q.arg < 2 ^ 32) && decide (q.data < 2 ^ 64)

/-- A frame that fits CAN FD (R458, R462). -/
def FdpFrame.wf (q : FdpFrame) : Bool := decide (q.ident < 2 ^ 29) && decide (q.len ≤ 64) && decide (q.data < 256 ^ q.len)

/-- A device that 4-byte addresses reach (R472): at most 2^20 sectors of 4 KiB. -/
def FlashDev.wf (x : FlashDev) : Bool := decide (x.sectors ≤ 2 ^ 20)

/-- What a cycle brings: four edges, with bulk words of at most 512 bits and priority words of at
most 128 (R123, R148). -/
def CycleIn.wf (x : CycleIn) : Bool :=
  decide (x.late < 16) && (x.words.all fun w => decide (w.edge < 4 ∧ w.data < 2 ^ (if w.prio then 128 else 512)))
    && x.takes.all fun y => decide (y.edge < 4)

/-- What one instant of the droop sensors brings: readings of 0 to 63 taps of sensors 0 to 15 (R99, R102). -/
def DsSample.wf (x : DsSample) : Bool := x.readings.all fun y => decide (y.1 < 16 ∧ y.2 < 64)

/-- What the cold calibration measures: four points of 65 frequencies (R79, R503). -/
def CalMeas.wf (m : CalMeas) : Bool :=
  decide (m.region < 1024) && decide (m.sensors.length ≤ 8) && decide (m.freqs.length = 4)
    && (m.freqs.all fun l => decide (l.length = 65) && l.all fun x => decide (x < 65536)) && decide (m.trims < 256 ^ 64)

/-- A number below `n`, or 0xFF for the set of fields without a group (R255). -/
def inSet (g n : Nat) : Bool := decide (g < n) || g == 0xFF

/-- A well-formed command. -/
def Instr.wf (i : Instr) : Bool :=
  match i with
  | .coldReset => true
  | .warmReset => true
  | .powerUp => true
  | .refSelect => true
  | .fondantMount a b => a.wf && b.wf
  | .excludedMapApply => true
  | .railEnumeration => true
  | .coldCalibration meas => meas.all CalMeas.wf
  | .oscStart => true
  | .countRelease n => decide (n < 1024)
  | .isoRelease => true
  | .mailboxOpen => true
  | .startRamp => true
  | .blockReady => true
  | .dictOpen => true
  | .budgetOpen => true
  | .estimatorReady => true
  | .pralineOpen => true
  | .startupWatchdog => true
  | .selfResetReq w => w.wf
  | .selfResetApply => true
  | .jobResetHalt => true
  | .warmRearm => true
  | .faultLine => true
  | .faultReport _ => true
  | .lineOnly => true
  | .spineRetransmit src dst m _ =>
      decide (src.1 < 4) && decide (src.2 < 1024) && decide (dst.1 < 4) && decide (dst.2 < 1024) && decide (m.msg < 2 ^ 64)
  | .seqParity code elem => decide (code < 12) && decide (elem < 128)
  | .watchdog q _ => decide (q.code < 12) && decide (q.elem < 128)
  | .weightReload n => decide (n < 1024)
  | .alertAck w => w.wf
  | .alertHoldExpiry => true
  | .injDsReading w => w.wf
  | .injTsReading w => w.wf
  | .injRefALoss w => w.wf
  | .injRefBLoss w => w.wf
  | .injSlip w => w.wf
  | .injRzCrc w => w.wf
  | .injFnRecord w => w.wf
  | .injSramBit w => w.wf
  | .injSpineParity w => w.wf
  | .injEstOverflow w => w.wf
  | .injFdpFraming w => w.wf
  | .injExpired => true
  | .fieldTestExpiry => true
  | .domainTarget w => w.wf
  | .powerStepWaitEnd d => decide (d < 512)
  | .pdAckChange d _ _ => decide (d < 512)
  | .pdTimeout d => decide (d < 512)
  | .refMissingEdge _ => true
  | .refFreqWindow _ _ _ => true
  | .holdoverRelock => true
  | .ctlShortStopEnd _ => true
  | .refQualified _ => true
  | .holdoverCeilingRemove g => decide (g < 8)
  | .refPrefer w => w.wf
  | .intoscMeasure _ => true
  | .timeMark => true
  | .timeCorrection x => decide (x.region < 1024) && decide (x.seq < 2 ^ 32)
  | .timeSet w => w.wf
  | .timeOffsetAdj w => w.wf
  | .ppsCapture _ => true
  | .tsCapture _ => true
  | .fllGateEnd n => decide (n < 1024)
  | .sigmaDeltaSlot n => decide (n < 1024)
  | .oscUnlock n => decide (n < 1024)
  | .oscCeiling n => decide (n < 1024)
  | .calOffsetUpdate n => decide (n < 1024)
  | .headroomReport n => decide (n < 1024)
  | .ageDue n => decide (n < 1024)
  | .ageSampleReq w => w.wf
  | .ageSampleDone n ratio => decide (n < 1024) && decide (ratio < 65536)
  | .startFail n => decide (n < 1024)
  | .droopTrip n readings early => decide (n < 1024) && DsSample.wf { readings := readings, early := early }
  | .droopRunEnd n => decide (n < 1024)
  | .dsStuck n sensor => decide (n < 1024) && decide (sensor < 16)
  | .dsQuarantineClear w => w.wf
  | .dsEnable w => w.wf
  | .park n => decide (n < 1024)
  | .parkRelease n => decide (n < 1024)
  | .slipFault n edge => decide (n < 1024) && decide (edge < 4)
  | .causeTagExpiry n => decide (n < 1024)
  | .changeBroadcast n => decide (n < 1024)
  | .changeAtC n => decide (n < 1024)
  | .islandRecompute g => decide (g < 8)
  | .ptrCheck n upset => decide (n < 1024) && upset.all fun u => decide (u.1 < 4 ∧ u.2.2 < 16)
  | .pointerLoad n => decide (n < 1024)
  | .resyncInitiate n => decide (n < 1024)
  | .resyncReqSeen n e _ => decide (n < 1024) && decide (e < 4)
  | .resyncAckSeen n e _ => decide (n < 1024) && decide (e < 4)
  | .resyncReqLowSeen n e _ _ => decide (n < 1024) && decide (e < 4)
  | .resyncAckLowSeen n e _ => decide (n < 1024) && decide (e < 4)
  | .xingFence w => w.wf
  | .trimEnd g => decide (g < 8)
  | .alignFail g => decide (g < 8)
  | .groupTarget g target => inSet g 8 && decide (target ≤ 1536)
  | .groupStepStart g => decide (g < 8)
  | .voltConfirm g => inSet g 8
  | .voltTimeout g => inSet g 8
  | .groupStepEnd g => decide (g < 8)
  | .regionTargetN w => w.wf
  | .regionStopStart => true
  | .quiesceAck epoch => decide (epoch < 256)
  | .quiesceTimeout => true
  | .stopCommand n => decide (n < 1024)
  | .stopAck n => decide (n < 1024)
  | .regionRestart n => decide (n < 1024)
  | .restartReport n => decide (n < 1024)
  | .sweepStart n => decide (n < 1024)
  | .laneResponse n _ data => decide (n < 1024) && decide (data < 65536)
  | .windowClose n => decide (n < 1024)
  | .windowReport f => decide (f < 128)
  | .fastCapUpdate f => decide (f < 128)
  | .episodeClose g => inSet g 8
  | .thermalRead n readings => decide (n < 1024) && decide (readings.length ≤ 8)
  | .calDecision d => decide (d < 512)
  | .calSign n => decide (n < 1024)
  | .weightWindowWrite off be val => decide (off < 2 ^ 24) && decide (be < 256) && decide (val < 2 ^ 64)
  | .calResetReq w => w.wf
  | .estWeightFactory w => w.wf
  | .estShift w => w.wf
  | .slowLoopTick => true
  | .floorRateUpdate g => inSet g 8
  | .limitRecompute => true
  | .hotNAssert => true
  | .hotNRelease => true
  | .capNWindow _ => true
  | .opTable w => w.wf
  | .fixedRateEnable w => w.wf
  | .fixedRateN w => w.wf
  | .groupShare w => w.wf
  | .phaseNext q => q.wf
  | .phaseBegin q => q.wf
  | .preferredPoint q => q.wf
  | .occurrenceTimeout g => decide (g < 8)
  | .preposOffsetSet g => decide (g < 8)
  | .preposOffsetRemove g => decide (g < 8)
  | .prClear w => w.wf
  | .prRearm w => w.wf
  | .prPolicy w => w.wf
  | .phaseTableWrite off be val => decide (off < 2 ^ 24) && decide (be < 256) && decide (val < 2 ^ 64)
  | .bxRoundBoundary _ => true
  | .bxEpochLoad w => w.wf
  | .bxEpochExpired => true
  | .epochLate => true
  | .round peer frame => decide (peer < 8) && decide (frame < 2 ^ 512)
  | .directiveRead peer frame => decide (peer < 8) && decide (frame < 2 ^ 512)
  | .directiveWrite peer frame => decide (peer < 8) && decide (frame < 2 ^ 512)
  | .slackReport ns => decide (ns < 2 ^ 32)
  | .regionPartition w => w.wf
  | .reportSnapReq w => w.wf
  | .runStart w => w.wf
  | .runStop w => w.wf
  | .mark => true
  | .tlm k ch tag data => decide (k < 32) && decide (ch < 16) && decide (tag < 16) && decide (data < 2 ^ 32)
  | .identify k phases tag data => decide (k < 32) && decide (phases < 16) && decide (tag < 16) && decide (data < 2 ^ 32)
  | .readRating k tag status data => decide (k < 32) && decide (tag < 16) && decide (status < 16) && decide (data < 2 ^ 32)
  | .setVoltage k tag status => decide (k < 32) && decide (tag < 16) && decide (status < 16)
  | .readVoltage k tag status data => decide (k < 32) && decide (tag < 16) && decide (status < 16) && decide (data < 2 ^ 32)
  | .tlmEnable k tag status => decide (k < 32) && decide (tag < 16) && decide (status < 16)
  | .readStatus k tag status data => decide (k < 32) && decide (tag < 16) && decide (status < 16) && decide (data < 2 ^ 32)
  | .clearFault k tag status => decide (k < 32) && decide (tag < 16) && decide (status < 16)
  | .respTimeout k tag => decide (k < 32) && decide (tag < 16)
  | .linkSilent k => decide (k < 32)
  | .railRecover w => w.wf
  | .mbPost q => q.wf
  | .mbTake q => q.wf
  | .mbPeek q => q.wf
  | .doorbellRead q => q.wf
  | .noticeRead q => q.wf
  | .mbRemoteComplete _ => true
  | .doorbellRing q => q.wf
  | .lockAcquire q => q.wf
  | .lockRelease q => q.wf
  | .lockRead q => q.wf
  | .epReservedOp op q => decide (op < 16) && q.wf
  | .requesterReset id => decide (id < 4096)
  | .mbTimedOut m => decide (m < 64)
  | .lockForce i w => decide (i < 256) && w.wf
  | .lockHostAcquire i => decide (i < 256)
  | .lockHostRelease i val => decide (i < 256) && decide (val < 2 ^ 64)
  | .hostDbRing val => decide (val < 2 ^ 64)
  | .semaphorePost => true
  | .postStatus tag status => decide (tag < 256) && decide (status < 16)
  | .syPostTimeout tag => decide (tag < 256)
  | .dictRead q => q.wf
  | .dictWrite q => q.wf
  | .objectWrite index sub w => decide (index < 65536) && decide (sub < 256) && w.wf
  | .remoteAccessComplete _ => true
  | .expertUnlock w => w.wf
  | .expertUnlockExpiry => true
  | .persistFlush w => w.wf
  | .persistCommit => true
  | .auditSummary => true
  | .auditMerge => true
  | .idxRead addr ctl => decide (addr < 2 ^ 64) && decide (ctl < 2 ^ 64)
  | .idxWrite addr buf ctl => decide (addr < 2 ^ 64) && decide (buf < 2 ^ 131072) && decide (ctl < 2 ^ 64)
  | .idxDone => true
  | .fdpRead q => q.wf
  | .fdpWrite q => q.wf
  | .fdpSessionTimeout => true
  | .fdpResponseDrop => true
  | .fbClassic => true
  | .fbBusOff => true
  | .fbBusOffRecovery => true
  | .fondantCommit => true
  | .fondantRecordDone _ => true
  | .fondantRepair => true
  | .fondantRelocate => true
  | .fondantCredit => true
  | .pralineSnapshot => true
  | .fnSnapReq w => w.wf
  | .dailyCommit => true
  | .lcArm w => w.wf
  | .lcArmExpiry => true
  | .lcRequest w => w.wf
  | .lcTransition => true
  | .fondantWipe => true
  | .fnFormatReq w => w.wf
  | .regionCycle n io => decide (n < 1024) && io.wf
  | .damagedFrame k frame => decide (k < 32) && decide (frame < 2 ^ 64)
  | .budgetFrameDrop peer _ _ frame => decide (peer < 8) && decide (frame < 2 ^ 512)
  | .fdpMalformed q => q.wf

/-- The write that a command carries, where its row is the write of one object. -/
def Instr.write (i : Instr) : Option Wr :=
  match i with
  | .coldReset => none
  | .warmReset => none
  | .powerUp => none
  | .refSelect => none
  | .fondantMount _ _ => none
  | .excludedMapApply => none
  | .railEnumeration => none
  | .coldCalibration _ => none
  | .oscStart => none
  | .countRelease _ => none
  | .isoRelease => none
  | .mailboxOpen => none
  | .startRamp => none
  | .blockReady => none
  | .dictOpen => none
  | .budgetOpen => none
  | .estimatorReady => none
  | .pralineOpen => none
  | .startupWatchdog => none
  | .selfResetReq w => some w
  | .selfResetApply => none
  | .jobResetHalt => none
  | .warmRearm => none
  | .faultLine => none
  | .faultReport _ => none
  | .lineOnly => none
  | .spineRetransmit _ _ _ _ => none
  | .seqParity _ _ => none
  | .watchdog _ _ => none
  | .weightReload _ => none
  | .alertAck w => some w
  | .alertHoldExpiry => none
  | .injDsReading w => some w
  | .injTsReading w => some w
  | .injRefALoss w => some w
  | .injRefBLoss w => some w
  | .injSlip w => some w
  | .injRzCrc w => some w
  | .injFnRecord w => some w
  | .injSramBit w => some w
  | .injSpineParity w => some w
  | .injEstOverflow w => some w
  | .injFdpFraming w => some w
  | .injExpired => none
  | .fieldTestExpiry => none
  | .domainTarget w => some w
  | .powerStepWaitEnd _ => none
  | .pdAckChange _ _ _ => none
  | .pdTimeout _ => none
  | .refMissingEdge _ => none
  | .refFreqWindow _ _ _ => none
  | .holdoverRelock => none
  | .ctlShortStopEnd _ => none
  | .refQualified _ => none
  | .holdoverCeilingRemove _ => none
  | .refPrefer w => some w
  | .intoscMeasure _ => none
  | .timeMark => none
  | .timeCorrection _ => none
  | .timeSet w => some w
  | .timeOffsetAdj w => some w
  | .ppsCapture _ => none
  | .tsCapture _ => none
  | .fllGateEnd _ => none
  | .sigmaDeltaSlot _ => none
  | .oscUnlock _ => none
  | .oscCeiling _ => none
  | .calOffsetUpdate _ => none
  | .headroomReport _ => none
  | .ageDue _ => none
  | .ageSampleReq w => some w
  | .ageSampleDone _ _ => none
  | .startFail _ => none
  | .droopTrip _ _ _ => none
  | .droopRunEnd _ => none
  | .dsStuck _ _ => none
  | .dsQuarantineClear w => some w
  | .dsEnable w => some w
  | .park _ => none
  | .parkRelease _ => none
  | .slipFault _ _ => none
  | .causeTagExpiry _ => none
  | .changeBroadcast _ => none
  | .changeAtC _ => none
  | .islandRecompute _ => none
  | .ptrCheck _ _ => none
  | .pointerLoad _ => none
  | .resyncInitiate _ => none
  | .resyncReqSeen _ _ _ => none
  | .resyncAckSeen _ _ _ => none
  | .resyncReqLowSeen _ _ _ _ => none
  | .resyncAckLowSeen _ _ _ => none
  | .xingFence w => some w
  | .trimEnd _ => none
  | .alignFail _ => none
  | .groupTarget _ _ => none
  | .groupStepStart _ => none
  | .voltConfirm _ => none
  | .voltTimeout _ => none
  | .groupStepEnd _ => none
  | .regionTargetN w => some w
  | .regionStopStart => none
  | .quiesceAck _ => none
  | .quiesceTimeout => none
  | .stopCommand _ => none
  | .stopAck _ => none
  | .regionRestart _ => none
  | .restartReport _ => none
  | .sweepStart _ => none
  | .laneResponse _ _ _ => none
  | .windowClose _ => none
  | .windowReport _ => none
  | .fastCapUpdate _ => none
  | .episodeClose _ => none
  | .thermalRead _ _ => none
  | .calDecision _ => none
  | .calSign _ => none
  | .weightWindowWrite _ _ _ => none
  | .calResetReq w => some w
  | .estWeightFactory w => some w
  | .estShift w => some w
  | .slowLoopTick => none
  | .floorRateUpdate _ => none
  | .limitRecompute => none
  | .hotNAssert => none
  | .hotNRelease => none
  | .capNWindow _ => none
  | .opTable w => some w
  | .fixedRateEnable w => some w
  | .fixedRateN w => some w
  | .groupShare w => some w
  | .phaseNext _ => none
  | .phaseBegin _ => none
  | .preferredPoint _ => none
  | .occurrenceTimeout _ => none
  | .preposOffsetSet _ => none
  | .preposOffsetRemove _ => none
  | .prClear w => some w
  | .prRearm w => some w
  | .prPolicy w => some w
  | .phaseTableWrite _ _ _ => none
  | .bxRoundBoundary _ => none
  | .bxEpochLoad w => some w
  | .bxEpochExpired => none
  | .epochLate => none
  | .round _ _ => none
  | .directiveRead _ _ => none
  | .directiveWrite _ _ => none
  | .slackReport _ => none
  | .regionPartition w => some w
  | .reportSnapReq w => some w
  | .runStart w => some w
  | .runStop w => some w
  | .mark => none
  | .tlm _ _ _ _ => none
  | .identify _ _ _ _ => none
  | .readRating _ _ _ _ => none
  | .setVoltage _ _ _ => none
  | .readVoltage _ _ _ _ => none
  | .tlmEnable _ _ _ => none
  | .readStatus _ _ _ _ => none
  | .clearFault _ _ _ => none
  | .respTimeout _ _ => none
  | .linkSilent _ => none
  | .railRecover w => some w
  | .mbPost _ => none
  | .mbTake _ => none
  | .mbPeek _ => none
  | .doorbellRead _ => none
  | .noticeRead _ => none
  | .mbRemoteComplete _ => none
  | .doorbellRing _ => none
  | .lockAcquire _ => none
  | .lockRelease _ => none
  | .lockRead _ => none
  | .epReservedOp _ _ => none
  | .requesterReset _ => none
  | .mbTimedOut _ => none
  | .lockForce _ w => some w
  | .lockHostAcquire _ => none
  | .lockHostRelease _ _ => none
  | .hostDbRing _ => none
  | .semaphorePost => none
  | .postStatus _ _ => none
  | .syPostTimeout _ => none
  | .dictRead _ => none
  | .dictWrite _ => none
  | .objectWrite _ _ w => some w
  | .remoteAccessComplete _ => none
  | .expertUnlock w => some w
  | .expertUnlockExpiry => none
  | .persistFlush w => some w
  | .persistCommit => none
  | .auditSummary => none
  | .auditMerge => none
  | .idxRead _ _ => none
  | .idxWrite _ _ _ => none
  | .idxDone => none
  | .fdpRead _ => none
  | .fdpWrite _ => none
  | .fdpSessionTimeout => none
  | .fdpResponseDrop => none
  | .fbClassic => none
  | .fbBusOff => none
  | .fbBusOffRecovery => none
  | .fondantCommit => none
  | .fondantRecordDone _ => none
  | .fondantRepair => none
  | .fondantRelocate => none
  | .fondantCredit => none
  | .pralineSnapshot => none
  | .fnSnapReq w => some w
  | .dailyCommit => none
  | .lcArm w => some w
  | .lcArmExpiry => none
  | .lcRequest w => some w
  | .lcTransition => none
  | .fondantWipe => none
  | .fnFormatReq w => some w
  | .regionCycle _ _ => none
  | .damagedFrame _ _ => none
  | .budgetFrameDrop _ _ _ _ => none
  | .fdpMalformed _ => none

end Sys2Proof
end

