-- ==== Sys2Proof/Laws/PerInstr.lean ====
section
/-! SUPPORT. The family Operands: a well-formed command that carries a write carries a value of the length it states, at an
element of 16 bits. -/

set_option Elab.async false

namespace Sys2Proof.Laws.Operands
open Sys2Proof

/-- What is said of each command. -/
def Statement (i : Instr) : Prop :=
  i.wf = true → ∀ w, i.write = some w → w.el < 65536 ∧ w.len ≤ 32768 ∧ w.val < 256 ^ w.len

/-- What well-formedness of a write says. -/
theorem of_wr {w : Wr} (h : w.wf = true) : w.el < 65536 ∧ w.len ≤ 32768 ∧ w.val < 256 ^ w.len := by
  simp only [Wr.wf, Bool.and_eq_true, decide_eq_true_eq] at h
  exact ⟨h.1.1.2, h.1.2, h.2⟩

/-- A command that carries no write. -/
theorem of_none {i : Instr} (h : i.write = none) : Statement i := fun _ w hw => by rw [h] at hw; cases hw

/-- A command whose well-formedness is that of its write. -/
theorem of_write {i : Instr} {w : Wr} (hw : i.write = some w) (h : i.wf = true → w.wf = true) : Statement i := fun hi w' hw' => by
  rw [hw] at hw'
  cases hw'
  exact of_wr (h hi)

theorem coldReset : Statement (.coldReset) := of_none rfl
theorem warmReset : Statement (.warmReset) := of_none rfl
theorem powerUp : Statement (.powerUp) := of_none rfl
theorem refSelect : Statement (.refSelect) := of_none rfl
theorem fondantMount (a : FlashDev) (b : FlashDev) : Statement (.fondantMount a b) := of_none rfl
theorem excludedMapApply : Statement (.excludedMapApply) := of_none rfl
theorem railEnumeration : Statement (.railEnumeration) := of_none rfl
theorem coldCalibration (meas : List CalMeas) : Statement (.coldCalibration meas) := of_none rfl
theorem oscStart : Statement (.oscStart) := of_none rfl
theorem countRelease (n : Nat) : Statement (.countRelease n) := of_none rfl
theorem isoRelease : Statement (.isoRelease) := of_none rfl
theorem mailboxOpen : Statement (.mailboxOpen) := of_none rfl
theorem startRamp : Statement (.startRamp) := of_none rfl
theorem blockReady : Statement (.blockReady) := of_none rfl
theorem dictOpen : Statement (.dictOpen) := of_none rfl
theorem budgetOpen : Statement (.budgetOpen) := of_none rfl
theorem estimatorReady : Statement (.estimatorReady) := of_none rfl
theorem pralineOpen : Statement (.pralineOpen) := of_none rfl
theorem startupWatchdog : Statement (.startupWatchdog) := of_none rfl
theorem selfResetReq (w : Wr) : Statement (.selfResetReq w) := of_write rfl id
theorem selfResetApply : Statement (.selfResetApply) := of_none rfl
theorem jobResetHalt : Statement (.jobResetHalt) := of_none rfl
theorem warmRearm : Statement (.warmRearm) := of_none rfl
theorem faultLine : Statement (.faultLine) := of_none rfl
theorem faultReport (k : Nat) : Statement (.faultReport k) := of_none rfl
theorem lineOnly : Statement (.lineOnly) := of_none rfl
theorem spineRetransmit (src dst : Nat × Nat) (m : HopMsg) (x : HopTry) : Statement (.spineRetransmit src dst m x) := of_none rfl
theorem seqParity (code : Nat) (elem : Nat) : Statement (.seqParity code elem) := of_none rfl
theorem watchdog (q : SeqId) (us : Nat) : Statement (.watchdog q us) := of_none rfl
theorem weightReload (n : Nat) : Statement (.weightReload n) := of_none rfl
theorem alertAck (w : Wr) : Statement (.alertAck w) := of_write rfl id
theorem alertHoldExpiry : Statement (.alertHoldExpiry) := of_none rfl
theorem injDsReading (w : Wr) : Statement (.injDsReading w) := of_write rfl id
theorem injTsReading (w : Wr) : Statement (.injTsReading w) := of_write rfl id
theorem injRefALoss (w : Wr) : Statement (.injRefALoss w) := of_write rfl id
theorem injRefBLoss (w : Wr) : Statement (.injRefBLoss w) := of_write rfl id
theorem injSlip (w : Wr) : Statement (.injSlip w) := of_write rfl id
theorem injRzCrc (w : Wr) : Statement (.injRzCrc w) := of_write rfl id
theorem injFnRecord (w : Wr) : Statement (.injFnRecord w) := of_write rfl id
theorem injSramBit (w : Wr) : Statement (.injSramBit w) := of_write rfl id
theorem injSpineParity (w : Wr) : Statement (.injSpineParity w) := of_write rfl id
theorem injEstOverflow (w : Wr) : Statement (.injEstOverflow w) := of_write rfl id
theorem injFdpFraming (w : Wr) : Statement (.injFdpFraming w) := of_write rfl id
theorem injExpired : Statement (.injExpired) := of_none rfl
theorem fieldTestExpiry : Statement (.fieldTestExpiry) := of_none rfl
theorem domainTarget (w : Wr) : Statement (.domainTarget w) := of_write rfl id
theorem powerStepWaitEnd (d : Nat) : Statement (.powerStepWaitEnd d) := of_none rfl
theorem pdAckChange (d : Nat) (rtr : Bool) (level : Bool) : Statement (.pdAckChange d rtr level) := of_none rfl
theorem pdTimeout (d : Nat) : Statement (.pdTimeout d) := of_none rfl
theorem refMissingEdge (b : Bool) : Statement (.refMissingEdge b) := of_none rfl
theorem refFreqWindow (b : Bool) (err : Int) (raw : Int) : Statement (.refFreqWindow b err raw) := of_none rfl
theorem holdoverRelock : Statement (.holdoverRelock) := of_none rfl
theorem ctlShortStopEnd (us : Nat) : Statement (.ctlShortStopEnd us) := of_none rfl
theorem refQualified (b : Bool) : Statement (.refQualified b) := of_none rfl
theorem holdoverCeilingRemove (g : Nat) : Statement (.holdoverCeilingRemove g) := of_none rfl
theorem refPrefer (w : Wr) : Statement (.refPrefer w) := of_write rfl id
theorem intoscMeasure (err : Int) : Statement (.intoscMeasure err) := of_none rfl
theorem timeMark : Statement (.timeMark) := of_none rfl
theorem timeCorrection (x : CorrIn) : Statement (.timeCorrection x) := of_none rfl
theorem timeSet (w : Wr) : Statement (.timeSet w) := of_write rfl id
theorem timeOffsetAdj (w : Wr) : Statement (.timeOffsetAdj w) := of_write rfl id
theorem ppsCapture (dt : Nat) : Statement (.ppsCapture dt) := of_none rfl
theorem tsCapture (dt : Nat) : Statement (.tsCapture dt) := of_none rfl
theorem fllGateEnd (n : Nat) : Statement (.fllGateEnd n) := of_none rfl
theorem sigmaDeltaSlot (n : Nat) : Statement (.sigmaDeltaSlot n) := of_none rfl
theorem oscUnlock (n : Nat) : Statement (.oscUnlock n) := of_none rfl
theorem oscCeiling (n : Nat) : Statement (.oscCeiling n) := of_none rfl
theorem calOffsetUpdate (n : Nat) : Statement (.calOffsetUpdate n) := of_none rfl
theorem headroomReport (n : Nat) : Statement (.headroomReport n) := of_none rfl
theorem ageDue (n : Nat) : Statement (.ageDue n) := of_none rfl
theorem ageSampleReq (w : Wr) : Statement (.ageSampleReq w) := of_write rfl id
theorem ageSampleDone (n : Nat) (ratio : Nat) : Statement (.ageSampleDone n ratio) := of_none rfl
theorem startFail (n : Nat) : Statement (.startFail n) := of_none rfl
theorem droopTrip (n : Nat) (readings : List (Nat × Nat)) (early : Bool) : Statement (.droopTrip n readings early) := of_none rfl
theorem droopRunEnd (n : Nat) : Statement (.droopRunEnd n) := of_none rfl
theorem dsStuck (n : Nat) (sensor : Nat) : Statement (.dsStuck n sensor) := of_none rfl
theorem dsQuarantineClear (w : Wr) : Statement (.dsQuarantineClear w) := of_write rfl id
theorem dsEnable (w : Wr) : Statement (.dsEnable w) := of_write rfl id
theorem park (n : Nat) : Statement (.park n) := of_none rfl
theorem parkRelease (n : Nat) : Statement (.parkRelease n) := of_none rfl
theorem slipFault (n : Nat) (edge : Nat) : Statement (.slipFault n edge) := of_none rfl
theorem causeTagExpiry (n : Nat) : Statement (.causeTagExpiry n) := of_none rfl
theorem changeBroadcast (n : Nat) : Statement (.changeBroadcast n) := of_none rfl
theorem changeAtC (n : Nat) : Statement (.changeAtC n) := of_none rfl
theorem islandRecompute (g : Nat) : Statement (.islandRecompute g) := of_none rfl
theorem ptrCheck (n : Nat) (upset : List (Nat × Bool × Nat)) : Statement (.ptrCheck n upset) := of_none rfl
theorem pointerLoad (n : Nat) : Statement (.pointerLoad n) := of_none rfl
theorem resyncInitiate (n : Nat) : Statement (.resyncInitiate n) := of_none rfl
theorem resyncReqSeen (n : Nat) (e : Nat) (wr : Bool) : Statement (.resyncReqSeen n e wr) := of_none rfl
theorem resyncAckSeen (n : Nat) (e : Nat) (wr : Bool) : Statement (.resyncAckSeen n e wr) := of_none rfl
theorem resyncReqLowSeen (n : Nat) (e : Nat) (wr : Bool) (u : Unit) : Statement (.resyncReqLowSeen n e wr u) := of_none rfl
theorem resyncAckLowSeen (n : Nat) (e : Nat) (wr : Bool) : Statement (.resyncAckLowSeen n e wr) := of_none rfl
theorem xingFence (w : Wr) : Statement (.xingFence w) := of_write rfl id
theorem trimEnd (g : Nat) : Statement (.trimEnd g) := of_none rfl
theorem alignFail (g : Nat) : Statement (.alignFail g) := of_none rfl
theorem groupTarget (g : Nat) (target : Nat) : Statement (.groupTarget g target) := of_none rfl
theorem groupStepStart (g : Nat) : Statement (.groupStepStart g) := of_none rfl
theorem voltConfirm (g : Nat) : Statement (.voltConfirm g) := of_none rfl
theorem voltTimeout (g : Nat) : Statement (.voltTimeout g) := of_none rfl
theorem groupStepEnd (g : Nat) : Statement (.groupStepEnd g) := of_none rfl
theorem regionTargetN (w : Wr) : Statement (.regionTargetN w) := of_write rfl id
theorem regionStopStart : Statement (.regionStopStart) := of_none rfl
theorem quiesceAck (epoch : Nat) : Statement (.quiesceAck epoch) := of_none rfl
theorem quiesceTimeout : Statement (.quiesceTimeout) := of_none rfl
theorem stopCommand (n : Nat) : Statement (.stopCommand n) := of_none rfl
theorem stopAck (n : Nat) : Statement (.stopAck n) := of_none rfl
theorem regionRestart (n : Nat) : Statement (.regionRestart n) := of_none rfl
theorem restartReport (n : Nat) : Statement (.restartReport n) := of_none rfl
theorem sweepStart (n : Nat) : Statement (.sweepStart n) := of_none rfl
theorem laneResponse (n : Nat) (vld : Bool) (data : Nat) : Statement (.laneResponse n vld data) := of_none rfl
theorem windowClose (n : Nat) : Statement (.windowClose n) := of_none rfl
theorem windowReport (f : Nat) : Statement (.windowReport f) := of_none rfl
theorem fastCapUpdate (f : Nat) : Statement (.fastCapUpdate f) := of_none rfl
theorem episodeClose (g : Nat) : Statement (.episodeClose g) := of_none rfl
theorem thermalRead (n : Nat) (readings : List TsReading) : Statement (.thermalRead n readings) := of_none rfl
theorem calDecision (d : Nat) : Statement (.calDecision d) := of_none rfl
theorem calSign (n : Nat) : Statement (.calSign n) := of_none rfl
theorem weightWindowWrite (off : Nat) (be : Nat) (val : Nat) : Statement (.weightWindowWrite off be val) := of_none rfl
theorem calResetReq (w : Wr) : Statement (.calResetReq w) := of_write rfl id
theorem estWeightFactory (w : Wr) : Statement (.estWeightFactory w) := of_write rfl id
theorem estShift (w : Wr) : Statement (.estShift w) := of_write rfl id
theorem slowLoopTick : Statement (.slowLoopTick) := of_none rfl
theorem floorRateUpdate (g : Nat) : Statement (.floorRateUpdate g) := of_none rfl
theorem limitRecompute : Statement (.limitRecompute) := of_none rfl
theorem hotNAssert : Statement (.hotNAssert) := of_none rfl
theorem hotNRelease : Statement (.hotNRelease) := of_none rfl
theorem capNWindow (low : Bool) : Statement (.capNWindow low) := of_none rfl
theorem opTable (w : Wr) : Statement (.opTable w) := of_write rfl id
theorem fixedRateEnable (w : Wr) : Statement (.fixedRateEnable w) := of_write rfl id
theorem fixedRateN (w : Wr) : Statement (.fixedRateN w) := of_write rfl id
theorem groupShare (w : Wr) : Statement (.groupShare w) := of_write rfl id
theorem phaseNext (q : EpReq) : Statement (.phaseNext q) := of_none rfl
theorem phaseBegin (q : EpReq) : Statement (.phaseBegin q) := of_none rfl
theorem preferredPoint (q : EpReq) : Statement (.preferredPoint q) := of_none rfl
theorem occurrenceTimeout (g : Nat) : Statement (.occurrenceTimeout g) := of_none rfl
theorem preposOffsetSet (g : Nat) : Statement (.preposOffsetSet g) := of_none rfl
theorem preposOffsetRemove (g : Nat) : Statement (.preposOffsetRemove g) := of_none rfl
theorem prClear (w : Wr) : Statement (.prClear w) := of_write rfl id
theorem prRearm (w : Wr) : Statement (.prRearm w) := of_write rfl id
theorem prPolicy (w : Wr) : Statement (.prPolicy w) := of_write rfl id
theorem phaseTableWrite (off : Nat) (be : Nat) (val : Nat) : Statement (.phaseTableWrite off be val) := of_none rfl
theorem bxRoundBoundary (stalled : Nat) : Statement (.bxRoundBoundary stalled) := of_none rfl
theorem bxEpochLoad (w : Wr) : Statement (.bxEpochLoad w) := of_write rfl id
theorem bxEpochExpired : Statement (.bxEpochExpired) := of_none rfl
theorem epochLate : Statement (.epochLate) := of_none rfl
theorem round (peer : Nat) (frame : Nat) : Statement (.round peer frame) := of_none rfl
theorem directiveRead (peer : Nat) (frame : Nat) : Statement (.directiveRead peer frame) := of_none rfl
theorem directiveWrite (peer : Nat) (frame : Nat) : Statement (.directiveWrite peer frame) := of_none rfl
theorem slackReport (ns : Nat) : Statement (.slackReport ns) := of_none rfl
theorem regionPartition (w : Wr) : Statement (.regionPartition w) := of_write rfl id
theorem reportSnapReq (w : Wr) : Statement (.reportSnapReq w) := of_write rfl id
theorem runStart (w : Wr) : Statement (.runStart w) := of_write rfl id
theorem runStop (w : Wr) : Statement (.runStop w) := of_write rfl id
theorem mark : Statement (.mark) := of_none rfl
theorem tlm (k : Nat) (ch : Nat) (tag : Nat) (data : Nat) : Statement (.tlm k ch tag data) := of_none rfl
theorem identify (k : Nat) (phases : Nat) (tag : Nat) (data : Nat) : Statement (.identify k phases tag data) := of_none rfl
theorem readRating (k : Nat) (tag : Nat) (status : Nat) (data : Nat) : Statement (.readRating k tag status data) := of_none rfl
theorem setVoltage (k : Nat) (tag : Nat) (status : Nat) : Statement (.setVoltage k tag status) := of_none rfl
theorem readVoltage (k : Nat) (tag : Nat) (status : Nat) (data : Nat) : Statement (.readVoltage k tag status data) := of_none rfl
theorem tlmEnable (k : Nat) (tag : Nat) (status : Nat) : Statement (.tlmEnable k tag status) := of_none rfl
theorem readStatus (k : Nat) (tag : Nat) (status : Nat) (data : Nat) : Statement (.readStatus k tag status data) := of_none rfl
theorem clearFault (k : Nat) (tag : Nat) (status : Nat) : Statement (.clearFault k tag status) := of_none rfl
theorem respTimeout (k : Nat) (tag : Nat) : Statement (.respTimeout k tag) := of_none rfl
theorem linkSilent (k : Nat) : Statement (.linkSilent k) := of_none rfl
theorem railRecover (w : Wr) : Statement (.railRecover w) := of_write rfl id
theorem mbPost (q : EpReq) : Statement (.mbPost q) := of_none rfl
theorem mbTake (q : EpReq) : Statement (.mbTake q) := of_none rfl
theorem mbPeek (q : EpReq) : Statement (.mbPeek q) := of_none rfl
theorem doorbellRead (q : EpReq) : Statement (.doorbellRead q) := of_none rfl
theorem noticeRead (q : EpReq) : Statement (.noticeRead q) := of_none rfl
theorem mbRemoteComplete (i : Nat) : Statement (.mbRemoteComplete i) := of_none rfl
theorem doorbellRing (q : EpReq) : Statement (.doorbellRing q) := of_none rfl
theorem lockAcquire (q : EpReq) : Statement (.lockAcquire q) := of_none rfl
theorem lockRelease (q : EpReq) : Statement (.lockRelease q) := of_none rfl
theorem lockRead (q : EpReq) : Statement (.lockRead q) := of_none rfl
theorem epReservedOp (op : Nat) (q : EpReq) : Statement (.epReservedOp op q) := of_none rfl
theorem requesterReset (id : Nat) : Statement (.requesterReset id) := of_none rfl
theorem mbTimedOut (m : Nat) : Statement (.mbTimedOut m) := of_none rfl
theorem lockForce (i : Nat) (w : Wr) : Statement (.lockForce i w) := of_write rfl fun h => (Bool.and_eq_true _ _ ▸ h).2
theorem lockHostAcquire (i : Nat) : Statement (.lockHostAcquire i) := of_none rfl
theorem lockHostRelease (i : Nat) (val : Nat) : Statement (.lockHostRelease i val) := of_none rfl
theorem hostDbRing (val : Nat) : Statement (.hostDbRing val) := of_none rfl
theorem semaphorePost : Statement (.semaphorePost) := of_none rfl
theorem postStatus (tag : Nat) (status : Nat) : Statement (.postStatus tag status) := of_none rfl
theorem syPostTimeout (tag : Nat) : Statement (.syPostTimeout tag) := of_none rfl
theorem dictRead (q : EpReq) : Statement (.dictRead q) := of_none rfl
theorem dictWrite (q : EpReq) : Statement (.dictWrite q) := of_none rfl
theorem objectWrite (index : Nat) (sub : Nat) (w : Wr) : Statement (.objectWrite index sub w) := of_write rfl fun h => (Bool.and_eq_true _ _ ▸ h).2
theorem remoteAccessComplete (i : Nat) : Statement (.remoteAccessComplete i) := of_none rfl
theorem expertUnlock (w : Wr) : Statement (.expertUnlock w) := of_write rfl id
theorem expertUnlockExpiry : Statement (.expertUnlockExpiry) := of_none rfl
theorem persistFlush (w : Wr) : Statement (.persistFlush w) := of_write rfl id
theorem persistCommit : Statement (.persistCommit) := of_none rfl
theorem auditSummary : Statement (.auditSummary) := of_none rfl
theorem auditMerge : Statement (.auditMerge) := of_none rfl
theorem idxRead (addr : Nat) (ctl : Nat) : Statement (.idxRead addr ctl) := of_none rfl
theorem idxWrite (addr : Nat) (buf : Nat) (ctl : Nat) : Statement (.idxWrite addr buf ctl) := of_none rfl
theorem idxDone : Statement (.idxDone) := of_none rfl
theorem fdpRead (q : FdpFrame) : Statement (.fdpRead q) := of_none rfl
theorem fdpWrite (q : FdpFrame) : Statement (.fdpWrite q) := of_none rfl
theorem fdpSessionTimeout : Statement (.fdpSessionTimeout) := of_none rfl
theorem fdpResponseDrop : Statement (.fdpResponseDrop) := of_none rfl
theorem fbClassic : Statement (.fbClassic) := of_none rfl
theorem fbBusOff : Statement (.fbBusOff) := of_none rfl
theorem fbBusOffRecovery : Statement (.fbBusOffRecovery) := of_none rfl
theorem fondantCommit : Statement (.fondantCommit) := of_none rfl
theorem fondantRecordDone (ok : Bool) : Statement (.fondantRecordDone ok) := of_none rfl
theorem fondantRepair : Statement (.fondantRepair) := of_none rfl
theorem fondantRelocate : Statement (.fondantRelocate) := of_none rfl
theorem fondantCredit : Statement (.fondantCredit) := of_none rfl
theorem pralineSnapshot : Statement (.pralineSnapshot) := of_none rfl
theorem fnSnapReq (w : Wr) : Statement (.fnSnapReq w) := of_write rfl id
theorem dailyCommit : Statement (.dailyCommit) := of_none rfl
theorem lcArm (w : Wr) : Statement (.lcArm w) := of_write rfl id
theorem lcArmExpiry : Statement (.lcArmExpiry) := of_none rfl
theorem lcRequest (w : Wr) : Statement (.lcRequest w) := of_write rfl id
theorem lcTransition : Statement (.lcTransition) := of_none rfl
theorem fondantWipe : Statement (.fondantWipe) := of_none rfl
theorem fnFormatReq (w : Wr) : Statement (.fnFormatReq w) := of_write rfl id
theorem regionCycle (n : Nat) (io : CycleIn) : Statement (.regionCycle n io) := of_none rfl
theorem damagedFrame (k : Nat) (frame : Nat) : Statement (.damagedFrame k frame) := of_none rfl
theorem budgetFrameDrop (peer : Nat) (beats : Nat) (err : Bool) (frame : Nat) : Statement (.budgetFrameDrop peer beats err frame) := of_none rfl
theorem fdpMalformed (q : FdpFrame) : Statement (.fdpMalformed q) := of_none rfl

end Sys2Proof.Laws.Operands
end

