-- ==== Sys2Proof/Tests/Slice0.lean ====
section
/-! SUPPORT. The model's own tests: a small block to try the commands on, an ill-formed command for each check of
`Instr.wf`, a state and operands for every statement that has hypotheses, and single steps whose results the spec
states. -/

set_option Elab.async false
set_option linter.unusedVariables false

namespace Sys2Proof.Tests
open Sys2Proof Sys2Proof.Machine

/-! ### A small block: two regions side by side, one field, domain, rail, group, link, two mailboxes -/

/-- A key with a value. -/
def kv (o : Obj) (v : Nat) (e : Nat := 0) (i : Nat := 0) : Nat × Nat := (objKey o e i, v)

/-- An operating-point table of six valid entries, at 170 to 175 codes and ratios 160 to 960 (R266); the others hold the least
ratio (R267). -/
def opt : Nat :=
  (List.range 6).foldl (fun a i => a + (2 ^ 31 + 200 * 2 ^ 20 + (170 + i) * 2 ^ 11 + 160 * (i + 1)) * 2 ^ (32 * i))
    ((List.range 26).foldl (fun a i => a + 160 * 2 ^ (32 * (i + 6))) 0)

/-- 512 weights of 256. -/
def wts : Nat := (List.range 512).foldl (fun a i => a + 256 * 2 ^ (16 * i)) 0

/-- The build. -/
def tb : Build where
  vals := [kv .NUM_REGIONS 2, kv .NUM_FIELDS 1, kv .NUM_DOMAINS 1, kv .NUM_RAILS 1, kv .NUM_GROUPS 1, kv .NUM_MAILBOXES 2,
    kv .NUM_PARTITIONS 4, kv .REGION_PRESENT 1, kv .REGION_PRESENT 1 1, kv .REGION_LANES 4, kv .REGION_LANES 4 1,
    kv .DS_COUNT 6, kv .DS_COUNT 6 1, kv .DS_ENABLE 63, kv .DS_ENABLE 63 1,
    kv .DS_ROUTER_MASK 3, kv .DS_ROUTER_MASK 3 1, kv .TS_COUNT 1, kv .TS_COUNT 1 1,
    kv .NEIGHBOUR 0xFFFF 0 0, kv .NEIGHBOUR 1 0 1, kv .NEIGHBOUR 0xFFFF 0 2, kv .NEIGHBOUR 0xFFFF 0 3,
    kv .NEIGHBOUR 0xFFFF 1 0, kv .NEIGHBOUR 0xFFFF 1 1, kv .NEIGHBOUR 0xFFFF 1 2, kv .NEIGHBOUR 0 1 3,
    kv .LINKS 1 0 1, kv .LINKS 1 1 3, kv .FIELD_REGION_MASK 3, kv .DOMAIN_REGION_COUNT 2, kv .GUARANTEED_N 160,
    kv .OP_TABLE opt, kv .EST_WEIGHT_FACTORY wts, kv .EST_WEIGHT wts, kv .REGION_PMAX 50000, kv .REGION_PMAX 50000 1].foldl
      (fun t x => Tab.set t x.1 x.2 0) []

/-- The block before anything has happened. -/
def z : State := State.zero tb

/-- The block in service, 100 s after its reset: every unit ready, both regions locked in group 0, REFA selected. -/
def u : State :=
  (((((((({ z with
            su := { released := true, everReady := true, excludedApplied := true }
            clock := { T := 1600000000, up := 100000000 }
            fdp := { standby := false } }).wr .UNIT_READY 0x3FFFF).wr .START_STATE 4).wr .LC_STATE 1).wr .EXPERT_UNLOCK 1).wr
          .OSC_STATUS 7).wr .OSC_STATUS 7 1).wr .TETHER_GROUP_ACTIVE 0).wr .REF_STATUS 0x11 |>.wr .FN_STATUS 0x1F

/-- `u` with a step of group 0 from 1000 toward 500 due. -/
def us : State := (u.wr .GROUP_N 1000).modG 0 fun g => { g with islands := [(0, 1)], pending := some 500 }

/-- `u` with a threshold of 20 taps at full depth (R101). -/
def ut : State := u.wr .DS_THRESH (20 + 3 * 2 ^ 8)

/-- `u` with engine 5 as the coordinator in peer slot 7 (R332). -/
def ub : State := { ((u.wr .BX_ENABLE 1).wr .BX_N_GRANT_MIN 0).wr .BX_N_GRANT_MAX 200000 with budget := { slots := [(7, { peer := 2 ^ 31 + 2 ^ 30 + 5 })], engine := 9 } }

/-- A DIRECTIVE frame from engine 5 to engine 9 with SEQ 1: operation, index, subindex and value, closed by its CRC (R326,
R330). -/
def dirFrame (op ix sub v : Nat) : Nat :=
  let x := 0xB7 + 2 ^ 8 + 2 * 2 ^ 16 + 5 * 2 ^ 80 + 9 * 2 ^ 96 + 2 ^ 128 + ix * 2 ^ 192 + sub * 2 ^ 208 + op * 2 ^ 216 + v * 2 ^ 256
  x + crc32 x 60 * 2 ^ 480

/-- The bytes of an FDP request (R462): operation, flags, index, subindex, length and value. -/
def fdpData (op fl ix sub len v : Nat) : Nat := op + fl * 2 ^ 8 + ix * 2 ^ 16 + sub * 2 ^ 32 + len * 2 ^ 80 + v * 2 ^ 128

/-! ### Well-formedness: every check of `Instr.wf` refuses a command that breaks it alone -/

/-- Commands with one operand at the first value outside its range. -/
theorem test_wf_refuses_1 : ([
    .fondantMount { sectors := 2 ^ 20 + 1 } {}, .fondantMount {} { sectors := 2 ^ 20 + 1 }, .coldCalibration [{}],
    .countRelease 1024, .selfResetReq { el := 65536 }, .spineRetransmit (4, 0) (0, 0) {} {},
    .spineRetransmit (0, 1024) (0, 0) {} {}, .spineRetransmit (0, 0) (4, 0) {} {},
    .spineRetransmit (0, 0) (0, 1024) {} {}, .spineRetransmit (0, 0) (0, 0) { msg := 2 ^ 64 } {}, .seqParity 12 0,
    .seqParity 0 128, .watchdog ⟨12, 0⟩ 0, .watchdog ⟨0, 128⟩ 0, .weightReload 1024, .alertAck { el := 65536 },
    .injDsReading { el := 65536 }, .injTsReading { el := 65536 }, .injRefALoss { el := 65536 },
    .injRefBLoss { el := 65536 }, .injSlip { el := 65536 }, .injRzCrc { el := 65536 }, .injFnRecord { el := 65536 },
    .injSramBit { el := 65536 }
    ] : List Instr).all (fun i => !i.wf) = true := by decide +kernel

/-- Commands with one operand at the first value outside its range. -/
theorem test_wf_refuses_2 : ([
    .injSpineParity { el := 65536 }, .injEstOverflow { el := 65536 }, .injFdpFraming { el := 65536 },
    .domainTarget { el := 65536 }, .powerStepWaitEnd 512, .pdAckChange 512 false false, .pdTimeout 512,
    .holdoverCeilingRemove 8, .refPrefer { el := 65536 }, .timeCorrection { region := 1024 },
    .timeCorrection { seq := 2 ^ 32 }, .timeSet { el := 65536 }, .timeOffsetAdj { el := 65536 }, .fllGateEnd 1024,
    .sigmaDeltaSlot 1024, .oscUnlock 1024, .oscCeiling 1024, .calOffsetUpdate 1024, .headroomReport 1024, .ageDue 1024,
    .ageSampleReq { el := 65536 }, .ageSampleDone 1024 0, .ageSampleDone 0 65536, .startFail 1024
    ] : List Instr).all (fun i => !i.wf) = true := by decide +kernel

/-- Commands with one operand at the first value outside its range. -/
theorem test_wf_refuses_3 : ([
    .droopTrip 1024 [] false, .droopTrip 0 [(16, 0)] false, .droopRunEnd 1024, .dsStuck 1024 0, .dsStuck 0 16,
    .dsQuarantineClear { el := 65536 }, .dsEnable { el := 65536 }, .park 1024, .parkRelease 1024, .slipFault 1024 0,
    .slipFault 0 4, .causeTagExpiry 1024, .changeBroadcast 1024, .changeAtC 1024, .islandRecompute 8, .ptrCheck 1024 [],
    .ptrCheck 0 [(4, true, 0)], .pointerLoad 1024, .resyncInitiate 1024, .resyncReqSeen 1024 0 false,
    .resyncReqSeen 0 4 false, .resyncAckSeen 1024 0 false, .resyncAckSeen 0 4 false, .resyncReqLowSeen 1024 0 false ()
    ] : List Instr).all (fun i => !i.wf) = true := by decide +kernel

/-- Commands with one operand at the first value outside its range. -/
theorem test_wf_refuses_4 : ([
    .resyncReqLowSeen 0 4 false (), .resyncAckLowSeen 1024 0 false, .resyncAckLowSeen 0 4 false,
    .xingFence { el := 65536 }, .trimEnd 8, .alignFail 8, .groupTarget 8 0, .groupTarget 0 1537, .groupStepStart 8,
    .voltConfirm 8, .voltTimeout 8, .groupStepEnd 8, .regionTargetN { el := 65536 }, .quiesceAck 256, .stopCommand 1024,
    .stopAck 1024, .regionRestart 1024, .restartReport 1024, .sweepStart 1024, .laneResponse 1024 false 0,
    .laneResponse 0 false 65536, .windowClose 1024, .windowReport 128, .fastCapUpdate 128
    ] : List Instr).all (fun i => !i.wf) = true := by decide +kernel

/-- Commands with one operand at the first value outside its range. -/
theorem test_wf_refuses_5 : ([
    .episodeClose 8, .thermalRead 1024 [], .thermalRead 0 [{}, {}, {}, {}, {}, {}, {}, {}, {}], .calDecision 512,
    .calSign 1024, .weightWindowWrite (2 ^ 24) 0 0, .weightWindowWrite 0 256 0, .weightWindowWrite 0 0 (2 ^ 64),
    .calResetReq { el := 65536 }, .estWeightFactory { el := 65536 }, .estShift { el := 65536 }, .floorRateUpdate 8,
    .opTable { el := 65536 }, .fixedRateEnable { el := 65536 }, .fixedRateN { el := 65536 }, .groupShare { el := 65536 },
    .phaseNext { id := 4096 }, .phaseBegin { id := 4096 }, .preferredPoint { id := 4096 }, .occurrenceTimeout 8,
    .preposOffsetSet 8, .preposOffsetRemove 8, .prClear { el := 65536 }, .prRearm { el := 65536 }
    ] : List Instr).all (fun i => !i.wf) = true := by decide +kernel

/-- Commands with one operand at the first value outside its range. -/
theorem test_wf_refuses_6 : ([
    .prPolicy { el := 65536 }, .phaseTableWrite (2 ^ 24) 0 0, .phaseTableWrite 0 256 0, .phaseTableWrite 0 0 (2 ^ 64),
    .bxEpochLoad { el := 65536 }, .round 8 0, .round 0 (2 ^ 512), .directiveRead 8 0, .directiveRead 0 (2 ^ 512),
    .directiveWrite 8 0, .directiveWrite 0 (2 ^ 512), .slackReport (2 ^ 32), .regionPartition { el := 65536 },
    .reportSnapReq { el := 65536 }, .runStart { el := 65536 }, .runStop { el := 65536 }, .tlm 32 0 0 0, .tlm 0 16 0 0,
    .tlm 0 0 16 0, .tlm 0 0 0 (2 ^ 32), .identify 32 0 0 0, .identify 0 16 0 0, .identify 0 0 16 0,
    .identify 0 0 0 (2 ^ 32)
    ] : List Instr).all (fun i => !i.wf) = true := by decide +kernel

/-- Commands with one operand at the first value outside its range. -/
theorem test_wf_refuses_7 : ([
    .readRating 32 0 0 0, .readRating 0 16 0 0, .readRating 0 0 16 0, .readRating 0 0 0 (2 ^ 32), .setVoltage 32 0 0,
    .setVoltage 0 16 0, .setVoltage 0 0 16, .readVoltage 32 0 0 0, .readVoltage 0 16 0 0, .readVoltage 0 0 16 0,
    .readVoltage 0 0 0 (2 ^ 32), .tlmEnable 32 0 0, .tlmEnable 0 16 0, .tlmEnable 0 0 16, .readStatus 32 0 0 0,
    .readStatus 0 16 0 0, .readStatus 0 0 16 0, .readStatus 0 0 0 (2 ^ 32), .clearFault 32 0 0, .clearFault 0 16 0,
    .clearFault 0 0 16, .respTimeout 32 0, .respTimeout 0 16, .linkSilent 32
    ] : List Instr).all (fun i => !i.wf) = true := by decide +kernel

/-- Commands with one operand at the first value outside its range. -/
theorem test_wf_refuses_8 : ([
    .railRecover { el := 65536 }, .mbPost { id := 4096 }, .mbTake { id := 4096 }, .mbPeek { id := 4096 },
    .doorbellRead { id := 4096 }, .noticeRead { id := 4096 }, .doorbellRing { id := 4096 }, .lockAcquire { id := 4096 },
    .lockRelease { id := 4096 }, .lockRead { id := 4096 }, .epReservedOp 16 {}, .epReservedOp 0 { id := 4096 },
    .requesterReset 4096, .mbTimedOut 64, .lockForce 256 {}, .lockForce 0 { el := 65536 }, .lockHostAcquire 256,
    .lockHostRelease 256 0, .lockHostRelease 0 (2 ^ 64), .hostDbRing (2 ^ 64), .postStatus 256 0, .postStatus 0 16,
    .syPostTimeout 256, .dictRead { id := 4096 }
    ] : List Instr).all (fun i => !i.wf) = true := by decide +kernel

/-- Commands with one operand at the first value outside its range. -/
theorem test_wf_refuses_9 : ([
    .dictWrite { id := 4096 }, .objectWrite 65536 0 {}, .objectWrite 0 256 {}, .objectWrite 0 0 { el := 65536 },
    .expertUnlock { el := 65536 }, .persistFlush { el := 65536 }, .idxRead (2 ^ 64) 0, .idxRead 0 (2 ^ 64),
    .idxWrite (2 ^ 64) 0 0, .idxWrite 0 (2 ^ 131072) 0, .idxWrite 0 0 (2 ^ 64), .fdpRead { len := 65 },
    .fdpWrite { len := 65 }, .fnSnapReq { el := 65536 }, .lcArm { el := 65536 }, .lcRequest { el := 65536 },
    .fnFormatReq { el := 65536 }, .regionCycle 1024 {}, .regionCycle 0 { late := 16 }, .damagedFrame 32 0,
    .damagedFrame 0 (2 ^ 64), .budgetFrameDrop 8 0 false 0, .budgetFrameDrop 0 0 false (2 ^ 512),
    .fdpMalformed { len := 65 }
    ] : List Instr).all (fun i => !i.wf) = true := by decide +kernel

/-- The same commands with every operand in range. -/
theorem test_wf_admits_1 : ([
    .coldReset, .warmReset, .powerUp, .refSelect, .fondantMount {} {}, .excludedMapApply, .railEnumeration,
    .coldCalibration [], .oscStart, .countRelease 0, .isoRelease, .mailboxOpen, .startRamp, .blockReady, .dictOpen,
    .budgetOpen, .estimatorReady, .pralineOpen, .startupWatchdog, .selfResetReq {}, .selfResetApply, .jobResetHalt,
    .warmRearm, .faultLine, .faultReport 0, .lineOnly, .spineRetransmit (0, 0) (0, 0) {} {}, .seqParity 0 0,
    .watchdog ⟨0, 0⟩ 0, .weightReload 0, .alertAck {}, .alertHoldExpiry, .injDsReading {}, .injTsReading {},
    .injRefALoss {}, .injRefBLoss {}, .injSlip {}, .injRzCrc {}, .injFnRecord {}, .injSramBit {}
    ] : List Instr).all Instr.wf = true := by decide +kernel

/-- The same commands with every operand in range. -/
theorem test_wf_admits_2 : ([
    .injSpineParity {}, .injEstOverflow {}, .injFdpFraming {}, .injExpired, .fieldTestExpiry, .domainTarget {},
    .powerStepWaitEnd 0, .pdAckChange 0 false false, .pdTimeout 0, .refMissingEdge false, .refFreqWindow false 0 0,
    .holdoverRelock, .ctlShortStopEnd 0, .refQualified false, .holdoverCeilingRemove 0, .refPrefer {}, .intoscMeasure 0,
    .timeMark, .timeCorrection {}, .timeSet {}, .timeOffsetAdj {}, .ppsCapture 0, .tsCapture 0, .fllGateEnd 0,
    .sigmaDeltaSlot 0, .oscUnlock 0, .oscCeiling 0, .calOffsetUpdate 0, .headroomReport 0, .ageDue 0, .ageSampleReq {},
    .ageSampleDone 0 0, .startFail 0, .droopTrip 0 [] false, .droopRunEnd 0, .dsStuck 0 0, .dsQuarantineClear {},
    .dsEnable {}, .park 0, .parkRelease 0
    ] : List Instr).all Instr.wf = true := by decide +kernel

/-- The same commands with every operand in range. -/
theorem test_wf_admits_3 : ([
    .slipFault 0 0, .causeTagExpiry 0, .changeBroadcast 0, .changeAtC 0, .islandRecompute 0, .ptrCheck 0 [],
    .pointerLoad 0, .resyncInitiate 0, .resyncReqSeen 0 0 false, .resyncAckSeen 0 0 false,
    .resyncReqLowSeen 0 0 false (), .resyncAckLowSeen 0 0 false, .xingFence {}, .trimEnd 0, .alignFail 0,
    .groupTarget 0 0, .groupStepStart 0, .voltConfirm 0, .voltTimeout 0, .groupStepEnd 0, .regionTargetN {},
    .regionStopStart, .quiesceAck 0, .quiesceTimeout, .stopCommand 0, .stopAck 0, .regionRestart 0, .restartReport 0,
    .sweepStart 0, .laneResponse 0 false 0, .windowClose 0, .windowReport 0, .fastCapUpdate 0, .episodeClose 0,
    .thermalRead 0 [], .calDecision 0, .calSign 0, .weightWindowWrite 0 0 0, .calResetReq {}, .estWeightFactory {}
    ] : List Instr).all Instr.wf = true := by decide +kernel

/-- The same commands with every operand in range. -/
theorem test_wf_admits_4 : ([
    .estShift {}, .slowLoopTick, .floorRateUpdate 0, .limitRecompute, .hotNAssert, .hotNRelease, .capNWindow false,
    .opTable {}, .fixedRateEnable {}, .fixedRateN {}, .groupShare {}, .phaseNext {}, .phaseBegin {}, .preferredPoint {},
    .occurrenceTimeout 0, .preposOffsetSet 0, .preposOffsetRemove 0, .prClear {}, .prRearm {}, .prPolicy {},
    .phaseTableWrite 0 0 0, .bxRoundBoundary 0, .bxEpochLoad {}, .bxEpochExpired, .epochLate, .round 0 0,
    .directiveRead 0 0, .directiveWrite 0 0, .slackReport 0, .regionPartition {}, .reportSnapReq {}, .runStart {},
    .runStop {}, .mark, .tlm 0 0 0 0, .identify 0 0 0 0, .readRating 0 0 0 0, .setVoltage 0 0 0, .readVoltage 0 0 0 0,
    .tlmEnable 0 0 0
    ] : List Instr).all Instr.wf = true := by decide +kernel

/-- The same commands with every operand in range. -/
theorem test_wf_admits_5 : ([
    .readStatus 0 0 0 0, .clearFault 0 0 0, .respTimeout 0 0, .linkSilent 0, .railRecover {}, .mbPost {}, .mbTake {},
    .mbPeek {}, .doorbellRead {}, .noticeRead {}, .mbRemoteComplete 0, .doorbellRing {}, .lockAcquire {},
    .lockRelease {}, .lockRead {}, .epReservedOp 0 {}, .requesterReset 0, .mbTimedOut 0, .lockForce 0 {},
    .lockHostAcquire 0, .lockHostRelease 0 0, .hostDbRing 0, .semaphorePost, .postStatus 0 0, .syPostTimeout 0,
    .dictRead {}, .dictWrite {}, .objectWrite 0 0 {}, .remoteAccessComplete 0, .expertUnlock {}, .expertUnlockExpiry,
    .persistFlush {}, .persistCommit, .auditSummary, .auditMerge, .idxRead 0 0, .idxWrite 0 0 0, .idxDone, .fdpRead {},
    .fdpWrite {}
    ] : List Instr).all Instr.wf = true := by decide +kernel

/-- The same commands with every operand in range. -/
theorem test_wf_admits_6 : ([
    .fdpSessionTimeout, .fdpResponseDrop, .fbClassic, .fbBusOff, .fbBusOffRecovery, .fondantCommit,
    .fondantRecordDone false, .fondantRepair, .fondantRelocate, .fondantCredit, .pralineSnapshot, .fnSnapReq {},
    .dailyCommit, .lcArm {}, .lcArmExpiry, .lcRequest {}, .lcTransition, .fondantWipe, .fnFormatReq {},
    .regionCycle 0 {}, .damagedFrame 0 0, .budgetFrameDrop 0 0 false 0, .fdpMalformed {}
    ] : List Instr).all Instr.wf = true := by decide +kernel

/-- Sources, writes, requests, frames, devices and measurements with one field out of range. -/
theorem test_wf_parts :
    Src.wf (.fbus 256) = false ∧ Src.wf (.net 65536) = false ∧ Src.wf (.eng 0) = false ∧ Src.wf (.eng 4096) = false
      ∧ Wr.wf { src := .eng 0 } = false ∧ Wr.wf { len := 32769 } = false ∧ Wr.wf { len := 1, val := 256 } = false
      ∧ EpReq.wf { arg := 2 ^ 32 } = false ∧ EpReq.wf { data := 2 ^ 64 } = false
      ∧ FdpFrame.wf { ident := 2 ^ 29 } = false ∧ FdpFrame.wf { len := 1, data := 256 } = false
      ∧ CycleIn.wf { words := [{ edge := 4 }] } = false ∧ CycleIn.wf { words := [{ data := 2 ^ 512 }] } = false
      ∧ CycleIn.wf { words := [{ prio := true, data := 2 ^ 128 }] } = false ∧ CycleIn.wf { takes := [{ edge := 4 }] } = false
      ∧ DsSample.wf { readings := [(0, 64)] } = false
      ∧ CalMeas.wf { region := 1024, freqs := List.replicate 4 (List.replicate 65 9) } = false
      ∧ CalMeas.wf { sensors := List.replicate 9 0, freqs := List.replicate 4 (List.replicate 65 9) } = false
      ∧ CalMeas.wf { freqs := List.replicate 3 (List.replicate 65 9) } = false
      ∧ CalMeas.wf { freqs := List.replicate 4 (List.replicate 64 9) } = false
      ∧ CalMeas.wf { freqs := List.replicate 4 (List.replicate 65 65536) } = false
      ∧ CalMeas.wf { freqs := List.replicate 4 (List.replicate 65 9), trims := 256 ^ 64 } = false
      ∧ CalMeas.wf { freqs := List.replicate 4 (List.replicate 65 9), trims := 256 ^ 64 - 1 } = true := by
  decide +kernel

/-! ### The hypotheses of every statement are met by some state and operands -/

/-- The hypotheses of `Obligations.StepRunsFrontCommand` are met together. -/
theorem wit_StepRunsFrontCommand :
    (∃ (s : State), s.pending = []) :=
  ⟨u, by decide +kernel⟩

/-- The hypotheses of `Obligations.RegionCycleAdvances` are met together, clause by clause. -/
theorem wit_RegionCycleAdvances :
    (∃ (n : Nat) (io : CycleIn) (s : State), s.cycling n = true)
      ∧ (∃ (n e m i : Nat) (io : CycleIn) (s : State), s.cycling n = true ∧ e < 4 ∧ s.neighbour n e = some m ∧ (s.c m
        (opposite e)).wr.flow = .tethered ∧ i < 2 * s.rd .LINKS m (opposite e))
      ∧ (∃ (n e m i : Nat) (io : CycleIn) (s : State), s.cycling n = true ∧ e < 4 ∧ s.neighbour n e = some m ∧ s.neighbour
        n (opposite e) ≠ some n ∧ (s.c n e).rd.flow = .tethered ∧ i < 2 * s.rd .LINKS n e)
      ∧ (∃ (x : XLane) (p w occ : Nat), occ = x.wq - syncView ((x.rq :: x.wseen).take 3)) :=
  ⟨⟨0, {}, u, by decide +kernel⟩,
   ⟨0, 1, 1, 1, { words := [{ edge := 1, cell := 0, prio := true, data := 77 }] },
    u.modC 1 3 fun c => { c with wr := { mode := .tethered } }, by decide +kernel⟩,
   ⟨0, 1, 1, 1, {},
    u.modC 0 1 fun c => { c with rd := { mode := .tethered }, lanes := [(1, { slots := [(1, (true, 9))] })] },
    by decide +kernel⟩,
   ⟨{ wq := 20, rq := 4, wseen := [4, 4] }, 0, 5, 16, by decide +kernel⟩⟩

/-- The hypotheses of `Obligations.RegionCycleMeasuresSlip` are met together, clause by clause. -/
theorem wit_RegionCycleMeasuresSlip :
    (∃ (n : Nat) (io : CycleIn) (s : State), s.cycling n = true)
      ∧ (∃ (trim : Bool) (bank engage esc level dwell : Nat) (lead old : Int), 0 < engage ∧ level ≤ 4) :=
  ⟨⟨0, {}, u.modC 0 1 fun c => { c with rd := { mode := .tethered } }, by decide +kernel⟩,
   ⟨false, 3, 4, 4, 4, 0, 4, 0, by decide +kernel⟩⟩

/-- The hypotheses of `Obligations.OscillatorGatesAndCodes` are met together, clause by clause. -/
theorem wit_OscillatorGatesAndCodes :
    (∃ (n : Nat) (s : State), s.present n = true ∧ s.clocked n = true)
      ∧ (∃ (n : Nat) (s : State), s.present n = true ∧ s.clocked n = true ∧ (s.r n).acc < 64 * 1023)
      ∧ (∃ (n : Nat) (s : State), s.present n = true ∧ s.osc n .locked = true ∧ s.on .CAL_OFFSET_LEARN = true)
      ∧ (∃ (n : Nat) (s : State), s.present n = true ∧ s.clocked n = true) :=
  ⟨⟨0, u, by decide +kernel⟩,
   ⟨0, u, by decide +kernel⟩,
   ⟨0, u.wr .CAL_OFFSET_LEARN 1, by decide +kernel⟩,
   ⟨0, u, by decide +kernel⟩⟩

/-- The hypotheses of `Obligations.OscillatorEpisodes` are met together, clause by clause. -/
theorem wit_OscillatorEpisodes :
    (∃ (n at0 : Nat) (s : State), (s.r n).unlockAt = some at0 ∧ s.inRunningGroup n = true ∧ at0 + 100 ≤ s.up)
      ∧ (∃ (n at0 : Nat) (s : State), (s.r n).ceilAt = some at0 ∧ s.osc n .ceiling = true ∧ (s.r n).ceilLogged = false ∧
        at0 + 10000 ≤ s.up)
      ∧ (∃ (n : Nat) (s : State), s.present n = true ∧ s.rd .AGE_SAMPLE_H n + 24 * s.rd .AGE_INTERVAL ≤ s.rd .AGE_POWERED_H
        n ∧ s.rd .AGE_POWERED_H n < 2 ^ 32)
      ∧ (∃ (n ratio : Nat) (s : State), (s.r n).ageSampling = true)
      ∧ (∃ (n at0 : Nat) (s : State), (s.r n).startAt = some at0 ∧ s.present n = true ∧ s.clocked n = true ∧ s.osc n
        .locked = false ∧ s.osc n .hold = false ∧ s.osc n .startFail = false ∧ at0 + 200 ≤ s.up)
      ∧ (∃ (n : Nat) (s : State), s.clocked n = true ∧ s.osc n .counting = false ∧ (s.r n).markSeen = true) :=
  ⟨⟨0, 99999900, u.modR 0 fun r => { r with unlockAt := some 99999900 }, by decide +kernel⟩,
   ⟨0, 99990000, (u.wr .OSC_STATUS 0x17).modR 0 fun r => { r with ceilAt := some 99990000 }, by decide +kernel⟩,
   ⟨0, (u.wr .AGE_INTERVAL 1).wr .AGE_POWERED_H 24, by decide +kernel⟩,
   ⟨0, 5, u.modR 0 fun r => { r with ageSampling := true }, by decide +kernel⟩,
   ⟨0, 99999800, (u.wr .OSC_STATUS 3).modR 0 fun r => { r with startAt := some 99999800 }, by decide +kernel⟩,
   ⟨0, (u.wr .OSC_STATUS 1).modR 0 fun r => { r with markSeen := true }, by decide +kernel⟩⟩

/-- The hypotheses of `Obligations.DroopRunsBeginAndEnd` are met together, clause by clause. -/
theorem wit_DroopRunsBeginAndEnd :
    (∃ (n : Nat) (x : DsSample) (s : State), s.cycling n = true ∧ s.inj.cur = none ∧ x.early = false ∧ (s.r n).runDepth <
      s.sampleDepth n x)
      ∧ (∃ (n : Nat) (x : DsSample) (s : State), s.cycling n = true ∧ s.inj.cur = none ∧ x.early = true ∧ (s.r n).runDepth
        = 0 ∧ (s.r n).last1 = 0 ∧ 0 < s.sampleDepth n x)
      ∧ (∃ (n : Nat) (x : DsSample) (s : State), s.cycling n = true ∧ s.inj.cur = none ∧ s.sampleDepth n x ≤ (s.r
        n).runDepth)
      ∧ (∃ (n : Nat) (s : State), (s.r n).runDepth ≠ 0 ∧ (s.r n).runLeft = 0 ∧ (s.r n).tripDepth ≠ 0)
      ∧ (∃ (n : Nat) (s : State), (s.r n).runDepth ≠ 0 ∧ (s.r n).runLeft = 0 ∧ (s.r n).tripDepth = 0)
      ∧ (∃ (n i : Nat) (s : State), s.sensorActive n i = true ∧ 16000 * s.rd .DS_STUCK_TIME * incNominal ≤ Tab.get (s.r
        n).stuckTime i 0 ∧ i < 16) :=
  ⟨⟨0, { readings := [(5, 0)] }, ut, by decide +kernel⟩,
   ⟨0, { readings := [(5, 0)], early := true }, ut, by decide +kernel⟩,
   ⟨0, { readings := [(5, 63)] }, ut, by decide +kernel⟩,
   ⟨0, u.modR 0 fun r => { r with runDepth := 2, tripDepth := 1 }, by decide +kernel⟩,
   ⟨0, u.modR 0 fun r => { r with runDepth := 2 }, by decide +kernel⟩,
   ⟨0, 0, u.modR 0 fun r => { r with stuckTime := [(0, 16000 * u.rd .DS_STUCK_TIME * incNominal)] }, by decide +kernel⟩⟩

/-- The hypotheses of `Obligations.ParksSlipFaultsAndTags` are met together, clause by clause. -/
theorem wit_ParksSlipFaultsAndTags :
    (∃ (n : Nat) (p : Park) (s : State), (s.r n).park = some p ∧ p.parked = false ∧ s.osc n .counting = true ∧ s.rd
      .REGION_COUNT n = p.count % 2 ^ 48)
      ∧ (∃ (n : Nat) (p : Park) (s : State), (s.r n).park = some p ∧ p.parked = true ∧ p.release < s.T + 16000)
      ∧ (∃ (n e : Nat) (s : State), e < 4 ∧ s.measured n e = true ∧ 5 ≤ (s.rdInt .SLIP n e).natAbs ∧ bit (s.r
        n).slipFaulted e = false)
      ∧ (∃ (n : Nat) (s : State), 64 ≤ (s.r n).quiet) :=
  ⟨⟨0, { count := 5 }, (u.wr .REGION_COUNT 5).modR 0 fun r => { r with park := some { count := 5 } }, by decide +kernel⟩,
   ⟨0, { parked := true, release := 1600015999 },
    u.modR 0 fun r => { r with park := some { parked := true, release := 1600015999 } }, by decide +kernel⟩,
   ⟨0, 1, (u.wrInt .SLIP (-5) 0 1).modC 0 1 fun c => { c with rd := { mode := .tethered } }, by decide +kernel⟩,
   ⟨0, u.modR 0 fun r => { r with quiet := 64, tag := { cls := 1 } }, by decide +kernel⟩⟩

/-- The hypotheses of `Obligations.ResyncHandshake` are met together, clause by clause. -/
theorem wit_ResyncHandshake :
    (∃ (n e : Nat) (wr : Bool) (s : State), s.halfLive n e wr = true ∧ ((s.c n e).half (!wr)).req = true ∧ ((s.c n e).half
      wr).ack = false)
      ∧ (∃ (n e : Nat) (wr : Bool) (s : State), s.halfLive n e wr = true ∧ ((s.c n e).half wr).req = true ∧ ((s.c n e).half
        wr).busy = true ∧ ((s.c n e).half (!wr)).ack = true ∧ s.halfStopping n e wr = false)
      ∧ (∃ (n e : Nat) (wr : Bool) (s : State), s.halfLive n e wr = true ∧ ((s.c n e).half wr).ack = true ∧ ((s.c n e).half
        wr).busy = true ∧ ((s.c n e).half wr).req = false ∧ ((s.c n e).half (!wr)).req = false ∧ ((s.c n e).half (!wr)).ack
        = false ∧ ((s.c n e).half (!wr)).busy = true)
      ∧ (∃ (n e : Nat) (wr : Bool) (s : State), s.halfLive n e wr = true ∧ ((s.c n e).half wr).busy = true ∧ ((s.c n
        e).half wr).req = false ∧ ((s.c n e).half wr).ack = false ∧ ((s.c n e).half (!wr)).req = false ∧ ((s.c n e).half
        (!wr)).ack = false ∧ ((s.c n e).half (!wr)).busy = false ∧ (s.c n e).waiting = none) :=
  ⟨⟨0, 1, true, u.modC 0 1 fun c => { c with rd := { req := true } }, by decide +kernel⟩,
   ⟨0, 1, true, u.modC 0 1 fun c => { c with rd := { ack := true }, wr := { req := true, busy := true } },
    by decide +kernel⟩,
   ⟨0, 1, true, u.modC 0 1 fun c => { c with rd := { busy := true }, wr := { ack := true, busy := true } },
    by decide +kernel⟩,
   ⟨0, 1, true, u.modC 0 1 fun c => { c with wr := { busy := true } }, by decide +kernel⟩⟩

/-- The hypotheses of `Obligations.PointersAndAlignment` are met together, clause by clause. -/
theorem wit_PointersAndAlignment :
    (∃ (n : Nat) (s : State), s.clocked n = true ∧ s.osc n .counting = true ∧ s.rd .REGION_COUNT n = 16)
      ∧ (∃ (h : Half) (k v : Nat), h.load = some (k + 1, v))
      ∧ (∃ (n : Nat) (s : State), s.clocked n = true ∧ s.osc n .counting = true ∧ s.rd .REGION_COUNT n = 24 ∧ s.on
        .REGION_DETACHED n = false)
      ∧ (∃ (n : Nat) (upset : List (Nat × Bool × Nat)) (s : State), s.clocked n = true ∧ s.osc n .counting = true ∧ s.rd
        .REGION_COUNT n % s.rd .PTR_CHECK_PERIOD = 0)
      ∧ (∃ (g : Nat) (s : State), (s.g g).islandsDue = true)
      ∧ (∃ (g : Nat) (s : State), s.trimDone g = true)
      ∧ (∃ (g at0 : Nat) (s : State), (s.g g).releasedAt = some at0 ∧ (s.g g).trim = true ∧ (s.g g).alignFailed = false ∧
        at0 + s.rd .ALIGN_LIMIT + (s.g g).trimHeld ≤ s.up) :=
  ⟨⟨0, u.wr .REGION_COUNT 16, by decide +kernel⟩,
   ⟨{ load := some (1, 15) }, 0, 15, by decide +kernel⟩,
   ⟨0, u.wr .REGION_COUNT 24, by decide +kernel⟩,
   ⟨0, [(1, true, 3)], u.wr .REGION_COUNT (u.rd .PTR_CHECK_PERIOD), by decide +kernel⟩,
   ⟨0, u.modG 0 fun g => { g with islandsDue := true }, by decide +kernel⟩,
   ⟨0,
    ((u.modR 0 fun r => { r with calm := 64 }).modR 1 fun r => { r with calm := 64 }).modG 0 fun g => { g with trim := true, releasedAt := some (99999900) },
    by decide +kernel⟩,
   ⟨0, 0, u.modG 0 fun g => { g with trim := true, releasedAt := some 0 }, by decide +kernel⟩⟩

/-- The hypotheses of `Obligations.StepsMoveByAQuarter` are met together, clause by clause. -/
theorem wit_StepsMoveByAQuarter :
    (∃ (old tgt : Nat), 160 ≤ old ∧ 160 ≤ tgt)
      ∧ (∃ (old tgt : Nat), 160 ≤ old)
      ∧ (∃ (g : Nat) (st : GStep) (s : State), (s.g g).step = none ∧ ((s.startStep g).g g).step = some st) :=
  ⟨⟨160, 161, by decide +kernel⟩,
   ⟨160, 161, by decide +kernel⟩,
   ⟨0, (((us.wr .TETHER_GROUP_ACTIVE 0xFF).startStep 0).g 0).step.getD {}, us.wr .TETHER_GROUP_ACTIVE 0xFF,
    by decide +kernel⟩⟩

/-- The hypotheses of `Obligations.GroupTargetsAndSteps` are met together, clause by clause. -/
theorem wit_GroupTargetsAndSteps :
    (∃ (g target : Nat) (s : State), g < s.rd .NUM_GROUPS ∧ 160 ≤ target ∧ target ≤ 1536)
      ∧ (∃ (g target : Nat) (s : State), (target < 160 ∨ 1536 < target))
      ∧ (∃ (g p : Nat) (s : State), g < s.rd .NUM_GROUPS ∧ (s.g g).step = none ∧ (s.g g).noStep = false ∧ s.opFrozen =
        false ∧ s.refs.shortStop = false ∧ s.stopHolds g = false ∧ (s.isReady .ready = true ∨ s.su.ramping = true) ∧ (s.g
        g).pending = some p ∧ max 160 (min p (s.ceilN g)) < s.rd .GROUP_N g ∧ (s.g g).islands ≠ [])
      ∧ (∃ (g : Nat) (st : GStep) (s : State), g ≠ 0xFF ∧ s.refs.shortStop = false ∧ (s.g g).step = some st ∧ st.c = none ∧
        st.raising ≠ [] ∧ (∀ f ∈ st.raising, s.voltConfirmed st.tol f (Tab.get st.vNew f 0) = true) ∧ (s.g g).islands ≠ [])
      ∧ (∃ (g f : Nat) (st : GStep) (s : State), g ≠ 0xFF ∧ s.refs.shortStop = false ∧ (s.g g).step = some st ∧ st.c = none
        ∧ (st.raising.find? fun f => !s.voltConfirmed st.tol f (Tab.get st.vNew f 0)) = some f ∧ st.deadline ≤ s.up)
      ∧ (∃ (g c : Nat) (st : GStep) (s : State), s.refs.shortStop = false ∧ (s.g g).step = some st ∧ st.c = some c ∧
        s.opFrozen = false ∧ (∀ i ∈ (s.g g).islands, s.reportedPast i.1 (c + 4 * i.2) = true)) :=
  ⟨⟨0, 160, u, by decide +kernel⟩,
   ⟨0, 159, u, by decide +kernel⟩,
   ⟨0, 500, us, by decide +kernel⟩,
   ⟨0, { raising := [0], vNew := [(0, 180)] },
    ((u.wr .RAIL_STATE 1).wr .RAIL_VMEAS 60000).modG 0 fun g => { g with islands := [(0, 1)], step := some { raising := [0], vNew := [(0, 180)] } },
    by decide +kernel⟩,
   ⟨0, 0, { raising := [0], vNew := [(0, 180)] },
    (u.wr .RAIL_STATE 1).modG 0 fun g => { g with step := some { raising := [0], vNew := [(0, 180)] } },
    by decide +kernel⟩,
   ⟨0, 100, { nNew := 500, c := some 100 },
    (u.modE 0 fun e => { e with report := some { count := 104 } }).modG 0 fun g => { g with islands := [(0, 1)], step := some { nNew := 500, c := some 100 } },
    by decide +kernel⟩⟩

/-- The hypotheses of `Obligations.AgentsSwitchAtC` are met together, clause by clause. -/
theorem wit_AgentsSwitchAtC :
    (∃ (n c ratio : Nat) (s : State), (s.g (s.groupOf (fieldOf n))).cast = some (c, ratio) ∧ s.live n = true ∧ s.clocked n
      = true ∧ s.on .REGION_DETACHED n = false ∧ s.groupOf (fieldOf n) ≠ 0xFF ∧ (s.r n).heard ≠ some (c, ratio) ∧ passed
      (s.rd .REGION_COUNT n) c = false)
      ∧ (∃ (n c ratio : Nat) (s : State), (s.g (s.groupOf (fieldOf n))).cast = some (c, ratio) ∧ s.live n = true ∧
        s.clocked n = true ∧ s.on .REGION_DETACHED n = false ∧ s.groupOf (fieldOf n) ≠ 0xFF ∧ (s.r n).heard ≠ some (c,
        ratio) ∧ passed (s.rd .REGION_COUNT n) c = true)
      ∧ (∃ (n c ratio : Nat) (s : State), (s.r n).change = some (c, ratio) ∧ s.clocked n = true ∧ passed (s.rd
        .REGION_COUNT n) c = true) :=
  ⟨⟨0, 100, 500, u.modG 0 fun g => { g with cast := some (100, 500) }, by decide +kernel⟩,
   ⟨0, 100, 500, (u.wr .REGION_COUNT 100).modG 0 fun g => { g with cast := some (100, 500) }, by decide +kernel⟩,
   ⟨0, 5, 500, (u.wr .REGION_COUNT 5).modR 0 fun r => { r with change := some (5, 500) }, by decide +kernel⟩⟩

/-- The hypotheses of `Obligations.RegionStopsInOrder` are met together, clause by clause. -/
theorem wit_RegionStopsInOrder :
    (∃ (x : RStop) (s : State), s.stop.cur = some x ∧ x.order = 0 ∧ s.refs.shortStop = false ∧ (s.d (s.domainOf
      x.region)).phase = none ∧ s.stepHolds (fieldOf x.region) = false ∧ s.su.everReady = true ∧ s.routerOn x.region = true
      ∧ 160 ≤ x.target ∧ x.target ≤ s.rd .OSC_TARGET_N x.region)
      ∧ (∃ (x : RStop) (s : State), s.stop.cur = some x ∧ x.order = 0 ∧ s.refs.shortStop = false ∧ (s.d (s.domainOf
        x.region)).phase = none ∧ s.stepHolds (fieldOf x.region) = false ∧ s.su.everReady = true ∧ s.routerOn x.region =
        false)
      ∧ (∃ (x : RStop) (s : State), s.stop.cur = some x ∧ x.order = 1 ∧ s.refs.shortStop = false ∧ s.voltConfirmed x.tol
        (fieldOf x.region) x.vNew = true)
      ∧ (∃ (x : RStop) (s : State), s.stop.cur = some x ∧ x.order = 1 ∧ s.refs.shortStop = false ∧ s.voltConfirmed x.tol
        (fieldOf x.region) x.vNew = false ∧ x.deadline ≤ s.up)
      ∧ (∃ (x : RStop) (s : State), s.stop.cur = some x ∧ x.order = 2 ∧ s.refs.shortStop = false)
      ∧ (∃ (x : RStop) (epoch : Nat) (s : State), s.stop.cur = some x ∧ epoch ≠ x.epoch ∧ s.refs.shortStop = false)
      ∧ (∃ (epoch : Nat) (s : State), s.refs.shortStop = true)
      ∧ (∃ (x : RStop) (s : State), s.stop.cur = some x ∧ x.order = 2 ∧ s.refs.shortStop = false ∧ x.deadline ≤ s.up)
      ∧ (∃ (x : RStop) (s : State), s.stop.cur = some x ∧ x.order = 3 ∧ (∀ h ∈ s.ownHalves x.region, (s.c h.1 h.2.1).idle =
        true))
      ∧ (∃ (x : RStop) (s : State), s.stop.cur = some x ∧ x.order = 4 ∧ (∀ h ∈ s.stopHalves x.region, ((s.c h.1 h.2.1).half
        (!h.2.2)).ack = true))
      ∧ (∃ (x : RStop) (s : State), s.stop.cur = some x ∧ x.order = 5 ∧ x.deadline ≤ s.up)
      ∧ (∃ (x : RStop) (s : State), s.stop.cur = some x ∧ x.order = 6 ∧ s.refs.shortStop = false ∧ s.crossingsIdle x.region
        = true) :=
  ⟨⟨{ target := 160 }, { u.wr .OSC_TARGET_N 160 with stop := { cur := some { target := 160 } } }, by decide +kernel⟩,
   ⟨{ target := 160 }, { u.modD 0 fun d => { d with enRtr := false } with stop := { cur := some { target := 160 } } },
    by decide +kernel⟩,
   ⟨{ order := 1, vNew := 180 },
    { (u.wr .RAIL_STATE 1).wr .RAIL_VMEAS 60000 with stop := { cur := some { order := 1, vNew := 180 } } },
    by decide +kernel⟩,
   ⟨{ order := 1, vNew := 180 }, { u.wr .RAIL_STATE 1 with stop := { cur := some { order := 1, vNew := 180 } } },
    by decide +kernel⟩,
   ⟨{ order := 2, epoch := 255 }, { u with stop := { cur := some { order := 2, epoch := 255 } } }, by decide +kernel⟩,
   ⟨{ order := 2, epoch := 1 }, 2, { u with stop := { cur := some { order := 2, epoch := 1 } } }, by decide +kernel⟩,
   ⟨2, { u with refs := { shortStop := true } }, by decide +kernel⟩,
   ⟨{ order := 2 }, { u with stop := { cur := some { order := 2 } } }, by decide +kernel⟩,
   ⟨{ order := 3 }, { u with stop := { cur := some { order := 3 } } }, by decide +kernel⟩,
   ⟨{ order := 4 },
    { (u.modC 0 1 fun c => { c with rd := { ack := true }, wr := { ack := true } }).modC 1 3 fun c => { c with rd := { ack := true }, wr := { ack := true } } with stop := { cur := some { order := 4 } } },
    by decide +kernel⟩,
   ⟨{ order := 5, target := 160, nNew := 160 },
    { u with stop := { cur := some { order := 5, target := 160, nNew := 160 } } }, by decide +kernel⟩,
   ⟨{ order := 6, target := 160, nNew := 160 },
    { u with stop := { cur := some { order := 6, target := 160, nNew := 160 } } }, by decide +kernel⟩⟩

/-- The hypotheses of `Obligations.PowerTransitionSteps` are met together, clause by clause. -/
theorem wit_PowerTransitionSteps :
    (∃ (d : Nat) (s : State), (s.d d).phase = some .coreOffStagger ∧ s.rd .DOMAIN_TARGET d ≠ 0 ∧ s.staggerOver d = true ∧
      s.refs.shortStop = false)
      ∧ (∃ (d : Nat) (p : PdPhase) (s : State), (s.d d).phase = some p ∧ p.awaitsAck = true ∧ s.acked d p = false ∧ (s.d
        d).timedOut = false ∧ s.refs.shortStop = false ∧ (s.d d).deadline ≤ s.up) :=
  ⟨⟨0, (u.wr .DOMAIN_TARGET 1).modD 0 fun d => { d with phase := some .coreOffStagger }, by decide +kernel⟩,
   ⟨0, .coreOffAck, u.modD 0 fun d => { d with phase := some .coreOffAck }, by decide +kernel⟩⟩

/-- The hypotheses of `Obligations.RailsAreEnumerated` are met together, clause by clause. -/
theorem wit_RailsAreEnumerated :
    (∃ (s : State), s.seqRuns = true ∧ s.isReady .ctl = true ∧ s.su.railsStarted = false ∧ 1000 ≤ s.up)
      ∧ (∃ (k phases tag data : Nat) (c : LCmd) (s : State), s.inj.cur = none ∧ phases % 16 ≠ 0 ∧ s.cmdOf k tag = some c ∧
        c.op = ROp.identify.code)
      ∧ (∃ (k tag data r : Nat) (c : LCmd) (s : State), s.inj.cur = none ∧ s.cmdOf k tag = some c ∧ c.op =
        ROp.readRating.code ∧ s.railAt k c.ch = some r ∧ (s.ra r).stored = [])
      ∧ (∃ (k tag data r : Nat) (c : LCmd) (s : State), s.inj.cur = none ∧ s.cmdOf k tag = some c ∧ c.op =
        ROp.readVoltage.code ∧ s.railAt k c.ch = some r ∧ c.recover = none)
      ∧ (∃ (k tag : Nat) (c : LCmd) (s : State), s.inj.cur = none ∧ s.cmdOf k tag = some c ∧ c.op = ROp.tlmEnable.code)
      ∧ (∃ (k : Nat) (s : State), k ∈ s.usedLinks ∧ s.rd .LINK_STATE 0 k = 1 ∧ (s.l k).channels = 0 ∧ 1900 ≤ s.up) :=
  ⟨⟨u, by decide +kernel⟩,
   ⟨0, 15, 3, 7, { op := 1, tag := 3 }, { u with link := [(0, { out := [{ op := 1, tag := 3 }] })] }, by decide +kernel⟩,
   ⟨0, 3, 7, 0, { op := 2, tag := 3 }, { u with link := [(0, { out := [{ op := 2, tag := 3 }] })] }, by decide +kernel⟩,
   ⟨0, 3, 180, 0, { op := 4, tag := 3 }, { u with link := [(0, { out := [{ op := 4, tag := 3 }] })] }, by decide +kernel⟩,
   ⟨0, 15, { op := 5, tag := 15 }, { u with link := [(0, { out := [{ op := 5, tag := 15 }] })] }, by decide +kernel⟩,
   ⟨0, (u.wr .LINK_STATE 1), by decide +kernel⟩⟩

/-- The hypotheses of `Obligations.RailCommandsAnswered` are met together, clause by clause. -/
theorem wit_RailCommandsAnswered :
    (∃ (k tag : Nat) (c : LCmd) (s : State), s.inj.cur = none ∧ s.cmdOf k tag = some c ∧ c.op = ROp.setVoltage.code)
      ∧ (∃ (k tag data r : Nat) (c : LCmd) (s : State), s.inj.cur = none ∧ s.cmdOf k tag = some c ∧ c.op =
        ROp.readStatus.code ∧ c.recover = some r ∧ c.void = false ∧ (s.ra r).recover = 1)
      ∧ (∃ (k tag r : Nat) (c : LCmd) (s : State), s.inj.cur = none ∧ s.cmdOf k tag = some c ∧ c.op = ROp.clearFault.code ∧
        c.recover = some r ∧ c.void = false ∧ (s.ra r).recover = 1)
      ∧ (∃ (k tag : Nat) (c : LCmd) (s : State), s.inj.cur = none ∧ s.cmdOf k tag = some c ∧ c.op = ROp.clearFault.code ∧
        c.recover = none ∧ (s.l k).queue = [] ∧ s.nextSet k = none ∧ (∀ x ∈ (s.l k).out, x.again = false))
      ∧ (∃ (k tag : Nat) (c : LCmd) (s : State), s.refs.shortStop = false ∧ s.cmdOf k tag = some c ∧ c.op ≠
        ROp.identify.code ∧ c.tries < 3 ∧ (∀ x ∈ (s.l k).out, x.again = false) ∧ linkFree (s.l k) = true ∧ s.withdrawn k c
        = false)
      ∧ (∃ (k tag : Nat) (c : LCmd) (s : State), s.refs.shortStop = false ∧ s.cmdOf k tag = some c ∧ c.op ≠
        ROp.identify.code ∧ 3 ≤ c.tries ∧ c.again = false)
      ∧ (∃ (k frame : Nat) (c : LCmd) (s : State), bits frame 52 4 = ROp.resp.code ∧ frameOk frame = false ∧ s.cmdOf k
        (bits frame 44 4) = some c)
      ∧ (∃ (k frame : Nat) (s : State), bits frame 52 4 ≠ ROp.resp.code ∧ bits frame 52 4 ≠ ROp.tlm.code) :=
  ⟨⟨0, 3, { op := 3, tag := 3, data := 0x10000 },
    { u with link := [(0, { out := [{ op := 3, tag := 3, data := 0x10000 }] })] }, by decide +kernel⟩,
   ⟨0, 3, 4, 0, { op := 7, tag := 3, recover := some 0 },
    ({ u with link := [(0, { out := [{ op := 7, tag := 3, recover := some 0 }] })] }).modRa 0 fun r => { r with recover := 1 },
    by decide +kernel⟩,
   ⟨0, 3, 0, { op := 8, tag := 3, recover := some 0 },
    ({ u with link := [(0, { out := [{ op := 8, tag := 3, recover := some 0 }] })] }).modRa 0 fun r => { r with recover := 1, recoverGot := 6 },
    by decide +kernel⟩,
   ⟨0, 3, { op := 8, tag := 3 }, { u with link := [(0, { out := [{ op := 8, tag := 3 }] })] }, by decide +kernel⟩,
   ⟨0, 3, { op := 3, tag := 3, tries := 2 }, { u with link := [(0, { out := [{ op := 3, tag := 3, tries := 2 }] })] },
    by decide +kernel⟩,
   ⟨0, 3, { op := 3, tag := 3, tries := 3 }, { u with link := [(0, { out := [{ op := 3, tag := 3, tries := 3 }] })] },
    by decide +kernel⟩,
   ⟨0, 9 * 2 ^ 52 + 3 * 2 ^ 44, { op := 3, tag := 3, data := 0x10000 },
    { u with link := [(0, { out := [{ op := 3, tag := 3, data := 0x10000 }] })] }, by decide +kernel⟩,
   ⟨0, 2 ^ 52, u, by decide +kernel⟩⟩

/-- The hypotheses of `Obligations.MarksAndTelemetry` are met together, clause by clause. -/
theorem wit_MarksAndTelemetry :
    (∃ (j : Nat) (s : State), 1 ≤ s.interval ∧ j ∈ s.usedLinks ∧ s.linkUp j = true ∧ (s.l j).mark ≠ some (s.interval - 1))
      ∧ (∃ (k ch tag data r : Nat) (s : State), s.railAt k ch = some r ∧ s.inj.cur = none ∧ (s.ra r).tlmOn = true) :=
  ⟨⟨0, u.wr .LINK_STATE 2, by decide +kernel⟩,
   ⟨0, 0, 3, 7, 0, u.modRa 0 fun r => { r with tlmOn := true }, by decide +kernel⟩⟩

/-- The hypotheses of `Obligations.SweepsReadEveryLane` are met together, clause by clause. -/
theorem wit_SweepsReadEveryLane :
    (∃ (n : Nat) (s : State), s.present n = true ∧ s.clocked n = true ∧ (s.ee n).mayBegin = true ∧ (s.ee n).sweeping =
      false)
      ∧ (∃ (n data x : Nat) (vld : Bool) (s : State), s.responseDue n = true ∧ x = (if vld then (if (s.ln n (s.ee
        n).lane).based then (data + 65536 - (s.ln n (s.ee n).lane).prev) % 65536 else 0) else if s.coreOn n then (s.ln n
        (s.ee n).lane).delta else 0))
      ∧ (∃ (n data : Nat) (s : State), s.responseDue n = false ∧ s.present n = true) :=
  ⟨⟨0, u.modE 0 fun e => { e with mayBegin := true }, by decide +kernel⟩,
   ⟨0, 4, 5, true,
    { u with est := [(0, { sweeping := true, sweepCyc := 99 })], lane := [(0, { based := true, prev := 65535 })] },
    by decide +kernel⟩,
   ⟨0, 4, u, by decide +kernel⟩⟩

/-- The hypotheses of `Obligations.WindowsAreClosedAndSummed` are met together, clause by clause. -/
theorem wit_WindowsAreClosedAndSummed :
    (∃ (n w : Nat) (s : State), (s.ee n).win = some w ∧ s.present n = true ∧ s.clocked n = true ∧ (s.r n).timeValid = true
      ∧ (w + 1) * 16000 ≤ s.windowTime n)
      ∧ (∃ (f w : Nat) (s : State), s.fields.contains f = true ∧ s.reportDue f = some w)
      ∧ (∃ (f : Nat) (s : State), (s.f f).late = [] ∧ 1 ≤ s.winsEnded ∧ (s.f f).win < s.winsEnded)
      ∧ (∃ (n w : Nat) (rest : List Nat) (s : State), (s.ee n).weightLost = w :: rest ∧ w < 128)
      ∧ (∃ (s : State), s.seqRuns = true ∧ s.isReady .dict = true ∧ (∀ n ∈ s.liveRegions, s.routerOn n = true → ∃ p, (s.ee
        n).report = some p ∧ p.valid = true)) :=
  ⟨⟨0, 3,
    ((u.wr .REGION_TIME 64000).modR 0 fun r => { r with timeValid := true }).modE 0 fun e => { e with win := some 3 },
    by decide +kernel⟩,
   ⟨0, 99999, u, by decide +kernel⟩,
   ⟨0, u, by decide +kernel⟩,
   ⟨0, 127, [3], u.modE 0 fun e => { e with weightLost := [127, 3] }, by decide +kernel⟩,
   ⟨(u.modE 0 fun e => { e with report := some { valid := true } }).modE 1 fun e => { e with report := some { valid := true } },
    by decide +kernel⟩⟩

/-- The hypotheses of `Obligations.CalibrationDecidesOnce` are met together, clause by clause. -/
theorem wit_CalibrationDecidesOnce :
    (∃ (d est dyn k r : Nat) (s : State), (s.d d).ready = some (est, dyn, k) ∧ s.rails.find? (fun x => s.rd .RAIL_DOMAIN x
      == d) = some r ∧ (s.ra r).gotK = some k ∨ (k + 1) * 160000 + 16000 * s.rd .CAL_TLM_WAIT ≤ s.T)
      ∧ (∃ (n k : Nat) (sg : Int) (rest : List (Nat × Int)) (s : State), (s.ee n).signs = (k, sg) :: rest ∧ s.rd
        .REGION_LANES n ≤ 512)
      ∧ (∃ (g : Nat) (e : Ep) (s : State), (s.g g).ep = some e ∧ s.was .EPISODE_GAP (s.holderWin g) ≤ e.gap) :=
  ⟨⟨0, 5, 4, 3, 0, (u.modD 0 fun d => { d with ready := some (5, 4, 3) }).modRa 0 fun r => { r with gotK := some 3 },
    by decide +kernel⟩,
   ⟨0, 3, 1, [], u.modE 0 fun e => { e with signs := [(3, 1)] }, by decide +kernel⟩,
   ⟨0, { gap := 5 }, u.modG 0 fun g => { g with ep := some { gap := 5 } }, by decide +kernel⟩⟩

/-- The hypotheses of `Obligations.MailIsPostedTakenAndPeeked` are met together, clause by clause. -/
theorem wit_MailIsPostedTakenAndPeeked :
    (∃ (q : EpReq) (m : Nat) (s : State), m = bits q.arg 0 6 ∧ s.EpTakes ∧ q.id % 4096 ≠ 0 ∧ onlyBits q.arg 0x3F = true ∧
      s.isReady .mailbox = true ∧ m < s.rd .NUM_MAILBOXES ∧ s.rd .MB_OWNER m ≠ 0 ∧ s.remoteMail = false ∧ (s.bx
      m).msgs.length < 16)
      ∧ (∃ (q : EpReq) (m : Nat) (s : State), m = bits q.arg 0 6 ∧ s.EpTakes ∧ s.boxesFull 4 q = false ∧ m < s.rd
        .NUM_MAILBOXES ∧ 16 ≤ (s.bx m).msgs.length)
      ∧ (∃ (q : EpReq) (m : Nat) (x : Msg) (rest : List Msg) (s : State), m = bits q.arg 0 6 ∧ s.EpTakes ∧ q.id % 4096 ≠ 0
        ∧ onlyBits q.arg 0x3F = true ∧ q.data = 0 ∧ s.isReady .mailbox = true ∧ m < s.rd .NUM_MAILBOXES ∧ s.rd .MB_OWNER m
        = q.id % 4096 ∧ s.remoteMail = false ∧ (s.bx m).msgs = x :: rest ∧ s.flipAt .mailbox 0 (16 * m) = none)
      ∧ (∃ (q : EpReq) (m : Nat) (x : Msg) (rest : List Msg) (s : State), m = bits q.arg 0 6 ∧ s.EpTakes ∧ q.id % 4096 ≠ 0
        ∧ onlyBits q.arg 0x3003F = true ∧ bits q.arg 16 2 = 1 ∧ q.data = 0 ∧ s.isReady .mailbox = true ∧ m < s.rd
        .NUM_MAILBOXES ∧ s.rd .MB_OWNER m = q.id % 4096 ∧ s.remoteMail = false ∧ (s.bx m).msgs = x :: rest ∧ s.flipAt
        .mailbox 0 (16 * m) = none)
      ∧ (∃ (q : EpReq) (m : Nat) (s : State), m = bits q.arg 0 6 ∧ s.EpTakes ∧ q.id % 4096 ≠ 0 ∧ onlyBits q.arg 0x3F = true
        ∧ s.isReady .mailbox = true ∧ m < s.rd .NUM_MAILBOXES ∧ s.rd .MB_OWNER m ≠ 0 ∧ s.remoteMail = true ∧ s.boxPowered m
        = true ∧ s.boxesFull 4 q = false ∧ (s.bx m).msgs.length < 16)
      ∧ (∃ (ix : Nat) (x : RemoteMb) (s : State), s.refs.shortStop = false ∧ s.ports.epq = [] ∧ s.ports.remote[ix]? = some
        x ∧ (∀ y ∈ s.ports.remote.take ix, y.box ≠ x.box)) :=
  ⟨⟨{ id := 5, arg := 1 }, 1, (u.wr .MB_OWNER 7 1).modBx 1 fun b => { b with msgs := List.replicate 15 {} },
    by decide +kernel⟩,
   ⟨{ id := 5, arg := 1 }, 1, u.modBx 1 fun b => { b with msgs := List.replicate 16 {} }, by decide +kernel⟩,
   ⟨{ id := 4095, arg := 1 }, 1, { seq := 9 }, [],
    (u.wr .MB_OWNER 4095 1).modBx 1 fun b => { b with msgs := [{ seq := 9 }] }, by decide +kernel⟩,
   ⟨{ id := 5, arg := 0x10001 }, 1, { seq := 9 }, [],
    (u.wr .MB_OWNER 5 1).modBx 1 fun b => { b with msgs := [{ seq := 9 }] }, by decide +kernel⟩,
   ⟨{ id := 5, arg := 1 }, 1,
    (((u.wr .MB_OWNER 7 1).wr .MB_DOMAIN 0 1).wr .CONFIG_CLASS 2 |>.modD 0 fun d => { d with isoRtr := false }).modBx 1 fun b => { b with msgs := List.replicate 15 {} },
    by decide +kernel⟩,
   ⟨1, { box := 1, id := 5 }, { u with ports := { remote := [{ box := 0 }, { box := 1, id := 5 }] } }, by decide +kernel⟩⟩

/-- The hypotheses of `Obligations.BellsNoticesAndReservedOperations` are met together, clause by clause. -/
theorem wit_BellsNoticesAndReservedOperations :
    (∃ (q : EpReq) (m : Nat) (s : State), m = bits q.arg 0 6 ∧ s.EpTakes ∧ q.id % 4096 ≠ 0 ∧ onlyBits q.arg 0x3F = true ∧
      q.data = 0 ∧ s.isReady .mailbox = true ∧ m < s.rd .NUM_MAILBOXES)
      ∧ (∃ (q : EpReq) (m : Nat) (s : State), m = bits q.arg 0 6 ∧ s.EpTakes ∧ q.id % 4096 ≠ 0 ∧ onlyBits q.arg 0x3003F =
        true ∧ bits q.arg 16 2 = 2 ∧ q.data = 0 ∧ s.isReady .mailbox = true ∧ m < s.rd .NUM_MAILBOXES)
      ∧ (∃ (q : EpReq) (s : State), s.EpTakes ∧ q.id % 4096 ≠ 0 ∧ onlyBits q.arg 0x30000 = true ∧ bits q.arg 16 2 = 3 ∧
        q.data = 0 ∧ s.isReady .mailbox = true)
      ∧ (∃ (op : Nat) (q : EpReq) (s : State), s.EpTakes ∧ EpOp.ofCode op = none) :=
  ⟨⟨{ id := 5, arg := 1 }, 1, u, by decide +kernel⟩,
   ⟨{ id := 5, arg := 0x20001 }, 1, u, by decide +kernel⟩,
   ⟨{ id := 5, arg := 0x30000 }, u, by decide +kernel⟩,
   ⟨15, { id := 0 }, u, by decide +kernel⟩⟩

/-- The hypotheses of `Obligations.LocksHaveOneOwner` are met together, clause by clause. -/
theorem wit_LocksHaveOneOwner :
    (∃ (q : EpReq) (i : Nat) (s : State), i = bits q.arg 0 6 ∧ s.EpTakes ∧ q.id % 4096 ≠ 0 ∧ onlyBits q.arg 0x3F = true ∧
      q.data = 0 ∧ s.isReady .mailbox = true)
      ∧ (∃ (q : EpReq) (i : Nat) (s : State), i = bits q.arg 0 6 ∧ s.EpTakes ∧ q.id % 4096 ≠ 0 ∧ onlyBits q.arg 0x3F = true
        ∧ q.data = 0 ∧ s.isReady .mailbox = true)
      ∧ (∃ (q : EpReq) (s : State), s.EpTakes ∧ q.id % 4096 ≠ 0 ∧ onlyBits q.arg 0x3F = true ∧ q.data = 0 ∧ s.isReady
        .mailbox = true) :=
  ⟨⟨{ id := 5, arg := 63 }, 63, u, by decide +kernel⟩,
   ⟨{ id := 5, arg := 63 }, 63, u, by decide +kernel⟩,
   ⟨{ id := 5, arg := 63 }, u, by decide +kernel⟩⟩

/-- The hypotheses of `Obligations.RequesterResetsAndLateMail` are met together, clause by clause. -/
theorem wit_RequesterResetsAndLateMail :
    (∃ (id : Nat) (s : State), 1 ≤ id ∧ id ≤ 4095 ∧ s.ports.epq = [] ∧ s.refs.shortStop = false)
      ∧ (∃ (id : Nat) (s : State), 1 ≤ id ∧ id ≤ 4095 ∧ (s.ports.epq ≠ [] ∨ s.refs.shortStop = true))
      ∧ (∃ (m : Nat) (x : Msg) (before after : List Msg) (s : State), (s.bx m).msgs = before ++ x :: after ∧ s.remoteMail =
        false ∧ x.timedOut = false ∧ x.at0 + s.rd .MB_TIMEOUT ≤ s.up ∧ (∀ y ∈ before, y.timedOut = true ∨ s.up < y.at0 +
        s.rd .MB_TIMEOUT)) :=
  ⟨⟨4095, u, by decide +kernel⟩,
   ⟨4095, { u with refs := { shortStop := true } }, by decide +kernel⟩,
   ⟨1, {}, [{ timedOut := true }], [], u.modBx 1 fun b => { b with msgs := [{ timedOut := true }, {}] },
    by decide +kernel⟩⟩

/-- The hypotheses of `Obligations.PostsGoOutOnceAndAreAnswered` are met together, clause by clause. -/
theorem wit_PostsGoOutOnceAndAreAnswered :
    (∃ (m : Nat) (s : State), s.nextPost = some m ∧ s.isReady .sync = true ∧ s.su.everReady = true ∧ s.refs.shortStop =
      false ∧ s.ports.outstanding.length < 16)
      ∧ (∃ (tag status : Nat) (s : State), s.refs.shortStop = true)
      ∧ (∃ (tag status : Nat) (s : State), s.refs.shortStop = false)
      ∧ (∃ (tag : Nat) (x : SemPost) (s : State), s.postOf tag = some x ∧ x.at0 + 100 ≤ s.up) :=
  ⟨⟨1, (u.wr .MB_SEM (2 ^ 31) 1).modBx 1 fun b => { b with posts := 1 }, by decide +kernel⟩,
   ⟨3, 0, { u with refs := { shortStop := true } }, by decide +kernel⟩,
   ⟨3, 0, u, by decide +kernel⟩,
   ⟨3, { tag := 3, at0 := 99999900 }, { u with ports := { outstanding := [{ tag := 3, at0 := 99999900 }] } },
    by decide +kernel⟩⟩

/-- The hypotheses of `Obligations.FastLoopAndFloorUpdates` are met together, clause by clause. -/
theorem wit_FastLoopAndFloorUpdates :
    (∃ (f : Nat) (s : State), (s.f f).ready = true)
      ∧ (∃ (g at0 : Nat) (fl : Floor) (s : State), (s.g g).floor = some fl ∧ at0 = s.runEnd g fl / 8 ∧ s.runEnd g fl + 8 *
        32000 ≤ 8 * s.T ∧ s.rd .FLOOR_RATE g < 2 ^ objBits .FLOOR_RATE) :=
  ⟨⟨0, u.modF 0 fun f => { f with ready := true }, by decide +kernel⟩,
   ⟨0, (u.modG 0 fun g => { g with floor := some {} }).runEnd 0 {} / 8, {}, u.modG 0 fun g => { g with floor := some {} },
    by decide +kernel⟩⟩

/-- The hypotheses of `Obligations.LimitsAndPinsReachTheCaps` are met together, clause by clause. -/
theorem wit_LimitsAndPinsReachTheCaps :
    (∃ (s : State), s.caps.due = true)
      ∧ (∃ (s : State), s.flag .CAP_STATUS 3 = false)
      ∧ (∃ (s : State), s.flag .CAP_STATUS 3 = true) :=
  ⟨⟨{ u with caps := { due := true } }, by decide +kernel⟩,
   ⟨u, by decide +kernel⟩,
   ⟨u.wr .CAP_STATUS 8, by decide +kernel⟩⟩

/-- The hypotheses of `Obligations.ThermalReadingsAndTicks` are met together, clause by clause. -/
theorem wit_ThermalReadingsAndTicks :
    (∃ (n : Nat) (rd : TsReading) (s : State), s.present n = true ∧ s.routerOn n = true ∧ s.rd .TS_COUNT n = 1 ∧ s.inj.cur
      = none ∧ (s.tsOf n 0).failed = false)
      ∧ (∃ (s : State), s.isReady .ctl = true ∧ s.refs.shortStop = false) :=
  ⟨⟨0, { value := some 100 }, u, by decide +kernel⟩,
   ⟨u, by decide +kernel⟩⟩

/-- The hypotheses of `Obligations.ReferencesAreTestedAndLost` are met together, clause by clause. -/
theorem wit_ReferencesAreTestedAndLost :
    (∃ (b : Bool) (s : State), s.su.released = true ∧ s.injAt (3 + b.toNat) = none)
      ∧ (∃ (b : Bool) (err raw : Int) (s : State), s.su.released = true)
      ∧ (∃ (b : Bool) (t0 : Nat) (s : State), s.qualOf b = some t0 ∧ t0 + s.qualTime ≤ s.up ∧ s.refValid b = false)
      ∧ (∃ (err : Int) (s : State), s.selected ≠ 0) :=
  ⟨⟨false, u, by decide +kernel⟩,
   ⟨true, 0, 0, u, by decide +kernel⟩,
   ⟨true, 0, { u with refs := { qualB := some 0 } }, by decide +kernel⟩,
   ⟨5, u, by decide +kernel⟩⟩

/-- The hypotheses of `Obligations.HoldoverEndsInOrder` are met together, clause by clause. -/
theorem wit_HoldoverEndsInOrder :
    (∃ (t0 : Nat) (s : State), s.refs.relockAt = some t0 ∧ t0 ≤ s.up)
      ∧ (∃ (b : Bool) (t0 : Nat) (s : State), s.qualOf b = some t0 ∧ t0 + s.qualTime ≤ s.up ∧ s.refValid b = false ∧
        s.refs.holdSince.isSome = true ∧ s.selected = 0 ∧ s.refs.relockAt = none ∧ s.refs.shortStop = false)
      ∧ (∃ (us : Nat) (s : State), s.refs.shortStop = true ∧ s.budget.due = false ∧ s.budget.rx = [] ∧ s.ports.hostHeld =
        [] ∧ s.ports.epq = [] ∧ s.ports.syHeld = [] ∧ s.refs.holdSince.isSome = true ∧ s.selected ≠ 0)
      ∧ (∃ (g : Nat) (s : State), (s.g g).holdCeil.isSome = true ∧ s.refs.holdSince = none ∧ (∀ n ∈ s.groupRegions g,
        s.clocked n = true → s.osc n .hold = false)) :=
  ⟨⟨99999999, { u with refs := { relockAt := some 99999999 } }, by decide +kernel⟩,
   ⟨true, 0, { u.wr .REF_STATUS 0 with refs := { qualB := some 0, holdSince := some 0 } }, by decide +kernel⟩,
   ⟨50, { u with refs := { shortStop := true, holdSince := some 0 } }, by decide +kernel⟩,
   ⟨0, u.modG 0 fun g => { g with holdCeil := some 500 }, by decide +kernel⟩⟩

/-- The hypotheses of `Obligations.TimeMarksCorrectTheRegions` are met together, clause by clause. -/
theorem wit_TimeMarksCorrectTheRegions :
    (∃ (x : Nat) (s : State), s.su.released = true ∧ x = s.T * 2 ^ 32 + s.clock.frac + s.markPeriods.1 * s.incFor s.slewNow
      + s.markPeriods.2 * s.incFor 0)
      ∧ (∃ (n seq : Nat) (c : Nat × Int) (m : MarkMsg) (e : Int) (s : State), (s.r n).captures.find? (fun x => x.1 == seq)
        = some c ∧ s.clock.sent.find? (fun x => x.seq == seq) = some m ∧ e = (m.tk : Int) - c.2 ∧ (0 ≤ e ∨ m.stepped =
        true))
      ∧ (∃ (n seq : Nat) (c : Nat × Int) (m : MarkMsg) (e : Int) (s : State), (s.r n).captures.find? (fun x => x.1 == seq)
        = some c ∧ s.clock.sent.find? (fun x => x.seq == seq) = some m ∧ e = (m.tk : Int) - c.2 ∧ e < 0 ∧ m.stepped =
        false) :=
  ⟨⟨u.T * 2 ^ 32 + u.clock.frac + u.markPeriods.1 * u.incFor u.slewNow + u.markPeriods.2 * u.incFor 0, u,
    by decide +kernel⟩,
   ⟨0, 5, (5, -5), { seq := 5, tk := 7 }, 12,
    { (u.modR 0 fun r => { r with captures := [(5, -5)] }) with clock := { u.clock with sent := [{ seq := 5, tk := 7 }] } },
    by decide +kernel⟩,
   ⟨0, 5, (5, 50), { seq := 5, tk := 7 }, -43,
    { (u.modR 0 fun r => { r with captures := [(5, 50)] }) with clock := { u.clock with sent := [{ seq := 5, tk := 7 }] } },
    by decide +kernel⟩⟩

/-- The hypotheses of `Obligations.GroupWritesTakeEffect` are met together, clause by clause. -/
theorem wit_GroupWritesTakeEffect :
    (∃ (w : Wr) (s : State), s.Accepts .GROUP_SHARE 0 w)
      ∧ (∃ (w : Wr) (s : State), s.Accepts .OP_TABLE 0 w)
      ∧ (∃ (w : Wr) (s : State), s.Accepts .FIXED_RATE_ENABLE 0 w)
      ∧ (∃ (w : Wr) (s : State), s.Accepts .FIXED_RATE_N 0 w)
      ∧ (∃ (w : Wr) (s : State), s.Accepts .REGION_TARGET_N 0 w)
      ∧ (∃ (w : Wr) (s : State), s.Accepts .RUN_CTL 0 w ∧ w.val = 1)
      ∧ (∃ (w : Wr) (s : State), s.Accepts .RUN_CTL 0 w ∧ w.val = 2)
      ∧ (∃ (w : Wr) (s : State), s.Accepts .REGION_PARTITION 0 w)
      ∧ (∃ (w : Wr) (s : State), s.Accepts .DOMAIN_TARGET 0 w) :=
  ⟨⟨{ len := 1, val := 100 }, u, by decide +kernel⟩,
   ⟨{ len := 128, val := opt }, u, by decide +kernel⟩,
   ⟨{ len := 1, val := 1 }, u, by decide +kernel⟩,
   ⟨{ len := 2, val := 160 }, u, by decide +kernel⟩,
   ⟨{ len := 2, val := 160 }, (u.wr .REGION_DETACHED 1).wr .GROUP_N 160, by decide +kernel⟩,
   ⟨{ len := 1, val := 1 }, u, by decide +kernel⟩,
   ⟨{ len := 1, val := 2 }, u, by decide +kernel⟩,
   ⟨{ len := 1, val := 3 }, u, by decide +kernel⟩,
   ⟨{ len := 1, val := 1 }, u, by decide +kernel⟩⟩

/-- The hypotheses of `Obligations.RegionWritesTakeEffect` are met together, clause by clause. -/
theorem wit_RegionWritesTakeEffect :
    (∃ (w : Wr) (s : State), s.Accepts .DS_QUARANTINE 0 w)
      ∧ (∃ (w : Wr) (s : State), s.Accepts .DS_ENABLE 0 w)
      ∧ (∃ (w : Wr) (s : State), s.Accepts .XING_FENCE 0 w)
      ∧ (∃ (w : Wr) (s : State), s.Accepts .AGE_SAMPLE_REQ 0 w ∧ w.val = 1 ∧ s.rd .AGE_SAMPLE_REQ w.el = 0)
      ∧ (∃ (w : Wr) (s : State), s.Accepts .CAL_RESET_REQ 0 w ∧ w.val = 1 ∧ s.rd .CAL_RESET_REQ w.el = 0)
      ∧ (∃ (w : Wr) (s : State), s.Accepts .EST_WEIGHT_FACTORY 0 w)
      ∧ (∃ (w : Wr) (s : State), s.Accepts .EST_SHIFT 0 w)
      ∧ (∃ (n i be val : Nat) (s : State), n < 1024 ∧ i < 512 ∧ i % 4 = 0 ∧ s.HpTakes ∧ s.inj.flips = [] ∧ s.weightCheck n
        i be val = .ok) :=
  ⟨⟨{ len := 4, val := 0 }, u, by decide +kernel⟩,
   ⟨{ len := 4, val := 15 }, u, by decide +kernel⟩,
   ⟨{ len := 4, val := 1 }, u, by decide +kernel⟩,
   ⟨{ len := 1, val := 1 }, u, by decide +kernel⟩,
   ⟨{ len := 1, val := 1 }, u, by decide +kernel⟩,
   ⟨{ len := 1024, val := wts }, u, by decide +kernel⟩,
   ⟨{ len := 1, val := 7 }, u, by decide +kernel⟩,
   ⟨0, 0, 0xFF, 0x100010001000100, u, by decide +kernel⟩⟩

/-- The hypotheses of `Obligations.TimeAndBudgetWritesTakeEffect` are met together, clause by clause. -/
theorem wit_TimeAndBudgetWritesTakeEffect :
    (∃ (w : Wr) (s : State), s.Accepts .REF_PREFER 0 w)
      ∧ (∃ (w : Wr) (s : State), s.Accepts .TIME_SET 0 w)
      ∧ (∃ (w : Wr) (s : State), s.Accepts .TIME_OFFSET_ADJ 0 w)
      ∧ (∃ (w : Wr) (s : State), s.Accepts .PR_CLEAR 0 w ∧ w.val = 1 ∧ s.rd .PR_CLEAR w.el = 0)
      ∧ (∃ (w : Wr) (s : State), s.Accepts .PR_REARM 0 w ∧ w.val = 1 ∧ s.rd .PR_REARM w.el = 0)
      ∧ (∃ (w : Wr) (s : State), s.Accepts .PR_POLICY 0 w)
      ∧ (∃ (w : Wr) (s : State), s.Accepts .BX_EPOCH_LOAD 0 w)
      ∧ (∃ (w : Wr) (s : State), s.Accepts .REPORT_SNAP_REQ 0 w ∧ w.val = 1 ∧ s.rd .REPORT_SNAP_REQ w.el = 0)
      ∧ (∃ (w : Wr) (s : State), s.Accepts .RAIL_RECOVER 0 w ∧ w.val = 1 ∧ s.rd .RAIL_RECOVER w.el = 0) :=
  ⟨⟨{ len := 1, val := 1 }, u, by decide +kernel⟩,
   ⟨{ len := 8, val := 16000000 * 7 }, u, by decide +kernel⟩,
   ⟨{ len := 4, val := 100 }, u, by decide +kernel⟩,
   ⟨{ len := 1, val := 1 }, u, by decide +kernel⟩,
   ⟨{ len := 1, val := 1 }, u, by decide +kernel⟩,
   ⟨{ len := 1, val := 2 }, u, by decide +kernel⟩,
   ⟨{ len := 8, val := 5 + 100000 * 2 ^ 32 }, u, by decide +kernel⟩,
   ⟨{ len := 1, val := 1 }, u, by decide +kernel⟩,
   ⟨{ len := 1, val := 1 }, u.wr .RAIL_STATE 3, by decide +kernel⟩⟩

/-- The hypotheses of `Obligations.AdministrativeWritesTakeEffect` are met together, clause by clause. -/
theorem wit_AdministrativeWritesTakeEffect :
    (∃ (w : Wr) (s : State), s.Accepts .ALERT_ACK 0 w)
      ∧ (∃ (w : Wr) (s : State), s.Accepts .EXPERT_UNLOCK 0 w)
      ∧ (∃ (w : Wr) (s : State), s.Accepts .PERSIST_FLUSH 0 w ∧ w.val = 1 ∧ s.rd .PERSIST_FLUSH w.el = 0)
      ∧ (∃ (w : Wr) (s : State), s.Accepts .FN_SNAP_REQ 0 w ∧ w.val = 1 ∧ s.rd .FN_SNAP_REQ w.el = 0)
      ∧ (∃ (w : Wr) (s : State), s.Accepts .LC_ARM 0 w ∧ w.val = 1)
      ∧ (∃ (w : Wr) (s : State), s.Accepts .LC_REQUEST 0 w)
      ∧ (∃ (w : Wr) (s : State), s.Accepts .FN_FORMAT_REQ 0 w ∧ w.val = 1 ∧ s.rd .FN_FORMAT_REQ w.el = 0 ∧ s.flag
        .FN_STATUS 8 = true)
      ∧ (∃ (w : Wr) (s : State), s.Accepts .SELF_RESET_REQ 0 w ∧ w.val = 1 ∧ s.rd .SELF_RESET_REQ w.el = 0)
      ∧ (∃ (i : Nat) (w : Wr) (s : State), i < 64 ∧ s.Accepts .LOCK_FORCE i w ∧ w.val = 1 ∧ s.rd .LOCK_FORCE w.el i = 0) :=
  ⟨⟨{ len := 4, val := 255 }, u, by decide +kernel⟩,
   ⟨{ len := 1, val := 1 }, u, by decide +kernel⟩,
   ⟨{ len := 1, val := 1 }, u, by decide +kernel⟩,
   ⟨{ len := 1, val := 1 }, u, by decide +kernel⟩,
   ⟨{ len := 1, val := 1 }, u, by decide +kernel⟩,
   ⟨{ len := 1, val := 2 }, { u with fon := { armUntil := some 0 } }, by decide +kernel⟩,
   ⟨{ len := 1, val := 1 }, u.wr .FN_STATUS 0x11F, by decide +kernel⟩,
   ⟨{ len := 1, val := 1 }, u, by decide +kernel⟩,
   ⟨63, { len := 1, val := 1 }, u, by decide +kernel⟩⟩

/-- The hypotheses of `Obligations.InjectionsAreArmedAndEnd` are met together, clause by clause. -/
theorem wit_InjectionsAreArmedAndEnd :
    (∃ (w : Wr) (s : State) (x : Nat × Instr), x ∈ [(1, Instr.injDsReading w), (2, .injTsReading w), (3, .injRefALoss w),
      (4, .injRefBLoss w), (5, .injSlip w), (6, .injRzCrc w), (7, .injFnRecord w), (8, .injSramBit w), (9, .injSpineParity
      w), (10, .injEstOverflow w), (11, .injFdpFraming w)] ∧ s.rd .INJ_POINT = x.1 ∧ s.Accepts .INJ_ARM 0 w ∧ w.val = 1 ∧
      s.rd .INJ_ARM w.el = 0)
      ∧ (∃ (y : Inj) (s : State), s.inj.cur = some y ∧ y.deadline ≤ s.up)
      ∧ (∃ (s : State), s.on .FIELD_TEST_PERMIT = true ∧ s.inj.permitUntil ≤ s.up) :=
  ⟨⟨{ len := 1, val := 1 }, ((u.wr .INJ_POINT 3).wr .INJ_ARG 1), (3, .injRefALoss { len := 1, val := 1 }),
    by decide +kernel⟩,
   ⟨{ point := 3 }, { u with inj := { cur := some { point := 3 } } }, by decide +kernel⟩,
   ⟨u.wr .FIELD_TEST_PERMIT 1, by decide +kernel⟩⟩

/-- The hypotheses of `Obligations.ObjectWritesAreCheckedAndAudited` are met together, clause by clause. -/
theorem wit_ObjectWritesAreCheckedAndAudited :
    (∃ (index sub o i : Nat) (w : Wr) (x : Obj) (s : State), o = objBits x ∧ plainWrite x = true ∧ s.Carries
      { write := true, index := index, sub := sub, el := w.el, src := w.src, len := w.len, val := w.val } x i)
      ∧ (∃ (index sub i : Nat) (w : Wr) (x : Obj) (c : Code) (a : Access) (s : State), a =
        { write := true, index := index, sub := sub, el := w.el, src := w.src, len := w.len, val := w.val } ∧ a.obj = some
        (x, i) ∧ s.Admits w.src ∧ s.mustWait a x i = false ∧ s.busyOf x w.el w.val = false ∧ s.checkWrite a x i = some c)
      ∧ (∃ (index sub i : Nat) (w : Wr) (x : Obj) (a : Access) (s : State), a =
        { write := true, index := index, sub := sub, el := w.el, src := w.src, len := w.len, val := w.val } ∧ a.obj = some
        (x, i) ∧ s.Admits w.src ∧ s.isRemote x = true ∧ (s.mustWait a x i = true ∨ (s.busyOf x w.el w.val = false ∧
        s.checkWrite a x i = none)))
      ∧ (∃ (ix : Nat) (x : RemoteAcc) (s : State), s.refs.shortStop = false ∧ s.ports.hostHeld = [] ∧ s.inj.flips = [] ∧ (∀
        y ∈ s.dict.remote, y.flying = true) ∧ s.dict.remote[ix]? = some x ∧ x.via = .direct ∧ x.write = true ∧ plainWrite
        x.obj = true ∧ writable (s.rightsOf x.obj) = true)
      ∧ (∃ (ix : Nat) (x : RemoteAcc) (s : State), s.refs.shortStop = false ∧ s.ports.hostHeld = [] ∧ s.inj.flips = [] ∧ (∀
        y ∈ s.dict.remote, y.flying = true) ∧ s.dict.remote[ix]? = some x ∧ x.via = .direct ∧ x.write = false ∧ x.lost =
        false) :=
  ⟨⟨12544, 0, 32, 0, { len := 4, val := 5000 }, .HOST_CAP, u, by decide +kernel⟩,
   ⟨12544, 0, 0, { len := 2, val := 5000 }, .HOST_CAP, .badType,
    { write := true, index := 12544, sub := 0, len := 2, val := 5000 }, u, by decide +kernel⟩,
   ⟨12544, 0, 0, { len := 4, val := 5000 }, .HOST_CAP, { write := true, index := 12544, sub := 0, len := 4, val := 5000 },
    { u with build := { tb with remote := [Obj.HOST_CAP.ctorIdx] } }, by decide +kernel⟩,
   ⟨0, { flying := true, write := true, obj := .HOST_CAP, len := 4, val := 5000 },
    { u with dict := { remote := [{ flying := true, write := true, obj := .HOST_CAP, len := 4, val := 5000 }] } },
    by decide +kernel⟩,
   ⟨0, { flying := true, obj := .HOST_CAP, old := 7 },
    { u with dict := { remote := [{ flying := true, obj := .HOST_CAP, old := 7 }] } }, by decide +kernel⟩⟩

/-- The hypotheses of `Obligations.EngineAndIndirectAccess` are met together, clause by clause. -/
theorem wit_EngineAndIndirectAccess :
    (∃ (q : EpReq) (o : Obj) (i : Nat) (s : State), s.EpTakes ∧ q.id % 4096 ≠ 0 ∧ bits q.arg 0 8 = 0 ∧ bits q.data 0 32 = 0
      ∧ bits q.data 32 16 % 8 = 0 ∧ (engAccess q false).obj = some (o, i) ∧ s.checkRead (engAccess q false) o = none ∧
      s.isRemote o = false ∧ s.inj.flips = [])
      ∧ (∃ (q : EpReq) (s : State), s.EpTakes ∧ q.id % 4096 ≠ 0 ∧ bits q.arg 0 8 = 0 ∧ bits q.data 32 16 = 0 ∧ engHighOk q
        = true ∧ s.Passes (engAccess q true) .RUN_CTL 0)
      ∧ (∃ (addr ctl : Nat) (s : State), bit ctl 0 = false ∧ s.HpTakes)
      ∧ (∃ (addr buf ctl : Nat) (s : State), bit ctl 0 = true ∧ s.HpTakes)
      ∧ (∃ (o : Obj) (i : Nat) (s : State), s.idx.op = some (false, 0) ∧ (∀ x ∈ s.dict.remote, x.via ≠ .idx) ∧ (s.idxAccess
        false 0).obj = some (o, i) ∧ s.checkRead (s.idxAccess false 0) o = none ∧ s.isRemote o = false ∧ s.inj.flips = [] ∧
        s.refs.shortStop = false)
      ∧ (∃ (o : Obj) (i len : Nat) (s : State), s.idx.op = some (true, len) ∧ (∀ x ∈ s.dict.remote, x.via ≠ .idx) ∧
        s.Passes (s.idxAccess true len) o i ∧ plainWrite o = true ∧ s.refs.shortStop = false) :=
  ⟨⟨{ id := 5, arg := 12544 * 2 ^ 16 }, .HOST_CAP, 0, u, by decide +kernel⟩,
   ⟨{ id := 5, arg := 13360 * 2 ^ 16, data := 1 }, u, by decide +kernel⟩,
   ⟨12544 * 2 ^ 32, 2, u, by decide +kernel⟩,
   ⟨12544 * 2 ^ 32, 5000, 0x401, u, by decide +kernel⟩,
   ⟨.HOST_CAP, 0, { u with idx := { addr := 12544 * 2 ^ 32, op := some (false, 0) } }, by decide +kernel⟩,
   ⟨.HOST_CAP, 0, 4, { u with idx := { addr := 12544 * 2 ^ 32, buf := 5000, op := some (true, 4) } }, by decide +kernel⟩⟩

/-- The hypotheses of `Obligations.HostWindowCommands` are met together, clause by clause. -/
theorem wit_HostWindowCommands :
    (∃ (tag f be val : Nat) (s : State), tag < 4096 ∧ f < 128 ∧ s.HpTakes ∧ s.inj.flips = [] ∧ s.phaseCheck f be val = .ok)
      ∧ (∃ (i : Nat) (s : State), i < 64 ∧ s.HpTakes ∧ s.isReady .ctl = true ∧ s.isReady .mailbox = true)
      ∧ (∃ (i val : Nat) (s : State), i < 64 ∧ s.HpTakes ∧ s.isReady .ctl = true ∧ s.isReady .mailbox = true)
      ∧ (∃ (r : HeldReq) (c : Instr) (i val : Nat) (s : State), i < 64 ∧ (r, c) ∈ [(HeldReq.lockAcquire i,
        Instr.lockHostAcquire i), (.lockRelease i, .lockHostRelease i val), (.ring val, .hostDbRing val)] ∧ s.hpReady =
        true ∧ (s.refs.shortStop = true ∨ s.hostRemote ≠ [] ∨ s.ports.hostHeld ≠ []))
      ∧ (∃ (i val : Nat) (s : State), s.hpReady = false)
      ∧ (∃ (m : Nat) (s : State), m < 64 ∧ m < s.rd .NUM_MAILBOXES ∧ s.HpTakes ∧ s.isReady .ctl = true ∧ s.isReady .mailbox
        = true ∧ s.on .MB_WAKE m = false) :=
  ⟨⟨4095, 0, 255, 0, u, by decide +kernel⟩,
   ⟨63, u, by decide +kernel⟩,
   ⟨63, 0, u, by decide +kernel⟩,
   ⟨.ring 1, .hostDbRing 1, 63, 1, { u with refs := { shortStop := true } }, by decide +kernel⟩,
   ⟨63, 0, z, by decide +kernel⟩,
   ⟨1, u.wr .MB_WAKE 0 1, by decide +kernel⟩⟩

/-- The hypotheses of `Obligations.PhaseMarksAnnounceAndBegin` are met together, clause by clause. -/
theorem wit_PhaseMarksAnnounceAndBegin :
    (∃ (q : EpReq) (g tag : Nat) (c : Option Nat × Bool) (s : State), g = bits q.arg 12 3 ∧ tag = bits q.arg 0 12 ∧
      s.EpTakes ∧ q.id % 4096 ≠ 0 ∧ onlyBits q.arg 0xFFFF7FFF = true ∧ q.data = 0 ∧ s.isReady .praline = true ∧ g < s.rd
      .NUM_GROUPS ∧ s.groupFields g ≠ [] ∧ s.duplicate g 1 tag = none ∧ s.inj.flips = [] ∧ (c = (if s.policy g = .learn ∧
      s.pralineIdle g = false then s.stepLfsr g else s).choose g tag true))
      ∧ (∃ (q : EpReq) (g tag : Nat) (s : State), g = bits q.arg 12 3 ∧ tag = bits q.arg 0 12 ∧ s.EpTakes ∧ q.id % 4096 ≠ 0
        ∧ onlyBits q.arg 0x7FFF = true ∧ q.data = 0 ∧ s.isReady .praline = true ∧ g < s.rd .NUM_GROUPS ∧ s.groupFields g ≠
        [] ∧ s.duplicate g 2 tag = none ∧ s.frozen = false)
      ∧ (∃ (q : EpReq) (g tag : Nat) (s : State), g = bits q.arg 12 3 ∧ tag = bits q.arg 0 12 ∧ s.EpTakes ∧ q.id % 4096 ≠ 0
        ∧ onlyBits q.arg 0x3F7FFF = true ∧ q.data = 0 ∧ s.isReady .praline = true ∧ g < s.rd .NUM_GROUPS ∧ s.groupFields g
        ≠ [] ∧ s.duplicate g 3 tag = none)
      ∧ (∃ (q : EpReq) (g op d : Nat) (c : Instr) (s : State), g = bits q.arg 12 3 ∧ (op, c) ∈ [(1, Instr.phaseNext q), (2,
        .phaseBegin q), (3, .preferredPoint q)] ∧ s.EpTakes ∧ q.id % 4096 ≠ 0 ∧ onlyBits q.arg 0x7FFF = true ∧ q.data = 0 ∧
        s.isReady .praline = true ∧ g < s.rd .NUM_GROUPS ∧ s.groupFields g ≠ [] ∧ s.duplicate g op (bits q.arg 0 12) = some
        d) :=
  ⟨⟨{ id := 5, arg := 7 }, 0, 7,
    (if u.policy 0 = .learn ∧ u.pralineIdle 0 = false then u.stepLfsr 0 else u).choose 0 7 true, u, by decide +kernel⟩,
   ⟨{ id := 5, arg := 7 }, 0, 7, u, by decide +kernel⟩,
   ⟨{ id := 5, arg := 0x10007 }, 0, 7, u, by decide +kernel⟩,
   ⟨{ id := 5, arg := 7 }, 0, 1, 2, .phaseNext { id := 5, arg := 7 },
    u.modG 0 fun g => { g with marks := [(1, 7, 1600000000, 2)] }, by decide +kernel⟩⟩

/-- The hypotheses of `Obligations.BudgetRoundsAndEpochs` are met together, clause by clause. -/
theorem wit_BudgetRoundsAndEpochs :
    (∃ (stalled : Nat) (s : State), s.isReady .budget = true ∧ s.T / 8000000 ≠ s.budget.round)
      ∧ (∃ (us : Nat) (s : State), s.refs.shortStop = true ∧ s.budget.due = true ∧ s.budget.rx = [] ∧ s.ports.hostHeld = []
        ∧ s.ports.epq = [] ∧ s.ports.syHeld = [])
      ∧ (∃ (s : State), s.budget.installed = true ∧ s.budget.expired = false ∧ s.budget.installAt + 1000 * s.rd
        .BX_EPOCH_TIMEOUT ≤ s.up ∧ s.rd .BX_GRANT < 2 ^ 32)
      ∧ (∃ (s : State), s.budget.installed = true ∧ s.budget.installAt + 1500 * s.rd .BX_EPOCH_PERIOD ≤ s.up)
      ∧ (∃ (ns : Nat) (s : State), s.refs.shortStop = true)
      ∧ (∃ (ns : Nat) (s : State), s.refs.shortStop = false) :=
  ⟨⟨0, u, by decide +kernel⟩,
   ⟨50, { u with refs := { shortStop := true }, budget := { due := true } }, by decide +kernel⟩,
   ⟨{ u with budget := { installed := true } }, by decide +kernel⟩,
   ⟨{ u with budget := { installed := true } }, by decide +kernel⟩,
   ⟨5, { u with refs := { shortStop := true } }, by decide +kernel⟩,
   ⟨5, u, by decide +kernel⟩⟩

/-- The hypotheses of `Obligations.BudgetFramesAreCheckedFirst` are met together, clause by clause. -/
theorem wit_BudgetFramesAreCheckedFirst :
    (∃ (p x : Nat) (s : State), p < 8 ∧ s.refs.shortStop = false ∧ frameAt (x % 2 ^ 512) 2 1 = 1)
      ∧ (∃ (p x : Nat) (s : State), p < 8 ∧ s.refs.shortStop = true ∧ frameAt (x % 2 ^ 512) 2 1 = 1)
      ∧ (∃ (p beats x k : Nat) (err : Bool) (s : State), p < 8 ∧ s.refs.shortStop = false ∧ s.frameCheck p beats err (x % 2
        ^ 512) = k ∧ k ≠ 0)
      ∧ (∃ (p x op : Nat) (c : Instr) (s : State), (op, c) ∈ [(0, Instr.directiveRead p x), (1, .directiveWrite p x)] ∧ p <
        8 ∧ s.refs.shortStop = false ∧ s.budget.engine ≠ 0 ∧ frameAt (x % 2 ^ 512) 2 1 = 2 ∧ frameAt (x % 2 ^ 512) 27 1 =
        op ∧ s.frameCheck p 8 false (x % 2 ^ 512) = 0 ∧ ((State.directive p (x % 2 ^ 512) (op == 1)).obj.all fun y =>
        !s.isRemote y.1 && y.1 != Obj.BX_DIRECTIVES) = true)
      ∧ (∃ (p x : Nat) (s : State), p < 8 ∧ s.refs.shortStop = false ∧ frameAt (x % 2 ^ 512) 2 1 = 2 ∧ frameAt (x % 2 ^
        512) 27 1 = 1 ∧ s.frameCheck p 8 false (x % 2 ^ 512) = 0 ∧ (s.slot p).coord = true ∧ s.Passes (State.directive p (x
        % 2 ^ 512) true) .BX_EPOCH_LOAD 0) :=
  ⟨⟨7, 2 ^ 16, u, by decide +kernel⟩,
   ⟨7, 2 ^ 16, { u with refs := { shortStop := true } }, by decide +kernel⟩,
   ⟨7, 8, 0, 2, false, ub, by decide +kernel⟩,
   ⟨7, dirFrame 0 0x3300 2 5, 0, .directiveRead 7 (dirFrame 0 0x3300 2 5), ub, by decide +kernel⟩,
   ⟨7, dirFrame 1 0x3300 5 (5 + 100000 * 2 ^ 32), ub, by decide +kernel⟩⟩

/-- The hypotheses of `Obligations.FieldBusRequestsAreAnswered` are met together, clause by clause. -/
theorem wit_FieldBusRequestsAreAnswered :
    (∃ (q : FdpFrame) (o : Obj) (i : Nat) (s : State), fdpGood q = true ∧ fdpAt q 0 1 = 1 ∧ s.fdpFilter q = none ∧
      s.su.everReady = true ∧ s.busAccesses.length < 8 ∧ s.fdpRepeat q = none ∧ s.injAt 11 = none ∧ fdpAt q 8 2 = 0 ∧
      (fdpAccess q false 0 0).obj = some (o, i) ∧ s.checkRead (fdpAccess q false 0 0) o = none ∧ s.isRemote o = false ∧
      s.inj.flips = [])
      ∧ (∃ (q : FdpFrame) (o : Obj) (i : Nat) (s : State), fdpGood q = true ∧ fdpAt q 0 1 = 2 ∧ s.fdpFilter q = none ∧
        s.su.everReady = true ∧ s.busAccesses.length < 8 ∧ s.fdpRepeat q = none ∧ s.injAt 11 = none ∧ bit (fdpAt q 1 1) 0 =
        true ∧ bit (fdpAt q 1 1) 1 = true ∧ fdpAt q 8 2 = 0 ∧ s.Passes (fdpAccess q true (fdpAt q 10 2) (fdpAt q 16 (fdpAt
        q 10 2))) o i ∧ plainWrite o = true)
      ∧ (∃ (q : FdpFrame) (s : State), fdpGood q = true ∧ fdpAt q 0 1 = 2 ∧ s.fdpFilter q = none ∧ s.su.everReady = true ∧
        s.busAccesses.length < 8 ∧ s.fdpRepeat q = none ∧ s.injAt 11 = none ∧ bit (fdpAt q 1 1) 0 = true ∧ bit (fdpAt q 1
        1) 1 = false ∧ fdpAt q 8 2 = 0 ∧ s.fdp.sess = none ∧ s.inj.flips = [])
      ∧ (∃ (q : FdpFrame) (s : State), fdpGood q = false ∧ s.fdpFilter q = none ∧ s.su.everReady = true ∧
        s.busAccesses.length < 8 ∧ s.fdpRepeat q = none ∧ s.injAt 11 = none ∧ s.inj.flips = [])
      ∧ (∃ (q : FdpFrame) (x : FdpLast) (r : FdpRsp) (s : State), fdpGood q = true ∧ fdpAt q 0 1 = 1 ∧ s.fdpFilter q = none
        ∧ s.su.everReady = true ∧ s.busAccesses.length < 8 ∧ s.fdpRepeat q = some x ∧ x.rsp = some r ∧ s.inj.flips = [])
      ∧ (∃ (q : FdpFrame) (s : State), fdpGood q = false ∧ s.fdp.standby = true) :=
  ⟨⟨{ ident := 0x010503, len := 20, data := fdpData 1 0 12544 0 4 0 }, .HOST_CAP, 0, u, by decide +kernel⟩,
   ⟨{ ident := 0x010503, len := 20, data := fdpData 2 3 12544 2 4 5000 }, .EXT_CAP, 0, u, by decide +kernel⟩,
   ⟨{ ident := 0x010503, len := 20, data := fdpData 2 1 12544 2 4 5000 }, u, by decide +kernel⟩,
   ⟨{ ident := 0x010503, len := 16, data := 9 }, u, by decide +kernel⟩,
   ⟨{ ident := 0x010503, len := 20, data := fdpData 1 0 12544 0 4 0 },
    { tid := 3, len := 20, data := fdpData 1 0 12544 0 4 0, at0 := 99000000, rsp := some {} }, {},
    { u with fdp := { standby := false, last := [(5, { tid := 3, len := 20, data := fdpData 1 0 12544 0 4 0, at0 := 99000000, rsp := some {} })] } },
    by decide +kernel⟩,
   ⟨{ ident := 0x010503, len := 16, data := 9 }, z, by decide +kernel⟩⟩

/-- The hypotheses of `Obligations.FieldBusSessionsAndBusOff` are met together, clause by clause. -/
theorem wit_FieldBusSessionsAndBusOff :
    (∃ (x : Sess) (s : State), s.fdp.sess = some x ∧ x.at0 + 100000 ≤ s.up)
      ∧ (∃ (s : State), s.fdp.standby = false ∧ s.fdp.busOff = false)
      ∧ (∃ (s : State), s.fdp.busOff = true) :=
  ⟨⟨{ at0 := 99900000 }, { u with fdp := { sess := some { at0 := 99900000 } } }, by decide +kernel⟩,
   ⟨u, by decide +kernel⟩,
   ⟨{ u with fdp := { standby := false, busOff := true } }, by decide +kernel⟩⟩

/-- The hypotheses of `Obligations.CommitsAreWrittenRecordByRecord` are met together, clause by clause. -/
theorem wit_CommitsAreWrittenRecordByRecord :
    (∃ (w : Why) (b : Bool) (s : State), s.fon.cur = none ∧ s.storeUp = true ∧ s.fon.transDone = false ∧ s.relocatable =
      none ∧ s.fon.due = [(w, b)] ∧ (w = .snapshot → s.flag .FN_STATUS 4 = true) ∧ s.commitRecs w ≠ [] ∧ s.affords
      (s.classOfCommit w) (s.commitRecs w).length = true)
      ∧ (∃ (c : Commit) (s : State), s.fon.cur = some c ∧ s.injAt 7 = none ∧ s.inj.flips = [] ∧ c.retry = false)
      ∧ (∃ (c : Commit) (s : State), s.fon.cur = some c ∧ s.injAt 7 = none ∧ s.inj.flips = [] ∧ c.pos + 1 < c.recs.length ∧
        s.devOk c.dev = true)
      ∧ (∃ (c : Commit) (s : State), s.fon.cur = some c ∧ s.injAt 7 = none ∧ s.inj.flips = [] ∧ c.recs.length ≤ c.pos + 1 ∧
        c.dev = 1 ∧ s.devOk 1 = true)
      ∧ (∃ (at0 : Nat) (s : State), s.dict.dirty ≠ [] ∧ s.dict.commitAt = some at0 ∧ at0 ≤ s.up) :=
  ⟨⟨.summaries, false, { u with fon := { due := [(.summaries, false)], summaries := [{}], credit := 2048 } },
    by decide +kernel⟩,
   ⟨{ recs := [{}] }, { u with fon := { cur := some { recs := [{}] } } }, by decide +kernel⟩,
   ⟨{ recs := [{}, {}] }, { u with fon := { cur := some { recs := [{}, {}] } } }, by decide +kernel⟩,
   ⟨{ recs := [{ seq := 1 }], dev := 1, why := .transition },
    { u with fon := { target := some 3, cur := some { recs := [{ seq := 1 }], dev := 1, why := .transition } }, flash := { ring := 32752 } },
    by decide +kernel⟩,
   ⟨99999999, { u with dict := { dirty := [1], commitAt := some 99999999 } }, by decide +kernel⟩⟩

/-- The hypotheses of `Obligations.FondantKeepsItsStore` are met together, clause by clause. -/
theorem wit_FondantKeepsItsStore :
    (∃ (s : State), s.storeUp = true ∧ s.devOk 0 = true ∧ s.devOk 1 = true)
      ∧ (∃ (r : JRec) (s : State), s.relocatable = some r ∧ s.storeUp = true)
      ∧ (∃ (s : State), s.storeUp = true ∧ s.fon.creditAt ≤ s.up)
      ∧ (∃ (s : State), s.storeUp = true ∧ s.flag .FN_STATUS 4 = true ∧ s.rd .FN_SNAP_LAST + 3600 * s.rd .FN_SNAP_INTERVAL
        ≤ s.fon.life0 + s.up / 1000000)
      ∧ (∃ (s : State), s.storeUp = true ∧ (s.fon.life0 + s.up / 1000000) / 86400 ≠ s.fon.day ∧ 0 < s.rd .NUM_FIELDS)
      ∧ (∃ (s : State), s.storeUp = true ∧ s.flash.wipePending = true) :=
  ⟨⟨{ u with flash := { journal := [{ seq := 1, goodA := true }, { seq := 2, goodB := true }] }, fon := { repair := [1] } },
    by decide +kernel⟩,
   ⟨{ type := 1, seq := 1, goodA := true, goodB := true },
    { u.wr .FN_HEAD_SEQ 5000 with flash := { ring := 4000, journal := [{ type := 1, seq := 1, goodA := true, goodB := true }] } },
    by decide +kernel⟩,
   ⟨{ u with fon := { creditAt := 100000000 } }, by decide +kernel⟩,
   ⟨u.wr .FN_SNAP_INTERVAL 0, by decide +kernel⟩,
   ⟨{ u with fon := { day := 5 } }, by decide +kernel⟩,
   ⟨{ u with flash := { wipePending := true } }, by decide +kernel⟩⟩

/-- The hypotheses of `Obligations.ResetsWipeAndKeep` are met together. -/
theorem wit_ResetsWipeAndKeep :
    (∃ (at0 : Nat) (s : State), s.su.selfReset = some at0 ∧ (s.on .PERSIST_FLUSH = false ∨ at0 ≤ s.up)) :=
  ⟨0, { u with su := { selfReset := some 0 } }, by decide +kernel⟩

/-- The hypotheses of `Obligations.StartUpBeginsWithPowerAndStore` are met together, clause by clause. -/
theorem wit_StartUpBeginsWithPowerAndStore :
    (∃ (s : State), s.su.released = false)
      ∧ (∃ (s : State), s.seqRuns = true ∧ s.isReady .ctl = false ∧ 200 ≤ s.up ∧ (s.refValid false = true ∨ s.refValid true
        = true))
      ∧ (∃ (a b : FlashDev) (s : State), s.seqRuns = true ∧ s.isReady .ctl = true ∧ s.fon.mountEnded = false)
      ∧ (∃ (s : State), s.seqRuns = true ∧ s.fon.mountEnded = true ∧ s.su.excludedApplied = false)
      ∧ (∃ (m : CalMeas) (s : State), s.seqRuns = true ∧ s.coldCalibrating = true ∧ s.live m.region = true) :=
  ⟨⟨z, by decide +kernel⟩,
   ⟨({ u.wr .UNIT_READY 1 with su := { released := true, excludedApplied := true } }), by decide +kernel⟩,
   ⟨{ sectors := 32768 }, {}, u, by decide +kernel⟩,
   ⟨{ u with su := { released := true }, fon := { mountEnded := true } }, by decide +kernel⟩,
   ⟨{ region := 1, sensors := [700] },
    (({ u.wr .UNIT_READY 0x3FFFF with su := { released := true, excludedApplied := true } }).wr .START_STATE 0).wr .LC_STATE 0,
    by decide +kernel⟩⟩

/-- The hypotheses of `Obligations.StartUpOpensTheUnits` are met together, clause by clause. -/
theorem wit_StartUpOpensTheUnits :
    (∃ (s : State), s.seqRuns = true ∧ s.su.excludedApplied = true ∧ s.isReady .mailbox = false)
      ∧ (∃ (s : State), s.seqRuns = true ∧ s.isReady .rails = true ∧ s.flag .FN_STATUS 2 = true ∧ s.isReady .dict = false)
      ∧ (∃ (g : Nat) (s : State), s.seqRuns = true ∧ s.isReady .dict = true ∧ s.rd .LC_STATE = 2 ∧ g < s.rd .NUM_GROUPS ∧
        s.groupFields g ≠ [])
      ∧ (∃ (s : State), s.seqRuns = true ∧ s.flag .FN_STATUS 3 = true ∧ s.isReady .praline = false)
      ∧ (∃ (s : State), s.seqRuns = true ∧ 5000000 ≤ s.up ∧ s.startIs .failed = false ∧ (s.su.everReady = false ∨ s.isReady
        .dict = false ∨ s.isReady .mailbox = false)) :=
  ⟨⟨u.wr .UNIT_READY 3, by decide +kernel⟩,
   ⟨u.wr .UNIT_READY 0x23, by decide +kernel⟩,
   ⟨0, u.wr .LC_STATE 2, by decide +kernel⟩,
   ⟨u.wr .UNIT_READY 3, by decide +kernel⟩,
   ⟨{ u with su := { released := true } }, by decide +kernel⟩⟩

/-- The hypotheses of `Obligations.ArmsRunFromStartToReady` are met together, clause by clause. -/
theorem wit_ArmsRunFromStartToReady :
    (∃ (s : State), s.seqRuns = true ∧ s.mayArm = true ∧ s.su.arming = false ∧ s.oscDue = true)
      ∧ (∃ (s : State), s.trimmed = true ∧ s.su.rearm = false ∧ s.isReady .aligned = false ∧ 10000 ≤ s.up)
      ∧ (∃ (s : State), s.su.arming = true ∧ s.su.repeatDue = false ∧ s.su.rearm = false ∧ s.su.ramping = false ∧ s.isReady
        .aligned = true ∧ s.isReady .mailbox = true ∧ s.flt.lineAt = none)
      ∧ (∃ (s : State), s.rampEnded = true ∧ s.su.rearm = false ∧ 25000 ≤ s.up)
      ∧ (∃ (s : State), s.su.jobRstN = true)
      ∧ (∃ (s : State), s.startIs .halted = true ∧ s.su.arming = false ∧ s.mayArm = true)
      ∧ (∃ (s : State), s.su.arming = true ∧ s.su.rearm = true ∧ s.su.ramping = false ∧ s.trimmed = true ∧ s.flt.lineAt =
        none)
      ∧ (∃ (s : State), s.su.rearm = true ∧ s.su.repeatDue = false ∧ s.rampEnded = true) :=
  ⟨⟨({ u with su := { released := true, excludedApplied := true } }).wr .START_STATE 0, by decide +kernel⟩,
   ⟨({ u with su := { released := true, excludedApplied := true, arming := true } }).wr .UNIT_READY 0x7F,
    by decide +kernel⟩,
   ⟨{ u with su := { released := true, excludedApplied := true, arming := true } }, by decide +kernel⟩,
   ⟨{ u with su := { released := true, excludedApplied := true, arming := true, ramping := true } }, by decide +kernel⟩,
   ⟨u, by decide +kernel⟩,
   ⟨u.wr .START_STATE 6, by decide +kernel⟩,
   ⟨{ u with su := { released := true, excludedApplied := true, arming := true, rearm := true } }, by decide +kernel⟩,
   ⟨{ u with su := { released := true, excludedApplied := true, arming := true, rearm := true, ramping := true } },
    by decide +kernel⟩⟩

/-- The hypotheses of `Obligations.FirstFaultIsLatched` are met together, clause by clause. -/
theorem wit_FirstFaultIsLatched :
    (∃ (k : Nat) (s : State), s.refs.shortStop = false ∧ s.digestLatched = false ∧ s.flt.reports.take k ≠ [])
      ∧ (∃ (k : Nat) (s : State), s.refs.shortStop = true)
      ∧ (∃ (k : Nat) (r : FReport) (s : State), s.refs.shortStop = false ∧ s.digestLatched = false ∧ s.flt.reports.take k =
        [r] ∧ s.su.arming = false ∧ s.startIs .ready = true)
      ∧ (∃ (k : Nat) (r : FReport) (s : State), s.refs.shortStop = false ∧ s.digestLatched = true ∧ s.flt.reports.take k =
        [r] ∧ s.su.arming = false)
      ∧ (∃ (s : State), s.flt.line = true ∧ s.refs.shortStop = false)
      ∧ (∃ (at0 : Nat) (s : State), s.flt.lineAt = some at0 ∧ s.digestLatched = false ∧ s.refs.shortStop = false) :=
  ⟨⟨1, { u with flt := { reports := [{ cls := 3, element := 1 }] } }, by decide +kernel⟩,
   ⟨1, { u with refs := { shortStop := true } }, by decide +kernel⟩,
   ⟨1, { cls := 3, element := 1 }, { u with flt := { reports := [{ cls := 3, element := 1 }] } }, by decide +kernel⟩,
   ⟨1, { cls := 3, element := 1 },
    ({ u with flt := { reports := [{ cls := 3, element := 1 }] } }).wr .FAULT_DIGEST (2 ^ 56), by decide +kernel⟩,
   ⟨{ u with flt := { line := true } }, by decide +kernel⟩,
   ⟨0, { u with flt := { lineAt := some 0 } }, by decide +kernel⟩⟩

/-- The hypotheses of `Obligations.LinksSequencersAndAlerts` are met together, clause by clause. -/
theorem wit_LinksSequencersAndAlerts :
    (∃ (a b : Nat × Nat) (m : HopMsg) (x : HopTry) (bad : Bool) (h k : Hop) (s : State), s.linked a b = true ∧ s.inj.cur =
      none ∧ h = Tab.get s.hop (hopKey a b) {} ∧ (x.gap = true ∨ parityError m.msg m.flips = true ∨ Tab.get h.failed m.seq
      0 ≠ 0) ∧ bad = (x.lost || parityError ((h.keep m.seq m.msg).word m) x.flips || !h.holds m.seq))
      ∧ (∃ (a b : Nat × Nat) (m : HopMsg) (x : HopTry) (s : State), s.inj.cur = none ∧ x.gap = false ∧ parityError m.msg
        m.flips = false ∧ Tab.get (Tab.get s.hop (hopKey a b) {}).failed m.seq 0 = 0)
      ∧ (∃ (msg i : Nat), i < 65)
      ∧ (∃ (code elem us : Nat) (q : Seqr) (x : Obj × FaultClass × Instr) (s : State), s.seqAt code elem = some q ∧ x ∈
        [(Obj.SEQ_PARITY_ERRS, FaultClass.seqParity, Instr.seqParity code elem), (.WATCHDOG_EXPIRIES, .watchdog, .watchdog
        ⟨code, elem⟩ us)] ∧ (x.1 = .WATCHDOG_EXPIRIES → s.seqBusy q = true ∧ s.seqHeld q = false ∧ q.limit < s.seqUs q us)
        ∧ (code = 8 → s.ports.hostHeld = [] ∧ ∀ y ∈ s.dict.remote, y.flying = true))
      ∧ (∃ (at0 : Nat) (s : State), s.flt.alertHold = some at0 ∧ at0 ≤ s.up) :=
  ⟨⟨(0, 0), (1, 0), { seq := 9, msg := 77 }, { gap := true }, false, Tab.get u.hop (hopKey (0, 0) (1, 0)) {}, {}, u,
    by decide +kernel⟩,
   ⟨(0, 0), (1, 0), { seq := 9 }, {}, u, by decide +kernel⟩,
   ⟨77, 64, by decide +kernel⟩,
   ⟨4, 0, 3, .fastCap, (.WATCHDOG_EXPIRIES, .watchdog, .watchdog ⟨4, 0⟩ 3), u, by decide +kernel⟩,
   ⟨0, { u with flt := { alertHold := some 0 } }, by decide +kernel⟩⟩

/-- The hypotheses of `Obligations.DeadlinesEndWhatTheyBound` are met together, clause by clause. -/
theorem wit_DeadlinesEndWhatTheyBound :
    (∃ (g : Nat) (o : Occ) (s : State), (s.g g).occ = some o ∧ o.begun + 16000000 * s.markVal .PR_MAX_OCC ≤ s.T)
      ∧ (∃ (g at0 : Nat) (p : Prep) (s : State), (s.g g).prep = some p ∧ p.setAt = some at0 ∧ at0 ≤ s.T ∧ s.pralineIdle g =
        false ∧ s.refs.shortStop = false ∧ s.inj.flips = [])
      ∧ (∃ (g : Nat) (p : Prep) (s : State), (s.g g).prep = some p ∧ s.refs.shortStop = false ∧ p.begun.getD p.begin0 +
        16000 * s.markVal .PR_PREPOS_HOLD ≤ s.T)
      ∧ (∃ (d : Nat) (s : State), s.dict.unlockUntil = some d ∧ d ≤ s.up)
      ∧ (∃ (s : State), s.isReady .dict = true ∧ s.dict.periodEnd ≤ s.up)
      ∧ (∃ (x : Nat) (s : State), s.fon.target = some x ∧ s.fon.transDone = true)
      ∧ (∃ (d : Nat) (s : State), s.fon.armUntil = some d ∧ d ≤ s.up) :=
  ⟨⟨0, {}, (u.wr .PR_MAX_OCC 100).modG 0 fun g => { g with occ := some {} }, by decide +kernel⟩,
   ⟨0, 0, { setAt := some 0 }, (u.wr .PR_POLICY 2).modG 0 fun g => { g with prep := some { setAt := some 0 } },
    by decide +kernel⟩,
   ⟨0, {}, u.modG 0 fun g => { g with prep := some {} }, by decide +kernel⟩,
   ⟨99999999, { u with dict := { unlockUntil := some 99999999 } }, by decide +kernel⟩,
   ⟨{ u with dict := { periodEnd := 100000000 } }, by decide +kernel⟩,
   ⟨2, { u with fon := { target := some 2, transDone := true } }, by decide +kernel⟩,
   ⟨99999999, { u with fon := { armUntil := some 99999999 } }, by decide +kernel⟩⟩
/-- The hypotheses of `Obligations.StepKeepsCanonicalForm` are met together. -/
theorem wit_StepKeepsCanonicalForm : ∃ s t : State, s.canon = true ∧ Sys2Proof.Machine.step s = .next t :=
  ⟨z, z, by decide +kernel, rfl⟩

/-- The hypothesis of `Obligations.CommandsStayWithinReach` is met. -/
theorem wit_CommandsStayWithinReach : ∃ (c : Instr) (s t : State), Sys2Proof.Machine.exec c s = .next t :=
  ⟨.hotNAssert, u, _, rfl⟩

/-- The clauses of `Obligations.GroupTargetsAndSteps` on a target meet at the two ends of the range of R9. -/
theorem wit_GroupTargetsAndSteps_edges :
    (0 < u.rd .NUM_GROUPS ∧ 160 ≤ 1536 ∧ 1536 ≤ 1536) ∧ (1537 < 160 ∨ 1536 < 1537) ∧ (159 < 160 ∨ 1536 < 159) := by
  decide +kernel

/-- A ROUND frame from engine 5 to engine 9 with SEQ 1, in epoch 0: slack, headroom and credit (R326, R328). -/
def roundFrame (slack headroom credit : Nat) : Nat :=
  let x := 0xB7 + 2 ^ 8 + 2 ^ 16 + 5 * 2 ^ 80 + 9 * 2 ^ 96 + 2 ^ 128 + slack * 2 ^ 192 + headroom * 2 ^ 224 + credit * 2 ^ 288
  x + crc32 x 60 * 2 ^ 480

/-- The clauses of `Obligations.BudgetFramesAreCheckedFirst` on a ROUND frame: one that passes every check, with the largest
slack, and one that fails the format check by one bit of its CRC. -/
theorem wit_BudgetFramesAreCheckedFirst_round :
    (let s : State := { ub with budget := { ub.budget with installed := true } }
     s.frameCheck 7 8 false (roundFrame (2 ^ 32 - 1) 0 0 % 2 ^ 512) = 0
       ∧ s.frameCheck 7 8 false ((roundFrame (2 ^ 32 - 1) 0 0 ^^^ 2 ^ 511) % 2 ^ 512) = 2) := by
  decide +kernel

/-- The clauses of `Obligations.LocksHaveOneOwner` on one lock: free, held by the requester, held by another, at both ends of
the locks. -/
theorem wit_LocksHaveOneOwner_edges :
    lockOwner (u.lockWord 0) = none ∧ lockOwner ((u.wr .LOCK 0x10005 0 63).lockWord 63) = some 5
      ∧ lockOwner ((u.wr .LOCK 0x11000 0 63).lockWord 63) = some 0 := by
  decide +kernel

/-! ### Single steps -/

/-- The state after one step with `c` in front. -/
def after (c : Instr) (s : State) : State :=
  match step { s with pending := [c] } with
  | .next t => t
  | .fault _ => z
  | .refused _ => z

/-- R108's example: periods 1, 3, 4, 6 and 7, as applied depth, charge and refused eighths. -/
theorem test_stretch_example :
    decideStretch 0 0 8 0 = (8, .tether, 0) ∧ decideStretch 16 0 8 0 = (4, .tether, 4) ∧ decideStretch 20 4 8 0 = (4, .droop, 4)
      ∧ decideStretch 12 4 8 0 = (8, .tether, 0) ∧ decideStretch 16 4 8 0 = (4, .droop, 4) := by decide +kernel

/-- R177: a quarter at most, and never below 160. -/
theorem test_quarter_steps :
    stepToward 1000 2000 = 1250 ∧ stepToward 1000 100 = 750 ∧ stepToward 170 100 = 160 ∧ stepToward 1000 1001 = 1001 := by
  decide +kernel

/-- R363: one bit at the low end of the covered bits leaves the polynomial, the next one twice it. -/
theorem test_crc8 : crc8 (2 ^ 8) = 0x07 ∧ crc8 (2 ^ 9) = 0x0E ∧ crc8 0x5A = 0 := by decide +kernel

/-- R126: at rest, the engine engages at 1/8, jumps to 1/2 at a rising lead of 3, holds at 4 and releases behind. -/
theorem test_tether_levels :
    (tetherLevel false 3 2 4 0 0 2 1).level = 1 ∧ (tetherLevel false 3 2 4 0 0 3 1).level = 3
      ∧ (tetherLevel false 3 2 4 2 0 4 5).level = 4 ∧ (tetherLevel false 3 2 4 3 0 1 0).level = 0
      ∧ (tetherLevel false 3 2 4 2 0 3 3).level = 0 ∧ (tetherLevel true 3 2 4 1 3 3 1).level = 1 := by decide +kernel

/-- The queue is taken from its front, and an idle block stays as it is. -/
theorem test_step_takes_the_front :
    (after .hotNAssert u).pending = [] ∧ (after .hotNAssert u).flag .CAP_STATUS 3 = true
      ∧ (match step u with | .next t => t.clock == u.clock && t.objs == u.objs | _ => false) = true := by decide +kernel

/-- R499: AON runs from reset, on its internal oscillator, and nothing else is ready. -/
theorem test_reset_ready : z.rd .UNIT_READY = 0x20001 ∧ z.rd .START_STATE = 0 := by decide +kernel

/-- R398: the lock word of an engine and of the host. -/
theorem test_lock_words :
    (after (.lockAcquire { id := 5, arg := 63 }) u).ports.rspData = 0x10005
      ∧ (after (.lockHostAcquire 63) u).ports.host.data = 0x11000 := by decide +kernel

/-- R399: another requester's acquire shows the holder without GRANTED, and its release is denied (R13: 3). -/
theorem test_lock_held :
    (after (.lockAcquire { id := 6, arg := 3 }) (u.wr .LOCK 0x10005 0 3)).ports.rspData = 5
      ∧ (after (.lockRelease { id := 6, arg := 3 }) (u.wr .LOCK 0x10005 0 3)).ports.rspStatus = 3 := by decide +kernel

/-- R389: a post joins the tail with the mailbox's next SEQ, which its answer carries. -/
theorem test_post :
    let t := after (.mbPost { id := 5, arg := 1, data := 77 }) ((u.wr .MB_OWNER 7 1).modBx 1 fun b => { b with nextSeq := 65535 })
    (t.bx 1).msgs.map (fun x => (x.seq, x.sender, x.payload)) = [(65535, 5, 77)] ∧ t.ports.rspData = 65535 ∧ (t.bx 1).nextSeq = 0 := by
  decide +kernel

/-- R13: a full mailbox answers BUSY, 2; a take by another than the owner DENIED, 3. -/
theorem test_mailbox_refusals :
    (after (.mbPost { id := 5, arg := 1 })
        ((u.wr .MB_OWNER 7 1).modBx 1 fun b => { b with msgs := List.replicate 16 {} })).ports.rspStatus = 2
      ∧ (after (.mbTake { id := 5, arg := 1 }) ((u.wr .MB_OWNER 7 1).modBx 1 fun b => { b with msgs := [{}] })).ports.rspStatus = 3 := by
  decide +kernel

/-- R13, R14: a read-only object answers 7, an absent index 4, a wrong length 5, a value out of range 6. -/
theorem test_write_refusals :
    (after (.objectWrite 0x1000 0 { len := 2, val := 1 }) u).dict.answer.status = 7
      ∧ (after (.objectWrite 0xEEEE 0 { len := 2, val := 1 }) u).dict.answer.status = 4
      ∧ (after (.objectWrite 0x3100 0 { len := 2, val := 1 }) u).dict.answer.status = 5
      ∧ (after (.fixedRateN { len := 2, val := 961 }) u).dict.answer.status = 6 := by decide +kernel

/-- R418: an expert object needs the host's unlock, 9. -/
theorem test_expert_required :
    (after (.xingFence { len := 4, val := 1 }) (u.wr .EXPERT_UNLOCK 0)).dict.answer.status
      = (if (info .XING_FENCE).expert then 9 else 0) := by decide +kernel

/-- R211: a mark launches at the next multiple of 1 µs. -/
theorem test_time_mark : (after .timeMark u).T = 1600016000 ∧ (after .timeMark u).up = 100000001 := by decide +kernel

/-- R390: a requester's reset advances its epoch by one. -/
theorem test_requester_reset : (after (.requesterReset 4095) u).epochOf 4095 = 1 := by decide +kernel

/-- R396: two rings merge into the sticky bit and a count of 2. -/
theorem test_doorbell_merges :
    let t := after (.doorbellRing { id := 5, arg := 1 }) (after (.doorbellRing { id := 6, arg := 1 }) (u.wr .MB_WAKE 0 1))
    (t.bx 1).rung = true ∧ (t.bx 1).merged = 2 := by decide +kernel

/-- R202: a reference that has passed its tests for REF_QUALIFY becomes valid, beside the one selected. -/
theorem test_ref_qualified :
    let t := after (.refQualified true) { u with refs := { qualB := some 0 } }
    t.refValid true = true ∧ t.selected = 1 := by decide +kernel

/-- R523: the first report fills the digest's class, and the block waits for its job reset. -/
theorem test_fault_digest :
    let t := after (.faultReport 1) { u with flt := { reports := [{ cls := 3, element := 1 }] } }
    bits (t.rd .FAULT_DIGEST) 56 7 = 3 ∧ t.startIs .faultWait = true := by decide +kernel

/-- R467: bus-off stops the field bus until the recovery. -/
theorem test_bus_off :
    (after .fbBusOff u).fdp.busOff = true ∧ (after .fbBusOffRecovery (after .fbBusOff u)).fdp.busOff = false := by decide +kernel

/-- No word spells a command: the table gives its rows no bits. -/
theorem test_no_encoding : decodeTableWord 8 0 = none ∧ decodeTableWord 64 (2 ^ 64 - 1) = none := by decide

/-- R118: a word written in the sender's cycle 16 + k is presented in the receiver's cycle 24 + k, over paths of no depth. -/
theorem test_lane_latency :
    let x : XLane := XLane.send .tethered (16 + 5) (some 77) {}
    let y := x.recv .tethered (24 + 5 + 8) false
    y.vld = true ∧ y.data = 77 ∧ (x.recv .tethered (23 + 5 + 8) false).vld = false := by decide +kernel

/-- R446: with four accepted host requests that await their responses, HP_RDY is 0. -/
theorem test_host_port_holds_four :
    u.hpReady = true ∧ ({ u with ports := { hostHeld := [.ring 1, .ring 1, .ring 1, .ring 1] } } : State).hpReady = false := by
  decide +kernel

/-- R20: a sending hop holds the last 8 messages it has sent. -/
theorem test_hop_keeps_eight :
    (((List.range 9).foldl (fun h i => Hop.keep h i (100 + i)) {}).kept.map (·.1)) = [1, 2, 3, 4, 5, 6, 7, 8] := by decide +kernel

/-- R56: a domain that is rung while its command transition waits for its stagger is not held up by its own wake. -/
theorem test_wake_does_not_wait_for_itself :
    let s : State := { (u.modD 0 fun d => { d with phase := some .coreOffStagger }) with pdWakes := [0], pdCmds := [0] }
    s.staggerOver 0 = true := by decide +kernel

end Sys2Proof.Tests
end

section
/-! SUPPORT. Requests as the ports take them: whole words of the queues, and what an answer on the engine port leaves. -/

namespace Sys2Proof.Machine
open Sys2Proof

/-! ### Words of the SRAMs (R41, R545) -/

theorem State.sramRead_whole {s : State} {k : Sram} {el w : Nat} (h : s.flipAt k el w = none) :
    s.sramRead k el w = (false, s) := by
  unfold State.sramRead
  rw [h]

theorem State.queueRead_whole {s : State} {q : Nat} (h : s.flipAt .queues 0 (16 * q) = none) :
    s.queueRead q = (false, s.shiftWords .queues (16 * q)) := by
  unfold State.queueRead
  rw [State.sramRead_whole h]
  rfl

/-- Taking a word out of one SRAM flips no word of another. -/
theorem State.flipAt_shiftWords_none {s : State} {k k' : Sram} {el w base : Nat} (hk : k'.code ≠ k.code)
    (h : s.flipAt k el w = none) : (s.shiftWords k' base).flipAt k el w = none := by
  simp only [State.flipAt, State.shiftWords, List.find?_eq_none, List.mem_map] at h ⊢
  rintro _ ⟨x, hx, rfl⟩
  split
  · rename_i hc
    have hcode : x.code = k'.code := by simpa using (Bool.and_eq_true_iff.1 hc).1
    simp [hcode, hk]
  · exact h x hx

theorem State.shiftWords_no_flips {s : State} {k : Sram} {base : Nat} (h : s.inj.flips = []) :
    s.shiftWords k base = s := by
  have hinj : ({ s.inj with flips := [] } : Injection) = s.inj := by rw [← h]
  unfold State.shiftWords
  rw [h, List.map_nil, hinj]

@[simp] theorem State.shiftWords_rd (s : State) (k : Sram) (base : Nat) (o : Obj) (e i : Nat) :
    (s.shiftWords k base).rd o e i = s.rd o e i := rfl
@[simp] theorem State.shiftWords_bx (s : State) (k : Sram) (base m : Nat) : (s.shiftWords k base).bx m = s.bx m := rfl
@[simp] theorem State.shiftWords_ports (s : State) (k : Sram) (base : Nat) : (s.shiftWords k base).ports = s.ports := rfl

/-- With no word flipped, an access to an object reads its words and changes nothing. -/
theorem State.touch_no_flips {s : State} {o : Obj} {e i : Nat} (h : s.inj.flips = []) : s.touch o e i = (false, s) := by
  unfold State.touch
  split
  · simp [State.readFlips, h]
  · rfl

/-! ### Counters -/

theorem satAdd_lt (w a n : Nat) : satAdd w a n < 2 ^ w := by
  have hpos : 0 < 2 ^ w := Nat.two_pow_pos w
  unfold satAdd
  split <;> omega

/-- One count of a saturating counter. -/
@[simp] theorem State.rd_inc_self (s : State) (o : Obj) (e i : Nat) :
    (s.inc o e i).rd o e i = satAdd (objBits o) (s.rd o e i) 1 := by
  unfold State.inc State.add
  rw [State.rd_wr_self, Nat.mod_eq_of_lt (satAdd_lt _ _ _)]

theorem State.rd_inc_other (s : State) {o o' : Obj} (h : o' ≠ o) (e i e' i' : Nat) :
    (s.inc o e i).rd o' e' i' = s.rd o' e' i' := State.rd_wr_other s h _ _ _ _ _

/-! ### The engine port (R42, R45) -/

theorem State.boxesFull_local {s : State} {op : Nat} {q : EpReq} (h : s.remoteMail = false) : s.boxesFull op q = false := by
  simp [State.boxesFull, h]

/-- A request that the port takes is served on the state that reading its word leaves. -/
theorem State.epTake_served {s : State} {op : Nat} {q : EpReq} {turn : Code → State → State} {f : State → State}
    (h : s.EpTakes) (hb : s.boxesFull op q = false) : s.epTake op q turn f = f (s.shiftWords .queues 48) := by
  obtain ⟨hready, hroom, hfirst, hword⟩ := h
  have hread : s.queueRead 3 = (false, s.shiftWords .queues 48) := State.queueRead_whole hword
  unfold State.epTake
  rw [if_neg (by simp [hready]), if_neg (by omega), if_neg (by simp [hfirst, hb]), hread]
  rfl

/-- A response is the answer to a state whose count of responses still stands. -/
theorem State.answered_respond {s t : State} {id data : Nat} {c : Code} (h : t.ports.rspCount = s.ports.rspCount) :
    s.Answered (t.respond id c data) id c data :=
  ⟨rfl, rfl, rfl, rfl, congrArg (· + 1) h⟩

end Sys2Proof.Machine
end

section
/-! SUPPORT. Posts, takes and peeks of a mailbox, once their checks are passed (R385 to R391). -/

namespace Sys2Proof.Machine
open Sys2Proof

/-! ### Parsing -/

/-- Bits 63 to 6 of an argument that names a mailbox alone are 0. -/
theorem onlyBits_box {arg : Nat} (h : onlyBits arg 0x3F = true) :
    onlyBits arg 0x3003F = true ∧ bits arg 16 2 = 0 := by
  have h0 : arg &&& 0xFFFFFFFFFFFFFFC0 = 0 := by simpa [onlyBits, andNot] using h
  constructor
  · have hm : arg &&& 0xFFFFFFFFFFFCFFC0 = (arg &&& 0xFFFFFFFFFFFFFFC0) &&& 0xFFFFFFFFFFFCFFC0 := by
      rw [Nat.land_assoc]
      rfl
    rw [h0, Nat.zero_and] at hm
    simpa [onlyBits, andNot] using hm
  · have hm : (arg &&& 0xFFFFFFFFFFFFFFC0) >>> 16 &&& 3 = arg >>> 16 &&& 3 := by
      rw [Nat.shiftRight_and_distrib, Nat.land_assoc]
      rfl
    rw [h0, Nat.zero_shiftRight, Nat.zero_and] at hm
    rw [bits, ← Nat.shiftRight_eq_div_pow, ← Nat.and_two_pow_sub_one_eq_mod]
    exact hm.symm

theorem State.mailParse_ok {s : State} {q : EpReq} (hid : q.id % 4096 ≠ 0) (hr : s.isReady .mailbox = true) :
    s.mailParse q true true = none := by
  simp [State.mailParse, hid, hr]

/-! ### The checks passed -/

theorem State.mailPost_accepted {s : State} {q : EpReq} (hid : q.id % 4096 ≠ 0) (harg : onlyBits q.arg 0x3F = true)
    (hr : s.isReady .mailbox = true) (hm : bits q.arg 0 6 < s.rd .NUM_MAILBOXES)
    (ho : s.rd .MB_OWNER (bits q.arg 0 6) ≠ 0) (hp : s.boxPowered (bits q.arg 0 6) = true)
    (hl : (s.bx (bits q.arg 0 6)).msgs.length < 16) : s.mailPost q = s.mailSend 4 q := by
  have hcheck : s.boxCheck false q = none := by simp [State.boxCheck, hm, ho, hp]
  unfold State.mailPost
  rw [if_neg (by omega), harg, State.mailParse_ok hid hr, hcheck]

theorem State.mailPost_full {s : State} {q : EpReq} (hm : bits q.arg 0 6 < s.rd .NUM_MAILBOXES)
    (hl : 16 ≤ (s.bx (bits q.arg 0 6)).msgs.length) : s.mailPost q = s.respond (q.id % 4096) .busy 0 :=
  if_pos ⟨hm, hl⟩

theorem State.mailRead_accepted {s : State} {op mode : Nat} {q : EpReq} (hid : q.id % 4096 ≠ 0)
    (harg : onlyBits q.arg 0x3003F = true) (hmode : bits q.arg 16 2 = mode) (hdata : q.data = 0)
    (hr : s.isReady .mailbox = true) (hm : bits q.arg 0 6 < s.rd .NUM_MAILBOXES)
    (ho : s.rd .MB_OWNER (bits q.arg 0 6) = q.id % 4096) (hp : s.boxPowered (bits q.arg 0 6) = true)
    (hl : (s.bx (bits q.arg 0 6)).msgs ≠ []) : s.mailRead op mode q = s.mailSend op q := by
  have hcheck : s.boxCheck true q = none := by simp [State.boxCheck, hm, ho, hp]
  have hparse : s.mailParse q (onlyBits q.arg 0x3003F && bits q.arg 16 2 == mode) (q.data == 0) = none := by
    simpa [harg, hmode, hdata] using State.mailParse_ok hid hr
  unfold State.mailRead
  rw [hparse]
  dsimp only
  rw [if_neg (not_or.2 ⟨by omega, hl⟩), hcheck]

theorem State.boxPowered_local {s : State} {m : Nat} (h : s.remoteMail = false) : s.boxPowered m = true := by
  simp [State.boxPowered, h]

/-! ### Sending the answer (R385) -/

theorem State.mailSend_local {s : State} {op : Nat} {q : EpReq} (h : s.remoteMail = false) :
    s.mailSend op q = (s.mailDo op q).2.2.respond (q.id % 4096) (s.mailDo op q).1 (s.mailDo op q).2.1 :=
  if_pos h

theorem State.mailSend_remote {s : State} {op : Nat} {q : EpReq} (h : s.remoteMail = true) :
    s.mailSend op q = { (s.mailDo op q).2.2 with ports := { (s.mailDo op q).2.2.ports with
      remote := (s.mailDo op q).2.2.ports.remote ++ [
        { box := bits q.arg 0 6, id := q.id % 4096, status := (s.mailDo op q).1.num, data := (s.mailDo op q).2.1,
          at0 := s.ctlUs }] } } :=
  if_neg (by simp [h])

/-! ### A post (R389, R391) -/

@[simp] theorem State.noticeOf_setNotice (s : State) (id w : Nat) : (s.setNotice id w).noticeOf id = w :=
  Tab.get_set_self (α := Nat) s.ports.notices id w 0

/-- A pending semaphore post leaves the messages of every mailbox. -/
theorem State.semEvent_msgs (s : State) (m j : Nat) : ((s.semEvent m).bx j).msgs = (s.bx j).msgs := by
  unfold State.semEvent
  split
  · rfl
  · split
    · rfl
    · rw [State.bx_modBx]
      split
      · next h => rw [h]
      · rfl

/-- A pending semaphore post reaches its mailbox and SY_POST_OVERFLOW alone. -/
theorem State.semEvent_fr (s : State) (m : Nat) : Fr (· = .SY_POST_OVERFLOW) (· = .box) s (s.semEvent m) :=
  State.semEvent_frame rfl rfl (Fr.refl s)

/-- The message that a post of `q` brings. -/
def State.message (s : State) (q : EpReq) : Msg :=
  { seq := (s.bx (bits q.arg 0 6)).nextSeq, sender := q.id % 4096, epoch := s.epochOf (q.id % 4096),
    payload := q.data % 2 ^ 64, at0 := s.up }

/-- A mailbox once message `x` has joined it. -/
def Box.join (b : Box) (x : Msg) : Box := { b with msgs := b.msgs ++ [x], nextSeq := (b.nextSeq + 1) % 65536 }

/-- The state once the message of `q` has joined its mailbox and is counted. -/
def State.posted (s : State) (q : EpReq) : State :=
  ((s.modBx (bits q.arg 0 6) fun b => b.join (s.message q)).inc .MB_POSTS (bits q.arg 0 6)).showCount (bits q.arg 0 6)

theorem State.posted_msgs (s : State) (q : EpReq) :
    ((s.posted q).bx (bits q.arg 0 6)).msgs = (s.bx (bits q.arg 0 6)).msgs ++ [s.message q] :=
  congrArg Box.msgs (State.bx_modBx_self s (bits q.arg 0 6) fun b => b.join (s.message q))

theorem State.posted_count (s : State) (q : EpReq) :
    (s.posted q).rd .MB_COUNT (bits q.arg 0 6) = ((s.bx (bits q.arg 0 6)).msgs.length + 1) % 256 := by
  have hlen : ((s.posted q).bx (bits q.arg 0 6)).msgs.length = (s.bx (bits q.arg 0 6)).msgs.length + 1 := by
    rw [State.posted_msgs, List.length_append, List.length_singleton]
  exact (State.rd_wr_self _ _ _ _ _).trans (congrArg (· % 256) hlen)

theorem State.posted_counted (s : State) (q : EpReq) : s.Counted (s.posted q) .MB_POSTS (bits q.arg 0 6) :=
  (State.rd_wr_other _ (by decide) _ _ _ _ _).trans (State.rd_inc_self _ _ _ _)

/-- A post answers the sender's notice word with the sequence number; once the message has joined, its semaphore post
becomes due and the notice word clears. -/
theorem State.acceptPost_eq (s : State) (q : EpReq) :
    s.acceptPost q = (.ok, s.noticeOf (q.id % 4096) * 2 ^ 32 + (s.bx (bits q.arg 0 6)).nextSeq,
      ((s.posted q).semEvent (bits q.arg 0 6)).setNotice (q.id % 4096) 0) := rfl

/-- What an accepted post leaves: the message at the end of its mailbox, both counters, the sender's notice word cleared. -/
theorem State.acceptPost_effect (s : State) (q : EpReq) :
    ((s.acceptPost q).2.2.bx (bits q.arg 0 6)).msgs = (s.bx (bits q.arg 0 6)).msgs ++ [s.message q]
      ∧ (s.acceptPost q).2.2.rd .MB_COUNT (bits q.arg 0 6) = ((s.bx (bits q.arg 0 6)).msgs.length + 1) % 256
      ∧ s.Counted (s.acceptPost q).2.2 .MB_POSTS (bits q.arg 0 6)
      ∧ (s.acceptPost q).2.2.ports.remote = s.ports.remote
      ∧ (s.acceptPost q).2.2.ports.rspCount = s.ports.rspCount := by
  have hfr := State.semEvent_fr (s.posted q) (bits q.arg 0 6)
  have hports : ((s.posted q).semEvent (bits q.arg 0 6)).ports = s.ports := hfr.part .ports (by decide)
  rw [State.acceptPost_eq]
  refine ⟨(State.semEvent_msgs _ _ _).trans (s.posted_msgs q), (hfr.obj _ _ _ (by decide)).trans (s.posted_count q),
    (hfr.obj _ _ _ (by decide)).trans (s.posted_counted q), (congrArg Ports.remote hports :),
    (congrArg Ports.rspCount hports :)⟩

/-- After an accepted post the sender's notice word reads 0. -/
theorem State.acceptPost_notice (s : State) (q : EpReq) : (s.acceptPost q).2.2.noticeOf (q.id % 4096) = 0 :=
  State.noticeOf_setNotice _ _ _

/-! ### A take and a peek (R387, R389) -/

/-- A take removes the head message, counts what is left and answers the payload. -/
theorem State.take_head {s : State} {q : EpReq} {x : Msg} {rest : List Msg} (hx : (s.bx (bits q.arg 0 6)).msgs = x :: rest)
    (hw : s.flipAt .mailbox 0 (16 * bits q.arg 0 6) = none) :
    s.take q = (.ok, x.payload,
      ((s.modBx (bits q.arg 0 6) fun b => { b with msgs := rest }).showCount (bits q.arg 0 6)).shiftWords .mailbox
        (16 * bits q.arg 0 6)) := by
  unfold State.take
  dsimp only
  rw [hx, State.sramRead_whole hw]
  rfl

/-- A peek answers the header of the head message and changes nothing. -/
theorem State.peek_head {s : State} {q : EpReq} {x : Msg} {rest : List Msg} (hx : (s.bx (bits q.arg 0 6)).msgs = x :: rest)
    (hw : s.flipAt .mailbox 0 (16 * bits q.arg 0 6) = none) : s.peek q = (.ok, s.header (bits q.arg 0 6) x, s) := by
  unfold State.peek
  dsimp only
  rw [hx, State.sramRead_whole hw]
  rfl

/-! ### The commands -/

/-- A post to local storage joins its mailbox and is answered. -/
theorem mbPost_local {q : EpReq} {s : State} (ht : s.EpTakes) (hid : q.id % 4096 ≠ 0) (harg : onlyBits q.arg 0x3F = true)
    (hr : s.isReady .mailbox = true) (hm : bits q.arg 0 6 < s.rd .NUM_MAILBOXES)
    (ho : s.rd .MB_OWNER (bits q.arg 0 6) ≠ 0) (hloc : s.remoteMail = false)
    (hl : (s.bx (bits q.arg 0 6)).msgs.length < 16) :
    exec (.mbPost q) s = .next (((s.shiftWords .queues 48).acceptPost q).2.2.respond (q.id % 4096) .ok
      (s.noticeOf (q.id % 4096) * 2 ^ 32 + (s.bx (bits q.arg 0 6)).nextSeq)) := by
  change Host.Outcome.next (s.epTake 4 q _ _) = _
  rw [State.epTake_served ht (State.boxesFull_local hloc),
    State.mailPost_accepted (s := s.shiftWords .queues 48) hid harg hr hm ho (State.boxPowered_local hloc) hl,
    State.mailSend_local (s := s.shiftWords .queues 48) hloc]
  rfl

/-- A post to remote storage joins its mailbox and its access is in flight. -/
theorem mbPost_remote {q : EpReq} {s : State} (ht : s.EpTakes) (hid : q.id % 4096 ≠ 0) (harg : onlyBits q.arg 0x3F = true)
    (hr : s.isReady .mailbox = true) (hm : bits q.arg 0 6 < s.rd .NUM_MAILBOXES)
    (ho : s.rd .MB_OWNER (bits q.arg 0 6) ≠ 0) (hrem : s.remoteMail = true) (hp : s.boxPowered (bits q.arg 0 6) = true)
    (hb : s.boxesFull 4 q = false) (hl : (s.bx (bits q.arg 0 6)).msgs.length < 16) :
    exec (.mbPost q) s = .next { ((s.shiftWords .queues 48).acceptPost q).2.2 with
      ports := { ((s.shiftWords .queues 48).acceptPost q).2.2.ports with
        remote := ((s.shiftWords .queues 48).acceptPost q).2.2.ports.remote ++ [
          { box := bits q.arg 0 6, id := q.id % 4096, status := Code.ok.num, at0 := s.ctlUs,
            data := s.noticeOf (q.id % 4096) * 2 ^ 32 + (s.bx (bits q.arg 0 6)).nextSeq }] } } := by
  change Host.Outcome.next (s.epTake 4 q _ _) = _
  rw [State.epTake_served ht hb, State.mailPost_accepted (s := s.shiftWords .queues 48) hid harg hr hm ho hp hl,
    State.mailSend_remote (s := s.shiftWords .queues 48) hrem]
  rfl

/-- A read of the head message of local storage, by the owner of the mailbox. -/
theorem mbRead_local {op mode : Nat} {q : EpReq} {s : State} (ht : s.EpTakes) (hid : q.id % 4096 ≠ 0)
    (harg : onlyBits q.arg 0x3003F = true) (hmode : bits q.arg 16 2 = mode) (hdata : q.data = 0)
    (hr : s.isReady .mailbox = true) (hm : bits q.arg 0 6 < s.rd .NUM_MAILBOXES)
    (ho : s.rd .MB_OWNER (bits q.arg 0 6) = q.id % 4096) (hloc : s.remoteMail = false)
    (hl : (s.bx (bits q.arg 0 6)).msgs ≠ []) :
    s.epTake 5 q (fun _ => id) (fun t => t.mailRead op mode q) = (s.shiftWords .queues 48).mailSend op q := by
  rw [State.epTake_served ht (State.boxesFull_local hloc)]
  exact State.mailRead_accepted (s := s.shiftWords .queues 48) hid harg hmode hdata hr hm ho (State.boxPowered_local hloc) hl

/-- A queue of the engine port that holds nothing stays as it is. -/
theorem State.epOut_empty {s : State} (h : s.ports.epq = []) : s.epOut = s := by
  have hports : ({ s.ports with epq := [] } : Ports) = s.ports := by rw [← h]
  unfold State.epOut
  rw [h, hports]
  rfl

/-- An access to remote storage that is the first of its mailbox returns with its answer. -/
theorem mbRemoteComplete_first {ix : Nat} {x : RemoteMb} {s : State} (hstop : s.refs.shortStop = false)
    (hq : s.ports.epq = []) (hx : s.ports.remote[ix]? = some x)
    (hfirst : (s.ports.remote.take ix).any (fun y => y.box == x.box) = false) :
    exec (.mbRemoteComplete ix) s = .next
      (({ s with ports := { s.ports with remote := s.ports.remote.eraseIdx ix } } : State).respondNum x.id x.status
        x.data) := by
  change execMbRemoteComplete ix s = _
  unfold execMbRemoteComplete
  rw [hstop, if_neg Bool.false_ne_true, hx]
  dsimp only
  rw [hfirst]
  exact congrArg Host.Outcome.next (State.epOut_empty hq)

/-- Settles O27: each request passes the port and its checks, so what it leaves is what posting, taking or peeking leaves,
with the answer given at once or, for remote storage, as the access returns. -/
theorem mailIsPostedTakenAndPeeked : Obligations.MailIsPostedTakenAndPeeked := by
  unfold Obligations.MailIsPostedTakenAndPeeked
  refine ⟨?_, ?_, ?_, ?_, ?_, ?_⟩
  · rintro q _ s rfl ht hid harg hr hm ho hloc hl
    obtain ⟨hmsgs, hcount, hposts, hremote, hresp⟩ := (s.shiftWords .queues 48).acceptPost_effect q
    refine ⟨_, mbPost_local ht hid harg hr hm ho hloc hl, hmsgs, ?_, hposts, ?_, State.acceptPost_notice _ q⟩
    · exact hcount.trans (Nat.mod_eq_of_lt (show _ + 1 < 256 by rw [State.shiftWords_bx]; omega))
    · exact State.answered_respond hresp
  · rintro q _ s rfl ht hb hm hl
    refine ⟨_, rfl, ?_⟩
    rw [State.epTake_served ht hb, State.mailPost_full (s := s.shiftWords .queues 48) hm hl]
    exact ⟨rfl, State.answered_respond rfl⟩
  · rintro q _ x rest s rfl ht hid harg hdata hr hm ho hloc hx hw
    obtain ⟨harg', hmode⟩ := onlyBits_box harg
    have hw' := State.flipAt_shiftWords_none (k' := .queues) (base := 48) (by decide) hw
    refine ⟨_, rfl, ?_⟩
    rw [mbRead_local ht hid harg' hmode hdata hr hm ho hloc (by simp [hx]),
      State.mailSend_local (s := s.shiftWords .queues 48) hloc,
      show (s.shiftWords .queues 48).mailDo 5 q = _ from State.take_head (s := s.shiftWords .queues 48) hx hw']
    have hbox := State.bx_modBx_self (s.shiftWords .queues 48) (bits q.arg 0 6) fun b => { b with msgs := rest }
    have hmsgs := congrArg Box.msgs hbox
    refine ⟨hmsgs, (State.rd_wr_self _ _ _ _ _).trans ?_, State.answered_respond rfl⟩
    exact congrArg (fun l : List Msg => l.length % 256) hmsgs
  · rintro q _ x rest s rfl ht hid harg hmode hdata hr hm ho hloc hx hw
    have hw' := State.flipAt_shiftWords_none (k' := .queues) (base := 48) (by decide) hw
    refine ⟨_, rfl, ?_⟩
    rw [mbRead_local ht hid harg hmode hdata hr hm ho hloc (by simp [hx]),
      State.mailSend_local (s := s.shiftWords .queues 48) hloc,
      show (s.shiftWords .queues 48).mailDo 6 q = _ from State.peek_head (s := s.shiftWords .queues 48) hx hw']
    have hlen : ((s.shiftWords .queues 48).bx (bits q.arg 0 6)).msgs.length = rest.length + 1 := congrArg List.length hx
    refine ⟨rfl, ?_⟩
    unfold State.header
    rw [hlen]
    exact State.answered_respond rfl
  · rintro q _ s rfl ht hid harg hr hm ho hrem hp hb hl
    obtain ⟨hmsgs, hcount, hposts, hremote, hresp⟩ := (s.shiftWords .queues 48).acceptPost_effect q
    refine ⟨_, mbPost_remote ht hid harg hr hm ho hrem hp hb hl, ?_, hresp,
      State.acceptPost_notice _ q, hposts, hmsgs⟩
    exact congrArg (· ++ _) hremote
  · intro ix x s hstop hq hx hfirst
    have hnone : (s.ports.remote.take ix).any (fun y => y.box == x.box) = false := by
      simpa [List.any_eq_false] using hfirst
    exact ⟨_, mbRemoteComplete_first hstop hq hx hnone, rfl, rfl, rfl, rfl, rfl, rfl, rfl, rfl⟩

end Sys2Proof.Machine
end

section
/-! SUPPORT. Accesses that the Dictionary Engine carries out at once (R14, R423 to R435), and requests that the host port takes. -/

namespace Sys2Proof.Machine
open Sys2Proof

/-! ### Addresses, sizes and rights -/

/-- An address names an object of the catalogue and one of its subindices. -/
theorem objAt_some {ix sub : Nat} {o : Obj} {i : Nat} (h : objAt ix sub = some (o, i)) :
    o ∈ allObjs ∧ i < (info o).span := by
  unfold objAt at h
  obtain ⟨o', hfind, heq⟩ := Option.map_eq_some_iff.1 h
  have hrow := List.find?_some hfind
  obtain ⟨rfl, rfl⟩ := Prod.mk.inj heq
  simp only [Bool.and_eq_true, decide_eq_true_eq] at hrow
  exact ⟨List.mem_of_find?_eq_some hfind, by omega⟩

/-- Every object but those of type STR and BLOB fits 8 bytes (R413). -/
theorem scalar_size : ∀ o ∈ allObjs, (info o).ty.long = false → (info o).size ≤ 8 := by decide +kernel

/-- No port writes an object of the audit log. -/
theorem State.auditObjs_readOnly {s : State} {o : Obj} (h : o ∈ auditObjs) : writable (s.rightsOf o) = false := by
  have hrow : ∀ o ∈ auditObjs, o ≠ .MB_DOMAIN ∧ writable (info o).rights = false := by decide
  obtain ⟨hne, hro⟩ := hrow o h
  rw [State.rightsOf, if_neg fun hc => hne hc.1, hro]

/-- What passes the checks of a write is writable by some class. -/
theorem State.writable_of_checkWrite {s : State} {a : Access} {o : Obj} {i : Nat} (h : s.checkWrite a o i = none) :
    writable (s.rightsOf o) = true := by
  by_contra hro
  unfold State.checkWrite at h
  rw [if_pos (Bool.eq_false_iff.2 hro)] at h
  split at h
  · cases h
  · split at h <;> cases h

/-! ### Accesses carried out at once -/

theorem State.mustWait_here {s : State} {a : Access} {o : Obj} {i : Nat} (h : s.isRemote o = false) :
    s.mustWait a o i = false := by
  simp [State.mustWait, h]

/-- A read that passes its checks is answered with the value as it stands. -/
theorem State.decideRead_carried {s : State} {a : Access} {o : Obj} {i : Nat} (ho : a.obj = some (o, i))
    (hc : s.checkRead a o = none) (hr : s.isRemote o = false) (hf : s.inj.flips = []) :
    s.decideRead a = s.reply a .ok (some (o, i)) := by
  simp [State.decideRead, ho, State.mustWait_here hr, State.settleRead, hc, hr, State.giveRead, State.touch_no_flips hf]

/-- A write that passes its checks takes effect, is recorded and is answered. -/
theorem State.decideWrite_carried {s : State} {a : Access} {o : Obj} {i : Nat} (h : s.Passes a o i) :
    s.decideWrite a = s.finishWrite a o i (s.attempt a (some (o, i))) := by
  obtain ⟨ho, hb, hc, hr, hf⟩ := h
  simp [State.decideWrite, ho, State.mustWait_here hr, State.settleWrite, hb, hc, hr, State.carryOut,
    State.touch_no_flips hf]

/-- Between the effect of an accepted write and its answer, only the audit log, the Dictionary Engine and the list of
written factory objects change. -/
theorem State.finishWrite_split (s : State) (a : Access) (o : Obj) (i : Nat) (p : Attempt) :
    ∃ u, s.finishWrite a o i p = u.reply a .ok (some (o, i))
      ∧ Fr (· ∈ auditObjs) (· ∈ [.dict, .fon]) (s.effect o a.el i (a.val % 2 ^ objBits o)) u := by
  refine ⟨_, rfl, ?_⟩
  refine State.auditWrite_frame (by decide) (by decide) (by decide) (by decide) (by decide) (by decide) ?_
  refine State.when_kept ?_ fun t ht => State.dirty_frame (by decide) ht
  exact State.noteWritten_frame (by decide) (Fr.refl _)

/-! ### Objects whose write only stores -/

/-- Storing such an object leaves the value given, at the one subindex that CAL_CURVE has. -/
theorem State.rd_store_plain {s : State} {o : Obj} {e i v : Nat} (hp : plainWrite o = true) (hi : o = .CAL_CURVE → i = 0) :
    (s.store o e i v).rd o e i = v % 2 ^ objBits o := by
  fun_cases State.store s o e i v
  case case5 =>
    rw [hi rfl]
    exact State.rd_wr_self _ _ _ _ _
  case case11 | case12 | case13 | case14 | case24 => exact State.rd_wr_self _ _ _ _ _
  case case31 => rw [State.rd_wrHeld, if_pos ⟨rfl, rfl, rfl⟩]
  all_goals exact absurd hp (by decide)

/-- No write's effect reaches the indirect window. -/
theorem State.effect_idx (s : State) (o : Obj) (e i v : Nat) : (s.effect o e i v).idx = s.idx := by
  have hfr : Fr (fun _ => True) (· ≠ Part.idx) s (s.effect o e i v) := by
    apply State.effect_frame (h := Fr.refl s)
    · exact fun _ => trivial
    all_goals decide
  exact hfr.part .idx fun h => h rfl

/-- A write of such an object that is carried out stores its value before it is answered. -/
theorem State.decideWrite_plain {s : State} {a : Access} {o : Obj} {i : Nat} (h : s.Passes a o i)
    (hp : plainWrite o = true) :
    ∃ u : State, s.decideWrite a = u.reply a .ok (some (o, i)) ∧ u.rd o a.el i = a.val % 2 ^ objBits o ∧ u.idx = s.idx := by
  obtain ⟨hobj, -, hcheck, -, -⟩ := id h
  have haudit : o ∉ auditObjs := fun hmem => by
    have hro := State.auditObjs_readOnly (s := s) hmem
    rw [State.writable_of_checkWrite hcheck] at hro
    cases hro
  have hcmd : isCommand o = false := by
    simpa using (Bool.and_eq_true_iff.1 hp).1
  have hi : o = .CAL_CURVE → i = 0 := by
    rintro rfl
    exact Nat.lt_one_iff.1 (objAt_some hobj).2
  obtain ⟨u, hu, hfr⟩ := s.finishWrite_split a o i (s.attempt a (some (o, i)))
  refine ⟨u, (State.decideWrite_carried h).trans hu, (hfr.obj _ _ _ haudit).trans ?_,
    (hfr.part .idx (by decide)).trans (State.effect_idx _ _ _ _ _)⟩
  rw [State.effect_store hcmd, State.rd_store_plain hp hi, Nat.mod_mod]

/-! ### The host port (R34, R446, R449) -/

/-- The state on which the host port serves a request: it is counted, and its word has left the queue. -/
def State.hostTaken (s : State) : State := (s.inc .HP_REQUESTS).shiftWords .queues 0

theorem State.hostTaken_counted (s : State) : s.Counted s.hostTaken .HP_REQUESTS := State.rd_inc_self _ _ _ _

/-- Taking a request leaves the readiness bits. -/
@[simp] theorem State.hostTaken_isReady (s : State) (r : Rdy) : s.hostTaken.isReady r = s.isReady r :=
  congrArg (bit · r.pos) (State.rd_inc_other s (by decide) _ _ _ _)

/-- A request that the host port takes is counted and served. -/
theorem State.hostIn_served {s : State} {r : HeldReq} (h : s.HpTakes) : s.hostIn r = s.hostTaken.hostServe r := by
  obtain ⟨hready, hfree, hword⟩ := h
  have hread : (s.inc .HP_REQUESTS).queueRead 0 = (false, s.hostTaken) := State.queueRead_whole hword
  unfold State.hostIn
  rw [if_neg (by simp [hready]), if_neg (by simp [hfree]), State.hostTake, hread]
  rfl

/-- An answer of the host port reaches its own counters, the Dictionary Engine and the ports alone. -/
theorem State.hostReply_fr (s : State) (addr : Nat) (write : Bool) (c : Code) (data : Nat) (r : Rdy) :
    Fr (· ∈ [Obj.HP_DENIED, .HP_ERRORS, .HP_LAST_STATUS, .HP_NOTREADY]) (· ∈ [.dict, .ports]) s
      (s.hostReply addr write c data r) :=
  State.hostReply_frame (by decide) (by decide) (by decide) (by decide) (by decide) (by decide) (Fr.refl s)

theorem State.hostReply_status (s : State) (addr : Nat) (write : Bool) (c : Code) (data : Nat) (r : Rdy) :
    (s.hostReply addr write c data r).ports.host.status = c.num := by
  unfold State.hostReply State.hostAnswer
  dsimp only
  split <;> rfl

end Sys2Proof.Machine
end

section
/-! The engine port's dictionary operations and the indirect window (R427, R455 to R457). -/

namespace Sys2Proof.Machine
open Sys2Proof

/-! ### The engine port (R427) -/

/-- The queue of the Mailbox Unit holds back no operation of the dictionary. -/
theorem State.boxesFull_dict {s : State} {op : Nat} {q : EpReq} (h4 : op ≠ 4) (h5 : op ≠ 5) : s.boxesFull op q = false := by
  simp [State.boxesFull, h4, h5]

/-- A read of the engine port is answered with the value, or with the 8 bytes of a long one at its offset. -/
theorem State.reply_engRead (s : State) (q : EpReq) (o : Obj) (i : Nat) :
    s.reply (engAccess q false) .ok (some (o, i)) = s.respond (q.id % 4096) .ok (if (info o).ty.long then
      bytesAt (s.readVal o (bits q.data 48 16) i) (bits q.data 32 16) 8 else s.readVal o (bits q.data 48 16) i) := by
  simp [State.reply, State.replyVal, engAccess]

theorem State.reply_engWrite (s : State) (q : EpReq) (o : Obj) (i : Nat) :
    ∃ d, s.reply (engAccess q true) .ok (some (o, i)) = s.respond (q.id % 4096) .ok d :=
  ⟨_, rfl⟩

/-- RUN_CTL written 1, or in a run anything, asks the group's run for it. -/
theorem State.writeRun_asks {s : State} {g v : Nat} (h : v = 1 ∨ (s.g g).run.running = true) :
    ((s.writeRun g v).g g).run.ctl = some v ∧ (s.writeRun g v).rd .RUN_CTL g = v % 256 := by
  have hask : (v == 1 || (s.g g).run.running) = true := by simpa using h
  unfold State.writeRun
  rw [hask, State.when_true, State.g_modG_self]
  exact ⟨rfl, State.rd_wr_self _ _ _ _ _⟩

theorem State.writeRun_ports (s : State) (g v : Nat) : (s.writeRun g v).ports = s.ports := by
  unfold State.writeRun
  refine State.when_same State.ports _ ?_ _ _
  exact fun _ => rfl

/-- A write of RUN_CTL on the engine port that passes its checks is answered OK, and leaves of groups and of RUN_CTL what
`writeRun` leaves. -/
theorem State.decideWrite_runCtl {s : State} {q : EpReq} (h : s.Passes (engAccess q true) .RUN_CTL 0) :
    ∃ t : State, s.decideWrite (engAccess q true) = t
      ∧ t.g (bits q.data 48 16) = (s.writeRun (bits q.data 48 16) (bits q.data 0 32 % 256)).g (bits q.data 48 16)
      ∧ t.rd .RUN_CTL (bits q.data 48 16)
          = (s.writeRun (bits q.data 48 16) (bits q.data 0 32 % 256)).rd .RUN_CTL (bits q.data 48 16)
      ∧ ∃ d, s.Answered t (q.id % 4096) .ok d := by
  obtain ⟨u, hu, hfr⟩ := s.finishWrite_split (engAccess q true) .RUN_CTL 0 (s.attempt (engAccess q true) (some (.RUN_CTL, 0)))
  obtain ⟨d, hd⟩ := u.reply_engWrite q .RUN_CTL 0
  have heffect : s.effect .RUN_CTL (engAccess q true).el 0 ((engAccess q true).val % 2 ^ objBits .RUN_CTL)
      = s.writeRun (bits q.data 48 16) (bits q.data 0 32 % 256) := State.effect_store rfl
  rw [heffect] at hfr
  have hgrp : u.grp = (s.writeRun (bits q.data 48 16) (bits q.data 0 32 % 256)).grp := hfr.part .grp (by decide)
  have hports : u.ports = s.ports := (hfr.part .ports (by decide)).trans (State.writeRun_ports _ _ _)
  refine ⟨_, (State.decideWrite_carried h).trans (hu.trans hd), congrArg (fun l : Tab Grp => l.get (bits q.data 48 16) {}) hgrp,
    hfr.obj _ _ _ (by decide), d, State.answered_respond (congrArg Ports.rspCount hports)⟩

/-- A well-formed DICT_WRITE that the port takes reaches the Dictionary Engine. -/
theorem dictWrite_served {q : EpReq} {s : State} (ht : s.EpTakes) (hid : q.id % 4096 ≠ 0) (harg : bits q.arg 0 8 = 0)
    (hoff : bits q.data 32 16 = 0) (hhigh : engHighOk q = true) (hflips : s.inj.flips = []) :
    exec (.dictWrite q) s = .next (s.decideWrite (engAccess q true)) := by
  change Host.Outcome.next (s.epTake 11 q _ _) = _
  rw [State.epTake_served ht (State.boxesFull_dict (by decide) (by decide)), State.shiftWords_no_flips hflips,
    State.epDictWrite, if_neg (by simp [hid, harg, hoff, hhigh])]

/-! ### The indirect window (R455 to R457) -/

/-- The window once IDX_CTL has been written: filled, and begun where the code is OK. -/
def State.idxStart (s : State) (write : Bool) (len addr buf : Nat) (c : Code) : State :=
  (s.idxFill addr buf).when (c == .ok) fun t => t.idxBegin write len

/-- What a valid write of IDX_CTL asks of the block and of its argument. -/
theorem State.idxCheck_ok {s : State} {addr ctl : Nat} (h : s.idxCheck addr ctl = .ok) :
    s.isReady .ctl = true ∧ s.idx.op = none ∧ idxAddrOk addr = true := by
  unfold State.idxCheck at h
  dsimp only at h
  split at h
  · cases h
  · split at h
    · cases h
    · split at h
      · cases h
      · simp_all

/-- A valid write of IDX_CTL begins its operation. -/
theorem State.idxStart_begins {s : State} {write : Bool} {len addr buf ctl : Nat} (h : s.idxCheck addr ctl = .ok) :
    (s.idxStart write len addr buf (s.idxCheck addr ctl)).idx
      = { addr := addr, op := some (write, len), at0 := s.ctlUs, status := 1, buf := buf } := by
  obtain ⟨hready, hop, haddr⟩ := State.idxCheck_ok h
  unfold State.idxStart State.idxFill
  rw [h, hready, hop, haddr]
  rfl

/-- Any other write of IDX_CTL begins nothing: the window is filled at most. -/
theorem State.idxStart_refused {s : State} {write : Bool} {len addr buf ctl : Nat} (h : s.idxCheck addr ctl ≠ .ok) :
    s.idxStart write len addr buf (s.idxCheck addr ctl) = s.idxFill addr buf := by
  unfold State.idxStart
  rw [beq_eq_false_iff_ne.2 h, State.when_false]

/-- Filling the window leaves the operation in progress and its status, and the buffer where it is filled with itself. -/
theorem State.idxFill_operation (s : State) (addr buf : Nat) :
    (s.idxFill addr buf).idx.op = s.idx.op ∧ (s.idxFill addr buf).idx.status = s.idx.status
      ∧ (buf = s.idx.buf → (s.idxFill addr buf).idx.buf = s.idx.buf) := by
  unfold State.idxFill
  cases s.isReady .ctl && s.idx.op.isNone
  · exact ⟨rfl, rfl, fun _ => rfl⟩
  · exact ⟨rfl, rfl, id⟩

/-- Before CTL runs, and while an operation is in progress, the window stays as it was. -/
theorem State.idxStart_closed {s : State} {write : Bool} {len addr buf ctl : Nat}
    (h : s.isReady .ctl = false ∨ s.idx.op.isSome = true) :
    (s.idxStart write len addr buf (s.idxCheck addr ctl)).idx = s.idx := by
  have hclosed : (s.isReady .ctl && s.idx.op.isNone) = false := by
    rcases h with h | h
    · rw [h, Bool.false_and]
    · rw [Option.isNone_eq_false_iff.2 h, Bool.and_false]
  have hcode : s.idxCheck addr ctl ≠ .ok := fun hok => by
    obtain ⟨hready, hop, -⟩ := State.idxCheck_ok hok
    simp [hready, hop] at hclosed
  rw [State.idxStart_refused hcode, State.idxFill, hclosed, State.when_false]

/-- Starting an operation reaches the window alone. -/
theorem State.idxStart_fr (s : State) (write : Bool) (len addr buf : Nat) (c : Code) :
    Fr (fun _ => False) (· = .idx) s (s.idxStart write len addr buf c) :=
  State.when_kept (State.idxFill_frame rfl (Fr.refl s)) fun _ ht => State.idxBegin_frame rfl ht

@[simp] theorem State.hostTaken_idxCheck (s : State) (addr ctl : Nat) : s.hostTaken.idxCheck addr ctl = s.idxCheck addr ctl := by
  unfold State.idxCheck
  rw [State.hostTaken_isReady]
  rfl

/-- The state that the answer to a write of IDX_CTL leaves. -/
def State.idxAnswered (s : State) (write : Bool) (len addr buf ctl : Nat) : State :=
  (s.hostTaken.idxStart write len addr buf (s.idxCheck addr ctl)).hostReply 0x10008 true (s.idxCheck addr ctl) 0 .ctl

theorem State.idxAnswered_idx (s : State) (write : Bool) (len addr buf ctl : Nat) :
    (s.idxAnswered write len addr buf ctl).idx
      = (s.hostTaken.idxStart write len addr buf (s.hostTaken.idxCheck addr ctl)).idx := by
  rw [State.hostTaken_idxCheck]
  exact (State.hostReply_fr _ _ _ _ _ _).part .idx (by decide)

/-- A write of IDX_CTL counts as a request and shows its code; a valid one begins its operation, any other leaves the
operation in progress, and one that comes when the window is closed leaves the window. -/
theorem State.idxAnswered_effect (s : State) (write : Bool) (len addr buf ctl : Nat) :
    s.Counted (s.idxAnswered write len addr buf ctl) .HP_REQUESTS
      ∧ (s.idxAnswered write len addr buf ctl).ports.host.status = (s.idxCheck addr ctl).num
      ∧ (s.idxCheck addr ctl = .ok → (s.idxAnswered write len addr buf ctl).idx
          = { addr := addr, op := some (write, len), at0 := s.ctlUs, status := 1, buf := buf })
      ∧ (s.idxCheck addr ctl ≠ .ok → (s.idxAnswered write len addr buf ctl).idx.op = s.idx.op
          ∧ (s.idxAnswered write len addr buf ctl).idx.status = s.idx.status
          ∧ (buf = s.idx.buf → (s.idxAnswered write len addr buf ctl).idx.buf = s.idx.buf))
      ∧ (s.isReady .ctl = false ∨ s.idx.op.isSome = true → (s.idxAnswered write len addr buf ctl).idx = s.idx) := by
  have hanswer := State.hostReply_fr (s.hostTaken.idxStart write len addr buf (s.idxCheck addr ctl)) 0x10008 true
    (s.idxCheck addr ctl) 0 .ctl
  have hstart := s.hostTaken.idxStart_fr write len addr buf (s.idxCheck addr ctl)
  refine ⟨?_, State.hostReply_status _ _ _ _ _ _, ?_⟩
  · exact (hanswer.obj _ _ _ (by decide)).trans ((hstart.obj _ _ _ id).trans s.hostTaken_counted)
  rw [State.idxAnswered_idx, ← s.hostTaken_idxCheck, ← s.hostTaken_isReady]
  refine ⟨State.idxStart_begins, fun hbad => ?_, State.idxStart_closed⟩
  rw [State.idxStart_refused hbad]
  exact s.hostTaken.idxFill_operation addr buf

/-- A write of IDX_CTL that asks for a read starts one of length 0. -/
theorem idxRead_served {addr ctl : Nat} {s : State} (hbit : bit ctl 0 = false) (h : s.HpTakes) :
    exec (.idxRead addr ctl) s = .next (s.idxAnswered false 0 addr s.idx.buf ctl) := by
  change execIdxRead addr ctl s = _
  unfold execIdxRead
  rw [hbit, State.idxAnswered, ← State.hostTaken_idxCheck]
  exact congrArg Host.Outcome.next (State.hostIn_served h)

/-- A write of IDX_CTL that asks for a write starts one of LENGTH bytes. -/
theorem idxWrite_served {addr buf ctl : Nat} {s : State} (hbit : bit ctl 0 = true) (h : s.HpTakes) :
    exec (.idxWrite addr buf ctl) s = .next (s.idxAnswered true (bits ctl 16 15) addr (buf % 2 ^ 131072) ctl) := by
  change execIdxWrite addr buf ctl s = _
  unfold execIdxWrite
  rw [hbit, State.idxAnswered, ← State.hostTaken_idxCheck]
  exact congrArg Host.Outcome.next (State.hostIn_served h)

/-! ### The end of an indirect operation (R456) -/

/-- With none of its accesses on its way to an agent, and CTL not standing still, an indirect operation is decided. -/
theorem idxDone_decides {s : State} {write : Bool} {len : Nat} (hop : s.idx.op = some (write, len))
    (hsent : ∀ x ∈ s.dict.remote, x.via ≠ .idx) (hstop : s.refs.shortStop = false) :
    exec .idxDone s = .next (s.decideAcc (s.idxAccess write len)) := by
  have hnone : (s.dict.remote.any fun x => x.via == .idx) = false := by
    simpa [List.any_eq_false] using hsent
  change execIdxDone s = _
  unfold execIdxDone
  rw [hop, hnone, hstop]
  rfl

theorem State.reply_idx {s : State} {a : Access} {c : Code} {o : Obj} {i : Nat} (hv : a.via = .idx) :
    s.reply a c (some (o, i)) = s.answerIdx a.write c (some o) (s.readVal o a.el i) := by
  unfold State.reply State.replyVal
  rw [hv]
  rfl

/-- The answer to a read in the window: its length and OK, and the value in the first bytes of the buffer. -/
theorem State.answerIdx_read {s : State} {o : Obj} {len v : Nat} (hop : s.idx.op = some (false, len)) :
    (s.answerIdx false .ok (some o) v).idx.op = none
      ∧ (s.answerIdx false .ok (some o) v).idx.status = (info o).size * 2 ^ 32 + 2
      ∧ (s.answerIdx false .ok (some o) v).idx.buf
          = setBytes s.idx.buf 0 (if (info o).ty.long then (info o).size else 8) v := by
  have hnum : Code.ok.num = 0 := rfl
  simp [State.answerIdx, hop, hnum]

/-- The answer to a write in the window: its length and OK. -/
theorem State.answerIdx_write {s : State} {o : Option Obj} {len v : Nat} (hop : s.idx.op = some (true, len)) :
    (s.answerIdx true .ok o v).idx.op = none ∧ (s.answerIdx true .ok o v).idx.status = len * 2 ^ 32 + 2 := by
  have hnum : Code.ok.num = 0 := rfl
  simp [State.answerIdx, hop, hnum]

/-- The first bytes of a buffer whose first bytes have been replaced. -/
theorem bytesAt_setBytes_zero (n v : Nat) {k m : Nat} (h : m ≤ k) : bytesAt (setBytes n 0 k v) 0 m = v % 2 ^ (8 * m) := by
  have hdvd : 2 ^ (8 * m) ∣ 2 ^ (8 * k) := Nat.pow_dvd_pow 2 (by omega)
  simp only [bytesAt, setBytes, bits, setBits, Nat.mul_zero, Nat.pow_zero, Nat.div_one, Nat.mod_one, Nat.mul_one,
    Nat.zero_add]
  rw [Nat.add_mod, Nat.mod_eq_zero_of_dvd (hdvd.mul_left _), Nat.add_zero, Nat.mod_mod, Nat.mod_mod_of_dvd _ hdvd]

/-- Settles O44: each access passes its port and its checks, so it is answered as it is decided; a write of IDX_CTL starts
the window's operation, and IDX_DONE decides it. -/
theorem engineAndIndirectAccess : Obligations.EngineAndIndirectAccess := by
  unfold Obligations.EngineAndIndirectAccess
  refine ⟨?_, ?_, ?_, ?_, ?_, ?_⟩
  · intro q o i s ht hid harg hdata hoff hobj hcheck hrem hflips
    refine ⟨_, rfl, ?_⟩
    rw [State.epTake_served ht (State.boxesFull_dict (by decide) (by decide)), State.shiftWords_no_flips hflips,
      State.epDictRead, if_neg (by simp [hid, harg, hdata, hoff]), State.decideRead_carried hobj hcheck hrem hflips,
      State.reply_engRead]
    exact ⟨rfl, State.answered_respond rfl⟩
  · intro q s ht hid harg hoff hhigh hpass
    obtain ⟨-, -, -, -, hflips⟩ := id hpass
    obtain ⟨t, hserved, hg, hrd, d, -, hrspId, hstatus, -, hcount⟩ := State.decideWrite_runCtl hpass
    refine ⟨t, (dictWrite_served ht hid harg hoff hhigh hflips).trans (congrArg _ hserved), fun hval => ?_, fun hval hrun => ?_,
      hrspId, hstatus, hcount⟩
    · rw [hg, hrd, hval]
      exact State.writeRun_asks (.inl rfl)
    · rw [hg, hrd, hval]
      exact State.writeRun_asks (.inr hrun)
  · intro addr ctl s hbit ht
    obtain ⟨hcount, hstatus, hbegin, hbad, hclosed⟩ := s.idxAnswered_effect false 0 addr s.idx.buf ctl
    refine ⟨_, idxRead_served hbit ht, hcount, hstatus, fun hok => ?_, fun hne => ?_, hclosed⟩
    · rw [hbegin hok]
      exact ⟨rfl, rfl, rfl⟩
    · obtain ⟨hop, hst, hbuf⟩ := hbad hne
      exact ⟨hop, hst, hbuf rfl⟩
  · intro addr buf ctl s hbit ht
    obtain ⟨hcount, hstatus, hbegin, hbad, hclosed⟩ :=
      s.idxAnswered_effect true (bits ctl 16 15) addr (buf % 2 ^ 131072) ctl
    refine ⟨_, idxWrite_served hbit ht, hcount, hstatus, fun hok => ?_, fun hne => ?_, hclosed⟩
    · rw [hbegin hok]
      exact ⟨rfl, rfl, rfl⟩
    · obtain ⟨hop, hst, -⟩ := hbad hne
      exact ⟨hop, hst⟩
  · intro o i s hop hsent hobj hcheck hrem hflips hstop
    refine ⟨_, idxDone_decides hop hsent hstop, ?_⟩
    rw [show s.decideAcc (s.idxAccess false 0) = s.decideRead (s.idxAccess false 0) from rfl,
      State.decideRead_carried hobj hcheck hrem hflips, State.reply_idx rfl]
    obtain ⟨hnone, hstatus, hbuf⟩ := State.answerIdx_read (o := o) (v := s.readVal o (bits s.idx.addr 0 16) i) hop
    refine ⟨hnone, hstatus, (congrArg (bytesAt · 0 (info o).size) hbuf).trans (bytesAt_setBytes_zero _ _ ?_)⟩
    split
    · exact le_rfl
    · next hlong => exact scalar_size o (objAt_some hobj).1 (by simpa using hlong)
  · intro o i len s hop hsent hpass hplain hstop
    obtain ⟨u, hu, hrd, hidx⟩ := State.decideWrite_plain hpass hplain
    refine ⟨_, idxDone_decides hop hsent hstop, ?_⟩
    rw [show s.decideAcc (s.idxAccess true len) = s.decideWrite (s.idxAccess true len) from rfl, hu, State.reply_idx rfl]
    obtain ⟨hnone, hstatus⟩ := State.answerIdx_write (s := u) (o := some o) (v := u.readVal o (bits s.idx.addr 0 16) i)
      (hidx ▸ hop)
    exact ⟨hnone, hstatus, hrd⟩

end Sys2Proof.Machine
end

section
/-! A REMOTE write that returns (R426): what an access in flight may hold. -/

namespace Sys2Proof.Machine
open Sys2Proof

/-- A block in which one write of CAL_CURVE is in flight at subindex offset 1, where the object has a single subindex. -/
def curveOffRow : State :=
  { State.zero {} with dict := { remote := [{ flying := true, write := true, obj := .CAL_CURVE, sub := 1, val := 1 }] } }

/-- The write returns and is stored at the one subindex of CAL_CURVE: at offset 1 the object reads 0 as before. -/
theorem curveOffRow_returns (t : State) (ht : exec (.remoteAccessComplete 0) curveOffRow = .next t) :
    t.rd .CAL_CURVE 0 1 = 0 := by
  have hrun : (match exec (.remoteAccessComplete 0) curveOffRow with
      | .next u => u.rd .CAL_CURVE 0 1
      | _ => 1) = 0 := by decide +kernel
  rwa [ht] at hrun

/-- Refutes O43, in its last clause alone: the access in flight is any record, and one that names CAL_CURVE at a subindex
offset the object does not have (`objAt` answers offset 0 for it) is stored at offset 0, so that the offset named does not
read the value written. -/
theorem not_objectWritesAreCheckedAndAudited : ¬ Obligations.ObjectWritesAreCheckedAndAudited := by
  unfold Obligations.ObjectWritesAreCheckedAndAudited
  rintro ⟨-, -, -, -, hreturn⟩
  obtain ⟨hwrite, -⟩ := hreturn 0 { flying := true, write := true, obj := .CAL_CURVE, sub := 1, val := 1 } curveOffRow
    rfl rfl rfl (by decide) rfl rfl
  obtain ⟨t, ht, -, hvalue, -⟩ := hwrite rfl (by decide) (by decide +kernel)
  have hone : t.rd .CAL_CURVE 0 1 = 1 := hvalue.trans (Nat.mod_eq_of_lt (Nat.one_lt_two_pow (by decide)))
  rw [curveOffRow_returns t ht] at hone
  cases hone

end Sys2Proof.Machine
end

section
/-! SUPPORT. Bit fields of numbers and of objects: what a read of a field gives after a write of one. -/

namespace Sys2Proof.Machine
open Sys2Proof

/-! ### Fields of a number -/

theorem testBit_bits (n lo w j : Nat) : (bits n lo w).testBit j = (decide (j < w) && n.testBit (lo + j)) := by
  rw [bits, Nat.testBit_mod_two_pow, Nat.testBit_div_two_pow, Nat.add_comm]

theorem bit_eq_testBit (n i : Nat) : bit n i = n.testBit i := by
  rw [bit, bits, ← Nat.shiftRight_eq_div_pow, Nat.testBit, Nat.pow_one, Nat.and_comm, Nat.and_one_is_mod]
  rcases Nat.mod_two_eq_zero_or_one (n >>> i) with h | h <;> rw [h] <;> rfl

theorem testBit_setBits (n lo w v j : Nat) :
    (setBits n lo w v).testBit j = if lo ≤ j ∧ j < lo + w then v.testBit (j - lo) else n.testBit j := by
  have hparts : setBits n lo w v = 2 ^ lo * (2 ^ w * (n / 2 ^ (lo + w)) + v % 2 ^ w) + n % 2 ^ lo := by
    unfold setBits
    ring
  rw [hparts, Nat.testBit_two_pow_mul_add _ (Nat.mod_lt _ (Nat.two_pow_pos lo)),
    Nat.testBit_two_pow_mul_add _ (Nat.mod_lt _ (Nat.two_pow_pos w)), Nat.testBit_mod_two_pow, Nat.testBit_mod_two_pow,
    Nat.testBit_div_two_pow]
  by_cases hlo : j < lo
  · simp [hlo, Nat.not_le.2 hlo]
  · by_cases hw : j < lo + w
    · simp [hlo, hw, Nat.le_of_not_lt hlo, show j - lo < w by omega]
    · simp [hlo, hw, show ¬ j - lo < w by omega, show j - lo - w + (lo + w) = j by omega]

/-- A field reads what was written to it. -/
theorem bits_setBits_self (n lo w v : Nat) : bits (setBits n lo w v) lo w = v % 2 ^ w := by
  refine Nat.eq_of_testBit_eq fun j => ?_
  rw [testBit_bits, testBit_setBits, Nat.testBit_mod_two_pow]
  by_cases h : j < w <;> simp [h]

/-- Another field reads what it read. -/
theorem bits_setBits_other {n lo w v lo' w' : Nat} (h : lo' + w' ≤ lo ∨ lo + w ≤ lo') :
    bits (setBits n lo w v) lo' w' = bits n lo' w' := by
  refine Nat.eq_of_testBit_eq fun j => ?_
  rw [testBit_bits, testBit_bits, testBit_setBits]
  by_cases hj : j < w'
  · rw [if_neg (by omega)]
  · simp [hj]

theorem bit_setBit_self (n i : Nat) (b : Bool) : bit (setBit n i b) i = b := by
  rw [bit, setBit, bits_setBits_self]
  cases b <;> rfl

theorem bit_setBit_other (n : Nat) {i j : Nat} (b : Bool) (h : j ≠ i) : bit (setBit n i b) j = bit n j :=
  congrArg (· == 1) (bits_setBits_other (by omega))

/-- Cutting a number to its width leaves the bits within it. -/
theorem bit_mod {n i k : Nat} (h : i < k) : bit (n % 2 ^ k) i = bit n i := by
  rw [bit_eq_testBit, bit_eq_testBit, Nat.testBit_mod_two_pow]
  simp [h]

/-- Cutting a number to its width leaves the fields within it. -/
theorem bits_mod {n lo w k : Nat} (h : lo + w ≤ k) : bits (n % 2 ^ k) lo w = bits n lo w := by
  refine Nat.eq_of_testBit_eq fun j => ?_
  rw [testBit_bits, testBit_bits, Nat.testBit_mod_two_pow]
  by_cases hj : j < w
  · simp [show lo + j < k by omega]
  · simp [hj]

/-! ### Flags of an object -/

theorem State.flag_congr {s t : State} {o : Obj} {e : Nat} (h : t.rd o e = s.rd o e) (b : Nat) :
    t.flag o b e = s.flag o b e :=
  congrArg (bit · b) h

theorem State.flag_setFlag_self (s : State) {o : Obj} {b : Nat} (v : Bool) (e : Nat) (hb : b < objBits o) :
    (s.setFlag o b v e).flag o b e = v := by
  rw [State.flag, State.setFlag, State.rd_wr_self, bit_mod hb, bit_setBit_self]

theorem State.flag_setFlag_other (s : State) {o : Obj} {b b' : Nat} (v : Bool) (e : Nat) (hb : b' < objBits o)
    (h : b' ≠ b) : (s.setFlag o b v e).flag o b' e = s.flag o b' e := by
  rw [State.flag, State.setFlag, State.rd_wr_self, bit_mod hb, bit_setBit_other _ _ h]
  rfl

theorem State.rd_setFlag_other (s : State) {o o' : Obj} {b : Nat} {v : Bool} (h : o' ≠ o) (e e' i' : Nat) :
    (s.setFlag o b v e).rd o' e' i' = s.rd o' e' i' :=
  State.rd_wr_other s h _ _ _ _ _

/-! ### UNIT_READY (R36) -/

theorem Rdy.pos_lt (r : Rdy) : r.pos < objBits .UNIT_READY := by
  cases r <;> decide

theorem Rdy.pos_inj {r r' : Rdy} (h : r'.pos = r.pos) : r' = r := by
  revert h
  cases r <;> cases r' <;> decide

@[simp] theorem State.isReady_setReady_self (s : State) (r : Rdy) (v : Bool) : (s.setReady r v).isReady r = v :=
  State.flag_setFlag_self s v 0 r.pos_lt

theorem State.isReady_setReady_other (s : State) {r r' : Rdy} (v : Bool) (h : r' ≠ r) :
    (s.setReady r v).isReady r' = s.isReady r' :=
  State.flag_setFlag_other s v 0 r'.pos_lt fun hpos => h (Rdy.pos_inj hpos)

theorem State.isReady_congr {s t : State} (h : t.rd .UNIT_READY = s.rd .UNIT_READY) (r : Rdy) : t.isReady r = s.isReady r :=
  State.flag_congr h _

theorem State.rd_setReady (s : State) (r : Rdy) (v : Bool) {o : Obj} (h : o ≠ .UNIT_READY) (e i : Nat) :
    (s.setReady r v).rd o e i = s.rd o e i :=
  State.rd_setFlag_other s h _ _ _

/-! ### START_STATE (R518) -/

theorem State.rd_setStart (s : State) (x : Start) : (s.setStart x).rd .START_STATE = x.code := by
  have hfits : x.code < 2 ^ objBits .START_STATE := by cases x <;> decide
  exact (State.rd_wr_self _ _ _ _ _).trans (Nat.mod_eq_of_lt hfits)

@[simp] theorem State.startIs_setStart (s : State) (x : Start) : (s.setStart x).startIs x = true := by
  rw [State.startIs, State.rd_setStart, beq_self_eq_true]

theorem State.startIs_congr {s t : State} (h : t.rd .START_STATE = s.rd .START_STATE) (x : Start) :
    t.startIs x = s.startIs x :=
  congrArg (· == x.code) h

end Sys2Proof.Machine
end

section
/-! The Stretch Engine's decision (R28). -/

namespace Sys2Proof.Machine
open Sys2Proof

/-- The permitted depths (R27). -/
def depths : List Nat := [0, 1, 2, 4, 8]

theorem permitted_mem (x : Nat) : permitted x ∈ depths := by
  unfold permitted depths
  grind

theorem permitted_le (x : Nat) : permitted x ≤ x := by
  unfold permitted
  grind

/-- No permitted depth up to `x` is deeper. -/
theorem le_permitted {d x : Nat} (hd : d ∈ depths) (h : d ≤ x) : d ≤ permitted x := by
  unfold permitted
  unfold depths at hd
  grind

/-- A permitted depth lies within a request and its limit exactly where it lies within their permitted depth. -/
theorem le_permitted_min {d x y : Nat} (hd : d ∈ depths) : d ≤ x ∧ d ≤ y ↔ d ≤ permitted (min x y) :=
  ⟨fun h => le_permitted hd (Nat.le_min.2 h), fun h => Nat.le_min.1 (h.trans (permitted_le _))⟩

/-- The depth applied is a permitted depth of one of the three requests. -/
theorem decideStretch_mem (s3 droop tether cap : Nat) : (decideStretch s3 droop tether cap).1 ∈ depths := by
  have hmax : ∀ a b, a ∈ depths → b ∈ depths → max a b ∈ depths := fun a b ha hb => by
    rcases max_choice a b with h | h <;> rw [h] <;> assumption
  exact hmax _ _ (permitted_mem _) (hmax _ _ (permitted_mem _) (permitted_mem _))

/-- Settles O8: a depth lies within a request and its limit exactly where it is at most the permitted depth of the request
so reduced, and the depth applied is the deepest of these three. -/
theorem stretchedPeriodIsCharged : Obligations.StretchedPeriodIsCharged := by
  unfold Obligations.StretchedPeriodIsCharged
  intro s3 droop tether cap q ok D T C
  have hok : ok q.1 := decideStretch_mem s3 droop tether cap
  have hD : ∀ d, ok d → (D d ↔ d ≤ permitted (min droop (24 - s3))) := fun d hd => le_permitted_min hd
  have hT : ∀ d, ok d → (T d ↔ d ≤ permitted (min tether (20 - s3))) := fun d hd => le_permitted_min hd
  have hC : ∀ d, ok d → (C d ↔ d ≤ permitted (min cap (20 - s3))) := fun d hd => le_permitted_min hd
  have hdepth : q.1 = max (permitted (min droop (24 - s3)))
      (max (permitted (min tether (20 - s3))) (permitted (min cap (20 - s3)))) := rfl
  have hwho : q.2.1 = if q.1 = 0 then .none else if permitted (min droop (24 - s3)) = q.1 then .droop
      else if permitted (min tether (20 - s3)) = q.1 then .tether else .cap := rfl
  refine ⟨hok, ?_, fun d hd => ?_, ?_, ?_, ?_, ?_, rfl⟩
  · rw [hD _ hok, hT _ hok, hC _ hok]
    omega
  · rw [hD _ hd, hT _ hd, hC _ hd]
    omega
  · rw [hwho]
    grind
  · rw [hD _ hok, hwho]
    grind
  · rw [hD _ hok, hT _ hok, hwho]
    grind
  · rw [hD _ hok, hT _ hok, hwho]
    grind

end Sys2Proof.Machine
end

section
/-! The block right after reset (R42, R495, R522). -/

namespace Sys2Proof.Machine
open Sys2Proof

/-- Every object reads its default. -/
theorem State.rd_reset (o : Obj) (e i : Nat) : State.reset.rd o e i = State.reset.dflt o e i := rfl

/-- Right after reset only AON runs. -/
theorem State.isReady_reset (r : Rdy) : State.reset.isReady r = (r == .aon || r == .aonInternal) := by
  have hrd : State.reset.rd .UNIT_READY = 0x20001 := rfl
  unfold State.isReady State.flag
  rw [hrd]
  cases r <;> rfl

theorem State.not_clocked_reset (n : Nat) : State.reset.clocked n = false := by
  have hrd : State.reset.rd .OSC_STATUS n = 0 := rfl
  unfold State.clocked State.osc State.flag
  rw [hrd]
  rfl

/-- Every output signal has its reset value: the sync port presents no post, for its unit is not ready. -/
theorem State.pinsReset_reset (k : Nat) : State.reset.pinsReset k = true := by
  have hclk : State.reset.pinRgnCk k = false := State.not_clocked_reset k
  have hnb : State.reset.pinNb = {} := congrArg (fun b => ({ rxRdy := b } : NbPins)) (State.isReady_reset .ctl)
  have hep : State.reset.pinEp = {} := by
    have hready : State.reset.epReady = false := congrArg (· && _) (State.isReady_reset .ctl)
    unfold State.pinEp
    rw [hready]
    rfl
  have hsy : State.reset.pinSy = {} := by
    have hmay : State.reset.mayPost = false := by
      rw [State.mayPost, State.isReady_reset]
      rfl
    unfold State.pinSy State.postDue
    rw [hmay]
    rfl
  unfold State.pinsReset
  rw [hclk, hnb, hep, hsy]
  rfl

/-- Settles O60: an empty object store reads the defaults, and the records are empty. -/
theorem resetState : Obligations.ResetState := by
  unfold Obligations.ResetState
  exact ⟨State.rd_reset, rfl, rfl, rfl, rfl, rfl, rfl, rfl, rfl, rfl, rfl, rfl, rfl, rfl, rfl, rfl, rfl, rfl, rfl, rfl,
    State.pinsReset_reset⟩

end Sys2Proof.Machine
end

section
/-! SUPPORT. Objects and parts that an operation keeps, and what sending a group toward its target leaves of the groups'
records. -/

namespace Sys2Proof.Machine
open Sys2Proof

/-- `t` reads the objects `os` as `s` does, and has the parts `ps` of `s`. -/
abbrev State.Keeps (os : List Obj) (ps : List Part) (s t : State) : Prop := Fr (· ∉ os) (· ∉ ps) s t

theorem State.Keeps.rd {os : List Obj} {ps : List Part} {s t : State} (h : State.Keeps os ps s t) {o : Obj} (ho : o ∈ os)
    (e i : Nat) : t.rd o e i = s.rd o e i :=
  h.obj o e i (not_not_intro ho)

theorem State.Keeps.same {os : List Obj} {ps : List Part} {s t : State} (h : State.Keeps os ps s t) (p : Part) (hp : p ∈ ps) :
    p.same s t :=
  h.part p (not_not_intro hp)

theorem Fr.trans {W : Obj → Prop} {Q : Part → Prop} {s t u : State} (h : Fr W Q s t) (k : Fr W Q t u) : Fr W Q s u where
  obj o e i hw := (k.obj o e i hw).trans (h.obj o e i hw)
  build := k.build.trans h.build
  part p hp := Part.same_trans (h.part p hp) (k.part p hp)

/-! ### Group records -/

/-- `y` differs from `x` in the step in flight, the pending target and the occurrence alone, and has no occurrence of its own. -/
def Grp.StepsFrom (x y : Grp) : Prop :=
  y = { x with step := y.step, pending := y.pending, occ := y.occ } ∧ (x.occ = none → y.occ = none)

theorem Grp.StepsFrom.refl (x : Grp) : x.StepsFrom x := ⟨rfl, id⟩

theorem Grp.StepsFrom.trans {x y z : Grp} (h : x.StepsFrom y) (k : y.StepsFrom z) : x.StepsFrom z :=
  ⟨k.1.trans (congrArg (fun w : Grp => { w with step := z.step, pending := z.pending, occ := z.occ }) h.1),
    fun hx => k.2 (h.2 hx)⟩

theorem Grp.StepsFrom.holdCeil {x y : Grp} (h : x.StepsFrom y) : y.holdCeil = x.holdCeil := by
  rw [h.1]

/-- The record of every group of `t` comes so from that of `s`. -/
def State.GroupsStep (s t : State) : Prop := ∀ k, (s.g k).StepsFrom (t.g k)

theorem State.GroupsStep.of_grp {s t : State} (h : t.grp = s.grp) : s.GroupsStep t := fun k => by
  rw [State.g, State.g, h]
  exact Grp.StepsFrom.refl _

theorem State.GroupsStep.trans {s t u : State} (h : s.GroupsStep t) (k : t.GroupsStep u) : s.GroupsStep u :=
  fun i => (h i).trans (k i)

theorem State.modG_steps {s : State} {g : Nat} {f : Grp → Grp} (hf : ∀ x, Grp.StepsFrom x (f x)) : s.GroupsStep (s.modG g f) := by
  intro k
  rw [State.g_modG]
  split
  · next h => exact h ▸ hf _
  · exact Grp.StepsFrom.refl _

theorem State.spoil_steps (s : State) (g : Nat) : s.GroupsStep (s.spoil g) :=
  State.modG_steps fun _ => ⟨rfl, Option.map_eq_none_iff.2⟩

theorem State.setChg_grp (s : State) (g : Nat) (c : Chg) : (s.setChg g c).grp = s.grp :=
  (State.setChg_frame (W := fun _ => True) (Q := fun _ => False) trivial (Fr.refl s)).part .grp id

theorem State.startRecoveries_grp (s : State) (g : Nat) (keep : Bool) : (s.startRecoveries g keep).grp = s.grp := by
  have hkeeps : State.Keeps [] [.grp] s (s.startRecoveries g keep) := by
    apply State.startRecoveries_frame (h := Fr.refl s) <;> decide
  exact hkeeps.same .grp (by decide)

theorem State.abortStep_grp (s : State) (g result : Nat) :
    (s.abortStep g result).grp = (s.modG g fun x => { x with step := none }).grp := by
  unfold State.abortStep
  rw [State.startRecoveries_grp, State.setChg_grp]
  refine State.when_same State.grp _ ?_ _ _
  exact fun _ => rfl

theorem State.abortStep_steps (s : State) (g result : Nat) : s.GroupsStep (s.abortStep g result) :=
  State.GroupsStep.trans (State.modG_steps (f := fun x => { x with step := none }) fun _ => ⟨rfl, id⟩)
    (State.GroupsStep.of_grp (s.abortStep_grp g result))

theorem State.showCeiling_steps (s : State) (g : Nat) : s.GroupsStep (s.showCeiling g) := by
  unfold State.showCeiling
  exact State.when_kept (P := s.GroupsStep) (State.GroupsStep.of_grp rfl) fun t ht => ht.trans (t.spoil_steps g)

theorem State.newTarget_steps (s : State) (g tgt : Nat) : s.GroupsStep (s.newTarget g tgt) := by
  have hpending : s.GroupsStep ((s.modG g fun x => { x with pending := some tgt }).wr .GROUP_TARGET_N (min tgt (s.ceilN g)) g) :=
    State.modG_steps (f := fun x => { x with pending := some tgt }) fun _ => ⟨rfl, id⟩
  unfold State.newTarget
  dsimp only
  split
  · split
    · exact hpending
    · exact hpending.trans (State.abortStep_steps _ _ _)
  · exact hpending

/-- Bringing a group's ceiling up to date and sending it toward its target. -/
theorem State.retarget_steps (s : State) (g : Nat) : s.GroupsStep (s.retarget g) := by
  unfold State.retarget
  dsimp only
  split
  · exact s.showCeiling_steps g
  · split
    · exact s.showCeiling_steps g
    · exact (s.showCeiling_steps g).trans (State.newTarget_steps _ _ _)

theorem State.retarget_holdCeil (s : State) (g k : Nat) : ((s.retarget g).g k).holdCeil = (s.g k).holdCeil :=
  (s.retarget_steps g k).holdCeil

end Sys2Proof.Machine
end

section
/-! SUPPORT. The end of a short stop of CTL: what the sending of due MARKs leaves of the ports. -/

namespace Sys2Proof.Machine
open Sys2Proof

/-- The ports beside the notice words. -/
def State.portsCore (s : State) : Ports := { s.ports with notices := [] }

theorem State.portsCore_congr {s t : State} (h : t.ports = s.ports) : t.portsCore = s.portsCore :=
  congrArg (fun p : Ports => { p with notices := [] }) h

theorem State.Keeps.portsCore {os : List Obj} {ps : List Part} {s t : State} (h : State.Keeps os ps s t)
    (hp : Part.ports ∈ ps := by decide) : t.portsCore = s.portsCore :=
  State.portsCore_congr (h.same .ports hp)

theorem State.setNotice_portsCore (s : State) (id w : Nat) : (s.setNotice id w).portsCore = s.portsCore := rfl

theorem State.discardBox_portsCore (s : State) (m : Nat) : (s.discardBox m).portsCore = s.portsCore := by
  have hcount : ∀ (t : State) n f, (((t.add .MB_DISCARDS n m).modBx m f).showCount m).portsCore = t.portsCore := fun t n f =>
    State.portsCore_congr rfl
  unfold State.discardBox
  exact (hcount _ _ _).trans (State.each_same State.portsCore _ (fun t x => t.setNotice_portsCore _ _) _ _)

theorem State.discardDomain_portsCore (s : State) (d : Nat) : (s.discardDomain d).portsCore = s.portsCore :=
  State.when_same State.portsCore _
    (fun _ => State.each_same State.portsCore _ (fun t m => t.discardBox_portsCore m) _ _) _ _

theorem State.setPhase_portsCore (s : State) (d : Nat) (p : PdPhase) : (s.setPhase d p).portsCore = s.portsCore :=
  State.Keeps.portsCore (os := []) (ps := [.ports]) (by apply State.setPhase_frame (h := Fr.refl s) <;> decide)

theorem State.fenceDomain_portsCore (s : State) (d : Nat) : (s.fenceDomain d).portsCore = s.portsCore := by
  have hfence : ∀ (t : State) n, (t.fenceAll n).portsCore = t.portsCore := fun t n =>
    State.Keeps.portsCore (os := []) (ps := [.ports]) (State.fenceAll_frame (by decide) (Fr.refl t))
  unfold State.fenceDomain
  rw [State.setPhase_portsCore, State.each_same State.portsCore _ hfence, State.discardDomain_portsCore]

theorem State.advance_portsCore (s : State) (d : Nat) : (s.advance d).portsCore = s.portsCore := by
  have hend : ∀ t : State, (t.endTransition d).portsCore = t.portsCore := fun t =>
    State.Keeps.portsCore (os := []) (ps := [.ports]) (by apply State.endTransition_frame (h := Fr.refl t) <;> decide)
  unfold State.advance
  dsimp only
  split_ifs
  · exact hend _
  · exact State.setPhase_portsCore _ _ _
  · exact State.setPhase_portsCore _ _ _
  · exact State.fenceDomain_portsCore _ _
  · exact State.setPhase_portsCore _ _ _
  · exact State.setPhase_portsCore _ _ _

theorem State.fillPlaces_portsCore (s : State) : s.fillPlaces.portsCore = s.portsCore := by
  have hplace : ∀ (b : State → Bool) (t : State) (d : Nat), (t.when (b t) fun u => u.advance d).portsCore = t.portsCore :=
    fun b t d => State.when_same State.portsCore _ (fun u => u.advance_portsCore d) _ _
  unfold State.fillPlaces
  split
  · rfl
  · refine (State.each_same State.portsCore _ (fun t d => ?_) _ _).trans
      (State.each_same State.portsCore _ (fun t d => ?_) _ _)
    · exact hplace (fun t => decide (t.inTransition.length < 8 ∧ t.commandTransitions.length < 7)) t d
    · exact hplace (fun t => decide (t.inTransition.length < 8)) t d

theorem State.degradeSteps_portsCore (s : State) (f : Nat) : (s.degradeSteps f).portsCore = s.portsCore := by
  have hstep : ∀ (b : Bool) (t : State) g, (t.when b fun u => (u.modG g fun x => { x with noStep := true }).abortStep g 4).portsCore
      = t.portsCore := fun b t g => by
    refine State.when_same State.portsCore _ (fun u => ?_) _ _
    exact State.Keeps.portsCore (os := []) (ps := [.ports]) (by
      apply State.abortStep_frame (h := State.modG_frame _ (Fr.refl u)) <;> decide)
  have hstop : ∀ (b : Bool) (t : State) x, (t.when b fun u => (u.abortStop x 4).fillPlaces).portsCore = t.portsCore :=
    fun b t x => by
      refine State.when_same State.portsCore _ (fun u => ?_) _ _
      rw [State.fillPlaces_portsCore]
      exact State.Keeps.portsCore (os := []) (ps := [.ports]) (by apply State.abortStop_frame (h := Fr.refl u) <;> decide)
  unfold State.degradeSteps
  dsimp only
  split <;> split
  · exact (hstop _ _ _).trans (hstep _ _ _)
  · exact hstop _ _ _
  · exact hstep _ _ _
  · rfl

theorem State.degradeField_portsCore (s : State) (f : Nat) : (s.degradeField f).portsCore = s.portsCore := by
  have hretarget : ∀ (t : State) g, (t.retarget g).portsCore = t.portsCore := fun t g =>
    State.Keeps.portsCore (os := []) (ps := [.ports]) (by apply State.retarget_frame (h := Fr.refl t) <;> decide)
  have hrecompute : ∀ t : State, t.recompute.portsCore = t.portsCore := fun t =>
    State.Keeps.portsCore (os := []) (ps := [.ports]) (by apply State.recompute_frame (h := Fr.refl t) <;> decide)
  unfold State.degradeField
  rw [State.when_same State.portsCore _ (fun t => hretarget t _), hrecompute, State.degradeSteps_portsCore]
  refine (State.when_same State.portsCore _ (fun _ => ?_) _ _).trans
    ((State.each_same State.portsCore _ (fun _ _ => ?_) _ _ :))
  · rfl
  · rfl

theorem State.degradeRail_portsCore (s : State) (cause r : Nat) : (s.degradeRail cause r).portsCore = s.portsCore := by
  have hevent : (((s.wr .RAIL_STATE 3 r).setRailStatus r 4 3 cause).inc .RAIL_DEGRADE_EVENTS r |>.event 0x23 r cause).portsCore
      = s.portsCore :=
    State.Keeps.portsCore (os := []) (ps := [.ports]) (by
      apply State.event_frame (h := State.inc_frame _ (State.setRailStatus_frame _ (State.wr_frame _ (Fr.refl s)))) <;> decide)
  unfold State.degradeRail
  split
  · rfl
  · dsimp only
    split
    · exact (State.degradeField_portsCore _ _).trans hevent
    · exact hevent

theorem State.missInterval_portsCore (s : State) (r k : Nat) : (s.missInterval r k).portsCore = s.portsCore := by
  have henergy : ∀ (t : State) p, (t.railEnergy r p).portsCore = t.portsCore := fun t p =>
    State.Keeps.portsCore (os := []) (ps := [.ports]) (by apply State.railEnergy_frame (h := Fr.refl t) <;> decide)
  unfold State.missInterval
  exact (State.when_same State.portsCore _ (fun t => t.degradeRail_portsCore 4 r) _ _).trans (henergy _ _)

theorem State.pump_portsCore (s : State) (j : Nat) : (s.pump j).portsCore = s.portsCore :=
  State.Keeps.portsCore (os := []) (ps := [.ports]) (by apply State.pump_frame (h := Fr.refl s) <;> decide)

theorem State.markLink_portsCore (s : State) (j k : Nat) : (s.markLink j k).portsCore = s.portsCore := by
  unfold State.markLink
  refine (State.pump_portsCore _ _).trans ?_
  split
  · exact State.each_same State.portsCore _ (fun t r => t.missInterval_portsCore r _) _ _
  · rfl

theorem State.sendDueMarks_portsCore (s : State) : s.sendDueMarks.portsCore = s.portsCore :=
  (State.each_same State.portsCore State.pump (fun t j => t.pump_portsCore j) _ _).trans
    (State.each_same State.portsCore _ (fun t j => t.markLink_portsCore j _) _ _)

end Sys2Proof.Machine
end

section
/-! SUPPORT. What logging an event leaves (R528). -/

namespace Sys2Proof.Machine
open Sys2Proof

/-- An event reaches its own objects and the fault unit alone. -/
theorem State.event_fr (s : State) (code elem data : Nat) (inj : Bool) :
    Fr (· ∈ eventObjs) (· = .flt) s (s.event code elem data inj) :=
  State.event_frame (by decide) (by decide) (by decide) (by decide) (by decide) rfl (Fr.refl s)

end Sys2Proof.Machine
end

section
/-! The end of holdover (R34, R190, R208, R210). -/

namespace Sys2Proof.Machine
open Sys2Proof

/-! ### A change of source and its SWITCH (R205, R212) -/

theorem State.launchSwitch_refs (s : State) (gates : Nat) :
    (s.launchSwitch gates).refs = { s.refs with suppressUntil := s.up + 2 } := by
  unfold State.launchSwitch
  refine State.each_same State.refs _ (fun t n => ?_) _ _
  exact (State.holdFll_frame (W := (· = .OSC_STATUS)) (Q := (· = .rgn)) rfl rfl (Fr.refl t)).part .refs (by decide)

/-- A change of source selects it. -/
theorem State.changeSource_selected (s : State) (b : Bool) : (s.changeSource (refCode b)).selected = refCode b := by
  have hrd : (s.changeSource (refCode b)).rd .REF_STATUS
      = setBits (s.rd .REF_STATUS) 4 2 (refCode b) % 2 ^ objBits .REF_STATUS :=
    (State.rd_wr_other _ (by decide) _ _ _ _ _).trans (State.rd_wr_self _ _ _ _ _)
  have hcut : bits (setBits (s.rd .REF_STATUS) 4 2 (refCode b) % 2 ^ objBits .REF_STATUS) 4 2
      = bits (setBits (s.rd .REF_STATUS) 4 2 (refCode b)) 4 2 :=
    bits_mod (by decide)
  rw [State.selected, hrd, hcut, bits_setBits_self]
  cases b <;> rfl

/-- Order 1 of R210: the reference is selected, SWITCH is on its way, CTL stands still. -/
theorem State.leaveHoldover_effect (s : State) (b : Bool) :
    (s.leaveHoldover b).selected = refCode b ∧ (s.leaveHoldover b).refs.shortStop = true
      ∧ (s.leaveHoldover b).refs.suppressUntil = s.up + 2 := by
  have hrefs := (s.changeSource (refCode b)).launchSwitch_refs 2
  have hswitch : State.Keeps [.REF_STATUS] [] (s.changeSource (refCode b)) ((s.changeSource (refCode b)).launchSwitch 2) := by
    apply State.launchSwitch_frame (h := Fr.refl _) <;> decide
  have hstatus : ((s.changeSource (refCode b)).launchSwitch 2).selected = (s.changeSource (refCode b)).selected :=
    congrArg (bits · 4 2) (hswitch.rd (by decide) 0 0)
  have hselected := hstatus.trans (s.changeSource_selected b)
  unfold State.leaveHoldover State.beginStop
  generalize ((s.changeSource (refCode b)).launchSwitch 2) = t at hselected hrefs
  exact ⟨hselected, rfl, congrArg Refs.suppressUntil hrefs⟩

theorem State.switchTo_refs (s : State) (b : Bool) : (s.switchTo b).refs = { s.refs with suppressUntil := s.up + 2 } := by
  have hevent := ((s.changeSource (refCode b)).inc .REF_SWITCHES).event_fr 0x11 0xFFFF (refCode b) s.refs.injSpan
  have hrefs : _ = ((s.changeSource (refCode b)).inc .REF_SWITCHES).refs := hevent.part .refs (by decide)
  have hclock : _ = ((s.changeSource (refCode b)).inc .REF_SWITCHES).clock := hevent.part .clock (by decide)
  refine (State.launchSwitch_refs _ 2).trans ?_
  rw [State.up, hrefs, hclock]
  rfl

/-- Taking a preferred reference begins no stop and no holdover. -/
theorem State.prefer_refs (s : State) :
    s.prefer.refs.shortStop = s.refs.shortStop ∧ s.prefer.refs.holdSince = s.refs.holdSince := by
  unfold State.prefer
  dsimp only
  refine ⟨State.when_same (fun t => t.refs.shortStop) _ (fun t => ?_) _ _,
    State.when_same (fun t => t.refs.holdSince) _ (fun t => ?_) _ _⟩
  · rw [State.switchTo_refs]
  · rw [State.switchTo_refs]

/-! ### The end of a short stop (R190, R210) -/

/-- The field bus rejoining changes its own bit alone. -/
theorem State.joinBus_isReady (s : State) {r : Rdy} (h : r ≠ .fbOn) : s.joinBus.isReady r = s.isReady r := by
  unfold State.joinBus
  cases s.isReady .mailbox
  · rfl
  · exact (State.isReady_setReady_other _ _ h).trans (State.isReady_congr (State.rd_congr rfl rfl _ _ _) r)

/-- The block once holdover's bits are clear and the field bus has rejoined. -/
def State.clearHoldover (s : State) : State := ((s.setReady .aonInternal false).setReady .holdover false).joinBus

theorem State.clearHoldover_bits (s : State) :
    s.clearHoldover.isReady .holdover = false ∧ s.clearHoldover.isReady .aonInternal = false := by
  unfold State.clearHoldover
  rw [State.joinBus_isReady _ (by decide), State.joinBus_isReady _ (by decide), State.isReady_setReady_self,
    State.isReady_setReady_other _ _ (by decide), State.isReady_setReady_self]
  exact ⟨rfl, rfl⟩

/-- The block once a holdover of `us` µs has been counted. -/
def State.countHoldover (s : State) (us : Nat) : State :=
  let u := s.add .HOLDOVER_TIME ((us + s.refs.holdRem) / 1000)
  { u with refs := { u.refs with holdRem := (us + s.refs.holdRem) % 1000 } }

/-- The block once the end of a holdover has been counted and logged, and holdover has no begin any more. -/
def State.leftHoldover (s : State) (us : Nat) (inj : Bool) : State :=
  let t := (s.when (!inj) fun u => u.countHoldover us).event 0x13 0xFFFF (us / 1000) inj
  { t with refs := { t.refs with holdSince := none } }

theorem State.leftHoldover_shortStop (s : State) (us : Nat) (inj : Bool) :
    (s.leftHoldover us inj).refs.shortStop = s.refs.shortStop := by
  have hevent := (s.when (!inj) fun u => u.countHoldover us).event_fr 0x13 0xFFFF (us / 1000) inj
  have hrefs : _ = (s.when (!inj) fun u => u.countHoldover us).refs := hevent.part .refs (by decide)
  refine (congrArg Refs.shortStop hrefs).trans ?_
  cases inj <;> rfl

theorem State.leftHoldover_isReady (s : State) (us : Nat) (inj : Bool) (r : Rdy) :
    (s.leftHoldover us inj).isReady r = s.isReady r := by
  have hevent := (s.when (!inj) fun u => u.countHoldover us).event_fr 0x13 0xFFFF (us / 1000) inj
  refine State.isReady_congr ((hevent.obj _ _ _ (by decide)).trans ?_) r
  cases inj
  · exact State.rd_wr_other s (by decide) _ _ _ _ _
  · rfl

theorem State.endHoldover_eq (s : State) :
    s.endHoldover = (s.clearHoldover.leftHoldover s.holdUs s.refs.injSpan).spanCheck.prefer := rfl

/-- Order 2 of R210: holdover is over, and no stop begins. -/
theorem State.endHoldover_effect (s : State) :
    s.endHoldover.refs.shortStop = s.refs.shortStop ∧ s.endHoldover.refs.holdSince = none
      ∧ s.endHoldover.isReady .holdover = false ∧ s.endHoldover.isReady .aonInternal = false := by
  obtain ⟨hhold, haon⟩ := s.clearHoldover_bits
  have hjoin : s.clearHoldover.refs = s.refs :=
    (State.joinBus_frame (W := (· = .UNIT_READY)) (Q := (· = .fdp)) rfl rfl
      (State.setReady_frame rfl (State.setReady_frame rfl (Fr.refl s)))).part .refs (by decide)
  rw [s.endHoldover_eq]
  generalize hl : s.clearHoldover.leftHoldover s.holdUs s.refs.injSpan = l
  have hspan : l.spanCheck.refs.shortStop = l.refs.shortStop ∧ l.spanCheck.refs.holdSince = l.refs.holdSince := by
    unfold State.spanCheck
    exact State.when_kept (P := fun t => t.refs.shortStop = l.refs.shortStop ∧ t.refs.holdSince = l.refs.holdSince)
      ⟨rfl, rfl⟩ fun _ ht => ht
  have hunit : ∀ r, l.spanCheck.prefer.isReady r = s.clearHoldover.isReady r := fun r => by
    have hkeeps : State.Keeps [.UNIT_READY] [] l l.spanCheck.prefer := by
      apply State.prefer_frame (h := State.spanCheck_frame _ (Fr.refl l)) <;> decide
    rw [State.isReady_congr (hkeeps.rd (by decide) 0 0), ← hl, State.leftHoldover_isReady]
  rw [l.spanCheck.prefer_refs.1, l.spanCheck.prefer_refs.2, hspan.1, hspan.2, hunit, hunit]
  refine ⟨?_, ?_, hhold, haon⟩
  · rw [← hl, State.leftHoldover_shortStop, hjoin]
  · rw [← hl]
    rfl

/-- The block once a short stop of `us` µs has ended, before it leaves holdover: timers, held sums and MARKs go on. -/
def State.resumed (s : State) (us : Nat) : State :=
  ((({ s with refs := { s.refs with shortStop := false, stopped := s.refs.stopped + min us 2 } } : State).shiftTimers
    (min us 2)).takeWindows).sendDueMarks

theorem State.takeWindows_refs (s : State) : s.takeWindows.refs = { s.refs with heldWins := [] } := by
  refine State.each_same State.refs State.takeWindow (fun t x => ?_) _ _
  have hkeeps : State.Keeps [] [.refs] t (t.takeWindow x) := by
    apply State.takeWindow_frame (h := Fr.refl t) <;> decide
  exact hkeeps.same .refs (by decide)

theorem State.resumed_refs (s : State) (us : Nat) :
    (s.resumed us).refs = { s.refs with shortStop := false, stopped := s.refs.stopped + min us 2, heldWins := [] } := by
  have hmarks : ∀ t : State, t.sendDueMarks.refs = t.refs := fun t => by
    have hkeeps : State.Keeps [] [.refs] t t.sendDueMarks := by
      apply State.sendDueMarks_frame (h := Fr.refl t) <;> decide
    exact hkeeps.same .refs (by decide)
  have hshift : ∀ (t : State) n, (t.shiftTimers n).refs = t.refs := fun t n => by
    have hkeeps : State.Keeps [] [.refs] t (t.shiftTimers n) := by
      apply State.shiftTimers_frame (h := Fr.refl t) <;> decide
    exact hkeeps.same .refs (by decide)
  rw [State.resumed, hmarks, State.takeWindows_refs, hshift]

/-- The state with which a short stop of `us` µs ends. -/
theorem State.resumed_keeps (s : State) (us : Nat) :
    (s.resumed us).selected = s.selected ∧ (s.resumed us).budget = s.budget ∧ (s.resumed us).portsCore = s.portsCore := by
  let u : State := { s with refs := { s.refs with shortStop := false, stopped := s.refs.stopped + min us 2 } }
  have hshift : State.Keeps [.REF_STATUS] [.budget, .ports] u (u.shiftTimers (min us 2)) := by
    apply State.shiftTimers_frame (h := Fr.refl u) <;> decide
  have hwindows : State.Keeps [.REF_STATUS] [.budget, .ports] u (u.shiftTimers (min us 2)).takeWindows := by
    apply State.takeWindows_frame (h := hshift) <;> decide
  have hmarks : State.Keeps [.REF_STATUS] [.budget] (u.shiftTimers (min us 2)).takeWindows (s.resumed us) := by
    apply State.sendDueMarks_frame (h := Fr.refl _) <;> decide
  refine ⟨congrArg (bits · 4 2) ((hmarks.rd (by decide) 0 0).trans (hwindows.rd (by decide) 0 0)), ?_,
    (State.sendDueMarks_portsCore _).trans hwindows.portsCore⟩
  have hbudget : _ = u.budget := hwindows.same .budget (by decide)
  exact Eq.trans (hmarks.same .budget (by decide)) hbudget

/-- A short stop in holdover with a reference selected ends holdover. -/
theorem State.stopEnded_leaves {s : State} {us : Nat} (hhold : s.refs.holdSince.isSome = true) (hsel : s.selected ≠ 0) :
    s.stopEnded us = (s.resumed us).endHoldover := by
  have hsel' : (s.resumed us).selected ≠ 0 := (s.resumed_keeps us).1 ▸ hsel
  have hhold' : (s.resumed us).refs.holdSince.isSome = true := by rw [State.resumed_refs]; exact hhold
  have hcond : ((s.resumed us).refs.holdSince.isSome && (s.resumed us).selected != 0) = true := by
    simp [hhold', hsel']
  exact if_pos hcond

/-- With nothing of a port or of the exchange held, the end of a short stop that leaves none behind carries nothing out. -/
theorem ctlShortStopEnd_nothing_held {us : Nat} {s u : State} (hstop : s.refs.shortStop = true) (hended : s.stopEnded us = u)
    (hgoes : u.refs.shortStop = false) (hdue : u.budget.due = false) (hrx : u.budget.rx = []) (hhost : u.ports.hostHeld = [])
    (hep : u.ports.epq = []) (hsy : u.ports.syHeld = []) : exec (.ctlShortStopEnd us) s = .next u := by
  have hround : u.dueRound = u := by rw [State.dueRound, hdue, State.when_false]
  have hbudget : ({ u.budget with rx := [] } : Bx) = u.budget := by rw [← hrx]
  have hframes : u.framesOut = u := by
    unfold State.framesOut
    rw [hrx, hbudget]
    rfl
  have hports : ({ u.ports with syHeld := [] } : Ports) = u.ports := by rw [← hsy]
  have hsync : u.syOut = u := by
    unfold State.syOut
    rw [hsy, hports]
    rfl
  have hportsH : ({ u.ports with hostHeld := [] } : Ports) = u.ports := by rw [← hhost]
  have hheld : u.hostHeldOut = u := by
    unfold State.hostHeldOut
    rw [hgoes, Bool.not_false, State.when_true]
    dsimp only
    rw [hhost, hportsH]
    rfl
  change execCtlShortStopEnd us s = _
  unfold execCtlShortStopEnd
  dsimp only
  rw [hstop, State.when_true, hended, hround, hframes, hgoes, Bool.not_false, State.when_true, hsync, State.epOut_empty hep,
    hheld]

/-- The end of a short stop in holdover with a reference selected, nothing being held. -/
theorem ctlShortStopEnd_leaves_holdover {us : Nat} {s : State} (hstop : s.refs.shortStop = true)
    (hdue : s.budget.due = false) (hrx : s.budget.rx = []) (hhost : s.ports.hostHeld = []) (hep : s.ports.epq = [])
    (hsy : s.ports.syHeld = []) (hhold : s.refs.holdSince.isSome = true) (hsel : s.selected ≠ 0) :
    exec (.ctlShortStopEnd us) s = .next (s.resumed us).endHoldover := by
  obtain ⟨-, hbudget, hcore⟩ := s.resumed_keeps us
  have hend : State.Keeps [] [.budget, .ports] (s.resumed us) (s.resumed us).endHoldover := by
    apply State.endHoldover_frame (h := Fr.refl _) <;> decide
  have hbudget' : (s.resumed us).endHoldover.budget = s.budget := Eq.trans (hend.same .budget (by decide)) hbudget
  have hcore' : (s.resumed us).endHoldover.portsCore = s.portsCore := hend.portsCore.trans hcore
  refine ctlShortStopEnd_nothing_held hstop (State.stopEnded_leaves hhold hsel) ?_ (hbudget' ▸ hdue) (hbudget' ▸ hrx) ?_ ?_ ?_
  · rw [(s.resumed us).endHoldover_effect.1, State.resumed_refs]
  · exact (congrArg Ports.hostHeld hcore' :).trans hhost
  · exact (congrArg Ports.epq hcore' :).trans hep
  · exact (congrArg Ports.syHeld hcore' :).trans hsy

/-! ### A reference that qualifies (R201, R210) -/

/-- The block once reference `b` has qualified. -/
def State.qualified (s : State) (b : Bool) : State :=
  (((s.setQual b none).setFlag .REF_STATUS b.toNat true).setReady (refRdy b) true).setInjLoss b none

/-- Qualifying leaves holdover, its relock, the short stop and the selection as they are. -/
theorem State.qualified_refs (s : State) (b : Bool) :
    (s.qualified b).refs.holdSince = s.refs.holdSince ∧ (s.qualified b).refs.relockAt = s.refs.relockAt
      ∧ (s.qualified b).refs.shortStop = s.refs.shortStop := by
  cases b
  · exact ⟨rfl, rfl, rfl⟩
  · exact ⟨rfl, rfl, rfl⟩

theorem State.qualified_selected (s : State) (b : Bool) : (s.qualified b).selected = s.selected := by
  have hfield : ∀ (t : State) {i : Nat} (v : Bool), i < 4 → (t.setFlag .REF_STATUS i v).selected = t.selected := fun t i v hi => by
    have hcut : bits (setBit (t.rd .REF_STATUS) i v % 2 ^ objBits .REF_STATUS) 4 2 = bits (setBit (t.rd .REF_STATUS) i v) 4 2 :=
      bits_mod (by decide)
    rw [State.selected, State.setFlag, State.rd_wr_self, hcut]
    exact bits_setBits_other (by omega)
  have hready : ∀ (t : State) r v, (t.setReady r v).selected = t.selected := fun t r v =>
    congrArg (bits · 4 2) (State.rd_setReady t r v (by decide) 0 0)
  have hlit : ∀ (t : State) q, (t.setInjLoss b q).selected = t.selected := fun t q =>
    congrArg (bits · 4 2) (State.rd_congr rfl rfl _ _ _)
  have hqual : (s.setQual b none).selected = s.selected :=
    (hfield _ _ (by cases b <;> decide)).trans (congrArg (bits · 4 2) (State.rd_congr rfl rfl _ _ _))
  rw [State.qualified, hlit, hready, hfield _ _ (by cases b <;> decide), hqual]

/-- A reference that qualifies in holdover, with the relock past and CTL running, is left for. -/
theorem refQualified_leaves_holdover {b : Bool} {t0 : Nat} {s : State} (hqual : s.qualOf b = some t0)
    (htime : t0 + s.qualTime ≤ s.up) (hnew : s.refValid b = false) (hhold : s.refs.holdSince.isSome = true)
    (hsel : s.selected = 0) (hrelock : s.refs.relockAt = none) (hstop : s.refs.shortStop = false) :
    exec (.refQualified b) s = .next ((s.qualified b).leaveHoldover b) := by
  obtain ⟨hhold', hrelock', hstop'⟩ := s.qualified_refs b
  have hsel' := s.qualified_selected b
  change execRefQualified b s = _
  unfold execRefQualified
  rw [hqual]
  dsimp only
  rw [decide_eq_true htime, hnew, Bool.not_false, Bool.and_true, State.when_true]
  have hleaves : ((s.qualified b).refs.holdSince.isSome && (s.qualified b).selected == 0) = true := by
    rw [hhold', hsel', hhold, hsel]
    rfl
  have hnow : ((s.qualified b).refs.relockAt.isNone && !(s.qualified b).refs.shortStop) = true := by
    rw [hrelock', hstop', hrelock, hstop]
    rfl
  exact congrArg Host.Outcome.next ((if_pos hleaves).trans (if_pos hnow))

/-- Settles O36: the relock and the exit begin short stops, the end of a stop with a reference selected ends holdover, and
bringing a group to a ceiling gives it no holdover ceiling. -/
theorem holdoverEndsInOrder : Obligations.HoldoverEndsInOrder := by
  unfold Obligations.HoldoverEndsInOrder
  refine ⟨?_, ?_, ?_, ?_⟩
  · intro t0 s hrelock hdue
    refine ⟨({ s with refs := { s.refs with relockAt := none } } : State).beginStop, ?_, rfl, rfl⟩
    change execHoldoverRelock s = _
    unfold execHoldoverRelock
    rw [hrelock]
    dsimp only
    rw [decide_eq_true hdue, State.when_true]
  · intro b t0 s hqual htime hnew hhold hsel hrelock hstop
    obtain ⟨hselected, hshort, hsuppress⟩ := (s.qualified b).leaveHoldover_effect b
    refine ⟨_, refQualified_leaves_holdover hqual htime hnew hhold hsel hrelock hstop, hselected, hshort, ?_⟩
    cases b <;> exact hsuppress
  · intro us s hstop hdue hrx hhost hep hsy hhold hsel
    obtain ⟨hshort, hsince, hbits⟩ := (s.resumed us).endHoldover_effect
    refine ⟨_, ctlShortStopEnd_leaves_holdover hstop hdue hrx hhost hep hsy hhold hsel, ?_, hsince, hbits⟩
    rw [hshort, State.resumed_refs]
  · intro g s hceil hhold hgone
    have hall : ((s.groupRegions g).all fun n => !s.clocked n || !s.osc n .hold) = true := by
      rw [List.all_eq_true]
      intro n hn
      cases hclk : s.clocked n
      · rfl
      · simp [hgone n hn hclk]
    refine ⟨(s.modG g fun x => { x with holdCeil := none }).retarget g, ?_, ?_⟩
    · change execHoldoverCeilingRemove g s = _
      unfold execHoldoverCeilingRemove
      rw [hceil, hhold, hall]
      rfl
    · rw [State.retarget_holdCeil, State.g_modG_self]

end Sys2Proof.Machine
end

section
/-! SUPPORT. Writes of the rows of single objects that pass their checks (R14, R446): where they are carried out, and what
they leave beside their effect. -/

namespace Sys2Proof.Machine
open Sys2Proof

/-! ### The state on which the write is carried out -/

/-- The state on which a port carries out a write of source `src`: the host port has counted the request. -/
def State.writeBase (s : State) (src : Src) : State := if src = .host then s.inc .HP_REQUESTS else s

/-- The host port's count alone lies between the two. -/
theorem State.writeBase_fr (s : State) (src : Src) : Fr (· = .HP_REQUESTS) (fun _ => False) s (s.writeBase src) := by
  unfold State.writeBase
  split
  · exact State.inc_frame rfl (Fr.refl s)
  · exact Fr.refl s

section
variable {s t : State} (h : Fr (· = .HP_REQUESTS) (fun _ => False) s t)
include h

theorem State.on_of_fr {o : Obj} (ho : o ≠ .HP_REQUESTS) (e : Nat) : t.on o e = s.on o e :=
  congrArg (· == 1) (h.obj o e 0 ho)

theorem State.present_of_fr : t.present = s.present := by
  funext n
  rw [State.present, State.numRegions, h.obj _ _ _ (by decide), State.on_of_fr h (by decide)]
  rfl

theorem State.groups_of_fr : t.groups = s.groups := congrArg List.range (h.obj _ _ _ (by decide))

theorem State.groupOf_of_fr (f : Nat) : t.groupOf f = s.groupOf f := h.obj _ _ _ (by decide)

theorem State.tethered_of_fr (n : Nat) : t.tethered n = s.tethered n := by
  have hnext : t.neighbour = s.neighbour := by
    funext k e
    rw [State.neighbour, State.neighbour, h.obj _ _ _ (by decide), h.obj _ _ _ (by decide)]
  have hcells : t.c = s.c := by
    funext k e
    exact congrArg (fun c : Tab Cell => c.get (4 * k + e) {}) (h.part .cell id :)
  rw [State.tethered, State.tethered, hnext, hcells]

theorem State.sharesOk_of_fr (e v : Nat) : t.sharesOk e v = s.sharesOk e v := by
  have hshare : (fun k => t.rd .GROUP_SHARE k) = fun k => s.rd .GROUP_SHARE k := funext fun k => h.obj _ _ _ (by decide)
  rw [State.sharesOk, State.groups_of_fr h, hshare]
  rfl

theorem State.targetOk_of_fr (n v : Nat) : t.targetOk n v = s.targetOk n v := by
  rw [State.targetOk, State.tethered_of_fr h, State.on_of_fr h (by decide), State.on_of_fr h (by decide),
    State.groupOf_of_fr h, State.groups_of_fr h, h.obj .GROUP_N _ _ (by decide)]
  rfl

theorem State.groupFields_of_fr (g : Nat) : t.groupFields g = s.groupFields g := by
  have hgroup : t.groupOf = s.groupOf := funext (State.groupOf_of_fr h)
  rw [State.groupFields, State.fields, h.obj _ _ _ (by decide), hgroup]
  rfl

theorem State.domainRegions_of_fr (d : Nat) : t.domainRegions d = s.domainRegions d := by
  rw [State.domainRegions, State.present_of_fr h, h.obj _ _ _ (by decide), h.obj _ _ _ (by decide)]
  rfl

theorem State.elemExists_of_fr (o : Obj) (e : Nat) : t.elemExists o e = s.elemExists o e := by
  have hcount : ∀ k, t.elemCount k = s.elemCount k := fun k => by
    cases k <;> simp [State.elemCount, h.obj]
  rw [State.elemExists, hcount, State.present_of_fr h]
  rfl

theorem State.rightsOf_of_fr (o : Obj) : t.rightsOf o = s.rightsOf o := by
  simp [State.rightsOf, State.remoteMail, h.obj]

theorem State.classOf_of_fr (src : Src) : t.classOf src = s.classOf src := by
  cases src <;> simp [State.classOf, State.on, h.obj]

theorem State.hasRight_of_fr (o : Obj) (src : Src) (write : Bool) : t.hasRight o src write = s.hasRight o src write := by
  simp [State.hasRight, State.rightsOf_of_fr h, State.classOf_of_fr h]

theorem State.needsUnlock_of_fr (o : Obj) (src : Src) (write : Bool) : t.needsUnlock o src write = s.needsUnlock o src write := by
  simp [State.needsUnlock, State.rightsOf_of_fr h, State.on, h.obj]

theorem State.objReady_of_fr (o : Option Obj) : t.objReady o = s.objReady o := by
  simp [State.objReady, State.isReady, State.flag, h.obj]

theorem State.poweredOk_of_fr (o : Obj) (e : Nat) : t.poweredOk o e = s.poweredOk o e := by
  have hdom : t.dom = s.dom := h.part .dom id
  simp [State.poweredOk, State.routerOn, State.domainOf, State.d, h.obj, h.build, hdom]

end

/-- The objects of the groups, of regions and of domains whose rows are writes. -/
def groupWrites : List Obj :=
  [.GROUP_SHARE, .OP_TABLE, .FIXED_RATE_ENABLE, .FIXED_RATE_N, .REGION_TARGET_N, .RUN_CTL, .REGION_PARTITION, .DOMAIN_TARGET]

section
variable {s t : State} (h : Fr (· = .HP_REQUESTS) (fun _ => False) s t) {o : Obj} (ho : o ∈ groupWrites)
include h ho

theorem State.rangeOk_of_fr (e i v : Nat) (net : Bool) : t.rangeOk o e i v net = s.rangeOk o e i v net := by
  have hexcluded : (fun n => t.on .REGION_EXCLUDED_ACTIVE n) = fun n => s.on .REGION_EXCLUDED_ACTIVE n :=
    funext fun n => State.on_of_fr h (by decide) n
  have hbounds : t.boundsOk o e i v net = s.boundsOk o e i v net := by
    simp only [groupWrites, List.mem_cons, List.not_mem_nil, or_false] at ho
    rcases ho with rfl | rfl | rfl | rfl | rfl | rfl | rfl | rfl
    · exact State.sharesOk_of_fr h e v
    · simp [State.boundsOk, h.obj]
    · rfl
    · simp [State.boundsOk, h.obj]
    · exact State.targetOk_of_fr h e v
    · simp [State.boundsOk, State.groupFields_of_fr h]
    · simp [State.boundsOk, h.obj]
    · simp [State.boundsOk, State.domainRegions_of_fr h, hexcluded]
  rw [State.rangeOk, hbounds]
  rfl

theorem State.busyOf_of_fr (e v : Nat) : t.busyOf o e v = s.busyOf o e v := by
  have hgrp : t.grp = s.grp := h.part .grp id
  have hstop : t.stop = s.stop := h.part .stop id
  simp only [groupWrites, List.mem_cons, List.not_mem_nil, or_false] at ho
  rcases ho with rfl | rfl | rfl | rfl | rfl | rfl | rfl | rfl <;> simp [State.busyOf, State.g, hgrp, hstop]

theorem State.checkWrite_of_fr (a : Access) (i : Nat) : t.checkWrite a o i = s.checkWrite a o i := by
  have hlife : t.lifecycleOk o a.val = s.lifecycleOk o a.val := by
    simp only [groupWrites, List.mem_cons, List.not_mem_nil, or_false] at ho
    rcases ho with rfl | rfl | rfl | rfl | rfl | rfl | rfl | rfl <;> simp [State.lifecycleOk, h.obj]
  have hnot : o ≠ .LC_REQUEST := by
    rintro rfl
    exact absurd ho (by decide)
  simp [State.checkWrite, State.objReady_of_fr h, State.elemExists_of_fr h, State.rightsOf_of_fr h, State.hasRight_of_fr h,
    State.needsUnlock_of_fr h, hlife, State.rangeOk_of_fr h ho, State.poweredOk_of_fr h, State.missing, State.internalErr, hnot]

end

end Sys2Proof.Machine
end

section
/-! What accepted writes of groups, regions and domains do (R174, R258, R267, R285, R340, R351). -/

namespace Sys2Proof.Machine
open Sys2Proof

/-! ### What a carried-out write leaves beside its effect (R436, R441) -/

/-- The answer to a row of its own that is carried out is the code OK. -/
theorem State.reply_direct_status {s : State} {a : Access} {known : Option (Obj × Nat)} (hv : a.via = .direct) :
    (s.reply a .ok known).dict.answer.status = Code.ok.num := by
  unfold State.reply State.replyVal
  rw [hv]
  dsimp only
  by_cases hsrc : a.src = .host
  · rw [if_pos hsrc]
    rfl
  · rw [if_neg hsrc]

/-- The parts that a write may change beside those of its effect: the audit log, the Dictionary Engine, what its answer goes to. -/
def answerParts : List Part := [.dict, .fon, .ports, .budget, .idx, .fdp]

/-- The objects that a write may change beside those of its effect. -/
def answerObjs : List Obj :=
  auditObjs ++ [.BX_DIRECTIVES, .FB_BUSY_ANSWERS, .FB_MALFORMED, .FB_TX_DROPPED, .FB_TX_FRAMES, .HP_DENIED, .HP_ERRORS,
    .HP_LAST_STATUS, .HP_NOTREADY]

/-- An answer leaves the counts of the audit log. -/
theorem State.reply_auditOk (s : State) (a : Access) (c : Code) (known : Option (Obj × Nat)) (k : Nat) :
    (s.reply a c known).rd .AUDIT_OK 0 k = s.rd .AUDIT_OK 0 k := by
  have hkeeps : State.Keeps [.AUDIT_OK] [] s (s.reply a c known) := by
    apply State.reply_frame (h := Fr.refl s) <;> decide
  exact hkeeps.rd (by decide) 0 k

/-- A record of an accepted write is counted for its class. -/
theorem State.auditWrite_auditOk (s : State) (p : Attempt) (changed : Bool) :
    (s.auditWrite p .ok changed).rd .AUDIT_OK 0 p.cls = satAdd (objBits .AUDIT_OK) (s.rd .AUDIT_OK 0 p.cls) 1 := by
  have hat : ∀ (t : State) at0 r, (t.auditAt at0 r).rd .AUDIT_OK 0 p.cls = t.rd .AUDIT_OK 0 p.cls := fun t at0 r => by
    have hkeeps : State.Keeps [.AUDIT_OK] [] t (t.auditAt at0 r) := by
      apply State.auditAt_frame (h := Fr.refl t) <;> decide
    exact hkeeps.rd (by decide) 0 p.cls
  have hcount : ∀ (t : State) d, ({ t with dict := d } : State).rd .AUDIT_OK 0 p.cls = t.rd .AUDIT_OK 0 p.cls :=
    fun t d => State.rd_congr rfl rfl _ _ _
  rw [State.auditWrite, hat, State.auditCount]
  exact (State.rd_inc_self _ _ _ _).trans (congrArg (satAdd _ · 1) (hcount _ _))

/-- A write row that is carried out is answered OK and counted for the class of its source; beside that its effect stands. -/
theorem State.finishWrite_row {s : State} {a : Access} {o : Obj} {i : Nat} (hv : a.via = .direct) :
    ∃ t, s.finishWrite a o i (s.attempt a (some (o, i))) = t
      ∧ t.dict.answer.status = Code.ok.num
      ∧ t.rd .AUDIT_OK 0 (s.classOf a.src)
          = satAdd (objBits .AUDIT_OK) ((s.effect o a.el i (a.val % 2 ^ objBits o)).rd .AUDIT_OK 0 (s.classOf a.src)) 1
      ∧ Fr (· ∈ answerObjs) (· ∈ answerParts) (s.effect o a.el i (a.val % 2 ^ objBits o)) t := by
  refine ⟨_, rfl, State.reply_direct_status hv, ?_, ?_⟩
  · have hnoted : ∀ (u : State) (b : Bool), ((u.noteWritten o a.el i).when b fun t => t.dirty o a.el i).rd .AUDIT_OK 0 (s.classOf a.src)
        = u.rd .AUDIT_OK 0 (s.classOf a.src) := fun u b => by
      have hfr : Fr (fun _ => False) (fun _ => True) u ((u.noteWritten o a.el i).when b fun t => t.dirty o a.el i) :=
        State.when_kept (State.noteWritten_frame trivial (Fr.refl u)) fun t ht => State.dirty_frame trivial ht
      exact hfr.obj _ _ _ id
    refine (State.reply_auditOk _ _ _ _ _).trans ?_
    refine (State.auditWrite_auditOk _ (s.attempt a (some (o, i))) _).trans ?_
    exact congrArg (satAdd _ · 1) (hnoted _ _)
  · refine State.reply_frame (by decide) (by decide) (by decide) (by decide) (by decide) (by decide) (by decide) (by decide)
      (by decide) (by decide) (by decide) (by decide) (by decide) (by decide) ?_
    refine State.auditWrite_frame (by decide) (by decide) (by decide) (by decide) (by decide) (by decide) ?_
    refine State.when_kept ?_ fun t ht => State.dirty_frame (by decide) ht
    exact State.noteWritten_frame (by decide) (Fr.refl _)

/-- An accepted write of such an object's row is answered OK and counted; beside that, what storing it on the state of its port
gives stands. -/
theorem State.submit1_accepted {s : State} {o : Obj} {w : Wr} (ho : o ∈ groupWrites) (h : s.Accepts o 0 w)
    (hkeeps : ∀ u : State, State.Keeps [.AUDIT_OK] [] u (u.store o w.el 0 (w.val % 2 ^ objBits o))) :
    s.WroteOk (s.submit1 o w) w
      ∧ Fr (· ∈ answerObjs) (· ∈ answerParts) ((s.writeBase w.src).store o w.el 0 (w.val % 2 ^ objBits o)) (s.submit1 o w) := by
  obtain ⟨hadmits, hobj, hbusy, hcheck, hremote, hflips⟩ := h
  have hbase := s.writeBase_fr w.src
  have hinj : (s.writeBase w.src).inj = s.inj := hbase.part .inj id
  have hpasses : (s.writeBase w.src).Passes (writeOf o 0 w) o 0 := by
    refine ⟨hobj, (State.busyOf_of_fr hbase ho _ _).trans hbusy, (State.checkWrite_of_fr hbase ho _ _).trans hcheck, ?_, ?_⟩
    · exact (congrArg (·.remote.contains o.ctorIdx) hbase.build).trans hremote
    · rw [hinj, hflips]
  have hstored : (s.writeBase w.src).effect o w.el 0 (w.val % 2 ^ objBits o)
      = (s.writeBase w.src).store o w.el 0 (w.val % 2 ^ objBits o) := by
    refine State.effect_store ?_
    have hnone : ∀ o ∈ groupWrites, isCommand o = false := by decide
    exact hnone o ho
  have hsubmit : s.submit1 o w = (s.writeBase w.src).decideWrite (writeOf o 0 w) := by
    unfold State.submit1 State.submitWrite State.writeBase
    by_cases hsrc : w.src = .host
    · obtain ⟨htakes, hctl⟩ := hadmits hsrc
      have htaken : s.hostTaken = s.inc .HP_REQUESTS := State.shiftWords_no_flips (s := s.inc .HP_REQUESTS) hflips
      have hctl' : (s.inc .HP_REQUESTS).isReady .ctl = true := htaken ▸ (s.hostTaken_isReady .ctl).trans hctl
      refine (if_pos hsrc).trans ((State.hostIn_served htakes).trans ?_)
      rw [if_pos hsrc]
      rw [htaken]
      exact (if_pos hctl').trans (if_pos rfl)
    · rw [if_neg hsrc]
      exact if_neg hsrc
  obtain ⟨t, ht, hstatus, hcount, hfr⟩ := State.finishWrite_row (s := s.writeBase w.src) (a := writeOf o 0 w) (o := o) (i := 0) rfl
  have hdone : s.submit1 o w = t := hsubmit.trans ((State.decideWrite_carried hpasses).trans ht)
  have hclass : (s.writeBase w.src).classOf (writeOf o 0 w).src = s.classOf w.src := State.classOf_of_fr hbase _
  rw [hdone]
  refine ⟨⟨hstatus, ?_⟩, hstored ▸ hfr⟩
  rw [hclass] at hcount
  refine hcount.trans (congrArg (satAdd _ · 1) ?_)
  refine (congrArg (fun u : State => u.rd .AUDIT_OK 0 (s.classOf w.src)) hstored).trans ?_
  exact ((hkeeps _).rd (by decide) _ _).trans (hbase.obj _ _ _ (by decide))

end Sys2Proof.Machine
end

section
/-! What accepted writes of groups, regions and domains do (R174, R258, R267, R285, R340, R351). -/

namespace Sys2Proof.Machine
open Sys2Proof

/-! ### What each store leaves -/

theorem State.store_keeps_auditOk {s : State} {o : Obj} {e v : Nat} (ho : o ∈ groupWrites) :
    State.Keeps [.AUDIT_OK] [] s (s.store o e 0 v) := by
  simp only [groupWrites, List.mem_cons, List.not_mem_nil, or_false] at ho
  rcases ho with rfl | rfl | rfl | rfl | rfl | rfl | rfl | rfl
  · change State.Keeps [.AUDIT_OK] [] s (s.wrHeld .GROUP_SHARE v e 0)
    exact State.wrHeld_frame (by decide) (by decide) (Fr.refl s)
  · apply State.writeTable_frame (h := Fr.refl s) <;> decide
  · apply State.writeFixed_frame (h := Fr.refl s) <;> decide
  · have hnoted : State.Keeps [.AUDIT_OK] [] s ((s.when (v != s.rd .FIXED_RATE_N e) fun t => t.noteFixed e).wr .FIXED_RATE_N v e) :=
      State.wr_frame (by decide) (State.when_kept (Fr.refl s) fun t ht => State.noteFixed_frame (by decide) ht)
    apply State.retarget_frame (h := hnoted) <;> decide
  · have hwritten : State.Keeps [.AUDIT_OK] [] s (s.wr .REGION_TARGET_N v e) := State.wr_frame (by decide) (Fr.refl s)
    apply State.acceptStop_frame (h := hwritten) <;> decide
  · apply State.writeRun_frame (h := Fr.refl s) <;> decide
  · change State.Keeps [.AUDIT_OK] [] s (s.wrHeld .REGION_PARTITION v e 0)
    exact State.wrHeld_frame (by decide) (by decide) (Fr.refl s)
  · apply State.submitTarget_frame (h := Fr.refl s) <;> decide

theorem State.retarget_occ_none {s : State} {g k : Nat} (h : (s.g k).occ = none) : ((s.retarget g).g k).occ = none :=
  (s.retarget_steps g k).2 h

theorem State.opTableNow_of_fr {s t : State} (h : Fr (· = .HP_REQUESTS) (fun _ => False) s t) (g : Nat) :
    t.opTableNow g = s.opTableNow g := by
  have hgrp : t.grp = s.grp := h.part .grp id
  rw [State.opTableNow, State.g, hgrp, h.obj _ _ _ (by decide)]
  rfl

/-- A write of OP_TABLE leaves the table in force in force. -/
theorem State.writeTable_effect (s : State) (g v : Nat) :
    (s.writeTable g v).rd .OP_TABLE g = v % 2 ^ objBits .OP_TABLE ∧ ((s.writeTable g v).g g).table = some (s.opTableNow g) := by
  refine ⟨(State.rd_wr_other _ (by decide) _ _ _ _ _).trans (State.rd_wr_self _ _ _ _ _), ?_⟩
  exact congrArg Grp.table (State.g_modG_self s g fun x => { x with table := some (s.opTableNow g) } :)

/-- A group whose occurrence has been discarded has none. -/
theorem State.discardOcc_occ (s : State) (g : Nat) : ((s.discardOcc g).g g).occ = none := by
  unfold State.discardOcc
  split
  · next h => exact Option.isNone_iff_eq_none.1 h
  · exact congrArg Grp.occ (State.g_modG_self s g fun x => { x with occ := none } :)

theorem State.showCapFlags_fixed {s : State} {g : Nat} (hg : g < s.rd .NUM_GROUPS) (hon : s.rd .FIXED_RATE_ENABLE g = 1) :
    s.showCapFlags.flag .CAP_STATUS 7 = true := by
  have hany : (s.groups.any fun g => s.on .FIXED_RATE_ENABLE g) = true :=
    List.any_eq_true.2 ⟨g, List.mem_range.2 hg, by rw [State.on, hon]; rfl⟩
  exact (State.flag_setFlag_self _ _ _ (by decide)).trans hany

/-- A write of FIXED_RATE_ENABLE to an implemented group. -/
theorem State.writeFixed_effect {s : State} {g v : Nat} (hg : g < s.rd .NUM_GROUPS) :
    (s.writeFixed g v).rd .FIXED_RATE_ENABLE g = v % 2 ^ objBits .FIXED_RATE_ENABLE
      ∧ (v = 1 → ((s.writeFixed g v).g g).occ = none ∧ (s.writeFixed g v).flag .CAP_STATUS 7 = true) := by
  have hstored : State.Keeps [.NUM_GROUPS] [] s ((s.noteFixed g).wr .FIXED_RATE_ENABLE v g) :=
    State.wr_frame (by decide) (State.noteFixed_frame (by decide) (Fr.refl s))
  have hread : ((s.noteFixed g).wr .FIXED_RATE_ENABLE v g).rd .FIXED_RATE_ENABLE g = v % 2 ^ objBits .FIXED_RATE_ENABLE :=
    State.rd_wr_self _ _ _ _ _
  unfold State.writeFixed
  generalize ((s.noteFixed g).wr .FIXED_RATE_ENABLE v g) = u at hstored hread ⊢
  have hdiscard : State.Keeps [.NUM_GROUPS, .FIXED_RATE_ENABLE] [] u (u.when (v == 1) fun t => t.discardOcc g) :=
    State.when_kept (Fr.refl u) fun t ht => State.discardOcc_frame (by decide) (by decide) (by decide) ht
  have hocc : v = 1 → ((u.when (v == 1) fun t => t.discardOcc g).g g).occ = none := fun hv => by
    rw [hv]
    exact u.discardOcc_occ g
  generalize (u.when (v == 1) fun t => t.discardOcc g) = d at hdiscard hocc ⊢
  have htarget : State.Keeps [.NUM_GROUPS, .FIXED_RATE_ENABLE] [] u (d.retarget g) := by
    apply State.retarget_frame (h := hdiscard) <;> decide
  have hflags : State.Keeps [.FIXED_RATE_ENABLE] [.grp] (d.retarget g) (d.retarget g).showCapFlags :=
    State.showCapFlags_frame (by decide) (Fr.refl _)
  refine ⟨(hflags.rd (by decide) _ _).trans ((htarget.rd (by decide) _ _).trans hread), fun hv => ⟨?_, ?_⟩⟩
  · exact (congrArg (fun l : Tab Grp => (l.get g {}).occ) (hflags.same .grp (by decide))).trans (State.retarget_occ_none (hocc hv))
  · refine State.showCapFlags_fixed (g := g) ?_ ?_
    · rwa [htarget.rd (by decide), hstored.rd (by decide)]
    · rw [htarget.rd (by decide), hread, hv]
      rfl

/-- A write of FIXED_RATE_N stores its value. -/
theorem State.storeFixedN_effect (s : State) (g v : Nat) :
    (s.store .FIXED_RATE_N g 0 v).rd .FIXED_RATE_N g = v % 2 ^ objBits .FIXED_RATE_N := by
  have htarget : ∀ t : State, State.Keeps [.FIXED_RATE_N] [] t (t.retarget g) := fun t => by
    apply State.retarget_frame (h := Fr.refl t) <;> decide
  exact ((htarget _).rd (by decide) _ _).trans (State.rd_wr_self _ _ _ _ _)

/-- A write of DOMAIN_TARGET stores its value. -/
theorem State.submitTarget_effect (s : State) (d v : Nat) :
    (s.submitTarget d v).rd .DOMAIN_TARGET d = v % 2 ^ objBits .DOMAIN_TARGET := by
  have hplaces : ∀ t : State, State.Keeps [.DOMAIN_TARGET] [] t t.fillPlaces := fun t => by
    apply State.fillPlaces_frame (h := Fr.refl t) <;> decide
  refine ((hplaces _).rd (by decide) _ _).trans ?_
  refine (State.rd_congr rfl rfl _ _ _).trans (State.rd_wr_self s _ _ _ _)

/-- A request for a region stop is the stop in progress, or waits behind it. -/
theorem State.acceptStop_stop (s : State) (n v : Nat) :
    (s.stop.cur = none → (s.acceptStop n v).stop.cur = some { region := n, target := v })
      ∧ ∀ x, s.stop.cur = some x → (s.acceptStop n v).stop.cur = some x ∧ (s.acceptStop n v).stop.waiting = some (n, v) := by
  unfold State.acceptStop State.setStop
  refine ⟨fun h => ?_, fun x h => ?_⟩
  · rw [h]
    rfl
  · rw [h]
    exact ⟨h, rfl⟩

/-! ### The statement -/

/-- What passes the checks of a write names an element that exists. -/
theorem State.elemExists_of_checkWrite {s : State} {a : Access} {o : Obj} {i : Nat} (h : s.checkWrite a o i = none) :
    s.elemExists o a.el = true := by
  by_contra hnone
  rw [State.checkWrite, Bool.eq_false_iff.2 hnone, if_pos rfl] at h
  split at h <;> cases h

/-- What an accepted write of such an object's row leaves: the answer, the objects and parts as its store left them. -/
theorem State.submit1_stores {s : State} {o : Obj} {w : Wr} (ho : o ∈ groupWrites) (h : s.Accepts o 0 w) :
    s.WroteOk (s.submit1 o w) w
      ∧ Fr (· ∈ answerObjs) (· ∈ answerParts) ((s.writeBase w.src).store o w.el 0 (w.val % 2 ^ objBits o)) (s.submit1 o w) :=
  State.submit1_accepted ho h fun _ => State.store_keeps_auditOk ho

/-- Settles O38: each write is carried out on the state of its port, and what its store leaves stands beside the audit log and
the answer. -/
theorem groupWritesTakeEffect : Obligations.GroupWritesTakeEffect := by
  unfold Obligations.GroupWritesTakeEffect
  refine ⟨?_, ?_, ?_, ?_, ?_, ?_, ?_, ?_, ?_⟩
  · intro w s h
    obtain ⟨hok, hfr⟩ := State.submit1_stores (by decide) h
    refine ⟨_, rfl, hok, (hfr.obj _ _ _ (by decide)).trans ?_, ?_⟩
    · refine (State.rd_wrHeld _ _ _ _ _ _ _ _).trans ?_
      rw [if_pos ⟨rfl, rfl, rfl⟩, Nat.mod_mod]
    · have hcaps : ((s.writeBase w.src).wrHeld .GROUP_SHARE (w.val % 2 ^ objBits .GROUP_SHARE) w.el 0).caps = s.caps :=
        (State.wrHeld_caps _ _ _ _ _).trans ((s.writeBase_fr w.src).part .caps id)
      exact Eq.trans (hfr.part .caps (by decide)) hcaps
  · intro w s h
    obtain ⟨hok, hfr⟩ := State.submit1_stores (by decide) h
    obtain ⟨hread, htable⟩ := (s.writeBase w.src).writeTable_effect w.el (w.val % 2 ^ objBits .OP_TABLE)
    have hgrp : (s.submit1 .OP_TABLE w).grp = ((s.writeBase w.src).writeTable w.el (w.val % 2 ^ objBits .OP_TABLE)).grp :=
      hfr.part .grp (by decide)
    have hnow : (s.writeBase w.src).opTableNow w.el = s.opTableNow w.el := State.opTableNow_of_fr (s.writeBase_fr w.src) w.el
    refine ⟨_, rfl, hok, (hfr.obj _ _ _ (by decide)).trans (hread.trans (Nat.mod_mod _ _)), ?_⟩
    have hkept : ((s.submit1 .OP_TABLE w).g w.el).table = some (s.opTableNow w.el) := by
      rw [State.g, hgrp, ← hnow]
      exact htable
    rw [State.opTableNow, hkept, Option.getD_some]
  · intro w s h
    obtain ⟨hok, hfr⟩ := State.submit1_stores (by decide) h
    obtain ⟨-, -, -, hcheck, -⟩ := h
    have hel : w.el < s.rd .NUM_GROUPS := by
      have hexists := State.elemExists_of_checkWrite hcheck
      simpa [State.elemExists, writeOf, show (info .FIXED_RATE_ENABLE).elem = .group from rfl, State.elemCount] using hexists
    have hel' : w.el < (s.writeBase w.src).rd .NUM_GROUPS := by
      rwa [(s.writeBase_fr w.src).obj _ _ _ (by decide)]
    obtain ⟨hread, hone⟩ := State.writeFixed_effect (v := w.val % 2 ^ objBits .FIXED_RATE_ENABLE) hel'
    refine ⟨_, rfl, hok, (hfr.obj _ _ _ (by decide)).trans (hread.trans (Nat.mod_mod _ _)), fun hv => ?_⟩
    obtain ⟨hocc, hflag⟩ := hone hv
    have hgrp : (s.submit1 .FIXED_RATE_ENABLE w).grp
        = ((s.writeBase w.src).writeFixed w.el (w.val % 2 ^ objBits .FIXED_RATE_ENABLE)).grp := hfr.part .grp (by decide)
    refine ⟨?_, (State.flag_congr (hfr.obj _ _ _ (by decide)) 7).trans hflag⟩
    rw [State.g, hgrp]
    exact hocc
  · intro w s h
    obtain ⟨hok, hfr⟩ := State.submit1_stores (by decide) h
    have hread := (s.writeBase w.src).storeFixedN_effect w.el (w.val % 2 ^ objBits .FIXED_RATE_N)
    exact ⟨_, rfl, hok, (hfr.obj _ _ _ (by decide)).trans (hread.trans (Nat.mod_mod _ _))⟩
  · intro w s h
    obtain ⟨hok, hfr⟩ := State.submit1_stores (by decide) h
    generalize hv : w.val % 2 ^ objBits .REGION_TARGET_N = v at hfr ⊢
    obtain ⟨hfirst, hbehind⟩ := ((s.writeBase w.src).wr .REGION_TARGET_N v w.el).acceptStop_stop w.el v
    have hbase : ((s.writeBase w.src).wr .REGION_TARGET_N v w.el).stop = s.stop := (s.writeBase_fr w.src).part .stop id
    have hstop : (s.submit1 .REGION_TARGET_N w).stop
        = (((s.writeBase w.src).wr .REGION_TARGET_N v w.el).acceptStop w.el v).stop := hfr.part .stop (by decide)
    refine ⟨_, rfl, hok, (hfr.obj _ _ _ (by decide)).trans ?_, fun hnone => ?_, fun x hx => ?_⟩
    · have hread : (((s.writeBase w.src).wr .REGION_TARGET_N v w.el).acceptStop w.el v).rd .REGION_TARGET_N w.el
          = ((s.writeBase w.src).wr .REGION_TARGET_N v w.el).rd .REGION_TARGET_N w.el := by
        have hkeeps : State.Keeps [.REGION_TARGET_N] [] ((s.writeBase w.src).wr .REGION_TARGET_N v w.el)
            (((s.writeBase w.src).wr .REGION_TARGET_N v w.el).acceptStop w.el v) :=
          State.acceptStop_frame (by decide) (by decide) (Fr.refl _)
        exact hkeeps.rd (by decide) _ _
      refine hread.trans ((State.rd_wr_self _ _ _ _ _).trans ?_)
      rw [← hv, Nat.mod_mod]
    · rw [hstop]
      exact hfirst (hbase ▸ hnone)
    · rw [hstop]
      exact hbehind x (hbase ▸ hx)
  · intro w s h hval
    obtain ⟨hok, hfr⟩ := State.submit1_stores (by decide) h
    rw [hval] at hfr
    obtain ⟨hctl, hread⟩ := State.writeRun_asks (s := s.writeBase w.src) (g := w.el) (v := 1) (.inl rfl)
    have hgrp : (s.submit1 .RUN_CTL w).grp = ((s.writeBase w.src).writeRun w.el 1).grp := hfr.part .grp (by decide)
    refine ⟨s.submit1 .RUN_CTL w, ?_, hok, ?_, (hfr.obj _ _ _ (by decide)).trans hread⟩
    · change execRunStart w s = _
      rw [execRunStart, hval]
      rfl
    · rw [State.g, hgrp]
      exact hctl
  · intro w s h hval
    obtain ⟨hok, hfr⟩ := State.submit1_stores (by decide) h
    rw [hval] at hfr
    have hgrp : (s.submit1 .RUN_CTL w).grp = ((s.writeBase w.src).writeRun w.el 2).grp := hfr.part .grp (by decide)
    have hbase : (s.writeBase w.src).g w.el = s.g w.el :=
      congrArg (fun l : Tab Grp => l.get w.el {}) ((s.writeBase_fr w.src).part .grp id :)
    refine ⟨s.submit1 .RUN_CTL w, ?_, hok, ?_⟩
    · change execRunStop w s = _
      rw [execRunStop, hval]
      rfl
    · split
      · next hrun =>
        obtain ⟨hctl, hread⟩ := State.writeRun_asks (s := s.writeBase w.src) (g := w.el) (v := 2) (.inr (hbase ▸ hrun))
        refine ⟨?_, (hfr.obj _ _ _ (by decide)).trans hread⟩
        rw [State.g, hgrp]
        exact hctl
      · next hrun =>
        have hidle : (s.writeBase w.src).writeRun w.el 2 = s.writeBase w.src := by
          rw [State.writeRun, hbase, Bool.eq_false_iff.2 hrun]
          rfl
        rw [State.g, hgrp, hidle]
        exact hbase
  · intro w s h
    obtain ⟨hok, hfr⟩ := State.submit1_stores (by decide) h
    refine ⟨_, rfl, hok, (hfr.obj _ _ _ (by decide)).trans ?_, ?_⟩
    · refine (State.rd_wrHeld _ _ _ _ _ _ _ _).trans ?_
      rw [if_pos ⟨rfl, rfl, rfl⟩, Nat.mod_mod]
    · have henergy : ((s.writeBase w.src).wrHeld .REGION_PARTITION (w.val % 2 ^ objBits .REGION_PARTITION) w.el 0).energy
          = s.energy := (State.wrHeld_energy _ _ _ _ _).trans ((s.writeBase_fr w.src).part .energy id)
      exact congrArg (fun x : Energy => x.parts.get w.el 0xFF) (Eq.trans (hfr.part .energy (by decide)) henergy)
  · intro w s h
    obtain ⟨hok, hfr⟩ := State.submit1_stores (by decide) h
    have hread := (s.writeBase w.src).submitTarget_effect w.el (w.val % 2 ^ objBits .DOMAIN_TARGET)
    exact ⟨_, rfl, hok, (hfr.obj _ _ _ (by decide)).trans (hread.trans (Nat.mod_mod _ _))⟩

end Sys2Proof.Machine
end

section
/-! What the host window does at once, and when it waits (R34, R301, R396 to R400, R446 to R454). -/

namespace Sys2Proof.Machine
open Sys2Proof

/-! ### Answers and readiness -/

theorem State.hostReply_data (s : State) (addr : Nat) (write : Bool) (data : Nat) (r : Rdy) :
    (s.hostReply addr write .ok data r).ports.host.data = data := rfl

/-- A refusal DENIED is counted. -/
theorem State.hostReply_denied (s : State) (addr : Nat) (write : Bool) (data : Nat) (r : Rdy) :
    s.Counted (s.hostReply addr write .denied data r) .HP_DENIED := by
  have hread : ∀ (t : State) v, ((t.wr .HP_LAST_STATUS v).inc .HP_DENIED).rd .HP_DENIED = satAdd (objBits .HP_DENIED) (t.rd .HP_DENIED) 1 :=
    fun t v => (State.rd_inc_self _ _ _ _).trans (congrArg (satAdd _ · 1) (State.rd_wr_other t (by decide) _ _ _ _ _))
  refine (hread _ _).trans (congrArg (satAdd _ · 1) ?_)
  exact State.rd_congr rfl rfl _ _ _

theorem State.hostDown_hostTaken (s : State) (r : Rdy) : s.hostTaken.hostDown r = s.hostDown r := by
  rw [State.hostDown, State.hostTaken_isReady, State.hostTaken_isReady]
  rfl

theorem State.hostDown_ready {s : State} {r : Rdy} (hctl : s.isReady .ctl = true) (hr : s.isReady r = true) :
    s.hostTaken.hostDown r = false := by
  rw [State.hostDown_hostTaken, State.hostDown, hctl, hr]
  rfl

/-- Serving a request leaves the objects that the port does not count in. -/
theorem State.hostTaken_rd (s : State) {o : Obj} (h : o ≠ .HP_REQUESTS) (e i : Nat) : s.hostTaken.rd o e i = s.rd o e i :=
  State.rd_inc_other s h _ _ _ _

/-! ### The phase table (R298, R301) -/

theorem State.phaseCheck_hostTaken (s : State) (f be val : Nat) : s.hostTaken.phaseCheck f be val = s.phaseCheck f be val := by
  rw [State.phaseCheck, State.hostDown_hostTaken, State.hostTaken_rd s (by decide), State.hostTaken_rd s (by decide)]
  rfl

/-- A write that passes its checks finds CTL running. -/
theorem State.ctl_of_phaseCheck {s : State} {f be val : Nat} (h : s.phaseCheck f be val = .ok) : s.isReady .ctl = true := by
  unfold State.phaseCheck at h
  split at h
  · cases h
  · next hdown =>
    rw [State.hostDown] at hdown
    simp only [Bool.or_eq_true, Bool.not_eq_true', not_or, Bool.not_eq_false] at hdown
    exact hdown.1

/-- The phase table with entry `k` replaced. -/
def State.storePhase (s : State) (k val : Nat) : State := { s with phase := Tab.set s.phase k (val % 2 ^ 64) 0 }

/-- A whole write of an entry that passes its checks stores it. -/
theorem State.phaseWrite_stores {s : State} {k be val : Nat} (hflips : s.inj.flips = [])
    (hcheck : s.phaseCheck (k % 128) be val = .ok) :
    s.phaseWrite (0x400000 + 8 * k) be val
      = (s.storePhase k val).hostReply (0x400000 + 8 * k) true .ok 0 .praline := by
  have hkey : (0x400000 + 8 * k - 0x400000) / 8 = k := by omega
  have haligned : (0x400000 + 8 * k) % 8 = 0 := by omega
  have hread : ∀ sel lost, (s.readFlips sel lost).2 = s := fun sel lost => by
    unfold State.readFlips
    rw [hflips]
    rfl
  unfold State.phaseWrite
  dsimp only
  rw [hkey, haligned, State.ctl_of_phaseCheck hcheck, hcheck, hread]
  rfl

/-! ### Locks (R398 to R401) -/

theorem State.noteLock_fr (s : State) (i src : Nat) : Fr (· ∈ [.LOCK_CONTESTS, .LOCK_PRIO]) (· = .ports) s (s.noteLock i src) :=
  State.noteLock_frame (by decide) (by decide) rfl (Fr.refl s)

/-- The word of a lock once it has been stored. -/
theorem State.lockWord_setLock_host (s : State) (i : Nat) (lost : Bool) :
    lockOwner ((s.setLock i lost true true 0).lockWord i) = some 0 := by
  have hword : (s.setLock i lost true true 0).lockWord i
      = (0 % 4096 + true.toNat * 4096 + true.toNat * 65536 + lost.toNat * 131072) % 2 ^ objBits .LOCK := State.rd_wr_self _ _ _ _ _
  rw [hword]
  cases lost <;> decide

/-- An acquire by the host: a free lock becomes its own, its own stays, another's stays and shows as not held. -/
theorem State.lockAcquire_host (s : State) (i : Nat) :
    (lockOwner (s.lockWord i) = none →
        lockOwner ((s.lockAcquire i 0).2.lockWord i) = some 0 ∧ (s.lockAcquire i 0).1 = (s.lockAcquire i 0).2.lockWord i)
      ∧ (lockOwner (s.lockWord i) = some 0 → s.lockAcquire i 0 = (s.lockWord i, s))
      ∧ ∀ o, lockOwner (s.lockWord i) = some o → o ≠ 0 → s.lockAcquire i 0 = (setBit (s.lockWord i) 16 false, s) := by
  unfold State.lockAcquire
  dsimp only
  refine ⟨fun h => ?_, fun h => ?_, fun o h ho => ?_⟩
  · rw [h]
    exact ⟨s.lockWord_setLock_host i _, rfl⟩
  · rw [h]
    rfl
  · rw [h]
    exact if_neg ho

/-- What an acquire by the host leaves: the request counted and answered OK with the word of the lock. -/
theorem State.hostAcquire_effect {s : State} {i : Nat} (hup : s.hostDown .mailbox = false) :
    (s.hostAcquire i).ports.host.status = Code.ok.num
      ∧ (s.hostAcquire i).ports.host.data = ((s.noteLock i 1).lockAcquire i 0).1
      ∧ (s.hostAcquire i).lockWord i = ((s.noteLock i 1).lockAcquire i 0).2.lockWord i
      ∧ (s.hostAcquire i).rd .HP_REQUESTS = s.rd .HP_REQUESTS
      ∧ (s.noteLock i 1).lockWord i = s.lockWord i := by
  have hnote := s.noteLock_fr i 1
  have hacquire : Fr (· = .LOCK) (fun _ => False) (s.noteLock i 1) ((s.noteLock i 1).lockAcquire i 0).2 :=
    State.lockAcquire_frame rfl (Fr.refl _)
  unfold State.hostAcquire
  rw [if_neg (Bool.eq_false_iff.1 hup)]
  dsimp only
  generalize ((s.noteLock i 1).lockAcquire i 0) = p at hacquire
  have hreply := p.2.hostReply_fr (0x800 + 8 * i) false .ok p.1 .mailbox
  refine ⟨State.hostReply_status _ _ _ _ _ _, rfl, hreply.obj _ _ _ (by decide), ?_, hnote.obj _ _ _ (by decide)⟩
  exact (hreply.obj _ _ _ (by decide)).trans ((hacquire.obj _ _ _ (by decide)).trans (hnote.obj _ _ _ (by decide)))

/-- What a release by the host leaves: its own lock is free, another stays and the release is denied. -/
theorem State.hostRelease_effect {s : State} {i : Nat} (hup : s.hostDown .mailbox = false) :
    (s.hostRelease i).rd .HP_REQUESTS = s.rd .HP_REQUESTS
      ∧ (if lockOwner (s.lockWord i) = some 0 then
          (s.hostRelease i).lockWord i = 0 ∧ (s.hostRelease i).ports.host.status = Code.ok.num
        else (s.hostRelease i).lockWord i = s.lockWord i ∧ (s.hostRelease i).ports.host.status = Code.denied.num
          ∧ s.Counted (s.hostRelease i) .HP_DENIED) := by
  have hnote := s.noteLock_fr i 1
  have hword : (s.noteLock i 1).lockWord i = s.lockWord i := hnote.obj _ _ _ (by decide)
  unfold State.hostRelease
  rw [if_neg (Bool.eq_false_iff.1 hup)]
  dsimp only
  rw [hword]
  split
  · have hreply := ((s.noteLock i 1).setLock i false false false 0).hostReply_fr (0x800 + 8 * i) true .ok 0 .mailbox
    refine ⟨?_, (hreply.obj _ _ _ (by decide)).trans ?_, State.hostReply_status _ _ _ _ _ _⟩
    · exact (hreply.obj _ _ _ (by decide)).trans ((State.rd_wr_other _ (by decide) _ _ _ _ _).trans (hnote.obj _ _ _ (by decide)))
    · exact (State.rd_wr_self _ _ _ _ _).trans (Nat.zero_mod _)
  · have hreply := (s.noteLock i 1).hostReply_fr (0x800 + 8 * i) true .denied 0 .mailbox
    refine ⟨(hreply.obj _ _ _ (by decide)).trans (hnote.obj _ _ _ (by decide)), (hreply.obj _ _ _ (by decide)).trans hword,
      State.hostReply_status _ _ _ _ _ _, ?_⟩
    exact (State.hostReply_denied _ _ _ _ _).trans (congrArg (satAdd _ · 1) (hnote.obj _ _ _ (by decide)))

/-! ### Doorbells (R396, R397) -/

/-- A pending semaphore post leaves the doorbells. -/
theorem State.semEvent_bell (s : State) (m j : Nat) :
    ((s.semEvent m).bx j).rung = (s.bx j).rung ∧ ((s.semEvent m).bx j).merged = (s.bx j).merged := by
  unfold State.semEvent
  split
  · exact ⟨rfl, rfl⟩
  · split
    · exact ⟨rfl, rfl⟩
    · rw [State.bx_modBx]
      split
      · next h => rw [h]; exact ⟨rfl, rfl⟩
      · exact ⟨rfl, rfl⟩

/-- A ring delivered sets the doorbell and is merged with those before it. -/
theorem State.deliver_bell (s : State) (m : Nat) :
    ((s.deliver m 1).bx m).rung = true ∧ ((s.deliver m 1).bx m).merged = min 255 ((s.bx m).merged + 1) := by
  obtain ⟨hrung, hmerged⟩ :=
    (s.modBx m fun b => { b with rung := true, merged := min 255 (b.merged + 1) }).semEvent_bell m m
  rw [State.bx_modBx_self] at hrung hmerged
  exact ⟨hrung, hmerged⟩

/-- A ring of the host's for an implemented doorbell that needs no wake. -/
theorem State.hostRing_effect {s : State} {m : Nat} (hup : s.hostDown .mailbox = false) (hm : m < 64)
    (hbox : m < s.rd .NUM_MAILBOXES) (hwake : s.on .MB_WAKE m = false) :
    s.hostRing m = (s.deliver m 1).hostReply 0x68 true .ok 0 .mailbox := by
  have hlow : bits m 0 6 = m := by
    rw [bits, Nat.pow_zero, Nat.div_one]
    exact Nat.mod_eq_of_lt (by omega)
  have hhigh : bits m 6 58 = 0 := by
    rw [bits, Nat.div_eq_of_lt (by omega), Nat.zero_mod]
  have hring : s.ring m = (0, s.deliver m 1) := by
    unfold State.ring
    dsimp only
    rw [hwake, Bool.false_and, Bool.false_and]
    rfl
  unfold State.hostRing
  rw [hlow, hhigh, hring, if_neg (Bool.eq_false_iff.1 hup), if_neg (by omega), if_neg (by omega)]

/-! ### The port (R446, R447) -/

/-- A request that comes while CTL stands still, or behind one that waits, is held. -/
theorem State.hostIn_held {s : State} {r : HeldReq} (hready : s.hpReady = true)
    (hwait : s.refs.shortStop = true ∨ s.hostRemote ≠ [] ∨ s.ports.hostHeld ≠ []) :
    s.hostIn r = (s.inc .HP_REQUESTS).hostHold r := by
  have hblocked : s.hostBlocked = true := by
    simpa [State.hostBlocked, or_assoc] using hwait
  unfold State.hostIn
  rw [if_neg (by simp [hready]), if_pos hblocked]

theorem State.hostIn_closed {s : State} {r : HeldReq} (h : s.hpReady = false) : s.hostIn r = s := if_pos h

/-- Settles O45: a request that the port takes is served on the state with the request counted; one that must wait is held with
its count alone. -/
theorem hostWindowCommands : Obligations.HostWindowCommands := by
  unfold Obligations.HostWindowCommands
  refine ⟨?_, ?_, ?_, ?_, ?_, ?_⟩
  · intro tag f be val s htag hf ht hflips hcheck
    have hfld : (128 * tag + f) % 128 = f := by omega
    have hflips' : s.hostTaken.inj.flips = [] := by
      rw [State.hostTaken, State.shiftWords_no_flips (s := s.inc .HP_REQUESTS) hflips]
      exact hflips
    have hcheck' : s.hostTaken.phaseCheck ((128 * tag + f) % 128) be val = .ok := by
      rw [State.phaseCheck_hostTaken, hfld, hcheck]
    have hreply := (s.hostTaken.storePhase (128 * tag + f) val).hostReply_fr (0x400000 + 8 * (128 * tag + f)) true .ok 0 .praline
    have hphase : _ = Tab.set s.phase (128 * tag + f) (val % 2 ^ 64) 0 := hreply.part .phase (by decide)
    refine ⟨_, ?_, ?_, State.hostReply_status (s.hostTaken.storePhase (128 * tag + f) val) (0x400000 + 8 * (128 * tag + f)) true
      .ok 0 .praline, ?_, fun k hk => ?_⟩
    · change execPhaseTableWrite _ be val s = _
      rw [execPhaseTableWrite, decide_eq_true (by omega), State.when_true, State.hostIn_served ht]
      exact congrArg Host.Outcome.next (State.phaseWrite_stores hflips' hcheck')
    · exact (hreply.obj _ _ _ (by decide)).trans ((State.rd_congr rfl rfl _ _ _).trans s.hostTaken_counted)
    · rw [hphase, Tab.get_set_self (α := Nat)]
    · rw [hphase, Tab.get_set_other (α := Nat) _ _ _ _ hk]
  · intro i s hi ht hctl hmb
    obtain ⟨hstatus, hdata, hword, hcount, hnoted⟩ := State.hostAcquire_effect (i := i) (State.hostDown_ready hctl hmb)
    have hbefore : (s.hostTaken.noteLock i 1).lockWord i = s.lockWord i :=
      hnoted.trans (s.hostTaken_rd (by decide) _ _)
    obtain ⟨hfree, hown, hother⟩ := (s.hostTaken.noteLock i 1).lockAcquire_host i
    rw [hbefore] at hfree hown hother
    refine ⟨s.hostTaken.hostAcquire i, ?_, hcount.trans s.hostTaken_counted, hstatus, fun hnone => ?_, fun hmine => ?_,
      fun o ho hne => ?_⟩
    · change execLockHostAcquire i s = _
      rw [execLockHostAcquire, decide_eq_true hi, State.when_true, State.hostIn_served ht]
      rfl
    · obtain ⟨howner, hshown⟩ := hfree hnone
      rw [hword, hdata]
      exact ⟨howner, hshown⟩
    · rw [hword, hdata, hown hmine]
      exact ⟨hbefore, rfl⟩
    · rw [hword, hdata, hother o ho hne]
      exact ⟨hbefore, rfl⟩
  · intro i val s hi ht hctl hmb
    obtain ⟨hcount, heffect⟩ := State.hostRelease_effect (i := i) (State.hostDown_ready hctl hmb)
    have hword : s.hostTaken.lockWord i = s.lockWord i := s.hostTaken_rd (by decide) _ _
    refine ⟨s.hostTaken.hostRelease i, ?_, hcount.trans s.hostTaken_counted, ?_⟩
    · change execLockHostRelease i val s = _
      rw [execLockHostRelease, decide_eq_true hi, State.when_true, State.hostIn_served ht]
      rfl
    · rw [hword, State.Counted, s.hostTaken_rd (by decide)] at heffect
      exact heffect
  · intro r c i val s hi hrc hready hwait
    have hexec : exec c s = .next (s.hostIn r) := by
      simp only [List.mem_cons, Prod.mk.injEq, List.not_mem_nil, or_false] at hrc
      rcases hrc with ⟨rfl, rfl⟩ | ⟨rfl, rfl⟩ | ⟨rfl, rfl⟩
      · change execLockHostAcquire i s = _
        rw [execLockHostAcquire, decide_eq_true hi, State.when_true]
      · change execLockHostRelease i val s = _
        rw [execLockHostRelease, decide_eq_true hi, State.when_true]
      · rfl
    rw [hexec, State.hostIn_held hready hwait]
    exact ⟨_, rfl, rfl, State.rd_inc_self _ _ _ _, fun o e k ho => State.rd_inc_other s ho _ _ _ _⟩
  · intro i val s hclosed
    refine ⟨?_, ?_, congrArg Host.Outcome.next (State.hostIn_closed hclosed)⟩
    · change execLockHostAcquire i s = _
      rw [execLockHostAcquire]
      cases decide (i < 64)
      · rfl
      · exact congrArg Host.Outcome.next (State.hostIn_closed hclosed)
    · change execLockHostRelease i val s = _
      rw [execLockHostRelease]
      cases decide (i < 64)
      · rfl
      · exact congrArg Host.Outcome.next (State.hostIn_closed hclosed)
  · intro m s hm hbox ht hctl hmb hwake
    have hring : s.hostTaken.hostRing m = (s.hostTaken.deliver m 1).hostReply 0x68 true .ok 0 .mailbox := by
      refine State.hostRing_effect (State.hostDown_ready hctl hmb) hm ?_ ?_
      · rwa [s.hostTaken_rd (by decide)]
      · rwa [State.on, s.hostTaken_rd (by decide)]
    have hreply := (s.hostTaken.deliver m 1).hostReply_fr 0x68 true .ok 0 .mailbox
    have hdeliver : Fr (· = .SY_POST_OVERFLOW) (· = .box) s.hostTaken (s.hostTaken.deliver m 1) :=
      State.deliver_frame rfl rfl (Fr.refl _)
    have hbell : ((s.hostTaken.hostRing m).bx m) = (s.hostTaken.deliver m 1).bx m := by
      rw [hring]
      exact congrArg (fun b : Tab Box => b.get m {}) (hreply.part .box (by decide) :)
    obtain ⟨hrung, hmerged⟩ := s.hostTaken.deliver_bell m
    refine ⟨s.hostTaken.hostRing m, ?_, ?_, ?_, ?_⟩
    · exact congrArg Host.Outcome.next (State.hostIn_served ht)
    · rw [hring]
      exact (hreply.obj _ _ _ (by decide)).trans ((hdeliver.obj _ _ _ (by decide)).trans s.hostTaken_counted)
    · rw [hring]
      exact State.hostReply_status _ _ _ _ _ _
    · rw [hbell]
      exact ⟨hrung, hmerged⟩

end Sys2Proof.Machine
end

section
/-! SUPPORT. What logging an event leaves of the log and of the fault unit (R526, R528). -/

namespace Sys2Proof.Machine
open Sys2Proof

/-- The signals of the fault unit: the reports on their way, the line and its arrival, the freeze. -/
def State.signals (s : State) : List FReport × Bool × Option Nat × Bool :=
  (s.flt.reports, s.flt.line, s.flt.lineAt, s.flt.frozen)

theorem State.signals_congr {s t : State} (h : t.flt = s.flt) : t.signals = s.signals := by
  rw [State.signals, h]
  rfl

theorem State.alert_signals (s : State) (cat : Nat) : (s.alert cat).signals = s.signals := by
  unfold State.alert State.driveAlert
  split
  · split <;> rfl
  · split <;> rfl

/-- The log with a record in its slot. -/
def State.writeRecord (s : State) (rec : Nat) : State :=
  s.wr .EVENT_PAGE (setBits (s.rd .EVENT_PAGE 0 (s.rd .EVENT_NEXT / 256)) (128 * (s.rd .EVENT_NEXT % 256)) 128 rec) 0
    (s.rd .EVENT_NEXT / 256)

/-- A record overwritten is counted. -/
def State.countOver (s : State) (full : Bool) : State :=
  s.when full fun t =>
    { t.inc .EVENT_OVERWRITTEN with
      flt := { (t.inc .EVENT_OVERWRITTEN).flt with sumOver := (t.inc .EVENT_OVERWRITTEN).flt.sumOver + 1 } }

/-- The log once a record is in its slot, where `full` tells whether one stood there, and the counters have moved on. -/
def State.logRecord (s : State) (rec : Nat) (full : Bool) : State :=
  (((s.writeRecord rec).countOver full).wr .EVENT_NEXT ((s.rd .EVENT_NEXT + 1) % 1024)).addWrap .EVENT_SEQ 1

/-- The record of an event logged in `s`. -/
def State.recordOf (s : State) (code elem data : Nat) (inj : Bool) : Nat :=
  evRecord s.T code (inj.toNat + if (evCategory code).isSome then 2 else 0) elem data

/-- Whether a record stands in the slot that the next event takes. -/
def State.slotTaken (s : State) : Bool :=
  bits (s.rd .EVENT_PAGE 0 (s.rd .EVENT_NEXT / 256)) (128 * (s.rd .EVENT_NEXT % 256)) 128 != 0

/-- An event of category `k` counted. -/
def State.countCat (s : State) (k : Nat) : State :=
  { s with flt := { s.flt with sumCats := Tab.set s.flt.sumCats k (Tab.get s.flt.sumCats k 0 + 1) 0 } }

/-- An event is its record in the log, and the alert of its category, if it has one. -/
theorem State.event_eq (s : State) (code elem data : Nat) (inj : Bool) :
    s.event code elem data inj = match evCategory code with
      | some k => ((s.logRecord (s.recordOf code elem data inj) s.slotTaken).countCat k).alert k
      | none => s.logRecord (s.recordOf code elem data inj) s.slotTaken := by
  delta State.event
  extract_lets slot cat flags page off old s1 s2 s3
  have hrec : s1 = s.writeRecord (s.recordOf code elem data inj) := rfl
  have hover : s2 = s1.countOver s.slotTaken := rfl
  have hlog : s3 = s.logRecord (s.recordOf code elem data inj) s.slotTaken := by
    unfold State.logRecord
    rw [← hrec, ← hover]
  rw [← hlog]
  clear_value s3
  unfold cat
  generalize evCategory code = c
  cases c <;> rfl

theorem State.wr_signals (s : State) (o : Obj) (v e i : Nat) : (s.wr o v e i).signals = s.signals := rfl

theorem State.countOver_signals (s : State) (full : Bool) : (s.countOver full).signals = s.signals := by
  cases full <;> rfl

theorem State.logRecord_signals (s : State) (rec : Nat) (full : Bool) : (s.logRecord rec full).signals = s.signals :=
  ((State.wr_signals _ _ _ _ _).trans (State.wr_signals _ _ _ _ _)).trans
    ((State.countOver_signals _ full).trans (State.wr_signals _ _ _ _ _))

theorem State.event_signals (s : State) (code elem data : Nat) (inj : Bool) :
    (s.event code elem data inj).signals = s.signals := by
  rw [State.event_eq]
  split
  · exact (State.alert_signals _ _).trans (State.logRecord_signals _ _ _)
  · exact State.logRecord_signals _ _ _

theorem State.countOver_rd (s : State) (full : Bool) {o : Obj} (h : o ≠ .EVENT_OVERWRITTEN) (e i : Nat) :
    (s.countOver full).rd o e i = s.rd o e i := by
  cases full
  · rfl
  · exact (State.rd_congr rfl rfl _ _ _).trans (State.rd_inc_other s h _ _ _ _)

theorem evRecord_lt (time code flags elem data : Nat) : evRecord time code flags elem data < 2 ^ 128 := by
  have h1 := Nat.mod_lt time (show 0 < 2 ^ 64 by decide)
  have h2 := Nat.mod_lt code (show 0 < 256 by decide)
  have h3 := Nat.mod_lt flags (show 0 < 256 by decide)
  have h4 := Nat.mod_lt elem (show 0 < 2 ^ 16 by decide)
  have h5 := Nat.mod_lt data (show 0 < 2 ^ 32 by decide)
  unfold evRecord
  omega

/-- A record stands in its slot, and the counters have moved on. -/
theorem State.logRecord_rd (s : State) {rec : Nat} (full : Bool) (hrec : rec < 2 ^ 128) :
    bits ((s.logRecord rec full).rd .EVENT_PAGE 0 (s.rd .EVENT_NEXT / 256)) (128 * (s.rd .EVENT_NEXT % 256)) 128 = rec
      ∧ (s.logRecord rec full).rd .EVENT_NEXT = (s.rd .EVENT_NEXT + 1) % 1024
      ∧ (s.logRecord rec full).rd .EVENT_SEQ = (s.rd .EVENT_SEQ + 1) % 2 ^ 32 := by
  have hseq : ∀ t : State, (t.addWrap .EVENT_SEQ 1).rd .EVENT_SEQ = (t.rd .EVENT_SEQ + 1) % 2 ^ 32 := fun t => State.rd_wr_self _ _ _ _ _
  refine ⟨?_, ?_, ?_⟩
  · have hpage : (s.logRecord rec full).rd .EVENT_PAGE 0 (s.rd .EVENT_NEXT / 256)
        = setBits (s.rd .EVENT_PAGE 0 (s.rd .EVENT_NEXT / 256)) (128 * (s.rd .EVENT_NEXT % 256)) 128 rec % 2 ^ objBits .EVENT_PAGE := by
      refine (State.rd_wr_other _ (by decide) _ _ _ _ _).trans ((State.rd_wr_other _ (by decide) _ _ _ _ _).trans ?_)
      exact (State.countOver_rd _ _ (by decide) _ _).trans (State.rd_wr_self _ _ _ _ _)
    have hwide : 128 * (s.rd .EVENT_NEXT % 256) + 128 ≤ objBits .EVENT_PAGE := by
      have hbits : objBits .EVENT_PAGE = 32768 := by decide
      omega
    rw [hpage, bits_mod hwide, bits_setBits_self, Nat.mod_eq_of_lt hrec]
  · refine (State.rd_wr_other _ (by decide) _ _ _ _ _).trans ((State.rd_wr_self _ _ _ _ _).trans ?_)
    have hbits : objBits .EVENT_NEXT = 16 := by decide
    rw [hbits]
    exact Nat.mod_eq_of_lt (by omega)
  · refine (hseq _).trans (congrArg (fun n => (n + 1) % 2 ^ 32) ?_)
    refine (State.rd_wr_other _ (by decide) _ _ _ _ _).trans ((State.countOver_rd _ _ (by decide) _ _).trans ?_)
    exact State.rd_wr_other _ (by decide) _ _ _ _ _

theorem State.driveAlert_rd (s : State) (o : Obj) (e i : Nat) : s.driveAlert.rd o e i = s.rd o e i :=
  (State.driveAlert_frame (W := fun _ => False) (Q := (· = .flt)) rfl (Fr.refl s)).obj o e i id

theorem evCategory_lt {code k : Nat} (h : evCategory code = some k) : k < objBits .ALERT_STATUS := by
  have hbits : 8 ≤ objBits .ALERT_STATUS := by decide
  unfold evCategory at h
  split_ifs at h <;> simp only [Option.some.injEq] at h <;> omega

/-- An event that is logged stands in the log and alerts for its category. -/
theorem State.event_logged (s : State) (code elem data : Nat) (inj : Bool) :
    s.Logged (s.event code elem data inj) code elem data inj := by
  obtain ⟨hpage, hnext, hseq⟩ :=
    s.logRecord_rd s.slotTaken (rec := s.recordOf code elem data inj) (evRecord_lt _ _ _ _ _)
  rw [State.event_eq]
  unfold State.Logged
  split
  · next k hk =>
    have halert : ∀ {o : Obj} (e i : Nat), o ≠ .ALERT_STATUS →
        (((s.logRecord (s.recordOf code elem data inj) s.slotTaken).countCat k).alert k).rd o e i
          = (s.logRecord (s.recordOf code elem data inj) s.slotTaken).rd o e i := fun e i ho =>
      (State.driveAlert_rd _ _ _ _).trans ((State.rd_setFlag_other _ ho _ _ _).trans (State.rd_congr rfl rfl _ _ _))
    rw [halert _ _ (by decide), halert _ _ (by decide), halert _ _ (by decide)]
    refine ⟨hpage, hnext, hseq, fun k' hk' => ?_⟩
    obtain rfl : k = k' := Option.some.inj (hk.symm.trans hk')
    exact (State.flag_congr (State.driveAlert_rd _ _ _ _) _).trans (State.flag_setFlag_self _ _ _ (evCategory_lt hk))
  · next hk => exact ⟨hpage, hnext, hseq, fun k' hk' => absurd (hk.symm.trans hk') (by simp)⟩

/-- What an event logged leaves in the log stands as long as its objects are left alone. -/
theorem State.Logged.trans {s t u : State} {code elem data : Nat} {inj : Bool} (h : s.Logged t code elem data inj)
    (hkept : ∀ o ∈ eventObjs, ∀ e i, u.rd o e i = t.rd o e i) : s.Logged u code elem data inj := by
  obtain ⟨hpage, hnext, hseq, halert⟩ := h
  unfold State.Logged
  rw [hkept _ (by decide), hkept _ (by decide), hkept _ (by decide)]
  exact ⟨hpage, hnext, hseq, fun k hk => (State.flag_congr (hkept _ (by decide) _ _) k).trans (halert k hk)⟩

/-- What an event logged in a state with the same log and time is. -/
theorem State.Logged.of_congr {s s' t : State} {code elem data : Nat} {inj : Bool} (h : s'.Logged t code elem data inj)
    (hlog : ∀ o ∈ eventObjs, ∀ e i, s'.rd o e i = s.rd o e i) (hT : s'.T = s.T) : s.Logged t code elem data inj := by
  unfold State.Logged at h ⊢
  rwa [hlog .EVENT_NEXT (by decide), hlog .EVENT_SEQ (by decide), hT] at h

end Sys2Proof.Machine
end

section
/-! PROOF. The first fault is latched (R507, R522 to R524). -/

namespace Sys2Proof.Machine
open Sys2Proof

/-! ### The report that wins (R523) -/

/-- A report beats another by its class, then by being real, then by its element. -/
theorem FReport.beats_iff (a b : FReport) : a.beats b = true ↔
    a.cls < b.cls ∨ a.cls = b.cls ∧ (a.injected.toNat < b.injected.toNat
      ∨ a.injected.toNat = b.injected.toNat ∧ a.element < b.element) := by
  unfold FReport.beats
  rcases Nat.lt_trichotomy a.cls b.cls with h | h | h
  · simp [h, h.ne]
  · cases a.injected <;> cases b.injected <;> simp [h]
  · simp [h.ne', h.not_gt]

/-- What does not beat a report that does not beat a third does not beat the third. -/
theorem FReport.not_beats_trans {a b c : FReport} (hab : a.beats b = false) (hbc : b.beats c = false) : a.beats c = false := by
  rw [Bool.eq_false_iff, ne_eq, FReport.beats_iff] at *
  omega

/-- The better of two reports, where the second has to beat the first. -/
def FReport.better (b x : FReport) : FReport := if x.beats b then x else b

theorem FReport.better_mem (b x : FReport) : b.better x = b ∨ b.better x = x := by
  unfold FReport.better
  split
  · exact .inr rfl
  · exact .inl rfl

/-- Neither of two reports beats the better one. -/
theorem FReport.not_beats_better (b x : FReport) : b.beats (b.better x) = false ∧ x.beats (b.better x) = false := by
  unfold FReport.better
  split <;> simp only [Bool.eq_false_iff, ne_eq, FReport.beats_iff] at * <;> omega

theorem foldl_better (rs : List FReport) (b : FReport) :
    rs.foldl FReport.better b ∈ b :: rs ∧ ∀ x ∈ b :: rs, x.beats (rs.foldl FReport.better b) = false := by
  induction rs generalizing b with
  | nil =>
    refine ⟨List.mem_singleton_self b, fun x hx => ?_⟩
    obtain rfl := List.mem_singleton.mp hx
    simp [Bool.eq_false_iff, FReport.beats_iff]
  | cons y rs ih =>
    obtain ⟨hmem, hbest⟩ := ih (b.better y)
    obtain ⟨hb, hy⟩ := FReport.not_beats_better b y
    refine ⟨?_, fun x hx => ?_⟩
    · have hmem' : rs.foldl FReport.better (b.better y) = b.better y ∨ rs.foldl FReport.better (b.better y) ∈ rs :=
        List.mem_cons.mp hmem
      rcases FReport.better_mem b y with h | h <;> rw [List.foldl_cons] <;> grind
    · rcases List.mem_cons.mp hx with rfl | hx
      · exact FReport.not_beats_trans hb (hbest _ List.mem_cons_self)
      · rcases List.mem_cons.mp hx with rfl | hx
        · exact FReport.not_beats_trans hy (hbest _ List.mem_cons_self)
        · exact hbest x (List.mem_cons_of_mem _ hx)

/-- A batch has a winner, which is one of it and which none of it beats. -/
theorem winner_spec {l : List FReport} (h : l ≠ []) :
    ∃ r, winner l = some r ∧ r ∈ l ∧ ∀ x ∈ l, x.beats r = false := by
  cases l with
  | nil => exact absurd rfl h
  | cons b rs => exact ⟨_, rfl, foldl_better rs b⟩

theorem winner_single (r : FReport) : winner [r] = some r := rfl

/-! ### The latch (R507, R522) -/

theorem FReport.digest_lt (r : FReport) : r.digest < 2 ^ 64 := by
  have htime : bits r.time 10 32 < 2 ^ 32 := Nat.mod_lt _ (by decide)
  have hinj := Bool.toNat_le r.injected
  unfold FReport.digest
  omega

/-- The digest of a fault in the sums of the event summary. -/
def State.sumFault (s : State) (digest : Nat) : State :=
  { s with flt := { s.flt with
      sumDigest := if s.flt.sumDigest = 0 then digest else s.flt.sumDigest
      sumFaults := s.flt.sumFaults + 1 } }

/-- The latch takes a report. -/
def State.takeDigest (s : State) (r : FReport) : State :=
  ((s.wr .FAULT_DIGEST r.digest).wr .FAULT_TIME r.time).sumFault r.digest

/-- What a digest latched ends: occurrences and runs. -/
def State.endLearning (s : State) : State := (s.each s.groups State.discardOcc).faultRuns

theorem State.sumFault_rd (s : State) (digest : Nat) (o : Obj) (e i : Nat) : (s.sumFault digest).rd o e i = s.rd o e i :=
  State.rd_congr rfl rfl _ _ _

theorem State.latch_eq (s : State) (r : FReport) :
    s.latch r = (s.takeDigest r).endLearning.when (!(s.takeDigest r).endLearning.refs.shortStop) State.freezeAll := by
  unfold State.latch State.takeDigest State.endLearning
  generalize (s.wr .FAULT_DIGEST r.digest).wr .FAULT_TIME r.time = s1
  rw [show (s1.sumFault r.digest).groups = s1.groups from congrArg List.range (State.sumFault_rd _ _ _ _ _)]
  rfl

theorem State.sumFault_su (s : State) (digest : Nat) : (s.sumFault digest).su = s.su := rfl

theorem State.sumFault_refs (s : State) (digest : Nat) : (s.sumFault digest).refs = s.refs := rfl

theorem State.sumFault_reports (s : State) (digest : Nat) : (s.sumFault digest).flt.reports = s.flt.reports := rfl

theorem State.takeDigest_parts (s : State) (r : FReport) :
    (s.takeDigest r).su = s.su ∧ (s.takeDigest r).refs = s.refs ∧ (s.takeDigest r).flt.reports = s.flt.reports := by
  unfold State.takeDigest
  rw [State.sumFault_su, State.sumFault_refs, State.sumFault_reports, State.wr_su, State.wr_su, State.wr_refs, State.wr_refs,
    State.wr_flt, State.wr_flt]
  exact ⟨rfl, rfl, rfl⟩

theorem State.takeDigest_rd (s : State) (r : FReport) :
    (s.takeDigest r).rd .FAULT_DIGEST = r.digest ∧ (s.takeDigest r).rd .FAULT_TIME = r.time % 2 ^ 64 := by
  unfold State.takeDigest
  rw [State.sumFault_rd, State.sumFault_rd, State.rd_wr_other _ (by decide), State.rd_wr_self]
  exact ⟨Nat.mod_eq_of_lt r.digest_lt, State.rd_wr_self _ _ _ _ _⟩

theorem State.endLearning_keeps (s : State) :
    State.Keeps [.FAULT_DIGEST, .FAULT_TIME, .START_STATE] [.flt, .su, .refs] s s.endLearning := by
  unfold State.endLearning
  refine State.faultRuns_frame (by decide) (State.each_kept (Fr.refl s) fun t g h => ?_)
  exact State.discardOcc_frame (by decide) (by decide) (by decide) h

/-- Operating points freeze; an arm's ramp moves nothing more. -/
def State.freeze (s : State) : State :=
  { s with flt := { s.flt with frozen := true }, su := { s.su with ramping := false } }

/-- What a freeze does to a group. -/
def State.freezeGroup (s : State) (g : Nat) : State :=
  if (s.stepPrepared g).isSome then s.abortStep g 5 else s.setChg g .frozen

theorem State.freezeAll_eq (s : State) : s.freezeAll = s.freeze.each s.freeze.groups State.freezeGroup := rfl

theorem State.freezeGroup_keeps (s : State) (g : Nat) :
    State.Keeps [.FAULT_DIGEST, .FAULT_TIME, .START_STATE] [.su] s (s.freezeGroup g) := by
  unfold State.freezeGroup
  split
  · apply State.abortStep_frame (h := Fr.refl s) <;> decide
  · exact State.setChg_frame (by decide) (Fr.refl s)

theorem State.freezeGroup_flt (s : State) (g : Nat) : (s.freezeGroup g).flt = s.flt := by
  have h : State.Keeps [] [.flt] s (s.freezeGroup g) := by
    unfold State.freezeGroup
    split
    · apply State.abortStep_frame (h := Fr.refl s) <;> decide
    · exact State.setChg_frame (by decide) (Fr.refl s)
  exact h.same .flt (by decide)

theorem State.freezeAll_flt (s : State) : s.freezeAll.flt = { s.flt with frozen := true } := by
  rw [State.freezeAll_eq]
  exact State.each_same (·.flt) _ State.freezeGroup_flt _ _

theorem State.freezeAll_su (s : State) : s.freezeAll.su = { s.su with ramping := false } := by
  rw [State.freezeAll_eq]
  exact State.each_same (·.su) _ (fun t g => (t.freezeGroup_keeps g).same .su (by decide)) _ _

theorem State.freezeAll_rd (s : State) {o : Obj} (ho : o ∈ [Obj.FAULT_DIGEST, .FAULT_TIME, .START_STATE]) (e i : Nat) :
    s.freezeAll.rd o e i = s.rd o e i := by
  rw [State.freezeAll_eq]
  refine (State.each_same (·.rd o e i) _ (fun t g => (t.freezeGroup_keeps g).rd ho e i) _ _).trans ?_
  exact State.rd_congr rfl rfl _ _ _

/-- What the latch of a report leaves: the digest and its time stand, the reports on their way and the state of start-up stay, and
outside a short stop operating points freeze. -/
theorem State.latch_effect (s : State) (r : FReport) :
    (s.latch r).rd .FAULT_DIGEST = r.digest ∧ (s.latch r).rd .FAULT_TIME = r.time % 2 ^ 64
      ∧ (s.latch r).rd .START_STATE = s.rd .START_STATE ∧ (s.latch r).flt.reports = s.flt.reports
      ∧ (s.latch r).su.arming = s.su.arming ∧ (s.refs.shortStop = false → (s.latch r).flt.frozen = true) := by
  obtain ⟨hsu0, hrefs0, hreports0⟩ := s.takeDigest_parts r
  have hkeep := (s.takeDigest r).endLearning_keeps
  have hflt : (s.takeDigest r).endLearning.flt = (s.takeDigest r).flt := hkeep.same .flt (by decide)
  have hsu : (s.takeDigest r).endLearning.su = s.su := (hkeep.same .su (by decide)).trans hsu0
  have hrefs : (s.takeDigest r).endLearning.refs = s.refs := (hkeep.same .refs (by decide)).trans hrefs0
  have hstart : (s.takeDigest r).rd .START_STATE = s.rd .START_STATE :=
    (State.sumFault_rd _ _ _ _ _).trans ((State.rd_wr_other _ (by decide) _ _ _ _ _).trans (State.rd_wr_other _ (by decide) _ _ _ _ _))
  obtain ⟨hdig, htime⟩ := s.takeDigest_rd r
  rw [State.latch_eq, hrefs]
  cases s.refs.shortStop
  · rw [show (!false) = true from rfl, State.when_true, State.freezeAll_flt, State.freezeAll_su, hflt, hsu,
      State.freezeAll_rd _ (by decide), State.freezeAll_rd _ (by decide), State.freezeAll_rd _ (by decide),
      hkeep.rd (by decide), hkeep.rd (by decide), hkeep.rd (by decide)]
    exact ⟨hdig, htime, hstart, hreports0, rfl, fun _ => rfl⟩
  · rw [show (!true) = false from rfl, State.when_false, hflt, hsu, hkeep.rd (by decide), hkeep.rd (by decide), hkeep.rd (by decide)]
    exact ⟨hdig, htime, hstart, hreports0, rfl, nofun⟩

/-! ### The reports of one cycle (R523, R524) -/

/-- A report follows the line: it is waited for no more. -/
def State.endLine (s : State) : State := { s with flt := { s.flt with lineAt := none } }

theorem State.endLine_rd (s : State) (o : Obj) (e i : Nat) : s.endLine.rd o e i = s.rd o e i :=
  State.rd_congr rfl rfl _ _ _

/-- The state in which the winner `r` of a batch is latched, or counted where a digest stands, and the others are counted. -/
def State.decided (s : State) (l : List FReport) (r : FReport) : State :=
  ((if !s.digestLatched then s.latch r else s.laterFault r).each (l.erase r) State.laterFault).endLine

theorem State.decideReports_eq (s : State) {l : List FReport} {r : FReport} (h : winner l = some r) :
    s.decideReports l = if (s.decided l r).su.arming && !(s.decided l r).su.repeatDue then
        (s.decided l r).faultInArm r (l.any fun x => !armClass x.cls) (!s.digestLatched)
      else if !s.digestLatched then (s.decided l r).faultOutside r else s.decided l r := by
  unfold State.decideReports
  rw [h]
  rfl

theorem State.laterFault_latch (s : State) (r : FReport) {o : Obj} (ho : o ∈ [Obj.FAULT_DIGEST, .FAULT_TIME]) (e i : Nat) :
    (s.laterFault r).rd o e i = s.rd o e i := by
  have h : State.Keeps [.FAULT_DIGEST, .FAULT_TIME] [] s (s.laterFault r) := by
    apply State.laterFault_frame (h := Fr.refl s) <;> decide
  exact h.rd ho _ _

/-- What follows the decision of a batch keeps the digest and its time. -/
theorem State.decideReports_latch (s : State) {l : List FReport} {r : FReport} (h : winner l = some r) {o : Obj}
    (ho : o ∈ [Obj.FAULT_DIGEST, .FAULT_TIME]) : (s.decideReports l).rd o = (s.decided l r).rd o := by
  rw [State.decideReports_eq s h]
  generalize s.decided l r = t
  have harm : ∀ other first, State.Keeps [.FAULT_DIGEST, .FAULT_TIME] [] t (t.faultInArm r other first) := fun _ _ => by
    apply State.faultInArm_frame (h := Fr.refl t) <;> decide
  have hout : State.Keeps [.FAULT_DIGEST, .FAULT_TIME] [] t (t.faultOutside r) := by
    apply State.faultOutside_frame (h := Fr.refl t) <;> decide
  split
  · exact (harm _ _).rd ho _ _
  · split
    · exact hout.rd ho _ _
    · rfl

/-- The first digest of a cycle is that of the report that wins, with its time. -/
theorem State.decideReports_first (s : State) {l : List FReport} {r : FReport} (h : winner l = some r)
    (hfree : s.digestLatched = false) :
    (s.decideReports l).rd .FAULT_DIGEST = r.digest ∧ (s.decideReports l).rd .FAULT_TIME = r.time % 2 ^ 64 := by
  obtain ⟨hdig, htime, -⟩ := s.latch_effect r
  have hdecided : ∀ o ∈ [Obj.FAULT_DIGEST, .FAULT_TIME], (s.decided l r).rd o = (s.latch r).rd o := fun o ho => by
    unfold State.decided
    rw [hfree, State.endLine_rd]
    exact State.each_same (·.rd o) _ (fun t x => t.laterFault_latch x ho _ _) _ _
  rw [s.decideReports_latch h (by decide), s.decideReports_latch h (by decide), hdecided _ (by decide), hdecided _ (by decide)]
  exact ⟨hdig, htime⟩

/-! ### A single report -/

theorem State.decided_single (s : State) (r : FReport) :
    s.decided [r] r = (if !s.digestLatched then s.latch r else s.laterFault r).endLine := by
  unfold State.decided
  rw [List.erase_cons_head]
  rfl

/-- What a digest marks outside an arm: the event, the strike of its region and the exclusion of a region that did not start. -/
def State.faultMarks (s : State) (r : FReport) : State := ((s.jobFaultEvent r).strike r).markStart r

theorem State.faultMarks_keeps (s : State) (r : FReport) :
    State.Keeps [.FAULT_DIGEST, .FAULT_TIME, .START_STATE] [.su] s (s.faultMarks r) := by
  have hevent : State.Keeps [.FAULT_DIGEST, .FAULT_TIME, .START_STATE] [.su] s (s.jobFaultEvent r) := by
    apply State.jobFaultEvent_frame (h := Fr.refl s) <;> decide
  have hstrike : State.Keeps [.FAULT_DIGEST, .FAULT_TIME, .START_STATE] [.su] s ((s.jobFaultEvent r).strike r) := by
    apply State.strike_frame (h := hevent) <;> decide
  apply State.markStart_frame (h := hstrike) <;> decide

theorem State.strike_flt (s : State) (r : FReport) : (s.strike r).flt = s.flt := by
  have h : State.Keeps [] [.flt] s (s.strike r) := by
    apply State.strike_frame (h := Fr.refl s) <;> decide
  exact h.same .flt (by decide)

theorem State.markStart_flt (s : State) (r : FReport) : (s.markStart r).flt = s.flt := by
  have h : State.Keeps [] [.flt] s (s.markStart r) := by
    apply State.markStart_frame (h := Fr.refl s) <;> decide
  exact h.same .flt (by decide)

theorem State.faultMarks_signals (s : State) (r : FReport) : (s.faultMarks r).signals = s.signals :=
  (State.signals_congr ((State.markStart_flt _ r).trans (State.strike_flt _ r))).trans (State.event_signals _ _ _ _ _)

/-- The fault unit asks for a job reset. -/
def State.askJobReset (s : State) : State := { s with su := { s.su with jobRstReq := true } }

/-- A digest of a ready block asks for a job reset, and the block waits for it. -/
theorem State.faultOutside_ready (s : State) (r : FReport) (hready : s.startIs .ready = true) :
    (s.faultOutside r).startIs .faultWait = true ∧ (s.faultOutside r).su.jobRstReq = true
      ∧ (s.faultOutside r).signals = s.signals ∧ (s.faultOutside r).rd .FAULT_TIME = s.rd .FAULT_TIME := by
  have hkeep := s.faultMarks_keeps r
  have hsig := s.faultMarks_signals r
  have hstart : (s.faultMarks r).startIs .ready = true :=
    (State.startIs_congr (hkeep.rd (by decide) 0 0) _).trans hready
  have heq : s.faultOutside r = (s.faultMarks r).askJobReset.setStart .faultWait := if_pos hstart
  rw [heq]
  refine ⟨State.startIs_setStart _ _, ?_, ?_, ?_⟩
  · exact congrArg StartUp.jobRstReq (State.wr_su _ _ _ _ _)
  · exact (State.wr_signals _ _ _ _ _).trans ((State.signals_congr rfl).trans hsig)
  · refine (State.rd_wr_other _ (by decide) _ _ _ _ _).trans ((State.rd_congr rfl rfl _ _ _).trans ?_)
    exact hkeep.rd (by decide) 0 0

/-- A report after the digest is counted and logged. -/
theorem State.laterFault_effect (s : State) (r : FReport) :
    s.Counted (s.laterFault r) .FAULT_LATER_COUNT
      ∧ s.Logged (s.laterFault r) 0x02 r.element (bits r.digest 48 16) r.injected
      ∧ (s.laterFault r).signals = s.signals ∧ (s.laterFault r).su = s.su := by
  have hcount : State.Keeps eventObjs [.clock, .flt, .su] s (s.inc .FAULT_LATER_COUNT) :=
    State.inc_frame (by decide) (Fr.refl s)
  generalize hcounted : s.inc .FAULT_LATER_COUNT = t at hcount
  have hval : t.rd .FAULT_LATER_COUNT = satAdd (objBits .FAULT_LATER_COUNT) (s.rd .FAULT_LATER_COUNT) 1 := by
    rw [← hcounted, State.rd_inc_self]
  have hevent := t.event_logged 0x02 r.element (bits r.digest 48 16) r.injected
  have hfr := t.event_fr 0x02 r.element (bits r.digest 48 16) r.injected
  have hsig := t.event_signals 0x02 r.element (bits r.digest 48 16) r.injected
  have hmark : State.Keeps (.FAULT_LATER_COUNT :: eventObjs) [.flt, .su]
      (t.event 0x02 r.element (bits r.digest 48 16) r.injected) (s.laterFault r) := by
    unfold State.laterFault
    rw [hcounted]
    apply State.markStart_frame (h := Fr.refl _) <;> decide
  refine ⟨?_, ?_, ?_, ?_⟩
  · exact (hmark.rd (by decide) 0 0).trans ((hfr.obj .FAULT_LATER_COUNT 0 0 (by decide)).trans hval)
  · have hT : t.T = s.T := congrArg Clock.T (hcount.same .clock (by decide))
    exact (hevent.of_congr (fun o ho e i => hcount.rd ho e i) hT).trans fun o ho e i => hmark.rd (List.mem_cons_of_mem _ ho) e i
  · exact (State.signals_congr (hmark.same .flt (by decide))).trans (hsig.trans (State.signals_congr (hcount.same .flt (by decide))))
  · exact (hmark.same .su (by decide)).trans ((hfr.part .su (by decide)).trans (hcount.same .su (by decide)))

/-- The reports on their way after the first `k` have arrived. -/
def State.dropReports (s : State) (k : Nat) : State :=
  { s with flt := { s.flt with reports := s.flt.reports.drop k } }

theorem faultReport_arrives {k : Nat} {s : State} (h : s.refs.shortStop = false) :
    exec (.faultReport k) s = .next ((s.dropReports k).decideReports (s.flt.reports.take k)) := by
  change execFaultReport k s = _
  unfold execFaultReport
  rw [h]
  rfl

theorem State.dropReports_rd (s : State) (k : Nat) (o : Obj) (e i : Nat) : (s.dropReports k).rd o e i = s.rd o e i :=
  State.rd_congr rfl rfl _ _ _

theorem State.dropReports_digestLatched (s : State) (k : Nat) : (s.dropReports k).digestLatched = s.digestLatched := by
  unfold State.digestLatched
  rw [State.dropReports_rd]

/-- The first single report of a ready block outside an arm: the block waits for a job reset. -/
theorem State.decideReports_ready (s : State) (r : FReport) (hrun : s.refs.shortStop = false) (hfree : s.digestLatched = false)
    (harm : s.su.arming = false) (hready : s.startIs .ready = true) :
    (s.decideReports [r]).startIs .faultWait = true ∧ (s.decideReports [r]).su.jobRstReq = true
      ∧ (s.decideReports [r]).flt.reports = s.flt.reports ∧ (s.decideReports [r]).rd .FAULT_TIME = r.time % 2 ^ 64
      ∧ (s.decideReports [r]).frozen = true := by
  obtain ⟨-, htime, hstart, hreports, harming, hfrozen⟩ := s.latch_effect r
  have hdecided : s.decided [r] r = (s.latch r).endLine := by
    rw [State.decided_single, hfree]
    rfl
  have heq : s.decideReports [r] = (s.latch r).endLine.faultOutside r := by
    rw [State.decideReports_eq s (winner_single r), hdecided, hfree]
    rw [show (s.latch r).endLine.su.arming = false from harming.trans harm]
    rfl
  have hstart' : (s.latch r).endLine.startIs .ready = true :=
    (State.startIs_congr ((State.endLine_rd _ _ _ _).trans hstart) _).trans hready
  obtain ⟨hwait, hask, hsig, htime'⟩ := (s.latch r).endLine.faultOutside_ready r hstart'
  have hsig' : ((s.latch r).endLine.faultOutside r).flt.reports = s.flt.reports := (congrArg Prod.fst hsig).trans hreports
  have hfrozen' : ((s.latch r).endLine.faultOutside r).flt.frozen = true :=
    (congrArg (fun x : List FReport × Bool × Option Nat × Bool => x.2.2.2) hsig).trans (hfrozen hrun)
  rw [heq]
  refine ⟨hwait, hask, hsig', htime'.trans ((State.endLine_rd _ _ _ _).trans htime), ?_⟩
  unfold State.frozen
  rw [hfrozen', Bool.true_or]

/-- A single report after the digest, outside an arm. -/
theorem State.decideReports_later (s : State) (r : FReport) (hlatched : s.digestLatched = true) (harm : s.su.arming = false) :
    (s.decideReports [r]).rd .FAULT_DIGEST = s.rd .FAULT_DIGEST ∧ s.Counted (s.decideReports [r]) .FAULT_LATER_COUNT
      ∧ s.Logged (s.decideReports [r]) 0x02 r.element (bits r.digest 48 16) r.injected
      ∧ (s.decideReports [r]).flt.reports = s.flt.reports := by
  obtain ⟨hcount, hlogged, hsig, hsu⟩ := s.laterFault_effect r
  have hdecided : s.decided [r] r = (s.laterFault r).endLine := by
    rw [State.decided_single, hlatched]
    rfl
  have heq : s.decideReports [r] = (s.laterFault r).endLine := by
    rw [State.decideReports_eq s (winner_single r), hdecided, hlatched]
    rw [show (s.laterFault r).endLine.su.arming = false from (congrArg StartUp.arming hsu).trans harm]
    rfl
  rw [heq]
  refine ⟨(State.endLine_rd _ _ _ _).trans (s.laterFault_latch r (by decide) _ _), ?_, hlogged.trans fun o _ e i => State.endLine_rd _ _ _ _,
    congrArg Prod.fst hsig⟩
  exact (State.endLine_rd _ _ _ _).trans hcount

/-- The digest that the line alone latches: class 0x7F and the time at which the line arrived. -/
def lineReport (at0 : Nat) : FReport := { cls := 0x7F, unit := 0xF, element := 0xFFFF, detail := 0xF, time := at0 }

theorem lineReport_digest (at0 : Nat) :
    bits (lineReport at0).digest 56 7 = 0x7F ∧ bits (lineReport at0).digest 0 32 = bits at0 10 32 := by
  have htime : bits at0 10 32 < 2 ^ 32 := Nat.mod_lt _ (by decide)
  have hdigest : (lineReport at0).digest
      = bits at0 10 32 + 65535 * 2 ^ 32 + 15 * 2 ^ 48 + 15 * 2 ^ 52 + 127 * 2 ^ 56 := by
    simp [FReport.digest, lineReport]
  rw [hdigest]
  generalize bits at0 10 32 = time at htime ⊢
  constructor <;> unfold bits <;> omega

/-- Settles O57: the winner of a batch is a least report of a strict weak order, and what follows the latch keeps the digest. -/
theorem firstFaultIsLatched : Obligations.FirstFaultIsLatched := by
  refine ⟨fun k s hrun hfree hsome => ?_, fun k s hstop => ?_, fun k r s hrun hfree hone harm hready => ?_,
    fun k r s hrun hlatched hone harm => ?_, fun s hline hrun => ?_, fun at0 s hat hfree hrun => ?_⟩
  · obtain ⟨r, hwin, hmem, hbest⟩ := winner_spec hsome
    refine ⟨_, faultReport_arrives hrun, r, hmem, ?_, hbest⟩
    exact (State.decideReports_first _ hwin ((s.dropReports_digestLatched k).trans hfree)).1
  · change execFaultReport k s = _
    unfold execFaultReport
    rw [hstop]
    rfl
  · refine ⟨_, faultReport_arrives hrun, ?_⟩
    rw [hone]
    exact (s.dropReports k).decideReports_ready r hrun ((s.dropReports_digestLatched k).trans hfree) harm
      ((State.startIs_congr (s.dropReports_rd k _ _ _) _).trans hready)
  · refine ⟨_, faultReport_arrives hrun, ?_⟩
    rw [hone]
    obtain ⟨hdig, hcount, hlogged, hreports⟩ :=
      (s.dropReports k).decideReports_later r ((s.dropReports_digestLatched k).trans hlatched) harm
    refine ⟨hdig.trans (s.dropReports_rd k _ _ _), ?_, hlogged.of_congr (fun o _ e i => s.dropReports_rd k _ _ _) rfl, hreports⟩
    unfold State.Counted at hcount ⊢
    rwa [s.dropReports_rd k] at hcount
  · refine ⟨({ s with flt := { s.flt with line := false } } : State).freezeAll, ?_, ?_, ?_⟩
    · change execFaultLine s = _
      unfold execFaultLine
      rw [hline, hrun]
      rfl
    · rw [State.freezeAll_flt]
    · unfold State.frozen
      rw [State.freezeAll_flt, Bool.true_or]
  · refine ⟨s.decideReports [lineReport at0], ?_, ?_⟩
    · change execLineOnly s = _
      unfold execLineOnly
      rw [hat]
      dsimp only
      rw [hfree, hrun]
      rfl
    · obtain ⟨hdig, htime⟩ := s.decideReports_first (winner_single (lineReport at0)) hfree
      obtain ⟨hclass, hat0⟩ := lineReport_digest at0
      unfold State.digestLatched
      rw [hdig, hclass]
      exact ⟨rfl, hat0, htime, rfl⟩

end Sys2Proof.Machine
end

section
/-! SUPPORT. The parity of a message on a spine link (R20). -/

namespace Sys2Proof.Machine
open Sys2Proof

theorem popCount_succ (n w : Nat) : popCount n (w + 1) = popCount n w + (n.testBit w).toNat := by
  unfold popCount
  rw [List.range_succ, List.filter_append, List.length_append, List.filter_singleton, bit_eq_testBit]
  cases n.testBit w <;> rfl

theorem popCount_congr {n n' w : Nat} (h : ∀ i < w, n.testBit i = n'.testBit i) : popCount n w = popCount n' w := by
  unfold popCount
  refine congrArg _ (List.filter_congr fun i hi => ?_)
  rw [bit_eq_testBit, bit_eq_testBit, h i (List.mem_range.mp hi)]

/-- Bits turned over change the parity by their number. -/
theorem popCount_xor (a b w : Nat) : popCount (a ^^^ b) w % 2 = (popCount a w + popCount b w) % 2 := by
  induction w with
  | zero => rfl
  | succ w ih =>
    rw [popCount_succ, popCount_succ, popCount_succ, Nat.testBit_xor]
    cases a.testBit w <;> cases b.testBit w <;> simp <;> omega

theorem popCount_zero (w : Nat) : popCount 0 w = 0 := by
  induction w with
  | zero => rfl
  | succ w ih => rw [popCount_succ, ih, Nat.zero_testBit]; rfl

theorem popCount_two_pow (i w : Nat) : popCount (2 ^ i) w = if i < w then 1 else 0 := by
  induction w with
  | zero => rfl
  | succ w ih =>
    rw [popCount_succ, ih, Nat.testBit_two_pow]
    rcases Nat.lt_trichotomy i w with h | h | h
    · simp [h, h.ne, Nat.lt_succ_of_lt h]
    · simp [h]
    · simp [h.ne', h.not_gt, Nat.not_lt_of_ge h]

/-- A message with its parity bit has an even number of ones. -/
theorem popCount_with_parity (msg : Nat) : popCount (msg % 2 ^ 64 + 2 ^ 64 * (popCount msg 64 % 2)) 65 % 2 = 0 := by
  have hlt : msg % 2 ^ 64 < 2 ^ 64 := Nat.mod_lt _ (by decide)
  have hlow : popCount (msg % 2 ^ 64 + 2 ^ 64 * (popCount msg 64 % 2)) 64 = popCount msg 64 := by
    refine popCount_congr fun i hi => ?_
    rw [Nat.add_comm, Nat.testBit_two_pow_mul_add _ hlt, if_pos hi, Nat.testBit_mod_two_pow]
    simp [hi]
  have htop : (msg % 2 ^ 64 + 2 ^ 64 * (popCount msg 64 % 2)).testBit 64 = decide (popCount msg 64 % 2 = 1) := by
    rw [Nat.add_comm, Nat.testBit_two_pow_mul_add _ hlt, if_neg (by decide)]
    simp
  rw [popCount_succ, hlow, htop]
  rcases Nat.mod_two_eq_zero_or_one (popCount msg 64) with h | h
  · simp [h]
  · simp [h]
    omega

/-- A message arrives with a parity error where an odd number of its 65 bits is turned over. -/
theorem parityError_eq (msg flips : Nat) : parityError msg flips = (popCount (flips % 2 ^ 65) 65 % 2 == 1) := by
  have h := popCount_xor (msg % 2 ^ 64 + 2 ^ 64 * (popCount msg 64 % 2)) (flips % 2 ^ 65) 65
  rw [Nat.add_mod, popCount_with_parity, Nat.zero_add, Nat.mod_mod] at h
  exact congrArg (· == 1) h

theorem parityError_none (msg : Nat) : parityError msg 0 = false := by
  rw [parityError_eq, Nat.zero_mod, popCount_zero]
  rfl

theorem parityError_one (msg : Nat) {i : Nat} (h : i < 65) : parityError msg (2 ^ i) = true := by
  rw [parityError_eq, Nat.mod_eq_of_lt (Nat.pow_lt_pow_right (by decide) h), popCount_two_pow, if_pos h]
  rfl

end Sys2Proof.Machine
end

section
/-! SUPPORT. A message sent again on a spine link with no injection (R20, R525). -/

namespace Sys2Proof.Machine
open Sys2Proof

/-! ### What the sending hop keeps (R20) -/

/-- The messages that a hop keeps lie within its last 8. -/
theorem Hop.keep_close (h : Hop) (seq msg : Nat) {y z : Nat × Nat} (hy : y ∈ (h.keep seq msg).kept)
    (hz : z ∈ (h.keep seq msg).kept) : z.1 < y.1 + 8 := by
  unfold Hop.keep at hy hz
  exact of_decide_eq_true (List.all_eq_true.mp (List.mem_filter.mp hy).2 z (List.mem_filter.mp hz).1)

/-- A message that is asked for and not yet kept is kept, where it is not behind the last 8. -/
theorem Hop.mem_keep {h : Hop} {seq : Nat} (msg : Nat) (hholds : h.holds seq = true) (hnew : ∀ y ∈ h.kept, y.1 ≠ seq) :
    (seq, msg % 2 ^ 64) ∈ (h.keep seq msg).kept := by
  have hany : (h.kept.any fun x => x.1 == seq) = false := by
    rw [List.any_eq_false]
    exact fun y hy he => hnew y hy (eq_of_beq he)
  unfold Hop.keep
  rw [hany]
  refine List.mem_filter.mpr ⟨List.mem_append_right _ (List.mem_singleton_self _), List.all_eq_true.mpr fun y hy => ?_⟩
  rcases List.mem_append.mp hy with hy | hy
  · exact List.all_eq_true.mp hholds y hy
  · rw [List.mem_singleton.mp hy]
    exact decide_eq_true (by dsimp only; omega)

/-- The hop after another try of message `m`, which failed where `bad`. -/
def Hop.tried (h : Hop) (m : HopMsg) (bad : Bool) : Hop :=
  { h.keep m.seq m.msg with
    failed := Tab.set h.failed m.seq
      (if bad && decide (Tab.get h.failed m.seq 0 + 1 < 3) then Tab.get h.failed m.seq 0 + 1 else 0) 0 }

theorem Hop.tried_failed (h : Hop) (m : HopMsg) (bad : Bool) :
    Tab.get (h.tried m bad).failed m.seq 0
      = if bad && decide (Tab.get h.failed m.seq 0 + 1 < 3) then Tab.get h.failed m.seq 0 + 1 else 0 :=
  Tab.get_set_self _ _ _ _

/-! ### The try -/

def State.setHop (s : State) (key : Nat) (h : Hop) : State := { s with hop := Tab.set s.hop key h {} }

/-- The link of hop `dst` fails: counted, and reported. -/
def State.linkFails (s : State) (dst : Nat × Nat) (gap : Bool) : State :=
  (s.inc .SPINE_LINK_FAILS).raiseFault .spineLink dst.1 dst.2 gap.toNat false

theorem State.injSpine_none {s : State} (h : s.inj.cur = none) (a b : Nat × Nat) : s.injSpine a b = none := by
  unfold State.injSpine State.injAt
  rw [h]
  rfl

theorem State.sendAgain_eq {s : State} {a b : Nat × Nat} {m : HopMsg} {x : HopTry} {h : Hop} {bad : Bool}
    (hinj : s.inj.cur = none) (hh : h = Tab.get s.hop (hopKey a b) {})
    (hbad : bad = (x.lost || parityError ((h.keep m.seq m.msg).word m) x.flips || !h.holds m.seq)) :
    s.sendAgain a b m x = ((s.inc .SPINE_RETRANSMITS).setHop (hopKey a b) (h.tried m bad)).when
      (bad && decide (3 ≤ Tab.get h.failed m.seq 0 + 1)) fun v => v.linkFails b x.gap := by
  have hnone : (s.inc .SPINE_RETRANSMITS).injSpine a b = none :=
    State.injSpine_none ((congrArg Injection.cur (State.inc_inj _ _ _ _)).trans hinj) a b
  delta State.sendAgain
  extract_lets key h0 h1 tries t1 t2 hurt t3 bad1 left u
  have ht2 : t2 = t1 := by
    unfold t2 t1
    rw [hnone, Option.isSome_none, Bool.and_false, State.when_false]
  have hhurt : hurt = false := by
    unfold hurt
    rw [ht2, hnone, Option.isSome_none, Bool.and_false]
  have ht3 : t3 = t1 := by
    unfold t3
    rw [hhurt, State.when_false, ht2]
  have hbad1 : bad1 = bad := by
    unfold bad1 h1 h0
    rw [hhurt, hbad, hh, Bool.or_false]
  have hu : u = (s.inc .SPINE_RETRANSMITS).setHop (hopKey a b) (h.tried m bad) := by
    unfold u left tries h1 h0
    rw [hbad1, ht3, ← hh]
    rfl
  have htries : tries = Tab.get h.failed m.seq 0 := by
    rw [hh]
    rfl
  rw [hu, hbad1, hhurt, htries]
  rfl

/-! ### Its effect -/

theorem State.raiseFault_faulted {s t : State} (cls : FaultClass) (unit elem detail : Nat) (hflt : t.flt = s.flt) (hT : t.T = s.T) :
    s.Faulted (t.raiseFault cls unit elem detail) cls unit elem detail false := by
  refine ⟨rfl, ?_⟩
  rw [← hflt, ← hT]
  rfl

theorem State.setHop_rd (s : State) (key : Nat) (h : Hop) (o : Obj) (e i : Nat) : (s.setHop key h).rd o e i = s.rd o e i :=
  State.rd_congr rfl rfl _ _ _

/-- What a try counts and keeps. -/
theorem State.retried_effect (s : State) (key : Nat) (h : Hop) :
    s.Counted ((s.inc .SPINE_RETRANSMITS).setHop key h) .SPINE_RETRANSMITS
      ∧ ((s.inc .SPINE_RETRANSMITS).setHop key h).rd .SPINE_LINK_FAILS = s.rd .SPINE_LINK_FAILS
      ∧ ((s.inc .SPINE_RETRANSMITS).setHop key h).flt = s.flt ∧ ((s.inc .SPINE_RETRANSMITS).setHop key h).T = s.T
      ∧ Tab.get ((s.inc .SPINE_RETRANSMITS).setHop key h).hop key {} = h :=
  ⟨(State.setHop_rd _ _ _ _ _ _).trans (State.rd_inc_self _ _ _ _),
    (State.setHop_rd _ _ _ _ _ _).trans (State.rd_inc_other _ (by decide) _ _ _ _),
    State.inc_flt s .SPINE_RETRANSMITS 0 0, congrArg Clock.T (State.inc_clock s .SPINE_RETRANSMITS 0 0), Tab.get_set_self _ _ _ _⟩

theorem State.raiseFault_rd (s : State) (cls : FaultClass) (unit elem detail : Nat) (inj : Bool) (o : Obj) (e i : Nat) :
    (s.raiseFault cls unit elem detail inj).rd o e i = s.rd o e i :=
  State.rd_congr rfl rfl _ _ _

/-- What the failure of a link counts, reports and keeps. -/
theorem State.linkFails_effect (s : State) (dst : Nat × Nat) (gap : Bool) :
    s.Counted (s.linkFails dst gap) .SPINE_LINK_FAILS
      ∧ (s.linkFails dst gap).rd .SPINE_RETRANSMITS = s.rd .SPINE_RETRANSMITS
      ∧ s.Faulted (s.linkFails dst gap) .spineLink dst.1 dst.2 gap.toNat false ∧ (s.linkFails dst gap).hop = s.hop :=
  ⟨(State.raiseFault_rd _ _ _ _ _ _ _ _ _).trans (State.rd_inc_self _ _ _ _),
    (State.raiseFault_rd _ _ _ _ _ _ _ _ _).trans (State.rd_inc_other _ (by decide) _ _ _ _),
    State.raiseFault_faulted _ _ _ _ (State.inc_flt _ _ _ _) (congrArg Clock.T (State.inc_clock _ _ _ _)),
    State.inc_hop s .SPINE_LINK_FAILS 0 0⟩

theorem State.Faulted.of_congr {s s' t : State} {cls : FaultClass} {unit elem detail : Nat} {inj : Bool}
    (h : s'.Faulted t cls unit elem detail inj) (hflt : s'.flt = s.flt) (hT : s'.T = s.T) :
    s.Faulted t cls unit elem detail inj := by
  unfold State.Faulted at h ⊢
  rwa [← hflt, ← hT]

/-- What a retransmission leaves: the third failed try for a message fails the link. -/
theorem State.sendAgain_effect {s : State} {a b : Nat × Nat} {m : HopMsg} {x : HopTry} {h : Hop} {bad : Bool}
    (hinj : s.inj.cur = none) (hh : h = Tab.get s.hop (hopKey a b) {})
    (hbad : bad = (x.lost || parityError ((h.keep m.seq m.msg).word m) x.flips || !h.holds m.seq)) :
    s.Counted (s.sendAgain a b m x) .SPINE_RETRANSMITS
      ∧ Tab.get (s.sendAgain a b m x).hop (hopKey a b) {} = h.tried m bad
      ∧ ((bad && decide (3 ≤ Tab.get h.failed m.seq 0 + 1)) = false → (s.sendAgain a b m x).flt = s.flt)
      ∧ ((bad && decide (3 ≤ Tab.get h.failed m.seq 0 + 1)) = true → s.Counted (s.sendAgain a b m x) .SPINE_LINK_FAILS
          ∧ s.Faulted (s.sendAgain a b m x) .spineLink b.1 b.2 x.gap.toNat false) := by
  rw [State.sendAgain_eq hinj hh hbad]
  obtain ⟨hcount, hlinks, hflt, hT, hhop⟩ := s.retried_effect (hopKey a b) (h.tried m bad)
  generalize (s.inc .SPINE_RETRANSMITS).setHop (hopKey a b) (h.tried m bad) = t at hcount hlinks hflt hT hhop ⊢
  cases bad && decide (3 ≤ Tab.get h.failed m.seq 0 + 1)
  · exact ⟨hcount, hhop, fun _ => hflt, nofun⟩
  · obtain ⟨hfails, hretr, hfault, hhop'⟩ := t.linkFails_effect b x.gap
    rw [State.when_true]
    refine ⟨hretr.trans hcount, (congrArg (Tab.get · _ _) hhop').trans hhop, nofun, fun _ => ⟨?_, hfault.of_congr hflt hT⟩⟩
    unfold State.Counted at hfails ⊢
    rwa [hlinks] at hfails

theorem spineRetransmit_sends {a b : Nat × Nat} {m : HopMsg} {x : HopTry} {s : State} (hlinked : s.linked a b = true)
    (hfound : x.gap = true ∨ parityError m.msg m.flips = true
      ∨ Tab.get (Tab.get s.hop (hopKey a b) {}).failed m.seq 0 ≠ 0) :
    exec (.spineRetransmit a b m x) s = .next (s.sendAgain a b m x) := by
  change execSpineRetransmit a b m x s = _
  unfold execSpineRetransmit
  dsimp only
  have h : (x.gap || parityError m.msg m.flips || (s.injSpine a b).isSome
      || Tab.get (Tab.get s.hop (hopKey a b) {}).failed m.seq 0 != 0) = true := by
    rcases hfound with h | h | h <;> simp [h]
  rw [hlinked, h]
  rfl

/-- A hop that finds a message whole and in its place asks for nothing. -/
theorem spineRetransmit_nothing {a b : Nat × Nat} {m : HopMsg} {x : HopTry} {s : State} (hinj : s.inj.cur = none)
    (hgap : x.gap = false) (hwhole : parityError m.msg m.flips = false)
    (hnone : Tab.get (Tab.get s.hop (hopKey a b) {}).failed m.seq 0 = 0) :
    exec (.spineRetransmit a b m x) s = .next s := by
  change execSpineRetransmit a b m x s = _
  unfold execSpineRetransmit
  dsimp only
  rw [hgap, hwhole, hnone, State.injSpine_none hinj]
  simp

end Sys2Proof.Machine
end

section
/-! SUPPORT. The reset of the Dictionary Engine leaves no access behind it (R40). -/

namespace Sys2Proof.Machine
open Sys2Proof

/-- The accesses that wait for the Dictionary Engine: REMOTE ones, and requests of the host behind them. -/
def State.queues (s : State) : List RemoteAcc × List HeldReq := (s.dict.remote, s.ports.hostHeld)

theorem State.queues_congr {s t : State} (hdict : t.dict = s.dict) (hports : t.ports = s.ports) : t.queues = s.queues := by
  unfold State.queues
  rw [hdict, hports]

theorem State.Keeps.queues {os : List Obj} {ps : List Part} {s t : State} (h : State.Keeps os ps s t)
    (hp : Part.dict ∈ ps ∧ Part.ports ∈ ps) : t.queues = s.queues :=
  State.queues_congr (h.same .dict hp.1) (h.same .ports hp.2)

theorem State.wr_queues (s : State) (o : Obj) (v e i : Nat) : (s.wr o v e i).queues = s.queues :=
  State.queues_congr (State.wr_dict s o v e i) (State.wr_ports s o v e i)

theorem State.inc_queues (s : State) (o : Obj) (e i : Nat) : (s.inc o e i).queues = s.queues := State.wr_queues _ _ _ _ _

theorem State.hostAnswer_queues (s : State) (addr : Nat) (w : Bool) (c : Code) (data retry : Nat) :
    (s.hostAnswer addr w c data retry).queues = s.queues := by
  unfold State.hostAnswer
  dsimp only
  split
  · rfl
  · exact (State.inc_queues _ _ _ _).trans ((State.wr_queues _ _ _ _ _).trans rfl)

theorem State.replyVal_queues (s : State) (a : Access) (c : Code) (known : Option (Obj × Nat)) (v : Nat) :
    (s.replyVal a c known v).queues = s.queues := by
  unfold State.replyVal
  dsimp only
  split
  · split
    · exact State.hostAnswer_queues _ _ _ _ _ _
    · rfl
  · rfl
  · next q _ =>
    have h : State.Keeps [] [.dict, .ports] s (s.answerFdp q a.write c (known.map (·.1)) v) := by
      apply State.answerFdp_frame (h := Fr.refl s) <;> decide
    exact h.queues (by decide)
  · rfl
  · next p frame _ =>
    have h : ∀ x, State.Keeps [] [.dict, .ports] s (s.answerNet p frame c x) := fun x => by
      apply State.answerNet_frame (h := Fr.refl s) <;> decide
    exact (h _).queues (by decide)

theorem State.auditCount_queues (s : State) (cls : Nat) (ok : Bool) : (s.auditCount cls ok).queues = s.queues := by
  unfold State.auditCount
  dsimp only
  split <;> exact (State.inc_queues _ _ _ _).trans rfl

theorem State.auditAt_queues (s : State) (at0 : Nat) (r : AuditRec) : (s.auditAt at0 r).queues = s.queues := by
  unfold State.auditAt
  dsimp only
  refine (State.wr_queues _ _ _ _ _).trans ((State.wr_queues _ _ _ _ _).trans ?_)
  refine (State.when_same State.queues _ ?_ _ _).trans rfl
  exact fun t => State.inc_queues _ _ _ _

theorem State.auditWrite_queues (s : State) (a : Attempt) (code : Code) (dirty : Bool) :
    (s.auditWrite a code dirty).queues = s.queues :=
  (State.auditAt_queues _ _ _).trans (State.auditCount_queues _ _ _)

theorem State.auditRefuse_queues (s : State) (cls : Nat) (code : Code) : (s.auditRefuse cls code).queues = s.queues := by
  have h : ((s.auditCount cls false).inc .AUDIT_MERGED).queues = s.queues :=
    (State.inc_queues _ _ _ _).trans (State.auditCount_queues _ _ _)
  unfold State.auditRefuse
  generalize (s.auditCount cls false).inc .AUDIT_MERGED = t at h
  exact h

theorem State.giveUp_queues (s : State) (x : RemoteAcc) : (s.giveUp x).queues = s.queues := by
  unfold State.giveUp State.reply
  refine (State.replyVal_queues _ _ _ _ _).trans (State.when_same State.queues _ ?_ _ _)
  exact fun t => State.auditWrite_queues _ _ _ _

theorem State.refuse_queues (s : State) (a : Access) (c : Code) (known : Option (Obj × Nat)) :
    (s.refuse a c known).queues = s.queues := by
  unfold State.refuse State.reply
  refine (State.replyVal_queues _ _ _ _ _).trans ((State.when_same State.queues _ ?_ _ _).trans ?_)
  · exact fun t => State.wr_queues _ _ _ _ _
  · split
    · exact State.auditRefuse_queues _ _ _
    · exact State.auditWrite_queues _ _ _ _

theorem State.giveUpIdx_queues (s : State) (w : Bool) (len : Nat) : (s.giveUpIdx w len).queues = s.queues := by
  unfold State.giveUpIdx
  dsimp only
  split
  · exact State.refuse_queues _ _ _ _
  · exact State.replyVal_queues _ _ _ _ _

/-! ### The failures counted -/

/-- The counters of the sequencers' failures. -/
def seqCounters : List Obj := [.SEQ_PARITY_ERRS, .WATCHDOG_EXPIRIES, .FUNCTION_RESETS]

theorem State.giveUp_counters (s : State) (x : RemoteAcc) : State.Keeps seqCounters [] s (s.giveUp x) := by
  apply State.giveUp_frame (h := Fr.refl s) <;> decide

theorem State.giveUpIdx_counters (s : State) (w : Bool) (len : Nat) : State.Keeps seqCounters [] s (s.giveUpIdx w len) := by
  apply State.giveUpIdx_frame (h := Fr.refl s) <;> decide

/-- With no access and no request waiting behind it, the end of an access lets nothing through. -/
theorem State.nothing_waits {s : State} (h : s.queues = ([], [])) (o : Obj) (e i : Nat) :
    s.nextRemote.hostHeldOut.rd o e i = s.rd o e i := by
  obtain ⟨hremote, hheld⟩ := Prod.mk.inj h
  have hnext : s.nextRemote = { s with dict := { s.dict with remote := s.flying } } := by
    unfold State.nextRemote
    rw [hremote]
    rfl
  have hports : s.nextRemote.ports = s.ports := by rw [hnext]
  have hrd : s.nextRemote.rd o e i = s.rd o e i := by
    rw [hnext]
    exact State.rd_congr rfl rfl _ _ _
  unfold State.hostHeldOut
  rw [← hrd]
  generalize s.nextRemote = t at hports
  rw [← hports] at hheld
  cases !t.refs.shortStop
  · rfl
  · rw [State.when_true, hheld]
    exact State.rd_congr rfl rfl _ _ _

/-- The Dictionary Engine with no access in flight. -/
def State.dropFlying (s : State) : State :=
  { s with dict := { s.dict with remote := s.dict.remote.filter fun x => !x.flying } }

/-- The indirect operation in progress is given up, where it waits for no REMOTE access. -/
def State.dropIdx (s : State) : State :=
  match s.idx.op with
  | some (w, len) => s.when (!s.dict.remote.any fun x => x.via == Via.idx) fun u => u.giveUpIdx w len
  | none => s

theorem State.resetDictionary_eq (s : State) :
    s.resetDictionary = (s.dropFlying.each s.flying State.giveUp).dropIdx.nextRemote.hostHeldOut := rfl

theorem State.dropIdx_same {β : Type} (p : State → β) (s : State) (h : ∀ t w len, p ((t : State).giveUpIdx w len) = p t) :
    p s.dropIdx = p s := by
  unfold State.dropIdx
  split
  · exact State.when_same p _ (fun t => h t _ _) _ _
  · rfl

/-- With nothing behind the accesses in flight, the reset of the Dictionary Engine counts no failure. -/
theorem State.resetDictionary_counters {s : State} (hheld : s.ports.hostHeld = []) (hfly : ∀ y ∈ s.dict.remote, y.flying = true)
    {o : Obj} (ho : o ∈ seqCounters) (e i : Nat) : s.resetDictionary.rd o e i = s.rd o e i := by
  have hnone : s.dropFlying.queues = ([], []) := by
    have hfilter : (s.dict.remote.filter fun x => !x.flying) = [] :=
      List.filter_eq_nil_iff.mpr fun y hy => by rw [hfly y hy]; decide
    exact Prod.ext hfilter hheld
  have hqueues : (s.dropFlying.each s.flying State.giveUp).dropIdx.queues = ([], []) :=
    (State.dropIdx_same State.queues _ State.giveUpIdx_queues).trans
      ((State.each_same State.queues _ State.giveUp_queues _ _).trans hnone)
  rw [State.resetDictionary_eq]
  calc _ = (s.dropFlying.each s.flying State.giveUp).dropIdx.rd o e i := State.nothing_waits hqueues o e i
    _ = (s.dropFlying.each s.flying State.giveUp).rd o e i :=
        State.dropIdx_same (·.rd o e i) _ fun t w len => (t.giveUpIdx_counters w len).rd ho e i
    _ = s.dropFlying.rd o e i := State.each_same (·.rd o e i) _ (fun t x => (t.giveUp_counters x).rd ho e i) _ _
    _ = s.rd o e i := State.rd_congr rfl rfl _ _ _

/-! ### What a failing sequencer causes (R39, R40) -/

/-- The reset that a function reset causes. -/
def State.resetOf (s : State) (q : Seqr) : State :=
  match q with
  | .dictionary => s.resetDictionary
  | .fondant => s.resetFondant
  | .praline => s.setFallback true
  | .budget => { s with budget := { s.budget with skip := true } }
  | _ => s

/-- One reset more in the sums of the event summary. -/
def State.sumReset (s : State) : State := { s with flt := { s.flt with sumResets := s.flt.sumResets + 1 } }

theorem State.functionReset_eq (s : State) (q : Seqr) :
    s.functionReset q = ((s.resetOf q).sumReset.inc .FUNCTION_RESETS).event 0x60 0xFFFF q.ctorIdx := rfl

theorem State.resetOf_counters {s : State} {q : Seqr}
    (hquiet : q = .dictionary → s.ports.hostHeld = [] ∧ ∀ y ∈ s.dict.remote, y.flying = true) {o : Obj} (ho : o ∈ seqCounters)
    (e i : Nat) : (s.resetOf q).rd o e i = s.rd o e i := by
  cases q with
  | dictionary =>
    obtain ⟨hheld, hfly⟩ := hquiet rfl
    exact State.resetDictionary_counters hheld hfly ho e i
  | fondant =>
    have h : State.Keeps seqCounters [] s s.resetFondant := by
      apply State.resetFondant_frame (h := Fr.refl s) <;> decide
    exact h.rd ho e i
  | praline =>
    have h : State.Keeps seqCounters [] s (s.setFallback true) := by
      apply State.setFallback_frame (h := Fr.refl s) <;> decide
    exact h.rd ho e i
  | budget => exact State.rd_congr rfl rfl _ _ _
  | _ => rfl

theorem State.event_counters (s : State) (code elem data : Nat) (inj : Bool) {o : Obj} (ho : o ∈ seqCounters) (e i : Nat) :
    (s.event code elem data inj).rd o e i = s.rd o e i := by
  refine (s.event_fr code elem data inj).obj o e i fun hev => ?_
  exact (by decide : ∀ o ∈ seqCounters, o ∉ eventObjs) o ho hev

/-- The counters of failures found, which the reset that follows leaves alone. -/
def foundCounters : List Obj := [.SEQ_PARITY_ERRS, .WATCHDOG_EXPIRIES]

/-- A function reset is counted, and counts no other failure. -/
theorem State.functionReset_effect {s : State} {q : Seqr}
    (hquiet : q = .dictionary → s.ports.hostHeld = [] ∧ ∀ y ∈ s.dict.remote, y.flying = true) :
    s.Counted (s.functionReset q) .FUNCTION_RESETS
      ∧ ∀ o ∈ foundCounters, ∀ e i, (s.functionReset q).rd o e i = s.rd o e i := by
  have hsum : ∀ o ∈ seqCounters, ∀ e i, (s.resetOf q).sumReset.rd o e i = s.rd o e i := fun o ho e i =>
    (State.rd_congr rfl rfl _ _ _).trans (State.resetOf_counters hquiet ho e i)
  rw [State.functionReset_eq]
  refine ⟨?_, fun o ho e i => ?_⟩
  · refine (State.event_counters _ _ _ _ _ (by decide) _ _).trans ((State.rd_inc_self _ _ _ _).trans ?_)
    rw [hsum _ (by decide)]
  · have hmem : o ∈ seqCounters := (by decide : ∀ o ∈ foundCounters, o ∈ seqCounters) o ho
    have hne : o ≠ .FUNCTION_RESETS := (by decide : ∀ o ∈ foundCounters, o ≠ .FUNCTION_RESETS) o ho
    exact (State.event_counters _ _ _ _ _ hmem _ _).trans ((State.rd_inc_other _ hne _ _ _ _).trans (hsum o hmem e i))

theorem State.startSeqFails_found (s : State) {o : Obj} (ho : o ∈ foundCounters) (e i : Nat) :
    s.startSeqFails.rd o e i = s.rd o e i := by
  have h : State.Keeps foundCounters [] s s.startSeqFails := by
    apply State.startSeqFails_frame (h := Fr.refl s) <;> decide
  exact h.rd ho e i

/-- A failure of a sequencer counts no other. -/
theorem State.seqFails_found {s : State} {q : Seqr} (cls : FaultClass) (elem : Nat)
    (hquiet : q = .dictionary → s.ports.hostHeld = [] ∧ ∀ y ∈ s.dict.remote, y.flying = true) {o : Obj} (ho : o ∈ foundCounters)
    (e i : Nat) : (s.seqFails q cls elem).rd o e i = s.rd o e i := by
  cases q with
  | start => exact State.startSeqFails_found s ho e i
  | dictionary | fondant | praline | budget => exact (State.functionReset_effect hquiet).2 o ho e i
  | _ => exact State.raiseFault_rd _ _ _ _ _ _ _ _ _

theorem State.lastStep_congr {s t : State} (hready : t.rd .UNIT_READY = s.rd .UNIT_READY) (hsu : t.su = s.su)
    (hfon : t.fon = s.fon) : t.lastStep = s.lastStep := by
  unfold State.lastStep
  simp only [State.isReady_congr hready, hsu, hfon]

theorem Seqr.code_of_ofCode {code : Nat} {q : Seqr} (h : Seqr.ofCode code = some q) : code = q.ctorIdx := by
  have hlt : code < 12 := (List.getElem?_eq_some_iff.mp h).1
  have hall : ∀ c < 12, ∀ q ∈ Seqr.ofCode c, c = q.ctorIdx := by decide
  exact hall code hlt q h

/-- What a failure of a sequencer causes, by its code. -/
theorem State.seqFails_effect {s u : State} {q : Seqr} (cls : FaultClass) (elem : Nat)
    (hquiet : q = .dictionary → s.ports.hostHeld = [] ∧ ∀ y ∈ s.dict.remote, y.flying = true) (hu : u = s.seqFails q cls elem) :
    (q.ctorIdx ∈ [1, 2, 3, 5, 6, 7] → s.Faulted u cls 3 0 q.ctorIdx false)
      ∧ (q.ctorIdx = 4 → s.Faulted u cls 1 elem 4 false) ∧ (8 ≤ q.ctorIdx → s.Counted u .FUNCTION_RESETS)
      ∧ (q.ctorIdx = 0 → s.su.arming = false → s.su.everReady = true → s.Logged u 0x04 0xFFFF s.lastStep false) := by
  subst hu
  cases q with
  | start =>
    refine ⟨nofun, nofun, nofun, fun _ harm hready => ?_⟩
    have heq : s.seqFails .start cls elem = s.event 0x04 0xFFFF s.lastStep := by
      change s.startSeqFails = _
      unfold State.startSeqFails
      rw [harm, hready]
      rfl
    rw [heq]
    exact State.event_logged _ _ _ _ _
  | fastCap => exact ⟨nofun, fun _ => State.raiseFault_faulted _ _ _ _ rfl rfl, nofun, nofun⟩
  | dictionary | fondant | praline | budget =>
    exact ⟨nofun, nofun, fun _ => (State.functionReset_effect hquiet).1, nofun⟩
  | _ => exact ⟨fun _ => State.raiseFault_faulted _ _ _ _ rfl rfl, nofun, nofun, nofun⟩

end Sys2Proof.Machine
end

section
/-! PROOF. Links, sequencers and the alert pin (R20, R39, R40, R525, R526). -/

namespace Sys2Proof.Machine
open Sys2Proof

/-- A failure of a sequencer that is found is counted at its code, and causes what the code asks for. -/
theorem sequencerFound_effect {s u : State} {code elem : Nat} {q : Seqr} {o : Obj} (cls : FaultClass) (ho : o ∈ foundCounters)
    (hq : s.seqAt code elem = some q) (hquiet : code = 8 → s.ports.hostHeld = [] ∧ ∀ y ∈ s.dict.remote, y.flying = true)
    (hu : u = (s.inc o 0 code).seqFails q cls elem) :
    u.rd o 0 code = satAdd (objBits o) (s.rd o 0 code) 1
      ∧ (code ∈ [1, 2, 3, 5, 6, 7] → s.Faulted u cls 3 0 code false)
      ∧ (code = 4 → s.Faulted u cls 1 elem 4 false)
      ∧ (8 ≤ code → s.Counted u .FUNCTION_RESETS)
      ∧ (code = 0 → s.su.arming = false → s.su.everReady = true → s.Logged u 0x04 0xFFFF s.lastStep false) := by
  have hcode : code = q.ctorIdx := Seqr.code_of_ofCode (Option.filter_eq_some_iff.mp hq).1
  have hflt := State.inc_flt s o 0 code
  have hsu := State.inc_su s o 0 code
  have hT : (s.inc o 0 code).T = s.T := congrArg Clock.T (State.inc_clock s o 0 code)
  have hother : ∀ o', o' ≠ o → ∀ e i, (s.inc o 0 code).rd o' e i = s.rd o' e i := fun o' h e i =>
    State.rd_inc_other s h _ _ _ _
  have hquiet' : q = .dictionary →
      (s.inc o 0 code).ports.hostHeld = [] ∧ ∀ y ∈ (s.inc o 0 code).dict.remote, y.flying = true := fun h => by
    rw [State.inc_ports, State.inc_dict]
    exact hquiet (by rw [hcode, h]; rfl)
  obtain ⟨hconductor, hstation, hreset, hstart⟩ := State.seqFails_effect cls elem hquiet' hu
  rw [← hcode] at hconductor hstation hreset hstart
  refine ⟨?_, fun h => (hconductor h).of_congr hflt hT, fun h => (hstation h).of_congr hflt hT, fun h => ?_,
    fun h harm hready => ?_⟩
  · rw [hu, State.seqFails_found cls elem hquiet' ho, State.rd_inc_self]
  · have hne : .FUNCTION_RESETS ≠ o := (by decide : ∀ o ∈ foundCounters, .FUNCTION_RESETS ≠ o) o ho
    have hcount := hreset h
    unfold State.Counted at hcount ⊢
    rwa [hother _ hne] at hcount
  · have hlog : ∀ o' ∈ eventObjs, o' ≠ o := fun o' ho' =>
      (by decide : ∀ o ∈ foundCounters, ∀ o' ∈ eventObjs, o' ≠ o) o ho o' ho'
    have hne : .UNIT_READY ≠ o := (by decide : ∀ o ∈ foundCounters, .UNIT_READY ≠ o) o ho
    have hlast : (s.inc o 0 code).lastStep = s.lastStep :=
      State.lastStep_congr (hother _ hne _ _) hsu (State.inc_fon s o 0 code)
    have hlogged := hstart h ((congrArg StartUp.arming hsu).trans harm) ((congrArg StartUp.everReady hsu).trans hready)
    rw [hlast] at hlogged
    exact hlogged.of_congr (fun o' ho' e i => hother o' (hlog o' ho') e i) hT

theorem seqParity_fails {s : State} {code elem : Nat} {q : Seqr} (hq : s.seqAt code elem = some q) :
    exec (.seqParity code elem) s = .next ((s.inc .SEQ_PARITY_ERRS 0 code).seqFails q .seqParity elem) := by
  change execSeqParity code elem s = _
  unfold execSeqParity
  rw [hq]

theorem watchdog_fails {s : State} {code elem us : Nat} {q : Seqr} (hq : s.seqAt code elem = some q)
    (hbusy : s.seqBusy q = true) (hheld : s.seqHeld q = false) (hlimit : q.limit < s.seqUs q us) :
    exec (.watchdog ⟨code, elem⟩ us) s = .next ((s.inc .WATCHDOG_EXPIRIES 0 code).seqFails q .watchdog elem) := by
  change execWatchdog ⟨code, elem⟩ us s = _
  unfold execWatchdog
  rw [hq]
  dsimp only
  rw [hbusy, hheld, decide_eq_true hlimit]
  rfl

/-- The alert is held no longer. -/
def State.endHold (s : State) : State := { s with flt := { s.flt with alertHold := none } }

theorem State.endHold_rd (s : State) (o : Obj) (e i : Nat) : s.endHold.rd o e i = s.rd o e i := State.rd_congr rfl rfl _ _ _

/-- The end of the alert hold: the pin follows the masked status. -/
theorem State.endHold_driveAlert (s : State) :
    (s.endHold.driveAlert.flt.alertN = true ↔ Nat.land (s.rd .ALERT_STATUS) (s.rd .ALERT_MASK) = 0)
      ∧ (s.flt.alertN = false → s.endHold.driveAlert.flt.alertHold = none) := by
  unfold State.driveAlert
  rw [State.endHold_rd, State.endHold_rd]
  split
  · next hraised =>
    split
    · next hpin =>
      have hpin' : s.flt.alertN = true := hpin
      exact ⟨⟨nofun, fun h => absurd h hraised⟩, fun h => absurd (h.symm.trans hpin') (by decide)⟩
    · next hpin => exact ⟨⟨fun h => absurd h hpin, fun h => absurd h hraised⟩, fun _ => rfl⟩
  · next hclear => exact ⟨⟨fun _ => of_not_not hclear, fun _ => rfl⟩, fun _ => rfl⟩

theorem alertHoldExpiry_ends {s : State} {at0 : Nat} (hhold : s.flt.alertHold = some at0) (hpast : at0 ≤ s.up) :
    exec .alertHoldExpiry s = .next s.endHold.driveAlert := by
  change execAlertHoldExpiry s = _
  unfold execAlertHoldExpiry
  rw [hhold]
  dsimp only
  rw [decide_eq_true hpast]
  rfl

/-- Settles O58: a try without an injection changes its hop alone until the third failure, the bits turned over decide the parity,
and what a failing sequencer causes leaves the counters of failures found alone. -/
theorem linksSequencersAndAlerts : Obligations.LinksSequencersAndAlerts := by
  refine ⟨fun a b m x bad h k s hlinked hinj hh hfound hbad => ?_,
    fun a b m x s hinj hgap hwhole hnone => spineRetransmit_nothing hinj hgap hwhole hnone,
    parityError_none, fun msg i hi => parityError_one msg hi,
    fun code elem us q x s hq hx hwatch hquiet => ?_,
    fun at0 s hhold hpast => ⟨_, alertHoldExpiry_ends hhold hpast, s.endHold_driveAlert⟩⟩
  · obtain ⟨hcount, hhop, hquiet, hfails⟩ := State.sendAgain_effect hinj hh hbad
    refine ⟨_, spineRetransmit_sends hlinked (by rwa [← hh]), hcount, fun hk => ?_⟩
    obtain rfl : k = h.tried m bad := hk.trans hhop
    have hfailed := h.tried_failed m bad
    refine ⟨fun y hy z hz => h.keep_close m.seq m.msg hy hz, fun hholds hnew => Hop.mem_keep m.msg hholds hnew,
      fun hb => ?_, fun hb htries => ?_, fun hb htries => ?_⟩
    · subst hb
      exact ⟨hfailed, hquiet rfl⟩
    · subst hb
      rw [Bool.true_and] at hfailed hquiet
      rw [if_pos (decide_eq_true (by omega))] at hfailed
      exact ⟨hfailed, hquiet (decide_eq_false (by omega))⟩
    · subst hb
      rw [Bool.true_and] at hfailed hfails
      rw [if_neg (by rw [decide_eq_true_eq]; omega)] at hfailed
      exact ⟨hfailed, hfails (decide_eq_true (by omega))⟩
  · have hparity : Obj.SEQ_PARITY_ERRS ∈ foundCounters := by decide
    have hwatchdog : Obj.WATCHDOG_EXPIRIES ∈ foundCounters := by decide
    rcases List.mem_cons.mp hx with rfl | hx
    · exact ⟨_, seqParity_fails hq, sequencerFound_effect .seqParity hparity hq hquiet rfl⟩
    · obtain rfl := List.mem_singleton.mp hx
      obtain ⟨hbusy, hheld, hlimit⟩ := hwatch rfl
      exact ⟨_, watchdog_fails hq hbusy hheld hlimit, sequencerFound_effect .watchdog hwatchdog hq hquiet rfl⟩

end Sys2Proof.Machine
end

section
/-! SUPPORT. What a stage of the restore writes (R420, R481). -/

namespace Sys2Proof.Machine
open Sys2Proof

/-- The objects that a restore writes beside the objects it restores: the audit of its items, and the status of quarantined
sensors. -/
def restoreObjs : List Obj :=
  [.AUDIT_NEXT, .AUDIT_OK, .AUDIT_OVERWRITTEN, .AUDIT_REFUSED, .AUDIT_SEQ, .DS_STATUS]

/-- A stage of the restore may write the object. -/
def restored (sel : Obj → Bool) (o : Obj) : Bool := ((info o).persistent && sel o) || restoreObjs.contains o

theorem restored_of_mem {sel : Obj → Bool} {o : Obj} (h : o ∈ restoreObjs) : restored sel o = true := by
  unfold restored
  rw [List.contains_iff_mem.mpr h, Bool.or_true]

theorem State.restoreFail_fr {sel : Obj → Bool} {s z : State} {a : Option Obj} {e i v : Nat} {c : Code}
    (h : Fr (restored sel · = true) (· = .dict) z s) : Fr (restored sel · = true) (· = .dict) z (s.restoreFail a e i v c) := by
  apply State.restoreFail_frame (h := h)
  case qdict => rfl
  all_goals exact restored_of_mem (by decide)

theorem State.restoreOne_fr {sel : Obj → Bool} {s z : State}
    (h : Fr (restored sel · = true) (· = .dict) z s) : Fr (restored sel · = true) (· = .dict) z s.restoreOne := by
  apply State.restoreOne_frame (h := h)
  case qdict => rfl
  all_goals exact restored_of_mem (by decide)

theorem State.persistent_of_restoreCheck {s : State} {o : Obj} {e : Nat} {len : Option Nat} (h : s.restoreCheck o e len = none) :
    (info o).persistent = true := by
  unfold State.restoreCheck State.persists at h
  split_ifs at h with h1 h2
  simp at h2
  exact h2.1

theorem State.restoreItem_fr {sel : Obj → Bool} {s z view : State} {k : Nat} {v : Option Nat}
    (hk : ∀ o e i, objOfKey k = some (o, e, i) → sel o = true) (h : Fr (restored sel · = true) (· = .dict) z s) :
    Fr (restored sel · = true) (· = .dict) z (s.restoreItem view k v) := by
  unfold State.restoreItem
  split
  · exact State.restoreFail_fr h
  · next o e i hkey =>
    dsimp only
    split
    · exact State.restoreFail_fr h
    · next hcheck =>
      have hwrite : restored sel o = true := by
        unfold restored
        rw [State.persistent_of_restoreCheck hcheck, hk o e i hkey]
        rfl
      split
      · exact State.restoreFail_fr h
      · refine State.restoreOne_fr (State.when_kept (State.wr_frame hwrite h) fun t ht => ?_)
        exact State.setDs_frame (restored_of_mem (by decide)) ht

theorem State.sel_of_restorable {s : State} {sel : Obj → Bool} {x : Nat × Option Nat} (h : x ∈ s.restorable sel) :
    ∀ o e i, objOfKey x.1 = some (o, e, i) → sel o = true := by
  unfold State.restorable at h
  obtain ⟨y, -, hy⟩ := List.mem_filterMap.mp h
  dsimp only at hy
  split_ifs at hy with hsel
  obtain rfl := Option.some.inj hy
  intro o e i hkey
  rw [hkey] at hsel
  exact hsel.2

/-- A stage of the restore writes the persistent objects that it chooses, and audits them. -/
theorem State.restoreStage_fr (s : State) (sel : Obj → Bool) : Fr (restored sel · = true) (· = .dict) s (s.restoreStage sel) :=
  State.each_mem_kept (Fr.refl s) fun _ _ hx h => State.restoreItem_fr (State.sel_of_restorable hx) h

/-- What a step establishes for an element, and no step undoes, holds once it has been taken for each of a list. -/
theorem State.each_establishes {α : Type} {P : State → Prop} {f : State → α → State} {l : List α} {x : α} (hx : x ∈ l)
    (hset : ∀ t, P (f t x)) (hkeep : ∀ t y, P t → P (f t y)) (s : State) : P (s.each l f) := by
  induction l generalizing s with
  | nil => exact absurd hx List.not_mem_nil
  | cons y r ih =>
    rcases List.mem_cons.mp hx with rfl | hr
    · exact State.each_keeps P f hkeep r _ (hset s)
    · exact ih hr _

end Sys2Proof.Machine
end

section
/-! PROOF. Each unit opens in its turn of the start-up (R37, R315, R420, R460, R499). -/

namespace Sys2Proof.Machine
open Sys2Proof

/-! ### DICT_OPEN (R420) -/

/-- The factory weights of a region become live, at their factory shift. -/
def State.liveWeights (s : State) (n : Nat) : State := (s.factoryWeights n).modE n fun x => { x with shift := none }

/-- The weights of a region are those of the factory. -/
def State.FactoryWeights (n : Nat) (s : State) : Prop :=
  s.rd .EST_WEIGHT n = s.rd .EST_WEIGHT_FACTORY n % 2 ^ objBits .EST_WEIGHT

theorem State.liveWeights_rd (s : State) (n : Nat) (o : Obj) (e i : Nat) :
    (s.liveWeights n).rd o e i = (s.wr .EST_WEIGHT (s.rd .EST_WEIGHT_FACTORY n) n).rd o e i :=
  (State.rd_modE _ _ _ _ _ _).trans (State.rd_modE _ _ _ _ _ _)

theorem State.liveWeights_self (s : State) (n : Nat) : State.FactoryWeights n (s.liveWeights n) := by
  unfold State.FactoryWeights
  rw [State.liveWeights_rd, State.liveWeights_rd, State.rd_wr_self, State.rd_wr_other _ (by decide)]

theorem State.liveWeights_keep {s : State} {n : Nat} (m : Nat) (h : State.FactoryWeights n s) :
    State.FactoryWeights n (s.liveWeights m) := by
  by_cases hnm : n = m
  · exact hnm ▸ s.liveWeights_self n
  · unfold State.FactoryWeights at h ⊢
    rw [State.liveWeights_rd, State.liveWeights_rd, State.rd_wr_elem _ hnm, State.rd_wr_other _ (by decide)]
    exact h

/-- The objects that DICT_OPEN restores: the dictionary's factory objects, without the curves. -/
def dictStage (o : Obj) : Bool := recType o == 2 && o != .CAL_CURVE

/-- The weights of every region live. -/
def State.openWeights (s : State) : State := (s.restoreStage dictStage).each (s.restoreStage dictStage).regions State.liveWeights

theorem State.restoreStage_regions (s : State) : (s.restoreStage dictStage).regions = s.regions := by
  have h := s.restoreStage_fr dictStage
  have hnum : (s.restoreStage dictStage).rd .NUM_REGIONS = s.rd .NUM_REGIONS := h.obj .NUM_REGIONS 0 0 (by decide)
  have hpresent : ∀ n, (s.restoreStage dictStage).rd .REGION_PRESENT n = s.rd .REGION_PRESENT n := fun n =>
    h.obj .REGION_PRESENT n 0 (by decide)
  unfold State.regions State.present State.numRegions State.on
  simp only [hnum, hpresent]

theorem State.openWeights_live {s : State} {n : Nat} (hn : n ∈ s.regions) : State.FactoryWeights n s.openWeights := by
  refine State.each_establishes (P := State.FactoryWeights n) ?_ (fun t => t.liveWeights_self n)
    (fun t m h => State.liveWeights_keep m h) _
  rwa [State.restoreStage_regions]

/-- The restore record of R437. -/
def State.restoreRecord (s : State) : AuditRec := { cls := 5, new := s.dict.restored, old := s.dict.restoreFailed }

/-- The dictionary open. -/
def State.dictOpened (s : State) : State :=
  ((s.openWeights.auditPut s.openWeights.restoreRecord).setFlag .FN_STATUS 3 true).setReady .dict true

theorem dictOpen_opens {s : State} (hrun : s.seqRuns = true) (hrails : s.isReady .rails = true) (hstate : s.flag .FN_STATUS 2 = true)
    (hclosed : s.isReady .dict = false) : exec .dictOpen s = .next s.dictOpened := by
  change execDictOpen s = _
  unfold execDictOpen
  rw [hrun, hrails, hstate, hclosed]
  rfl

theorem State.flag_setReady (s : State) (r : Rdy) (v : Bool) {o : Obj} (h : o ≠ .UNIT_READY) (b : Nat) :
    (s.setReady r v).flag o b = s.flag o b :=
  State.flag_congr (State.rd_setReady s r v h 0 0) b

theorem State.dictOpened_effect (s : State) :
    s.dictOpened.isReady .dict = true ∧ s.dictOpened.flag .FN_STATUS 3 = true
      ∧ ∀ n ∈ s.regions, State.FactoryWeights n s.dictOpened := by
  refine ⟨State.isReady_setReady_self _ _ _, ?_, fun n hn => ?_⟩
  · exact (State.flag_setReady _ _ _ (by decide) _).trans (State.flag_setFlag_self _ _ _ (by decide))
  · have haudit : State.Keeps [.EST_WEIGHT, .EST_WEIGHT_FACTORY] [] s.openWeights
        (s.openWeights.auditPut s.openWeights.restoreRecord) := by
      apply State.auditPut_frame (h := Fr.refl _) <;> decide
    have hkeep : State.Keeps [.EST_WEIGHT, .EST_WEIGHT_FACTORY] [] s.openWeights s.dictOpened :=
      State.setReady_frame (by decide) (State.setFlag_frame (by decide) haudit)
    have hlive := State.openWeights_live hn
    unfold State.FactoryWeights at hlive ⊢
    rw [hkeep.rd (by decide), hkeep.rd (by decide)]
    exact hlive

/-! ### MAILBOX_OPEN (R460, R481) -/

/-- The rail limits, which the STATE stage restores apart. -/
def railLimit (o : Obj) : Bool := o == .RAIL_IMAX || o == .RAIL_VMIN || o == .RAIL_VMAX

/-- What the restore of the rail limits writes. -/
def railStage (o : Obj) : Bool := railLimit o || restoreObjs.contains o || eventObjs.contains o

theorem State.restoreLimit_fr {s z : State} {o : Obj} {r v : Nat} (ho : railLimit o = true)
    (h : Fr (railStage · = true) (· ∈ [.flt, .rail, .dict]) z s) :
    Fr (railStage · = true) (· ∈ [.flt, .rail, .dict]) z (s.restoreLimit o r v) := by
  have hwrite : railStage o = true := by
    unfold railStage
    rw [ho]
    rfl
  unfold State.restoreLimit
  split
  · split
    · apply State.clampRating_frame (wo := hwrite) (h := h) <;> decide
    · apply State.clampRating_frame (wo := hwrite) (h := h) <;> decide
  · exact State.modRa_frame (by decide) h

theorem State.restoreRails_fr (s : State) :
    Fr (railStage · = true) (· ∈ [.flt, .rail, .dict]) s s.restoreRails := by
  have hfail : ∀ {z t : State} (a e i v c), Fr (railStage · = true) (· ∈ [.flt, .rail, .dict]) z t →
      Fr (railStage · = true) (· ∈ [.flt, .rail, .dict]) z (t.restoreFail a e i v c) := fun _ _ _ _ _ h => by
    apply State.restoreFail_frame (h := h) <;> decide
  have hone : ∀ {z t : State}, Fr (railStage · = true) (· ∈ [.flt, .rail, .dict]) z t →
      Fr (railStage · = true) (· ∈ [.flt, .rail, .dict]) z t.restoreOne := fun h => by
    apply State.restoreOne_frame (h := h) <;> decide
  unfold State.restoreRails
  refine State.each_mem_kept (Fr.refl s) fun t x hx h => ?_
  split
  · next o r i v hkey _ =>
    split
    · exact hfail _ _ _ _ _ h
    · dsimp only
      split
      · exact hfail _ _ _ _ _ h
      · exact hone (State.restoreLimit_fr (State.sel_of_restorable hx o r i hkey) h)
  · exact hone h
  · exact h

/-- The objects of the STATE stage but the rail limits. -/
def stateStage (warm : Bool) (o : Obj) : Bool := recType o == 4 && o != .EXCLUDED_MAP && !railLimit o && !(warm && keptWarm o)

/-- The values of the STATE stage restored. -/
def State.stateRestored (s : State) : State := (s.restoreStage (stateStage s.su.warm)).restoreRails

/-- The period of the audit summaries taken from the values restored. -/
def State.startPeriod (s : State) : State :=
  { s with dict := { s.dict with
    period := s.rd .AUDIT_SUMMARY_PERIOD, periodEnd := 60000000 * s.rd .AUDIT_SUMMARY_PERIOD } }

theorem State.startPeriod_refs (s : State) : s.startPeriod.refs = s.refs := rfl

theorem State.startPeriod_rd (s : State) (o : Obj) (e i : Nat) : s.startPeriod.rd o e i = s.rd o e i :=
  State.rd_congr rfl rfl _ _ _

theorem State.loadState_eq (s : State) :
    s.loadState = s.stateRestored.startPeriod.prefer.limitsDue.setFlag .FN_STATUS 2 true := rfl

/-- The restore leaves the selected reference and holdover alone. -/
theorem State.stateRestored_refs (s : State) :
    s.stateRestored.startPeriod.refs = s.refs ∧ s.stateRestored.startPeriod.selected = s.selected := by
  have hstage := s.restoreStage_fr (stateStage s.su.warm)
  have hrails := (s.restoreStage (stateStage s.su.warm)).restoreRails_fr
  have hrefs : s.stateRestored.refs = s.refs := (hrails.part .refs (by decide)).trans (hstage.part .refs (by decide))
  have hnot : restored (stateStage s.su.warm) .REF_STATUS = false := by cases s.su.warm <;> decide
  have hstatus : s.stateRestored.rd .REF_STATUS = s.rd .REF_STATUS :=
    (hrails.obj .REF_STATUS 0 0 (by decide)).trans (hstage.obj .REF_STATUS 0 0 (by rw [hnot]; decide))
  exact ⟨(State.startPeriod_refs _).trans hrefs, congrArg (bits · 4 2) ((State.startPeriod_rd _ _ _ _).trans hstatus)⟩

/-- A reference stays selected where a preferred one is taken. -/
theorem State.prefer_selected {s : State} (h : s.selected ≠ 0) : s.prefer.selected ≠ 0 := by
  have hswitch : ∀ b, (s.switchTo b).selected ≠ 0 := fun b => by
    have hkeep : State.Keeps [.REF_STATUS] [] (s.changeSource (refCode b)) (s.switchTo b) := by
      unfold State.switchTo
      have hcount : State.Keeps [.REF_STATUS] [] (s.changeSource (refCode b)) ((s.changeSource (refCode b)).inc .REF_SWITCHES) :=
        State.inc_frame (by decide) (Fr.refl _)
      have hevent : State.Keeps [.REF_STATUS] [] (s.changeSource (refCode b))
          (((s.changeSource (refCode b)).inc .REF_SWITCHES).event 0x11 0xFFFF (refCode b) s.refs.injSpan) := by
        apply State.event_frame (h := hcount) <;> decide
      apply State.launchSwitch_frame (h := hevent) <;> decide
    have hsel : (s.switchTo b).selected = (s.changeSource (refCode b)).selected :=
      congrArg (bits · 4 2) (hkeep.rd (by decide) 0 0)
    rw [hsel, State.changeSource_selected]
    cases b <;> decide
  unfold State.prefer
  dsimp only
  generalize hcond : (_ && _ && _ && _ : Bool) = c
  cases c
  · exact h
  · exact hswitch _

/-- The field bus takes its address and rates from the values restored. -/
def State.takeBus (s : State) : State :=
  { s with fdp := { s.fdp with addr := s.rd .FB_NODE_ADDR, nomRate := s.rd .FB_NOM_RATE, dataRate := s.rd .FB_DATA_RATE } }

def State.endStandby (s : State) : State := { s with fdp := { s.fdp with standby := false } }

/-- The Mailbox Unit open, with the STATE stage loaded. -/
def State.mailboxBase (s : State) : State := (s.loadState.setReady .mailbox true).takeBus

/-- The field bus is joined where CTL runs from a reference. -/
def State.joinIfReferenced (s : State) : State :=
  if s.refs.holdSince.isNone && s.selected != 0 then s.endStandby.setReady .fbOn true else s

theorem mailboxOpen_opens {s : State} (hrun : s.seqRuns = true) (hexcl : s.su.excludedApplied = true)
    (hclosed : s.isReady .mailbox = false) : exec .mailboxOpen s = .next s.mailboxBase.joinIfReferenced := by
  change execMailboxOpen s = _
  unfold execMailboxOpen
  rw [hrun, hexcl, hclosed]
  rfl

theorem State.takeBus_rd (s : State) (o : Obj) (e i : Nat) : s.takeBus.rd o e i = s.rd o e i := State.rd_congr rfl rfl _ _ _

theorem State.takeBus_caps (s : State) : s.takeBus.caps = s.caps := rfl

theorem State.takeBus_refs (s : State) : s.takeBus.refs = s.refs := rfl

theorem State.endStandby_rd (s : State) (o : Obj) (e i : Nat) : s.endStandby.rd o e i = s.rd o e i := State.rd_congr rfl rfl _ _ _

theorem State.mailboxBase_effect (s : State) :
    s.mailboxBase.isReady .mailbox = true ∧ s.mailboxBase.flag .FN_STATUS 2 = true ∧ s.mailboxBase.caps.due = true
      ∧ s.mailboxBase.refs.holdSince = s.refs.holdSince ∧ (s.selected ≠ 0 → s.mailboxBase.selected ≠ 0) := by
  obtain ⟨hrefs, hsel⟩ := s.stateRestored_refs
  have hload : State.Keeps [.REF_STATUS] [.refs] s.stateRestored.startPeriod.prefer s.loadState := by
    rw [State.loadState_eq]
    exact State.setFlag_frame (by decide) (State.limitsDue_frame (by decide) (Fr.refl _))
  have hbase : State.Keeps [.REF_STATUS] [.refs] s.stateRestored.startPeriod.prefer (s.loadState.setReady .mailbox true) :=
    State.setReady_frame (by decide) hload
  refine ⟨?_, ?_, ?_, ?_, fun h => ?_⟩
  · exact (State.isReady_congr (State.takeBus_rd _ _ _ _) _).trans (State.isReady_setReady_self _ _ _)
  · refine (State.flag_congr (State.takeBus_rd _ _ _ _) _).trans ((State.flag_setReady _ _ _ (by decide) _).trans ?_)
    rw [State.loadState_eq]
    exact State.flag_setFlag_self _ _ _ (by decide)
  · have hdue : State.Keeps [] [.caps] s.stateRestored.startPeriod.prefer.limitsDue s.loadState := by
      rw [State.loadState_eq]
      exact State.setFlag_frame (by decide) (Fr.refl _)
    have hready : State.Keeps [] [.caps] s.stateRestored.startPeriod.prefer.limitsDue (s.loadState.setReady .mailbox true) :=
      State.setReady_frame (by decide) hdue
    exact congrArg Caps.due ((State.takeBus_caps _).trans (hready.same .caps (by decide)))
  · have hhold : (s.loadState.setReady .mailbox true).refs.holdSince = s.refs.holdSince :=
      (congrArg Refs.holdSince (hbase.same .refs (by decide))).trans
        ((State.prefer_refs _).2.trans (congrArg Refs.holdSince hrefs))
    exact (congrArg Refs.holdSince (State.takeBus_refs _)).trans hhold
  · have hkept : s.mailboxBase.selected = s.stateRestored.startPeriod.prefer.selected :=
      congrArg (bits · 4 2) ((State.takeBus_rd _ _ _ _).trans (hbase.rd (by decide) 0 0))
    rw [hkept]
    exact State.prefer_selected (by rwa [hsel])

/-- Joining the bus sets its own bit alone. -/
theorem State.joinIfReferenced_effect (s : State) :
    s.joinIfReferenced.isReady .mailbox = s.isReady .mailbox ∧ s.joinIfReferenced.flag .FN_STATUS 2 = s.flag .FN_STATUS 2
      ∧ s.joinIfReferenced.caps = s.caps
      ∧ (s.refs.holdSince = none → s.selected ≠ 0 →
          s.joinIfReferenced.isReady .fbOn = true ∧ s.joinIfReferenced.fdp.standby = false) := by
  unfold State.joinIfReferenced
  split
  · refine ⟨?_, ?_, State.wr_caps s.endStandby _ _ _ _, fun _ _ => ⟨State.isReady_setReady_self _ _ _, ?_⟩⟩
    · exact (State.isReady_setReady_other _ _ (by decide)).trans (State.isReady_congr (State.endStandby_rd _ _ _ _) _)
    · exact (State.flag_setReady _ _ _ (by decide) _).trans (State.flag_congr (State.endStandby_rd _ _ _ _) _)
    · exact congrArg Fdp.standby (State.wr_fdp s.endStandby _ _ _ _)
  · next hcond =>
    refine ⟨rfl, rfl, rfl, fun hhold hsel => absurd ?_ hcond⟩
    rw [hhold, Bool.and_eq_true]
    exact ⟨rfl, bne_iff_ne.mpr hsel⟩

/-! ### BUDGET_OPEN and PRALINE_OPEN (R315) -/

/-- The exchange begins with the round of this time. -/
def State.beginRound (s : State) : State :=
  { s with budget := if s.budget.sumRound = s.T / 8000000 then { s.budget with round := s.T / 8000000 }
    else { s.budget with round := s.T / 8000000, sum := 0, any := false } }

theorem State.beginRound_round (s : State) : s.beginRound.budget.round = s.T / 8000000 := by
  unfold State.beginRound
  dsimp only
  split <;> rfl

theorem budgetOpen_opens {s : State} {g : Nat} (hrun : s.seqRuns = true) (hdict : s.isReady .dict = true) (hlc : s.rd .LC_STATE = 2)
    (hg : g < s.rd .NUM_GROUPS) (hfields : s.groupFields g ≠ []) :
    exec .budgetOpen s = .next (s.beginRound.setReady .budget true) := by
  have hany : (s.groups.any fun g => s.groupFields g != []) = true :=
    List.any_eq_true.mpr ⟨g, List.mem_range.mpr hg, bne_iff_ne.mpr hfields⟩
  change execBudgetOpen s = _
  unfold execBudgetOpen
  rw [hrun, hdict, hlc, hany]
  rfl

theorem pralineOpen_opens {s : State} (hrun : s.seqRuns = true) (hcal : s.flag .FN_STATUS 3 = true)
    (hclosed : s.isReady .praline = false) : exec .pralineOpen s = .next (s.loadChain.setReady .praline true) := by
  change execPralineOpen s = _
  unfold execPralineOpen
  rw [hrun, hcal, hclosed]
  rfl

theorem State.loadChain_loaded (s : State) : s.loadChain.flag .FN_STATUS 4 = true :=
  State.flag_setFlag_self _ _ _ (by decide)

/-! ### STARTUP_WATCHDOG (R39) -/

/-- Start-up has not completed. -/
def State.giveUpStart (s : State) : State :=
  { s with su := { s.su with failed := true, arming := false, ramping := false } }

/-- The expiry of the start-up sequencer's watchdog. -/
def State.startExpires (s : State) : State := s.giveUpStart.inc .WATCHDOG_EXPIRIES 0 0

theorem startupWatchdog_fails {s : State} (hrun : s.seqRuns = true) (hlate : 5000000 ≤ s.up) (hnot : s.startIs .failed = false)
    (hopen : s.su.everReady = false ∨ s.isReady .dict = false ∨ s.isReady .mailbox = false) :
    exec .startupWatchdog s = .next s.startExpires.startFailed := by
  have hended : (s.su.everReady && s.isReady .dict && s.isReady .mailbox) = false := by
    rcases hopen with h | h | h <;> simp [h]
  change execStartupWatchdog s = _
  unfold execStartupWatchdog
  rw [hrun, decide_eq_true hlate, hnot, hended]
  rfl

/-- A failed start-up stays failed, and is logged. -/
theorem State.startFailed_effect (s : State) :
    s.startFailed.su = s.su ∧ s.startFailed.startIs .failed = true ∧ ∃ data, s.Logged s.startFailed 0x04 0xFFFF data false := by
  refine ⟨?_, ?_, _, State.Logged.of_congr (State.event_logged (s.setStart .failed) _ _ _ _) ?_ ?_⟩
  · exact ((s.setStart .failed).event_fr 0x04 0xFFFF _ false).part .su (by decide)
  · refine (State.startIs_congr (((s.setStart .failed).event_fr 0x04 0xFFFF _ false).obj .START_STATE 0 0 (by decide)) _).trans ?_
    exact State.startIs_setStart _ _
  · exact fun o ho e i => State.rd_wr_other _ ((by decide : ∀ o ∈ eventObjs, o ≠ .START_STATE) o ho) _ _ _ _ _
  · rfl

theorem State.startExpires_effect (s : State) :
    s.startExpires.su = s.giveUpStart.su ∧ s.startExpires.T = s.T
      ∧ ∀ o ∈ eventObjs, ∀ e i, s.startExpires.rd o e i = s.rd o e i :=
  ⟨State.inc_su s.giveUpStart _ _ _, congrArg Clock.T (State.inc_clock s.giveUpStart .WATCHDOG_EXPIRIES 0 0), fun o ho e i =>
    (State.rd_inc_other _ ((by decide : ∀ o ∈ eventObjs, o ≠ .WATCHDOG_EXPIRIES) o ho) _ _ _ _).trans
      (State.rd_congr rfl rfl _ _ _)⟩

/-- Settles O55: the restore of a stage writes the objects of that stage alone, and each unit's bit is set last. -/
theorem startUpOpensTheUnits : Obligations.StartUpOpensTheUnits := by
  refine ⟨fun s hrun hexcl hclosed => ?_, fun s hrun hrails hstate hclosed => ⟨_, dictOpen_opens hrun hrails hstate hclosed,
      s.dictOpened_effect⟩, fun g s hrun hdict hlc hg hfields => ?_, fun s hrun hcal hclosed => ?_,
    fun s hrun hlate hnot hopen => ?_⟩
  · obtain ⟨hmail, hflag, hdue, hhold, hsel⟩ := s.mailboxBase_effect
    obtain ⟨hmail', hflag', hcaps', hbus⟩ := s.mailboxBase.joinIfReferenced_effect
    refine ⟨_, mailboxOpen_opens hrun hexcl hclosed, hmail'.trans hmail, hflag'.trans hflag,
      (congrArg Caps.due hcaps').trans hdue, fun hnone hselected => hbus (hhold.trans hnone) (hsel hselected)⟩
  · refine ⟨_, budgetOpen_opens hrun hdict hlc hg hfields, State.isReady_setReady_self _ _ _, ?_⟩
    exact (congrArg Bx.round (State.wr_budget s.beginRound _ _ _ _)).trans s.beginRound_round
  · refine ⟨_, pralineOpen_opens hrun hcal hclosed, State.isReady_setReady_self _ _ _, ?_⟩
    exact (State.flag_setReady _ _ _ (by decide) _).trans s.loadChain_loaded
  · obtain ⟨hsu, hT, hlog⟩ := s.startExpires_effect
    obtain ⟨hsu', hfailed, data, hlogged⟩ := s.startExpires.startFailed_effect
    have hend : s.startExpires.startFailed.su = s.giveUpStart.su := hsu'.trans hsu
    refine ⟨_, startupWatchdog_fails hrun hlate hnot hopen, ?_, ?_, hfailed, ?_, data, hlogged.of_congr hlog hT⟩
    · rw [hend]
      rfl
    · rw [hend]
      rfl
    · unfold State.seqRuns
      rw [hend]
      exact Bool.and_false _

end Sys2Proof.Machine
end

section
/-! PROOF. Agents switch at C (R25, R70, R81, R99, R119). -/

namespace Sys2Proof.Machine
open Sys2Proof

theorem State.r_congr {s t : State} (h : t.rgn = s.rgn) (n : Nat) : t.r n = s.r n := by
  unfold State.r
  rw [h]

/-! ### The broadcast (R25) -/

def Rgn.hear (r : Rgn) (x : Nat × Nat) : Rgn := { r with heard := some x }

theorem Rgn.hear_change (r : Rgn) (x : Nat × Nat) : (r.hear x).change = r.change := rfl

/-- The agent has heard the broadcast `x`. -/
def State.hear (s : State) (n : Nat) (x : Nat × Nat) : State := s.modR n fun r => r.hear x

theorem State.hear_flt (s : State) (n : Nat) (x : Nat × Nat) : (s.hear n x).flt = s.flt := rfl

theorem State.hear_T (s : State) (n : Nat) (x : Nat × Nat) : (s.hear n x).T = s.T := rfl

theorem State.hear_rd (s : State) (n : Nat) (x : Nat × Nat) (o : Obj) (e i : Nat) : (s.hear n x).rd o e i = s.rd o e i :=
  State.rd_modR _ _ _ _ _ _

/-- What the agent does with the broadcast `x` that it hears. -/
def State.takeCast (s : State) (n : Nat) (x : Nat × Nat) : State :=
  if passed (s.rd .REGION_COUNT n) x.1 then (s.hear n x).raiseFault .lateChange 0 n 0
  else (s.hear n x).modR n fun r => { r with change := some x }

theorem changeBroadcast_heard {n : Nat} {x : Nat × Nat} {s : State} (hcast : (s.g (s.groupOf (fieldOf n))).cast = some x)
    (hlive : s.live n = true) (hclocked : s.clocked n = true) (hattached : s.on .REGION_DETACHED n = false)
    (hgroup : s.groupOf (fieldOf n) ≠ 0xFF) (hnew : (s.r n).heard ≠ some x) :
    exec (.changeBroadcast n) s = .next (s.takeCast n x) := by
  change execChangeBroadcast n s = _
  unfold execChangeBroadcast
  dsimp only
  rw [hcast]
  dsimp only
  rw [hlive, hclocked, hattached, bne_iff_ne.mpr hgroup, bne_iff_ne.mpr hnew, Bool.not_false, Bool.and_true,
    Bool.and_true, Bool.and_true, Bool.and_true, State.when_true]
  rfl

theorem State.takeCast_ahead {s : State} {n : Nat} {x : Nat × Nat} (h : passed (s.rd .REGION_COUNT n) x.1 = false) :
    ((s.takeCast n x).r n).change = some x ∧ (s.takeCast n x).flt = s.flt
      ∧ (s.takeCast n x).rd .OSC_TARGET_N n = s.rd .OSC_TARGET_N n := by
  unfold State.takeCast
  rw [h, if_neg (by decide), State.r_modR_self, State.rd_modR, State.hear_rd]
  generalize hheard : s.hear n x = t
  exact ⟨rfl, (show t.flt = s.flt by rw [← hheard, State.hear_flt]), rfl⟩

theorem State.takeCast_late {s : State} {n : Nat} {x : Nat × Nat} (h : passed (s.rd .REGION_COUNT n) x.1 = true) :
    ((s.takeCast n x).r n).change = (s.r n).change ∧ s.Faulted (s.takeCast n x) .lateChange 0 n 0 false
      ∧ (s.takeCast n x).rd .OSC_TARGET_N n = s.rd .OSC_TARGET_N n := by
  have hheard : ((s.hear n x).r n).change = (s.r n).change := by
    rw [State.hear, State.r_modR_self, Rgn.hear_change]
  unfold State.takeCast
  rw [h, if_pos rfl]
  have hr : ((s.hear n x).raiseFault .lateChange 0 n 0).r n = (s.hear n x).r n := State.r_congr rfl n
  exact ⟨(congrArg Rgn.change hr).trans hheard, State.raiseFault_faulted _ _ _ _ (s.hear_flt n x) (s.hear_T n x),
    (State.raiseFault_rd _ _ _ _ _ _ _ _ _).trans (State.hear_rd _ _ _ _ _ _)⟩

/-! ### The switch (R70, R81, R99, R119) -/

theorem State.osc_setOsc_self (s : State) (n : Nat) (b : OscBit) (v : Bool) : (s.setOsc n b v).osc n b = v :=
  State.flag_setFlag_self _ _ _ (by cases b <;> decide)

theorem State.osc_setOsc_other (s : State) (n : Nat) {b b' : OscBit} (v : Bool) (h : b' ≠ b) :
    (s.setOsc n b v).osc n b' = s.osc n b' :=
  State.flag_setFlag_other _ _ _ (by cases b' <;> decide) (by revert h; cases b <;> cases b' <;> decide)

theorem State.osc_congr {s t : State} {n : Nat} (h : t.rd .OSC_STATUS n = s.rd .OSC_STATUS n) (b : OscBit) :
    t.osc n b = s.osc n b := State.flag_congr h _

/-- The loop of a region at a seed of the code `code`. -/
def Rgn.seeded (r : Rgn) (code ratio up : Nat) (locked : Bool) : Rgn :=
  { r with
    acc := 64 * code, gateDiscard := true, gateErrs := [], gatesSince := 0,
    sdAcc := 0, sClass := sClassOf ratio,
    unlockAt := if locked then some up else r.unlockAt,
    unlockCounted := if locked then false else r.unlockCounted }

/-- A seed's loop and status, before its target and code. -/
def State.seedLoop (s : State) (n ratio : Nat) : State :=
  ((s.modR n fun r => r.seeded (s.seedFor n ratio) ratio s.up (s.osc n .locked)).setOsc n .seed true).setOsc n .locked false

theorem State.loadSeed_eq (s : State) (n ratio : Nat) :
    s.loadSeed n ratio = ((s.seedLoop n ratio).wr .OSC_TARGET_N ratio n).wr .OSC_CODE (s.seedFor n ratio) n := rfl

theorem State.seedLoop_r (s : State) (n ratio : Nat) :
    (s.seedLoop n ratio).r n = (s.r n).seeded (s.seedFor n ratio) ratio s.up (s.osc n .locked) := by
  have h : (s.seedLoop n ratio).rgn
      = (s.modR n fun r => r.seeded (s.seedFor n ratio) ratio s.up (s.osc n .locked)).rgn :=
    (State.wr_rgn _ _ _ _ _).trans (State.wr_rgn _ _ _ _ _)
  exact (State.r_congr h n).trans (State.r_modR_self _ _ _)

/-- What a seed sets: the target, SEED without LOCKED, and the loop of the region. -/
theorem State.loadSeed_effect (s : State) (n ratio : Nat) :
    (s.loadSeed n ratio).rd .OSC_TARGET_N n = ratio % 2 ^ 16 ∧ (s.loadSeed n ratio).osc n .seed = true
      ∧ (s.loadSeed n ratio).osc n .locked = false
      ∧ (s.loadSeed n ratio).r n = (s.r n).seeded (s.seedFor n ratio) ratio s.up (s.osc n .locked)
      ∧ (s.loadSeed n ratio).rd .REGION_COUNT n = s.rd .REGION_COUNT n := by
  have hcount : State.Keeps [.REGION_COUNT] [] s (s.loadSeed n ratio) := by
    apply State.loadSeed_frame (h := Fr.refl s) <;> decide
  have hosc : ∀ b, (s.loadSeed n ratio).osc n b = (s.seedLoop n ratio).osc n b := fun b => by
    rw [State.loadSeed_eq]
    exact State.osc_congr ((State.rd_wr_other _ (by decide) _ _ _ _ _).trans (State.rd_wr_other _ (by decide) _ _ _ _ _)) b
  have hr : (s.loadSeed n ratio).rgn = (s.seedLoop n ratio).rgn := by
    rw [State.loadSeed_eq]
    exact (State.wr_rgn _ _ _ _ _).trans (State.wr_rgn _ _ _ _ _)
  refine ⟨?_, (hosc _).trans ?_, (hosc _).trans ?_, (State.r_congr hr n).trans (s.seedLoop_r n ratio),
    hcount.rd (by decide) _ _⟩
  · rw [State.loadSeed_eq, State.rd_wr_other _ (by decide), State.rd_wr_self]
    rfl
  · exact (State.osc_setOsc_other _ _ _ (by decide)).trans (State.osc_setOsc_self _ _ _ _)
  · exact State.osc_setOsc_self _ _ _ _

/-- The switch at C. -/
def State.switchAtC (s : State) (n ratio : Nat) : State := (s.loadSeed n ratio).modR n fun r => { r with change := none }

theorem changeAtC_switches {n c ratio : Nat} {s : State} (hheld : (s.r n).change = some (c, ratio)) (hclocked : s.clocked n = true)
    (hpassed : passed (s.rd .REGION_COUNT n) c = true) : exec (.changeAtC n) s = .next (s.switchAtC n ratio) := by
  change execChangeAtC n s = _
  unfold execChangeAtC
  rw [hheld]
  dsimp only
  rw [hclocked, hpassed]
  rfl

/-- Settles O18: an agent that hears a broadcast changes its own record alone, and the switch is the load of a seed. -/
theorem agentsSwitchAtC : Obligations.AgentsSwitchAtC := by
  refine ⟨fun n c ratio s hcast hlive hclocked hattached hgroup hnew hahead =>
      ⟨_, changeBroadcast_heard hcast hlive hclocked hattached hgroup hnew, State.takeCast_ahead hahead⟩,
    fun n c ratio s hcast hlive hclocked hattached hgroup hnew hlate =>
      ⟨_, changeBroadcast_heard hcast hlive hclocked hattached hgroup hnew, State.takeCast_late hlate⟩,
    fun n c ratio s hheld hclocked hpassed => ⟨_, changeAtC_switches hheld hclocked hpassed, ?_⟩⟩
  obtain ⟨htarget, hseed, hlocked, hr, hcount⟩ := s.loadSeed_effect n ratio
  have hrd : ∀ o e i, (s.switchAtC n ratio).rd o e i = (s.loadSeed n ratio).rd o e i := fun _ _ _ => State.rd_modR _ _ _ _ _ _
  have hloop : (s.switchAtC n ratio).r n = { (s.loadSeed n ratio).r n with change := none } := State.r_modR_self _ _ _
  rw [hloop, hr]
  exact ⟨(hrd _ _ _).trans htarget, (State.osc_congr (hrd _ _ _) _).trans hseed, (State.osc_congr (hrd _ _ _) _).trans hlocked,
    rfl, rfl, rfl, rfl, rfl, (hrd _ _ _).trans hcount⟩

end Sys2Proof.Machine
end

section
/-! SUPPORT. Lane weights, and what a window leaves at its close (R230, R232, R234). -/

namespace Sys2Proof.Machine
open Sys2Proof

theorem State.ee_congr {s t : State} (h : t.est = s.est) (n : Nat) : t.ee n = s.ee n := by
  unfold State.ee
  rw [h]

theorem State.f_congr {s t : State} (h : t.fld = s.fld) (n : Nat) : t.f n = s.f n := by
  unfold State.f
  rw [h]

/-! ### Factory weights reloaded (R230) -/

/-- One lane's factory weight is taken again. -/
def State.reloadLane (s : State) (n i : Nat) : State := s.setWeight n i (s.facWeight n i)

/-- The weight of a lane is that of the factory. -/
def State.LaneReloaded (n i : Nat) (s : State) : Prop := s.weight n i = s.facWeight n i

theorem State.facWeight_reloadLane (s : State) (n i j : Nat) : (s.reloadLane n i).facWeight n j = s.facWeight n j :=
  congrArg (bits · (16 * j) 16) (State.rd_wr_other _ (by decide) _ _ _ _ _)

theorem State.weight_reloadLane (s : State) (n i : Nat) {j : Nat} (hj : j < 512) :
    (s.reloadLane n i).weight n j = if j = i then s.facWeight n i else s.weight n j := by
  have hwide : 16 * j + 16 ≤ objBits .EST_WEIGHT := by
    have hbits : objBits .EST_WEIGHT = 8192 := by decide
    omega
  have hrd : (s.reloadLane n i).rd .EST_WEIGHT n
      = setBits (s.rd .EST_WEIGHT n) (16 * i) 16 (s.facWeight n i) % 2 ^ objBits .EST_WEIGHT := State.rd_wr_self _ _ _ _ _
  unfold State.weight
  rw [hrd, bits_mod hwide]
  split
  · next h =>
    rw [h, bits_setBits_self]
    exact Nat.mod_eq_of_lt (Nat.mod_lt _ (by decide))
  · exact bits_setBits_other (by omega)

theorem State.reloadLane_self (s : State) (n : Nat) {i : Nat} (hi : i < 512) : State.LaneReloaded n i (s.reloadLane n i) := by
  unfold State.LaneReloaded
  rw [State.weight_reloadLane _ _ _ hi, if_pos rfl, State.facWeight_reloadLane]

theorem State.reloadLane_keep {s : State} {n i : Nat} (hi : i < 512) (j : Nat) (h : State.LaneReloaded n i s) :
    State.LaneReloaded n i (s.reloadLane n j) := by
  unfold State.LaneReloaded at h ⊢
  rw [State.weight_reloadLane _ _ _ hi, State.facWeight_reloadLane]
  split
  · next he => rw [he]
  · exact h

/-- The lanes of a lost word. -/
def wordLanes (w : Nat) : List Nat := (List.range 4).map (4 * w + ·)

/-- Word `w` has been reloaded, and `rest` is left. -/
def State.wordReloaded (s : State) (n w : Nat) (rest : List Nat) : State :=
  ((s.each (wordLanes w) fun t i => t.reloadLane n i).modE n fun x => { x with weightLost := rest }).setEst n 5 (rest != [])

theorem weightReload_reloads {n w : Nat} {rest : List Nat} {s : State} (h : (s.ee n).weightLost = w :: rest) :
    exec (.weightReload n) s = .next (s.wordReloaded n w rest) := by
  change execWeightReload n s = _
  unfold execWeightReload
  rw [h]
  rfl

theorem State.each_reloadLane_factory (s : State) (n : Nat) (l : List Nat) :
    (s.each l fun t i => t.reloadLane n i).rd .EST_WEIGHT_FACTORY n = s.rd .EST_WEIGHT_FACTORY n :=
  State.each_same (·.rd .EST_WEIGHT_FACTORY n) _ (fun _ _ => State.rd_wr_other _ (by decide) _ _ _ _ _) _ _

theorem State.wordReloaded_effect (s : State) {n w : Nat} (rest : List Nat) (hw : w < 128) :
    (∀ i, i < 4 → (s.wordReloaded n w rest).weight n (4 * w + i) = s.facWeight n (4 * w + i))
      ∧ ((s.wordReloaded n w rest).ee n).weightLost = rest
      ∧ (s.wordReloaded n w rest).flag .EST_STATUS 5 n = decide (rest ≠ []) := by
  refine ⟨fun i hi => ?_, ?_, ?_⟩
  · have hlane : 4 * w + i < 512 := by omega
    have hmem : 4 * w + i ∈ wordLanes w := List.mem_map.mpr ⟨i, List.mem_range.mpr hi, rfl⟩
    have hreloaded : State.LaneReloaded n (4 * w + i) (s.each (wordLanes w) fun t i => t.reloadLane n i) :=
      State.each_establishes hmem (fun t => t.reloadLane_self n hlane) (fun _ j h => State.reloadLane_keep hlane j h) s
    have hkept : (s.wordReloaded n w rest).rd .EST_WEIGHT n = (s.each (wordLanes w) fun t i => t.reloadLane n i).rd .EST_WEIGHT n :=
      (State.rd_setFlag_other _ (by decide) _ _ _).trans (State.rd_modE _ _ _ _ _ _)
    have hfactory := s.each_reloadLane_factory n (wordLanes w)
    unfold State.LaneReloaded State.facWeight State.weight at hreloaded
    unfold State.weight State.facWeight
    rw [hkept, hreloaded, hfactory]
  · refine (congrArg Est.weightLost (State.ee_congr (State.wr_est _ _ _ _ _) n)).trans ?_
    rw [State.ee_modE_self]
  · refine (State.flag_setFlag_self _ _ _ (by decide)).trans ?_
    cases rest <;> rfl

/-! ### The close of a window (R232, R234) -/

/-- The estimate of window `w` of region `n` stands in the report of the window and in its objects. -/
def State.WindowClosed (n w time : Nat) (t : State) : Prop :=
  (t.ee n).win = some (w + 1)
    ∧ ∃ p, (t.ee n).report = some p ∧ p.win = w ∧ p.est = min (p.dyn + p.leak) 0xFFFFFF
      ∧ t.rd .EST_POWER n = p.est % 2 ^ objBits .EST_POWER ∧ t.rd .EST_DYN n = p.dyn % 2 ^ objBits .EST_DYN ∧ p.time = time

/-- The objects of a window's estimate. -/
def State.showEstimate (s : State) (n est dyn leak status : Nat) (ovf : Bool) : State :=
  ((((s.wr .EST_POWER est n).wr .EST_DYN dyn n).wr .EST_LEAK leak n).wr .EST_STATUS status n).when ovf fun t =>
    t.inc .EST_OVERFLOWS n

theorem State.showEstimate_effect (s : State) (n est dyn leak status : Nat) (ovf : Bool) :
    (s.showEstimate n est dyn leak status ovf).est = s.est
      ∧ (s.showEstimate n est dyn leak status ovf).rd .EST_POWER n = est % 2 ^ objBits .EST_POWER
      ∧ (s.showEstimate n est dyn leak status ovf).rd .EST_DYN n = dyn % 2 ^ objBits .EST_DYN := by
  unfold State.showEstimate
  refine ⟨?_, ?_, ?_⟩
  · rw [State.when_same (·.est) _ (fun t => State.inc_est t _ _ _), State.wr_est, State.wr_est, State.wr_est, State.wr_est]
  · rw [State.when_same (·.rd .EST_POWER n) _ fun t => State.rd_inc_other t (by decide) _ _ _ _]
    rw [State.rd_wr_other _ (by decide), State.rd_wr_other _ (by decide), State.rd_wr_other _ (by decide), State.rd_wr_self]
  · rw [State.when_same (·.rd .EST_DYN n) _ fun t => State.rd_inc_other t (by decide) _ _ _ _]
    rw [State.rd_wr_other _ (by decide), State.rd_wr_other _ (by decide), State.rd_wr_self]

theorem State.closeWindow_closed (s0 : State) (n w t dur gap : Nat) :
    State.WindowClosed n w (s0.rd .REGION_TIME n) (s0.closeWindow n w t dur gap) := by
  delta State.closeWindow
  extract_lets forced s2 m s x r q tf ovf bases valid spread rep s1 st s2'
  have hbase : State.Keeps [.REGION_TIME] [] s0 s2 := by
    have hforced : State.Keeps [.REGION_TIME] [] s0 (s0.when forced fun t => t.endInjection 1) :=
      State.when_kept (Fr.refl _) fun _ h => by apply State.endInjection_frame (h := h) <;> decide
    have hread : State.Keeps [.REGION_TIME] [] s0 ((s0.when forced fun t => t.endInjection 1).readWeights n) := by
      apply State.readWeights_frame (h := hforced) <;> decide
    exact State.chargeHold_frame (by decide) (by decide) hread
  have htime : s.rd .REGION_TIME n = s0.rd .REGION_TIME n := by
    have hshow : State.Keeps [.REGION_TIME] [] s0 (s2.when (s2.ee n).ended fun t => t.showM n m) :=
      State.when_kept hbase fun _ h => State.showM_frame (by decide) h
    exact (State.rd_modE _ _ _ _ _ _).trans (hshow.rd (by decide) _ _)
  have hrep : rep.time = s0.rd .REGION_TIME n := htime
  have hend : ∀ st ovf, State.WindowClosed n w (s0.rd .REGION_TIME n) (s1.showEstimate n rep.est q.1 q.2.1 st ovf) := fun st ovf => by
    obtain ⟨hest, hpower, hdyn⟩ := s1.showEstimate_effect n rep.est q.1 q.2.1 st ovf
    have hee := (State.ee_congr hest n).trans (State.ee_modE_self _ _ _)
    exact ⟨congrArg Est.win hee, rep, congrArg Est.report hee, rfl, rfl, hpower, hdyn, hrep⟩
  exact hend st q.2.2

theorem windowClose_closes {n w : Nat} {s : State} (hwin : (s.ee n).win = some w) (hpresent : s.present n = true)
    (hclocked : s.clocked n = true) (htime : (s.r n).timeValid = true) (hend : (w + 1) * 16000 ≤ s.windowTime n) :
    exec (.windowClose n) s
      = .next (s.closeWindow n w ((w + 1) * 16000) 16000 (s.windowTime n / 16000 - w)) := by
  change execWindowClose n s = _
  unfold execWindowClose
  rw [hwin]
  dsimp only
  rw [hpresent, hclocked, htime, decide_eq_true hend]
  rfl

/-! ### The report of a field's window (R235) -/

/-- The regions whose entries a field sums. -/
def State.summed (s : State) (f : Nat) : List Nat := (s.fieldRegions f).filter s.live

theorem State.summed_length (s : State) (f : Nat) : (s.summed f).length ≤ 8 :=
  calc (s.summed f).length ≤ (s.fieldRegions f).length := List.length_filter_le _ _
    _ ≤ ((List.range 8).map (8 * f + ·)).length := List.length_filter_le _ _
    _ = 8 := by rw [List.length_map, List.length_range]

/-- The sums of a field. -/
def fieldSums : List Obj := [.FIELD_EST, .FIELD_EST_SUBST]

theorem State.occField_win (s : State) (f p : Nat) (l : Loss) : ((s.occField f p l).f f).win = (s.f f).win := by
  unfold State.occField
  split
  · dsimp only
    rw [State.f_modF_self]
  · rfl

theorem State.sendWindow_sums (s : State) (f w : Nat) : State.Keeps fieldSums [.fld] s (s.sendWindow f w) := by
  apply State.sendWindow_frame (h := Fr.refl s) <;> decide

/-- The field's window ends, and its sums stand. -/
theorem State.occField_sums (s : State) (f p : Nat) (l : Loss) : State.Keeps fieldSums [] s (s.occField f p l) :=
  State.occField_frame (by decide) (Fr.refl s)

theorem State.domainWindows_sums (s : State) (f w : Nat) (es : List (Nat × Entry)) :
    State.Keeps fieldSums [] s (s.each (s.fieldDomains f) fun t d => t.domainWindow d w es) :=
  State.each_kept (Fr.refl s) fun _ _ h => State.domainWindow_frame (by decide) h

theorem State.rd_wrFit {s : State} {o : Obj} {v : Nat} (e site : Nat) (h : v < 2 ^ objBits o) : (s.wrFit o v e site).rd o e = v := by
  unfold State.wrFit
  rw [if_pos h, State.rd_wr_self, Nat.mod_eq_of_lt h]

theorem State.reportWindow_effect (s : State) (f w : Nat) :
    ((s.reportWindow f w).f f).win = w + 1
      ∧ (sumOf ((s.summed f).map fun n => (s.entry n w).est) < 2 ^ objBits .FIELD_EST →
          (s.reportWindow f w).rd .FIELD_EST f = sumOf ((s.summed f).map fun n => (s.entry n w).est))
      ∧ (s.reportWindow f w).rd .FIELD_EST_SUBST f = ((s.summed f).filter fun n => (s.entry n w).subst).length := by
  delta State.reportWindow
  extract_lets es reps loss s1 s2 s3 s4 s5
  have hest : es.map (·.2.est) = (s.summed f).map fun n => (s.entry n w).est := List.map_map
  have hsubst : (es.filter (·.2.subst)).length = ((s.summed f).filter fun n => (s.entry n w).subst).length := by
    unfold es
    rw [List.filter_map, List.length_map]
    rfl
  have hthrottle : State.Keeps fieldSums [] (s2.wr .FIELD_EST_SUBST (es.filter (·.2.subst)).length f) s3 := by
    apply State.chargeThrottle_frame (h := Fr.refl _) <;> decide
  have hdomains : State.Keeps fieldSums [] s3 s4 := s3.domainWindows_sums f w es
  have hfield : State.Keeps fieldSums [] s4 s5 := State.modF_frame (by decide) (Fr.refl _)
  have hocc := s5.occField_sums f (s5.corrected f (s5.rd .FIELD_EST f)) loss
  have hwin := s5.occField_win f (s5.corrected f (s5.rd .FIELD_EST f)) loss
  have hsent := (s5.occField f (s5.corrected f (s5.rd .FIELD_EST f)) loss).sendWindow_sums f w
  have hend : ∀ {o}, o ∈ fieldSums → ((s5.occField f (s5.corrected f (s5.rd .FIELD_EST f)) loss).sendWindow f w).rd o f
      = (s2.wr .FIELD_EST_SUBST (es.filter (·.2.subst)).length f).rd o f := fun ho =>
    (hsent.rd ho _ _).trans ((hocc.rd ho _ _).trans ((hfield.rd ho _ _).trans ((hdomains.rd ho _ _).trans (hthrottle.rd ho _ _))))
  refine ⟨?_, fun hfit => ?_, ?_⟩
  · have hnew : (s5.f f).win = w + 1 := congrArg Fld.win (State.f_modF_self _ _ _)
    exact (congrArg Fld.win (State.f_congr (hsent.same .fld (by decide)) f)).trans (hwin.trans hnew)
  · rw [hend (by decide), State.rd_wr_other _ (by decide)]
    unfold s2
    rw [hest]
    exact State.rd_wrFit _ _ hfit
  · have hbound : ((s.summed f).filter fun n => (s.entry n w).subst).length < 2 ^ objBits .FIELD_EST_SUBST :=
      calc _ ≤ (s.summed f).length := List.length_filter_le _ _
        _ ≤ 8 := s.summed_length f
        _ < _ := by decide
    rw [hend (by decide), State.rd_wr_self, hsubst, Nat.mod_eq_of_lt hbound]

/-- A window left by a TIME_SET is due no more. -/
def State.dropLate (s : State) (f : Nat) : State := s.modF f fun x => { x with late := x.late.drop 1 }

theorem State.dropLate_summed (s : State) (f f' : Nat) : (s.dropLate f).summed f' = s.summed f' := rfl

theorem State.dropLate_entry (s : State) (f n w : Nat) : (s.dropLate f).entry n w = s.entry n w := rfl

theorem windowReport_reports {f w : Nat} {s : State} (hfield : s.fields.contains f = true) (hdue : s.reportDue f = some w) :
    exec (.windowReport f) s = .next ((s.dropLate f).reportWindow f w) := by
  change execWindowReport f s = _
  unfold execWindowReport
  rw [hdue, Option.filter_some, if_pos hfield]
  rfl

theorem State.reportDue_latest {s : State} {f : Nat} (hlate : (s.f f).late = []) (hended : (s.f f).win < s.winsEnded) :
    s.reportDue f = some (s.winsEnded - 1) := by
  unfold State.reportDue
  rw [hlate]
  exact if_pos (.inl hended)

/-! ### The estimator ready (R238) -/

theorem estimatorReady_opens {s : State} (hrun : s.seqRuns = true) (hdict : s.isReady .dict = true)
    (hreported : ∀ n ∈ s.liveRegions, s.routerOn n = true → ∃ p, (s.ee n).report = some p ∧ p.valid = true) :
    exec .estimatorReady s = .next (s.setReady .estimator true) := by
  have hall : (s.liveRegions.all fun n => !s.routerOn n || (((s.ee n).report.map (·.valid)).getD false)) = true := by
    refine List.all_eq_true.mpr fun n hn => ?_
    cases hrouter : s.routerOn n with
    | false => rfl
    | true =>
      obtain ⟨p, hp, hvalid⟩ := hreported n hn hrouter
      rw [hp]
      exact hvalid
  change execEstimatorReady s = _
  unfold execEstimatorReady
  rw [hrun, hdict, hall]
  rfl

/-- Settles O25: the close of a window ends with its report and its objects, and what follows a field's sum leaves it. -/
theorem windowsAreClosedAndSummed : Obligations.WindowsAreClosedAndSummed := by
  refine ⟨fun n w s hwin hpresent hclocked htime hend => ⟨_, windowClose_closes hwin hpresent hclocked htime hend,
      s.closeWindow_closed n w _ _ _⟩, fun f w s hfield hdue => ⟨_, windowReport_reports hfield hdue, ?_⟩,
    fun f s hlate _ hended => State.reportDue_latest hlate hended,
    fun n w rest s hlost hw => ⟨_, weightReload_reloads hlost, ?_⟩,
    fun s hrun hdict hreported => ⟨_, estimatorReady_opens hrun hdict hreported, State.isReady_setReady_self _ _ _⟩⟩
  · exact (s.dropLate f).reportWindow_effect f w
  · exact s.wordReloaded_effect rest hw

end Sys2Proof.Machine
end

section
/-! PROOF. Group targets and steps (R25, R29, R71, R177, R183 to R186, R191). -/

namespace Sys2Proof.Machine
open Sys2Proof

theorem State.g_congr {s t : State} (h : t.grp = s.grp) (n : Nat) : t.g n = s.g n := by
  unfold State.g
  rw [h]

/-! ### The broadcast of a step (R184) -/

theorem furthest_lt (l : List Nat) : furthest l < 2 ^ 48 := by
  have hlt : ∀ c : Nat, c % 2 ^ 48 < 2 ^ 48 := fun c => Nat.mod_lt c (by decide)
  unfold furthest
  refine List.foldlRecOn l _ (motive := fun b : Option Nat => b.getD 0 < 2 ^ 48) (by decide) fun b hb c _ => ?_
  cases b with
  | none => exact hlt c
  | some m =>
    dsimp only
    split
    · exact hlt c
    · exact hb

theorem State.setChg_rd (s : State) {g : Nat} (c : Chg) (h : s.opFrozen = false) :
    (s.setChg g c).rd .GROUP_CHG_STATE g = c.ctorIdx := by
  unfold State.setChg
  rw [h, if_neg (by decide), State.rd_wr_self]
  cases c <;> decide

theorem State.setChg_rd_other (s : State) (g : Nat) (c : Chg) {o : Obj} (h : o ≠ .GROUP_CHG_STATE) (e i : Nat) :
    (s.setChg g c).rd o e i = s.rd o e i :=
  (State.setChg_frame (W := (· = .GROUP_CHG_STATE)) (Q := fun _ => False) rfl (Fr.refl s)).obj o e i h

/-- A step with its count C. -/
def GStep.sent (st : GStep) (c : Nat) : GStep := { st with c := some c, raising := [] }

/-- What the broadcast of a step leaves, in a group with a clocked island. -/
theorem State.broadcastStep_effect {s : State} {g : Nat} (st : GStep) (hislands : (s.g g).islands ≠ []) :
    ∃ c, ((s.broadcastStep g st).g g).step = some (st.sent c) ∧ c < 2 ^ 48
      ∧ (s.broadcastStep g st).rd .GROUP_CHG_C g = c
      ∧ (s.opFrozen = false → (s.broadcastStep g st).rd .GROUP_CHG_STATE g = Chg.broadcast.ctorIdx) := by
  have hc : s.chooseC g st.nOld (8 * (s.T + 16000 * st.lead)) < 2 ^ 48 := furthest_lt _
  unfold State.broadcastStep
  rw [if_neg hislands]
  dsimp only
  generalize s.chooseC g st.nOld (8 * (s.T + 16000 * st.lead)) = c at hc
  refine ⟨c, ?_, hc, ?_, fun h => State.setChg_rd _ _ h⟩
  · refine (congrArg Grp.step (State.g_congr (State.setChg_grp _ _ _) g)).trans ?_
    refine (congrArg Grp.step (State.g_congr (State.wr_grp _ _ _ _ _) g)).trans ?_
    rw [State.g_modG_self]
    rfl
  · rw [State.setChg_rd_other _ _ _ (by decide), State.rd_wr_self]
    have hbits : 2 ^ 48 ≤ 2 ^ objBits .GROUP_CHG_C := by decide
    exact Nat.mod_eq_of_lt (by omega)

/-! ### The start of a step (R177, R183) -/

theorem stepToward_falls {old tgt : Nat} (htgt : 160 ≤ tgt) (h : tgt < old) : ¬old < stepToward old tgt := by
  unfold stepToward
  rw [if_neg (by omega)]
  omega

/-- A falling step of a group with a clocked island is broadcast at once. -/
theorem State.startStep_falls {s : State} {g p : Nat} (hpending : (s.g g).pending = some p)
    (hbelow : max 160 (min p (s.ceilN g)) < s.rd .GROUP_N g) (hislands : (s.g g).islands ≠ []) (hfrozen : s.opFrozen = false) :
    ∃ st c, ((s.startStep g).g g).step = some st ∧ st.nOld = s.rd .GROUP_N g
      ∧ st.nNew = stepToward (s.rd .GROUP_N g) (max 160 (min p (s.ceilN g))) ∧ st.c = some c ∧ c < 2 ^ 48
      ∧ (s.startStep g).rd .GROUP_CHG_C g = c ∧ (s.startStep g).rd .GROUP_CHG_STATE g = Chg.broadcast.ctorIdx := by
  unfold State.startStep
  rw [hpending]
  dsimp only
  generalize htgt : max 160 (min p (s.ceilN g)) = tgt at hbelow ⊢
  have hmin : 160 ≤ tgt := htgt ▸ le_max_left _ _
  rw [if_neg hbelow.ne, if_neg (stepToward_falls hmin hbelow)]
  generalize hq : (s.wr .GROUP_TARGET_N tgt g).predictAll (stepToward (s.rd .GROUP_N g) tgt)
    ((s.wr .GROUP_TARGET_N tgt g).groupFields g) = q
  have hkeep : State.Keeps [] [.grp, .flt, .su] s (q.2.setChg g .broadcast) := by
    have htarget : State.Keeps [] [.grp, .flt, .su] s (s.wr .GROUP_TARGET_N tgt g) :=
      State.wr_frame (by decide) (Fr.refl s)
    have hpredict : State.Keeps [] [.grp, .flt, .su] s q.2 := by
      rw [← hq]
      apply State.predictAll_frame (h := htarget) <;> decide
    exact State.setChg_frame (by decide) hpredict
  have hfrozen' : (q.2.setChg g .broadcast).opFrozen = false := by
    unfold State.opFrozen at hfrozen ⊢
    rwa [hkeep.same .flt (by decide), hkeep.same .su (by decide)]
  have hislands' : ((q.2.setChg g .broadcast).g g).islands ≠ [] := by
    rwa [State.g_congr (hkeep.same .grp (by decide))]
  obtain ⟨c, hstep, hlt, hc, hstate⟩ := State.broadcastStep_effect _ hislands'
  exact ⟨_, c, hstep, rfl, rfl, rfl, hlt, hc, hstate hfrozen'⟩

theorem groupStepStart_starts {g : Nat} {s : State} (hg : g < s.rd .NUM_GROUPS) (hnone : (s.g g).step = none)
    (hmay : (s.g g).noStep = false) (hfrozen : s.opFrozen = false) (hrun : s.refs.shortStop = false)
    (hfree : s.stopHolds g = false) (hready : s.isReady .ready = true ∨ s.su.ramping = true) :
    exec (.groupStepStart g) s = .next (s.startStep g) := by
  have hmem : s.groups.contains g = true := List.contains_iff_mem.mpr (List.mem_range.mpr hg)
  change execGroupStepStart g s = _
  unfold execGroupStepStart
  rw [hmem, hnone, hmay, hfrozen, hrun, hfree, Bool.or_eq_true_iff.mpr hready]
  rfl

/-! ### A new target (R29, R71) -/

/-- The target waits, shown clipped to the ceiling. -/
def State.awaitTarget (s : State) (g tgt : Nat) : State :=
  (s.modG g fun x => { x with pending := some tgt }).wr .GROUP_TARGET_N (min tgt (s.ceilN g)) g

theorem State.awaitTarget_effect (s : State) (g : Nat) {tgt : Nat} (h : tgt ≤ 1536) :
    ((s.awaitTarget g tgt).g g).pending = some tgt ∧ (s.awaitTarget g tgt).rd .GROUP_TARGET_N g = min tgt (s.ceilN g) := by
  constructor
  · refine (congrArg Grp.pending (State.g_congr (State.wr_grp _ _ _ _ _) g)).trans ?_
    rw [State.g_modG_self]
  · have hbits : 1536 < 2 ^ objBits .GROUP_TARGET_N := by decide
    refine (State.rd_wr_self _ _ _ _ _).trans (Nat.mod_eq_of_lt ?_)
    omega

/-- The end of a step that is superseded, or is not OK, leaves what waits. -/
theorem State.abortStep_g (s : State) (g result : Nat) : ((s.abortStep g result).g g) = { s.g g with step := none } :=
  (State.g_congr (s.abortStep_grp g result) g).trans (State.g_modG_self _ _ _)

theorem State.newTarget_effect (s : State) (g : Nat) {tgt : Nat} (h : tgt ≤ 1536) :
    ((s.newTarget g tgt).g g).pending = some tgt ∧ (s.newTarget g tgt).rd .GROUP_TARGET_N g = min tgt (s.ceilN g) := by
  obtain ⟨hpending, hshown⟩ := s.awaitTarget_effect g h
  have hcases : s.newTarget g tgt = s.awaitTarget g tgt ∨ s.newTarget g tgt = (s.awaitTarget g tgt).abortStep g 7 := by
    unfold State.newTarget
    dsimp only
    rw [show (s.modG g fun x => { x with pending := some tgt }).wr .GROUP_TARGET_N (min tgt (s.ceilN g)) g
      = s.awaitTarget g tgt from rfl]
    split
    · split
      · exact .inl rfl
      · exact .inr rfl
    · exact .inl rfl
  rcases hcases with heq | heq
  · rw [heq]
    exact ⟨hpending, hshown⟩
  · have hkeep : State.Keeps [.GROUP_TARGET_N] [] (s.awaitTarget g tgt) ((s.awaitTarget g tgt).abortStep g 7) := by
      apply State.abortStep_frame (h := Fr.refl _) <;> decide
    rw [heq, State.abortStep_g, hkeep.rd (by decide)]
    exact ⟨hpending, hshown⟩

theorem groupTarget_accepted {g target : Nat} {s : State} (hg : g < s.rd .NUM_GROUPS) (hlow : 160 ≤ target) (hhigh : target ≤ 1536) :
    exec (.groupTarget g target) s = .next (s.newTarget g target) := by
  have hmem : s.groups.contains g = true := List.contains_iff_mem.mpr (List.mem_range.mpr hg)
  change execGroupTarget g target s = _
  unfold execGroupTarget
  rw [hmem, decide_eq_true ⟨hlow, hhigh⟩]
  rfl

theorem groupTarget_ignored {g target : Nat} {s : State} (h : target < 160 ∨ 1536 < target) :
    exec (.groupTarget g target) s = .next s := by
  have hout : ¬(160 ≤ target ∧ target ≤ 1536) := by omega
  change execGroupTarget g target s = _
  unfold execGroupTarget
  rw [decide_eq_false hout, Bool.and_false]
  rfl

/-! ### Confirmation and timeout of a raise (R185) -/

theorem State.stepPrepared_eq {s : State} {g : Nat} {st : GStep} (hstep : (s.g g).step = some st) (hc : st.c = none) :
    s.stepPrepared g = some st := by
  unfold State.stepPrepared
  rw [hstep, Option.filter_some, hc]
  rfl

theorem voltConfirm_broadcasts {g : Nat} {st : GStep} {s : State} (hg : g ≠ 0xFF) (hrun : s.refs.shortStop = false)
    (hstep : (s.g g).step = some st) (hc : st.c = none) (hraising : st.raising ≠ [])
    (hall : ∀ f ∈ st.raising, s.voltConfirmed st.tol f (Tab.get st.vNew f 0) = true) :
    exec (.voltConfirm g) s = .next (s.broadcastStep g st) := by
  change Host.Outcome.next (if g = 0xFF then s.confirmStop else s.confirmStep g) = _
  rw [if_neg hg]
  unfold State.confirmStep
  rw [State.stepPrepared_eq hstep hc]
  dsimp only
  rw [hrun, bne_iff_ne.mpr hraising, List.all_eq_true.mpr hall]
  rfl

/-- A raise that is not confirmed in time. -/
def State.barRises (s : State) (g f : Nat) : State := (s.event 0x27 g f).modG g fun x => { x with noRise := true }

theorem voltTimeout_ends {g f : Nat} {st : GStep} {s : State} (hg : g ≠ 0xFF) (hrun : s.refs.shortStop = false)
    (hstep : (s.g g).step = some st) (hc : st.c = none)
    (hfind : (st.raising.find? fun f => !s.voltConfirmed st.tol f (Tab.get st.vNew f 0)) = some f) (hlate : st.deadline ≤ s.up) :
    exec (.voltTimeout g) s = .next ((s.barRises g f).abortStep g 3) := by
  change Host.Outcome.next (if g = 0xFF then s.timeoutStop.fillPlaces else s.timeoutStep g) = _
  rw [if_neg hg]
  unfold State.timeoutStep
  rw [State.stepPrepared_eq hstep hc]
  dsimp only
  rw [hfind]
  dsimp only
  rw [decide_eq_true hlate, hrun]
  rfl

/-- The result and the count of a step that ends not OK. -/
theorem State.abortStep_rd (s : State) (g : Nat) {result : Nat} (h7 : result ≠ 7) (hlt : result < 8) :
    (s.abortStep g result).rd .GROUP_CHG_RESULT g = result
      ∧ (s.abortStep g result).rd .GROUP_CHG_ABORTS g = satAdd 32 (s.rd .GROUP_CHG_ABORTS g) 1 := by
  have hrecover : ∀ t : State, State.Keeps [.GROUP_CHG_RESULT, .GROUP_CHG_ABORTS] [] t (t.startRecoveries g true) := fun t => by
    apply State.startRecoveries_frame (h := Fr.refl _) <;> decide
  unfold State.abortStep
  rw [bne_iff_ne.mpr h7, State.when_true]
  constructor
  · rw [(hrecover _).rd (by decide), State.setChg_rd_other _ _ _ (by decide), State.rd_inc_other _ (by decide), State.rd_wr_self]
    have hbits : 8 ≤ 2 ^ objBits .GROUP_CHG_RESULT := by decide
    exact Nat.mod_eq_of_lt (by omega)
  · rw [(hrecover _).rd (by decide), State.setChg_rd_other _ _ _ (by decide), State.rd_inc_self, State.rd_wr_other _ (by decide),
      State.rd_modG]
    rfl

theorem State.barRises_effect (s : State) (g f : Nat) :
    s.Logged ((s.barRises g f).abortStep g 3) 0x27 g f false ∧ (((s.barRises g f).abortStep g 3).g g).step = none
      ∧ (((s.barRises g f).abortStep g 3).g g).noRise = true
      ∧ ((s.barRises g f).abortStep g 3).rd .GROUP_CHG_RESULT g = 3
      ∧ ((s.barRises g f).abortStep g 3).rd .GROUP_CHG_ABORTS g = satAdd 32 (s.rd .GROUP_CHG_ABORTS g) 1 := by
  have hlog : State.Keeps eventObjs [] (s.event 0x27 g f) ((s.barRises g f).abortStep g 3) := by
    have hbar : State.Keeps eventObjs [] (s.event 0x27 g f) (s.barRises g f) := State.modG_frame (by decide) (Fr.refl _)
    apply State.abortStep_frame (h := hbar) <;> decide
  have haborts : (s.barRises g f).rd .GROUP_CHG_ABORTS g = s.rd .GROUP_CHG_ABORTS g :=
    (State.rd_modG _ _ _ _ _ _).trans ((s.event_fr 0x27 g f false).obj .GROUP_CHG_ABORTS g 0 (by decide))
  obtain ⟨hresult, hcount⟩ := (s.barRises g f).abortStep_rd g (result := 3) (by decide) (by decide)
  have hbarred : ((s.barRises g f).g g).noRise = true := congrArg Grp.noRise (State.g_modG_self _ _ _)
  refine ⟨(s.event_logged 0x27 g f false).trans fun o ho e i => hlog.rd ho e i, ?_, ?_, hresult, by rw [hcount, haborts]⟩
  · rw [State.abortStep_g]
  · rw [State.abortStep_g]
    exact hbarred

/-! ### The end of a step (R186) -/

theorem groupStepEnd_ends {g c : Nat} {st : GStep} {s : State} (hrun : s.refs.shortStop = false) (hstep : (s.g g).step = some st)
    (hc : st.c = some c) (hpast : ∀ i ∈ (s.g g).islands, s.reportedPast i.1 (c + 4 * i.2) = true) :
    exec (.groupStepEnd g) s = .next (s.endStep g st) := by
  change execGroupStepEnd g s = _
  unfold execGroupStepEnd
  rw [hstep]
  dsimp only
  rw [hc]
  dsimp only
  rw [hrun, List.all_eq_true.mpr hpast]
  rfl

/-- The group's ratio is the step's. -/
def State.takeRatio (s : State) (g : Nat) (st : GStep) : State :=
  (s.modG g fun x =>
    { x with step := none, pending := if x.pending = some st.nNew then none else x.pending }).wr .GROUP_N st.nNew g

/-- The step ends OK. -/
def State.countStep (s : State) (g : Nat) : State := (s.wr .GROUP_CHG_RESULT 1 g).inc .GROUP_CHG_STEPS g

theorem State.countStep_effect (s : State) (g : Nat) (st : GStep) :
    ((s.takeRatio g st).countStep g).rd .GROUP_N g = st.nNew % 2 ^ 16
      ∧ (((s.takeRatio g st).countStep g).g g).step = none
      ∧ ((s.takeRatio g st).countStep g).rd .GROUP_CHG_RESULT g = 1
      ∧ ((s.takeRatio g st).countStep g).rd .GROUP_CHG_STEPS g = satAdd 32 (s.rd .GROUP_CHG_STEPS g) 1 := by
  unfold State.takeRatio State.countStep
  refine ⟨?_, ?_, ?_, ?_⟩
  · rw [State.rd_inc_other _ (by decide), State.rd_wr_other _ (by decide), State.rd_wr_self]
    rfl
  · have hgrp : ∀ t : State, (((t.wr .GROUP_N st.nNew g).wr .GROUP_CHG_RESULT 1 g).inc .GROUP_CHG_STEPS g).grp = t.grp := fun t => by
      rw [State.inc_grp, State.wr_grp, State.wr_grp]
    exact (congrArg Grp.step (State.g_congr (hgrp _) g)).trans (congrArg Grp.step (State.g_modG_self _ _ _))
  · rw [State.rd_inc_other _ (by decide), State.rd_wr_self]
    rfl
  · rw [State.rd_inc_self, State.rd_wr_other _ (by decide), State.rd_wr_other _ (by decide), State.rd_modG]
    rfl

/-- The voltages of `low` go down at the end of a step, where there are any. -/
def State.settleStep (s : State) (g : Nat) (st : GStep) (low : List (Nat × Nat)) : State :=
  (if st.nNew < st.nOld ∧ low ≠ [] then (s.lowerAll low).setChg g .voltDown else s.setChg g .idle).startRecoveries g false

theorem State.settleStep_keeps (s : State) (g : Nat) (st : GStep) (low : List (Nat × Nat)) :
    State.Keeps [.GROUP_N, .GROUP_CHG_RESULT, .GROUP_CHG_STEPS] [.grp] s (s.settleStep g st low) := by
  have hlower : State.Keeps [.GROUP_N, .GROUP_CHG_RESULT, .GROUP_CHG_STEPS] [.grp] s (s.lowerAll low) := by
    apply State.lowerAll_frame (h := Fr.refl s) <;> decide
  have hstate : State.Keeps [.GROUP_N, .GROUP_CHG_RESULT, .GROUP_CHG_STEPS] [.grp] s
      (if st.nNew < st.nOld ∧ low ≠ [] then (s.lowerAll low).setChg g .voltDown else s.setChg g .idle) := by
    split
    · exact State.setChg_frame (by decide) hlower
    · exact State.setChg_frame (by decide) (Fr.refl s)
  unfold State.settleStep
  apply State.startRecoveries_frame (h := hstate) <;> decide

/-- A step that ends OK takes its ratio and is counted; what follows leaves both. -/
theorem State.endStep_effect {s : State} {g : Nat} (st : GStep) (hfrozen : s.opFrozen = false) :
    (s.endStep g st).rd .GROUP_N g = st.nNew % 2 ^ 16 ∧ ((s.endStep g st).g g).step = none
      ∧ (s.endStep g st).rd .GROUP_CHG_RESULT g = 1
      ∧ (s.endStep g st).rd .GROUP_CHG_STEPS g = satAdd 32 (s.rd .GROUP_CHG_STEPS g) 1 := by
  have heq : ∃ low, s.endStep g st = ((s.takeRatio g st).countStep g).settleStep g st low := by
    unfold State.endStep
    dsimp only
    rw [hfrozen, if_neg (by decide)]
    exact ⟨_, rfl⟩
  obtain ⟨low, heq⟩ := heq
  obtain ⟨hratio, hstep, hresult, hcount⟩ := s.countStep_effect g st
  have hkeep := ((s.takeRatio g st).countStep g).settleStep_keeps g st low
  rw [heq, hkeep.rd (by decide), hkeep.rd (by decide), hkeep.rd (by decide), State.g_congr (hkeep.same .grp (by decide))]
  exact ⟨hratio, hstep, hresult, hcount⟩

/-- Settles O17: a falling step is below GROUP_N whatever the target, so it is broadcast at once, and each end of a step leaves its
result. -/
theorem groupTargetsAndSteps : Obligations.GroupTargetsAndSteps := by
  refine ⟨fun g target s hg hlow hhigh => ⟨_, groupTarget_accepted hg hlow hhigh, s.newTarget_effect g hhigh⟩,
    fun g target s h => groupTarget_ignored h,
    fun g p s hg hnone hmay hfrozen hrun hfree hready hpending hbelow hislands => ?_,
    fun g st s hg hrun hstep hc hraising hall hislands => ?_,
    fun g f st s hg hrun hstep hc hfind hlate => ⟨_, voltTimeout_ends hg hrun hstep hc hfind hlate, s.barRises_effect g f⟩,
    fun g c st s hrun hstep hc hfrozen hpast => ⟨_, groupStepEnd_ends hrun hstep hc hpast, State.endStep_effect st hfrozen⟩⟩
  · obtain ⟨st, c, hst⟩ := State.startStep_falls hpending hbelow hislands hfrozen
    exact ⟨_, st, c, groupStepStart_starts hg hnone hmay hfrozen hrun hfree hready, hst⟩
  · obtain ⟨c, hsent, -, hc', -⟩ := State.broadcastStep_effect st hislands
    exact ⟨_, st.sent c, c, voltConfirm_broadcasts hg hrun hstep hc hraising hall, hsent, rfl, rfl, hc'⟩

end Sys2Proof.Machine
end

section
/-! PROOF. Sweeps read every lane (R47, R48, R225 to R228). -/

namespace Sys2Proof.Machine
open Sys2Proof

/-! ### The start of a sweep (R47) -/

theorem State.ln_modLn_self (s : State) (n i : Nat) (f : Lane → Lane) : (s.modLn n i f).ln n i = f (s.ln n i) :=
  Tab.get_set_self _ _ _ _

theorem State.ln_congr {s t : State} (h : t.lane = s.lane) (n i : Nat) : t.ln n i = s.ln n i := by
  rw [State.ln, State.ln, h]

theorem sweepStart_begins {n : Nat} {s : State} (hpresent : s.present n = true) (hclocked : s.clocked n = true)
    (hmay : (s.ee n).mayBegin = true) (hnone : (s.ee n).sweeping = false) :
    exec (.sweepStart n) s = .next ((s.beginSweep n).when (s.rd .REGION_LANES n == 0) fun u => u.endSweep n) := by
  change execSweepStart n s = _
  unfold execSweepStart
  rw [hpresent, hclocked, hmay, hnone]
  rfl

theorem State.beginSweep_ee (s : State) (n : Nat) :
    (s.beginSweep n).ee n = { s.ee n with
      sweeping := true, mayBegin := false, lane := 0, sweepCyc := 0, actReq := true, actAddr := 0, sweepWin := 0,
      acc := 0, invalid := 0, unbased := 0, mask := 0 } :=
  State.ee_modE_self _ _ _

/-- The end of a sweep leaves what the sweep has gathered. -/
theorem State.endSweep_ee (s : State) (n : Nat) :
    (s.endSweep n).ee n = { s.ee n with
      sweeping := false, actReq := false, actAddr := 0, ended := true, endAcc := (s.ee n).acc,
      endInvalid := (s.ee n).invalid, endUnbased := (s.ee n).unbased, endMask := (s.ee n).mask,
      endM := (s.ee n).sweepWin + 1 } :=
  State.ee_modE_self _ _ _

theorem State.endSweep_fr (s : State) (n : Nat) : Fr (· = .EST_SWEEP_M) (· = .est) s (s.endSweep n) :=
  State.endSweep_frame rfl rfl (Fr.refl s)

/-! ### A response (R48, R226 to R228) -/

/-- The state once a due response of region `n` is counted to its lane and to the sums of the sweep. -/
def State.takeLane (s : State) (n : Nat) (vld : Bool) (data : Nat) : State :=
  (s.modLn n (s.ee n).lane fun l => (l.read (s.coreOn n) vld data).2).modE n fun x =>
    { x with
      lane := x.lane + 1
      acc := x.acc + s.weight n x.lane * ((s.ln n x.lane).read (s.coreOn n) vld data).1
      invalid := x.invalid + (!vld && s.coreOn n).toNat
      unbased := x.unbased + (!(s.ln n x.lane).based && (vld || s.coreOn n)).toNat
      mask := setBit x.mask x.lane (((s.ln n x.lane).read (s.coreOn n) vld data).1 != 0) }

/-- A response taken, its invalid read counted where the core is powered. -/
def State.countLane (s : State) (n : Nat) (vld : Bool) (data : Nat) : State :=
  (s.takeLane n vld data).when (!vld && s.coreOn n) fun t => t.inc .LANE_INVALIDS n

theorem laneResponse_due {n data : Nat} {vld : Bool} {s : State} (h : s.responseDue n = true) :
    exec (.laneResponse n vld data) s = .next ((s.countLane n vld data).when
      (decide (s.rd .REGION_LANES n ≤ (s.ee n).lane + 1)) fun t => t.endSweep n) := by
  change execLaneResponse n vld data s = _
  unfold execLaneResponse
  rw [h]
  rfl

theorem laneResponse_stray {n data : Nat} {s : State} (h : s.responseDue n = false) (hpresent : s.present n = true) :
    exec (.laneResponse n true data) s = .next (s.inc .ACT_PROTO_ERR n) := by
  change execLaneResponse n true data s = _
  unfold execLaneResponse
  rw [h, hpresent]
  rfl

/-- What a read of a lane gives: the events it contributes, and the lane's new baseline. -/
theorem Lane.read_effect (l : Lane) (core vld : Bool) (data : Nat) :
    (l.read core vld data).1 = (if vld then (if l.based then (data + 65536 - l.prev) % 65536 else 0)
        else if core then l.delta else 0)
      ∧ (l.read core vld data).2.based = vld
      ∧ (vld = true → (l.read core vld data).2.prev = data % 65536
          ∧ (l.read core vld data).2.delta = (l.read core vld data).1) := by
  cases vld
  · exact ⟨rfl, rfl, fun h => absurd h Bool.false_ne_true⟩
  · exact ⟨rfl, rfl, fun _ => ⟨rfl, rfl⟩⟩

theorem State.countLane_ln (s : State) (n : Nat) (vld : Bool) (data : Nat) :
    (s.countLane n vld data).ln n (s.ee n).lane = ((s.ln n (s.ee n).lane).read (s.coreOn n) vld data).2 := by
  have hlane : (s.countLane n vld data).lane = (s.takeLane n vld data).lane :=
    State.when_same State.lane (·.inc .LANE_INVALIDS n) (fun t => t.inc_lane _ _ _) _ _
  have htake : (s.takeLane n vld data).lane
      = (s.modLn n (s.ee n).lane fun l => (l.read (s.coreOn n) vld data).2).lane := State.modE_lane _ _ _
  exact (State.ln_congr (hlane.trans htake) _ _).trans (s.ln_modLn_self _ _ _)

theorem State.countLane_ee (s : State) (n : Nat) (vld : Bool) (data : Nat) :
    (s.countLane n vld data).ee n = (s.takeLane n vld data).ee n :=
  State.when_same (·.ee n) (·.inc .LANE_INVALIDS n) (fun t => State.ee_congr (t.inc_est _ _ _) n) _ _

theorem State.takeLane_sums (s : State) (n : Nat) (vld : Bool) (data : Nat) :
    ((s.takeLane n vld data).ee n).sweeping = (s.ee n).sweeping
      ∧ ((s.takeLane n vld data).ee n).lane = (s.ee n).lane + 1
      ∧ ((s.takeLane n vld data).ee n).acc = (s.ee n).acc
          + s.weight n (s.ee n).lane * ((s.ln n (s.ee n).lane).read (s.coreOn n) vld data).1 := by
  unfold State.takeLane
  rw [State.ee_modE_self]
  exact ⟨rfl, rfl, rfl⟩

theorem State.countLane_invalids (s : State) (n : Nat) (vld : Bool) (data : Nat) :
    (s.countLane n vld data).rd .LANE_INVALIDS n
      = if vld = false ∧ s.coreOn n = true then satAdd (objBits .LANE_INVALIDS) (s.rd .LANE_INVALIDS n) 1
        else s.rd .LANE_INVALIDS n := by
  unfold State.countLane
  cases vld
  · cases s.coreOn n
    · rfl
    · exact State.rd_inc_self _ _ _ _
  · rfl

/-- Settles O24: a due response is taken by its lane whatever the sweep does next, and the end of the sweep keeps its sums. -/
theorem sweepsReadEveryLane : Obligations.SweepsReadEveryLane := by
  refine ⟨fun n s hpresent hclocked hmay hnone => ⟨_, sweepStart_begins hpresent hclocked hmay hnone, ?_⟩,
    fun n data x vld s hdue hx => ⟨_, laneResponse_due hdue, ?_⟩,
    fun n data s hdue hpresent => ⟨_, laneResponse_stray hdue hpresent, rfl, rfl, State.rd_inc_self _ _ _ _⟩⟩
  · by_cases hlanes : s.rd .REGION_LANES n = 0
    · rw [hlanes, beq_self_eq_true, State.when_true, State.endSweep_ee, State.beginSweep_ee]
      exact ⟨rfl, rfl, rfl, rfl, rfl, rfl⟩
    · rw [beq_false_of_ne hlanes, State.when_false, State.beginSweep_ee, if_neg hlanes]
      exact ⟨rfl, rfl, rfl, rfl, rfl, rfl, rfl⟩
  · obtain ⟨hread, hbased, hbaseline⟩ := (s.ln n (s.ee n).lane).read_effect (s.coreOn n) vld data
    rw [← hx] at hread
    obtain ⟨hsweeping, hlane, hacc⟩ := s.takeLane_sums n vld data
    rw [← s.countLane_ee] at hsweeping hlane hacc
    rw [hread] at hacc hbaseline
    have hend : ∀ b, Fr (· = .EST_SWEEP_M) (· = .est) (s.countLane n vld data)
        ((s.countLane n vld data).when b fun t => t.endSweep n) := fun b => by
      cases b
      · exact Fr.refl _
      · exact State.endSweep_fr _ n
    have hln := (State.ln_congr ((hend (decide (s.rd .REGION_LANES n ≤ (s.ee n).lane + 1))).part .lane (by decide)) n
      (s.ee n).lane).trans (s.countLane_ln n vld data)
    have hcount := ((hend (decide (s.rd .REGION_LANES n ≤ (s.ee n).lane + 1))).obj .LANE_INVALIDS n 0 (by decide)).trans
      (s.countLane_invalids n vld data)
    refine ⟨?_, ?_, ?_, ?_, ?_, ?_⟩
    · rw [State.when_same (fun t => (t.ee n).lane) (·.endSweep n) fun t => by rw [t.endSweep_ee n]]
      exact hlane
    · rw [hln]
      exact hbased
    · rw [hln]
      exact hbaseline
    · rintro rfl hcore
      exact hcount.trans (if_pos ⟨rfl, hcore⟩)
    · intro hok
      refine hcount.trans (if_neg ?_)
      rintro ⟨rfl, hcore⟩
      simp [hcore] at hok
    · split
      next hmore =>
        rw [decide_eq_false (by omega), State.when_false]
        refine ⟨?_, hacc⟩
        rw [hsweeping]
        exact (Bool.and_eq_true_iff.1 hdue).1
      next hlast =>
        rw [decide_eq_true (by omega), State.when_true, State.endSweep_ee]
        exact ⟨rfl, rfl, hacc⟩

end Sys2Proof.Machine
end

section
/-! SUPPORT. Free places of the power-switch sequencer (R54, R56): what giving them leaves of the switches, of the doorbells and
of the domains that take none. -/

namespace Sys2Proof.Machine
open Sys2Proof

theorem State.d_congr {s t : State} (h : t.dom = s.dom) (n : Nat) : t.d n = s.d n := by
  rw [State.d, State.d, h]

theorem State.bx_congr {s t : State} (h : t.box = s.box) (n : Nat) : t.bx n = s.bx n := by
  rw [State.bx, State.bx, h]

/-- What holds of a state, of every advance of a domain that wants a place in a state where it holds, and whatever commands wait,
holds once the places are given. -/
theorem State.fillPlaces_kept {P : State → Prop} {s : State} (h : P s)
    (hadvance : ∀ u t d, P u → u.wantsPlace d = true → P t → P (t.advance d))
    (hcmds : ∀ t l, P t → P { t with pdCmds := l }) : P s.fillPlaces := by
  have hplaces : ∀ (u : State) (l : List Nat) (b : State → Nat → Bool), P u → (∀ d ∈ l, u.wantsPlace d = true) →
      P (u.each l fun t d => t.when (b t d) fun v => v.advance d) := fun u l b hu hl =>
    State.each_mem_kept hu fun t d hd ht => State.when_kept ht fun v hv => hadvance u v d hu (hl d hd) hv
  unfold State.fillPlaces
  split
  · exact h
  · refine hcmds _ _ (hplaces _ _ (fun t _ => decide (t.inTransition.length < 8 ∧ t.commandTransitions.length < 7)) ?_ ?_)
    · exact hplaces s _ (fun t _ => decide (t.inTransition.length < 8)) h fun d hd => (List.mem_filter.1 hd).2
    · exact fun d hd => (Bool.and_eq_true_iff.1 (List.mem_filter.1 hd).2).1

/-! ### The switches (R50) -/

/-- The switches of a domain and their acknowledgements: core and router. -/
def Dom.switches (x : Dom) : (Bool × Bool) × Bool × Bool := ((x.enCore, x.enRtr), x.ackCore, x.ackRtr)

/-- The switches of every domain. -/
def State.switches (s : State) (d : Nat) : (Bool × Bool) × Bool × Bool := (s.d d).switches

theorem State.switches_congr {s t : State} (h : t.dom = s.dom) : t.switches = s.switches :=
  funext fun d => congrArg Dom.switches (State.d_congr h d)

theorem State.Keeps.switches {os : List Obj} {ps : List Part} {s t : State} (h : State.Keeps os ps s t)
    (hp : Part.dom ∈ ps := by decide) : t.switches = s.switches :=
  State.switches_congr (h.same .dom hp)

theorem State.modD_switches (s : State) (d : Nat) {f : Dom → Dom} (hf : ∀ x, (f x).switches = x.switches) :
    (s.modD d f).switches = s.switches := by
  funext x
  unfold State.switches
  rw [State.d_modD]
  split
  · next h => rw [hf, h]
  · rfl

theorem State.domainStable_of_switches {s t : State} (h : t.switches = s.switches) (d : Nat) :
    t.domainStable d = s.domainStable d := by
  have hd := congrFun h d
  simp only [State.switches, Dom.switches, Prod.mk.injEq] at hd
  obtain ⟨⟨hcore, hrtr⟩, -⟩ := hd
  unfold State.domainStable
  rw [hcore, hrtr]

theorem State.setPhase_switches (s : State) (d : Nat) (p : PdPhase) : (s.setPhase d p).switches = s.switches :=
  (State.switches_congr rfl).trans (s.modD_switches d (f := fun x => { x with phase := some p, timedOut := false }) fun _ => rfl)

theorem State.deliverDomain_switches (s : State) (d : Nat) : (s.deliverDomain d).switches = s.switches :=
  State.Keeps.switches (os := []) (ps := [.dom]) (State.deliverDomain_frame (by decide) (by decide) (Fr.refl s))

theorem State.endTransition_switches (s : State) (d : Nat) : (s.endTransition d).switches = s.switches := by
  unfold State.endTransition
  refine (State.when_same State.switches _ (fun t => t.deliverDomain_switches d) _ _).trans ?_
  exact (State.switches_congr rfl).trans (s.modD_switches d (f := fun x => { x with phase := none }) fun _ => rfl)

theorem State.fenceDomain_switches (s : State) (d : Nat) : (s.fenceDomain d).switches = s.switches := by
  have hfence : ∀ (t : State) n, (t.fenceAll n).switches = t.switches := fun t n =>
    State.Keeps.switches (os := []) (ps := [.dom]) (State.fenceAll_frame (by decide) (Fr.refl t))
  have hdiscard : (s.discardDomain d).switches = s.switches :=
    State.Keeps.switches (os := []) (ps := [.dom]) (by apply State.discardDomain_frame (h := Fr.refl s) <;> decide)
  unfold State.fenceDomain
  rw [State.setPhase_switches, State.each_same State.switches _ hfence, hdiscard]

theorem State.advance_switches (s : State) (d : Nat) : (s.advance d).switches = s.switches := by
  have hbegan : (s.modD d fun x => if x.phase.isNone then { x with began := s.ctlUs } else x).switches = s.switches :=
    s.modD_switches d fun x => by split <;> rfl
  unfold State.advance
  dsimp only
  split_ifs
  · rw [State.endTransition_switches, hbegan]
  · rw [State.setPhase_switches, State.modD_switches _ _ (by intro _; rfl), hbegan]
  · rw [State.setPhase_switches, State.modD_switches _ _ (by intro _; rfl), hbegan]
  · rw [State.fenceDomain_switches, hbegan]
  · rw [State.setPhase_switches, hbegan]
  · rw [State.setPhase_switches, hbegan]

theorem State.fillPlaces_switches (s : State) : s.fillPlaces.switches = s.switches :=
  State.fillPlaces_kept (P := fun t => t.switches = s.switches) rfl
    (fun _ t d _ _ h => (t.advance_switches d).trans h) fun _ _ h => h

/-- No place given changes a target. -/
theorem State.advance_target (s : State) (d x : Nat) : (s.advance d).rd .DOMAIN_TARGET x = s.rd .DOMAIN_TARGET x :=
  State.Keeps.rd (os := [.DOMAIN_TARGET]) (ps := []) (by apply State.advance_frame (h := Fr.refl s) <;> decide) (by decide) _ _

/-! ### The doorbells (R396, R397) -/

/-- What a mailbox holds of its doorbell: whether it is rung, the rings merged, the rings that wait. -/
def Box.bell (b : Box) : Bool × Nat × Nat := (b.rung, b.merged, b.waiting)

/-- Every doorbell. -/
def State.bells (s : State) (m : Nat) : Bool × Nat × Nat := (s.bx m).bell

theorem State.bells_congr {s t : State} (h : t.box = s.box) : t.bells = s.bells :=
  funext fun m => congrArg Box.bell (State.bx_congr h m)

theorem State.Keeps.bells {os : List Obj} {ps : List Part} {s t : State} (h : State.Keeps os ps s t)
    (hp : Part.box ∈ ps := by decide) : t.bells = s.bells :=
  State.bells_congr (h.same .box hp)

theorem State.modBx_bells (s : State) (m : Nat) {f : Box → Box} (hf : ∀ b, (f b).bell = b.bell) :
    (s.modBx m f).bells = s.bells := by
  funext j
  unfold State.bells
  rw [State.bx_modBx]
  split
  · next h => rw [hf, h]
  · rfl

/-- Messages discarded leave the doorbell. -/
theorem State.discardBox_bells (s : State) (m : Nat) : (s.discardBox m).bells = s.bells := by
  have hnotice : ∀ (t : State) (x : Msg), (t.noticeDiscard x.sender).bells = t.bells := fun t x =>
    State.Keeps.bells (os := []) (ps := [.box]) (State.noticeDiscard_frame (by decide) (Fr.refl t))
  unfold State.discardBox State.showCount
  dsimp only
  rw [State.bells_congr (State.wr_box _ _ _ _ _), State.modBx_bells _ _ (by intro _; rfl), State.bells_congr (State.add_box _ _ _ _ _)]
  exact State.each_same State.bells _ hnotice _ _

theorem State.setPhase_bells (s : State) (d : Nat) (p : PdPhase) : (s.setPhase d p).bells = s.bells :=
  State.bells_congr rfl

theorem State.fenceDomain_bells (s : State) (d : Nat) : (s.fenceDomain d).bells = s.bells := by
  have hfence : ∀ (t : State) n, (t.fenceAll n).bells = t.bells := fun t n =>
    State.Keeps.bells (os := []) (ps := [.box]) (State.fenceAll_frame (by decide) (Fr.refl t))
  have hdiscard : (s.discardDomain d).bells = s.bells :=
    State.when_same State.bells _ (fun _ => State.each_same State.bells _ (fun t m => t.discardBox_bells m) _ _) _ _
  unfold State.fenceDomain
  rw [State.setPhase_bells, State.each_same State.bells _ hfence, hdiscard]

/-- A domain that is not at its target sets out toward it, and no ring is delivered. -/
theorem State.advance_bells {s : State} {d : Nat} (h : s.domainStable d ≠ s.rd .DOMAIN_TARGET d) :
    (s.advance d).bells = s.bells := by
  have hstable : (s.modD d fun x => if x.phase.isNone then { x with began := s.ctlUs } else x).domainStable d
      = s.domainStable d :=
    State.domainStable_of_switches (s.modD_switches d fun x => by split <;> rfl) d
  unfold State.advance
  dsimp only
  rw [if_neg (by rw [hstable]; exact h.symm)]
  split_ifs
  · exact State.setPhase_bells _ _ _
  · exact State.setPhase_bells _ _ _
  · exact State.fenceDomain_bells _ _
  · exact State.setPhase_bells _ _ _
  · exact State.setPhase_bells _ _ _

/-- Switches, targets and doorbells: what decides whether an advance ends a transition, and what its end would deliver. -/
def State.SameBells (s t : State) : Prop :=
  t.switches = s.switches ∧ (∀ x, t.rd .DOMAIN_TARGET x = s.rd .DOMAIN_TARGET x) ∧ t.bells = s.bells

theorem State.unsettled_of_wantsPlace {s : State} {d : Nat} (h : s.wantsPlace d = true) :
    s.domainStable d ≠ s.rd .DOMAIN_TARGET d := by
  simp only [State.wantsPlace, Bool.and_eq_true, bne_iff_ne] at h
  exact h.1.2

theorem State.fillPlaces_bells (s : State) : s.fillPlaces.bells = s.bells := by
  suffices hsame : s.SameBells s.fillPlaces from hsame.2.2
  refine State.fillPlaces_kept (P := s.SameBells) ⟨rfl, fun _ => rfl, rfl⟩ ?_ fun _ _ h => h
  rintro u t d ⟨hus, hut, -⟩ hwants ⟨hts, htt, htb⟩
  have hunsettled : t.domainStable d ≠ t.rd .DOMAIN_TARGET d := by
    rw [State.domainStable_of_switches (hts.trans hus.symm), htt, ← hut]
    exact State.unsettled_of_wantsPlace hwants
  exact ⟨(t.advance_switches d).trans hts, fun x => (t.advance_target d x).trans (htt x),
    (State.advance_bells hunsettled).trans htb⟩

/-! ### Domains that take no place -/

/-- The record and the shown state of a domain. -/
def State.showsDomain (s : State) (d : Nat) : Dom × Nat := (s.d d, s.rd .DOMAIN_STATE d)

theorem State.showsDomain_congr {s t : State} {d : Nat} (hdom : t.dom = s.dom) (hrd : t.rd .DOMAIN_STATE d = s.rd .DOMAIN_STATE d) :
    t.showsDomain d = s.showsDomain d :=
  Prod.ext (State.d_congr hdom d) hrd

theorem State.Keeps.showsDomain {s t : State} (h : State.Keeps [.DOMAIN_STATE] [.dom] s t) (d : Nat) :
    t.showsDomain d = s.showsDomain d :=
  State.showsDomain_congr (h.same .dom (by decide)) (h.rd (by decide) _ _)

theorem State.modD_showsDomain (s : State) {d x : Nat} (f : Dom → Dom) (h : x ≠ d) :
    (s.modD d f).showsDomain x = s.showsDomain x :=
  Prod.ext ((s.d_modD d x f).trans (if_neg h)) rfl

theorem State.showDomain_other (s : State) {d x : Nat} (h : x ≠ d) : (s.showDomain d).showsDomain x = s.showsDomain x :=
  State.showsDomain_congr rfl (State.rd_wr_elem _ h _ _ _)

theorem State.setPhase_other (s : State) {d x : Nat} (p : PdPhase) (h : x ≠ d) :
    (s.setPhase d p).showsDomain x = s.showsDomain x :=
  (State.showDomain_other _ h).trans (s.modD_showsDomain _ h)

theorem State.endTransition_other (s : State) {d x : Nat} (h : x ≠ d) : (s.endTransition d).showsDomain x = s.showsDomain x := by
  have hdeliver : ∀ t : State, (t.deliverDomain d).showsDomain x = t.showsDomain x := fun t =>
    State.Keeps.showsDomain (State.deliverDomain_frame (by decide) (by decide) (Fr.refl t)) x
  unfold State.endTransition
  refine (State.when_same (fun t => t.showsDomain x) _ hdeliver _ _).trans ((State.showDomain_other _ h).trans ?_)
  exact s.modD_showsDomain (fun y => { y with phase := none }) h

theorem State.fenceDomain_other (s : State) {d x : Nat} (h : x ≠ d) : (s.fenceDomain d).showsDomain x = s.showsDomain x := by
  have hfence : ∀ (t : State) n, (t.fenceAll n).showsDomain x = t.showsDomain x := fun t n =>
    State.Keeps.showsDomain (State.fenceAll_frame (by decide) (Fr.refl t)) x
  have hdiscard : (s.discardDomain d).showsDomain x = s.showsDomain x :=
    State.Keeps.showsDomain (by apply State.discardDomain_frame (h := Fr.refl s) <;> decide) x
  unfold State.fenceDomain
  rw [State.setPhase_other _ _ h, State.each_same (fun t => t.showsDomain x) _ hfence, hdiscard]

/-- The advance of one domain leaves every other. -/
theorem State.advance_other (s : State) {d x : Nat} (h : x ≠ d) : (s.advance d).showsDomain x = s.showsDomain x := by
  have hmod : ∀ (t : State) (f : Dom → Dom), (t.modD d f).showsDomain x = t.showsDomain x := fun t f => t.modD_showsDomain f h
  unfold State.advance
  dsimp only
  split_ifs
  · rw [State.endTransition_other _ h, hmod]
  · rw [State.setPhase_other _ _ h, hmod, hmod]
  · rw [State.setPhase_other _ _ h, hmod, hmod]
  · rw [State.fenceDomain_other _ h, hmod]
  · rw [State.setPhase_other _ _ h, hmod]
  · rw [State.setPhase_other _ _ h, hmod]

/-- A domain in transition, or at its target, takes no place. -/
def State.content (s : State) (d : Nat) : Prop := (s.d d).phase.isSome = true ∨ s.domainStable d = s.rd .DOMAIN_TARGET d

theorem State.not_wantsPlace {s : State} {d : Nat} (h : s.content d) : s.wantsPlace d = false := by
  unfold State.wantsPlace
  rcases h with h | h
  · rw [Option.isNone_eq_false_iff.2 h, Bool.false_and, Bool.false_and]
  · rw [h, bne_self_eq_false, Bool.and_false, Bool.false_and]

theorem State.fillPlaces_content {s : State} {x : Nat} (h : s.content x) : s.fillPlaces.showsDomain x = s.showsDomain x := by
  suffices hsame : s.fillPlaces.showsDomain x = s.showsDomain x ∧ s.fillPlaces.rd .DOMAIN_TARGET x = s.rd .DOMAIN_TARGET x from
    hsame.1
  refine State.fillPlaces_kept
    (P := fun t => t.showsDomain x = s.showsDomain x ∧ t.rd .DOMAIN_TARGET x = s.rd .DOMAIN_TARGET x) ⟨rfl, rfl⟩ ?_ fun _ _ ht => ht
  rintro u t d ⟨hu, hutarget⟩ hwants ⟨ht, httarget⟩
  have hrecord : u.d x = s.d x := congrArg Prod.fst hu
  have hcontent : u.content x := by
    unfold State.content State.domainStable at h ⊢
    rwa [hrecord, hutarget]
  have hne : x ≠ d := by
    rintro rfl
    rw [State.not_wantsPlace hcontent] at hwants
    cases hwants
  exact ⟨(t.advance_other hne).trans ht, (t.advance_target d x).trans httarget⟩

end Sys2Proof.Machine
end

section
/-! PROOF. Doorbells, notices and reserved operations (R44, R391, R396, R397). -/

namespace Sys2Proof.Machine
open Sys2Proof

/-! ### Requests that no remote storage holds up (R385) -/

theorem State.boxesFull_bell {s : State} {q : EpReq} : s.boxesFull 6 q = false := by
  simp [State.boxesFull]

/-- Reads of a doorbell or of a notice word reach no mailbox storage. -/
theorem State.boxesFull_read {s : State} {q : EpReq} (h : 2 ≤ bits q.arg 16 2) : s.boxesFull 5 q = false := by
  simp [State.boxesFull, Nat.not_lt.2 h]

theorem State.boxesFull_reserved {s : State} {op : Nat} {q : EpReq} (h : EpOp.ofCode op = none) :
    s.boxesFull (op % 16) q = false := by
  have hcode : EpOp.ofCode (op % 16) = none := by
    rw [← h]
    unfold EpOp.ofCode
    rw [Nat.mod_mod]
  have hpost : op % 16 ≠ 4 := fun hc => by
    rw [hc] at hcode
    cases hcode
  have hread : op % 16 ≠ 5 := fun hc => by
    rw [hc] at hcode
    cases hcode
  simp [State.boxesFull, hpost, hread]

/-! ### A ring (R396, R397) -/

/-- The ring of doorbell `m` waits for its domain. -/
def State.ringWaits (s : State) (m : Nat) : State := s.modBx m fun b => { b with waiting := b.waiting + 1 }

/-- A ring of a doorbell with a wake waits where its implemented domain is not ON. -/
def State.MustWake (s : State) (m : Nat) : Prop :=
  s.on .MB_WAKE m = true ∧ s.rd .MB_DOMAIN m < s.rd .NUM_DOMAINS ∧ s.rd .DOMAIN_STATE (s.rd .MB_DOMAIN m) ≠ 0

theorem State.ring_waits {s : State} {m : Nat} (h : s.MustWake m) :
    s.ring m = if s.pdWakes.contains (s.rd .MB_DOMAIN m) then (2, s.ringWaits m)
      else (3, ((s.ringWaits m).inc .MB_WAKES m).submitWake (s.rd .MB_DOMAIN m)) := by
  obtain ⟨hwake, himpl, hstate⟩ := h
  unfold State.ring
  dsimp only
  rw [if_pos (by simp [hwake, himpl, hstate])]
  rfl

/-- A wake of the domain waits already. -/
theorem State.ring_queued {s : State} {m : Nat} (h : s.MustWake m) (hmem : s.rd .MB_DOMAIN m ∈ s.pdWakes) :
    s.ring m = (2, s.ringWaits m) :=
  (State.ring_waits h).trans (if_pos (List.contains_iff_mem.2 hmem))

theorem State.ring_wakes {s : State} {m : Nat} (h : s.MustWake m) (hmem : s.rd .MB_DOMAIN m ∉ s.pdWakes) :
    s.ring m = (3, ((s.ringWaits m).inc .MB_WAKES m).submitWake (s.rd .MB_DOMAIN m)) :=
  (State.ring_waits h).trans (if_neg fun hc => hmem (List.contains_iff_mem.1 hc))

theorem State.ring_delivers {s : State} {m : Nat} (h : ¬s.MustWake m) : s.ring m = (0, s.deliver m 1) :=
  if_neg fun hc => h (by simpa [State.MustWake, and_assoc] using hc)

theorem State.respond_bx (s : State) (id data m : Nat) (c : Code) : (s.respond id c data).bx m = s.bx m := rfl

theorem State.respond_counted {s t : State} {o : Obj} {e : Nat} (id data : Nat) (c : Code) (h : s.Counted t o e) :
    s.Counted (t.respond id c data) o e :=
  h

theorem State.bell_waiting {s t : State} {m : Nat} (h : t.bells = s.bells) :
    (t.bx m).waiting = (s.bx m).waiting ∧ (t.bx m).rung = (s.bx m).rung :=
  ⟨congrArg (·.2.2) (congrFun h m), congrArg (·.1) (congrFun h m)⟩

theorem State.ringWaits_bell (s : State) (m : Nat) :
    ((s.ringWaits m).bx m).waiting = (s.bx m).waiting + 1 ∧ ((s.ringWaits m).bx m).rung = (s.bx m).rung := by
  unfold State.ringWaits
  rw [State.bx_modBx_self]
  exact ⟨rfl, rfl⟩

/-- A wake asked for delivers no ring: the domain is not at its target. -/
theorem State.submitWake_bells (s : State) (d : Nat) : (s.submitWake d).bells = s.bells := State.fillPlaces_bells _

theorem State.submitWake_portsCore (s : State) (d : Nat) : (s.submitWake d).portsCore = s.portsCore :=
  State.fillPlaces_portsCore _

theorem State.wake_effect (s : State) (m d : Nat) :
    ((((s.ringWaits m).inc .MB_WAKES m).submitWake d).bx m).waiting = (s.bx m).waiting + 1
      ∧ ((((s.ringWaits m).inc .MB_WAKES m).submitWake d).bx m).rung = (s.bx m).rung
      ∧ (((s.ringWaits m).inc .MB_WAKES m).submitWake d).ports.rspCount = s.ports.rspCount
      ∧ s.Counted (((s.ringWaits m).inc .MB_WAKES m).submitWake d) .MB_WAKES m := by
  have hkeeps : State.Keeps [.MB_WAKES] [] ((s.ringWaits m).inc .MB_WAKES m) (((s.ringWaits m).inc .MB_WAKES m).submitWake d) := by
    apply State.submitWake_frame (h := Fr.refl _) <;> decide
  obtain ⟨hwaiting, hrung⟩ := State.bell_waiting (m := m) (State.submitWake_bells ((s.ringWaits m).inc .MB_WAKES m) d)
  obtain ⟨hwaits, hkept⟩ := s.ringWaits_bell m
  exact ⟨hwaiting.trans hwaits, hrung.trans hkept, 
    (congrArg Ports.rspCount (State.submitWake_portsCore ((s.ringWaits m).inc .MB_WAKES m) d) :),
    (hkeeps.rd (by decide) _ _).trans (State.rd_inc_self _ _ _ _)⟩

theorem State.deliver_rspCount (s : State) (m : Nat) : (s.deliver m 1).ports.rspCount = s.ports.rspCount :=
  congrArg Ports.rspCount ((State.semEvent_fr (s.modBx m _) m).part .ports (by decide))

/-! ### The requests, once their checks are passed -/

theorem doorbellRing_rings {q : EpReq} {s : State} (ht : s.EpTakes) (hid : q.id % 4096 ≠ 0) (harg : onlyBits q.arg 0x3F = true)
    (hdata : q.data = 0) (hr : s.isReady .mailbox = true) (hm : bits q.arg 0 6 < s.rd .NUM_MAILBOXES) :
    exec (.doorbellRing q) s = .next (((s.shiftWords .queues 48).ring (bits q.arg 0 6)).2.respond (q.id % 4096) .ok
      ((s.shiftWords .queues 48).ring (bits q.arg 0 6)).1) := by
  have hparse : (s.shiftWords .queues 48).mailParse q (onlyBits q.arg 0x3F) (q.data == 0) = none := by
    rw [harg, hdata]
    exact State.mailParse_ok (s := s.shiftWords .queues 48) hid hr
  change Host.Outcome.next (s.epTake 6 q _ _) = _
  rw [State.epTake_served ht State.boxesFull_bell]
  unfold State.bellRing
  dsimp only
  rw [hparse]
  dsimp only
  rw [if_neg (by rw [State.shiftWords_rd]; omega)]

theorem doorbellRead_reads {q : EpReq} {s : State} (ht : s.EpTakes) (hid : q.id % 4096 ≠ 0) (harg : onlyBits q.arg 0x3003F = true)
    (hmode : bits q.arg 16 2 = 2) (hdata : q.data = 0) (hr : s.isReady .mailbox = true)
    (hm : bits q.arg 0 6 < s.rd .NUM_MAILBOXES) :
    exec (.doorbellRead q) s = .next (if s.rd .MB_OWNER (bits q.arg 0 6) = q.id % 4096 then
        ((s.shiftWords .queues 48).modBx (bits q.arg 0 6) fun b => { b with rung := false, merged := 0 }).respond (q.id % 4096) .ok
          ((s.bx (bits q.arg 0 6)).rung.toNat * 256 + (s.bx (bits q.arg 0 6)).merged)
      else (s.shiftWords .queues 48).respond (q.id % 4096) .denied 0) := by
  have hparse : (s.shiftWords .queues 48).mailParse q (onlyBits q.arg 0x3003F && bits q.arg 16 2 == 2) (q.data == 0) = none := by
    rw [harg, hmode, hdata]
    exact State.mailParse_ok (s := s.shiftWords .queues 48) hid hr
  change Host.Outcome.next (s.epTake 5 q _ _) = _
  rw [State.epTake_served ht (State.boxesFull_read (by omega))]
  unfold State.bellRead
  dsimp only
  rw [hparse]
  dsimp only
  rw [State.shiftWords_rd, State.shiftWords_rd, if_neg (by omega), ite_not]
  rfl

theorem noticeRead_reads {q : EpReq} {s : State} (ht : s.EpTakes) (hid : q.id % 4096 ≠ 0) (harg : onlyBits q.arg 0x30000 = true)
    (hmode : bits q.arg 16 2 = 3) (hdata : q.data = 0) (hr : s.isReady .mailbox = true) :
    exec (.noticeRead q) s = .next (((s.shiftWords .queues 48).respond (q.id % 4096) .ok
      (s.noticeOf (q.id % 4096))).setNotice (q.id % 4096) 0) := by
  have hparse : (s.shiftWords .queues 48).mailParse q (onlyBits q.arg 0x30000 && bits q.arg 16 2 == 3) (q.data == 0) = none := by
    rw [harg, hmode, hdata]
    exact State.mailParse_ok (s := s.shiftWords .queues 48) hid hr
  change Host.Outcome.next (s.epTake 5 q _ _) = _
  rw [State.epTake_served ht (State.boxesFull_read (by omega))]
  unfold State.noticeRead
  rw [hparse]
  rfl

theorem epReservedOp_refused {op : Nat} {q : EpReq} {s : State} (ht : s.EpTakes) (hop : EpOp.ofCode op = none) :
    exec (.epReservedOp op q) s = .next ((s.shiftWords .queues 48).respond (q.id % 4096) .malformed 0) := by
  change Host.Outcome.next (s.epTake (op % 16) q _ _) = _
  rw [State.epTake_served ht (State.boxesFull_reserved hop)]
  unfold State.epServe
  rw [hop]

/-- Settles O28: each request passes the port and its checks, and a wake that it asks for delivers no ring. -/
theorem bellsNoticesAndReservedOperations : Obligations.BellsNoticesAndReservedOperations := by
  refine ⟨?_, ?_, ?_, ?_⟩
  · rintro q _ s rfl ht hid harg hdata hr hm
    refine ⟨_, doorbellRing_rings ht hid harg hdata hr hm, ?_⟩
    split
    next hwake =>
      have hwake' : (s.shiftWords .queues 48).MustWake (bits q.arg 0 6) := hwake
      by_cases hmem : s.rd .MB_DOMAIN (bits q.arg 0 6) ∈ s.pdWakes
      · obtain ⟨hwaits, hkept⟩ := (s.shiftWords .queues 48).ringWaits_bell (bits q.arg 0 6)
        rw [State.ring_queued hwake' hmem, if_pos hmem]
        rw [State.respond_bx]
        exact ⟨hwaits, hkept, State.answered_respond rfl⟩
      · obtain ⟨hwaiting, hrung, hresp, hcount⟩ := (s.shiftWords .queues 48).wake_effect (bits q.arg 0 6)
          ((s.shiftWords .queues 48).rd .MB_DOMAIN (bits q.arg 0 6))
        rw [State.ring_wakes hwake' hmem, if_neg hmem]
        rw [State.respond_bx]
        exact ⟨hwaiting, hrung, State.answered_respond hresp, State.respond_counted _ _ _ hcount⟩
    next hnone =>
      rw [State.ring_delivers (s := s.shiftWords .queues 48) hnone]
      obtain ⟨hrung, hmerged⟩ := (s.shiftWords .queues 48).deliver_bell (bits q.arg 0 6)
      rw [State.respond_bx]
      exact ⟨hrung, hmerged, State.answered_respond (State.deliver_rspCount _ _)⟩
  · rintro q _ s rfl ht hid harg hmode hdata hr hm
    refine ⟨_, doorbellRead_reads ht hid harg hmode hdata hr hm, ?_⟩
    split
    · have hbox := State.bx_modBx_self (s.shiftWords .queues 48) (bits q.arg 0 6) fun b => { b with rung := false, merged := 0 }
      exact ⟨congrArg Box.rung hbox, congrArg Box.merged hbox, State.answered_respond rfl⟩
    · exact ⟨rfl, State.answered_respond rfl⟩
  · intro q s ht hid harg hmode hdata hr
    exact ⟨_, noticeRead_reads ht hid harg hmode hdata hr, State.noticeOf_setNotice _ _ _, rfl, rfl, rfl, rfl, rfl⟩
  · intro op q s ht hop
    exact ⟨_, epReservedOp_refused ht hop, State.answered_respond rfl, rfl, rfl⟩

end Sys2Proof.Machine
end

section
/-! PROOF. Power transitions step by step (R50, R52 to R55). -/

namespace Sys2Proof.Machine
open Sys2Proof

/-! ### What the steps of a transition leave of the switches (R50, R52) -/

theorem State.darkenDomain_switches (s : State) (d : Nat) : (s.darkenDomain d).switches = s.switches :=
  State.Keeps.switches (os := []) (ps := [.dom]) (by apply State.darkenDomain_frame (h := Fr.refl s) <;> decide)

theorem State.routerBack_switches (s : State) (d : Nat) : (s.routerBack d).switches = s.switches :=
  State.Keeps.switches (os := []) (ps := [.dom]) (by apply State.routerBack_frame (h := Fr.refl s) <;> decide)

theorem State.coreBack_switches (s : State) (d : Nat) : (s.coreBack d).switches = s.switches :=
  State.Keeps.switches (os := []) (ps := [.dom]) (by apply State.coreBack_frame (h := Fr.refl s) <;> decide)

theorem State.countDomain_dom (s : State) (d : Nat) : (s.countDomain d).dom = s.dom := by
  have hkeeps : State.Keeps [] [.dom] s (s.countDomain d) := State.countDomain_frame (by decide) (by decide) (Fr.refl s)
  exact hkeeps.same .dom (by decide)

theorem State.isolateRouter_switches (s : State) (d : Nat) : (s.isolateRouter d).switches = s.switches := by
  have hcells : ∀ (t : State) n, (t.isolateCells n).switches = t.switches := fun t n =>
    State.Keeps.switches (os := []) (ps := [.dom]) (State.isolateCells_frame (by decide) (Fr.refl t))
  unfold State.isolateRouter
  rw [State.setPhase_switches, State.modD_switches _ _ (by intro _; rfl), State.each_same State.switches _ hcells]

theorem State.detachDomain_switches (s : State) (d : Nat) : (s.detachDomain d).switches = s.switches := by
  have hstart : ∀ (t : State) n, (((t.startRegion n 160).wr .REGION_DETACHED 1 n).modR n fun r => { r with markSeen := true }).switches
      = t.switches := fun t n =>
    State.Keeps.switches (os := []) (ps := [.dom]) (by
      apply State.modR_frame (h := State.wr_frame _ (State.startRegion_frame (h := Fr.refl t) ..)) <;> decide)
  unfold State.detachDomain
  rw [State.setPhase_switches, State.modD_switches _ _ (by intro _; rfl), State.each_same State.switches _ hstart]

theorem State.openCore_switches (s : State) (d : Nat) : (s.openCore d).switches = s.switches := by
  unfold State.openCore
  rw [State.setPhase_switches, State.deliverDomain_switches, State.modD_switches _ _ (by intro _; rfl)]

theorem State.restoreCore_switches (s : State) (d : Nat) : (s.restoreCore d).switches = s.switches := by
  unfold State.restoreCore
  split
  · rw [State.setPhase_switches, State.modD_switches _ _ (by intro _; rfl)]
  · exact State.openCore_switches _ _

theorem State.switchPd_pdLast (s : State) (d : Nat) (p : PdPhase) (f : Dom → Dom) : (s.switchPd d p f).pdLast = some s.up := rfl

theorem State.ite_switches {s a b : State} {c : Prop} [Decidable c] (ha : a.switches = s.switches) (hb : b.switches = s.switches) :
    (if c then a else b).switches = s.switches := by
  split
  · exact ha
  · exact hb

/-- A step out of a stagger that switches, or goes where no switch changes. -/
theorem State.ite_pdLast {s a b : State} {c : Prop} [Decidable c] {k : Bool} (hk : k = true)
    (ha : a.switches = s.switches ∨ a.pdLast = some s.up) (hb : b.switches = s.switches ∨ b.pdLast = some s.up) :
    (if c then a else b).switches = s.switches ∨ k = true ∧ (if c then a else b).pdLast = some s.up := by
  split
  · exact ha.imp_right fun h => ⟨hk, h⟩
  · exact hb.imp_right fun h => ⟨hk, h⟩

/-- A switch changes at the end of a stagger alone, and its change is then the last (R54). -/
theorem State.nextPhase_switches (s : State) (d : Nat) (p : PdPhase) :
    (s.nextPhase d p).switches = s.switches ∨ p.stagger = true ∧ (s.nextPhase d p).pdLast = some s.up := by
  cases p with
  | coreOffAck | rtrOffAck | isoRtrClear | isoCoreClear => exact .inl (s.advance_switches d)
  | coreOffStagger => exact State.ite_pdLast rfl (.inl (s.restoreCore_switches d)) (.inr (s.switchPd_pdLast _ _ _))
  | rtrOffStagger => exact State.ite_pdLast rfl (.inr (s.switchPd_pdLast _ _ _)) (.inl (s.detachDomain_switches d))
  | rtrOnStagger => exact State.ite_pdLast rfl (.inl (s.endTransition_switches d)) (.inr (s.switchPd_pdLast _ _ _))
  | coreOnStagger => exact State.ite_pdLast rfl (.inr (s.switchPd_pdLast _ _ _)) (.inl (s.advance_switches d))
  | save =>
    have hsaved := s.modD_switches d (f := fun x => { x with retSave := false }) fun _ => rfl
    refine .inl (State.ite_switches ((State.restoreCore_switches _ _).trans hsaved) ((State.setPhase_switches _ _ _).trans ?_))
    exact (State.modD_switches _ _ (f := fun x => { x with isoCore := true }) fun _ => rfl).trans hsaved
  | isoCore => exact .inl (State.ite_switches (s.restoreCore_switches d) (s.setPhase_switches d _))
  | fence =>
    have hdark := s.darkenDomain_switches d
    exact .inl (State.ite_switches ((State.isolateRouter_switches _ _).trans hdark) ((State.detachDomain_switches _ _).trans hdark))
  | isoRtr => exact .inl (State.ite_switches (s.setPhase_switches d _) (s.detachDomain_switches d))
  | rtrOnAck =>
    have hback := s.routerBack_switches d
    exact .inl (State.ite_switches ((State.fenceDomain_switches _ _).trans hback) ((State.detachDomain_switches _ _).trans hback))
  | oscStart =>
    refine .inl (State.ite_switches (s.fenceDomain_switches d) ((State.setPhase_switches _ _ _).trans ?_))
    exact s.modD_switches d (f := fun x => { x with isoRtr := false }) fun _ => rfl
  | coreOnAck =>
    have hback := s.coreBack_switches d
    exact .inl (State.ite_switches ((State.restoreCore_switches _ _).trans hback) ((State.setPhase_switches _ _ _).trans hback))
  | restore =>
    have hrestored := s.modD_switches d (f := fun x => { x with retRestore := false }) fun _ => rfl
    exact .inl (State.ite_switches ((State.openCore_switches _ _).trans hrestored) ((State.setPhase_switches _ _ _).trans hrestored))

/-! ### POWER_STEP_WAIT_END (R54) -/

theorem PdPhase.stagger_waits {p : PdPhase} (h : p.stagger = true) : p.awaitsAck = false := by
  revert h
  cases p <;> decide

theorem State.waitOver_stagger (s : State) (d : Nat) {p : PdPhase} (h : p.stagger = true) : s.waitOver d p = s.staggerOver d := by
  unfold State.waitOver
  rw [if_neg (by rw [PdPhase.stagger_waits h]; decide), if_pos h]

theorem State.spaced_of_staggerOver {s : State} {d : Nat} (h : s.staggerOver d = true) (at0 : Nat) (hlast : s.pdLast = some at0) :
    at0 + 2 ≤ s.up := by
  have hfirst := (Bool.and_eq_true_iff.1 h).1
  rw [hlast] at hfirst
  exact of_decide_eq_true hfirst

theorem State.enables_of_switches {s t : State} (h : t.switches = s.switches) (x : Nat) :
    (t.d x).enCore = (s.d x).enCore ∧ (t.d x).enRtr = (s.d x).enRtr :=
  ⟨congrArg (·.1.1) (congrFun h x), congrArg (·.1.2) (congrFun h x)⟩

theorem State.acks_of_switches {s t : State} (h : t.switches = s.switches) (x : Nat) :
    (t.d x).ackCore = (s.d x).ackCore ∧ (t.d x).ackRtr = (s.d x).ackRtr :=
  ⟨congrArg (·.2.1) (congrFun h x), congrArg (·.2.2) (congrFun h x)⟩

theorem State.fillPlaces_pdLast (s : State) : s.fillPlaces.pdLast = s.pdLast := by
  have hkeeps : State.Keeps [] [.pdLast] s s.fillPlaces := by
    apply State.fillPlaces_frame (h := Fr.refl s) <;> decide
  exact hkeeps.same .pdLast (by decide)

theorem State.showsDomain_parts {s t : State} {d : Nat} (h : t.showsDomain d = s.showsDomain d) :
    t.d d = s.d d ∧ t.rd .DOMAIN_STATE d = s.rd .DOMAIN_STATE d :=
  ⟨congrArg Prod.fst h, congrArg Prod.snd h⟩

theorem State.fillPlaces_d {s : State} {d : Nat} (h : s.content d) : s.fillPlaces.d d = s.d d :=
  (State.showsDomain_parts (State.fillPlaces_content h)).1

theorem powerStepWaitEnd_steps {d : Nat} {p : PdPhase} {s : State} (hphase : (s.d d).phase = some p)
    (hover : s.waitOver d p = true) (hrun : s.refs.shortStop = false) :
    exec (.powerStepWaitEnd d) s = .next (s.nextPhase d p).fillPlaces := by
  change execPowerStepWaitEnd d s = _
  unfold execPowerStepWaitEnd
  rw [hphase]
  dsimp only
  rw [hover, hrun]
  rfl

theorem powerStepWaitEnd_waits {d : Nat} {s : State}
    (h : ∀ p, (s.d d).phase = some p → (s.waitOver d p && !s.refs.shortStop) = false) : exec (.powerStepWaitEnd d) s = .next s := by
  change execPowerStepWaitEnd d s = _
  unfold execPowerStepWaitEnd
  split
  · next p hp => rw [h p hp, State.when_false]
  · rfl

/-- PD_EN signals change only 2 µs after the last change. -/
theorem powerStepWaitEnd_spaced (d : Nat) (s : State) : ∃ t, exec (.powerStepWaitEnd d) s = .next t
    ∧ ∀ x, ((t.d x).enCore ≠ (s.d x).enCore ∨ (t.d x).enRtr ≠ (s.d x).enRtr) →
        t.pdLast = some s.up ∧ ∀ at0, s.pdLast = some at0 → at0 + 2 ≤ s.up := by
  by_cases hgo : ∃ p, (s.d d).phase = some p ∧ (s.waitOver d p && !s.refs.shortStop) = true
  · obtain ⟨p, hphase, hwait⟩ := hgo
    obtain ⟨hover, hrun⟩ := Bool.and_eq_true_iff.1 hwait
    refine ⟨_, powerStepWaitEnd_steps hphase hover (by simpa using hrun), fun x hchanged => ?_⟩
    rcases s.nextPhase_switches d p with hsame | ⟨hstagger, hlast⟩
    · obtain ⟨hcore, hrtr⟩ := State.enables_of_switches ((State.fillPlaces_switches _).trans hsame) x
      exact absurd hchanged (not_or.2 ⟨not_not_intro hcore, not_not_intro hrtr⟩)
    · rw [State.waitOver_stagger _ _ hstagger] at hover
      exact ⟨(State.fillPlaces_pdLast _).trans hlast, State.spaced_of_staggerOver hover⟩
  · refine ⟨s, powerStepWaitEnd_waits fun p hp => Bool.eq_false_iff.2 fun hc => hgo ⟨p, hp, hc⟩, fun x hchanged => ?_⟩
    exact absurd hchanged (not_or.2 ⟨not_not_intro rfl, not_not_intro rfl⟩)

/-- The record of a domain whose switches have just changed. -/
theorem State.switchPd_d (s : State) (d : Nat) (p : PdPhase) (f : Dom → Dom) :
    (s.switchPd d p f).d d = { f (s.d d) with phase := some p, deadline := s.up + 50, timedOut := false } := by
  rw [← State.d_congr (s.countDomain_dom d) d]
  exact State.d_modD_self _ _ fun x => { f x with phase := some p, deadline := s.up + 50, timedOut := false }

/-- The core switches of a domain open at the end of the stagger. -/
theorem State.coreOpens {s : State} {d : Nat} (htarget : s.rd .DOMAIN_TARGET d ≠ 0) :
    (s.nextPhase d .coreOffStagger).fillPlaces.d d
        = { s.d d with enCore := false, phase := some .coreOffAck, deadline := s.up + 50, timedOut := false }
      ∧ (s.nextPhase d .coreOffStagger).fillPlaces.pdLast = some s.up := by
  have hnext : s.nextPhase d .coreOffStagger = s.switchPd d .coreOffAck fun x => { x with enCore := false } := if_neg htarget
  have hrecord := s.switchPd_d d .coreOffAck fun x => { x with enCore := false }
  have hcontent : (s.switchPd d .coreOffAck fun x => { x with enCore := false }).content d := .inl (by rw [hrecord]; rfl)
  rw [hnext, State.fillPlaces_d hcontent, hrecord, State.fillPlaces_pdLast]
  exact ⟨rfl, rfl⟩

/-! ### PD_ACK_CHANGE (R52, R53) -/

/-- An acknowledgement at a level. -/
def Dom.acknowledge (x : Dom) (rtr level : Bool) : Dom := if rtr then { x with ackRtr := level } else { x with ackCore := level }

/-- The state once an acknowledgement has changed. -/
def State.acknowledge (s : State) (d : Nat) (rtr level : Bool) : State := (s.countDomain d).modD d fun x => x.acknowledge rtr level

theorem State.acknowledge_d (s : State) (d : Nat) (rtr level : Bool) :
    (s.acknowledge d rtr level).d d = (s.d d).acknowledge rtr level := by
  rw [← State.d_congr (s.countDomain_dom d) d]
  exact State.d_modD_self _ _ _

theorem State.acknowledge_level (s : State) (d : Nat) (rtr level : Bool) :
    (if rtr then ((s.acknowledge d rtr level).d d).ackRtr else ((s.acknowledge d rtr level).d d).ackCore) = level := by
  rw [State.acknowledge_d]
  cases rtr <;> rfl

theorem State.acknowledge_target (s : State) (d : Nat) (rtr level : Bool) :
    (s.acknowledge d rtr level).rd .DOMAIN_TARGET d = s.rd .DOMAIN_TARGET d := by
  have hkeeps : State.Keeps [.DOMAIN_TARGET] [] s (s.countDomain d) := State.countDomain_frame (by decide) (by decide) (Fr.refl s)
  exact hkeeps.rd (by decide) _ _

theorem pdAckChange_eq (d : Nat) (rtr level : Bool) (s : State) :
    exec (.pdAckChange d rtr level) s = .next (match (s.d d).phase with
      | some p => (s.acknowledge d rtr level).when ((s.acknowledge d rtr level).acked d p) fun t => (t.nextPhase d p).fillPlaces
      | none => s.acknowledge d rtr level) := by
  change execPdAckChange d rtr level s = _
  unfold execPdAckChange
  cases (s.d d).phase <;> rfl

/-- What follows an acknowledgement leaves every switch and every acknowledgement. -/
theorem State.acked_switches {s : State} {d : Nat} {p : PdPhase} (h : s.acked d p = true) :
    (s.nextPhase d p).fillPlaces.switches = s.switches := by
  rw [State.fillPlaces_switches]
  rcases s.nextPhase_switches d p with hsame | ⟨hstagger, -⟩
  · exact hsame
  · rw [State.acked, PdPhase.stagger_waits hstagger] at h
    cases h

theorem pdAckChange_level (d : Nat) (rtr level : Bool) (s : State) : ∃ t, exec (.pdAckChange d rtr level) s = .next t
    ∧ t.switches = (s.acknowledge d rtr level).switches := by
  refine ⟨_, pdAckChange_eq d rtr level s, ?_⟩
  split
  · next p _ =>
    cases hacked : (s.acknowledge d rtr level).acked d p
    · rfl
    · exact State.acked_switches hacked
  · rfl

/-- The transition of a domain is over. -/
def State.transitionOver (s : State) (d : Nat) : State :=
  { (s.modD d fun x => { x with phase := none }) with pdWakes := s.pdWakes.filter (· != d) }

theorem State.endTransition_eq (s : State) (d : Nat) : s.endTransition d
    = ((s.transitionOver d).showDomain d).when (((s.transitionOver d).showDomain d).domainStable d == 0) fun t => t.deliverDomain d :=
  rfl

theorem State.transitionOver_phase (s : State) (d : Nat) : ((s.transitionOver d).d d).phase = none :=
  congrArg Dom.phase (s.d_modD_self d fun x => { x with phase := none })

theorem State.transitionOver_switches (s : State) (d : Nat) : (s.transitionOver d).switches = s.switches :=
  (State.switches_congr rfl).trans (s.modD_switches d (f := fun x => { x with phase := none }) fun _ => rfl)

theorem State.domainStable_mod (s : State) (d : Nat) : s.domainStable d % 2 ^ objBits .DOMAIN_STATE = s.domainStable d := by
  unfold State.domainStable
  split_ifs <;> rfl

/-- The end of a transition shows the stable state. -/
theorem State.endTransition_shows (s : State) (d : Nat) :
    ((s.endTransition d).d d).phase = none ∧ (s.endTransition d).rd .DOMAIN_STATE d = s.domainStable d := by
  have hdeliver : ∀ t : State, (t.deliverDomain d).showsDomain d = t.showsDomain d := fun t =>
    State.Keeps.showsDomain (State.deliverDomain_frame (by decide) (by decide) (Fr.refl t)) d
  have hsame := State.when_same (fun t => t.showsDomain d) _ hdeliver
    (((s.transitionOver d).showDomain d).domainStable d == 0) ((s.transitionOver d).showDomain d)
  rw [← State.endTransition_eq] at hsame
  obtain ⟨hrecord, hshown⟩ := State.showsDomain_parts hsame
  refine ⟨(congrArg Dom.phase hrecord).trans (s.transitionOver_phase d), hshown.trans ?_⟩
  unfold State.showDomain
  rw [State.rd_wr_self, s.transitionOver_phase, ← State.domainStable_of_switches (s.transitionOver_switches d)]
  exact State.domainStable_mod _ _

/-- A domain at its target has no step left to take (R52). -/
theorem State.advance_shows {s : State} {d : Nat} (h : s.rd .DOMAIN_TARGET d = s.domainStable d) :
    ((s.advance d).fillPlaces.d d).phase = none ∧ (s.advance d).fillPlaces.rd .DOMAIN_STATE d = s.domainStable d := by
  have hstable : (s.modD d fun x => if x.phase.isNone then { x with began := s.ctlUs } else x).domainStable d
      = s.domainStable d :=
    State.domainStable_of_switches (s.modD_switches d fun x => by split <;> rfl) d
  have hends : s.advance d = (s.modD d fun x => if x.phase.isNone then { x with began := s.ctlUs } else x).endTransition d := by
    unfold State.advance
    dsimp only
    rw [if_pos (by rw [hstable]; exact h)]
  have hcontent : (s.advance d).content d := .inr (by
    rw [State.domainStable_of_switches (s.advance_switches d), State.advance_target, h])
  obtain ⟨hrecord, hshown⟩ := State.showsDomain_parts (State.fillPlaces_content hcontent)
  obtain ⟨hphase, hstate⟩ := (s.modD d fun x => if x.phase.isNone then { x with began := s.ctlUs } else x).endTransition_shows d
  rw [hrecord, hshown, hends, hstate, hstable]
  exact ⟨hphase, rfl⟩

/-- The core's switches report open: the domain is FENCED. -/
theorem State.coreOpen_shows {s : State} {d : Nat} (hcore : (s.d d).enCore = false) (hrtr : (s.d d).enRtr = true)
    (htarget : s.rd .DOMAIN_TARGET d = 1) :
    (((s.acknowledge d false false).advance d).fillPlaces.d d).phase = none
      ∧ ((s.acknowledge d false false).advance d).fillPlaces.rd .DOMAIN_STATE d = 1 := by
  have hrecord := s.acknowledge_d d false false
  have hstable : (s.acknowledge d false false).domainStable d = 1 := by
    unfold State.domainStable
    rw [hrecord]
    simp [Dom.acknowledge, hcore, hrtr]
  obtain ⟨hphase, hstate⟩ := State.advance_shows (s := s.acknowledge d false false) (d := d)
    (by rw [State.acknowledge_target, htarget, hstable])
  exact ⟨hphase, hstate.trans hstable⟩

theorem pdAckChange_coreOpen {d : Nat} {s : State} (hphase : (s.d d).phase = some .coreOffAck) :
    exec (.pdAckChange d false false) s = .next ((s.acknowledge d false false).advance d).fillPlaces := by
  have hacked : (s.acknowledge d false false).acked d .coreOffAck = true := by
    unfold State.acked
    rw [State.acknowledge_d]
    rfl
  rw [pdAckChange_eq, hphase]
  dsimp only
  rw [hacked, State.when_true]
  rfl

/-! ### PD_TIMEOUT (R55) -/

theorem pdTimeout_reports {d : Nat} {p : PdPhase} {s : State} (hphase : (s.d d).phase = some p) (hawaits : p.awaitsAck = true)
    (hacked : s.acked d p = false) (hfirst : (s.d d).timedOut = false) (hrun : s.refs.shortStop = false)
    (hlate : (s.d d).deadline ≤ s.up) :
    exec (.pdTimeout d) s
      = .next ((s.modD d fun x => { x with timedOut := true }).raiseFault .pdTimeout 3 d p.awaitsRtr.toNat) := by
  change execPdTimeout d s = _
  unfold execPdTimeout
  rw [hphase]
  dsimp only
  rw [hawaits, hacked, hfirst, hrun, decide_eq_true hlate]
  rfl

/-- Settles O20: a switch changes at the end of a stagger alone, and an acknowledgement settles no step but its own. -/
theorem powerTransitionSteps : Obligations.PowerTransitionSteps := by
  refine ⟨powerStepWaitEnd_spaced, ?_, ?_, ?_⟩
  · intro d s hphase htarget hover hrun
    obtain ⟨hrecord, hlast⟩ := State.coreOpens htarget
    refine ⟨_, powerStepWaitEnd_steps hphase ((s.waitOver_stagger d rfl).trans hover) hrun, ?_⟩
    rw [hrecord]
    exact ⟨rfl, rfl, rfl, hlast⟩
  · intro d rtr level s
    obtain ⟨t, hstep, hswitches⟩ := pdAckChange_level d rtr level s
    obtain ⟨hcore, hrtr⟩ := State.acks_of_switches hswitches d
    refine ⟨t, hstep, by rw [hcore, hrtr, State.acknowledge_level], ?_⟩
    rintro rfl rfl hphase hopen hrouter htarget
    obtain rfl := Host.Outcome.next.inj ((pdAckChange_coreOpen hphase).symm.trans hstep)
    exact State.coreOpen_shows hopen hrouter htarget
  · intro d p s hphase hawaits hacked hfirst hrun hlate
    have hrecord := s.d_modD_self d fun x => { x with timedOut := true }
    exact ⟨_, pdTimeout_reports hphase hawaits hacked hfirst hrun hlate, State.raiseFault_faulted _ _ _ _ rfl rfl,
      congrArg Dom.timedOut hrecord, (congrArg Dom.phase hrecord).trans hphase⟩

end Sys2Proof.Machine
end

section
/-! PROOF. Region stops in order (R42, R113, R187 to R192, R533). -/

namespace Sys2Proof.Machine
open Sys2Proof

/-! ### The quiesce request (R187) -/

theorem stepToward_not_above {old tgt : Nat} (htgt : 160 ≤ tgt) (h : tgt ≤ old) : ¬old < stepToward old tgt := by
  rcases Nat.lt_or_eq_of_le h with h | rfl
  · exact stepToward_falls htgt h
  · unfold stepToward
    rw [if_neg (Nat.lt_irrefl _)]
    omega

/-- The epoch of the next stop is in force. -/
def State.nextEpoch (s : State) : State := { s with stop := { s.stop with epoch := (s.stop.epoch + 1) % 256 } }

/-- The step of the stop `x` that begins in `s`. -/
def State.stopStep (s : State) (x : RStop) : RStop :=
  { x with
    nOld := s.rd .OSC_TARGET_N x.region
    nNew := stepToward (s.rd .OSC_TARGET_N x.region) x.target
    epoch := (s.stop.epoch + 1) % 256
    tol := s.rd .VOLT_CONFIRM_TOL
    began := s.ctlUs }

theorem State.sendQuiesce_stop (s : State) (x : RStop) :
    (s.sendQuiesce x).stop = { s.stop with
      qreqOp := true, qreqRegion := x.region, qreqEpoch := x.epoch,
      cur := some { x with order := 2, deadline := s.up + s.rd .QUIESCE_LIMIT } } := rfl

/-- A stop of a region at rest may begin where no group step holds the field (R187, R191). -/
theorem State.startStop_open {s : State} {x : RStop} (hrest : (s.d (s.domainOf x.region)).phase = none)
    (hfree : s.stepHolds (fieldOf x.region) = false) (hready : s.su.everReady = true) :
    (!s.su.everReady || (s.d (s.domainOf x.region)).phase.isSome || s.stepHolds (fieldOf x.region)) = false := by
  rw [hready, hrest, hfree]
  rfl

theorem State.startStop_falls {s : State} {x : RStop} (hrest : (s.d (s.domainOf x.region)).phase = none)
    (hfree : s.stepHolds (fieldOf x.region) = false) (hready : s.su.everReady = true) (hrouter : s.routerOn x.region = true)
    (htgt : 160 ≤ x.target) (hlow : x.target ≤ s.rd .OSC_TARGET_N x.region) :
    s.startStop x = s.nextEpoch.sendQuiesce (s.stopStep x) := by
  unfold State.startStop
  dsimp only
  rw [if_neg (Bool.eq_false_iff.1 (State.startStop_open hrest hfree hready)), hrouter, if_neg (by decide),
    if_neg (stepToward_not_above htgt hlow)]
  rfl

theorem State.startStop_off {s : State} {x : RStop} (hrest : (s.d (s.domainOf x.region)).phase = none)
    (hfree : s.stepHolds (fieldOf x.region) = false) (hready : s.su.everReady = true) (hrouter : s.routerOn x.region = false) :
    s.startStop x = s.abortStop x 6 := by
  unfold State.startStop
  dsimp only
  rw [if_neg (Bool.eq_false_iff.1 (State.startStop_open hrest hfree hready)), hrouter]
  rfl

theorem regionStopStart_starts {x : RStop} {s : State} (hcur : s.stop.cur = some x) (horder : x.order = 0)
    (hrun : s.refs.shortStop = false) : exec .regionStopStart s = .next (s.startStop x) := by
  change execRegionStopStart s = _
  unfold execRegionStopStart
  rw [hcur, hrun]
  dsimp only
  rw [horder]
  rfl

theorem voltConfirm_sendsQuiesce {x : RStop} {s : State} (hcur : s.stop.cur = some x) (horder : x.order = 1)
    (hrun : s.refs.shortStop = false) (hconfirmed : s.voltConfirmed x.tol (fieldOf x.region) x.vNew = true) :
    exec (.voltConfirm 0xFF) s = .next (s.sendQuiesce x) := by
  change Host.Outcome.next s.confirmStop = _
  unfold State.confirmStop
  rw [hcur]
  dsimp only
  rw [horder, hrun, hconfirmed]
  rfl

/-! ### A step that ends without its restart (R188, R192) -/

/-- The signals of the latest quiesce or release, and the last epoch. -/
def RegionStop.request (x : RegionStop) : (Bool × Nat × Nat) × Nat := ((x.qreqOp, x.qreqRegion, x.qreqEpoch), x.epoch)

theorem RegionStop.request_parts {x y : RegionStop} (h : x.request = y.request) :
    x.qreqOp = y.qreqOp ∧ x.qreqRegion = y.qreqRegion ∧ x.qreqEpoch = y.qreqEpoch ∧ x.epoch = y.epoch := by
  simp only [RegionStop.request, Prod.mk.injEq] at h
  obtain ⟨⟨hop, hregion, hqepoch⟩, hepoch⟩ := h
  exact ⟨hop, hregion, hqepoch, hepoch⟩

theorem State.freeVolt_stop (s : State) (f : Nat) (keep : Bool) : (s.freeVolt f keep).stop = s.stop := by
  have hkeeps : State.Keeps [] [.stop] s (s.freeVolt f keep) := by
    apply State.freeVolt_frame (h := Fr.refl s) <;> decide
  exact hkeeps.same .stop (by decide)

theorem State.nextStop_request (s : State) (keep : Bool) : (s.nextStop keep).stop.request = s.stop.request := by
  unfold State.nextStop
  dsimp only
  split <;> split
  · rw [State.freeVolt_stop]
    rfl
  · rw [State.freeVolt_stop]
    rfl
  · rfl
  · rfl

theorem State.nextStop_results (s : State) (keep : Bool) :
    State.Keeps [.REGION_STOP_RESULT, .REGION_STOP_ABORTS] [] s (s.nextStop keep) := by
  apply State.nextStop_frame (h := Fr.refl s) <;> decide

theorem State.abortStop_effect (s : State) (x : RStop) {result : Nat} (hlt : result < 8) :
    (s.abortStop x result).rd .REGION_STOP_RESULT x.region = result
      ∧ (s.abortStop x result).rd .REGION_STOP_ABORTS x.region = satAdd 32 (s.rd .REGION_STOP_ABORTS x.region) 1
      ∧ (s.abortStop x result).stop.request = s.stop.request := by
  unfold State.abortStop State.setStop
  refine ⟨?_, ?_, State.nextStop_request _ _⟩
  · rw [(State.nextStop_results _ _).rd (by decide), State.rd_wr_other _ (by decide), State.rd_inc_other _ (by decide),
      State.rd_wr_self]
    exact Nat.mod_eq_of_lt (Nat.lt_of_lt_of_le hlt (by decide))
  · rw [(State.nextStop_results _ _).rd (by decide), State.rd_wr_other _ (by decide), State.rd_inc_self,
      State.rd_wr_other _ (by decide)]
    rfl

/-- Places given after a step leave its results, the log and the sequencer. -/
theorem State.fillPlaces_stopKeeps (s : State) :
    State.Keeps ([.REGION_STOP_RESULT, .REGION_STOP_ABORTS, .OSC_STATUS] ++ eventObjs) [.stop, .rgn] s s.fillPlaces := by
  apply State.fillPlaces_frame (h := Fr.refl s) <;> decide

theorem voltTimeout_endsStop {x : RStop} {s : State} (hcur : s.stop.cur = some x) (horder : x.order = 1)
    (hrun : s.refs.shortStop = false) (hconfirmed : s.voltConfirmed x.tol (fieldOf x.region) x.vNew = false)
    (hlate : x.deadline ≤ s.up) :
    exec (.voltTimeout 0xFF) s = .next
      ((s.event 0x27 (s.groupOf (fieldOf x.region)) (fieldOf x.region)).abortStop x 3).fillPlaces := by
  have hend : s.timeoutStop = (s.event 0x27 (s.groupOf (fieldOf x.region)) (fieldOf x.region)).abortStop x 3 := by
    unfold State.timeoutStop
    rw [hcur]
    dsimp only
    rw [horder, hrun, hconfirmed, decide_eq_true hlate]
    rfl
  exact congrArg (fun t : State => Host.Outcome.next t.fillPlaces) hend

theorem State.abortStop_log (s : State) (x : RStop) (result : Nat) : State.Keeps eventObjs [] s (s.abortStop x result) := by
  apply State.abortStop_frame (h := Fr.refl s) <;> decide

theorem State.stopTimeout_effect (s : State) (x : RStop) (elem data : Nat) :
    s.Logged ((s.event 0x27 elem data).abortStop x 3).fillPlaces 0x27 elem data false
      ∧ ((s.event 0x27 elem data).abortStop x 3).fillPlaces.rd .REGION_STOP_RESULT x.region = 3 := by
  obtain ⟨hresult, -, -⟩ := (s.event 0x27 elem data).abortStop_effect x (result := 3) (by decide)
  have hfill := ((s.event 0x27 elem data).abortStop x 3).fillPlaces_stopKeeps
  refine ⟨((s.event_logged 0x27 elem data false).trans fun o ho e i => ?_), (hfill.rd (by decide) _ _).trans hresult⟩
  exact (hfill.rd (List.mem_append_right _ ho) _ _).trans ((State.abortStop_log _ x 3).rd ho _ _)

/-! ### The acknowledgement (R188, R533) -/

theorem State.quiesceAck_matching {x : RStop} {s : State} (hcur : s.stop.cur = some x) (horder : x.order = 2) :
    s.quiesceAck x.epoch = { s.inc .SY_QACKS with stop := { s.stop with cur := some { x with order := 3 } } } := by
  have hfilter : (s.stop.cur.filter fun y => y.order == 2 && y.epoch == x.epoch) = some x := by
    rw [hcur]
    simp [Option.filter, horder]
  unfold State.quiesceAck
  rw [hfilter]
  rfl

theorem State.quiesceAck_stale {x : RStop} {epoch : Nat} {s : State} (hcur : s.stop.cur = some x) (h : epoch ≠ x.epoch) :
    s.quiesceAck epoch = s.inc .QUIESCE_STALE_ACKS := by
  have hfilter : (s.stop.cur.filter fun y => y.order == 2 && y.epoch == epoch) = none := by
    rw [hcur]
    simp [Option.filter, h.symm]
  unfold State.quiesceAck
  rw [hfilter]

theorem quiesceAck_reaches {epoch : Nat} {s : State} (h : s.refs.shortStop = false) :
    exec (.quiesceAck epoch) s = .next (s.quiesceAck epoch) :=
  congrArg Host.Outcome.next (if_neg (Bool.eq_false_iff.1 h))

theorem quiesceAck_held {epoch : Nat} {s : State} (h : s.refs.shortStop = true) :
    exec (.quiesceAck epoch) s = .next (s.syHold (.ack epoch)) :=
  congrArg Host.Outcome.next (if_pos h)

theorem quiesceTimeout_releases {x : RStop} {s : State} (hcur : s.stop.cur = some x) (horder : x.order = 2)
    (hrun : s.refs.shortStop = false) (hlate : x.deadline ≤ s.up) :
    exec .quiesceTimeout s = .next (((s.syncQreq false x.region x.epoch).abortStop x 2).fillPlaces) := by
  change execQuiesceTimeout s = _
  unfold execQuiesceTimeout
  rw [hcur]
  dsimp only
  rw [horder, hrun, decide_eq_true hlate]
  rfl

/-! ### The stop command (R155, R187) -/

theorem Cell.eachLane_eq (k : Cell) (f : XLane → XLane) : ∃ l, k.eachLane f = { k with lanes := l } := by
  suffices h : ∀ (xs : Tab XLane) (c : Cell), ∃ l, xs.foldl (fun c x => c.modLane x.1 f) c = { c with lanes := l } from
    h k.lanes k
  intro xs
  induction xs with
  | nil => exact fun c => ⟨c.lanes, rfl⟩
  | cons x rest ih => exact fun c => ih (c.modLane x.1 f)

/-- A cell at rest in DECOUPLED, or on its way there. -/
def Cell.StopsDecoupled (k : Cell) : Prop := (k.idle = true ∧ k.rd.mode = .decoupled) ∨ (k.idle = false ∧ k.target = .decoupled)

/-- The half that `wr` names has raised REQ in a cell on its way to DECOUPLED. -/
def Cell.Raised (k : Cell) (wr : Bool) : Prop := (k.half wr).req = true ∧ k.target = .decoupled

theorem Cell.not_idle_of_req {k : Cell} {wr : Bool} (h : (k.half wr).req = true) : k.idle = false := by
  cases wr
  · have hreq : k.rd.req = true := h
    simp [Cell.idle, hreq]
  · have hreq : k.wr.req = true := h
    simp [Cell.idle, hreq]

theorem Cell.stopHalf_raised {k : Cell} (h : k.StopsDecoupled) (wr : Bool) : (k.stopHalf wr).Raised wr := by
  unfold Cell.stopHalf Cell.quiet
  dsimp only
  obtain ⟨l, hl⟩ := (if k.idle then { k with target := k.rd.mode } else k).eachLane_eq (if wr then XLane.stopWrite else XLane.stopRead)
  rw [hl]
  have htarget : (if k.idle then { k with target := k.rd.mode } else k : Cell).target = .decoupled := by
    rcases h with ⟨hidle, hmode⟩ | ⟨hidle, htarget⟩
    · rw [hidle]
      exact hmode
    · rw [hidle]
      exact htarget
  cases wr
  · exact ⟨rfl, htarget⟩
  · exact ⟨rfl, htarget⟩

theorem Cell.stopHalf_stops {k : Cell} (h : k.StopsDecoupled) (wr : Bool) : (k.stopHalf wr).StopsDecoupled := by
  obtain ⟨hreq, htarget⟩ := k.stopHalf_raised h wr
  exact .inr ⟨Cell.not_idle_of_req hreq, htarget⟩

theorem Cell.stopHalf_keeps_raised {k : Cell} {w : Bool} (h : k.Raised w) (wr : Bool) : (k.stopHalf wr).Raised w := by
  obtain ⟨hreq, htarget⟩ := h
  unfold Cell.stopHalf Cell.quiet
  dsimp only
  rw [Cell.not_idle_of_req hreq, if_neg Bool.false_ne_true]
  obtain ⟨l, hl⟩ := k.eachLane_eq (if wr then XLane.stopWrite else XLane.stopRead)
  rw [hl]
  cases wr <;> cases w
  · exact ⟨rfl, htarget⟩
  · exact ⟨hreq, htarget⟩
  · exact ⟨hreq, htarget⟩
  · exact ⟨rfl, htarget⟩

/-- What holds of a cell and what a change of any cell keeps holds after the change. -/
theorem State.c_modC_kept {P : Cell → Prop} {s : State} {n e a b : Nat} {f : Cell → Cell} (h : P (s.c n e))
    (hf : ∀ k, P k → P (f k)) : P ((s.modC a b f).c n e) := by
  have hget : (s.modC a b f).c n e = if 4 * n + e = 4 * a + b then f (s.c a b) else s.c n e := Tab.get_set _ _ _ _ _
  rw [hget]
  split
  · next hkey =>
    have hsame : s.c n e = s.c a b := congrArg (fun k => Tab.get s.cell k {}) hkey
    exact hf _ (hsame ▸ h)
  · exact h

theorem State.c_modC_self (s : State) (n e : Nat) (f : Cell → Cell) : (s.modC n e f).c n e = f (s.c n e) :=
  Tab.get_set_self _ _ _ _

/-- What a fold's step for `x` establishes where `I` holds stands at its end, when every step keeps both. -/
theorem State.each_establishes_under {α : Type} {I P : State → Prop} {f : State → α → State} {x : α}
    (hI : ∀ t y, I t → I (f t y)) (hset : ∀ t, I t → P (f t x)) (hkeep : ∀ t y, P t → P (f t y)) {l : List α} (hx : x ∈ l)
    {s : State} (hs : I s) : P (s.each l f) := by
  induction l generalizing s with
  | nil => cases hx
  | cons y rest ih =>
    rw [State.each_cons]
    rcases List.mem_cons.1 hx with rfl | hrest
    · exact State.each_kept (hset _ hs) hkeep
    · exact ih hrest (hI _ _ hs)

/-- Every half that takes part raises REQ: its cell is at rest in DECOUPLED, or on its way there by its other half. -/
theorem State.raiseReq_raises {s : State} {n : Nat} (hidle : ∀ h ∈ s.ownHalves n, (s.c h.1 h.2.1).idle = true)
    {h : Nat × Nat × Bool} (hh : h ∈ s.stopHalves n) : ((s.raiseReq n).c h.1 h.2.1).Raised h.2.2 := by
  obtain ⟨hown, hmode⟩ := List.mem_filter.1 hh
  unfold State.raiseReq
  refine State.each_establishes_under (I := fun t => (t.c h.1 h.2.1).StopsDecoupled)
    (P := fun t => (t.c h.1 h.2.1).Raised h.2.2) (fun t y ht => ?_) (fun t ht => ?_) (fun t y ht => ?_) hh ?_
  · exact State.c_modC_kept ht fun k hk => k.stopHalf_stops hk _
  · rw [State.c_modC_self]
    exact Cell.stopHalf_raised ht _
  · exact State.c_modC_kept ht fun k hk => k.stopHalf_keeps_raised hk _
  · exact .inl ⟨hidle h hown, by simpa using hmode⟩

theorem State.clocked_of_rd {s t : State} {n : Nat} (h : t.rd .OSC_STATUS n = s.rd .OSC_STATUS n) : t.clocked n = s.clocked n :=
  State.osc_congr h _

/-- The request in flight at its next order. -/
def State.stopAt (s : State) (x : RStop) : State := { s with stop := { s.stop with cur := some x } }

theorem State.stopAt_rd (s : State) (x : RStop) (o : Obj) (e i : Nat) : (s.stopAt x).rd o e i = s.rd o e i := rfl

theorem State.stopAt_r (s : State) (x : RStop) (n : Nat) : (s.stopAt x).r n = s.r n := rfl

theorem State.fillPlaces_stop (s : State) : s.fillPlaces.stop = s.stop := s.fillPlaces_stopKeeps.same .stop (by decide)

theorem State.fillPlaces_r (s : State) (n : Nat) : s.fillPlaces.r n = s.r n :=
  State.r_congr (s.fillPlaces_stopKeeps.same .rgn (by decide)) n

theorem State.fillPlaces_clocked (s : State) (n : Nat) : s.fillPlaces.clocked n = s.clocked n :=
  State.clocked_of_rd (s.fillPlaces_stopKeeps.rd (by decide) _ _)

theorem State.stopAt_clocked (s : State) (x : RStop) (n : Nat) : (s.stopAt x).clocked n = s.clocked n := rfl

theorem stopCommand_raises {x : RStop} {s : State} (hcur : s.stop.cur = some x) (horder : x.order = 3)
    (hidle : ∀ h ∈ s.ownHalves x.region, (s.c h.1 h.2.1).idle = true) :
    exec (.stopCommand x.region) s = .next ((s.raiseReq x.region).stopAt { x with order := 4 }) := by
  have hall : s.crossingsIdle x.region = true := List.all_eq_true.2 hidle
  change execStopCommand x.region s = _
  unfold execStopCommand
  rw [hcur]
  dsimp only
  rw [horder, hall, beq_self_eq_true x.region]
  rfl

theorem State.raiseReq_clocked (s : State) (n m : Nat) : (s.raiseReq n).clocked m = s.clocked m := by
  have hkeeps : State.Keeps [.OSC_STATUS] [] s (s.raiseReq n) := State.raiseReq_frame (by decide) (Fr.refl s)
  exact State.clocked_of_rd (hkeeps.rd (by decide) _ _)

/-! ### The clock held low (R187, R189) -/

theorem State.clearTether_clocked (s : State) (n m : Nat) : (s.clearTether n).clocked m = s.clocked m := by
  have hkeeps : State.Keeps [.OSC_STATUS] [] s (s.clearTether n) := State.clearTether_frame (by decide) (by decide) (Fr.refl s)
  exact State.clocked_of_rd (hkeeps.rd (by decide) _ _)

theorem State.setOsc_clocked (s : State) (n : Nat) {b : OscBit} (v : Bool) (h : OscBit.running ≠ b) :
    (s.setOsc n b v).clocked n = s.clocked n :=
  State.osc_setOsc_other _ _ _ h

theorem State.stopClock_clocked (s : State) (n : Nat) : (s.stopClock n).clocked n = false := by
  unfold State.stopClock
  refine (State.clocked_of_rd (State.rd_modR _ _ _ _ _ _)).trans ?_
  rw [State.clearTether_clocked]
  refine (State.clocked_of_rd (State.rd_setFlag_other _ (by decide) _ _ _)).trans ?_
  rw [State.setOsc_clocked _ _ _ (by decide), State.setOsc_clocked _ _ _ (by decide), State.setOsc_clocked _ _ _ (by decide),
    State.setOsc_clocked _ _ _ (by decide)]
  exact State.osc_setOsc_self _ _ _ _

theorem State.loadSeed_clocked (s : State) (n ratio : Nat) : (s.loadSeed n ratio).clocked n = s.clocked n := by
  rw [State.loadSeed_eq]
  refine (State.clocked_of_rd ((State.rd_wr_other _ (by decide) _ _ _ _ _).trans (State.rd_wr_other _ (by decide) _ _ _ _ _))).trans ?_
  unfold State.seedLoop
  rw [State.setOsc_clocked _ _ _ (by decide), State.setOsc_clocked _ _ _ (by decide)]
  exact State.clocked_of_rd (State.rd_modR _ _ _ _ _ _)

/-- The clock of region `n` is low, with the seed of `ratio`. -/
def State.stopped (s : State) (n ratio : Nat) : State := (s.stopClock n).loadSeed n ratio

theorem State.stopped_effect (s : State) (n ratio : Nat) :
    (s.stopped n ratio).clocked n = false ∧ (s.stopped n ratio).rd .OSC_TARGET_N n = ratio % 2 ^ 16
      ∧ (s.stopped n ratio).rd .REGION_COUNT n = s.rd .REGION_COUNT n
      ∧ (s.stopped n ratio).rd .REGION_STOPS n = s.rd .REGION_STOPS n := by
  have hclock : State.Keeps [.REGION_COUNT, .REGION_STOPS] [] s (s.stopClock n) := by
    apply State.stopClock_frame (h := Fr.refl s) <;> decide
  have hkeeps : State.Keeps [.REGION_COUNT, .REGION_STOPS] [] s (s.stopped n ratio) := by
    apply State.loadSeed_frame (h := hclock) <;> decide
  obtain ⟨htarget, -, -, -, -⟩ := (s.stopClock n).loadSeed_effect n ratio
  exact ⟨(State.loadSeed_clocked _ _ _).trans (s.stopClock_clocked n), htarget, hkeeps.rd (by decide) _ _, hkeeps.rd (by decide) _ _⟩

/-- A stop of region `n` is shown and counted; the occurrence on its group is no longer observed. -/
def State.showStopped (s : State) (n g : Nat) : State := ((s.setStop n .stopped).inc .REGION_STOPS n).unobserve g

theorem State.showStopped_rd (s : State) (n g : Nat) {o : Obj} (h : o ≠ .REGION_STOP_STATE) (hstops : o ≠ .REGION_STOPS) (e i : Nat) :
    (s.showStopped n g).rd o e i = s.rd o e i :=
  (State.rd_inc_other _ hstops _ _ _ _).trans (State.rd_wr_other _ h _ _ _ _ _)

theorem State.showStopped_count (s : State) (n g : Nat) :
    (s.showStopped n g).rd .REGION_STOPS n = satAdd 32 (s.rd .REGION_STOPS n) 1 :=
  (State.rd_inc_self _ _ _ _).trans (congrArg (satAdd 32 · 1) (State.rd_wr_other _ (by decide) _ _ _ _ _))

theorem stopAck_stops {x : RStop} {s : State} (hcur : s.stop.cur = some x) (horder : x.order = 4)
    (hacked : ∀ h ∈ s.stopHalves x.region, ((s.c h.1 h.2.1).half (!h.2.2)).ack = true) :
    exec (.stopAck x.region) s = .next (((s.stopped x.region x.nNew).showStopped x.region (s.groupOf (fieldOf x.region))).stopAt
      { x with order := 5, deadline := s.up + s.rd .STOP_TIME / 1000 }) := by
  have hall : s.stopAcked x.region = true := List.all_eq_true.2 hacked
  change execStopAck x.region s = _
  unfold execStopAck
  rw [hcur]
  dsimp only
  rw [horder, hall, beq_self_eq_true x.region]
  rfl

/-! ### The restart (R113, R128, R187) -/

/-- The clock runs again, and the cells of the region reopen. -/
def State.restarted (s : State) (n : Nat) : State :=
  (((s.restartClock n).lowerReq n).reopenCells n).unobserve (s.groupOf (fieldOf n))

theorem State.restartClock_effect (s : State) (n : Nat) :
    (s.restartClock n).clocked n = true ∧ ((s.restartClock n).r n).runDepth = 0 ∧ ((s.restartClock n).r n).last1 = 0
      ∧ ((s.restartClock n).r n).last2 = 0 ∧ ((s.restartClock n).r n).last3 = 0 := by
  unfold State.restartClock
  refine ⟨?_, ?_⟩
  · refine (State.clocked_of_rd (State.rd_modR _ _ _ _ _ _)).trans ?_
    unfold State.startHold
    refine (State.clocked_of_rd (State.rd_modR _ _ _ _ _ _)).trans ?_
    rw [State.setOsc_clocked _ _ _ (by decide)]
    refine (State.clocked_of_rd (State.rd_setFlag_other _ (by decide) _ _ _)).trans ?_
    exact State.osc_setOsc_self _ _ _ _
  · rw [State.r_modR_self]
    exact ⟨rfl, rfl, rfl, rfl⟩

theorem State.restarted_keeps (s : State) (n : Nat) : State.Keeps [.OSC_STATUS] [.rgn] (s.restartClock n) (s.restarted n) :=
  State.unobserve_frame (by decide) (State.reopenCells_frame (by decide) (State.lowerReq_frame (by decide) (Fr.refl _)))

theorem regionRestart_restarts {x : RStop} {s : State} (hcur : s.stop.cur = some x) (horder : x.order = 5)
    (hlate : x.deadline ≤ s.up) :
    exec (.regionRestart x.region) s = .next ((s.restarted x.region).stopAt { x with order := 6 }).fillPlaces := by
  have hdue : (x.order == 5 && x.region == x.region && decide (x.deadline ≤ s.up)) = true := by simp [horder, hlate]
  change execRegionRestart x.region s = _
  unfold execRegionRestart State.restarted State.stopAt
  rw [hcur]
  dsimp only
  rw [hdue, State.when_true]

/-! ### The report of the restart (R187) -/

/-- The release has gone, with result OK. -/
def State.released (s : State) (x : RStop) : State :=
  (s.syncQreq false x.region x.epoch).wr .REGION_STOP_RESULT 1 x.region

/-- The step of `x` has ended with voltages at `v`: its request has ended too, or goes on with its next step. -/
def State.stopReported (v : State) (x : RStop) (c : StopSt) : State :=
  if x.nNew = x.target then ((v.setStop x.region c).nextStop false).fillPlaces
  else (v.setStop x.region .waiting).stopAt { region := x.region, target := x.target }

/-- The field's voltage is to be lowered after the falling step of `x` (R187, R191). -/
def State.stopLowers (s : State) (x : RStop) : Bool :=
  decide (x.nNew < x.nOld ∧ (s.predictVolt (fieldOf x.region) (s.rd .GROUP_N (s.groupOf (fieldOf x.region))) none).1
    < (s.predictVolt (fieldOf x.region) (s.rd .GROUP_N (s.groupOf (fieldOf x.region))) none).2.rd .FIELD_VOLT (fieldOf x.region))
    && !(s.opFrozen && s.groupOf (fieldOf x.region) != 0xFF)

/-- What the end of the step of `x` asks of the field's voltage. -/
def State.stopVolts (s : State) (x : RStop) : State :=
  let q := s.predictVolt (fieldOf x.region) (s.rd .GROUP_N (s.groupOf (fieldOf x.region))) none
  if s.stopLowers x then (q.2.requestVolt (fieldOf x.region) q.1).modF (fieldOf x.region) fun y => { y with lowering := some x.region }
  else if x.nNew < x.nOld then q.2
  else s

theorem State.stopVolts_keeps (s : State) (x : RStop) : State.Keeps [.REGION_STOP_RESULT] [.stop] s (s.stopVolts x) := by
  have hpredict : ∀ f ratio, State.Keeps [.REGION_STOP_RESULT] [.stop] s (s.predictVolt f ratio none).2 := fun f ratio =>
    State.predictVolt_frame (by decide) (by decide) (Fr.refl s)
  unfold State.stopVolts
  dsimp only
  split
  · refine State.modF_frame (by decide) ?_
    apply State.requestVolt_frame (h := hpredict _ _) <;> decide
  · split
    · exact hpredict _ _
    · exact Fr.refl s

theorem restartReport_reports {x : RStop} {s : State} (hcur : s.stop.cur = some x) (horder : x.order = 6)
    (hrun : s.refs.shortStop = false) (hidle : s.crossingsIdle x.region = true) :
    exec (.restartReport x.region) s = .next (((s.released x).stopVolts x).stopReported x
      (if (s.released x).stopLowers x then .voltDown else .idle)) := by
  change execRestartReport x.region s = _
  unfold execRestartReport
  rw [hcur]
  dsimp only
  rw [horder, hrun, hidle, beq_self_eq_true x.region]
  rfl

theorem State.stopReported_effect {u v : State} {x : RStop} (c : StopSt) (hkept : State.Keeps [.REGION_STOP_RESULT] [.stop] u v) :
    (v.stopReported x c).rd .REGION_STOP_RESULT x.region = u.rd .REGION_STOP_RESULT x.region
      ∧ (v.stopReported x c).stop.request = u.stop.request
      ∧ (x.nNew ≠ x.target → (v.stopReported x c).stop.cur = some { region := x.region, target := x.target }) := by
  have hresult : ∀ c', (v.setStop x.region c').rd .REGION_STOP_RESULT x.region = u.rd .REGION_STOP_RESULT x.region := fun c' =>
    (State.rd_wr_other _ (by decide) _ _ _ _ _).trans (hkept.rd (by decide) _ _)
  have hstop : v.stop = u.stop := hkept.same .stop (by decide)
  unfold State.stopReported
  split
  · next hdone =>
    have hfill := ((v.setStop x.region c).nextStop false).fillPlaces_stopKeeps
    refine ⟨?_, ?_, fun hmore => absurd hdone hmore⟩
    · exact (hfill.rd (by decide) _ _).trans (((State.nextStop_results _ _).rd (by decide) _ _).trans (hresult c))
    · rw [State.fillPlaces_stop, State.nextStop_request]
      exact congrArg RegionStop.request hstop
  · refine ⟨hresult .waiting, ?_, fun _ => rfl⟩
    rw [← hstop]
    rfl

/-- Settles O19: each order of R187 leaves the request at its next, and what follows the end of a step leaves its result. -/
theorem regionStopsInOrder : Obligations.RegionStopsInOrder := by
  refine ⟨?_, ?_, ?_, ?_, ?_, ?_, ?_, ?_, ?_, ?_, ?_, ?_⟩
  · intro x s hcur horder hrun hrest hfree hready hrouter htgt hlow
    refine ⟨_, { s.stopStep x with order := 2, deadline := s.up + s.rd .QUIESCE_LIMIT }, regionStopStart_starts hcur horder hrun, ?_⟩
    rw [State.startStop_falls hrest hfree hready hrouter htgt hlow, State.sendQuiesce_stop]
    exact ⟨rfl, rfl, rfl, rfl, rfl, rfl, rfl, rfl, rfl, rfl⟩
  · intro x s hcur horder hrun hrest hfree hready hrouter
    refine ⟨_, regionStopStart_starts hcur horder hrun, ?_⟩
    rw [State.startStop_off hrest hfree hready hrouter]
    obtain ⟨hresult, -, hrequest⟩ := s.abortStop_effect x (result := 6) (by decide)
    obtain ⟨-, -, hqepoch, hepoch⟩ := RegionStop.request_parts hrequest
    exact ⟨hresult, hqepoch, hepoch⟩
  · intro x s hcur horder hrun hconfirmed
    exact ⟨_, voltConfirm_sendsQuiesce hcur horder hrun hconfirmed, rfl, rfl, rfl⟩
  · intro x s hcur horder hrun hconfirmed hlate
    exact ⟨_, voltTimeout_endsStop hcur horder hrun hconfirmed hlate, s.stopTimeout_effect x _ _⟩
  · intro x s hcur horder hrun
    refine ⟨_, quiesceAck_reaches hrun, ?_⟩
    rw [State.quiesceAck_matching hcur horder]
    exact ⟨rfl, State.rd_inc_self s .SY_QACKS 0 0⟩
  · intro x epoch s hcur hother hrun
    refine ⟨_, quiesceAck_reaches hrun, ?_⟩
    rw [State.quiesceAck_stale hcur hother]
    exact ⟨rfl, State.rd_inc_self _ _ _ _⟩
  · exact fun epoch s hstop => quiesceAck_held hstop
  · intro x s hcur horder hrun hlate
    obtain ⟨hresult, haborts, hrequest⟩ := (s.syncQreq false x.region x.epoch).abortStop_effect x (result := 2) (by decide)
    have hfill := ((s.syncQreq false x.region x.epoch).abortStop x 2).fillPlaces_stopKeeps
    obtain ⟨hop, -, hepoch, -⟩ := RegionStop.request_parts
      ((congrArg RegionStop.request (State.fillPlaces_stop _)).trans hrequest)
    exact ⟨_, quiesceTimeout_releases hcur horder hrun hlate, (hfill.rd (by decide) _ _).trans hresult, hop, hepoch,
      (hfill.rd (by decide) _ _).trans haborts⟩
  · intro x s hcur horder hidle
    refine ⟨_, stopCommand_raises hcur horder hidle, rfl, ?_, fun h hh => State.raiseReq_raises hidle hh⟩
    rw [State.stopAt_clocked, State.raiseReq_clocked]
  · intro x s hcur horder hacked
    obtain ⟨hclocked, htarget, hcount, hstops⟩ := s.stopped_effect x.region x.nNew
    refine ⟨_, stopAck_stops hcur horder hacked, rfl, ?_, ?_, ?_, ?_⟩
    · rw [State.stopAt_clocked, State.clocked_of_rd (State.showStopped_rd _ _ _ (by decide) (by decide) _ _)]
      exact hclocked
    · rw [State.stopAt_rd, State.showStopped_rd _ _ _ (by decide) (by decide)]
      exact htarget
    · rw [State.stopAt_rd, State.showStopped_rd _ _ _ (by decide) (by decide)]
      exact hcount
    · rw [State.stopAt_rd, State.showStopped_count, hstops]
  · intro x s hcur horder hlate
    obtain ⟨hclocked, hdepth, hlast1, hlast2, hlast3⟩ := s.restartClock_effect x.region
    have hkeeps := s.restarted_keeps x.region
    have hr := State.r_congr (hkeeps.same .rgn (by decide)) x.region
    refine ⟨_, regionRestart_restarts hcur horder hlate, ?_, ?_, ?_, ?_⟩
    · rw [State.fillPlaces_stop]
      rfl
    · rw [State.fillPlaces_clocked, State.stopAt_clocked, State.clocked_of_rd (hkeeps.rd (by decide) _ _)]
      exact hclocked
    · rw [State.fillPlaces_r, State.stopAt_r, hr, hdepth]
    · rw [State.fillPlaces_r, State.stopAt_r, hr, hlast1, hlast2, hlast3]
  · intro x s hcur horder hrun hidle
    obtain ⟨hresult, hrequest, hmore⟩ := State.stopReported_effect (x := x)
      (if (s.released x).stopLowers x then .voltDown else .idle) ((s.released x).stopVolts_keeps x)
    obtain ⟨hop, hregion, hepoch, -⟩ := RegionStop.request_parts hrequest
    exact ⟨_, restartReport_reports hcur horder hrun hidle, hresult.trans (State.rd_wr_self _ _ _ _ _), hop, hregion, hepoch, hmore⟩

end Sys2Proof.Machine
end

section
/-! SUPPORT. The first steps of an arm, the halt and the moment the block becomes ready (R499, R507, R509, R510). -/

namespace Sys2Proof.Machine
open Sys2Proof

/-! ### The start-up's own record -/

/-- The start-up's record replaced. -/
def State.withSu (s : State) (x : StartUp) : State := { s with su := x }

/-! ### The first steps of an arm (R93, R499, R510) -/

/-- Cells, regions and exclusions as an arm finds them, before its groups. -/
def State.armRegions (s : State) : State :=
  let s1 := (s.adoptGroups.adoptExcluded.armCells).relightCells.fenceArmed
  let s2 := (s1.each s1.regions State.armClear).lowerCells
  s2.each ((s2.liveRegions).filter s2.routerOn) State.armRegion

/-- What an arm leaves of the units, before START_STATE and the start-up's record tell of it. -/
def State.armUnits (s : State) : State :=
  let s4 := s.armRegions.each s.armRegions.groups State.armGroup
  let s5 := s4.each s4.groups fun t g => t.armIslands s4.armedView g
  ((s5.each s5.fields State.armField).setFlag .CAP_STATUS 4 false).showTrim

/-- The start-up's record at the start of an arm. -/
def StartUp.arm (x : StartUp) (trimTime : Nat) : StartUp :=
  { x with arming := true, repeatDue := false, ramping := false, markLaunched := true, trimTime := trimTime }

/-- An arm begins: OSC is ready with no clock running, and START_STATE tells of the arm. -/
def State.showArm (s : State) : State :=
  ((s.withSu (s.su.arm (s.rd .TRIM_TIME))).setReady .osc (s.regions.all fun n => !s.clocked n)).setStart .arming

theorem State.beginArm_eq (s : State) : s.beginArm = s.armUnits.showArm := by
  unfold State.beginArm State.armUnits State.armRegions State.showArm State.withSu StartUp.arm
  dsimp only

theorem State.showArm_su (s : State) : s.showArm.su = s.su.arm (s.rd .TRIM_TIME) := rfl

theorem State.showArm_rd (s : State) {o : Obj} (hr : o ≠ .UNIT_READY) (hst : o ≠ .START_STATE) (e i : Nat) :
    s.showArm.rd o e i = s.rd o e i :=
  (State.rd_wr_other _ hst _ _ _ _ _).trans (State.rd_setReady _ _ _ hr _ _)

theorem State.armRegions_keeps (s : State) : State.Keeps [.NUM_GROUPS] [.su] s s.armRegions := by
  have hcells : State.Keeps [.NUM_GROUPS] [.su] s ((s.adoptGroups.adoptExcluded.armCells).relightCells.fenceArmed) :=
    State.fenceArmed_frame (by decide) <| State.relightCells_frame (by decide) <| State.armCells_frame (by decide) (by decide) <|
      State.adoptExcluded_frame (by decide) (by decide) (by decide) <| State.adoptGroups_frame (by decide) (by decide) (Fr.refl s)
  unfold State.armRegions
  dsimp only
  refine State.each_kept ?_ fun t n ht => ?_
  · refine State.lowerCells_frame (by decide) (State.each_kept hcells fun t n ht => ?_)
    apply State.armClear_frame (h := ht) <;> decide
  · apply State.armRegion_frame (h := ht) <;> decide

/-- What follows the groups of an arm leaves their ratio, their target and the start-up's record. -/
theorem State.armUnits_keeps (s : State) :
    State.Keeps [.GROUP_N, .GROUP_TARGET_N] [.su] (s.armRegions.each s.armRegions.groups State.armGroup) s.armUnits := by
  unfold State.armUnits
  dsimp only
  refine State.showTrim_frame (by decide) (State.setFlag_frame (by decide) (State.each_kept (State.each_kept (Fr.refl _) ?_) ?_))
  · exact fun t g ht => State.armIslands_frame (by decide) (by decide) (by decide) ht
  · exact fun t f ht => State.armField_frame (by decide) (by decide) (by decide) ht

theorem State.armUnits_su (s : State) : s.armUnits.su = s.su := by
  have hgroups : State.Keeps [] [.su] s.armRegions (s.armRegions.each s.armRegions.groups State.armGroup) :=
    State.each_kept (Fr.refl _) fun t g ht => by apply State.armGroup_frame (h := ht) <;> decide
  have hunits : s.armUnits.su = (s.armRegions.each s.armRegions.groups State.armGroup).su := s.armUnits_keeps.same .su (by decide)
  have hregions : s.armRegions.su = s.su := s.armRegions_keeps.same .su (by decide)
  exact hunits.trans ((hgroups.same .su (by decide)).trans hregions)

/-- Group `g` stands at N = 160. -/
def State.AtFirst (g : Nat) (s : State) : Prop := s.rd .GROUP_N g = 160 ∧ s.rd .GROUP_TARGET_N g = 160

/-- The record of a group, its ratio and its target as an arm begins. -/
def State.armRatio (s : State) (g : Nat) (f : Grp → Grp) : State := ((s.modG g f).wr .GROUP_N 160 g).wr .GROUP_TARGET_N 160 g

theorem State.armGroup_leaves (s : State) (g : Nat) :
    ∃ f, State.Keeps [.GROUP_N, .GROUP_TARGET_N] [] (s.armRatio g f) (s.armGroup g) :=
  ⟨_, State.showCeiling_frame (by decide) (by decide) (by decide) <| State.loadLfsr_frame (by decide) <|
    State.wr_frame (by decide) <| State.wr_frame (by decide) <| State.wr_frame (by decide) (Fr.refl _)⟩

theorem State.armGroup_self (s : State) (g : Nat) : (s.armGroup g).AtFirst g := by
  obtain ⟨f, hkeeps⟩ := s.armGroup_leaves g
  unfold State.AtFirst
  rw [hkeeps.rd (by decide), hkeeps.rd (by decide)]
  exact ⟨(State.rd_wr_other _ (by decide) _ _ _ _ _).trans (State.rd_wr_self _ _ _ _ _), State.rd_wr_self _ _ _ _ _⟩

theorem State.armGroup_keep {s : State} {g : Nat} (k : Nat) (h : s.AtFirst g) : (s.armGroup k).AtFirst g := by
  obtain rfl | hne := eq_or_ne g k
  · exact s.armGroup_self g
  · obtain ⟨f, hkeeps⟩ := s.armGroup_leaves k
    obtain ⟨hratio, htarget⟩ := h
    have hother : ∀ o, (s.armRatio k f).rd o g = s.rd o g := fun o =>
      (State.rd_wr_elem _ hne _ _ _).trans ((State.rd_wr_elem _ hne _ _ _).trans (State.rd_modG _ _ _ _ _ _))
    unfold State.AtFirst
    rw [hkeeps.rd (by decide), hkeeps.rd (by decide), hother, hother]
    exact ⟨hratio, htarget⟩

theorem State.armUnits_atFirst {s : State} {g : Nat} (h : g < s.rd .NUM_GROUPS) : s.armUnits.AtFirst g := by
  have hmem : g ∈ s.armRegions.groups := List.mem_range.2 (by rwa [s.armRegions_keeps.rd (by decide)])
  have hfirst := State.each_establishes (P := State.AtFirst g) hmem (fun t => t.armGroup_self g)
    (fun _ k ht => State.armGroup_keep k ht) s.armRegions
  unfold State.AtFirst
  rw [s.armUnits_keeps.rd (by decide), s.armUnits_keeps.rd (by decide)]
  exact hfirst

theorem State.beginArm_su (s : State) : s.beginArm.su = s.su.arm (s.armUnits.rd .TRIM_TIME) := by
  rw [State.beginArm_eq, State.showArm_su, State.armUnits_su]

theorem State.beginArm_startIs (s : State) : s.beginArm.startIs .arming = true := by
  rw [State.beginArm_eq]
  exact State.startIs_setStart _ _

theorem State.beginArm_atFirst {s : State} {g : Nat} (h : g < s.rd .NUM_GROUPS) : s.beginArm.AtFirst g := by
  rw [State.beginArm_eq, State.AtFirst, State.showArm_rd _ (by decide) (by decide), State.showArm_rd _ (by decide) (by decide)]
  exact State.armUnits_atFirst h

/-- The first attempt of an arm: the start-up's record, START_STATE and every group's ratio. -/
theorem State.firstArm_effect (s : State) (re : Bool) :
    ∃ trimTime, (s.firstArm re).su = StartUp.arm { s.su with rearm := re, armAt := s.up, repeats := 0 } trimTime
      ∧ (s.firstArm re).startIs .arming = true ∧ ∀ g, g < s.rd .NUM_GROUPS → (s.firstArm re).AtFirst g := by
  refine ⟨_, State.beginArm_su _, State.beginArm_startIs _, fun g hg => State.beginArm_atFirst ?_⟩
  rw [State.rd_wr_other _ (by decide)]
  exact hg

/-! ### Reports that come too late (R524) -/

/-- The line and the freeze of the fault unit. -/
def State.line (s : State) : Bool × Bool := (s.flt.line, s.flt.frozen)

theorem State.line_congr {s t : State} (h : t.flt = s.flt) : t.line = s.line := by
  rw [State.line, h]
  rfl

theorem State.flt_frozen_congr {s t : State} (h : t.line = s.line) : t.flt.frozen = s.flt.frozen := congrArg Prod.snd h

theorem State.line_of_signals {s t : State} (h : t.signals = s.signals) : t.line = s.line :=
  congrArg (fun x : List FReport × Bool × Option Nat × Bool => (x.2.1, x.2.2.2)) h

theorem State.Keeps.line {os : List Obj} {ps : List Part} {s t : State} (h : State.Keeps os ps s t)
    (hp : Part.flt ∈ ps := by decide) : t.line = s.line :=
  State.line_congr (h.same .flt hp)

theorem State.event_line (s : State) (code elem data : Nat) (inj : Bool) : (s.event code elem data inj).line = s.line :=
  State.line_of_signals (s.event_signals code elem data inj)

theorem State.laterFault_line (s : State) (r : FReport) : (s.laterFault r).line = s.line := by
  obtain ⟨-, -, hsignals, -⟩ := s.laterFault_effect r
  exact State.line_of_signals hsignals

/-- With every report on its way drained, no line is driven. -/
theorem State.drainReports_line (s : State) : s.drainReports.line = (false, s.flt.frozen) :=
  State.each_same State.line State.laterFault State.laterFault_line _ _

/-! ### Ready (R499, R507, R510, R524) -/

theorem State.clearLatch_unlatched (s : State) : s.clearLatch.digestLatched = false := by
  unfold State.clearLatch
  cases h : s.digestLatched
  · exact h
  · have hzero : ∀ t : State, ((t.wr .FAULT_DIGEST 0).wr .FAULT_TIME 0).rd .FAULT_DIGEST = 0 := fun t =>
      (State.rd_wr_other _ (by decide) _ _ _ _ _).trans (State.rd_wr_self _ _ _ _ _)
    rw [State.when_true]
    unfold State.digestLatched
    dsimp only
    rw [hzero]
    rfl

theorem State.clearLatch_leaves (s : State) : State.Keeps [.ARM_SEQ, .JOB_RESETS] [.su, .flt] s s.clearLatch := by
  apply State.clearLatch_frame (h := Fr.refl s) <;> decide

/-- READY is shown, and the arm is counted. -/
def State.markReady (s : State) : State := ((s.setReady .ready true).setStart .ready).addWrap .ARM_SEQ 1

/-- READY is shown, and the arm is counted and timed. -/
def State.showReady (s : State) : State :=
  (s.markReady.wr .LAST_ARM_TIME (s.up - s.su.armAt)).when (!s.su.everReady) fun t => t.wr .READY_TIME t.up

/-- The arm has ended, and the freeze with it. -/
def State.endArm (s : State) : State :=
  { s with
    su := { s.su with arming := false, rearm := false, ramping := false, everReady := true, halted := false }
    flt := { s.flt with frozen := false } }

theorem State.becomeReady_eq (s : State) : s.becomeReady = s.drainReports.clearLatch.showReady.endArm.fillPlaces := rfl

theorem State.markReady_effect (s : State) :
    s.markReady.isReady .ready = true ∧ s.markReady.startIs .ready = true
      ∧ s.markReady.rd .ARM_SEQ = (s.rd .ARM_SEQ + 1) % 2 ^ objBits .ARM_SEQ := by
  unfold State.markReady State.addWrap
  refine ⟨?_, ?_, ?_⟩
  · refine (State.isReady_congr ((State.rd_wr_other _ (by decide) _ _ _ _ _).trans (State.rd_wr_other _ (by decide) _ _ _ _ _)) _).trans ?_
    exact State.isReady_setReady_self _ _ _
  · exact (State.startIs_congr (State.rd_wr_other _ (by decide) _ _ _ _ _) _).trans (State.startIs_setStart _ _)
  · rw [State.rd_wr_self, State.setStart, State.rd_wr_other _ (by decide), State.rd_setReady _ _ _ (by decide)]

theorem State.showReady_keeps (s : State) :
    State.Keeps [.UNIT_READY, .START_STATE, .ARM_SEQ] [] s.markReady s.showReady :=
  State.when_kept (State.wr_frame (by decide) (Fr.refl _)) fun _ ht => State.wr_frame (by decide) ht

theorem State.showReady_frame (s : State) : State.Keeps [.JOB_RESETS, .FAULT_DIGEST] [.su, .flt] s s.showReady :=
  State.when_kept (State.wr_frame (by decide) (State.addWrap_frame (by decide) (State.setStart_frame (by decide)
    (State.setReady_frame (by decide) (Fr.refl _))))) fun _ ht => State.wr_frame (by decide) ht

theorem State.fillPlaces_readyKeeps (s : State) :
    State.Keeps [.UNIT_READY, .START_STATE, .ARM_SEQ, .JOB_RESETS, .FAULT_DIGEST] [.su, .flt] s s.fillPlaces := by
  apply State.fillPlaces_frame (h := Fr.refl s) <;> decide

theorem State.drainReports_leaves (s : State) : State.Keeps [.ARM_SEQ, .JOB_RESETS] [.su] s s.drainReports := by
  apply State.drainReports_frame (h := Fr.refl s) <;> decide

theorem State.becomeReady_su (s : State) :
    s.becomeReady.su
      = { s.su with arming := false, rearm := false, ramping := false, everReady := true, halted := false } := by
  have hsu : s.drainReports.clearLatch.showReady.su = s.su := by
    rw [s.drainReports.clearLatch.showReady_frame.same .su (by decide), s.drainReports.clearLatch_leaves.same .su (by decide),
      s.drainReports_leaves.same .su (by decide)]
  rw [State.becomeReady_eq, (State.fillPlaces_readyKeeps _).same .su (by decide), ← hsu]
  rfl

theorem State.becomeReady_line (s : State) : s.becomeReady.line = (false, false) := by
  have hflt : s.drainReports.clearLatch.showReady.flt = s.drainReports.flt :=
    (s.drainReports.clearLatch.showReady_frame.same .flt (by decide)).trans (s.drainReports.clearLatch_leaves.same .flt (by decide))
  have hline : s.drainReports.flt.line = false := congrArg Prod.fst s.drainReports_line
  rw [State.becomeReady_eq, (State.fillPlaces_readyKeeps _).line]
  exact Prod.ext ((congrArg FaultUnit.line hflt).trans hline) rfl

/-- READY with the arm counted, and no digest latched. -/
theorem State.becomeReady_effect (s : State) :
    s.becomeReady.isReady .ready = true ∧ s.becomeReady.startIs .ready = true
      ∧ s.becomeReady.rd .ARM_SEQ = (s.rd .ARM_SEQ + 1) % 2 ^ objBits .ARM_SEQ
      ∧ s.becomeReady.rd .JOB_RESETS = s.rd .JOB_RESETS ∧ s.becomeReady.digestLatched = false := by
  obtain ⟨hready, hstart, hseq⟩ := s.drainReports.clearLatch.markReady_effect
  have hfill := s.drainReports.clearLatch.showReady.endArm.fillPlaces_readyKeeps
  have hshow := s.drainReports.clearLatch.showReady_keeps
  have hframe := s.drainReports.clearLatch.showReady_frame
  have hrd : ∀ o ∈ [Obj.UNIT_READY, .START_STATE, .ARM_SEQ], ∀ e i,
      s.becomeReady.rd o e i = s.drainReports.clearLatch.markReady.rd o e i := fun o ho e i =>
    (hfill.rd (List.mem_append_left [Obj.JOB_RESETS, .FAULT_DIGEST] ho) e i).trans (hshow.rd ho e i)
  refine ⟨?_, ?_, ?_, ?_, ?_⟩
  · exact (State.isReady_congr (hrd .UNIT_READY (by decide) _ _) _).trans hready
  · exact (State.startIs_congr (hrd .START_STATE (by decide) _ _) _).trans hstart
  · rw [hrd .ARM_SEQ (by decide), hseq, s.drainReports.clearLatch_leaves.rd (by decide), s.drainReports_leaves.rd (by decide)]
  · refine (hfill.rd (by decide) _ _).trans ((hframe.rd (by decide) _ _).trans ?_)
    rw [s.drainReports.clearLatch_leaves.rd (by decide), s.drainReports_leaves.rd (by decide)]
  · have hdigest : s.becomeReady.rd .FAULT_DIGEST = s.drainReports.clearLatch.rd .FAULT_DIGEST :=
      (hfill.rd (by decide) _ _).trans (hframe.rd (by decide) _ _)
    unfold State.digestLatched
    rw [hdigest]
    exact s.drainReports.clearLatch_unlatched

/-! ### The halt (R509) -/

/-- The bits and the record of the start-up at a halt. -/
def State.haltBits (s : State) : State :=
  let s1 := (((s.setReady .ready false).setReady .aligned false).setReady .osc false)
  { s1 with
    su := { s1.su with jobRstReq := false, ramping := false, arming := false, repeatDue := false, markLaunched := false }
    caps := { s1.caps with tripDue := [] } }

/-- Fields, cells and regions at a halt. -/
def State.haltFields (s : State) : State :=
  let s4 := ((s.each s.fields fun t f => t.setDuty f 0).stopFloor 0xFF).closeEpisode 0xFF s.window true
  let s5 := s4.haltCells
  s5.each (s5.regions.filter fun n => s5.clocked n || s5.osc n .counting) State.haltRegion

/-- Groups and stops at a halt, then fields, cells and regions. -/
def State.haltUnits (s : State) : State := (s.each s.groups State.haltGroup).haltStop.haltFields

/-- What follows the units of a halt: the reports on their way are drained, and an injection that waits for a fault is withdrawn. -/
def State.haltEnd (s : State) : State := s.cancelInjection.showTrim

theorem State.haltAll_eq (s : State) : s.haltAll = s.haltBits.haltUnits.drainReports.haltEnd := by
  unfold State.haltAll State.haltBits State.haltUnits State.haltFields State.haltEnd
  dsimp only

/-- What every part of a halt but its bits leaves. -/
def haltKept : List Obj := [.UNIT_READY, .JOB_RESETS, .ARM_SEQ, .NUM_MAILBOXES]

theorem State.haltFields_keeps (s : State) : State.Keeps haltKept [.su, .flt] s s.haltFields := by
  unfold State.haltFields
  dsimp only
  refine State.each_kept ?_ fun t n ht => by apply State.haltRegion_frame (h := ht) <;> decide
  refine State.haltCells_frame (by decide) (by decide) (by decide) ?_
  refine State.closeEpisode_frame (by decide) (by decide) (by decide) (by decide) (by decide) (by decide) (by decide) ?_
  refine State.stopFloor_frame (by decide) (by decide) (by decide) (by decide) (by decide) (by decide) ?_
  exact State.each_kept (Fr.refl s) fun t f ht => State.setDuty_frame (by decide) (by decide) ht

theorem State.haltStop_leaves (s : State) : State.Keeps haltKept [.su, .flt] s s.haltStop := by
  apply State.haltStop_frame (h := Fr.refl s) <;> decide

theorem State.haltGroup_leaves (s : State) (g : Nat) : State.Keeps haltKept [.su] s (s.haltGroup g) := by
  apply State.haltGroup_frame (h := Fr.refl s) <;> decide

theorem State.haltUnits_rd (s : State) {o : Obj} (ho : o ∈ haltKept) (e i : Nat) : s.haltUnits.rd o e i = s.rd o e i :=
  ((State.haltFields_keeps _).rd ho e i).trans (((State.haltStop_leaves _).rd ho e i).trans
    (State.each_same (·.rd o e i) _ (fun t g => (t.haltGroup_leaves g).rd ho e i) _ _))

theorem State.haltUnits_su (s : State) : s.haltUnits.su = s.su :=
  ((State.haltFields_keeps _).same .su (by decide)).trans (((State.haltStop_leaves _).same .su (by decide)).trans
    (State.each_same State.su _ (fun t g => (t.haltGroup_leaves g).same .su (by decide)) _ _))

theorem State.endRunReport_line (s : State) (g : Nat) (faulted : Bool) : (s.endRunReport g faulted).line = s.line := by
  unfold State.endRunReport
  refine (State.when_same State.line _ (fun t => t.event_line _ _ _ _) _ _).trans ?_
  exact (State.line_congr (State.modG_flt _ _ _)).trans (State.line_congr (State.wr_flt _ _ _ _ _))

/-- A group halts with no fault raised: of its parts, the end of its run alone logs. -/
theorem State.haltGroup_line (s : State) (g : Nat) : (s.haltGroup g).line = s.line := by
  have habort : ∀ t : State, (if (t.g g).step.isSome then t.abortStep g 5 else t).line = t.line := fun t => by
    split
    · exact State.Keeps.line (os := []) (ps := [.flt]) (by apply State.abortStep_frame (h := Fr.refl t) <;> decide)
    · rfl
  have hfloor : ∀ t : State, (t.stopFloor g).line = t.line := fun t =>
    State.Keeps.line (os := []) (ps := [.flt]) (by apply State.stopFloor_frame (h := Fr.refl t) <;> decide)
  have hrun : ∀ t : State, (if (t.g g).run.running then t.endRunReport g (t.g g).run.faultAt else t).line = t.line := fun t => by
    split
    · exact State.endRunReport_line _ _ _
    · rfl
  have hend : ∀ (t : State) w, (((t.dropNext g).closeEpisode g w true).discardOcc g).line = t.line := fun t w =>
    State.Keeps.line (os := []) (ps := [.flt]) (by
      refine State.discardOcc_frame (by decide) (by decide) (by decide) ?_
      apply State.closeEpisode_frame (h := State.dropNext_frame (by decide) (by decide) (Fr.refl t)) <;> decide)
  unfold State.haltGroup
  dsimp only
  rw [hend]
  refine (State.line_congr (State.modG_flt _ _ _)).trans ?_
  rw [hrun, hfloor]
  exact (State.line_congr (State.modG_flt _ _ _)).trans (habort s)

theorem State.haltUnits_line (s : State) : s.haltUnits.line = s.line :=
  (State.haltFields_keeps _).line.trans ((State.haltStop_leaves _).line.trans
    (State.each_same State.line _ State.haltGroup_line _ _))

theorem State.endInjection_line (s : State) (result : Nat) : (s.endInjection result).line = s.line := by
  unfold State.endInjection
  refine (State.when_same State.line _ (fun t => ?_) _ _).trans ?_
  · rfl
  · rfl

theorem State.haltEnd_line (s : State) : s.haltEnd.line = s.line :=
  (State.line_congr rfl).trans (State.when_same State.line _ (fun t => t.endInjection_line 3) _ _)

theorem State.haltEnd_keeps (s : State) : State.Keeps haltKept [.su] s s.drainReports.haltEnd := by
  have hdrain : State.Keeps haltKept [.su] s s.drainReports := by
    apply State.drainReports_frame (h := Fr.refl s) <;> decide
  refine State.showTrim_frame (by decide) ?_
  apply State.cancelInjection_frame (h := hdrain) <;> decide

theorem State.haltAll_rd (s : State) {o : Obj} (ho : o ∈ haltKept) (e i : Nat) : s.haltAll.rd o e i = s.haltBits.rd o e i := by
  rw [State.haltAll_eq]
  exact ((State.haltEnd_keeps _).rd ho e i).trans (State.haltUnits_rd _ ho e i)

theorem State.haltAll_su (s : State) : s.haltAll.su = s.haltBits.su := by
  rw [State.haltAll_eq]
  exact ((State.haltEnd_keeps _).same .su (by decide)).trans s.haltBits.haltUnits_su

theorem State.haltBits_line (s : State) : s.haltBits.line = s.line := by
  have hflt : (((s.setReady .ready false).setReady .aligned false).setReady .osc false).flt = s.flt := by
    rw [State.setReady_flt, State.setReady_flt, State.setReady_flt]
  exact State.line_congr hflt

theorem State.haltAll_line (s : State) : s.haltAll.line = (false, s.flt.frozen) := by
  have hfrozen : s.haltBits.haltUnits.flt.frozen = s.flt.frozen :=
    State.flt_frozen_congr (s.haltBits.haltUnits_line.trans s.haltBits_line)
  rw [State.haltAll_eq]
  exact (State.haltEnd_line _).trans ((State.drainReports_line _).trans (congrArg (false, ·) hfrozen))

theorem State.haltBits_notReady (s : State) : s.haltBits.isReady .ready = false := by
  refine (State.isReady_congr (State.rd_congr rfl rfl _ _ _) _ :
    _ = (((s.setReady .ready false).setReady .aligned false).setReady .osc false).isReady .ready).trans ?_
  rw [State.isReady_setReady_other _ _ (by decide), State.isReady_setReady_other _ _ (by decide)]
  exact State.isReady_setReady_self _ _ _

theorem State.haltBits_rd (s : State) {o : Obj} (h : o ≠ .UNIT_READY) (e i : Nat) : s.haltBits.rd o e i = s.rd o e i :=
  (State.rd_setReady _ _ _ h _ _).trans ((State.rd_setReady _ _ _ h _ _).trans (State.rd_setReady _ _ _ h _ _))

/-! ### Mailboxes at a job reset (R509) -/

/-- Mailbox `m` holds no message, and its doorbell is clear. -/
def State.Cleared (m : Nat) (s : State) : Prop := (s.bx m).msgs = [] ∧ (s.bx m).rung = false

/-- A mailbox emptied. -/
def State.emptyBox (s : State) (m : Nat) : State :=
  (s.modBx m fun b => { b with msgs := [], rung := false, merged := 0, waiting := 0 }).showCount m

theorem State.emptyBox_self (s : State) (m : Nat) : (s.emptyBox m).Cleared m := by
  have hbox := State.bx_modBx_self s m fun b => { b with msgs := [], rung := false, merged := 0, waiting := 0 }
  exact ⟨congrArg Box.msgs hbox, congrArg Box.rung hbox⟩

theorem State.emptyBox_keep {s : State} {m : Nat} (k : Nat) (h : s.Cleared m) : (s.emptyBox k).Cleared m := by
  obtain rfl | hne := eq_or_ne m k
  · exact s.emptyBox_self m
  · have hbox : (s.emptyBox k).bx m = s.bx m :=
      (State.bx_congr (State.wr_box _ _ _ _ _) m).trans ((s.bx_modBx k m _).trans (if_neg hne))
    unfold State.Cleared
    rwa [hbox]

theorem State.jobResetMail_cleared {s : State} {m : Nat} (h : m < s.rd .NUM_MAILBOXES) : s.jobResetMail.Cleared m := by
  have hmem : m ∈ s.boxes := List.mem_range.2 h
  have hcleared : (s.each s.boxes State.emptyBox).Cleared m :=
    State.each_establishes hmem (fun t => t.emptyBox_self m) (fun _ k ht => State.emptyBox_keep k ht) s
  have hlocks : ∀ t : State, (t.loseLocks (· != 0)).box = t.box := fun t => by
    have hkeeps : State.Keeps [] [.box] t (t.loseLocks (· != 0)) := State.loseLocks_frame (by decide) (Fr.refl t)
    exact hkeeps.same .box (by decide)
  have hbox : s.jobResetMail.bx m = (s.each s.boxes State.emptyBox).bx m := State.bx_congr (hlocks _) m
  unfold State.Cleared
  rwa [hbox]

theorem State.jobResetMail_leaves (s : State) : State.Keeps [.UNIT_READY, .JOB_RESETS, .ARM_SEQ] [.su, .flt] s s.jobResetMail := by
  apply State.jobResetMail_frame (h := Fr.refl s) <;> decide

/-! ### The job reset (R509) -/

/-- The record of the start-up once a job reset has halted the block. -/
def State.haltedBy (s : State) : State := { s with su := { s.su with halted := true, rearm := false, repeats := 0 } }

theorem State.jobHalt_eq (s : State) : s.jobHalt = ((s.haltAll.inc .JOB_RESETS).jobResetMail.haltedBy).setStart .halted := rfl

theorem State.haltedBy_su (s : State) :
    (s.haltedBy.setStart .halted).su = { s.su with halted := true, rearm := false, repeats := 0 } := rfl

theorem State.haltedBy_line (s : State) : (s.haltedBy.setStart .halted).line = s.line := rfl

theorem State.haltedBy_rd (s : State) {o : Obj} (h : o ≠ .START_STATE) (e i : Nat) :
    (s.haltedBy.setStart .halted).rd o e i = s.rd o e i := State.rd_wr_other _ h _ _ _ _ _

theorem State.haltedBy_bx (s : State) (m : Nat) : (s.haltedBy.setStart .halted).bx m = s.bx m := rfl

theorem State.inc_line (s : State) (o : Obj) : (s.inc o).line = s.line := State.line_congr (State.inc_flt _ _ _ _)

theorem State.jobHalt_su (s : State) : s.jobHalt.su = { s.haltBits.su with halted := true, rearm := false, repeats := 0 } := by
  have hsu : (s.haltAll.inc .JOB_RESETS).jobResetMail.su = s.haltBits.su :=
    ((State.jobResetMail_leaves _).same .su (by decide)).trans ((State.inc_su _ _ _ _).trans s.haltAll_su)
  rw [State.jobHalt_eq, State.haltedBy_su, hsu]

theorem State.jobHalt_line (s : State) : s.jobHalt.line = (false, s.flt.frozen) := by
  rw [State.jobHalt_eq, State.haltedBy_line, (State.jobResetMail_leaves _).line, State.inc_line, s.haltAll_line]

/-- A job reset leaves what neither the halt nor the mailboxes' reset writes. -/
theorem State.jobHalt_rd (s : State) {o : Obj} (ho : o ∈ haltKept) (hcount : o ≠ .JOB_RESETS) (hstart : o ≠ .START_STATE)
    (hmail : o ∈ [Obj.UNIT_READY, .JOB_RESETS, .ARM_SEQ]) (e i : Nat) : s.jobHalt.rd o e i = s.haltBits.rd o e i := by
  rw [State.jobHalt_eq, State.haltedBy_rd _ hstart, (State.jobResetMail_leaves _).rd hmail, State.rd_inc_other _ hcount, s.haltAll_rd ho]

theorem State.jobHalt_effect (s : State) :
    s.jobHalt.isReady .ready = false ∧ s.jobHalt.startIs .halted = true ∧ s.Counted s.jobHalt .JOB_RESETS
      ∧ s.jobHalt.rd .ARM_SEQ = s.rd .ARM_SEQ := by
  refine ⟨?_, ?_, ?_, ?_⟩
  · rw [State.isReady_congr (s.jobHalt_rd (by decide) (by decide) (by decide) (by decide) _ _)]
    exact s.haltBits_notReady
  · rw [State.jobHalt_eq]
    exact State.startIs_setStart _ _
  · rw [State.Counted, State.jobHalt_eq, State.haltedBy_rd _ (by decide), (State.jobResetMail_leaves _).rd (by decide),
      State.rd_inc_self, s.haltAll_rd (by decide), s.haltBits_rd (by decide)]
  · rw [s.jobHalt_rd (by decide) (by decide) (by decide) (by decide), s.haltBits_rd (by decide)]

theorem State.jobHalt_cleared {s : State} {m : Nat} (h : m < s.rd .NUM_MAILBOXES) : s.jobHalt.Cleared m := by
  have hboxes : m < (s.haltAll.inc .JOB_RESETS).rd .NUM_MAILBOXES := by
    rwa [State.rd_inc_other _ (by decide), s.haltAll_rd (by decide), s.haltBits_rd (by decide)]
  rw [State.jobHalt_eq, State.Cleared, State.haltedBy_bx]
  exact State.jobResetMail_cleared hboxes

end Sys2Proof.Machine
end

section
/-! PROOF. An arm runs from its start to READY (R57, R93, R499, R507, R509, R510, R512, R517). -/

namespace Sys2Proof.Machine
open Sys2Proof

/-! ### The steps of the start-up arm (R499) -/

theorem oscStart_begins {s : State} (hrun : s.seqRuns = true) (hmay : s.mayArm = true) (harm : s.su.arming = false)
    (hdue : s.oscDue = true) : exec .oscStart s = .next (s.firstArm false) := by
  change execOscStart s = _
  unfold execOscStart
  rw [hrun, hmay, Bool.and_true, State.when_true, harm, Bool.false_and, Bool.false_and, if_neg (by decide), hdue,
    State.when_true]

/-- The isolation of a domain is released. -/
def State.openDomain (s : State) (d : Nat) : State := s.modD d fun x => { x with isoCore := false, isoRtr := false }

theorem isoRelease_opens {s : State} (htrim : s.trimmed = true) (hfirst : s.su.rearm = false) (hnot : s.isReady .aligned = false)
    (htime : 10000 ≤ s.up) : exec .isoRelease s = .next ((s.each s.domains State.openDomain).setReady .aligned true) := by
  change execIsoRelease s = _
  unfold execIsoRelease
  rw [htrim, hfirst, hnot, decide_eq_true htime]
  rfl

/-- The isolation of domain `d` is released. -/
def State.Opened (d : Nat) (s : State) : Prop := (s.d d).isoCore = false ∧ (s.d d).isoRtr = false

theorem State.openDomain_self (s : State) (d : Nat) : (s.openDomain d).Opened d := by
  unfold State.openDomain State.Opened
  rw [State.d_modD_self]
  exact ⟨rfl, rfl⟩

theorem State.openDomain_keep {s : State} {d : Nat} (k : Nat) (h : s.Opened d) : (s.openDomain k).Opened d := by
  obtain rfl | hne := eq_or_ne d k
  · exact s.openDomain_self d
  · unfold State.Opened State.openDomain
    rw [State.d_modD, if_neg hne]
    exact h

theorem State.opened_of_domain {s : State} {d : Nat} (h : d < s.rd .NUM_DOMAINS) : (s.each s.domains State.openDomain).Opened d :=
  State.each_establishes (List.mem_range.2 h) (fun t => t.openDomain_self d) (fun _ k ht => State.openDomain_keep k ht) s

theorem startRamp_begins {s : State} (harm : s.su.arming = true) (hrepeat : s.su.repeatDue = false) (hfirst : s.su.rearm = false)
    (hramp : s.su.ramping = false) (haligned : s.isReady .aligned = true) (hmail : s.isReady .mailbox = true)
    (hcalm : s.flt.lineAt = none) : exec .startRamp s = .next s.startRamp := by
  change execStartRamp s = _
  unfold execStartRamp State.calm
  rw [harm, hrepeat, hfirst, hramp, haligned, hmail, hcalm]
  rfl

/-- A ramp is shown, and its retargets leave that. -/
theorem State.startRamp_effect (s : State) :
    s.startRamp.su.ramping = true ∧ s.startRamp.startIs .ramping = true ∧ ∀ r, s.startRamp.isReady r = s.isReady r := by
  have hramp : ∀ t : State, State.Keeps [.START_STATE, .UNIT_READY] [.su] t t.retargetAll := fun t => by
    apply State.retargetAll_frame (h := Fr.refl t) <;> decide
  unfold State.startRamp
  refine ⟨congrArg StartUp.ramping ((hramp _).same .su (by decide) :), ?_, fun r => ?_⟩
  · exact (State.startIs_congr ((hramp _).rd (by decide) _ _) _).trans (State.startIs_setStart _ _)
  · exact State.isReady_congr (((hramp _).rd (by decide) _ _).trans (State.rd_wr_other _ (by decide) _ _ _ _ _)) r

/-! ### READY (R499, R517) -/

theorem blockReady_enters {s : State} (hramp : s.rampEnded = true) (hfirst : s.su.rearm = false) (htime : 25000 ≤ s.up) :
    exec .blockReady s = .next s.enterReady := by
  change execBlockReady s = _
  unfold execBlockReady
  rw [hramp, hfirst, decide_eq_true htime]
  rfl

theorem State.enterReady_high {s : State} (h : s.su.jobRstN = true) : s.enterReady = s.becomeReady := by
  unfold State.enterReady
  dsimp only
  rw [s.becomeReady_su]
  dsimp only
  rw [h]
  rfl

theorem State.enterReady_low {s : State} (h : s.su.jobRstN = false) : s.enterReady = s.becomeReady.jobHalt := by
  unfold State.enterReady
  dsimp only
  rw [s.becomeReady_su]
  dsimp only
  rw [h]
  rfl

theorem State.frozen_of_line {s : State} (h : s.line = (false, false)) : s.frozen = false := by
  have hline : s.flt.line = false := congrArg Prod.fst h
  have hfrozen : s.flt.frozen = false := congrArg Prod.snd h
  rw [State.frozen, hline, hfrozen]
  rfl

/-! ### JOB_RST_N (R509, R510) -/

theorem jobResetHalt_falls {s : State} (h : s.su.jobRstN = true) :
    exec .jobResetHalt s = .next ((s.withSu { s.su with jobRstN := false }).when s.su.everReady State.jobHalt) := by
  change execJobResetHalt s = _
  unfold execJobResetHalt
  rw [h]
  rfl

/-- JOB_RST_N is seen high. -/
def State.jobHigh (s : State) : State := s.withSu { s.su with jobRstN := true }

theorem warmRearm_begins {s : State} (hhalted : s.startIs .halted = true) (harm : s.su.arming = false) (hmay : s.mayArm = true) :
    exec .warmRearm s = .next (s.jobHigh.firstArm true) := by
  have hcond : (s.jobHigh.startIs .halted && !s.jobHigh.su.arming) = true := by
    rw [Bool.and_eq_true_iff]
    exact ⟨hhalted, congrArg (!·) harm⟩
  have hmay' : s.jobHigh.mayArm = true := hmay
  change Host.Outcome.next s.jobHigh.rearmStep = _
  unfold State.rearmStep
  rw [if_pos hcond, hmay', State.when_true]

/-- A re-arm in progress takes the step after its first. -/
theorem State.rearmStep_arming {s : State} (harm : s.su.arming = true) (hre : s.su.rearm = true) (hrepeat : s.su.repeatDue = false) :
    s.rearmStep = if s.su.ramping then s.when s.rampEnded State.enterReady
      else s.when (s.trimmed && s.calm) fun t => (t.setReady .aligned true).startRamp := by
  unfold State.rearmStep
  rw [harm, hre, hrepeat, Bool.not_true, Bool.and_false, if_neg (by decide), if_neg (by decide), if_neg (by decide)]

theorem warmRearm_aligns {s : State} (harm : s.su.arming = true) (hre : s.su.rearm = true) (hramp : s.su.ramping = false)
    (htrim : s.trimmed = true) (hcalm : s.flt.lineAt = none) :
    exec .warmRearm s = .next (s.jobHigh.setReady .aligned true).startRamp := by
  have hrepeat : s.su.repeatDue = false := by
    unfold State.trimmed at htrim
    simp only [Bool.and_eq_true, Bool.not_eq_true'] at htrim
    exact htrim.1.1.2
  have htrim' : s.jobHigh.trimmed = true := htrim
  have hcalm' : s.jobHigh.calm = true := Option.isNone_iff_eq_none.2 hcalm
  have hramp' : s.jobHigh.su.ramping = false := hramp
  change Host.Outcome.next s.jobHigh.rearmStep = _
  rw [State.rearmStep_arming (s := s.jobHigh) harm hre hrepeat, hramp', if_neg (by decide), htrim', hcalm']
  rfl

theorem warmRearm_enters {s : State} (hre : s.su.rearm = true) (hrepeat : s.su.repeatDue = false) (hended : s.rampEnded = true) :
    exec .warmRearm s = .next s.jobHigh.becomeReady := by
  have hparts := hended
  unfold State.rampEnded at hparts
  simp only [Bool.and_eq_true] at hparts
  obtain ⟨⟨⟨harm, hramp⟩, -⟩, -⟩ := hparts
  have hended' : s.jobHigh.rampEnded = true := hended
  have hramp' : s.jobHigh.su.ramping = true := hramp
  change Host.Outcome.next s.jobHigh.rearmStep = _
  rw [State.rearmStep_arming (s := s.jobHigh) harm hre hrepeat, hramp', if_pos rfl, hended', State.when_true,
    State.enterReady_high rfl]

/-- Settles O56: what each step sets last stands, and what it does before keeps the record of the start-up. -/
theorem armsRunFromStartToReady : Obligations.ArmsRunFromStartToReady := by
  refine ⟨?_, ?_, ?_, ?_, ?_, ?_, ?_, ?_⟩
  · intro s hrun hmay harm hdue
    obtain ⟨trimTime, hsu, hstart, hgroups⟩ := s.firstArm_effect false
    refine ⟨_, oscStart_begins hrun hmay harm hdue, ?_, hstart, ?_, ?_, hgroups⟩ <;> rw [hsu] <;> rfl
  · intro s htrim hfirst hnot htime
    refine ⟨_, isoRelease_opens htrim hfirst hnot htime, State.isReady_setReady_self _ _ _, fun d hd => ?_⟩
    exact State.opened_of_domain hd
  · intro s harm hrepeat hfirst hramp haligned hmail hcalm
    obtain ⟨hramping, hstart, -⟩ := s.startRamp_effect
    exact ⟨_, startRamp_begins harm hrepeat hfirst hramp haligned hmail hcalm, hramping, hstart⟩
  · intro s hramp hfirst htime
    obtain ⟨hready, hstart, hseq, hresets, hlatch⟩ := s.becomeReady_effect
    refine ⟨_, blockReady_enters hramp hfirst htime, ?_⟩
    cases hjob : s.su.jobRstN
    · rw [State.enterReady_low hjob]
      obtain ⟨hnot, hhalted, hcount, hkept⟩ := s.becomeReady.jobHalt_effect
      have hfrozen : s.becomeReady.jobHalt.line = (false, false) :=
        s.becomeReady.jobHalt_line.trans (congrArg (false, ·) (congrArg Prod.snd s.becomeReady_line))
      refine ⟨?_, State.frozen_of_line hfrozen, hkept.trans hseq, nofun, fun _ => ⟨hnot, hhalted, ?_⟩⟩
      · rw [State.jobHalt_su]
        exact congrArg StartUp.everReady s.becomeReady_su
      · rw [State.Counted, hcount, hresets]
    · rw [State.enterReady_high hjob]
      refine ⟨?_, State.frozen_of_line s.becomeReady_line, hseq, fun _ => ⟨hready, hstart, hlatch⟩, nofun⟩
      rw [s.becomeReady_su]
  · intro s hjob
    refine ⟨_, jobResetHalt_falls hjob, ?_⟩
    cases hever : s.su.everReady
    · exact ⟨rfl, nofun, fun _ => rfl⟩
    · obtain ⟨hready, hstart, hcount, -⟩ := (s.withSu { s.su with jobRstN := false }).jobHalt_effect
      rw [State.when_true, State.jobHalt_su]
      exact ⟨rfl, fun _ => ⟨hready, hstart, rfl, hcount, fun _ hm => State.jobHalt_cleared hm⟩, nofun⟩
  · intro s hhalted harm hmay
    obtain ⟨trimTime, hsu, hstart, hgroups⟩ := s.jobHigh.firstArm_effect true
    refine ⟨_, warmRearm_begins hhalted harm hmay, ?_, ?_, ?_, hstart, fun g hg => (hgroups g hg).1⟩ <;> rw [hsu] <;> rfl
  · intro s harm hre hramp htrim hcalm
    obtain ⟨hramping, hstart, haligned⟩ := (s.jobHigh.setReady .aligned true).startRamp_effect
    exact ⟨_, warmRearm_aligns harm hre hramp htrim hcalm, (haligned _).trans (State.isReady_setReady_self _ _ _), hramping, hstart⟩
  · intro s hre hrepeat hended
    obtain ⟨hready, hstart, -, -, -⟩ := s.jobHigh.becomeReady_effect
    refine ⟨_, warmRearm_enters hre hrepeat hended, hready, hstart, State.frozen_of_line s.jobHigh.becomeReady_line, ?_⟩
    rw [State.becomeReady_su]
    rfl

end Sys2Proof.Machine
end

section
/-! PROOF. The headroom report of a region whose reports the spine holds (R34, R87). -/

namespace Sys2Proof.Machine
open Sys2Proof

/-- Throughout a short stop of CTL no headroom report leaves its agent (R34). -/
theorem headroomReport_held {n : Nat} {s : State} (hstop : s.refs.shortStop = true) :
    exec (.headroomReport n) s = .next s := by
  change execHeadroomReport n s = _
  unfold execHeadroomReport
  rw [hstop, Bool.not_true, Bool.and_false, State.when_false]

/-- A build of one region. -/
def loneRegion : Build where
  vals := Tab.set (Tab.set [] (objKey .NUM_REGIONS 0 0) 1 0) (objKey .REGION_PRESENT 0 0) 1 0

/-- Its region is clocked and has summed one ceiling frequency in the tick while CTL stands still. -/
def heldReport : State :=
  ((({ State.zero loneRegion with refs := { shortStop := true } } : State).setOsc 0 .running true).modR 0 fun r =>
    { r with ceilSum := 2000000000, ceilCount := 1 })

/-- Refutes O10 by its last clause, which does not exclude a short stop of CTL: in one the spine holds the report (R34), and the
sums of the tick stand. -/
theorem not_oscillatorGatesAndCodes : ¬ Obligations.OscillatorGatesAndCodes := by
  unfold Obligations.OscillatorGatesAndCodes
  rintro ⟨-, -, -, hreport⟩
  obtain ⟨t, ht, hcleared, -⟩ := hreport 0 heldReport (by decide +kernel) (by decide +kernel)
  have hsame : heldReport = t := Host.Outcome.next.inj ((headroomReport_held rfl).symm.trans ht)
  have hsum : (heldReport.r 0).ceilCount = 1 := by decide +kernel
  rw [← hsame, hsum] at hcleared
  cases hcleared

end Sys2Proof.Machine
end

section
/-! PROOF. Episodes, aging samples, start failures and the release of a held count (R77, R88, R89, R91, R93, R95). -/

namespace Sys2Proof.Machine
open Sys2Proof

/-! ### Unlock and ceiling episodes (R77) -/

/-- The unlock episode of region `n` is counted. -/
def State.countUnlock (s : State) (n : Nat) : State :=
  (s.inc .OSC_UNLOCKS n).modR n fun r => { r with unlockCounted := true }

theorem oscUnlock_due {n at0 : Nat} {s : State} (hout : (s.r n).unlockAt = some at0) (hrun : s.inRunningGroup n = true)
    (hdue : at0 + 100 ≤ s.up) :
    exec (.oscUnlock n) s = .next (s.when (!(s.r n).unlockCounted) fun t => t.countUnlock n) := by
  change execOscUnlock n s = _
  unfold execOscUnlock
  rw [hout]
  dsimp only
  rw [hrun, decide_eq_true hdue, Bool.true_and, Bool.and_true]
  rfl

theorem State.countUnlock_effect (s : State) (n : Nat) :
    (s.countUnlock n).rd .OSC_UNLOCKS n = satAdd 32 (s.rd .OSC_UNLOCKS n) 1 ∧ ((s.countUnlock n).r n).unlockCounted = true :=
  ⟨State.rd_inc_self _ _ _ _, congrArg Rgn.unlockCounted (State.r_modR_self _ n fun r => { r with unlockCounted := true } :)⟩

/-- The ceiling episode of region `n` is logged. -/
def State.logCeiling (s : State) (n : Nat) : State :=
  (s.event 0x14 n (ofInt 32 (s.rdInt .OSC_HEADROOM n))).modR n fun r => { r with ceilLogged := true }

theorem oscCeiling_due {n at0 : Nat} {s : State} (hsince : (s.r n).ceilAt = some at0) (hceil : s.osc n .ceiling = true)
    (hnew : (s.r n).ceilLogged = false) (hdue : at0 + 10000 ≤ s.up) : exec (.oscCeiling n) s = .next (s.logCeiling n) := by
  change execOscCeiling n s = _
  unfold execOscCeiling
  rw [hsince]
  dsimp only
  rw [hceil, hnew, decide_eq_true hdue]
  rfl

theorem State.logCeiling_effect (s : State) (n : Nat) :
    s.Logged (s.logCeiling n) 0x14 n (ofInt 32 (s.rdInt .OSC_HEADROOM n)) false ∧ ((s.logCeiling n).r n).ceilLogged = true :=
  ⟨(s.event_logged _ _ _ _).trans fun _ _ _ _ => State.rd_modR _ _ _ _ _ _,
    congrArg Rgn.ceilLogged (State.r_modR_self _ n fun r => { r with ceilLogged := true } :)⟩

/-! ### Aging (R88 to R91) -/

theorem le_satAdd {w a : Nat} (n : Nat) (h : a < 2 ^ w) : a ≤ satAdd w a n := by
  unfold satAdd
  split <;> omega

/-- Bringing the powered hours up to date takes none away. -/
theorem State.le_rd_countHours {s : State} {n : Nat} (h : s.rd .AGE_POWERED_H n < 2 ^ 32) :
    s.rd .AGE_POWERED_H n ≤ (s.countHours n).rd .AGE_POWERED_H n := by
  have hread : ∃ k, (s.countHours n).rd .AGE_POWERED_H n = satAdd 32 (s.rd .AGE_POWERED_H n) k :=
    ⟨_, (State.rd_wr_self _ _ _ _ _).trans (Nat.mod_eq_of_lt (satAdd_lt _ _ _))⟩
  obtain ⟨k, hk⟩ := hread
  exact hk ▸ le_satAdd k h

theorem ageDue_due {n : Nat} {s : State} (hn : s.present n = true)
    (hhours : s.rd .AGE_SAMPLE_H n + 24 * s.rd .AGE_INTERVAL ≤ s.rd .AGE_POWERED_H n) (hfits : s.rd .AGE_POWERED_H n < 2 ^ 32) :
    exec (.ageDue n) s = .next ((s.countHours n).setOsc n .ageDue true) := by
  have hkept : ∀ o, o ≠ .AGE_POWERED_H → ∀ e, (s.countHours n).rd o e = s.rd o e := fun o ho e =>
    (State.countHours_frame (W := (· = .AGE_POWERED_H)) (Q := (· = .rgn)) rfl rfl (Fr.refl s)).obj o e 0 ho
  have hdue : (s.countHours n).rd .AGE_SAMPLE_H n + 24 * (s.countHours n).rd .AGE_INTERVAL
      ≤ (s.countHours n).rd .AGE_POWERED_H n := by
    rw [hkept _ (by decide), hkept _ (by decide)]
    exact hhours.trans (State.le_rd_countHours hfits)
  change execAgeDue n s = _
  unfold execAgeDue
  dsimp only
  rw [hn, State.when_true, decide_eq_true hdue, State.when_true]

/-- The results of a sample go to the flash at once (R89). -/
def State.saveSample (s : State) (n : Nat) : State :=
  s.each [Obj.AGE_RATIO_LAST, .AGE_DEGRADE_LAST, .AGE_DEGRADE_PREV, .AGE_GUARD, .AGE_SAMPLE_H] fun u o => u.dirtyNow o n

/-- The last region's sample ends the request. -/
def State.closeRequest (s : State) : State :=
  s.when (s.regions.all fun m => !(s.r m).ageSampling) fun u => u.wr .AGE_SAMPLE_REQ 0

theorem ageSampleDone_ends {n ratio : Nat} {s : State} (h : (s.r n).ageSampling = true) :
    exec (.ageSampleDone n ratio) s = .next ((s.ageSampled n ratio).saveSample n).closeRequest := by
  change execAgeSampleDone n ratio s = _
  unfold execAgeSampleDone
  rw [h, State.when_true]
  generalize s.ageSampled n ratio = t
  rfl

/-- Beside the sample, its end marks objects dirty and may end the request. -/
theorem State.closeSample_fr (s : State) (n : Nat) :
    Fr (· = .AGE_SAMPLE_REQ) (· = .dict) s (s.saveSample n).closeRequest :=
  State.when_kept (State.each_kept (Fr.refl s) fun _ _ h => State.dirtyNow_frame rfl h) fun _ h => State.wr_frame rfl h

/-- The results of a sample that measured `ratio`: its degradation, the one before it, the guard band and the hours. -/
def State.writeSample (s : State) (n ratio d prev guard hours : Nat) : State :=
  ((((s.wr .AGE_DEGRADE_PREV prev n).wr .AGE_DEGRADE_LAST d n).wr .AGE_RATIO_LAST ratio n).wr .AGE_GUARD guard n).wr .AGE_SAMPLE_H
    hours n

theorem State.writeSample_effect (s : State) (n ratio d prev guard hours : Nat) :
    (s.writeSample n ratio d prev guard hours).rd .AGE_DEGRADE_PREV n = prev % 2 ^ 32
      ∧ (s.writeSample n ratio d prev guard hours).rd .AGE_RATIO_LAST n = ratio % 2 ^ objBits .AGE_RATIO_LAST := by
  unfold State.writeSample
  constructor
  · rw [State.rd_wr_other _ (by decide), State.rd_wr_other _ (by decide), State.rd_wr_other _ (by decide),
      State.rd_wr_other _ (by decide), State.rd_wr_self]
    rfl
  · rw [State.rd_wr_other _ (by decide), State.rd_wr_other _ (by decide), State.rd_wr_self]

/-- The sample of region `n` is over. -/
def State.endSample (s : State) (n : Nat) : State :=
  (s.setOsc n .ageDue false).modR n fun r => { r with ageSampling := false }

theorem State.endSample_effect (s : State) (n : Nat) :
    ((s.endSample n).r n).ageSampling = false ∧ (s.endSample n).osc n .ageDue = false
      ∧ ∀ o, o ≠ .OSC_STATUS → (s.endSample n).rd o n = s.rd o n :=
  ⟨congrArg Rgn.ageSampling (State.r_modR_self _ n fun r => { r with ageSampling := false } :),
    State.osc_setOsc_self _ _ _ _, fun _ ho => State.rd_setFlag_other s ho _ _ _⟩

theorem State.ageSampled_eq (s : State) (n ratio : Nat) : ∃ d guard hours,
    s.ageSampled n ratio
      = ((s.countHours n).writeSample n ratio d (s.rd .AGE_DEGRADE_LAST n) guard hours).endSample n :=
  ⟨_, _, _, rfl⟩

theorem State.ageSampled_effect (s : State) (n ratio : Nat) :
    ((s.ageSampled n ratio).r n).ageSampling = false ∧ (s.ageSampled n ratio).osc n .ageDue = false
      ∧ (s.ageSampled n ratio).rd .AGE_DEGRADE_PREV n = s.rd .AGE_DEGRADE_LAST n % 2 ^ 32
      ∧ (s.ageSampled n ratio).rd .AGE_RATIO_LAST n = ratio % 2 ^ objBits .AGE_RATIO_LAST := by
  obtain ⟨d, guard, hours, heq⟩ := s.ageSampled_eq n ratio
  obtain ⟨hprev, hratio⟩ := (s.countHours n).writeSample_effect n ratio d (s.rd .AGE_DEGRADE_LAST n) guard hours
  obtain ⟨hended, hdue, hkept⟩ :=
    ((s.countHours n).writeSample n ratio d (s.rd .AGE_DEGRADE_LAST n) guard hours).endSample_effect n
  rw [heq]
  exact ⟨hended, hdue, (hkept _ (by decide)).trans hprev, (hkept _ (by decide)).trans hratio⟩

/-! ### Start (R93, R95) -/

theorem startFail_due {n at0 : Nat} {s : State} (hstart : (s.r n).startAt = some at0) (hn : s.present n = true)
    (hclk : s.clocked n = true) (hlock : s.osc n .locked = false) (hhold : s.osc n .hold = false)
    (hnew : s.osc n .startFail = false) (hdue : at0 + 200 ≤ s.up) :
    exec (.startFail n) s = .next ((s.setOsc n .startFail true).raiseFault .startFail 0 n 0) := by
  change execStartFail n s = _
  unfold execStartFail
  rw [hstart]
  dsimp only
  rw [hn, hclk, hlock, hhold, hnew, decide_eq_true hdue]
  rfl

/-- A region whose count is released joins its crossings where it is detached; else its estimator starts anew the count of
substituted windows (R236). -/
def State.joinReleased (s : State) (n : Nat) (detached : Bool) : State :=
  if detached then s.joinCells n else s.modE n fun x => { x with substituted := 0 }

/-- The last release of an arm sets OSC in UNIT_READY. -/
def State.noteReleased (s : State) : State :=
  s.when (s.su.markLaunched && s.liveRegions.all fun m => !s.clocked m || s.osc m .counting) fun v => v.setReady .osc true

theorem countRelease_releases {n : Nat} {s : State} (hclk : s.clocked n = true) (hheld : s.osc n .counting = false)
    (hmark : (s.r n).markSeen = true) :
    exec (.countRelease n) s = .next ((s.releaseCount n).joinReleased n (s.on .REGION_DETACHED n)).noteReleased := by
  change execCountRelease n s = _
  unfold execCountRelease
  rw [hclk, hheld, hmark]
  rfl

/-- What follows a release reaches the crossings, the estimator and the readiness alone. -/
theorem State.afterRelease_fr (s : State) (n : Nat) (detached : Bool) :
    Fr (· = .UNIT_READY) (· ∈ [.cell, .est]) s (s.joinReleased n detached).noteReleased := by
  have hjoin : Fr (· = .UNIT_READY) (· ∈ [.cell, .est]) s (s.joinReleased n detached) := by
    unfold State.joinReleased
    split
    · exact State.joinCells_frame (by decide) (Fr.refl s)
    · exact State.modE_frame (by decide) (Fr.refl s)
  exact State.when_kept hjoin fun _ h => State.setReady_frame rfl h

theorem State.releaseCount_effect (s : State) (n : Nat) :
    (s.releaseCount n).osc n .counting = true ∧ (s.releaseCount n).rd .REGION_COUNT n = 0
      ∧ ((s.releaseCount n).r n).markSeen = false := by
  unfold State.releaseCount
  generalize hheld : s.setOsc n .counting true = t
  have hcounting : t.osc n .counting = true := hheld ▸ State.osc_setOsc_self _ _ _ _
  have hread : ∀ o, ((t.wr .REGION_COUNT 0 n).modR n fun r => { r with markSeen := false }).rd o n
      = (t.wr .REGION_COUNT 0 n).rd o n := fun _ => State.rd_modR _ _ _ _ _ _
  refine ⟨?_, (hread _).trans ((State.rd_wr_self _ _ _ _ _).trans (Nat.zero_mod _)), by rw [State.r_modR_self]⟩
  exact (State.osc_congr ((hread _).trans (State.rd_wr_other _ (by decide) _ _ _ _ _)) _).trans hcounting

/-- Settles O11: each command whose condition is met does its one operation, and what comes after that leaves what it set. -/
theorem oscillatorEpisodes : Obligations.OscillatorEpisodes := by
  unfold Obligations.OscillatorEpisodes
  refine ⟨?_, ?_, ?_, ?_, ?_, ?_⟩
  · intro n at0 s hout hrun hdue
    refine ⟨_, oscUnlock_due hout hrun hdue, fun hnew => ?_, fun hcounted => ?_⟩
    · rw [hnew]
      exact s.countUnlock_effect n
    · rw [hcounted]
      rfl
  · intro n at0 s hsince hceil hnew hdue
    exact ⟨_, oscCeiling_due hsince hceil hnew hdue, s.logCeiling_effect n⟩
  · intro n s hn hhours hfits
    exact ⟨_, ageDue_due hn hhours hfits, State.osc_setOsc_self _ _ _ _⟩
  · intro n ratio s hsampling
    obtain ⟨hended, hdue, hprev, hratio⟩ := s.ageSampled_effect n ratio
    have hfr := (s.ageSampled n ratio).closeSample_fr n
    refine ⟨_, ageSampleDone_ends hsampling, ?_, ?_, ?_, ?_⟩
    · exact (congrArg Rgn.ageSampling (State.r_congr (hfr.part .rgn (by decide)) n)).trans hended
    · exact (State.osc_congr (hfr.obj _ _ _ (by decide)) _).trans hdue
    · exact (hfr.obj _ _ _ (by decide)).trans hprev
    · exact (hfr.obj _ _ _ (by decide)).trans hratio
  · intro n at0 s hstart hn hclk hlock hhold hnew hdue
    refine ⟨_, startFail_due hstart hn hclk hlock hhold hnew hdue, ?_, State.raiseFault_faulted _ _ _ _ rfl rfl⟩
    exact (State.osc_congr (State.raiseFault_rd _ _ _ _ _ _ _ _ _) _).trans (State.osc_setOsc_self _ _ _ _)
  · intro n s hclk hheld hmark
    obtain ⟨hcounting, hzero, hseen⟩ := s.releaseCount_effect n
    have hfr := (s.releaseCount n).afterRelease_fr n (s.on .REGION_DETACHED n)
    refine ⟨_, countRelease_releases hclk hheld hmark, ?_, ?_, ?_⟩
    · exact (State.osc_congr (hfr.obj _ _ _ (by decide)) _).trans hcounting
    · exact (hfr.obj _ _ _ (by decide)).trans hzero
    · exact (congrArg Rgn.markSeen (State.r_congr (hfr.part .rgn (by decide)) n)).trans hseen

end Sys2Proof.Machine
end

section
/-! SUPPORT. Writes of the rows of regions that pass their checks (R14, R446): where they are carried out, and what they leave
beside their effect. -/

namespace Sys2Proof.Machine
open Sys2Proof

/-- The objects of the regions' functions whose rows are writes. -/
def regionWrites : List Obj :=
  [.DS_QUARANTINE, .DS_ENABLE, .XING_FENCE, .AGE_SAMPLE_REQ, .CAL_RESET_REQ, .EST_WEIGHT_FACTORY, .EST_SHIFT]

section
variable {s t : State} (h : Fr (· = .HP_REQUESTS) (fun _ => False) s t)
include h

theorem State.lifecycleOk_of_fr (o : Obj) (v : Nat) : t.lifecycleOk o v = s.lifecycleOk o v := by
  have hfon : t.fon = s.fon := h.part .fon id
  simp [State.lifecycleOk, State.on, h.obj, hfon]

theorem State.boundsOk_region_of_fr {o : Obj} (ho : o ∈ regionWrites) (e i v : Nat) (net : Bool) :
    t.boundsOk o e i v net = s.boundsOk o e i v net := by
  simp only [regionWrites, List.mem_cons, List.not_mem_nil, or_false] at ho
  rcases ho with rfl | rfl | rfl | rfl | rfl | rfl | rfl
  · simp [State.boundsOk, h.obj]
  · simp [State.boundsOk, State.sensorsOk, h.obj]
  all_goals rfl

/-- What passes its checks in one of the two states passes them in the other. -/
theorem State.passes_region_of_fr {a : Access} {o : Obj} {i : Nat} (ho : o ∈ regionWrites) (hp : s.Passes a o i) :
    t.Passes a o i := by
  obtain ⟨hobj, -, hcheck, hremote, hflips⟩ := hp
  have hnot : o ≠ .LC_REQUEST := by
    rintro rfl
    exact absurd ho (by decide)
  have hinj : t.inj = s.inj := h.part .inj id
  have hbusy : t.busyOf o a.el a.val = false := by
    simp only [regionWrites, List.mem_cons, List.not_mem_nil, or_false] at ho
    rcases ho with rfl | rfl | rfl | rfl | rfl | rfl | rfl <;> rfl
  have hsame : t.checkWrite a o i = s.checkWrite a o i := by
    simp [State.checkWrite, State.rangeOk, State.objReady_of_fr h, State.elemExists_of_fr h, State.rightsOf_of_fr h,
      State.hasRight_of_fr h, State.needsUnlock_of_fr h, State.lifecycleOk_of_fr h, State.boundsOk_region_of_fr h ho,
      State.poweredOk_of_fr h, State.missing, State.internalErr, hnot]
  exact ⟨hobj, hbusy, hsame.trans hcheck, (congrArg (·.remote.contains o.ctorIdx) h.build).trans hremote, hinj ▸ hflips⟩

theorem State.regions_of_fr : t.regions = s.regions := by
  rw [State.regions, State.regions, State.present_of_fr h, State.numRegions, h.obj _ _ _ (by decide)]
  rfl

theorem State.ageable_of_fr : t.ageable = s.ageable := by
  have hosc : ∀ n b, t.osc n b = s.osc n b := fun n b => State.osc_congr (h.obj _ _ _ (by decide)) b
  have hclk : ∀ n, t.clocked n = s.clocked n := fun n => hosc n _
  have hrun : ∀ n, t.inRunningGroup n = s.inRunningGroup n := fun n => by
    rw [State.inRunningGroup, State.inRunningGroup, hclk, State.isReady_congr (h.obj _ _ _ (by decide)),
      State.on_of_fr h (by decide), State.groupOf_of_fr h]
  simp only [State.ageable, State.regions_of_fr h, hosc, hclk, hrun]

end

/-- The port hands a write of a row to the Dictionary Engine, on the state on which it is carried out. -/
theorem State.submit1_decides {s : State} {o : Obj} {w : Wr} (h : s.Admits w.src) (hflips : s.inj.flips = []) :
    s.submit1 o w = (s.writeBase w.src).decideWrite (writeOf o 0 w) := by
  unfold State.submit1 State.submitWrite State.writeBase
  by_cases hsrc : w.src = .host
  · obtain ⟨htakes, hctl⟩ := h hsrc
    have htaken : s.hostTaken = s.inc .HP_REQUESTS := State.shiftWords_no_flips (s := s.inc .HP_REQUESTS) hflips
    have hctl' : (s.inc .HP_REQUESTS).isReady .ctl = true := htaken ▸ (s.hostTaken_isReady .ctl).trans hctl
    refine (if_pos hsrc).trans ((State.hostIn_served htakes).trans ?_)
    rw [if_pos hsrc, htaken]
    exact (if_pos hctl').trans (if_pos rfl)
  · rw [if_neg hsrc]
    exact if_neg hsrc

/-- An accepted write of such an object's row is answered OK and counted; beside that, its effect `u` on the state of its port
stands. -/
theorem State.submit1_region {s u : State} {o : Obj} {w : Wr} (ho : o ∈ regionWrites) (h : s.Accepts o 0 w)
    (heff : (s.writeBase w.src).effect o w.el 0 (w.val % 2 ^ objBits o) = u)
    (hkeeps : State.Keeps [.AUDIT_OK] [] (s.writeBase w.src) u) :
    s.WroteOk (s.submit1 o w) w ∧ Fr (· ∈ answerObjs) (· ∈ answerParts) u (s.submit1 o w) := by
  obtain ⟨hadmits, hpasses⟩ := h
  obtain ⟨-, -, -, -, hflips⟩ := id hpasses
  have hbase := s.writeBase_fr w.src
  have hpasses' := State.passes_region_of_fr hbase ho hpasses
  obtain ⟨t, ht, hstatus, hcount, hfr⟩ :=
    State.finishWrite_row (s := s.writeBase w.src) (a := writeOf o 0 w) (o := o) (i := 0) rfl
  have hdone : s.submit1 o w = t :=
    (State.submit1_decides hadmits hflips).trans ((State.decideWrite_carried hpasses').trans ht)
  have hclass : (s.writeBase w.src).classOf (writeOf o 0 w).src = s.classOf w.src := State.classOf_of_fr hbase _
  have hfr' : Fr (· ∈ answerObjs) (· ∈ answerParts) u t := heff ▸ hfr
  rw [hclass] at hcount
  rw [hdone]
  refine ⟨⟨hstatus, hcount.trans (congrArg (satAdd _ · 1) ?_)⟩, hfr'⟩
  refine (congrArg (fun x : State => x.rd .AUDIT_OK 0 (s.classOf w.src)) heff).trans ?_
  exact (hkeeps.rd (by decide) _ _).trans (hbase.obj _ _ _ (by decide))

/-- A command object that reads 0 takes a 1 (R425). -/
theorem State.effect_command_idle {s : State} {o : Obj} {e i v : Nat} (ho : isCommand o = true)
    (hflush : (o == .PERSIST_FLUSH) = false) (hv : v = 1) (hidle : s.rd o e i = 0) :
    s.effect o e i v = s.command o e i := by
  rw [State.effect_command ho hflush, decide_eq_true ⟨hv, .inr hidle⟩, State.when_true]

end Sys2Proof.Machine
end

section
/-! PROOF. What accepted writes of the regions' functions do (R90, R112, R159, R239 to R242, R250). -/

namespace Sys2Proof.Machine
open Sys2Proof

/-! ### Droop sensors (R112) -/

theorem testBit_andNot (a b : Nat) {i : Nat} (h : i < 64) : (andNot a b).testBit i = (a.testBit i && !b.testBit i) := by
  have hones : (2 ^ 64 - 1).testBit i = true := by
    rw [Nat.testBit_two_pow_sub_one, decide_eq_true h]
  have hparts : andNot a b = a &&& ((b &&& (2 ^ 64 - 1)) ^^^ (2 ^ 64 - 1)) := rfl
  rw [hparts, Nat.testBit_and, Nat.testBit_xor, Nat.testBit_and, hones, Bool.and_true, Bool.xor_true]

theorem bit_andNot (a b : Nat) {i : Nat} (h : i < 64) : bit (andNot a b) i = (bit a i && !bit b i) := by
  rw [bit_eq_testBit, bit_eq_testBit, bit_eq_testBit, testBit_andNot _ _ h]

/-- The sensors of a mask leave quarantine, and no other does. -/
theorem State.unquarantine_rd (s : State) (n mask : Nat) :
    (s.unquarantine n mask).rd .DS_QUARANTINE n = andNot (s.rd .DS_QUARANTINE n) mask % 2 ^ objBits .DS_QUARANTINE := by
  have hshown : ∀ u : State, ∀ q : Nat,
      Fr (· = .DS_STATUS) (fun _ => True) u ((u.setDs n 3 (q != 0)).when (q == 0) fun t => t.setDs n 4 false) := fun u q =>
    State.when_kept (State.setDs_frame rfl (Fr.refl u)) fun _ h => State.setDs_frame rfl h
  exact ((hshown _ _).obj _ _ _ (by decide)).trans (State.rd_wr_self _ _ _ _ _)

/-- A sensor stays in quarantine where the value written keeps it there. -/
theorem State.storeQuarantine_flag (s : State) (n v : Nat) {i : Nat} (hi : i < 16) :
    (s.store .DS_QUARANTINE n 0 v).flag .DS_QUARANTINE i n = (s.flag .DS_QUARANTINE i n && bit v i) := by
  have hwide : i < objBits .DS_QUARANTINE := hi.trans (by decide)
  have hread : (s.store .DS_QUARANTINE n 0 v).rd .DS_QUARANTINE n = _ :=
    s.unquarantine_rd n (andNot (s.rd .DS_QUARANTINE n) v)
  rw [State.flag, hread, bit_mod hwide, bit_andNot _ _ (by omega), bit_andNot _ _ (by omega), State.flag]
  cases bit (s.rd .DS_QUARANTINE n) i <;> simp

/-- DS_ENABLE takes the bits of implemented sensors. -/
theorem State.storeEnable_rd (s : State) (n v : Nat) :
    (s.store .DS_ENABLE n 0 (v % 2 ^ objBits .DS_ENABLE)).rd .DS_ENABLE n
      = v % 2 ^ objBits .DS_ENABLE % 2 ^ s.rd .DS_COUNT n :=
  (State.rd_wr_self _ _ _ _ _).trans (Nat.mod_eq_of_lt ((Nat.mod_le _ _).trans_lt (Nat.mod_lt _ (Nat.two_pow_pos _))))

/-! ### Fences (R159) -/

theorem State.applyFence_rd (s : State) (n old new : Nat) :
    (s.applyFence n old new).rd .XING_FENCE n = new % 2 ^ objBits .XING_FENCE := by
  have hedges : ∀ u : State, ∀ f : State → Nat → State, (∀ t e, (f t e).rd .XING_FENCE n = t.rd .XING_FENCE n) →
      (u.each edges f).rd .XING_FENCE n = u.rd .XING_FENCE n := fun u f hf => State.each_same (·.rd .XING_FENCE n) f hf _ u
  refine (hedges _ _ fun t e => ?_).trans (State.rd_wr_self _ _ _ _ _)
  split
  · rfl
  · refine State.each_same (·.rd .XING_FENCE n) _ (fun u x => ?_) _ _
    split <;> rfl

/-! ### Aging samples (R90) -/

/-- A request without a region to sample ends at once (log 40). -/
theorem State.askAging_none {s : State} (h : s.ageable = []) : s.askAging = s := by
  rw [State.askAging, h]
  rfl

/-- A request samples the regions that are due. -/
theorem State.askAging_some {s : State} (h : s.ageable ≠ []) :
    s.askAging.rd .AGE_SAMPLE_REQ = 1 ∧ ∀ n ∈ s.ageable, (s.askAging.r n).ageSampling = true := by
  rw [State.askAging, bne_iff_ne.2 h, State.when_true]
  refine ⟨State.rd_wr_self _ _ _ _ _, fun n hn => ?_⟩
  refine State.each_establishes (P := fun t => (t.r n).ageSampling = true) hn (fun t => ?_) (fun t m ht => ?_) s
  · rw [State.r_modR_self]
  · rw [State.r_modR]
    split
    · rfl
    · exact ht

/-! ### Weights (R239 to R242, R250) -/

/-- The new weights of a region are those of the factory. -/
theorem State.newWeights_rd (s : State) (n : Nat) :
    (s.newWeights n).rd .EST_WEIGHT n = s.rd .EST_WEIGHT_FACTORY n % 2 ^ objBits .EST_WEIGHT
      ∧ ∀ o, o ≠ .EST_WEIGHT → (s.newWeights n).rd o n = s.rd o n :=
  ⟨State.rd_wr_self s _ _ _ _, fun _ ho => State.rd_wr_other s ho _ _ _ _ _⟩

/-- A write of the factory weights makes them live. -/
theorem State.storeFactory_effect (s : State) (n v : Nat) :
    (s.store .EST_WEIGHT_FACTORY n 0 v).rd .EST_WEIGHT_FACTORY n = v % 2 ^ objBits .EST_WEIGHT_FACTORY
      ∧ (s.store .EST_WEIGHT_FACTORY n 0 v).rd .EST_WEIGHT n = v % 2 ^ objBits .EST_WEIGHT_FACTORY := by
  obtain ⟨hlive, hkept⟩ := (s.wr .EST_WEIGHT_FACTORY v n).newWeights_rd n
  have hbits : objBits .EST_WEIGHT = objBits .EST_WEIGHT_FACTORY := rfl
  rw [State.rd_wr_self, hbits, Nat.mod_mod] at hlive
  exact ⟨(hkept _ (by decide)).trans (State.rd_wr_self _ _ _ _ _), hlive⟩

/-- A write of the shift returns the live weights to factory. -/
theorem State.storeShift_effect (s : State) (n v : Nat) :
    (s.store .EST_SHIFT n 0 v).rd .EST_SHIFT n = v % 2 ^ objBits .EST_SHIFT
      ∧ (s.store .EST_SHIFT n 0 v).rd .EST_WEIGHT n = s.rd .EST_WEIGHT_FACTORY n % 2 ^ objBits .EST_WEIGHT := by
  obtain ⟨hlive, hkept⟩ := (s.wr .EST_SHIFT v n).newWeights_rd n
  rw [State.rd_wr_other _ (by decide)] at hlive
  exact ⟨(hkept _ (by decide)).trans (State.rd_wr_self _ _ _ _ _), hlive⟩

/-- What CAL_RESET_REQ in interval `k` does to region `n`. -/
def State.resetRegion (s : State) (k n : Nat) : State :=
  ((s.factoryWeights n).clearIdle n).modE n fun x => { x with signFloor := k }

theorem State.resetRegion_fr (s : State) (k n : Nat) : Fr (· = .EST_WEIGHT) (· ∈ [.est, .lane]) s (s.resetRegion k n) :=
  State.modE_frame (by decide) (State.clearIdle_frame (by decide) (State.factoryWeights_frame rfl (by decide) (Fr.refl s)))

/-- The live weights of a region return to factory, those of the others stay. -/
theorem State.resetRegion_weight (s : State) (k n m : Nat) :
    (s.resetRegion k n).rd .EST_WEIGHT m
      = if m = n then s.rd .EST_WEIGHT_FACTORY n % 2 ^ objBits .EST_WEIGHT else s.rd .EST_WEIGHT m := by
  have hkept : (s.resetRegion k n).rd .EST_WEIGHT m = (s.factoryWeights n).rd .EST_WEIGHT m :=
    (State.clearIdle_frame (W := fun _ => False) (Q := (· = .lane)) rfl (Fr.refl (s.factoryWeights n))).obj _ _ _ id
  refine hkept.trans ?_
  split
  · next hm =>
    subst hm
    exact State.rd_wr_self s _ _ _ _
  · next hm => exact State.rd_wr_elem s hm _ _ _

theorem State.ln_idle_modLn {s : State} {n i k j : Nat} (h : (s.ln n i).idle = 0) :
    ((s.modLn k j fun l => { l with idle := 0 }).ln n i).idle = 0 := by
  have hread : (s.modLn k j fun l => { l with idle := 0 }).ln n i
      = if 512 * n + i = 512 * k + j then { s.ln k j with idle := 0 } else s.ln n i := Tab.get_set _ _ _ _ _
  rw [hread]
  split
  · rfl
  · exact h

/-- The idle counters of a region's lanes clear, and none starts. -/
theorem State.resetRegion_idle (s : State) (k n m : Nat) {i : Nat} (h : (m = n ∧ i ∈ s.lanes n) ∨ (s.ln m i).idle = 0) :
    ((s.resetRegion k n).ln m i).idle = 0 := by
  have hkept : ∀ t : State, ∀ j, (t.ln m i).idle = 0 → ((t.modLn n j fun l => { l with idle := 0 }).ln m i).idle = 0 :=
    fun t j => State.ln_idle_modLn
  have hclear : (((s.factoryWeights n).clearIdle n).ln m i).idle = 0 := by
    unfold State.clearIdle
    rcases h with ⟨rfl, hi⟩ | h
    · have hlanes : (s.factoryWeights m).lanes m = s.lanes m :=
        congrArg List.range (State.rd_wr_other s (by decide) _ _ _ _ _)
      refine State.each_establishes (P := fun t => (t.ln m i).idle = 0) (hlanes ▸ hi) (fun t => ?_) hkept _
      rw [State.ln_modLn_self]
    · exact State.each_kept (P := fun t => (t.ln m i).idle = 0) h hkept
  exact hclear

/-- Every region's live weights return to factory. -/
theorem State.resetCal_weight {s : State} {n : Nat} (hn : n ∈ s.regions) :
    s.resetCal.rd .EST_WEIGHT n = s.rd .EST_WEIGHT_FACTORY n % 2 ^ objBits .EST_WEIGHT := by
  have hfactory : ∀ (t : State) m,
      (t.resetRegion s.interval m).rd .EST_WEIGHT_FACTORY n = t.rd .EST_WEIGHT_FACTORY n := fun t m =>
    (t.resetRegion_fr s.interval m).obj _ _ _ (by decide)
  have hboth := State.each_establishes_under (f := fun t m => t.resetRegion s.interval m)
    (I := fun t => t.rd .EST_WEIGHT_FACTORY n = s.rd .EST_WEIGHT_FACTORY n)
    (P := fun t => t.rd .EST_WEIGHT_FACTORY n = s.rd .EST_WEIGHT_FACTORY n
      ∧ t.rd .EST_WEIGHT n = s.rd .EST_WEIGHT_FACTORY n % 2 ^ objBits .EST_WEIGHT)
    (fun t m ht => (hfactory t m).trans ht)
    (fun t ht => ⟨(hfactory t n).trans ht, by rw [State.resetRegion_weight, if_pos rfl, ht]⟩)
    (fun t m ⟨hf, hw⟩ => by
      refine ⟨(hfactory t m).trans hf, ?_⟩
      rw [State.resetRegion_weight]
      split
      · next hm => rw [← hm, hf]
      · exact hw) hn (s := s) rfl
  exact hboth.2

/-- Every idle counter of a region's lanes clears. -/
theorem State.resetCal_idle {s : State} {n i : Nat} (hn : n ∈ s.regions) (hi : i ∈ s.lanes n) :
    (s.resetCal.ln n i).idle = 0 := by
  refine State.each_establishes_under (f := fun t m => t.resetRegion s.interval m) (I := fun t => i ∈ t.lanes n)
    (P := fun t => (t.ln n i).idle = 0) (fun t m ht => ?_) (fun t ht => ?_) (fun t m ht => ?_) hn (s := s) hi
  · have hlanes : (t.resetRegion s.interval m).lanes n = t.lanes n :=
      congrArg List.range ((t.resetRegion_fr s.interval m).obj _ _ _ (by decide))
    exact hlanes ▸ ht
  · exact t.resetRegion_idle _ n n (.inl ⟨rfl, ht⟩)
  · exact t.resetRegion_idle _ m n (.inr ht)

/-! ### The weight window (R239, R240) -/

section
variable {s t : State} (h : Fr (· = .HP_REQUESTS) (fun _ => False) s t)
include h

theorem State.weightCheck_of_fr (n i be val : Nat) : t.weightCheck n i be val = s.weightCheck n i be val := by
  have hready : ∀ r, t.isReady r = s.isReady r := State.isReady_congr (h.obj _ _ _ (by decide))
  have hdom : t.dom = s.dom := h.part .dom id
  simp [State.weightCheck, State.hostDown, hready, State.present_of_fr h, State.on, State.facWeight, State.routerOn,
    State.domainOf, State.d, hdom, h.obj]

end

/-- A live weight once one has been set. -/
theorem State.weight_setWeight (s : State) (n i v : Nat) {j : Nat} (hj : j < 512) :
    (s.setWeight n i v).weight n j = if j = i then v % 2 ^ 16 else s.weight n j := by
  have hwide : 16 * j + 16 ≤ objBits .EST_WEIGHT := by
    have hbits : objBits .EST_WEIGHT = 8192 := by decide
    omega
  have hread : (s.setWeight n i v).rd .EST_WEIGHT n
      = setBits (s.rd .EST_WEIGHT n) (16 * i) 16 v % 2 ^ objBits .EST_WEIGHT := State.rd_wr_self _ _ _ _ _
  rw [State.weight, hread, bits_mod hwide]
  split
  · next he => rw [he, bits_setBits_self]
  · exact bits_setBits_other (by omega)

/-- The live weights of the lanes `l` of the word that begins at lane `i` are set to those of `val`. -/
def State.storeLanes (s : State) (n i val : Nat) (l : List Nat) : State :=
  s.each l fun u j => u.setWeight n (i + j) (bits val (16 * j) 16)

theorem State.weight_storeLanes (s : State) (n i val : Nat) (l : List Nat) {j : Nat} (hj : i + j < 512) :
    (s.storeLanes n i val l).weight n (i + j) = if j ∈ l then bits val (16 * j) 16 else s.weight n (i + j) := by
  induction l generalizing s with
  | nil => rfl
  | cons k rest ih =>
    have hfits : bits val (16 * k) 16 % 2 ^ 16 = bits val (16 * k) 16 := by rw [bits, Nat.mod_mod]
    have hstep : s.storeLanes n i val (k :: rest) = (s.setWeight n (i + k) (bits val (16 * k) 16)).storeLanes n i val rest :=
      State.each_cons _ _ _ _
    rw [hstep, ih, State.weight_setWeight _ _ _ _ hj, hfits]
    by_cases hrest : j ∈ rest
    · rw [if_pos hrest, if_pos (List.mem_cons_of_mem _ hrest)]
    · by_cases hk : j = k
      · subst hk
        rw [if_neg hrest, if_pos rfl, if_pos List.mem_cons_self]
      · rw [if_neg hrest, if_neg (by omega), if_neg (by simp [hk, hrest])]

/-- The lanes of a word whose bytes a write enables. -/
def lanesEnabled (be : Nat) : List Nat := (List.range 4).filter fun j => bits be (2 * j) 2 == 3

theorem mem_lanesEnabled {be j : Nat} (hj : j < 4) : j ∈ lanesEnabled be ↔ bits be (2 * j) 2 = 3 := by
  simp [lanesEnabled, hj]

/-- A write that passes its checks finds CTL running. -/
theorem State.ctl_of_weightCheck {s : State} {n i be val : Nat} (h : s.weightCheck n i be val = .ok) :
    s.isReady .ctl = true := by
  by_contra hctl
  have hdown : s.hostDown .estimator = true := by
    rw [State.hostDown, Bool.eq_false_iff.2 hctl, Bool.not_false, Bool.true_or]
  unfold State.weightCheck at h
  rw [if_pos hdown] at h
  cases h

/-- An offset in the weight window takes a write. -/
theorem State.otherCheck_weights {s : State} {off be : Nat} (h : inWeights off = true) : s.otherCheck off be = none := by
  have hoff := of_decide_eq_true h
  have hwindow : inWindow off = true := decide_eq_true (by omega)
  unfold State.otherCheck
  dsimp only
  rw [hwindow, decide_eq_false (by omega), decide_eq_false (by omega)]
  rfl

/-- A write of a word of the window that passes its checks stores the enabled lanes. -/
theorem State.windowWrite_stores {s : State} {n i be val : Nat} (hn : n < 1024) (hi : i < 512) (hword : i % 4 = 0)
    (hflips : s.inj.flips = []) (hcheck : s.weightCheck n i be val = .ok) :
    s.windowWrite (0x200000 + 0x400 * n + 2 * i) be val
      = (s.storeLanes n i val (lanesEnabled be)).hostReply (0x200000 + 0x400 * n + 2 * i) true .ok 0 .estimator := by
  have hregion : (0x200000 + 0x400 * n + 2 * i - 0x200000) / 0x400 = n := by omega
  have hlane : (0x200000 + 0x400 * n + 2 * i - 0x200000) % 0x400 / 2 = i := by omega
  have haligned : (0x200000 + 0x400 * n + 2 * i) % 8 = 0 := by omega
  have hin : inWeights (0x200000 + 0x400 * n + 2 * i) = true := decide_eq_true (by omega)
  have hread : ∀ sel lost, (s.readFlips sel lost).2 = s := fun sel lost => by
    unfold State.readFlips
    rw [hflips]
    rfl
  unfold State.windowWrite
  rw [State.otherCheck_weights hin]
  dsimp only
  rw [hin, State.when_true]
  unfold State.weightWrite
  dsimp only
  rw [hregion, hlane, haligned, State.ctl_of_weightCheck hcheck, hcheck, hread]
  rfl

/-! ### The statement -/

/-- The store of such an object leaves the counts of the audit log. -/
theorem State.storeRegion_keeps {s : State} {o : Obj} {e v : Nat} (ho : o ∈ regionWrites) (hc : isCommand o = false) :
    State.Keeps [.AUDIT_OK] [] s (s.store o e 0 v) := by
  simp only [regionWrites, List.mem_cons, List.not_mem_nil, or_false] at ho
  rcases ho with rfl | rfl | rfl | rfl | rfl | rfl | rfl
  · exact State.unquarantine_frame (by decide) (by decide) (by decide) (Fr.refl s)
  · exact State.wr_frame (by decide) (State.removeSensors_frame (by decide) (by decide) (by decide) (Fr.refl s))
  · exact State.applyFence_frame (by decide) (by decide) (Fr.refl s)
  · cases hc
  · cases hc
  · exact State.newWeights_frame (by decide) (by decide) (State.wr_frame (by decide) (Fr.refl s))
  · have hnew : State.Keeps [.AUDIT_OK] [] s ((s.wr .EST_SHIFT v e).newWeights e) :=
      State.newWeights_frame (by decide) (by decide) (State.wr_frame (by decide) (Fr.refl s))
    unfold State.store
    exact State.modE_frame (by decide) hnew

/-- What an accepted write of an object that is no command object leaves: the answer, and the rest as its store left it. -/
theorem State.submit1_region_stores {s : State} {o : Obj} {w : Wr} (ho : o ∈ regionWrites) (hc : isCommand o = false)
    (h : s.Accepts o 0 w) :
    s.WroteOk (s.submit1 o w) w
      ∧ Fr (· ∈ answerObjs) (· ∈ answerParts) ((s.writeBase w.src).store o w.el 0 (w.val % 2 ^ objBits o))
          (s.submit1 o w) :=
  State.submit1_region ho h (State.effect_store hc) (State.storeRegion_keeps ho hc)

/-- An accepted request for aging samples samples the regions that are due. -/
theorem State.submit1_ageSampleReq {s : State} {w : Wr} (h : s.Accepts .AGE_SAMPLE_REQ 0 w) (hval : w.val = 1)
    (hidle : s.rd .AGE_SAMPLE_REQ w.el = 0) :
    s.WroteOk (s.submit1 .AGE_SAMPLE_REQ w) w
      ∧ (s.ageable = [] → (s.submit1 .AGE_SAMPLE_REQ w).rd .AGE_SAMPLE_REQ = 0)
      ∧ (s.ageable ≠ [] → (s.submit1 .AGE_SAMPLE_REQ w).rd .AGE_SAMPLE_REQ = 1
          ∧ ∀ n ∈ s.ageable, ((s.submit1 .AGE_SAMPLE_REQ w).r n).ageSampling = true) := by
  have hbase := s.writeBase_fr w.src
  have heff : (s.writeBase w.src).effect .AGE_SAMPLE_REQ w.el 0 (w.val % 2 ^ objBits .AGE_SAMPLE_REQ)
      = (s.writeBase w.src).askAging :=
    State.effect_command_idle rfl rfl (by rw [hval]; rfl) ((hbase.obj _ _ _ (by decide)).trans hidle)
  obtain ⟨hok, hfr⟩ := State.submit1_region (by decide) h heff (State.askAging_frame (by decide) (by decide) (Fr.refl _))
  have hread : (s.submit1 .AGE_SAMPLE_REQ w).rd .AGE_SAMPLE_REQ = (s.writeBase w.src).askAging.rd .AGE_SAMPLE_REQ :=
    hfr.obj _ _ _ (by decide)
  obtain ⟨-, -, -, hcheck, -⟩ := h
  have hel : w.el = 0 := by
    have hexists := State.elemExists_of_checkWrite hcheck
    simpa [State.elemExists, writeOf, show (info .AGE_SAMPLE_REQ).elem = .none from rfl, State.elemCount] using hexists
  rw [← State.ageable_of_fr hbase]
  refine ⟨hok, fun hnone => ?_, fun hsome => ?_⟩
  · rw [hread, State.askAging_none hnone, hbase.obj _ _ _ (by decide)]
    rwa [hel] at hidle
  · obtain ⟨hone, hsampling⟩ := State.askAging_some hsome
    refine ⟨hread.trans hone, fun n hn => ?_⟩
    rw [State.r_congr (hfr.part .rgn (by decide))]
    exact hsampling n hn

/-- An accepted reset of the calibration returns the live weights to factory and clears the idle counters. -/
theorem State.submit1_calResetReq {s : State} {w : Wr} (h : s.Accepts .CAL_RESET_REQ 0 w) (hval : w.val = 1)
    (hidle : s.rd .CAL_RESET_REQ w.el = 0) :
    s.WroteOk (s.submit1 .CAL_RESET_REQ w) w
      ∧ ∀ n ∈ s.regions,
          (s.submit1 .CAL_RESET_REQ w).rd .EST_WEIGHT n = s.rd .EST_WEIGHT_FACTORY n % 2 ^ objBits .EST_WEIGHT
            ∧ ∀ i ∈ s.lanes n, ((s.submit1 .CAL_RESET_REQ w).ln n i).idle = 0 := by
  have hbase := s.writeBase_fr w.src
  have heff : (s.writeBase w.src).effect .CAL_RESET_REQ w.el 0 (w.val % 2 ^ objBits .CAL_RESET_REQ)
      = (s.writeBase w.src).resetCal :=
    State.effect_command_idle rfl rfl (by rw [hval]; rfl) ((hbase.obj _ _ _ (by decide)).trans hidle)
  obtain ⟨hok, hfr⟩ := State.submit1_region (by decide) h heff
    (State.resetCal_frame (by decide) (by decide) (by decide) (Fr.refl _))
  refine ⟨hok, fun n hn => ?_⟩
  rw [← State.regions_of_fr hbase] at hn
  refine ⟨(hfr.obj _ _ _ (by decide)).trans ((State.resetCal_weight hn).trans ?_), fun i hi => ?_⟩
  · rw [hbase.obj _ _ _ (by decide)]
  · have hlanes : (s.writeBase w.src).lanes n = s.lanes n := congrArg List.range (hbase.obj _ _ _ (by decide))
    rw [State.ln_congr (hfr.part .lane (by decide))]
    exact State.resetCal_idle hn (hlanes ▸ hi)

/-- What a write of a word of the weight window leaves that the port takes and that passes its checks. -/
def State.weightsWritten (s : State) (n i be val : Nat) : State :=
  (s.hostTaken.storeLanes n i val (lanesEnabled be)).hostReply (0x200000 + 0x400 * n + 2 * i) true .ok 0 .estimator

/-- Taking a request changes the port's count alone. -/
theorem State.hostTaken_fr {s : State} (hflips : s.inj.flips = []) : Fr (· = .HP_REQUESTS) (fun _ => False) s s.hostTaken := by
  rw [State.hostTaken, State.shiftWords_no_flips (s := s.inc .HP_REQUESTS) hflips]
  exact State.inc_frame rfl (Fr.refl s)

theorem weightWindowWrite_stores {n i be val : Nat} {s : State} (hn : n < 1024) (hi : i < 512) (hword : i % 4 = 0)
    (ht : s.HpTakes) (hflips : s.inj.flips = []) (hcheck : s.weightCheck n i be val = .ok) :
    exec (.weightWindowWrite (0x200000 + 0x400 * n + 2 * i) be val) s = .next (s.weightsWritten n i be val) := by
  have hfr := State.hostTaken_fr hflips
  have hflips' : s.hostTaken.inj.flips = [] := (congrArg Injection.flips (hfr.part .inj id)).trans hflips
  have hin : inWeights (0x200000 + 0x400 * n + 2 * i) = true := decide_eq_true (by omega)
  change execWeightWindowWrite _ be val s = _
  rw [execWeightWindowWrite, hin, Bool.true_or, State.when_true, State.hostIn_served ht]
  exact congrArg Host.Outcome.next
    (State.windowWrite_stores hn hi hword hflips' ((State.weightCheck_of_fr hfr n i be val).trans hcheck))

/-- The request is counted and answered OK; the lanes whose bytes are enabled have their new weights, the others their old. -/
theorem State.weightsWritten_effect {s : State} {n i be val : Nat} (hflips : s.inj.flips = []) (hi : i + 3 < 512) :
    (s.weightsWritten n i be val).ports.host.status = Code.ok.num ∧ s.Counted (s.weightsWritten n i be val) .HP_REQUESTS
      ∧ ∀ j, j < 4 → (s.weightsWritten n i be val).weight n (i + j)
          = if bits be (2 * j) 2 = 3 then bits val (16 * j) 16 else s.weight n (i + j) := by
  have hlanes : Fr (· = .EST_WEIGHT) (fun _ => False) s.hostTaken (s.hostTaken.storeLanes n i val (lanesEnabled be)) :=
    State.each_kept (Fr.refl _) fun _ _ h => State.setWeight_frame rfl h
  have hreply := (s.hostTaken.storeLanes n i val (lanesEnabled be)).hostReply_fr (0x200000 + 0x400 * n + 2 * i) true .ok 0
    .estimator
  refine ⟨State.hostReply_status _ _ _ _ _ _, ?_, fun j hj => ?_⟩
  · exact (hreply.obj _ _ _ (by decide)).trans ((hlanes.obj _ _ _ (by decide)).trans s.hostTaken_counted)
  · have hstored : (s.hostTaken.storeLanes n i val (lanesEnabled be)).weight n (i + j) = _ :=
      State.weight_storeLanes _ _ _ _ _ (by omega)
    have hbefore : s.hostTaken.weight n (i + j) = s.weight n (i + j) :=
      congrArg (bits · (16 * (i + j)) 16) ((State.hostTaken_fr hflips).obj _ _ _ (by decide))
    refine (congrArg (bits · (16 * (i + j)) 16) (hreply.obj _ _ _ (by decide))).trans (hstored.trans ?_)
    exact if_congr (mem_lanesEnabled hj) rfl hbefore

/-- Settles O39: each write is carried out on the state of its port, and what it stores stands beside the audit log and the
answer. -/
theorem regionWritesTakeEffect : Obligations.RegionWritesTakeEffect := by
  unfold Obligations.RegionWritesTakeEffect
  refine ⟨?_, ?_, ?_, ?_, ?_, ?_, ?_, ?_⟩
  · intro w s h
    obtain ⟨hok, hfr⟩ := State.submit1_region_stores (by decide) rfl h
    refine ⟨_, rfl, hok, fun i hi => ?_⟩
    refine (State.flag_congr (hfr.obj _ _ _ (by decide)) i).trans ((State.storeQuarantine_flag _ _ _ hi).trans ?_)
    rw [State.flag_congr ((s.writeBase_fr w.src).obj _ _ _ (by decide)), bit_mod (hi.trans (by decide))]
  · intro w s h
    obtain ⟨hok, hfr⟩ := State.submit1_region_stores (by decide) rfl h
    refine ⟨_, rfl, hok, (hfr.obj _ _ _ (by decide)).trans ((State.storeEnable_rd _ _ _).trans ?_)⟩
    rw [(s.writeBase_fr w.src).obj _ _ _ (by decide)]
  · intro w s h
    obtain ⟨hok, hfr⟩ := State.submit1_region_stores (by decide) rfl h
    exact ⟨_, rfl, hok, (hfr.obj _ _ _ (by decide)).trans ((State.applyFence_rd _ _ _ _).trans (Nat.mod_mod _ _))⟩
  · intro w s h hval hidle
    exact ⟨_, rfl, State.submit1_ageSampleReq h hval hidle⟩
  · intro w s h hval hidle
    obtain ⟨hok, hreset⟩ := State.submit1_calResetReq h hval hidle
    refine ⟨_, rfl, hok, fun n hn => ?_⟩
    obtain ⟨hweight, hclear⟩ := hreset n hn
    exact ⟨hweight, fun i hi _ => hclear i hi⟩
  · intro w s h
    obtain ⟨hok, hfr⟩ := State.submit1_region_stores (by decide) rfl h
    obtain ⟨hstored, hlive⟩ := (s.writeBase w.src).storeFactory_effect w.el (w.val % 2 ^ objBits .EST_WEIGHT_FACTORY)
    exact ⟨_, rfl, hok, (hfr.obj _ _ _ (by decide)).trans (hstored.trans (Nat.mod_mod _ _)),
      (hfr.obj _ _ _ (by decide)).trans (hlive.trans (Nat.mod_mod _ _))⟩
  · intro w s h
    obtain ⟨hok, hfr⟩ := State.submit1_region_stores (by decide) rfl h
    obtain ⟨hstored, hlive⟩ := (s.writeBase w.src).storeShift_effect w.el (w.val % 2 ^ objBits .EST_SHIFT)
    refine ⟨_, rfl, hok, (hfr.obj _ _ _ (by decide)).trans (hstored.trans (Nat.mod_mod _ _)),
      (hfr.obj _ _ _ (by decide)).trans (hlive.trans ?_)⟩
    rw [(s.writeBase_fr w.src).obj _ _ _ (by decide)]
  · intro n i be val s hn hi hword ht hflips hcheck
    exact ⟨_, weightWindowWrite_stores hn hi hword ht hflips hcheck, State.weightsWritten_effect hflips (by omega)⟩

end Sys2Proof.Machine
end

section
/-! SUPPORT. The crossing cells of a region over one of its cycles (R117, R148, R150, R153): what a lane, a cell and the cells of
the four edges show after it. -/

namespace Sys2Proof.Machine
open Sys2Proof

/-! ### A half and a lane -/

/-- A cycle moves a half's pointer alone, so it leaves the mode in which the half moves words. -/
theorem Half.flow_advance (h : Half) : h.advance.flow = h.flow := by
  unfold Half.advance
  split
  · split <;> rfl
  · rfl

/-- A receiver cycle leaves what the write half shows of a lane. -/
theorem XLane.recv_writeSide (x : XLane) (mode : XMode) (p : Nat) (take : Bool) :
    (x.recv mode p take).rdy = x.rdy ∧ (x.recv mode p take).slots = x.slots := by
  unfold XLane.recv
  cases mode
  case decoupled =>
    dsimp only
    split <;> exact ⟨rfl, rfl⟩
  all_goals exact ⟨rfl, rfl⟩

/-- A TETHERED sender cycle writes the slot of the pointer. -/
theorem XLane.slot_send_tethered (x : XLane) (p q : Nat) (offer : Option Nat) :
    Tab.get (x.send .tethered p offer).slots (q % 16) (false, 0)
      = if q % 16 = p % 16 then (offer.isSome, offer.getD 0) else Tab.get x.slots (q % 16) (false, 0) :=
  Tab.get_set _ _ _ _ _

/-- A TETHERED word is presented when the read pointer meets its slot. -/
theorem XLane.recv_send_tethered (x : XLane) (p w : Nat) (take : Bool) :
    ((x.send .tethered p (some w)).recv .tethered p take).vld = true
      ∧ ((x.send .tethered p (some w)).recv .tethered p take).data = w := by
  have hslot : Tab.get (x.send .tethered p (some w)).slots (p % 16) (false, 0) = (true, w) := by
    rw [XLane.slot_send_tethered, if_pos rfl]
    rfl
  constructor
  · exact congrArg Prod.fst hslot
  · change (if (Tab.get (x.send .tethered p (some w)).slots (p % 16) (false, 0)).1 then _ else _) = w
    rw [hslot]
    rfl

/-- A DECOUPLED write half takes a word exactly while the occupancy it sees is below 16. -/
theorem XLane.send_decoupled (x : XLane) (p w : Nat) :
    (x.wq - syncView ((x.rq :: x.wseen).take 3) < 16 → (x.send .decoupled p (some w)).wq = x.wq + 1
        ∧ Tab.get (x.send .decoupled p (some w)).slots (x.wq % 16) (false, 0) = (true, w))
      ∧ (16 ≤ x.wq - syncView ((x.rq :: x.wseen).take 3) → (x.send .decoupled p (some w)).wq = x.wq
        ∧ (x.send .decoupled p (some w)).slots = x.slots ∧ (x.send .decoupled p (some w)).rdy = false) := by
  unfold XLane.send
  dsimp only
  constructor
  · intro hroom
    rw [decide_eq_true hroom]
    exact ⟨rfl, Tab.get_set_self x.slots (x.wq % 16) (true, w) (false, 0)⟩
  · intro hfull
    rw [decide_eq_false (Nat.not_lt.2 hfull)]
    exact ⟨rfl, rfl, rfl⟩

/-! ### The lanes of a cell -/

theorem Cell.lane_modLane (k : Cell) (i j : Nat) (f : XLane → XLane) :
    (k.modLane i f).lane j = if j = i then f (k.lane i) else k.lane j :=
  Tab.get_set _ _ _ _ _

/-- Changes of a cell's lanes leave its halves. -/
theorem Cell.modLanes_eq (l : List Nat) (f : Nat → XLane → XLane) (k : Cell) :
    ∃ lanes, l.foldl (fun k i => k.modLane i (f i)) k = { k with lanes := lanes } := by
  induction l generalizing k with
  | nil => exact ⟨k.lanes, rfl⟩
  | cons i rest ih => exact ih (k.modLane i (f i))

/-- Each lane of a list without repeats is changed once, and no other. -/
theorem Cell.lane_modLanes {l : List Nat} (hl : l.Nodup) (f : Nat → XLane → XLane) (k : Cell) (j : Nat) :
    (l.foldl (fun k i => k.modLane i (f i)) k).lane j = if j ∈ l then f j (k.lane j) else k.lane j := by
  induction l generalizing k with
  | nil => rfl
  | cons i rest ih =>
    obtain ⟨hi, hrest⟩ := List.nodup_cons.1 hl
    rw [List.foldl_cons, ih hrest, Cell.lane_modLane]
    by_cases hji : j = i
    · subst hji
      simp [hi]
    · simp [hji]

/-- A cell with the read half `h`, whose lanes `l` have received. -/
def Cell.received (k : Cell) (h : Half) (l : List Nat) (take : Nat → Bool) : Cell :=
  l.foldl (fun k i => k.modLane i fun x => x.recv h.flow h.ptr (take i)) { k with rd := h }

/-- A cell with the write half `h`, whose lanes `l` have sent. -/
def Cell.sent (k : Cell) (h : Half) (l : List Nat) (offer : Nat → Option Nat) : Cell :=
  l.foldl (fun k i => k.modLane i fun x => x.send h.flow h.ptr (offer i)) { k with wr := h }

theorem Cell.received_rd (k : Cell) (h : Half) (l : List Nat) (take : Nat → Bool) : (k.received h l take).rd = h := by
  obtain ⟨lanes, hlanes⟩ := Cell.modLanes_eq l (fun i x => x.recv h.flow h.ptr (take i)) { k with rd := h }
  exact congrArg Cell.rd hlanes

theorem Cell.received_wr (k : Cell) (h : Half) (l : List Nat) (take : Nat → Bool) : (k.received h l take).wr = k.wr := by
  obtain ⟨lanes, hlanes⟩ := Cell.modLanes_eq l (fun i x => x.recv h.flow h.ptr (take i)) { k with rd := h }
  exact (congrArg Cell.wr hlanes :)

theorem Cell.sent_wr (k : Cell) (h : Half) (l : List Nat) (offer : Nat → Option Nat) : (k.sent h l offer).wr = h := by
  obtain ⟨lanes, hlanes⟩ := Cell.modLanes_eq l (fun i x => x.send h.flow h.ptr (offer i)) { k with wr := h }
  exact congrArg Cell.wr hlanes

theorem Cell.received_lane {k : Cell} {h : Half} {l : List Nat} {take : Nat → Bool} (hl : l.Nodup) (j : Nat) :
    (k.received h l take).lane j = if j ∈ l then (k.lane j).recv h.flow h.ptr (take j) else k.lane j :=
  Cell.lane_modLanes hl _ _ _

theorem Cell.sent_lane {k : Cell} {h : Half} {l : List Nat} {offer : Nat → Option Nat} (hl : l.Nodup) (j : Nat) :
    (k.sent h l offer).lane j = if j ∈ l then (k.lane j).send h.flow h.ptr (offer j) else k.lane j :=
  Cell.lane_modLanes hl _ _ _

/-- The write side of a cell: its write half, and of each lane the ready output and the slots. -/
def Cell.writeSide (k : Cell) : Half × (Nat → Bool × Tab (Bool × Nat)) :=
  (k.wr, fun i => ((k.lane i).rdy, (k.lane i).slots))

/-- Receiving leaves the write side. -/
theorem Cell.received_writeSide {k : Cell} {h : Half} {l : List Nat} {take : Nat → Bool} (hl : l.Nodup) :
    (k.received h l take).writeSide = k.writeSide := by
  refine Prod.ext (k.received_wr h l take) (funext fun j => ?_)
  change (((k.received h l take).lane j).rdy, ((k.received h l take).lane j).slots) = ((k.lane j).rdy, (k.lane j).slots)
  rw [Cell.received_lane hl]
  split
  · obtain ⟨hrdy, hslots⟩ := XLane.recv_writeSide (k.lane j) h.flow h.ptr (take j)
    rw [hrdy, hslots]
  · rfl

/-! ### The cells of one edge -/

theorem opposite_lt (e : Nat) : opposite e < 4 := Nat.mod_lt _ (by decide)

theorem opposite_ne (e : Nat) : opposite e ≠ e := by
  unfold opposite
  omega

theorem opposite_inj {e e' : Nat} (he : e < 4) (he' : e' < 4) (h : opposite e' = opposite e) : e' = e := by
  unfold opposite at h
  omega

/-- A change of one edge's cells leaves those of every other edge. -/
theorem State.c_modC_other (s : State) {n e a b : Nat} (f : Cell → Cell) (he : e < 4) (hb : b < 4) (h : ¬(n = a ∧ e = b)) :
    (s.modC a b f).c n e = s.c n e :=
  Tab.get_set_other _ _ _ _ (by omega)

theorem State.lanesOf_nodup (s : State) (n e : Nat) : (s.lanesOf n e).Nodup := List.nodup_range

theorem State.mem_lanesOf {s : State} {n e i : Nat} : i ∈ s.lanesOf n e ↔ i < 2 * s.rd .LINKS n e := List.mem_range

/-- The word that lane `i` of edge `e` toward region `m` is offered, cut to the lane's width. -/
def State.offerTo (s : State) (e m : Nat) (words : List XWord) (i : Nat) : Option Nat :=
  (offerOn words e i).map (· % 2 ^ s.laneBits m (opposite e) i)

theorem State.laneBits_congr {s t : State} (h : t.build = s.build) (n e i : Nat) : t.laneBits n e i = s.laneBits n e i := by
  unfold State.laneBits
  rw [h]

theorem State.offerTo_congr {s t : State} (h : t.build = s.build) (e m : Nat) (words : List XWord) :
    t.offerTo e m words = s.offerTo e m words := by
  funext i
  unfold State.offerTo
  rw [State.laneBits_congr h]

theorem State.offerTo_eq (s : State) (e m : Nat) (words : List XWord) (i : Nat) :
    ((s.offerTo e m words i).isSome, (s.offerTo e m words i).getD 0)
      = ((offerOn words e i).isSome, (offerOn words e i).getD 0 % 2 ^ s.laneBits m (opposite e) i) := by
  unfold State.offerTo
  cases offerOn words e i
  · exact congrArg (Prod.mk false) (Nat.zero_mod _).symm
  · rfl

theorem State.recvEdge_self (s : State) (n e : Nat) (takes : List XTake) :
    (s.recvEdge n e takes).c n e = (s.c n e).received (s.c n e).rd.advance (s.lanesOf n e) (takesFrom takes e) :=
  State.c_modC_self _ _ _ _

theorem State.sendEdge_self (s : State) (e m : Nat) (words : List XWord) :
    (s.sendEdge e m words).c m (opposite e)
      = (s.c m (opposite e)).sent (s.c m (opposite e)).wr.advance (s.lanesOf m (opposite e)) (s.offerTo e m words) :=
  State.c_modC_self _ _ _ _

theorem State.recvEdge_writeSide (s : State) (n e : Nat) (takes : List XTake) (a b : Nat) :
    ((s.recvEdge n e takes).c a b).writeSide = (s.c a b).writeSide :=
  State.c_modC_kept (P := (·.writeSide = (s.c a b).writeSide)) rfl fun _ hk =>
    (Cell.received_writeSide (s.lanesOf_nodup n e)).trans hk

/-! ### The cells of the four edges -/

/-- `t` has moved words in cells alone since `s`, and the cell of region `n`'s edge `e` now looks like `v`. -/
def State.Moved {β : Type} (s : State) (view : Cell → β) (n e : Nat) (v : β) (t : State) : Prop :=
  Fr (fun _ => False) (· = .cell) s t ∧ view (t.c n e) = v

/-- One edge of `State.moveWords`. -/
def State.moveEdge (n : Nat) (words : List XWord) (takes : List XTake) (t : State) (e : Nat) : State :=
  match t.neighbour n e with
  | some m => (t.recvEdge n e takes).sendEdge e m words
  | none => t

theorem State.moveWords_eq (s : State) (n : Nat) (words : List XWord) (takes : List XTake) :
    s.moveWords n words takes = s.each edges (State.moveEdge n words takes) := rfl

theorem State.neighbour_congr {s t : State} {n e : Nat} (hnext : t.rd .NEIGHBOUR n e = s.rd .NEIGHBOUR n e)
    (hlinks : t.rd .LINKS n e = s.rd .LINKS n e) : t.neighbour n e = s.neighbour n e := by
  unfold State.neighbour
  rw [hnext, hlinks]

theorem State.lanesOf_congr {s t : State} {n e : Nat} (h : t.rd .LINKS n e = s.rd .LINKS n e) : t.lanesOf n e = s.lanesOf n e :=
  congrArg (fun k => List.range (2 * k)) h

theorem State.c_congr {s t : State} (h : t.cell = s.cell) (n e : Nat) : t.c n e = s.c n e := by
  unfold State.c
  rw [h]

theorem State.moveEdge_some {t : State} {n e m : Nat} {words : List XWord} {takes : List XTake}
    (h : t.neighbour n e = some m) : t.moveEdge n words takes e = (t.recvEdge n e takes).sendEdge e m words := by
  unfold State.moveEdge
  rw [h]

theorem State.moveEdge_frame {W : Obj → Prop} {Q : Part → Prop} {s t : State} {n e : Nat} {words : List XWord}
    {takes : List XTake} (qcell : Q .cell) (h : Fr W Q s t) : Fr W Q s (t.moveEdge n words takes e) := by
  unfold State.moveEdge
  split
  · exact State.sendEdge_frame qcell (State.recvEdge_frame qcell h)
  · exact h

/-- What a TETHERED write side becomes over a cycle in which its lanes `l` are offered words (R117). -/
def tetheredSide (v : Half × (Nat → Bool × Tab (Bool × Nat))) (l : List Nat) (offer : Nat → Option Nat) :
    Half × (Nat → Bool × Tab (Bool × Nat)) :=
  (v.1.advance, fun i =>
    if i ∈ l then (true, Tab.set (v.2 i).2 (v.1.advance.ptr % 16) ((offer i).isSome, (offer i).getD 0) (false, 0)) else v.2 i)

/-- What such a write side shows in a lane: ready, and in the slot of the pointer the valid bit and the word offered. -/
theorem Cell.shows_tetheredSide {k k' : Cell} {l : List Nat} {offer : Nat → Option Nat} {i : Nat}
    (h : k'.writeSide = tetheredSide k.writeSide l offer) (hi : i ∈ l) :
    k'.wr = k.wr.advance ∧ (k'.lane i).rdy = true
      ∧ Tab.get (k'.lane i).slots (k.wr.advance.ptr % 16) (false, 0) = ((offer i).isSome, (offer i).getD 0) := by
  have hlane : ((k'.lane i).rdy, (k'.lane i).slots)
      = (true, Tab.set (k.lane i).slots (k.wr.advance.ptr % 16) ((offer i).isSome, (offer i).getD 0) (false, 0)) :=
    (congrFun (congrArg Prod.snd h) i).trans (if_pos hi)
  refine ⟨congrArg Prod.fst h, congrArg Prod.fst hlane, ?_⟩
  rw [show (k'.lane i).slots = _ from congrArg Prod.snd hlane, Tab.get_set_self]

theorem Cell.sent_writeSide {k : Cell} {l : List Nat} {offer : Nat → Option Nat} (hl : l.Nodup) (hflow : k.wr.flow = .tethered) :
    (k.sent k.wr.advance l offer).writeSide = tetheredSide k.writeSide l offer := by
  refine Prod.ext (Cell.sent_wr _ _ _ _) (funext fun j => ?_)
  change (((k.sent k.wr.advance l offer).lane j).rdy, ((k.sent k.wr.advance l offer).lane j).slots) = ite _ _ _
  rw [Cell.sent_lane hl, Half.flow_advance, hflow]
  split <;> rfl

/-- What a fold over a list without repeats establishes with its step for `x`, when its other steps keep what `x` needs and what
`x` establishes. -/
theorem State.each_once {α : Type} {I P : State → Prop} {f : State → α → State} {x : α} {l : List α} (hl : l.Nodup) (hx : x ∈ l)
    (hI : ∀ t, ∀ y ∈ l, y ≠ x → I t → I (f t y)) (hset : ∀ t, I t → P (f t x))
    (hP : ∀ t, ∀ y ∈ l, y ≠ x → P t → P (f t y)) {s : State} (hs : I s) : P (s.each l f) := by
  induction l generalizing s with
  | nil => cases hx
  | cons y rest ih =>
    obtain ⟨hy, hrest⟩ := List.nodup_cons.1 hl
    rw [State.each_cons]
    rcases List.mem_cons.1 hx with rfl | hin
    · exact State.each_mem_kept (hset _ hs) fun t z hz ht =>
        hP t z (List.mem_cons_of_mem _ hz) (fun hzx => hy (hzx ▸ hz)) ht
    · exact ih hrest hin (fun t z hz => hI t z (List.mem_cons_of_mem _ hz)) (fun t z hz => hP t z (List.mem_cons_of_mem _ hz))
        (hI _ _ List.mem_cons_self (fun hyx => hy (hyx ▸ hin)) hs)

theorem edges_nodup : edges.Nodup := by decide

theorem mem_edges {e : Nat} : e ∈ edges ↔ e < 4 := List.mem_range (n := 4)

section
variable {n e m : Nat} {words : List XWord} {takes : List XTake}

/-- The other edges of the region leave the write side of the cells beyond edge `e`. -/
theorem State.moveEdge_writeSide {t : State} {y : Nat} (hy : y < 4) (he : e < 4) (hne : y ≠ e) :
    ((t.moveEdge n words takes y).c m (opposite e)).writeSide = (t.c m (opposite e)).writeSide := by
  unfold State.moveEdge
  split
  · next a _ =>
    have hkept : ((t.recvEdge n y takes).sendEdge y a words).c m (opposite e) = (t.recvEdge n y takes).c m (opposite e) :=
      State.c_modC_other _ _ (opposite_lt e) (opposite_lt y) fun h => hne (opposite_inj he hy h.2.symm)
    rw [hkept, State.recvEdge_writeSide]
  · rfl

/-- The other edges of a region that is not its own neighbour across leave the cells of its edge `e`. -/
theorem State.moveEdge_cell {t : State} {y : Nat} (hy : y < 4) (he : e < 4) (hne : y ≠ e)
    (hself : t.neighbour n (opposite e) ≠ some n) : (t.moveEdge n words takes y).c n e = t.c n e := by
  unfold State.moveEdge
  split
  · next a ha =>
    have hsend : ((t.recvEdge n y takes).sendEdge y a words).c n e = (t.recvEdge n y takes).c n e := by
      refine State.c_modC_other _ _ he (opposite_lt y) fun ⟨hna, hey⟩ => hself ?_
      have hyo : opposite e = y := opposite_inj hy (opposite_lt e) (by change e = (y + 2) % 4 at hey; unfold opposite; omega)
      rw [hyo, ha, hna]
    exact hsend.trans (State.c_modC_other _ _ he hy fun h => hne h.2.symm)
  · rfl

/-- A TETHERED write half beyond edge `e` advances its pointer and writes the slot there in every lane (R117). -/
theorem State.moveWords_writeSide {s : State} (he : e < 4) (hm : s.neighbour n e = some m)
    (hflow : (s.c m (opposite e)).wr.flow = .tethered) :
    ((s.moveWords n words takes).c m (opposite e)).writeSide
      = tetheredSide (s.c m (opposite e)).writeSide (s.lanesOf m (opposite e)) (s.offerTo e m words) := by
  have hmoved : s.Moved Cell.writeSide m (opposite e)
      (tetheredSide (s.c m (opposite e)).writeSide (s.lanesOf m (opposite e)) (s.offerTo e m words))
      (s.each edges (State.moveEdge n words takes)) := by
    have hother : ∀ v t, ∀ y ∈ edges, y ≠ e → s.Moved Cell.writeSide m (opposite e) v t →
        s.Moved Cell.writeSide m (opposite e) v (t.moveEdge n words takes y) := fun v t y hy hne ⟨hfr, hside⟩ =>
      ⟨State.moveEdge_frame rfl hfr, (State.moveEdge_writeSide (mem_edges.1 hy) he hne).trans hside⟩
    refine State.each_once (I := s.Moved Cell.writeSide m (opposite e) (s.c m (opposite e)).writeSide) edges_nodup
      (mem_edges.2 he) (hother _) ?_ (hother _) ⟨Fr.refl s, rfl⟩
    rintro t ⟨hfr, hside⟩
    refine ⟨State.moveEdge_frame rfl hfr, ?_⟩
    have hrecv : ((t.recvEdge n e takes).c m (opposite e)).writeSide = (s.c m (opposite e)).writeSide :=
      (t.recvEdge_writeSide n e takes m (opposite e)).trans hside
    have hfrecv : Fr (fun _ => False) (· = .cell) s (t.recvEdge n e takes) := State.recvEdge_frame rfl hfr
    have hm' : t.neighbour n e = some m := (State.neighbour_congr (hfr.obj _ _ _ id) (hfr.obj _ _ _ id)).trans hm
    have hwr : ((t.recvEdge n e takes).c m (opposite e)).wr.flow = .tethered :=
      (congrArg (fun v => v.1.flow) hrecv).trans hflow
    rw [State.moveEdge_some hm', State.sendEdge_self, Cell.sent_writeSide (State.lanesOf_nodup _ _ _) hwr, hrecv,
      State.lanesOf_congr (hfrecv.obj _ _ _ id), State.offerTo_congr hfrecv.build]
  exact hmoved.2

/-- A read half of a region that is not its own neighbour across is moved by its own edge alone. -/
theorem State.moveWords_cell {s : State} (he : e < 4) (hm : s.neighbour n e = some m)
    (hself : s.neighbour n (opposite e) ≠ some n) :
    (s.moveWords n words takes).c n e
      = (s.c n e).received (s.c n e).rd.advance (s.lanesOf n e) (takesFrom takes e) := by
  have hmoved : s.Moved id n e ((s.c n e).received (s.c n e).rd.advance (s.lanesOf n e) (takesFrom takes e))
      (s.each edges (State.moveEdge n words takes)) := by
    have hother : ∀ v t, ∀ y ∈ edges, y ≠ e → s.Moved id n e v t → s.Moved id n e v (t.moveEdge n words takes y) :=
      fun v t y hy hne ⟨hfr, hcell⟩ => ⟨State.moveEdge_frame rfl hfr,
        (State.moveEdge_cell (mem_edges.1 hy) he hne
          (by rwa [State.neighbour_congr (hfr.obj _ _ _ id) (hfr.obj _ _ _ id)])).trans hcell⟩
    refine State.each_once (I := s.Moved id n e (s.c n e)) edges_nodup (mem_edges.2 he) (hother _) ?_ (hother _) ⟨Fr.refl s, rfl⟩
    rintro t ⟨hfr, hcell⟩
    refine ⟨State.moveEdge_frame rfl hfr, ?_⟩
    have hm' : t.neighbour n e = some m := (State.neighbour_congr (hfr.obj _ _ _ id) (hfr.obj _ _ _ id)).trans hm
    have hown : ((t.recvEdge n e takes).sendEdge e m words).c n e = (t.recvEdge n e takes).c n e :=
      State.c_modC_other _ _ he (opposite_lt e) fun h => opposite_ne e h.2.symm
    rw [State.moveEdge_some hm', id, hown, State.recvEdge_self, State.lanesOf_congr (hfr.obj _ _ _ id),
      show t.c n e = s.c n e from hcell]
  exact hmoved.2

/-- Each write half of the region that is TETHERED and in no resync advances its pointer and writes the slot there (R117). -/
theorem State.moveWords_sends {s : State} {i : Nat} (he : e < 4) (hm : s.neighbour n e = some m)
    (hflow : (s.c m (opposite e)).wr.flow = .tethered) (hi : i < 2 * s.rd .LINKS m (opposite e)) :
    ((s.moveWords n words takes).c m (opposite e)).wr = (s.c m (opposite e)).wr.advance
      ∧ (((s.moveWords n words takes).c m (opposite e)).lane i).rdy = true
      ∧ Tab.get (((s.moveWords n words takes).c m (opposite e)).lane i).slots ((s.c m (opposite e)).wr.advance.ptr % 16) (false, 0)
        = ((offerOn words e i).isSome, (offerOn words e i).getD 0 % 2 ^ s.laneBits m (opposite e) i) := by
  obtain ⟨hwr, hrdy, hslot⟩ := Cell.shows_tetheredSide
    (State.moveWords_writeSide (words := words) (takes := takes) he hm hflow) (State.mem_lanesOf.2 hi)
  exact ⟨hwr, hrdy, hslot.trans (s.offerTo_eq e m words i)⟩

/-- Each such read half advances its pointer and presents the slot there (R117). -/
theorem State.moveWords_receives {s : State} {i : Nat} (he : e < 4) (hm : s.neighbour n e = some m)
    (hself : s.neighbour n (opposite e) ≠ some n) (hflow : (s.c n e).rd.flow = .tethered) (hi : i < 2 * s.rd .LINKS n e) :
    ((s.moveWords n words takes).c n e).rd = (s.c n e).rd.advance
      ∧ (((s.moveWords n words takes).c n e).lane i).vld
        = (Tab.get ((s.c n e).lane i).slots ((s.c n e).rd.advance.ptr % 16) (false, 0)).1
      ∧ ((((s.moveWords n words takes).c n e).lane i).vld = true → (((s.moveWords n words takes).c n e).lane i).data
        = (Tab.get ((s.c n e).lane i).slots ((s.c n e).rd.advance.ptr % 16) (false, 0)).2) := by
  rw [State.moveWords_cell he hm hself, Cell.received_lane (s.lanesOf_nodup n e), if_pos (State.mem_lanesOf.2 hi),
    Half.flow_advance, hflow]
  exact ⟨Cell.received_rd _ _ _ _, rfl, fun h => if_pos h⟩

end

end Sys2Proof.Machine
end

section
/-! PROOF. A region cycle (R73, R106, R115, R117 to R119, R150, R153): the count, the depth of its period, and the words of its
crossing cells. -/

namespace Sys2Proof.Machine
open Sys2Proof

/-! ### The depths of the last periods and the gate in progress -/

/-- What the agent of a region keeps of its gate and of its last three periods. -/
structure StretchAccount where
  gateCycles : Nat
  gateEighths : Nat
  last1 : Nat
  last2 : Nat
  last3 : Nat

/-- The account of an agent's record. -/
def Rgn.account (r : Rgn) : StretchAccount := ⟨r.gateCycles, r.gateEighths, r.last1, r.last2, r.last3⟩

/-- The account of region `n`. -/
def State.account (s : State) (n : Nat) : StretchAccount := (s.r n).account

/-- What an account says, entry by entry. -/
theorem Rgn.account_eq {r : Rgn} {a : StretchAccount} (h : r.account = a) : r.gateCycles = a.gateCycles
    ∧ r.gateEighths = a.gateEighths ∧ r.last1 = a.last1 ∧ r.last2 = a.last2 ∧ r.last3 = a.last3 := by
  subst h
  exact ⟨rfl, rfl, rfl, rfl, rfl⟩

theorem State.account_congr {s t : State} (h : t.rgn = s.rgn) (n : Nat) : t.account n = s.account n :=
  congrArg Rgn.account (State.r_congr h n)

theorem State.account_modR (s : State) (n : Nat) (f : Rgn → Rgn) : (s.modR n f).account n = (f (s.r n)).account :=
  congrArg Rgn.account (State.r_modR_self s n f)

theorem State.endInjection_rgn (s : State) (result : Nat) : (s.endInjection result).rgn = s.rgn := by
  have hkeeps : State.Keeps [] [.rgn] s (s.endInjection result) := by
    apply State.endInjection_frame (h := Fr.refl s) <;> decide
  exact hkeeps.same .rgn (by decide)

theorem State.endPeriod_account (s : State) (n dur : Nat) : (s.endPeriod n dur).account n = s.account n := by
  unfold State.endPeriod
  dsimp only
  generalize hended : s.modR n _ = ended
  have haccount : ended.account n = s.account n := hended ▸ State.account_modR _ _ _
  split
  · split
    · split
      · exact (State.account_congr (ended.endInjection_rgn 1) n).trans haccount
      · exact haccount
    · exact haccount
  · exact haccount

theorem State.endRun_account (s : State) (n : Nat) : (s.endRun n).account n = s.account n := by
  unfold State.endRun
  split <;> exact State.account_modR _ _ _

theorem State.advanceTime_account (s : State) (n dur : Nat) : (s.advanceTime n dur).account n = s.account n :=
  State.account_modR _ _ _

theorem State.copyTags_account (s : State) (n : Nat) : (s.copyTags n).account n = s.account n :=
  State.account_modR _ _ _

theorem State.tetherCycle_account (s : State) (n late : Nat) : (s.tetherCycle n late).account n = s.account n := by
  have hslips : ∀ f : Nat → Int, (s.each edges fun u e => u.wrInt .SLIP (f e) n e).account n = s.account n := fun f =>
    State.account_congr (State.each_same State.rgn (fun u e => u.wrInt .SLIP (f e) n e) (fun _ _ => rfl) edges s) n
  unfold State.tetherCycle
  dsimp only
  rw [State.when_same (·.account n) (·.endInjection 1) fun t => State.account_congr (t.endInjection_rgn 1) n]
  refine (State.account_congr (State.wr_rgn _ _ _ _ _) n).trans ?_
  rw [State.when_same (·.account n) (·.inc .TETHER_ENGAGES n) fun t => State.account_congr (t.inc_rgn _ _ _) n]
  exact (State.account_modR _ _ _).trans (hslips _)

/-! ### The start of a cycle (R119) -/

/-- The period that ended is accounted for, and its run re-evaluated where it was the run's last. -/
def State.closePeriod (s : State) (n dur : Nat) : State :=
  (s.endPeriod n dur).when (decide ((s.r n).runDepth ≠ 0 ∧ (s.r n).runLeft = 0)) fun t => t.endRun n

theorem State.closePeriod_fr (s : State) (n dur : Nat) :
    Fr (· ∈ [.DS_STATUS, .DS_TRIPS, .INJ_ARM, .INJ_COUNT, .INJ_RESULT]) (· ∈ [.flt, .inj, .rgn]) s (s.closePeriod n dur) := by
  refine State.when_kept ?_ fun t ht => ?_
  · apply State.endPeriod_frame (h := Fr.refl s) <;> decide
  · apply State.endRun_frame (h := ht) <;> decide

theorem State.closePeriod_account (s : State) (n dur : Nat) : (s.closePeriod n dur).account n = s.account n :=
  (State.when_same (·.account n) (·.endRun n) (fun t => t.endRun_account n) _ _).trans (s.endPeriod_account n dur)

/-- The gate and the window count the cycle. -/
def State.countCycle (s : State) (n : Nat) : State :=
  (s.modR n fun r => { r with tripDepth := 0, gateCycles := r.gateCycles + 1 }).modE n fun x => { x with cycles := x.cycles + 1 }

/-- What a cycle does before it looks at the neighbours: the period that ended, the gate, the window, the count and the time. -/
def State.openCycle (s : State) (n : Nat) (io : CycleIn) : State :=
  (((s.closePeriod n io.dur).countCycle n).when (s.osc n .counting) fun t =>
    t.wr .REGION_COUNT ((s.rd .REGION_COUNT n + 1) % 2 ^ 48) n).when (s.osc n .counting) fun t => t.advanceTime n io.dur

theorem State.cycle_eq (s : State) (n : Nat) (io : CycleIn) :
    s.cycle n io = ((((((s.openCycle n io).copyTags n).tetherCycle n io.late).stretchCycle n).refuseOffers n io.words).moveWords n
      io.words io.takes).askLane n := rfl

theorem State.openCycle_fr (s : State) (n : Nat) (io : CycleIn) :
    Fr (· ∈ [.REGION_COUNT, .REGION_TIME]) (· ∈ [.rgn]) ((s.closePeriod n io.dur).countCycle n) (s.openCycle n io) :=
  State.when_kept (P := Fr _ _ _)
    (State.when_kept (P := Fr _ _ _) (Fr.refl _) fun _ ht => State.wr_frame (by decide) ht)
    fun _ ht => State.advanceTime_frame (by decide) (by decide) ht

theorem State.openCycle_account (s : State) (n : Nat) (io : CycleIn) :
    (s.openCycle n io).account n = { s.account n with gateCycles := (s.r n).gateCycles + 1 } := by
  unfold State.openCycle
  rw [State.when_same (·.account n) (·.advanceTime n io.dur) fun t => t.advanceTime_account n io.dur,
    State.when_same (·.account n) _ fun t => State.account_congr (t.wr_rgn _ _ _ _) n]
  refine (State.account_congr (State.modE_rgn _ _ _) n).trans ((State.account_modR _ _ _).trans ?_)
  exact congrArg (fun a : StretchAccount => { a with gateCycles := a.gateCycles + 1 }) (s.closePeriod_account n io.dur)

theorem State.openCycle_count (s : State) (n : Nat) (io : CycleIn) :
    (s.openCycle n io).rd .REGION_COUNT n
      = if s.osc n .counting then (s.rd .REGION_COUNT n + 1) % 2 ^ 48 else s.rd .REGION_COUNT n := by
  have htime : ∀ t : State, (t.advanceTime n io.dur).rd .REGION_COUNT n = t.rd .REGION_COUNT n := fun t =>
    State.rd_wr_other t (by decide) _ _ _ _ _
  unfold State.openCycle
  cases s.osc n .counting
  · exact (s.closePeriod_fr n io.dur).obj _ _ _ (by decide)
  · rw [State.when_true, State.when_true, htime, State.rd_wr_self]
    exact Nat.mod_eq_of_lt ((Nat.mod_lt _ (by decide)).trans (by decide))

theorem State.openCycle_cycles (s : State) (n : Nat) (io : CycleIn) : ((s.openCycle n io).ee n).cycles = (s.ee n).cycles + 1 := by
  rw [State.ee_congr ((s.openCycle_fr n io).part .est (by decide))]
  refine (congrArg Est.cycles (State.ee_modE_self _ _ _)).trans ?_
  exact congrArg (fun x : Est => x.cycles + 1) (State.ee_congr ((s.closePeriod_fr n io.dur).part .est (by decide)) n)

/-! ### The Stretch Engine's period (R28, R106) -/

/-- The depth that the Stretch Engine decides for the present period of region `n`. -/
def State.stretchDepth (s : State) (n : Nat) : Nat :=
  (decideStretch ((s.r n).last1 + (s.r n).last2 + (s.r n).last3)
    (max (s.r n).runDepth (if s.rd .DS_QUARANTINE n = 0 then 0 else 1)) (levelDepth (s.r n).level)
    (capModulator (s.r n).dutyAcc (s.r n).duty).1).1

/-- Four periods hold at most 24 eighths where the three before held no more (R106). -/
theorem decideStretch_le {s3 : Nat} (droop tether cap : Nat) (h : s3 ≤ 24) : (decideStretch s3 droop tether cap).1 + s3 ≤ 24 := by
  have hpart : ∀ x y, y ≤ 24 - s3 → permitted (min x y) ≤ 24 - s3 := fun x y hy =>
    (permitted_le _).trans ((Nat.min_le_right x y).trans hy)
  have hmost : (decideStretch s3 droop tether cap).1 ≤ 24 - s3 :=
    Nat.max_le.2 ⟨hpart _ _ le_rfl, Nat.max_le.2 ⟨hpart _ _ (by omega), hpart _ _ (by omega)⟩⟩
  omega

theorem depths_lt {d : Nat} (h : d ∈ depths) : d < 2 ^ 4 := by
  revert d
  decide

theorem State.countStretch_rgn (s : State) (n d : Nat) (who : Charge) : (s.countStretch n d who).rgn = s.rgn := by
  have hkeeps : State.Keeps [] [.rgn] s (s.countStretch n d who) := by
    apply State.countStretch_frame (h := Fr.refl s) <;> decide
  exact hkeeps.same .rgn (by decide)

theorem State.chargeTether_account (s : State) (n d : Nat) (t : Tag) : (s.chargeTether n d t).account n = s.account n := by
  unfold State.chargeTether
  split
  · exact State.account_modR _ _ _
  · exact State.account_congr rfl n

theorem State.chargeTether_cycles (s : State) (n d : Nat) (t : Tag) : ((s.chargeTether n d t).ee n).cycles = (s.ee n).cycles := by
  unfold State.chargeTether
  split
  · rfl
  · rw [State.ee_modE_self]
    rfl

/-- The charge of a period adds its depth to the eighths of the gate. -/
theorem State.chargePeriod_account (s : State) (n d : Nat) (who : Charge) :
    (s.chargePeriod n d who).account n = { s.account n with gateEighths := (s.r n).gateEighths + d } := by
  have hcount : ((s.countStretch n d who).countWindow n d who).account n = s.account n :=
    State.account_congr (s.countStretch_rgn n d who) n
  have htether : ∀ lead, (if who = .tether then ((s.countStretch n d who).countWindow n d who).chargeTether n d lead
      else (s.countStretch n d who).countWindow n d who).account n = s.account n := fun lead => by
    split
    · exact (State.chargeTether_account _ _ _ _).trans hcount
    · exact hcount
  unfold State.chargePeriod
  dsimp only
  refine (State.account_congr (State.wr_rgn _ _ _ _ _) n).trans ((State.account_modR _ _ _).trans ?_)
  exact congrArg (fun a : StretchAccount => { a with gateEighths := a.gateEighths + d }) (htether _)

theorem State.chargePeriod_cycles (s : State) (n d : Nat) (who : Charge) :
    ((s.chargePeriod n d who).ee n).cycles = (s.ee n).cycles := by
  have hkeeps : State.Keeps [] [.est] s (s.countStretch n d who) := by
    apply State.countStretch_frame (h := Fr.refl s) <;> decide
  have hcount : (((s.countStretch n d who).countWindow n d who).ee n).cycles = (s.ee n).cycles := by
    unfold State.countWindow
    rw [State.ee_modE_self]
    change ((s.countStretch n d who).ee n).cycles = _
    exact congrArg Est.cycles (State.ee_congr (hkeeps.same .est (by decide)) n)
  unfold State.chargePeriod
  dsimp only
  rw [State.ee_congr (State.wr_est _ _ _ _ _), State.ee_congr (State.modR_est _ _ _)]
  split
  · exact (State.chargeTether_cycles _ _ _ _).trans hcount
  · exact hcount

/-- The charge of a period shows its depth. -/
theorem State.chargePeriod_depth (s : State) (n d : Nat) (who : Charge) :
    bits ((s.chargePeriod n d who).rd .DS_STATUS n) 8 4 = d % 2 ^ 4 := by
  unfold State.chargePeriod
  rw [State.rd_wr_self, bits_mod (by decide), bits_setBits_self]

/-- The Stretch Engine's part of a cycle charges the depth decided, and shifts the depths by one period. -/
theorem State.stretchCycle_eq (s : State) (n : Nat) : ∃ refused who, ∃ shift : Rgn → Rgn,
    s.stretchCycle n = ((s.addWrap .STRETCH_REFUSED refused n).chargePeriod n (s.stretchDepth n) who).modR n shift
      ∧ ∀ r, (shift r).account = ⟨r.gateCycles, r.gateEighths, s.stretchDepth n, r.last1, r.last2⟩ := by
  unfold State.stretchCycle
  exact ⟨_, _, _, rfl, fun _ => rfl⟩

theorem State.stretchCycle_account (s : State) (n : Nat) :
    (s.stretchCycle n).account n = ⟨(s.r n).gateCycles, (s.r n).gateEighths + s.stretchDepth n, s.stretchDepth n, (s.r n).last1,
      (s.r n).last2⟩ := by
  obtain ⟨refused, who, shift, heq, hshift⟩ := s.stretchCycle_eq n
  have hcharged : ((s.addWrap .STRETCH_REFUSED refused n).chargePeriod n (s.stretchDepth n) who).account n
      = { s.account n with gateEighths := (s.r n).gateEighths + s.stretchDepth n } := State.chargePeriod_account _ _ _ _
  rw [heq, State.account_modR, hshift]
  exact congrArg (fun a : StretchAccount => StretchAccount.mk a.gateCycles a.gateEighths (s.stretchDepth n) a.last1 a.last2)
    hcharged

theorem State.stretchCycle_cycles (s : State) (n : Nat) : ((s.stretchCycle n).ee n).cycles = (s.ee n).cycles := by
  obtain ⟨refused, who, shift, heq, -⟩ := s.stretchCycle_eq n
  rw [heq, State.ee_congr (State.modR_est _ _ _), State.chargePeriod_cycles, State.ee_congr (State.addWrap_est _ _ _ _ _)]

theorem State.stretchCycle_depth (s : State) (n : Nat) : bits ((s.stretchCycle n).rd .DS_STATUS n) 8 4 = s.stretchDepth n := by
  obtain ⟨refused, who, shift, heq, -⟩ := s.stretchCycle_eq n
  rw [heq, State.rd_modR, State.chargePeriod_depth]
  exact Nat.mod_eq_of_lt (depths_lt (decideStretch_mem _ _ _ _))

/-! ### The whole cycle -/

/-- The state in which the Stretch Engine decides the period of a cycle. -/
def State.atDecision (s : State) (n : Nat) (io : CycleIn) : State := ((s.openCycle n io).copyTags n).tetherCycle n io.late

theorem State.atDecision_fr (s : State) (n : Nat) (io : CycleIn) :
    Fr (· ∈ [.INJ_ARM, .INJ_COUNT, .INJ_RESULT, .SLIP, .TETHER_ENGAGES, .TETHER_STATUS]) (· ∈ [.flt, .inj, .rgn])
      (s.openCycle n io) (s.atDecision n io) := by
  apply State.tetherCycle_frame (h := State.copyTags_frame (by decide) (Fr.refl _)) <;> decide

theorem State.atDecision_account (s : State) (n : Nat) (io : CycleIn) :
    (s.atDecision n io).account n = { s.account n with gateCycles := (s.r n).gateCycles + 1 } :=
  (State.tetherCycle_account _ _ _).trans ((State.copyTags_account _ _).trans (s.openCycle_account n io))

theorem State.atDecision_cycles (s : State) (n : Nat) (io : CycleIn) :
    ((s.atDecision n io).ee n).cycles = (s.ee n).cycles + 1 := by
  rw [State.ee_congr ((s.atDecision_fr n io).part .est (by decide)), State.openCycle_cycles]

theorem State.askLane_cycles (s : State) (n : Nat) : ((s.askLane n).ee n).cycles = (s.ee n).cycles := by
  unfold State.askLane
  cases (s.ee n).sweeping
  · rfl
  · rw [State.when_true, State.ee_modE_self]

theorem State.cycle_fr (s : State) (n : Nat) (io : CycleIn) :
    Fr (· = .XING_REFUSED) (· ∈ [.cell, .est]) ((s.atDecision n io).stretchCycle n) (s.cycle n io) := by
  rw [State.cycle_eq]
  exact State.askLane_frame (by decide) (State.moveWords_frame (by decide) (State.refuseOffers_frame rfl (Fr.refl _)))

theorem State.cycle_account (s : State) (n : Nat) (io : CycleIn) :
    (s.cycle n io).account n = ⟨(s.r n).gateCycles + 1, (s.r n).gateEighths + (s.atDecision n io).stretchDepth n,
      (s.atDecision n io).stretchDepth n, (s.r n).last1, (s.r n).last2⟩ :=
  (State.account_congr ((s.cycle_fr n io).part .rgn (by decide)) n).trans ((State.stretchCycle_account _ _).trans
    (congrArg (fun a : StretchAccount => StretchAccount.mk a.gateCycles (a.gateEighths + (s.atDecision n io).stretchDepth n)
      ((s.atDecision n io).stretchDepth n) a.last1 a.last2) (s.atDecision_account n io)))

theorem State.stretchCycle_count (s : State) (n : Nat) :
    (s.stretchCycle n).rd .REGION_COUNT n = s.rd .REGION_COUNT n := by
  have hkeeps : State.Keeps [.REGION_COUNT] [] s (s.stretchCycle n) := by
    apply State.stretchCycle_frame (h := Fr.refl s) <;> decide
  exact hkeeps.rd (by decide) _ _

theorem State.cycle_cycles (s : State) (n : Nat) (io : CycleIn) : ((s.cycle n io).ee n).cycles = (s.ee n).cycles + 1 := by
  have hwords : Fr (· = .XING_REFUSED) (· = .cell) ((s.atDecision n io).stretchCycle n)
      ((((s.atDecision n io).stretchCycle n).refuseOffers n io.words).moveWords n io.words io.takes) :=
    State.moveWords_frame rfl (State.refuseOffers_frame rfl (Fr.refl _))
  rw [State.cycle_eq, State.askLane_cycles]
  refine (congrArg Est.cycles (State.ee_congr (hwords.part .est (by decide)) n)).trans ?_
  rw [State.stretchCycle_cycles, State.atDecision_cycles]

theorem State.cycle_count (s : State) (n : Nat) (io : CycleIn) :
    (s.cycle n io).rd .REGION_COUNT n
      = if s.osc n .counting then (s.rd .REGION_COUNT n + 1) % 2 ^ 48 else s.rd .REGION_COUNT n := by
  rw [(s.cycle_fr n io).obj _ _ _ (by decide), State.stretchCycle_count,
    (s.atDecision_fr n io).obj _ _ _ (by decide), State.openCycle_count]

theorem State.cycle_depth (s : State) (n : Nat) (io : CycleIn) :
    bits ((s.cycle n io).rd .DS_STATUS n) 8 4 = (s.atDecision n io).stretchDepth n :=
  (congrArg (bits · 8 4) ((s.cycle_fr n io).obj _ _ _ (by decide))).trans (State.stretchCycle_depth _ _)

/-- The depth of a cycle is permitted, and within what the three periods before leave of 24 eighths (R106). -/
theorem State.atDecision_depth (s : State) (n : Nat) (io : CycleIn) :
    (s.atDecision n io).stretchDepth n ∈ depths
      ∧ ((s.r n).last1 + (s.r n).last2 + (s.r n).last3 ≤ 24 →
          (s.atDecision n io).stretchDepth n + ((s.r n).last1 + (s.r n).last2 + (s.r n).last3) ≤ 24) := by
  have hsum : ((s.atDecision n io).r n).last1 + ((s.atDecision n io).r n).last2 + ((s.atDecision n io).r n).last3
      = (s.r n).last1 + (s.r n).last2 + (s.r n).last3 :=
    congrArg (fun a : StretchAccount => a.last1 + a.last2 + a.last3) (s.atDecision_account n io)
  refine ⟨decideStretch_mem _ _ _ _, fun h => ?_⟩
  rw [← hsum] at h ⊢
  exact decideStretch_le _ _ _ h

theorem Fr.mono {W W' : Obj → Prop} {Q Q' : Part → Prop} {s t : State} (h : Fr W Q s t) (hw : ∀ o, W o → W' o)
    (hq : ∀ p, Q p → Q' p) : Fr W' Q' s t :=
  ⟨fun o e i ho => h.obj o e i fun k => ho (hw o k), h.build, fun p hp => h.part p fun k => hp (hq p k)⟩

/-- Until its words move a cycle leaves the map of neighbours and the cells. -/
theorem State.atDecision_map (s : State) (n : Nat) (io : CycleIn) :
    State.Keeps [.NEIGHBOUR, .LINKS] [.cell] s (s.atDecision n io) := by
  have hclose : State.Keeps [.NEIGHBOUR, .LINKS] [.cell] s (s.closePeriod n io.dur) :=
    (s.closePeriod_fr n io.dur).mono (by decide) (by decide)
  have hcount : State.Keeps [.NEIGHBOUR, .LINKS] [.cell] s ((s.closePeriod n io.dur).countCycle n) :=
    State.modE_frame (by decide) (State.modR_frame (by decide) hclose)
  exact hcount.trans (((s.openCycle_fr n io).mono (by decide) (by decide)).trans
    ((s.atDecision_fr n io).mono (by decide) (by decide)))

/-- The cells of a cycle are those that its words leave of the cells before it. -/
theorem State.cycle_cell (s : State) (n : Nat) (io : CycleIn) : ∃ u, State.Keeps [.NEIGHBOUR, .LINKS] [.cell] s u
    ∧ ∀ a b, (s.cycle n io).c a b = (u.moveWords n io.words io.takes).c a b := by
  have hstretch : State.Keeps [.NEIGHBOUR, .LINKS] [.cell] s ((s.atDecision n io).stretchCycle n) := by
    apply State.stretchCycle_frame (h := s.atDecision_map n io) <;> decide
  refine ⟨((s.atDecision n io).stretchCycle n).refuseOffers n io.words, State.refuseOffers_frame (by decide) hstretch,
    fun a b => ?_⟩
  have hask : ∀ t : State, Fr (fun _ => False) (· = .est) t (t.askLane n) := fun t => State.askLane_frame rfl (Fr.refl t)
  exact State.c_congr ((hask _).part .cell (by decide)) a b

/-! ### The command -/

theorem regionCycle_runs {n : Nat} {s : State} (io : CycleIn) (h : s.cycling n = true) :
    exec (.regionCycle n io) s = .next (s.cycle n io) := by
  change execRegionCycle n io s = _
  unfold execRegionCycle
  rw [h, State.when_true]

/-- Settles O6: the account of the agent passes through the cycle to the Stretch Engine's decision, and each cell is moved by one
edge of the region in each direction. -/
theorem regionCycleAdvances : Obligations.RegionCycleAdvances := by
  unfold Obligations.RegionCycleAdvances
  refine ⟨?_, ?_, ?_, fun x p q w offer take => ⟨XLane.recv_send_tethered x p w take, fun hpq => ?_⟩, ?_⟩
  · intro n io s hcyc
    obtain ⟨hcycles, heighths, hlast1, hlast2, hlast3⟩ := Rgn.account_eq (s.cycle_account n io)
    obtain ⟨hdepth, hsum⟩ := s.atDecision_depth n io
    refine ⟨_, regionCycle_runs io hcyc, s.cycle_count n io, hcycles, s.cycle_cycles n io, hlast2, hlast3, ?_, fun h => ?_, ?_, ?_⟩
    · rw [hlast1]
      exact hdepth
    · rw [hlast1, hlast2, hlast3]
      exact (Nat.le_of_eq (by ring)).trans (hsum h)
    · rw [heighths, hlast1]
    · rw [s.cycle_depth, hlast1]
  · intro n e m i io s hcyc he hm hflow hi
    obtain ⟨u, hkeeps, hcell⟩ := s.cycle_cell n io
    have hbefore : u.c m (opposite e) = s.c m (opposite e) := State.c_congr (hkeeps.same .cell (by decide)) _ _
    have hsends := State.moveWords_sends (s := u) (words := io.words) (takes := io.takes) he
      ((State.neighbour_congr (hkeeps.rd (by decide) _ _) (hkeeps.rd (by decide) _ _)).trans hm) (hbefore ▸ hflow)
      ((hkeeps.rd (o := .LINKS) (by decide) _ _).symm ▸ hi)
    rw [← hcell, hbefore, State.laneBits_congr hkeeps.build] at hsends
    exact ⟨_, regionCycle_runs io hcyc, hsends⟩
  · intro n e m i io s hcyc he hm hself hflow hi
    obtain ⟨u, hkeeps, hcell⟩ := s.cycle_cell n io
    have hmap : ∀ e, u.neighbour n e = s.neighbour n e := fun e =>
      State.neighbour_congr (hkeeps.rd (by decide) _ _) (hkeeps.rd (by decide) _ _)
    have hbefore : u.c n e = s.c n e := State.c_congr (hkeeps.same .cell (by decide)) _ _
    have hreceives := State.moveWords_receives (s := u) (words := io.words) (takes := io.takes) he ((hmap e).trans hm)
      (hmap (opposite e) ▸ hself) (hbefore ▸ hflow) ((hkeeps.rd (o := .LINKS) (by decide) _ _).symm ▸ hi)
    rw [← hcell, hbefore] at hreceives
    exact ⟨_, regionCycle_runs io hcyc, hreceives⟩
  · rw [XLane.slot_send_tethered, if_neg hpq]
  · rintro x p w occ rfl
    exact x.send_decoupled p w

end Sys2Proof.Machine
end

section
/-! PROOF. An early droop decision in a period in which no depth is permitted (R102 to R104, R106, R115). -/

namespace Sys2Proof.Machine
open Sys2Proof

/-- The depth of the present period as DS_STATUS of region `n` shows it. -/
def State.shownDepth (s : State) (n : Nat) : Nat := bits (s.rd .DS_STATUS n) 8 4

/-- A flag of DS_STATUS below the depth leaves it. -/
theorem State.setDs_shownDepth (s : State) (n : Nat) {b : Nat} (v : Bool) (hb : b < 8) :
    (s.setDs n b v).shownDepth n = s.shownDepth n := by
  unfold State.shownDepth State.setDs State.setFlag
  rw [State.rd_wr_self, bits_mod (by decide)]
  exact bits_setBits_other (by omega)

theorem State.shownDepth_congr {s t : State} {n : Nat} (h : t.rd .DS_STATUS n = s.rd .DS_STATUS n) :
    t.shownDepth n = s.shownDepth n :=
  congrArg (bits · 8 4) h

/-- Region `n` has an unstretched present period that shows the depth `v`, after three periods that leave it none (R106). -/
structure State.Spent (n v : Nat) (s : State) : Prop where
  last1 : (s.r n).last1 = 0
  before : 24 ≤ (s.r n).last2 + (s.r n).last3 + (s.r n).last4
  shown : s.shownDepth n = v

theorem State.Spent.of_same {n v : Nat} {s t : State} (h : s.Spent n v) (hrgn : t.r n = s.r n)
    (hshown : t.shownDepth n = s.shownDepth n) : t.Spent n v :=
  ⟨hrgn ▸ h.last1, hrgn ▸ h.before, hshown.trans h.shown⟩

theorem State.Spent.setDs {n v : Nat} {s : State} (h : s.Spent n v) {b : Nat} (x : Bool) (hb : b < 8) :
    (s.setDs n b x).Spent n v :=
  h.of_same (State.r_congr (s.setFlag_rgn _ _ _ _) n) (s.setDs_shownDepth n x hb)

theorem State.Spent.wr {n v : Nat} {s : State} (h : s.Spent n v) {o : Obj} (x e i : Nat) (ho : Obj.DS_STATUS ≠ o) :
    (s.wr o x e i).Spent n v :=
  h.of_same (State.r_congr (s.wr_rgn _ _ _ _) n) (State.shownDepth_congr (State.rd_wr_other s ho _ _ _ _ _))

/-- A change of the agent's record that leaves the depths of the periods before, and the present period unstretched. -/
theorem State.Spent.modR {n v : Nat} {s : State} (h : s.Spent n v) {f : Rgn → Rgn}
    (hlast : ∀ r, r.last1 = 0 → (f r).last1 = 0)
    (hbefore : ∀ r, (f r).last2 + (f r).last3 + (f r).last4 = r.last2 + r.last3 + r.last4) : (s.modR n f).Spent n v := by
  refine ⟨?_, ?_, h.shown⟩
  · rw [State.r_modR_self]
    exact hlast _ h.last1
  · rw [State.r_modR_self, hbefore]
    exact h.before

theorem State.Spent.beginRun {n v : Nat} {s : State} (h : s.Spent n v) (d : Nat) : (s.beginRun n d).Spent n v := by
  have hflag : (s.setDs n 1 true).Spent n v := h.setDs true (by decide)
  have hcount : ((s.setDs n 1 true).inc .DS_TRIPS n).Spent n v := hflag.wr _ _ _ (by decide)
  unfold State.beginRun
  exact hcount.modR (fun _ => id) fun _ => rfl

/-- Such a period takes no depth from an early decision, and keeps the one it shows. -/
theorem State.Spent.stretchNow {n v : Nat} {s : State} (h : s.Spent n v) (x : Nat) : (s.stretchNow n x).Spent n v := by
  have hnone : permitted (min x (24 - ((s.r n).last2 + (s.r n).last3 + (s.r n).last4))) = 0 := by
    rw [Nat.sub_eq_zero_of_le h.before, Nat.min_zero]
    rfl
  unfold State.stretchNow
  dsimp only
  rw [hnone, bne_self_eq_false, State.when_false]
  exact State.Spent.modR (h.wr _ _ _ (by decide)) (fun _ _ => rfl) fun _ => rfl

/-- So does a sample, whatever it reads and whether it is early or not. -/
theorem State.Spent.sample {n v : Nat} {s : State} (h : s.Spent n v) (x : DsSample) : (s.sample n x).Spent n v := by
  unfold State.sample
  dsimp only
  generalize hrecord : State.modR _ n _ = recorded
  have hrecorded : recorded.Spent n v := by
    rw [← hrecord]
    apply State.Spent.modR
    · exact State.when_kept (P := State.Spent n v) (h.setDs _ (by decide)) fun t ht => ht.wr _ _ _ (by decide)
    · exact fun _ => id
    · exact fun _ => rfl
  split
  · exact State.when_kept (P := State.Spent n v) (hrecorded.beginRun _) fun t ht => ht.stretchNow _
  · exact hrecorded

theorem droopTrip_samples {n : Nat} {x : DsSample} {s : State} (h : s.cycling n = true) :
    exec (.droopTrip n x.readings x.early) s = .next (s.sample n x) := by
  change execDroopTrip n x.readings x.early s = _
  unfold execDroopTrip
  rw [h, State.when_true]

/-- One region, clocked, whose only sensor is enabled; its three periods before the present one were stretched in full, and its
edge has just been released from a parked hold, which DS_STATUS still shows as a depth of 8 (R109). -/
def releasedHold : State :=
  (((((((State.zero loneRegion).setOsc 0 .running true).wr .DS_COUNT 1).wr .DS_ENABLE 1).wr .DS_ROUTER_MASK 1).wr .DS_THRESH
    (20 + 3 * 2 ^ 8)).modR 0 fun r => { r with last2 := 8, last3 := 8, last4 := 8 }).parkEnd 0 {}

/-- A reading below the threshold, decided in time to reach the present period. -/
def earlyTrip : DsSample := { readings := [(0, 5)], early := true }

/-- Refutes O12 by its clause of an early decision: with 24 eighths in the three periods before, no depth is permitted, so the
period is charged nothing and DS_STATUS goes on showing the hold released in it, which is not the depth applied. -/
theorem not_droopRunsBeginAndEnd : ¬ Obligations.DroopRunsBeginAndEnd := by
  unfold Obligations.DroopRunsBeginAndEnd
  rintro ⟨-, hearly, -⟩
  have hcyc : releasedHold.cycling 0 = true := by decide +kernel
  have hspent : releasedHold.Spent 0 8 := ⟨by decide +kernel, by decide +kernel, by decide +kernel⟩
  obtain ⟨t, ht, -, -, -, -, hshown⟩ := hearly 0 earlyTrip releasedHold hcyc (by decide +kernel) rfl (by decide +kernel)
    hspent.last1 (by decide +kernel)
  have hsame : releasedHold.sample 0 earlyTrip = t := Host.Outcome.next.inj ((droopTrip_samples hcyc).symm.trans ht)
  have hafter : t.Spent 0 8 := hsame ▸ hspent.sample earlyTrip
  have hdepth : 8 = 0 := hafter.shown.symm.trans (hshown.trans hafter.last1)
  cases hdepth

end Sys2Proof.Machine
end

section
/-! PROOF. The end of a parked hold behind which another waits (R109, R277). -/

namespace Sys2Proof.Machine
open Sys2Proof

/-- A released region takes up the hold that was given to it while it was parked. -/
theorem parkRelease_takesNext {n : Nat} {p : Park} {s : State} (hpark : (s.r n).park = some p) (hheld : p.parked = true)
    (htime : p.release < s.T + 16000) :
    ∃ t, exec (.parkRelease n) s = .next t ∧ (t.r n).park = (s.r n).nextPark := by
  refine ⟨s.parkEnd n p, ?_, ?_⟩
  · change execParkRelease n s = _
    unfold execParkRelease
    rw [hpark]
    simp only [hheld, htime, decide_true, Bool.and_true, State.when_true]
  · unfold State.parkEnd
    dsimp only
    rw [State.r_congr (State.wr_rgn _ _ _ _ _), State.r_modR_self]
    rfl

/-- A region is parked until now, and the park at count 5 has been broadcast to it meanwhile. -/
def parkedTwice : State :=
  (State.zero {}).modR 0 fun r => { r with park := some { parked := true }, nextPark := some { count := 5 } }

/-- Refutes O13 by its clause of PARK_RELEASE, which does not exclude a next park: the region released takes it up (R277), so
that it is not left without one. -/
theorem not_parksSlipFaultsAndTags : ¬ Obligations.ParksSlipFaultsAndTags := by
  unfold Obligations.ParksSlipFaultsAndTags
  rintro ⟨-, hrelease, -⟩
  have hpark : (parkedTwice.r 0).park = some { parked := true } := by decide
  have hnext : (parkedTwice.r 0).nextPark = some { count := 5 } := by decide
  have htime : (0 : Nat) < parkedTwice.T + 16000 := Nat.succ_pos _
  obtain ⟨t, ht, hnone, -⟩ := hrelease 0 { parked := true } parkedTwice hpark rfl htime
  obtain ⟨u, hu, htakes⟩ := parkRelease_takesNext hpark rfl htime
  have hsame : u = t := Host.Outcome.next.inj (hu.symm.trans ht)
  rw [hsame, hnone, hnext] at htakes
  cases htakes

end Sys2Proof.Machine
end

section
/-! PROOF. Counts compared modulo 2^48, and parked holds given by them (R25, R109, R119, R277). -/

namespace Sys2Proof.Machine
open Sys2Proof

theorem passed_iff (a b : Nat) : passed a b = true ↔ ((a : Int) - (b : Int)) % 2 ^ 48 < 2 ^ 47 := by
  unfold passed
  rw [decide_eq_true_eq]
  omega

/-- The agent's record with the hold `p` given to it: behind the hold that has it parked, where there is one (R277). -/
def Rgn.takePark (r : Rgn) (p : Park) : Rgn :=
  if (r.park.map (·.parked)).getD false then { r with nextPark := some p } else { r with park := some p }

theorem Rgn.takePark_parked {r : Rgn} (h : r.park.any (·.parked) = true) (p : Park) :
    (r.takePark p).nextPark = some p ∧ (r.takePark p).park = r.park := by
  have hparked : (r.park.map (·.parked)).getD false = true := by
    cases hp : r.park with
    | none => rw [hp] at h; cases h
    | some q => rwa [hp] at h
  unfold Rgn.takePark
  rw [if_pos hparked]
  exact ⟨rfl, rfl⟩

theorem Rgn.takePark_free {r : Rgn} (h : ¬ r.park.any (·.parked) = true) (p : Park) : (r.takePark p).park = some p := by
  have hfree : ¬ (r.park.map (·.parked)).getD false = true := by
    cases hp : r.park with
    | none => decide
    | some q => rwa [hp] at h
  unfold Rgn.takePark
  rw [if_neg hfree]

section
variable {s : State} {n count : Nat} (release : Nat) (thermal : Bool)

theorem State.givePark_late (hcounting : s.osc n .counting = true) (hpassed : passed (s.rd .REGION_COUNT n) count = true) :
    s.givePark n count release thermal = s.raiseFault .lateChange 0 n 1 := by
  unfold State.givePark
  rw [hcounting, hpassed]
  rfl

theorem State.givePark_ahead (h : s.osc n .counting = false ∨ ¬ passed (s.rd .REGION_COUNT n) count = true) :
    s.givePark n count release thermal
      = s.modR n (·.takePark { count := count, release := release, thermal := thermal }) := by
  have hahead : (s.osc n .counting && passed (s.rd .REGION_COUNT n) count) = false := by
    rw [Bool.and_eq_false_iff, ← Bool.not_eq_true (passed _ _)]
    exact h
  unfold State.givePark
  rw [hahead]
  rfl

end

/-- Settles O9: the park test is the comparison of R119, and what it lets through is given to the agent. -/
theorem countsPassModulo : Obligations.CountsPassModulo := by
  unfold Obligations.CountsPassModulo
  refine ⟨passed_iff, fun s n count release thermal => ⟨fun hcounting hlate => ?_, fun hahead => ?_⟩⟩
  · rw [State.givePark_late release thermal hcounting ((passed_iff _ _).2 hlate)]
    exact ⟨State.raiseFault_faulted _ _ _ _ rfl rfl, rfl⟩
  · rw [State.givePark_ahead release thermal (hahead.imp_right (passed_iff _ _).not.2), State.r_modR_self]
    refine ⟨?_, State.modR_flt _ _ _⟩
    split
    · next hparked => exact Rgn.takePark_parked hparked _
    · next hfree => exact Rgn.takePark_free hfree _

end Sys2Proof.Machine
end

section
/-! PROOF. Slip and the tether in a region cycle (R123 to R129, R536). -/

namespace Sys2Proof.Machine
open Sys2Proof

/-! ### The ladder of levels (R126, R129) -/

/-- The level that R126 gives a lead on the ladder before its rung for a lead of 3: engaged, one rung up, or held. -/
def climbLevel (esc level dwell : Nat) (rising : Bool) : Nat :=
  if level = 0 then 1 else if rising then (if esc ≤ dwell + 1 then min 4 (level + 1) else level) else level

theorem climbLevel_le (esc level dwell : Nat) (rising : Bool) (h : level ≤ 4) :
    climbLevel esc level dwell rising ≤ 4 ∧ climbLevel esc level dwell rising ≤ level + 1 := by
  unfold climbLevel
  split
  · omega
  · split
    · split <;> omega
    · omega

section
variable (trim : Bool) (bank engage esc level dwell : Nat) (lead old : Int)

theorem tetherLevel_slack (h : lead < if trim then 1 else (engage : Int)) :
    (tetherLevel trim bank engage esc level dwell lead old).level = 0 := by
  unfold tetherLevel
  dsimp only
  rw [if_pos h]

theorem tetherLevel_top (hengaged : (if trim then 1 else (engage : Int)) ≤ lead) (h : 4 ≤ lead) :
    (tetherLevel trim bank engage esc level dwell lead old).level = 4 := by
  unfold tetherLevel
  dsimp only
  rw [if_neg (not_lt.2 hengaged), if_pos h]

/-- An engaged lead below 4 releases the tether where it does not rise; else the level is that of the ladder, at least 3 for a
lead of 3, and at most 1 in trim mode. -/
theorem tetherLevel_ladder (hengaged : (if trim then 1 else (engage : Int)) ≤ lead) (h : lead < 4) :
    ((tetherLevel trim bank engage esc level dwell lead old).level = 0 ∧ lead ≤ old)
      ∨ (trim = true ∧ (tetherLevel trim bank engage esc level dwell lead old).level ≤ 1)
      ∨ (trim = false ∧ (tetherLevel trim bank engage esc level dwell lead old).level
          = if lead = 3 then max (climbLevel esc level dwell (decide (old < lead))) 3
            else climbLevel esc level dwell (decide (old < lead))) := by
  have hstep : ∀ rising : Bool, (if level = 0 then ((1, 0) : Nat × Nat)
      else if rising then (if esc ≤ dwell + 1 then (min 4 (level + 1), 0) else (level, dwell + 1)) else (level, dwell)).1
        = climbLevel esc level dwell rising := by
    intro rising
    unfold climbLevel
    split
    · rfl
    · split
      · split <;> rfl
      · rfl
  unfold tetherLevel
  dsimp only
  rw [if_neg (not_lt.2 hengaged), if_neg (not_le.2 h)]
  generalize (if trim then (0 : Int) else bank) = low
  split
  · next hfalls =>
    obtain ⟨-, hfalls, -⟩ := hfalls
    exact .inl ⟨rfl, not_lt.1 (of_decide_eq_false hfalls)⟩
  · split
    · next hfalls => exact .inl ⟨rfl, not_lt.1 (of_decide_eq_false hfalls.2)⟩
    · rw [hstep]
      cases trim
      · refine .inr (.inr ⟨rfl, ?_⟩)
        simp
      · exact .inr (.inl ⟨rfl, Nat.min_le_right _ _⟩)

/-- The bounds of R126 and R129 on the level of a cycle. -/
theorem tetherLevel_bounds (hlevel : level ≤ 4) :
    let t := tetherLevel trim bank engage esc level dwell lead old
    t.level ≤ 4 ∧ (trim = true → lead < 4 → t.level ≤ 1)
      ∧ (trim = false → lead = 3 → (engage : Int) ≤ 3 → old < 3 → 3 ≤ t.level)
      ∧ (trim = false → lead < 3 → t.level ≤ level + 1) := by
  intro t
  have hclimb := climbLevel_le esc level dwell (decide (old < lead)) hlevel
  by_cases hengaged : (if trim then 1 else (engage : Int)) ≤ lead
  · by_cases h4 : lead < 4
    · rcases tetherLevel_ladder trim bank engage esc level dwell lead old hengaged h4 with
        ⟨hzero, hfalls⟩ | ⟨htrim, hone⟩ | ⟨htrim, hladder⟩
      · change t.level = 0 at hzero
        omega
      · change t.level ≤ 1 at hone
        rw [htrim]
        refine ⟨by omega, fun _ _ => hone, fun h => ?_, fun h => ?_⟩ <;> cases h
      · change t.level = _ at hladder
        have hnot : ¬ trim = true := by rw [htrim]; decide
        by_cases h3 : lead = 3
        · rw [if_pos h3] at hladder
          exact ⟨by omega, fun h => absurd h hnot, by omega, by omega⟩
        · rw [if_neg h3] at hladder
          exact ⟨by omega, fun h => absurd h hnot, by omega, by omega⟩
    · have htop : t.level = 4 := tetherLevel_top _ _ _ _ _ _ _ _ hengaged (not_lt.1 h4)
      omega
  · have hzero : t.level = 0 := tetherLevel_slack _ _ _ _ _ _ _ _ (not_le.1 hengaged)
    refine ⟨by omega, by omega, fun htrim hlead hen => ?_, by omega⟩
    rw [htrim, hlead] at hengaged
    exact absurd hen hengaged

end

/-! ### What the tether reads -/

/-- What the agent keeps of the tether and of its slip samples. -/
structure TetherAgent where
  level : Nat
  dwell : Nat
  bank : Nat
  escDwell : Nat
  leadHist : List Int
  slip1 : Tab Int
  slip2 : Tab Int

/-- The tether's part of an agent's record. -/
def Rgn.tether (r : Rgn) : TetherAgent := ⟨r.level, r.dwell, r.bank, r.escDwell, r.leadHist, r.slip1, r.slip2⟩

/-- The objects that the tether reads. -/
def tetherReads : List Obj := [.NEIGHBOUR, .LINKS, .TETHER_GROUP_ACTIVE, .TETHER_BANK, .TETHER_ESC_DWELL, .SLIP_ENGAGE]

/-- `t` has of `s` what the tether of region `n` reads: its agent's samples and level, the crossings and groups with the objects
that name them, and the injection of a slip. -/
structure State.TetherKept (n : Nat) (s t : State) : Prop where
  keeps : State.Keeps tetherReads [.cell, .grp] s t
  agent : (t.r n).tether = (s.r n).tether
  inject : t.injAt 5 = s.injAt 5

namespace State.TetherKept
variable {n : Nat} {s t u : State}

theorem refl (n : Nat) (s : State) : TetherKept n s s := ⟨Fr.refl s, rfl, rfl⟩

theorem trans (h : TetherKept n s t) (k : TetherKept n t u) : TetherKept n s u :=
  ⟨h.keeps.trans k.keeps, k.agent.trans h.agent, k.inject.trans h.inject⟩

theorem modR (h : TetherKept n s t) {f : Rgn → Rgn} (hf : ∀ r, (f r).tether = r.tether) : TetherKept n s (t.modR n f) :=
  ⟨State.modR_frame (by decide) h.keeps, (by rw [State.r_modR_self, hf, h.agent]), h.inject⟩

theorem modE (h : TetherKept n s t) (f : Est → Est) : TetherKept n s (t.modE n f) :=
  ⟨State.modE_frame (by decide) h.keeps, h.agent, h.inject⟩

theorem wr (h : TetherKept n s t) {o : Obj} (ho : o ∉ tetherReads) (v e i : Nat) : TetherKept n s (t.wr o v e i) :=
  ⟨State.wr_frame ho h.keeps, (congrArg Rgn.tether (State.r_congr (State.wr_rgn _ _ _ _ _) n)).trans h.agent, h.inject⟩

theorem addWrap (h : TetherKept n s t) {o : Obj} (ho : o ∉ tetherReads) (v e i : Nat) : TetherKept n s (t.addWrap o v e i) :=
  h.wr ho _ _ _

theorem setDs (h : TetherKept n s t) (b : Nat) (v : Bool) : TetherKept n s (t.setDs n b v) := h.wr (by decide) _ _ _

end State.TetherKept

/-! ### The cycle up to the tether keeps what it reads -/

theorem State.injAt_of_cur {s : State} {x : Inj} (h : s.inj.cur = some x) (p : Nat) :
    s.injAt p = if x.point == p then some x else none := by
  unfold State.injAt
  rw [h, Option.filter_some]

theorem State.injAt_none_of_other {s : State} {x : Inj} {p q : Nat} (h : s.inj.cur = some x) (hp : x.point = p) (hne : p ≠ q) :
    s.injAt q = none := by
  rw [State.injAt_of_cur h, hp, beq_false_of_ne hne]
  rfl

theorem State.endInjection_none (s : State) (result p : Nat) : (s.endInjection result).injAt p = none := by
  have hinj : (s.endInjection result).inj.cur = none := by
    unfold State.endInjection State.when
    split <;> rfl
  unfold State.injAt
  rw [hinj]
  rfl

theorem State.endPeriod_tetherKept (s : State) (n dur : Nat) : TetherKept n s (s.endPeriod n dur) := by
  have hkeeps : State.Keeps tetherReads [.cell, .grp] s (s.endPeriod n dur) := by
    apply State.endPeriod_frame (h := Fr.refl s) <;> decide
  suffices h : ((s.endPeriod n dur).r n).tether = (s.r n).tether ∧ (s.endPeriod n dur).injAt 5 = s.injAt 5 from
    ⟨hkeeps, h.1, h.2⟩
  unfold State.endPeriod
  dsimp only
  generalize hended : s.modR n _ = ended
  have hagent : (ended.r n).tether = (s.r n).tether := by
    rw [← hended, State.r_modR_self]
    rfl
  have hinject : ended.injAt 5 = s.injAt 5 := hended ▸ rfl
  split
  · next x hx =>
    obtain ⟨hcur, hpoint⟩ := Option.filter_eq_some_iff.1 hx
    have hnone : ended.injAt 5 = none := State.injAt_none_of_other hcur (eq_of_beq hpoint) (by decide)
    split
    · split
      · refine ⟨(congrArg Rgn.tether (State.r_congr (ended.endInjection_rgn 1) n)).trans hagent, ?_⟩
        rw [State.endInjection_none, ← hinject, hnone]
      · refine ⟨hagent, ?_⟩
        rw [← hinject, hnone]
        exact State.injAt_none_of_other rfl (eq_of_beq hpoint) (by decide)
    · exact ⟨hagent, hinject⟩
  · exact ⟨hagent, hinject⟩

theorem State.endRun_tetherKept (s : State) (n : Nat) : TetherKept n s (s.endRun n) := by
  have hflag : ∀ v, TetherKept n s (s.setDs n 1 v) := fun v => (State.TetherKept.refl n s).setDs 1 v
  unfold State.endRun
  split
  · unfold State.stopRun
    exact (hflag false).modR fun _ => rfl
  · have hcount : TetherKept n s ((s.setDs n 1 true).inc .DS_TRIPS n) := (hflag true).wr (by decide) _ _ _
    unfold State.beginRun
    exact hcount.modR fun _ => rfl

theorem State.countCycle_tetherKept (s : State) (n : Nat) : TetherKept n s (s.countCycle n) := by
  unfold State.countCycle
  refine State.TetherKept.modE ?_ _
  exact (State.TetherKept.refl n s).modR fun _ => rfl

theorem State.advanceTime_tetherKept (s : State) (n dur : Nat) : TetherKept n s (s.advanceTime n dur) := by
  have htime : ∀ v, TetherKept n s (s.addWrap .REGION_TIME v n) := fun v =>
    (State.TetherKept.refl n s).addWrap (by decide) _ _ _
  unfold State.advanceTime
  exact (htime _).modR fun _ => rfl

theorem State.openCycle_tetherKept (s : State) (n : Nat) (io : CycleIn) : TetherKept n s (s.openCycle n io) := by
  have hclose : TetherKept n s (s.closePeriod n io.dur) :=
    State.when_kept (s.endPeriod_tetherKept n io.dur) fun t ht => ht.trans (t.endRun_tetherKept n)
  exact State.when_kept (State.when_kept (hclose.trans (State.countCycle_tetherKept _ n)) fun t ht => ht.wr (by decide) _ _ _)
    fun t ht => ht.trans (t.advanceTime_tetherKept n io.dur)

theorem State.copyTags_tetherKept (s : State) (n : Nat) : TetherKept n s (s.copyTags n) := by
  unfold State.copyTags
  exact (State.TetherKept.refl n s).modR fun _ => rfl

/-- The state in which a cycle measures slip. -/
def State.atSlip (s : State) (n : Nat) (io : CycleIn) : State := (s.openCycle n io).copyTags n

theorem State.atSlip_tetherKept (s : State) (n : Nat) (io : CycleIn) : TetherKept n s (s.atSlip n io) :=
  (s.openCycle_tetherKept n io).trans (State.copyTags_tetherKept _ n)

/-! ### What the tether decides from it -/

/-- The largest measured slip of region `n` (R126). -/
def State.leadNow (s : State) (n late : Nat) : Int :=
  ((leadOf ((edges.filter (s.measured n)).map fun e => (e, s.slipM n e (bit late e)))).map (·.2)).getD 0

/-- The tether's decision for that lead. -/
def State.tetherNow (s : State) (n late : Nat) : Tether :=
  tetherLevel (s.trimming n) (if (s.r n).level = 0 then s.rd .TETHER_BANK else (s.r n).bank) (s.rd .SLIP_ENGAGE)
    (if (s.r n).level = 0 then s.rd .TETHER_ESC_DWELL else (s.r n).escDwell) (s.r n).level (s.r n).dwell (s.leadNow n late)
    ((s.r n).leadHist.getD 3 0)

namespace State.TetherKept
variable {n : Nat} {s t : State}

theorem level (h : TetherKept n s t) : (t.r n).level = (s.r n).level := congrArg TetherAgent.level h.agent

theorem dwell (h : TetherKept n s t) : (t.r n).dwell = (s.r n).dwell := congrArg TetherAgent.dwell h.agent

theorem leadHist (h : TetherKept n s t) : (t.r n).leadHist = (s.r n).leadHist := congrArg TetherAgent.leadHist h.agent

theorem measured (h : TetherKept n s t) (e : Nat) : t.measured n e = s.measured n e := by
  unfold State.measured
  rw [State.neighbour_congr (h.keeps.rd (by decide) _ _) (h.keeps.rd (by decide) _ _),
    State.c_congr (h.keeps.same .cell (by decide))]

theorem slipM (h : TetherKept n s t) (e : Nat) (late : Bool) : t.slipM n e late = s.slipM n e late := by
  have h1 : (t.r n).slip1 = (s.r n).slip1 := congrArg TetherAgent.slip1 h.agent
  have h2 : (t.r n).slip2 = (s.r n).slip2 := congrArg TetherAgent.slip2 h.agent
  unfold State.slipM State.slipOffset
  dsimp only
  rw [h1, h2, h.inject, h.measured]

theorem leadNow (h : TetherKept n s t) (late : Nat) : t.leadNow n late = s.leadNow n late := by
  have hmeasured : t.measured n = s.measured n := funext h.measured
  unfold State.leadNow
  simp only [hmeasured, h.slipM]

theorem trimming (h : TetherKept n s t) : t.trimming n = s.trimming n := by
  unfold State.trimming State.groupOf
  rw [h.keeps.rd (by decide), State.g_congr (h.keeps.same .grp (by decide))]

theorem tetherNow (h : TetherKept n s t) (late : Nat) : t.tetherNow n late = s.tetherNow n late := by
  have hbank : (t.r n).bank = (s.r n).bank := congrArg TetherAgent.bank h.agent
  have hesc : (t.r n).escDwell = (s.r n).escDwell := congrArg TetherAgent.escDwell h.agent
  unfold State.tetherNow
  rw [h.level, h.dwell, hbank, hesc, h.leadHist, h.trimming, h.leadNow, h.keeps.rd (o := .TETHER_BANK) (by decide),
    h.keeps.rd (o := .TETHER_ESC_DWELL) (by decide), h.keeps.rd (o := .SLIP_ENGAGE) (by decide)]

end State.TetherKept

/-! ### What the tether sets (R124 to R126) -/

/-- The slips of the four edges of region `n` are shown. -/
def State.showSlips (s : State) (n late : Nat) : State :=
  s.each edges fun u e =>
    u.wrInt .SLIP (if (edges.filter (s.measured n)).contains e then s.slipM n e (bit late e) else 0) n e

theorem ofInt_lt (w : Nat) (z : Int) : ofInt w z < 2 ^ w := by
  have hpos : (0 : Int) < ((2 ^ w : Nat) : Int) := by positivity
  have hlow := Int.emod_nonneg z hpos.ne'
  have hhigh := Int.emod_lt_of_pos z hpos
  unfold ofInt
  omega

theorem State.rd_wrInt_self (s : State) (o : Obj) (z : Int) (e i : Nat) : (s.wrInt o z e i).rd o e i = ofInt (objBits o) z := by
  rw [State.wrInt, State.rd_wr_self, Nat.mod_eq_of_lt (ofInt_lt _ _)]

/-- Values written to the edges of region `n` are read back. -/
theorem State.each_edge_wrInt (s : State) (o : Obj) (z : Nat → Int) (n : Nat) {e : Nat} (he : e < 4) :
    (s.each edges fun u e => u.wrInt o (z e) n e).rd o n e = ofInt (objBits o) (z e) := by
  refine State.each_once (I := fun _ => True) (P := fun t => t.rd o n e = ofInt (objBits o) (z e))
    (f := fun u e => u.wrInt o (z e) n e) edges_nodup (mem_edges.2 he) (fun _ _ _ _ _ => trivial)
    (fun t _ => t.rd_wrInt_self _ _ _ _) (fun t y _ hne ht => ?_) trivial
  rw [State.wrInt, State.rd_wr, if_neg fun ⟨_, _, hey⟩ => hne hey.symm]
  exact ht

theorem State.showSlips_slip (s : State) (n late : Nat) {e : Nat} (he : e < 4) :
    (s.showSlips n late).rd .SLIP n e = ofInt (objBits .SLIP) (if s.measured n e then s.slipM n e (bit late e) else 0) := by
  have hmem : (edges.filter (s.measured n)).contains e = s.measured n e := by
    rw [Bool.eq_iff_iff, List.contains_iff_mem, List.mem_filter, and_iff_right (mem_edges.2 he)]
  rw [← hmem]
  exact State.each_edge_wrInt _ _ _ _ he

theorem State.showSlips_rgn (s : State) (n late : Nat) : (s.showSlips n late).rgn = s.rgn :=
  State.each_same State.rgn _ (fun _ _ => rfl) edges s

/-- After the slips are shown the tether sets its agent's level, dwell and leads, and shows and counts them. -/
theorem State.tetherCycle_eq (s : State) (n late : Nat) : ∃ (f : Rgn → Rgn) (engages injected : Bool) (status : Nat),
    s.tetherCycle n late = ((((s.showSlips n late).modR n f).when engages fun u => u.inc .TETHER_ENGAGES n).wr .TETHER_STATUS
        status n).when injected (fun u => u.endInjection 1)
      ∧ ∀ r, (f r).level = (s.tetherNow n late).level ∧ (f r).dwell = (s.tetherNow n late).dwell
        ∧ (f r).leadHist = s.leadNow n late :: r.leadHist.take 3 := by
  unfold State.tetherCycle
  exact ⟨_, _, _, _, rfl, fun _ => ⟨rfl, rfl, rfl⟩⟩

theorem State.tetherCycle_slip (s : State) (n late : Nat) {e : Nat} (he : e < 4) :
    (s.tetherCycle n late).rd .SLIP n e = ofInt (objBits .SLIP) (if s.measured n e then s.slipM n e (bit late e) else 0) := by
  have hend : ∀ t : State, (t.endInjection 1).rd .SLIP n e = t.rd .SLIP n e := fun t => by
    have hkeeps : State.Keeps [.SLIP] [] t (t.endInjection 1) := by
      apply State.endInjection_frame (h := Fr.refl t) <;> decide
    exact hkeeps.rd (by decide) _ _
  obtain ⟨f, engages, injected, status, heq, -⟩ := s.tetherCycle_eq n late
  rw [heq, State.when_same (·.rd .SLIP n e) _ hend, State.rd_wr_other _ (by decide),
    State.when_same (·.rd .SLIP n e) _ fun t => t.rd_inc_other (by decide) _ _ _ _, State.rd_modR]
  exact s.showSlips_slip n late he

theorem State.tetherCycle_agent (s : State) (n late : Nat) :
    ((s.tetherCycle n late).r n).level = (s.tetherNow n late).level
      ∧ ((s.tetherCycle n late).r n).dwell = (s.tetherNow n late).dwell
      ∧ ((s.tetherCycle n late).r n).leadHist = s.leadNow n late :: (s.r n).leadHist.take 3 := by
  obtain ⟨f, engages, injected, status, heq, hf⟩ := s.tetherCycle_eq n late
  have hr : (s.tetherCycle n late).r n = f (s.r n) := by
    rw [heq, State.when_same (·.r n) _ fun t => State.r_congr (t.endInjection_rgn 1) n, State.r_congr (State.wr_rgn _ _ _ _ _),
      State.when_same (·.r n) _ fun t => State.r_congr (t.inc_rgn _ _ _) n, State.r_modR_self,
      State.r_congr (s.showSlips_rgn n late)]
  rw [hr]
  exact hf _

/-! ### The rest of the cycle -/

/-- An operation that leaves the agents and the injection too keeps what the tether reads. -/
theorem State.TetherKept.of_keeps {n : Nat} {s t : State} (h : State.Keeps tetherReads [.cell, .grp, .rgn, .inj] s t) :
    TetherKept n s t :=
  ⟨h.mono (fun _ ho => ho) fun _ hp hs => hp (List.mem_append_left [Part.rgn, Part.inj] hs),
    congrArg Rgn.tether (State.r_congr (h.same .rgn (by decide)) n),
    congrArg (fun j : Injection => j.cur.filter fun x : Inj => x.point == 5) (h.same .inj (by decide))⟩

theorem State.chargeTether_tetherKept (s : State) (n d : Nat) (t : Tag) : TetherKept n s (s.chargeTether n d t) := by
  unfold State.chargeTether
  split
  · exact (State.TetherKept.refl n s).modR fun _ => rfl
  · exact ((State.TetherKept.refl n s).addWrap (by decide) _ _ _).modE _

theorem State.chargePeriod_tetherKept (s : State) (n d : Nat) (who : Charge) : TetherKept n s (s.chargePeriod n d who) := by
  have hcount : TetherKept n s ((s.countStretch n d who).countWindow n d who) := by
    refine State.TetherKept.modE (State.TetherKept.of_keeps ?_) _
    apply State.countStretch_frame (h := Fr.refl s) <;> decide
  have hcharged : ∀ lead, TetherKept n s (if who = .tether then
      ((s.countStretch n d who).countWindow n d who).chargeTether n d lead
      else (s.countStretch n d who).countWindow n d who) := fun lead => by
    split
    · exact hcount.trans (State.chargeTether_tetherKept _ _ _ _)
    · exact hcount
  unfold State.chargePeriod
  refine State.TetherKept.wr ?_ (by decide) _ _ _
  exact (hcharged _).modR fun _ => rfl

theorem State.stretchCycle_tetherKept (s : State) (n : Nat) : TetherKept n s (s.stretchCycle n) := by
  have hrefused : ∀ v, TetherKept n s (s.addWrap .STRETCH_REFUSED v n) := fun v =>
    (State.TetherKept.refl n s).addWrap (by decide) _ _ _
  unfold State.stretchCycle
  exact ((hrefused _).trans (State.chargePeriod_tetherKept _ _ _ _)).modR fun _ => rfl

theorem State.cycle_r (s : State) (n : Nat) (io : CycleIn) : (s.cycle n io).r n = ((s.atDecision n io).stretchCycle n).r n :=
  State.r_congr ((s.cycle_fr n io).part .rgn (by decide)) n

theorem State.cycle_slip (s : State) (n : Nat) (io : CycleIn) (e : Nat) :
    (s.cycle n io).rd .SLIP n e = (s.atDecision n io).rd .SLIP n e := by
  have hstretch : State.Keeps [.SLIP] [] (s.atDecision n io) ((s.atDecision n io).stretchCycle n) := by
    apply State.stretchCycle_frame (h := Fr.refl _) <;> decide
  rw [(s.cycle_fr n io).obj _ _ _ (by decide), hstretch.rd (by decide)]

/-- What a cycle measures and decides, from the state before it. -/
theorem State.cycle_tethers (s : State) (n : Nat) (io : CycleIn) :
    (∀ e, e < 4 → (s.cycle n io).rd .SLIP n e
        = ofInt (objBits .SLIP) (if s.measured n e then s.slipM n e (bit io.late e) else 0))
      ∧ ((s.cycle n io).r n).level = (s.tetherNow n io.late).level
      ∧ ((s.cycle n io).r n).dwell = (s.tetherNow n io.late).dwell
      ∧ ((s.cycle n io).r n).leadHist = s.leadNow n io.late :: (s.r n).leadHist.take 3 := by
  have hkept := s.atSlip_tetherKept n io
  have hafter := State.stretchCycle_tetherKept (s.atDecision n io) n
  obtain ⟨hlevel, hdwell, hhist⟩ := (s.atSlip n io).tetherCycle_agent n io.late
  rw [hkept.tetherNow] at hlevel hdwell
  rw [hkept.leadNow, hkept.leadHist] at hhist
  rw [s.cycle_r]
  refine ⟨fun e he => ?_, hafter.level.trans hlevel, hafter.dwell.trans hdwell, hafter.leadHist.trans hhist⟩
  rw [← hkept.measured, ← hkept.slipM, s.cycle_slip]
  exact (s.atSlip n io).tetherCycle_slip n io.late he

/-- Settles O7: what the tether reads passes unchanged through the start of the cycle, and what it sets through the rest; the
bounds are those of the ladder of R126. -/
theorem regionCycleMeasuresSlip : Obligations.RegionCycleMeasuresSlip := by
  unfold Obligations.RegionCycleMeasuresSlip
  refine ⟨fun n io s hcyc => ⟨_, regionCycle_runs io hcyc, s.cycle_tethers n io⟩, ?_⟩
  intro trim bank engage esc level dwell lead old _ hlevel
  obtain ⟨hfour, htrim, hthird, hclimb⟩ := tetherLevel_bounds trim bank engage esc level dwell lead old hlevel
  exact ⟨hfour, fun h hengaged => tetherLevel_top _ _ _ _ _ _ _ _ hengaged h, tetherLevel_slack _ _ _ _ _ _ _ _, htrim, hthird,
    hclimb⟩

end Sys2Proof.Machine
end

section
/-! PROOF. Pointer loads and checks, the resync of count 24, islands and the end of trim (R140, R143, R153, R154, R161, R162). -/

namespace Sys2Proof.Machine
open Sys2Proof

/-! ### The halves of a cell -/

theorem Cell.half_withHalf_self (k : Cell) (wr : Bool) (h : Half) : (k.withHalf wr h).half wr = h := by
  cases wr <;> rfl

theorem Cell.half_withHalf_other (k : Cell) {wr wr' : Bool} (h : Half) (hne : wr' ≠ wr) :
    (k.withHalf wr h).half wr' = k.half wr' := by
  cases wr <;> cases wr'
  · cases hne rfl
  · rfl
  · rfl
  · cases hne rfl

/-! ### POINTER_LOAD (R153, R161) -/

/-- The load that leaves at `count` for a half of region `n`. -/
def State.loadFor (s : State) (n e : Nat) (wr : Bool) (count : Nat) : Nat × Nat :=
  (s.pathDepth n e wr, (count + s.pathDepth n e wr + if wr then 0 else 8) % 16)

theorem State.loadFor_congr {s t : State} (h : t.build = s.build) (n e : Nat) (wr : Bool) (count : Nat) :
    t.loadFor n e wr count = s.loadFor n e wr count := by
  unfold State.loadFor State.pathDepth
  rw [h]

theorem State.sendLoad_self (s : State) (n e : Nat) (wr : Bool) (count : Nat) :
    (((s.sendLoad n e wr count).c n e).half wr).load = some (s.loadFor n e wr count) := by
  unfold State.sendLoad
  rw [State.c_modC_self, Cell.half_withHalf_self]
  rfl

/-- A load leaves every other half as it is. -/
theorem State.sendLoad_other (s : State) {n e a b : Nat} {wr wr' : Bool} (count : Nat) (he : e < 4) (hb : b < 4)
    (h : ¬(a = n ∧ b = e ∧ wr' = wr)) : ((s.sendLoad n e wr count).c a b).half wr' = (s.c a b).half wr' := by
  unfold State.sendLoad
  by_cases hcell : a = n ∧ b = e
  · obtain ⟨rfl, rfl⟩ := hcell
    rw [State.c_modC_self, Cell.half_withHalf_other _ _ fun hwr => h ⟨rfl, rfl, hwr⟩]
  · rw [State.c_modC_other _ _ hb he hcell]

/-- One edge of POINTER_LOAD. -/
def State.loadEdge (n : Nat) (t : State) (e : Nat) : State :=
  match t.neighbour n e with
  | some m => (t.sendLoad n e false 16).sendLoad m (opposite e) true 16
  | none => t

theorem State.loadEdge_frame {W : Obj → Prop} {Q : Part → Prop} {s t : State} {n e : Nat} (qcell : Q .cell) (h : Fr W Q s t) :
    Fr W Q s (t.loadEdge n e) := by
  unfold State.loadEdge
  split
  · exact State.sendLoad_frame qcell (State.sendLoad_frame qcell h)
  · exact h

/-- The loads of the two halves of region `n` on edge `e`, toward region `m`. -/
def State.EdgeLoaded (s : State) (n e m : Nat) (t : State) : Prop :=
  ((t.c n e).half false).load = some (s.loadFor n e false 16)
    ∧ ((t.c m (opposite e)).half true).load = some (s.loadFor m (opposite e) true 16)

theorem State.loadEdge_loads {s t : State} {n e m : Nat} (he : e < 4) (hm : t.neighbour n e = some m) (hb : t.build = s.build) :
    s.EdgeLoaded n e m (t.loadEdge n e) := by
  unfold State.EdgeLoaded State.loadEdge
  rw [hm]
  dsimp only
  have hread : (((t.sendLoad n e false 16).sendLoad m (opposite e) true 16).c n e).half false
      = ((t.sendLoad n e false 16).c n e).half false :=
    State.sendLoad_other _ _ (opposite_lt e) he fun ⟨_, _, hwr⟩ => Bool.false_ne_true hwr
  rw [hread, State.sendLoad_self, State.sendLoad_self, State.loadFor_congr hb,
    State.loadFor_congr (t := t.sendLoad n e false 16) hb]
  exact ⟨rfl, rfl⟩

theorem State.loadEdge_keeps {s t : State} {n e m y : Nat} (he : e < 4) (hy : y < 4) (hne : y ≠ e) (h : s.EdgeLoaded n e m t) :
    s.EdgeLoaded n e m (t.loadEdge n y) := by
  unfold State.loadEdge
  split
  · next a _ =>
    have hread : (((t.sendLoad n y false 16).sendLoad a (opposite y) true 16).c n e).half false = (t.c n e).half false :=
      (State.sendLoad_other _ _ (opposite_lt y) he fun ⟨_, _, hwr⟩ => Bool.false_ne_true hwr).trans
        (State.sendLoad_other _ _ hy he fun ⟨_, hye, _⟩ => hne hye.symm)
    have hwrite : (((t.sendLoad n y false 16).sendLoad a (opposite y) true 16).c m (opposite e)).half true
        = (t.c m (opposite e)).half true :=
      (State.sendLoad_other _ _ (opposite_lt y) (opposite_lt e) fun ⟨_, hye, _⟩ =>
        hne (opposite_inj he hy hye.symm)).trans
        (State.sendLoad_other _ _ hy (opposite_lt e) fun ⟨_, _, hwr⟩ => Bool.false_ne_true hwr.symm)
    unfold State.EdgeLoaded
    rw [hread, hwrite]
    exact h
  · exact h

theorem pointerLoad_runs {n : Nat} {s : State} (hclocked : s.clocked n = true) (hcounting : s.osc n .counting = true)
    (hcount : s.rd .REGION_COUNT n = 16) : exec (.pointerLoad n) s = .next (s.each edges (State.loadEdge n)) := by
  change execPointerLoad n s = _
  unfold execPointerLoad
  rw [hclocked, hcounting, hcount]
  rfl

theorem State.pointerLoads {s : State} {n e m : Nat} (he : e < 4) (hm : s.neighbour n e = some m) :
    s.EdgeLoaded n e m (s.each edges (State.loadEdge n)) := by
  refine State.each_once (I := Fr (fun _ => False) (· = .cell) s) edges_nodup (mem_edges.2 he)
    (fun t y _ _ hfr => State.loadEdge_frame rfl hfr) (fun t hfr => ?_)
    (fun t y hy hne h => State.loadEdge_keeps he (mem_edges.1 hy) hne h) (Fr.refl s)
  exact State.loadEdge_loads he ((State.neighbour_congr (hfr.obj _ _ _ id) (hfr.obj _ _ _ id)).trans hm) hfr.build

/-! ### The arrival of a load (R153) -/

theorem Half.advance_arrives {h : Half} {v : Nat} (hload : h.load = some (1, v)) :
    h.advance.ptr = v ∧ h.advance.load = none := by
  unfold Half.advance
  rw [hload]
  exact ⟨rfl, rfl⟩

theorem Half.advance_waits {h : Half} {k v : Nat} (hload : h.load = some (k + 2, v)) : h.advance.load = some (k + 1, v) := by
  unfold Half.advance
  rw [hload]
  dsimp only
  rw [if_neg (by omega)]
  rfl

/-- A load of depth `k + 1` is taken at the last of that many advances. -/
theorem Half.advances_take (k : Nat) {h : Half} {v : Nat} (hload : h.load = some (k + 1, v)) :
    (Half.advance^[k + 1] h).ptr = v ∧ (Half.advance^[k + 1] h).load = none := by
  induction k generalizing h with
  | zero => exact Half.advance_arrives hload
  | succ k ih =>
    rw [Function.iterate_succ_apply]
    exact ih (Half.advance_waits hload)

/-! ### RESYNC_INITIATE (R140, R161) -/

theorem Cell.begin_idle {k : Cell} (h : k.idle = true) (m : XMode) :
    (k.begin m).rd.req = true ∧ (k.begin m).rd.busy = true ∧ (k.begin m).target = m := by
  unfold Cell.begin
  rw [if_pos h]
  exact ⟨rfl, rfl, rfl⟩

/-- The edges of region `n` whose cells begin a resync at count 24. -/
def State.resyncEdges (s : State) (n : Nat) : List Nat :=
  edges.filter fun e => (s.neighbour n e).isSome && !(s.c n e).rd.dark && !(s.c n e).wr.dark
    && !((s.c n e).armMode == .fenced && !s.cellClocked n e)

/-- The cell of edge `e` begins the resync to the mode of its arm. -/
def State.beginEdge (n : Nat) (t : State) (e : Nat) : State := t.modC n e fun k => k.begin k.armMode

theorem State.beginEdge_other {t : State} {n e y : Nat} (he : e < 4) (hy : y < 4) (hne : y ≠ e) :
    (t.beginEdge n y).c n e = t.c n e :=
  State.c_modC_other _ _ he hy fun ⟨_, hey⟩ => hne hey.symm

theorem resyncInitiate_runs {n : Nat} {s : State} (hclocked : s.clocked n = true) (hcounting : s.osc n .counting = true)
    (hcount : s.rd .REGION_COUNT n = 24) (hattached : s.on .REGION_DETACHED n = false) :
    exec (.resyncInitiate n) s = .next (s.each (s.resyncEdges n) (State.beginEdge n)) := by
  change execResyncInitiate n s = _
  unfold execResyncInitiate
  rw [hclocked, hcounting, hcount, hattached]
  rfl

theorem State.resyncEdges_lt {s : State} {n e : Nat} (h : e ∈ s.resyncEdges n) : e < 4 :=
  mem_edges.1 (List.mem_filter.1 h).1

theorem State.resyncs_begin {s : State} {n e : Nat} (h : e ∈ s.resyncEdges n) :
    (s.each (s.resyncEdges n) (State.beginEdge n)).c n e = (s.c n e).begin (s.c n e).armMode := by
  have hother : ∀ (k : Cell) (t : State), ∀ y ∈ s.resyncEdges n, y ≠ e → t.c n e = k → (t.beginEdge n y).c n e = k :=
    fun k t y hy hne ht => (State.beginEdge_other (State.resyncEdges_lt h) (State.resyncEdges_lt hy) hne).trans ht
  refine State.each_once (I := fun t => t.c n e = s.c n e) (edges_nodup.filter _) h (hother _) (fun t ht => ?_) (hother _) rfl
  rw [State.beginEdge, State.c_modC_self, ht]

theorem State.resyncs_leave {s : State} {n e : Nat} (he : e < 4) (h : e ∉ s.resyncEdges n) :
    (s.each (s.resyncEdges n) (State.beginEdge n)).c n e = s.c n e :=
  State.each_mem_kept (P := fun t => t.c n e = s.c n e) rfl fun _ _ hy ht =>
    (State.beginEdge_other he (State.resyncEdges_lt hy) fun hye => h (hye ▸ hy)).trans ht

/-- Of the cells with a neighbour and both supplies, those begin that are not to be FENCED toward a stopped clock (log 96). -/
theorem State.mem_resyncEdges {s : State} {n e : Nat} (he : e < 4) (hnext : (s.neighbour n e).isSome = true)
    (hread : (s.c n e).rd.dark = false) (hwrite : (s.c n e).wr.dark = false) :
    e ∈ s.resyncEdges n ↔ ¬((s.c n e).armMode = .fenced ∧ s.cellClocked n e = false) := by
  unfold State.resyncEdges
  rw [List.mem_filter, hnext, hread, hwrite, and_iff_right (mem_edges.2 he)]
  simp [imp_iff_not_or]

/-! ### PTR_CHECK (R154) -/

/-- The halves of region `n` that the check finds wrong. -/
def State.wrongHalves (s : State) (n : Nat) : List (Nat × Nat × Bool × Nat) :=
  (s.tetheredHalves n).filter fun x => ((s.c x.1 x.2.1).half x.2.2.1).ptr != s.expectedPtr n x.2.2.1

/-- A wrong half is counted, marked and reported. -/
def State.reportPtr (n : Nat) (t : State) (x : Nat × Nat × Bool × Nat) : State :=
  ((t.inc .XING_PTR_ERRS n).modC x.1 x.2.1 fun k =>
    k.withHalf x.2.2.1 { (k.half x.2.2.1) with ptrErr := true }).raiseFault .crossPtr 0 n x.2.2.2

theorem ptrCheck_runs {n : Nat} {upset : List (Nat × Bool × Nat)} {s : State} (hclocked : s.clocked n = true)
    (hcounting : s.osc n .counting = true) (hdue : s.rd .REGION_COUNT n % s.rd .PTR_CHECK_PERIOD = 0) :
    exec (.ptrCheck n upset) s
      = .next ((s.upsetPtrs n upset).each ((s.upsetPtrs n upset).wrongHalves n) (State.reportPtr n)) := by
  change execPtrCheck n upset s = _
  unfold execPtrCheck
  rw [hclocked, hcounting, hdue]
  rfl

theorem Cell.marked_withHalf {k : Cell} {w : Bool} (wr : Bool) (h : (k.half w).ptrErr = true ∨ w = wr) :
    ((k.withHalf wr { (k.half wr) with ptrErr := true }).half w).ptrErr = true := by
  by_cases hw : w = wr
  · rw [hw, Cell.half_withHalf_self]
  · rw [Cell.half_withHalf_other _ _ hw]
    exact h.resolve_right hw

theorem State.reportPtr_c (n : Nat) (t : State) (x : Nat × Nat × Bool × Nat) (a b : Nat) :
    (t.reportPtr n x).c a b
      = (t.modC x.1 x.2.1 fun k => k.withHalf x.2.2.1 { (k.half x.2.2.1) with ptrErr := true }).c a b := rfl

theorem State.reports_mark {s : State} {n : Nat} {l : List (Nat × Nat × Bool × Nat)} {x : Nat × Nat × Bool × Nat}
    (hx : x ∈ l) :
    (((s.each l (State.reportPtr n)).c x.1 x.2.1).half x.2.2.1).ptrErr = true := by
  refine State.each_establishes (P := fun t => ((t.c x.1 x.2.1).half x.2.2.1).ptrErr = true) hx (fun t => ?_)
    (fun t y ht => ?_) s
  · rw [State.reportPtr_c, State.c_modC_self]
    exact Cell.marked_withHalf _ (.inr rfl)
  · rw [State.reportPtr_c]
    exact State.c_modC_kept (P := fun k => (k.half x.2.2.1).ptrErr = true) ht fun k hk => Cell.marked_withHalf _ (.inl hk)

theorem State.reportPtr_count (n : Nat) (t : State) (x : Nat × Nat × Bool × Nat) :
    (t.reportPtr n x).rd .XING_PTR_ERRS n = satAdd (objBits .XING_PTR_ERRS) (t.rd .XING_PTR_ERRS n) 1 :=
  (State.raiseFault_rd _ _ _ _ _ _ _ _ _).trans ((State.rd_modC _ _ _ _ _ _ _).trans (State.rd_inc_self _ _ _ _))

theorem State.reports_count (n : Nat) (l : List (Nat × Nat × Bool × Nat)) (s : State) :
    (s.each l (State.reportPtr n)).rd .XING_PTR_ERRS n
      = l.foldl (fun a _ => satAdd (objBits .XING_PTR_ERRS) a 1) (s.rd .XING_PTR_ERRS n) := by
  induction l generalizing s with
  | nil => rfl
  | cons x rest ih => rw [State.each_cons, ih, State.reportPtr_count, List.foldl_cons]

/-- The report of a wrong half of region `n` at time `T`. -/
def ptrReport (n T : Nat) (x : Nat × Nat × Bool × Nat) : FReport :=
  { cls := FaultClass.crossPtr.code, unit := 0, element := n, detail := x.2.2.2, injected := false, time := T }

theorem State.reportPtr_T (n : Nat) (t : State) (x : Nat × Nat × Bool × Nat) : (t.reportPtr n x).T = t.T :=
  congrArg Clock.T (State.inc_clock t .XING_PTR_ERRS n 0)

theorem State.reportPtr_reports (n : Nat) (t : State) (x : Nat × Nat × Bool × Nat) :
    (t.reportPtr n x).flt.reports = t.flt.reports ++ [ptrReport n t.T x] := rfl

theorem State.reports_reports (n : Nat) (l : List (Nat × Nat × Bool × Nat)) (s : State) :
    (s.each l (State.reportPtr n)).flt.reports = s.flt.reports ++ l.map (ptrReport n s.T) := by
  induction l generalizing s with
  | nil => exact (List.append_nil _).symm
  | cons x rest ih =>
    rw [State.each_cons, ih, State.reportPtr_reports, State.reportPtr_T, List.append_assoc, List.map_cons, List.singleton_append]

theorem State.upsetPtrs_fr (s : State) (n : Nat) (l : List (Nat × Bool × Nat)) :
    Fr (fun _ => False) (· = .cell) s (s.upsetPtrs n l) := State.upsetPtrs_frame rfl (Fr.refl s)

theorem State.upsetPtrs_T (s : State) (n : Nat) (l : List (Nat × Bool × Nat)) : (s.upsetPtrs n l).T = s.T :=
  congrArg Clock.T ((s.upsetPtrs_fr n l).part .clock (by decide))

/-! ### Islands and trim (R143, R162) -/

/-- The islands of group `g`, as its clocked regions and their crossings make them (R143). -/
def State.islandsNow (s : State) (g : Nat) : List (Nat × Nat) :=
  s.islandsOf (s.clockedRegions g) (s.clockedRegions g).length (s.clockedRegions g)

theorem State.setIslands_g (s : State) (g : Nat) :
    (s.setIslands g).g g = { s.g g with islands := s.islandsNow g, islandsDue := false } := by
  unfold State.setIslands
  rw [State.g_congr (State.wr_grp _ _ _ _ _), State.g_congr (State.wr_grp _ _ _ _ _), State.g_modG_self]
  rfl

theorem State.setIslands_anchor (s : State) (g : Nat) :
    (s.setIslands g).rd .GROUP_ANCHOR g = (s.clockedRegions g).headD 0xFFFF % 2 ^ 16 := by
  unfold State.setIslands
  rw [State.rd_wr_other _ (by decide), State.rd_wr_self]
  rfl

theorem State.setIslands_diameter (s : State) (g : Nat) :
    (s.setIslands g).rd .GROUP_DIAMETER g = maxOf (((s.setIslands g).g g).islands.map (·.2)) % 2 ^ 16 := by
  rw [State.setIslands_g]
  exact State.rd_wr_self _ _ _ _ _

theorem islandRecompute_runs {g : Nat} {s : State} (hdue : (s.g g).islandsDue = true) :
    exec (.islandRecompute g) s = .next (s.setIslands g) := by
  change execIslandRecompute g s = _
  unfold execIslandRecompute
  rw [hdue]
  rfl

/-- TRIM_MODE shows whether a group is in trim mode (R147). -/
theorem State.showTrim_mode (s : State) :
    s.showTrim.rd .TRIM_MODE = 1 ↔ ∃ h ∈ s.showTrim.groups, (s.showTrim.g h).trim = true := by
  have hgroups : s.showTrim.groups = s.groups := congrArg List.range (State.rd_wr_other _ (by decide) _ _ _ _ _)
  have hg : ∀ h, s.showTrim.g h = s.g h := State.g_congr (State.wr_grp _ _ _ _ _)
  rw [hgroups, ← List.any_eq_true]
  simp only [hg]
  unfold State.showTrim
  rw [State.rd_wr_self]
  cases s.groups.any fun g => (s.g g).trim <;> decide

/-- The group leaves trim mode, and its islands are computed anew. -/
def State.leaveTrim (s : State) (g : Nat) : State := (s.modG g fun x => { x with trim := false }).setIslands g

theorem State.leaveTrim_trim (s : State) (g : Nat) : ((s.leaveTrim g).g g).trim = false := by
  rw [State.leaveTrim, State.setIslands_g, State.g_modG_self]

theorem trimEnd_runs {g : Nat} {s : State} (hdone : s.trimDone g = true) :
    exec (.trimEnd g) s = .next (s.leaveTrim g).showTrim := by
  change execTrimEnd g s = _
  unfold execTrimEnd
  rw [hdone]
  rfl

/-- The failure of a group to align, marked and counted. -/
def State.missTrim (s : State) (g : Nat) : State := (s.modG g fun x => { x with alignFailed := true }).inc .ALIGN_FAILS

theorem alignFail_runs {g at0 : Nat} {s : State} (hreleased : (s.g g).releasedAt = some at0) (htrim : (s.g g).trim = true)
    (hfirst : (s.g g).alignFailed = false) (hlate : at0 + s.rd .ALIGN_LIMIT + (s.g g).trimHeld ≤ s.up) :
    exec (.alignFail g) s = .next ((s.missTrim g).raiseFault .alignFail 3 (s.worstSlip g) 0) := by
  change execAlignFail g s = _
  unfold execAlignFail
  rw [hreleased, htrim, hfirst]
  dsimp only
  rw [decide_eq_true hlate]
  rfl

theorem State.missTrim_g (s : State) (g : Nat) : (s.missTrim g).g g = { s.g g with alignFailed := true } :=
  (State.g_congr (State.inc_grp _ _ _ _) _).trans (State.g_modG_self _ _ _)

/-- Settles O15: the loops over the edges and over the wrong halves give each cell its load, its resync or its mark once, and
count and report in order. -/
theorem pointersAndAlignment : Obligations.PointersAndAlignment := by
  unfold Obligations.PointersAndAlignment
  refine ⟨?_, fun h k v hload => Half.advances_take k hload, ?_, ?_, ?_, ?_, ?_⟩
  · intro n s hclocked hcounting hcount
    exact ⟨_, pointerLoad_runs hclocked hcounting hcount, fun e m he hm => State.pointerLoads he hm⟩
  · intro n s hclocked hcounting hcount hattached
    refine ⟨_, resyncInitiate_runs hclocked hcounting hcount hattached, fun e he hnext hidle hread hwrite => ?_⟩
    have hmem := State.mem_resyncEdges he hnext hread hwrite
    split
    · next hstays => exact State.resyncs_leave he fun h => hmem.1 h hstays
    · next hbegins =>
      rw [State.resyncs_begin (hmem.2 hbegins)]
      exact Cell.begin_idle hidle _
  · intro n upset s hclocked hcounting hdue
    have hfr := s.upsetPtrs_fr n upset
    have hcount : (s.upsetPtrs n upset).rd .REGION_COUNT n = s.rd .REGION_COUNT n := hfr.obj _ _ _ id
    have hreports : (s.upsetPtrs n upset).flt = s.flt := hfr.part .flt (by decide)
    rw [← hcount, ← hfr.obj .XING_PTR_ERRS n 0 id, ← hreports, ← s.upsetPtrs_T n upset]
    exact ⟨_, ptrCheck_runs hclocked hcounting hdue, fun x hx => State.reports_mark hx, State.reports_count _ _ _,
      State.reports_reports _ _ _⟩
  · intro g s hdue
    exact ⟨_, islandRecompute_runs hdue, congrArg Grp.islandsDue (s.setIslands_g g), s.setIslands_anchor g,
      s.setIslands_diameter g⟩
  · intro g s hdone
    have htrim : ((s.leaveTrim g).showTrim.g g).trim = false :=
      (congrArg Grp.trim (State.g_congr (State.wr_grp _ _ _ _ _) g)).trans (s.leaveTrim_trim g)
    exact ⟨_, trimEnd_runs hdone, htrim, State.showTrim_mode _⟩
  · intro g at0 s hreleased htrim hfirst hlate
    refine ⟨_, alignFail_runs hreleased htrim hfirst hlate, ?_, ?_, ?_⟩
    · exact congrArg Grp.alignFailed (s.missTrim_g g)
    · exact (State.raiseFault_rd _ _ _ _ _ _ _ _ _).trans (State.rd_inc_self _ _ _ _)
    · exact State.raiseFault_faulted _ _ _ _ (State.inc_flt _ _ _ _) (congrArg Clock.T (State.inc_clock _ _ _ _))

end Sys2Proof.Machine
end

section
/-! PROOF. The four phases of a resync, and the lanes listed twice that its end leaves uncounted (R155 to R158). -/

namespace Sys2Proof.Machine
open Sys2Proof

/-! ### The lanes of a cell changed together -/

theorem Cell.half_eachLane (k : Cell) (f : XLane → XLane) (wr : Bool) : (k.eachLane f).half wr = k.half wr := by
  obtain ⟨l, hl⟩ := k.eachLane_eq f
  rw [hl]
  rfl

theorem Cell.target_eachLane (k : Cell) (f : XLane → XLane) : (k.eachLane f).target = k.target := by
  obtain ⟨l, hl⟩ := k.eachLane_eq f
  rw [hl]

/-- Lanes changed in turn, one listed twice being changed twice. -/
theorem Cell.lane_foldl {f : XLane → XLane} (hf : ∀ x, f (f x) = f x) (xs : Tab XLane) (k : Cell) (i : Nat) :
    (xs.foldl (fun c x => c.modLane x.1 f) k).lane i = if i ∈ xs.keys then f (k.lane i) else k.lane i := by
  induction xs generalizing k with
  | nil => rfl
  | cons x rest ih =>
    rw [List.foldl_cons, ih, Cell.lane_modLane]
    by_cases hi : i = x.1
    · have hlisted : i ∈ Tab.keys (x :: rest) := List.mem_cons.2 (.inl hi)
      rw [if_pos hi, if_pos hlisted, hf, ite_self, hi]
    · rw [if_neg hi]
      exact if_congr (List.mem_cons.trans (or_iff_right hi)).symm rfl rfl

theorem Tab.get_unlisted {α : Type} {t : Tab α} {i : Nat} (h : i ∉ t.keys) (d : α) : Tab.get t i d = d := by
  induction t with
  | nil => rfl
  | cons x rest ih =>
    have hne : x.1 ≠ i := fun hi => h (List.mem_cons.2 (.inl hi.symm))
    exact (if_neg hne).trans (ih fun hrest => h (List.mem_cons_of_mem _ hrest))

/-- A change that does nothing more the second time, and nothing to a lane at its default, is that of every lane. -/
theorem Cell.lane_eachLane (f : XLane → XLane) (hf : ∀ x, f (f x) = f x) (hdefault : f {} = {}) (k : Cell) (i : Nat) :
    (k.eachLane f).lane i = f (k.lane i) := by
  unfold Cell.eachLane
  rw [Cell.lane_foldl hf]
  split
  · rfl
  · next hi =>
    have hlane : k.lane i = {} := Tab.get_unlisted hi {}
    rw [hlane, hdefault]

/-! ### The words lost (R156) -/

theorem Tab.get_of_mem {α : Type} {t : Tab α} {x : Nat × α} (hrising : t.rising = true) (hx : x ∈ t) (d : α) :
    Tab.get t x.1 d = x.2 := by
  rw [Tab.rising_iff] at hrising
  induction t with
  | nil => cases hx
  | cons y rest ih =>
    obtain ⟨hfirst, hrest⟩ := List.pairwise_cons.1 hrising
    rcases List.mem_cons.1 hx with rfl | hlater
    · exact if_pos rfl
    · have hne : y.1 ≠ x.1 := (hfirst _ (List.mem_map_of_mem hlater)).ne
      exact (if_neg hne).trans (ih hrest hlater)

theorem Cell.eachLane_rising {k : Cell} (f : XLane → XLane) (h : k.lanes.rising = true) :
    (k.eachLane f).lanes.rising = true := by
  unfold Cell.eachLane
  exact List.foldlRecOn (motive := fun c : Cell => c.lanes.rising = true) k.lanes _ h fun c hc x _ => Tab.rising_set _ _ _ hc

/-- Where each lane is listed once, no word stands as lost after the count has started anew (R156). -/
theorem Cell.lost_recount {k : Cell} (h : k.lanes.rising = true) : (k.eachLane XLane.recount).lost = 0 := by
  have hlane : ∀ x ∈ (k.eachLane XLane.recount).lanes, x.2.lost = 0 := fun x hx => by
    have hget : (k.eachLane XLane.recount).lane x.1 = x.2 := Tab.get_of_mem (Cell.eachLane_rising _ h) hx {}
    rw [← hget, Cell.lane_eachLane XLane.recount (fun _ => rfl) rfl]
    rfl
  unfold Cell.lost
  rw [sumOf, ← List.sum_eq_foldl]
  exact List.sum_eq_zero fun v hv => by
    obtain ⟨x, hx, rfl⟩ := List.mem_map.1 hv
    exact hlane x hx

theorem Cell.lost_withHalf (k : Cell) (wr : Bool) (h : Half) : (k.withHalf wr h).lost = k.lost := by
  cases wr <;> rfl

/-! ### What a half does in each phase -/

/-- The half that `wr` names neither writes nor presents, and the read half holds no word (R155). -/
def Cell.Stopped (k : Cell) (wr : Bool) : Prop :=
  ∀ i, (wr = true → (k.lane i).rdy = false) ∧ (wr = false → (k.lane i).vld = false ∧ (k.lane i).slots = [])

/-- The half that `wr` names has its queue pointers at 0 (R155). -/
def Cell.PointersZero (k : Cell) (wr : Bool) : Prop :=
  ∀ i, (wr = true → (k.lane i).wq = 0) ∧ (wr = false → (k.lane i).rq = 0)

theorem Cell.lane_settle_write (k : Cell) (i : Nat) :
    (k.settle true).lane i = if k.target = .decoupled then (k.lane i).zeroWrite else k.lane i := by
  change (if k.target = .decoupled then k.eachLane XLane.zeroWrite else k).lane i = _
  split
  · exact Cell.lane_eachLane XLane.zeroWrite (fun _ => rfl) rfl k i
  · rfl

theorem Cell.lane_settle_read (k : Cell) (i : Nat) :
    (k.settle false).lane i = if k.target = .decoupled then (k.lane i).clear.zeroRead else (k.lane i).clear := by
  have hclear : (k.eachLane XLane.clear).lane i = (k.lane i).clear := Cell.lane_eachLane XLane.clear (fun _ => rfl) rfl k i
  change (if k.target = .decoupled then (k.eachLane XLane.clear).eachLane XLane.zeroRead else k.eachLane XLane.clear).lane i = _
  split
  · exact (Cell.lane_eachLane XLane.zeroRead (fun _ => rfl) rfl _ i).trans (congrArg XLane.zeroRead hclear)
  · exact hclear

theorem Cell.settle_pointersZero {k : Cell} (wr : Bool) (h : k.target = .decoupled) : (k.settle wr).PointersZero wr := by
  intro i
  cases wr
  · rw [Cell.lane_settle_read, if_pos h]
    exact ⟨nofun, fun _ => rfl⟩
  · rw [Cell.lane_settle_write, if_pos h]
    exact ⟨fun _ => rfl, nofun⟩

theorem Cell.quiet_settle_stopped (k : Cell) (wr : Bool) : ((k.quiet wr).settle wr).Stopped wr := by
  intro i
  cases wr
  · have hstop : ((k.quiet false).lane i) = (k.lane i).stopRead := Cell.lane_eachLane XLane.stopRead (fun _ => rfl) rfl k i
    rw [Cell.lane_settle_read, hstop]
    refine ⟨nofun, fun _ => ?_⟩
    split <;> exact ⟨rfl, rfl⟩
  · have hstop : ((k.quiet true).lane i) = (k.lane i).stopWrite := Cell.lane_eachLane XLane.stopWrite (fun _ => rfl) rfl k i
    rw [Cell.lane_settle_write, hstop]
    refine ⟨fun _ => ?_, nofun⟩
    split <;> rfl

theorem Cell.half_settle (k : Cell) (wr w : Bool) : (k.settle wr).half w = k.half w := by
  unfold Cell.settle
  dsimp only
  split <;> split <;> simp only [Cell.half_eachLane]

theorem Cell.lane_withHalf (k : Cell) (wr : Bool) (h : Half) (i : Nat) : (k.withHalf wr h).lane i = k.lane i := by
  cases wr <;> rfl

theorem Cell.not_idle_of_busy {k : Cell} {wr : Bool} (h : (k.half wr).busy = true) : k.idle = false := by
  cases wr
  · have hbusy : k.rd.busy = true := h
    simp [Cell.idle, hbusy]
  · have hbusy : k.wr.busy = true := h
    simp [Cell.idle, hbusy]

theorem Cell.idle_of_halves {k : Cell} {wr : Bool} (hbusy : (k.half wr).busy = false) (hreq : (k.half wr).req = false)
    (hbusy' : (k.half (!wr)).busy = false) (hreq' : (k.half (!wr)).req = false) : k.idle = true := by
  cases wr <;> simp_all [Cell.idle, Cell.half]

/-- The half that `wr` names enters the target mode. -/
theorem Cell.enter_rests {k : Cell} {wr : Bool} (hbusy : (k.half wr).busy = true) (hreq : (k.half wr).req = false)
    (hack : (k.half wr).ack = false) (hreq' : (k.half (!wr)).req = false) (hack' : (k.half (!wr)).ack = false) :
    k.enter wr = k.withHalf wr { k.half wr with busy := false, mode := k.target } := by
  unfold Cell.enter
  dsimp only
  rw [hbusy, hreq, hack, hreq', hack']
  rfl

/-- The responder lowers ACK and enters the target mode, its words being counted anew. -/
theorem Cell.reqLowSeen_enters {k : Cell} {wr : Bool} (hack : (k.half wr).ack = true) (hbusy : (k.half wr).busy = true)
    (hreq : (k.half wr).req = false) (hreq' : (k.half (!wr)).req = false) (hack' : (k.half (!wr)).ack = false) :
    k.reqLowSeen wr
      = (k.eachLane XLane.recount).withHalf wr { k.half wr with ack := false, busy := false, mode := k.target } := by
  obtain ⟨l, hl⟩ := k.eachLane_eq XLane.recount
  unfold Cell.reqLowSeen
  dsimp only
  rw [hack, hreq', hl]
  have hother : ∀ h, (({ k with lanes := l } : Cell).withHalf wr h).half (!wr) = k.half (!wr) := fun h =>
    Cell.half_withHalf_other _ h (Bool.not_ne_self wr)
  have hself : ∀ h, (({ k with lanes := l } : Cell).withHalf wr h).half wr = h := fun h => Cell.half_withHalf_self _ wr h
  refine (Cell.enter_rests ?_ ?_ ?_ ?_ ?_).trans ?_
  · rw [hself]; exact hbusy
  · rw [hself]; exact hreq
  · rw [hself]
  · rw [hother, hreq']
  · rw [hother, hack']
  · rw [hself]
    cases wr <;> rfl

/-! ### One event of a resync -/

/-- An event that leaves a half in the resync changes the cell alone. -/
theorem State.resync_goesOn {s : State} {n e : Nat} {f : Cell → Cell} (h : (f (s.c n e)).idle = false) :
    s.resync n e f = s.modC n e f := by
  unfold State.resync
  simp only [h, Bool.and_false, State.when_false, Bool.false_eq_true, if_false]
  rfl

/-- The event that ends a resync behind which no target waits is counted. -/
theorem State.resync_ends {s : State} {n e : Nat} {f : Cell → Cell} (hbefore : (s.c n e).idle = false)
    (hafter : (f (s.c n e)).idle = true) (hwaiting : (f (s.c n e)).waiting = none) :
    s.resync n e f = (s.modC n e f).inc .XING_RESYNCS n := by
  have hnext : (f (s.c n e)).next = f (s.c n e) := by
    unfold Cell.next
    rw [hwaiting]
  unfold State.resync
  simp only [hbefore, hafter, hnext]
  rfl

/-- Islands that come due (R143) are noted in the group's record alone. -/
theorem State.islandsDueIf_kept (s : State) (n : Nat) (due : Bool) :
    Fr (fun _ => False) (· = .grp) s (s.when due fun v => v.islandsDueAt n) :=
  State.when_kept (Fr.refl s) fun _ => State.islandsDueAt_frame rfl

section
variable {n e : Nat} {wr : Bool} {s : State} (hlive : s.halfLive n e wr = true)
include hlive

/-! ### Phases 2 and 3 -/

theorem resyncReqSeen_answers (hreq : ((s.c n e).half (!wr)).req = true) (hack : ((s.c n e).half wr).ack = false) :
    ∃ t, exec (.resyncReqSeen n e wr) s = .next t
      ∧ ((t.c n e).half wr).ack = true ∧ ((t.c n e).half wr).busy = true ∧ (t.c n e).Stopped wr
      ∧ ((s.c n e).target = .decoupled → (t.c n e).PointersZero wr) ∧ (t.c n e).half (!wr) = (s.c n e).half (!wr) := by
  have hcell : (s.c n e).reqSeen wr = (((s.c n e).quiet wr).settle wr).withHalf wr
      { (s.c n e).half wr with busy := true, ack := true } := by
    unfold Cell.reqSeen
    dsimp only
    rw [hreq, hack]
    rfl
  have hhalf := Cell.half_withHalf_self (((s.c n e).quiet wr).settle wr) wr
    { (s.c n e).half wr with busy := true, ack := true }
  rw [← hcell] at hhalf
  have hbusy : (((s.c n e).reqSeen wr).half wr).busy = true := congrArg Half.busy hhalf
  refine ⟨s.modC n e fun k => k.reqSeen wr, ?_, ?_⟩
  · change execResyncReqSeen n e wr s = _
    unfold execResyncReqSeen
    rw [hlive, State.when_true, State.resync_goesOn (f := fun k => k.reqSeen wr) (Cell.not_idle_of_busy hbusy)]
  · rw [State.c_modC_self]
    refine ⟨congrArg Half.ack hhalf, hbusy, ?_⟩
    rw [hcell]
    refine ⟨fun i => ?_, fun htarget i => ?_, ?_⟩
    · rw [Cell.lane_withHalf]
      exact Cell.quiet_settle_stopped _ wr i
    · rw [Cell.lane_withHalf]
      exact Cell.settle_pointersZero wr ((Cell.target_eachLane _ _).trans htarget) i
    · rw [Cell.half_withHalf_other _ _ (Bool.not_ne_self wr), Cell.half_settle]
      exact Cell.half_eachLane _ _ _

theorem resyncAckSeen_lowersReq (hreq : ((s.c n e).half wr).req = true) (hbusy : ((s.c n e).half wr).busy = true)
    (hack : ((s.c n e).half (!wr)).ack = true) (hover : s.halfStopping n e wr = false) :
    ∃ t, exec (.resyncAckSeen n e wr) s = .next t
      ∧ ((t.c n e).half wr).req = false ∧ (t.c n e).half (!wr) = (s.c n e).half (!wr)
      ∧ ((s.c n e).target = .decoupled → (t.c n e).PointersZero wr) := by
  have hcell : (s.c n e).ackSeen wr = ((s.c n e).settle wr).withHalf wr { (s.c n e).half wr with req := false } := by
    unfold Cell.ackSeen
    dsimp only
    rw [hreq, hack]
    rfl
  have hhalf := Cell.half_withHalf_self ((s.c n e).settle wr) wr { (s.c n e).half wr with req := false }
  rw [← hcell] at hhalf
  refine ⟨s.modC n e fun k => k.ackSeen wr, ?_, ?_⟩
  · have hin : (((s.c n e).ackSeen wr).half wr).busy = true := (congrArg Half.busy hhalf).trans hbusy
    change execResyncAckSeen n e wr s = _
    unfold execResyncAckSeen
    rw [hlive, State.when_true, hover, if_neg Bool.false_ne_true,
      State.resync_goesOn (f := fun k => k.ackSeen wr) (Cell.not_idle_of_busy hin)]
  · rw [State.c_modC_self]
    refine ⟨congrArg Half.req hhalf, ?_⟩
    rw [hcell]
    refine ⟨?_, fun htarget i => ?_⟩
    · rw [Cell.half_withHalf_other _ _ (Bool.not_ne_self wr), Cell.half_settle]
    · rw [Cell.lane_withHalf]
      exact Cell.settle_pointersZero wr htarget i

/-! ### Phase 4 and the end -/

theorem resyncReqLowSeen_runs (hack : ((s.c n e).half wr).ack = true) (hreq' : ((s.c n e).half (!wr)).req = false) :
    exec (.resyncReqLowSeen n e wr ()) s
      = .next ((s.addWrap .XING_DISCARD (s.c n e).lost n).resync n e fun k => k.reqLowSeen wr) := by
  have hphase : s.phase4 n e wr = true := by
    unfold State.phase4
    rw [hack, hreq']
    rfl
  change execResyncReqLowSeen n e wr () s = _
  unfold execResyncReqLowSeen
  rw [hlive, hphase]
  rfl

/-- Phase 4 as O14 states it, for a cell that lists each of its lanes once. -/
theorem resyncReqLowSeen_enters (hlanes : (s.c n e).lanes.rising = true) (hack : ((s.c n e).half wr).ack = true)
    (hbusy : ((s.c n e).half wr).busy = true) (hreq : ((s.c n e).half wr).req = false)
    (hreq' : ((s.c n e).half (!wr)).req = false) (hack' : ((s.c n e).half (!wr)).ack = false)
    (hbusy' : ((s.c n e).half (!wr)).busy = true) :
    ∃ t, exec (.resyncReqLowSeen n e wr ()) s = .next t
      ∧ ((t.c n e).half wr).ack = false ∧ ((t.c n e).half wr).busy = false ∧ ((t.c n e).half wr).mode = (s.c n e).target
      ∧ t.rd .XING_DISCARD n = (s.rd .XING_DISCARD n + (s.c n e).lost) % 2 ^ objBits .XING_DISCARD
      ∧ (t.c n e).lost = 0 := by
  have hcell := Cell.reqLowSeen_enters hack hbusy hreq hreq' hack'
  have hpartner : (((s.c n e).reqLowSeen wr).half (!wr)).busy = true := by
    rw [hcell, Cell.half_withHalf_other _ _ (Bool.not_ne_self wr), Cell.half_eachLane, hbusy']
  have hgoesOn := State.resync_goesOn (s := s.addWrap .XING_DISCARD (s.c n e).lost n) (f := fun k => k.reqLowSeen wr)
    (Cell.not_idle_of_busy hpartner)
  refine ⟨_, (resyncReqLowSeen_runs hlive hack hreq').trans (congrArg Host.Outcome.next hgoesOn), ?_⟩
  rw [State.c_modC_self, State.c_congr (State.addWrap_cell _ _ _ _ _), hcell, Cell.half_withHalf_self, Cell.lost_withHalf]
  exact ⟨rfl, rfl, rfl, State.rd_wr_self _ _ _ _ _, Cell.lost_recount hlanes⟩

theorem resyncAckLowSeen_runs : ∃ due, exec (.resyncAckLowSeen n e wr) s
    = .next ((s.resync n e fun k => k.ackLowSeen wr).when due fun v => v.islandsDueAt n) := by
  change ∃ due, execResyncAckLowSeen n e wr s = _
  unfold execResyncAckLowSeen
  rw [hlive, State.when_true]
  exact ⟨_, rfl⟩

theorem resyncAckLowSeen_ends (hbusy : ((s.c n e).half wr).busy = true) (hreq : ((s.c n e).half wr).req = false)
    (hack : ((s.c n e).half wr).ack = false) (hreq' : ((s.c n e).half (!wr)).req = false)
    (hack' : ((s.c n e).half (!wr)).ack = false) (hbusy' : ((s.c n e).half (!wr)).busy = false)
    (hwaiting : (s.c n e).waiting = none) :
    ∃ t, exec (.resyncAckLowSeen n e wr) s = .next t
      ∧ ((t.c n e).half wr).mode = (s.c n e).target ∧ (t.c n e).idle = true
      ∧ t.rd .XING_RESYNCS n = satAdd (objBits .XING_RESYNCS) (s.rd .XING_RESYNCS n) 1 := by
  have hcell : (s.c n e).ackLowSeen wr
      = (s.c n e).withHalf wr { (s.c n e).half wr with busy := false, mode := (s.c n e).target } := by
    unfold Cell.ackLowSeen
    rw [hack', if_neg Bool.false_ne_true, Cell.enter_rests hbusy hreq hack hreq' hack']
  have hself := Cell.half_withHalf_self (s.c n e) wr { (s.c n e).half wr with busy := false, mode := (s.c n e).target }
  have hother := Cell.half_withHalf_other (s.c n e) { (s.c n e).half wr with busy := false, mode := (s.c n e).target }
    (Bool.not_ne_self wr)
  rw [← hcell] at hself hother
  have hidle : ((s.c n e).ackLowSeen wr).idle = true := by
    apply Cell.idle_of_halves (wr := wr)
    · rw [hself]
    · rw [hself, hreq]
    · rw [hother, hbusy']
    · rw [hother, hreq']
  have hnone : ((s.c n e).ackLowSeen wr).waiting = none := by
    rw [hcell, ← hwaiting]
    cases wr <;> rfl
  have hends := State.resync_ends (f := fun k => k.ackLowSeen wr) (Cell.not_idle_of_busy hbusy) hidle hnone
  obtain ⟨due, hruns⟩ := resyncAckLowSeen_runs hlive
  rw [hends] at hruns
  have hkept := State.islandsDueIf_kept ((s.modC n e fun k => k.ackLowSeen wr).inc .XING_RESYNCS n) n due
  refine ⟨_, hruns, ?_⟩
  rw [State.c_congr (hkept.part .cell (by decide)), hkept.obj _ _ _ id, State.c_congr (State.inc_cell _ _ _ _),
    State.c_modC_self, hself]
  exact ⟨rfl, hidle, State.rd_inc_self _ _ _ _⟩

end

/-! ### A lane listed twice -/

/-- Region 1 stands at edge 1 of region 0, which is clocked. In the cell between them the write half has lowered REQ, which
the read half has yet to see, and the table of lanes lists lane 0 twice, each time with one word lost. -/
def laneTwice : State :=
  ((((State.zero {}).wr .NEIGHBOUR 1 0 1).wr .LINKS 1 0 1).setOsc 0 .running true).modC 0 1 fun _ =>
    { rd := { ack := true, busy := true }, wr := { busy := true }
      lanes := [(0, { written := 1, rdy := true }), (0, { written := 1 })] }

/-- The form that every step keeps does not look into the lanes of a cell. -/
theorem laneTwice_canon : laneTwice.canon = true := by decide +kernel

/-- Refutes O14 by the last claim of its third clause, which does not ask that each lane be listed once: the new count reaches
the first entry of a lane alone, and the words of the second stand as lost again. No write of a lane lists it twice
(`Cell.eachLane_rising`), and where the keys of the lanes rise the clause holds (`resyncReqLowSeen_enters`), as the other three do
of every state. -/
theorem not_resyncHandshake : ¬ Obligations.ResyncHandshake := by
  unfold Obligations.ResyncHandshake
  rintro ⟨-, -, hreqLow, -⟩
  have hlive : laneTwice.halfLive 0 1 false = true := by decide +kernel
  have hack : ((laneTwice.c 0 1).half false).ack = true := by decide +kernel
  have hreq' : ((laneTwice.c 0 1).half true).req = false := by decide +kernel
  obtain ⟨t, ht, -, -, -, -, hlost⟩ := hreqLow 0 1 false laneTwice hlive hack (by decide +kernel) (by decide +kernel) hreq'
    (by decide +kernel) (by decide +kernel)
  have hsame := Host.Outcome.next.inj ((resyncReqLowSeen_runs hlive hack hreq').symm.trans ht)
  rw [← hsame] at hlost
  exact absurd hlost (by decide +kernel)

end Sys2Proof.Machine
end

section
/-! SUPPORT. Signed objects read back (R413). -/

namespace Sys2Proof.Machine
open Sys2Proof

/-- A value within the type reads back as it was written. -/
theorem toInt_ofInt {w : Nat} {z : Int} (hw : 0 < w) (hlow : -((2 ^ (w - 1) : Nat) : Int) ≤ z)
    (hhigh : z ≤ ((2 ^ (w - 1) : Nat) : Int) - 1) : toInt w (ofInt w z) = z := by
  have htwo : 2 ^ w = 2 * 2 ^ (w - 1) := by rw [← pow_succ', Nat.sub_add_cancel hw]
  have hpos : 0 < 2 ^ (w - 1) := Nat.two_pow_pos _
  have hfits : ofInt w z % 2 ^ w = ofInt w z := Nat.mod_eq_of_lt (ofInt_lt w z)
  unfold toInt
  rw [hfits]
  unfold ofInt
  generalize 2 ^ (w - 1) = m at *
  rw [htwo]
  by_cases hneg : z < 0
  · have hmod : z % ((2 * m : Nat) : Int) = z + (2 * m : Nat) := by
      rw [← Int.add_emod_right, Int.emod_eq_of_lt (by omega) (by omega)]
    rw [hmod]
    dsimp only
    rw [if_neg (by omega)]
    omega
  · have hmod : z % ((2 * m : Nat) : Int) = z := Int.emod_eq_of_lt (by omega) (by omega)
    rw [hmod]
    dsimp only
    rw [if_pos (by omega)]
    omega

theorem State.rdInt_wrInt_self (s : State) {o : Obj} {z : Int} (e i : Nat) (ho : 0 < objBits o)
    (hlow : -((2 ^ (objBits o - 1) : Nat) : Int) ≤ z) (hhigh : z ≤ ((2 ^ (objBits o - 1) : Nat) : Int) - 1) :
    (s.wrInt o z e i).rdInt o e i = z := by
  rw [State.rdInt, State.rd_wrInt_self, toInt_ofInt ho hlow hhigh]

theorem clampInt_mem {lo hi : Int} (h : lo ≤ hi) (z : Int) : lo ≤ clampInt lo hi z ∧ clampInt lo hi z ≤ hi := by
  unfold clampInt
  split_ifs <;> omega

/-- A signed object held at the ends of its type reads the value so held. -/
theorem State.rdInt_wrSat_self (s : State) {o : Obj} (z : Int) (e i : Nat) (ho : 0 < objBits o) :
    (s.wrSat o z e i).rdInt o e i
      = clampInt (-((2 ^ (objBits o - 1) : Nat) : Int)) (((2 ^ (objBits o - 1) : Nat) : Int) - 1) z := by
  have hpos : 0 < 2 ^ (objBits o - 1) := Nat.two_pow_pos _
  have hmem := clampInt_mem (lo := -((2 ^ (objBits o - 1) : Nat) : Int)) (hi := ((2 ^ (objBits o - 1) : Nat) : Int) - 1)
    (by omega) z
  exact State.rdInt_wrInt_self s e i ho hmem.1 hmem.2

end Sys2Proof.Machine
end

section
/-! SUPPORT. REF_STATUS, the loss of a reference, and the entry into holdover (R199, R204 to R208, R222). -/

namespace Sys2Proof.Machine
open Sys2Proof

/-! ### REF_STATUS (R222) -/

theorem State.refValid_congr {s t : State} (h : t.rd .REF_STATUS = s.rd .REF_STATUS) (b : Bool) :
    t.refValid b = s.refValid b :=
  State.flag_congr h _

theorem State.selected_congr {s t : State} (h : t.rd .REF_STATUS = s.rd .REF_STATUS) : t.selected = s.selected :=
  congrArg (bits · 4 2) h

/-- A bit of REF_STATUS outside SELECTED. -/
def besideSelected (i : Nat) : Prop := (i < 4 ∨ 6 ≤ i) ∧ i < objBits .REF_STATUS

theorem besideSelected_valid (b : Bool) : besideSelected b.toNat := by
  cases b <;> exact ⟨by decide, by decide⟩

theorem besideSelected_qual (b : Bool) : besideSelected (2 + b.toNat) := by
  cases b <;> exact ⟨by decide, by decide⟩

theorem besideSelected_edge (b : Bool) : besideSelected (6 + 2 * b.toNat) := by
  cases b <;> exact ⟨by decide, by decide⟩

theorem besideSelected_freq (b : Bool) : besideSelected (7 + 2 * b.toNat) := by
  cases b <;> exact ⟨by decide, by decide⟩

/-- A bit beside SELECTED written leaves SELECTED. -/
theorem State.selected_setFlag (s : State) {i : Nat} (v : Bool) (h : besideSelected i) :
    (s.setFlag .REF_STATUS i v).selected = s.selected := by
  have hcut : bits (setBit (s.rd .REF_STATUS) i v % 2 ^ objBits .REF_STATUS) 4 2 = bits (setBit (s.rd .REF_STATUS) i v) 4 2 :=
    bits_mod (by decide)
  rw [State.selected, State.setFlag, State.rd_wr_self, hcut]
  exact bits_setBits_other (by have := h.1; omega)

/-- A change of source writes SELECTED and nothing beside it. -/
theorem State.rd_changeSource (s : State) (v : Nat) :
    (s.changeSource v).rd .REF_STATUS = setBits (s.rd .REF_STATUS) 4 2 v % 2 ^ objBits .REF_STATUS :=
  (State.rd_wr_other _ (by decide) _ _ _ _ _).trans (State.rd_wr_self _ _ _ _ _)

theorem State.selected_changeSource (s : State) {v : Nat} (h : v < 4) : (s.changeSource v).selected = v := by
  have hcut : bits (setBits (s.rd .REF_STATUS) 4 2 v % 2 ^ objBits .REF_STATUS) 4 2 = bits (setBits (s.rd .REF_STATUS) 4 2 v) 4 2 :=
    bits_mod (by decide)
  rw [State.selected, State.rd_changeSource, hcut, bits_setBits_self]
  exact Nat.mod_eq_of_lt h

theorem State.flag_changeSource (s : State) (v : Nat) {i : Nat} (h : besideSelected i) :
    (s.changeSource v).flag .REF_STATUS i = s.flag .REF_STATUS i := by
  rw [State.flag, State.rd_changeSource, bit_mod h.2]
  exact congrArg (· == 1) (bits_setBits_other (by have := h.1; omega))

/-! ### A switch to the other reference (R204, R205) -/

/-- What follows a change of source in a switch leaves REF_STATUS. -/
theorem State.switchTo_status (s : State) (b : Bool) :
    State.Keeps [.REF_STATUS] [] (s.changeSource (refCode b)) (s.switchTo b) := by
  have hevent : State.Keeps [.REF_STATUS] [] (s.changeSource (refCode b))
      (((s.changeSource (refCode b)).inc .REF_SWITCHES).event 0x11 0xFFFF (refCode b) s.refs.injSpan) := by
    apply State.event_frame (h := State.inc_frame _ (Fr.refl _)) <;> decide
  apply State.launchSwitch_frame (h := hevent) <;> decide

theorem State.switchTo_flag (s : State) (b : Bool) {i : Nat} (h : besideSelected i) :
    (s.switchTo b).flag .REF_STATUS i = s.flag .REF_STATUS i :=
  (State.flag_congr ((s.switchTo_status b).rd (by decide) 0 0) i).trans (s.flag_changeSource _ h)

theorem State.switchTo_selected (s : State) (b : Bool) : (s.switchTo b).selected = refCode b :=
  (State.selected_congr ((s.switchTo_status b).rd (by decide) 0 0)).trans (s.changeSource_selected b)

theorem State.switchTo_counted (s : State) (b : Bool) : s.Counted (s.switchTo b) .REF_SWITCHES := by
  have hsource : State.Keeps [.REF_SWITCHES] [] s (s.changeSource (refCode b)) := by
    apply State.changeSource_frame (h := Fr.refl s) <;> decide
  have hevent : State.Keeps [.REF_SWITCHES] [] ((s.changeSource (refCode b)).inc .REF_SWITCHES)
      (((s.changeSource (refCode b)).inc .REF_SWITCHES).event 0x11 0xFFFF (refCode b) s.refs.injSpan) := by
    apply State.event_frame (h := Fr.refl _) <;> decide
  have hswitch : State.Keeps [.REF_SWITCHES] [] ((s.changeSource (refCode b)).inc .REF_SWITCHES) (s.switchTo b) := by
    apply State.launchSwitch_frame (h := hevent) <;> decide
  have hcount : (s.switchTo b).rd .REF_SWITCHES = satAdd (objBits .REF_SWITCHES) ((s.changeSource (refCode b)).rd .REF_SWITCHES) 1 :=
    (hswitch.rd (by decide) 0 0).trans (State.rd_inc_self _ _ _ _)
  rw [State.Counted, hcount, hsource.rd (by decide)]

/-! ### Holdover begins (R208) -/

/-- The block once the internal oscillator drives the net and the field bus has been left. -/
def State.freeRun (s : State) : State :=
  ((s.changeSource 0).launchSwitch 0).when (s.isReady .fbOn) fun t =>
    (((t.free 51 1).2.add .FB_ABANDONED (t.free 51 1).1).setReady .fbOn false).leaveBus

/-- The block once the bits of holdover are set, and its entry is counted. -/
def State.markHoldover (s : State) (inj : Bool) : State :=
  ((s.setReady .holdover true).setReady .aonInternal true).when (!inj) fun t => t.inc .HOLDOVER_ENTRIES

/-- The same once the entry is logged. -/
def State.showHoldover (s : State) (inj : Bool) : State :=
  (s.markHoldover inj).event 0x12 0xFFFF ((s.markHoldover inj).rd .INTOSC_ERR) inj

/-- The times of a holdover that is entered at `us`, where it does not go on. -/
def Refs.enter (x : Refs) (us : Nat) : Refs :=
  { x with holdSince := some (x.holdSince.getD us), relockAt := some (us + 10), exitTo := none }

/-- The block once the times of the holdover stand. -/
def State.timeHoldover (s : State) (us : Nat) : State := { s with refs := s.refs.enter us }

theorem State.enterHoldover_eq (s : State) :
    s.enterHoldover = (((s.freeRun.showHoldover s.refs.injSpan).timeHoldover s.up).each
      ((s.freeRun.showHoldover s.refs.injSpan).timeHoldover s.up).groups fun t g => t.holdCeiling g).markRuns
        ((s.freeRun.showHoldover s.refs.injSpan).timeHoldover s.up).groups 7 := rfl

theorem State.freeRun_rd (s : State) : s.freeRun.rd .REF_STATUS = (s.changeSource 0).rd .REF_STATUS := by
  have hswitch : State.Keeps [.REF_STATUS] [] (s.changeSource 0) ((s.changeSource 0).launchSwitch 0) := by
    apply State.launchSwitch_frame (h := Fr.refl _) <;> decide
  have hbus : State.Keeps [.REF_STATUS] [] (s.changeSource 0) s.freeRun := by
    refine State.when_kept hswitch fun t ht => State.leaveBus_frame (by decide) (by decide) (by decide) ?_
    exact State.setReady_frame (by decide) (State.add_frame (by decide) (State.free_frame (by decide) ht))
  exact hbus.rd (by decide) 0 0

theorem State.freeRun_refs (s : State) : s.freeRun.refs = { s.refs with suppressUntil := s.up + 2 } := by
  have hbus : State.Keeps [] [.refs] ((s.changeSource 0).launchSwitch 0) s.freeRun := by
    refine State.when_kept (Fr.refl _) fun t ht => State.leaveBus_frame (by decide) (by decide) (by decide) ?_
    exact State.setReady_frame (by decide) (State.add_frame (by decide) (State.free_frame (by decide) ht))
  exact Eq.trans (hbus.same .refs (by decide)) (State.launchSwitch_refs _ 0)

theorem State.showHoldover_keeps (s : State) (inj : Bool) : State.Keeps [.REF_STATUS] [.refs] s (s.showHoldover inj) := by
  have hmarked : State.Keeps [.REF_STATUS] [.refs] s (s.markHoldover inj) :=
    State.when_kept (State.setReady_frame (by decide) (State.setReady_frame (by decide) (Fr.refl s))) fun _ ht =>
      State.inc_frame (by decide) ht
  apply State.event_frame (h := hmarked) <;> decide

theorem State.showHoldover_ready (s : State) (inj : Bool) : (s.showHoldover inj).isReady .holdover = true := by
  have hcounted : State.Keeps [.UNIT_READY] [] ((s.setReady .holdover true).setReady .aonInternal true) (s.markHoldover inj) :=
    State.when_kept (Fr.refl _) fun _ ht => State.inc_frame (by decide) ht
  have hshown : State.Keeps [.UNIT_READY] [] ((s.setReady .holdover true).setReady .aonInternal true) (s.showHoldover inj) := by
    apply State.event_frame (h := hcounted) <;> decide
  rw [State.isReady_congr (hshown.rd (by decide) 0 0), State.isReady_setReady_other _ _ (by decide), State.isReady_setReady_self]

/-- The ceilings that follow the entry, and the runs that see it, leave the references. -/
theorem State.enterHoldover_ends (s : State) :
    State.Keeps [.REF_STATUS, .UNIT_READY] [.refs] ((s.freeRun.showHoldover s.refs.injSpan).timeHoldover s.up)
      s.enterHoldover := by
  have hceilings : State.Keeps [.REF_STATUS, .UNIT_READY] [.refs] ((s.freeRun.showHoldover s.refs.injSpan).timeHoldover s.up)
      (((s.freeRun.showHoldover s.refs.injSpan).timeHoldover s.up).each
        ((s.freeRun.showHoldover s.refs.injSpan).timeHoldover s.up).groups fun t g => t.holdCeiling g) :=
    State.each_kept (Fr.refl _) fun t g ht => by apply State.holdCeiling_frame (h := ht) <;> decide
  rw [s.enterHoldover_eq]
  exact State.markRuns_frame (by decide) hceilings

theorem State.enterHoldover_status (s : State) :
    s.enterHoldover.rd .REF_STATUS = (s.changeSource 0).rd .REF_STATUS :=
  (s.enterHoldover_ends.rd (by decide) 0 0).trans
    (((s.freeRun.showHoldover_keeps s.refs.injSpan).rd (by decide) 0 0).trans s.freeRun_rd)

theorem State.enterHoldover_flag (s : State) {i : Nat} (h : besideSelected i) :
    s.enterHoldover.flag .REF_STATUS i = s.flag .REF_STATUS i :=
  (State.flag_congr s.enterHoldover_status i).trans (s.flag_changeSource _ h)

theorem State.enterHoldover_refs (s : State) :
    s.enterHoldover.refs = ({ s.refs with suppressUntil := s.up + 2 } : Refs).enter s.up := by
  have hshown : (s.freeRun.showHoldover s.refs.injSpan).refs = { s.refs with suppressUntil := s.up + 2 } :=
    Eq.trans ((s.freeRun.showHoldover_keeps s.refs.injSpan).same .refs (by decide)) s.freeRun_refs
  exact Eq.trans (s.enterHoldover_ends.same .refs (by decide)) (congrArg (Refs.enter · s.up) hshown)

/-- Holdover is entered: nothing is selected, its bit is set, it goes on or begins now, and the relock is due. -/
theorem State.enterHoldover_effect (s : State) :
    s.enterHoldover.selected = 0 ∧ s.enterHoldover.isReady .holdover = true
      ∧ s.enterHoldover.refs.holdSince = some (s.refs.holdSince.getD s.up) ∧ s.enterHoldover.refs.relockAt = some (s.up + 10) := by
  refine ⟨?_, ?_, congrArg Refs.holdSince s.enterHoldover_refs, congrArg Refs.relockAt s.enterHoldover_refs⟩
  · exact (State.selected_congr s.enterHoldover_status).trans (s.selected_changeSource (by decide))
  · exact (State.isReady_congr (s.enterHoldover_ends.rd (by decide) 0 0) _).trans
      (s.freeRun.showHoldover_ready s.refs.injSpan)

/-! ### A reference declared lost (R199, R204, R206) -/

/-- The bits of REF_STATUS of a reference lost: invalid, not qualifying, and why. -/
def State.lossBits (s : State) (b freq : Bool) : State :=
  (((s.setFlag .REF_STATUS (2 + b.toNat) false).setFlag .REF_STATUS b.toNat false).setFlag .REF_STATUS (6 + 2 * b.toNat)
    (!freq)).setFlag .REF_STATUS (7 + 2 * b.toNat) freq

theorem State.lossBits_flags (s : State) (b freq : Bool) :
    (s.lossBits b freq).refValid b = false ∧ (s.lossBits b freq).refValid (!b) = s.refValid (!b)
      ∧ (s.lossBits b freq).flag .REF_STATUS (6 + 2 * b.toNat) = (!freq)
      ∧ (s.lossBits b freq).flag .REF_STATUS (7 + 2 * b.toNat) = freq := by
  unfold State.lossBits State.refValid
  cases b <;> simp +decide [State.flag_setFlag_self, State.flag_setFlag_other]

theorem State.lossBits_selected (s : State) (b freq : Bool) : (s.lossBits b freq).selected = s.selected := by
  rw [State.lossBits, State.selected_setFlag _ _ (besideSelected_freq b), State.selected_setFlag _ _ (besideSelected_edge b),
    State.selected_setFlag _ _ (besideSelected_valid b), State.selected_setFlag _ _ (besideSelected_qual b)]

/-- The references once `b` has been lost: its qualification is broken off, an injected loss is marked. -/
def Refs.lose (x : Refs) (b inj : Bool) : Refs :=
  if b then { x with injSpan := x.injSpan || inj, qualB := none } else { x with injSpan := x.injSpan || inj, qualA := none }

theorem Refs.lose_times (x : Refs) (b inj : Bool) :
    (x.lose b inj).holdSince = x.holdSince ∧ (x.lose b inj).relockAt = x.relockAt := by
  cases b <;> exact ⟨rfl, rfl⟩

/-- The block once reference `b` has been declared lost and its loss is counted, the net being as it was. -/
def State.declareLost (s : State) (b freq inj : Bool) : State :=
  let t : State := { s with refs := s.refs.lose b inj }
  ((t.lossBits b freq).setReady (refRdy b) false).when (!(t.lossBits b freq).refs.injSpan) fun u =>
    u.inc (if b then .REF_B_LOSSES else .REF_A_LOSSES)

theorem State.loseRef_eq (s : State) (b freq inj : Bool) :
    s.loseRef b freq inj =
      if (s.declareLost b freq inj).selected = refCode b then
        if (s.declareLost b freq inj).refValid (!b) then (s.declareLost b freq inj).switchTo (!b)
        else (s.declareLost b freq inj).enterHoldover
      else (s.declareLost b freq inj).event 0x10 0xFFFF (b.toNat + 2 * freq.toNat) (s.declareLost b freq inj).refs.injSpan := by
  cases b <;> rfl

/-- Beside the bits of REF_STATUS, a loss declared reaches readiness, its own count and the references alone. -/
theorem State.declareLost_keeps (s : State) (b freq inj : Bool) :
    State.Keeps [.REF_STATUS, .REF_SWITCHES] [.clock, .refs] (({ s with refs := s.refs.lose b inj } : State).lossBits b freq)
      (s.declareLost b freq inj) := by
  refine State.when_kept (State.setReady_frame (by decide) (Fr.refl _)) fun u hu => State.inc_frame ?_ hu
  cases b <;> decide

theorem State.declareLost_flags (s : State) (b freq inj : Bool) :
    (s.declareLost b freq inj).refValid b = false ∧ (s.declareLost b freq inj).refValid (!b) = s.refValid (!b)
      ∧ (s.declareLost b freq inj).flag .REF_STATUS (6 + 2 * b.toNat) = (!freq)
      ∧ (s.declareLost b freq inj).flag .REF_STATUS (7 + 2 * b.toNat) = freq
      ∧ (s.declareLost b freq inj).selected = s.selected := by
  have hstatus := (s.declareLost_keeps b freq inj).rd (o := .REF_STATUS) (by decide) 0 0
  obtain ⟨hlost, hother, hedge, hfreq⟩ := ({ s with refs := s.refs.lose b inj } : State).lossBits_flags b freq
  refine ⟨(State.refValid_congr hstatus b).trans hlost, (State.refValid_congr hstatus _).trans hother,
    (State.flag_congr hstatus _).trans hedge, (State.flag_congr hstatus _).trans hfreq, ?_⟩
  exact (State.selected_congr hstatus).trans (State.lossBits_selected _ b freq)

theorem State.declareLost_refs (s : State) (b freq inj : Bool) :
    (s.declareLost b freq inj).refs = s.refs.lose b inj ∧ (s.declareLost b freq inj).up = s.up := by
  have hkeeps := s.declareLost_keeps b freq inj
  exact ⟨hkeeps.same .refs (by decide), congrArg Clock.up (hkeeps.same .clock (by decide))⟩

theorem State.declareLost_counts (s : State) (b freq inj : Bool) :
    (s.declareLost b freq inj).rd .REF_SWITCHES = s.rd .REF_SWITCHES := by
  have hbits : State.Keeps [.REF_SWITCHES] [] ({ s with refs := s.refs.lose b inj } : State)
      (({ s with refs := s.refs.lose b inj } : State).lossBits b freq) :=
    State.setFlag_frame (by decide) (State.setFlag_frame (by decide) (State.setFlag_frame (by decide)
      (State.setFlag_frame (by decide) (Fr.refl _))))
  exact ((s.declareLost_keeps b freq inj).rd (by decide) 0 0).trans (hbits.rd (by decide) 0 0)

/-- A reference lost is invalid, with the bit of why set and the other's clear. -/
theorem State.loseRef_flags (s : State) (b freq inj : Bool) :
    (s.loseRef b freq inj).refValid b = false ∧ (s.loseRef b freq inj).flag .REF_STATUS (6 + 2 * b.toNat) = (!freq)
      ∧ (s.loseRef b freq inj).flag .REF_STATUS (7 + 2 * b.toNat) = freq := by
  obtain ⟨hlost, -, hedge, hfreq, -⟩ := s.declareLost_flags b freq inj
  have hflag : ∀ i, besideSelected i →
      (s.loseRef b freq inj).flag .REF_STATUS i = (s.declareLost b freq inj).flag .REF_STATUS i := fun i hi => by
    rw [s.loseRef_eq]
    split
    · split
      · exact State.switchTo_flag _ _ hi
      · exact State.enterHoldover_flag _ hi
    · exact State.flag_congr ((State.event_fr _ _ _ _ _).obj _ _ _ (by decide)) i
  exact ⟨(hflag _ (besideSelected_valid b)).trans hlost, (hflag _ (besideSelected_edge b)).trans hedge,
    (hflag _ (besideSelected_freq b)).trans hfreq⟩

section
variable {s : State} {b : Bool} (freq inj : Bool)

/-- The loss of the selected reference changes the net to the other where that is valid. -/
theorem State.loseRef_switches (hsel : s.selected = refCode b) (hother : s.refValid (!b) = true) :
    (s.loseRef b freq inj).selected = refCode (!b) ∧ s.Counted (s.loseRef b freq inj) .REF_SWITCHES
      ∧ (s.loseRef b freq inj).refs.suppressUntil = s.up + 2 := by
  obtain ⟨-, hvalid, -, -, hselected⟩ := s.declareLost_flags b freq inj
  have heq : s.loseRef b freq inj = (s.declareLost b freq inj).switchTo (!b) := by
    rw [s.loseRef_eq, if_pos (hselected.trans hsel), if_pos (hvalid.trans hother)]
  rw [heq]
  refine ⟨State.switchTo_selected _ _, ?_, ?_⟩
  · rw [State.Counted, ← s.declareLost_counts b freq inj]
    exact State.switchTo_counted _ _
  · rw [State.switchTo_refs]
    exact congrArg (· + 2) (s.declareLost_refs b freq inj).2

/-- The loss of the selected reference without another enters holdover. -/
theorem State.loseRef_enters (hsel : s.selected = refCode b) (hother : s.refValid (!b) = false) :
    (s.loseRef b freq inj).selected = 0 ∧ (s.loseRef b freq inj).isReady .holdover = true
      ∧ (s.loseRef b freq inj).refs.holdSince = some (s.refs.holdSince.getD s.up)
      ∧ (s.loseRef b freq inj).refs.relockAt = some (s.up + 10) := by
  obtain ⟨-, hvalid, -, -, hselected⟩ := s.declareLost_flags b freq inj
  obtain ⟨hrefs, hup⟩ := s.declareLost_refs b freq inj
  have heq : s.loseRef b freq inj = (s.declareLost b freq inj).enterHoldover := by
    rw [s.loseRef_eq, if_pos (hselected.trans hsel), if_neg (by rw [hvalid, hother]; exact Bool.false_ne_true)]
  have henters := (s.declareLost b freq inj).enterHoldover_effect
  rwa [hrefs, hup, (s.refs.lose_times b inj).1, ← heq] at henters

/-- The loss of a reference that is not selected leaves the net. -/
theorem State.loseRef_unselected (hsel : s.selected ≠ refCode b) : (s.loseRef b freq inj).selected = s.selected := by
  obtain ⟨-, -, -, -, hselected⟩ := s.declareLost_flags b freq inj
  rw [s.loseRef_eq, if_neg (by rwa [hselected])]
  exact (State.selected_congr ((State.event_fr _ _ _ _ _).obj _ _ _ (by decide))).trans hselected

end

end Sys2Proof.Machine
end

section
/-! PROOF. References are tested and lost (R199 to R205, R207, R208, R222). -/

namespace Sys2Proof.Machine
open Sys2Proof

/-! ### A missing edge (R199, R204) -/

/-- The block once the error of reference `b` is shown as not measured (R222). -/
def State.unmeasured (s : State) (b : Bool) : State := s.wr (refErr b) 0x7FFFFFFF

theorem State.unmeasured_keeps (s : State) (b : Bool) :
    State.Keeps [.REF_STATUS, .REF_SWITCHES] [.refs, .clock, .inj] s (s.unmeasured b) :=
  State.wr_frame (by cases b <;> decide) (Fr.refl s)

theorem State.unmeasured_rd (s : State) (b : Bool) : (s.unmeasured b).rd (refErr b) = 0x7FFFFFFF := by
  cases b <;> exact State.rd_wr_self s _ _ _ _

section
variable {s : State} {b : Bool} (hreleased : s.su.released = true) (hinj : s.injAt (3 + b.toNat) = none)
include hreleased

theorem refMissingEdge_invalid (hvalid : s.refValid b = false) :
    exec (.refMissingEdge b) s = .next ((s.unmeasured b).setQual b none) := by
  have hvalid' : (s.unmeasured b).refValid b = false :=
    (State.refValid_congr ((s.unmeasured_keeps b).rd (by decide) 0 0) b).trans hvalid
  change execRefMissingEdge b s = _
  rw [execRefMissingEdge, hreleased, State.when_true]
  exact congrArg Host.Outcome.next (if_neg (by rw [← State.unmeasured, hvalid']; exact Bool.false_ne_true))

include hinj in
/-- A missing edge of a valid reference, with no injection of its loss, is its loss. -/
theorem refMissingEdge_valid (hvalid : s.refValid b = true) :
    exec (.refMissingEdge b) s = .next ((s.unmeasured b).loseRef b false false) := by
  have hkeeps := s.unmeasured_keeps b
  have hvalid' : (s.unmeasured b).refValid b = true := (State.refValid_congr (hkeeps.rd (by decide) 0 0) b).trans hvalid
  have hsame : (s.unmeasured b).inj = s.inj := hkeeps.same .inj (by decide)
  have hnone : (s.unmeasured b).injAt (3 + b.toNat) = none := by
    rw [State.injAt, hsame]
    exact hinj
  have huse : (s.unmeasured b).useRefInj b = s.unmeasured b := by
    unfold State.useRefInj
    rw [hnone]
  change execRefMissingEdge b s = _
  rw [execRefMissingEdge, hreleased, State.when_true]
  dsimp only
  rw [← State.unmeasured, if_pos hvalid', huse, hnone]
  rfl

end

/-! ### A frequency window (R199 to R201) -/

/-- Showing the error of a reference leaves what its tests look at. -/
theorem State.showRefErr_leaves (s : State) (b : Bool) (err raw : Int) :
    State.Keeps [.REF_STATUS, .INTOSC_ERR] [.refs, .clock] s (s.showRefErr b err raw) := by
  apply State.showRefErr_frame (h := Fr.refl s) <;> decide

section
variable {s t : State} (h : State.Keeps [.REF_STATUS, .INTOSC_ERR] [.refs, .clock] s t)
include h

theorem State.intosc_of_keeps : t.intosc = s.intosc := by
  rw [State.intosc, State.intoscKnown, State.rdInt, h.rd (by decide)]
  rfl

theorem State.intLimit_of_keeps (ppm : Nat) : t.intLimit ppm = s.intLimit ppm := by
  rw [State.intLimit, State.intoscKnown, h.rd (by decide)]
  rfl

theorem State.freqFails_of_keeps (b : Bool) (err raw : Int) : t.freqFails b err raw = s.freqFails b err raw := by
  rw [State.freqFails, State.refValid_congr (h.rd (by decide) 0 0), State.intosc_of_keeps h, State.intLimit_of_keeps h]
  rfl

theorem State.worseRef_of_keeps (b : Bool) (err raw : Int) : t.worseRef b err raw = s.worseRef b err raw := by
  rw [State.worseRef, State.selected_congr (h.rd (by decide) 0 0), State.intosc_of_keeps h, State.intLimit_of_keeps h]
  rfl

end

theorem State.qualOf_setQual (s : State) (b : Bool) (q : Option Nat) : (s.setQual b q).qualOf b = q := by
  cases b <;> rfl

theorem State.qualOf_congr {s t : State} (h : t.refs = s.refs) (b : Bool) : t.qualOf b = s.qualOf b := by
  rw [State.qualOf, h]
  rfl

/-- A failed window breaks the qualification off. -/
theorem State.qualWindow_fails (s : State) (b : Bool) : (s.qualWindow b true).qualOf b = none := by
  unfold State.qualWindow
  exact State.qualOf_setQual _ _ _

/-- The first window passed, with no loss injected, begins the qualification. -/
theorem State.qualWindow_begins {s : State} {b : Bool} (hinj : s.injLoss b = none) (hqual : s.qualOf b = none) :
    (s.qualWindow b false).qualOf b = some (s.up - 10) := by
  unfold State.qualWindow
  rw [hinj, hqual]
  exact State.qualOf_setQual _ _ _

/-- What a frequency window of reference `b` does to the block on which its error is shown (R199 to R201). -/
def State.freqWindow (s : State) (b : Bool) (err raw : Int) : State :=
  if !s.refValid b then s.qualWindow b (s.freqFails b err raw)
  else if !s.freqFails b err raw then s
  else if s.refValid (!b) then s.loseRef (s.worseRef b err raw) true false
  else s.loseRef b true false

section
variable {s : State} {b : Bool} {err raw : Int}

theorem State.freqWindow_invalid (hvalid : s.refValid b = false) :
    s.freqWindow b err raw = s.qualWindow b (s.freqFails b err raw) := by
  rw [State.freqWindow, hvalid, Bool.not_false, if_pos rfl]

theorem State.freqWindow_passes (hvalid : s.refValid b = true) (hpass : s.freqFails b err raw = false) :
    s.freqWindow b err raw = s := by
  rw [State.freqWindow, hvalid, hpass, Bool.not_true, if_neg Bool.false_ne_true, Bool.not_false, if_pos rfl]

theorem State.freqWindow_alone (hvalid : s.refValid b = true) (hother : s.refValid (!b) = false)
    (hfail : s.freqFails b err raw = true) : s.freqWindow b err raw = s.loseRef b true false := by
  rw [State.freqWindow, hvalid, hfail, Bool.not_true, if_neg Bool.false_ne_true, if_neg Bool.false_ne_true, hother,
    if_neg Bool.false_ne_true]

theorem State.freqWindow_both (hvalid : s.refValid b = true) (hother : s.refValid (!b) = true)
    (hfail : s.freqFails b err raw = true) : s.freqWindow b err raw = s.loseRef (s.worseRef b err raw) true false := by
  rw [State.freqWindow, hvalid, hfail, Bool.not_true, if_neg Bool.false_ne_true, if_neg Bool.false_ne_true, hother, if_pos rfl]

end

theorem refFreqWindow_eq {s : State} (b : Bool) (err raw : Int) (hreleased : s.su.released = true) :
    exec (.refFreqWindow b err raw) s = .next ((s.showRefErr b err raw).freqWindow b err raw) := by
  change execRefFreqWindow b err raw s = _
  rw [execRefFreqWindow, hreleased]
  rfl

/-! ### A reference that qualifies (R201, R207, R210) -/

theorem State.qualified_shows (s : State) (b : Bool) :
    (s.qualified b).refValid b = true ∧ (s.qualified b).isReady (refRdy b) = true ∧ (s.qualified b).qualOf b = none := by
  have hready : State.Keeps [.REF_STATUS] [] ((s.setQual b none).setFlag .REF_STATUS b.toNat true) (s.qualified b) :=
    State.setInjLoss_frame (by decide) (State.setReady_frame (by decide) (Fr.refl _))
  have hlit : State.Keeps [.UNIT_READY] [] (((s.setQual b none).setFlag .REF_STATUS b.toNat true).setReady (refRdy b) true)
      (s.qualified b) := State.setInjLoss_frame (by decide) (Fr.refl _)
  refine ⟨?_, ?_, ?_⟩
  · exact (State.refValid_congr (hready.rd (by decide) 0 0) b).trans
      (State.flag_setFlag_self _ _ _ (besideSelected_valid b).2)
  · exact (State.isReady_congr (hlit.rd (by decide) 0 0) _).trans (State.isReady_setReady_self _ _ _)
  · cases b <;> rfl

theorem State.prefer_flag (s : State) {i : Nat} (h : besideSelected i) :
    s.prefer.flag .REF_STATUS i = s.flag .REF_STATUS i := by
  unfold State.prefer
  exact State.when_same (·.flag .REF_STATUS i) _ (fun t => t.switchTo_flag _ h) _ _

theorem State.prefer_qualOf (s : State) (b : Bool) : s.prefer.qualOf b = s.qualOf b := by
  unfold State.prefer
  refine State.when_same (·.qualOf b) _ (fun t => ?_) _ _
  rw [State.qualOf, State.switchTo_refs]
  rfl

theorem State.leaveHoldover_flag (s : State) (b : Bool) {i : Nat} (h : besideSelected i) :
    (s.leaveHoldover b).flag .REF_STATUS i = s.flag .REF_STATUS i := by
  have hstatus : State.Keeps [.REF_STATUS] [] (s.changeSource (refCode b)) ((s.changeSource (refCode b)).launchSwitch 2) := by
    apply State.launchSwitch_frame (h := Fr.refl _) <;> decide
  refine Eq.trans ?_ ((State.flag_congr (hstatus.rd (by decide) 0 0) i).trans (s.flag_changeSource _ h))
  unfold State.leaveHoldover State.beginStop
  generalize (s.changeSource (refCode b)).launchSwitch 2 = u
  exact State.flag_congr (State.rd_congr rfl rfl _ _ _) i

theorem State.leaveHoldover_qualOf (s : State) (b c : Bool) : (s.leaveHoldover b).qualOf c = s.qualOf c := by
  have hrefs : (s.leaveHoldover b).refs
      = { ((s.changeSource (refCode b)).launchSwitch 2).refs with shortStop := true, exitTo := none } := rfl
  rw [State.qualOf, hrefs, State.launchSwitch_refs]
  rfl

/-- What is left of a reference that has just become valid. -/
def State.Qualified (b : Bool) (t : State) : Prop :=
  t.refValid b = true ∧ t.isReady (refRdy b) = true ∧ t.qualOf b = none

theorem refQualified_qualifies {b : Bool} {t0 : Nat} {s : State} (hqual : s.qualOf b = some t0)
    (htime : t0 + s.qualTime ≤ s.up) (hnew : s.refValid b = false) :
    ∃ t, exec (.refQualified b) s = .next t ∧ t.Qualified b := by
  obtain ⟨hvalid, hready, hnone⟩ := s.qualified_shows b
  have heq : exec (.refQualified b) s = .next (
      if (s.qualified b).refs.holdSince.isSome && (s.qualified b).selected == 0 then
        if (s.qualified b).refs.relockAt.isNone && !(s.qualified b).refs.shortStop then (s.qualified b).leaveHoldover b
        else { s.qualified b with refs := { (s.qualified b).refs with exitTo := some ((s.qualified b).refs.exitTo.getD b) } }
      else (s.qualified b).spanCheck.prefer) := by
    change execRefQualified b s = _
    unfold execRefQualified
    rw [hqual]
    dsimp only
    rw [decide_eq_true htime, hnew]
    rfl
  refine ⟨_, heq, ?_⟩
  generalize s.qualified b = u at hvalid hready hnone
  split
  · split
    · have hunit : State.Keeps [.UNIT_READY] [] u (u.leaveHoldover b) := by
        apply State.leaveHoldover_frame (h := Fr.refl u) <;> decide
      exact ⟨(u.leaveHoldover_flag b (besideSelected_valid b)).trans hvalid,
        (State.isReady_congr (hunit.rd (by decide) 0 0) _).trans hready, (u.leaveHoldover_qualOf b b).trans hnone⟩
    · exact ⟨hvalid, hready, by cases b <;> exact hnone⟩
  · have hspan : State.Keeps [.REF_STATUS, .UNIT_READY] [] u u.spanCheck := State.spanCheck_frame (by decide) (Fr.refl u)
    have hunit : State.Keeps [.UNIT_READY] [] u.spanCheck u.spanCheck.prefer := by
      apply State.prefer_frame (h := Fr.refl _) <;> decide
    refine ⟨(State.prefer_flag _ (besideSelected_valid b)).trans ?_,
      (State.isReady_congr ((hunit.rd (by decide) 0 0).trans (hspan.rd (by decide) 0 0)) _).trans hready,
      (State.prefer_qualOf _ b).trans ?_⟩
    · exact (State.refValid_congr (hspan.rd (by decide) 0 0) b).trans hvalid
    · refine Eq.trans (State.when_same (·.qualOf b) _ (fun _ => ?_) _ u) hnone
      cases b <;> rfl

/-! ### The internal oscillator (R203) -/

theorem intoscMeasure_stores (err : Int) {s : State} (hsel : s.selected ≠ 0) :
    ∃ t, exec (.intoscMeasure err) s = .next t ∧ t.rdInt .INTOSC_ERR = clampInt (-2147483648) 2147483647 err := by
  have hbits : objBits .INTOSC_ERR = 32 := by decide
  refine ⟨s.wrSat .INTOSC_ERR err, ?_, ?_⟩
  · change execIntoscMeasure err s = _
    rw [execIntoscMeasure, bne_iff_ne.2 hsel, State.when_true]
  · rw [State.rdInt_wrSat_self s err 0 0 (by decide), hbits]
    norm_num

/-! ### The statement -/

section
variable {s : State} {b : Bool} (hreleased : s.su.released = true)
include hreleased

/-- A missing edge of a reference that is not valid. -/
theorem refMissingEdge_unqualifies (hvalid : s.refValid b = false) :
    ∃ t, exec (.refMissingEdge b) s = .next t ∧ t.rd (refErr b) = 0x7FFFFFFF ∧ t.qualOf b = none := by
  have hqual : State.Keeps [.REF_A_ERR, .REF_B_ERR] [] (s.unmeasured b) ((s.unmeasured b).setQual b none) :=
    State.setQual_frame (by decide) (by decide) (Fr.refl _)
  have hin : refErr b ∈ [Obj.REF_A_ERR, .REF_B_ERR] := by cases b <;> decide
  exact ⟨_, refMissingEdge_invalid hreleased hvalid, (hqual.rd hin 0 0).trans (s.unmeasured_rd b),
    State.qualOf_setQual _ _ _⟩

/-- A missing edge of a valid reference, with no injection of its loss. -/
theorem refMissingEdge_loses (hinj : s.injAt (3 + b.toNat) = none) (hvalid : s.refValid b = true) :
    ∃ t, exec (.refMissingEdge b) s = .next t ∧ t.rd (refErr b) = 0x7FFFFFFF
      ∧ (t.refValid b = false ∧ t.flag .REF_STATUS (6 + 2 * b.toNat) = true)
      ∧ (s.selected = refCode b → s.refValid (!b) = true →
          t.selected = refCode (!b) ∧ s.Counted t .REF_SWITCHES ∧ t.refs.suppressUntil = s.up + 2)
      ∧ (s.selected = refCode b → s.refValid (!b) = false →
          t.selected = 0 ∧ t.isReady .holdover = true ∧ t.refs.holdSince = some (s.refs.holdSince.getD s.up)
            ∧ t.refs.relockAt = some (s.up + 10))
      ∧ (s.selected ≠ refCode b → t.selected = s.selected) := by
  have hkeeps := s.unmeasured_keeps b
  have hstatus : (s.unmeasured b).rd .REF_STATUS = s.rd .REF_STATUS := hkeeps.rd (by decide) 0 0
  have hrefs : (s.unmeasured b).refs = s.refs := hkeeps.same .refs (by decide)
  have hup : (s.unmeasured b).up = s.up := congrArg Clock.up (hkeeps.same .clock (by decide))
  have hother := State.refValid_congr hstatus (!b)
  have hsel := State.selected_congr hstatus
  have hin : refErr b ∈ [Obj.REF_A_ERR, .REF_B_ERR] := by cases b <;> decide
  have hloses : State.Keeps [.REF_A_ERR, .REF_B_ERR] [] (s.unmeasured b) ((s.unmeasured b).loseRef b false false) := by
    apply State.loseRef_frame (h := Fr.refl _) <;> decide
  obtain ⟨hlost, hedge, -⟩ := (s.unmeasured b).loseRef_flags b false false
  refine ⟨_, refMissingEdge_valid hreleased hinj hvalid, (hloses.rd hin 0 0).trans (s.unmeasured_rd b), ⟨hlost, hedge⟩,
    fun hs ho => ?_, fun hs ho => ?_, fun hs => ?_⟩
  · obtain ⟨hnew, hcount, hsuppress⟩ := State.loseRef_switches false false (hsel.trans hs) (hother.trans ho)
    rw [State.Counted, hkeeps.rd (by decide)] at hcount
    exact ⟨hnew, hcount, hsuppress.trans (congrArg (· + 2) hup)⟩
  · have henters := State.loseRef_enters false false (hsel.trans hs) (hother.trans ho)
    rwa [hrefs, hup] at henters
  · exact (State.loseRef_unselected false false (hsel ▸ hs)).trans hsel

/-- What the window of a reference does follows its validity, that of the other, and the test. -/
theorem refFreqWindow_tests (err raw : Int) :
    ∃ t, exec (.refFreqWindow b err raw) s = .next t
      ∧ (s.refValid b = false → s.freqFails b err raw = false → s.injLoss b = none → s.qualOf b = none →
          t.qualOf b = some (s.up - 10))
      ∧ (s.refValid b = false → s.freqFails b err raw = true → t.qualOf b = none)
      ∧ (s.refValid b = true → s.freqFails b err raw = false → t.refValid b = true)
      ∧ (s.refValid b = true → s.refValid (!b) = false → s.freqFails b err raw = true →
          t.refValid b = false ∧ t.flag .REF_STATUS (7 + 2 * b.toNat) = true)
      ∧ (s.refValid b = true → s.refValid (!b) = true → s.freqFails b err raw = true →
          t.refValid (s.worseRef b err raw) = false) := by
  have hkeeps := s.showRefErr_leaves b err raw
  have hvalid := State.refValid_congr (hkeeps.rd (o := .REF_STATUS) (by decide) 0 0)
  have hrefs : (s.showRefErr b err raw).refs = s.refs := hkeeps.same .refs (by decide)
  have hup : (s.showRefErr b err raw).up = s.up := congrArg Clock.up (hkeeps.same .clock (by decide))
  have hfails := State.freqFails_of_keeps hkeeps b err raw
  have hworse := State.worseRef_of_keeps hkeeps b err raw
  refine ⟨_, refFreqWindow_eq b err raw hreleased, ?_⟩
  generalize s.showRefErr b err raw = u at *
  refine ⟨fun hv hf hi hq => ?_, fun hv hf => ?_, fun hv hf => ?_, fun hv ho hf => ?_, fun hv ho hf => ?_⟩
  · have hinj : u.injLoss b = none := by rwa [State.injLoss, hrefs]
    have hbegins := State.qualWindow_begins hinj ((State.qualOf_congr hrefs b).trans hq)
    rwa [State.freqWindow_invalid ((hvalid b).trans hv), hfails, hf, ← hup]
  · rw [State.freqWindow_invalid ((hvalid b).trans hv), hfails, hf, u.qualWindow_fails b]
  · rw [State.freqWindow_passes ((hvalid b).trans hv) (hfails.trans hf), hvalid, hv]
  · obtain ⟨hlost, -, hfreq⟩ := u.loseRef_flags b true false
    rw [State.freqWindow_alone ((hvalid b).trans hv) ((hvalid _).trans ho) (hfails.trans hf)]
    exact ⟨hlost, hfreq⟩
  · rw [State.freqWindow_both ((hvalid b).trans hv) ((hvalid _).trans ho) (hfails.trans hf), hworse]
    exact (u.loseRef_flags _ true false).1

end

/-- Settles O35: a loss declared leaves its bits through whatever the net does next, and a window or a qualification changes the
block by the branch of its test. -/
theorem referencesAreTestedAndLost : Obligations.ReferencesAreTestedAndLost := by
  unfold Obligations.ReferencesAreTestedAndLost
  refine ⟨?_, fun b err raw s hreleased => refFreqWindow_tests hreleased err raw,
    fun b t0 s hqual htime hnew => refQualified_qualifies hqual htime hnew, fun err s hsel => intoscMeasure_stores err hsel⟩
  intro b s hreleased hinj
  cases hvalid : s.refValid b
  · obtain ⟨t, ht, herr, hqual⟩ := refMissingEdge_unqualifies hreleased hvalid
    exact ⟨t, ht, herr, fun _ => hqual, by simp, by simp, by simp, by simp⟩
  · obtain ⟨t, ht, herr, hlost, hswitches, henters, hstays⟩ := refMissingEdge_loses hreleased hinj hvalid
    exact ⟨t, ht, herr, by simp, fun _ => hlost, fun _ => hswitches, fun _ => henters, fun _ => hstays⟩

end Sys2Proof.Machine
end


section
/-! SUPPORT. What an agent keeps of global time, and what a correction does to it (R214, R215). -/

namespace Sys2Proof.Machine
open Sys2Proof

/-! ### The agent's account of time -/

/-- What the agent of a region keeps of the marks it captured and of their corrections. -/
structure TimeAccount where
  captures : List (Nat × Int)
  incUnits : Nat
  timeValid : Bool
  errPeak : Nat
  timeDebt : Nat

/-- The account of an agent's record. -/
def Rgn.timing (r : Rgn) : TimeAccount := ⟨r.captures, r.incUnits, r.timeValid, r.errPeak, r.timeDebt⟩

/-- The account of region `n`. -/
def State.timing (s : State) (n : Nat) : TimeAccount := (s.r n).timing

theorem State.timing_congr {s t : State} (h : t.rgn = s.rgn) (n : Nat) : t.timing n = s.timing n :=
  congrArg Rgn.timing (State.r_congr h n)

theorem State.timing_modR_self (s : State) (n : Nat) (f : Rgn → Rgn) : (s.modR n f).timing n = (f (s.r n)).timing :=
  congrArg Rgn.timing (State.r_modR_self s n f)

theorem State.Keeps.timing {os : List Obj} {ps : List Part} {s t : State} (h : State.Keeps os ps s t) (n : Nat)
    (hp : Part.rgn ∈ ps := by decide) : t.timing n = s.timing n :=
  State.timing_congr (h.same .rgn hp) n

/-- A change of a record beside its account. -/
theorem State.timing_modR (s : State) (m n : Nat) {f : Rgn → Rgn} (hf : ∀ r, (f r).timing = r.timing) :
    (s.modR m f).timing n = s.timing n := by
  rw [State.timing, State.r_modR]
  split
  · next h => rw [hf, h, State.timing]
  · rfl

/-! ### A window closed by a step of time (R250) -/

theorem State.chargeHold_timing (s : State) (m t n : Nat) : (s.chargeHold m t).timing n = s.timing n := by
  unfold State.chargeHold
  split
  · refine (State.timing_modR _ m n ?_).trans (State.timing_congr (State.modE_rgn s m _) n)
    exact fun _ => rfl
  · rfl

theorem State.showEstimate_timing (s : State) (m est dyn leak status : Nat) (ovf : Bool) (n : Nat) :
    (s.showEstimate m est dyn leak status ovf).timing n = s.timing n :=
  (State.when_same (·.timing n) _ (fun u => State.timing_congr (u.inc_rgn _ _ _) n) _ _).trans
    (State.timing_congr rfl n)

/-- The charges of a window end with it, and its estimate begins anew. -/
theorem State.endCharges_timing (s : State) (m n : Nat) (f : Est → Est) :
    ((s.modR m fun r => { r with charges := [] }).modE m f).timing n = s.timing n := by
  refine (State.timing_congr (State.modE_rgn _ _ _) n).trans (State.timing_modR s m n ?_)
  exact fun _ => rfl

theorem State.closeWindow_timing (s0 : State) (m w t dur gap n : Nat) :
    (s0.closeWindow m w t dur gap).timing n = s0.timing n := by
  delta State.closeWindow
  extract_lets forced s2 k s x r q tf ovf bases valid spread rep s1 st s2'
  have hread : State.Keeps [] [.rgn] s0 ((s0.when forced fun t => t.endInjection 1).readWeights m) := by
    have hforced : State.Keeps [] [.rgn] s0 (s0.when forced fun t => t.endInjection 1) :=
      State.when_kept (Fr.refl _) fun _ h => by apply State.endInjection_frame (h := h) <;> decide
    apply State.readWeights_frame (h := hforced) <;> decide
  have hstart : s2.timing n = s0.timing n := (State.chargeHold_timing _ m t n).trans (hread.timing n)
  have hshown : State.Keeps [] [.rgn] s2 s :=
    State.modE_frame (by decide) (State.when_kept (Fr.refl _) fun _ h => State.showM_frame (by decide) h)
  have hcharged : s1.timing n = s0.timing n :=
    (State.endCharges_timing s m n _).trans ((hshown.timing n).trans hstart)
  have hend : ∀ st ovf, (s1.showEstimate m rep.est q.1 q.2.1 st ovf).timing n = s0.timing n := fun st ovf =>
    (s1.showEstimate_timing m rep.est q.1 q.2.1 st ovf n).trans hcharged
  exact hend st q.2.2

theorem State.stepWindow_timing (s : State) (m new n : Nat) : (s.stepWindow m new).timing n = s.timing n := by
  unfold State.stepWindow
  split
  · refine (State.when_same (·.timing n) _ (fun t => State.timing_congr (State.modF_rgn _ _ _) n) _ _).trans ?_
    exact (State.timing_congr rfl n).trans (State.closeWindow_timing _ _ _ _ _ _ _)
  · rfl

/-! ### A correction (R215) -/

/-- A correction is used up cycle by cycle: it is negative, and no step of time. -/
def paidLater (e : Int) (step : Bool) : Bool := e < 0 && !step

theorem paidLater_of_now {e : Int} {step : Bool} (h : 0 ≤ e ∨ step = true) : paidLater e step = false := by
  rcases h with h | h
  · rw [paidLater, decide_eq_false (by omega), Bool.false_and]
  · rw [paidLater, h, Bool.not_true, Bool.and_false]

theorem paidLater_of_negative {e : Int} {step : Bool} (h : e < 0) (hstep : step = false) : paidLater e step = true := by
  rw [paidLater, decide_eq_true h, hstep]
  rfl

theorem State.shiftTime_timing (s : State) (n : Nat) (e : Int) (step : Bool) :
    (s.shiftTime n e step).timing n = { s.timing n with timeDebt := if paidLater e step then e.natAbs else 0 } := by
  have hwritten : ∀ b : Bool, ∀ v,
      (s.when b fun t => t.wr .REGION_TIME v n).timing n = s.timing n := fun b v => by
    cases b <;> exact State.timing_congr rfl n
  have hafter := State.timing_modR_self (s.when (!paidLater e step) fun t =>
    t.wr .REGION_TIME (((s.rd .REGION_TIME n : Int) + e).toNat % 2 ^ 64) n) n
      fun r => { r with timeDebt := if paidLater e step then e.natAbs else 0 }
  refine hafter.trans ?_
  rw [← hwritten (!paidLater e step) (((s.rd .REGION_TIME n : Int) + e).toNat % 2 ^ 64)]
  rfl

theorem State.shiftTime_rd (s : State) (n : Nat) (e : Int) (step : Bool) :
    (s.shiftTime n e step).rd .REGION_TIME n
      = if paidLater e step then s.rd .REGION_TIME n else ((s.rd .REGION_TIME n : Int) + e).toNat % 2 ^ 64 := by
  have hbits : objBits .REGION_TIME = 64 := by decide
  have hmod : (s.shiftTime n e step).rd .REGION_TIME n = (s.when (!paidLater e step) fun t =>
      t.wr .REGION_TIME (((s.rd .REGION_TIME n : Int) + e).toNat % 2 ^ 64) n).rd .REGION_TIME n := rfl
  rw [hmod]
  cases paidLater e step
  · refine (State.rd_wr_self _ _ _ _ _).trans ?_
    rw [hbits, Nat.mod_mod]
    rfl
  · rfl

/-- The error of a correction, stored and counted into the peak of the tick. -/
def State.noteError (s : State) (n : Nat) (e : Int) : State :=
  (s.wrSat .REGION_TIME_ERR e n).modR n fun r => { r with errPeak := max r.errPeak e.natAbs }

/-- The windows of region `n` once a correction has been noted: they begin with the first one, and a step closes the one in
progress. -/
def State.correctWindows (s : State) (n : Nat) (e : Int) (step valid : Bool) : State :=
  (s.noteError n e).when (valid && step) fun t => t.stepWindow n (((s.rd .REGION_TIME n : Int) + e).toNat % 2 ^ 64)

theorem State.correct_eq (s : State) (n : Nat) (e : Int) (step : Bool) :
    s.correct n e step = ((s.correctWindows n e step (s.r n).timeValid).shiftTime n e step).when (!(s.r n).timeValid)
      fun t => t.firstTime n := by
  unfold State.correct State.correctWindows
  cases (s.r n).timeValid <;> rfl

theorem State.correctWindows_timing (s : State) (n : Nat) (e : Int) (step valid : Bool) :
    (s.correctWindows n e step valid).timing n
      = { s.timing n with errPeak := max (s.timing n).errPeak e.natAbs } := by
  refine (State.when_same (·.timing n) _ (fun t => t.stepWindow_timing _ _ _) _ _).trans ?_
  refine (State.timing_modR_self _ _ _).trans ?_
  have hr : (s.wrSat .REGION_TIME_ERR e n).r n = s.r n := State.r_congr rfl n
  rw [hr]
  rfl

theorem State.correctWindows_keeps (s : State) (n : Nat) (e : Int) (step valid : Bool) :
    State.Keeps [.REGION_TIME, .REGION_TIME_ERR] [] (s.noteError n e) (s.correctWindows n e step valid) :=
  State.when_kept (Fr.refl _) fun t ht => by apply State.stepWindow_frame (h := ht) <;> decide

/-- A correction makes the time valid, and leaves what of it is to be paid later. -/
theorem State.correct_timing (s : State) (n : Nat) (e : Int) (step : Bool) :
    (s.correct n e step).timing n = { s.timing n with
      timeValid := true
      errPeak := max (s.timing n).errPeak e.natAbs
      timeDebt := if paidLater e step then e.natAbs else 0 } := by
  have hshift := (s.correctWindows n e step (s.r n).timeValid).shiftTime_timing n e step
  rw [State.correctWindows_timing] at hshift
  rw [State.correct_eq]
  generalize (s.correctWindows n e step (s.r n).timeValid).shiftTime n e step = u at hshift
  cases hvalid : (s.r n).timeValid
  · have hfirst : (u.firstTime n).timing n = { u.timing n with timeValid := true } :=
      (State.timing_congr (State.modE_rgn _ _ _) n).trans (State.timing_modR_self u n _)
    refine hfirst.trans ?_
    rw [hshift]
  · refine hshift.trans ?_
    have htrue : (s.timing n).timeValid = true := hvalid
    rw [← htrue]

/-- The time of the region takes the correction, and its error reads the value held to its type. -/
theorem State.correct_rd (s : State) (n : Nat) (e : Int) (step : Bool) :
    ((s.correct n e step).rd .REGION_TIME n
        = if paidLater e step then s.rd .REGION_TIME n else ((s.rd .REGION_TIME n : Int) + e).toNat % 2 ^ 64)
      ∧ (s.correct n e step).rd .REGION_TIME_ERR n = (s.wrSat .REGION_TIME_ERR e n).rd .REGION_TIME_ERR n := by
  have hwindows := s.correctWindows_keeps n e step (s.r n).timeValid
  have hshift : State.Keeps [.REGION_TIME_ERR] [] (s.correctWindows n e step (s.r n).timeValid)
      ((s.correctWindows n e step (s.r n).timeValid).shiftTime n e step) :=
    State.shiftTime_frame (by decide) (by decide) (Fr.refl _)
  have hfirst : State.Keeps [.REGION_TIME, .REGION_TIME_ERR] []
      ((s.correctWindows n e step (s.r n).timeValid).shiftTime n e step) (s.correct n e step) := by
    rw [State.correct_eq]
    exact State.when_kept (Fr.refl _) fun t ht => State.firstTime_frame (by decide) (by decide) ht
  have htime : (s.correctWindows n e step (s.r n).timeValid).rd .REGION_TIME n = s.rd .REGION_TIME n :=
    (hwindows.rd (by decide) _ _).trans (State.rd_wr_other s (by decide) _ _ _ _ _)
  refine ⟨?_, (hfirst.rd (by decide) _ _).trans ((hshift.rd (by decide) _ _).trans (hwindows.rd (by decide) _ _))⟩
  rw [hfirst.rd (by decide), State.shiftTime_rd, htime]

end Sys2Proof.Machine
end


section
/-! SUPPORT. A mark: how far T goes to it, what sets it, and what the agents capture of it (R211, R213, R214, R220). -/

namespace Sys2Proof.Machine
open Sys2Proof

/-! ### Records of the state changed as a whole -/

section
variable {W : Obj → Prop} {Q : Part → Prop} {s z : State}

theorem State.withClock_frame (c : Clock) (qclock : Q .clock) (h : Fr W Q z s) : Fr W Q z { s with clock := c } := by
  apply Fr.lit h <;> first | exact Or.inl (by assumption) | exact Or.inr rfl

theorem State.withCaps_frame (c : Caps) (qcaps : Q .caps) (h : Fr W Q z s) : Fr W Q z { s with caps := c } := by
  apply Fr.lit h <;> first | exact Or.inl (by assumption) | exact Or.inr rfl

theorem State.withDict_frame (d : Dict) (qdict : Q .dict) (h : Fr W Q z s) : Fr W Q z { s with dict := d } := by
  apply Fr.lit h <;> first | exact Or.inl (by assumption) | exact Or.inr rfl

end

/-! ### The net periods up to the next multiple of 1 µs (R211, R213) -/

theorem le_divUp_mul (a : Nat) {b : Nat} (hb : 0 < b) : a ≤ divUp a b * b := by
  rw [divUp, if_neg hb.ne']
  have hdiv := Nat.div_add_mod (a + b - 1) b
  have hmod := Nat.mod_lt (a + b - 1) hb
  rw [Nat.mul_comm] at hdiv
  omega

theorem divUp_mul_lt (a : Nat) {b : Nat} (hb : 0 < b) : divUp a b * b < a + b := by
  rw [divUp, if_neg hb.ne']
  have hdiv := Nat.div_mul_le_self (a + b - 1) b
  omega

theorem State.incFor_pos (s : State) (slew : Int) : 0 < s.incFor slew := Nat.lt_of_lt_of_le Nat.one_pos (Nat.le_max_left _ _)

/-- The net periods that cover `need` when the first `slewing` of them add `i` each and those after them `j`. -/
def netPeriods (need slewing i j : Nat) : Nat × Nat :=
  if need ≤ slewing * i then (divUp need i, 0) else (slewing, divUp (need - slewing * i) j)

theorem State.markPeriods_eq (s : State) : s.markPeriods
    = netPeriods (s.nextMark - (s.T * 2 ^ 32 + s.clock.frac)) s.slewPeriods (s.incFor s.slewNow) (s.incFor 0) := rfl

/-- They cover it, and exceed it by less than one net period. -/
theorem netPeriods_span (need slewing : Nat) {i j : Nat} (hi : 0 < i) (hj : 0 < j) :
    need ≤ (netPeriods need slewing i j).1 * i + (netPeriods need slewing i j).2 * j
      ∧ (netPeriods need slewing i j).1 * i + (netPeriods need slewing i j).2 * j < need + max i j := by
  unfold netPeriods
  split
  · have hcover := le_divUp_mul need hi
    have hlast := divUp_mul_lt need hi
    dsimp only
    rw [Nat.zero_mul]
    omega
  · have hcover := le_divUp_mul (need - slewing * i) hj
    have hlast := divUp_mul_lt (need - slewing * i) hj
    dsimp only
    omega

/-- T with its fraction lies below the next multiple of 1 µs. -/
theorem State.fine_le_nextMark {s : State} (hfrac : s.clock.frac < 2 ^ 32) : s.T * 2 ^ 32 + s.clock.frac ≤ s.nextMark := by
  have hbelow : s.T + 1 ≤ (s.T / 16000 + 1) * 16000 := by omega
  calc s.T * 2 ^ 32 + s.clock.frac ≤ (s.T + 1) * 2 ^ 32 := by omega
    _ ≤ s.nextMark := Nat.mul_le_mul_right _ hbelow

/-! ### A TIME_SET that waits (R220) -/

/-- The clock once a TIME_SET that waits has taken effect. -/
def Clock.setTime (c : Clock) : Clock :=
  match c.setTo with
  | none => { c with stepped := false }
  | some v => { c with T := v, frac := 0, setTo := none, stepped := true, slewRem := 0 }

theorem Clock.setTime_of_none {c : Clock} (h : c.setTo = none) : c.setTime = { c with stepped := false } := by
  rw [Clock.setTime, h]

theorem Clock.setTime_of_some {c : Clock} {v : Nat} (h : c.setTo = some v) :
    c.setTime = { c with T := v, frac := 0, setTo := none, stepped := true, slewRem := 0 } := by
  rw [Clock.setTime, h]

theorem Clock.setTime_facts (c : Clock) :
    c.setTime.T = c.setTo.getD c.T ∧ c.setTime.setTo = none ∧ c.setTime.stepped = c.setTo.isSome
      ∧ c.setTime.markSeq = c.markSeq ∧ c.setTime.up = c.up ∧ c.setTime.frac ≤ c.frac := by
  rcases hset : c.setTo with - | v
  · rw [Clock.setTime_of_none hset]
    exact ⟨rfl, hset, rfl, rfl, rfl, Nat.le_refl _⟩
  · rw [Clock.setTime_of_some hset]
    exact ⟨rfl, rfl, rfl, rfl, rfl, Nat.zero_le _⟩

/-- T steps to `v`, before the parks of a trip that waited for it. -/
def State.stepTo (s : State) (v : Nat) : State :=
  let t : State := { s with clock := { s.clock with T := v, frac := 0, setTo := none, stepped := true, slewRem := 0 } }
  ((t.stepSpans s.clock.T).wr .TIME_OFFSET_ADJ 0).each t.groups fun u g => (u.unobserve g).moveMarks ((v : Int) - s.clock.T) g

theorem State.applySet_of_none {s : State} (h : s.clock.setTo = none) :
    s.applySet = { s with clock := { s.clock with stepped := false } } := by
  rw [State.applySet, h]

theorem State.applySet_of_some {s : State} {v : Nat} (h : s.clock.setTo = some v) : s.applySet = (s.stepTo v).tripParksDue := by
  rw [State.applySet, h]
  rfl

/-- What a capture rests on. -/
def captureObjs : List Obj := [.OSC_STATUS, .NUM_REGIONS, .REGION_PRESENT, .REGION_TIME, .MARK_DELAY]

theorem State.stepTo_after (s : State) (v : Nat) : State.Keeps captureObjs [.clock, .rgn, .caps]
    { s with clock := { s.clock with T := v, frac := 0, setTo := none, stepped := true, slewRem := 0 } } (s.stepTo v) := by
  have hspans : ∀ t : State, State.Keeps captureObjs [.clock, .rgn, .caps] t (t.stepSpans s.clock.T) := fun t => by
    apply State.stepSpans_frame (h := Fr.refl t) <;> decide
  refine State.each_kept (State.wr_frame (by decide) (hspans _)) fun _ _ h => ?_
  · exact State.moveMarks_frame (by decide) (State.unobserve_frame (by decide) h)

theorem State.tripParksDue_clock (s : State) : s.tripParksDue.clock = s.clock := by
  have hkept : State.Keeps [] [.clock] s s.tripParksDue := by apply State.tripParksDue_frame (h := Fr.refl s) <;> decide
  exact hkept.same .clock (by decide)

theorem State.tripParksDue_of_nil {s : State} (h : s.caps.tripDue = []) : State.Keeps captureObjs [.rgn] s s.tripParksDue := by
  have hnone : s.tripParksDue = { s with caps := { s.caps with tripDue := [] } } := by
    rw [State.tripParksDue, h]
    rfl
  rw [hnone]
  exact State.withCaps_frame _ (by decide) (Fr.refl s)

theorem State.applySet_clock (s : State) : s.applySet.clock = s.clock.setTime := by
  cases hset : s.clock.setTo with
  | none => rw [State.applySet_of_none hset, Clock.setTime_of_none hset]
  | some v =>
    rw [State.applySet_of_some hset, State.tripParksDue_clock, Clock.setTime_of_some hset]
    exact (s.stepTo_after v).same .clock (by decide)

theorem State.applySet_after {s : State} (h : s.caps.tripDue = []) : State.Keeps captureObjs [.rgn] s s.applySet := by
  cases hset : s.clock.setTo with
  | none =>
    rw [State.applySet_of_none hset]
    exact State.withClock_frame _ (by decide) (Fr.refl s)
  | some v =>
    have hstart : State.Keeps captureObjs [.rgn] s
        { s with clock := { s.clock with T := v, frac := 0, setTo := none, stepped := true, slewRem := 0 } } :=
      State.withClock_frame _ (by decide) (Fr.refl s)
    have hstep := s.stepTo_after v
    have htrips : (s.stepTo v).caps.tripDue = [] := (congrArg Caps.tripDue (hstep.same .caps (by decide))).trans h
    rw [State.applySet_of_some hset]
    have hstepped := hstep.mono (W' := (· ∉ captureObjs)) (Q' := (· ∉ [.rgn])) (fun _ => id)
      fun p hp hin => hp (List.mem_cons_of_mem _ (List.mem_cons.2 (.inl (List.mem_singleton.1 hin))))
    exact hstart.trans (hstepped.trans (State.tripParksDue_of_nil htrips))

end Sys2Proof.Machine
end


section
/-! PROOF. Time marks, corrections and captures (R211 to R220). -/

namespace Sys2Proof.Machine
open Sys2Proof

/-! ### A mark launched (R213, R214) -/

/-- The message of the next mark. -/
def State.markMsg (s : State) : MarkMsg :=
  { seq := (s.clock.markSeq + 1) % 2 ^ 32, tk := s.clock.T, inc := s.clock.incUnits, stepped := s.clock.stepped }

/-- The next mark numbered and its messages on their way. -/
def State.sendMark (s : State) : State :=
  { s with clock := { s.clock with
    markSeq := (s.clock.markSeq + 1) % 2 ^ 32
    markT := s.clock.T
    sent := (s.clock.sent ++ [s.markMsg]).drop (s.clock.sent.length - 2) } }

/-- The regions that capture their time at a mark. -/
def State.capturing (s : State) : List Nat := s.regions.filter fun n => s.osc n .counting && s.clocked n

theorem State.launchMark_eq (s : State) :
    s.launchMark = s.applySet.sendMark.each s.applySet.sendMark.capturing fun v n =>
      v.capture n ((s.applySet.clock.markSeq + 1) % 2 ^ 32) s.T := rfl

/-- The last of a list stays when all but the last three go. -/
theorem mem_drop_concat {α : Type} (l : List α) (x : α) : x ∈ (l ++ [x]).drop (l.length - 2) := by
  rw [List.drop_append_of_le_length (Nat.sub_le _ _)]
  exact List.mem_append_right _ (List.mem_singleton_self x)

theorem State.markMsg_mem_sent (s : State) : s.markMsg ∈ s.sendMark.clock.sent := mem_drop_concat _ _

theorem State.capture_after (s : State) (n seq T : Nat) : State.Keeps captureObjs [.clock] s (s.capture n seq T) :=
  State.capture_frame (by decide) (Fr.refl s)

theorem State.launchMark_clock (s : State) : s.launchMark.clock = s.applySet.sendMark.clock := by
  rw [State.launchMark_eq]
  exact State.each_same (·.clock) _ (fun t n => (t.capture_after n _ _).same .clock (by decide)) _ _

/-- What region `n` is about to capture: its time `z` less MARK_DELAY, unparked. -/
def State.Captures (n : Nat) (z : Int) (t : State) : Prop :=
  (t.r n).park = none ∧ (t.rd .REGION_TIME n : Int) + Config.netDelay n - t.rd .MARK_DELAY n = z

theorem State.Captures.of_kept {n : Nat} {z : Int} {s t : State} (h : s.Captures n z) (hkept : State.Keeps captureObjs [] s t)
    (hr : t.r n = s.r n) : t.Captures n z := by
  obtain ⟨hpark, htime⟩ := h
  refine ⟨hr ▸ hpark, ?_⟩
  rw [hkept.rd (by decide), hkept.rd (by decide)]
  exact htime

theorem State.Captures.mem_capture {n : Nat} {z : Int} {s : State} (h : s.Captures n z) (seq T : Nat) :
    (seq, z) ∈ ((s.capture n seq T).r n).captures := by
  obtain ⟨hpark, rfl⟩ := h
  unfold State.capture
  rw [State.r_modR_self, hpark]
  exact mem_drop_concat _ _

/-- A capturing region has captured its time at the mark. -/
theorem State.each_capture {s : State} {n : Nat} {z : Int} {l : List Nat} (hl : l.Nodup) (hn : n ∈ l) (h : s.Captures n z)
    (seq T : Nat) : (seq, z) ∈ ((s.each l fun v n => v.capture n seq T).r n).captures := by
  have hother : ∀ t : State, ∀ y ∈ l, y ≠ n → (t.capture y seq T).r n = t.r n := fun t y _ hne =>
    (State.r_modR _ _ _ _).trans (if_neg hne.symm)
  refine State.each_once (I := State.Captures n z) (P := fun t => (seq, z) ∈ (t.r n).captures) hl hn ?_
    (fun t ht => ht.mem_capture seq T) ?_ h
  · exact fun t y hy hne ht => ht.of_kept
      ((t.capture_after y seq T).mono (fun _ => id) fun _ _ => List.not_mem_nil) (hother t y hy hne)
  · exact fun t y hy hne ht => (congrArg Rgn.captures (hother t y hy hne)).symm ▸ ht

theorem State.capturing_nodup (s : State) : s.capturing.Nodup := (List.nodup_range.filter _).filter _

theorem State.regions_of_kept {s t : State} (h : State.Keeps captureObjs [] s t) : t.regions = s.regions := by
  have hnum : t.numRegions = s.numRegions := h.rd (by decide) _ _
  have hpresent : t.present = s.present := funext fun m => by
    rw [State.present, State.present, hnum, State.on, State.on, h.rd (by decide)]
  rw [State.regions, State.regions, hnum, hpresent]

theorem State.mem_capturing_of_kept {s t : State} (h : State.Keeps captureObjs [] s t) {n : Nat} (hn : n ∈ s.regions)
    (hcount : s.osc n .counting = true) (hclock : s.clocked n = true) : n ∈ t.capturing := by
  have hosc : t.rd .OSC_STATUS n = s.rd .OSC_STATUS n := h.rd (by decide) _ _
  refine List.mem_filter.2 ⟨(State.regions_of_kept h).symm ▸ hn, ?_⟩
  rw [State.osc_congr hosc, State.clocked_of_rd hosc, hcount, hclock]
  rfl

/-- A region that counts with a clock and has no park captures its time at a mark, when no trip waits for a TIME_SET. -/
theorem State.launchMark_captures {s : State} {n : Nat} (htrips : s.caps.tripDue = []) (hn : n ∈ s.regions)
    (hcount : s.osc n .counting = true) (hclock : s.clocked n = true) (hpark : (s.r n).park = none) :
    (s.launchMark.clock.markSeq, (s.rd .REGION_TIME n : Int) + Config.netDelay n - s.rd .MARK_DELAY n)
      ∈ (s.launchMark.r n).captures := by
  have hset := State.applySet_after htrips
  have hsent : State.Keeps captureObjs [] s s.applySet.sendMark :=
    State.withClock_frame _ List.not_mem_nil (hset.mono (fun _ => id) fun _ _ => List.not_mem_nil)
  have hready : s.applySet.sendMark.Captures n ((s.rd .REGION_TIME n : Int) + Config.netDelay n - s.rd .MARK_DELAY n) :=
    State.Captures.of_kept ⟨hpark, rfl⟩ hsent (State.r_congr (hset.same .rgn (by decide)) n)
  rw [State.launchMark_clock, State.launchMark_eq]
  exact State.each_capture (State.capturing_nodup _) (State.mem_capturing_of_kept hsent hn hcount hclock) hready _ _

/-! ### After the mark -/

/-- What follows a mark: floor periods that begin, holds counted, and the bound of the enumeration. -/
def State.afterMark (s : State) : State := (s.each s.groups fun w g => (w.floorStart g).holdTrim g).closeEnumeration

theorem State.setDuty_timing (s : State) (f u n : Nat) : (s.setDuty f u).timing n = s.timing n := by
  refine (State.each_same (·.timing n) _ (fun t m => State.timing_modR t m n ?_) _ _).trans (State.timing_congr rfl n)
  exact fun _ => rfl

theorem State.floorStart_timing (s : State) (g n : Nat) : (s.floorStart g).timing n = s.timing n :=
  State.when_same (·.timing n) _ (fun _ => State.each_same (·.timing n) _
    (fun _ f => State.when_same (·.timing n) _ (fun v => v.setDuty_timing f 0 n) _ _) _ _) _ _

theorem State.holdTrim_timing (s : State) (g n : Nat) : (s.holdTrim g).timing n = s.timing n := by
  have hkept : State.Keeps [] [.rgn] s (s.holdTrim g) := State.holdTrim_frame (by decide) (Fr.refl s)
  exact hkept.timing n

theorem State.afterMark_timing (s : State) (n : Nat) : s.afterMark.timing n = s.timing n := by
  have hclose : ∀ t : State, State.Keeps [] [.rgn] t t.closeEnumeration := fun t => by
    apply State.closeEnumeration_frame (h := Fr.refl t) <;> decide
  exact ((hclose _).timing n).trans
    (State.each_same (·.timing n) _ (fun t g => (State.holdTrim_timing _ g n).trans (t.floorStart_timing g n)) _ _)

theorem State.afterMark_clock (s : State) : s.afterMark.clock = s.clock := by
  have hkept : State.Keeps [] [.clock] s s.afterMark := by
    have hgroups : State.Keeps [] [.clock] s (s.each s.groups fun w g => (w.floorStart g).holdTrim g) :=
      State.each_kept (Fr.refl s) fun _ _ h => State.holdTrim_frame (by decide) (State.floorStart_frame (by decide) (by decide) h)
    apply State.closeEnumeration_frame (h := hgroups) <;> decide
  exact hkept.same .clock (by decide)

end Sys2Proof.Machine
end


section
/-! PROOF. TIME_MARK, TIME_CORRECTION, PPS_CAPTURE and TS_CAPTURE (R211 to R220). -/

namespace Sys2Proof.Machine
open Sys2Proof

/-! ### The mark's instruction -/

/-- The state at the crossing of a multiple of 1 µs, before a mark is launched. -/
def State.atCrossing (s : State) : State := s.crossMark.slewMark s.slewNow s.markPeriods.1

theorem State.slewMark_clock (s : State) (slew : Int) (k : Nat) :
    (s.slewMark slew k).clock = { s.clock with slewRem := (s.slewMark slew k).clock.slewRem } := by
  unfold State.slewMark
  dsimp only
  split <;> rfl

/-- T with its fraction at the crossing, in units of 2^-32. -/
def State.fineAtCrossing (s : State) : Nat :=
  s.T * 2 ^ 32 + s.clock.frac + s.markPeriods.1 * s.incFor s.slewNow + s.markPeriods.2 * s.incFor 0

theorem reach_of_span {fine next span period : Nat} (hcover : next - fine ≤ span) (hlast : span < next - fine + period) :
    next ≤ fine + span ∧ (fine ≤ next → fine + span < next + period) := by
  omega

theorem State.fineAtCrossing_span (s : State) :
    s.nextMark ≤ s.fineAtCrossing
      ∧ (s.clock.frac < 2 ^ 32 → s.fineAtCrossing < s.nextMark + max (s.incFor s.slewNow) (s.incFor 0)) := by
  obtain ⟨hcover, hlast⟩ := netPeriods_span (s.nextMark - (s.T * 2 ^ 32 + s.clock.frac)) s.slewPeriods
    (s.incFor_pos s.slewNow) (s.incFor_pos 0)
  rw [← State.markPeriods_eq] at hcover hlast
  obtain ⟨hreach, hnext⟩ := reach_of_span hcover hlast
  rw [State.fineAtCrossing, Nat.add_assoc (s.T * 2 ^ 32 + s.clock.frac)]
  exact ⟨hreach, fun hfrac => hnext (State.fine_le_nextMark hfrac)⟩

/-- The clock at a crossing with T and its fraction in `x`. -/
def Clock.cross (c : Clock) (x inc : Nat) : Clock :=
  { c with T := x / 2 ^ 32 % 2 ^ 64, frac := x % 2 ^ 32, up := c.up + 1, incUnits := inc }

theorem Clock.cross_facts (c : Clock) (x inc : Nat) :
    (c.cross x inc).T = x / 2 ^ 32 % 2 ^ 64 ∧ (c.cross x inc).frac < 2 ^ 32 ∧ (c.cross x inc).up = c.up + 1
      ∧ (c.cross x inc).setTo = c.setTo ∧ (c.cross x inc).markSeq = c.markSeq :=
  ⟨rfl, Nat.mod_lt _ (Nat.two_pow_pos 32), rfl, rfl, rfl⟩

theorem State.crossMark_clock (s : State) : s.crossMark.clock
    = s.clock.cross s.fineAtCrossing (if s.markPeriods.2 = 0 then s.incFor s.slewNow else s.incFor 0) := rfl

theorem State.atCrossing_clock (s : State) :
    s.atCrossing.T = s.fineAtCrossing / 2 ^ 32 % 2 ^ 64 ∧ s.atCrossing.clock.frac < 2 ^ 32
      ∧ s.atCrossing.up = s.up + 1 ∧ s.atCrossing.clock.setTo = s.clock.setTo
      ∧ s.atCrossing.clock.markSeq = s.clock.markSeq := by
  obtain ⟨hT, hfrac, hup, hset, hseq⟩ := s.clock.cross_facts s.fineAtCrossing
    (if s.markPeriods.2 = 0 then s.incFor s.slewNow else s.incFor 0)
  have hclock := s.crossMark.slewMark_clock s.slewNow s.markPeriods.1
  rw [State.crossMark_clock] at hclock
  unfold State.T State.up State.atCrossing
  rw [hclock]
  exact ⟨hT, hfrac, hup, hset, hseq⟩

theorem State.atCrossing_keeps (s : State) : State.Keeps captureObjs [.rgn, .caps, .refs] s s.atCrossing :=
  State.slewMark_frame (by decide) (by decide) (State.crossMark_frame (by decide) (Fr.refl s))

theorem timeMark_marks {s : State} (hrel : s.su.released = true) : exec .timeMark s
    = .next (s.atCrossing.when (decide (s.refs.suppressUntil < s.up + 1)) fun w => w.launchMark).afterMark := by
  have hup : s.atCrossing.up = s.up + 1 := s.atCrossing_clock.2.2.1
  have hrefs : s.atCrossing.refs = s.refs := s.atCrossing_keeps.same .refs (by decide)
  rw [← hup, ← hrefs]
  change execTimeMark s = _
  unfold execTimeMark
  rw [hrel]
  rfl

theorem timeMark_suppressed {s : State} (hrel : s.su.released = true) (h : s.up < s.refs.suppressUntil) :
    exec .timeMark s = .next s.atCrossing.afterMark := by
  rw [timeMark_marks hrel, decide_eq_false (by omega)]
  rfl

theorem timeMark_launches {s : State} (hrel : s.su.released = true) (h : s.refs.suppressUntil ≤ s.up) :
    exec .timeMark s = .next s.atCrossing.launchMark.afterMark := by
  rw [timeMark_marks hrel, decide_eq_true (by omega)]
  rfl

/-- The clock after a mark launched. -/
theorem State.launchMark_time (s : State) :
    s.launchMark.T = s.clock.setTo.getD s.T ∧ s.launchMark.clock.setTo = none
      ∧ s.launchMark.clock.markSeq = (s.clock.markSeq + 1) % 2 ^ 32 ∧ s.launchMark.up = s.up
      ∧ s.launchMark.clock.frac ≤ s.clock.frac
      ∧ MarkMsg.mk s.launchMark.clock.markSeq s.launchMark.T s.launchMark.clock.incUnits s.clock.setTo.isSome
          ∈ s.launchMark.clock.sent := by
  obtain ⟨hT, hset, hstep, hseq, hup, hfrac⟩ := s.clock.setTime_facts
  rw [← State.applySet_clock] at hT hset hstep hseq hup hfrac
  have hsent := s.applySet.markMsg_mem_sent
  have hmsg : s.applySet.markMsg = MarkMsg.mk s.launchMark.clock.markSeq s.launchMark.T
      s.launchMark.clock.incUnits s.clock.setTo.isSome := by
    unfold State.T
    rw [State.launchMark_clock, ← hstep]
    rfl
  rw [hmsg] at hsent
  unfold State.T State.up at *
  rw [State.launchMark_clock] at hsent ⊢
  exact ⟨hT, hset, congrArg (fun q => (q + 1) % 2 ^ 32) hseq, hup, hfrac, hsent⟩

/-- A region that captures its time at a crossing has done so after the mark. -/
theorem State.atCrossing_captures {s : State} {n : Nat} (htrips : s.caps.tripDue = []) (hn : n ∈ s.regions)
    (hcount : s.osc n .counting = true) (hclock : s.clocked n = true) (hpark : (s.r n).park = none) :
    (s.atCrossing.launchMark.clock.markSeq, (s.rd .REGION_TIME n : Int) + Config.netDelay n - s.rd .MARK_DELAY n)
      ∈ (s.atCrossing.launchMark.afterMark.r n).captures := by
  have hkeeps := s.atCrossing_keeps
  have hosc : s.atCrossing.rd .OSC_STATUS n = s.rd .OSC_STATUS n := hkeeps.rd (by decide) _ _
  have hr : s.atCrossing.r n = s.r n := State.r_congr (hkeeps.same .rgn (by decide)) n
  have hafter : (s.atCrossing.launchMark.afterMark.r n).captures = (s.atCrossing.launchMark.r n).captures :=
    congrArg TimeAccount.captures (s.atCrossing.launchMark.afterMark_timing n)
  have hcaptured := State.launchMark_captures (s := s.atCrossing) (n := n)
    ((congrArg Caps.tripDue (hkeeps.same .caps (by decide))).trans htrips)
    ((State.regions_of_kept (hkeeps.mono (fun _ => id) fun _ _ => List.not_mem_nil)).symm ▸ hn)
    ((State.osc_congr hosc _).trans hcount) ((State.clocked_of_rd hosc).trans hclock) (hr ▸ hpark)
  rw [hkeeps.rd (by decide), hkeeps.rd (by decide)] at hcaptured
  rw [hafter]
  exact hcaptured

/-! ### Corrections -/

theorem timeCorrection_corrects {n seq : Nat} {c : Nat × Int} {m : MarkMsg} {s : State}
    (hc : (s.r n).captures.find? (fun x => x.1 == seq) = some c) (hm : s.clock.sent.find? (fun x => x.seq == seq) = some m) :
    exec (.timeCorrection ⟨n, seq⟩) s
      = .next ((s.modR n fun r => { r with captures := r.captures.filter fun c => c.1 != seq, incUnits := m.inc }).correct n
          ((m.tk : Int) - c.2) m.stepped) := by
  change execTimeCorrection ⟨n, seq⟩ s = _
  unfold execTimeCorrection
  dsimp only
  rw [hc, hm]

/-- The time of region `n` and what its agent keeps of it, once a correction e of mark `seq` is in. -/
theorem State.correction_facts (s : State) (n seq inc : Nat) (e : Int) (step : Bool) {t : State}
    (ht : t = (s.modR n fun r => { r with captures := r.captures.filter fun c => c.1 != seq, incUnits := inc }).correct n e
      step) :
    (∀ x ∈ (t.r n).captures, x.1 ≠ seq) ∧ (t.r n).incUnits = inc ∧ (t.r n).timeValid = true
      ∧ t.rdInt .REGION_TIME_ERR n = clampInt (-(2 ^ (objBits .REGION_TIME_ERR - 1))) (2 ^ (objBits .REGION_TIME_ERR - 1) - 1) e
      ∧ e.natAbs ≤ (t.r n).errPeak
      ∧ t.rd .REGION_TIME n
          = (if paidLater e step then s.rd .REGION_TIME n else ((s.rd .REGION_TIME n : Int) + e).toNat % 2 ^ 64)
      ∧ (t.r n).timeDebt = if paidLater e step then e.natAbs else 0 := by
  generalize hs0 : s.modR n (fun r => { r with captures := r.captures.filter fun c => c.1 != seq, incUnits := inc }) = s0 at ht
  have hr0 : s0.timing n = { s.timing n with captures := (s.r n).captures.filter fun c => c.1 != seq, incUnits := inc } := by
    rw [← hs0]
    exact State.timing_modR_self _ _ _
  have htiming := s0.correct_timing n e step
  obtain ⟨htime, herr⟩ := s0.correct_rd n e step
  rw [← ht] at htiming htime herr
  rw [hr0] at htiming
  have hread : s0.rd .REGION_TIME n = s.rd .REGION_TIME n := by rw [← hs0, State.rd_modR]
  refine ⟨fun x hx hseq => ?_, congrArg TimeAccount.incUnits htiming, congrArg TimeAccount.timeValid htiming, ?_,
    ?_, hread ▸ htime, congrArg TimeAccount.timeDebt htiming⟩
  · have hcaptures : (t.r n).captures = (s.r n).captures.filter fun c => c.1 != seq :=
      congrArg TimeAccount.captures htiming
    rw [hcaptures] at hx
    exact absurd (List.mem_filter.1 hx).2 (by rw [hseq, bne_self_eq_false]; exact Bool.false_ne_true)
  · have hsat := s0.rdInt_wrSat_self (o := .REGION_TIME_ERR) e n 0 (by decide)
    have hrd : t.rdInt .REGION_TIME_ERR n = (s0.wrSat .REGION_TIME_ERR e n).rdInt .REGION_TIME_ERR n := congrArg (toInt _) herr
    rw [hrd, hsat]
    push_cast
    rfl
  · have hpeak : (t.r n).errPeak = max (s.r n).errPeak e.natAbs := congrArg TimeAccount.errPeak htiming
    rw [hpeak]
    exact Nat.le_max_right _ _

/-! ### Captures of edges (R218) -/

/-- A stamp of 64 bits stored, and its edge counted. -/
theorem State.stampStored (s : State) {time count : Obj} (hne : time ≠ count) (hbits : objBits time = 64) (dt : Nat) :
    ((s.wr time (s.stamp dt)).addWrap count 1).rd time = ofInt 64 ((s.T : Int) + dt - 1280)
      ∧ ((s.wr time (s.stamp dt)).addWrap count 1).rd count = (s.rd count + 1) % 2 ^ objBits count := by
  unfold State.addWrap
  constructor
  · rw [State.rd_wr_other _ hne, State.rd_wr_self, hbits]
    exact Nat.mod_eq_of_lt (ofInt_lt _ _)
  · rw [State.rd_wr_self, State.rd_wr_other _ hne.symm]

/-- Settles O37: T goes on by net periods that cover what is missing to the next multiple of 1 µs, a launched mark applies a
waiting TIME_SET and is captured region by region, and a correction is added at once or becomes the debt of later cycles. -/
theorem timeMarksCorrectTheRegions : Obligations.TimeMarksCorrectTheRegions := by
  unfold Obligations.TimeMarksCorrectTheRegions
  refine ⟨?mark, ?now, ?later, ?pps, ?ts⟩
  case mark =>
    rintro x s hrel rfl
    change ∃ t, _ ∧ s.nextMark ≤ s.fineAtCrossing ∧ _
    obtain ⟨hreach, hnext⟩ := s.fineAtCrossing_span
    obtain ⟨hT, hfrac, hup, hset, hseq⟩ := s.atCrossing_clock
    by_cases hsup : s.up < s.refs.suppressUntil
    · have hclock := s.atCrossing.afterMark_clock
      exact ⟨_, timeMark_suppressed hrel hsup, hreach, hnext, (congrArg Clock.up hclock).trans hup, hclock ▸ hfrac,
        fun _ => ⟨(congrArg Clock.T hclock).trans hT, (congrArg Clock.markSeq hclock).trans hseq⟩, fun h => by omega⟩
    · have hclock := s.atCrossing.launchMark.afterMark_clock
      obtain ⟨hlT, hlset, hlseq, hlup, hlfrac, hmsg⟩ := s.atCrossing.launchMark_time
      refine ⟨_, timeMark_launches hrel (by omega), hreach, hnext, ?_, ?_, fun h => absurd h hsup, fun _ => ?_⟩
      · exact (congrArg Clock.up hclock).trans (hlup.trans hup)
      · rw [hclock]
        exact Nat.lt_of_le_of_lt hlfrac hfrac
      · unfold State.T at hlT hT hmsg ⊢
        rw [hclock, ← hset, ← hseq]
        refine ⟨by rw [hlT, hT]; rfl, hlset, hlseq, hmsg, fun htrips n hn hcount hrun hpark => ?_⟩
        exact State.atCrossing_captures htrips hn hcount hrun hpark
  case now =>
    rintro n seq c m e s hc hm rfl hnow
    obtain ⟨hcap, hinc, hvalid, herr, hpeak, htime, hdebt⟩ :=
      s.correction_facts n seq m.inc ((m.tk : Int) - c.2) m.stepped rfl
    rw [paidLater_of_now hnow] at htime hdebt
    exact ⟨_, timeCorrection_corrects hc hm, hcap, hinc, hvalid, herr, hpeak, htime, hdebt⟩
  case later =>
    rintro n seq c m e s hc hm rfl hneg hstep
    obtain ⟨hcap, hinc, hvalid, herr, hpeak, htime, hdebt⟩ :=
      s.correction_facts n seq m.inc ((m.tk : Int) - c.2) m.stepped rfl
    rw [paidLater_of_negative hneg hstep] at htime hdebt
    exact ⟨_, timeCorrection_corrects hc hm, hcap, hinc, hvalid, herr, hpeak, htime, hdebt⟩
  case pps => exact fun dt s => ⟨_, rfl, s.stampStored (by decide) (by decide) dt⟩
  case ts => exact fun dt s => ⟨_, rfl, s.stampStored (by decide) (by decide) dt⟩

end Sys2Proof.Machine
end


section
/-! SUPPORT. Writes of the rows of time, Praline, the budget exchange and rails that pass their checks (R14, R446). -/

namespace Sys2Proof.Machine
open Sys2Proof

/-- The objects of time, Praline, the budget exchange, reporting and rails whose rows are writes. -/
def timeWrites : List Obj :=
  [.REF_PREFER, .TIME_SET, .TIME_OFFSET_ADJ, .PR_CLEAR, .PR_REARM, .PR_POLICY, .BX_EPOCH_LOAD, .REPORT_SNAP_REQ, .RAIL_RECOVER]

/-! ### The checks on the state of the port -/

section
variable {s t : State} (h : Fr (· = .HP_REQUESTS) (fun _ => False) s t)
include h

theorem State.timeSetBusy_of_fr : t.timeSetBusy = s.timeSetBusy := by
  have hr : t.r = s.r := funext fun n => State.r_congr (h.part .rgn id) n
  have hg : t.g = s.g := funext fun n => congrArg (fun l : Tab Grp => l.get n {}) (h.part .grp id :)
  simp [State.timeSetBusy, State.regions_of_fr h, State.groups_of_fr h, hr, hg, h.obj]

theorem State.boundsOk_time_of_fr {o : Obj} (ho : o ∈ timeWrites) (e i v : Nat) (net : Bool) :
    t.boundsOk o e i v net = s.boundsOk o e i v net := by
  have hbudget : t.budget = s.budget := h.part .budget id
  simp only [timeWrites, List.mem_cons, List.not_mem_nil, or_false] at ho
  rcases ho with rfl | rfl | rfl | rfl | rfl | rfl | rfl | rfl | rfl
  case inr.inr.inl =>
    have hpending : t.rdInt .TIME_OFFSET_ADJ = s.rdInt .TIME_OFFSET_ADJ := congrArg (toInt _) (h.obj _ _ _ (by decide))
    simp only [State.boundsOk, State.offsetFits, hpending]
  case inr.inr.inr.inr.inr.inr.inl => simp [State.boundsOk, State.loadOk, hbudget, h.obj]
  case inr.inr.inr.inr.inr.inr.inr.inr => simp [State.boundsOk, h.obj]
  all_goals rfl

theorem State.busyOf_time_of_fr {o : Obj} (ho : o ∈ timeWrites) (e v : Nat) : t.busyOf o e v = s.busyOf o e v := by
  have hbudget : t.budget = s.budget := h.part .budget id
  simp only [timeWrites, List.mem_cons, List.not_mem_nil, or_false] at ho
  rcases ho with rfl | rfl | rfl | rfl | rfl | rfl | rfl | rfl | rfl
  case inr.inl => exact State.timeSetBusy_of_fr h
  case inr.inr.inr.inr.inr.inr.inl => simp [State.busyOf, State.loadBusy, hbudget]
  all_goals rfl

/-- What passes its checks in one of the two states passes them in the other. -/
theorem State.passes_time_of_fr {a : Access} {o : Obj} {i : Nat} (ho : o ∈ timeWrites) (hp : s.Passes a o i) :
    t.Passes a o i := by
  obtain ⟨hobj, hbusy, hcheck, hremote, hflips⟩ := hp
  have hnot : o ≠ .LC_REQUEST := by
    rintro rfl
    exact absurd ho (by decide)
  have hinj : t.inj = s.inj := h.part .inj id
  have hsame : t.checkWrite a o i = s.checkWrite a o i := by
    simp [State.checkWrite, State.rangeOk, State.objReady_of_fr h, State.elemExists_of_fr h, State.rightsOf_of_fr h,
      State.hasRight_of_fr h, State.needsUnlock_of_fr h, State.lifecycleOk_of_fr h, State.boundsOk_time_of_fr h ho,
      State.poweredOk_of_fr h, State.missing, State.internalErr, hnot]
  exact ⟨hobj, (State.busyOf_time_of_fr h ho _ _).trans hbusy, hsame.trans hcheck,
    (congrArg (·.remote.contains o.ctorIdx) h.build).trans hremote, hinj ▸ hflips⟩

end

/-- What passes the checks of a write meets the bounds of its object's chapter. -/
theorem State.boundsOk_of_checkWrite {s : State} {a : Access} {o : Obj} {i : Nat} (h : s.checkWrite a o i = none) :
    s.boundsOk o a.el i (a.val % 2 ^ objBits o) a.net = true := by
  by_contra hout
  have hrange : s.rangeOk o a.el i (a.val % 2 ^ objBits o) a.net = false := by
    rw [State.rangeOk, Bool.eq_false_iff.2 hout, Bool.and_false]
  rw [State.checkWrite, hrange, if_pos (Or.inl rfl)] at h
  split_ifs at h

/-! ### What the answer leaves -/

/-- The answer to a row of its own goes to the Dictionary Engine and, from the host, to its port. -/
theorem State.reply_direct_fr {s : State} {a : Access} {c : Code} {known : Option (Obj × Nat)} (hv : a.via = .direct) :
    Fr (· ∈ answerObjs) (· ∈ [.dict, .ports]) s (s.reply a c known) := by
  unfold State.reply State.replyVal
  rw [hv]
  dsimp only
  split
  · apply State.hostAnswer_frame (h := Fr.refl s) <;> decide
  · exact State.withDict_frame _ (by decide) (Fr.refl s)

theorem State.noteWritten_plain {s : State} {o : Obj} (e i : Nat) (ho : (recType o == 2 || recType o == 3) = false) :
    s.noteWritten o e i = s := by
  rw [State.noteWritten, ho, State.when_false]

/-- Beside its effect, an accepted write of an object that is no factory object changes the audit log, the Dictionary Engine and
the host's answer alone. -/
theorem State.finishWrite_plain {s : State} {a : Access} {o : Obj} {i : Nat} (hv : a.via = .direct)
    (ho : (recType o == 2 || recType o == 3) = false) (p : Attempt) :
    Fr (· ∈ answerObjs) (· ∈ [.dict, .ports]) (s.effect o a.el i (a.val % 2 ^ objBits o)) (s.finishWrite a o i p) := by
  unfold State.finishWrite
  dsimp only
  rw [State.noteWritten_plain _ _ ho]
  refine Fr.trans ?_ (State.reply_direct_fr hv)
  refine State.auditWrite_frame (by decide) (by decide) (by decide) (by decide) (by decide) (by decide) ?_
  exact State.when_kept (Fr.refl _) fun t ht => State.dirty_frame (by decide) ht

/-- An accepted write of such an object's row is answered OK and counted; beside that, its effect `u` on the state of its port
stands. -/
theorem State.submit1_time {s u : State} {o : Obj} {w : Wr} (ho : o ∈ timeWrites) (h : s.Accepts o 0 w)
    (heff : (s.writeBase w.src).effect o w.el 0 (w.val % 2 ^ objBits o) = u)
    (hkeeps : State.Keeps [.AUDIT_OK] [] (s.writeBase w.src) u) :
    s.WroteOk (s.submit1 o w) w ∧ Fr (· ∈ answerObjs) (· ∈ [.dict, .ports]) u (s.submit1 o w) := by
  obtain ⟨hadmits, hpasses⟩ := h
  obtain ⟨-, -, -, -, hflips⟩ := id hpasses
  have hbase := s.writeBase_fr w.src
  have hplain : (recType o == 2 || recType o == 3) = false := by
    have hnone : ∀ x ∈ timeWrites, (recType x == 2 || recType x == 3) = false := by decide
    exact hnone o ho
  obtain ⟨t, ht, hstatus, hcount, -⟩ :=
    State.finishWrite_row (s := s.writeBase w.src) (a := writeOf o 0 w) (o := o) (i := 0) rfl
  have hfr := State.finishWrite_plain (s := s.writeBase w.src) (a := writeOf o 0 w) (i := 0) rfl hplain
    ((s.writeBase w.src).attempt (writeOf o 0 w) (some (o, 0)))
  rw [ht] at hfr
  have hdone : s.submit1 o w = t := (State.submit1_decides hadmits hflips).trans
    ((State.decideWrite_carried (State.passes_time_of_fr hbase ho hpasses)).trans ht)
  have hclass : (s.writeBase w.src).classOf (writeOf o 0 w).src = s.classOf w.src := State.classOf_of_fr hbase _
  rw [hclass] at hcount
  rw [hdone]
  refine ⟨⟨hstatus, hcount.trans (congrArg (satAdd _ · 1) ?_)⟩, heff ▸ hfr⟩
  refine (congrArg (fun x : State => x.rd .AUDIT_OK 0 (s.classOf w.src)) heff).trans ?_
  exact (hkeeps.rd (by decide) _ _).trans (hbase.obj _ _ _ (by decide))

/-- A 1 written to a command object that reads 0 carries out its command. -/
theorem State.submit1_time_command {s : State} {o : Obj} {w : Wr} (ho : o ∈ timeWrites) (hc : isCommand o = true)
    (h : s.Accepts o 0 w) (hval : w.val = 1) (hidle : s.rd o w.el = 0)
    (hkeeps : State.Keeps [.AUDIT_OK] [] (s.writeBase w.src) ((s.writeBase w.src).command o w.el 0)) :
    s.WroteOk (s.submit1 o w) w
      ∧ Fr (· ∈ answerObjs) (· ∈ [.dict, .ports]) ((s.writeBase w.src).command o w.el 0) (s.submit1 o w) := by
  have hflush : ∀ x ∈ timeWrites, (x == .PERSIST_FLUSH) = false := by decide
  have hone : ∀ x ∈ timeWrites, 1 % 2 ^ objBits x = 1 := by decide
  have hcount : ∀ x ∈ timeWrites, x ≠ .HP_REQUESTS := by decide
  refine State.submit1_time ho h ?_ hkeeps
  rw [hval, hone o ho]
  exact State.effect_command_idle hc (hflush o ho) rfl (((s.writeBase_fr w.src).obj _ _ _ (hcount o ho)).trans hidle)

end Sys2Proof.Machine
end


section
/-! PROOF. What accepted writes of time, Praline, the budget exchange, reporting and rails do (R207, R219, R220, R314, R316,
R321, R345, R379). -/

namespace Sys2Proof.Machine
open Sys2Proof

/-! ### References and time (R207, R219, R220) -/

/-- A reference preferred is selected where it is valid and another one is selected. -/
theorem State.prefer_selects {s : State} {v : Nat} (hv : s.rd .REF_PREFER = v) :
    s.prefer.selected = if v ≠ 0 ∧ s.refValid (v == 2) = true ∧ s.selected ≠ 0 then refCode (v == 2) else s.selected := by
  subst hv
  unfold State.prefer
  dsimp only
  by_cases hchange : s.rd .REF_PREFER ≠ 0 ∧ s.refValid (s.rd .REF_PREFER == 2) = true ∧ s.selected ≠ 0
  · obtain ⟨hnamed, hvalid, hruns⟩ := id hchange
    rw [if_pos hchange, bne_iff_ne.2 hnamed, bne_iff_ne.2 hruns, hvalid]
    by_cases hsame : s.selected = refCode (s.rd .REF_PREFER == 2)
    · rw [hsame, bne_self_eq_false]
      exact hsame
    · rw [bne_iff_ne.2 hsame]
      exact s.switchTo_selected _
  · have hstays : (s.rd .REF_PREFER != 0 && s.refValid (s.rd .REF_PREFER == 2) && s.selected != 0
        && s.selected != refCode (s.rd .REF_PREFER == 2)) = false := by
      rw [Bool.eq_false_iff]
      intro htrue
      simp only [Bool.and_eq_true, bne_iff_ne] at htrue
      exact hchange ⟨htrue.1.1.1, htrue.1.1.2, htrue.1.2⟩
    rw [if_neg hchange, hstays, State.when_false]

theorem State.prefer_keeps_objs (s : State) : State.Keeps [.AUDIT_OK, .REF_PREFER] [] s s.prefer := by
  apply State.prefer_frame (h := Fr.refl s) <;> decide

/-- A TIME_SET accepted waits, and counts. -/
theorem State.acceptTimeSet_effect (s : State) (v : Nat) :
    (s.acceptTimeSet v).clock = { s.clock with setTo := some (v % 2 ^ 64) } ∧ s.Counted (s.acceptTimeSet v) .TIME_SETS := by
  refine ⟨rfl, ?_⟩
  have hread : (s.acceptTimeSet v).rd .TIME_SETS = ((s.wr .TIME_SET v).inc .TIME_SETS).rd .TIME_SETS := rfl
  rw [State.Counted, hread, State.rd_inc_self, State.rd_wr_other _ (by decide)]

/-! ### Praline (R314, R316) -/

theorem State.rd_wr_zero (s : State) (o : Obj) (e i : Nat) : (s.wr o 0 e i).rd o e i = 0 :=
  (State.rd_wr_self s o 0 e i).trans (Nat.zero_mod _)

/-- What a clear leaves of one group. -/
def State.clearGroup (s : State) (g : Nat) : State :=
  ((s.wr .PR_GROUP_TABLE 0 g).modG g fun x => { x with occ := none }).wr .PR_CUR_TAG 0xFFFF g

theorem State.clearGroup_table (s : State) (m g : Nat) :
    (s.clearGroup m).rd .PR_GROUP_TABLE g = if g = m then 0 else s.rd .PR_GROUP_TABLE g := by
  refine (State.rd_wr_other _ (by decide) _ _ _ _ _).trans ((State.rd_modG _ _ _ _ _ _).trans ?_)
  split
  · next h => exact h ▸ s.rd_wr_zero _ _ _
  · next h => exact State.rd_wr_elem s h _ _ _

theorem State.clearGroup_occ (s : State) (m g : Nat) :
    ((s.clearGroup m).g g).occ = if g = m then none else (s.g g).occ := by
  have hlast : (s.clearGroup m).g g = ((s.wr .PR_GROUP_TABLE 0 m).modG m fun x => { x with occ := none }).g g :=
    State.g_congr (State.wr_grp _ _ _ _ _) g
  have hfirst : (s.wr .PR_GROUP_TABLE 0 m).g g = s.g g := State.g_congr (State.wr_grp _ _ _ _ _) g
  rw [hlast, State.g_modG]
  split
  · rfl
  · rw [hfirst]

theorem State.clearPraline_eq (s : State) :
    s.clearPraline = ({ s with phase := [] } : State).each s.groups State.clearGroup := rfl

theorem State.clearPraline_phase (s : State) : s.clearPraline.phase = [] := by
  rw [State.clearPraline_eq]
  refine State.each_same (·.phase) State.clearGroup (fun t m => ?_) _ _
  rw [State.clearGroup, State.wr_phase, State.modG_phase, State.wr_phase]

/-- A cleared group has an empty table and no occurrence. -/
theorem State.clearPraline_group {s : State} {g : Nat} (hg : g < s.rd .NUM_GROUPS) :
    s.clearPraline.rd .PR_GROUP_TABLE g = 0 ∧ (s.clearPraline.g g).occ = none := by
  rw [State.clearPraline_eq]
  refine State.each_establishes (x := g)
    (P := fun t => t.rd .PR_GROUP_TABLE g = 0 ∧ (t.g g).occ = none)
    (List.mem_range.2 hg) (fun t => ⟨?_, ?_⟩) (fun t m ⟨htable, hocc⟩ => ⟨?_, ?_⟩) _
  · rw [State.clearGroup_table, if_pos rfl]
  · rw [State.clearGroup_occ, if_pos rfl]
  · rw [State.clearGroup_table, htable, ite_self]
  · rw [State.clearGroup_occ, hocc, ite_self]

/-- FALLBACK is left. -/
theorem State.leavesFallback (s u : State) : ((u.setFlag .PR_STATUS 0 false).policyFrom s).flag .PR_STATUS 0 = false := by
  have hkeeps : State.Keeps [.PR_STATUS] [] (u.setFlag .PR_STATUS 0 false) ((u.setFlag .PR_STATUS 0 false).policyFrom s) :=
    State.policyFrom_frame (by decide) (Fr.refl _)
  exact (State.flag_congr (hkeeps.rd (by decide) _ _) 0).trans (State.flag_setFlag_self _ _ _ (by decide))

theorem State.writePolicy_rd (s : State) (g v : Nat) : (s.writePolicy g v).rd .PR_POLICY g = v % 2 ^ objBits .PR_POLICY := by
  have hkeeps : State.Keeps [.PR_POLICY] [] (s.wr .PR_POLICY v g) (s.writePolicy g v) :=
    State.policyFrom_frame (by decide) (State.setFlag_frame (by decide) (Fr.refl _))
  exact (hkeeps.rd (by decide) _ _).trans (State.rd_wr_self _ _ _ _ _)

/-! ### Loads (R321) -/

/-- A load is staged. -/
theorem State.stageLoad_first {s : State} (v : Nat) (h : s.budget.staged = none) :
    (s.stageLoad v).budget = { s.budget with lastLoad := some (bits v 0 16), staged := some (bits v 0 16, bits v 32 32) } := by
  unfold State.stageLoad
  dsimp only
  rw [if_neg (by rw [h]; exact Bool.false_ne_true)]

/-- A load waits behind the staged one. -/
theorem State.stageLoad_behind {s : State} {x : Nat × Nat} (v : Nat) (h : s.budget.staged = some x) :
    (s.stageLoad v).budget = { s.budget with lastLoad := some (bits v 0 16), waiting := some (bits v 0 16, bits v 32 32) } := by
  unfold State.stageLoad
  dsimp only
  rw [if_pos (by rw [h]; rfl)]

theorem State.stageLoad_budget (s : State) (v : Nat) :
    (s.stageLoad v).budget.lastLoad = some (bits v 0 16)
      ∧ (s.budget.staged = none → (s.stageLoad v).budget.staged = some (bits v 0 16, bits v 32 32))
      ∧ ∀ x, s.budget.staged = some x →
          (s.stageLoad v).budget.staged = some x ∧ (s.stageLoad v).budget.waiting = some (bits v 0 16, bits v 32 32) := by
  refine ⟨?_, fun h => ?_, fun x h => ?_⟩
  · cases h : s.budget.staged with
    | none => rw [State.stageLoad_first v h]
    | some x => rw [State.stageLoad_behind v h]
  · rw [State.stageLoad_first v h]
  · rw [State.stageLoad_behind v h]
    exact ⟨h, rfl⟩

/-! ### Recovery of a rail (R379) -/

theorem State.recover_modRa (s : State) (m r : Nat) {f : Rail → Rail} (hf : ∀ x, (f x).recover = x.recover) :
    ((s.modRa m f).ra r).recover = (s.ra r).recover := by
  rw [State.ra_modRa]
  split
  · next h => rw [hf, h]
  · rfl

/-- What leaves on a link leaves how far a rail's recovery is. -/
theorem State.pumpOne_recover (s : State) (k r : Nat) : ((s.pumpOne k).ra r).recover = (s.ra r).recover := by
  have hwithdraw : ∀ c, ((s.withdraw k c).ra r).recover = (s.ra r).recover := fun c => by
    refine (State.each_same (fun t : State => (t.ra r).recover) _ (fun t m => ?_) _ _).trans rfl
    split
    · refine State.when_same (fun t : State => (t.ra r).recover) _ (fun _ => ?_) _ _
      rfl
    · exact State.recover_modRa t m r fun _ => rfl
  have hresend : ∀ c, ((s.resend k c).ra r).recover = (s.ra r).recover := fun c => by
    unfold State.resend
    split
    · exact hwithdraw c
    · refine Eq.trans ?_ (State.each_same (fun t : State => (t.ra r).recover) (fun t m => t.inc .RAIL_RETRIES m)
        (fun _ _ => rfl) (s.cmdRails k c) s)
      rfl
  have hset : ∀ rs : List Nat, ((s.each rs fun t m => t.modRa m fun x => { x with pending := none }).ra r).recover
      = (s.ra r).recover := fun rs => by
    refine State.each_same (fun t : State => (t.ra r).recover) _ (fun t m => State.recover_modRa t m r ?_) _ _
    exact fun _ => rfl
  unfold State.pumpOne
  dsimp only
  split
  · rfl
  · split
    · exact hresend _
    · split
      · rfl
      · split
        · rfl
        · split
          · rfl
          · split
            · exact hset _
            · rfl

theorem State.queueCmd_recover (s : State) (k : Nat) (c : LCmd) (r : Nat) :
    ((s.queueCmd k c).ra r).recover = (s.ra r).recover := by
  unfold State.queueCmd State.pump
  split
  · rfl
  · rw [State.pumpOne_recover, State.pumpOne_recover, State.pumpOne_recover, State.pumpOne_recover]
    rfl

theorem State.recoverRail_recover (s : State) (r : Nat) : ((s.recoverRail r).ra r).recover = 1 := by
  unfold State.recoverRail
  rw [State.queueCmd_recover, State.queueCmd_recover, State.queueCmd_recover, State.ra_modRa_self]

/-- How far the recovery is that an accepted RAIL_RECOVER begins: it waits while a step of the rail's group is in flight. -/
def State.recoveryBegun (s : State) (r : Nat) : Nat :=
  match s.railField r with
  | some f => if (s.g (s.groupOf f)).step.isSome then 3 else 1
  | none => 1

theorem State.acceptRecover_begins {s : State} {r : Nat} (h : (s.ra r).recover = 0) :
    (s.acceptRecover r).rd .RAIL_RECOVER r = 1 ∧ ((s.acceptRecover r).ra r).recover = s.recoveryBegun r := by
  have hone : (s.wr .RAIL_RECOVER 1 r).rd .RAIL_RECOVER r = 1 := State.rd_wr_self _ _ _ _ _
  have hcommands : State.Keeps [.RAIL_RECOVER] [] (s.wr .RAIL_RECOVER 1 r) ((s.wr .RAIL_RECOVER 1 r).recoverRail r) := by
    apply State.recoverRail_frame (h := Fr.refl _) <;> decide
  have hrun := (hcommands.rd (by decide) r 0).trans hone
  unfold State.acceptRecover State.recoveryBegun
  rw [if_neg (not_not_intro h)]
  cases s.railField r with
  | none => exact ⟨hrun, State.recoverRail_recover _ _⟩
  | some f =>
    dsimp only
    split
    · exact ⟨hone, congrArg Rail.recover (State.ra_modRa_self (s.wr .RAIL_RECOVER 1 r) r fun x => { x with recover := 3 } :)⟩
    · exact ⟨hrun, State.recoverRail_recover _ _⟩

/-- A recovery in progress goes on (log 89). -/
theorem State.acceptRecover_goesOn {s : State} {r : Nat} (h : (s.ra r).recover ≠ 0) : s.acceptRecover r = s := if_pos h

theorem State.recoveryBegun_of_fr {s t : State} (h : Fr (· = .HP_REQUESTS) (fun _ => False) s t) (r : Nat) :
    t.recoveryBegun r = s.recoveryBegun r := by
  have hg : t.g = s.g := funext fun n => congrArg (fun l : Tab Grp => l.get n {}) (h.part .grp id :)
  have hgroup : t.groupOf = s.groupOf := funext (State.groupOf_of_fr h)
  have hfield : t.railField r = s.railField r := by
    rw [State.railField, State.railField, h.obj _ _ _ (by decide), h.obj _ _ _ (by decide)]
  rw [State.recoveryBegun, State.recoveryBegun, hfield, hg, hgroup]

end Sys2Proof.Machine
end


section
/-! PROOF. Accepted writes of time, Praline, the budget exchange, reporting and rails (R207, R219, R220, R314, R316, R321,
R345, R379). -/

namespace Sys2Proof.Machine
open Sys2Proof

theorem State.submit1_refPrefer {s : State} {w : Wr} (h : s.Accepts .REF_PREFER 0 w) {v : Nat}
    (hv : w.val % 2 ^ objBits .REF_PREFER = v) :
    s.WroteOk (s.submit1 .REF_PREFER w) w ∧ (s.submit1 .REF_PREFER w).rd .REF_PREFER = v
      ∧ (s.submit1 .REF_PREFER w).selected
          = if v ≠ 0 ∧ s.refValid (v == 2) = true ∧ s.selected ≠ 0 then refCode (v == 2) else s.selected := by
  have hbase := s.writeBase_fr w.src
  have hstored : State.Keeps [.AUDIT_OK, .REF_STATUS] [] (s.writeBase w.src) ((s.writeBase w.src).wr .REF_PREFER v) :=
    State.wr_frame (by decide) (Fr.refl _)
  have hread : ((s.writeBase w.src).wr .REF_PREFER v).rd .REF_PREFER = v := by
    rw [State.rd_wr_self, ← hv, Nat.mod_mod]
  have hstatus : ((s.writeBase w.src).wr .REF_PREFER v).rd .REF_STATUS = s.rd .REF_STATUS :=
    (hstored.rd (by decide) _ _).trans (hbase.obj _ _ _ (by decide))
  have hprefer := ((s.writeBase w.src).wr .REF_PREFER v).prefer_keeps_objs
  obtain ⟨hok, hfr⟩ := State.submit1_time (u := ((s.writeBase w.src).wr .REF_PREFER v).prefer) (by decide) h
    (by rw [hv]; exact State.effect_store (by decide))
    ((hstored.mono (fun o ho hin => ho (List.mem_cons.2 (.inl (List.mem_singleton.1 hin)))) fun _ => id).trans
      (hprefer.mono (fun o ho hin => ho (List.mem_cons.2 (.inl (List.mem_singleton.1 hin)))) fun _ => id))
  refine ⟨hok, (hfr.obj _ _ _ (by decide)).trans ((hprefer.rd (by decide) _ _).trans hread), ?_⟩
  rw [State.selected_congr (hfr.obj _ _ _ (by decide)), State.prefer_selects hread, State.refValid_congr hstatus,
    State.selected_congr hstatus]

theorem State.submit1_timeSet {s : State} {w : Wr} (h : s.Accepts .TIME_SET 0 w) :
    s.WroteOk (s.submit1 .TIME_SET w) w ∧ (s.submit1 .TIME_SET w).clock.setTo = some (w.val % 2 ^ 64)
      ∧ (s.submit1 .TIME_SET w).T = s.T ∧ s.Counted (s.submit1 .TIME_SET w) .TIME_SETS := by
  have hbase := s.writeBase_fr w.src
  have hbits : objBits .TIME_SET = 64 := by decide
  have hclock : (s.writeBase w.src).clock = s.clock := hbase.part .clock id
  obtain ⟨hset, hcount⟩ := (s.writeBase w.src).acceptTimeSet_effect (w.val % 2 ^ objBits .TIME_SET)
  obtain ⟨hok, hfr⟩ := State.submit1_time (by decide) h (State.effect_store (by decide))
    (State.acceptTimeSet_frame (by decide) (by decide) (by decide) (Fr.refl _))
  have hafter : (s.submit1 .TIME_SET w).clock = { s.clock with setTo := some (w.val % 2 ^ 64) } := by
    refine Eq.trans (hfr.part .clock (by decide)) (hset.trans ?_)
    rw [hclock, hbits, Nat.mod_mod]
  refine ⟨hok, congrArg Clock.setTo hafter, by rw [State.T, hafter]; rfl, ?_⟩
  refine (hfr.obj _ _ _ (by decide)).trans (hcount.trans ?_)
  rw [hbase.obj _ _ _ (by decide)]

theorem State.submit1_timeOffsetAdj {s : State} {w : Wr} (h : s.Accepts .TIME_OFFSET_ADJ 0 w) :
    s.WroteOk (s.submit1 .TIME_OFFSET_ADJ w) w
      ∧ (s.submit1 .TIME_OFFSET_ADJ w).rdInt .TIME_OFFSET_ADJ
          = s.rdInt .TIME_OFFSET_ADJ + toInt 32 (w.val % 2 ^ 32) := by
  have hbase := s.writeBase_fr w.src
  have hbits : objBits .TIME_OFFSET_ADJ = 32 := by decide
  obtain ⟨hok, hfr⟩ := State.submit1_time (by decide) h (State.effect_store (by decide))
    (State.wrInt_frame (by decide) (Fr.refl _))
  obtain ⟨-, -, -, hcheck, -⟩ := h
  have hfits : s.offsetFits (toInt 32 (w.val % 2 ^ 32)) = true := by
    have hbounds := State.boundsOk_of_checkWrite hcheck
    rw [hbits] at hbounds
    exact hbounds
  obtain ⟨hlow, hhigh⟩ := of_decide_eq_true hfits
  have hpending : (s.writeBase w.src).rdInt .TIME_OFFSET_ADJ = s.rdInt .TIME_OFFSET_ADJ :=
    congrArg (toInt _) (hbase.obj _ _ _ (by decide))
  refine ⟨hok, (congrArg (toInt _) (hfr.obj _ _ _ (by decide))).trans ?_⟩
  refine (State.rdInt_wrInt_self _ 0 0 (by decide) ?_ ?_).trans ?_
  · rw [hpending, hbits]
    norm_num
    exact hlow
  · rw [hpending, hbits]
    norm_num
    omega
  · rw [hpending, hbits]

theorem State.submit1_prClear {s : State} {w : Wr} (h : s.Accepts .PR_CLEAR 0 w) (hval : w.val = 1)
    (hidle : s.rd .PR_CLEAR w.el = 0) :
    s.WroteOk (s.submit1 .PR_CLEAR w) w ∧ (s.submit1 .PR_CLEAR w).phase = [] ∧ (s.submit1 .PR_CLEAR w).fon.forceBase = true
      ∧ ∀ g, g < s.rd .NUM_GROUPS →
          (s.submit1 .PR_CLEAR w).rd .PR_GROUP_TABLE g = 0 ∧ ((s.submit1 .PR_CLEAR w).g g).occ = none := by
  have hbase := s.writeBase_fr w.src
  have hkeeps : State.Keeps [.AUDIT_OK] [] (s.writeBase w.src) ((s.writeBase w.src).command .PR_CLEAR w.el 0) := by
    have hclear : State.Keeps [.AUDIT_OK] [] (s.writeBase w.src) (s.writeBase w.src).clearPraline := by
      apply State.clearPraline_frame (h := Fr.refl _) <;> decide
    exact ⟨hclear.obj, hclear.build, fun p hp => absurd List.not_mem_nil hp⟩
  obtain ⟨hok, hfr⟩ := State.submit1_time_command (by decide) (by decide) h hval hidle hkeeps
  have hfon : (s.submit1 .PR_CLEAR w).fon = { (s.writeBase w.src).clearPraline.fon with forceBase := true } :=
    hfr.part .fon (by decide)
  have hphase : (s.submit1 .PR_CLEAR w).phase = (s.writeBase w.src).clearPraline.phase := hfr.part .phase (by decide)
  have hgrp : (s.submit1 .PR_CLEAR w).grp = (s.writeBase w.src).clearPraline.grp := hfr.part .grp (by decide)
  refine ⟨hok, hphase.trans (State.clearPraline_phase _), congrArg Fon.forceBase hfon, fun g hg => ?_⟩
  obtain ⟨htable, hocc⟩ := State.clearPraline_group (s := s.writeBase w.src) (g := g) (by rwa [hbase.obj _ _ _ (by decide)])
  exact ⟨(hfr.obj _ _ _ (by decide)).trans htable, (congrArg Grp.occ (State.g_congr hgrp g)).trans hocc⟩

theorem State.submit1_railRecover {s : State} {w : Wr} (h : s.Accepts .RAIL_RECOVER 0 w) (hval : w.val = 1)
    (hidle : s.rd .RAIL_RECOVER w.el = 0) :
    s.WroteOk (s.submit1 .RAIL_RECOVER w) w
      ∧ ((s.ra w.el).recover = 0 → (s.submit1 .RAIL_RECOVER w).rd .RAIL_RECOVER w.el = 1
          ∧ ((s.submit1 .RAIL_RECOVER w).ra w.el).recover = s.recoveryBegun w.el)
      ∧ ((s.ra w.el).recover ≠ 0 → ((s.submit1 .RAIL_RECOVER w).ra w.el).recover = (s.ra w.el).recover) := by
  have hbase := s.writeBase_fr w.src
  have hra : (s.writeBase w.src).ra w.el = s.ra w.el := congrArg (fun l : Tab Rail => l.get w.el {}) (hbase.part .rail id :)
  obtain ⟨hok, hfr⟩ := State.submit1_time_command (by decide) (by decide) h hval hidle
    (by apply State.acceptRecover_frame (h := Fr.refl _) <;> decide)
  have hafter : (s.submit1 .RAIL_RECOVER w).ra w.el = ((s.writeBase w.src).acceptRecover w.el).ra w.el :=
    congrArg (fun l : Tab Rail => l.get w.el {}) (hfr.part .rail (by decide) :)
  refine ⟨hok, fun hnone => ?_, fun hsome => ?_⟩
  · obtain ⟨hone, hbegun⟩ := State.acceptRecover_begins (hra ▸ hnone)
    exact ⟨(hfr.obj _ _ _ (by decide)).trans hone,
      (congrArg Rail.recover hafter).trans (hbegun.trans (State.recoveryBegun_of_fr hbase _))⟩
  · rw [hafter, State.acceptRecover_goesOn (hra ▸ hsome), hra]

/-- Settles O40: each write is carried out on the state of its port, and what its effect leaves stands beside the audit log and
the answer. -/
theorem timeAndBudgetWritesTakeEffect : Obligations.TimeAndBudgetWritesTakeEffect := by
  unfold Obligations.TimeAndBudgetWritesTakeEffect
  refine ⟨?prefer, ?set, ?offset, ?clear, ?rearm, ?policy, ?load, ?snap, ?recover⟩
  case prefer => exact fun w s h => ⟨_, rfl, State.submit1_refPrefer h rfl⟩
  case set => exact fun w s h => ⟨_, rfl, State.submit1_timeSet h⟩
  case offset => exact fun w s h => ⟨_, rfl, State.submit1_timeOffsetAdj h⟩
  case clear => exact fun w s h hval hidle => ⟨_, rfl, State.submit1_prClear h hval hidle⟩
  case rearm =>
    intro w s h hval hidle
    obtain ⟨hok, hfr⟩ := State.submit1_time_command (by decide) (by decide) h hval hidle
      (State.rearmPraline_frame (by decide) (by decide) (Fr.refl _))
    exact ⟨_, rfl, hok, (State.flag_congr (hfr.obj _ _ _ (by decide)) 0).trans (State.leavesFallback _ _)⟩
  case policy =>
    intro w s h
    obtain ⟨hok, hfr⟩ := State.submit1_time (by decide) h (State.effect_store (by decide))
      (State.writePolicy_frame (by decide) (by decide) (by decide) (Fr.refl _))
    refine ⟨_, rfl, hok, (hfr.obj _ _ _ (by decide)).trans ?_,
      (State.flag_congr (hfr.obj _ _ _ (by decide)) 0).trans (State.leavesFallback _ _)⟩
    exact (State.writePolicy_rd _ _ _).trans (Nat.mod_mod _ _)
  case load =>
    intro w s h
    have hbits : objBits .BX_EPOCH_LOAD = 64 := by decide
    have hbase : (s.writeBase w.src).budget = s.budget := (s.writeBase_fr w.src).part .budget id
    obtain ⟨hok, hfr⟩ := State.submit1_time (by decide) h (State.effect_store (by decide))
      (State.stageLoad_frame (by decide) (by decide) (Fr.refl _))
    have hafter : (s.submit1 .BX_EPOCH_LOAD w).budget
        = ((s.writeBase w.src).stageLoad (w.val % 2 ^ objBits .BX_EPOCH_LOAD)).budget := hfr.part .budget (by decide)
    have hstaged := (s.writeBase w.src).stageLoad_budget (w.val % 2 ^ objBits .BX_EPOCH_LOAD)
    rw [← hafter, hbase, hbits, bits_mod (by decide), bits_mod (by decide)] at hstaged
    exact ⟨_, rfl, hok, hstaged⟩
  case snap =>
    intro w s h hval hidle
    have hkeeps : State.Keeps [.AUDIT_OK] [] (s.writeBase w.src) ((s.writeBase w.src).command .REPORT_SNAP_REQ w.el 0) :=
      State.wr_frame (by decide) ⟨fun _ _ _ _ => rfl, rfl, fun p hp => absurd List.not_mem_nil hp⟩
    obtain ⟨hok, hfr⟩ := State.submit1_time_command (by decide) (by decide) h hval hidle hkeeps
    exact ⟨_, rfl, hok, congrArg Energy.snap (hfr.part .energy (by decide)),
      (hfr.obj _ _ _ (by decide)).trans (State.rd_wr_self _ _ _ _ _)⟩
  case recover => exact fun w s h hval hidle => ⟨_, rfl, State.submit1_railRecover h hval hidle⟩

end Sys2Proof.Machine
end


section
/-! PROOF. Power, the reference and the store at start-up (R202, R473, R478, R490, R498, R499). -/

namespace Sys2Proof.Machine
open Sys2Proof

/-! ### POWER_UP (R344, R498, R499) -/

/-- The reset released, and counted where it is a cold one. -/
def State.countedCold (s : State) : State :=
  ({ s with su := { s.su with released := true } } : State).when (!s.su.warm) fun v => v.inc .COLD_RESETS

/-- The release counted, before the block's own units are ready. -/
def State.countedUp (s : State) : State := s.countedCold.addWrap .REPORT_EPOCH 1

theorem powerUp_releases {s : State} (h : s.su.released = false) :
    exec .powerUp s = .next ((s.countedUp.setReady .aon true).driveAlert).resyncAll := by
  change execPowerUp s = _
  unfold execPowerUp
  rw [h]
  rfl

theorem State.released_rd (s : State) (u : StartUp) (o : Obj) (e i : Nat) : ({ s with su := u } : State).rd o e i = s.rd o e i :=
  State.rd_congr rfl rfl _ _ _

theorem State.countedUp_epoch (s : State) :
    s.countedUp.rd .REPORT_EPOCH = (s.rd .REPORT_EPOCH + 1) % 2 ^ objBits .REPORT_EPOCH := by
  refine (State.rd_wr_self _ _ _ _ _).trans (congrArg (fun k => (k + 1) % 2 ^ objBits .REPORT_EPOCH) ?_)
  refine (State.when_same (·.rd .REPORT_EPOCH) _ (fun t => ?_) _ _).trans (State.released_rd _ _ _ _ _)
  exact State.rd_inc_other t (by decide) _ _ _ _

/-- A cold reset is counted, a warm one is not. -/
theorem State.countedUp_colds (s : State) :
    if s.su.warm then s.countedUp.rd .COLD_RESETS = s.rd .COLD_RESETS else s.Counted s.countedUp .COLD_RESETS := by
  have hepoch : s.countedUp.rd .COLD_RESETS = s.countedCold.rd .COLD_RESETS := State.rd_wr_other _ (by decide) _ _ _ _ _
  unfold State.Counted
  rw [hepoch, State.countedCold]
  split
  · next h =>
    rw [h]
    exact State.released_rd _ _ _ _ _
  · next h =>
    rw [Bool.eq_false_iff.2 h, Bool.not_false, State.when_true, State.rd_inc_self, State.released_rd]

theorem State.powerUp_after (s : State) : State.Keeps [.REPORT_EPOCH, .COLD_RESETS, .UNIT_READY] [.su]
    (s.countedUp.setReady .aon true) ((s.countedUp.setReady .aon true).driveAlert).resyncAll :=
  State.resyncAll_frame (by decide) (by decide) (State.driveAlert_frame (by decide) (Fr.refl _))

theorem State.countedUp_released (s : State) : s.countedUp.su.released = true :=
  State.when_same (fun t : State => t.su.released) (fun v : State => v.inc .COLD_RESETS) (fun _ => rfl) _ _

/-! ### REF_SELECT (R202, R207, R499) -/

/-- CTL runs from the reference first selected. -/
def State.ctlRuns (s : State) : State :=
  ((s.changeSource (if s.refValid false then 1 else 2)).setReady .ctl true).setReady .aonInternal false

theorem refSelect_selects {s : State} (hrun : s.seqRuns = true) (hctl : s.isReady .ctl = false) (hup : 200 ≤ s.up)
    (hvalid : s.refValid false = true ∨ s.refValid true = true) : exec .refSelect s = .next s.ctlRuns.prefer := by
  have hdue : (s.seqRuns && !s.isReady .ctl && decide (200 ≤ s.up) && (s.refValid false || s.refValid true)) = true := by
    rw [hrun, hctl, decide_eq_true hup, Bool.or_eq_true_iff.2 hvalid]
    rfl
  change execRefSelect s = _
  unfold execRefSelect
  rw [hdue, State.when_true]
  rfl

/-- SELECTED and CLOCK_SOURCE agree. -/
def State.runsFromSelected (s : State) : Prop := s.rd .CLOCK_SOURCE = s.selected

theorem State.changeSource_runs (s : State) {v : Nat} (hv : v < 4) : (s.changeSource v).runsFromSelected := by
  have hread : (s.changeSource v).rd .CLOCK_SOURCE = v % 2 ^ objBits .CLOCK_SOURCE := State.rd_wr_self _ _ _ _ _
  have hwide : v < 2 ^ objBits .CLOCK_SOURCE := hv.trans_le (by decide)
  rw [State.runsFromSelected, hread, Nat.mod_eq_of_lt hwide, State.selected_changeSource s hv]

theorem State.runsFromSelected_of_kept {s t : State} (h : State.Keeps [.REF_STATUS, .CLOCK_SOURCE] [] s t)
    (hs : s.runsFromSelected) : t.runsFromSelected := by
  rw [State.runsFromSelected, h.rd (by decide), State.selected_congr (h.rd (by decide) _ _)]
  exact hs

theorem refCode_lt (b : Bool) : refCode b < 4 := by cases b <;> decide

theorem State.switchTo_runs (s : State) (b : Bool) : (s.switchTo b).runsFromSelected := by
  refine State.runsFromSelected_of_kept ?_ (s.changeSource_runs (refCode_lt b))
  have hevent : State.Keeps [.REF_STATUS, .CLOCK_SOURCE] [] (s.changeSource (refCode b))
      (((s.changeSource (refCode b)).inc .REF_SWITCHES).event 0x11 0xFFFF (refCode b) s.refs.injSpan) := by
    apply State.event_frame (h := State.inc_frame (by decide) (Fr.refl _)) <;> decide
  exact State.launchSwitch_frame (by decide) (by decide) (by decide) hevent

theorem State.prefer_runs {s : State} (h : s.runsFromSelected) : s.prefer.runsFromSelected := by
  unfold State.prefer State.when
  dsimp only
  split
  · exact s.switchTo_runs _
  · exact h

theorem State.ctlRuns_after (s : State) :
    State.Keeps [.REF_STATUS, .CLOCK_SOURCE, .REF_PREFER] [] (s.changeSource (if s.refValid false then 1 else 2)) s.ctlRuns :=
  State.setReady_frame (by decide) (State.setReady_frame (by decide) (Fr.refl _))

theorem firstSource_lt (b : Bool) : (if b then 1 else 2) < 4 := by cases b <;> decide

theorem State.ctlRuns_selected (s : State) : s.ctlRuns.selected = if s.refValid false then 1 else 2 :=
  (State.selected_congr (s.ctlRuns_after.rd (by decide) _ _)).trans (State.selected_changeSource s (firstSource_lt _))

theorem State.ctlRuns_valid (s : State) (b : Bool) : s.ctlRuns.refValid b = s.refValid b := by
  have hstatus : s.ctlRuns.rd .REF_STATUS = (s.changeSource (if s.refValid false then 1 else 2)).rd .REF_STATUS :=
    s.ctlRuns_after.rd (by decide) 0 0
  exact (State.refValid_congr hstatus b).trans (s.flag_changeSource _ (besideSelected_valid b))

/-- Reference A is first selected where it is valid, B where A is not; the preferred one is taken where both are. -/
theorem State.refSelected (s : State) (hvalid : s.refValid false = true ∨ s.refValid true = true) :
    s.ctlRuns.prefer.selected
      = if s.refValid false = true ∧ ¬(s.rd .REF_PREFER = 2 ∧ s.refValid true = true) then 1 else 2 := by
  have hread : s.ctlRuns.rd .REF_PREFER = s.rd .REF_PREFER := by
    have hsource : State.Keeps [.REF_PREFER] [] s (s.changeSource (if s.refValid false then 1 else 2)) := by
      apply State.changeSource_frame (h := Fr.refl s) <;> decide
    exact (s.ctlRuns_after.rd (by decide) _ _).trans (hsource.rd (by decide) _ _)
  rw [State.prefer_selects hread, s.ctlRuns_selected, s.ctlRuns_valid]
  by_cases hB : s.rd .REF_PREFER = 2
  · rw [hB]
    cases hb : s.refValid true with
    | true => cases s.refValid false <;> simp [hb, refCode]
    | false =>
      have hA : s.refValid false = true := hvalid.resolve_right (by rw [hb]; exact Bool.false_ne_true)
      simp [hA, hb]
  · have hnot : (s.rd .REF_PREFER == 2) = false := by simpa using hB
    rw [hnot]
    cases hA : s.refValid false <;> simp [hB, refCode]

end Sys2Proof.Machine
end


section
/-! PROOF. The store found at start-up (R473, R478, R490). -/

namespace Sys2Proof.Machine
open Sys2Proof

/-! ### The devices (R473) -/

/-- A device that is large enough and was not swapped is found as it was. -/
theorem State.discover_whole {s : State} (d : Nat) {x : FlashDev} (h : 32768 ≤ x.sectors) (hswap : x.swapped = none) :
    s.discover d x = ({ s with flash := if d = 0 then { s.flash with sectorsA := x.sectors }
      else { s.flash with sectorsB := x.sectors } } : State).wr
        (if d = 0 then .FN_DEV_A_SECTORS else .FN_DEV_B_SECTORS) x.sectors := by
  unfold State.discover
  rw [hswap, decide_eq_false (by omega)]
  rfl

theorem State.rd_discover_whole {s : State} (d : Nat) {x : FlashDev} (h : 32768 ≤ x.sectors) (hswap : x.swapped = none) :
    (s.discover d x).rd .FN_STATUS = s.rd .FN_STATUS := by
  rw [State.discover_whole d h hswap]
  refine (State.rd_wr_other _ ?_ _ _ _ _ _).trans (State.rd_congr rfl rfl _ _ _)
  split <;> decide

/-- Both devices found. -/
def State.discovered (s : State) (a b : FlashDev) : State := (s.discover 0 a).discover 1 b

theorem State.discovered_whole {s : State} {a b : FlashDev} (ha : 32768 ≤ a.sectors) (hb : 32768 ≤ b.sectors)
    (haswap : a.swapped = none) (hbswap : b.swapped = none) :
    (s.discovered a b).flash = { s.flash with sectorsA := a.sectors, sectorsB := b.sectors }
      ∧ (s.discovered a b).rd .FN_STATUS = s.rd .FN_STATUS := by
  refine ⟨?_, (State.rd_discover_whole 1 hb hbswap).trans (State.rd_discover_whole 0 ha haswap)⟩
  unfold State.discovered
  rw [State.discover_whole 1 hb hbswap, State.discover_whole 0 ha haswap]
  rfl

theorem State.devOk_congr {s t : State} (h : t.rd .FN_STATUS = s.rd .FN_STATUS) (d : Nat) : t.devOk d = s.devOk d :=
  congrArg (!·) (State.flag_congr h (5 + d))

/-- A device that fails goes out of service, and no other does. -/
theorem State.devOk_failDevice (s : State) (inj : Bool) {d e : Nat} (hd : d < 2) (he : e < 2) :
    (s.failDevice d inj).devOk e = (e != d && s.devOk e) := by
  have hevent : ∀ t : State, (t.event 0x40 0xFFFF d inj).rd .FN_STATUS = t.rd .FN_STATUS := fun t => by
    have hkept : State.Keeps [.FN_STATUS] [] t (t.event 0x40 0xFFFF d inj) := by
      apply State.event_frame (h := Fr.refl t) <;> decide
    exact hkept.rd (by decide) 0 0
  have hsize : ∀ t : State, (t.wr (if d = 0 then .FN_DEV_A_SECTORS else .FN_DEV_B_SECTORS) 0).flag .FN_STATUS (5 + e)
      = t.flag .FN_STATUS (5 + e) := fun t => by
    refine State.flag_congr (State.rd_wr_other t ?_ _ _ _ _ _) _
    split <;> decide
  have hwide : 7 < objBits .FN_STATUS := by decide
  rw [State.devOk, State.failDevice, State.flag_congr (hevent _), State.flag_setFlag_other _ _ _ (by omega) (by omega),
    hsize]
  by_cases hed : e = d
  · subst hed
    rw [State.flag_setFlag_self _ _ _ (by omega), bne_self_eq_false]
    rfl
  · rw [State.flag_setFlag_other _ _ _ (by omega) (by omega), bne_iff_ne.2 hed, Bool.true_and]
    rfl

/-- A device too small goes out of service, and the other stays as it is. -/
theorem State.devOk_discover_small {s : State} {d e : Nat} {x : FlashDev} (hd : d < 2) (he : e < 2) (h : x.sectors < 32768) :
    (s.discover d x).devOk e = (e != d && s.devOk e) := by
  unfold State.discover
  rw [decide_eq_true h, State.when_true, State.devOk_failDevice _ _ hd he]
  refine congrArg (e != d && ·) (State.devOk_congr ?_ e)
  refine (State.rd_wr_other _ ?_ _ _ _ _ _).trans (State.rd_congr rfl rfl _ _ _)
  split <;> decide

/-! ### An erased store (R490) -/

/-- Two erased devices are formatted. -/
theorem State.compareSuper_erased {s : State} (h0 : s.devOk 0 = true) (h1 : s.devOk 1 = true) (hA : s.flash.superA = 0)
    (hB : s.flash.superB = 0) : s.compareSuper = s.formatBoth := by
  unfold State.compareSuper
  dsimp only
  rw [if_pos h0, if_pos h1, hA, hB]
  exact if_pos rfl

theorem State.formatBoth_facts {s : State} (h0 : s.devOk 0 = true) (h1 : s.devOk 1 = true) :
    s.formatBoth.flash.ring = min s.flash.sectorsA s.flash.sectorsB - 16 ∧ s.formatBoth.flash.journal = []
      ∧ s.formatBoth.fon.credit = 2048 ∧ s.formatBoth.rd .FN_STATUS = s.rd .FN_STATUS := by
  have hkept : State.Keeps [.FN_STATUS] [] s s.formatBoth := by
    apply State.formatBoth_frame (h := Fr.refl s) <;> decide
  refine ⟨?_, rfl, rfl, hkept.rd (by decide) 0 0⟩
  unfold State.formatBoth
  rw [h0, h1]
  rfl

theorem State.adoptHead_of_empty {s : State} (h : s.flash.journal = []) : s.adoptHead = s := by
  rw [State.adoptHead, h]
  rfl

/-- The mount of an empty ring leaves it. -/
theorem State.mountStore_empty {s : State} (h : s.flash.journal = []) :
    s.mountStore.flash.journal = [] ∧ s.mountStore.flash.ring = s.flash.ring ∧ s.mountStore.fon.credit = s.fon.credit := by
  have hread : ∀ u : State, u.flash.journal = [] → u.flash.ring = s.flash.ring → u.fon.credit = s.fon.credit →
      u.adoptHead.readLifecycle.flash.journal = [] ∧ u.adoptHead.readLifecycle.flash.ring = s.flash.ring
        ∧ u.adoptHead.readLifecycle.fon.credit = s.fon.credit := fun u hjournal hring hcredit => by
    rw [State.adoptHead_of_empty hjournal]
    exact ⟨hjournal, hring, hcredit⟩
  have hhead : s.findHead s.flash.journal.length s.flash.journal 0 = ([], 0) := by
    rw [h]
    rfl
  unfold State.mountStore
  dsimp only
  rw [hhead]
  exact hread _ rfl rfl rfl

/-! ### FONDANT_MOUNT (R473, R478, R490, R499) -/

/-- The SUPER records compared where a device is in service. -/
def State.compared (s : State) : State := if s.devOk 0 || s.devOk 1 then s.compareSuper else s

/-- The store can be used. -/
def State.storeUsable (s : State) : Bool := (s.devOk 0 || s.devOk 1) && !s.flag .FN_STATUS 8

/-- The store mounted where it can be used. -/
def State.storeRead (s : State) : State := if s.storeUsable then s.mountStore.setFlag .FN_STATUS 0 true else s

/-- The mount ends: Fondant sets where the store can be used, and the sync port opens. -/
def State.endMount (s : State) (up : Bool) (late : Nat) : State :=
  let t := s.wr .FN_RING s.flash.ring
  (({ t with fon := { t.fon with mountEnded := true, mountLate := late } } : State).setReady .fondant up).setReady .sync true

theorem fondantMount_mounts {a b : FlashDev} {s : State} (hrun : s.seqRuns = true) (hctl : s.isReady .ctl = true)
    (hend : s.fon.mountEnded = false) : exec (.fondantMount a b) s
      = .next ((s.discovered a b).compared.storeRead.endMount (s.discovered a b).compared.storeUsable (s.up - 1000)) := by
  change execFondantMount a b s = _
  unfold execFondantMount
  rw [hrun, hctl, hend]
  rfl

theorem State.endMount_facts (s : State) (up : Bool) (late : Nat) :
    (s.endMount up late).fon.mountEnded = true ∧ (s.endMount up late).isReady .sync = true
      ∧ (s.endMount up late).isReady .fondant = up ∧ (s.endMount up late).flash = s.flash
      ∧ (s.endMount up late).fon.credit = s.fon.credit
      ∧ (s.endMount up late).flag .FN_STATUS 0 = s.flag .FN_STATUS 0 := by
  refine ⟨rfl, State.isReady_setReady_self _ _ _, ?_, rfl, rfl, ?_⟩
  · exact (State.isReady_setReady_other _ _ (by decide)).trans (State.isReady_setReady_self _ _ _)
  · refine (State.flag_setReady _ _ _ (by decide) _).trans ((State.flag_setReady _ _ _ (by decide) _).trans ?_)
    exact State.flag_congr ((State.rd_congr rfl rfl _ _ _).trans (State.rd_wr_other s (by decide) _ _ _ _ _)) 0

/-- Two erased devices large enough are formatted and mounted. -/
theorem State.mount_erased {s : State} {a b : FlashDev} (ha : 32768 ≤ a.sectors) (hb : 32768 ≤ b.sectors)
    (haswap : a.swapped = none) (hbswap : b.swapped = none) (hA : s.flash.superA = 0) (hB : s.flash.superB = 0)
    (h0 : s.devOk 0 = true) (h1 : s.devOk 1 = true) (hown : s.flag .FN_STATUS 8 = false) :
    (s.discovered a b).compared.storeUsable = true
      ∧ (s.discovered a b).compared.storeRead.flag .FN_STATUS 0 = true
      ∧ (s.discovered a b).compared.storeRead.flash.ring = min a.sectors b.sectors - 16
      ∧ (s.discovered a b).compared.storeRead.flash.journal = []
      ∧ (s.discovered a b).compared.storeRead.fon.credit = 2048 := by
  obtain ⟨hflash, hstatus⟩ := State.discovered_whole (s := s) ha hb haswap hbswap
  generalize s.discovered a b = t at hflash hstatus
  have ht0 : t.devOk 0 = true := (State.devOk_congr hstatus 0).trans h0
  have ht1 : t.devOk 1 = true := (State.devOk_congr hstatus 1).trans h1
  have hcompared : t.compared = t.formatBoth := by
    rw [State.compared, ht0, Bool.true_or, if_pos rfl]
    exact State.compareSuper_erased ht0 ht1 (by rw [hflash]; exact hA) (by rw [hflash]; exact hB)
  obtain ⟨hring, hjournal, hcredit, hkept⟩ := State.formatBoth_facts ht0 ht1
  rw [hcompared]
  have husable : t.formatBoth.storeUsable = true := by
    rw [State.storeUsable, State.devOk_congr hkept, ht0, State.flag_congr hkept, State.flag_congr hstatus,
      hown]
    rfl
  obtain ⟨hmjournal, hmring, hmcredit⟩ := State.mountStore_empty hjournal
  rw [State.storeRead, husable, if_pos rfl]
  refine ⟨rfl, State.flag_setFlag_self _ _ _ (by decide), hmring.trans ?_, hmjournal, hmcredit.trans hcredit⟩
  rw [hring, hflash]

/-- Two devices too small leave no store to use. -/
theorem State.mount_failed {s : State} {a b : FlashDev} (ha : a.sectors < 32768) (hb : b.sectors < 32768) :
    (s.discovered a b).compared.storeUsable = false := by
  have h0 : (s.discovered a b).devOk 0 = false := by
    rw [State.discovered, State.devOk_discover_small (by decide) (by decide) hb,
      State.devOk_discover_small (by decide) (by decide) ha]
    rfl
  have h1 : (s.discovered a b).devOk 1 = false := by
    rw [State.discovered, State.devOk_discover_small (by decide) (by decide) hb]
    rfl
  have hcompared : (s.discovered a b).compared = s.discovered a b := by
    rw [State.compared, h0, h1]
    rfl
  rw [hcompared, State.storeUsable, h0, h1]
  rfl

end Sys2Proof.Machine
end


section
/-! PROOF. The excluded map, the cold calibration and the first steps of start-up (R481, R499, R501, R503, R504). -/

namespace Sys2Proof.Machine
open Sys2Proof

/-! ### EXCLUDED_MAP_APPLY (R481, R501) -/

/-- The newest map restored. -/
def State.mapRestored (s : State) : State := s.restoreStage fun o => o == .EXCLUDED_MAP

/-- A region of the map excluded from the arm. -/
def State.excludeByMap (s : State) (n : Nat) : State := (s.wr .REGION_EXCLUDE_CAUSE 4 n).wr .REGION_EXCLUDED_ACTIVE 1 n

/-- The map applied, and the step noted. -/
def State.mapApplied (s : State) : State :=
  let u := s.mapRestored
  let v := u.each (u.regions.filter fun n => bit (u.rd .EXCLUDED_MAP) n) State.excludeByMap
  { v with su := { v.su with excludedApplied := true } }

theorem excludedMapApply_applies {s : State} (hrun : s.seqRuns = true) (hend : s.fon.mountEnded = true)
    (hfirst : s.su.excludedApplied = false) : exec .excludedMapApply s = .next s.mapApplied.loadStart := by
  have hdue : (s.seqRuns && s.fon.mountEnded && !s.su.excludedApplied) = true := by
    rw [hrun, hend, hfirst]
    rfl
  change execExcludedMapApply s = _
  unfold execExcludedMapApply
  rw [hdue, State.when_true]
  rfl

theorem State.rd_withFon (s : State) (f : Fon) (o : Obj) (e i : Nat) : ({ s with fon := f } : State).rd o e i = s.rd o e i :=
  State.rd_congr rfl rfl _ _ _

/-- What the START stage leaves alone. -/
theorem State.loadStart_rd (s : State) {o : Obj} (ho : o ≠ .FN_STATUS) (hstage : restored (fun x => recType x == 3) o = false)
    (hcurve : restored (fun x => x == .CAL_CURVE) o = false) (e : Nat) : s.loadStart.rd o e = s.rd o e := by
  unfold State.loadStart
  extract_lets s1 ext s2
  have hfirst : s1.rd o e = s.rd o e := (s.restoreStage_fr _).obj o e 0 (by rw [hstage]; exact Bool.false_ne_true)
  have hsecond : (s1.restoreStage fun x => x == .CAL_CURVE).rd o e = s1.rd o e :=
    (s1.restoreStage_fr _).obj o e 0 (by rw [hcurve]; exact Bool.false_ne_true)
  exact (s2.rd_withFon _ o e 0).trans ((State.rd_setFlag_other _ ho _ _ _).trans (hsecond.trans hfirst))

theorem State.loadStart_su (s : State) : s.loadStart.su = s.su := by
  unfold State.loadStart
  extract_lets s1 ext s2
  have hfirst : s1.su = s.su := (s.restoreStage_fr _).part .su (by decide)
  have hsecond : (s1.restoreStage fun x => x == .CAL_CURVE).su = s1.su := (s1.restoreStage_fr _).part .su (by decide)
  have hflag : s2.su = (s1.restoreStage fun x => x == .CAL_CURVE).su := State.setFlag_su _ _ _ _ _
  exact hflag.trans (hsecond.trans hfirst)

theorem State.loadStart_flag (s : State) : s.loadStart.flag .FN_STATUS 1 = true := by
  unfold State.loadStart
  extract_lets s1 ext s2
  exact (State.flag_congr (s2.rd_withFon _ _ _ _) 1).trans (State.flag_setFlag_self _ _ _ (by decide))

/-- Region `n` is excluded by the map. -/
def State.ExcludedByMap (n : Nat) (s : State) : Prop := s.rd .REGION_EXCLUDED_ACTIVE n = 1 ∧ s.rd .REGION_EXCLUDE_CAUSE n = 4

theorem State.excludeByMap_self (s : State) (n : Nat) : State.ExcludedByMap n (s.excludeByMap n) :=
  ⟨State.rd_wr_self _ _ _ _ _, (State.rd_wr_other _ (by decide) _ _ _ _ _).trans (State.rd_wr_self _ _ _ _ _)⟩

theorem State.excludeByMap_keep {s : State} {n : Nat} (m : Nat) (h : State.ExcludedByMap n s) :
    State.ExcludedByMap n (s.excludeByMap m) := by
  by_cases hnm : n = m
  · exact hnm ▸ s.excludeByMap_self n
  · obtain ⟨hactive, hcause⟩ := h
    unfold State.ExcludedByMap State.excludeByMap
    rw [State.rd_wr_elem _ hnm, State.rd_wr_other _ (by decide), State.rd_wr_other _ (by decide), State.rd_wr_elem _ hnm]
    exact ⟨hactive, hcause⟩

theorem State.mapRestored_regions (s : State) : s.mapRestored.regions = s.regions := by
  have h := s.restoreStage_fr fun o => o == .EXCLUDED_MAP
  have hnum : s.mapRestored.numRegions = s.numRegions := h.obj .NUM_REGIONS 0 0 (by decide)
  have hpresent : s.mapRestored.present = s.present := funext fun n => by
    rw [State.present, State.present, hnum]
    exact congrArg (fun k => decide (n < s.numRegions) && k == 1) (h.obj .REGION_PRESENT n 0 (by decide))
  rw [State.regions, State.regions, hnum, hpresent]

theorem State.mapApplied_map (s : State) : s.mapApplied.rd .EXCLUDED_MAP = s.mapRestored.rd .EXCLUDED_MAP := by
  have hexclude : ∀ t : State, ∀ n, (t.excludeByMap n).rd .EXCLUDED_MAP = t.rd .EXCLUDED_MAP := fun t n =>
    (State.rd_wr_other _ (by decide) _ _ _ _ _).trans (State.rd_wr_other _ (by decide) _ _ _ _ _)
  exact (State.rd_congr rfl rfl _ _ _).trans (State.each_same (·.rd .EXCLUDED_MAP) State.excludeByMap hexclude _ _)

/-- Every present region of the map is excluded. -/
theorem State.mapApplied_excludes {s : State} {n : Nat} (hn : n ∈ s.regions)
    (hbit : bit (s.mapRestored.rd .EXCLUDED_MAP) n = true) : State.ExcludedByMap n s.mapApplied := by
  have hmem : n ∈ s.mapRestored.regions.filter fun n => bit (s.mapRestored.rd .EXCLUDED_MAP) n :=
    List.mem_filter.2 ⟨s.mapRestored_regions ▸ hn, hbit⟩
  have hdone := State.each_establishes (P := State.ExcludedByMap n) hmem (fun t => t.excludeByMap_self n)
    (fun _ m h => State.excludeByMap_keep m h) s.mapRestored
  exact ⟨(State.rd_congr rfl rfl _ _ _).trans hdone.1, (State.rd_congr rfl rfl _ _ _).trans hdone.2⟩

/-! ### COLD_CALIBRATION (R503, R504) -/

/-- The rails of every field at the last of its codes. -/
def State.lastCodes (s : State) : State := s.each s.fields fun v f => v.requestVolt f (v.calCode f 3)

theorem coldCalibration_calibrates {m : CalMeas} {s : State} (hrun : s.seqRuns = true) (hdue : s.coldCalibrating = true)
    (hlive : s.live m.region = true) : ∃ u : State, exec (.coldCalibration [m]) s
      = .next { u with su := { u.su with coldCalDone := true }, fon := { u.fon with curves := true } }
        ∧ State.Keeps [.DS_LINE_TRIM, .CAL_CURVE] [.ts] (s.calRegion [m] m) u := by
  have hone : ([m].filter fun m => s.live m.region) = [m] :=
    List.filter_eq_self.2 fun x hx => (List.mem_singleton.1 hx).symm ▸ hlive
  have hcodes : State.Keeps [.DS_LINE_TRIM, .CAL_CURVE] [.ts] (s.calRegion [m] m)
      (([m].foldl (fun v x => v.calRegion [m] x) s).each s.fields fun v f => v.requestVolt f (v.calCode f 3)) :=
    State.each_kept (Fr.refl _) fun _ _ h => by apply State.requestVolt_frame (h := h) <;> decide
  refine ⟨_, ?_, hcodes⟩
  change execColdCalibration [m] s = _
  unfold execColdCalibration
  rw [hrun, hdue, Bool.and_true, State.when_true]
  dsimp only
  rw [hone]
  rfl

/-- The bytes above the first two of a provisional curve. -/
theorem provisional_rest (p : Nat → Nat) (l : List Nat) {a : Nat} (h : 2 ^ 16 ∣ a) :
    2 ^ 16 ∣ l.foldl (fun a i => a + p i * 2 ^ (64 + 1088 * i)) a := by
  induction l generalizing a with
  | nil => exact h
  | cons i rest ih => exact ih (Dvd.dvd.add h (Dvd.dvd.mul_left (pow_dvd_pow 2 (by omega)) _))

/-- A provisional curve is of format 1, with 4 points. -/
theorem State.provisional_format (s : State) (m : CalMeas) (tempco : Nat) :
    ∃ k, s.provisional m tempco = 1025 + 65536 * k := by
  obtain ⟨k, hk⟩ := provisional_rest (fun i => pointBytes (s.calCode (fieldOf m.region) i) (m.freqs.getD i [])) (List.range 4)
    (a := 0) (Nat.dvd_zero _)
  refine ⟨ofInt 16 m.temp + tempco * 2 ^ 16 + k, ?_⟩
  unfold State.provisional
  rw [hk]
  ring

theorem bytesAt_format (k : Nat) : bytesAt (1025 + 65536 * k) 0 1 = 1 ∧ bytesAt (1025 + 65536 * k) 1 1 = 4 := by
  unfold bytesAt bits
  omega

/-- The curve and the line trims of a measured region. -/
def State.setCurve (s : State) (m : CalMeas) : State :=
  ((s.free 64 16).2.wr .CAL_CURVE (s.provisional m (s.free 64 16).1) m.region).wr .DS_LINE_TRIM m.trims m.region

/-- The offset of sensor `i` of region `n` set. -/
def State.setOffset (s : State) (n : Nat) (z : Nat → Int) (i : Nat) : State := s.modTs n i fun x => { x with offset := z i }

theorem State.calRegion_eq (s : State) (meas : List CalMeas) (m : CalMeas) : s.calRegion meas m
    = (s.setCurve m).each (List.range (min m.sensors.length ((s.setCurve m).rd .TS_COUNT m.region))) fun u i =>
        u.setOffset m.region (fun i => s.calMean meas (fieldOf m.region) - m.sensors.getD i 0) i := rfl

theorem State.calRegion_rd (s : State) (meas : List CalMeas) (m : CalMeas) (o : Obj) (e : Nat) :
    (s.calRegion meas m).rd o e = (s.setCurve m).rd o e := by
  rw [State.calRegion_eq]
  exact State.each_same (·.rd o e) _ (fun t i => State.rd_modTs _ _ _ _ _ _ _) _ _

/-- The calibration leaves the line trims and a curve of format 1 with 4 points. -/
theorem State.calRegion_curve (s : State) (meas : List CalMeas) (m : CalMeas) :
    (s.calRegion meas m).rd .DS_LINE_TRIM m.region = m.trims % 2 ^ objBits .DS_LINE_TRIM
      ∧ (s.calRegion meas m).rdBytes .CAL_CURVE m.region 0 1 = 1
      ∧ (s.calRegion meas m).rdBytes .CAL_CURVE m.region 1 1 = 4 := by
  have hcurve : (s.calRegion meas m).rd .CAL_CURVE m.region = s.provisional m (s.free 64 16).1 % 2 ^ objBits .CAL_CURVE :=
    (s.calRegion_rd meas m _ _).trans ((State.rd_wr_other _ (by decide) _ _ _ _ _).trans (State.rd_wr_self _ _ _ _ _))
  obtain ⟨k, hk⟩ := s.provisional_format m (s.free 64 16).1
  obtain ⟨hformat, hpoints⟩ := bytesAt_format k
  refine ⟨(s.calRegion_rd meas m _ _).trans (State.rd_wr_self _ _ _ _ _), ?_, ?_⟩
  · rw [State.rdBytes, hcurve, bytesAt, bits_mod (by decide), hk]
    exact hformat
  · rw [State.rdBytes, hcurve, bytesAt, bits_mod (by decide), hk]
    exact hpoints

theorem State.setOffset_offset (s : State) (n : Nat) (z : Nat → Int) (i j : Nat) :
    ((s.setOffset n z j).tsOf n i).offset = if i = j then z j else (s.tsOf n i).offset := by
  have hread : (s.setOffset n z j).tsOf n i = if 8 * n + i = 8 * n + j then { s.tsOf n j with offset := z j } else s.tsOf n i :=
    Tab.get_set _ _ _ _ _
  rw [hread]
  by_cases h : i = j
  · rw [if_pos h, if_pos (by rw [h])]
  · rw [if_neg h, if_neg (by omega)]

/-- Each sensor's offset brings its reading to the mean of its field. -/
theorem State.calRegion_offset {s : State} {meas : List CalMeas} {m : CalMeas} {i : Nat} {x : Int}
    (hi : i < s.rd .TS_COUNT m.region) (hx : m.sensors[i]? = some x) :
    ((s.calRegion meas m).tsOf m.region i).offset + x = s.calMean meas (fieldOf m.region) := by
  have hcount : (s.setCurve m).rd .TS_COUNT m.region = s.rd .TS_COUNT m.region :=
    (State.rd_wr_other _ (by decide) _ _ _ _ _).trans
      ((State.rd_wr_other _ (by decide) _ _ _ _ _).trans (State.rd_free _ _ _ _ _ _))
  obtain ⟨hlt, -⟩ := List.getElem?_eq_some_iff.1 hx
  have hmem : i ∈ List.range (min m.sensors.length ((s.setCurve m).rd .TS_COUNT m.region)) := by
    rw [hcount]
    exact List.mem_range.2 (Nat.lt_min.2 ⟨hlt, hi⟩)
  have hoffset : ((s.calRegion meas m).tsOf m.region i).offset = s.calMean meas (fieldOf m.region) - m.sensors.getD i 0 := by
    rw [State.calRegion_eq]
    refine State.each_establishes
      (P := fun t => (t.tsOf m.region i).offset = s.calMean meas (fieldOf m.region) - m.sensors.getD i 0)
      hmem (fun t => ?_) (fun t j h => ?_) _
    · rw [State.setOffset_offset, if_pos rfl]
    · rw [State.setOffset_offset]
      split
      · next hij => rw [hij]
      · exact h
  rw [hoffset, List.getD_eq_getElem?_getD, hx, Option.getD_some]
  omega

/-! ### The statement -/

/-- Settles O54: the first steps of start-up, each from the state in which it is due. -/
theorem startUpBeginsWithPowerAndStore : Obligations.StartUpBeginsWithPowerAndStore := by
  unfold Obligations.StartUpBeginsWithPowerAndStore
  refine ⟨?power, ?ref, ?mount, ?map, ?calibration⟩
  case power =>
    intro s h
    have hafter := s.powerUp_after
    have haon : ∀ o, o ≠ .UNIT_READY → (s.countedUp.setReady .aon true).rd o = s.countedUp.rd o := fun o ho =>
      State.rd_setReady _ _ _ ho 0 0
    refine ⟨_, powerUp_releases h, ?_, ?_, ?_, ?_⟩
    · exact (congrArg StartUp.released (hafter.same .su (by decide))).trans s.countedUp_released
    · exact (State.isReady_congr (hafter.rd (by decide) 0 0) _).trans (State.isReady_setReady_self _ _ _)
    · rw [hafter.rd (by decide), haon _ (by decide)]
      exact s.countedUp_epoch
    · unfold State.Counted
      rw [hafter.rd (by decide), haon _ (by decide)]
      exact s.countedUp_colds
  case ref =>
    intro s hrun hctl hup hvalid
    have hunits : ∀ r, s.ctlRuns.prefer.isReady r = s.ctlRuns.isReady r := fun r => by
      have hkept : State.Keeps [.UNIT_READY] [] s.ctlRuns s.ctlRuns.prefer := by
        apply State.prefer_frame (h := Fr.refl _) <;> decide
      exact State.isReady_congr (hkept.rd (by decide) 0 0) r
    refine ⟨_, refSelect_selects hrun hctl hup hvalid, ?_, ?_, s.refSelected hvalid, ?_⟩
    · exact (hunits _).trans ((State.isReady_setReady_other _ _ (by decide)).trans (State.isReady_setReady_self _ _ _))
    · exact (hunits _).trans (State.isReady_setReady_self _ _ _)
    · exact State.prefer_runs (State.runsFromSelected_of_kept
        (s.ctlRuns_after.mono (fun o ho hin => ho (List.mem_of_mem_take (i := 2) hin)) fun _ => id)
        (s.changeSource_runs (firstSource_lt _)))
  case mount =>
    intro a b s hrun hctl hend
    obtain ⟨hended, hsync, hfondant, hflash, hcredit, hmounted⟩ := (s.discovered a b).compared.storeRead.endMount_facts
      (s.discovered a b).compared.storeUsable (s.up - 1000)
    refine ⟨_, fondantMount_mounts hrun hctl hend, hended, hsync, ?_, fun ha hb => hfondant.trans (State.mount_failed ha hb)⟩
    intro ha hb haswap hbswap hA hB h0 h1 hown
    obtain ⟨husable, hflag, hring, hjournal, hfull⟩ := State.mount_erased ha hb haswap hbswap hA hB h0 h1 hown
    exact ⟨hfondant.trans husable, hmounted.trans hflag, (congrArg Flash.ring hflash).trans hring,
      (congrArg Flash.journal hflash).trans hjournal, hcredit.trans hfull⟩
  case map =>
    intro s hrun hend hfirst
    refine ⟨_, excludedMapApply_applies hrun hend hfirst, congrArg StartUp.excludedApplied s.mapApplied.loadStart_su,
      State.loadStart_flag _, fun n hn hbit => ?_⟩
    have hmap : s.mapApplied.loadStart.rd .EXCLUDED_MAP = s.mapRestored.rd .EXCLUDED_MAP :=
      (State.loadStart_rd _ (by decide) (by decide) (by decide) 0).trans s.mapApplied_map
    rw [hmap] at hbit
    obtain ⟨hactive, hcause⟩ := State.mapApplied_excludes hn hbit
    exact ⟨(State.loadStart_rd _ (by decide) (by decide) (by decide) n).trans hactive,
      (State.loadStart_rd _ (by decide) (by decide) (by decide) n).trans hcause⟩
  case calibration =>
    intro m s hrun hdue hlive
    obtain ⟨u, hexec, hkept⟩ := coldCalibration_calibrates hrun hdue hlive
    obtain ⟨htrims, hformat, hpoints⟩ := s.calRegion_curve [m] m
    have hcurve : u.rd .CAL_CURVE m.region = (s.calRegion [m] m).rd .CAL_CURVE m.region := hkept.rd (by decide) _ _
    have hts : ∀ i, u.tsOf m.region i = (s.calRegion [m] m).tsOf m.region i := fun i =>
      congrArg (fun l : Tab Ts => l.get (8 * m.region + i) {}) (hkept.same .ts (by decide) :)
    refine ⟨_, hexec, rfl, rfl, (hkept.rd (by decide) _ _).trans htrims, ?_, ?_, fun i x hi hx => ?_⟩
    · exact (congrArg (bytesAt · 0 1) hcurve).trans hformat
    · exact (congrArg (bytesAt · 1 1) hcurve).trans hpoints
    · exact (congrArg (fun y : Ts => y.offset + x) (hts i)).trans (State.calRegion_offset hi hx)

end Sys2Proof.Machine
end
